-- ==== Sys2Proof/Word.lean ====
section
/-! DEFINITION. Bytes and the plainest arithmetic of message fields (spec/00_scope.md R10: little-endian). -/
namespace Sys2Proof

/-- One byte of a message, a register file or a memory. -/
abbrev Byte := BitVec 8

/-- A message, a block or a buffer, first byte first. -/
abbrev Bytes := List Byte

/-- A table kept as its entries in strictly rising key order; a key that is not listed has the table's default value. -/
abbrev Tab (α : Type) := List (Nat × α)

end Sys2Proof
end

