-- ==== Sys2Proof/Syntax.lean ====
section
/-! DEFINITION. The commands of the block: one constructor of Instr for each row of spec/opcode_table.json, with its operands. -/
namespace Sys2Proof

/-- Sender of an in-band management datagram (16 R676). -/
structure InbandSender where
  /-- IP address in network order. -/
  address : Bytes
  /-- UDP port. -/
  udp : Nat
deriving DecidableEq, Repr

/-- How a request reached the block: a request ring, the service port or the in-band management flow (02 R80, R122; 16 R675). -/
inductive Carrier where
  | ring (r : Nat)
  | service
  | inband (s : InbandSender)
deriving DecidableEq, Repr

/-- What makes a request one that no row of the table names (02 R97 to R99): the slot or frame spells a verb and a noun that are
unlisted, or a verb that its noun does not take; or a firmware fault occurs while the request is served. -/
inductive Odd where
  | code (verb noun : Nat)
  | fault
deriving DecidableEq, Repr

/-- One Ohmat request (02 R88). Its verb and noun are those of the command that carries it.
`payload` is the inline payload, or the 32-byte indirect block when INDIRECT is set (02 R86);
`input` is what the read of the indirect input buffer returns, none when that read fails. -/
structure Request where
  carrier : Carrier
  seq     : Nat
  flags   : BitVec 8
  index   : Nat
  domain  : Nat
  owner   : Nat
  target  : Nat
  cookie  : Nat
  payload : Bytes
  input   : Option Bytes
  /-- none for the request that the command names -/
  odd     : Option Odd := none
deriving DecidableEq, Repr

/-- Kind of a unit that can be fenced or retired (01 R16, R19; 03 R174; 08 R377). -/
inductive UnitKind where
  | flume | rillIn | rillOut | clause | decode | culvert | gauge | src | dst | head | control | converter
deriving DecidableEq, Repr

/-- Kind of a failing element (01 R729). -/
inductive Element where
  | clausePlot | sramRow | dramRow | pcsFec | other
deriving DecidableEq, Repr

/-- An element that the self-test of Training finds failing (01 R18, R21, R729): the unit that holds it, none for a row group of the
frame store, its kind and its reach. -/
structure Finding where
  holder : Option (UnitKind × Nat)
  elem : Element
  reach : Nat
deriving DecidableEq, Repr

/-- A picture: its active lines from the top, each the samples in the order the format carries them (04 R204). -/
abbrev Picture := List (List Nat)

/-- Samples of an audio signal from an instant on, as 24-bit numbers, and the sample before them (05 R244). -/
structure AudioRun where
  before : Int
  samples : List Int
deriving DecidableEq, Repr

/-- An ancillary data packet of SMPTE ST 291-1: its identifiers, the line it is carried on, and its 10-bit user data words (01 R46;
07 R322). -/
structure AncPacket where
  did : Nat
  sdid : Nat
  line : Nat
  udw : List Nat
deriving DecidableEq, Repr

/-- What an external source frame brought with it (04 R182, R193, R195, R197 to R201). -/
structure SourceFrame where
  /-- measured raster_id (R197), 0 when the counts fit no raster -/
  raster : Nat
  /-- measured rate code -/
  rate : Nat
  /-- every line had its EAV and SAV and the counts of one raster (R193) -/
  valid : Bool
  /-- the frame's active lines, none for one that is missing (R182, R195) -/
  lines : List (Option (List Nat))
  /-- the writing of the frame was cut short (R182) -/
  cut : Bool
  /-- ST 352 payload ID of the frame, byte 1 in bits 7:0 -/
  vpid : Option (BitVec 32)
  /-- sampling code that the payload ID codes -/
  vSampling : Nat
  /-- colour byte that the payload ID codes -/
  vColour : Nat
  /-- raster_id that the payload ID codes -/
  vRaster : Nat
  /-- rate code that the payload ID codes -/
  vRate : Nat
  /-- link 1-4 of an ST 2082-12 format that the payload ID declares, 0 for none -/
  vLink : Nat
  /-- skew of this link against the earliest link of its group, 1/16 line -/
  skew : Nat
  /-- the ancillary packets of a Rill input's frame, in their order (07 R322) -/
  anc : List AncPacket
  /-- RTP timestamp of a network source's frame (07 R319, R322) -/
  stamp : Nat
deriving DecidableEq, Repr

/-- Active lines of a frame that are missing (04 R195). -/
def SourceFrame.missing (f : SourceFrame) : Nat := (f.lines.filter (·.isNone)).length

/-- Who reads a frame store block (14 R590). -/
inductive DramReader where
  | dst (d : Nat) | layer (l : Nat) | stem (s : Nat) | rendition (r : Nat) | job (h : Nat) | ctx (c : Nat)
  | buffers (delivery : Nat) (retransmission : Bool) | control | culvert (c : Nat) | scrubber
deriving DecidableEq, Repr

/-- One frame store read that needs correction (14 R589 to R592). -/
structure DramError where
  addr : Nat
  /-- erroneous symbols of the block after the on-die ECC -/
  symbols : Nat
  /-- row of R590 that says what the block holds, 0-5 -/
  content : Nat
  reader : DramReader
  /-- the block at the same position of the previous frame exists and reads correctly (04 R196) -/
  prevOk : Bool
  /-- a rewrite cures the block (R592) -/
  cured : Bool
  /-- line of the picture, first sample of it and samples that the block holds, where it holds video or a surface; of stem results `first` is the
  number of the block of luma -/
  line : Nat
  first : Nat
  count : Nat
deriving DecidableEq, Repr

/-- A real-time port whose buffer ran empty or over: a reader with the place of the first sample it cannot deliver, or the writer of a source
(14 R599). -/
inductive RtPort where
  | reader (r : DramReader) (line first : Nat)
  | writer (src : Nat)
deriving DecidableEq, Repr

/-- Requesters of the control bus, by the work they do (14 R617). -/
inductive BusRequester where
  | alwaysOn | gatePage | housekeeping | landing | culvert | control
deriving DecidableEq, Repr

/-- A request on the control bus (14 R615 to R617). -/
structure BusRequest where
  /-- number of the requester, as event 0x0124 records it -/
  requester : Nat
  kind : BusRequester
  /-- transaction identifier -/
  id : Nat
  address : Nat
  write : Bool
  /-- device time at which it was issued -/
  atNs : Nat
deriving DecidableEq, Repr

/-- Outcome of one adaptation step of a lane (06 R279, R280). -/
structure AdaptResult where
  /-- Acquire: the lane locked -/
  locked : Bool
  /-- Acquire of a Rill input: rate code found -/
  rate : Nat
  /-- CTLE Coarse and Fine: figure of merit of each step tried, 0.1 dB, in the order tried -/
  foms : List Nat
deriving DecidableEq, Repr

/-- One window of equalised samples, and the codewords of the time since the last one (06 R263, R277, R278). -/
structure LevelStats where
  /-- for each level, the lowest first, the samples decided as it: their codes and how often each came -/
  levels : List (List (Int × Nat))
  /-- symbols in error in each FEC codeword received since the last value -/
  codewords : List Nat
deriving DecidableEq, Repr

/-- End of an I2C transaction (06 R295). -/
structure I2cResult where
  /-- 0 done, 1 address not acknowledged, 2 data not acknowledged -/
  code : Nat
  /-- bytes written before a data NACK -/
  written : Nat
  read : Bytes
deriving DecidableEq, Repr

/-- What a received Ethernet frame carries (07 R308). -/
inductive FrameBody where
  | pause
  | arp (target : Bytes)
  | neighbour (target : Bytes)
  | echo (target : Bytes) (v6 : Bool)
  | groupQuery (group : Option Bytes) (v6 : Bool) (old : Bool)
  | esmc (ssm : Nat)
  | udp (v6 : Bool) (src dst : Bytes) (srcPort dstPort : Nat) (payload : Bytes)
  | other
deriving DecidableEq, Repr

/-- A received Ethernet frame (07 R308). -/
structure EthFrame where
  /-- length in bytes, destination MAC to FCS -/
  len : Nat
  /-- FCS error, or overlap with an uncorrectable codeword -/
  bad : Bool
  dstMac : Bytes
  /-- VLAN ID of its tag, none when untagged -/
  vlan : Option Nat
  body : FrameBody
deriving DecidableEq, Repr

/-- Kind of a PTP message (07 R330 to R332). -/
inductive PtpKind where
  | sync | followUp | delayReq | delayResp | announce | unsupported
deriving DecidableEq, Repr

/-- A received PTP message; times in units of 0.25 ns (07 R330 to R333). -/
structure PtpMessage where
  kind : PtpKind
  domainNumber : Nat
  v6 : Bool
  /-- clock identity of the sender -/
  identity : Nat
  seq : Nat
  /-- origin, precise origin or receive time that the message carries -/
  time : Int
  /-- correctionField, 0.25 ns -/
  correction : Int
  /-- a two-step Sync -/
  twoStep : Bool
  /-- uncorrected receive timestamp at the MAC -/
  rx : Int
  clockClass : Nat
  steps : Nat
  /-- grandmaster priority1, clockAccuracy, offsetScaledLogVariance and priority2 of an Announce message -/
  priority : Nat
  accuracy : Nat
  variance : Nat
  priority2 : Nat
  /-- length of the frame that carries it -/
  len : Nat
  /-- the two trailing octets that allow a checksum correction are present -/
  trailer : Bool
  /-- those two octets as one number -/
  tail : Nat
  /-- UDP checksum -/
  udpSum : Nat
deriving DecidableEq, Repr

/-- A PTP master heard by the follower, with the data the best master algorithm compares (07 R330). -/
structure PtpMaster where
  identity : Nat
  clockClass : Nat
  steps : Nat
  /-- grandmaster priority1, clockAccuracy, offsetScaledLogVariance and priority2 -/
  priority : Nat
  accuracy : Nat
  variance : Nat
  priority2 : Nat
deriving DecidableEq, Repr

/-- What sends an egress frame (08 R340). -/
inductive EgressSource where
  | ptpEvent | general | management | flow (f : Nat)
deriving DecidableEq, Repr

/-- A frame that arrives at Turnout (08 R340, R343). -/
structure EgressFrame where
  source : EgressSource
  len : Nat
deriving DecidableEq, Repr

/-- What a plane supervisor observes at one evaluation (08 R363). -/
structure PlaneObs where
  /-- ports of the plane whose loopback test frame was lost or failed its FCS -/
  lost : List Nat
deriving DecidableEq, Repr

/-- A motion vector: columns to the right and lines down (10 R439). -/
abbrev Vec := Int × Int

/-- The coding tools that R436 names, used or never used. -/
inductive CodingTool where
  | asymmetricPartitions | intra35 | transformSkip | signHiding | merge5 | tmvp | deblocking | sao | cabac | tiles | slices | wpp
  | pcm | scalingLists | weightedPrediction | longTermRefs | rangeExtension | lossless
  | nestedSplits | dualTree | intra67 | mrl | isp | mip | cclm | mts | lfnst | sbt | dependentQuant | mmvd | sbTmvp | gpm | ciip
  | affine4 | affine6 | amvr | bdof | dmvr | prof | lmcs | alf | ccAlf | gdr | virtualBoundaries
  | ibc | palette | act | referenceResampling | subpictures | multipleLayers
  | partitionTypes | directional | smooth | paeth | filterIntra | cfl | dct | adst | flipAdst | identityTransform | averageCompound
  | distanceCompound | globalMotion | cdef | loopRestoration
  | wedgeCompound | differenceCompound | obmc | warpedMotion | superResolution | filmGrain | switchFrames | operatingPoints
  | transform8 | intra4 | intra8 | intra16 | inter16to8 | pSlices | fieldPictures
  | cavlc | subPartitions | bSlices | mbaff | flexibleOrdering
deriving DecidableEq, Repr

/-- One reference of a coded block (10 R437, R445, R453). -/
structure BlockRef where
  /-- the reference: 1 the picture before, 2 the one before that (10 R446) -/
  ref : Nat
  /-- vector in 1/16 luma sample -/
  vec : Vec
  /-- the vector is the result of the motion search, not one that a merge or skip mode inherits -/
  found : Bool
  /-- first luma column to the right of the footprint, interpolation taps included -/
  foot : Nat
deriving DecidableEq, Repr

/-- How a block is predicted (10 R437, R453; 11 R484). -/
inductive BlockMode where
  /-- intra, DC or not; `reach` is the first luma column to the right of the samples it predicts from -/
  | intra (dc : Bool) (reach : Nat)
  | inter (skip : Bool) (refs : List BlockRef)
deriving DecidableEq, Repr

/-- A coded block of a picture: its place and size in luma samples, prediction, residual and quantiser (10 R436; 11 R480, R484). -/
structure CodedBlock where
  x : Nat
  y : Nat
  w : Nat
  h : Nat
  mode : BlockMode
  residual : Bool
  qp : Nat
deriving DecidableEq, Repr

/-- A coded row of coding blocks, with its bits (11 R483). -/
structure CodedRow where
  bits : Nat
  blocks : List CodedBlock
deriving DecidableEq, Repr

/-- What coding made of one partition (10 R457; 11 R483, R484). -/
structure PartOutput where
  /-- rows coded normally, from the first -/
  rows : List CodedRow
  /-- bits of the coding that was discarded because it exceeded its cap -/
  discarded : Option Nat
  /-- the rows after them, in floor mode -/
  floor : List CodedRow
  /-- tools used -/
  tools : List CodingTool
  /-- mean quantiser -/
  qp : Nat
deriving DecidableEq, Repr

/-- What a core hands back with a finished item (11 R479 to R485; 12 R516 to R523). -/
structure ItemOutput where
  /-- the coded access unit, for a packaging item or a back-fill picture -/
  unit : Bytes
  /-- header bits of the picture (11 R483) -/
  header : Nat
  /-- the partition of a rendition's item, all partitions of a back-fill picture in their order -/
  parts : List PartOutput
  /-- planes of the input picture that a back-fill item read from host memory (12 R516) -/
  input : List Picture
  /-- a read of host memory failed -/
  failed : Bool
deriving DecidableEq, Repr

/-- A decoded picture (12 R531 to R537). -/
structure DecodedPicture where
  codec : Nat
  profile : Nat
  level : Nat
  width : Nat
  height : Nat
  /-- PTS on the sender's timeline, ns -/
  pts : Nat
  /-- colour byte of the stream's signalling, 0 when unknown -/
  colour : Nat
  /-- IRAP or IDR picture -/
  rap : Bool
  /-- the picture at which a recovery point or GDR completes its recovery -/
  recovery : Bool
  /-- RASL picture of a CRA -/
  rasl : Bool
  /-- PTS of a reference picture that was never received or could not be decoded -/
  missingRef : Option Nat
  /-- damaged slices, each as rectangles of luma samples: column, line, width, height -/
  sliceErrors : List (List (Nat × Nat × Nat × Nat))
  /-- it predicts from a CONCEALED picture -/
  fromConcealed : Bool
  /-- PCR of the sender seen since the last picture, ns, with the device time of its arrival -/
  pcr : Option (Nat × Nat)
  /-- bits of a sample, 8 or 10 -/
  depth : Nat
  /-- 0 4:2:0, 1 4:2:2 -/
  chroma : Nat
  /-- its planes Y, Cb and Cr after cropping; of a field pair, those of the first field -/
  planes : List Picture
  /-- planes of the second field of a field pair, none of a frame -/
  second : List Picture
deriving DecidableEq, Repr

/-- A JTAG instruction (17 R723). -/
inductive JtagOp where
  | bypass | idcode | sample | extest | clamp | highz
deriving DecidableEq, Repr

/-- What a recalibration measured (16 R690): the trained DRAM baseline of part 5 and the die temperature at the measurement of part 3. -/
structure CalParts where
  dram : Bytes
  dieTemp : Int
deriving DecidableEq, Repr

/-- A host consumer word as read: the record index in bits 31:0 and the data count in bits 63:32, none when the read fails (11 R494). -/
abbrev ConsWord := Option (BitVec 64)

/-- The consumer words read for the kind 3 deliveries concerned, by delivery (11 R496). -/
abbrev ConsReads := List (Nat × ConsWord)


/-- The commands, one constructor for each row of spec/opcode_table.json in its order; the rule named defines the row. -/
inductive Instr where
  /-- DB_REQ_WRITE (R73). -/
  | dbReqWrite (ring : Nat) (value : BitVec 32)
  /-- DB_RPL_WRITE (R73). -/
  | dbRplWrite (ring : Nat) (value : BitVec 32)
  /-- DB_EVT_WRITE (R73). -/
  | dbEvtWrite (value : BitVec 32)
  /-- RING_ENABLE (R75). -/
  | ringEnable (ring : Nat)
  /-- RING_DISABLE (R77). -/
  | ringDisable (ring : Nat)
  /-- RING_DRAIN_COMPLETE (R77). -/
  | ringDrainComplete (ring : Nat)
  /-- RING_FETCH_ERROR (R78). -/
  | ringFetchError (ring : Nat) (verb : Nat) (r : Request)
  /-- RING_WRITE_ERROR (R78). -/
  | ringWriteError (ring : Nat)
  /-- INT_ENABLE_WRITE (R126). -/
  | intEnableWrite (value : BitVec 32)
  /-- INT_HOLDOFF_EXPIRY (R126). -/
  | intHoldoffExpiry (vector : Nat)
  /-- GATE_BAD_ACCESS (R64). -/
  | gateBadAccess (offset : Nat) (write : Bool)
  /-- DOMAIN_FRAME_LO_READ (R58). -/
  | domainFrameLoRead (d : Nat)
  /-- TIME_NS_READ (R412). -/
  | timeNsRead
  /-- INCR_NS_READ (R415). -/
  | incrNsRead
  /-- CAP_NS_READ (R416). -/
  | capNsRead (pin : Nat)
  /-- REGISTER_WRITE (R11). -/
  | registerWrite (offset : Nat) (value : BitVec 32)
  /-- PCIE_FUNCTION_RESET (R65). -/
  | pcieFunctionReset
  /-- PCIE_PERST_ASSERT (R707). -/
  | pciePerstAssert
  /-- QUERY_DEVICE (R118). -/
  | queryDevice (r : Request)
  /-- RESET_DEVICE (R123). -/
  | resetDevice (r : Request)
  /-- DEVICE_RESTART (R123). -/
  | deviceRestart
  /-- COMMIT (R106). -/
  | commit (r : Request)
  /-- CANCEL_STAGE_SET (R112). -/
  | cancelStageSet (r : Request)
  /-- CANCEL_COMMITTED (R113). -/
  | cancelCommitted (r : Request)
  /-- SET_MODE (R53). -/
  | setMode (r : Request)
  /-- QUERY_MODE (R53). -/
  | queryMode (r : Request)
  /-- SET_DOMAIN (R60). -/
  | setDomain (r : Request)
  /-- QUERY_DOMAIN (R60). -/
  | queryDomain (r : Request)
  /-- QUERY_REACH (R61). -/
  | queryReach (r : Request)
  /-- QUERY_REACH_BANDWIDTH (R624). -/
  | queryReachBandwidth (r : Request)
  /-- SUBSCRIBE (R96). -/
  | subscribe (r : Request)
  /-- UNSUBSCRIBE (R96). -/
  | unsubscribe (r : Request)
  /-- QUERY_SUBSCRIPTIONS (R96). -/
  | querySubscriptions (r : Request)
  /-- QUERY_EVENT (R655). -/
  | queryEvent (r : Request)
  /-- TAKE (R153). -/
  | take (r : Request)
  /-- SALVO (R165). -/
  | salvo (r : Request)
  /-- STAGE_DST_ROUTE (R148). -/
  | stageDstRoute (r : Request)
  /-- STAGE_DST_FORMAT (R143). -/
  | stageDstFormat (r : Request)
  /-- STAGE_DST_DOMAIN (R152). -/
  | stageDstDomain (r : Request)
  /-- SET_SRC_FORMAT (R150). -/
  | setSrcFormat (r : Request)
  /-- SET_SRC_GENERATOR (R151). -/
  | setSrcGenerator (r : Request)
  /-- QUERY_DST (R158). -/
  | queryDst (r : Request)
  /-- QUERY_SRC (R159). -/
  | querySrc (r : Request)
  /-- LOCK_DST (R171). -/
  | lockDst (r : Request)
  /-- UNLOCK_DST (R171). -/
  | unlockDst (r : Request)
  /-- STAGE_SRC_LOSS_ACTION (R192). -/
  | stageSrcLossAction (r : Request)
  /-- STAGE_SRC_OVERRIDE (R200). -/
  | stageSrcOverride (r : Request)
  /-- SET_DST_PROBE (R208). -/
  | setDstProbe (r : Request)
  /-- QUERY_DST_PROBE (R209). -/
  | queryDstProbe (r : Request)
  /-- QUERY_SRC_ALIGNMENT (R210). -/
  | querySrcAlignment (r : Request)
  /-- SET_SRC_PLAYOUT_POST (R586). -/
  | setSrcPlayoutPost (r : Request)
  /-- SET_DST_CAPTURE_HOLD (R588). -/
  | setDstCaptureHold (r : Request)
  /-- QUERY_DST_CAPTURE (R588). -/
  | queryDstCapture (r : Request)
  /-- TAKE_AUDIO_OUT (R235). -/
  | takeAudioOut (r : Request)
  /-- STAGE_AUDIO_OUT_ROUTE (R235). -/
  | stageAudioOutRoute (r : Request)
  /-- STAGE_AUDIO_OUT_FOLLOW (R239). -/
  | stageAudioOutFollow (r : Request)
  /-- STAGE_AUDIO_OUT_DOMAIN (R237). -/
  | stageAudioOutDomain (r : Request)
  /-- STAGE_AUDIO_OUT_DELAY (R238). -/
  | stageAudioOutDelay (r : Request)
  /-- STAGE_AAC_PROGRAMME (R250). -/
  | stageAacProgramme (r : Request)
  /-- LOCK_AUDIO_OUT (R242). -/
  | lockAudioOut (r : Request)
  /-- UNLOCK_AUDIO_OUT (R242). -/
  | unlockAudioOut (r : Request)
  /-- SET_AUDIO_PORT (R223). -/
  | setAudioPort (r : Request)
  /-- STAGE_SLOT_MASK (R226). -/
  | stageSlotMask (r : Request)
  /-- QUERY_AUDIO_IN (R253). -/
  | queryAudioIn (r : Request)
  /-- QUERY_AUDIO_OUT (R254). -/
  | queryAudioOut (r : Request)
  /-- SET_LANE_TRANSMIT (R271). -/
  | setLaneTransmit (r : Request)
  /-- SET_LANE_RECEIVE (R276). -/
  | setLaneReceive (r : Request)
  /-- SET_LANE_ASYMMETRY (R291). -/
  | setLaneAsymmetry (r : Request)
  /-- SET_LANE_TEST_TOOLS (R286). -/
  | setLaneTestTools (r : Request)
  /-- SET_LANE_EYE_SCAN (R289). -/
  | setLaneEyeScan (r : Request)
  /-- READ_LANE_EYE_SCAN (R289). -/
  | readLaneEyeScan (r : Request)
  /-- SET_LANE_I2C_BIND (R294). -/
  | setLaneI2cBind (r : Request)
  /-- WRITE_LANE_I2C (R295). -/
  | writeLaneI2c (r : Request)
  /-- SET_LANE_RATE_HOOKS (R296). -/
  | setLaneRateHooks (r : Request)
  /-- QUERY_LANE (R298). -/
  | queryLane (r : Request)
  /-- RESET_LANE (R123). -/
  | resetLane (r : Request)
  /-- SET_ETH_PORT (R305). -/
  | setEthPort (r : Request)
  /-- SET_ETH_PORT_PTP (R329). -/
  | setEthPortPtp (r : Request)
  /-- QUERY_ETH_PORT (R335). -/
  | queryEthPort (r : Request)
  /-- RESET_ETH_PORT (R123). -/
  | resetEthPort (r : Request)
  /-- STAGE_FLOW (R312). -/
  | stageFlow (r : Request)
  /-- QUERY_FLOW (R336). -/
  | queryFlow (r : Request)
  /-- STAGE_QUEUE_DSCP_MAP (R341). -/
  | stageQueueDscpMap (r : Request)
  /-- STAGE_QUEUE (R342). -/
  | stageQueue (r : Request)
  /-- READ_QUEUE_SAMPLES (R357). -/
  | readQueueSamples (r : Request)
  /-- QUERY_QUEUE (R358). -/
  | queryQueue (r : Request)
  /-- STAGE_GATE_LIST (R351). -/
  | stageGateList (r : Request)
  /-- QUERY_GATE_LIST (R358). -/
  | queryGateList (r : Request)
  /-- STAGE_PLANE (R360). -/
  | stagePlane (r : Request)
  /-- SET_PLANE_DIAGNOSIS (R365). -/
  | setPlaneDiagnosis (r : Request)
  /-- QUERY_PLANE (R374). -/
  | queryPlane (r : Request)
  /-- SET_REF_INPUT (R381). -/
  | setRefInput (r : Request)
  /-- QUERY_REF_INPUT (R411). -/
  | queryRefInput (r : Request)
  /-- SET_TIMEBASE (R409). -/
  | setTimebase (r : Request)
  /-- SET_TIMEBASE_PHASE (R402). -/
  | setTimebasePhase (r : Request)
  /-- SET_TIMEBASE_ABSOLUTE (R402). -/
  | setTimebaseAbsolute (r : Request)
  /-- QUERY_TIMEBASE (R410). -/
  | queryTimebase (r : Request)
  /-- SET_TRIGGER (R418). -/
  | setTrigger (r : Request)
  /-- QUERY_TRIGGER (R417). -/
  | queryTrigger (r : Request)
  /-- STAGE_STEM (R443). -/
  | stageStem (r : Request)
  /-- QUERY_STEM (R465). -/
  | queryStem (r : Request)
  /-- QUERY_STEM_CAPACITY (R465). -/
  | queryStemCapacity (r : Request)
  /-- STAGE_RENDITION (R447). -/
  | stageRendition (r : Request)
  /-- STAGE_RENDITION_RATE (R476). -/
  | stageRenditionRate (r : Request)
  /-- QUERY_RENDITION (R466). -/
  | queryRendition (r : Request)
  /-- QUERY_RENDITION_RATE (R501). -/
  | queryRenditionRate (r : Request)
  /-- STAGE_DELIVERY (R487). -/
  | stageDelivery (r : Request)
  /-- QUERY_DELIVERY (R502). -/
  | queryDelivery (r : Request)
  /-- SUBMIT_JOB (R515). -/
  | submitJob (r : Request)
  /-- CANCEL_JOB (R523). -/
  | cancelJob (r : Request)
  /-- QUERY_JOB (R540). -/
  | queryJob (r : Request)
  /-- QUERY_JOB_REACHES (R540). -/
  | queryJobReaches (r : Request)
  /-- SET_JOB_TRACE (R525). -/
  | setJobTrace (r : Request)
  /-- READ_JOB_TRACE (R526). -/
  | readJobTrace (r : Request)
  /-- STAGE_DECODE_CTX (R528). -/
  | stageDecodeCtx (r : Request)
  /-- QUERY_DECODE_CTX (R541). -/
  | queryDecodeCtx (r : Request)
  /-- RESET_DECODE_CTX (R123). -/
  | resetDecodeCtx (r : Request)
  /-- STAGE_HEAD (R546). -/
  | stageHead (r : Request)
  /-- STAGE_HEAD_DOMAIN (R549). -/
  | stageHeadDomain (r : Request)
  /-- SET_HEAD_FREEZE (R574). -/
  | setHeadFreeze (r : Request)
  /-- SET_HEAD_STICKY_CLEAR (R574). -/
  | setHeadStickyClear (r : Request)
  /-- QUERY_HEAD (R576). -/
  | queryHead (r : Request)
  /-- STAGE_VIDEO_LAYER (R554). -/
  | stageVideoLayer (r : Request)
  /-- STAGE_GRAPHIC_LAYER (R559). -/
  | stageGraphicLayer (r : Request)
  /-- STAGE_LAYER_MATRIX (R570). -/
  | stageLayerMatrix (r : Request)
  /-- STAGE_METER_FIRST (R562). -/
  | stageMeterFirst (r : Request)
  /-- WRITE_LAYER_SURFACE (R560). -/
  | writeLayerSurface (r : Request)
  /-- QUERY_LAYER (R577). -/
  | queryLayer (r : Request)
  /-- SET_GAUGE (R619). -/
  | setGauge (r : Request)
  /-- WRITE_GAUGE_DATA (R620). -/
  | writeGaugeData (r : Request)
  /-- SET_GAUGE_FEED (R620). -/
  | setGaugeFeed (r : Request)
  /-- QUERY_GAUGE (R621). -/
  | queryGauge (r : Request)
  /-- SET_GAUGE_VALUE (R621). -/
  | setGaugeValue (r : Request)
  /-- SET_GAUGE_FINALISE (R622). -/
  | setGaugeFinalise (r : Request)
  /-- RESET_GAUGE (R123). -/
  | resetGauge (r : Request)
  /-- ACK_THERMAL (R644). -/
  | ackThermal (r : Request)
  /-- READ_THERMAL_RECORDS (R645). -/
  | readThermalRecords (r : Request)
  /-- SET_THERMAL (R647). -/
  | setThermal (r : Request)
  /-- QUERY_THERMAL (R648). -/
  | queryThermal (r : Request)
  /-- READ_COUNTER (R657). -/
  | readCounter (r : Request)
  /-- READ_COUNTER_CATALOGUE (R658). -/
  | readCounterCatalogue (r : Request)
  /-- WRITE_COUNTER_STICKY (R658). -/
  | writeCounterSticky (r : Request)
  /-- OPEN_IMAGE (R670). -/
  | openImage (r : Request)
  /-- PUT_IMAGE (R671). -/
  | putImage (r : Request)
  /-- CLOSE_IMAGE (R674). -/
  | closeImage (r : Request)
  /-- ACTIVATE_IMAGE (R680). -/
  | activateImage (r : Request)
  /-- SET_IMAGE (R677). -/
  | setImage (r : Request)
  /-- QUERY_IMAGE (R678). -/
  | queryImage (r : Request)
  /-- LOCK_IMAGE (R116). -/
  | lockImage (r : Request)
  /-- UNLOCK_IMAGE (R116). -/
  | unlockImage (r : Request)
  /-- READ_CALSET (R688). -/
  | readCalset (r : Request)
  /-- WRITE_CALSET (R689). -/
  | writeCalset (r : Request)
  /-- SET_CALSET_RECALIBRATE (R690). -/
  | setCalsetRecalibrate (r : Request)
  /-- RECALIBRATION_COMPLETE (R690). -/
  | recalibrationComplete (result : CalParts)
  /-- SVC_SEND (R711). -/
  | svcSend (frame : Bytes)
  /-- SVC_STATUS (R710). -/
  | svcStatus
  /-- SVC_FETCH (R711). -/
  | svcFetch
  /-- SVC_WORD (R711). -/
  | svcWord (offset : Nat)
  /-- INBAND_REQUEST (R676). -/
  | inbandRequest (sender : InbandSender) (frame : Bytes)
  /-- AON_RESET_ASSERT (R704). -/
  | aonResetAssert
  /-- AON_RESET_RELEASE (R50). -/
  | aonResetRelease
  /-- SYS_RESET_ASSERT (R50). -/
  | sysResetAssert
  /-- SYS_RESET_RELEASE (R702). -/
  | sysResetRelease (bootSel : Nat)
  /-- PWR_OK_RISE (R702). -/
  | pwrOkRise
  /-- PWR_OK_FALL (R703). -/
  | pwrOkFall
  /-- PWR_OK_TIMEOUT (R702). -/
  | pwrOkTimeout
  /-- BOOT_START (R702). -/
  | bootStart
  /-- BOOT_IMAGE_VERIFIED (R50). -/
  | bootImageVerified
  /-- BOOT_TO_RECOVERY (R50). -/
  | bootToRecovery
  /-- BOOT_TO_FALLOW (R49). -/
  | bootToFallow
  /-- TRAINING_COMPLETE (R50). -/
  | trainingComplete (found : List Finding)
  /-- FIRST_BOOT_PASS (R683). -/
  | firstBootPass
  /-- FIRST_BOOT_FAIL (R683). -/
  | firstBootFail (failCode : Nat)
  /-- OLD_SLOT_ERASED (R683). -/
  | oldSlotErased
  /-- MODE_TRANSITION_COMPLETE (R52). -/
  | modeTransitionComplete
  /-- UNIT_FENCE (R19). -/
  | unitFence (kind : UnitKind) (index : Nat) (element : Element)
  /-- DOMAIN0_BOUNDARY (R25). -/
  | domain0Boundary
  /-- SHADOW_REBUILD (R160). -/
  | shadowRebuild (d : Nat) (complete : Bool)
  /-- SWAP_DECISION (R33). -/
  | swapDecision (d : Nat)
  /-- VIDEO_DOMAIN_BOUNDARY (R160). -/
  | videoDomainBoundary (d : Nat)
  /-- DEST_SWITCHING_LINE (R29). -/
  | destSwitchingLine (dst : Nat)
  /-- LOOP_UPDATE (R400). -/
  | loopUpdate (phase : Int) (freq : Int)
  /-- REF_MONITOR_READING (R383). -/
  | refMonitorReading (k : Nat) (ppb : Int)
  /-- REF_ACTIVITY_LOST (R383). -/
  | refActivityLost (k : Nat)
  /-- REF_QUALIFY (R384). -/
  | refQualify (k : Nat)
  /-- ACQUIRE_STAGE_PASS (R391). -/
  | acquireStagePass
  /-- LOCKED_BANDWIDTH_NARROW (R391). -/
  | lockedBandwidthNarrow
  /-- HOLDOVER_EXPIRY (R390). -/
  | holdoverExpiry
  /-- HISTORY_RECORD (R394). -/
  | historyRecord (meanFreq : Int)
  /-- PTP_OFFSET_MEASUREMENT (R330). -/
  | ptpOffsetMeasurement (offset : Int) (identity : Nat) (clockClass : Nat)
  /-- PTP_BRIDGE_TIMEOUT (R389). -/
  | ptpBridgeTimeout
  /-- TRIGGER_FIRE (R419). -/
  | triggerFire (k : Nat)
  /-- PPS_OUT_PULSE (R420). -/
  | ppsOutPulse
  /-- TCAP_EDGE (R416). -/
  | tcapEdge (pin : Nat) (falling : Bool)
  /-- SOURCE_FRAME_MEASURE (R176). -/
  | sourceFrameMeasure (src : Nat) (arrivalNs : Nat) (periodPs : Nat) (beyond : List Nat)
  /-- SOURCE_FRAME_COMPLETE (R182). -/
  | sourceFrameComplete (src : Nat) (frame : SourceFrame)
  /-- SOURCE_SIGNAL_LOSS (R189). -/
  | sourceSignalLoss (src : Nat) (linesMissing : Nat) (got : Picture)
  /-- FLOW_SOURCE_TIMEOUT (R189). -/
  | flowSourceTimeout (src : Nat) (got : Picture)
  /-- DEST_FRAME_START (R183). -/
  | destFrameStart (dst : Nat)
  /-- PROBE_FRAME (R204). -/
  | probeFrame (dst : Nat)
  /-- GENERATOR_FRAME (R151). -/
  | generatorFrame (src : Nat)
  /-- RECIRCULATION_RETURN (R131). -/
  | recirculationReturn (k : Nat)
  /-- DRAM_READ_ERROR (R589). -/
  | dramReadError (e : DramError)
  /-- CONVERTER_MEASURE (R231). -/
  | converterMeasure (ain : Nat) (ratioPpb : Int) (phase : Int) (fill : Nat)
  /-- AUDIO_ACTIVITY_LOSS (R233). -/
  | audioActivityLoss (ain : Nat) (buffered : Nat)
  /-- AUDIO_SLIP (R232). -/
  | audioSlip (ain : Nat)
  /-- AUDIO_BOUNDARY (R243). -/
  | audioBoundary (aout : Nat) (run : AudioRun)
  /-- ZERO_CROSSING (R244). -/
  | zeroCrossing (aout : Nat) (start : Bool) (run : AudioRun)
  /-- ZERO_CROSSING_TIMEOUT (R244). -/
  | zeroCrossingTimeout (aout : Nat) (start : Bool) (run : AudioRun)
  /-- NONAUDIO_ONSET (R247). -/
  | nonaudioOnset (pair : Nat) (dataType : Nat)
  /-- NONAUDIO_END (R247). -/
  | nonaudioEnd (pair : Nat)
  /-- AAC_ACCESS_UNIT (R251). -/
  | aacAccessUnit (aout : Nat) (au : Bytes) (cons : ConsReads)
  /-- PORT_CLOCK_ERROR (R224). -/
  | portClockError (p : Nat) (bits : Nat)
  /-- PORT_CLOCK_RECOVER (R224). -/
  | portClockRecover (p : Nat)
  /-- LANE_SIGNAL_DETECT (R279). -/
  | laneSignalDetect (lane : Nat)
  /-- ADAPT_STEP_END (R279). -/
  | adaptStepEnd (lane : Nat) (res : AdaptResult)
  /-- QUALIFY_TIMEOUT (R282). -/
  | qualifyTimeout (lane : Nat)
  /-- FOM_UPDATE (R277). -/
  | fomUpdate (lane : Nat) (levels : LevelStats)
  /-- FOM_ALARM_CLEAR (R282). -/
  | fomAlarmClear (lane : Nat)
  /-- LANE_INPUT_LOSS (R282). -/
  | laneInputLoss (lane : Nat)
  /-- EYE_SCAN_COMPLETE (R289). -/
  | eyeScanComplete (lane : Nat) (counts : List Nat)
  /-- PRBS_CHECKER_LOCK (R287). -/
  | prbsCheckerLock (lane : Nat)
  /-- PRBS_CHECKER_RELOCK (R287). -/
  | prbsCheckerRelock (lane : Nat) (bits : Nat) (errors : Nat) (symbolErrors : Nat)
  /-- I2C_TRANSACTION_END (R295). -/
  | i2cTransactionEnd (bus : Nat) (res : I2cResult)
  /-- I2C_STRETCH_TIMEOUT (R297). -/
  | i2cStretchTimeout (bus : Nat) (sdaLow : Bool)
  /-- RATE_HOOK_START (R296). -/
  | rateHookStart (lane : Nat) (hd : Bool)
  /-- LINK_UP (R306). -/
  | linkUp (port : Nat)
  /-- LINK_DOWN (R306). -/
  | linkDown (port : Nat) (cause : Nat)
  /-- ETH_FRAME_RECEIVE (R308). -/
  | ethFrameReceive (port : Nat) (frame : EthFrame)
  /-- PTP_MESSAGE_RECEIVE (R330). -/
  | ptpMessageReceive (port : Nat) (msg : PtpMessage)
  /-- MERGE_RELEASE (R320). -/
  | mergeRelease (flow : Nat)
  /-- LEG_LOSS (R321). -/
  | legLoss (flow : Nat) (leg : Nat)
  /-- LEG_RETURN (R321). -/
  | legReturn (flow : Nat) (leg : Nat)
  /-- MEMBERSHIP_REPORT_REPEAT (R328). -/
  | membershipReportRepeat (port : Nat)
  /-- RIST_SENDER_REPORT (R493). -/
  | ristSenderReport (delivery : Nat)
  /-- EGRESS_ENQUEUE (R343). -/
  | egressEnqueue (port : Nat) (frame : EgressFrame)
  /-- EGRESS_SELECT (R344). -/
  | egressSelect (port : Nat)
  /-- QUEUE_DELAY_DROP (R346). -/
  | queueDelayDrop (queue : Nat)
  /-- GATE_ENTRY_CHANGE (R351). -/
  | gateEntryChange (port : Nat)
  /-- GATE_LIST_TAKEOVER (R352). -/
  | gateListTakeover (port : Nat)
  /-- QUEUE_SAMPLE (R356). -/
  | queueSample (port : Nat)
  /-- PACER_RELEASE (R347). -/
  | pacerRelease (flow : Nat) (j : Nat)
  /-- AUDIO_ANC_RELEASE (R348). -/
  | audioAncRelease (flow : Nat) (line : Nat) (audio : List (List Int)) (status : List (List Bool))
  /-- LEASE_RENEW (R361). -/
  | leaseRenew (plane : Nat)
  /-- LEASE_EXPIRY (R361). -/
  | leaseExpiry
  /-- RIGHT_REQUEST (R367). -/
  | rightRequest (plane : Nat)
  /-- PLANE_CHECK_EVAL (R363). -/
  | planeCheckEval (plane : Nat) (obs : PlaneObs)
  /-- HANDBACK_HOLDOFF_EXPIRY (R372). -/
  | handbackHoldoffExpiry
  /-- HANDOVER_HOLD_END (R370). -/
  | handoverHoldEnd (src : Nat)
  /-- STEM_ANALYSIS_RELEASE (R512). -/
  | stemAnalysisRelease (stem : Nat)
  /-- ANALYSIS_DEADLINE (R473). -/
  | analysisDeadline (stem : Nat)
  /-- PARTITION_CUT_TIME (R474). -/
  | partitionCutTime (rendition : Nat) (partition : Nat)
  /-- DELIVERY_INSTANT (R471). -/
  | deliveryInstant (stem : Nat) (cons : ConsReads)
  /-- RIDER_REQUEST (R508). -/
  | riderRequest (reach : Nat) (consumer : Nat) (index : Nat)
  /-- RIDER_ITEM_COMPLETE (R506). -/
  | riderItemComplete (reach : Nat) (consumer : Nat) (index : Nat) (out : ItemOutput) (cons : ConsWord)
  /-- RIDER_PREEMPT (R512). -/
  | riderPreempt (reach : Nat)
  /-- CORE_WAKE (R511). -/
  | coreWake (reach : Nat) (consumer : Nat) (index : Nat)
  /-- CORE_GATE (R42). -/
  | coreGate (reach : Nat) (consumer : Nat) (index : Nat)
  /-- RIDER_RETRY (R510). -/
  | riderRetry (reach : Nat)
  /-- BF_OUTPUT_RETRY (R520). -/
  | bfOutputRetry (job : Nat) (cons : ConsWord)
  /-- FLOOR_ALARM_CLEAR (R485). -/
  | floorAlarmClear (rendition : Nat)
  /-- TS_TABLE_INSERT (R490). -/
  | tsTableInsert (delivery : Nat)
  /-- TS_PACKET_SEND (R492). -/
  | tsPacketSend (delivery : Nat)
  /-- DECODE_PICTURE_COMPLETE (R533). -/
  | decodePictureComplete (ctx : Nat) (pic : DecodedPicture)
  /-- DECODE_PRESENT (R533). -/
  | decodePresent (ctx : Nat)
  /-- DECODE_OUTPUT_LOSS (R534). -/
  | decodeOutputLoss (ctx : Nat)
  /-- HEAD_FRAME_START (R556). -/
  | headFrameStart (head : Nat) (peaks : List (Nat × Nat))
  /-- HEAD_FRAME_COMPLETE (R574). -/
  | headFrameComplete (head : Nat)
  /-- READBACK_ARM (R578). -/
  | readbackArm (value : BitVec 32)
  /-- READBACK_CAPTURE (R578). -/
  | readbackCapture (words : List Nat)
  /-- CULVERT_ARM (R606). -/
  | culvertArm (c : Nat)
  /-- CULVERT_ABORT (R611). -/
  | culvertAbort (c : Nat)
  /-- CULVERT_ERROR_CLEAR (R606). -/
  | culvertErrorClear (c : Nat)
  /-- CULVERT_HALF (R605). -/
  | culvertHalf (c : Nat)
  /-- CULVERT_COMPLETE (R608). -/
  | culvertComplete (c : Nat) (data : Bytes)
  /-- CULVERT_ERROR (R612). -/
  | culvertError (c : Nat) (code : Nat) (done : Nat)
  /-- CULVERT_ABORT_COMPLETE (R611). -/
  | culvertAbortComplete (c : Nat) (done : Nat)
  /-- REMAP_SET (R614). -/
  | remapSet
  /-- BUS_DEFAULT_ACCESS (R615). -/
  | busDefaultAccess (access : BusRequest)
  /-- SCRUB_PASS_COMPLETE (R591). -/
  | scrubPassComplete (stack : Nat)
  /-- REFRESH_DUE (R594). -/
  | refreshDue (stack : Nat) (bank : Nat) (rtWaiting : Bool)
  /-- PANIC_ENTER (R597). -/
  | panicEnter (reach : Nat) (port : Nat) (writer : Bool) (fill : Nat)
  /-- PANIC_LEAVE (R597). -/
  | panicLeave (reach : Nat) (port : Nat) (writer : Bool) (fill : Nat)
  /-- RT_STARVED (R599). -/
  | rtStarved (reach : Nat) (port : RtPort)
  /-- PLAYOUT_POST_TIME (R586). -/
  | playoutPostTime (src : Nat)
  /-- PLAYOUT_SLOT_FREE (R587). -/
  | playoutSlotFree (src : Nat) (slot : Nat)
  /-- CAPTURE_FRAME_WRITTEN (R588). -/
  | captureFrameWritten (dst : Nat)
  /-- GAUGE_FEED_COMPLETE (R620). -/
  | gaugeFeedComplete (unit : Nat)
  /-- HOLDUP_OK_FALL (R602). -/
  | holdupOkFall
  /-- TALLY_CHANGE (R714). -/
  | tallyChange (n : Nat) (level : Bool)
  /-- SENSOR_SAMPLE (R629). -/
  | sensorSample (readings : List Int)
  /-- THRESHOLD_RELEASE (R631). -/
  | thresholdRelease (level : Nat)
  /-- GRACE_EXPIRY (R636). -/
  | graceExpiry
  /-- ENFORCEMENT_REEVALUATE (R637). -/
  | enforcementReevaluate
  /-- CLAUSE_CLOCK_STEP (R636). -/
  | clauseClockStep (reach : Nat)
  /-- POWER_SAMPLE (R646). -/
  | powerSample (rails : List Nat)
  /-- STORM_END (R654). -/
  | stormEnd
  /-- PIECE_WRITE_COMPLETE (R672). -/
  | pieceWriteComplete (piece : Nat)
  /-- PIECE_STALE (R672). -/
  | pieceStale (piece : Nat)
  /-- LEASE_IDLE_EXPIRY (R674). -/
  | leaseIdleExpiry
  /-- ACTIVATION_COMMIT (R681). -/
  | activationCommit (entriesOk : Bool)
  /-- WATCHDOG_EXPIRY (R54). -/
  | watchdogExpiry
  /-- HOLDUP_OK_RISE (R56). -/
  | holdupOkRise
  /-- DELAY_REQ_SEND (R330). -/
  | delayReqSend (port : Nat)
  /-- ANNOUNCE_TIMEOUT (R329). -/
  | announceTimeout (port : Nat) (best : PtpMaster)
  /-- RIST_RECEIVER_REPORT (R324). -/
  | ristReceiverReport (flow : Nat)
  /-- DECODER_INPUT_RELEASE (R324). -/
  | decoderInputRelease (flow : Nat)
  /-- JTAG_INSTRUCTION (R723). -/
  | jtagInstruction (ir : JtagOp)
deriving DecidableEq, Repr

end Sys2Proof
end

