-- ==== Sys2Proof/Decode.lean ====
section
/-! DEFINITION. The command that a word spells. No row of spec/opcode_table.json gives bits: the commands of this block are
messages, register accesses, events and pin changes (00; 02), so no word spells one. -/
namespace Sys2Proof

/-- The command that the first `nbits` bits of a word spell: none, for every word (log entry 18). -/
def decodeTableWord (nbits w : Nat) : Option Instr :=
  match nbits, w with
  | _, _ => none

end Sys2Proof
end

