-- ==== Sys2Proof/Config.lean ====
section
/-! DEFINITION. What the module's making fixes and the spec leaves open: the factory calibration set, and the free values,
which are opaque constants that nothing in Lean can evaluate. -/
namespace Sys2Proof

/-- The calibration set written at manufacture, as the bytes that are not zero (16 R685, R686).
DESIGN CHOICE (log entry 10): format 1, serial 0, no lane presets, zero trims, and the CRC-32C that R686 asks for. -/
def Config.factoryCal : Tab Byte :=
  [(0, 0x43), (1, 0x4C), (2, 0x43), (3, 0x54), (4, 1), (6, 63), (9, 96), (60, 0xDF), (61, 0x07), (62, 0x15), (63, 0xCA)]

/-- Identifier of the alarm or counter number `n` in the catalogue (15 R658 fixes it within a major version, without its value). -/
opaque Config.counterNameId : Nat → BitVec 32

/-- Content of byte `off` of the capture slot frame numbered `stamp` (14 R588): the samples captured are not part of the state. -/
opaque Config.captureByte : Nat → Nat → Byte

/-- SHA-256 of a message (16 R666 names the function and does not define it). -/
opaque Config.sha256 : Bytes → Bytes

/-- SHA-384 of a message (16 R666). -/
opaque Config.sha384 : Bytes → Bytes

/-- ECDSA P-384 verification of a signature over a SHA-384 digest under one of the boot ROM's keys (16 R666, R672): key slot, digest,
signature. -/
opaque Config.ecdsaOk : Nat → Bytes → Bytes → Bool

/-- A fuse has revoked one of the boot ROM's four verification keys; which ones is the module's (16 R672). -/
opaque Config.keyRevoked : Nat → Bool

/-- A free value: what the spec leaves open in a result, taken afresh at each use by its counter. -/
opaque Config.freeNat : Nat → Nat

/-- Sample `i` of a line of chroma interpolated from 4:2:2 to 4:4:4 (03 R147 names the operation and gives no filter). -/
opaque Config.chromaUp : List Nat → Nat → Nat

/-- Sample `i` of a line of chroma filtered from 4:4:4 to 4:2:2 (03 R147: a fixed low-pass filter, whose taps it does not give). -/
opaque Config.chromaDown : List Nat → Nat → Nat

/-- Bar of the colour bars at a column of a picture of a width (04 R192 names the pattern and not its geometry). -/
opaque Config.barAt : Nat → Nat → Nat

/-- Left column and top line at which the moving box of pattern 0x4 starts (03 R151 gives its size and its motion). -/
opaque Config.boxStart : Nat × Nat

/-- Pixel of a meter bar's green, yellow or red part (13 R562 names the colours and not their codes). -/
opaque Config.meterColour : Nat → BitVec 32

/-- The picture at half the columns and lines, for the coarser levels of a stem's motion search (10 R444 names the levels and no
filter). -/
opaque Config.halve : List (List Nat) → List (List Nat)

/-- Size of the Hadamard transforms of a cost, as a power of two (10 R439). -/
opaque Config.hadamardLog2 : Nat

/-- Samples, at a level of the motion search, by which its result is refined around that of the coarser level (10 R444). -/
opaque Config.refineRange : Nat → Nat

/-- Estimated cost of intra coding of the block whose luma samples, with those around it, are given (10 R439 names the estimate). -/
opaque Config.intraCost : List (List Int) → Nat

/-- The affine model that iteratively reweighted least squares fit to block centres and vectors (10 R442 gives no weights and no
iterations): six parameters in units of 1/65,536. -/
opaque Config.affineFit : List ((Int × Int) × (Int × Int)) → List Int

/-- Cost of signalling a global model as rotzoom or as affine (10 R442). -/
opaque Config.globalCost : Bool → List Int → Nat

/-- Cost of a vector in 1/16 sample for a rendition's block: picture, place and size, reference (10 R445 names no cost). -/
opaque Config.blockCost : List (List Nat) → List Nat → Nat → Int × Int → Nat

/-- Sample `i` of a column of chroma filtered vertically from 4:2:2 to 4:2:0 (10 R438 gives no filter). -/
opaque Config.chromaHalf : List Nat → Nat → Nat

/-- Sample `i` of a column of chroma interpolated vertically from 4:2:0 to 4:2:2 (12 R532 names the operation and gives no filter). -/
opaque Config.chromaDouble : List Nat → Nat → Nat

/-- Bank of its stack that holds a device address (14 R583 gives the pseudo-channel, and the row's bits only as the highest). -/
opaque Config.bankOf : Nat → Nat

/-- A free byte string. -/
opaque Config.freeBytes : Nat → Bytes

/-- Low byte of the code of a logged firmware fault, by how many events were written before it (02 R99). -/
opaque Config.faultSubcode : Nat → Nat

end Sys2Proof
end

