-- ==== Sys2Proof/Machine/State.lean ====
section
/-! DEFINITION. The state of the block as plain data: every register, table, buffer, mode and pin the spec gives it,
and the state right after the release of AON_RESET_N. -/
namespace Sys2Proof.Machine

/-- Why the block stops. No command of this model raises a fault: the block answers bad requests, and bad data is dropped
or concealed and counted (15 R659). The constructor is kept for the shape of the host's interface; it is never raised. -/
inductive Fault where
  /-- Never raised (safe). -/
  | none
deriving DecidableEq, Repr

/-- Why the model gives a command no meaning. -/
inductive Refusal where
  /-- Raised only by the arms of Dispatch.exec that have no meaning yet (safe): the mnemonic of the command. -/
  | notModelled (mnemonic : String)
deriving DecidableEq, Repr

/-- The twelve device modes (01 R44). -/
inductive Mode where
  | fallow | dormant | boot | recovery | training | standby | gateway | router | encode | full | test | throttled
deriving DecidableEq, Repr

/-- State of an audio input converter (05 R231). -/
inductive AinState where
  | noSignal | tracking | locked | slip
deriving DecidableEq, Repr

/-- State of a lane (06 R298). -/
inductive LaneState where
  | quiet | detect | acquire | adapting | ready | tool
deriving DecidableEq, Repr

/-- Adaptation step of a lane (06 R279). -/
inductive AdaptStep where
  | detect | acquire | coarse | converge | fine | qualify
deriving DecidableEq, Repr

/-- State of an Ethernet port (07 R335). -/
inductive LinkState where
  | disabled | adapting | negotiating | training | aligning | up
deriving DecidableEq, Repr

/-- State of Headgate (09 R390). -/
inductive HgState where
  | freeRun | acquiring | locked | holdover | expired | manual
deriving DecidableEq, Repr

/-- Class of a Rider item (12 R526). -/
inductive ItemClass where
  | stemBand | rendPart | packaging | rateUpdate | backfill | decodePart | control
deriving DecidableEq, Repr

/-- Power state of a DRAM stack (14 R600). -/
inductive DramPower where
  | active | selfRefresh | partialRefresh | unpowered
deriving DecidableEq, Repr

/-- The four variants (00 R1). -/
inductive Variant where
  | glc8180 | glc8150 | glc8140 | glc8120
deriving DecidableEq, Repr

/-- Format block of a source or destination (selector 0x02 on Dst, 0x01 on Src) (spec/03 R149), a block of 8 bytes. -/
structure Fmt where
  /-- raster_id (R134); 0 while no format is held (offset 1, u8) -/
  raster : Nat
  /-- sampling code (R135) (offset 2, u8) -/
  sampling : Nat
  /-- colour byte (R136) (offset 3, u8) -/
  colour : Nat
  /-- gang size 1, 2 or 4 (R138) (offset 4, u8) -/
  gang : Nat
deriving DecidableEq, Repr

/-- Reset values of Fmt. -/
def Fmt.reset : Fmt :=
  { raster := 0, sampling := 0, colour := 0, gang := 1 }

/-- A complete frame as it is held: the samples that came, or what generates them (04 R182, R191; 03 R151; 14 R585). -/
inductive Frame where
  /-- no complete frame -/
  | empty
  /-- the samples of a whole picture of a format -/
  | taken (f : Fmt) (pic : Picture)
  /-- a pattern of 04 R192, or pattern 0x4 of 03 R151 in its frame `n` -/
  | pattern (f : Fmt) (code n : Nat)
  /-- black of a format -/
  | black (f : Fmt)
  /-- the slot of a playout source and its gang, read where it stands in the frame store (14 R585, R623) -/
  | slot (f : Fmt) (src n : Nat)
deriving DecidableEq, Repr

/-- A group of four embedded channels in a Rill output: its number 1 to 4, and the channels that are silent; 24-bit samples, synchronous to
the video, with a control packet of delay 0 (05 R221). -/
structure AudioGroup where
  group : Nat
  silent : List Bool
  bits : Nat
  delay : Nat
  synchronous : Bool
deriving DecidableEq, Repr

/-- One segment of a received ST 2110-20 packet: second field, line, first pixel, octets (07 R319). -/
structure Segment where
  second : Bool
  line : Nat
  offset : Nat
  octets : Bytes
deriving DecidableEq, Repr

/-- Something the block puts out. -/
inductive Out where
  /-- a posted write to host memory (02 R83, 11 R496, 14 R608) -/
  | hostWrite (addr : Nat) (bytes : Bytes)
  /-- a zero-length read of host memory (14 R608) -/
  | hostFlush (addr : Nat)
  /-- an MSI-X message (02 R126) -/
  | msix (vector : Nat) (addr : Nat) (data : Nat)
  /-- a reply frame over the in-band management flow (16 R676) -/
  | inband (sender : InbandSender) (frame : Bytes)
  /-- a frame handed to the line of an Ethernet port (08 R344) -/
  | line (port : Nat) (flow : Nat) (len : Nat)
  /-- a control frame sent by a port: kind (0 IGMP or MLD message, with its record, 2 gratuitous ARP, 3 neighbour advertisement, 4 ARP or echo answer, 5 Delay_Req) and its subject -/
  | portFrame (port : Nat) (kind : Nat) (subject : Bytes)
  /-- a packet of a flow entering Turnout: send entry, leg and its frame from the destination MAC on, without FCS (07 R318) -/
  | packet (flow : Nat) (leg : Nat) (bytes : Bytes)
  /-- RTCP of a RIST receiver: entry, leg, UDP port and payload (07 R324) -/
  | rtcp (flow : Nat) (leg : Nat) (udp : Nat) (bytes : Bytes)
  /-- a PTP message forwarded by a transparent clock with its correctionField (07 R332) -/
  | ptp (port : Nat) (msg : PtpMessage)
  /-- a transaction begun on an I2C bus (06 R293) -/
  | i2c (bus : Nat) (address : Nat) (write : Bytes) (rlen : Nat)
  /-- transport packets passed to a decode context (07 R324) -/
  | toDecoder (ctx : Nat) (bytes : Bytes)
  /-- a context switch of a lane's transmitter rate (06 R269) -/
  | lineRate (lane : Nat) (code : Nat)
  /-- the value a Gate page read returns (02 R63) -/
  | regRead (offset value : Nat)
  /-- the frame that a Rill output begins: its lane, format, payload ID, ancillary packets and embedded audio groups (04 R202; 05 R221; 07 R322) -/
  | rillFrame (lane : Nat) (fmt : Fmt) (vpid : BitVec 32) (anc : List AncPacket) (groups : List AudioGroup)
  /-- words that an audio output puts out from the sample instant numbered `first` on, each as the bits of its interface, none at high impedance
  (05 R219, R222, R228, R244) -/
  | audio (aout : Nat) (first : Nat) (words : List (List (Option Bool)))
  /-- a linear ramp to silence over 64 samples from the sample instant numbered `first` on (05 R223, R244) -/
  | fade (aout : Nat) (first : Nat)
  /-- one frame of the pins of a serial port, FS and DO at each bit clock, none at high impedance or undriven; no bit clock for idle pins (05 R222, R223) -/
  | sapPins (port : Nat) (frame : List (Option Bool × Option Bool))
  /-- a pattern generator drives a lane: its pattern code and whether it is inverted (06 R285, R286) -/
  | pattern (lane code : Nat) (invert : Bool)
  /-- a loopback joins the data of two lanes: the lane it is named on, the other end, and whether it is the near-end one (06 R288) -/
  | loopback (lane other : Nat) (near : Bool)
  /-- bytes the service port shifts out (17 R710) -/
  | svc (bytes : Bytes)
deriving DecidableEq, Repr


/-- Samples of one line of a frame that a reader replaces: by the same place of the previous frame, or by black (04 R180, R196). -/
structure Patch where
  /-- line of the whole picture -/
  line : Nat
  /-- first sample -/
  first : Nat
  /-- samples -/
  count : Nat
  /-- black replaces them, since the previous frame does not serve -/
  black : Bool
deriving DecidableEq, Repr

/-- Route entry of TAKE, SALVO and STAGE (spec/03 R153), a block of 8 bytes. -/
structure RouteEntry where
  /-- destination lead (offset 0, u16) -/
  dst : Nat
  /-- source lead; 0xFFFF clears the route (offset 2, u16) -/
  src : Nat
  /-- bit 0 FORCE_SYNC (offset 4, f8) -/
  flags : BitVec 8
deriving DecidableEq, Repr

/-- Reset values of RouteEntry. -/
def RouteEntry.reset : RouteEntry :=
  { dst := 0, src := 0xFFFF, flags := 0 }

/-- Pattern and test generator setting (spec/03 R151), a block of 8 bytes. -/
structure GenCfg where
  /-- pattern 0x0-0x4, 0xFF stops (offset 1, u8) -/
  pattern : Nat
  /-- domain 1-8 (offset 2, u8) -/
  domain : Nat
deriving DecidableEq, Repr

/-- Reset values of GenCfg. -/
def GenCfg.reset : GenCfg :=
  { pattern := 1, domain := 1 }

/-- Loss action of a source (spec/04 R192), a block of 8 bytes. -/
structure LossCfg where
  /-- 0 hold, 1 black, 2 pattern (offset 1, u8) -/
  action : Nat
  /-- pattern code for action 2 (offset 2, u8) -/
  pattern : Nat
  /-- fallback action: 1 black, 2 pattern (offset 3, u8) -/
  fbAction : Nat
  /-- destination frames before the fallback; 0 none (offset 4, u16) -/
  fbFrames : Nat
  /-- pattern code for fallback action 2 (offset 6, u8) -/
  fbPattern : Nat
deriving DecidableEq, Repr

/-- Reset values of LossCfg. -/
def LossCfg.reset : LossCfg :=
  { action := 0, pattern := 0, fbAction := 0, fbFrames := 0, fbPattern := 0 }

/-- Input format override of a Rill input (spec/04 R200), a block of 8 bytes. -/
structure OverrideCfg where
  /-- 0 follow the payload ID, 1 always, 2 while absent (offset 1, u8) -/
  mode : Nat
  /-- sampling code (offset 2, u8) -/
  sampling : Nat
  /-- colour byte (offset 3, u8) -/
  colour : Nat
  /-- 1, 4, or 0 to follow the payload ID (offset 4, u8) -/
  gang : Nat
deriving DecidableEq, Repr

/-- Reset values of OverrideCfg. -/
def OverrideCfg.reset : OverrideCfg :=
  { mode := 0, sampling := 0, colour := 0, gang := 0 }

/-- Destination probe settings (spec/04 R208), a block of 24 bytes. -/
structure ProbeCfg where
  /-- coarse_bits 0-6 (offset 2, u8) -/
  coarse : Nat
  /-- extra frames needed to clear an alarm (offset 3, u8) -/
  clearFrames : Nat
  /-- 10-bit code (offset 4, u16) -/
  blackLevel : Nat
  /-- 0 turns black detection off (offset 6, u16) -/
  blackFrames : Nat
  /-- 0-1,000,000 (offset 8, u32) -/
  blackPpm : Nat
  /-- 0 turns freeze detection off (offset 12, u16) -/
  freezeFrames : Nat
  /-- exclusion rectangle, left column (offset 16, u16) -/
  exX : Nat
  /-- exclusion rectangle, top line (offset 18, u16) -/
  exY : Nat
  /-- width in pixels (offset 20, u16) -/
  exW : Nat
  /-- height in lines (offset 22, u16) -/
  exH : Nat
deriving DecidableEq, Repr

/-- Reset values of ProbeCfg. -/
def ProbeCfg.reset : ProbeCfg :=
  { coarse := 2, clearFrames := 0, blackLevel := 80, blackFrames := 50, blackPpm := 2000, freezeFrames := 100, exX := 0, exY := 0, exW := 0, exH := 0 }

/-- Audio route of an aout (spec/05 R235), a block of 8 bytes. -/
structure AudioRoute where
  /-- bit 0 MUTE, bit 1 INVERT (offset 1, f8) -/
  flags : BitVec 8
  /-- input channel, 0xFFFF none (offset 2, u16) -/
  ain : Nat
  /-- 0.1 dB (offset 4, s16) -/
  gain : Int
deriving DecidableEq, Repr

/-- Reset values of AudioRoute. -/
def AudioRoute.reset : AudioRoute :=
  { flags := 0, ain := 0xFFFF, gain := 0 }

/-- Follow setting of an aout (spec/05 R239), a block of 8 bytes. -/
structure AudioFollow where
  /-- channel 0-15 of the source's audio set (offset 1, u8) -/
  channel : Nat
  /-- followed destination lead, 0xFFFF ends following (offset 2, u16) -/
  dst : Nat
  /-- 0.1 dB (offset 4, s16) -/
  gain : Int
  /-- bit 0 MUTE, bit 1 INVERT (offset 6, f8) -/
  flags : BitVec 8
deriving DecidableEq, Repr

/-- Reset values of AudioFollow. -/
def AudioFollow.reset : AudioFollow :=
  { channel := 0, dst := 0xFFFF, gain := 0, flags := 0 }

/-- AAC programme (spec/05 R250), a block of 8 bytes. -/
structure AacCfg where
  /-- 0 off, 1 AAC-LC, 2 HE-AAC v1, 3 HE-AAC v2 (offset 1, u8) -/
  profile : Nat
  /-- 1 or 2 (offset 2, u8) -/
  channels : Nat
  /-- bit/s (offset 4, u32) -/
  bitrate : Nat
deriving DecidableEq, Repr

/-- Reset values of AacCfg. -/
def AacCfg.reset : AacCfg :=
  { profile := 0, channels := 0, bitrate := 0 }

/-- Serial or AES3 audio port (spec/05 R223), a block of 12 bytes. -/
structure AudioPortCfg where
  /-- 1 enabled (offset 1, u8) -/
  enable : Nat
  /-- 0 I2S or two-channel, 1 TDM or double sampling frequency (offset 2, u8) -/
  format : Nat
  /-- 0 follower, 1 provider (offset 3, u8) -/
  role : Nat
  /-- slots (offset 4, u8) -/
  slots : Nat
  /-- bits of a slot (offset 5, u8) -/
  slotBits : Nat
  /-- data bits (offset 6, u8) -/
  dataBits : Nat
  /-- 1 48 kHz, 2 96 kHz (offset 7, u8) -/
  rate : Nat
  /-- FS_INVERT, FALLING, DELAY1 (offset 8, f8) -/
  flags : BitVec 8
  /-- video domain of the port's outputs (offset 9, u8) -/
  domain : Nat
deriving DecidableEq, Repr

/-- Reset values of AudioPortCfg. -/
def AudioPortCfg.reset : AudioPortCfg :=
  { enable := 0, format := 0, role := 0, slots := 0, slotBits := 0, dataBits := 0, rate := 0, flags := 0, domain := 0 }

/-- Slot mask of a serial port (spec/05 R226), a block of 12 bytes. -/
structure SlotMask where
  /-- 0 input, 1 output (offset 1, u8) -/
  direction : Nat
  /-- slots 0-31 (offset 4, u32) -/
  maskLo : Nat
  /-- slots 32-63 (offset 8, u32) -/
  maskHi : Nat
deriving DecidableEq, Repr

/-- Reset values of SlotMask. -/
def SlotMask.reset : SlotMask :=
  { direction := 0, maskLo := 0, maskHi := 0 }

/-- Flume transmitter (spec/06 R271), a block of 8 bytes. -/
structure FlumeTx where
  /-- second pre-cursor tap (offset 1, s8) -/
  pre2 : Int
  /-- first pre-cursor tap (offset 2, s8) -/
  pre1 : Int
  /-- main tap (offset 3, u8) -/
  main : Nat
  /-- post-cursor tap (offset 4, s8) -/
  post1 : Int
  /-- amplitude code (offset 5, u8) -/
  swing : Nat
  /-- TX_INVERT, RX_INVERT, TX_PRECODE, RX_PRECODE (offset 6, f8) -/
  flags : BitVec 8
deriving DecidableEq, Repr

/-- Reset values of FlumeTx. -/
def FlumeTx.reset : FlumeTx :=
  { pre2 := 0, pre1 := -4, main := 52, post1 := -8, swing := 6, flags := 0 }

/-- Rill output transmitter (spec/06 R273), a block of 8 bytes. -/
structure RillTx where
  /-- de-emphasis in dB (offset 1, u8) -/
  deemph : Nat
  /-- amplitude code (offset 2, u8) -/
  swing : Nat
  /-- TX_INVERT (offset 3, f8) -/
  flags : BitVec 8
deriving DecidableEq, Repr

/-- Reset values of RillTx. -/
def RillTx.reset : RillTx :=
  { deemph := 0, swing := 2, flags := 0 }

/-- Receive settings of a Flume lane or Rill input (spec/06 R276), a block of 8 bytes. -/
structure LaneRx where
  /-- 0 adapt, 1 fixed (offset 1, u8) -/
  ctleMode : Nat
  /-- fixed step (offset 2, u8) -/
  ctleStep : Nat
  /-- AUTO_READAPT, RATE_FIXED (offset 3, f8) -/
  flags : BitVec 8
  /-- fixed Rill rate code (offset 4, u8) -/
  rillRate : Nat
deriving DecidableEq, Repr

/-- Reset values of LaneRx. -/
def LaneRx.reset : LaneRx :=
  { ctleMode := 0, ctleStep := 0, flags := 0, rillRate := 0 }

/-- Test tools (spec/06 R286), a block of 8 bytes. -/
structure LaneTools where
  /-- generator pattern (offset 1, u8) -/
  gen : Nat
  /-- checker pattern (offset 2, u8) -/
  chk : Nat
  /-- 0 none, 1 near-end, 2 far-end (offset 3, u8) -/
  loopback : Nat
  /-- GEN_INVERT, CHK_INVERT, CLEAR_COUNTS (offset 4, f8) -/
  flags : BitVec 8
  /-- mode or rate code, 0 keeps the current (offset 5, u8) -/
  rate : Nat
deriving DecidableEq, Repr

/-- Reset values of LaneTools. -/
def LaneTools.reset : LaneTools :=
  { gen := 0, chk := 0, loopback := 0, flags := 0, rate := 0 }

/-- Eye scan (spec/06 R289), a block of 8 bytes. -/
structure EyeScan where
  /-- eye of PAM4 (offset 1, u8) -/
  eye : Nat
  /-- phase step (offset 2, u8) -/
  hStride : Nat
  /-- offset step (offset 3, u8) -/
  vStride : Nat
  /-- log2 of the bits compared at a point (offset 4, u8) -/
  dwell : Nat
deriving DecidableEq, Repr

/-- Reset values of EyeScan. -/
def EyeScan.reset : EyeScan :=
  { eye := 0, hStride := 0, vStride := 0, dwell := 0 }

/-- Timestamp asymmetry trims (spec/06 R291), a block of 8 bytes. -/
structure LaneTrim where
  /-- 0.25 ns (offset 2, s16) -/
  txTrim : Int
  /-- 0.25 ns (offset 4, s16) -/
  rxTrim : Int
deriving DecidableEq, Repr

/-- Reset values of LaneTrim. -/
def LaneTrim.reset : LaneTrim :=
  { txTrim := 0, rxTrim := 0 }

/-- I2C binding of a Rill lane (spec/06 R294), a block of 8 bytes. -/
structure I2cBind where
  /-- 0 I2C0, 1 I2C1 (offset 1, u8) -/
  bus : Nat
  /-- 7-bit device address, 0 none (offset 2, u8) -/
  address : Nat
  /-- 0 100 kHz, 1 400 kHz, 2 1 MHz (offset 3, u8) -/
  speed : Nat
  /-- HOOK_ENABLE (offset 4, f8) -/
  flags : BitVec 8
deriving DecidableEq, Repr

/-- Reset values of I2cBind. -/
def I2cBind.reset : I2cBind :=
  { bus := 0, address := 0, speed := 0, flags := 0 }

/-- Rate hook register writes (spec/06 R296), a block of 20 bytes. -/
structure RateHooks where
  /-- writes used for rate code 0x1 (offset 1, u8) -/
  countSd : Nat
  /-- writes used for every other rate (offset 2, u8) -/
  countHd : Nat
  /-- four register, value pairs (offset 4, b8) -/
  sd : Bytes
  /-- four register, value pairs (offset 12, b8) -/
  hd : Bytes
deriving DecidableEq, Repr

/-- Reset values of RateHooks. -/
def RateHooks.reset : RateHooks :=
  { countSd := 0, countHd := 0, sd := List.replicate 8 0, hd := List.replicate 8 0 }

/-- Ethernet port (spec/07 R305), a block of 40 bytes. -/
structure PortCfg where
  /-- 1 enabled (offset 1, u8) -/
  enable : Nat
  /-- config code of R303 (offset 2, u8) -/
  config : Nat
  /-- AN_ENABLE, LT_ENABLE (offset 3, f8) -/
  flags : BitVec 8
  /-- largest frame (offset 4, u16) -/
  maxFrame : Nat
  /-- MAC address (offset 6, b6) -/
  mac : Bytes
  /-- IPv4 address (offset 12, b4) -/
  ipv4 : Bytes
  /-- 0 no IPv4 address (offset 16, u8) -/
  ipv4Prefix : Nat
  /-- 0 no IPv6 address (offset 17, u8) -/
  ipv6Prefix : Nat
  /-- IPv6 address (offset 20, b16) -/
  ipv6 : Bytes
  /-- VLAN of the port's own traffic (offset 36, u16) -/
  vlan : Nat
deriving DecidableEq, Repr

/-- Reset values of PortCfg. -/
def PortCfg.reset : PortCfg :=
  { enable := 0, config := 0, flags := 0, maxFrame := 1518, mac := List.replicate 6 0, ipv4 := List.replicate 4 0, ipv4Prefix := 0, ipv6Prefix := 0, ipv6 := List.replicate 16 0, vlan := 0 }

/-- PTP role of a port (spec/07 R329), a block of 8 bytes. -/
structure PtpCfg where
  /-- FOLLOWER, TRANSPARENT (offset 1, u8) -/
  role : Nat
  /-- PTP domain number (offset 2, u8) -/
  domainNumber : Nat
  /-- IPV6, UNICAST_DELAY (offset 3, f8) -/
  flags : BitVec 8
  /-- log_delay_req_interval (offset 4, s8) -/
  logDelay : Int
  /-- Announce intervals (offset 5, u8) -/
  announceTimeout : Nat
deriving DecidableEq, Repr

/-- Reset values of PtpCfg. -/
def PtpCfg.reset : PtpCfg :=
  { role := 0, domainNumber := 127, flags := 0, logDelay := -3, announceTimeout := 3 }

/-- Queue settings (spec/08 R342), a block of 12 bytes. -/
structure QueueCfg where
  /-- delay_bound_us (offset 2, u16) -/
  delayBound : Nat
  /-- bytes (weighted queues) (offset 4, u32) -/
  quantum : Nat
  /-- bytes the queue may hold (offset 8, u32) -/
  limit : Nat
deriving DecidableEq, Repr

/-- Reset values of QueueCfg. -/
def QueueCfg.reset : QueueCfg :=
  { delayBound := 0, quantum := 0, limit := 65536 }

/-- Management address and Levee settings (spec/08 R360), a block of 40 bytes. -/
structure PlaneCfg where
  /-- 0 Red, 1 Blue (offset 1, u8) -/
  preferred : Nat
  /-- handback hold-off (offset 2, u16) -/
  holdoffS : Nat
  /-- handover hold (offset 4, u16) -/
  handoverHoldMs : Nat
  /-- management port of Red (offset 6, u8) -/
  mgmtRed : Nat
  /-- management port of Blue (offset 7, u8) -/
  mgmtBlue : Nat
  /-- MAC of the management address (offset 8, b6) -/
  mac : Bytes
  /-- VLAN (offset 14, u16) -/
  vlan : Nat
  /-- IPv4 address (offset 16, b4) -/
  ipv4 : Bytes
  /-- 0 none (offset 20, u8) -/
  ipv4Prefix : Nat
  /-- 0 none (offset 21, u8) -/
  ipv6Prefix : Nat
  /-- UDP port of the in-band flow, 0 off (offset 22, u16) -/
  udp : Nat
  /-- IPv6 address (offset 24, b16) -/
  ipv6 : Bytes
deriving DecidableEq, Repr

/-- Reset values of PlaneCfg. -/
def PlaneCfg.reset : PlaneCfg :=
  { preferred := 0, holdoffS := 10, handoverHoldMs := 2000, mgmtRed := 0xFF, mgmtBlue := 0xFF, mac := List.replicate 6 0, vlan := 0, ipv4 := List.replicate 4 0, ipv4Prefix := 0, ipv6Prefix := 0, udp := 0, ipv6 := List.replicate 16 0 }

/-- Diagnosis settings of a plane (spec/08 R365), a block of 12 bytes. -/
structure DiagCfg where
  /-- FoM, FEC, PTP (offset 1, f8) -/
  checks : BitVec 8
  /-- 0.1 dB (offset 2, u16) -/
  fomMargin : Nat
  /-- per 10^9 codewords (offset 4, u32) -/
  fecLimit : Nat
  /-- ms (offset 8, u16) -/
  ptpTimeoutMs : Nat
deriving DecidableEq, Repr

/-- Reset values of DiagCfg. -/
def DiagCfg.reset : DiagCfg :=
  { checks := 7, fomMargin := 30, fecLimit := 1000, ptpTimeoutMs := 500 }

/-- Reference input (spec/09 R381), a block of 24 bytes. -/
structure RefCfg where
  /-- 0 disabled (offset 1, u8) -/
  priority : Nat
  /-- lane of indices 5-7 (offset 2, u8) -/
  lane : Nat
  /-- USE_10M, USE_PPS, FALLING (offset 3, f8) -/
  flags : BitVec 8
  /-- rate code of indices 3, 4 (offset 4, u8) -/
  hsRate : Nat
  /-- rank of a pin reference (offset 5, u8) -/
  assumedRank : Nat
  /-- qualification time (offset 6, u16) -/
  qualS : Nat
  /-- fixed delay (offset 8, s32) -/
  offsetNs : Int
  /-- accept limit (offset 12, u32) -/
  acceptPpb : Nat
  /-- reject limit (offset 16, u32) -/
  rejectPpb : Nat
deriving DecidableEq, Repr

/-- Reset values of RefCfg. -/
def RefCfg.reset : RefCfg :=
  { priority := 0, lane := 0, flags := 0, hsRate := 0, assumedRank := 5, qualS := 120, offsetNs := 0, acceptPpb := 2000, rejectPpb := 5000 }

/-- Loop settings (spec/09 R409), a block of 32 bytes. -/
structure TimebaseCfg where
  /-- 0 automatic, 1 manual (offset 1, u8) -/
  mode : Nat
  /-- REVERTIVE, AUTO_STEP, PPS_SQUELCH (offset 2, f8) -/
  flags : BitVec 8
  /-- worst rank accepted (offset 3, u8) -/
  minRank : Nat
  /-- mHz (offset 4, u16) -/
  trackBw : Nat
  /-- us (offset 6, u16) -/
  ppsWidth : Nat
  /-- ppb (offset 8, u32) -/
  slewPpb : Nat
  /-- ns (offset 12, u32) -/
  stepLimit : Nat
  /-- s (offset 16, u32) -/
  holdoverMax : Nat
  /-- s (offset 20, u16) -/
  holdAvg : Nat
  /-- 0.001 ppb (offset 24, s32) -/
  manualOffset : Int
deriving DecidableEq, Repr

/-- Reset values of TimebaseCfg. -/
def TimebaseCfg.reset : TimebaseCfg :=
  { mode := 0, flags := 7, minRank := 3, trackBw := 100, ppsWidth := 100, slewPpb := 2000, stepLimit := 100000, holdoverMax := 14400, holdAvg := 300, manualOffset := 0 }

/-- Host trigger (spec/09 R418), a block of 32 bytes. -/
structure TrigCfg where
  /-- 0 off, 1 time, 2 domain boundary (offset 1, u8) -/
  kind : Nat
  /-- kind 2: 0-8 (offset 2, u8) -/
  domain : Nat
  /-- TOUT_0-3, INTERRUPT (offset 3, f8) -/
  targets : BitVec 8
  /-- pulse width (offset 4, u32) -/
  widthNs : Nat
  /-- start seconds (offset 8, u64) -/
  startS : Nat
  /-- start nanoseconds (offset 16, u32) -/
  startNs : Nat
  /-- period of kind 1 (offset 20, u32) -/
  periodNs : Nat
  /-- offset of kind 2 (offset 24, s32) -/
  offsetNs : Int
  /-- firings left (offset 28, u32) -/
  count : Nat
deriving DecidableEq, Repr

/-- Reset values of TrigCfg. -/
def TrigCfg.reset : TrigCfg :=
  { kind := 0, domain := 0, targets := 0, widthNs := 0, startS := 0, startNs := 0, periodNs := 0, offsetNs := 0, count := 0 }

/-- Stem (spec/10 R443), a block of 16 bytes. -/
structure StemCfg where
  /-- 1 enabled (offset 1, u8) -/
  enable : Nat
  /-- latency in quarter frames (offset 2, u8) -/
  latencyQ : Nat
  /-- SCENE_DETECT, GLOBAL_MOTION, SUBPEL16 (offset 3, f8) -/
  flags : BitVec 8
  /-- horizontal search range (offset 4, u16) -/
  searchH : Nat
  /-- vertical search range (offset 6, u16) -/
  searchV : Nat
  /-- reference frames (offset 8, u8) -/
  refs : Nat
  /-- predictor candidates (offset 9, u8) -/
  candidates : Nat
  /-- scene-cut threshold (offset 10, u8) -/
  scenePct : Nat
  /-- home reach or 0xFF (offset 11, u8) -/
  home : Nat
  /-- most bands (offset 12, u8) -/
  coresMax : Nat
deriving DecidableEq, Repr

/-- Reset values of StemCfg. -/
def StemCfg.reset : StemCfg :=
  { enable := 0, latencyQ := 4, flags := 3, searchH := 128, searchV := 64, refs := 2, candidates := 8, scenePct := 60, home := 0xFF, coresMax := 16 }

/-- Rendition (spec/10 R447), a block of 24 bytes. -/
structure RendCfg where
  /-- 1 enabled (offset 1, u8) -/
  enable : Nat
  /-- stem (offset 2, u8) -/
  stem : Nat
  /-- 1 HEVC, 2 VVC, 3 AV1, 4 AVC (offset 3, u8) -/
  codec : Nat
  /-- profile code (offset 4, u8) -/
  profile : Nat
  /-- major x 10 + minor (offset 5, u8) -/
  level : Nat
  /-- luma samples (offset 6, u16) -/
  width : Nat
  /-- lines (offset 8, u16) -/
  height : Nat
  /-- 1 or 2 (offset 10, u8) -/
  rateDiv : Nat
  /-- 8 or 10 (offset 11, u8) -/
  bitDepth : Nat
  /-- 0 4:2:0, 1 4:2:2 (offset 12, u8) -/
  chroma : Nat
  /-- 1-4 (offset 13, u8) -/
  refs : Nat
  /-- 0 automatic, 1 tiles, 2 slices, 3 wavefront (offset 14, u8) -/
  split : Nat
  /-- most partitions (offset 15, u8) -/
  coresMax : Nat
  /-- 0 key pictures, 1 gradual refresh (offset 16, u8) -/
  refreshMode : Nat
  /-- HIGH_TIER, SCENE_INTRA, SHEDDABLE (offset 17, f8) -/
  flags : BitVec 8
  /-- pictures (offset 18, u16) -/
  refreshPeriod : Nat
deriving DecidableEq, Repr

/-- Reset values of RendCfg. -/
def RendCfg.reset : RendCfg :=
  { enable := 0, stem := 0, codec := 0, profile := 0, level := 0, width := 0, height := 0, rateDiv := 0, bitDepth := 0, chroma := 0, refs := 0, split := 0, coresMax := 0, refreshMode := 0, flags := 0, refreshPeriod := 0 }

/-- Rate control of a rendition (spec/11 R476), a block of 24 bytes. -/
structure RateCfg where
  /-- 0 CBR, 1 capped VBR (offset 1, u8) -/
  rcMode : Nat
  /-- lowest quantiser (offset 2, u8) -/
  qpMin : Nat
  /-- highest quantiser (offset 3, u8) -/
  qpMax : Nat
  /-- bit/s (offset 4, u32) -/
  bitrate : Nat
  /-- bit/s (offset 8, u32) -/
  maxBitrate : Nat
  /-- bits (offset 12, u32) -/
  cpbSize : Nat
  /-- us (offset 16, u32) -/
  initDelayUs : Nat
  /-- AUD (offset 20, f8) -/
  flags : BitVec 8
deriving DecidableEq, Repr

/-- Reset values of RateCfg. -/
def RateCfg.reset : RateCfg :=
  { rcMode := 0, qpMin := 0, qpMax := 0, bitrate := 0, maxBitrate := 0, cpbSize := 0, initDelayUs := 0, flags := 0 }

/-- Delivery (spec/11 R487), a block of 64 bytes. -/
structure DelivCfg where
  /-- 1 enabled (offset 1, u8) -/
  enable : Nat
  /-- 1 TS, 2 RIST, 3 host ring (offset 2, u8) -/
  kind : Nat
  /-- CHUNK_EVENT, LENGTH_PREFIX (offset 3, f8) -/
  flags : BitVec 8
  /-- rendition or 0xFFFF (offset 4, u16) -/
  rendition : Nat
  /-- units of a chunk (offset 6, u16) -/
  chunkPictures : Nat
  /-- AAC programme 0 (offset 8, u16) -/
  aac0 : Nat
  /-- AAC programme 1 (offset 10, u16) -/
  aac1 : Nat
  /-- AAC programme 2 (offset 12, u16) -/
  aac2 : Nat
  /-- AAC programme 3 (offset 14, u16) -/
  aac3 : Nat
  /-- us (offset 16, u32) -/
  ptsDelayUs : Nat
  /-- send entry (offset 20, u16) -/
  flow : Nat
  /-- host data area (offset 24, u64) -/
  dataBase : Nat
  /-- log2 of its size (offset 32, u8) -/
  dataLog2 : Nat
  /-- log2 of the record ring (offset 33, u8) -/
  recLog2 : Nat
  /-- host record ring (offset 40, u64) -/
  recBase : Nat
  /-- writeback word (offset 48, u64) -/
  wbAddr : Nat
  /-- consumer word (offset 56, u64) -/
  consAddr : Nat
deriving DecidableEq, Repr

/-- Reset values of DelivCfg. -/
def DelivCfg.reset : DelivCfg :=
  { enable := 0, kind := 0, flags := 0, rendition := 0, chunkPictures := 0, aac0 := 0, aac1 := 0, aac2 := 0, aac3 := 0, ptsDelayUs := 0, flow := 0, dataBase := 0, dataLog2 := 0, recLog2 := 0, recBase := 0, wbAddr := 0, consAddr := 0 }

/-- Back-fill job descriptor (spec/12 R515), a block of 128 bytes. -/
structure JobDesc where
  /-- 1 encode (offset 0, u8) -/
  kind : Nat
  /-- level 4-15 (offset 1, u8) -/
  prio : Nat
  /-- CONTINUE, END_STREAM, LENGTH_PREFIX (offset 2, f8) -/
  flags : BitVec 8
  /-- reach or 0xFF (offset 3, u8) -/
  reach : Nat
  /-- host flow number (offset 4, u16) -/
  flow : Nat
  /-- pictures to code (offset 8, u32) -/
  pictures : Nat
  /-- codec (offset 12, u8) -/
  codec : Nat
  /-- profile (offset 13, u8) -/
  profile : Nat
  /-- level (offset 14, u8) -/
  level : Nat
  /-- bit depth (offset 15, u8) -/
  bitDepth : Nat
  /-- width (offset 16, u16) -/
  width : Nat
  /-- height (offset 18, u16) -/
  height : Nat
  /-- chroma (offset 20, u8) -/
  chroma : Nat
  /-- refs (offset 21, u8) -/
  refs : Nat
  /-- refresh mode (offset 22, u8) -/
  refreshMode : Nat
  /-- rate code (offset 23, u8) -/
  rate : Nat
  /-- refresh period (offset 24, u16) -/
  refreshPeriod : Nat
  /-- colour byte (offset 26, u8) -/
  colour : Nat
  /-- 0 4:2:2, 1 4:2:0 (offset 27, u8) -/
  inSampling : Nat
  /-- HIGH_TIER, SCENE_INTRA, SCENE_DETECT, GLOBAL_MOTION, SUBPEL16 (offset 28, f8) -/
  encFlags : BitVec 8
  /-- scene-cut threshold (offset 29, u8) -/
  scenePct : Nat
  /-- first input picture (offset 56, u64) -/
  inBase : Nat
  /-- bytes of a luma line (offset 64, u32) -/
  inPitch : Nat
  /-- bytes of an input picture (offset 68, u32) -/
  inFrame : Nat
  /-- output data area (offset 72, u64) -/
  dataBase : Nat
  /-- log2 of its size (offset 80, u8) -/
  dataLog2 : Nat
  /-- log2 of the record ring (offset 81, u8) -/
  recLog2 : Nat
  /-- units of a chunk (offset 82, u16) -/
  chunkPictures : Nat
  /-- record ring (offset 88, u64) -/
  recBase : Nat
  /-- writeback word (offset 96, u64) -/
  wbAddr : Nat
  /-- consumer word (offset 104, u64) -/
  consAddr : Nat
  /-- number of the first picture (offset 112, u64) -/
  firstPicture : Nat
deriving DecidableEq, Repr

/-- Reset values of JobDesc. -/
def JobDesc.reset : JobDesc :=
  { kind := 0, prio := 0, flags := 0, reach := 0, flow := 0, pictures := 0, codec := 0, profile := 0, level := 0, bitDepth := 0, width := 0, height := 0, chroma := 0, refs := 0, refreshMode := 0, rate := 0, refreshPeriod := 0, colour := 0, inSampling := 0, encFlags := 0, scenePct := 0, inBase := 0, inPitch := 0, inFrame := 0, dataBase := 0, dataLog2 := 0, recLog2 := 0, chunkPictures := 0, recBase := 0, wbAddr := 0, consAddr := 0, firstPicture := 0 }

/-- Decode context (spec/12 R528), a block of 16 bytes. -/
structure DecCfg where
  /-- 1 enabled (offset 1, u8) -/
  enable : Nat
  /-- 1 HEVC, 2 VVC, 4 AVC (offset 2, u8) -/
  codec : Nat
  /-- gang of the output (offset 3, u8) -/
  gang : Nat
  /-- source lead or 0xFFFF (offset 4, u16) -/
  output : Nat
  /-- programme (offset 6, u16) -/
  program : Nat
  /-- video PID (offset 8, u16) -/
  videoPid : Nat
  /-- declared raster (offset 10, u8) -/
  raster : Nat
  /-- declared rate (offset 11, u8) -/
  rate : Nat
  /-- output colour byte (offset 12, u8) -/
  colour : Nat
  /-- ms (offset 14, u16) -/
  presentDelay : Nat
deriving DecidableEq, Repr

/-- Reset values of DecCfg. -/
def DecCfg.reset : DecCfg :=
  { enable := 0, codec := 0, gang := 0, output := 0, program := 0, videoPid := 0, raster := 0, rate := 0, colour := 0, presentDelay := 0 }

/-- Head (spec/13 R546), a block of 20 bytes. -/
structure HeadCfg where
  /-- 1 enabled (offset 1, u8) -/
  enable : Nat
  /-- raster_id (offset 2, u8) -/
  raster : Nat
  /-- colour byte (offset 3, u8) -/
  colour : Nat
  /-- background (offset 4, u16) -/
  bgY : Nat
  /-- background (offset 6, u16) -/
  bgCb : Nat
  /-- background (offset 8, u16) -/
  bgCr : Nat
  /-- PAIR (offset 10, f8) -/
  flags : BitVec 8
  /-- scan-out entry 0 (offset 12, u16) -/
  scan0 : Nat
  /-- scan-out entry 1 (offset 14, u16) -/
  scan1 : Nat
  /-- scan-out entry 2 (offset 16, u16) -/
  scan2 : Nat
  /-- scan-out entry 3 (offset 18, u16) -/
  scan3 : Nat
deriving DecidableEq, Repr

/-- Reset values of HeadCfg. -/
def HeadCfg.reset : HeadCfg :=
  { enable := 0, raster := 0, colour := 0, bgY := 64, bgCb := 512, bgCr := 512, flags := 0, scan0 := 0xFFFF, scan1 := 0xFFFF, scan2 := 0xFFFF, scan3 := 0xFFFF }

/-- Video layer (spec/13 R554), a block of 32 bytes. -/
structure VideoLayer where
  /-- 1 enabled (offset 1, u8) -/
  enable : Nat
  /-- source lead (offset 2, u16) -/
  src : Nat
  /-- crop left (offset 4, u16) -/
  cropX : Nat
  /-- crop top (offset 6, u16) -/
  cropY : Nat
  /-- crop width (offset 8, u16) -/
  cropW : Nat
  /-- crop height (offset 10, u16) -/
  cropH : Nat
  /-- left on the canvas (offset 12, u16) -/
  dstX : Nat
  /-- top on the canvas (offset 14, u16) -/
  dstY : Nat
  /-- width on the canvas (offset 16, u16) -/
  dstW : Nat
  /-- height on the canvas (offset 18, u16) -/
  dstH : Nat
  /-- stacking order (offset 20, u8) -/
  z : Nat
  /-- opacity (offset 21, u8) -/
  alpha : Nat
  /-- MOTION, CUSTOM_MATRIX, BORDER_ALWAYS, BORDER_LOSS, BORDER_CONCEALED (offset 22, f8) -/
  flags : BitVec 8
  /-- border width (offset 23, u8) -/
  borderPx : Nat
  /-- border colour (offset 24, b3) -/
  borderRgb : Bytes
deriving DecidableEq, Repr

/-- Reset values of VideoLayer. -/
def VideoLayer.reset : VideoLayer :=
  { enable := 0, src := 0, cropX := 0, cropY := 0, cropW := 0, cropH := 0, dstX := 0, dstY := 0, dstW := 0, dstH := 0, z := 0, alpha := 0, flags := 0, borderPx := 0, borderRgb := List.replicate 3 0 }

/-- Graphic layer (spec/13 R559), a block of 16 bytes. -/
structure GraphicLayer where
  /-- 1 enabled (offset 1, u8) -/
  enable : Nat
  /-- 0 host surface, 1 audio meter (offset 2, u8) -/
  kind : Nat
  /-- buffer shown (offset 3, u8) -/
  front : Nat
  /-- left on the canvas (offset 4, u16) -/
  dstX : Nat
  /-- top on the canvas (offset 6, u16) -/
  dstY : Nat
  /-- width (offset 8, u16) -/
  w : Nat
  /-- height (offset 10, u16) -/
  h : Nat
  /-- stacking order (offset 12, u8) -/
  z : Nat
  /-- global alpha (offset 13, u8) -/
  alpha : Nat
  /-- meter count (offset 14, u16) -/
  meter : Nat
deriving DecidableEq, Repr

/-- Reset values of GraphicLayer. -/
def GraphicLayer.reset : GraphicLayer :=
  { enable := 0, kind := 0, front := 0, dstX := 0, dstY := 0, w := 0, h := 0, z := 0, alpha := 0, meter := 0 }

/-- Head freeze detector (spec/13 R574), a block of 8 bytes. -/
structure FreezeCfg where
  /-- EXCLUDE_GRAPHICS (offset 1, f8) -/
  flags : BitVec 8
  /-- coarse_bits (offset 2, u8) -/
  coarse : Nat
  /-- extra frames needed to clear (offset 3, u8) -/
  clearFrames : Nat
  /-- 0 turns detection off (offset 4, u16) -/
  freezeFrames : Nat
deriving DecidableEq, Repr

/-- Reset values of FreezeCfg. -/
def FreezeCfg.reset : FreezeCfg :=
  { flags := 1, coarse := 2, clearFrames := 0, freezeFrames := 50 }

/-- Gauge unit (spec/14 R619), a block of 12 bytes. -/
structure GaugeCfg where
  /-- polynomial code (offset 1, u8) -/
  poly : Nat
  /-- COMPARE (offset 2, f8) -/
  flags : BitVec 8
  /-- value compared (offset 4, u32) -/
  expected : Nat
deriving DecidableEq, Repr

/-- Reset values of GaugeCfg. -/
def GaugeCfg.reset : GaugeCfg :=
  { poly := 1, flags := 0, expected := 0 }

/-- Thermal settings (spec/15 R647), a block of 40 bytes. -/
structure ThermalCfg where
  /-- grace time (offset 2, u16) -/
  graceMs : Nat
  /-- mK/W (offset 4, u16) -/
  psi : Nat
  /-- decode contexts that may be shed (offset 8, b32) -/
  decShed : Bytes
deriving DecidableEq, Repr

/-- Reset values of ThermalCfg. -/
def ThermalCfg.reset : ThermalCfg :=
  { graceMs := 2000, psi := 50, decShed := List.replicate 32 0 }

/-- Flow entry (spec/07 R312), a block of 144 bytes. -/
structure FlowCfg where
  /-- kind of R311 (offset 1, u8) -/
  kind : Nat
  /-- ENABLE, IPV6, PROTECT, SSM, VLAN (offset 2, f8) -/
  flags : BitVec 8
  /-- DSCP of a send entry (offset 3, u8) -/
  dscp : Nat
  /-- bound item, 0xFFFF none (offset 4, u16) -/
  binding : Nat
  /-- VLAN ID and PCP (offset 6, u16) -/
  vlan : Nat
  /-- SSRC (offset 8, u32) -/
  ssrc : Nat
  /-- RTP payload type (offset 12, u8) -/
  pt : Nat
  /-- leg 0: EthPort, 0xFF for no leg (offset 16, u8) -/
  port0 : Nat
  /-- leg 0: next-hop MAC (offset 22, b6) -/
  nextHop0 : Bytes
  /-- leg 0: destination UDP port (offset 28, u16) -/
  dstUdp0 : Nat
  /-- leg 0: source UDP port (offset 30, u16) -/
  srcUdp0 : Nat
  /-- leg 0: destination address (offset 32, b16) -/
  dstIp0 : Bytes
  /-- leg 0: source filter (offset 48, b16) -/
  srcIp0 : Bytes
  /-- leg 1: EthPort, 0xFF for no leg (offset 64, u8) -/
  port1 : Nat
  /-- leg 1: next-hop MAC (offset 70, b6) -/
  nextHop1 : Bytes
  /-- leg 1: destination UDP port (offset 76, u16) -/
  dstUdp1 : Nat
  /-- leg 1: source UDP port (offset 78, u16) -/
  srcUdp1 : Nat
  /-- leg 1: destination address (offset 80, b16) -/
  dstIp1 : Bytes
  /-- leg 1: source filter (offset 96, b16) -/
  srcIp1 : Bytes
  /-- policer rate, kb/s (offset 112, u32) -/
  policeKbps : Nat
  /-- policer bucket, bytes (offset 116, u32) -/
  policeBurst : Nat
  /-- kind parameters of R313 or R490 (offset 120, b24) -/
  params : Bytes
deriving DecidableEq, Repr

/-- Reset values of FlowCfg. -/
def FlowCfg.reset : FlowCfg :=
  { kind := 0, flags := 0, dscp := 0, binding := 0, vlan := 0, ssrc := 0, pt := 0, port0 := 0, nextHop0 := List.replicate 6 0, dstUdp0 := 0, srcUdp0 := 0, dstIp0 := List.replicate 16 0, srcIp0 := List.replicate 16 0, port1 := 0, nextHop1 := List.replicate 6 0, dstUdp1 := 0, srcUdp1 := 0, dstIp1 := List.replicate 16 0, srcIp1 := List.replicate 16 0, policeKbps := 0, policeBurst := 0, params := List.replicate 24 0 }

/-- One gate list entry. -/
structure GateEntry where
  /-- duration in ns (08 R351) -/
  interval : Nat
  /-- open queues (08 R351) -/
  gates : BitVec 16
deriving DecidableEq, Repr

/-- GateEntry at reset. -/
def GateEntry.reset : GateEntry where
  interval := 64
  gates := 0

/-- A gate list. -/
structure GateCfg where
  /-- cycle time in ns (08 R351) -/
  cycle : Nat
  /-- base time in ns since the epoch (08 R351) -/
  base : Nat
  /-- entries, none for no gating (08 R351) -/
  entries : List GateEntry
deriving DecidableEq, Repr

/-- GateCfg at reset. -/
def GateCfg.reset : GateCfg where
  cycle := 0
  base := 0
  entries := []

/-- A custom colour matrix. -/
structure MatrixCfg where
  /-- coefficients, S2.13, row by row (13 R570) -/
  m : List Int
  /-- input offsets (13 R570) -/
  pre : List Int
  /-- output offsets (13 R570) -/
  post : List Int
deriving DecidableEq, Repr

/-- MatrixCfg at reset. -/
def MatrixCfg.reset : MatrixCfg where
  m := [8192, 0, 0, 0, 8192, 0, 0, 0, 8192]
  pre := [0, 0, 0]
  post := [0, 0, 0]

/-- One staged setting (01 R30): what it changes and its value. -/
inductive Setting where
  | route (dst src : Nat) (sync : Bool)
  | dstFormat (dst : Nat) (c : Fmt)
  | dstDomain (dst d : Nat)
  | lockDst (dst owner : Nat)
  | unlockDst (dst owner : Nat)
  | srcLoss (src : Nat) (c : LossCfg)
  | srcOverride (src : Nat) (c : OverrideCfg)
  | aoutRoute (a : Nat) (c : AudioRoute)
  | aoutFollow (a : Nat) (c : AudioFollow)
  | aoutDomain (a d : Nat)
  | aoutDelay (a n : Nat)
  | aac (a : Nat) (c : AacCfg)
  | lockAout (a owner : Nat)
  | unlockAout (a owner : Nat)
  | slotMask (p : Nat) (c : SlotMask)
  | flow (f : Nat) (c : FlowCfg) (delivery : Option Nat)
  | dscp (port : Nat) (map : List Nat)
  | queue (q : Nat) (c : QueueCfg)
  | gateList (port : Nat) (c : GateCfg)
  | plane (c : PlaneCfg)
  | stem (s : Nat) (c : StemCfg)
  | rend (r : Nat) (c : RendCfg)
  | rendRate (r : Nat) (c : RateCfg)
  | deliv (d : Nat) (c : DelivCfg)
  | decCtx (x : Nat) (c : DecCfg)
  | head (h : Nat) (c : HeadCfg)
  | headDomain (h d : Nat)
  | videoLayer (l : Nat) (c : VideoLayer)
  | graphicLayer (l : Nat) (c : GraphicLayer)
  | matrix (l : Nat) (c : MatrixCfg)
  | meterFirst (l a : Nat)
deriving DecidableEq, Repr

/-- One part of a committed request that has not landed (01 R36; 02 R90, R94, R113). -/
structure Part where
  /-- arrival order (02 R111) -/
  order : Nat
  /-- arrival time, ns (02 R108) -/
  arrival : Nat
  /-- ring on which the request was posted, 4 for the service port and the in-band flow -/
  ring : Nat
  seq : Nat
  /-- noun and index of the request (02 R92) -/
  noun : Nat
  index : Nat
  owner : Nat
  cookie : Nat
  /-- the request set LAND_EVENT -/
  landEvent : Bool
  domain : Nat
  /-- frame index at which the part lands -/
  frame : Nat
  /-- status given in the reply, or that of a deferral -/
  status : Nat
  items : List Setting
deriving DecidableEq, Repr


/-- One ring of the Gate page: request rings 0-3 with their reply rings, and the event ring 4. -/
structure Ring where
  /-- REQ_BASE_LO/HI, base of the request ring (ring 4: the event ring) (02 R74) -/
  reqBase : BitVec 64
  /-- RPL_BASE_LO/HI, base of the reply ring (02 R74) -/
  rplBase : BitVec 64
  /-- WB_ADDR_LO/HI, address of the writeback word (02 R74) -/
  wbAddr : BitVec 64
  /-- RING_CTRL.enable (02 R75) -/
  enable : Bool
  /-- RING_CTRL.active (02 R75) -/
  active : Bool
  /-- request producer index (ring 4: events written) (02 R71) -/
  producer : BitVec 16
  /-- reply consumer index, from DB_RPL or DB_EVT (02 R71) -/
  rplConsumer : BitVec 16
  /-- RING_STATUS.req_consumer (02 R75) -/
  reqConsumer : BitVec 16
  /-- RING_STATUS.rpl_producer (02 R75) -/
  rplProducer : BitVec 16
  /-- RING_ERR sticky bits (02 R76) -/
  err : BitVec 3
  /-- latched doorbells: producer index and device time of arrival, oldest first (02 R71) -/
  bells : List (Nat × Nat)
deriving DecidableEq, Repr

/-- Ring at reset. -/
def Ring.reset : Ring where
  reqBase := 0
  rplBase := 0
  wbAddr := 0
  enable := false
  active := false
  producer := 0
  rplConsumer := 0
  reqConsumer := 0
  rplProducer := 0
  err := 0
  bells := []

/-- One MSI-X table entry. -/
structure MsixEntry where
  /-- message address (02 R124) -/
  addr : BitVec 64
  /-- message data (02 R124) -/
  data : BitVec 32
  /-- vector mask (02 R124) -/
  mask : Bool
deriving DecidableEq, Repr

/-- MsixEntry at reset. -/
def MsixEntry.reset : MsixEntry where
  addr := 0
  data := 0
  mask := true

/-- The interrupt tree. -/
structure Ints where
  /-- INT_CAUSE (02 R125) -/
  cause : BitVec 32
  /-- INT_ENABLE (02 R125) -/
  enable : BitVec 32
  /-- INT_HOLDOFF (02 R125) -/
  holdoff : BitVec 10
  /-- INT_VECTOR of the 32 sources, reset s (02 R125) -/
  vectors : List (BitVec 6)
  /-- the MSI-X table (02 R124) -/
  msix : List MsixEntry
  /-- pending-bit array (02 R124) -/
  pba : BitVec 64
  /-- vectors with a message held by the hold-off time (02 R126) -/
  heldOff : BitVec 64
  /-- device time in ns plus 1 of the last message of each vector, 0 none (02 R126) -/
  lastSent : Tab Nat
deriving DecidableEq, Repr

/-- Ints at reset. -/
def Ints.reset : Ints where
  cause := 0
  enable := 0
  holdoff := 0
  vectors := (List.range 32).map (BitVec.ofNat 6)
  msix := List.replicate 64 MsixEntry.reset
  pba := 0
  heldOff := 0
  lastSent := []

/-- One event subscription. -/
structure Sub where
  /-- noun code of the events (02 R96) -/
  noun : Nat
  /-- subcode, 0xFF every one (02 R96) -/
  subcode : Nat
  /-- noun index, 0xFFFFFFFF every unit (02 R96) -/
  index : Nat
deriving DecidableEq, Repr

/-- Sub at reset. -/
def Sub.reset : Sub where
  noun := 0
  subcode := 0xFF
  index := 0xFFFFFFFF

/-- Events and subscriptions. -/
structure Events where
  /-- active subscriptions by handle, at most 1024 (02 R96) -/
  subs : Tab (Option Sub)
  /-- event_seq of the next event (02 R92) -/
  seq : BitVec 32
deriving DecidableEq, Repr

/-- Events at reset. -/
def Events.reset : Events where
  subs := []
  seq := 0

/-- A timing domain. -/
structure DomainSt where
  /-- rate code (01 R59) -/
  rate : Nat
  /-- reference raster (01 R59) -/
  raster : Nat
  /-- frame index of the most recent boundary (01 R58) -/
  frame : BitVec 64
  /-- DOMAIN_FRAME_HI as latched by the read of LO (01 R58) -/
  hiLatch : BitVec 32
  /-- frame index of the next boundary (01 R60) -/
  nextFrame : Nat
  /-- device time of the next boundary in ns since the epoch, 0 when disabled (01 R60) -/
  nextNs : Nat
  /-- device time of the most recent boundary (01 R28) -/
  lastNs : Nat
  /-- the shadow bank of the next boundary is not completely rebuilt (01 R33) -/
  shadowBad : Bool
  /-- the rebuild of the next boundary has been reported (03 R160) -/
  rebuilt : Bool
  /-- the swap of the next boundary is armed (03 R160) -/
  armed : Bool
  /-- sources that were members at the swap decision of the next boundary (04 R179) -/
  snap : Option (List Nat)
  /-- the swap decision of the next boundary has been taken (03 R160) -/
  decided : Bool
  /-- bank select of the routing map: the bank that is live (03 R160, R164) -/
  bank : Bool
  /-- device time step still to be absorbed, ns (09 R405) -/
  stepDelta : Int
  /-- device time of the step, ns (09 R405) -/
  stepNs : Nat
  /-- frames that absorbed a step (09 R405) -/
  absorbed : Nat
  /-- the step last absorbed, ns (09 R407) -/
  lastStep : Int
deriving DecidableEq, Repr

/-- DomainSt at reset. -/
def DomainSt.reset : DomainSt where
  rate := 0
  raster := 0
  frame := 0
  hiLatch := 0
  nextFrame := 0
  nextNs := 0
  lastNs := 0
  shadowBad := false
  rebuilt := false
  armed := false
  snap := none
  decided := false
  bank := false
  stepDelta := 0
  stepNs := 0
  absorbed := 0
  lastStep := 0

/-- Mode, boot and sticky registers. -/
structure ModeSt where
  /-- mode_current (01 R54) -/
  current : Mode
  /-- mode_base (01 R54) -/
  base : Mode
  /-- mode_target (01 R54) -/
  target : Mode
  /-- transition_busy (01 R54) -/
  busy : Bool
  /-- Fallow mark of NVM (01 R54) -/
  fallowMark : Bool
  /-- BOOT_SEL as latched (01 R54) -/
  bootSel : Nat
  /-- boot_cause (01 R54) -/
  bootCause : Nat
  /-- device time seconds of the last completed transition (01 R53) -/
  changedS : Nat
  /-- STATE_STICKY (stk_shutdown_record from NVM) (01 R55) -/
  sticky : BitVec 7
  /-- HEARTBEAT.tick_count (01 R57) -/
  heartbeat : BitVec 32
  /-- exit from Dormant blocked after a thermal shutdown (01 R51) -/
  blocked : Bool
  /-- device time at which the running transition was accepted (01 R50) -/
  transitionAt : Nat
  /-- a RESET on Device or watchdog restart has been answered and is due (02 R123) -/
  restartDue : Bool
  /-- the next Training is the first of a newly activated image (16 R683) -/
  firstBoot : Bool
  /-- cause that the next Boot records (01 R54) -/
  bootNext : Nat
  /-- that cause stands until Boot, after a shutdown or a fall of PWR_OK (01 R54) -/
  bootForced : Bool
  /-- Boot has been asked for by a release of SYS_RESET_N or a wake (17 R702) -/
  asked : Bool
  /-- device time in ns at which Boot begins (17 R702) -/
  bootAt : Option Nat
  /-- domains whose swap at their next boundary has been counted as deferred (01 R33; 03 R163) -/
  swapsDeferred : List Nat
deriving DecidableEq, Repr

/-- ModeSt at reset. -/
def ModeSt.reset : ModeSt where
  current := .dormant
  base := .dormant
  target := .dormant
  busy := false
  fallowMark := false
  bootSel := 0
  bootCause := 0
  changedS := 0
  sticky := 0
  heartbeat := 0
  blocked := false
  transitionAt := 0
  restartDue := false
  firstBoot := false
  bootNext := 0
  bootForced := false
  asked := false
  bootAt := none
  swapsDeferred := []

/-- Board-level pins (R56 and the electrical chapter). -/
structure Pins where
  /-- SYS_RESET_N level (17 R708) -/
  sysResetN : Bool
  /-- AON_RESET_N level, released at reset (17 R704) -/
  aonResetN : Bool
  /-- PWR_OK level (01 R56) -/
  pwrOk : Bool
  /-- HOLDUP_OK level, pulled up (01 R56) -/
  holdupOk : Bool
  /-- on-air tally inputs (01 R56) -/
  tally : BitVec 8
  /-- MAIN_PWR_EN output (17 R705) -/
  mainPwrEn : Bool
  /-- DRAM_PWR_EN output (17 R705) -/
  dramPwrEn : Bool
  /-- device time at which MAIN_PWR_EN rose and PWR_OK is awaited (17 R705) -/
  pwrTimer : Option Nat
  /-- device time in ns at which PPS_OUT falls (09 R420) -/
  ppsUntil : Nat
deriving DecidableEq, Repr

/-- Pins at reset. -/
def Pins.reset : Pins where
  sysResetN := false
  aonResetN := true
  pwrOk := false
  holdupOk := true
  tally := 0
  mainPwrEn := false
  dramPwrEn := true
  pwrTimer := none
  ppsUntil := 0

/-- Remaining spares of one reach. -/
structure Spares where
  /-- Clause plots remaining (01 R729) -/
  clause : Nat
  /-- SRAM cells remaining (01 R729) -/
  sram : Nat
  /-- DRAM cells remaining (01 R729) -/
  dram : Nat
  /-- PCS/FEC cells remaining (01 R729) -/
  pcs : Nat
deriving DecidableEq, Repr

/-- Spares at reset. -/
def Spares.reset : Spares where
  clause := 16
  sram := 64
  dram := 64
  pcs := 2

/-- One element recorded in NVM as pending repair. -/
structure Pend where
  /-- fenced unit that holds the element, none for a frame store row (01 R19) -/
  holder : Option (UnitKind × Nat)
  /-- kind of the failing element (01 R729) -/
  elem : Element
  /-- reach whose spares repair it (01 R21) -/
  reach : Nat
  /-- row of the frame store (14 R592) -/
  row : Nat
deriving DecidableEq, Repr

/-- Pend at reset. -/
def Pend.reset : Pend where
  holder := none
  elem := .other
  reach := 0
  row := 0

/-- Fencing, spares and retirement. -/
structure Repair where
  /-- units fenced in service (01 R19) -/
  fenced : List (UnitKind × Nat)
  /-- units retired, held in NVM (01 R21) -/
  retired : List (UnitKind × Nat)
  /-- elements pending repair, held in NVM (01 R19) -/
  pending : List Pend
  /-- spares of reaches 0-3, held in NVM (01 R729) -/
  spares : List Spares
  /-- DRAM cells marked retired, held in NVM (01 R729) -/
  cellsRetired : Nat
  /-- seconds of the last Training that remapped or retired in reaches 0-3 (01 R61) -/
  repairedS : List Nat
  /-- inventory generation (02 R118) -/
  generation : BitVec 32
deriving DecidableEq, Repr

/-- Repair at reset. -/
def Repair.reset : Repair where
  fenced := []
  retired := []
  pending := []
  spares := List.replicate 4 Spares.reset
  cellsRetired := 0
  repairedS := [0, 0, 0, 0]
  generation := 0

/-- A Sluice source port. -/
structure SrcSt where
  /-- current format (03 R142) -/
  fmt : Fmt
  /-- measured frame period in ps, 0 never measured (04 R176) -/
  periodPs : Nat
  /-- the source has a signal (04 R189) -/
  signal : Bool
  /-- the source has had a signal (04 R193) -/
  ever : Bool
  /-- consecutive complete valid frames toward the return (04 R193) -/
  good : Nat
  /-- frames written since the last return (04 R210) -/
  written : Nat
  /-- sequence number of the newest complete frame, 0 none (04 R182) -/
  newest : Nat
  /-- buffers in the frame-sync ring (04 R182) -/
  ring : Nat
  /-- device time in ns at which the signal was lost (04 R191) -/
  lostNs : Nat
  /-- bit d-1 for each member domain (04 R177) -/
  members : BitVec 8
  /-- consecutive frames inside -6..+6 lines against domains 1-8 (04 R177) -/
  runs : List Nat
  /-- offset against domains 1-8 in 1/16 line (04 R176) -/
  offsets : List Int
  /-- loss action (04 R192) -/
  loss : LossCfg
  /-- input format override (04 R200) -/
  ovr : OverrideCfg
  /-- generator setting in force (03 R151) -/
  gen : GenCfg
  /-- generator setting awaiting the next frame start (03 R151) -/
  genNext : Option GenCfg
  /-- accepted payload ID (04 R198) -/
  vpid : Option (BitVec 32)
  /-- payload ID of the last frame (04 R198) -/
  vpidLast : Option (BitVec 32)
  /-- raster measured in the last frame (04 R193) -/
  rasterLast : Nat
  /-- rate code measured in the last frame (04 R197) -/
  rateLast : Nat
  /-- sampling, colour, raster and rate code that the accepted payload ID codes (04 R197, R199) -/
  vCoding : Nat × Nat × Nat × Nat
  /-- link 1-4 that the accepted payload ID declares, 0 none (04 R201) -/
  link : Nat
  /-- skew of the link in the last frame, 1/16 line (04 R201) -/
  skew : Nat
  /-- consecutive frames with a consistent quad-link group (04 R201) -/
  linkGood : Nat
  /-- consecutive frames without a payload ID (04 R199) -/
  vpidAbsent : Nat
  /-- device time of the last packet of a receive flow (04 R189) -/
  lastPacketNs : Nat
  /-- playout slots that hold a posted frame (14 R586) -/
  slots : BitVec 8
  /-- playout posts waiting: slot and post time in ns (14 R586) -/
  posts : List (Nat × Nat)
  /-- playout slot being shown (14 R586) -/
  playSlot : Option Nat
  /-- device time in ns of the first active line of the frame in progress, 0 between frames (04 R176, R190) -/
  arrivalNs : Nat
  /-- the newest complete frame (04 R182) -/
  pic : Frame
  /-- the complete frame before it, in the same ring (04 R196) -/
  prev : Frame
  /-- the frame that a generator is producing (03 R151) -/
  making : Frame
  /-- samples of the last frame of a Rill lane (04 R201) -/
  lane : Picture
  /-- the lane has completed a frame since its gang's last one (04 R201) -/
  fresh : Bool
  /-- ancillary packets of the newest complete frame (07 R322) -/
  anc : List AncPacket
  /-- ancillary packets of the last frame of a Rill lane (07 R322) -/
  laneAnc : List AncPacket
  /-- ancillary packets received for frames not yet complete, each with its RTP timestamp (07 R322) -/
  ancWait : List (Nat × AncPacket)
  /-- the writer's buffer has overflowed in the frame in progress (14 R599) -/
  spoiled : Bool
deriving DecidableEq, Repr

/-- SrcSt at reset. -/
def SrcSt.reset : SrcSt where
  fmt := Fmt.reset
  periodPs := 0
  signal := false
  ever := false
  good := 0
  written := 0
  newest := 0
  ring := 3
  lostNs := 0
  members := 0
  runs := [0, 0, 0, 0, 0, 0, 0, 0]
  offsets := [0, 0, 0, 0, 0, 0, 0, 0]
  loss := LossCfg.reset
  ovr := OverrideCfg.reset
  gen := GenCfg.reset
  genNext := none
  vpid := none
  vpidLast := none
  rasterLast := 0
  rateLast := 0
  vCoding := (0, 0, 0, 0)
  link := 0
  skew := 0
  linkGood := 0
  vpidAbsent := 0
  lastPacketNs := 0
  slots := 0
  posts := []
  playSlot := none
  arrivalNs := 0
  pic := .empty
  prev := .empty
  making := .empty
  lane := []
  fresh := false
  anc := []
  laneAnc := []
  ancWait := []
  spoiled := false

/-- A Sluice destination port. -/
structure DstSt where
  /-- source of the live bank (03 R153) -/
  src : Nat
  /-- FORCE_SYNC of the live route (03 R153) -/
  sync : Bool
  /-- path served: 0 none, 1 direct, 2 frame sync, 3 recirculation (03 R157) -/
  path : Nat
  /-- converter attached, 0xFF none (03 R157) -/
  conv : Nat
  /-- live format (03 R143) -/
  fmt : Fmt
  /-- current domain (03 R152) -/
  domain : Nat
  /-- owner tag holding the lock (03 R171) -/
  lock : Nat
  /-- a setting was deferred and has not landed (03 R158) -/
  deferred : Bool
  /-- frame index of the most recent landing (03 R158) -/
  lastFrame : Nat
  /-- the destination awaits its own switching line (01 R29) -/
  switchDue : Bool
  /-- source the output carries since its last switching line (01 R29) -/
  onAir : Nat
  /-- sequence number last taken by the frame-sync reader, 0 none (04 R184) -/
  lastSeq : Nat
  /-- the loss action is shown (04 R191) -/
  showLoss : Bool
  /-- destination frames of the loss action shown (04 R191) -/
  lossFrames : Nat
  /-- output stopped by a mode change (01 R47) -/
  stopped : Bool
  /-- the mode does not serve the source of the live route: the loss action is shown (01 R47; 03 R174) -/
  cut : Bool
  /-- entry of the shadow bank: source and FORCE_SYNC (03 R164) -/
  shadow : Nat × Bool
  /-- what the frame in progress shows; `empty` for the source's frame as it comes, on the direct path (04 R183, R190, R191) -/
  shows : Frame
  /-- the frame before the one shown, in the same ring (04 R196) -/
  showsPrev : Frame
  /-- samples of the frame in progress that are replaced (04 R180, R196) -/
  patches : List Patch
  /-- ancillary packets of the frame in progress (07 R322) -/
  anc : List AncPacket
  /-- number of the frame in progress, by its alignment point (07 R318) -/
  frameNo : Nat
  /-- probe settings (04 R208) -/
  probe : ProbeCfg
  /-- last signatures of the lead and members 1-3 (04 R209) -/
  sigs : List (BitVec 32)
  /-- frame index of the frame signed (04 R209) -/
  sigFrame : Nat
  /-- a previous signature exists (04 R206) -/
  signed : Bool
  /-- luma samples above black_level in that frame (04 R209) -/
  above : Nat
  /-- consecutive black frames (04 R205) -/
  blackRun : Nat
  /-- consecutive unchanged frames (04 R206) -/
  sameRun : Nat
  /-- consecutive frames not black while the alarm stands (04 R205) -/
  notBlack : Nat
  /-- consecutive frames not unchanged while the alarm stands (04 R206) -/
  notSame : Nat
  /-- capture slots held by the host (14 R588) -/
  held : BitVec 8
  /-- hold mask that governs the frame being written (14 R623) -/
  capHeld : BitVec 8
  /-- frames captured (14 R588) -/
  capSeq : Nat
  /-- capture slot last written (14 R588) -/
  capLast : Nat
deriving DecidableEq, Repr

/-- DstSt at reset. -/
def DstSt.reset : DstSt where
  src := 0xFFFF
  sync := false
  path := 0
  conv := 0xFF
  fmt := Fmt.reset
  domain := 1
  lock := 0
  deferred := false
  lastFrame := 0
  switchDue := false
  onAir := 0xFFFF
  lastSeq := 0
  showLoss := false
  lossFrames := 0
  stopped := false
  cut := false
  shadow := (0xFFFF, false)
  shows := .empty
  showsPrev := .empty
  patches := []
  anc := []
  frameNo := 0
  probe := ProbeCfg.reset
  sigs := [0, 0, 0, 0]
  sigFrame := 0
  signed := false
  above := 0
  blackRun := 0
  sameRun := 0
  notBlack := 0
  notSame := 0
  held := 0
  capHeld := 0
  capSeq := 0
  capLast := 0xFF

/-- An audio input channel. -/
structure AinSt where
  /-- converter state (05 R231) -/
  state : AinState
  /-- lead of a 96 kHz channel (05 R215) -/
  rate96 : Bool
  /-- measured ratio in ppb (05 R231) -/
  ratio : Int
  /-- consecutive measurements within 1 ppm (05 R231) -/
  lockRun : Nat
  /-- consecutive measurements within 900 ppm (05 R231) -/
  slipRun : Nat
  /-- measurements with activity and a ratio within 10,000 ppm while in No signal (05 R231) -/
  present : Nat
  /-- buffer fill in samples (05 R232) -/
  fill : Nat
  /-- cnt_audio_slip when Slip was entered (05 R256) -/
  slipsAt : Nat
  /-- the pair led by this channel is non-audio (05 R247) -/
  nonaudio : Bool
  /-- channel status non-audio bit (05 R247) -/
  csNonaudio : Bool
deriving DecidableEq, Repr

/-- AinSt at reset. -/
def AinSt.reset : AinSt where
  state := .noSignal
  rate96 := false
  ratio := 0
  lockRun := 0
  slipRun := 0
  present := 0
  fill := 8
  slipsAt := 0
  nonaudio := false
  csNonaudio := false

/-- An audio output channel. -/
structure AoutSt where
  /-- route setting (05 R235) -/
  route : AudioRoute
  /-- follow setting (reset of aout 0-2047: follows dst k) (05 R239) -/
  follow : AudioFollow
  /-- lead of a 96 kHz channel of a network send flow (05 R215) -/
  rate96 : Bool
  /-- live input (05 R254) -/
  live : Nat
  /-- live gain (05 R254) -/
  gain : Int
  /-- live MUTE and INVERT (05 R254) -/
  flags : BitVec 8
  /-- domain of aout 4128-16383 (05 R237) -/
  domain : Nat
  /-- delay in samples (05 R238) -/
  delay : Nat
  /-- AAC programme (05 R250) -/
  aac : AacCfg
  /-- programme change taken at the next access unit (05 R251) -/
  aacNext : Option AacCfg
  /-- device time of the first sample of the next access unit (05 R251) -/
  aacAt : Nat
  /-- owner tag holding the lock (05 R242) -/
  lock : Nat
  /-- landed settings await the audio boundary (05 R243) -/
  due : Bool
  /-- device time of that audio boundary (05 R243) -/
  dueNs : Nat
  /-- a landed change of delay awaits the audio boundary (05 R238) -/
  moved : Bool
  /-- the stop of the old signal is being searched or ramped (05 R244) -/
  stopping : Bool
  /-- the start of the new signal waits or is searched (05 R244) -/
  starting : Bool
  /-- input being stopped (05 R244) -/
  oldIn : Nat
  /-- gain and flags under which it is stopped (05 R244) -/
  oldGain : Int
  oldFlags : BitVec 8
  /-- device time of the audio boundary of the search (05 R244) -/
  searchNs : Nat
  /-- samples that a stop caused by a loss of activity searches, none for other stops (05 R246) -/
  stopFill : Option Nat
  /-- device time at which the stop of the old signal ended (05 R244) -/
  stopEndNs : Nat
  /-- muted because the input pair is non-audio (05 R248) -/
  nonMuted : Bool
  /-- samples inserted (positive) or removed by device time steps (09 R407) -/
  adjust : Int
  /-- steps of its domain already absorbed (09 R407) -/
  steps : Nat
deriving DecidableEq, Repr

/-- AoutSt at reset. -/
def AoutSt.reset : AoutSt where
  route := AudioRoute.reset
  follow := AudioFollow.reset
  rate96 := false
  live := 0xFFFF
  gain := 0
  flags := 0
  domain := 1
  delay := 0
  aac := AacCfg.reset
  aacNext := none
  aacAt := 0
  lock := 0
  due := false
  dueNs := 0
  moved := false
  stopping := false
  starting := false
  oldIn := 0xFFFF
  oldGain := 0
  oldFlags := 0
  searchNs := 0
  stopFill := none
  stopEndNs := 0
  nonMuted := false
  adjust := 0
  steps := 0

/-- An audio port. -/
structure AportSt where
  /-- settings (05 R223) -/
  cfg : AudioPortCfg
  /-- device time at which the ramp of a disabling ends and the pins idle (05 R223) -/
  idleNs : Nat
  /-- input slot mask, none for the reset mask (every slot below slots) (05 R226) -/
  maskIn : Option (BitVec 64)
  /-- output slot mask, none for the reset mask (05 R226) -/
  maskOut : Option (BitVec 64)
  /-- follower bit count wrong (05 R224) -/
  clockBad : Bool
deriving DecidableEq, Repr

/-- AportSt at reset. -/
def AportSt.reset : AportSt where
  cfg := AudioPortCfg.reset
  idleNs := 0
  maskIn := none
  maskOut := none
  clockBad := false

/-- A Flume, Rill input or Rill output lane. -/
structure LaneSt where
  /-- figures of merit in a row below the ready threshold less the fom_margin of the lane's plane (08 R363) -/
  marginRun : Nat
  /-- lane state (06 R298) -/
  state : LaneState
  /-- adaptation step (06 R279) -/
  step : AdaptStep
  /-- Flume mode or Rill rate code (06 R262) -/
  mode : Nat
  /-- figure of merit, 0.1 dB (06 R277) -/
  fom : Nat
  /-- transmit setting of a Flume lane (06 R271) -/
  tx : FlumeTx
  /-- the host has set the taps, so the preset no longer governs (06 R271) -/
  txSet : Bool
  /-- link-trained values in use (06 R284) -/
  trained : Option FlumeTx
  /-- transmit setting of a Rill output (06 R273) -/
  rtx : RillTx
  /-- receive setting (06 R276) -/
  rx : LaneRx
  /-- live CTLE step (06 R283) -/
  ctle : Nat
  /-- test tools (06 R286) -/
  tools : LaneTools
  /-- checker locked (06 R287) -/
  chkLock : Bool
  /-- eye scan running (06 R289) -/
  eye : Option EyeScan
  /-- parameters of the last scan (06 R289) -/
  eyeHead : EyeScan
  /-- error counts of the last scan (06 R289) -/
  eyeCounts : List Nat
  /-- device time seconds at its completion (06 R289) -/
  eyeS : Nat
  /-- asymmetry trims (06 R291) -/
  trim : LaneTrim
  /-- I2C binding (06 R294) -/
  bind : I2cBind
  /-- rate hooks (06 R296) -/
  hooks : RateHooks
  /-- hook writes not yet done (06 R296) -/
  hookLeft : Nat
  /-- rate class last written, true for HD (06 R296) -/
  hookClass : Option Bool
  /-- consecutive FoM values more than 3.0 dB below the threshold (06 R282) -/
  lowRun : Nat
  /-- consecutive FoM values at or above the threshold in Qualify (06 R279) -/
  okRun : Nat
  /-- device time since which the FoM has stayed at or above the threshold (06 R282) -/
  okSince : Option Nat
  /-- Qualify failures in a row (06 R282) -/
  fails : Nat
  /-- device time at which Qualify began (06 R282) -/
  qualNs : Nat
  /-- device time seconds at which the lane last became Ready (06 R298) -/
  readyS : Nat
deriving DecidableEq, Repr

/-- LaneSt at reset. -/
def LaneSt.reset : LaneSt where
  marginRun := 0
  state := .quiet
  step := .detect
  mode := 0
  fom := 0
  tx := FlumeTx.reset
  txSet := false
  trained := none
  rtx := RillTx.reset
  rx := LaneRx.reset
  ctle := 8
  tools := LaneTools.reset
  chkLock := false
  eye := none
  eyeHead := EyeScan.reset
  eyeCounts := []
  eyeS := 0
  trim := LaneTrim.reset
  bind := I2cBind.reset
  hooks := RateHooks.reset
  hookLeft := 0
  hookClass := none
  lowRun := 0
  okRun := 0
  okSince := none
  fails := 0
  qualNs := 0
  readyS := 0

/-- One queued I2C transaction. -/
structure I2cXact where
  /-- lane index (06 R295) -/
  lane : Nat
  /-- transaction number (06 R295) -/
  number : Nat
  /-- bytes to write (06 R295) -/
  write : Bytes
  /-- bytes to read (06 R295) -/
  rlen : Nat
  /-- REPEATED_START (06 R295) -/
  flags : BitVec 8
  /-- a rate hook write (06 R296) -/
  hook : Bool
  /-- device address (06 R294) -/
  address : Nat
  /-- bus speed code (06 R294) -/
  speed : Nat
deriving DecidableEq, Repr

/-- I2cXact at reset. -/
def I2cXact.reset : I2cXact where
  lane := 0
  number := 0
  write := []
  rlen := 0
  flags := 0
  hook := false
  address := 0
  speed := 0

/-- One I2C controller. -/
structure I2cBus where
  /-- transactions, the front one in progress (06 R295) -/
  queue : List I2cXact
  /-- number of the next transaction (06 R295) -/
  next : BitVec 16
deriving DecidableEq, Repr

/-- I2cBus at reset. -/
def I2cBus.reset : I2cBus where
  queue := []
  next := 0

/-- An Ethernet port. -/
structure PortSt where
  /-- loopback test frames lost in a row (08 R363) -/
  loopLost : Nat
  /-- settings (07 R305) -/
  cfg : PortCfg
  /-- link state (07 R335) -/
  state : LinkState
  /-- local fault (07 R335) -/
  localFault : Bool
  /-- remote fault (07 R335) -/
  remoteFault : Bool
  /-- device time seconds at the last link up (07 R335) -/
  upS : Nat
  /-- device time in ns at the last link up (07 R363) -/
  upNs : Nat
  /-- answers sent in the running second (07 R309) -/
  answers : Nat
  /-- second in which those answers were sent (07 R309) -/
  answerS : Nat
  /-- an IGMPv2 or MLDv1 querier has been heard (07 R328) -/
  oldIgmp : Bool
  /-- report repeats waiting: due time in ns and record (07 R328) -/
  repeats : List (Nat × Bytes)
  /-- PTP role and settings (07 R329) -/
  ptp : PtpCfg
  /-- masters heard by the follower (07 R330) -/
  masters : List PtpMaster
  /-- selected master (07 R330) -/
  master : Option PtpMaster
  /-- device time of the last Sync from a master (07 R330) -/
  syncNs : Nat
  /-- origin time of the last Sync, 0.25 ns (07 R330) -/
  syncT1 : Int
  /-- its receive time, 0.25 ns (07 R330) -/
  syncT2 : Int
  /-- transmit time of the last Delay_Req, 0.25 ns (07 R330) -/
  reqT3 : Int
  /-- its sequence number (07 R330) -/
  reqSeq : Nat
  /-- a Delay_Req awaits its Delay_Resp (07 R330) -/
  reqOut : Bool
  /-- path delay that the last exchange measured, 0.25 ns (07 R330) -/
  delay : Int
  /-- offset from the master that it measured, 0.25 ns (07 R330) -/
  offset : Int
  /-- device time at which the port took the FOLLOWER role (08 R363) -/
  roleNs : Nat
  /-- ESMC quality level last received, 0 none (09 R385) -/
  ssm : Nat
  /-- device time of its reception (09 R385) -/
  ssmNs : Nat
deriving DecidableEq, Repr

/-- PortSt at reset. -/
def PortSt.reset : PortSt where
  loopLost := 0
  cfg := PortCfg.reset
  state := .disabled
  localFault := false
  remoteFault := false
  upS := 0
  upNs := 0
  answers := 0
  answerS := 0
  oldIgmp := false
  repeats := []
  ptp := PtpCfg.reset
  masters := []
  master := none
  syncNs := 0
  syncT1 := 0
  syncT2 := 0
  reqT3 := 0
  reqSeq := 0
  reqOut := false
  delay := 0
  offset := 0
  roleNs := 0
  ssm := 0
  ssmNs := 0

/-- One packet in a merge stage or receive buffer. -/
structure Packet where
  /-- sequence number (07 R320) -/
  seq : Nat
  /-- leg that supplied it (07 R320) -/
  leg : Nat
  /-- device time of its first arrival (07 R320) -/
  atNs : Nat
  /-- RTP timestamp (07 R319) -/
  stamp : Nat
  /-- RTP marker (07 R319) -/
  marker : Bool
  /-- payload (07 R320) -/
  bytes : Bytes
deriving DecidableEq, Repr

/-- Packet at reset. -/
def Packet.reset : Packet where
  seq := 0
  leg := 0
  atNs := 0
  stamp := 0
  marker := false
  bytes := []

/-- One leg of a flow. -/
structure LegSt where
  /-- policer tokens in 1/256 byte (07 R325) -/
  tokens : Nat
  /-- policer time in ns (07 R325) -/
  tLast : Nat
  /-- device time of the last packet, 0 none (07 R321) -/
  lastNs : Nat
  /-- device time since which packets come without a gap of 4 ms (07 R321) -/
  since : Nat
  /-- cnt_leg_lost at the start of the loss episode (07 R338) -/
  lostAt : Nat
  /-- device time of the last policer drop, 0 none (07 R326) -/
  dropNs : Nat
deriving DecidableEq, Repr

/-- LegSt at reset. -/
def LegSt.reset : LegSt where
  tokens := 0
  tLast := 0
  lastNs := 0
  since := 0
  lostAt := 0
  dropNs := 0

/-- A flow entry. -/
structure FlowSt where
  /-- live entry (07 R312) -/
  cfg : FlowCfg
  /-- the two legs (07 R320) -/
  legs : List LegSt
  /-- packets held in the merge stage (07 R320) -/
  merge : List Packet
  /-- next sequence number to leave the stage (07 R320) -/
  nextSeq : Option Nat
  /-- receive buffer of kinds 0x07 and 0x08 (07 R324) -/
  buffer : List Packet
  /-- a change was deferred and has not landed (07 R336) -/
  deferred : Bool
  /-- domain 0 frame index of the last landing (07 R336) -/
  lastFrame : Nat
  /-- delivery that created a kind 0x09 or 0x0A entry (07 R311) -/
  byDelivery : Option Nat
  /-- next RTP sequence number sent, extended to 32 bits for video (07 R318, R320) -/
  txSeq : BitVec 32
  /-- entry under which the frame or packet in progress of a send flow finishes, and the landing that replaced it (07 R316) -/
  old : Option FlowCfg
  landNs : Nat
  /-- sequence numbers requested by NACK (07 R324) -/
  nackReq : List Nat
  /-- packets of the current frame released (08 R347) -/
  paced : Nat
  /-- a single-homed video entry whose plane has taken up the right waits for its next frame (08 R368) -/
  waits : Bool
  /-- segments of the video frame being received (07 R319) -/
  rows : List Segment
  /-- RTP timestamp of that frame, none between frames (07 R319) -/
  rowStamp : Option Nat
  /-- segments of the video frame last ended, and its RTP timestamp (07 R319) -/
  ended : List Segment
  endedStamp : Nat
  /-- sample instant at which the audio last released plays out (05 R230) -/
  playFrom : Nat
  /-- the samples of that release, a list of channels for each instant, missing packets as silence (05 R230; 07 R319) -/
  play : List (List Int)
deriving DecidableEq, Repr

/-- FlowSt at reset. -/
def FlowSt.reset : FlowSt where
  cfg := FlowCfg.reset
  legs := [LegSt.reset, LegSt.reset]
  merge := []
  nextSeq := none
  buffer := []
  deferred := false
  lastFrame := 0
  byDelivery := none
  txSeq := 0
  nackReq := []
  old := none
  landNs := 0
  paced := 0
  waits := false
  rows := []
  rowStamp := none
  ended := []
  endedStamp := 0
  playFrom := 0
  play := []

/-- One frame held in an egress queue. -/
structure QFrame where
  /-- length, destination MAC to FCS (08 R343) -/
  len : Nat
  /-- device time at which it was queued (08 R346) -/
  atNs : Nat
  /-- send entry it belongs to, 0xFFFF none (08 R366) -/
  flow : Nat
  /-- traffic of a duty of the right (08 R366) -/
  duty : Bool
deriving DecidableEq, Repr

/-- QFrame at reset. -/
def QFrame.reset : QFrame where
  len := 0
  atNs := 0
  flow := 0xFFFF
  duty := false

/-- An egress queue. -/
structure QueueSt where
  /-- live settings (limit reset 262,144 for queue 2) (08 R342) -/
  cfg : QueueCfg
  /-- frames held, head first (08 R340) -/
  frames : List QFrame
  /-- deficit in bytes (08 R345) -/
  deficit : Nat
  /-- samples since the last clear (08 R357) -/
  samples : Nat
  /-- greatest depth sampled (08 R357) -/
  depthMax : Nat
  /-- greatest head-of-line delay sampled, ns (08 R357) -/
  delayMax : Nat
  /-- depth histogram (08 R356) -/
  depthHist : List Nat
  /-- delay histogram (08 R356) -/
  delayHist : List Nat
deriving DecidableEq, Repr

/-- QueueSt at reset. -/
def QueueSt.reset : QueueSt where
  cfg := QueueCfg.reset
  frames := []
  deficit := 0
  samples := 0
  depthMax := 0
  delayMax := 0
  depthHist := List.replicate 16 0
  delayHist := List.replicate 16 0

/-- Gate lists and selection of one port. -/
structure GateSt where
  /-- operational list (08 R352) -/
  live : GateCfg
  /-- its takeover time (08 R352) -/
  startNs : Nat
  /-- pending list (08 R352) -/
  pending : Option GateCfg
  /-- its takeover time, ns since the epoch (08 R352) -/
  takeover : Nat
  /-- DSCP map (08 R341) -/
  dscp : List Nat
  /-- weighted queue whose turn it is (08 R345) -/
  turn : Nat
  /-- that queue has taken its quantum in this turn (08 R345) -/
  earned : Bool
  /-- device time of the gate change last made (08 R351) -/
  changeNs : Nat
  /-- device time at which the transmitter is free (08 R344) -/
  freeNs : Nat
deriving DecidableEq, Repr

/-- GateSt at reset. -/
def GateSt.reset : GateSt where
  live := GateCfg.reset
  startNs := 0
  pending := none
  takeover := 0
  dscp := (List.range 64).map (fun v => 4 + v / 8)
  turn := 4
  earned := false
  changeNs := 0
  freeNs := 0

/-- One plane supervisor. -/
structure PlaneSt where
  /-- diagnosis settings (08 R365) -/
  diag : DiagCfg
  /-- checks failing now (08 R374) -/
  failed : BitVec 5
  /-- device time since which each failed condition has been clear (08 R364) -/
  clearNs : List (Option Nat)
  /-- the checks await their first evaluation since mode entry (08 R731) -/
  fresh : Bool
  /-- standing request at the arbiter (08 R367) -/
  request : Bool
  /-- device time since which the plane has stood at level 2 (08 R374) -/
  level2Ns : Option Nat
  /-- readings of the duty ports' FEC counters over the last 100 ms, newest first: device time, codewords, uncorrectable codewords (08 R363) -/
  fecHist : List (Nat × Nat × Nat)
deriving DecidableEq, Repr

/-- PlaneSt at reset. -/
def PlaneSt.reset : PlaneSt where
  diag := DiagCfg.reset
  failed := 0
  clearNs := [none, none, none, none, none]
  fresh := true
  request := false
  level2Ns := none
  fecHist := []

/-- The right. -/
structure Levee where
  /-- management address and device-wide settings (08 R360) -/
  cfg : PlaneCfg
  /-- holder of the lease (08 R361) -/
  holder : Option Nat
  /-- expiry time of the lease, ns (08 R361) -/
  expiry : Nat
  /-- last renewal, ns (08 R361) -/
  renewed : Nat
  /-- the holder has given up and no longer renews (08 R366) -/
  gaveUp : Bool
  /-- moment at which the last holder's duties stopped, ns (08 R368) -/
  stoppedNs : Nat
  /-- start of the running handover interval (08 R370) -/
  holdFrom : Option Nat
  /-- grant that ended the last handover interval (08 R370) -/
  grantNs : Option Nat
  /-- sources shown as hold: end of the hold in ns, 0 while it is not yet fixed (08 R370) -/
  holds : Tab Nat
  /-- handback pending (08 R374) -/
  handback : Bool
  /-- device time seconds of the last grant (08 R374) -/
  changedS : Nat
  /-- device time of the entry to a mode that runs Flume lanes (08 R363) -/
  entryNs : Nat
deriving DecidableEq, Repr

/-- Levee at reset. -/
def Levee.reset : Levee where
  cfg := PlaneCfg.reset
  holder := none
  expiry := 0
  renewed := 0
  gaveUp := false
  stoppedNs := 0
  holdFrom := none
  grantNs := none
  holds := []
  handback := false
  changedS := 0
  entryNs := 0

/-- A reference input. -/
structure RefSt where
  /-- settings (09 R381) -/
  cfg : RefCfg
  /-- activity present (09 R383) -/
  active : Bool
  /-- qualified (09 R384) -/
  qualified : Bool
  /-- disqualified at least once since AON_RESET_N (09 R384) -/
  everDisq : Bool
  /-- device time seconds of the last disqualification (09 R411) -/
  disqS : Nat
  /-- last frequency reading, ppb (09 R411) -/
  freq : Int
  /-- readings taken since the reference was enabled (09 R383) -/
  readings : Nat
  /-- last reading between the limits (09 R411) -/
  between : Bool
  /-- device time at which the qualification timer started (09 R384) -/
  timer : Option Nat
  /-- since when it has been active with a rank that min_rank allows, none when not (09 R385) -/
  rankTimer : Option Nat
  /-- phase error, 0.25 ns (09 R411) -/
  phase : Int
  /-- clockClass or SSM code (09 R411) -/
  quality : Nat
deriving DecidableEq, Repr

/-- RefSt at reset. -/
def RefSt.reset : RefSt where
  cfg := RefCfg.reset
  active := false
  qualified := false
  everDisq := false
  disqS := 0
  freq := 0
  readings := 0
  between := false
  timer := none
  rankTimer := none
  phase := 0
  quality := 0

/-- The time loop. -/
structure Headgate where
  /-- loop settings (09 R409) -/
  cfg : TimebaseCfg
  /-- state (09 R390) -/
  state : HgState
  /-- selected reference (09 R413) -/
  selected : Option Nat
  /-- bandwidth stage (09 R391) -/
  stage : Nat
  /-- device time at which the stage was entered (09 R391) -/
  stageNs : Nat
  /-- device time since which the phase error has stayed below the stage threshold (09 R391) -/
  belowNs : Option Nat
  /-- device time since which the phase error has exceeded 1,000 ns in Locked (09 R390) -/
  aboveNs : Option Nat
  /-- live bandwidth in mHz (09 R410) -/
  bw : Nat
  /-- frequency against the calibrated oscillator, 0.001 ppb (09 R410) -/
  freq : Int
  /-- PHASE_ERR, 0.25 ns (09 R415) -/
  phaseErr : Int
  /-- time offset still to be removed, ns (09 R410) -/
  slewLeft : Int
  /-- device time of the last loop update (09 R400) -/
  loopNs : Nat
  /-- the offset of a newly selected time reference has not been measured yet (09 R388) -/
  takePhase : Bool
  /-- start of the bridge in progress (09 R389) -/
  bridging : Option Nat
  /-- clock identity of the old follower's master (09 R389) -/
  bridgeId : Nat
  /-- device time at which Holdover was entered (09 R390) -/
  holdNs : Nat
  /-- history, newest first: device time ns and mean frequency in 0.001 ppb (09 R394) -/
  history : List (Nat × Int)
  /-- HG_STICKY (09 R414) -/
  sticky : BitVec 9
  /-- INCR_NS (09 R415) -/
  incrNs : Nat
  /-- increment fraction (09 R415) -/
  incrFrac : BitVec 32
  /-- INCR_FRAC as latched (09 R415) -/
  incrLatch : BitVec 32
  /-- TIME_NS as last read (09 R412) -/
  snapNs : BitVec 32
  /-- TIME_S as latched (09 R412) -/
  snapS : BitVec 48
  /-- TIME_FRAC as latched (09 R412) -/
  snapFrac : BitVec 16
  /-- state as latched (09 R412) -/
  snapState : BitVec 3
deriving DecidableEq, Repr

/-- Headgate at reset. -/
def Headgate.reset : Headgate where
  cfg := TimebaseCfg.reset
  state := .freeRun
  selected := none
  stage := 0
  stageNs := 0
  belowNs := none
  aboveNs := none
  bw := 100000
  freq := 0
  phaseErr := 0
  slewLeft := 0
  loopNs := 0
  takePhase := false
  bridging := none
  bridgeId := 0
  holdNs := 0
  history := []
  sticky := 1
  incrNs := 40
  incrFrac := 0
  incrLatch := 0
  snapNs := 0
  snapS := 0
  snapFrac := 0
  snapState := 0

/-- A capture block. -/
structure CapSt where
  /-- enable (09 R416) -/
  enable : Bool
  /-- falling (09 R416) -/
  falling : Bool
  /-- event (09 R416) -/
  event : Bool
  /-- cap_ns (09 R416) -/
  ns : BitVec 32
  /-- seconds of the newest capture (09 R416) -/
  sec : BitVec 48
  /-- fraction of the newest capture (09 R416) -/
  frac : BitVec 16
  /-- cap_s_lo and cap_s_hi as latched (09 R416) -/
  latchS : BitVec 48
  /-- cap_frac as latched (09 R416) -/
  latchFrac : BitVec 16
  /-- valid (09 R416) -/
  valid : Bool
  /-- stk_cap_overrun (09 R416) -/
  overrun : Bool
  /-- cap_count (09 R416) -/
  count : BitVec 32
  /-- device time of the last captured edge (09 R416) -/
  lastNs : Option Nat
deriving DecidableEq, Repr

/-- CapSt at reset. -/
def CapSt.reset : CapSt where
  enable := false
  falling := false
  event := false
  ns := 0
  sec := 0
  frac := 0
  latchS := 0
  latchFrac := 0
  valid := false
  overrun := false
  count := 0
  lastNs := none

/-- A host trigger. -/
structure TrigSt where
  /-- settings, with the count left (09 R418) -/
  cfg : TrigCfg
  /-- device time of the next firing, ns (09 R419) -/
  next : Option Nat
  /-- device time in ns at which its pins fall (09 R419) -/
  highUntil : Nat
  /-- device time of the last firing, ns (09 R419) -/
  lastFire : Nat
deriving DecidableEq, Repr

/-- TrigSt at reset. -/
def TrigSt.reset : TrigSt where
  cfg := TrigCfg.reset
  next := none
  highUntil := 0
  lastFire := 0

/-- What a stem finds for one block of 16 x 16 luma samples (10 R439). -/
structure BlockResult where
  /-- for each reference frame, the two best vectors in luma samples with their costs -/
  motion : List (List (Vec × Nat))
  /-- estimated cost of intra coding -/
  intra : Nat
  /-- luma variance, times the square of the number of samples -/
  activity : Nat
deriving DecidableEq, Repr

/-- A 6-parameter affine model in units of 1/65,536: a sample at `(x, y)` comes from `(a x + b y + c, d x + e y + f)` (10 R439). -/
structure Affine where
  a : Int
  b : Int
  c : Int
  d : Int
  e : Int
  f : Int
deriving DecidableEq, Repr

/-- What a stem's analysis of a picture produces (10 R439). -/
structure Analysis where
  /-- its blocks, row by row -/
  blocks : List BlockResult
  /-- sum over blocks of the lesser of intra cost and best inter cost -/
  complexity : Nat
  /-- global motion, none for identity -/
  model : Option Affine
deriving DecidableEq, Repr

/-- Analysis at reset. -/
def Analysis.reset : Analysis where
  blocks := []
  complexity := 0
  model := none

/-- A frame that a stem's feed carried (10 R429, R440). -/
structure FeedFrame where
  frame : Nat
  pic : Picture
  /-- its colour byte, resolved (03 R136) -/
  colour : Nat
deriving DecidableEq, Repr

/-- What an encoder carries from picture to picture of a back-fill stream (12 R519, R521). -/
structure CoderSt where
  /-- luma of the pictures analysed, newest first (10 R440) -/
  lumas : List Picture
  /-- analysis of the last picture (10 R439) -/
  last : Analysis
  /-- coded blocks of the last picture (10 R445) -/
  blocks : List CodedBlock
  /-- pictures since the stream began or its last intra picture, that one included (10 R437) -/
  pics : Nat
  /-- bits of the pictures that the last 10 s hold, newest first (11 R481) -/
  spent : List Nat
deriving DecidableEq, Repr

/-- CoderSt at reset. -/
def CoderSt.reset : CoderSt where
  lumas := []
  last := Analysis.reset
  blocks := []
  pics := 0
  spent := []

/-- One feed picture whose work a stem has in hand. -/
structure StemPic where
  /-- feed frame (11 R470) -/
  frame : Nat
  /-- field of an interlaced feed, 0 otherwise (10 R433) -/
  field : Nat
  /-- its end instant E(N) (11 R470) -/
  endNs : Nat
  /-- its delivery instant D(N) (11 R470) -/
  dueNs : Nat
  /-- its analysis deadline A(N) (11 R473) -/
  analysisNs : Nat
  /-- latency_q that governs it (11 R470) -/
  latencyQ : Nat
  /-- scene_pct that governs it, 0 with SCENE_DETECT clear (10 R441) -/
  scenePct : Nat
  /-- stem settings that govern it (10 R429) -/
  cfg : StemCfg
  /-- a scene cut whatever SCENE_DETECT holds (10 R432) -/
  forced : Bool
  /-- what its analysis found (10 R439) -/
  result : Analysis
  /-- bands of its analysis (10 R459) -/
  bands : Nat
  /-- bands still running or waiting (11 R473) -/
  left : List Nat
  /-- its analysis has ended and its renditions are released (12 R512) -/
  done : Bool
deriving DecidableEq, Repr

/-- StemPic at reset. -/
def StemPic.reset : StemPic where
  frame := 0
  field := 0
  endNs := 0
  dueNs := 0
  analysisNs := 0
  latencyQ := 4
  scenePct := 60
  cfg := StemCfg.reset
  forced := false
  result := Analysis.reset
  bands := 0
  left := []
  done := false

/-- A stem. -/
structure StemSt where
  /-- live settings (10 R443) -/
  cfg : StemCfg
  /-- settings that governed before the last landing (10 R429) -/
  old : StemCfg
  /-- feed frame from which the live settings govern (10 R429) -/
  fromFrame : Nat
  /-- the stem analyses its feed (clear while stopped by the mode) (10 R465) -/
  running : Bool
  /-- it ran before the last landing or stop (10 R463) -/
  oldRunning : Bool
  /-- percentage of blocks whose inter cost exceeded intra cost (10 R465) -/
  lastPct : Nat
  /-- frame index of the last scene cut (10 R465) -/
  lastCut : Nat
  /-- feed frame that is a scene cut because a take landed (10 R432) -/
  cutAt : Option Nat
  /-- feed frame to be analysed next (11 R470) -/
  frame : Nat
  /-- its field (10 R433) -/
  field : Nat
  /-- pictures in hand, oldest first (11 R472) -/
  pics : List StemPic
  /-- frame index of the feed's frame in progress (10 R429) -/
  carrying : Nat
  /-- frames that the feed carried before it, newest first (10 R440) -/
  feed : List FeedFrame
  /-- first feed frame that analysis may refer to (10 R440, R443) -/
  refFrom : Nat
  /-- analysis of the last picture (10 R439, R444) -/
  last : Analysis
deriving DecidableEq, Repr

/-- StemSt at reset. -/
def StemSt.reset : StemSt where
  cfg := StemCfg.reset
  old := StemCfg.reset
  fromFrame := 0
  running := false
  oldRunning := false
  lastPct := 0
  lastCut := 0
  cutAt := none
  frame := 0
  field := 0
  pics := []
  carrying := 0
  feed := []
  refFrom := 0
  last := Analysis.reset

/-- Colour code points of ITU-T H.273 (10 R438). -/
structure ColourPoints where
  primaries : Nat
  transfer : Nat
  matrix : Nat
  /-- chroma location type -/
  location : Nat
deriving DecidableEq, Repr

/-- The buffer model that a stream signals (11 R475). -/
structure BufferModel where
  rate : Nat
  cpb : Nat
  cbr : Bool
  delayUs : Nat
deriving DecidableEq, Repr

/-- What the parameter sets or the sequence header of a stream say (10 R433 to R438, R448; 11 R475). -/
structure StreamParams where
  codec : Nat
  profile : Nat
  level : Nat
  high : Bool
  /-- size after conformance cropping, or frame size -/
  width : Nat
  height : Nat
  /-- size coded, padded to the codec's block size -/
  codedW : Nat
  codedH : Nat
  depth : Nat
  chroma : Nat
  refs : Nat
  /-- field_seq_flag or field pictures -/
  fields : Bool
  /-- entropy coding sync -/
  sync : Bool
  colour : ColourPoints
  model : BufferModel
deriving DecidableEq, Repr

/-- Type of a coded picture (10 R437, R450, R451, R454). -/
inductive PicType where
  | idrNLp | idr | keyFrame | gdr | trailR | interB | interP | interFrame
deriving DecidableEq, Repr

/-- What goes with a coded picture in its access unit (10 R433, R438, R442, R450, R454; 11 R475, R476). -/
inductive Signal where
  | delimiter
  | vps
  | sps (p : StreamParams)
  | pps
  | sequenceHeader (p : StreamParams)
  | bufferingPeriod (delayUs : Nat)
  /-- picture timing with pic_struct, 0 for a frame, 1 and 2 for a first and second field -/
  | pictureTiming (struct : Nat)
  | picture (t : PicType)
  /-- recovery point SEI with exact_match_flag 1 and broken_link_flag 0 -/
  | recoveryPoint (count : Nat)
  /-- ph_recovery_poc_cnt -/
  | gdrRecovery (count : Nat)
  | virtualBoundary (column : Nat)
  /-- metadata OBU of type 6 -/
  | metadata (payload : Bytes)
  /-- global motion parameters against the frame before, of the rotzoom or the affine type -/
  | globalMotion (rotzoom : Bool) (m : Affine)
deriving DecidableEq, Repr

/-- One picture that a rendition has in hand. -/
structure RendPic where
  /-- feed frame (10 R429) -/
  frame : Nat
  /-- its field (10 R433) -/
  field : Nat
  /-- settings that govern it (10 R429) -/
  cfg : RendCfg
  /-- rate control that governs it (10 R429) -/
  rate : RateCfg
  /-- it begins a stream, with the cause (10 R450) -/
  starts : Option Nat
  /-- its partitions have been released (12 R512) -/
  released : Bool
  /-- an intra picture (10 R451) -/
  intra : Bool
  /-- it begins a refresh cycle (10 R452) -/
  cycleStart : Bool
  /-- refresh_period of the cycle it completes, 0 otherwise (10 R456) -/
  cycleEnd : Nat
  /-- a refresh boundary falls before it (10 R455) -/
  boundary : Bool
  /-- partitions (10 R459) -/
  parts : Nat
  /-- partitions still running or waiting (12 R512) -/
  left : List Nat
  /-- partitions that reached their cut time, with the rows that were left (11 R474) -/
  cut : List (Nat × Nat)
  /-- rows coded in floor mode because of cut times (11 R474) -/
  rowsCut : Nat
  /-- rows coded in floor mode because of the budget (11 R483) -/
  rowsBudget : Nat
  /-- the access unit, once packaged (12 R512) -/
  unit : Option Bytes
  /-- picture index within the refresh cycle (10 R452) -/
  pos : Nat
  /-- refresh_period of the cycle it belongs to, 0 for none (10 R452) -/
  period : Nat
  /-- earlier pictures that it may refer to (10 R437) -/
  avail : Nat
  /-- the target within the buffer model, once its coding has begun (11 R479) -/
  target : Option Nat
  /-- header bits, once a partition has ended (11 R483) -/
  header : Option Nat
  /-- what the stem found for the frame, the stem's settings and its picture's size (10 R439, R445) -/
  found : Analysis
  stem : StemCfg
  size : Nat × Nat
  /-- planes of the picture to be coded (10 R438) -/
  input : List Picture
  /-- what goes with it in its access unit (10 R450; 11 R475) -/
  signals : List Signal
  /-- its partitions coded so far (10 R445; 11 R483) -/
  outs : List (Nat × PartOutput)
deriving DecidableEq, Repr

/-- RendPic at reset. -/
def RendPic.reset : RendPic where
  frame := 0
  field := 0
  cfg := RendCfg.reset
  rate := RateCfg.reset
  starts := none
  released := false
  intra := false
  cycleStart := false
  cycleEnd := 0
  boundary := false
  parts := 0
  left := []
  cut := []
  rowsCut := 0
  rowsBudget := 0
  unit := none
  pos := 0
  period := 0
  avail := 0
  target := none
  header := none
  found := Analysis.reset
  stem := StemCfg.reset
  size := (0, 0)
  input := []
  signals := []
  outs := []

/-- A rendition. -/
structure RendSt where
  /-- live settings (10 R447) -/
  cfg : RendCfg
  /-- live rate-control settings (11 R476) -/
  rate : RateCfg
  /-- settings that governed before the last landing (10 R429) -/
  old : RendCfg
  /-- rate control that governed before the last landing (10 R429) -/
  oldRate : RateCfg
  /-- feed frame from which the live settings govern (10 R429) -/
  fromFrame : Nat
  /-- the stream runs (10 R466) -/
  running : Bool
  /-- a stream ran before the last landing (10 R449) -/
  oldRunning : Bool
  /-- feed frame whose picture begins a stream and the cause (10 R450) -/
  startAt : Option (Nat × Nat)
  /-- pictures in hand, oldest first (11 R472) -/
  hand : List RendPic
  /-- fullness that the model holds at the next removal (11 R479) -/
  nextFull : Nat
  /-- shed state (10 R462) -/
  shed : Bool
  /-- marked to stop at its next refresh boundary (10 R462) -/
  shedMark : Bool
  /-- a stream start waits for the first frame the rendition codes, with its event cause (10 R450) -/
  startPend : Option Nat
  /-- the old stream ends before this feed frame and its END record is not written yet (11 R499) -/
  endAt : Option Nat
  /-- a refresh cycle is in progress (10 R452) -/
  cycling : Bool
  /-- the next picture is intra, after an uncorrectable reference (14 R590) -/
  forceIntra : Bool
  /-- pictures since the stream began or its last intra picture, that one included: those that later ones may refer to (10 R437) -/
  pics : Nat
  /-- picture index within the cycle, or pictures since the last intra picture (10 R466) -/
  cyclePos : Nat
  /-- refresh mode in force (10 R456) -/
  refMode : Nat
  /-- refresh period in force (10 R456) -/
  refPeriod : Nat
  /-- frame index of the last intra picture or cycle start (10 R466) -/
  lastRap : Nat
  /-- restarts (10 R466) -/
  restarts : Nat
  /-- fullness of the buffer model at the last removal, bits (11 R479) -/
  fullness : Nat
  /-- budget of the last picture (11 R501) -/
  budget : Nat
  /-- bits of the last access unit (11 R501) -/
  lastBits : Nat
  /-- floor rows of the last picture (11 R501) -/
  floorRows : Nat
  /-- mean quantiser of the last picture (11 R501) -/
  qpAvg : Nat
  /-- removal time ns and bits of the pictures of the last 10 s (11 R481) -/
  spent : List (Nat × Nat)
  /-- times of the pictures with floor rows in the last second (11 R485) -/
  floorNs : List Nat
  /-- time of the last floor row, ns (11 R485) -/
  lastFloorNs : Nat
  /-- coded blocks of the last picture (10 R445) -/
  lastBlocks : List CodedBlock
deriving DecidableEq, Repr

/-- RendSt at reset. -/
def RendSt.reset : RendSt where
  cfg := RendCfg.reset
  rate := RateCfg.reset
  old := RendCfg.reset
  oldRate := RateCfg.reset
  fromFrame := 0
  running := false
  oldRunning := false
  startAt := none
  hand := []
  nextFull := 0
  shed := false
  shedMark := false
  startPend := none
  endAt := none
  cycling := false
  forceIntra := false
  pics := 0
  cyclePos := 0
  refMode := 0
  refPeriod := 0
  lastRap := 0
  restarts := 0
  fullness := 0
  budget := 0
  lastBits := 0
  floorRows := 0
  qpAvg := 0
  spent := []
  floorNs := []
  lastFloorNs := 0
  lastBlocks := []

/-- A delivery. -/
structure DelivSt where
  /-- live settings (11 R487) -/
  cfg : DelivCfg
  /-- waits for a start point (11 R489) -/
  waiting : Bool
  /-- feed frame of its landing (11 R489) -/
  fromFrame : Nat
  /-- running (11 R489) -/
  running : Bool
  /-- discarding (11 R499) -/
  discarding : Bool
  /-- units discarded in the episode (11 R504) -/
  discards : Nat
  /-- the next unit or PCR carries a discontinuity (11 R490) -/
  discont : Bool
  /-- the next unit is the first of its stream (11 R498) -/
  first : Bool
  /-- record producer index (11 R494) -/
  recProd : BitVec 32
  /-- data producer count (11 R494) -/
  dataProd : BitVec 32
  /-- consumer record index last read (11 R494) -/
  recCons : BitVec 32
  /-- consumer data count last read (11 R494) -/
  dataCons : BitVec 32
  /-- data bytes free at the last check (11 R502) -/
  freeBytes : Nat
  /-- records free at the last check (11 R502) -/
  freeRecs : Nat
  /-- units since the last CHUNK_START (11 R498) -/
  chunkPos : Nat
  /-- continuity counters by PID (11 R490) -/
  cc : Tab (BitVec 4)
  /-- time of the next PAT and PMT, ns (11 R490) -/
  tableNs : Nat
  /-- time of the next PCR, ns (11 R490) -/
  pcrNs : Nat
  /-- scheduled send time of the next RTP packet, ns (11 R492) -/
  tsNext : Nat
  /-- transport packets waiting in the multiplex (11 R490) -/
  tsQueue : List Bytes
  /-- RIST packets kept for retransmission: sequence number, time ns, packet (11 R493) -/
  sent : List (Nat × Nat × Bytes)
  /-- time of the next sender report, ns (11 R493) -/
  srNs : Nat
  /-- retransmissions of the last 100 ms: time ns and bits (11 R493) -/
  retrans : List (Nat × Nat)
  /-- RTP packets sent since the start, for the sender reports (11 R493) -/
  packets : Nat
  /-- profile and channels of the AAC stream in the host ring, 0 none (11 R497) -/
  asc : Nat
deriving DecidableEq, Repr

/-- DelivSt at reset. -/
def DelivSt.reset : DelivSt where
  cfg := DelivCfg.reset
  waiting := false
  fromFrame := 0
  running := false
  discarding := false
  discards := 0
  discont := false
  first := false
  recProd := 0
  dataProd := 0
  recCons := 0
  dataCons := 0
  freeBytes := 0
  freeRecs := 0
  chunkPos := 0
  cc := []
  tableNs := 0
  pcrNs := 0
  tsNext := 0
  tsQueue := []
  sent := []
  srNs := 0
  retrans := []
  packets := 0
  asc := 0

/-- One item in a Rider queue. -/
structure Item where
  /-- class (12 R526) -/
  cls : ItemClass
  /-- priority level (12 R507) -/
  level : Nat
  /-- stem, rendition, job handle or decode context (12 R526) -/
  unit : Nat
  /-- frame index or picture number (12 R526) -/
  picture : Nat
  /-- band or partition number (10 R457) -/
  part : Nat
  /-- atomic flow, 0 none (12 R509) -/
  flow : Nat
  /-- time at which it entered the queue (12 R526) -/
  atNs : Nat
  /-- release instant (12 R512) -/
  relNs : Nat
  /-- a preempted item with a saved context (12 R512) -/
  resumed : Bool
  /-- run again after a fence (12 R513) -/
  rerun : Bool
  /-- field of the picture (10 R433) -/
  field : Nat
deriving DecidableEq, Repr

/-- Item at reset. -/
def Item.reset : Item where
  cls := .control
  level := 15
  unit := 0
  picture := 0
  part := 0
  flow := 0
  atNs := 0
  relNs := 0
  resumed := false
  rerun := false
  field := 0

/-- One entry of a trace ring. -/
structure TraceEntry where
  /-- device time (12 R526) -/
  timeNs : Nat
  /-- entry number (12 R526) -/
  seq : BitVec 32
  /-- action code (12 R526) -/
  action : Nat
  /-- consumer kind (12 R526) -/
  consumer : Nat
  /-- core or worker number (12 R526) -/
  index : Nat
  /-- the item concerned (12 R526) -/
  item : Item
deriving DecidableEq, Repr

/-- TraceEntry at reset. -/
def TraceEntry.reset : TraceEntry where
  timeNs := 0
  seq := 0
  action := 0
  consumer := 0
  index := 0
  item := Item.reset

/-- One consumer of a Rider. -/
structure Core where
  /-- item in service (12 R508) -/
  busy : Option Item
  /-- blocked asking for an item (12 R508) -/
  asking : Bool
  /-- fast clock running (01 R42) -/
  awake : Bool
  /-- time at which the item in service started, ns (12 R512) -/
  since : Nat
  /-- the core has been asked to stop, since this time in ns (12 R512) -/
  stopAt : Option Nat
  /-- trace entries written in the running second (12 R525) -/
  entries : Nat
  /-- that second (12 R525) -/
  entryS : Nat
  /-- the dispatch of the item in service was recorded (12 R525) -/
  traced : Bool
deriving DecidableEq, Repr

/-- Core at reset. -/
def Core.reset : Core where
  busy := none
  asking := false
  awake := false
  since := 0
  stopAt := none
  entries := 0
  entryS := 0
  traced := false

/-- The Rider of one reach. -/
structure RiderSt where
  /-- Clause queue (12 R506) -/
  clause : List Item
  /-- decode queue (12 R506) -/
  decode : List Item
  /-- control queue (12 R506) -/
  control : List Item
  /-- items an internal producer offers again (12 R510) -/
  refused : List Item
  /-- trace ring, oldest first (12 R525) -/
  trace : List TraceEntry
  /-- next entry number (12 R526) -/
  traceSeq : BitVec 32
  /-- dispatches counted for sampling (12 R525) -/
  dispatches : Nat
deriving DecidableEq, Repr

/-- RiderSt at reset. -/
def RiderSt.reset : RiderSt where
  clause := []
  decode := []
  control := []
  refused := []
  trace := []
  traceSeq := 0
  dispatches := 0

/-- Rider settings of the device. -/
structure RiderDev where
  /-- trace enabled (12 R525) -/
  traceOn : Bool
  /-- one dispatch in 2^n is recorded (12 R525) -/
  sampleLog2 : Nat
  /-- reaches traced (12 R525) -/
  reaches : BitVec 4
deriving DecidableEq, Repr

/-- RiderDev at reset. -/
def RiderDev.reset : RiderDev where
  traceOn := false
  sampleLog2 := 0
  reaches := 0

/-- A back-fill job that has not ended, or the record of a flow. -/
structure JobSt where
  /-- the handle names a job not yet ended (12 R515) -/
  used : Bool
  /-- descriptor (12 R515) -/
  desc : JobDesc
  /-- rate-control block of the descriptor (12 R515) -/
  rate : RateCfg
  /-- bytes 12-55 of the descriptor (12 R521) -/
  raw : Bytes
  /-- owner tag of the SUBMIT (12 R523) -/
  owner : Nat
  /-- order of submission (12 R518) -/
  order : Nat
  /-- reach (12 R517) -/
  reach : Nat
  /-- pictures coded (12 R540) -/
  done : Nat
  /-- bytes written (12 R540) -/
  bytes : Nat
  /-- times preempted (12 R540) -/
  preempts : Nat
  /-- floor rows coded (12 R540) -/
  floorRows : Nat
  /-- core time used, ns (12 R540) -/
  coreNs : Nat
  /-- a picture is in service (12 R540) -/
  running : Bool
  /-- its item is preempted (12 R540) -/
  preempted : Bool
  /-- access unit waiting for output room (12 R520) -/
  waitOut : Option Bytes
  /-- next read of the consumer word, ns (12 R520) -/
  retryNs : Nat
  /-- cancelled, to stop at the end of the picture in service (12 R523) -/
  cancel : Bool
  /-- held by the mode (12 R524) -/
  held : Bool
  /-- its stream has begun (12 R523) -/
  begun : Bool
  /-- record producer index (12 R520) -/
  recProd : BitVec 32
  /-- data producer count (12 R520) -/
  dataProd : BitVec 32
  /-- consumer record index last read (12 R520) -/
  recCons : BitVec 32
  /-- consumer data count last read (12 R520) -/
  dataCons : BitVec 32
  /-- units since the last CHUNK_START (12 R520) -/
  chunkPos : Nat
  /-- refresh position (12 R521) -/
  cyclePos : Nat
  /-- a refresh cycle is in progress (12 R521) -/
  cycling : Bool
  /-- the next picture is intra, after an uncorrectable reference (14 R590) -/
  forceIntra : Bool
  /-- buffer model fullness at the next removal, bits (12 R519) -/
  fullness : Nat
  /-- record flags of the unit that waits (12 R520) -/
  waitFlags : Nat
  /-- sap_type of the unit that waits (12 R520) -/
  waitSap : Nat
  /-- target of the picture in service within the buffer model (11 R479; 12 R519) -/
  target : Nat
  /-- what its encoder carries from picture to picture (12 R519) -/
  coder : CoderSt
deriving DecidableEq, Repr

/-- JobSt at reset. -/
def JobSt.reset : JobSt where
  used := false
  desc := JobDesc.reset
  rate := RateCfg.reset
  raw := []
  owner := 0
  order := 0
  reach := 0
  done := 0
  bytes := 0
  preempts := 0
  floorRows := 0
  coreNs := 0
  running := false
  preempted := false
  waitOut := none
  retryNs := 0
  cancel := false
  held := false
  begun := false
  recProd := 0
  dataProd := 0
  recCons := 0
  dataCons := 0
  chunkPos := 0
  cyclePos := 0
  cycling := false
  forceIntra := false
  fullness := 0
  waitFlags := 0
  waitSap := 0
  target := 0
  coder := CoderSt.reset

/-- What a host flow number remembers of its last job. -/
structure HostFlow where
  /-- bytes 12-55 of its descriptor (12 R521) -/
  raw : Bytes
  /-- it ended the stream (12 R521) -/
  endStream : Bool
  /-- number that follows its last picture (12 R521) -/
  nextPicture : Nat
  /-- it failed (12 R539) -/
  failed : Bool
  /-- a job of the flow has ended (12 R521) -/
  used : Bool
  /-- record producer index of the stream (12 R520) -/
  recProd : BitVec 32
  /-- data producer count of the stream (12 R520) -/
  dataProd : BitVec 32
  /-- units since the last CHUNK_START (12 R520) -/
  chunkPos : Nat
  /-- refresh position (12 R521) -/
  cyclePos : Nat
  /-- a refresh cycle is in progress (12 R521) -/
  cycling : Bool
  /-- buffer model fullness (12 R521) -/
  fullness : Nat
  /-- references and what else the encoder carries over (12 R521) -/
  coder : CoderSt
deriving DecidableEq, Repr

/-- HostFlow at reset. -/
def HostFlow.reset : HostFlow where
  raw := []
  endStream := false
  nextPicture := 0
  failed := false
  used := false
  recProd := 0
  dataProd := 0
  chunkPos := 0
  cyclePos := 0
  cycling := false
  fullness := 0
  coder := CoderSt.reset

/-- A decode context. -/
structure CtxSt where
  /-- live settings (12 R528) -/
  cfg : DecCfg
  /-- a block of a reference picture was uncorrectable, and the next picture decoded is concealed (14 R590) -/
  blockBad : Bool
  /-- a random access point or recovery has been decoded (12 R534) -/
  ready : Bool
  /-- concealment in progress (12 R535) -/
  concealing : Bool
  /-- device time of the last presented picture or of the enable (12 R534) -/
  sinceNs : Nat
  /-- device time of the last transport packet (12 R541) -/
  inputNs : Nat
  /-- codec of the stream (12 R541) -/
  codec : Nat
  /-- profile indication (12 R541) -/
  profile : Nat
  /-- level (12 R541) -/
  level : Nat
  /-- decoded width (12 R541) -/
  width : Nat
  /-- decoded height (12 R541) -/
  height : Nat
  /-- offset of the PCR model, ns (12 R533) -/
  pcrOffset : Option Int
  /-- sender clock against device time (12 R541) -/
  pcrPpb : Int
  /-- PCR model locked (12 R541) -/
  pcrLocked : Bool
  /-- decoded pictures waiting to be presented (12 R533) -/
  dpb : List DecodedPicture
  /-- PTS and planes of the pictures decoded, newest first, from which a substitute is taken (12 R535, R536) -/
  recent : List (Nat × List Picture)
  /-- planes that stand in for the last missing reference (12 R535) -/
  substitute : List Picture
  /-- concealed pictures in the episode (12 R543) -/
  episode : Nat
  /-- device time has stepped: the next PCR seeds the model again (12 R539) -/
  reseed : Bool
  /-- the next late picture belongs to the absorbing frame (12 R539) -/
  forgive : Bool
  /-- the last IRAP picture cleared concealment (12 R537) -/
  skipRasl : Bool
  /-- pictures presented by this context (12 R543) -/
  frame : Nat
  /-- the newest frame carries the CONCEALED mark (12 R538) -/
  showConcealed : Bool
deriving DecidableEq, Repr

/-- CtxSt at reset. -/
def CtxSt.reset : CtxSt where
  cfg := DecCfg.reset
  blockBad := false
  ready := false
  concealing := false
  sinceNs := 0
  inputNs := 0
  codec := 0
  profile := 0
  level := 0
  width := 0
  height := 0
  pcrOffset := none
  pcrPpb := 0
  pcrLocked := false
  dpb := []
  recent := []
  substitute := []
  episode := 0
  reseed := false
  forgive := false
  skipRasl := false
  frame := 0
  showConcealed := false

/-- A compositor head. -/
structure HeadSt where
  /-- live settings (13 R546) -/
  cfg : HeadCfg
  /-- domain of the head (13 R549) -/
  domain : Nat
  /-- the head composes frames (13 R576) -/
  running : Bool
  /-- freeze detector settings (13 R574) -/
  freeze : FreezeCfg
  /-- stk_layer_degraded (13 R576) -/
  degraded : Bool
  /-- signature of the last frame (13 R576) -/
  sig : BitVec 32
  /-- a previous signature exists (13 R574) -/
  signed : Bool
  /-- consecutive unchanged frames (13 R574) -/
  sameRun : Nat
  /-- consecutive frames not unchanged while the alarm stands (13 R574) -/
  notSame : Nat
  /-- frame index of the last flip (13 R576) -/
  flipFrame : Nat
  /-- device time of the last flip, ns (13 R576) -/
  flipNs : Nat
deriving DecidableEq, Repr

/-- HeadSt at reset. -/
def HeadSt.reset : HeadSt where
  cfg := HeadCfg.reset
  domain := 1
  running := false
  freeze := FreezeCfg.reset
  degraded := false
  sig := 0
  signed := false
  sameRun := 0
  notSame := 0
  flipFrame := 0
  flipNs := 0

/-- A compositor layer. -/
structure LayerSt where
  /-- video layer settings (13 R554) -/
  video : VideoLayer
  /-- graphic layer settings (13 R559) -/
  graphic : GraphicLayer
  /-- custom matrix (13 R570) -/
  matrix : MatrixCfg
  /-- first ain of an audio meter (13 R562) -/
  meterFirst : Nat
  /-- state byte (13 R577) -/
  state : BitVec 8
  /-- step of the line buffer sequence in use (13 R565) -/
  step : Nat
  /-- vertical taps in use (13 R577) -/
  taps : Nat
  /-- horizontal box factor (13 R577) -/
  kH : Nat
  /-- vertical box factor (13 R577) -/
  kV : Nat
  /-- line-buffer samples in use (13 R577) -/
  need : Nat
  /-- sequence number of the source frame shown (13 R577) -/
  srcFrame : Nat
  /-- the frame the layer shows in the head frame (13 R556) -/
  pic : Frame
  /-- the frame before it in the same ring (04 R196) -/
  prev : Frame
  /-- samples of the frame that are replaced, or pixels of a surface shown as transparent (04 R196; 14 R590) -/
  patches : List Patch
  /-- head frames of the loss action shown (13 R556) -/
  lossFrames : Nat
  /-- lines that each bar of a meter marks, and the device time in ns until which it does (13 R562) -/
  marks : List (Nat × Nat)
  /-- surface buffer 0, pixel y*3840+x, zero where not listed (13 R560) -/
  surface0 : Tab (BitVec 32)
  /-- surface buffer 1 (13 R560) -/
  surface1 : Tab (BitVec 32)
deriving DecidableEq, Repr

/-- LayerSt at reset. -/
def LayerSt.reset : LayerSt where
  video := VideoLayer.reset
  graphic := GraphicLayer.reset
  matrix := MatrixCfg.reset
  meterFirst := 0
  state := 0
  step := 1
  taps := 0
  kH := 0
  kV := 0
  need := 0
  srcFrame := 0
  pic := .empty
  prev := .empty
  patches := []
  lossFrames := 0
  marks := []
  surface0 := []
  surface1 := []

/-- The GLC-3200 compatibility page. -/
structure Readback where
  /-- arm (13 R578) -/
  arm : Bool
  /-- head (13 R578) -/
  head : Nat
  /-- scan-out entry (13 R578) -/
  slot : Nat
  /-- SMPTE line number (13 R578) -/
  line : Nat
  /-- word_offset (13 R578) -/
  offset : BitVec 16
  /-- done (13 R578) -/
  done : Bool
  /-- stk_rb_invalid (13 R578) -/
  invalid : Bool
  /-- rb_frame (13 R578) -/
  frame : BitVec 32
  /-- captured words (13 R578) -/
  words : List (BitVec 10)
deriving DecidableEq, Repr

/-- Readback at reset. -/
def Readback.reset : Readback where
  arm := false
  head := 0
  slot := 0
  line := 0
  offset := 0
  done := false
  invalid := false
  frame := 0
  words := List.replicate 256 0

/-- A Culvert register set. -/
structure Shadow where
  /-- source address (14 R605) -/
  src : BitVec 64
  /-- destination address (14 R605) -/
  dst : BitVec 64
  /-- bytes to move (14 R605) -/
  length : BitVec 32
  /-- direction (14 R605) -/
  dir : BitVec 2
  /-- int_half (14 R605) -/
  intHalf : Bool
  /-- int_full (14 R605) -/
  intFull : Bool
  /-- gauge_en (14 R605) -/
  gaugeEn : Bool
  /-- gauge_unit (14 R605) -/
  gaugeUnit : BitVec 4
  /-- gauge_final (14 R605) -/
  gaugeFinal : Bool
deriving DecidableEq, Repr

/-- Shadow at reset. -/
def Shadow.reset : Shadow where
  src := 0
  dst := 0
  length := 0
  dir := 0
  intHalf := false
  intFull := false
  gaugeEn := false
  gaugeUnit := 0
  gaugeFinal := false

/-- A host Culvert channel. -/
structure CulvertSt where
  /-- shadow set (14 R605) -/
  shadow : Shadow
  /-- active transfer (busy) (14 R605) -/
  active : Option Shadow
  /-- armed (14 R605) -/
  armed : Bool
  /-- half (14 R605) -/
  half : Bool
  /-- full (14 R605) -/
  full : Bool
  /-- zero_length (14 R605) -/
  zero : Bool
  /-- stk_arm_overrun (14 R605) -/
  overrun : Bool
  /-- aborted (14 R605) -/
  aborted : Bool
  /-- stk_error (14 R605) -/
  stkError : Bool
  /-- error code (14 R605) -/
  error : Nat
  /-- an abort waits for outstanding responses (14 R611) -/
  aborting : Bool
  /-- done_bytes (14 R605) -/
  done : BitVec 32
  /-- count (14 R605) -/
  count : BitVec 32
deriving DecidableEq, Repr

/-- CulvertSt at reset. -/
def CulvertSt.reset : CulvertSt where
  shadow := Shadow.reset
  active := none
  armed := false
  half := false
  full := false
  zero := false
  overrun := false
  aborted := false
  stkError := false
  error := 0
  aborting := false
  done := 0
  count := 0

/-- A DRAM stack. -/
structure StackSt where
  /-- power state, partial-array self-refresh in Dormant (14 R600) -/
  power : DramPower
  /-- refreshes postponed for each bank (14 R594) -/
  postponed : Tab Nat
  /-- device times of the corrected reads of a row within 24 h (14 R592) -/
  rowHits : Tab (List Nat)
  /-- poisoned 32-byte blocks by device address (14 R591) -/
  poisoned : List Nat
  /-- blocks corrected by the pass in progress (14 R624) -/
  scrubbed : Nat
  /-- device time at which the pass began (14 R591) -/
  scrubNs : Nat
  /-- page policy counter of each bank, 2 where not listed (14 R593) -/
  pageCtr : Tab (BitVec 2)
  /-- row that each bank keeps open (14 R593) -/
  openRow : Tab (Option Nat)
deriving DecidableEq, Repr

/-- StackSt at reset. -/
def StackSt.reset : StackSt where
  power := .partialRefresh
  postponed := []
  rowHits := []
  poisoned := []
  scrubbed := 0
  scrubNs := 0
  pageCtr := []
  openRow := []

/-- Memory service of a reach. -/
structure ReachMem where
  /-- RT ports in panic (14 R597) -/
  panic : List Nat
  /-- device time of the last starvation while alm_rt_starved stands (14 R599) -/
  starvedNs : Option Nat
  /-- contents outside the keep region lost, to be zeroed at Standby exit (14 R602) -/
  windowLost : Bool
deriving DecidableEq, Repr

/-- ReachMem at reset. -/
def ReachMem.reset : ReachMem where
  panic := []
  starvedNs := none
  windowLost := false

/-- A Gauge unit. -/
structure GaugeSt where
  /-- settings (14 R619) -/
  cfg : GaugeCfg
  /-- running value, the initial value of polynomial 1 (14 R619) -/
  value : BitVec 32
  /-- device address and length of a feed in progress (14 R620) -/
  feed : Option (Nat × Nat)
  /-- Culvert channel feeding the unit (14 R620) -/
  culvert : Option Nat
deriving DecidableEq, Repr

/-- GaugeSt at reset. -/
def GaugeSt.reset : GaugeSt where
  cfg := GaugeCfg.reset
  value := 0xFFFFFFFF
  feed := none
  culvert := none

/-- A shutdown record. -/
structure ShutRec where
  /-- rec_seq (15 R642) -/
  seq : Nat
  /-- device time of the trip, ns (15 R642) -/
  timeNs : Nat
  /-- sensor that tripped (15 R642) -/
  sensor : Nat
  /-- mode_current at the trip (15 R642) -/
  mode : Nat
  /-- mode_base at the trip (15 R642) -/
  base : Nat
  /-- acknowledged (15 R642) -/
  acked : Bool
  /-- enforcement was active (15 R642) -/
  enforced : Bool
  /-- tripping reading (15 R642) -/
  temp : Int
  /-- hottest reading of each die (15 R642) -/
  dieMax : List Int
  /-- last module power (15 R642) -/
  power : Nat
  /-- shed_w at the trip (15 R642) -/
  shedW : Nat
  /-- enforcement step reached (15 R642) -/
  step : Nat
deriving DecidableEq, Repr

/-- ShutRec at reset. -/
def ShutRec.reset : ShutRec where
  seq := 0
  timeNs := 0
  sensor := 0
  mode := 0
  base := 0
  acked := false
  enforced := false
  temp := 0
  dieMax := [0, 0, 0, 0]
  power := 0
  shedW := 0
  step := 0

/-- A junction sensor. -/
structure SensorSt where
  /-- last reading, 0.125 C (15 R649) -/
  temp : Int
  /-- failed (15 R630) -/
  failed : Bool
  /-- device time since which the reading has repeated (15 R630) -/
  sameNs : Nat
  /-- greatest change of another sensor of the die since then (15 R630) -/
  others : Int
  /-- the sensor has been sampled (15 R629) -/
  sampled : Bool
  /-- readings of the die when the repetition began (15 R630) -/
  base : List Int
deriving DecidableEq, Repr

/-- SensorSt at reset. -/
def SensorSt.reset : SensorSt where
  temp := 0
  failed := false
  sameNs := 0
  others := 0
  sampled := false
  base := []

/-- Spillway. -/
structure Thermal where
  /-- settings (15 R647) -/
  cfg : ThermalCfg
  /-- settings in force since the last throttle trip (15 R647) -/
  cfgTrip : ThermalCfg
  /-- the 24 sensors (15 R628) -/
  sensors : List SensorSt
  /-- device time since which every sensor has read below each release point (15 R631) -/
  below : List (Option Nat)
  /-- warning stands (15 R649) -/
  warn : Bool
  /-- throttle stands (15 R649) -/
  throttle : Bool
  /-- shutdown stands (15 R649) -/
  shutdown : Bool
  /-- THERM_STICKY (15 R649) -/
  sticky : BitVec 5
  /-- sensor holding tj_max (15 R649) -/
  hottest : Nat
  /-- hottest reading (15 R649) -/
  tjMax : Int
  /-- module power, 0.1 W (15 R649) -/
  powerDw : Nat
  /-- rail groups, 0.1 W (15 R648) -/
  rails : List Nat
  /-- module power samples of the last second (15 R646) -/
  powerHist : List Nat
  /-- shed_w (15 R649) -/
  shedW : Nat
  /-- estimated saving in mW, read as shed_est_w (15 R649) -/
  shedEst : Nat
  /-- device time at which the grace time ends (15 R649) -/
  grace : Option Nat
  /-- enforcement active (15 R649) -/
  enforcing : Bool
  /-- highest step taken (15 R649) -/
  step : Nat
  /-- device time of the last evaluation (15 R637) -/
  evalNs : Nat
  /-- tj_max at that evaluation (15 R637) -/
  evalTj : Int
  /-- Clause clock of each reach in 1/16 MHz (2.0 GHz nominal) (15 R648) -/
  mhz16 : List Nat
  /-- step 4 runs: clock steps are due every 100 ms while the watts are not covered (15 R636) -/
  stepping : Bool
  /-- device time of the last clock step of each reach, or of the start of step 4 (15 R636) -/
  lowered : List Nat
  /-- step 1 holds back-fill (15 R636) -/
  bfStop : Bool
  /-- decode contexts to be disabled at the next domain 0 boundary (15 R636) -/
  decStop : List Nat
  /-- shutdown records of NVM, newest first (15 R642) -/
  records : List ShutRec
  /-- shutdown count since manufacture (15 R642) -/
  recSeq : Nat
deriving DecidableEq, Repr

/-- Thermal at reset. -/
def Thermal.reset : Thermal where
  cfg := ThermalCfg.reset
  cfgTrip := ThermalCfg.reset
  sensors := List.replicate 24 SensorSt.reset
  below := [none, none, none]
  warn := false
  throttle := false
  shutdown := false
  sticky := 0
  hottest := 0
  tjMax := 0
  powerDw := 0
  rails := List.replicate 8 0
  powerHist := []
  shedW := 0
  shedEst := 0
  grace := none
  enforcing := false
  step := 0
  evalNs := 0
  evalTj := 0
  mhz16 := [32000, 32000, 32000, 32000]
  stepping := false
  lowered := [0, 0, 0, 0]
  bfStop := false
  decStop := []
  records := []
  recSeq := 0

/-- One alarm of one unit. -/
structure AlarmSt where
  /-- the alarm stands (15 R650) -/
  standing : Bool
  /-- its sticky bit (15 R650) -/
  sticky : Bool
  /-- raises since Boot (15 R657) -/
  raises : Nat
deriving DecidableEq, Repr

/-- AlarmSt at reset. -/
def AlarmSt.reset : AlarmSt where
  standing := false
  sticky := false
  raises := 0

/-- Storm interval and alarm summary. -/
structure StormSt where
  /-- device time at which the running storm interval began (15 R654) -/
  startNs : Option Nat
  /-- device time of the last drop (15 R654) -/
  lastDrop : Nat
  /-- events dropped in the interval (15 R654) -/
  dropped : Nat
  /-- trace entries dropped in the interval (15 R654) -/
  traces : Nat
  /-- seconds at the start of the last interval (15 R655) -/
  stormS : Nat
  /-- events generated since the last Boot (15 R655) -/
  written : Nat
  /-- stk_storm (15 R651) -/
  stkStorm : Bool
  /-- stk_group (15 R651) -/
  stkGroup : BitVec 12
deriving DecidableEq, Repr

/-- StormSt at reset. -/
def StormSt.reset : StormSt where
  startNs := none
  lastDrop := 0
  dropped := 0
  traces := 0
  stormS := 0
  written := 0
  stkStorm := false
  stkGroup := 0

/-- A source that takes part in the staging session. -/
structure ImgSource where
  /-- 1 host, 2 service port, 3 in-band (16 R670) -/
  kind : Nat
  /-- owner tag of a host (16 R670) -/
  tag : Nat
  /-- UDP port of an in-band sender (16 R670) -/
  udp : Nat
  /-- IP address of an in-band sender (16 R670) -/
  address : Bytes
deriving DecidableEq, Repr

/-- ImgSource at reset. -/
def ImgSource.reset : ImgSource where
  kind := 0
  tag := 0
  udp := 0
  address := []

/-- A manifest (R666). -/
structure Manifest where
  /-- bit 0 RECOVERY (16 R666) -/
  flags : BitVec 16
  /-- total_len (16 R666) -/
  totalLen : Nat
  /-- pieces (16 R666) -/
  pieces : Nat
  /-- anti-rollback value (16 R666) -/
  rollback : Nat
  /-- fw_version (16 R666) -/
  fwVersion : BitVec 32
  /-- ohmat_major (16 R666) -/
  major : Nat
  /-- ohmat_minor (16 R666) -/
  minor : Nat
  /-- entries: kind, offset, length, SHA-256 digest (16 R666) -/
  entries : List (Nat × Nat × Nat × Bytes)
  /-- settings groups and format versions (16 R666) -/
  groups : List (Nat × Nat)
  /-- cal_format (16 R666) -/
  calFormat : Nat
  /-- part_mask (16 R666) -/
  partMask : BitVec 8
  /-- piece digests of pieces 1 onward (16 R666) -/
  digests : List Bytes
deriving DecidableEq, Repr

/-- Manifest at reset. -/
def Manifest.reset : Manifest where
  flags := 0
  totalLen := 0
  pieces := 0
  rollback := 0
  fwVersion := 0
  major := 1
  minor := 0
  entries := []
  groups := []
  calFormat := 1
  partMask := 15
  digests := []

/-- A piece in the assembly buffer. -/
structure PieceBuf where
  /-- piece number (16 R672) -/
  piece : Nat
  /-- bytes that have arrived, by offset (16 R672) -/
  data : Tab (Option Byte)
  /-- device time of its last fragment (16 R672) -/
  lastNs : Nat
deriving DecidableEq, Repr

/-- PieceBuf at reset. -/
def PieceBuf.reset : PieceBuf where
  piece := 0
  data := []
  lastNs := 0

/-- What a copy of the boot record holds (16 R665). -/
structure BootCopy where
  /-- sequence number -/
  seq : Nat
  /-- active slot it names -/
  slot : Nat
  /-- manifest digest of that slot's image, empty once the slot is erased (16 R683) -/
  digest : Bytes
deriving DecidableEq, Repr

/-- Field update. -/
structure ImageSt where
  /-- sources of the session, the holder first (kept in MRAM) (16 R669) -/
  sources : List ImgSource
  /-- manifest digest of the session (MRAM) (16 R670) -/
  digest : Bytes
  /-- total_len of the session (MRAM) (16 R670) -/
  totalLen : Nat
  /-- pieces of the session (MRAM) (16 R670) -/
  pieces : Nat
  /-- verified manifest of the session (MRAM) (16 R672) -/
  manifest : Option Manifest
  /-- piece bitmap (MRAM), the numbers of the pieces stored (16 R673) -/
  stored : List Nat
  /-- 64 KiB sectors written in the two slots of the flash, by flash offset (16 R664, R672) -/
  flash : Tab Bytes
  /-- assembly buffer, at most 16 pieces (16 R672) -/
  buffer : List PieceBuf
  /-- pieces that passed their check and are being written (16 R672) -/
  passed : List (Nat × Bytes)
  /-- a byte of the staged image came by another carrier than the service port (01 R49) -/
  foreign : Bool
  /-- device time of the holder's last PUT (16 R674) -/
  lastPut : Nat
  /-- owner tag holding the lock (16 R679) -/
  lock : Nat
  /-- an activation is in progress (16 R678) -/
  activating : Bool
  /-- settings groups to reset at the first Training (16 R682) -/
  actGroups : List Nat
  /-- the old slot is being erased (16 R678) -/
  erasing : Bool
  /-- active slot of the boot record in use (16 R665) -/
  activeSlot : Nat
  /-- manifest digest of the active image (16 R665) -/
  activeDigest : Bytes
  /-- manifest of the active image (16 R678) -/
  active : Manifest
  /-- sequence number of the boot record in use (16 R665) -/
  recordSeq : Nat
  /-- copy of the boot record in use, 0 A, 1 B (16 R665) -/
  recordCopy : Nat
  /-- the copy of the boot record that is not in use, none while it is blank (16 R665) -/
  otherCopy : Option BootCopy
  /-- burn_pending (16 R665) -/
  burnPending : Bool
  /-- burned anti-rollback value (fuses) (16 R678) -/
  burned : Nat
  /-- first_boot: 0 not run, 1 passed, 2 failed (16 R678) -/
  firstBoot : Nat
  /-- fail_code (16 R678) -/
  failCode : Nat
  /-- lease_idle_h (16 R677) -/
  idleH : Nat
  /-- second in which in-band requests are counted (16 R676) -/
  inbandNs : Nat
  /-- in-band requests served in it (16 R676) -/
  inbandCount : Nat
deriving DecidableEq, Repr

/-- ImageSt at reset. -/
def ImageSt.reset : ImageSt where
  sources := []
  digest := []
  totalLen := 0
  pieces := 0
  manifest := none
  stored := []
  flash := []
  buffer := []
  passed := []
  foreign := false
  lastPut := 0
  lock := 0
  activating := false
  actGroups := []
  erasing := false
  activeSlot := 0
  activeDigest := List.replicate 48 0
  active := Manifest.reset
  recordSeq := 1
  recordCopy := 0
  otherCopy := none
  burnPending := false
  burned := 0
  firstBoot := 0
  failCode := 0
  idleH := 168
  inbandNs := 0
  inbandCount := 0

/-- What power off leaves of a staging session: the lease, its sources, the bitmap and the flash; the assembly buffer and a piece not
yet stored are lost, and with piece 0 its manifest (16 R672, R673, R691). -/
def ImageSt.rested (x : ImageSt) : ImageSt :=
  { x with buffer := [], passed := [], lock := 0, activating := false, idleH := ImageSt.reset.idleH
           manifest := if x.stored.contains 0 then x.manifest else none }

/-- Settings groups saved in NVM (R668). -/
structure Saved where
  /-- group 0x0001 (16 R668) -/
  plane : Option PlaneCfg
  /-- group 0x0002, port number and its settings (16 R668) -/
  ports : List (Nat × PortCfg × PtpCfg)
  /-- group 0x0003, reference settings (16 R668) -/
  refs : List (Nat × RefCfg)
  /-- group 0x0003, loop settings (16 R668) -/
  timebase : Option TimebaseCfg
  /-- group 0x0004 (16 R668) -/
  thermal : Option ThermalCfg
  /-- group 0x0005, lease_idle_h (16 R668) -/
  update : Option Nat
deriving DecidableEq, Repr

/-- Saved at reset. -/
def Saved.reset : Saved where
  plane := none
  ports := []
  refs := []
  timebase := none
  thermal := none
  update := none

/-- The calibration set. -/
structure CalSt where
  /-- bytes of the set by offset, zero where not listed (MRAM) (16 R685) -/
  set : Tab Byte
  /-- MRAM area that holds it (16 R685) -/
  area : Nat
  /-- device time in ns at which a test tool last stopped, 0 never (16 R690) -/
  toolNs : Nat
  /-- the CRC held at the last load (16 R687) -/
  valid : Bool
  /-- block of the recalibration in progress (16 R690) -/
  recal : Option Bytes
deriving DecidableEq, Repr

/-- CalSt at reset. -/
def CalSt.reset : CalSt where
  set := Config.factoryCal
  area := 0
  toolNs := 0
  valid := true
  recal := none

/-- The service port. -/
structure SvcSt where
  /-- reply frame ready (17 R710) -/
  reply : Option Bytes
  /-- overrun bit (17 R710) -/
  overrun : Bool
  /-- bytes last returned on SVC_DOUT (17 R711) -/
  outBytes : Bytes
deriving DecidableEq, Repr

/-- SvcSt at reset. -/
def SvcSt.reset : SvcSt where
  reply := none
  overrun := false
  outBytes := []

/-- The JTAG TAP. -/
structure JtagSt where
  /-- instruction in force (17 R723) -/
  ir : JtagOp
  /-- IDCODE captured (17 R723) -/
  dr : BitVec 32
  /-- the boundary cells of the 1.8 V signals, as last captured (17 R723) -/
  cells : Pins
  /-- JTAG_TRST_N, held low by its pull-down (17 R723) -/
  trstN : Bool
deriving DecidableEq, Repr

/-- JtagSt at reset. -/
def JtagSt.reset : JtagSt where
  ir := .idcode
  dr := 0
  cells := Pins.reset
  trstN := false

/-- What is fused into the module and held in NVM for its life. -/
structure Fused where
  /-- variant, which gives part_code (00 R1) -/
  part : Variant
  /-- stepping (02 R67) -/
  stepping : BitVec 8
  /-- module serial number (02 R69) -/
  serial : BitVec 64
  /-- spares of reaches 0-3 left at shipment (02 R118) -/
  made : List Spares
  /-- ID_FIRMWARE as loaded from the image (02 R69) -/
  fwVersion : BitVec 32
  /-- ID_PROTOCOL, major 1 minor 0 (02 R68) -/
  protocol : BitVec 16
deriving DecidableEq, Repr

/-- Fused at reset. -/
def Fused.reset : Fused where
  part := .glc8180
  stepping := 0xB0
  serial := 0
  made := List.replicate 4 Spares.reset
  fwVersion := 0
  protocol := 0x0100

/-- Domains at reset: domain 0 enabled with its first boundary at 10 ms, domains 1-8 disabled (01 R25, R27, R59). -/
def resetDomains : List DomainSt :=
  { DomainSt.reset with nextFrame := 1, nextNs := 10000000 } :: List.replicate 8 DomainSt.reset


/-- A frame captured into a slot (14 R585, R588). -/
structure CapSlot where
  /-- frame index + 1, 0 for a slot never written (14 R588) -/
  frame : Nat
  /-- number of what the slot's bytes hold beside the frame's samples, which is free -/
  stamp : Nat
  /-- sampling code of the frame (14 R585) -/
  sampling : Nat
  /-- the member's picture (14 R585) -/
  pic : Picture
deriving DecidableEq, Repr

/-- A slot never written. -/
def CapSlot.reset : CapSlot where
  frame := 0
  stamp := 0
  sampling := 0
  pic := []

/-- The whole block. -/
structure State where
  /-- device time counter in units of 2^-32 ns (48 bits of seconds, nanoseconds, 32 bits of fraction) (09 R399) -/
  time : Nat
  /-- counter of the free values taken, the model's own field -/
  freeCtr : Nat
  /-- outputs the block has issued, newest first, the model's own field -/
  out : List Out
  /-- pins (17 R714) -/
  pins : Pins
  /-- modes (01 R54) -/
  mode : ModeSt
  /-- rings 0-4 (02 R74) -/
  rings : List Ring
  /-- interrupt tree (02 R124) -/
  ints : Ints
  /-- events (02 R92) -/
  events : Events
  /-- storm interval and alarm summary (15 R654) -/
  storm : StormSt
  /-- domains 0-8 (domain 0 enabled, its next boundary at 10 ms) (01 R25) -/
  domains : List DomainSt
  /-- open stage set of each owner tag (02 R102) -/
  openSets : Tab (List Setting)
  /-- committed parts not yet landed, in arrival order (02 R31) -/
  parts : List Part
  /-- arrival order of the next part (02 R111) -/
  partSeq : Nat
  /-- fused identity (02 R67) -/
  fused : Fused
  /-- fencing and repair (01 R19) -/
  repair : Repair
  /-- counters, keyed by counter and unit (00 R13) -/
  counters : Tab Nat
  /-- alarms, keyed by alarm and unit (15 R650) -/
  alarms : Tab AlarmSt
  /-- sources 0-1151 (03 R129) -/
  srcs : Tab SrcSt
  /-- destinations 0-1151 (03 R130) -/
  dsts : Tab DstSt
  /-- converters taken by committed settings, 1 + destination (03 R146) -/
  convs : Tab Nat
  /-- audio inputs 0-16383 (05 R214) -/
  ains : Tab AinSt
  /-- audio outputs 0-16383 (05 R214) -/
  aouts : Tab AoutSt
  /-- audio ports 0-63 (05 R217) -/
  aports : Tab AportSt
  /-- lanes 0-383 (06 R258) -/
  lanes : Tab LaneSt
  /-- I2C0 and I2C1 (06 R293) -/
  buses : List I2cBus
  /-- Ethernet ports 0-63 (07 R302) -/
  ports : Tab PortSt
  /-- flow entries 0-16383 (07 R310) -/
  flows : Tab FlowSt
  /-- egress queues 12p+q (08 R340) -/
  queues : Tab QueueSt
  /-- gate lists and selection of ports 0-63 (08 R351) -/
  gates : Tab GateSt
  /-- plane supervisors Red and Blue (08 R361) -/
  planes : List PlaneSt
  /-- the right (08 R361) -/
  levee : Levee
  /-- reference inputs 0-7 (09 R379) -/
  refs : List RefSt
  /-- Headgate (09 R390) -/
  hg : Headgate
  /-- capture blocks (09 R416) -/
  caps : List CapSt
  /-- host triggers 16-63 (09 R417) -/
  trigs : Tab TrigSt
  /-- stems 0-63 (10 R426) -/
  stems : Tab StemSt
  /-- renditions 0-255 (10 R428) -/
  rends : Tab RendSt
  /-- deliveries 0-1023 (11 R486) -/
  delivs : Tab DelivSt
  /-- consumers, 256 * kind + number (12 R506) -/
  cores : Tab Core
  /-- Rider of reaches 0-3 (12 R506) -/
  riders : List RiderSt
  /-- trace settings (12 R525) -/
  riderDev : RiderDev
  /-- back-fill jobs by handle (12 R515) -/
  jobs : Tab JobSt
  /-- order of the next job (12 R518) -/
  jobSeq : Nat
  /-- host flow numbers (12 R521) -/
  hostFlows : Tab HostFlow
  /-- decode contexts 0-255 (12 R527) -/
  ctxs : Tab CtxSt
  /-- heads 0 and 1 (13 R545) -/
  heads : List HeadSt
  /-- layers 0-159 (13 R553) -/
  layers : Tab LayerSt
  /-- compatibility page (13 R578) -/
  readback : Readback
  /-- CV00-CV07 (14 R605) -/
  culverts : List CulvertSt
  /-- DRAM stacks 0-7 (14 R582) -/
  dramStacks : List StackSt
  /-- memory service of reaches 0-3 (14 R595) -/
  rmem : List ReachMem
  /-- bytes of the frame store by device address, zero where not listed (14 R583) -/
  dram : List Host.Cell
  /-- the frame held by each capture slot, 4 * j + slot (14 R588) -/
  capStamps : Tab CapSlot
  /-- REMAP (14 R614) -/
  remap : Bool
  /-- requests a control bus master has outstanding, oldest first (14 R616) -/
  busReqs : List BusRequest
  /-- Gauge units 0-63 (14 R618) -/
  gauges : Tab GaugeSt
  /-- Spillway (15 R631) -/
  thermal : Thermal
  /-- field update (16 R669) -/
  image : ImageSt
  /-- settings groups in NVM (16 R668) -/
  saved : Saved
  /-- calibration set (16 R685) -/
  cal : CalSt
  /-- service port (17 R710) -/
  svc : SvcSt
  /-- JTAG (17 R723) -/
  jtag : JtagSt
  /-- commands waiting, first in first out, the model's own field -/
  pending : List Instr
deriving DecidableEq, Repr

/-- State at reset. -/
def State.reset : State where
  time := 0
  freeCtr := 0
  out := []
  pins := Pins.reset
  mode := ModeSt.reset
  rings := List.replicate 5 Ring.reset
  ints := Ints.reset
  events := Events.reset
  storm := StormSt.reset
  domains := resetDomains
  openSets := []
  parts := []
  partSeq := 0
  fused := Fused.reset
  repair := Repair.reset
  counters := []
  alarms := []
  srcs := []
  dsts := []
  convs := []
  ains := []
  aouts := []
  aports := []
  lanes := []
  buses := [I2cBus.reset, I2cBus.reset]
  ports := []
  flows := []
  queues := []
  gates := []
  planes := [PlaneSt.reset, PlaneSt.reset]
  levee := Levee.reset
  refs := List.replicate 8 RefSt.reset
  hg := Headgate.reset
  caps := List.replicate 4 CapSt.reset
  trigs := []
  stems := []
  rends := []
  delivs := []
  cores := []
  riders := List.replicate 4 RiderSt.reset
  riderDev := RiderDev.reset
  jobs := []
  jobSeq := 0
  hostFlows := []
  ctxs := []
  heads := [HeadSt.reset, HeadSt.reset]
  layers := []
  readback := Readback.reset
  culverts := List.replicate 8 CulvertSt.reset
  dramStacks := List.replicate 8 StackSt.reset
  rmem := List.replicate 4 ReachMem.reset
  dram := []
  capStamps := []
  remap := false
  busReqs := []
  gauges := []
  thermal := Thermal.reset
  image := ImageSt.reset
  saved := Saved.reset
  cal := CalSt.reset
  svc := SvcSt.reset
  jtag := JtagSt.reset
  pending := []

end Sys2Proof.Machine
end

