-- ==== Sys2Proof/Machine/Counters.lean ====
section
/-! DEFINITION. The alarms and counters the chapters name (R13, R211, R255, R299, R337, R375, R422, R467, R503, R542, R579, R625,
R661, R692), as numbers, and the catalogue of READ on Counter (15 R658). -/
namespace Sys2Proof.Machine

/-- Number of `alm_repair_pending`. -/
def almRepairPending : Nat := 0
/-- Number of `cnt_swap_deferred`. -/
def cntSwapDeferred : Nat := 1
/-- Number of `cnt_gate_bad_access`. -/
def cntGateBadAccess : Nat := 2
/-- Number of `alm_format_mismatch`. -/
def almFormatMismatch : Nat := 3
/-- Number of `cnt_format_mismatch`. -/
def cntFormatMismatch : Nat := 4
/-- Number of `alm_src_loss`. -/
def almSrcLoss : Nat := 5
/-- Number of `alm_vpid_mismatch`. -/
def almVpidMismatch : Nat := 6
/-- Number of `alm_link_group`. -/
def almLinkGroup : Nat := 7
/-- Number of `alm_dst_black`. -/
def almDstBlack : Nat := 8
/-- Number of `alm_dst_freeze`. -/
def almDstFreeze : Nat := 9
/-- Number of `cnt_src_loss`. -/
def cntSrcLoss : Nat := 10
/-- Number of `cnt_align_overrun`. -/
def cntAlignOverrun : Nat := 11
/-- Number of `cnt_lines_concealed`. -/
def cntLinesConcealed : Nat := 12
/-- Number of `cnt_vpid_change`. -/
def cntVpidChange : Nat := 13
/-- Number of `cnt_anc_discard`. -/
def cntAncDiscard : Nat := 14
/-- Number of `cnt_fs_repeat`. -/
def cntFsRepeat : Nat := 15
/-- Number of `cnt_fs_drop`. -/
def cntFsDrop : Nat := 16
/-- Number of `cnt_loss_frames`. -/
def cntLossFrames : Nat := 17
/-- Number of `cnt_block_concealed`. -/
def cntBlockConcealed : Nat := 18
/-- Number of `cnt_black_onsets`. -/
def cntBlackOnsets : Nat := 19
/-- Number of `cnt_freeze_onsets`. -/
def cntFreezeOnsets : Nat := 20
/-- Number of `cnt_capture_drop`. -/
def cntCaptureDrop : Nat := 21
/-- Number of `alm_audio_loss`. -/
def almAudioLoss : Nat := 22
/-- Number of `alm_audio_slip`. -/
def almAudioSlip : Nat := 23
/-- Number of `alm_port_clock`. -/
def almPortClock : Nat := 24
/-- Number of `cnt_audio_loss`. -/
def cntAudioLoss : Nat := 25
/-- Number of `cnt_audio_slip`. -/
def cntAudioSlip : Nat := 26
/-- Number of `cnt_nonaudio_onsets`. -/
def cntNonaudioOnsets : Nat := 27
/-- Number of `cnt_nonaudio_muted`. -/
def cntNonaudioMuted : Nat := 28
/-- Number of `cnt_zc_timeout`. -/
def cntZcTimeout : Nat := 29
/-- Number of `cnt_aac_units`. -/
def cntAacUnits : Nat := 30
/-- Number of `cnt_port_clock_error`. -/
def cntPortClockError : Nat := 31
/-- Number of `alm_lane_fom`. -/
def almLaneFom : Nat := 32
/-- Number of `alm_i2c_bus`. -/
def almI2cBus : Nat := 33
/-- Number of `cnt_lane_down`. -/
def cntLaneDown : Nat := 34
/-- Number of `cnt_adapt_fail`. -/
def cntAdaptFail : Nat := 35
/-- Number of `cnt_fec_codewords`. -/
def cntFecCodewords : Nat := 36
/-- Number of `cnt_fec_corrected`. -/
def cntFecCorrected : Nat := 37
/-- Number of `cnt_fec_uncorrectable`. -/
def cntFecUncorrectable : Nat := 38
/-- Number of `cnt_fec_symbols`. -/
def cntFecSymbols : Nat := 39
/-- Number of `cnt_prbs_bits`. -/
def cntPrbsBits : Nat := 40
/-- Number of `cnt_prbs_errors`. -/
def cntPrbsErrors : Nat := 41
/-- Number of `cnt_prbs_symbol_errors`. -/
def cntPrbsSymbolErrors : Nat := 42
/-- Number of `cnt_prbs_relock`. -/
def cntPrbsRelock : Nat := 43
/-- Number of `cnt_i2c_nack`. -/
def cntI2cNack : Nat := 44
/-- Number of `cnt_i2c_timeout`. -/
def cntI2cTimeout : Nat := 45
/-- Number of `cnt_hook_late`. -/
def cntHookLate : Nat := 46
/-- Number of `cnt_host_clears` of a lane. -/
def cntHostClearsLane : Nat := 47
/-- Number of `alm_link_down`. -/
def almLinkDown : Nat := 48
/-- Number of `alm_leg_loss`. -/
def almLegLoss : Nat := 49
/-- Number of `cnt_link_down`. -/
def cntLinkDown : Nat := 50
/-- Number of `cnt_rx_frames`. -/
def cntRxFrames : Nat := 51
/-- Number of `cnt_tx_frames`. -/
def cntTxFrames : Nat := 52
/-- Number of `cnt_rx_fcs`. -/
def cntRxFcs : Nat := 53
/-- Number of `cnt_rx_oversize`. -/
def cntRxOversize : Nat := 54
/-- Number of `cnt_rx_pause`. -/
def cntRxPause : Nat := 55
/-- Number of `cnt_rx_unmatched`. -/
def cntRxUnmatched : Nat := 56
/-- Number of `cnt_tx_link_discard`. -/
def cntTxLinkDiscard : Nat := 57
/-- Number of `cnt_ptp_unsupported`. -/
def cntPtpUnsupported : Nat := 58
/-- Number of `cnt_tc_uncorrected`. -/
def cntTcUncorrected : Nat := 59
/-- Number of `cnt_flow_packets`. -/
def cntFlowPackets : Nat := 60
/-- Number of `cnt_flow_bytes`. -/
def cntFlowBytes : Nat := 61
/-- Number of `cnt_policer_drop`. -/
def cntPolicerDrop : Nat := 62
/-- Number of `cnt_leg_lost`. -/
def cntLegLost : Nat := 63
/-- Number of `cnt_rtp_reject`. -/
def cntRtpReject : Nat := 64
/-- Number of `cnt_seq_lost`. -/
def cntSeqLost : Nat := 65
/-- Number of `cnt_dup_discard`. -/
def cntDupDiscard : Nat := 66
/-- Number of `cnt_late_discard`. -/
def cntLateDiscard : Nat := 67
/-- Number of `cnt_pace_late`. -/
def cntPaceLate : Nat := 68
/-- Number of `cnt_right_discard` of a flow. -/
def cntRightDiscardFlow : Nat := 69
/-- Number of `alm_plane_check`. -/
def almPlaneCheck : Nat := 70
/-- Number of `alm_right_none`. -/
def almRightNone : Nat := 71
/-- Number of `cnt_q_tail_drop`. -/
def cntQTailDrop : Nat := 72
/-- Number of `cnt_q_off_drop`. -/
def cntQOffDrop : Nat := 73
/-- Number of `cnt_q_delay_drop`. -/
def cntQDelayDrop : Nat := 74
/-- Number of `cnt_gate_oversize`. -/
def cntGateOversize : Nat := 75
/-- Number of `cnt_host_clears` of a queue. -/
def cntHostClearsQueue : Nat := 76
/-- Number of `cnt_right_changes`. -/
def cntRightChanges : Nat := 77
/-- Number of `cnt_right_discard` of a plane. -/
def cntRightDiscardPlane : Nat := 78
/-- Number of `alm_hg_freerun`. -/
def almHgFreerun : Nat := 79
/-- Number of `alm_hg_holdover`. -/
def almHgHoldover : Nat := 80
/-- Number of `alm_ref_fail`. -/
def almRefFail : Nat := 81
/-- Number of `cnt_ref_disqualify`. -/
def cntRefDisqualify : Nat := 82
/-- Number of `cnt_ref_switch`. -/
def cntRefSwitch : Nat := 83
/-- Number of `cnt_time_step`. -/
def cntTimeStep : Nat := 84
/-- Number of `cnt_cap_overrun`. -/
def cntCapOverrun : Nat := 85
/-- Number of `cnt_cap_missed`. -/
def cntCapMissed : Nat := 86
/-- Number of `cnt_trig_skipped`. -/
def cntTrigSkipped : Nat := 87
/-- Number of `alm_clause_overload`. -/
def almClauseOverload : Nat := 88
/-- Number of `cnt_stem_frames`. -/
def cntStemFrames : Nat := 89
/-- Number of `cnt_scene_cuts`. -/
def cntSceneCuts : Nat := 90
/-- Number of `cnt_stem_late_bands`. -/
def cntStemLateBands : Nat := 91
/-- Number of `cnt_rend_pictures`. -/
def cntRendPictures : Nat := 92
/-- Number of `cnt_key_pictures`. -/
def cntKeyPictures : Nat := 93
/-- Number of `cnt_refresh_cycles`. -/
def cntRefreshCycles : Nat := 94
/-- Number of `cnt_rend_restart`. -/
def cntRendRestart : Nat := 95
/-- Number of `cnt_rend_shed`. -/
def cntRendShed : Nat := 96
/-- Number of `cnt_job_rerun`. -/
def cntJobRerun : Nat := 97
/-- Number of `alm_floor`. -/
def almFloor : Nat := 98
/-- Number of `cnt_floor_rows`. -/
def cntFloorRows : Nat := 99
/-- Number of `cnt_floor_pictures`. -/
def cntFloorPictures : Nat := 100
/-- Number of `cnt_deadline_rows`. -/
def cntDeadlineRows : Nat := 101
/-- Number of `cnt_filler_bytes`. -/
def cntFillerBytes : Nat := 102
/-- Number of `alm_dlv_full`. -/
def almDlvFull : Nat := 103
/-- Number of `cnt_dlv_units`. -/
def cntDlvUnits : Nat := 104
/-- Number of `cnt_dlv_discard`. -/
def cntDlvDiscard : Nat := 105
/-- Number of `cnt_rist_nack`. -/
def cntRistNack : Nat := 106
/-- Number of `cnt_rist_retrans`. -/
def cntRistRetrans : Nat := 107
/-- Number of `cnt_rist_too_old`. -/
def cntRistTooOld : Nat := 108
/-- Number of `cnt_rist_limit_drop`. -/
def cntRistLimitDrop : Nat := 109
/-- Number of `cnt_rider_refused`. -/
def cntRiderRefused : Nat := 110
/-- Number of `cnt_rider_live_wait`. -/
def cntRiderLiveWait : Nat := 111
/-- Number of `cnt_bf_preempt`. -/
def cntBfPreempt : Nat := 112
/-- Number of `cnt_bf_out_wait`. -/
def cntBfOutWait : Nat := 113
/-- Number of `cnt_trace_lost`. -/
def cntTraceLost : Nat := 114
/-- Number of `alm_dec_concealed`. -/
def almDecConcealed : Nat := 115
/-- Number of `alm_dec_format`. -/
def almDecFormat : Nat := 116
/-- Number of `cnt_dec_pictures`. -/
def cntDecPictures : Nat := 117
/-- Number of `cnt_dec_concealed`. -/
def cntDecConcealed : Nat := 118
/-- Number of `cnt_dec_missing_ref`. -/
def cntDecMissingRef : Nat := 119
/-- Number of `cnt_dec_slice_error`. -/
def cntDecSliceError : Nat := 120
/-- Number of `cnt_dec_late`. -/
def cntDecLate : Nat := 121
/-- Number of `alm_head_freeze`. -/
def almHeadFreeze : Nat := 122
/-- Number of `cnt_head_frames`. -/
def cntHeadFrames : Nat := 123
/-- Number of `cnt_head_flips`. -/
def cntHeadFlips : Nat := 124
/-- Number of `cnt_head_freeze_onsets`. -/
def cntHeadFreezeOnsets : Nat := 125
/-- Number of `cnt_layer_degraded`. -/
def cntLayerDegraded : Nat := 126
/-- Number of `cnt_layer_repeat`. -/
def cntLayerRepeat : Nat := 127
/-- Number of `cnt_layer_drop`. -/
def cntLayerDrop : Nat := 128
/-- Number of `cnt_block_concealed` of a layer. -/
def cntBlockConcealedLayer : Nat := 129
/-- Number of `alm_rt_starved`. -/
def almRtStarved : Nat := 130
/-- Number of `cnt_dram_corrected`. -/
def cntDramCorrected : Nat := 131
/-- Number of `cnt_dram_uncorrectable`. -/
def cntDramUncorrectable : Nat := 132
/-- Number of `cnt_dram_ue_discard`. -/
def cntDramUeDiscard : Nat := 133
/-- Number of `cnt_refresh_forced`. -/
def cntRefreshForced : Nat := 134
/-- Number of `cnt_dram_panic`. -/
def cntDramPanic : Nat := 135
/-- Number of `cnt_rt_underrun`. -/
def cntRtUnderrun : Nat := 136
/-- Number of `cnt_rt_overflow`. -/
def cntRtOverflow : Nat := 137
/-- Number of `cnt_bus_default`. -/
def cntBusDefault : Nat := 138
/-- Number of `cnt_gauge_mismatch`. -/
def cntGaugeMismatch : Nat := 139
/-- Number of `alm_tj_warning`. -/
def almTjWarning : Nat := 140
/-- Number of `alm_tj_throttle`. -/
def almTjThrottle : Nat := 141
/-- Number of `alm_sensor_fail`. -/
def almSensorFail : Nat := 142
/-- Number of `alm_power_limit`. -/
def almPowerLimit : Nat := 143
/-- Number of `cnt_throttle_trips`. -/
def cntThrottleTrips : Nat := 144
/-- Number of `cnt_shed_enforced`. -/
def cntShedEnforced : Nat := 145
/-- Number of `cnt_shutdowns`. -/
def cntShutdowns : Nat := 146
/-- Number of `cnt_events_lost`. -/
def cntEventsLost : Nat := 147
/-- Number of `alm_calset_invalid`. -/
def almCalsetInvalid : Nat := 148
/-- Number of `cnt_piece_integrity`. -/
def cntPieceIntegrity : Nat := 149
/-- Number of `cnt_piece_duplicate`. -/
def cntPieceDuplicate : Nat := 150
/-- Number of `cnt_lease_expired`. -/
def cntLeaseExpired : Nat := 151
/-- Number of `cnt_inband_drop`. -/
def cntInbandDrop : Nat := 152

/-- The catalogue: number, noun code, how many instances an index of the noun has (0 for the I2C buses), alarm, name. -/
def catalogue0 : List (Nat × Nat × Nat × Bool × String) :=
  [(almRepairPending, 0x02, 1, true, "alm_repair_pending"),
   (cntSwapDeferred, 0x01, 1, false, "cnt_swap_deferred"),
   (cntGateBadAccess, 0x01, 1, false, "cnt_gate_bad_access"),
   (almFormatMismatch, 0x11, 1, true, "alm_format_mismatch"),
   (cntFormatMismatch, 0x11, 1, false, "cnt_format_mismatch"),
   (almSrcLoss, 0x10, 1, true, "alm_src_loss"),
   (almVpidMismatch, 0x10, 1, true, "alm_vpid_mismatch"),
   (almLinkGroup, 0x10, 1, true, "alm_link_group"),
   (almDstBlack, 0x11, 1, true, "alm_dst_black"),
   (almDstFreeze, 0x11, 1, true, "alm_dst_freeze"),
   (cntSrcLoss, 0x10, 1, false, "cnt_src_loss"),
   (cntAlignOverrun, 0x10, 1, false, "cnt_align_overrun"),
   (cntLinesConcealed, 0x10, 1, false, "cnt_lines_concealed"),
   (cntVpidChange, 0x10, 1, false, "cnt_vpid_change"),
   (cntAncDiscard, 0x10, 1, false, "cnt_anc_discard"),
   (cntFsRepeat, 0x11, 1, false, "cnt_fs_repeat"),
   (cntFsDrop, 0x11, 1, false, "cnt_fs_drop"),
   (cntLossFrames, 0x11, 1, false, "cnt_loss_frames"),
   (cntBlockConcealed, 0x11, 1, false, "cnt_block_concealed"),
   (cntBlackOnsets, 0x11, 1, false, "cnt_black_onsets"),
   (cntFreezeOnsets, 0x11, 1, false, "cnt_freeze_onsets"),
   (cntCaptureDrop, 0x11, 1, false, "cnt_capture_drop"),
   (almAudioLoss, 0x18, 1, true, "alm_audio_loss"),
   (almAudioSlip, 0x18, 1, true, "alm_audio_slip"),
   (almPortClock, 0x1A, 1, true, "alm_port_clock"),
   (cntAudioLoss, 0x18, 1, false, "cnt_audio_loss"),
   (cntAudioSlip, 0x18, 1, false, "cnt_audio_slip"),
   (cntNonaudioOnsets, 0x18, 1, false, "cnt_nonaudio_onsets"),
   (cntNonaudioMuted, 0x19, 1, false, "cnt_nonaudio_muted"),
   (cntZcTimeout, 0x19, 1, false, "cnt_zc_timeout")]
def catalogue1 : List (Nat × Nat × Nat × Bool × String) :=
  [(cntAacUnits, 0x19, 1, false, "cnt_aac_units"),
   (cntPortClockError, 0x1A, 1, false, "cnt_port_clock_error"),
   (almLaneFom, 0x20, 1, true, "alm_lane_fom"),
   (almI2cBus, 0x20, 0, true, "alm_i2c_bus"),
   (cntLaneDown, 0x20, 1, false, "cnt_lane_down"),
   (cntAdaptFail, 0x20, 1, false, "cnt_adapt_fail"),
   (cntFecCodewords, 0x20, 1, false, "cnt_fec_codewords"),
   (cntFecCorrected, 0x20, 1, false, "cnt_fec_corrected"),
   (cntFecUncorrectable, 0x20, 1, false, "cnt_fec_uncorrectable"),
   (cntFecSymbols, 0x20, 1, false, "cnt_fec_symbols"),
   (cntPrbsBits, 0x20, 1, false, "cnt_prbs_bits"),
   (cntPrbsErrors, 0x20, 1, false, "cnt_prbs_errors"),
   (cntPrbsSymbolErrors, 0x20, 1, false, "cnt_prbs_symbol_errors"),
   (cntPrbsRelock, 0x20, 1, false, "cnt_prbs_relock"),
   (cntI2cNack, 0x20, 0, false, "cnt_i2c_nack"),
   (cntI2cTimeout, 0x20, 0, false, "cnt_i2c_timeout"),
   (cntHookLate, 0x20, 1, false, "cnt_hook_late"),
   (cntHostClearsLane, 0x20, 1, false, "cnt_host_clears"),
   (almLinkDown, 0x21, 1, true, "alm_link_down"),
   (almLegLoss, 0x22, 2, true, "alm_leg_loss"),
   (cntLinkDown, 0x21, 1, false, "cnt_link_down"),
   (cntRxFrames, 0x21, 1, false, "cnt_rx_frames"),
   (cntTxFrames, 0x21, 1, false, "cnt_tx_frames"),
   (cntRxFcs, 0x21, 1, false, "cnt_rx_fcs"),
   (cntRxOversize, 0x21, 1, false, "cnt_rx_oversize"),
   (cntRxPause, 0x21, 1, false, "cnt_rx_pause"),
   (cntRxUnmatched, 0x21, 1, false, "cnt_rx_unmatched"),
   (cntTxLinkDiscard, 0x21, 1, false, "cnt_tx_link_discard"),
   (cntPtpUnsupported, 0x21, 1, false, "cnt_ptp_unsupported"),
   (cntTcUncorrected, 0x21, 1, false, "cnt_tc_uncorrected")]
def catalogue2 : List (Nat × Nat × Nat × Bool × String) :=
  [(cntFlowPackets, 0x22, 2, false, "cnt_flow_packets"),
   (cntFlowBytes, 0x22, 2, false, "cnt_flow_bytes"),
   (cntPolicerDrop, 0x22, 2, false, "cnt_policer_drop"),
   (cntLegLost, 0x22, 2, false, "cnt_leg_lost"),
   (cntRtpReject, 0x22, 1, false, "cnt_rtp_reject"),
   (cntSeqLost, 0x22, 1, false, "cnt_seq_lost"),
   (cntDupDiscard, 0x22, 1, false, "cnt_dup_discard"),
   (cntLateDiscard, 0x22, 1, false, "cnt_late_discard"),
   (cntPaceLate, 0x22, 2, false, "cnt_pace_late"),
   (cntRightDiscardFlow, 0x22, 1, false, "cnt_right_discard"),
   (almPlaneCheck, 0x25, 1, true, "alm_plane_check"),
   (almRightNone, 0x01, 1, true, "alm_right_none"),
   (cntQTailDrop, 0x23, 1, false, "cnt_q_tail_drop"),
   (cntQOffDrop, 0x23, 1, false, "cnt_q_off_drop"),
   (cntQDelayDrop, 0x23, 1, false, "cnt_q_delay_drop"),
   (cntGateOversize, 0x23, 1, false, "cnt_gate_oversize"),
   (cntHostClearsQueue, 0x23, 1, false, "cnt_host_clears"),
   (cntRightChanges, 0x01, 1, false, "cnt_right_changes"),
   (cntRightDiscardPlane, 0x25, 1, false, "cnt_right_discard"),
   (almHgFreerun, 0x01, 1, true, "alm_hg_freerun"),
   (almHgHoldover, 0x01, 1, true, "alm_hg_holdover"),
   (almRefFail, 0x28, 1, true, "alm_ref_fail"),
   (cntRefDisqualify, 0x28, 1, false, "cnt_ref_disqualify"),
   (cntRefSwitch, 0x01, 1, false, "cnt_ref_switch"),
   (cntTimeStep, 0x01, 1, false, "cnt_time_step"),
   (cntCapOverrun, 0x2A, 1, false, "cnt_cap_overrun"),
   (cntCapMissed, 0x2A, 1, false, "cnt_cap_missed"),
   (cntTrigSkipped, 0x2A, 1, false, "cnt_trig_skipped"),
   (almClauseOverload, 0x02, 1, true, "alm_clause_overload"),
   (cntStemFrames, 0x30, 1, false, "cnt_stem_frames")]
def catalogue3 : List (Nat × Nat × Nat × Bool × String) :=
  [(cntSceneCuts, 0x30, 1, false, "cnt_scene_cuts"),
   (cntStemLateBands, 0x30, 1, false, "cnt_stem_late_bands"),
   (cntRendPictures, 0x31, 1, false, "cnt_rend_pictures"),
   (cntKeyPictures, 0x31, 1, false, "cnt_key_pictures"),
   (cntRefreshCycles, 0x31, 1, false, "cnt_refresh_cycles"),
   (cntRendRestart, 0x31, 1, false, "cnt_rend_restart"),
   (cntRendShed, 0x31, 1, false, "cnt_rend_shed"),
   (cntJobRerun, 0x02, 1, false, "cnt_job_rerun"),
   (almFloor, 0x31, 1, true, "alm_floor"),
   (cntFloorRows, 0x31, 1, false, "cnt_floor_rows"),
   (cntFloorPictures, 0x31, 1, false, "cnt_floor_pictures"),
   (cntDeadlineRows, 0x31, 1, false, "cnt_deadline_rows"),
   (cntFillerBytes, 0x31, 1, false, "cnt_filler_bytes"),
   (almDlvFull, 0x32, 1, true, "alm_dlv_full"),
   (cntDlvUnits, 0x32, 1, false, "cnt_dlv_units"),
   (cntDlvDiscard, 0x32, 1, false, "cnt_dlv_discard"),
   (cntRistNack, 0x32, 1, false, "cnt_rist_nack"),
   (cntRistRetrans, 0x32, 1, false, "cnt_rist_retrans"),
   (cntRistTooOld, 0x32, 1, false, "cnt_rist_too_old"),
   (cntRistLimitDrop, 0x32, 1, false, "cnt_rist_limit_drop"),
   (cntRiderRefused, 0x02, 1, false, "cnt_rider_refused"),
   (cntRiderLiveWait, 0x02, 1, false, "cnt_rider_live_wait"),
   (cntBfPreempt, 0x02, 1, false, "cnt_bf_preempt"),
   (cntBfOutWait, 0x34, 1, false, "cnt_bf_out_wait"),
   (cntTraceLost, 0x02, 1, false, "cnt_trace_lost"),
   (almDecConcealed, 0x35, 1, true, "alm_dec_concealed"),
   (almDecFormat, 0x35, 1, true, "alm_dec_format"),
   (cntDecPictures, 0x35, 1, false, "cnt_dec_pictures"),
   (cntDecConcealed, 0x35, 1, false, "cnt_dec_concealed"),
   (cntDecMissingRef, 0x35, 1, false, "cnt_dec_missing_ref")]
def catalogue4 : List (Nat × Nat × Nat × Bool × String) :=
  [(cntDecSliceError, 0x35, 1, false, "cnt_dec_slice_error"),
   (cntDecLate, 0x35, 1, false, "cnt_dec_late"),
   (almHeadFreeze, 0x38, 1, true, "alm_head_freeze"),
   (cntHeadFrames, 0x38, 1, false, "cnt_head_frames"),
   (cntHeadFlips, 0x38, 1, false, "cnt_head_flips"),
   (cntHeadFreezeOnsets, 0x38, 1, false, "cnt_head_freeze_onsets"),
   (cntLayerDegraded, 0x39, 1, false, "cnt_layer_degraded"),
   (cntLayerRepeat, 0x39, 1, false, "cnt_layer_repeat"),
   (cntLayerDrop, 0x39, 1, false, "cnt_layer_drop"),
   (cntBlockConcealedLayer, 0x39, 1, false, "cnt_block_concealed"),
   (almRtStarved, 0x02, 1, true, "alm_rt_starved"),
   (cntDramCorrected, 0x02, 2, false, "cnt_dram_corrected"),
   (cntDramUncorrectable, 0x02, 2, false, "cnt_dram_uncorrectable"),
   (cntDramUeDiscard, 0x02, 1, false, "cnt_dram_ue_discard"),
   (cntRefreshForced, 0x02, 2, false, "cnt_refresh_forced"),
   (cntDramPanic, 0x02, 1, false, "cnt_dram_panic"),
   (cntRtUnderrun, 0x02, 1, false, "cnt_rt_underrun"),
   (cntRtOverflow, 0x02, 1, false, "cnt_rt_overflow"),
   (cntBusDefault, 0x01, 1, false, "cnt_bus_default"),
   (cntGaugeMismatch, 0x3C, 1, false, "cnt_gauge_mismatch"),
   (almTjWarning, 0x01, 1, true, "alm_tj_warning"),
   (almTjThrottle, 0x01, 1, true, "alm_tj_throttle"),
   (almSensorFail, 0x46, 1, true, "alm_sensor_fail"),
   (almPowerLimit, 0x01, 1, true, "alm_power_limit"),
   (cntThrottleTrips, 0x01, 1, false, "cnt_throttle_trips"),
   (cntShedEnforced, 0x01, 1, false, "cnt_shed_enforced"),
   (cntShutdowns, 0x01, 1, false, "cnt_shutdowns"),
   (cntEventsLost, 0x01, 1, false, "cnt_events_lost"),
   (almCalsetInvalid, 0x01, 1, true, "alm_calset_invalid"),
   (cntPieceIntegrity, 0x01, 1, false, "cnt_piece_integrity")]
def catalogue5 : List (Nat × Nat × Nat × Bool × String) :=
  [(cntPieceDuplicate, 0x01, 1, false, "cnt_piece_duplicate"),
   (cntLeaseExpired, 0x01, 1, false, "cnt_lease_expired"),
   (cntInbandDrop, 0x01, 1, false, "cnt_inband_drop")]
/-- Every alarm and counter. -/
def catalogue : List (Nat × Nat × Nat × Bool × String) :=
  catalogue0 ++ catalogue1 ++ catalogue2 ++ catalogue3 ++ catalogue4 ++ catalogue5

end Sys2Proof.Machine
end

