-- ==== Sys2Proof/Machine/Operands.lean ====
section
/-! DEFINITION. Message fields: little-endian numbers in byte strings (00 R10) and, for every parameter block of the
chapters, the block read from its bytes and written to them. -/
namespace Sys2Proof.Machine

/-- Byte at an offset; past the end of the block it reads zero. -/
def u8 (b : Bytes) (o : Nat) : Nat := (b.getD o 0).toNat

/-- u16 at an offset (00 R10). -/
def u16 (b : Bytes) (o : Nat) : Nat := u8 b o + 256 * u8 b (o + 1)

/-- u32 at an offset (00 R10). -/
def u32 (b : Bytes) (o : Nat) : Nat := u16 b o + 65536 * u16 b (o + 2)

/-- u64 at an offset (00 R10). -/
def u64 (b : Bytes) (o : Nat) : Nat := u32 b o + 4294967296 * u32 b (o + 4)

/-- A two's complement number of `n` bits. -/
def signed (n v : Nat) : Int := if v < 2 ^ (n - 1) then (v : Int) else (v : Int) - (2 : Int) ^ n

/-- s8 at an offset. -/
def s8 (b : Bytes) (o : Nat) : Int := signed 8 (u8 b o)

/-- s16 at an offset. -/
def s16 (b : Bytes) (o : Nat) : Int := signed 16 (u16 b o)

/-- s32 at an offset. -/
def s32 (b : Bytes) (o : Nat) : Int := signed 32 (u32 b o)

/-- s64 at an offset. -/
def s64 (b : Bytes) (o : Nat) : Int := signed 64 (u64 b o)

/-- The low `n` bytes of a number, least significant first (00 R10). -/
def le : Nat → Nat → Bytes
  | 0, _ => []
  | n + 1, v => BitVec.ofNat 8 v :: le n (v / 256)

/-- `n` bytes of a two's complement number. -/
def leInt (n : Nat) (v : Int) : Bytes := le n (v % (256 : Int) ^ n).toNat

/-- The low `n` bytes of a number, most significant first: network order (00 R10). -/
def be (n v : Nat) : Bytes := (le n v).reverse

/-- A number in network order. -/
def beNat (b : Bytes) : Nat := b.foldl (fun a x => 256 * a + x.toNat) 0

/-- Exactly `n` bytes: the string cut, or filled up with zero bytes. -/
def padTo (n : Nat) (b : Bytes) : Bytes := (b ++ List.replicate n 0).take n

/-- `n` bytes from an offset. -/
def slice (b : Bytes) (o n : Nat) : Bytes := padTo n (b.drop o)

/-- A block of `len` bytes with the given fields, each an offset and its bytes; every other byte is zero. -/
def layout (len : Nat) (parts : List (Nat × Bytes)) : Bytes :=
  parts.foldl (fun b p => (b.take p.1 ++ p.2 ++ b.drop (p.1 + p.2.length)).take len) (List.replicate len 0)

/-- The bytes of a string of ASCII characters. -/
def ascii (t : String) : Bytes := t.toList.map (fun c => BitVec.ofNat 8 c.toNat)

/-- The bytes in which the given offsets are zero: reserved fields of a block. -/
def zeroAt (b : Bytes) (os : List Nat) : Bool := os.all (fun o => u8 b o == 0)

/-- The bytes from one offset up to another are zero. -/
def zeroFrom (b : Bytes) (o n : Nat) : Bool := (List.range n).all (fun i => u8 b (o + i) == 0)

/-- A flag byte has no bit outside `mask`. -/
def flagsIn (f : BitVec 8) (mask : BitVec 8) : Bool := f &&& ~~~mask == 0

/-- A number lies from `a` to `b`. -/
def within (v a b : Nat) : Bool := a ≤ v && v ≤ b

/-- An integer lies from `a` to `b`. -/
def withinI (v a b : Int) : Bool := a ≤ v && v ≤ b

/-- Byte `k / 8`, bit `k % 8` of a bitmap. -/
def bitmapBit (b : Bytes) (k : Nat) : Bool := (b.getD (k / 8) 0).getLsbD (k % 8)

/-- The bitmap of `bytes` bytes whose bit `k` is `f k`. -/
def bitmap (bytes : Nat) (f : Nat → Bool) : Bytes :=
  (List.range bytes).map (fun j =>
    BitVec.ofNat 8 ((List.range 8).foldl (fun a k => a + if f (8 * j + k) then 2 ^ k else 0) 0))

/-- One bit of a reflected CRC-32C register (14 R618, code 1). -/
def crcBit (c : BitVec 32) : BitVec 32 := if c.getLsbD 0 then (c >>> 1) ^^^ 0x82F63B78#32 else c >>> 1

/-- One byte fed to a reflected CRC-32C register (14 R618). -/
def crcByte (c : BitVec 32) (b : Byte) : BitVec 32 :=
  crcBit (crcBit (crcBit (crcBit (crcBit (crcBit (crcBit (crcBit (c ^^^ b.setWidth 32))))))))

/-- CRC-32C of a byte string, with its initial value and final inversion (14 R618, code 1). -/
def crc32c (b : Bytes) : Nat := (~~~(b.foldl crcByte 0xFFFFFFFF#32)).toNat

/-- Fmt read from the bytes of its block (spec/03 R149). -/
def decFmt (b : Bytes) : Fmt where
  raster := u8 b 1
  sampling := u8 b 2
  colour := u8 b 3
  gang := u8 b 4

/-- The bytes of a Fmt block with selector `sel` (spec/03 R149); bytes of no field are zero. -/
def encFmt (sel : Nat) (c : Fmt) : Bytes :=
  layout 8 ([(0, le 1 sel)]
    ++ [(1, le 1 c.raster)]
    ++ [(2, le 1 c.sampling)]
    ++ [(3, le 1 c.colour)]
    ++ [(4, le 1 c.gang)])

/-- RouteEntry read from the bytes of its block (spec/03 R153). -/
def decRouteEntry (b : Bytes) : RouteEntry where
  dst := u16 b 0
  src := u16 b 2
  flags := BitVec.ofNat 8 (u8 b 4)

/-- The bytes of a RouteEntry block with selector `sel` (spec/03 R153); bytes of no field are zero. -/
def encRouteEntry (sel : Nat) (c : RouteEntry) : Bytes :=
  layout 8 ([(0, le 1 sel)]
    ++ [(0, le 2 c.dst)]
    ++ [(2, le 2 c.src)]
    ++ [(4, le 1 c.flags.toNat)])

/-- GenCfg read from the bytes of its block (spec/03 R151). -/
def decGenCfg (b : Bytes) : GenCfg where
  pattern := u8 b 1
  domain := u8 b 2

/-- The bytes of a GenCfg block with selector `sel` (spec/03 R151); bytes of no field are zero. -/
def encGenCfg (sel : Nat) (c : GenCfg) : Bytes :=
  layout 8 ([(0, le 1 sel)]
    ++ [(1, le 1 c.pattern)]
    ++ [(2, le 1 c.domain)])

/-- LossCfg read from the bytes of its block (spec/04 R192). -/
def decLossCfg (b : Bytes) : LossCfg where
  action := u8 b 1
  pattern := u8 b 2
  fbAction := u8 b 3
  fbFrames := u16 b 4
  fbPattern := u8 b 6

/-- The bytes of a LossCfg block with selector `sel` (spec/04 R192); bytes of no field are zero. -/
def encLossCfg (sel : Nat) (c : LossCfg) : Bytes :=
  layout 8 ([(0, le 1 sel)]
    ++ [(1, le 1 c.action)]
    ++ [(2, le 1 c.pattern)]
    ++ [(3, le 1 c.fbAction)]
    ++ [(4, le 2 c.fbFrames)]
    ++ [(6, le 1 c.fbPattern)])

/-- OverrideCfg read from the bytes of its block (spec/04 R200). -/
def decOverrideCfg (b : Bytes) : OverrideCfg where
  mode := u8 b 1
  sampling := u8 b 2
  colour := u8 b 3
  gang := u8 b 4

/-- The bytes of a OverrideCfg block with selector `sel` (spec/04 R200); bytes of no field are zero. -/
def encOverrideCfg (sel : Nat) (c : OverrideCfg) : Bytes :=
  layout 8 ([(0, le 1 sel)]
    ++ [(1, le 1 c.mode)]
    ++ [(2, le 1 c.sampling)]
    ++ [(3, le 1 c.colour)]
    ++ [(4, le 1 c.gang)])

/-- ProbeCfg read from the bytes of its block (spec/04 R208). -/
def decProbeCfg (b : Bytes) : ProbeCfg where
  coarse := u8 b 2
  clearFrames := u8 b 3
  blackLevel := u16 b 4
  blackFrames := u16 b 6
  blackPpm := u32 b 8
  freezeFrames := u16 b 12
  exX := u16 b 16
  exY := u16 b 18
  exW := u16 b 20
  exH := u16 b 22

/-- The bytes of a ProbeCfg block with selector `sel` (spec/04 R208); bytes of no field are zero. -/
def encProbeCfg (sel : Nat) (c : ProbeCfg) : Bytes :=
  layout 24 ([(0, le 1 sel)]
    ++ [(2, le 1 c.coarse)]
    ++ [(3, le 1 c.clearFrames)]
    ++ [(4, le 2 c.blackLevel)]
    ++ [(6, le 2 c.blackFrames)]
    ++ [(8, le 4 c.blackPpm)]
    ++ [(12, le 2 c.freezeFrames)]
    ++ [(16, le 2 c.exX)]
    ++ [(18, le 2 c.exY)]
    ++ [(20, le 2 c.exW)]
    ++ [(22, le 2 c.exH)])

/-- AudioRoute read from the bytes of its block (spec/05 R235). -/
def decAudioRoute (b : Bytes) : AudioRoute where
  flags := BitVec.ofNat 8 (u8 b 1)
  ain := u16 b 2
  gain := s16 b 4

/-- The bytes of a AudioRoute block with selector `sel` (spec/05 R235); bytes of no field are zero. -/
def encAudioRoute (sel : Nat) (c : AudioRoute) : Bytes :=
  layout 8 ([(0, le 1 sel)]
    ++ [(1, le 1 c.flags.toNat)]
    ++ [(2, le 2 c.ain)]
    ++ [(4, leInt 2 c.gain)])

/-- AudioFollow read from the bytes of its block (spec/05 R239). -/
def decAudioFollow (b : Bytes) : AudioFollow where
  channel := u8 b 1
  dst := u16 b 2
  gain := s16 b 4
  flags := BitVec.ofNat 8 (u8 b 6)

/-- The bytes of a AudioFollow block with selector `sel` (spec/05 R239); bytes of no field are zero. -/
def encAudioFollow (sel : Nat) (c : AudioFollow) : Bytes :=
  layout 8 ([(0, le 1 sel)]
    ++ [(1, le 1 c.channel)]
    ++ [(2, le 2 c.dst)]
    ++ [(4, leInt 2 c.gain)]
    ++ [(6, le 1 c.flags.toNat)])

/-- AacCfg read from the bytes of its block (spec/05 R250). -/
def decAacCfg (b : Bytes) : AacCfg where
  profile := u8 b 1
  channels := u8 b 2
  bitrate := u32 b 4

/-- The bytes of a AacCfg block with selector `sel` (spec/05 R250); bytes of no field are zero. -/
def encAacCfg (sel : Nat) (c : AacCfg) : Bytes :=
  layout 8 ([(0, le 1 sel)]
    ++ [(1, le 1 c.profile)]
    ++ [(2, le 1 c.channels)]
    ++ [(4, le 4 c.bitrate)])

/-- AudioPortCfg read from the bytes of its block (spec/05 R223). -/
def decAudioPortCfg (b : Bytes) : AudioPortCfg where
  enable := u8 b 1
  format := u8 b 2
  role := u8 b 3
  slots := u8 b 4
  slotBits := u8 b 5
  dataBits := u8 b 6
  rate := u8 b 7
  flags := BitVec.ofNat 8 (u8 b 8)
  domain := u8 b 9

/-- The bytes of a AudioPortCfg block with selector `sel` (spec/05 R223); bytes of no field are zero. -/
def encAudioPortCfg (sel : Nat) (c : AudioPortCfg) : Bytes :=
  layout 12 ([(0, le 1 sel)]
    ++ [(1, le 1 c.enable)]
    ++ [(2, le 1 c.format)]
    ++ [(3, le 1 c.role)]
    ++ [(4, le 1 c.slots)]
    ++ [(5, le 1 c.slotBits)]
    ++ [(6, le 1 c.dataBits)]
    ++ [(7, le 1 c.rate)]
    ++ [(8, le 1 c.flags.toNat)]
    ++ [(9, le 1 c.domain)])

/-- SlotMask read from the bytes of its block (spec/05 R226). -/
def decSlotMask (b : Bytes) : SlotMask where
  direction := u8 b 1
  maskLo := u32 b 4
  maskHi := u32 b 8

/-- The bytes of a SlotMask block with selector `sel` (spec/05 R226); bytes of no field are zero. -/
def encSlotMask (sel : Nat) (c : SlotMask) : Bytes :=
  layout 12 ([(0, le 1 sel)]
    ++ [(1, le 1 c.direction)]
    ++ [(4, le 4 c.maskLo)]
    ++ [(8, le 4 c.maskHi)])

/-- FlumeTx read from the bytes of its block (spec/06 R271). -/
def decFlumeTx (b : Bytes) : FlumeTx where
  pre2 := s8 b 1
  pre1 := s8 b 2
  main := u8 b 3
  post1 := s8 b 4
  swing := u8 b 5
  flags := BitVec.ofNat 8 (u8 b 6)

/-- The bytes of a FlumeTx block with selector `sel` (spec/06 R271); bytes of no field are zero. -/
def encFlumeTx (sel : Nat) (c : FlumeTx) : Bytes :=
  layout 8 ([(0, le 1 sel)]
    ++ [(1, leInt 1 c.pre2)]
    ++ [(2, leInt 1 c.pre1)]
    ++ [(3, le 1 c.main)]
    ++ [(4, leInt 1 c.post1)]
    ++ [(5, le 1 c.swing)]
    ++ [(6, le 1 c.flags.toNat)])

/-- RillTx read from the bytes of its block (spec/06 R273). -/
def decRillTx (b : Bytes) : RillTx where
  deemph := u8 b 1
  swing := u8 b 2
  flags := BitVec.ofNat 8 (u8 b 3)

/-- The bytes of a RillTx block with selector `sel` (spec/06 R273); bytes of no field are zero. -/
def encRillTx (sel : Nat) (c : RillTx) : Bytes :=
  layout 8 ([(0, le 1 sel)]
    ++ [(1, le 1 c.deemph)]
    ++ [(2, le 1 c.swing)]
    ++ [(3, le 1 c.flags.toNat)])

/-- LaneRx read from the bytes of its block (spec/06 R276). -/
def decLaneRx (b : Bytes) : LaneRx where
  ctleMode := u8 b 1
  ctleStep := u8 b 2
  flags := BitVec.ofNat 8 (u8 b 3)
  rillRate := u8 b 4

/-- The bytes of a LaneRx block with selector `sel` (spec/06 R276); bytes of no field are zero. -/
def encLaneRx (sel : Nat) (c : LaneRx) : Bytes :=
  layout 8 ([(0, le 1 sel)]
    ++ [(1, le 1 c.ctleMode)]
    ++ [(2, le 1 c.ctleStep)]
    ++ [(3, le 1 c.flags.toNat)]
    ++ [(4, le 1 c.rillRate)])

/-- LaneTools read from the bytes of its block (spec/06 R286). -/
def decLaneTools (b : Bytes) : LaneTools where
  gen := u8 b 1
  chk := u8 b 2
  loopback := u8 b 3
  flags := BitVec.ofNat 8 (u8 b 4)
  rate := u8 b 5

/-- The bytes of a LaneTools block with selector `sel` (spec/06 R286); bytes of no field are zero. -/
def encLaneTools (sel : Nat) (c : LaneTools) : Bytes :=
  layout 8 ([(0, le 1 sel)]
    ++ [(1, le 1 c.gen)]
    ++ [(2, le 1 c.chk)]
    ++ [(3, le 1 c.loopback)]
    ++ [(4, le 1 c.flags.toNat)]
    ++ [(5, le 1 c.rate)])

/-- EyeScan read from the bytes of its block (spec/06 R289). -/
def decEyeScan (b : Bytes) : EyeScan where
  eye := u8 b 1
  hStride := u8 b 2
  vStride := u8 b 3
  dwell := u8 b 4

/-- The bytes of a EyeScan block with selector `sel` (spec/06 R289); bytes of no field are zero. -/
def encEyeScan (sel : Nat) (c : EyeScan) : Bytes :=
  layout 8 ([(0, le 1 sel)]
    ++ [(1, le 1 c.eye)]
    ++ [(2, le 1 c.hStride)]
    ++ [(3, le 1 c.vStride)]
    ++ [(4, le 1 c.dwell)])

/-- LaneTrim read from the bytes of its block (spec/06 R291). -/
def decLaneTrim (b : Bytes) : LaneTrim where
  txTrim := s16 b 2
  rxTrim := s16 b 4

/-- The bytes of a LaneTrim block with selector `sel` (spec/06 R291); bytes of no field are zero. -/
def encLaneTrim (sel : Nat) (c : LaneTrim) : Bytes :=
  layout 8 ([(0, le 1 sel)]
    ++ [(2, leInt 2 c.txTrim)]
    ++ [(4, leInt 2 c.rxTrim)])

/-- I2cBind read from the bytes of its block (spec/06 R294). -/
def decI2cBind (b : Bytes) : I2cBind where
  bus := u8 b 1
  address := u8 b 2
  speed := u8 b 3
  flags := BitVec.ofNat 8 (u8 b 4)

/-- The bytes of a I2cBind block with selector `sel` (spec/06 R294); bytes of no field are zero. -/
def encI2cBind (sel : Nat) (c : I2cBind) : Bytes :=
  layout 8 ([(0, le 1 sel)]
    ++ [(1, le 1 c.bus)]
    ++ [(2, le 1 c.address)]
    ++ [(3, le 1 c.speed)]
    ++ [(4, le 1 c.flags.toNat)])

/-- RateHooks read from the bytes of its block (spec/06 R296). -/
def decRateHooks (b : Bytes) : RateHooks where
  countSd := u8 b 1
  countHd := u8 b 2
  sd := slice b 4 8
  hd := slice b 12 8

/-- The bytes of a RateHooks block with selector `sel` (spec/06 R296); bytes of no field are zero. -/
def encRateHooks (sel : Nat) (c : RateHooks) : Bytes :=
  layout 20 ([(0, le 1 sel)]
    ++ [(1, le 1 c.countSd)]
    ++ [(2, le 1 c.countHd)]
    ++ [(4, padTo 8 c.sd)]
    ++ [(12, padTo 8 c.hd)])

/-- PortCfg read from the bytes of its block (spec/07 R305). -/
def decPortCfg (b : Bytes) : PortCfg where
  enable := u8 b 1
  config := u8 b 2
  flags := BitVec.ofNat 8 (u8 b 3)
  maxFrame := u16 b 4
  mac := slice b 6 6
  ipv4 := slice b 12 4
  ipv4Prefix := u8 b 16
  ipv6Prefix := u8 b 17
  ipv6 := slice b 20 16
  vlan := u16 b 36

/-- The bytes of a PortCfg block with selector `sel` (spec/07 R305); bytes of no field are zero. -/
def encPortCfg (sel : Nat) (c : PortCfg) : Bytes :=
  layout 40 ([(0, le 1 sel)]
    ++ [(1, le 1 c.enable)]
    ++ [(2, le 1 c.config)]
    ++ [(3, le 1 c.flags.toNat)]
    ++ [(4, le 2 c.maxFrame)]
    ++ [(6, padTo 6 c.mac)]
    ++ [(12, padTo 4 c.ipv4)]
    ++ [(16, le 1 c.ipv4Prefix)]
    ++ [(17, le 1 c.ipv6Prefix)]
    ++ [(20, padTo 16 c.ipv6)]
    ++ [(36, le 2 c.vlan)])

/-- PtpCfg read from the bytes of its block (spec/07 R329). -/
def decPtpCfg (b : Bytes) : PtpCfg where
  role := u8 b 1
  domainNumber := u8 b 2
  flags := BitVec.ofNat 8 (u8 b 3)
  logDelay := s8 b 4
  announceTimeout := u8 b 5

/-- The bytes of a PtpCfg block with selector `sel` (spec/07 R329); bytes of no field are zero. -/
def encPtpCfg (sel : Nat) (c : PtpCfg) : Bytes :=
  layout 8 ([(0, le 1 sel)]
    ++ [(1, le 1 c.role)]
    ++ [(2, le 1 c.domainNumber)]
    ++ [(3, le 1 c.flags.toNat)]
    ++ [(4, leInt 1 c.logDelay)]
    ++ [(5, le 1 c.announceTimeout)])

/-- QueueCfg read from the bytes of its block (spec/08 R342). -/
def decQueueCfg (b : Bytes) : QueueCfg where
  delayBound := u16 b 2
  quantum := u32 b 4
  limit := u32 b 8

/-- The bytes of a QueueCfg block with selector `sel` (spec/08 R342); bytes of no field are zero. -/
def encQueueCfg (sel : Nat) (c : QueueCfg) : Bytes :=
  layout 12 ([(0, le 1 sel)]
    ++ [(2, le 2 c.delayBound)]
    ++ [(4, le 4 c.quantum)]
    ++ [(8, le 4 c.limit)])

/-- PlaneCfg read from the bytes of its block (spec/08 R360). -/
def decPlaneCfg (b : Bytes) : PlaneCfg where
  preferred := u8 b 1
  holdoffS := u16 b 2
  handoverHoldMs := u16 b 4
  mgmtRed := u8 b 6
  mgmtBlue := u8 b 7
  mac := slice b 8 6
  vlan := u16 b 14
  ipv4 := slice b 16 4
  ipv4Prefix := u8 b 20
  ipv6Prefix := u8 b 21
  udp := u16 b 22
  ipv6 := slice b 24 16

/-- The bytes of a PlaneCfg block with selector `sel` (spec/08 R360); bytes of no field are zero. -/
def encPlaneCfg (sel : Nat) (c : PlaneCfg) : Bytes :=
  layout 40 ([(0, le 1 sel)]
    ++ [(1, le 1 c.preferred)]
    ++ [(2, le 2 c.holdoffS)]
    ++ [(4, le 2 c.handoverHoldMs)]
    ++ [(6, le 1 c.mgmtRed)]
    ++ [(7, le 1 c.mgmtBlue)]
    ++ [(8, padTo 6 c.mac)]
    ++ [(14, le 2 c.vlan)]
    ++ [(16, padTo 4 c.ipv4)]
    ++ [(20, le 1 c.ipv4Prefix)]
    ++ [(21, le 1 c.ipv6Prefix)]
    ++ [(22, le 2 c.udp)]
    ++ [(24, padTo 16 c.ipv6)])

/-- DiagCfg read from the bytes of its block (spec/08 R365). -/
def decDiagCfg (b : Bytes) : DiagCfg where
  checks := BitVec.ofNat 8 (u8 b 1)
  fomMargin := u16 b 2
  fecLimit := u32 b 4
  ptpTimeoutMs := u16 b 8

/-- The bytes of a DiagCfg block with selector `sel` (spec/08 R365); bytes of no field are zero. -/
def encDiagCfg (sel : Nat) (c : DiagCfg) : Bytes :=
  layout 12 ([(0, le 1 sel)]
    ++ [(1, le 1 c.checks.toNat)]
    ++ [(2, le 2 c.fomMargin)]
    ++ [(4, le 4 c.fecLimit)]
    ++ [(8, le 2 c.ptpTimeoutMs)])

/-- RefCfg read from the bytes of its block (spec/09 R381). -/
def decRefCfg (b : Bytes) : RefCfg where
  priority := u8 b 1
  lane := u8 b 2
  flags := BitVec.ofNat 8 (u8 b 3)
  hsRate := u8 b 4
  assumedRank := u8 b 5
  qualS := u16 b 6
  offsetNs := s32 b 8
  acceptPpb := u32 b 12
  rejectPpb := u32 b 16

/-- The bytes of a RefCfg block with selector `sel` (spec/09 R381); bytes of no field are zero. -/
def encRefCfg (sel : Nat) (c : RefCfg) : Bytes :=
  layout 24 ([(0, le 1 sel)]
    ++ [(1, le 1 c.priority)]
    ++ [(2, le 1 c.lane)]
    ++ [(3, le 1 c.flags.toNat)]
    ++ [(4, le 1 c.hsRate)]
    ++ [(5, le 1 c.assumedRank)]
    ++ [(6, le 2 c.qualS)]
    ++ [(8, leInt 4 c.offsetNs)]
    ++ [(12, le 4 c.acceptPpb)]
    ++ [(16, le 4 c.rejectPpb)])

/-- TimebaseCfg read from the bytes of its block (spec/09 R409). -/
def decTimebaseCfg (b : Bytes) : TimebaseCfg where
  mode := u8 b 1
  flags := BitVec.ofNat 8 (u8 b 2)
  minRank := u8 b 3
  trackBw := u16 b 4
  ppsWidth := u16 b 6
  slewPpb := u32 b 8
  stepLimit := u32 b 12
  holdoverMax := u32 b 16
  holdAvg := u16 b 20
  manualOffset := s32 b 24

/-- The bytes of a TimebaseCfg block with selector `sel` (spec/09 R409); bytes of no field are zero. -/
def encTimebaseCfg (sel : Nat) (c : TimebaseCfg) : Bytes :=
  layout 32 ([(0, le 1 sel)]
    ++ [(1, le 1 c.mode)]
    ++ [(2, le 1 c.flags.toNat)]
    ++ [(3, le 1 c.minRank)]
    ++ [(4, le 2 c.trackBw)]
    ++ [(6, le 2 c.ppsWidth)]
    ++ [(8, le 4 c.slewPpb)]
    ++ [(12, le 4 c.stepLimit)]
    ++ [(16, le 4 c.holdoverMax)]
    ++ [(20, le 2 c.holdAvg)]
    ++ [(24, leInt 4 c.manualOffset)])

/-- TrigCfg read from the bytes of its block (spec/09 R418). -/
def decTrigCfg (b : Bytes) : TrigCfg where
  kind := u8 b 1
  domain := u8 b 2
  targets := BitVec.ofNat 8 (u8 b 3)
  widthNs := u32 b 4
  startS := u64 b 8
  startNs := u32 b 16
  periodNs := u32 b 20
  offsetNs := s32 b 24
  count := u32 b 28

/-- The bytes of a TrigCfg block with selector `sel` (spec/09 R418); bytes of no field are zero. -/
def encTrigCfg (sel : Nat) (c : TrigCfg) : Bytes :=
  layout 32 ([(0, le 1 sel)]
    ++ [(1, le 1 c.kind)]
    ++ [(2, le 1 c.domain)]
    ++ [(3, le 1 c.targets.toNat)]
    ++ [(4, le 4 c.widthNs)]
    ++ [(8, le 8 c.startS)]
    ++ [(16, le 4 c.startNs)]
    ++ [(20, le 4 c.periodNs)]
    ++ [(24, leInt 4 c.offsetNs)]
    ++ [(28, le 4 c.count)])

/-- StemCfg read from the bytes of its block (spec/10 R443). -/
def decStemCfg (b : Bytes) : StemCfg where
  enable := u8 b 1
  latencyQ := u8 b 2
  flags := BitVec.ofNat 8 (u8 b 3)
  searchH := u16 b 4
  searchV := u16 b 6
  refs := u8 b 8
  candidates := u8 b 9
  scenePct := u8 b 10
  home := u8 b 11
  coresMax := u8 b 12

/-- The bytes of a StemCfg block with selector `sel` (spec/10 R443); bytes of no field are zero. -/
def encStemCfg (sel : Nat) (c : StemCfg) : Bytes :=
  layout 16 ([(0, le 1 sel)]
    ++ [(1, le 1 c.enable)]
    ++ [(2, le 1 c.latencyQ)]
    ++ [(3, le 1 c.flags.toNat)]
    ++ [(4, le 2 c.searchH)]
    ++ [(6, le 2 c.searchV)]
    ++ [(8, le 1 c.refs)]
    ++ [(9, le 1 c.candidates)]
    ++ [(10, le 1 c.scenePct)]
    ++ [(11, le 1 c.home)]
    ++ [(12, le 1 c.coresMax)])

/-- RendCfg read from the bytes of its block (spec/10 R447). -/
def decRendCfg (b : Bytes) : RendCfg where
  enable := u8 b 1
  stem := u8 b 2
  codec := u8 b 3
  profile := u8 b 4
  level := u8 b 5
  width := u16 b 6
  height := u16 b 8
  rateDiv := u8 b 10
  bitDepth := u8 b 11
  chroma := u8 b 12
  refs := u8 b 13
  split := u8 b 14
  coresMax := u8 b 15
  refreshMode := u8 b 16
  flags := BitVec.ofNat 8 (u8 b 17)
  refreshPeriod := u16 b 18

/-- The bytes of a RendCfg block with selector `sel` (spec/10 R447); bytes of no field are zero. -/
def encRendCfg (sel : Nat) (c : RendCfg) : Bytes :=
  layout 24 ([(0, le 1 sel)]
    ++ [(1, le 1 c.enable)]
    ++ [(2, le 1 c.stem)]
    ++ [(3, le 1 c.codec)]
    ++ [(4, le 1 c.profile)]
    ++ [(5, le 1 c.level)]
    ++ [(6, le 2 c.width)]
    ++ [(8, le 2 c.height)]
    ++ [(10, le 1 c.rateDiv)]
    ++ [(11, le 1 c.bitDepth)]
    ++ [(12, le 1 c.chroma)]
    ++ [(13, le 1 c.refs)]
    ++ [(14, le 1 c.split)]
    ++ [(15, le 1 c.coresMax)]
    ++ [(16, le 1 c.refreshMode)]
    ++ [(17, le 1 c.flags.toNat)]
    ++ [(18, le 2 c.refreshPeriod)])

/-- RateCfg read from the bytes of its block (spec/11 R476). -/
def decRateCfg (b : Bytes) : RateCfg where
  rcMode := u8 b 1
  qpMin := u8 b 2
  qpMax := u8 b 3
  bitrate := u32 b 4
  maxBitrate := u32 b 8
  cpbSize := u32 b 12
  initDelayUs := u32 b 16
  flags := BitVec.ofNat 8 (u8 b 20)

/-- The bytes of a RateCfg block with selector `sel` (spec/11 R476); bytes of no field are zero. -/
def encRateCfg (sel : Nat) (c : RateCfg) : Bytes :=
  layout 24 ([(0, le 1 sel)]
    ++ [(1, le 1 c.rcMode)]
    ++ [(2, le 1 c.qpMin)]
    ++ [(3, le 1 c.qpMax)]
    ++ [(4, le 4 c.bitrate)]
    ++ [(8, le 4 c.maxBitrate)]
    ++ [(12, le 4 c.cpbSize)]
    ++ [(16, le 4 c.initDelayUs)]
    ++ [(20, le 1 c.flags.toNat)])

/-- DelivCfg read from the bytes of its block (spec/11 R487). -/
def decDelivCfg (b : Bytes) : DelivCfg where
  enable := u8 b 1
  kind := u8 b 2
  flags := BitVec.ofNat 8 (u8 b 3)
  rendition := u16 b 4
  chunkPictures := u16 b 6
  aac0 := u16 b 8
  aac1 := u16 b 10
  aac2 := u16 b 12
  aac3 := u16 b 14
  ptsDelayUs := u32 b 16
  flow := u16 b 20
  dataBase := u64 b 24
  dataLog2 := u8 b 32
  recLog2 := u8 b 33
  recBase := u64 b 40
  wbAddr := u64 b 48
  consAddr := u64 b 56

/-- The bytes of a DelivCfg block with selector `sel` (spec/11 R487); bytes of no field are zero. -/
def encDelivCfg (sel : Nat) (c : DelivCfg) : Bytes :=
  layout 64 ([(0, le 1 sel)]
    ++ [(1, le 1 c.enable)]
    ++ [(2, le 1 c.kind)]
    ++ [(3, le 1 c.flags.toNat)]
    ++ [(4, le 2 c.rendition)]
    ++ [(6, le 2 c.chunkPictures)]
    ++ [(8, le 2 c.aac0)]
    ++ [(10, le 2 c.aac1)]
    ++ [(12, le 2 c.aac2)]
    ++ [(14, le 2 c.aac3)]
    ++ [(16, le 4 c.ptsDelayUs)]
    ++ [(20, le 2 c.flow)]
    ++ [(24, le 8 c.dataBase)]
    ++ [(32, le 1 c.dataLog2)]
    ++ [(33, le 1 c.recLog2)]
    ++ [(40, le 8 c.recBase)]
    ++ [(48, le 8 c.wbAddr)]
    ++ [(56, le 8 c.consAddr)])

/-- JobDesc read from the bytes of its block (spec/12 R515). -/
def decJobDesc (b : Bytes) : JobDesc where
  kind := u8 b 0
  prio := u8 b 1
  flags := BitVec.ofNat 8 (u8 b 2)
  reach := u8 b 3
  flow := u16 b 4
  pictures := u32 b 8
  codec := u8 b 12
  profile := u8 b 13
  level := u8 b 14
  bitDepth := u8 b 15
  width := u16 b 16
  height := u16 b 18
  chroma := u8 b 20
  refs := u8 b 21
  refreshMode := u8 b 22
  rate := u8 b 23
  refreshPeriod := u16 b 24
  colour := u8 b 26
  inSampling := u8 b 27
  encFlags := BitVec.ofNat 8 (u8 b 28)
  scenePct := u8 b 29
  inBase := u64 b 56
  inPitch := u32 b 64
  inFrame := u32 b 68
  dataBase := u64 b 72
  dataLog2 := u8 b 80
  recLog2 := u8 b 81
  chunkPictures := u16 b 82
  recBase := u64 b 88
  wbAddr := u64 b 96
  consAddr := u64 b 104
  firstPicture := u64 b 112

/-- The bytes of a JobDesc block with selector `sel` (spec/12 R515); bytes of no field are zero. -/
def encJobDesc (sel : Nat) (c : JobDesc) : Bytes :=
  layout 128 ([(0, le 1 sel)]
    ++ [(0, le 1 c.kind)]
    ++ [(1, le 1 c.prio)]
    ++ [(2, le 1 c.flags.toNat)]
    ++ [(3, le 1 c.reach)]
    ++ [(4, le 2 c.flow)]
    ++ [(8, le 4 c.pictures)]
    ++ [(12, le 1 c.codec)]
    ++ [(13, le 1 c.profile)]
    ++ [(14, le 1 c.level)]
    ++ [(15, le 1 c.bitDepth)]
    ++ [(16, le 2 c.width)]
    ++ [(18, le 2 c.height)]
    ++ [(20, le 1 c.chroma)]
    ++ [(21, le 1 c.refs)]
    ++ [(22, le 1 c.refreshMode)]
    ++ [(23, le 1 c.rate)]
    ++ [(24, le 2 c.refreshPeriod)]
    ++ [(26, le 1 c.colour)]
    ++ [(27, le 1 c.inSampling)]
    ++ [(28, le 1 c.encFlags.toNat)]
    ++ [(29, le 1 c.scenePct)]
    ++ [(56, le 8 c.inBase)]
    ++ [(64, le 4 c.inPitch)]
    ++ [(68, le 4 c.inFrame)]
    ++ [(72, le 8 c.dataBase)]
    ++ [(80, le 1 c.dataLog2)]
    ++ [(81, le 1 c.recLog2)]
    ++ [(82, le 2 c.chunkPictures)]
    ++ [(88, le 8 c.recBase)]
    ++ [(96, le 8 c.wbAddr)]
    ++ [(104, le 8 c.consAddr)]
    ++ [(112, le 8 c.firstPicture)])

/-- DecCfg read from the bytes of its block (spec/12 R528). -/
def decDecCfg (b : Bytes) : DecCfg where
  enable := u8 b 1
  codec := u8 b 2
  gang := u8 b 3
  output := u16 b 4
  program := u16 b 6
  videoPid := u16 b 8
  raster := u8 b 10
  rate := u8 b 11
  colour := u8 b 12
  presentDelay := u16 b 14

/-- The bytes of a DecCfg block with selector `sel` (spec/12 R528); bytes of no field are zero. -/
def encDecCfg (sel : Nat) (c : DecCfg) : Bytes :=
  layout 16 ([(0, le 1 sel)]
    ++ [(1, le 1 c.enable)]
    ++ [(2, le 1 c.codec)]
    ++ [(3, le 1 c.gang)]
    ++ [(4, le 2 c.output)]
    ++ [(6, le 2 c.program)]
    ++ [(8, le 2 c.videoPid)]
    ++ [(10, le 1 c.raster)]
    ++ [(11, le 1 c.rate)]
    ++ [(12, le 1 c.colour)]
    ++ [(14, le 2 c.presentDelay)])

/-- HeadCfg read from the bytes of its block (spec/13 R546). -/
def decHeadCfg (b : Bytes) : HeadCfg where
  enable := u8 b 1
  raster := u8 b 2
  colour := u8 b 3
  bgY := u16 b 4
  bgCb := u16 b 6
  bgCr := u16 b 8
  flags := BitVec.ofNat 8 (u8 b 10)
  scan0 := u16 b 12
  scan1 := u16 b 14
  scan2 := u16 b 16
  scan3 := u16 b 18

/-- The bytes of a HeadCfg block with selector `sel` (spec/13 R546); bytes of no field are zero. -/
def encHeadCfg (sel : Nat) (c : HeadCfg) : Bytes :=
  layout 20 ([(0, le 1 sel)]
    ++ [(1, le 1 c.enable)]
    ++ [(2, le 1 c.raster)]
    ++ [(3, le 1 c.colour)]
    ++ [(4, le 2 c.bgY)]
    ++ [(6, le 2 c.bgCb)]
    ++ [(8, le 2 c.bgCr)]
    ++ [(10, le 1 c.flags.toNat)]
    ++ [(12, le 2 c.scan0)]
    ++ [(14, le 2 c.scan1)]
    ++ [(16, le 2 c.scan2)]
    ++ [(18, le 2 c.scan3)])

/-- VideoLayer read from the bytes of its block (spec/13 R554). -/
def decVideoLayer (b : Bytes) : VideoLayer where
  enable := u8 b 1
  src := u16 b 2
  cropX := u16 b 4
  cropY := u16 b 6
  cropW := u16 b 8
  cropH := u16 b 10
  dstX := u16 b 12
  dstY := u16 b 14
  dstW := u16 b 16
  dstH := u16 b 18
  z := u8 b 20
  alpha := u8 b 21
  flags := BitVec.ofNat 8 (u8 b 22)
  borderPx := u8 b 23
  borderRgb := slice b 24 3

/-- The bytes of a VideoLayer block with selector `sel` (spec/13 R554); bytes of no field are zero. -/
def encVideoLayer (sel : Nat) (c : VideoLayer) : Bytes :=
  layout 32 ([(0, le 1 sel)]
    ++ [(1, le 1 c.enable)]
    ++ [(2, le 2 c.src)]
    ++ [(4, le 2 c.cropX)]
    ++ [(6, le 2 c.cropY)]
    ++ [(8, le 2 c.cropW)]
    ++ [(10, le 2 c.cropH)]
    ++ [(12, le 2 c.dstX)]
    ++ [(14, le 2 c.dstY)]
    ++ [(16, le 2 c.dstW)]
    ++ [(18, le 2 c.dstH)]
    ++ [(20, le 1 c.z)]
    ++ [(21, le 1 c.alpha)]
    ++ [(22, le 1 c.flags.toNat)]
    ++ [(23, le 1 c.borderPx)]
    ++ [(24, padTo 3 c.borderRgb)])

/-- GraphicLayer read from the bytes of its block (spec/13 R559). -/
def decGraphicLayer (b : Bytes) : GraphicLayer where
  enable := u8 b 1
  kind := u8 b 2
  front := u8 b 3
  dstX := u16 b 4
  dstY := u16 b 6
  w := u16 b 8
  h := u16 b 10
  z := u8 b 12
  alpha := u8 b 13
  meter := u16 b 14

/-- The bytes of a GraphicLayer block with selector `sel` (spec/13 R559); bytes of no field are zero. -/
def encGraphicLayer (sel : Nat) (c : GraphicLayer) : Bytes :=
  layout 16 ([(0, le 1 sel)]
    ++ [(1, le 1 c.enable)]
    ++ [(2, le 1 c.kind)]
    ++ [(3, le 1 c.front)]
    ++ [(4, le 2 c.dstX)]
    ++ [(6, le 2 c.dstY)]
    ++ [(8, le 2 c.w)]
    ++ [(10, le 2 c.h)]
    ++ [(12, le 1 c.z)]
    ++ [(13, le 1 c.alpha)]
    ++ [(14, le 2 c.meter)])

/-- FreezeCfg read from the bytes of its block (spec/13 R574). -/
def decFreezeCfg (b : Bytes) : FreezeCfg where
  flags := BitVec.ofNat 8 (u8 b 1)
  coarse := u8 b 2
  clearFrames := u8 b 3
  freezeFrames := u16 b 4

/-- The bytes of a FreezeCfg block with selector `sel` (spec/13 R574); bytes of no field are zero. -/
def encFreezeCfg (sel : Nat) (c : FreezeCfg) : Bytes :=
  layout 8 ([(0, le 1 sel)]
    ++ [(1, le 1 c.flags.toNat)]
    ++ [(2, le 1 c.coarse)]
    ++ [(3, le 1 c.clearFrames)]
    ++ [(4, le 2 c.freezeFrames)])

/-- GaugeCfg read from the bytes of its block (spec/14 R619). -/
def decGaugeCfg (b : Bytes) : GaugeCfg where
  poly := u8 b 1
  flags := BitVec.ofNat 8 (u8 b 2)
  expected := u32 b 4

/-- The bytes of a GaugeCfg block with selector `sel` (spec/14 R619); bytes of no field are zero. -/
def encGaugeCfg (sel : Nat) (c : GaugeCfg) : Bytes :=
  layout 12 ([(0, le 1 sel)]
    ++ [(1, le 1 c.poly)]
    ++ [(2, le 1 c.flags.toNat)]
    ++ [(4, le 4 c.expected)])

/-- ThermalCfg read from the bytes of its block (spec/15 R647). -/
def decThermalCfg (b : Bytes) : ThermalCfg where
  graceMs := u16 b 2
  psi := u16 b 4
  decShed := slice b 8 32

/-- The bytes of a ThermalCfg block with selector `sel` (spec/15 R647); bytes of no field are zero. -/
def encThermalCfg (sel : Nat) (c : ThermalCfg) : Bytes :=
  layout 40 ([(0, le 1 sel)]
    ++ [(2, le 2 c.graceMs)]
    ++ [(4, le 2 c.psi)]
    ++ [(8, padTo 32 c.decShed)])

/-- FlowCfg read from the bytes of its block (spec/07 R312). -/
def decFlowCfg (b : Bytes) : FlowCfg where
  kind := u8 b 1
  flags := BitVec.ofNat 8 (u8 b 2)
  dscp := u8 b 3
  binding := u16 b 4
  vlan := u16 b 6
  ssrc := u32 b 8
  pt := u8 b 12
  port0 := u8 b 16
  nextHop0 := slice b 22 6
  dstUdp0 := u16 b 28
  srcUdp0 := u16 b 30
  dstIp0 := slice b 32 16
  srcIp0 := slice b 48 16
  port1 := u8 b 64
  nextHop1 := slice b 70 6
  dstUdp1 := u16 b 76
  srcUdp1 := u16 b 78
  dstIp1 := slice b 80 16
  srcIp1 := slice b 96 16
  policeKbps := u32 b 112
  policeBurst := u32 b 116
  params := slice b 120 24

/-- The bytes of a FlowCfg block with selector `sel` (spec/07 R312); bytes of no field are zero. -/
def encFlowCfg (sel : Nat) (c : FlowCfg) : Bytes :=
  layout 144 ([(0, le 1 sel)]
    ++ [(1, le 1 c.kind)]
    ++ [(2, le 1 c.flags.toNat)]
    ++ [(3, le 1 c.dscp)]
    ++ [(4, le 2 c.binding)]
    ++ [(6, le 2 c.vlan)]
    ++ [(8, le 4 c.ssrc)]
    ++ [(12, le 1 c.pt)]
    ++ [(16, le 1 c.port0)]
    ++ [(22, padTo 6 c.nextHop0)]
    ++ [(28, le 2 c.dstUdp0)]
    ++ [(30, le 2 c.srcUdp0)]
    ++ [(32, padTo 16 c.dstIp0)]
    ++ [(48, padTo 16 c.srcIp0)]
    ++ [(64, le 1 c.port1)]
    ++ [(70, padTo 6 c.nextHop1)]
    ++ [(76, le 2 c.dstUdp1)]
    ++ [(78, le 2 c.srcUdp1)]
    ++ [(80, padTo 16 c.dstIp1)]
    ++ [(96, padTo 16 c.srcIp1)]
    ++ [(112, le 4 c.policeKbps)]
    ++ [(116, le 4 c.policeBurst)]
    ++ [(120, padTo 24 c.params)])

end Sys2Proof.Machine
end

