-- ==== Sys2Proof/Machine/Access.lean ====
section
/-! DEFINITION. Tables in canonical form, and the one operation that reads and the one that changes each unit of the state. -/
namespace Sys2Proof.Machine

/-- Entry `k` of a table whose unlisted key `k` holds `d k`. -/
def tget {α : Type} (d : Nat → α) : Tab α → Nat → α
  | [], k => d k
  | (j, w) :: t, k => if j = k then w else tget d t k

/-- The table without entry `k`. -/
def tdrop {α : Type} (t : Tab α) (k : Nat) : Tab α := t.filter (fun e => e.1 != k)

/-- The table with entry `k` listed as `v`, before the first key above it. -/
def tput {α : Type} : Tab α → Nat → α → Tab α
  | [], k, v => [(k, v)]
  | (j, w) :: t, k, v => if k < j then (k, v) :: (j, w) :: t else if k = j then (k, v) :: t else (j, w) :: tput t k v

/-- The table with entry `k` set to `v`: keys stay strictly rising, and a key that holds its default is not listed. -/
def tset {α : Type} [DecidableEq α] (d : Nat → α) (t : Tab α) (k : Nat) (v : α) : Tab α :=
  if v = d k then tdrop t k else tput t k v

/-- The canonical form of a table above key `lo`. -/
def tabAbove {α : Type} [DecidableEq α] (d : Nat → α) : Option Nat → Tab α → Bool
  | _, [] => true
  | lo, (j, w) :: t => decide (∀ l ∈ lo, l < j) && decide (w ≠ d j) && tabAbove d (some j) t

/-- The canonical form: keys strictly rising, no entry equal to its default. -/
def tabWf {α : Type} [DecidableEq α] (d : Nat → α) (t : Tab α) : Bool := tabAbove d none t

/-- Element `i` of a list, changed by `f`. -/
def lmod {α : Type} (l : List α) (i : Nat) (f : α → α) : List α :=
  match l[i]? with
  | some x => l.set i (f x)
  | none => l

/-- A follow setting of aout `k` at reset: aout 0-2047 follow the embedded channels of their destination (05 R239). -/
def AoutSt.atReset (k : Nat) : AoutSt :=
  if k < 2048 then { AoutSt.reset with follow := { AudioFollow.reset with channel := k % 16, dst := k / 16 } } else AoutSt.reset

/-- An egress queue at reset: queue 2 of a port holds 262,144 bytes, and queues 4-11 earn 9,216 bytes a turn (08 R342). -/
def QueueSt.atReset (k : Nat) : QueueSt :=
  if k % 12 = 2 then { QueueSt.reset with cfg := { QueueCfg.reset with limit := 262144 } }
  else if k % 12 ≥ 4 then { QueueSt.reset with cfg := { QueueCfg.reset with quantum := 9216 } }
  else QueueSt.reset

/-- The source with number `k`. -/
def State.src (s : State) (k : Nat) : SrcSt := tget (fun _ => SrcSt.reset) s.srcs k

/-- Change of the source with number `k`. -/
def State.modSrc (s : State) (k : Nat) (f : SrcSt → SrcSt) : State :=
  { s with srcs := tset (fun _ => SrcSt.reset) s.srcs k (f (s.src k)) }

/-- The destination with number `k`. -/
def State.dst (s : State) (k : Nat) : DstSt := tget (fun _ => DstSt.reset) s.dsts k

/-- Change of the destination with number `k`. -/
def State.modDst (s : State) (k : Nat) (f : DstSt → DstSt) : State :=
  { s with dsts := tset (fun _ => DstSt.reset) s.dsts k (f (s.dst k)) }

/-- The audio input with number `k`. -/
def State.ain (s : State) (k : Nat) : AinSt := tget (fun _ => AinSt.reset) s.ains k

/-- Change of the audio input with number `k`. -/
def State.modAin (s : State) (k : Nat) (f : AinSt → AinSt) : State :=
  { s with ains := tset (fun _ => AinSt.reset) s.ains k (f (s.ain k)) }

/-- The audio output with number `k`. -/
def State.aout (s : State) (k : Nat) : AoutSt := tget AoutSt.atReset s.aouts k

/-- Change of the audio output with number `k`. -/
def State.modAout (s : State) (k : Nat) (f : AoutSt → AoutSt) : State :=
  { s with aouts := tset AoutSt.atReset s.aouts k (f (s.aout k)) }

/-- The audio port with number `k`. -/
def State.aport (s : State) (k : Nat) : AportSt := tget (fun _ => AportSt.reset) s.aports k

/-- Change of the audio port with number `k`. -/
def State.modAport (s : State) (k : Nat) (f : AportSt → AportSt) : State :=
  { s with aports := tset (fun _ => AportSt.reset) s.aports k (f (s.aport k)) }

/-- The lane with number `k`. -/
def State.lane (s : State) (k : Nat) : LaneSt := tget (fun _ => LaneSt.reset) s.lanes k

/-- Change of the lane with number `k`. -/
def State.modLane (s : State) (k : Nat) (f : LaneSt → LaneSt) : State :=
  { s with lanes := tset (fun _ => LaneSt.reset) s.lanes k (f (s.lane k)) }

/-- The Ethernet port with number `k`. -/
def State.port (s : State) (k : Nat) : PortSt := tget (fun _ => PortSt.reset) s.ports k

/-- Change of the Ethernet port with number `k`. -/
def State.modPort (s : State) (k : Nat) (f : PortSt → PortSt) : State :=
  { s with ports := tset (fun _ => PortSt.reset) s.ports k (f (s.port k)) }

/-- The flow entry with number `k`. -/
def State.flow (s : State) (k : Nat) : FlowSt := tget (fun _ => FlowSt.reset) s.flows k

/-- Change of the flow entry with number `k`. -/
def State.modFlow (s : State) (k : Nat) (f : FlowSt → FlowSt) : State :=
  { s with flows := tset (fun _ => FlowSt.reset) s.flows k (f (s.flow k)) }

/-- The egress queue with number `k`. -/
def State.queue (s : State) (k : Nat) : QueueSt := tget QueueSt.atReset s.queues k

/-- Change of the egress queue with number `k`. -/
def State.modQueue (s : State) (k : Nat) (f : QueueSt → QueueSt) : State :=
  { s with queues := tset QueueSt.atReset s.queues k (f (s.queue k)) }

/-- The gate list with number `k`. -/
def State.gate (s : State) (k : Nat) : GateSt := tget (fun _ => GateSt.reset) s.gates k

/-- Change of the gate list with number `k`. -/
def State.modGate (s : State) (k : Nat) (f : GateSt → GateSt) : State :=
  { s with gates := tset (fun _ => GateSt.reset) s.gates k (f (s.gate k)) }

/-- The host trigger with number `k`. -/
def State.trig (s : State) (k : Nat) : TrigSt := tget (fun _ => TrigSt.reset) s.trigs k

/-- Change of the host trigger with number `k`. -/
def State.modTrig (s : State) (k : Nat) (f : TrigSt → TrigSt) : State :=
  { s with trigs := tset (fun _ => TrigSt.reset) s.trigs k (f (s.trig k)) }

/-- The stem with number `k`. -/
def State.stem (s : State) (k : Nat) : StemSt := tget (fun _ => StemSt.reset) s.stems k

/-- Change of the stem with number `k`. -/
def State.modStem (s : State) (k : Nat) (f : StemSt → StemSt) : State :=
  { s with stems := tset (fun _ => StemSt.reset) s.stems k (f (s.stem k)) }

/-- The rendition with number `k`. -/
def State.rend (s : State) (k : Nat) : RendSt := tget (fun _ => RendSt.reset) s.rends k

/-- Change of the rendition with number `k`. -/
def State.modRend (s : State) (k : Nat) (f : RendSt → RendSt) : State :=
  { s with rends := tset (fun _ => RendSt.reset) s.rends k (f (s.rend k)) }

/-- The delivery with number `k`. -/
def State.deliv (s : State) (k : Nat) : DelivSt := tget (fun _ => DelivSt.reset) s.delivs k

/-- Change of the delivery with number `k`. -/
def State.modDeliv (s : State) (k : Nat) (f : DelivSt → DelivSt) : State :=
  { s with delivs := tset (fun _ => DelivSt.reset) s.delivs k (f (s.deliv k)) }

/-- The Rider consumer with number `k`. -/
def State.core (s : State) (k : Nat) : Core := tget (fun _ => Core.reset) s.cores k

/-- Change of the Rider consumer with number `k`. -/
def State.modCore (s : State) (k : Nat) (f : Core → Core) : State :=
  { s with cores := tset (fun _ => Core.reset) s.cores k (f (s.core k)) }

/-- The back-fill job with number `k`. -/
def State.job (s : State) (k : Nat) : JobSt := tget (fun _ => JobSt.reset) s.jobs k

/-- Change of the back-fill job with number `k`. -/
def State.modJob (s : State) (k : Nat) (f : JobSt → JobSt) : State :=
  { s with jobs := tset (fun _ => JobSt.reset) s.jobs k (f (s.job k)) }

/-- The host flow with number `k`. -/
def State.hostFlow (s : State) (k : Nat) : HostFlow := tget (fun _ => HostFlow.reset) s.hostFlows k

/-- Change of the host flow with number `k`. -/
def State.modHostFlow (s : State) (k : Nat) (f : HostFlow → HostFlow) : State :=
  { s with hostFlows := tset (fun _ => HostFlow.reset) s.hostFlows k (f (s.hostFlow k)) }

/-- The decode context with number `k`. -/
def State.ctx (s : State) (k : Nat) : CtxSt := tget (fun _ => CtxSt.reset) s.ctxs k

/-- Change of the decode context with number `k`. -/
def State.modCtx (s : State) (k : Nat) (f : CtxSt → CtxSt) : State :=
  { s with ctxs := tset (fun _ => CtxSt.reset) s.ctxs k (f (s.ctx k)) }

/-- The layer with number `k`. -/
def State.layer (s : State) (k : Nat) : LayerSt := tget (fun _ => LayerSt.reset) s.layers k

/-- Change of the layer with number `k`. -/
def State.modLayer (s : State) (k : Nat) (f : LayerSt → LayerSt) : State :=
  { s with layers := tset (fun _ => LayerSt.reset) s.layers k (f (s.layer k)) }

/-- The Gauge unit with number `k`. -/
def State.gauge (s : State) (k : Nat) : GaugeSt := tget (fun _ => GaugeSt.reset) s.gauges k

/-- Change of the Gauge unit with number `k`. -/
def State.modGauge (s : State) (k : Nat) (f : GaugeSt → GaugeSt) : State :=
  { s with gauges := tset (fun _ => GaugeSt.reset) s.gauges k (f (s.gauge k)) }

/-- The ring with number `k`; a number past the last has the reset values. -/
def State.ring (s : State) (k : Nat) : Ring := s.rings.getD k Ring.reset

/-- Change of the ring with number `k`. -/
def State.modRing (s : State) (k : Nat) (f : Ring → Ring) : State := { s with rings := lmod s.rings k f }

/-- The timing domain with number `k`; a number past the last has the reset values. -/
def State.domain (s : State) (k : Nat) : DomainSt := s.domains.getD k DomainSt.reset

/-- Change of the timing domain with number `k`. -/
def State.modDomain (s : State) (k : Nat) (f : DomainSt → DomainSt) : State := { s with domains := lmod s.domains k f }

/-- The I2C bus with number `k`; a number past the last has the reset values. -/
def State.bus (s : State) (k : Nat) : I2cBus := s.buses.getD k I2cBus.reset

/-- Change of the I2C bus with number `k`. -/
def State.modBus (s : State) (k : Nat) (f : I2cBus → I2cBus) : State := { s with buses := lmod s.buses k f }

/-- The plane supervisor with number `k`; a number past the last has the reset values. -/
def State.plane (s : State) (k : Nat) : PlaneSt := s.planes.getD k PlaneSt.reset

/-- Change of the plane supervisor with number `k`. -/
def State.modPlane (s : State) (k : Nat) (f : PlaneSt → PlaneSt) : State := { s with planes := lmod s.planes k f }

/-- The reference input with number `k`; a number past the last has the reset values. -/
def State.ref (s : State) (k : Nat) : RefSt := s.refs.getD k RefSt.reset

/-- Change of the reference input with number `k`. -/
def State.modRef (s : State) (k : Nat) (f : RefSt → RefSt) : State := { s with refs := lmod s.refs k f }

/-- The capture block with number `k`; a number past the last has the reset values. -/
def State.cap (s : State) (k : Nat) : CapSt := s.caps.getD k CapSt.reset

/-- Change of the capture block with number `k`. -/
def State.modCap (s : State) (k : Nat) (f : CapSt → CapSt) : State := { s with caps := lmod s.caps k f }

/-- The Rider with number `k`; a number past the last has the reset values. -/
def State.rider (s : State) (k : Nat) : RiderSt := s.riders.getD k RiderSt.reset

/-- Change of the Rider with number `k`. -/
def State.modRider (s : State) (k : Nat) (f : RiderSt → RiderSt) : State := { s with riders := lmod s.riders k f }

/-- The head with number `k`; a number past the last has the reset values. -/
def State.head (s : State) (k : Nat) : HeadSt := s.heads.getD k HeadSt.reset

/-- Change of the head with number `k`. -/
def State.modHead (s : State) (k : Nat) (f : HeadSt → HeadSt) : State := { s with heads := lmod s.heads k f }

/-- The Culvert channel with number `k`; a number past the last has the reset values. -/
def State.culvert (s : State) (k : Nat) : CulvertSt := s.culverts.getD k CulvertSt.reset

/-- Change of the Culvert channel with number `k`. -/
def State.modCulvert (s : State) (k : Nat) (f : CulvertSt → CulvertSt) : State := { s with culverts := lmod s.culverts k f }

/-- The DRAM stack with number `k`; a number past the last has the reset values. -/
def State.stack (s : State) (k : Nat) : StackSt := s.dramStacks.getD k StackSt.reset

/-- Change of the DRAM stack with number `k`. -/
def State.modStack (s : State) (k : Nat) (f : StackSt → StackSt) : State := { s with dramStacks := lmod s.dramStacks k f }

/-- The memory service of reach with number `k`; a number past the last has the reset values. -/
def State.reachMem (s : State) (k : Nat) : ReachMem := s.rmem.getD k ReachMem.reset

/-- Change of the memory service of reach with number `k`. -/
def State.modReachMem (s : State) (k : Nat) (f : ReachMem → ReachMem) : State := { s with rmem := lmod s.rmem k f }

end Sys2Proof.Machine
end

