-- ==== Sys2Proof/Machine/Formats.lean ====
section
/-! DEFINITION. Rates, rasters, sampling codes and gangs (01 R26; 03 R134 to R138), and the times of domain boundaries
(01 R25, R28). -/
namespace Sys2Proof.Machine

/-- Frames per second of a rate code, as numerator and denominator (01 R26); none for code 0 and the reserved codes. -/
def rateOf : Nat → Option (Nat × Nat)
  | 0x1 => some (24000, 1001)
  | 0x2 => some (24, 1)
  | 0x3 => some (25, 1)
  | 0x4 => some (30000, 1001)
  | 0x5 => some (30, 1)
  | 0x6 => some (48000, 1001)
  | 0x7 => some (48, 1)
  | 0x8 => some (50, 1)
  | 0x9 => some (60000, 1001)
  | 0xA => some (60, 1)
  | 0xB => some (100, 1)
  | 0xC => some (120000, 1001)
  | 0xD => some (120, 1)
  | _ => none

/-- Numerator of a rate, 0 when the code names none. -/
def rateNum (c : Nat) : Nat := match rateOf c with | some (n, _) => n | none => 0

/-- Denominator of a rate. -/
def rateDen (c : Nat) : Nat := match rateOf c with | some (_, d) => d | none => 1

/-- Frame period in ps, rounded to the nearest; 0 when the code names no rate. -/
def periodPs (c : Nat) : Nat := if rateNum c = 0 then 0 else (rateDen c * 1000000000000 + rateNum c / 2) / rateNum c

/-- A raster of R134. -/
structure Raster where
  width : Nat
  height : Nat
  interlaced : Bool
  total : Nat
  rates : List Nat
  switching : Nat
  firstActive : Nat
  /-- vertical blanking in line periods -/
  blanking : Nat
deriving DecidableEq, Repr

/-- Rates of the rasters listed for every rate code (03 R134). -/
def allRates : List Nat := [1, 2, 3, 4, 5, 6, 7, 8, 9, 10, 11, 12, 13]

/-- The raster with an identifier (03 R134); none for a reserved one. -/
def rasterOf : Nat → Option Raster
  | 0x01 => some ⟨720, 486, true, 525, [4], 10, 21, 20⟩
  | 0x02 => some ⟨720, 576, true, 625, [3], 6, 23, 24⟩
  | 0x10 => some ⟨1280, 720, false, 750, [3, 4, 5, 8, 9, 10], 7, 26, 30⟩
  | 0x20 => some ⟨1920, 1080, true, 1125, [3, 4, 5], 7, 21, 22⟩
  | 0x21 => some ⟨1920, 1080, false, 1125, allRates, 7, 42, 45⟩
  | 0x30 => some ⟨3840, 2160, false, 2250, allRates, 7, 42, 90⟩
  | 0x31 => some ⟨4096, 2160, false, 2250, allRates, 7, 42, 90⟩
  | 0x40 => some ⟨7680, 4320, false, 4500, allRates, 7, 42, 180⟩
  | _ => none

/-- A raster is allowed at a rate (03 R134). -/
def rasterAllows (raster rate : Nat) : Bool :=
  match rasterOf raster with
  | some r => r.rates.contains rate
  | none => false

/-- Weight of a sampling code, none when reserved (03 R135). -/
def samplingWeight (c : Nat) : Option Nat := if c = 0 then some 1 else if c ≤ 5 then some 2 else none

/-- A sampling code of 12 bits a sample (03 R135). -/
def is12bit (c : Nat) : Bool := c == 1 || c == 3 || c == 5

/-- A sampling code of an RGB format (03 R135). -/
def isRgb (c : Nat) : Bool := c == 4 || c == 5

/-- Neither field of a colour byte is reserved (03 R136). -/
def colourKnown (c : Nat) : Bool := c % 16 ≤ 2 && c / 16 ≤ 3

/-- A colour byte that a source may carry: known, and neither field 0 (03 R136). -/
def colourFull (c : Nat) : Bool := colourKnown c && c % 16 != 0 && c / 16 != 0

/-- A destination colour byte with every field 0 taken from the source (03 R136). -/
def resolveColour (dst src : Nat) : Nat :=
  (if dst % 16 = 0 then src % 16 else dst % 16) + 16 * (if dst / 16 = 0 then src / 16 else dst / 16)

/-- One port carries a share of a format: at most 1.0 Gpixel/s of load and 4,096 samples of a line (03 R137, R138). -/
def gangFits (r : Raster) (weight num den n : Nat) : Bool :=
  r.width * r.height * num * weight ≤ 1000000000 * den * n &&
  (if n = 1 then r.width else r.width / 2) ≤ 4096

/-- The gang of a format at a rate of `num / den` frames per second, none when it fits no gang of 4; with `num` 0 only the
line width is judged (03 R138). -/
def gangOf (raster sampling num den : Nat) : Option Nat :=
  match rasterOf raster, samplingWeight sampling with
  | some r, some w => [1, 2, 4].find? (gangFits r w num den)
  | _, _ => none

/-- Samples of one line of a format that its gang's member carries, and its lines (03 R140). -/
def memberLines (f : Fmt) : Nat :=
  match rasterOf f.raster with
  | some r => if f.gang = 4 then r.height / 2 else r.height
  | none => 0

/-- Ceiling division. -/
def cdiv (a b : Nat) : Nat := if b = 0 then 0 else (a + b - 1) / b

/-- Alignment point of a frame, ns since the epoch, rounded up (01 R25, 00 R12). -/
def alignNs (rate n : Nat) : Nat := cdiv (n * rateDen rate * 1000000000) (rateNum rate)

/-- Boundary of a frame of a video domain: the start of the switching line of its reference raster, ns since the epoch,
rounded up (01 R28). -/
def boundaryNs (rate raster n : Nat) : Nat :=
  match rasterOf raster with
  | some r => cdiv ((n * r.total + (r.switching - 1)) * rateDen rate * 1000000000) (rateNum rate * r.total)
  | none => alignNs rate n

/-- The first frame whose alignment point is at or after a time (01 R60). -/
def frameAt (rate ns : Nat) : Nat := cdiv (ns * rateNum rate) (rateDen rate * 1000000000)

/-- The first frame whose boundary is at or after a time (01 R38). -/
def frameFrom (rate raster ns : Nat) : Nat :=
  match rasterOf raster with
  | some r =>
    let off := (r.switching - 1) * rateDen rate * 1000000000
    cdiv (ns * rateNum rate * r.total - off) (rateDen rate * 1000000000 * r.total)
  | none => frameAt rate ns

/-- Line period of a raster at a rate in ps, rounded down. -/
def linePs (raster rate : Nat) : Nat :=
  match rasterOf raster with
  | some r => if rateNum rate = 0 then 0 else rateDen rate * 1000000000000 / (rateNum rate * r.total)
  | none => 0

end Sys2Proof.Machine
end

