-- ==== Sys2Proof/Machine/Picture.lean ====
section
/-! DEFINITION. Pictures as their samples: planes and sampling, the division of a gang, the colour matrices, format conversion, the
generated patterns, and the scaler (03 R135, R140, R141, R147, R151; 04 R191, R192; 13 R557, R558, R561, R563, R564, R569). -/
namespace Sys2Proof.Machine

/-- Three components of a pixel: Y, Cb, Cr or R, G, B (13 R569). -/
abbrev Pixel := Nat × Nat × Nat

/-- The planes of a picture in its component order; the second and third have half the columns in 4:2:2 (03 R135). -/
structure Planes where
  a : Picture
  b : Picture
  c : Picture
deriving DecidableEq, Repr

/-! ### Samples and planes (03 R135; 04 R204) -/

/-- A sampling code of 4:2:2 (03 R135). -/
def is422 (sampling : Nat) : Bool := sampling ≤ 1

/-- Every `n`-th element from `off` on. -/
def everyNth {α : Type} (n off : Nat) (l : List α) : List α := (l.zipIdx.filter (fun e => e.2 % n == off)).map (·.1)

/-- Components of a line: the order of a pixel's samples is Cb Y Cr Y for 4:2:2, Cb Y Cr and R G B otherwise. DESIGN CHOICE (log
entry 135): the spec names no order of the samples of a pixel. -/
def lineParts (sampling : Nat) (l : List Nat) : List Nat × List Nat × List Nat :=
  if is422 sampling then (everyNth 2 1 l, everyNth 4 0 l, everyNth 4 2 l)
  else if isRgb sampling then (everyNth 3 0 l, everyNth 3 1 l, everyNth 3 2 l)
  else (everyNth 3 1 l, everyNth 3 0 l, everyNth 3 2 l)

/-- The samples of a line from its components. -/
def joinLine (sampling : Nat) (p : List Nat × List Nat × List Nat) : List Nat :=
  if is422 sampling then
    (List.range (p.1.length / 2)).flatMap (fun i => [p.2.1.getD i 0, p.1.getD (2 * i) 0, p.2.2.getD i 0, p.1.getD (2 * i + 1) 0])
  else (List.range p.1.length).flatMap (fun i =>
    if isRgb sampling then [p.1.getD i 0, p.2.1.getD i 0, p.2.2.getD i 0] else [p.2.1.getD i 0, p.1.getD i 0, p.2.2.getD i 0])

/-- The planes of a picture. -/
def planesOf (sampling : Nat) (p : Picture) : Planes :=
  let l := p.map (lineParts sampling)
  { a := l.map (·.1), b := l.map (·.2.1), c := l.map (·.2.2) }

/-- The picture of planes. -/
def ofPlanes (sampling : Nat) (p : Planes) : Picture :=
  p.a.zipIdx.map (fun e => joinLine sampling (e.1, p.b.getD e.2 [], p.c.getD e.2 []))

/-- The pixels of one line of planes with three components a pixel. -/
def linePixels (p : Planes) (y : Nat) : List Pixel :=
  (p.a.getD y []).zipIdx.map (fun e => (e.1, (p.b.getD y []).getD e.2 0, (p.c.getD y []).getD e.2 0))

/-- The planes of lines of pixels. -/
def pixelPlanes (l : List (List Pixel)) : Planes :=
  { a := l.map (·.map (·.1)), b := l.map (·.map (·.2.1)), c := l.map (·.map (·.2.2)) }

/-! ### Frames in the slots of the host window (14 R585) -/

/-- Bytes from one plane of a slot to the next (14 R585). -/
def planeSpan : Nat := 0x2400000

/-- The byte that the samples of a picture put at an offset of a slot, none where no sample lies (14 R585). -/
def slotByte (sampling : Nat) (p : Picture) (off : Nat) : Option Byte :=
  let q := planesOf sampling p
  let plane := if off / planeSpan = 0 then q.a else if off / planeSpan = 1 then q.b else if off / planeSpan = 2 then q.c else []
  ((plane.getD (off % planeSpan / 8192) [])[off % 8192 / 2]?).map (fun v => BitVec.ofNat 8 (v / 256 ^ (off % 2)))

/-- The picture of `w` by `h` that the bytes of a slot hold; the bits above a sample's are ignored (14 R585). -/
def slotPicture (byte : Nat → Byte) (sampling w h : Nat) : Picture :=
  let sample := fun (o : Nat) => ((byte o).toNat + 256 * (byte (o + 1)).toNat) % (if is12bit sampling then 4096 else 1024)
  let plane := fun (i n : Nat) => (List.range h).map (fun y => (List.range n).map (fun x => sample (i * planeSpan + 8192 * y + 2 * x)))
  let n := if is422 sampling then w / 2 else w
  ofPlanes sampling { a := plane 0 w, b := plane 1 n, c := plane 2 n }

/-! ### The division of a gang (03 R140, R141) -/

/-- Samples of a pair of pixels (03 R140). -/
def pairSamples (sampling : Nat) : Nat := if is422 sampling then 4 else 6

/-- The part of a line that holds every second pair of pixels, from pair `m` on (03 R140). -/
def halfLine (sampling m : Nat) (l : List Nat) : List Nat :=
  (l.zipIdx.filter (fun e => e.2 / pairSamples sampling % 2 == m)).map (·.1)

/-- The picture that member `m` of a gang carries (03 R140). -/
def memberPicture (sampling gang m : Nat) (p : Picture) : Picture :=
  if gang = 4 then (everyNth 2 (m / 2) p).map (halfLine sampling (m % 2))
  else if gang = 2 then p.map (halfLine sampling m)
  else p

/-- A picture divided among the members of a gang (03 R140). -/
def divide (sampling gang : Nat) (p : Picture) : List Picture := (List.range (max 1 gang)).map (fun m => memberPicture sampling gang m p)

/-- Two half lines joined by pairs of pixels. -/
def mergeLine (n : Nat) (a b : List Nat) : List Nat :=
  (List.range (a.length + b.length)).map (fun i => (if i / n % 2 = 0 then a else b).getD (i / (2 * n) * n + i % n) 0)

/-- The picture that the members of a gang carry together (03 R140, R141). -/
def unite (sampling : Nat) (ms : List Picture) : Picture :=
  let n := pairSamples sampling
  let m := fun i => ms.getD i []
  match ms.length with
  | 0 => []
  | 1 => m 0
  | 2 => (m 0).zipIdx.map (fun e => mergeLine n e.1 ((m 1).getD e.2 []))
  | _ => (List.range (2 * (m 0).length)).map (fun y =>
      mergeLine n ((m (y % 2 * 2)).getD (y / 2) []) ((m (y % 2 * 2 + 1)).getD (y / 2) []))

/-! ### Colour matrices (13 R569) -/

/-- A 3 x 3 matrix of S2.13 coefficients with its offsets, at 12 bits (13 R569). -/
structure Matrix3 where
  m : List Int
  pre : List Int
  post : List Int
deriving DecidableEq, Repr

/-- `a / b` rounded to the nearest; a tie goes up. DESIGN CHOICE (log entry 136). -/
def roundDiv (a b : Int) : Int := (2 * a + b).ediv (2 * b)

/-- Kr and Kb of a colorimetry in units of 1/10,000: BT.709, or BT.2020 (13 R569). -/
def lumaWeights (colorimetry : Nat) : Int × Int := if colorimetry = 2 then (2627, 593) else (2126, 722)

/-- YCbCr to RGB (13 R569). -/
def toRgbMatrix (colorimetry : Nat) : Matrix3 :=
  let kr := (lumaWeights colorimetry).1
  let kb := (lumaWeights colorimetry).2
  let kg := 10000 - kr - kb
  let one := (8192 : Int)
  { m := [one, 0, roundDiv (8192 * 2 * (10000 - kr) * 219) (10000 * 224),
          one, roundDiv (-(8192 * 2 * kb * (10000 - kb) * 219)) (10000 * kg * 224), roundDiv (-(8192 * 2 * kr * (10000 - kr) * 219)) (10000 * kg * 224),
          one, roundDiv (8192 * 2 * (10000 - kb) * 219) (10000 * 224), 0]
    pre := [0, 2048, 2048]
    post := [0, 0, 0] }

/-- RGB to YCbCr (13 R569). -/
def toYcbcrMatrix (colorimetry : Nat) : Matrix3 :=
  let kr := (lumaWeights colorimetry).1
  let kb := (lumaWeights colorimetry).2
  let kg := 10000 - kr - kb
  let luma := fun k : Int => roundDiv (8192 * k) 10000
  let cb := fun k : Int => roundDiv (8192 * k * 224) (2 * (10000 - kb) * 219)
  let cr := fun k : Int => roundDiv (8192 * k * 224) (2 * (10000 - kr) * 219)
  { m := [luma kr, luma kg, luma kb, cb (-kr), cb (-kg), cb (10000 - kb), cr (10000 - kr), cr (-kg), cr (-kb)]
    pre := [0, 0, 0]
    post := [0, 2048, 2048] }

/-- The primaries conversion between two colorimetries, on video-range RGB codes (13 R569). -/
def primariesMatrix (source dest : Nat) : Matrix3 :=
  { m := if source = dest then [8192, 0, 0, 0, 8192, 0, 0, 0, 8192]
         else if dest = 2 then [5140, 2697, 355, 566, 7533, 93, 134, 721, 7337]
         else [13603, -4814, -597, -1020, 9280, -68, -149, -824, 9165]
    pre := [256, 256, 256]
    post := [256, 256, 256] }

/-- Row `i` of a matrix on three values less its offsets, in units of 1/8,192. -/
def Matrix3.row (x : Matrix3) (v : List Int) (i : Nat) : Int :=
  ((List.range 3).map (fun j => x.m.getD (3 * i + j) 0 * (v.getD j 0 - x.pre.getD j 0))).foldl (· + ·) 0

/-- A value between two limits. -/
def clampI (lo hi v : Int) : Int := max lo (min hi v)

/-- `out = M x (in - pre) + post`, rounded and clipped to 4 to 4,091 at 12 bits; at 10 bits the offsets and the limits are a quarter
of those (13 R569; 03 R147). DESIGN CHOICE (log entry 136): the presets are given for 12-bit codes only. -/
def Matrix3.apply (x : Matrix3) (twelve : Bool) (p : Pixel) : Pixel :=
  let q : Int := if twelve then 1 else 4
  let y := { x with pre := x.pre.map (fun (v : Int) => v.ediv q), post := x.post.map (fun (v : Int) => v.ediv q) }
  let v := [(p.1 : Int), (p.2.1 : Int), (p.2.2 : Int)]
  let o := fun i => (clampI (if twelve then 4 else 1) (if twelve then 4091 else 1022) (roundDiv (y.row v i) 8192 + y.post.getD i 0)).toNat
  (o 0, o 1, o 2)

/-- Two steps as one matrix: `second` after `first`, its coefficients and offsets rounded (13 R569; log entry 136). -/
def Matrix3.after (second first : Matrix3) : Matrix3 :=
  let e := fun i j => roundDiv (((List.range 3).map (fun k => second.m.getD (3 * i + k) 0 * first.m.getD (3 * k + j) 0)).foldl (· + ·) 0) 8192
  { m := (List.range 9).map (fun n => e (n / 3) (n % 3))
    pre := first.pre
    post := (List.range 3).map (fun i => roundDiv (second.row first.post i) 8192 + second.post.getD i 0) }

/-- The matrix that changes nothing. -/
def Matrix3.identity : Matrix3 := { m := [8192, 0, 0, 0, 8192, 0, 0, 0, 8192], pre := [0, 0, 0], post := [0, 0, 0] }

/-- The steps from a source's components to a destination's: to RGB where the primaries change or the destination is RGB, the
primaries, and to YCbCr (03 R147; 13 R569; log entry 136). -/
def colourSteps (rgbIn : Bool) (colourIn : Nat) (rgbOut : Bool) (colourOut : Nat) : List Matrix3 :=
  let change := colourIn % 16 != colourOut % 16
  (if !rgbIn && (rgbOut || change) then [toRgbMatrix (colourIn % 16)] else []) ++
  (if change then [primariesMatrix (colourIn % 16) (colourOut % 16)] else []) ++
  (if !rgbOut && (rgbIn || change) then [toYcbcrMatrix (colourOut % 16)] else [])

/-! ### Format conversion (03 R147) -/

/-- A line of a chroma plane interpolated to `n` columns (03 R147; log entry 137). -/
def upLine (n : Nat) (l : List Nat) : List Nat := (List.range n).map (Config.chromaUp l)

/-- A line of a chroma plane filtered to half its columns by the fixed low-pass filter (03 R147; log entry 137). -/
def downLine (l : List Nat) : List Nat := (List.range (l.length / 2)).map (Config.chromaDown l)

/-- Planes with three components a pixel: 4:2:2 to 4:4:4 by interpolation (03 R147). -/
def upSample (sampling : Nat) (p : Planes) : Planes :=
  if is422 sampling then
    { p with b := p.b.zipIdx.map (fun e => upLine (p.a.getD e.2 []).length e.1), c := p.c.zipIdx.map (fun e => upLine (p.a.getD e.2 []).length e.1) }
  else p

/-- Planes of a sampling from planes with three components a pixel (03 R147). -/
def downSample (sampling : Nat) (p : Planes) : Planes :=
  if is422 sampling then { p with b := p.b.map downLine, c := p.c.map downLine } else p

/-- Every pixel of planes with three components a pixel changed. -/
def Planes.mapPixels (f : Pixel → Pixel) (p : Planes) : Planes :=
  pixelPlanes ((List.range p.a.length).map (fun y => (linePixels p y).map f))

/-- Every sample of planes changed. -/
def Planes.mapSamples (f : Nat → Nat) (p : Planes) : Planes :=
  { a := p.a.map (·.map f), b := p.b.map (·.map f), c := p.c.map (·.map f) }

/-- 10-bit to 12-bit by a shift left of 2, or 12-bit to 10-bit by rounding to the nearest value (03 R147). -/
def depthCode (twelveIn twelveOut : Bool) (v : Nat) : Nat :=
  if twelveIn == twelveOut then v else if twelveOut then 4 * v else min 1023 ((v + 2) / 4)

/-- A format converter: sampling, matrix, colorimetry, bit depth, in this order (03 R147). A change of colorimetry, which acts on RGB,
stands between two matrices (log entry 136). The sampling of step 1 is changed up before and down after the matrices, which need three
components a pixel. -/
def convertPicture (f g : Fmt) (p : Picture) : Picture :=
  if f.sampling = g.sampling ∧ f.colour % 16 = g.colour % 16 then p
  else
    let full := upSample f.sampling (planesOf f.sampling p)
    let steps := colourSteps (isRgb f.sampling) f.colour (isRgb g.sampling) g.colour
    let mixed := full.mapPixels (fun v => steps.foldl (fun v m => m.apply (is12bit f.sampling) v) v)
    let same := is422 f.sampling && is422 g.sampling && steps.isEmpty
    let out := if same then planesOf f.sampling p else downSample g.sampling mixed
    ofPlanes g.sampling (out.mapSamples (depthCode (is12bit f.sampling) (is12bit g.sampling)))

/-! ### Black, patterns and the moving box (03 R151; 04 R191, R192) -/

/-- Active width and height of a format, 0 for none (03 R134). -/
def fmtSize (f : Fmt) : Nat × Nat := match rasterOf f.raster with | some r => (r.width, r.height) | none => (0, 0)

/-- A 10-bit code at the depth of a sampling (03 R147). -/
def atDepth (sampling v : Nat) : Nat := if is12bit sampling then 4 * v else v

/-- A pixel of 10-bit RGB codes in the components of a format (13 R569). -/
def rgbPixel (f : Fmt) (p : Pixel) : Pixel :=
  let t := (4 * p.1, 4 * p.2.1, 4 * p.2.2)
  let q := if isRgb f.sampling then t else (toYcbcrMatrix (f.colour % 16)).apply true t
  let d := depthCode true (is12bit f.sampling)
  (d q.1, d q.2.1, d q.2.2)

/-- A picture of a format from the components of each pixel, by column and line. -/
def drawPicture (f : Fmt) (pix : Nat → Nat → Pixel) : Picture :=
  let l := (List.range (fmtSize f).2).map (fun y => (List.range (fmtSize f).1).map (fun x => pix x y))
  let p := pixelPlanes l
  ofPlanes f.sampling (if is422 f.sampling then { p with b := p.b.map (everyNth 2 0), c := p.c.map (everyNth 2 0) } else p)

/-- Black of a format: luma or every colour component 64, chroma 512, as 10-bit codes (04 R191). -/
def blackPixel (f : Fmt) : Pixel :=
  let d := atDepth f.sampling
  if isRgb f.sampling then (d 64, d 64, d 64) else (d 64, d 512, d 512)

/-- The picture that is black in a format (03 R154; 04 R191). -/
def blackPicture (f : Fmt) : Picture := drawPicture f (fun _ _ => blackPixel f)

/-- 10-bit RGB codes of bar `i` of the colour bars: white, yellow, cyan, green, magenta, red, blue, black, at 100 % or 75 %
(04 R192). PRESUMED (log entry 138): the spec names the pattern only. -/
def barRgb (full : Bool) (i : Nat) : Pixel :=
  let hi := if full then 940 else 721
  let v := fun b : Bool => if b then hi else 64
  (v (i % 8 ≤ 1 || i % 8 == 4 || i % 8 == 5), v (i % 8 ≤ 3), v (i % 8 == 0 || i % 8 == 2 || i % 8 == 4 || i % 8 == 6))

/-- A pixel of a pattern in a format (04 R192): the bar at a column is a free value (log entry 138). -/
def patternPixel (f : Fmt) (code x : Nat) : Pixel :=
  let w := (fmtSize f).1
  let d := atDepth f.sampling
  if code = 0 then rgbPixel f (barRgb true (Config.barAt w x))
  else if code = 1 then rgbPixel f (barRgb false (Config.barAt w x))
  else if code = 2 then (d 512, d 512, d 512)
  else
    let v := 64 + (roundDiv (876 * x) (max 1 (w - 1) : Nat)).toNat
    if isRgb f.sampling then (d v, d v, d v) else (d v, d 512, d 512)

/-- The white box of pattern 0x4: 1/16 of the active width and height, 8 pixels further to the right each frame, wrapping at the edge
(03 R151). Where it starts is free (log entry 138). -/
def inBox (f : Fmt) (n x y : Nat) : Bool :=
  let w := (fmtSize f).1
  let h := (fmtSize f).2
  let left := (Config.boxStart.1 + 8 * n) % max 1 w
  let top := Config.boxStart.2 % max 1 (h - h / 16)
  decide ((x + w - left) % max 1 w < w / 16) && top ≤ y && y < top + h / 16

/-- The picture of a pattern of R192, or of pattern 0x4 in its `n`-th frame (03 R151; 04 R192). -/
def patternPicture (f : Fmt) (code n : Nat) : Picture :=
  if code = 4 then drawPicture f (fun x y => if inBox f n x y then rgbPixel f (940, 940, 940) else patternPixel f 1 x)
  else drawPicture f (fun x _ => patternPixel f code x)

/-! ### Scaling (13 R563, R564) -/

/-- One in the fixed point of the filter weights. -/
def fxOne : Int := 1000000000000000000000000

/-- Pi in that fixed point. -/
def fxPi : Int := 3141592653589793238462643

/-- Sine of `t` in the fixed point, by its series, for `t` of at most pi / 2 in size. -/
def fxSin (t : Int) : Int :=
  ((List.range 16).foldl (fun (a : Int × Int) (i : Nat) =>
    let n : Int := 2 * (i : Int) + 2
    (a.1 + a.2, (-(a.2 * t).ediv fxOne * t).ediv (fxOne * n * (n + 1)))) (0, t)).1

/-- `sin(pi y) / (pi y)` for `y = num / den`, 1 at 0 (13 R564). -/
def fxSinc (num : Int) (den : Nat) : Int :=
  if num = 0 then fxOne
  else
    let n := roundDiv num den
    let f := (num - n * den) * fxPi / den
    let sn := if n % 2 = 0 then fxSin f else -fxSin f
    sn * fxOne * den / (fxPi * num)

/-- The kernel at `x = num / den` with `taps` taps and `c = cn / cd` (13 R564). -/
def fxLambda (num : Int) (den taps cn cd : Nat) : Int :=
  if 2 * num.natAbs ≥ taps * den then 0 else fxSinc (num * cn) (den * cd) * fxSinc (2 * num) (den * taps) / fxOne

/-- Weights of the taps `-T/2 + 1` to `T/2` at a phase, in units of 1/16,384, for a residual ratio `rn / rd`: normalised to sum 1,
rounded, and the difference added to the weight of greatest magnitude (13 R564). DESIGN CHOICE (log entry 139): the first of equal ones. -/
def filterWeights (taps phase rn rd : Nat) : List Int :=
  let c := if rn ≤ rd then (1, 1) else (rd, rn)
  let raw := (List.range taps).map (fun (i : Nat) => fxLambda (64 * ((i : Int) + 1 - (taps / 2 : Nat)) - phase) 64 taps c.1 c.2)
  let sum := raw.foldl (· + ·) 0
  let w := raw.map (fun v => roundDiv (16384 * v) (if sum = 0 then 1 else sum))
  let best := w.foldl (fun m v => max m v.natAbs) 0
  let at0 := (w.findIdx? (fun v => v.natAbs == best)).getD 0
  w.zipIdx.map (fun e => if e.2 = at0 then e.1 + (16384 - w.foldl (· + ·) 0) else e.1)

/-- Box factor of an axis whose ratio is `crop / dest` (13 R563). -/
def boxFactor (crop dest : Nat) : Nat := if dest != 0 && crop ≥ 2 * dest then crop / dest else 1

/-- The box pre-filter: averages of `k` consecutive elements, rounded to the nearest (13 R563). -/
def boxFilter (k : Nat) (l : List Nat) : List Nat :=
  if k ≤ 1 then l
  else (List.range (cdiv l.length k)).map (fun i =>
    let g := (l.drop (k * i)).take k
    (2 * g.foldl (· + ·) 0 + g.length) / (2 * max 1 g.length))

/-- One line scaled from its crop to `dest` samples with `taps` taps and box factor `k`; results are rounded and clipped to 4 to
4,091 (13 R563, R564). -/
def scaleLine (taps k dest : Nat) (l : List Nat) : List Nat :=
  let p := boxFilter k l
  let rn := l.length
  let rd := dest * k
  (List.range dest).map (fun (i : Nat) =>
    let num : Int := (2 * (i : Int) + 1) * rn - rd
    let den : Int := 2 * rd
    let n := num.ediv den
    let ph := (roundDiv (64 * (num - n * den)) den).toNat
    let n' : Int := if ph = 64 then n + 1 else n
    let w := filterWeights taps (ph % 64) rn rd
    let sum := (w.zipIdx.map (fun e =>
      e.1 * ((p.getD (clampI 0 ((p.length : Int) - 1) (n' + (e.2 : Int) + 1 - ((taps / 2 : Nat) : Int))).toNat 0 : Nat) : Int))).foldl (· + ·) 0
    (clampI 4 4091 (roundDiv sum 16384)).toNat)

/-- A plane with its columns as lines. -/
def transpose (p : Picture) : Picture := (List.range ((p.headD []).length)).map (fun x => p.map (fun l => l.getD x 0))

/-- A plane scaled, its lines first and then its columns (13 R563; log entry 139). -/
def scalePlane (taps kH kV w h : Nat) (p : Picture) : Picture :=
  transpose ((transpose (p.map (scaleLine 8 kH w))).map (scaleLine taps kV h))

/-- A rectangle of a plane. -/
def cropPlane (x y w h : Nat) (p : Picture) : Picture := ((p.drop y).take h).map (fun l => (l.drop x).take w)

/-- The crop of a picture's planes at 12 bits, its chroma on its own grid (13 R563, R564). -/
def cropPlanes (sampling x y w h : Nat) (p : Planes) : Planes :=
  let q := if is422 sampling then 2 else 1
  { a := cropPlane x y w h p.a, b := cropPlane (x / q) y (w / q) h p.b, c := cropPlane (x / q) y (w / q) h p.c }

/-- Planes scaled to `w` by `h`, chroma on its own sample grid (13 R563, R564). -/
def scalePlanes (sampling taps kH kV w h : Nat) (p : Planes) : Planes :=
  let q := if is422 sampling then 2 else 1
  { a := scalePlane taps kH kV w h p.a, b := scalePlane taps kH kV (w / q) h p.b, c := scalePlane taps kH kV (w / q) h p.c }

end Sys2Proof.Machine
end

