-- ==== Sys2Proof/Machine/Ops.lean ====
section
/-! DEFINITION. The operations the meanings share: device time, presence and fencing of units, outputs to the host,
counters, alarms, interrupts and events. -/
namespace Sys2Proof.Machine

/-! ### Time (00 R12; 09 R399) -/

/-- Device time in ns since the epoch. -/
def State.nowNs (s : State) : Nat := s.time / 4294967296

/-- Device time in whole seconds. -/
def State.nowS (s : State) : Nat := s.nowNs / 1000000000

/-- A command that stands for an instant in the future brings device time to that instant (log entry 14). -/
def State.advanceTo (s : State) (ns : Nat) : State :=
  { s with time := if s.nowNs < ns then ns * 4294967296 else s.time }

/-- A command stands for an instant already reached, or still ahead: device time moves to it. -/
def State.advanceBy (s : State) (ns : Nat) : State := s.advanceTo (s.nowNs + ns)

/-- A free value of the state's counter, and the state that has taken it. -/
def State.free (s : State) : Nat × State := (Config.freeNat s.freeCtr, { s with freeCtr := s.freeCtr + 1 })

/-- A free byte string. -/
def State.freeB (s : State) : Bytes × State := (Config.freeBytes s.freeCtr, { s with freeCtr := s.freeCtr + 1 })

/-! ### Units: presence, retirement, fencing (00 R4 to R6; 01 R16, R17, R19) -/

/-- A reach is fitted in a variant (01 R17). -/
def reachFitted (v : Variant) (n : Nat) : Bool :=
  match v with
  | .glc8150 => n < 2
  | _ => n < 4

/-- A variant has Clause and decode cores (00 R1). -/
def hasCores : Variant → Bool
  | .glc8140 => false
  | _ => true

/-- Part code of a variant (02 R67). -/
def partCode : Variant → Nat
  | .glc8180 => 0x8180
  | .glc8150 => 0x8150
  | .glc8140 => 0x8140
  | .glc8120 => 0x8120

/-- Reach that hosts a Sluice port (01 R16). -/
def portReach (k : Nat) : Nat := if k < 128 then k / 32 else if k < 1024 then (k - 128) / 224 else (k - 1024) % 4

/-- Position of a Sluice port within its reach's group of ports (01 R16). -/
def portSlot (k : Nat) : Nat := if k < 128 then k % 32 else if k < 1024 then (k - 128) % 224 else (k - 1024) / 4

/-- Reach that hosts a unit (01 R16; 12: control cores and converters of the control complex are of no reach). -/
def unitReach (k : UnitKind) (n : Nat) : Nat :=
  match k with
  | .flume => (n % 64) / 16
  | .rillIn | .rillOut => n / 32
  | .clause => n / 16
  | .decode => n / 4
  | .culvert => n / 8
  | .gauge => n / 16
  | .src | .dst => portReach n
  | .head => n
  | .control => 0
  | .converter => n / 32

/-- How many units of a kind the numbering has (00). -/
def unitCount : UnitKind → Nat
  | .flume | .rillIn | .rillOut => 128
  | .clause => 64
  | .decode => 16
  | .culvert => 32
  | .gauge => 64
  | .src | .dst => 1152
  | .head => 2
  | .control => 4
  | .converter => 128

/-- A unit is fitted in a variant (01 R17). The row of the GLC-8120 names neither Culvert channels, Gauge units, heads, control ports nor
converters; this model takes all of them as fitted in each fitted reach (DESIGN CHOICE, log entry 151). -/
def unitFitted (v : Variant) (k : UnitKind) (n : Nat) : Bool :=
  n < unitCount k && reachFitted v (unitReach k n) &&
  match k, v with
  | .flume, .glc8120 => n % 16 < 4
  | .rillIn, .glc8120 | .rillOut, .glc8120 => n % 32 < 8
  | .clause, _ | .decode, _ => hasCores v
  | .src, .glc8120 | .dst, .glc8120 => if n < 128 then n % 32 < 8 else if n < 1024 then portSlot n < 24 else true
  | _, _ => true

/-- A unit is present: fitted and not retired (00 R5, R6). -/
def State.present (s : State) (k : UnitKind) (n : Nat) : Bool :=
  unitFitted s.fused.part k n && !s.repair.retired.contains (k, n)

/-- A unit is fenced (01 R19). -/
def State.isFenced (s : State) (k : UnitKind) (n : Nat) : Bool := s.repair.fenced.contains (k, n)

/-- A unit is present and not fenced. -/
def State.usable (s : State) (k : UnitKind) (n : Nat) : Bool := s.present k n && !s.isFenced k n

/-- Src and dst 1024-1087 are recirculation pairs (03 R131). -/
def State.recirc (s : State) : Bool := !hasCores s.fused.part

/-- Units of a kind that satisfy a condition. -/
def unitsWhere (k : UnitKind) (p : Nat → Bool) : List Nat := (List.range (unitCount k)).filter p

/-! ### Modes (01 R44) -/

/-- Code of a mode (01 R44). -/
def Mode.code : Mode → Nat
  | .fallow => 0 | .dormant => 1 | .boot => 2 | .recovery => 3 | .training => 4 | .standby => 5
  | .gateway => 6 | .router => 7 | .encode => 8 | .full => 9 | .test => 10 | .throttled => 11

/-- The mode with a code (01 R44). -/
def modeOf : Nat → Option Mode
  | 0 => some .fallow | 1 => some .dormant | 2 => some .boot | 3 => some .recovery | 4 => some .training
  | 5 => some .standby | 6 => some .gateway | 7 => some .router | 8 => some .encode | 9 => some .full
  | 10 => some .test | 11 => some .throttled | _ => none

/-- The mode whose units run: the base mode beneath Throttled (01 R44). -/
def State.runMode (s : State) : Mode := if s.mode.current = .throttled then s.mode.base else s.mode.current

/-- A mode that runs the Sluice (01 R44). -/
def Mode.service : Mode → Bool
  | .gateway | .router | .encode | .full | .test | .throttled => true
  | _ => false

/-- A mode in which the fast domains are powered (01 R44, R50). -/
def Mode.fast : Mode → Bool
  | .fallow | .dormant => false
  | _ => true

/-- A mode that serves the rings (02 R120). -/
def Mode.rings : Mode → Bool
  | .fallow | .dormant | .boot => false
  | _ => true

/-- The Sluice and the lanes run (01 R44). -/
def State.inService (s : State) : Bool := s.mode.current.service

/-- Clause and decode cores run (01 R44). -/
def State.coresRun (s : State) : Bool := s.runMode == .encode || s.runMode == .full || s.runMode == .test

/-- The compositor runs (01 R44). -/
def State.compRuns (s : State) : Bool := s.runMode == .router || s.runMode == .full || s.runMode == .test

/-- Ports numbered 1024 and above are served (03 R133, R151). -/
def State.internalRun (s : State) : Bool := s.coresRun || s.compRuns

/-! ### Outputs -/

/-- Something the block puts out. -/
def State.emit (s : State) (o : Out) : State := { s with out := o :: s.out }

/-- A posted write to host memory; nothing is written for no bytes. -/
def State.hostWrite (s : State) (addr : Nat) (b : Bytes) : State := if b.isEmpty then s else s.emit (.hostWrite addr b)

/-- The bits of a list of flags, the first in bit 0. -/
def bitsOf (l : List Bool) : Nat := l.foldr (fun b n => (if b then 1 else 0) + 2 * n) 0

/-! ### Counters and alarms (00 R13; 15 R650, R651) -/

/-- The greatest counter value (00 R13). -/
def counterMax : Nat := 18446744073709551615

/-- Key of a counter or alarm of a unit. -/
def unitKey (id unit : Nat) : Nat := id * 4294967296 + unit

/-- Value of a counter of a unit. -/
def State.cnt (s : State) (id unit : Nat) : Nat := tget (fun _ => 0) s.counters (unitKey id unit)

/-- A counter increased, saturating at its maximum (00 R13). -/
def State.count (s : State) (id unit n : Nat) : State :=
  { s with counters := tset (fun _ => 0) s.counters (unitKey id unit) (min counterMax (s.cnt id unit + n)) }

/-- A counter set to zero (15 R656). -/
def State.cntClear (s : State) (id unit : Nat) : State :=
  { s with counters := tset (fun _ => 0) s.counters (unitKey id unit) 0 }

/-- State of an alarm of a unit. -/
def State.alarm (s : State) (id unit : Nat) : AlarmSt := tget (fun _ => AlarmSt.reset) s.alarms (unitKey id unit)

/-- An alarm of a unit stands. -/
def State.stands (s : State) (id unit : Nat) : Bool := (s.alarm id unit).standing

/-- Change of an alarm of a unit. -/
def State.modAlarm (s : State) (id unit : Nat) (f : AlarmSt → AlarmSt) : State :=
  { s with alarms := tset (fun _ => AlarmSt.reset) s.alarms (unitKey id unit) (f (s.alarm id unit)) }

/-- Summary group of a noun code (15 R651). -/
def nounGroup (noun : Nat) : Nat :=
  if noun ≤ 0x04 then 0 else if noun ≤ 0x12 then 1 else if noun ≤ 0x1A then 2 else if noun = 0x20 then 3
  else if noun ≤ 0x22 then 4 else if noun ≤ 0x25 then 5 else if noun ≤ 0x2A then 6 else if noun ≤ 0x32 then 7
  else if noun ≤ 0x35 then 8 else if noun ≤ 0x39 then 9 else if noun = 0x3C then 10 else 11

/-- Noun code of an alarm or counter (15 R658). -/
def nameNoun (id : Nat) : Nat := match catalogue[id]? with | some e => e.2.1 | none => 0

/-- Bit of ALARM_SUMMARY to which an alarm belongs (15 R651). -/
def alarmBit (id : Nat) : BitVec 12 := BitVec.ofNat 12 (2 ^ nounGroup (nameNoun id))

/-- ALARM_SUMMARY: bit g stands while an alarm of group g stands (15 R651). -/
def State.alarmSummary (s : State) : BitVec 12 :=
  s.alarms.foldl (fun b e => if e.2.standing then b ||| alarmBit (e.1 / 4294967296) else b) 0

/-! ### Interrupts (02 R124 to R126) -/

/-- One MSI-X message on a vector, held back while the vector is masked or within its hold-off time (02 R126). -/
def State.message (s : State) (v : Nat) : State :=
  let e := s.ints.msix.getD v MsixEntry.reset
  let bit : BitVec 64 := BitVec.ofNat 64 (2 ^ v)
  let last := tget (fun _ => 0) s.ints.lastSent v
  if e.mask then { s with ints := { s.ints with pba := s.ints.pba ||| bit } }
  else if last ≠ 0 ∧ s.nowNs + 1 < last + s.ints.holdoff.toNat * 1000 then
    { s with ints := { s.ints with heldOff := s.ints.heldOff ||| bit } }
  else
    { s with ints := { s.ints with lastSent := tset (fun _ => 0) s.ints.lastSent v (s.nowNs + 1) },
             out := .msix v e.addr.toNat e.data.toNat :: s.out }

/-- Vector of an interrupt source (02 R125). -/
def State.vectorOf (s : State) (src : Nat) : Nat := (s.ints.vectors.getD src 0).toNat

/-- An occurrence of an interrupt source: its cause bit sets, and a message is due when the bit becomes 1 while enabled
(02 R125, R126). -/
def State.interrupt (s : State) (src : Nat) : State :=
  let s' := { s with ints := { s.ints with cause := s.ints.cause ||| BitVec.ofNat 32 (2 ^ src) } }
  if !s.ints.cause.getLsbD src && s.ints.enable.getLsbD src then s'.message (s.vectorOf src) else s'

/-! ### Events (02 R92 to R96; 15 R652, R654) -/

/-- An event before it is written (02 R92). -/
structure Ev where
  code : Nat
  /-- noun type of the unit concerned -/
  noun : Nat
  index : Nat := 0
  domain : Nat := 0xFF
  status : Nat := 0
  frame : Nat := 0
  reqSeq : Nat := 0
  cookie : Nat := 0
  data : Bytes := []
  /-- written without a subscription -/
  always : Bool := false
deriving DecidableEq, Repr

/-- A subscription matches an event on its code and its noun index (02 R96). -/
def subMatches (e : Ev) (x : Sub) : Bool :=
  x.noun == e.code / 256 && (x.subcode == 0xFF || x.subcode == e.code % 256) &&
    (x.index == 0xFFFFFFFF || x.index == e.index)

/-- Active subscriptions with their handles, in handle order. -/
def State.subscriptions (s : State) : List (Nat × Sub) :=
  s.events.subs.filterMap (fun e => e.2.map (fun x => (e.1, x)))

/-- A drop of an event or a trace entry begins or extends a storm interval (15 R654). -/
def State.stormDrop (s : State) (trace : Bool) : State :=
  let n := match s.storm.startNs with
    | some _ => s.storm
    | none => { s.storm with startNs := some s.nowNs, dropped := 0, traces := 0, stormS := s.nowS, stkStorm := true }
  { s with storm := { n with lastDrop := s.nowNs
                             dropped := if trace then n.dropped else n.dropped + 1
                             traces := if trace then n.traces + 1 else n.traces } }

/-- The 64 bytes of an event entry (02 R92). -/
def eventEntry (s : State) (e : Ev) : Bytes :=
  layout 64 [(0, le 4 s.storm.written), (4, le 2 e.code), (6, le 2 e.noun), (8, le 4 e.index), (12, le 1 e.domain),
    (13, le 1 (if s.storm.startNs.isSome then 1 else 0)), (14, le 2 e.status), (16, le 8 e.frame), (24, le 6 s.nowS),
    (32, le 4 (s.nowNs % 1000000000)), (36, le 4 e.reqSeq), (40, le 8 e.cookie), (48, padTo 16 e.data)]

/-- Slots of a ring (02 R80). -/
def ringDepth (r : Nat) : Nat := if r ≤ 1 then 256 else if r = 2 then 64 else if r = 3 then 1024 else 4096

/-- Base address of a ring: bits 11:0 are ignored (02 R74). -/
def pageBase (a : BitVec 64) : Nat := (a.toNat / 4096) * 4096

/-- Address of a writeback word: bits 2:0 are ignored (02 R74). -/
def wordBase (a : BitVec 64) : Nat := (a.toNat / 8) * 8

/-- The host link is up: the fast domains run, and BOOT_SEL does not hold the link down in Recovery (17 R706, R707). -/
def State.hostLink (s : State) : Bool := s.mode.current.fast && !(s.mode.current == .recovery && s.mode.bootSel == 2)

/-- An entry can be put into the event ring: enabled, served in this mode, and not full (02 R95; log entry 15). -/
def State.eventRoom (s : State) : Bool :=
  let g := s.ring 4
  g.enable && s.hostLink && s.mode.current.rings && (g.producer - g.rplConsumer).toNat < 4096

/-- An event entry written with its writeback word and interrupt (02 R79, R83, R92, R95). -/
def State.writeEvent (s : State) (e : Ev) : State :=
  let g := s.ring 4
  let p := g.producer + 1
  let s1 := s.hostWrite (pageBase g.reqBase + 64 * (g.producer.toNat % 4096)) (eventEntry s e)
  let s2 := (s1.modRing 4 (fun x => { x with producer := p, reqConsumer := p })).hostWrite (wordBase g.wbAddr) (le 4 p.toNat)
  s2.interrupt 4

/-- An event: generated when a subscription matches it or it needs none, and then written, or dropped and counted when the
event ring cannot take it; its event_seq is consumed either way (02 R92, R95, R96; 15 R652). -/
def State.event (s : State) (e : Ev) : State :=
  if e.always || s.subscriptions.any (fun x => subMatches e x.2) then
    let s1 := if s.eventRoom then s.writeEvent e else (s.count cntEventsLost 0 1).stormDrop false
    { s1 with storm := { s1.storm with written := s1.storm.written + 1 }
              events := { s1.events with seq := s1.events.seq + 1 } }
  else s

/-- A change of ALARM_SUMMARY raises interrupt source 7 (15 R651). -/
def State.summaryChanged (old s : State) : State := if s.alarmSummary = old.alarmSummary then s else s.interrupt 7

/-- An alarm is raised: it stands, and its sticky bit and its group's sticky bit set (15 R650, R651). -/
def State.raise (s : State) (id unit : Nat) : State :=
  if s.stands id unit then s
  else
    let s1 := s.modAlarm id unit (fun a => { a with standing := true, sticky := true, raises := a.raises + 1 })
    State.summaryChanged s { s1 with storm := { s1.storm with stkGroup := s1.storm.stkGroup ||| alarmBit id } }

/-- An alarm is cleared; its sticky bit stays (15 R650). -/
def State.clearAlarm (s : State) (id unit : Nat) : State :=
  if s.stands id unit then State.summaryChanged s (s.modAlarm id unit (fun a => { a with standing := false })) else s

/-- An element put into a list ordered by a key, after those of the same key. -/
def insertBy {α : Type} (key : α → Nat) (x : α) : List α → List α
  | [] => [x]
  | y :: t => if key x < key y then x :: y :: t else y :: insertBy key x t

/-- A list ordered by a key; elements of the same key keep their order. -/
def orderBy {α : Type} (key : α → Nat) (l : List α) : List α := l.foldl (fun acc x => insertBy key x acc) []

/-- A list of state changes, one after the other. -/
def State.each {α : Type} (s : State) (l : List α) (f : State → α → State) : State := l.foldl f s

/-- A state change under a condition. -/
def State.when (s : State) (c : Bool) (f : State → State) : State := if c then f s else s

/-! ### The frame store (14 R583 to R585, R588) -/

/-- Device addresses of a reach (14 R583). -/
def reachSpan : Nat := 0xC00000000

/-- Capture slot that holds a device address: its number, 4 times the capture destination's plus the slot's, and the offset in
it (14 R584, R585). -/
def captureSlotAt (a : Nat) : Option (Nat × Nat) :=
  let off := a % reachSpan
  if a < 4 * reachSpan && 0x4C0000000 ≤ off && off < 0x580000000 then
    let w := off - 0x4C0000000
    some (4 * (4 * (w / 0x20000000) + a / reachSpan) + w % 0x20000000 / 0x8000000, w % 0x8000000)
  else none

/-- Byte of a captured frame at an offset of its slot: a sample's where the layout of R585 puts one, free elsewhere (14 R585, R588). -/
def CapSlot.byte (c : CapSlot) (off : Nat) : Byte := (slotByte c.sampling c.pic off).getD (Config.captureByte c.stamp off)

/-- What a byte of the frame store that the state does not list reads: the frame last captured into its slot, else zero
(14 R588; log entry 12). -/
def State.memDefault (s : State) (a : Nat) : Byte :=
  match captureSlotAt a with
  | some p =>
    let c := tget (fun _ => CapSlot.reset) s.capStamps p.1
    if c.frame = 0 then 0 else c.byte p.2
  | none => 0

/-- One byte of the frame store. -/
def State.dramByte (s : State) (a : Nat) : Byte := tget s.memDefault s.dram a

/-- The canonical form of the frame store: addresses strictly rising, no entry equal to what its address reads unlisted. -/
def Memory.wf (s : State) : Bool := tabWf s.memDefault s.dram

/-- Bytes of the frame store from an address. -/
def State.dramRead (s : State) (a n : Nat) : Bytes := (List.range n).map (fun i => s.dramByte (a + i))

/-- One byte written to the frame store. -/
def State.dramPut (s : State) (a : Nat) (b : Byte) : State := { s with dram := tset s.memDefault s.dram a b }

/-- Bytes written to the frame store from an address. -/
def State.dramWrite (s : State) (a : Nat) : Bytes → State
  | [] => s
  | b :: t => (s.dramPut a b).dramWrite (a + 1) t

end Sys2Proof.Machine
end

