-- ==== Sys2Proof/Machine/Audio.lean ====
section
/-! DEFINITION. The arithmetic of audio: sample instants, gain, ramps and zero crossings, the words of serial slots and AES3 subframes
(05 R218, R222, R227, R228, R236, R244 to R246). -/
namespace Sys2Proof.Machine

/-! ### Sample instants (05 R218) -/

/-- Number of the first sample instant, a whole multiple of 1/48,000 s since the PTP epoch, at or after a device time (05 R218). -/
def sampleFrom (ns : Nat) : Nat := cdiv (ns * 48000) 1000000000

/-- Device time of a sample instant in ns, rounded up (05 R218). -/
def sampleNs (n : Nat) : Nat := cdiv (n * 1000000000) 48000

/-- Device time of the instant of the odd number of a 96 kHz channel: the midpoint after the lead's instant `n` (05 R215, R218). -/
def oddSampleNs (n : Nat) : Nat := cdiv ((2 * n + 1) * 1000000000) 96000

/-- Samples of a 96 kHz channel over its two numbers: the earlier of each pair on the lead (05 R215). -/
def splitPairs : List Int → List Int × List Int
  | a :: b :: t => let r := splitPairs t; (a :: r.1, b :: r.2)
  | [a] => ([a], [])
  | [] => ([], [])

/-! ### Gain (05 R235, R236) -/

/-- The greatest number below 2 ^ `n` above `y` that a condition, true up to some number, allows. -/
def climb (ok : Nat → Bool) : Nat → Nat → Nat
  | 0, y => y
  | n + 1, y => climb ok n (if ok (y + 2 ^ n) then y + 2 ^ n else y)

/-- The greatest number not above `x` times 10 ^ (`g` / 200), the factor of `g` tenths of a decibel. -/
def scaleFloor (g : Int) (x : Nat) : Nat :=
  climb (fun y => y ^ 200 * 10 ^ (-g).toNat ≤ x ^ 200 * 10 ^ g.toNat) 36 0

/-- A 24-bit sample under a gain, as a 32-bit word (05 R236). DESIGN CHOICE (log entry 153): the 32-bit word holds the sample in its upper
24 bits, and is the exact product rounded to the nearest. -/
def gainWord (g x : Int) : Int :=
  let m : Int := ((scaleFloor g (2 * (256 * x.natAbs)) + 1) / 2 : Nat)
  if x < 0 then -m else m

/-- A 32-bit word rounded to an output's word length and clipped to full scale (05 R236). -/
def toLength (bits : Nat) (v : Int) : Int :=
  let r := (v + 2 ^ (31 - bits)) / 2 ^ (32 - bits)
  max (-(2 ^ (bits - 1))) (min (2 ^ (bits - 1) - 1) r)

/-- A sample of an output: its input's under gain and INVERT, in the output's word length (05 R235, R236). -/
def outSample (bits : Nat) (gain : Int) (invert : Bool) (x : Int) : Int := toLength bits (gainWord gain (if invert then -x else x))

/-! ### Ramps and zero crossings (05 R244 to R246) -/

/-- Samples of every ramp (05 R223, R244, R245). -/
def rampLength : Nat := 64

/-- Sample `i` of a linear ramp from `a` to `b`: the last one has the weight of `b` alone (05 R244, R245; log entry 154). -/
def rampAt (i : Nat) (a b : Int) : Int := (a * (63 - i : Int) + b * (i + 1 : Int)) / 64

/-- A ramp down from a signal to silence. -/
def rampDown (l : List Int) : List Int := (l.take rampLength).zipIdx.map (fun e => rampAt e.2 e.1 0)

/-- A ramp up from silence to a signal. -/
def rampUp (l : List Int) : List Int := (l.take rampLength).zipIdx.map (fun e => rampAt e.2 0 e.1)

/-- A sample at which a signal may be stopped or started: zero, or of another sign than the one before it (05 R244). -/
def crosses (before x : Int) : Bool := x == 0 || (decide (before < 0) != decide (x < 0))

/-- Index of the first such sample of a signal, whose sample before the first is `before` (05 R244). -/
def crossingAt : Int → List Int → Option Nat
  | _, [] => none
  | b, x :: t => if crosses b x then some 0 else (crossingAt x t).map (· + 1)

/-- Samples of a search: 5 ms (05 R244). -/
def searchSamples : Nat := 240

/-! ### Words at the interfaces (05 R222, R226 to R228) -/

/-- `n` bits of a signed number, most significant first. -/
def msbBits (n : Nat) (v : Int) : List Bool :=
  let u := (v % (2 : Int) ^ n).toNat
  ((List.range n).map (fun i => u.testBit (n - 1 - i)))

/-- A slot of a serial port: the data MSB first and left-justified, zeros beyond data_bits, high impedance where the slot is masked
(05 R222, R226). -/
def slotBits (slotLen dataLen : Nat) (masked : Bool) (v : Int) : List (Option Bool) :=
  if masked then List.replicate slotLen none
  else ((msbBits dataLen v ++ List.replicate (slotLen - dataLen) false).take slotLen).map some

/-- Level of FS at bit clock `i` of a frame, before FS_INVERT: low for slot 0 and high for slot 1 of I2S, high at the first bit clock of
TDM; in I2S and with DELAY1 slot 0 begins one bit clock later (05 R222; log entry 155). -/
def fsLevel (c : AudioPortCfg) (i : Nat) : Bool :=
  (if c.format = 0 then decide (i ≥ c.slotBits) else i == 0) != c.flags.getLsbD 0

/-- One frame of a serial port from the edge of FS: FS, which a provider drives, and DO at each bit clock (05 R222). -/
def sapFrame (c : AudioPortCfg) (slots : List (List (Option Bool))) : List (Option Bool × Option Bool) :=
  let bits := slots.flatten
  let data := if c.format = 0 || c.flags.getLsbD 2 then bits.drop (bits.length - 1) ++ bits.take (bits.length - 1) else bits
  data.zipIdx.map (fun e => (if c.role = 1 then some (fsLevel c e.2) else none, e.1))

/-- The CRCC of AES3: x^8 + x^4 + x^3 + x^2 + 1 over the bits in their order of transmission, all ones at the start (05 R228; PRESUMED,
AES3, log entry 156). -/
def crccBit (c : BitVec 8) (b : Bool) : BitVec 8 := if c.getLsbD 0 != b then (c >>> 1) ^^^ 0xB8#8 else c >>> 1

/-- The CRCC of bytes 0 to 22 of channel status (05 R228). -/
def crcc (b : Bytes) : Byte := b.foldl (fun c x => (List.range 8).foldl (fun c i => crccBit c (x.getLsbD i)) c) 0xFF#8

/-- Channel status of an AES3 output: professional format, the non-audio bit, the sampling frequency of its format, a word length of 24
bits and the CRCC; every other bit zero (05 R228; the places of the fields PRESUMED, AES3, log entry 156). -/
def channelStatus (single nonaudio : Bool) : Bytes :=
  let b0 : Nat := bitsOf [true, nonaudio, false, false, false, false, false, !single]
  let b2 : Nat := bitsOf [false, false, true, true, false, true]
  let b4 : Nat := if single then bitsOf [false, false, false, false, true] else 0
  let body : Bytes := ([b0, 0, b2, 0, b4].map (BitVec.ofNat 8)) ++ List.replicate 18 0
  body ++ [crcc body]

/-- Channel status bit of frame `n` of a 192-frame block (05 R228). -/
def statusBit (cs : Bytes) (n : Nat) : Bool := (cs.getD (n % 192 / 8) 0).getLsbD (n % 8)

/-- Time slots 4 to 31 of an AES3 subframe: 24 audio bits LSB first, validity, user, channel status and even parity (05 R227, R228;
01 R46). -/
def subframe (v : Int) (valid status : Bool) : List Bool :=
  let b := (msbBits 24 v).reverse ++ [valid, false, status]
  b ++ [b.foldl (· != ·) false]

end Sys2Proof.Machine
end

