-- ==== Sys2Proof/Machine/Flags.lean ====
section
/-! DEFINITION. Every check and status of a request, in the order of 02 R100, and the reply that carries the outcome
(02 R80 to R91, R97 to R100, R120; 16 R675, R676; 17 R710). -/
namespace Sys2Proof.Machine

/-! ### Status codes (02 R99) -/

def stOk : Nat := 0x0000
def stScheduled : Nat := 0x0001
def stDeferred : Nat := 0x0002
def stInvalid : Nat := 0x0100
def stRange : Nat := 0x0101
def stAbsent : Nat := 0x0102
def stBusy : Nat := 0x0103
def stRefused : Nat := 0x0104
def stLocked : Nat := 0x0105
def stState : Nat := 0x0106
def stCapacity : Nat := 0x0107
def stTimeout : Nat := 0x0108
def stHorizon : Nat := 0x0109
def stIntegrity : Nat := 0x010A
def stUnknown : Nat := 0x010B
def stInternal : Nat := 0x0200

/-! ### Answers -/

/-- What a reply says (02 R89). -/
structure Answer where
  status : Nat := 0
  /-- detail bits 15:0 -/
  reason : Nat := 0
  /-- detail bits 30:16 -/
  item : Nat := 0
  /-- detail bit 31 -/
  accepted : Bool := false
  applied : Nat := 0
  split : Bool := false
  follows : Bool := false
  /-- the length a buffer would need, in place of the other parts of detail (02 R87) -/
  required : Option Nat := none
  payload : Bytes := []
deriving DecidableEq, Repr

/-- A failure: nothing is applied (02 R91). -/
def fail (status reason : Nat) (item : Nat := 0) : Answer := { status := status, reason := reason, item := item }

/-- `OK` with a payload. -/
def okWith (payload : Bytes) : Answer := { payload := payload }

/-- Place of a failure in the order of R100 (02 R100). -/
def failStep (a : Answer) : Nat :=
  if a.status = stState && (a.reason = 0x0006 || a.reason = 0x0014) then 4
  else if a.status = stRange && a.reason = 0x0007 then 5
  else if a.status = stAbsent then 6
  else if a.status = stState && a.reason = 0x0001 then 7
  else if a.status = stLocked then 8
  else if a.status = stRange || a.status = stInvalid || a.status = stState then 9
  else if a.status = stHorizon then 11
  else 10

/-- Of a failure that the units and values of a request give and one of its malformed fields, the one of the earlier step, and of
the same step the one of the lower item (02 R100). -/
def earlier (o a : Answer) : Answer :=
  if o.status ≥ 0x100 && !o.accepted && failStep o * 65536 + o.item < failStep a * 65536 + a.item then o else a

/-- A unit that a request names, as steps 5 to 7 of R100 see it. -/
structure Named where
  item : Nat := 0
  present : Bool := true
  fenced : Bool := false
  /-- owner tag that holds the unit's lock, 0 for none -/
  lock : Nat := 0
deriving DecidableEq, Repr

/-- A request on its way to its meaning. -/
structure Call where
  r : Request
  /-- the parameter block: the inline payload, or the indirect input buffer (02 R86) -/
  block : Bytes
  /-- owner tag it is treated as bearing (02 R114, R122; 16 R676) -/
  owner : Nat
  /-- arrival time in ns (02 R108) -/
  arrival : Nat
  /-- ring on which it was posted, 4 for the service port and the in-band flow -/
  ring : Nat
deriving DecidableEq, Repr

/-- A verb on a noun: what it takes and what it does. -/
structure ReqSpec where
  verb : Nat
  noun : Nat
  /-- selector that the first byte of the block must be -/
  sel : Option Nat := none
  /-- lengths of the block that are allowed -/
  len : Nat → Bool := fun n => n == 0
  /-- length that the block's own fields call for -/
  size : Bytes → Bool := fun _ => true
  /-- reserved bytes of the block and combinations of its fields, answered INVALID -/
  form : Bytes → Bool := fun _ => true
  /-- bits that a field of the block must hold at zero, answered RANGE with the reason code of the block's values -/
  bits : Bytes → Bool := fun _ => true
  bitsReason : Nat := 0
  /-- number of the item whose reserved bytes are not zero -/
  badItem : Bytes → Nat := fun _ => 0
  /-- its body judges the units named, steps 4 to 7 of R100, so those failures come before the block's fields -/
  judged : Bool := false
  /-- a payload larger than the inline limit: the request must be INDIRECT on a ring -/
  indirect : Bool := false
  /-- the request must be INDIRECT on every carrier -/
  alwaysIndirect : Bool := false
  /-- range of the noun index (02 R728) -/
  index : Nat → Bool := fun k => k == 0
  /-- a unit the mode keeps asleep: reason code (01 R45) -/
  asleep : State → Call → Option Nat := fun _ _ => none
  named : State → Call → List Named := fun _ _ => []
  /-- its reply begins with a landing list (02 R90) -/
  staged : Bool := false
  body : Call → State → Answer × State

/-- A kind of unit that a mode may keep asleep (01 R44). -/
inductive Sleeper where
  | clauseCore | decodeCore | compositor
deriving DecidableEq, Repr

/-- A mode keeps the units of a kind asleep (01 R44, R45); in Standby settings are accepted for every unit. -/
def State.sleeps (s : State) (c : Sleeper) : Bool :=
  match s.runMode, c with
  | .gateway, _ => true
  | .router, .compositor => false
  | .router, _ => true
  | .encode, .compositor => true
  | _, _ => false

/-! ### Where and when a verb is served (02 R80, R120; 16 R675) -/

/-- Verb accepted on a request ring (02 R80). -/
def ringTakes (ring verb noun : Nat) : Bool :=
  match ring with
  | 0 => [0x06, 0x07, 0x03, 0x04, 0x05, 0x08, 0x09].contains verb
  | 1 => verb != 0x0D && verb != 0x10
  | 2 => [0x0C, 0x0D, 0x0E, 0x13, 0x14, 0x01].contains verb
  | 3 => verb == 0x10 || ((verb == 0x05 || verb == 0x01) && noun == 0x34)
  | _ => false

/-- Verb on noun served over the in-band flow (16 R675, R676). -/
def inbandTakes (verb noun : Nat) : Bool :=
  (noun == 0x44 && [0x0C, 0x0D, 0x0E, 0x01].contains verb) || (noun == 0x01 && verb == 0x01)

/-- Verb on noun served over the service port in a mode (02 R120). -/
def svcTakes (m : Mode) (verb noun : Nat) : Bool :=
  let low := ((verb == 0x01 || verb == 0x13) && [0x01, 0x03, 0x46, 0x40, 0x41].contains noun) ||
    (verb == 0x11 && noun == 0x46) || (verb == 0x02 && noun == 0x03)
  match m with
  | .dormant => low
  | .fallow => low || (noun == 0x44 && [0x0C, 0x0D, 0x0E, 0x0F, 0x01].contains verb)
  | _ => low || (noun == 0x44 && [0x01, 0x13, 0x02, 0x08, 0x09, 0x0C, 0x0D, 0x0E, 0x0F].contains verb) ||
      (verb == 0x12 && noun == 0x01)

/-- Verb on noun served over a ring in a mode (02 R120). -/
def ringServes (m run : Mode) (verb noun : Nat) : Bool :=
  let asks := [0x01, 0x13, 0x0A, 0x0B, 0x11].contains verb
  match m with
  | .fallow | .dormant | .boot => false
  | .recovery => asks || (noun == 0x44 && [0x02, 0x08, 0x09, 0x0C, 0x0D, 0x0E, 0x0F].contains verb) || (verb == 0x12 && noun == 0x01)
  | .training => asks || (verb == 0x12 && noun == 0x01)
  | .standby => verb != 0x10
  | .test => !([0x0C, 0x0D, 0x0E, 0x0F].contains verb)
  | _ => verb != 0x10 || run == .encode || run == .full

/-- Step 4 of R100 without the units kept asleep. -/
def State.serves (s : State) (c : Carrier) (verb noun : Nat) : Bool :=
  match c with
  | .ring _ => ringServes s.mode.current s.runMode verb noun
  | .service => svcTakes s.mode.current verb noun
  | .inband _ => true

/-- Owner tag that a request is treated as bearing (02 R114; 16 R676). -/
def carrierOwner (r : Request) : Nat :=
  match r.carrier with
  | .ring _ => r.owner
  | .service => 0xFE
  | .inband _ => 0

/-- Largest inline payload of a carrier (02 R88, R122). -/
def inlineMax : Carrier → Nat
  | .ring _ => 480
  | _ => 4096

/-- Request flag INDIRECT (02 R88). -/
def reqIndirect (r : Request) : Bool := r.flags.getLsbD 0
/-- Request flag LAND_EVENT (02 R88). -/
def reqLandEvent (r : Request) : Bool := r.flags.getLsbD 1
/-- Request flag VALIDATE_ONLY (02 R88). -/
def reqValidate (r : Request) : Bool := r.flags.getLsbD 2

/-- The verb is accepted by the carrier (02 R80; 16 R676). -/
def carrierTakes (r : Request) (verb noun : Nat) : Bool :=
  match r.carrier with
  | .ring n => ringTakes n verb noun && r.owner != 0xFE
  | .service => true
  | .inband _ => inbandTakes verb noun

/-- Step 2 of R100, on the header and the indirect block; STAGE bears an owner tag (02 R102). -/
def headerOk (q : ReqSpec) (r : Request) : Bool :=
  flagsIn r.flags 0x07 && carrierTakes r q.verb q.noun && (r.domain ≤ 8 || r.domain == 0xFF) &&
  (r.target == 0 || (q.staged && r.domain != 0xFF)) &&
  (q.verb != 0x03 || carrierOwner r != 0) &&
  (if reqIndirect r then
    (match r.carrier with | .ring _ => true | _ => false) && r.payload.length == 32 &&
    u32 r.payload 8 ≤ 1048576 && u32 r.payload 24 ≤ 1048576 && zeroFrom r.payload 12 4 && zeroFrom r.payload 28 4 &&
    u64 r.payload 0 % 8 == 0 && u64 r.payload 16 % 8 == 0
   else r.payload.length ≤ inlineMax r.carrier && !q.alwaysIndirect && !(q.indirect && (match r.carrier with | .ring _ => true | _ => false)))

/-- The parameter block of a request, none when its indirect input cannot be read (02 R86, R100 step 3). -/
def blockOf (r : Request) : Option Bytes :=
  if reqIndirect r then
    (if u32 r.payload 8 = 0 then some [] else
      match r.input with
      | some b => if b.length = u32 r.payload 8 then some b else none
      | none => none)
  else some r.payload

/-- Step 2 of R100, on the block. -/
def blockOk (q : ReqSpec) (b : Bytes) : Bool :=
  q.len b.length && (match q.sel with | some v => u8 b 0 == v | none => true) && q.size b

/-- Step 8 of R100, on the reserved bytes and bits of the block: a malformed block is INVALID (02 R99), a field out of its range is
RANGE where the block's rule says so (log entry 32). -/
def fieldsFail (q : ReqSpec) (b : Bytes) : Option Answer :=
  if !q.bits b then some (fail stRange q.bitsReason) else if !q.form b then some (fail stInvalid 0 (q.badItem b)) else none

/-- Steps 5 to 7 of R100 on the units named: presence, fencing, locks; a lock never refuses QUERY or READ (02 R115). -/
def namedFail (ns : List Named) (owner : Nat) (asks : Bool) : Option Answer :=
  match ns.find? (fun n => !n.present) with
  | some n => some (fail stAbsent 0 n.item)
  | none =>
    match ns.find? (fun n => n.fenced) with
    | some n => some (fail stState 0x0001 n.item)
    | none =>
      match ns.find? (fun n => n.lock != 0 && n.lock != owner && owner != 0xFF && !asks) with
      | some n => some (fail stLocked n.lock n.item)
      | none => none

/-- Verbs that have a code (02 R97). -/
def verbKnown (n : Nat) : Bool := within n 0x01 0x14

/-- Nouns that have a code (02 R98). -/
def nounKnown (n : Nat) : Bool :=
  within n 0x01 0x04 || within n 0x10 0x12 || within n 0x18 0x1A || within n 0x20 0x25 || within n 0x28 0x2A || within n 0x30 0x32 ||
  n == 0x34 || n == 0x35 || n == 0x38 || n == 0x39 || n == 0x3C || within n 0x40 0x41 || within n 0x44 0x46

/-- A request of no row of the table: an unlisted verb or noun fails step 1 of R100, a verb that its noun does not take step 2, and a
firmware fault is answered INTERNAL (02 R97 to R100). -/
def oddFail (r : Request) : Option Answer :=
  match r.odd with
  | none => none
  | some (.code v n) => some (fail (if verbKnown v && nounKnown n then stInvalid else stUnknown) 0)
  | some .fault => some (fail stInternal 0)

/-- The first failure of steps 1 to 7 of R100 and of the form of the block in step 8, if any. -/
def admitted (q : ReqSpec) (c : Call) (s : State) : Option Answer :=
  if (oddFail c.r).isSome then oddFail c.r
  else if !headerOk q c.r then some (fail stInvalid 0)
  else if (blockOf c.r).isNone then some (fail stIntegrity 0)
  else if !blockOk q c.block then some (fail stInvalid 0)
  else if !s.serves c.r.carrier q.verb q.noun then
    some (fail stState (if q.verb = 0x12 && !s.mode.current.fast then 0x0004 else 0))
  else match q.asleep s c with
    | some reason => some (fail stState reason)
    | none =>
      if !q.index c.r.index then some (fail stRange 0x0007)
      else match namedFail (q.named s c) c.owner (q.verb == 0x01 || q.verb == 0x13) with
        | some a => some a
        | none => if q.judged then (fieldsFail q c.block).map (earlier (q.body c s).1) else fieldsFail q c.block

/-! ### Replies (02 R81, R83, R87, R89; 17 R710) -/

/-- Detail field of a reply (02 R87, R89). -/
def detailOf (a : Answer) (written : Option Nat) : Nat :=
  match a.required with
  | some n => n
  | none =>
    match written with
    | some n => n
    | none => a.reason + 65536 * a.item + (if a.accepted then 2147483648 else 0)

/-- The 32 bytes of a reply header (02 R89). -/
def replyHeader (verb : Nat) (r : Request) (a : Answer) (written : Option Nat) : Bytes :=
  layout 32 [(0, le 4 r.seq), (4, le 1 verb),
    (5, le 1 ((if written.isSome then 1 else 0) + (if a.split then 2 else 0) + (if a.follows then 4 else 0))),
    (6, le 2 a.status), (8, le 8 a.applied), (16, le 4 (detailOf a written)),
    (20, le 2 (if written.isSome then 0 else a.payload.length)), (24, le 8 r.cookie)]

/-- An INDIRECT request on a ring holds a block that names an out buffer (02 R86). -/
def hasOut (r : Request) : Bool :=
  reqIndirect r && (match r.carrier with | .ring _ => true | _ => false) && r.payload.length == 32 && u32 r.payload 24 != 0

/-- The reply payload goes to the out buffer of an INDIRECT request that has one (02 R86, R87). -/
def outBuffer (r : Request) (a : Answer) : Option Nat :=
  if hasOut r && !a.payload.isEmpty then some a.payload.length else none

/-- The reply written on a ring in the order of R83, to the slot of the request (02 R81). -/
def State.replyRing (s : State) (n verb : Nat) (r : Request) (a : Answer) : State :=
  let g := s.ring n
  let slot := pageBase g.rplBase + 512 * (g.rplProducer.toNat % ringDepth n)
  let w := outBuffer r a
  let s1 := match w with
    | some _ => s.hostWrite (u64 r.payload 16) a.payload
    | none => s.hostWrite (slot + 32) a.payload
  let s2 := (s1.hostWrite slot (replyHeader verb r a w)).modRing n (fun x => { x with rplProducer := x.rplProducer + 1 })
  let g2 := s2.ring n
  (s2.hostWrite (wordBase g2.wbAddr) (le 2 g2.reqConsumer.toNat ++ le 2 g2.rplProducer.toNat)).interrupt n

/-- A reply frame of the service port and the in-band flow: header, payload, CRC-32C over both (02 R122; 16 R676). -/
def replyFrame (verb : Nat) (r : Request) (a : Answer) : Bytes :=
  let b := replyHeader verb r a none ++ a.payload
  b ++ le 4 (crc32c b)

/-- The reply to a request, by its carrier. -/
def State.reply (s : State) (verb : Nat) (r : Request) (a : Answer) : State :=
  match r.carrier with
  | .ring n => s.replyRing n verb r a
  | .service => { s with svc := { s.svc with reply := some (replyFrame verb r a) } }
  | .inband t => s.emit (.inband t (replyFrame verb r a))

/-- Bytes that a reply payload may hold (02 R87, R88, R122). -/
def replyRoom (r : Request) : Nat :=
  if hasOut r then u32 r.payload 24 else inlineMax r.carrier

/-- A reply that the buffer cannot hold is answered RANGE with the length required, and nothing is written to it (02 R87). -/
def sized (r : Request) (a : Answer) : Answer :=
  if a.payload.length > replyRoom r then { status := stRange, required := some a.payload.length } else a

/-- Landing list of a failed staged request: one entry, in the header's domain (02 R90; log entry 16). -/
def failedList (r : Request) (status : Nat) : Bytes :=
  layout 24 [(0, le 1 1), (8, le 1 (if r.domain ≤ 8 then r.domain else 0)), (10, le 2 status)]

/-- A verb whose reply carries a landing list; where the noun is not known, LOCK and UNLOCK are taken as those of a staged noun
(02 R90, R97). -/
def verbStaged (verb : Nat) : Bool := [0x04, 0x06, 0x07, 0x08, 0x09].contains verb

/-- The verb of a request, as its reply echoes it (02 R89). -/
def verbOf (q : ReqSpec) (r : Request) : Nat := match r.odd with | some (.code v _) => v | _ => q.verb

/-- The reply to a request carries a landing list (02 R90, R97). -/
def listsLandings (q : ReqSpec) (r : Request) : Bool :=
  match r.odd with | some (.code v n) => verbStaged v && n != 0x44 | _ => q.staged

/-- The answer with the landing list that R90 asks of every reply to a staged verb. -/
def listed (q : ReqSpec) (r : Request) (a : Answer) : Answer :=
  if listsLandings q r && a.payload.isEmpty then { a with payload := failedList r a.status } else a

/-- A ring error is recorded and reported (02 R76, R78, R93): bit 0 overrun, 1 fetch error, 2 write error. -/
def State.ringError (s : State) (n bit : Nat) : State :=
  let s1 := s.modRing n (fun g => { g with err := g.err ||| BitVec.ofNat 3 (2 ^ bit) })
  (s1.interrupt 5).event { code := 0x0102, noun := 0x01, always := true, data := le 1 n ++ le 1 (s1.ring n).err.toNat }

/-- A firmware fault is logged as an event of noun Device, whose subcode the spec does not state: a free value (02 R99). -/
def State.logFault (s : State) : State :=
  s.event { code := 0x0100 + Config.faultSubcode s.storm.written % 256, noun := 0x01, always := true, status := stInternal }

/-- The failure of reading an indirect buffer sets stk_fetch_error of the ring, and a firmware fault is logged (02 R76, R78, R99). -/
def State.noteFetch (s : State) (r : Request) (a : Answer) : State :=
  if r.odd = some .fault then s.logFault
  else match r.carrier with
  | .ring n => if a.status = stIntegrity && reqIndirect r && (blockOf r).isNone then s.ringError n 1 else s
  | _ => s

/-- The outcome of a request that has been taken: its first failure, or its effect, and its reply (02 R87, R100). -/
def respond (q : ReqSpec) (c : Call) (s : State) : State :=
  match admitted q c s with
  | some a => (s.noteFetch c.r a).reply (verbOf q c.r) c.r (sized c.r (listed q c.r a))
  | none =>
    let o := q.body c s
    let a := listed q c.r o.1
    if a.payload.length > replyRoom c.r then
      s.reply q.verb c.r { status := stRange, required := some a.payload.length }
    else if reqValidate c.r then s.reply q.verb c.r a
    else o.2.reply q.verb c.r a

/-- A ring holds a request that has not been taken (02 R75). -/
def State.holdsRequest (s : State) (n : Nat) : Bool := (s.ring n).enable && (s.ring n).producer != (s.ring n).reqConsumer

/-- A request can be taken from a ring: enabled, served in this mode, a request outstanding, and on rings 1 to 3 none left on ring 0,
which is served first (02 R80, R120). -/
def State.takes (s : State) (n : Nat) : Bool :=
  n < 4 && s.holdsRequest n && s.hostLink && s.mode.current.rings && (n == 0 || !s.holdsRequest 0)

/-- Arrival time of the next request of a ring: ring 0 takes that of the doorbell write that covers it (02 R108). -/
def State.arrival (s : State) (n : Nat) : Nat :=
  if n = 0 then
    match (s.ring 0).bells.find? (fun b => (BitVec.ofNat 16 b.1 - (s.ring 0).reqConsumer).toNat ≠ 0) with
    | some b => b.2
    | none => s.nowNs
  else s.nowNs

/-- The next request of a ring is taken: its consumer index moves on, and a doorbell all of whose requests are taken is
forgotten (02 R81). -/
def State.takeSlot (s : State) (n : Nat) : State :=
  s.modRing n (fun g =>
    let c := g.reqConsumer + 1
    { g with reqConsumer := c, bells := g.bells.filter (fun b => (BitVec.ofNat 16 b.1 != c)) })

/-- The call of a request. -/
def callOf (r : Request) (arrival ring : Nat) : Call :=
  { r := r, block := (blockOf r).getD [], owner := carrierOwner r, arrival := arrival, ring := ring }

/-- A request served: taken from its ring, or received over the service port or the in-band flow, checked, applied and
answered. A ring that has no request to take leaves the block as it is (log entry 17). -/
def serve (q : ReqSpec) (r : Request) (s : State) : State :=
  match r.carrier with
  | .ring n => if s.takes n then respond q (callOf r (s.arrival n) n) (s.takeSlot n) else s
  | _ => respond q (callOf r s.nowNs 4) s

end Sys2Proof.Machine
end

