-- ==== Sys2Proof/Machine/Wire.lean ====
section
/-! DEFINITION. What the interfaces carry, as bits and bytes: payload IDs and ancillary packets of Rill lanes, RTP packets and the payloads
of media flows, and the headers before them (01 R46; 04 R202; 07 R318, R319, R322). The layouts are those of the standards that the rules
name (PRESUMED, log entry 157). -/
namespace Sys2Proof.Machine

/-! ### Bits -/

/-- `n` bits of a number, most significant first. -/
def natBits (n v : Nat) : List Bool := (List.range n).map (fun i => v.testBit (n - 1 - i))

/-- The number that bits spell, most significant first. -/
def bitsNat (l : List Bool) : Nat := l.foldl (fun a b => 2 * a + (if b then 1 else 0)) 0

/-- Bytes cut into bits. -/
def unpackBits (b : Bytes) : List Bool := b.flatMap (fun x => natBits 8 x.toNat)

/-- Groups of `n` elements, the last one filled up. -/
def groupsOf {α : Type} (n : Nat) (d : α) (l : List α) : List (List α) :=
  (List.range (cdiv l.length n)).map (fun i => let g := (l.drop (n * i)).take n; g ++ List.replicate (n - g.length) d)

/-- Bits packed into bytes, the last one filled with zeros. -/
def packBits (l : List Bool) : Bytes := (groupsOf 8 false l).map (fun g => BitVec.ofNat 8 (bitsNat g))

/-- Numbers of `n` bits, one after the other. -/
def numbersOf (n : Nat) (l : List Bool) : List Nat := (List.range (l.length / n)).map (fun i => bitsNat ((l.drop (n * i)).take n))

/-! ### Ancillary packets (01 R46; 07 R322) -/

/-- A word of an ancillary packet's header: even parity in bit 8, its complement in bit 9 (SMPTE ST 291-1). -/
def ancWord (v : Nat) : Nat :=
  let p := (natBits 8 v).foldl (fun a b => a != b) false
  v % 256 + (if p then 256 else 512)

/-- Checksum of an ancillary packet over the low nine bits of DID, SDID, data count and user data words (SMPTE ST 291-1). -/
def ancChecksum (l : List Nat) : Nat :=
  let n := (l.map (· % 512)).foldl (· + ·) 0 % 512
  n + (if n / 256 = 0 then 512 else 0)

/-- The words of an ancillary packet after its flag: identifiers, count, data and checksum. -/
def ancWords (a : AncPacket) : List Nat :=
  let l := [ancWord a.did, ancWord a.sdid, ancWord a.udw.length] ++ a.udw
  l ++ [ancChecksum l]

/-- Embedded audio of ST 299-1 and ST 299-2, and the payload ID of ST 352: packets that a Rill source does not keep (07 R322). -/
def keptAnc (a : AncPacket) : Bool :=
  !(within a.did 0xE0 0xE7 || within a.did 0xA0 0xA7 || (a.did == 0x41 && a.sdid == 0x01))

/-- Packets and user data words that a frame carries at most (07 R322). -/
def ancFits (a : AncPacket) : Bool := a.udw.length ≤ 255

/-- The packets that a frame carries, and the number discarded (07 R322). -/
def limitAnc (l : List AncPacket) : List AncPacket × Nat :=
  let ok := (l.filter ancFits).take 64
  (ok, l.length - ok.length)

/-- Hexadecimal digit in ASCII. -/
def hexDigit (n : Nat) : Nat := if n % 16 < 10 then 48 + n % 16 else 55 + n % 16

/-- The test mark of a Rill output: type 2 packet DID 0x51, SDID 0x54, "TEST" and the serial number's low 32 bits in hexadecimal, on the
second line after the switching line of the first field (01 R46). -/
def testPacket (switching serial : Nat) : AncPacket :=
  let digits := (List.range 8).map (fun i => hexDigit (serial / 16 ^ (7 - i)))
  { did := 0x51, sdid := 0x54, line := switching + 2, udw := ([0x54, 0x45, 0x53, 0x54] ++ digits).map ancWord }

/-! ### Payload IDs (04 R202) -/

/-- Picture rate code of SMPTE ST 352 for a rate code. -/
def vpidRate (rate : Nat) : Nat :=
  match rate with
  | 0x1 => 2 | 0x2 => 3 | 0x3 => 5 | 0x4 => 6 | 0x5 => 7 | 0x6 => 4 | 0x7 => 8 | 0x8 => 9 | 0x9 => 10 | 0xA => 11 | 0xB => 13
  | 0xC => 14 | 0xD => 15 | _ => 0

/-- Interface code of SMPTE ST 352 byte 1 for the Rill rate code of a lane, its raster and its gang. -/
def vpidStandard (lane : Nat) (f : Fmt) : Nat :=
  if f.gang = 4 then 0xD2
  else if lane ≤ 1 then 0x81
  else if lane ≤ 3 then (if f.raster = 0x10 then 0x84 else 0x85)
  else if lane ≤ 5 then 0x89 else if lane ≤ 7 then 0xC0 else 0xCE

/-- The ST 352 payload ID of a Rill output, byte 1 in bits 7:0: its interface, rate and scan, sampling structure and colorimetry, transfer,
bit depth and link (04 R202). -/
def vpidOf (lane : Nat) (f : Fmt) (rate link : Nat) : BitVec 32 :=
  let progressive : Bool := match rasterOf f.raster with | some r => !r.interlaced | none => false
  let transfer := if f.colour / 16 = 2 then 1 else if f.colour / 16 = 3 then 2 else 0
  let b2 := vpidRate rate + 16 * transfer + (if progressive then 0xC0 else 0)
  let b3 := (if is422 f.sampling then 0 else if isRgb f.sampling then 2 else 1) + (if f.colour % 16 = 2 then 0x20 else 0)
  let b4 := (if is12bit f.sampling then 2 else 1) + 0x20 * (if f.gang = 4 then link - 1 else 0)
  BitVec.ofNat 32 (vpidStandard lane f + 0x100 * b2 + 0x10000 * b3 + 0x1000000 * b4)

/-! ### RTP (01 R46; 07 R318) -/

/-- Header of an RTP packet; in Test mode with the RFC 8285 one-byte extension element 14 of one byte 0x54 (01 R46; 07 R318). -/
def rtpHeader (test marker : Bool) (pt seq stamp ssrc : Nat) : Bytes :=
  [if test then 0x90 else 0x80, BitVec.ofNat 8 (pt + (if marker then 128 else 0))] ++ be 2 seq ++ be 4 stamp ++ be 4 ssrc ++
    (if test then [0xBE, 0xDE, 0x00, 0x01, 0xE0, 0x54, 0x00, 0x00] else [])

/-- RTP timestamp of video and ancillary data: 90 kHz at the alignment point of a frame, of the second field half a period later
(07 R318). -/
def videoStamp (rate frame : Nat) (second : Bool) : Nat :=
  90000 * (2 * frame + (if second then 1 else 0)) * rateDen rate / (2 * rateNum rate) % 4294967296

/-- RTP timestamp of audio: the number of the packet's first sample instant at the flow's rate (07 R318). -/
def audioStamp (instant mult : Nat) : Nat := instant * mult % 4294967296

/-- A 32-bit RTP timestamp unwrapped to the instant nearest to `near` (07 R319). -/
def unwrapStamp (stamp near : Nat) : Nat :=
  let base := near / 4294967296 * 4294967296 + stamp
  if base ≥ near + 2147483648 && base ≥ 4294967296 then base - 4294967296
  else if base + 2147483648 ≤ near then base + 4294967296 else base

/-! ### Payloads (07 R313, R318, R319, R322) -/

/-- Bits of a sample. -/
def sampleBits (sampling : Nat) : Nat := if is12bit sampling then 12 else 10

/-- The octets of samples packed into pixel groups of ST 2110-20 (07 R313; log entry 19). -/
def packSamples (sampling : Nat) (l : List Nat) : Bytes := packBits (l.flatMap (natBits (sampleBits sampling)))

/-- The samples that octets of pixel groups hold. -/
def unpackSamples (sampling : Nat) (b : Bytes) : List Nat := numbersOf (sampleBits sampling) (unpackBits b)

/-- Samples of `n` pixels. -/
def pixelSamples (sampling n : Nat) : Nat := if is422 sampling then 2 * n else 3 * n

/-- Payload header of ST 2110-20 with one segment: extended sequence number, octets, field and line, first pixel. -/
def videoHeader (seq octets line offset : Nat) (second : Bool) : Bytes :=
  be 2 (seq / 65536) ++ be 2 octets ++ be 2 (line + (if second then 32768 else 0)) ++ be 2 offset

/-- The segment headers at the front of a payload, at most `fuel`, as (octets, field and line, offset), and the bytes they take. -/
def segmentHeads : Nat → Bytes → List (Nat × Nat × Nat)
  | 0, _ => []
  | n + 1, b =>
    let h := (beNat (slice b 0 2), beNat (slice b 2 2), beNat (slice b 4 2))
    if h.2.2 ≥ 32768 then h :: segmentHeads n (b.drop 6) else [h]

/-- The segments of an ST 2110-20 payload after its extended sequence number. -/
def segmentsOf (b : Bytes) : List Segment :=
  let hs := segmentHeads 3 (b.drop 2)
  (hs.foldl (fun (a : List Segment × Bytes) h =>
    (a.1 ++ [{ second := decide (h.2.1 ≥ 32768), line := h.2.1 % 32768, offset := h.2.2 % 32768, octets := a.2.take h.1 }], a.2.drop h.1))
    ([], b.drop (2 + 6 * hs.length))).1

/-- One line of a frame put together from the segments that carry it, none while a sample is missing (07 R319). -/
def lineFrom (sampling width : Nat) (l : List Segment) : Option (List Nat) :=
  let got := l.flatMap (fun g => (unpackSamples sampling g.octets).zipIdx.map (fun e => (pixelSamples sampling g.offset + e.2, e.1)))
  let line := (List.range (pixelSamples sampling width)).map (fun i => (got.find? (fun e => e.1 == i)).map (·.2))
  if line.all (·.isSome) then some (line.map (·.getD 0)) else none

/-- A frame put together from its segments; the lines of an interlaced frame alternate between its fields (07 R319). -/
def linesFrom (f : Fmt) (l : List Segment) : List (Option (List Nat)) :=
  match rasterOf f.raster with
  | some r => (List.range r.height).map (fun y => lineFrom f.sampling r.width
      (l.filter (fun g => if r.interlaced then g.second == (y % 2 == 1) && g.line == y / 2 else g.line == y)))
  | none => []

/-- Octets of audio samples, one list of channels for each sample instant (ST 2110-30; AES67). -/
def audioPayload (depth : Nat) (l : List (List Int)) : Bytes := l.flatMap (fun g => packBits (g.flatMap (msbBits depth)))

/-- The samples of an audio payload as 24-bit numbers, one list of channels for each sample instant. -/
def audioSamples (depth channels : Nat) (b : Bytes) : List (List Int) :=
  let vals := (numbersOf depth (unpackBits b)).map (fun (v : Nat) =>
    let x : Int := if v ≥ 2 ^ (depth - 1) then (v : Int) - 2 ^ depth else v
    x * 2 ^ (24 - depth))
  (List.range (vals.length / max 1 channels)).map (fun i => (vals.drop (channels * i)).take channels)

/-- One subframe of ST 2110-31: block and frame start, parity, channel status, user, validity, and the audio bits. -/
def am824 (first start status valid : Bool) (v : Int) : Bytes :=
  let a := msbBits 24 v
  let parity := (a ++ [status, valid]).foldl (· != ·) false
  packBits ([false, false, start, first, parity, status, false, valid] ++ a)

/-- Payload of an RFC 8331 packet: its ancillary packets, each at its line, filled to 32 bits. -/
def ancPayload (seq : Nat) (l : List AncPacket) : Bytes :=
  let body := l.flatMap (fun a =>
    let bits := [false] ++ natBits 11 a.line ++ natBits 12 0xFFF ++ List.replicate 8 false ++ (ancWords a).flatMap (natBits 10)
    packBits (bits ++ List.replicate ((32 - bits.length % 32) % 32) false))
  be 2 (seq / 65536) ++ be 2 body.length ++ be 1 l.length ++ [0, 0, 0] ++ body

/-- The ancillary packets in the bits of an RFC 8331 payload, `n` of them. -/
def ancFrom : Nat → List Bool → List AncPacket
  | 0, _ => []
  | n + 1, l =>
    let word := fun i => bitsNat ((l.drop (32 + 10 * i)).take 10)
    let count := word 2 % 256
    let bits := 32 + 10 * (4 + count)
    { did := word 0 % 256, sdid := word 1 % 256, line := bitsNat ((l.drop 1).take 11), udw := (List.range count).map (fun i => word (3 + i)) } ::
      ancFrom n (l.drop (cdiv bits 32 * 32))

/-- The ancillary packets of an RFC 8331 payload. -/
def ancPackets (b : Bytes) : List AncPacket := ancFrom (u8 b 4) (unpackBits (b.drop 8))

/-! ### Headers (07 R318) -/

/-- Sum of 16-bit words in one's complement. -/
def onesSum (b : Bytes) : Nat :=
  let n := ((groupsOf 2 0 b).map beNat).foldl (· + ·) 0
  let m := n % 65536 + n / 65536
  m % 65536 + m / 65536

/-- The Internet checksum of bytes. -/
def inetSum (b : Bytes) : Nat := 65535 - onesSum b

/-- IP addresses of a packet, in their version. -/
structure IpPair where
  v6 : Bool
  src : Bytes
  dst : Bytes
deriving DecidableEq, Repr

/-- IPv4 with DF set and TTL 64, or IPv6 with hop limit 64, before a UDP datagram of a length (07 R318). -/
def ipHeader (a : IpPair) (dscp len : Nat) : Bytes :=
  if a.v6 then be 4 (0x60000000 + dscp * 0x400000) ++ be 2 len ++ [17, 64] ++ padTo 16 a.src ++ padTo 16 a.dst
  else
    let h := fun (sum : Nat) => [0x45, BitVec.ofNat 8 (4 * dscp)] ++ be 2 (20 + len) ++ [0, 0, 0x40, 0, 64, 17] ++ be 2 sum ++ padTo 4 a.src ++ padTo 4 a.dst
    h (inetSum (h 0))

/-- A UDP datagram with a valid checksum (07 R318). -/
def udpDatagram (a : IpPair) (sp dp : Nat) (b : Bytes) : Bytes :=
  let n := 8 + b.length
  let pseudo := if a.v6 then padTo 16 a.src ++ padTo 16 a.dst ++ be 4 n ++ [0, 0, 0, 17] else padTo 4 a.src ++ padTo 4 a.dst ++ [0, 17] ++ be 2 n
  let sum := inetSum (pseudo ++ be 2 sp ++ be 2 dp ++ be 2 n ++ [0, 0] ++ b)
  be 2 sp ++ be 2 dp ++ be 2 n ++ be 2 (if sum = 0 then 65535 else sum) ++ b

/-- An Ethernet frame without its FCS: addresses, an IEEE 802.1Q tag where there is one, and its IP packet (07 R318). -/
def etherFrame (dst src : Bytes) (tag : Option Nat) (v6 : Bool) (b : Bytes) : Bytes :=
  padTo 6 dst ++ padTo 6 src ++ (match tag with | some t => [0x81, 0x00] ++ be 2 t | none => []) ++ (if v6 then [0x86, 0xDD] else [0x08, 0x00]) ++ b

end Sys2Proof.Machine
end

