-- ==== Sys2Proof/Machine/Weir.lean ====
section
/-! DEFINITION. Weir: source alignment, frame sync, loss and return of sources, payload IDs, and destination probes
(spec/04_source_alignment.md), with the generators of 03 R151 and the recirculation pairs of 03 R131. -/
namespace Sys2Proof.Machine

/-! ### Ports (03 R129, R130, R139) -/

/-- External source: Rill input or network receive flow (03 R129). -/
def isExternal (k : Nat) : Bool := k < 1024
/-- Rill source (03 R129). -/
def isRill (k : Nat) : Bool := k < 128
/-- Network source or destination (03 R129, R130). -/
def isNet (k : Nat) : Bool := 128 ≤ k && k < 1024
/-- Decode output, stem feed, or recirculation port (03 R129 to R131). -/
def isCodec (k : Nat) : Bool := 1024 ≤ k && k < 1088
/-- Compositor head source (03 R129). -/
def isHeadSrc (k : Nat) : Bool := k == 1088 || k == 1089
/-- Host playout source (03 R129). -/
def isPlayout (k : Nat) : Bool := 1090 ≤ k && k < 1114
/-- Pattern and test generator (03 R129). -/
def isGenerator (k : Nat) : Bool := 1114 ≤ k && k < 1152
/-- Host capture destination (03 R130). -/
def isCapture (k : Nat) : Bool := 1088 ≤ k && k < 1112

/-- A port is a member, other than the lead, of a gang whose lead holds a format of more than one port (03 R139). -/
def gangMember (gang : Nat → Nat) (k : Nat) : Bool :=
  [1, 2, 3].any (fun j => j ≤ k && gang (k - j) > j)

/-- The port is a gang member other than the lead of a source's gang. -/
def State.srcMember (s : State) (k : Nat) : Bool := gangMember (fun j => (s.src j).fmt.gang) k
/-- The port is a gang member other than the lead of a destination's gang. -/
def State.dstMember (s : State) (k : Nat) : Bool := gangMember (fun j => (s.dst j).fmt.gang) k

/-- A domain produces boundaries (01 R59). -/
def State.domainOn (s : State) (d : Nat) : Bool := d == 0 || (d ≤ 8 && (s.domain d).rate != 0)

/-- A domain produces boundaries: domain 0 always, an enabled video domain in a mode in which settings land (01 R41, R59; 02 R121). -/
def State.domainRuns (s : State) (d : Nat) : Bool := s.domainOn d && (d == 0 || s.mode.current.rings)

/-- The lowest-numbered domain of a membership byte (04 R178). -/
def lowestMember (m : BitVec 8) : Option Nat := (List.range 8).find? (fun i => m.getLsbD i) |>.map (· + 1)

/-- Domain of a source, 0xFF for none (01 R27; 03 R159). -/
def State.srcDomain (s : State) (k : Nat) : Nat :=
  if isExternal k then (lowestMember (s.src k).members).getD 0xFF
  else if isGenerator k then (s.src k).gen.domain
  else if isHeadSrc k then (s.head (k - 1088)).domain
  else if isCodec k && s.recirc then (s.dst k).domain
  else 0xFF

/-- Declared rate code of the enabled context that drives a decode output, 0 for none (12 R528). -/
def State.ctxRate (s : State) (k : Nat) : Nat :=
  match s.ctxs.find? (fun e => e.2.cfg.enable == 1 && e.2.cfg.output == k) with | some e => e.2.cfg.rate | none => 0

/-- Frame period of a source in ps, 0 when unknown: that of its domain, of its decode context's declared rate, or as measured. A host
playout source has none, since its frames come when they are posted (04 R176, R185; 14 R586; log entry 141). -/
def State.srcPeriod (s : State) (k : Nat) : Nat :=
  let d := s.srcDomain k
  if !isExternal k && d != 0xFF then periodPs (s.domain d).rate
  else if isCodec k then periodPs (s.ctxRate k)
  else (s.src k).periodPs

/-- Destinations that hold a live route. -/
def State.routed (s : State) : List Nat := (s.dsts.filter (fun e => e.2.src != 0xFFFF)).map (·.1)

/-- Destinations fed by a source in the live banks (03 R159). -/
def State.fedBy (s : State) (k : Nat) : List Nat := (s.dsts.filter (fun e => e.2.src == k)).map (·.1)

/-- Routes committed and not landed: destination, source, FORCE_SYNC (03 R150, R185). -/
def State.committedRoutes (s : State) : List (Nat × Nat × Bool) :=
  s.parts.flatMap (fun p => p.items.filterMap (fun x => match x with | .route d k y => some (d, k, y) | _ => none))

/-! ### The ring of frame buffers (04 R182, R185) -/

/-- Buffers a route of a source to a domain needs (04 R185). -/
def State.ringNeed (s : State) (k dom : Nat) : Nat :=
  let ps := s.srcPeriod k
  let pd := periodPs (s.domain dom).rate
  if ps = 0 then 3 else min 7 (max 3 (pd / ps + 2))

/-- Domains that a destination has, or has committed (04 R185). -/
def State.domainsOf (s : State) (d : Nat) : List Nat :=
  (s.dst d).domain :: s.parts.flatMap (fun p => p.items.filterMap (fun x => match x with | .dstDomain e n => if e = d then some n else none | _ => none))

/-- Buffers a source needs over its committed and live routes (04 R185). -/
def State.ringWanted (s : State) (k : Nat) : Nat :=
  ((s.fedBy k ++ (s.committedRoutes.filter (fun r => r.2.1 == k)).map (·.1)).flatMap (fun d => (s.domainsOf d).map (s.ringNeed k))).foldl max 3

/-- Port-frames that a ring takes from its reach's extension pool (04 R185). -/
def extension (ring gang : Nat) : Nat := (ring - 3) * max 1 gang

/-- Port-frames of a reach's extension pool that are taken (04 R185). -/
def State.extensionUsed (s : State) (reach : Nat) : Nat :=
  ((s.srcs.filter (fun e => portReach e.1 == reach)).map (fun e => extension e.2.ring e.2.fmt.gang)).foldl (· + ·) 0

/-- Sets the ring of a source to what its routes need, when the pool can supply it (04 R185). -/
def State.fitRing (s : State) (k : Nat) : State :=
  let want := s.ringWanted k
  let x := s.src k
  let others := s.extensionUsed (portReach k) - extension x.ring x.fmt.gang
  if want ≤ x.ring || others + extension want x.fmt.gang ≤ 64 then s.modSrc k (fun x => { x with ring := want }) else s

/-! ### Scan-out holds (13 R550) -/

/-- Destinations that a head's block names, 0xFFFF left out. -/
def scanEntries (c : HeadCfg) : List Nat := [c.scan0, c.scan1, c.scan2, c.scan3].filter (· != 0xFFFF)

/-- The head that holds a destination (13 R550). -/
def State.heldBy (s : State) (d : Nat) : Option Nat :=
  [0, 1].find? (fun h => (scanEntries (s.head h).cfg).contains d)

/-- The format of a head's picture (13 R548). -/
def headFmt (c : HeadCfg) : Fmt := { raster := c.raster, sampling := 0, colour := c.colour, gang := 1 }

/-- The format a destination has: a head's while the head holds it, else its own (13 R550). -/
def State.dstFmt (s : State) (d : Nat) : Fmt :=
  match s.heldBy d with
  | some h => headFmt (s.head h).cfg
  | none => (s.dst d).fmt

/-- The source a destination carries: a head's while the head holds it, else that of its route (13 R550). -/
def State.dstSrc (s : State) (d : Nat) : Nat :=
  match s.heldBy d with
  | some h => 1088 + h
  | none => (s.dst d).src

/-! ### Format converters (03 R146, R147) -/

/-- A source's format and a destination's need a format converter between them (03 R146). -/
def needsConv (f g : Fmt) : Bool :=
  f.raster != 0 && g.raster != 0 && (f.sampling != g.sampling || resolveColour g.colour f.colour != f.colour)

/-- A destination's route needs a format converter (03 R146). -/
def State.convNeeded (s : State) (d : Nat) : Bool :=
  (s.dst d).src != 0xFFFF && needsConv (s.src (s.dst d).src).fmt (s.dst d).fmt

/-- Converter taken for a destination by a committed or live setting, 0xFF for none. -/
def State.convOf (s : State) (d : Nat) : Nat := match s.convs.find? (fun e => e.2 == d + 1) with | some e => e.1 | none => 0xFF

/-- Lowest converter of a reach that is free and usable (03 R157). -/
def State.freeConv (s : State) (reach : Nat) : Option Nat :=
  ((List.range 32).map (fun i => 32 * reach + i)).find? (fun i => tget (fun _ => 0) s.convs i == 0 && s.usable .converter i)

/-- Takes a converter for a destination, if it has none; none when its reach has none left (03 R146). -/
def State.takeConv (s : State) (d : Nat) : Option State :=
  if s.convOf d != 0xFF then some s
  else (s.freeConv (portReach d)).map (fun i => { s with convs := tset (fun _ => 0) s.convs i (d + 1) })

/-- Returns a destination's converter to the pool. -/
def State.dropConv (s : State) (d : Nat) : State :=
  { s with convs := s.convs.filter (fun e => e.2 != d + 1) }

/-! ### Routes that cannot be served (03 R173; 04 R185) -/

/-- A route cannot be served as it stands: rasters differ, no converter is attached where one is needed, or the ring of its
source is too short (03 R173; 04 R185); the route of a held destination is not served (13 R550). -/
def State.mismatch (s : State) (d : Nat) : Bool :=
  let x := s.dst d
  let f := (s.src x.src).fmt
  x.src != 0xFFFF && (s.heldBy d).isNone && f.raster != 0 && x.fmt.raster != 0 &&
    (f.raster != x.fmt.raster || (s.convNeeded d && s.convOf d == 0xFF) || (s.src x.src).ring < s.ringNeed x.src x.domain)

/-- A mismatch is raised when it is seen; `boundary` lets it clear, and takes a converter that has become necessary
(03 R146, R173; 04 R185). -/
def State.judgeMismatch (s : State) (boundary : Bool) (d : Nat) : State :=
  let s0 := if boundary && s.convNeeded d then (s.takeConv d).getD s else s
  let s1 := if boundary && (s0.dst d).src != 0xFFFF && (s0.src (s0.dst d).src).ring < s0.ringNeed (s0.dst d).src (s0.dst d).domain then
    s0.fitRing (s0.dst d).src else s0
  if s1.mismatch d then
    (if s1.stands almFormatMismatch d || (!boundary && (s1.src (s1.dst d).src).fmt.raster == (s1.dst d).fmt.raster) then s1
     else (s1.raise almFormatMismatch d).count cntFormatMismatch d 1)
  else if boundary then s1.clearAlarm almFormatMismatch d else s1

/-! ### Formats of sources (03 R142, R173; 04 R198, R212) -/

/-- A source takes a format: a change of it is reported while the source has a signal, and the destinations that it feeds see it
(03 R173; 04 R212; log entry 142). -/
def State.setFmt (s : State) (k : Nat) (f : Fmt) : State :=
  let o := (s.src k).fmt
  if o = f then s
  else
    let s1 := s.modSrc k (fun x => { x with fmt := f })
    let s2 := s1.when ((s.src k).signal && o.raster != 0) (fun t => t.event
      { code := 0x1012, noun := 0x10, index := k,
        data := le 1 f.raster ++ le 1 f.sampling ++ le 1 f.colour ++ le 1 o.raster ++ le 1 o.sampling ++ le 1 o.colour })
    s2.each (s2.fedBy k) (fun t d => t.judgeMismatch false d)

/-! ### The pictures of frames (04 R182, R195, R196; 14 R585) -/

/-- Format of a frame. -/
def frameFmt : Frame → Fmt
  | .empty => Fmt.reset
  | .taken f _ => f
  | .pattern f _ _ => f
  | .black f => f
  | .slot f _ _ => f

/-- Device address of a slot of the playout ring of src 1090 + `j` (14 R584, R585). -/
def playoutBase (j slot : Nat) : Nat := (j + 2) % 4 * reachSpan + 0x400000000 + 0x20000000 * (j / 4) + 0x8000000 * slot

/-- The whole picture of a frame (03 R140, R151; 04 R191, R192; 14 R585). -/
def State.framePicture (s : State) : Frame → Picture
  | .empty => []
  | .taken _ p => p
  | .pattern f code n => patternPicture f code n
  | .black f => blackPicture f
  | .slot f k n =>
    unite f.sampling ((List.range (max 1 f.gang)).map (fun m =>
      slotPicture (fun o => s.dramByte (playoutBase (k + m - 1090) n + o)) f.sampling
        (if f.gang ≤ 1 then (fmtSize f).1 else (fmtSize f).1 / 2) (memberLines f)))

/-- The lines of a network frame, each missing one filled with the same line of the frame before (04 R195). -/
def fillLines (prev : Picture) (l : List (Option (List Nat))) : Picture := l.zipIdx.map (fun e => e.1.getD (prev.getD e.2 []))

/-- The code of black for sample `i` of a line (04 R196). -/
def blackSample (f : Fmt) (i : Nat) : Nat :=
  atDepth f.sampling (if isRgb f.sampling || (if is422 f.sampling then i % 2 == 1 else i % 3 == 1) then 64 else 512)

/-- One replacement of samples: by the same place of the previous frame, or by black of the format (04 R180, R196). -/
def patchPicture (f : Fmt) (prev p : Picture) (x : Patch) : Picture :=
  lmod p x.line (fun l => l.zipIdx.map (fun e =>
    if x.first ≤ e.2 && e.2 < x.first + x.count then (if x.black then blackSample f e.2 else (prev.getD x.line []).getD e.2 0) else e.1))

/-- A frame as a reader shows it, with what the reader replaces (04 R180, R196). -/
def State.shownPicture (s : State) (fr prev : Frame) (ps : List Patch) : Picture :=
  ps.foldl (patchPicture (frameFmt fr) (s.framePicture prev)) (s.framePicture fr)

/-! ### Loss and return (04 R189 to R194) -/

/-- A source loses its signal: its alarm, counter and event; it leaves every domain, and the frame in progress is discarded
(04 R177, R182, R189). -/
def State.loseSource (s : State) (k : Nat) : State :=
  if (s.src k).signal then
    let s1 := s.modSrc k (fun x => { x with signal := false, lostNs := s.nowNs, members := 0, runs := SrcSt.reset.runs, good := 0, linkGood := 0
                                            fresh := false, arrivalNs := 0, making := .empty })
    ((s1.raise almSrcLoss k).count cntSrcLoss k 1).event
      { code := 0x1010, noun := 0x10, index := k, data := le 8 (s.src k).written }
  else s

/-- A source gains a signal with a format and its newest complete frame; `frames` complete frames brought it, and a handover hold of it
ends (04 R193, R210; 08 R370). -/
def State.gainSource (s : State) (k : Nat) (f : Fmt) (frames : Nat) (pic : Frame) : State :=
  if (s.src k).signal then s
  else
    let s0 := { s with levee := { s.levee with holds := s.levee.holds.filter (fun h => h.1 != k) } }
    let s1 := (s0.setFmt k f).modSrc k (fun x =>
      { x with signal := true, ever := true, good := 0, written := frames, newest := x.newest + frames, prev := x.pic, pic := pic })
    let s2 := (s1.clearAlarm almSrcLoss k).event
      { code := 0x1011, noun := 0x10, index := k, data := le 1 f.raster ++ le 1 f.sampling ++ le 1 f.colour }
    s2.fitRing k

/-- A whole frame of a source becomes its newest complete frame, unless its writer's buffer has overflowed, which discards it (04 R182; 14
R599). -/
def State.frameDone (s : State) (k : Nat) (pic : Frame) : State :=
  s.modSrc k (fun x => if x.spoiled then { x with spoiled := false }
    else { x with newest := x.newest + 1, written := x.written + 1, prev := x.pic, pic := pic })

/-- An internal source produces a frame: it has a signal from its first one (04 R193). -/
def State.produce (s : State) (k : Nat) (f : Fmt) (pic : Frame) : State :=
  if (s.src k).signal then (s.setFmt k f).frameDone k pic else s.gainSource k f 1 pic

/-- The ancillary packets of a source's newest complete frame: at most 64, the further ones counted (07 R322). -/
def State.attach (s : State) (k : Nat) (l : List AncPacket) : State :=
  let r := limitAnc l
  (s.modSrc k (fun x => { x with anc := r.1 })).when (r.2 != 0) (fun t => t.count cntAncDiscard k r.2)

/-- The lead of the quad-link gang to which a Rill input belongs, or the input itself (04 R201). -/
def State.rillLead (s : State) (k : Nat) : Nat :=
  if isRill k && (s.src (k / 4 * 4)).fmt.gang == 4 then k / 4 * 4 else k

/-- Active lines of the frame in progress of an external source that an instant leaves unreceived, by the time since its first active
line and its measured period (04 R190; log entry 143). -/
def State.linesLeft (s : State) (k ns : Nat) : Nat :=
  let x := s.src k
  match rasterOf x.fmt.raster with
  | some r => if x.arrivalNs = 0 || x.periodPs = 0 then 0 else r.height - min r.height ((ns - x.arrivalNs) * 1000 * r.total / x.periodPs)
  | none => 0

/-- A frame cut short by a loss: the lines not received are counted once, and each destination on the direct path takes them from the
newest complete frame; `got` are the lines received (04 R190). -/
def State.cutFrame (s : State) (k missing : Nat) (got : Picture) : State :=
  let x := s.src k
  if !x.signal then s
  else
    let f := Frame.taken x.fmt (got ++ (s.framePicture x.pic).drop got.length)
    (s.count cntLinesConcealed k missing).each ((s.fedBy k).filter (fun d => (s.dst d).path == 1)) (fun t d =>
      t.modDst d (fun y => { y with shows := f, showsPrev := x.pic }))

/-- What a lane that stops declares of its link is gone: its next payload ID must be accepted anew (04 R198, R201). -/
def State.dropLane (s : State) (k : Nat) : State :=
  s.modSrc k (fun x => { x with link := 0, skew := 0, vpidLast := none, fresh := false, arrivalNs := 0 })

/-- SOURCE_SIGNAL_LOSS (04 R189, R190, R201): the loss of a source; that of a member takes its whole gang, which is inconsistent until
the link returns. -/
def State.signalLoss (s : State) (k missing : Nat) (got : Picture) : State :=
  let l := s.rillLead k
  let s1 := s.dropLane k
  if (s.src l).fmt.gang == 4 && isRill k then
    (s1.cutFrame l missing got).each [0, 1, 2, 3] (fun t m => (t.raise almLinkGroup (l + m)).loseSource (l + m))
  else (s1.cutFrame k missing got).loseSource k

/-! ### Offset and membership (04 R176 to R180) -/

/-- Instant, in ps, of the input reference of a frame of a rate for a raster (04 R176). -/
def inputRefPs (rate raster n : Nat) : Int :=
  match rasterOf raster with
  | some r => ((n * rateDen rate * 1000000000000 / rateNum rate : Nat) : Int) +
      ((r.firstActive : Int) - 9) * (linePs raster rate : Int) - 2000000
  | none => 0

/-- Offset of an arrival in ps against the nearest input reference, in 1/16 line, to the nearest step. DESIGN CHOICE (log entry 144): the
spec names the step and not the rounding; the windows of R177 and R180 are tested on the rounded value (04 R176). -/
def offsetOf (rate raster : Nat) (a : Int) : Int :=
  let n := frameAt rate (a.toNat / 1000)
  let diffs := [n - 1, n, n + 1].map (fun j => a - inputRefPs rate raster j)
  let best := diffs.foldl (fun m d => if d.natAbs < m.natAbs then d else m) (a - inputRefPs rate raster n)
  let l : Int := linePs raster rate
  if l = 0 then 0 else (32 * best + l).ediv (2 * l)

/-- 40 unit intervals of a Rill rate code, in ps (06 R267, R292). -/
def ui40Ps (code : Nat) : Nat :=
  let bits := if code ≤ 1 then 270000000 else if code ≤ 3 then 1485000000 else if code ≤ 5 then 2970000000
    else if code ≤ 7 then 5940000000 else 11880000000
  let den := if code = 3 || code = 5 || code = 7 || code = 9 then 1001 else 1000
  40 * 1000000000000 * den / (bits * 1000)

/-- Delay from the lands of a Rill input to its measurement point in ps: 14.0 ns and 40 UI of its lane's rate (06 R292). -/
def State.inputDelayPs (s : State) (k : Nat) : Nat := if isRill k then 14000 + ui40Ps (s.lane (128 + k)).mode else 0

/-- A measured period lies within 100 ppm of a rate's (04 R177). -/
def periodMatches (rate periodPsMeasured : Nat) : Bool :=
  let p := periodPs rate
  p != 0 && ((periodPsMeasured : Int) - p).natAbs * 10000 ≤ p

/-- Membership of a source in one domain after a measurement: member, run of frames inside 6 lines, offset (04 R177). -/
def memberStep (isMember : Bool) (run : Nat) (inPeriod : Bool) (off : Int) : Bool × Nat :=
  if isMember then (if inPeriod && withinI off (-128) 128 then (true, if withinI off (-96) 96 then run + 1 else 0) else (false, 0))
  else
    let run' := if inPeriod && withinI off (-96) 96 then run + 1 else 0
    (run' ≥ 16, run')

/-- The latest link of a quad-link gang, the first of equal ones (04 R201). -/
def State.latestLane (s : State) (lead : Nat) : Nat :=
  [1, 2, 3].foldl (fun b m => if (s.src (lead + m)).skew > (s.src b).skew then lead + m else b) lead

/-- Raster that a source is measured by: that of its format, or the one last seen on its lane (04 R176). -/
def SrcSt.rasterSeen (x : SrcSt) : Nat := if x.fmt.raster != 0 then x.fmt.raster else x.rasterLast

/-- What a measurement says against domain `i` + 1: member, run of frames inside 6 lines, offset, and whether the offset stands: the
domain is enabled and the raster known. An unabsorbed step of device time moves the domain's references (04 R176, R177; 09 R405). -/
def State.measureAgainst (s : State) (x : SrcSt) (a : Int) (period i : Nat) : Bool × Nat × Int × Bool :=
  let d := s.domain (i + 1)
  let known := s.domainOn (i + 1) && (rasterOf x.rasterSeen).isSome
  let off := if known then offsetOf d.rate x.rasterSeen (a - 1000 * d.stepDelta) else 0
  let r := memberStep (x.members.getLsbD i) (x.runs.getD i 0) (known && periodMatches d.rate period) off
  (r.1 && x.signal, r.2, off, known)

/-- A measurement of a source or of a gang's lead: its membership, its runs and offsets, and the overruns of the aligner, whose lines come
from the frame before (04 R176, R177, R180); a changed period fits its ring anew (04 R185). -/
def State.measured (s : State) (k : Nat) (a : Int) (period : Nat) (beyond : List Nat) : State :=
  let x := s.src k
  let out := (List.range 8).map (s.measureAgainst x a period)
  let at_ := fun i => out.getD i (false, 0, 0, false)
  let isOver := x.members != 0 && (!beyond.isEmpty ||
    (List.range 8).any (fun i => x.members.getLsbD i && (at_ i).2.2.2 && !withinI (at_ i).2.2.1 (-160) 160))
  let mem := (List.range 8).foldl (fun (b : BitVec 8) i => if (at_ i).1 then b ||| BitVec.ofNat 8 (2 ^ i) else b) 0
  let s1 := s.modSrc k (fun x => { x with periodPs := period, members := mem, runs := out.map (·.2.1), offsets := out.map (·.2.2.1) })
  let width := match rasterOf x.fmt.raster with | some r => 3 * r.width | none => 0
  let s2 := s1.when isOver (fun t => (t.count cntAlignOverrun k 1).each ((s.fedBy k).filter (fun d => (s.dst d).path == 1)) (fun u d =>
    u.modDst d (fun y => { y with patches := y.patches ++ beyond.map (fun l => { line := l, first := 0, count := width, black := false }) })))
  if x.signal && period != x.periodPs then s2.fitRing k else s2

/-- SOURCE_FRAME_MEASURE: the first active line of a frame arrives; `beyond` are the lines that the aligner could not supply of the frame
(04 R176, R177, R180; 06 R292). A gang is measured on its latest link (04 R201). -/
def State.measureSource (s : State) (k arrivalNs period : Nat) (beyond : List Nat) : State :=
  if !(isExternal k && s.usable .src k && s.inService) then s
  else
    let l := s.rillLead k
    let s1 := (s.modSrc k (fun x => { x with arrivalNs := arrivalNs })).modSrc l (fun x => { x with arrivalNs := arrivalNs })
    if (s.src l).fmt.gang == 4 && isRill k && s.latestLane l != k then s1.modSrc k (fun x => { x with periodPs := period })
    else s1.measured l ((arrivalNs : Int) * 1000 - s.inputDelayPs k) period beyond

/-! ### Payload IDs and formats of Rill inputs (04 R197 to R201) -/

/-- Sampling and colour of a Rill input: from the override, the accepted payload ID, or the default (04 R197, R200). -/
def rillCoding (o : OverrideCfg) (accepted : Option (Nat × Nat)) : Nat × Nat :=
  match o.mode, accepted with
  | 1, _ => (o.sampling, o.colour)
  | 2, none => (o.sampling, o.colour)
  | _, some c => c
  | _, none => (0, 0x11)

/-- Raster that a link of a quad-link gang measures as, for the gang's raster; a single link's is its own (03 R140; 04 R201). -/
def linkRaster (link raster : Nat) : Nat := if link = 0 then raster else if raster = 0x40 then 0x30 else if raster = 0x30 then 0x21 else raster

/-- Raster of a quad-link gang whose links measure as `raster`: twice its columns and lines (03 R140; 06 R267). -/
def gangRaster (raster : Nat) : Nat := if raster = 0x30 then 0x40 else if raster = 0x21 then 0x30 else raster

/-- Consistency of a quad-link group: each link 1 to 4 once, one coded format, one measured one, skew of at most 2 lines (04 R201). -/
def groupOk (xs : List SrcSt) : Bool :=
  let ls := xs.map (·.link)
  let a := xs.headD SrcSt.reset
  [1, 2, 3, 4].all (fun n => ls.contains n) && xs.all (fun x => x.skew ≤ 32 && x.rasterLast == a.rasterLast && x.rateLast == a.rateLast &&
    x.vCoding == a.vCoding)

/-- The group of four lanes is meant to be a gang: a payload ID of one declares a link, or the lead's override forms it
(04 R200, R201). -/
def State.groupWanted (s : State) (lead : Nat) : Bool :=
  (s.src lead).ovr.gang == 4 || ((s.src lead).ovr.gang == 0 && [0, 1, 2, 3].any (fun m => (s.src (lead + m)).link != 0))

/-- The four lanes of a group are consistent; an override takes them without payload IDs (04 R200, R201). -/
def State.groupGood (s : State) (lead : Nat) : Bool :=
  let xs := [0, 1, 2, 3].map (fun m => s.src (lead + m))
  if (s.src lead).ovr.gang == 4 then xs.all (fun x => x.skew ≤ 32 && x.rasterLast == (s.src lead).rasterLast && x.rateLast == (s.src lead).rateLast)
  else groupOk xs

/-- Sampling and colour of a Rill input (04 R197, R200). -/
def SrcSt.coding (x : SrcSt) : Nat × Nat := rillCoding x.ovr (if x.vpid.isSome then some (x.vCoding.1, x.vCoding.2.1) else none)

/-- Format of a quad-link gang (04 R197, R201). -/
def State.gangFmt (s : State) (lead : Nat) : Fmt :=
  { raster := gangRaster (s.src lead).rasterLast, sampling := (s.src lead).coding.1, colour := (s.src lead).coding.2, gang := 4 }

/-- The picture of a quad-link gang: member `m` is the lane that declares link `m` + 1, or lane `m` without payload IDs
(03 R140; 04 R200, R201). -/
def State.gangPicture (s : State) (lead : Nat) : Picture :=
  let lane := fun m => if (s.src lead).ovr.gang == 4 then lead + m
    else lead + (([0, 1, 2, 3].find? (fun j => (s.src (lead + j)).link == m + 1)).getD m)
  unite (s.gangFmt lead).sampling ([0, 1, 2, 3].map (fun m => (s.src (lane m)).lane))

/-- Every link of a consistent group has given its frame: the gang's frame is complete; after two in a row the gang has its signal, and
with it each of its four sources (04 R182, R201). -/
def State.gangWhole (s : State) (lead : Nat) : State :=
  let f := s.gangFmt lead
  let n := (s.src lead).linkGood + 1
  let s1 := (s.each [0, 1, 2, 3] (fun t m => t.modSrc (lead + m) (fun x => { x with fresh := false }))).modSrc lead (fun x => { x with linkGood := n })
  let pic := Frame.taken f (s.gangPicture lead)
  let x := s.src lead
  if x.signal && x.fmt.gang == 4 then (s1.setFmt lead f).frameDone lead pic
  else if n < 2 then s1
  else
    let s2 := s1.each [0, 1, 2, 3] (fun t m => t.clearAlarm almLinkGroup (lead + m))
    let s3 := if x.signal then (s2.setFmt lead f).frameDone lead pic else s2.gainSource lead f 2 pic
    s3.each [1, 2, 3] (fun t m =>
      t.gainSource (lead + m) { f with raster := (s.src lead).rasterLast, gang := 1 } 2 (.taken { f with gang := 1 } (t.src (lead + m)).lane))

/-- The gang's frame, with the ancillary packets of its lanes (04 R201; 07 R322). -/
def State.gangFrame (s : State) (lead : Nat) : State :=
  (s.gangWhole lead).attach lead ([0, 1, 2, 3].flatMap (fun m => (s.src (lead + m)).laneAnc))

/-- A gang that is no longer wanted is dissolved: its lead is a single input again (04 R201). -/
def State.dissolve (s : State) (lead : Nat) : State :=
  let s1 := s.each [0, 1, 2, 3] (fun t m => (t.clearAlarm almLinkGroup (lead + m)).modSrc (lead + m) (fun x => { x with linkGood := 0, fresh := false }))
  if (s.src lead).fmt.gang == 4 then s1.setFmt lead { (s.src lead).fmt with raster := (s.src lead).rasterLast, gang := 1 } else s1

/-- A lane of a group that is to be a gang has ended a frame: the gang's frame, or the alarm of an inconsistent group, whose four sources
have no signal (04 R201). -/
def State.laneFrame (s : State) (k : Nat) (whole : Bool) : State :=
  let lead := k / 4 * 4
  if !s.groupGood lead then
    (s.each [0, 1, 2, 3] (fun t m => ((t.raise almLinkGroup (lead + m)).loseSource (lead + m)).modSrc (lead + m)
      (fun x => { x with linkGood := 0, fresh := false })))
  else if !whole then
    (s.each [0, 1, 2, 3] (fun t m => t.modSrc (lead + m) (fun x => { x with fresh := false }))).modSrc lead
      (fun x => { x with linkGood := 0, runs := if x.signal then x.runs else SrcSt.reset.runs })
  else
    let s1 := s.modSrc k (fun x => { x with fresh := true })
    if [0, 1, 2, 3].all (fun m => (s1.src (lead + m)).fresh) then s1.gangFrame lead else s1

/-- The payload ID of a frame: acceptance after two equal ones, and the mismatch alarm, judged in every frame while an ID stands. An ID
counts as absent after two consecutive frames without one, as for the alarm of R199. DESIGN CHOICE (log entry 145): R197 gives no count
(04 R197 to R199, R211). -/
def State.takeVpid (s : State) (k : Nat) (f : SourceFrame) : State :=
  let x := s.src k
  let absent := if f.vpid.isNone then x.vpidAbsent + 1 else 0
  let accept := f.vpid.isSome && f.vpid == x.vpidLast
  let vpid := if accept then f.vpid else if absent ≥ 2 then none else x.vpid
  let coding := if accept then (f.vSampling, f.vColour, f.vRaster, f.vRate) else x.vCoding
  let link := if accept then f.vLink else if absent ≥ 2 then 0 else x.link
  let s1 := (s.modSrc k (fun x => { x with vpidLast := f.vpid, vpidAbsent := absent, vpid := vpid, skew := f.skew, vCoding := coding
                                           rasterLast := f.raster, rateLast := f.rate, link := link })).when
    (accept && f.vpid != x.vpid) (fun t => t.count cntVpidChange k 1)
  if absent ≥ 2 then s1.clearAlarm almVpidMismatch k
  else if vpid.isNone || !f.valid then s1
  else if linkRaster link coding.2.2.1 == f.raster && coding.2.2.2 == f.rate then s1.clearAlarm almVpidMismatch k
  else if s1.stands almVpidMismatch k then s1
  else (s1.raise almVpidMismatch k).event
    { code := 0x1013, noun := 0x10, index := k, data := le 4 ((vpid.getD 0).toNat) }

/-- Format of a Rill input after a frame: raster by measurement, sampling and colour by override or accepted payload ID (04 R197). -/
def State.rillFormat (s : State) (k : Nat) (f : SourceFrame) : Fmt :=
  { raster := f.raster, sampling := (s.src k).coding.1, colour := (s.src k).coding.2, gang := 1 }

/-- A frame toward the return of a source: its second in a row brings the signal; the first is the first of the run of R177
(04 R177, R193). -/
def State.returning (s : State) (k : Nat) (f : Fmt) (follows : Bool) (pic : Frame) : State :=
  let n := if (s.src k).good ≥ 1 && follows then (s.src k).good + 1 else 1
  if n ≥ 2 then s.gainSource k f 2 pic
  else s.modSrc k (fun x => { x with good := 1, pic := pic, prev := x.pic, runs := x.runs.map (min 1) })

/-- A frame that does not count toward a return: the runs of R177 and R193 begin again. -/
def State.spoiled (s : State) (k : Nat) : State := s.modSrc k (fun x => { x with good := 0, runs := SrcSt.reset.runs })

/-- A frame of a Rill input that is no member of a gang (04 R182, R193, R197, R198): `same` says that its payload ID and raster are those
of the frame before. The format changes at the end of the frame. -/
def State.singleFrame (s : State) (k : Nat) (f : SourceFrame) (whole same : Bool) : State :=
  let x := s.src k
  let fmt := s.rillFormat k f
  let pic := (s.src k).lane
  if x.signal then
    if !whole then s
    else if f.raster = x.fmt.raster then ((s.frameDone k (.taken x.fmt pic)).setFmt k fmt).attach k x.laneAnc
    else ((s.setFmt k fmt).frameDone k (.taken fmt pic)).attach k x.laneAnc
  else if whole then (s.returning k fmt same (.taken fmt pic)).attach k x.laneAnc
  else s.spoiled k

/-- A frame of a Rill input (04 R182, R193, R197 to R201). -/
def State.rillFrame (s : State) (k : Nat) (f : SourceFrame) : State :=
  let x := s.src k
  let whole := f.valid && !f.cut
  let lead := k / 4 * 4
  let s1 := (s.takeVpid k f).modSrc k (fun y => { y with lane := f.lines.map (·.getD []), laneAnc := f.anc.filter keptAnc, arrivalNs := 0 })
  if s1.groupWanted lead then s1.laneFrame k whole
  else (s1.dissolve lead).singleFrame k f whole (f.vpid == x.vpidLast && f.raster == x.rasterLast)

/-- The lines of a network frame: those that the packets of its receive entry carry, where they carry any of its RTP timestamp, else those
that come with the command (07 R319; log entry 158). -/
def State.netLines (s : State) (k : Nat) (f : SourceFrame) : List (Option (List Nat)) :=
  match s.flows.find? (fun e => e.1 < 8192 && e.2.cfg.kind == 0x01 && e.2.cfg.flags.getLsbD 0 && e.2.cfg.binding == k &&
      !e.2.ended.isEmpty && e.2.endedStamp == f.stamp) with
  | some e => linesFrom (s.src k).fmt e.2.ended
  | none => f.lines

/-- RTP timestamp `a` comes before `b`. -/
def stampBefore (a b : Nat) : Bool := a != b && (b + 4294967296 - a) % 4294967296 < 2147483648

/-- A network frame takes the ancillary packets that carry its RTP timestamp; older ones are gone with their frames (07 R322). -/
def State.attachNet (s : State) (k stamp : Nat) : State :=
  let w := (s.src k).ancWait
  (s.modSrc k (fun x => { x with ancWait := w.filter (fun e => stampBefore stamp e.1) })).attach k ((w.filter (fun e => e.1 == stamp)).map (·.2))

/-- A frame of a network source: it has to be of its entry's format; missing lines come from the frame before, unless more than half of
them are missing (04 R182, R193, R195). -/
def State.netFrame (s : State) (k : Nat) (f : SourceFrame) : State :=
  let x := s.src k
  let lines := s.netLines k f
  let missing := (lines.filter (·.isNone)).length
  let whole := f.valid && !f.cut && f.raster == x.fmt.raster
  let half : Bool := match rasterOf x.fmt.raster with | some r => decide (2 * missing > r.height) | none => false
  let pic := Frame.taken x.fmt (fillLines (s.framePicture x.pic) lines)
  let s1 := s.modSrc k (fun y => { y with arrivalNs := 0 })
  if x.signal then
    if !whole || (missing != 0 && half) then s1 else ((s1.count cntLinesConcealed k missing).frameDone k pic).attachNet k f.stamp
  else if whole && missing = 0 then (s1.returning k x.fmt true pic).attachNet k f.stamp
  else s1.spoiled k

/-- SOURCE_FRAME_COMPLETE (04 R182, R193, R195, R197 to R201). -/
def State.sourceFrame (s : State) (k : Nat) (f : SourceFrame) : State :=
  if !(isExternal k && s.usable .src k && s.inService) then s
  else if isRill k then s.rillFrame k f else s.netFrame k f

/-! ### Internal producers (03 R131, R151) -/

/-- A generator produces frames: format, pattern, its domain and the mode (03 R151). -/
def State.generates (s : State) (k : Nat) : Bool :=
  let x := s.src k
  x.fmt.raster != 0 && x.gen.pattern != 0xFF && s.domainOn x.gen.domain && s.internalRun

/-- The frame that a generator was producing is complete, unless its format has changed meanwhile (03 R151; 04 R182). -/
def State.generated (s : State) (k : Nat) : State :=
  let x := s.src k
  if x.making != .empty && frameFmt x.making == x.fmt && s.domainOn x.gen.domain && s.internalRun then s.produce k x.fmt x.making else s

/-- GENERATOR_FRAME: the frame start of a generator: its last frame is complete, a setting that waits takes effect, and the next frame
begins, or the signal is lost (03 R151). -/
def State.generatorFrame (s : State) (k : Nat) : State :=
  if !(isGenerator k && s.usable .src k) then s
  else
    let s1 := (s.generated k).modSrc k (fun x => { x with gen := x.genNext.getD x.gen, genNext := none })
    if s1.generates k then s1.modSrc k (fun x => { x with making := .pattern x.fmt x.gen.pattern x.newest })
    else (s1.modSrc k (fun x => { x with making := .empty })).loseSource k

/-! ### What a destination shows (03 R154; 04 R183, R184, R187, R190 to R192) -/

/-- A destination produces frames: present, no member of a gang, its domain enabled, with a format, in a mode that serves it (01 R44;
03 R133, R154; 13 R550). -/
def State.dstRuns (s : State) (d : Nat) : Bool :=
  s.usable .dst d && s.inService && s.domainOn (s.dst d).domain && (s.dstFmt d).raster != 0 && !(s.dst d).stopped && !s.dstMember d

/-- The format a destination puts out, its "follow the source" fields taken from a source's colour (03 R136, R146). -/
def State.outFmt (s : State) (d colour : Nat) : Fmt := { s.dstFmt d with colour := resolveColour (s.dstFmt d).colour colour }

/-- What a destination that shows a loss action shows: 0 hold, 1 black, 2 a pattern (04 R191, R192). -/
def lossShown (c : LossCfg) (frames : Nat) : Nat × Nat :=
  if c.fbFrames != 0 && frames > c.fbFrames then (c.fbAction, c.fbPattern) else (c.action, c.pattern)

/-- The frame of a source's loss action at a destination of format `f`: hold with nothing complete to hold, or with a frame of another
raster, is black (04 R191, R192; 03 R173; log entry 140). -/
def SrcSt.lossFrame (x : SrcSt) (f : Fmt) (frames : Nat) : Frame :=
  let a := lossShown x.loss frames
  if a.1 = 2 then .pattern f a.2 0
  else if a.1 = 0 && (frameFmt x.pic).raster == f.raster then x.pic
  else .black f

/-- A destination shows its source's loss action: the source has no signal, the route cannot be served, a handover holds it, or the mode
does not serve the source (04 R191; 03 R173; 08 R370; 01 R47). -/
def State.showsLoss (s : State) (d : Nat) : Bool :=
  !(s.src (s.dstSrc d)).signal ||
  ((s.heldBy d).isNone && (s.stands almFormatMismatch d || s.levee.holds.any (fun h => h.1 == (s.dst d).src) || (s.dst d).cut))

/-- One more frame of the loss action (04 R191). -/
def State.lossFrameStart (s : State) (d : Nat) : State :=
  let x := s.src (s.dstSrc d)
  (s.modDst d (fun y => { y with showLoss := true, lossFrames := y.lossFrames + 1, showsPrev := x.prev
                                 shows := x.lossFrame (s.outFmt d x.fmt.colour) (y.lossFrames + 1) })).count cntLossFrames d 1

/-- The newest complete frame by the repeat and drop rules; on the direct path, and at a destination that a head holds, the source's
frame as it comes (04 R183, R184; 13 R551). The ancillary packets follow the frame, and a frame shown again carries none (07 R322). -/
def State.sourceFrameStart (s : State) (d : Nat) : State :=
  let x := s.dst d
  let src := s.src (s.dstSrc d)
  let live := (s.heldBy d).isSome || x.path == 1
  let k := src.newest - x.lastSeq
  let s1 := s.modDst d (fun y => { y with showLoss := false, lossFrames := 0, lastSeq := src.newest, showsPrev := src.prev
                                          anc := if k = 0 then [] else src.anc
                                          shows := if live then .empty else src.pic })
  if live || x.path != 2 || x.lastSeq == 0 then s1
  else if k = 0 then s1.count cntFsRepeat d 1
  else s1.count cntFsDrop d (k - 1)

/-- DEST_FRAME_START: black without a route, the loss action, or the source's frame (03 R154; 04 R183, R184, R191; 13 R551, R552). -/
def State.destFrame (s : State) (d : Nat) : State :=
  if !s.dstRuns d then s
  else
    let rate := (s.domain (s.dst d).domain).rate
    let s1 := s.modDst d (fun y => { y with patches := [], anc := [], frameNo := s.nowNs * rateNum rate / (rateDen rate * 1000000000) })
    if s.dstSrc d = 0xFFFF then s1.modDst d (fun y => { y with shows := .black (s.outFmt d 0), showLoss := false, lossFrames := 0 })
    else if s.showsLoss d then s1.lossFrameStart d
    else s1.sourceFrameStart d

/-- The frame that a destination carries: what its frame start took, or the source's frame as it came. -/
def State.frameOn (s : State) (d : Nat) : Frame := if (s.dst d).shows = .empty then (s.src (s.dstSrc d)).pic else (s.dst d).shows

/-- The frame before the one that a destination carries, in the same ring. -/
def State.prevOn (s : State) (d : Nat) : Frame := if (s.dst d).shows = .empty then (s.src (s.dstSrc d)).prev else (s.dst d).showsPrev

/-- The picture that a destination carries in its frame in progress, in its own format, after what its reader replaces and its format
converter (03 R147; 04 R180, R191, R196, R203). -/
def State.carried (s : State) (d : Nat) : Picture :=
  let f := frameFmt (s.frameOn d)
  convertPicture f (s.outFmt d f.colour) (s.shownPicture (s.frameOn d) (s.prevOn d) (s.dst d).patches)

/-- The pictures of the ports of a destination's gang (03 R140, R141). -/
def State.carriedMembers (s : State) (d : Nat) : List Picture := divide (s.dstFmt d).sampling (s.dstFmt d).gang (s.carried d)

/-! ### Recirculation (03 R131) -/

/-- RECIRCULATION_RETURN: src 1024 + k gives back the frame that dst 1024 + k wrote (03 R131). A colour field that the destination takes
from a source it does not have reads as BT.709 or SDR (log entry 142). -/
def State.recirculate (s : State) (k : Nat) : State :=
  let n := 1024 + k
  if !(k < 64 && s.recirc && s.usable .src n) then s
  else if s.internalRun && s.domainOn (s.dst n).domain && (s.dst n).fmt.raster != 0 then
    let f := s.outFmt n (frameFmt (s.frameOn n)).colour
    let g := { f with colour := resolveColour f.colour 0x11 }
    (s.produce n g (.taken g (s.carried n))).attach n (s.dst n).anc
  else s.loseSource n

/-! ### Destination probes (04 R203 to R209) -/

/-- Pixel column of sample `i` of a line, and whether the sample is luma or green: the order of a pixel's samples is that of `lineParts`,
the model's choice (log entry 135) (03 R135; 04 R204, R205). -/
def samplePlace (sampling i : Nat) : Nat × Bool :=
  if sampling ≤ 1 then (i / 4 * 2 + (if i % 4 = 3 then 1 else 0), i % 2 == 1) else (i / 3, i % 3 == 1)

/-- Place in the whole picture of a line and column of gang member `m` (03 R140). -/
def memberPlace (gang m line col : Nat) : Nat × Nat :=
  if gang = 4 then (2 * line + m / 2, (col / 2) * 4 + 2 * (m % 2) + col % 2)
  else if gang = 2 then (line, (col / 2) * 4 + 2 * m + col % 2)
  else (line, col)

/-- A place lies in the exclusion rectangle (04 R204, R208). -/
def excluded (c : ProbeCfg) (line col : Nat) : Bool :=
  c.exX ≤ col && col < c.exX + c.exW && c.exY ≤ line && line < c.exY + c.exH

/-- What the probe gathers over one member: signature register, luma samples examined, luma samples above the level. -/
structure Probed where
  crc : BitVec 32 := 0xFFFFFFFF#32
  seen : Nat := 0
  above : Nat := 0
deriving DecidableEq, Repr

/-- One sample at a probe (04 R204, R205). -/
def probeSample (c : ProbeCfg) (f : Fmt) (m line : Nat) (a : Probed) (iv : Nat × Nat) : Probed :=
  let p := samplePlace f.sampling iv.2
  let q := memberPlace f.gang m line p.1
  if excluded c q.1 q.2 then a
  else
    let v := iv.1 / 2 ^ c.coarse
    let level := if is12bit f.sampling then iv.1 / 4 else iv.1
    { crc := crcByte (crcByte a.crc (BitVec.ofNat 8 v)) (BitVec.ofNat 8 (v / 256))
      seen := if p.2 then a.seen + 1 else a.seen
      above := if p.2 && level > c.blackLevel then a.above + 1 else a.above }

/-- The frame of one gang member at its probe (04 R204, R207). -/
def probeMember (c : ProbeCfg) (f : Fmt) (m : Nat) (lines : List (List Nat)) : Probed :=
  lines.zipIdx.foldl (fun a l => l.1.zipIdx.foldl (probeSample c f m l.2) a) {}

/-- A probe's member is black (04 R205). With black_frames 0, which turns the detection off, no frame is called black, so a black frame
counts toward freeze as any other. DESIGN CHOICE (log entry 146): the spec does not say whether the detection that is off still keeps black
frames out of R206. -/
def probedBlack (c : ProbeCfg) (p : Probed) : Bool := c.blackFrames != 0 && p.above * 1000000 ≤ c.blackPpm * p.seen

/-- The probe of a destination is armed: it holds a route, or is held, and its domain is enabled (04 R203). -/
def State.probeArmed (s : State) (d : Nat) : Bool := s.dstSrc d != 0xFFFF && s.domainOn (s.dst d).domain

/-- The black alarm after a frame (04 R205). -/
def State.judgeBlack (s : State) (d : Nat) (black : Bool) (above : Nat) : State :=
  let x := s.dst d
  let run := if black then x.blackRun + 1 else 0
  let off := if black then 0 else x.notBlack + 1
  let s1 := s.modDst d (fun x => { x with blackRun := run, notBlack := off })
  if s.stands almDstBlack d then
    (if off ≥ x.probe.clearFrames + 1 then (s1.clearAlarm almDstBlack d).event { code := 0x1111, noun := 0x11, index := d } else s1)
  else if black && x.probe.blackFrames != 0 && run ≥ x.probe.blackFrames then
    ((s1.raise almDstBlack d).count cntBlackOnsets d 1).event { code := 0x1110, noun := 0x11, index := d, data := le 4 above }
  else s1

/-- The freeze alarm after a frame (04 R206). -/
def State.judgeFreeze (s : State) (d : Nat) (same : Bool) (sig : Nat) : State :=
  let x := s.dst d
  let run := if same then x.sameRun + 1 else 0
  let off := if same then 0 else x.notSame + 1
  let s1 := s.modDst d (fun x => { x with sameRun := run, notSame := off })
  if s.stands almDstFreeze d then
    (if off ≥ x.probe.clearFrames + 1 then (s1.clearAlarm almDstFreeze d).event { code := 0x1113, noun := 0x11, index := d } else s1)
  else if same && x.probe.freezeFrames != 0 && run ≥ x.probe.freezeFrames then
    ((s1.raise almDstFreeze d).count cntFreezeOnsets d 1).event { code := 0x1112, noun := 0x11, index := d, data := le 4 sig }
  else s1

/-- PROBE_FRAME: the frame that a destination carries has passed its probe (04 R203 to R207). -/
def State.probeFrame (s : State) (d : Nat) : State :=
  if !(s.dstRuns d && s.probeArmed d) then s
  else
    let x := s.dst d
    let ps := (s.carriedMembers d).zipIdx.map (fun m => probeMember x.probe (s.dstFmt d) m.2 m.1)
    let sigs := ps.map (fun p => ~~~p.crc)
    let black := !ps.isEmpty && ps.all (probedBlack x.probe)
    let same := !black && x.signed && sigs == x.sigs.take sigs.length
    let above := (ps.map (·.above)).foldl (· + ·) 0
    let s1 := (s.judgeBlack d black above).judgeFreeze d same ((sigs.headD 0).toNat)
    s1.modDst d (fun x => { x with sigs := (sigs ++ [0, 0, 0, 0]).take 4, signed := true, above := above
                                   sigFrame := (s.domain x.domain).frame.toNat })

/-- A probe that is no longer armed clears its alarms with their events, and counts nothing (04 R203). -/
def State.disarmProbe (s : State) (d : Nat) : State :=
  let s1 := if s.stands almDstBlack d then (s.clearAlarm almDstBlack d).event { code := 0x1111, noun := 0x11, index := d } else s
  let s2 := if s1.stands almDstFreeze d then (s1.clearAlarm almDstFreeze d).event { code := 0x1113, noun := 0x11, index := d } else s1
  s2.modDst d (fun x => { x with blackRun := 0, sameRun := 0, notBlack := 0, notSame := 0, signed := false })

end Sys2Proof.Machine
end

