-- ==== Sys2Proof/Machine/Sluice.lean ====
section
/-! DEFINITION. The Sluice: formats, routes, paths and converters of destinations, the checks of takes and of the staged
settings of Dst and Src, and their queries (spec/03_sluice_crosspoint.md; 04 R192, R200, R208 to R210). -/
namespace Sys2Proof.Machine

/-- What a step of the block answers. -/
abbrev Res := Host.Outcome State Fault Refusal

/-- A unit that a request names. -/
def State.namedUnit (s : State) (k : UnitKind) (n : Nat) (lock : Nat := 0) (item : Nat := 0) : Named :=
  { item := item, present := s.present k n, fenced := s.isFenced k n, lock := lock }

/-! ### Rill rows (06 R267, R268) -/

/-- Row of R267 that carries a format on a Rill output: rate code of the lane, and lanes (06 R267). -/
def rillRow (raster rate sampling : Nat) : Option (Nat × Nat) :=
  let f := if [1, 4, 6, 9, 0xC].contains rate then 1 else 0
  if !rasterAllows raster rate then none
  else if raster = 0x01 || raster = 0x02 then (if sampling = 0 then some (1, 1) else none)
  else if raster = 0x10 || raster = 0x20 then (if sampling = 0 then some (2 + f, 1) else none)
  else if raster = 0x21 then
    if sampling != 0 then (if rate ≤ 5 then some (4 + f, 1) else none)
    else if rate ≤ 5 then some (2 + f, 1) else if rate ≤ 0xA then some (4 + f, 1) else some (6 + f, 1)
  else if raster = 0x30 || raster = 0x31 then
    if sampling != 0 then (if rate ≤ 5 then some (8 + f, 1) else none)
    else if rate ≤ 5 then some (6 + f, 1) else if rate ≤ 0xA then some (8 + f, 1) else some (8 + f, 4)
  else if raster = 0x40 then
    if sampling != 0 then (if rate ≤ 5 then some (8 + f, 4) else none)
    else if rate ≤ 0xA then some (8 + f, 4) else none
  else none

/-- A Rill output carries a format: one row, and the gang of its lanes (06 R268). -/
def rillCarries (f : Fmt) (rate : Nat) : Bool :=
  match rillRow f.raster rate f.sampling with
  | some r => r.2 == f.gang
  | none => false

/-! ### Converters that committed settings hold, and gangs (03 R139, R146, R152, R171) -/

/-- A part changes the route or the format of a destination. -/
def Part.touches (p : Part) (d : Nat) : Bool :=
  p.items.any (fun x => match x with | .route e _ _ => e == d | .dstFormat e _ => e == d | _ => false)

/-- Source and format that a destination has after one more setting. -/
def stepRoute (d : Nat) (a : Nat × Fmt) (x : Setting) : Nat × Fmt :=
  match x with
  | .route e k _ => if e = d then (k, a.2) else a
  | .dstFormat e f => if e = d then (a.1, f) else a
  | _ => a

/-- Source and format of a destination after each committed part that changes them, in the order of their landing. -/
def stepParts (d : Nat) : List Part → Nat × Fmt → List (Nat × Fmt)
  | [], _ => []
  | p :: t, a => p.items.foldl (stepRoute d) a :: stepParts d t (p.items.foldl (stepRoute d) a)

/-- A committed change of a destination that has not landed needs a format converter (03 R146). -/
def State.awaits (s : State) (d : Nat) : Bool :=
  (stepParts d (orderBy (·.frame) (s.parts.filter (·.touches d))) ((s.dst d).src, (s.dst d).fmt)).any (fun a =>
    a.1 != 0xFFFF && needsConv (s.src a.1).fmt a.2)

/-- Lead of the gang to which a destination belongs, or the destination itself (03 R139). -/
def State.dstLead (s : State) (d : Nat) : Nat :=
  match [1, 2, 3].find? (fun j => j ≤ d && (s.dst (d - j)).fmt.gang > j) with | some j => d - j | none => d

/-- Ports of a destination's gang (03 R139). -/
def State.dstPorts (s : State) (d : Nat) : List Nat := (List.range (max 1 (s.dst d).fmt.gang)).map (d + ·)

/-- Owner tag that holds a destination: a lock on a gang lead covers every member (03 R171). -/
def State.dstLock (s : State) (d : Nat) : Nat := (s.dst (s.dstLead d)).lock

/-! ### Checks of the staged settings of Dst and Src, against the states that will be live (02 R100, R103) -/

/-- Steps 4 to 8 of R100 for a route, but for the checks of the formats (03 R132, R133, R139, R144, R171; 13 R550). -/
def State.checkRoute (s : State) (owner d k : Nat) (skipLock : Bool := false) : Option Answer :=
  let asleepDst := s.inService && (s.runMode == .gateway && d ≥ 1024 || (!s.recirc && isCodec d && s.sleeps .clauseCore))
  let asleepSrc := s.inService && k != 0xFFFF && (s.runMode == .gateway && k ≥ 1024 || (!s.recirc && isCodec k && s.sleeps .decodeCore) ||
    (isHeadSrc k && s.sleeps .compositor))
  let x := s.dst d
  if asleepDst || asleepSrc then some (fail stState 0x0014)
  else if d ≥ 1152 || (k ≥ 1152 && k != 0xFFFF) then some (fail stRange 0x0007)
  else match namedFail ([s.namedUnit .dst d (if skipLock then 0 else s.dstLock d)] ++ (if k = 0xFFFF then [] else [s.namedUnit .src k])) owner false with
  | some a => some a
  | none =>
    if s.dstMember d || (k != 0xFFFF && s.srcMember k) then some (fail stInvalid 0x0012)
    else if !s.domainOn x.domain then some (fail stState 0x0018)
    else if (s.heldBy d).isSome then some (fail stBusy 0x00B5)
    else if k != 0xFFFF && s.recirc && isCodec d && k == d then some (fail stInvalid 0x001B)
    else none

/-- The checks of a route's formats, on the state that will be live at its boundary: the destination holds a format, a source that holds
one has its raster, a gang that serves at the domain's rate, and the same transfer (03 R138, R145, R147, R174). -/
def State.finalRoute (s : State) (d k : Nat) : Option Answer :=
  let x := s.dst d
  let f := (s.src k).fmt
  let rate := (s.domain x.domain).rate
  if x.fmt.raster = 0 then some (fail stInvalid 0x001A)
  else if k = 0xFFFF || f.raster = 0 then none
  else if f.raster != x.fmt.raster then some (fail stInvalid 0x0010)
  else if (match gangOf f.raster f.sampling (rateNum rate) (rateDen rate) with | some g => decide (f.gang < g) | none => true) then
    some (fail stRange 0x0011)
  else if resolveColour x.fmt.colour f.colour / 16 != f.colour / 16 then some (fail stInvalid 0x0017)
  else none

/-- Raster, sampling, colour and gang of a format block, at a rate (03 R134 to R138); `source` for a source's format. -/
def checkFormat (f : Fmt) (source : Bool) (num den : Nat) : Option Answer :=
  if (rasterOf f.raster).isNone then some (fail stRange 0x0018)
  else if (samplingWeight f.sampling).isNone then some (fail stRange 0x0019)
  else if !(if source then colourFull f.colour else colourKnown f.colour) then some (fail stRange 0x0019)
  else if !([1, 2, 4].contains f.gang) then some (fail stRange 0x0011)
  else match gangOf f.raster f.sampling num den with
    | some g => if f.gang < g then some (fail stRange 0x0011) else none
    | none => some (fail stRange 0x0011)

/-- A gang of a format lies on a lead of its range of ports (03 R139). A block that breaks this is answered INVALID with reason code 0x0012,
that of a member named. DESIGN CHOICE (log entry 147): the spec names no answer for it. -/
def gangPlaced (k gang : Nat) : Bool := k % gang == 0 && portRangeEnd k ≥ k + gang
where
  /-- First port past the range of R129 and R130 that holds a port. -/
  portRangeEnd (k : Nat) : Nat := if k < 128 then 128 else if k < 1024 then 1024 else if k < 1088 then 1088 else if k < 1112 then 1112 else 1152

/-- Steps 5 to 8 of R100 for a destination format (03 R138, R143, R144; 06 R268; 10 R430, R431; 13 R550). The own formats, routes and
domains of ports that become members of a gang are neither checked nor changed; they stand again when the gang ends. DESIGN CHOICE (log
entry 147): the spec says nothing of them. -/
def State.checkDstFormat (s : State) (owner d : Nat) (f : Fmt) : Option Answer :=
  let x := s.dst d
  let rate := (s.domain x.domain).rate
  match namedFail [s.namedUnit .dst d (s.dstLock d)] owner false with
  | some a => some a
  | none =>
    if s.dstMember d then some (fail stInvalid 0x0012)
    else if (s.heldBy d).isSome then some (fail stBusy 0x00B5)
    else if !s.domainOn x.domain then some (fail stState 0x0009)
    else match checkFormat f false (rateNum rate) (rateDen rate) with
      | some a => some a
      | none =>
        if !rasterAllows f.raster rate then some (fail stRange 0x0018)
        else if !gangPlaced d f.gang then some (fail stInvalid 0x0012)
        else if isRill d && !rillCarries f rate then some (fail stRange 0x0040)
        else if isCodec d && !s.recirc && f.sampling != 0 then some (fail stRange 0x0080)
        else none

/-- Steps 5 to 8 of R100 for a domain assignment of a destination (03 R152; 10 R431; 13 R550). -/
def State.checkDstDomain (s : State) (owner d e : Nat) : Option Answer :=
  let x := s.dst d
  match namedFail [s.namedUnit .dst d (s.dstLock d)] owner false with
  | some a => some a
  | none =>
    if s.dstMember d then some (fail stInvalid 0x0012)
    else if (s.heldBy d).isSome then some (fail stBusy 0x00B5)
    else if !s.domainOn x.domain then some (fail stState 0x0009)
    else if !within e 1 8 then some (fail stRange 0x0018)
    else if x.fmt.raster != 0 && !rasterAllows x.fmt.raster (s.domain e).rate then some (fail stRange 0x0018)
    else none

/-- Steps 5 to 8 of R100 for LOCK and UNLOCK on a destination (02 R116; 03 R139, R171). -/
def State.checkLockDst (s : State) (owner d : Nat) : Option Answer :=
  match namedFail [s.namedUnit .dst d (s.dstLock d)] owner false with
  | some a => some a
  | none =>
    if s.dstMember d then some (fail stInvalid 0x0012)
    else if !s.domainOn (s.dst d).domain then some (fail stState 0x0009)
    else none

/-- A loss action block is in range (04 R192). -/
def lossOk (c : LossCfg) : Bool :=
  c.action ≤ 2 && (c.action != 2 || c.pattern ≤ 3) &&
  (c.fbFrames == 0 || ((c.fbAction == 1 || c.fbAction == 2) && (c.fbAction != 2 || c.fbPattern ≤ 3)))

/-- Steps 5 to 8 of R100 for a loss action (04 R192). -/
def State.checkSrcLoss (s : State) (k : Nat) (c : LossCfg) : Option Answer :=
  match namedFail [s.namedUnit .src k] 0 false with
  | some a => some a
  | none => if s.srcMember k then some (fail stInvalid 0x0012) else if lossOk c then none else some (fail stRange 0x0023)

/-- Steps 5 to 8 of R100 for an input format override (04 R200). -/
def State.checkOverride (s : State) (k : Nat) (c : OverrideCfg) : Option Answer :=
  match namedFail [s.namedUnit .src k] 0 false with
  | some a => some a
  | none =>
    if !isRill k then some (fail stInvalid 0x0021)
    else if s.srcMember k then some (fail stInvalid 0x0012)
    else if c.gang = 4 && k % 4 != 0 then some (fail stInvalid 0x0024)
    else if c.mode > 2 || !([0, 1, 4].contains c.gang) then some (fail stRange 0x0023)
    else if c.mode != 0 && ((samplingWeight c.sampling).isNone || !colourFull c.colour) then some (fail stRange 0x0023)
    else none

/-! ### Landings (03 R153 to R155, R160, R173) -/

/-- Rate code of the lane that a Rill output's format runs at (06 R267). -/
def State.outRate (s : State) (d : Nat) : Nat :=
  match rillRow (s.dstFmt d).raster (s.domain (s.dst d).domain).rate (s.dstFmt d).sampling with
  | some r => r.1
  | none => 0

/-- A destination's landing: its frame, and the end of a deferral (03 R158). -/
def State.noteDst (s : State) (d frame : Nat) : State :=
  s.modDst d (fun x => { x with lastFrame := frame, deferred := false })

/-- Destination frames of the loss action that a destination newly routed to a lost source has missed (04 R191). -/
def State.lossElapsed (s : State) (d k : Nat) : Nat :=
  let p := periodPs (s.domain (s.dst d).domain).rate
  if (s.src k).signal || p = 0 || k = 0xFFFF || !(s.src k).ever then 0 else (s.nowNs - (s.src k).lostNs) * 1000 / p

/-- A destination switches at the boundary itself: its raster is its domain's reference raster (01 R29; 03 R160). -/
def State.onReference (s : State) (d : Nat) : Bool := (s.dst d).fmt.raster == (s.domain (s.dst d).domain).raster

/-- A route lands: the live bank takes it, with the converter taken at its commit; buffers that no route needs any more go back to their
pool. A route that is cleared ends the loss action (03 R146, R153, R154, R160; 04 R185). -/
def State.landRoute (s : State) (d k : Nat) (sync : Bool) : State :=
  let x := s.dst d
  let old := x.src
  if old == k && x.sync == sync then s
  else
    let s1 := s.modDst d (fun x => { x with src := k, sync := sync, lastSeq := if old == k then x.lastSeq else 0
                                            lossFrames := if old == k then x.lossFrames else s.lossElapsed d k
                                            showLoss := x.showLoss && k != 0xFFFF
                                            switchDue := !s.onReference d })
    let s2 := if k == 0xFFFF then s1.disarmProbe d else s1
    (s2.when (old != 0xFFFF) (fun t => t.fitRing old)).when (k != 0xFFFF) (fun t => t.fitRing k)

/-- Rate hook writes of a Rill output that have not finished when its rate changes (06 R296). -/
def State.hookLate (s : State) (k : Nat) : State :=
  let l := s.lane k
  if l.bind.flags.getLsbD 0 && l.hookLeft != 0 then
    (s.count cntHookLate k 1).event { code := 0x2015, noun := 0x20, index := k, data := le 1 l.hookLeft }
  else s

/-- A running Rill output changes rate when its row of R267 is another one than `old` (06 R269, R296). -/
def State.retune (s : State) (d old : Nat) : State :=
  if isRill d && s.inService && s.outRate d != old then
    ((s.modLane (256 + d) (fun l => { l with mode := s.outRate d })).emit (.lineRate (256 + d) (s.outRate d))).hookLate (256 + d)
  else s

/-- A destination format lands; a running Rill output changes rate (03 R143; 06 R269, R296). A probe compares no signatures across a change
of the format (04 R206). -/
def State.landDstFormat (s : State) (d : Nat) (f : Fmt) : State :=
  let s1 := s.modDst d (fun x => { x with fmt := f, switchDue := x.src != 0xFFFF && f.raster != (s.domain x.domain).raster
                                          signed := x.signed && f == x.fmt })
  s1.retune d (s.outRate d)

/-- A destination's domain assignment lands: its gang moves whole (03 R152; 04 R184, R185). -/
def State.landDstDomain (s : State) (d e : Nat) : State :=
  let s1 := s.each (s.dstPorts d) (fun t k => t.modDst k (fun x => { x with domain := e }))
  let s2 := s1.modDst d (fun x => { x with switchDue := x.src != x.onAir && x.fmt.raster != (s.domain e).raster })
  let s3 := if (s2.dst d).src != 0xFFFF then s2.fitRing (s2.dst d).src else s2
  if s3.probeArmed d then s3 else s3.disarmProbe d

/-- The path of a route at a boundary of its domain; `members` are the sources that belonged to the domain at the swap
decision (03 R155; 04 R179, R181); the route of a held destination is not served (13 R550). -/
def State.pathOf (s : State) (members : List Nat) (d : Nat) : Nat :=
  let x := s.dst d
  if x.src = 0xFFFF || (s.heldBy d).isSome then 0
  else if s.recirc && isCodec x.src then 3
  else if isExternal x.src && members.contains x.src && !x.sync then 1
  else 2

/-- Sources that are members of a domain now (04 R177). -/
def State.membersOf (s : State) (dom : Nat) : List Nat :=
  (s.srcs.filter (fun e => dom ≥ 1 && e.2.members.getLsbD (dom - 1))).map (·.1)

/-- The path of a destination is chosen; a change of path of a route it already carried repeats or drops a frame
(03 R155; 04 R187). -/
def State.choosePath (s : State) (members : List Nat) (d : Nat) : State :=
  let x := s.dst d
  let p := s.pathOf members d
  let s1 := s.modDst d (fun x => { x with path := p, lastSeq := if x.path = p then x.lastSeq else 0 })
  if x.path = p || x.onAir != x.src then s1
  else
    let s2 := if x.path = 1 && p = 2 then s1.count cntFsRepeat d 1 else if x.path = 2 && p = 1 then s1.count cntFsDrop d 1 else s1
    if x.path = 0 || p = 0 then s2
    else s2.event { code := 0x1114, noun := 0x11, index := d, domain := x.domain, frame := (s.domain x.domain).frame.toNat,
                    data := le 1 x.path ++ le 1 p }

/-- The converter a destination's live route uses is attached, and one whose need has ended returns to the pool
(03 R146, R160). -/
def State.settleConv (s0 : State) (d : Nat) : State :=
  let c := s0.convOf d
  let s := if c != 0xFF && !s0.usable .converter c then ((s0.dropConv d).takeConv d).getD (s0.dropConv d) else s0
  if s.convNeeded d then s.modDst d (fun x => { x with conv := s.convOf d })
  else (if s.awaits d then s else s.dropConv d).modDst d (fun x => { x with conv := 0xFF })

/-- A destination whose unit or port the mode does not serve (01 R47; 03 R133, R174). -/
def State.dstUnserved (s : State) (d : Nat) : Bool :=
  d ≥ 1024 && (s.runMode == .gateway || (isCodec d && !s.recirc && s.sleeps .clauseCore))

/-- A source whose port or producer the mode does not serve: a route that uses it shows the loss action from the next boundary (01 R44,
R47; 03 R174). -/
def State.srcUnserved (s : State) (k : Nat) : Bool :=
  k != 0xFFFF && k ≥ 1024 && (s.runMode == .gateway || (isCodec k && !s.recirc && s.sleeps .decodeCore) || (isHeadSrc k && s.sleeps .compositor))

/-- Everything a boundary of domain `dom` does at one destination of it after the landings; one whose domain assignment has just landed is
settled by the members of its new domain (03 R155, R160, R173; 01 R29, R47). The shadow bank takes the live entry (03 R164). -/
def State.settleDst (dom : Nat) (members : List Nat) (s : State) (d : Nat) : State :=
  let s1 := (s.settleConv d).judgeMismatch true d
  let now := (s1.dst d).domain
  let s2 := s1.choosePath (if now = dom then members else s1.membersOf now) d
  s2.modDst d (fun x => { x with switchDue := x.switchDue && !s2.onReference d
                                 onAir := if s2.onReference d then x.src else x.onAir
                                 conv := if s2.convNeeded d then s2.convOf d else 0xFF
                                 stopped := s2.inService && s2.dstUnserved d
                                 cut := s2.inService && s2.srcUnserved x.src
                                 shadow := (x.src, x.sync) })

/-- A decode output that the mode stops loses its signal when the boundary of the last destination that it feeds has passed
(01 R47). -/
def State.stopDecode (s : State) : State :=
  s.each ((s.srcs.filter (fun e => e.2.signal && isCodec e.1 && !s.recirc && s.inService && s.srcUnserved e.1 &&
    (s.fedBy e.1).all (fun d => (s.dst d).cut))).map (·.1)) State.loseSource

/-- DEST_SWITCHING_LINE: a destination on another raster switches at its own switching line (01 R29; 03 R160). -/
def State.switchingLine (s : State) (d : Nat) : State :=
  if (s.dst d).switchDue then s.modDst d (fun x => { x with switchDue := false, onAir := x.src }) else s

/-! ### Requests that are not staged -/

/-- Committed settings of a destination that have not landed (03 R158). -/
def State.pendingDst (s : State) (d : Nat) : Nat :=
  (s.parts.map (fun p => (p.items.filter (fun x => match x with
    | .route e _ _ => e == d | .dstFormat e _ => e == d | .dstDomain e _ => e == d
    | .lockDst e _ => e == d | .unlockDst e _ => e == d | _ => false)).length)).foldl (· + ·) 0

/-- Block of QUERY on Dst with selector 0x01 (03 R158; 13 R550). -/
def dstBlock (s : State) (d : Nat) : Bytes :=
  let x := s.dst d
  let f := s.dstFmt d
  layout 24 [(0, le 2 (s.dstSrc d)), (2, le 1 (if (s.heldBy d).isSome then 1 else x.path)),
    (3, le 1 x.conv), (4, le 1 x.domain), (5, le 1 x.lock), (6, le 1 f.gang),
    (7, le 1 (bitsOf [s.stands almFormatMismatch d, x.deferred])), (8, le 1 f.raster), (9, le 1 f.sampling),
    (10, le 1 f.colour), (12, le 4 (s.pendingDst d)), (16, le 8 x.lastFrame)]

/-- QUERY on Dst, selector 0x01 (03 R158). -/
def specQueryDst : ReqSpec where
  verb := 0x01
  noun := 0x11
  sel := some 0x01
  len := (· == 1)
  index := (· < 1152)
  named := fun s c => [s.namedUnit .dst c.r.index]
  body := fun c s => if s.dstMember c.r.index then (fail stInvalid 0x0012, s) else (okWith (dstBlock s c.r.index), s)

/-- Block of QUERY on Src with selector 0x01 (03 R159). -/
def srcBlock (s : State) (k : Nat) : Bytes :=
  let x := s.src k
  layout 16 [(0, le 1 x.fmt.raster), (1, le 1 x.fmt.sampling), (2, le 1 x.fmt.colour), (3, le 1 x.fmt.gang),
    (4, le 1 (s.srcDomain k)), (5, le 1 (if x.signal then 1 else 0)), (6, le 2 (s.fedBy k).length)]

/-- QUERY on Src, selector 0x01 (03 R159). -/
def specQuerySrc : ReqSpec where
  verb := 0x01
  noun := 0x10
  sel := some 0x01
  len := (· == 1)
  index := (· < 1152)
  named := fun s c => [s.namedUnit .src c.r.index]
  body := fun c s => if s.srcMember c.r.index then (fail stInvalid 0x0012, s) else (okWith (srcBlock s c.r.index), s)

/-- A route from a source is live or committed (03 R150). -/
def State.srcRouted (s : State) (k : Nat) : Bool := !(s.fedBy k).isEmpty || s.committedRoutes.any (fun r => r.2.1 == k)

/-- SET on Src with selector 0x01: the format of a host playout source or a generator (03 R138, R148 to R150). -/
def specSetSrcFormat : ReqSpec where
  verb := 0x02
  noun := 0x10
  sel := some 0x01
  len := (· == 8)
  form := fun b => zeroFrom b 5 3
  index := (· < 1152)
  named := fun s c => [s.namedUnit .src c.r.index]
  body := fun c s =>
    let k := c.r.index
    let f := decFmt c.block
    let d := s.srcDomain k
    let rate := if d != 0xFF && s.domainOn d then (s.domain d).rate else 0
    if !within k 1090 1151 then (fail stInvalid 0, s)
    else if s.srcMember k then (fail stInvalid 0x0012, s)
    else match checkFormat f true (rateNum rate) (rateDen rate) with
      | some a => (a, s)
      | none =>
        if rate != 0 && !rasterAllows f.raster rate then (fail stRange 0x0018, s)
        else if !(k % f.gang == 0 && k + f.gang ≤ (if k < 1114 then 1114 else 1152)) then (fail stInvalid 0x0012, s)
        else if s.srcRouted k then (fail stBusy 0, s)
        else (okWith [], s.modSrc k (fun x => { x with fmt := f }))

/-- SET on Src with selector 0x02: pattern and domain of a generator, from its next frame start (03 R139, R151). A domain whose rate does not
list the generator's raster is accepted, now or when the domain's rate changes, and frames are produced. DESIGN CHOICE (log entry 148): R134
says that a raster is used only at the rates listed and names no answer here. -/
def specSetSrcGenerator : ReqSpec where
  verb := 0x02
  noun := 0x10
  sel := some 0x02
  len := (· == 8)
  form := fun b => zeroFrom b 3 5
  index := (· < 1152)
  named := fun s c => [s.namedUnit .src c.r.index]
  body := fun c s =>
    let k := c.r.index
    let g := decGenCfg c.block
    if !isGenerator k then (fail stInvalid 0x001C, s)
    else if s.srcMember k then (fail stInvalid 0x0012, s)
    else if !((g.pattern ≤ 4 || g.pattern == 0xFF) && within g.domain 1 8) then (fail stRange 0x001D, s)
    else (okWith [], s.modSrc k (fun x =>
      if x.making != .empty then { x with genNext := some g } else { x with gen := g, genNext := none }))

/-- Greatest run of frames inside 6 lines that QUERY reports (04 R210). -/
def State.stableRun (s : State) (k : Nat) : Nat :=
  let x := s.src k
  match lowestMember x.members with
  | some d => x.runs.getD (d - 1) 0
  | none => ((List.range 8).filter (fun i => s.domainOn (i + 1) && periodMatches (s.domain (i + 1)).rate x.periodPs)).foldl
      (fun m i => max m (x.runs.getD i 0)) 0

/-- Block of QUERY on Src with selector 0x10 (04 R210). -/
def alignmentBlock (s : State) (k : Nat) : Bytes :=
  let x := s.src k
  let isOver := x.ovr.mode == 1 || (x.ovr.mode == 2 && x.vpid.isNone)
  layout 24 [(0, match lowestMember x.members with | some d => leInt 2 (x.offsets.getD (d - 1) 0) | none => le 2 0x8000),
    (2, le 1 (s.srcDomain k)), (3, le 1 x.members.toNat), (4, le 1 x.ring),
    (5, le 1 (bitsOf [x.signal, x.vpid.isSome, isRill k && isOver, s.stands almVpidMismatch k, s.stands almLinkGroup k])),
    (6, le 2 (min 65535 (s.stableRun k))), (8, le 4 (x.vpid.getD 0).toNat), (16, le 8 x.written)]

/-- QUERY on Src, selector 0x10 (04 R210). -/
def specQuerySrcAlignment : ReqSpec where
  verb := 0x01
  noun := 0x10
  sel := some 0x10
  len := (· == 1)
  index := (· < 1152)
  named := fun s c => [s.namedUnit .src c.r.index]
  body := fun c s => if s.srcMember c.r.index then (fail stInvalid 0x0012, s) else (okWith (alignmentBlock s c.r.index), s)

/-- A probe block is in range, its rectangle inside the live format or, without one, inside 7,680 x 4,320 (04 R208). -/
def probeOk (c : ProbeCfg) (f : Fmt) : Bool :=
  let wh := match rasterOf f.raster with | some r => (r.width, r.height) | none => (7680, 4320)
  c.coarse ≤ 6 && c.blackLevel ≤ 1023 && c.blackPpm ≤ 1000000 &&
  (c.exW == 0 || c.exH == 0 || (c.exX + c.exW ≤ wh.1 && c.exY + c.exH ≤ wh.2))

/-- SET on Dst with selector 0x10: the probe of a destination (04 R208). -/
def specSetDstProbe : ReqSpec where
  verb := 0x02
  noun := 0x11
  sel := some 0x10
  len := (· == 24)
  form := fun b => u8 b 1 == 0 && zeroFrom b 14 2
  index := (· < 1152)
  named := fun s c => [s.namedUnit .dst c.r.index]
  body := fun c s =>
    let d := c.r.index
    if s.dstMember d then (fail stInvalid 0x0012, s)
    else if !probeOk (decProbeCfg c.block) (s.dstFmt d) then (fail stRange 0x0022, s)
    else (okWith [], s.modDst d (fun x => { x with probe := decProbeCfg c.block }))

/-- Block of QUERY on Dst with selector 0x10 (04 R209). -/
def probeBlock (s : State) (d : Nat) : Bytes :=
  let x := s.dst d
  let path := if (s.heldBy d).isSome then 1 else x.path
  layout 40 [(0, le 4 (x.sigs.getD 0 0).toNat),
    (4, le 1 (bitsOf [s.stands almDstBlack d, s.stands almDstFreeze d, x.showLoss, s.probeArmed d])), (5, le 1 path),
    (6, le 2 (min 65535 (max x.blackRun x.sameRun))), (8, le 8 x.sigFrame), (16, le 4 x.above),
    (20, le 4 (if path = 1 || x.src = 0xFFFF then 0 else (s.src x.src).ring)), (24, le 4 (x.sigs.getD 1 0).toNat),
    (28, le 4 (x.sigs.getD 2 0).toNat), (32, le 4 (x.sigs.getD 3 0).toNat)]

/-- QUERY on Dst, selector 0x10 (04 R209). -/
def specQueryDstProbe : ReqSpec where
  verb := 0x01
  noun := 0x11
  sel := some 0x10
  len := (· == 1)
  index := (· < 1152)
  named := fun s c => [s.namedUnit .dst c.r.index]
  body := fun c s => if s.dstMember c.r.index then (fail stInvalid 0x0012, s) else (okWith (probeBlock s c.r.index), s)

end Sys2Proof.Machine
end

