-- ==== Sys2Proof/Machine/Parts.lean ====
section
/-! DEFINITION. The parts of committed requests that have not landed: landing events and the cancelling of settings
(01 R35, R60; 02 R93, R94). -/
namespace Sys2Proof.Machine

/-- A landing event of a part (02 R92 to R94). -/
def landingEv (p : Part) (status frame n : Nat) : Ev :=
  { code := 0x0101, noun := p.noun, index := p.index, domain := p.domain, status := status, frame := frame, reqSeq := p.seq, cookie := p.cookie,
    data := le 4 n, always := true }

/-- Converters that no committed or live setting needs return to the pool, and so do ring buffers (03 R146; 04 R185). -/
def State.release (s : State) : State :=
  let s1 := { s with convs := s.convs.filter (fun e => s.awaits (e.2 - 1) || s.convNeeded (e.2 - 1)) }
  s1.each ((s1.srcs.filter (fun e => e.2.ring > 3)).map (·.1)) (fun t k => t.modSrc k (fun x => { x with ring := min x.ring (t.ringWanted k) }))

/-- Settings for which `f` holds leave the parts that carry them; each part that loses settings is reported with status
`STATE` and their number, and a part left without settings is gone (01 R35, R60). -/
def State.cancelSettings (s : State) (f : Part → Setting → Bool) : State :=
  let hit := s.parts.filter (fun p => p.items.any (f p))
  let left := s.parts.map (fun p => { p with items := p.items.filter (fun x => !f p x) })
  let gone := fun (p : Part) => p.items.isEmpty && hit.any (fun h => h.order == p.order && h.domain == p.domain)
  let s1 := { s with parts := left.filter (fun p => !gone p) }
  s1.release.each hit (fun t p => t.event (landingEv p stState p.frame (p.items.filter (f p)).length))

/-- Every setting of a domain is cancelled: its rate changes or it is disabled (01 R60). -/
def State.cancelDomain (s : State) (d : Nat) : State :=
  let s1 := s.cancelSettings (fun p _ => p.domain == d)
  ({ s1 with parts := s1.parts.filter (fun p => p.domain != d) }).release

/-- Committed settings of a kind that have not landed (03 R158). -/
def State.pendingWhere (s : State) (f : Setting → Bool) : Nat :=
  (s.parts.map (fun p => (p.items.filter f).length)).foldl (· + ·) 0

end Sys2Proof.Machine
end

