-- ==== Sys2Proof/Machine/Lateral.lean ====
section
/-! DEFINITION. Lateral: audio channels, ports, converters, routes, the zero-crossing rule, non-audio payload and AAC
programmes (spec/05_lateral_audio.md). -/
namespace Sys2Proof.Machine

/-! ### Channels and ports (05 R214 to R217) -/

/-- Serial port or AES3 port, as an AudioPort index, that carries channel `k` of the inputs, none for other channels. -/
def portOfAin (k : Nat) : Option Nat :=
  if k < 2048 then none else if k < 4096 then some ((k - 2048) / 64) else if k < 4128 then some (32 + (k - 4096) / 2) else none

/-- Serial port or AES3 port that carries channel `k` of the outputs. -/
def portOfAout (k : Nat) : Option Nat :=
  if k < 2048 then none else if k < 4096 then some ((k - 2048) / 64) else if k < 4128 then some (48 + (k - 4096) / 2) else none

/-- Reach of an audio port (05 R216). -/
def aportReach (p : Nat) : Nat := if p < 32 then p / 8 else (p - 32) % 16 / 4

/-- An audio port is present (05 R216). -/
def State.aportPresent (s : State) (p : Nat) : Bool := p < 64 && reachFitted s.fused.part (aportReach p)

/-- Reach of a network channel (05 R216). -/
def audioReach (k : Nat) : Nat := (k - 4128) / 3064

/-- An audio input is present (05 R216). -/
def State.ainPresent (s : State) (k : Nat) : Bool :=
  if k < 2048 then s.present .rillIn (k / 16)
  else match portOfAin k with
    | some p => s.aportPresent p
    | none => k < 16384 && reachFitted s.fused.part (audioReach k)

/-- An audio output is present (05 R216). -/
def State.aoutPresent (s : State) (k : Nat) : Bool :=
  if k < 2048 then s.present .rillOut (k / 16)
  else match portOfAout k with
    | some p => s.aportPresent p
    | none => k < 16384 && reachFitted s.fused.part (audioReach k)

/-- A port runs at 96 kHz (05 R223, R227). -/
def State.aport96 (s : State) (p : Nat) : Bool :=
  let c := (s.aport p).cfg
  if p < 32 then c.rate == 2 else c.format == 1

/-- The even number `k` names a 96 kHz input channel (05 R215). -/
def State.ain96 (s : State) (k : Nat) : Bool :=
  k % 2 == 0 && (match portOfAin k with | some p => s.aport96 p | none => (s.ain k).rate96)

/-- The even number `k` names a 96 kHz output channel (05 R215). -/
def State.aout96 (s : State) (k : Nat) : Bool :=
  k % 2 == 0 && (match portOfAout k with | some p => s.aport96 p | none => (s.aout k).rate96)

/-- The number names the odd half of a 96 kHz input (05 R215). -/
def State.ainOdd (s : State) (k : Nat) : Bool := k % 2 == 1 && s.ain96 (k - 1)
/-- The number names the odd half of a 96 kHz output (05 R215). -/
def State.aoutOdd (s : State) (k : Nat) : Bool := k % 2 == 1 && s.aout96 (k - 1)

/-- Domain of an audio output (05 R237). -/
def State.aoutDomain (s : State) (k : Nat) : Nat :=
  if k < 2048 then (s.dst (k / 16)).domain
  else match portOfAout k with
    | some p => (s.aport p).cfg.domain
    | none => (s.aout k).domain

/-! ### Audio sets and follow settings (05 R239) -/

/-- First ain of the audio set of a source, none when it has none (05 R239; 07 R313). -/
def State.audioBase (s : State) (k : Nat) : Option Nat :=
  if isRill k then some (16 * k)
  else if isNet k then
    match s.flows.find? (fun e => e.2.cfg.kind == 0x01 && e.2.cfg.flags.getLsbD 0 && e.1 < 8192 && e.2.cfg.binding == k) with
    | some e => if u16 e.2.cfg.params 8 = 0xFFFF then none else some (u16 e.2.cfg.params 8)
    | none => none
  else none

/-- Input of an aout by its settings: its route, or the followed destination's source (05 R235, R239). A followed input whose rate is not the
aout's is taken all the same: the spec gives no outcome where a follow brings it, and R236 refuses unequal rates only of a request (DESIGN
CHOICE, log entry 160). -/
def State.aoutInput (s : State) (k : Nat) : Nat :=
  let a := s.aout k
  if a.follow.dst != 0xFFFF then
    let src := (s.dst a.follow.dst).src
    if src = 0xFFFF then 0xFFFF else match s.audioBase src with | some b => b + a.follow.channel | none => 0xFFFF
  else a.route.ain

/-- Gain an aout is to have. -/
def State.aoutGain (s : State) (k : Nat) : Int :=
  if (s.aout k).follow.dst != 0xFFFF then (s.aout k).follow.gain else (s.aout k).route.gain

/-- MUTE and INVERT an aout is to have. -/
def State.aoutFlags (s : State) (k : Nat) : BitVec 8 :=
  if (s.aout k).follow.dst != 0xFFFF then (s.aout k).follow.flags else (s.aout k).route.flags

/-- Outputs that a live input feeds. -/
def State.aoutsOn (s : State) (a : Nat) : List Nat := (s.aouts.filter (fun e => e.2.live == a)).map (·.1)

/-! ### Converters (05 R231 to R234) -/

/-- Slot of a serial port that carries the channel at an offset of its numbers: half the offset at 96 kHz (05 R214, R224). -/
def State.slotOf (s : State) (p o : Nat) : Nat := if s.aport96 p then o / 2 else o

/-- A slot is active in one direction of a serial port: by its mask, or below slots for the reset mask (05 R226). -/
def AportSt.active (a : AportSt) (out : Bool) (slot : Nat) : Bool :=
  slot < a.cfg.slots && match (if out then a.maskOut else a.maskIn) with | some m => m.getLsbD slot | none => true

/-- Channel numbers that an audio entry takes (05 R230; 07 R313). -/
def audioCount (c : FlowCfg) : Nat := if c.kind = 0x02 then u8 c.params 0 * max 1 (u8 c.params 1) else 2 * u8 c.params 0

/-- An entry is an enabled audio entry whose channels include a number (05 R230). -/
def carriesAudio (c : FlowCfg) (k : Nat) : Bool :=
  c.flags.getLsbD 0 && (c.kind == 0x02 || c.kind == 0x03) && c.binding ≤ k && k < c.binding + audioCount c

/-- The unit behind an input can carry samples: a Rill input with a signal of ST 292-1 or faster, each lane of a gang for its own channels;
an enabled port with a good clock and an unmasked slot; an enabled receive entry (05 R220, R224, R226, R231). -/
def State.ainFed (s : State) (k : Nat) : Bool :=
  if k < 2048 then (s.src (k / 16)).signal && (s.src (k / 16)).fmt.raster ≥ 0x10
  else match portOfAin k with
    | some p =>
      let a := s.aport p
      a.cfg.enable == 1 && !a.clockBad && (p ≥ 32 || a.active false (s.slotOf p ((k - 2048) % 64)))
    | none => s.flows.any (fun e => e.1 < 8192 && carriesAudio e.2.cfg k)

/-- Every aout that carries an input searches for its stop among the `fill` samples still buffered (05 R233, R244, R246). -/
def State.stopAouts (s : State) (k fill : Nat) : State :=
  s.each (s.aoutsOn k) (fun t a => t.modAout a (fun x =>
    { x with stopping := true, starting := false, oldIn := k, oldGain := x.gain, oldFlags := x.flags, stopFill := some fill, searchNs := t.nowNs }))

/-- Every aout that carries an input starts again, at the first sample after the return (05 R234). -/
def State.startAouts (s : State) (k : Nat) : State :=
  s.each (s.aoutsOn k) (fun t a => t.modAout a (fun x => { x with starting := true, searchNs := sampleNs (sampleFrom t.nowNs) }))

/-- The end of a stay in Slip (05 R232, R256). -/
def State.leaveSlip (s : State) (k : Nat) : State :=
  if (s.ain k).state = .slip then
    (s.clearAlarm almAudioSlip k).event
      { code := 0x1813, noun := 0x18, index := k, data := le 8 (s.cnt cntAudioSlip k - (s.ain k).slipsAt) }
  else s

/-- Code of a converter state (05 R253). -/
def AinState.code : AinState → Nat
  | .noSignal => 0 | .tracking => 1 | .locked => 2 | .slip => 3

/-- An input enters No signal from another state: alarm, counter, event, and a stop at each output (05 R233, R234). -/
def State.loseAin (s : State) (k : Nat) : State :=
  let x := s.ain k
  if x.state = .noSignal then s.modAin k (fun x => { x with present := 0 })
  else
    let s1 := (s.leaveSlip k).modAin k (fun x => { x with state := .noSignal, lockRun := 0, slipRun := 0, present := 0, fill := 8 })
    let s2 := ((s1.raise almAudioLoss k).count cntAudioLoss k 1).event
      { code := 0x1810, noun := 0x18, index := k, data := le 1 x.state.code }
    s2.stopAouts k (min 16 x.fill)

/-- An input enters Slip (05 R231, R256). -/
def State.enterSlip (s : State) (k : Nat) (ratio : Int) : State :=
  let s1 := s.modAin k (fun x => { x with state := .slip, slipRun := 0, lockRun := 0, slipsAt := s.cnt cntAudioSlip k })
  (s1.raise almAudioSlip k).event { code := 0x1812, noun := 0x18, index := k, data := leInt 4 ratio }

/-- An input leaves No signal (05 R231, R234). -/
def State.gainAin (s : State) (k : Nat) (ratio : Int) : State :=
  let s1 := (s.clearAlarm almAudioLoss k).event { code := 0x1811, noun := 0x18, index := k, data := leInt 4 ratio }
  let s2 := s1.modAin k (fun x => { x with present := 0, lockRun := 0, fill := 8 })
  let s3 := if withinI ratio (-1000000) 1000000 then s2.modAin k (fun x => { x with state := .tracking }) else s2.enterSlip k ratio
  s3.startAouts k

/-- The fill of a converter's buffer: 2 to 14 samples in Slip, at most 16 otherwise (05 R231, R232). -/
def fillOf (st : AinState) (n : Nat) : Nat := if st = .slip then max 2 (min 14 n) else min 16 n

/-- A ratio beyond 1,000 ppm, or a jump that moves the phase error beyond 8 samples (05 R231, R233). -/
def slips (ratio phase : Int) : Bool := !withinI ratio (-1000000) 1000000 || !withinI phase (-8) 8

/-- CONVERTER_MEASURE: one measurement of the ratio of an input, every 100 ms, with the phase error of its converter and the fill of its
buffer (05 R231 to R234). -/
def State.measureAin (s : State) (k : Nat) (ratio phase : Int) (fill : Nat) : State :=
  if !(s.ainPresent k && !s.ainOdd k && s.inService) then s
  else
    let s1 := s.modAin k (fun x => { x with ratio := ratio, fill := fillOf x.state fill })
    let x := s1.ain k
    if !(s1.ainFed k && withinI ratio (-10000000) 10000000) then s1.loseAin k
    else
      let lockRun := if withinI ratio (-1000) 1000 then x.lockRun + 1 else 0
      let slipRun := if withinI ratio (-900000) 900000 then x.slipRun + 1 else 0
      match x.state with
      | .noSignal =>
        if x.present ≥ 1 then s1.gainAin k ratio else s1.modAin k (fun x => { x with present := x.present + 1 })
      | .tracking =>
        if slips ratio phase then s1.enterSlip k ratio
        else s1.modAin k (fun x => { x with lockRun := lockRun, state := if lockRun ≥ 10 then .locked else .tracking })
      | .locked =>
        if slips ratio phase then s1.enterSlip k ratio
        else if !withinI ratio (-5000) 5000 then s1.modAin k (fun x => { x with state := .tracking, lockRun := 0 })
        else s1
      | .slip =>
        if slipRun ≥ 10 then (s1.leaveSlip k).modAin k (fun x => { x with state := .tracking, lockRun := 0, slipRun := 0 })
        else s1.modAin k (fun x => { x with slipRun := slipRun })

/-- AUDIO_SLIP: the buffer of a converter in Slip or Locked reaches a limit (05 R232). -/
def State.slipAin (s : State) (k : Nat) : State :=
  let x := s.ain k
  if x.state = .slip || x.state = .locked then
    (s.modAin k (fun x => { x with fill := 8, lockRun := 0, state := if x.state = .locked then .tracking else x.state })).count
      cntAudioSlip k 1
  else s

/-! ### Outputs at their audio boundary (05 R243 to R246, R249, R251) -/

/-- Device time of the audio boundary that a landing brings: the first sample instant at or after the switching line of the destination of an
embedded channel, else at or after the landing (05 R243; 01 R28, R29). -/
def State.audioAt (s : State) (k : Nat) : Nat :=
  let d := s.dstLead (k / 16)
  let x := s.domain (s.dst d).domain
  let raster := (s.dst d).fmt.raster
  let line := if k < 2048 && raster != 0 && x.rate != 0 && !s.onReference d then
      (((boundaryNs x.rate raster (frameFrom x.rate raster ((s.nowNs : Int) - x.stepDelta).toNat) : Nat) : Int) + x.stepDelta).toNat
    else s.nowNs
  sampleNs (sampleFrom line)

/-- The output carries an input's word length unchanged (05 R248). -/
def State.wideOut (s : State) (k : Nat) : Bool :=
  if k < 2048 then true
  else match portOfAout k with
    | some p => if p < 32 then (s.aport p).cfg.dataBits == 24 && (s.aport p).cfg.slotBits ≥ 24 else true
    | none => s.flows.any (fun e => e.1 ≥ 8192 && e.2.cfg.flags.getLsbD 0 && e.2.cfg.binding ≤ k &&
        ((e.2.cfg.kind == 0x02 && u8 e.2.cfg.params 2 == 24 && k < e.2.cfg.binding + u8 e.2.cfg.params 0 * max 1 (u8 e.2.cfg.params 1)) ||
         (e.2.cfg.kind == 0x03 && k < e.2.cfg.binding + 2 * u8 e.2.cfg.params 0)))

/-- The pair of outputs that `k` belongs to carries a pair of inputs bit for bit (05 R248). -/
def State.bitTransparent (s : State) (k : Nat) : Bool :=
  let m := k / 2 * 2
  let a := s.aout m
  let b := s.aout (m + 1)
  a.live != 0xFFFF && a.live % 2 == 0 && b.live == a.live + 1 &&
    (s.ain a.live).state == .locked && (s.ain b.live).state == .locked &&
    a.gain == 0 && b.gain == 0 && flagsIn a.flags 0xFC && flagsIn b.flags 0xFC && s.wideOut m && s.wideOut (m + 1) &&
    a.aac.profile == 0

/-- An output is silent: no input, muted, muted for non-audio, or its input has no signal. -/
def State.aoutSilent (s : State) (k : Nat) : Bool :=
  let a := s.aout k
  a.live == 0xFFFF || a.flags.getLsbD 0 || a.nonMuted || (s.ain a.live).state == .noSignal

/-- Mute for non-audio follows the pair of the live input and bit transparency (05 R248). -/
def State.judgeNonAudio (s : State) (k : Nat) : State :=
  let a := s.aout k
  let on := a.live != 0xFFFF && (s.ain (a.live / 2 * 2)).nonaudio && !s.bitTransparent k
  if on == a.nonMuted then s
  else if on then
    ((s.modAout k (fun x => { x with nonMuted := true })).count cntNonaudioMuted k 1).event
      { code := 0x1910, noun := 0x19, index := k, data := le 2 a.live }
  else s.modAout k (fun x => { x with nonMuted := false, starting := true, searchNs := sampleNs (sampleFrom s.nowNs), stopEndNs := 0 })

/-- A programme setting at the audio boundary: a start, a restart, or a change that waits for the access unit in progress
(05 R251). -/
def aacAtBoundary (a : AoutSt) (ns : Nat) : AoutSt :=
  match a.aacNext with
  | none => a
  | some c =>
    if a.aac.profile = 0 then { a with aac := c, aacNext := none, aacAt := ns }
    else if c.profile != 0 && (c.profile != a.aac.profile || c.channels != a.aac.channels) then
      { a with aac := c, aacNext := none, aacAt := ns }
    else a

/-- A device time step is absorbed at the first audio boundary after the domain absorbed it (09 R407). -/
def absorbStep (a : AoutSt) (d : DomainSt) : AoutSt :=
  if a.steps < d.absorbed then
    let n : Int := ((d.lastStep.natAbs * 48000 + 500000000) / 1000000000 : Nat)
    { a with steps := d.absorbed, adjust := a.adjust + (if d.lastStep < 0 then n else -n) }
  else a

/-- Word length of an output: that of its port, of its send entry, or 24 bits (05 R222, R223, R227, R236). -/
def State.aoutBits (s : State) (k : Nat) : Nat :=
  if k < 2048 then 24
  else match portOfAout k with
    | some p => if (s.aport p).cfg.dataBits = 0 then 24 else min 24 (s.aport p).cfg.dataBits
    | none => match s.flows.find? (fun e => e.1 ≥ 8192 && carriesAudio e.2.cfg k) with
      | some e => if e.2.cfg.kind = 0x02 && u8 e.2.cfg.params 2 = 16 then 16 else 24
      | none => 24

/-- The output is at 96 kHz: its samples alternate between its two numbers (05 R215). -/
def State.fastAout (s : State) (k : Nat) : Bool := s.aout96 (k / 2 * 2)

/-- The word of an output at a sample instant as its interface puts it out: an AES3 subframe, with the validity bit set in Test mode, a slot of
a serial port, or the bits of the sample (01 R46; 05 R222, R226 to R228). -/
def State.aoutWord (s : State) (k n : Nat) (y : Int) : List (Option Bool) :=
  let bits := s.aoutBits k
  match portOfAout k with
  | some p =>
    let c := (s.aport p).cfg
    if p ≥ 48 then
      let a := s.aout (k / 2 * 2)
      let coded := a.live != 0xFFFF && (s.ain (a.live / 2 * 2)).nonaudio && !a.nonMuted
      (subframe (y * 2 ^ (24 - bits)) (s.runMode == .test) (statusBit (channelStatus (c.format == 1) coded) n)).map some
    else slotBits c.slotBits bits (!(s.aport p).active true (s.slotOf p ((k - 2048) % 64)) || (s.aport p).clockBad) y
  | none => (msbBits bits y).map some

/-- Samples of an output at the crosspoint, put out 48 sample periods and the output's delay later (05 R219, R238; 09 R407). -/
def State.putOut (s : State) (k first : Nat) (l : List Int) : State :=
  let a := s.aout k
  if l.isEmpty then s
  else s.emit (.audio k (((first + 48 + a.delay : Nat) : Int) + a.adjust).toNat (l.zipIdx.map (fun e => s.aoutWord k (first + e.2) e.1)))

/-- Samples of an input under a gain and flags, in the output's word length; none is heard under MUTE (05 R235, R236). -/
def State.heard (s : State) (k : Nat) (gain : Int) (flags : BitVec 8) (l : List Int) : List Int :=
  l.map (fun x => if flags.getLsbD 0 then 0 else outSample (s.aoutBits k) gain (flags.getLsbD 1) x)

/-- Sample periods of `n` samples of an output, 96 kHz ones counted at 96 kHz (05 R244). -/
def State.periodsOf (s : State) (k n : Nat) : Nat := if s.fastAout k then cdiv n 2 else n

/-- A change of gain or INVERT alone: a linear ramp over 64 samples from the audio boundary, without a search (05 R245). -/
def State.gainRamp (s : State) (k : Nat) (old : AoutSt) (run : AudioRun) : State :=
  let a := s.aout k
  let l := run.samples.take rampLength
  let was := s.heard k old.gain old.flags l
  s.putOut k (sampleFrom s.nowNs) ((s.heard k a.gain a.flags l).zipIdx.map (fun e => rampAt e.2 (was.getD e.2 0) e.1))

/-- A device time step inserts silence or removes samples, with a ramp of 64 samples on either side (09 R407). -/
def State.stepRamp (s : State) (k : Nat) (n : Int) (run : AudioRun) : State :=
  let a := s.aout k
  let l := s.heard k a.gain a.flags run.samples
  let rest := l.drop (rampLength + (-n).toNat)
  s.putOut k (sampleFrom s.nowNs) (rampDown l ++ List.replicate n.toNat 0 ++ rampUp rest)

/-- The port of an output is enabled; its settings wait for that (05 R237). -/
def State.portOn (s : State) (k : Nat) : Bool := match portOfAout k with | some p => (s.aport p).cfg.enable == 1 | none => true

/-- AUDIO_BOUNDARY: landed settings of an output take effect at its first sample instant at or after the boundary, each changed signal by a
stop and a start; a route change to or from a bit-transparent route is made at that sample, and a change of delay never is. `run` is the
signal carried, from that instant on (05 R243 to R245, R249, R251; 09 R407; log entry 159). -/
def State.audioBoundary (s : State) (k : Nat) (run : AudioRun) : State :=
  if !(s.aoutPresent k && s.inService && s.portOn k) then s
  else
    let t := s.advanceTo (if (s.aout k).due then (s.aout k).dueNs else sampleNs (sampleFrom s.nowNs))
    let before := t.aout k
    let s0 := t.modAout k (fun a => absorbStep (aacAtBoundary a t.nowNs) (t.domain (t.aoutDomain k)))
    let inserted := (s0.aout k).adjust - before.adjust
    if !before.due then (if inserted = 0 || s.aoutSilent k then s0 else s0.stepRamp k inserted run)
    else
      let inp := s.aoutInput k
      let reroute := inp != before.live
      let changed := reroute || before.flags.getLsbD 0 != (s.aoutFlags k).getLsbD 0 || before.moved
      let wasOn := !s.aoutSilent k
      let s1 := s0.modAout k (fun x => { x with due := false, moved := false, live := inp, gain := s.aoutGain k, flags := s.aoutFlags k
                                                searchNs := t.nowNs, stopFill := none, stopEndNs := 0 })
      let atOnce := fun (u : State) => reroute && !before.moved && u.bitTransparent k
      let stops := changed && wasOn && !atOnce s
      let starts := changed && inp != 0xFFFF && !(s.aoutFlags k).getLsbD 0 && !atOnce s1
      let s2 := if changed then s1.modAout k (fun x =>
          { x with stopping := stops, oldIn := if stops then before.live else 0xFFFF, oldGain := before.gain, oldFlags := before.flags
                   starting := starts })
        else s1
      (s2.when (!changed && wasOn && (before.gain != s.aoutGain k || before.flags != s.aoutFlags k)) (fun u => u.gainRamp k before run)).judgeNonAudio k

/-- Samples over which the stop of an output searches: those buffered at a loss of activity, else 5 ms (05 R244, R246). -/
def State.stopWindow (s : State) (k : Nat) : Nat :=
  match (s.aout k).stopFill with
  | some n => n
  | none => if s.fastAout k then 2 * searchSamples else searchSamples

/-- Instant from which a start searches: the audio boundary, or the end of the stop where that is later (05 R244). -/
def AoutSt.startNs (a : AoutSt) : Nat := max a.searchNs a.stopEndNs

/-- Samples over which a start searches: up to 5 ms after the audio boundary, none when the stop ends later (05 R244). -/
def State.startWindow (s : State) (k : Nat) : Nat :=
  let a := s.aout k
  let n := (a.searchNs + 5000000 - a.startNs) * 48000 / 1000000000
  if s.fastAout k then 2 * n else n

/-- ZERO_CROSSING: the searched sample of a stop or of a start comes; `run` is the signal searched, from the instant from which it is
searched (05 R244, R246). A signal that has none in its window changes nothing. -/
def State.zeroCrossing (s : State) (k : Nat) (start : Bool) (run : AudioRun) : State :=
  let a := s.aout k
  if start then
    if !a.starting || a.stopping then s
    else match crossingAt run.before (run.samples.take (s.startWindow k)) with
      | none => s
      | some n =>
        let first := sampleFrom a.startNs + s.periodsOf k n
        let s1 := (s.advanceTo (sampleNs first)).modAout k (fun x => { x with starting := false })
        s1.putOut k first (s.heard k a.gain a.flags (run.samples.drop n))
  else
    if !a.stopping then s
    else match crossingAt run.before (run.samples.take (s.stopWindow k)) with
      | none => s
      | some n =>
        let first := sampleFrom a.searchNs
        let s1 := s.putOut k first (s.heard k a.oldGain a.oldFlags (run.samples.take n))
        let s2 := s1.advanceTo (sampleNs (first + s.periodsOf k n))
        s2.modAout k (fun x => { x with stopping := false, oldIn := 0xFFFF, stopFill := none, stopEndNs := s2.nowNs })

/-- ZERO_CROSSING_TIMEOUT: no such sample came in the window, and the signal is ramped over 64 samples: a stop from 5 ms on, or after the last
buffered sample, whose value it holds; a start from 5 ms on, or at once after a stop that ended later (05 R244, R246). -/
def State.zeroTimeout (s : State) (k : Nat) (start : Bool) (run : AudioRun) : State :=
  let a := s.aout k
  let done := fun (t : State) => (t.count cntZcTimeout k 1).event { code := 0x1911, noun := 0x19, index := k, data := le 1 (if start then 1 else 0) }
  if start then
    let w := s.startWindow k
    if !a.starting || a.stopping || (crossingAt run.before (run.samples.take w)).isSome then s
    else
      let first := sampleFrom a.startNs + s.periodsOf k w
      let s1 := (s.advanceTo (sampleNs first)).modAout k (fun x => { x with starting := false })
      done (s1.putOut k first (rampUp (s.heard k a.gain a.flags (run.samples.drop w))))
  else
    let w := s.stopWindow k
    if !a.stopping || (crossingAt run.before (run.samples.take w)).isSome then s
    else
      let first := sampleFrom a.searchNs
      let l := run.samples.take w
      let tail := if a.stopFill.isSome then List.replicate rampLength (l.getLastD run.before) else run.samples.drop w
      let s1 := s.putOut k first (s.heard k a.oldGain a.oldFlags l ++ rampDown (s.heard k a.oldGain a.oldFlags tail))
      let s2 := s1.advanceTo (sampleNs (first + s.periodsOf k w))
      done (s2.modAout k (fun x => { x with stopping := false, oldIn := 0xFFFF, stopFill := none
                                            stopEndNs := sampleNs (first + s.periodsOf k (w + rampLength)) }))

/-! ### Non-audio payload (05 R247 to R249) -/

/-- NONAUDIO_ONSET on the pair `n` (05 R247, R248). -/
def State.nonaudioOn (s : State) (n dataType : Nat) : State :=
  if !(s.ainPresent (2 * n)) || (s.ain (2 * n)).nonaudio then s
  else
    let s1 := (s.modAin (2 * n) (fun x => { x with nonaudio := true, csNonaudio := dataType == 0xFFFF })).count cntNonaudioOnsets (2 * n) 1
    let s2 := s1.event { code := 0x1814, noun := 0x18, index := 2 * n, data := le 2 dataType }
    s2.each (s2.aoutsOn (2 * n) ++ s2.aoutsOn (2 * n + 1)) State.judgeNonAudio

/-- NONAUDIO_END: 8,192 sample periods without a preamble or the channel status bit (05 R247, R249). -/
def State.nonaudioOff (s : State) (n : Nat) : State :=
  if (s.ain (2 * n)).nonaudio then
    let s1 := (s.modAin (2 * n) (fun x => { x with nonaudio := false, csNonaudio := false })).event
      { code := 0x1815, noun := 0x18, index := 2 * n }
    s1.each (s1.aoutsOn (2 * n) ++ s1.aoutsOn (2 * n + 1)) State.judgeNonAudio
  else s

/-! ### Port clocks (05 R224) -/

/-- Input channels of an audio port. -/
def ainsOfPort (p : Nat) : List Nat :=
  if p < 32 then (List.range 64).map (fun i => 2048 + 64 * p + i)
  else if p < 48 then [4096 + 2 * (p - 32), 4097 + 2 * (p - 32)] else []

/-- Output channels of an audio port. -/
def aoutsOfPort (p : Nat) : List Nat :=
  if p < 32 then (List.range 64).map (fun i => 2048 + 64 * p + i)
  else if p ≥ 48 then [4096 + 2 * (p - 48), 4097 + 2 * (p - 48)] else []

/-- PORT_CLOCK_ERROR: the bits of a frame of a follower disagree with its settings (05 R224). -/
def State.portClockBad (s : State) (p bits : Nat) : State :=
  let a := s.aport p
  if p < 32 && a.cfg.enable == 1 && a.cfg.role == 0 && !a.clockBad && bits != a.cfg.slots * a.cfg.slotBits then
    let s1 := ((s.modAport p (fun a => { a with clockBad := true })).raise almPortClock p).count cntPortClockError p 1
    (s1.event { code := 0x1A10, noun := 0x1A, index := p, data := le 2 bits }).each (ainsOfPort p) State.loseAin
  else s

/-- PORT_CLOCK_RECOVER: the count has agreed for 48 consecutive frames (05 R224). -/
def State.portClockGood (s : State) (p : Nat) : State :=
  if (s.aport p).clockBad then (s.modAport p (fun a => { a with clockBad := false })).clearAlarm almPortClock p else s

/-! ### Checks and landings of staged audio settings -/

/-- The lock that governs an audio output: a lock on the lead of a 96 kHz channel covers both its numbers (05 R242). -/
def State.aoutLock (s : State) (k : Nat) : Nat := if s.aoutOdd k then (s.aout (k - 1)).lock else (s.aout k).lock

/-- Steps 5 to 7 of R100 and R215, R237 for a setting of an audio output. -/
def State.checkAout (s : State) (owner k : Nat) : Option Answer :=
  if k ≥ 16384 then some (fail stRange 0x0007)
  else match namedFail [{ present := s.aoutPresent k, fenced := k < 2048 && s.isFenced .rillOut (k / 16), lock := s.aoutLock k }] owner false with
    | some a => some a
    | none =>
      if s.aoutOdd k then some (fail stInvalid 0x0031)
      else if !s.domainOn (s.aoutDomain k) then some (fail stState 0x003A)
      else none

/-- A gain is in range (05 R235). -/
def gainOk (g : Int) : Bool := withinI g (-960) 120

/-- Steps 5 to 8 of R100 for an audio route (05 R235, R236). -/
def State.checkAudioRoute (s : State) (owner k : Nat) (c : AudioRoute) : Option Answer :=
  match s.checkAout owner k with
  | some a => some a
  | none =>
    if c.ain != 0xFFFF && c.ain ≥ 16384 then some (fail stRange 0x0007)
    else if c.ain != 0xFFFF && !s.ainPresent c.ain then some (fail stAbsent 0)
    else if !gainOk c.gain then some (fail stRange 0x0032)
    else if c.ain = 0xFFFF then none
    else if s.ainOdd c.ain then some (fail stInvalid 0x0031)
    else if s.ain96 c.ain != s.aout96 k then some (fail stInvalid 0x0030)
    else none

/-- Steps 5 to 8 of R100 for a follow setting (05 R239). -/
def State.checkFollow (s : State) (owner k : Nat) (c : AudioFollow) : Option Answer :=
  match s.checkAout owner k with
  | some a => some a
  | none =>
    if c.dst != 0xFFFF && c.dst ≥ 1152 then some (fail stRange 0x0007)
    else if c.dst != 0xFFFF && !s.present .dst c.dst then some (fail stAbsent 0)
    else if c.channel > 15 then some (fail stRange 0x003B)
    else if !gainOk c.gain then some (fail stRange 0x0032)
    else if c.dst != 0xFFFF && s.dstMember c.dst then some (fail stInvalid 0x0012)
    else if c.dst != 0xFFFF && (s.dst c.dst).domain != s.aoutDomain k then some (fail stInvalid 0x0034)
    else none

/-- Steps 5 to 8 of R100 for a domain of an aout (05 R237). -/
def State.checkAoutDomain (s : State) (owner k d : Nat) : Option Answer :=
  match s.checkAout owner k with
  | some a => some a
  | none => if k < 4128 then some (fail stInvalid 0x0033) else if !within d 1 8 then some (fail stRange 0x003B) else none

/-- Steps 5 to 8 of R100 for a delay (05 R238). -/
def State.checkAoutDelay (s : State) (owner k n : Nat) : Option Answer :=
  match s.checkAout owner k with
  | some a => some a
  | none => if n > 48000 then some (fail stRange 0x0032) else none

/-- A programme's values are in the table (05 R250). -/
def aacOk (c : AacCfg) : Bool :=
  match c.profile, c.channels with
  | 0, _ => true
  | 1, 1 => within c.bitrate 24000 160000
  | 1, 2 => within c.bitrate 48000 320000
  | 2, 1 => within c.bitrate 16000 64000
  | 2, 2 => within c.bitrate 24000 128000
  | 3, 2 => within c.bitrate 16000 48000
  | _, _ => false

/-- Programme of an aout once its committed settings have landed. -/
def AoutSt.aacWanted (a : AoutSt) : AacCfg := a.aacNext.getD a.aac

/-- Programmes that a reach's engine serves (05 R250). -/
def State.programmes (s : State) (reach : Nat) : Nat :=
  (s.aouts.filter (fun e => e.1 ≥ 4128 && audioReach e.1 == reach && e.2.aacWanted.profile != 0)).length

/-- Steps 5 to 9 of R100 for an AAC programme (05 R250). -/
def State.checkAac (s : State) (owner k : Nat) (c : AacCfg) : Option Answer :=
  match s.checkAout owner k with
  | some a => some a
  | none =>
    if k < 4128 || k % 2 == 1 || s.aout96 k then some (fail stInvalid 0x0033)
    else if !aacOk c then some (fail stRange 0x0039)
    else if c.profile != 0 && (s.aout k).aacWanted.profile == 0 && s.programmes (audioReach k) ≥ 256 then some (fail stCapacity 0x0038)
    else none

/-- The bits of a mask lie below a number of slots (05 R226). -/
def maskOk (c : SlotMask) (slots : Nat) : Bool := c.maskLo + 4294967296 * c.maskHi < 2 ^ slots

/-- Steps 5 to 8 of R100 for a slot mask (05 R226, R237). -/
def State.checkMask (s : State) (p : Nat) (c : SlotMask) : Option Answer :=
  if p ≥ 64 then some (fail stRange 0x0007)
  else if !s.aportPresent p then some (fail stAbsent 0)
  else if p ≥ 32 then some (fail stInvalid 0x0033)
  else if !s.domainOn (s.aport p).cfg.domain then some (fail stState 0x003A)
  else if c.direction > 1 || !maskOk c (s.aport p).cfg.slots then some (fail stRange 0x0037)
  else none

/-- A landed setting of an aout waits for its audio boundary (05 R243). -/
def State.dueAout (s : State) (k : Nat) (f : AoutSt → AoutSt) : State :=
  s.modAout k (fun a => { f a with due := true, dueNs := max a.dueNs (s.audioAt k) })

/-- Outputs that follow a destination take their new input at the boundary at which its take lands (05 R240). A follow that has landed goes on
where its destination moves to another domain: R239 refuses another domain only of a request (DESIGN CHOICE, log entry 160). -/
def State.followTake (s : State) (d : Nat) : State :=
  let base := if d < 128 then (List.range 16).map (fun c => 16 * d + c) else []
  let more := (s.aouts.filter (fun e => e.2.follow.dst == d && !(base.contains e.1))).map (·.1)
  s.each (base ++ more) (fun t k => if (t.aout k).follow.dst == d then t.dueAout k id else t)

/-- A slot mask lands; masked input slots have no signal (05 R226). -/
def State.landMask (s : State) (p : Nat) (c : SlotMask) : State :=
  let m := BitVec.ofNat 64 (c.maskLo + 4294967296 * c.maskHi)
  if c.direction = 1 then s.modAport p (fun a => { a with maskOut := some m })
  else
    let s1 := s.modAport p (fun a => { a with maskIn := some m })
    s1.each (ainsOfPort p) (fun t k => if t.ainFed k then t else t.loseAin k)

/-! ### Requests that are not staged -/

/-- A port block with enable 1 is in range in every field and combination (05 R223, R224). -/
def aportOk (p : Nat) (c : AudioPortCfg) : Bool :=
  within c.domain 1 8 && flagsIn c.flags 0x07 &&
  (if p < 32 then
    c.format ≤ 1 && c.role ≤ 1 && (if c.format = 0 then c.slots == 2 else within c.slots 2 64) &&
    [16, 24, 32].contains c.slotBits && [16, 20, 24].contains c.dataBits && c.dataBits ≤ c.slotBits && (c.rate == 1 || c.rate == 2) &&
    c.slots * c.slotBits * (c.rate * 48000) ≤ 98304000 && (c.rate == 1 || c.slots ≤ 32)
   else c.format ≤ 1 && c.slots == 2 && (c.dataBits == 20 || c.dataBits == 24))

/-- A setting of an output of a port or of its slot mask. -/
def ofPort (p : Nat) : Setting → Bool
  | .aoutRoute a _ | .aoutFollow a _ | .aoutDomain a _ | .aoutDelay a _ | .aac a _ | .lockAout a _ | .unlockAout a _ =>
    portOfAout a == some p
  | .slotMask q _ => q == p
  | _ => false

/-- The pins of a serial port that is enabled begin their frames: silence in every active slot until an output starts (05 R222, R226). -/
def State.startPins (s : State) (p : Nat) : State :=
  let a := s.aport p
  if p < 32 then
    s.emit (.sapPins p (sapFrame a.cfg ((List.range a.cfg.slots).map (fun i => slotBits a.cfg.slotBits (min 24 a.cfg.dataBits) (!a.active true i) 0))))
  else s

/-- A port that is disabled ramps each channel that it carries to silence over 64 samples at once, and its pins idle then (05 R223); `old` is the
state before it. -/
def State.stopPort (s old : State) (p : Nat) : State :=
  let n := sampleFrom s.nowNs
  let s1 := s.each (aoutsOfPort p) (fun t k =>
    (t.when (!old.aoutSilent k) (fun u => u.emit (.fade k n))).modAout k (fun a => { a with stopping := false, starting := false, live := 0xFFFF }))
  (s1.when (p < 32) (fun t => t.emit (.sapPins p []))).modAport p (fun a => { a with idleNs := sampleNs (n + old.periodsOf ((aoutsOfPort p).headD 4128) rampLength) })

/-- SET on AudioPort, selector 0x01 (05 R223, R224). -/
def specSetAudioPort : ReqSpec where
  verb := 0x02
  noun := 0x1A
  sel := some 0x01
  len := (· == 12)
  bits := fun b => zeroFrom b 10 2
  bitsReason := 0x0035
  index := (· < 64)
  named := fun s c => [{ present := s.aportPresent c.r.index }]
  body := fun c s =>
    let p := c.r.index
    let n := decAudioPortCfg c.block
    let old := (s.aport p).cfg
    if n.enable > 1 || (if n.enable = 1 then !aportOk p n else n.domain > 8) then (fail stRange 0x0035, s)
    else if n.enable = 1 && old.enable = 1 then (fail stBusy 0x0036, s)
    else
      let s1 := if n.domain != old.domain then s.cancelSettings (fun q x => q.domain == old.domain && ofPort p x) else s
      let s2 := (s1.modAport p (fun a => { a with cfg := n, clockBad := false })).clearAlarm almPortClock p
      if n.enable = 1 then (okWith [], (s2.each (aoutsOfPort p) (fun t k => if t.aoutInput k = 0xFFFF then t else t.dueAout k id)).startPins p)
      else if old.enable != 1 then (okWith [], s2)
      else (okWith [], (s2.each (ainsOfPort p) State.loseAin).stopPort s p)

/-- Block of QUERY on AudioIn (05 R253). -/
def ainBlock (s : State) (k : Nat) : Bytes :=
  let x := s.ain k
  layout 16 [(0, le 1 x.state.code), (1, le 1 (bitsOf [(s.ain (k / 2 * 2)).nonaudio, s.ain96 k, (s.ain (k / 2 * 2)).csNonaudio])),
    (2, le 2 (s.aoutsOn k).length), (4, leInt 4 x.ratio), (8, le 8 (s.cnt cntAudioSlip k))]

/-- QUERY on AudioIn, selector 0x01 (05 R253). -/
def specQueryAudioIn : ReqSpec where
  verb := 0x01
  noun := 0x18
  sel := some 0x01
  len := (· == 1)
  index := (· < 16384)
  named := fun s c => [{ present := s.ainPresent c.r.index, fenced := c.r.index < 2048 && s.isFenced .rillIn (c.r.index / 16) }]
  body := fun c s => if s.ainOdd c.r.index then (fail stInvalid 0x0031, s) else (okWith (ainBlock s c.r.index), s)

/-- A setting of an aout. -/
def ofAout (k : Nat) : Setting → Bool
  | .aoutRoute a _ | .aoutFollow a _ | .aoutDomain a _ | .aoutDelay a _ | .aac a _ | .lockAout a _ | .unlockAout a _ => a == k
  | _ => false

/-- Block of QUERY on AudioOut (05 R254). -/
def aoutBlock (s : State) (k : Nat) : Bytes :=
  let a := s.aout k
  layout 16 [(0, le 2 a.live), (2, leInt 2 a.gain),
    (4, le 1 (bitsOf [a.flags.getLsbD 0, a.flags.getLsbD 1, a.follow.dst != 0xFFFF, s.bitTransparent k, a.nonMuted])),
    (5, le 1 (s.aoutDomain k)), (6, le 2 a.follow.dst), (8, le 2 a.delay), (10, le 1 a.aac.profile), (11, le 1 a.lock),
    (12, le 4 (s.pendingWhere (ofAout k)))]

/-- QUERY on AudioOut, selector 0x01 (05 R254). -/
def specQueryAudioOut : ReqSpec where
  verb := 0x01
  noun := 0x19
  sel := some 0x01
  len := (· == 1)
  index := (· < 16384)
  named := fun s c => [{ present := s.aoutPresent c.r.index, fenced := c.r.index < 2048 && s.isFenced .rillOut (c.r.index / 16) }]
  body := fun c s => if s.aoutOdd c.r.index then (fail stInvalid 0x0031, s) else (okWith (aoutBlock s c.r.index), s)

end Sys2Proof.Machine
end

