-- ==== Sys2Proof/Machine/ClausePlan.lean ====
section
/-! DEFINITION. Planning of Clause: codecs, levels, loads, partitions, the latency window, buffer models and the checks of
stem, rendition and rate-control settings (10 R425 to R448, R458 to R461; 11 R472, R476, R477, R482). -/
namespace Sys2Proof.Machine

/-! ### Codecs and levels (10 R434, R435) -/

/-- Width of a coding block in luma samples (10 R452; 11 R482). -/
def codingBlock (codec : Nat) : Nat := match codec with | 2 => 128 | 4 => 16 | _ => 64

/-- Most bits of a block in floor mode (11 R482). -/
def floorBits (codec : Nat) : Nat := match codec with | 1 => 12 | 4 => 6 | _ => 16

/-- A codec has a profile code (10 R434). -/
def profileKnown (codec profile : Nat) : Bool :=
  match codec with
  | 1 | 4 => within profile 1 3
  | 2 | 3 => profile == 1
  | _ => false

/-- A profile allows a bit depth and a chroma format (10 R434). -/
def profileAllows (codec profile depth chroma : Nat) : Bool :=
  (depth == 8 || (depth == 10 && !((codec == 1 || codec == 4) && profile == 1))) &&
    (chroma == 0 || ((codec == 1 || codec == 4) && profile == 3))

/-- Limits of one level: largest luma picture, luma samples per second, and bit rate and buffer in kbit for the Main and the
High tier; for AVC the picture and the rate are in macroblocks (10 R435). -/
structure LevelRow where
  code : Nat
  size : Nat
  rate : Nat
  brMain : Nat
  brHigh : Nat
  cpbMain : Nat
  cpbHigh : Nat
deriving DecidableEq, Repr

/-- Levels of HEVC. PRESUMED from ITU-T H.265, tables A.8 and A.9 (log entry 22). -/
def levelsHevc : List LevelRow :=
  [⟨10, 36864, 552960, 128, 128, 350, 350⟩, ⟨20, 122880, 3686400, 1500, 1500, 1500, 1500⟩,
   ⟨21, 245760, 7372800, 3000, 3000, 3000, 3000⟩, ⟨30, 552960, 16588800, 6000, 6000, 6000, 6000⟩,
   ⟨31, 983040, 33177600, 10000, 10000, 10000, 10000⟩, ⟨40, 2228224, 66846720, 12000, 30000, 12000, 30000⟩,
   ⟨41, 2228224, 133693440, 20000, 50000, 20000, 50000⟩, ⟨50, 8912896, 267386880, 25000, 100000, 25000, 100000⟩,
   ⟨51, 8912896, 534773760, 40000, 160000, 40000, 160000⟩, ⟨52, 8912896, 1069547520, 60000, 240000, 60000, 240000⟩,
   ⟨60, 35651584, 1069547520, 60000, 240000, 60000, 240000⟩, ⟨61, 35651584, 2139095040, 120000, 480000, 120000, 480000⟩,
   ⟨62, 35651584, 4278190080, 240000, 800000, 240000, 800000⟩]

/-- Levels of VVC. PRESUMED from ITU-T H.266, tables A.1 and A.2 (log entry 22). -/
def levelsVvc : List LevelRow :=
  [⟨10, 36864, 552960, 128, 128, 350, 350⟩, ⟨20, 122880, 3686400, 1500, 1500, 1500, 1500⟩,
   ⟨21, 245760, 7372800, 3000, 3000, 3000, 3000⟩, ⟨30, 552960, 16588800, 6000, 6000, 6000, 6000⟩,
   ⟨31, 983040, 33177600, 10000, 10000, 10000, 10000⟩, ⟨40, 2228224, 66846720, 12000, 30000, 12000, 30000⟩,
   ⟨41, 2228224, 133693440, 20000, 50000, 20000, 50000⟩, ⟨50, 8912896, 267386880, 25000, 100000, 25000, 100000⟩,
   ⟨51, 8912896, 534773760, 40000, 160000, 40000, 160000⟩, ⟨52, 8912896, 1069547520, 60000, 240000, 60000, 240000⟩,
   ⟨60, 35651584, 1069547520, 60000, 240000, 80000, 240000⟩, ⟨61, 35651584, 2139095040, 120000, 480000, 120000, 480000⟩,
   ⟨62, 35651584, 4278190080, 240000, 800000, 180000, 800000⟩]

/-- Levels of AV1; the buffer holds one second at the bit rate. PRESUMED from the AV1 specification, annex A (log entry 22). -/
def levelsAv1 : List LevelRow :=
  [⟨20, 147456, 4423680, 1500, 1500, 1500, 1500⟩, ⟨21, 278784, 8363520, 3000, 3000, 3000, 3000⟩,
   ⟨30, 665856, 19975680, 6000, 6000, 6000, 6000⟩, ⟨31, 1065024, 31950720, 10000, 10000, 10000, 10000⟩,
   ⟨40, 2359296, 70778880, 12000, 30000, 12000, 30000⟩, ⟨41, 2359296, 141557760, 20000, 50000, 20000, 50000⟩,
   ⟨50, 8912896, 267386880, 30000, 100000, 30000, 100000⟩, ⟨51, 8912896, 534773760, 40000, 160000, 40000, 160000⟩,
   ⟨52, 8912896, 1069547520, 60000, 240000, 60000, 240000⟩, ⟨53, 8912896, 1069547520, 60000, 240000, 60000, 240000⟩,
   ⟨60, 35651584, 1069547520, 60000, 240000, 60000, 240000⟩, ⟨61, 35651584, 2139095040, 100000, 480000, 100000, 480000⟩,
   ⟨62, 35651584, 4278190080, 160000, 800000, 160000, 800000⟩, ⟨63, 35651584, 4278190080, 160000, 800000, 160000, 800000⟩]

/-- Levels of AVC. PRESUMED from ITU-T H.264, table A-1 (log entry 22). -/
def levelsAvc : List LevelRow :=
  [⟨10, 99, 1485, 64, 64, 175, 175⟩, ⟨11, 396, 3000, 192, 192, 500, 500⟩, ⟨12, 396, 6000, 384, 384, 1000, 1000⟩,
   ⟨13, 396, 11880, 768, 768, 2000, 2000⟩, ⟨20, 396, 11880, 2000, 2000, 2000, 2000⟩, ⟨21, 792, 19800, 4000, 4000, 4000, 4000⟩,
   ⟨22, 1620, 20250, 4000, 4000, 4000, 4000⟩, ⟨30, 1620, 40500, 10000, 10000, 10000, 10000⟩,
   ⟨31, 3600, 108000, 14000, 14000, 14000, 14000⟩, ⟨32, 5120, 216000, 20000, 20000, 20000, 20000⟩,
   ⟨40, 8192, 245760, 20000, 20000, 25000, 25000⟩, ⟨41, 8192, 245760, 50000, 50000, 62500, 62500⟩,
   ⟨42, 8704, 522240, 50000, 50000, 62500, 62500⟩, ⟨50, 22080, 589824, 135000, 135000, 135000, 135000⟩,
   ⟨51, 36864, 983040, 240000, 240000, 240000, 240000⟩, ⟨52, 36864, 2073600, 240000, 240000, 240000, 240000⟩,
   ⟨60, 139264, 4177920, 240000, 240000, 240000, 240000⟩, ⟨61, 139264, 8355840, 480000, 480000, 480000, 480000⟩,
   ⟨62, 139264, 16711680, 800000, 800000, 800000, 800000⟩]

/-- Limits of a level of a codec, none when the code names no level (10 R435). -/
def levelRow (codec level : Nat) : Option LevelRow :=
  (match codec with | 1 => levelsHevc | 2 => levelsVvc | 3 => levelsAv1 | 4 => levelsAvc | _ => []).find? (fun x => x.code == level)

/-- Bits of a kbit of the rate and buffer limits, by profile (PRESUMED, log entry 22). -/
def nalFactor (codec profile : Nat) : Nat :=
  match codec, profile with
  | 1, 3 => 1833 | 1, _ | 2, _ => 1100 | 4, 1 => 1500 | 4, 2 => 3600 | 4, _ => 4800 | _, _ => 1000

/-- What is coded at what rate: a rendition or a back-fill job. -/
structure CodeJob where
  cfg : RendCfg
  rate : RateCfg
  /-- frames per second of the feed -/
  num : Nat
  den : Nat
  /-- pictures of a frame: 2 on an interlaced raster (10 R433) -/
  fields : Nat
deriving DecidableEq, Repr

/-- A picture's height in lines (10 R433). -/
def CodeJob.picHeight (j : CodeJob) : Nat := j.cfg.height / j.fields

/-- Picture size and rates keep within the level (10 R435). -/
def CodeJob.levelFits (j : CodeJob) : Bool :=
  match levelRow j.cfg.codec j.cfg.level with
  | none => false
  | some x =>
    let b := if j.cfg.codec = 4 then 16 else 1
    let w := cdiv j.cfg.width b
    let h := cdiv (if j.cfg.codec = 4 then j.cfg.height else j.picHeight) b
    let perFrame := if j.cfg.codec = 4 then 1 else j.fields
    w * h ≤ x.size && w * w ≤ 8 * x.size && h * h ≤ 8 * x.size && w * h * perFrame * j.num ≤ x.rate * j.den * j.cfg.rateDiv

/-! ### Loads and partitions (10 R458 to R460) -/

/-- One core in the units of loads: luma rates of every rate code divide it exactly. -/
def coreLoad : Nat := 2002 * 100000000000000000

/-- Load of luma `w * h` at a rate divided by `div`, times a factor and a modifier in hundredths (10 R460). -/
def lumaLoad (w h num den div factor m1 m2 mn : Nat) : Nat := w * h * num * (2002 / (den * div)) * factor * m1 * m2 * mn

/-- Factor of a codec in hundredths (10 R460). -/
def codecFactor (codec : Nat) : Nat := match codec with | 1 => 100 | 2 => 203 | 3 => 122 | _ => 33

/-- Modifier for 3 or 4 references in hundredths (10 R460). -/
def refsFactor (refs : Nat) : Nat := if refs ≥ 3 then 125 else 100

/-- The split used with `n` partitions, with automatic resolved (10 R458). -/
def splitUsed (c : RendCfg) (n : Nat) : Nat :=
  if c.split != 0 then c.split
  else if c.codec = 4 then 2 else if c.codec = 3 then 1 else if n ≤ c.width / 256 then 1 else 2

/-- Load multiplier of a split in hundredths (10 R458). -/
def splitFactor (c : RendCfg) (n : Nat) : Nat := if c.split = 3 && n ≥ 2 then 110 else 100

/-- The load L of a rendition with the multiplier m(n) (10 R460). -/
def CodeJob.load (j : CodeJob) (n : Nat) : Nat :=
  lumaLoad j.cfg.width j.cfg.height j.num j.den j.cfg.rateDiv (codecFactor j.cfg.codec) (refsFactor j.cfg.refs)
    (if j.cfg.chroma = 1 then 125 else 100) (splitFactor j.cfg n)

/-- Partitions of a rendition, 17 when 16 do not suffice (10 R459). -/
def CodeJob.partitions (j : CodeJob) : Nat :=
  let least := if j.cfg.codec = 3 then max 1 (cdiv j.cfg.width 4096) else 1
  ((List.range 17).find? (fun n => n ≥ least && n ≥ 1 && j.load n ≤ n * coreLoad)).getD 17

/-- A split method is allowed for a codec (10 R458). -/
def splitAllowed (codec split : Nat) : Bool :=
  match split with
  | 0 => true | 1 => codec != 4 | 2 => codec != 3 | _ => codec == 1 || codec == 2

/-! ### Feeds and stems (10 R426, R427, R460) -/

/-- Format of a stem's feed (10 R426). -/
def State.feedFmt (s : State) (k : Nat) : Fmt := (s.dst (1024 + k)).fmt

/-- Domain of a stem's feed (10 R429). -/
def State.feedDomain (s : State) (k : Nat) : Nat := (s.dst (1024 + k)).domain

/-- Width and height of a stem's feed. -/
def State.feedSize (s : State) (k : Nat) : Nat × Nat :=
  match rasterOf (s.feedFmt k).raster with
  | some r => (r.width, r.height)
  | none => (0, 0)

/-- Pictures of a frame of a stem's feed (10 R433). -/
def State.feedFields (s : State) (k : Nat) : Nat :=
  match rasterOf (s.feedFmt k).raster with
  | some r => if r.interlaced then 2 else 1
  | none => 1

/-- Home reach of a stem's settings (10 R427). -/
def stemHome (k : Nat) (c : StemCfg) : Nat := if c.home = 0xFF then portReach (1024 + k) else c.home

/-- A stem is present (10 R426). -/
def State.stemPresent (s : State) (k : Nat) : Bool := k < 64 && hasCores s.fused.part && s.present .dst (1024 + k)

/-- A rendition is present: its reach is fitted and there are Clause cores (10 R426, R428). -/
def State.rendPresent (s : State) (r : Nat) : Bool := r < 256 && hasCores s.fused.part && reachFitted s.fused.part (r / 64)

/-- Rate of a stem's feed. -/
def State.feedRate (s : State) (k : Nat) : Nat := (s.domain (s.feedDomain k)).rate

/-- Load of a stem (10 R460). -/
def State.stemLoad (s : State) (k : Nat) : Nat :=
  let z := s.feedSize k
  lumaLoad z.1 z.2 (rateNum (s.feedRate k)) (rateDen (s.feedRate k)) 1 100 (refsFactor (s.stem k).cfg.refs) 100 100

/-- Bands of a stem, 17 when 16 do not suffice (10 R459). -/
def State.stemBands (s : State) (k : Nat) : Nat :=
  ((List.range 17).find? (fun n => n ≥ 1 && s.stemLoad k ≤ n * coreLoad)).getD 17

/-- What a rendition codes, with its live settings. -/
def State.codeJob (s : State) (r : Nat) : CodeJob :=
  let x := s.rend r
  let d := s.feedRate x.cfg.stem
  { cfg := x.cfg, rate := x.rate, num := rateNum d, den := rateDen d, fields := s.feedFields x.cfg.stem }

/-- Load that a rendition counts against its reach (10 R460). -/
def State.rendLoad (s : State) (r : Nat) : Nat := (s.codeJob r).load (s.codeJob r).partitions

/-- Enabled renditions of a stem. -/
def State.rendsOf (s : State) (k : Nat) : List Nat := (s.rends.filter (fun e => e.2.cfg.enable == 1 && e.2.cfg.stem == k)).map (·.1)

/-- Enabled stems homed in a reach (10 R427). -/
def State.stemsIn (s : State) (n : Nat) : List Nat := (s.stems.filter (fun e => e.2.cfg.enable == 1 && stemHome e.1 e.2.cfg == n)).map (·.1)

/-- Enabled renditions of a reach that are not shed (10 R461, R462). -/
def State.rendsIn (s : State) (n : Nat) : List Nat :=
  (s.rends.filter (fun e => e.2.cfg.enable == 1 && !e.2.shed && e.1 / 64 == n)).map (·.1)

/-- Load of a reach (10 R461). -/
def State.reachLoad (s : State) (n : Nat) : Nat := ((s.stemsIn n).map s.stemLoad ++ (s.rendsIn n).map s.rendLoad).foldl (· + ·) 0

/-- Capacity of a reach: its Clause cores that are present and not fenced (10 R461). -/
def State.clauseCores (s : State) (n : Nat) : Nat := (unitsWhere .clause (fun k => k / 16 == n && s.usable .clause k)).length

/-- A load in 0.001 core, rounded down (10 R465). -/
def milli (load : Nat) : Nat := load * 1000 / coreLoad

/-! ### The latency window (11 R470, R472) -/

/-- The least common multiple of the partition counts. -/
def partLcm : Nat := 720720

/-- Coding time of a rendition in `1 / (partLcm * coreLoad)` of a picture period (11 R472). -/
def State.codeTime (s : State) (r : Nat) : Nat :=
  let j := s.codeJob r
  let n := j.partitions
  j.load n * (partLcm / max 1 n) * j.cfg.rateDiv

/-- The longest coding time of a stem's renditions (11 R472). -/
def State.longestCode (s : State) (k : Nat) : Nat := ((s.rendsOf k).map s.codeTime).foldl max 0

/-- Stem and renditions fit the latency window (11 R472). -/
def State.windowFits (s : State) (k : Nat) : Bool :=
  let n := s.stemBands k
  (s.stemLoad k * (partLcm / max 1 n) + s.longestCode k) * 100 + 2 * partLcm * coreLoad ≤
    (s.stem k).cfg.latencyQ * s.feedFields k * partLcm * coreLoad * 25

/-- Picture period of a stem's feed in ps (11 R470). -/
def State.picPeriodPs (s : State) (k : Nat) : Nat := periodPs (s.feedRate k) / s.feedFields k

/-- Encode latency of a stem in ns (11 R470). -/
def State.latencyNs (s : State) (k : Nat) : Nat := (s.stem k).cfg.latencyQ * periodPs (s.feedRate k) / 4000

/-- Packaging time of a stem's pictures in ns (11 R472). -/
def State.packNs (s : State) (k : Nat) : Nat := s.picPeriodPs k / 50000

/-- The longest coding time of a stem in ns (11 R472). -/
def State.longestNs (s : State) (k : Nat) : Nat := s.longestCode k * s.picPeriodPs k / (partLcm * coreLoad * 1000)

/-! ### Rate control and floor reserve (11 R476, R477, R482) -/

/-- The rate R of a rendition: bitrate in CBR, max_bitrate in VBR (11 R477). -/
def RateCfg.r (c : RateCfg) : Nat := if c.rcMode = 0 then c.bitrate else c.maxBitrate

/-- Most bits of a row in floor mode (11 R482). -/
def CodeJob.floorRow (j : CodeJob) : Nat := cdiv j.cfg.width (codingBlock j.cfg.codec) * floorBits j.cfg.codec + 32

/-- Coding-block rows of a picture (11 R482). -/
def CodeJob.rows (j : CodeJob) : Nat := cdiv j.picHeight (codingBlock j.cfg.codec)

/-- Most bits of a picture in floor mode (11 R482). -/
def CodeJob.floorPic (j : CodeJob) : Nat := j.rows * j.floorRow + 8192

/-- Bit rate and buffer keep within the level (11 R477). -/
def CodeJob.rateFits (j : CodeJob) : Bool :=
  match levelRow j.cfg.codec j.cfg.level with
  | none => false
  | some x =>
    let high := j.cfg.flags.getLsbD 0
    let f := nalFactor j.cfg.codec j.cfg.profile
    j.rate.r ≤ (if high then x.brHigh else x.brMain) * f && j.rate.cpbSize ≤ (if high then x.cpbHigh else x.cpbMain) * f

/-- Ranges and orderings of a rate-control block (11 R476). -/
def CodeJob.rateRange (j : CodeJob) : Bool :=
  let c := j.rate
  let top := if j.cfg.codec = 3 then 255 else 51
  c.rcMode ≤ 1 && flagsIn c.flags 0x01 && c.qpMin ≤ top && c.qpMax ≤ top && c.qpMin ≤ c.qpMax &&
    (if c.rcMode = 0 then c.maxBitrate == 0 else c.bitrate ≤ c.maxBitrate)

/-- The conditions of R477 on an enabled rendition, or the first that fails (11 R477). -/
def CodeJob.rateFail (j : CodeJob) : Option Answer :=
  let c := j.rate
  let div := j.cfg.rateDiv
  if !(j.rateRange && j.rateFits) then some (fail stRange 0x0090)
  else if !(c.r * j.den * div ≤ c.cpbSize * j.num * j.fields) then some (fail stRange 0x0090)
  else if !(j.den * div * 1000000 ≤ c.initDelayUs * j.num * j.fields && c.initDelayUs * c.r ≤ c.cpbSize * 1000000) then
    some (fail stRange 0x0090)
  else if !(c.bitrate * j.den * div ≥ 4 * j.floorPic * j.num * j.fields) then some (fail stRange 0x0092)
  else none

/-! ### Checks of stems and renditions (10 R426 to R448, R459, R461) -/

/-- Fields of a stem block are in range (10 R443). -/
def stemRange (c : StemCfg) : Bool :=
  c.enable ≤ 1 && within c.latencyQ 1 8 && c.searchH % 16 == 0 && within c.searchH 16 256 && c.searchV % 8 == 0 &&
  within c.searchV 8 128 && within c.refs 1 4 && within c.candidates 4 16 && within c.scenePct 1 100 &&
  (c.home ≤ 3 || c.home == 0xFF) && within c.coresMax 1 16

/-- The part of a stem block's checks that needs no other setting (10 R425 to R427, R443). -/
def State.checkStem (s : State) (k : Nat) (c : StemCfg) : Option Answer :=
  if s.inService && s.sleeps .clauseCore then some (fail stState 0x0006)
  else if k ≥ 64 then some (fail stRange 0x0007)
  else match namedFail [{ present := s.stemPresent k && (c.home > 3 || reachFitted s.fused.part c.home) }] 0 false with
  | some a => some a
  | none =>
    if s.dstMember (1024 + k) then some (fail stInvalid 0x0012)
    else if !s.domainOn (s.feedDomain k) then some (fail stState 0x0009)
    else if !stemRange c then some (fail stRange 0x0082)
    else none

/-- Fields of an enabled rendition block are in range (10 R434, R435, R447). -/
def rendRange (c : RendCfg) : Bool :=
  c.stem ≤ 63 && profileKnown c.codec c.profile && (levelRow c.codec c.level).isSome && !(c.codec == 4 && c.flags.getLsbD 0) &&
  within c.rateDiv 1 2 && (c.bitDepth == 8 || c.bitDepth == 10) && c.chroma ≤ 1 && within c.refs 1 4 && c.split ≤ 3 &&
  within c.coresMax 1 16 && c.refreshMode ≤ 1 && c.refreshPeriod ≤ 600

/-- Domain of a rendition's settings: that of the stem it is attached to, else of the stem its block names (10 R429). -/
def State.rendDomain (s : State) (r : Nat) (c : RendCfg) : Nat :=
  s.feedDomain (if (s.rend r).cfg.enable = 1 then (s.rend r).cfg.stem else c.stem)

/-- The part of a rendition block's checks that needs no other setting (10 R425, R428, R434, R435, R447). -/
def State.checkRend (s : State) (r : Nat) (c : RendCfg) : Option Answer :=
  if s.inService && s.sleeps .clauseCore then some (fail stState 0x0006)
  else if r ≥ 256 then some (fail stRange 0x0007)
  else match namedFail [{ present := s.rendPresent r && (c.enable != 1 || c.stem > 63 || s.stemPresent c.stem) }] 0 false with
  | some a => some a
  | none =>
    if c.enable > 1 then some (fail stRange 0x0082)
    else if c.enable = 1 && !rendRange c then some (fail stRange 0x0082)
    else if !s.domainOn (s.rendDomain r c) then some (fail stState 0x0009)
    else none

/-- The checks of a rate-control block that need no other setting (10 R425; 11 R476). -/
def State.checkRendRate (s : State) (r : Nat) : Option Answer :=
  if s.inService && s.sleeps .clauseCore then some (fail stState 0x0006)
  else if r ≥ 256 then some (fail stRange 0x0007)
  else match namedFail [{ present := s.rendPresent r }] 0 false with
  | some a => some a
  | none => if !s.domainOn (s.feedDomain (s.rend r).cfg.stem) then some (fail stState 0x0009) else none

/-- Profile, level, size, split and references of a rendition against a picture of `w` by `h` and `refs` analysed references;
first failure (10 R433 to R435, R446 to R448, R458, R459). -/
def CodeJob.combination (j : CodeJob) (w h refs : Nat) : Option Answer :=
  let c := j.cfg
  let n := j.partitions
  if !profileAllows c.codec c.profile c.bitDepth c.chroma || !splitAllowed c.codec c.split || c.refs * c.rateDiv > refs ||
      (j.fields = 2 && !((c.codec == 1 || c.codec == 4) && c.width == w && c.height == h && c.rateDiv == 1)) then some (fail stInvalid 0x0086)
  else if !(c.width % 2 == 0 && c.height % 2 == 0 && within c.width 128 w && within c.height 72 h && c.width * 8 ≥ w && c.height * 8 ≥ h) then
    some (fail stRange 0x0089)
  else if !j.levelFits then some (fail stRange 0x0089)
  else if c.split = 1 && (c.codec = 1 || c.codec = 2) && n > c.width / 256 then some (fail stRange 0x0089)
  else none

/-- Capacity and latency of a stem with its renditions, in the state that will be live (10 R427, R428, R459, R461; 11 R472). -/
def State.planFail (s : State) (k : Nat) : Option Answer :=
  let c := (s.stem k).cfg
  let n := stemHome k c
  let rs := s.rendsOf k
  if c.enable = 1 && (s.stemsIn n).length > 16 then some (fail stCapacity 0x0083)
  else if rs.length > 16 || ((rs.map (fun r => (s.rend r).cfg.codec)).eraseDups).length > 3 then some (fail stCapacity 0x0083)
  else if c.enable = 1 && s.stemBands k > min 16 c.coresMax then some (fail stCapacity 0x0088)
  else if s.reachLoad n > s.clauseCores n * coreLoad then some (fail stCapacity 0x0084)
  else if c.enable = 1 && !s.windowFits k then some (fail stCapacity 0x0091)
  else none

/-- The checks of a stem setting against the state that will be live at its boundary; `live` is the state before it
(10 R427, R431, R446). -/
def State.finalStem (live s : State) (k : Nat) : Option Answer :=
  let c := (s.stem k).cfg
  let l := (live.stem k).cfg
  if c.enable = 1 then
    if (s.rendsOf k).any (fun r => (s.rend r).cfg.refs * (s.rend r).cfg.rateDiv > c.refs) then some (fail stInvalid 0x0086)
    else if l.enable = 1 && stemHome k l != stemHome k c then some (fail stBusy 0x0085)
    else s.planFail k
  else if (s.rendsOf k).any (fun r => (live.rend r).cfg.enable == 1) then some (fail stBusy 0x0085)
  else none

/-- The checks of a rendition or rate-control setting against the state that will be live at its boundary
(10 R428, R429, R433 to R435, R446 to R448, R458, R459, R461, R464; 11 R472, R477). -/
def State.finalRend (live s : State) (r : Nat) : Option Answer :=
  let c := (s.rend r).cfg
  let l := (live.rend r).cfg
  let z := s.feedSize c.stem
  if c.enable != 1 then none
  else if (s.stem c.stem).cfg.enable != 1 then some (fail stInvalid 0x0087)
  else if stemHome c.stem (s.stem c.stem).cfg != r / 64 then some (fail stInvalid 0x0081)
  else match (s.codeJob r).combination z.1 z.2 (s.stem c.stem).cfg.refs with
    | some a => some a
    | none => match (s.codeJob r).rateFail with
      | some a => some a
      | none =>
        if l.enable = 1 && live.feedDomain l.stem != s.feedDomain c.stem then some (fail stBusy 0x0085)
        else if (s.codeJob r).partitions > min 16 c.coresMax then some (fail stCapacity 0x0088)
        else s.planFail c.stem

/-- A format or domain of a feed is not changed while its stem is enabled at the boundary (10 R431). -/
def State.finalFeed (s : State) (d : Nat) : Option Answer :=
  if isCodec d && !s.recirc && (s.stem (d - 1024)).cfg.enable = 1 then some (fail stBusy 0x0085) else none

end Sys2Proof.Machine
end

