-- ==== Sys2Proof/Machine/HostRing.lean ====
section
/-! DEFINITION. The host rings of coded streams: data area, records and writeback word (11 R494 to R498; 12 R520), and the
refresh cycles and buffer model that live and back-fill streams share (10 R450 to R456; 11 R479 to R481). -/
namespace Sys2Proof.Machine

/-! ### Data area and record ring (11 R494, R495) -/

/-- A host ring as its owner holds it: the areas of R487 and the free-running counts of R494. -/
structure HostRing where
  dataBase : Nat
  dataLog2 : Nat
  recBase : Nat
  recLog2 : Nat
  wbAddr : Nat
  recProd : BitVec 32
  dataProd : BitVec 32
  recCons : BitVec 32
  dataCons : BitVec 32
deriving DecidableEq, Repr

/-- The consumer counts of a consumer word (11 R494). -/
def HostRing.consumed (h : HostRing) (w : BitVec 64) : HostRing :=
  { h with recCons := w.setWidth 32, dataCons := (w >>> 32).setWidth 32 }

/-- Free bytes of the data area (11 R494). -/
def HostRing.freeBytes (h : HostRing) : Nat := 2 ^ h.dataLog2 - (h.dataProd - h.dataCons).toNat

/-- Free records of the record ring (11 R494). -/
def HostRing.freeRecs (h : HostRing) : Nat := 2 ^ h.recLog2 - (h.recProd - h.recCons).toNat

/-- Bytes skipped at the end of the data area so that a unit does not wrap round (11 R495). -/
def HostRing.skip (h : HostRing) (len : Nat) : Nat :=
  let room := 2 ^ h.dataLog2 - h.dataProd.toNat % 2 ^ h.dataLog2
  if len > room then room else 0

/-- A unit and its record find room (11 R495, R499). -/
def HostRing.fits (h : HostRing) (len : Nat) : Bool := h.skip len + len ≤ h.freeBytes && 1 ≤ h.freeRecs

/-- What a record says of its unit (11 R495). -/
structure RecInfo where
  pts : Nat
  frame : Nat
  flags : Nat
  sap : Nat
  duration : Nat
deriving DecidableEq, Repr

/-- Record flags (11 R495). -/
def recChunk : Nat := 1
def recFragment : Nat := 2
def recParams : Nat := 4
def recDiscont : Nat := 8
def recFloor : Nat := 16
def recStart : Nat := 32
def recEnd : Nat := 64
def recAudio : Nat := 128
def recTest : Nat := 256

/-- The 32 bytes of a record (11 R495); in Test mode it carries TEST (01 R46). -/
def recordBytes (test : Bool) (count len : Nat) (i : RecInfo) : Bytes :=
  layout 32 [(0, le 4 count), (4, le 4 len), (8, le 8 i.pts), (16, le 8 i.frame),
    (24, le 2 (i.flags + if test then recTest else 0)), (26, le 1 i.sap), (28, le 4 i.duration)]

/-- A unit, its record and the writeback word are written, in that order (11 R494 to R496). -/
def State.putUnit (s : State) (h : HostRing) (unit : Bytes) (i : RecInfo) : State × HostRing :=
  let count := h.dataProd + BitVec.ofNat 32 (h.skip unit.length)
  let h1 := { h with dataProd := count + BitVec.ofNat 32 unit.length, recProd := h.recProd + 1 }
  let s1 := s.hostWrite (h.dataBase + count.toNat % 2 ^ h.dataLog2) unit
  let s2 := s1.hostWrite (h.recBase + 32 * (h.recProd.toNat % 2 ^ h.recLog2)) (recordBytes (s.mode.current == .test) count.toNat unit.length i)
  (s2.hostWrite h.wbAddr (le 4 h1.recProd.toNat ++ le 4 h1.dataProd.toNat), h1)

/-! ### Stream formats (11 R497) -/

/-- Lengths in place of the start codes of an Annex B byte stream: `acc` holds the NAL unit in progress, reversed, none before
the first start code (11 R497). -/
def lengthPrefixed : Option Bytes → Bytes → Bytes
  | acc, 0#8 :: 0#8 :: 0#8 :: 1#8 :: rest =>
    (match acc with | some a => be 4 a.length ++ a.reverse | none => []) ++ lengthPrefixed (some []) rest
  | acc, b :: rest => lengthPrefixed (some (b :: acc.getD [])) rest
  | some a, [] => be 4 a.length ++ a.reverse
  | none, [] => []

/-- An access unit in the form of the data area (11 R497): `av1` for AV1, whose temporal delimiter OBU comes first. -/
def unitForm (av1 prefixed : Bool) (u : Bytes) : Bytes :=
  if !prefixed then u
  else if av1 then (match u with | 0x12#8 :: 0#8 :: rest => rest | _ => u)
  else lengthPrefixed none u

/-! ### Refresh (10 R450 to R456) -/

/-- Where a stream stands in its refresh. -/
structure RefreshPos where
  mode : Nat
  period : Nat
  pos : Nat
  cycling : Bool
deriving DecidableEq, Repr

/-- What a picture is. -/
structure PicKind where
  intra : Bool
  cycleStart : Bool
  /-- period of the cycle that it completes, 0 otherwise -/
  cycleEnd : Nat
deriving DecidableEq, Repr

/-- A refresh boundary falls before the next picture (10 R455). -/
def RefreshPos.boundary (x : RefreshPos) : Bool :=
  x.period == 0 || (x.mode == 1 && !x.cycling) || x.pos + 1 ≥ x.period

/-- A position with the cycle that its picture completes. -/
def RefreshPos.closing (x : RefreshPos) (intra start : Bool) : RefreshPos × PicKind :=
  (x, { intra := intra, cycleStart := start, cycleEnd := if x.mode == 1 && x.cycling && x.pos + 1 == x.period then x.period else 0 })

/-- The first picture of a stream (10 R450). -/
def firstPicture (codec mode period : Nat) : RefreshPos × PicKind :=
  if codec = 2 && mode = 1 && period ≥ 1 then RefreshPos.closing ⟨1, period, 0, true⟩ false true
  else RefreshPos.closing ⟨mode, period, 0, false⟩ true false

/-- A later picture, with the refresh settings in force and the settings that govern it; `scene` when it is coded from a scene
cut with SCENE_INTRA set (10 R451, R452, R456). -/
def RefreshPos.next (x : RefreshPos) (mode period : Nat) (scene : Bool) : RefreshPos × PicKind :=
  if x.boundary && period ≥ 1 && mode = 1 then RefreshPos.closing ⟨1, period, 0, true⟩ false true
  else if x.boundary && period ≥ 1 then
    RefreshPos.closing ⟨mode, period, 0, false⟩ true false
  else
    let y : RefreshPos := if x.boundary then ⟨mode, period, x.pos + 1, false⟩ else { x with pos := x.pos + 1 }
    if scene && y.mode == 0 then RefreshPos.closing { y with pos := 0 } true false else y.closing false false

/-! ### Buffer model (11 R479, R481) -/

/-- Bits that enter the model in one picture period, rounded down. -/
def CodeJob.bitsIn (j : CodeJob) : Nat := if j.num = 0 then 0 else j.rate.r * j.den * j.cfg.rateDiv / (j.num * j.fields)

/-- Fullness that the first picture of a stream sees (11 R479). -/
def CodeJob.firstFull (j : CodeJob) : Nat := j.rate.r * j.rate.initDelayUs / 1000000

/-- Bytes of filler that CBR adds to a unit of `bits` bits (11 R481). -/
def CodeJob.filler (j : CodeJob) (full bits : Nat) : Nat :=
  if j.rate.rcMode = 0 then cdiv (full - bits + j.bitsIn - j.rate.cpbSize) 8 else 0

/-- Fullness at the next removal (11 R479, R481). -/
def CodeJob.nextFull (j : CodeJob) (full bits : Nat) : Nat := min j.rate.cpbSize (full - bits + j.bitsIn)

end Sys2Proof.Machine
end

