-- ==== Sys2Proof/Machine/Motion.lean ====
section
/-! DEFINITION. What a stem computes from luma samples: block costs, activity, motion search and global motion, and the motion search of a
rendition (10 R439 to R446; 11 R473). -/
namespace Sys2Proof.Machine

/-! ### Blocks and costs (10 R439) -/

/-- A sample of a plane; a place outside takes the nearest one of the edge. DESIGN CHOICE (log entry 166). -/
def sampleAt (p : Picture) (x y : Int) : Int :=
  let l := p.getD (clampI 0 ((p.length : Int) - 1) y).toNat []
  ((l.getD (clampI 0 ((l.length : Int) - 1) x).toNat 0 : Nat) : Int)

/-- `n` lines of `n` samples from a place. -/
def blockAt (p : Picture) (x y : Int) (n : Nat) : List (List Int) :=
  (List.range n).map (fun j => (List.range n).map (fun i => sampleAt p (x + (i : Nat)) (y + (j : Nat))))

/-- The Hadamard transform of `2 ^ k` values. -/
def hadamard : Nat → List Int → List Int
  | 0, l => l
  | k + 1, l =>
    let a := l.take (l.length / 2)
    let b := l.drop (l.length / 2)
    hadamard k (List.zipWith (· + ·) a b) ++ hadamard k (List.zipWith (· - ·) a b)

/-- A matrix of `n` columns with its columns as rows. -/
def flipped (n : Nat) (m : List (List Int)) : List (List Int) := (List.range n).map (fun i => m.map (fun l => l.getD i 0))

/-- Sum of the absolute values of the Hadamard transform of a square of `2 ^ k` differences. -/
def hadamardSum (k : Nat) (m : List (List Int)) : Nat :=
  ((flipped (2 ^ k) (m.map (hadamard k))).map (fun l => ((hadamard k l).map Int.natAbs).foldl (· + ·) 0)).foldl (· + ·) 0

/-- SATD of a block of `n` by `n` samples of one plane against a place in another; the size of the transforms is free (10 R439). -/
def satd (n : Nat) (cur other : Picture) (x y u v : Int) : Nat :=
  let k := min Config.hadamardLog2 (Nat.log2 n)
  let q := 2 ^ k
  let at0 := fun (i : Nat) => ((i : Int) * (q : Nat))
  ((List.range (n / q * (n / q))).map (fun b =>
    let dx := at0 (b % (n / q))
    let dy := at0 (b / (n / q))
    hadamardSum k (List.zipWith (List.zipWith (· - ·)) (blockAt cur (x + dx) (y + dy) q) (blockAt other (u + dx) (v + dy) q)))).foldl (· + ·) 0

/-- Luma variance of a block times the square of its number of samples (10 R439; log entry 166). -/
def variance (m : List (List Int)) : Nat :=
  let l := m.flatten
  ((l.length : Int) * (l.map (fun v => v * v)).foldl (· + ·) 0 - l.foldl (· + ·) 0 * l.foldl (· + ·) 0).toNat

/-! ### Vectors (10 R444) -/

/-- The entry of least cost, the first of equal ones. -/
def cheapest (l : List (Vec × Nat)) : Option (Vec × Nat) :=
  l.foldl (fun a e => match a with | some b => if e.2 < b.2 then some e else some b | none => some e) none

/-- The two entries of least cost with distinct vectors. -/
def bestTwo (l : List (Vec × Nat)) : List (Vec × Nat) :=
  match cheapest l with
  | none => []
  | some a => a :: (match cheapest (l.filter (fun e => e.1 != a.1)) with | some b => [b] | none => [])

/-- A vector moved. -/
def vecPlus (a b : Vec) : Vec := (a.1 + b.1, a.2 + b.2)

/-- Offsets of up to `h` columns and `v` lines in steps. -/
def around (h v step : Nat) : List Vec :=
  let side := fun n : Nat => (List.range (2 * (n / step) + 1)).map (fun (i : Nat) => ((i : Int) - (n / step : Nat)) * step)
  (side v).flatMap (fun dy => (side h).map (fun dx => (dx, dy)))

/-- Luma at full, 1/2 and 1/4 resolution (10 R444). -/
def pyramid (p : Picture) : List Picture := [p, Config.halve p, Config.halve (Config.halve p)]

/-- Cost of a vector at a level of the pyramids: 0 full, 1 half, 2 quarter resolution. -/
def levelCost (cur other : List Picture) (x y level : Nat) (v : Vec) : Nat :=
  let q := 2 ^ level
  satd (16 / q) (cur.getD level []) (other.getD level []) (x / q : Nat) (y / q : Nat)
    (((x : Int) + v.1).ediv (q : Nat)) (((y : Int) + v.2).ediv (q : Nat))

/-- The search of a window around a vector: over all of it at 1/4 resolution, then around the best at 1/2 and at full resolution, inside the
window; what the last level evaluates (10 R444; log entry 166). -/
def windowSearch (h v : Nat) (cur other : List Picture) (x y : Nat) (c : Vec) : List (Vec × Nat) :=
  let inside := fun (w : Vec) => (w.1 - c.1).natAbs ≤ h && (w.2 - c.2).natAbs ≤ v
  let level := fun (n : Nat) (l : List Vec) => (l.filter inside).map (fun w => (w, levelCost cur other x y n w))
  let finer := fun (n : Nat) (l : List (Vec × Nat)) =>
    match cheapest l with
    | some b => level n ((around (Config.refineRange n) (Config.refineRange n) (2 ^ n)).map (vecPlus b.1))
    | none => []
  finer 0 (finer 1 (level 2 ((around h v 4).map (vecPlus c))))

/-! ### Global motion (10 R439, R442) -/

/-- Where an affine model takes a place from, less the place, in units of 1/65,536 sample. -/
def Affine.at (m : Affine) (x y : Int) : Vec := (m.a * x + m.b * y + m.c - 65536 * x, m.d * x + m.e * y + m.f - 65536 * y)

/-- Its parameters. -/
def Affine.list (m : Affine) : List Int := [m.a, m.b, m.c, m.d, m.e, m.f]

/-- The identity model. -/
def Affine.identity : Affine := ⟨65536, 0, 0, 0, 65536, 0⟩

/-- Centre of block `b` of a row of `wb` blocks. -/
def blockCentre (wb b : Nat) : Int × Int := (((16 * (b % wb) + 8 : Nat) : Int), ((16 * (b / wb) + 8 : Nat) : Int))

/-- The global model of a frame: the fit to its block vectors, identity when fewer than 30 % of the blocks lie within one luma sample of it
(10 R442). -/
def fitModel (wb : Nat) (vectors : List Vec) : Option Affine :=
  let pts := vectors.zipIdx.map (fun e => (blockCentre wb e.2, e.1))
  let l := Config.affineFit pts
  let m : Affine := ⟨l.getD 0 0, l.getD 1 0, l.getD 2 0, l.getD 3 0, l.getD 4 0, l.getD 5 0⟩
  let near := pts.filter (fun e =>
    let g := m.at e.1.1 e.1.2
    let dx := g.1 - 65536 * e.2.1
    let dy := g.2 - 65536 * e.2.2
    decide (dx * dx + dy * dy ≤ 65536 * 65536))
  if near.length * 100 < 30 * pts.length || pts.isEmpty || m = Affine.identity then none else some m

/-! ### The analysis of a picture (10 R439, R440, R444; 11 R473) -/

/-- Blocks of 16 columns in a row of a plane. -/
def planeBlocks (p : Picture) : Nat := max 1 (cdiv (p.headD []).length 16)

/-- The candidates of a block against reference `r`, in their order: zero; the final vectors of the left, above and above-right blocks; the
co-located vector of the frame before; the frame before's global model at the centre (10 R444; log entry 166). -/
def stemCandidates (wb b r : Nat) (found : List BlockResult) (last : Analysis) : List Vec :=
  let vectors := fun (x : Option BlockResult) (q : Nat) => match x with | some y => (y.motion.getD q []).map (·.1) | none => []
  let c := blockCentre wb b
  [(0, 0)] ++
  (if b % wb = 0 then [] else vectors found[b - 1]? r) ++
  (if b < wb then [] else vectors found[b - wb]? r ++ (if b % wb + 1 = wb then [] else vectors found[b + 1 - wb]? r)) ++
  (vectors last.blocks[b]? 0).take 1 ++
  (match last.model with | some m => [(roundDiv (m.at c.1 c.2).1 65536, roundDiv (m.at c.1 c.2).2 65536)] | none => [(0, 0)])

/-- The two best vectors of a block against one reference (10 R444). -/
def searchBlock (c : StemCfg) (cur other : List Picture) (x y : Nat) (candidates : List Vec) : List (Vec × Nat) :=
  let kept := bestTwo ((candidates.eraseDups.take c.candidates).map (fun v => (v, levelCost cur other x y 0 v)))
  bestTwo (kept ++ kept.flatMap (fun e => windowSearch c.searchH c.searchV cur other x y e.1))

/-- Best inter cost of a block over its references, none without a reference. -/
def BlockResult.inter (b : BlockResult) : Option Nat := (cheapest (b.motion.flatten)).map (·.2)

/-- Best inter cost of a block against the frame before (10 R441). -/
def BlockResult.interLast (b : BlockResult) : Option Nat := (cheapest (b.motion.getD 0 [])).map (·.2)

/-- The analysis of a picture against the pictures before it, newest first; `late` names the blocks of bands that did not end: zero vectors at
their intra cost and the activity of the picture before (10 R439, R440, R442, R444; 11 R473). -/
def analyse (c : StemCfg) (luma : Picture) (refs : List Picture) (last : Analysis) (late : Nat → Bool) : Analysis :=
  let wb := planeBlocks luma
  let cur := pyramid luma
  let others := (refs.take c.refs).map pyramid
  let blocks := (List.range (wb * cdiv luma.length 16)).foldl (fun (found : List BlockResult) b =>
    let x := 16 * (b % wb)
    let y := 16 * (b / wb)
    let intra := Config.intraCost (blockAt luma ((x : Int) - 16) ((y : Int) - 16) 48)
    found ++ [if late b then
      { motion := others.map (fun _ => [((0, 0), intra)]), intra := intra
        activity := match last.blocks[b]? with | some q => q.activity | none => 0 }
    else
      { motion := others.zipIdx.map (fun e => searchBlock c cur e.1 x y (stemCandidates wb b e.2 found last)), intra := intra
        activity := variance (blockAt luma x y 16) }]) []
  let vectors := blocks.map (fun q => match cheapest (q.motion.getD 0 []) with | some v => v.1 | none => (0, 0))
  { blocks := blocks
    complexity := (blocks.map (fun q => match q.inter with | some n => min n q.intra | none => q.intra)).foldl (· + ·) 0
    model := if c.flags.getLsbD 1 && !others.isEmpty then fitModel wb vectors else none }

/-- Blocks whose best inter cost against the frame before exceeds their intra cost (10 R441, R465). -/
def Analysis.changed (a : Analysis) : Nat := (a.blocks.filter (fun q => q.interLast.any (· > q.intra))).length

/-! ### The motion search of a rendition (10 R445, R446) -/

/-- A coded block covers a place. -/
def blockCovers (b : CodedBlock) (x y : Int) : Bool :=
  (b.x : Int) ≤ x && x < ((b.x + b.w : Nat) : Int) && (b.y : Int) ≤ y && y < ((b.y + b.h : Nat) : Int)

/-- Vectors of the coded block at a place. -/
def vectorsAt (l : List CodedBlock) (x y : Int) (ref : Option Nat) : List Vec :=
  match l.find? (fun b => blockCovers b x y) with
  | some b =>
    (match b.mode with
     | .inter _ rs => (rs.filter (fun e => match ref with | some r => e.ref == r | none => true)).map (·.vec)
     | .intra _ _ => [])
  | none => []

/-- What the motion search of a rendition's block works with. -/
structure RendSearch where
  codec : Nat
  /-- stem settings: candidates and SUBPEL16 (10 R443) -/
  stem : StemCfg
  /-- size of the stem's picture and of the rendition's -/
  stemW : Nat
  stemH : Nat
  width : Nat
  height : Nat
  /-- the stem's results for the frame (10 R439) -/
  result : Analysis
  /-- rate_div of the rendition (10 R446) -/
  rateDiv : Nat
  /-- luma to be coded (10 R438) -/
  luma : Picture
  /-- blocks of the picture coded before this one, and those of the last picture -/
  done : List CodedBlock
  last : List CodedBlock

/-- A vector of the stem in 1/16 sample of the rendition (10 R445). -/
def RendSearch.scaled (q : RendSearch) (v : Vec) (unit : Int) : Vec :=
  (roundDiv (16 * v.1 * (q.width : Nat)) (unit * (max 1 q.stemW : Nat)), roundDiv (16 * v.2 * (q.height : Nat)) (unit * (max 1 q.stemH : Nat)))

/-- The candidates of a block against reference `ref`, in their order, in 1/16 sample (10 R445, R446; log entry 167). -/
def RendSearch.candidates (q : RendSearch) (b : CodedBlock) (ref : Nat) : List Vec :=
  let wb := max 1 (cdiv q.stemW 16)
  let col := fun (x : Nat) => x * q.stemW / max 1 q.width / 16
  let row := fun (y : Nat) => y * q.stemH / max 1 q.height / 16
  let over0 := (List.range (row (b.y + b.h - 1) + 1 - row b.y)).flatMap (fun j =>
    (List.range (col (b.x + b.w - 1) + 1 - col b.x)).map (fun i => (row b.y + j) * wb + col b.x + i))
  let cx := (((2 * b.x + b.w) * q.stemW / (2 * max 1 q.width) : Nat) : Int)
  let cy := (((2 * b.y + b.h) * q.stemH / (2 * max 1 q.height) : Nat) : Int)
  (over0.take 4).flatMap (fun i => match q.result.blocks[i]? with
    | some r => (r.motion.getD (ref * q.rateDiv - 1) []).map (fun e => q.scaled e.1 1)
    | none => []) ++
  [match q.result.model with | some m => q.scaled (m.at cx cy) 65536 | none => (0, 0)] ++
  vectorsAt q.done ((b.x : Int) - 1) (b.y : Nat) (some ref) ++ vectorsAt q.done (b.x : Nat) ((b.y : Int) - 1) (some ref) ++
  vectorsAt q.done ((b.x + b.w : Nat) : Int) ((b.y : Int) - 1) (some ref) ++
  vectorsAt q.last ((b.x + b.w / 2 : Nat) : Int) ((b.y + b.h / 2 : Nat) : Int) none

/-- A coded vector: rounded to the finest precision of the codec and clamped to its range, in 1/16 sample (10 R445). The ranges are PRESUMED
from the codecs' standards (log entry 167). -/
def codedVector (codec : Nat) (v : Vec) : Vec :=
  let step : Int := match codec with | 2 => 1 | 3 => 2 | _ => 4
  let lim : Vec := match codec with | 1 => (131072, 131072) | 2 => (131072, 131072) | 3 => (32768, 32768) | _ => (32768, 8192)
  let r := fun (n m : Int) => clampI (-m) (m - step) (step * roundDiv n step)
  (r v.1 lim.1, r v.2 lim.2)

/-- The vector of a block against reference `ref`, in 1/16 sample: the two best candidates at integer precision, +-8 by +-8 samples around
each, then finer steps, each around the best so far (10 R445; log entry 167). -/
def RendSearch.vector (q : RendSearch) (b : CodedBlock) (ref : Nat) : Vec :=
  let cost := fun (v : Vec) => (v, Config.blockCost q.luma [b.x, b.y, b.w, b.h] ref v)
  let whole := fun (v : Vec) => (16 * roundDiv v.1 16, 16 * roundDiv v.2 16)
  let kept := bestTwo (((((q.candidates b ref).map whole).eraseDups).take q.stem.candidates).map cost)
  let searched := kept ++ kept.flatMap (fun e => (around 128 128 16).map (fun d => cost (vecPlus e.1 d)))
  let steps := if q.stem.flags.getLsbD 2 then [8, 4, 2, 1] else [8, 4]
  let best := steps.foldl (fun (a : Option (Vec × Nat)) n =>
    match a with
    | some e => cheapest (e :: (around n n n).map (fun d => cost (vecPlus e.1 d)))
    | none => none) (cheapest searched)
  codedVector q.codec (match best with | some e => e.1 | none => (0, 0))

end Sys2Proof.Machine
end

