-- ==== Sys2Proof/Machine/Coding.lean ====
section
/-! DEFINITION. What a coded picture of Clause may hold: tools and block sizes, references, refreshed regions, floor rows and row budgets, the
conversion of its input and what its access unit signals (10 R433 to R438, R448, R450 to R454, R458, R459; 11 R475, R480, R483, R484). -/
namespace Sys2Proof.Machine

/-! ### Tools and blocks (10 R436, R437) -/

/-- The coding tools that a codec uses (10 R436, R437). -/
def toolsUsed (codec : Nat) : List CodingTool :=
  match codec with
  | 1 => [.asymmetricPartitions, .intra35, .transformSkip, .signHiding, .merge5, .tmvp, .deblocking, .sao, .cabac, .tiles, .slices, .wpp, .bSlices]
  | 2 => [.nestedSplits, .dualTree, .intra67, .mrl, .isp, .mip, .cclm, .mts, .lfnst, .sbt, .dependentQuant, .mmvd, .sbTmvp, .gpm, .ciip,
          .affine4, .affine6, .amvr, .bdof, .dmvr, .prof, .lmcs, .deblocking, .sao, .alf, .ccAlf, .gdr, .virtualBoundaries, .tiles, .slices,
          .wpp, .bSlices]
  | 3 => [.partitionTypes, .directional, .smooth, .paeth, .filterIntra, .cfl, .dct, .adst, .flipAdst, .identityTransform, .averageCompound,
          .distanceCompound, .globalMotion, .deblocking, .cdef, .loopRestoration, .tiles]
  | _ => [.cabac, .transform8, .intra4, .intra8, .intra16, .inter16to8, .pSlices, .deblocking, .slices, .fieldPictures]

/-- Tools that R436 names as never used by a codec. -/
def toolsNever (codec : Nat) : List CodingTool :=
  match codec with
  | 1 => [.pcm, .scalingLists, .weightedPrediction, .longTermRefs, .rangeExtension, .lossless]
  | 2 => [.ibc, .palette, .act, .referenceResampling, .subpictures, .multipleLayers, .scalingLists]
  | 3 => [.palette, .ibc, .wedgeCompound, .differenceCompound, .obmc, .warpedMotion, .superResolution, .filmGrain, .switchFrames, .operatingPoints]
  | _ => [.cavlc, .subPartitions, .bSlices, .weightedPrediction, .mbaff, .flexibleOrdering, .scalingLists]

/-- A block has a size that its codec's tools give (10 R436). -/
def blockSized (codec : Nat) (b : CodedBlock) : Bool :=
  let side := fun (n : Nat) => n % 4 == 0 && within n 4 (codingBlock codec)
  match codec, b.mode with
  | 4, .inter _ _ => (b.w == 8 || b.w == 16) && (b.h == 8 || b.h == 16)
  | 4, .intra _ _ => b.w == b.h && (b.w == 4 || b.w == 8 || b.w == 16)
  | _, _ => side b.w && side b.h

/-- Most references of one block: one in AVC's P slices, two elsewhere (10 R437). -/
def refsPerBlock (codec : Nat) : Nat := if codec = 4 then 1 else 2

/-! ### Gradual refresh (10 R452, R453) -/

/-- The rules that govern the coding of one picture. -/
structure PicRules where
  job : CodeJob
  /-- partitions (10 R459) -/
  parts : Nat
  intra : Bool
  /-- index within the refresh cycle, and its period, 0 for none -/
  pos : Nat
  period : Nat
  /-- earlier pictures that it may refer to -/
  avail : Nat
  /-- bits of its budget -/
  budget : Nat
  /-- what its motion search works with -/
  search : RendSearch

/-- Width of a picture in coding blocks (10 R452). -/
def CodeJob.columns (j : CodeJob) : Nat := cdiv j.cfg.width (codingBlock j.cfg.codec)

/-- Columns refreshed once `n` pictures of a cycle of `period` are coded: e(n - 1) (10 R452). -/
def CodeJob.refreshed (j : CodeJob) (period n : Nat) : Nat := cdiv (n * j.columns) period

/-- The first luma column outside the refreshed region of picture `i` of the cycle, 0 without a cycle (10 R452). -/
def PicRules.edge (p : PicRules) (i : Nat) : Nat := if p.period = 0 then 0 else p.job.refreshed p.period (i + 1) * codingBlock p.job.cfg.codec

/-- A block lies in the refreshed region of its picture (10 R452). -/
def PicRules.inRegion (p : PicRules) (b : CodedBlock) : Bool := decide (b.x < p.edge p.pos)

/-- A block lies in the columns that its picture codes intra (10 R452). -/
def PicRules.intraColumn (p : PicRules) (b : CodedBlock) : Bool := p.inRegion b && (p.pos = 0 || decide (p.edge (p.pos - 1) ≤ b.x))

/-- The constraints of a refresh cycle on a block (10 R452, R453). -/
def PicRules.refreshOk (p : PicRules) (b : CodedBlock) : Bool :=
  !p.inRegion b ||
  (match b.mode with
   | .intra _ reach => decide (reach ≤ p.edge p.pos)
   | .inter _ refs => !p.intraColumn b &&
       refs.all (fun r => decide (r.ref ≤ p.pos) && decide (r.foot + 8 ≤ p.edge (p.pos - r.ref))))

/-- References, vectors and footprints of a block (10 R437, R445, R446). -/
def PicRules.refsOk (p : PicRules) (b : CodedBlock) : Bool :=
  match b.mode with
  | .intra _ _ => true
  | .inter _ refs =>
    !p.intra && within refs.length 1 (refsPerBlock p.job.cfg.codec) &&
    refs.all (fun r => within r.ref 1 (min p.job.cfg.refs p.avail) && codedVector p.job.cfg.codec r.vec == r.vec &&
      decide (16 * ((b.x + b.w : Nat) : Int) + r.vec.1 ≤ 16 * (r.foot : Int)))

/-- A block of a row coded normally (10 R436, R437, R453; 11 R480). -/
def PicRules.blockOk (p : PicRules) (b : CodedBlock) : Bool :=
  blockSized p.job.cfg.codec b && p.refsOk b && p.refreshOk b && within b.qp p.job.rate.qpMin p.job.rate.qpMax

/-- A block of a floor row (11 R484). -/
def PicRules.floorBlock (p : PicRules) (b : CodedBlock) : Bool :=
  !b.residual && b.qp == (if p.job.cfg.codec = 3 then 255 else 51) && p.refsOk b && p.refreshOk b &&
  (match b.mode with
   | .intra dc _ => dc && (p.intra || p.inRegion b)
   | .inter skip refs => skip && !p.inRegion b && refs.map (fun r => (r.ref, r.vec)) == [(1, ((0 : Int), (0 : Int)))])

/-- The vectors of a partition that its motion search found are those of R445. -/
def PicRules.vectorsOk (p : PicRules) (blocks : List CodedBlock) : Bool :=
  (blocks.foldl (fun (a : List CodedBlock × Bool) b =>
    let q := { p.search with done := a.1 }
    (a.1 ++ [b], a.2 && (match b.mode with
      | .inter _ refs => refs.all (fun r => !r.found || r.vec == q.vector b r.ref)
      | .intra _ _ => true))) (([] : List CodedBlock), true)).2

/-! ### Partitions (10 R458, R459; 11 R483) -/

/-- Coding blocks of part `i` of `n` of a length of `len`: the larger parts come first (10 R459). -/
def partSize (len n i : Nat) : Nat := len / max 1 n + (if i < len % max 1 n then 1 else 0)

/-- Where part `i` begins. -/
def partStart (len n i : Nat) : Nat := i * (len / max 1 n) + min i (len % max 1 n)

/-- Rows of one partition's job of a picture (10 R458, R459). -/
def CodeJob.partRows (j : CodeJob) (n part : Nat) : Nat := if splitUsed j.cfg n = 1 then j.rows else partSize j.rows n part

/-- A partition covers a place of the picture (10 R458). -/
def CodeJob.partCovers (j : CodeJob) (n part x y : Nat) : Bool :=
  let b := codingBlock j.cfg.codec
  if splitUsed j.cfg n = 1 then
    decide (partStart j.columns n part ≤ x / b) && decide (x / b < partStart j.columns n part + partSize j.columns n part)
  else if splitUsed j.cfg n = 3 then y / b % max 1 n == part
  else decide (partStart j.rows n part ≤ y / b) && decide (y / b < partStart j.rows n part + partSize j.rows n part)

/-- A coded block lies in its partition and its picture. -/
def PicRules.placed (p : PicRules) (part : Nat) (b : CodedBlock) : Bool :=
  p.job.partCovers p.parts part b.x b.y && decide (b.x < p.job.columns * codingBlock p.job.cfg.codec) &&
    decide (b.y < p.job.rows * codingBlock p.job.cfg.codec)

/-- Stem complexity of the blocks that a partition covers; a stem block counts for the partition that holds its centre
(11 R483; log entry 168). -/
def PicRules.partComplexity (p : PicRules) (part : Nat) : Nat :=
  let wb := max 1 (cdiv p.search.stemW 16)
  ((p.search.result.blocks.zipIdx.filter (fun e =>
    p.job.partCovers p.parts part ((16 * (e.2 % wb) + 8) * p.job.cfg.width / max 1 p.search.stemW)
      ((16 * (e.2 / wb) + 8) * p.job.picHeight / max 1 p.search.stemH))).map (fun e =>
    match e.1.inter with | some n => min n e.1.intra | none => e.1.intra)).foldl (· + ·) 0

/-- Bits that a partition may spend on its data: its share of the budget less the headers, rounded down; equal shares without complexity
(11 R483; log entry 168). -/
def PicRules.partBudget (p : PicRules) (header part : Nat) : Nat :=
  let all := ((List.range p.parts).map p.partComplexity).foldl (· + ·) 0
  if splitUsed p.job.cfg p.parts = 3 then p.budget - header
  else if all = 0 then (p.budget - header) / max 1 p.parts
  else (p.budget - header) * p.partComplexity part / all

/-- Rows in their order, floor rows marked, keep their caps: what is spent, the row and the reserve of the rows after it stay within the
budget, and a floor row costs at most F_row (11 R482, R483). -/
def rowsFit (budget row : Nat) : Nat → List (Bool × Nat) → Bool
  | _, [] => true
  | spent, (isFloor, bits) :: rest =>
    (if isFloor then decide (bits ≤ row) else decide (spent + bits + rest.length * row ≤ budget)) && rowsFit budget row (spent + bits) rest

/-- The rows of a partition with their bits, those in floor mode marked. -/
def partSeq (o : PartOutput) : List (Bool × Nat) := o.rows.map (fun r => (false, r.bits)) ++ o.floor.map (fun r => (true, r.bits))

/-- Floor mode has its reason: a coding that exceeded its cap was discarded, or the rows left at the cut time (11 R474, R483, R500). -/
def floorReason (budget row spent floors cut : Nat) (discarded : Option Nat) : Bool :=
  match discarded with
  | some n => decide (cut ≤ floors) && decide (1 ≤ floors) && decide (spent + n + (floors - 1) * row > budget)
  | none => floors == cut

/-- Bits of the rows coded normally. -/
def normalBits (l : List PartOutput) : Nat := (l.map (fun o => (o.rows.map (·.bits)).foldl (· + ·) 0)).foldl (· + ·) 0

/-- Rows in floor mode. -/
def floorRowsOf (l : List PartOutput) : Nat := (l.map (fun o => o.floor.length)).foldl (· + ·) 0

/-- Rows dealt to `n` cores in turn, in picture order (10 R458). -/
def dealt (rows n : Nat) (l : List (List (Bool × Nat))) : List (Bool × Nat) :=
  (List.range rows).filterMap (fun k => (l.getD (k % max 1 n) [])[k / max 1 n]?)

/-- The budget rule of the partitions of a picture: of each by itself, or of a wavefront picture as a whole once all its jobs have ended;
`cut` are the rows that each partition left at its cut time (11 R474, R483). -/
def PicRules.budgetOk (p : PicRules) (header part : Nat) (outs : List (Nat × PartOutput)) (cut : List (Nat × Nat)) : Bool :=
  let f := p.job.floorRow
  let cutOf := fun (i : Nat) => match cut.find? (fun e => e.1 == i) with | some e => e.2 | none => 0
  if splitUsed p.job.cfg p.parts = 3 then
    let l := (List.range p.parts).filterMap (fun i => (outs.find? (fun e => e.1 == i)).map (·.2))
    outs.length < p.parts ||
      (rowsFit (p.partBudget header 0) f 0 (dealt p.job.rows p.parts (l.map partSeq)) &&
       floorReason (p.partBudget header 0) f (normalBits l) (floorRowsOf l) ((cut.map (·.2)).foldl (· + ·) 0) ((l.filterMap (·.discarded)).head?))
  else
    match outs.find? (fun e => e.1 == part) with
    | none => true
    | some e =>
      rowsFit (p.partBudget header part) f 0 (partSeq e.2) &&
        floorReason (p.partBudget header part) f (normalBits [e.2]) e.2.floor.length (cutOf part) e.2.discarded

/-- What a core may hand back for a partition, its bits apart: its rows, tools, blocks and vectors (10 R436, R437, R445, R453; 11 R480,
R484). -/
def PicRules.partOk (p : PicRules) (part : Nat) (o : PartOutput) : Bool :=
  let normal := o.rows.flatMap (·.blocks)
  let floors := o.floor.flatMap (·.blocks)
  o.rows.length + o.floor.length == p.job.partRows p.parts part && o.tools.all (toolsUsed p.job.cfg.codec).contains &&
    (!o.tools.contains .dualTree || p.intra) && (!o.tools.contains .fieldPictures || p.job.fields == 2) &&
    (normal ++ floors).all (p.placed part) && normal.all p.blockOk && floors.all p.floorBlock && p.vectorsOk (normal ++ floors)

/-- Mean quantiser of partitions, by their rows, rounded down (11 R501; log entry 168). -/
def meanQp (l : List PartOutput) : Nat :=
  let rows := (l.map (fun o => o.rows.length + o.floor.length)).foldl (· + ·) 0
  (l.map (fun o => o.qp * (o.rows.length + o.floor.length))).foldl (· + ·) 0 / max 1 rows

/-- The blocks of a picture's partitions. -/
def blocksOf (l : List PartOutput) : List CodedBlock := l.flatMap (fun o => (o.rows ++ o.floor).flatMap (·.blocks))

/-! ### Input and signals (10 R433, R438, R442, R448, R450, R454; 11 R475, R476) -/

/-- Half of the lines of a chroma plane, by a vertical filter (10 R438). -/
def halfLines (p : Picture) : Picture := transpose ((transpose p).map (fun col => (List.range (col.length / 2)).map (Config.chromaHalf col)))

/-- The picture that a rendition codes from its feed's 4:2:2 10-bit samples: scaled where the size differs, chroma filtered to 4:2:0, rounded to
8 bits (10 R438). DESIGN CHOICE (log entry 169): the scaler's 12-bit codes are rounded to 10 bits before the next step. -/
def rendInput (c : RendCfg) (fields : Nat) (p : Picture) : List Picture :=
  let q := planesOf 0 p
  let w := (q.a.headD []).length
  let h := q.a.length
  let ph := c.height / max 1 fields
  let sized := if w = c.width && h = ph then q else
    (scalePlanes 0 6 (boxFactor w c.width) (boxFactor h ph) c.width ph (q.mapSamples (depthCode false true))).mapSamples (depthCode true false)
  let depth := fun (x : Picture) => if c.bitDepth = 8 then x.map (fun l => l.map (fun v => min 255 ((v + 2) / 4))) else x
  let chroma := fun (x : Picture) => if c.chroma = 0 then halfLines x else x
  [depth sized.a, depth (chroma sized.b), depth (chroma sized.c)]

/-- Code points of a colour byte (10 R438). -/
def colourPoints (colour : Nat) : ColourPoints :=
  let wide := colour % 16 == 2
  { primaries := if wide then 9 else 1
    transfer := match colour / 16 with | 2 => 18 | 3 => 16 | _ => 1
    matrix := if wide then 9 else 1
    location := if wide then 2 else 0 }

/-- The buffer model that a rendition signals: its own, in AV1 that of the level and tier (11 R475). -/
def CodeJob.bufferModel (j : CodeJob) : BufferModel :=
  let own : BufferModel := { rate := j.rate.r, cpb := j.rate.cpbSize, cbr := j.rate.rcMode == 0, delayUs := j.rate.initDelayUs }
  if j.cfg.codec = 3 then
    (match levelRow 3 j.cfg.level with
     | some x => { own with rate := (if j.cfg.flags.getLsbD 0 then x.brHigh else x.brMain) * 1000
                            cpb := (if j.cfg.flags.getLsbD 0 then x.cpbHigh else x.cpbMain) * 1000 }
     | none => own)
  else own

/-- What the parameter sets of a stream say (10 R433 to R438, R448, R458; 11 R475). -/
def CodeJob.params (j : CodeJob) (n colour : Nat) : StreamParams :=
  let b := codingBlock j.cfg.codec
  { codec := j.cfg.codec, profile := j.cfg.profile, level := j.cfg.level
    high := j.cfg.flags.getLsbD 0 && (j.cfg.codec != 3 || j.cfg.level ≥ 40)
    width := j.cfg.width, height := j.picHeight, codedW := j.columns * b, codedH := j.rows * b, depth := j.cfg.bitDepth
    chroma := j.cfg.chroma, refs := j.cfg.refs, fields := j.fields == 2, sync := splitUsed j.cfg n == 3
    colour := colourPoints colour, model := j.bufferModel }

/-- Type of a picture (10 R437, R450, R451, R454). -/
def picType (codec : Nat) (intra cycleStart : Bool) : PicType :=
  match codec with
  | 1 => if intra then .idrNLp else .trailR
  | 2 => if intra then .idrNLp else if cycleStart then .gdr else .interB
  | 3 => if intra then .keyFrame else .interFrame
  | _ => if intra then .idr else .interP

/-- The recovery signal of the first picture of a cycle of `period` (10 R454). -/
def recoverySignal (codec period : Nat) : Signal :=
  match codec with
  | 2 => .gdrRecovery (period - 1)
  | 3 => .metadata ([0x4C, 0x52, 0x01] ++ be 2 (period - 1))
  | _ => .recoveryPoint (period - 1)

/-- The type of global motion parameters of lower cost (10 R442). -/
def globalSignal (m : Affine) : Signal := .globalMotion (decide (Config.globalCost true m.list ≤ Config.globalCost false m.list)) m

/-- What goes with a picture in its access unit (10 R433, R438, R442, R450, R454; 11 R475, R476); `starts` where it begins a stream. -/
def CodeJob.signals (j : CodeJob) (n colour field : Nat) (starts : Bool) (k : PicKind) (pos period : Nat) (model : Option Affine) : List Signal :=
  let c := j.cfg.codec
  let sets := starts || k.intra || k.cycleStart
  let p := j.params n colour
  (if j.rate.flags.getLsbD 0 && c != 3 then [.delimiter] else []) ++
  (if !sets then [] else if c = 3 then [.sequenceHeader p] else (if c = 1 then [.vps] else []) ++ [.sps p, .pps]) ++
  (if sets && c != 3 then [.bufferingPeriod j.rate.initDelayUs] else []) ++
  (if j.fields = 2 && c = 1 then [.pictureTiming (field + 1)] else if sets && c = 4 then [.pictureTiming (if j.fields = 2 then field + 1 else 0)] else []) ++
  (if k.cycleStart then [recoverySignal c period] else []) ++
  (if c = 2 && period != 0 && j.refreshed period (pos + 1) * 128 < j.cfg.width then [.virtualBoundary (128 * j.refreshed period (pos + 1))] else []) ++
  (match model with | some m => if c = 3 && !k.intra then [globalSignal m] else [] | none => []) ++
  [.picture (picType c k.intra k.cycleStart)]

end Sys2Proof.Machine
end

