-- ==== Sys2Proof/Machine/Rider.lean ====
section
/-! DEFINITION. Rider: queues, eligibility, dispatch, preemption, trace and the life of back-fill jobs (12 R506 to R526). -/
namespace Sys2Proof.Machine

/-! ### Consumers (12 R506; 01 R42) -/

/-- Key of a consumer: kind 0 Clause core, 1 decode core, 2 control worker; cores are numbered over the device. -/
def coreKey (n kind idx : Nat) : Nat := 256 * kind + (if kind = 2 then 64 * n + idx else idx)

/-- A consumer exists in a reach: a core that is present there, or a worker of the control complex. -/
def State.consumerIn (s : State) (n kind idx : Nat) : Bool :=
  reachFitted s.fused.part n &&
  match kind with
  | 0 => idx / 16 == n && s.usable .clause idx
  | 1 => idx / 4 == n && s.usable .decode idx
  | 2 => idx < 64
  | _ => false

/-- Consumers of one kind in a reach that the state lists, as their keys. -/
def State.consumers (s : State) (n kind : Nat) : List Nat :=
  (s.cores.filter (fun e => e.1 / 256 == kind &&
    (match kind with | 0 => e.1 % 256 / 16 == n | 1 => e.1 % 256 / 4 == n | _ => e.1 % 256 / 64 == n))).map (·.1)

/-- Queue of a kind of consumer (12 R506). -/
def RiderSt.queue (r : RiderSt) (kind : Nat) : List Item := match kind with | 0 => r.clause | 1 => r.decode | _ => r.control

/-- A queue replaced. -/
def RiderSt.setQueue (r : RiderSt) (kind : Nat) (q : List Item) : RiderSt :=
  match kind with | 0 => { r with clause := q } | 1 => { r with decode := q } | _ => { r with control := q }

/-- Most items of a queue (12 R510). -/
def queueRoom (kind : Nat) : Nat := if kind = 0 then 4096 else 1024

/-- Kind of consumer that serves a class (12 R506, R526). -/
def classKind (c : ItemClass) : Nat := match c with | .decodePart => 1 | .control => 2 | _ => 0

/-- Code of a class in the trace (12 R526). -/
def classCode (c : ItemClass) : Nat :=
  match c with
  | .stemBand => 0 | .rendPart => 1 | .packaging => 2 | .rateUpdate => 3 | .backfill => 4 | .decodePart => 5 | .control => 6

/-- Level of a live class (12 R507). -/
def classLevel (c : ItemClass) : Nat := match c with | .packaging | .rateUpdate => 0 | .stemBand => 1 | .rendPart => 2 | .decodePart => 3 | _ => 15

/-- Atomic flow of a rendition's packaging jobs and rate-control updates (12 R509). -/
def rendFlow (r : Nat) : Nat := 1 + r

/-- Atomic flow of a back-fill job's pictures (12 R509). -/
def jobFlow (h : Nat) : Nat := 257 + h

/-- A live Clause item (12 R507, R512). -/
def Item.live (i : Item) : Bool := i.cls != .backfill

/-! ### Trace (12 R525, R526; 15 R654) -/

/-- An entry in the trace ring of a reach, within the writer's limit of 10,000 a second (12 R525). -/
def State.traceAdd (s : State) (n action kind key : Nat) (it : Item) : State :=
  let c := s.core key
  let sec := s.nowS
  let k := if c.entryS = sec then c.entries else 0
  if k ≥ 10000 then (s.count cntTraceLost n 1).stormDrop true
  else
    let e : TraceEntry := { timeNs := s.nowNs, seq := (s.rider n).traceSeq, action := action, consumer := kind,
                            index := key % (if kind = 2 then 64 else 256), item := it }
    (s.modCore key (fun x => { x with entries := k + 1, entryS := sec })).modRider n (fun r =>
      { r with trace := (r.trace ++ [e]).drop ((r.trace.length + 1) - 8192), traceSeq := r.traceSeq + 1 })

/-- The trace of a reach is on (12 R525). -/
def State.traced (s : State) (n : Nat) : Bool := s.riderDev.traceOn && s.riderDev.reaches.getLsbD n

/-- An action that is always recorded while the trace is on (12 R525). -/
def State.traceAlways (s : State) (n action kind key : Nat) (it : Item) : State := s.when (s.traced n) (fun t => t.traceAdd n action kind key it)

/-! ### Queues (12 R508, R510) -/

/-- An item enters its queue, or is refused when the queue is full (12 R510). -/
def State.offer (s : State) (n : Nat) (it : Item) : State :=
  let k := classKind it.cls
  let q := (s.rider n).queue k
  if q.length < queueRoom k then s.modRider n (fun r => r.setQueue k (q ++ [{ it with atNs := s.nowNs }]))
  else ((s.count cntRiderRefused n 1).modRider n (fun r => { r with refused := r.refused ++ [it] })).traceAlways n 4 k (coreKey n k 0) it

/-- An item back at the head of its level (12 R508). -/
def State.offerFirst (s : State) (n : Nat) (it : Item) : State :=
  let k := classKind it.cls
  s.modRider n (fun r => r.setQueue k ({ it with atNs := s.nowNs } :: r.queue k))

/-- Items in service in a reach, of one kind of consumer. -/
def State.inHand (s : State) (n kind : Nat) : List Item := (s.consumers n kind).filterMap (fun k => (s.core k).busy)

/-! ### Eligibility (12 R508, R509, R518, R524) -/

/-- A job may start its next picture: back-fill is allowed, and every earlier job of its host flow has ended (12 R518, R524). -/
def State.jobReady (s : State) (h : Nat) : Bool :=
  let j := s.job h
  s.coresRun && !s.thermal.bfStop && j.used &&
    (j.begun || j.desc.flow == 0 || !s.jobs.any (fun e => e.1 != h && e.2.used && e.2.desc.flow == j.desc.flow && e.2.order < j.order))

/-- Items of a queue that may be dispatched: at most one of an atomic flow is in service, and only its oldest waits to be
(12 R508, R509). -/
def State.eligibleItems (s : State) (n kind : Nat) : List Item :=
  let busy := (s.inHand n kind).map (·.flow)
  ((s.rider n).queue kind).foldl (fun (a : List Nat × List Item) it =>
    let free := it.flow == 0 || !a.1.contains it.flow
    (if it.flow = 0 then a.1 else it.flow :: a.1,
     if free && (it.live || s.jobReady it.unit) then a.2 ++ [it] else a.2)) (busy, []) |>.2

/-- The eligible item of the highest level, the first of its level (12 R508); a core kept for a live release takes only live
items (12 R512). -/
def State.pickItem (s : State) (n kind : Nat) (liveOnly : Bool) : Option Item :=
  ((s.eligibleItems n kind).filter (fun it => it.live || !liveOnly)).foldl (fun (a : Option Item) it =>
    match a with
    | some b => if it.level < b.level then some it else some b
    | none => some it) none

/-! ### Back-fill jobs at their ends (12 R520 to R523) -/

/-- The coding of a job (12 R515, R519). -/
def JobSt.code (j : JobSt) : CodeJob :=
  let d := j.desc
  { cfg := { RendCfg.reset with
      enable := 1, codec := d.codec, profile := d.profile, level := d.level, width := d.width, height := d.height, rateDiv := 1
      bitDepth := d.bitDepth, chroma := d.chroma, refs := d.refs, split := 0, coresMax := 16, refreshMode := d.refreshMode
      flags := d.encFlags &&& 3, refreshPeriod := d.refreshPeriod }
    rate := j.rate, num := rateNum d.rate, den := rateDen d.rate, fields := 1 }

/-- Job flag CONTINUE (12 R515). -/
def JobDesc.continues (d : JobDesc) : Bool := d.flags.getLsbD 0
/-- Job flag END_STREAM (12 R515). -/
def JobDesc.endsStream (d : JobDesc) : Bool := d.flags.getLsbD 1

/-- The host ring of a job (12 R520). -/
def JobSt.hostRing (j : JobSt) : HostRing :=
  { dataBase := j.desc.dataBase, dataLog2 := j.desc.dataLog2, recBase := j.desc.recBase, recLog2 := j.desc.recLog2,
    wbAddr := j.desc.wbAddr, recProd := j.recProd, dataProd := j.dataProd, recCons := j.recCons, dataCons := j.dataCons }

/-- Counts of a host ring put back into its job. -/
def JobSt.withRing (j : JobSt) (h : HostRing) : JobSt :=
  { j with recProd := h.recProd, dataProd := h.dataProd, recCons := h.recCons, dataCons := h.dataCons }

/-- An END record, when a record is free (11 R499; log entry 23); the spec gives its times no value. -/
def State.putEnd (s : State) (h : HostRing) : State × HostRing :=
  if h.freeRecs = 0 then (s, h)
  else
    let a := s.free
    let b := a.2.free
    let c := b.2.free
    c.2.putUnit h [] { pts := a.1, frame := b.1, flags := recEnd, sap := 0, duration := c.1 }

/-- A job takes up the stream of its host flow: refresh position, buffer model and counts carry over (12 R521). -/
def JobSt.continued (j : JobSt) (f : HostFlow) : JobSt :=
  { j with recProd := f.recProd, dataProd := f.dataProd, recCons := f.recProd, dataCons := f.dataProd, chunkPos := f.chunkPos
           cyclePos := f.cyclePos, cycling := f.cycling, fullness := f.fullness, begun := true, coder := f.coder }

/-- A job ends: cause 0 done, 1 cancelled, 2 failed; the handle is free, and event 0x3410 is written without a subscription
(12 R521 to R523, R543). A `quiet` end writes neither END record nor event (02 R65). -/
def State.jobEnd (s : State) (h cause status : Nat) (quiet : Bool := false) : State :=
  let j := s.job h
  let n := j.reach
  let s0 := (s.modRider n (fun r => { r with clause := r.clause.filter (fun it => it.live || it.unit != h) })).each (s.consumers n 0) (fun t k =>
    if (t.core k).busy.any (fun it => !it.live && it.unit == h) then t.modCore k (fun c => { c with busy := none, stopAt := none }) else t)
  let isOver := j.desc.endsStream || cause != 0
  let w := if j.begun && isOver && !quiet then s0.putEnd j.hostRing else (s0, j.hostRing)
  let j2 := j.withRing w.2
  let s1 := if j.desc.flow = 0 then w.1 else
    w.1.modHostFlow j.desc.flow (fun _ =>
      { raw := j.raw, endStream := j.desc.endsStream || cause == 1, nextPicture := j.desc.firstPicture + j.done, failed := cause == 2
        used := true, recProd := j2.recProd, dataProd := j2.dataProd, chunkPos := j2.chunkPos
        cyclePos := j.cyclePos, cycling := j.cycling, fullness := j.fullness, coder := j.coder })
  (s1.modJob h (fun _ => JobSt.reset)).when (!quiet) (fun t => t.event
    { code := 0x3410, noun := 0x34, index := h, always := true, data := le 4 j.done ++ le 2 status ++ le 1 cause })

/-- The item of a job's next picture (12 R509, R518). -/
def State.offerJob (s : State) (h : Nat) : State :=
  let j := s.job h
  s.offer j.reach { Item.reset with cls := .backfill, level := j.desc.prio, unit := h, picture := j.desc.firstPicture + j.done, flow := jobFlow h }

/-- A job whose first picture starts: the stream begins, or takes up that of its host flow; after a failed or ended job it
fails with `INVALID` (12 R521, R539). -/
def State.jobStart (s : State) (h : Nat) : State :=
  let j := s.job h
  if j.begun then s.modJob h (fun x => { x with running := true, preempted := false, held := false })
  else
    let f := s.hostFlow j.desc.flow
    if j.desc.continues then
      (if f.failed || f.endStream || !f.used then s.jobEnd h 2 stInvalid
       else s.modJob h (fun x => { x.continued f with running := true }))
    else s.modJob h (fun x => { x with running := true, begun := true, fullness := x.code.firstFull })

/-! ### Dispatch (12 R508, R512 to R514, R525; 11 R479) -/

/-- Bits that the buffer model, and in capped VBR the last 10 s, leave a rendition for its next picture (11 R479, R481). -/
def State.rendRoom (s : State) (r : Nat) : Nat :=
  let x := s.rend r
  let spent := ((x.spent.filter (fun e => s.nowNs < e.1 + 10000000000)).map (·.2)).foldl (· + ·) 0
  if x.rate.rcMode = 1 then min (x.rate.bitrate * 10 + x.rate.cpbSize - spent) x.nextFull else x.nextFull

/-- Before a picture is coded, its budget is set from the buffer model; how the target is chosen inside the bounds is free
(11 R479, R480). -/
def State.targetPicture (s : State) (it : Item) : State :=
  s.free.2.modRend it.unit (fun y => { y with hand := y.hand.map (fun p =>
    if p.frame = it.picture ∧ p.field = it.field ∧ p.released ∧ p.target.isNone then { p with target := some (min s.free.1 (s.rendRoom it.unit)) } else p) })

/-- When a picture is assembled, the fullness at its removal and its budget are known: its target within what the model then holds
(11 R479, R481). -/
def State.budgetPicture (s : State) (it : Item) : State :=
  let room := s.rendRoom it.unit
  let target := match (s.rend it.unit).hand.find? (fun p => p.frame == it.picture && p.field == it.field && p.released) with
    | some p => p.target.getD room
    | none => room
  s.modRend it.unit (fun y => { y with fullness := y.nextFull, budget := min target room })

/-- Before a back-fill picture is coded, its target is set inside the bounds of its buffer model, and in capped VBR of the pictures of 10 s
(11 R479, R481; 12 R519). -/
def State.jobTarget (s : State) (h : Nat) : State :=
  let j := s.job h
  let spent := (j.coder.spent.take (10 * j.code.num / max 1 j.code.den - 1)).foldl (· + ·) 0
  let room := if j.rate.rcMode = 1 then min (j.rate.bitrate * 10 + j.rate.cpbSize - spent) j.fullness else j.fullness
  if j.running then s.free.2.modJob h (fun x => { x with target := min s.free.1 room }) else s

/-- An item is given to a consumer (12 R508, R514, R525). -/
def State.dispatchTo (s : State) (n kind key : Nat) (it : Item) : State :=
  let r := s.rider n
  let record := s.traced n && r.dispatches % 2 ^ s.riderDev.sampleLog2 == 0
  let s1 := s.modRider n (fun r => { r.setQueue kind ((r.queue kind).erase it) with dispatches := if s.traced n then r.dispatches + 1 else r.dispatches })
  let s2 := s1.modCore key (fun c => { c with busy := some it, asking := false, stopAt := none, since := s.nowNs, traced := record })
  let s3 := s2.when record (fun t => t.traceAdd n (if it.resumed then 3 else 0) kind key it)
  let s4 := s3.when (it.live && kind != 2 && s.nowNs > it.relNs + 64000) (fun t => t.count cntRiderLiveWait n 1)
  match it.cls with
  | .rendPart => s4.targetPicture it
  | .packaging => s4.budgetPicture it
  | .backfill => (s4.jobStart it.unit).jobTarget it.unit
  | _ => s4

/-- Waiting consumers of a reach take the eligible items, in the order of their numbers; `fuel` bounds the consumers served. -/
def State.serveCores (n kind : Nat) : Nat → State → State
  | 0, s => s
  | fuel + 1, s =>
    let ready := (s.consumers n kind).filter (fun k => (s.core k).asking && (s.core k).awake && (s.core k).busy.isNone &&
      s.consumerIn n kind (k % (if kind = 2 then 64 else 256)))
    match ready.find? (fun k => (s.pickItem n kind (s.core k).stopAt.isSome).isSome) with
    | none => s
    | some k =>
      match s.pickItem n kind (s.core k).stopAt.isSome with
      | some it => State.serveCores n kind fuel (s.dispatchTo n kind k it)
      | none => s

/-- Dispatch in one queue of a reach. -/
def State.riderServe (s : State) (n kind : Nat) : State := State.serveCores n kind (s.cores.length + 1) s

/-- RIDER_REQUEST: a consumer asks for an item and blocks until Rider gives it one (12 R508). -/
def State.riderRequest (s : State) (n kind idx : Nat) : State :=
  let key := coreKey n kind idx
  if !s.consumerIn n kind idx || (kind < 2 && !s.coresRun) || (s.core key).busy.isSome then s
  else (s.modCore key (fun c => { c with asking := true, awake := true })).riderServe n kind

/-- CORE_WAKE: Rider wakes a gated core (12 R511; 01 R42). -/
def State.coreWake (s : State) (n kind idx : Nat) : State :=
  if s.consumerIn n kind idx && (kind = 2 || s.coresRun) then (s.modCore (coreKey n kind idx) (fun c => { c with awake := true })).riderServe n kind
  else s

/-- CORE_GATE: a core without work has its fast clock stopped (01 R42). -/
def State.coreGate (s : State) (n kind idx : Nat) : State :=
  let key := coreKey n kind idx
  if s.consumerIn n kind idx && (s.core key).busy.isNone then s.modCore key (fun c => { c with awake := false, stopAt := none }) else s

/-- RIDER_RETRY: at the control cycle, refused items are offered again (12 R510). -/
def State.riderRetry (s : State) (n : Nat) : State :=
  let l := (s.rider n).refused
  let s1 := (s.modRider n (fun r => { r with refused := [] })).each l (fun t it => t.offer n it)
  ((s1.riderServe n 0).riderServe n 1).riderServe n 2

/-! ### Preemption (12 R512, R513, R524) -/

/-- The back-fill item in service that gives way: the highest level number, then the latest start (12 R512). -/
def State.victim (s : State) (n : Nat) : Option Nat :=
  ((s.consumers n 0).filter (fun k => (s.core k).busy.any (fun it => !it.live))).foldl (fun (a : Option Nat) k =>
    let lv := fun (x : Nat) => match (s.core x).busy with | some it => it.level | none => 0
    match a with
    | none => some k
    | some b => if lv b < lv k || (lv b == lv k && (s.core b).since < (s.core k).since) then some k else some b) none

/-- A back-fill item leaves its core with its context saved and goes back to the head of its level; the core is kept for a live
item (12 R508, R512). -/
def State.preemptCore (s : State) (n key : Nat) (keep : Bool) : State :=
  match (s.core key).busy with
  | none => s
  | some it =>
    let s1 := s.modCore key (fun c => { c with busy := none, asking := keep, stopAt := if keep then some s.nowNs else none })
    let s2 := s1.modJob it.unit (fun j => { j with running := false, preempted := true, preempts := j.preempts + 1, coreNs := j.coreNs + (s.nowNs - (s.core key).since) })
    (s2.traceAlways n 2 0 key it).offerFirst n { it with resumed := true } |>.count cntBfPreempt n 1

/-- RIDER_PREEMPT: 80 µs before a live release that finds too few idle cores, one back-fill item gives way (12 R512). -/
def State.riderPreempt (s : State) (n : Nat) : State := match s.victim n with | some k => s.preemptCore n k true | none => s

/-- Every back-fill item in service gives way: enforcement or a mode without Clause (12 R524). -/
def State.preemptAll (s : State) (held : Bool) : State :=
  s.each [0, 1, 2, 3] (fun t n =>
    t.each ((t.consumers n 0).filter (fun k => (t.core k).busy.any (fun it => !it.live))) (fun u k =>
      let h := match (u.core k).busy with | some it => it.unit | none => 0
      (u.preemptCore n k false).modJob h (fun j => { j with held := held })))

/-- A core is fenced while it runs an item: a live item runs again on another core of the reach, a back-fill item resumes from
its last saved context (10 R464; 12 R507, R513, R539). -/
def State.fenceCore (s : State) (n kind idx : Nat) : State :=
  let key := coreKey n kind idx
  match (s.core key).busy with
  | none => s.modCore key (fun _ => Core.reset)
  | some it =>
    let s1 := s.modCore key (fun _ => Core.reset)
    if it.live then
      let again := { it with rerun := true, level := if kind = 0 then 2 else it.level, relNs := s.nowNs }
      let s2 := ((s1.count cntJobRerun n 1).traceAlways n 5 kind key it).offerFirst n again
      let waits := (s2.consumers n kind).any (fun k => (s2.core k).asking)
      ((if kind = 0 && !waits then s2.riderPreempt n else s2)).riderServe n kind
    else ((s1.modJob it.unit (fun j => { j with running := false })).offerFirst n { it with resumed := true }).riderServe n 0

end Sys2Proof.Machine
end

