-- ==== Sys2Proof/Machine/Clause.lean ====
section
/-! DEFINITION. Stems and renditions at work: landings, stream starts and ends, analysis, coding and packaging of pictures,
overload and shedding (10 R429 to R432, R439 to R441, R449 to R464; 11 R470 to R474, R478 to R485; 12 R512). -/
namespace Sys2Proof.Machine

/-! ### Overload (10 R462) -/

/-- Renditions marked to stop until the load of a reach fits, in descending index (10 R462). -/
def State.markShed (s : State) (n : Nat) : State :=
  let cap := s.clauseCores n * coreLoad
  let sheddable := ((s.rendsIn n).filter (fun r => (s.rend r).cfg.flags.getLsbD 2 && (s.rend r).running)).reverse
  let marked := sheddable.foldl (fun (a : Nat × List Nat) r =>
    if a.1 ≤ cap then a else (a.1 - s.rendLoad r, if (s.rend r).shedMark then a.2 else a.2 ++ [r])) (s.reachLoad n, [])
  s.each marked.2 (fun t r => t.modRend r (fun x => { x with shedMark := true }))

/-- Load and capacity of a reach as event data (10 R468). -/
def State.loadData (s : State) (n : Nat) : Bytes := le 2 (milli (s.reachLoad n)) ++ le 2 (s.clauseCores n * 1000)

/-- A reach's load is held against its capacity after a core was lost or a load changed (10 R462). -/
def State.judgeLoad (s : State) (n : Nat) (coreLost : Bool) : State :=
  let isOver := s.reachLoad n > s.clauseCores n * coreLoad
  if isOver && (coreLost || s.stands almClauseOverload n) then
    (if s.stands almClauseOverload n then s
     else (s.raise almClauseOverload n).event { code := 0x0210, noun := 0x02, index := n, data := s.loadData n }).markShed n
  else if !isOver && s.stands almClauseOverload n then
    (s.clearAlarm almClauseOverload n).event { code := 0x0211, noun := 0x02, index := n, data := s.loadData n }
  else s

/-! ### Streams end and begin (10 R449, R450, R463) -/

/-- A stream ends before feed frame `frame` (10 R449, R468): cause 0 disable, 1 mode, 2 shed, 3 restart. -/
def State.endStream (s : State) (r cause frame : Nat) : State :=
  (s.modRend r (fun x => { x with running := false, endAt := some frame })).event
    { code := 0x3111, noun := 0x31, index := r, domain := s.feedDomain (s.rend r).cfg.stem, frame := frame, data := le 1 cause }

/-- A landing of a rendition remembers what governed the pictures before it (10 R429). -/
def RendSt.keepOld (x : RendSt) (frame : Nat) : RendSt :=
  if x.fromFrame = frame then x else { x with old := x.cfg, oldRate := x.rate, oldRunning := x.running, fromFrame := frame }

/-- A change that restarts a stream (10 R449). -/
def rendRestarts (a b : RendCfg) : Bool :=
  !(a.codec == b.codec && a.profile == b.profile && a.level == b.level && a.flags.getLsbD 0 == b.flags.getLsbD 0 &&
    a.width == b.width && a.height == b.height && a.rateDiv == b.rateDiv && a.bitDepth == b.bitDepth && a.chroma == b.chroma &&
    a.refs == b.refs && a.stem == b.stem)

/-- A change of rate control that restarts a stream (11 R478). -/
def rateRestarts (a b : RateCfg) : Bool :=
  !(a.rcMode == b.rcMode && a.maxBitrate == b.maxBitrate && a.cpbSize == b.cpbSize && a.initDelayUs == b.initDelayUs) ||
    (b.rcMode == 0 && a.bitrate != b.bitrate)

/-- A running stream restarts at a feed frame (10 R449). -/
def State.restartRend (s : State) (r frame : Nat) : State :=
  if (s.rend r).running then
    ((s.count cntRendRestart r 1).endStream r 3 frame).modRend r (fun x => { x with restarts := x.restarts + 1, startPend := some 1 })
  else s

/-- A rendition block lands at the boundary of a frame (10 R429, R449, R462, R464). -/
def State.landRend (s : State) (r : Nat) (c : RendCfg) (frame : Nat) : State :=
  let x := s.rend r
  let s1 := s.modRend r (fun y => y.keepOld frame)
  let again := x.cfg.enable = 1 && x.running && c.enable = 1 && rendRestarts x.cfg c
  let s2 := if again then s1.restartRend r frame
            else if x.running && c.enable != 1 then s1.endStream r 0 frame else s1
  let s3 := s2.modRend r (fun y =>
    { y with cfg := c, shed := false, shedMark := y.shedMark && c.enable == 1
             startPend := if c.enable != 1 then none else if y.running || y.startPend.isSome then y.startPend else some 0 })
  s3.judgeLoad (r / 64) false

/-- A rate-control block lands (11 R476, R478). -/
def State.landRate (s : State) (r : Nat) (c : RateCfg) (frame : Nat) : State :=
  let x := s.rend r
  let s1 := s.modRend r (fun y => y.keepOld frame)
  (if x.cfg.enable = 1 && rateRestarts x.rate c then s1.restartRend r frame else s1).modRend r (fun y => { y with rate := c })

/-- A stem block lands (10 R429, R443, R449). -/
def State.landStem (s : State) (k : Nat) (c : StemCfg) (frame : Nat) : State :=
  let x := s.stem k
  let s1 := s.modStem k (fun y =>
    let z := if y.fromFrame = frame then y else { y with old := y.cfg, oldRunning := y.running, fromFrame := frame }
    { z with cfg := c, running := z.running && c.enable == 1, cutAt := if c.enable = 1 then z.cutAt else none
             refFrom := if y.cfg.refs = c.refs then z.refFrom else frame })
  let s2 := if x.cfg.enable = 1 && c.enable = 1 && x.cfg.latencyQ != c.latencyQ then
      s1.each (s1.rendsOf k) (fun t r => (t.modRend r (fun y => y.keepOld frame)).restartRend r frame) else s1
  s2.judgeLoad (stemHome k c) false

/-- A take on a feed landed: the frame from this boundary is a scene cut (10 R432). -/
def State.feedTaken (s : State) (d frame : Nat) : State :=
  if isCodec d && (s.stem (d - 1024)).cfg.enable = 1 then s.modStem (d - 1024) (fun x => { x with cutAt := some frame }) else s

/-- A rendition codes the feed frame with an index (10 R448). -/
def codesFrame (c : RendCfg) (frame : Nat) : Bool := c.rateDiv != 2 || frame % 2 == 0

/-- At a boundary of their domain, enabled stems take up their feed and streams that wait begin with the frame they code
(10 R450, R463). -/
def State.clauseBoundary (s : State) (d frame : Nat) : State :=
  if !s.coresRun then s
  else
    let ks := (s.stems.filter (fun e => e.2.cfg.enable == 1 && s.feedDomain e.1 == d)).map (·.1)
    let s1 := s.each (ks.filter (fun k => !(s.stem k).running)) (fun t k => t.modStem k (fun x => { x with running := true, frame := frame, field := 0, refFrom := frame }))
    s1.each ((s1.rends.filter (fun e => e.2.cfg.enable == 1 && e.2.startPend.isSome && ks.contains e.2.cfg.stem && codesFrame e.2.cfg frame)).map (·.1))
      (fun t r =>
        let cause := (t.rend r).startPend.getD 0
        (t.modRend r (fun x => { x with running := true, startPend := none, startAt := some (frame, cause) })).event
          { code := 0x3110, noun := 0x31, index := r, domain := d, frame := frame, data := le 1 cause })

/-- Clause stops with the mode, for the stems whose feeds stop: their streams end, and start again when Clause runs again
(10 R463). -/
def State.clauseStop (s : State) (stops : Nat → Bool) : State :=
  let s1 := s.each ((s.stems.filter (fun e => e.2.running && stops e.1)).map (·.1)) (fun t k =>
    t.modStem k (fun x => { x with running := false, oldRunning := true, old := x.cfg, fromFrame := (t.domain (t.feedDomain k)).frame.toNat }))
  s1.each ((s1.rends.filter (fun e => e.2.running && stops e.2.cfg.stem)).map (·.1)) (fun t r =>
    let f := (t.domain (t.feedDomain (t.rend r).cfg.stem)).frame.toNat
    ((t.modRend r (fun x => x.keepOld f)).endStream r 1 f).modRend r (fun x => { x with startPend := some 2 }))

/-! ### The feed (10 R429, R432, R440) -/

/-- What a stem's feed carries in its frame in progress, with its colour byte (10 R432; 03 R136). -/
def State.feedNow (s : State) (k : Nat) : FeedFrame :=
  let d := 1024 + k
  { frame := (s.stem k).carrying, pic := s.carried d, colour := resolveColour (s.outFmt d (frameFmt (s.frameOn d)).colour).colour 0x11 }

/-- Before a feed begins its next frame, the frame that ends is kept for the pictures after it; those in hand and their references are among
the last eight (10 R440). -/
def State.keepFeed (s : State) (d : Nat) : State :=
  if isCodec d && (s.stem (d - 1024)).cfg.enable = 1 && s.dstRuns d then
    s.modStem (d - 1024) (fun x => { x with feed := (s.feedNow (d - 1024) :: x.feed).take 8 })
  else s

/-- A feed begins the frame of its domain (10 R429). -/
def State.feedStart (s : State) (d : Nat) : State :=
  if isCodec d && s.dstRuns d then s.modStem (d - 1024) (fun x => { x with carrying := (s.domain (s.dst d).domain).frame.toNat }) else s

/-- The frames that a stem's feed carried and carries, newest first. -/
def State.feedFrames (s : State) (k : Nat) : List FeedFrame := s.feedNow k :: (s.stem k).feed

/-- The frame with an index, as the feed carried it (10 R440). -/
def State.feedFrame (s : State) (k frame : Nat) : FeedFrame := ((s.feedFrames k).find? (fun f => f.frame == frame)).getD (s.feedNow k)

/-- One picture of a frame: the frame, or a field, whose lines are every second one (10 R433; log entry 150). -/
def fieldPicture (fields field : Nat) (p : Picture) : Picture := if fields = 2 then everyNth 2 field p else p

/-- Luma of the feed pictures before a picture, newest first, from the first that analysis may refer to (10 R440, R443). -/
def State.feedRefs (s : State) (k frame field : Nat) : List Picture :=
  let n := s.feedFields k
  ((s.feedFrames k).filter (fun f => (s.stem k).refFrom ≤ f.frame && f.frame ≤ frame)).flatMap (fun f =>
    let luma := (planesOf 0 f.pic).a
    if n = 2 then (if f.frame = frame then (if field = 1 then [everyNth 2 0 luma] else []) else [everyNth 2 1 luma, everyNth 2 0 luma])
    else if f.frame = frame then [] else [luma])

/-! ### Analysis (10 R439 to R441, R457; 11 R470 to R473; 12 R512) -/

/-- The state with the settings that govern a feed frame of a stem in place of the live ones (10 R429). -/
def State.governed (s : State) (k frame : Nat) : State :=
  let s1 := if frame < (s.stem k).fromFrame then s.modStem k (fun x => { x with cfg := x.old, running := x.oldRunning }) else s
  s1.each ((s1.rends.filter (fun e => frame < e.2.fromFrame)).map (·.1)) (fun t r =>
    t.modRend r (fun x => { x with cfg := x.old, rate := x.oldRate, running := x.oldRunning, startAt := none }))

/-- End instant of a stem's next feed picture, none while its frame has not begun (11 R470). -/
def State.endInstant (s : State) (k : Nat) : Option Nat :=
  let x := s.stem k
  let d := s.domain (s.feedDomain k)
  let half := s.picPeriodPs k / 1000
  if d.frame.toNat < x.frame || d.rate = 0 then none
  else if s.feedFields k = 2 && x.field = 0 then some (if d.frame.toNat = x.frame then d.lastNs + half else d.lastNs - half)
  else some (if d.frame.toNat = x.frame then d.nextNs else d.lastNs)

/-- Items `0` to `n - 1` of a class for one picture. -/
def pictureItems (cls : ItemClass) (unit frame field ns n : Nat) : List Item :=
  (List.range n).map (fun b => { Item.reset with cls := cls, level := classLevel cls, unit := unit, picture := frame, field := field, part := b, relNs := ns })

/-- STEM_ANALYSIS_RELEASE: at E(N) the bands of feed picture N go to Rider (10 R432, R439, R457; 11 R470, R472; 12 R512). -/
def State.stemRelease (s : State) (k : Nat) : State :=
  let x := s.stem k
  let g := s.governed k x.frame
  let y := g.stem k
  match s.endInstant k with
  | none => s
  | some e =>
    if !(y.cfg.enable = 1 && y.running) then s
    else
      let s1 := s.advanceTo e
      let d := s.domain (s.feedDomain k)
      let last := s.feedFields k = 1 || x.field = 1
      let due := e + g.latencyNs k
      let forced := x.field = 0 && x.cutAt.any (· ≤ x.frame)
      let p : StemPic := { StemPic.reset with
        frame := x.frame, field := x.field, endNs := e, dueNs := due, analysisNs := due - g.packNs k - g.longestNs k
        latencyQ := y.cfg.latencyQ, scenePct := if y.cfg.flags.getLsbD 0 then y.cfg.scenePct else 0, cfg := y.cfg, forced := forced
        bands := g.stemBands k, left := List.range (g.stemBands k) }
      let s2 := s1.modStem k (fun z => { z with
        frame := if !last then z.frame else if d.frame.toNat = z.frame then d.nextFrame else d.frame.toNat
        field := if last then 0 else 1, cutAt := if forced then none else z.cutAt, pics := z.pics ++ [p] })
      let s3 := s2.each ((g.rendsOf k).filter (fun r => (g.rend r).running && codesFrame (g.rend r).cfg x.frame &&
          (match (g.rend r).startAt with | some f => decide (f.1 ≤ x.frame) | none => true))) (fun t r =>
        let z := g.rend r
        t.modRend r (fun w => { w with
          startAt := if z.startAt.isSome then none else w.startAt
          hand := w.hand ++ [{ RendPic.reset with frame := x.frame, field := x.field, cfg := z.cfg, rate := z.rate
                                                  starts := z.startAt.map (·.2) }] }))
      let n := stemHome k y.cfg
      (s3.each (pictureItems .stemBand k x.frame x.field e p.bands) (fun t it => t.offer n it)).riderServe n 0

/-- Block rows of the bands of a picture `rows` block rows high, the larger bands first (10 R457; log entry 24). -/
def bandOf (rows n row : Nat) : Nat :=
  let base := rows / max 1 n
  let extra := rows % max 1 n
  if row < extra * (base + 1) then row / (base + 1) else extra + (row - extra * (base + 1)) / max 1 base

/-- What the analysis of a feed picture finds; the blocks of bands that did not end report zero vectors (10 R439, R440; 11 R473). -/
def State.analysed (s : State) (k : Nat) (p : StemPic) : Analysis :=
  let luma := fieldPicture (s.feedFields k) p.field (planesOf 0 (s.feedFrame k p.frame).pic).a
  let wb := planeBlocks luma
  analyse p.cfg luma (s.feedRefs k p.frame p.field) (s.stem k).last (fun b => p.left.contains (bandOf (cdiv luma.length 16) p.bands (b / wb)))

/-- The coding of one picture in hand (10 R429, R433). -/
def State.picJob (s : State) (p : RendPic) : CodeJob :=
  let d := s.feedRate p.cfg.stem
  { cfg := p.cfg, rate := p.rate, num := rateNum d, den := rateDen d, fields := s.feedFields p.cfg.stem }

/-- The oldest picture of a rendition in hand that is to be coded: it is an intra picture, begins a cycle, or not, its input is converted, and
its partitions go to Rider; a rendition marked to be shed stops at a refresh boundary (10 R438, R450 to R456, R462; 12 R512; 14 R590). -/
def State.codePicture (s : State) (r : Nat) (p : RendPic) (q0 : StemPic) (cut : Bool) : State :=
  let x := s.rend r
  let pos : RefreshPos := ⟨x.refMode, x.refPeriod, x.cyclePos, x.cycling⟩
  let starts := p.starts.isSome
  let bound := starts || pos.boundary
  if bound && x.shedMark then
    ((((s.endStream r 2 p.frame).modRend r (fun y => { y with shed := true, shedMark := false, startPend := none, startAt := none
                                                              hand := y.hand.filter (fun q => q.released) })).count cntRendShed r 1)).judgeLoad (r / 64) false
  else
    let nx := if starts then firstPicture p.cfg.codec p.cfg.refreshMode p.cfg.refreshPeriod
              else if x.forceIntra then RefreshPos.closing ⟨p.cfg.refreshMode, p.cfg.refreshPeriod, 0, false⟩ true false
              else pos.next p.cfg.refreshMode p.cfg.refreshPeriod (cut && p.cfg.flags.getLsbD 1)
    let j := s.picJob p
    let n := j.partitions
    let k := p.cfg.stem
    let feed := s.feedFrame k p.frame
    let period := if nx.1.mode = 1 && nx.1.cycling then nx.1.period else 0
    let q : RendPic := { p with
      released := true, intra := nx.2.intra, cycleStart := nx.2.cycleStart, cycleEnd := nx.2.cycleEnd
      boundary := bound, parts := n, left := List.range n, pos := nx.1.pos, period := period
      avail := if starts || nx.2.intra then 0 else x.pics
      found := q0.result, stem := q0.cfg, size := ((s.feedSize k).1, (s.feedSize k).2 / s.feedFields k)
      input := rendInput p.cfg (s.feedFields k) (fieldPicture (s.feedFields k) p.field feed.pic)
      signals := j.signals n feed.colour p.field starts nx.2 nx.1.pos period q0.result.model }
    let s1 := s.modRend r (fun y =>
      { y with refMode := nx.1.mode, refPeriod := nx.1.period, cyclePos := nx.1.pos, cycling := nx.1.cycling, forceIntra := false
               pics := if starts || nx.2.intra then 1 else y.pics + 1
               lastRap := if nx.2.intra || nx.2.cycleStart then p.frame else y.lastRap
               nextFull := if starts then j.firstFull else y.nextFull
               hand := y.hand.map (fun w => if w = p then q else w) })
    s1.each (pictureItems .rendPart r p.frame p.field s.nowNs n) (fun t it => t.offer (r / 64) it)

/-- The analysis of a picture has ended: scene cut, counts, and the release of the renditions' partitions
(10 R432, R439, R441; 11 R473; 12 R512). -/
def State.analysisEnd (s : State) (k : Nat) (p : StemPic) : State :=
  let a := s.analysed k p
  let isOver := a.changed
  let total := max 1 a.blocks.length
  let pct := isOver * 100 / total
  let found := p.scenePct != 0 && isOver * 100 > p.scenePct * total
  let cut := p.forced || found
  let s1 := s.modStem k (fun x => { x with
    lastPct := pct, lastCut := if cut then p.frame else x.lastCut, last := a, refFrom := if cut then p.frame else x.refFrom
    pics := x.pics.map (fun q => if q = p then { p with done := true, left := [], result := a } else q) })
  let s2 := s1.when (s.feedFields k = 1 || p.field = 1) (fun t => t.count cntStemFrames k 1)
  let s3 := s2.when cut (fun t => (t.count cntSceneCuts k 1).event
    { code := 0x3010, noun := 0x30, index := k, domain := s.feedDomain k, frame := p.frame, data := le 1 (if p.forced then 1 else 0) ++ le 1 pct })
  let rs := (s3.rends.filter (fun e => e.2.hand.any (fun h => h.cfg.stem == k && h.frame == p.frame && h.field == p.field && !h.released))).map (·.1)
  let s4 := s3.each rs (fun t r =>
    match (t.rend r).hand.find? (fun h => h.frame == p.frame && h.field == p.field && !h.released) with
    | some h => t.codePicture r h { p with result := a } cut
    | none => t)
  s4.each ((rs.map (· / 64)).eraseDups) (fun t n => t.riderServe n 0)

/-- ANALYSIS_DEADLINE: at A(N) the bands still running stop, and the renditions are released (11 R473; 12 R512, R514). -/
def State.analysisDeadline (s : State) (k : Nat) : State :=
  match (s.stem k).pics.find? (fun p => !p.done) with
  | none => s
  | some p =>
    let s1 := s.advanceTo p.analysisNs
    let ofPic := fun (it : Item) => it.cls == .stemBand && it.unit == k && it.picture == p.frame && it.field == p.field
    let s2 := s1.each [0, 1, 2, 3] (fun t n =>
      (t.modRider n (fun r => { r with clause := r.clause.filter (fun it => !ofPic it) })).each (t.consumers n 0) (fun u c =>
        if (u.core c).busy.any ofPic then u.modCore c (fun y => { y with busy := none }) else u))
    (s2.count cntStemLateBands k p.left.length).analysisEnd k p

/-- A band of a stem has ended; with the last one the analysis has (12 R512). -/
def State.bandDone (s : State) (it : Item) : State :=
  match (s.stem it.unit).pics.find? (fun p => p.frame == it.picture && p.field == it.field && !p.done) with
  | none => s
  | some p =>
    let q := { p with left := p.left.erase it.part }
    let s1 := s.modStem it.unit (fun x => { x with pics := x.pics.map (fun w => if w = p then q else w) })
    if q.left.isEmpty then s1.analysisEnd it.unit q else s1

/-! ### Coding and packaging (11 R474, R479 to R485; 12 R512) -/

/-- Change of one picture in hand. -/
def State.modPic (s : State) (r : Nat) (p : RendPic) (f : RendPic → RendPic) : State :=
  s.modRend r (fun x => { x with hand := x.hand.map (fun w => if w = p then f w else w) })

/-- The rules for the coding of a picture in hand (10 R436, R437, R445, R453; 11 R480 to R484). -/
def State.rulesOf (s : State) (r : Nat) (p : RendPic) : PicRules :=
  let j := s.picJob p
  { job := j, parts := p.parts, intra := p.intra, pos := p.pos, period := p.period, avail := p.avail, budget := p.target.getD 0
    search := { codec := p.cfg.codec, stem := p.stem, stemW := p.size.1, stemH := p.size.2, width := p.cfg.width, height := j.picHeight
                result := p.found, rateDiv := p.cfg.rateDiv, luma := p.input.headD [], done := [], last := (s.rend r).lastBlocks } }

/-- What a core may hand back for a partition of a rendition's picture (10 R436, R437, R445, R453; 11 R480, R483, R484). -/
def State.partOutputOk (s : State) (it : Item) (o : ItemOutput) : Bool :=
  match (s.rend it.unit).hand.find? (fun p => p.frame == it.picture && p.field == it.field && p.released), o.parts with
  | some p, [x] =>
    let q := s.rulesOf it.unit p
    p.header.all (· == o.header) && q.partOk it.part x && q.budgetOk o.header it.part (p.outs ++ [(it.part, x)]) p.cut
  | _, _ => false

/-- PARTITION_CUT_TIME: the rows of a partition not yet coded are coded in floor mode; their number follows from the time
left (11 R474). -/
def State.partitionCut (s : State) (r part : Nat) : State :=
  match (s.rend r).hand.find? (fun p => p.released && p.left.contains part && !p.cut.any (fun e => e.1 == part)) with
  | none => s
  | some p =>
    let k := p.cfg.stem
    match (s.stem k).pics.find? (fun q => q.frame == p.frame && q.field == p.field) with
    | none => s
    | some q =>
      let rows := (s.picJob p).partRows p.parts part
      let stop := q.dueNs - s.packNs k
      let s1 := s.advanceTo (stop - 2000 * rows)
      let left := min rows (cdiv (stop - s1.nowNs) 2000)
      (s1.modPic r p (fun w => { w with cut := (part, left) :: w.cut, rowsCut := w.rowsCut + left })).count cntDeadlineRows r left

/-- A partition has ended; with the last one the packaging job is released (11 R483, R484; 12 R512). -/
def State.partDone (s : State) (it : Item) (o : ItemOutput) : State :=
  match (s.rend it.unit).hand.find? (fun p => p.frame == it.picture && p.field == it.field && p.released) with
  | none => s
  | some p =>
    let left := p.left.erase it.part
    let cut := ((p.cut.filter (fun e => e.1 == it.part)).map (·.2)).foldl (· + ·) 0
    let s1 := s.modPic it.unit p (fun w => { w with
      left := left, rowsBudget := w.rowsBudget + (floorRowsOf o.parts - cut), header := some o.header
      outs := w.outs ++ o.parts.map (fun x => (it.part, x)) })
    if left.isEmpty && !p.left.isEmpty then
      s1.offer (it.unit / 64) { Item.reset with cls := .packaging, level := 0, unit := it.unit, picture := it.picture, field := it.field
                                                flow := rendFlow it.unit, relNs := s.nowNs }
    else s1

/-- Filler of `n` bytes: its form is the codec's (11 R475, R481). -/
def State.fillerOf (s : State) (n : Nat) : Bytes × State := if n = 0 then ([], s) else (padTo n s.freeB.1, s.freeB.2)

/-- The access unit is assembled, with filler in CBR; a rate-control update follows in the rendition's atomic flow. A unit
longer than its budget is none that the block makes (11 R474, R479, R481; 12 R509). -/
def State.packDone (s : State) (it : Item) (o : ItemOutput) : State :=
  let r := it.unit
  let x := s.rend r
  match x.hand.find? (fun p => p.frame == it.picture && p.field == it.field && p.released && p.unit.isNone) with
  | none => s
  | some p =>
    let j := s.picJob p
    let fill := s.fillerOf (j.filler x.fullness (8 * o.unit.length))
    let u := o.unit ++ fill.1
    let s1 := (fill.2.modPic r p (fun w => { w with unit := some u })).modRend r (fun y =>
      { y with lastBits := 8 * u.length, qpAvg := meanQp (p.outs.map (·.2)), lastBlocks := blocksOf (p.outs.map (·.2)), spent := ((s.nowNs, 8 * u.length) :: y.spent).filter (fun e => s.nowNs < e.1 + 10000000000) })
    let s2 := ((s1.count cntFillerBytes r fill.1.length).count cntRendPictures r 1).when p.intra (fun t => t.count cntKeyPictures r 1)
    s2.offer (r / 64) { Item.reset with cls := .rateUpdate, level := 0, unit := r, picture := it.picture, field := it.field
                                        flow := rendFlow r, relNs := s.nowNs }

/-- A rate-control update: the fullness at the next removal (11 R479, R481; 12 R509). -/
def State.rateDone (s : State) (it : Item) : State :=
  s.modRend it.unit (fun x =>
    { x with nextFull := ({ s.codeJob it.unit with rate := x.rate } : CodeJob).nextFull x.fullness x.lastBits })

/-- A picture with floor rows is counted, and the alarm follows (11 R485). -/
def State.noteFloor (s : State) (r rows : Nat) : State :=
  if rows = 0 then s
  else
    let l := s.nowNs :: (s.rend r).floorNs.filter (fun t => s.nowNs < t + 1000000000)
    let s1 := ((s.modRend r (fun x => { x with floorNs := l, lastFloorNs := s.nowNs })).count cntFloorRows r rows).count cntFloorPictures r 1
    if l.length > 5 && !s.stands almFloor r then
      (s1.raise almFloor r).event { code := 0x3113, noun := 0x31, index := r, data := le 4 l.length }
    else s1

/-- FLOOR_ALARM_CLEAR: 10 s without a floor row (11 R485). -/
def State.floorClear (s : State) (r : Nat) : State :=
  if s.stands almFloor r then
    ((s.advanceTo ((s.rend r).lastFloorNs + 10000000000)).clearAlarm almFloor r).event { code := 0x3114, noun := 0x31, index := r }
  else s

/-! ### Queries (10 R465, R466; 11 R501) -/

/-- Block of QUERY on Stem, selector 0x01 (10 R465). -/
def stemBlock (s : State) (k : Nat) : Bytes :=
  let x := s.stem k
  let z := s.feedSize k
  let d := s.feedRate k
  let on := x.cfg.enable = 1
  layout 32 [(0, le 1 (if !on then 0 else if x.running then 1 else 2)), (1, le 1 (stemHome k x.cfg)), (2, le 1 (if on then s.stemBands k else 0)),
    (3, le 1 (s.rendsOf k).length), (4, le 4 (if on then milli (s.stemLoad k) else 0)),
    (8, le 4 (if on then z.1 * z.2 * rateNum d / (rateDen d * 1000) else 0)), (12, le 1 x.lastPct),
    (16, le 8 (s.cnt cntStemFrames k)), (24, le 8 x.lastCut)]

/-- QUERY on Stem, selector 0x01 (10 R465). -/
def specQueryStem : ReqSpec where
  verb := 0x01
  noun := 0x30
  sel := some 0x01
  len := (· == 1)
  index := (· < 64)
  named := fun s c => [{ present := s.stemPresent c.r.index }]
  body := fun c s => if s.dstMember (1024 + c.r.index) then (fail stInvalid 0x0012, s) else (okWith (stemBlock s c.r.index), s)

/-- Block of QUERY on Stem with selector 0x02: eight bytes a reach (10 R465). -/
def capacityBlock (s : State) : Bytes :=
  (List.range 4).flatMap (fun n =>
    if !reachFitted s.fused.part n then List.replicate 8 0
    else layout 8 [(0, le 2 (s.clauseCores n * 1000)), (2, le 2 (min 65535 (milli (s.reachLoad n)))), (4, le 1 (s.stemsIn n).length), (5, le 1 (s.rendsIn n).length)])

/-- QUERY on Stem, selector 0x02 (10 R465). -/
def specQueryStemCapacity : ReqSpec where
  verb := 0x01
  noun := 0x30
  sel := some 0x02
  len := (· == 1)
  index := (· == 0xFFFFFFFF)
  named := fun s _ => [{ present := hasCores s.fused.part }]
  body := fun _ s => (okWith (capacityBlock s), s)

/-- State of a rendition (10 R466). -/
def RendSt.code (x : RendSt) (cores : Bool) : Nat :=
  if x.cfg.enable != 1 then 0 else if x.shed then 3 else if !cores || x.startPend == some 2 then 2 else 1

/-- Block of QUERY on Rendition, selector 0x01 (10 R466). -/
def rendBlock (s : State) (r : Nat) : Bytes :=
  let x := s.rend r
  let n := (s.codeJob r).partitions
  let on := x.cfg.enable = 1
  layout 32 [(0, le 1 (x.code s.coresRun)), (1, le 1 (if on then splitUsed x.cfg n else 0)), (2, le 1 (if on then n else 0)),
    (4, le 2 (if on then min 65535 (milli (s.rendLoad r)) else 0)), (6, le 2 x.cyclePos), (8, le 8 (s.cnt cntRendPictures r)),
    (16, le 8 x.lastRap), (24, le 4 (min 4294967295 (s.cnt cntRendRestart r)))]

/-- QUERY on Rendition, selector 0x01 (10 R466). -/
def specQueryRendition : ReqSpec where
  verb := 0x01
  noun := 0x31
  sel := some 0x01
  len := (· == 1)
  index := (· < 256)
  named := fun s c => [{ present := s.rendPresent c.r.index }]
  body := fun c s => (okWith (rendBlock s c.r.index), s)

/-- Block of QUERY on Rendition, selector 0x02 (11 R501). -/
def rendRateBlock (s : State) (r : Nat) : Bytes :=
  let x := s.rend r
  let spent := ((x.spent.filter (fun e => s.nowNs < e.1 + 1000000000)).map (·.2)).foldl (· + ·) 0
  layout 32 [(0, le 1 x.rate.rcMode), (1, le 1 (if s.stands almFloor r then 1 else 0)), (2, le 2 x.floorRows), (4, le 4 x.lastBits),
    (8, le 4 x.budget), (12, le 4 x.fullness), (16, le 4 spent), (20, le 1 x.qpAvg), (21, le 1 (s.stem x.cfg.stem).cfg.latencyQ),
    (24, le 8 (s.cnt cntFloorPictures r))]

/-- QUERY on Rendition, selector 0x02 (11 R501). -/
def specQueryRenditionRate : ReqSpec where
  verb := 0x01
  noun := 0x31
  sel := some 0x02
  len := (· == 1)
  index := (· < 256)
  named := fun s c => [{ present := s.rendPresent c.r.index }]
  body := fun c s => (okWith (rendRateBlock s c.r.index), s)

end Sys2Proof.Machine
end

