-- ==== Sys2Proof/Machine/LaneCode.lean ====
section
/-! DEFINITION. What the bits and symbols of a lane are: scrambling and sync headers, codewords, PAM4 mapping, precoding, the receiver's
equaliser, and the binary test patterns (spec/06_flume_rill_lanes.md). -/
namespace Sys2Proof.Machine

/-! ### PCS and FEC of a Flume lane (06 R262, R263) -/

/-- Symbols that the FEC of a Flume mode corrects in one codeword: none in mode 0x1, 7 of RS(528,514) in mode 0x2, 15 of RS(544,514) above (06 R262,
R263). -/
def correctable (mode : Nat) : Option Nat := if mode = 2 then some 7 else if within mode 3 5 then some 15 else none

/-- What the receiver makes of a codeword with that many symbols in error (06 R263). -/
inductive CodewordResult where
  /-- no symbol in error -/
  | clean
  /-- corrected, with the symbols corrected -/
  | corrected (symbols : Nat)
  /-- uncorrectable: marked, so that the MAC discards each frame that overlaps it -/
  | uncorrectable
deriving DecidableEq, Repr

/-- The result of a codeword in a mode with FEC (06 R263). -/
def codewordResult (mode symbols : Nat) : CodewordResult :=
  if symbols = 0 then .clean else if symbols ≤ (correctable mode).getD 0 then .corrected symbols else .uncorrectable

/-- The scrambler 1 + x^39 + x^58: each bit is added to the scrambled bits 39 and 58 before it; `h` holds the scrambled bits sent, newest first
(06 R263). -/
def scramble : List Bool → List Bool → List Bool
  | _, [] => []
  | h, b :: t =>
    let o := Bool.xor b (Bool.xor (h.getD 38 false) (h.getD 57 false))
    o :: scramble (o :: h.take 57) t

/-- The descrambler: each received bit is added to the received bits 39 and 58 before it (06 R263). -/
def descramble : List Bool → List Bool → List Bool
  | _, [] => []
  | h, b :: t => Bool.xor b (Bool.xor (h.getD 38 false) (h.getD 57 false)) :: descramble (b :: h.take 57) t

/-- A 64b/66b block: the sync header 01 of a data block or 10 of a control block, sent unscrambled, and its 64 scrambled bits (06 R263). -/
def block66 (history : List Bool) (control : Bool) (bits : List Bool) : List Bool := control :: (!control) :: scramble history bits

/-! ### PAM4 (06 R264, R265) -/

/-- The PAM4 symbol of a pair of bits, the first in time the more significant: Gray coding (06 R264). -/
def pam4Symbol (first second : Bool) : Nat :=
  match first, second with
  | false, false => 0
  | false, true => 1
  | true, true => 2
  | true, false => 3

/-- The pair of bits of a PAM4 symbol (06 R264). -/
def pam4Bits (q : Nat) : Bool × Bool := (q ≥ 2, q % 4 == 1 || q % 4 == 2)

/-- Nominal level of a PAM4 symbol: -3, -1, +1, +3 (06 R264). -/
def pam4Level (q : Nat) : Int := 2 * q - 3

/-- The symbols of a bit sequence, pair by pair; binary patterns on a PAM4 lane take the same map (06 R264, R286). -/
def pam4Map : List Bool → List Nat
  | a :: b :: t => pam4Symbol a b :: pam4Map t
  | _ => []

/-- The precoder P(j) = (G(j) - P(j-1)) mod 4 from the symbol sent before (06 R265). -/
def precode : Nat → List Nat → List Nat
  | _, [] => []
  | p, g :: t => let q := (g + 4 - p % 4) % 4; q :: precode q t

/-- The decoder G(j) = (P(j) + P(j-1)) mod 4 from the symbol received before (06 R265). -/
def unprecode : Nat → List Nat → List Nat
  | _, [] => []
  | p, q :: t => (q + p) % 4 :: unprecode q t

/-! ### The receiver (06 R274, R275) -/

/-- Peaking of a CTLE step in 0.1 dB: 1.2 dB a step on a Flume lane, 0.6 dB on a Rill lane (06 R274). -/
def ctlePeaking (flume : Bool) (step : Nat) : Nat := step * (if flume then 12 else 6)

/-- The 7-bit ADC of a Flume receiver: codes -64 to +63 (06 R275). -/
def adcCode (v : Int) : Int := max (-64) (min 63 v)

/-- Taps of the FFE: 4 pre-cursor taps, the main tap and 19 post-cursor taps (06 R275). -/
def ffeTaps : Nat × Nat × Nat := (4, 1, 19)

/-- One equalised sample: the 24 taps over the ADC samples, the last to come first, less the one-tap DFE on the symbol decided before, which runs in
modes 0x3 to 0x5; all in one common unit (06 R275). -/
def equalise (mode : Nat) (taps samples : List Int) (dfe decided : Int) : Int :=
  ((taps.take 24).zip samples).foldl (fun a x => a + x.1 * adcCode x.2) 0 - (if within mode 3 5 then dfe * decided else 0)

/-! ### Binary test patterns (06 R286, R287) -/

/-- Exponents of the polynomial of a binary pattern: x^a + x^b + 1 (06 R286). -/
def prbsTaps (code : Nat) : Option (Nat × Nat) :=
  match code with
  | 1 => some (7, 6) | 2 => some (9, 5) | 3 => some (15, 14) | 4 => some (23, 18) | 5 => some (31, 28)
  | _ => none

/-- The next bit of a binary pattern from the bits before it, newest first (06 R286). -/
def prbsNext (taps : Nat × Nat) (h : List Bool) : Bool := Bool.xor (h.getD (taps.1 - 1) false) (h.getD (taps.2 - 1) false)

/-- `n` bits of a binary pattern after the bits `h`, newest first (06 R286). -/
def prbsBits (taps : Nat × Nat) : Nat → List Bool → List Bool
  | 0, _ => []
  | n + 1, h => let b := prbsNext taps h; b :: prbsBits taps n (b :: h.take (taps.1 - 1))

/-- Bits of a received sequence in error: the checker seeds itself from the first bits received and runs on alone (06 R287). -/
def prbsErrors (taps : Nat × Nat) (seed received : List Bool) : Nat :=
  ((prbsBits taps received.length seed.reverse).zip received).countP (fun x => x.1 != x.2)

/-- A checker locks after 1,024 consecutive bits without error (06 R287). -/
def checkerLocks (taps : Nat × Nat) (seed received : List Bool) : Bool := received.length ≥ 1024 && prbsErrors taps seed received == 0

/-- A locked checker loses lock when more than 256 bits of a window of 1,024 are in error (06 R287). -/
def checkerLoses (errors : Nat) : Bool := errors > 256

end Sys2Proof.Machine
end

