-- ==== Sys2Proof/Machine/Lanes.lean ====
section
/-! DEFINITION. Flume and Rill lanes: settings, figure of merit, adaptation, test tools and I2C (spec/06_flume_rill_lanes.md). -/
namespace Sys2Proof.Machine

/-! ### Ports and lanes (06 R258 to R262; 07 R302 to R304) -/

/-- The configurations of an Ethernet port: code, lanes, lane mode, and the slots between two allowed ones (07 R303). -/
def portConfigs : List (Nat × Nat × Nat × Nat) :=
  [(0x10, 4, 2, 2), (0x11, 2, 3, 1), (0x12, 1, 4, 1), (0x20, 4, 3, 2), (0x21, 2, 4, 1), (0x22, 1, 5, 1),
   (0x40, 8, 3, 4), (0x41, 4, 4, 2), (0x42, 2, 5, 1), (0x80, 8, 4, 4), (0x81, 4, 5, 2), (0xA0, 8, 5, 4)]

/-- Lanes, lane mode and slot stride of a config code (07 R303). -/
def portConfig (c : Nat) : Option (Nat × Nat × Nat) := (portConfigs.find? (fun e => e.1 == c)).map (·.2)

/-- Lanes of a config code, 0 for an unlisted one. -/
def configLanes (c : Nat) : Nat := match portConfig c with | some x => x.1 | none => 0

/-- First lane of a port (07 R302). -/
def portLane (p : Nat) : Nat := 16 * (p / 8) + 2 * (p % 8)

/-- Plane of a port (07 R302). -/
def portPlane (p : Nat) : Nat := p / 32

/-- Reach of a port (07 R302). -/
def ethReach (p : Nat) : Nat := p / 8 % 4

/-- A port is present when its first lane is (07 R304). -/
def State.portPresent (s : State) (p : Nat) : Bool := p < 64 && s.present .flume (portLane p)

/-- Lanes that a port uses while it is enabled (07 R304). -/
def State.portLanes (s : State) (p : Nat) : List Nat :=
  if (s.port p).cfg.enable = 1 then (List.range (configLanes (s.port p).cfg.config)).map (portLane p + ·) else []

/-- The enabled port that uses a Flume lane; a lane that runs a test tool has left its port (06 R285). -/
def State.lanePort (s : State) (k : Nat) : Option Nat :=
  ((List.range 8).map (fun i => 8 * (k / 16) + i)).find? (fun p => k < 128 && (s.lane k).state != .tool && (s.portLanes p).contains k)

/-- Kind of a lane: 0 Flume, 1 Rill input, 2 Rill output (06 R258, R298). -/
def laneKind (k : Nat) : Nat := if k < 128 then 0 else if k < 256 then 1 else 2

/-- Unit kind of a lane. -/
def laneUnit (k : Nat) : UnitKind := if k < 128 then .flume else if k < 256 then .rillIn else .rillOut

/-- Number of a lane among its kind. -/
def laneNumber (k : Nat) : Nat := if k < 128 then k else if k < 256 then k - 128 else k - 256

/-- Reach of a lane (01 R16). -/
def laneReach (k : Nat) : Nat := unitReach (laneUnit k) (laneNumber k)

/-- A lane as a request names it. -/
def State.namedLane (s : State) (k : Nat) : Named := s.namedUnit (laneUnit k) (laneNumber k)

/-- A lane is present (06 R258). -/
def State.lanePresent (s : State) (k : Nat) : Bool := k < 384 && s.present (laneUnit k) (laneNumber k)

/-- A test tool runs on a lane (06 R286). -/
def LaneSt.tooled (l : LaneSt) : Bool := l.tools.gen != 0 || l.tools.chk != 0 || l.tools.loopback != 0

/-- A receiver runs: its lane is present and usable, in a mode that runs the lanes, and a Flume lane is part of an enabled port
(06 R260). -/
def State.laneOn (s : State) (k : Nat) : Bool :=
  s.lanePresent k && !s.isFenced (laneUnit k) (laneNumber k) && s.inService && (k ≥ 128 || (s.lanePort k).isSome)

/-! ### Presets (06 R283; 16 R685) -/

/-- A byte of the calibration set. -/
def State.calByte (s : State) (o : Nat) : Byte := tget (fun _ => (0 : Byte)) s.cal.set o

/-- `n` bytes of the calibration set from an offset. -/
def State.calBytes (s : State) (o n : Nat) : Bytes := (List.range n).map (fun i => s.calByte (o + i))

/-- Preset of a Flume lane in a mode, with its CTLE starting step (06 R283; 16 R685). -/
def State.flumePreset (s : State) (k mode : Nat) : FlumeTx × Nat :=
  let b := s.calBytes (0x40 + 40 * k + 8 * (mode - 1)) 8
  let f := (s.lane k).tx.flags
  if within mode 1 5 && u8 b 6 != 0 && s.cal.valid then
    ({ pre2 := s8 b 0, pre1 := s8 b 1, main := u8 b 2, post1 := s8 b 3, swing := u8 b 4, flags := f }, u8 b 5 % 16)
  else ({ FlumeTx.reset with flags := f }, 8)

/-- CTLE starting step of a Rill input for its rate class (06 R283; 16 R685). -/
def State.rillPreset (s : State) (k rate : Nat) : Nat :=
  let b := s.calBytes (0x1440 + 8 * (k - 128)) 8
  if u8 b 2 != 0 && s.cal.valid then (if rate = 1 then u8 b 0 else u8 b 1) % 16 else 8

/-! ### Adaptation (06 R279 to R284) -/

/-- Ready threshold of a lane in 0.1 dB (06 R281). -/
def readyThreshold (k mode : Nat) : Nat := if k < 128 && mode ≥ 2 then 130 else 170

/-- FoM values in a row that Qualify needs (06 R279, R280). -/
def qualifyCount (k : Nat) : Nat := if k < 128 then 10 else 4

/-- A receiver that begins to run waits for its input (06 R279). -/
def State.startLane (s : State) (k : Nat) : State :=
  s.modLane k (fun l => { l with state := .detect, step := .detect, fom := 0, marginRun := 0, okRun := 0, lowRun := 0, okSince := none, fails := 0, trained := none })

/-- A lane goes quiet (06 R260). -/
def State.quietLane (s : State) (k : Nat) : State :=
  s.modLane k (fun l => { l with state := .quiet, step := .detect, fom := 0, marginRun := 0, okRun := 0, lowRun := 0, okSince := none, trained := none, eye := none })

/-- Adaptation starts at the Acquire step, from the preset of the lane (06 R279, R283). -/
def State.acquireLane (s : State) (k : Nat) : State :=
  let p := s.flumePreset k (s.lane k).mode
  s.modLane k (fun l => { l with state := .acquire, step := .acquire, fom := 0, okRun := 0, lowRun := 0, okSince := none
                                 tx := if k < 128 && !l.txSet then p.1 else l.tx
                                 ctle := if l.rx.ctleMode = 1 then l.rx.ctleStep else if k < 128 then p.2 else s.rillPreset k l.mode })

/-- LANE_SIGNAL_DETECT: input has been present for 1 ms (06 R279). -/
def State.signalDetect (s : State) (k : Nat) : State :=
  if k < 256 && s.laneOn k && (s.lane k).state = .detect then s.acquireLane k else s

/-- The steps of CTLE Fine: the best step less one and plus one, where they exist (06 R279). -/
def fineSteps (best : Nat) : List Nat := (if best = 0 then [] else [best - 1]) ++ (if best < 15 then [best + 1] else [])

/-- The step with the highest figure of merit, the first of equal ones. -/
def bestStep (start : Nat × Nat) (tried : List (Nat × Nat)) : Nat × Nat :=
  tried.foldl (fun b t => if t.2 > b.2 then t else b) start

/-- A lane becomes Ready (06 R279, R300). -/
def State.laneReady (s : State) (k : Nat) : State :=
  let l := s.lane k
  (s.modLane k (fun l => { l with state := .ready, readyS := s.nowS, fails := 0, lowRun := 0 })).event
    { code := 0x2010, noun := 0x20, index := k, data := le 2 l.fom ++ le 1 l.ctle }

/-- The lane enters Qualify (06 R279). -/
def State.qualifyLane (s : State) (k : Nat) : State :=
  s.modLane k (fun l => { l with state := .adapting, step := .qualify, okRun := 0, qualNs := s.nowNs })

/-- ADAPT_STEP_END: a step ends and the next one begins (06 R279, R280). -/
def State.adaptStep (s : State) (k : Nat) (r : AdaptResult) : State :=
  let l := s.lane k
  if !(k < 256 && s.laneOn k) then s
  else
    match l.state, l.step with
    | .acquire, _ =>
      if !(r.locked && (k < 128 || within r.rate 1 9)) then s
      else
        let s1 := if k < 128 then s else s.modLane k (fun x => { x with mode := if x.rx.flags.getLsbD 1 then x.rx.rillRate else r.rate })
        if l.rx.ctleMode = 1 then
          (if k < 128 then s1.modLane k (fun x => { x with state := .adapting, step := .converge }) else s1.qualifyLane k)
        else s1.modLane k (fun x => { x with state := .adapting, step := .coarse })
    | .adapting, .coarse =>
      let b := bestStep (0, r.foms.headD 0) (r.foms.zipIdx.map (fun e => (e.2, e.1)))
      let s1 := s.modLane k (fun x => { x with ctle := b.1, fom := min 999 b.2 })
      if k < 128 then s1.modLane k (fun x => { x with step := .converge }) else s1.qualifyLane k
    | .adapting, .converge =>
      if l.rx.ctleMode = 1 then s.qualifyLane k else s.modLane k (fun x => { x with step := .fine })
    | .adapting, .fine =>
      let b := bestStep (l.ctle, l.fom) ((fineSteps l.ctle).zip r.foms)
      (s.modLane k (fun x => { x with ctle := b.1, fom := min 999 b.2 })).qualifyLane k
    | .adapting, .qualify =>
      let n := qualifyCount k
      let seen := r.foms.drop (r.foms.length - n)
      if l.okRun ≥ n then s.laneReady k
      else if r.foms.length ≥ n && seen.all (fun f => f ≥ readyThreshold k l.mode) then
        (s.modLane k (fun x => { x with fom := min 999 (seen.getLastD 0) })).laneReady k
      else s
    | _, _ => s

/-- QUALIFY_TIMEOUT: Qualify has not ended within 200 ms (06 R282). -/
def State.qualifyTimeout (s : State) (k : Nat) : State :=
  let l := s.lane k
  if k < 256 && s.laneOn k && l.state = .adapting && l.step = .qualify then
    let s1 := ((s.advanceTo (l.qualNs + 200000000)).count cntAdaptFail k 1).modLane k (fun x => { x with fails := x.fails + 1 })
    (s1.when (l.fails ≥ 2) (fun t => t.raise almLaneFom k)).acquireLane k
  else s

/-! ### Figure of merit (06 R277, R278, R282) -/

/-- Samples of a level, their sum and the sum of their squares (06 R277). -/
def levelSums (l : List (Int × Nat)) : Nat × Int × Int :=
  l.foldl (fun a x => (a.1 + x.2, a.2.1 + x.1 * x.2, a.2.2 + x.1 * x.1 * x.2)) (0, 0, 0)

/-- Twice the smallest half-distance of adjacent levels. -/
def minGap : List Int → Option Int
  | a :: b :: t => match minGap (b :: t) with | some g => some (min (b - a) g) | none => some (b - a)
  | _ => none

/-- The least number of steps of 0.1 dB, from `lo`, that exceeds the figure, found in at most `fuel` halvings of the width `w`:
20 log10(h / sigma) is at least n - 1/2 steps when (h^2)^200 is at least 10^(2n-1) (sigma^2)^200. -/
def fomSearch : Nat → Nat → Nat → Nat → Nat → Nat
  | 0, lo, _, _, _ => lo
  | fuel + 1, lo, w, num, den =>
    let m := lo + w
    if m ≤ 999 && num ≥ 10 ^ (2 * m - 1) * den then fomSearch fuel m (w / 2) num den else fomSearch fuel lo (w / 2) num den

/-- The figure of merit of a window of samples, in 0.1 dB, rounded to the nearest step and capped at 999; 0 with no estimate (06 R277). With `p` the
product of the counts, each mean times `p` is a whole number, and so are twice the least half-distance times `p` and the pooled variance times `p` and the
number of samples. -/
def figureOfMerit (x : LevelStats) : Nat :=
  let q := x.levels.map levelSums
  let p := q.foldl (fun (a : Nat) l => a * l.1) 1
  let n := q.foldl (fun (a : Nat) l => a + l.1) 0
  if p = 0 then 0
  else
    let means : List Int := q.map (fun l => l.2.1 * ((p / l.1 : Nat) : Int))
    let v := ((q.zip means).foldl (fun (a : Int) l => a + l.1.2.2 * (p : Int) - l.1.2.1 * l.2) 0).toNat
    match minGap means with
    | none => 0
    | some d => if d ≤ 0 then 0 else if v = 0 then 999 else fomSearch 10 0 512 ((d.toNat ^ 2 * n) ^ 200) ((4 * p * v) ^ 200)

/-- The codewords of a Flume lane with FEC are counted (06 R263, R299). -/
def State.countCodewords (s : State) (k : Nat) (words : List Nat) : State :=
  let mode := (s.lane k).mode
  let rs := words.map (codewordResult mode)
  let fixed := rs.filterMap (fun r => match r with | .corrected n => some n | _ => none)
  if !(k < 128 && (correctable mode).isSome) then s
  else
    (((s.count cntFecCodewords k rs.length).count cntFecCorrected k fixed.length).count cntFecUncorrectable k
      (rs.countP (fun r => r == .uncorrectable))).count cntFecSymbols k (fixed.foldl (· + ·) 0)

/-- A lane computes a new figure of merit (06 R277, R279, R282). -/
def State.fomStep (s : State) (k : Nat) (x : LevelStats) : State :=
  let l := s.lane k
  let thr := readyThreshold k l.mode
  let f := figureOfMerit x
  if !(k < 256 && s.laneOn k && (l.state = .adapting || l.state = .ready)) then s
  else
    let low : Bool := k < 128 && f + (s.plane (k / 64)).diag.fomMargin < thr
    let s1 := s.modLane k (fun l => { l with marginRun := if low then l.marginRun + 1 else 0, fom := f, okSince := if f ≥ thr then some (l.okSince.getD s.nowNs) else none })
    if l.state = .adapting then
      (if l.step = .qualify then
        let n := if f ≥ thr then l.okRun + 1 else 0
        (s1.modLane k (fun l => { l with okRun := n })).when (n ≥ qualifyCount k) (fun t => t.laneReady k)
      else s1)
    else
      let n := if f + 30 < thr then l.lowRun + 1 else 0
      let s2 := s1.modLane k (fun l => { l with lowRun := n })
      if n != 100 then s2
      else
        let s3 := if s2.stands almLaneFom k then s2
          else (s2.raise almLaneFom k).event { code := 0x2012, noun := 0x20, index := k, data := le 2 f }
        if l.rx.flags.getLsbD 0 then s3.acquireLane k else s3

/-- FOM_UPDATE: a lane computes a new figure of merit; while it is Ready, the codewords of the time since the last one are counted (06 R263, R277,
R282, R299; log entry 162). -/
def State.fomUpdate (s : State) (k : Nat) (x : LevelStats) : State :=
  (s.when (k < 256 && s.laneOn k && (s.lane k).state = .ready) (fun t => t.countCodewords k x.codewords)).fomStep k x

/-- FOM_ALARM_CLEAR: the figure has stayed at or above the threshold for 1 s (06 R282). -/
def State.fomClear (s : State) (k : Nat) : State :=
  match (s.lane k).okSince with
  | some t => if s.stands almLaneFom k then (s.advanceTo (t + 1000000000)).clearAlarm almLaneFom k else s
  | none => s

/-- Code of a lane state (06 R298). -/
def LaneState.code : LaneState → Nat
  | .quiet => 0 | .detect => 1 | .acquire => 2 | .adapting => 3 | .ready => 4 | .tool => 5

/-- LANE_INPUT_LOSS: input lost for more than 1 ms, or lock of a Rill input lost (06 R282, R284). -/
def State.laneLoss (s : State) (k : Nat) : State :=
  let l := s.lane k
  if k < 256 && s.laneOn k && (l.state = .acquire || l.state = .adapting || l.state = .ready) then
    ((s.startLane k).count cntLaneDown k 1).event { code := 0x2011, noun := 0x20, index := k, data := le 1 l.state.code }
  else s

/-! ### Test tools (06 R286 to R289) -/

/-- Points of an eye scan (06 R289). -/
def eyePoints (e : EyeScan) : Nat := if e.hStride = 0 || e.vStride = 0 then 0 else (64 / e.hStride) * (128 / e.vStride)

/-- A test tool stops now (16 R690). -/
def State.toolStopped (s : State) : State := { s with cal := { s.cal with toolNs := s.nowNs } }

/-- EYE_SCAN_COMPLETE (06 R289). -/
def State.eyeDone (s : State) (k : Nat) (counts : List Nat) : State :=
  match (s.lane k).eye with
  | some e =>
    let n := eyePoints e
    let cs := (counts.map (min 4294967295) ++ List.replicate n 0).take n
    (s.toolStopped.modLane k (fun l => { l with eye := none, eyeHead := e, eyeCounts := cs, eyeS := s.nowS })).event
      { code := 0x2013, noun := 0x20, index := k, data := le 2 n }
  | none => s

/-- PRBS_CHECKER_LOCK: 1,024 bits without error (06 R287). -/
def State.prbsLock (s : State) (k : Nat) : State :=
  if (s.lane k).tools.chk != 0 && s.mode.current = .test then s.modLane k (fun l => { l with chkLock := true }) else s

/-- Mode or rate at which a lane's tools run (06 R286). -/
def LaneSt.toolRate (l : LaneSt) : Nat := if l.tools.rate = 0 then l.mode else l.tools.rate

/-- PRBS_CHECKER_RELOCK: a locked checker has counted the given bits and errors, and loses lock (06 R287). -/
def State.prbsRelock (s : State) (k bits errors symbols : Nat) : State :=
  let l := s.lane k
  if l.chkLock && l.tools.chk != 0 then
    let s1 := ((s.count cntPrbsBits k bits).count cntPrbsErrors k errors).count cntPrbsRelock k 1
    (s1.when (k < 128 && l.toolRate ≥ 3) (fun t => t.count cntPrbsSymbolErrors k symbols)).modLane k (fun l => { l with chkLock := false })
  else s

/-! ### I2C (06 R293 to R297) -/

/-- The front transaction of a bus begins. -/
def State.busStart (s : State) (b : Nat) : State :=
  match (s.bus b).queue with
  | x :: _ => s.emit (.i2c b x.address x.write x.rlen)
  | [] => s

/-- The transaction in progress on a bus ends with a result (06 R295 to R297). -/
def State.busEnd (s : State) (b result written : Nat) (rd : Bytes) : State :=
  match (s.bus b).queue with
  | [] => s
  | x :: rest =>
    let s1 := s.modBus b (fun y => { y with queue := rest })
    let s2 := s1.when (result = 0) (fun t => t.clearAlarm almI2cBus b)
    let s3 := s2.when (result = 1 || result = 2) (fun t => t.count cntI2cNack b 1)
    let s4 := s3.when (result ≥ 3) (fun t => t.count cntI2cTimeout b 1)
    let s5 := s4.when (result = 4) (fun t => t.raise almI2cBus b)
    let s6 := if x.hook then s5.modLane x.lane (fun l => { l with hookLeft := l.hookLeft - 1 })
      else s5.event { code := 0x2014, noun := 0x20, index := x.lane, always := true,
                      data := le 2 x.number ++ le 1 result ++ le 1 (if result = 2 then written else 0) ++
                        padTo 12 (if result = 0 then rd.take x.rlen else []) }
    s6.busStart b

/-- I2C_TRANSACTION_END: results 0 to 2 (06 R295). -/
def State.i2cEnd (s : State) (b : Nat) (r : I2cResult) : State := if r.code ≤ 2 then s.busEnd b r.code r.written r.read else s

/-- I2C_STRETCH_TIMEOUT: a device stretches the clock for more than 25 ms (06 R297). -/
def State.i2cStretch (s : State) (b : Nat) (sdaLow : Bool) : State := s.busEnd b (if sdaLow then 4 else 3) 0 []

/-- Transactions queued ahead of the host's: the one in progress, and those placed ahead of the queue (06 R296). -/
def hookPlace (q : List I2cXact) (w : List I2cXact) : List I2cXact :=
  match q with
  | [] => w
  | x :: t => x :: (t.filter (·.hook) ++ w ++ t.filter (fun y => !y.hook))

/-- RATE_HOOK_START: the lane's rate class changes; with HOOK_ENABLE set the writes of the new class begin (06 R296). -/
def State.hookStart (s : State) (k : Nat) (hd : Bool) : State :=
  let l := s.lane k
  if !(k ≥ 128 && s.lanePresent k && l.hookClass != some hd) then s
  else if !(l.bind.flags.getLsbD 0 && l.bind.address != 0) then s.modLane k (fun l => { l with hookClass := some hd })
  else
    let n := if hd then l.hooks.countHd else l.hooks.countSd
    let b := if hd then l.hooks.hd else l.hooks.sd
    let w := (List.range n).map (fun i => { I2cXact.reset with lane := k, write := slice b (2 * i) 2, hook := true
                                                               address := l.bind.address, speed := l.bind.speed })
    let idle := (s.bus l.bind.bus).queue.isEmpty
    let s1 := (s.modLane k (fun l => { l with hookClass := some hd, hookLeft := n })).modBus l.bind.bus
      (fun y => { y with queue := hookPlace y.queue w })
    if idle then s1.busStart l.bind.bus else s1

/-! ### Requests -/

/-- Taps and swing of a Flume transmitter are in range (06 R271). -/
def flumeTxOk (t : FlumeTx) : Bool :=
  withinI t.pre2 (-8) 8 && withinI t.pre1 (-24) 0 && within t.main 32 64 && withinI t.post1 (-24) 0 && t.swing ≤ 7 &&
  t.pre2.natAbs + t.pre1.natAbs + t.main + t.post1.natAbs ≤ 64

/-- SET on Lane, selector 0x02: the transmitter of a Flume lane or a Rill output (06 R265, R271 to R273). -/
def specSetLaneTransmit (k : Nat) : ReqSpec where
  verb := 0x02
  noun := 0x20
  sel := some 0x02
  len := (· == 8)
  form := fun b => if k < 128 then u8 b 7 == 0 else if k ≥ 256 then zeroFrom b 4 4 else true
  bits := fun b => if k < 128 then flagsIn (decFlumeTx b).flags 0x0F else if k ≥ 256 then flagsIn (decRillTx b).flags 0x01 else true
  bitsReason := 0x0042
  index := (· < 384)
  named := fun s c => [s.namedLane c.r.index]
  body := fun c s =>
    if within k 128 255 then (fail stInvalid 0x0048, s)
    else if k ≥ 256 then
      let t := decRillTx c.block
      if t.deemph ≤ 3 && t.swing ≤ 3 then (okWith [], s.modLane k (fun l => { l with rtx := t })) else (fail stRange 0x0042, s)
    else
      let t := decFlumeTx c.block
      let old := (s.lane k).tx.flags
      if !flumeTxOk t then (fail stRange 0x0042, s)
      else if within (s.lane k).mode 1 3 && (t.flags.getLsbD 2 || t.flags.getLsbD 3) then (fail stRange 0x0041, s)
      else if (s.lanePort k).isSome && t.flags != old then
        (fail stBusy 0x0043, s.modLane k (fun l => { l with tx := { t with flags := old }, txSet := true }))
      else (okWith [], s.modLane k (fun l => { l with tx := t, txSet := true }))

/-- SET on Lane, selector 0x03: receive settings (06 R276). -/
def specSetLaneReceive (k : Nat) : ReqSpec where
  verb := 0x02
  noun := 0x20
  sel := some 0x03
  len := (· == 8)
  form := fun b => zeroFrom b 5 3
  bits := fun b => k ≥ 256 || flagsIn (decLaneRx b).flags 0x03
  bitsReason := 0x0042
  index := (· < 384)
  named := fun s c => [s.namedLane c.r.index]
  body := fun c s =>
    let x := decLaneRx c.block
    if k ≥ 256 || (k < 128 && (x.flags.getLsbD 1 || x.rillRate != 0)) then (fail stInvalid 0x0048, s)
    else if !(x.ctleMode ≤ 1 && x.ctleStep ≤ 15 && (if x.flags.getLsbD 1 then within x.rillRate 1 9 else x.rillRate == 0)) then
      (fail stRange 0x0042, s)
    else
      let l := s.lane k
      let s1 := s.modLane k (fun l => { l with rx := x })
      if l.rx != x && (l.state = .ready || l.state = .adapting || l.state = .acquire) then (okWith [], s1.acquireLane k)
      else (okWith [], s1)

/-- SET on Lane, selector 0x04: asymmetry trims of a Flume lane (06 R291). -/
def specSetLaneAsymmetry (k : Nat) : ReqSpec where
  verb := 0x02
  noun := 0x20
  sel := some 0x04
  len := (· == 8)
  form := fun b => u8 b 1 == 0 && zeroFrom b 6 2
  index := (· < 384)
  named := fun s c => [s.namedLane c.r.index]
  body := fun c s =>
    if k ≥ 128 then (fail stInvalid 0x0048, s) else (okWith [], s.modLane k (fun l => { l with trim := decLaneTrim c.block }))

/-- A test tool named outside Test mode (06 R285). -/
def State.noTest (s : State) : Option Nat := if s.mode.current = .test then none else some 0x0044

/-- A generator or checker pattern is allowed on a lane at a rate (06 R286). -/
def patternOk (k rate code : Nat) (gen : Bool) : Bool :=
  code == 0 || ((if gen then laneKind k != 1 else laneKind k != 2) &&
    (within code 1 5 || (within code 6 8 && k < 128 && rate ≥ 3) || (code == 9 && k ≥ 256 && gen)))

/-- The values of a tool block are allowed on its lane (06 R286, R288). -/
def toolsOk (k : Nat) (t : LaneTools) (mode : Nat) : Bool :=
  let rate := if t.rate = 0 then mode else t.rate
  patternOk k rate t.gen true && patternOk k rate t.chk false &&
  (t.loopback == 0 || (t.loopback == 1 && laneKind k != 1) || (t.loopback == 2 && laneKind k != 2)) &&
  (t.rate == 0 || (if k < 128 then t.rate ≤ 5 else t.rate ≤ 9))

/-- The four checker counters are cleared, and the clear is reported (06 R287; 15 R656, R662). -/
def State.clearChecker (s : State) (k : Nat) : State :=
  let s1 := (((s.cntClear cntPrbsBits k).cntClear cntPrbsErrors k).cntClear cntPrbsSymbolErrors k).cntClear cntPrbsRelock k
  (s1.count cntHostClearsLane k 1).event
    { code := 0x4012, noun := 0x20, index := k, always := true, data := le 2 0x20 ++ le 2 0 ++ le 4 k ++ le 1 0 }

/-- A Rill output transmits: destination with a format, domain enabled, in a mode that runs the lanes (06 R260). -/
def State.outputOn (s : State) (k : Nat) : Bool :=
  let d := s.dst (k - 256)
  s.inService && d.fmt.raster != 0 && s.domainOn d.domain

/-- Mode or rate at which a lane runs now; 0 for none (06 R298). -/
def State.rateOf (s : State) (k : Nat) : Nat :=
  let l := s.lane k
  if k < 256 || l.state = .tool then l.mode else if s.outputOn k then s.outRate (k - 256) else 0

/-- What the tools of a lane drive: the pattern of its generator, and a loopback joined from a receiver to a transmitter; a near-end one keeps the pins
quiet (06 R285, R288). -/
def State.toolOutput (s : State) (k : Nat) (t : LaneTools) : State :=
  (s.when (t.gen != 0) (fun u => u.emit (.pattern k t.gen (t.flags.getLsbD 0)))).when (t.loopback != 0)
    (fun u => u.emit (.loopback k (if k < 128 then k else if k < 256 then k + 128 else k - 128) (t.loopback == 1)))

/-- A lane whose last tool stops goes back to its port, its input or its destination (06 R260, R285). -/
def State.leaveTool (s : State) (k : Nat) : State :=
  let s1 := s.quietLane k
  if k ≥ 256 then s1
  else
    let mode := if k ≥ 128 then (s1.lane k).mode
      else match s1.lanePort k with
        | some p => (match portConfig (s1.port p).cfg.config with | some x => x.2.1 | none => 0)
        | none => 0
    let s2 := s1.modLane k (fun l => { l with mode := mode })
    if s2.laneOn k then s2.startLane k else s2

/-- The transmitter of a Rill output carries its destination's video: no generator, no near-end loopback of its own and no far-end loopback of its
input (06 R285, R288). -/
def State.carriesVideo (s : State) (vo : Nat) : Bool :=
  (s.lane (256 + vo)).tools.gen == 0 && (s.lane (256 + vo)).tools.loopback == 0 && (s.lane (128 + vo)).tools.loopback == 0

/-- SET on Lane, selector 0x10: test tools (06 R285 to R288). -/
def specSetLaneTestTools (k : Nat) : ReqSpec where
  verb := 0x02
  noun := 0x20
  sel := some 0x10
  len := (· == 8)
  form := fun b => zeroFrom b 6 2
  bits := fun b => flagsIn (decLaneTools b).flags 0x07
  bitsReason := 0x0045
  asleep := fun s _ => s.noTest
  index := (· < 384)
  named := fun s c => [s.namedLane c.r.index]
  body := fun c s =>
    let t := decLaneTools c.block
    let l := s.lane k
    if !toolsOk k t (s.rateOf k) then (fail stRange 0x0045, s)
    else
      let n := { l with tools := { t with flags := t.flags &&& 0x03 }, chkLock := l.chkLock && t.chk == l.tools.chk && t.flags &&& 0x02 == l.tools.flags &&& 0x02 }
      let s1 := s.modLane k (fun _ => n)
      let s2 := if n.tooled then (s1.modLane k (fun x => { x with state := .tool, mode := if t.rate = 0 then s.rateOf k else t.rate })).toolOutput k t
        else if l.state = .tool then s1.leaveTool k else s1
      let s3 := s2.when (l.tooled && !n.tooled) State.toolStopped
      (okWith [], s3.when (t.flags.getLsbD 2) (fun t => t.clearChecker k))

/-- The values of an eye scan are allowed on its lane (06 R289). -/
def eyeOk (k mode : Nat) (e : EyeScan) : Bool :=
  e.eye ≤ (if k < 128 && mode ≥ 3 then 2 else 0) && [1, 2, 4, 8].contains e.hStride && [1, 2, 4, 8].contains e.vStride &&
  within e.dwell 10 40

/-- SET on Lane, selector 0x11: an eye scan starts (06 R285, R289). -/
def specSetLaneEyeScan (k : Nat) : ReqSpec where
  verb := 0x02
  noun := 0x20
  sel := some 0x11
  len := (· == 8)
  form := fun b => zeroFrom b 5 3
  asleep := fun s _ => s.noTest
  index := (· < 384)
  named := fun s c => [s.namedLane c.r.index]
  body := fun c s =>
    let e := decEyeScan c.block
    if k ≥ 256 then (fail stInvalid 0x0048, s)
    else if !eyeOk k (s.lane k).toolRate e then (fail stRange 0x0045, s)
    else (okWith [], s.modLane k (fun l => { l with eye := some e }))

/-- The result of the last eye scan of a lane (06 R289). -/
def eyeBlock (l : LaneSt) : Bytes :=
  let h := l.eyeHead
  let cols := if h.hStride = 0 then 0 else 64 / h.hStride
  let rows := if h.vStride = 0 then 0 else 128 / h.vStride
  le 2 cols ++ le 2 rows ++ le 2 h.hStride ++ le 2 h.vStride ++ le 8 l.eyeS ++ l.eyeCounts.flatMap (le 4)

/-- READ on Lane, selector 0x11 (06 R289). -/
def specReadLaneEyeScan (k : Nat) : ReqSpec where
  verb := 0x13
  noun := 0x20
  sel := some 0x11
  len := (· == 1)
  index := (· < 384)
  named := fun s c => [s.namedLane c.r.index]
  body := fun _ s => if k ≥ 256 then (fail stInvalid 0x0048, s) else (okWith (eyeBlock (s.lane k)), s)

/-- SET on Lane, selector 0x20: I2C binding of a Rill lane (06 R294). -/
def specSetLaneI2cBind (k : Nat) : ReqSpec where
  verb := 0x02
  noun := 0x20
  sel := some 0x20
  len := (· == 8)
  form := fun b => flagsIn (decI2cBind b).flags 0x01 && zeroFrom b 5 3
  index := (· < 384)
  named := fun s c => [s.namedLane c.r.index]
  body := fun c s =>
    let b := decI2cBind c.block
    if k < 128 then (fail stInvalid 0x0048, s)
    else if !(b.bus ≤ 1 && b.address ≤ 127 && b.speed ≤ 2) then (fail stRange 0, s)
    else (okWith [], s.modLane k (fun l => { l with bind := b }))

/-- WRITE on Lane, selector 0x21: one I2C transaction (06 R295). -/
def specWriteLaneI2c (k : Nat) : ReqSpec where
  verb := 0x14
  noun := 0x20
  sel := some 0x21
  len := (· == 36)
  form := fun b => flagsIn (BitVec.ofNat 8 (u8 b 3)) 0x01
  index := (· < 384)
  named := fun s c => [s.namedLane c.r.index]
  body := fun c s =>
    let l := s.lane k
    let b := (s.bus l.bind.bus)
    if k < 128 then (fail stInvalid 0x0048, s)
    else if u8 c.block 1 > 32 || u8 c.block 2 > 12 then (fail stRange 0, s)
    else if l.bind.address = 0 then (fail stState 0x0047, s)
    else if (b.queue.filter (fun x => !x.hook)).length ≥ 16 then (fail stRefused 0x0046, s)
    else
      let x : I2cXact := { lane := k, number := b.next.toNat, write := (c.block.drop 4).take (u8 c.block 1), rlen := u8 c.block 2,
                           flags := BitVec.ofNat 8 (u8 c.block 3), hook := false, address := l.bind.address, speed := l.bind.speed }
      let s1 := s.modBus l.bind.bus (fun y => { y with queue := y.queue ++ [x], next := y.next + 1 })
      (okWith (le 2 x.number ++ [0, 0]), if b.queue.isEmpty then s1.busStart l.bind.bus else s1)

/-- SET on Lane, selector 0x22: rate hooks of a Rill lane (06 R296). -/
def specSetLaneRateHooks (k : Nat) : ReqSpec where
  verb := 0x02
  noun := 0x20
  sel := some 0x22
  len := (· == 20)
  form := fun b => u8 b 3 == 0
  index := (· < 384)
  named := fun s c => [s.namedLane c.r.index]
  body := fun c s =>
    let h := decRateHooks c.block
    if k < 128 then (fail stInvalid 0x0048, s)
    else if h.countSd > 4 || h.countHd > 4 then (fail stRange 0, s)
    else (okWith [], s.modLane k (fun l => { l with hooks := h }))

/-- State byte of a lane (06 R298). -/
def State.laneCode (s : State) (k : Nat) : Nat :=
  let l := s.lane k
  if k < 256 then l.state.code else if l.state = .tool then 5 else if s.outputOn k then 4 else 0

/-- Block of QUERY on Lane, selector 0x01 (06 R298). -/
def laneBlock (s : State) (k : Nat) : Bytes :=
  let l := s.lane k
  let t := l.trained.getD l.tx
  let mode := s.rateOf k
  layout 24 [(0, le 1 (laneKind k)), (1, le 1 (s.laneCode k)), (2, le 1 mode), (3, le 1 (if k < 128 then k / 64 else 0xFF)),
    (4, le 2 l.fom), (6, le 1 (if k < 256 then l.ctle else 0)),
    (7, le 1 (bitsOf [s.stands almLaneFom k, k < 128 && t.flags.getLsbD 2, k < 128 && t.flags.getLsbD 3, l.trained.isSome])),
    (8, if k < 128 then leInt 1 t.pre2 ++ leInt 1 t.pre1 ++ le 1 t.main ++ leInt 1 t.post1 else []),
    (12, le 1 (if k < 128 then t.swing else if k ≥ 256 then l.rtx.swing else 0)), (13, le 1 (laneReach k)), (16, le 8 l.readyS)]

/-- QUERY on Lane, selector 0x01 (06 R298). -/
def specQueryLane : ReqSpec where
  verb := 0x01
  noun := 0x20
  sel := some 0x01
  len := (· == 1)
  index := (· < 384)
  named := fun s c => [s.namedLane c.r.index]
  body := fun c s => (okWith (laneBlock s c.r.index), s)

/-- RESET on Lane: the lane returns to Detect and adapts afresh; an output has no receiver to adapt (02 R123; 06 R282). -/
def specResetLane : ReqSpec where
  verb := 0x12
  noun := 0x20
  index := (· < 384)
  named := fun s c => [s.namedLane c.r.index]
  body := fun c s => ({}, if c.r.index < 256 && s.laneOn c.r.index then s.startLane c.r.index else s)

end Sys2Proof.Machine
end

