-- ==== Sys2Proof/Machine/Net.lean ====
section
/-! DEFINITION. Ethernet ports, flow entries, packets, memberships and PTP (spec/07_media_networking.md). -/
namespace Sys2Proof.Machine

/-! ### Ports (07 R302 to R307) -/

/-- Slots that a configuration holds from a slot on (07 R304). -/
def slotsHeld (slot lanes : Nat) : List Nat := (List.range (max 1 (lanes / 2))).map (slot + ·)

/-- A slot that a port would hold is held by another enabled port of its group (07 R304). -/
def State.slotTaken (s : State) (p config : Nat) : Bool :=
  ((List.range 8).map (fun i => 8 * (p / 8) + i)).any (fun q => q != p && (s.port q).cfg.enable == 1 &&
    (slotsHeld (q % 8) (configLanes (s.port q).cfg.config)).any (fun i => (slotsHeld (p % 8) (configLanes config)).contains i))

/-- Fields of a port block are in range (07 R305). -/
def portOk (c : PortCfg) : Bool :=
  c.enable ≤ 1 && within c.maxFrame 1518 9216 && !(c.mac.getD 0 0).getLsbD 0 && c.ipv4Prefix ≤ 32 && c.ipv6Prefix ≤ 128 && c.vlan ≤ 4095

/-- The link of a port is up. -/
def State.linkOn (s : State) (p : Nat) : Bool := (s.port p).state == .up

/-- An enabled port in a mode that runs the lanes begins to come up (07 R306). -/
def State.startPort (s : State) (p : Nat) : State :=
  let c := (s.port p).cfg
  match portConfig c.config with
  | some x =>
    let s1 := s.modPort p (fun y => { y with state := if c.flags.getLsbD 0 then .negotiating else .adapting, localFault := false, remoteFault := false })
    s1.each (s1.portLanes p) (fun t k => (t.modLane k (fun l => { l with mode := x.2.1 })).startLane k)
  | none => s

/-- The link of an enabled port goes down (07 R306). -/
def State.dropLink (s : State) (p cause : Nat) : State :=
  let s1 := s.modPort p (fun y => { y with state := .adapting, localFault := cause == 2, remoteFault := cause == 3 })
  (((s1.raise almLinkDown p).count cntLinkDown p 1)).event { code := 0x2111, noun := 0x21, index := p, data := le 1 cause }

/-! ### Flow entries (07 R310 to R315) -/

/-- One leg of a flow entry (07 R312). -/
structure Leg where
  port : Nat
  nextHop : Bytes
  dstUdp : Nat
  srcUdp : Nat
  dstIp : Bytes
  srcIp : Bytes
deriving DecidableEq, Repr

/-- Leg `l` of an entry. -/
def FlowCfg.leg (c : FlowCfg) (l : Nat) : Leg :=
  if l = 0 then ⟨c.port0, c.nextHop0, c.dstUdp0, c.srcUdp0, c.dstIp0, c.srcIp0⟩
  else ⟨c.port1, c.nextHop1, c.dstUdp1, c.srcUdp1, c.dstIp1, c.srcIp1⟩

def FlowCfg.enabled (c : FlowCfg) : Bool := c.flags.getLsbD 0
def FlowCfg.v6 (c : FlowCfg) : Bool := c.flags.getLsbD 1
def FlowCfg.guarded (c : FlowCfg) : Bool := c.flags.getLsbD 2
def FlowCfg.ssm (c : FlowCfg) : Bool := c.flags.getLsbD 3
def FlowCfg.tagged (c : FlowCfg) : Bool := c.flags.getLsbD 4

/-- Legs that name a port. -/
def FlowCfg.legs (c : FlowCfg) : List Nat := [0, 1].filter (fun l => (c.leg l).port != 0xFF)

/-- A flow entry's reach (07 R310). -/
def flowReach (f : Nat) : Nat := (f % 8192) / 2048

/-- A flow entry is present (07 R310). -/
def State.flowPresent (s : State) (f : Nat) : Bool := f < 16384 && reachFitted s.fused.part (flowReach f)

/-- Unit under which the alarms and counters of a leg are kept. -/
def legKey (f l : Nat) : Nat := 2 * f + l

/-- An address in network order, of 4 or 16 bytes, is a multicast group. -/
def multicastIp (v6 : Bool) (b : Bytes) : Bool := if v6 then u8 b 0 == 0xFF else u8 b 0 / 16 == 0xE

/-- A 16-byte address field in its IP version (07 R312). -/
def ipField (v6 : Bool) (b : Bytes) : Bytes := if v6 then padTo 16 b else padTo 4 b ++ List.replicate 12 0

/-- The port has an address of an IP version (07 R305). -/
def PortCfg.hasIp (c : PortCfg) (v6 : Bool) : Bool := if v6 then c.ipv6Prefix != 0 else c.ipv4Prefix != 0

/-- A port's own address as a 16-byte field. -/
def PortCfg.ownIp (c : PortCfg) (v6 : Bool) : Bytes := ipField v6 (if v6 then c.ipv6 else c.ipv4)

/-- The plane that performs the duties of the right: its holder, until it gives up (08 R359, R361, R366). -/
def State.dutyPlane (s : State) : Option Nat := if s.levee.gaveUp then none else s.levee.holder

/-- A leg runs (07 R314; 08 R359). -/
def State.legRuns (s : State) (c : FlowCfg) (l : Nat) : Bool :=
  c.enabled && (c.leg l).port != 0xFF && (c.legs.length == 1 || c.guarded || s.dutyPlane == some l)

/-- A single-homed entry: both ports named, not protected (07 R314). -/
def FlowCfg.singleHomed (c : FlowCfg) : Bool := c.enabled && c.legs.length == 2 && !c.guarded

/-- A source fed by a single-homed receive entry. -/
def State.singleSource (s : State) (k : Nat) : Bool :=
  isNet k && s.flows.any (fun e => e.1 < 8192 && e.2.cfg.kind == 0x01 && e.2.cfg.singleHomed && e.2.cfg.binding == k)

/-- A single-homed source lost in a handover interval is shown as hold (08 R370). -/
def State.holdLost (s : State) (k : Nat) : State :=
  if s.levee.holdFrom.isSome && s.singleSource k && !(s.src k).signal && !(s.levee.holds.any (fun h => h.1 == k)) then
    { s with levee := { s.levee with holds := s.levee.holds ++ [(k, 0)] } }
  else s

/-- Kind allowed in the direction of an entry (07 R311). -/
def kindAllowed (f kind : Nat) (delivery : Bool) : Bool :=
  if kind = 0x09 || kind = 0x0A then delivery && f ≥ 8192
  else if kind = 0x05 || kind = 0x07 || kind = 0x08 then f < 8192
  else if kind = 0x06 then f ≥ 8192 else true

/-- Unused bytes of the kind parameters are zero (07 R313). -/
def paramsClean (f : Nat) (c : FlowCfg) : Bool :=
  let p := c.params
  match c.kind with
  | 0x01 => zeroFrom p 10 14
  | 0x02 | 0x03 => zeroFrom p 8 16
  | 0x05 => zeroFrom p 8 16
  | 0x07 => zeroFrom p 2 22
  | 0x08 => zeroFrom p 4 20
  | 0x09 | 0x0A => true
  | _ => zeroFrom p 0 24 || f ≥ 16384

/-- The channels of an audio entry lie in one reach block (05 R230; 07 R315). -/
def audioInBlock (c : FlowCfg) : Bool := (c.binding + audioCount c - 1 - 4128) / 3064 == (c.binding - 4128) / 3064

/-- Ranges of R312 and R313 for an enabled entry (05 R229; 07 R312, R313, R315). -/
def flowRanges (f : Nat) (c : FlowCfg) : Bool :=
  let p := c.params
  let recv : Bool := f < 8192
  let legOk := fun (l : Nat) =>
    let g := c.leg l
    (c.v6 || (zeroFrom g.dstIp 4 12 && zeroFrom g.srcIp 4 12)) &&
    (if recv then g.nextHop.all (· == 0)
     else zeroFrom g.srcIp 0 16 && (!multicastIp c.v6 g.dstIp || g.nextHop.all (· == 0)))
  within c.kind 1 0x0A && (if recv then c.dscp == 0 else c.dscp ≤ 63 && !c.ssm && c.policeKbps == 0 && c.policeBurst == 0) &&
  flagsIn c.flags 0x1F && c.vlan / 4096 % 2 == 0 && (!recv || c.vlan / 8192 == 0) && (c.pt ≤ 127 || (recv && c.pt == 0xFF)) && c.legs.all legOk &&
  (match c.kind with
   | 0x01 =>
     if recv then (rasterOf (u8 p 0)).isSome && (samplingWeight (u8 p 1)).isSome && colourFull (u8 p 2) && [1, 2, 4].contains (u8 p 3) &&
       (match gangOf (u8 p 0) (u8 p 1) 0 1 with | some g => decide (g ≤ u8 p 3) | none => false) && u8 p 4 ≤ 1 && u8 p 5 == 0 && u16 p 6 == 0 && (u16 p 8 == 0xFFFF || within (u16 p 8) 4128 16383) && within c.binding 128 1023
     else zeroFrom p 0 4 && u8 p 4 ≤ 1 && u8 p 5 ≤ 1 && within (u16 p 6) 15 8960 && u16 p 8 == 0xFFFF && within c.binding 128 1023
   | 0x02 =>
     audioInBlock c && (u8 p 1 == 1 || u8 p 1 == 2) && (u8 p 2 == 16 || u8 p 2 == 24) && u8 p 3 ≤ 1 && within (u8 p 0) 1 (if u8 p 3 = 0 then 8 else 64) &&
     (if recv then u32 p 4 ≤ 9600 else u32 p 4 == 0) && within c.binding 4128 16383
   | 0x03 =>
     audioInBlock c && u8 p 1 == 1 && u8 p 2 == 24 && u8 p 3 ≤ 1 && within (u8 p 0) 1 (if u8 p 3 = 0 then 4 else 32) &&
     (if recv then u32 p 4 ≤ 9600 else u32 p 4 == 0) && within c.binding 4128 16383
   | 0x07 => within (u16 p 0) 1 2000
   | 0x08 => within (u16 p 0) 1 2000 && u16 p 2 ≤ 2000
   | _ => true)

/-- Largest frame that a send entry builds, destination MAC to FCS, for a number of sample octets (07 R315, R318, R326). -/
def videoFrameLen (c : FlowCfg) (octets : Nat) : Nat := 14 + (if c.tagged then 4 else 0) + (if c.v6 then 40 else 20) + 8 + 12 + 8 + octets + 4

/-- Octets of one line of a format, by the pixel groups of ST 2110-20 (07 R313; PRESUMED, log entry 19). -/
def pgroupOctets (sampling width : Nat) : Nat :=
  match sampling with
  | 0 => width / 2 * 5 | 1 => width / 2 * 6 | 2 | 4 => width / 4 * 15 | _ => width / 2 * 9

/-- Octets of one pixel group (log entry 19). -/
def pgroupSize (sampling : Nat) : Nat := match sampling with | 0 => 5 | 1 => 6 | 2 | 4 => 15 | _ => 9

/-- Sample octets of each full packet of a send entry: the largest whole number of pixel groups (07 R313). -/
def packetOctets (c : FlowCfg) (sampling : Nat) : Nat := max 1 (u16 c.params 6 / pgroupSize sampling) * pgroupSize sampling

/-- Packets of one line of a send entry (07 R313). -/
def linePackets (c : FlowCfg) (f : Fmt) (width : Nat) : Nat := cdiv (pgroupOctets f.sampling width) (packetOctets c f.sampling)

/-- Bits that a frame of a send entry takes on the wire, with preamble and inter-packet gap (08 R349). -/
def frameWireBits (c : FlowCfg) (f : Fmt) : Nat :=
  match rasterOf f.raster with
  | some r => r.height * (pgroupOctets f.sampling r.width + linePackets c f r.width * (videoFrameLen c 0 + 20)) * 8
  | none => 0

/-- Speed of a config in Gb/s (07 R303). -/
def configSpeed (c : Nat) : Nat := if c / 16 = 0xA then 1600 else c / 16 * 100

/-- Paced load of a port, bit/s: every kind 0x01 send leg that may run on it, with entry `f` as `c` (08 R349). -/
def State.pacedLoad (s : State) (p f : Nat) (c : FlowCfg) : Nat :=
  let load := fun (x : FlowCfg) =>
    let d := s.dst x.binding
    let rate := (s.domain d.domain).rate
    if x.enabled && x.kind == 0x01 && x.legs.any (fun l => (x.leg l).port == p) then
      frameWireBits x d.fmt * rateNum rate / rateDen rate else 0
  (((s.flows.filter (fun e => e.1 != f && e.1 ≥ 8192)).map (fun e => load e.2.cfg)) ++ [load c]).foldl (· + ·) 0

/-- Reach of the item that an entry binds, none when it binds none (07 R310, R311). -/
def bindingReach (kind b : Nat) : Option Nat :=
  if b = 0xFFFF then none
  else match kind with
    | 0x01 | 0x04 => some (portReach b)
    | 0x02 | 0x03 => some ((b - 4128) / 3064)
    | 0x06 => some (flowReach b)
    | 0x07 | 0x08 => some (b / 64)
    | _ => none

/-- Each leg's port lies in its plane and in the reach of the entry, enabled or not (07 R310; log entry 134). -/
def legsPlaced (f : Nat) (c : FlowCfg) : Bool :=
  c.legs.all (fun l => portPlane (c.leg l).port == l && ethReach (c.leg l).port == flowReach f)

/-- Every binding of an enabled entry lies in its reach (07 R310). -/
def flowPlaced (f : Nat) (c : FlowCfg) : Bool :=
  (match bindingReach c.kind c.binding with | some r => r == flowReach f | none => true) &&
  (if c.kind = 0x01 && f < 8192 && u16 c.params 8 != 0xFFFF then
     (u16 c.params 8 - 4128) / 3064 == flowReach f && (u16 c.params 8 + 15 - 4128) / 3064 == flowReach f else true)

/-- Ranges of the policer (07 R326). -/
def State.policeOk (s : State) (c : FlowCfg) : Bool :=
  within c.policeKbps 1 1600000000 && within c.policeBurst 1518 16777216 &&
  c.legs.all (fun l => (s.port (c.leg l).port).cfg.maxFrame ≤ c.policeBurst)

/-- Items that an enabled entry binds, as keys: kind of item and its number (07 R315). -/
def boundItems (f : Nat) (c : FlowCfg) : List (Nat × Nat) :=
  let d := if f < 8192 then 0 else 1
  match c.kind with
  | 0x01 => [(d, c.binding)]
  | 0x04 => [(2 + d, c.binding)]
  | 0x02 | 0x03 => (List.range (audioCount c)).map (fun i => (4 + d, c.binding + i))
  | 0x07 | 0x08 => [(6, c.binding)]
  | _ => []

/-- Two enabled entries contend for a binding or for the same packets (07 R315). -/
def flowsContend (f : Nat) (c : FlowCfg) (g : Nat) (e : FlowCfg) : Bool :=
  f != g && c.enabled && e.enabled &&
  ((boundItems f c).any (fun x => (boundItems g e).contains x) ||
   (f < 8192 && g < 8192 && c.legs.any (fun l => e.legs.contains l &&
      (let a := c.leg l
       let b := e.leg l
       a.port == b.port && a.dstIp == b.dstIp && a.dstUdp == b.dstUdp && c.ssm == e.ssm && (!c.ssm || a.srcIp == b.srcIp)))))

/-- Entries that are live or committed (07 R315). -/
def State.flowClaims (s : State) : List (Nat × FlowCfg) :=
  s.flows.map (fun e => (e.1, e.2.cfg)) ++
    s.parts.flatMap (fun p => p.items.filterMap (fun x => match x with | .flow f c _ => some (f, c) | _ => none))

/-- Group memberships that an entry makes on a port: group, version and source filter (07 R327). -/
def State.groupsOf (s : State) (f : Nat) (c : FlowCfg) (p : Nat) : List (Bytes × Bytes) :=
  if f < 8192 then
    (c.legs.filter (fun l => (c.leg l).port == p && s.legRuns c l && multicastIp c.v6 (c.leg l).dstIp)).map
      (fun l => ((c.leg l).dstIp, if c.ssm then (c.leg l).srcIp else []))
  else []

/-- Memberships of a port: legs that share a group and filter make one (07 R327). -/
def State.memberships (s : State) (p : Nat) : List (Bytes × Bytes) := (s.flows.flatMap (fun e => s.groupsOf e.1 e.2.cfg p)).eraseDups

/-- A named unit of the binding of an enabled entry (02 R100 step 5). -/
def State.namedBinding (s : State) (f : Nat) (c : FlowCfg) : List Named :=
  match c.kind with
  | 0x01 | 0x04 => if c.binding < 1152 then [s.namedUnit (if f < 8192 then .src else .dst) c.binding] else []
  | 0x02 | 0x03 => if within c.binding 4128 16383 then [{ present := reachFitted s.fused.part (audioReach c.binding) }] else []
  | 0x07 | 0x08 => if c.binding < 256 then [{ present := reachFitted s.fused.part (c.binding / 64) && hasCores s.fused.part }] else []
  | _ => []

/-- A binding number lies in the range of its noun (02 R728). -/
def bindingInRange (c : FlowCfg) : Bool :=
  match c.kind with
  | 0x01 | 0x04 => c.binding < 1152
  | 0x02 | 0x03 => c.binding < 16384
  | 0x06 => c.binding < 16384
  | 0x07 | 0x08 => c.binding < 256
  | _ => true

/-- A target of a kind 0x05 entry is consistent (07 R323). -/
def State.targetOk (s : State) (f t : Nat) : Bool :=
  t == 0xFFFF || (within t 8192 16383 && flowReach t == flowReach f && (s.flow t).cfg.kind == 0x06 && (s.flow t).cfg.binding == f)

/-- An enabled entry names the odd number of a 96 kHz channel: as its first channel, or as its audio base (05 R215). -/
def State.namesOdd (s : State) (f : Nat) (c : FlowCfg) : Bool :=
  match c.kind with
  | 0x01 => f < 8192 && u16 c.params 8 != 0xFFFF && s.ainOdd (u16 c.params 8)
  | 0x02 => (u8 c.params 1 == 2 && c.binding % 2 == 1) || (if f < 8192 then s.ainOdd c.binding else s.aoutOdd c.binding)
  | 0x03 => if f < 8192 then s.ainOdd c.binding else s.aoutOdd c.binding
  | _ => false

/-- An enabled entry names a gang member other than the lead, or a source port on which its gang does not lie (03 R139; log entry 147). -/
def State.namesMember (s : State) (f : Nat) (c : FlowCfg) : Bool :=
  ((c.kind == 0x01 || c.kind == 0x04) && (if f < 8192 then s.srcMember c.binding else s.dstMember c.binding)) ||
  (c.kind == 0x01 && f < 8192 && !gangPlaced c.binding (max 1 (u8 c.params 3)))

/-- Steps 4 to 9 of R100 for a flow entry (07 R310 to R327). -/
def State.checkFlow (s : State) (f : Nat) (c : FlowCfg) (delivery : Bool) : Option Answer :=
  if c.enabled && (c.kind = 0x07 || c.kind = 0x08) && s.inService && s.sleeps .decodeCore then some (fail stState 0x0006)
  else if f ≥ 16384 || (c.enabled && !bindingInRange c) || c.legs.any (fun l => (c.leg l).port ≥ 64) then some (fail stRange 0x0007)
  else match namedFail ([{ present := s.flowPresent f }] ++ (if c.enabled then s.namedBinding f c ++
      c.legs.map (fun l => ({ present := s.portPresent (c.leg l).port } : Named)) else [])) 0 false with
  | some a => some a
  | none =>
    if !paramsClean f c then some (fail stInvalid 0)
    else if !kindAllowed f c.kind delivery then some (fail stInvalid 0x0055)
    else if !legsPlaced f c then some (fail stInvalid 0x0058)
    else if c.guarded && c.legs.length < 2 then some (fail stRange 0x0056)
    else if !c.enabled then none
    else if s.namesMember f c then some (fail stInvalid 0x0012)
    else if s.namesOdd f c then some (fail stInvalid 0x0031)
    else if c.legs.isEmpty || !flowRanges f c then some (fail stRange 0x0056)
    else if !flowPlaced f c then some (fail stInvalid 0x0058)
    else if f < 8192 && !s.policeOk c then some (fail stRange 0x005D)
    else if f < 8192 && c.legs.any (fun l => !multicastIp c.v6 (c.leg l).dstIp && (c.leg l).dstIp != (s.port (c.leg l).port).cfg.ownIp c.v6) then
      some (fail stRange 0x0056)
    else if f ≥ 8192 && c.kind = 0x01 && c.legs.any (fun l => videoFrameLen c (u16 c.params 6) > (s.port (c.leg l).port).cfg.maxFrame) then
      some (fail stRange 0x0056)
    else if c.kind = 0x05 && !([0, 2, 4, 6].all (fun o => s.targetOk f (u16 c.params o))) then some (fail stInvalid 0x005C)
    else if c.legs.any (fun l => !(s.port (c.leg l).port).cfg.hasIp c.v6) then some (fail stState 0x005B)
    else match s.flowClaims.find? (fun e => flowsContend f c e.1 e.2) with
      | some e => some { fail stBusy 0x0057 with payload := le 2 e.1 ++ [0, 0] }
      | none =>
        if c.legs.any (fun l => ((s.flows.filter (fun e => e.1 != f)).flatMap (fun e => s.groupsOf e.1 e.2.cfg (c.leg l).port) ++
            s.groupsOf f c (c.leg l).port).eraseDups.length > 2048) then some (fail stCapacity 0x0059)
        else if f ≥ 8192 && c.kind = 0x01 && c.legs.any (fun l =>
            s.pacedLoad (c.leg l).port f c * 10 > configSpeed (s.port (c.leg l).port).cfg.config * 9000000000) then some (fail stCapacity 0x0061)
        else none

/-! ### Membership reports (07 R309, R327, R328) -/

/-- What a report says of one membership: the type of its group record, the group, and the one source it includes. A current-state record is in include
mode with a source filter and in exclude mode without; a state-change record allows or blocks the source, or changes to exclude or to include mode. A
port that has heard a querier of IGMPv2 or MLDv1 sends the report or the leave of that version (07 R327, R328; PRESUMED, log entry 163). -/
def reportRecord (old : Bool) (change : Option Bool) (g : Bytes × Bytes) : Bytes :=
  let v6 := !zeroFrom g.1 4 12
  let part := fun (b : Bytes) => if v6 then b else b.take 4
  let leave := change == some true
  if old then le 1 (match v6, leave with | true, true => 132 | true, false => 131 | false, true => 0x17 | false, false => 0x16) ++ part g.1
  else
    let t := match change, g.2.isEmpty with
      | none, false => 1 | none, true => 2 | some true, true => 3 | some false, true => 4 | some false, false => 5 | some true, false => 6
    le 1 t ++ part g.1 ++ part g.2

/-- A state-change report for a group, its repeat one second later (07 R328). -/
def State.report (s : State) (p : Nat) (group : Bytes × Bytes) (leave : Bool) : State :=
  let b := reportRecord (s.port p).oldIgmp (some leave) group
  if s.linkOn p then
    (s.emit (.portFrame p 0 b)).modPort p (fun x => { x with repeats := x.repeats ++ [(s.nowNs + 1000000000, b)] })
  else s

/-- A report of a membership as it stands, at link up or in answer to a query (07 R328). -/
def State.reportNow (s : State) (p : Nat) (group : Bytes × Bytes) : State :=
  s.emit (.portFrame p 0 (reportRecord (s.port p).oldIgmp none group))

/-- Reports of the memberships of a port that changed. -/
def State.reportChanges (old s : State) (p : Nat) : State :=
  let was := old.memberships p
  let now := s.memberships p
  let s1 := s.each (now.filter (fun g => !was.contains g)) (fun t g => t.report p g false)
  s1.each (was.filter (fun g => !now.contains g)) (fun t g => t.report p g true)

/-- MEMBERSHIP_REPORT_REPEAT (07 R328). -/
def State.reportRepeat (s : State) (p : Nat) : State :=
  match (s.port p).repeats with
  | (t, g) :: rest =>
    let s1 := (s.advanceTo t).modPort p (fun x => { x with repeats := rest })
    if s1.linkOn p then s1.emit (.portFrame p 0 g) else s1
  | [] => s

/-! ### Landing of an entry (07 R312, R316, R317) -/

/-- Leads of the 96 kHz channels that an audio entry names (05 R215; 07 R313). -/
def wideLeads (c : FlowCfg) : List Nat :=
  if c.enabled && c.kind == 0x02 && u8 c.params 1 == 2 then (List.range (u8 c.params 0)).map (fun i => c.binding + 2 * i) else []

/-- Source format of a receive video entry (07 R313). -/
def flowFmt (c : FlowCfg) : Fmt := { raster := u8 c.params 0, sampling := u8 c.params 1, colour := u8 c.params 2, gang := u8 c.params 3 }

/-- Addresses or source filter of two entries differ (07 R317). -/
def addressesDiffer (a b : FlowCfg) : Bool :=
  [0, 1].any (fun l => a.leg l != b.leg l) || a.v6 != b.v6 || a.ssm != b.ssm || a.tagged != b.tagged || a.vlan != b.vlan ||
  a.binding != b.binding || a.kind != b.kind || a.guarded != b.guarded

/-- The video source of an entry at its landing: loss of signal, and the new format (07 R317). -/
def State.landSource (s : State) (old c : FlowCfg) : State :=
  let gone := old.enabled && old.kind == 0x01 && (!c.enabled || addressesDiffer old c)
  let s1 := if gone then s.loseSource old.binding else s
  if c.enabled && c.kind == 0x01 then
    let f := flowFmt c
    (s1.modSrc c.binding (fun x => { x with good := 0 })).setFmt c.binding f
  else s1

/-- The channels of an audio entry take its rate (05 R215; 07 R313). -/
def State.wideAudio (s : State) (f : Nat) (old c : FlowCfg) : State :=
  if f < 8192 then
    (s.each (wideLeads old) (fun t k => t.modAin k (fun a => { a with rate96 := false }))).each (wideLeads c) (fun t k =>
      t.modAin k (fun a => { a with rate96 := true }))
  else
    (s.each (wideLeads old) (fun t k => t.modAout k (fun a => { a with rate96 := false }))).each (wideLeads c) (fun t k =>
      t.modAout k (fun a => { a with rate96 := true }))

/-- Receive channels of an audio entry that stops or changes its addresses enter No signal (05 R233). -/
def State.landAudio (s : State) (f : Nat) (old c : FlowCfg) : State :=
  let audio := fun (x : FlowCfg) => x.enabled && (x.kind == 0x02 || x.kind == 0x03)
  (if f < 8192 && audio old && (!c.enabled || addressesDiffer old c) then
    s.each ((List.range (audioCount old)).map (old.binding + ·)) State.loseAin else s).wideAudio f old c

/-- Outputs that follow a destination fed by the source of a receive video entry take their input anew when the entry's audio set changes
(05 R239, R240). -/
def State.landSet (s : State) (f : Nat) (old c : FlowCfg) : State :=
  let set := fun (x : FlowCfg) => if x.enabled && x.kind == 0x01 && f < 8192 then some (x.binding, u16 x.params 8) else none
  if set old = set c then s
  else s.each (([set old, set c].filterMap id).flatMap (fun e => s.fedBy e.1)).eraseDups State.followTake

/-- A leg state at the landing of its entry: the bucket starts full (07 R325, R334). -/
def LegSt.landed (c : FlowCfg) (ns : Nat) : LegSt := { LegSt.reset with tokens := c.policeBurst * 256, tLast := ns }

/-- A flow entry lands at a domain 0 boundary (07 R312, R316, R317, R325, R328). -/
def State.landFlow (s : State) (f : Nat) (c : FlowCfg) (delivery : Option Nat) (frame : Nat) : State :=
  let old := (s.flow f).cfg
  let fresh := !c.enabled || addressesDiffer old c
  let s1 := s.modFlow f (fun x => { x with cfg := c, byDelivery := delivery, deferred := false, lastFrame := frame
                                           legs := [LegSt.landed c s.nowNs, LegSt.landed c s.nowNs]
                                           merge := if fresh then [] else x.merge, nextSeq := if fresh then none else x.nextSeq
                                           buffer := if fresh then [] else x.buffer, nackReq := if fresh then [] else x.nackReq
                                           rows := if fresh || old.params != c.params then [] else x.rows, ended := if fresh || old.params != c.params then [] else x.ended
                                           rowStamp := if fresh then none else x.rowStamp
                                           old := if f ≥ 8192 && old.enabled then some old else none, landNs := s.nowNs
                                           paced := if fresh then 0 else x.paced })
  let s2 := if f < 8192 then (s1.clearAlarm almLegLoss (legKey f 0)).clearAlarm almLegLoss (legKey f 1) else s1
  let s3 := if f < 8192 then s2.landSource old c else s2
  let s4 := (s3.landAudio f old c).landSet f old c
  s4.each ([(old.leg 0).port, (old.leg 1).port, (c.leg 0).port, (c.leg 1).port].filter (· < 64)).eraseDups (fun t p => State.reportChanges s t p)

/-! ### Links (07 R306, R309, R328; 06 R284) -/

/-- Coefficients that link training reaches, within the limits of R271: a free value (06 R284). -/
def trainedTx (n : Nat) (flags : BitVec 8) : FlumeTx :=
  let main := 32 + n % 33
  let post := (n / 33) % (min 24 (64 - main) + 1)
  let pre1 := (n / 825) % (min 24 (64 - main - post) + 1)
  let pre2 := (n / 20625) % (min 8 (64 - main - post - pre1) + 1)
  { pre2 := if (n / 185625) % 2 = 0 then (pre2 : Int) else -(pre2 : Int), pre1 := -(pre1 : Int), main := main, post1 := -(post : Int),
    swing := (n / 371250) % 8, flags := flags }

/-- Every lane of a port is Ready. -/
def State.lanesReady (s : State) (p : Nat) : Bool := (s.portLanes p).all (fun k => (s.lane k).state == .ready)

/-- LINK_UP: lanes Ready, aligned, no fault for 10 ms (07 R306, R309, R328). -/
def State.linkUp (s : State) (p : Nat) : State :=
  let c := (s.port p).cfg
  if !(p < 64 && c.enable == 1 && s.inService && !s.linkOn p && s.lanesReady p) then s
  else
    let s1 := if c.flags.getLsbD 1 then
        s.each (s.portLanes p) (fun t k => (t.free.2).modLane k (fun l => { l with trained := some (trainedTx t.free.1 l.tx.flags) }))
      else s
    let s2 := (s1.modPort p (fun y => { y with state := .up, localFault := false, remoteFault := false, upS := s.nowS, upNs := s.nowNs })).clearAlarm
      almLinkDown p
    let s3 := s2.event { code := 0x2110, noun := 0x21, index := p, data := le 1 c.config }
    let s4 := s3.when (c.ipv4Prefix != 0) (fun t => t.emit (.portFrame p 2 c.ipv4))
    let s5 := s4.when (c.ipv6Prefix != 0) (fun t => t.emit (.portFrame p 3 c.ipv6))
    s5.each (s5.memberships p) (fun t g => t.reportNow p g)

/-- LINK_DOWN: causes 0 to 3 (07 R306). -/
def State.linkDown (s : State) (p cause : Nat) : State := if s.linkOn p && cause ≤ 3 then s.dropLink p cause else s

/-- Settings group 0x0002 in NVM: the settings of the two management ports (16 R668). -/
def State.savePorts (s : State) : State :=
  { s with saved := { s.saved with ports := ([s.levee.cfg.mgmtRed, s.levee.cfg.mgmtBlue].filter (· < 64)).map
                                              (fun p => (p, (s.port p).cfg, (s.port p).ptp)) } }

/-- A change of a management port's settings is saved (16 R668). -/
def State.savePort (s : State) (p : Nat) : State :=
  if p = s.levee.cfg.mgmtRed || p = s.levee.cfg.mgmtBlue then s.savePorts else s

/-- SET on EthPort, selector 0x01 (07 R304 to R306; 16 R668). -/
def specSetEthPort : ReqSpec where
  verb := 0x02
  noun := 0x21
  sel := some 0x01
  len := (· == 40)
  form := fun b => zeroFrom b 18 2 && zeroFrom b 38 2
  bits := fun b => flagsIn (decPortCfg b).flags 0x03
  bitsReason := 0x0054
  index := (· < 64)
  named := fun s c =>
    let b := decPortCfg c.block
    [{ present := s.portPresent c.r.index
       fenced := b.enable == 1 && (List.range (configLanes b.config)).any (fun i => s.isFenced .flume (portLane c.r.index + i)) }]
  body := fun c s =>
    let p := c.r.index
    let n := decPortCfg c.block
    let old := (s.port p).cfg
    if !portOk n then (fail stRange 0x0054, s)
    else if old.enable = 1 && n.enable = 1 then (fail stBusy 0x0053, s)
    else if n.enable = 0 then
      let s1 := if s.linkOn p then s.event { code := 0x2111, noun := 0x21, index := p, data := le 1 4 } else s
      let s2 := s1.each (s.portLanes p) (fun t k => (t.quietLane k).modLane k (fun l => { l with mode := 0 }))
      let s3 := s2.modPort p (fun x => { x with cfg := n, state := .disabled, localFault := false, remoteFault := false })
      (okWith [], (s3.clearAlarm almLinkDown p).savePort p)
    else
      match portConfig n.config with
      | none => (fail stRange 0x0050, s)
      | some x =>
        if !((List.range x.1).all (fun i => s.present .flume (portLane p + i))) then (fail stRange 0x0050, s)
        else if p % 8 % x.2.2 != 0 then (fail stRange 0x0051, s)
        else if s.slotTaken p n.config then (fail stBusy 0x0052, s)
        else
          let s1 := (s.modPort p (fun y => { y with cfg := n, state := .adapting })).savePort p
          (okWith [], if s.inService then s1.startPort p else s1)

/-- RESET on EthPort: the link goes down as for a fault of a lane and comes up again (02 R123; 07 R306). -/
def specResetEthPort : ReqSpec where
  verb := 0x12
  noun := 0x21
  index := (· < 64)
  named := fun s c => [{ present := s.portPresent c.r.index }]
  body := fun c s =>
    let p := c.r.index
    let s1 := if s.linkOn p then s.dropLink p 0 else s
    ({}, if (s.port p).cfg.enable = 1 && s.inService then s1.startPort p else s1)

/-! ### Receive packets (07 R308, R319 to R325) -/

/-- Fields of an RTP packet (07 R319; 07 R320 for the extended sequence number of video). -/
structure Rtp where
  version : Nat
  pt : Nat
  marker : Bool
  seq : Nat
  stamp : Nat
  ssrc : Nat
deriving DecidableEq, Repr

/-- Offset of the payload of an RTP packet, after its contributing sources and its header extension. -/
def rtpPayload (b : Bytes) : Nat :=
  let h := 12 + 4 * (u8 b 0 % 16)
  if u8 b 0 / 16 % 2 = 1 then h + 4 + 4 * beNat (slice b (h + 2) 2) else h

/-- RTP header of a UDP payload; a video kind takes its extended sequence number from the payload header. -/
def rtpOf (video : Bool) (b : Bytes) : Option Rtp :=
  let h := rtpPayload b
  if b.length < (if video then h + 2 else 12) then none
  else
    let low := beNat (slice b 2 2)
    some { version := u8 b 0 / 64, pt := u8 b 1 % 128, marker := u8 b 1 ≥ 128, seq := if video then beNat (slice b h 2) * 65536 + low else low,
           stamp := beNat (slice b 4 4), ssrc := beNat (slice b 8 4) }

/-- Sequence numbers of a kind (07 R320). -/
def seqSpan (kind : Nat) : Nat := if kind = 0x01 then 4294967296 else 65536

/-- `a` comes before `b` in sequence order. -/
def seqBefore (span a b : Nat) : Bool := a != b && (b + span - a) % span < span / 2

/-- Merge hold of a kind in ns (07 R320). -/
def holdNs (kind : Nat) : Nat := if kind = 0x07 || kind = 0x08 then 50000000 else 1000000

/-- The bucket of a leg admits or drops a frame (07 R325, R326). -/
def State.police (s : State) (f l len : Nat) : Bool × State :=
  let c := (s.flow f).cfg
  let g := (s.flow f).legs.getD l LegSt.reset
  let gain := c.policeKbps * 125 * (s.nowNs - g.tLast) * 256 / 1000000000
  let tokens := min (c.policeBurst * 256) (g.tokens + gain)
  let ok := tokens ≥ len * 256
  let put := fun (x : LegSt) (t : State) => t.modFlow f (fun y => { y with legs := lmod y.legs l (fun _ => x) })
  if ok then (true, put { g with tokens := tokens - len * 256, tLast := s.nowNs } s)
  else
    let quiet := g.dropNs = 0 || s.nowNs - g.dropNs ≥ 1000000000
    let s1 := (put { g with tokens := tokens, tLast := s.nowNs, dropNs := max 1 s.nowNs } s).count cntPolicerDrop (legKey f l) 1
    (false, if quiet then s1.event { code := 0x2212, noun := 0x22, index := f, data := le 1 l } else s1)

/-- A packet enters the merge stage (07 R320, R321). -/
def State.mergeIn (s : State) (f l : Nat) (r : Rtp) (b : Bytes) : State :=
  let x := s.flow f
  let span := seqSpan x.cfg.kind
  let g := x.legs.getD l LegSt.reset
  let n := max 1 s.nowNs
  let leg := { g with lastNs := n, since := if g.lastNs = 0 || n - g.lastNs > 4000000 then n else g.since }
  let s1 := s.modFlow f (fun y => { y with legs := lmod y.legs l (fun _ => leg) })
  let s2 := if x.cfg.kind = 0x01 && !x.cfg.guarded then s1.modSrc x.cfg.binding (fun y => { y with lastPacketNs := n }) else s1
  if x.merge.any (fun p => p.seq == r.seq) then
    (s2.count cntDupDiscard f 1).modFlow f (fun y => { y with merge := y.merge.map (fun p => if p.seq = r.seq && p.leg != l then { p with leg := 2 } else p) })
  else if (match x.nextSeq with | some m => seqBefore span r.seq m | none => false) then s2.count cntLateDiscard f 1
  else
    let p : Packet := { seq := r.seq, leg := l, atNs := s.nowNs, stamp := r.stamp, marker := r.marker, bytes := b }
    s2.modFlow f (fun y => { y with merge := y.merge.filter (fun q => seqBefore span q.seq r.seq) ++ [p] ++
                                              y.merge.filter (fun q => !seqBefore span q.seq r.seq) })

/-- LEG_LOSS: a leg of a protected flow has had no packet for 4 ms while the other has (07 R321). -/
def State.legLoss (s : State) (f l : Nat) : State :=
  let x := s.flow f
  if f < 8192 && l < 2 && x.cfg.enabled && x.cfg.guarded && !s.stands almLegLoss (legKey f l) &&
      (x.legs.getD l LegSt.reset).lastNs ≤ (x.legs.getD (1 - l) LegSt.reset).lastNs && (x.legs.getD (1 - l) LegSt.reset).lastNs != 0 then
    let s1 := (s.advanceTo ((x.legs.getD l LegSt.reset).lastNs + 4000000)).raise almLegLoss (legKey f l)
    let s2 := s1.modFlow f (fun y => { y with legs := lmod y.legs l (fun g => { g with lostAt := s.cnt cntLegLost (legKey f l) }) })
    s2.event { code := 0x2210, noun := 0x22, index := f, data := le 1 l }
  else s

/-- LEG_RETURN: packets without a gap of 4 ms for 100 ms (07 R321). -/
def State.legReturn (s : State) (f l : Nat) : State :=
  let g := (s.flow f).legs.getD l LegSt.reset
  if l < 2 && s.stands almLegLoss (legKey f l) && g.lastNs != 0 then
    let s1 := (s.advanceTo (g.since + 100000000)).clearAlarm almLegLoss (legKey f l)
    s1.event { code := 0x2211, noun := 0x22, index := f,
               data := le 1 l ++ [0, 0, 0] ++ le 8 (s.cnt cntLegLost (legKey f l) - g.lostAt) }
  else s

/-- FLOW_SOURCE_TIMEOUT: no packet of a network source for 4 ms (04 R189; 08 R370). -/
def State.flowTimeout (s : State) (k : Nat) (got : Picture) : State :=
  if isNet k && (s.src k).signal then
    (((s.advanceTo ((s.src k).lastPacketNs + 4000000)).cutFrame k (s.linesLeft k (s.src k).lastPacketNs) got).loseSource k).holdLost k
  else s

/-- The leg of an entry matches a frame (07 R319). -/
def legMatches (c : FlowCfg) (l p : Nat) (vlan : Option Nat) (v6 : Bool) (src dst : Bytes) (sp dp : Nat) : Bool :=
  let g := c.leg l
  g.port == p && c.v6 == v6 && (if c.tagged then vlan == some (c.vlan % 4096) else vlan.isNone) && g.dstIp == ipField v6 dst &&
  g.dstUdp == dp && (g.srcUdp == 0 || g.srcUdp == sp) && (!c.ssm || g.srcIp == ipField v6 src)

/-- The receive entry and leg that take a frame of a port (07 R308, R319). -/
def State.flowMatch (s : State) (p : Nat) (vlan : Option Nat) (v6 : Bool) (src dst : Bytes) (sp dp : Nat) : Option (Nat × Nat) :=
  (s.flows.filter (fun e => e.1 < 8192)).findSome? (fun e =>
    ([0, 1].find? (fun l => s.legRuns e.2.cfg l && legMatches e.2.cfg l p vlan v6 src dst sp dp)).map (fun l => (e.1, l)))

/-- A frame that a leg matched: counted, policed, checked and taken into the merge stage (07 R319, R320, R325). -/
def State.flowPacket (s : State) (f l len : Nat) (payload : Bytes) : State :=
  let c := (s.flow f).cfg
  let s1 := (s.count cntFlowPackets (legKey f l) 1).count cntFlowBytes (legKey f l) len
  let q := s1.police f l len
  if !q.1 then q.2
  else match rtpOf (c.kind == 0x01) payload with
    | some r =>
      let n := payload.length - rtpPayload payload
      if r.version = 2 && (c.pt = 0xFF || c.pt = r.pt) && (c.ssrc = 0 || c.ssrc = r.ssrc) &&
          (c.kind != 0x07 || (r.pt == 33 && n % 188 == 0 && within (n / 188) 1 7)) then
        q.2.mergeIn f l r payload
      else q.2.count cntRtpReject f 1
    | none => q.2.count cntRtpReject f 1

/-- A port answers a request to one of its addresses, at most 100 in a second (07 R309). -/
def State.portAnswer (s : State) (p : Nat) (target : Bytes) : State :=
  let x := s.port p
  let n := if x.answerS = s.nowS then x.answers else 0
  if n ≥ 100 then s.count cntRxUnmatched p 1
  else (s.modPort p (fun y => { y with answers := n + 1, answerS := s.nowS })).emit (.portFrame p 4 target)

/-- The port of the management address while its plane holds the right (08 R360, R366). -/
def State.mgmtPort (s : State) : Option Nat :=
  match s.dutyPlane with
  | some 0 => if s.levee.cfg.mgmtRed < 64 then some s.levee.cfg.mgmtRed else none
  | some _ => if s.levee.cfg.mgmtBlue < 64 then some s.levee.cfg.mgmtBlue else none
  | none => none

/-- An address is one of the management address (08 R360). -/
def State.mgmtIp (s : State) (v6 : Bool) (ip : Bytes) : Bool :=
  if v6 then s.levee.cfg.ipv6Prefix != 0 && ip == s.levee.cfg.ipv6 else s.levee.cfg.ipv4Prefix != 0 && ip == s.levee.cfg.ipv4

/-- The multicast MAC of a group (07 R318). -/
def groupMac (v6 : Bool) (ip : Bytes) : Bytes :=
  if v6 then [0x33, 0x33] ++ slice ip 12 4 else [0x01, 0x00, 0x5E, (ip.getD 1 0) &&& 0x7F] ++ slice ip 2 2

/-- A port accepts a frame by its destination MAC (07 R308). -/
def State.macAccepted (s : State) (p : Nat) (mac : Bytes) : Bool :=
  mac == (s.port p).cfg.mac || mac == List.replicate 6 0xFF ||
  (s.memberships p).any (fun g => mac == groupMac (!zeroFrom g.1 4 12) g.1) ||
  mac == [0x01, 0x00, 0x5E, 0x00, 0x01, 0x81] || mac == [0x33, 0x33, 0x00, 0x00, 0x01, 0x81] ||
  mac == [0x01, 0x00, 0x5E, 0x00, 0x00, 0x01] || mac == [0x33, 0x33, 0x00, 0x00, 0x00, 0x01] ||
  (s.mgmtPort == some p && mac == s.levee.cfg.mac)

/-- A frame that no earlier rule of R308 takes: the management address, or unmatched. -/
def State.frameRest (s : State) (p : Nat) (v6 : Bool) (dst : Bytes) (answer : Bool) : State :=
  if s.mgmtPort == some p && s.mgmtIp v6 dst then (if answer then s.emit (.portFrame p 4 dst) else s) else s.count cntRxUnmatched p 1

/-- ETH_FRAME_RECEIVE: the frame is discarded or handled by its first match (07 R307 to R309, R328); `rtcp` takes the RTCP of deliveries (11 R493),
and `level` judges the references after a received quality level (09 R385). -/
def State.frameIn (s : State) (p : Nat) (e : EthFrame) (rtcp : State → Bytes → Nat → Bytes → Option State) (level : State → State) : State :=
  let c := (s.port p).cfg
  if !s.linkOn p then s
  else
    let s1 := s.count cntRxFrames p 1
    if e.bad then s1.count cntRxFcs p 1
    else if e.len > c.maxFrame then s1.count cntRxOversize p 1
    else match e.body with
      | .pause => s1.count cntRxPause p 1
      | .esmc ssm => level (s1.modPort p (fun x => { x with ssm := ssm, ssmNs := s.nowNs }))
      | .arp t => if !s.macAccepted p e.dstMac then s1 else if c.ipv4Prefix != 0 && t == c.ipv4 then s1.portAnswer p t else s1.frameRest p false t true
      | .neighbour t => if !s.macAccepted p e.dstMac then s1 else if c.ipv6Prefix != 0 && t == c.ipv6 then s1.portAnswer p t else s1.frameRest p true t true
      | .echo t v6 =>
        if !s.macAccepted p e.dstMac then s1
        else if c.hasIp v6 && ipField v6 t == c.ownIp v6 then s1.portAnswer p t else s1.frameRest p v6 t true
      | .groupQuery g v6 old =>
        if !s.macAccepted p e.dstMac then s1
        else (s1.modPort p (fun x => { x with oldIgmp := x.oldIgmp || old })).each
          ((s1.memberships p).filter (fun m => (zeroFrom m.1 4 12 != v6) && (match g with | some a => m.1 == ipField v6 a | none => true)))
          (fun t m => t.reportNow p m)
      | .udp v6 src dst sp dp b =>
        if !s.macAccepted p e.dstMac then s1
        else if (dp = 319 || dp = 320) && (s.port p).ptp.role != 0 then s1
        else match s1.flowMatch p e.vlan v6 src dst sp dp with
          | some m => s1.flowPacket m.1 m.2 e.len b
          | none => match rtcp s1 src dp b with
            | some t => t
            | none => s1.frameRest p v6 dst false
      | .other => if s.macAccepted p e.dstMac then s1.count cntRxUnmatched p 1 else s1

/-! ### The frames that are sent (07 R318) -/

/-- The frame of an RTP or RTCP packet of a send entry on one of its legs, from the destination MAC on, without its FCS; an entry that names no
source address uses its port's. `up` is added to the UDP ports: 1 for RTCP (07 R318; 11 R493). -/
def State.frameBytes (s : State) (c : FlowCfg) (l up : Nat) (b : Bytes) : Bytes :=
  let g := c.leg l
  let p := (s.port g.port).cfg
  let a : IpPair := { v6 := c.v6, src := if c.v6 then p.ipv6 else p.ipv4, dst := g.dstIp }
  let u := udpDatagram a (g.srcUdp + up) (g.dstUdp + up) b
  etherFrame (if multicastIp c.v6 g.dstIp then groupMac c.v6 g.dstIp else g.nextHop) p.mac (if c.tagged then some c.vlan else none) c.v6
    (ipHeader a c.dscp u.length ++ u)

/-! ### Decoder input (07 R324) -/

/-- DECODER_INPUT_RELEASE: the oldest packet of a receive buffer passes to the decoder after buffer_ms (07 R324). -/
def State.decoderInput (s : State) (f : Nat) : State :=
  let x := s.flow f
  if !((x.cfg.kind = 0x07 || x.cfg.kind = 0x08) && s.coresRun) then s
  else match x.buffer with
    | [] => s
    | p :: rest =>
      let s1 := (s.advanceTo (p.atNs + u16 x.cfg.params 0 * 1000000)).modFlow f (fun y => { y with buffer := rest })
      (s1.modCtx x.cfg.binding (fun d => { d with inputNs := s1.nowNs })).emit (.toDecoder x.cfg.binding (p.bytes.drop (rtpPayload p.bytes)))

/-- Sequence numbers missing between the packets that a RIST receiver holds, in order; the arrival of the packet after a gap shows the loss, and a loss
that has stood for the recovery window or longer is given up (07 R324). -/
def missingSeqs (now window : Nat) : List Packet → List Nat
  | a :: b :: t =>
    (if now < b.atNs + window then (List.range (min 65536 ((b.seq + 65536 - a.seq) % 65536 - 1))).map (fun i => (a.seq + 1 + i) % 65536) else []) ++
      missingSeqs now window (b :: t)
  | _ => []

/-- Missing numbers as runs: the first of each and how many further ones follow it. -/
def seqRuns : List Nat → List (Nat × Nat)
  | [] => []
  | a :: t => match seqRuns t with
    | (b, n) :: r => if b = (a + 1) % 65536 then (a, n + 1) :: r else (a, 0) :: (b, n) :: r
    | [] => [(a, 0)]

/-- The NACK messages of a report: runs by range, single packets by bitmask (07 R324; PRESUMED, log entry 25). -/
def nackMessages (media : Nat) (want : List Nat) : Bytes :=
  let runs := seqRuns want
  let long := runs.filter (fun r => r.2 != 0)
  let single := runs.filter (fun r => r.2 == 0)
  (if long.isEmpty then [] else [0x80, 204] ++ be 2 (2 + long.length) ++ be 4 media ++ ascii "RIST" ++ long.flatMap (fun r => be 2 r.1 ++ be 2 r.2)) ++
  (if single.isEmpty then [] else [0x81, 205] ++ be 2 (2 + single.length) ++ be 4 0 ++ be 4 media ++ single.flatMap (fun r => be 2 r.1 ++ be 2 0))

/-- RIST_RECEIVER_REPORT: a receiver report, with NACKs for the packets lost inside recovery_ms, sent on dst_udp + 1 (07 R324). The bytes of the
receiver report itself are a free value: the spec names their format and does not give it. -/
def State.receiverReport (s : State) (f : Nat) : State :=
  let x := s.flow f
  if f < 8192 && x.cfg.enabled && x.cfg.kind = 0x08 && s.coresRun then
    let want := if u16 x.cfg.params 2 = 0 then [] else missingSeqs s.nowNs (u16 x.cfg.params 2 * 1000000) (x.buffer ++ x.merge)
    (s.freeB.2.modFlow f (fun y => { y with nackReq := want })).each ([0, 1].filter (s.legRuns x.cfg)) (fun t l =>
      t.emit (.rtcp f l ((x.cfg.leg l).dstUdp + 1) (s.freeB.1 ++ nackMessages x.cfg.ssrc want)))
  else s

/-! ### PTP (07 R329 to R333; 06 R290, R291) -/

/-- Transmit and receive corrections of a lane mode, in 0.25 ns (06 R290). -/
def stampCorrection (mode : Nat) : Int × Int :=
  match mode with
  | 1 => (96, 125) | 2 => (138, 475) | 3 => (125, 410) | 4 => (108, 355) | 5 => (98, 325) | _ => (0, 0)

/-- Transmit and receive corrections of a port with the trims of its reference lane (06 R290, R291). -/
def State.portCorrection (s : State) (p : Nat) : Int × Int :=
  let c := stampCorrection (match portConfig (s.port p).cfg.config with | some x => x.2.1 | none => 0)
  let t := (s.lane (portLane p)).trim
  (c.1 + t.txTrim, c.2 + t.rxTrim)

/-- The FOLLOWER port of the plane that holds the right (07 R330). -/
def State.follows (s : State) (p : Nat) : Bool :=
  (s.port p).ptp.role % 2 == 1 && s.dutyPlane == some (portPlane p) && s.linkOn p

/-- What the default best master algorithm compares, in its order: priority1, clockClass, clockAccuracy, offsetScaledLogVariance, priority2, clock
identity, steps removed (07 R330; PRESUMED, log entry 163). -/
def masterRank (a : PtpMaster) : List Nat := [a.priority, a.clockClass, a.accuracy, a.variance, a.priority2, a.identity, a.steps]

/-- One list of numbers comes before another, the first difference deciding. -/
def ranksBefore : List Nat → List Nat → Bool
  | a :: s, b :: t => a < b || (a == b && ranksBefore s t)
  | _, _ => false

/-- The better of two masters by the data the follower compares (07 R330). -/
def betterMaster (a b : PtpMaster) : Bool := ranksBefore (masterRank a) (masterRank b)

/-- The best of a list of masters. -/
def bestMaster : List PtpMaster → Option PtpMaster
  | [] => none
  | a :: t => match bestMaster t with | some b => if betterMaster b a then some b else some a | none => some a

/-- The follower's master is chosen anew (07 R330). -/
def State.chooseMaster (s : State) (p : Nat) (m : Option PtpMaster) : State :=
  let old := (s.port p).master.map (·.identity)
  let s1 := s.modPort p (fun x => { x with master := m, syncNs := if m.map (·.identity) = old then x.syncNs else 0 })
  match m with
  | some b => if old == some b.identity then s1 else
      s1.event { code := 0x2112, noun := 0x21, index := p, data := le 8 b.identity ++ le 1 b.clockClass ++ le 1 b.steps }
  | none => s1

/-- The master that an Announce message shows. -/
def masterOf (m : PtpMessage) : PtpMaster :=
  { identity := m.identity, clockClass := m.clockClass, steps := m.steps, priority := m.priority, accuracy := m.accuracy, variance := m.variance,
    priority2 := m.priority2 }

/-- Path delay and offset from the master of one exchange, in the unit of its times: the end-to-end mechanism (07 R330). -/
def pathOffset (t1 t2 t3 t4 : Int) : Int × Int :=
  let delay := ((t2 - t1) + (t4 - t3)) / 2
  (delay, t2 - t1 - delay)

/-- A message at the follower; a Delay_Resp ends an exchange and gives a measurement (07 R330, R333). -/
def State.followerMessage (s : State) (p : Nat) (m : PtpMessage) : State :=
  let x := s.port p
  let mine := x.master.map (·.identity) == some m.identity
  match m.kind with
  | .announce =>
    let a := masterOf m
    let l := a :: x.masters.filter (fun b => b.identity != m.identity)
    (s.modPort p (fun y => { y with masters := l })).chooseMaster p (bestMaster l)
  | .sync =>
    if mine then s.modPort p (fun y => { y with syncNs := s.nowNs, syncT2 := m.rx - (s.portCorrection p).2 - m.correction
                                                syncT1 := if m.twoStep then y.syncT1 else m.time })
    else s
  | .followUp => if mine then s.modPort p (fun y => { y with syncT1 := m.time + m.correction }) else s
  | .delayResp => 
    if mine && x.reqOut && m.seq = x.reqSeq then
      let r := pathOffset x.syncT1 x.syncT2 x.reqT3 (m.time - m.correction)
      s.modPort p (fun y => { y with reqOut := false, delay := r.1, offset := r.2 })
    else s
  | _ => s

/-- Ports to which a transparent clock forwards a message (07 R332). -/
def State.clockGroup (s : State) (p : Nat) : List Nat :=
  ((List.range 32).map (32 * portPlane p + ·)).filter (fun q => q != p && (s.port q).ptp.role / 2 % 2 == 1 && s.linkOn q &&
    (s.port q).ptp.domainNumber == (s.port p).ptp.domainNumber)

/-- Ones' complement sum of the 16-bit words of a correctionField, which counts 2^-16 ns (07 R332; PRESUMED, log entry 163). -/
def correctionSum (c : Int) : Nat :=
  let u := (c * 16384 % 18446744073709551616).toNat
  (u % 65536 + u / 65536 % 65536 + u / 4294967296 % 65536 + u / 281474976710656) % 65535

/-- A message with its correctionField increased: over IPv4 its UDP checksum is zero, over IPv6 its trailing octets take up the change of the
field (07 R332). -/
def correctedBy (m : PtpMessage) (more : Int) : PtpMessage :=
  let n := { m with correction := m.correction + more }
  if m.v6 then { n with tail := (m.tail + correctionSum m.correction + 65535 - correctionSum n.correction) % 65535 } else { n with udpSum := 0 }

/-- A message forwarded by the transparent clock. Its residence time at each port is the egress timestamp less the ingress timestamp, both corrected to
the lands; the time between the two uncorrected timestamps is a free value (06 R290; 07 R332, R333). -/
def State.clockForward (s : State) (p : Nat) (m : PtpMessage) : State :=
  let event := m.kind == .sync || m.kind == .delayReq
  s.each (s.clockGroup p) (fun t q =>
    if !event then t.emit (.ptp q m)
    else if m.v6 && !m.trailer then (t.count cntTcUncorrected p 1).emit (.ptp q m)
    else t.free.2.emit (.ptp q (correctedBy m ((t.free.1 : Int) + (t.portCorrection q).1 + (t.portCorrection p).2))))

/-- PTP_MESSAGE_RECEIVE (07 R308, R330 to R332). -/
def State.ptpIn (s : State) (p : Nat) (m : PtpMessage) : State :=
  let c := (s.port p).ptp
  if !s.linkOn p then s
  else
    let s1 := s.count cntRxFrames p 1
    if m.len > (s.port p).cfg.maxFrame then s1.count cntRxOversize p 1
    else if c.role = 0 then s1.count cntRxUnmatched p 1
    else if m.kind = .unsupported || m.domainNumber != c.domainNumber then s1.count cntPtpUnsupported p 1
    else (s1.when (s.follows p) (fun t => t.followerMessage p m)).when (c.role / 2 % 2 == 1) (fun t => t.clockForward p m)

/-- DELAY_REQ_SEND: the follower asks its master for the path delay (07 R330). -/
def State.delayReq (s : State) (p : Nat) : State :=
  match (s.port p).master with
  | some m =>
    if s.follows p then
      (s.modPort p (fun x => { x with reqSeq := (x.reqSeq + 1) % 65536, reqOut := true
                                      reqT3 := (s.nowNs * 4 : Nat) + (s.portCorrection p).1 })).emit (.portFrame p 5 (be 8 m.identity))
    else s
  | none => s

/-- ANNOUNCE_TIMEOUT: the selected master is silent for announce_timeout intervals; the best remaining one is selected (07 R330). -/
def State.announceTimeout (s : State) (p : Nat) (best : PtpMaster) : State :=
  match (s.port p).master with
  | some m =>
    if s.follows p then
      let l := (s.port p).masters.filter (fun b => b.identity != m.identity)
      (s.modPort p (fun x => { x with masters := l })).chooseMaster p (if best.identity = 0 then bestMaster l else some best)
    else s
  | none => s

/-- SET on EthPort, selector 0x03: PTP role (07 R329). -/
def specSetEthPortPtp : ReqSpec where
  verb := 0x02
  noun := 0x21
  sel := some 0x03
  len := (· == 8)
  form := fun b => zeroFrom b 6 2
  bits := fun b => u8 b 1 < 4 && flagsIn (decPtpCfg b).flags 0x03
  bitsReason := 0x0056
  index := (· < 64)
  named := fun s c => [{ present := s.portPresent c.r.index }]
  body := fun c s =>
    let p := c.r.index
    let n := decPtpCfg c.block
    if !(n.domainNumber ≤ 127 && withinI n.logDelay (-7) 0 && within n.announceTimeout 2 10) then (fail stRange 0x0056, s)
    else if n.role % 2 = 1 && ((List.range 32).map (32 * portPlane p + ·)).any (fun q => q != p && (s.port q).ptp.role % 2 == 1) then
      (fail stBusy 0x005A, s)
    else if n.role != 0 && !(s.port p).cfg.hasIp (n.flags.getLsbD 0) then (fail stState 0x005B, s)
    else (okWith [], s.modPort p (fun x =>
      let fresh := n.role % 2 = 1 && (x.ptp.role % 2 = 0 || n.domainNumber != x.ptp.domainNumber)
      { x with ptp := n, roleNs := if n.role % 2 = 1 && x.ptp.role % 2 = 0 then s.nowNs else x.roleNs
               masters := if fresh || n.role % 2 = 0 then [] else x.masters, master := if fresh || n.role % 2 = 0 then none else x.master
               reqOut := if fresh || n.role % 2 = 0 then false else x.reqOut }) |>.savePort p)

/-! ### Queries (07 R335, R336) -/

/-- State byte of a port (07 R335). With every lane Ready and the link not up, a port whose lanes have link training before them shows training, any
other aligning. DEDUCED (log entry 164). -/
def State.portCode (s : State) (p : Nat) : Nat :=
  let x := s.port p
  if x.cfg.enable != 1 || !s.inService then 0
  else if x.state = .up then 5
  else if s.lanesReady p then (if x.cfg.flags.getLsbD 1 && (s.portLanes p).any (fun k => (s.lane k).trained.isNone) then 3 else 4)
  else if x.state = .negotiating then 2 else 1

/-- Block of QUERY on EthPort (07 R335). -/
def portBlock (s : State) (p : Nat) : Bytes :=
  let x := s.port p
  layout 16 [(0, le 1 (s.portCode p)), (1, le 1 x.cfg.config), (2, le 1 (portPlane p)), (3, le 1 (ethReach p)),
    (4, le 1 (bitsOf [x.localFault, x.remoteFault, s.levee.holder == some (portPlane p), s.follows p])),
    (5, le 1 (s.portLanes p).length), (6, le 2 (s.memberships p).length), (8, le 8 x.upS)]

/-- QUERY on EthPort, selector 0x01 (07 R335). -/
def specQueryEthPort : ReqSpec where
  verb := 0x01
  noun := 0x21
  sel := some 0x01
  len := (· == 1)
  index := (· < 64)
  named := fun s c => [{ present := s.portPresent c.r.index, fenced := s.isFenced .flume (portLane c.r.index) }]
  body := fun c s => (okWith (portBlock s c.r.index), s)

/-- A setting of a flow entry. -/
def ofFlow (f : Nat) : Setting → Bool
  | .flow g _ _ => g == f
  | _ => false

/-- State byte of a leg (07 R336). -/
def State.legByte (s : State) (f l : Nat) : Nat :=
  let x := s.flow f
  let g := x.legs.getD l LegSt.reset
  let p := (x.cfg.leg l).port
  let runs := s.legRuns x.cfg l && s.linkOn p
  bitsOf [runs, runs && f < 8192 && multicastIp x.cfg.v6 (x.cfg.leg l).dstIp, s.stands almLegLoss (legKey f l),
    g.lastNs != 0 && s.nowNs < g.lastNs + 4000000]

/-- Block of QUERY on Flow (07 R336). -/
def flowBlock (s : State) (f : Nat) : Bytes :=
  let x := s.flow f
  let n := s.pendingWhere (ofFlow f)
  encFlowCfg 0x01 x.cfg ++ layout 16 [(0, le 1 (s.legByte f 0)), (1, le 1 (s.legByte f 1)), (2, le 1 (bitsOf [n != 0, x.deferred])),
    (4, le 4 n), (8, le 8 x.lastFrame)]

/-- QUERY on Flow, selector 0x01 (07 R336). -/
def specQueryFlow : ReqSpec where
  verb := 0x01
  noun := 0x22
  sel := some 0x01
  len := (· == 1)
  index := (· < 16384)
  named := fun s c => [{ present := s.flowPresent c.r.index }]
  body := fun c s => (okWith (flowBlock s c.r.index), s)

end Sys2Proof.Machine
end

