-- ==== Sys2Proof/Machine/Turnout.lean ====
section
/-! DEFINITION. Turnout: egress queues, selection, pacing, gate lists and queue sampling (spec/08_turnout_levee.md R340 to R358), and
the release of merged packets into it (07 R320, R323). -/
namespace Sys2Proof.Machine

/-! ### Gate lists (08 R351 to R354) -/

/-- The segments of a gate list's cycle: start, end and open queues, the last entry held to the end of the cycle (08 R351). -/
def gateSegments (cycle : Nat) : Nat → List GateEntry → List (Nat × Nat × BitVec 16)
  | _, [] => []
  | at0, [e] => [(at0, max cycle (at0 + e.interval), e.gates)]
  | at0, e :: t => (at0, at0 + e.interval, e.gates) :: gateSegments cycle (at0 + e.interval) t

/-- A list opens queue `q` throughout a span of its cycle, in ps from a start that the cycle may wrap past. -/
def listOpen (g : GateCfg) (q o d : Nat) : Bool :=
  let segs := gateSegments g.cycle 0 g.entries
  let two := segs ++ segs.map (fun x => (x.1 + g.cycle, x.2.1 + g.cycle, x.2.2))
  two.all (fun x => x.2.1 * 1000 ≤ o || x.1 * 1000 ≥ o + d || x.2.2.getLsbD q)

/-- The gate of a queue stays open for `d` ps from an instant under one list that started at `start` ns. -/
def spanOpen (g : GateCfg) (start q tPs d : Nat) : Bool :=
  g.entries.isEmpty || g.cycle == 0 || listOpen g q ((tPs - start * 1000) % (g.cycle * 1000)) d

/-- The gate of a queue stays open for `d` ps from now, the list that takes over deciding from its takeover time (08 R353). -/
def State.gateStays (s : State) (p q d : Nat) : Bool :=
  let g := s.gate p
  let t := s.nowNs * 1000
  match g.pending with
  | some n =>
    let at0 := g.takeover * 1000
    if t ≥ at0 then spanOpen n g.takeover q t d
    else if t + d ≤ at0 then spanOpen g.live g.startNs q t d
    else spanOpen g.live g.startNs q t (at0 - t) && spanOpen n g.takeover q at0 (t + d - at0)
  | none => spanOpen g.live g.startNs q t d

/-- Time that a frame takes on the line, with preamble and gap, in ps (08 R353). -/
def State.linePsOf (s : State) (p len : Nat) : Nat := cdiv ((len + 20) * 8000) (configSpeed (s.port p).cfg.config)

/-- Longest continuous open time of a queue in ns, across entries and the wrap; none when it is always open (08 R354). -/
def longestOpen (g : GateCfg) (q : Nat) : Option Nat :=
  let segs := gateSegments g.cycle 0 g.entries
  if segs.all (fun x => x.2.2.getLsbD q) then none
  else some ((((segs ++ segs).foldl (fun (a : Nat × Nat) x =>
    let run := if x.2.2.getLsbD q then a.1 + (x.2.1 - x.1) else 0
    (run, max a.2 run)) (0, 0))).2)

/-- A frame is longer than its queue is ever open (08 R354). -/
def State.oversize (s : State) (p q len : Nat) : Bool :=
  match longestOpen (s.gate p).live q with
  | some n => s.linePsOf p len > n * 1000
  | none => false

/-- Frames too long for the operational list are dropped from every queue of a port (08 R354). -/
def State.dropOversize (s : State) (p : Nat) : State :=
  s.each (List.range 12) (fun t q =>
    let k := 12 * p + q
    let bad := (t.queue k).frames.filter (fun f => t.oversize p q f.len)
    if bad.isEmpty then t
    else (t.count cntGateOversize k bad.length).modQueue k (fun x => { x with frames := x.frames.filter (fun f => !t.oversize p q f.len) }))

/-- The next change of a port's gates after one instant (08 R351). -/
def nextGateChange (g : GateCfg) (start ns : Nat) : Option Nat :=
  if g.entries.isEmpty || g.cycle = 0 then none
  else
    let base := ns - (ns - start) % g.cycle
    ((gateSegments g.cycle 0 g.entries).map (fun x => base + x.2.1)).find? (fun t => t > ns)

/-- GATE_ENTRY_CHANGE: the operational list moves to its next entry (08 R351). -/
def State.gateChange (s : State) (p : Nat) : State :=
  let g := s.gate p
  match nextGateChange g.live g.startNs (max g.changeNs g.startNs) with
  | some t => (s.advanceTo t).modGate p (fun x => { x with changeNs := t })
  | none => s

/-- The first instant base + N x cycle at or after a time (08 R352). -/
def takeoverNs (c : GateCfg) (ns : Nat) : Nat := if c.base ≥ ns || c.cycle = 0 then max c.base ns else c.base + cdiv (ns - c.base) c.cycle * c.cycle

/-- A list becomes operational (08 R352, R376). -/
def State.gateTakes (s : State) (p : Nat) (c : GateCfg) (at0 : Nat) : State :=
  let s1 := s.modGate p (fun x => { x with live := c, startNs := at0, changeNs := at0, pending := none, takeover := 0 })
  (s1.event { code := 0x2410, noun := 0x24, index := p, data := le 8 at0 }).dropOversize p

/-- GATE_LIST_TAKEOVER (08 R352). -/
def State.gateTakeover (s : State) (p : Nat) : State :=
  match (s.gate p).pending with
  | some c => (s.advanceTo (s.gate p).takeover).gateTakes p c (s.gate p).takeover
  | none => s

/-- A gate list lands at a domain 0 boundary at `ns` (08 R352). -/
def State.landGateList (s : State) (p : Nat) (c : GateCfg) (ns : Nat) : State :=
  let s1 := match (s.gate p).pending with
    | some old => s.event { code := 0x2411, noun := 0x24, index := p, data := le 2 old.entries.length }
    | none => s
  if c.entries.isEmpty then s1.gateTakes p c ns
  else s1.modGate p (fun x => { x with pending := some c, takeover := takeoverNs c ns })

/-! ### Queues (08 R340 to R346) -/

/-- Bytes that a queue holds. -/
def QueueSt.depth (x : QueueSt) : Nat := (x.frames.map (·.len)).foldl (· + ·) 0

/-- The queue of a port that a frame enters (08 R340, R341). -/
def State.classify (s : State) (p : Nat) (e : EgressSource) : Nat :=
  match e with
  | .ptpEvent => 0
  | .general | .management => 1
  | .flow f =>
    let c := (s.flow f).cfg
    if c.kind = 0x01 then 2 else if within c.kind 2 4 then 3 else (s.gate p).dscp.getD c.dscp 4

/-- A frame arrives at Turnout (07 R334; 08 R340 to R343, R354, R371). -/
def State.enqueue (s : State) (p : Nat) (e : EgressFrame) : State :=
  let f := match e.source with | .flow f => f | _ => 0xFFFF
  let single := f != 0xFFFF && (s.flow f).cfg.singleHomed
  let q := s.classify p e.source
  let k := 12 * p + q
  let x := s.queue k
  if !s.linkOn p then s.count cntTxLinkDiscard p 1
  else if single && s.dutyPlane != some (portPlane p) then s.count cntRightDiscardFlow f 1
  else if e.source = .management && s.dutyPlane != some (portPlane p) then s.count cntRightDiscardPlane (portPlane p) 1
  else if q ≥ 4 && x.cfg.quantum = 0 then s.count cntQOffDrop k 1
  else if x.depth + e.len > x.cfg.limit then s.count cntQTailDrop k 1
  else if s.oversize p q e.len then s.count cntGateOversize k 1
  else s.modQueue k (fun y => { y with frames := y.frames ++ [{ len := e.len, atNs := s.nowNs, flow := f, duty := single || e.source = .management }] })

/-- EGRESS_ENQUEUE: on a port the block has and enables (08 R340, R343). -/
def State.egressIn (s : State) (p : Nat) (e : EgressFrame) : State :=
  if s.portPresent p && (s.port p).cfg.enable == 1 then s.enqueue p e else s

/-- The head frame of a queue may start now (08 R344, R353). -/
def State.eligible (s : State) (p q : Nat) : Bool :=
  match (s.queue (12 * p + q)).frames with
  | f :: _ => s.gateStays p q (s.linePsOf p f.len)
  | [] => false

/-- The next weighted queue in turn. -/
def nextTurn (q : Nat) : Nat := if q ≥ 11 then 4 else q + 1

/-- The head of the weighted queue whose turn comes is looked for, at most `fuel` turns on (08 R345): the queue that sends. -/
def State.deficitTurn (s : State) (p : Nat) : Nat → Option Nat × State
  | 0 => (none, s)
  | fuel + 1 =>
    let g := s.gate p
    let q := g.turn
    let k := 12 * p + q
    let pass := fun (t : State) => t.modGate p (fun y => { y with turn := nextTurn q, earned := false })
    if !s.eligible p q then
      State.deficitTurn (pass (if g.earned && (s.queue k).frames.isEmpty then s.modQueue k (fun y => { y with deficit := 0 }) else s)) p fuel
    else
      let s1 := if g.earned then s else
        (s.modQueue k (fun y => { y with deficit := y.deficit + y.cfg.quantum })).modGate p (fun y => { y with earned := true })
      let x := s1.queue k
      match x.frames with
      | f :: rest =>
        if f.len ≤ x.deficit then
          let s2 := s1.modQueue k (fun y => { y with deficit := if rest.isEmpty then 0 else y.deficit - f.len })
          (some q, if rest.isEmpty then pass s2 else s2)
        else State.deficitTurn (pass s1) p fuel
      | [] => State.deficitTurn (pass s1) p fuel

/-- The head frame of a queue leaves (08 R344, R350). -/
def State.sendHead (s : State) (p q : Nat) : State :=
  let k := 12 * p + q
  match (s.queue k).frames with
  | [] => s
  | f :: rest =>
    let s1 := s.modQueue k (fun y => { y with frames := rest })
    let s2 := s1.modGate p (fun y => { y with freeNs := s.nowNs + cdiv (s.linePsOf p f.len) 1000 })
    let s3 := s2.when (q = 2 && s.nowNs - f.atNs > 2000 && f.flow != 0xFFFF) (fun t => t.count cntPaceLate (legKey f.flow (portPlane p)) 1)
    (s3.count cntTxFrames p 1).emit (.line p f.flow f.len)

/-- EGRESS_SELECT: the transmitter is free and the next frame is picked (08 R344, R345, R354). -/
def State.egressSelect (s : State) (p : Nat) : State :=
  if !s.linkOn p then s
  else
    let s1 := (s.advanceTo (s.gate p).freeNs).dropOversize p
    match [0, 1, 2, 3].find? (s1.eligible p) with
    | some q => s1.sendHead p q
    | none =>
      if [4, 5, 6, 7, 8, 9, 10, 11].any (s1.eligible p) then
        (match s1.deficitTurn p 8192 with
         | (some q, s2) => s2.sendHead p q
         | (none, s2) => s2)
      else s1

/-- QUEUE_DELAY_DROP: heads queued longer than the bound are dropped (08 R346). -/
def State.delayDrop (s : State) (k : Nat) : State :=
  let x := s.queue k
  match x.frames with
  | f :: _ =>
    if x.cfg.delayBound = 0 then s
    else
      let b := x.cfg.delayBound * 1000
      let s1 := s.advanceTo (f.atNs + b)
      let keep := x.frames.dropWhile (fun y => y.atNs + b ≤ s1.nowNs)
      (s1.modQueue k (fun y => { y with frames := keep })).count cntQDelayDrop k (x.frames.length - keep.length)
  | [] => s

/-- Queued frames of the duties of a plane are discarded (08 R366). -/
def State.discardDuty (s : State) (plane : Nat) : State :=
  s.each ((List.range 384).map (384 * plane + ·)) (fun t k =>
    let bad := (t.queue k).frames.filter (·.duty)
    if bad.isEmpty then t
    else (t.each bad (fun u f => if f.flow = 0xFFFF then u.count cntRightDiscardPlane plane 1 else u.count cntRightDiscardFlow f.flow 1)).modQueue k
      (fun x => { x with frames := x.frames.filter (fun f => !f.duty) }))

/-! ### Pacing and release (07 R318, R320, R323; 08 R347, R348) -/

/-- Length of a send frame with an RTP payload of some octets (07 R318). -/
def rtpFrameLen (c : FlowCfg) (octets : Nat) : Nat := videoFrameLen c octets - 8

/-- A packet of a send entry enters Turnout on every leg that runs; a single-homed entry with no plane to run on discards it
(07 R318; 08 R371). -/
def State.sendAs (s : State) (f : Nat) (c : FlowCfg) (b : Bytes) : State :=
  let ls := c.legs.filter (s.legRuns c)
  if ls.isEmpty then (if c.singleHomed then s.count cntRightDiscardFlow f 1 else s)
  else s.each ls (fun t l => (t.emit (.packet f l (t.frameBytes c l 0 b))).enqueue (c.leg l).port { source := .flow f, len := rtpFrameLen c (b.length - 12) })

/-- A packet of a send entry under its live settings. -/
def State.sendPacket (s : State) (f : Nat) (b : Bytes) : State := s.sendAs f (s.flow f).cfg b

/-- Offset of the first packet of a frame or field from its alignment point, and the packets' interval, in ps, as ST 2110-21 sets them for the
sender type: type N gapped, type NL linear (08 R347; PRESUMED, ST 2110-21, log entry 161). -/
def pacing (raster rate kind packets : Nat) : Nat × Nat :=
  match rasterOf raster with
  | some r =>
    let span := if r.interlaced then periodPs rate / 2 else periodPs rate
    let off := if raster = 0x01 then 20 * periodPs rate / 525 else if raster = 0x02 then 26 * periodPs rate / 625
      else if r.interlaced then 22 * periodPs rate / 1125 else 43 * periodPs rate / 1125
    let active := if raster = 0x01 then (487, 525) else if raster = 0x02 then (576, 625) else (1080, 1125)
    (off, if kind = 1 then span / max 1 packets else span * active.1 / active.2 / max 1 packets)
  | none => (0, 0)

/-- PACER_RELEASE: packet `j` of the current frame of a send video flow is released at its time and enters queue 2 of each leg, with the
samples of its line that the destination carries; the frame in progress at a landing finishes under the old entry, and a single-homed leg
starts with the first frame after its plane has taken up the right (07 R313, R316, R318; 08 R347, R368). -/
def State.pacerRelease (s : State) (f j : Nat) : State :=
  let c := (s.flow f).old.getD (s.flow f).cfg
  let d := s.dst c.binding
  let fm := s.dstFmt c.binding
  match rasterOf fm.raster with
  | some r =>
    if f ≥ 8192 && c.enabled && c.kind = 0x01 && s.inService && s.domainOn d.domain && j < r.height * linePackets c fm r.width then
      let rate := (s.domain d.domain).rate
      let per := linePackets c fm r.width
      let fields := if r.interlaced then 2 else 1
      let count := r.height / fields * per
      let second : Bool := j ≥ count
      let i := j % count
      let o := packetOctets c fm.sampling
      let at0 := i % per * o
      let n := min o (pgroupOctets fm.sampling r.width - at0)
      let pixel := at0 * 8 / (sampleBits fm.sampling * (if is422 fm.sampling then 2 else 3))
      let y := fields * (i / per) + (if second then 1 else 0)
      let time := pacing fm.raster rate (u8 c.params 5) count
      let t0 := alignNs rate d.frameNo * 1000 + (if second then periodPs rate / 2 else 0)
      let s1 := s.advanceTo (cdiv (t0 + time.1 + i * time.2) 1000)
      let seq := (s.flow f).txSeq.toNat
      let samples := (((s.carried c.binding).getD y []).drop (pixelSamples fm.sampling pixel)).take (n * 8 / sampleBits fm.sampling)
      let b := rtpHeader (s.runMode == .test) (i + 1 == count) c.pt (seq % 65536) (videoStamp rate d.frameNo second) c.ssrc ++
        videoHeader seq n (i / per) pixel second ++ padTo n (packSamples fm.sampling samples)
      if (s.flow f).waits then s1
      else (s1.modFlow f (fun x => { x with paced := j + 1, txSeq := x.txSeq + 1 })).sendAs f c b
    else s
  | none => s

/-- Sample instants of an audio packet, at 48 kHz (07 R313). -/
def packetInstants (c : FlowCfg) : Nat := if u8 c.params 3 = 0 then 48 else 6

/-- Sample instant at or before a device time (05 R218). -/
def sampleUpTo (ns : Nat) : Nat := ns * 48000 / 1000000000

/-- Samples of an output that a send entry carries: its input's under gain and INVERT, silence where it carries none (05 R236, R237). -/
def State.sentSamples (s : State) (k n : Nat) (l : List Int) : List Int :=
  let a := s.aout k
  if s.aoutSilent k then List.replicate n 0 else s.heard k a.gain a.flags ((l ++ List.replicate n 0).take n)

/-- Payload of an audio packet: as many samples of each channel as its entry states; `audio` are the samples of the channels' inputs, `status`
the channel status bits that an ST 2110-31 flow passes (05 R229; 07 R313). -/
def State.audioBody (s : State) (c : FlowCfg) (first : Nat) (audio : List (List Int)) (status : List (List Bool)) : Bytes :=
  let wide := c.kind = 0x02 && u8 c.params 1 = 2
  let n := packetInstants c * (if wide then 2 else 1)
  let chans := if c.kind = 0x02 then u8 c.params 0 else 2 * u8 c.params 0
  let vals := (List.range chans).map (fun i => s.sentSamples (c.binding + (if wide then 2 * i else i)) n (audio.getD i []))
  let rows := (List.range n).map (fun j => vals.map (fun l => l.getD j 0))
  if c.kind = 0x02 then audioPayload (u8 c.params 2) rows
  else rows.zipIdx.flatMap (fun e => e.1.zipIdx.flatMap (fun v =>
    am824 (v.2 % 2 == 0) ((first + e.2) % 192 == 0) ((status.getD v.2 []).getD e.2 false) (s.runMode == .test) v.1))

/-- The ancillary packets of a destination's frame that a line of it carries. -/
def State.ancOn (s : State) (d line : Nat) : List AncPacket := (s.dst d).anc.filter (fun a => a.line == line)

/-- The entry that governs a packet of an audio or ancillary send flow: of audio the one that governed the packet's first sample, of ancillary data
that of the frame in progress (07 R316). -/
def State.releaseEntry (s : State) (f : Nat) : FlowCfg :=
  let x := s.flow f
  let first := sampleUpTo s.nowNs - packetInstants (x.old.getD x.cfg)
  if x.cfg.kind = 0x04 || (x.old.isSome && sampleNs first < x.landNs) then x.old.getD x.cfg else x.cfg

/-- AUDIO_ANC_RELEASE: a packet enters queue 3 of each leg: of an audio entry after its last sample; of an ancillary entry with the packets of a
line (07 R316, R318, R322; 08 R348). -/
def State.audioAncRelease (s : State) (f line : Nat) (audio : List (List Int)) (status : List (List Bool)) : State :=
  let x := s.flow f
  let first := sampleUpTo s.nowNs - packetInstants (x.old.getD x.cfg)
  let c := s.releaseEntry f
  let test := s.runMode == .test
  let seq := x.txSeq.toNat
  let send := fun (t : State) (b : Bytes) => (t.modFlow f (fun y => { y with txSeq := y.txSeq + 1 })).sendAs f c b
  if !(f ≥ 8192 && c.enabled && within c.kind 2 4 && s.inService) then s
  else if c.kind = 0x04 then
    let l := s.ancOn c.binding line
    let last := (s.dst c.binding).anc.all (fun a => a.line ≤ line)
    let rate := (s.domain (s.dst c.binding).domain).rate
    if l.isEmpty then s
    else send s (rtpHeader test last c.pt (seq % 65536) (videoStamp rate (s.dst c.binding).frameNo false) c.ssrc ++ ancPayload seq l)
  else
    let mult := if c.kind = 0x02 then max 1 (u8 c.params 1) else 1
    send s (rtpHeader test false c.pt (seq % 65536) (audioStamp first mult) c.ssrc ++ s.audioBody c first audio status)

/-- Copies of a received packet go to the targets of a kind 0x05 entry (07 R323). -/
def State.forwardOpaque (s : State) (c : FlowCfg) (b : Bytes) : State :=
  s.each ([0, 2, 4, 6].map (u16 c.params)) (fun t g => if g = 0xFFFF || !(t.flow g).cfg.enabled then t else t.sendPacket g b)

/-! ### What leaves the merge stage (05 R230; 07 R319, R320, R322) -/

/-- The segments of a video packet join those of its frame; the frame ends at its marker, or at the first packet of another RTP timestamp. The
fields of an interlaced frame have each their own (07 R318, R319). -/
def FlowSt.takeVideo (x : FlowSt) (interlaced : Bool) (stamp : Nat) (marker : Bool) (l : List Segment) : FlowSt :=
  let second := l.any (·.second)
  let fresh := x.rowStamp.any (· != stamp) && !(interlaced && second)
  let ended := if fresh then x.rows else x.ended
  let endedStamp := if fresh then x.rowStamp.getD 0 else x.endedStamp
  let rows := (if fresh then [] else x.rows) ++ l
  let at0 := if fresh then stamp else x.rowStamp.getD stamp
  if marker && !(interlaced && !second) then { x with rows := [], rowStamp := none, ended := rows, endedStamp := at0 }
  else { x with rows := rows, rowStamp := some at0, ended := ended, endedStamp := endedStamp }

/-- Audio samples play out at the instant of their RTP timestamp plus link_offset; packets lost before them are silence (05 R230; 07 R319). -/
def FlowSt.takeAudio (x : FlowSt) (now stamp gap : Nat) (b : Bytes) : FlowSt :=
  let mult := if x.cfg.kind = 0x02 then max 1 (u8 x.cfg.params 1) else 1
  let chans := if x.cfg.kind = 0x02 then u8 x.cfg.params 0 else 2 * u8 x.cfg.params 0
  let body := if x.cfg.kind = 0x02 then b else (groupsOf 4 0 b).flatMap (·.drop 1)
  let l := audioSamples (if x.cfg.kind = 0x02 then u8 x.cfg.params 2 else 24) chans body
  let silent := gap * packetInstants x.cfg * mult
  let at0 := unwrapStamp stamp (sampleUpTo now * mult) + u32 x.cfg.params 4
  { x with playFrom := at0 - silent, play := List.replicate silent (List.replicate chans 0) ++ l }

/-- What a packet that leaves the merge stage carries reaches its source, channels, targets or decoder (05 R230; 07 R319, R322 to R324). -/
def State.deliverPacket (s : State) (f gap : Nat) (p : Packet) : State :=
  let c := (s.flow f).cfg
  let b := p.bytes.drop (rtpPayload p.bytes)
  if c.kind = 0x01 then
    let inter : Bool := match rasterOf (s.src c.binding).fmt.raster with | some r => r.interlaced | none => false
    s.modFlow f (fun y => y.takeVideo inter p.stamp p.marker (segmentsOf b))
  else if c.kind = 0x02 || c.kind = 0x03 then s.modFlow f (fun y => y.takeAudio s.nowNs p.stamp gap b)
  else if c.kind = 0x04 then s.modSrc c.binding (fun y => { y with ancWait := y.ancWait ++ (ancPackets b).map (fun a => (p.stamp, a)) })
  else if c.kind = 0x05 then s.forwardOpaque c p.bytes
  else if c.kind = 0x07 || c.kind = 0x08 then s.modFlow f (fun y => { y with buffer := y.buffer ++ [{ p with atNs := s.nowNs }] })
  else s

/-- MERGE_RELEASE: the packet first in sequence order leaves the stage at its arrival plus the hold (05 R230; 07 R319 to R323). -/
def State.mergeRelease (s : State) (f : Nat) : State :=
  let x := s.flow f
  match x.merge with
  | [] => s
  | p :: rest =>
    let span := seqSpan x.cfg.kind
    let gap := match x.nextSeq with | some m => (p.seq + span - m) % span | none => 0
    let s1 := (s.advanceTo (p.atNs + holdNs x.cfg.kind)).modFlow f (fun y => { y with merge := rest, nextSeq := some ((p.seq + 1) % span) })
    let s2 := s1.when (gap != 0) (fun t => t.count cntSeqLost f gap)
    let s3 := s2.when (x.cfg.guarded && p.leg < 2) (fun t => t.count cntLegLost (legKey f (1 - p.leg)) 1)
    let s4 := s3.when (x.cfg.kind = 0x01 && x.cfg.guarded) (fun t => t.modSrc x.cfg.binding (fun y => { y with lastPacketNs := t.nowNs }))
    s4.deliverPacket f gap p

/-! ### Sampling (08 R356, R357) -/

/-- Bin of a depth (08 R356). -/
def depthBin (n : Nat) : Nat := if n = 0 then 0 else if n ≥ 1048576 then 15 else max 1 (Nat.log2 (n / 64) + (if n < 64 then 0 else 1))

/-- Bin of a head-of-line delay in ns; 0 ns for an empty queue (08 R356). -/
def delayBin (held : Bool) (n : Nat) : Nat :=
  if !held then 0 else if n ≥ 4096000 then 15 else if n < 250 then 1 else max 1 (Nat.log2 (n / 250) + 1)

/-- A histogram with one more in a bin (00 R13). -/
def binUp (h : List Nat) (k : Nat) : List Nat := lmod h k (fun n => min counterMax (n + 1))

/-- Head-of-line delay of a queue in ns (08 R356). -/
def State.holNs (s : State) (k : Nat) : Nat := match (s.queue k).frames with | f :: _ => s.nowNs - f.atNs | [] => 0

/-- QUEUE_SAMPLE: at a whole millisecond every queue of a port is sampled (08 R356). -/
def State.queueSample (s : State) (p : Nat) : State :=
  if s.portPresent p && (s.port p).cfg.enable == 1 then
    let s1 := s.advanceTo (cdiv s.nowNs 1000000 * 1000000)
    s1.each ((List.range 12).map (12 * p + ·)) (fun t k =>
      let x := t.queue k
      let h := t.holNs k
      t.modQueue k (fun y => { y with samples := min counterMax (y.samples + 1), depthMax := max y.depthMax x.depth, delayMax := max y.delayMax h
                                      depthHist := binUp y.depthHist (depthBin x.depth)
                                      delayHist := binUp y.delayHist (delayBin (!x.frames.isEmpty) h) }))
  else s

/-! ### Checks and requests -/

/-- Steps 5 to 8 of R100 for queue settings (08 R342). -/
def State.checkQueue (s : State) (k : Nat) (c : QueueCfg) : Option Answer :=
  let p := k / 12
  let sum := ((List.range 12).map (fun q => if 12 * p + q = k then c.limit else (s.queue (12 * p + q)).cfg.limit)).foldl (· + ·) 0
  if k ≥ 768 then some (fail stRange 0x0007)
  else if !s.portPresent p then some (fail stAbsent 0)
  else if (if k % 12 < 4 then c.quantum != 0 else c.quantum != 0 && !within c.quantum 64 16777216) || sum > 4194304 then some (fail stRange 0x0060)
  else none

/-- Steps 5 to 8 of R100 for a DSCP map; `k` is the queue named (08 R341). -/
def State.checkDscp (s : State) (k : Nat) (m : List Nat) : Option Answer :=
  if k ≥ 768 then some (fail stRange 0x0007)
  else if !s.portPresent (k / 12) then some (fail stAbsent 0)
  else if k % 12 != 0 then some (fail stInvalid 0x0064)
  else if !m.all (fun q => within q 4 11) then some (fail stRange 0x0060)
  else none

/-- Steps 5 to 8 of R100 for a gate list (08 R351). -/
def State.checkGateList (s : State) (p : Nat) (c : GateCfg) : Option Answer :=
  if p ≥ 64 then some (fail stRange 0x0007)
  else if !s.portPresent p then some (fail stAbsent 0)
  else if c.entries.length > 256 then some (fail stRange 0x0062)
  else if !c.entries.isEmpty && !(within c.cycle 1000 1000000000 && c.entries.all (fun e => within e.interval 64 1000000000) &&
      (c.entries.map (·.interval)).foldl (· + ·) 0 ≤ c.cycle) then some (fail stRange 0x0062)
  else none

/-- The gate list of a block (08 R351). -/
def decGateCfg (b : Bytes) : GateCfg :=
  { cycle := u32 b 4, base := u64 b 8 * 1000000000 + u32 b 16
    entries := (List.range (u16 b 2)).map (fun i => { interval := u32 b (24 + 8 * i), gates := BitVec.ofNat 16 (u16 b (28 + 8 * i)) }) }

/-- The form of a gate list block: reserved fields zero, and as long as its count says (08 R351). -/
def gateForm (b : Bytes) : Bool :=
  u8 b 1 == 0 && zeroFrom b 14 2 && zeroFrom b 20 4 && (List.range (u16 b 2)).all (fun i => u16 b (30 + 8 * i) == 0)

/-- The bytes of a gate list in the layout of R351. -/
def encGateCfg (c : GateCfg) : Bytes :=
  layout 24 [(0, le 1 1), (2, le 2 c.entries.length), (4, le 4 c.cycle), (8, le 6 (c.base / 1000000000)), (16, le 4 (c.base % 1000000000))] ++
    c.entries.flatMap (fun e => le 4 e.interval ++ le 2 e.gates.toNat ++ [0, 0])

/-- The sampling block of a queue (08 R357). -/
def sampleBlock (x : QueueSt) : Bytes :=
  le 8 x.samples ++ le 4 x.depthMax ++ le 4 (min 4294967295 x.delayMax) ++ x.depthHist.flatMap (le 8) ++ x.delayHist.flatMap (le 8)

/-- READ on Queue, selector 0x10 (08 R357; 15 R656, R662). -/
def specReadQueueSamples : ReqSpec where
  verb := 0x13
  noun := 0x23
  sel := some 0x10
  len := (· == 4)
  form := fun b => u8 b 1 ≤ 1 && zeroFrom b 2 2
  index := (· < 768)
  named := fun s c => [{ present := s.portPresent (c.r.index / 12) }]
  body := fun c s =>
    let k := c.r.index
    let a := okWith (sampleBlock (s.queue k))
    if u8 c.block 1 = 0 then (a, s)
    else
      let s1 := s.modQueue k (fun x => { x with samples := 0, depthMax := 0, delayMax := 0, depthHist := QueueSt.reset.depthHist
                                                delayHist := QueueSt.reset.delayHist })
      (a, (s1.count cntHostClearsQueue k 1).event
        { code := 0x4012, noun := 0x23, index := k, always := true, data := le 2 0x23 ++ le 2 0 ++ le 4 k ++ le 1 1 })

/-- Block of QUERY on Queue (08 R358). -/
def queueBlock (s : State) (k : Nat) : Bytes :=
  let x := s.queue k
  let p := k / 12
  let q := k % 12
  let open0 := s.gateStays p q 1
  let held := match x.frames with | f :: _ => open0 && !s.gateStays p q (s.linePsOf p f.len) | [] => false
  layout 32 [(0, le 4 x.depth), (4, le 4 x.frames.length), (8, le 4 (if q < 4 then 0 else x.deficit)),
    (12, le 1 (bitsOf [open0, held, q ≥ 4 && x.cfg.quantum == 0])), (16, le 4 x.cfg.quantum), (20, le 4 x.cfg.limit),
    (24, le 2 x.cfg.delayBound), (28, le 4 (min 4294967295 (s.holNs k)))]

/-- QUERY on Queue, selector 0x01 (08 R358). -/
def specQueryQueue : ReqSpec where
  verb := 0x01
  noun := 0x23
  sel := some 0x01
  len := (· == 1)
  index := (· < 768)
  named := fun s c => [{ present := s.portPresent (c.r.index / 12) }]
  body := fun c s => (okWith (queueBlock s c.r.index), s)

/-- Block of QUERY on GateList with selector 0x01 (08 R358). -/
def gateBlock (s : State) (k : Nat) : Bytes :=
  let g := s.gate k
  let cycles := if g.live.entries.isEmpty || g.live.cycle = 0 then 0 else (s.nowNs - g.startNs) / g.live.cycle
  encGateCfg g.live ++ le 8 (if g.pending.isSome then g.takeover else 0) ++ le 8 cycles

/-- QUERY on GateList, selector 0x01 (08 R358). -/
def specQueryGateList : ReqSpec where
  verb := 0x01
  noun := 0x24
  sel := some 0x01
  len := (· == 1)
  indirect := true
  index := (· < 64)
  named := fun s c => [{ present := s.portPresent c.r.index }]
  body := fun c s => (okWith (gateBlock s c.r.index), s)

end Sys2Proof.Machine
end

