-- ==== Sys2Proof/Machine/Streams.lean ====
section
/-! DEFINITION. Deliveries: the release of access units, host rings, transport streams over RTP and RIST
(11 R471, R486 to R500, R502; 05 R251, R252; 01 R46). -/
namespace Sys2Proof.Machine

/-! ### Checks (11 R486 to R494) -/

/-- AAC programmes that a delivery block names, in order. -/
def DelivCfg.aacs (c : DelivCfg) : List Nat := [c.aac0, c.aac1, c.aac2, c.aac3].filter (· != 0xFFFF)

/-- A delivery is present: its reach is fitted and there are Clause cores (11 R486). -/
def State.delivPresent (s : State) (d : Nat) : Bool := d < 1024 && hasCores s.fused.part && reachFitted s.fused.part (d / 256)

/-- Domain of the delivery part (11 R487). -/
def State.delivDomain (s : State) (c : DelivCfg) : Nat :=
  if c.rendition < 256 then s.feedDomain (s.rend c.rendition).cfg.stem
  else match c.aacs with | a :: _ => s.aoutDomain a | [] => 0

/-- ts_rate of a send entry (11 R490). -/
def tsRate (f : FlowCfg) : Nat := u32 f.params 0

/-- Fields of an enabled delivery block are in range (11 R487). -/
def delivRange (c : DelivCfg) : Bool :=
  let aligned := c.dataBase % 4096 == 0 && c.recBase % 4096 == 0 && c.wbAddr % 8 == 0 && c.consAddr % 8 == 0
  c.enable ≤ 1 && c.aacs.all (fun a => a % 2 == 0 && a < 16384) &&
  (if c.kind = 3 then
     (c.rendition ≤ 255 || c.rendition == 0xFFFF) && within c.chunkPictures 1 60 && c.aacs.length == (if c.rendition = 0xFFFF then 1 else 0) &&
       c.ptsDelayUs == 0 && c.flow == 0 && aligned && flagsIn c.flags 0x03 && within c.dataLog2 16 28 && within c.recLog2 6 16
   else
     c.rendition ≤ 255 && c.chunkPictures == 0 && within c.ptsDelayUs 1000 2000000 && within c.flow 8192 16383 && c.dataBase == 0 &&
       c.dataLog2 == 0 && c.recLog2 == 0 && c.recBase == 0 && c.wbAddr == 0 && c.consAddr == 0 && c.flags == 0)

/-- Content, entry and ports lie in the delivery's reach, and the kinds agree (11 R488). -/
def delivPlaced (d : Nat) (c : DelivCfg) (f : FlowCfg) : Bool :=
  (c.rendition > 255 || c.rendition / 64 == d / 256) && c.aacs.all (fun a => audioReach a == d / 256) &&
  (c.kind == 3 || (f.kind == 8 + c.kind && f.binding == d && flowReach c.flow == d / 256 && f.legs.all (fun l => ethReach (f.leg l).port == d / 256)))

/-- The part of a delivery block's checks that needs no other setting (11 R486 to R488; 10 R425). -/
def State.checkDeliv (s : State) (d : Nat) (c : DelivCfg) (f : FlowCfg) : Option Answer :=
  if s.inService && c.rendition ≤ 255 && s.sleeps .clauseCore then some (fail stState 0x0006)
  else if d ≥ 1024 then some (fail stRange 0x0007)
  else match namedFail [{ present := s.delivPresent d && (c.enable != 1 || ((c.rendition > 255 || s.rendPresent c.rendition) &&
      c.aacs.all (fun a => a ≥ 16384 || s.aoutPresent a))) }] 0 false with
  | some a => some a
  | none =>
    if c.enable > 1 || (c.enable = 1 && !delivRange c) then some (fail stRange (if c.kind = 3 then 0x0096 else 0x0094))
    else if !s.domainOn (s.delivDomain c) then some (fail stState 0x0009)
    else if c.enable = 1 && !delivPlaced d c f then some (fail stInvalid 0x0093)
    else none

/-- PIDs of a transport stream (11 R490). -/
def tsPids (c : DelivCfg) (f : FlowCfg) : List Nat :=
  [u16 f.params 6, u16 f.params 8] ++ (List.range 4).filterMap (fun i =>
    if [c.aac0, c.aac1, c.aac2, c.aac3].getD i 0xFFFF != 0xFFFF then some (u16 f.params 10 + i) else none)

/-- Least pts_delay_us of the content of a delivery, in ns (11 R491). -/
def State.ptsLeast (s : State) (c : DelivCfg) : Nat :=
  let r := s.rend c.rendition
  let k := r.cfg.stem
  let video := if c.rendition > 255 || r.cfg.enable != 1 then 0 else s.picPeriodPs k / 1000 + s.latencyNs k + r.rate.initDelayUs * 1000 + 2000000
  c.aacs.foldl (fun m a => max m (if (s.aout a).aacWanted.profile ≥ 2 then 110000000 else if (s.aout a).aacWanted.profile = 1 then 67000000 else 0)) video

/-- The transport stream, RTP, RIST and delay values of kinds 1 and 2 (11 R490, R491, R493). -/
def State.tsOk (s : State) (c : DelivCfg) (f : FlowCfg) : Bool :=
  let pids := tsPids c f
  let audio := (c.aacs.map (fun a => (s.aout a).aacWanted.bitrate)).foldl (· + ·) 0
  f.pt == 33 && (c.kind == 1 || f.ssrc % 2 == 0) && u16 f.params 4 != 0 && pids.all (fun p => within p 0x10 0x1FFE) &&
  pids.eraseDups.length == pids.length && (if c.kind = 1 then u16 f.params 12 == 0 else u16 f.params 12 ≤ 2000) && zeroFrom f.params 14 10 &&
  tsRate f * 100 ≥ 103 * (s.rend c.rendition).rate.r + 110 * audio + 6400000 && c.ptsDelayUs * 1000 ≥ s.ptsLeast c

/-- The checks of a delivery against the state that will be live at its boundary (11 R486, R488, R490, R491, R494). -/
def State.finalDeliv (s : State) (d : Nat) (f : FlowCfg) : Option Answer :=
  let c := (s.deliv d).cfg
  let taken := s.delivs.any (fun e => e.1 != d && e.2.cfg.enable == 1 && e.2.cfg.kind != 3 && e.2.cfg.flow == c.flow) ||
    ((s.flow c.flow).cfg.enabled && (s.flow c.flow).byDelivery != some d)
  if c.enable != 1 then none
  else if c.kind = 3 && c.rendition ≤ 255 && 2 ^ c.dataLog2 * 8 < 2 * (s.rend c.rendition).rate.cpbSize then some (fail stRange 0x0096)
  else if c.kind != 3 && !s.tsOk c f then some (fail stRange 0x0094)
  else if c.kind != 3 && taken then some (fail stBusy 0x0097)
  else if c.rendition ≤ 255 && (s.delivs.filter (fun e => e.2.cfg.enable == 1 && e.2.cfg.rendition == c.rendition)).length > 4 then some (fail stCapacity 0x0095)
  else none

/-- A delivery block lands: an enabled delivery, or one that changes what it carries, waits for a start point
(11 R487, R489, R490). -/
def State.landDeliv (s : State) (d : Nat) (c : DelivCfg) (frame : Nat) : State :=
  s.modDeliv d (fun x =>
    let same := x.cfg.enable = 1 && c.enable = 1 &&
      { x.cfg with flags := 0, chunkPictures := 0, ptsDelayUs := 0 } == { c with flags := 0, chunkPictures := 0, ptsDelayUs := 0 }
    if same then { x with cfg := c }
    else if c.enable = 1 then
      { DelivSt.reset with cfg := c, waiting := true, fromFrame := frame, discont := true, first := true, cc := x.cc
                           tableNs := s.nowNs, pcrNs := s.nowNs, tsNext := s.nowNs, srNs := s.nowNs + 100000000 }
    else { x with cfg := c, waiting := false, running := false, discarding := false, tsQueue := [], sent := [] })

/-! ### Transport packets (11 R490; ISO/IEC 13818-1 layouts are PRESUMED, log entry 25) -/

/-- One bit of an MSB-first CRC-32 register with polynomial 0x04C11DB7. -/
def crcMsbBit (c : BitVec 32) : BitVec 32 := if c.getLsbD 31 then (c <<< 1) ^^^ 0x04C11DB7#32 else c <<< 1

/-- One byte fed to that register. -/
def crcMsbByte (c : BitVec 32) (b : Byte) : BitVec 32 :=
  crcMsbBit (crcMsbBit (crcMsbBit (crcMsbBit (crcMsbBit (crcMsbBit (crcMsbBit (crcMsbBit (c ^^^ (b.setWidth 32 <<< 24)))))))))

/-- CRC of a PSI section. -/
def crcMpeg (b : Bytes) : Nat := (b.foldl crcMsbByte 0xFFFFFFFF#32).toNat

/-- One transport packet: payload of at most 184 bytes, filled up with an adaptation field. -/
def tsPacket (pid cc : Nat) (start : Bool) (payload : Bytes) : Bytes :=
  let pad := 184 - payload.length
  [0x47] ++ be 2 ((if start then 0x4000 else 0) + pid) ++ be 1 ((if pad = 0 then 0x10 else 0x30) + cc) ++
    (if pad = 0 then [] else be 1 (pad - 1) ++ (if pad = 1 then [] else [0] ++ List.replicate (pad - 2) 0xFF)) ++ payload

/-- A null packet (11 R490). -/
def nullPacket : Bytes := [0x47, 0x1F, 0xFF, 0x10] ++ List.replicate 184 0xFF

/-- A packet that carries a PCR in 27 MHz units (11 R490). -/
def pcrPacket (pid cc pcr : Nat) (discont : Bool) : Bytes :=
  [0x47] ++ be 2 pid ++ be 1 (0x20 + cc) ++ [183] ++ be 1 (0x10 + if discont then 0x80 else 0) ++
    be 6 ((pcr / 300 % 8589934592) * 32768 + 0x7E00 + pcr % 300) ++ List.replicate 176 0xFF

/-- A payload cut into transport packets with rising continuity counters; `fuel` bounds the packets. -/
def tsPackets (pid : Nat) : Nat → Nat → Bool → Bytes → List Bytes
  | 0, _, _, _ => []
  | fuel + 1, cc, start, b => if b.isEmpty then [] else tsPacket pid cc start (b.take 184) :: tsPackets pid fuel ((cc + 1) % 16) false (b.drop 184)

/-- A payload enters the multiplex of a delivery on a PID (11 R490). -/
def DelivSt.mux (x : DelivSt) (pid : Nat) (front : Bool) (b : Bytes) : DelivSt :=
  let cc := (tget (fun _ => (0 : BitVec 4)) x.cc pid).toNat
  let l := tsPackets pid (b.length / 184 + 1) cc true b
  { x with cc := tset (fun _ => (0 : BitVec 4)) x.cc pid (BitVec.ofNat 4 (cc + l.length)), tsQueue := if front then l ++ x.tsQueue else x.tsQueue ++ l }

/-- A PTS field of 5 bytes (11 R491). -/
def ptsField (pts : Nat) : Bytes :=
  be 1 (0x21 + pts / 1073741824 % 8 * 2) ++ be 2 (pts / 32768 % 32768 * 2 + 1) ++ be 2 (pts % 32768 * 2 + 1)

/-- A PES packet with PTS only and data_alignment_indicator 1 (11 R490). -/
def pesPacket (stream pts : Nat) (bounded : Bool) (b : Bytes) : Bytes :=
  [0, 0, 1] ++ be 1 stream ++ be 2 (if bounded then (b.length + 8) % 65536 else 0) ++ [0x84, 0x80, 5] ++ ptsField pts ++ b

/-- A PSI section with its length and CRC. -/
def psiSection (table : Nat) (body : Bytes) : Bytes :=
  let b := be 1 table ++ be 2 (0xB000 + body.length + 4) ++ body
  b ++ be 4 (crcMpeg b)

/-- stream_type of a codec (11 R490). -/
def streamType (codec : Nat) : Nat := match codec with | 1 => 0x24 | 2 => 0x33 | 3 => 0x06 | _ => 0x1B

/-- A registration descriptor (11 R490; 01 R46). -/
def registration (t : String) : Bytes := [5, 4] ++ ascii t

/-- One elementary stream of a PMT. -/
def pmtStream (ty pid : Nat) (desc : Bytes) : Bytes := be 1 ty ++ be 2 (0xE000 + pid) ++ be 2 (0xF000 + desc.length) ++ desc

/-- PAT and PMT of a delivery; `tsid` is the transport_stream_id, which the spec leaves open (11 R490; 01 R46). -/
def psiTables (c : DelivCfg) (f : FlowCfg) (codec tsid : Nat) (test : Bool) : Bytes × Bytes :=
  let prog := u16 f.params 4
  let info := if test then registration "TEST" else []
  let audio := (List.range 4).flatMap (fun i =>
    if [c.aac0, c.aac1, c.aac2, c.aac3].getD i 0xFFFF = 0xFFFF then [] else pmtStream 0x0F (u16 f.params 10 + i) [])
  ([0] ++ psiSection 0 (be 2 tsid ++ [0xC1, 0, 0] ++ be 2 prog ++ be 2 (0xE000 + u16 f.params 6)),
   [0] ++ psiSection 2 (be 2 prog ++ [0xC1, 0, 0] ++ be 2 (0xE000 + u16 f.params 8) ++ be 2 (0xF000 + info.length) ++ info ++
     pmtStream (streamType codec) (u16 f.params 8) (if codec = 3 then registration "AV01" else []) ++ audio))

/-- The send entry of a delivery of kind 1 or 2 has landed (11 R500). -/
def State.flowLanded (s : State) (d : Nat) : Bool :=
  let x := s.deliv d
  let f := s.flow x.cfg.flow
  x.cfg.enable == 1 && (x.cfg.kind == 1 || x.cfg.kind == 2) && f.cfg.enabled && f.byDelivery == some d

/-- TS_TABLE_INSERT: PAT and PMT every 100 ms and at the start of the delivery (11 R490). -/
def State.tsTables (s : State) (d : Nat) : State :=
  if !s.flowLanded d || !s.inService then s
  else
    let x := s.deliv d
    let f := (s.flow x.cfg.flow).cfg
    let s1 := (s.advanceTo x.tableNs).free
    let t := psiTables x.cfg f (s.rend x.cfg.rendition).cfg.codec s1.1 (s.mode.current == .test)
    s1.2.modDeliv d (fun y => { (y.mux (u16 f.params 6) true t.2).mux 0 true t.1 with tableNs := y.tableNs + 100000000 })

/-- Nanoseconds that one RTP packet of 7 transport packets takes at ts_rate (11 R492). -/
def rtpSpanNs (f : FlowCfg) : Nat := 7 * 188 * 8 * 1000000000 / max 1 (tsRate f)

/-- The scheduled time of an RTP packet of 7 transport packets: a PCR where one is due, waiting packets, null packets
(11 R490, R492, R493); a packet that cannot be read from its buffer is not sent, and consumes its sequence number (14 R590). -/
def State.tsPacket (s : State) (d : Nat) (whole : Bool) : State :=
  if !s.flowLanded d || !s.inService then s
  else
    let x := s.deliv d
    let fl := s.flow x.cfg.flow
    let f := fl.cfg
    let at0 := x.tsNext
    let s1 := s.advanceTo at0
    let span := rtpSpanNs f
    let due := at0 + span > x.pcrNs
    let pid := u16 f.params 8
    let ccPrev := ((tget (fun _ => (0 : BitVec 4)) x.cc pid).toNat + 15) % 16
    let pcr := if due then [pcrPacket pid ccPrev (at0 * 27 / 1000) x.discont] else []
    let l := (pcr ++ x.tsQueue).take 7
    let pkts := l ++ List.replicate (7 - l.length) nullPacket
    let rtp := [0x80] ++ be 1 33 ++ be 2 fl.txSeq.toNat ++ be 4 (at0 * 9 / 100000 % 4294967296) ++ be 4 f.ssrc ++ pkts.flatten
    let keep := u16 f.params 12 * 1000000
    let s2 := s1.modDeliv d (fun y => { y with
      tsNext := at0 + span, tsQueue := y.tsQueue.drop (7 - pcr.length), pcrNs := if due then at0 + 20000000 else y.pcrNs
      discont := y.discont && !due, packets := y.packets + 1
      sent := if y.cfg.kind = 2 && keep != 0 && whole then (y.sent.filter (fun e => at0 < e.2.1 + keep)) ++ [(fl.txSeq.toNat % 65536, at0, rtp)] else y.sent })
    (s2.modFlow x.cfg.flow (fun y => { y with txSeq := y.txSeq + 1 })).when whole (fun t => t.sendPacket x.cfg.flow rtp)

/-- TS_PACKET_SEND (11 R490, R492). -/
def State.tsSend (s : State) (d : Nat) : State := s.tsPacket d true

/-! ### RIST (11 R493) -/

/-- RIST_SENDER_REPORT: a sender report and an SDES packet every 100 ms on each leg (11 R493); the NTP time and the SDES text
are left open. -/
def State.ristReport (s : State) (d : Nat) : State :=
  let x := s.deliv d
  if !s.flowLanded d || x.cfg.kind != 2 || !s.inService then s
  else
    let f := (s.flow x.cfg.flow).cfg
    let s1 := s.advanceTo x.srNs
    let a := s1.freeB
    let b := a.2.freeB
    let sr := [0x80, 200] ++ be 2 6 ++ be 4 f.ssrc ++ padTo 8 a.1 ++ be 4 (s1.nowNs * 9 / 100000 % 4294967296) ++
      be 4 x.packets ++ be 4 (x.packets * 1316)
    (b.2.modDeliv d (fun y => { y with srNs := y.srNs + 100000000 })).each (f.legs.filter (s.legRuns f)) (fun t l => t.emit (.packet x.cfg.flow l (t.frameBytes f l 1 (sr ++ b.1))))

/-- Sequence numbers that the messages of an RTCP packet ask for, with the number of NACK messages: generic NACK and range NACK
(11 R493; VSF TR-06-1 forms PRESUMED, log entry 25); `fuel` bounds the messages. -/
def nackSeqs : Nat → Bytes → Nat × List Nat
  | 0, _ => (0, [])
  | fuel + 1, b =>
    if b.length < 4 then (0, [])
    else
      let len := 4 * (beNat (slice b 2 2) + 1)
      let body := (b.take len).drop 12
      let words := (List.range (body.length / 4)).map (fun i => (beNat (slice body (4 * i) 2), beNat (slice body (4 * i + 2) 2)))
      let rest := nackSeqs fuel (b.drop len)
      if u8 b 1 = 205 && u8 b 0 % 32 = 1 then
        (rest.1 + 1, words.flatMap (fun w => w.1 :: ((List.range 16).filter (fun i => w.2 / 2 ^ i % 2 == 1)).map (fun i => (w.1 + i + 1) % 65536)) ++ rest.2)
      else if u8 b 1 = 204 && u8 b 0 % 32 = 0 && slice b 8 4 == ascii "RIST" then
        (rest.1 + 1, words.flatMap (fun w => (List.range (w.2 + 1)).map (fun i => (w.1 + i) % 65536)) ++ rest.2)
      else rest

/-- One packet asked for: held and within the limit it goes out again on the leg that asked, with the least significant bit of
the SSRC set (11 R493). -/
def State.retransmit (d l : Nat) (s : State) (seq : Nat) : State :=
  let x := s.deliv d
  let f := (s.flow x.cfg.flow).cfg
  match (x.sent.filter (fun e => s.nowNs < e.2.1 + u16 f.params 12 * 1000000)).find? (fun e => e.1 == seq) with
  | none => s.count cntRistTooOld d 1
  | some e =>
    let recent := x.retrans.filter (fun t => s.nowNs < t.1 + 100000000)
    let used := (recent.map (·.2)).foldl (· + ·) 0
    if (used + 1316 * 8) * 40 > tsRate f then s.count cntRistLimitDrop d 1
    else
      let b := e.2.2.take 8 ++ be 4 (f.ssrc / 2 * 2 + 1) ++ e.2.2.drop 12
      let s1 := (s.modDeliv d (fun y => { y with retrans := (s.nowNs, 1316 * 8) :: recent })).count cntRistRetrans d 1
      if s1.legRuns f l then (s1.emit (.packet x.cfg.flow l (s1.frameBytes f l 0 b))).enqueue (f.leg l).port { source := .flow x.cfg.flow, len := rtpFrameLen f (b.length - 12) }
      else s1

/-- RTCP of a RIST receiver: a datagram for destination UDP port dst_udp + 1 of a leg of a kind 2 delivery (11 R493). -/
def State.ristIn (p : Nat) (s : State) (_src : Bytes) (dp : Nat) (b : Bytes) : Option State :=
  match s.delivs.findSome? (fun e =>
    if e.2.cfg.kind == 2 && s.flowLanded e.1 then
      let f := (s.flow e.2.cfg.flow).cfg
      (f.legs.find? (fun l => (f.leg l).port == p && (f.leg l).dstUdp + 1 == dp)).map (fun l => (e.1, l))
    else none) with
  | none => none
  | some m =>
    let n := nackSeqs (b.length / 4 + 1) b
    some ((s.count cntRistNack m.1 n.1).each n.2 (State.retransmit m.1 m.2))

/-! ### Host rings (11 R494 to R499) -/

/-- The host ring of a delivery (11 R494). -/
def DelivSt.hostRing (x : DelivSt) : HostRing :=
  { dataBase := x.cfg.dataBase, dataLog2 := x.cfg.dataLog2, recBase := x.cfg.recBase, recLog2 := x.cfg.recLog2, wbAddr := x.cfg.wbAddr,
    recProd := x.recProd, dataProd := x.dataProd, recCons := x.recCons, dataCons := x.dataCons }

/-- Counts of a host ring put back into its delivery. -/
def DelivSt.withRing (x : DelivSt) (h : HostRing) : DelivSt :=
  { x with recProd := h.recProd, dataProd := h.dataProd, recCons := h.recCons, dataCons := h.dataCons }

/-- Event 0x3211 for a record with CHUNK_START or END of a delivery with CHUNK_EVENT (11 R496, R504). -/
def State.chunkEvent (s : State) (d flags frame : Nat) : State :=
  let x := s.deliv d
  if x.cfg.flags.getLsbD 0 && flags &&& (recChunk + recEnd) != 0 then
    s.event { code := 0x3211, noun := 0x32, index := d, frame := frame,
              data := le 4 (x.recProd - 1).toNat ++ le 1 flags ++ List.replicate 3 0 ++ le 8 frame }
  else s

/-- A stream has ended: one END record in the host ring (11 R499). -/
def State.delivEnd (s : State) (d : Nat) : State :=
  let w := s.putEnd (s.deliv d).hostRing
  if w.2.recProd = (s.deliv d).recProd then w.1
  else (w.1.modDeliv d (fun x => x.withRing w.2)).chunkEvent d recEnd 0

/-- A unit that finds no room, or whose ring fails, is discarded (11 R499): cause 0 ring full, 1 host memory error. -/
def State.discardUnit (s : State) (d cause : Nat) : State :=
  let x := s.deliv d
  let s1 := (s.modDeliv d (fun y => { y with discarding := true, discards := y.discards + 1 })).count cntDlvDiscard d 1
  if x.discarding then s1 else (s1.raise almDlvFull d).event { code := 0x3212, noun := 0x32, index := d, data := le 1 cause }

/-- What a unit brings to a delivery. -/
structure UnitInfo where
  /-- the unit as it goes to a host ring -/
  bytes : Bytes
  pts : Nat
  frame : Nat
  duration : Nat
  sap : Nat
  /-- flags of its own: PARAM_SETS, FLOOR, STREAM_START -/
  flags : Nat
  /-- a point at which discarding may end -/
  boundary : Bool
deriving DecidableEq, Repr

/-- A unit goes to the host ring of a kind 3 delivery: consumer word, room, data, record, writeback word, event
(11 R494 to R499). -/
def State.ringUnit (s : State) (d : Nat) (u : UnitInfo) (cons : ConsWord) : State :=
  let x := s.deliv d
  if x.discarding && !u.boundary then s.discardUnit d 0
  else match cons with
    | none => s.discardUnit d 1
    | some w =>
      let h := x.hostRing.consumed w
      let s0 := s.modDeliv d (fun y => { y.withRing h with freeBytes := h.freeBytes, freeRecs := h.freeRecs })
      if !h.fits u.bytes.length then s0.discardUnit d 0
      else
        let frag := u.sap != 0 || x.first
        let chunk := x.first || x.chunkPos + 1 ≥ x.cfg.chunkPictures || (frag && x.cfg.rendition ≤ 255)
        let flags := u.flags + (if chunk then recChunk else 0) + (if (if x.cfg.rendition ≤ 255 then frag else chunk) then recFragment else 0) +
          (if x.discarding then recDiscont else 0)
        let p := s0.putUnit h u.bytes { pts := u.pts, frame := u.frame, flags := flags, sap := u.sap, duration := u.duration }
        let s1 := p.1.modDeliv d (fun y => { y.withRing p.2 with chunkPos := if chunk then 0 else y.chunkPos + 1, first := false })
        let s2 := (s1.count cntDlvUnits d 1).chunkEvent d flags u.frame
        if x.discarding then
          ((s2.modDeliv d (fun y => { y with discarding := false, discards := 0 })).clearAlarm almDlvFull d).event
            { code := 0x3213, noun := 0x32, index := d, data := le 8 x.discards }
        else s2

/-- A delivery that waits begins with this unit (11 R489, R504). -/
def State.delivBegin (s : State) (d frame : Nat) : State :=
  (s.modDeliv d (fun x => { x with waiting := false, running := true, discont := true, first := true })).event
    { code := 0x3210, noun := 0x32, index := d, frame := frame, data := le 1 (s.deliv d).cfg.kind ++ List.replicate 7 0 ++ le 8 frame }

/-! ### The delivery instant (11 R471, R485, R489, R492, R496) -/

/-- Streams whose last picture has been released end: their END records are written (11 R499). -/
def State.endStreams (s : State) (k : Nat) : State :=
  let rs := (s.rends.filter (fun e => (e.2.cfg.stem == k || e.2.old.stem == k) &&
    (match e.2.endAt with | some f => !e.2.hand.any (fun p => p.frame < f) && (s.stem k).frame ≥ f | none => false))).map (·.1)
  s.each rs (fun t r =>
    ((t.modRend r (fun x => { x with endAt := none })).each ((t.delivs.filter (fun e => e.2.cfg.kind == 3 && e.2.running && e.2.cfg.rendition == r)).map (·.1))
      (fun u d => u.delivEnd d)))

/-- A coded picture goes to one delivery of its rendition (11 R489 to R492, R496 to R498). -/
def State.delivUnit (p : RendPic) (unit : Bytes) (cons : ConsReads) (s : State) (d : Nat) : State :=
  let x := s.deliv d
  let k := p.cfg.stem
  let sap := if p.intra then 1 else if p.cycleStart then 4 else 0
  let s1 := if x.waiting && p.frame ≥ x.fromFrame && (p.boundary || p.starts.isSome) && (x.cfg.kind = 3 || s.flowLanded d) then s.delivBegin d p.frame else s
  let y := s1.deliv d
  let pts := alignNs (s.feedRate k) p.frame + p.field * (s.picPeriodPs k / 1000)
  if !y.running then s1
  else if y.cfg.kind = 3 then
    s1.ringUnit d { bytes := unitForm (p.cfg.codec == 3) (y.cfg.flags.getLsbD 1) unit, pts := pts, frame := p.frame
                    duration := s.picPeriodPs k * p.cfg.rateDiv / 1000, sap := sap, boundary := p.boundary || p.starts.isSome
                    flags := (if sap != 0 || p.starts.isSome then recParams else 0) + (if p.rowsCut + p.rowsBudget != 0 then recFloor else 0) +
                      (if p.starts.isSome then recStart else 0) }
      (match cons.find? (fun e => e.1 == d) with | some e => e.2 | none => none)
  else if s1.flowLanded d then
    (s1.modDeliv d (fun z => { z.mux (u16 (s1.flow z.cfg.flow).cfg.params 8) false
      (pesPacket (if p.cfg.codec = 3 then 0xBD else 0xE0) ((pts + z.cfg.ptsDelayUs * 1000) * 9 / 100000 % 8589934592) false unit)
      with discont := z.discont || p.starts.isSome })).count cntDlvUnits d 1
  else s1

/-- One rendition releases its picture: floor rows, refresh cycles and deliveries (10 R456; 11 R471, R485). -/
def State.releasePicture (cons : ConsReads) (s : State) (e : Nat × RendPic) : State :=
  let r := e.1
  let p := e.2
  let rows := p.rowsCut + p.rowsBudget
  let s1 := (s.modRend r (fun x => { x with hand := x.hand.filter (· != p), floorRows := rows })).noteFloor r rows
  let s2 := s1.when (p.cycleEnd != 0) (fun t => (t.count cntRefreshCycles r 1).event
    { code := 0x3112, noun := 0x31, index := r, domain := s.feedDomain p.cfg.stem, frame := p.frame, data := le 2 p.cycleEnd })
  s2.each ((s2.delivs.filter (fun x => x.2.cfg.enable == 1 && x.2.cfg.rendition == r)).map (·.1)) (State.delivUnit p (p.unit.getD []) cons)

/-- DELIVERY_INSTANT: at D(N) every rendition of the stem releases its access unit of picture N to its deliveries, never before
(11 R471). -/
def State.deliveryInstant (s : State) (k : Nat) (cons : ConsReads) : State :=
  match (s.stem k).pics with
  | [] => s
  | q :: rest =>
    let hand := s.rends.flatMap (fun e => (e.2.hand.filter (fun p => p.cfg.stem == k && p.frame == q.frame && p.field == q.field)).map (fun p => (e.1, p)))
    if !q.done || hand.any (fun e => e.2.unit.isNone) then s
    else
      let s1 := ((s.advanceTo q.dueNs).modStem k (fun x => { x with pics := rest })).endStreams k
      (s1.each hand (State.releasePicture cons)).endStreams k

/-! ### AAC programmes (05 R250 to R252; 11 R490, R497 to R499) -/

/-- Samples of an access unit (05 R250). -/
def aacSamples (profile : Nat) : Nat := if profile = 1 then 1024 else 2048

/-- An ADTS header before a raw access unit (11 R490; ISO/IEC 14496-3 layout PRESUMED, log entry 25). -/
def adts (c : AacCfg) (au : Bytes) : Bytes :=
  let ch := if c.profile = 3 then 1 else c.channels
  let freq := if c.profile = 1 then 3 else 6
  be 7 (0xFFF1 * 1099511627776 + (64 + freq * 4) * 4294967296 + ch * 1073741824 + (au.length + 7) % 8192 * 8192 + 0x1FFC) ++ au

/-- A programme's access unit goes to one delivery that names it (11 R489 to R491, R497 to R499). -/
def State.delivAudio (a : Nat) (c : AacCfg) (at0 : Nat) (au : Bytes) (cons : ConsReads) (s : State) (d : Nat) : State :=
  let x := s.deliv d
  let dom := s.domain (s.aoutDomain a)
  let dur := aacSamples c.profile * 1000000000 / 48000
  if x.cfg.kind != 3 then
    (if !(s.flowLanded d && x.running) then s
     else
       let i := ((List.range 4).find? (fun i => [x.cfg.aac0, x.cfg.aac1, x.cfg.aac2, x.cfg.aac3].getD i 0xFFFF == a)).getD 0
       (s.modDeliv d (fun z => z.mux (u16 (s.flow z.cfg.flow).cfg.params 10 + i) false
         (pesPacket 0xC0 ((at0 + z.cfg.ptsDelayUs * 1000) * 9 / 100000 % 8589934592) true (adts c au)))).count cntDlvUnits d 1)
  else
    let s1 := if x.waiting then s.delivBegin d dom.frame.toNat else s
    let asc := c.profile * 256 + c.channels
    let s2 := if x.asc != asc && x.asc != 0 && !x.waiting then s1.delivEnd d else s1
    let rd := match cons.find? (fun e => e.1 == d) with | some e => e.2 | none => none
    let s3 :=
      if x.asc = asc && !x.waiting then s2
      else
        let f := s2.freeB
        let delay := if c.profile = 1 then 2048 else 3072
        (f.2.ringUnit d { bytes := f.1 ++ le 2 delay, pts := at0, frame := dom.frame.toNat, duration := 0, sap := 1, boundary := true
                          flags := recAudio + recStart } rd).modDeliv d (fun z => { z with asc := if z.discarding then 0 else asc, first := true })
    if s3.deliv d |>.running then
      s3.ringUnit d { bytes := au, pts := at0, frame := dom.frame.toNat, duration := dur, sap := 1, boundary := true, flags := 0 } rd
    else s3

/-- AAC_ACCESS_UNIT: a programme completes an access unit, whose time is that of its first input sample; a change that waits is
taken for the next one (05 R251, R252). -/
def State.aacUnit (s : State) (a : Nat) (au : Bytes) (cons : ConsReads) : State :=
  let x := s.aout a
  if a % 2 = 1 || x.aac.profile = 0 || !s.inService then s
  else
    let dur := aacSamples x.aac.profile * 1000000000 / 48000
    let ds := (s.delivs.filter (fun e => e.2.cfg.enable == 1 && e.2.cfg.aacs.contains a)).map (·.1)
    let s1 := ((s.advanceTo (x.aacAt + dur)).count cntAacUnits a 1).each ds (State.delivAudio a x.aac x.aacAt au cons)
    let next := if x.due then none else x.aacNext
    let s2 := s1.modAout a (fun y => { y with aacAt := x.aacAt + dur, aac := next.getD y.aac, aacNext := if next.isSome then none else y.aacNext })
    if next.any (fun c => c.profile == 0) then
      s2.each (ds.filter (fun d => (s2.deliv d).cfg.kind == 3 && (s2.deliv d).running)) (fun t d =>
        (t.delivEnd d).modDeliv d (fun z => { z with asc := 0, running := false, waiting := true }))
    else s2

/-! ### Query (11 R502) -/

/-- Block of QUERY on Delivery (11 R502). -/
def delivBlock (s : State) (d : Nat) : Bytes :=
  let x := s.deliv d
  layout 32 [(0, le 1 (if x.cfg.enable != 1 then 0 else if x.discarding then 3 else if x.running then 2 else 1)), (1, le 1 x.cfg.kind),
    (2, le 2 (if x.cfg.enable = 1 then x.cfg.rendition else 0xFFFF)), (4, le 2 x.cfg.flow), (8, le 8 (s.cnt cntDlvUnits d)),
    (16, le 8 (s.cnt cntDlvDiscard d)), (24, le 4 x.freeBytes), (28, le 4 x.freeRecs)]

/-- QUERY on Delivery, selector 0x01 (11 R502). -/
def specQueryDelivery : ReqSpec where
  verb := 0x01
  noun := 0x32
  sel := some 0x01
  len := (· == 1)
  index := (· < 1024)
  named := fun s c => [{ present := s.delivPresent c.r.index }]
  body := fun c s => (okWith (delivBlock s c.r.index), s)

end Sys2Proof.Machine
end

