-- ==== Sys2Proof/Machine/Backfill.lean ====
section
/-! DEFINITION. Back-fill jobs from SUBMIT to END, the trace requests, and what a core's finished item does
(12 R506, R515 to R526, R540). -/
namespace Sys2Proof.Machine

/-! ### SUBMIT (12 R515 to R517, R521, R522) -/

/-- Bytes 32-55 of a descriptor as the rate-control block of R476. -/
def jobRate (b : Bytes) : RateCfg := decRateCfg (slice b 32 24)

/-- The job that a descriptor describes. -/
def jobOf (b : Bytes) : JobSt := { JobSt.reset with desc := decJobDesc b, rate := jobRate b, raw := slice b 12 44 }

/-- Reserved bytes of a descriptor are zero, and the rate-control block bears its selector (12 R515). -/
def jobForm (b : Bytes) : Bool :=
  zeroFrom b 6 2 && zeroFrom b 30 2 && zeroFrom b 84 4 && zeroFrom b 120 8 &&
  u8 b 32 == 2 && zeroFrom b 53 3

/-- Bytes of one input picture (12 R516). -/
def JobDesc.pictureBytes (d : JobDesc) : Nat := d.inPitch * d.height + 2 * (d.inPitch / 2 * (if d.inSampling = 1 then d.height / 2 else d.height))

/-- Fields of a descriptor are in range (12 R515, R516). -/
def JobDesc.inRange (d : JobDesc) : Bool :=
  d.kind == 1 && within d.prio 4 15 && (d.reach ≤ 3 || d.reach == 0xFF) && d.pictures ≤ 1000000 && profileKnown d.codec d.profile &&
  (levelRow d.codec d.level).isSome && !(d.codec == 4 && d.encFlags.getLsbD 0) && (d.bitDepth == 8 || d.bitDepth == 10) &&
  within d.width 128 8192 && d.width % 2 == 0 && within d.height 72 4352 && d.height % 2 == 0 && d.chroma ≤ 1 && within d.refs 1 4 &&
  d.refreshMode ≤ 1 && within d.rate 1 13 && d.refreshPeriod ≤ 600 && colourFull d.colour && d.inSampling ≤ 1 && within d.scenePct 1 100 &&
  d.inBase % 64 == 0 && d.inPitch ≥ 2 * d.width && d.inPitch % 64 == 0 && d.dataBase % 4096 == 0 && within d.dataLog2 16 28 &&
  within d.recLog2 6 16 && within d.chunkPictures 1 60 && d.recBase % 4096 == 0 && d.wbAddr % 8 == 0 && d.consAddr % 8 == 0 &&
  d.pictureBytes ≤ d.inFrame

/-- Host jobs of a reach that have not ended (12 R517). -/
def State.jobsIn (s : State) (n : Nat) : Nat := (s.jobs.filter (fun e => e.2.used && e.2.reach == n)).length

/-- The last job of a host flow that has not ended. -/
def State.lastOfFlow (s : State) (f : Nat) : Option JobSt :=
  ((s.jobs.filter (fun e => e.2.used && e.2.desc.flow == f)).map (·.2)).foldl (fun (a : Option JobSt) j =>
    match a with | some b => if b.order < j.order then some j else some b | none => some j) none

/-- CONTINUE matches the last job of the host flow (12 R521). -/
def State.continueOk (s : State) (j : JobSt) : Bool :=
  j.desc.flow != 0 &&
  (match s.lastOfFlow j.desc.flow with
   | some l => !l.desc.endsStream && l.raw == j.raw && j.desc.firstPicture == l.desc.firstPicture + l.desc.pictures
   | none =>
     let f := s.hostFlow j.desc.flow
     f.used && !f.endStream && f.raw == j.raw && (f.failed || j.desc.firstPicture == f.nextPicture))

/-- The reach in which a job is placed (12 R517), none when none has room. -/
def State.placeJob (s : State) (d : JobDesc) : Option Nat :=
  let room := fun n => decide (s.jobsIn n < 1024)
  match (if d.flow = 0 then none else s.lastOfFlow d.flow) with
  | some l => if room l.reach then some l.reach else none
  | none =>
    if d.reach ≤ 3 then (if room d.reach then some d.reach else none)
    else (([0, 1, 2, 3].filter (fun n => reachFitted s.fused.part n && room n)).foldl (fun (a : Option Nat) n =>
      match a with | some m => if s.jobsIn n < s.jobsIn m then some n else some m | none => some n) none)

/-- The first failure of a descriptor (12 R515 to R517, R521; 10 R434 to R437, R446 to R448; 11 R475 to R477). -/
def State.jobFail (s : State) (h : Nat) (j : JobSt) : Option Answer :=
  let d := j.desc
  if !d.inRange then some (fail stRange 0x00A0)
  else match j.code.combination d.width d.height 4 with
    | some a => some a
    | none => match j.code.rateFail with
      | some a => some a
      | none =>
        if 2 ^ d.dataLog2 * 8 < 2 * j.rate.cpbSize then some (fail stRange 0x0096)
        else if d.continues && !s.continueOk j then some (fail stInvalid 0x00A3)
        else if (s.job h).used then some (fail stBusy 0x00A1)
        else if (s.placeJob d).isNone then some (fail stRefused 0x00A2)
        else none

/-- A job is accepted: it waits with its first picture, or ends at once when it has none (12 R515, R518, R522). -/
def State.jobAccept (s : State) (h owner : Nat) (j : JobSt) : State :=
  let n := (s.placeJob j.desc).getD 0
  let s1 := { s with jobSeq := s.jobSeq + 1 }.modJob h (fun _ => { j with used := true, owner := owner, order := s.jobSeq, reach := n })
  if j.desc.pictures = 0 then
    (if j.desc.continues && j.desc.endsStream then s1.modJob h (fun x => x.continued (s.hostFlow j.desc.flow)) else s1).jobEnd h 0 stOk
  else (s1.offerJob h).riderServe n 0

/-- SUBMIT on Job (12 R515). -/
def specSubmitJob : ReqSpec where
  verb := 0x10
  noun := 0x34
  len := (· == 128)
  form := jobForm
  bits := fun b => flagsIn (decJobDesc b).flags 0x07 && flagsIn (decJobDesc b).encFlags 0x1F
  bitsReason := 0x00A0
  index := (· < 4096)
  named := fun s c => [{ present := hasCores s.fused.part && (u8 c.block 3 > 3 || reachFitted s.fused.part (u8 c.block 3)) }]
  body := fun c s =>
    let j := jobOf c.block
    match s.jobFail c.r.index j with
    | some a => (a, s)
    | none => ({}, s.jobAccept c.r.index c.owner j)

/-- CANCEL on Job (12 R523, R539): at the end of the picture in service, or at once when none is. -/
def specCancelJob : ReqSpec where
  verb := 0x05
  noun := 0x34
  len := (· == 0)
  index := (· < 4096)
  body := fun c s =>
    let h := c.r.index
    let j := s.job h
    if !j.used then (fail stUnknown 0, s)
    else if c.owner != j.owner && c.owner != 0xFF then (fail stLocked j.owner, s)
    else if j.running then ({}, s.modJob h (fun x => { x with cancel := true }))
    else ({}, (s.free.2.jobEnd h 1 s.free.1).riderServe j.reach 0)

/-! ### Pictures of a job (12 R518 to R523) -/

/-- Stem settings of a job: its descriptor's fields, reset values for the rest (12 R519). -/
def JobDesc.stem (d : JobDesc) : StemCfg :=
  { StemCfg.reset with refs := d.refs, scenePct := d.scenePct, flags := (d.encFlags >>> 2) &&& 7#8 }

/-- What a job finds in an input picture, analysed as a stem would; the bits above a sample's ten are ignored (12 R516, R519). -/
def JobSt.analysed (j : JobSt) (o : ItemOutput) : Picture × Analysis :=
  let luma := (o.input.headD []).map (fun l => l.map (· % 1024))
  (luma, analyse j.desc.stem luma j.coder.lumas j.coder.last (fun _ => false))

/-- An input picture is a scene cut: SCENE_DETECT, and the blocks of R441 (10 R441; 12 R519). -/
def JobSt.cutFound (j : JobSt) (a : Analysis) : Bool :=
  j.desc.stem.flags.getLsbD 0 && decide (a.changed * 100 > j.desc.scenePct * max 1 a.blocks.length)

/-- Least partitions of a back-fill picture: one, and in AV1 no tile wider than 4,096 luma samples (10 R459; 12 R519). -/
def JobDesc.parts (d : JobDesc) : Nat := if d.codec = 3 then max 1 (cdiv d.width 4096) else 1

/-- What the picture that a job codes is: refresh position, and kind (10 R450 to R452; 12 R519); `cut` where it is a scene cut. -/
def JobSt.kind (j : JobSt) (cut : Bool) : RefreshPos × PicKind :=
  let d := j.desc
  let pos : RefreshPos := ⟨d.refreshMode, d.refreshPeriod, j.cyclePos, j.cycling⟩
  if j.done = 0 && !d.continues then firstPicture d.codec d.refreshMode d.refreshPeriod
  else if j.forceIntra then RefreshPos.closing ⟨d.refreshMode, d.refreshPeriod, 0, false⟩ true false
  else pos.next d.refreshMode d.refreshPeriod (cut && d.encFlags.getLsbD 1)

/-- The rules for the coding of a job's picture (12 R519). -/
def JobSt.rules (j : JobSt) (a : Picture × Analysis) : PicRules :=
  let d := j.desc
  let k := j.kind (j.cutFound a.2)
  { job := j.code, parts := d.parts, intra := k.2.intra, pos := k.1.pos, period := if k.1.mode = 1 && k.1.cycling then k.1.period else 0
    avail := if k.2.intra then 0 else j.coder.pics, budget := j.target
    search := { codec := d.codec, stem := d.stem, stemW := d.width, stemH := d.height, width := d.width, height := d.height
                result := a.2, rateDiv := 1, luma := a.1, done := [], last := j.coder.blocks } }

/-- What a core may hand back for a back-fill picture: no cut time applies (12 R519). -/
def JobSt.outputOk (j : JobSt) (o : ItemOutput) : Bool :=
  let q := j.rules (j.analysed o)
  let outs := o.parts.zipIdx.map (fun e => (e.2, e.1))
  o.parts.length == q.parts && outs.all (fun e => q.partOk e.1 e.2 && q.budgetOk o.header e.1 outs [])

/-- Record flags, sap_type and refresh position of the picture that a job has coded (10 R450 to R452; 11 R495; 12 R519). -/
def JobSt.picture (j : JobSt) (o : ItemOutput) : RefreshPos × Nat × Nat :=
  let d := j.desc
  let first := j.done = 0 && !d.continues
  let nx := j.kind (j.cutFound (j.analysed o).2)
  let sap := if nx.2.intra then 1 else if nx.2.cycleStart then 4 else 0
  (nx.1, (if sap != 0 || first then recParams else 0) + (if floorRowsOf o.parts != 0 then recFloor else 0) + (if first then recStart else 0), sap)

/-- Picture period of a job in ps, and the time of one of its pictures in ns, rounded to the nearest (12 R520). -/
def JobDesc.ptsNs (d : JobDesc) (i : Nat) : Nat := ((d.firstPicture + i) * rateDen d.rate * 1000000000 + rateNum d.rate / 2) / max 1 (rateNum d.rate)

/-- A coded unit goes to the job's ring, or waits for room; then the next picture is offered, or the job ends
(12 R520, R521, R523). -/
def State.jobOutput (s : State) (h : Nat) (u : Bytes) (flags sap : Nat) (cons : ConsWord) : State :=
  let j := s.job h
  match cons with
  | none => s.jobEnd h 2 stIntegrity
  | some w =>
    let g := j.hostRing.consumed w
    let body := unitForm (j.desc.codec == 3) (j.desc.flags.getLsbD 2) u
    if !g.fits body.length then
      let s1 := if j.waitOut.isNone then s.count cntBfOutWait h 1 else s
      s1.modJob h (fun x => { x.withRing g with waitOut := some u, waitFlags := flags, waitSap := sap, retryNs := s.nowNs + 1000000 })
    else
      let first := flags &&& recStart != 0
      let frag := sap != 0 || first
      let chunk := frag || j.chunkPos + 1 ≥ j.desc.chunkPictures
      let p := s.putUnit g body { pts := j.desc.ptsNs j.done, frame := j.desc.firstPicture + j.done, sap := sap, duration := periodPs j.desc.rate / 1000,
                                  flags := flags + (if chunk then recChunk else 0) + (if frag then recFragment else 0) }
      let s1 := p.1.modJob h (fun x => { x.withRing p.2 with waitOut := none, bytes := x.bytes + body.length, done := x.done + 1,
                                                              chunkPos := if chunk then 0 else x.chunkPos + 1 })
      if j.cancel then s1.free.2.jobEnd h 1 s1.free.1
      else if j.done + 1 ≥ j.desc.pictures then s1.jobEnd h 0 stOk
      else s1.offerJob h

/-- A core has coded a job's picture: buffer model, filler and output (11 R481; 12 R519 to R523). -/
def State.jobPicture (s : State) (it : Item) (key : Nat) (o : ItemOutput) (cons : ConsWord) : State :=
  let h := it.unit
  let j := s.job h
  if o.failed then s.jobEnd h 2 stIntegrity
  else
    let nx := j.picture o
    let fill := s.fillerOf (j.code.filler j.fullness (8 * o.unit.length))
    let u := o.unit ++ fill.1
    let a := j.analysed o
    let cut := j.cutFound a.2
    let coder : CoderSt :=
      { lumas := (a.1 :: if cut then [] else j.coder.lumas).take 4, last := a.2, blocks := blocksOf o.parts
        pics := if nx.2.2 = 1 then 1 else j.coder.pics + 1, spent := (8 * u.length :: j.coder.spent).take 1200 }
    let s1 := fill.2.modJob h (fun x => { x with
      running := false, preempted := false, coreNs := x.coreNs + (s.nowNs - (s.core key).since), floorRows := x.floorRows + floorRowsOf o.parts, coder := coder
      cyclePos := nx.1.pos, cycling := nx.1.cycling, forceIntra := false, fullness := j.code.nextFull j.fullness (8 * u.length) })
    s1.jobOutput h u nx.2.1 nx.2.2 cons

/-- BF_OUTPUT_RETRY: every 1 ms a job that waits for room reads the consumer word again (12 R520). -/
def State.outputRetry (s : State) (h : Nat) (cons : ConsWord) : State :=
  let j := s.job h
  match j.waitOut with
  | none => s
  | some u => ((s.advanceTo j.retryNs).jobOutput h u j.waitFlags j.waitSap cons).riderServe j.reach 0

/-- A finished item is one that the block makes: a partition is coded under the rules of its picture (10 R436, R437, R453; 11 R483, R484), and no
picture exceeds its budget or what the buffer model holds (11 R479). -/
def State.outputOk (s : State) (it : Item) (o : ItemOutput) : Bool :=
  match it.cls with
  | .rendPart => s.partOutputOk it o
  | .packaging => decide (8 * o.unit.length ≤ (s.rend it.unit).budget)
  | .backfill => o.failed || (decide (8 * o.unit.length ≤ min (s.job it.unit).target (s.job it.unit).fullness) && (s.job it.unit).outputOk o)
  | _ => true

/-- RIDER_ITEM_COMPLETE: a consumer finishes its item (12 R506, R512; 10 R457). -/
def State.itemComplete (s : State) (n kind idx : Nat) (o : ItemOutput) (cons : ConsWord) : State :=
  let key := coreKey n kind idx
  match (s.core key).busy with
  | none => s
  | some it =>
    if !s.consumerIn n kind idx || !s.outputOk it o then s
    else
      let s1 := s.when (s.core key).traced (fun t => t.traceAdd n 1 kind key it)
      let s2 := s1.modCore key (fun c => { c with busy := none, traced := false })
      let s3 :=
        match it.cls with
        | .stemBand => s2.bandDone it
        | .rendPart => s2.partDone it o
        | .packaging => s2.packDone it o
        | .rateUpdate => s2.rateDone it
        | .backfill => s2.jobPicture it key o cons
        | .decodePart | .control => s2
      s3.riderServe n kind

/-! ### Trace settings and reads (12 R525, R526) -/

/-- SET on Job, selector 0x20 (12 R525). -/
def specSetJobTrace : ReqSpec where
  verb := 0x02
  noun := 0x34
  sel := some 0x20
  len := (· == 4)
  form := fun b => flagsIn (BitVec.ofNat 8 (u8 b 1)) 0x01 && flagsIn (BitVec.ofNat 8 (u8 b 3)) 0x0F
  index := (· == 0xFFFFFFFF)
  body := fun c s =>
    if u8 c.block 2 > 10 then (fail stRange 0, s)
    else ({}, { s with riderDev := { traceOn := u8 c.block 1 = 1, sampleLog2 := u8 c.block 2, reaches := BitVec.ofNat 4 (u8 c.block 3) } })

/-- The 32 bytes of a trace entry (12 R526). -/
def traceBytes (e : TraceEntry) : Bytes :=
  layout 32 [(0, le 8 e.timeNs), (8, le 4 e.seq.toNat), (12, le 1 e.action), (13, le 1 e.consumer), (14, le 1 e.index), (15, le 1 e.item.level),
    (16, le 1 (classCode e.item.cls)), (18, le 2 (min 65535 ((e.timeNs - e.item.atNs) / 1000))), (20, le 4 e.item.unit), (24, le 8 e.item.picture)]

/-- Reply of READ on Job, selector 0x21, within a number of bytes (12 R526). -/
def traceReply (r : RiderSt) (fromSeq room : Nat) : Bytes :=
  let start := BitVec.ofNat 32 fromSeq
  let behind := (r.traceSeq - start).toNat
  let avail := if behind > 2147483648 then [] else r.trace.drop (r.trace.length - behind)
  let l := avail.take ((room - 16) / 32)
  let first := match l with | e :: _ => e.seq | [] => start
  layout 16 [(0, le 4 first.toNat), (4, le 4 l.length), (8, le 4 (first - start).toNat)] ++ l.flatMap traceBytes

/-- READ on Job, selector 0x21 (12 R526). -/
def specReadJobTrace : ReqSpec where
  verb := 0x13
  noun := 0x34
  sel := some 0x21
  len := (· == 8)
  form := fun b => zeroFrom b 2 2
  index := (· == 0xFFFFFFFF)
  body := fun c s =>
    let n := u8 c.block 1
    if n > 3 then (fail stRange 0x0007, s)
    else if !reachFitted s.fused.part n then (fail stAbsent 0, s)
    else (okWith (traceReply (s.rider n) (u32 c.block 4) (replyRoom c.r)), s)

/-! ### Queries (12 R540) -/

/-- State of a job (12 R540). -/
def JobSt.code5 (j : JobSt) : Nat := if j.waitOut.isSome then 4 else if j.held then 5 else if j.running then 2 else if j.preempted then 3 else 1

/-- Block of QUERY on Job with selector 0x01 (12 R540). -/
def jobBlock (j : JobSt) : Bytes :=
  layout 32 [(0, le 1 j.code5), (1, le 1 j.reach), (2, le 1 j.desc.prio), (4, le 4 j.done), (8, le 8 j.bytes), (16, le 4 j.preempts),
    (20, le 4 j.floorRows), (24, le 8 (j.coreNs / 1000))]

/-- QUERY on Job, selector 0x01 (12 R540). -/
def specQueryJob : ReqSpec where
  verb := 0x01
  noun := 0x34
  sel := some 0x01
  len := (· == 1)
  index := (· < 4096)
  body := fun c s =>
    if !(s.job c.r.index).used then (fail stUnknown 0, s) else (okWith (jobBlock (s.job c.r.index)), s)

/-- Entry of one reach in QUERY on Job, selector 0x02 (12 R540). -/
def reachJobs (s : State) (n : Nat) : Bytes :=
  if !reachFitted s.fused.part n then List.replicate 16 0
  else
    let hand := s.inHand n 0 ++ s.inHand n 1
    let all := (unitsWhere .clause (fun k => k / 16 == n && s.usable .clause k)).length + (unitsWhere .decode (fun k => k / 4 == n && s.usable .decode k)).length
    let awake := ((s.consumers n 0 ++ s.consumers n 1).filter (fun k => (s.core k).awake)).length
    layout 16 [(0, le 2 (s.jobsIn n)), (2, le 2 (s.rider n).clause.length), (4, le 2 (s.rider n).decode.length),
      (6, le 2 (hand.filter (·.live)).length), (8, le 2 (hand.filter (fun i => !i.live)).length), (10, le 2 (all - awake))]

/-- QUERY on Job, selector 0x02 (12 R540). -/
def specQueryJobReaches : ReqSpec where
  verb := 0x01
  noun := 0x34
  sel := some 0x02
  len := (· == 1)
  index := (· == 0xFFFFFFFF)
  body := fun _ s => (okWith ((List.range 4).flatMap (reachJobs s)), s)

end Sys2Proof.Machine
end

