-- ==== Sys2Proof/Machine/Levee.lean ====
section
/-! DEFINITION. Levee: the checks of the planes and the lease of the right (spec/08_turnout_levee.md R359 to R377). -/
namespace Sys2Proof.Machine

/-- Ports of a plane. -/
def planePorts (n : Nat) : List Nat := (List.range 32).map (32 * n + ·)

/-- Management port of a plane, 0xFF for none. -/
def PlaneCfg.mgmt (c : PlaneCfg) (n : Nat) : Nat := if n = 0 then c.mgmtRed else c.mgmtBlue

/-- Duty ports of a plane (08 R362). -/
def State.dutyPorts (s : State) (n : Nat) : List Nat :=
  (planePorts n).filter (fun p => s.levee.cfg.mgmt n == p || (s.port p).ptp.role % 2 == 1 ||
    s.flows.any (fun e => e.2.cfg.singleHomed && (e.2.cfg.leg n).port == p))

/-- Level of a plane from its failed checks; 0 before its first evaluation and outside the modes that run the lanes (08 R364, R731). -/
def State.level (s : State) (n : Nat) : Nat :=
  let x := s.plane n
  if !s.inService || x.fresh then 0 else if x.failed.getLsbD 0 || x.failed.getLsbD 1 then 0 else if x.failed = 0 then 2 else 1

/-- Instant from which the PTP check of a plane counts, none without a FOLLOWER port (08 R363). -/
def State.syncSince (s : State) (n : Nat) : Option Nat :=
  ((planePorts n).find? (fun p => (s.port p).ptp.role % 2 == 1)).map (fun p =>
    max (s.port p).syncNs (max (s.port p).roleNs (max (s.port p).upNs s.levee.entryNs)))

/-- Lanes of the duty ports of a plane. -/
def State.dutyLanes (s : State) (n : Nat) : List Nat := (s.dutyPorts n).flatMap s.portLanes

/-- The FEC counters of the duty ports' lanes now, before the readings of the last 100 ms (06 R299; 08 R363). -/
def State.fecWindow (s : State) (n : Nat) : List (Nat × Nat × Nat) :=
  let sum := fun (c : Nat) => ((s.dutyLanes n).map (s.cnt c)).foldl (· + ·) 0
  (s.nowNs, sum cntFecCodewords, sum cntFecUncorrectable) :: (s.plane n).fecHist.filter (fun h => s.nowNs ≤ h.1 + 100000000)

/-- Uncorrectable codewords over the window exceed fec_limit per 10^9 received (08 R363). -/
def fecOver (limit : Nat) (w : List (Nat × Nat × Nat)) : Bool :=
  match w.head?, w.getLast? with
  | some a, some b => (a.2.2 - b.2.2) * 1000000000 > limit * (a.2.1 - b.2.1)
  | _, _ => false

/-- The loopback frames of an evaluation: for each duty port, the frames lost in a row (08 R363). -/
def State.loopFrames (s : State) (n : Nat) (o : PlaneObs) : State :=
  s.each (s.dutyPorts n) (fun t p => t.modPort p (fun x => { x with loopLost := if o.lost.contains p then x.loopLost + 1 else 0 }))

/-- The conditions of the five checks at an evaluation whose loopback frames are counted, true where one fails (08 R363). -/
def State.checkConds (s : State) (n : Nat) : List Bool :=
  let x := s.plane n
  let ports := s.dutyPorts n
  let d := x.diag
  let fec := if s.nowNs / 1000000 % 10 = 0 || x.fresh then fecOver d.fecLimit (s.fecWindow n) else x.failed.getLsbD 3 && (x.clearNs.getD 3 none).isNone
  [ports.any (fun p => !s.linkOn p), ports.any (fun p => (s.port p).loopLost ≥ 2),
   d.checks.getLsbD 0 && (s.dutyLanes n).any (fun k => (s.lane k).marginRun ≥ 10),
   !ports.isEmpty && d.checks.getLsbD 1 && fec,
   d.checks.getLsbD 2 && (match s.syncSince n with | some t => decide (s.nowNs ≥ t + d.ptpTimeoutMs * 1000000) | none => false)]

/-- One check after an evaluation: failed, and since when its condition has been clear (08 R364, R731). A soft check that is
turned off passes at once. -/
def checkStep (ns : Nat) (fresh off cond was : Bool) (since : Option Nat) : Bool × Option Nat :=
  if cond then (true, none)
  else if !was || fresh || off then (false, none)
  else match since with
    | some t => if ns ≥ t + 1000000000 then (false, none) else (true, some t)
    | none => (true, some ns)

/-- The PTP reference of the old follower is bridged from the moment its follower stops (09 R389). -/
def State.startBridge (s : State) (n : Nat) : State :=
  if s.hg.selected = some 0 && (s.hg.state = .acquiring || s.hg.state = .locked) && s.hg.bridging.isNone then
    let id := ((planePorts n).filterMap (fun p => (s.port p).master.map (·.identity))).headD 0
    { s with hg := { s.hg with bridging := some s.nowNs, bridgeId := id } }
  else s

/-- The holder's right is given up: renewals and duties stop at once, and a handover interval begins (08 R366, R370). -/
def State.giveUp (s : State) (n : Nat) : State :=
  let s0 := s.startBridge n
  let s1 := { s0 with levee := { s.levee with gaveUp := true, stoppedNs := s.nowNs, holdFrom := some s.nowNs, grantNs := none } }
  let s2 := (s1.discardDuty n).event { code := 0x2511, noun := 0x25, index := n, data := le 1 n ++ le 1 (s.plane n).failed.toNat }
  let lost := (s.srcs.filter (fun e => !e.2.signal && e.2.ever && s.nowNs ≤ e.2.lostNs + 25000000)).map (·.1)
  s2.each lost State.holdLost

/-- The holder gives up when its level is 0 or below the other plane's (08 R366). -/
def State.judgeHolder (s : State) : State :=
  match s.levee.holder with
  | some h => if !s.levee.gaveUp && (s.level h = 0 || s.level h < s.level (1 - h)) then s.giveUp h else s
  | none => s

/-- The right is none and no plane is at a level that requests it (08 R367, R731). -/
def State.judgeNone (s : State) : State :=
  if s.levee.holder.isNone && !(s.plane 0).fresh && !(s.plane 1).fresh && s.level 0 = 0 && s.level 1 = 0 && !s.stands almRightNone 0 then
    (s.raise almRightNone 0).event { code := 0x2514, noun := 0x25, index := 0xFFFFFFFF }
  else s

/-- A plane supervisor runs: the modes that run the lanes, its control core not fenced (08 R361, R377, R731). -/
def State.supervised (s : State) (n : Nat) : Bool := s.inService && n < 2 && !s.isFenced .control n

/-- PLANE_CHECK_EVAL: a plane supervisor evaluates its checks and level (08 R363, R364, R366, R731). -/
def State.planeEval (s0 : State) (n : Nat) (o : PlaneObs) : State :=
  if !s0.supervised n then s0
  else
    let s := s0.loopFrames n o
    let x := s.plane n
    let conds := s.checkConds n
    let off := fun (i : Nat) => i ≥ 2 && !x.diag.checks.getLsbD (i - 2)
    let out := (List.range 5).map (fun i => checkStep s.nowNs x.fresh (off i) (conds.getD i false) (x.failed.getLsbD i) (x.clearNs.getD i none))
    let failed : BitVec 5 := BitVec.ofNat 5 (bitsOf (out.map (·.1)))
    let s1 := s.modPlane n (fun y => { y with failed := failed, clearNs := out.map (·.2), fresh := false, fecHist := s.fecWindow n })
    let now2 := s1.level n = 2
    let s2 := s1.modPlane n (fun y => { y with level2Ns := if now2 then some (y.level2Ns.getD s.nowNs) else none
                                               request := y.request && s1.level n != 0 })
    let s3 := if !now2 && s.levee.cfg.preferred = n then { s2 with levee := { s2.levee with handback := false } } else s2
    let s4 := s3.each ((List.range 5).filter (fun i => failed.getLsbD i != x.failed.getLsbD i)) (fun t i =>
      t.event { code := if failed.getLsbD i then 0x2512 else 0x2513, noun := 0x25, index := n, data := le 1 failed.toNat })
    let s5 := if failed = 0 then s4.clearAlarm almPlaneCheck n else s4.raise almPlaneCheck n
    s5.judgeHolder.judgeNone

/-- The new holder takes up its duties; its single-homed video legs start with their next frame (08 R368). This model lets it do so at the grant (log entry 20). -/
def State.takeUp (old s : State) (n : Nat) : State :=
  let p := s.levee.cfg.mgmt n
  let s1 := if s.linkOn p && s.levee.cfg.ipv4Prefix != 0 then s.emit (.portFrame p 2 s.levee.cfg.ipv4) else s
  let s2 := if s.linkOn p && s.levee.cfg.ipv6Prefix != 0 then s1.emit (.portFrame p 3 s.levee.cfg.ipv6) else s1
  let s3 := s2.each (planePorts n) (fun t q => State.reportChanges old t q)
  s3.each ((s3.flows.filter (fun e => e.1 ≥ 8192 && e.2.cfg.kind == 0x01 && e.2.cfg.singleHomed)).map (·.1)) (fun t f =>
    t.modFlow f (fun x => { x with waits := true }))

/-- The right comes to a plane: 0 expiry grant, 1 handback, 2 preference landed (08 R361, R367, R368, R370, R376). -/
def State.grant (s : State) (n kind : Nat) : State :=
  let gap := if kind = 0 && s.levee.stoppedNs != 0 then (s.nowNs - s.levee.stoppedNs) / 1000 else 0
  let hold := s.levee.cfg.handoverHoldMs * 1000000
  let s1 := { s with levee := { s.levee with
    holder := some n
    expiry := s.nowNs + 20000000
    renewed := s.nowNs
    gaveUp := false
    changedS := s.nowS
    handback := false
    holdFrom := none
    grantNs := some s.nowNs
    holds := s.levee.holds.map (fun (h : Nat × Nat) => if h.2 = 0 then (h.1, s.nowNs + hold) else h) } }
  let s2 := ((s1.modPlane n (fun x => { x with request := false })).clearAlarm almRightNone 0).count cntRightChanges 0 1
  let s3 := (s2.interrupt 22).event
    { code := 0x2510, noun := 0x25, index := n, data := le 1 n ++ le 1 kind ++ le 2 0 ++ le 4 gap }
  State.takeUp s s3 n

/-- The plane to which the arbiter grants a free lease (08 R367). -/
def State.claimant (s : State) : Option Nat :=
  let pref := if s.levee.cfg.preferred = 1 then 1 else 0
  match (s.plane 0).request, (s.plane 1).request with
  | true, true => some (if s.level 0 > s.level 1 then 0 else if s.level 1 > s.level 0 then 1 else pref)
  | true, false => some 0
  | false, true => some 1
  | false, false => none

/-- LEASE_RENEW: the holder renews every 5 ms (08 R361, R377). -/
def State.leaseRenew (s : State) (n : Nat) : State :=
  if s.levee.holder == some n && !s.levee.gaveUp && !s.isFenced .control n then
    let s1 := s.advanceTo (s.levee.renewed + 5000000)
    if s1.nowNs < s.levee.expiry then { s1 with levee := { s1.levee with renewed := s1.nowNs, expiry := s1.nowNs + 20000000 } } else s
  else s

/-- LEASE_EXPIRY: the holder becomes none, and the arbiter grants the lease to a requesting plane (08 R361, R367, R370). -/
def State.leaseExpiry (s : State) : State :=
  match s.levee.holder with
  | none => s
  | some h =>
    let s1 := s.advanceTo s.levee.expiry
    let s2 := if s.levee.gaveUp then s1
      else
        let s0 := s1.startBridge h
        let t := { s0 with levee := { s1.levee with stoppedNs := s.levee.expiry, holdFrom := some s.levee.renewed, grantNs := none, gaveUp := true } }
        (t.discardDuty h).each ((s.srcs.filter (fun e => !e.2.signal && e.2.ever && e.2.lostNs ≥ s.levee.renewed)).map (·.1)) State.holdLost
    let s3 := { s2 with levee := { s2.levee with holder := none } }
    match s3.claimant with
    | some n => s3.grant n 0
    | none => (s3.raise almRightNone 0).event { code := 0x2514, noun := 0x25, index := 0xFFFFFFFF }

/-- RIGHT_REQUEST: a plane at level 1 or 2 that does not hold the right keeps its request; a free right is granted at once
(08 R367, R731). -/
def State.rightRequest (s : State) (n : Nat) : State :=
  if s.supervised n && s.level n ≥ 1 && s.levee.holder != some n then
    let s1 := s.modPlane n (fun x => { x with request := true })
    if s.levee.holder.isNone then s1.grant n 0 else s1
  else s

/-- HANDBACK_HOLDOFF_EXPIRY: the preferred plane has stayed at level 2 for holdoff_s (08 R372). -/
def State.handbackDue (s : State) : State :=
  let n := s.levee.cfg.preferred
  match (s.plane n).level2Ns with
  | some t =>
    if s.levee.cfg.holdoffS != 0 && s.levee.holder != some n && s.level n = 2 then
      let s1 := s.advanceTo (t + s.levee.cfg.holdoffS * 1000000000)
      { s1 with levee := { s1.levee with handback := true } }
    else s
  | none => s

/-- The lease passes from its holder to a plane in one step (08 R361, R372, R373). -/
def State.transfer (s : State) (n kind : Nat) : State :=
  match s.levee.holder with
  | some h =>
    if h = n then s
    else
      let s1 := ((s.startBridge h).discardDuty h).grant n kind
      s1.each (planePorts h) (fun t q => State.reportChanges s t q)
  | none => s

/-- A pending handback takes place at a domain 0 boundary (08 R372). -/
def State.handback (s : State) : State :=
  if s.levee.handback && s.inService then s.transfer s.levee.cfg.preferred 1 else s

/-- The plane has been at level 2 for holdoff_s, or is at level 2 with no hold-off (08 R373). -/
def State.mayMove (s : State) (n : Nat) : Bool :=
  match (s.plane n).level2Ns with
  | some t => s.level n == 2 && s.nowNs ≥ t + s.levee.cfg.holdoffS * 1000000000
  | none => false

/-- The Levee settings land at a domain 0 boundary, and are saved (08 R360, R373; 16 R668). -/
def State.landPlane (s : State) (c : PlaneCfg) : State :=
  let moved := c.preferred != s.levee.cfg.preferred
  let s1 := { s with levee := { s.levee with cfg := c, handback := if moved || c.holdoffS = 0 then false else s.levee.handback } }
  let s2 := { s1 with saved := { s1.saved with plane := some c } }
  let s3 := s2.savePorts
  if moved && s3.mayMove c.preferred then s3.transfer c.preferred 2 else s3

/-- HANDOVER_HOLD_END: the hold of a source ends (08 R370). -/
def State.holdEnd (s : State) (k : Nat) : State :=
  match s.levee.holds.find? (fun h => h.1 == k) with
  | some h =>
    let due := if h.2 != 0 then h.2 else (s.levee.holdFrom.getD s.nowNs) + s.levee.cfg.handoverHoldMs * 1000000
    let s1 := s.advanceTo due
    let s2 := { s1 with levee := { s1.levee with holds := s1.levee.holds.filter (fun h => h.1 != k) } }
    s2.each (s2.fedBy k) (fun t d => t.modDst d (fun x => { x with lossFrames := 0 }))
  | none => s

/-- On leaving the modes that run Flume lanes no plane requests or holds the right (08 R731). -/
def State.leveeStop (s : State) : State :=
  let s1 := { s with levee := { s.levee with holder := none, gaveUp := false, holdFrom := none, holds := [], handback := false, expiry := 0 } }
  let s2 := s1.each [0, 1] (fun t n => (t.modPlane n (fun x => { x with request := false, level2Ns := none, failed := 0, fresh := true
                                                                        clearNs := PlaneSt.reset.clearNs, fecHist := [] })).clearAlarm almPlaneCheck n)
  s2.clearAlarm almRightNone 0

/-- On entry to a mode that runs Flume lanes the supervisors evaluate their checks afresh (08 R731). -/
def State.leveeStart (s : State) : State :=
  let s1 := { s with levee := { s.levee with entryNs := s.nowNs, stoppedNs := 0 } }
  (s1.modPlane 0 (fun x => { x with fresh := true })).modPlane 1 (fun x => { x with fresh := true })

/-! ### Checks and requests -/

/-- Steps 5 to 8 of R100 for the Levee settings; `k` is the noun index (08 R360). -/
def checkPlane (k : Nat) (c : PlaneCfg) : Option Answer :=
  if k != 0xFFFFFFFF then (if k ≤ 1 then some (fail stInvalid 0x0064) else some (fail stRange 0x0007))
  else if !(c.preferred ≤ 1 && c.holdoffS ≤ 3600 && within c.handoverHoldMs 100 10000 && (c.mgmtRed ≤ 63 || c.mgmtRed == 0xFF) &&
      (c.mgmtBlue ≤ 63 || c.mgmtBlue == 0xFF) && !(c.mac.getD 0 0).getLsbD 0 && c.vlan ≤ 4095 && c.ipv4Prefix ≤ 32 && c.ipv6Prefix ≤ 128) then
    some (fail stRange 0x0063)
  else if within c.mgmtRed 32 63 || c.mgmtBlue ≤ 31 then some (fail stInvalid 0x0065)
  else none

/-- SET on Plane, selector 0x02 (08 R365). -/
def specSetPlaneDiagnosis : ReqSpec where
  verb := 0x02
  noun := 0x25
  sel := some 0x02
  len := (· == 12)
  form := fun b => zeroFrom b 10 2
  bits := fun b => flagsIn (decDiagCfg b).checks 0x07
  bitsReason := 0x0063
  index := (· < 2)
  body := fun c s =>
    let d := decDiagCfg c.block
    if d.fomMargin ≤ 200 && within d.fecLimit 1 1000000000 && within d.ptpTimeoutMs 50 5000 then
      (okWith [], s.modPlane c.r.index (fun x => { x with diag := d }))
    else (fail stRange 0x0063, s)

/-- Block of QUERY on Plane (08 R374). -/
def planeBlock (s : State) (n : Nat) : Bytes :=
  let x := s.plane n
  let l := s.levee
  layout 24 [(0, le 1 (l.holder.getD 0xFF)), (1, le 1 (s.level n)), (2, le 1 x.failed.toNat),
    (3, le 1 (bitsOf [l.cfg.preferred == n, x.request, l.handback && l.cfg.preferred == n])),
    (4, le 4 (if l.holder = some n then (l.expiry - s.nowNs) / 1000000 else 0)),
    (8, le 4 (match x.level2Ns with | some t => min 4294967295 ((s.nowNs - t) / 1000000000) | none => 0)),
    (12, le 2 (s.dutyPorts n).length), (16, le 8 l.changedS)]

/-- QUERY on Plane, selector 0x01 (08 R374). -/
def specQueryPlane : ReqSpec where
  verb := 0x01
  noun := 0x25
  sel := some 0x01
  len := (· == 1)
  index := (· < 2)
  body := fun c s => (okWith (planeBlock s c.r.index), s)

end Sys2Proof.Machine
end

