-- ==== Sys2Proof/Machine/Headgate.lean ====
section
/-! DEFINITION. Headgate: references, the time loop, phase steps, captures and triggers (spec/09_headgate_time.md). -/
namespace Sys2Proof.Machine

/-! ### References (09 R379 to R386) -/

/-- The input of a reference runs in the present mode (09 R379). -/
def State.refOn (s : State) (k : Nat) : Bool := if within k 1 4 then s.mode.current.fast else s.inService

/-- A reference is enabled (09 R381). -/
def State.refEnabled (s : State) (k : Nat) : Bool := k < 8 && (s.ref k).cfg.priority != 0

/-- Modes in which qualification depends on the quality rank alone (09 R385). -/
def Mode.ranked : Mode → Bool
  | .boot | .recovery | .training | .test => true
  | _ => false

/-- Rank of a PTP clockClass (09 R385). -/
def classRank (c : Nat) : Nat :=
  if c = 6 || c = 13 then 1 else if c = 7 || c = 14 then 2 else if [52, 58, 187, 193].contains c then 3 else 5

/-- Rank of an ESMC quality level (09 R385). -/
def ssmRank (c : Nat) : Nat := if c = 2 then 1 else if c = 4 then 2 else if c = 8 then 3 else if c = 0xB then 4 else 5

/-- Quality code of a reference: clockClass, or the SSM code received within 5 s (09 R385, R411). -/
def State.refQuality (s : State) (k : Nat) : Nat :=
  if k = 0 then (s.ref 0).quality
  else if k = 6 || k = 7 then
    match s.lanePort (s.ref k).cfg.lane with
    | some p => if (s.port p).ssm != 0 && s.nowNs < (s.port p).ssmNs + 5000000000 then (s.port p).ssm else 0
    | none => 0
  else 0

/-- Quality rank of a reference, 0 when it carries none (09 R385, R411). -/
def State.refRank (s : State) (k : Nat) : Nat :=
  if k = 0 then classRank (s.refQuality 0) else if within k 1 4 then (s.ref k).cfg.assumedRank
  else if k = 6 || k = 7 then ssmRank (s.refQuality k) else 0

/-- The rank of a reference is no worse than min_rank (09 R385). -/
def State.rankOk (s : State) (k : Nat) : Bool := within (s.refRank k) 1 s.hg.cfg.minRank

/-- A time reference fixes the phase of device time (09 R379). -/
def State.isTimeRef (s : State) (k : Nat) : Bool :=
  k == 0 || ((k == 1 || k == 2) && (s.ref k).cfg.flags.getLsbD 1) || k == 3 || k == 4

/-- Since when a reference has been good under the rule of the present mode: its readings (09 R384) or its rank (09 R385). -/
def State.refTimer (s : State) (k : Nat) : Option Nat := if s.mode.current.ranked then (s.ref k).rankTimer else (s.ref k).timer

/-- Qualification time of a reference in ns (09 R384, R385). -/
def State.qualTime (s : State) (k : Nat) : Nat :=
  if s.mode.current.ranked || !(s.ref k).everDisq then 5000000000 else (s.ref k).cfg.qualS * 1000000000

/-! ### The loop (09 R390 to R400) -/

/-- Code of a state of Headgate (09 R390). -/
def HgState.code : HgState → Nat
  | .freeRun => 0 | .acquiring => 1 | .locked => 2 | .holdover => 3 | .expired => 4 | .manual => 5

/-- A sticky bit of HG_STICKY sets and raises interrupt source 9 (09 R414). -/
def State.hgSticky (s : State) (i : Nat) : State :=
  State.interrupt { s with hg := { s.hg with sticky := s.hg.sticky ||| BitVec.ofNat 9 (2 ^ i) } } 9

/-- Oscillator offset of the calibration set in 0.001 ppb (09 R383; 16 R685). -/
def State.oscOffset (s : State) : Int := if s.cal.valid then s32 (s.calBytes 0x1CA0 4) 0 else 0

/-- The increment that runs device time at a frequency against the calibrated oscillator, in 2^-32 ns a tick of 40 ns
(09 R399, R400). -/
def State.increment (s : State) (freq : Int) : Nat :=
  let num : Int := 171798691840 * (1000000000000 + freq)
  let den : Int := 1000000000000 + s.oscOffset
  ((2 * num + den) / (2 * den)).toNat

/-- The frequency of device time is set, and with it the increment (09 R400). -/
def State.setFreq (s : State) (freq : Int) : State :=
  let i := s.increment freq
  { s with hg := { s.hg with freq := freq, incrNs := i / 4294967296, incrFrac := BitVec.ofNat 32 i } }

/-- Headgate enters a state (09 R390, R422). -/
def State.hgEnter (s : State) (st : HgState) : State :=
  let old := s.hg.state
  let s1 := { s with hg := { s.hg with state := st } }
  let s2 := (if st = .freeRun then s1.raise almHgFreerun 0 else s1.clearAlarm almHgFreerun 0)
  let s3 := (if st = .holdover || st = .expired then s2.raise almHgHoldover 0 else s2.clearAlarm almHgHoldover 0)
  (s3.event { code := 0x2910, noun := 0x29, index := 0,
              data := le 1 old.code ++ le 1 st.code ++ le 1 (s.hg.selected.getD 0xFF) }).hgSticky st.code

/-- Bandwidth of a stage of Acquiring in mHz (09 R391). -/
def stageBw (n : Nat) : Nat := match n with | 0 => 100000 | 1 => 10000 | 2 => 1000 | _ => 100

/-- Acquiring begins on the selected reference at the frequency held (09 R388, R391, R394). -/
def State.acquire (s : State) : State :=
  let k := s.hg.selected.getD 0
  let s1 := { s with hg := { s.hg with stage := 0, stageNs := s.nowNs, belowNs := none, aboveNs := none, bw := stageBw 0, history := []
                                       phaseErr := 0, takePhase := s.isTimeRef k, loopNs := s.nowNs } }
  s1.hgEnter .acquiring

/-- Headgate selects a reference (09 R387, R388). -/
def State.switchRef (s : State) (k : Nat) : State :=
  let old := s.hg.selected.getD 0xFF
  let s1 := { s with hg := { s.hg with selected := some k, bridging := none } }
  let s2 := (s1.event { code := 0x2911, noun := 0x29, index := 0, data := le 1 old ++ le 1 k }).count cntRefSwitch 0 1
  (s2.hgSticky 6).acquire

/-- The qualified reference with the highest priority, the lower index of equal ones (09 R387). -/
def State.bestRef (s : State) : Option Nat :=
  ((List.range 8).filter (fun k => s.refEnabled k && (s.ref k).qualified)).foldl (fun b k =>
    match b with
    | some j => if (s.ref k).cfg.priority < (s.ref j).cfg.priority then some k else some j
    | none => some k) none

/-- Selection while the Timebase mode is automatic (09 R387). -/
def State.select (s : State) : State :=
  if s.hg.cfg.mode != 0 || s.hg.state = .manual || !s.mode.current.fast then s
  else match s.bestRef, s.hg.selected with
    | some k, none => s.switchRef k
    | some k, some j =>
      if s.hg.cfg.flags.getLsbD 0 && (s.ref k).cfg.priority < (s.ref j).cfg.priority then s.switchRef k else s
    | none, _ => s

/-- The holdover estimate from the history entries up to an instant: their mean, none when fewer than ten precede it
(09 R395). -/
def State.estimate (s : State) (endNs : Nat) : Option Int :=
  let l := (s.hg.history.filter (fun e => e.1 ≤ endNs)).take s.hg.cfg.holdAvg
  if (s.hg.history.filter (fun e => e.1 ≤ endNs)).length < 10 then none
  else some ((l.map (·.2)).foldl (· + ·) 0 / (l.length : Int))

/-- The selected reference is gone: Holdover at the history estimate, or Free-run (09 R390, R395). -/
def State.loseRef (s : State) (endNs : Nat) : State :=
  let s1 := { s with hg := { s.hg with selected := none, bridging := none, holdNs := s.nowNs, phaseErr := 0, slewLeft := 0, takePhase := false } }
  match s.estimate endNs with
  | some f => (s1.setFreq f).hgEnter .holdover
  | none => (s1.setFreq 0).hgEnter .freeRun

/-- A reference is disqualified: 0 activity, 1 reject limit, 2 rank, 3 setting changed (09 R384, R385, R395, R423). -/
def State.disqualify (s : State) (k cause : Nat) : State :=
  let s1 := s.modRef k (fun x => { x with qualified := false, everDisq := true, disqS := s.nowS, timer := none, rankTimer := none })
  let s2 := ((s1.count cntRefDisqualify k 1).event
    { code := 0x2811, noun := 0x28, index := k, data := le 1 cause ++ le 3 0 ++ leInt 4 (s.ref k).freq }).hgSticky 7
  let s3 := if s2.refEnabled k then s2.raise almRefFail k else s2
  if s3.hg.selected = some k && s3.hg.state != .manual then
    s3.loseRef (if cause = 0 then s.nowNs - 1000000000 else if cause = 1 then s.nowNs - 60000000000 else s.nowNs)
  else s3

/-- A reference qualifies (09 R384, R385, R423). -/
def State.qualify (s : State) (k : Nat) : State :=
  let s1 := (s.modRef k (fun x => { x with qualified := true })).clearAlarm almRefFail k
  (s1.event { code := 0x2810, noun := 0x28, index := k, data := le 1 (s.refRank k) ++ le 3 0 ++ leInt 4 (s.ref k).freq }).select

/-- A monitor's count against XO_25M, corrected by the oscillator offset of the calibration set, in ppb to the nearest (09 R383; log entry 165). -/
def State.corrected (s : State) (raw : Int) : Int := raw + (s.oscOffset + 500) / 1000

/-- In the modes of R385 an enabled reference whose rank becomes worse than min_rank is disqualified at once (09 R385). -/
def State.judgeRanks (s : State) : State :=
  if !s.mode.current.ranked then s
  else s.each ((List.range 8).filter (fun k => s.refEnabled k && !s.rankOk k)) (fun t k =>
    if (t.ref k).qualified then t.disqualify k 2 else t.modRef k (fun x => { x with rankTimer := none }))

/-- REF_MONITOR_READING: a monitor's count against XO_25M (09 R383 to R385, R390, R396). -/
def State.refReading (s : State) (k : Nat) (raw : Int) : State :=
  if !(s.refEnabled k && s.refOn k) then s
  else
    let ppb := s.corrected raw
    let c := (s.ref k).cfg
    let inner : Bool := ppb.natAbs ≤ c.acceptPpb
    let outer : Bool := ppb.natAbs > c.rejectPpb
    let s1 := s.modRef k (fun x => { x with active := true, freq := ppb, readings := x.readings + 1, between := !inner && !outer
                                            timer := if inner then some (x.timer.getD s.nowNs) else none
                                            rankTimer := if s.rankOk k then some (x.rankTimer.getD s.nowNs) else none })
    if (s.ref k).qualified && (if s.mode.current.ranked then !s.rankOk k else outer) then
      s1.disqualify k (if s.mode.current.ranked then 2 else 1)
    else s1.select

/-- REF_QUALIFY: a reference has been good for its qualification time (09 R384, R385, R387). -/
def State.refQualify (s : State) (k : Nat) : State :=
  let x := s.ref k
  match s.refTimer k with
  | some t =>
    if s.refEnabled k && s.refOn k && x.active && !x.qualified && (!s.mode.current.ranked || s.rankOk k) then
      (s.advanceTo (t + s.qualTime k)).qualify k
    else s
  | none => s

/-- REF_ACTIVITY_LOST (09 R383, R384). -/
def State.refLost (s : State) (k : Nat) : State :=
  if !(s.refEnabled k && (s.ref k).active) then s
  else
    let s1 := s.modRef k (fun x => { x with active := false, timer := none, rankTimer := none, readings := 0 })
    if (s.ref k).qualified then s1.disqualify k 0 else s1

/-- Every enabled reference is judged again under the rule of a new mode (09 R386). -/
def State.rejudgeRefs (s : State) (ranked : Bool) : State :=
  s.each (List.range 8) (fun t k =>
    let x := t.ref k
    if !t.refEnabled k then t
    else
      let long : Bool := match t.refTimer k with | some b => decide (t.nowNs ≥ b + t.qualTime k) | none => false
      let ok := x.active && t.refOn k &&
        (if ranked then t.rankOk k && (x.qualified || long) else x.readings != 0 && x.freq.natAbs ≤ x.cfg.acceptPpb && long)
      if ok then (if x.qualified then t else t.qualify k) else if x.qualified then t.disqualify k (if ranked then 2 else 1) else t)

/-! ### Steps (09 R402 to R406, R419) -/

/-- The first boundary of a domain at or after an instant, in ns (01 R25, R28). -/
def State.boundaryFrom (s : State) (d ns : Nat) : Nat :=
  let x := s.domain d
  if x.nextNs ≥ ns && x.nextNs != 0 then x.nextNs
  else if d = 0 then cdiv ns 10000000 * 10000000
  else boundaryNs x.rate x.raster (frameFrom x.rate x.raster ns)

/-- An instant moved by an offset. -/
def shiftNs (ns : Nat) (off : Int) : Nat := ((ns : Int) + off).toNat

/-- The first instant start + N x period at or after a time (09 R419). -/
def firstInstant (start period ns : Nat) : Option Nat :=
  if start ≥ ns then some start else if period = 0 then none else some (start + cdiv (ns - start) period * period)

/-- A host trigger after a step of device time: skipped instants are counted, and kind 2 follows its domain (09 R419). -/
def State.stepTrigger (s : State) (k : Nat) : State :=
  let x := s.trig k
  match x.next with
  | some t =>
    if x.cfg.kind = 1 then
      (if t < s.nowNs then
        match firstInstant t x.cfg.periodNs s.nowNs with
        | some u => (s.modTrig k (fun y => { y with next := some u })).count cntTrigSkipped k ((u - t) / max 1 x.cfg.periodNs)
        | none => (s.modTrig k (fun y => { y with next := none })).count cntTrigSkipped k 1
      else s)
    else s.modTrig k (fun y => { y with next := some (shiftNs (s.boundaryFrom x.cfg.domain s.nowNs) x.cfg.offsetNs) })
  | none => s

/-- Device time steps by an amount in ns: domain 0 follows at once, and each video domain is to absorb the step (09 R403 to
R405). -/
def State.stepTime (s : State) (amount : Int) (written : Bool) : State :=
  if amount = 0 then s
  else
    let t : Int := (s.time : Int) + amount * 4294967296
    let s1 := { s with time := (t % (281474976710656 * 1000000000 * 4294967296)).toNat }
    let s2 := s1.each [1, 2, 3, 4, 5, 6, 7, 8] (fun u d =>
      if (u.domain d).rate = 0 then u
      else u.modDomain d (fun x => { x with nextNs := shiftNs x.nextNs amount, stepDelta := x.stepDelta + amount, stepNs := u.nowNs }))
    let n := s2.nowNs / 10000000 + 1
    let s3 := s2.modDomain 0 (fun x => { x with nextFrame := n, nextNs := n * 10000000 })
    let s4 := (s3.count cntTimeStep 0 1).event
      { code := 0x2912, noun := 0x29, index := 0, data := leInt 8 amount ++ le 1 (if written then 1 else 0) }
    let s5 := s4.each (s4.ctxs.map (·.1)) (fun u c => u.modCtx c (fun x => { x with reseed := true, forgive := true }))
    let s6 := s5.each ((s5.delivs.filter (fun e => e.2.running || e.2.waiting)).map (·.1)) (fun u d => u.modDeliv d (fun x => { x with discont := true }))
    (s6.hgSticky 8).each (s6.trigs.map (·.1)) State.stepTrigger

/-- The offset of device time against a newly selected time reference, in 0.25 ns: a step, or a slew (09 R388, R392). -/
def State.takeOffset (s : State) (phase : Int) : State :=
  if !s.hg.takePhase then s
  else
    let ns : Int := phase.tdiv 4
    let s1 := { s with hg := { s.hg with takePhase := false } }
    if ns.natAbs > s.hg.cfg.stepLimit && s.hg.cfg.flags.getLsbD 1 then s1.stepTime (-ns) false
    else { s1 with hg := { s1.hg with slewLeft := -ns } }

/-! ### Events of the loop -/

/-- What is left of a slew after some ns at slew_ppb (09 R392). -/
def slewAfter (left : Int) (ns ppb : Nat) : Int :=
  let d : Int := ((ns * ppb / 1000000000 : Nat) : Int)
  if left ≥ 0 then max 0 (left - d) else min 0 (left + d)

/-- Phase thresholds of the stages in 0.25 ns (09 R391). -/
def stageThreshold (n : Nat) : Nat := match n with | 0 => 4000 | 1 => 800 | 2 => 200 | _ => 80

/-- Phase monitoring of Acquiring and Locked after a loop update; a return from Locked to Acquiring keeps the phase that the loop follows (09 R390,
R391; log entry 165). -/
def State.judgePhase (s : State) (phase : Int) : State :=
  let h := s.hg
  if h.state = .acquiring then
    if h.stage ≥ 1 && phase.natAbs > 4 * stageThreshold h.stage then
      { s with hg := { h with stage := h.stage - 1, stageNs := s.nowNs, belowNs := none, bw := stageBw (h.stage - 1) } }
    else { s with hg := { h with belowNs := if phase.natAbs < stageThreshold h.stage then some (h.belowNs.getD s.nowNs) else none } }
  else if h.state = .locked then
    match h.aboveNs with
    | some t =>
      if phase.natAbs ≤ 4000 then { s with hg := { h with aboveNs := none } }
      else if s.nowNs ≥ t + 1000000000 then
        let s1 := s.acquire
        { s1 with hg := { s1.hg with takePhase := h.takePhase } }
      else s
    | none => if phase.natAbs > 4000 then { s with hg := { h with aboveNs := some s.nowNs } } else s
  else s

/-- A steered frequency, never more than slew_ppb from that of the selected reference by its last reading (09 R392; log entry 165). -/
def State.steered (s : State) (k : Nat) (freq : Int) : Int :=
  let f := (s.ref k).freq * 1000
  let w : Int := (s.hg.cfg.slewPpb * 1000 : Nat)
  max (f - w) (min (f + w) freq)

/-- LOOP_UPDATE: the loop's phase error (0.25 ns) and frequency (0.001 ppb); a bridge holds the frequency (09 R389 to R392,
R400, R409). -/
def State.loopUpdate (s : State) (phase freq : Int) : State :=
  if !s.mode.current.fast then s
  else
    let c := s.hg.cfg
    let s0 := { s with hg := { s.hg with slewLeft := slewAfter s.hg.slewLeft (s.nowNs - s.hg.loopNs) c.slewPpb, loopNs := s.nowNs } }
    match s.hg.state, s.hg.selected with
    | .manual, _ => s0.setFreq c.manualOffset
    | .freeRun, _ => s0.setFreq 0
    | .holdover, _ | .expired, _ => s0
    | _, none => s0
    | _, some k =>
      if s.hg.bridging.isSome then s0
      else
        let s1 := (s0.modRef k (fun x => { x with phase := phase })).setFreq (s0.steered k freq)
        let s2 := { s1 with hg := { s1.hg with phaseErr := phase } }
        (if k = 0 then s2 else s2.takeOffset phase).judgePhase phase

/-- ACQUIRE_STAGE_PASS: the threshold of a stage has been met for its time (09 R391). -/
def State.stagePass (s : State) : State :=
  let h := s.hg
  match h.belowNs with
  | some t =>
    if h.state = .acquiring then
      let d := match h.stage with | 0 => 100000000 | 1 => 1000000000 | 2 => 10000000000 | _ => 30000000000
      let s1 := s.advanceTo (max t h.stageNs + d)
      if h.stage < 3 then { s1 with hg := { s1.hg with stage := h.stage + 1, stageNs := s1.nowNs, belowNs := none, bw := stageBw (h.stage + 1) } }
      else State.hgEnter { s1 with hg := { s1.hg with stageNs := s1.nowNs, belowNs := none, aboveNs := none, bw := stageBw 3 } } .locked
    else s
  | none => s

/-- LOCKED_BANDWIDTH_NARROW (09 R391). -/
def State.narrow (s : State) : State :=
  let h := s.hg
  if h.state = .locked && h.bw > h.cfg.trackBw then
    let s1 := s.advanceTo (h.stageNs + 10000000000000 / h.bw)
    { s1 with hg := { s1.hg with stage := 4, stageNs := s1.nowNs, bw := max h.cfg.trackBw (h.bw / 10) } }
  else s

/-- HOLDOVER_EXPIRY (09 R390). -/
def State.holdoverExpiry (s : State) : State :=
  if s.hg.state = .holdover then (s.advanceTo (s.hg.holdNs + s.hg.cfg.holdoverMax * 1000000000)).hgEnter .expired else s

/-- HISTORY_RECORD: the mean frequency of the last second of Locked (09 R394). -/
def State.historyRecord (s : State) (f : Int) : State :=
  if s.hg.state = .locked then
    let s1 := match s.hg.history with | e :: _ => s.advanceTo (e.1 + 1000000000) | [] => s
    { s1 with hg := { s1.hg with history := ((s1.nowNs, f) :: s1.hg.history).take 1024 } }
  else s

/-- PTP_OFFSET_MEASUREMENT: the follower's offset in 0.25 ns, with its master (09 R381, R385, R388, R389). -/
def State.ptpOffset (s : State) (offset : Int) (identity clockClass : Nat) : State :=
  if !(s.refEnabled 0 && s.refOn 0) then s
  else
    let phase := offset - 4 * (s.ref 0).cfg.offsetNs
    let s1 := s.modRef 0 (fun x => { x with active := true, phase := phase, quality := clockClass })
    let s2 := s1.modRef 0 (fun x => { x with rankTimer := if s1.rankOk 0 then some (x.rankTimer.getD s.nowNs) else none })
    if s2.mode.current.ranked && !s2.rankOk 0 && (s.ref 0).qualified then s2.disqualify 0 2
    else if s2.hg.selected = some 0 then
      let s3 := if s2.hg.bridging.isSome then
          let t := { s2 with hg := { s2.hg with bridging := none } }
          if identity = s2.hg.bridgeId then t else t.acquire
        else s2
      s3.takeOffset phase
    else s2

/-- PTP_BRIDGE_TIMEOUT: no measurement within 2 s of the old follower stopping (09 R389). -/
def State.bridgeTimeout (s : State) : State :=
  match s.hg.bridging with
  | some t =>
    let s1 := s.advanceTo (t + 2000000000)
    State.refLost { s1 with hg := { s1.hg with bridging := none } } 0
  | none => s

/-- In Dormant and Fallow the loop does not run; Acquiring and Locked become Holdover at the current frequency (09 R398). -/
def State.hgSleep (s : State) : State :=
  if s.hg.state = .acquiring || s.hg.state = .locked then
    State.hgEnter { s with hg := { s.hg with selected := none, bridging := none, holdNs := s.nowNs, phaseErr := 0, slewLeft := 0, takePhase := false } } .holdover
  else s

/-! ### Captures, triggers and 1PPS (09 R416 to R420) -/

/-- TCAP_EDGE: an edge of a capture pin (09 R416). -/
def State.capEdge (s : State) (n : Nat) (falling : Bool) : State :=
  let c := s.cap n
  if !(n < 4 && c.enable && c.falling == falling && s.mode.current.fast) then s
  else if (match c.lastNs with | some t => decide (s.nowNs < t + 1000 && t ≤ s.nowNs) | none => false) then s.count cntCapMissed n 1
  else
    let frac := s.time / 65536 % 65536
    let s1 := s.modCap n (fun x => { x with ns := BitVec.ofNat 32 (s.nowNs % 1000000000), sec := BitVec.ofNat 48 s.nowS, frac := BitVec.ofNat 16 frac
                                            valid := true, overrun := x.overrun || x.valid, count := x.count + 1, lastNs := some s.nowNs })
    let s2 := (if c.valid then s1.count cntCapOverrun n 1 else s1).interrupt 10
    if c.event then
      s2.event { code := 0x2A10, noun := 0x2A, index := n,
                 data := le 1 n ++ le 1 0 ++ le 2 frac ++ le 4 (s.nowNs % 1000000000) ++ le 6 s.nowS }
    else s2

/-- TOUT pin `i` is high: a trigger that drives it has fired within its width (09 R418, R419). -/
def State.tout (s : State) (i : Nat) : Bool := s.trigs.any (fun e => e.2.cfg.targets.getLsbD i && s.nowNs < e.2.highUntil)

/-- PPS_OUT is held low by its squelch (09 R420). -/
def State.ppsSquelched (s : State) : Bool := s.hg.cfg.flags.getLsbD 2 && (s.hg.state = .freeRun || s.hg.state = .expired)

/-- PPS_OUT is high (09 R420). -/
def State.ppsOut (s : State) : Bool := s.nowNs < s.pins.ppsUntil && !s.ppsSquelched

/-- TRIGGER_FIRE: a host trigger reaches its instant (09 R419). -/
def State.triggerFire (s : State) (k : Nat) : State :=
  let x := s.trig k
  match x.next with
  | some t =>
    if within k 16 63 && x.cfg.kind != 0 && x.cfg.count != 0 then
      let s1 := s.advanceTo t
      let left := if x.cfg.count = 0xFFFFFFFF then 0xFFFFFFFF else x.cfg.count - 1
      let nxt := if left = 0 then none
        else if x.cfg.kind = 1 then (if x.cfg.periodNs = 0 then none else some (t + x.cfg.periodNs))
        else some (shiftNs (s1.boundaryFrom x.cfg.domain (shiftNs t (-x.cfg.offsetNs) + 1)) x.cfg.offsetNs)
      let s2 := s1.modTrig k (fun y => { y with cfg := { y.cfg with count := left }, next := nxt, lastFire := t
                                                highUntil := if x.cfg.targets &&& 0x0F = 0 then y.highUntil else t + x.cfg.widthNs })
      let s3 := if x.cfg.targets.getLsbD 4 then s2.interrupt 11 else s2
      s3.event { code := 0x2A11, noun := 0x2A, index := k, data := le 2 k ++ le 2 0 ++ le 4 left }
    else s
  | none => s

/-- PPS_OUT_PULSE: a whole second of device time (09 R420). -/
def State.ppsPulse (s : State) : State :=
  let s1 := s.advanceTo (cdiv s.nowNs 1000000000 * 1000000000)
  if s.ppsSquelched then s1
  else { s1 with pins := { s1.pins with ppsUntil := s1.nowNs + s.hg.cfg.ppsWidth * 1000 } }

/-! ### Requests -/

/-- A reference block is in range (09 R381). -/
def State.refOk (s : State) (k : Nat) (c : RefCfg) : Bool :=
  c.priority ≤ 15 &&
  (if k = 5 then c.lane < 128 && s.present .rillIn c.lane else if k ≥ 6 then c.lane < 128 && s.present .flume c.lane else c.lane == 0) &&
  (if k = 1 || k = 2 then c.flags &&& 0x03 != 0 else c.flags &&& 0x03 == 0) && (within k 1 4 || !c.flags.getLsbD 2) &&
  (if k = 3 || k = 4 then within c.hsRate 1 13 else c.hsRate == 0) && within c.assumedRank 1 5 && within c.qualS 1 3600 &&
  withinI c.offsetNs (-1000000) 1000000 && within c.acceptPpb 10 100000 && c.acceptPpb < c.rejectPpb && c.rejectPpb ≤ 200000

/-- Settings group 0x0003 in NVM (16 R668). -/
def State.saveRefs (s : State) : State :=
  { s with saved := { s.saved with refs := s.refs.zipIdx.map (fun e => (e.2, e.1.cfg)), timebase := some s.hg.cfg } }

/-- SET on RefInput, selector 0x01 (09 R381, R382; 16 R668). -/
def specSetRefInput : ReqSpec where
  verb := 0x02
  noun := 0x28
  sel := some 0x01
  len := (· == 24)
  form := fun b => zeroFrom b 20 4
  bits := fun b => flagsIn (decRefCfg b).flags 0x07
  bitsReason := 0x0070
  index := (· < 8)
  body := fun c s =>
    let k := c.r.index
    let n := decRefCfg c.block
    let o := (s.ref k).cfg
    if !s.refOk k n then (fail stRange 0x0070, s)
    else
      let moved := n.lane != o.lane || n.flags != o.flags || n.hsRate != o.hsRate || n.offsetNs != o.offsetNs
      let off := n.priority = 0
      let s1 := (s.modRef k (fun x => { x with cfg := n })).saveRefs
      let s2 := (if (moved || off) && (s.ref k).qualified then s1.disqualify k 3 else s1).judgeRanks
      let s3 := if moved || off then s2.modRef k (fun x => { x with timer := none, rankTimer := none, readings := 0, active := x.active && !off }) else s2
      if off then (okWith [], s3.clearAlarm almRefFail k)
      else
        let s4 := if (s3.ref k).qualified then s3 else s3.raise almRefFail k
        (okWith [], if (moved || off) && (s.ref k).qualified then s4 else s4.select)

/-- Block of QUERY on RefInput (09 R411). -/
def refBlock (s : State) (k : Nat) : Bytes :=
  let x := s.ref k
  let st := if !s.refEnabled k then 0 else if !x.active then 1 else if s.hg.selected = some k then 4 else if x.qualified then 3 else 2
  let left := if st = 0 || x.qualified then 0 else match s.refTimer k with
    | some t => cdiv (t + s.qualTime k - s.nowNs) 1000000000
    | none => s.qualTime k / 1000000000
  let ph := if s.isTimeRef k || s.hg.selected = some k then max (-2147483648) (min 2147483647 x.phase) else 0
  layout 24 [(0, le 1 st), (1, le 1 (s.refRank k)), (2, le 2 left), (4, leInt 4 x.freq), (8, leInt 4 ph), (12, le 1 (s.refQuality k)),
    (13, le 1 (bitsOf [x.everDisq, x.between])), (16, le 8 x.disqS)]

/-- QUERY on RefInput, selector 0x01 (09 R411). -/
def specQueryRefInput : ReqSpec where
  verb := 0x01
  noun := 0x28
  sel := some 0x01
  len := (· == 1)
  index := (· < 8)
  body := fun c s => (okWith (refBlock s c.r.index), s)

/-- A Timebase block is in range (09 R409). -/
def timebaseOk (c : TimebaseCfg) : Bool :=
  c.mode ≤ 1 && within c.minRank 1 5 && within c.trackBw 1 100 && c.ppsWidth ≥ 1 && within c.slewPpb 100 10000 &&
  within c.stepLimit 1000 1000000000 && within c.holdoverMax 60 604800 && within c.holdAvg 10 900 &&
  withinI c.manualOffset (-50000000) 50000000

/-- SET on Timebase, selector 0x01 (09 R390, R409; 16 R668). -/
def specSetTimebase : ReqSpec where
  verb := 0x02
  noun := 0x29
  sel := some 0x01
  len := (· == 32)
  form := fun b => zeroFrom b 22 2 && zeroFrom b 28 4
  bits := fun b => flagsIn (decTimebaseCfg b).flags 0x07
  bitsReason := 0x0071
  body := fun c s =>
    let n := decTimebaseCfg c.block
    if !timebaseOk n then (fail stRange 0x0071, s)
    else
      let s1 := State.saveRefs { s with hg := { s.hg with cfg := n } }
      if n.mode = 1 && s.hg.state != .manual then
        (okWith [], State.hgEnter { s1 with hg := { s1.hg with selected := none, bridging := none, phaseErr := 0, slewLeft := 0, takePhase := false } } .manual)
      else if n.mode = 0 && s.hg.state = .manual then
        (okWith [], match s1.bestRef with | some k => s1.switchRef k | none => s1.loseRef s.nowNs)
      else (okWith [], s1.judgeRanks.select)

/-- PTP is selected in Acquiring or Locked (09 R403). -/
def State.ptpHeld (s : State) : Bool := s.hg.selected == some 0 && (s.hg.state == .acquiring || s.hg.state == .locked)

/-- A written step; the loop removes what error remains against another time reference (09 R403). -/
def State.writtenStep (s : State) (amount : Int) : State :=
  let s1 := s.stepTime amount true
  match s.hg.selected with
  | some k => if amount != 0 && s.isTimeRef k then { s1 with hg := { s1.hg with takePhase := true } } else s1
  | none => s1

/-- SET on Timebase, selector 0x02 (09 R402, R403). -/
def specSetTimebasePhase : ReqSpec where
  verb := 0x02
  noun := 0x29
  sel := some 0x02
  len := (· == 16)
  form := fun b => zeroFrom b 2 6
  bits := fun b => u8 b 1 ≤ 1
  bitsReason := 0x0071
  body := fun c s =>
    let slew := u8 c.block 1 = 1
    let a := s64 c.block 8
    if a = 0 then (okWith [], s)
    else if slew then
      (if withinI a (-10000000) 10000000 then (okWith [], { s with hg := { s.hg with slewLeft := s.hg.slewLeft + a } }) else (fail stRange 0x0071, s))
    else if s.ptpHeld then (fail stState 0x0072, s)
    else (okWith [], s.writtenStep a)

/-- SET on Timebase, selector 0x03 (09 R402, R403). -/
def specSetTimebaseAbsolute : ReqSpec where
  verb := 0x02
  noun := 0x29
  sel := some 0x03
  len := (· == 16)
  form := fun b => zeroFrom b 1 3 && zeroFrom b 14 2
  body := fun c s =>
    let v := u64 c.block 8 * 1000000000 + u32 c.block 4
    if u32 c.block 4 ≥ 1000000000 then (fail stRange 0x0071, s)
    else if s.ptpHeld then (fail stState 0x0072, s)
    else (okWith [], s.writtenStep ((v : Int) - (s.nowNs : Int)))

/-- Block of QUERY on Timebase (09 R410). -/
def timebaseBlock (s : State) : Bytes :=
  let h := s.hg
  let hold := if h.state = .holdover || h.state = .expired then (s.nowNs - h.holdNs) / 1000000000 else 0
  layout 32 [(0, le 1 h.state.code), (1, le 1 (h.selected.getD 0xFF)), (2, le 1 h.stage),
    (3, le 1 (bitsOf [h.slewLeft != 0, h.bridging.isSome, h.history.length ≥ 10])), (4, le 4 h.bw), (8, leInt 8 h.freq),
    (16, leInt 8 h.slewLeft), (24, le 4 hold), (28, le 4 h.history.length)]

/-- QUERY on Timebase, selector 0x01 (09 R410). -/
def specQueryTimebase : ReqSpec where
  verb := 0x01
  noun := 0x29
  sel := some 0x01
  len := (· == 1)
  body := fun _ s => (okWith (timebaseBlock s), s)

/-- First firing of a trigger set now (09 R419). -/
def State.trigFirst (s : State) (c : TrigCfg) : Option Nat :=
  let start := c.startS * 1000000000 + c.startNs
  if c.count = 0 then none
  else if c.kind = 1 then firstInstant start c.periodNs (s.nowNs + 1000000)
  else if c.kind = 2 && s.domainOn c.domain then some (shiftNs (s.boundaryFrom c.domain (max start s.nowNs)) c.offsetNs)
  else none

/-- The next firing of a host trigger on the boundaries of a domain whose schedule has changed (09 R419). -/
def State.followDomain (s : State) (d : Nat) : State :=
  s.each ((s.trigs.filter (fun e => e.2.cfg.kind == 2 && e.2.cfg.domain == d && e.2.cfg.count != 0)).map (·.1)) (fun t k =>
    t.modTrig k (fun x => { x with next := t.trigFirst x.cfg }))

/-- A trigger block is in range (09 R418). -/
def State.trigOk (s : State) (c : TrigCfg) : Bool :=
  let period := if c.domain = 0 then 10000000 else periodPs (s.domain c.domain).rate / 1000
  match c.kind with
  | 0 => true
  | 1 => c.domain == 0 && within c.widthNs 10 999999999 && c.startNs ≤ 999999999 && (c.periodNs == 0 || within c.periodNs 1000 4000000000) &&
         c.offsetNs == 0 && (c.periodNs == 0 || c.widthNs < c.periodNs) &&
         (c.periodNs != 0 || c.startS * 1000000000 + c.startNs ≥ s.nowNs + 1000000)
  | 2 => c.domain ≤ 8 && within c.widthNs 10 999999999 && c.startNs ≤ 999999999 && c.periodNs == 0 &&
         withinI c.offsetNs (-500000000) 500000000 && (period == 0 || c.widthNs < period)
  | _ => false

/-- SET on Trigger, selector 0x01 (09 R417 to R419). -/
def specSetTrigger : ReqSpec where
  verb := 0x02
  noun := 0x2A
  sel := some 0x01
  len := (· == 32)
  form := fun b => zeroFrom b 14 2
  bits := fun b => flagsIn (decTrigCfg b).targets 0x1F
  bitsReason := 0x0074
  index := (· < 64)
  body := fun c s =>
    let k := c.r.index
    let n := decTrigCfg c.block
    if k < 16 then (fail stInvalid 0x0075, s)
    else if !s.trigOk n then (fail stRange 0x0074, s)
    else if n.kind != 0 && s.trigs.any (fun e => e.1 != k && e.2.cfg.kind != 0 && e.2.cfg.targets &&& n.targets &&& 0x0F != 0) then
      (fail stBusy 0x0073, s)
    else (okWith [], s.modTrig k (fun x => { x with cfg := n, next := s.trigFirst n, highUntil := 0 }))

/-- Settings that QUERY reports of a trigger; those of triggers 0 to 15 restate R417 (09 R417, R418). -/
def State.trigCfg (s : State) (k : Nat) : TrigCfg :=
  if k ≥ 16 then (s.trig k).cfg
  else if k ≤ 8 then { TrigCfg.reset with kind := 2, domain := k, count := 0xFFFFFFFF }
  else if k ≤ 12 then { TrigCfg.reset with kind := 1, periodNs := if k = 10 then 1000000000 else 1000000, count := 0xFFFFFFFF }
  else TrigCfg.reset

/-- QUERY on Trigger, selector 0x01 (09 R417): the block of R418, with the firings left (log entry 21). -/
def specQueryTrigger : ReqSpec where
  verb := 0x01
  noun := 0x2A
  sel := some 0x01
  len := (· == 1)
  index := (· < 64)
  body := fun c s => (okWith (encTrigCfg 0x01 (s.trigCfg c.r.index)), s)

end Sys2Proof.Machine
end

