-- ==== Sys2Proof/Machine/Calset.lean ====
section
/-! DEFINITION. The calibration set: its load, export, import and recalibration (spec/16_update_calibration.md, R685 to R691). -/
namespace Sys2Proof.Machine

/-- Length of the set (16 R685). -/
def calLength : Nat := 24576

/-- The whole set as stored (16 R685). -/
def State.calSet (s : State) : Bytes := s.calBytes 0 calLength

/-- CRC-32C of a set over everything but its CRC field (16 R686). -/
def calCrc (b : Bytes) : Nat := crc32c (b.take 60 ++ b.drop 64)

/-- The CRC of a set holds (16 R686). -/
def calSound (b : Bytes) : Bool := u32 b 60 == calCrc b

/-- A list of bytes as a table: the entries that are not zero. -/
def tabOfBytes (b : Bytes) : Tab Byte := (b.zipIdx.filter (fun e => e.1 != 0)).map (fun e => (e.2, e.1))

/-- Bytes put over others at an offset. -/
def putAt (b : Bytes) (o : Nat) (x : Bytes) : Bytes := b.take o ++ x ++ b.drop (o + x.length)

/-- A set with its count of overwrites, time and CRC made good (16 R686, R689). -/
def calSealed (b : Bytes) (writes time : Nat) : Bytes :=
  let c := putAt (putAt b 12 (le 4 writes)) 24 (le 8 time)
  putAt c 60 (le 4 (calCrc c))

/-- The set is replaced: the new one is written into the other area, which then governs, and the old area is erased; a sound set ends
the alarm of one that was not, and its trims govern at once (16 R685, R687, R689; log entry 172). -/
def State.calWrite (s : State) (b : Bytes) : State :=
  let n := calSealed b (u32 (s.calBytes 12 4) 0 + 1) s.nowS
  State.clearAlarm { s with cal := { s.cal with set := tabOfBytes n, area := 1 - s.cal.area, valid := true } } almCalsetInvalid 0

/-- The set is read at a Training entry (16 R687). -/
def State.calLoad (s : State) : State :=
  let ok := calSound s.calSet
  let s1 := { s with cal := { s.cal with valid := ok } }
  if ok then s1.clearAlarm almCalsetInvalid 0
  else (s1.raise almCalsetInvalid 0).event { code := 0x4512, noun := 0x45 }

/-- Conversion of the set to another format by the image's converter: its content is the converter's, and free; the header's
format changes (16 R667, R682). -/
def State.calConvert (s : State) (format : Nat) : State :=
  let f := s.freeB
  let old := s.calSet
  let n := putAt (old.take 64 ++ padTo (calLength - 64) f.1) 4 (le 2 format)
  { f.2 with cal := { s.cal with set := tabOfBytes (calSealed n (u32 old 12) (u64 old 24)) } }

/-- Trim of a sensor in 0.125 C, zero while the set is not valid (16 R685, R687). -/
def State.sensorTrim (s : State) (k : Nat) : Int := if s.cal.valid then s16 (s.calBytes (0x1C40 + 4 * k) 2) 0 else 0

/-! ### Export and import -/

/-- READ on CalSet, selector 0x01 (16 R688). -/
def specReadCalset : ReqSpec where
  verb := 0x13
  noun := 0x45
  sel := some 0x01
  len := (· == 1)
  indirect := true
  body := fun _ s => (okWith s.calSet, s)

/-- Part 5 is being recalibrated (16 R691). -/
def State.calBusy (s : State) : Bool := match s.cal.recal with | some b => bitmapBit b 13 | none => false

/-- WRITE on CalSet, selector 0x01 (16 R689, R691). -/
def specWriteCalset : ReqSpec where
  verb := 0x14
  noun := 0x45
  sel := some 0x01
  len := (· == 8 + calLength)
  form := fun b => zeroFrom b 1 7
  indirect := true
  asleep := fun s _ => if s.mode.current = .standby || s.mode.current = .test then none else some 0x00EC
  body := fun c s =>
    let b := c.block.drop 8
    if !calSound b then (fail stIntegrity 0x00EA, s)
    else if !(u64 b 16 == s.fused.serial.toNat && u16 b 4 == s.image.active.calFormat) then (fail stInvalid 0x00EB, s)
    else if s.calBusy then (fail stBusy 0, s)
    else
      let s1 := s.calWrite b
      (okWith [], s1.event { code := 0x4511, noun := 0x45, data := s1.calBytes 12 4 })

/-! ### Recalibration (16 R690) -/

/-- A test tool runs, or one stopped less than 60 s ago (16 R690; 06 R285). -/
def State.toolsRecent (s : State) : Bool :=
  s.lanes.any (fun e => e.2.tooled || e.2.eye.isSome) || (s.cal.toolNs != 0 && s.nowNs < s.cal.toolNs + 60000000000)

/-- SET on CalSet, selector 0x02: the work ends after the reply (16 R690). -/
def specSetCalsetRecalibrate : ReqSpec where
  verb := 0x02
  noun := 0x45
  sel := some 0x02
  len := fun n => n == 8 || n == 264
  size := fun b => (b.length == 264) == bitmapBit b 12
  form := fun b => zeroFrom b 4 4
  bits := fun b => u8 b 1 < 64
  bitsReason := 0x00ED
  asleep := fun s _ => if s.mode.current = .test then none else some 0x00EC
  body := fun c s =>
    let b := c.block
    if bitmapBit b 10 && !withinI (s16 b 2) (-320) 1200 then (fail stRange 0x00ED, s)
    else if (bitmapBit b 10 && s.toolsRecent) || (bitmapBit b 11 && s.hg.state != .locked) then (fail stState 0x00EC, s)
    else if s.cal.recal.isSome then (fail stBusy 0, s)
    else (okWith [], { s with cal := { s.cal with recal := some b } })

/-- The entry of a Ready lane for its current mode or rate class, with its offset in the set (16 R685, R690). -/
def State.lanePreset (s : State) (k : Nat) : Option (Nat × Bytes) :=
  let l := s.lane k
  let t := l.trained.getD l.tx
  if k < 128 then
    (if l.state = .ready && within l.mode 1 5 then
      some (0x40 + 40 * k + 8 * (l.mode - 1),
        leInt 1 t.pre2 ++ leInt 1 t.pre1 ++ le 1 t.main ++ leInt 1 t.post1 ++ le 1 t.swing ++ le 1 l.ctle ++ [1, 0])
    else none)
  else if k < 256 then
    (if l.state = .ready then
      let b := s.calBytes (0x1440 + 8 * (k - 128)) 8
      some (0x1440 + 8 * (k - 128), putAt (putAt b (if l.mode = 1 then 0 else 1) (le 1 l.ctle)) 2 [1])
    else none)
  else if s.laneCode k = 4 then
    let b := s.calBytes (0x1840 + 8 * (k - 256)) 8
    some (0x1840 + 8 * (k - 256), putAt (putAt b (if s.outRate (k - 256) = 1 then 0 else 2) (le 1 l.rtx.deemph ++ le 1 l.rtx.swing)) 4 [1])
  else none

/-- Entries of the set put in place. -/
def putAll (b : Bytes) (l : List (Nat × Bytes)) : Bytes := l.foldl (fun a e => putAt a e.1 e.2) b

/-- New values of a part (16 R690). -/
def State.calPart (s : State) (b : Bytes) (m : CalParts) (p : Nat) : List (Nat × Bytes) :=
  match p with
  | 0 => (List.range 128).filterMap s.lanePreset
  | 1 => ((List.range 256).map (128 + ·)).filterMap s.lanePreset
  | 2 => ((List.range 24).filter (fun k => reachFitted s.fused.part (k / 6) && !(s.thermal.sensors.getD k SensorSt.reset).failed)).map
      (fun k => (0x1C40 + 4 * k, leInt 2 (s.sensorTrim k + s16 b 2 - (s.thermal.sensors.getD k SensorSt.reset).temp)))
  | 3 => [(0x1CA0, leInt 4 (s.oscOffset - s.hg.freq) ++ leInt 2 m.dieTemp ++ [0, 0] ++ le 8 s.nowS)]
  | 4 => (List.range 128).map (fun k => (0x1CB0 + 4 * k, leInt 2 (max (-50) (min 50 (s16 (s.calBytes (0x1CB0 + 4 * k) 2) 0 - s16 b (8 + 2 * k))))))
  | _ => [(0x2000, padTo 16384 m.dram)]

/-- RECALIBRATION_COMPLETE: the parts are written, their factory bits cleared (16 R690). -/
def State.recalDone (s : State) (m : CalParts) : State :=
  match s.cal.recal with
  | none => s
  | some b =>
    let parts := u8 b 1
    let new := putAll s.calSet ((List.range 6).filter (fun p => bitmapBit b (8 + p)) |>.flatMap (s.calPart b m))
    let fac := BitVec.ofNat 16 (u16 new 6) &&& ~~~(BitVec.ofNat 16 parts)
    let s1 := s.calWrite (putAt new 6 (le 2 fac.toNat))
    { s1 with cal := { s1.cal with recal := none } }.event { code := 0x4510, noun := 0x45, data := le 1 parts }

end Sys2Proof.Machine
end

