-- ==== Sys2Proof/Machine/Compositor.lean ====
section
/-! DEFINITION. The compositor: heads, scan-out, layers, the line buffer, the freeze detector, surfaces and read-back
(spec/13_compositor_scanout.md). -/
namespace Sys2Proof.Machine

/-! ### Heads and pairs (13 R545 to R548, R552, R571, R572) -/

/-- Head of a layer (13 R553). -/
def layerHead (l : Nat) : Nat := l / 80

/-- A layer is a graphic layer (13 R553). -/
def isGraphic (l : Nat) : Bool := l % 80 ≥ 64

/-- The heads form a pair (13 R571). -/
def State.paired (s : State) : Bool := (s.head 0).cfg.flags.getLsbD 0

/-- The head whose layers a head composes (13 R572). -/
def State.layoutHead (s : State) (h : Nat) : Nat := if s.paired then 0 else h

/-- Canvas of a head: its active picture, or 7,680 x 2,160 for a pair (13 R572). -/
def State.canvas (s : State) (h : Nat) : Nat × Nat :=
  if s.paired then (7680, 2160)
  else match rasterOf (s.head h).cfg.raster with | some r => (r.width, r.height) | none => (0, 0)

/-- A head composes frames: present, not fenced, enabled, its domain enabled, in a mode that runs the compositor
(13 R545, R552). -/
def State.headRuns (s : State) (h : Nat) : Bool :=
  s.usable .head h && (s.head h).cfg.enable == 1 && s.inService && s.compRuns && s.domainOn (s.head h).domain

/-- A head that can no longer compose stops: its source loses its signal (13 R552). -/
def State.judgeHead (s : State) (h : Nat) : State :=
  if (s.head h).running && !s.headRuns h then
    (s.modHead h (fun x => { x with running := false, signed := false, sameRun := 0 })).loseSource (1088 + h)
  else s

/-- Both heads are judged (13 R552; 01 R47). -/
def State.judgeHeads (s : State) : State := (s.judgeHead 0).judgeHead 1

/-! ### Scaling and the line buffer (13 R556, R563, R565, R572) -/

/-- Ceiling of the residual ratio of an axis; at least 1 (13 R563, R565). -/
def residualCeil (crop dest : Nat) : Nat := max 1 (cdiv crop (dest * boxFactor crop dest))

/-- What a layer's scaler uses: step of R565, vertical taps, horizontal and vertical box factors, samples needed. -/
structure ScalePlan where
  step : Nat
  taps : Nat
  kH : Nat
  kV : Nat
  need : Nat
deriving DecidableEq, Repr

/-- The line buffer of a layer, in samples (13 R565). -/
def lineBuffer : Nat := 24576

/-- Samples needed with `taps` taps, `rv` the ceiling of the vertical residual ratio, `cols` columns and box factor `kH`
(13 R565). -/
def lineNeed (taps rv cols kH : Nat) (full : Bool) : Nat :=
  let w := cdiv cols kH
  (taps + rv - 1) * (if full then cdiv (3 * w) 2 else w)

/-- The first step of the sequence that fits (13 R565). -/
def scaleSteps (rv cols kH kV : Nat) (full : Bool) : ScalePlan :=
  let fits := fun t => lineNeed t rv cols kH full ≤ lineBuffer
  if fits 6 then ⟨1, 6, kH, kV, lineNeed 6 rv cols kH full⟩
  else if fits 4 then ⟨2, 4, kH, kV, lineNeed 4 rv cols kH full⟩
  else if fits 2 then ⟨3, 2, kH, kV, lineNeed 2 rv cols kH full⟩
  else ⟨4, 2, 2 * kH, kV, lineNeed 2 rv cols (2 * kH) full⟩

/-- A layer draws a picture: neither its crop nor its destination is empty (13 R555). -/
def VideoLayer.drawsPicture (c : VideoLayer) : Bool := c.cropW != 0 && c.cropH != 0 && c.dstW != 0 && c.dstH != 0

/-- Source columns that the left and the right half of a pair store for a layer: what each needs, and four across the seam
for a layer that crosses it (13 R572). -/
def pairColumns (c : VideoLayer) : Nat × Nat :=
  if !c.drawsPicture then (0, 0)
  else if c.dstX + c.dstW ≤ 3840 then (c.cropW, 0)
  else if c.dstX ≥ 3840 then (0, c.cropW)
  else
    let left := (3840 - c.dstX) * c.cropW
    (min c.cropW (cdiv left c.dstW + 4), min c.cropW (c.cropW - left / c.dstW + 4))

/-- Source columns stored for a layer by the half that stores more (13 R572). -/
def State.layerColumns (s : State) (c : VideoLayer) : Nat :=
  if s.paired then max (pairColumns c).1 (pairColumns c).2 else if c.drawsPicture then c.cropW else 0

/-- The plan of a layer with the source format now live; a field's lines are scaled at half the crop height (13 R556, R565). -/
def State.layerPlan (s : State) (c : VideoLayer) : ScalePlan :=
  if !c.drawsPicture then ⟨1, 6, 1, 1, 0⟩
  else
    let f := (s.src c.src).fmt
    let field : Bool := match rasterOf f.raster with | some r => r.interlaced | none => false
    let rows := if field then 2 * c.dstH else c.dstH
    scaleSteps (residualCeil c.cropH rows) (s.layerColumns c) (boxFactor c.cropW c.dstW) (boxFactor c.cropH rows) (f.sampling ≥ 2)

/-- The crop lies within the source's active picture (13 R555). -/
def State.cropInside (s : State) (c : VideoLayer) : Bool :=
  c.cropW == 0 || c.cropH == 0 ||
  match rasterOf (s.src c.src).fmt.raster with
  | some r => c.cropX + c.cropW ≤ r.width && c.cropY + c.cropH ≤ r.height
  | none => false

/-- Enabled video layers of a head, in index order. -/
def State.videoLayers (s : State) (h : Nat) : List (Nat × VideoLayer) :=
  (s.layers.filter (fun e => layerHead e.1 == h && !isGraphic e.1 && e.2.video.enable == 1)).map (fun e => (e.1, e.2.video))

/-- Enabled graphic layers of a head, in index order. -/
def State.graphicLayers (s : State) (h : Nat) : List (Nat × GraphicLayer) :=
  (s.layers.filter (fun e => layerHead e.1 == h && isGraphic e.1 && e.2.graphic.enable == 1)).map (fun e => (e.1, e.2.graphic))

/-- Pixels that a head fetches for one frame (13 R568). -/
def State.fetchPixels (s : State) (h : Nat) : Nat :=
  ((s.videoLayers (s.layoutHead h)).map (fun e =>
    (if s.paired then (if h = 0 then (pairColumns e.2).1 else (pairColumns e.2).2) else if e.2.drawsPicture then e.2.cropW else 0) *
      e.2.cropH)).foldl (· + ·) 0

/-- The fetch load of a head is at most 32.0 Gpixel/s (13 R568). -/
def State.fetchOk (s : State) (h : Nat) : Bool :=
  let r := (s.domain (s.head h).domain).rate
  s.fetchPixels h * rateNum r ≤ 32000000000 * rateDen r

/-- A layer is degraded by the formats now live (13 R565, R567). -/
def State.layerDegraded (s : State) (l : Nat) : Bool :=
  let c := (s.layer l).video
  c.enable == 1 && !isGraphic l && !(s.paired && layerHead l == 1) && (s.layerPlan c).step > 1

/-! ### Checks of staged settings (13 R546 to R550, R554, R555, R559, R562, R567 to R571) -/

/-- Rate codes that a head raster runs at (13 R547). -/
def headRates : Nat → List Nat
  | 0x10 => [3, 4, 5, 8, 9, 10]
  | 0x21 | 0x30 => [1, 2, 3, 4, 5, 6, 7, 8, 9, 10]
  | _ => []

/-- The mode keeps the compositor asleep (13 R545; 01 R45). -/
def State.compAsleep (s : State) : Bool := s.inService && s.sleeps .compositor

/-- Presence and fencing of a head. -/
def State.headNamed (s : State) (h : Nat) : Named := s.namedUnit .head h

/-- Steps 4 to 8 of R100 for a head or layer named by a setting. -/
def State.checkHeadUnit (s : State) (h limit k : Nat) : Option Answer :=
  if s.compAsleep then some (fail stState 0x0006)
  else if k ≥ limit then some (fail stRange 0x0007)
  else match namedFail [s.headNamed h] 0 false with
  | some a => some a
  | none => if !s.domainOn (s.head h).domain then some (fail stState 0x0009) else none

/-- The part of a head block's checks that needs no other setting (13 R546). -/
def State.checkHead (s : State) (h : Nat) (c : HeadCfg) : Option Answer :=
  match s.checkHeadUnit h 2 h with
  | some a => some a
  | none =>
    match namedFail ((scanEntries c).map (fun d => ({ present := d ≥ 1152 || s.present .dst d, fenced := s.isFenced .dst d } : Named))) 0 false with
    | some a => some a
    | none =>
      if c.enable > 1 || (headRates c.raster).isEmpty || !colourFull c.colour || c.bgY > 1023 || c.bgCb > 1023 || c.bgCr > 1023 ||
        (h != 0 && c.flags.getLsbD 0) then some (fail stRange 0x00B0)
      else none

/-- Conditions of a pair, on the state that will be live (13 R571). -/
def State.pairOk (s : State) : Bool :=
  let a := s.head 0
  let b := s.head 1
  !s.paired || (a.cfg.enable == 1 && b.cfg.enable == 1 && a.cfg.raster == 0x30 && b.cfg.raster == 0x30 &&
    a.cfg.colour == b.cfg.colour && a.domain == b.domain)

/-- A destination may be held by a head (13 R550). -/
def State.scanOk (s : State) (h d : Nat) : Bool :=
  d < 1024 && portReach d == h && (s.dst d).domain == (s.head h).domain &&
  ((scanEntries (s.head 0).cfg ++ scanEntries (s.head 1).cfg).filter (· == d)).length ≤ 1

/-- The checks of a head block against the state that will be live at its boundary (13 R547, R550, R568, R571). -/
def State.finalHead (s : State) (h : Nat) : Option Answer :=
  let x := s.head h
  if !(headRates x.cfg.raster).contains (s.domain x.domain).rate then some (fail stRange 0x00B0)
  else if (scanEntries x.cfg).any s.dstMember then some (fail stInvalid 0x0012)
  else if !(scanEntries x.cfg).all (s.scanOk h) then some (fail stInvalid 0x00B6)
  else if !s.pairOk then some (fail stInvalid 0x00B7)
  else if !(s.fetchOk 0 && s.fetchOk 1) then some (fail stCapacity 0x00B4)
  else none

/-- The part of the checks of a head's domain assignment that needs no other setting (13 R549). -/
def State.checkHeadDomain (s : State) (h d : Nat) : Option Answer :=
  match s.checkHeadUnit h 2 h with
  | some a => some a
  | none =>
    if !within d 1 8 then some (fail stRange 0x00B0)
    else if (s.head h).cfg.raster != 0 && !(headRates (s.head h).cfg.raster).contains (s.domain d).rate then some (fail stRange 0x00B0)
    else none

/-- The checks of a head's domain assignment against the state that will be live at its boundary (13 R549, R568). -/
def State.finalHeadDomain (s : State) (h : Nat) : Option Answer :=
  if !(scanEntries (s.head h).cfg).isEmpty || (s.paired && (s.head 0).domain != (s.head 1).domain) then some (fail stBusy 0x00B5)
  else if !(s.fetchOk 0 && s.fetchOk 1) then some (fail stCapacity 0x00B4)
  else none

/-- Ratio of crop to destination on one axis, from 1/16 to 8 (13 R555). -/
def ratioOk (crop dest : Nat) : Bool := dest ≤ 16 * crop && crop ≤ 8 * dest

/-- The part of a video layer's checks that needs no other setting (13 R554, R555, R559, R571). -/
def State.checkVideoLayer (s : State) (l : Nat) (c : VideoLayer) : Option Answer :=
  match s.checkHeadUnit (layerHead l) 160 l with
  | some a => some a
  | none =>
    match (if c.enable = 1 && c.src < 1152 then namedFail [s.namedUnit .src c.src] 0 false else none) with
    | some a => some a
    | none =>
      if s.paired && layerHead l == 1 && c.enable == 1 then some (fail stState 0x00B7)
      else if isGraphic l then some (fail stInvalid 0x00B9)
      else if c.enable > 1 || c.borderPx > 15 then some (fail stRange 0x00B1)
      else if c.enable = 0 then none
      else if c.src ≥ 1152 || s.srcMember c.src then some (fail stInvalid 0x0012)
      else if isHeadSrc c.src then some (fail stInvalid 0x00B2)
      else if !([c.cropX, c.cropW, c.dstX, c.dstW].all (· % 2 == 0)) || (c.drawsPicture && !(ratioOk c.cropW c.dstW && ratioOk c.cropH c.dstH)) then
        some (fail stRange 0x00B1)
      else none

/-- The checks of a video layer against the state that will be live at its boundary (13 R555, R568). -/
def State.finalVideoLayer (s : State) (l : Nat) : Option Answer :=
  let c := (s.layer l).video
  let v := s.canvas (layerHead l)
  if c.enable != 1 then none
  else if !s.cropInside c || (c.dstW != 0 && c.dstH != 0 && !(c.dstX + c.dstW ≤ v.1 && c.dstY + c.dstH ≤ v.2)) then
    some (fail stRange 0x00B1)
  else if !(s.fetchOk 0 && s.fetchOk 1) then some (fail stCapacity 0x00B4)
  else none

/-- The part of a graphic layer's checks that needs no other setting (13 R559, R571). -/
def State.checkGraphicLayer (s : State) (l : Nat) (c : GraphicLayer) : Option Answer :=
  match s.checkHeadUnit (layerHead l) 160 l with
  | some a => some a
  | none =>
    if s.paired && layerHead l == 1 && c.enable == 1 then some (fail stState 0x00B7)
    else if !isGraphic l then some (fail stInvalid 0x00B9)
    else if c.enable > 1 || c.kind > 1 || c.front > 1 || c.dstX % 2 != 0 || c.w % 2 != 0 || c.w > 3840 || c.h > 2160 ||
      (if c.kind = 1 then !within c.meter 1 16 else c.meter != 0) then some (fail stRange 0x00B9)
    else none

/-- The checks of a graphic layer or its meter against the state that will be live at its boundary (13 R559, R562). -/
def State.finalGraphicLayer (s : State) (l : Nat) : Option Answer :=
  let c := (s.layer l).graphic
  let v := s.canvas (layerHead l)
  if (c.w != 0 && c.h != 0 && !(c.dstX + c.w ≤ v.1 && c.dstY + c.h ≤ v.2)) || (c.kind == 1 && (s.layer l).meterFirst + c.meter > 16384) then
    some (fail stRange 0x00B9)
  else none

/-- The checks of a custom matrix (13 R570). -/
def State.checkMatrix (s : State) (l : Nat) (c : MatrixCfg) : Option Answer :=
  match s.checkHeadUnit (layerHead l) 160 l with
  | some a => some a
  | none =>
    if isGraphic l then some (fail stInvalid 0x00B9)
    else if !(c.pre ++ c.post).all (fun v => withinI v (-4095) 4095) then some (fail stRange 0x00B9)
    else none

/-- The checks of a meter's first ain (13 R562). -/
def State.checkMeterFirst (s : State) (l a : Nat) : Option Answer :=
  match s.checkHeadUnit (layerHead l) 160 l with
  | some a => some a
  | none => if !isGraphic l then some (fail stInvalid 0x00B9) else if a ≥ 16384 then some (fail stRange 0x00B9) else none

/-! ### Landings (13 R550, R551, R560, R573, R575) -/

/-- A head block lands: its held destinations take or leave the head's format, and a head that is disabled stops
(13 R550 to R552). -/
def State.landHead (s : State) (h : Nat) (c : HeadCfg) : State :=
  let ds := scanEntries (s.head h).cfg ++ scanEntries c
  let s1 := s.modHead h (fun x => { x with cfg := c })
  let s2 := s1.each ds (fun t d => (t.retune d (s.outRate d)).modDst d (fun x => { x with signed := false, showLoss := false, lossFrames := 0, lastSeq := 0 }))
  (s2.setFmt (1088 + h) (headFmt c)).judgeHeads

/-- A head's domain assignment lands (13 R549). -/
def State.landHeadDomain (s : State) (h d : Nat) : State := (s.modHead h (fun x => { x with domain := d })).judgeHeads

/-- A video layer lands (13 R554); a layer of another source takes that source's newest frame next. -/
def State.landVideoLayer (s : State) (l : Nat) (c : VideoLayer) : State :=
  s.modLayer l (fun x => { x with video := c, srcFrame := if c.src = x.video.src && x.video.enable == 1 then x.srcFrame else 0
                                  state := if c.enable = 1 then x.state else 0
                                  step := if c.enable = 1 then x.step else 1 })

/-- A graphic layer lands (13 R559, R560). -/
def State.landGraphicLayer (s : State) (l : Nat) (c : GraphicLayer) : State :=
  s.modLayer l (fun x => { x with graphic := c, state := if c.enable = 1 then x.state else 0 })

/-- A boundary at which a setting of a head or of its layers lands is a flip (13 R573). -/
def State.flip (s : State) (h frame : Nat) : State :=
  ((s.modHead h (fun x => { x with flipFrame := frame, flipNs := s.nowNs })).count cntHeadFlips h 1).event
    { code := 0x3810, noun := 0x38, index := h, domain := (s.head h).domain, frame := frame, data := le 8 frame }

/-! ### HEAD_FRAME_START (13 R556, R562, R565, R566) -/

/-- A layer's line-buffer step at a frame start, with what a change of step does (13 R566). -/
def State.takeStep (s : State) (l : Nat) (p : ScalePlan) : State :=
  let old := (s.layer l).step
  let h := layerHead l
  let f := (s.domain (s.head h).domain).frame.toNat
  let s1 := s.modLayer l (fun x => { x with step := p.step, taps := p.taps, kH := p.kH, kV := p.kV, need := p.need })
  if p.step > old then
    ((s1.count cntLayerDegraded l 1).modHead h (fun x => { x with degraded := true })).event
      { code := 0x3910, noun := 0x39, index := l, domain := (s.head h).domain, frame := f,
        data := le 1 p.taps ++ le 1 (if p.step = 4 then 1 else 0) }
  else if p.step = 1 && old > 1 then
    s1.event { code := 0x3911, noun := 0x39, index := l, domain := (s.head h).domain, frame := f }
  else s1

/-- The source of a layer shows a picture marked CONCEALED (13 R558; 12 R538). -/
def State.srcConcealed (s : State) (k : Nat) : Bool :=
  s.ctxs.any (fun e => e.2.cfg.enable == 1 && e.2.cfg.output == k && e.2.showConcealed)

/-- A layer takes its source's newest complete frame, or shows the loss action (13 R556; 04 R183, R184, R191). -/
def State.layerFrame (s : State) (l : Nat) (c : VideoLayer) : State :=
  let src := s.src c.src
  let p := s.layerPlan c
  let s1 := s.takeStep l p
  let lost := !src.signal
  let k := src.newest - (s.layer l).srcFrame
  let head := (s.head (layerHead l)).cfg
  let st := BitVec.ofNat 8 (bitsOf [true, p.step > 1, p.step == 4, lost, !lost && s.srcConcealed c.src, !lost && !s.cropInside c,
    src.fmt.colour / 16 != head.colour / 16])
  let n := if lost then (s.layer l).lossFrames + 1 else 0
  let s2 := s1.modLayer l (fun x => { x with state := st, srcFrame := if lost then x.srcFrame else src.newest, patches := [], lossFrames := n
                                             pic := if lost then src.lossFrame (if src.fmt.raster = 0 then headFmt head else src.fmt) n else src.pic
                                             prev := src.prev })
  if lost || (s.layer l).srcFrame = 0 || c.cropW = 0 || c.cropH = 0 then s2
  else if k = 0 then s2.count cntLayerRepeat l 1
  else s2.count cntLayerDrop l (k - 1)

/-! ### Audio meters (13 R562) -/

/-- Lines of a bar of `h` lines that a sample peak fills: the greatest number whose level, linear in dB from -60 dBFS at the bottom to
0 dBFS (2^23) at the top, the peak reaches (13 R562). -/
def meterLines (h peak : Nat) : Nat :=
  if peak = 0 then 0 else ((List.range h).map (· + 1)).foldl (fun m n => if 2 ^ (23 * h) ≤ peak ^ h * 10 ^ (3 * (h - n)) then n else m) 0

/-- Colour of a line of a bar counted from 1 at the bottom: green up to -18 dBFS, yellow up to -6 dBFS, red above; which green, yellow
and red is free (13 R562; log entry 149). -/
def meterColour (h line : Nat) : BitVec 32 :=
  Config.meterColour (if 60 * line ≤ 42 * h then 0 else if 60 * line ≤ 54 * h then 1 else 2)

/-- Width of each of `count` bars side by side across `w` with a gap of 2 pixels between them (13 R562). -/
def meterWidth (w count : Nat) : Nat := (w - 2 * (count - 1)) / max 1 count

/-- Pixel of a meter, transparent where nothing is drawn: `bars` are the lines filled and the line marked of each bar (13 R562). -/
def meterPixel (w h : Nat) (bars : List (Nat × Nat)) (x y : Nat) : BitVec 32 :=
  let bw := meterWidth w bars.length
  let line := h - y
  match bars[x / (bw + 2)]? with
  | some b => if x % (bw + 2) < bw && (line ≤ b.1 || (line == b.2 && b.2 != 0)) then meterColour h line else 0
  | none => 0

/-- The pixels of a drawing of `w` by `h` that are not transparent black, by their place in a surface (13 R560, R562). -/
def drawnSurface (w h : Nat) (pix : Nat → Nat → BitVec 32) : Tab (BitVec 32) :=
  (List.range (w * h)).filterMap (fun i => let p := pix (i % w) (i / w); if p = 0 then none else some (i / w * 3840 + i % w, p))

/-- Peak of an ain in the last head frame, 0 without a signal (13 R562). -/
def State.meterPeak (s : State) (peaks : List (Nat × Nat)) (a : Nat) : Nat :=
  if (s.ain a).state = .noSignal then 0 else match peaks.find? (fun e => e.1 == a) with | some e => e.2 | none => 0

/-- Lines filled, and the highest line of the last 2 s with the end of its marker, of each bar (13 R562). -/
def State.meterBars (s : State) (l : Nat) (c : GraphicLayer) (peaks : List (Nat × Nat)) : List (Nat × Nat × Nat) :=
  (List.range c.meter).map (fun i =>
    let n := meterLines c.h (s.meterPeak peaks ((s.layer l).meterFirst + i))
    let m := (s.layer l).marks.getD i (0, 0)
    if n ≥ m.1 || m.2 ≤ s.nowNs then (n, n, s.nowNs + 2000000000) else (n, m.1, m.2))

/-- A meter is redrawn into the buffer that is not front, and the flip shows it (13 R562). -/
def State.meterFrame (s : State) (peaks : List (Nat × Nat)) (l : Nat) (c : GraphicLayer) : State :=
  let bars := s.meterBars l c peaks
  let t := drawnSurface c.w c.h (meterPixel c.w c.h (bars.map (fun b => (b.1, b.2.1))))
  s.modLayer l (fun x => { x with graphic := { x.graphic with front := 1 - c.front }
                                  surface0 := if c.front = 0 then x.surface0 else t
                                  surface1 := if c.front = 0 then t else x.surface1
                                  marks := bars.map (·.2)
                                  state := 1 })

/-- HEAD_FRAME_START: the layers take their frames, the line buffer its steps, and the meters flip; `peaks` are the sample peaks of the
audio inputs over the previous head frame (13 R556, R562, R566). The layers of a pair are those of head 0, and take their frames once. -/
def State.headFrameStart (s : State) (h : Nat) (peaks : List (Nat × Nat)) : State :=
  if h ≥ 2 || !s.headRuns h then s
  else
    let s1 := s.modHead h (fun x => { x with running := true })
    if s.paired && h = 1 then
      s1.each ((s1.layers.filter (fun e => layerHead e.1 == 1)).map (·.1)) (fun t l => t.modLayer l (fun x => { x with state := 0, step := 1 }))
    else
      let s2 := s1.each (s1.videoLayers h) (fun t e => t.layerFrame e.1 e.2)
      s2.each (s2.graphicLayers h) (fun t e =>
        if e.2.kind = 1 then t.meterFrame peaks e.1 e.2 else t.modLayer e.1 (fun x => { x with state := 1, patches := [] }))

/-! ### Composition (13 R554, R556 to R558, R560, R561, R563, R569, R570, R572) -/

/-- The matrix of a video layer: the custom one, or the automatic chain composed into one (13 R569, R570). -/
def State.layerMatrix (s : State) (h l : Nat) (f : Fmt) : Matrix3 :=
  let x := s.layer l
  if x.video.flags.getLsbD 1 then { m := x.matrix.m, pre := x.matrix.pre, post := x.matrix.post }
  else match colourSteps (isRgb f.sampling) f.colour false (s.head h).cfg.colour with
    | [] => Matrix3.identity
    | m :: t => t.foldl (fun a b => b.after a) m

/-- A 12-bit black pixel of YCbCr. -/
def black12 : Pixel := (256, 2048, 2048)

/-- The lines of the newer field of a frame; the second field holds the odd lines of the frame (13 R556; log entry 150). -/
def newerField (p : Planes) : Planes := { a := everyNth 2 1 p.a, b := everyNth 2 1 p.b, c := everyNth 2 1 p.c }

/-- A layer's picture in its destination rectangle, in 12-bit YCbCr of the head (13 R554, R556, R563, R569). -/
def State.layerPixels (s : State) (h l : Nat) : List (List Pixel) :=
  let x := s.layer l
  let c := x.video
  let f := frameFmt x.pic
  let field : Bool := match rasterOf f.raster with | some r => r.interlaced | none => false
  if !c.drawsPicture then []
  else if x.state.getLsbD 5 || f.raster = 0 then List.replicate c.dstH (List.replicate c.dstW black12)
  else
    let q := (planesOf f.sampling (s.shownPicture x.pic x.prev x.patches)).mapSamples (depthCode (is12bit f.sampling) true)
    let crop := if field then cropPlanes f.sampling c.cropX (c.cropY / 2) c.cropW (c.cropH / 2) (newerField q)
      else cropPlanes f.sampling c.cropX c.cropY c.cropW c.cropH q
    let full := upSample f.sampling (scalePlanes f.sampling x.taps x.kH x.kV c.dstW c.dstH crop)
    let m := s.layerMatrix h l f
    (List.range c.dstH).map (fun y => (linePixels full y).map (m.apply true))

/-- An 8-bit RGB colour in 12-bit YCbCr of the head: 256 + round(v x 3,504 / 255), and the RGB-to-YCbCr matrix (13 R561). -/
def graphicPixel (colour r g b : Nat) : Pixel :=
  let v := fun (n : Nat) => 256 + (2 * n * 3504 + 255) / 510
  (toYcbcrMatrix (colour % 16)).apply true (v r, v g, v b)

/-- Colour of a layer's border, none where it has none (13 R558). -/
def State.borderColour (s : State) (h l : Nat) : Option Pixel :=
  let x := s.layer l
  let c := x.video
  let k := (s.head h).cfg.colour
  if c.borderPx = 0 then none
  else if c.flags.getLsbD 3 && x.state.getLsbD 3 then some (graphicPixel k 255 0 0)
  else if c.flags.getLsbD 4 && x.state.getLsbD 4 then some (graphicPixel k 255 192 0)
  else if c.flags.getLsbD 2 then some (graphicPixel k (c.borderRgb.getD 0 0).toNat (c.borderRgb.getD 1 0).toNat (c.borderRgb.getD 2 0).toNat)
  else none

/-- `(a x layer + (255 - a) x below + 127) div 255` on every component (13 R557). -/
def blend (a : Nat) (top below : Pixel) : Pixel :=
  let o := fun (x y : Nat) => (a * x + (255 - a) * y + 127) / 255
  (o top.1 below.1, o top.2.1 below.2.1, o top.2.2 below.2.2)

/-- A rectangle drawn on a canvas, each of its pixels with its alpha (13 R557). -/
def drawRect (cv : List (List Pixel)) (x0 y0 w h : Nat) (pix : Nat → Nat → Nat × Pixel) : List (List Pixel) :=
  cv.zipIdx.map (fun row => if y0 ≤ row.2 && row.2 < y0 + h then
    row.1.zipIdx.map (fun p => if x0 ≤ p.2 && p.2 < x0 + w then
      let q := pix (p.2 - x0) (row.2 - y0)
      blend q.1 q.2 p.1
    else p.1)
  else row.1)

/-- A video layer drawn, and its border, opaque, just inside its rectangle; `bare` leaves the border out (13 R557, R558, R574). -/
def State.drawVideo (s : State) (h : Nat) (bare : Bool) (cv : List (List Pixel)) (e : Nat × VideoLayer) : List (List Pixel) :=
  let c := e.2
  let p := s.layerPixels h e.1
  let cv1 := if c.drawsPicture then drawRect cv c.dstX c.dstY c.dstW c.dstH (fun x y => (c.alpha, (p.getD y []).getD x black12)) else cv
  match (if bare then none else s.borderColour h e.1) with
  | some k => drawRect cv1 c.dstX c.dstY c.dstW c.dstH (fun x y =>
      (if x < c.borderPx || y < c.borderPx || x + c.borderPx ≥ c.dstW || y + c.borderPx ≥ c.dstH then 255 else 0, k))
  | none => cv1

/-- Pixel of the surface that a graphic layer shows, transparent where a block could not be read (13 R560; 14 R590). -/
def LayerSt.surfacePixel (x : LayerSt) (col row : Nat) : BitVec 32 :=
  if x.patches.any (fun p => p.line == row && p.first ≤ col && col < p.first + p.count) then 0
  else tget (fun _ => (0 : BitVec 32)) (if x.graphic.front = 0 then x.surface0 else x.surface1) (row * 3840 + col)

/-- A graphic layer drawn: alpha (A x alpha + 127) div 255 (13 R557, R560, R561). -/
def State.drawGraphic (s : State) (h : Nat) (cv : List (List Pixel)) (e : Nat × GraphicLayer) : List (List Pixel) :=
  let c := e.2
  drawRect cv c.dstX c.dstY c.w c.h (fun x y =>
    let v := ((s.layer e.1).surfacePixel x y).toNat
    ((v / 16777216 * c.alpha + 127) / 255, graphicPixel (s.head h).cfg.colour (v / 65536 % 256) (v / 256 % 256) (v % 256)))

/-- The canvas of a head composed: the background, the video layers in ascending z, then the graphic layers in ascending z; of equal z the
lower index lies behind. `bare` is the canvas before graphic layers and borders (13 R557, R572, R574). -/
def State.composeCanvas (s : State) (h : Nat) (bare : Bool) : List (List Pixel) :=
  let n := s.layoutHead h
  let v := s.canvas h
  let b := (s.head n).cfg
  let bg := List.replicate v.2 (List.replicate v.1 (4 * b.bgY, 4 * b.bgCb, 4 * b.bgCr))
  let cv := (orderBy (fun e => e.2.z) (s.videoLayers n)).foldl (s.drawVideo n bare) bg
  if bare then cv else (orderBy (fun e => e.2.z) (s.graphicLayers n)).foldl (s.drawGraphic n) cv

/-- The picture a head puts out: its columns of the canvas, filtered to 4:2:2 and rounded to 10 bits (13 R557, R572). -/
def State.composed (s : State) (h : Nat) (bare : Bool) : Picture :=
  let cv := (s.composeCanvas h bare).map (fun l => if s.paired then (l.drop (3840 * h)).take 3840 else l)
  ofPlanes 0 ((downSample 0 (pixelPlanes cv)).mapSamples (depthCode true false))

/-! ### HEAD_FRAME_COMPLETE (13 R548, R573, R574) -/

/-- The layout declares motion (13 R574). -/
def State.declaresMotion (s : State) (h : Nat) : Bool :=
  (s.videoLayers (s.layoutHead h)).any (fun e => e.2.flags.getLsbD 0 && (s.src e.2.src).signal && !(s.layer e.1).state.getLsbD 3)

/-- The freeze detector after a frame (13 R574). -/
def State.judgeHeadFreeze (s : State) (h : Nat) (same : Bool) (sig : BitVec 32) : State :=
  let x := s.head h
  let run := if same then x.sameRun + 1 else 0
  let off := if same then 0 else x.notSame + 1
  let s1 := s.modHead h (fun x => { x with sameRun := run, notSame := off, sig := sig, signed := true })
  let ev : Ev := { code := 0x3812, noun := 0x38, index := h, domain := x.domain, frame := (s.domain x.domain).frame.toNat }
  if s.stands almHeadFreeze h then
    (if off ≥ x.freeze.clearFrames + 1 then (s1.clearAlarm almHeadFreeze h).event ev else s1)
  else if same && x.freeze.freezeFrames != 0 && run ≥ x.freeze.freezeFrames then
    ((s1.raise almHeadFreeze h).count cntHeadFreezeOnsets h 1).event { ev with code := 0x3811, data := le 4 sig.toNat }
  else s1

/-- Signature of a composed picture, with the head's coarse_bits and no exclusion rectangle (13 R574; 04 R204). -/
def headSignature (z : FreezeCfg) (f : Fmt) (p : Picture) : BitVec 32 :=
  ~~~(probeMember { ProbeCfg.reset with coarse := z.coarse, exX := 0, exY := 0, exW := 0, exH := 0 } f 0 p).crc

/-- HEAD_FRAME_COMPLETE: the composed frame is counted and signed, and becomes the newest of the head's source (13 R548, R557, R573,
R574). -/
def State.headFrameComplete (s : State) (h : Nat) : State :=
  if h ≥ 2 || !(s.head h).running then s
  else
    let x := s.head h
    let f := headFmt x.cfg
    let sig := headSignature x.freeze f (s.composed h (x.freeze.flags.getLsbD 0))
    let same := s.declaresMotion h && x.signed && sig == x.sig
    ((s.judgeHeadFreeze h same sig).count cntHeadFrames h 1).produce (1088 + h) f (.taken f (s.composed h false))

/-! ### Read-back (13 R578) -/

/-- Destination of a scan-out entry, 0xFFFF for none. -/
def scanEntry (c : HeadCfg) (slot : Nat) : Nat := if slot = 0 then c.scan0 else if slot = 1 then c.scan1 else if slot = 2 then c.scan2 else c.scan3

/-- A write of offset 0x8010: the fields are stored, and arm begins a capture, which ends at once when the slot holds no Rill
output. -/
def State.readbackArm (s : State) (v : BitVec 32) : State :=
  let n := v.toNat
  let head := n / 2 % 2
  let slot := n / 4 % 4
  let bad := !isRill (scanEntry (s.head head).cfg slot)
  let on := n % 2 = 1
  { s with readback := { s.readback with head := head, slot := slot, line := n / 16 % 8192, arm := on && !bad,
                                         done := s.readback.done && !on, invalid := s.readback.invalid || (on && bad) } }

/-- The head transmits the line of an armed capture: 256 words are taken. -/
def State.readbackCapture (s : State) (words : List Nat) : State :=
  let b := s.readback
  if b.arm && s.headRuns b.head && isRill (scanEntry (s.head b.head).cfg b.slot) then
    { s with readback := { b with arm := false, done := true, frame := BitVec.ofNat 32 (s.domain (s.head b.head).domain).frame.toNat
                                  words := (words.map (BitVec.ofNat 10) ++ List.replicate 256 0).take 256 } }
  else s

/-! ### Requests that are not staged (13 R560, R574, R576, R577) -/

/-- A mode that keeps the compositor asleep refuses its settings (13 R545). -/
def compAsleepReason (s : State) : Option Nat := if s.compAsleep then some 0x0006 else none

/-- SET on Head, selector 0x10: the freeze detector (13 R574). -/
def specSetHeadFreeze : ReqSpec where
  verb := 0x02
  noun := 0x38
  sel := some 0x10
  len := (· == 8)
  form := fun b => zeroFrom b 6 2
  bits := fun b => flagsIn (BitVec.ofNat 8 (u8 b 1)) 0x01
  bitsReason := 0x00B9
  index := (· < 2)
  asleep := fun s _ => compAsleepReason s
  named := fun s c => [s.headNamed c.r.index]
  body := fun c s =>
    let z := decFreezeCfg c.block
    if z.coarse > 6 then (fail stRange 0x00B9, s) else (okWith [], s.modHead c.r.index (fun x => { x with freeze := z }))

/-- SET on Head, selector 0x11: sticky bits cleared (13 R574). -/
def specSetHeadStickyClear : ReqSpec where
  verb := 0x02
  noun := 0x38
  sel := some 0x11
  len := (· == 4)
  form := fun b => flagsIn (BitVec.ofNat 8 (u8 b 1)) 0x01 && zeroFrom b 2 2
  index := (· < 2)
  asleep := fun s _ => compAsleepReason s
  named := fun s c => [s.headNamed c.r.index]
  body := fun c s => (okWith [], if u8 c.block 1 % 2 = 1 then s.modHead c.r.index (fun x => { x with degraded := false }) else s)

/-- Fetch load of a head in Mpixel/s, rounded down (13 R576). -/
def State.fetchMpps (s : State) (h : Nat) : Nat :=
  let r := (s.domain (s.head h).domain).rate
  s.fetchPixels h * rateNum r / (rateDen r * 1000000)

/-- Block of QUERY on Head (13 R576). -/
def headBlock (s : State) (h : Nat) : Bytes :=
  let x := s.head h
  let drawn := s.headRuns h && (s.layoutHead h == h)
  layout 48 [(0, le 1 (if x.cfg.enable != 1 then 0 else if s.inService && s.compRuns then 1 else 2)), (1, le 1 x.cfg.raster),
    (2, le 1 x.cfg.colour), (3, le 1 x.domain), (4, le 1 (bitsOf [s.paired, s.stands almHeadFreeze h])),
    (5, le 1 (if x.degraded then 1 else 0)), (6, le 1 (if drawn then (s.videoLayers h).length else 0)),
    (7, le 1 (if drawn then (s.graphicLayers h).length else 0)), (8, le 8 (s.cnt cntHeadFrames h)), (16, le 8 x.flipFrame),
    (24, le 6 (x.flipNs / 1000000000)), (32, le 4 (x.flipNs % 1000000000)), (36, le 4 x.sig.toNat), (40, le 4 (s.fetchMpps h))]

/-- QUERY on Head, selector 0x01 (13 R576). -/
def specQueryHead : ReqSpec where
  verb := 0x01
  noun := 0x38
  sel := some 0x01
  len := (· == 1)
  index := (· < 2)
  named := fun s c => [s.headNamed c.r.index]
  body := fun c s => (okWith (headBlock s c.r.index), s)

/-- Block of QUERY on Layer (13 R577). -/
def layerBlock (s : State) (l : Nat) : Bytes :=
  let x := s.layer l
  let running := s.headRuns (layerHead l) && (s.layoutHead (layerHead l) == layerHead l)
  layout 16 [(0, le 1 (if running then x.state.toNat else 0)), (1, le 1 x.taps), (2, le 1 x.kH), (3, le 1 x.kV), (4, le 2 x.need),
    (8, le 8 x.srcFrame)]

/-- QUERY on Layer, selector 0x01 (13 R577). -/
def specQueryLayer : ReqSpec where
  verb := 0x01
  noun := 0x39
  sel := some 0x01
  len := (· == 1)
  index := (· < 160)
  named := fun s c => [s.headNamed (layerHead c.r.index)]
  body := fun c s => (okWith (layerBlock s c.r.index), s)

/-- A buffer of a graphic layer is shown, or will be by a committed setting (13 R560). -/
def State.bufferShown (s : State) (l b : Nat) : Bool :=
  (s.layer l).graphic.front == b ||
  s.parts.any (fun p => p.items.any (fun x => match x with | .graphicLayer m c => m == l && c.front == b | _ => false))

/-- Pixels of a rectangle, row by row, from a block whose rows are `pitch` bytes apart (13 R560). -/
def writeRect (t : Tab (BitVec 32)) (b : Bytes) (x y w h pitch : Nat) : Tab (BitVec 32) :=
  (List.range (w * h)).foldl (fun t i =>
    tset (fun _ => (0 : BitVec 32)) t ((y + i / w) * 3840 + x + i % w) (BitVec.ofNat 32 (u32 b (16 + i / w * pitch + 4 * (i % w))))) t

/-- WRITE on Layer, selector 0x21: pixels of a surface buffer (13 R560). -/
def specWriteLayerSurface : ReqSpec where
  verb := 0x14
  noun := 0x39
  sel := some 0x21
  len := (· ≥ 16)
  form := fun b => zeroFrom b 2 2
  indirect := true
  index := (· < 160)
  asleep := fun s _ => compAsleepReason s
  named := fun s c => [s.headNamed (layerHead c.r.index)]
  body := fun c s =>
    let l := c.r.index
    let b := c.block
    let buf := u8 b 1
    let x := u16 b 4
    let y := u16 b 6
    let w := u16 b 8
    let h := u16 b 10
    let pitch := u32 b 12
    if !isGraphic l || (s.layer l).graphic.kind = 1 then (fail stInvalid 0x00B9, s)
    else if buf > 1 || x + w > 3840 || y + h > 2160 || pitch < 4 * w || b.length < 16 + h * pitch then (fail stRange 0x00B9, s)
    else if s.bufferShown l buf then (fail stBusy 0x00B8, s)
    else (okWith [], s.modLayer l (fun z =>
      { z with surface0 := if buf = 0 then writeRect z.surface0 b x y w h pitch else z.surface0
               surface1 := if buf = 1 then writeRect z.surface1 b x y w h pitch else z.surface1 }))

end Sys2Proof.Machine
end

