-- ==== Sys2Proof/Machine/DecodeCtx.lean ====
section
/-! DEFINITION. Decode contexts: settings, the PCR model, presentation, concealment and queries (12 R527 to R541; 02 R123). -/
namespace Sys2Proof.Machine

/-! ### Settings (12 R527 to R530) -/

/-- A context is present: its reach is fitted and the variant has decode cores (12 R527). -/
def State.ctxPresent (s : State) (c : Nat) : Bool := c < 256 && hasCores s.fused.part && reachFitted s.fused.part (c / 64)

/-- Sources that a context holds: the lead and its members (12 R529). -/
def DecCfg.outputs (c : DecCfg) : List Nat := if c.enable = 1 && c.output != 0xFFFF then (List.range c.gang).map (c.output + ·) else []

/-- One decode core in the units of decode loads. -/
def decodeCore : Nat := 1001 * 1000000000

/-- Load of a context (12 R530). -/
def decodeLoad (c : DecCfg) : Nat :=
  match rasterOf c.raster with
  | some r => if c.enable = 1 then r.width * r.height * rateNum c.rate * (1001 / rateDen c.rate) * 2 else 0
  | none => 0

/-- Decode cores of a reach that are present and not fenced (12 R530). -/
def State.decodeCores (s : State) (n : Nat) : Nat := (unitsWhere .decode (fun k => k / 4 == n && s.usable .decode k)).length

/-- Fields of an enabled context are in range (12 R528). -/
def ctxRange (c : DecCfg) : Bool :=
  [1, 2, 4].contains c.codec && [1, 2, 4].contains c.gang && (within c.output 1024 1087 || c.output == 0xFFFF) &&
  (c.videoPid == 0 || within c.videoPid 0x10 0x1FFE) && (rasterOf c.raster).isSome && within c.rate 1 13 &&
  (c.colour == 0 || colourFull c.colour) && c.presentDelay ≤ 1000 &&
  (match gangOf c.raster 0 (rateNum c.rate) (rateDen c.rate) with | some g => decide (g ≤ c.gang) | none => false)

/-- The part of a context block's checks that needs no other setting (12 R527 to R529; 01 R45). -/
def State.checkCtx (s : State) (x : Nat) (c : DecCfg) : Option Answer :=
  if s.inService && s.sleeps .decodeCore then some (fail stState 0x0006)
  else if x ≥ 256 then some (fail stRange 0x0007)
  else match namedFail ({ present := s.ctxPresent x } :: c.outputs.map (fun k => ({ present := k ≥ 1152 || s.present .src k } : Named))) 0 false with
  | some a => some a
  | none =>
    if c.enable > 1 || (c.enable = 1 && !ctxRange c) then some (fail stRange 0x00A4)
    else if c.enable = 1 && c.output != 0xFFFF && (portReach c.output != x / 64 || c.output % c.gang != 0 || c.output + c.gang > 1088) then
      some (fail stInvalid 0x00A6)
    else none

/-- The checks of a context against the state that will be live at its boundary (12 R529, R530). -/
def State.finalCtx (s : State) (x : Nat) : Option Answer :=
  let c := (s.ctx x).cfg
  if c.enable != 1 then none
  else if s.ctxs.any (fun e => e.1 != x && c.outputs.any (e.2.cfg.outputs.contains ·)) then some (fail stBusy 0x00A7)
  else if ((s.ctxs.filter (fun e => e.1 / 64 == x / 64)).map (fun e => decodeLoad e.2.cfg)).foldl (· + ·) 0 > s.decodeCores (x / 64) * decodeCore then
    some (fail stCapacity 0x00A5)
  else none

/-- A context drops its decoding state and presents nothing until R534 is met (02 R123; 12 R534). -/
def CtxSt.dropped (x : CtxSt) (ns : Nat) : CtxSt :=
  { x with ready := false, pcrOffset := none, pcrLocked := false, dpb := [], recent := [], substitute := [], sinceNs := ns, skipRasl := false, reseed := false, forgive := false }

/-- Format that a context gives its output before a picture tells its colour (03 R142; 12 R532). -/
def ctxFmt (c : DecCfg) : Fmt := { raster := c.raster, sampling := 0, colour := if c.colour != 0 then c.colour else 0x11, gang := c.gang }

/-- A context block lands; its output takes the context's format (03 R142; 12 R528, R534, R539). -/
def State.landCtx (s : State) (x : Nat) (c : DecCfg) : State :=
  let old := (s.ctx x).cfg
  let moved := old.enable = 1 && old.output != 0xFFFF && (c.enable != 1 || c.output != old.output)
  let fresh := c.enable != 1 || old.enable != 1 || old.codec != c.codec || old.program != c.program || old.videoPid != c.videoPid
  let s1 := s.modCtx x (fun y => { (if fresh then y.dropped s.nowNs else y) with cfg := c })
  let s2 := s1.when moved (fun t => t.loseSource old.output)
  if c.enable = 1 && c.output != 0xFFFF then s2.setFmt c.output (ctxFmt c) else s2

/-- RESET on DecodeCtx (02 R123). -/
def State.resetCtx (s : State) (x : Nat) : State := s.modCtx x (fun y => y.dropped s.nowNs)

/-! ### The PCR model (12 R533, R539, R541) -/

/-- A value that tracks from `old` toward `new`: where between them is left open (12 R533). -/
def trackToward (old new : Int) (pick : Nat) : Int :=
  if old ≤ new then old + ((pick % ((new - old).toNat + 1) : Nat) : Int) else old - ((pick % ((old - new).toNat + 1) : Nat) : Int)

/-- A PCR of the sender, with the device time of its arrival: the first one seeds the model, later ones move it within 500 ppm of
the time that has passed (12 R533, R539). -/
def State.takePcr (s : State) (x : Nat) (pcr : Option (Nat × Nat)) : State :=
  match pcr with
  | none => s
  | some p =>
    let y := s.ctx x
    let seen : Int := (p.2 : Int) - (p.1 : Int)
    match (if y.reseed then none else y.pcrOffset) with
    | none => s.modCtx x (fun z => { z with pcrOffset := some seen, pcrLocked := false, reseed := false })
    | some o =>
      let a := s.free
      let b := a.2.free
      let c := b.2.free
      let most : Int := ((s.nowNs - y.sinceNs) / 2000 : Nat)
      let target := max (o - most) (min (o + most) seen)
      c.2.modCtx x (fun z => { z with pcrOffset := some (trackToward o target a.1), pcrPpb := (b.1 % 1000001 : Nat) - 500000, pcrLocked := c.1 % 2 == 1 })

/-- Instant at which a picture is presented, once a PCR has been seen (12 R533). -/
def CtxSt.dueNs (x : CtxSt) (p : DecodedPicture) : Option Nat := x.pcrOffset.map (fun o => ((p.pts : Int) + o + (x.cfg.presentDelay * 1000000 : Nat)).toNat)

/-! ### Decoding and concealment (12 R531 to R537) -/

/-- A picture is marked CONCEALED (12 R535, R536). -/
def picConcealed (p : DecodedPicture) : Bool := p.missingRef.isSome || !p.sliceErrors.isEmpty || p.fromConcealed

/-- Mid grey of the size of a picture's planes: the 10-bit code 512 on every component (12 R535). -/
def greyPlanes (p : DecodedPicture) : List Picture := p.planes.map (fun q => q.map (fun l => l.map (fun _ => if p.depth = 8 then 128 else 512)))

/-- The decoded picture that most nearly precedes a PTS in output order, or mid grey (12 R535). -/
def CtxSt.substituteAt (x : CtxSt) (p : DecodedPicture) (pts : Nat) : List Picture :=
  match x.recent.foldl (fun (a : Option (Nat × List Picture)) e =>
    if e.1 < pts then (match a with | some b => if b.1 < e.1 then some e else some b | none => some e) else a) none with
  | some e => e.2
  | none => greyPlanes p

/-- A rectangle of a plane copied from the same place of another. -/
def copyRect (other : Picture) (r : Nat × Nat × Nat × Nat) (q : Picture) : Picture :=
  q.zipIdx.map (fun l => if l.2 < r.2.1 || r.2.1 + r.2.2.2 ≤ l.2 then l.1 else l.1.zipIdx.map (fun v =>
    if v.2 < r.1 || r.1 + r.2.2.1 ≤ v.2 then v.1 else (other.getD l.2 []).getD v.2 v.1))

/-- The blocks of damaged slices copied from the co-located ones of the substitute (12 R536). -/
def CtxSt.repaired (x : CtxSt) (p : DecodedPicture) : DecodedPicture :=
  let sub := x.substituteAt p p.pts
  { p with planes := p.planes.zipIdx.map (fun e =>
      p.sliceErrors.flatten.foldl (fun q r =>
        copyRect (sub.getD e.2 []) (if e.2 = 0 then r else (r.1 / 2, if p.chroma = 0 then r.2.1 / 2 else r.2.1, r.2.2.1 / 2,
          if p.chroma = 0 then r.2.2.2 / 2 else r.2.2.2)) q) e.1) }

/-- Planes in 4:2:2 at 10 bits: 4:2:0 chroma is interpolated vertically, and 8-bit samples are shifted left by 2 (12 R532). -/
def widened (p : DecodedPicture) (l : List Picture) : List Picture :=
  l.zipIdx.map (fun e =>
    let deep := e.1.map (fun row => row.map (fun v => if p.depth = 8 then 4 * v else v))
    if e.2 != 0 && p.chroma = 0 then transpose ((transpose deep).map (fun col => (List.range (2 * col.length)).map (Config.chromaDouble col))) else deep)

/-- The frame that a decoded picture gives: a field pair is one frame (12 R532). -/
def decodedFrame (p : DecodedPicture) : Picture :=
  let a := widened p p.planes
  let b := widened p p.second
  let whole := fun (i : Nat) =>
    if p.second.isEmpty then a.getD i []
    else ((a.getD i []).zipIdx.flatMap (fun e => [e.1, (b.getD i []).getD e.2 []]))
  ofPlanes 0 { a := whole 0, b := whole 1, c := whole 2 }

/-- A profile that a context decodes, up to level 6.2 (12 R531). AVC and HEVC profiles by profile_idc, VVC by its code
(PRESUMED, log entry 26). -/
def decodes (codec profile level : Nat) : Bool :=
  level ≤ 62 && (match codec with | 1 => within profile 1 2 || profile == 4 | 2 => profile == 1 | 4 => [66, 77, 100, 110, 122].contains profile | _ => false)

/-- A receive flow of kind 0x07 or 0x08 names a context (12 R527). -/
def State.ctxFed (s : State) (x : Nat) : Bool :=
  s.flows.any (fun e => e.1 < 8192 && e.2.cfg.enabled && (e.2.cfg.kind == 0x07 || e.2.cfg.kind == 0x08) && e.2.cfg.binding == x)

/-- A concealed picture: counts, alarm, and event 0x3510 for the first after a clean one (12 R535, R536, R543). -/
def State.noteConcealed (s : State) (x : Nat) (p : DecodedPicture) : State :=
  if !picConcealed p then s
  else
    let y := s.ctx x
    let s1 := (s.when p.missingRef.isSome (fun t => t.count cntDecMissingRef x 1)).when (!p.sliceErrors.isEmpty)
      (fun t => t.count cntDecSliceError x p.sliceErrors.length)
    let s2 := ((s1.count cntDecConcealed x 1).raise almDecConcealed x).modCtx x (fun z => { z with concealing := true, episode := if z.concealing then z.episode + 1 else 1 })
    if y.concealing then s2 else s2.event { code := 0x3510, noun := 0x35, index := x, data := le 8 y.frame }

/-- A picture of the declared raster's size; a field pair is one frame of an interlaced raster (12 R532). -/
def sizeFits (c : DecCfg) (p : DecodedPicture) : Bool :=
  match rasterOf c.raster with
  | some r => p.width == r.width && p.height == r.height && (p.second.isEmpty || r.interlaced)
  | none => false

/-- DECODE_PICTURE_COMPLETE: a context has decoded a picture (12 R531 to R537). -/
def State.pictureDecoded (s0 : State) (x : Nat) (p0 : DecodedPicture) : State :=
  let p : DecodedPicture := { (s0.ctx x).repaired p0 with fromConcealed := p0.fromConcealed || (s0.ctx x).blockBad }
  let s := s0.modCtx x (fun y => { y with blockBad := false })
  let c := (s.ctx x).cfg
  if !(c.enable = 1 && s.coresRun && s.ctxFed x && p.codec == c.codec && decodes p.codec p.profile p.level) then s
  else
    let was := (s.ctx x).concealing
    let s1 := ((s.takePcr x p.pcr).modCtx x (fun y => { y with
      codec := p.codec, profile := p.profile, level := p.level, width := p.width, height := p.height
      recent := ((p.pts, p.planes) :: y.recent).take 16
      substitute := match p.missingRef with | some r => y.substituteAt p r | none => y.substitute })).noteConcealed x p
    let s2 := s1.modCtx x (fun y => { y with ready := y.ready || p.rap || p.recovery, skipRasl := if p.rap then was else y.skipRasl })
    let y := s2.ctx x
    if !sizeFits c p then
      (if s2.stands almDecFormat x then s2
       else (s2.raise almDecFormat x).event { code := 0x3512, noun := 0x35, index := x, data := le 2 p.width ++ le 2 p.height })
    else if !y.ready || (p.rasl && y.skipRasl) then s2
    else
      let late := match y.dueNs p with | some n => decide (n < s2.nowNs) | none => false
      (s2.when (late && !y.forgive) (fun t => t.count cntDecLate x 1)).modCtx x (fun z => { z with dpb := z.dpb ++ [p], forgive := z.forgive && !late })

/-- The picture first in output order (12 R533). -/
def firstOut : List DecodedPicture → Option DecodedPicture
  | [] => none
  | p :: t => match firstOut t with | some q => if q.pts < p.pts then some q else some p | none => some p

/-- Format of a context's output (12 R532). -/
def outFormat (c : DecCfg) (p : DecodedPicture) : Fmt :=
  { raster := c.raster, sampling := 0, colour := if c.colour != 0 then c.colour else if colourFull p.colour then p.colour else 0x11, gang := c.gang }

/-- DECODE_PRESENT: the next picture in output order becomes the newest complete frame of the output source; a random access or
recovery point ends concealment (12 R532 to R534, R537, R538). -/
def State.presentPicture (s : State) (x : Nat) : State :=
  let y := s.ctx x
  match firstOut y.dpb with
  | none => s
  | some p =>
    match y.dueNs p with
    | none => s
    | some due =>
      if !(y.cfg.enable = 1 && s.coresRun) then s
      else
        let s1 := ((s.advanceTo due).count cntDecPictures x 1).clearAlarm almDecFormat x
        let clears := y.concealing && !picConcealed p && (p.rap || p.recovery)
        let s2 := s1.modCtx x (fun z => { z with dpb := z.dpb.erase p, sinceNs := s1.nowNs, frame := z.frame + 1, showConcealed := picConcealed p
                                                 concealing := z.concealing && !clears, episode := if clears then 0 else z.episode })
        let s3 := if clears then (s2.clearAlarm almDecConcealed x).event { code := 0x3511, noun := 0x35, index := x, data := le 8 y.episode } else s2
        if y.cfg.output = 0xFFFF then s3
        else
          s3.produce y.cfg.output (outFormat y.cfg p) (.taken (outFormat y.cfg p) (decodedFrame p))

/-- DECODE_OUTPUT_LOSS: no picture presented for 100 ms (12 R534). -/
def State.outputLoss (s : State) (x : Nat) : State :=
  let y := s.ctx x
  if y.cfg.enable = 1 && y.cfg.output != 0xFFFF && (s.src y.cfg.output).signal then
    ((s.advanceTo (y.sinceNs + 100000000)).loseSource y.cfg.output).modCtx x (fun z => { z with ready := false })
  else s

/-- DECODER_INPUT_RELEASE: transport packets reach a context, whose decode partitions go to Rider, those of one picture at a time and at most
four; into how many the stream divides it is free (07 R324; 12 R506, R531; log entry 27). -/
def State.decoderRelease (s : State) (f : Nat) : State :=
  let c := (s.flow f).cfg.binding
  let s1 := s.decoderInput f
  let n := c / 64
  let waits := fun (it : Item) => it.cls == .decodePart && it.unit == c
  if (s.flow f).buffer.isEmpty || (s1.ctx c).cfg.enable != 1 || !s.coresRun || (s1.rider n).decode.any waits || (s1.inHand n 1).any waits then s1
  else
    let parts := s1.free.1 % 4 + 1
    (s1.free.2.each (List.range parts) (fun t i =>
      t.offer n { Item.reset with cls := .decodePart, level := 3, unit := c, picture := (s1.ctx c).frame, part := i, relNs := s1.nowNs })).riderServe n 1

/-! ### Query and RESET (12 R541; 02 R123) -/

/-- State of a context (12 R541): input counts as absent after 100 ms without a packet (log entry 28). -/
def CtxSt.code (x : CtxSt) (now : Nat) : Nat :=
  if x.cfg.enable != 1 then 0 else if x.inputNs = 0 || now ≥ x.inputNs + 100000000 then 4
  else if !x.ready then 1 else if x.concealing then 3 else 2

/-- Block of QUERY on DecodeCtx (12 R541). -/
def ctxBlock (s : State) (x : Nat) : Bytes :=
  let y := s.ctx x
  layout 40 [(0, le 1 (y.code s.nowNs)), (1, le 1 y.codec), (2, le 1 y.profile), (3, le 1 y.level), (4, le 2 y.width), (6, le 2 y.height),
    (8, le 2 (if y.cfg.enable = 1 then y.cfg.output else 0xFFFF)), (10, le 1 (x / 64)),
    (11, le 1 (bitsOf [s.stands almDecConcealed x, s.stands almDecFormat x, y.pcrLocked])), (12, le 4 (decodeLoad y.cfg * 1000 / decodeCore)),
    (16, le 8 (s.cnt cntDecPictures x)), (24, le 8 (s.cnt cntDecConcealed x)), (32, leInt 4 y.pcrPpb)]

/-- QUERY on DecodeCtx, selector 0x01 (12 R541). -/
def specQueryDecodeCtx : ReqSpec where
  verb := 0x01
  noun := 0x35
  sel := some 0x01
  len := (· == 1)
  index := (· < 256)
  named := fun s c => [{ present := s.ctxPresent c.r.index }]
  body := fun c s => (okWith (ctxBlock s c.r.index), s)

/-- RESET on DecodeCtx (02 R123). -/
def specResetDecodeCtx : ReqSpec where
  verb := 0x12
  noun := 0x35
  index := (· < 256)
  asleep := fun s _ => if s.inService && s.sleeps .decodeCore then some 0x0006 else none
  named := fun s c => [{ present := s.ctxPresent c.r.index }]
  body := fun c s => ({}, s.resetCtx c.r.index)

end Sys2Proof.Machine
end

