-- ==== Sys2Proof/Machine/MemStore.lean ====
section
/-! DEFINITION. The frame store, playout and capture, the host Culvert channels, the control bus and the Gauge units
(spec/14_memory_movement.md; 04 R196). -/
namespace Sys2Proof.Machine

/-! ### The address map (14 R582 to R585, R592) -/

/-- Pseudo-channel of its reach that holds a device address (14 R583). -/
def pseudoChannel (a : Nat) : Nat := a % reachSpan / 256 % 64

/-- Stack that holds a device address (14 R582, R583). -/
def stackOf (a : Nat) : Nat := 2 * (a / reachSpan) + pseudoChannel a / 32

/-- Row of a pseudo-channel that holds a device address, as one number over all rows of the reach: its row address comes from
the highest address bits (14 R583, R592; log entry 29). -/
def rowOf (a : Nat) : Nat :=
  let off := a % reachSpan
  (off / 3145728 * 64 + pseudoChannel a) * 48 + off / 16384 % 192 / 4

/-- Base of the host window of a reach, and its size (14 R583, R584). -/
def windowBase (n : Nat) : Nat := n * reachSpan + 0x400000000
def windowSize : Nat := 0x200000000

/-- A byte range lies within one host window of a present reach; an empty range names no address (14 R584, R603). -/
def State.inWindow (s : State) (a n : Nat) : Bool :=
  n == 0 || (List.range 4).any (fun r => reachFitted s.fused.part r && windowBase r ≤ a && a + n ≤ windowBase r + windowSize)

/-- The frame store of a reach serves requests (14 R600). -/
def State.memActive (s : State) (r : Nat) : Bool := (s.stack (2 * r)).power == .active && (s.stack (2 * r + 1)).power == .active

/-- Base of a 32-byte block. -/
def blockBase (a : Nat) : Nat := a / 32 * 32

/-- The 2-bit counter of a bank after an access: one up for a hit of the open row, one down where the access needs a different row
(14 R593). -/
def pageNext (ctr : Nat) (opened : Option Nat) (row : Nat) : Nat :=
  match opened with
  | some r => if r = row then min 3 (ctr + 1) else ctr - 1
  | none => ctr

/-- One access to a row of a bank; with no further request queued there, the row stays open when the counter is 2 or 3 (14 R593). -/
def State.pageAccess (s : State) (a : Nat) : State :=
  let bank := Config.bankOf a
  s.modStack (stackOf a) (fun x =>
    let n := pageNext (tget (fun _ => (2 : BitVec 2)) x.pageCtr bank).toNat (tget (fun _ => (none : Option Nat)) x.openRow bank) (rowOf a)
    { x with pageCtr := tset (fun _ => 2) x.pageCtr bank (BitVec.ofNat 2 n)
             openRow := tset (fun _ => none) x.openRow bank (if n ≥ 2 then some (rowOf a) else none) })

/-- The accesses of a byte range, one for each block of 256 bytes that it touches (14 R583, R593). -/
def State.pageTouch (s : State) (a n : Nat) : State :=
  if n = 0 then s else s.each (List.range ((a + n - 1) / 256 + 1 - a / 256)) (fun t i => t.pageAccess (a / 256 * 256 + 256 * i))

/-- Bytes written, and the poison of the blocks they cover whole cleared (14 R591). -/
def State.memWrite (s : State) (a : Nat) (b : Bytes) : State :=
  ((s.dramWrite a b).pageTouch a b.length).each (List.range 8) (fun t k =>
    t.modStack k (fun x => { x with poisoned := x.poisoned.filter (fun p => !(a ≤ p && p + 32 ≤ a + b.length)) }))

/-- A read of a byte range meets a poisoned block (14 R591). -/
def State.poisonIn (s : State) (a n : Nat) : Bool :=
  n != 0 && s.dramStacks.any (fun x => x.poisoned.any (fun p => p < a + n && a < p + 32))

/-- A write of a byte range covers part of a poisoned block, which it reads first (14 R604, R623). -/
def State.poisonCut (s : State) (a n : Nat) : Bool :=
  n != 0 && s.dramStacks.any (fun x => x.poisoned.any (fun p => p < a + n && a < p + 32 && !(a ≤ p && p + 32 ≤ a + n)))

/-! ### Power of the stacks (14 R593, R600 to R602) -/

/-- Every stack goes to a power state; leaving self-refresh resets the counters of the page policy (14 R593, R600). -/
def State.stackPower (s : State) (p : DramPower) : State :=
  { s with dramStacks := s.dramStacks.map (fun x => if x.power = p then x else { x with power := p, pageCtr := [], openRow := [], postponed := [] }) }

/-- Contents outside the keep region are lost: the next Standby exit fills the host windows with zero (14 R600 to R602). -/
def State.memLost (s : State) : State :=
  { s with rmem := s.rmem.map (fun r => { r with windowLost := true }) }

/-- Partial-array self-refresh keeps only the keep region (14 R600, R601). -/
def State.memPartial (s : State) : State := (s.stackPower .partialRefresh).memLost

/-- The host windows are filled with zero where their contents were lost (14 R602). -/
def State.memRestore (s : State) : State :=
  let lost := (List.range 4).filter (fun r => (s.reachMem r).windowLost)
  { s with dram := s.dram.filter (fun c => !lost.contains (c.1 / reachSpan)),
           capStamps := s.capStamps.filter (fun c => !lost.contains (c.1 / 4 % 4)),
           rmem := s.rmem.map (fun r => { r with windowLost := false }) }

/-- The frame store follows the device mode (14 R600). -/
def State.memMode (s : State) (m : Mode) : State :=
  match m with
  | .fallow => (s.stackPower .unpowered).memLost
  | .dormant => s.memPartial
  | .standby => if s.pins.holdupOk then s.stackPower .selfRefresh else s.memPartial
  | .boot | .recovery => s
  | .training => s.stackPower .active
  | _ => (s.stackPower .active).memRestore

/-- HOLDUP_OK_FALL in Standby: partial-array self-refresh until the mode changes (14 R602). -/
def State.memHoldup (s : State) : State :=
  if s.mode.current = .standby && (s.stack 0).power == .selfRefresh then s.memPartial.event { code := 0x0123, noun := 0x01 } else s

/-! ### Corrections, uncorrectable blocks and scrubbing (14 R589 to R592; 04 R196) -/

/-- A row of the frame store is recorded as pending repair (14 R592; 01 R19). -/
def State.rowPending (s : State) (reach row : Nat) : State :=
  let p : Pend := { holder := none, elem := .dramRow, reach := reach, row := row }
  ((if s.repair.pending.contains p then s else { s with repair := { s.repair with pending := s.repair.pending ++ [p] } }).raise
    almRepairPending reach)

/-- A corrected read of a row: more than 16 within 24 h make it pending repair (14 R592). -/
def State.rowCorrected (s : State) (a : Nat) : State :=
  let k := stackOf a
  let hits := s.nowNs :: (tget (fun _ => ([] : List Nat)) (s.stack k).rowHits (rowOf a)).filter (fun t => s.nowNs < t + 86400000000000)
  (s.modStack k (fun x => { x with rowHits := tset (fun _ => []) x.rowHits (rowOf a) hits })).when (hits.length > 16)
    (fun t => t.rowPending (a / reachSpan) (rowOf a))

/-- The samples that an uncorrectable block of video costs, from the frame before or black (04 R196). -/
def blockPatch (e : DramError) : Patch := { line := e.line, first := e.first, count := e.count, black := !e.prevOk }

/-- An analysis whose results of one block could not be read: zero vectors, with a cost equal to the intra cost (14 R590). -/
def zeroBlock (a : Analysis) (n : Nat) : Analysis :=
  { a with blocks := lmod a.blocks n (fun b => { b with motion := b.motion.map (fun _ => [((0, 0), b.intra)]) }) }

/-- What an uncorrectable read does to its reader, by the content of the block; a head shows a surface's block as transparent (14 R590;
04 R196). -/
def State.uncorrectable (s : State) (e : DramError) : State :=
  match e.content, e.reader with
  | 0, .dst d => (s.count cntBlockConcealed d 1).modDst d (fun x => { x with patches := x.patches ++ [blockPatch e] })
  | 0, .stem k => (s.count cntBlockConcealed (1024 + k) 1).modDst (1024 + k) (fun x => { x with patches := x.patches ++ [blockPatch e] })
  | 0, .layer l => (s.count cntBlockConcealedLayer l 1).modLayer l (fun x => { x with patches := x.patches ++ [blockPatch e] })
  | 5, .layer l => s.modLayer l (fun x => { x with patches := x.patches ++ [blockPatch e] })
  | 1, .rendition r => s.modRend r (fun x => { x with forceIntra := true })
  | 1, .job h => s.modJob h (fun x => { x with forceIntra := true })
  | 2, .ctx c => s.modCtx c (fun x => { x with blockBad := true })
  | 3, .stem k => s.modStem k (fun x => { x with last := zeroBlock x.last e.first })
  | 3, .rendition r => s.modRend r (fun x => { x with hand := x.hand.map (fun p => if p.left.isEmpty then p else { p with found := zeroBlock p.found e.first }) })
  | 4, .buffers d again => (s.count cntDramUeDiscard (d / 256) 1).when (!again) (fun t => t.tsPacket d false)
  | _, _ => s

/-- DRAM_READ_ERROR: the outer code corrects one erroneous symbol of a block and detects two; whether more show as a correction or as a
detected error the spec does not state (14 R589 to R592). -/
def State.dramError (s0 : State) (e : DramError) : State :=
  let r := e.addr / reachSpan
  let k := stackOf e.addr
  let scrub := e.reader == .scrubber
  let n := if e.symbols ≤ 2 then e.symbols else s0.free.1 % 2 + 1
  let s := (if e.symbols ≤ 2 then s0 else s0.free.2).pageAccess e.addr
  if r ≥ 4 || !reachFitted s0.fused.part r || !s0.memActive r || e.content > 5 || n = 0 then s0
  else if n = 1 then
    (((s.count cntDramCorrected k 1).modStack k (fun x => { x with scrubbed := if scrub then x.scrubbed + 1 else x.scrubbed })).rowCorrected
      e.addr)
  else
    let s1 := (s.count cntDramUncorrectable k 1).event
      { code := 0x0120, noun := 0x01, data := le 1 k ++ le 1 e.content ++ le 6 0 ++ le 8 e.addr }
    let s2 := if scrub && !(s1.stack k).poisoned.contains (blockBase e.addr) then
        s1.modStack k (fun x => { x with poisoned := blockBase e.addr :: x.poisoned }) else s1
    (s2.when (!e.cured) (fun t => t.rowPending r (rowOf e.addr))).uncorrectable e

/-- SCRUB_PASS_COMPLETE (14 R591, R626). -/
def State.scrubPass (s : State) (k : Nat) : State :=
  if k ≥ 8 || !reachFitted s.fused.part (k / 2) || !s.memActive (k / 2) then s
  else
    (s.event { code := 0x0121, noun := 0x01, data := le 1 k ++ le 3 0 ++ le 4 (s.stack k).scrubbed }).modStack k
      (fun x => { x with scrubbed := 0, scrubNs := s.nowNs })

/-- Progress of the patrol pass of a reach, by the time its older pass has run (14 R591, R624; log entry 30). -/
def State.scrubPct (s : State) (n : Nat) : Nat :=
  min 100 ((s.nowNs - min (s.stack (2 * n)).scrubNs (s.stack (2 * n + 1)).scrubNs) * 100 / 86400000000000)

/-! ### Refresh and panic (14 R594, R597 to R599) -/

/-- REFRESH_DUE: the refresh of a bank is postponed while real-time requests wait, up to 8; the ninth is forced
(14 R593, R594, R598). -/
def State.refreshDue (s : State) (k bank : Nat) (waiting : Bool) : State :=
  if k ≥ 8 || !reachFitted s.fused.part (k / 2) || !s.memActive (k / 2) then s
  else
    let n := tget (fun _ => 0) (s.stack k).postponed bank
    let hold := waiting || !(s.reachMem (k / 2)).panic.isEmpty
    if hold && n < 8 then s.modStack k (fun x => { x with postponed := tset (fun _ => 0) x.postponed bank (n + 1) })
    else
      (s.modStack k (fun x => { x with postponed := if hold then x.postponed else tset (fun _ => 0) x.postponed bank 0
                                       pageCtr := tset (fun _ => 2) x.pageCtr bank 2
                                       openRow := tset (fun _ => none) x.openRow bank none })).when hold (fun t => t.count cntRefreshForced k 1)

/-- PANIC_ENTER of a real-time port: the buffer of a reader below 25 %, of a writer above 75 % (14 R597, R598). -/
def State.panicEnter (s : State) (n port : Nat) (writer : Bool) (fill : Nat) : State :=
  if (if writer then fill ≤ 75 else fill ≥ 25) || n ≥ 4 || !reachFitted s.fused.part n || !s.memActive n || (s.reachMem n).panic.contains port then s
  else (s.modReachMem n (fun x => { x with panic := port :: x.panic })).count cntDramPanic n 1

/-- PANIC_LEAVE: the buffer has returned to 50 % (14 R597). -/
def State.panicLeave (s : State) (n port : Nat) (writer : Bool) (fill : Nat) : State :=
  if (if writer then fill > 50 else fill < 50) then s else s.modReachMem n (fun x => { x with panic := x.panic.filter (· != port) })

/-- The samples from a place to the end of their line, black of the format (14 R599). -/
def restBlack (line first : Nat) : Patch := { line := line, first := first, count := 65536, black := true }

/-- What starvation costs the port: a reader's rest of the line is black, and a writer's frame is discarded (14 R599; 04 R182). -/
def State.starve (s : State) (p : RtPort) : State :=
  match p with
  | .reader (.dst d) line first => s.modDst d (fun x => { x with patches := x.patches ++ [restBlack line first] })
  | .reader (.stem k) line first => s.modDst (1024 + k) (fun x => { x with patches := x.patches ++ [restBlack line first] })
  | .reader (.layer l) line first => s.modLayer l (fun x => { x with patches := x.patches ++ [restBlack line first] })
  | .reader _ _ _ => s
  | .writer k => s.modSrc k (fun x => { x with spoiled := true })

/-- RT_STARVED: a real-time port's buffer emptied or overflowed (14 R599). -/
def State.rtStarved (s0 : State) (n : Nat) (port : RtPort) : State :=
  let overflow := match port with | .writer _ => true | .reader _ _ _ => false
  let s := s0.starve port
  if n ≥ 4 || !reachFitted s0.fused.part n || !s0.memActive n then s0
  else
    ((((s.count (if overflow then cntRtOverflow else cntRtUnderrun) n 1).raise almRtStarved n).modReachMem n
      (fun x => { x with starvedNs := some s.nowNs })).event
        { code := 0x0122, noun := 0x01, data := le 1 n ++ le 1 (if overflow then 1 else 0) })

/-- alm_rt_starved stands for 1 s (14 R599). -/
def State.starvedEnd (s : State) : State :=
  s.each (List.range 4) (fun t n =>
    match (t.reachMem n).starvedNs with
    | some ns => if ns + 1000000000 ≤ t.nowNs then (t.clearAlarm almRtStarved n).modReachMem n (fun x => { x with starvedNs := none }) else t
    | none => t)

/-! ### QUERY on Reach, selector 0x10 (14 R624) -/

/-- Guaranteed bandwidth of the classes RT, LIVE, HOST, BF and SCRUB, GB/s (14 R595). -/
def guarantees : List Nat := [1000, 500, 100, 0, 0]

/-- Bandwidth served of what the classes ask for, GB/s: each up to its guarantee, and what is left in the order of the classes; in panic RT
comes first regardless of guarantees, and BF and SCRUB are held (14 R595, R596, R598). -/
def servedGbs (panic : Bool) (demand : List Nat) : List Nat :=
  let cap := 1875
  let ask := if panic then demand.take 3 ++ [0, 0] else demand
  let grant := fun (l : List (Nat × Nat)) (total : Nat) =>
    (l.foldl (fun (a : Nat × List Nat) e => (a.1 - min a.1 (min e.1 e.2), a.2 ++ [min a.1 (min e.1 e.2)])) (total, []))
  let g := grant (ask.zip (if panic then cap :: guarantees.drop 1 else guarantees)) cap
  let more := grant ((ask.zip g.2).map (fun e => (e.1 - e.2, e.1 - e.2))) g.1
  List.zipWith (· + ·) g.2 more.2

/-- Block of QUERY on Reach with selector 0x10, with the bandwidths served. -/
def bandwidthBlock (s : State) (gbs : List Nat) (n : Nat) : Bytes :=
  let m := s.reachMem n
  layout 56 [(0, ((List.range 5).map (fun i => le 2 (gbs.getD i 0))).flatten),
    (10, le 1 (bitsOf [!m.panic.isEmpty, s.stands almRtStarved n, (s.stack (2 * n)).power == .partialRefresh])),
    (11, le 1 (s.scrubPct n)), (16, le 8 (s.cnt cntDramCorrected (2 * n))), (24, le 8 (s.cnt cntDramCorrected (2 * n + 1))),
    (32, le 8 (s.cnt cntDramUncorrectable (2 * n))), (40, le 8 (s.cnt cntDramUncorrectable (2 * n + 1))), (48, le 8 (s.cnt cntDramPanic n))]

/-- QUERY on Reach, selector 0x10; what the classes asked for over the last second is free (14 R624). -/
def specQueryReachBandwidth : ReqSpec where
  verb := 0x01
  noun := 0x02
  sel := some 0x10
  len := (· == 1)
  index := (· < 4)
  named := fun s c => [{ present := reachFitted s.fused.part c.r.index }]
  body := fun c s =>
    let a := s.free
    let b := a.2.free
    let d := b.2.free
    let e := d.2.free
    let f := e.2.free
    (okWith (bandwidthBlock s (servedGbs (!(s.reachMem c.r.index).panic.isEmpty) [a.1, b.1, d.1, e.1, f.1]) c.r.index), f.2)

/-! ### Host playout (14 R584, R586, R587) -/

/-- A playout post takes effect: its slot's frame becomes the newest complete frame, or playout stops (14 R586). -/
def State.playSlot (s : State) (k slot : Nat) : State :=
  if slot = 0xFF then (s.modSrc k (fun x => { x with playSlot := none })).loseSource k
  else (s.modSrc k (fun x => { x with playSlot := some slot })).produce k (s.src k).fmt (.slot (s.src k).fmt k slot)

/-- A slot is busy: posted, and not reported free (14 R587). -/
def State.slotBusy (s : State) (k slot : Nat) : Bool := slot < 4 && (s.src k).slots.getLsbD slot

/-- SET on Src, selector 0x20: a playout frame is posted (14 R586, R587). -/
def specSetSrcPlayoutPost : ReqSpec where
  verb := 0x02
  noun := 0x10
  sel := some 0x20
  len := (· == 16)
  form := fun b => zeroFrom b 2 6
  index := (· < 1152)
  named := fun s c => [s.namedUnit .src c.r.index]
  body := fun c s =>
    let k := c.r.index
    let slot := u8 c.block 1
    let at0 := u64 c.block 8
    let x := s.src k
    if !isPlayout k then (fail stInvalid 0, s)
    else if s.srcMember k then (fail stInvalid 0x0012, s)
    else if !(slot < 4 || slot = 0xFF) || at0 > s.nowNs + 10000000000 then (fail stRange 0x00C0, s)
    else if s.slotBusy k slot then (fail stBusy 0x00C1, s)
    else
      let s1 := if slot < 4 then s.modSrc k (fun x => { x with slots := x.slots ||| BitVec.ofNat 8 (2 ^ slot) }) else s
      let due := x.posts.foldl (fun m p => max m p.2) (max at0 s.nowNs)
      (okWith [], if x.posts.isEmpty && at0 ≤ s.nowNs then s1.playSlot k slot
                  else s1.modSrc k (fun x => { x with posts := x.posts ++ [(slot, due)] }))

/-- PLAYOUT_POST_TIME: the earliest post that waits reaches its time (14 R586). -/
def State.playoutPost (s : State) (k : Nat) : State :=
  match (s.src k).posts with
  | [] => s
  | p :: t => ((s.advanceTo p.2).modSrc k (fun x => { x with posts := t })).playSlot k p.1

/-- A reader took a playout slot for its frame in progress (14 R587). -/
def State.slotRead (s : State) (k slot : Nat) : Bool :=
  let took := fun (f : Frame) => match f with | .slot _ k' n => k' == k && n == slot | _ => false
  s.dsts.any (fun e => s.dstRuns e.1 && took e.2.shows) || s.layers.any (fun e => e.2.video.enable == 1 && e.2.state != 0 && took e.2.pic)

/-- PLAYOUT_SLOT_FREE: every reader of a slot that is no longer the newest frame has ended the frame in which it took it
(14 R587). -/
def State.playoutFree (s : State) (k slot : Nat) : State :=
  let x := s.src k
  if !(isPlayout k && s.slotBusy k slot) || x.playSlot == some slot || x.posts.any (fun p => p.1 == slot) || s.slotRead k slot then s
  else
    (s.modSrc k (fun x => { x with slots := x.slots &&& ~~~BitVec.ofNat 8 (2 ^ slot) })).event
      { code := 0x1020, noun := 0x10, index := k, data := le 1 slot }

/-! ### Host capture (14 R584, R585, R588, R623) -/

/-- SET on Dst, selector 0x20: the capture slots that the host holds (14 R588). -/
def specSetDstCaptureHold : ReqSpec where
  verb := 0x02
  noun := 0x11
  sel := some 0x20
  len := (· == 4)
  form := fun b => zeroFrom b 2 2
  index := (· < 1152)
  named := fun s c => [s.namedUnit .dst c.r.index]
  body := fun c s =>
    let d := c.r.index
    if !isCapture d then (fail stInvalid 0, s)
    else if s.dstMember d then (fail stInvalid 0x0012, s)
    else if u8 c.block 1 > 15 then (fail stRange 0x00C0, s)
    else (okWith [], s.modDst d (fun x =>
      { x with held := BitVec.ofNat 8 (u8 c.block 1), capHeld := if s.dstRuns d then x.capHeld else BitVec.ofNat 8 (u8 c.block 1) }))

/-- Block of QUERY on Dst with selector 0x20 (14 R588). -/
def captureBlock (s : State) (d : Nat) : Bytes :=
  let x := s.dst d
  let stamp := fun (i : Nat) => (tget (fun _ => CapSlot.reset) s.capStamps (4 * (d - 1088) + i)).frame
  layout 36 ([(0, le 1 x.held.toNat), (1, le 1 x.capLast)] ++ (List.range 4).map (fun i => (4 + 8 * i, le 8 (stamp i - 1))))

/-- QUERY on Dst, selector 0x20 (14 R588). -/
def specQueryDstCapture : ReqSpec where
  verb := 0x01
  noun := 0x11
  sel := some 0x20
  len := (· == 1)
  index := (· < 1152)
  named := fun s c => [s.namedUnit .dst c.r.index]
  body := fun c s =>
    if !isCapture c.r.index then (fail stInvalid 0, s)
    else if s.dstMember c.r.index then (fail stInvalid 0x0012, s)
    else (okWith (captureBlock s c.r.index), s)

/-- The frame start of a capture destination: the hold mask that stands governs the frame (14 R588, R623). -/
def State.captureStart (s : State) (d : Nat) : State :=
  if isCapture d && s.dstRuns d then s.modDst d (fun x => { x with capHeld := x.held }) else s

/-- The next slot in rotation that is not held by a mask (14 R588). -/
def nextSlot (last : Nat) (held : BitVec 8) : Option Nat :=
  ([1, 2, 3, 4].map (fun i => (if last < 4 then last + i else i - 1) % 4)).find? (fun k => !held.getLsbD k)

/-- A frame of samples fills a capture slot, and what the host wrote there is gone; the bytes beside the samples are free (14 R585, R588;
log entry 12). -/
def State.fillSlot (s : State) (j slot frame sampling : Nat) (p : Picture) : State :=
  let key := 4 * j + slot
  let a := s.free
  { a.2 with dram := s.dram.filter (fun c => match captureSlotAt c.1 with | some p => p.1 != key | none => true),
             capStamps := tset (fun _ => CapSlot.reset) s.capStamps key { frame := frame + 1, stamp := a.1, sampling := sampling, pic := p } }

/-- CAPTURE_FRAME_WRITTEN: the frame a capture destination carries is complete; the hold mask that stood when it began says
where it went, and the mask now set governs the next (14 R588, R623). -/
def State.captureFrame (s : State) (d : Nat) : State :=
  if !(isCapture d && s.dstRuns d) then s
  else
    let x := s.dst d
    let f := (s.domain x.domain).frame.toNat
    let s1 := match nextSlot x.capLast x.capHeld with
      | none => s.count cntCaptureDrop d 1
      | some k => ((s.each (s.carriedMembers d).zipIdx (fun t m => t.fillSlot (d - 1088 + m.2) k f (s.dstFmt d).sampling m.1)).modDst d (fun y => { y with capLast := k, capSeq := y.capSeq + 1 })).event
          { code := 0x1120, noun := 0x11, index := d, domain := x.domain, frame := f, data := le 1 k ++ le 7 0 ++ le 8 f }
    s1.modDst d (fun y => { y with capHeld := y.held })

/-! ### Check values (14 R618) -/

/-- Parameters of a polynomial. -/
structure Poly where
  width : Nat
  gen : Nat
  reflected : Bool
  init : Nat
  xorOut : Nat
  /-- bits of an input unit -/
  bits : Nat
deriving DecidableEq, Repr

/-- The polynomials (14 R618). -/
def polyOf : Nat → Option Poly
  | 0 => some ⟨32, 0x04C11DB7, true, 0xFFFFFFFF, 0xFFFFFFFF, 8⟩
  | 1 => some ⟨32, 0x1EDC6F41, true, 0xFFFFFFFF, 0xFFFFFFFF, 8⟩
  | 2 => some ⟨18, 0x31, true, 0, 0, 10⟩
  | 3 => some ⟨16, 0x1021, false, 0xFFFF, 0, 8⟩
  | _ => none

/-- One bit shifted into a check register, whose top bit is the highest power. -/
def polyBit (p : Poly) (v bit : Nat) : Nat :=
  let top := v / 2 ^ (p.width - 1) % 2
  let w := 2 * v % 2 ^ p.width
  if (top + bit) % 2 = 1 then w ^^^ p.gen else w

/-- One input unit: a reflected polynomial takes its least significant bit first. -/
def polyUnit (p : Poly) (v u : Nat) : Nat :=
  (List.range p.bits).foldl (fun a i => polyBit p a (u / 2 ^ (if p.reflected then i else p.bits - 1 - i) % 2)) v

/-- Input units of a byte string: bytes, or the low 10 bits of little-endian words, a last odd byte left out. -/
def polyInput (p : Poly) (b : Bytes) : List Nat :=
  if p.bits = 8 then b.map (·.toNat) else (List.range (b.length / 2)).map (fun i => u16 b (2 * i) % 1024)

/-- A register after a byte string. -/
def polyRun (p : Poly) (v : Nat) (b : Bytes) : Nat := (polyInput p b).foldl (polyUnit p) v

/-- The low `n` bits of a number in reverse order. -/
def reverseBits (n v : Nat) : Nat := (List.range n).foldl (fun a i => a + v / 2 ^ i % 2 * 2 ^ (n - 1 - i)) 0

/-- Reflection of the result and final XOR. -/
def polyFinal (p : Poly) (v : Nat) : Nat := (if p.reflected then reverseBits p.width v else v) ^^^ p.xorOut

/-! ### Gauge units (14 R619 to R622) -/

/-- Polynomial of a unit. -/
def GaugeSt.poly (g : GaugeSt) : Poly := (polyOf g.cfg.poly).getD ⟨32, 0x1EDC6F41, true, 0xFFFFFFFF, 0xFFFFFFFF, 8⟩

/-- A unit is being fed (14 R620). -/
def GaugeSt.fed (g : GaugeSt) : Bool := g.feed.isSome || g.culvert.isSome

/-- A unit's running value after bytes. -/
def State.gaugeFeed (s : State) (u : Nat) (b : Bytes) : State :=
  s.modGauge u (fun g => { g with value := BitVec.ofNat 32 (polyRun g.poly g.value.toNat b) })

/-- A unit takes bytes of which the last one stands alone under polynomial 2: the spec states no result, and the value is free. -/
def State.gaugeTake (s : State) (u : Nat) (b : Bytes) : State :=
  if !s.usable .gauge u then s
  else if (s.gauge u).cfg.poly = 2 && b.length % 2 = 1 then
    s.free.2.modGauge u (fun g => { g with value := BitVec.ofNat 32 (s.free.1 % 262144) })
  else s.gaugeFeed u b

/-- Finalisation: the result, the initial value loaded, and a comparison that fails reported (14 R622). -/
def State.gaugeFinal (s : State) (u : Nat) : Nat × State :=
  let g := s.gauge u
  let r := polyFinal g.poly g.value.toNat
  let s1 := s.modGauge u (fun g => { g with value := BitVec.ofNat 32 g.poly.init })
  (r, if g.cfg.flags.getLsbD 0 && r != g.cfg.expected % 2 ^ g.poly.width then
        ((s1.count cntGaugeMismatch u 1).interrupt 20).event
          { code := 0x3C10, noun := 0x3C, index := u, data := le 4 r ++ le 4 g.cfg.expected }
      else s1)

/-- A request on Gauge: index, presence, and BUSY while the unit is fed. -/
def gaugeNamed (s : State) (c : Call) : List Named := [s.namedUnit .gauge c.r.index]

/-- SET on Gauge, selector 0x01 (14 R619). -/
def specSetGauge : ReqSpec where
  verb := 0x02
  noun := 0x3C
  sel := some 0x01
  len := (· == 12)
  form := fun b => u8 b 3 == 0 && zeroFrom b 8 4
  bits := fun b => flagsIn (BitVec.ofNat 8 (u8 b 2)) 0x01
  bitsReason := 0x00C2
  index := (· < 64)
  named := gaugeNamed
  body := fun c s =>
    let z := decGaugeCfg c.block
    match polyOf z.poly with
    | none => (fail stRange 0x00C2, s)
    | some p =>
      if (s.gauge c.r.index).fed then (fail stBusy 0x00C4, s)
      else (okWith [], s.modGauge c.r.index (fun g => { g with cfg := z, value := BitVec.ofNat 32 p.init }))

/-- WRITE on Gauge, selector 0x02: data (14 R620). -/
def specWriteGaugeData : ReqSpec where
  verb := 0x14
  noun := 0x3C
  sel := some 0x02
  len := (· ≥ 8)
  form := fun b => zeroFrom b 1 7
  indirect := true
  index := (· < 64)
  named := gaugeNamed
  body := fun c s =>
    let g := s.gauge c.r.index
    if g.cfg.poly = 2 && c.block.length % 2 = 1 then (fail stRange 0x00C2, s)
    else if g.fed && c.block.length > 8 then (fail stBusy 0x00C4, s)
    else (okWith [], s.gaugeFeed c.r.index (c.block.drop 8))

/-- SET on Gauge, selector 0x04: a feed from a host window (14 R620). -/
def specSetGaugeFeed : ReqSpec where
  verb := 0x02
  noun := 0x3C
  sel := some 0x04
  len := (· == 24)
  form := fun b => zeroFrom b 1 7
  index := (· < 64)
  named := gaugeNamed
  body := fun c s =>
    let g := s.gauge c.r.index
    let a := u64 c.block 8
    let n := u64 c.block 16
    if !s.inWindow a n then (fail stInvalid 0x00C3, s)
    else if g.cfg.poly = 2 && n % 2 = 1 then (fail stRange 0x00C2, s)
    else if g.fed then (fail stBusy 0x00C4, s)
    else (okWith [], if n = 0 then s else s.modGauge c.r.index (fun g => { g with feed := some (a, n) }))

/-- Block of QUERY on Gauge with selector 0x03 (14 R621). -/
def gaugeBlock (g : GaugeSt) : Bytes := layout 8 [(0, le 4 g.value.toNat), (4, le 1 g.cfg.poly)]

/-- QUERY on Gauge, selector 0x03 (14 R621). -/
def specQueryGauge : ReqSpec where
  verb := 0x01
  noun := 0x3C
  sel := some 0x03
  len := (· == 1)
  index := (· < 64)
  named := gaugeNamed
  body := fun c s => (okWith (gaugeBlock (s.gauge c.r.index)), s)

/-- SET on Gauge, selector 0x03: the running value, of which the register takes its width (14 R621). -/
def specSetGaugeValue : ReqSpec where
  verb := 0x02
  noun := 0x3C
  sel := some 0x03
  len := (· == 8)
  form := fun b => zeroFrom b 1 3
  index := (· < 64)
  named := gaugeNamed
  body := fun c s =>
    if (s.gauge c.r.index).fed then (fail stBusy 0x00C4, s)
    else (okWith [], s.modGauge c.r.index (fun g => { g with value := BitVec.ofNat 32 (u32 c.block 4 % 2 ^ g.poly.width) }))

/-- SET on Gauge, selector 0x05: finalisation, whose reply carries the result (14 R622). -/
def specSetGaugeFinalise : ReqSpec where
  verb := 0x02
  noun := 0x3C
  sel := some 0x05
  len := (· == 1)
  index := (· < 64)
  named := gaugeNamed
  body := fun c s =>
    if (s.gauge c.r.index).fed then (fail stBusy 0x00C4, s)
    else
      let r := s.gaugeFinal c.r.index
      (okWith (le 4 r.1), r.2)

/-- RESET on Gauge: the running value is loaded with the initial value (02 R123). -/
def specResetGauge : ReqSpec where
  verb := 0x12
  noun := 0x3C
  index := (· < 64)
  named := gaugeNamed
  body := fun c s =>
    if (s.gauge c.r.index).fed then (fail stBusy 0x00C4, s)
    else (okWith [], s.modGauge c.r.index (fun g => { g with value := BitVec.ofNat 32 g.poly.init }))

/-- GAUGE_FEED_COMPLETE: a feed from a host window ends (14 R620, R626). -/
def State.gaugeFeedEnd (s : State) (u : Nat) : State :=
  match (s.gauge u).feed with
  | none => s
  | some f =>
    if !s.memActive (f.1 / reachSpan) || !s.usable .gauge u then s
    else
      let s1 := ((s.gaugeFeed u (s.dramRead f.1 f.2)).pageTouch f.1 f.2).modGauge u (fun g => { g with feed := none })
      s1.event { code := 0x3C11, noun := 0x3C, index := u, always := true,
                 data := le 4 (s1.gauge u).value.toNat ++ le 4 0 ++ le 8 f.2 }

/-! ### The host Culvert channels (14 R603 to R612) -/

/-- Error with which an activated transfer ends at once: 1 for addresses outside the host windows or a reserved direction, 5 for
a Gauge unit fed by another source (14 R605, R607, R620). -/
def State.culvertCheck (s : State) (x : Shadow) : Nat :=
  let n := x.length.toNat
  let reads := x.dir.toNat = 1 || x.dir.toNat = 2
  let writes := x.dir.toNat = 0 || x.dir.toNat = 2
  if x.dir.toNat = 3 || (reads && !s.inWindow x.src.toNat n) || (writes && !s.inWindow x.dst.toNat n) then 1
  else if x.gaugeEn && (s.gauge x.gaugeUnit.toNat).fed then 5
  else 0

/-- A transfer ends with an error: nothing starts while stk_error is 1 (14 R605, R610, R612). -/
def State.culvertFail (s : State) (c code done : Nat) : State :=
  let s1 := match (s.culvert c).active with
    | some x => if x.gaugeEn && code != 5 then s.modGauge x.gaugeUnit.toNat (fun g => { g with culvert := if g.culvert = some c then none else g.culvert }) else s
    | none => s
  (s1.modCulvert c (fun x => { x with active := none, aborting := false, stkError := true, error := code, done := BitVec.ofNat 32 done })).interrupt
    (12 + c)

/-- A transfer completes: done_bytes, full, count, the interrupt, and the finalisation of its Gauge unit
(14 R607, R608, R610, R622). -/
def State.culvertFinish (s : State) (c : Nat) (x : Shadow) : State :=
  let u := x.gaugeUnit.toNat
  let s1 := s.when x.gaugeEn (fun t => t.modGauge u (fun g => { g with culvert := none }))
  let s2 := s1.when x.gaugeFinal (fun t => (t.gaugeFinal u).2)
  (s2.modCulvert c (fun y => { y with active := none, done := x.length, full := true, count := y.count + 1,
                                      zero := y.zero || x.length == 0 })).when x.intFull (fun t => t.interrupt (12 + c))

/-- The shadow set becomes the active transfer: checked at once, and complete at once when it moves nothing (14 R606, R607). -/
def State.culvertActivate (s : State) (c : Nat) : State :=
  let x := (s.culvert c).shadow
  let s1 := s.modCulvert c (fun y => { y with active := some x, armed := false, done := 0 })
  let e := s.culvertCheck x
  if e != 0 then s1.culvertFail c e 0
  else if x.length = 0 then s1.culvertFinish c x
  else s1.when x.gaugeEn (fun t => t.modGauge x.gaugeUnit.toNat (fun g => { g with culvert := some c }))

/-- A set that waits is activated when nothing keeps it (14 R606). -/
def State.culvertNext (s : State) (c : Nat) : State :=
  let y := s.culvert c
  if s.usable .culvert c && y.armed && y.active.isNone && !y.stkError then s.culvertActivate c else s

/-- CULVERT_ARM (14 R606). A control write to a channel that is absent does nothing (00 R5; log entry 152). -/
def State.culvertArm (s : State) (c : Nat) : State :=
  let y := s.culvert c
  if c ≥ 8 || !s.present .culvert c then s
  else if y.armed then s.modCulvert c (fun y => { y with overrun := true })
  else (s.modCulvert c (fun y => { y with armed := true })).culvertNext c

/-- CULVERT_ABORT: no new request, and an armed set is discarded; an idle channel is aborted at once (14 R610, R611). -/
def State.culvertAbort (s : State) (c : Nat) : State :=
  if c ≥ 8 || !s.present .culvert c then s
  else if (s.culvert c).active.isSome then s.modCulvert c (fun y => { y with armed := false, aborting := true })
  else (s.modCulvert c (fun y => { y with armed := false, aborted := true })).interrupt (12 + c)

/-- CULVERT_ERROR_CLEAR: stk_error is cleared, and an armed set is activated (14 R606). -/
def State.culvertClear (s : State) (c : Nat) : State :=
  if c ≥ 8 || !s.present .culvert c || !(s.culvert c).stkError then s
  else (s.modCulvert c (fun y => { y with stkError := false, error := 0 })).culvertNext c

/-- CULVERT_HALF: the first half of the bytes has completed (14 R605, R610). -/
def State.culvertHalf (s : State) (c : Nat) : State :=
  match (s.culvert c).active with
  | some x =>
    if x.length.toNat < 2 || (s.culvert c).done.toNat ≥ x.length.toNat / 2 then s
    else (s.modCulvert c (fun y => { y with half := true, done := BitVec.ofNat 32 (x.length.toNat / 2) })).when x.intHalf (fun t => t.interrupt (12 + c))
  | none => s

/-- Bytes that a transfer carries: what was read from the host, or from device memory. -/
def State.culvertBytes (s : State) (x : Shadow) (data : Bytes) : Bytes :=
  if x.dir.toNat = 0 then data else s.dramRead x.src.toNat x.length.toNat

/-- A transfer can run to its end: its device memory is active and none of it is poisoned (14 R590, R600, R623). -/
def State.culvertClean (s : State) (x : Shadow) (data : Bytes) : Bool :=
  let n := x.length.toNat
  (x.dir.toNat == 0 || (s.memActive (x.src.toNat / reachSpan) && !s.poisonIn x.src.toNat n)) &&
  (x.dir.toNat == 1 || (s.memActive (x.dst.toNat / reachSpan) && !s.poisonCut x.dst.toNat n)) &&
  (x.dir.toNat != 0 || data.length == n)

/-- The writes of bytes to host memory: none crosses a 4 KiB boundary, and none is longer than 512 bytes; `fuel` bounds them (14 R604). -/
def hostPieces : Nat → Nat → Bytes → List (Nat × Bytes)
  | 0, _, _ => []
  | fuel + 1, a, b =>
    if b.isEmpty then []
    else
      let n := min 512 (4096 - a % 4096)
      (a, b.take n) :: hostPieces fuel (a + n) (b.drop n)

/-- Bytes that reach their destination; after the writes to host memory a zero-length read of the last address written closes the transfer
(14 R603, R604, R608). -/
def State.culvertStore (s : State) (x : Shadow) (b : Bytes) : State :=
  let touched := if x.dir.toNat = 0 then s else s.pageTouch x.src.toNat b.length
  if x.dir.toNat = 1 then
    (touched.each (hostPieces (b.length + 1) x.dst.toNat b) (fun t p => t.hostWrite p.1 p.2)).emit (.hostFlush (x.dst.toNat + b.length - 1))
  else touched.memWrite x.dst.toNat b

/-- CULVERT_COMPLETE: the last response has returned; an armed set follows (14 R606, R608). -/
def State.culvertComplete (s : State) (c : Nat) (data : Bytes) : State :=
  match (s.culvert c).active with
  | some x =>
    if (s.culvert c).aborting || !s.culvertClean x data then s
    else
      let b := s.culvertBytes x data
      (((s.culvertStore x b).when x.gaugeEn (fun t => t.gaugeTake x.gaugeUnit.toNat b)).culvertFinish c x).culvertNext c
  | none => s

/-- What a transfer that ends before its last byte has written: the first `done` bytes, and of the rest any (14 R611, R612). What
the host's memory would have given is not known, and free. -/
def State.culvertPart (s : State) (x : Shadow) (done : Nat) : State :=
  let n := x.length.toNat
  let a := s.freeB
  let known := if x.dir.toNat = 0 then padTo done a.1 else (s.dramRead x.src.toNat done)
  let s1 := if x.dir.toNat = 1 then a.2.hostWrite x.dst.toNat known
            else a.2.memWrite x.dst.toNat (known ++ padTo (n - done) (a.1.drop done))
  s1.when x.gaugeEn (fun t => t.gaugeTake x.gaugeUnit.toNat known)

/-- CULVERT_ERROR: a host read (2), a device read (3) or a host write (4) failed (14 R612). -/
def State.culvertError (s : State) (c code done : Nat) : State :=
  match (s.culvert c).active with
  | some x =>
    let fits := (code == 2 && x.dir.toNat == 0) || code == 3 || (code == 4 && x.dir.toNat == 1)
    if !fits || done > x.length.toNat then s else (s.culvertPart x done).culvertFail c code done
  | none => s

/-- CULVERT_ABORT_COMPLETE: the responses outstanding have returned (14 R610, R611). -/
def State.culvertAbortEnd (s : State) (c done : Nat) : State :=
  match (s.culvert c).active with
  | some x =>
    if !(s.culvert c).aborting || done > x.length.toNat then s
    else
      let s1 := (s.culvertPart x done).when x.gaugeEn (fun t => t.modGauge x.gaugeUnit.toNat (fun g => { g with culvert := none }))
      (s1.modCulvert c (fun y => { y with active := none, aborting := false, aborted := true, done := BitVec.ofNat 32 done })).interrupt (12 + c)
  | none => s

/-- A channel's transfer stops where it is: the part already moved stays, and a Gauge unit it fed is let go (02 R65; 14 R611). -/
def State.culvertHalt (s : State) (c : Nat) : State :=
  match (s.culvert c).active with
  | some x =>
    let n := s.free
    (n.2.culvertPart x (n.1 % (x.length.toNat + 1))).when x.gaugeEn (fun u => u.modGauge x.gaugeUnit.toNat (fun g => { g with culvert := none }))
  | none => s

/-- The channel is fenced: no other host channel may take its work, which stops as an abort stops it (01 R20; 14 R611; log
entry 152). -/
def State.culvertFence (s : State) (c : Nat) : State :=
  match (s.culvert c).active with
  | some x =>
    let n := s.free
    let done := n.1 % (x.length.toNat + 1)
    let s1 := (n.2.culvertPart x done).when x.gaugeEn (fun u => u.modGauge x.gaugeUnit.toNat (fun g => { g with culvert := none }))
    (s1.modCulvert c (fun y => { y with active := none, armed := false, aborting := false, aborted := true, done := BitVec.ofNat 32 done })).interrupt (12 + c)
  | none => s.modCulvert c (fun y => { y with armed := false })

/-- Every transfer of the host channels is aborted and their registers reset (02 R65). -/
def State.culvertReset (s : State) : State :=
  { s.each (List.range 8) State.culvertHalt with culverts := List.replicate 8 CulvertSt.reset }

/-! ### The control bus (14 R613 to R617) -/

/-- REMAP_SET: it can only be written from 0 to 1 (14 R614). -/
def State.remapSet (s : State) : State := { s with remap := true }

/-- Targets of the control bus (14 R613). -/
inductive BusTarget where
  | bootRom | sram | gatePage | mram | flash | unitRegisters (reach : Nat) | frameStore | default
deriving DecidableEq, Repr

/-- The target that an address names; REMAP says where the boot ROM stands (14 R613). -/
def busTarget (remap : Bool) (a : Nat) : BusTarget :=
  if a < 0x10000 then (if remap then .sram else .bootRom)
  else if 0x0F000000 ≤ a && a < 0x0F010000 then (if remap then .bootRom else .default)
  else if 0x10000000 ≤ a && a < 0x10800000 then .sram
  else if 0x20000000 ≤ a && a < 0x20010000 then .gatePage
  else if 0x28000000 ≤ a && a < 0x28800000 then .mram
  else if 0x30000000 ≤ a && a < 0x38000000 then .flash
  else if 0x40000000 ≤ a && a < 0x80000000 then .unitRegisters ((a - 0x40000000) / 0x10000000)
  else if 0x1000000000 ≤ a && a < 0x1000000000 + 192 * 1073741824 then .frameStore
  else .default

/-- An access that receives an error response: to the default target, a write to the boot ROM or the flash window, or an access to a unit
register, which the command names as reserved (14 R615; log entry 170). -/
def busError (remap : Bool) (q : BusRequest) : Bool :=
  match busTarget remap q.address with
  | .default | .unitRegisters _ => true
  | .bootRom | .flash => q.write
  | .sram | .gatePage | .mram | .frameStore => false

/-- QoS value that the firmware gives a requester (14 R617). -/
def firmwareQos (k : BusRequester) : Nat :=
  match k with | .alwaysOn => 15 | .gatePage => 12 | .housekeeping => 10 | .landing => 8 | .culvert => 6 | .control => 4

/-- QoS at which a target port serves a request: 15 once it has waited more than 4 us (14 R617). -/
def busQos (now : Nat) (q : BusRequest) : Nat := if now > q.atNs + 4000 then 15 else firmwareQos q.kind

/-- A request is held back: an earlier one of its requester and identifier is still outstanding, at another target or at its own, whose
responses keep the issue order (14 R616). -/
def busHeld (earlier : List BusRequest) (q : BusRequest) : Bool := earlier.any (fun p => p.requester == q.requester && p.id == q.id)

/-- The request that a port serves next: the highest value first, the oldest of equal ones (14 R616, R617). -/
def busPick (now : Nat) (l : List BusRequest) : Option BusRequest :=
  (l.zipIdx.filter (fun e => !busHeld (l.take e.2) e.1)).foldl (fun (a : Option BusRequest) e =>
    match a with | some b => if busQos now b < busQos now e.1 then some e.1 else some b | none => some e.1) none

/-- A request gets its response; an error response is counted and recorded, and the requester takes a precise error (14 R615, R626). -/
def State.busAnswer (s : State) (q : BusRequest) : State :=
  if busError s.remap q then
    (s.count cntBusDefault 0 1).event { code := 0x0124, noun := 0x01, data := le 1 q.requester ++ le 7 0 ++ le 8 q.address }
  else s

/-- The outstanding requests get their responses, in the order of the ports; `fuel` bounds them (14 R616, R617). -/
def State.busServe : Nat → State → State
  | 0, s => s
  | fuel + 1, s =>
    match busPick s.nowNs s.busReqs with
    | none => s
    | some q => State.busServe fuel (({ s with busReqs := s.busReqs.erase q } : State).busAnswer q)

/-- BUS_DEFAULT_ACCESS: a request is issued, and the bus answers what is outstanding (14 R615 to R617). -/
def State.busDefault (s : State) (q : BusRequest) : State :=
  State.busServe (s.busReqs.length + 1) { s with busReqs := s.busReqs ++ [{ q with atNs := s.nowNs }] }

end Sys2Proof.Machine
end

