-- ==== Sys2Proof/Machine/Modes.lean ====
section
/-! DEFINITION. Power, resets, Boot, Training and the mode transitions (01 R18 to R22, R44 to R57, R729; 02 R65, R123;
16 R668, R681 to R684; 17 R700 to R712). -/
namespace Sys2Proof.Machine

/-! ### What a mode change carries over -/

/-- What remains when the fast domains lose power: the always-on domain, NVM, MRAM, the fuses, the frame store, the counters, the
event log and the pins; everything else is at its reset value (01 R41, R50; 02 R65, R123; 16 R668, R672, R673). -/
def State.wiped (s : State) : State :=
  { State.reset with
    time := s.time, freeCtr := s.freeCtr, out := s.out, pins := s.pins, mode := s.mode, fused := s.fused, repair := s.repair,
    hg := { s.hg with cfg := TimebaseCfg.reset }, domains := s.domains, counters := s.counters, alarms := s.alarms, events := s.events,
    storm := s.storm, saved := s.saved, svc := s.svc, jtag := s.jtag, pending := s.pending, remap := s.remap, dramStacks := s.dramStacks,
    rmem := s.rmem, dram := s.dram, capStamps := s.capStamps,
    cal := { s.cal with recal := none, toolNs := 0 },
    thermal := { s.thermal with
      cfg := ThermalCfg.reset, shedW := 0, shedEst := 0, grace := none, enforcing := false, step := 0,
      mhz16 := Thermal.reset.mhz16, stepping := false, lowered := Thermal.reset.lowered, bfStop := false, decStop := [] },
    image := s.image.rested }

/-- A mode is reached: MODE_STATUS, stk_mode_changed, the mode event and its interrupt (01 R52, R54, R55; 02 R93). -/
def State.arrive (s : State) (m : Mode) : State :=
  let b := if m = .throttled then s.runMode else m
  let s1 := { s with mode := { s.mode with current := m, base := b, target := m, busy := false, changedS := s.nowS
                                           sticky := s.mode.sticky ||| (if m = Mode.throttled then 3 else 1) } }
  (s1.event { code := 0x0301, noun := 0x03, always := true, data := le 1 m.code ++ le 1 b.code }).interrupt 6

/-! ### Power and Dormant (01 R50, R51; 17 R700 to R704) -/

/-- A shutdown record awaits its acknowledgement (15 R644). -/
def State.unacked (s : State) : Nat := (s.thermal.records.filter (fun r => !r.acked)).length

/-- What a die counts for its thresholds: its sensors that have not failed, or 105 C when all six have failed (15 R630). -/
def dieReadings (xs : List SensorSt) (n : Nat) : List (Nat × Int) :=
  let ks := (List.range 6).map (6 * n + ·)
  let live := ks.filter (fun k => !(xs.getD k SensorSt.reset).failed)
  if live.isEmpty then [(6 * n, 840)] else live.map (fun k => (k, (xs.getD k SensorSt.reset).temp))

/-- The readings that take part in the thresholds, with their sensors (15 R628, R630). -/
def State.readings (s : State) (xs : List SensorSt) : List (Nat × Int) :=
  ((List.range 4).filter (reachFitted s.fused.part)).flatMap (dieReadings xs)

/-- After a shutdown, Boot is held until every record is acknowledged and every sensor that takes part reads below 105 C, which a die whose
sensors have all failed never does (01 R51; 15 R630, R643). -/
def State.bootBlocked (s : State) : Bool :=
  s.mode.blocked && (s.unacked != 0 || (s.readings s.thermal.sensors).any (fun e => decide (e.2 ≥ 840)))

/-- Boot has been asked for: the transition is accepted and runs, MAIN_PWR_EN rises, and Boot begins 1 ms after PWR_OK is high
(01 R52, R54; 17 R700, R702; 15 R643). -/
def State.tryBoot (s : State) : State :=
  if s.mode.current = .dormant && s.mode.asked && s.pins.aonResetN && !s.pins.mainPwrEn && !s.bootBlocked then
    { s with pins := { s.pins with mainPwrEn := true, pwrTimer := some s.nowNs },
             mode := { s.mode with target := .boot, busy := true, bootAt := if s.pins.pwrOk then some (s.nowNs + 1000000) else none } }
  else s

/-- Dormant is entered: the fast domains are off, outputs stop without a loss action, and the frame store keeps its keep region
(01 R44, R50; 09 R398; 14 R601; 17 R700). -/
def State.enterDormant (s : State) : State :=
  let s1 := (s.hgSleep.arrive .dormant).wiped
  State.memMode
    { s1 with pins := { s1.pins with mainPwrEn := false, pwrTimer := none }
              mode := { s1.mode with asked := false, bootAt := none, restartDue := false } } .dormant

/-- Fallow is entered (01 R44, R49, R50; 14 R600; 17 R700). -/
def State.enterFallow (s : State) : State :=
  let s1 := (s.hgSleep.arrive .fallow).wiped
  State.memMode
    { s1 with pins := { s1.pins with mainPwrEn := false, dramPwrEn := false, pwrTimer := none }
              mode := { s1.mode with asked := false, bootAt := none, restartDue := false } } .fallow

/-- Boot begins, with its cause (01 R27, R44, R54; 02 R65, R102, R116; 16 R681; 17 R700, R702). -/
def State.enterBoot (s : State) (cause : Nat) : State :=
  let s1 := (s.hgSleep.arrive .boot).wiped
  { s1 with
    fused := { s1.fused with fwVersion := Fused.reset.fwVersion, protocol := Fused.reset.protocol },
    pins := { s1.pins with mainPwrEn := true, dramPwrEn := true, pwrTimer := none },
    mode := { s1.mode with swapsDeferred := [], bootCause := cause, bootNext := 1, bootForced := false, asked := false, bootAt := none, blocked := false, restartDue := false },
    domains := s1.domains.mapIdx (fun d x =>
      if d = 0 then { x with shadowBad := false, rebuilt := false, armed := false, decided := false, snap := none }
      else { DomainSt.reset with frame := x.frame, hiLatch := x.hiLatch }),
    counters := [], alarms := [], events := Events.reset, storm := StormSt.reset,
    ints := { Ints.reset with cause := if s.unacked = 0 then 0 else 0x800000#32 },
    image := { s1.image with burned := if s1.image.burnPending then max s1.image.burned s1.image.active.rollback else s1.image.burned
                             burnPending := false } }

/-- AON_RESET_ASSERT: the always-on domain is reset; NVM, MRAM and the fuses remain (17 R700, R704). -/
def State.aonAssert (s : State) : State :=
  { State.reset with
    freeCtr := s.freeCtr, out := s.out, pending := s.pending, fused := s.fused,
    pins := { s.pins with aonResetN := false, mainPwrEn := false, dramPwrEn := false, pwrTimer := none, ppsUntil := 0 },
    mode := { ModeSt.reset with fallowMark := s.mode.fallowMark, firstBoot := s.mode.firstBoot
                                sticky := if s.unacked = 0 then 0 else 0x20 },
    repair := { s.repair with fenced := [], generation := Repair.reset.generation },
    dramStacks := s.dramStacks.map (fun _ => { StackSt.reset with power := .unpowered }),
    saved := s.saved, cal := { s.cal with recal := none, toolNs := 0 },
    thermal := { Thermal.reset with records := s.thermal.records, recSeq := s.thermal.recSeq },
    image := { s.image.rested with lastPut := 0, inbandNs := 0, inbandCount := 0 } }

/-- AON_RESET_RELEASE: Dormant, device time 0:0, DRAM_PWR_EN high (01 R50; 09 R399; 17 R700, R704, R708). -/
def State.aonRelease (s : State) : State :=
  if s.pins.aonResetN then s
  else
    { s with pins := { s.pins with aonResetN := true, dramPwrEn := true }, time := 0
             dramStacks := s.dramStacks.map (fun _ => StackSt.reset) }

/-- Dormant is entered because a reset or a loss of power forces it; the next Boot records the cause (01 R50, R54; 17 R703). -/
def State.forceDormant (s : State) (cause : Nat) (forced : Bool) : State :=
  let s1 := { s with mode := { s.mode with bootNext := if s.mode.bootForced then s.mode.bootNext else cause
                                           bootForced := s.mode.bootForced || forced } }
  s1.enterDormant

/-- SYS_RESET_ASSERT (01 R50; 14 R614; 17 R700). -/
def State.sysAssert (s : State) : State :=
  let s1 := { s with pins := { s.pins with sysResetN := false }, remap := false }
  match s.mode.current with
  | .fallow => s1
  | .dormant =>
    { s1 with pins := { s1.pins with mainPwrEn := false, pwrTimer := none }
              mode := { s1.mode with asked := false, bootAt := none, target := .dormant, busy := false
                                     bootNext := if s.mode.bootForced || s.mode.bootNext = 0 then s.mode.bootNext else 1 } }
  | _ => s1.forceDormant 1 false

/-- SYS_RESET_RELEASE: BOOT_SEL is latched, and Boot is asked for (15 R643; 17 R702, R706). -/
def State.sysRelease (s : State) (bootSel : Nat) : State :=
  if !s.pins.aonResetN then s
  else
    let s1 := { s with pins := { s.pins with sysResetN := true }, mode := { s.mode with bootSel := bootSel % 4 } }
    if s.mode.current = .dormant then State.tryBoot { s1 with mode := { s1.mode with asked := true } } else s1

/-- PWR_OK_RISE (01 R56; 17 R702). -/
def State.pwrRise (s : State) : State :=
  if s.pins.pwrOk then s
  else
    let s1 := { s with pins := { s.pins with pwrOk := true } }
    if s.mode.current = .dormant && s.pins.mainPwrEn then { s1 with mode := { s1.mode with bootAt := some (s.nowNs + 1000000) } } else s1

/-- PWR_OK_FALL: outside Dormant and Fallow it acts as an assertion of SYS_RESET_N, and the next Boot reports cause 1
(01 R56; 17 R703). -/
def State.pwrFall (s : State) : State :=
  let s1 := { s with pins := { s.pins with pwrOk := false } }
  if s.mode.current.fast then State.forceDormant { s1 with remap := false } 1 true
  else { s1 with mode := { s1.mode with bootAt := none } }

/-- PWR_OK_TIMEOUT: PWR_OK has not risen within 1 s of MAIN_PWR_EN (17 R702). -/
def State.pwrTimeout (s : State) : State :=
  match s.pins.pwrTimer with
  | some t =>
    if s.mode.current = .dormant && !s.pins.pwrOk then
      let s1 := s.advanceTo (t + 1000000000)
      { s1 with pins := { s1.pins with mainPwrEn := false, pwrTimer := none }
                mode := { s1.mode with asked := false, bootAt := none, target := .dormant, busy := false } }
    else s
  | none => s

/-- BOOT_START (17 R702; 01 R54; 15 R643). -/
def State.bootStart (s : State) : State :=
  match s.mode.bootAt with
  | some t =>
    if s.mode.current = .dormant && s.pins.mainPwrEn && s.pins.pwrOk && !s.bootBlocked then (s.advanceTo t).enterBoot s.mode.bootNext else s
  | none => s

/-- A wake over the service port: SET on Mode naming Boot, in Dormant (15 R643; 17 R712). -/
def State.wake (s : State) : Answer × State :=
  if !s.pins.sysResetN then (fail stState 0x00F0, s)
  else if s.bootBlocked then (fail stState 0x00D2, s)
  else
    let s1 := { s with mode := { s.mode with asked := true, bootNext := if s.mode.bootForced then s.mode.bootNext else 6 } }
    (okWith [], s1.tryBoot)

/-! ### Boot, Recovery and Fallow (01 R49, R50; 17 R706) -/

/-- BOOT_TO_FALLOW: the Fallow mark overrides every BOOT_SEL code (01 R49). -/
def State.bootToFallow (s : State) : State := if s.mode.current = .boot && s.mode.fallowMark then s.enterFallow else s

/-- BOOT_TO_RECOVERY: BOOT_SEL selects it, or no slot verifies (01 R50). -/
def State.bootToRecovery (s : State) : State := if s.mode.current = .boot && !s.mode.fallowMark then s.arrive .recovery else s

/-! ### Training (01 R18 to R22, R50, R729; 16 R668, R682, R687) -/

/-- The settings groups saved in NVM are restored (16 R668). -/
def State.restoreSaved (s : State) : State :=
  let v := s.saved
  let s1 := { s with levee := { s.levee with cfg := v.plane.getD s.levee.cfg }
                     hg := { s.hg with cfg := v.timebase.getD s.hg.cfg }
                     thermal := { s.thermal with cfg := v.thermal.getD s.thermal.cfg }
                     image := { s.image with idleH := v.update.getD s.image.idleH } }
  let s2 := s1.each v.ports (fun t e => t.modPort e.1 (fun x => { x with cfg := e.2.1, ptp := e.2.2 }))
  s2.each v.refs (fun t e => t.modRef e.1 (fun x => { x with cfg := e.2 }))

/-- The groups that a new image resets leave NVM (16 R682). -/
def Saved.without (v : Saved) (groups : List Nat) : Saved :=
  { plane := if groups.contains 1 then none else v.plane
    ports := if groups.contains 2 then [] else v.ports
    refs := if groups.contains 3 then [] else v.refs
    timebase := if groups.contains 3 then none else v.timebase
    thermal := if groups.contains 4 then none else v.thermal
    update := if groups.contains 5 then none else v.update }

/-- Training is entered: the identity registers and the settings groups are loaded, the calibration set is read, converted first
where the new image brings a converter, and the frame store is active (02 R68, R69; 14 R600; 16 R668, R682, R687). -/
def State.enterTraining (s : State) : State :=
  let a := s.image.active
  let s1 := { s with fused := { s.fused with fwVersion := a.fwVersion, protocol := BitVec.ofNat 16 (a.minor + 256 * a.major) }
                     saved := s.saved.without s.image.actGroups
                     image := { s.image with actGroups := [] } }
  let s2 := s1.restoreSaved
  let s3 := if s.mode.firstBoot && a.entries.any (fun e => e.1 == 6) then s2.calConvert a.calFormat else s2
  let s4 := (s3.arrive .training).calLoad.memMode .training
  if s.runMode.ranked == Mode.training.ranked then s4 else s4.rejudgeRefs true

/-- BOOT_IMAGE_VERIFIED (01 R50; 17 R706). -/
def State.imageVerified (s : State) : State :=
  if s.mode.current = .boot && !s.mode.fallowMark && (s.mode.bootSel = 0 || s.mode.bootSel = 3) then s.enterTraining else s

/-- Spares that repair a kind of element (01 R729). -/
def sparesFor (x : Spares) : Element → Nat
  | .clausePlot => x.clause | .sramRow => x.sram | .dramRow => x.dram | .pcsFec => x.pcs | .other => 0

/-- One spare of a kind taken (01 R729). -/
def takeSpare (x : Spares) : Element → Spares
  | .clausePlot => { x with clause := x.clause - 1 } | .sramRow => { x with sram := x.sram - 1 }
  | .dramRow => { x with dram := x.dram - 1 } | .pcsFec => { x with pcs := x.pcs - 1 } | .other => x

/-- Repair of one pending element: a spare of its reach, else its unit is retired; a row group of the frame store without a spare
is marked retired and goes on serving (01 R21, R22, R729). -/
def State.repairOne (s : State) (p : Pend) : State :=
  let gone := match p.holder with | some u => s.repair.retired.contains u | none => false
  if gone then s
  else if sparesFor (s.repair.spares.getD p.reach Spares.reset) p.elem != 0 then
    { s with repair := { s.repair with spares := lmod s.repair.spares p.reach (fun x => takeSpare x p.elem)
                                       repairedS := lmod s.repair.repairedS p.reach (fun _ => s.nowS) }
             mode := { s.mode with sticky := s.mode.sticky ||| 4 } }
  else match p.holder with
    | some u =>
      { s with repair := { s.repair with retired := u :: s.repair.retired, repairedS := lmod s.repair.repairedS p.reach (fun _ => s.nowS) }
               mode := { s.mode with sticky := s.mode.sticky ||| 8 } }
    | none => { s with repair := { s.repair with cellsRetired := s.repair.cellsRetired + 1 } }

/-- The inventory has changed: its generation, event 0x0103 and interrupt source 21 (02 R118, R119). -/
def State.inventoryChanged (s : State) : State :=
  let s1 := { s with repair := { s.repair with generation := s.repair.generation + 1 } }
  (s1.event { code := 0x0103, noun := 0x01, always := true, data := le 4 s1.repair.generation.toNat }).interrupt 21

/-- An element that the self-test finds failing: its unit is one that the module has, and its reach is fitted (01 R18, R21). -/
def State.finds (s : State) (f : Finding) : Bool :=
  reachFitted s.fused.part f.reach && f.reach < 4 && (match f.holder with | some u => s.present u.1 u.2 && unitReach u.1 u.2 == f.reach | none => f.elem == .dramRow)

/-- Self-test and repair of Training: what was fenced in service, and what the self-test finds (01 R18, R19, R21; 10 R462). -/
def State.repairAll (s : State) (found : List Finding) : State :=
  let new := (found.filter s.finds).map (fun f => ({ holder := f.holder, elem := f.elem, reach := f.reach, row := 0 } : Pend))
  let s1 := s.each (s.repair.pending ++ new) State.repairOne
  let s2 := { s1 with repair := { s1.repair with pending := [], fenced := [] } }
  let s3 := s2.each [0, 1, 2, 3] (fun t n => t.clearAlarm almRepairPending n)
  let s4 := if s2.repair.fenced = s.repair.fenced && s2.repair.retired = s.repair.retired && s2.repair.spares = s.repair.spares then s3
    else s3.inventoryChanged
  if s2.repair.retired = s.repair.retired then s4 else s4.each [0, 1, 2, 3] (fun t n => t.judgeLoad n true)

/-- TRAINING_COMPLETE: Standby (01 R50; 14 R600). -/
def State.trainingDone (s : State) (found : List Finding) : State :=
  if s.mode.current = .training && !s.mode.firstBoot then
    let s1 := ((s.repairAll found).arrive .standby).memMode .standby
    s1.rejudgeRefs false
  else s

/-- FIRST_BOOT_PASS: first_boot reads 1, and the old slot is to be erased (16 R683). -/
def State.firstPass (s : State) : State :=
  if s.mode.current = .training && s.mode.firstBoot then
    let s1 := { s with mode := { s.mode with firstBoot := false }, image := { s.image with firstBoot := 1, failCode := 0, erasing := true } }
    s1.event { code := 0x4414, noun := 0x44, index := 1, data := le 4 s.image.active.fwVersion.toNat }
  else s

/-- FIRST_BOOT_FAIL: the Fallow mark is set, and Fallow is entered (01 R49, R50; 16 R683). -/
def State.firstFail (s : State) (code : Nat) : State :=
  if s.mode.current = .training && s.mode.firstBoot then
    State.enterFallow { s with mode := { s.mode with firstBoot := false, fallowMark := true }
                               image := { s.image with firstBoot := 2, failCode := code % 65536 } }
  else s

/-- First flash offset of a slot (16 R664). -/
def slotBase (slot : Nat) : Nat := if slot = 0 then 0x0100000 else 0x4000000

/-- Flash offset of the 64 KiB sector of a piece (16 R664, R672). -/
def pieceSector (slot p : Nat) : Nat := slotBase slot + 65536 * p

/-- The sectors of a slot are erased (16 R664, R683). -/
def ImageSt.eraseSlot (x : ImageSt) (slot : Nat) : ImageSt :=
  { x with flash := x.flash.filter (fun e => !(slotBase slot ≤ e.1 && e.1 < slotBase slot + 60 * 1048576)) }

/-- OLD_SLOT_ERASED: the slot is free for a new image, and the boot record no longer holds its digest (16 R683). -/
def State.slotErased (s : State) : State :=
  if s.image.erasing && s.mode.current.rings && s.mode.current != .training && s.mode.current != .recovery then
    State.event { s with image := { s.image.eraseSlot (1 - s.image.activeSlot) with
                                      erasing := false, otherCopy := s.image.otherCopy.map (fun r => { r with digest := [] }) } }
      { code := 0x4415, noun := 0x44, index := 0, data := le 1 (1 - s.image.activeSlot) }
  else s

/-! ### Between Standby and the service modes (01 R44, R47, R50, R121; 10 R463; 12 R524; 13 R552; 08 R731) -/

/-- A source loses its input: its signal, the audio of a Rill input, and the hold of a single-homed network source
(04 R189; 05 R233; 08 R370). -/
def State.inputLost (s : State) (k missing : Nat) (got : Picture) : State :=
  let s1 := s.signalLoss k missing got
  let s2 := if isRill k && (s.src (s.rillLead k)).signal then s1.each ((List.range 16).map (fun i => 16 * k + i)) State.loseAin else s1
  if isNet k && (s.src k).signal then s2.holdLost k else s2

/-- What stops on leaving the service modes (01 R44, R50; 06 R260; 08 R731; 09 R383). -/
def State.leaveService (s : State) : State :=
  let s0 := if s.lanes.any (fun e => e.2.tooled || e.2.eye.isSome) then s.toolStopped else s
  let s1 := s0.leveeStop
  let s2 := s1.each (s1.ports.map (·.1)) (fun t p => ((if t.linkOn p then t.dropLink p 0 else t).modPort p (fun x => { x with state := .disabled })))
  let s3 := s2.each (s2.lanes.map (·.1)) (fun t k => (t.quietLane k).modLane k (fun l => { l with tools := LaneTools.reset, chkLock := false }))
  let s4 := s3.each [0, 5, 6, 7] State.refLost
  let s5 := s4.each ((s4.srcs.filter (fun e => e.2.signal && (isExternal e.1 || isCodec e.1))).map (·.1)) (fun t k => t.inputLost k (t.linesLeft k t.nowNs) [])
  let s6 := s5.each ((s5.ains.filter (fun e => e.2.state != .noSignal)).map (·.1)) State.loseAin
  (s6.clauseStop (fun _ => true)).preemptAll true

/-- What starts on entering the service modes (06 R260, R279; 07 R306; 08 R731). -/
def State.enterService (s : State) : State :=
  let s1 := s.leveeStart
  let s2 := s1.each ((s1.ports.filter (fun e => e.2.cfg.enable == 1)).map (·.1)) State.startPort
  s2.each (((List.range 128).map (128 + ·)).filter s2.laneOn) State.startLane

/-- Held back-fill jobs may start again (12 R524). -/
def State.unholdJobs (s : State) : State :=
  let s1 := s.each ((s.jobs.filter (fun e => e.2.held)).map (·.1)) (fun t h => t.modJob h (fun j => { j with held := false }))
  s1.each [0, 1, 2, 3] (fun t n => t.riderServe n 0)

/-- The units that the new mode keeps asleep stop, and those it wakes may start; `old` is the mode left. A decode output that feeds a
destination stops at that destination's next boundary (01 R45, R47). -/
def State.rouse (old s : State) : State :=
  let s1 := if old.coresRun && !s.coresRun then
      (s.preemptAll true).stopDecode else s
  if s1.coresRun && !old.coresRun then s1.unholdJobs else s1

/-- The first domain 0 boundary at least 1 ms after an instant (01 R25, R32). -/
def nextHousekeeping (ns : Nat) : Nat := cdiv (ns + 1000000) 10000000 * 10000000

/-- MODE_TRANSITION_COMPLETE (01 R47, R50, R52; 09 R386; 14 R600). -/
def State.transitionDone (s : State) : State :=
  let m := s.mode.target
  if !s.mode.busy || m = .boot then s
  else if m = .dormant then s.enterDormant
  else if m = .training then s.enterTraining
  else if m = .standby then
    let s1 := State.judgeHeads ((s.leaveService.arrive .standby).memMode .standby)
    if s.mode.current.ranked then s1.rejudgeRefs false else s1
  else if s.mode.current = .standby then
    let s1 := ((s.memMode m).arrive m).enterService
    let s2 := State.rouse s s1
    if m.ranked then s2.rejudgeRefs true else s2
  else State.rouse s ((s.advanceTo (nextHousekeeping s.mode.transitionAt)).arrive m)

/-- The transitions that SET on Mode may ask for (01 R50, R53). -/
def modeListed (a b : Mode) : Bool :=
  match a with
  | .dormant => b == .boot
  | .standby => b == .gateway || b == .router || b == .encode || b == .full || b == .test || b == .training || b == .dormant
  | .gateway | .router | .encode | .full => a != b && (b == .standby || b == .gateway || b == .router || b == .encode || b == .full)
  | .test => b == .standby
  | _ => false

/-- Routed ports counting the routes committed and not yet landed (01 R45, R47; 03 R133). -/
def State.routedCount (s : State) : Nat :=
  let dsts := ((s.routed ++ (s.committedRoutes.filter (fun r => r.2.1 != 0xFFFF)).map (·.1)).eraseDups)
  (dsts.map (fun d => max 1 (s.dst d).fmt.gang)).foldl (· + ·) 0

/-- SET on Mode (01 R50 to R53; 17 R712). -/
def specSetMode : ReqSpec where
  verb := 0x02
  noun := 0x03
  sel := some 0x01
  len := (· == 4)
  form := fun b => zeroFrom b 2 2
  body := fun c s =>
    match modeOf (u8 c.block 1) with
    | none => (fail stRange 0x0003, s)
    | some m =>
      if s.mode.busy then (fail stBusy 0x0005, s)
      else if s.mode.current = .dormant && m = .boot then s.wake
      else if !modeListed s.mode.current m then (fail stState 0x0004, s)
      else if m = .encode && s.routedCount > 256 then (fail stCapacity 0x0015, s)
      else (okWith [], { s with mode := { s.mode with target := m, busy := true, transitionAt := s.nowNs } })

/-- Block of QUERY on Mode (01 R53). -/
def modeBlock (s : State) : Bytes :=
  layout 16 [(0, le 1 s.mode.current.code), (1, le 1 s.mode.base.code), (2, le 1 s.mode.target.code),
    (3, le 1 (bitsOf [s.mode.busy, s.mode.fallowMark, s.thermal.enforcing])), (4, le 1 s.mode.bootCause), (5, le 1 s.mode.bootSel),
    (8, le 8 s.mode.changedS)]

/-- QUERY on Mode (01 R53). -/
def specQueryMode : ReqSpec where
  verb := 0x01
  noun := 0x03
  sel := some 0x01
  len := (· == 1)
  body := fun _ s => (okWith (modeBlock s), s)

/-! ### Restarts and resets of the host link (01 R54; 02 R65, R123; 17 R707) -/

/-- DEVICE_RESTART, after RESET on Device (02 R123). -/
def State.deviceRestart (s : State) : State := if s.mode.restartDue && s.mode.current.fast then s.enterBoot 4 else s

/-- WATCHDOG_EXPIRY (01 R54). -/
def State.watchdog (s : State) : State := if s.mode.current.fast then s.enterBoot 3 else s

/-- RESET on Device (02 R123). -/
def specResetDevice : ReqSpec where
  verb := 0x12
  noun := 0x01
  body := fun _ s => (okWith [], { s with mode := { s.mode with restartDue := true } })

/-- What the host owns goes to its reset value: rings disabled, the interrupt tree, open stage sets, subscriptions (02 R65). -/
def State.hostCleared (s : State) : State :=
  { s with rings := s.rings.map (fun (g : Ring) => { g with enable := false, active := false, bells := [] })
           ints := Ints.reset, openSets := [], events := { s.events with subs := [] } }

/-- A delivery to host memory is disabled (02 R65). -/
def DelivSt.hostStopped (x : DelivSt) : DelivSt :=
  { x with cfg := { x.cfg with enable := 0 }, waiting := false, running := false, discarding := false }

/-- A function-level or hot reset (02 R65). -/
def State.pcieReset (s : State) : State :=
  if !s.mode.current.fast then s
  else
    let s2 := s.hostCleared.culvertReset
    let s3 := s2.each ((s2.delivs.filter (fun e => e.2.cfg.kind == 3 && e.2.cfg.enable == 1)).map (·.1)) (fun t d => t.modDeliv d DelivSt.hostStopped)
    s3.each ((s3.jobs.filter (fun e => e.2.used)).map (·.1)) (fun t h => t.jobEnd h 2 stIntegrity true)

end Sys2Proof.Machine
end

