-- ==== Sys2Proof/Machine/Spillway.lean ====
section
/-! DEFINITION. Spillway: sensors, thresholds, the shed request, enforcement, shutdown and its record, power telemetry and the
thermal settings (spec/15_health_events.md, R628 to R649). -/
namespace Sys2Proof.Machine

/-! ### Sensors (15 R628 to R630) -/

/-- A sensor of the state. -/
def State.sensor (s : State) (k : Nat) : SensorSt := s.thermal.sensors.getD k SensorSt.reset

/-- Sensors of the fitted reaches (15 R628). -/
def State.fittedSensors (s : State) : List Nat := (List.range 24).filter (fun k => reachFitted s.fused.part (k / 6))

/-- The hottest of some readings, of the lowest sensor among equals. -/
def hottestOf (l : List (Nat × Int)) : Nat × Int :=
  match l with
  | [] => (0, 0)
  | e :: t => t.foldl (fun a b => if b.2 > a.2 then b else a) e

/-- One sensor after a sample: readings repeated for 60 s while another sensor of the die changes by more than 2 C, or out of
range, mean that it has failed (15 R630). -/
def sensorStep (now : Nat) (old : SensorSt) (v : Int) (die : List Int) : SensorSt :=
  let out : Bool := v < -320 || v > 1200
  if old.sampled && old.temp = v then
    let moved := ((die.zip old.base).map (fun (e : Int × Int) => ((e.1 - e.2).natAbs : Int))).foldl max old.others
    { old with others := moved, failed := out || (now ≥ old.sameNs + 60000000000 && moved > 16) }
  else { temp := v, failed := out, sameNs := now, others := 0, sampled := true, base := die }

/-- The sensors after a sample: each reading with the trim of the calibration set (15 R629; 16 R685, R687). -/
def State.sampled (s : State) (raw : List Int) : List SensorSt :=
  let vs := (List.range 24).map (fun k => if reachFitted s.fused.part (k / 6) then raw.getD k 0 + s.sensorTrim k else 0)
  (List.range 24).map (fun k =>
    if reachFitted s.fused.part (k / 6) then sensorStep s.nowNs (s.sensor k) (vs.getD k 0) ((vs.drop (k / 6 * 6)).take 6) else SensorSt.reset)

/-! ### Sticky bits and the shed request (15 R633, R649) -/

/-- A bit of THERM_STICKY sets and raises interrupt source 8 (15 R649). -/
def State.thermSticky (s : State) (i : Nat) : State :=
  State.interrupt { s with thermal := { s.thermal with sticky := s.thermal.sticky ||| BitVec.ofNat 5 (2 ^ i) } } 8

/-- Watts to shed: (tj_max - 100 C) / psi rounded up to a multiple of 5 W (15 R633). -/
def shedWatts (tj : Int) (psi : Nat) : Nat := 5 * cdiv (125 * (tj - 800).toNat) (5 * psi)

/-- The throttle threshold trips: the shed request, and the grace time starts (15 R631 to R635, R647). -/
def State.throttleTrip (s : State) : State :=
  let c := s.thermal.cfg
  let w := shedWatts s.thermal.tjMax c.psi
  let s1 := ((s.raise almTjThrottle 0).count cntThrottleTrips 0 1).thermSticky 1
  let s2 := { s1 with thermal := { s1.thermal with throttle := true, cfgTrip := c, shedW := w, grace := some (s.nowNs + c.graceMs * 1000000) } }
  s2.event { code := 0x4612, noun := 0x46, always := true,
             data := le 2 w ++ le 2 c.graceMs ++ leInt 2 s.thermal.tjMax ++ le 1 s.thermal.hottest }

/-- The warning threshold trips or is released (15 R631). -/
def State.warning (s : State) (on : Bool) : State :=
  let s1 := { s with thermal := { s.thermal with warn := on } }
  let s2 := if on then (s1.raise almTjWarning 0).thermSticky 0 else s1.clearAlarm almTjWarning 0
  s2.event { code := 0x4610, noun := 0x46, data := le 1 (if on then 1 else 0) ++ [0] ++ leInt 2 s.thermal.tjMax }

/-! ### Shutdown (15 R641, R642) -/

/-- Hottest reading of each die, zero for an absent one (15 R642). -/
def State.dieMax (s : State) : List Int :=
  (List.range 4).map (fun n => if reachFitted s.fused.part n then (hottestOf (dieReadings s.thermal.sensors n)).2 else 0)

/-- Bytes 0 to 59 of a shutdown record (15 R642). -/
def recordBody (r : ShutRec) : Bytes :=
  layout 60 ([(0, le 4 0x44534853), (4, le 4 r.seq), (8, le 8 (r.timeNs / 1000000000)), (16, le 4 (r.timeNs % 1000000000)),
    (20, le 1 r.sensor), (21, le 1 r.mode), (22, le 1 r.base), (23, le 1 (bitsOf [r.acked, r.enforced])), (24, leInt 2 r.temp)] ++
    (List.range 4).map (fun n => (26 + 2 * n, leInt 2 (r.dieMax.getD n 0))) ++
    [(34, le 2 r.power), (36, le 2 r.shedW), (38, le 2 r.step)])

/-- The 64 bytes of a shutdown record (15 R642). -/
def shutBytes (r : ShutRec) : Bytes := recordBody r ++ le 4 (crc32c (recordBody r))

/-- The shutdown threshold trips: the record, and Dormant (15 R641, R642, R644; 01 R50, R51, R55). -/
def State.shutdown (s : State) (sensor : Nat) (temp : Int) : State :=
  let t := s.thermal
  let n := t.recSeq + 1
  let r : ShutRec := { seq := n, timeNs := s.nowNs, sensor := sensor, mode := s.mode.current.code, base := s.mode.base.code, acked := false
                       enforced := t.enforcing, temp := temp, dieMax := s.dieMax, power := t.powerDw, shedW := t.shedW, step := t.step }
  let s1 := { s with thermal := { t with shutdown := true, recSeq := n, records := (r :: t.records).take 16 }
                     mode := { s.mode with sticky := s.mode.sticky ||| 0x20 } }
  let s2 := ((s1.count cntShutdowns 0 1).interrupt 23).forceDormant 2 true
  { s2 with mode := { s2.mode with blocked := true } }

/-! ### The sample (15 R629 to R632) -/

/-- Alarms of the sensors that fail or read again (15 R630). -/
def State.judgeSensors (old s : State) : State :=
  s.each s.fittedSensors (fun t k =>
    if (t.sensor k).failed && !(old.sensor k).failed then (t.raise almSensorFail k).thermSticky 3
    else if !(t.sensor k).failed then t.clearAlarm almSensorFail k else t)

/-- The sensor that reads at or above a point in two samples running, the hottest of them (15 R631). -/
def twice (old new : List (Nat × Int)) (point : Int) : Option (Nat × Int) :=
  let l := new.filter (fun e => e.2 ≥ point && old.any (fun o => o.1 == e.1 && o.2 ≥ point))
  if l.isEmpty then none else some (hottestOf l)

/-- What a sample makes of the thresholds: each trips on two readings in a row; the shutdown threshold ends the run, and in
Dormant a sample may let Boot begin (15 R631, R632, R643). -/
def State.judgeHeat (s : State) (before now : List (Nat × Int)) : State :=
  if !s.mode.current.fast then s.tryBoot
  else
    let s1 := if !s.thermal.warn && (twice before now 760).isSome then s.warning true else s
    let s2 := if !s1.thermal.throttle && (twice before now 840).isSome then s1.throttleTrip else s1
    match twice before now 920 with
    | some e => s2.shutdown e.1 e.2
    | none => s2

/-- SENSOR_SAMPLE: the readings of the 24 sensors, in 0.125 C before their trims (15 R629 to R633, R641). -/
def State.sensorSample (s : State) (raw : List Int) : State :=
  let xs := s.sampled raw
  let before := (s.readings s.thermal.sensors).filter (fun e => (s.sensor e.1).sampled)
  let now := s.readings xs
  let top := hottestOf now
  let below := (s.thermal.below.zip [720, 800, 840]).map (fun (e : Option Nat × Int) =>
    if top.2 < e.2 then some (e.1.getD s.nowNs) else none)
  let s0 := { s with thermal := { s.thermal with sensors := xs, hottest := top.1, tjMax := top.2, below := below } }
  (State.judgeSensors s s0).judgeHeat before now

/-! ### Enforcement (15 R636 to R640) -/

/-- An enforcement step with its saving in mW is reported (15 R636, R662). -/
def State.shedStep (s : State) (step saving unit reach : Nat) : State :=
  let t := s.thermal
  let s1 := { s with thermal := { t with shedEst := t.shedEst + saving, step := max t.step step } }
  s1.event { code := 0x4613, noun := 0x46, always := true,
             data := le 1 step ++ [0] ++ le 2 (s1.thermal.shedEst / 1000) ++ le 2 unit ++ le 1 reach }

/-- The watts to shed are covered (15 R636). -/
def State.shedDone (s : State) : Bool := s.thermal.shedEst ≥ s.thermal.shedW * 1000

/-- Step 1: back-fill stops (12 R524; 15 R636). -/
def State.shedBackfill (s : State) : State :=
  let n := (s.cores.filter (fun e => e.2.busy.any (fun it => !it.live))).length
  let s1 := s.preemptAll true
  State.shedStep { s1 with thermal := { s1.thermal with bfStop := true } } 1 (3500 * n) 0 0

/-- Renditions that step 2 may stop, in descending index (15 R636). -/
def State.shedRends (s : State) : List Nat :=
  ((s.rends.filter (fun e => e.2.cfg.enable == 1 && e.2.cfg.flags.getLsbD 2 && e.2.running && !e.2.shed && !e.2.shedMark)).map (·.1)).reverse

/-- Step 2 for one rendition: it stops at its next refresh boundary (10 R455, R462; 15 R636). -/
def State.shedRend (s : State) (r : Nat) : State :=
  (s.modRend r (fun x => { x with shedMark := true })).shedStep 2 (3500 * s.rendLoad r / coreLoad) r (r / 64)

/-- Decode contexts that step 3 may disable, in descending index (15 R636, R647). -/
def State.shedCtxs (s : State) : List Nat :=
  ((s.ctxs.filter (fun e => e.2.cfg.enable == 1 && s.coresRun && bitmapBit s.thermal.cfgTrip.decShed e.1 &&
    !s.thermal.decStop.contains e.1)).map (·.1)).reverse

/-- Step 3 for one context: it is disabled at the next domain 0 boundary (15 R636). -/
def State.shedCtx (s : State) (x : Nat) : State :=
  let s1 := { s with thermal := { s.thermal with decStop := s.thermal.decStop ++ [x] } }
  s1.shedStep 3 (1500 * decodeLoad (s.ctx x).cfg / decodeCore) x (x / 64)

/-- A Clause clock in 1/16 MHz is at or above the live floor of a reach (15 R638). -/
def State.clockOk (s : State) (n c : Nat) : Bool :=
  s.reachLoad n * 32000 ≤ c * s.clauseCores n * coreLoad &&
  (s.stemsIn n).all (fun k =>
    (s.stemLoad k * (partLcm / max 1 (s.stemBands k)) + s.longestCode k) * 100 * 32000 ≤
      c * (((s.stem k).cfg.latencyQ * s.feedFields k * 25 - 2) * partLcm * coreLoad))

/-- The live floor of a reach in 1/16 MHz (15 R638). -/
def State.liveFloor (s : State) (n : Nat) : Nat :=
  (((List.range 17).map (fun j => 16000 + 1000 * j)).find? (s.clockOk n)).getD 32000

/-- Clause clock of a reach in 1/16 MHz. -/
def State.clock (s : State) (n : Nat) : Nat := s.thermal.mhz16.getD n 32000

/-- Step 4 for one reach: its clock is lowered by 62.5 MHz; the saving is measured, and free (15 R636). -/
def State.lowerClock (s : State) (n : Nat) : State :=
  if reachFitted s.fused.part n && s.clock n ≥ s.liveFloor n + 1000 then
    let f := s.free
    let s1 := { f.2 with thermal := { s.thermal with mhz16 := lmod s.thermal.mhz16 n (· - 1000)
                                                     lowered := lmod s.thermal.lowered n (fun _ => s.nowNs) } }
    s1.shedStep 4 f.1 ((s.clock n - 1000) / 16) n
  else s

/-- Units of a list shed one after the other until the watts are covered. -/
def State.shedUnits (s : State) (l : List Nat) (f : State → Nat → State) : State :=
  s.each l (fun t x => if t.shedDone then t else f t x)

/-- The first pass of enforcement: steps are taken in order until the watts are covered (15 R636). -/
def State.shedPass (s : State) : State :=
  let s1 := if s.shedDone then s else s.shedBackfill
  let s2 := s1.shedUnits s1.shedRends State.shedRend
  let s3 := s2.shedUnits s2.shedCtxs State.shedCtx
  if s3.shedDone then s3
  else { s3 with thermal := { s3.thermal with stepping := true, lowered := [s.nowNs, s.nowNs, s.nowNs, s.nowNs] } }

/-- Enforcement begins: Throttled is entered (01 R48, R50, R55; 15 R636). -/
def State.enforce (s : State) : State :=
  let s1 := ((s.arrive .throttled).count cntShedEnforced 0 1).thermSticky 2
  let s2 := { s1 with thermal := { s1.thermal with
    enforcing := true, step := 0, shedEst := 0, shedW := shedWatts s1.thermal.tjMax s1.thermal.cfgTrip.psi
    evalNs := s1.nowNs, evalTj := s1.thermal.tjMax } }
  s2.shedPass

/-- Modes in which Spillway enforces (01 R48; 15 R632). -/
def Mode.enforced (m : Mode) : Bool := m == .full || m == .router || m == .encode

/-- The grace time is over: a service transition that is in hand completes first, and enforcement begins while the throttle
threshold stands (15 R634, R636). -/
def State.graceOver (s : State) : State :=
  let s1 := { s with thermal := { s.thermal with grace := none } }
  let s2 := if s1.mode.busy && s1.mode.current.service && s1.mode.target.enforced then s1.transitionDone else s1
  if s2.thermal.throttle && s2.mode.current.enforced && !s2.mode.busy then s2.enforce else s2

/-- GRACE_EXPIRY (15 R632, R636, R660). -/
def State.graceExpiry (s : State) : State :=
  match s.thermal.grace with
  | none => s
  | some t => (s.advanceTo t).graceOver

/-- The re-evaluation of an enforcement a second after the last one: a fall of 0.5 C holds, else one more step is
taken, the clock step of each reach last (15 R636, R637). -/
def State.reevaluateNow (s : State) : State :=
  let hold : Bool := s.thermal.evalTj - s.thermal.tjMax ≥ 4
  let s2 := { s with thermal := { s.thermal with evalNs := s.nowNs, evalTj := s.thermal.tjMax } }
  if hold then s2
  else if !s2.thermal.bfStop then s2.shedBackfill
  else match s2.shedRends, s2.shedCtxs with
    | r :: _, _ => s2.shedRend r
    | [], x :: _ => s2.shedCtx x
    | [], [] => s2.each [0, 1, 2, 3] State.lowerClock

/-- ENFORCEMENT_REEVALUATE: the next unit or clock step of the order, when the temperature has not fallen (15 R637). -/
def State.reevaluate (s : State) : State :=
  if !(s.thermal.enforcing && s.thermal.throttle) then s
  else (s.advanceTo (s.thermal.evalNs + 1000000000)).reevaluateNow

/-- CLAUSE_CLOCK_STEP: 100 ms after the last step of the reach, while the watts are not covered (15 R636). -/
def State.clockStep (s : State) (n : Nat) : State :=
  if s.thermal.enforcing && s.thermal.stepping && !s.shedDone && n < 4 then
    (s.advanceTo (s.thermal.lowered.getD n 0 + 100000000)).lowerClock n
  else s

/-- The throttle threshold is released: enforcement ends, clocks and back-fill return, and the base mode follows at the next
domain 0 boundary (15 R631, R634, R639). -/
def State.throttleRelease (s : State) : State :=
  let t := s.thermal
  let s1 := { s with thermal := { t with throttle := false, grace := none, enforcing := false, bfStop := false, step := 0, shedW := 0, shedEst := 0
                                         mhz16 := Thermal.reset.mhz16, stepping := false, lowered := Thermal.reset.lowered } }
  let s2 := s1.clearAlarm almTjThrottle 0
  let s3 := if t.grace.isSome || t.enforcing then s2.event { code := 0x4614, noun := 0x46, data := le 1 t.step } else s2
  if t.bfStop then s3.unholdJobs else s3

/-- A threshold is released: warning, throttle or shutdown (15 R631, R643). -/
def State.thresholdCleared (s : State) (level : Nat) : State :=
  match level with
  | 0 => s.warning false
  | 1 => s.throttleRelease
  | _ => State.tryBoot { s with thermal := { s.thermal with shutdown := false } }

/-- A threshold stands: warning, throttle or shutdown. -/
def Thermal.tripped (t : Thermal) (level : Nat) : Bool :=
  match level with
  | 0 => t.warn
  | 1 => t.throttle
  | _ => t.shutdown

/-- THRESHOLD_RELEASE: 0 warning, 1 throttle, 2 shutdown; every sensor has read below the release point for 1 s (15 R631). -/
def State.thresholdRelease (s : State) (level : Nat) : State :=
  match s.thermal.below.getD level none with
  | none => s
  | some b => if s.thermal.tripped level then (s.advanceTo (b + 1000000000)).thresholdCleared level else s

/-- What a domain 0 boundary does for Spillway: contexts of step 3 are disabled, and the base mode returns after enforcement
(01 R50; 15 R636, R639). -/
def State.thermalBoundary (s : State) : State :=
  let s1 := s.each s.thermal.decStop (fun t x => t.landCtx x { (t.ctx x).cfg with enable := 0 })
  let s2 := { s1 with thermal := { s1.thermal with decStop := [] } }
  if s2.mode.current = .throttled && !s2.thermal.enforcing then s2.arrive s2.mode.base else s2

/-! ### Power (15 R646) -/

/-- POWER_SAMPLE: the rail groups in 0.1 W (15 R646, R648). -/
def State.powerSample (s : State) (rails : List Nat) : State :=
  let r := (rails ++ List.replicate 8 0).take 8
  let w := r.foldl (· + ·) 0
  let h := (w :: s.thermal.powerHist).take 1000
  let s1 := { s with thermal := { s.thermal with rails := r, powerDw := w, powerHist := h } }
  let isOver : Bool := h.length = 1000 && h.foldl (· + ·) 0 > 9000 * 1000
  if isOver && !s1.stands almPowerLimit 0 then
    ((s1.raise almPowerLimit 0).thermSticky 4).event { code := 0x4615, noun := 0x46, data := le 2 w }
  else if isOver then s1 else s1.clearAlarm almPowerLimit 0

/-! ### Requests on Thermal (15 R644, R645, R647, R648) -/

/-- ACK on Thermal (15 R644). -/
def specAckThermal : ReqSpec where
  verb := 0x11
  noun := 0x46
  len := (· == 4)
  body := fun c s =>
    match s.thermal.records.find? (fun r => !r.acked) with
    | none => (fail stRange 0x00D1, s)
    | some r =>
      if u32 c.block 0 != r.seq % 4294967296 then (fail stRange 0x00D1, s)
      else
        let s1 := { s with thermal := { s.thermal with records := s.thermal.records.map (fun (x : ShutRec) => { x with acked := true }) }
                           mode := { s.mode with sticky := s.mode.sticky &&& 0x5F }
                           ints := { s.ints with cause := s.ints.cause &&& 0xFF7FFFFF#32 } }
        (okWith [], s1.tryBoot)

/-- Block of READ on Thermal with selector 0x10 (15 R645). -/
def recordBlock (s : State) : Bytes := le 4 s.thermal.records.length ++ le 4 0 ++ s.thermal.records.flatMap shutBytes

/-- READ on Thermal, selector 0x10 (15 R645). -/
def specReadThermalRecords : ReqSpec where
  verb := 0x13
  noun := 0x46
  sel := some 0x10
  len := (· == 1)
  body := fun _ s => (okWith (recordBlock s), s)

/-- SET on Thermal, selector 0x01 (15 R647; 16 R668). -/
def specSetThermal : ReqSpec where
  verb := 0x02
  noun := 0x46
  sel := some 0x01
  len := (· == 40)
  form := fun b => u8 b 1 == 0 && zeroFrom b 6 2
  body := fun c s =>
    let n := decThermalCfg c.block
    if !(within n.graceMs 500 10000 && within n.psi 10 500) then (fail stRange 0x00D0, s)
    else (okWith [], { s with thermal := { s.thermal with cfg := n }, saved := { s.saved with thermal := some n } })

/-- THERM_STATUS (15 R649). -/
def State.thermStatus (s : State) : Nat :=
  let t := s.thermal
  (if t.shutdown then 3 else if t.throttle then 2 else if t.warn then 1 else 0) + (if t.grace.isSome then 4 else 0) +
    (if t.enforcing then 8 else 0) + 16 * t.step + 256 * t.hottest

/-- Block of QUERY on Thermal with selector 0x01; a Clause clock between two MHz reads the lower one (15 R648; log entry 171). -/
def thermalBlock (s : State) : Bytes :=
  le 4 s.thermStatus ++ le 2 s.thermal.powerDw ++ le 2 s.thermal.shedW ++ (s.thermal.rails.map (le 2)).flatten ++
    ((List.range 24).map (fun k => if !reachFitted s.fused.part (k / 6) || (s.sensor k).failed then le 2 0x8000 else leInt 2 (s.sensor k).temp)).flatten ++
    ((List.range 4).map (fun n => le 2 (if reachFitted s.fused.part n then s.clock n / 16 else 0))).flatten ++ le 4 s.unacked

/-- QUERY on Thermal, selector 0x01 (15 R648). -/
def specQueryThermal : ReqSpec where
  verb := 0x01
  noun := 0x46
  sel := some 0x01
  len := (· == 1)
  body := fun _ s => (okWith (thermalBlock s), s)

end Sys2Proof.Machine
end

