-- ==== Sys2Proof/Machine/Update.lean ====
section
/-! DEFINITION. Field update: the staging session, its pieces, and activation (16 R664 to R684, R691). -/
namespace Sys2Proof.Machine

/-! ### Sources and the lease (16 R669, R670, R674) -/

/-- The source of a request (16 R669). -/
def sourceOf (r : Request) : ImgSource :=
  match r.carrier with
  | .ring _ => { kind := 1, tag := r.owner, udp := 0, address := [] }
  | .service => { kind := 2, tag := 0, udp := 0, address := [] }
  | .inband x => { kind := 3, tag := 0, udp := x.udp, address := x.address }

/-- The holder block of a session's sources (16 R670). -/
def holderBlock (l : List ImgSource) : Bytes :=
  match l with
  | [] => List.replicate 24 0
  | x :: _ => layout 24 [(0, le 1 x.kind), (1, le 1 x.tag), (2, le 2 x.udp), (4, padTo 16 x.address)]

/-- The sources of the session change; a change of holder is reported (16 R674). -/
def State.setSources (s : State) (l : List ImgSource) : State :=
  let s1 := { s with image := { s.image with sources := l } }
  if l.head? = s.image.sources.head? then s1
  else State.event { s1 with image := { s1.image with lastPut := s.nowNs } }
    { code := 0x4410, noun := 0x44, data := (holderBlock l).take 16 }

/-- The staging slot: the one that is not active (16 R665). -/
def ImageSt.staging (x : ImageSt) : Nat := 1 - x.activeSlot

/-- No image is staged: its session's data are gone (16 R670, R681). -/
def ImageSt.unstaged (x : ImageSt) : ImageSt :=
  { x with digest := [], totalLen := 0, pieces := 0, manifest := none, stored := [], buffer := [], passed := [], foreign := false }

/-- The staging slot is cleared (16 R670, R674). -/
def State.clearStaging (s : State) : State := { s with image := (s.image.eraseSlot s.image.staging).unstaged }

/-- A new image begins (16 R670). -/
def State.newImage (s : State) (total pieces : Nat) (digest : Bytes) : State :=
  let t := s.clearStaging
  { t with image := { t.image with digest := digest, totalLen := total, pieces := pieces } }

/-- Every piece is stored (16 R672, R678). -/
def ImageSt.complete (x : ImageSt) : Bool := x.pieces != 0 && x.stored.length == x.pieces

/-- State of the staging slot (16 R678). -/
def ImageSt.code (x : ImageSt) : Nat :=
  if x.erasing then 5 else if x.activating then 4 else if x.digest.isEmpty then 0 else if x.complete then 3
  else if x.manifest.isNone then 1 else 2

/-- A unit named of noun Image: its lock (16 R679). -/
def imageNamed (s : State) (c : Call) : List Named := if c.r.index = 0 then [{ lock := s.image.lock }] else []

/-! ### OPEN, PUT, CLOSE (16 R670 to R674, R679) -/

/-- Reply payload of OPEN (16 R670). -/
def openReply (s : State) (flags : Nat) : Bytes := le 2 s.image.stored.length ++ le 2 flags ++ holderBlock s.image.sources

/-- OPEN on Image (16 R670, R679); another image cannot begin while the staged one is being activated (log entry 172). -/
def specOpenImage : ReqSpec where
  verb := 0x0C
  noun := 0x44
  len := (· == 56)
  form := fun b => zeroFrom b 6 2
  named := imageNamed
  body := fun c s =>
    let x := s.image
    let total := u32 c.block 0
    let n := u16 c.block 4
    let digest := slice c.block 8 48
    let me := sourceOf c.r
    let same := digest == x.digest
    if !within n 2 960 || !within total ((n - 1) * 65536 + 1) (n * 65536) then (fail stRange 0x00E0, s)
    else if x.erasing then (fail stBusy 0x00E3, s)
    else match x.sources with
      | [] =>
        if same then
          let t := s.setSources [me]
          (okWith (openReply t 2), t)
        else if x.activating then (fail stBusy 0, s)
        else
          let t := (s.newImage total n digest).setSources [me]
          (okWith (openReply t 0), t)
      | h :: rest =>
        if h = me then
          if same then (okWith (openReply s 2), s)
          else if x.activating then (fail stBusy 0, s)
          else
            let t := (s.newImage total n digest).setSources [me]
            (okWith (openReply t 0), t)
        else if !same then ({ status := stBusy, reason := 0x00E1, payload := openReply s 0 }, s)
        else if rest.contains me then (okWith (openReply s 3), s)
        else if rest.length ≥ 3 then (fail stCapacity 0x00E6, s)
        else
          let t := s.setSources (x.sources ++ [me])
          (okWith (openReply t 3), t)

/-- Bytes of a piece (16 R666). -/
def pieceLen (pieces total p : Nat) : Nat := if p + 1 < pieces then 65536 else total - 65536 * (pieces - 1)

/-- A manifest read from piece 0 (16 R666). -/
def manifestOf (b : Bytes) : Manifest :=
  let e := u8 b 26
  let g := u8 b 27
  let at1 := 32 + 48 * e
  let at2 := at1 + 4 * g
  { flags := BitVec.ofNat 16 (u16 b 6), totalLen := u32 b 12, pieces := u16 b 16, rollback := u16 b 18, fwVersion := BitVec.ofNat 32 (u32 b 20)
    major := u8 b 24, minor := u8 b 25
    entries := (List.range e).map (fun i =>
      (u8 b (32 + 48 * i), u32 b (36 + 48 * i), u32 b (40 + 48 * i), slice b (48 + 48 * i) 32))
    groups := (List.range g).map (fun i => (u16 b (at1 + 4 * i), u16 b (at1 + 4 * i + 2)))
    calFormat := u16 b 28, partMask := BitVec.ofNat 8 (u8 b 30)
    digests := (List.range (u16 b 16 - 1)).map (fun i => slice b (at2 + 32 * i) 32) }

/-- Length of a manifest with its signature (16 R666). -/
def manifestLen (b : Bytes) : Nat := 32 + 48 * u8 b 26 + 4 * u8 b 27 + 32 * (u16 b 16 - 1) + 96

/-- The manifest keeps the layout of R666 and the kinds of R667. -/
def manifestLaid (b : Bytes) : Bool :=
  let kinds := (manifestOf b).entries.map (·.1)
  u32 b 0 == 0x54464E4D && u16 b 4 == 1 && u16 b 6 ≤ 1 && within (u16 b 16) 2 960 && u16 b 18 ≤ 255 && within (u8 b 26) 5 6 &&
    u8 b 27 ≤ 8 && u8 b 30 ≤ 15 && u8 b 31 ≤ 3 && u32 b 8 == manifestLen b && u32 b 8 ≤ 65536 &&
    [1, 2, 3, 4, 5].all (fun k => kinds.count k == 1) && kinds.all (fun k => within k 1 6)

/-- Piece 0 passes: its layout, the session's digest, the signature, the fields of OPEN, and zeros behind it (16 R672). -/
def ImageSt.manifestPasses (x : ImageSt) (b : Bytes) : Bool :=
  let n := u32 b 8
  manifestLaid b && Config.sha384 (b.take n) == x.digest && !Config.keyRevoked (u8 b 31) && Config.ecdsaOk (u8 b 31) (Config.sha384 (b.take (n - 96))) (slice b (n - 96) 96) &&
    u16 b 16 == x.pieces && u32 b 12 == x.totalLen && zeroFrom b n (65536 - n)

/-- A piece all of whose bytes have arrived passes its check (16 R672). -/
def ImageSt.passes (x : ImageSt) (p : Nat) (b : Bytes) : Bool :=
  if p = 0 then x.manifestPasses b
  else match x.manifest with
    | some m => Config.sha256 b == m.digests.getD (p - 1) []
    | none => false

/-- A fragment put into a piece: bytes that arrive twice keep the later value (16 R672). -/
def PieceBuf.put (p : PieceBuf) (off : Nat) (b : Bytes) (ns : Nat) : PieceBuf :=
  { p with data := (b.zipIdx off).foldl (fun t e => tset (fun _ => none) t e.2 (some e.1)) p.data, lastNs := ns }

/-- A fragment of a piece that is not stored: it joins the assembly buffer, and a piece it completes is checked (16 R672). -/
def State.putFragment (s : State) (p off : Nat) (b : Bytes) : Answer × State :=
  let x := s.image
  let old := (x.buffer.find? (fun e => e.piece == p)).getD { PieceBuf.reset with piece := p }
  let new := old.put off b s.nowNs
  let rest := x.buffer.filter (fun e => e.piece != p)
  let bytes := new.data.filterMap (·.2)
  if bytes.length < pieceLen x.pieces x.totalLen p then (okWith [], { s with image := { x with buffer := new :: rest } })
  else if !x.passes p bytes then
    (fail stIntegrity 0x00EA, State.count { s with image := { x with buffer := rest } } cntPieceIntegrity 0 1)
  else
    (okWith [], { s with image := { x with buffer := rest, passed := (p, bytes) :: x.passed
                                           manifest := if p = 0 then some (manifestOf bytes) else x.manifest } })

/-- PUT on Image (16 R671, R672, R679). -/
def specPutImage : ReqSpec where
  verb := 0x0D
  noun := 0x44
  len := (· ≥ 16)
  form := fun b => zeroFrom b 2 2 && zeroFrom b 12 4
  named := imageNamed
  body := fun c s =>
    let x := s.image
    let p := u16 c.block 0
    let off := u32 c.block 4
    let n := u32 c.block 8
    let me := sourceOf c.r
    let noted := if x.sources.head? = some me then { s with image := { x with lastPut := s.nowNs } } else s
    if c.block.length != 16 + n then (fail stRange 0x00E0, s)
    else if !s.pins.holdupOk then (fail stRefused 0x00E4, s)
    else if x.erasing then (fail stBusy 0x00E3, s)
    else if !x.sources.contains me then (fail stState 0x00E2, s)
    else if p ≥ x.pieces || off + n > pieceLen x.pieces x.totalLen p then (fail stRange 0x00E0, s)
    else if p != 0 && x.manifest.isNone then (fail stState 0x00E2, s)
    else if x.stored.contains p || x.passed.any (fun e => e.1 == p) then
      ({ status := stOk, reason := 1 }, noted.count cntPieceDuplicate 0 1)
    else if n = 0 then (okWith [], noted)
    else if x.buffer.length + x.passed.length ≥ 16 && !x.buffer.any (fun e => e.piece == p) then (fail stRefused 0x00E5, s)
    else State.putFragment { noted with image := { noted.image with foreign := x.foreign || me.kind != 2 } } p off (c.block.drop 16)

/-- The holder leaves, or another source (16 R674). -/
def State.leaveSession (s : State) (x : ImgSource) : State := s.setSources (s.image.sources.filter (· != x))

/-- CLOSE on Image (16 R674, R679, R691). -/
def specCloseImage : ReqSpec where
  verb := 0x0E
  noun := 0x44
  len := (· == 4)
  form := fun b => u8 b 0 ≤ 1 && zeroFrom b 1 3
  named := imageNamed
  body := fun c s =>
    let x := s.image
    let me := sourceOf c.r
    let holder := x.sources.head?
    if x.erasing then (fail stBusy 0x00E3, s)
    else if u8 c.block 0 = 1 then
      if !(holder = some me || me.kind = 2 || c.owner = 0xFF) then (fail stLocked (match holder with | some h => h.tag | none => 0), s)
      else if x.activating then (fail stBusy 0, s)
      else (okWith [], s.clearStaging.setSources [])
    else if !x.sources.contains me then (fail stState 0x00E2, s)
    else (okWith [], s.leaveSession me)

/-- PIECE_WRITE_COMPLETE: the piece is in its sector of the staging slot (16 R672). -/
def State.pieceWritten (s : State) (p : Nat) : State :=
  match s.image.passed.find? (fun e => e.1 == p) with
  | none => s
  | some e =>
    let x := s.image
    let s1 := { s with image := { x with passed := x.passed.filter (fun y => y.1 != p), stored := (p :: x.stored).mergeSort (· ≤ ·)
                                         flash := tset (fun _ => []) x.flash (pieceSector x.staging p) e.2 } }
    let s2 := s1.event { code := 0x4411, noun := 0x44, data := le 2 p ++ le 2 s1.image.stored.length }
    if s1.image.complete then s2.event { code := 0x4412, noun := 0x44, data := le 2 (match x.manifest with | some m => m.rollback | none => 0) } else s2

/-- PIECE_STALE: a piece that has received no fragment for 60 s is discarded (16 R672). -/
def State.pieceStale (s : State) (p : Nat) : State :=
  match s.image.buffer.find? (fun e => e.piece == p) with
  | none => s
  | some e =>
    let s1 := s.advanceTo (e.lastNs + 60000000000)
    { s1 with image := { s1.image with buffer := s1.image.buffer.filter (fun y => y.piece != p) } }

/-- LEASE_IDLE_EXPIRY: the holder has sent no PUT for lease_idle_h (16 R674, R691). -/
def State.leaseIdle (s : State) : State :=
  match s.image.sources with
  | [] => s
  | h :: _ =>
    let s1 := s.advanceTo (s.image.lastPut + s.image.idleH * 3600000000000)
    State.count (State.leaveSession { s1 with image := { s1.image with buffer := [] } } h) cntLeaseExpired 0 1

/-! ### Activation (16 R679 to R684) -/

/-- Settings groups that a new image resets (16 R682). -/
def groupsReset (old new : Manifest) : List Nat :=
  let v := fun (m : Manifest) (g : Nat) => (m.groups.find? (fun e => e.1 == g)).map (·.2)
  [1, 2, 3, 4, 5].filter (fun g => (v old g).isNone || (v new g).isNone || v old g != v new g)

/-- Bit of part_mask for a variant (16 R666). -/
def partBit : Variant → Nat
  | .glc8180 => 0 | .glc8150 => 1 | .glc8140 => 2 | .glc8120 => 3

/-- ACTIVATE on Image (16 R679 to R682, R684). -/
def specActivateImage : ReqSpec where
  verb := 0x0F
  noun := 0x44
  len := (· == 48)
  named := imageNamed
  body := fun c s =>
    let x := s.image
    let m := x.manifest.getD Manifest.reset
    if !s.pins.holdupOk then (fail stRefused 0x00E4, s)
    else if s.pins.tally != 0 then (fail stRefused 0x00E7, s)
    else if x.erasing then (fail stState 0x00E2, s)
    else if !x.complete then (fail stState 0x00E2, s)
    else if c.block != x.digest then (fail stInvalid 0x00E9, s)
    else if !m.partMask.getLsbD (partBit s.fused.part) || m.major != x.active.major then (fail stInvalid 0x00E9, s)
    else if m.flags.getLsbD 0 != (s.mode.current == .fallow) then (fail stInvalid 0x00E9, s)
    else if m.calFormat != u16 (s.calBytes 4 2) 0 && !m.entries.any (fun e => e.1 == 6) then (fail stInvalid 0x00E9, s)
    else if m.rollback < x.burned then (fail stRefused 0x00E8, s)
    else if x.activating then (fail stBusy 0, s)
    else
      let l := groupsReset x.active m
      (okWith (le 2 l.length ++ le 2 0 ++ l.flatMap (le 2)), { s with image := { x with activating := true } })

/-- The bytes of an entry as the staging slot holds them; its offset counts from the first byte of piece 1 (16 R666, R681). -/
def ImageSt.entryBytes (x : ImageSt) (offset length : Nat) : Bytes :=
  slice ((List.range (x.pieces - 1)).flatMap (fun i => tget (fun _ => []) x.flash (pieceSector x.staging (i + 1)))) offset length

/-- Every entry read back from the flash has its digest (16 R681). -/
def ImageSt.entriesSound (x : ImageSt) (m : Manifest) : Bool :=
  m.entries.all (fun e => Config.sha256 (x.entryBytes e.2.1 e.2.2.1) == e.2.2.2)

/-- An activation ends before its commit point (16 R681). -/
def State.activationEnds (s : State) (status : Nat) : State :=
  State.event { s with image := { s.image with activating := false } } { code := 0x4413, noun := 0x44, data := le 2 status }

/-- The commit point: the boot record names the staging slot; the fuses are burned; the session is over. Only a recovery image whose
every piece came through the service port clears the Fallow mark (01 R49; 16 R665, R681, R684). -/
def State.committed (s : State) (m : Manifest) : State :=
  let x := s.image
  let y := { x with
    activeSlot := 1 - x.activeSlot, activeDigest := x.digest, active := m, recordSeq := x.recordSeq + 1, recordCopy := 1 - x.recordCopy
    burnPending := false, burned := max x.burned m.rollback, actGroups := groupsReset x.active m, activating := false, firstBoot := 0
    otherCopy := some { seq := x.recordSeq, slot := x.activeSlot, digest := x.activeDigest }, failCode := 0, sources := [] }
  let z := { s.mode with firstBoot := true, fallowMark := s.mode.fallowMark && !(m.flags.getLsbD 0 && m.rollback ≥ x.burned && !x.foreign) }
  { s with image := y.unstaged, mode := z }

/-- ACTIVATION_COMMIT: step 2 of R681, in which the entries' digests are checked against what the flash gives back (`entriesOk`: the
flash gives back what was stored), and the steps after it (16 R681, R691). -/
def State.activationCommit (s : State) (entriesOk : Bool) : State :=
  match s.image.activating, s.image.manifest with
  | true, some m =>
    if !entriesOk || !s.image.entriesSound m then s.activationEnds stIntegrity
    else if !s.pins.holdupOk || s.pins.tally != 0 then s.activationEnds stRefused
    else (s.committed m).enterBoot (if s.mode.current = .recovery || s.mode.current = .fallow then 5 else 4)
  | _, _ => s

/-! ### Settings, lock and query (16 R669, R677, R678; 02 R114 to R116) -/

/-- SET on Image, selector 0x01 (16 R677, R668). -/
def specSetImage : ReqSpec where
  verb := 0x02
  noun := 0x44
  sel := some 0x01
  len := (· == 4)
  form := fun b => u8 b 1 == 0
  named := imageNamed
  body := fun c s =>
    let h := u16 c.block 2
    if !within h 1 720 then (fail stRange 0x00E0, s)
    else (okWith [], { s with image := { s.image with idleH := h }, saved := { s.saved with update := some h } })

/-- LOCK on Image: it takes effect when the reply is sent (02 R116). -/
def specLockImage : ReqSpec where
  verb := 0x08
  noun := 0x44
  named := imageNamed
  body := fun c s =>
    if c.owner = 0 then (fail stInvalid 0, s)
    else if s.image.lock != 0 && s.image.lock != c.owner && c.owner != 0xFF then (fail stLocked s.image.lock, s)
    else (okWith [], { s with image := { s.image with lock := c.owner } })

/-- UNLOCK on Image (02 R114, R116). -/
def specUnlockImage : ReqSpec where
  verb := 0x09
  noun := 0x44
  named := imageNamed
  body := fun _ s => (okWith [], { s with image := { s.image with lock := 0 } })

/-- The block of QUERY on Image index 0, selector 0x01 (16 R678). -/
def stagingBlock (s : State) : Bytes :=
  let x := s.image
  layout 88 [(0, le 1 x.code), (1, le 1 x.sources.length), (2, le 2 x.pieces), (4, le 2 x.stored.length),
    (6, le 2 (match x.manifest with | some m => m.rollback | none => 0)), (8, holderBlock x.sources), (32, padTo 48 x.digest), (80, le 2 x.burned),
    (84, le 4 (if x.sources.isEmpty then 0 else (s.nowNs - x.lastPut) / 1000000000))]

/-- The answer of QUERY on Image index 1 (16 R678). -/
def activeBlock (s : State) : Bytes :=
  let x := s.image
  le 4 x.active.fwVersion.toNat ++ le 2 x.active.rollback ++ le 2 x.burned ++ le 1 x.activeSlot ++ le 1 x.firstBoot ++ le 2 x.failCode ++
    padTo 48 x.activeDigest

/-- Block of QUERY on Image with selector 0x02: the bitmap of stored pieces (16 R678). -/
def piecesBlock (s : State) : Bytes :=
  le 2 s.image.pieces ++ le 2 0 ++
    (List.range 120).map (fun j => BitVec.ofNat 8 (bitsOf ((List.range 8).map (fun k => s.image.stored.contains (8 * j + k)))))

/-- QUERY on Image (16 R678). -/
def specQueryImage : ReqSpec where
  verb := 0x01
  noun := 0x44
  len := (· ≤ 1)
  index := (· ≤ 1)
  body := fun c s =>
    if c.r.index = 1 then (if c.block.isEmpty || u8 c.block 0 = 1 then (okWith (activeBlock s), s) else (fail stInvalid 0, s))
    else if c.block.length = 1 && u8 c.block 0 = 1 then (okWith (stagingBlock s), s)
    else if c.block.length = 1 && u8 c.block 0 = 2 then (okWith (piecesBlock s), s)
    else (fail stInvalid 0, s)

end Sys2Proof.Machine
end

