-- ==== Sys2Proof/Machine/Arch.lean ====
section
/-! DEFINITION. The inventory, the reaches, the timing domains as the host sets them, fencing, and the pins
(01 R16 to R27, R56, R60, R61; 02 R118, R119; 17 R714, R723). -/
namespace Sys2Proof.Machine

/-! ### The inventory (02 R118, R119) -/

/-- A bitmap of `n` bytes whose bit k stands for unit k. -/
def bitmapOf (n : Nat) (p : Nat → Bool) : Bytes :=
  (List.range n).map (fun j => BitVec.ofNat 8 (bitsOf ((List.range 8).map (fun k => p (8 * j + k)))))

/-- The 432 bytes of bitmaps over the units of the inventory (02 R118). -/
def unitBitmaps (p : UnitKind → Nat → Bool) : Bytes :=
  bitmapOf 16 (p .flume) ++ bitmapOf 16 (p .rillIn) ++ bitmapOf 16 (p .rillOut) ++ bitmapOf 8 (p .clause) ++ bitmapOf 8 (p .decode) ++
    bitmapOf 8 (p .culvert) ++ bitmapOf 8 (p .gauge) ++ bitmapOf 144 (p .src) ++ bitmapOf 144 (p .dst) ++ bitmapOf 8 (p .head) ++
    List.replicate 56 0

/-- The four counts of a reach's spares. -/
def spareWords (x : Spares) : Bytes := le 2 x.clause ++ le 2 x.sram ++ le 2 x.dram ++ le 2 x.pcs

/-- Spares of a reach as the inventory reports them (01 R729; 02 R118). -/
def State.sparesShown (s : State) (l : List Spares) (n : Nat) : Spares :=
  let x := l.getD n Spares.reset
  if !reachFitted s.fused.part n then { clause := 0, sram := 0, dram := 0, pcs := 0 }
  else if hasCores s.fused.part then x else { x with clause := 0 }

/-- Units of a numbering that satisfy a condition. -/
def countWhere (n : Nat) (p : Nat → Bool) : Nat := ((List.range n).filter p).length

/-- Reaches fitted. -/
def State.reaches (s : State) : List Nat := (List.range 4).filter (reachFitted s.fused.part)

/-- The capability inventory (02 R118). -/
def State.inventory (s : State) : Bytes :=
  let f := s.fused
  let fenced := fun k n => s.present k n && s.isFenced k n
  layout 1024 ([(0, le 4 s.repair.generation.toNat), (4, le 2 (partCode f.part)), (6, le 1 f.stepping.toNat),
      (7, le 1 (bitsOf ((List.range 4).map (reachFitted f.part)))),
      (8, le 4 (bitsOf [s.repair.fenced.any (fun u => s.present u.1 u.2), !s.repair.retired.isEmpty]))] ++
    (List.range 4).map (fun n => (16 + 16 * n, spareWords (s.sparesShown s.repair.spares n) ++ spareWords (s.sparesShown f.made n))) ++
    [(0x50, unitBitmaps s.present), (0x200, bitmapOf 1 (fun k => k < 8 && reachFitted f.part (k / 2))), (0x204, le 4 24576),
      (0x208, le 4 (114688 * s.reaches.length)), (0x20C, le 2 (countWhere 64 s.stemPresent)), (0x20E, le 2 (countWhere 256 s.rendPresent)),
      (0x210, le 2 (countWhere 256 s.ctxPresent)), (0x212, le 2 (countWhere 64 (fun k => !s.recirc && s.present .src (1024 + k)))),
      (0x214, le 2 (countWhere 8192 s.flowPresent)), (0x216, le 2 (countWhere 8192 (fun k => s.flowPresent (8192 + k)))),
      (0x218, le 2 (countWhere 64 s.portPresent)), (0x250, unitBitmaps fenced)])

/-- QUERY on Device (02 R118). -/
def specQueryDevice : ReqSpec where
  verb := 0x01
  noun := 0x01
  indirect := true
  body := fun _ s => (okWith s.inventory, s)

/-! ### Reaches (01 R61) -/

/-- Block of QUERY on Reach with selector 0x01 (01 R61). -/
def reachBlock (s : State) (n : Nat) : Bytes :=
  let inReach := fun (k : UnitKind) (p : Nat → Bool) => (unitsWhere k (fun u => unitReach k u == n && p u)).length
  let fenced := fun (k : UnitKind) => inReach k (fun u => s.present k u && s.isFenced k u)
  layout 32 [(0, le 1 1),
    (1, le 1 (bitsOf [s.repair.fenced.any (fun u => unitReach u.1 u.2 == n && s.present u.1 u.2), s.repair.retired.any (fun u => unitReach u.1 u.2 == n),
      s.stands almRepairPending n])),
    (2, le 1 (inReach .clause (s.present .clause))), (3, le 1 (fenced .clause)), (4, le 1 (inReach .decode (s.present .decode))),
    (5, le 1 (fenced .decode)), (6, le 1 (inReach .flume (s.present .flume))),
    (7, le 1 (inReach .rillIn (s.present .rillIn) + inReach .rillOut (s.present .rillOut))),
    (8, spareWords (s.sparesShown s.repair.spares n)), (16, le 8 (s.repair.repairedS.getD n 0))]

/-- QUERY on Reach, selector 0x01 (01 R61). -/
def specQueryReach : ReqSpec where
  verb := 0x01
  noun := 0x02
  sel := some 0x01
  len := (· == 1)
  index := (· < 4)
  named := fun s c => [{ present := reachFitted s.fused.part c.r.index }]
  body := fun c s => (okWith (reachBlock s c.r.index), s)

/-! ### Domains (01 R25 to R28, R60) -/

/-- A video domain is in use (01 R26). -/
def State.domainUsed (s : State) (d : Nat) : Bool :=
  s.domainOn d && d != 0 &&
  (s.dsts.any (fun e => e.2.domain == d && e.2.src != 0xFFFF) ||
   s.committedRoutes.any (fun r => (s.dst r.1).domain == d && r.2.1 != 0xFFFF) ||
   [0, 1].any (fun h => (s.head h).domain == d && (s.head h).cfg.enable == 1) ||
   s.stems.any (fun e => e.2.cfg.enable == 1 && s.feedDomain e.1 == d) ||
   s.aouts.any (fun e => s.aoutDomain e.1 == d && (s.aoutInput e.1 != 0xFFFF || e.2.aac.profile != 0)) ||
   s.aports.any (fun e => e.2.cfg.enable == 1 && e.2.cfg.domain == d) ||
   s.trigs.any (fun e => e.2.cfg.kind == 2 && e.2.cfg.domain == d))

/-- The domain's rate and raster change at the reply (01 R25, R60; 04 R177). -/
def State.retime (s : State) (d rate raster : Nat) : State :=
  let x := s.domain d
  if rate = x.rate && raster = x.raster then s
  else if rate = x.rate then
    let n := if boundaryNs rate raster x.nextFrame > s.nowNs then x.nextFrame else x.nextFrame + 1
    (s.modDomain d (fun y => { y with raster := raster, nextFrame := n, nextNs := boundaryNs rate raster n, decided := false, snap := none })).followDomain d
  else
    let n := frameAt rate (s.nowNs + 1000000)
    let s0 := s.cancelDomain d
    let s1 := { s0 with mode := { s0.mode with swapsDeferred := s0.mode.swapsDeferred.filter (· != d) } }
    let s2 := s1.modDomain d (fun y =>
      { DomainSt.reset with frame := y.frame, hiLatch := y.hiLatch, absorbed := y.absorbed, lastStep := y.lastStep, rate := rate, raster := raster
                            nextFrame := if rate = 0 then 0 else n, nextNs := if rate = 0 then 0 else boundaryNs rate raster n })
    let s3 := (s2.followDomain d).each (s2.srcs.map (·.1)) (fun t k => t.modSrc k (fun y =>
      { y with members := y.members &&& ~~~ (BitVec.ofNat 8 (2 ^ (d - 1))), runs := lmod y.runs (d - 1) (fun _ => 0), offsets := lmod y.offsets (d - 1) (fun _ => 0) }))
    if rate != 0 || !s.recirc then s3
    else s3.each ((List.range 64).filter (fun k => (s3.dst (1024 + k)).domain == d)) (fun t k => t.loseSource (1024 + k))

/-- SET on Domain (01 R26, R60). -/
def specSetDomain : ReqSpec where
  verb := 0x02
  noun := 0x04
  sel := some 0x01
  len := (· == 4)
  form := fun b => u8 b 3 == 0
  index := fun k => within k 1 8
  body := fun c s =>
    let d := c.r.index
    let rate := u8 c.block 1
    let raster := u8 c.block 2
    if !(if rate = 0 then raster == 0 else rate ≤ 13 && rasterAllows raster rate) then (fail stRange 0x0003, s)
    else if s.domainUsed d && (rate != (s.domain d).rate || raster != (s.domain d).raster) then (fail stBusy 0x0002, s)
    else (okWith [], s.retime d rate raster)

/-- Block of QUERY on Domain with selector 0x01 (01 R60). -/
def domainBlock (s : State) (d : Nat) : Bytes :=
  let x := s.domain d
  layout 24 [(0, le 1 (if d = 0 then 0 else x.rate)), (1, le 1 (if d = 0 then 0 else x.raster)), (2, le 1 (bitsOf [s.domainRuns d, s.domainUsed d])),
    (4, le 4 ((s.parts.filter (fun p => p.domain == d)).map (fun p => p.items.length)).sum), (8, le 8 x.frame.toNat), (16, le 8 x.nextNs)]

/-- QUERY on Domain, selector 0x01 (01 R60). -/
def specQueryDomain : ReqSpec where
  verb := 0x01
  noun := 0x04
  sel := some 0x01
  len := (· == 1)
  index := (· ≤ 8)
  body := fun c s => (okWith (domainBlock s c.r.index), s)

/-! ### Fencing (01 R19) -/

/-- New work of a unit that has just been fenced stops (01 R19; 03 R173, R174; 06 R260; 10 R462, R464; 12 R507; 13 R552). A feed of a Gauge
unit ends without its event, and the work of a control core and of a converter is moved where that work is done: the renewals of the
lease stop (08 R377), and a destination takes another converter at its next boundary (03 R174; log entry 152). -/
def State.fenceWork (s : State) (k : UnitKind) (n : Nat) : State :=
  match k with
  | .clause => (s.fenceCore (n / 16) 0 n).judgeLoad (n / 16) true
  | .decode => s.fenceCore (n / 4) 1 n
  | .flume =>
    let s1 := match s.lanePort n with
      | some p => if s.linkOn p then s.dropLink p 0 else s
      | none => s
    s1.quietLane n
  | .rillIn => (s.quietLane (128 + n)).inputLost n (s.linesLeft (s.rillLead n) s.nowNs) []
  | .src => s.inputLost n (s.linesLeft (s.rillLead n) s.nowNs) []
  | .head => s.judgeHeads
  | .rillOut => s.quietLane (256 + n)
  | .culvert => if n < 8 then s.culvertFence n else s
  | .gauge => s.modGauge n (fun g => { g with feed := none, culvert := none })
  | .dst | .control | .converter => s

/-- UNIT_FENCE: a unit shows a hard fault in service; the failing element is recorded as pending repair. A further element of a
unit that is fenced already is recorded beside the first, and each takes its own spare (01 R19, R729; 02 R118). -/
def State.fence (s : State) (k : UnitKind) (n : Nat) (e : Element) : State :=
  let p : Pend := { holder := some (k, n), elem := e, reach := unitReach k n, row := 0 }
  if !(s.inService && s.present k n) then s
  else if s.isFenced k n then { s with repair := { s.repair with pending := s.repair.pending ++ [p] } }
  else
    let s1 := { s with repair := { s.repair with fenced := s.repair.fenced ++ [(k, n)], pending := s.repair.pending ++ [p] } }
    let s2 := s1.fenceWork k n
    let s3 := s2.raise almRepairPending (unitReach k n)
    State.inventoryChanged { s3 with mode := { s3.mode with sticky := s3.mode.sticky ||| 16 } }

/-! ### Pins (01 R56; 14 R602; 17 R714, R723) -/

/-- HOLDUP_OK_FALL (14 R602). -/
def State.holdupFall (s : State) : State := State.memHoldup { s with pins := { s.pins with holdupOk := false } }

/-- HOLDUP_OK_RISE (01 R56). -/
def State.holdupRise (s : State) : State := { s with pins := { s.pins with holdupOk := true } }

/-- TALLY_CHANGE: a tally input holds a new level (17 R714). -/
def State.tallyChange (s : State) (n : Nat) (level : Bool) : State :=
  if n ≥ 8 then s
  else
    let bit : BitVec 8 := BitVec.ofNat 8 (2 ^ n)
    { s with pins := { s.pins with tally := if level then s.pins.tally ||| bit else s.pins.tally &&& ~~~ bit } }

/-- IDCODE of the module (17 R723). -/
def State.idcode (s : State) : BitVec 32 := BitVec.ofNat 32 (0x10000000 + 4096 * partCode s.fused.part + 2 * 0x4E5 + 1)

/-- An instruction that drives the boundary (17 R723). -/
def drivesPins : JtagOp → Bool
  | .extest | .clamp | .highz => true
  | _ => false

/-- JTAG_INSTRUCTION: IDCODE captures the code, and SAMPLE/PRELOAD the signals at the boundary cells (17 R723; log entry 173). -/
def State.jtagRun (s : State) (ir : JtagOp) : State :=
  { s with jtag := { ir := ir, dr := if ir = .idcode then s.idcode else s.jtag.dr, cells := if ir = .sample then s.pins else s.jtag.cells
                     trstN := true } }

/-- The instruction that acts: EXTEST, CLAMP and HIGHZ behave as BYPASS unless SYS_RESET_N is asserted (17 R723). -/
def State.jtagActs (s : State) : JtagOp := if drivesPins s.jtag.ir && s.pins.sysResetN then .bypass else s.jtag.ir

/-- MAIN_PWR_EN and DRAM_PWR_EN as the lands show them: the boundary cells drive them under EXTEST and CLAMP, and nothing does under
HIGHZ (17 R700, R723). -/
def State.enablesSeen (s : State) : Option (Bool × Bool) :=
  match s.jtagActs with
  | .extest | .clamp => some (s.jtag.cells.mainPwrEn, s.jtag.cells.dramPwrEn)
  | .highz => none
  | _ => some (s.pins.mainPwrEn, s.pins.dramPwrEn)

end Sys2Proof.Machine
end

