-- ==== Sys2Proof/Machine/Staging.lean ====
section
/-! DEFINITION. Staged settings: their domains, the states against which they are validated, their scheduling, and what their
landing does (01 R29 to R39; 02 R100 to R117, R730). -/
namespace Sys2Proof.Machine

/-! ### What a setting names (01 R30; 02 R92, R104) -/

/-- What a setting sets: two settings with the same key set the same value of the same unit (02 R104). -/
def settingKey : Setting → Nat × Nat
  | .route d _ _ => (0, d)
  | .dstFormat d _ => (1, d)
  | .dstDomain d _ => (2, d)
  | .lockDst d _ => (3, d)
  | .unlockDst d _ => (3, d)
  | .srcLoss k _ => (4, k)
  | .srcOverride k _ => (5, k)
  | .aoutRoute a _ => (6, a)
  | .aoutFollow a _ => (7, a)
  | .aoutDomain a _ => (8, a)
  | .aoutDelay a _ => (9, a)
  | .aac a _ => (10, a)
  | .lockAout a _ => (11, a)
  | .unlockAout a _ => (11, a)
  | .slotMask p c => (12, 2 * p + c.direction)
  | .flow f _ _ => (13, f)
  | .dscp p _ => (14, p)
  | .queue q _ => (15, q)
  | .gateList p _ => (16, p)
  | .plane _ => (17, 0)
  | .stem k _ => (18, k)
  | .rend r _ => (19, r)
  | .rendRate r _ => (20, r)
  | .deliv d _ => (21, d)
  | .decCtx x _ => (22, x)
  | .head h _ => (23, h)
  | .headDomain h _ => (24, h)
  | .videoLayer l _ => (25, l)
  | .graphicLayer l _ => (26, l)
  | .matrix l _ => (27, l)
  | .meterFirst l _ => (28, l)

/-- Noun and index of the unit of a setting (02 R98). -/
def settingUnit : Setting → Nat × Nat
  | .route d _ _ => (0x11, d)
  | .dstFormat d _ => (0x11, d)
  | .dstDomain d _ => (0x11, d)
  | .lockDst d _ => (0x11, d)
  | .unlockDst d _ => (0x11, d)
  | .srcLoss k _ => (0x10, k)
  | .srcOverride k _ => (0x10, k)
  | .aoutRoute a _ => (0x19, a)
  | .aoutFollow a _ => (0x19, a)
  | .aoutDomain a _ => (0x19, a)
  | .aoutDelay a _ => (0x19, a)
  | .aac a _ => (0x19, a)
  | .lockAout a _ => (0x19, a)
  | .unlockAout a _ => (0x19, a)
  | .slotMask p _ => (0x1A, p)
  | .flow f _ _ => (0x22, f)
  | .dscp p _ => (0x23, 12 * p)
  | .queue q _ => (0x23, q)
  | .gateList p _ => (0x24, p)
  | .plane _ => (0x25, 0xFFFFFFFF)
  | .stem k _ => (0x30, k)
  | .rend r _ => (0x31, r)
  | .rendRate r _ => (0x31, r)
  | .deliv d _ => (0x32, d)
  | .decCtx x _ => (0x35, x)
  | .head h _ => (0x38, h)
  | .headDomain h _ => (0x38, h)
  | .videoLayer l _ => (0x39, l)
  | .graphicLayer l _ => (0x39, l)
  | .matrix l _ => (0x39, l)
  | .meterFirst l _ => (0x39, l)

/-- Domain to which a setting belongs: its unit's current domain, or domain 0 (01 R30, R35). -/
def State.settingDomain (s : State) (x : Setting) : Nat :=
  match x with
  | .route d _ _ | .dstFormat d _ | .dstDomain d _ | .lockDst d _ | .unlockDst d _ => (s.dst d).domain
  | .aoutRoute a _ | .aoutFollow a _ | .aoutDomain a _ | .aoutDelay a _ | .aac a _ | .lockAout a _ | .unlockAout a _ => s.aoutDomain a
  | .slotMask p _ => (s.aport p).cfg.domain
  | .stem k _ => s.feedDomain k
  | .rend r c => s.rendDomain r c
  | .rendRate r _ => s.feedDomain (s.rend r).cfg.stem
  | .deliv _ c => s.delivDomain c
  | .head h _ | .headDomain h _ => (s.head h).domain
  | .videoLayer l _ | .graphicLayer l _ | .matrix l _ | .meterFirst l _ => (s.head (layerHead l)).domain
  | .srcLoss _ _ | .srcOverride _ _ | .flow _ _ _ | .dscp _ _ | .queue _ _ | .gateList _ _ | .plane _ | .decCtx _ _ => 0

/-- Owner tag of the lock that governs a setting's unit, 0 for none (02 R117; 03 R171, R172; 05 R242). -/
def State.governor (s : State) (x : Setting) : Nat :=
  match x with
  | .route d _ _ | .dstFormat d _ | .dstDomain d _ | .lockDst d _ | .unlockDst d _ => s.dstLock d
  | .aoutRoute a _ | .aoutFollow a _ | .aoutDomain a _ | .aoutDelay a _ | .aac a _ | .lockAout a _ | .unlockAout a _ => s.aoutLock a
  | _ => 0

/-- A lock of another tag governs a setting (02 R115, R117). -/
def State.lockedFor (s : State) (owner : Nat) (x : Setting) : Bool := s.governor x != 0 && s.governor x != owner && owner != 0xFF

/-- A flow entry conflicts with a live rival (07 R315, R334). -/
def State.rival (s : State) (x : Setting) : Bool :=
  match x with
  | .flow f c _ => s.flows.any (fun e => flowsContend f c e.1 e.2.cfg)
  | _ => false

/-! ### The state that will be live (02 R103, R106) -/

/-- A setting's value put in its place: what the boundary leaves of it, without its side effects (02 R103). -/
def State.put (s : State) (x : Setting) : State :=
  match x with
  | .route d k y => s.modDst d (fun v => { v with src := k, sync := y })
  | .dstFormat d c => s.modDst d (fun v => { v with fmt := c })
  | .dstDomain d e => s.modDst d (fun v => { v with domain := e })
  | .lockDst d o => s.modDst d (fun v => { v with lock := o })
  | .unlockDst d _ => s.modDst d (fun v => { v with lock := 0 })
  | .srcLoss k c => s.modSrc k (fun v => { v with loss := c })
  | .srcOverride k c => s.modSrc k (fun v => { v with ovr := c })
  | .aoutRoute a c => s.modAout a (fun v => { v with route := c, follow := { v.follow with dst := 0xFFFF } })
  | .aoutFollow a c => s.modAout a (fun v => { v with follow := c })
  | .aoutDomain a d => s.modAout a (fun v => { v with domain := d })
  | .aoutDelay a n => s.modAout a (fun v => { v with delay := n })
  | .aac a c => s.modAout a (fun v => { v with aacNext := some c })
  | .lockAout a o => s.modAout a (fun v => { v with lock := o })
  | .unlockAout a _ => s.modAout a (fun v => { v with lock := 0 })
  | .slotMask _ _ => s
  | .flow f c y => (s.modFlow f (fun v => { v with cfg := c, byDelivery := y })).wideAudio f (s.flow f).cfg c
  | .dscp p m => s.modGate p (fun v => { v with dscp := m })
  | .queue q c => s.modQueue q (fun v => { v with cfg := c })
  | .gateList p c => s.modGate p (fun v => { v with pending := some c })
  | .plane c => { s with levee := { s.levee with cfg := c } }
  | .stem k c => s.modStem k (fun v => { v with cfg := c })
  | .rend r c => s.modRend r (fun v => { v with cfg := c, shed := false })
  | .rendRate r c => s.modRend r (fun v => { v with rate := c })
  | .deliv d c => s.modDeliv d (fun v => { v with cfg := c })
  | .decCtx k c => s.modCtx k (fun v => { v with cfg := c })
  | .head h c => s.modHead h (fun v => { v with cfg := c })
  | .headDomain h d => s.modHead h (fun v => { v with domain := d })
  | .videoLayer l c => s.modLayer l (fun v => { v with video := c })
  | .graphicLayer l c => s.modLayer l (fun v => { v with graphic := c })
  | .matrix l c => s.modLayer l (fun v => { v with matrix := c })
  | .meterFirst l a => s.modLayer l (fun v => { v with meterFirst := a })

/-- The settings of a part put in their places, those a lock or a rival drops left out (02 R117; 07 R334). -/
def State.putPart (s : State) (p : Part) : State :=
  s.each p.items (fun t x => if t.lockedFor p.owner x || t.rival x then t else t.put x)

/-- Device time of a frame of a domain still to come (01 R25, R28). -/
def State.frameNs (s : State) (d f : Nat) : Nat :=
  let x := s.domain d
  if f ≤ x.nextFrame then x.nextNs else if d = 0 then f * 10000000 else boundaryNs x.rate x.raster f

/-- The first boundary of a domain still to come at or after an instant (01 R38; 02 R109). -/
def State.firstFrom (s : State) (d ns : Nat) : Nat :=
  let x := s.domain d
  if ns ≤ x.nextNs then x.nextFrame
  else max (x.nextFrame + 1) (if d = 0 then cdiv ns 10000000 else frameFrom x.rate x.raster ns)

/-- The state that will be live at an instant: every committed part that lands by then has landed (02 R103). -/
def State.project (s : State) (ns : Nat) : State :=
  let due := s.parts.filter (fun p => s.frameNs p.domain p.frame ≤ ns)
  (orderBy (fun p => s.frameNs p.domain p.frame) (orderBy (·.arrival) due)).foldl State.putPart
    { s with parts := s.parts.filter (fun p => !(s.frameNs p.domain p.frame ≤ ns)) }

/-! ### Validation of one setting (02 R100, R103) -/

/-- Steps 4 to 9 of R100 for one setting, against the state that the settings before it leave. -/
def State.checkSetting (s : State) (owner : Nat) (x : Setting) : Option Answer :=
  match x with
  | .route d k _ => s.checkRoute owner d k
  | .dstFormat d c => s.checkDstFormat owner d c
  | .dstDomain d e => s.checkDstDomain owner d e
  | .lockDst d _ => s.checkLockDst owner d
  | .unlockDst d _ => s.checkLockDst owner d
  | .srcLoss k c => s.checkSrcLoss k c
  | .srcOverride k c => s.checkOverride k c
  | .aoutRoute a c => s.checkAudioRoute owner a c
  | .aoutFollow a c => s.checkFollow owner a c
  | .aoutDomain a d => s.checkAoutDomain owner a d
  | .aoutDelay a n => s.checkAoutDelay owner a n
  | .aac a c => s.checkAac owner a c
  | .lockAout a _ => s.checkAout owner a
  | .unlockAout a _ => s.checkAout owner a
  | .slotMask p c => s.checkMask p c
  | .flow f c y => s.checkFlow f c y.isSome
  | .dscp p m => s.checkDscp (12 * p) m
  | .queue q c => s.checkQueue q c
  | .gateList p c => s.checkGateList p c
  | .plane c => checkPlane 0xFFFFFFFF c
  | .stem k c => s.checkStem k c
  | .rend r c => s.checkRend r c
  | .rendRate r _ => s.checkRendRate r
  | .deliv d c => s.checkDeliv d c (s.flow c.flow).cfg
  | .decCtx k c => s.checkCtx k c
  | .head h c => s.checkHead h c
  | .headDomain h d => s.checkHeadDomain h d
  | .videoLayer l c => s.checkVideoLayer l c
  | .graphicLayer l c => s.checkGraphicLayer l c
  | .matrix l c => s.checkMatrix l c
  | .meterFirst l a => s.checkMeterFirst l a

/-- The checks of a setting that need every setting of its request in place; `live` is the state before them. -/
def State.finalSetting (live s : State) (x : Setting) : Option Answer :=
  match x with
  | .route d k _ => s.finalRoute d k
  | .dstFormat d _ | .dstDomain d _ => s.finalFeed d
  | .stem k _ => State.finalStem live s k
  | .rend r _ | .rendRate r _ => State.finalRend live s r
  | .deliv d c => s.finalDeliv d (s.flow c.flow).cfg
  | .decCtx k _ => s.finalCtx k
  | .head h _ => s.finalHead h
  | .headDomain h _ => s.finalHeadDomain h
  | .videoLayer l _ => s.finalVideoLayer l
  | .graphicLayer l _ | .meterFirst l _ => s.finalGraphicLayer l
  | _ => none

/-- The failure of the earliest step, and among those the one of the lowest item (02 R100). -/
def firstFailure (l : List Answer) : Option Answer := (orderBy (fun a => failStep a * 65536 + a.item) l).head?

/-! ### Scheduling (01 R32, R38; 02 R107 to R110, R730) -/

/-- Least time from arrival to a boundary of a domain, ns (01 R32). -/
def horizonNs (d : Nat) : Nat := if d = 0 then 1000000 else 2000000

/-- Where a part lands (02 R90). -/
structure Landing where
  domain : Nat
  frame : Nat
  status : Nat
  ns : Nat
deriving DecidableEq, Repr

/-- A part aimed at a frame lands at the first frame into which it can still be built; a rebuild known to be incomplete
defers it (01 R34; 02 R109). -/
def State.landing (s : State) (d f status : Nat) : Landing :=
  let x := s.domain d
  let g := max f (if x.decided then x.nextFrame + 1 else x.nextFrame)
  let defer := x.shadowBad && g == x.nextFrame
  let h := if defer then g + 1 else g
  { domain := d, frame := h, status := if defer then stDeferred else if g = f then status else stScheduled, ns := s.frameNs d h }

/-- Target frame 0: the first boundary after arrival, or the following one when it is inside the horizon (02 R109). -/
def State.aimNext (s : State) (arrival d : Nat) : Landing :=
  let x := s.domain d
  if x.lastNs > arrival then s.landing d x.frame.toNat stScheduled
  else
    let f := s.firstFrom d (arrival + 1)
    if s.frameNs d f < arrival + horizonNs d then s.landing d (f + 1) stScheduled else s.landing d f stOk

/-- Device time of a frame that a header names; one before the most recent has that of the schedule that runs (02 R110; log entry 37). -/
def State.targetNs (s : State) (d f : Nat) : Nat :=
  let x := s.domain d
  if f ≥ x.nextFrame then s.frameNs d f else if f = x.frame.toNat then x.lastNs
  else min x.lastNs (if d = 0 then f * 10000000 else boundaryNs x.rate x.raster f)

/-- The boundary of a domain that an explicit target names, and whether it has passed (01 R38; 02 R110; log entry 16). -/
def State.namedFrame (s : State) (h target d : Nat) : Nat × Bool :=
  let x := s.domain d
  let ns := s.targetNs h target
  if d = h then (target, false)
  else if ns ≤ x.lastNs then (min x.frame.toNat (if d = 0 then cdiv ns 10000000 else frameFrom x.rate x.raster ns), true)
  else (s.firstFrom d ns, false)

/-- An explicit target: the named frame in the header's domain `h`, and elsewhere the first boundary at or after its device time
(01 R38). -/
def State.aimNamed (s : State) (h target d : Nat) : Landing :=
  if d = h then s.landing d target stOk else s.landing d (s.firstFrom d (s.targetNs h target)) stOk

/-- Where the parts of a request land (01 R38; 02 R109, R110). -/
def State.aim (s : State) (arrival target h d : Nat) : Landing :=
  if !s.domainOn d then { domain := d, frame := 0, status := stState, ns := s.nowNs }
  else if target = 0 then s.aimNext arrival d else s.aimNamed h target d

/-- The named boundary, or that of a part, is inside the horizon (02 R110). -/
def State.tooLate (s : State) (arrival target h d : Nat) : Bool :=
  target != 0 && (if d = h then s.targetNs h target < arrival + horizonNs d
                  else s.frameNs d (s.firstFrom d (s.targetNs h target)) < arrival + horizonNs d)

/-- Steps 8 and 10 of R100 for the target frame and its domain; `off` is the reason code of a disabled domain
(02 R110, R730). -/
def State.targetFail (s : State) (arrival target h off : Nat) (ds : List Nat) (empty : Bool) : List Answer :=
  (if (target != 0 || empty) && !s.domainOn h then [fail stState off] else []) ++
  (if target != 0 && s.domainOn h && s.targetNs h target > arrival + 86400000000000 then [fail stRange 0x0008] else []) ++
  (if target != 0 && s.domainOn h && (h :: ds).any (fun d => s.domainOn d && s.tooLate arrival target h d) then [fail stHorizon 0] else [])

/-! ### A whole set (02 R100, R103 to R106) -/

/-- A setting on its way: its number in the request, and its domain. -/
structure Staged where
  item : Nat
  domain : Nat
  x : Setting
deriving DecidableEq, Repr

/-- Settings of which a later one of the same key replaces an earlier one (02 R104). -/
def keepLater (l : List (Nat × Setting)) : List (Nat × Setting) :=
  l.foldl (fun acc e => acc.filter (fun a => settingKey a.2 != settingKey e.2) ++ [e]) []

/-- The settings of renditions and stems, which say where other settings of the set belong. -/
def placing : Setting → Bool
  | .rend _ _ => true
  | _ => false

/-- The domains of the settings of a set (01 R35). -/
def State.place (s : State) (l : List (Nat × Setting)) : List Staged :=
  let t := s.each (l.filter (fun e => placing e.2)) (fun t e => t.put e.2)
  l.map (fun e => { item := e.1, domain := if placing e.2 then s.settingDomain e.2 else t.settingDomain e.2, x := e.2 })

/-- Domains of the parts of a set, ascending (01 R36). -/
def partDomains (l : List Staged) : List Nat := (List.range 9).filter (fun d => l.any (fun e => e.domain == d))

/-- The state with a set of settings committed, for what counts committed settings. -/
def State.withSet (s : State) (l : List Staged) : State :=
  { s with parts := s.parts ++ (partDomains l).map (fun d =>
      { order := s.partSeq, arrival := 0, ring := 4, seq := 0, noun := 0, index := 0, owner := 0, cookie := 0, landEvent := false, domain := d,
        frame := 0, status := 0, items := (l.filter (fun e => e.domain == d)).map (·.x) }) }

/-- Converters taken for the destinations of a set in its order; the item whose reach has none left (03 R146). -/
def takeConvs (view : Nat → State) : List Staged → State → Option Nat × State
  | [], s => (none, s)
  | e :: t, s =>
    match e.x with
    | .route d _ _ | .dstFormat d _ =>
      if (view e.domain).convNeeded d then
        match s.takeConv d with
        | some s1 => takeConvs view t s1
        | none => (some e.item, s)
      else takeConvs view t s
    | _ => takeConvs view t s

/-- Sources whose rings a setting may lengthen (04 R185). -/
def ringSources (view : State) : Setting → List Nat
  | .route _ k _ => if k = 0xFFFF then [] else [k]
  | .dstDomain d _ => if (view.dst d).src = 0xFFFF then [] else [(view.dst d).src]
  | _ => []

/-- Buffers taken from the extension pools for a set in its order, with its settings counted as committed; the item that finds
too few (04 R185). -/
def takeRings (view : Nat → State) : List Staged → State → Option Nat × State
  | [], s => (none, s)
  | e :: t, s =>
    let s1 := s.each (ringSources (view e.domain) e.x) State.fitRing
    if (ringSources (view e.domain) e.x).any (fun k => (s1.src k).ring < s1.ringWanted k) then (some e.item, s) else takeRings view t s1

/-- A setting gives a destination a route. -/
def givesRoute : Setting → Bool
  | .route _ k _ => k != 0xFFFF
  | _ => false

/-- A layer that a setting names and leaves degraded (13 R567). -/
def State.degrades (s : State) : Setting → Bool
  | .videoLayer l _ => s.layerDegraded l
  | .matrix l _ => s.layerDegraded l
  | _ => false

/-- What validation finds: the failure if any, where the parts land, the state with what the commit takes at once, and the first
degraded item. -/
structure Judged where
  failure : Option Answer
  landings : List Landing
  staged : List Staged
  view : Nat → State
  after : State
  degraded : Option Nat

/-- Open and committed settings that have not landed (02 R105). -/
def State.openTotal (s : State) : Nat :=
  (s.openSets.map (fun e => e.2.length)).foldl (· + ·) 0 + (s.parts.map (fun p => p.items.length)).foldl (· + ·) 0

/-- Validation of a set of settings under R100: `old` is what the open set already holds, `new` what is judged. A setting that a later one
replaces is validated as well, in the place of the later one (02 R100, R103, R106; 03 R166). -/
def State.judge (s : State) (owner arrival target h off : Nat) (old new : List (Nat × Setting)) : Judged :=
  let all := s.place (keepLater (old ++ new))
  let ds := partDomains all
  let view0 := fun d => s.project (s.aim arrival target h d).ns
  let full := fun d => (view0 d).each all (fun t e => t.put e.x)
  let upTo := fun (d n : Nat) => (view0 d).each (all.take n) (fun t e => t.put e.x)
  let judged := all.zipIdx.filter (fun e => new.any (fun n => settingKey n.2 == settingKey e.1.x))
  let single := judged.filterMap (fun e =>
    ((upTo e.1.domain e.2).checkSetting owner e.1.x <|> State.finalSetting (view0 e.1.domain) (full e.1.domain) e.1.x).map
      (fun a => { a with item := e.1.item }))
  let replaced := s.place (new.filter (fun e => !(all.any (fun k => k.item == e.1 && k.x == e.2))))
  let spare := replaced.filterMap (fun e =>
    ((view0 e.domain).checkSetting owner e.x <|> State.finalSetting (view0 e.domain) ((full e.domain).put e.x) e.x).map
      (fun a => { a with item := e.item }))
  let s1 := s.withSet all
  let conv := takeConvs full all s1
  let ring := takeRings full all conv.2
  let crowd := if s.inService && s.runMode == .encode then
      ((judged.filter (fun e => givesRoute e.1.x && (upTo e.1.domain (e.2 + 1)).routedCount > 256)).map (fun e => fail stCapacity 0x0015 e.1.item))
    else []
  let asleep := (judged.filter (fun e => !s.domainOn e.1.domain)).map (fun e => fail stState off e.1.item)
  let pools := (match conv.1 with | some i => [fail stCapacity 0x0016 i] | none => []) ++
    (match ring.1 with | some i => [fail stCapacity 0x0020 i] | none => [])
  { failure := firstFailure (single ++ spare ++ asleep ++ crowd ++ pools ++ s.targetFail arrival target h off ds all.isEmpty)
    landings := if all.isEmpty then [s.aim arrival 0 h h] else ds.map (fun d => s.aim arrival target h d)
    staged := all
    view := full
    after := { ring.2 with parts := s.parts }
    degraded := (judged.find? (fun e => (full e.1.domain).degrades e.1.x)).map (fun e => e.1.item) }

/-- Domain that a header names: 0xFF means that of the first item, or domain 0 (02 R88, R107, R168). -/
def headerDomain (r : Request) (l : List Staged) : Nat :=
  if r.domain ≤ 8 then r.domain else match l with | e :: _ => e.domain | [] => 0

/-- A landing list (02 R90). -/
def landingList (l : List (Landing × Nat)) : Bytes :=
  layout 8 [(0, le 1 l.length)] ++
    l.flatMap (fun e => layout 16 [(0, le 1 e.1.domain), (2, le 2 e.1.status), (4, le 4 e.2), (8, le 8 e.1.frame)])

/-- Items of a part. -/
def itemsOf (l : List Staged) (d : Nat) : Nat := (l.filter (fun e => e.domain == d)).length

/-- The landing list of a set. -/
def Judged.list (j : Judged) : Bytes := landingList (j.landings.map (fun x => (x, itemsOf j.staged x.domain)))

/-- The parts of a committed set (01 R36; 02 R94). -/
def partsOf (c : Call) (noun : Nat) (seq : Nat) (j : Judged) : List Part :=
  (j.landings.filter (fun x => itemsOf j.staged x.domain != 0 || reqLandEvent c.r)).map (fun x =>
    { order := seq, arrival := c.arrival, ring := c.ring, seq := c.r.seq, noun := noun, index := c.r.index, owner := c.owner, cookie := c.r.cookie,
      landEvent := reqLandEvent c.r, domain := x.domain, frame := x.frame, status := x.status,
      items := (j.staged.filter (fun e => e.domain == x.domain)).map (·.x) })

/-- The answer to a staged request that succeeds (01 R39; 02 R89, R90). -/
def scheduledAnswer (c : Call) (h : Nat) (j : Judged) : Answer :=
  { status := (j.landings.map (·.status)).foldl max 0
    applied := match j.landings.find? (fun x => x.domain == h) with | some x => x.frame | none => 0
    split := j.landings.length > 1
    follows := reqLandEvent c.r && !reqValidate c.r
    payload := j.list }

/-- The answer to a staged request that fails; one that misses the horizon lists the boundaries that its target names for its parts
(01 R38; 02 R90, R110; log entry 16). A failed TAKE carries no route report, and a failed SALVO no summary, after the list. DESIGN CHOICE (log
entry 16): R157 and R169 give both to the reply and say nothing of failures. -/
def failedAnswer (c : Call) (h : Nat) (s : State) (a : Answer) (j : Judged) : Answer :=
  if a.status = stHorizon then
    { a with payload := landingList (j.landings.map (fun x =>
        let f := s.namedFrame h c.r.target x.domain
        if !s.domainOn x.domain then (x, itemsOf j.staged x.domain)
        else ({ x with frame := if j.staged.isEmpty then x.frame else f.1
                       status := if f.2 || s.tooLate c.arrival c.r.target h x.domain then stHorizon else x.status }, itemsOf j.staged x.domain))) }
  else { a with payload := failedList c.r a.status ++ a.payload }

/-- The open stage set of an owner tag, with the numbers of its settings (02 R102). -/
def State.openSet (s : State) (owner : Nat) : List (Nat × Setting) := (tget (fun _ => []) s.openSets owner).zipIdx.map (fun e => (e.2, e.1))

/-- A request that carries settings of its own, as all but COMMIT do, leaves at most 65,536 open and committed settings (02 R105). -/
def State.fits (s : State) (noun : Nat) (items : List (Nat × Setting)) (j : Judged) : Judged :=
  if noun != 0x01 && s.openTotal + items.length > 65536 then
    { j with failure := firstFailure ((match j.failure with | some a => [a] | none => []) ++ [fail stCapacity 0]) }
  else j

/-- What validation finds of a staged request's settings (01 R35, R38; 02 R100, R106); an empty request has the reason of R730. -/
def State.judgeSet (s : State) (c : Call) (noun off : Nat) (items : List (Nat × Setting)) : Judged :=
  State.fits s noun items <| s.judge c.owner c.arrival c.r.target (headerDomain c.r (s.place (keepLater items))) (if items.isEmpty then 0x0009 else off) [] items

/-- The answer to a staged request that succeeds, in the domain that its header names. -/
def State.setAnswer (s : State) (c : Call) (noun off : Nat) (items : List (Nat × Setting)) : Answer :=
  scheduledAnswer c (headerDomain c.r (s.place (keepLater items))) (s.judgeSet c noun off items)

/-- A deferred setting is marked on its unit (03 R158; 07 R336). -/
def State.markDeferred (s : State) (x : Setting) : State :=
  match x with
  | .route d _ _ | .dstFormat d _ | .dstDomain d _ | .lockDst d _ | .unlockDst d _ => s.modDst d (fun v => { v with deferred := true })
  | .flow f _ _ => s.modFlow f (fun v => { v with deferred := true })
  | _ => s

/-- The swap of a domain's next boundary is deferred: it is counted once, with its sticky bit (01 R33, R55; 03 R163). -/
def State.countDeferral (s : State) (d : Nat) : State :=
  if s.mode.swapsDeferred.contains d then s
  else State.count { s with mode := { s.mode with sticky := s.mode.sticky ||| 0x40, swapsDeferred := d :: s.mode.swapsDeferred } } cntSwapDeferred 0 1

/-- A part whose deferral is known before the reply: counted, and marked on its units (01 R34; 03 R158, R163). -/
def State.noteDeferral (s : State) (p : Part) : State :=
  if p.status = stDeferred then (s.countDeferral p.domain).each p.items State.markDeferred else s

/-- The state with the parts of a validated set committed (01 R36; 02 R106). -/
def State.schedule (s : State) (c : Call) (noun off : Nat) (items : List (Nat × Setting)) : State :=
  let j := s.judgeSet c noun off items
  let t := { j.after with parts := j.after.parts ++ partsOf c noun s.partSeq j, partSeq := s.partSeq + 1 }
  t.each (partsOf c noun s.partSeq j) State.noteDeferral

/-- A staged request: validated, scheduled, committed, and answered with its landing list and what `report` makes of it
(01 R36, R37; 02 R106 to R111). -/
def State.commitSet (s : State) (c : Call) (noun off : Nat) (items : List (Nat × Setting)) (report : Judged → Answer → Answer) :
    Answer × State :=
  match (s.judgeSet c noun off items).failure with
  | some a => (failedAnswer c (headerDomain c.r (s.place (keepLater items))) s a (s.judgeSet c noun off items), s)
  | none => (report (s.judgeSet c noun off items) (s.setAnswer c noun off items), s.schedule c noun off items)

/-! ### STAGE, COMMIT and CANCEL (02 R101 to R107, R112, R113; 13 R567) -/

/-- The answer of a `STAGE` that succeeds (13 R567). -/
def Judged.stageAnswer (j : Judged) : Answer :=
  match j.degraded with | some _ => { status := stCapacity, reason := 0x00B3, accepted := true } | none => okWith []

/-- `STAGE` of the settings of one block (02 R102, R103, R105; 13 R567). -/
def State.stage (s : State) (c : Call) (xs : List Setting) : Answer × State :=
  let new := xs.map (fun x => (0, x))
  let all := keepLater (s.openSet c.owner ++ new)
  let j := s.judge c.owner c.arrival 0 0 0x0009 (s.openSet c.owner) new
  if c.owner = 0 then (fail stInvalid 0, s)
  else match j.failure with
  | some a => ({ a with item := 0 }, s)
  | none =>
    if all.length > 4096 || s.openTotal + all.length - (s.openSet c.owner).length > 65536 then (fail stCapacity 0, s)
    else
      (j.stageAnswer, { s with openSets := tset (fun _ => []) s.openSets c.owner (all.map (·.2)) })

/-- A `STAGE` on a noun. -/
def stageSpec (noun sel : Nat) (len : Nat → Bool) (form : Bytes → Bool) (index : Nat → Bool) (parse : Call → List Setting) : ReqSpec where
  verb := 0x03
  noun := noun
  sel := some sel
  len := len
  form := form
  index := index
  judged := true
  body := fun c s => s.stage c (parse c)

/-- The answer of a `COMMIT` that leaves a layer degraded (13 R567). -/
def degradedAnswer (j : Judged) (a : Answer) : Answer :=
  match j.degraded with
  | some i => if a.status = stOk then { a with status := stCapacity, reason := 0x00B3, item := i, accepted := true } else a
  | none => a

/-- COMMIT (02 R106, R107; 13 R567). -/
def specCommit : ReqSpec where
  verb := 0x04
  noun := 0x01
  staged := true
  body := fun c s =>
    let o := s.commitSet c 0x01 0x0009 (s.openSet c.owner) degradedAnswer
    (o.1, if o.1.status < 0x100 || o.1.accepted then { o.2 with openSets := tdrop o.2.openSets c.owner } else o.2)

/-- CANCEL with payload length 0 (02 R112). -/
def specCancelStageSet : ReqSpec where
  verb := 0x05
  noun := 0x01
  body := fun c s => (okWith [], { s with openSets := tdrop s.openSets c.owner })

/-- A part's boundary is too close for its withdrawal (02 R113). -/
def State.stays (s : State) (arrival : Nat) (p : Part) : Bool := s.frameNs p.domain p.frame < arrival + horizonNs p.domain

/-- CANCEL of committed parts (02 R113). -/
def specCancelCommitted : ReqSpec where
  verb := 0x05
  noun := 0x01
  len := (· == 8)
  form := fun b => zeroFrom b 5 3
  body := fun c s =>
    let mine := s.parts.filter (fun p => p.seq == u32 c.block 0 && p.ring == u8 c.block 4)
    if u8 c.block 4 > 1 then (fail stRange 0x0008, s)
    else match mine with
    | [] => (fail stUnknown 0, s)
    | _ =>
      match mine.find? (fun p => p.owner != c.owner && c.owner != 0xFF) with
      | some p => (fail stLocked p.owner, s)
      | none =>
        let late := mine.filter (s.stays c.arrival)
        let list := landingList (mine.map (fun p =>
          ({ domain := p.domain, frame := p.frame, status := if s.stays c.arrival p then stHorizon else stOk, ns := 0 }, p.items.length)))
        let s1 := if late.length = mine.length then s
          else State.release { s with parts := s.parts.filter (fun p => !(p.seq == u32 c.block 0 && p.ring == u8 c.block 4 && !s.stays c.arrival p)) }
        ({ status := if late.isEmpty then stOk else stHorizon, accepted := !late.isEmpty && late.length < mine.length, payload := list }, s1)

/-! ### TAKE, SALVO, LOCK and UNLOCK (03 R153, R157, R165 to R171; 05 R235, R242) -/

/-- A route entry's reserved fields are zero (03 R153). -/
def routeForm (b : Bytes) : Bool := flagsIn (decRouteEntry b).flags 0x01 && zeroFrom b 5 3

/-- The setting of a route entry. -/
def routeSetting (b : Bytes) : Setting := .route (decRouteEntry b).dst (decRouteEntry b).src ((decRouteEntry b).flags.getLsbD 0)

/-- Path and converter that a destination will have at its landing (03 R155, R157). -/
def Judged.pathConv (j : Judged) (d : Nat) : Nat × Nat :=
  let dom := match j.staged.find? (fun e => settingKey e.x == (0, d)) with | some e => e.domain | none => 0
  let v := j.view dom
  (v.pathOf (v.membersOf dom) d, if v.convNeeded d then j.after.convOf d else 0xFF)

/-- What the reply to a TAKE adds to its landing list (03 R157). -/
def takeReport (d : Nat) (j : Judged) (a : Answer) : Answer :=
  { a with payload := a.payload ++ layout 8 [(0, le 1 (j.pathConv d).1), (1, le 1 (j.pathConv d).2)] }

/-- TAKE (03 R153, R157). -/
def specTake : ReqSpec where
  verb := 0x06
  noun := 0x11
  staged := true
  len := (· == 8)
  form := routeForm
  index := (· < 1152)
  judged := true
  body := fun c s =>
    if (decRouteEntry c.block).dst != c.r.index then (fail stInvalid 0, s)
    else s.commitSet c 0x11 0x0018 [(0, routeSetting c.block)] (takeReport c.r.index)

/-- Route entries of a salvo with their numbers (03 R165). -/
def salvoEntries (b : Bytes) : List (Nat × Setting) := (List.range (u16 b 0)).map (fun i => (i, routeSetting (b.drop (8 + 8 * i))))

/-- An entry that SKIP_LOCKED removes: a lock of another tag governs its destination, now or at the entry's boundary (03 R167). -/
def State.skips (s : State) (c : Call) (e : Nat × Setting) : Bool :=
  let d := s.settingDomain e.2
  s.lockedFor c.owner e.2 || (s.project (s.aim c.arrival c.r.target (if c.r.domain ≤ 8 then c.r.domain else d) d).ns).lockedFor c.owner e.2

/-- Entries that SKIP_LOCKED removes from a salvo (03 R167). -/
def State.skipped (s : State) (c : Call) : List (Nat × Setting) :=
  if u8 c.block 2 = 1 then (salvoEntries c.block).filter (s.skips c) else []

/-- The summary of a salvo (03 R169). -/
def salvoSummary (skip : List (Nat × Setting)) (j : Judged) (a : Answer) : Answer :=
  let ps := j.staged.filterMap (fun e => match e.x with | .route d _ _ => some (j.pathConv d) | _ => none)
  { a with
    item := match skip with | e :: _ => e.1 | [] => 0
    payload := a.payload ++ layout 8 [(0, le 2 skip.length), (2, le 2 (ps.filter (fun p => p.1 == 2)).length),
      (4, le 2 (ps.filter (fun p => p.2 != 0xFF)).length)] }

/-- SALVO (03 R165 to R170). -/
def specSalvo : ReqSpec where
  verb := 0x07
  noun := 0x12
  staged := true
  len := fun n => n ≥ 8
  size := fun b => b.length == 8 + 8 * u16 b 0
  form := fun b => flagsIn (BitVec.ofNat 8 (u8 b 2)) 0x01 && zeroFrom b 3 5 &&
    (List.range (u16 b 0)).all (fun i => routeForm (b.drop (8 + 8 * i)))
  badItem := fun b => if flagsIn (BitVec.ofNat 8 (u8 b 2)) 0x01 && zeroFrom b 3 5 then
    ((List.range (u16 b 0)).find? (fun i => !routeForm (b.drop (8 + 8 * i)))).getD 0 else 0
  judged := true
  body := fun c s =>
    if u16 c.block 0 > 1152 then (fail stRange 0, s)
    else s.commitSet c 0x12 0x0018 ((salvoEntries c.block).filter (fun e => !(s.skipped c).contains e)) (salvoSummary (s.skipped c))

/-- LOCK and UNLOCK on a staged noun: the anonymous tag may hold no lock (02 R114, R116; 03 R171; 05 R242). -/
def lockSpec (verb noun off limit : Nat) (x : Nat → Nat → Setting) : ReqSpec where
  verb := verb
  noun := noun
  staged := true
  index := (· < limit)
  body := fun c s =>
    if verb = 0x08 && c.owner = 0 then (fail stInvalid 0, s)
    else s.commitSet c noun off [(0, x c.r.index c.owner)] (fun _ a => a)

/-- LOCK on Dst (03 R171). -/
def specLockDst : ReqSpec := lockSpec 0x08 0x11 0x0009 1152 .lockDst
/-- UNLOCK on Dst (03 R171). -/
def specUnlockDst : ReqSpec := lockSpec 0x09 0x11 0x0009 1152 .unlockDst
/-- LOCK on AudioOut (05 R242). -/
def specLockAudioOut : ReqSpec := lockSpec 0x08 0x19 0x003A 16384 .lockAout
/-- UNLOCK on AudioOut (05 R242). -/
def specUnlockAudioOut : ReqSpec := lockSpec 0x09 0x19 0x003A 16384 .unlockAout

/-- The form of an audio route block (05 R235). -/
def audioRouteForm (b : Bytes) : Bool := flagsIn (decAudioRoute b).flags 0x03 && zeroFrom b 6 2

/-- TAKE on AudioOut (05 R235). -/
def specTakeAudioOut : ReqSpec where
  verb := 0x06
  noun := 0x19
  sel := some 0x01
  staged := true
  len := (· == 8)
  form := audioRouteForm
  index := (· < 16384)
  judged := true
  body := fun c s => s.commitSet c 0x19 0x003A [(0, .aoutRoute c.r.index (decAudioRoute c.block))] (fun _ a => a)

/-! ### The blocks of STAGE -/

/-- STAGE on Dst, selector 0x01: the selector and the route entry of TAKE (03 R148, R153). -/
def specStageDstRoute : ReqSpec :=
  { stageSpec 0x11 0x01 (· == 9) (fun b => routeForm (b.drop 1)) (· < 1152) (fun c => [routeSetting (c.block.drop 1)]) with
    body := fun c s =>
      if (decRouteEntry (c.block.drop 1)).dst != c.r.index then (fail stInvalid 0, s) else s.stage c [routeSetting (c.block.drop 1)] }

/-- STAGE on Dst, selector 0x02 (03 R143, R149). -/
def specStageDstFormat : ReqSpec :=
  stageSpec 0x11 0x02 (· == 8) (fun b => zeroFrom b 5 3) (· < 1152) (fun c => [.dstFormat c.r.index (decFmt c.block)])

/-- STAGE on Dst, selector 0x03 (03 R152). -/
def specStageDstDomain : ReqSpec :=
  stageSpec 0x11 0x03 (· == 4) (fun b => zeroFrom b 2 2) (· < 1152) (fun c => [.dstDomain c.r.index (u8 c.block 1)])

/-- STAGE on Src, selector 0x10 (04 R192). -/
def specStageSrcLossAction : ReqSpec :=
  stageSpec 0x10 0x10 (· == 8) (fun b => u8 b 7 == 0) (· < 1152) (fun c => [.srcLoss c.r.index (decLossCfg c.block)])

/-- STAGE on Src, selector 0x11 (04 R200). -/
def specStageSrcOverride : ReqSpec :=
  stageSpec 0x10 0x11 (· == 8) (fun b => zeroFrom b 5 3) (· < 1152) (fun c => [.srcOverride c.r.index (decOverrideCfg c.block)])

/-- STAGE on AudioOut, selector 0x01 (05 R235). -/
def specStageAudioOutRoute : ReqSpec :=
  stageSpec 0x19 0x01 (· == 8) audioRouteForm (· < 16384) (fun c => [.aoutRoute c.r.index (decAudioRoute c.block)])

/-- STAGE on AudioOut, selector 0x02 (05 R239). -/
def specStageAudioOutFollow : ReqSpec :=
  stageSpec 0x19 0x02 (· == 8) (fun b => flagsIn (decAudioFollow b).flags 0x03 && u8 b 7 == 0) (· < 16384)
    (fun c => [.aoutFollow c.r.index (decAudioFollow c.block)])

/-- STAGE on AudioOut, selector 0x03 (05 R237). -/
def specStageAudioOutDomain : ReqSpec :=
  stageSpec 0x19 0x03 (· == 4) (fun b => zeroFrom b 2 2) (· < 16384) (fun c => [.aoutDomain c.r.index (u8 c.block 1)])

/-- STAGE on AudioOut, selector 0x04 (05 R238). -/
def specStageAudioOutDelay : ReqSpec :=
  stageSpec 0x19 0x04 (· == 4) (fun b => u8 b 1 == 0) (· < 16384) (fun c => [.aoutDelay c.r.index (u16 c.block 2)])

/-- STAGE on AudioOut, selector 0x05 (05 R250). -/
def specStageAacProgramme : ReqSpec :=
  stageSpec 0x19 0x05 (· == 8) (fun b => u8 b 3 == 0) (· < 16384) (fun c => [.aac c.r.index (decAacCfg c.block)])

/-- STAGE on AudioPort, selector 0x02 (05 R226). -/
def specStageSlotMask : ReqSpec :=
  stageSpec 0x1A 0x02 (· == 12) (fun b => zeroFrom b 2 2) (· < 64) (fun c => [.slotMask c.r.index (decSlotMask c.block)])

/-- Reserved fields of a flow entry are zero (07 R312). -/
def flowForm (b : Bytes) : Bool :=
  zeroFrom b 13 3 && zeroFrom b 17 5 && zeroFrom b 65 5

/-- STAGE on Flow, selector 0x01 (07 R312). -/
def specStageFlow : ReqSpec :=
  stageSpec 0x22 0x01 (· == 144) flowForm (· < 16384) (fun c => [.flow c.r.index (decFlowCfg c.block) none])

/-- STAGE on Queue, selector 0x02; the noun index is queue 0 of the port (08 R341). -/
def specStageQueueDscpMap : ReqSpec :=
  { stageSpec 0x23 0x02 (· == 68) (fun b => zeroFrom b 1 3) (· < 768) (fun _ => []) with
    body := fun c s =>
      let m := (List.range 64).map (fun i => u8 c.block (4 + i))
      if c.r.index % 12 != 0 && s.portPresent (c.r.index / 12) then (fail stInvalid 0x0064, s) else s.stage c [.dscp (c.r.index / 12) m] }

/-- STAGE on Queue, selector 0x01 (08 R342). -/
def specStageQueue : ReqSpec :=
  stageSpec 0x23 0x01 (· == 12) (fun b => u8 b 1 == 0) (· < 768) (fun c => [.queue c.r.index (decQueueCfg c.block)])

/-- STAGE on GateList, selector 0x01 (08 R351). -/
def specStageGateList : ReqSpec :=
  { stageSpec 0x24 0x01 (· ≥ 24) gateForm (· < 64) (fun c => [.gateList c.r.index (decGateCfg c.block)]) with
    size := fun b => b.length == 24 + 8 * u16 b 2
    bits := fun b => u32 b 16 ≤ 999999999 && (List.range (u16 b 2)).all (fun i => u16 b (28 + 8 * i) < 4096)
    bitsReason := 0x0062 }

/-- STAGE on Plane, selector 0x01: index 0xFFFF_FFFF, the whole device (08 R360). -/
def specStagePlane : ReqSpec :=
  { stageSpec 0x25 0x01 (· == 40) (fun _ => true) (fun k => k ≤ 1 || k == 0xFFFFFFFF) (fun _ => []) with
    bits := fun b => u16 b 14 < 4096
    bitsReason := 0x0063
    body := fun c s => if c.r.index ≤ 1 then (fail stInvalid 0x0064, s) else s.stage c [.plane (decPlaneCfg c.block)] }

/-- STAGE on Stem, selector 0x01 (10 R443). -/
def specStageStem : ReqSpec :=
  { stageSpec 0x30 0x01 (· == 16) (fun b => zeroFrom b 13 3) (· < 64) (fun c => [.stem c.r.index (decStemCfg c.block)]) with
    bits := fun b => flagsIn (decStemCfg b).flags 0x07
    bitsReason := 0x0082 }

/-- STAGE on Rendition, selector 0x01 (10 R447). -/
def specStageRendition : ReqSpec :=
  { stageSpec 0x31 0x01 (· == 24) (fun b => zeroFrom b 20 4) (· < 256) (fun c => [.rend c.r.index (decRendCfg c.block)]) with
    bits := fun b => u8 b 1 != 1 || flagsIn (decRendCfg b).flags 0x07
    bitsReason := 0x0082 }

/-- STAGE on Rendition, selector 0x02 (11 R476). -/
def specStageRenditionRate : ReqSpec :=
  stageSpec 0x31 0x02 (· == 24) (fun b => zeroFrom b 21 3) (· < 256) (fun c => [.rendRate c.r.index (decRateCfg c.block)])

/-- The delivery part and, for kinds 1 and 2, the send entry of a block (11 R487). -/
def delivSettings (d : Nat) (b : Bytes) : List Setting :=
  let c := decDelivCfg b
  if b.length = 208 && within c.flow 8192 16383 then [.flow c.flow (decFlowCfg (b.drop 64)) (some d), .deliv d c] else [.deliv d c]

/-- STAGE on Delivery, selector 0x01 (11 R487). -/
def specStageDelivery : ReqSpec :=
  { stageSpec 0x32 0x01 (fun n => n == 64 || n == 208)
      (fun b => zeroFrom b 22 2 && zeroFrom b 34 6 && (b.length == 64 || flowForm (b.drop 64)))
      (· < 1024) (fun c => delivSettings c.r.index c.block) with
    size := fun b => b.length == if u8 b 2 = 1 || u8 b 2 = 2 then 208 else 64 }

/-- STAGE on DecodeCtx, selector 0x01 (12 R528). -/
def specStageDecodeCtx : ReqSpec :=
  stageSpec 0x35 0x01 (· == 16) (fun b => u8 b 13 == 0) (· < 256) (fun c => [.decCtx c.r.index (decDecCfg c.block)])

/-- STAGE on Head, selector 0x01 (13 R546). -/
def specStageHead : ReqSpec :=
  { stageSpec 0x38 0x01 (· == 20) (fun b => u8 b 11 == 0) (· < 2) (fun c => [.head c.r.index (decHeadCfg c.block)]) with
    bits := fun b => flagsIn (decHeadCfg b).flags 0x01
    bitsReason := 0x00B0 }

/-- STAGE on Head, selector 0x03 (13 R549). -/
def specStageHeadDomain : ReqSpec :=
  stageSpec 0x38 0x03 (· == 4) (fun b => zeroFrom b 2 2) (· < 2) (fun c => [.headDomain c.r.index (u8 c.block 1)])

/-- STAGE on Layer, selector 0x01 (13 R554). -/
def specStageVideoLayer : ReqSpec :=
  stageSpec 0x39 0x01 (· == 32) (fun b => flagsIn (decVideoLayer b).flags 0x1F && zeroFrom b 27 5) (· < 160)
    (fun c => [.videoLayer c.r.index (decVideoLayer c.block)])

/-- STAGE on Layer, selector 0x02 (13 R559). -/
def specStageGraphicLayer : ReqSpec :=
  { stageSpec 0x39 0x02 (· == 16) (fun _ => true) (· < 160) (fun c => [.graphicLayer c.r.index (decGraphicLayer c.block)]) with
    bits := fun b => u16 b 14 < 32
    bitsReason := 0x00B9 }

/-- The custom matrix of a block (13 R570). -/
def decMatrix (b : Bytes) : MatrixCfg :=
  { m := (List.range 9).map (fun i => s16 b (2 + 2 * i)), pre := (List.range 3).map (fun i => s16 b (20 + 2 * i))
    post := (List.range 3).map (fun i => s16 b (26 + 2 * i)) }

/-- STAGE on Layer, selector 0x03 (13 R570). -/
def specStageLayerMatrix : ReqSpec :=
  stageSpec 0x39 0x03 (· == 32) (fun b => u8 b 1 == 0) (· < 160) (fun c => [.matrix c.r.index (decMatrix c.block)])

/-- STAGE on Layer, selector 0x04 (13 R562). -/
def specStageMeterFirst : ReqSpec :=
  stageSpec 0x39 0x04 (· == 4) (fun b => u8 b 1 == 0) (· < 160) (fun c => [.meterFirst c.r.index (u16 c.block 2)])

end Sys2Proof.Machine
end

