-- ==== Sys2Proof/Machine/Boundary.lean ====
section
/-! DEFINITION. Domain boundaries: the rebuild, the swap decision and its deferral, the landing of committed parts, and what a
boundary does besides (01 R25 to R36, R57; 02 R94, R111, R117; 03 R160 to R164; 09 R405, R406). -/
namespace Sys2Proof.Machine

/-! ### Landing of one setting -/

/-- A setting of a destination, or of what takes its domain from it: its embedded audio outputs, its stem and what the stem feeds
(01 R35; 05 R237; 10 R429). -/
def State.ofDst (s : State) (d : Nat) (x : Setting) : Bool :=
  match x with
  | .route e _ _ | .dstFormat e _ | .dstDomain e _ | .lockDst e _ | .unlockDst e _ => e == d
  | .aoutRoute a _ | .aoutFollow a _ | .aoutDomain a _ | .aoutDelay a _ | .aac a _ | .lockAout a _ | .unlockAout a _ =>
    a < 2048 && a / 16 == d
  | .stem k _ => 1024 + k == d
  | .rend r c => 1024 + (if (s.rend r).cfg.enable = 1 then (s.rend r).cfg.stem else c.stem) == d
  | .rendRate r _ => 1024 + (s.rend r).cfg.stem == d
  | .deliv _ c => c.rendition < 256 && 1024 + (s.rend c.rendition).cfg.stem == d
  | _ => false

/-- A setting of a head or of its layers. -/
def ofHead (h : Nat) : Setting → Bool
  | .head k _ | .headDomain k _ => k == h
  | .videoLayer l _ | .graphicLayer l _ | .matrix l _ | .meterFirst l _ => layerHead l == h
  | _ => false

/-- A setting of an audio output, or of a delivery that takes its domain from it. -/
def settingOfAout (a : Nat) : Setting → Bool
  | .aoutRoute b _ | .aoutFollow b _ | .aoutDomain b _ | .aoutDelay b _ | .aac b _ | .lockAout b _ | .unlockAout b _ => b == a
  | .deliv _ c => c.rendition ≥ 256 && c.aacs.head? == some a
  | _ => false

/-- The later settings of a unit in its old domain are cancelled when its domain assignment lands (01 R35). -/
def State.leaveDomain (s : State) (old new : Nat) (f : Setting → Bool) : State :=
  if old = new then s else s.cancelSettings (fun p x => p.domain == old && f x)

/-- A setting lands at frame `f` of its domain, at device time `ns`. -/
def State.landSetting (s : State) (f ns : Nat) (x : Setting) : State :=
  match x with
  | .route d k y => ((s.landRoute d k y).feedTaken d f).noteDst d f
  | .dstFormat d c => (s.landDstFormat d c).noteDst d f
  | .dstDomain d e => ((s.landDstDomain d e).leaveDomain (s.dst d).domain e (s.ofDst d)).noteDst d f
  | .lockDst d o => (s.modDst d (fun v => { v with lock := o })).noteDst d f
  | .unlockDst d _ => (s.modDst d (fun v => { v with lock := 0 })).noteDst d f
  | .srcLoss _ _ => s.put x
  | .srcOverride _ _ => s.put x
  | .aoutRoute a _ => (s.put x).dueAout a id
  | .aoutFollow a _ => (s.put x).dueAout a id
  | .aoutDomain a d => (s.put x).leaveDomain (s.aoutDomain a) d (settingOfAout a)
  | .aoutDelay a n => (s.put x).dueAout a (fun v => { v with moved := v.moved || (s.aout a).delay != n })
  | .aac a _ => (s.put x).dueAout a id
  | .lockAout _ _ => s.put x
  | .unlockAout _ _ => s.put x
  | .slotMask p c => s.landMask p c
  | .flow k c y => s.landFlow k c y f
  | .dscp _ _ => s.put x
  | .queue q c => s.modQueue q (fun v => { v with cfg := c, deficit := 0 })
  | .gateList p c => s.landGateList p c ns
  | .plane c => s.landPlane c
  | .stem k c => s.landStem k c f
  | .rend r c => s.landRend r c f
  | .rendRate r c => s.landRate r c f
  | .deliv d c => s.landDeliv d c f
  | .decCtx k c => s.landCtx k c
  | .head h c => s.landHead h c
  | .headDomain h d => (s.landHeadDomain h d).leaveDomain (s.head h).domain d (ofHead h)
  | .videoLayer l c => s.landVideoLayer l c
  | .graphicLayer l c => s.landGraphicLayer l c
  | .matrix _ _ => s.put x
  | .meterFirst _ _ => s.put x

/-! ### Landing of parts (01 R31; 02 R94, R111, R117; 07 R334) -/

/-- Why a setting is dropped at its landing: a lock of another tag, or a live rival (02 R117; 07 R334). -/
def State.dropStatus (s : State) (owner : Nat) (x : Setting) : Option Nat :=
  if s.lockedFor owner x then some stLocked else if s.rival x then some stBusy else none

/-- One setting of a part lands or is dropped; the settings dropped so far are collected with their statuses. -/
def State.landOne (owner f ns : Nat) (a : State × List (Setting × Nat)) (x : Setting) : State × List (Setting × Nat) :=
  match a.1.dropStatus owner x with
  | some st => (a.1, a.2 ++ [(x, st)])
  | none => (a.1.landSetting f ns x, a.2)

/-- A part lands at frame `f`: its settings in their order, an event for each one dropped, whose converter and buffers go back to their pools,
and the landing event that was asked
for or that reports another frame than the one announced (02 R94, R117; 09 R406). -/
def State.landPart (s : State) (f ns : Nat) (p : Part) : State :=
  let o := p.items.foldl (State.landOne p.owner f ns) (s, [])
  let n := p.items.length - o.2.length
  let s1 := (if o.2.isEmpty then o.1 else o.1.release).each o.2 (fun t e => t.event { landingEv p e.2 f n with noun := (settingUnit e.1).1, index := (settingUnit e.1).2 })
  if p.landEvent || f != p.frame then s1.event (landingEv p p.status f n) else s1

/-- Parts of a domain that are due at a frame, in arrival order (02 R111; 09 R406). -/
def State.duePart (s : State) (d f : Nat) : List Part := orderBy (·.arrival) (s.parts.filter (fun p => p.domain == d && p.frame ≤ f))

/-- Destinations that a part routes, or whose format or domain it changes. -/
def routedBy (l : List Part) : List Nat :=
  (l.flatMap (fun p => p.items.filterMap (fun x => match x with | .route d _ _ => some d | _ => none))).eraseDups

/-! ### The rebuild and the swap decision (01 R33, R34; 03 R160, R163) -/

/-- The routes due at the next boundary of a domain are written into its shadow bank (03 R160, R164). -/
def State.writeShadow (s : State) (d : Nat) : State :=
  s.each ((s.duePart d (s.domain d).nextFrame).flatMap (·.items)) (fun t x =>
    match x with | .route e k y => t.modDst e (fun v => { v with shadow := (k, y) }) | _ => t)

/-- SHADOW_REBUILD: the rebuild for the next boundary is complete, or cannot be completed (03 R160, R163). -/
def State.shadowRebuild (s : State) (d : Nat) (complete : Bool) : State :=
  if s.domainOn d && s.mode.current.rings && !(s.domain d).decided then
    (s.modDomain d (fun x => { x with rebuilt := complete, shadowBad := !complete })).when complete (fun t => t.writeShadow d)
  else s

/-- The whole swap of a domain moves to its following boundary (01 R33, R34; 03 R163). -/
def State.deferSwap (s : State) (d : Nat) : State :=
  let f := (s.domain d).nextFrame
  let due := s.duePart d f
  if due.isEmpty then s
  else
    let s1 := { s with parts := s.parts.map (fun (p : Part) => if p.domain == d && p.frame ≤ f then { p with frame := f + 1, status := stDeferred } else p) }
    let s2 := (s1.countDeferral d).each (due.flatMap (fun p => p.items)) State.markDeferred
    s2.each due (fun t p => t.event (landingEv p stDeferred (f + 1) 0))

/-- The swap is armed, or the boundary keeps the live banks (01 R33; 03 R160; 04 R179). -/
def State.decideSwap (s : State) (d : Nat) : State :=
  let s1 := s.modDomain d (fun x => { x with decided := true, armed := !x.shadowBad, snap := some (s.membersOf d) })
  if (s.domain d).shadowBad then s1.deferSwap d else s1.writeShadow d

/-- SWAP_DECISION, 100 µs before the boundary (03 R160). -/
def State.swapDecision (s : State) (d : Nat) : State :=
  if s.domainOn d && s.mode.current.rings && !(s.domain d).decided then
    (s.advanceTo ((s.domain d).nextNs - 100000)).decideSwap d
  else s

/-! ### The boundary (01 R25, R28, R57; 03 R160; 09 R405) -/

/-- Vertical blanking of a domain's reference raster in ns (03 R134; 09 R405). -/
def blankingNs (rate raster : Nat) : Nat :=
  match rasterOf raster with
  | some r => if rateNum rate = 0 then 0 else r.blanking * rateDen rate * 1000000000 / (rateNum rate * r.total)
  | none => 0

/-- The domain after its boundary: the frame begun, the bank select changed if the swap was armed, and the next boundary, which ends the
absorbing frame of a step of device time (01 R33, R58; 03 R160, R164; 09 R405). -/
def DomainSt.pass (x : DomainSt) (d : Nat) : DomainSt :=
  let y := { x with frame := BitVec.ofNat 64 x.nextFrame, lastNs := x.nextNs, shadowBad := false, rebuilt := false, armed := false,
                    bank := x.bank != x.armed, decided := false, snap := none }
  if d = 0 then { y with nextFrame := x.nextFrame + 1, nextNs := (x.nextFrame + 1) * 10000000 }
  else if x.stepDelta = 0 then { y with nextFrame := x.nextFrame + 1, nextNs := boundaryNs x.rate x.raster (x.nextFrame + 1) }
  else if x.nextNs ≥ x.stepNs + 1000000 then
    let n := frameFrom x.rate x.raster (x.nextNs + periodPs x.rate / 1000 - blankingNs x.rate x.raster)
    { y with nextFrame := n, nextNs := boundaryNs x.rate x.raster n, absorbed := x.absorbed + 1, lastStep := x.stepDelta, stepDelta := 0 }
  else { y with nextFrame := x.nextFrame + 1, nextNs := shiftNs (boundaryNs x.rate x.raster (x.nextFrame + 1)) x.stepDelta }

/-- Destinations of a domain that the state lists; an unlisted one holds nothing that a boundary changes. -/
def State.dstsOf (s : State) (d : Nat) : List Nat := (s.dsts.filter (fun e => e.2.domain == d)).map (·.1)

/-- The landings of a boundary, and what follows from them at its destinations, stems and heads (01 R31, R47; 03 R155, R160;
05 R240; 10 R450, R463; 13 R552, R573). -/
def State.landAll (s : State) (d f ns : Nat) (members : List Nat) : State :=
  let due := s.duePart d f
  let s1 := { s with parts := s.parts.filter (fun p => !(p.domain == d && p.frame ≤ f)) }
  let s2 := due.foldl (fun t p => t.landPart f ns p) s1
  let s3 := s2.each (routedBy due) State.followTake
  let s4 := (s3.each (s.dstsOf d ++ s3.dstsOf d).eraseDups (State.settleDst d members)).stopDecode
  let s5 := if s4.coresRun then s4 else s4.clauseStop (fun k => s4.feedDomain k == d)
  let s6 := s5.clauseBoundary d f
  s6.each [0, 1] (fun t h => if due.any (fun p => p.items.any (ofHead h)) then t.flip h f else t)

/-- A boundary of a domain passes (01 R28; 03 R160). -/
def State.boundary (s : State) (d : Nat) : State :=
  let x := s.domain d
  let s0 := s.advanceTo x.nextNs
  let s1 := if x.decided then s0 else s0.decideSwap d
  let s2 := ({ s1 with mode := { s1.mode with swapsDeferred := s1.mode.swapsDeferred.filter (· != d) } } : State).modDomain d (fun y => y.pass d)
  let s3 := s2.landAll d x.nextFrame x.nextNs ((s1.domain d).snap.getD [])
  s3.each [0, 1] (fun t h => if (t.head h).domain == d then t.judgeHead h else t)

/-- VIDEO_DOMAIN_BOUNDARY (01 R28; 03 R160); settings land in service and in Standby (02 R121). -/
def State.videoBoundary (s : State) (d : Nat) : State :=
  if within d 1 8 && s.domainOn d && s.mode.current.rings then s.boundary d else s

/-- What the always-on monitors and NVM hold stands as an alarm while the fast domains run: an entry to Boot clears every alarm, and
the next domain 0 boundary raises these again (02 R65; 09 R422; 15 R650; log entry 64). -/
def State.reraise (s : State) : State :=
  if !s.mode.current.fast then s
  else
    let s1 := s.when s.thermal.warn (fun t => t.raise almTjWarning 0)
    let s2 := s1.when s.thermal.throttle (fun t => t.raise almTjThrottle 0)
    let s3 := s2.each s.fittedSensors (fun t k => t.when (s.sensor k).failed (fun u => u.raise almSensorFail k))
    let s4 := s3.when (s.hg.state == .freeRun) (fun t => t.raise almHgFreerun 0)
    let s5 := s4.when (s.hg.state == .holdover || s.hg.state == .expired) (fun t => t.raise almHgHoldover 0)
    s5.each [0, 1, 2, 3] (fun t n => t.when (s.repair.pending.any (fun p => p.reach == n)) (fun u => u.raise almRepairPending n))

/-- DOMAIN0_BOUNDARY (01 R25, R57; 08 R372; 14 R599; 15 R636, R639). -/
def State.housekeeping (s : State) : State :=
  if !s.pins.aonResetN then s
  else
    let s1 := s.boundary 0
    let s2 := { s1 with mode := { s1.mode with heartbeat := s1.mode.heartbeat + 1 } }
    s2.reraise.handback.starvedEnd.thermalBoundary

end Sys2Proof.Machine
end

