-- ==== Sys2Proof/Machine/Counting.lean ====
section
/-! DEFINITION. Subscriptions, the event log and the counters as the host reads them (02 R95, R96; 15 R650 to R658). -/
namespace Sys2Proof.Machine

/-! ### Subscriptions (02 R96) -/

/-- Noun index that stands for every unit. -/
def everyUnit : Nat := 0xFFFFFFFF

/-- Subscription handle. -/
def subMax : Nat := 1024

/-- SUBSCRIBE (02 R95, R96). -/
def specSubscribe : ReqSpec where
  verb := 0x0A
  noun := 0x40
  len := (· == 12)
  form := fun b => zeroFrom b 2 2 && zeroFrom b 8 4
  index := (· == everyUnit)
  body := fun c s =>
    let x : Sub := { noun := u8 c.block 0, subcode := u8 c.block 1, index := u32 c.block 4 }
    match s.subscriptions.find? (fun e => e.2 == x) with
    | some e => (okWith (le 2 e.1 ++ le 2 0), s)
    | none =>
      match (List.range subMax).find? (fun h => (tget (fun _ => none) s.events.subs h).isNone) with
      | none => (fail stCapacity 0, s)
      | some h => (okWith (le 2 h ++ le 2 0), { s with events := { s.events with subs := tset (fun _ => none) s.events.subs h (some x) } })

/-- UNSUBSCRIBE (02 R96). -/
def specUnsubscribe : ReqSpec where
  verb := 0x0B
  noun := 0x40
  index := fun k => k < subMax || k == everyUnit
  body := fun c s =>
    if c.r.index = everyUnit then (okWith [], { s with events := { s.events with subs := [] } })
    else if (tget (fun _ => none) s.events.subs c.r.index).isNone then (fail stUnknown 0, s)
    else (okWith [], { s with events := { s.events with subs := tset (fun _ => none) s.events.subs c.r.index none } })

/-- Block of QUERY on Event with selector 0x02: the active subscriptions (02 R96). -/
def subscriptionBlock (s : State) : Bytes :=
  le 2 s.subscriptions.length ++ le 2 0 ++
    s.subscriptions.flatMap (fun e => le 2 e.1 ++ le 1 e.2.noun ++ le 1 e.2.subcode ++ le 4 e.2.index ++ le 4 0)

/-- QUERY on Event, selector 0x02: the active subscriptions (02 R96). -/
def specQuerySubscriptions : ReqSpec where
  verb := 0x01
  noun := 0x40
  sel := some 0x02
  len := (· == 1)
  alwaysIndirect := true
  body := fun _ s => (okWith (subscriptionBlock s), s)

/-- Block of QUERY on Event with selector 0x01 (15 R655). -/
def eventBlock (s : State) : Bytes :=
  le 8 s.storm.written ++ le 8 (s.cnt cntEventsLost 0) ++ le 2 s.subscriptions.length ++
    le 1 (if s.storm.startNs.isSome then 1 else 0) ++ List.replicate 5 0 ++ le 8 s.storm.stormS

/-- QUERY on Event, selector 0x01 (15 R655). -/
def specQueryEvent : ReqSpec where
  verb := 0x01
  noun := 0x40
  sel := some 0x01
  len := (· == 1)
  body := fun _ s => (okWith (eventBlock s), s)

/-- STORM_END: a second has passed since the last drop (15 R654, R662). -/
def State.stormEnd (s : State) : State :=
  if s.storm.startNs.isNone then s
  else
    let n := s.storm
    let s1 := s.advanceTo (n.lastDrop + 1000000000)
    State.event { s1 with storm := { n with startNs := none } } { code := 0x4011, noun := 0x40, data := le 8 n.dropped ++ le 8 n.traces }

/-! ### Counters and alarms (15 R656 to R658) -/

/-- Units of a noun, 0 for a noun that has none (02 R98, R728). -/
def nounUnits (noun : Nat) : Nat :=
  match noun with
  | 0x01 | 0x03 | 0x12 | 0x29 | 0x40 | 0x41 | 0x45 => 1
  | 0x02 => 4 | 0x04 => 9 | 0x10 | 0x11 => 1152 | 0x18 | 0x19 => 16384 | 0x1A => 64 | 0x20 => 384 | 0x21 => 64
  | 0x22 => 16384 | 0x23 => 768 | 0x24 => 64 | 0x25 => 2 | 0x28 => 8 | 0x2A => 64 | 0x30 => 64 | 0x31 => 256 | 0x32 => 1024
  | 0x34 => 4096 | 0x35 => 256 | 0x38 => 2 | 0x39 => 160 | 0x3C => 64 | 0x44 => 2 | 0x46 => 24
  | _ => 0

/-- Units under which the counters of a name are kept for a noun index: the stacks of a reach and the legs of a flow are two; an
I2C bus belongs to the Rill lanes bound to it (06 R293, R294, R299; 07 R337; 14 R625). -/
def State.keysOf (s : State) (instances index : Nat) : List Nat :=
  match instances with
  | 0 => if (s.lane index).bind.address = 0 then [] else [(s.lane index).bind.bus]
  | 1 => [index]
  | _ => [2 * index, 2 * index + 1]

/-- The alarms and counters of a unit: their numbers in the catalogue, and the units they are kept under (15 R657). -/
def State.names (s : State) (noun index : Nat) : List (Nat × Bool × Nat) :=
  (catalogue.filter (fun e => e.2.1 == noun)).flatMap (fun e => (s.keysOf e.2.2.1 index).map (fun k => (e.1, e.2.2.2.1, k)))

/-- The unit a noun index names is present: fitted in the variant and not retired (00 R5; 01 R17). -/
def State.unitThere (s : State) (noun index : Nat) : Bool :=
  match noun with
  | 0x02 => reachFitted s.fused.part index
  | 0x10 => s.present .src index
  | 0x11 => s.present .dst index
  | 0x18 => s.ainPresent index
  | 0x19 => s.aoutPresent index
  | 0x1A => s.aportPresent index
  | 0x20 => s.lanePresent index
  | 0x21 | 0x24 => s.portPresent index
  | 0x22 => s.flowPresent index
  | 0x23 => s.portPresent (index / 12)
  | 0x30 => s.stemPresent index
  | 0x31 => s.rendPresent index
  | 0x32 => s.delivPresent index
  | 0x34 => hasCores s.fused.part
  | 0x35 => s.ctxPresent index
  | 0x38 => s.present .head index
  | 0x39 => s.present .head (index / 80)
  | 0x3C => s.present .gauge index
  | _ => true

/-- One 16-byte entry (15 R657). -/
def State.nameEntry (s : State) (e : Nat × Bool × Nat) : Bytes :=
  let a := s.alarm e.1 e.2.2
  le 4 (Config.counterNameId e.1).toNat ++ le 4 (if e.2.1 then bitsOf [true, a.standing, a.sticky] else 0) ++
    le 8 (if e.2.1 then a.raises else s.cnt e.1 e.2.2)

/-- The entry of a name of an absent unit: value zero, and no alarm stands or is sticky (00 R5; 15 R657). -/
def absentEntry (e : Nat × Bool × Nat) : Bytes :=
  le 4 (Config.counterNameId e.1).toNat ++ le 4 (if e.2.1 then 1 else 0) ++ le 8 0

/-- Block of READ on Counter with selector 0x01; an absent unit's entries read zero (00 R5; 15 R657). -/
def counterBlock (s : State) (noun index : Nat) : Bytes :=
  le 4 (s.names noun index).length ++ le 4 0 ++ le 8 s.nowNs ++
    (s.names noun index).flatMap (if s.unitThere noun index then s.nameEntry else absentEntry)

/-- READ on Counter, selector 0x01 (15 R657). -/
def specReadCounter : ReqSpec where
  verb := 0x13
  noun := 0x41
  sel := some 0x01
  len := (· == 8)
  form := fun b => u8 b 1 == 0
  body := fun c s =>
    if u32 c.block 4 ≥ nounUnits (u16 c.block 2) then (fail stRange 0x00D3, s)
    else (okWith (counterBlock s (u16 c.block 2) (u32 c.block 4)), s)

/-- The 40-byte entry of a name (15 R658). -/
def catalogueEntry (e : Nat × Nat × Nat × Bool × String) : Bytes :=
  le 4 (Config.counterNameId e.1).toNat ++ le 2 e.2.1 ++ le 2 0 ++ padTo 32 (e.2.2.2.2.toList.map (fun ch => BitVec.ofNat 8 ch.toNat))

/-- Block of READ on Counter with selector 0x02 (15 R658). -/
def catalogueBlock : Bytes := le 4 catalogue.length ++ le 4 0 ++ catalogue.flatMap catalogueEntry

/-- READ on Counter, selector 0x02: the catalogue (15 R658). -/
def specReadCounterCatalogue : ReqSpec where
  verb := 0x13
  noun := 0x41
  sel := some 0x02
  len := (· == 1)
  body := fun _ s => (okWith catalogueBlock, s)

/-- WRITE on Counter, selector 0x03: sticky bits of a unit's alarms are cleared (15 R650, R658). -/
def specWriteCounterSticky : ReqSpec where
  verb := 0x14
  noun := 0x41
  sel := some 0x03
  len := (· == 12)
  form := fun b => u8 b 1 == 0
  body := fun c s =>
    let noun := u16 c.block 2
    let index := u32 c.block 4
    let id := u32 c.block 8
    if index ≥ nounUnits noun then (fail stRange 0x00D3, s)
    else
      let l := (s.names noun index).filter (fun e => e.2.1 && (id == 0xFFFFFFFF || id == (Config.counterNameId e.1).toNat))
      (okWith [], s.each l (fun t e => t.modAlarm e.1 e.2.2 (fun a => { a with sticky := false })))

end Sys2Proof.Machine
end

