-- ==== Sys2Proof/Machine/Gate.lean ====
section
/-! DEFINITION. The Gate page: doorbells, ring descriptors, the interrupt tree, and every register's read and write
(00 R11; 01 R54 to R59; 02 R63 to R79, R124 to R126; 09 R412 to R416; 13 R578; 14 R605; 15 R649, R651). -/
namespace Sys2Proof.Machine

/-- A Gate page access takes effect while the host link is up (17 R706, R707). -/
def State.gated (s : State) (f : State → State) : State := if s.hostLink then f s else s

/-! ### Rings (02 R71 to R79) -/

/-- The ring's indices are zeroed and its service begins (02 R75). -/
def State.ringOn (s : State) (n : Nat) : State :=
  if (s.ring n).enable then s
  else s.modRing n (fun g => { g with enable := true, active := true, producer := 0, rplConsumer := 0, reqConsumer := 0
                                      rplProducer := 0, bells := [] })

/-- Service ends: the requests not yet taken are discarded (02 R77). -/
def State.ringOff (s : State) (n : Nat) : State :=
  if (s.ring n).enable then s.modRing n (fun g => { g with enable := false, bells := [], producer := if n < 4 then g.reqConsumer else g.producer })
  else s

/-- RING_ENABLE (02 R75). -/
def State.ringEnable (s : State) (n : Nat) : State := s.gated (fun t => t.ringOn n)

/-- RING_DISABLE (02 R77). -/
def State.ringDisable (s : State) (n : Nat) : State := s.gated (fun t => t.ringOff n)

/-- RING_DRAIN_COMPLETE (02 R77). -/
def State.ringDrained (s : State) (n : Nat) : State :=
  if (s.ring n).enable then s else s.modRing n (fun g => { g with active := false })

/-- A write of DB_REQ (02 R71 to R73). -/
def State.bellReq (s : State) (n : Nat) (v : BitVec 32) : State :=
  let g := s.ring n
  let i := v.setWidth 16
  if n ≥ 4 || !g.enable then s
  else if (i - g.rplConsumer).toNat > ringDepth n then s.ringError n 0
  else if i = g.producer then s
  else s.modRing n (fun g => { g with producer := i, bells := g.bells ++ [(i.toNat, s.nowNs)] })

/-- An index of what the host has read: it may not pass the Clenak's own index (02 R73). -/
def State.bellRead (s : State) (n : Nat) (own : BitVec 16) (v : BitVec 32) : State :=
  let g := s.ring n
  let i := v.setWidth 16
  if !g.enable then s
  else if (i - g.rplConsumer).toNat > (own - g.rplConsumer).toNat then s.ringError n 0
  else s.modRing n (fun g => { g with rplConsumer := i })

/-- DB_REQ_WRITE. -/
def State.dbReq (s : State) (n : Nat) (v : BitVec 32) : State := s.gated (fun t => t.bellReq n v)

/-- DB_RPL_WRITE. -/
def State.dbRpl (s : State) (n : Nat) (v : BitVec 32) : State :=
  s.gated (fun t => if n < 4 then t.bellRead n (t.ring n).rplProducer v else t)

/-- DB_EVT_WRITE. -/
def State.dbEvt (s : State) (v : BitVec 32) : State := s.gated (fun t => t.bellRead 4 (t.ring 4).producer v)

/-- RING_FETCH_ERROR: the slot of the next request cannot be read (02 R78). -/
def State.fetchError (s : State) (n verb : Nat) (r : Request) (staged : Bool) : State :=
  if s.takes n then
    let a : Answer := if staged then { status := stIntegrity, payload := failedList r stIntegrity } else fail stIntegrity 0
    ((s.takeSlot n).ringError n 1).replyRing n verb r (sized r a)
  else s

/-- RING_WRITE_ERROR: the ring is disabled (02 R78). -/
def State.writeError (s : State) (n : Nat) : State :=
  if n < 5 && s.hostLink && (s.ring n).active then (s.ringError n 2).ringOff n else s

/-! ### Interrupts (02 R124 to R126) -/

/-- INT_ENABLE is written: a bit that becomes 1 while its cause is 1 sends a message; several on one vector send one
(02 R126). -/
def State.intEnable (s : State) (v : BitVec 32) : State :=
  let rise := v &&& ~~~ s.ints.enable &&& s.ints.cause
  let vs := (((List.range 32).filter (fun i => rise.getLsbD i)).map s.vectorOf).eraseDups
  State.each { s with ints := { s.ints with enable := v } } vs State.message

/-- INT_ENABLE_WRITE. -/
def State.intEnableWrite (s : State) (v : BitVec 32) : State := s.gated (fun t => t.intEnable v)

/-- INT_HOLDOFF_EXPIRY: the hold-off time of a vector passes, and its held message is sent (02 R126). -/
def State.holdoffExpiry (s : State) (v : Nat) : State :=
  let bit : BitVec 64 := BitVec.ofNat 64 (2 ^ v)
  if v ≥ 64 || !s.ints.heldOff.getLsbD v then s
  else
    let last := tget (fun _ => 0) s.ints.lastSent v
    let s1 := s.advanceTo (last + s.ints.holdoff.toNat * 1000 - 1)
    State.message { s1 with ints := { s1.ints with heldOff := s1.ints.heldOff &&& ~~~ bit } } v

/-- A vector is unmasked: a message held by the mask is sent (02 R126). -/
def State.unmasked (s : State) (v : Nat) : State :=
  let bit : BitVec 64 := BitVec.ofNat 64 (2 ^ v)
  if s.ints.pba.getLsbD v then State.message { s with ints := { s.ints with pba := s.ints.pba &&& ~~~ bit } } v else s

/-- A 32-bit half of a 64-bit register written. -/
def setHalf (a : BitVec 64) (high : Bool) (v : BitVec 32) : BitVec 64 :=
  if high then BitVec.ofNat 64 (a.toNat % 4294967296 + 4294967296 * v.toNat) else BitVec.ofNat 64 (a.toNat / 4294967296 * 4294967296 + v.toNat)

/-- A 32-bit half of a 64-bit register read. -/
def halfWord (a : BitVec 64) (high : Bool) : Nat := if high then a.toNat / 4294967296 else a.toNat % 4294967296

/-- A word of the MSI-X table is written: address low and high, data, vector control (02 R124, R126). -/
def State.msixWrite (s : State) (v word : Nat) (x : BitVec 32) : State :=
  let put := fun (f : MsixEntry → MsixEntry) => { s with ints := { s.ints with msix := lmod s.ints.msix v f } }
  match word with
  | 0 => put (fun e => { e with addr := setHalf e.addr false x })
  | 1 => put (fun e => { e with addr := setHalf e.addr true x })
  | 2 => put (fun e => { e with data := x })
  | _ =>
    let s1 := put (fun e => { e with mask := x.getLsbD 0 })
    if x.getLsbD 0 then s1 else s1.unmasked v

/-! ### Reads that latch (01 R58; 09 R412, R415, R416) -/

/-- A read of DOMAIN_FRAME_LO of a domain latches its DOMAIN_FRAME_HI, whatever reads it (01 R58). -/
def State.latchFrame (s : State) (o : Nat) : State :=
  if 0x140 ≤ o && o < 0x188 && o % 8 == 0 then s.modDomain ((o - 0x140) / 8) (fun x => { x with hiLatch := (x.frame >>> 32).setWidth 32 })
  else s

/-- DOMAIN_FRAME_LO_READ. -/
def State.frameLoRead (s : State) (d : Nat) : State :=
  s.gated (fun t =>
    if d > 8 then t
    else (t.latchFrame (0x140 + 8 * d)).emit
      (.regRead (0x140 + 8 * d) ((t.domain d).frame.toNat % 4294967296)))

/-- TIME_NS_READ. -/
def State.timeNsRead (s : State) : State :=
  s.gated (fun t =>
    State.emit { t with hg := { t.hg with snapNs := BitVec.ofNat 32 (t.nowNs % 1000000000), snapS := BitVec.ofNat 48 t.nowS
                                          snapFrac := BitVec.ofNat 16 (t.time / 65536 % 65536), snapState := BitVec.ofNat 3 t.hg.state.code } }
      (.regRead 0x2000 (t.nowNs % 1000000000)))

/-- INCR_NS_READ. -/
def State.incrNsRead (s : State) : State :=
  s.gated (fun t => State.emit { t with hg := { t.hg with incrLatch := t.hg.incrFrac } } (.regRead 0x2018 t.hg.incrNs))

/-- CAP_NS_READ. -/
def State.capNsRead (s : State) (n : Nat) : State :=
  s.gated (fun t =>
    if n ≥ 4 then t
    else (t.modCap n (fun c => { c with latchS := c.sec, latchFrac := c.frac, valid := false })).emit
      (.regRead (0x2104 + 0x20 * n) (t.cap n).ns.toNat))

/-! ### Reading a register -/

/-- MODE_STATUS (01 R54). -/
def State.modeStatus (s : State) : Nat :=
  let m := s.mode
  m.current.code + 16 * m.base.code + 256 * m.target.code + (if m.busy then 4096 else 0) + (if m.fallowMark then 8192 else 0) +
    16384 * (m.bootSel % 4) + 65536 * m.bootCause

/-- PIN_STATE (01 R56). -/
def State.pinState (s : State) : Nat := bitsOf [s.pins.pwrOk, s.pins.holdupOk, s.pins.tally != 0]

/-- The mode-and-state block, 0x0100 to 0x03FF (01 R54 to R59). -/
def State.readModeBlock (s : State) (o : Nat) : Nat :=
  if o = 0x100 then s.modeStatus
  else if o = 0x104 then s.mode.sticky.toNat
  else if o = 0x108 then s.pinState
  else if o = 0x10C then s.mode.heartbeat.toNat
  else if 0x140 ≤ o ∧ o < 0x188 then
    (if o % 8 = 0 then (s.domain ((o - 0x140) / 8)).frame.toNat % 4294967296 else (s.domain ((o - 0x140) / 8)).hiLatch.toNat)
  else if 0x1A0 ≤ o ∧ o < 0x1C4 then
    let d := (o - 0x1A0) / 4
    let x := s.domain d
    (if d = 0 then 0 else x.rate) + (if s.domainRuns d then 16 else 0) + 256 * (if d = 0 then 0 else x.raster)
  else 0

/-- The thermal summary, 0x3000 to 0x3FFF (15 R649, R651). -/
def State.readThermBlock (s : State) (o : Nat) : Nat :=
  if o = 0x3000 then s.thermStatus
  else if o = 0x3004 then s.thermal.sticky.toNat
  else if o = 0x3008 then u16 (leInt 2 s.thermal.tjMax) 0
  else if o = 0x300C then s.thermal.powerDw % 65536 + 65536 * (s.thermal.shedW % 65536)
  else if o = 0x3010 then
    (match s.thermal.grace with | some t => (cdiv (t - s.nowNs) 1000000) % 65536 | none => 0) + 65536 * (s.thermal.shedEst / 1000 % 65536)
  else if 0x3040 ≤ o ∧ o < 0x30A0 then
    let x := s.sensor ((o - 0x3040) / 4)
    u16 (leInt 2 x.temp) 0 + (if x.failed then 65536 else 0)
  else if o = 0x3100 then s.alarmSummary.toNat
  else if o = 0x3104 then s.storm.stkGroup.toNat + (if s.storm.stkStorm then 2147483648 else 0)
  else 0

/-- A word of a host Culvert channel (14 R605). -/
def CulvertSt.word (y : CulvertSt) (o : Nat) : Nat :=
  let x := y.shadow
  if o = 0x00 then halfWord x.src false else if o = 0x04 then halfWord x.src true
  else if o = 0x08 then halfWord x.dst false else if o = 0x0C then halfWord x.dst true
  else if o = 0x10 then x.length.toNat
  else if o = 0x14 then x.dir.toNat + (if x.intHalf then 4 else 0) + (if x.intFull then 8 else 0) + (if x.gaugeEn then 16 else 0) +
      32 * x.gaugeUnit.toNat + (if x.gaugeFinal then 512 else 0)
  else if o = 0x1C then bitsOf [y.active.isSome, y.armed, y.half, y.full, y.zero, y.overrun, y.aborted, y.stkError] + 256 * y.error
  else if o = 0x20 then y.done.toNat
  else if o = 0x24 then y.count.toNat
  else 0

/-- A word of a capture block (09 R416). -/
def CapSt.word (c : CapSt) (o : Nat) : Nat :=
  if o = 0x00 then bitsOf [c.enable, c.falling, c.event]
  else if o = 0x04 then c.ns.toNat
  else if o = 0x08 then c.latchS.toNat % 4294967296
  else if o = 0x0C then c.latchS.toNat / 4294967296
  else if o = 0x10 then c.latchFrac.toNat + (if c.valid then 65536 else 0) + (if c.overrun then 131072 else 0)
  else if o = 0x14 then c.count.toNat
  else 0

/-- log2 of the depth of a ring (02 R75). -/
def depthLog2 (n : Nat) : Nat := if n ≤ 1 then 8 else if n = 2 then 6 else if n = 3 then 10 else 12

/-- A word of the descriptor block of ring `n` (02 R74 to R76). -/
def Ring.word (g : Ring) (n o : Nat) : Nat :=
  if o = 0x00 then halfWord g.reqBase false else if o = 0x04 then halfWord g.reqBase true
  else if o = 0x08 then halfWord g.rplBase false else if o = 0x0C then halfWord g.rplBase true
  else if o = 0x10 then halfWord g.wbAddr false else if o = 0x14 then halfWord g.wbAddr true
  else if o = 0x18 then bitsOf [g.enable, g.active] + 256 * depthLog2 n
  else if o = 0x1C then g.reqConsumer.toNat + (if n < 4 then 65536 * g.rplProducer.toNat else 0)
  else if o = 0x20 then g.err.toNat
  else 0

/-- The interrupt tree, the MSI-X table and the pending-bit array, 0x1000 to 0x1FFF (02 R124, R125). -/
def State.readInts (s : State) (o : Nat) : Nat :=
  let i := s.ints
  if o = 0x1000 then i.cause.toNat
  else if o = 0x1004 then i.enable.toNat
  else if o = 0x1008 then i.holdoff.toNat
  else if 0x1040 ≤ o ∧ o < 0x10C0 then (i.vectors.getD ((o - 0x1040) / 4) 0).toNat
  else if 0x1800 ≤ o ∧ o < 0x1C00 then
    let e := i.msix.getD ((o - 0x1800) / 16) MsixEntry.reset
    match o % 16 / 4 with
    | 0 => halfWord e.addr false | 1 => halfWord e.addr true | 2 => e.data.toNat | _ => if e.mask then 1 else 0
  else if o = 0x1C00 then halfWord i.pba false
  else if o = 0x1C04 then halfWord i.pba true
  else 0

/-- The snapshot and Headgate registers, 0x2000 to 0x20FF (09 R412 to R415). -/
def State.readTime (s : State) (o : Nat) : Nat :=
  let h := s.hg
  if o = 0x2000 then s.nowNs % 1000000000
  else if o = 0x2004 then h.snapS.toNat % 4294967296
  else if o = 0x2008 then h.snapS.toNat / 4294967296
  else if o = 0x200C then h.snapFrac.toNat + 65536 * h.snapState.toNat
  else if o = 0x2010 then
    h.state.code + (if h.slewLeft != 0 then 8 else 0) + 16 * h.stage + (if h.bridging.isSome then 128 else 0) +
      256 * (h.selected.getD 0xFF) + 65536 * bitsOf ((List.range 8).map (fun k => (s.ref k).qualified))
  else if o = 0x2014 then h.sticky.toNat
  else if o = 0x2018 then h.incrNs
  else if o = 0x201C then h.incrLatch.toNat
  else if o = 0x2020 then u32 (leInt 4 h.phaseErr) 0
  else 0

/-- The compatibility page, 0x8000 to 0xBFFF (13 R578). -/
def State.readCompat (s : State) (o : Nat) : Nat :=
  let b := s.readback
  if o = 0x8000 then 0x3200
  else if o = 0x8010 then (if b.arm then 1 else 0) + 2 * b.head + 4 * b.slot + 16 * b.line
  else if o = 0x8014 then b.offset.toNat
  else if o = 0x8018 then bitsOf [b.done, b.invalid]
  else if o = 0x8020 then b.frame.toNat
  else if 0x8400 ≤ o ∧ o < 0x8800 then (b.words.getD ((o - 0x8400) / 4) 0).toNat
  else 0

/-- The identity and capability summary, 0x0000 to 0x00FF (02 R66 to R70). -/
def State.readIdentity (s : State) (o : Nat) : Nat :=
  let f := s.fused
  if o = 0x00 then 0x544D484F
  else if o = 0x04 then partCode f.part + 65536 * f.stepping.toNat
  else if o = 0x08 then f.protocol.toNat
  else if o = 0x0C then f.fwVersion.toNat
  else if o = 0x10 then halfWord f.serial false
  else if o = 0x14 then halfWord f.serial true
  else if o = 0x18 then 4 + 256 * 9 + 4096 * 6 + 65536 * 480 + 33554432 * 20
  else 0

/-- The value of the Gate page word at an aligned offset; reserved and write-only words read zero (00 R11; 02 R63, R64). -/
def State.readWord (s : State) (o : Nat) : Nat :=
  if o < 0x100 then s.readIdentity o
  else if o < 0x400 then s.readModeBlock o
  else if o < 0x1000 then 0
  else if o < 0x2000 then s.readInts o
  else if o < 0x2100 then s.readTime o
  else if o < 0x2180 then (s.cap ((o - 0x2100) / 0x20)).word (o % 0x20)
  else if o < 0x3000 then 0
  else if o < 0x4000 then s.readThermBlock o
  else if o < 0x4800 then (s.culvert ((o - 0x4000) / 0x100)).word (o % 0x100)
  else if o < 0x8000 then 0
  else if o < 0xC000 then s.readCompat o
  else if o < 0xC140 then (s.ring ((o - 0xC000) / 0x40)).word ((o - 0xC000) / 0x40) (o % 0x40)
  else 0

/-! ### Writing a register (00 R11) -/

/-- A field that a written 1 clears (00 R11). -/
def w1c {n : Nat} (f : BitVec n) (v : BitVec 32) : BitVec n := f &&& ~~~ (v.setWidth n)

/-- A flag that a written 1 at bit `i` clears (00 R11). -/
def w1cAt (f : Bool) (v : BitVec 32) (i : Nat) : Bool := f && !v.getLsbD i

/-- A bit that stands while a shutdown record awaits its acknowledgement is not cleared by a write (15 R644). -/
def State.standing (s : State) (i n : Nat) : BitVec n := if s.unacked = 0 then 0 else BitVec.ofNat n (2 ^ i)

/-- STATE_STICKY (01 R55; 15 R644). -/
def State.writeModeBlock (s : State) (o : Nat) (v : BitVec 32) : State :=
  if o = 0x104 then { s with mode := { s.mode with sticky := w1c s.mode.sticky v ||| (s.mode.sticky &&& s.standing 5 7) } } else s

/-- The doorbells (02 R71). -/
def State.writeBell (s : State) (o : Nat) (v : BitVec 32) : State :=
  if o < 0x410 then s.bellReq ((o - 0x400) / 4) v
  else if o < 0x420 then s.bellRead ((o - 0x410) / 4) (s.ring ((o - 0x410) / 4)).rplProducer v
  else if o = 0x420 then s.bellRead 4 (s.ring 4).producer v
  else s

/-- The interrupt tree and the MSI-X table (02 R124 to R126; 15 R644). -/
def State.writeInts (s : State) (o : Nat) (v : BitVec 32) : State :=
  if o = 0x1000 then { s with ints := { s.ints with cause := w1c s.ints.cause v ||| (s.ints.cause &&& s.standing 23 32) } }
  else if o = 0x1004 then s.intEnable v
  else if o = 0x1008 then { s with ints := { s.ints with holdoff := v.setWidth 10 } }
  else if 0x1040 ≤ o ∧ o < 0x10C0 then
    { s with ints := { s.ints with vectors := lmod s.ints.vectors ((o - 0x1040) / 4) (fun _ => v.setWidth 6) } }
  else if 0x1800 ≤ o ∧ o < 0x1C00 then s.msixWrite ((o - 0x1800) / 16) (o % 16 / 4) v
  else s

/-- HG_STICKY (09 R414). -/
def State.writeTime (s : State) (o : Nat) (v : BitVec 32) : State :=
  if o = 0x2014 then { s with hg := { s.hg with sticky := w1c s.hg.sticky v } } else s

/-- A word of a capture block: enabling it starts its count again (09 R416). -/
def CapSt.write (c : CapSt) (o : Nat) (v : BitVec 32) : CapSt :=
  if o = 0x00 then
    { c with enable := v.getLsbD 0, falling := v.getLsbD 1, event := v.getLsbD 2
             count := if v.getLsbD 0 && !c.enable then 0 else c.count }
  else if o = 0x10 then { c with overrun := w1cAt c.overrun v 17 }
  else c

/-- THERM_STICKY and ALARM_STICKY (15 R649, R651, R654). -/
def State.writeThermBlock (s : State) (o : Nat) (v : BitVec 32) : State :=
  if o = 0x3004 then { s with thermal := { s.thermal with sticky := w1c s.thermal.sticky v } }
  else if o = 0x3104 then
    { s with storm := { s.storm with stkGroup := w1c s.storm.stkGroup v
                                     stkStorm := if s.storm.startNs.isSome then s.storm.stkStorm else w1cAt s.storm.stkStorm v 31 } }
  else s

/-- A word of the shadow set (14 R605). -/
def Shadow.write (x : Shadow) (o : Nat) (v : BitVec 32) : Shadow :=
  if o = 0x00 then { x with src := setHalf x.src false v } else if o = 0x04 then { x with src := setHalf x.src true v }
  else if o = 0x08 then { x with dst := setHalf x.dst false v } else if o = 0x0C then { x with dst := setHalf x.dst true v }
  else if o = 0x10 then { x with length := v }
  else if o = 0x14 then
    { x with dir := v.setWidth 2, intHalf := v.getLsbD 2, intFull := v.getLsbD 3, gaugeEn := v.getLsbD 4
             gaugeUnit := (v >>> 5).setWidth 4, gaugeFinal := v.getLsbD 9 }
  else x

/-- A word of a host Culvert channel: the shadow set, arm and abort, and the status bits (14 R605, R606, R611). -/
def State.writeCulvert (s : State) (c o : Nat) (v : BitVec 32) : State :=
  if o = 0x18 then (s.when (v.getLsbD 0 && !v.getLsbD 1) (fun t => t.culvertArm c)).when (v.getLsbD 1) (fun t => t.culvertAbort c)
  else if o = 0x1C then
    let s1 := s.modCulvert c (fun y => { y with half := w1cAt y.half v 2, full := w1cAt y.full v 3, zero := w1cAt y.zero v 4
                                                overrun := w1cAt y.overrun v 5, aborted := w1cAt y.aborted v 6 })
    s1.when (v.getLsbD 7) (fun t => t.culvertClear c)
  else if (s.culvert c).armed then s
  else s.modCulvert c (fun y => { y with shadow := y.shadow.write o v })

/-- The compatibility page (13 R578). -/
def State.writeCompat (s : State) (o : Nat) (v : BitVec 32) : State :=
  if o = 0x8010 then s.readbackArm v
  else if o = 0x8014 then { s with readback := { s.readback with offset := v.setWidth 16 } }
  else if o = 0x8018 then { s with readback := { s.readback with invalid := w1cAt s.readback.invalid v 1 } }
  else s

/-- A word of the descriptor block of ring `n`; its addresses are written only while the ring is not enabled (02 R74 to R76). -/
def State.writeRing (s : State) (n o : Nat) (v : BitVec 32) : State :=
  if o = 0x18 then (if v.getLsbD 0 then s.ringOn n else s.ringOff n)
  else if o = 0x20 then s.modRing n (fun g => { g with err := w1c g.err v })
  else if (s.ring n).enable then s
  else s.modRing n (fun g =>
    if o = 0x00 then { g with reqBase := setHalf g.reqBase false v } else if o = 0x04 then { g with reqBase := setHalf g.reqBase true v }
    else if o = 0x08 then { g with rplBase := setHalf g.rplBase false v } else if o = 0x0C then { g with rplBase := setHalf g.rplBase true v }
    else if o = 0x10 then { g with wbAddr := setHalf g.wbAddr false v } else if o = 0x14 then { g with wbAddr := setHalf g.wbAddr true v }
    else g)

/-- A 32-bit write of the Gate page word at an aligned offset, by the access codes of its fields (00 R11; 02 R64). -/
def State.writeWord (s : State) (o : Nat) (v : BitVec 32) : State :=
  if o < 0x100 then s
  else if o < 0x400 then s.writeModeBlock o v
  else if o < 0x1000 then s.writeBell o v
  else if o < 0x2000 then s.writeInts o v
  else if o < 0x2100 then s.writeTime o v
  else if o < 0x2180 then s.modCap ((o - 0x2100) / 0x20) (fun c => c.write (o % 0x20) v)
  else if o < 0x3000 then s
  else if o < 0x4000 then s.writeThermBlock o v
  else if o < 0x4800 then s.writeCulvert ((o - 0x4000) / 0x100) (o % 0x100) v
  else if o < 0x8000 then s
  else if o < 0xC000 then s.writeCompat o v
  else if o < 0xC140 then s.writeRing ((o - 0xC000) / 0x40) (o % 0x40) v
  else s

/-- GATE_BAD_ACCESS: an access that is not an aligned 32-bit one has no effect and is counted; a read returns zero (02 R64). -/
def State.badAccess (s : State) (o : Nat) (write : Bool) : State :=
  s.gated (fun t => (t.count cntGateBadAccess 0 1).when (!write) (fun x => x.emit (.regRead o 0)))

/-- REGISTER_WRITE: an aligned write; one that is not aligned is a bad access (00 R11; 02 R64). -/
def State.registerWrite (s : State) (o : Nat) (v : BitVec 32) : State :=
  if o % 4 = 0 then s.gated (fun t => t.writeWord o v) else s.badAccess o true

end Sys2Proof.Machine
end

