-- ==== Sys2Proof/Machine/Outputs.lean ====
section
/-! DEFINITION. What the outputs of a destination begin at its frame start: the frame of a Rill lane with its payload ID, ancillary packets and
embedded audio, and the frame of its send flows (01 R46; 04 R202; 05 R221; 07 R316, R322). -/
namespace Sys2Proof.Machine

/-- The groups of four channels that are embedded in a Rill output of ST 292-1 or faster: those with a routed channel, a routed channel without
signal as silence (05 R221). -/
def State.embedded (s : State) (k raster : Nat) : List AudioGroup :=
  if raster < 0x10 then []
  else (List.range 4).filterMap (fun g =>
    let ks := (List.range 4).map (fun i => 16 * k + 4 * g + i)
    if ks.any (fun a => (s.aout a).live != 0xFFFF) then
      some { group := g + 1, silent := ks.map s.aoutSilent, bits := 24, delay := 0, synchronous := true }
    else none)

/-- The ancillary packets of a Rill output: those of its frame on the lead's lane, and the test mark in Test mode (01 R46; 07 R322; log entry
157). -/
def State.rillAnc (s : State) (d m : Nat) : List AncPacket :=
  (if m = 0 then (s.dst d).anc else []) ++
    (if s.runMode == .test then
       [testPacket (match rasterOf (s.dstFmt d).raster with | some r => r.switching | none => 0) s.fused.serial.toNat]
     else [])

/-- The lanes of a Rill output begin a frame, each with its own payload ID and channels, where no test tool has the lane (04 R202; 05 R221; 06 R285;
07 R322). -/
def State.rillStart (s : State) (d : Nat) : State :=
  let f := s.outFmt d (frameFmt (s.frameOn d)).colour
  let g := { f with colour := resolveColour f.colour 0x11 }
  s.each ((List.range (max 1 f.gang)).filter (fun m => s.carriesVideo (d + m))) (fun t m =>
    t.emit (.rillFrame (d + m) g (vpidOf (s.outRate d) g (s.domain (s.dst d).domain).rate (m + 1)) (s.rillAnc d m) (s.embedded (d + m) f.raster)))

/-- The send flows of a destination begin a frame under their live entries (07 R316). -/
def State.sendStart (s : State) (d : Nat) : State :=
  s.each ((s.flows.filter (fun e => e.1 ≥ 8192 && (e.2.cfg.kind == 0x01 || e.2.cfg.kind == 0x04) && e.2.cfg.binding == d)).map (·.1)) (fun t f =>
    t.modFlow f (fun x => { x with paced := 0, waits := false, old := none }))

/-- The outputs of a destination at its frame start. -/
def State.startOutputs (s : State) (d : Nat) : State :=
  if !s.dstRuns d then s else (s.when (isRill d) (fun t => t.rillStart d)).sendStart d

end Sys2Proof.Machine
end

