-- ==== Sys2Proof/Machine/Serve.lean ====
section
/-! DEFINITION. Every verb on every noun, and the carriers that spell a request in bytes: the service port and the in-band
management flow (02 R97, R98, R122; 16 R675, R676; 17 R710, R711). -/
namespace Sys2Proof.Machine

/-- The requests of the opcode table, part 1 of 6; `k` is the noun index. -/
def specs1 (_k : Nat) : List ReqSpec :=
  [specQueryDevice, specResetDevice, specCommit, specCancelStageSet, specCancelCommitted, specSetMode, specQueryMode,
   specSetDomain, specQueryDomain, specQueryReach, specQueryReachBandwidth, specSubscribe, specUnsubscribe,
   specQuerySubscriptions, specQueryEvent, specTake, specSalvo, specStageDstRoute, specStageDstFormat, specStageDstDomain,
   specSetSrcFormat, specSetSrcGenerator, specQueryDst, specQuerySrc]

/-- The requests of the opcode table, part 2 of 6; `k` is the noun index. -/
def specs2 (k : Nat) : List ReqSpec :=
  [specLockDst, specUnlockDst, specStageSrcLossAction, specStageSrcOverride, specSetDstProbe, specQueryDstProbe,
   specQuerySrcAlignment, specSetSrcPlayoutPost, specSetDstCaptureHold, specQueryDstCapture, specTakeAudioOut,
   specStageAudioOutRoute, specStageAudioOutFollow, specStageAudioOutDomain, specStageAudioOutDelay, specStageAacProgramme,
   specLockAudioOut, specUnlockAudioOut, specSetAudioPort, specStageSlotMask, specQueryAudioIn, specQueryAudioOut,
   specSetLaneTransmit k, specSetLaneReceive k]

/-- The requests of the opcode table, part 3 of 6; `k` is the noun index. -/
def specs3 (k : Nat) : List ReqSpec :=
  [specSetLaneAsymmetry k, specSetLaneTestTools k, specSetLaneEyeScan k, specReadLaneEyeScan k, specSetLaneI2cBind k,
   specWriteLaneI2c k, specSetLaneRateHooks k, specQueryLane, specResetLane, specSetEthPort, specSetEthPortPtp,
   specQueryEthPort, specResetEthPort, specStageFlow, specQueryFlow, specStageQueueDscpMap, specStageQueue,
   specReadQueueSamples, specQueryQueue, specStageGateList, specQueryGateList, specStagePlane, specSetPlaneDiagnosis,
   specQueryPlane]

/-- The requests of the opcode table, part 4 of 6; `k` is the noun index. -/
def specs4 (_k : Nat) : List ReqSpec :=
  [specSetRefInput, specQueryRefInput, specSetTimebase, specSetTimebasePhase, specSetTimebaseAbsolute, specQueryTimebase,
   specSetTrigger, specQueryTrigger, specStageStem, specQueryStem, specQueryStemCapacity, specStageRendition,
   specStageRenditionRate, specQueryRendition, specQueryRenditionRate, specStageDelivery, specQueryDelivery, specSubmitJob,
   specCancelJob, specQueryJob, specQueryJobReaches, specSetJobTrace, specReadJobTrace, specStageDecodeCtx]

/-- The requests of the opcode table, part 5 of 6; `k` is the noun index. -/
def specs5 (_k : Nat) : List ReqSpec :=
  [specQueryDecodeCtx, specResetDecodeCtx, specStageHead, specStageHeadDomain, specSetHeadFreeze, specSetHeadStickyClear,
   specQueryHead, specStageVideoLayer, specStageGraphicLayer, specStageLayerMatrix, specStageMeterFirst,
   specWriteLayerSurface, specQueryLayer, specSetGauge, specWriteGaugeData, specSetGaugeFeed, specQueryGauge,
   specSetGaugeValue, specSetGaugeFinalise, specResetGauge, specAckThermal, specReadThermalRecords, specSetThermal,
   specQueryThermal]

/-- The requests of the opcode table, part 6 of 6; `k` is the noun index. -/
def specs6 (_k : Nat) : List ReqSpec :=
  [specReadCounter, specReadCounterCatalogue, specWriteCounterSticky, specOpenImage, specPutImage, specCloseImage,
   specActivateImage, specSetImage, specQueryImage, specLockImage, specUnlockImage, specReadCalset, specWriteCalset,
   specSetCalsetRecalibrate]

/-- Every request that the block takes; `k` is the noun index (02 R97, R98). -/
def allSpecs (k : Nat) : List ReqSpec := specs1 k ++ specs2 k ++ specs3 k ++ specs4 k ++ specs5 k ++ specs6 k

/-! ### Requests in bytes (02 R88, R97, R98, R122) -/

/-- The request in a frame (02 R88, R122). -/
def frameRequest (carrier : Carrier) (b : Bytes) : Request where
  carrier := carrier
  seq := u32 b 0
  flags := BitVec.ofNat 8 (u8 b 5)
  index := u32 b 8
  domain := u8 b 14
  owner := u8 b 15
  target := u64 b 16
  cookie := u64 b 24
  payload := (b.drop 32).take (b.length - 36)
  input := none

/-- The frame's CRC-32C agrees (02 R122). -/
def frameIntact (b : Bytes) : Bool := b.length ≥ 36 && u32 b (b.length - 4) == crc32c (b.take (b.length - 4))

/-- The request that a verb, a noun and a block name (02 R97, R98, R101). -/
def specFor (verb noun : Nat) (r : Request) : Option ReqSpec :=
  (allSpecs r.index).find? (fun q => q.verb == verb && q.noun == noun && (match q.sel with | some v => u8 r.payload 0 == v | none => true) &&
    q.len r.payload.length)

/-- A request frame served: its CRC, its verb and noun, and then the request it spells (02 R100, R122; 16 R676). -/
def State.serveFrame (s : State) (carrier : Carrier) (b : Bytes) : State :=
  let r := frameRequest carrier b
  let verb := u8 b 4
  let noun := u16 b 6
  let known := (verbKnown verb && nounKnown noun) || (match carrier with | .inband _ => true | _ => false)
  let failed := fun status => if verbStaged verb && noun != 0x44 then { fail status 0 with payload := failedList r status } else fail status 0
  if !frameIntact b then s.reply verb r (failed stIntegrity)
  else if !known then s.reply verb r (failed stUnknown)
  else if u16 b 12 != r.payload.length then s.reply verb r (failed stInvalid)
  else match specFor verb noun r with
  | some q => serve q r s
  | none => s.reply verb r (failed stInvalid)

/-! ### The service port (17 R710, R711) -/

/-- Bytes that the service port shifts out. -/
def State.svcOut (s : State) (b : Bytes) : State := ({ s with svc := { s.svc with outBytes := b } }).emit (.svc b)

/-- SVC_SEND: a frame sent while a reply waits is discarded (17 R711). -/
def State.svcSend (s : State) (b : Bytes) : State :=
  if !s.pins.aonResetN then s
  else if s.svc.reply.isSome then { s with svc := { s.svc with overrun := true } }
  else s.serveFrame .service b

/-- SVC_STATUS (17 R710); a request is answered in the step that takes it, so none is ever seen in progress. -/
def State.svcStatus (s : State) : State :=
  if !s.pins.aonResetN then s
  else s.svcOut (layout 4 [(0, le 1 (bitsOf [s.svc.reply.isSome, false, s.svc.overrun, s.mode.current == .fallow, s.mode.current == .dormant])),
    (1, le 1 s.mode.current.code), (2, le 2 (s.svc.reply.getD []).length)])

/-- SVC_FETCH: the reply frame, and reply ready and overrun clear (17 R711). -/
def State.svcFetch (s : State) : State :=
  if !s.pins.aonResetN then s
  else State.svcOut { s with svc := { s.svc with reply := none, overrun := false } } (s.svc.reply.getD [] ++ [0])

/-- SVC_WORD; an offset that is no multiple of four returns zero too (17 R711; log entry 173). -/
def State.svcWord (s : State) (o : Nat) : State :=
  if !s.pins.aonResetN then s
  else ((s.latchFrame o)).svcOut (le 4 (if (within o 0x100 0x3FF || within o 0x3000 0x3FFF) && o % 4 == 0 then s.readWord o else 0))

/-! ### The in-band management flow (16 R676) -/

/-- INBAND_REQUEST: a datagram to the management address at mgmt_udp, at most 2,000 a second (16 R676). -/
def State.inbandRequest (s : State) (sender : InbandSender) (b : Bytes) : State :=
  match s.mgmtPort with
  | none => s
  | some p =>
    if s.levee.cfg.udp = 0 || !s.linkOn p then s
    else
      let n := if s.image.inbandNs = s.nowS then s.image.inbandCount else 0
      let s1 := { s with image := { s.image with inbandNs := s.nowS, inbandCount := n + 1 } }
      if n ≥ 2000 then s.count cntInbandDrop 0 1 else s1.serveFrame (.inband sender) b

/-! ### Fetch errors (02 R78, R90) -/

/-- RING_FETCH_ERROR (02 R78). -/
def State.ringFetchError (s : State) (n verb : Nat) (r : Request) : State := s.fetchError n verb r (verbStaged verb)

end Sys2Proof.Machine
end

