-- ==== Sys2Proof/Machine/CmdArch.lean ====
section
/-! DEFINITION. Architecture commands: the meaning of each, over the shared operations. -/
namespace Sys2Proof.Machine

/-- DOMAIN_FRAME_LO_READ: A read of DOMAIN_FRAME_LO latches DOMAIN_FRAME_HI of the same domain. (01 R58) -/
def execDomainFrameLoRead (d : Nat) (s : State) : Res := .next (s.frameLoRead d)

/-- SET_MODE: SET on Mode requests a listed mode transition, answered at acceptance. (01 R53) -/
def execSetMode (r : Request) (s : State) : Res := .next (serve specSetMode r s)

/-- QUERY_MODE: QUERY on Mode returns the current, base and target modes, flags, boot cause and last change time. (01 R53) -/
def execQueryMode (r : Request) (s : State) : Res := .next (serve specQueryMode r s)

/-- SET_DOMAIN: SET on Domain sets the rate and reference raster of a video domain, enabling, changing or disabling it. (01
R60) -/
def execSetDomain (r : Request) (s : State) : Res := .next (serve specSetDomain r s)

/-- QUERY_DOMAIN: QUERY on Domain returns the domain's rate, raster, flags, pending count and boundary times. (01 R60) -/
def execQueryDomain (r : Request) (s : State) : Res := .next (serve specQueryDomain r s)

/-- QUERY_REACH: QUERY on Reach with selector 0x01 returns the reach's units, fences and remaining spares. (01 R61) -/
def execQueryReach (r : Request) (s : State) : Res := .next (serve specQueryReach r s)

/-- AON_RESET_RELEASE: AON_RESET_N is released; device time starts at 0:0 and the Clenak enters Dormant. (01 R50) -/
def execAonResetRelease (s : State) : Res := .next (s.aonRelease)

/-- SYS_RESET_ASSERT: SYS_RESET_N asserts; the fast domains turn off and the Clenak enters Dormant. (01 R50) -/
def execSysResetAssert (s : State) : Res := .next (s.sysAssert)

/-- BOOT_IMAGE_VERIFIED: The boot ROM verifies an image and the Clenak enters Training. (01 R50) -/
def execBootImageVerified (s : State) : Res := .next (s.imageVerified)

/-- BOOT_TO_RECOVERY: BOOT_SEL selects recovery or no slot verifies, and the Clenak enters Recovery. (01 R50) -/
def execBootToRecovery (s : State) : Res := .next (s.bootToRecovery)

/-- BOOT_TO_FALLOW: Boot finds the Fallow mark set and ends in Fallow. (01 R49) -/
def execBootToFallow (s : State) : Res := .next (s.bootToFallow)

/-- TRAINING_COMPLETE: Self-test and repair complete and the Clenak enters Standby. (01 R50) -/
def execTrainingComplete (found : List Finding) (s : State) : Res := .next (s.trainingDone found)

/-- MODE_TRANSITION_COMPLETE: A mode transition completes, reported by a mode event, stk_mode_changed and MODE_STATUS. (01
R52) -/
def execModeTransitionComplete (s : State) : Res := .next (s.transitionDone)

/-- UNIT_FENCE: A hard fault in service fences a unit, records it pending repair and raises alm_repair_pending. (01 R19) -/
def execUnitFence (kind : UnitKind) (index : Nat) (element : Element) (s : State) : Res := .next (s.fence kind index element)

/-- DOMAIN0_BOUNDARY: A 10 ms housekeeping boundary passes and domain 0 settings land. (01 R25) -/
def execDomain0Boundary (s : State) : Res := .next (s.housekeeping)

/-- SWAP_DECISION: At t = -100 µs the swap is armed if the shadow is complete. (01 R33) -/
def execSwapDecision (d : Nat) (s : State) : Res := .next (s.swapDecision d)

/-- DEST_SWITCHING_LINE: A destination on another raster switches at its own first switching line after the boundary. (01 R29) -/
def execDestSwitchingLine (dst : Nat) (s : State) : Res := .next (s.switchingLine dst)

/-- CORE_GATE: A core with no work has its fast clock gated. (01 R42) -/
def execCoreGate (reach : Nat) (consumer : Nat) (index : Nat) (s : State) : Res := .next (s.coreGate reach consumer index)

/-- WATCHDOG_EXPIRY: The watchdog runs out and the Clenak enters Boot with boot_cause 0x3. (01 R54) -/
def execWatchdogExpiry (s : State) : Res := .next (s.watchdog)

/-- HOLDUP_OK_RISE: HOLDUP_OK returns high for 100 µs and holdup_ok reads 1 again, lifting the refusal of PUT and ACTIVATE.
(01 R56) -/
def execHoldupOkRise (s : State) : Res := .next (s.holdupRise)

end Sys2Proof.Machine
end

