-- ==== Sys2Proof/Machine/CmdClause.lean ====
section
/-! DEFINITION. Clause commands: the meaning of each, over the shared operations. -/
namespace Sys2Proof.Machine

/-- STAGE_STEM: STAGE on Stem stages a stem's analysis settings and enable. (10 R443) -/
def execStageStem (r : Request) (s : State) : Res := .next (serve specStageStem r s)

/-- QUERY_STEM: QUERY on Stem with selector 0x01 returns a stem's state, home, bands and load. (10 R465) -/
def execQueryStem (r : Request) (s : State) : Res := .next (serve specQueryStem r s)

/-- QUERY_STEM_CAPACITY: QUERY on Stem with selector 0x02 returns each reach's Clause capacity and load. (10 R465) -/
def execQueryStemCapacity (r : Request) (s : State) : Res := .next (serve specQueryStemCapacity r s)

/-- STAGE_RENDITION: STAGE on Rendition with selector 0x01 stages a rendition's codec, size and refresh settings. (10 R447) -/
def execStageRendition (r : Request) (s : State) : Res := .next (serve specStageRendition r s)

/-- QUERY_RENDITION: QUERY on Rendition with selector 0x01 returns a rendition's state, split, load and counts. (10 R466) -/
def execQueryRendition (r : Request) (s : State) : Res := .next (serve specQueryRendition r s)

end Sys2Proof.Machine
end

