-- ==== Sys2Proof/Machine/CmdCompositor.lean ====
section
/-! DEFINITION. Compositor commands: the meaning of each, over the shared operations. -/
namespace Sys2Proof.Machine

/-- STAGE_HEAD: STAGE on Head with selector 0x01 stages a head's raster, colour, background, pairing and scan-out entries.
(13 R546) -/
def execStageHead (r : Request) (s : State) : Res := .next (serve specStageHead r s)

/-- STAGE_HEAD_DOMAIN: STAGE on Head with selector 0x03 stages a head's domain assignment. (13 R549) -/
def execStageHeadDomain (r : Request) (s : State) : Res := .next (serve specStageHeadDomain r s)

/-- SET_HEAD_FREEZE: SET on Head with selector 0x10 sets the head freeze detector. (13 R574) -/
def execSetHeadFreeze (r : Request) (s : State) : Res := .next (serve specSetHeadFreeze r s)

/-- SET_HEAD_STICKY_CLEAR: SET on Head with selector 0x11 clears the head's sticky bits. (13 R574) -/
def execSetHeadStickyClear (r : Request) (s : State) : Res := .next (serve specSetHeadStickyClear r s)

/-- QUERY_HEAD: QUERY on Head returns a head's state, flips, signature and fetch load. (13 R576) -/
def execQueryHead (r : Request) (s : State) : Res := .next (serve specQueryHead r s)

/-- STAGE_VIDEO_LAYER: STAGE on Layer with selector 0x01 stages a video layer. (13 R554) -/
def execStageVideoLayer (r : Request) (s : State) : Res := .next (serve specStageVideoLayer r s)

/-- STAGE_GRAPHIC_LAYER: STAGE on Layer with selector 0x02 stages a graphic layer. (13 R559) -/
def execStageGraphicLayer (r : Request) (s : State) : Res := .next (serve specStageGraphicLayer r s)

/-- STAGE_LAYER_MATRIX: STAGE on Layer with selector 0x03 stages a custom colour matrix. (13 R570) -/
def execStageLayerMatrix (r : Request) (s : State) : Res := .next (serve specStageLayerMatrix r s)

/-- STAGE_METER_FIRST: STAGE on Layer with selector 0x04 stages the first ain of an audio meter. (13 R562) -/
def execStageMeterFirst (r : Request) (s : State) : Res := .next (serve specStageMeterFirst r s)

/-- WRITE_LAYER_SURFACE: WRITE on Layer with selector 0x21 writes pixels into a graphic surface buffer. (13 R560) -/
def execWriteLayerSurface (r : Request) (s : State) : Res := .next (serve specWriteLayerSurface r s)

/-- QUERY_LAYER: QUERY on Layer returns a layer's drawn state, taps and box factors. (13 R577) -/
def execQueryLayer (r : Request) (s : State) : Res := .next (serve specQueryLayer r s)

/-- HEAD_FRAME_START: At a head frame start each layer takes its source frame and the line-buffer step is chosen. (13 R556) -/
def execHeadFrameStart (head : Nat) (peaks : List (Nat × Nat)) (s : State) : Res := .next (s.headFrameStart head peaks)

/-- HEAD_FRAME_COMPLETE: A composed frame completes and is signed for the freeze detector. (13 R574) -/
def execHeadFrameComplete (head : Nat) (s : State) : Res := .next (s.headFrameComplete head)

/-- READBACK_ARM: Writing arm on the compatibility page arms a word capture on a scan-out output. (13 R578) -/
def execReadbackArm (value : BitVec 32) (s : State) : Res := .next (s.gated (fun t => t.readbackArm value))

/-- READBACK_CAPTURE: The selected head transmits the line and 256 words are captured. (13 R578) -/
def execReadbackCapture (words : List Nat) (s : State) : Res := .next (s.readbackCapture words)

end Sys2Proof.Machine
end

