-- ==== Sys2Proof/Machine/CmdElectrical.lean ====
section
/-! DEFINITION. Reset, power and service port commands: the meaning of each, over the shared operations. -/
namespace Sys2Proof.Machine

/-- PCIE_PERST_ASSERT: PCIE_PERST_N is asserted in Boot or later and acts as the hot reset of R65. (17 R707) -/
def execPciePerstAssert (s : State) : Res := .next (s.pcieReset)

/-- SVC_SEND: The service port takes a request frame at SVC_CS_N rise, checks its CRC and serves it. (17 R711) -/
def execSvcSend (frame : Bytes) (s : State) : Res := .next (s.svcSend frame)

/-- SVC_STATUS: The STATUS command returns reply-ready, busy, overrun, mode and reply length. (17 R710) -/
def execSvcStatus (s : State) : Res := .next (s.svcStatus)

/-- SVC_FETCH: The FETCH command returns the reply frame and clears reply ready and overrun. (17 R711) -/
def execSvcFetch (s : State) : Res := .next (s.svcFetch)

/-- SVC_WORD: The WORD command returns a mode-and-state or thermal summary word. (17 R711) -/
def execSvcWord (offset : Nat) (s : State) : Res := .next (s.svcWord offset)

/-- AON_RESET_ASSERT: AON_RESET_N asserts or an always-on rail drops, holding the always-on domain in reset. (17 R704) -/
def execAonResetAssert (s : State) : Res := .next (s.aonAssert)

/-- SYS_RESET_RELEASE: SYS_RESET_N is released, latching BOOT_SEL and raising MAIN_PWR_EN toward Boot. (17 R702) -/
def execSysResetRelease (bootSel : Nat) (s : State) : Res := .next (s.sysRelease bootSel)

/-- PWR_OK_RISE: PWR_OK rises, allowing Boot to begin 1 ms later. (17 R702) -/
def execPwrOkRise (s : State) : Res := .next (s.pwrRise)

/-- PWR_OK_FALL: PWR_OK falls in a mode other than Dormant and Fallow and acts as SYS_RESET_N assertion. (17 R703) -/
def execPwrOkFall (s : State) : Res := .next (s.pwrFall)

/-- PWR_OK_TIMEOUT: PWR_OK has not risen 1 s after MAIN_PWR_EN; MAIN_PWR_EN is lowered and the Clenak stays Dormant. (17 R702) -/
def execPwrOkTimeout (s : State) : Res := .next (s.pwrTimeout)

/-- BOOT_START: 1 ms after reset release or wake and PWR_OK, Boot begins. (17 R702) -/
def execBootStart (s : State) : Res := .next (s.bootStart)

/-- TALLY_CHANGE: A TALLY input holds a new level for 100 µs and tally_any follows. (17 R714) -/
def execTallyChange (n : Nat) (level : Bool) (s : State) : Res := .next (s.tallyChange n level)

/-- JTAG_INSTRUCTION: A TAP operation on the JTAG pins loads or runs a boundary-scan instruction, acting only while
SYS_RESET_N is asserted for EXTEST, CLAMP and HIGHZ. (17 R723) -/
def execJtagInstruction (ir : JtagOp) (s : State) : Res := .next (s.jtagRun ir)

end Sys2Proof.Machine
end

