-- ==== Sys2Proof/Machine/CmdHeadgate.lean ====
section
/-! DEFINITION. Headgate commands: the meaning of each, over the shared operations. -/
namespace Sys2Proof.Machine

/-- TIME_NS_READ: A read of TIME_NS latches the seconds, fraction and Headgate state of the snapshot to the read's arrival.
(09 R412) -/
def execTimeNsRead (s : State) : Res := .next (s.timeNsRead)

/-- INCR_NS_READ: A read of INCR_NS latches INCR_FRAC. (09 R415) -/
def execIncrNsRead (s : State) : Res := .next (s.incrNsRead)

/-- CAP_NS_READ: A read of CAP_NS latches the rest of the capture block and clears valid. (09 R416) -/
def execCapNsRead (pin : Nat) (s : State) : Res := .next (s.capNsRead pin)

/-- SET_REF_INPUT: SET on RefInput configures a Headgate reference, re-evaluating selection or disqualifying it. (09 R381) -/
def execSetRefInput (r : Request) (s : State) : Res := .next (serve specSetRefInput r s)

/-- QUERY_REF_INPUT: QUERY on RefInput returns a reference's state, rank, readings and phase. (09 R411) -/
def execQueryRefInput (r : Request) (s : State) : Res := .next (serve specQueryRefInput r s)

/-- SET_TIMEBASE: SET on Timebase with selector 0x01 sets the loop settings. (09 R409) -/
def execSetTimebase (r : Request) (s : State) : Res := .next (serve specSetTimebase r s)

/-- SET_TIMEBASE_PHASE: SET on Timebase with selector 0x02 steps or slews device time by a written amount. (09 R402) -/
def execSetTimebasePhase (r : Request) (s : State) : Res := .next (serve specSetTimebasePhase r s)

/-- SET_TIMEBASE_ABSOLUTE: SET on Timebase with selector 0x03 sets device time absolutely as a step. (09 R402) -/
def execSetTimebaseAbsolute (r : Request) (s : State) : Res := .next (serve specSetTimebaseAbsolute r s)

/-- QUERY_TIMEBASE: QUERY on Timebase returns Headgate state, selected reference, stage and frequency. (09 R410) -/
def execQueryTimebase (r : Request) (s : State) : Res := .next (serve specQueryTimebase r s)

/-- SET_TRIGGER: SET on Trigger programs a host trigger. (09 R418) -/
def execSetTrigger (r : Request) (s : State) : Res := .next (serve specSetTrigger r s)

/-- QUERY_TRIGGER: QUERY on Trigger reports a trigger's settings. (09 R417) -/
def execQueryTrigger (r : Request) (s : State) : Res := .next (serve specQueryTrigger r s)

/-- LOOP_UPDATE: The Headgate loop writes a new increment to the device time counter. (09 R400) -/
def execLoopUpdate (phase : Int) (freq : Int) (s : State) : Res := .next (s.loopUpdate phase freq)

/-- REF_MONITOR_READING: A reference's frequency monitor produces a reading that may disqualify it. (09 R383) -/
def execRefMonitorReading (k : Nat) (ppb : Int) (s : State) : Res := .next (s.refReading k ppb)

/-- REF_ACTIVITY_LOST: A reference's activity monitor times out and the reference is disqualified. (09 R383) -/
def execRefActivityLost (k : Nat) (s : State) : Res := .next (s.refLost k)

/-- REF_QUALIFY: A reference's qualification timer runs out and it qualifies. (09 R384) -/
def execRefQualify (k : Nat) (s : State) : Res := .next (s.refQualify k)

/-- ACQUIRE_STAGE_PASS: The phase error stays below a stage threshold for its time and the loop narrows a stage. (09 R391) -/
def execAcquireStagePass (s : State) : Res := .next (s.stagePass)

/-- LOCKED_BANDWIDTH_NARROW: In Locked, after 10/bandwidth seconds, the bandwidth divides by 10 toward track_bw. (09 R391) -/
def execLockedBandwidthNarrow (s : State) : Res := .next (s.narrow)

/-- HOLDOVER_EXPIRY: Holdover lasts holdover_max_s and Headgate enters Holdover-expired. (09 R390) -/
def execHoldoverExpiry (s : State) : Res := .next (s.holdoverExpiry)

/-- HISTORY_RECORD: Once per second in Locked, the mean frequency enters the holdover history. (09 R394) -/
def execHistoryRecord (meanFreq : Int) (s : State) : Res := .next (s.historyRecord meanFreq)

/-- PTP_BRIDGE_TIMEOUT: No measurement from the new follower within 2 s loses PTP activity. (09 R389) -/
def execPtpBridgeTimeout (s : State) : Res := .next (s.bridgeTimeout)

/-- TRIGGER_FIRE: A host trigger fires, driving pins, raising source 11 and writing event 0x2A11. (09 R419) -/
def execTriggerFire (k : Nat) (s : State) : Res := .next (s.triggerFire k)

/-- PPS_OUT_PULSE: PPS_OUT rises at each whole second unless squelched. (09 R420) -/
def execPpsOutPulse (s : State) : Res := .next (s.ppsPulse)

/-- TCAP_EDGE: An edge on a TCAP pin is timestamped into its capture block. (09 R416) -/
def execTcapEdge (pin : Nat) (falling : Bool) (s : State) : Res := .next (s.capEdge pin falling)

end Sys2Proof.Machine
end

