-- ==== Sys2Proof/Machine/CmdHealth.lean ====
section
/-! DEFINITION. Health and thermal commands: the meaning of each, over the shared operations. -/
namespace Sys2Proof.Machine

/-- QUERY_EVENT: QUERY on Event with selector 0x01 returns event counts, losses, subscriptions and storm state. (15 R655) -/
def execQueryEvent (r : Request) (s : State) : Res := .next (serve specQueryEvent r s)

/-- ACK_THERMAL: ACK on Thermal acknowledges the newest shutdown record and every earlier one. (15 R644) -/
def execAckThermal (r : Request) (s : State) : Res := .next (serve specAckThermal r s)

/-- READ_THERMAL_RECORDS: READ on Thermal with selector 0x10 returns the shutdown records, newest first. (15 R645) -/
def execReadThermalRecords (r : Request) (s : State) : Res := .next (serve specReadThermalRecords r s)

/-- SET_THERMAL: SET on Thermal sets grace time, psi and the decode shed mask. (15 R647) -/
def execSetThermal (r : Request) (s : State) : Res := .next (serve specSetThermal r s)

/-- QUERY_THERMAL: QUERY on Thermal returns status, power, rails, sensor readings and Clause clocks. (15 R648) -/
def execQueryThermal (r : Request) (s : State) : Res := .next (serve specQueryThermal r s)

/-- READ_COUNTER: READ on Counter with selector 0x01 returns every counter and alarm of a unit at one instant. (15 R657) -/
def execReadCounter (r : Request) (s : State) : Res := .next (serve specReadCounter r s)

/-- READ_COUNTER_CATALOGUE: READ on Counter with selector 0x02 returns the counter name catalogue. (15 R658) -/
def execReadCounterCatalogue (r : Request) (s : State) : Res := .next (serve specReadCounterCatalogue r s)

/-- WRITE_COUNTER_STICKY: WRITE on Counter with selector 0x03 clears named alarm sticky bits of a unit. (15 R658) -/
def execWriteCounterSticky (r : Request) (s : State) : Res := .next (serve specWriteCounterSticky r s)

/-- SENSOR_SAMPLE: Every 1 ms each junction sensor is sampled and thresholds judged. (15 R629) -/
def execSensorSample (readings : List Int) (s : State) : Res := .next (s.sensorSample readings)

/-- THRESHOLD_RELEASE: Every sensor stays below a release point for 1 s and the threshold releases. (15 R631) -/
def execThresholdRelease (level : Nat) (s : State) : Res := .next (s.thresholdRelease level)

/-- GRACE_EXPIRY: The grace time ends with the throttle standing; Throttled is entered and enforcement steps begin. (15 R636) -/
def execGraceExpiry (s : State) : Res := .next (s.graceExpiry)

/-- ENFORCEMENT_REEVALUATE: Every 1 s under the threshold, the next step is taken if the temperature has not fallen. (15 R637) -/
def execEnforcementReevaluate (s : State) : Res := .next (s.reevaluate)

/-- CLAUSE_CLOCK_STEP: Every 100 ms a reach's Clause clock is lowered by 62.5 MHz toward its live floor. (15 R636) -/
def execClauseClockStep (reach : Nat) (s : State) : Res := .next (s.clockStep reach)

/-- POWER_SAMPLE: Rail currents are measured every 1 ms. (15 R646) -/
def execPowerSample (rails : List Nat) (s : State) : Res := .next (s.powerSample rails)

/-- STORM_END: 1 s without a dropped event or trace entry ends the storm interval with event 0x4011. (15 R654) -/
def execStormEnd (s : State) : Res := .next (s.stormEnd)

end Sys2Proof.Machine
end

