-- ==== Sys2Proof/Machine/CmdLanes.lean ====
section
/-! DEFINITION. Lane commands: the meaning of each, over the shared operations. -/
namespace Sys2Proof.Machine

/-- SET_LANE_TRANSMIT: SET on Lane with selector 0x02 sets the taps, swing and flags of a Flume transmitter or Rill output.
(06 R271) -/
def execSetLaneTransmit (r : Request) (s : State) : Res := .next (serve (specSetLaneTransmit r.index) r s)

/-- SET_LANE_RECEIVE: SET on Lane with selector 0x03 sets CTLE and rate settings and restarts adaptation when changed. (06
R276) -/
def execSetLaneReceive (r : Request) (s : State) : Res := .next (serve (specSetLaneReceive r.index) r s)

/-- SET_LANE_ASYMMETRY: SET on Lane with selector 0x04 sets a Flume lane's timestamp asymmetry trims. (06 R291) -/
def execSetLaneAsymmetry (r : Request) (s : State) : Res := .next (serve (specSetLaneAsymmetry r.index) r s)

/-- SET_LANE_TEST_TOOLS: SET on Lane with selector 0x10 sets pattern generator, checker and loopback in Test mode. (06 R286) -/
def execSetLaneTestTools (r : Request) (s : State) : Res := .next (serve (specSetLaneTestTools r.index) r s)

/-- SET_LANE_EYE_SCAN: SET on Lane with selector 0x11 starts an eye scan. (06 R289) -/
def execSetLaneEyeScan (r : Request) (s : State) : Res := .next (serve (specSetLaneEyeScan r.index) r s)

/-- READ_LANE_EYE_SCAN: READ on Lane with selector 0x11 returns the eye scan header and error counts. (06 R289) -/
def execReadLaneEyeScan (r : Request) (s : State) : Res := .next (serve (specReadLaneEyeScan r.index) r s)

/-- SET_LANE_I2C_BIND: SET on Lane with selector 0x20 binds a Rill lane to an I2C device. (06 R294) -/
def execSetLaneI2cBind (r : Request) (s : State) : Res := .next (serve (specSetLaneI2cBind r.index) r s)

/-- WRITE_LANE_I2C: WRITE on Lane with selector 0x21 queues an I2C transaction to the bound device. (06 R295) -/
def execWriteLaneI2c (r : Request) (s : State) : Res := .next (serve (specWriteLaneI2c r.index) r s)

/-- SET_LANE_RATE_HOOKS: SET on Lane with selector 0x22 stores the SD and HD rate hook register writes. (06 R296) -/
def execSetLaneRateHooks (r : Request) (s : State) : Res := .next (serve (specSetLaneRateHooks r.index) r s)

/-- QUERY_LANE: QUERY on Lane returns the lane's kind, state, mode, FoM and live settings. (06 R298) -/
def execQueryLane (r : Request) (s : State) : Res := .next (serve specQueryLane r s)

/-- LANE_SIGNAL_DETECT: A lane's input is present for 1 ms and adaptation begins. (06 R279) -/
def execLaneSignalDetect (lane : Nat) (s : State) : Res := .next (s.signalDetect lane)

/-- ADAPT_STEP_END: An adaptation step ends and the next begins. (06 R279) -/
def execAdaptStepEnd (lane : Nat) (res : AdaptResult) (s : State) : Res := .next (s.adaptStep lane res)

/-- QUALIFY_TIMEOUT: Qualify has not ended in 200 ms; the lane returns to Acquire. (06 R282) -/
def execQualifyTimeout (lane : Nat) (s : State) : Res := .next (s.qualifyTimeout lane)

/-- FOM_UPDATE: A lane computes a new figure of merit. (06 R277) -/
def execFomUpdate (lane : Nat) (levels : LevelStats) (s : State) : Res := .next (s.fomUpdate lane levels)

/-- FOM_ALARM_CLEAR: The FoM stays at the threshold for 1 s and alm_lane_fom clears. (06 R282) -/
def execFomAlarmClear (lane : Nat) (s : State) : Res := .next (s.fomClear lane)

/-- LANE_INPUT_LOSS: Input is lost for 1 ms or Rill CDR lock fails; the lane returns to Detect. (06 R282) -/
def execLaneInputLoss (lane : Nat) (s : State) : Res := .next (s.laneLoss lane)

/-- EYE_SCAN_COMPLETE: An eye scan ends and event 0x2013 is written. (06 R289) -/
def execEyeScanComplete (lane : Nat) (counts : List Nat) (s : State) : Res := .next (s.eyeDone lane counts)

/-- PRBS_CHECKER_LOCK: A checker locks after 1,024 error-free bits and begins counting. (06 R287) -/
def execPrbsCheckerLock (lane : Nat) (s : State) : Res := .next (s.prbsLock lane)

/-- PRBS_CHECKER_RELOCK: More than 256 errors in 1,024 bits lose lock and the checker reseeds. (06 R287) -/
def execPrbsCheckerRelock (lane : Nat) (bits : Nat) (errors : Nat) (symbolErrors : Nat) (s : State) : Res :=
  .next (s.prbsRelock lane bits errors symbolErrors)

/-- I2C_TRANSACTION_END: An I2C transaction ends and event 0x2014 reports the result. (06 R295) -/
def execI2cTransactionEnd (bus : Nat) (res : I2cResult) (s : State) : Res := .next (s.i2cEnd bus res)

/-- I2C_STRETCH_TIMEOUT: Clock stretch exceeds 25 ms; the transaction ends and the bus is recovered. (06 R297) -/
def execI2cStretchTimeout (bus : Nat) (sdaLow : Bool) (s : State) : Res := .next (s.i2cStretch bus sdaLow)

/-- RATE_HOOK_START: Rate hook writes start at t = -2 ms or at Rill input rate lock. (06 R296) -/
def execRateHookStart (lane : Nat) (hd : Bool) (s : State) : Res := .next (s.hookStart lane hd)

end Sys2Proof.Machine
end

