-- ==== Sys2Proof/Machine/CmdLateral.lean ====
section
/-! DEFINITION. Lateral commands: the meaning of each, over the shared operations. -/
namespace Sys2Proof.Machine

/-- TAKE_AUDIO_OUT: TAKE on AudioOut stages and commits the route of an aout. (05 R235) -/
def execTakeAudioOut (r : Request) (s : State) : Res := .next (serve specTakeAudioOut r s)

/-- STAGE_AUDIO_OUT_ROUTE: STAGE on AudioOut with selector 0x01 stages an aout route. (05 R235) -/
def execStageAudioOutRoute (r : Request) (s : State) : Res := .next (serve specStageAudioOutRoute r s)

/-- STAGE_AUDIO_OUT_FOLLOW: STAGE on AudioOut with selector 0x02 makes an aout follow a destination. (05 R239) -/
def execStageAudioOutFollow (r : Request) (s : State) : Res := .next (serve specStageAudioOutFollow r s)

/-- STAGE_AUDIO_OUT_DOMAIN: STAGE on AudioOut with selector 0x03 stages the domain of a network aout. (05 R237) -/
def execStageAudioOutDomain (r : Request) (s : State) : Res := .next (serve specStageAudioOutDomain r s)

/-- STAGE_AUDIO_OUT_DELAY: STAGE on AudioOut with selector 0x04 stages the delay of an aout. (05 R238) -/
def execStageAudioOutDelay (r : Request) (s : State) : Res := .next (serve specStageAudioOutDelay r s)

/-- STAGE_AAC_PROGRAMME: STAGE on AudioOut with selector 0x05 stages an AAC programme's profile, channels and bit rate. (05
R250) -/
def execStageAacProgramme (r : Request) (s : State) : Res := .next (serve specStageAacProgramme r s)

/-- LOCK_AUDIO_OUT: LOCK on AudioOut stages a lock of an aout. (05 R242) -/
def execLockAudioOut (r : Request) (s : State) : Res := .next (serve specLockAudioOut r s)

/-- UNLOCK_AUDIO_OUT: UNLOCK on AudioOut stages the release of an aout lock. (05 R242) -/
def execUnlockAudioOut (r : Request) (s : State) : Res := .next (serve specUnlockAudioOut r s)

/-- SET_AUDIO_PORT: SET on AudioPort with selector 0x01 configures, enables or disables a serial or AES3 port. (05 R223) -/
def execSetAudioPort (r : Request) (s : State) : Res := .next (serve specSetAudioPort r s)

/-- STAGE_SLOT_MASK: STAGE on AudioPort with selector 0x02 stages a serial port's slot mask. (05 R226) -/
def execStageSlotMask (r : Request) (s : State) : Res := .next (serve specStageSlotMask r s)

/-- QUERY_AUDIO_IN: QUERY on AudioIn returns the converter state, ratio and slips of an ain. (05 R253) -/
def execQueryAudioIn (r : Request) (s : State) : Res := .next (serve specQueryAudioIn r s)

/-- QUERY_AUDIO_OUT: QUERY on AudioOut returns the live route, gain, domain and settings of an aout. (05 R254) -/
def execQueryAudioOut (r : Request) (s : State) : Res := .next (serve specQueryAudioOut r s)

/-- CONVERTER_MEASURE: An audio converter measures its ratio every 100 ms and changes state. (05 R231) -/
def execConverterMeasure (ain : Nat) (ratioPpb phase : Int) (fill : Nat) (s : State) : Res := .next (s.measureAin ain ratioPpb phase fill)

/-- AUDIO_ACTIVITY_LOSS: Activity is missing for more than 2 sample periods and the input enters No signal. (05 R233) -/
def execAudioActivityLoss (ain buffered : Nat) (s : State) : Res :=
  .next (if s.ainPresent ain then (s.modAin ain (fun x => { x with fill := fillOf x.state buffered })).loseAin ain else s)

/-- AUDIO_SLIP: A converter buffer reaches a limit and a sample is dropped or repeated. (05 R232) -/
def execAudioSlip (ain : Nat) (s : State) : Res := .next (s.slipAin ain)

/-- AUDIO_BOUNDARY: An aout reaches its audio boundary and landed settings begin their zero-crossing searches. (05 R243) -/
def execAudioBoundary (aout : Nat) (run : AudioRun) (s : State) : Res := .next (s.audioBoundary aout run)

/-- ZERO_CROSSING: A stop or start finds its zero crossing and the signal ends or begins. (05 R244) -/
def execZeroCrossing (aout : Nat) (start : Bool) (run : AudioRun) (s : State) : Res := .next (s.zeroCrossing aout start run)

/-- ZERO_CROSSING_TIMEOUT: No crossing within 5 ms ramps the signal over 64 samples and increments cnt_zc_timeout. (05 R244) -/
def execZeroCrossingTimeout (aout : Nat) (start : Bool) (run : AudioRun) (s : State) : Res := .next (s.zeroTimeout aout start run)

/-- NONAUDIO_ONSET: An ST 337 preamble or non-audio bit makes a pair non-audio. (05 R247) -/
def execNonaudioOnset (pair : Nat) (dataType : Nat) (s : State) : Res := .next (s.nonaudioOn pair dataType)

/-- NONAUDIO_END: 8,192 sample periods without preamble or bit return the pair to audio. (05 R247) -/
def execNonaudioEnd (pair : Nat) (s : State) : Res := .next (s.nonaudioOff pair)

/-- AAC_ACCESS_UNIT: An AAC programme completes an access unit. (05 R251) -/
def execAacAccessUnit (aout : Nat) (au : Bytes) (cons : ConsReads) (s : State) : Res := .next (s.aacUnit aout au cons)

/-- PORT_CLOCK_ERROR: A follower port's BCLK count per frame is wrong; alm_port_clock rises. (05 R224) -/
def execPortClockError (p : Nat) (bits : Nat) (s : State) : Res := .next (s.portClockBad p bits)

/-- PORT_CLOCK_RECOVER: The count agrees for 48 frames and the port drives DO again. (05 R224) -/
def execPortClockRecover (p : Nat) (s : State) : Res := .next (s.portClockGood p)

end Sys2Proof.Machine
end

