-- ==== Sys2Proof/Machine/CmdMemory.lean ====
section
/-! DEFINITION. Frame store, Culvert and Gauge commands: the meaning of each, over the shared operations. -/
namespace Sys2Proof.Machine

/-- QUERY_REACH_BANDWIDTH: QUERY on Reach with selector 0x10 returns bandwidth per class, panic state, scrub progress and
DRAM error counts. (14 R624) -/
def execQueryReachBandwidth (r : Request) (s : State) : Res := .next (serve specQueryReachBandwidth r s)

/-- SET_SRC_PLAYOUT_POST: SET on Src with selector 0x20 posts a host playout slot to become the newest frame at a given time,
or stops playout. (14 R586) -/
def execSetSrcPlayoutPost (r : Request) (s : State) : Res := .next (serve specSetSrcPlayoutPost r s)

/-- SET_DST_CAPTURE_HOLD: SET on Dst with selector 0x20 sets the hold mask of a capture destination's slots. (14 R588) -/
def execSetDstCaptureHold (r : Request) (s : State) : Res := .next (serve specSetDstCaptureHold r s)

/-- QUERY_DST_CAPTURE: QUERY on Dst with selector 0x20 returns the hold mask, last slot and slot frame indices. (14 R588) -/
def execQueryDstCapture (r : Request) (s : State) : Res := .next (serve specQueryDstCapture r s)

/-- SET_GAUGE: SET on Gauge with selector 0x01 configures a Gauge unit and loads its initial value. (14 R619) -/
def execSetGauge (r : Request) (s : State) : Res := .next (serve specSetGauge r s)

/-- WRITE_GAUGE_DATA: WRITE on Gauge with selector 0x02 feeds host data to a Gauge unit. (14 R620) -/
def execWriteGaugeData (r : Request) (s : State) : Res := .next (serve specWriteGaugeData r s)

/-- SET_GAUGE_FEED: SET on Gauge with selector 0x04 starts a feed from a host window range. (14 R620) -/
def execSetGaugeFeed (r : Request) (s : State) : Res := .next (serve specSetGaugeFeed r s)

/-- QUERY_GAUGE: QUERY on Gauge with selector 0x03 returns the running value. (14 R621) -/
def execQueryGauge (r : Request) (s : State) : Res := .next (serve specQueryGauge r s)

/-- SET_GAUGE_VALUE: SET on Gauge with selector 0x03 writes the running value. (14 R621) -/
def execSetGaugeValue (r : Request) (s : State) : Res := .next (serve specSetGaugeValue r s)

/-- SET_GAUGE_FINALISE: SET on Gauge with selector 0x05 finalises, returns and reloads the value, comparing when set. (14
R622) -/
def execSetGaugeFinalise (r : Request) (s : State) : Res := .next (serve specSetGaugeFinalise r s)

/-- DRAM_READ_ERROR: A frame store read needs correction or is uncorrectable and is answered by its content. (14 R589) -/
def execDramReadError (e : DramError) (s : State) : Res := .next (s.dramError e)

/-- CULVERT_ARM: Writing arm activates the shadow set or arms it behind the active transfer. (14 R606) -/
def execCulvertArm (c : Nat) (s : State) : Res := .next (s.gated (fun t => t.culvertArm c))

/-- CULVERT_ABORT: Writing abort stops issue and discards an armed set. (14 R611) -/
def execCulvertAbort (c : Nat) (s : State) : Res := .next (s.gated (fun t => t.culvertAbort c))

/-- CULVERT_ERROR_CLEAR: Clearing stk_error activates an armed set. (14 R606) -/
def execCulvertErrorClear (c : Nat) (s : State) : Res := .next (s.gated (fun t => t.culvertClear c))

/-- CULVERT_HALF: The first half of a transfer completes and half is set. (14 R605) -/
def execCulvertHalf (c : Nat) (s : State) : Res := .next (s.culvertHalf c)

/-- CULVERT_COMPLETE: The closing zero-length read completes; full is set and an armed set activates. (14 R608) -/
def execCulvertComplete (c : Nat) (data : Bytes) (s : State) : Res := .next (s.culvertComplete c data)

/-- CULVERT_ERROR: A read or write error ends the transfer with stk_error. (14 R612) -/
def execCulvertError (c : Nat) (code : Nat) (done : Nat) (s : State) : Res := .next (s.culvertError c code done)

/-- CULVERT_ABORT_COMPLETE: Outstanding responses return after an abort; busy clears and aborted sets. (14 R611) -/
def execCulvertAbortComplete (c : Nat) (done : Nat) (s : State) : Res := .next (s.culvertAbortEnd c done)

/-- REMAP_SET: The boot ROM sets REMAP, moving the boot ROM and exposing working SRAM at 0. (14 R614) -/
def execRemapSet (s : State) : Res := .next (s.remapSet)

/-- BUS_DEFAULT_ACCESS: An access to the default target gets an error response and event 0x0124. (14 R615) -/
def execBusDefaultAccess (access : BusRequest) (s : State) : Res := .next (s.busDefault access)

/-- SCRUB_PASS_COMPLETE: The patrol scrubber completes a pass of a stack and writes event 0x0121. (14 R591) -/
def execScrubPassComplete (stack : Nat) (s : State) : Res := .next (s.scrubPass stack)

/-- REFRESH_DUE: A bank's refresh falls due and is issued, postponed or forced. (14 R594) -/
def execRefreshDue (stack : Nat) (bank : Nat) (rtWaiting : Bool) (s : State) : Res := .next (s.refreshDue stack bank rtWaiting)

/-- PANIC_ENTER: An RT port buffer passes its panic level and the reach serves RT first. (14 R597) -/
def execPanicEnter (reach : Nat) (port : Nat) (writer : Bool) (fill : Nat) (s : State) : Res := .next (s.panicEnter reach port writer fill)

/-- PANIC_LEAVE: The buffer returns to 50 % and panic ends. (14 R597) -/
def execPanicLeave (reach : Nat) (port : Nat) (writer : Bool) (fill : Nat) (s : State) : Res := .next (s.panicLeave reach port writer fill)

/-- RT_STARVED: An RT buffer underruns or overflows; alm_rt_starved rises for 1 s. (14 R599) -/
def execRtStarved (reach : Nat) (port : RtPort) (s : State) : Res := .next (s.rtStarved reach port)

/-- PLAYOUT_POST_TIME: At at_ns a posted playout slot becomes the source's newest complete frame. (14 R586) -/
def execPlayoutPostTime (src : Nat) (s : State) : Res := .next (s.playoutPost src)

/-- PLAYOUT_SLOT_FREE: A playout slot stops being busy and event 0x1020 is written. (14 R587) -/
def execPlayoutSlotFree (src : Nat) (slot : Nat) (s : State) : Res := .next (s.playoutFree src slot)

/-- CAPTURE_FRAME_WRITTEN: A capture frame is complete in its slot and event 0x1120 is written. (14 R588) -/
def execCaptureFrameWritten (dst : Nat) (s : State) : Res := .next (s.captureFrame dst)

/-- GAUGE_FEED_COMPLETE: A host window feed ends and event 0x3C11 is written. (14 R620) -/
def execGaugeFeedComplete (unit : Nat) (s : State) : Res := .next (s.gaugeFeedEnd unit)

/-- HOLDUP_OK_FALL: HOLDUP_OK falls in Standby; the frame store changes to partial-array self-refresh. (14 R602) -/
def execHoldupOkFall (s : State) : Res := .next (s.holdupFall)

end Sys2Proof.Machine
end

