-- ==== Sys2Proof/Machine/CmdNet.lean ====
section
/-! DEFINITION. Network commands: the meaning of each, over the shared operations. -/
namespace Sys2Proof.Machine

/-- SET_ETH_PORT: SET on EthPort with selector 0x01 configures, enables or disables an Ethernet port. (07 R305) -/
def execSetEthPort (r : Request) (s : State) : Res := .next (serve specSetEthPort r s)

/-- SET_ETH_PORT_PTP: SET on EthPort with selector 0x03 sets a port's PTP follower and transparent roles. (07 R329) -/
def execSetEthPortPtp (r : Request) (s : State) : Res := .next (serve specSetEthPortPtp r s)

/-- QUERY_ETH_PORT: QUERY on EthPort returns the port's state, config, plane, faults and memberships. (07 R335) -/
def execQueryEthPort (r : Request) (s : State) : Res := .next (serve specQueryEthPort r s)

/-- STAGE_FLOW: STAGE on Flow with selector 0x01 stages a receive or send flow entry in domain 0. (07 R312) -/
def execStageFlow (r : Request) (s : State) : Res := .next (serve specStageFlow r s)

/-- QUERY_FLOW: QUERY on Flow returns the live entry with leg state and pending settings. (07 R336) -/
def execQueryFlow (r : Request) (s : State) : Res := .next (serve specQueryFlow r s)

/-- PTP_OFFSET_MEASUREMENT: The follower completes an offset and delay measurement and passes it to Headgate. (07 R330) -/
def execPtpOffsetMeasurement (offset : Int) (identity : Nat) (clockClass : Nat) (s : State) : Res :=
  .next (s.ptpOffset offset identity clockClass)

/-- LINK_UP: A port's lanes are Ready and aligned with no fault for 10 ms; the link comes up. (07 R306) -/
def execLinkUp (port : Nat) (s : State) : Res := .next (s.linkUp port)

/-- LINK_DOWN: A lane, alignment or fault takes the link down within 100 µs. (07 R306) -/
def execLinkDown (port : Nat) (cause : Nat) (s : State) : Res := .next (s.linkDown port cause)

/-- ETH_FRAME_RECEIVE: A port receives a frame and handles it by the first match. (07 R308) -/
def execEthFrameReceive (port : Nat) (frame : EthFrame) (s : State) : Res := .next (s.frameIn port frame (State.ristIn port) State.judgeRanks)

/-- PTP_MESSAGE_RECEIVE: A port receives a PTP message for its follower or transparent clock. (07 R330) -/
def execPtpMessageReceive (port : Nat) (msg : PtpMessage) (s : State) : Res := .next (s.ptpIn port msg)

/-- MERGE_RELEASE: A packet leaves the merge stage after its hold, in sequence order. (07 R320) -/
def execMergeRelease (flow : Nat) (s : State) : Res := .next (s.mergeRelease flow)

/-- LEG_LOSS: A protected leg sees no packet for 4 ms while the other has; alm_leg_loss rises. (07 R321) -/
def execLegLoss (flow : Nat) (leg : Nat) (s : State) : Res := .next (s.legLoss flow leg)

/-- LEG_RETURN: A leg receives without a 4 ms gap for 100 ms and alm_leg_loss clears. (07 R321) -/
def execLegReturn (flow : Nat) (leg : Nat) (s : State) : Res := .next (s.legReturn flow leg)

/-- MEMBERSHIP_REPORT_REPEAT: A state-change report is repeated 1 s after the first. (07 R328) -/
def execMembershipReportRepeat (port : Nat) (s : State) : Res := .next (s.reportRepeat port)

/-- DELAY_REQ_SEND: At each log_delay_req_interval the FOLLOWER port of the holder sends a Delay_Req on queue 0. (07 R330) -/
def execDelayReqSend (port : Nat) (s : State) : Res := .next (s.delayReq port)

/-- ANNOUNCE_TIMEOUT: No Announce from the selected master within announce_timeout intervals; the best master clock algorithm
selects afresh and event 0x2112 may be written. (07 R329) -/
def execAnnounceTimeout (port : Nat) (best : PtpMaster) (s : State) : Res := .next (s.announceTimeout port best)

/-- RIST_RECEIVER_REPORT: A kind 0x08 receive entry sends its RTCP receiver report on dst_udp + 1. (07 R324) -/
def execRistReceiverReport (flow : Nat) (s : State) : Res := .next (s.receiverReport flow)

/-- DECODER_INPUT_RELEASE: After buffer_ms, transport packets of a kind 0x07 or 0x08 flow pass in RTP order to their decode
context. (07 R324) -/
def execDecoderInputRelease (flow : Nat) (s : State) : Res := .next (s.decoderRelease flow)

end Sys2Proof.Machine
end

