-- ==== Sys2Proof/Machine/CmdProtocol.lean ====
section
/-! DEFINITION. Protocol commands: the meaning of each, over the shared operations. -/
namespace Sys2Proof.Machine

/-- DB_REQ_WRITE: Host writes a request ring doorbell with a new producer index, latched with its arrival time in the always-
on domain. (02 R73) -/
def execDbReqWrite (ring : Nat) (value : BitVec 32) (s : State) : Res := .next (s.dbReq ring value)

/-- DB_RPL_WRITE: Host writes a reply ring doorbell with a new reply consumer index. (02 R73) -/
def execDbRplWrite (ring : Nat) (value : BitVec 32) (s : State) : Res := .next (s.dbRpl ring value)

/-- DB_EVT_WRITE: Host writes the event ring doorbell with a new event consumer index. (02 R73) -/
def execDbEvtWrite (value : BitVec 32) (s : State) : Res := .next (s.dbEvt value)

/-- RING_ENABLE: Setting RING_CTRL enable from 0 to 1 starts service of the ring and zeroes its indices. (02 R75) -/
def execRingEnable (ring : Nat) (s : State) : Res := .next (s.ringEnable ring)

/-- RING_DISABLE: Clearing RING_CTRL enable finishes taken requests, discards untaken ones and begins the drain. (02 R77) -/
def execRingDisable (ring : Nat) (s : State) : Res := .next (s.ringDisable ring)

/-- RING_DRAIN_COMPLETE: The last taken request of a disabled ring is answered and active clears. (02 R77) -/
def execRingDrainComplete (ring : Nat) (s : State) : Res := .next (s.ringDrained ring)

/-- RING_FETCH_ERROR: A read of a request slot or indirect buffer returns a PCIe error; the request fails with INTEGRITY and
stk_fetch_error sets. (02 R78) -/
def execRingFetchError (ring : Nat) (verb : Nat) (r : Request) (s : State) : Res := .next (s.ringFetchError ring verb r)

/-- RING_WRITE_ERROR: A write of a reply, out buffer or writeback word fails; the ring is disabled and stk_write_error sets.
(02 R78) -/
def execRingWriteError (ring : Nat) (s : State) : Res := .next (s.writeError ring)

/-- INT_ENABLE_WRITE: A write to INT_ENABLE that sets a bit whose cause is pending sends an MSI-X message. (02 R126) -/
def execIntEnableWrite (value : BitVec 32) (s : State) : Res := .next (s.intEnableWrite value)

/-- INT_HOLDOFF_EXPIRY: The hold-off time of a vector passes and a held message is sent once. (02 R126) -/
def execIntHoldoffExpiry (vector : Nat) (s : State) : Res := .next (s.holdoffExpiry vector)

/-- GATE_BAD_ACCESS: A Gate page access that is not a naturally aligned 32-bit access completes without effect and increments
cnt_gate_bad_access. (02 R64) -/
def execGateBadAccess (offset : Nat) (write : Bool) (s : State) : Res := .next (s.badAccess offset write)

/-- REGISTER_WRITE: A write to a Gate page register that has no behaviour of its own applies its access code, such as RW or
W1C. (00 R11) -/
def execRegisterWrite (offset : Nat) (value : BitVec 32) (s : State) : Res := .next (s.registerWrite offset value)

/-- PCIE_FUNCTION_RESET: A function-level or hot reset disables rings, resets the interrupt tree, discards stage sets and
subscriptions and aborts host transfers, while outputs run on. (02 R65) -/
def execPcieFunctionReset (s : State) : Res := .next (s.pcieReset)

/-- QUERY_DEVICE: QUERY on Device returns the 1,024-byte capability inventory. (02 R118) -/
def execQueryDevice (r : Request) (s : State) : Res := .next (serve specQueryDevice r s)

/-- RESET_DEVICE: RESET on Device is acknowledged and schedules the restart of the device. (02 R123) -/
def execResetDevice (r : Request) (s : State) : Res := .next (serve specResetDevice r s)

/-- DEVICE_RESTART: Within 100 ms after the reply to RESET on Device, outputs stop, the fast domains turn off and Boot begins
with boot_cause 0x4. (02 R123) -/
def execDeviceRestart (s : State) : Res := .next (s.deviceRestart)

/-- COMMIT: COMMIT revalidates the owner tag's open stage set, splits it by domain and schedules its parts. (02 R106) -/
def execCommit (r : Request) (s : State) : Res := .next (serve specCommit r s)

/-- CANCEL_STAGE_SET: CANCEL with payload length 0 discards the owner tag's open stage set. (02 R112) -/
def execCancelStageSet (r : Request) (s : State) : Res := .next (serve specCancelStageSet r s)

/-- CANCEL_COMMITTED: CANCEL with a seq and ring withdraws the parts of a committed request that are still outside the
horizon. (02 R113) -/
def execCancelCommitted (r : Request) (s : State) : Res := .next (serve specCancelCommitted r s)

/-- SUBSCRIBE: SUBSCRIBE on Event adds an event subscription and returns its handle. (02 R96) -/
def execSubscribe (r : Request) (s : State) : Res := .next (serve specSubscribe r s)

/-- UNSUBSCRIBE: UNSUBSCRIBE on Event removes one subscription, or every subscription. (02 R96) -/
def execUnsubscribe (r : Request) (s : State) : Res := .next (serve specUnsubscribe r s)

/-- QUERY_SUBSCRIPTIONS: QUERY on Event with selector 0x02 returns every active subscription. (02 R96) -/
def execQuerySubscriptions (r : Request) (s : State) : Res := .next (serve specQuerySubscriptions r s)

/-- RESET_LANE: RESET on Lane returns the lane to Detect to adapt afresh. (02 R123) -/
def execResetLane (r : Request) (s : State) : Res := .next (serve specResetLane r s)

/-- RESET_ETH_PORT: RESET on EthPort takes the link down as for a fault and brings it up again. (02 R123) -/
def execResetEthPort (r : Request) (s : State) : Res := .next (serve specResetEthPort r s)

/-- RESET_DECODE_CTX: RESET on DecodeCtx drops the context's decoding state until a random access point. (02 R123) -/
def execResetDecodeCtx (r : Request) (s : State) : Res := .next (serve specResetDecodeCtx r s)

/-- RESET_GAUGE: RESET on Gauge reloads the running value with the polynomial's initial value. (02 R123) -/
def execResetGauge (r : Request) (s : State) : Res := .next (serve specResetGauge r s)

/-- LOCK_IMAGE: LOCK on Image reserves the staging slot for one owner tag at the reply. (02 R116) -/
def execLockImage (r : Request) (s : State) : Res := .next (serve specLockImage r s)

/-- UNLOCK_IMAGE: UNLOCK on Image releases the staging slot lock. (02 R116) -/
def execUnlockImage (r : Request) (s : State) : Res := .next (serve specUnlockImage r s)

end Sys2Proof.Machine
end

