-- ==== Sys2Proof/Machine/CmdRider.lean ====
section
/-! DEFINITION. Rider and decode commands: the meaning of each, over the shared operations. -/
namespace Sys2Proof.Machine

/-- SUBMIT_JOB: SUBMIT on Job on ring 3 places a back-fill encode job with Rider. (12 R515) -/
def execSubmitJob (r : Request) (s : State) : Res := .next (serve specSubmitJob r s)

/-- CANCEL_JOB: CANCEL on Job stops a back-fill job at the end of its picture in service, or at once. (12 R523) -/
def execCancelJob (r : Request) (s : State) : Res := .next (serve specCancelJob r s)

/-- QUERY_JOB: QUERY on Job with selector 0x01 returns a job's state and progress. (12 R540) -/
def execQueryJob (r : Request) (s : State) : Res := .next (serve specQueryJob r s)

/-- QUERY_JOB_REACHES: QUERY on Job with selector 0x02 returns per-reach Rider queue and core counts. (12 R540) -/
def execQueryJobReaches (r : Request) (s : State) : Res := .next (serve specQueryJobReaches r s)

/-- SET_JOB_TRACE: SET on Job with selector 0x20 sets the Rider scheduling trace. (12 R525) -/
def execSetJobTrace (r : Request) (s : State) : Res := .next (serve specSetJobTrace r s)

/-- READ_JOB_TRACE: READ on Job with selector 0x21 returns Rider trace entries from a seq. (12 R526) -/
def execReadJobTrace (r : Request) (s : State) : Res := .next (serve specReadJobTrace r s)

/-- STAGE_DECODE_CTX: STAGE on DecodeCtx stages a decode context. (12 R528) -/
def execStageDecodeCtx (r : Request) (s : State) : Res := .next (serve specStageDecodeCtx r s)

/-- QUERY_DECODE_CTX: QUERY on DecodeCtx returns a context's state, stream and counters. (12 R541) -/
def execQueryDecodeCtx (r : Request) (s : State) : Res := .next (serve specQueryDecodeCtx r s)

/-- STEM_ANALYSIS_RELEASE: At E(N) the stem's analysis bands are released to Rider. (12 R512) -/
def execStemAnalysisRelease (stem : Nat) (s : State) : Res := .next (s.stemRelease stem)

/-- RIDER_REQUEST: A consumer asks Rider for work and receives the eligible item of highest level. (12 R508) -/
def execRiderRequest (reach : Nat) (consumer : Nat) (index : Nat) (s : State) : Res := .next (s.riderRequest reach consumer index)

/-- RIDER_ITEM_COMPLETE: A core finishes an item. (12 R506) -/
def execRiderItemComplete (reach : Nat) (consumer : Nat) (index : Nat) (out : ItemOutput) (cons : ConsWord) (s : State) : Res :=
  .next (s.itemComplete reach consumer index out cons)

/-- RIDER_PREEMPT: 80 µs before a live release, Rider stops a back-fill item to free a core. (12 R512) -/
def execRiderPreempt (reach : Nat) (s : State) : Res := .next (s.riderPreempt reach)

/-- CORE_WAKE: Rider wakes a gated core for excess eligible items or a foreseen release. (12 R511) -/
def execCoreWake (reach : Nat) (consumer : Nat) (index : Nat) (s : State) : Res := .next (s.coreWake reach consumer index)

/-- RIDER_RETRY: At the control cycle an internal producer offers a refused item again. (12 R510) -/
def execRiderRetry (reach : Nat) (s : State) : Res := .next (s.riderRetry reach)

/-- BF_OUTPUT_RETRY: Every 1 ms a waiting back-fill job re-reads the consumer word for room. (12 R520) -/
def execBfOutputRetry (job : Nat) (cons : ConsWord) (s : State) : Res := .next (s.outputRetry job cons)

/-- DECODE_PICTURE_COMPLETE: A decode context finishes decoding a picture. (12 R533) -/
def execDecodePictureComplete (ctx : Nat) (pic : DecodedPicture) (s : State) : Res := .next (s.pictureDecoded ctx pic)

/-- DECODE_PRESENT: At its PTS plus present_delay_ms a picture becomes the output's newest complete frame. (12 R533) -/
def execDecodePresent (ctx : Nat) (s : State) : Res := .next (s.presentPicture ctx)

/-- DECODE_OUTPUT_LOSS: No picture for 100 ms loses the output source's signal. (12 R534) -/
def execDecodeOutputLoss (ctx : Nat) (s : State) : Res := .next (s.outputLoss ctx)

end Sys2Proof.Machine
end

