-- ==== Sys2Proof/Machine/CmdSluice.lean ====
section
/-! DEFINITION. Sluice commands: the meaning of each, over the shared operations. -/
namespace Sys2Proof.Machine

/-- TAKE: TAKE on Dst stages and commits one video route to a destination lead. (03 R153) -/
def execTake (r : Request) (s : State) : Res := .next (serve specTake r s)

/-- SALVO: SALVO on Salvo stages and commits a list of up to 1,152 video routes. (03 R165) -/
def execSalvo (r : Request) (s : State) : Res := .next (serve specSalvo r s)

/-- STAGE_DST_ROUTE: STAGE on Dst with selector 0x01 adds a route entry to the open stage set. (03 R148) -/
def execStageDstRoute (r : Request) (s : State) : Res := .next (serve specStageDstRoute r s)

/-- STAGE_DST_FORMAT: STAGE on Dst with selector 0x02 stages a destination format. (03 R143) -/
def execStageDstFormat (r : Request) (s : State) : Res := .next (serve specStageDstFormat r s)

/-- STAGE_DST_DOMAIN: STAGE on Dst with selector 0x03 stages a destination's domain assignment. (03 R152) -/
def execStageDstDomain (r : Request) (s : State) : Res := .next (serve specStageDstDomain r s)

/-- SET_SRC_FORMAT: SET on Src with selector 0x01 sets the format of a host playout or generator source. (03 R150) -/
def execSetSrcFormat (r : Request) (s : State) : Res := .next (serve specSetSrcFormat r s)

/-- SET_SRC_GENERATOR: SET on Src with selector 0x02 sets a generator's pattern and domain. (03 R151) -/
def execSetSrcGenerator (r : Request) (s : State) : Res := .next (serve specSetSrcGenerator r s)

/-- QUERY_DST: QUERY on Dst with selector 0x01 returns the destination's live route, path, format and pending settings. (03
R158) -/
def execQueryDst (r : Request) (s : State) : Res := .next (serve specQueryDst r s)

/-- QUERY_SRC: QUERY on Src with selector 0x01 returns the source's format, domain, signal and fan-out. (03 R159) -/
def execQuerySrc (r : Request) (s : State) : Res := .next (serve specQuerySrc r s)

/-- LOCK_DST: LOCK on Dst stages a lock of a destination for one owner tag. (03 R171) -/
def execLockDst (r : Request) (s : State) : Res := .next (serve specLockDst r s)

/-- UNLOCK_DST: UNLOCK on Dst stages the release of a destination lock. (03 R171) -/
def execUnlockDst (r : Request) (s : State) : Res := .next (serve specUnlockDst r s)

/-- SHADOW_REBUILD: At the arrival limit the Clenak writes the boundary's settings into the shadow bank and configures
converters. (03 R160) -/
def execShadowRebuild (d : Nat) (complete : Bool) (s : State) : Res := .next (s.shadowRebuild d complete)

/-- VIDEO_DOMAIN_BOUNDARY: A video domain boundary passes; the bank select changes and staged settings land together. (03
R160) -/
def execVideoDomainBoundary (d : Nat) (s : State) : Res := .next (s.videoBoundary d)

/-- GENERATOR_FRAME: A pattern generator begins a frame in its domain and applies a pending setting. (03 R151) -/
def execGeneratorFrame (src : Nat) (s : State) : Res := .next (s.generatorFrame src)

/-- RECIRCULATION_RETURN: A recirculation source gives back its destination's frame one frame period later. (03 R131) -/
def execRecirculationReturn (k : Nat) (s : State) : Res := .next (s.recirculate k)

end Sys2Proof.Machine
end

