-- ==== Sys2Proof/Machine/CmdStreams.lean ====
section
/-! DEFINITION. Stream and delivery commands: the meaning of each, over the shared operations. -/
namespace Sys2Proof.Machine

/-- STAGE_RENDITION_RATE: STAGE on Rendition with selector 0x02 stages a rendition's rate-control settings. (11 R476) -/
def execStageRenditionRate (r : Request) (s : State) : Res := .next (serve specStageRenditionRate r s)

/-- QUERY_RENDITION_RATE: QUERY on Rendition with selector 0x02 returns rate-control state of the last picture. (11 R501) -/
def execQueryRenditionRate (r : Request) (s : State) : Res := .next (serve specQueryRenditionRate r s)

/-- STAGE_DELIVERY: STAGE on Delivery stages a delivery and, for kinds 1 and 2, its send flow entry. (11 R487) -/
def execStageDelivery (r : Request) (s : State) : Res := .next (serve specStageDelivery r s)

/-- QUERY_DELIVERY: QUERY on Delivery returns a delivery's state, kind and unit counts. (11 R502) -/
def execQueryDelivery (r : Request) (s : State) : Res := .next (serve specQueryDelivery r s)

/-- RIST_SENDER_REPORT: A RIST sender sends its sender report and SDES every 100 ms. (11 R493) -/
def execRistSenderReport (delivery : Nat) (s : State) : Res := .next (s.ristReport delivery)

/-- ANALYSIS_DEADLINE: At A(N) running stem bands stop and renditions are released. (11 R473) -/
def execAnalysisDeadline (stem : Nat) (s : State) : Res := .next (s.analysisDeadline stem)

/-- PARTITION_CUT_TIME: A partition reaches its cut time and codes its remaining rows in floor mode. (11 R474) -/
def execPartitionCutTime (rendition : Nat) (partition : Nat) (s : State) : Res := .next (s.partitionCut rendition partition)

/-- DELIVERY_INSTANT: At D(N) each rendition releases its access unit to its deliveries. (11 R471) -/
def execDeliveryInstant (stem : Nat) (cons : ConsReads) (s : State) : Res := .next (s.deliveryInstant stem cons)

/-- FLOOR_ALARM_CLEAR: 10 s without a floor row clears alm_floor. (11 R485) -/
def execFloorAlarmClear (rendition : Nat) (s : State) : Res := .next (s.floorClear rendition)

/-- TS_TABLE_INSERT: PAT and PMT are inserted every 100 ms. (11 R490) -/
def execTsTableInsert (delivery : Nat) (s : State) : Res := .next (s.tsTables delivery)

/-- TS_PACKET_SEND: An RTP packet of 7 TS packets is sent at its scheduled time at ts_rate. (11 R492) -/
def execTsPacketSend (delivery : Nat) (s : State) : Res := .next (s.tsSend delivery)

end Sys2Proof.Machine
end

