-- ==== Sys2Proof/Machine/CmdTurnout.lean ====
section
/-! DEFINITION. Turnout and Levee commands: the meaning of each, over the shared operations. -/
namespace Sys2Proof.Machine

/-- STAGE_QUEUE_DSCP_MAP: STAGE on Queue with selector 0x02 stages a port's DSCP-to-queue map. (08 R341) -/
def execStageQueueDscpMap (r : Request) (s : State) : Res := .next (serve specStageQueueDscpMap r s)

/-- STAGE_QUEUE: STAGE on Queue with selector 0x01 stages a queue's delay bound, quantum and limit. (08 R342) -/
def execStageQueue (r : Request) (s : State) : Res := .next (serve specStageQueue r s)

/-- READ_QUEUE_SAMPLES: READ on Queue with selector 0x10 returns depth and delay histograms, optionally clearing them. (08
R357) -/
def execReadQueueSamples (r : Request) (s : State) : Res := .next (serve specReadQueueSamples r s)

/-- QUERY_QUEUE: QUERY on Queue returns a queue's depth, deficit, flags and live settings. (08 R358) -/
def execQueryQueue (r : Request) (s : State) : Res := .next (serve specQueryQueue r s)

/-- STAGE_GATE_LIST: STAGE on GateList stages a port's gate list. (08 R351) -/
def execStageGateList (r : Request) (s : State) : Res := .next (serve specStageGateList r s)

/-- QUERY_GATE_LIST: QUERY on GateList returns the operational list and the pending takeover time. (08 R358) -/
def execQueryGateList (r : Request) (s : State) : Res := .next (serve specQueryGateList r s)

/-- STAGE_PLANE: STAGE on Plane with selector 0x01 stages the management address and Levee device-wide settings. (08 R360) -/
def execStagePlane (r : Request) (s : State) : Res := .next (serve specStagePlane r s)

/-- SET_PLANE_DIAGNOSIS: SET on Plane with selector 0x02 sets a plane's check diagnosis settings. (08 R365) -/
def execSetPlaneDiagnosis (r : Request) (s : State) : Res := .next (serve specSetPlaneDiagnosis r s)

/-- QUERY_PLANE: QUERY on Plane returns the holder, level, failing checks and lease state. (08 R374) -/
def execQueryPlane (r : Request) (s : State) : Res := .next (serve specQueryPlane r s)

/-- EGRESS_ENQUEUE: A frame arrives at an egress queue, or is dropped at the tail or for a closed queue. (08 R343) -/
def execEgressEnqueue (port : Nat) (frame : EgressFrame) (s : State) : Res := .next (s.egressIn port frame)

/-- EGRESS_SELECT: The transmitter is free and Turnout picks the next frame by strict order and deficit round robin. (08 R344) -/
def execEgressSelect (port : Nat) (s : State) : Res := .next (s.egressSelect port)

/-- QUEUE_DELAY_DROP: A head frame exceeds its delay bound and is dropped. (08 R346) -/
def execQueueDelayDrop (queue : Nat) (s : State) : Res := .next (s.delayDrop queue)

/-- GATE_ENTRY_CHANGE: The operational gate list moves to its next entry. (08 R351) -/
def execGateEntryChange (port : Nat) (s : State) : Res := .next (s.gateChange port)

/-- GATE_LIST_TAKEOVER: A pending gate list becomes operational at its takeover time. (08 R352) -/
def execGateListTakeover (port : Nat) (s : State) : Res := .next (s.gateTakeover port)

/-- QUEUE_SAMPLE: Each millisecond, queue depth and head-of-line delay are sampled into histograms. (08 R356) -/
def execQueueSample (port : Nat) (s : State) : Res := .next (s.queueSample port)

/-- PACER_RELEASE: A video pacer releases a packet into queue 2 at its ST 2110-21 time. (08 R347) -/
def execPacerRelease (flow : Nat) (j : Nat) (s : State) : Res := .next (s.pacerRelease flow j)

/-- AUDIO_ANC_RELEASE: An audio or ancillary send packet is released into queue 3. (08 R348) -/
def execAudioAncRelease (flow line : Nat) (audio : List (List Int)) (status : List (List Bool)) (s : State) : Res :=
  .next (s.audioAncRelease flow line audio status)

/-- LEASE_RENEW: The holder renews the right's lease every 5 ms. (08 R361) -/
def execLeaseRenew (plane : Nat) (s : State) : Res := .next (s.leaseRenew plane)

/-- LEASE_EXPIRY: The lease expires and the holder becomes none. (08 R361) -/
def execLeaseExpiry (s : State) : Res := .next (s.leaseExpiry)

/-- RIGHT_REQUEST: A non-holding plane at level 1 or 2 refreshes its standing request, granted at once when none holds. (08
R367) -/
def execRightRequest (plane : Nat) (s : State) : Res := .next (s.rightRequest plane)

/-- PLANE_CHECK_EVAL: A plane supervisor evaluates its checks and level. (08 R363) -/
def execPlaneCheckEval (plane : Nat) (obs : PlaneObs) (s : State) : Res := .next (s.planeEval plane obs)

/-- HANDBACK_HOLDOFF_EXPIRY: The preferred plane has stayed at level 2 for holdoff_s, arming handback. (08 R372) -/
def execHandbackHoldoffExpiry (s : State) : Res := .next (s.handbackDue)

/-- HANDOVER_HOLD_END: The handover hold of a single-homed source ends after handover_hold_ms. (08 R370) -/
def execHandoverHoldEnd (src : Nat) (s : State) : Res := .next (s.holdEnd src)

end Sys2Proof.Machine
end

