-- ==== Sys2Proof/Machine/CmdUpdate.lean ====
section
/-! DEFINITION. Update and calibration commands: the meaning of each, over the shared operations. -/
namespace Sys2Proof.Machine

/-- OPEN_IMAGE: OPEN on Image starts, resumes or joins a staging lease. (16 R670) -/
def execOpenImage (r : Request) (s : State) : Res := .next (serve specOpenImage r s)

/-- PUT_IMAGE: PUT on Image delivers a fragment of a piece into the assembly buffer and checks a completed piece. (16 R671) -/
def execPutImage (r : Request) (s : State) : Res := .next (serve specPutImage r s)

/-- CLOSE_IMAGE: CLOSE on Image leaves the session, or abandons it and clears staging. (16 R674) -/
def execCloseImage (r : Request) (s : State) : Res := .next (serve specCloseImage r s)

/-- ACTIVATE_IMAGE: ACTIVATE on Image validates a complete staged image and starts its activation. (16 R680) -/
def execActivateImage (r : Request) (s : State) : Res := .next (serve specActivateImage r s)

/-- SET_IMAGE: SET on Image sets the update lease idle time. (16 R677) -/
def execSetImage (r : Request) (s : State) : Res := .next (serve specSetImage r s)

/-- QUERY_IMAGE: QUERY on Image returns staging state and bitmap, or the active image. (16 R678) -/
def execQueryImage (r : Request) (s : State) : Res := .next (serve specQueryImage r s)

/-- READ_CALSET: READ on CalSet returns the whole calibration set. (16 R688) -/
def execReadCalset (r : Request) (s : State) : Res := .next (serve specReadCalset r s)

/-- WRITE_CALSET: WRITE on CalSet replaces the calibration set by writing the spare area, switching and erasing the old. (16
R689) -/
def execWriteCalset (r : Request) (s : State) : Res := .next (serve specWriteCalset r s)

/-- SET_CALSET_RECALIBRATE: SET on CalSet with selector 0x02 starts recalibration of the named parts in Test mode. (16 R690) -/
def execSetCalsetRecalibrate (r : Request) (s : State) : Res := .next (serve specSetCalsetRecalibrate r s)

/-- RECALIBRATION_COMPLETE: Recalibration work ends; the parts are written, their factory bits clear and event 0x4510 is
written. (16 R690) -/
def execRecalibrationComplete (result : CalParts) (s : State) : Res := .next (s.recalDone result)

/-- INBAND_REQUEST: A UDP datagram to the management address carries one Ohmat request, answered in service-port form. (16
R676) -/
def execInbandRequest (sender : InbandSender) (frame : Bytes) (s : State) : Res := .next (s.inbandRequest sender frame)

/-- FIRST_BOOT_PASS: A newly activated image passes its first-boot self-test; first_boot reads 1 and erase of the old slot
begins. (16 R683) -/
def execFirstBootPass (s : State) : Res := .next (s.firstPass)

/-- FIRST_BOOT_FAIL: A newly activated image fails its first-boot test; the Fallow mark is set and the Clenak enters Fallow.
(16 R683) -/
def execFirstBootFail (failCode : Nat) (s : State) : Res := .next (s.firstFail failCode)

/-- OLD_SLOT_ERASED: Erasure of the old flash slot completes; event 0x4415 is written. (16 R683) -/
def execOldSlotErased (s : State) : Res := .next (s.slotErased)

/-- PIECE_WRITE_COMPLETE: A verified piece is written and read back in flash and its bitmap bit is set. (16 R672) -/
def execPieceWriteComplete (piece : Nat) (s : State) : Res := .next (s.pieceWritten piece)

/-- PIECE_STALE: A buffered piece without a fragment for 60 s is discarded. (16 R672) -/
def execPieceStale (piece : Nat) (s : State) : Res := .next (s.pieceStale piece)

/-- LEASE_IDLE_EXPIRY: The holder sends no PUT for lease_idle_h and leaves as by CLOSE. (16 R674) -/
def execLeaseIdleExpiry (s : State) : Res := .next (s.leaseIdle)

/-- ACTIVATION_COMMIT: After the reply, entries are verified, the boot record committed, fuses burned and restart begins. (16
R681) -/
def execActivationCommit (entriesOk : Bool) (s : State) : Res := .next (s.activationCommit entriesOk)

end Sys2Proof.Machine
end

