-- ==== Sys2Proof/Machine/CmdWeir.lean ====
section
/-! DEFINITION. Weir commands: the meaning of each, over the shared operations. -/
namespace Sys2Proof.Machine

/-- STAGE_SRC_LOSS_ACTION: STAGE on Src with selector 0x10 stages the source's loss action and fallback. (04 R192) -/
def execStageSrcLossAction (r : Request) (s : State) : Res := .next (serve specStageSrcLossAction r s)

/-- STAGE_SRC_OVERRIDE: STAGE on Src with selector 0x11 stages the input format override of a Rill input. (04 R200) -/
def execStageSrcOverride (r : Request) (s : State) : Res := .next (serve specStageSrcOverride r s)

/-- SET_DST_PROBE: SET on Dst with selector 0x10 sets the destination probe's black and freeze settings. (04 R208) -/
def execSetDstProbe (r : Request) (s : State) : Res := .next (serve specSetDstProbe r s)

/-- QUERY_DST_PROBE: QUERY on Dst with selector 0x10 returns the probe signature, state and run. (04 R209) -/
def execQueryDstProbe (r : Request) (s : State) : Res := .next (serve specQueryDstProbe r s)

/-- QUERY_SRC_ALIGNMENT: QUERY on Src with selector 0x10 returns offset, membership, ring length and payload ID state. (04
R210) -/
def execQuerySrcAlignment (r : Request) (s : State) : Res := .next (serve specQuerySrcAlignment r s)

/-- SOURCE_FRAME_MEASURE: Weir measures a source frame's offset and period against each matching domain. (04 R176) -/
def execSourceFrameMeasure (src : Nat) (arrivalNs : Nat) (periodPs : Nat) (beyond : List Nat) (s : State) : Res :=
  .next (s.measureSource src arrivalNs periodPs beyond)

/-- SOURCE_FRAME_COMPLETE: A source frame's last active line is written and it becomes the newest complete frame. (04 R182) -/
def execSourceFrameComplete (src : Nat) (frame : SourceFrame) (s : State) : Res :=
  .next (s.sourceFrame src frame)

/-- SOURCE_SIGNAL_LOSS: A Rill input loses CDR lock or EAV and its source loses its signal. (04 R189) -/
def execSourceSignalLoss (src : Nat) (linesMissing : Nat) (got : Picture) (s : State) : Res := .next (s.inputLost src linesMissing got)

/-- FLOW_SOURCE_TIMEOUT: A network receive flow sees no packet for 4 ms and its source loses its signal. (04 R189) -/
def execFlowSourceTimeout (src : Nat) (got : Picture) (s : State) : Res := .next (s.flowTimeout src got)

/-- DEST_FRAME_START: At a destination frame start, a frame-sync reader takes the source's newest complete frame. (04 R183) -/
def execDestFrameStart (dst : Nat) (s : State) : Res := .next (((((s.keepFeed dst).destFrame dst).captureStart dst).feedStart dst).startOutputs dst)

/-- PROBE_FRAME: A destination probe signs a frame and judges it black or unchanged. (04 R204) -/
def execProbeFrame (dst : Nat) (s : State) : Res := .next (s.probeFrame dst)

end Sys2Proof.Machine
end

