-- ==== Sys2Proof/Machine/Dispatch.lean ====
section
/-! DEFINITION. One arm per command: the meaning that exec calls for it. -/
namespace Sys2Proof.Machine

/-- The effect of a command on everything but the queue. -/
def exec (i : Instr) (s : State) : Host.Outcome State Fault Refusal :=
  match i with
  | .dbReqWrite ring value => Sys2Proof.Machine.execDbReqWrite ring value s
  | .dbRplWrite ring value => Sys2Proof.Machine.execDbRplWrite ring value s
  | .dbEvtWrite value => Sys2Proof.Machine.execDbEvtWrite value s
  | .ringEnable ring => Sys2Proof.Machine.execRingEnable ring s
  | .ringDisable ring => Sys2Proof.Machine.execRingDisable ring s
  | .ringDrainComplete ring => Sys2Proof.Machine.execRingDrainComplete ring s
  | .ringFetchError ring verb r => Sys2Proof.Machine.execRingFetchError ring verb r s
  | .ringWriteError ring => Sys2Proof.Machine.execRingWriteError ring s
  | .intEnableWrite value => Sys2Proof.Machine.execIntEnableWrite value s
  | .intHoldoffExpiry vector => Sys2Proof.Machine.execIntHoldoffExpiry vector s
  | .gateBadAccess offset write => Sys2Proof.Machine.execGateBadAccess offset write s
  | .domainFrameLoRead d => Sys2Proof.Machine.execDomainFrameLoRead d s
  | .timeNsRead => Sys2Proof.Machine.execTimeNsRead s
  | .incrNsRead => Sys2Proof.Machine.execIncrNsRead s
  | .capNsRead pin => Sys2Proof.Machine.execCapNsRead pin s
  | .registerWrite offset value => Sys2Proof.Machine.execRegisterWrite offset value s
  | .pcieFunctionReset => Sys2Proof.Machine.execPcieFunctionReset s
  | .pciePerstAssert => Sys2Proof.Machine.execPciePerstAssert s
  | .queryDevice r => Sys2Proof.Machine.execQueryDevice r s
  | .resetDevice r => Sys2Proof.Machine.execResetDevice r s
  | .deviceRestart => Sys2Proof.Machine.execDeviceRestart s
  | .commit r => Sys2Proof.Machine.execCommit r s
  | .cancelStageSet r => Sys2Proof.Machine.execCancelStageSet r s
  | .cancelCommitted r => Sys2Proof.Machine.execCancelCommitted r s
  | .setMode r => Sys2Proof.Machine.execSetMode r s
  | .queryMode r => Sys2Proof.Machine.execQueryMode r s
  | .setDomain r => Sys2Proof.Machine.execSetDomain r s
  | .queryDomain r => Sys2Proof.Machine.execQueryDomain r s
  | .queryReach r => Sys2Proof.Machine.execQueryReach r s
  | .queryReachBandwidth r => Sys2Proof.Machine.execQueryReachBandwidth r s
  | .subscribe r => Sys2Proof.Machine.execSubscribe r s
  | .unsubscribe r => Sys2Proof.Machine.execUnsubscribe r s
  | .querySubscriptions r => Sys2Proof.Machine.execQuerySubscriptions r s
  | .queryEvent r => Sys2Proof.Machine.execQueryEvent r s
  | .take r => Sys2Proof.Machine.execTake r s
  | .salvo r => Sys2Proof.Machine.execSalvo r s
  | .stageDstRoute r => Sys2Proof.Machine.execStageDstRoute r s
  | .stageDstFormat r => Sys2Proof.Machine.execStageDstFormat r s
  | .stageDstDomain r => Sys2Proof.Machine.execStageDstDomain r s
  | .setSrcFormat r => Sys2Proof.Machine.execSetSrcFormat r s
  | .setSrcGenerator r => Sys2Proof.Machine.execSetSrcGenerator r s
  | .queryDst r => Sys2Proof.Machine.execQueryDst r s
  | .querySrc r => Sys2Proof.Machine.execQuerySrc r s
  | .lockDst r => Sys2Proof.Machine.execLockDst r s
  | .unlockDst r => Sys2Proof.Machine.execUnlockDst r s
  | .stageSrcLossAction r => Sys2Proof.Machine.execStageSrcLossAction r s
  | .stageSrcOverride r => Sys2Proof.Machine.execStageSrcOverride r s
  | .setDstProbe r => Sys2Proof.Machine.execSetDstProbe r s
  | .queryDstProbe r => Sys2Proof.Machine.execQueryDstProbe r s
  | .querySrcAlignment r => Sys2Proof.Machine.execQuerySrcAlignment r s
  | .setSrcPlayoutPost r => Sys2Proof.Machine.execSetSrcPlayoutPost r s
  | .setDstCaptureHold r => Sys2Proof.Machine.execSetDstCaptureHold r s
  | .queryDstCapture r => Sys2Proof.Machine.execQueryDstCapture r s
  | .takeAudioOut r => Sys2Proof.Machine.execTakeAudioOut r s
  | .stageAudioOutRoute r => Sys2Proof.Machine.execStageAudioOutRoute r s
  | .stageAudioOutFollow r => Sys2Proof.Machine.execStageAudioOutFollow r s
  | .stageAudioOutDomain r => Sys2Proof.Machine.execStageAudioOutDomain r s
  | .stageAudioOutDelay r => Sys2Proof.Machine.execStageAudioOutDelay r s
  | .stageAacProgramme r => Sys2Proof.Machine.execStageAacProgramme r s
  | .lockAudioOut r => Sys2Proof.Machine.execLockAudioOut r s
  | .unlockAudioOut r => Sys2Proof.Machine.execUnlockAudioOut r s
  | .setAudioPort r => Sys2Proof.Machine.execSetAudioPort r s
  | .stageSlotMask r => Sys2Proof.Machine.execStageSlotMask r s
  | .queryAudioIn r => Sys2Proof.Machine.execQueryAudioIn r s
  | .queryAudioOut r => Sys2Proof.Machine.execQueryAudioOut r s
  | .setLaneTransmit r => Sys2Proof.Machine.execSetLaneTransmit r s
  | .setLaneReceive r => Sys2Proof.Machine.execSetLaneReceive r s
  | .setLaneAsymmetry r => Sys2Proof.Machine.execSetLaneAsymmetry r s
  | .setLaneTestTools r => Sys2Proof.Machine.execSetLaneTestTools r s
  | .setLaneEyeScan r => Sys2Proof.Machine.execSetLaneEyeScan r s
  | .readLaneEyeScan r => Sys2Proof.Machine.execReadLaneEyeScan r s
  | .setLaneI2cBind r => Sys2Proof.Machine.execSetLaneI2cBind r s
  | .writeLaneI2c r => Sys2Proof.Machine.execWriteLaneI2c r s
  | .setLaneRateHooks r => Sys2Proof.Machine.execSetLaneRateHooks r s
  | .queryLane r => Sys2Proof.Machine.execQueryLane r s
  | .resetLane r => Sys2Proof.Machine.execResetLane r s
  | .setEthPort r => Sys2Proof.Machine.execSetEthPort r s
  | .setEthPortPtp r => Sys2Proof.Machine.execSetEthPortPtp r s
  | .queryEthPort r => Sys2Proof.Machine.execQueryEthPort r s
  | .resetEthPort r => Sys2Proof.Machine.execResetEthPort r s
  | .stageFlow r => Sys2Proof.Machine.execStageFlow r s
  | .queryFlow r => Sys2Proof.Machine.execQueryFlow r s
  | .stageQueueDscpMap r => Sys2Proof.Machine.execStageQueueDscpMap r s
  | .stageQueue r => Sys2Proof.Machine.execStageQueue r s
  | .readQueueSamples r => Sys2Proof.Machine.execReadQueueSamples r s
  | .queryQueue r => Sys2Proof.Machine.execQueryQueue r s
  | .stageGateList r => Sys2Proof.Machine.execStageGateList r s
  | .queryGateList r => Sys2Proof.Machine.execQueryGateList r s
  | .stagePlane r => Sys2Proof.Machine.execStagePlane r s
  | .setPlaneDiagnosis r => Sys2Proof.Machine.execSetPlaneDiagnosis r s
  | .queryPlane r => Sys2Proof.Machine.execQueryPlane r s
  | .setRefInput r => Sys2Proof.Machine.execSetRefInput r s
  | .queryRefInput r => Sys2Proof.Machine.execQueryRefInput r s
  | .setTimebase r => Sys2Proof.Machine.execSetTimebase r s
  | .setTimebasePhase r => Sys2Proof.Machine.execSetTimebasePhase r s
  | .setTimebaseAbsolute r => Sys2Proof.Machine.execSetTimebaseAbsolute r s
  | .queryTimebase r => Sys2Proof.Machine.execQueryTimebase r s
  | .setTrigger r => Sys2Proof.Machine.execSetTrigger r s
  | .queryTrigger r => Sys2Proof.Machine.execQueryTrigger r s
  | .stageStem r => Sys2Proof.Machine.execStageStem r s
  | .queryStem r => Sys2Proof.Machine.execQueryStem r s
  | .queryStemCapacity r => Sys2Proof.Machine.execQueryStemCapacity r s
  | .stageRendition r => Sys2Proof.Machine.execStageRendition r s
  | .stageRenditionRate r => Sys2Proof.Machine.execStageRenditionRate r s
  | .queryRendition r => Sys2Proof.Machine.execQueryRendition r s
  | .queryRenditionRate r => Sys2Proof.Machine.execQueryRenditionRate r s
  | .stageDelivery r => Sys2Proof.Machine.execStageDelivery r s
  | .queryDelivery r => Sys2Proof.Machine.execQueryDelivery r s
  | .submitJob r => Sys2Proof.Machine.execSubmitJob r s
  | .cancelJob r => Sys2Proof.Machine.execCancelJob r s
  | .queryJob r => Sys2Proof.Machine.execQueryJob r s
  | .queryJobReaches r => Sys2Proof.Machine.execQueryJobReaches r s
  | .setJobTrace r => Sys2Proof.Machine.execSetJobTrace r s
  | .readJobTrace r => Sys2Proof.Machine.execReadJobTrace r s
  | .stageDecodeCtx r => Sys2Proof.Machine.execStageDecodeCtx r s
  | .queryDecodeCtx r => Sys2Proof.Machine.execQueryDecodeCtx r s
  | .resetDecodeCtx r => Sys2Proof.Machine.execResetDecodeCtx r s
  | .stageHead r => Sys2Proof.Machine.execStageHead r s
  | .stageHeadDomain r => Sys2Proof.Machine.execStageHeadDomain r s
  | .setHeadFreeze r => Sys2Proof.Machine.execSetHeadFreeze r s
  | .setHeadStickyClear r => Sys2Proof.Machine.execSetHeadStickyClear r s
  | .queryHead r => Sys2Proof.Machine.execQueryHead r s
  | .stageVideoLayer r => Sys2Proof.Machine.execStageVideoLayer r s
  | .stageGraphicLayer r => Sys2Proof.Machine.execStageGraphicLayer r s
  | .stageLayerMatrix r => Sys2Proof.Machine.execStageLayerMatrix r s
  | .stageMeterFirst r => Sys2Proof.Machine.execStageMeterFirst r s
  | .writeLayerSurface r => Sys2Proof.Machine.execWriteLayerSurface r s
  | .queryLayer r => Sys2Proof.Machine.execQueryLayer r s
  | .setGauge r => Sys2Proof.Machine.execSetGauge r s
  | .writeGaugeData r => Sys2Proof.Machine.execWriteGaugeData r s
  | .setGaugeFeed r => Sys2Proof.Machine.execSetGaugeFeed r s
  | .queryGauge r => Sys2Proof.Machine.execQueryGauge r s
  | .setGaugeValue r => Sys2Proof.Machine.execSetGaugeValue r s
  | .setGaugeFinalise r => Sys2Proof.Machine.execSetGaugeFinalise r s
  | .resetGauge r => Sys2Proof.Machine.execResetGauge r s
  | .ackThermal r => Sys2Proof.Machine.execAckThermal r s
  | .readThermalRecords r => Sys2Proof.Machine.execReadThermalRecords r s
  | .setThermal r => Sys2Proof.Machine.execSetThermal r s
  | .queryThermal r => Sys2Proof.Machine.execQueryThermal r s
  | .readCounter r => Sys2Proof.Machine.execReadCounter r s
  | .readCounterCatalogue r => Sys2Proof.Machine.execReadCounterCatalogue r s
  | .writeCounterSticky r => Sys2Proof.Machine.execWriteCounterSticky r s
  | .openImage r => Sys2Proof.Machine.execOpenImage r s
  | .putImage r => Sys2Proof.Machine.execPutImage r s
  | .closeImage r => Sys2Proof.Machine.execCloseImage r s
  | .activateImage r => Sys2Proof.Machine.execActivateImage r s
  | .setImage r => Sys2Proof.Machine.execSetImage r s
  | .queryImage r => Sys2Proof.Machine.execQueryImage r s
  | .lockImage r => Sys2Proof.Machine.execLockImage r s
  | .unlockImage r => Sys2Proof.Machine.execUnlockImage r s
  | .readCalset r => Sys2Proof.Machine.execReadCalset r s
  | .writeCalset r => Sys2Proof.Machine.execWriteCalset r s
  | .setCalsetRecalibrate r => Sys2Proof.Machine.execSetCalsetRecalibrate r s
  | .recalibrationComplete result => Sys2Proof.Machine.execRecalibrationComplete result s
  | .svcSend frame => Sys2Proof.Machine.execSvcSend frame s
  | .svcStatus => Sys2Proof.Machine.execSvcStatus s
  | .svcFetch => Sys2Proof.Machine.execSvcFetch s
  | .svcWord offset => Sys2Proof.Machine.execSvcWord offset s
  | .inbandRequest sender frame => Sys2Proof.Machine.execInbandRequest sender frame s
  | .aonResetAssert => Sys2Proof.Machine.execAonResetAssert s
  | .aonResetRelease => Sys2Proof.Machine.execAonResetRelease s
  | .sysResetAssert => Sys2Proof.Machine.execSysResetAssert s
  | .sysResetRelease bootSel => Sys2Proof.Machine.execSysResetRelease bootSel s
  | .pwrOkRise => Sys2Proof.Machine.execPwrOkRise s
  | .pwrOkFall => Sys2Proof.Machine.execPwrOkFall s
  | .pwrOkTimeout => Sys2Proof.Machine.execPwrOkTimeout s
  | .bootStart => Sys2Proof.Machine.execBootStart s
  | .bootImageVerified => Sys2Proof.Machine.execBootImageVerified s
  | .bootToRecovery => Sys2Proof.Machine.execBootToRecovery s
  | .bootToFallow => Sys2Proof.Machine.execBootToFallow s
  | .trainingComplete found => Sys2Proof.Machine.execTrainingComplete found s
  | .firstBootPass => Sys2Proof.Machine.execFirstBootPass s
  | .firstBootFail failCode => Sys2Proof.Machine.execFirstBootFail failCode s
  | .oldSlotErased => Sys2Proof.Machine.execOldSlotErased s
  | .modeTransitionComplete => Sys2Proof.Machine.execModeTransitionComplete s
  | .unitFence kind index element => Sys2Proof.Machine.execUnitFence kind index element s
  | .domain0Boundary => Sys2Proof.Machine.execDomain0Boundary s
  | .shadowRebuild d complete => Sys2Proof.Machine.execShadowRebuild d complete s
  | .swapDecision d => Sys2Proof.Machine.execSwapDecision d s
  | .videoDomainBoundary d => Sys2Proof.Machine.execVideoDomainBoundary d s
  | .destSwitchingLine dst => Sys2Proof.Machine.execDestSwitchingLine dst s
  | .loopUpdate phase freq => Sys2Proof.Machine.execLoopUpdate phase freq s
  | .refMonitorReading k ppb => Sys2Proof.Machine.execRefMonitorReading k ppb s
  | .refActivityLost k => Sys2Proof.Machine.execRefActivityLost k s
  | .refQualify k => Sys2Proof.Machine.execRefQualify k s
  | .acquireStagePass => Sys2Proof.Machine.execAcquireStagePass s
  | .lockedBandwidthNarrow => Sys2Proof.Machine.execLockedBandwidthNarrow s
  | .holdoverExpiry => Sys2Proof.Machine.execHoldoverExpiry s
  | .historyRecord meanFreq => Sys2Proof.Machine.execHistoryRecord meanFreq s
  | .ptpOffsetMeasurement offset identity clockClass => Sys2Proof.Machine.execPtpOffsetMeasurement offset identity clockClass s
  | .ptpBridgeTimeout => Sys2Proof.Machine.execPtpBridgeTimeout s
  | .triggerFire k => Sys2Proof.Machine.execTriggerFire k s
  | .ppsOutPulse => Sys2Proof.Machine.execPpsOutPulse s
  | .tcapEdge pin falling => Sys2Proof.Machine.execTcapEdge pin falling s
  | .sourceFrameMeasure src arrivalNs periodPs beyond => Sys2Proof.Machine.execSourceFrameMeasure src arrivalNs periodPs beyond s
  | .sourceFrameComplete src frame => Sys2Proof.Machine.execSourceFrameComplete src frame s
  | .sourceSignalLoss src linesMissing got => Sys2Proof.Machine.execSourceSignalLoss src linesMissing got s
  | .flowSourceTimeout src got => Sys2Proof.Machine.execFlowSourceTimeout src got s
  | .destFrameStart dst => Sys2Proof.Machine.execDestFrameStart dst s
  | .probeFrame dst => Sys2Proof.Machine.execProbeFrame dst s
  | .generatorFrame src => Sys2Proof.Machine.execGeneratorFrame src s
  | .recirculationReturn k => Sys2Proof.Machine.execRecirculationReturn k s
  | .dramReadError e => Sys2Proof.Machine.execDramReadError e s
  | .converterMeasure ain ratioPpb phase fill => Sys2Proof.Machine.execConverterMeasure ain ratioPpb phase fill s
  | .audioActivityLoss ain buffered => Sys2Proof.Machine.execAudioActivityLoss ain buffered s
  | .audioSlip ain => Sys2Proof.Machine.execAudioSlip ain s
  | .audioBoundary aout run => Sys2Proof.Machine.execAudioBoundary aout run s
  | .zeroCrossing aout start run => Sys2Proof.Machine.execZeroCrossing aout start run s
  | .zeroCrossingTimeout aout start run => Sys2Proof.Machine.execZeroCrossingTimeout aout start run s
  | .nonaudioOnset pair dataType => Sys2Proof.Machine.execNonaudioOnset pair dataType s
  | .nonaudioEnd pair => Sys2Proof.Machine.execNonaudioEnd pair s
  | .aacAccessUnit aout au cons => Sys2Proof.Machine.execAacAccessUnit aout au cons s
  | .portClockError p bits => Sys2Proof.Machine.execPortClockError p bits s
  | .portClockRecover p => Sys2Proof.Machine.execPortClockRecover p s
  | .laneSignalDetect lane => Sys2Proof.Machine.execLaneSignalDetect lane s
  | .adaptStepEnd lane res => Sys2Proof.Machine.execAdaptStepEnd lane res s
  | .qualifyTimeout lane => Sys2Proof.Machine.execQualifyTimeout lane s
  | .fomUpdate lane levels => Sys2Proof.Machine.execFomUpdate lane levels s
  | .fomAlarmClear lane => Sys2Proof.Machine.execFomAlarmClear lane s
  | .laneInputLoss lane => Sys2Proof.Machine.execLaneInputLoss lane s
  | .eyeScanComplete lane counts => Sys2Proof.Machine.execEyeScanComplete lane counts s
  | .prbsCheckerLock lane => Sys2Proof.Machine.execPrbsCheckerLock lane s
  | .prbsCheckerRelock lane bits errors symbolErrors => Sys2Proof.Machine.execPrbsCheckerRelock lane bits errors symbolErrors s
  | .i2cTransactionEnd bus res => Sys2Proof.Machine.execI2cTransactionEnd bus res s
  | .i2cStretchTimeout bus sdaLow => Sys2Proof.Machine.execI2cStretchTimeout bus sdaLow s
  | .rateHookStart lane hd => Sys2Proof.Machine.execRateHookStart lane hd s
  | .linkUp port => Sys2Proof.Machine.execLinkUp port s
  | .linkDown port cause => Sys2Proof.Machine.execLinkDown port cause s
  | .ethFrameReceive port frame => Sys2Proof.Machine.execEthFrameReceive port frame s
  | .ptpMessageReceive port msg => Sys2Proof.Machine.execPtpMessageReceive port msg s
  | .mergeRelease flow => Sys2Proof.Machine.execMergeRelease flow s
  | .legLoss flow leg => Sys2Proof.Machine.execLegLoss flow leg s
  | .legReturn flow leg => Sys2Proof.Machine.execLegReturn flow leg s
  | .membershipReportRepeat port => Sys2Proof.Machine.execMembershipReportRepeat port s
  | .ristSenderReport delivery => Sys2Proof.Machine.execRistSenderReport delivery s
  | .egressEnqueue port frame => Sys2Proof.Machine.execEgressEnqueue port frame s
  | .egressSelect port => Sys2Proof.Machine.execEgressSelect port s
  | .queueDelayDrop queue => Sys2Proof.Machine.execQueueDelayDrop queue s
  | .gateEntryChange port => Sys2Proof.Machine.execGateEntryChange port s
  | .gateListTakeover port => Sys2Proof.Machine.execGateListTakeover port s
  | .queueSample port => Sys2Proof.Machine.execQueueSample port s
  | .pacerRelease flow j => Sys2Proof.Machine.execPacerRelease flow j s
  | .audioAncRelease flow line audio status => Sys2Proof.Machine.execAudioAncRelease flow line audio status s
  | .leaseRenew plane => Sys2Proof.Machine.execLeaseRenew plane s
  | .leaseExpiry => Sys2Proof.Machine.execLeaseExpiry s
  | .rightRequest plane => Sys2Proof.Machine.execRightRequest plane s
  | .planeCheckEval plane obs => Sys2Proof.Machine.execPlaneCheckEval plane obs s
  | .handbackHoldoffExpiry => Sys2Proof.Machine.execHandbackHoldoffExpiry s
  | .handoverHoldEnd src => Sys2Proof.Machine.execHandoverHoldEnd src s
  | .stemAnalysisRelease stem => Sys2Proof.Machine.execStemAnalysisRelease stem s
  | .analysisDeadline stem => Sys2Proof.Machine.execAnalysisDeadline stem s
  | .partitionCutTime rendition partition => Sys2Proof.Machine.execPartitionCutTime rendition partition s
  | .deliveryInstant stem cons => Sys2Proof.Machine.execDeliveryInstant stem cons s
  | .riderRequest reach consumer index => Sys2Proof.Machine.execRiderRequest reach consumer index s
  | .riderItemComplete reach consumer index out cons => Sys2Proof.Machine.execRiderItemComplete reach consumer index out cons s
  | .riderPreempt reach => Sys2Proof.Machine.execRiderPreempt reach s
  | .coreWake reach consumer index => Sys2Proof.Machine.execCoreWake reach consumer index s
  | .coreGate reach consumer index => Sys2Proof.Machine.execCoreGate reach consumer index s
  | .riderRetry reach => Sys2Proof.Machine.execRiderRetry reach s
  | .bfOutputRetry job cons => Sys2Proof.Machine.execBfOutputRetry job cons s
  | .floorAlarmClear rendition => Sys2Proof.Machine.execFloorAlarmClear rendition s
  | .tsTableInsert delivery => Sys2Proof.Machine.execTsTableInsert delivery s
  | .tsPacketSend delivery => Sys2Proof.Machine.execTsPacketSend delivery s
  | .decodePictureComplete ctx pic => Sys2Proof.Machine.execDecodePictureComplete ctx pic s
  | .decodePresent ctx => Sys2Proof.Machine.execDecodePresent ctx s
  | .decodeOutputLoss ctx => Sys2Proof.Machine.execDecodeOutputLoss ctx s
  | .headFrameStart head peaks => Sys2Proof.Machine.execHeadFrameStart head peaks s
  | .headFrameComplete head => Sys2Proof.Machine.execHeadFrameComplete head s
  | .readbackArm value => Sys2Proof.Machine.execReadbackArm value s
  | .readbackCapture words => Sys2Proof.Machine.execReadbackCapture words s
  | .culvertArm c => Sys2Proof.Machine.execCulvertArm c s
  | .culvertAbort c => Sys2Proof.Machine.execCulvertAbort c s
  | .culvertErrorClear c => Sys2Proof.Machine.execCulvertErrorClear c s
  | .culvertHalf c => Sys2Proof.Machine.execCulvertHalf c s
  | .culvertComplete c data => Sys2Proof.Machine.execCulvertComplete c data s
  | .culvertError c code done => Sys2Proof.Machine.execCulvertError c code done s
  | .culvertAbortComplete c done => Sys2Proof.Machine.execCulvertAbortComplete c done s
  | .remapSet => Sys2Proof.Machine.execRemapSet s
  | .busDefaultAccess access => Sys2Proof.Machine.execBusDefaultAccess access s
  | .scrubPassComplete stack => Sys2Proof.Machine.execScrubPassComplete stack s
  | .refreshDue stack bank rtWaiting => Sys2Proof.Machine.execRefreshDue stack bank rtWaiting s
  | .panicEnter reach port writer fill => Sys2Proof.Machine.execPanicEnter reach port writer fill s
  | .panicLeave reach port writer fill => Sys2Proof.Machine.execPanicLeave reach port writer fill s
  | .rtStarved reach port => Sys2Proof.Machine.execRtStarved reach port s
  | .playoutPostTime src => Sys2Proof.Machine.execPlayoutPostTime src s
  | .playoutSlotFree src slot => Sys2Proof.Machine.execPlayoutSlotFree src slot s
  | .captureFrameWritten dst => Sys2Proof.Machine.execCaptureFrameWritten dst s
  | .gaugeFeedComplete unit => Sys2Proof.Machine.execGaugeFeedComplete unit s
  | .holdupOkFall => Sys2Proof.Machine.execHoldupOkFall s
  | .tallyChange n level => Sys2Proof.Machine.execTallyChange n level s
  | .sensorSample readings => Sys2Proof.Machine.execSensorSample readings s
  | .thresholdRelease level => Sys2Proof.Machine.execThresholdRelease level s
  | .graceExpiry => Sys2Proof.Machine.execGraceExpiry s
  | .enforcementReevaluate => Sys2Proof.Machine.execEnforcementReevaluate s
  | .clauseClockStep reach => Sys2Proof.Machine.execClauseClockStep reach s
  | .powerSample rails => Sys2Proof.Machine.execPowerSample rails s
  | .stormEnd => Sys2Proof.Machine.execStormEnd s
  | .pieceWriteComplete piece => Sys2Proof.Machine.execPieceWriteComplete piece s
  | .pieceStale piece => Sys2Proof.Machine.execPieceStale piece s
  | .leaseIdleExpiry => Sys2Proof.Machine.execLeaseIdleExpiry s
  | .activationCommit entriesOk => Sys2Proof.Machine.execActivationCommit entriesOk s
  | .watchdogExpiry => Sys2Proof.Machine.execWatchdogExpiry s
  | .holdupOkRise => Sys2Proof.Machine.execHoldupOkRise s
  | .delayReqSend port => Sys2Proof.Machine.execDelayReqSend port s
  | .announceTimeout port best => Sys2Proof.Machine.execAnnounceTimeout port best s
  | .ristReceiverReport flow => Sys2Proof.Machine.execRistReceiverReport flow s
  | .decoderInputRelease flow => Sys2Proof.Machine.execDecoderInputRelease flow s
  | .jtagInstruction ir => Sys2Proof.Machine.execJtagInstruction ir s

end Sys2Proof.Machine
end

