-- ==== Sys2Proof/Machine/Idle.lean ====
section
/-! DEFINITION. What passes when no command waits: one cycle of the 25 MHz device clock (09 R399). -/
namespace Sys2Proof.Machine

/-- The range of the device time counter: 48 bits of seconds, nanoseconds, 32 bits of fraction (09 R399). -/
def timeSpan : Nat := 281474976710656 * 1000000000 * 4294967296

/-- Device time advances by the increment in use, INCR_NS and INCR_FRAC (09 R399, R415). -/
def State.idle (s : State) : State :=
  { s with time := (s.time + s.hg.incrNs * 4294967296 + s.hg.incrFrac.toNat) % timeSpan }

end Sys2Proof.Machine
end

