-- ==== Sys2Proof/Machine/Step.lean ====
section
/-! DEFINITION. One step of the block: the command at the front of the queue, or an idle tick of the device clock. -/
namespace Sys2Proof.Machine

/-- The state without the command at the front of its queue. -/
def State.behind (s : State) (rest : List Instr) : State := { s with pending := rest }

/-- One step: the front command runs on the state with the rest of the queue; an empty queue lets one period of the device
clock pass (log entry 13). -/
def step (s : State) : Host.Outcome State Fault Refusal :=
  match s.pending with
  | [] => .next s.idle
  | c :: rest => exec c (s.behind rest)

/-- The state with the command that a word spells in front of its queue; a word that spells none changes nothing. -/
def State.withFetchWord (s : State) (nbits w : Nat) : State :=
  match decodeTableWord nbits w with
  | some c => { s with pending := c :: s.pending }
  | none => s

end Sys2Proof.Machine
end

