-- ==== Sys2Proof/Safety.lean ====
section
/-! DEFINITION. What a safe run is: every step answers a next state, and what every state of a run must satisfy. -/
namespace Sys2Proof

/-- The block goes on: its step answers a next state. -/
def GoesOn (s : Machine.State) : Prop := ∃ t, Machine.step s = .next t

namespace Machine

/-- The fused identity that nothing changes: variant, stepping, serial number, spares at shipment (02 R67, R69, R118). -/
def Fused.identity (f : Fused) : Variant × BitVec 8 × BitVec 64 × List Spares := (f.part, f.stepping, f.serial, f.made)

/-- What MODE_STATUS shows of the mode (01 R54). -/
def ModeSt.regs (m : ModeSt) : Mode × Mode × Mode × Bool := (m.current, m.base, m.target, m.busy)

/-- The mode registers show a mode the block can be in: an idle target is the current mode, a busy one is a transition that 01 R50
lets SET on Mode ask for, and the base differs from the current mode in Throttled alone, where it is a mode in which Spillway
enforces (01 R44, R50, R54). -/
def ModeSt.legal (m : ModeSt) : Prop :=
  (m.busy = false → m.target = m.current) ∧ (m.busy = true → modeListed m.current m.target = true) ∧
    (m.current ≠ .throttled → m.base = m.current) ∧ (m.current = .throttled → m.base.enforced = true)

/-- The moves between two modes that 01 R50 and R54 list: SYS_RESET_N or a shutdown to Dormant, any start or restart to Boot, what
Boot and Training end in, the transitions of SET on Mode, and the begin of an enforcement. -/
def modeMoves (a b : Mode) : Bool :=
  (b == .dormant && a != .fallow) || b == .boot || modeListed a b ||
  match a with
  | .boot => b == .fallow || b == .recovery || b == .training
  | .training => b == .standby || b == .fallow
  | .full | .router | .encode => b == .throttled
  | _ => false

/-- How many units each numbered bank of the state holds: rings, domains, I2C buses, planes, reference inputs, capture blocks,
Rider instances, heads, Culvert channels, DRAM stacks, reaches of memory. -/
def State.banks (s : State) : List Nat :=
  [s.rings.length, s.domains.length, s.buses.length, s.planes.length, s.refs.length, s.caps.length, s.riders.length, s.heads.length,
   s.culverts.length, s.dramStacks.length, s.rmem.length]

/-- The banks hold 5 rings (02 R63), 9 domains (01 R25), 2 I2C buses (06 R293), 2 planes (08 R361), 8 reference inputs (09 R379), 4
capture blocks (09 R416), 4 Rider instances (12 R506), 2 heads (13 R545), 8 host Culvert channels (14 R605), 8 DRAM stacks (14 R582)
and 4 reaches (01 R16). -/
def bankSizes : List Nat := [5, 9, 2, 2, 8, 4, 4, 2, 8, 8, 4]

/-- The invariant of a run: the frame store is in canonical form, and every bank has its units. -/
def State.Sound (s : State) : Prop := Memory.wf s = true ∧ s.banks = bankSizes

end Machine

open Machine

/-! ### Requests -/

/-- The parameter block of a request, empty when it cannot be read. -/
def Request.block (r : Request) : Bytes := (blockOf r).getD []

/-- Number of the ring that carries a request, 4 for the service port and the in-band flow. -/
def Request.ringNo (r : Request) : Nat := match r.carrier with | .ring n => n | _ => 4

/-- The call of a request in the state in which it arrives. -/
def Request.callIn (r : Request) (s : State) : Call :=
  callOf r (match r.carrier with | .ring n => s.arrival n | _ => s.nowNs) r.ringNo

/-- The state that a request acts on: its slot taken from its ring. -/
def Machine.State.taking (s : State) (r : Request) : State := match r.carrier with | .ring n => s.takeSlot n | _ => s

/-- A request can be taken: a ring that serves one is asked, or another carrier. -/
def Request.arrives (r : Request) (s : State) : Prop := ∀ n, r.carrier = .ring n → s.takes n = true

/-- A request is taken, passes steps 1 to 7 of 02 R100, and is to be applied. -/
def Request.accepted (r : Request) (q : ReqSpec) (s : State) : Prop :=
  r.arrives s ∧ admitted q (r.callIn s) (s.taking r) = none ∧ reqValidate r = false

/-- The answer to a request that is taken (02 R87, R100). -/
def Machine.verdict (q : ReqSpec) (c : Call) (s : State) : Answer :=
  match admitted q c s with
  | some a => sized c.r (listed q c.r a)
  | none => sized c.r (listed q c.r (q.body c s).1)

/-- The state without what reports and replies alone change: outputs, rings, the interrupt tree, the service port, the event
sequence, the event log and the counters. -/
def Machine.State.silent (s : State) : State :=
  { s with out := [], rings := [], ints := Ints.reset, svc := SvcSt.reset, storm := StormSt.reset, counters := []
           events := { s.events with seq := 0 } }

/-- What validation finds of a `STAGE` of the settings `xs` (02 R103). -/
def Machine.State.judgeStage (s : State) (c : Call) (xs : List Setting) : Judged :=
  s.judge c.owner c.arrival 0 0 0x0009 (s.openSet c.owner) (xs.map (fun x => (0, x)))

/-- The open stage set of an owner tag with the settings `xs` added (02 R102, R104). -/
def Machine.State.stageSet (s : State) (owner : Nat) (xs : List Setting) : List Setting :=
  (keepLater (s.openSet owner ++ xs.map (fun x => (0, x)))).map (·.2)

/-- `STAGE` can add the settings `xs`: the tag may hold a set, they validate, and the limits of 02 R105 leave room. -/
def Machine.State.stageable (s : State) (c : Call) (xs : List Setting) : Prop :=
  c.owner ≠ 0 ∧ (s.judgeStage c xs).failure = none ∧ (s.stageSet c.owner xs).length ≤ 4096 ∧
    s.openTotal + (s.stageSet c.owner xs).length ≤ 65536 + (s.openSet c.owner).length

/-- The state with the settings `xs` in the open stage set of a tag. -/
def Machine.State.staged (s : State) (owner : Nat) (xs : List Setting) : State :=
  { s with openSets := tset (fun _ => []) s.openSets owner (s.stageSet owner xs) }

/-- Commands that may write the frame store, or lose it with its power: transfers, captures, the fencing of a Culvert channel, and what
leaves or enters a mode. -/
def Machine.touchesStore : Instr → Bool
  | .culvertComplete .. | .culvertError .. | .culvertAbortComplete .. | .captureFrameWritten .. => true
  | .pcieFunctionReset | .pciePerstAssert | .aonResetAssert | .sysResetAssert | .pwrOkFall => true
  | .bootImageVerified | .bootToFallow | .trainingComplete .. | .modeTransitionComplete | .firstBootFail .. => true
  | .sensorSample .. | .graceExpiry | .unitFence .. => true
  | _ => false

/-- Commands that may change what is fenced, retired, pending repair or spare. -/
def Machine.touchesRepair : Instr → Bool
  | .unitFence .. | .dramReadError .. | .trainingComplete .. | .aonResetAssert => true
  | _ => false

/-- Commands that may change a timing domain: its boundaries and what prepares them, SET on Domain, steps of device time, the reads that
latch DOMAIN_FRAME_HI, and entries to Boot. -/
def Machine.touchesDomains : Instr → Bool
  | .domainFrameLoRead .. | .setDomain .. | .swapDecision .. | .shadowRebuild .. | .domain0Boundary | .videoDomainBoundary .. => true
  | .setTimebasePhase .. | .setTimebaseAbsolute .. | .loopUpdate .. | .ptpOffsetMeasurement .. => true
  | .bootStart | .watchdogExpiry | .deviceRestart | .activationCommit .. => true
  | .svcSend .. | .svcWord .. | .inbandRequest .. | .aonResetAssert => true
  | _ => false

namespace Machine

/-- The parts of the state that an event command may write, one for each field but those that reports change. -/
inductive Field where
  | time | freeCtr | pins | mode | domains | openSets | parts | partSeq | fused | repair | alarms | srcs | dsts | convs | ains
  | aouts | aports | lanes | buses | ports | flows | queues | gates | planes | levee | refs | hg | caps | trigs | stems | rends
  | delivs | cores | riders | riderDev | jobs | jobSeq | hostFlows | ctxs | heads | layers | readback | culverts | dramStacks
  | rmem | dram | capStamps | remap | busReqs | gauges | thermal | image | saved | cal | svc | jtag
  deriving DecidableEq, Repr

/-- The state with the parts `pt` blanked, and with them what reports may bring to any command: outputs, rings, the interrupt tree, the
event sequence, the event log and the counters. -/
def State.except (pt : Field → Bool) (s : State) : State :=
  { s with
    out := [], rings := [], ints := Ints.reset, storm := StormSt.reset, counters := []
    events := { s.events with seq := 0 }
    time := bif pt .time then State.reset.time else s.time
    freeCtr := bif pt .freeCtr then State.reset.freeCtr else s.freeCtr
    pins := bif pt .pins then State.reset.pins else s.pins
    mode := bif pt .mode then State.reset.mode else s.mode
    domains := bif pt .domains then [] else s.domains
    openSets := bif pt .openSets then [] else s.openSets
    parts := bif pt .parts then [] else s.parts
    partSeq := bif pt .partSeq then State.reset.partSeq else s.partSeq
    fused := bif pt .fused then State.reset.fused else s.fused
    repair := bif pt .repair then State.reset.repair else s.repair
    alarms := bif pt .alarms then [] else s.alarms
    srcs := bif pt .srcs then [] else s.srcs
    dsts := bif pt .dsts then [] else s.dsts
    convs := bif pt .convs then [] else s.convs
    ains := bif pt .ains then [] else s.ains
    aouts := bif pt .aouts then [] else s.aouts
    aports := bif pt .aports then [] else s.aports
    lanes := bif pt .lanes then [] else s.lanes
    buses := bif pt .buses then [] else s.buses
    ports := bif pt .ports then [] else s.ports
    flows := bif pt .flows then [] else s.flows
    queues := bif pt .queues then [] else s.queues
    gates := bif pt .gates then [] else s.gates
    planes := bif pt .planes then [] else s.planes
    levee := bif pt .levee then State.reset.levee else s.levee
    refs := bif pt .refs then [] else s.refs
    hg := bif pt .hg then State.reset.hg else s.hg
    caps := bif pt .caps then [] else s.caps
    trigs := bif pt .trigs then [] else s.trigs
    stems := bif pt .stems then [] else s.stems
    rends := bif pt .rends then [] else s.rends
    delivs := bif pt .delivs then [] else s.delivs
    cores := bif pt .cores then [] else s.cores
    riders := bif pt .riders then [] else s.riders
    riderDev := bif pt .riderDev then State.reset.riderDev else s.riderDev
    jobs := bif pt .jobs then [] else s.jobs
    jobSeq := bif pt .jobSeq then State.reset.jobSeq else s.jobSeq
    hostFlows := bif pt .hostFlows then [] else s.hostFlows
    ctxs := bif pt .ctxs then [] else s.ctxs
    heads := bif pt .heads then [] else s.heads
    layers := bif pt .layers then [] else s.layers
    readback := bif pt .readback then State.reset.readback else s.readback
    culverts := bif pt .culverts then [] else s.culverts
    dramStacks := bif pt .dramStacks then [] else s.dramStacks
    rmem := bif pt .rmem then [] else s.rmem
    dram := bif pt .dram then [] else s.dram
    capStamps := bif pt .capStamps then [] else s.capStamps
    remap := bif pt .remap then State.reset.remap else s.remap
    busReqs := bif pt .busReqs then [] else s.busReqs
    gauges := bif pt .gauges then [] else s.gauges
    thermal := bif pt .thermal then State.reset.thermal else s.thermal
    image := bif pt .image then State.reset.image else s.image
    saved := bif pt .saved then State.reset.saved else s.saved
    cal := bif pt .cal then State.reset.cal else s.cal
    svc := bif pt .svc then State.reset.svc else s.svc
    jtag := bif pt .jtag then State.reset.jtag else s.jtag }

end Machine

/-- What each event command of the host link, the signal paths, the lanes, the network and Headgate may write of the state, beside what
reports bring. -/
def Machine.signalFields : Instr → Option (List Field)
  | .dbReqWrite .. | .dbRplWrite .. | .dbEvtWrite .. | .ringEnable .. | .ringDisable .. | .ringDrainComplete ..
  | .ringFetchError .. | .ringWriteError .. | .intEnableWrite .. | .gateBadAccess .. => some []
  | .intHoldoffExpiry .. => some [.time]
  | .domainFrameLoRead .. => some [.domains]
  | .shadowRebuild .. => some [.domains, .dsts]
  | .timeNsRead | .incrNsRead => some [.hg]
  | .capNsRead .. | .tcapEdge .. => some [.caps]
  | .aonResetRelease => some [.time, .pins, .dramStacks]
  | .bootToRecovery => some [.mode]
  | .swapDecision .. => some [.time, .mode, .domains, .parts, .dsts, .flows]
  | .destSwitchingLine .. => some [.dsts]
  | .destFrameStart .. => some [.dsts, .flows, .stems]
  | .refActivityLost .. => some [.alarms, .refs, .hg]
  | .holdoverExpiry => some [.time, .alarms, .hg]
  | .historyRecord .. => some [.time, .hg]
  | .ptpBridgeTimeout => some [.time, .alarms, .refs, .hg]
  | .triggerFire .. => some [.time, .trigs]
  | .ppsOutPulse => some [.time, .pins]
  | .sourceFrameMeasure .. => some [.srcs, .dsts]
  | .sourceSignalLoss .. => some [.alarms, .srcs, .dsts, .ains, .aouts, .levee]
  | .flowSourceTimeout .. => some [.time, .alarms, .srcs, .dsts, .levee]
  | .probeFrame .. => some [.alarms, .dsts]
  | .generatorFrame .. | .recirculationReturn .. => some [.alarms, .srcs, .levee]
  | .converterMeasure .. | .audioActivityLoss .. => some [.alarms, .ains, .aouts]
  | .audioSlip .. => some [.ains]
  | .audioBoundary .. | .zeroCrossing .. => some [.time, .aouts]
  | .zeroCrossingTimeout .. => some [.time, .aouts]
  | .nonaudioOnset .. | .nonaudioEnd .. => some [.ains, .aouts]
  | .portClockError .. => some [.alarms, .ains, .aouts, .aports]
  | .portClockRecover .. => some [.alarms, .aports]
  | .fomAlarmClear .. | .legReturn .. => some [.time, .alarms]
  | .eyeScanComplete .. => some [.lanes, .cal]
  | .prbsCheckerLock .. | .prbsCheckerRelock .. => some [.lanes]
  | .i2cTransactionEnd .. | .i2cStretchTimeout .. => some [.alarms, .lanes, .buses]
  | .rateHookStart .. => some [.time, .lanes, .buses]
  | .linkUp .. => some [.freeCtr, .alarms, .lanes, .ports]
  | .linkDown .. => some [.alarms, .ports]
  | .ptpMessageReceive .. => some [.freeCtr, .ports]
  | .mergeRelease .. => some [.time, .srcs, .flows, .queues]
  | .legLoss .. => some [.time, .alarms, .flows]
  | .membershipReportRepeat .. => some [.time, .ports]
  | .egressEnqueue .. => some [.queues]
  | .egressSelect .. | .gateListTakeover .. => some [.time, .queues, .gates]
  | .queueDelayDrop .. | .queueSample .. => some [.time, .queues]
  | .gateEntryChange .. => some [.time, .gates]
  | .pacerRelease .. => some [.time, .flows, .queues]
  | .audioAncRelease .. => some [.flows, .queues]
  | .leaseRenew .. => some [.time, .levee]
  | .leaseExpiry | .handbackHoldoffExpiry => some [.time, .alarms, .ports, .flows, .queues, .planes, .levee, .hg]
  | .rightRequest .. => some [.alarms, .ports, .flows, .queues, .planes, .levee, .hg]
  | .planeCheckEval .. => some [.alarms, .ports, .flows, .queues, .planes, .levee, .hg]
  | .handoverHoldEnd .. => some [.time, .dsts, .levee]
  | .coreGate .. => some [.cores]
  | .holdupOkRise => some [.pins]
  | .delayReqSend .. | .announceTimeout .. => some [.ports]
  | .ristReceiverReport .. => some [.freeCtr, .flows]
  | .decoderInputRelease .. => some [.time, .freeCtr, .flows, .rends, .cores, .riders, .jobs, .hostFlows, .ctxs]
  | _ => none

/-- What each event command of coding, decode, the compositor, the memory, health, power and the update may write of the state, beside
what reports bring. -/
def Machine.serviceFields : Instr → Option (List Field)
  | .recalibrationComplete .. => some [.alarms, .cal]
  | .svcStatus | .svcFetch => some [.svc]
  | .sysResetRelease .. | .pwrOkRise => some [.pins, .mode]
  | .pwrOkTimeout => some [.time, .pins, .mode]
  | .firstBootPass => some [.mode, .image]
  | .oldSlotErased | .pieceWriteComplete .. => some [.image]
  | .dramReadError ..
    => some [.time, .freeCtr, .repair, .alarms, .dsts, .flows, .queues, .stems, .rends, .delivs, .jobs, .ctxs, .layers, .dramStacks]
  | .ristSenderReport .. | .tsTableInsert .. => some [.time, .freeCtr, .delivs]
  | .stemAnalysisRelease .. => some [.time, .freeCtr, .stems, .rends, .cores, .riders, .jobs, .hostFlows]
  | .partitionCutTime .. => some [.time, .rends]
  | .riderRequest .. | .coreWake .. | .riderRetry .. => some [.freeCtr, .rends, .cores, .riders, .jobs, .hostFlows]
  | .riderPreempt .. => some [.cores, .riders, .jobs]
  | .bfOutputRetry .. => some [.time, .freeCtr, .rends, .cores, .riders, .jobs, .hostFlows]
  | .floorAlarmClear .. => some [.time, .alarms]
  | .tsPacketSend .. => some [.time, .flows, .queues, .delivs]
  | .decodePictureComplete .. => some [.freeCtr, .alarms, .ctxs]
  | .decodeOutputLoss .. => some [.time, .alarms, .srcs, .ctxs]
  | .headFrameStart .. => some [.heads, .layers]
  | .headFrameComplete .. => some [.alarms, .srcs, .levee, .heads]
  | .readbackArm .. | .readbackCapture .. => some [.readback]
  | .culvertArm .. | .culvertErrorClear .. => some [.culverts, .gauges]
  | .culvertAbort .. | .culvertHalf .. => some [.culverts]
  | .culvertComplete .. | .culvertError .. | .culvertAbortComplete .. => some [.freeCtr, .culverts, .dramStacks, .dram, .gauges]
  | .remapSet => some [.remap]
  | .busDefaultAccess .. => some [.busReqs]
  | .scrubPassComplete .. | .refreshDue .. => some [.dramStacks]
  | .panicEnter .. | .panicLeave .. => some [.rmem]
  | .rtStarved .. => some [.alarms, .srcs, .dsts, .layers, .rmem]
  | .playoutPostTime .. => some [.time, .alarms, .srcs, .levee]
  | .playoutSlotFree .. => some [.alarms, .srcs, .levee]
  | .captureFrameWritten .. => some [.freeCtr, .dsts, .dram, .capStamps]
  | .gaugeFeedComplete .. => some [.dramStacks, .gauges]
  | .holdupOkFall => some [.pins, .dramStacks, .rmem]
  | .tallyChange .. => some [.pins]
  | .enforcementReevaluate => some [.time, .freeCtr, .rends, .cores, .riders, .jobs, .thermal]
  | .clauseClockStep .. => some [.time, .freeCtr, .thermal]
  | .powerSample .. => some [.alarms, .thermal]
  | .stormEnd => some [.time]
  | .pieceStale .. | .leaseIdleExpiry => some [.time, .image]
  | .jtagInstruction .. => some [.jtag]
  | _ => none

/-- The verb on a noun, and the request, of a command that is a request. -/
def Machine.requestOf : Instr → Option (ReqSpec × Request)
  | .queryDevice r => some (specQueryDevice, r)
  | .resetDevice r => some (specResetDevice, r)
  | .commit r => some (specCommit, r)
  | .cancelStageSet r => some (specCancelStageSet, r)
  | .cancelCommitted r => some (specCancelCommitted, r)
  | .setMode r => some (specSetMode, r)
  | .queryMode r => some (specQueryMode, r)
  | .setDomain r => some (specSetDomain, r)
  | .queryDomain r => some (specQueryDomain, r)
  | .queryReach r => some (specQueryReach, r)
  | .queryReachBandwidth r => some (specQueryReachBandwidth, r)
  | .subscribe r => some (specSubscribe, r)
  | .unsubscribe r => some (specUnsubscribe, r)
  | .querySubscriptions r => some (specQuerySubscriptions, r)
  | .queryEvent r => some (specQueryEvent, r)
  | .take r => some (specTake, r)
  | .salvo r => some (specSalvo, r)
  | .stageDstRoute r => some (specStageDstRoute, r)
  | .stageDstFormat r => some (specStageDstFormat, r)
  | .stageDstDomain r => some (specStageDstDomain, r)
  | .setSrcFormat r => some (specSetSrcFormat, r)
  | .setSrcGenerator r => some (specSetSrcGenerator, r)
  | .queryDst r => some (specQueryDst, r)
  | .querySrc r => some (specQuerySrc, r)
  | .lockDst r => some (specLockDst, r)
  | .unlockDst r => some (specUnlockDst, r)
  | .stageSrcLossAction r => some (specStageSrcLossAction, r)
  | .stageSrcOverride r => some (specStageSrcOverride, r)
  | .setDstProbe r => some (specSetDstProbe, r)
  | .queryDstProbe r => some (specQueryDstProbe, r)
  | .querySrcAlignment r => some (specQuerySrcAlignment, r)
  | .setSrcPlayoutPost r => some (specSetSrcPlayoutPost, r)
  | .setDstCaptureHold r => some (specSetDstCaptureHold, r)
  | .queryDstCapture r => some (specQueryDstCapture, r)
  | .takeAudioOut r => some (specTakeAudioOut, r)
  | .stageAudioOutRoute r => some (specStageAudioOutRoute, r)
  | .stageAudioOutFollow r => some (specStageAudioOutFollow, r)
  | .stageAudioOutDomain r => some (specStageAudioOutDomain, r)
  | .stageAudioOutDelay r => some (specStageAudioOutDelay, r)
  | .stageAacProgramme r => some (specStageAacProgramme, r)
  | .lockAudioOut r => some (specLockAudioOut, r)
  | .unlockAudioOut r => some (specUnlockAudioOut, r)
  | .setAudioPort r => some (specSetAudioPort, r)
  | .stageSlotMask r => some (specStageSlotMask, r)
  | .queryAudioIn r => some (specQueryAudioIn, r)
  | .queryAudioOut r => some (specQueryAudioOut, r)
  | .setLaneTransmit r => some (specSetLaneTransmit r.index, r)
  | .setLaneReceive r => some (specSetLaneReceive r.index, r)
  | .setLaneAsymmetry r => some (specSetLaneAsymmetry r.index, r)
  | .setLaneTestTools r => some (specSetLaneTestTools r.index, r)
  | .setLaneEyeScan r => some (specSetLaneEyeScan r.index, r)
  | .readLaneEyeScan r => some (specReadLaneEyeScan r.index, r)
  | .setLaneI2cBind r => some (specSetLaneI2cBind r.index, r)
  | .writeLaneI2c r => some (specWriteLaneI2c r.index, r)
  | .setLaneRateHooks r => some (specSetLaneRateHooks r.index, r)
  | .queryLane r => some (specQueryLane, r)
  | .resetLane r => some (specResetLane, r)
  | .setEthPort r => some (specSetEthPort, r)
  | .setEthPortPtp r => some (specSetEthPortPtp, r)
  | .queryEthPort r => some (specQueryEthPort, r)
  | .resetEthPort r => some (specResetEthPort, r)
  | .stageFlow r => some (specStageFlow, r)
  | .queryFlow r => some (specQueryFlow, r)
  | .stageQueueDscpMap r => some (specStageQueueDscpMap, r)
  | .stageQueue r => some (specStageQueue, r)
  | .readQueueSamples r => some (specReadQueueSamples, r)
  | .queryQueue r => some (specQueryQueue, r)
  | .stageGateList r => some (specStageGateList, r)
  | .queryGateList r => some (specQueryGateList, r)
  | .stagePlane r => some (specStagePlane, r)
  | .setPlaneDiagnosis r => some (specSetPlaneDiagnosis, r)
  | .queryPlane r => some (specQueryPlane, r)
  | .setRefInput r => some (specSetRefInput, r)
  | .queryRefInput r => some (specQueryRefInput, r)
  | .setTimebase r => some (specSetTimebase, r)
  | .setTimebasePhase r => some (specSetTimebasePhase, r)
  | .setTimebaseAbsolute r => some (specSetTimebaseAbsolute, r)
  | .queryTimebase r => some (specQueryTimebase, r)
  | .setTrigger r => some (specSetTrigger, r)
  | .queryTrigger r => some (specQueryTrigger, r)
  | .stageStem r => some (specStageStem, r)
  | .queryStem r => some (specQueryStem, r)
  | .queryStemCapacity r => some (specQueryStemCapacity, r)
  | .stageRendition r => some (specStageRendition, r)
  | .stageRenditionRate r => some (specStageRenditionRate, r)
  | .queryRendition r => some (specQueryRendition, r)
  | .queryRenditionRate r => some (specQueryRenditionRate, r)
  | .stageDelivery r => some (specStageDelivery, r)
  | .queryDelivery r => some (specQueryDelivery, r)
  | .submitJob r => some (specSubmitJob, r)
  | .cancelJob r => some (specCancelJob, r)
  | .queryJob r => some (specQueryJob, r)
  | .queryJobReaches r => some (specQueryJobReaches, r)
  | .setJobTrace r => some (specSetJobTrace, r)
  | .readJobTrace r => some (specReadJobTrace, r)
  | .stageDecodeCtx r => some (specStageDecodeCtx, r)
  | .queryDecodeCtx r => some (specQueryDecodeCtx, r)
  | .resetDecodeCtx r => some (specResetDecodeCtx, r)
  | .stageHead r => some (specStageHead, r)
  | .stageHeadDomain r => some (specStageHeadDomain, r)
  | .setHeadFreeze r => some (specSetHeadFreeze, r)
  | .setHeadStickyClear r => some (specSetHeadStickyClear, r)
  | .queryHead r => some (specQueryHead, r)
  | .stageVideoLayer r => some (specStageVideoLayer, r)
  | .stageGraphicLayer r => some (specStageGraphicLayer, r)
  | .stageLayerMatrix r => some (specStageLayerMatrix, r)
  | .stageMeterFirst r => some (specStageMeterFirst, r)
  | .writeLayerSurface r => some (specWriteLayerSurface, r)
  | .queryLayer r => some (specQueryLayer, r)
  | .setGauge r => some (specSetGauge, r)
  | .writeGaugeData r => some (specWriteGaugeData, r)
  | .setGaugeFeed r => some (specSetGaugeFeed, r)
  | .queryGauge r => some (specQueryGauge, r)
  | .setGaugeValue r => some (specSetGaugeValue, r)
  | .setGaugeFinalise r => some (specSetGaugeFinalise, r)
  | .resetGauge r => some (specResetGauge, r)
  | .ackThermal r => some (specAckThermal, r)
  | .readThermalRecords r => some (specReadThermalRecords, r)
  | .setThermal r => some (specSetThermal, r)
  | .queryThermal r => some (specQueryThermal, r)
  | .readCounter r => some (specReadCounter, r)
  | .readCounterCatalogue r => some (specReadCounterCatalogue, r)
  | .writeCounterSticky r => some (specWriteCounterSticky, r)
  | .openImage r => some (specOpenImage, r)
  | .putImage r => some (specPutImage, r)
  | .closeImage r => some (specCloseImage, r)
  | .activateImage r => some (specActivateImage, r)
  | .setImage r => some (specSetImage, r)
  | .queryImage r => some (specQueryImage, r)
  | .lockImage r => some (specLockImage, r)
  | .unlockImage r => some (specUnlockImage, r)
  | .readCalset r => some (specReadCalset, r)
  | .writeCalset r => some (specWriteCalset, r)
  | .setCalsetRecalibrate r => some (specSetCalsetRecalibrate, r)
  | _ => none

end Sys2Proof
end

