-- ==== Sys2Proof/Certificates/Slice0/Obligations.lean ====
section
/-! DEFINITION. The statements for the provers, drawn from the numbered rules of spec/. -/
open Sys2Proof Sys2Proof.Machine

/-- A step takes the command at the front of the queue and runs it on the state with the rest of the queue. -/
def Obligations.StepRunsFront : Prop :=
  ∀ (s : State) (c : Instr) (rest : List Instr), step { s with pending := c :: rest } = exec c { s with pending := rest }

/-- With no command waiting, one cycle of the device clock passes: device time grows by INCR_NS and INCR_FRAC, and nothing else
changes (the model's choice of what a step is then, log entry 13; 09 R399). -/
def Obligations.EmptyQueueIdles : Prop :=
  ∀ s : State, s.pending = [] →
    step s = .next { s with time := (s.time + s.hg.incrNs * 2 ^ 32 + s.hg.incrFrac.toNat) % timeSpan }

/-- What reset leaves: Dormant with every target equal to it, device time 0, rings disabled, no interrupt enabled or pending, domains 1
to 8 disabled, no open stage set, no subscription, nothing committed, every counter 0 and no alarm, INCR_NS 40 (01 R27, R50, R54;
02 R75, R95, R102, R125; 09 R399; 15 R650). -/
def Obligations.ResetState : Prop :=
  State.reset.mode.current = .dormant ∧ State.reset.mode.base = .dormant ∧ State.reset.mode.target = .dormant ∧
    State.reset.mode.busy = false ∧ State.reset.time = 0 ∧ (∀ n, (State.reset.ring n).enable = false ∧ (State.reset.ring n).active = false ∧
      (State.reset.ring n).producer = 0 ∧ (State.reset.ring n).reqConsumer = 0) ∧
    State.reset.ints.enable = 0 ∧ State.reset.ints.cause = 0 ∧ (∀ d, 1 ≤ d → (State.reset.domain d).rate = 0) ∧
    State.reset.openSets = [] ∧ State.reset.parts = [] ∧ State.reset.subscriptions = [] ∧ (∀ i u, State.reset.cnt i u = 0) ∧
    (∀ i u, State.reset.stands i u = false) ∧ State.reset.hg.incrNs = 40 ∧ State.reset.hg.incrFrac = 0 ∧ State.reset.pending = []

/-- The state after reset meets the invariants: the frame store is in canonical form, every bank has its units, and the mode registers
are legal. Where it goes
beyond the rules it rests on the model's readings: log entry 12. -/
def Obligations.ResetIsSound : Prop := State.reset.Sound ∧ State.reset.mode.legal

/-- Every step keeps the frame store in canonical form (addresses rising, no entry equal to what an unlisted address reads as) and
every bank at its number of units. Where it goes
beyond the rules it rests on the model's readings: log entry 12. -/
def Obligations.StepKeepsSound : Prop := ∀ s t : State, s.Sound → step s = .next t → t.Sound

/-- Every step keeps the mode registers legal: mode_target equals mode_current when idle and is a listed transition when busy, and
mode_base differs from mode_current only beneath Throttled (01 R44, R50, R54). -/
def Obligations.StepKeepsModeLegal : Prop := ∀ s t : State, s.mode.legal → step s = .next t → t.mode.legal

/-- The mode changes only along the table of 01 R50 and the restarts of R54, whatever command runs; Throttled returns to its base
mode, and a grace time that ends while a service transition is in hand completes it before Throttled. -/
def Obligations.ModeMovesAsListed : Prop :=
  ∀ s t : State, s.mode.legal → s.pending.head? ≠ some .aonResetAssert → step s = .next t →
    t.mode.current = s.mode.current ∨ modeMoves s.mode.current t.mode.current = true ∨
      (s.mode.current = .throttled ∧ t.mode.current = s.mode.base) ∨
      (s.mode.busy = true ∧ s.mode.current.service = true ∧ s.mode.target.enforced = true ∧ t.mode.current = .throttled)

/-- The frame store stays as it is, byte for byte, with the sample times of its capture slots, under every command but the transfers, the
captures and the changes of mode and power that `touchesStore` names. Where it goes
beyond the rules it rests on the model's readings: log entry 12. -/
def Obligations.FrameStoreFrame : Prop :=
  ∀ (c : Instr) (s t : State), touchesStore c = false → exec c s = .next t →
    t.dram = s.dram ∧ t.capStamps = s.capStamps ∧ ∀ a, t.dramByte a = s.dramByte a

/-- What few commands change. No command changes the queue behind it or the fused identity (variant, stepping, serial number, spares at
shipment). Fences, retirements, spares and what is pending repair change only at a fence, a memory error, Training and AON_RESET_N; the
timing domains only by their own boundaries, SET on Domain, steps of device time and Boot; the JTAG instruction only by JTAG; the remap of
the reset vector only by its command and by the resets that clear it (01 R19 to R22, R25, R27, R60; 02 R67, R69, R118; 14 R614; 17 R723). -/
def Obligations.RareStateFrame : Prop :=
  ∀ (c : Instr) (s t : State), exec c s = .next t →
    t.pending = s.pending ∧ t.fused.identity = s.fused.identity ∧
    (touchesRepair c = false → t.repair = s.repair) ∧ (touchesDomains c = false → t.domains = s.domains) ∧
    (c ≠ .aonResetAssert → (∀ op, c ≠ .jtagInstruction op) → t.jtag = s.jtag) ∧
    (c ≠ .aonResetAssert → c ≠ .remapSet → c ≠ .sysResetAssert → c ≠ .pwrOkFall → t.remap = s.remap)

/-- The frame of each event command of the host link, the signal paths, the lanes, the network and Headgate: it leaves every field of the
state unchanged but those that `signalFields` gives it and what reports bring (outputs, rings, the interrupt tree, the event sequence, the
event log, the counters). -/
def Obligations.SignalEventsFrame : Prop :=
  ∀ (c : Instr) (fs : List Field) (s t : State), signalFields c = some fs → exec c s = .next t →
    t.except fs.contains = s.except fs.contains

/-- The frame of each event command of coding, decode, the compositor, the memory, health, power and the update: it leaves every field of
the state unchanged but those that `serviceFields` gives it and what reports bring (outputs, rings, the interrupt tree, the event sequence,
the event log, the counters). -/
def Obligations.ServiceEventsFrame : Prop :=
  ∀ (c : Instr) (fs : List Field) (s t : State), serviceFields c = some fs → exec c s = .next t →
    t.except fs.contains = s.except fs.contains

/-- A request on a ring from which none can be taken (the ring is disabled, empty or not served in this mode, or the link is down)
changes nothing (log entry 17). -/
def Obligations.RequestWithoutRing : Prop :=
  ∀ (i : Instr) (q : ReqSpec) (r : Request) (n : Nat) (s : State), requestOf i = some (q, r) → r.carrier = .ring n → s.takes n = false →
    exec i s = .next s

/-- A request that arrives is answered with its first failure, in the order of 02 R100, and a request that fails steps 1 to 7 leaves
everything but its slot, its reply and the record of a fetch error or a firmware fault as it was. Where it goes
beyond the rules it rests on the model's readings: log entries 16, 32, 33, 174. -/
def Obligations.RefusedRequestAnswered : Prop :=
  ∀ (i : Instr) (q : ReqSpec) (r : Request) (s : State) (a : Answer), requestOf i = some (q, r) → r.arrives s →
    admitted q (r.callIn s) (s.taking r) = some a →
    ∃ t : State, exec i s = .next (t.reply (verbOf q r) r (sized r (listed q r a))) ∧ t.silent = s.silent

/-- The order of the checks of 02 R100: a request whose verb or noun code is not listed is UNKNOWN, and one whose codes are listed but
fit no row of the table INVALID; a firmware fault is INTERNAL (02 R97 to R99). Of every other request: a malformed header is INVALID
whatever else fails; then an indirect input that cannot be read is INTEGRITY; then a verb the mode does not serve is STATE; then an index
outside the noun's range is RANGE with reason code 0x0007; then an absent unit is ABSENT, a fenced one STATE with reason code 0x0001, and a
unit that another tag has locked LOCKED, unless the request is a QUERY or READ or bears tag 0xFF; then a bit that a field must hold at zero
is RANGE and a reserved byte that is not zero INVALID, and a block without either passes. Where the settings in the block name units of
their own (STAGE, TAKE, SALVO), a failure of steps 4 to 7 that those settings give stands before a reserved byte that is not zero. Where it goes
beyond the rules it rests on the model's readings: log entry 32. -/
def Obligations.ChecksInOrder : Prop :=
  ∀ (q : ReqSpec) (c : Call) (s : State),
    (∀ v n, c.r.odd = some (.code v n) → (verbKnown v && nounKnown n) = false → ∃ a, admitted q c s = some a ∧ a.status = 0x010B) ∧
    (∀ v n, c.r.odd = some (.code v n) → (verbKnown v && nounKnown n) = true → ∃ a, admitted q c s = some a ∧ a.status = 0x0100) ∧
    (c.r.odd = some .fault → ∃ a, admitted q c s = some a ∧ a.status = 0x0200) ∧
    (c.r.odd = none →
    (headerOk q c.r = false → ∃ a, admitted q c s = some a ∧ a.status = 0x0100) ∧
    (headerOk q c.r = true → blockOf c.r = none → ∃ a, admitted q c s = some a ∧ a.status = 0x010A) ∧
    (headerOk q c.r = true → (blockOf c.r).isSome = true → blockOk q c.block = true → s.serves c.r.carrier q.verb q.noun = false →
      ∃ a, admitted q c s = some a ∧ a.status = 0x0106) ∧
    (headerOk q c.r = true → (blockOf c.r).isSome = true → blockOk q c.block = true → s.serves c.r.carrier q.verb q.noun = true →
      q.asleep s c = none → q.index c.r.index = false → ∃ a, admitted q c s = some a ∧ a.status = 0x0101 ∧ a.reason = 0x0007) ∧
    (∀ n, headerOk q c.r = true → (blockOf c.r).isSome = true → blockOk q c.block = true → s.serves c.r.carrier q.verb q.noun = true →
      q.asleep s c = none → q.index c.r.index = true → q.named s c = [n] →
      (n.present = false → ∃ a, admitted q c s = some a ∧ a.status = 0x0102) ∧
      (n.present = true → n.fenced = true → ∃ a, admitted q c s = some a ∧ a.status = 0x0106 ∧ a.reason = 0x0001) ∧
      (n.present = true → n.fenced = false → n.lock ≠ 0 → n.lock ≠ c.owner → c.owner ≠ 0xFF → q.verb ≠ 0x01 → q.verb ≠ 0x13 →
        ∃ a, admitted q c s = some a ∧ a.status = 0x0105 ∧ a.reason = n.lock)) ∧
    (headerOk q c.r = true → (blockOf c.r).isSome = true → blockOk q c.block = true → s.serves c.r.carrier q.verb q.noun = true →
      q.asleep s c = none → q.index c.r.index = true → namedFail (q.named s c) c.owner (q.verb == 0x01 || q.verb == 0x13) = none →
      (q.judged = false → q.bits c.block = false → admitted q c s = some (fail 0x0101 q.bitsReason)) ∧
      (q.judged = false → q.bits c.block = true → q.form c.block = false → admitted q c s = some (fail 0x0100 0 (q.badItem c.block))) ∧
      (q.judged = true → q.bits c.block = true → q.form c.block = false → (q.body c s).1.status ≥ 0x0100 → (q.body c s).1.accepted = false →
        (q.body c s).1.item < 65536 → failStep (q.body c s).1 < 9 → admitted q c s = some (q.body c s).1) ∧
      (q.bits c.block = true → q.form c.block = true → admitted q c s = none)))

/-- A request flagged VALIDATE_ONLY applies nothing (02 R88, R100). -/
def Obligations.ValidateOnlyAppliesNothing : Prop :=
  ∀ (i : Instr) (q : ReqSpec) (r : Request) (s t : State), requestOf i = some (q, r) → reqValidate r = true → exec i s = .next t →
    t.silent = s.silent

/-- A request answered with a status of class 0x01xx or 0x02xx without ACCEPTED applies nothing (02 R91), but for SET on Lane with
selector 0x02, where 06 R272 has the fields other than the flags applied under BUSY, and for the PUT on Image that completes a piece whose
check fails, which 16 R672 has discard that piece. Where it goes
beyond the rules it rests on the model's readings: log entry 51. -/
def Obligations.FailedRequestAppliesNothing : Prop :=
  ∀ (i : Instr) (q : ReqSpec) (r : Request) (s t : State), requestOf i = some (q, r) → (∀ r', i ≠ .setLaneTransmit r') → (∀ r', i ≠ .putImage r') →
    (verdict q (r.callIn s) (s.taking r)).status ≥ 0x0100 → (verdict q (r.callIn s) (s.taking r)).accepted = false →
    exec i s = .next t → t.silent = s.silent

/-- QUERY and READ change nothing (02 R97), but for the clearing that READ on Queue may ask for (08 R357) and for the free values that
QUERY on Reach with selector 0x10 takes. -/
def Obligations.QueriesChangeNothing : Prop :=
  ∀ (i : Instr) (q : ReqSpec) (r : Request) (s t : State), requestOf i = some (q, r) → q.verb = 0x01 ∨ q.verb = 0x13 →
    (∀ r', i ≠ .readQueueSamples r') → exec i s = .next t → { t.silent with freeCtr := 0 } = { s.silent with freeCtr := 0 }

/-- A reply on ring n: the request's slot is taken, its reply goes to the slot of the same number of the paired reply ring (its payload
to the out buffer of an INDIRECT request that has one), payload before header before writeback word, then the ring's interrupt cause;
both ring indices move on by one, modulo 2^16 (02 R81, R83, R87). -/
def Obligations.ReplyOnRing : Prop :=
  ∀ (s : State) (n verb : Nat) (r : Request) (a : Answer), n < 4 → n < s.rings.length →
    ((s.takeSlot n).ring n).reqConsumer = (s.ring n).reqConsumer + 1 ∧
    ((s.replyRing n verb r a).ring n).rplProducer = (s.ring n).rplProducer + 1 ∧
    (s.replyRing n verb r a).ints.cause.getLsbD n = true ∧
    ∃ message : List Out, message.length ≤ 1 ∧ (s.replyRing n verb r a).out = message ++
      [.hostWrite (wordBase (s.ring n).wbAddr) (le 2 (s.ring n).reqConsumer.toNat ++ le 2 ((s.ring n).rplProducer + 1).toNat),
       .hostWrite (pageBase (s.ring n).rplBase + 512 * ((s.ring n).rplProducer.toNat % ringDepth n)) (replyHeader verb r a (outBuffer r a))] ++
      (if a.payload = [] then []
       else if hasOut r = true then [.hostWrite (u64 r.payload 16) a.payload]
       else [.hostWrite (pageBase (s.ring n).rplBase + 512 * ((s.ring n).rplProducer.toNat % ringDepth n) + 32) a.payload]) ++ s.out

/-- QUERY and READ of the transport and switching nouns answer OK with the block that their rule lays out, taken of the state at hand
(01 R53, R60, R61; 02 R118; 03 R158, R159; 04 R209, R210; 06 R298; 07 R335, R336; 08 R358). Where it goes
beyond the rules it rests on the model's readings: log entries 33, 72, 95, 100. -/
def Obligations.TransportQueriesAnswer : Prop :=
  (∀ r s, r.accepted specQueryDevice s → ((s.taking r).inventory).length ≤ replyRoom r →
    exec (.queryDevice r) s = .next ((s.taking r).reply 0x01 r (okWith ((s.taking r).inventory)))) ∧
  (∀ r s, r.accepted specQueryReach s → (reachBlock (s.taking r) r.index).length ≤ replyRoom r →
    exec (.queryReach r) s = .next ((s.taking r).reply 0x01 r (okWith (reachBlock (s.taking r) r.index)))) ∧
  (∀ r s, r.accepted specQueryMode s → (modeBlock (s.taking r)).length ≤ replyRoom r →
    exec (.queryMode r) s = .next ((s.taking r).reply 0x01 r (okWith (modeBlock (s.taking r))))) ∧
  (∀ r s, r.accepted specQueryDomain s → (domainBlock (s.taking r) r.index).length ≤ replyRoom r →
    exec (.queryDomain r) s = .next ((s.taking r).reply 0x01 r (okWith (domainBlock (s.taking r) r.index)))) ∧
  (∀ r s, r.accepted specQuerySubscriptions s → (subscriptionBlock (s.taking r)).length ≤ replyRoom r →
    exec (.querySubscriptions r) s = .next ((s.taking r).reply 0x01 r (okWith (subscriptionBlock (s.taking r))))) ∧
  (∀ r s, r.accepted specQueryEvent s → (eventBlock (s.taking r)).length ≤ replyRoom r →
    exec (.queryEvent r) s = .next ((s.taking r).reply 0x01 r (okWith (eventBlock (s.taking r))))) ∧
  (∀ r s, r.accepted specQueryDst s → (s.taking r).dstMember r.index = false → (dstBlock (s.taking r) r.index).length ≤ replyRoom r →
    exec (.queryDst r) s = .next ((s.taking r).reply 0x01 r (okWith (dstBlock (s.taking r) r.index)))) ∧
  (∀ r s, r.accepted specQuerySrc s → (s.taking r).srcMember r.index = false → (srcBlock (s.taking r) r.index).length ≤ replyRoom r →
    exec (.querySrc r) s = .next ((s.taking r).reply 0x01 r (okWith (srcBlock (s.taking r) r.index)))) ∧
  (∀ r s, r.accepted specQueryDstProbe s → (s.taking r).dstMember r.index = false → (probeBlock (s.taking r) r.index).length ≤ replyRoom r →
    exec (.queryDstProbe r) s = .next ((s.taking r).reply 0x01 r (okWith (probeBlock (s.taking r) r.index)))) ∧
  (∀ r s, r.accepted specQuerySrcAlignment s → (s.taking r).srcMember r.index = false → (alignmentBlock (s.taking r) r.index).length ≤ replyRoom r →
    exec (.querySrcAlignment r) s = .next ((s.taking r).reply 0x01 r (okWith (alignmentBlock (s.taking r) r.index)))) ∧
  (∀ r s, r.accepted specQueryDstCapture s → isCapture r.index = true → (s.taking r).dstMember r.index = false → (captureBlock (s.taking r) r.index).length ≤ replyRoom r →
    exec (.queryDstCapture r) s = .next ((s.taking r).reply 0x01 r (okWith (captureBlock (s.taking r) r.index)))) ∧
  (∀ r s, r.accepted specQueryAudioIn s → (s.taking r).ainOdd r.index = false → (ainBlock (s.taking r) r.index).length ≤ replyRoom r →
    exec (.queryAudioIn r) s = .next ((s.taking r).reply 0x01 r (okWith (ainBlock (s.taking r) r.index)))) ∧
  (∀ r s, r.accepted specQueryAudioOut s → (s.taking r).aoutOdd r.index = false → (aoutBlock (s.taking r) r.index).length ≤ replyRoom r →
    exec (.queryAudioOut r) s = .next ((s.taking r).reply 0x01 r (okWith (aoutBlock (s.taking r) r.index)))) ∧
  (∀ r s, r.accepted specQueryLane s → (laneBlock (s.taking r) r.index).length ≤ replyRoom r →
    exec (.queryLane r) s = .next ((s.taking r).reply 0x01 r (okWith (laneBlock (s.taking r) r.index)))) ∧
  (∀ r s, r.accepted (specReadLaneEyeScan r.index) s → r.index < 256 → (eyeBlock ((s.taking r).lane r.index)).length ≤ replyRoom r →
    exec (.readLaneEyeScan r) s = .next ((s.taking r).reply 0x13 r (okWith (eyeBlock ((s.taking r).lane r.index))))) ∧
  (∀ r s, r.accepted specQueryEthPort s → (portBlock (s.taking r) r.index).length ≤ replyRoom r →
    exec (.queryEthPort r) s = .next ((s.taking r).reply 0x01 r (okWith (portBlock (s.taking r) r.index)))) ∧
  (∀ r s, r.accepted specQueryFlow s → (flowBlock (s.taking r) r.index).length ≤ replyRoom r →
    exec (.queryFlow r) s = .next ((s.taking r).reply 0x01 r (okWith (flowBlock (s.taking r) r.index)))) ∧
  (∀ r s, r.accepted specQueryQueue s → (queueBlock (s.taking r) r.index).length ≤ replyRoom r →
    exec (.queryQueue r) s = .next ((s.taking r).reply 0x01 r (okWith (queueBlock (s.taking r) r.index)))) ∧
  (∀ r s, r.accepted specReadQueueSamples s → u8 r.block 1 = 0 → (sampleBlock ((s.taking r).queue r.index)).length ≤ replyRoom r →
    exec (.readQueueSamples r) s = .next ((s.taking r).reply 0x13 r (okWith (sampleBlock ((s.taking r).queue r.index))))) ∧
  (∀ r s, r.accepted specQueryGateList s → (gateBlock (s.taking r) r.index).length ≤ replyRoom r →
    exec (.queryGateList r) s = .next ((s.taking r).reply 0x01 r (okWith (gateBlock (s.taking r) r.index)))) ∧
  (∀ r s, r.accepted specQueryPlane s → (planeBlock (s.taking r) r.index).length ≤ replyRoom r →
    exec (.queryPlane r) s = .next ((s.taking r).reply 0x01 r (okWith (planeBlock (s.taking r) r.index))))

/-- QUERY and READ of the timing, coding, compositor, memory, health and update nouns answer OK with the block that their rule lays
out; what the five classes asked for, behind the bandwidths of QUERY on Reach with selector 0x10, are free values (09 R410; 10 R465,
R466; 11 R502; 12 R540, R541; 13 R576, R577; 14 R621, R624; 15 R657; 16 R678). Where it goes
beyond the rules it rests on the model's readings: log entries 21, 28, 30, 33, 53, 89, 105, 123. -/
def Obligations.ServiceQueriesAnswer : Prop :=
  (∀ r s, r.accepted specQueryRefInput s → (refBlock (s.taking r) r.index).length ≤ replyRoom r →
    exec (.queryRefInput r) s = .next ((s.taking r).reply 0x01 r (okWith (refBlock (s.taking r) r.index)))) ∧
  (∀ r s, r.accepted specQueryTimebase s → (timebaseBlock (s.taking r)).length ≤ replyRoom r →
    exec (.queryTimebase r) s = .next ((s.taking r).reply 0x01 r (okWith (timebaseBlock (s.taking r))))) ∧
  (∀ r s, r.accepted specQueryTrigger s → (encTrigCfg 0x01 ((s.taking r).trigCfg r.index)).length ≤ replyRoom r →
    exec (.queryTrigger r) s = .next ((s.taking r).reply 0x01 r (okWith (encTrigCfg 0x01 ((s.taking r).trigCfg r.index))))) ∧
  (∀ r s, r.accepted specQueryStem s → (s.taking r).dstMember (1024 + r.index) = false → (stemBlock (s.taking r) r.index).length ≤ replyRoom r →
    exec (.queryStem r) s = .next ((s.taking r).reply 0x01 r (okWith (stemBlock (s.taking r) r.index)))) ∧
  (∀ r s, r.accepted specQueryStemCapacity s → (capacityBlock (s.taking r)).length ≤ replyRoom r →
    exec (.queryStemCapacity r) s = .next ((s.taking r).reply 0x01 r (okWith (capacityBlock (s.taking r))))) ∧
  (∀ r s, r.accepted specQueryRendition s → (rendBlock (s.taking r) r.index).length ≤ replyRoom r →
    exec (.queryRendition r) s = .next ((s.taking r).reply 0x01 r (okWith (rendBlock (s.taking r) r.index)))) ∧
  (∀ r s, r.accepted specQueryRenditionRate s → (rendRateBlock (s.taking r) r.index).length ≤ replyRoom r →
    exec (.queryRenditionRate r) s = .next ((s.taking r).reply 0x01 r (okWith (rendRateBlock (s.taking r) r.index)))) ∧
  (∀ r s, r.accepted specQueryDelivery s → (delivBlock (s.taking r) r.index).length ≤ replyRoom r →
    exec (.queryDelivery r) s = .next ((s.taking r).reply 0x01 r (okWith (delivBlock (s.taking r) r.index)))) ∧
  (∀ r s, r.accepted specQueryJob s → ((s.taking r).job r.index).used = true → (jobBlock ((s.taking r).job r.index)).length ≤ replyRoom r →
    exec (.queryJob r) s = .next ((s.taking r).reply 0x01 r (okWith (jobBlock ((s.taking r).job r.index))))) ∧
  (∀ r s, r.accepted specQueryJobReaches s → ((List.range 4).flatMap (reachJobs (s.taking r))).length ≤ replyRoom r →
    exec (.queryJobReaches r) s = .next ((s.taking r).reply 0x01 r (okWith ((List.range 4).flatMap (reachJobs (s.taking r)))))) ∧
  (∀ r s, r.accepted specReadJobTrace s → u8 r.block 1 ≤ 3 → reachFitted (s.taking r).fused.part (u8 r.block 1) = true → (traceReply ((s.taking r).rider (u8 r.block 1)) (u32 r.block 4) (replyRoom r)).length ≤ replyRoom r →
    exec (.readJobTrace r) s = .next ((s.taking r).reply 0x13 r (okWith (traceReply ((s.taking r).rider (u8 r.block 1)) (u32 r.block 4) (replyRoom r))))) ∧
  (∀ r s, r.accepted specQueryDecodeCtx s → (ctxBlock (s.taking r) r.index).length ≤ replyRoom r →
    exec (.queryDecodeCtx r) s = .next ((s.taking r).reply 0x01 r (okWith (ctxBlock (s.taking r) r.index)))) ∧
  (∀ r s, r.accepted specQueryHead s → (headBlock (s.taking r) r.index).length ≤ replyRoom r →
    exec (.queryHead r) s = .next ((s.taking r).reply 0x01 r (okWith (headBlock (s.taking r) r.index)))) ∧
  (∀ r s, r.accepted specQueryLayer s → (layerBlock (s.taking r) r.index).length ≤ replyRoom r →
    exec (.queryLayer r) s = .next ((s.taking r).reply 0x01 r (okWith (layerBlock (s.taking r) r.index)))) ∧
  (∀ r s, r.accepted specQueryGauge s → (gaugeBlock ((s.taking r).gauge r.index)).length ≤ replyRoom r →
    exec (.queryGauge r) s = .next ((s.taking r).reply 0x01 r (okWith (gaugeBlock ((s.taking r).gauge r.index))))) ∧
  (∀ r s, r.accepted specReadThermalRecords s → (recordBlock (s.taking r)).length ≤ replyRoom r →
    exec (.readThermalRecords r) s = .next ((s.taking r).reply 0x13 r (okWith (recordBlock (s.taking r))))) ∧
  (∀ r s, r.accepted specQueryThermal s → (thermalBlock (s.taking r)).length ≤ replyRoom r →
    exec (.queryThermal r) s = .next ((s.taking r).reply 0x01 r (okWith (thermalBlock (s.taking r))))) ∧
  (∀ r s, r.accepted specReadCounter s → u32 r.block 4 < nounUnits (u16 r.block 2) → (counterBlock (s.taking r) (u16 r.block 2) (u32 r.block 4)).length ≤ replyRoom r →
    exec (.readCounter r) s = .next ((s.taking r).reply 0x13 r (okWith (counterBlock (s.taking r) (u16 r.block 2) (u32 r.block 4))))) ∧
  (∀ r s, r.accepted specReadCounterCatalogue s → (catalogueBlock).length ≤ replyRoom r →
    exec (.readCounterCatalogue r) s = .next ((s.taking r).reply 0x13 r (okWith (catalogueBlock)))) ∧
  (∀ r s, r.accepted specReadCalset s → ((s.taking r).calSet).length ≤ replyRoom r →
    exec (.readCalset r) s = .next ((s.taking r).reply 0x13 r (okWith ((s.taking r).calSet)))) ∧
  (∀ r s, r.accepted specQueryImage s → r.index = 1 → r.block = [] ∨ u8 r.block 0 = 1 → (activeBlock (s.taking r)).length ≤ replyRoom r →
    exec (.queryImage r) s = .next ((s.taking r).reply 0x01 r (okWith (activeBlock (s.taking r))))) ∧
  (∀ r s, r.accepted specQueryImage s → r.index ≠ 1 → r.block.length = 1 → u8 r.block 0 = 1 → (stagingBlock (s.taking r)).length ≤ replyRoom r →
    exec (.queryImage r) s = .next ((s.taking r).reply 0x01 r (okWith (stagingBlock (s.taking r))))) ∧
  (∀ r s, r.accepted specQueryImage s → r.index ≠ 1 → r.block.length = 1 → u8 r.block 0 = 2 → (piecesBlock (s.taking r)).length ≤ replyRoom r →
    exec (.queryImage r) s = .next ((s.taking r).reply 0x01 r (okWith (piecesBlock (s.taking r))))) ∧
  (∀ r s, r.accepted specQueryReachBandwidth s → ∀ b, b = bandwidthBlock (s.taking r) (servedGbs (!((s.taking r).reachMem r.index).panic.isEmpty) ((List.range 5).map (fun i => Config.freeNat ((s.taking r).freeCtr + i)))) r.index →
    b.length ≤ replyRoom r →
    exec (.queryReachBandwidth r) s = .next (State.reply { s.taking r with freeCtr := (s.taking r).freeCtr + 5 } 0x01 r (okWith b)))

/-- STAGE of a setting that validates puts it into the open stage set of its owner tag, in place of an earlier setting of the same value
of the same unit, and beside its slot and its reply changes nothing else; it is answered OK, or CAPACITY with ACCEPTED where a layer stays degraded
(02 R101 to R105; 13 R567). The settings of destinations, sources and audio. Where it goes
beyond the rules it rests on the model's readings: log entries 38, 39, 45, 46, 147. -/
def Obligations.StageOfSwitchingCompletes : Prop :=
  (∀ r s, r.accepted specStageDstRoute s → (decRouteEntry (r.block.drop 1)).dst = r.index → (s.taking r).stageable (r.callIn s) [routeSetting (r.block.drop 1)] →
    exec (.stageDstRoute r) s = .next (((s.taking r).staged (carrierOwner r) [routeSetting (r.block.drop 1)]).reply 0x03 r ((s.taking r).judgeStage (r.callIn s) [routeSetting (r.block.drop 1)]).stageAnswer)) ∧
  (∀ r s, r.accepted specStageDstFormat s → (s.taking r).stageable (r.callIn s) [.dstFormat r.index (decFmt r.block)] →
    exec (.stageDstFormat r) s = .next (((s.taking r).staged (carrierOwner r) [.dstFormat r.index (decFmt r.block)]).reply 0x03 r ((s.taking r).judgeStage (r.callIn s) [.dstFormat r.index (decFmt r.block)]).stageAnswer)) ∧
  (∀ r s, r.accepted specStageDstDomain s → (s.taking r).stageable (r.callIn s) [.dstDomain r.index (u8 r.block 1)] →
    exec (.stageDstDomain r) s = .next (((s.taking r).staged (carrierOwner r) [.dstDomain r.index (u8 r.block 1)]).reply 0x03 r ((s.taking r).judgeStage (r.callIn s) [.dstDomain r.index (u8 r.block 1)]).stageAnswer)) ∧
  (∀ r s, r.accepted specStageSrcLossAction s → (s.taking r).stageable (r.callIn s) [.srcLoss r.index (decLossCfg r.block)] →
    exec (.stageSrcLossAction r) s = .next (((s.taking r).staged (carrierOwner r) [.srcLoss r.index (decLossCfg r.block)]).reply 0x03 r ((s.taking r).judgeStage (r.callIn s) [.srcLoss r.index (decLossCfg r.block)]).stageAnswer)) ∧
  (∀ r s, r.accepted specStageSrcOverride s → (s.taking r).stageable (r.callIn s) [.srcOverride r.index (decOverrideCfg r.block)] →
    exec (.stageSrcOverride r) s = .next (((s.taking r).staged (carrierOwner r) [.srcOverride r.index (decOverrideCfg r.block)]).reply 0x03 r ((s.taking r).judgeStage (r.callIn s) [.srcOverride r.index (decOverrideCfg r.block)]).stageAnswer)) ∧
  (∀ r s, r.accepted specStageAudioOutRoute s → (s.taking r).stageable (r.callIn s) [.aoutRoute r.index (decAudioRoute r.block)] →
    exec (.stageAudioOutRoute r) s = .next (((s.taking r).staged (carrierOwner r) [.aoutRoute r.index (decAudioRoute r.block)]).reply 0x03 r ((s.taking r).judgeStage (r.callIn s) [.aoutRoute r.index (decAudioRoute r.block)]).stageAnswer)) ∧
  (∀ r s, r.accepted specStageAudioOutFollow s → (s.taking r).stageable (r.callIn s) [.aoutFollow r.index (decAudioFollow r.block)] →
    exec (.stageAudioOutFollow r) s = .next (((s.taking r).staged (carrierOwner r) [.aoutFollow r.index (decAudioFollow r.block)]).reply 0x03 r ((s.taking r).judgeStage (r.callIn s) [.aoutFollow r.index (decAudioFollow r.block)]).stageAnswer)) ∧
  (∀ r s, r.accepted specStageAudioOutDomain s → (s.taking r).stageable (r.callIn s) [.aoutDomain r.index (u8 r.block 1)] →
    exec (.stageAudioOutDomain r) s = .next (((s.taking r).staged (carrierOwner r) [.aoutDomain r.index (u8 r.block 1)]).reply 0x03 r ((s.taking r).judgeStage (r.callIn s) [.aoutDomain r.index (u8 r.block 1)]).stageAnswer)) ∧
  (∀ r s, r.accepted specStageAudioOutDelay s → (s.taking r).stageable (r.callIn s) [.aoutDelay r.index (u16 r.block 2)] →
    exec (.stageAudioOutDelay r) s = .next (((s.taking r).staged (carrierOwner r) [.aoutDelay r.index (u16 r.block 2)]).reply 0x03 r ((s.taking r).judgeStage (r.callIn s) [.aoutDelay r.index (u16 r.block 2)]).stageAnswer)) ∧
  (∀ r s, r.accepted specStageAacProgramme s → (s.taking r).stageable (r.callIn s) [.aac r.index (decAacCfg r.block)] →
    exec (.stageAacProgramme r) s = .next (((s.taking r).staged (carrierOwner r) [.aac r.index (decAacCfg r.block)]).reply 0x03 r ((s.taking r).judgeStage (r.callIn s) [.aac r.index (decAacCfg r.block)]).stageAnswer)) ∧
  (∀ r s, r.accepted specStageSlotMask s → (s.taking r).stageable (r.callIn s) [.slotMask r.index (decSlotMask r.block)] →
    exec (.stageSlotMask r) s = .next (((s.taking r).staged (carrierOwner r) [.slotMask r.index (decSlotMask r.block)]).reply 0x03 r ((s.taking r).judgeStage (r.callIn s) [.slotMask r.index (decSlotMask r.block)]).stageAnswer))

/-- STAGE of a setting of the network, of coding or of the compositor that validates puts it into the open stage set of its owner tag, in
place of an earlier setting of the same value of the same unit, and beside its slot and its reply changes nothing else; it is answered OK, or CAPACITY with ACCEPTED
where a layer stays degraded (02 R101 to R105; 13 R567). Where it goes
beyond the rules it rests on the model's readings: log entries 38, 39, 45. -/
def Obligations.StageOfServicesCompletes : Prop :=
  (∀ r s, r.accepted specStageFlow s → (s.taking r).stageable (r.callIn s) [.flow r.index (decFlowCfg r.block) none] →
    exec (.stageFlow r) s = .next (((s.taking r).staged (carrierOwner r) [.flow r.index (decFlowCfg r.block) none]).reply 0x03 r ((s.taking r).judgeStage (r.callIn s) [.flow r.index (decFlowCfg r.block) none]).stageAnswer)) ∧
  (∀ r s, r.accepted specStageQueueDscpMap s → r.index % 12 = 0 → (s.taking r).stageable (r.callIn s) [.dscp (r.index / 12) ((List.range 64).map (fun i => u8 r.block (4 + i)))] →
    exec (.stageQueueDscpMap r) s = .next (((s.taking r).staged (carrierOwner r) [.dscp (r.index / 12) ((List.range 64).map (fun i => u8 r.block (4 + i)))]).reply 0x03 r ((s.taking r).judgeStage (r.callIn s) [.dscp (r.index / 12) ((List.range 64).map (fun i => u8 r.block (4 + i)))]).stageAnswer)) ∧
  (∀ r s, r.accepted specStageQueue s → (s.taking r).stageable (r.callIn s) [.queue r.index (decQueueCfg r.block)] →
    exec (.stageQueue r) s = .next (((s.taking r).staged (carrierOwner r) [.queue r.index (decQueueCfg r.block)]).reply 0x03 r ((s.taking r).judgeStage (r.callIn s) [.queue r.index (decQueueCfg r.block)]).stageAnswer)) ∧
  (∀ r s, r.accepted specStageGateList s → (s.taking r).stageable (r.callIn s) [.gateList r.index (decGateCfg r.block)] →
    exec (.stageGateList r) s = .next (((s.taking r).staged (carrierOwner r) [.gateList r.index (decGateCfg r.block)]).reply 0x03 r ((s.taking r).judgeStage (r.callIn s) [.gateList r.index (decGateCfg r.block)]).stageAnswer)) ∧
  (∀ r s, r.accepted specStagePlane s → 1 < r.index → (s.taking r).stageable (r.callIn s) [.plane (decPlaneCfg r.block)] →
    exec (.stagePlane r) s = .next (((s.taking r).staged (carrierOwner r) [.plane (decPlaneCfg r.block)]).reply 0x03 r ((s.taking r).judgeStage (r.callIn s) [.plane (decPlaneCfg r.block)]).stageAnswer)) ∧
  (∀ r s, r.accepted specStageStem s → (s.taking r).stageable (r.callIn s) [.stem r.index (decStemCfg r.block)] →
    exec (.stageStem r) s = .next (((s.taking r).staged (carrierOwner r) [.stem r.index (decStemCfg r.block)]).reply 0x03 r ((s.taking r).judgeStage (r.callIn s) [.stem r.index (decStemCfg r.block)]).stageAnswer)) ∧
  (∀ r s, r.accepted specStageRendition s → (s.taking r).stageable (r.callIn s) [.rend r.index (decRendCfg r.block)] →
    exec (.stageRendition r) s = .next (((s.taking r).staged (carrierOwner r) [.rend r.index (decRendCfg r.block)]).reply 0x03 r ((s.taking r).judgeStage (r.callIn s) [.rend r.index (decRendCfg r.block)]).stageAnswer)) ∧
  (∀ r s, r.accepted specStageRenditionRate s → (s.taking r).stageable (r.callIn s) [.rendRate r.index (decRateCfg r.block)] →
    exec (.stageRenditionRate r) s = .next (((s.taking r).staged (carrierOwner r) [.rendRate r.index (decRateCfg r.block)]).reply 0x03 r ((s.taking r).judgeStage (r.callIn s) [.rendRate r.index (decRateCfg r.block)]).stageAnswer)) ∧
  (∀ r s, r.accepted specStageDelivery s → (s.taking r).stageable (r.callIn s) (delivSettings r.index r.block) →
    exec (.stageDelivery r) s = .next (((s.taking r).staged (carrierOwner r) (delivSettings r.index r.block)).reply 0x03 r ((s.taking r).judgeStage (r.callIn s) (delivSettings r.index r.block)).stageAnswer)) ∧
  (∀ r s, r.accepted specStageDecodeCtx s → (s.taking r).stageable (r.callIn s) [.decCtx r.index (decDecCfg r.block)] →
    exec (.stageDecodeCtx r) s = .next (((s.taking r).staged (carrierOwner r) [.decCtx r.index (decDecCfg r.block)]).reply 0x03 r ((s.taking r).judgeStage (r.callIn s) [.decCtx r.index (decDecCfg r.block)]).stageAnswer)) ∧
  (∀ r s, r.accepted specStageHead s → (s.taking r).stageable (r.callIn s) [.head r.index (decHeadCfg r.block)] →
    exec (.stageHead r) s = .next (((s.taking r).staged (carrierOwner r) [.head r.index (decHeadCfg r.block)]).reply 0x03 r ((s.taking r).judgeStage (r.callIn s) [.head r.index (decHeadCfg r.block)]).stageAnswer)) ∧
  (∀ r s, r.accepted specStageHeadDomain s → (s.taking r).stageable (r.callIn s) [.headDomain r.index (u8 r.block 1)] →
    exec (.stageHeadDomain r) s = .next (((s.taking r).staged (carrierOwner r) [.headDomain r.index (u8 r.block 1)]).reply 0x03 r ((s.taking r).judgeStage (r.callIn s) [.headDomain r.index (u8 r.block 1)]).stageAnswer)) ∧
  (∀ r s, r.accepted specStageVideoLayer s → (s.taking r).stageable (r.callIn s) [.videoLayer r.index (decVideoLayer r.block)] →
    exec (.stageVideoLayer r) s = .next (((s.taking r).staged (carrierOwner r) [.videoLayer r.index (decVideoLayer r.block)]).reply 0x03 r ((s.taking r).judgeStage (r.callIn s) [.videoLayer r.index (decVideoLayer r.block)]).stageAnswer)) ∧
  (∀ r s, r.accepted specStageGraphicLayer s → (s.taking r).stageable (r.callIn s) [.graphicLayer r.index (decGraphicLayer r.block)] →
    exec (.stageGraphicLayer r) s = .next (((s.taking r).staged (carrierOwner r) [.graphicLayer r.index (decGraphicLayer r.block)]).reply 0x03 r ((s.taking r).judgeStage (r.callIn s) [.graphicLayer r.index (decGraphicLayer r.block)]).stageAnswer)) ∧
  (∀ r s, r.accepted specStageLayerMatrix s → (s.taking r).stageable (r.callIn s) [.matrix r.index (decMatrix r.block)] →
    exec (.stageLayerMatrix r) s = .next (((s.taking r).staged (carrierOwner r) [.matrix r.index (decMatrix r.block)]).reply 0x03 r ((s.taking r).judgeStage (r.callIn s) [.matrix r.index (decMatrix r.block)]).stageAnswer)) ∧
  (∀ r s, r.accepted specStageMeterFirst s → (s.taking r).stageable (r.callIn s) [.meterFirst r.index (u16 r.block 2)] →
    exec (.stageMeterFirst r) s = .next (((s.taking r).staged (carrierOwner r) [.meterFirst r.index (u16 r.block 2)]).reply 0x03 r ((s.taking r).judgeStage (r.callIn s) [.meterFirst r.index (u16 r.block 2)]).stageAnswer))

/-- A setting staged twice in one open set, or twice within one SALVO, keeps the later value (02 R104): of the settings of one value of one
unit the last in order remains, whose open set a `STAGE` keeps and a `SALVO` or `COMMIT` schedules; settings of other values stay. -/
def Obligations.StagedTwiceKeepsLater : Prop :=
  (∀ (l : List (Nat × Setting)) (e : Nat × Setting), ∃ h, keepLater (l ++ [e]) = h ++ [e] ∧ ∀ a ∈ h, settingKey a.2 ≠ settingKey e.2) ∧
  (∀ (l : List (Nat × Setting)) (e a : Nat × Setting), a ∈ keepLater l → settingKey a.2 ≠ settingKey e.2 → a ∈ keepLater (l ++ [e])) ∧
  (∀ l : List (Nat × Setting), (keepLater l).Pairwise (fun a b => settingKey a.2 ≠ settingKey b.2) ∧ ∀ a ∈ keepLater l, a ∈ l) ∧
  (∀ (s : State) owner (x : Setting), ∃ h, ((s.staged owner [x]).openSet owner).map (·.2) = h ++ [x] ∧ (∀ y ∈ h, settingKey y ≠ settingKey x) ∧
    ∀ a ∈ keepLater (s.openSet owner), settingKey a.2 ≠ settingKey x → a.2 ∈ h) ∧
  (∀ (s : State) (c : Call) noun off (l : List (Nat × Setting)), s.schedule c noun off l = s.schedule c noun off (keepLater l))

/-- CANCEL with owner tag t and payload length 0 discards t's open stage set, and no other tag's, and changes nothing else (02 R112). -/
def Obligations.CancelDiscardsStageSet : Prop :=
  ∀ r s, r.accepted specCancelStageSet s → ∃ t : State,
    exec (.cancelStageSet r) s = .next (t.reply 0x05 r (okWith [])) ∧ t.openSet (carrierOwner r) = [] ∧
    (∀ k, k ≠ carrierOwner r → t.openSet k = s.openSet k) ∧ { t.silent with openSets := [] } = { s.silent with openSets := [] }

/-- TAKE, SALVO, LOCK and UNLOCK stage and commit in one request, and COMMIT schedules the open stage set of its tag and empties it: a
set that validates has its parts committed, each to its boundary, and the landing list is answered (01 R36 to R39; 02 R101, R106, R107,
R117; 03 R153, R165, R169, R171; 05 R235, R242). Where it goes
beyond the rules it rests on the model's readings: log entries 36, 39, 40, 43, 47, 48. -/
def Obligations.StagedVerbsComplete : Prop :=
  (∀ r s, r.accepted specCommit s → ((s.taking r).judgeSet (r.callIn s) 0x01 0x0009 ((s.taking r).openSet (carrierOwner r))).failure = none →
    ∀ a : Answer, a = degradedAnswer ((s.taking r).judgeSet (r.callIn s) 0x01 0x0009 ((s.taking r).openSet (carrierOwner r)))
      ((s.taking r).setAnswer (r.callIn s) 0x01 0x0009 ((s.taking r).openSet (carrierOwner r))) → a.payload.length ≤ replyRoom r →
    ∃ t : State, exec (.commit r) s = .next (t.reply 0x04 r a) ∧ t.openSet (carrierOwner r) = [] ∧
      t.parts = ((s.taking r).schedule (r.callIn s) 0x01 0x0009 ((s.taking r).openSet (carrierOwner r))).parts) ∧
  (∀ r s, r.accepted specTake s → (decRouteEntry r.block).dst = r.index →
    ((s.taking r).judgeSet (r.callIn s) 0x11 0x0018 [(0, routeSetting r.block)]).failure = none →
    ∀ a : Answer, a = takeReport r.index ((s.taking r).judgeSet (r.callIn s) 0x11 0x0018 [(0, routeSetting r.block)])
      ((s.taking r).setAnswer (r.callIn s) 0x11 0x0018 [(0, routeSetting r.block)]) → a.payload.length ≤ replyRoom r →
    exec (.take r) s = .next (((s.taking r).schedule (r.callIn s) 0x11 0x0018 [(0, routeSetting r.block)]).reply 0x06 r a)) ∧
  (∀ r s, r.accepted specSalvo s → u16 r.block 0 ≤ 1152 →
    ∀ es, es = (salvoEntries r.block).filter (fun e => !((s.taking r).skipped (r.callIn s)).contains e) →
    ((s.taking r).judgeSet (r.callIn s) 0x12 0x0018 es).failure = none →
    ∀ a : Answer, a = salvoSummary ((s.taking r).skipped (r.callIn s)) ((s.taking r).judgeSet (r.callIn s) 0x12 0x0018 es)
      ((s.taking r).setAnswer (r.callIn s) 0x12 0x0018 es) → a.payload.length ≤ replyRoom r →
    exec (.salvo r) s = .next (((s.taking r).schedule (r.callIn s) 0x12 0x0018 es).reply 0x07 r a)) ∧
  (∀ r s, r.accepted specTakeAudioOut s →
    ((s.taking r).judgeSet (r.callIn s) 0x19 0x003A [(0, .aoutRoute r.index (decAudioRoute r.block))]).failure = none →
    ∀ a : Answer, a = (s.taking r).setAnswer (r.callIn s) 0x19 0x003A [(0, .aoutRoute r.index (decAudioRoute r.block))] → a.payload.length ≤ replyRoom r →
    exec (.takeAudioOut r) s =
      .next (((s.taking r).schedule (r.callIn s) 0x19 0x003A [(0, .aoutRoute r.index (decAudioRoute r.block))]).reply 0x06 r a)) ∧
  (∀ r s, r.accepted specLockDst s → carrierOwner r ≠ 0 →
    ((s.taking r).judgeSet (r.callIn s) 0x11 0x0009 [(0, .lockDst r.index (carrierOwner r))]).failure = none →
    ∀ a : Answer, a = (s.taking r).setAnswer (r.callIn s) 0x11 0x0009 [(0, .lockDst r.index (carrierOwner r))] → a.payload.length ≤ replyRoom r →
    exec (.lockDst r) s =
      .next (((s.taking r).schedule (r.callIn s) 0x11 0x0009 [(0, .lockDst r.index (carrierOwner r))]).reply 0x08 r a)) ∧
  (∀ r s, r.accepted specUnlockDst s →
    ((s.taking r).judgeSet (r.callIn s) 0x11 0x0009 [(0, .unlockDst r.index (carrierOwner r))]).failure = none →
    ∀ a : Answer, a = (s.taking r).setAnswer (r.callIn s) 0x11 0x0009 [(0, .unlockDst r.index (carrierOwner r))] → a.payload.length ≤ replyRoom r →
    exec (.unlockDst r) s =
      .next (((s.taking r).schedule (r.callIn s) 0x11 0x0009 [(0, .unlockDst r.index (carrierOwner r))]).reply 0x09 r a)) ∧
  (∀ r s, r.accepted specLockAudioOut s → carrierOwner r ≠ 0 →
    ((s.taking r).judgeSet (r.callIn s) 0x19 0x003A [(0, .lockAout r.index (carrierOwner r))]).failure = none →
    ∀ a : Answer, a = (s.taking r).setAnswer (r.callIn s) 0x19 0x003A [(0, .lockAout r.index (carrierOwner r))] → a.payload.length ≤ replyRoom r →
    exec (.lockAudioOut r) s =
      .next (((s.taking r).schedule (r.callIn s) 0x19 0x003A [(0, .lockAout r.index (carrierOwner r))]).reply 0x08 r a)) ∧
  (∀ r s, r.accepted specUnlockAudioOut s →
    ((s.taking r).judgeSet (r.callIn s) 0x19 0x003A [(0, .unlockAout r.index (carrierOwner r))]).failure = none →
    ∀ a : Answer, a = (s.taking r).setAnswer (r.callIn s) 0x19 0x003A [(0, .unlockAout r.index (carrierOwner r))] → a.payload.length ≤ replyRoom r →
    exec (.unlockAudioOut r) s =
      .next (((s.taking r).schedule (r.callIn s) 0x19 0x003A [(0, .unlockAout r.index (carrierOwner r))]).reply 0x09 r a))

/-- CANCEL with a seq and a ring withdraws the parts of that request that are still outside the horizon; the parts inside it, and every
other request's parts, stay (02 R113). Where it goes
beyond the rules it rests on the model's readings: log entry 44. -/
def Obligations.CancelWithdrawsParts : Prop :=
  ∀ r s, r.accepted specCancelCommitted s → u8 r.block 4 ≤ 1 →
    (∃ p ∈ (s.taking r).parts, p.seq = u32 r.block 0 ∧ p.ring = u8 r.block 4) →
    (∀ p ∈ (s.taking r).parts, p.seq = u32 r.block 0 → p.ring = u8 r.block 4 → p.owner = carrierOwner r ∨ carrierOwner r = 0xFF) →
    8 + 16 * ((s.taking r).parts.filter (fun p => p.seq == u32 r.block 0 && p.ring == u8 r.block 4)).length ≤ replyRoom r →
    ∃ (t : State) (a : Answer), exec (.cancelCommitted r) s = .next (t.reply 0x05 r a) ∧
      t.parts = (s.taking r).parts.filter (fun p =>
        !(p.seq == u32 r.block 0 && p.ring == u8 r.block 4 && !(s.taking r).stays (r.callIn s).arrival p)) ∧
      (a.status = 0 ∨ a.status = 0x0109)

/-- The boundary of a part with no target frame named, in an enabled domain whose next boundary lies ahead: a part answered OK lands no
sooner than its domain's horizon after its arrival, 2 ms for a video domain and 1 ms for domain 0 (01 R32; 02 R109). Where it goes
beyond the rules it rests on the model's readings: log entry 40. -/
def Obligations.PartsLandBeyondHorizon : Prop :=
  ∀ (s : State) (arrival d : Nat), s.domainOn d = true → (s.aim arrival 0 0 d).status = 0 →
    arrival + horizonNs d ≤ s.frameNs d (s.aim arrival 0 0 d).frame ∧ (s.aim arrival 0 0 d).ns = s.frameNs d (s.aim arrival 0 0 d).frame

/-- SET on Mode asks for a listed transition: the target and the busy bit are set; in Dormant, naming Boot, with SYS_RESET_N and AON_RESET_N
high, no shutdown holding Boot and MAIN_PWR_EN low, it raises MAIN_PWR_EN and the transition to Boot runs. SET on Domain gives a domain that
is not in use its new rate and raster and keeps its frame index. RESET on Device schedules the restart (01 R25, R50, R51, R60; 02 R123;
17 R712). Where it goes
beyond the rules it rests on the model's readings: log entries 66, 69, 70, 71. -/
def Obligations.ModeAndDomainRequestsComplete : Prop :=
  (∀ r s m, r.accepted specSetMode s → modeOf (u8 r.block 1) = some m → (s.taking r).mode.busy = false →
    (s.taking r).mode.current ≠ .dormant → modeListed (s.taking r).mode.current m = true → (m = .encode → (s.taking r).routedCount ≤ 256) →
    exec (.setMode r) s = .next (State.reply
      { s.taking r with mode := { (s.taking r).mode with target := m, busy := true, transitionAt := (s.taking r).nowNs } } 0x02 r (okWith []))) ∧
  (∀ r s, r.accepted specSetMode s → modeOf (u8 r.block 1) = some .boot → (s.taking r).mode.busy = false → (s.taking r).mode.current = .dormant →
    (s.taking r).pins.sysResetN = true → (s.taking r).bootBlocked = false → (s.taking r).pins.aonResetN = true → (s.taking r).pins.mainPwrEn = false →
    ∃ t : State, exec (.setMode r) s = .next (t.reply 0x02 r (okWith [])) ∧ t.pins.mainPwrEn = true ∧ t.mode.asked = true ∧
      t.mode.current = .dormant ∧ t.mode.target = .boot ∧ t.mode.busy = true) ∧
  (∀ r s, r.accepted specSetDomain s → (s.taking r).domains.length = 9 → (s.taking r).domainUsed r.index = false →
    (if u8 r.block 1 = 0 then u8 r.block 2 = 0 else u8 r.block 1 ≤ 13 ∧ rasterAllows (u8 r.block 2) (u8 r.block 1) = true) →
    ∃ t : State, exec (.setDomain r) s = .next (t.reply 0x02 r (okWith [])) ∧ (t.domain r.index).rate = u8 r.block 1 ∧
      (t.domain r.index).raster = u8 r.block 2 ∧ (t.domain r.index).frame = ((s.taking r).domain r.index).frame) ∧
  (∀ r s, r.accepted specResetDevice s →
    exec (.resetDevice r) s = .next (State.reply { s.taking r with mode := { (s.taking r).mode with restartDue := true } } 0x12 r (okWith [])))

/-- A SET on Mode that R50 does not list is answered STATE, one while a transition runs BUSY, an unknown code RANGE, and Encode with more
than 256 routed destinations CAPACITY with reason code 0x0015; none of them changes the mode (01 R45, R47, R50, R53). Where it goes
beyond the rules it rests on the model's readings: log entry 66. -/
def Obligations.ModeRequestsRefused : Prop :=
  ∀ (c : Call) (s : State),
    (modeOf (u8 c.block 1) = none → specSetMode.body c s = (fail 0x0101 0x0003, s)) ∧
    (∀ m, modeOf (u8 c.block 1) = some m → s.mode.busy = true → specSetMode.body c s = (fail 0x0103 0x0005, s)) ∧
    (∀ m, modeOf (u8 c.block 1) = some m → s.mode.busy = false → modeListed s.mode.current m = false → (s.mode.current = .dormant → m ≠ .boot) →
      specSetMode.body c s = (fail 0x0106 0x0004, s)) ∧
    (modeOf (u8 c.block 1) = some .encode → s.mode.busy = false → modeListed s.mode.current .encode = true → s.routedCount > 256 →
      specSetMode.body c s = (fail 0x0107 0x0015, s))

/-- SUBSCRIBE adds a subscription under the lowest free handle, or names the handle of an equal one; UNSUBSCRIBE removes one or all; LOCK
and UNLOCK on Image set and release the lock of the staging slot (02 R96, R114, R116). RESET on Lane starts the receiver of a lane that runs
afresh in Detect, and changes nothing of another lane; on EthPort it drops the link if it is up and brings a port that is enabled, in
service, up again; on DecodeCtx it drops what the context holds; on Gauge, when no feed holds the unit, it reloads the initial value of the
polynomial (02 R123). Where it goes
beyond the rules it rests on the model's readings: log entries 45, 58. -/
def Obligations.SessionAndResetRequestsComplete : Prop :=
  (∀ r s h (x : Sub), r.accepted specSubscribe s → x = { noun := u8 r.block 0, subcode := u8 r.block 1, index := u32 r.block 4 } →
    (s.taking r).subscriptions.find? (fun e => e.2 == x) = none →
    (List.range subMax).find? (fun h => (tget (fun _ => none) (s.taking r).events.subs h).isNone) = some h → 4 ≤ replyRoom r →
    exec (.subscribe r) s = .next (State.reply
      { s.taking r with events := { (s.taking r).events with subs := tset (fun _ => none) (s.taking r).events.subs h (some x) } }
      0x0A r (okWith (le 2 h ++ le 2 0)))) ∧
  (∀ r s (x : Sub) e, r.accepted specSubscribe s → x = { noun := u8 r.block 0, subcode := u8 r.block 1, index := u32 r.block 4 } →
    (s.taking r).subscriptions.find? (fun e => e.2 == x) = some e → 4 ≤ replyRoom r →
    exec (.subscribe r) s = .next ((s.taking r).reply 0x0A r (okWith (le 2 e.1 ++ le 2 0)))) ∧
  (∀ r s, r.accepted specUnsubscribe s → r.index = everyUnit →
    exec (.unsubscribe r) s = .next (State.reply { s.taking r with events := { (s.taking r).events with subs := [] } } 0x0B r (okWith []))) ∧
  (∀ r s x, r.accepted specUnsubscribe s → r.index ≠ everyUnit → tget (fun _ => none) (s.taking r).events.subs r.index = some x →
    exec (.unsubscribe r) s = .next (State.reply
      { s.taking r with events := { (s.taking r).events with subs := tset (fun _ => none) (s.taking r).events.subs r.index none } } 0x0B r (okWith []))) ∧
  (∀ r s, r.accepted specLockImage s → carrierOwner r ≠ 0 → ((s.taking r).image.lock = 0 ∨ (s.taking r).image.lock = carrierOwner r ∨ carrierOwner r = 0xFF) →
    exec (.lockImage r) s = .next (State.reply { s.taking r with image := { (s.taking r).image with lock := carrierOwner r } } 0x08 r (okWith []))) ∧
  (∀ r s, r.accepted specUnlockImage s →
    exec (.unlockImage r) s = .next (State.reply { s.taking r with image := { (s.taking r).image with lock := 0 } } 0x09 r (okWith []))) ∧
  (∀ r s, r.accepted specResetLane s → r.index < 256 → (s.taking r).laneOn r.index = true →
    exec (.resetLane r) s = .next (((s.taking r).startLane r.index).reply 0x12 r (okWith [])) ∧
    (((s.taking r).startLane r.index).lane r.index).state = .detect) ∧
  (∀ r s, r.accepted specResetLane s → (256 ≤ r.index ∨ (s.taking r).laneOn r.index = false) → exec (.resetLane r) s = .next ((s.taking r).reply 0x12 r (okWith []))) ∧
  (∀ r s, r.accepted specResetEthPort s → ((s.taking r).port r.index).cfg.enable = 1 → (s.taking r).inService = true →
    (s.taking r).linkOn r.index = true →
    exec (.resetEthPort r) s = .next ((((s.taking r).dropLink r.index 0).startPort r.index).reply 0x12 r (okWith []))) ∧
  (∀ r s, r.accepted specResetEthPort s → ((s.taking r).port r.index).cfg.enable = 1 → (s.taking r).inService = true →
    (s.taking r).linkOn r.index = false →
    exec (.resetEthPort r) s = .next (((s.taking r).startPort r.index).reply 0x12 r (okWith []))) ∧
  (∀ r s, r.accepted specResetEthPort s → ((s.taking r).port r.index).cfg.enable ≠ 1 ∨ (s.taking r).inService = false → (s.taking r).linkOn r.index = true →
    exec (.resetEthPort r) s = .next (((s.taking r).dropLink r.index 0).reply 0x12 r (okWith []))) ∧
  (∀ r s, r.accepted specResetEthPort s → ((s.taking r).port r.index).cfg.enable ≠ 1 ∨ (s.taking r).inService = false → (s.taking r).linkOn r.index = false →
    exec (.resetEthPort r) s = .next ((s.taking r).reply 0x12 r (okWith []))) ∧
  (∀ r s, r.accepted specResetDecodeCtx s →
    exec (.resetDecodeCtx r) s = .next (((s.taking r).resetCtx r.index).reply 0x12 r (okWith []))) ∧
  (∀ r s, r.accepted specResetGauge s → ((s.taking r).gauge r.index).fed = false → ∃ t : State,
    exec (.resetGauge r) s = .next (t.reply 0x12 r (okWith [])) ∧
      t = (s.taking r).modGauge r.index (fun g => { g with value := BitVec.ofNat 32 g.poly.init }))

/-- Boundaries and hard faults (01 R19, R25, R28, R33, R34, R54, R57; 03 R160, R163, R164): the swap decision arms the swap, or, where the
shadow bank cannot be used, moves every part due at the boundary to the frame after it; a boundary gives the domain its next frame and
leaves every other domain as it is, and that of domain 0 moves the heartbeat; a rebuild that completes writes the routes due into the
shadow bank, and one that cannot marks it unfit; a destination whose switch is due puts its new source on air at its switching line; a core
without work is gated; a hard fault in service fences the unit, records the failing element as pending repair, sets the sticky bit and
raises alm_repair_pending of its reach. Where it goes
beyond the rules it rests on the model's readings: log entries 40, 56, 57, 73, 152. -/
def Obligations.BoundaryAndFaultCommandsComplete : Prop :=
  (∀ d s, s.domainOn d = true → s.mode.current.rings = true → (s.domain d).decided = false → d < s.domains.length → (s.domain d).shadowBad = false →
    ∃ t, exec (.swapDecision d) s = .next t ∧ (t.domain d).decided = true ∧ (t.domain d).armed = true ∧ (t.domain d).nextNs = (s.domain d).nextNs ∧
      t.parts = s.parts) ∧
  (∀ d s, s.domainOn d = true → s.mode.current.rings = true → (s.domain d).decided = false → d < s.domains.length → (s.domain d).shadowBad = true →
    ∃ t, exec (.swapDecision d) s = .next t ∧ (t.domain d).decided = true ∧ (t.domain d).armed = false ∧
      t.parts = s.parts.map (fun (p : Part) => if p.domain = d ∧ p.frame ≤ (s.domain d).nextFrame then
        { p with frame := (s.domain d).nextFrame + 1, status := stDeferred } else p)) ∧
  (∀ s, s.pins.aonResetN = true → 0 < s.domains.length →
    ∃ t, exec .domain0Boundary s = .next t ∧ t.mode.heartbeat = s.mode.heartbeat + 1 ∧
      (t.domain 0).frame = BitVec.ofNat 64 (s.domain 0).nextFrame ∧ (t.domain 0).nextFrame = (s.domain 0).nextFrame + 1 ∧
      (t.domain 0).nextNs = ((s.domain 0).nextFrame + 1) * 10000000 ∧ ∀ e, e ≠ 0 → t.domain e = s.domain e) ∧
  (∀ d s, 1 ≤ d → d ≤ 8 → d < s.domains.length → s.domainOn d = true → s.mode.current.rings = true →
    ∃ t, exec (.videoDomainBoundary d) s = .next t ∧ (t.domain d).frame = BitVec.ofNat 64 (s.domain d).nextFrame ∧
      (t.domain d).lastNs = (s.domain d).nextNs ∧ (t.domain d).decided = false ∧ ∀ e, e ≠ d → t.domain e = s.domain e) ∧
  (∀ d s, s.domainOn d = true → s.mode.current.rings = true → (s.domain d).decided = false →
    exec (.shadowRebuild d false) s = .next (s.modDomain d (fun x => { x with rebuilt := false, shadowBad := true }))) ∧
  (∀ d s, s.domainOn d = true → s.mode.current.rings = true → (s.domain d).decided = false →
    exec (.shadowRebuild d true) s = .next ((s.modDomain d (fun x => { x with rebuilt := true, shadowBad := false })).writeShadow d)) ∧
  (∀ d s, (s.dst d).switchDue = true →
    exec (.destSwitchingLine d) s = .next (s.modDst d (fun x => { x with switchDue := false, onAir := x.src }))) ∧
  (∀ n k i s, s.consumerIn n k i = true → (s.core (coreKey n k i)).busy = none →
    exec (.coreGate n k i) s = .next (s.modCore (coreKey n k i) (fun c => { c with awake := false, stopAt := none }))) ∧
  (∀ k n e s, s.inService = true → s.usable k n = true →
    ∃ t, exec (.unitFence k n e) s = .next t ∧ t.repair.fenced = s.repair.fenced ++ [(k, n)] ∧
      t.repair.pending = s.repair.pending ++ [{ holder := some (k, n), elem := e, reach := unitReach k n, row := 0 }] ∧
      t.mode.sticky.getLsbD 4 = true ∧ t.stands almRepairPending (unitReach k n) = true ∧ t.repair.generation = s.repair.generation + 1 ∧ t.repair.retired = s.repair.retired ∧ t.usable k n = false)

/-- The commands of the Gate page rings have the effect of their rules: doorbells (02 R71 to R73), enable and disable (02 R75, R77),
the end of a drain (02 R77), and the two errors of R78: a ring whose writes fail is disabled, and a request that cannot be read is answered with
INTEGRITY, for a staged verb with its landing list. Where it goes
beyond the rules it rests on the model's readings: log entries 31, 52. -/
def Obligations.RingCommandsComplete : Prop :=
  (∀ n v s, n < 4 → s.hostLink = true → (s.ring n).enable = true → v.setWidth 16 ≠ (s.ring n).producer →
    (v.setWidth 16 - (s.ring n).rplConsumer).toNat ≤ ringDepth n →
    exec (.dbReqWrite n v) s = .next (s.modRing n (fun g =>
      { g with producer := v.setWidth 16, bells := g.bells ++ [((v.setWidth 16 : BitVec 16).toNat, s.nowNs)] }))) ∧
  (∀ n v s, n < 4 → s.hostLink = true → (s.ring n).enable = true →
    (v.setWidth 16 - (s.ring n).rplConsumer).toNat ≤ ((s.ring n).rplProducer - (s.ring n).rplConsumer).toNat →
    exec (.dbRplWrite n v) s = .next (s.modRing n (fun g => { g with rplConsumer := v.setWidth 16 }))) ∧
  (∀ v s, s.hostLink = true → (s.ring 4).enable = true →
    (v.setWidth 16 - (s.ring 4).rplConsumer).toNat ≤ ((s.ring 4).producer - (s.ring 4).rplConsumer).toNat →
    exec (.dbEvtWrite v) s = .next (s.modRing 4 (fun g => { g with rplConsumer := v.setWidth 16 }))) ∧
  (∀ n s, s.hostLink = true → (s.ring n).enable = false →
    exec (.ringEnable n) s = .next (s.modRing n (fun g =>
      { g with enable := true, active := true, producer := 0, rplConsumer := 0, reqConsumer := 0, rplProducer := 0, bells := [] }))) ∧
  (∀ n s, n < 4 → s.hostLink = true → (s.ring n).enable = true →
    exec (.ringDisable n) s = .next (s.modRing n (fun g => { g with enable := false, bells := [], producer := g.reqConsumer }))) ∧
  (∀ s, s.hostLink = true → (s.ring 4).enable = true →
    exec (.ringDisable 4) s = .next (s.modRing 4 (fun g => { g with enable := false, bells := [] }))) ∧
  (∀ n s, (s.ring n).enable = false →
    exec (.ringDrainComplete n) s = .next (s.modRing n (fun g => { g with active := false }))) ∧
  (∀ n s, n < 5 → s.hostLink = true → (s.ring n).active = true →
    exec (.ringWriteError n) s = .next ((s.ringError n 2).ringOff n)) ∧
  (∀ n verb r s, s.takes n = true → verbStaged verb = false →
    exec (.ringFetchError n verb r) s =
      .next (((s.takeSlot n).ringError n 1).replyRing n verb r { status := stIntegrity })) ∧
  (∀ n verb r s, s.takes n = true → verbStaged verb = true →
    exec (.ringFetchError n verb r) s =
      .next (((s.takeSlot n).ringError n 1).replyRing n verb r (sized r { status := stIntegrity, payload := failedList r stIntegrity }))) ∧
  (∀ n s, n < s.rings.length → s.hostLink = true → (s.ring n).enable = false →
    ∃ t, exec (.ringEnable n) s = .next t ∧ (t.ring n).enable = true ∧ (t.ring n).producer = 0 ∧ (t.ring n).reqConsumer = 0 ∧
      (t.ring n).rplProducer = 0 ∧ (t.ring n).rplConsumer = 0) ∧
  (∀ n s, n < 4 → n < s.rings.length → s.hostLink = true → (s.ring n).enable = true →
    ∃ t, exec (.ringDisable n) s = .next t ∧ t.takes n = false ∧ (t.ring n).rplProducer = (s.ring n).rplProducer)

/-- Accesses of the Gate page that are turned away: a doorbell write to a ring that is not enabled changes nothing; one that would leave
more requests outstanding than the ring holds is an error of the ring (02 R72, R73). An access that is not an aligned 32-bit one is
counted, its read returns zero, and nothing else happens; a write to a reserved word changes nothing (02 R64). -/
def Obligations.GateAccessesRefused : Prop :=
  (∀ n v s, (s.ring n).enable = false → exec (.dbReqWrite n v) s = .next s) ∧
  (∀ n v s, (s.ring n).enable = false → exec (.dbRplWrite n v) s = .next s) ∧
  (∀ v s, (s.ring 4).enable = false → exec (.dbEvtWrite v) s = .next s) ∧
  (∀ n v s, n < 4 → n < s.rings.length → s.hostLink = true → (s.ring n).enable = true →
    (v.setWidth 16 - (s.ring n).rplConsumer).toNat > ringDepth n →
    ∃ t, exec (.dbReqWrite n v) s = .next t ∧ (t.ring n).producer = (s.ring n).producer ∧
      (t.ring n).err = (s.ring n).err ||| 1 ∧ t.ints.cause.getLsbD 5 = true) ∧
  (∀ n v s, n < 4 → n < s.rings.length → s.hostLink = true → (s.ring n).enable = true →
    (v.setWidth 16 - (s.ring n).rplConsumer).toNat > ((s.ring n).rplProducer - (s.ring n).rplConsumer).toNat →
    ∃ t, exec (.dbRplWrite n v) s = .next t ∧ (t.ring n).rplConsumer = (s.ring n).rplConsumer ∧
      (t.ring n).err = (s.ring n).err ||| 1 ∧ t.ints.cause.getLsbD 5 = true) ∧
  (∀ v s, 4 < s.rings.length → s.hostLink = true → (s.ring 4).enable = true →
    (v.setWidth 16 - (s.ring 4).rplConsumer).toNat > ((s.ring 4).producer - (s.ring 4).rplConsumer).toNat →
    ∃ t, exec (.dbEvtWrite v) s = .next t ∧ (t.ring 4).rplConsumer = (s.ring 4).rplConsumer ∧
      (t.ring 4).err = (s.ring 4).err ||| 1 ∧ t.ints.cause.getLsbD 5 = true) ∧
  (∀ o s, s.hostLink = true → exec (.gateBadAccess o true) s = .next (s.count cntGateBadAccess 0 1)) ∧
  (∀ o s, s.hostLink = true → exec (.gateBadAccess o false) s = .next ((s.count cntGateBadAccess 0 1).emit (.regRead o 0))) ∧
  (∀ o v s, s.hostLink = true → o % 4 ≠ 0 → exec (.registerWrite o v) s = .next (s.count cntGateBadAccess 0 1)) ∧
  (∀ o v s, s.hostLink = true → o % 4 = 0 → o < 0x100 ∨ (0xC140 ≤ o) → exec (.registerWrite o v) s = .next s)

/-- The interrupt tree and the link as the host commands them (02 R125, R126): INT_ENABLE takes its value and leaves the causes; at the end of the
hold-off time a held-off vector sends its message, or, masked, holds it pending; a written 1 clears a cause bit, but not the one that stands while
a shutdown record waits for its acknowledgement (15 R644); the hold-off time and a cause's vector are written. A read of
DOMAIN_FRAME_LO answers the low half of the frame index and latches the high half (01 R58). At a PCIe function-level reset and at PCIE_PERST_N, in
the modes in which the fast domains run, the rings are disabled, the open stage sets and the subscriptions are gone, and the Culvert channels are
at their reset values (02 R65; 17 R707). Where it goes
beyond the rules it rests on the model's readings: log entries 14, 61. -/
def Obligations.HostInterfaceCommandsComplete : Prop :=
  (∀ v s, s.hostLink = true → ∃ t, exec (.intEnableWrite v) s = .next t ∧ t.ints.enable = v ∧ t.ints.cause = s.ints.cause) ∧
  (∀ v s, v < 64 → s.ints.heldOff.getLsbD v = true → (s.ints.msix.getD v MsixEntry.reset).mask = false →
    ∃ t, exec (.intHoldoffExpiry v) s = .next t ∧ t.ints.heldOff.getLsbD v = false ∧
      t.time = (s.advanceTo (tget (fun _ => 0) s.ints.lastSent v + s.ints.holdoff.toNat * 1000 - 1)).time ∧
      t.out = .msix v (s.ints.msix.getD v MsixEntry.reset).addr.toNat (s.ints.msix.getD v MsixEntry.reset).data.toNat :: s.out) ∧
  (∀ v s, v < 64 → s.ints.heldOff.getLsbD v = true → (s.ints.msix.getD v MsixEntry.reset).mask = true →
    ∃ t, exec (.intHoldoffExpiry v) s = .next t ∧ t.ints.heldOff.getLsbD v = false ∧ t.ints.pba.getLsbD v = true ∧ t.out = s.out) ∧
  (∀ v s, s.hostLink = true →
    ∃ t, exec (.registerWrite 0x1000 v) s = .next t ∧
      t.ints.cause = (s.ints.cause &&& ~~~ v) ||| (if s.unacked = 0 then 0 else s.ints.cause &&& 0x800000#32)) ∧
  (∀ v s, s.hostLink = true → ∃ t, exec (.registerWrite 0x1008 v) s = .next t ∧ t.ints.holdoff = v.setWidth 10) ∧
  (∀ v s n, s.hostLink = true → n < 32 → n < s.ints.vectors.length →
    ∃ t, exec (.registerWrite (0x1040 + 4 * n) v) s = .next t ∧ t.ints.vectors[n]? = some (v.setWidth 6)) ∧
  (∀ d s, s.hostLink = true → d ≤ 8 → d < s.domains.length →
    ∃ t, exec (.domainFrameLoRead d) s = .next t ∧ (t.domain d).hiLatch = ((s.domain d).frame >>> 32).setWidth 32 ∧
      (t.domain d).frame = (s.domain d).frame ∧ t.out = .regRead (0x140 + 8 * d) ((s.domain d).frame.toNat % 4294967296) :: s.out) ∧
  (∀ c s, c = .pcieFunctionReset ∨ c = .pciePerstAssert → s.mode.current.fast = true →
    ∃ t, exec c s = .next t ∧ t.openSets = [] ∧ t.culverts = List.replicate 8 CulvertSt.reset ∧
      (∀ n, n < s.rings.length → (t.ring n).enable = false ∧ (t.ring n).active = false) ∧ t.events.subs = [])

/-- Resets and power. AON_RESET_N low leaves Dormant, with the two enables low, the Fallow mark and the saved settings as they were and the
frame store lost; high, it starts device time at zero and raises DRAM_PWR_EN (01 R50; 17 R700, R704). SYS_RESET_N low in a mode with the fast
domains on enters Dormant; high in Dormant, it latches BOOT_SEL and asks for Boot, which begins 1 ms after PWR_OK is high (01 R54; 17 R702).
PWR_OK low leaves a mode with the fast domains on for Dormant, and one that stays low 1 s drops MAIN_PWR_EN (01 R56; 17 R702, R703). The
hold-up input and the tally inputs are read as they stand (01 R56; 17 R714), and a JTAG instruction is held, IDCODE putting the module's code
in the data register (17 R723). Where it goes
beyond the rules it rests on the model's readings: log entries 11, 14, 63, 64, 65, 68, 173. -/
def Obligations.PowerCommandsComplete : Prop :=
  (∀ s, s.pins.aonResetN = false →
    ∃ t, exec .aonResetRelease s = .next t ∧ t.time = 0 ∧ t.pins.aonResetN = true ∧ t.pins.dramPwrEn = true ∧ t.mode = s.mode) ∧
  (∀ s, ∃ t, exec .aonResetAssert s = .next t ∧ t.mode.current = .dormant ∧ t.pins.aonResetN = false ∧ t.pins.mainPwrEn = false ∧
    t.pins.dramPwrEn = false ∧ t.mode.fallowMark = s.mode.fallowMark ∧ t.saved = s.saved ∧ t.dram = []) ∧
  (∀ s, s.mode.current.fast = true →
    ∃ t, exec .sysResetAssert s = .next t ∧ t.mode.current = .dormant ∧ t.pins.sysResetN = false ∧ t.pins.mainPwrEn = false ∧ t.remap = false) ∧
  (∀ b s, s.pins.aonResetN = true → s.mode.current = .dormant → s.pins.mainPwrEn = false → s.mode.blocked = false →
    ∃ t, exec (.sysResetRelease b) s = .next t ∧ t.mode.bootSel = b % 4 ∧ t.pins.sysResetN = true ∧ t.pins.mainPwrEn = true ∧
      t.mode.target = .boot ∧ t.mode.busy = true ∧ t.mode.bootAt = if s.pins.pwrOk then some (s.nowNs + 1000000) else none) ∧
  (∀ s, s.pins.pwrOk = false → s.mode.current = .dormant → s.pins.mainPwrEn = true →
    ∃ t, exec .pwrOkRise s = .next t ∧ t.pins.pwrOk = true ∧ t.mode.bootAt = some (s.nowNs + 1000000)) ∧
  (∀ s, s.mode.current.fast = true →
    ∃ t, exec .pwrOkFall s = .next t ∧ t.mode.current = .dormant ∧ t.pins.pwrOk = false ∧ t.pins.mainPwrEn = false) ∧
  (∀ s n, s.pins.pwrTimer = some n → s.mode.current = .dormant → s.pins.pwrOk = false →
    ∃ t, exec .pwrOkTimeout s = .next t ∧ t.pins.mainPwrEn = false ∧ t.mode.current = .dormant ∧ t.mode.bootAt = none ∧
      t.time = (s.advanceTo (n + 1000000000)).time) ∧
  (∀ s, exec .holdupOkRise s = .next { s with pins := { s.pins with holdupOk := true } }) ∧
  (∀ s, ∃ t, exec .holdupOkFall s = .next t ∧ t.pins.holdupOk = false) ∧
  (∀ n s, n < 8 → ∃ t, exec (.tallyChange n true) s = .next t ∧ t.pins.tally.getLsbD n = true) ∧
  (∀ n s, n < 8 → ∃ t, exec (.tallyChange n false) s = .next t ∧ t.pins.tally.getLsbD n = false) ∧
  (∀ op s, ∃ t, exec (.jtagInstruction op) s = .next t ∧ t.jtag.ir = op ∧ (op = .idcode → t.jtag.dr = s.idcode))

/-- Boot, Training and the modes. Boot begins in Dormant once its time has come with power good, and records its cause (01 R54; 17 R702); a
verified image takes BOOT_SEL codes 0 and 3 to Training, with the Fallow mark clear Boot may end in Recovery, and the mark takes it to
Fallow with both enables low (01 R49, R50). Training that completes repairs and enters Standby (01 R50); a first boot that passes is
recorded and frees the old slot for erasure, one that fails sets the mark and enters Fallow (16 R683). A transition that completes
enters its target (01 R50, R52). A watchdog expiry and a restart of R123 enter Boot with causes 3 and 4 (01 R54; 02 R123). A mode that is reached is reported in MODE_STATUS, in stk_mode_changed, by the mode event and by interrupt source 6 (01 R52, R55). Where it goes
beyond the rules it rests on the model's readings: log entries 63, 64, 65, 67, 69. -/
def Obligations.ModeCommandsComplete : Prop :=
  (∀ s n, s.mode.bootAt = some n → s.mode.current = .dormant → s.pins.mainPwrEn = true → s.pins.pwrOk = true → s.mode.blocked = false →
    ∃ t, exec .bootStart s = .next t ∧ t.mode.current = .boot ∧ t.mode.bootCause = s.mode.bootNext) ∧
  (∀ s, s.mode.current = .boot → s.mode.fallowMark = false → s.mode.bootSel = 0 ∨ s.mode.bootSel = 3 →
    ∃ t, exec .bootImageVerified s = .next t ∧ t = s.enterTraining) ∧
  (∀ s, s.mode.current = .boot → s.mode.fallowMark = false →
    ∃ t, exec .bootToRecovery s = .next t ∧ t.mode.current = .recovery) ∧
  (∀ s, s.mode.current = .boot → s.mode.fallowMark = true →
    ∃ t, exec .bootToFallow s = .next t ∧ t.mode.current = .fallow ∧ t.pins.mainPwrEn = false ∧ t.pins.dramPwrEn = false) ∧
  (∀ s, s.mode.current = .training → s.mode.firstBoot = false →
    ∀ found, exec (.trainingComplete found) s = .next ((((s.repairAll found).arrive .standby).memMode .standby).rejudgeRefs false)) ∧
  (∀ s, s.mode.current = .training → s.mode.firstBoot = true →
    ∃ t, exec .firstBootPass s = .next t ∧ t.mode.firstBoot = false ∧ t.image.firstBoot = 1 ∧ t.image.erasing = true) ∧
  (∀ code s, s.mode.current = .training → s.mode.firstBoot = true →
    ∃ t, exec (.firstBootFail code) s = .next t ∧ t.mode.current = .fallow ∧ t.mode.fallowMark = true ∧ t.image.firstBoot = 2 ∧
      t.image.failCode = code % 65536) ∧
  (∀ s, s.mode.busy = true → s.mode.target = .dormant →
    ∃ t, exec .modeTransitionComplete s = .next t ∧ t.mode.current = .dormant) ∧
  (∀ s, s.mode.busy = true → s.mode.target.service = true → s.mode.current = .standby → s.mode.target ≠ .throttled →
    ∃ t, exec .modeTransitionComplete s = .next t ∧
      t = (if s.mode.target.ranked then
            (State.rouse s (((s.memMode s.mode.target).arrive s.mode.target).enterService)).rejudgeRefs true
           else State.rouse s (((s.memMode s.mode.target).arrive s.mode.target).enterService))) ∧
  (∀ s, s.mode.current.fast = true → ∃ t, exec .watchdogExpiry s = .next t ∧ t.mode.current = .boot ∧ t.mode.bootCause = 3) ∧
  (∀ s, s.mode.current.fast = true → s.mode.restartDue = true →
    ∃ t, exec .deviceRestart s = .next t ∧ t.mode.current = .boot ∧ t.mode.bootCause = 4) ∧
  (∀ (s : State) (m : Mode), m ≠ .throttled →
    (s.arrive m).mode.current = m ∧ (s.arrive m).mode.base = m ∧ (s.arrive m).mode.target = m ∧ (s.arrive m).mode.busy = false ∧
      (s.arrive m).mode.sticky.getLsbD 0 = true ∧ (s.arrive m).mode.changedS = s.nowS ∧ (s.arrive m).ints.cause.getLsbD 6 = true ∧
      (s.arrive m).storm.written = s.storm.written + 1)

/-- What every entry to Boot resets and what it keeps (02 R65, R102, R116; 01 R27): open stage sets, committed parts, rings, Culvert
channels, the settings of sources and destinations, counters, alarms and the identity registers of the firmware are at their reset
values; the fused identity, the saved settings and the frame store stay; every video domain is disabled and keeps its frame index. Where it goes
beyond the rules it rests on the model's readings: log entries 63, 64, 68. -/
def Obligations.BootResetsTheFastDomains : Prop :=
  ∀ (s : State) (cause : Nat), (s.enterBoot cause).openSets = [] ∧ (s.enterBoot cause).parts = [] ∧ (s.enterBoot cause).rings = State.reset.rings ∧
    (s.enterBoot cause).culverts = State.reset.culverts ∧ (s.enterBoot cause).dsts = [] ∧ (s.enterBoot cause).srcs = [] ∧
    (s.enterBoot cause).counters = [] ∧ (s.enterBoot cause).alarms = [] ∧ (s.enterBoot cause).fused.fwVersion = State.reset.fused.fwVersion ∧
    (s.enterBoot cause).fused.protocol = State.reset.fused.protocol ∧ (s.enterBoot cause).fused.identity = s.fused.identity ∧
    (s.enterBoot cause).saved = s.saved ∧ (s.enterBoot cause).dram = s.dram ∧ (s.enterBoot cause).mode.bootCause = cause ∧
    (∀ d, 1 ≤ d → d < s.domains.length → ((s.enterBoot cause).domain d).rate = 0 ∧
      ((s.enterBoot cause).domain d).frame = (s.domain d).frame)

/-- The frames that sources bring have the effect of their rules. A measured frame of a network source, or of a Rill input outside a
quad-link gang, is held to each domain: it belongs to a domain only with a signal, the domain enabled and its period within 100 ppm of the
domain's, and the sixteenth frame in a row within 6 lines makes it a member (04 R176, R177; 06 R292). A whole frame of a network source with
no line missing becomes its newest frame, and its second good frame in a row brings the signal (04 R182, R193, R195); a whole frame of a Rill
input outside a gang that has a signal becomes its newest frame (04 R182); a frame of a lane whose gang is inconsistent leaves its four
sources without a signal, with their alarm (04 R201). The loss of a Rill input outside a gang and the timeout of a network flow leave the
source without signal and out of every domain, with its alarm (04 R189). At its frame start a generator takes a setting that waits and
begins its next frame, the frame it was producing gives it a signal, and pattern 0xFF leaves it without one (03 R151); a recirculated
frame gives its source a signal in its destination's format (03 R131). Where it goes
beyond the rules it rests on the model's readings: log entries 14, 93, 131, 142, 143, 144, 145, 146, 158. -/
def Obligations.SourceCommandsComplete : Prop :=
  (∀ k arrival period beyond s, isExternal k = true → s.usable .src k = true → s.inService = true →
    (isRill k = true → (s.src (k / 4 * 4)).fmt.gang ≠ 4 ∧ (s.src k).fmt.gang ≠ 4) →
    ∃ t, exec (.sourceFrameMeasure k arrival period beyond) s = .next t ∧ (t.src k).periodPs = period ∧
      (∀ i, i < 8 → (t.src k).members.getLsbD i = true →
        (s.src k).signal = true ∧ s.domainOn (i + 1) = true ∧ periodMatches (s.domain (i + 1)).rate period = true) ∧
      (∀ i off, i < 8 → (s.src k).signal = true → s.domainOn (i + 1) = true → (rasterOf (s.src k).rasterSeen).isSome = true →
        periodMatches (s.domain (i + 1)).rate period = true →
        off = offsetOf (s.domain (i + 1)).rate (s.src k).rasterSeen ((arrival : Int) * 1000 - s.inputDelayPs k - 1000 * (s.domain (i + 1)).stepDelta) →
        -96 ≤ off → off ≤ 96 → 15 ≤ (s.src k).runs.getD i 0 → (t.src k).members.getLsbD i = true)) ∧
  (∀ k f s, isNet k = true → s.usable .src k = true → s.inService = true → (s.src k).signal = true → (s.src k).spoiled = false → f.valid = true →
    f.cut = false → f.raster = (s.src k).fmt.raster → (∀ l ∈ s.netLines k f, l.isSome = true) →
    ∃ t, exec (.sourceFrameComplete k f) s = .next t ∧ (t.src k).newest = (s.src k).newest + 1 ∧ (t.src k).written = (s.src k).written + 1 ∧
      (t.src k).pic = .taken (s.src k).fmt (fillLines (s.framePicture (s.src k).pic) (s.netLines k f))) ∧
  (∀ k f s, isNet k = true → s.usable .src k = true → s.inService = true → (s.src k).signal = false → 1 ≤ (s.src k).good → f.valid = true →
    f.cut = false → f.raster = (s.src k).fmt.raster → (∀ l ∈ s.netLines k f, l.isSome = true) →
    ∃ t, exec (.sourceFrameComplete k f) s = .next t ∧ (t.src k).signal = true ∧ (t.src k).newest = (s.src k).newest + 2) ∧
  (∀ k f s u, isRill k = true → s.usable .src k = true → s.inService = true → (s.src k).signal = true → (s.src k).spoiled = false →
    u = (s.takeVpid k f).modSrc k (fun y => { y with lane := f.lines.map (·.getD []), laneAnc := f.anc.filter keptAnc, arrivalNs := 0 }) →
    u.groupWanted (k / 4 * 4) = false → f.valid = true → f.cut = false →
    ∃ t, exec (.sourceFrameComplete k f) s = .next t ∧ (t.src k).newest = (s.src k).newest + 1 ∧ (t.src k).written = (s.src k).written + 1) ∧
  (∀ k f s u, isRill k = true → s.usable .src k = true → s.inService = true →
    u = (s.takeVpid k f).modSrc k (fun y => { y with lane := f.lines.map (·.getD []), laneAnc := f.anc.filter keptAnc, arrivalNs := 0 }) →
    u.groupWanted (k / 4 * 4) = true → u.groupGood (k / 4 * 4) = false →
    ∃ t, exec (.sourceFrameComplete k f) s = .next t ∧
      ∀ m, m < 4 → (t.src (k / 4 * 4 + m)).signal = false ∧ t.stands almLinkGroup (k / 4 * 4 + m) = true) ∧
  (∀ k missing got s, isRill k = true → (s.src (k / 4 * 4)).fmt.gang ≠ 4 → (s.src k).fmt.gang ≠ 4 → (s.src k).signal = true →
    ∃ t, exec (.sourceSignalLoss k missing got) s = .next t ∧ (t.src k).signal = false ∧ (t.src k).members = 0 ∧ t.stands almSrcLoss k = true) ∧
  (∀ k got s, isNet k = true → (s.src k).signal = true →
    ∃ t, exec (.flowSourceTimeout k got) s = .next t ∧ (t.src k).signal = false ∧ (t.src k).members = 0 ∧ t.stands almSrcLoss k = true ∧
      t.time = (s.advanceTo ((s.src k).lastPacketNs + 4000000)).time) ∧
  (∀ k s g, isGenerator k = true → s.usable .src k = true → g = (s.src k).genNext.getD (s.src k).gen → (s.src k).making = .empty →
    (s.src k).fmt.raster ≠ 0 → g.pattern ≠ 0xFF → s.domainOn g.domain = true → s.internalRun = true →
    ∃ t, exec (.generatorFrame k) s = .next t ∧ (t.src k).gen = g ∧ (t.src k).genNext = none ∧
      (t.src k).making = .pattern (s.src k).fmt g.pattern (s.src k).newest) ∧
  (∀ k s g, isGenerator k = true → s.usable .src k = true → g = (s.src k).genNext.getD (s.src k).gen → (s.src k).making ≠ .empty →
    frameFmt (s.src k).making = (s.src k).fmt → s.domainOn (s.src k).gen.domain = true → (s.src k).fmt.raster ≠ 0 → g.pattern ≠ 0xFF →
    s.domainOn g.domain = true → s.internalRun = true →
    ∃ t, exec (.generatorFrame k) s = .next t ∧ (t.src k).gen = g ∧ (t.src k).genNext = none ∧ (t.src k).signal = true) ∧
  (∀ k s, isGenerator k = true → s.usable .src k = true → ((s.src k).genNext.getD (s.src k).gen).pattern = 0xFF →
    ∃ t, exec (.generatorFrame k) s = .next t ∧ (t.src k).signal = false) ∧
  (∀ k s f, k < 64 → s.recirc = true → s.usable .src (1024 + k) = true → s.internalRun = true → s.domainOn (s.dst (1024 + k)).domain = true →
    (s.dst (1024 + k)).fmt.raster ≠ 0 → f = s.outFmt (1024 + k) (frameFmt (s.frameOn (1024 + k))).colour →
    ∃ t, exec (.recirculationReturn k) s = .next t ∧ (t.src (1024 + k)).signal = true ∧
      (t.src (1024 + k)).fmt = { f with colour := resolveColour f.colour 0x11 })

/-- The frames that destinations begin, and their probes: a destination that runs shows black without a route (03 R154), its source's loss
action where it has one to show, counting the frame (04 R191), and else the source's newest frame, a frame synchroniser counting a frame
that it repeats and those it drops (04 R183, R184); an armed probe keeps the signature of each member (04 R204). Where it goes
beyond the rules it rests on the model's readings: log entries 14, 140, 142, 157. -/
def Obligations.DestinationCommandsComplete : Prop :=
  (∀ d s, s.dstRuns d = true → s.dstSrc d = 0xFFFF →
    ∃ t, exec (.destFrameStart d) s = .next t ∧ (t.dst d).shows = .black (s.outFmt d 0) ∧ (t.dst d).showLoss = false ∧ (t.dst d).lossFrames = 0) ∧
  (∀ d s, s.dstRuns d = true → s.dstSrc d ≠ 0xFFFF → s.showsLoss d = true →
    ∃ t, exec (.destFrameStart d) s = .next t ∧ (t.dst d).showLoss = true ∧ (t.dst d).lossFrames = (s.dst d).lossFrames + 1 ∧
      (t.dst d).shows = (s.src (s.dstSrc d)).lossFrame (s.outFmt d (s.src (s.dstSrc d)).fmt.colour) ((s.dst d).lossFrames + 1) ∧
      t.cnt cntLossFrames d = min counterMax (s.cnt cntLossFrames d + 1)) ∧
  (∀ d s, s.dstRuns d = true → s.dstSrc d ≠ 0xFFFF → s.showsLoss d = false →
    ∃ t, exec (.destFrameStart d) s = .next t ∧ (t.dst d).showLoss = false ∧ (t.dst d).lossFrames = 0 ∧
      (t.dst d).lastSeq = (s.src (s.dstSrc d)).newest ∧
      (s.heldBy d = none → (s.dst d).path = 2 → (t.dst d).shows = (s.src (s.dstSrc d)).pic) ∧
      (s.heldBy d = none → (s.dst d).path = 2 → (s.dst d).lastSeq ≠ 0 → (s.src (s.dstSrc d)).newest = (s.dst d).lastSeq →
        t.cnt cntFsRepeat d = min counterMax (s.cnt cntFsRepeat d + 1)) ∧
      (s.heldBy d = none → (s.dst d).path = 2 → (s.dst d).lastSeq ≠ 0 → (s.dst d).lastSeq < (s.src (s.dstSrc d)).newest →
        t.cnt cntFsDrop d = min counterMax (s.cnt cntFsDrop d + ((s.src (s.dstSrc d)).newest - (s.dst d).lastSeq - 1)))) ∧
  (∀ d s, s.dstRuns d = true → s.probeArmed d = true →
    ∃ t, exec (.probeFrame d) s = .next t ∧ (t.dst d).signed = true ∧
      (t.dst d).sigs = ((s.carriedMembers d).zipIdx.map (fun (m : Picture × Nat) => ~~~(probeMember (s.dst d).probe (s.dstFmt d) m.2 m.1).crc) ++ [0, 0, 0, 0]).take 4 ∧
      (t.dst d).sigFrame = (s.domain (s.dst d).domain).frame.toNat)

/-- The events of audio inputs (05 R224, R231 to R234, R247): the measurement of an input that nothing feeds finds no signal, the second one of an
input that is fed leaves No signal, the tenth one in a row within 1 ppm locks; activity is lost; the buffer of a converter slips; non-audio
payload begins and ends; a follower's clock fails, which loses every input of its port, and recovers. Where it goes
beyond the rules it rests on the model's readings: log entries 14, 131. -/
def Obligations.AudioInputCommandsComplete : Prop :=
  (∀ k ratio phase fill s, s.ainPresent k = true → s.ainOdd k = false → s.inService = true → s.ainFed k = false →
    ∃ t, exec (.converterMeasure k ratio phase fill) s = .next t ∧ (t.ain k).state = .noSignal ∧ (t.ain k).ratio = ratio) ∧
  (∀ k ratio phase fill s, s.ainPresent k = true → s.ainOdd k = false → s.inService = true → s.ainFed k = true → (s.ain k).state = .noSignal →
    1 ≤ (s.ain k).present → -1000000 ≤ ratio → ratio ≤ 1000000 →
    ∃ t, exec (.converterMeasure k ratio phase fill) s = .next t ∧ (t.ain k).state = .tracking ∧ t.stands almAudioLoss k = false) ∧
  (∀ k ratio phase fill s, s.ainPresent k = true → s.ainOdd k = false → s.inService = true → s.ainFed k = true → (s.ain k).state = .tracking →
    9 ≤ (s.ain k).lockRun → -1000 ≤ ratio → ratio ≤ 1000 → -8 ≤ phase → phase ≤ 8 →
    ∃ t, exec (.converterMeasure k ratio phase fill) s = .next t ∧ (t.ain k).state = .locked) ∧
  (∀ k buffered s, s.ainPresent k = true → (s.ain k).state ≠ .noSignal →
    ∃ t, exec (.audioActivityLoss k buffered) s = .next t ∧ (t.ain k).state = .noSignal ∧ t.stands almAudioLoss k = true ∧
      t.cnt cntAudioLoss k = min counterMax (s.cnt cntAudioLoss k + 1)) ∧
  (∀ k s, (s.ain k).state = .slip ∨ (s.ain k).state = .locked →
    ∃ t, exec (.audioSlip k) s = .next t ∧ (t.ain k).fill = 8 ∧ ((s.ain k).state = .locked → (t.ain k).state = .tracking) ∧
      ((s.ain k).state = .slip → (t.ain k).state = .slip) ∧ t.cnt cntAudioSlip k = min counterMax (s.cnt cntAudioSlip k + 1)) ∧
  (∀ n dataType s, s.ainPresent (2 * n) = true → (s.ain (2 * n)).nonaudio = false →
    ∃ t, exec (.nonaudioOnset n dataType) s = .next t ∧ (t.ain (2 * n)).nonaudio = true ∧ (t.ain (2 * n)).csNonaudio = decide (dataType = 0xFFFF)) ∧
  (∀ n s, (s.ain (2 * n)).nonaudio = true →
    ∃ t, exec (.nonaudioEnd n) s = .next t ∧ (t.ain (2 * n)).nonaudio = false) ∧
  (∀ p bits s, p < 32 → (s.aport p).cfg.enable = 1 → (s.aport p).cfg.role = 0 → (s.aport p).clockBad = false →
    bits ≠ (s.aport p).cfg.slots * (s.aport p).cfg.slotBits →
    ∃ t, exec (.portClockError p bits) s = .next t ∧ (t.aport p).clockBad = true ∧ t.stands almPortClock p = true ∧
      ∀ k ∈ ainsOfPort p, (t.ain k).state = .noSignal) ∧
  (∀ p s, (s.aport p).clockBad = true →
    ∃ t, exec (.portClockRecover p) s = .next t ∧ (t.aport p).clockBad = false ∧ t.stands almPortClock p = false)

/-- The events of audio outputs (05 R243, R244, R246, R251): the landed settings of an output of an enabled port take effect, at the sample
instant that waits for them; the first crossing in its window ends a search, at that sample; with none there the search ends with the window and is
counted; an access unit of a programme ends one unit's duration after its start. Where it goes
beyond the rules it rests on the model's readings: log entries 14, 153, 154, 159, 160. -/
def Obligations.AudioOutputCommandsComplete : Prop :=
  (∀ k run s, s.aoutPresent k = true → s.inService = true → s.portOn k = true → (s.aout k).due = true →
    ∃ t, exec (.audioBoundary k run) s = .next t ∧ (t.aout k).live = s.aoutInput k ∧ (t.aout k).gain = s.aoutGain k ∧
      (t.aout k).flags = s.aoutFlags k ∧ (t.aout k).due = false ∧ t.time = (s.advanceTo (s.aout k).dueNs).time) ∧
  (∀ k run n s, (s.aout k).starting = true → (s.aout k).stopping = false →
    crossingAt run.before (run.samples.take (s.startWindow k)) = some n →
    ∃ t, exec (.zeroCrossing k true run) s = .next t ∧ (t.aout k).starting = false ∧
      t.time = (s.advanceTo (sampleNs (sampleFrom (s.aout k).startNs + s.periodsOf k n))).time) ∧
  (∀ k run n s, (s.aout k).stopping = true → crossingAt run.before (run.samples.take (s.stopWindow k)) = some n →
    ∃ t, exec (.zeroCrossing k false run) s = .next t ∧ (t.aout k).stopping = false ∧ (t.aout k).oldIn = 0xFFFF ∧
      t.time = (s.advanceTo (sampleNs (sampleFrom (s.aout k).searchNs + s.periodsOf k n))).time) ∧
  (∀ k run s, k < 16384 → (s.aout k).starting = true → (s.aout k).stopping = false →
    crossingAt run.before (run.samples.take (s.startWindow k)) = none →
    ∃ t, exec (.zeroCrossingTimeout k true run) s = .next t ∧ (t.aout k).starting = false ∧
      t.cnt cntZcTimeout k = min counterMax (s.cnt cntZcTimeout k + 1) ∧
      t.time = (s.advanceTo (sampleNs (sampleFrom (s.aout k).startNs + s.periodsOf k (s.startWindow k)))).time) ∧
  (∀ k run s, k < 16384 → (s.aout k).stopping = true → crossingAt run.before (run.samples.take (s.stopWindow k)) = none →
    ∃ t, exec (.zeroCrossingTimeout k false run) s = .next t ∧ (t.aout k).stopping = false ∧ (t.aout k).oldIn = 0xFFFF ∧
      t.cnt cntZcTimeout k = min counterMax (s.cnt cntZcTimeout k + 1) ∧
      t.time = (s.advanceTo (sampleNs (sampleFrom (s.aout k).searchNs + s.periodsOf k (s.stopWindow k)))).time) ∧
  (∀ k au cons s, k % 2 = 0 → (s.aout k).aac.profile ≠ 0 → s.inService = true →
    ∃ t, exec (.aacAccessUnit k au cons) s = .next t ∧
      (t.aout k).aacAt = (s.aout k).aacAt + aacSamples (s.aout k).aac.profile * 1000000000 / 48000)

/-- The events of a lane that adapts (06 R277, R279 to R284): a signal, each step, the figure of merit, its alarm, the timeout and the
loss of the input. Where it goes
beyond the rules it rests on the model's readings: log entries 14, 95, 96, 162, 164. -/
def Obligations.LaneAdaptationCompletes : Prop :=
  (∀ k s, k < 256 → s.laneOn k = true → (s.lane k).state = .detect →
    ∃ t, exec (.laneSignalDetect k) s = .next t ∧ (t.lane k).state = .acquire ∧ (t.lane k).step = .acquire) ∧
  (∀ k r s, k < 256 → s.laneOn k = true → (s.lane k).state = .acquire → r.locked = true →
    (k < 128 ∨ (1 ≤ r.rate ∧ r.rate ≤ 9)) → (s.lane k).rx.ctleMode ≠ 1 →
    ∃ t, exec (.adaptStepEnd k r) s = .next t ∧ (t.lane k).state = .adapting ∧ (t.lane k).step = .coarse) ∧
  (∀ k r s, k < 128 → s.laneOn k = true → (s.lane k).state = .adapting → (s.lane k).step = .coarse →
    ∃ t, exec (.adaptStepEnd k r) s = .next t ∧ (t.lane k).step = .converge ∧
      (t.lane k).ctle = (bestStep (0, r.foms.headD 0) (r.foms.zipIdx.map (fun e => (e.2, e.1)))).1) ∧
  (∀ k r s, k < 256 → s.laneOn k = true → (s.lane k).state = .adapting → (s.lane k).step = .converge → (s.lane k).rx.ctleMode ≠ 1 →
    ∃ t, exec (.adaptStepEnd k r) s = .next t ∧ (t.lane k).step = .fine) ∧
  (∀ k r s, k < 256 → s.laneOn k = true → (s.lane k).state = .adapting → (s.lane k).step = .fine →
    ∃ t, exec (.adaptStepEnd k r) s = .next t ∧ (t.lane k).step = .qualify ∧ (t.lane k).qualNs = s.nowNs ∧
      (t.lane k).ctle = (bestStep ((s.lane k).ctle, (s.lane k).fom) ((fineSteps (s.lane k).ctle).zip r.foms)).1) ∧
  (∀ k r s, k < 256 → s.laneOn k = true → (s.lane k).state = .adapting → (s.lane k).step = .qualify → qualifyCount k ≤ (s.lane k).okRun →
    ∃ t, exec (.adaptStepEnd k r) s = .next t ∧ (t.lane k).state = .ready) ∧
  (∀ k s, k < 256 → s.laneOn k = true → (s.lane k).state = .adapting → (s.lane k).step = .qualify →
    ∃ t, exec (.qualifyTimeout k) s = .next t ∧ (t.lane k).state = .acquire ∧ (t.lane k).fails = (s.lane k).fails + 1 ∧
      (2 ≤ (s.lane k).fails → t.stands almLaneFom k = true)) ∧
  (∀ k x s, k < 256 → s.laneOn k = true → (s.lane k).state = .ready → readyThreshold k (s.lane k).mode ≤ figureOfMerit x + 30 →
    ∃ t, exec (.fomUpdate k x) s = .next t ∧ (t.lane k).fom = figureOfMerit x ∧ (t.lane k).lowRun = 0 ∧ (t.lane k).state = .ready) ∧
  (∀ k x s, k < 256 → s.laneOn k = true → (s.lane k).state = .ready → figureOfMerit x + 30 < readyThreshold k (s.lane k).mode →
    (s.lane k).lowRun = 99 →
    ∃ t, exec (.fomUpdate k x) s = .next t ∧ t.stands almLaneFom k = true) ∧
  (∀ k n s, (s.lane k).okSince = some n → s.stands almLaneFom k = true →
    ∃ t, exec (.fomAlarmClear k) s = .next t ∧ t.stands almLaneFom k = false ∧ t.time = (s.advanceTo (n + 1000000000)).time) ∧
  (∀ k s, k < 256 → s.laneOn k = true → (s.lane k).state = .acquire ∨ (s.lane k).state = .adapting ∨ (s.lane k).state = .ready →
    ∃ t, exec (.laneInputLoss k) s = .next t ∧ (t.lane k).state = .detect ∧ (t.lane k).fom = 0)

/-- Test tools and the I2C buses (06 R287, R289, R295 to R297): an eye scan ends, a checker locks and loses lock, a transaction ends, a
device holds the bus, the writes of a rate class begin. Where it goes
beyond the rules it rests on the model's readings: log entries 14, 94. -/
def Obligations.LaneToolsComplete : Prop :=
  (∀ k cs e s, (s.lane k).eye = some e →
    ∃ t, exec (.eyeScanComplete k cs) s = .next t ∧ (t.lane k).eye = none ∧ (t.lane k).eyeHead = e ∧
      (t.lane k).eyeCounts = (cs.map (min 4294967295) ++ List.replicate (eyePoints e) 0).take (eyePoints e)) ∧
  (∀ k s, (s.lane k).tools.chk ≠ 0 → s.mode.current = .test →
    exec (.prbsCheckerLock k) s = .next (s.modLane k (fun l => { l with chkLock := true }))) ∧
  (∀ k bits errors symbols s, (s.lane k).chkLock = true → (s.lane k).tools.chk ≠ 0 →
    ∃ t, exec (.prbsCheckerRelock k bits errors symbols) s = .next t ∧ (t.lane k).chkLock = false ∧
      t.cnt cntPrbsBits k = min counterMax (s.cnt cntPrbsBits k + bits) ∧ t.cnt cntPrbsErrors k = min counterMax (s.cnt cntPrbsErrors k + errors) ∧
      t.cnt cntPrbsRelock k = min counterMax (s.cnt cntPrbsRelock k + 1)) ∧
  (∀ b r s x rest, b < s.buses.length → (s.bus b).queue = x :: rest → r.code ≤ 2 →
    ∃ t, exec (.i2cTransactionEnd b r) s = .next t ∧ (t.bus b).queue = rest ∧ (r.code = 0 → t.stands almI2cBus b = false)) ∧
  (∀ b sdaLow s x rest, b < s.buses.length → (s.bus b).queue = x :: rest →
    ∃ t, exec (.i2cStretchTimeout b sdaLow) s = .next t ∧ (t.bus b).queue = rest ∧ (sdaLow = true → t.stands almI2cBus b = true)) ∧
  (∀ k hd s, 128 ≤ k → s.lanePresent k = true → (s.lane k).bind.flags.getLsbD 0 = true → (s.lane k).bind.address ≠ 0 →
    (s.lane k).hookClass ≠ some hd → (s.lane k).bind.bus < s.buses.length → (s.bus (s.lane k).bind.bus).queue = [] →
    ∃ t, exec (.rateHookStart k hd) s = .next t ∧ (t.lane k).hookClass = some hd ∧
      (t.lane k).hookLeft = (if hd then (s.lane k).hooks.countHd else (s.lane k).hooks.countSd) ∧
      (t.bus (s.lane k).bind.bus).queue.map (fun x => (x.lane, x.write, x.address, x.hook)) =
        (List.range (if hd then (s.lane k).hooks.countHd else (s.lane k).hooks.countSd)).map (fun i =>
          (k, slice (if hd then (s.lane k).hooks.hd else (s.lane k).hooks.sd) (2 * i) 2, (s.lane k).bind.address, true)))

/-- The commands of the Ethernet ports, the merge stage and PTP have the effect of their rules: a link comes up and goes down
(07 R306); a bad, a too long, an ESMC and a matched frame are handled (07 R308); a packet enters the merge stage of its flow and the first one
there leaves it (07 R320); a leg is lost and returns (07 R321); a report is repeated (07 R328); the follower turns away another domain's messages,
hears a master, asks it and leaves a silent one (07 R330); a RIST receiver asks for what it misses and a decoder's input passes on (07 R324). Where it goes
beyond the rules it rests on the model's readings: log entries 14, 96, 97, 98, 99, 157, 158, 163. -/
def Obligations.NetworkCommandsComplete : Prop :=
  (∀ p s, p < 64 → (s.port p).cfg.enable = 1 → s.inService = true → s.linkOn p = false → s.lanesReady p = true →
    ∃ t, exec (.linkUp p) s = .next t ∧ t.linkOn p = true ∧ (t.port p).upS = s.nowS ∧ t.stands almLinkDown p = false) ∧
  (∀ p cause s, s.linkOn p = true → cause ≤ 3 →
    ∃ t, exec (.linkDown p cause) s = .next t ∧ (t.port p).state = .adapting ∧ (t.port p).localFault = decide (cause = 2) ∧
      (t.port p).remoteFault = decide (cause = 3) ∧ t.stands almLinkDown p = true) ∧
  (∀ p (e : EthFrame) s, s.linkOn p = true → e.bad = true →
    exec (.ethFrameReceive p e) s = .next ((s.count cntRxFrames p 1).count cntRxFcs p 1)) ∧
  (∀ p (e : EthFrame) s, s.linkOn p = true → e.bad = false → (s.port p).cfg.maxFrame < e.len →
    exec (.ethFrameReceive p e) s = .next ((s.count cntRxFrames p 1).count cntRxOversize p 1)) ∧
  (∀ p (e : EthFrame) ssm s, s.linkOn p = true → e.bad = false → e.len ≤ (s.port p).cfg.maxFrame → e.body = .esmc ssm →
    ∃ t, exec (.ethFrameReceive p e) s = .next t ∧ (t.port p).ssm = ssm ∧ (t.port p).ssmNs = s.nowNs) ∧
  (∀ p (e : EthFrame) v6 src dst sp dp b f l s, s.linkOn p = true → e.bad = false → e.len ≤ (s.port p).cfg.maxFrame →
    e.body = .udp v6 src dst sp dp b → s.macAccepted p e.dstMac = true → (s.port p).ptp.role = 0 →
    (s.count cntRxFrames p 1).flowMatch p e.vlan v6 src dst sp dp = some (f, l) →
    exec (.ethFrameReceive p e) s = .next ((s.count cntRxFrames p 1).flowPacket f l e.len b)) ∧
  (∀ f l (r : Rtp) b (s : State), ((s.flow f).merge.any (fun q => q.seq == r.seq)) = false → (s.flow f).nextSeq = none →
    ∃ q ∈ ((s.mergeIn f l r b).flow f).merge, q.seq = r.seq ∧ q.leg = l ∧ q.atNs = s.nowNs ∧ q.bytes = b) ∧
  (∀ f p rest s, (s.flow f).merge = p :: rest →
    ∃ t, exec (.mergeRelease f) s = .next t ∧ t.time = (s.advanceTo (p.atNs + holdNs (s.flow f).cfg.kind)).time ∧
      (t.flow f).merge = rest ∧ (t.flow f).nextSeq = some ((p.seq + 1) % seqSpan (s.flow f).cfg.kind)) ∧
  (∀ f l s, f < 8192 → l < 2 → (s.flow f).cfg.enabled = true → (s.flow f).cfg.guarded = true → s.stands almLegLoss (legKey f l) = false →
    ((s.flow f).legs.getD l LegSt.reset).lastNs ≤ ((s.flow f).legs.getD (1 - l) LegSt.reset).lastNs →
    ((s.flow f).legs.getD (1 - l) LegSt.reset).lastNs ≠ 0 →
    ∃ t, exec (.legLoss f l) s = .next t ∧ t.stands almLegLoss (legKey f l) = true ∧
      t.time = (s.advanceTo (((s.flow f).legs.getD l LegSt.reset).lastNs + 4000000)).time) ∧
  (∀ f l s, l < 2 → s.stands almLegLoss (legKey f l) = true → ((s.flow f).legs.getD l LegSt.reset).lastNs ≠ 0 →
    ∃ t, exec (.legReturn f l) s = .next t ∧ t.stands almLegLoss (legKey f l) = false ∧
      t.time = (s.advanceTo (((s.flow f).legs.getD l LegSt.reset).since + 100000000)).time) ∧
  (∀ p n g rest s, (s.port p).repeats = (n, g) :: rest →
    ∃ t, exec (.membershipReportRepeat p) s = .next t ∧ (t.port p).repeats = rest ∧ t.time = (s.advanceTo n).time ∧
      (s.linkOn p = true → t.out = .portFrame p 0 g :: s.out)) ∧
  (∀ p (m : PtpMessage) s, s.linkOn p = true → m.len ≤ (s.port p).cfg.maxFrame → (s.port p).ptp.role ≠ 0 →
    m.domainNumber ≠ (s.port p).ptp.domainNumber →
    exec (.ptpMessageReceive p m) s = .next ((s.count cntRxFrames p 1).count cntPtpUnsupported p 1)) ∧
  (∀ p (m : PtpMessage) s, s.linkOn p = true → m.len ≤ (s.port p).cfg.maxFrame → (s.port p).ptp.role = 1 → m.kind = .announce →
    m.domainNumber = (s.port p).ptp.domainNumber → s.dutyPlane = some (portPlane p) →
    ∃ t, exec (.ptpMessageReceive p m) s = .next t ∧
      (t.port p).master = bestMaster (masterOf m :: (s.port p).masters.filter (fun b => b.identity != m.identity))) ∧
  (∀ p m s, (s.port p).master = some m → s.follows p = true →
    ∃ t, exec (.delayReqSend p) s = .next t ∧ (t.port p).reqOut = true ∧ (t.port p).reqSeq = ((s.port p).reqSeq + 1) % 65536 ∧
      t.out = .portFrame p 5 (be 8 m.identity) :: s.out) ∧
  (∀ p (best : PtpMaster) m s, (s.port p).master = some m → s.follows p = true →
    ∃ t, exec (.announceTimeout p best) s = .next t ∧
      (t.port p).master = (if best.identity = 0 then bestMaster ((s.port p).masters.filter (fun b => b.identity != m.identity)) else some best) ∧
      (t.port p).masters = (s.port p).masters.filter (fun b => b.identity != m.identity)) ∧
  (∀ f s, f < 8192 → (s.flow f).cfg.enabled = true → (s.flow f).cfg.kind = 0x08 → s.coresRun = true →
    ∃ t, exec (.ristReceiverReport f) s = .next t ∧
      (t.flow f).nackReq = (if u16 (s.flow f).cfg.params 2 = 0 then []
        else missingSeqs s.nowNs (u16 (s.flow f).cfg.params 2 * 1000000) ((s.flow f).buffer ++ (s.flow f).merge))) ∧
  (∀ f p rest s, (s.flow f).buffer = p :: rest → (s.flow f).cfg.kind = 0x07 ∨ (s.flow f).cfg.kind = 0x08 → s.coresRun = true →
    ∃ t, exec (.decoderInputRelease f) s = .next t ∧ (t.flow f).buffer = rest ∧
      t.time = (s.advanceTo (p.atNs + u16 (s.flow f).cfg.params 0 * 1000000)).time)

/-- The commands of Turnout and Levee have the effect of their rules: a frame of queue 0 or 1 is queued or dropped at the tail (08 R342, R343); a
strict queue's head leaves first (08 R344); heads past their delay bound are dropped (08 R346); a gate list moves on and takes over (08 R351,
R352); the queues are sampled (08 R356); a packet of a video entry that does not wait, of an audio entry and of an ancillary entry whose line
carries any is released (08 R347, R348); the lease is renewed, expires, and is granted to a plane that requests it
(08 R361, R367); the checks of a plane are evaluated (08 R363); the handback becomes due (08 R372); a hold ends (08 R370). Where it goes
beyond the rules it rests on the model's readings: log entries 14, 20, 100, 161, 163. -/
def Obligations.EgressAndPlaneCommandsComplete : Prop :=
  (∀ p (e : EgressFrame) k s, s.portPresent p = true → (s.port p).cfg.enable = 1 → s.linkOn p = true → e.source = .general ∨ e.source = .ptpEvent →
    k = 12 * p + s.classify p e.source → (s.queue k).depth + e.len ≤ (s.queue k).cfg.limit → s.oversize p (s.classify p e.source) e.len = false →
    exec (.egressEnqueue p e) s = .next (s.modQueue k (fun y => { y with
      frames := y.frames ++ [{ len := e.len, atNs := s.nowNs, flow := 0xFFFF, duty := false }] }))) ∧
  (∀ p (e : EgressFrame) k s, s.portPresent p = true → (s.port p).cfg.enable = 1 → s.linkOn p = true → e.source = .general ∨ e.source = .ptpEvent →
    k = 12 * p + s.classify p e.source → (s.queue k).cfg.limit < (s.queue k).depth + e.len →
    exec (.egressEnqueue p e) s = .next (s.count cntQTailDrop k 1)) ∧
  (∀ p q u s f rest, s.linkOn p = true → u = (s.advanceTo (s.gate p).freeNs).dropOversize p → [0, 1, 2, 3].find? (u.eligible p) = some q →
    (u.queue (12 * p + q)).frames = f :: rest →
    ∃ t, exec (.egressSelect p) s = .next t ∧ (t.queue (12 * p + q)).frames = rest ∧ t.out = .line p f.flow f.len :: u.out ∧ t.time = u.time) ∧
  (∀ k f rest s, (s.queue k).frames = f :: rest → (s.queue k).cfg.delayBound ≠ 0 →
    ∃ t, exec (.queueDelayDrop k) s = .next t ∧ t.time = (s.advanceTo (f.atNs + (s.queue k).cfg.delayBound * 1000)).time ∧
      (t.queue k).frames = (s.queue k).frames.dropWhile (fun y => y.atNs + (s.queue k).cfg.delayBound * 1000 ≤ t.nowNs)) ∧
  (∀ p n s, nextGateChange (s.gate p).live (s.gate p).startNs (max (s.gate p).changeNs (s.gate p).startNs) = some n →
    exec (.gateEntryChange p) s = .next ((s.advanceTo n).modGate p (fun x => { x with changeNs := n }))) ∧
  (∀ p c s, (s.gate p).pending = some c →
    ∃ t, exec (.gateListTakeover p) s = .next t ∧ (t.gate p).live = c ∧ (t.gate p).pending = none ∧ (t.gate p).startNs = (s.gate p).takeover ∧
      t.time = (s.advanceTo (s.gate p).takeover).time) ∧
  (∀ p q s, s.portPresent p = true → (s.port p).cfg.enable = 1 → q < 12 →
    ∃ t, exec (.queueSample p) s = .next t ∧ (t.queue (12 * p + q)).samples = min counterMax ((s.queue (12 * p + q)).samples + 1) ∧
      (t.queue (12 * p + q)).depthMax = max (s.queue (12 * p + q)).depthMax (s.queue (12 * p + q)).depth ∧
      (t.queue (12 * p + q)).frames = (s.queue (12 * p + q)).frames) ∧
  (∀ f j c r s, c = (s.flow f).old.getD (s.flow f).cfg → rasterOf (s.dstFmt c.binding).raster = some r → 8192 ≤ f → c.enabled = true →
    c.kind = 0x01 → s.inService = true → s.domainOn (s.dst c.binding).domain = true → (s.flow f).waits = false →
    j < r.height * linePackets c (s.dstFmt c.binding) r.width →
    ∃ t, exec (.pacerRelease f j) s = .next t ∧ (t.flow f).paced = j + 1 ∧ (t.flow f).txSeq = (s.flow f).txSeq + 1) ∧
  (∀ f line audio status c s, c = s.releaseEntry f → 8192 ≤ f → c.enabled = true → s.inService = true →
    c.kind = 0x02 ∨ c.kind = 0x03 ∨ (c.kind = 0x04 ∧ s.ancOn c.binding line ≠ []) →
    ∃ t, exec (.audioAncRelease f line audio status) s = .next t ∧ (t.flow f).txSeq = (s.flow f).txSeq + 1) ∧
  (∀ n u s, s.levee.holder = some n → s.levee.gaveUp = false → s.isFenced .control n = false → u = s.advanceTo (s.levee.renewed + 5000000) →
    u.nowNs < s.levee.expiry →
    exec (.leaseRenew n) s = .next { u with levee := { u.levee with renewed := u.nowNs, expiry := u.nowNs + 20000000 } }) ∧
  (∀ h s, s.levee.holder = some h → (s.plane 0).request = false → (s.plane 1).request = false →
    ∃ t, exec .leaseExpiry s = .next t ∧ t.levee.holder = none ∧ t.stands almRightNone 0 = true ∧ t.time = (s.advanceTo s.levee.expiry).time) ∧
  (∀ h n s, s.levee.holder = some h → n < 2 → (s.plane n).request = true → (s.plane (1 - n)).request = false →
    ∃ t, exec .leaseExpiry s = .next t ∧ t.levee.holder = some n ∧ t.levee.gaveUp = false ∧ t.levee.expiry = t.nowNs + 20000000 ∧
      t.stands almRightNone 0 = false) ∧
  (∀ n s, s.supervised n = true → 1 ≤ s.level n → s.levee.holder = none →
    ∃ t, exec (.rightRequest n) s = .next t ∧ t.levee.holder = some n ∧ t.levee.expiry = s.nowNs + 20000000) ∧
  (∀ n h s, s.supervised n = true → 1 ≤ s.level n → s.levee.holder = some h → h ≠ n →
    exec (.rightRequest n) s = .next (s.modPlane n (fun x => { x with request := true }))) ∧
  (∀ n o s, s.supervised n = true → n < s.planes.length →
    ∃ t, exec (.planeCheckEval n o) s = .next t ∧ (t.plane n).fresh = false ∧
      (∀ p ∈ s.dutyPorts n, s.linkOn p = false → (t.plane n).failed.getLsbD 0 = true)) ∧
  (∀ n s, (s.plane s.levee.cfg.preferred).level2Ns = some n → s.levee.cfg.holdoffS ≠ 0 → s.levee.holder ≠ some s.levee.cfg.preferred →
    s.level s.levee.cfg.preferred = 2 →
    ∃ t, exec .handbackHoldoffExpiry s = .next t ∧ t.levee.handback = true ∧ t.levee.holder = s.levee.holder ∧
      t.time = (s.advanceTo (n + s.levee.cfg.holdoffS * 1000000000)).time) ∧
  (∀ k h s, s.levee.holds.find? (fun h => h.1 == k) = some h → h.2 ≠ 0 →
    ∃ t, exec (.handoverHoldEnd k) s = .next t ∧ t.levee.holds = s.levee.holds.filter (fun h => h.1 != k) ∧ t.time = (s.advanceTo h.2).time)

/-- The commands of the Headgate loop have the effect of their rules: the frequency and the increment of device time are set, in Manual to the
offset set and on a selected reference to the loop's, limited (09 R390, R392, R400); the stages of Acquiring pass, from the last one to Locked,
and the bandwidth of Locked narrows (09 R391); Holdover expires at its time and keeps its frequency (09 R390); the history takes an entry
(09 R394); a PTP bridge that times out loses the follower (09 R389). Where it goes
beyond the rules it rests on the model's readings: log entries 101, 103, 165. -/
def Obligations.HeadgateLoopCommandsComplete : Prop :=
  (∀ phase freq s, s.mode.current.fast = true → s.hg.state = .manual →
    ∃ t, exec (.loopUpdate phase freq) s = .next t ∧ t.hg.freq = s.hg.cfg.manualOffset ∧
      4294967296 * t.hg.incrNs + t.hg.incrFrac.toNat = s.increment s.hg.cfg.manualOffset) ∧
  (∀ phase freq s k, s.mode.current.fast = true → (s.hg.state = .acquiring ∨ s.hg.state = .locked) → s.hg.selected = some k →
    s.hg.bridging = none → s.hg.takePhase = false →
    ∃ t, exec (.loopUpdate phase freq) s = .next t ∧ t.hg.freq = s.steered k freq ∧
      4294967296 * t.hg.incrNs + t.hg.incrFrac.toNat = s.increment (s.steered k freq)) ∧
  (∀ s n, s.hg.belowNs = some n → s.hg.state = .acquiring → s.hg.stage = 3 →
    ∃ t, exec .acquireStagePass s = .next t ∧ t.hg.state = .locked ∧ t.hg.bw = 100) ∧
  (∀ s n, s.hg.belowNs = some n → s.hg.state = .acquiring → s.hg.stage < 3 →
    ∃ t, exec .acquireStagePass s = .next t ∧ t.hg.state = .acquiring ∧ t.hg.stage = s.hg.stage + 1 ∧ t.hg.bw = stageBw (s.hg.stage + 1)) ∧
  (∀ s, s.hg.state = .locked → s.hg.bw > s.hg.cfg.trackBw →
    ∃ t, exec .lockedBandwidthNarrow s = .next t ∧ t.hg.stage = 4 ∧ t.hg.bw = max s.hg.cfg.trackBw (s.hg.bw / 10)) ∧
  (∀ s, s.hg.state = .holdover →
    ∃ t, exec .holdoverExpiry s = .next t ∧ t.hg.state = .expired ∧ t.hg.freq = s.hg.freq ∧
      t.time = (s.advanceTo (s.hg.holdNs + s.hg.cfg.holdoverMax * 1000000000)).time) ∧
  (∀ f s, s.hg.state = .locked →
    ∃ t, exec (.historyRecord f) s = .next t ∧ t.hg.history = ((t.nowNs, f) :: s.hg.history).take 1024) ∧
  (∀ s n, s.hg.bridging = some n → s.refEnabled 0 = true → (s.ref 0).active = true → 0 < s.refs.length →
    ∃ t, exec .ptpBridgeTimeout s = .next t ∧ t.hg.bridging = none ∧ (t.ref 0).active = false ∧ (t.ref 0).qualified = false ∧
      t.time = (s.advanceTo (n + 2000000000)).time)

/-- The commands of the reference monitors have the effect of their rules: a reading is held, corrected by the oscillator offset (09 R383); an
input that is lost is neither active nor qualified (09 R383, R384); a reference that has been good for its time qualifies, by its rank in
the modes of R385 (09 R384, R385); the offset and the quality of the PTP follower are held (09 R381, R385). Where it goes
beyond the rules it rests on the model's readings: log entries 101, 102, 165. -/
def Obligations.ReferenceCommandsComplete : Prop :=
  (∀ k raw s, s.refEnabled k = true → s.refOn k = true → k < s.refs.length →
    ∃ t, exec (.refMonitorReading k raw) s = .next t ∧ (t.ref k).freq = s.corrected raw ∧ (t.ref k).active = true) ∧
  (∀ k s, s.refEnabled k = true → (s.ref k).active = true → k < s.refs.length →
    ∃ t, exec (.refActivityLost k) s = .next t ∧ (t.ref k).active = false ∧ (t.ref k).qualified = false) ∧
  (∀ k n s, s.refTimer k = some n → s.refEnabled k = true → s.refOn k = true → (s.ref k).active = true →
    (s.ref k).qualified = false → (s.mode.current.ranked = false ∨ s.rankOk k = true) →
    ∃ t, exec (.refQualify k) s = .next t ∧ t = (s.advanceTo (n + s.qualTime k)).qualify k) ∧
  (∀ offset identity clockClass s, s.refEnabled 0 = true → s.refOn 0 = true → 0 < s.refs.length →
    ∃ t, exec (.ptpOffsetMeasurement offset identity clockClass) s = .next t ∧ (t.ref 0).active = true ∧
      (t.ref 0).phase = offset - 4 * (s.ref 0).cfg.offsetNs ∧ (t.ref 0).quality = clockClass)

/-- Host triggers, captures and the 1PPS output (09 R416, R418 to R420): a trigger fires at its instant, holds the pins that it drives for its
width and counts down; an edge of an enabled capture pin is captured, and one within 1 us of a captured edge counted as missed; the next
whole second holds PPS_OUT for its width; a read of TIME_NS, INCR_NS and CAP_NS answers its register and latches the words read after it
(09 R412, R415, R416). Where it goes
beyond the rules it rests on the model's readings: log entries 14, 103. -/
def Obligations.TimeMarkCommandsComplete : Prop :=
  (∀ k n s, 16 ≤ k → k ≤ 63 → (s.trig k).next = some n → (s.trig k).cfg.kind ≠ 0 →
    (s.trig k).cfg.count ≠ 0 → (s.trig k).cfg.count ≠ 0xFFFFFFFF →
    ∃ t, exec (.triggerFire k) s = .next t ∧ (t.trig k).cfg.count = (s.trig k).cfg.count - 1 ∧ (t.trig k).lastFire = n ∧
      t.time = (s.advanceTo n).time ∧
      ((s.trig k).cfg.targets &&& 0x0F ≠ 0 → (t.trig k).highUntil = n + (s.trig k).cfg.widthNs)) ∧
  (∀ n falling s, n < 4 → n < s.caps.length → (s.cap n).enable = true → (s.cap n).falling = falling → s.mode.current.fast = true →
    (∀ m, (s.cap n).lastNs = some m → s.nowNs < m ∨ m + 1000 ≤ s.nowNs) →
    ∃ t, exec (.tcapEdge n falling) s = .next t ∧ (t.cap n).valid = true ∧ (t.cap n).count = (s.cap n).count + 1 ∧
      (t.cap n).ns = BitVec.ofNat 32 (s.nowNs % 1000000000) ∧ (t.cap n).sec = BitVec.ofNat 48 s.nowS) ∧
  (∀ n falling m s, n < 4 → (s.cap n).enable = true → (s.cap n).falling = falling → s.mode.current.fast = true →
    (s.cap n).lastNs = some m → m ≤ s.nowNs → s.nowNs < m + 1000 →
    exec (.tcapEdge n falling) s = .next (s.count cntCapMissed n 1)) ∧
  (∀ s, s.ppsSquelched = false →
    ∃ t, exec .ppsOutPulse s = .next t ∧ t.time = (s.advanceTo (cdiv s.nowNs 1000000000 * 1000000000)).time ∧
      t.pins.ppsUntil = t.nowNs + s.hg.cfg.ppsWidth * 1000) ∧
  (∀ s, s.hostLink = true →
    ∃ t, exec .timeNsRead s = .next t ∧ t.hg.snapNs = BitVec.ofNat 32 (s.nowNs % 1000000000) ∧ t.hg.snapS = BitVec.ofNat 48 s.nowS ∧
      t.hg.snapFrac = BitVec.ofNat 16 (s.time / 65536 % 65536) ∧ t.hg.snapState = BitVec.ofNat 3 s.hg.state.code ∧
      t.out = .regRead 0x2000 (s.nowNs % 1000000000) :: s.out) ∧
  (∀ s, s.hostLink = true →
    ∃ t, exec .incrNsRead s = .next t ∧ t.hg.incrLatch = s.hg.incrFrac ∧ t.out = .regRead 0x2018 s.hg.incrNs :: s.out) ∧
  (∀ n s, s.hostLink = true → n < 4 → n < s.caps.length →
    ∃ t, exec (.capNsRead n) s = .next t ∧ (t.cap n).latchS = (s.cap n).sec ∧ (t.cap n).latchFrac = (s.cap n).frac ∧
      (t.cap n).valid = false ∧ t.out = .regRead (0x2104 + 0x20 * n) (s.cap n).ns.toNat :: s.out)

/-- The commands of Clause and of the coded streams have the effect of their rules: a feed picture is released for analysis at its end
(11 R470, R472), the analysis ends at its deadline (11 R473), the rest of a partition is coded in floor mode from its instant on (11 R474), a
picture whose access units are ready leaves the stem at its delivery instant (11 R471), the floor alarm clears (11 R485), tables, packets and
sender reports are made at their instants (11 R490, R492, R493). Where it goes
beyond the rules it rests on the model's readings: log entries 14, 24, 25, 108, 137, 166, 167, 168, 169. -/
def Obligations.CodingCommandsComplete : Prop :=
  (∀ k e s, s.endInstant k = some e → ((s.governed k (s.stem k).frame).stem k).cfg.enable = 1 →
    ((s.governed k (s.stem k).frame).stem k).running = true →
    ∃ t, exec (.stemAnalysisRelease k) s = .next t ∧ t.time = (s.advanceTo e).time ∧
      (∃ p ∈ (t.stem k).pics, p.frame = (s.stem k).frame ∧ p.field = (s.stem k).field ∧ p.endNs = e ∧
        p.dueNs = e + (s.governed k (s.stem k).frame).latencyNs k)) ∧
  (∀ k p s, (s.stem k).pics.find? (fun p => !p.done) = some p →
    ∃ t, exec (.analysisDeadline k) s = .next t ∧ t.time = (s.advanceTo p.analysisNs).time ∧
      (∃ q ∈ (t.stem k).pics, q.frame = p.frame ∧ q.field = p.field ∧ q.done = true ∧ q.left = [])) ∧
  (∀ r part p q s, (s.rend r).hand.find? (fun p => p.released && p.left.contains part && !p.cut.any (fun e => e.1 == part)) = some p →
    (s.stem p.cfg.stem).pics.find? (fun q => q.frame == p.frame && q.field == p.field) = some q →
    ∃ t, exec (.partitionCutTime r part) s = .next t ∧
      t.time = (s.advanceTo (q.dueNs - s.packNs p.cfg.stem - 2000 * (s.picJob p).partRows p.parts part)).time ∧
      (∃ w ∈ (t.rend r).hand, w.frame = p.frame ∧ w.field = p.field ∧ ∃ rows, (part, rows) ∈ w.cut)) ∧
  (∀ k cons q rest s, (s.stem k).pics = q :: rest → q.done = true →
    (∀ e ∈ s.rends, ∀ p ∈ e.2.hand, p.cfg.stem = k → p.frame = q.frame → p.field = q.field → p.unit ≠ none) →
    ∃ t, exec (.deliveryInstant k cons) s = .next t ∧ t.time = (s.advanceTo q.dueNs).time ∧ (t.stem k).pics = rest) ∧
  (∀ r s, s.stands almFloor r = true →
    ∃ t, exec (.floorAlarmClear r) s = .next t ∧ t.stands almFloor r = false ∧ t.time = (s.advanceTo ((s.rend r).lastFloorNs + 10000000000)).time) ∧
  (∀ d s, s.flowLanded d = true → s.inService = true →
    ∃ t, exec (.tsTableInsert d) s = .next t ∧ (t.deliv d).tableNs = (s.deliv d).tableNs + 100000000 ∧
      t.time = (s.advanceTo (s.deliv d).tableNs).time) ∧
  (∀ d s, s.flowLanded d = true → s.inService = true →
    ∃ t, exec (.tsPacketSend d) s = .next t ∧ (t.deliv d).tsNext = (s.deliv d).tsNext + rtpSpanNs (s.flow (s.deliv d).cfg.flow).cfg ∧
      (t.deliv d).packets = (s.deliv d).packets + 1 ∧
      (t.flow (s.deliv d).cfg.flow).txSeq = (s.flow (s.deliv d).cfg.flow).txSeq + 1 ∧ t.time = (s.advanceTo (s.deliv d).tsNext).time) ∧
  (∀ d s, s.flowLanded d = true → s.inService = true → (s.deliv d).cfg.kind = 2 →
    ∃ t, exec (.ristSenderReport d) s = .next t ∧ (t.deliv d).srNs = (s.deliv d).srNs + 100000000 ∧
      t.time = (s.advanceTo (s.deliv d).srNs).time)

/-- The commands of Rider and of the decode contexts have the effect of their rules: a consumer asks and is served, finishes an item that the
block makes, is woken or gives way (12 R506 to R512), refused items are offered again (12 R510), a job that finds no room waits and tries again
(12 R520), a picture of the declared size is decoded and presented (12 R531 to R533), and the output is lost (12 R534). Where it goes
beyond the rules it rests on the model's readings: log entries 14, 27, 108, 110, 111, 137. -/
def Obligations.RiderAndDecodeCommandsComplete : Prop :=
  (∀ n kind idx s, s.consumerIn n kind idx = true → (kind < 2 → s.coresRun = true) → (s.core (coreKey n kind idx)).busy = none →
    exec (.riderRequest n kind idx) s =
      .next ((s.modCore (coreKey n kind idx) (fun c => { c with asking := true, awake := true })).riderServe n kind)) ∧
  (∀ n kind idx s, s.consumerIn n kind idx = true → (kind < 2 → s.coresRun = true) → (s.core (coreKey n kind idx)).busy = none →
    (s.rider n).queue kind = [] →
    exec (.riderRequest n kind idx) s = .next (s.modCore (coreKey n kind idx) (fun c => { c with asking := true, awake := true }))) ∧
  (∀ n kind idx o cons (it : Item) (u : State) s, s.consumerIn n kind idx = true → (s.core (coreKey n kind idx)).busy = some it → s.outputOk it o = true →
    u = (s.when (s.core (coreKey n kind idx)).traced (fun t => t.traceAdd n 1 kind (coreKey n kind idx) it)).modCore (coreKey n kind idx) (fun c => { c with busy := none, traced := false }) →
    (it.cls = .stemBand → exec (.riderItemComplete n kind idx o cons) s = .next ((u.bandDone it).riderServe n kind)) ∧
    (it.cls = .rendPart → exec (.riderItemComplete n kind idx o cons) s = .next ((u.partDone it o).riderServe n kind)) ∧
    (it.cls = .packaging → exec (.riderItemComplete n kind idx o cons) s = .next ((u.packDone it o).riderServe n kind)) ∧
    (it.cls = .rateUpdate → exec (.riderItemComplete n kind idx o cons) s = .next ((u.rateDone it).riderServe n kind)) ∧
    (it.cls = .backfill → exec (.riderItemComplete n kind idx o cons) s = .next ((u.jobPicture it (coreKey n kind idx) o cons).riderServe n kind)) ∧
    (it.cls = .decodePart ∨ it.cls = .control → exec (.riderItemComplete n kind idx o cons) s = .next (u.riderServe n kind))) ∧
  (∀ (it : Item) o p (s : State), (s.rend it.unit).hand.find? (fun p => p.frame == it.picture && p.field == it.field && p.released && p.unit.isNone) = some p →
    ∃ w ∈ ((s.packDone it o).rend it.unit).hand, w.frame = p.frame ∧ w.field = p.field ∧ ∃ fill, w.unit = some (o.unit ++ fill)) ∧
  (∀ n k it s, s.victim n = some k → (s.core k).busy = some it → n < s.riders.length →
    ∃ t, exec (.riderPreempt n) s = .next t ∧ (t.core k).busy = none ∧ (t.core k).asking = true ∧ (t.core k).stopAt = some s.nowNs ∧
      ((t.rider n).queue (classKind it.cls)).head? = some { it with resumed := true, atNs := s.nowNs }) ∧
  (∀ n kind idx s, s.consumerIn n kind idx = true → (kind < 2 → s.coresRun = true) →
    exec (.coreWake n kind idx) s = .next ((s.modCore (coreKey n kind idx) (fun c => { c with awake := true })).riderServe n kind)) ∧
  (∀ n s, exec (.riderRetry n) s = .next (State.riderServe (State.riderServe (State.riderServe
    (State.each (s.modRider n (fun r => { r with refused := [] })) (s.rider n).refused (fun t it => t.offer n it)) n 0) n 1) n 2)) ∧
  (∀ h u cons s, (s.job h).waitOut = some u →
    exec (.bfOutputRetry h cons) s = .next (State.riderServe
      (State.jobOutput (s.advanceTo (s.job h).retryNs) h u (s.job h).waitFlags (s.job h).waitSap cons) (s.job h).reach 0)) ∧
  (∀ h u flags sap w (s : State), (((s.job h).hostRing.consumed w).fits (unitForm ((s.job h).desc.codec == 3) ((s.job h).desc.flags.getLsbD 2) u).length) = false →
    ((s.jobOutput h u flags sap (some w)).job h).waitOut = some u ∧ ((s.jobOutput h u flags sap (some w)).job h).retryNs = s.nowNs + 1000000) ∧
  (∀ x (p : DecodedPicture) s, (s.ctx x).cfg.enable = 1 → s.coresRun = true → s.ctxFed x = true → p.codec = (s.ctx x).cfg.codec →
    decodes p.codec p.profile p.level = true → sizeFits (s.ctx x).cfg p = true → p.rap = true → p.rasl = false →
    ∃ t, exec (.decodePictureComplete x p) s = .next t ∧ (t.ctx x).ready = true ∧
      { (s.ctx x).repaired p with fromConcealed := p.fromConcealed || (s.ctx x).blockBad } ∈ (t.ctx x).dpb) ∧
  (∀ x p due s, firstOut (s.ctx x).dpb = some p → (s.ctx x).dueNs p = some due → (s.ctx x).cfg.enable = 1 → s.coresRun = true →
    ∃ t, exec (.decodePresent x) s = .next t ∧ (t.ctx x).dpb = (s.ctx x).dpb.erase p ∧ (t.ctx x).frame = (s.ctx x).frame + 1 ∧
      (t.ctx x).showConcealed = picConcealed p ∧ t.time = (s.advanceTo due).time) ∧
  (∀ x s, (s.ctx x).cfg.enable = 1 → (s.ctx x).cfg.output ≠ 0xFFFF → (s.src (s.ctx x).cfg.output).signal = true →
    ∃ t, exec (.decodeOutputLoss x) s = .next t ∧ (t.ctx x).ready = false ∧ (t.src (s.ctx x).cfg.output).signal = false ∧
      t.stands almSrcLoss (s.ctx x).cfg.output = true ∧ t.time = (s.advanceTo ((s.ctx x).sinceNs + 100000000)).time)

/-- The commands of the compositor, the frame store and the Culvert channels have the effect of their rules: a head begins a frame with the newest
frames of its video layers, and completes, signs and delivers its composed picture (13 R548, R556, R574); a line is read back (13 R578); an
erroneous symbol is corrected, and two found by the scrubber poison their block (14 R589 to R592); channels arm, reach their half, complete, fail
and abort (14 R605 to R612); REMAP is set (14 R614); with no request outstanding an access to the default target is answered with an error and
counted (14 R615); a scrub pass ends, refreshes are postponed and forced, panic begins and ends, a starved port costs its reader's line or its
writer's frame (14 R591, R594, R597, R599); playout posts take effect, their slots fall free, and a captured frame goes to the next slot
(14 R586 to R588). Where it goes
beyond the rules it rests on the model's readings: log entries 12, 14, 29, 30, 117, 118, 119, 121, 122, 123, 127, 136, 137, 139, 149, 150, 152, 170. -/
def Obligations.CompositorAndMemoryCommandsComplete : Prop :=
  (∀ h peaks s, h < 2 → h < s.heads.length → s.headRuns h = true → (s.paired = true → h = 0) → tabWf (fun _ => LayerSt.reset) s.layers = true →
    ∃ t, exec (.headFrameStart h peaks) s = .next t ∧ (t.head h).running = true ∧
      (∀ l, layerHead l = h → isGraphic l = false → (s.layer l).video.enable = 1 → (s.src (s.layer l).video.src).signal = true →
        (t.layer l).srcFrame = (s.src (s.layer l).video.src).newest)) ∧
  (∀ h s, h < 2 → h < s.heads.length → (s.head h).running = true →
    ∃ t, exec (.headFrameComplete h) s = .next t ∧ (t.head h).signed = true ∧
      (t.head h).sig = headSignature (s.head h).freeze (headFmt (s.head h).cfg) (s.composed h ((s.head h).freeze.flags.getLsbD 0)) ∧
      (t.src (1088 + h)).signal = true ∧ (t.src (1088 + h)).newest = (s.src (1088 + h)).newest + 1 ∧
      (t.src (1088 + h)).fmt = headFmt (s.head h).cfg ∧ (t.src (1088 + h)).pic = .taken (headFmt (s.head h).cfg) (s.composed h false)) ∧
  (∀ v s, s.hostLink = true → v.getLsbD 0 = true → isRill (scanEntry (s.head (v.toNat / 2 % 2)).cfg (v.toNat / 4 % 4)) = true →
    ∃ t, exec (.readbackArm v) s = .next t ∧ t.readback.arm = true ∧ t.readback.done = false ∧ t.readback.line = v.toNat / 16 % 8192) ∧
  (∀ v s, s.hostLink = true → v.getLsbD 0 = true → isRill (scanEntry (s.head (v.toNat / 2 % 2)).cfg (v.toNat / 4 % 4)) = false →
    ∃ t, exec (.readbackArm v) s = .next t ∧ t.readback.arm = false ∧ t.readback.invalid = true) ∧
  (∀ words s, s.readback.arm = true → s.headRuns s.readback.head = true → isRill (scanEntry (s.head s.readback.head).cfg s.readback.slot) = true →
    words.length = 256 →
    ∃ t, exec (.readbackCapture words) s = .next t ∧ t.readback.arm = false ∧ t.readback.done = true ∧
      t.readback.words = words.map (BitVec.ofNat 10)) ∧
  (∀ (e : DramError) s, e.addr / reachSpan < 4 → reachFitted s.fused.part (e.addr / reachSpan) = true → s.memActive (e.addr / reachSpan) = true →
    e.content ≤ 5 → e.symbols = 1 →
    ∃ t, exec (.dramReadError e) s = .next t ∧ t.cnt cntDramCorrected (stackOf e.addr) = min counterMax (s.cnt cntDramCorrected (stackOf e.addr) + 1) ∧
      t.dram = s.dram) ∧
  (∀ (e : DramError) s, e.addr / reachSpan < 4 → reachFitted s.fused.part (e.addr / reachSpan) = true → s.memActive (e.addr / reachSpan) = true →
    e.content ≤ 5 → e.symbols = 2 → e.reader = .scrubber → stackOf e.addr < s.dramStacks.length →
    ∃ t, exec (.dramReadError e) s = .next t ∧ blockBase e.addr ∈ (t.stack (stackOf e.addr)).poisoned ∧
      (e.cured = false → { holder := none, elem := .dramRow, reach := e.addr / reachSpan, row := rowOf e.addr } ∈ t.repair.pending)) ∧
  (∀ c s, c < 8 → c < s.culverts.length → s.hostLink = true → s.usable .culvert c = true → (s.culvert c).armed = false → (s.culvert c).active = none →
    (s.culvert c).stkError = false →
    ∃ t, exec (.culvertArm c) s = .next t ∧
      (s.culvertCheck (s.culvert c).shadow ≠ 0 → (t.culvert c).stkError = true ∧ (t.culvert c).error = s.culvertCheck (s.culvert c).shadow ∧
        (t.culvert c).active = none) ∧
      (s.culvertCheck (s.culvert c).shadow = 0 → (s.culvert c).shadow.length ≠ 0 → (t.culvert c).active = some (s.culvert c).shadow ∧
        (t.culvert c).armed = false ∧ (t.culvert c).done = 0) ∧
      (s.culvertCheck (s.culvert c).shadow = 0 → (s.culvert c).shadow.length = 0 → (t.culvert c).active = none ∧ (t.culvert c).full = true ∧
        (t.culvert c).zero = true ∧ (t.culvert c).count = (s.culvert c).count + 1)) ∧
  (∀ c x s, c < 8 → s.hostLink = true → s.present .culvert c = true → (s.culvert c).armed = false → (s.culvert c).active = some x →
    exec (.culvertArm c) s = .next (s.modCulvert c (fun y => { y with armed := true }))) ∧
  (∀ c s, c < 8 → s.hostLink = true → s.present .culvert c = true → (s.culvert c).armed = true →
    exec (.culvertArm c) s = .next (s.modCulvert c (fun y => { y with overrun := true }))) ∧
  (∀ c x s, c < 8 → s.hostLink = true → s.present .culvert c = true → (s.culvert c).active = some x →
    exec (.culvertAbort c) s = .next (s.modCulvert c (fun y => { y with armed := false, aborting := true }))) ∧
  (∀ c s, c < 8 → c < s.culverts.length → s.hostLink = true → s.present .culvert c = true → (s.culvert c).active = none →
    ∃ t, exec (.culvertAbort c) s = .next t ∧ (t.culvert c).aborted = true ∧ (t.culvert c).armed = false ∧ t.ints.cause.getLsbD (12 + c) = true) ∧
  (∀ c s, c < 8 → s.hostLink = true → s.present .culvert c = true → (s.culvert c).stkError = true → (s.culvert c).armed = false →
    exec (.culvertErrorClear c) s = .next (s.modCulvert c (fun y => { y with stkError := false, error := 0 }))) ∧
  (∀ c x s, c < s.culverts.length → (s.culvert c).active = some x → 2 ≤ x.length.toNat → (s.culvert c).done.toNat < x.length.toNat / 2 →
    ∃ t, exec (.culvertHalf c) s = .next t ∧ (t.culvert c).half = true ∧ (t.culvert c).done.toNat = x.length.toNat / 2 ∧
      (t.culvert c).active = some x) ∧
  (∀ c data x s, c < s.culverts.length → (s.culvert c).active = some x → (s.culvert c).aborting = false → (s.culvert c).armed = false →
    s.culvertClean x data = true →
    ∃ t, exec (.culvertComplete c data) s = .next t ∧ (t.culvert c).active = none ∧ (t.culvert c).full = true ∧ (t.culvert c).done = x.length ∧
      (t.culvert c).count = (s.culvert c).count + 1 ∧
      (x.dir.toNat = 0 → ∀ i, i < data.length → t.dramByte (x.dst.toNat + i) = data.getD i 0) ∧
      (x.dir.toNat = 2 → ∀ i, i < x.length.toNat → t.dramByte (x.dst.toNat + i) = s.dramByte (x.src.toNat + i)) ∧
      (x.dir.toNat = 1 → t.dram = s.dram ∧
        (∀ p ∈ hostPieces (x.length.toNat + 1) x.dst.toNat (s.dramRead x.src.toNat x.length.toNat), .hostWrite p.1 p.2 ∈ t.out) ∧
        .hostFlush (x.dst.toNat + x.length.toNat - 1) ∈ t.out)) ∧
  (∀ c code done x s, c < s.culverts.length → (s.culvert c).active = some x → code = 2 ∧ x.dir.toNat = 0 ∨ code = 3 ∨ code = 4 ∧ x.dir.toNat = 1 →
    done ≤ x.length.toNat →
    ∃ t, exec (.culvertError c code done) s = .next t ∧ (t.culvert c).stkError = true ∧ (t.culvert c).error = code ∧ (t.culvert c).active = none ∧
      (t.culvert c).done.toNat = done) ∧
  (∀ c done x s, c < s.culverts.length → (s.culvert c).active = some x → (s.culvert c).aborting = true → done ≤ x.length.toNat →
    ∃ t, exec (.culvertAbortComplete c done) s = .next t ∧ (t.culvert c).aborted = true ∧ (t.culvert c).aborting = false ∧
      (t.culvert c).active = none ∧ (t.culvert c).done.toNat = done) ∧
  (∀ s, exec .remapSet s = .next { s with remap := true }) ∧
  (∀ q s, s.busReqs = [] → busError s.remap q = true →
    ∃ t, exec (.busDefaultAccess q) s = .next t ∧ t.busReqs = [] ∧ t.cnt cntBusDefault 0 = min counterMax (s.cnt cntBusDefault 0 + 1)) ∧
  (∀ q s, s.busReqs = [] → busError s.remap q = false → exec (.busDefaultAccess q) s = .next s) ∧
  (∀ k s, k < 8 → k < s.dramStacks.length → reachFitted s.fused.part (k / 2) = true → s.memActive (k / 2) = true →
    ∃ t, exec (.scrubPassComplete k) s = .next t ∧ (t.stack k).scrubbed = 0 ∧ (t.stack k).scrubNs = s.nowNs) ∧
  (∀ k bank s, k < 8 → reachFitted s.fused.part (k / 2) = true → s.memActive (k / 2) = true →
    tget (fun _ => 0) (s.stack k).postponed bank < 8 →
    exec (.refreshDue k bank true) s = .next (s.modStack k (fun x =>
      { x with postponed := tset (fun _ => 0) x.postponed bank (tget (fun _ => 0) (s.stack k).postponed bank + 1) }))) ∧
  (∀ k bank s, k < 8 → reachFitted s.fused.part (k / 2) = true → s.memActive (k / 2) = true → 8 ≤ tget (fun _ => 0) (s.stack k).postponed bank →
    ∃ t, exec (.refreshDue k bank true) s = .next t ∧ t.cnt cntRefreshForced k = min counterMax (s.cnt cntRefreshForced k + 1)) ∧
  (∀ n port writer fill s, n < 4 → reachFitted s.fused.part n = true → s.memActive n = true → (s.reachMem n).panic.contains port = false →
    (writer = true → 75 < fill) → (writer = false → fill < 25) →
    exec (.panicEnter n port writer fill) s = .next ((s.modReachMem n (fun x => { x with panic := port :: x.panic })).count cntDramPanic n 1)) ∧
  (∀ n port writer fill s, (writer = true → fill ≤ 50) → (writer = false → 50 ≤ fill) →
    exec (.panicLeave n port writer fill) s = .next (s.modReachMem n (fun x => { x with panic := x.panic.filter (· != port) }))) ∧
  (∀ n port s, n < 4 → n < s.rmem.length → reachFitted s.fused.part n = true → s.memActive n = true →
    ∃ t, exec (.rtStarved n port) s = .next t ∧ t.stands almRtStarved n = true ∧ (t.reachMem n).starvedNs = some s.nowNs ∧
      (∀ d line first, port = .reader (.dst d) line first → restBlack line first ∈ (t.dst d).patches) ∧
      (∀ l line first, port = .reader (.layer l) line first → restBlack line first ∈ (t.layer l).patches) ∧
      (∀ k, port = .writer k → (t.src k).spoiled = true)) ∧
  (∀ k slot n rest s, (s.src k).posts = (slot, n) :: rest → slot ≠ 0xFF →
    ∃ t, exec (.playoutPostTime k) s = .next t ∧ (t.src k).posts = rest ∧ (t.src k).playSlot = some slot ∧ (t.src k).signal = true ∧
      t.time = (s.advanceTo n).time) ∧
  (∀ k n rest s, (s.src k).posts = (0xFF, n) :: rest →
    ∃ t, exec (.playoutPostTime k) s = .next t ∧ (t.src k).posts = rest ∧ (t.src k).playSlot = none ∧ (t.src k).signal = false ∧
      t.time = (s.advanceTo n).time) ∧
  (∀ k slot s, isPlayout k = true → s.slotBusy k slot = true → (s.src k).playSlot ≠ some slot → (∀ p ∈ (s.src k).posts, p.1 ≠ slot) →
    s.slotRead k slot = false →
    ∃ t, exec (.playoutSlotFree k slot) s = .next t ∧ (t.src k).slots = (s.src k).slots &&& ~~~BitVec.ofNat 8 (2 ^ slot)) ∧
  (∀ d k s, isCapture d = true → s.dstRuns d = true → nextSlot (s.dst d).capLast (s.dst d).capHeld = some k →
    ∃ t, exec (.captureFrameWritten d) s = .next t ∧ (t.dst d).capLast = k ∧ (t.dst d).capSeq = (s.dst d).capSeq + 1 ∧
      (t.dst d).capHeld = (s.dst d).held) ∧
  (∀ d s, isCapture d = true → s.dstRuns d = true → nextSlot (s.dst d).capLast (s.dst d).capHeld = none →
    exec (.captureFrameWritten d) s = .next ((s.count cntCaptureDrop d 1).modDst d (fun y => { y with capHeld := y.held })))

/-- SET on Src, Dst, AudioPort, EthPort and Plane, and READ of the queue samples with the clear bit, take effect at once and answer OK: a
format stands in its unrouted source, a generator's settings stand, or wait for the frame that it makes, a probe's settings stand; a playout
slot is posted for its time, or after the posts before it, and the end of playout takes the source's signal; the held capture slots stand, at
once in force where the destination does not run; the settings of an audio port, an Ethernet port, a PTP port and a plane's diagnosis stand;
the samples of a queue are answered and cleared (03 R150, R151; 04 R208; 05 R223, R224; 07 R304, R329; 08 R357, R365; 14 R586 to R588). Where it goes
beyond the rules it rests on the model's readings: log entries 124, 128, 133, 147, 148. -/
def Obligations.TransportSettingsComplete : Prop :=
  (∀ r s (f : Fmt) rate, r.accepted specSetSrcFormat s → f = decFmt r.block → within r.index 1090 1151 = true → (s.taking r).srcMember r.index = false →
    rate = (if (s.taking r).srcDomain r.index ≠ 0xFF ∧ (s.taking r).domainOn ((s.taking r).srcDomain r.index) = true then
      ((s.taking r).domain ((s.taking r).srcDomain r.index)).rate else 0) →
    checkFormat f true (rateNum rate) (rateDen rate) = none → (rate ≠ 0 → rasterAllows f.raster rate = true) → r.index % f.gang = 0 → r.index + f.gang ≤ (if r.index < 1114 then 1114 else 1152) →
    (s.taking r).srcRouted r.index = false →
    exec (.setSrcFormat r) s = .next (((s.taking r).modSrc r.index (fun x => { x with fmt := f })).reply 0x02 r (okWith []))) ∧
  (∀ r s (g : GenCfg), r.accepted specSetSrcGenerator s → g = decGenCfg r.block → isGenerator r.index = true → (s.taking r).srcMember r.index = false → g.pattern ≤ 4 ∨ g.pattern = 0xFF →
    1 ≤ g.domain → g.domain ≤ 8 →
    exec (.setSrcGenerator r) s = .next (((s.taking r).modSrc r.index (fun x =>
      if x.making = .empty then { x with gen := g, genNext := none } else { x with genNext := some g })).reply 0x02 r (okWith []))) ∧
  (∀ r s, r.accepted specSetDstProbe s → (s.taking r).dstMember r.index = false → probeOk (decProbeCfg r.block) ((s.taking r).dstFmt r.index) = true →
    exec (.setDstProbe r) s = .next (((s.taking r).modDst r.index (fun x => { x with probe := decProbeCfg r.block })).reply 0x02 r (okWith []))) ∧
  (∀ r s, r.accepted specSetSrcPlayoutPost s → isPlayout r.index = true → (s.taking r).srcMember r.index = false → u8 r.block 1 < 4 →
    u64 r.block 8 ≤ (s.taking r).nowNs + 10000000000 → ((s.taking r).src r.index).slots.getLsbD (u8 r.block 1) = false →
    (((s.taking r).src r.index).posts ≠ [] ∨ (s.taking r).nowNs < u64 r.block 8) →
    ∃ t : State, exec (.setSrcPlayoutPost r) s = .next (t.reply 0x02 r (okWith [])) ∧
      (t.src r.index).slots = ((s.taking r).src r.index).slots ||| BitVec.ofNat 8 (2 ^ u8 r.block 1) ∧
      (t.src r.index).posts = ((s.taking r).src r.index).posts ++
        [(u8 r.block 1, ((s.taking r).src r.index).posts.foldl (fun m p => max m p.2) (max (u64 r.block 8) (s.taking r).nowNs))]) ∧
  (∀ r s, r.accepted specSetSrcPlayoutPost s → isPlayout r.index = true → (s.taking r).srcMember r.index = false → u8 r.block 1 = 0xFF →
    u64 r.block 8 ≤ (s.taking r).nowNs → ((s.taking r).src r.index).posts = [] →
    exec (.setSrcPlayoutPost r) s = .next ((((s.taking r).modSrc r.index (fun x => { x with playSlot := none })).loseSource r.index).reply 0x02 r (okWith []))) ∧
  (∀ r s, r.accepted specSetDstCaptureHold s → isCapture r.index = true → (s.taking r).dstMember r.index = false → u8 r.block 1 ≤ 15 →
    ∃ t : State, exec (.setDstCaptureHold r) s = .next (t.reply 0x02 r (okWith [])) ∧ (t.dst r.index).held = BitVec.ofNat 8 (u8 r.block 1) ∧
      ((s.taking r).dstRuns r.index = false → (t.dst r.index).capHeld = BitVec.ofNat 8 (u8 r.block 1))) ∧
  (∀ r s (n : AudioPortCfg), r.accepted specSetAudioPort s → n = decAudioPortCfg r.block → n.enable = 1 → ((s.taking r).aport r.index).cfg.enable ≠ 1 →
    aportOk r.index n = true →
    ∃ t : State, exec (.setAudioPort r) s = .next (t.reply 0x02 r (okWith [])) ∧ (t.aport r.index).cfg = n) ∧
  (∀ r s (n : AudioPortCfg), r.accepted specSetAudioPort s → n = decAudioPortCfg r.block → n.enable = 0 → n.domain ≤ 8 →
    ∃ t : State, exec (.setAudioPort r) s = .next (t.reply 0x02 r (okWith [])) ∧ (t.aport r.index).cfg = n ∧ t.stands almPortClock r.index = false) ∧
  (∀ r s (n : PortCfg) x, r.accepted specSetEthPort s → n = decPortCfg r.block → portOk n = true → ((s.taking r).port r.index).cfg.enable ≠ 1 → n.enable = 1 →
    portConfig n.config = some x → (∀ i, i < x.1 → (s.taking r).present .flume (portLane r.index + i) = true) → r.index % 8 % x.2.2 = 0 →
    (s.taking r).slotTaken r.index n.config = false →
    ∃ t : State, exec (.setEthPort r) s = .next (t.reply 0x02 r (okWith [])) ∧ (t.port r.index).cfg = n ∧ (t.port r.index).state ≠ .disabled) ∧
  (∀ r s (n : PortCfg), r.accepted specSetEthPort s → n = decPortCfg r.block → portOk n = true → n.enable = 0 →
    ∃ t : State, exec (.setEthPort r) s = .next (t.reply 0x02 r (okWith [])) ∧ (t.port r.index).cfg = n ∧ (t.port r.index).state = .disabled) ∧
  (∀ r s (n : PtpCfg), r.accepted specSetEthPortPtp s → n = decPtpCfg r.block → n.domainNumber ≤ 127 → -7 ≤ n.logDelay → n.logDelay ≤ 0 →
    2 ≤ n.announceTimeout → n.announceTimeout ≤ 10 → (n.role % 2 = 0 ∨ ∀ i, i < 32 → 32 * portPlane r.index + i ≠ r.index → ((s.taking r).port (32 * portPlane r.index + i)).ptp.role % 2 = 0) →
    (n.role = 0 ∨ ((s.taking r).port r.index).cfg.hasIp (n.flags.getLsbD 0) = true) →
    ∃ t : State, exec (.setEthPortPtp r) s = .next (t.reply 0x02 r (okWith [])) ∧ (t.port r.index).ptp = n) ∧
  (∀ r s, r.accepted specSetPlaneDiagnosis s → (s.taking r).planes.length = 2 → (decDiagCfg r.block).fomMargin ≤ 200 → 1 ≤ (decDiagCfg r.block).fecLimit →
    (decDiagCfg r.block).fecLimit ≤ 1000000000 → 50 ≤ (decDiagCfg r.block).ptpTimeoutMs → (decDiagCfg r.block).ptpTimeoutMs ≤ 5000 →
    ∃ t : State, exec (.setPlaneDiagnosis r) s = .next (t.reply 0x02 r (okWith [])) ∧ (t.plane r.index).diag = decDiagCfg r.block) ∧
  (∀ r s, r.accepted specReadQueueSamples s → u8 r.block 1 = 1 → (sampleBlock ((s.taking r).queue r.index)).length ≤ replyRoom r →
    ∃ t : State, exec (.readQueueSamples r) s = .next (t.reply 0x13 r (okWith (sampleBlock ((s.taking r).queue r.index)))) ∧
      (t.queue r.index).samples = 0 ∧ (t.queue r.index).depthMax = 0 ∧ (t.queue r.index).delayMax = 0 ∧
      (t.queue r.index).depthHist = QueueSt.reset.depthHist ∧ (t.queue r.index).delayHist = QueueSt.reset.delayHist)

/-- SET and WRITE on Lane take effect at once and answer OK (06 R265, R271 to R273, R276, R285 to R289, R291, R294 to R296): the settings of
the transmitter, the receiver, the trims, the test tools (without the bit that clears the checker), the eye scan, the binding of an I2C bus and
the rate hooks stand, and a transaction joins the queue of its bus and is answered with its number. Where it goes
beyond the rules it rests on the model's readings: log entries 51, 94, 129. -/
def Obligations.LaneSettingsComplete : Prop :=
  (∀ r s, r.accepted (specSetLaneTransmit r.index) s → 256 ≤ r.index → (decRillTx r.block).deemph ≤ 3 → (decRillTx r.block).swing ≤ 3 →
    exec (.setLaneTransmit r) s = .next (((s.taking r).modLane r.index (fun l => { l with rtx := decRillTx r.block })).reply 0x02 r (okWith []))) ∧
  (∀ r s, r.accepted (specSetLaneTransmit r.index) s → r.index < 128 → flumeTxOk (decFlumeTx r.block) = true →
    ((decFlumeTx r.block).flags.getLsbD 2 = false ∧ (decFlumeTx r.block).flags.getLsbD 3 = false ∨ ((s.taking r).lane r.index).mode = 0 ∨
      3 < ((s.taking r).lane r.index).mode) →
    ((s.taking r).lanePort r.index = none ∨ (decFlumeTx r.block).flags = ((s.taking r).lane r.index).tx.flags) →
    exec (.setLaneTransmit r) s = .next (((s.taking r).modLane r.index (fun l => { l with tx := decFlumeTx r.block, txSet := true })).reply 0x02 r (okWith []))) ∧
  (∀ r s (x : LaneRx), r.accepted (specSetLaneReceive r.index) s → x = decLaneRx r.block → r.index < 256 → x.ctleMode ≤ 1 → x.ctleStep ≤ 15 →
    (if x.flags.getLsbD 1 = true then 128 ≤ r.index ∧ 1 ≤ x.rillRate ∧ x.rillRate ≤ 9 else x.rillRate = 0) →
    ∃ t : State, exec (.setLaneReceive r) s = .next (t.reply 0x02 r (okWith [])) ∧ (t.lane r.index).rx = x) ∧
  (∀ r s, r.accepted (specSetLaneAsymmetry r.index) s → r.index < 128 →
    exec (.setLaneAsymmetry r) s = .next (((s.taking r).modLane r.index (fun l => { l with trim := decLaneTrim r.block })).reply 0x02 r (okWith []))) ∧
  (∀ r s, r.accepted (specSetLaneTestTools r.index) s → toolsOk r.index (decLaneTools r.block) ((s.taking r).rateOf r.index) = true →
    ∃ t : State, exec (.setLaneTestTools r) s = .next (t.reply 0x02 r (okWith [])) ∧
      (t.lane r.index).tools = { decLaneTools r.block with flags := (decLaneTools r.block).flags &&& 0x03 }) ∧
  (∀ r s, r.accepted (specSetLaneEyeScan r.index) s → r.index < 256 → eyeOk r.index ((s.taking r).lane r.index).toolRate (decEyeScan r.block) = true →
    exec (.setLaneEyeScan r) s = .next (((s.taking r).modLane r.index (fun l => { l with eye := some (decEyeScan r.block) })).reply 0x02 r (okWith []))) ∧
  (∀ r s, r.accepted (specSetLaneI2cBind r.index) s → 128 ≤ r.index → (decI2cBind r.block).bus ≤ 1 → (decI2cBind r.block).address ≤ 127 →
    (decI2cBind r.block).speed ≤ 2 →
    exec (.setLaneI2cBind r) s = .next (((s.taking r).modLane r.index (fun l => { l with bind := decI2cBind r.block })).reply 0x02 r (okWith []))) ∧
  (∀ r s (b : I2cBind), r.accepted (specWriteLaneI2c r.index) s → b = ((s.taking r).lane r.index).bind → 128 ≤ r.index → u8 r.block 1 ≤ 32 → u8 r.block 2 ≤ 12 →
    b.address ≠ 0 → 4 ≤ replyRoom r → (((s.taking r).bus b.bus).queue.filter (fun x => !x.hook)).length < 16 → b.bus < (s.taking r).buses.length →
    ∃ t : State, exec (.writeLaneI2c r) s = .next (t.reply 0x14 r (okWith (le 2 ((s.taking r).bus b.bus).next.toNat ++ [0, 0]))) ∧
      (t.bus b.bus).next = ((s.taking r).bus b.bus).next + 1 ∧
      (t.bus b.bus).queue = ((s.taking r).bus b.bus).queue ++
        [{ lane := r.index, number := ((s.taking r).bus b.bus).next.toNat, write := (r.block.drop 4).take (u8 r.block 1), rlen := u8 r.block 2,
           flags := BitVec.ofNat 8 (u8 r.block 3), hook := false, address := b.address, speed := b.speed }]) ∧
  (∀ r s, r.accepted (specSetLaneRateHooks r.index) s → 128 ≤ r.index → (decRateHooks r.block).countSd ≤ 4 → (decRateHooks r.block).countHd ≤ 4 →
    exec (.setLaneRateHooks r) s = .next (((s.taking r).modLane r.index (fun l => { l with hooks := decRateHooks r.block })).reply 0x02 r (okWith [])))

/-- SET on RefInput, Timebase and Trigger take effect at once and answer OK (09 R381, R390, R402, R403, R409, R418, R419): the block's
settings stand, those of the timebase also saved; a reference turned off ends its failure alarm, and mode 1 puts Headgate in manual; a written
phase of zero changes nothing, another is added to what is left to slew or steps the device time, and a written time is the device time; a trigger
has its first instant and its output low. Where it goes
beyond the rules it rests on the model's readings: log entry 104. -/
def Obligations.TimingSettingsComplete : Prop :=
  (∀ r s, r.accepted specSetRefInput s → (s.taking r).refs.length = 8 → (s.taking r).refOk r.index (decRefCfg r.block) = true →
    ∃ t : State, exec (.setRefInput r) s = .next (t.reply 0x02 r (okWith [])) ∧ (t.ref r.index).cfg = decRefCfg r.block ∧
      ((decRefCfg r.block).priority = 0 → t.stands almRefFail r.index = false)) ∧
  (∀ r s, r.accepted specSetTimebase s → timebaseOk (decTimebaseCfg r.block) = true →
    ∃ t : State, exec (.setTimebase r) s = .next (t.reply 0x02 r (okWith [])) ∧ t.hg.cfg = decTimebaseCfg r.block ∧
      t.saved.timebase = some (decTimebaseCfg r.block) ∧ ((decTimebaseCfg r.block).mode = 1 → t.hg.state = .manual)) ∧
  (∀ r s, r.accepted specSetTimebasePhase s → u8 r.block 1 = 1 → s64 r.block 8 ≠ 0 → -10000000 ≤ s64 r.block 8 → s64 r.block 8 ≤ 10000000 →
    exec (.setTimebasePhase r) s = .next (State.reply
      { s.taking r with hg := { (s.taking r).hg with slewLeft := (s.taking r).hg.slewLeft + s64 r.block 8 } } 0x02 r (okWith []))) ∧
  (∀ r s, r.accepted specSetTimebasePhase s → s64 r.block 8 = 0 →
    exec (.setTimebasePhase r) s = .next ((s.taking r).reply 0x02 r (okWith []))) ∧
  (∀ r s, r.accepted specSetTimebasePhase s → u8 r.block 1 = 0 → s64 r.block 8 ≠ 0 → (s.taking r).ptpHeld = false →
    exec (.setTimebasePhase r) s = .next (((s.taking r).writtenStep (s64 r.block 8)).reply 0x02 r (okWith []))) ∧
  (∀ r s, r.accepted specSetTimebaseAbsolute s → u32 r.block 4 < 1000000000 → (s.taking r).ptpHeld = false →
    ∃ t : State, exec (.setTimebaseAbsolute r) s = .next (t.reply 0x02 r (okWith [])) ∧
      t.nowNs = u64 r.block 8 * 1000000000 + u32 r.block 4) ∧
  (∀ r s (n : TrigCfg), r.accepted specSetTrigger s → n = decTrigCfg r.block → 16 ≤ r.index → (s.taking r).trigOk n = true →
    (n.kind = 0 ∨ ∀ e ∈ (s.taking r).trigs, e.1 = r.index ∨ e.2.cfg.kind = 0 ∨ e.2.cfg.targets &&& n.targets &&& 0x0F = 0) →
    ∃ t : State, exec (.setTrigger r) s = .next (t.reply 0x02 r (okWith [])) ∧ (t.trig r.index).cfg = n ∧
      (t.trig r.index).next = (s.taking r).trigFirst n ∧ (t.trig r.index).highUntil = 0)

/-- SUBMIT, CANCEL and SET on Job, SET and WRITE on Head and Layer (12 R515, R522, R523, R525; 13 R560, R574): a job is accepted
under its handle, a running job is marked to be cancelled and a handle without a job is unknown; the trace and the freeze detector take their
settings, the sticky bit clears where the block asks for it, and a rectangle of one surface buffer that is not shown is written. Where it goes
beyond the rules it rests on the model's readings: log entries 107, 108. -/
def Obligations.JobAndHeadCommandsComplete : Prop :=
  (∀ r s, r.accepted specSubmitJob s → (s.taking r).jobFail r.index (jobOf r.block) = none →
    exec (.submitJob r) s = .next (((s.taking r).jobAccept r.index (carrierOwner r) (jobOf r.block)).reply 0x10 r {})) ∧
  (∀ r s, r.accepted specCancelJob s → ((s.taking r).job r.index).used = true → ((s.taking r).job r.index).running = true →
    (carrierOwner r = ((s.taking r).job r.index).owner ∨ carrierOwner r = 0xFF) →
    exec (.cancelJob r) s = .next (((s.taking r).modJob r.index (fun x => { x with cancel := true })).reply 0x05 r {})) ∧
  (∀ r s, r.accepted specCancelJob s → ((s.taking r).job r.index).used = false →
    exec (.cancelJob r) s = .next ((s.taking r).reply 0x05 r (fail stUnknown 0))) ∧
  (∀ r s, r.accepted specSetJobTrace s → u8 r.block 2 ≤ 10 →
    exec (.setJobTrace r) s = .next (State.reply
      { s.taking r with riderDev := { traceOn := decide (u8 r.block 1 = 1), sampleLog2 := u8 r.block 2, reaches := BitVec.ofNat 4 (u8 r.block 3) } } 0x02 r {})) ∧
  (∀ r s, r.accepted specSetHeadFreeze s → (decFreezeCfg r.block).coarse ≤ 6 →
    exec (.setHeadFreeze r) s = .next (((s.taking r).modHead r.index (fun x => { x with freeze := decFreezeCfg r.block })).reply 0x02 r (okWith []))) ∧
  (∀ r s, r.accepted specSetHeadStickyClear s → u8 r.block 1 % 2 = 1 →
    exec (.setHeadStickyClear r) s = .next (((s.taking r).modHead r.index (fun x => { x with degraded := false })).reply 0x02 r (okWith []))) ∧
  (∀ r s, r.accepted specSetHeadStickyClear s → u8 r.block 1 % 2 = 0 →
    exec (.setHeadStickyClear r) s = .next ((s.taking r).reply 0x02 r (okWith []))) ∧
  (∀ r s, r.accepted specWriteLayerSurface s → isGraphic r.index = true → ((s.taking r).layer r.index).graphic.kind ≠ 1 → u8 r.block 1 ≤ 1 →
    u16 r.block 4 + u16 r.block 8 ≤ 3840 → u16 r.block 6 + u16 r.block 10 ≤ 2160 → 4 * u16 r.block 8 ≤ u32 r.block 12 →
    16 + u16 r.block 10 * u32 r.block 12 ≤ r.block.length → (s.taking r).bufferShown r.index (u8 r.block 1) = false →
    ∃ t : State, exec (.writeLayerSurface r) s = .next (t.reply 0x14 r (okWith [])) ∧
      (u8 r.block 1 = 0 → (t.layer r.index).surface0 = writeRect ((s.taking r).layer r.index).surface0 r.block (u16 r.block 4) (u16 r.block 6)
          (u16 r.block 8) (u16 r.block 10) (u32 r.block 12) ∧ (t.layer r.index).surface1 = ((s.taking r).layer r.index).surface1) ∧
      (u8 r.block 1 = 1 → (t.layer r.index).surface1 = writeRect ((s.taking r).layer r.index).surface1 r.block (u16 r.block 4) (u16 r.block 6)
          (u16 r.block 8) (u16 r.block 10) (u32 r.block 12) ∧ (t.layer r.index).surface0 = ((s.taking r).layer r.index).surface0))

/-- The Gauge units (14 R619 to R622): a polynomial loads its initial value; data, given or fed from a host window, run through it; the
running value is written; finalisation answers the result, loads the initial value and reports a comparison that fails. Where it goes
beyond the rules it rests on the model's readings: log entries 125, 126. -/
def Obligations.GaugeCommandsComplete : Prop :=
  (∀ r s p, r.accepted specSetGauge s → polyOf (decGaugeCfg r.block).poly = some p → ((s.taking r).gauge r.index).fed = false →
    exec (.setGauge r) s = .next (((s.taking r).modGauge r.index (fun g =>
      { g with cfg := decGaugeCfg r.block, value := BitVec.ofNat 32 p.init })).reply 0x02 r (okWith []))) ∧
  (∀ r s, r.accepted specWriteGaugeData s → ((s.taking r).gauge r.index).fed = false →
    (((s.taking r).gauge r.index).cfg.poly = 2 → r.block.length % 2 = 0) →
    exec (.writeGaugeData r) s = .next (((s.taking r).modGauge r.index (fun g =>
      { g with value := BitVec.ofNat 32 (polyRun g.poly g.value.toNat (r.block.drop 8)) })).reply 0x14 r (okWith []))) ∧
  (∀ r s, r.accepted specSetGaugeFeed s → (s.taking r).inWindow (u64 r.block 8) (u64 r.block 16) = true → 0 < u64 r.block 16 →
    ((s.taking r).gauge r.index).fed = false → (((s.taking r).gauge r.index).cfg.poly = 2 → u64 r.block 16 % 2 = 0) →
    exec (.setGaugeFeed r) s = .next (((s.taking r).modGauge r.index (fun g =>
      { g with feed := some (u64 r.block 8, u64 r.block 16) })).reply 0x02 r (okWith []))) ∧
  (∀ u a n s, (s.gauge u).feed = some (a, n) → s.memActive (a / reachSpan) = true → s.usable .gauge u = true →
    ∃ t : State, exec (.gaugeFeedComplete u) s = .next t ∧ (t.gauge u).feed = none ∧
      (t.gauge u).value = BitVec.ofNat 32 (polyRun (s.gauge u).poly (s.gauge u).value.toNat (s.dramRead a n))) ∧
  (∀ r s, r.accepted specSetGaugeValue s → ((s.taking r).gauge r.index).fed = false →
    exec (.setGaugeValue r) s = .next (((s.taking r).modGauge r.index (fun g =>
      { g with value := BitVec.ofNat 32 (u32 r.block 4 % 2 ^ ((s.taking r).gauge r.index).poly.width) })).reply 0x02 r (okWith []))) ∧
  (∀ r s (g : GaugeSt), r.accepted specSetGaugeFinalise s → g = (s.taking r).gauge r.index → g.fed = false → 4 ≤ replyRoom r →
    ∃ t : State, exec (.setGaugeFinalise r) s = .next (t.reply 0x02 r (okWith (le 4 (polyFinal g.poly g.value.toNat)))) ∧
      (t.gauge r.index).value = BitVec.ofNat 32 g.poly.init ∧
      (g.cfg.flags.getLsbD 0 = true → polyFinal g.poly g.value.toNat ≠ g.cfg.expected % 2 ^ g.poly.width → t.ints.cause.getLsbD 20 = true))

/-- The commands of Spillway have the effect of their rules. A sample holds its readings, and the mode stays while none is at 115 C (15 R629);
two readings in a row of one sensor at 105 C trip the throttle threshold, ask for watts and start the grace time (15 R631, R633), and two at
115 C force Dormant with a new record and block boot (15 R631, R641). The warning threshold is released with its alarm, the throttle threshold
with enforcement and its alarm, the shutdown threshold by itself (15 R631, R639, R643). The grace time that runs out with the threshold standing ends in Throttled
(15 R636); a re-evaluation after a fall of 0.5 C only notes the time and the temperature, and another stops back-fill first (15 R636, R637); a
clock step lowers by 62.5 MHz the clock of a reach that is at least that much above its live floor (15 R636); a power sample is held with its sum (15 R646). Where it goes
beyond the rules it rests on the model's readings: log entries 74, 75, 76, 77, 79, 171. -/
def Obligations.SpillwayCommandsComplete : Prop :=
  (∀ xs s, (∀ e ∈ s.readings (s.sampled xs), e.2 < 920) →
    ∃ t, exec (.sensorSample xs) s = .next t ∧ t.thermal.sensors = s.sampled xs ∧ t.thermal.tjMax = (hottestOf (s.readings (s.sampled xs))).2 ∧
      t.mode.current = s.mode.current) ∧
  (∀ xs s k x y, s.mode.current.fast = true → s.thermal.throttle = false → (k, x) ∈ s.readings s.thermal.sensors → (s.sensor k).sampled = true →
    (k, y) ∈ s.readings (s.sampled xs) → 840 ≤ x → 840 ≤ y → (∀ e ∈ s.readings (s.sampled xs), e.2 < 920) →
    ∃ t, exec (.sensorSample xs) s = .next t ∧ t.thermal.throttle = true ∧ t.thermal.grace = some (s.nowNs + s.thermal.cfg.graceMs * 1000000) ∧
      t.thermal.shedW = shedWatts (hottestOf (s.readings (s.sampled xs))).2 s.thermal.cfg.psi) ∧
  (∀ xs s k x y, s.mode.current.fast = true → (k, x) ∈ s.readings s.thermal.sensors → (s.sensor k).sampled = true →
    (k, y) ∈ s.readings (s.sampled xs) → 920 ≤ x → 920 ≤ y →
    ∃ t, exec (.sensorSample xs) s = .next t ∧ t.mode.current = .dormant ∧ t.mode.blocked = true ∧ t.thermal.shutdown = true ∧
      t.thermal.recSeq = s.thermal.recSeq + 1) ∧
  (∀ s b, s.thermal.below.getD 0 none = some b → s.thermal.warn = true →
    ∃ t, exec (.thresholdRelease 0) s = .next t ∧ t.thermal.warn = false ∧ t.stands almTjWarning 0 = false) ∧
  (∀ s b, s.thermal.below.getD 1 none = some b → s.thermal.throttle = true →
    ∃ t, exec (.thresholdRelease 1) s = .next t ∧ t.thermal.throttle = false ∧ t.thermal.enforcing = false ∧ t.thermal.shedW = 0 ∧
      t.stands almTjThrottle 0 = false) ∧
  (∀ s b, s.thermal.below.getD 2 none = some b → s.thermal.shutdown = true →
    ∃ t, exec (.thresholdRelease 2) s = .next t ∧ t.thermal.shutdown = false ∧ t.mode.current = s.mode.current) ∧
  (∀ s n, s.thermal.grace = some n → s.thermal.throttle = true → s.mode.current.enforced = true → s.mode.busy = false →
    ∃ t, exec .graceExpiry s = .next t ∧ t.mode.current = .throttled ∧ t.thermal.enforcing = true ∧ t.thermal.grace = none) ∧
  (∀ s, s.thermal.enforcing = true → s.thermal.throttle = true → 4 ≤ s.thermal.evalTj - s.thermal.tjMax →
    ∃ u t, u = s.advanceTo (s.thermal.evalNs + 1000000000) ∧ exec .enforcementReevaluate s = .next t ∧
      t = { u with thermal := { s.thermal with evalNs := u.nowNs, evalTj := s.thermal.tjMax } }) ∧
  (∀ s, s.thermal.enforcing = true → s.thermal.throttle = true → s.thermal.evalTj - s.thermal.tjMax < 4 → s.thermal.bfStop = false →
    ∃ t, exec .enforcementReevaluate s = .next t ∧ t.thermal.bfStop = true ∧ t.thermal.step = max s.thermal.step 1) ∧
  (∀ n s u, u = s.advanceTo (s.thermal.lowered.getD n 0 + 100000000) → s.thermal.enforcing = true → s.thermal.stepping = true → s.shedDone = false → n < 4 →
    reachFitted s.fused.part n = true → u.liveFloor n + 1000 ≤ s.clock n → n < s.thermal.mhz16.length →
    ∃ t, exec (.clauseClockStep n) s = .next t ∧ t.clock n = s.clock n - 1000 ∧ t.time = u.time) ∧
  (∀ rails s, ∃ t, exec (.powerSample rails) s = .next t ∧ t.thermal.rails = (rails ++ List.replicate 8 0).take 8 ∧
      t.thermal.powerDw = ((rails ++ List.replicate 8 0).take 8).foldl (· + ·) 0)

/-- The requests on Thermal and Counter, and the end of a storm (15 R644, R647, R650, R654, R658): the newest shutdown record that is not
acknowledged and all before it are acknowledged; the settings stand and are saved; the sticky bits named are cleared. Where it goes
beyond the rules it rests on the model's readings: log entries 54, 79, 128. -/
def Obligations.HealthRequestsComplete : Prop :=
  (∀ r s x, r.accepted specAckThermal s → (s.taking r).thermal.records.find? (fun x => !x.acked) = some x → u32 r.block 0 = x.seq % 4294967296 →
    ∃ t : State, exec (.ackThermal r) s = .next (t.reply 0x11 r (okWith [])) ∧ (∀ y ∈ t.thermal.records, y.acked = true) ∧
      t.thermal.records.length = (s.taking r).thermal.records.length ∧ t.mode.sticky.getLsbD 5 = false ∧ t.ints.cause.getLsbD 23 = false) ∧
  (∀ r s, r.accepted specSetThermal s → 500 ≤ (decThermalCfg r.block).graceMs → (decThermalCfg r.block).graceMs ≤ 10000 →
    10 ≤ (decThermalCfg r.block).psi → (decThermalCfg r.block).psi ≤ 500 →
    exec (.setThermal r) s = .next (State.reply
      { s.taking r with thermal := { (s.taking r).thermal with cfg := decThermalCfg r.block },
                        saved := { (s.taking r).saved with thermal := some (decThermalCfg r.block) } } 0x02 r (okWith []))) ∧
  (∀ r s, r.accepted specWriteCounterSticky s → u32 r.block 4 < nounUnits (u16 r.block 2) → u32 r.block 8 = 0xFFFFFFFF →
    ∃ t : State, exec (.writeCounterSticky r) s = .next (t.reply 0x14 r (okWith [])) ∧
      (∀ e ∈ (s.taking r).names (u16 r.block 2) (u32 r.block 4), e.2.1 = true → (t.alarm e.1 e.2.2).sticky = false) ∧
      (∀ id unit, t.stands id unit = (s.taking r).stands id unit)) ∧
  (∀ s n, s.storm.startNs = some n →
    ∃ t, exec .stormEnd s = .next t ∧ t.time = (s.advanceTo (s.storm.lastDrop + 1000000000)).time ∧
      (s.eventRoom = true → t.storm.startNs = none))

/-- OPEN, PUT, CLOSE, ACTIVATE and SET on Image, and what follows them (16 R670 to R674, R677, R679, R681, R683): the first source opens
the session of another image and becomes its holder; a first fragment that leaves its piece incomplete joins the empty buffer; a piece written
is stored in its sector; a stale piece goes 60 s after its last fragment, and an idle holder with its buffer; CLOSE takes the sender from the session,
or the holder abandons the image; ACTIVATE of a complete image that may be activated begins, with the groups that it resets; its commit, with sound
entries, names the staging slot and boots, and with entries that fail ends it; the old slot is erased; the idle time stands and is saved. Where it goes
beyond the rules it rests on the model's readings: log entries 86, 87, 88, 90, 91, 172, 175. -/
def Obligations.UpdateCommandsComplete : Prop :=
  (∀ r s, r.accepted specOpenImage s → 2 ≤ u16 r.block 4 → u16 r.block 4 ≤ 960 → (u16 r.block 4 - 1) * 65536 < u32 r.block 0 →
    u32 r.block 0 ≤ u16 r.block 4 * 65536 → (s.taking r).image.erasing = false → (s.taking r).image.sources = [] →
    (s.taking r).image.activating = false → slice r.block 8 48 ≠ (s.taking r).image.digest → 28 ≤ replyRoom r →
    ∃ t : State, exec (.openImage r) s = .next (t.reply 0x0C r (okWith (openReply t 0))) ∧ t.image.sources = [sourceOf r] ∧
      t.image.digest = slice r.block 8 48 ∧ t.image.totalLen = u32 r.block 0 ∧ t.image.pieces = u16 r.block 4 ∧ t.image.stored = []) ∧
  (∀ r s, r.accepted specPutImage s → r.block.length = 16 + u32 r.block 8 → (s.taking r).pins.holdupOk = true → (s.taking r).image.erasing = false →
    (s.taking r).image.sources.head? = some (sourceOf r) → u16 r.block 0 < (s.taking r).image.pieces → 0 < u32 r.block 8 →
    u32 r.block 4 + u32 r.block 8 ≤ pieceLen (s.taking r).image.pieces (s.taking r).image.totalLen (u16 r.block 0) →
    (u16 r.block 0 = 0 ∨ (s.taking r).image.manifest ≠ none) → ¬ u16 r.block 0 ∈ (s.taking r).image.stored → (s.taking r).image.passed = [] →
    (s.taking r).image.buffer = [] →
    u32 r.block 8 < pieceLen (s.taking r).image.pieces (s.taking r).image.totalLen (u16 r.block 0) →
    exec (.putImage r) s = .next (State.reply
      { s.taking r with image := { (s.taking r).image with
        lastPut := (s.taking r).nowNs, foreign := (s.taking r).image.foreign || (sourceOf r).kind != 2
        buffer := [PieceBuf.put { PieceBuf.reset with piece := u16 r.block 0 } (u32 r.block 4) (r.block.drop 16) (s.taking r).nowNs] } }
      0x0D r (okWith []))) ∧
  (∀ p b s, s.image.passed = [(p, b)] → ¬ p ∈ s.image.stored →
    ∃ t, exec (.pieceWriteComplete p) s = .next t ∧ t.image.passed = [] ∧ p ∈ t.image.stored ∧
      t.image.stored.length = s.image.stored.length + 1 ∧ tget (fun _ => []) t.image.flash (pieceSector s.image.staging p) = b) ∧
  (∀ p e s, s.image.buffer.find? (fun e => e.piece == p) = some e →
    ∃ t, exec (.pieceStale p) s = .next t ∧ t.image.buffer = s.image.buffer.filter (fun y => y.piece != p) ∧
      t.time = (s.advanceTo (e.lastNs + 60000000000)).time) ∧
  (∀ s h rest, s.image.sources = h :: rest →
    ∃ t, exec .leaseIdleExpiry s = .next t ∧ t.image.sources = rest.filter (· != h) ∧ t.image.buffer = [] ∧
      t.time = (s.advanceTo (s.image.lastPut + s.image.idleH * 3600000000000)).time) ∧
  (∀ r s, r.accepted specCloseImage s → (s.taking r).image.erasing = false → u8 r.block 0 = 0 → sourceOf r ∈ (s.taking r).image.sources →
    ∃ t : State, exec (.closeImage r) s = .next (t.reply 0x0E r (okWith [])) ∧
      t.image.sources = (s.taking r).image.sources.filter (· != sourceOf r) ∧ t.image.stored = (s.taking r).image.stored) ∧
  (∀ r s, r.accepted specCloseImage s → (s.taking r).image.erasing = false → u8 r.block 0 = 1 → (s.taking r).image.activating = false →
    (s.taking r).image.sources.head? = some (sourceOf r) →
    ∃ t : State, exec (.closeImage r) s = .next (t.reply 0x0E r (okWith [])) ∧ t.image.sources = [] ∧ t.image.digest = [] ∧ t.image.stored = []) ∧
  (∀ r s m, r.accepted specActivateImage s → (s.taking r).pins.holdupOk = true → (s.taking r).pins.tally = 0 → (s.taking r).image.erasing = false →
    (s.taking r).image.complete = true → r.block = (s.taking r).image.digest → (s.taking r).image.manifest = some m →
    m.partMask.getLsbD (partBit (s.taking r).fused.part) = true → m.major = (s.taking r).image.active.major →
    m.flags.getLsbD 0 = decide ((s.taking r).mode.current = .fallow) → (m.calFormat = u16 ((s.taking r).calBytes 4 2) 0 ∨ ∃ e ∈ m.entries, e.1 = 6) →
    (s.taking r).image.burned ≤ m.rollback → (s.taking r).image.activating = false → 14 ≤ replyRoom r →
    exec (.activateImage r) s = .next (State.reply { s.taking r with image := { (s.taking r).image with activating := true } } 0x0F r
      (okWith (le 2 (groupsReset (s.taking r).image.active m).length ++ le 2 0 ++ (groupsReset (s.taking r).image.active m).flatMap (le 2))))) ∧
  (∀ s m, s.image.activating = true → s.image.manifest = some m → s.image.entriesSound m = true → s.pins.holdupOk = true → s.pins.tally = 0 →
    ∃ t, exec (.activationCommit true) s = .next t ∧ t.mode.current = .boot ∧ t.image.activeSlot = 1 - s.image.activeSlot ∧
      t.image.activeDigest = s.image.digest ∧ t.image.active = m ∧ t.image.burned = max s.image.burned m.rollback ∧ t.mode.firstBoot = true) ∧
  (∀ s m, s.image.activating = true → s.image.manifest = some m →
    ∃ t, exec (.activationCommit false) s = .next t ∧ t.image.activating = false ∧ t.image.activeSlot = s.image.activeSlot ∧
      t.mode.current = s.mode.current) ∧
  (∀ s, s.image.erasing = true → s.mode.current.rings = true → s.mode.current ≠ .training → s.mode.current ≠ .recovery →
    ∃ t, exec .oldSlotErased s = .next t ∧ t.image.erasing = false) ∧
  (∀ r s, r.accepted specSetImage s → 1 ≤ u16 r.block 2 → u16 r.block 2 ≤ 720 →
    exec (.setImage r) s = .next (State.reply
      { s.taking r with image := { (s.taking r).image with idleH := u16 r.block 2 },
                        saved := { (s.taking r).saved with update := some (u16 r.block 2) } } 0x02 r (okWith [])))

/-- WRITE and SET on CalSet and the end of a recalibration: a sound set of this die replaces the old one and ends its alarm, a recalibration
begins, and its end swaps the areas (16 R689, R690). The carriers that are no ring: a whole frame of a known request on the service port is served as
the request that it spells, a frame sent while a reply waits is an overrun, the status, the reply and a register word are shifted out, and an
offset outside the windows gives zero (17 R710, R711); a datagram to the management address is served, and one beyond 2,000 in a second is counted as dropped (16 R676). Where it goes
beyond the rules it rests on the model's readings: log entries 59, 60, 80, 81, 82, 83, 172, 173. -/
def Obligations.ServicePortCommandsComplete : Prop :=
  (∀ r s, r.accepted specWriteCalset s → calSound (r.block.drop 8) = true → u64 (r.block.drop 8) 16 = (s.taking r).fused.serial.toNat →
    u16 (r.block.drop 8) 4 = (s.taking r).image.active.calFormat → (s.taking r).calBusy = false →
    ∃ t : State, exec (.writeCalset r) s = .next (t.reply 0x14 r (okWith [])) ∧ t.cal = ((s.taking r).calWrite (r.block.drop 8)).cal ∧ t.stands almCalsetInvalid 0 = false) ∧
  (∀ r s, r.accepted specSetCalsetRecalibrate s → (bitmapBit r.block 10 = true → -320 ≤ s16 r.block 2 ∧ s16 r.block 2 ≤ 1200) →
    (bitmapBit r.block 10 = true → (s.taking r).toolsRecent = false) → (bitmapBit r.block 11 = true → (s.taking r).hg.state = .locked) →
    (s.taking r).cal.recal = none →
    exec (.setCalsetRecalibrate r) s = .next (State.reply { s.taking r with cal := { (s.taking r).cal with recal := some r.block } } 0x02 r (okWith []))) ∧
  (∀ m b s, s.cal.recal = some b →
    ∃ t, exec (.recalibrationComplete m) s = .next t ∧ t.cal.recal = none ∧ t.cal.area = 1 - s.cal.area) ∧
  (∀ b s q, s.pins.aonResetN = true → s.svc.reply = none → frameIntact b = true → verbKnown (u8 b 4) = true → nounKnown (u16 b 6) = true →
    u16 b 12 = (frameRequest .service b).payload.length → specFor (u8 b 4) (u16 b 6) (frameRequest .service b) = some q →
    exec (.svcSend b) s = .next (serve q (frameRequest .service b) s)) ∧
  (∀ b s, s.pins.aonResetN = true → s.svc.reply ≠ none → exec (.svcSend b) s = .next { s with svc := { s.svc with overrun := true } }) ∧
  (∀ s, s.pins.aonResetN = true →
    exec .svcStatus s = .next (s.svcOut (layout 4 [
      (0, le 1 (bitsOf [s.svc.reply.isSome, false, s.svc.overrun, s.mode.current == .fallow, s.mode.current == .dormant])),
      (1, le 1 s.mode.current.code), (2, le 2 (s.svc.reply.getD []).length)]))) ∧
  (∀ s, s.pins.aonResetN = true → ∃ t, exec .svcFetch s = .next t ∧ t.svc.reply = none ∧ t.svc.overrun = false ∧
    t.svc.outBytes = s.svc.reply.getD [] ++ [0]) ∧
  (∀ o s, s.pins.aonResetN = true → (0x100 ≤ o ∧ o ≤ 0x3FF ∨ 0x3000 ≤ o ∧ o ≤ 0x3FFF) → o % 4 = 0 →
    exec (.svcWord o) s = .next ((s.latchFrame o).svcOut (le 4 (s.readWord o)))) ∧
  (∀ o s, s.pins.aonResetN = true → (o < 0x100 ∨ 0x3FF < o ∧ o < 0x3000 ∨ 0x3FFF < o) →
    exec (.svcWord o) s = .next (s.svcOut (le 4 0))) ∧
  (∀ x b s p, s.mgmtPort = some p → s.levee.cfg.udp ≠ 0 → s.linkOn p = true → (s.image.inbandNs = s.nowS → s.image.inbandCount < 2000) →
    exec (.inbandRequest x b) s = .next (State.serveFrame
      { s with image := { s.image with inbandNs := s.nowS, inbandCount := (if s.image.inbandNs = s.nowS then s.image.inbandCount else 0) + 1 } }
      (.inband x) b)) ∧
  (∀ x b s p, s.mgmtPort = some p → s.levee.cfg.udp ≠ 0 → s.linkOn p = true → s.image.inbandNs = s.nowS → 2000 ≤ s.image.inbandCount →
    ∃ t, exec (.inbandRequest x b) s = .next t ∧ t.cnt cntInbandDrop 0 = min counterMax (s.cnt cntInbandDrop 0 + 1))
end

