-- ==== Sys2Proof/Laws/State.lean ====
section
/-! SUPPORT. What the operations over tables and units do: read after write, what they leave alone, and the canonical form. -/
namespace Sys2Proof.Machine

theorem tabAbove_weaken {α : Type} [DecidableEq α] (d : Nat → α) (t : Tab α) (l m : Nat) (hl : m ≤ l)
    (h : tabAbove d (some l) t = true) : tabAbove d (some m) t = true := by
  cases t with
  | nil => rfl
  | cons e t =>
    simp [tabAbove] at h ⊢
    exact ⟨⟨by omega, h.1.2⟩, h.2⟩

/-- A table whose entries have been thinned out is canonical for a default that agrees on what is left. -/
theorem tabAbove_filter {α : Type} [DecidableEq α] (d d' : Nat → α) (p : Nat × α → Bool) (t : Tab α)
    (hd : ∀ e ∈ t, p e = true → d' e.1 = d e.1) (lo : Option Nat) (h : tabAbove d lo t = true) :
    tabAbove d' lo (t.filter p) = true := by
  induction t generalizing lo with
  | nil => rfl
  | cons e t ih =>
    obtain ⟨j, w⟩ := e
    simp [tabAbove] at h
    have hr := ih (fun x hx => hd x (List.mem_cons_of_mem _ hx)) (some j) h.2
    by_cases hp : p (j, w) = true
    · have hj := hd (j, w) List.mem_cons_self hp
      rw [List.filter_cons_of_pos hp]
      simp [tabAbove, hr, hj]
      exact h.1
    · rw [List.filter_cons_of_neg hp]
      cases lo with
      | none => cases hf : t.filter p with
        | nil => rfl
        | cons x u =>
          rw [hf] at hr
          simp [tabAbove] at hr ⊢
          exact ⟨hr.1.2, hr.2⟩
      | some l => exact tabAbove_weaken d' _ j l (by have := h.1.1; simp at this; omega) hr

theorem tget_filter {α : Type} (d : Nat → α) (p : Nat × α → Bool) (t : Tab α) (k : Nat)
    (h : ∀ w, p (k, w) = true) : tget d (t.filter p) k = tget d t k := by
  induction t with
  | nil => rfl
  | cons e t ih =>
    obtain ⟨j, w⟩ := e
    by_cases hp : p (j, w) = true
    · rw [List.filter_cons_of_pos hp]
      simp only [tget, ih]
    · rw [List.filter_cons_of_neg hp, ih]
      have : j ≠ k := fun e => hp (e ▸ h w)
      simp [tget, this]

/-! ### Entries set -/

@[simp] theorem tget_tdrop_self {α : Type} (d : Nat → α) (t : Tab α) (k : Nat) : tget d (tdrop t k) k = d k := by
  unfold tdrop
  induction t with
  | nil => rfl
  | cons e t ih =>
    obtain ⟨j, w⟩ := e
    by_cases h : j = k
    · simp [h, ih]
    · simp [h, tget, ih]

theorem tget_tdrop_other {α : Type} (d : Nat → α) (t : Tab α) (k j : Nat) (h : j ≠ k) : tget d (tdrop t k) j = tget d t j :=
  tget_filter d _ t j (fun w => by simpa using h)

@[simp] theorem tget_tput_self {α : Type} (d : Nat → α) (t : Tab α) (k : Nat) (v : α) : tget d (tput t k v) k = v := by
  induction t with
  | nil => simp [tput, tget]
  | cons e t ih =>
    obtain ⟨j, w⟩ := e
    simp only [tput]
    split
    · simp [tget]
    · split
      · simp [tget]
      · rename_i h
        simp [tget, Ne.symm h, ih]

theorem tget_tput_other {α : Type} (d : Nat → α) (t : Tab α) (k j : Nat) (v : α) (h : j ≠ k) : tget d (tput t k v) j = tget d t j := by
  induction t with
  | nil => simp [tput, tget, Ne.symm h]
  | cons e t ih =>
    obtain ⟨i, w⟩ := e
    simp only [tput]
    split
    · simp [tget, Ne.symm h]
    · split
      · rename_i h1
        simp [tget, Ne.symm h, ← h1]
      · simp [tget, ih]

theorem tget_tset_other {α : Type} [DecidableEq α] (d : Nat → α) (t : Tab α) (k j : Nat) (v : α) (h : j ≠ k) :
    tget d (tset d t k v) j = tget d t j := by
  unfold tset
  split
  · exact tget_tdrop_other d t k j h
  · exact tget_tput_other d t k j v h

theorem tget_tset_self {α : Type} [DecidableEq α] (d : Nat → α) (t : Tab α) (k : Nat) (v : α) : tget d (tset d t k v) k = v := by
  unfold tset
  split
  · rename_i h; simp [h]
  · simp

theorem tabAbove_tput {α : Type} [DecidableEq α] (d : Nat → α) (t : Tab α) (k : Nat) (v : α) (lo : Option Nat) (hv : v ≠ d k)
    (h : tabAbove d lo t = true) (hk : ∀ l ∈ lo, l < k) : tabAbove d lo (tput t k v) = true := by
  induction t generalizing lo with
  | nil => simp [tput, tabAbove, hv]; exact fun l hl => hk l hl
  | cons p t ih =>
    obtain ⟨i, w⟩ := p
    simp [tabAbove] at h
    simp only [tput]
    split
    · rename_i h1
      simp [tabAbove, hv, h.2, h.1.2, h1]
      exact fun l hl => hk l hl
    · split
      · rename_i h1 h2; subst h2
        simp [tabAbove, hv, h.2]
        exact fun l hl => hk l hl
      · rename_i h1 h2
        simp [tabAbove, h.1.2]
        exact ⟨fun l hl => h.1.1 l hl, ih (some i) h.2 (by simp; omega)⟩

theorem tabAbove_tset {α : Type} [DecidableEq α] (d : Nat → α) (t : Tab α) (k : Nat) (v : α) (lo : Option Nat)
    (h : tabAbove d lo t = true) (hk : ∀ l ∈ lo, l < k) : tabAbove d lo (tset d t k v) = true := by
  unfold tset
  split
  · exact tabAbove_filter d d _ t (fun _ _ _ => rfl) lo h
  · rename_i hv; exact tabAbove_tput d t k v lo hv h hk

/-- Setting an entry keeps the canonical form. -/
theorem tabWf_tset {α : Type} [DecidableEq α] (d : Nat → α) (t : Tab α) (k : Nat) (v : α) (h : tabWf d t = true) :
    tabWf d (tset d t k v) = true := tabAbove_tset d t k v none h (by simp)

theorem lmod_other {α : Type} (l : List α) (i j : Nat) (f : α → α) (h : j ≠ i) : (lmod l i f)[j]? = l[j]? := by
  unfold lmod; split
  · simp [List.getElem?_set_ne (Ne.symm h)]
  · rfl

theorem lmod_self {α : Type} (l : List α) (i : Nat) (f : α → α) : (lmod l i f)[i]? = l[i]?.map f := by
  unfold lmod; split
  · rename_i x h
    have hl : i < l.length := (List.getElem?_eq_some_iff.mp h).1
    simp [h, List.getElem?_set_self hl]
  · rename_i h; simp [h]

@[simp] theorem lmod_length {α : Type} (l : List α) (i : Nat) (f : α → α) : (lmod l i f).length = l.length := by
  unfold lmod; split <;> simp

theorem State.modSrc_eq (s : State) (k : Nat) (f : SrcSt → SrcSt) :
    s.modSrc k f = { s with srcs := tset (fun _ => SrcSt.reset) s.srcs k (f (s.src k)) } := rfl

@[simp] theorem State.src_mod_other (s : State) (k j : Nat) (f : SrcSt → SrcSt) (h : j ≠ k) :
    (s.modSrc k f).src j = s.src j := tget_tset_other _ _ _ _ _ h

@[simp] theorem State.src_mod_self (s : State) (k : Nat) (f : SrcSt → SrcSt) :
    (s.modSrc k f).src k = f (s.src k) := tget_tset_self _ _ _ _

theorem State.modDst_eq (s : State) (k : Nat) (f : DstSt → DstSt) :
    s.modDst k f = { s with dsts := tset (fun _ => DstSt.reset) s.dsts k (f (s.dst k)) } := rfl

@[simp] theorem State.dst_mod_other (s : State) (k j : Nat) (f : DstSt → DstSt) (h : j ≠ k) :
    (s.modDst k f).dst j = s.dst j := tget_tset_other _ _ _ _ _ h

@[simp] theorem State.dst_mod_self (s : State) (k : Nat) (f : DstSt → DstSt) :
    (s.modDst k f).dst k = f (s.dst k) := tget_tset_self _ _ _ _

theorem State.modAin_eq (s : State) (k : Nat) (f : AinSt → AinSt) :
    s.modAin k f = { s with ains := tset (fun _ => AinSt.reset) s.ains k (f (s.ain k)) } := rfl

@[simp] theorem State.ain_mod_other (s : State) (k j : Nat) (f : AinSt → AinSt) (h : j ≠ k) :
    (s.modAin k f).ain j = s.ain j := tget_tset_other _ _ _ _ _ h

@[simp] theorem State.ain_mod_self (s : State) (k : Nat) (f : AinSt → AinSt) :
    (s.modAin k f).ain k = f (s.ain k) := tget_tset_self _ _ _ _

theorem State.modAout_eq (s : State) (k : Nat) (f : AoutSt → AoutSt) :
    s.modAout k f = { s with aouts := tset AoutSt.atReset s.aouts k (f (s.aout k)) } := rfl

@[simp] theorem State.aout_mod_other (s : State) (k j : Nat) (f : AoutSt → AoutSt) (h : j ≠ k) :
    (s.modAout k f).aout j = s.aout j := tget_tset_other _ _ _ _ _ h

@[simp] theorem State.aout_mod_self (s : State) (k : Nat) (f : AoutSt → AoutSt) :
    (s.modAout k f).aout k = f (s.aout k) := tget_tset_self _ _ _ _

theorem State.modAport_eq (s : State) (k : Nat) (f : AportSt → AportSt) :
    s.modAport k f = { s with aports := tset (fun _ => AportSt.reset) s.aports k (f (s.aport k)) } := rfl

@[simp] theorem State.aport_mod_other (s : State) (k j : Nat) (f : AportSt → AportSt) (h : j ≠ k) :
    (s.modAport k f).aport j = s.aport j := tget_tset_other _ _ _ _ _ h

@[simp] theorem State.aport_mod_self (s : State) (k : Nat) (f : AportSt → AportSt) :
    (s.modAport k f).aport k = f (s.aport k) := tget_tset_self _ _ _ _

theorem State.modLane_eq (s : State) (k : Nat) (f : LaneSt → LaneSt) :
    s.modLane k f = { s with lanes := tset (fun _ => LaneSt.reset) s.lanes k (f (s.lane k)) } := rfl

@[simp] theorem State.lane_mod_other (s : State) (k j : Nat) (f : LaneSt → LaneSt) (h : j ≠ k) :
    (s.modLane k f).lane j = s.lane j := tget_tset_other _ _ _ _ _ h

@[simp] theorem State.lane_mod_self (s : State) (k : Nat) (f : LaneSt → LaneSt) :
    (s.modLane k f).lane k = f (s.lane k) := tget_tset_self _ _ _ _

theorem State.modPort_eq (s : State) (k : Nat) (f : PortSt → PortSt) :
    s.modPort k f = { s with ports := tset (fun _ => PortSt.reset) s.ports k (f (s.port k)) } := rfl

@[simp] theorem State.port_mod_other (s : State) (k j : Nat) (f : PortSt → PortSt) (h : j ≠ k) :
    (s.modPort k f).port j = s.port j := tget_tset_other _ _ _ _ _ h

@[simp] theorem State.port_mod_self (s : State) (k : Nat) (f : PortSt → PortSt) :
    (s.modPort k f).port k = f (s.port k) := tget_tset_self _ _ _ _

theorem State.modFlow_eq (s : State) (k : Nat) (f : FlowSt → FlowSt) :
    s.modFlow k f = { s with flows := tset (fun _ => FlowSt.reset) s.flows k (f (s.flow k)) } := rfl

@[simp] theorem State.flow_mod_other (s : State) (k j : Nat) (f : FlowSt → FlowSt) (h : j ≠ k) :
    (s.modFlow k f).flow j = s.flow j := tget_tset_other _ _ _ _ _ h

@[simp] theorem State.flow_mod_self (s : State) (k : Nat) (f : FlowSt → FlowSt) :
    (s.modFlow k f).flow k = f (s.flow k) := tget_tset_self _ _ _ _

theorem State.modQueue_eq (s : State) (k : Nat) (f : QueueSt → QueueSt) :
    s.modQueue k f = { s with queues := tset QueueSt.atReset s.queues k (f (s.queue k)) } := rfl

@[simp] theorem State.queue_mod_other (s : State) (k j : Nat) (f : QueueSt → QueueSt) (h : j ≠ k) :
    (s.modQueue k f).queue j = s.queue j := tget_tset_other _ _ _ _ _ h

@[simp] theorem State.queue_mod_self (s : State) (k : Nat) (f : QueueSt → QueueSt) :
    (s.modQueue k f).queue k = f (s.queue k) := tget_tset_self _ _ _ _

theorem State.modGate_eq (s : State) (k : Nat) (f : GateSt → GateSt) :
    s.modGate k f = { s with gates := tset (fun _ => GateSt.reset) s.gates k (f (s.gate k)) } := rfl

@[simp] theorem State.gate_mod_other (s : State) (k j : Nat) (f : GateSt → GateSt) (h : j ≠ k) :
    (s.modGate k f).gate j = s.gate j := tget_tset_other _ _ _ _ _ h

@[simp] theorem State.gate_mod_self (s : State) (k : Nat) (f : GateSt → GateSt) :
    (s.modGate k f).gate k = f (s.gate k) := tget_tset_self _ _ _ _

theorem State.modTrig_eq (s : State) (k : Nat) (f : TrigSt → TrigSt) :
    s.modTrig k f = { s with trigs := tset (fun _ => TrigSt.reset) s.trigs k (f (s.trig k)) } := rfl

@[simp] theorem State.trig_mod_other (s : State) (k j : Nat) (f : TrigSt → TrigSt) (h : j ≠ k) :
    (s.modTrig k f).trig j = s.trig j := tget_tset_other _ _ _ _ _ h

@[simp] theorem State.trig_mod_self (s : State) (k : Nat) (f : TrigSt → TrigSt) :
    (s.modTrig k f).trig k = f (s.trig k) := tget_tset_self _ _ _ _

theorem State.modStem_eq (s : State) (k : Nat) (f : StemSt → StemSt) :
    s.modStem k f = { s with stems := tset (fun _ => StemSt.reset) s.stems k (f (s.stem k)) } := rfl

@[simp] theorem State.stem_mod_other (s : State) (k j : Nat) (f : StemSt → StemSt) (h : j ≠ k) :
    (s.modStem k f).stem j = s.stem j := tget_tset_other _ _ _ _ _ h

@[simp] theorem State.stem_mod_self (s : State) (k : Nat) (f : StemSt → StemSt) :
    (s.modStem k f).stem k = f (s.stem k) := tget_tset_self _ _ _ _

theorem State.modRend_eq (s : State) (k : Nat) (f : RendSt → RendSt) :
    s.modRend k f = { s with rends := tset (fun _ => RendSt.reset) s.rends k (f (s.rend k)) } := rfl

@[simp] theorem State.rend_mod_other (s : State) (k j : Nat) (f : RendSt → RendSt) (h : j ≠ k) :
    (s.modRend k f).rend j = s.rend j := tget_tset_other _ _ _ _ _ h

@[simp] theorem State.rend_mod_self (s : State) (k : Nat) (f : RendSt → RendSt) :
    (s.modRend k f).rend k = f (s.rend k) := tget_tset_self _ _ _ _

theorem State.modDeliv_eq (s : State) (k : Nat) (f : DelivSt → DelivSt) :
    s.modDeliv k f = { s with delivs := tset (fun _ => DelivSt.reset) s.delivs k (f (s.deliv k)) } := rfl

@[simp] theorem State.deliv_mod_other (s : State) (k j : Nat) (f : DelivSt → DelivSt) (h : j ≠ k) :
    (s.modDeliv k f).deliv j = s.deliv j := tget_tset_other _ _ _ _ _ h

@[simp] theorem State.deliv_mod_self (s : State) (k : Nat) (f : DelivSt → DelivSt) :
    (s.modDeliv k f).deliv k = f (s.deliv k) := tget_tset_self _ _ _ _

theorem State.modCore_eq (s : State) (k : Nat) (f : Core → Core) :
    s.modCore k f = { s with cores := tset (fun _ => Core.reset) s.cores k (f (s.core k)) } := rfl

@[simp] theorem State.core_mod_other (s : State) (k j : Nat) (f : Core → Core) (h : j ≠ k) :
    (s.modCore k f).core j = s.core j := tget_tset_other _ _ _ _ _ h

@[simp] theorem State.core_mod_self (s : State) (k : Nat) (f : Core → Core) :
    (s.modCore k f).core k = f (s.core k) := tget_tset_self _ _ _ _

theorem State.modJob_eq (s : State) (k : Nat) (f : JobSt → JobSt) :
    s.modJob k f = { s with jobs := tset (fun _ => JobSt.reset) s.jobs k (f (s.job k)) } := rfl

@[simp] theorem State.job_mod_other (s : State) (k j : Nat) (f : JobSt → JobSt) (h : j ≠ k) :
    (s.modJob k f).job j = s.job j := tget_tset_other _ _ _ _ _ h

@[simp] theorem State.job_mod_self (s : State) (k : Nat) (f : JobSt → JobSt) :
    (s.modJob k f).job k = f (s.job k) := tget_tset_self _ _ _ _

theorem State.modHostFlow_eq (s : State) (k : Nat) (f : HostFlow → HostFlow) :
    s.modHostFlow k f = { s with hostFlows := tset (fun _ => HostFlow.reset) s.hostFlows k (f (s.hostFlow k)) } := rfl

@[simp] theorem State.hostFlow_mod_other (s : State) (k j : Nat) (f : HostFlow → HostFlow) (h : j ≠ k) :
    (s.modHostFlow k f).hostFlow j = s.hostFlow j := tget_tset_other _ _ _ _ _ h

@[simp] theorem State.hostFlow_mod_self (s : State) (k : Nat) (f : HostFlow → HostFlow) :
    (s.modHostFlow k f).hostFlow k = f (s.hostFlow k) := tget_tset_self _ _ _ _

theorem State.modCtx_eq (s : State) (k : Nat) (f : CtxSt → CtxSt) :
    s.modCtx k f = { s with ctxs := tset (fun _ => CtxSt.reset) s.ctxs k (f (s.ctx k)) } := rfl

@[simp] theorem State.ctx_mod_other (s : State) (k j : Nat) (f : CtxSt → CtxSt) (h : j ≠ k) :
    (s.modCtx k f).ctx j = s.ctx j := tget_tset_other _ _ _ _ _ h

@[simp] theorem State.ctx_mod_self (s : State) (k : Nat) (f : CtxSt → CtxSt) :
    (s.modCtx k f).ctx k = f (s.ctx k) := tget_tset_self _ _ _ _

theorem State.modLayer_eq (s : State) (k : Nat) (f : LayerSt → LayerSt) :
    s.modLayer k f = { s with layers := tset (fun _ => LayerSt.reset) s.layers k (f (s.layer k)) } := rfl

@[simp] theorem State.layer_mod_other (s : State) (k j : Nat) (f : LayerSt → LayerSt) (h : j ≠ k) :
    (s.modLayer k f).layer j = s.layer j := tget_tset_other _ _ _ _ _ h

@[simp] theorem State.layer_mod_self (s : State) (k : Nat) (f : LayerSt → LayerSt) :
    (s.modLayer k f).layer k = f (s.layer k) := tget_tset_self _ _ _ _

theorem State.modGauge_eq (s : State) (k : Nat) (f : GaugeSt → GaugeSt) :
    s.modGauge k f = { s with gauges := tset (fun _ => GaugeSt.reset) s.gauges k (f (s.gauge k)) } := rfl

@[simp] theorem State.gauge_mod_other (s : State) (k j : Nat) (f : GaugeSt → GaugeSt) (h : j ≠ k) :
    (s.modGauge k f).gauge j = s.gauge j := tget_tset_other _ _ _ _ _ h

@[simp] theorem State.gauge_mod_self (s : State) (k : Nat) (f : GaugeSt → GaugeSt) :
    (s.modGauge k f).gauge k = f (s.gauge k) := tget_tset_self _ _ _ _

theorem State.modRing_eq (s : State) (k : Nat) (f : Ring → Ring) :
    s.modRing k f = { s with rings := lmod s.rings k f } := rfl

@[simp] theorem State.ring_mod_other (s : State) (k j : Nat) (f : Ring → Ring) (h : j ≠ k) :
    (s.modRing k f).ring j = s.ring j := by
  simp only [State.ring, State.modRing, List.getD_eq_getElem?_getD, lmod_other _ _ _ _ h]

@[simp] theorem State.ring_mod_self (s : State) (k : Nat) (f : Ring → Ring) (h : k < s.rings.length) :
    (s.modRing k f).ring k = f (s.ring k) := by
  simp [State.ring, State.modRing, List.getD_eq_getElem?_getD, lmod_self, List.getElem?_eq_getElem h]

theorem State.modDomain_eq (s : State) (k : Nat) (f : DomainSt → DomainSt) :
    s.modDomain k f = { s with domains := lmod s.domains k f } := rfl

@[simp] theorem State.domain_mod_other (s : State) (k j : Nat) (f : DomainSt → DomainSt) (h : j ≠ k) :
    (s.modDomain k f).domain j = s.domain j := by
  simp only [State.domain, State.modDomain, List.getD_eq_getElem?_getD, lmod_other _ _ _ _ h]

@[simp] theorem State.domain_mod_self (s : State) (k : Nat) (f : DomainSt → DomainSt) (h : k < s.domains.length) :
    (s.modDomain k f).domain k = f (s.domain k) := by
  simp [State.domain, State.modDomain, List.getD_eq_getElem?_getD, lmod_self, List.getElem?_eq_getElem h]

theorem State.modBus_eq (s : State) (k : Nat) (f : I2cBus → I2cBus) :
    s.modBus k f = { s with buses := lmod s.buses k f } := rfl

@[simp] theorem State.bus_mod_other (s : State) (k j : Nat) (f : I2cBus → I2cBus) (h : j ≠ k) :
    (s.modBus k f).bus j = s.bus j := by
  simp only [State.bus, State.modBus, List.getD_eq_getElem?_getD, lmod_other _ _ _ _ h]

@[simp] theorem State.bus_mod_self (s : State) (k : Nat) (f : I2cBus → I2cBus) (h : k < s.buses.length) :
    (s.modBus k f).bus k = f (s.bus k) := by
  simp [State.bus, State.modBus, List.getD_eq_getElem?_getD, lmod_self, List.getElem?_eq_getElem h]

theorem State.modPlane_eq (s : State) (k : Nat) (f : PlaneSt → PlaneSt) :
    s.modPlane k f = { s with planes := lmod s.planes k f } := rfl

@[simp] theorem State.plane_mod_other (s : State) (k j : Nat) (f : PlaneSt → PlaneSt) (h : j ≠ k) :
    (s.modPlane k f).plane j = s.plane j := by
  simp only [State.plane, State.modPlane, List.getD_eq_getElem?_getD, lmod_other _ _ _ _ h]

@[simp] theorem State.plane_mod_self (s : State) (k : Nat) (f : PlaneSt → PlaneSt) (h : k < s.planes.length) :
    (s.modPlane k f).plane k = f (s.plane k) := by
  simp [State.plane, State.modPlane, List.getD_eq_getElem?_getD, lmod_self, List.getElem?_eq_getElem h]

theorem State.modRef_eq (s : State) (k : Nat) (f : RefSt → RefSt) :
    s.modRef k f = { s with refs := lmod s.refs k f } := rfl

@[simp] theorem State.ref_mod_other (s : State) (k j : Nat) (f : RefSt → RefSt) (h : j ≠ k) :
    (s.modRef k f).ref j = s.ref j := by
  simp only [State.ref, State.modRef, List.getD_eq_getElem?_getD, lmod_other _ _ _ _ h]

@[simp] theorem State.ref_mod_self (s : State) (k : Nat) (f : RefSt → RefSt) (h : k < s.refs.length) :
    (s.modRef k f).ref k = f (s.ref k) := by
  simp [State.ref, State.modRef, List.getD_eq_getElem?_getD, lmod_self, List.getElem?_eq_getElem h]

theorem State.modCap_eq (s : State) (k : Nat) (f : CapSt → CapSt) :
    s.modCap k f = { s with caps := lmod s.caps k f } := rfl

@[simp] theorem State.cap_mod_other (s : State) (k j : Nat) (f : CapSt → CapSt) (h : j ≠ k) :
    (s.modCap k f).cap j = s.cap j := by
  simp only [State.cap, State.modCap, List.getD_eq_getElem?_getD, lmod_other _ _ _ _ h]

@[simp] theorem State.cap_mod_self (s : State) (k : Nat) (f : CapSt → CapSt) (h : k < s.caps.length) :
    (s.modCap k f).cap k = f (s.cap k) := by
  simp [State.cap, State.modCap, List.getD_eq_getElem?_getD, lmod_self, List.getElem?_eq_getElem h]

theorem State.modRider_eq (s : State) (k : Nat) (f : RiderSt → RiderSt) :
    s.modRider k f = { s with riders := lmod s.riders k f } := rfl

@[simp] theorem State.rider_mod_other (s : State) (k j : Nat) (f : RiderSt → RiderSt) (h : j ≠ k) :
    (s.modRider k f).rider j = s.rider j := by
  simp only [State.rider, State.modRider, List.getD_eq_getElem?_getD, lmod_other _ _ _ _ h]

@[simp] theorem State.rider_mod_self (s : State) (k : Nat) (f : RiderSt → RiderSt) (h : k < s.riders.length) :
    (s.modRider k f).rider k = f (s.rider k) := by
  simp [State.rider, State.modRider, List.getD_eq_getElem?_getD, lmod_self, List.getElem?_eq_getElem h]

theorem State.modHead_eq (s : State) (k : Nat) (f : HeadSt → HeadSt) :
    s.modHead k f = { s with heads := lmod s.heads k f } := rfl

@[simp] theorem State.head_mod_other (s : State) (k j : Nat) (f : HeadSt → HeadSt) (h : j ≠ k) :
    (s.modHead k f).head j = s.head j := by
  simp only [State.head, State.modHead, List.getD_eq_getElem?_getD, lmod_other _ _ _ _ h]

@[simp] theorem State.head_mod_self (s : State) (k : Nat) (f : HeadSt → HeadSt) (h : k < s.heads.length) :
    (s.modHead k f).head k = f (s.head k) := by
  simp [State.head, State.modHead, List.getD_eq_getElem?_getD, lmod_self, List.getElem?_eq_getElem h]

theorem State.modCulvert_eq (s : State) (k : Nat) (f : CulvertSt → CulvertSt) :
    s.modCulvert k f = { s with culverts := lmod s.culverts k f } := rfl

@[simp] theorem State.culvert_mod_other (s : State) (k j : Nat) (f : CulvertSt → CulvertSt) (h : j ≠ k) :
    (s.modCulvert k f).culvert j = s.culvert j := by
  simp only [State.culvert, State.modCulvert, List.getD_eq_getElem?_getD, lmod_other _ _ _ _ h]

@[simp] theorem State.culvert_mod_self (s : State) (k : Nat) (f : CulvertSt → CulvertSt) (h : k < s.culverts.length) :
    (s.modCulvert k f).culvert k = f (s.culvert k) := by
  simp [State.culvert, State.modCulvert, List.getD_eq_getElem?_getD, lmod_self, List.getElem?_eq_getElem h]

theorem State.modStack_eq (s : State) (k : Nat) (f : StackSt → StackSt) :
    s.modStack k f = { s with dramStacks := lmod s.dramStacks k f } := rfl

@[simp] theorem State.stack_mod_other (s : State) (k j : Nat) (f : StackSt → StackSt) (h : j ≠ k) :
    (s.modStack k f).stack j = s.stack j := by
  simp only [State.stack, State.modStack, List.getD_eq_getElem?_getD, lmod_other _ _ _ _ h]

@[simp] theorem State.stack_mod_self (s : State) (k : Nat) (f : StackSt → StackSt) (h : k < s.dramStacks.length) :
    (s.modStack k f).stack k = f (s.stack k) := by
  simp [State.stack, State.modStack, List.getD_eq_getElem?_getD, lmod_self, List.getElem?_eq_getElem h]

theorem State.modReachMem_eq (s : State) (k : Nat) (f : ReachMem → ReachMem) :
    s.modReachMem k f = { s with rmem := lmod s.rmem k f } := rfl

@[simp] theorem State.reachMem_mod_other (s : State) (k j : Nat) (f : ReachMem → ReachMem) (h : j ≠ k) :
    (s.modReachMem k f).reachMem j = s.reachMem j := by
  simp only [State.reachMem, State.modReachMem, List.getD_eq_getElem?_getD, lmod_other _ _ _ _ h]

@[simp] theorem State.reachMem_mod_self (s : State) (k : Nat) (f : ReachMem → ReachMem) (h : k < s.rmem.length) :
    (s.modReachMem k f).reachMem k = f (s.reachMem k) := by
  simp [State.reachMem, State.modReachMem, List.getD_eq_getElem?_getD, lmod_self, List.getElem?_eq_getElem h]

end Sys2Proof.Machine
end

