-- ==== Sys2Proof/Laws/Keeps.lean ====
section
/-! SUPPORT. What no ordinary operation touches: the mode, the queue, the fused identity, the frame store and the sizes of the
banks. -/
set_option linter.unusedSimpArgs false
namespace Sys2Proof.Machine

/-- What most operations leave alone. -/
structure Key where
  mode : Mode × Mode × Mode × Bool
  queue : List Instr
  identity : Variant × BitVec 8 × BitVec 64 × List Spares
  store : List Host.Cell
  stamps : Tab CapSlot
  sizes : List Nat
  rare : Repair × Bool × Readback × RiderDev × JtagSt × BitVec 32 × List DomainSt

/-- What is left of a key without the mode and the state that only a few commands change. -/
def Key.base (k : Key) : Key := { k with mode := State.reset.mode.regs, rare := (Repair.reset, false, Readback.reset, RiderDev.reset, JtagSt.reset, 0#32, []) }

/-- The key with another mode. -/
def Key.inMode (k : Key) (m : Mode × Mode × Mode × Bool) : Key := { k with mode := m }

@[simp] theorem Key.inMode_inMode (k : Key) (m n : Mode × Mode × Mode × Bool) : (k.inMode m).inMode n = k.inMode n := rfl
@[simp] theorem Key.inMode_mode (k : Key) (m : Mode × Mode × Mode × Bool) : (k.inMode m).mode = m := rfl

/-- The key of parts of a state. -/
def keyOf (m : Mode × Mode × Mode × Bool) (q : List Instr) (i : Variant × BitVec 8 × BitVec 64 × List Spares) (d : List Host.Cell) (c : Tab CapSlot) (x : Repair × Bool × Readback × RiderDev × JtagSt × BitVec 32 × List DomainSt)
    (n0 n1 n2 n3 n4 n5 n6 n7 n8 n9 n10 : Nat) : Key :=
  ⟨m, q, i, d, c, [n0, n1, n2, n3, n4, n5, n6, n7, n8, n9, n10], x⟩

/-- The key of a state. -/
def State.key (s : State) : Key :=
  keyOf (s.mode.current, s.mode.base, s.mode.target, s.mode.busy) s.pending s.fused.identity s.dram s.capStamps (s.repair, s.remap, s.readback, s.riderDev, s.jtag, s.mode.heartbeat, s.domains) s.rings.length s.domains.length s.buses.length s.planes.length s.refs.length s.caps.length s.riders.length s.heads.length s.culverts.length s.dramStacks.length s.rmem.length

theorem State.key_fold (s : State) :
    keyOf (s.mode.current, s.mode.base, s.mode.target, s.mode.busy) s.pending s.fused.identity s.dram s.capStamps (s.repair, s.remap, s.readback, s.riderDev, s.jtag, s.mode.heartbeat, s.domains) s.rings.length s.domains.length s.buses.length s.planes.length s.refs.length s.caps.length s.riders.length s.heads.length s.culverts.length s.dramStacks.length s.rmem.length = s.key := Eq.trans rfl rfl

theorem State.key_mk v0 v1 v2 v3 v4 v5 v6 v7 v8 v9 v10 v11 v12 v13 v14 v15 v16 v17 v18 v19 v20 v21 v22 v23 v24 v25 v26 v27 v28 v29 v30 v31 v32 v33 v34 v35 v36 v37 v38 v39 v40 v41 v42 v43 v44 v45 v46 v47 v48 v49 v50 v51 v52 v53 v54 v55 v56 v57 v58 v59 v60 v61 v62 :
    State.key (State.mk v0 v1 v2 v3 v4 v5 v6 v7 v8 v9 v10 v11 v12 v13 v14 v15 v16 v17 v18 v19 v20 v21 v22 v23 v24 v25 v26 v27 v28 v29 v30 v31 v32 v33 v34 v35 v36 v37 v38 v39 v40 v41 v42 v43 v44 v45 v46 v47 v48 v49 v50 v51 v52 v53 v54 v55 v56 v57 v58 v59 v60 v61 v62) =
      keyOf (v4.current, v4.base, v4.target, v4.busy) v62 v13.identity v51 v52 (v14, v53, v47, v40, v61, v4.heartbeat, v9) v5.length v9.length v24.length v29.length v31.length v33.length v39.length v45.length v48.length v49.length v50.length := Eq.trans rfl rfl

theorem Key.base_of m q i d c x n0 n1 n2 n3 n4 n5 n6 n7 n8 n9 n10 : (keyOf m q i d c x n0 n1 n2 n3 n4 n5 n6 n7 n8 n9 n10).base =
    keyOf State.reset.mode.regs q i d c (Repair.reset, false, Readback.reset, RiderDev.reset, JtagSt.reset, 0#32, []) n0 n1 n2 n3 n4 n5 n6 n7 n8 n9 n10 := Eq.trans rfl rfl

theorem State.base_fold (s : State) :
    keyOf State.reset.mode.regs s.pending s.fused.identity s.dram s.capStamps (Repair.reset, false, Readback.reset, RiderDev.reset, JtagSt.reset, 0#32, []) s.rings.length s.domains.length s.buses.length s.planes.length s.refs.length s.caps.length s.riders.length s.heads.length s.culverts.length s.dramStacks.length s.rmem.length = s.key.base := Eq.trans rfl rfl

theorem State.key_ite {c : Prop} [Decidable c] (a b : State) : (if c then a else b).key = if c then a.key else b.key :=
  apply_ite State.key c a b

@[simp] theorem State.each_key {α : Type} (s : State) (l : List α) (f : State → α → State) (h : ∀ t x, (f t x).key = t.key) :
    (s.each l f).key = s.key := by
  induction l generalizing s with
  | nil => rfl
  | cons x l ih => exact (ih (f s x)).trans (h s x)

@[simp] theorem State.when_key (s : State) (c : Bool) (f : State → State) (h : ∀ t, (f t).key = t.key) : (s.when c f).key = s.key := by
  cases c
  · rfl
  · exact h s


@[simp] theorem State.each_base {α : Type} (s : State) (l : List α) (f : State → α → State) (h : ∀ t x, (f t x).key.base = t.key.base) :
    (s.each l f).key.base = s.key.base := by
  induction l generalizing s with
  | nil => rfl
  | cons x l ih => exact (ih (f s x)).trans (h s x)

@[simp] theorem State.when_base (s : State) (c : Bool) (f : State → State) (h : ∀ t, (f t).key.base = t.key.base) :
    (s.when c f).key.base = s.key.base := by
  cases c
  · rfl
  · exact h s

@[simp] theorem State.modSrc_key (s : State) (k : Nat) (f : SrcSt → SrcSt) :
    (State.modSrc s k f).key = s.key := by
  unfold State.modSrc
  simp [↓State.key_ite, ↓State.key_mk, State.key_fold]

@[simp] theorem State.modDst_key (s : State) (k : Nat) (f : DstSt → DstSt) :
    (State.modDst s k f).key = s.key := by
  unfold State.modDst
  simp [↓State.key_ite, ↓State.key_mk, State.key_fold]

@[simp] theorem State.modAin_key (s : State) (k : Nat) (f : AinSt → AinSt) :
    (State.modAin s k f).key = s.key := by
  unfold State.modAin
  simp [↓State.key_ite, ↓State.key_mk, State.key_fold]

@[simp] theorem State.modAout_key (s : State) (k : Nat) (f : AoutSt → AoutSt) :
    (State.modAout s k f).key = s.key := by
  unfold State.modAout
  simp [↓State.key_ite, ↓State.key_mk, State.key_fold]

@[simp] theorem State.modAport_key (s : State) (k : Nat) (f : AportSt → AportSt) :
    (State.modAport s k f).key = s.key := by
  unfold State.modAport
  simp [↓State.key_ite, ↓State.key_mk, State.key_fold]

@[simp] theorem State.modLane_key (s : State) (k : Nat) (f : LaneSt → LaneSt) :
    (State.modLane s k f).key = s.key := by
  unfold State.modLane
  simp [↓State.key_ite, ↓State.key_mk, State.key_fold]

@[simp] theorem State.modPort_key (s : State) (k : Nat) (f : PortSt → PortSt) :
    (State.modPort s k f).key = s.key := by
  unfold State.modPort
  simp [↓State.key_ite, ↓State.key_mk, State.key_fold]

@[simp] theorem State.modFlow_key (s : State) (k : Nat) (f : FlowSt → FlowSt) :
    (State.modFlow s k f).key = s.key := by
  unfold State.modFlow
  simp [↓State.key_ite, ↓State.key_mk, State.key_fold]

@[simp] theorem State.modQueue_key (s : State) (k : Nat) (f : QueueSt → QueueSt) :
    (State.modQueue s k f).key = s.key := by
  unfold State.modQueue
  simp [↓State.key_ite, ↓State.key_mk, State.key_fold]

@[simp] theorem State.modGate_key (s : State) (k : Nat) (f : GateSt → GateSt) :
    (State.modGate s k f).key = s.key := by
  unfold State.modGate
  simp [↓State.key_ite, ↓State.key_mk, State.key_fold]

@[simp] theorem State.modTrig_key (s : State) (k : Nat) (f : TrigSt → TrigSt) :
    (State.modTrig s k f).key = s.key := by
  unfold State.modTrig
  simp [↓State.key_ite, ↓State.key_mk, State.key_fold]

@[simp] theorem State.modStem_key (s : State) (k : Nat) (f : StemSt → StemSt) :
    (State.modStem s k f).key = s.key := by
  unfold State.modStem
  simp [↓State.key_ite, ↓State.key_mk, State.key_fold]

@[simp] theorem State.modRend_key (s : State) (k : Nat) (f : RendSt → RendSt) :
    (State.modRend s k f).key = s.key := by
  unfold State.modRend
  simp [↓State.key_ite, ↓State.key_mk, State.key_fold]

@[simp] theorem State.modDeliv_key (s : State) (k : Nat) (f : DelivSt → DelivSt) :
    (State.modDeliv s k f).key = s.key := by
  unfold State.modDeliv
  simp [↓State.key_ite, ↓State.key_mk, State.key_fold]

@[simp] theorem State.modCore_key (s : State) (k : Nat) (f : Core → Core) :
    (State.modCore s k f).key = s.key := by
  unfold State.modCore
  simp [↓State.key_ite, ↓State.key_mk, State.key_fold]

@[simp] theorem State.modJob_key (s : State) (k : Nat) (f : JobSt → JobSt) :
    (State.modJob s k f).key = s.key := by
  unfold State.modJob
  simp [↓State.key_ite, ↓State.key_mk, State.key_fold]

@[simp] theorem State.modHostFlow_key (s : State) (k : Nat) (f : HostFlow → HostFlow) :
    (State.modHostFlow s k f).key = s.key := by
  unfold State.modHostFlow
  simp [↓State.key_ite, ↓State.key_mk, State.key_fold]

@[simp] theorem State.modCtx_key (s : State) (k : Nat) (f : CtxSt → CtxSt) :
    (State.modCtx s k f).key = s.key := by
  unfold State.modCtx
  simp [↓State.key_ite, ↓State.key_mk, State.key_fold]

@[simp] theorem State.modLayer_key (s : State) (k : Nat) (f : LayerSt → LayerSt) :
    (State.modLayer s k f).key = s.key := by
  unfold State.modLayer
  simp [↓State.key_ite, ↓State.key_mk, State.key_fold]

@[simp] theorem State.modGauge_key (s : State) (k : Nat) (f : GaugeSt → GaugeSt) :
    (State.modGauge s k f).key = s.key := by
  unfold State.modGauge
  simp [↓State.key_ite, ↓State.key_mk, State.key_fold]

@[simp] theorem State.modRing_key (s : State) (k : Nat) (f : Ring → Ring) :
    (State.modRing s k f).key = s.key := by
  unfold State.modRing
  simp [↓State.key_ite, ↓State.key_mk, State.key_fold]

@[simp] theorem State.modDomain_base (s : State) (k : Nat) (f : DomainSt → DomainSt) :
    (State.modDomain s k f).key.base = s.key.base := by
  unfold State.modDomain
  simp [↓State.key_ite, ↓apply_ite Key.base, ↓State.key_mk, State.key_fold, Key.base_of, State.base_fold]

@[simp] theorem State.modBus_key (s : State) (k : Nat) (f : I2cBus → I2cBus) :
    (State.modBus s k f).key = s.key := by
  unfold State.modBus
  simp [↓State.key_ite, ↓State.key_mk, State.key_fold]

@[simp] theorem State.modPlane_key (s : State) (k : Nat) (f : PlaneSt → PlaneSt) :
    (State.modPlane s k f).key = s.key := by
  unfold State.modPlane
  simp [↓State.key_ite, ↓State.key_mk, State.key_fold]

@[simp] theorem State.modRef_key (s : State) (k : Nat) (f : RefSt → RefSt) :
    (State.modRef s k f).key = s.key := by
  unfold State.modRef
  simp [↓State.key_ite, ↓State.key_mk, State.key_fold]

@[simp] theorem State.modCap_key (s : State) (k : Nat) (f : CapSt → CapSt) :
    (State.modCap s k f).key = s.key := by
  unfold State.modCap
  simp [↓State.key_ite, ↓State.key_mk, State.key_fold]

@[simp] theorem State.modRider_key (s : State) (k : Nat) (f : RiderSt → RiderSt) :
    (State.modRider s k f).key = s.key := by
  unfold State.modRider
  simp [↓State.key_ite, ↓State.key_mk, State.key_fold]

@[simp] theorem State.modHead_key (s : State) (k : Nat) (f : HeadSt → HeadSt) :
    (State.modHead s k f).key = s.key := by
  unfold State.modHead
  simp [↓State.key_ite, ↓State.key_mk, State.key_fold]

@[simp] theorem State.modCulvert_key (s : State) (k : Nat) (f : CulvertSt → CulvertSt) :
    (State.modCulvert s k f).key = s.key := by
  unfold State.modCulvert
  simp [↓State.key_ite, ↓State.key_mk, State.key_fold]

@[simp] theorem State.modStack_key (s : State) (k : Nat) (f : StackSt → StackSt) :
    (State.modStack s k f).key = s.key := by
  unfold State.modStack
  simp [↓State.key_ite, ↓State.key_mk, State.key_fold]

@[simp] theorem State.modReachMem_key (s : State) (k : Nat) (f : ReachMem → ReachMem) :
    (State.modReachMem s k f).key = s.key := by
  unfold State.modReachMem
  simp [↓State.key_ite, ↓State.key_mk, State.key_fold]

end Sys2Proof.Machine
end

