-- ==== Sys2Proof/Laws/KeepsOps.lean ====
section
/-! SUPPORT. The operations of Machine/Ops.lean leave the queue, the identity, the frame store and the bank sizes alone. -/
set_option linter.unusedSimpArgs false
set_option linter.unusedVariables false
namespace Sys2Proof.Machine

@[simp] theorem State.advanceTo_key (s : State) (ns : Nat) :
    (State.advanceTo s ns).key = s.key := by
  unfold State.advanceTo
  simp [↓State.key_ite, ↓State.key_mk, State.key_fold]

@[simp] theorem State.advanceBy_key (s : State) (ns : Nat) :
    (State.advanceBy s ns).key = s.key := by
  simp [State.advanceBy]

@[simp] theorem State.free_key (s : State) :
    (State.free s).2.key = s.key := by
  unfold State.free
  simp [↓State.key_ite, ↓State.key_mk, State.key_fold]

@[simp] theorem State.freeB_key (s : State) :
    (State.freeB s).2.key = s.key := by
  unfold State.freeB
  simp [↓State.key_ite, ↓State.key_mk, State.key_fold]

@[simp] theorem State.emit_key (s : State) (o : Out) :
    (State.emit s o).key = s.key := by
  unfold State.emit
  simp [↓State.key_ite, ↓State.key_mk, State.key_fold]

@[simp] theorem State.hostWrite_key (s : State) (addr : Nat) (b : Bytes) :
    (State.hostWrite s addr b).key = s.key := by
  unfold State.hostWrite
  simp [↓State.key_ite, ↓State.key_mk, State.key_fold]

@[simp] theorem State.count_key (s : State) (id unit n : Nat) :
    (State.count s id unit n).key = s.key := by
  unfold State.count
  simp [↓State.key_ite, ↓State.key_mk, State.key_fold]

@[simp] theorem State.cntClear_key (s : State) (id unit : Nat) :
    (State.cntClear s id unit).key = s.key := by
  unfold State.cntClear
  simp [↓State.key_ite, ↓State.key_mk, State.key_fold]

@[simp] theorem State.modAlarm_key (s : State) (id unit : Nat) (f : AlarmSt → AlarmSt) :
    (State.modAlarm s id unit f).key = s.key := by
  unfold State.modAlarm
  simp [↓State.key_ite, ↓State.key_mk, State.key_fold]

@[simp] theorem State.message_key (s : State) (v : Nat) :
    (State.message s v).key = s.key := by
  unfold State.message
  simp [↓State.key_ite, ↓State.key_mk, State.key_fold]

@[simp] theorem State.interrupt_key (s : State) (src : Nat) :
    (State.interrupt s src).key = s.key := by
  unfold State.interrupt
  simp [↓State.key_ite, ↓State.key_mk, State.key_fold]

@[simp] theorem State.stormDrop_key (s : State) (trace : Bool) :
    (State.stormDrop s trace).key = s.key := by
  unfold State.stormDrop
  simp [↓State.key_ite, ↓State.key_mk, State.key_fold]

@[simp] theorem State.writeEvent_key (s : State) (e : Ev) :
    (State.writeEvent s e).key = s.key := by
  simp [State.writeEvent]

@[simp] theorem State.event_key (s : State) (e : Ev) :
    (State.event s e).key = s.key := by
  unfold State.event
  simp [↓State.key_ite, ↓State.key_mk, State.key_fold]

@[simp] theorem State.summaryChanged_key (old s : State) :
    (State.summaryChanged old s).key = s.key := by
  unfold State.summaryChanged
  simp [↓State.key_ite, ↓State.key_mk, State.key_fold]

@[simp] theorem State.raise_key (s : State) (id unit : Nat) :
    (State.raise s id unit).key = s.key := by
  unfold State.raise
  simp [↓State.key_ite, ↓State.key_mk, State.key_fold]

@[simp] theorem State.clearAlarm_key (s : State) (id unit : Nat) :
    (State.clearAlarm s id unit).key = s.key := by
  unfold State.clearAlarm
  simp [↓State.key_ite, ↓State.key_mk, State.key_fold]

end Sys2Proof.Machine
end

