-- ==== Sys2Proof/Laws/KeepsFlags.lean ====
section
/-! SUPPORT. The operations of Machine/Flags.lean leave the queue, the identity, the frame store and the bank sizes alone. -/
set_option linter.unusedSimpArgs false
set_option linter.unusedVariables false
namespace Sys2Proof.Machine

@[simp] theorem State.replyRing_key (s : State) (n verb : Nat) (r : Request) (a : Answer) :
    (State.replyRing s n verb r a).key = s.key := by
  unfold State.replyRing
  dsimp only
  repeat' split
  all_goals first
    | (with_reducible rfl)
    | simp [↓State.key_ite, ↓State.key_mk, State.key_fold]

@[simp] theorem State.reply_key (s : State) (verb : Nat) (r : Request) (a : Answer) :
    (State.reply s verb r a).key = s.key := by
  unfold State.reply
  split <;> simp [↓State.key_ite, ↓State.key_mk, State.key_fold]

@[simp] theorem State.ringError_key (s : State) (n bit : Nat) :
    (State.ringError s n bit).key = s.key := by
  simp [State.ringError]

@[simp] theorem State.logFault_key (s : State) :
    (State.logFault s).key = s.key := by
  simp [State.logFault]

@[simp] theorem State.noteFetch_key (s : State) (r : Request) (a : Answer) :
    (State.noteFetch s r a).key = s.key := by
  unfold State.noteFetch
  repeat' split
  all_goals first
    | (with_reducible rfl)
    | simp [↓State.key_ite, ↓State.key_mk, State.key_fold]

@[simp] theorem respond_key (q : ReqSpec) (c : Call) (s : State) (h : (q.body c s).2.key = s.key) :
    (respond q c s).key = s.key := by
  unfold respond
  dsimp only
  repeat' split
  all_goals simp [h]

@[simp] theorem State.takeSlot_key (s : State) (n : Nat) :
    (State.takeSlot s n).key = s.key := by
  simp [State.takeSlot]

@[simp] theorem serve_key (q : ReqSpec) (r : Request) (s : State) (h : ∀ c t, (q.body c t).2.key = t.key) :
    (serve q r s).key = s.key := by
  unfold serve
  repeat' split
  all_goals simp [h]

/-- What a change that leaves the key alone keeps, and the effect of a verb keeps, a request keeps. -/
theorem serve_ind (P : State → Prop) (hk : ∀ u v : State, v.key = u.key → P u → P v) (q : ReqSpec) (r : Request) (s : State)
    (h : ∀ c t, P t → P (q.body c t).2) (hs : P s) : P (serve q r s) := by
  unfold serve respond
  dsimp only
  repeat' split
  all_goals first
    | exact hs
    | (refine hk s _ ?_ hs; simp; done)
    | (refine hk _ _ (State.reply_key _ _ _ _) (h _ _ ?_); first | exact hs | (refine hk s _ ?_ hs; simp; done))

end Sys2Proof.Machine
end

