-- ==== Sys2Proof/Laws/KeepsWeir.lean ====
section
/-! SUPPORT. The operations of Machine/Weir.lean leave the queue, the identity, the frame store and the bank sizes alone. -/
set_option linter.unusedSimpArgs false
set_option linter.unusedVariables false
namespace Sys2Proof.Machine

@[simp] theorem State.fitRing_key (s : State) (k : Nat) :
    (State.fitRing s k).key = s.key := by
  unfold State.fitRing
  simp [↓State.key_ite, ↓State.key_mk, State.key_fold]

@[simp] theorem State.takeConv_key (s u : State) (d : Nat) (h : u.key = s.key) : ((s.takeConv d).getD u).key = s.key := by
  unfold State.takeConv
  split
  · rfl
  · cases s.freeConv (portReach d) with
    | none => exact h
    | some i => rfl

theorem State.takeConv_some_key (s t : State) (d : Nat) (h : s.takeConv d = some t) : t.key = s.key := by
  have := State.takeConv_key s s d rfl
  rwa [h] at this

@[simp] theorem State.dropConv_key (s : State) (d : Nat) :
    (State.dropConv s d).key = s.key := by
  unfold State.dropConv
  simp [↓State.key_ite, ↓State.key_mk, State.key_fold]

@[simp] theorem State.judgeMismatch_key (s : State) (boundary : Bool) (d : Nat) :
    (State.judgeMismatch s boundary d).key = s.key := by
  unfold State.judgeMismatch
  simp [↓State.key_ite, ↓State.key_mk, State.key_fold]

@[simp] theorem State.setFmt_key (s : State) (k : Nat) (f : Fmt) :
    (State.setFmt s k f).key = s.key := by
  unfold State.setFmt
  simp [↓State.key_ite, ↓State.key_mk, State.key_fold]

@[simp] theorem State.loseSource_key (s : State) (k : Nat) :
    (State.loseSource s k).key = s.key := by
  unfold State.loseSource
  simp [↓State.key_ite, ↓State.key_mk, State.key_fold]

@[simp] theorem State.gainSource_key (s : State) (k : Nat) (f : Fmt) (frames : Nat) (pic : Frame) :
    (State.gainSource s k f frames pic).key = s.key := by
  unfold State.gainSource
  simp [↓State.key_ite, ↓State.key_mk, State.key_fold]

@[simp] theorem State.frameDone_key (s : State) (k : Nat) (pic : Frame) :
    (State.frameDone s k pic).key = s.key := by
  simp [State.frameDone]

@[simp] theorem State.produce_key (s : State) (k : Nat) (f : Fmt) (pic : Frame) :
    (State.produce s k f pic).key = s.key := by
  unfold State.produce
  simp [↓State.key_ite, ↓State.key_mk, State.key_fold]

@[simp] theorem State.attach_key (s : State) (k : Nat) (l : List AncPacket) :
    (State.attach s k l).key = s.key := by
  simp [State.attach]

@[simp] theorem State.cutFrame_key (s : State) (k missing : Nat) (got : Picture) :
    (State.cutFrame s k missing got).key = s.key := by
  unfold State.cutFrame
  simp [↓State.key_ite, ↓State.key_mk, State.key_fold]

@[simp] theorem State.dropLane_key (s : State) (k : Nat) :
    (State.dropLane s k).key = s.key := by
  simp [State.dropLane]

@[simp] theorem State.signalLoss_key (s : State) (k missing : Nat) (got : Picture) :
    (State.signalLoss s k missing got).key = s.key := by
  unfold State.signalLoss
  simp [↓State.key_ite, ↓State.key_mk, State.key_fold]

@[simp] theorem State.measured_key (s : State) (k : Nat) (a : Int) (period : Nat) (beyond : List Nat) :
    (State.measured s k a period beyond).key = s.key := by
  unfold State.measured
  simp [↓State.key_ite, ↓State.key_mk, State.key_fold]

@[simp] theorem State.measureSource_key (s : State) (k arrivalNs period : Nat) (beyond : List Nat) :
    (State.measureSource s k arrivalNs period beyond).key = s.key := by
  unfold State.measureSource
  simp [↓State.key_ite, ↓State.key_mk, State.key_fold]

@[simp] theorem State.gangWhole_key (s : State) (lead : Nat) :
    (State.gangWhole s lead).key = s.key := by
  unfold State.gangWhole
  simp [↓State.key_ite, ↓State.key_mk, State.key_fold]

@[simp] theorem State.gangFrame_key (s : State) (lead : Nat) :
    (State.gangFrame s lead).key = s.key := by
  simp [State.gangFrame]

@[simp] theorem State.dissolve_key (s : State) (lead : Nat) :
    (State.dissolve s lead).key = s.key := by
  unfold State.dissolve
  simp [↓State.key_ite, ↓State.key_mk, State.key_fold]

@[simp] theorem State.laneFrame_key (s : State) (k : Nat) (whole : Bool) :
    (State.laneFrame s k whole).key = s.key := by
  unfold State.laneFrame
  simp [↓State.key_ite, ↓State.key_mk, State.key_fold]

@[simp] theorem State.takeVpid_key (s : State) (k : Nat) (f : SourceFrame) :
    (State.takeVpid s k f).key = s.key := by
  unfold State.takeVpid
  simp [↓State.key_ite, ↓State.key_mk, State.key_fold]

@[simp] theorem State.returning_key (s : State) (k : Nat) (f : Fmt) (follows : Bool) (pic : Frame) :
    (State.returning s k f follows pic).key = s.key := by
  unfold State.returning
  simp [↓State.key_ite, ↓State.key_mk, State.key_fold]

@[simp] theorem State.spoiled_key (s : State) (k : Nat) :
    (State.spoiled s k).key = s.key := by
  simp [State.spoiled]

@[simp] theorem State.singleFrame_key (s : State) (k : Nat) (f : SourceFrame) (whole same : Bool) :
    (State.singleFrame s k f whole same).key = s.key := by
  unfold State.singleFrame
  simp [↓State.key_ite, ↓State.key_mk, State.key_fold]

@[simp] theorem State.rillFrame_key (s : State) (k : Nat) (f : SourceFrame) :
    (State.rillFrame s k f).key = s.key := by
  unfold State.rillFrame
  simp [↓State.key_ite, ↓State.key_mk, State.key_fold]

@[simp] theorem State.attachNet_key (s : State) (k stamp : Nat) :
    (State.attachNet s k stamp).key = s.key := by
  simp [State.attachNet]

@[simp] theorem State.netFrame_key (s : State) (k : Nat) (f : SourceFrame) :
    (State.netFrame s k f).key = s.key := by
  unfold State.netFrame
  simp [↓State.key_ite, ↓State.key_mk, State.key_fold]

@[simp] theorem State.sourceFrame_key (s : State) (k : Nat) (f : SourceFrame) :
    (State.sourceFrame s k f).key = s.key := by
  unfold State.sourceFrame
  simp [↓State.key_ite, ↓State.key_mk, State.key_fold]

@[simp] theorem State.generated_key (s : State) (k : Nat) :
    (State.generated s k).key = s.key := by
  unfold State.generated
  simp [↓State.key_ite, ↓State.key_mk, State.key_fold]

@[simp] theorem State.generatorFrame_key (s : State) (k : Nat) :
    (State.generatorFrame s k).key = s.key := by
  unfold State.generatorFrame
  simp [↓State.key_ite, ↓State.key_mk, State.key_fold]

@[simp] theorem State.lossFrameStart_key (s : State) (d : Nat) :
    (State.lossFrameStart s d).key = s.key := by
  simp [State.lossFrameStart]

@[simp] theorem State.sourceFrameStart_key (s : State) (d : Nat) :
    (State.sourceFrameStart s d).key = s.key := by
  unfold State.sourceFrameStart
  simp [↓State.key_ite, ↓State.key_mk, State.key_fold]

@[simp] theorem State.destFrame_key (s : State) (d : Nat) :
    (State.destFrame s d).key = s.key := by
  unfold State.destFrame
  simp [↓State.key_ite, ↓State.key_mk, State.key_fold]

@[simp] theorem State.recirculate_key (s : State) (k : Nat) :
    (State.recirculate s k).key = s.key := by
  unfold State.recirculate
  simp [↓State.key_ite, ↓State.key_mk, State.key_fold]

@[simp] theorem State.judgeBlack_key (s : State) (d : Nat) (black : Bool) (above : Nat) :
    (State.judgeBlack s d black above).key = s.key := by
  unfold State.judgeBlack
  simp [↓State.key_ite, ↓State.key_mk, State.key_fold]

@[simp] theorem State.judgeFreeze_key (s : State) (d : Nat) (same : Bool) (sig : Nat) :
    (State.judgeFreeze s d same sig).key = s.key := by
  unfold State.judgeFreeze
  simp [↓State.key_ite, ↓State.key_mk, State.key_fold]

@[simp] theorem State.probeFrame_key (s : State) (d : Nat) :
    (State.probeFrame s d).key = s.key := by
  unfold State.probeFrame
  simp [↓State.key_ite, ↓State.key_mk, State.key_fold]

@[simp] theorem State.disarmProbe_key (s : State) (d : Nat) :
    (State.disarmProbe s d).key = s.key := by
  unfold State.disarmProbe
  simp [↓State.key_ite, ↓State.key_mk, State.key_fold]

end Sys2Proof.Machine
end

