-- ==== Sys2Proof/Laws/KeepsSluice.lean ====
section
/-! SUPPORT. The operations of Machine/Sluice.lean leave the queue, the identity, the frame store and the bank sizes alone. -/
set_option linter.unusedSimpArgs false
set_option linter.unusedVariables false
namespace Sys2Proof.Machine

@[simp] theorem State.noteDst_key (s : State) (d frame : Nat) :
    (State.noteDst s d frame).key = s.key := by
  simp [State.noteDst]

@[simp] theorem State.landRoute_key (s : State) (d k : Nat) (sync : Bool) :
    (State.landRoute s d k sync).key = s.key := by
  unfold State.landRoute
  simp [↓State.key_ite, ↓State.key_mk, State.key_fold]

@[simp] theorem State.hookLate_key (s : State) (k : Nat) :
    (State.hookLate s k).key = s.key := by
  unfold State.hookLate
  simp [↓State.key_ite, ↓State.key_mk, State.key_fold]

@[simp] theorem State.retune_key (s : State) (d old : Nat) :
    (State.retune s d old).key = s.key := by
  unfold State.retune
  simp [↓State.key_ite, ↓State.key_mk, State.key_fold]

@[simp] theorem State.landDstFormat_key (s : State) (d : Nat) (f : Fmt) :
    (State.landDstFormat s d f).key = s.key := by
  simp [State.landDstFormat]

@[simp] theorem State.landDstDomain_key (s : State) (d e : Nat) :
    (State.landDstDomain s d e).key = s.key := by
  unfold State.landDstDomain
  simp [↓State.key_ite, ↓State.key_mk, State.key_fold]

@[simp] theorem State.choosePath_key (s : State) (members : List Nat) (d : Nat) :
    (State.choosePath s members d).key = s.key := by
  unfold State.choosePath
  simp [↓State.key_ite, ↓State.key_mk, State.key_fold]

@[simp] theorem State.settleConv_key (s0 : State) (d : Nat) :
    (State.settleConv s0 d).key = s0.key := by
  unfold State.settleConv
  simp [↓State.key_ite, ↓State.key_mk, State.key_fold]

@[simp] theorem State.settleDst_key (dom : Nat) (members : List Nat) (s : State) (d : Nat) :
    (State.settleDst dom members s d).key = s.key := by
  simp [State.settleDst]

@[simp] theorem State.stopDecode_key (s : State) :
    (State.stopDecode s).key = s.key := by
  simp [State.stopDecode]

@[simp] theorem State.switchingLine_key (s : State) (d : Nat) :
    (State.switchingLine s d).key = s.key := by
  unfold State.switchingLine
  simp [↓State.key_ite, ↓State.key_mk, State.key_fold]

end Sys2Proof.Machine
end

