-- ==== Sys2Proof/Laws/KeepsParts.lean ====
section
/-! SUPPORT. The operations of Machine/Parts.lean leave the queue, the identity, the frame store and the bank sizes alone. -/
set_option linter.unusedSimpArgs false
set_option linter.unusedVariables false
namespace Sys2Proof.Machine

@[simp] theorem State.release_key (s : State) :
    (State.release s).key = s.key := by
  unfold State.release
  simp [↓State.key_ite, ↓State.key_mk, State.key_fold]

@[simp] theorem State.cancelSettings_key (s : State) (f : Part → Setting → Bool) :
    (State.cancelSettings s f).key = s.key := by
  unfold State.cancelSettings
  simp [↓State.key_ite, ↓State.key_mk, State.key_fold]

@[simp] theorem State.cancelDomain_key (s : State) (d : Nat) :
    (State.cancelDomain s d).key = s.key := by
  unfold State.cancelDomain
  simp [↓State.key_ite, ↓State.key_mk, State.key_fold]

end Sys2Proof.Machine
end

