-- ==== Sys2Proof/Laws/KeepsLateral.lean ====
section
/-! SUPPORT. The operations of Machine/Lateral.lean leave the queue, the identity, the frame store and the bank sizes alone. -/
set_option linter.unusedSimpArgs false
set_option linter.unusedVariables false
namespace Sys2Proof.Machine

@[simp] theorem State.stopAouts_key (s : State) (k fill : Nat) :
    (State.stopAouts s k fill).key = s.key := by
  simp [State.stopAouts]

@[simp] theorem State.startAouts_key (s : State) (k : Nat) :
    (State.startAouts s k).key = s.key := by
  simp [State.startAouts]

@[simp] theorem State.leaveSlip_key (s : State) (k : Nat) :
    (State.leaveSlip s k).key = s.key := by
  unfold State.leaveSlip
  simp [↓State.key_ite, ↓State.key_mk, State.key_fold]

@[simp] theorem State.loseAin_key (s : State) (k : Nat) :
    (State.loseAin s k).key = s.key := by
  unfold State.loseAin
  simp [↓State.key_ite, ↓State.key_mk, State.key_fold]

@[simp] theorem State.enterSlip_key (s : State) (k : Nat) (ratio : Int) :
    (State.enterSlip s k ratio).key = s.key := by
  simp [State.enterSlip]

@[simp] theorem State.gainAin_key (s : State) (k : Nat) (ratio : Int) :
    (State.gainAin s k ratio).key = s.key := by
  unfold State.gainAin
  simp [↓State.key_ite, ↓State.key_mk, State.key_fold]

@[simp] theorem State.measureAin_key (s : State) (k : Nat) (ratio phase : Int) (fill : Nat) :
    (State.measureAin s k ratio phase fill).key = s.key := by
  unfold State.measureAin
  dsimp only
  repeat' split
  all_goals first
    | (with_reducible rfl)
    | simp [↓State.key_ite, ↓State.key_mk, State.key_fold]

@[simp] theorem State.slipAin_key (s : State) (k : Nat) :
    (State.slipAin s k).key = s.key := by
  unfold State.slipAin
  simp [↓State.key_ite, ↓State.key_mk, State.key_fold]

@[simp] theorem State.judgeNonAudio_key (s : State) (k : Nat) :
    (State.judgeNonAudio s k).key = s.key := by
  unfold State.judgeNonAudio
  simp [↓State.key_ite, ↓State.key_mk, State.key_fold]

@[simp] theorem State.putOut_key (s : State) (k first : Nat) (l : List Int) :
    (State.putOut s k first l).key = s.key := by
  unfold State.putOut
  simp [↓State.key_ite, ↓State.key_mk, State.key_fold]

@[simp] theorem State.gainRamp_key (s : State) (k : Nat) (old : AoutSt) (run : AudioRun) :
    (State.gainRamp s k old run).key = s.key := by
  simp [State.gainRamp]

@[simp] theorem State.stepRamp_key (s : State) (k : Nat) (n : Int) (run : AudioRun) :
    (State.stepRamp s k n run).key = s.key := by
  simp [State.stepRamp]

@[simp] theorem State.audioBoundary_key (s : State) (k : Nat) (run : AudioRun) :
    (State.audioBoundary s k run).key = s.key := by
  unfold State.audioBoundary
  simp [↓State.key_ite, ↓State.key_mk, State.key_fold]

@[simp] theorem State.zeroCrossing_key (s : State) (k : Nat) (start : Bool) (run : AudioRun) :
    (State.zeroCrossing s k start run).key = s.key := by
  unfold State.zeroCrossing
  dsimp only
  repeat' split
  all_goals first
    | (with_reducible rfl)
    | simp [↓State.key_ite, ↓State.key_mk, State.key_fold]

@[simp] theorem State.zeroTimeout_key (s : State) (k : Nat) (start : Bool) (run : AudioRun) :
    (State.zeroTimeout s k start run).key = s.key := by
  unfold State.zeroTimeout
  simp [↓State.key_ite, ↓State.key_mk, State.key_fold]

@[simp] theorem State.nonaudioOn_key (s : State) (n dataType : Nat) :
    (State.nonaudioOn s n dataType).key = s.key := by
  unfold State.nonaudioOn
  simp [↓State.key_ite, ↓State.key_mk, State.key_fold]

@[simp] theorem State.nonaudioOff_key (s : State) (n : Nat) :
    (State.nonaudioOff s n).key = s.key := by
  unfold State.nonaudioOff
  simp [↓State.key_ite, ↓State.key_mk, State.key_fold]

@[simp] theorem State.portClockBad_key (s : State) (p bits : Nat) :
    (State.portClockBad s p bits).key = s.key := by
  unfold State.portClockBad
  simp [↓State.key_ite, ↓State.key_mk, State.key_fold]

@[simp] theorem State.portClockGood_key (s : State) (p : Nat) :
    (State.portClockGood s p).key = s.key := by
  unfold State.portClockGood
  simp [↓State.key_ite, ↓State.key_mk, State.key_fold]

@[simp] theorem State.dueAout_key (s : State) (k : Nat) (f : AoutSt → AoutSt) :
    (State.dueAout s k f).key = s.key := by
  simp [State.dueAout]

@[simp] theorem State.followTake_key (s : State) (d : Nat) :
    (State.followTake s d).key = s.key := by
  unfold State.followTake
  simp [↓State.key_ite, ↓State.key_mk, State.key_fold]

@[simp] theorem State.landMask_key (s : State) (p : Nat) (c : SlotMask) :
    (State.landMask s p c).key = s.key := by
  unfold State.landMask
  simp [↓State.key_ite, ↓State.key_mk, State.key_fold]

@[simp] theorem State.startPins_key (s : State) (p : Nat) :
    (State.startPins s p).key = s.key := by
  unfold State.startPins
  simp [↓State.key_ite, ↓State.key_mk, State.key_fold]

@[simp] theorem State.stopPort_key (s old : State) (p : Nat) :
    (State.stopPort s old p).key = s.key := by
  simp [State.stopPort]

end Sys2Proof.Machine
end

