-- ==== Sys2Proof/Laws/KeepsHostRing.lean ====
section
/-! SUPPORT. The operations of Machine/HostRing.lean leave the queue, the identity, the frame store and the bank sizes alone. -/
set_option linter.unusedSimpArgs false
set_option linter.unusedVariables false
namespace Sys2Proof.Machine

@[simp] theorem State.putUnit_key (s : State) (h : HostRing) (unit : Bytes) (i : RecInfo) :
    (State.putUnit s h unit i).1.key = s.key := by
  simp [State.putUnit]

end Sys2Proof.Machine
end

