-- ==== Sys2Proof/Laws/KeepsRider.lean ====
section
/-! SUPPORT. The operations of Machine/Rider.lean leave the queue, the identity, the frame store and the bank sizes alone. -/
set_option linter.unusedSimpArgs false
set_option linter.unusedVariables false
namespace Sys2Proof.Machine

@[simp] theorem State.traceAdd_key (s : State) (n action kind key : Nat) (it : Item) :
    (State.traceAdd s n action kind key it).key = s.key := by
  unfold State.traceAdd
  simp [↓State.key_ite, ↓State.key_mk, State.key_fold]

@[simp] theorem State.traceAlways_key (s : State) (n action kind key : Nat) (it : Item) :
    (State.traceAlways s n action kind key it).key = s.key := by
  simp [State.traceAlways]

@[simp] theorem State.offer_key (s : State) (n : Nat) (it : Item) :
    (State.offer s n it).key = s.key := by
  unfold State.offer
  simp [↓State.key_ite, ↓State.key_mk, State.key_fold]

@[simp] theorem State.offerFirst_key (s : State) (n : Nat) (it : Item) :
    (State.offerFirst s n it).key = s.key := by
  simp [State.offerFirst]

@[simp] theorem State.putEnd_key (s : State) (h : HostRing) :
    (State.putEnd s h).1.key = s.key := by
  unfold State.putEnd
  split <;> simp [↓State.key_ite, ↓State.key_mk, State.key_fold]

@[simp] theorem State.jobEnd_key (s : State) (h cause status : Nat) (quiet : Bool := false) :
    (State.jobEnd s h cause status quiet).key = s.key := by
  unfold State.jobEnd
  dsimp only
  repeat' split
  all_goals first
    | (with_reducible rfl)
    | simp [↓State.key_ite, ↓State.key_mk, State.key_fold]

@[simp] theorem State.offerJob_key (s : State) (h : Nat) :
    (State.offerJob s h).key = s.key := by
  simp [State.offerJob]

@[simp] theorem State.jobStart_key (s : State) (h : Nat) :
    (State.jobStart s h).key = s.key := by
  unfold State.jobStart
  simp [↓State.key_ite, ↓State.key_mk, State.key_fold]

@[simp] theorem State.targetPicture_key (s : State) (it : Item) :
    (State.targetPicture s it).key = s.key := by
  simp [State.targetPicture]

@[simp] theorem State.budgetPicture_key (s : State) (it : Item) :
    (State.budgetPicture s it).key = s.key := by
  simp [State.budgetPicture]

@[simp] theorem State.jobTarget_key (s : State) (h : Nat) :
    (State.jobTarget s h).key = s.key := by
  unfold State.jobTarget
  simp [↓State.key_ite, ↓State.key_mk, State.key_fold]

@[simp] theorem State.dispatchTo_key (s : State) (n kind key : Nat) (it : Item) :
    (State.dispatchTo s n kind key it).key = s.key := by
  unfold State.dispatchTo
  dsimp only
  repeat' split
  all_goals first
    | (with_reducible rfl)
    | simp [↓State.key_ite, ↓State.key_mk, State.key_fold]

@[simp] theorem State.serveCores_key (n kind fuel : Nat) (s : State) : (State.serveCores n kind fuel s).key = s.key := by
  induction fuel generalizing s with
  | zero => rfl
  | succ fuel ih =>
    unfold State.serveCores
    dsimp only
    split
    · rfl
    · split
      · exact (ih _).trans (State.dispatchTo_key _ _ _ _ _)
      · rfl

@[simp] theorem State.riderServe_key (s : State) (n kind : Nat) :
    (State.riderServe s n kind).key = s.key := by
  simp [State.riderServe]

@[simp] theorem State.riderRequest_key (s : State) (n kind idx : Nat) :
    (State.riderRequest s n kind idx).key = s.key := by
  unfold State.riderRequest
  simp [↓State.key_ite, ↓State.key_mk, State.key_fold]

@[simp] theorem State.coreWake_key (s : State) (n kind idx : Nat) :
    (State.coreWake s n kind idx).key = s.key := by
  unfold State.coreWake
  simp [↓State.key_ite, ↓State.key_mk, State.key_fold]

@[simp] theorem State.coreGate_key (s : State) (n kind idx : Nat) :
    (State.coreGate s n kind idx).key = s.key := by
  unfold State.coreGate
  simp [↓State.key_ite, ↓State.key_mk, State.key_fold]

@[simp] theorem State.riderRetry_key (s : State) (n : Nat) :
    (State.riderRetry s n).key = s.key := by
  simp [State.riderRetry]

@[simp] theorem State.preemptCore_key (s : State) (n key : Nat) (keep : Bool) :
    (State.preemptCore s n key keep).key = s.key := by
  unfold State.preemptCore
  split <;> simp [↓State.key_ite, ↓State.key_mk, State.key_fold]

@[simp] theorem State.riderPreempt_key (s : State) (n : Nat) :
    (State.riderPreempt s n).key = s.key := by
  unfold State.riderPreempt
  split <;> simp [↓State.key_ite, ↓State.key_mk, State.key_fold]

@[simp] theorem State.preemptAll_key (s : State) (held : Bool) :
    (State.preemptAll s held).key = s.key := by
  simp [State.preemptAll]

@[simp] theorem State.fenceCore_key (s : State) (n kind idx : Nat) :
    (State.fenceCore s n kind idx).key = s.key := by
  unfold State.fenceCore
  dsimp only
  repeat' split
  all_goals first
    | (with_reducible rfl)
    | simp [↓State.key_ite, ↓State.key_mk, State.key_fold]

end Sys2Proof.Machine
end

