-- ==== Sys2Proof/Laws/KeepsClause.lean ====
section
/-! SUPPORT. The operations of Machine/Clause.lean leave the queue, the identity, the frame store and the bank sizes alone. -/
set_option linter.unusedSimpArgs false
set_option linter.unusedVariables false
namespace Sys2Proof.Machine

@[simp] theorem State.markShed_key (s : State) (n : Nat) :
    (State.markShed s n).key = s.key := by
  simp [State.markShed]

@[simp] theorem State.judgeLoad_key (s : State) (n : Nat) (coreLost : Bool) :
    (State.judgeLoad s n coreLost).key = s.key := by
  unfold State.judgeLoad
  simp [↓State.key_ite, ↓State.key_mk, State.key_fold]

@[simp] theorem State.endStream_key (s : State) (r cause frame : Nat) :
    (State.endStream s r cause frame).key = s.key := by
  simp [State.endStream]

@[simp] theorem State.restartRend_key (s : State) (r frame : Nat) :
    (State.restartRend s r frame).key = s.key := by
  unfold State.restartRend
  simp [↓State.key_ite, ↓State.key_mk, State.key_fold]

@[simp] theorem State.landRend_key (s : State) (r : Nat) (c : RendCfg) (frame : Nat) :
    (State.landRend s r c frame).key = s.key := by
  unfold State.landRend
  simp [↓State.key_ite, ↓State.key_mk, State.key_fold]

@[simp] theorem State.landRate_key (s : State) (r : Nat) (c : RateCfg) (frame : Nat) :
    (State.landRate s r c frame).key = s.key := by
  unfold State.landRate
  simp [↓State.key_ite, ↓State.key_mk, State.key_fold]

@[simp] theorem State.landStem_key (s : State) (k : Nat) (c : StemCfg) (frame : Nat) :
    (State.landStem s k c frame).key = s.key := by
  unfold State.landStem
  simp [↓State.key_ite, ↓State.key_mk, State.key_fold]

@[simp] theorem State.feedTaken_key (s : State) (d frame : Nat) :
    (State.feedTaken s d frame).key = s.key := by
  unfold State.feedTaken
  simp [↓State.key_ite, ↓State.key_mk, State.key_fold]

@[simp] theorem State.clauseBoundary_key (s : State) (d frame : Nat) :
    (State.clauseBoundary s d frame).key = s.key := by
  unfold State.clauseBoundary
  simp [↓State.key_ite, ↓State.key_mk, State.key_fold]

@[simp] theorem State.clauseStop_key (s : State) (stops : Nat → Bool) :
    (State.clauseStop s stops).key = s.key := by
  simp [State.clauseStop]

@[simp] theorem State.keepFeed_key (s : State) (d : Nat) :
    (State.keepFeed s d).key = s.key := by
  unfold State.keepFeed
  simp [↓State.key_ite, ↓State.key_mk, State.key_fold]

@[simp] theorem State.feedStart_key (s : State) (d : Nat) :
    (State.feedStart s d).key = s.key := by
  unfold State.feedStart
  simp [↓State.key_ite, ↓State.key_mk, State.key_fold]

@[simp] theorem State.governed_key (s : State) (k frame : Nat) :
    (State.governed s k frame).key = s.key := by
  unfold State.governed
  simp [↓State.key_ite, ↓State.key_mk, State.key_fold]

@[simp] theorem State.stemRelease_key (s : State) (k : Nat) :
    (State.stemRelease s k).key = s.key := by
  unfold State.stemRelease
  split <;> simp [↓State.key_ite, ↓State.key_mk, State.key_fold]

@[simp] theorem State.codePicture_key (s : State) (r : Nat) (p : RendPic) (q0 : StemPic) (cut : Bool) :
    (State.codePicture s r p q0 cut).key = s.key := by
  unfold State.codePicture
  simp [↓State.key_ite, ↓State.key_mk, State.key_fold]

@[simp] theorem State.analysisEnd_key (s : State) (k : Nat) (p : StemPic) :
    (State.analysisEnd s k p).key = s.key := by
  unfold State.analysisEnd
  first
  | done
  | (simp [↓State.key_ite, ↓State.key_mk, State.key_fold]; done)
  | (((try (dsimp only)); (repeat' split)) <;> first | (with_reducible rfl) | (simp [↓State.key_ite, ↓State.key_mk, State.key_fold]; done))
  | (((try (dsimp only)); (repeat' first
        | (with_reducible rfl) | split | (simp [↓State.key_ite, ↓State.key_mk, State.key_fold]; done)
        | (refine (State.each_key _ _ _ ?_).trans ?_; (intro t x; (try (dsimp only))))
        | (refine (State.when_key _ _ _ ?_).trans ?_; (intro t; (try (dsimp only)))))))

@[simp] theorem State.analysisDeadline_key (s : State) (k : Nat) :
    (State.analysisDeadline s k).key = s.key := by
  unfold State.analysisDeadline
  split <;> simp [↓State.key_ite, ↓State.key_mk, State.key_fold]

@[simp] theorem State.bandDone_key (s : State) (it : Item) :
    (State.bandDone s it).key = s.key := by
  unfold State.bandDone
  split <;> simp [↓State.key_ite, ↓State.key_mk, State.key_fold]

@[simp] theorem State.modPic_key (s : State) (r : Nat) (p : RendPic) (f : RendPic → RendPic) :
    (State.modPic s r p f).key = s.key := by
  simp [State.modPic]

@[simp] theorem State.partitionCut_key (s : State) (r part : Nat) :
    (State.partitionCut s r part).key = s.key := by
  unfold State.partitionCut
  dsimp only
  repeat' split
  all_goals first
    | (with_reducible rfl)
    | simp [↓State.key_ite, ↓State.key_mk, State.key_fold]

@[simp] theorem State.partDone_key (s : State) (it : Item) (o : ItemOutput) :
    (State.partDone s it o).key = s.key := by
  unfold State.partDone
  split <;> simp [↓State.key_ite, ↓State.key_mk, State.key_fold]

@[simp] theorem State.fillerOf_key (s : State) (n : Nat) :
    (State.fillerOf s n).2.key = s.key := by
  unfold State.fillerOf
  split <;> simp [↓State.key_ite, ↓State.key_mk, State.key_fold]

@[simp] theorem State.packDone_key (s : State) (it : Item) (o : ItemOutput) :
    (State.packDone s it o).key = s.key := by
  unfold State.packDone
  dsimp only
  repeat' split
  all_goals first
    | (with_reducible rfl)
    | simp [↓State.key_ite, ↓State.key_mk, State.key_fold]

@[simp] theorem State.rateDone_key (s : State) (it : Item) :
    (State.rateDone s it).key = s.key := by
  simp [State.rateDone]

@[simp] theorem State.noteFloor_key (s : State) (r rows : Nat) :
    (State.noteFloor s r rows).key = s.key := by
  unfold State.noteFloor
  simp [↓State.key_ite, ↓State.key_mk, State.key_fold]

@[simp] theorem State.floorClear_key (s : State) (r : Nat) :
    (State.floorClear s r).key = s.key := by
  unfold State.floorClear
  simp [↓State.key_ite, ↓State.key_mk, State.key_fold]

end Sys2Proof.Machine
end

