-- ==== Sys2Proof/Laws/KeepsLanes.lean ====
section
/-! SUPPORT. The operations of Machine/Lanes.lean leave the queue, the identity, the frame store and the bank sizes alone. -/
set_option linter.unusedSimpArgs false
set_option linter.unusedVariables false
namespace Sys2Proof.Machine

@[simp] theorem State.startLane_key (s : State) (k : Nat) :
    (State.startLane s k).key = s.key := by
  simp [State.startLane]

@[simp] theorem State.quietLane_key (s : State) (k : Nat) :
    (State.quietLane s k).key = s.key := by
  simp [State.quietLane]

@[simp] theorem State.acquireLane_key (s : State) (k : Nat) :
    (State.acquireLane s k).key = s.key := by
  simp [State.acquireLane]

@[simp] theorem State.signalDetect_key (s : State) (k : Nat) :
    (State.signalDetect s k).key = s.key := by
  unfold State.signalDetect
  simp [↓State.key_ite, ↓State.key_mk, State.key_fold]

@[simp] theorem State.laneReady_key (s : State) (k : Nat) :
    (State.laneReady s k).key = s.key := by
  simp [State.laneReady]

@[simp] theorem State.qualifyLane_key (s : State) (k : Nat) :
    (State.qualifyLane s k).key = s.key := by
  simp [State.qualifyLane]

@[simp] theorem State.adaptStep_key (s : State) (k : Nat) (r : AdaptResult) :
    (State.adaptStep s k r).key = s.key := by
  unfold State.adaptStep
  dsimp only
  repeat' split
  all_goals first
    | (with_reducible rfl)
    | simp [↓State.key_ite, ↓State.key_mk, State.key_fold]

@[simp] theorem State.qualifyTimeout_key (s : State) (k : Nat) :
    (State.qualifyTimeout s k).key = s.key := by
  unfold State.qualifyTimeout
  simp [↓State.key_ite, ↓State.key_mk, State.key_fold]

@[simp] theorem State.countCodewords_key (s : State) (k : Nat) (words : List Nat) :
    (State.countCodewords s k words).key = s.key := by
  unfold State.countCodewords
  simp [↓State.key_ite, ↓State.key_mk, State.key_fold]

@[simp] theorem State.fomStep_key (s : State) (k : Nat) (x : LevelStats) :
    (State.fomStep s k x).key = s.key := by
  unfold State.fomStep
  simp [↓State.key_ite, ↓State.key_mk, State.key_fold]

@[simp] theorem State.fomUpdate_key (s : State) (k : Nat) (x : LevelStats) :
    (State.fomUpdate s k x).key = s.key := by
  unfold State.fomUpdate
  simp [↓State.key_ite, ↓State.key_mk, State.key_fold]

@[simp] theorem State.fomClear_key (s : State) (k : Nat) :
    (State.fomClear s k).key = s.key := by
  unfold State.fomClear
  split <;> simp [↓State.key_ite, ↓State.key_mk, State.key_fold]

@[simp] theorem State.laneLoss_key (s : State) (k : Nat) :
    (State.laneLoss s k).key = s.key := by
  unfold State.laneLoss
  simp [↓State.key_ite, ↓State.key_mk, State.key_fold]

@[simp] theorem State.toolStopped_key (s : State) :
    (State.toolStopped s).key = s.key := by
  unfold State.toolStopped
  simp [↓State.key_ite, ↓State.key_mk, State.key_fold]

@[simp] theorem State.eyeDone_key (s : State) (k : Nat) (counts : List Nat) :
    (State.eyeDone s k counts).key = s.key := by
  unfold State.eyeDone
  split <;> simp [↓State.key_ite, ↓State.key_mk, State.key_fold]

@[simp] theorem State.prbsLock_key (s : State) (k : Nat) :
    (State.prbsLock s k).key = s.key := by
  unfold State.prbsLock
  simp [↓State.key_ite, ↓State.key_mk, State.key_fold]

@[simp] theorem State.prbsRelock_key (s : State) (k bits errors symbols : Nat) :
    (State.prbsRelock s k bits errors symbols).key = s.key := by
  unfold State.prbsRelock
  simp [↓State.key_ite, ↓State.key_mk, State.key_fold]

@[simp] theorem State.busStart_key (s : State) (b : Nat) :
    (State.busStart s b).key = s.key := by
  unfold State.busStart
  split <;> simp [↓State.key_ite, ↓State.key_mk, State.key_fold]

@[simp] theorem State.busEnd_key (s : State) (b result written : Nat) (rd : Bytes) :
    (State.busEnd s b result written rd).key = s.key := by
  unfold State.busEnd
  split <;> simp [↓State.key_ite, ↓State.key_mk, State.key_fold]

@[simp] theorem State.i2cEnd_key (s : State) (b : Nat) (r : I2cResult) :
    (State.i2cEnd s b r).key = s.key := by
  unfold State.i2cEnd
  simp [↓State.key_ite, ↓State.key_mk, State.key_fold]

@[simp] theorem State.i2cStretch_key (s : State) (b : Nat) (sdaLow : Bool) :
    (State.i2cStretch s b sdaLow).key = s.key := by
  simp [State.i2cStretch]

@[simp] theorem State.hookStart_key (s : State) (k : Nat) (hd : Bool) :
    (State.hookStart s k hd).key = s.key := by
  unfold State.hookStart
  simp [↓State.key_ite, ↓State.key_mk, State.key_fold]

@[simp] theorem State.clearChecker_key (s : State) (k : Nat) :
    (State.clearChecker s k).key = s.key := by
  simp [State.clearChecker]

@[simp] theorem State.toolOutput_key (s : State) (k : Nat) (t : LaneTools) :
    (State.toolOutput s k t).key = s.key := by
  simp [State.toolOutput]

@[simp] theorem State.leaveTool_key (s : State) (k : Nat) :
    (State.leaveTool s k).key = s.key := by
  unfold State.leaveTool
  simp [↓State.key_ite, ↓State.key_mk, State.key_fold]

end Sys2Proof.Machine
end

