-- ==== Sys2Proof/Laws/KeepsNet.lean ====
section
/-! SUPPORT. The operations of Machine/Net.lean leave the queue, the identity, the frame store and the bank sizes alone. -/
set_option linter.unusedSimpArgs false
set_option linter.unusedVariables false
namespace Sys2Proof.Machine

@[simp] theorem State.startPort_key (s : State) (p : Nat) :
    (State.startPort s p).key = s.key := by
  unfold State.startPort
  dsimp only
  repeat' split
  all_goals first
    | (with_reducible rfl)
    | simp [↓State.key_ite, ↓State.key_mk, State.key_fold]

@[simp] theorem State.dropLink_key (s : State) (p cause : Nat) :
    (State.dropLink s p cause).key = s.key := by
  simp [State.dropLink]

@[simp] theorem State.holdLost_key (s : State) (k : Nat) :
    (State.holdLost s k).key = s.key := by
  unfold State.holdLost
  simp [↓State.key_ite, ↓State.key_mk, State.key_fold]

@[simp] theorem State.report_key (s : State) (p : Nat) (group : Bytes × Bytes) (leave : Bool) :
    (State.report s p group leave).key = s.key := by
  unfold State.report
  simp [↓State.key_ite, ↓State.key_mk, State.key_fold]

@[simp] theorem State.reportNow_key (s : State) (p : Nat) (group : Bytes × Bytes) :
    (State.reportNow s p group).key = s.key := by
  simp [State.reportNow]

@[simp] theorem State.reportChanges_key (old s : State) (p : Nat) :
    (State.reportChanges old s p).key = s.key := by
  simp [State.reportChanges]

@[simp] theorem State.reportRepeat_key (s : State) (p : Nat) :
    (State.reportRepeat s p).key = s.key := by
  unfold State.reportRepeat
  split <;> simp [↓State.key_ite, ↓State.key_mk, State.key_fold]

@[simp] theorem State.landSource_key (s : State) (old c : FlowCfg) :
    (State.landSource s old c).key = s.key := by
  unfold State.landSource
  simp [↓State.key_ite, ↓State.key_mk, State.key_fold]

@[simp] theorem State.wideAudio_key (s : State) (f : Nat) (old c : FlowCfg) :
    (State.wideAudio s f old c).key = s.key := by
  unfold State.wideAudio
  simp [↓State.key_ite, ↓State.key_mk, State.key_fold]

@[simp] theorem State.landAudio_key (s : State) (f : Nat) (old c : FlowCfg) :
    (State.landAudio s f old c).key = s.key := by
  unfold State.landAudio
  simp [↓State.key_ite, ↓State.key_mk, State.key_fold]

@[simp] theorem State.landSet_key (s : State) (f : Nat) (old c : FlowCfg) :
    (State.landSet s f old c).key = s.key := by
  unfold State.landSet
  simp [↓State.key_ite, ↓State.key_mk, State.key_fold]

@[simp] theorem State.landFlow_key (s : State) (f : Nat) (c : FlowCfg) (delivery : Option Nat) (frame : Nat) :
    (State.landFlow s f c delivery frame).key = s.key := by
  unfold State.landFlow
  simp [↓State.key_ite, ↓State.key_mk, State.key_fold]

@[simp] theorem State.linkUp_key (s : State) (p : Nat) :
    (State.linkUp s p).key = s.key := by
  unfold State.linkUp
  simp [↓State.key_ite, ↓State.key_mk, State.key_fold]

@[simp] theorem State.linkDown_key (s : State) (p cause : Nat) :
    (State.linkDown s p cause).key = s.key := by
  unfold State.linkDown
  simp [↓State.key_ite, ↓State.key_mk, State.key_fold]

@[simp] theorem State.savePorts_key (s : State) :
    (State.savePorts s).key = s.key := by
  unfold State.savePorts
  simp [↓State.key_ite, ↓State.key_mk, State.key_fold]

@[simp] theorem State.savePort_key (s : State) (p : Nat) :
    (State.savePort s p).key = s.key := by
  unfold State.savePort
  simp [↓State.key_ite, ↓State.key_mk, State.key_fold]

@[simp] theorem State.police_key (s : State) (f l len : Nat) :
    (State.police s f l len).2.key = s.key := by
  unfold State.police
  dsimp only
  repeat' split
  all_goals first
    | (with_reducible rfl)
    | simp [↓State.key_ite, ↓State.key_mk, State.key_fold]

@[simp] theorem State.mergeIn_key (s : State) (f l : Nat) (r : Rtp) (b : Bytes) :
    (State.mergeIn s f l r b).key = s.key := by
  unfold State.mergeIn
  simp [↓State.key_ite, ↓State.key_mk, State.key_fold]

@[simp] theorem State.legLoss_key (s : State) (f l : Nat) :
    (State.legLoss s f l).key = s.key := by
  unfold State.legLoss
  simp [↓State.key_ite, ↓State.key_mk, State.key_fold]

@[simp] theorem State.legReturn_key (s : State) (f l : Nat) :
    (State.legReturn s f l).key = s.key := by
  unfold State.legReturn
  simp [↓State.key_ite, ↓State.key_mk, State.key_fold]

@[simp] theorem State.flowTimeout_key (s : State) (k : Nat) (got : Picture) :
    (State.flowTimeout s k got).key = s.key := by
  unfold State.flowTimeout
  simp [↓State.key_ite, ↓State.key_mk, State.key_fold]

@[simp] theorem State.flowPacket_key (s : State) (f l len : Nat) (payload : Bytes) :
    (State.flowPacket s f l len payload).key = s.key := by
  unfold State.flowPacket
  dsimp only
  repeat' split
  all_goals first
    | (with_reducible rfl)
    | simp [↓State.key_ite, ↓State.key_mk, State.key_fold]

@[simp] theorem State.portAnswer_key (s : State) (p : Nat) (target : Bytes) :
    (State.portAnswer s p target).key = s.key := by
  unfold State.portAnswer
  simp [↓State.key_ite, ↓State.key_mk, State.key_fold]

@[simp] theorem State.frameRest_key (s : State) (p : Nat) (v6 : Bool) (dst : Bytes) (answer : Bool) :
    (State.frameRest s p v6 dst answer).key = s.key := by
  unfold State.frameRest
  simp [↓State.key_ite, ↓State.key_mk, State.key_fold]

@[simp] theorem State.frameIn_key (s : State) (p : Nat) (e : EthFrame) (rtcp : State → Bytes → Nat → Bytes → Option State)
    (level : State → State) (h : ∀ u a n b t, rtcp u a n b = some t → t.key = u.key) (hl : ∀ u, (level u).key = u.key) :
    (State.frameIn s p e rtcp level).key = s.key := by
  unfold State.frameIn
  dsimp only
  repeat' split
  all_goals first
    | (with_reducible rfl)
    | (rename_i hr; rw [h _ _ _ _ _ hr]; simp; done)
    | simp [hl]

@[simp] theorem State.decoderInput_key (s : State) (f : Nat) :
    (State.decoderInput s f).key = s.key := by
  unfold State.decoderInput
  dsimp only
  repeat' split
  all_goals first
    | (with_reducible rfl)
    | simp [↓State.key_ite, ↓State.key_mk, State.key_fold]

@[simp] theorem State.receiverReport_key (s : State) (f : Nat) :
    (State.receiverReport s f).key = s.key := by
  unfold State.receiverReport
  simp [↓State.key_ite, ↓State.key_mk, State.key_fold]

@[simp] theorem State.chooseMaster_key (s : State) (p : Nat) (m : Option PtpMaster) :
    (State.chooseMaster s p m).key = s.key := by
  unfold State.chooseMaster
  split <;> simp [↓State.key_ite, ↓State.key_mk, State.key_fold]

@[simp] theorem State.followerMessage_key (s : State) (p : Nat) (m : PtpMessage) :
    (State.followerMessage s p m).key = s.key := by
  unfold State.followerMessage
  split <;> simp [↓State.key_ite, ↓State.key_mk, State.key_fold]

@[simp] theorem State.clockForward_key (s : State) (p : Nat) (m : PtpMessage) :
    (State.clockForward s p m).key = s.key := by
  unfold State.clockForward
  simp [↓State.key_ite, ↓State.key_mk, State.key_fold]

@[simp] theorem State.ptpIn_key (s : State) (p : Nat) (m : PtpMessage) :
    (State.ptpIn s p m).key = s.key := by
  unfold State.ptpIn
  simp [↓State.key_ite, ↓State.key_mk, State.key_fold]

@[simp] theorem State.delayReq_key (s : State) (p : Nat) :
    (State.delayReq s p).key = s.key := by
  unfold State.delayReq
  split <;> simp [↓State.key_ite, ↓State.key_mk, State.key_fold]

@[simp] theorem State.announceTimeout_key (s : State) (p : Nat) (best : PtpMaster) :
    (State.announceTimeout s p best).key = s.key := by
  unfold State.announceTimeout
  split <;> simp [↓State.key_ite, ↓State.key_mk, State.key_fold]

end Sys2Proof.Machine
end

