-- ==== Sys2Proof/Laws/KeepsTurnout.lean ====
section
/-! SUPPORT. The operations of Machine/Turnout.lean leave the queue, the identity, the frame store and the bank sizes alone. -/
set_option linter.unusedSimpArgs false
set_option linter.unusedVariables false
namespace Sys2Proof.Machine

@[simp] theorem State.dropOversize_key (s : State) (p : Nat) :
    (State.dropOversize s p).key = s.key := by
  unfold State.dropOversize
  simp [↓State.key_ite, ↓State.key_mk, State.key_fold]

@[simp] theorem State.gateChange_key (s : State) (p : Nat) :
    (State.gateChange s p).key = s.key := by
  unfold State.gateChange
  dsimp only
  repeat' split
  all_goals first
    | (with_reducible rfl)
    | simp [↓State.key_ite, ↓State.key_mk, State.key_fold]

@[simp] theorem State.gateTakes_key (s : State) (p : Nat) (c : GateCfg) (at0 : Nat) :
    (State.gateTakes s p c at0).key = s.key := by
  simp [State.gateTakes]

@[simp] theorem State.gateTakeover_key (s : State) (p : Nat) :
    (State.gateTakeover s p).key = s.key := by
  unfold State.gateTakeover
  split <;> simp [↓State.key_ite, ↓State.key_mk, State.key_fold]

@[simp] theorem State.landGateList_key (s : State) (p : Nat) (c : GateCfg) (ns : Nat) :
    (State.landGateList s p c ns).key = s.key := by
  unfold State.landGateList
  split <;> simp [↓State.key_ite, ↓State.key_mk, State.key_fold]

@[simp] theorem State.enqueue_key (s : State) (p : Nat) (e : EgressFrame) :
    (State.enqueue s p e).key = s.key := by
  unfold State.enqueue
  simp [↓State.key_ite, ↓State.key_mk, State.key_fold]

@[simp] theorem State.egressIn_key (s : State) (p : Nat) (e : EgressFrame) :
    (State.egressIn s p e).key = s.key := by
  unfold State.egressIn
  simp [↓State.key_ite, ↓State.key_mk, State.key_fold]

@[simp] theorem State.deficitTurn_key (s : State) (p fuel : Nat) : (State.deficitTurn s p fuel).2.key = s.key := by
  induction fuel generalizing s with
  | zero => rfl
  | succ fuel ih =>
    unfold State.deficitTurn
    dsimp only
    repeat' split
    all_goals simp [ih]

@[simp] theorem State.sendHead_key (s : State) (p q : Nat) :
    (State.sendHead s p q).key = s.key := by
  unfold State.sendHead
  dsimp only
  repeat' split
  all_goals first
    | (with_reducible rfl)
    | simp [↓State.key_ite, ↓State.key_mk, State.key_fold]

@[simp] theorem State.egressSelect_key (s : State) (p : Nat) : (State.egressSelect s p).key = s.key := by
  unfold State.egressSelect
  dsimp only
  split
  · rfl
  · split
    · simp
    · split
      · have h := State.deficitTurn_key ((s.advanceTo (s.gate p).freeNs).dropOversize p) p 8192
        split
        all_goals
          rename_i e
          rw [e] at h
          simpa using h
      · simp

@[simp] theorem State.delayDrop_key (s : State) (k : Nat) :
    (State.delayDrop s k).key = s.key := by
  unfold State.delayDrop
  dsimp only
  repeat' split
  all_goals first
    | (with_reducible rfl)
    | simp [↓State.key_ite, ↓State.key_mk, State.key_fold]

@[simp] theorem State.discardDuty_key (s : State) (plane : Nat) :
    (State.discardDuty s plane).key = s.key := by
  unfold State.discardDuty
  simp [↓State.key_ite, ↓State.key_mk, State.key_fold]

@[simp] theorem State.sendAs_key (s : State) (f : Nat) (c : FlowCfg) (b : Bytes) :
    (State.sendAs s f c b).key = s.key := by
  unfold State.sendAs
  simp [↓State.key_ite, ↓State.key_mk, State.key_fold]

@[simp] theorem State.sendPacket_key (s : State) (f : Nat) (b : Bytes) :
    (State.sendPacket s f b).key = s.key := by
  unfold State.sendPacket
  simp [↓State.key_ite, ↓State.key_mk, State.key_fold]

@[simp] theorem State.pacerRelease_key (s : State) (f j : Nat) :
    (State.pacerRelease s f j).key = s.key := by
  unfold State.pacerRelease
  dsimp only
  repeat' split
  all_goals first
    | (with_reducible rfl)
    | simp [↓State.key_ite, ↓State.key_mk, State.key_fold]

@[simp] theorem State.audioAncRelease_key (s : State) (f line : Nat) (audio : List (List Int)) (status : List (List Bool)) :
    (State.audioAncRelease s f line audio status).key = s.key := by
  unfold State.audioAncRelease
  simp [↓State.key_ite, ↓State.key_mk, State.key_fold]

@[simp] theorem State.forwardOpaque_key (s : State) (c : FlowCfg) (b : Bytes) :
    (State.forwardOpaque s c b).key = s.key := by
  unfold State.forwardOpaque
  simp [↓State.key_ite, ↓State.key_mk, State.key_fold]

@[simp] theorem State.deliverPacket_key (s : State) (f gap : Nat) (p : Packet) :
    (State.deliverPacket s f gap p).key = s.key := by
  unfold State.deliverPacket
  simp [↓State.key_ite, ↓State.key_mk, State.key_fold]

@[simp] theorem State.mergeRelease_key (s : State) (f : Nat) :
    (State.mergeRelease s f).key = s.key := by
  unfold State.mergeRelease
  dsimp only
  repeat' split
  all_goals first
    | (with_reducible rfl)
    | simp [↓State.key_ite, ↓State.key_mk, State.key_fold]

@[simp] theorem State.queueSample_key (s : State) (p : Nat) :
    (State.queueSample s p).key = s.key := by
  unfold State.queueSample
  simp [↓State.key_ite, ↓State.key_mk, State.key_fold]

end Sys2Proof.Machine
end

