-- ==== Sys2Proof/Laws/KeepsStreams.lean ====
section
/-! SUPPORT. The operations of Machine/Streams.lean leave the queue, the identity, the frame store and the bank sizes alone. -/
set_option linter.unusedSimpArgs false
set_option linter.unusedVariables false
namespace Sys2Proof.Machine

@[simp] theorem State.landDeliv_key (s : State) (d : Nat) (c : DelivCfg) (frame : Nat) :
    (State.landDeliv s d c frame).key = s.key := by
  simp [State.landDeliv]

@[simp] theorem State.tsTables_key (s : State) (d : Nat) :
    (State.tsTables s d).key = s.key := by
  unfold State.tsTables
  simp [↓State.key_ite, ↓State.key_mk, State.key_fold]

@[simp] theorem State.tsPacket_key (s : State) (d : Nat) (whole : Bool) :
    (State.tsPacket s d whole).key = s.key := by
  unfold State.tsPacket
  simp [↓State.key_ite, ↓State.key_mk, State.key_fold]

@[simp] theorem State.tsSend_key (s : State) (d : Nat) :
    (State.tsSend s d).key = s.key := by
  simp [State.tsSend]

@[simp] theorem State.ristReport_key (s : State) (d : Nat) :
    (State.ristReport s d).key = s.key := by
  unfold State.ristReport
  simp [↓State.key_ite, ↓State.key_mk, State.key_fold]

@[simp] theorem State.retransmit_key (d l : Nat) (s : State) (seq : Nat) :
    (State.retransmit d l s seq).key = s.key := by
  unfold State.retransmit
  dsimp only
  repeat' split
  all_goals first
    | (with_reducible rfl)
    | simp [↓State.key_ite, ↓State.key_mk, State.key_fold]

@[simp] theorem State.ristIn_key (p : Nat) (s : State) (_src : Bytes) (dp : Nat) (b : Bytes) :
    ∀ t, State.ristIn p s _src dp b = some t → t.key = s.key := by
  unfold State.ristIn
  split <;> simp [↓State.key_ite, ↓State.key_mk, State.key_fold]

@[simp] theorem State.chunkEvent_key (s : State) (d flags frame : Nat) :
    (State.chunkEvent s d flags frame).key = s.key := by
  unfold State.chunkEvent
  simp [↓State.key_ite, ↓State.key_mk, State.key_fold]

@[simp] theorem State.delivEnd_key (s : State) (d : Nat) :
    (State.delivEnd s d).key = s.key := by
  unfold State.delivEnd
  simp [↓State.key_ite, ↓State.key_mk, State.key_fold]

@[simp] theorem State.discardUnit_key (s : State) (d cause : Nat) :
    (State.discardUnit s d cause).key = s.key := by
  unfold State.discardUnit
  simp [↓State.key_ite, ↓State.key_mk, State.key_fold]

@[simp] theorem State.ringUnit_key (s : State) (d : Nat) (u : UnitInfo) (cons : ConsWord) :
    (State.ringUnit s d u cons).key = s.key := by
  unfold State.ringUnit
  split <;> simp [↓State.key_ite, ↓State.key_mk, State.key_fold]

@[simp] theorem State.delivBegin_key (s : State) (d frame : Nat) :
    (State.delivBegin s d frame).key = s.key := by
  simp [State.delivBegin]

@[simp] theorem State.endStreams_key (s : State) (k : Nat) :
    (State.endStreams s k).key = s.key := by
  simp [State.endStreams]

@[simp] theorem State.delivUnit_key (p : RendPic) (unit : Bytes) (cons : ConsReads) (s : State) (d : Nat) :
    (State.delivUnit p unit cons s d).key = s.key := by
  unfold State.delivUnit
  simp [↓State.key_ite, ↓State.key_mk, State.key_fold]

@[simp] theorem State.releasePicture_key (cons : ConsReads) (s : State) (e : Nat × RendPic) :
    (State.releasePicture cons s e).key = s.key := by
  simp [State.releasePicture]

@[simp] theorem State.deliveryInstant_key (s : State) (k : Nat) (cons : ConsReads) :
    (State.deliveryInstant s k cons).key = s.key := by
  unfold State.deliveryInstant
  split <;> simp [↓State.key_ite, ↓State.key_mk, State.key_fold]

@[simp] theorem State.delivAudio_key (a : Nat) (c : AacCfg) (at0 : Nat) (au : Bytes) (cons : ConsReads) (s : State) (d : Nat) :
    (State.delivAudio a c at0 au cons s d).key = s.key := by
  unfold State.delivAudio
  simp [↓State.key_ite, ↓State.key_mk, State.key_fold]

@[simp] theorem State.aacUnit_key (s : State) (a : Nat) (au : Bytes) (cons : ConsReads) :
    (State.aacUnit s a au cons).key = s.key := by
  unfold State.aacUnit
  simp [↓State.key_ite, ↓State.key_mk, State.key_fold]

end Sys2Proof.Machine
end

