-- ==== Sys2Proof/Laws/KeepsBackfill.lean ====
section
/-! SUPPORT. The operations of Machine/Backfill.lean leave the queue, the identity, the frame store and the bank sizes alone. -/
set_option linter.unusedSimpArgs false
set_option linter.unusedVariables false
namespace Sys2Proof.Machine

@[simp] theorem State.jobAccept_key (s : State) (h owner : Nat) (j : JobSt) :
    (State.jobAccept s h owner j).key = s.key := by
  unfold State.jobAccept
  simp [↓State.key_ite, ↓State.key_mk, State.key_fold]

@[simp] theorem State.jobOutput_key (s : State) (h : Nat) (u : Bytes) (flags sap : Nat) (cons : ConsWord) :
    (State.jobOutput s h u flags sap cons).key = s.key := by
  unfold State.jobOutput
  split <;> simp [↓State.key_ite, ↓State.key_mk, State.key_fold]

@[simp] theorem State.jobPicture_key (s : State) (it : Item) (key : Nat) (o : ItemOutput) (cons : ConsWord) :
    (State.jobPicture s it key o cons).key = s.key := by
  unfold State.jobPicture
  simp [↓State.key_ite, ↓State.key_mk, State.key_fold]

@[simp] theorem State.outputRetry_key (s : State) (h : Nat) (cons : ConsWord) :
    (State.outputRetry s h cons).key = s.key := by
  unfold State.outputRetry
  dsimp only
  repeat' split
  all_goals first
    | (with_reducible rfl)
    | simp [↓State.key_ite, ↓State.key_mk, State.key_fold]

@[simp] theorem State.itemComplete_key (s : State) (n kind idx : Nat) (o : ItemOutput) (cons : ConsWord) :
    (State.itemComplete s n kind idx o cons).key = s.key := by
  unfold State.itemComplete
  dsimp only
  repeat' split
  all_goals first
    | (with_reducible rfl)
    | simp [↓State.key_ite, ↓State.key_mk, State.key_fold]

end Sys2Proof.Machine
end

