-- ==== Sys2Proof/Laws/KeepsLevee.lean ====
section
/-! SUPPORT. The operations of Machine/Levee.lean leave the queue, the identity, the frame store and the bank sizes alone. -/
set_option linter.unusedSimpArgs false
set_option linter.unusedVariables false
namespace Sys2Proof.Machine

@[simp] theorem State.loopFrames_key (s : State) (n : Nat) (o : PlaneObs) :
    (State.loopFrames s n o).key = s.key := by
  simp [State.loopFrames]

theorem State.key_levee (s : State) (x : Levee) : State.key { s with levee := x } = s.key := rfl

@[simp] theorem State.startBridge_key (s : State) (n : Nat) :
    (State.startBridge s n).key = s.key := by
  unfold State.startBridge
  simp [↓State.key_ite, ↓State.key_mk, State.key_fold]

@[simp] theorem State.giveUp_key (s : State) (n : Nat) :
    (State.giveUp s n).key = s.key := by
  unfold State.giveUp
  simp [↓State.key_ite, ↓State.key_mk, State.key_fold]

@[simp] theorem State.judgeHolder_key (s : State) :
    (State.judgeHolder s).key = s.key := by
  unfold State.judgeHolder
  split <;> simp [↓State.key_ite, ↓State.key_mk, State.key_fold]

@[simp] theorem State.judgeNone_key (s : State) :
    (State.judgeNone s).key = s.key := by
  unfold State.judgeNone
  simp [↓State.key_ite, ↓State.key_mk, State.key_fold]

@[simp] theorem State.planeEval_key (s0 : State) (n : Nat) (o : PlaneObs) :
    (State.planeEval s0 n o).key = s0.key := by
  unfold State.planeEval
  simp [↓State.key_ite, ↓State.key_mk, State.key_fold]

@[simp] theorem State.takeUp_key (old s : State) (n : Nat) :
    (State.takeUp old s n).key = s.key := by
  unfold State.takeUp
  simp [↓State.key_ite, ↓State.key_mk, State.key_fold]

@[simp] theorem State.grant_key (s : State) (n kind : Nat) :
    (State.grant s n kind).key = s.key := by
  unfold State.grant
  simp [↓State.key_ite, ↓State.key_mk, State.key_fold]

@[simp] theorem State.leaseRenew_key (s : State) (n : Nat) : (State.leaseRenew s n).key = s.key := by
  unfold State.leaseRenew
  dsimp only
  split
  · split
    · exact (State.key_levee (State.advanceTo _ _) _).trans (State.advanceTo_key _ _)
    · rfl
  · rfl

@[simp] theorem State.leaseExpiry_key (s : State) :
    (State.leaseExpiry s).key = s.key := by
  unfold State.leaseExpiry
  dsimp only
  repeat' split
  all_goals first
    | (with_reducible rfl)
    | simp [↓State.key_ite, ↓State.key_mk, State.key_fold]

@[simp] theorem State.rightRequest_key (s : State) (n : Nat) :
    (State.rightRequest s n).key = s.key := by
  unfold State.rightRequest
  simp [↓State.key_ite, ↓State.key_mk, State.key_fold]

@[simp] theorem State.handbackDue_key (s : State) : (State.handbackDue s).key = s.key := by
  unfold State.handbackDue
  dsimp only
  split
  · split
    · exact (State.key_levee (State.advanceTo _ _) _).trans (State.advanceTo_key _ _)
    · rfl
  · rfl

@[simp] theorem State.transfer_key (s : State) (n kind : Nat) :
    (State.transfer s n kind).key = s.key := by
  unfold State.transfer
  split <;> simp [↓State.key_ite, ↓State.key_mk, State.key_fold]

@[simp] theorem State.handback_key (s : State) :
    (State.handback s).key = s.key := by
  unfold State.handback
  simp [↓State.key_ite, ↓State.key_mk, State.key_fold]

@[simp] theorem State.landPlane_key (s : State) (c : PlaneCfg) :
    (State.landPlane s c).key = s.key := by
  unfold State.landPlane
  simp [↓State.key_ite, ↓State.key_mk, State.key_fold]

@[simp] theorem State.holdEnd_key (s : State) (k : Nat) : (State.holdEnd s k).key = s.key := by
  unfold State.holdEnd
  dsimp only
  split
  · exact (State.each_key _ _ _ (fun t x => State.modDst_key t x _)).trans
      ((State.key_levee (State.advanceTo _ _) _).trans (State.advanceTo_key _ _))
  · rfl

@[simp] theorem State.leveeStop_key (s : State) :
    (State.leveeStop s).key = s.key := by
  unfold State.leveeStop
  simp [↓State.key_ite, ↓State.key_mk, State.key_fold]

@[simp] theorem State.leveeStart_key (s : State) :
    (State.leveeStart s).key = s.key := by
  unfold State.leveeStart
  simp [↓State.key_ite, ↓State.key_mk, State.key_fold]

end Sys2Proof.Machine
end

