-- ==== Sys2Proof/Laws/KeepsHeadgate.lean ====
section
/-! SUPPORT. The operations of Machine/Headgate.lean leave the queue, the identity, the frame store and the bank sizes alone. -/
set_option linter.unusedSimpArgs false
set_option linter.unusedVariables false
namespace Sys2Proof.Machine

@[simp] theorem State.hgSticky_key (s : State) (i : Nat) :
    (State.hgSticky s i).key = s.key := by
  unfold State.hgSticky
  simp [↓State.key_ite, ↓State.key_mk, State.key_fold]

@[simp] theorem State.setFreq_key (s : State) (freq : Int) :
    (State.setFreq s freq).key = s.key := by
  unfold State.setFreq
  simp [↓State.key_ite, ↓State.key_mk, State.key_fold]

@[simp] theorem State.hgEnter_key (s : State) (st : HgState) :
    (State.hgEnter s st).key = s.key := by
  unfold State.hgEnter
  simp [↓State.key_ite, ↓State.key_mk, State.key_fold]

@[simp] theorem State.acquire_key (s : State) :
    (State.acquire s).key = s.key := by
  unfold State.acquire
  simp [↓State.key_ite, ↓State.key_mk, State.key_fold]

@[simp] theorem State.switchRef_key (s : State) (k : Nat) :
    (State.switchRef s k).key = s.key := by
  unfold State.switchRef
  simp [↓State.key_ite, ↓State.key_mk, State.key_fold]

@[simp] theorem State.select_key (s : State) :
    (State.select s).key = s.key := by
  unfold State.select
  first
  | done
  | (simp [↓State.key_ite, ↓State.key_mk, State.key_fold]; done)
  | (((try (dsimp only)); (repeat' split)) <;> first | (with_reducible rfl) | (simp [↓State.key_ite, ↓State.key_mk, State.key_fold]; done))
  | (((try (dsimp only)); (repeat' first
        | (with_reducible rfl) | split | (simp [↓State.key_ite, ↓State.key_mk, State.key_fold]; done)
        | (refine (State.each_key _ _ _ ?_).trans ?_; (intro t x; (try (dsimp only))))
        | (refine (State.when_key _ _ _ ?_).trans ?_; (intro t; (try (dsimp only)))))))

@[simp] theorem State.loseRef_key (s : State) (endNs : Nat) :
    (State.loseRef s endNs).key = s.key := by
  unfold State.loseRef
  split <;> simp [↓State.key_ite, ↓State.key_mk, State.key_fold]

@[simp] theorem State.disqualify_key (s : State) (k cause : Nat) :
    (State.disqualify s k cause).key = s.key := by
  unfold State.disqualify
  simp [↓State.key_ite, ↓State.key_mk, State.key_fold]

@[simp] theorem State.qualify_key (s : State) (k : Nat) :
    (State.qualify s k).key = s.key := by
  simp [State.qualify]

@[simp] theorem State.judgeRanks_key (s : State) :
    (State.judgeRanks s).key = s.key := by
  unfold State.judgeRanks
  simp [↓State.key_ite, ↓State.key_mk, State.key_fold]

@[simp] theorem State.refReading_key (s : State) (k : Nat) (raw : Int) :
    (State.refReading s k raw).key = s.key := by
  unfold State.refReading
  simp [↓State.key_ite, ↓State.key_mk, State.key_fold]

@[simp] theorem State.refQualify_key (s : State) (k : Nat) :
    (State.refQualify s k).key = s.key := by
  unfold State.refQualify
  dsimp only
  repeat' split
  all_goals first
    | (with_reducible rfl)
    | simp [↓State.key_ite, ↓State.key_mk, State.key_fold]

@[simp] theorem State.refLost_key (s : State) (k : Nat) :
    (State.refLost s k).key = s.key := by
  unfold State.refLost
  simp [↓State.key_ite, ↓State.key_mk, State.key_fold]

@[simp] theorem State.rejudgeRefs_key (s : State) (ranked : Bool) :
    (State.rejudgeRefs s ranked).key = s.key := by
  unfold State.rejudgeRefs
  simp [↓State.key_ite, ↓State.key_mk, State.key_fold]

@[simp] theorem State.stepTrigger_key (s : State) (k : Nat) :
    (State.stepTrigger s k).key = s.key := by
  unfold State.stepTrigger
  dsimp only
  repeat' split
  all_goals first
    | (with_reducible rfl)
    | simp [↓State.key_ite, ↓State.key_mk, State.key_fold]

@[simp] theorem State.stepTime_base (s : State) (amount : Int) (written : Bool) :
    (State.stepTime s amount written).key.base = s.key.base := by
  unfold State.stepTime
  simp [↓State.key_ite, ↓apply_ite Key.base, ↓State.key_mk, State.key_fold, Key.base_of, State.base_fold]

@[simp] theorem State.takeOffset_base (s : State) (phase : Int) :
    (State.takeOffset s phase).key.base = s.key.base := by
  unfold State.takeOffset
  simp [↓State.key_ite, ↓apply_ite Key.base, ↓State.key_mk, State.key_fold, Key.base_of, State.base_fold]

@[simp] theorem State.judgePhase_key (s : State) (phase : Int) :
    (State.judgePhase s phase).key = s.key := by
  unfold State.judgePhase
  dsimp only
  repeat' split
  all_goals first
    | (with_reducible rfl)
    | simp [↓State.key_ite, ↓State.key_mk, State.key_fold]

@[simp] theorem State.loopUpdate_base (s : State) (phase freq : Int) :
    (State.loopUpdate s phase freq).key.base = s.key.base := by
  unfold State.loopUpdate
  dsimp only
  repeat' split
  all_goals first
    | (with_reducible rfl)
    | simp [↓State.key_ite, ↓apply_ite Key.base, ↓State.key_mk, State.key_fold, Key.base_of, State.base_fold]

@[simp] theorem State.stagePass_key (s : State) :
    (State.stagePass s).key = s.key := by
  unfold State.stagePass
  dsimp only
  repeat' split
  all_goals first
    | (with_reducible rfl)
    | simp [↓State.key_ite, ↓State.key_mk, State.key_fold]

@[simp] theorem State.narrow_key (s : State) :
    (State.narrow s).key = s.key := by
  unfold State.narrow
  simp [↓State.key_ite, ↓State.key_mk, State.key_fold]

@[simp] theorem State.holdoverExpiry_key (s : State) :
    (State.holdoverExpiry s).key = s.key := by
  unfold State.holdoverExpiry
  simp [↓State.key_ite, ↓State.key_mk, State.key_fold]

@[simp] theorem State.historyRecord_key (s : State) (f : Int) :
    (State.historyRecord s f).key = s.key := by
  unfold State.historyRecord
  dsimp only
  repeat' split
  all_goals first
    | (with_reducible rfl)
    | simp [↓State.key_ite, ↓State.key_mk, State.key_fold]

@[simp] theorem State.ptpOffset_base (s : State) (offset : Int) (identity clockClass : Nat) :
    (State.ptpOffset s offset identity clockClass).key.base = s.key.base := by
  unfold State.ptpOffset
  simp [↓State.key_ite, ↓apply_ite Key.base, ↓State.key_mk, State.key_fold, Key.base_of, State.base_fold]

@[simp] theorem State.bridgeTimeout_key (s : State) :
    (State.bridgeTimeout s).key = s.key := by
  unfold State.bridgeTimeout
  split <;> simp [↓State.key_ite, ↓State.key_mk, State.key_fold]

@[simp] theorem State.hgSleep_key (s : State) :
    (State.hgSleep s).key = s.key := by
  unfold State.hgSleep
  simp [↓State.key_ite, ↓State.key_mk, State.key_fold]

@[simp] theorem State.capEdge_key (s : State) (n : Nat) (falling : Bool) :
    (State.capEdge s n falling).key = s.key := by
  unfold State.capEdge
  simp [↓State.key_ite, ↓State.key_mk, State.key_fold]

@[simp] theorem State.triggerFire_key (s : State) (k : Nat) :
    (State.triggerFire s k).key = s.key := by
  unfold State.triggerFire
  dsimp only
  repeat' split
  all_goals first
    | (with_reducible rfl)
    | simp [↓State.key_ite, ↓State.key_mk, State.key_fold]

@[simp] theorem State.ppsPulse_key (s : State) :
    (State.ppsPulse s).key = s.key := by
  unfold State.ppsPulse
  simp [↓State.key_ite, ↓State.key_mk, State.key_fold]

@[simp] theorem State.saveRefs_key (s : State) :
    (State.saveRefs s).key = s.key := by
  unfold State.saveRefs
  simp [↓State.key_ite, ↓State.key_mk, State.key_fold]

@[simp] theorem State.writtenStep_base (s : State) (amount : Int) :
    (State.writtenStep s amount).key.base = s.key.base := by
  unfold State.writtenStep
  split <;> simp [↓State.key_ite, ↓apply_ite Key.base, ↓State.key_mk, State.key_fold, Key.base_of, State.base_fold]

@[simp] theorem State.followDomain_key (s : State) (d : Nat) :
    (State.followDomain s d).key = s.key := by
  simp [State.followDomain]

end Sys2Proof.Machine
end

