-- ==== Sys2Proof/Laws/KeepsCalset.lean ====
section
/-! SUPPORT. The operations of Machine/Calset.lean leave the queue, the identity, the frame store and the bank sizes alone. -/
set_option linter.unusedSimpArgs false
set_option linter.unusedVariables false
namespace Sys2Proof.Machine

@[simp] theorem State.calWrite_key (s : State) (b : Bytes) :
    (State.calWrite s b).key = s.key := by
  unfold State.calWrite
  simp [↓State.key_ite, ↓State.key_mk, State.key_fold]

@[simp] theorem State.calLoad_key (s : State) :
    (State.calLoad s).key = s.key := by
  unfold State.calLoad
  simp [↓State.key_ite, ↓State.key_mk, State.key_fold]

@[simp] theorem State.calConvert_key (s : State) (format : Nat) :
    (State.calConvert s format).key = s.key := by
  unfold State.calConvert
  simp [↓State.key_ite, ↓State.key_mk, State.key_fold]

@[simp] theorem State.recalDone_key (s : State) (m : CalParts) :
    (State.recalDone s m).key = s.key := by
  unfold State.recalDone
  split <;> simp [↓State.key_ite, ↓State.key_mk, State.key_fold]

end Sys2Proof.Machine
end

