-- ==== Sys2Proof/Laws/KeepsCompositor.lean ====
section
/-! SUPPORT. The operations of Machine/Compositor.lean leave the queue, the identity, the frame store and the bank sizes alone. -/
set_option linter.unusedSimpArgs false
set_option linter.unusedVariables false
namespace Sys2Proof.Machine

@[simp] theorem State.judgeHead_key (s : State) (h : Nat) :
    (State.judgeHead s h).key = s.key := by
  unfold State.judgeHead
  simp [↓State.key_ite, ↓State.key_mk, State.key_fold]

@[simp] theorem State.judgeHeads_key (s : State) :
    (State.judgeHeads s).key = s.key := by
  simp [State.judgeHeads]

@[simp] theorem State.landHead_key (s : State) (h : Nat) (c : HeadCfg) :
    (State.landHead s h c).key = s.key := by
  simp [State.landHead]

@[simp] theorem State.landHeadDomain_key (s : State) (h d : Nat) :
    (State.landHeadDomain s h d).key = s.key := by
  simp [State.landHeadDomain]

@[simp] theorem State.landVideoLayer_key (s : State) (l : Nat) (c : VideoLayer) :
    (State.landVideoLayer s l c).key = s.key := by
  simp [State.landVideoLayer]

@[simp] theorem State.landGraphicLayer_key (s : State) (l : Nat) (c : GraphicLayer) :
    (State.landGraphicLayer s l c).key = s.key := by
  simp [State.landGraphicLayer]

@[simp] theorem State.flip_key (s : State) (h frame : Nat) :
    (State.flip s h frame).key = s.key := by
  simp [State.flip]

@[simp] theorem State.takeStep_key (s : State) (l : Nat) (p : ScalePlan) :
    (State.takeStep s l p).key = s.key := by
  unfold State.takeStep
  simp [↓State.key_ite, ↓State.key_mk, State.key_fold]

@[simp] theorem State.layerFrame_key (s : State) (l : Nat) (c : VideoLayer) :
    (State.layerFrame s l c).key = s.key := by
  unfold State.layerFrame
  simp [↓State.key_ite, ↓State.key_mk, State.key_fold]

@[simp] theorem State.meterFrame_key (s : State) (peaks : List (Nat × Nat)) (l : Nat) (c : GraphicLayer) :
    (State.meterFrame s peaks l c).key = s.key := by
  simp [State.meterFrame]

@[simp] theorem State.headFrameStart_key (s : State) (h : Nat) (peaks : List (Nat × Nat)) :
    (State.headFrameStart s h peaks).key = s.key := by
  unfold State.headFrameStart
  simp [↓State.key_ite, ↓State.key_mk, State.key_fold]

@[simp] theorem State.judgeHeadFreeze_key (s : State) (h : Nat) (same : Bool) (sig : BitVec 32) :
    (State.judgeHeadFreeze s h same sig).key = s.key := by
  unfold State.judgeHeadFreeze
  simp [↓State.key_ite, ↓State.key_mk, State.key_fold]

@[simp] theorem State.headFrameComplete_key (s : State) (h : Nat) :
    (State.headFrameComplete s h).key = s.key := by
  unfold State.headFrameComplete
  simp [↓State.key_ite, ↓State.key_mk, State.key_fold]

@[simp] theorem State.readbackArm_base (s : State) (v : BitVec 32) :
    (State.readbackArm s v).key.base = s.key.base := by
  unfold State.readbackArm
  simp [↓State.key_ite, ↓apply_ite Key.base, ↓State.key_mk, State.key_fold, Key.base_of, State.base_fold]

@[simp] theorem State.readbackCapture_base (s : State) (words : List Nat) :
    (State.readbackCapture s words).key.base = s.key.base := by
  unfold State.readbackCapture
  dsimp only
  split
  · exact Eq.trans rfl rfl
  · rfl

end Sys2Proof.Machine
end

