-- ==== Sys2Proof/Laws/KeepsDecodeCtx.lean ====
section
/-! SUPPORT. The operations of Machine/DecodeCtx.lean leave the queue, the identity, the frame store and the bank sizes alone. -/
set_option linter.unusedSimpArgs false
set_option linter.unusedVariables false
namespace Sys2Proof.Machine

@[simp] theorem State.landCtx_key (s : State) (x : Nat) (c : DecCfg) :
    (State.landCtx s x c).key = s.key := by
  unfold State.landCtx
  simp [↓State.key_ite, ↓State.key_mk, State.key_fold]

@[simp] theorem State.resetCtx_key (s : State) (x : Nat) :
    (State.resetCtx s x).key = s.key := by
  simp [State.resetCtx]

@[simp] theorem State.takePcr_key (s : State) (x : Nat) (pcr : Option (Nat × Nat)) :
    (State.takePcr s x pcr).key = s.key := by
  unfold State.takePcr
  dsimp only
  repeat' split
  all_goals first
    | (with_reducible rfl)
    | simp [↓State.key_ite, ↓State.key_mk, State.key_fold]

@[simp] theorem State.noteConcealed_key (s : State) (x : Nat) (p : DecodedPicture) :
    (State.noteConcealed s x p).key = s.key := by
  unfold State.noteConcealed
  simp [↓State.key_ite, ↓State.key_mk, State.key_fold]

@[simp] theorem State.pictureDecoded_key (s0 : State) (x : Nat) (p0 : DecodedPicture) :
    (State.pictureDecoded s0 x p0).key = s0.key := by
  unfold State.pictureDecoded
  simp [↓State.key_ite, ↓State.key_mk, State.key_fold]

@[simp] theorem State.presentPicture_key (s : State) (x : Nat) :
    (State.presentPicture s x).key = s.key := by
  unfold State.presentPicture
  dsimp only
  repeat' split
  all_goals first
    | (with_reducible rfl)
    | simp [↓State.key_ite, ↓State.key_mk, State.key_fold]

@[simp] theorem State.outputLoss_key (s : State) (x : Nat) :
    (State.outputLoss s x).key = s.key := by
  unfold State.outputLoss
  simp [↓State.key_ite, ↓State.key_mk, State.key_fold]

@[simp] theorem State.decoderRelease_key (s : State) (f : Nat) :
    (State.decoderRelease s f).key = s.key := by
  unfold State.decoderRelease
  simp [↓State.key_ite, ↓State.key_mk, State.key_fold]

end Sys2Proof.Machine
end

