-- ==== Sys2Proof/Laws/KeepsMemStore.lean ====
section
/-! SUPPORT. The operations of Machine/MemStore.lean leave the queue, the identity, the frame store and the bank sizes alone. -/
set_option linter.unusedSimpArgs false
set_option linter.unusedVariables false
namespace Sys2Proof.Machine

@[simp] theorem State.pageAccess_key (s : State) (a : Nat) :
    (State.pageAccess s a).key = s.key := by
  simp [State.pageAccess]

@[simp] theorem State.pageTouch_key (s : State) (a n : Nat) :
    (State.pageTouch s a n).key = s.key := by
  unfold State.pageTouch
  simp [↓State.key_ite, ↓State.key_mk, State.key_fold]

@[simp] theorem State.stackPower_key (s : State) (p : DramPower) :
    (State.stackPower s p).key = s.key := by
  unfold State.stackPower
  simp [↓State.key_ite, ↓State.key_mk, State.key_fold]

@[simp] theorem State.memLost_key (s : State) :
    (State.memLost s).key = s.key := by
  unfold State.memLost
  simp [↓State.key_ite, ↓State.key_mk, State.key_fold]

@[simp] theorem State.memPartial_key (s : State) :
    (State.memPartial s).key = s.key := by
  simp [State.memPartial]

@[simp] theorem State.memHoldup_key (s : State) :
    (State.memHoldup s).key = s.key := by
  unfold State.memHoldup
  simp [↓State.key_ite, ↓State.key_mk, State.key_fold]

@[simp] theorem State.rowPending_base (s : State) (reach row : Nat) :
    (State.rowPending s reach row).key.base = s.key.base := by
  unfold State.rowPending
  simp [↓State.key_ite, ↓apply_ite Key.base, ↓State.key_mk, State.key_fold, Key.base_of, State.base_fold]

@[simp] theorem State.rowCorrected_base (s : State) (a : Nat) :
    (State.rowCorrected s a).key.base = s.key.base := by
  simp [State.rowCorrected]

@[simp] theorem State.uncorrectable_key (s : State) (e : DramError) :
    (State.uncorrectable s e).key = s.key := by
  unfold State.uncorrectable
  split <;> simp [↓State.key_ite, ↓State.key_mk, State.key_fold]

@[simp] theorem State.dramError_base (s0 : State) (e : DramError) :
    (State.dramError s0 e).key.base = s0.key.base := by
  unfold State.dramError
  simp [↓State.key_ite, ↓apply_ite Key.base, ↓State.key_mk, State.key_fold, Key.base_of, State.base_fold]

@[simp] theorem State.scrubPass_key (s : State) (k : Nat) :
    (State.scrubPass s k).key = s.key := by
  unfold State.scrubPass
  simp [↓State.key_ite, ↓State.key_mk, State.key_fold]

@[simp] theorem State.refreshDue_key (s : State) (k bank : Nat) (waiting : Bool) :
    (State.refreshDue s k bank waiting).key = s.key := by
  unfold State.refreshDue
  simp [↓State.key_ite, ↓State.key_mk, State.key_fold]

@[simp] theorem State.panicEnter_key (s : State) (n port : Nat) (writer : Bool) (fill : Nat) :
    (State.panicEnter s n port writer fill).key = s.key := by
  unfold State.panicEnter
  simp [↓State.key_ite, ↓State.key_mk, State.key_fold]

@[simp] theorem State.panicLeave_key (s : State) (n port : Nat) (writer : Bool) (fill : Nat) :
    (State.panicLeave s n port writer fill).key = s.key := by
  unfold State.panicLeave
  simp [↓State.key_ite, ↓State.key_mk, State.key_fold]

@[simp] theorem State.starve_key (s : State) (p : RtPort) :
    (State.starve s p).key = s.key := by
  unfold State.starve
  split <;> simp [↓State.key_ite, ↓State.key_mk, State.key_fold]

@[simp] theorem State.rtStarved_key (s0 : State) (n : Nat) (port : RtPort) :
    (State.rtStarved s0 n port).key = s0.key := by
  unfold State.rtStarved
  simp [↓State.key_ite, ↓State.key_mk, State.key_fold]

@[simp] theorem State.starvedEnd_key (s : State) :
    (State.starvedEnd s).key = s.key := by
  unfold State.starvedEnd
  first
  | done
  | (simp [↓State.key_ite, ↓State.key_mk, State.key_fold]; done)
  | (((try (dsimp only)); (repeat' split)) <;> first | (with_reducible rfl) | (simp [↓State.key_ite, ↓State.key_mk, State.key_fold]; done))
  | (((try (dsimp only)); (repeat' first
        | (with_reducible rfl) | split | (simp [↓State.key_ite, ↓State.key_mk, State.key_fold]; done)
        | (refine (State.each_key _ _ _ ?_).trans ?_; (intro t x; (try (dsimp only))))
        | (refine (State.when_key _ _ _ ?_).trans ?_; (intro t; (try (dsimp only)))))))

@[simp] theorem State.playSlot_key (s : State) (k slot : Nat) :
    (State.playSlot s k slot).key = s.key := by
  unfold State.playSlot
  simp [↓State.key_ite, ↓State.key_mk, State.key_fold]

@[simp] theorem State.playoutPost_key (s : State) (k : Nat) :
    (State.playoutPost s k).key = s.key := by
  unfold State.playoutPost
  split <;> simp [↓State.key_ite, ↓State.key_mk, State.key_fold]

@[simp] theorem State.playoutFree_key (s : State) (k slot : Nat) :
    (State.playoutFree s k slot).key = s.key := by
  unfold State.playoutFree
  simp [↓State.key_ite, ↓State.key_mk, State.key_fold]

@[simp] theorem State.captureStart_key (s : State) (d : Nat) :
    (State.captureStart s d).key = s.key := by
  unfold State.captureStart
  simp [↓State.key_ite, ↓State.key_mk, State.key_fold]

@[simp] theorem State.gaugeFeed_key (s : State) (u : Nat) (b : Bytes) :
    (State.gaugeFeed s u b).key = s.key := by
  simp [State.gaugeFeed]

@[simp] theorem State.gaugeTake_key (s : State) (u : Nat) (b : Bytes) :
    (State.gaugeTake s u b).key = s.key := by
  unfold State.gaugeTake
  simp [↓State.key_ite, ↓State.key_mk, State.key_fold]

@[simp] theorem State.gaugeFinal_key (s : State) (u : Nat) :
    (State.gaugeFinal s u).2.key = s.key := by
  unfold State.gaugeFinal
  simp [↓State.key_ite, ↓State.key_mk, State.key_fold]

@[simp] theorem State.gaugeFeedEnd_key (s : State) (u : Nat) :
    (State.gaugeFeedEnd s u).key = s.key := by
  unfold State.gaugeFeedEnd
  split <;> simp [↓State.key_ite, ↓State.key_mk, State.key_fold]

@[simp] theorem State.culvertFail_key (s : State) (c code done : Nat) :
    (State.culvertFail s c code done).key = s.key := by
  unfold State.culvertFail
  split <;> simp [↓State.key_ite, ↓State.key_mk, State.key_fold]

@[simp] theorem State.culvertFinish_key (s : State) (c : Nat) (x : Shadow) :
    (State.culvertFinish s c x).key = s.key := by
  simp [State.culvertFinish]

@[simp] theorem State.culvertActivate_key (s : State) (c : Nat) :
    (State.culvertActivate s c).key = s.key := by
  unfold State.culvertActivate
  simp [↓State.key_ite, ↓State.key_mk, State.key_fold]

@[simp] theorem State.culvertNext_key (s : State) (c : Nat) :
    (State.culvertNext s c).key = s.key := by
  unfold State.culvertNext
  simp [↓State.key_ite, ↓State.key_mk, State.key_fold]

@[simp] theorem State.culvertArm_key (s : State) (c : Nat) :
    (State.culvertArm s c).key = s.key := by
  unfold State.culvertArm
  simp [↓State.key_ite, ↓State.key_mk, State.key_fold]

@[simp] theorem State.culvertAbort_key (s : State) (c : Nat) :
    (State.culvertAbort s c).key = s.key := by
  unfold State.culvertAbort
  simp [↓State.key_ite, ↓State.key_mk, State.key_fold]

@[simp] theorem State.culvertClear_key (s : State) (c : Nat) :
    (State.culvertClear s c).key = s.key := by
  unfold State.culvertClear
  simp [↓State.key_ite, ↓State.key_mk, State.key_fold]

@[simp] theorem State.culvertHalf_key (s : State) (c : Nat) :
    (State.culvertHalf s c).key = s.key := by
  unfold State.culvertHalf
  split <;> simp [↓State.key_ite, ↓State.key_mk, State.key_fold]

@[simp] theorem State.remapSet_base (s : State) :
    (State.remapSet s).key.base = s.key.base := by
  unfold State.remapSet
  simp [↓State.key_ite, ↓apply_ite Key.base, ↓State.key_mk, State.key_fold, Key.base_of, State.base_fold]

@[simp] theorem State.busAnswer_key (s : State) (q : BusRequest) :
    (State.busAnswer s q).key = s.key := by
  unfold State.busAnswer
  simp [↓State.key_ite, ↓State.key_mk, State.key_fold]

@[simp] theorem State.busServe_key (fuel : Nat) (s : State) : (State.busServe fuel s).key = s.key := by
  induction fuel generalizing s with
  | zero => rfl
  | succ fuel ih =>
    unfold State.busServe
    split
    · rfl
    · exact (ih _).trans ((State.busAnswer_key _ _).trans rfl)

@[simp] theorem State.busDefault_key (s : State) (q : BusRequest) :
    (State.busDefault s q).key = s.key := by
  unfold State.busDefault
  simp [↓State.key_ite, ↓State.key_mk, State.key_fold]

end Sys2Proof.Machine
end

