-- ==== Sys2Proof/Laws/KeepsModes.lean ====
section
/-! SUPPORT. The operations of Machine/Modes.lean leave the queue, the identity, the frame store and the bank sizes alone. -/
set_option linter.unusedSimpArgs false
set_option linter.unusedVariables false
namespace Sys2Proof.Machine

@[simp] theorem State.arrive_key (s : State) (m : Mode) :
    (State.arrive s m).key = s.key.inMode (m, if m = .throttled then s.runMode else m, m, false) := by
  unfold State.arrive
  dsimp only
  rw [State.interrupt_key, State.event_key]
  exact Eq.trans rfl rfl

@[simp] theorem State.tryBoot_base (s : State) :
    (State.tryBoot s).key.base = s.key.base := by
  unfold State.tryBoot
  simp [↓State.key_ite, ↓apply_ite Key.base, ↓State.key_mk, State.key_fold, Key.base_of, State.base_fold]

/-- Boot asked for: nothing, or the transition from Dormant to Boot runs. -/
theorem State.tryBoot_key (s : State) : (State.tryBoot s).key = s.key ∨
    s.mode.current = .dormant ∧ (State.tryBoot s).key = s.key.inMode (s.mode.current, s.mode.base, .boot, true) := by
  unfold State.tryBoot
  split
  · rename_i h
    simp only [Bool.and_eq_true, beq_iff_eq, decide_eq_true_eq] at h
    exact .inr ⟨h.1.1.1.1, Eq.trans rfl rfl⟩
  · exact .inl rfl

@[simp] theorem State.aonRelease_key (s : State) :
    (State.aonRelease s).key = s.key := by
  unfold State.aonRelease
  simp [↓State.key_ite, ↓State.key_mk, State.key_fold]

@[simp] theorem State.sysRelease_base (s : State) (bootSel : Nat) :
    (State.sysRelease s bootSel).key.base = s.key.base := by
  unfold State.sysRelease
  simp [↓State.key_ite, ↓apply_ite Key.base, ↓State.key_mk, State.key_fold, Key.base_of, State.base_fold]

@[simp] theorem State.pwrRise_key (s : State) :
    (State.pwrRise s).key = s.key := by
  unfold State.pwrRise
  simp [↓State.key_ite, ↓State.key_mk, State.key_fold]

@[simp] theorem State.pwrTimeout_base (s : State) :
    (State.pwrTimeout s).key.base = s.key.base := by
  unfold State.pwrTimeout
  split <;> simp [↓State.key_ite, ↓apply_ite Key.base, ↓State.key_mk, State.key_fold, Key.base_of, State.base_fold]

@[simp] theorem State.wake_base (s : State) :
    (State.wake s).2.key.base = s.key.base := by
  unfold State.wake
  dsimp only
  repeat' split
  all_goals first
    | (with_reducible rfl)
    | simp [↓State.key_ite, ↓apply_ite Key.base, ↓State.key_mk, State.key_fold, Key.base_of, State.base_fold]

@[simp] theorem State.restoreSaved_key (s : State) :
    (State.restoreSaved s).key = s.key := by
  unfold State.restoreSaved
  simp [↓State.key_ite, ↓State.key_mk, State.key_fold]

@[simp] theorem State.repairOne_base (s : State) (p : Pend) :
    (State.repairOne s p).key.base = s.key.base := by
  unfold State.repairOne
  split <;> simp [↓State.key_ite, ↓apply_ite Key.base, ↓State.key_mk, State.key_fold, Key.base_of, State.base_fold]

@[simp] theorem State.inventoryChanged_base (s : State) :
    (State.inventoryChanged s).key.base = s.key.base := by
  unfold State.inventoryChanged
  simp [↓State.key_ite, ↓apply_ite Key.base, ↓State.key_mk, State.key_fold, Key.base_of, State.base_fold]

@[simp] theorem State.repairAll_base (s : State) (found : List Finding) :
    (State.repairAll s found).key.base = s.key.base := by
  unfold State.repairAll
  simp [↓State.key_ite, ↓apply_ite Key.base, ↓State.key_mk, State.key_fold, Key.base_of, State.base_fold]

@[simp] theorem State.firstPass_key (s : State) :
    (State.firstPass s).key = s.key := by
  unfold State.firstPass
  simp [↓State.key_ite, ↓State.key_mk, State.key_fold]

@[simp] theorem State.slotErased_key (s : State) :
    (State.slotErased s).key = s.key := by
  unfold State.slotErased
  simp [↓State.key_ite, ↓State.key_mk, State.key_fold]

@[simp] theorem State.inputLost_key (s : State) (k missing : Nat) (got : Picture) :
    (State.inputLost s k missing got).key = s.key := by
  unfold State.inputLost
  simp [↓State.key_ite, ↓State.key_mk, State.key_fold]

@[simp] theorem State.leaveService_key (s : State) :
    (State.leaveService s).key = s.key := by
  unfold State.leaveService
  simp [↓State.key_ite, ↓State.key_mk, State.key_fold]

@[simp] theorem State.enterService_key (s : State) :
    (State.enterService s).key = s.key := by
  simp [State.enterService]

@[simp] theorem State.unholdJobs_key (s : State) :
    (State.unholdJobs s).key = s.key := by
  simp [State.unholdJobs]

@[simp] theorem State.rouse_key (old s : State) :
    (State.rouse old s).key = s.key := by
  unfold State.rouse
  simp [↓State.key_ite, ↓State.key_mk, State.key_fold]

@[simp] theorem State.hostCleared_key (s : State) :
    (State.hostCleared s).key = s.key := by
  unfold State.hostCleared
  simp [↓State.key_ite, ↓State.key_mk, State.key_fold]

end Sys2Proof.Machine
end

