-- ==== Sys2Proof/Laws/KeepsSpillway.lean ====
section
/-! SUPPORT. The operations of Machine/Spillway.lean leave the queue, the identity, the frame store and the bank sizes alone. -/
set_option linter.unusedSimpArgs false
set_option linter.unusedVariables false
namespace Sys2Proof.Machine

@[simp] theorem State.thermSticky_key (s : State) (i : Nat) :
    (State.thermSticky s i).key = s.key := by
  unfold State.thermSticky
  simp [↓State.key_ite, ↓State.key_mk, State.key_fold]

@[simp] theorem State.throttleTrip_key (s : State) :
    (State.throttleTrip s).key = s.key := by
  unfold State.throttleTrip
  simp [↓State.key_ite, ↓State.key_mk, State.key_fold]

@[simp] theorem State.warning_key (s : State) (on : Bool) :
    (State.warning s on).key = s.key := by
  unfold State.warning
  simp [↓State.key_ite, ↓State.key_mk, State.key_fold]

@[simp] theorem State.judgeSensors_key (old s : State) :
    (State.judgeSensors old s).key = s.key := by
  unfold State.judgeSensors
  simp [↓State.key_ite, ↓State.key_mk, State.key_fold]

@[simp] theorem State.shedStep_key (s : State) (step saving unit reach : Nat) :
    (State.shedStep s step saving unit reach).key = s.key := by
  unfold State.shedStep
  simp [↓State.key_ite, ↓State.key_mk, State.key_fold]

@[simp] theorem State.shedBackfill_key (s : State) :
    (State.shedBackfill s).key = s.key := by
  unfold State.shedBackfill
  simp [↓State.key_ite, ↓State.key_mk, State.key_fold]

@[simp] theorem State.shedRend_key (s : State) (r : Nat) :
    (State.shedRend s r).key = s.key := by
  simp [State.shedRend]

@[simp] theorem State.shedCtx_key (s : State) (x : Nat) :
    (State.shedCtx s x).key = s.key := by
  unfold State.shedCtx
  simp [↓State.key_ite, ↓State.key_mk, State.key_fold]

@[simp] theorem State.lowerClock_key (s : State) (n : Nat) :
    (State.lowerClock s n).key = s.key := by
  unfold State.lowerClock
  simp [↓State.key_ite, ↓State.key_mk, State.key_fold]

@[simp] theorem State.shedUnits_key (s : State) (l : List Nat) (f : State → Nat → State) (h : ∀ t x, (f t x).key = t.key) :
    (State.shedUnits s l f).key = s.key := by
  unfold State.shedUnits
  refine State.each_key _ _ _ (fun t x => ?_)
  split
  · rfl
  · exact h t x

@[simp] theorem State.shedPass_key (s : State) :
    (State.shedPass s).key = s.key := by
  unfold State.shedPass
  simp [↓State.key_ite, ↓State.key_mk, State.key_fold]

@[simp] theorem State.enforce_key (s : State) :
    (State.enforce s).key = s.key.inMode (.throttled, s.runMode, .throttled, false) := by
  unfold State.enforce
  simp [↓State.key_ite, ↓State.key_mk, State.key_fold]

@[simp] theorem State.reevaluateNow_key (s : State) :
    (State.reevaluateNow s).key = s.key := by
  unfold State.reevaluateNow
  dsimp only
  repeat' split
  all_goals first
    | (with_reducible rfl)
    | simp [↓State.key_ite, ↓State.key_mk, State.key_fold]

@[simp] theorem State.reevaluate_key (s : State) :
    (State.reevaluate s).key = s.key := by
  unfold State.reevaluate
  simp [↓State.key_ite, ↓State.key_mk, State.key_fold]

@[simp] theorem State.clockStep_key (s : State) (n : Nat) :
    (State.clockStep s n).key = s.key := by
  unfold State.clockStep
  simp [↓State.key_ite, ↓State.key_mk, State.key_fold]

@[simp] theorem State.throttleRelease_key (s : State) :
    (State.throttleRelease s).key = s.key := by
  unfold State.throttleRelease
  simp [↓State.key_ite, ↓State.key_mk, State.key_fold]

@[simp] theorem State.thresholdCleared_base (s : State) (level : Nat) :
    (State.thresholdCleared s level).key.base = s.key.base := by
  unfold State.thresholdCleared
  split <;> simp [↓State.key_ite, ↓apply_ite Key.base, ↓State.key_mk, State.key_fold, Key.base_of, State.base_fold]

@[simp] theorem State.thresholdRelease_base (s : State) (level : Nat) :
    (State.thresholdRelease s level).key.base = s.key.base := by
  unfold State.thresholdRelease
  split <;> simp [↓State.key_ite, ↓apply_ite Key.base, ↓State.key_mk, State.key_fold, Key.base_of, State.base_fold]

@[simp] theorem State.powerSample_key (s : State) (rails : List Nat) :
    (State.powerSample s rails).key = s.key := by
  unfold State.powerSample
  simp [↓State.key_ite, ↓State.key_mk, State.key_fold]

end Sys2Proof.Machine
end

