-- ==== Sys2Proof/Laws/KeepsUpdate.lean ====
section
/-! SUPPORT. The operations of Machine/Update.lean leave the queue, the identity, the frame store and the bank sizes alone. -/
set_option linter.unusedSimpArgs false
set_option linter.unusedVariables false
namespace Sys2Proof.Machine

@[simp] theorem State.setSources_key (s : State) (l : List ImgSource) :
    (State.setSources s l).key = s.key := by
  unfold State.setSources
  simp [↓State.key_ite, ↓State.key_mk, State.key_fold]

@[simp] theorem State.clearStaging_key (s : State) :
    (State.clearStaging s).key = s.key := by
  unfold State.clearStaging
  simp [↓State.key_ite, ↓State.key_mk, State.key_fold]

@[simp] theorem State.newImage_key (s : State) (total pieces : Nat) (digest : Bytes) :
    (State.newImage s total pieces digest).key = s.key := by
  unfold State.newImage
  simp [↓State.key_ite, ↓State.key_mk, State.key_fold]

@[simp] theorem State.putFragment_key (s : State) (p off : Nat) (b : Bytes) :
    (State.putFragment s p off b).2.key = s.key := by
  unfold State.putFragment
  dsimp only
  repeat' split
  all_goals first
    | (with_reducible rfl)
    | simp [↓State.key_ite, ↓State.key_mk, State.key_fold]

@[simp] theorem State.leaveSession_key (s : State) (x : ImgSource) :
    (State.leaveSession s x).key = s.key := by
  simp [State.leaveSession]

@[simp] theorem State.pieceWritten_key (s : State) (p : Nat) :
    (State.pieceWritten s p).key = s.key := by
  unfold State.pieceWritten
  split <;> simp [↓State.key_ite, ↓State.key_mk, State.key_fold]

@[simp] theorem State.pieceStale_key (s : State) (p : Nat) :
    (State.pieceStale s p).key = s.key := by
  unfold State.pieceStale
  split <;> simp [↓State.key_ite, ↓State.key_mk, State.key_fold]

@[simp] theorem State.leaseIdle_key (s : State) :
    (State.leaseIdle s).key = s.key := by
  unfold State.leaseIdle
  split <;> simp [↓State.key_ite, ↓State.key_mk, State.key_fold]

@[simp] theorem State.activationEnds_key (s : State) (status : Nat) :
    (State.activationEnds s status).key = s.key := by
  unfold State.activationEnds
  simp [↓State.key_ite, ↓State.key_mk, State.key_fold]

@[simp] theorem State.committed_key (s : State) (m : Manifest) :
    (State.committed s m).key = s.key := by
  unfold State.committed
  simp [↓State.key_ite, ↓State.key_mk, State.key_fold]

end Sys2Proof.Machine
end

