-- ==== Sys2Proof/Laws/KeepsArch.lean ====
section
/-! SUPPORT. The operations of Machine/Arch.lean leave the queue, the identity, the frame store and the bank sizes alone. -/
set_option linter.unusedSimpArgs false
set_option linter.unusedVariables false
namespace Sys2Proof.Machine

@[simp] theorem State.retime_base (s : State) (d rate raster : Nat) :
    (State.retime s d rate raster).key.base = s.key.base := by
  unfold State.retime
  simp [↓State.key_ite, ↓apply_ite Key.base, ↓State.key_mk, State.key_fold, Key.base_of, State.base_fold]

@[simp] theorem State.holdupFall_key (s : State) :
    (State.holdupFall s).key = s.key := by
  unfold State.holdupFall
  simp [↓State.key_ite, ↓State.key_mk, State.key_fold]

@[simp] theorem State.holdupRise_key (s : State) :
    (State.holdupRise s).key = s.key := by
  unfold State.holdupRise
  simp [↓State.key_ite, ↓State.key_mk, State.key_fold]

@[simp] theorem State.tallyChange_key (s : State) (n : Nat) (level : Bool) :
    (State.tallyChange s n level).key = s.key := by
  unfold State.tallyChange
  simp [↓State.key_ite, ↓State.key_mk, State.key_fold]

@[simp] theorem State.jtagRun_base (s : State) (ir : JtagOp) :
    (State.jtagRun s ir).key.base = s.key.base := by
  unfold State.jtagRun
  simp [↓State.key_ite, ↓apply_ite Key.base, ↓State.key_mk, State.key_fold, Key.base_of, State.base_fold]

end Sys2Proof.Machine
end

