-- ==== Sys2Proof/Laws/KeepsStaging.lean ====
section
/-! SUPPORT. The operations of Machine/Staging.lean leave the queue, the identity, the frame store and the bank sizes alone. -/
set_option linter.unusedSimpArgs false
set_option linter.unusedVariables false
namespace Sys2Proof.Machine

@[simp] theorem State.put_key (s : State) (x : Setting) :
    (State.put s x).key = s.key := by
  unfold State.put
  split <;> simp [↓State.key_ite, ↓State.key_mk, State.key_fold]

@[simp] theorem State.putPart_key (s : State) (p : Part) :
    (State.putPart s p).key = s.key := by
  unfold State.putPart
  simp [↓State.key_ite, ↓State.key_mk, State.key_fold]

@[simp] theorem State.project_key (s : State) (ns : Nat) :
    (State.project s ns).key = s.key := by
  unfold State.project
  first
  | done
  | (simp [↓State.key_ite, ↓State.key_mk, State.key_fold]; done)
  | (((try (dsimp only)); (repeat' split)) <;> first | (with_reducible rfl) | (simp [↓State.key_ite, ↓State.key_mk, State.key_fold]; done))
  | (((try (dsimp only)); (repeat' first
        | (with_reducible rfl) | split | (simp [↓State.key_ite, ↓State.key_mk, State.key_fold]; done)
        | (refine (State.each_key _ _ _ ?_).trans ?_; (intro t x; (try (dsimp only))))
        | (refine (State.when_key _ _ _ ?_).trans ?_; (intro t; (try (dsimp only)))))))

@[simp] theorem State.withSet_key (s : State) (l : List Staged) :
    (State.withSet s l).key = s.key := by
  unfold State.withSet
  simp [↓State.key_ite, ↓State.key_mk, State.key_fold]

@[simp] theorem takeConvs_key (view : Nat → State) (l : List Staged) (s : State) : (takeConvs view l s).2.key = s.key := by
  induction l generalizing s with
  | nil => rfl
  | cons e t ih =>
    unfold takeConvs
    repeat' split
    all_goals first
      | exact ih _
      | rfl
      | (rename_i h; exact (ih _).trans (State.takeConv_some_key _ _ _ h))

@[simp] theorem takeRings_key (view : Nat → State) (l : List Staged) (s : State) : (takeRings view l s).2.key = s.key := by
  induction l generalizing s with
  | nil => rfl
  | cons e t ih =>
    unfold takeRings
    dsimp only
    split
    · rfl
    · exact (ih _).trans (by simp)

@[simp] theorem State.markDeferred_key (s : State) (x : Setting) :
    (State.markDeferred s x).key = s.key := by
  unfold State.markDeferred
  split <;> simp [↓State.key_ite, ↓State.key_mk, State.key_fold]

@[simp] theorem State.countDeferral_key (s : State) (d : Nat) :
    (State.countDeferral s d).key = s.key := by
  unfold State.countDeferral
  simp [↓State.key_ite, ↓State.key_mk, State.key_fold]

@[simp] theorem State.noteDeferral_key (s : State) (p : Part) :
    (State.noteDeferral s p).key = s.key := by
  unfold State.noteDeferral
  simp [↓State.key_ite, ↓State.key_mk, State.key_fold]







theorem State.key_parts (s : State) (x : List Part) : State.key { s with parts := x } = s.key := Eq.trans rfl rfl

theorem State.key_partSeq (s : State) (x : List Part) (n : Nat) : State.key { s with parts := x, partSeq := n } = s.key := Eq.trans rfl rfl

@[simp] theorem State.judge_after_key (s : State) (owner arrival target h off : Nat) (old new : List (Nat × Setting)) :
    (s.judge owner arrival target h off old new).after.key = s.key := by
  unfold State.judge
  exact (State.key_parts _ _).trans ((takeRings_key _ _ _).trans ((takeConvs_key _ _ _).trans (State.key_parts _ _)))

/-- The limits of 02 R105 change only what validation finds failing. -/
theorem State.fits_after (s : State) (noun : Nat) (items : List (Nat × Setting)) (j : Judged) : (s.fits noun items j).after = j.after := by
  unfold State.fits
  split <;> rfl

@[simp] theorem State.judgeSet_after_key (s : State) (c : Call) (noun off : Nat) (items : List (Nat × Setting)) :
    (s.judgeSet c noun off items).after.key = s.key := by
  unfold State.judgeSet
  rw [State.fits_after]
  exact State.judge_after_key _ _ _ _ _ _ _ _

@[simp] theorem State.schedule_key (s : State) (c : Call) (noun off : Nat) (items : List (Nat × Setting)) :
    (State.schedule s c noun off items).key = s.key := by
  unfold State.schedule
  refine (State.each_key _ _ _ (fun t x => State.noteDeferral_key t x)).trans ?_
  exact (State.key_partSeq _ _ _).trans (State.judgeSet_after_key _ _ _ _ _)

@[simp] theorem State.commitSet_key (s : State) (c : Call) (noun off : Nat) (items : List (Nat × Setting))
    (report : Judged → Answer → Answer) : (State.commitSet s c noun off items report).2.key = s.key := by
  unfold State.commitSet
  split
  · rfl
  · exact State.schedule_key _ _ _ _ _

@[simp] theorem State.stage_key (s : State) (c : Call) (xs : List Setting) :
    (State.stage s c xs).2.key = s.key := by
  unfold State.stage
  dsimp only
  repeat' split
  all_goals first
    | (with_reducible rfl)
    | simp [↓State.key_ite, ↓State.key_mk, State.key_fold]

end Sys2Proof.Machine
end

