-- ==== Sys2Proof/Laws/KeepsBoundary.lean ====
section
/-! SUPPORT. The operations of Machine/Boundary.lean leave the queue, the identity, the frame store and the bank sizes alone. -/
set_option linter.unusedSimpArgs false
set_option linter.unusedVariables false
namespace Sys2Proof.Machine

@[simp] theorem State.leaveDomain_key (s : State) (old new : Nat) (f : Setting → Bool) :
    (State.leaveDomain s old new f).key = s.key := by
  unfold State.leaveDomain
  simp [↓State.key_ite, ↓State.key_mk, State.key_fold]

@[simp] theorem State.landSetting_key (s : State) (f ns : Nat) (x : Setting) :
    (State.landSetting s f ns x).key = s.key := by
  unfold State.landSetting
  split <;> simp [↓State.key_ite, ↓State.key_mk, State.key_fold]





theorem State.landOne_key (owner f ns : Nat) (a : State × List (Setting × Nat)) (x : Setting) :
    (State.landOne owner f ns a x).1.key = a.1.key := by
  unfold State.landOne
  split
  · rfl
  · exact State.landSetting_key _ _ _ _

theorem State.landOnes_key (owner f ns : Nat) (l : List Setting) (a : State × List (Setting × Nat)) :
    (l.foldl (State.landOne owner f ns) a).1.key = a.1.key := by
  induction l generalizing a with
  | nil => rfl
  | cons x l ih => exact (ih _).trans (State.landOne_key _ _ _ _ _)

@[simp] theorem State.landPart_key (s : State) (f ns : Nat) (p : Part) : (State.landPart s f ns p).key = s.key := by
  have h := State.landOnes_key p.owner f ns p.items (s, [])
  unfold State.landPart
  generalize p.items.foldl (State.landOne p.owner f ns) (s, []) = o at h ⊢
  dsimp only
  split
  all_goals simp [↓State.key_ite, h]

theorem State.landParts_key (f ns : Nat) (l : List Part) (s : State) : (l.foldl (fun t p => t.landPart f ns p) s).key = s.key := by
  induction l generalizing s with
  | nil => rfl
  | cons p l ih => exact (ih _).trans (State.landPart_key _ _ _ _)

@[simp] theorem State.writeShadow_key (s : State) (d : Nat) : (State.writeShadow s d).key = s.key := by
  unfold State.writeShadow
  refine State.each_key _ _ _ (fun t x => ?_)
  split <;> simp



@[simp] theorem State.shadowRebuild_base (s : State) (d : Nat) (complete : Bool) :
    (State.shadowRebuild s d complete).key.base = s.key.base := by
  unfold State.shadowRebuild
  simp [↓State.key_ite, ↓apply_ite Key.base, ↓State.key_mk, State.key_fold, Key.base_of, State.base_fold]

@[simp] theorem State.deferSwap_key (s : State) (d : Nat) :
    (State.deferSwap s d).key = s.key := by
  unfold State.deferSwap
  simp [↓State.key_ite, ↓State.key_mk, State.key_fold]

@[simp] theorem State.decideSwap_base (s : State) (d : Nat) :
    (State.decideSwap s d).key.base = s.key.base := by
  unfold State.decideSwap
  simp [↓State.key_ite, ↓apply_ite Key.base, ↓State.key_mk, State.key_fold, Key.base_of, State.base_fold]

@[simp] theorem State.swapDecision_base (s : State) (d : Nat) :
    (State.swapDecision s d).key.base = s.key.base := by
  unfold State.swapDecision
  simp [↓State.key_ite, ↓apply_ite Key.base, ↓State.key_mk, State.key_fold, Key.base_of, State.base_fold]

@[simp] theorem State.landAll_key (s : State) (d f ns : Nat) (members : List Nat) : (State.landAll s d f ns members).key = s.key := by
  unfold State.landAll
  dsimp only
  refine (State.each_key _ _ _ (fun t h => ?_)).trans ((State.clauseBoundary_key _ _ _).trans ?_)
  · split
    · exact State.flip_key _ _ _
    · rfl
  · rw [State.key_ite, State.clauseStop_key, ite_self, State.stopDecode_key, State.each_key _ _ _ (fun t x => State.settleDst_key _ _ _ _),
      State.each_key _ _ _ (fun t x => State.followTake_key _ _), State.landParts_key]
    exact State.key_parts _ _

@[simp] theorem State.boundary_base (s : State) (d : Nat) :
    (State.boundary s d).key.base = s.key.base := by
  unfold State.boundary
  simp [↓State.key_ite, ↓apply_ite Key.base, ↓State.key_mk, State.key_fold, Key.base_of, State.base_fold]

@[simp] theorem State.videoBoundary_base (s : State) (d : Nat) :
    (State.videoBoundary s d).key.base = s.key.base := by
  unfold State.videoBoundary
  simp [↓State.key_ite, ↓apply_ite Key.base, ↓State.key_mk, State.key_fold, Key.base_of, State.base_fold]

@[simp] theorem State.reraise_key (s : State) :
    (State.reraise s).key = s.key := by
  unfold State.reraise
  simp [↓State.key_ite, ↓State.key_mk, State.key_fold]

end Sys2Proof.Machine
end

