-- ==== Sys2Proof/Laws/KeepsCounting.lean ====
section
/-! SUPPORT. The operations of Machine/Counting.lean leave the queue, the identity, the frame store and the bank sizes alone. -/
set_option linter.unusedSimpArgs false
set_option linter.unusedVariables false
namespace Sys2Proof.Machine

theorem State.key_storm (s : State) (x : StormSt) : State.key { s with storm := x } = s.key := rfl

@[simp] theorem State.stormEnd_key (s : State) : (State.stormEnd s).key = s.key := by
  unfold State.stormEnd
  split
  · rfl
  · exact (State.event_key _ _).trans ((State.key_storm _ _).trans (State.advanceTo_key _ _))

end Sys2Proof.Machine
end

