-- ==== Sys2Proof/Laws/KeepsGate.lean ====
section
/-! SUPPORT. The operations of Machine/Gate.lean leave the queue, the identity, the frame store and the bank sizes alone. -/
set_option linter.unusedSimpArgs false
set_option linter.unusedVariables false
namespace Sys2Proof.Machine

@[simp] theorem State.gated_base (s : State) (f : State → State) (h : ∀ t, (f t).key.base = t.key.base) : (State.gated s f).key.base = s.key.base := by
  unfold State.gated
  split
  · exact h s
  · rfl

@[simp] theorem State.gated_key (s : State) (f : State → State) (h : ∀ t, (f t).key = t.key) : (State.gated s f).key = s.key := by
  unfold State.gated
  split
  · exact h s
  · rfl

@[simp] theorem State.ringOn_key (s : State) (n : Nat) :
    (State.ringOn s n).key = s.key := by
  unfold State.ringOn
  simp [↓State.key_ite, ↓State.key_mk, State.key_fold]

@[simp] theorem State.ringOff_key (s : State) (n : Nat) :
    (State.ringOff s n).key = s.key := by
  unfold State.ringOff
  simp [↓State.key_ite, ↓State.key_mk, State.key_fold]

@[simp] theorem State.ringEnable_key (s : State) (n : Nat) :
    (State.ringEnable s n).key = s.key := by
  simp [State.ringEnable]

@[simp] theorem State.ringDisable_key (s : State) (n : Nat) :
    (State.ringDisable s n).key = s.key := by
  simp [State.ringDisable]

@[simp] theorem State.ringDrained_key (s : State) (n : Nat) :
    (State.ringDrained s n).key = s.key := by
  unfold State.ringDrained
  simp [↓State.key_ite, ↓State.key_mk, State.key_fold]

@[simp] theorem State.bellReq_key (s : State) (n : Nat) (v : BitVec 32) :
    (State.bellReq s n v).key = s.key := by
  unfold State.bellReq
  simp [↓State.key_ite, ↓State.key_mk, State.key_fold]

@[simp] theorem State.bellRead_key (s : State) (n : Nat) (own : BitVec 16) (v : BitVec 32) :
    (State.bellRead s n own v).key = s.key := by
  unfold State.bellRead
  simp [↓State.key_ite, ↓State.key_mk, State.key_fold]

@[simp] theorem State.dbReq_key (s : State) (n : Nat) (v : BitVec 32) :
    (State.dbReq s n v).key = s.key := by
  simp [State.dbReq]

@[simp] theorem State.dbRpl_key (s : State) (n : Nat) (v : BitVec 32) :
    (State.dbRpl s n v).key = s.key := by
  unfold State.dbRpl
  simp [↓State.key_ite, ↓State.key_mk, State.key_fold]

@[simp] theorem State.dbEvt_key (s : State) (v : BitVec 32) :
    (State.dbEvt s v).key = s.key := by
  simp [State.dbEvt]

@[simp] theorem State.fetchError_key (s : State) (n verb : Nat) (r : Request) (staged : Bool) :
    (State.fetchError s n verb r staged).key = s.key := by
  unfold State.fetchError
  simp [↓State.key_ite, ↓State.key_mk, State.key_fold]

@[simp] theorem State.writeError_key (s : State) (n : Nat) :
    (State.writeError s n).key = s.key := by
  unfold State.writeError
  simp [↓State.key_ite, ↓State.key_mk, State.key_fold]

@[simp] theorem State.intEnable_key (s : State) (v : BitVec 32) :
    (State.intEnable s v).key = s.key := by
  unfold State.intEnable
  simp [↓State.key_ite, ↓State.key_mk, State.key_fold]

@[simp] theorem State.intEnableWrite_key (s : State) (v : BitVec 32) :
    (State.intEnableWrite s v).key = s.key := by
  simp [State.intEnableWrite]

@[simp] theorem State.holdoffExpiry_key (s : State) (v : Nat) :
    (State.holdoffExpiry s v).key = s.key := by
  unfold State.holdoffExpiry
  simp [↓State.key_ite, ↓State.key_mk, State.key_fold]

@[simp] theorem State.unmasked_key (s : State) (v : Nat) :
    (State.unmasked s v).key = s.key := by
  unfold State.unmasked
  simp [↓State.key_ite, ↓State.key_mk, State.key_fold]

@[simp] theorem State.msixWrite_key (s : State) (v word : Nat) (x : BitVec 32) :
    (State.msixWrite s v word x).key = s.key := by
  unfold State.msixWrite
  split <;> simp [↓State.key_ite, ↓State.key_mk, State.key_fold]

@[simp] theorem State.latchFrame_base (s : State) (o : Nat) :
    (State.latchFrame s o).key.base = s.key.base := by
  unfold State.latchFrame
  simp [↓State.key_ite, ↓apply_ite Key.base, ↓State.key_mk, State.key_fold, Key.base_of, State.base_fold]

@[simp] theorem State.frameLoRead_base (s : State) (d : Nat) :
    (State.frameLoRead s d).key.base = s.key.base := by
  unfold State.frameLoRead
  simp [↓State.key_ite, ↓apply_ite Key.base, ↓State.key_mk, State.key_fold, Key.base_of, State.base_fold]

@[simp] theorem State.timeNsRead_key (s : State) :
    (State.timeNsRead s).key = s.key := by
  unfold State.timeNsRead
  simp [↓State.key_ite, ↓State.key_mk, State.key_fold]

@[simp] theorem State.incrNsRead_key (s : State) :
    (State.incrNsRead s).key = s.key := by
  unfold State.incrNsRead
  simp [↓State.key_ite, ↓State.key_mk, State.key_fold]

@[simp] theorem State.capNsRead_key (s : State) (n : Nat) :
    (State.capNsRead s n).key = s.key := by
  unfold State.capNsRead
  simp [↓State.key_ite, ↓State.key_mk, State.key_fold]

@[simp] theorem State.writeModeBlock_key (s : State) (o : Nat) (v : BitVec 32) :
    (State.writeModeBlock s o v).key = s.key := by
  unfold State.writeModeBlock
  simp [↓State.key_ite, ↓State.key_mk, State.key_fold]

@[simp] theorem State.writeBell_key (s : State) (o : Nat) (v : BitVec 32) :
    (State.writeBell s o v).key = s.key := by
  unfold State.writeBell
  simp [↓State.key_ite, ↓State.key_mk, State.key_fold]

@[simp] theorem State.writeInts_key (s : State) (o : Nat) (v : BitVec 32) :
    (State.writeInts s o v).key = s.key := by
  unfold State.writeInts
  simp [↓State.key_ite, ↓State.key_mk, State.key_fold]

@[simp] theorem State.writeTime_key (s : State) (o : Nat) (v : BitVec 32) :
    (State.writeTime s o v).key = s.key := by
  unfold State.writeTime
  simp [↓State.key_ite, ↓State.key_mk, State.key_fold]

@[simp] theorem State.writeThermBlock_key (s : State) (o : Nat) (v : BitVec 32) :
    (State.writeThermBlock s o v).key = s.key := by
  unfold State.writeThermBlock
  simp [↓State.key_ite, ↓State.key_mk, State.key_fold]

@[simp] theorem State.writeCulvert_key (s : State) (c o : Nat) (v : BitVec 32) :
    (State.writeCulvert s c o v).key = s.key := by
  unfold State.writeCulvert
  simp [↓State.key_ite, ↓State.key_mk, State.key_fold]

@[simp] theorem State.writeCompat_base (s : State) (o : Nat) (v : BitVec 32) :
    (State.writeCompat s o v).key.base = s.key.base := by
  unfold State.writeCompat
  simp [↓State.key_ite, ↓apply_ite Key.base, ↓State.key_mk, State.key_fold, Key.base_of, State.base_fold]

@[simp] theorem State.writeRing_key (s : State) (n o : Nat) (v : BitVec 32) :
    (State.writeRing s n o v).key = s.key := by
  unfold State.writeRing
  simp [↓State.key_ite, ↓State.key_mk, State.key_fold]

@[simp] theorem State.writeWord_base (s : State) (o : Nat) (v : BitVec 32) :
    (State.writeWord s o v).key.base = s.key.base := by
  unfold State.writeWord
  simp [↓State.key_ite, ↓apply_ite Key.base, ↓State.key_mk, State.key_fold, Key.base_of, State.base_fold]

@[simp] theorem State.badAccess_key (s : State) (o : Nat) (write : Bool) :
    (State.badAccess s o write).key = s.key := by
  simp [State.badAccess]

@[simp] theorem State.registerWrite_base (s : State) (o : Nat) (v : BitVec 32) :
    (State.registerWrite s o v).key.base = s.key.base := by
  unfold State.registerWrite
  simp [↓State.key_ite, ↓apply_ite Key.base, ↓State.key_mk, State.key_fold, Key.base_of, State.base_fold]

end Sys2Proof.Machine
end

