-- ==== Sys2Proof/Laws/KeepsOutputs.lean ====
section
/-! SUPPORT. The operations of Machine/Outputs.lean leave the queue, the identity, the frame store and the bank sizes alone. -/
set_option linter.unusedSimpArgs false
set_option linter.unusedVariables false
namespace Sys2Proof.Machine

@[simp] theorem State.rillStart_key (s : State) (d : Nat) :
    (State.rillStart s d).key = s.key := by
  simp [State.rillStart]

@[simp] theorem State.sendStart_key (s : State) (d : Nat) :
    (State.sendStart s d).key = s.key := by
  simp [State.sendStart]

@[simp] theorem State.startOutputs_key (s : State) (d : Nat) :
    (State.startOutputs s d).key = s.key := by
  unfold State.startOutputs
  simp [↓State.key_ite, ↓State.key_mk, State.key_fold]

end Sys2Proof.Machine
end

