-- ==== Sys2Proof/Laws/KeepsSpecs.lean ====
section
/-! SUPPORT. What the meanings of the requests leave alone. -/
set_option linter.unusedSimpArgs false
set_option linter.unusedVariables false
namespace Sys2Proof.Machine

theorem snd_key_ite {c : Prop} [Decidable c] (a b : Answer × State) :
    (if c then a else b).2.key = if c then a.2.key else b.2.key := by
  split <;> rfl

@[simp] theorem stageSpec_key (noun sel : Nat) (len : Nat → Bool) (form : Bytes → Bool) (index : Nat → Bool) (parse : Call → List Setting)
    (c : Call) (s : State) : ((stageSpec noun sel len form index parse).body c s).2.key = s.key := by
  simp [stageSpec]

@[simp] theorem lockSpec_key (verb noun off limit : Nat) (x : Nat → Nat → Setting) (c : Call) (s : State) :
    ((lockSpec verb noun off limit x).body c s).2.key = s.key := by
  unfold lockSpec
  dsimp only
  split
  · rfl
  · simp

@[simp] theorem specQueryDst_key (c : Call) (s : State) : ((specQueryDst).body c s).2.key = s.key := by
  unfold specQueryDst
  dsimp only
  repeat' split
  all_goals first
    | (with_reducible rfl)
    | simp [↓State.key_ite, ↓State.key_mk, State.key_fold]

@[simp] theorem specQuerySrc_key (c : Call) (s : State) : ((specQuerySrc).body c s).2.key = s.key := by
  unfold specQuerySrc
  dsimp only
  repeat' split
  all_goals first
    | (with_reducible rfl)
    | simp [↓State.key_ite, ↓State.key_mk, State.key_fold]

@[simp] theorem specSetSrcFormat_key (c : Call) (s : State) : ((specSetSrcFormat).body c s).2.key = s.key := by
  unfold specSetSrcFormat
  dsimp only
  repeat' split
  all_goals first
    | (with_reducible rfl)
    | simp [↓State.key_ite, ↓State.key_mk, State.key_fold]

@[simp] theorem specSetSrcGenerator_key (c : Call) (s : State) : ((specSetSrcGenerator).body c s).2.key = s.key := by
  unfold specSetSrcGenerator
  dsimp only
  repeat' split
  all_goals first
    | (with_reducible rfl)
    | simp [↓State.key_ite, ↓State.key_mk, State.key_fold]

@[simp] theorem specQuerySrcAlignment_key (c : Call) (s : State) : ((specQuerySrcAlignment).body c s).2.key = s.key := by
  unfold specQuerySrcAlignment
  dsimp only
  repeat' split
  all_goals first
    | (with_reducible rfl)
    | simp [↓State.key_ite, ↓State.key_mk, State.key_fold]

@[simp] theorem specSetDstProbe_key (c : Call) (s : State) : ((specSetDstProbe).body c s).2.key = s.key := by
  unfold specSetDstProbe
  dsimp only
  repeat' split
  all_goals first
    | (with_reducible rfl)
    | simp [↓State.key_ite, ↓State.key_mk, State.key_fold]

@[simp] theorem specQueryDstProbe_key (c : Call) (s : State) : ((specQueryDstProbe).body c s).2.key = s.key := by
  unfold specQueryDstProbe
  dsimp only
  repeat' split
  all_goals first
    | (with_reducible rfl)
    | simp [↓State.key_ite, ↓State.key_mk, State.key_fold]

@[simp] theorem specSetAudioPort_key (c : Call) (s : State) : ((specSetAudioPort).body c s).2.key = s.key := by
  unfold specSetAudioPort
  dsimp only
  repeat' split
  all_goals first
    | (with_reducible rfl)
    | simp [↓State.key_ite, ↓State.key_mk, State.key_fold]

@[simp] theorem specQueryAudioIn_key (c : Call) (s : State) : ((specQueryAudioIn).body c s).2.key = s.key := by
  unfold specQueryAudioIn
  dsimp only
  repeat' split
  all_goals first
    | (with_reducible rfl)
    | simp [↓State.key_ite, ↓State.key_mk, State.key_fold]

@[simp] theorem specQueryAudioOut_key (c : Call) (s : State) : ((specQueryAudioOut).body c s).2.key = s.key := by
  unfold specQueryAudioOut
  dsimp only
  repeat' split
  all_goals first
    | (with_reducible rfl)
    | simp [↓State.key_ite, ↓State.key_mk, State.key_fold]

@[simp] theorem specQueryStem_key (c : Call) (s : State) : ((specQueryStem).body c s).2.key = s.key := by
  unfold specQueryStem
  dsimp only
  repeat' split
  all_goals first
    | (with_reducible rfl)
    | simp [↓State.key_ite, ↓State.key_mk, State.key_fold]

@[simp] theorem specQueryStemCapacity_key (c : Call) (s : State) : ((specQueryStemCapacity).body c s).2.key = s.key := by
  simp [specQueryStemCapacity]

@[simp] theorem specQueryRendition_key (c : Call) (s : State) : ((specQueryRendition).body c s).2.key = s.key := by
  simp [specQueryRendition]

@[simp] theorem specQueryRenditionRate_key (c : Call) (s : State) : ((specQueryRenditionRate).body c s).2.key = s.key := by
  simp [specQueryRenditionRate]

@[simp] theorem specSetLaneTransmit_key (k : Nat) (c : Call) (s : State) : (((specSetLaneTransmit k)).body c s).2.key = s.key := by
  unfold specSetLaneTransmit
  dsimp only
  repeat' split
  all_goals first
    | (with_reducible rfl)
    | simp [↓State.key_ite, ↓State.key_mk, State.key_fold]

@[simp] theorem specSetLaneReceive_key (k : Nat) (c : Call) (s : State) : (((specSetLaneReceive k)).body c s).2.key = s.key := by
  unfold specSetLaneReceive
  dsimp only
  repeat' split
  all_goals first
    | (with_reducible rfl)
    | simp [↓State.key_ite, ↓State.key_mk, State.key_fold]

@[simp] theorem specSetLaneAsymmetry_key (k : Nat) (c : Call) (s : State) : (((specSetLaneAsymmetry k)).body c s).2.key = s.key := by
  unfold specSetLaneAsymmetry
  split <;> simp [↓State.key_ite, ↓State.key_mk, State.key_fold]

@[simp] theorem specSetLaneTestTools_key (k : Nat) (c : Call) (s : State) : (((specSetLaneTestTools k)).body c s).2.key = s.key := by
  unfold specSetLaneTestTools
  dsimp only
  repeat' split
  all_goals first
    | (with_reducible rfl)
    | simp [↓State.key_ite, ↓State.key_mk, State.key_fold]

@[simp] theorem specSetLaneEyeScan_key (k : Nat) (c : Call) (s : State) : (((specSetLaneEyeScan k)).body c s).2.key = s.key := by
  unfold specSetLaneEyeScan
  dsimp only
  repeat' split
  all_goals first
    | (with_reducible rfl)
    | simp [↓State.key_ite, ↓State.key_mk, State.key_fold]

@[simp] theorem specReadLaneEyeScan_key (k : Nat) (c : Call) (s : State) : (((specReadLaneEyeScan k)).body c s).2.key = s.key := by
  unfold specReadLaneEyeScan
  split <;> simp [↓State.key_ite, ↓State.key_mk, State.key_fold]

@[simp] theorem specSetLaneI2cBind_key (k : Nat) (c : Call) (s : State) : (((specSetLaneI2cBind k)).body c s).2.key = s.key := by
  unfold specSetLaneI2cBind
  dsimp only
  repeat' split
  all_goals first
    | (with_reducible rfl)
    | simp [↓State.key_ite, ↓State.key_mk, State.key_fold]

@[simp] theorem specWriteLaneI2c_key (k : Nat) (c : Call) (s : State) : (((specWriteLaneI2c k)).body c s).2.key = s.key := by
  unfold specWriteLaneI2c
  dsimp only
  repeat' split
  all_goals first
    | (with_reducible rfl)
    | simp [↓State.key_ite, ↓State.key_mk, State.key_fold]

@[simp] theorem specSetLaneRateHooks_key (k : Nat) (c : Call) (s : State) : (((specSetLaneRateHooks k)).body c s).2.key = s.key := by
  unfold specSetLaneRateHooks
  dsimp only
  repeat' split
  all_goals first
    | (with_reducible rfl)
    | simp [↓State.key_ite, ↓State.key_mk, State.key_fold]

@[simp] theorem specQueryLane_key (c : Call) (s : State) : ((specQueryLane).body c s).2.key = s.key := by
  simp [specQueryLane]

@[simp] theorem specResetLane_key (c : Call) (s : State) : ((specResetLane).body c s).2.key = s.key := by
  unfold specResetLane
  simp [↓State.key_ite, ↓State.key_mk, State.key_fold]

@[simp] theorem specSetEthPort_key (c : Call) (s : State) : ((specSetEthPort).body c s).2.key = s.key := by
  unfold specSetEthPort
  dsimp only
  repeat' split
  all_goals first
    | (with_reducible rfl)
    | simp [↓State.key_ite, ↓State.key_mk, State.key_fold]

@[simp] theorem specResetEthPort_key (c : Call) (s : State) : ((specResetEthPort).body c s).2.key = s.key := by
  unfold specResetEthPort
  simp [↓State.key_ite, ↓State.key_mk, State.key_fold]

@[simp] theorem specSetEthPortPtp_key (c : Call) (s : State) : ((specSetEthPortPtp).body c s).2.key = s.key := by
  unfold specSetEthPortPtp
  dsimp only
  repeat' split
  all_goals first
    | (with_reducible rfl)
    | simp [↓State.key_ite, ↓State.key_mk, State.key_fold]

@[simp] theorem specQueryEthPort_key (c : Call) (s : State) : ((specQueryEthPort).body c s).2.key = s.key := by
  simp [specQueryEthPort]

@[simp] theorem specQueryFlow_key (c : Call) (s : State) : ((specQueryFlow).body c s).2.key = s.key := by
  simp [specQueryFlow]

@[simp] theorem specReadQueueSamples_key (c : Call) (s : State) : ((specReadQueueSamples).body c s).2.key = s.key := by
  unfold specReadQueueSamples
  dsimp only
  repeat' split
  all_goals first
    | (with_reducible rfl)
    | simp [↓State.key_ite, ↓State.key_mk, State.key_fold]

@[simp] theorem specQueryQueue_key (c : Call) (s : State) : ((specQueryQueue).body c s).2.key = s.key := by
  simp [specQueryQueue]

@[simp] theorem specQueryGateList_key (c : Call) (s : State) : ((specQueryGateList).body c s).2.key = s.key := by
  simp [specQueryGateList]

@[simp] theorem specQueryDelivery_key (c : Call) (s : State) : ((specQueryDelivery).body c s).2.key = s.key := by
  simp [specQueryDelivery]

@[simp] theorem specQueryReachBandwidth_key (c : Call) (s : State) : ((specQueryReachBandwidth).body c s).2.key = s.key := by
  simp [specQueryReachBandwidth]

@[simp] theorem specSetSrcPlayoutPost_key (c : Call) (s : State) : ((specSetSrcPlayoutPost).body c s).2.key = s.key := by
  unfold specSetSrcPlayoutPost
  dsimp only
  repeat' split
  all_goals first
    | (with_reducible rfl)
    | simp [↓State.key_ite, ↓State.key_mk, State.key_fold]

@[simp] theorem specSetDstCaptureHold_key (c : Call) (s : State) : ((specSetDstCaptureHold).body c s).2.key = s.key := by
  unfold specSetDstCaptureHold
  dsimp only
  repeat' split
  all_goals first
    | (with_reducible rfl)
    | simp [↓State.key_ite, ↓State.key_mk, State.key_fold]

@[simp] theorem specQueryDstCapture_key (c : Call) (s : State) : ((specQueryDstCapture).body c s).2.key = s.key := by
  unfold specQueryDstCapture
  dsimp only
  repeat' split
  all_goals first
    | (with_reducible rfl)
    | simp [↓State.key_ite, ↓State.key_mk, State.key_fold]

@[simp] theorem specSetGauge_key (c : Call) (s : State) : ((specSetGauge).body c s).2.key = s.key := by
  unfold specSetGauge
  dsimp only
  repeat' split
  all_goals first
    | (with_reducible rfl)
    | simp [↓State.key_ite, ↓State.key_mk, State.key_fold]

@[simp] theorem specWriteGaugeData_key (c : Call) (s : State) : ((specWriteGaugeData).body c s).2.key = s.key := by
  unfold specWriteGaugeData
  dsimp only
  repeat' split
  all_goals first
    | (with_reducible rfl)
    | simp [↓State.key_ite, ↓State.key_mk, State.key_fold]

@[simp] theorem specSetGaugeFeed_key (c : Call) (s : State) : ((specSetGaugeFeed).body c s).2.key = s.key := by
  unfold specSetGaugeFeed
  dsimp only
  repeat' split
  all_goals first
    | (with_reducible rfl)
    | simp [↓State.key_ite, ↓State.key_mk, State.key_fold]

@[simp] theorem specQueryGauge_key (c : Call) (s : State) : ((specQueryGauge).body c s).2.key = s.key := by
  simp [specQueryGauge]

@[simp] theorem specSetGaugeValue_key (c : Call) (s : State) : ((specSetGaugeValue).body c s).2.key = s.key := by
  unfold specSetGaugeValue
  dsimp only
  repeat' split
  all_goals first
    | (with_reducible rfl)
    | simp [↓State.key_ite, ↓State.key_mk, State.key_fold]

@[simp] theorem specSetGaugeFinalise_key (c : Call) (s : State) : ((specSetGaugeFinalise).body c s).2.key = s.key := by
  unfold specSetGaugeFinalise
  dsimp only
  repeat' split
  all_goals first
    | (with_reducible rfl)
    | simp [↓State.key_ite, ↓State.key_mk, State.key_fold]

@[simp] theorem specResetGauge_key (c : Call) (s : State) : ((specResetGauge).body c s).2.key = s.key := by
  unfold specResetGauge
  dsimp only
  repeat' split
  all_goals first
    | (with_reducible rfl)
    | simp [↓State.key_ite, ↓State.key_mk, State.key_fold]

@[simp] theorem specSetHeadFreeze_key (c : Call) (s : State) : ((specSetHeadFreeze).body c s).2.key = s.key := by
  unfold specSetHeadFreeze
  dsimp only
  repeat' split
  all_goals first
    | (with_reducible rfl)
    | simp [↓State.key_ite, ↓State.key_mk, State.key_fold]

@[simp] theorem specSetHeadStickyClear_key (c : Call) (s : State) : ((specSetHeadStickyClear).body c s).2.key = s.key := by
  unfold specSetHeadStickyClear
  simp [↓State.key_ite, ↓State.key_mk, State.key_fold]

@[simp] theorem specQueryHead_key (c : Call) (s : State) : ((specQueryHead).body c s).2.key = s.key := by
  simp [specQueryHead]

@[simp] theorem specQueryLayer_key (c : Call) (s : State) : ((specQueryLayer).body c s).2.key = s.key := by
  simp [specQueryLayer]

@[simp] theorem specWriteLayerSurface_key (c : Call) (s : State) : ((specWriteLayerSurface).body c s).2.key = s.key := by
  unfold specWriteLayerSurface
  dsimp only
  repeat' split
  all_goals first
    | (with_reducible rfl)
    | simp [↓State.key_ite, ↓State.key_mk, State.key_fold]

@[simp] theorem specSetPlaneDiagnosis_key (c : Call) (s : State) : ((specSetPlaneDiagnosis).body c s).2.key = s.key := by
  unfold specSetPlaneDiagnosis
  dsimp only
  repeat' split
  all_goals first
    | (with_reducible rfl)
    | simp [↓State.key_ite, ↓State.key_mk, State.key_fold]

@[simp] theorem specQueryPlane_key (c : Call) (s : State) : ((specQueryPlane).body c s).2.key = s.key := by
  simp [specQueryPlane]

@[simp] theorem specSubmitJob_key (c : Call) (s : State) : ((specSubmitJob).body c s).2.key = s.key := by
  unfold specSubmitJob
  dsimp only
  repeat' split
  all_goals first
    | (with_reducible rfl)
    | simp [↓State.key_ite, ↓State.key_mk, State.key_fold]

@[simp] theorem specCancelJob_key (c : Call) (s : State) : ((specCancelJob).body c s).2.key = s.key := by
  unfold specCancelJob
  dsimp only
  repeat' split
  all_goals first
    | (with_reducible rfl)
    | simp [↓State.key_ite, ↓State.key_mk, State.key_fold]

@[simp] theorem specSetJobTrace_base (c : Call) (s : State) : ((specSetJobTrace).body c s).2.key.base = s.key.base := by
  unfold specSetJobTrace
  dsimp only
  repeat' split
  all_goals first
    | (with_reducible rfl)
    | simp [↓State.key_ite, ↓apply_ite Key.base, ↓State.key_mk, State.key_fold, Key.base_of, State.base_fold]

@[simp] theorem specReadJobTrace_key (c : Call) (s : State) : ((specReadJobTrace).body c s).2.key = s.key := by
  unfold specReadJobTrace
  dsimp only
  repeat' split
  all_goals first
    | (with_reducible rfl)
    | simp [↓State.key_ite, ↓State.key_mk, State.key_fold]

@[simp] theorem specQueryJob_key (c : Call) (s : State) : ((specQueryJob).body c s).2.key = s.key := by
  unfold specQueryJob
  dsimp only
  repeat' split
  all_goals first
    | (with_reducible rfl)
    | simp [↓State.key_ite, ↓State.key_mk, State.key_fold]

@[simp] theorem specQueryJobReaches_key (c : Call) (s : State) : ((specQueryJobReaches).body c s).2.key = s.key := by
  simp [specQueryJobReaches]

@[simp] theorem specQueryDecodeCtx_key (c : Call) (s : State) : ((specQueryDecodeCtx).body c s).2.key = s.key := by
  simp [specQueryDecodeCtx]

@[simp] theorem specResetDecodeCtx_key (c : Call) (s : State) : ((specResetDecodeCtx).body c s).2.key = s.key := by
  simp [specResetDecodeCtx]

@[simp] theorem specSetRefInput_key (c : Call) (s : State) : ((specSetRefInput).body c s).2.key = s.key := by
  unfold specSetRefInput
  dsimp only
  repeat' split
  all_goals first
    | (with_reducible rfl)
    | simp [↓State.key_ite, ↓State.key_mk, State.key_fold]

@[simp] theorem specQueryRefInput_key (c : Call) (s : State) : ((specQueryRefInput).body c s).2.key = s.key := by
  simp [specQueryRefInput]

@[simp] theorem specSetTimebase_key (c : Call) (s : State) : ((specSetTimebase).body c s).2.key = s.key := by
  unfold specSetTimebase
  dsimp only
  repeat' split
  all_goals first
    | (with_reducible rfl)
    | simp [↓State.key_ite, ↓State.key_mk, State.key_fold]

@[simp] theorem specSetTimebasePhase_base (c : Call) (s : State) : ((specSetTimebasePhase).body c s).2.key.base = s.key.base := by
  unfold specSetTimebasePhase
  dsimp only
  repeat' split
  all_goals first
    | (with_reducible rfl)
    | simp [↓State.key_ite, ↓apply_ite Key.base, ↓State.key_mk, State.key_fold, Key.base_of, State.base_fold]

@[simp] theorem specSetTimebaseAbsolute_base (c : Call) (s : State) : ((specSetTimebaseAbsolute).body c s).2.key.base = s.key.base := by
  unfold specSetTimebaseAbsolute
  dsimp only
  repeat' split
  all_goals first
    | (with_reducible rfl)
    | simp [↓State.key_ite, ↓apply_ite Key.base, ↓State.key_mk, State.key_fold, Key.base_of, State.base_fold]

@[simp] theorem specQueryTimebase_key (c : Call) (s : State) : ((specQueryTimebase).body c s).2.key = s.key := by
  simp [specQueryTimebase]

@[simp] theorem specSetTrigger_key (c : Call) (s : State) : ((specSetTrigger).body c s).2.key = s.key := by
  unfold specSetTrigger
  dsimp only
  repeat' split
  all_goals first
    | (with_reducible rfl)
    | simp [↓State.key_ite, ↓State.key_mk, State.key_fold]

@[simp] theorem specQueryTrigger_key (c : Call) (s : State) : ((specQueryTrigger).body c s).2.key = s.key := by
  simp [specQueryTrigger]

@[simp] theorem specReadCalset_key (c : Call) (s : State) : ((specReadCalset).body c s).2.key = s.key := by
  simp [specReadCalset]

@[simp] theorem specWriteCalset_key (c : Call) (s : State) : ((specWriteCalset).body c s).2.key = s.key := by
  unfold specWriteCalset
  dsimp only
  repeat' split
  all_goals first
    | (with_reducible rfl)
    | simp [↓State.key_ite, ↓State.key_mk, State.key_fold]

@[simp] theorem specSetCalsetRecalibrate_key (c : Call) (s : State) : ((specSetCalsetRecalibrate).body c s).2.key = s.key := by
  unfold specSetCalsetRecalibrate
  dsimp only
  repeat' split
  all_goals first
    | (with_reducible rfl)
    | simp [↓State.key_ite, ↓State.key_mk, State.key_fold]

/-- SET on Mode leaves the key alone, or makes a transition busy that the table of 01 R50 lists. -/
theorem specSetMode_key (c : Call) (s : State) : ((specSetMode).body c s).2.key = s.key ∨
    ∃ m, s.mode.busy = false ∧ modeListed s.mode.current m = true ∧
      ((specSetMode).body c s).2.key = s.key.inMode (s.mode.current, s.mode.base, m, true) := by
  unfold specSetMode
  dsimp only
  split
  · exact .inl rfl
  · rename_i m _
    split
    · exact .inl rfl
    · split
      · rename_i hb _
        unfold State.wake
        split
        · exact .inl rfl
        · split
          · exact .inl rfl
          · rcases State.tryBoot_key { s with mode := { s.mode with asked := true, bootNext := if s.mode.bootForced then s.mode.bootNext else 6 } } with h | ⟨hd, h⟩
            · exact .inl (h.trans rfl)
            · refine .inr ⟨.boot, by simpa using hb, ?_, h.trans (Eq.trans rfl rfl)⟩
              rw [show s.mode.current = .dormant from hd]
              rfl
      · split
        · exact .inl rfl
        · split
          · exact .inl rfl
          · rename_i hb _ hl _
            exact .inr ⟨m, by simpa using hb, by simpa using hl, Eq.trans rfl rfl⟩

@[simp] theorem specQueryMode_key (c : Call) (s : State) : ((specQueryMode).body c s).2.key = s.key := by
  simp [specQueryMode]

@[simp] theorem specResetDevice_key (c : Call) (s : State) : ((specResetDevice).body c s).2.key = s.key := by
  unfold specResetDevice
  simp [↓State.key_ite, ↓State.key_mk, State.key_fold]

@[simp] theorem specOpenImage_key (c : Call) (s : State) : ((specOpenImage).body c s).2.key = s.key := by
  unfold specOpenImage
  dsimp only
  repeat' split
  all_goals first
    | (with_reducible rfl)
    | simp [↓State.key_ite, ↓State.key_mk, State.key_fold]

@[simp] theorem specPutImage_key (c : Call) (s : State) : (specPutImage.body c s).2.key = s.key := by
  unfold specPutImage
  simp [↓snd_key_ite, ↓State.key_ite, ↓State.key_mk, State.key_fold]

@[simp] theorem specCloseImage_key (c : Call) (s : State) : ((specCloseImage).body c s).2.key = s.key := by
  unfold specCloseImage
  dsimp only
  repeat' split
  all_goals first
    | (with_reducible rfl)
    | simp [↓State.key_ite, ↓State.key_mk, State.key_fold]

@[simp] theorem specActivateImage_key (c : Call) (s : State) : (specActivateImage.body c s).2.key = s.key := by
  unfold specActivateImage
  simp [↓snd_key_ite, ↓State.key_ite, ↓State.key_mk, State.key_fold]

@[simp] theorem specSetImage_key (c : Call) (s : State) : ((specSetImage).body c s).2.key = s.key := by
  unfold specSetImage
  dsimp only
  repeat' split
  all_goals first
    | (with_reducible rfl)
    | simp [↓State.key_ite, ↓State.key_mk, State.key_fold]

@[simp] theorem specLockImage_key (c : Call) (s : State) : ((specLockImage).body c s).2.key = s.key := by
  unfold specLockImage
  dsimp only
  repeat' split
  all_goals first
    | (with_reducible rfl)
    | simp [↓State.key_ite, ↓State.key_mk, State.key_fold]

@[simp] theorem specUnlockImage_key (c : Call) (s : State) : ((specUnlockImage).body c s).2.key = s.key := by
  unfold specUnlockImage
  simp [↓State.key_ite, ↓State.key_mk, State.key_fold]

@[simp] theorem specQueryImage_key (c : Call) (s : State) : ((specQueryImage).body c s).2.key = s.key := by
  unfold specQueryImage
  dsimp only
  repeat' split
  all_goals first
    | (with_reducible rfl)
    | simp [↓State.key_ite, ↓State.key_mk, State.key_fold]

@[simp] theorem specAckThermal_base (c : Call) (s : State) : ((specAckThermal).body c s).2.key.base = s.key.base := by
  unfold specAckThermal
  dsimp only
  repeat' split
  all_goals first
    | (with_reducible rfl)
    | simp [↓State.key_ite, ↓apply_ite Key.base, ↓State.key_mk, State.key_fold, Key.base_of, State.base_fold]


@[simp] theorem specReadThermalRecords_key (c : Call) (s : State) : ((specReadThermalRecords).body c s).2.key = s.key := by
  simp [specReadThermalRecords]

@[simp] theorem specSetThermal_key (c : Call) (s : State) : ((specSetThermal).body c s).2.key = s.key := by
  unfold specSetThermal
  dsimp only
  repeat' split
  all_goals first
    | (with_reducible rfl)
    | simp [↓State.key_ite, ↓State.key_mk, State.key_fold]

@[simp] theorem specQueryThermal_key (c : Call) (s : State) : ((specQueryThermal).body c s).2.key = s.key := by
  simp [specQueryThermal]

@[simp] theorem specQueryDevice_key (c : Call) (s : State) : ((specQueryDevice).body c s).2.key = s.key := by
  simp [specQueryDevice]

@[simp] theorem specQueryReach_key (c : Call) (s : State) : ((specQueryReach).body c s).2.key = s.key := by
  simp [specQueryReach]

@[simp] theorem specSetDomain_base (c : Call) (s : State) : ((specSetDomain).body c s).2.key.base = s.key.base := by
  unfold specSetDomain
  dsimp only
  repeat' split
  all_goals first
    | (with_reducible rfl)
    | simp [↓State.key_ite, ↓apply_ite Key.base, ↓State.key_mk, State.key_fold, Key.base_of, State.base_fold]

@[simp] theorem specQueryDomain_key (c : Call) (s : State) : ((specQueryDomain).body c s).2.key = s.key := by
  simp [specQueryDomain]

@[simp] theorem specCommit_key (c : Call) (s : State) : ((specCommit).body c s).2.key = s.key := by
  unfold specCommit
  simp [↓State.key_ite, ↓State.key_mk, State.key_fold]

@[simp] theorem specCancelStageSet_key (c : Call) (s : State) : ((specCancelStageSet).body c s).2.key = s.key := by
  unfold specCancelStageSet
  simp [↓State.key_ite, ↓State.key_mk, State.key_fold]

@[simp] theorem specCancelCommitted_key (c : Call) (s : State) : ((specCancelCommitted).body c s).2.key = s.key := by
  unfold specCancelCommitted
  dsimp only
  repeat' split
  all_goals first
    | (with_reducible rfl)
    | simp [↓State.key_ite, ↓State.key_mk, State.key_fold]

@[simp] theorem specTake_key (c : Call) (s : State) : ((specTake).body c s).2.key = s.key := by
  unfold specTake
  dsimp only
  repeat' split
  all_goals first
    | (with_reducible rfl)
    | simp [↓State.key_ite, ↓State.key_mk, State.key_fold]

@[simp] theorem specSalvo_key (c : Call) (s : State) : ((specSalvo).body c s).2.key = s.key := by
  unfold specSalvo
  dsimp only
  repeat' split
  all_goals first
    | (with_reducible rfl)
    | simp [↓State.key_ite, ↓State.key_mk, State.key_fold]

@[simp] theorem specLockDst_key (c : Call) (s : State) : ((specLockDst).body c s).2.key = s.key := by
  simp [specLockDst]

@[simp] theorem specUnlockDst_key (c : Call) (s : State) : ((specUnlockDst).body c s).2.key = s.key := by
  simp [specUnlockDst]

@[simp] theorem specLockAudioOut_key (c : Call) (s : State) : ((specLockAudioOut).body c s).2.key = s.key := by
  simp [specLockAudioOut]

@[simp] theorem specUnlockAudioOut_key (c : Call) (s : State) : ((specUnlockAudioOut).body c s).2.key = s.key := by
  simp [specUnlockAudioOut]

@[simp] theorem specTakeAudioOut_key (c : Call) (s : State) : ((specTakeAudioOut).body c s).2.key = s.key := by
  simp [specTakeAudioOut]

@[simp] theorem specStageDstRoute_key (c : Call) (s : State) : ((specStageDstRoute).body c s).2.key = s.key := by
  unfold specStageDstRoute
  dsimp only
  repeat' split
  all_goals first
    | (with_reducible rfl)
    | simp [↓State.key_ite, ↓State.key_mk, State.key_fold]

@[simp] theorem specStageDstFormat_key (c : Call) (s : State) : ((specStageDstFormat).body c s).2.key = s.key := by
  simp [specStageDstFormat]

@[simp] theorem specStageDstDomain_key (c : Call) (s : State) : ((specStageDstDomain).body c s).2.key = s.key := by
  simp [specStageDstDomain]

@[simp] theorem specStageSrcLossAction_key (c : Call) (s : State) : ((specStageSrcLossAction).body c s).2.key = s.key := by
  simp [specStageSrcLossAction]

@[simp] theorem specStageSrcOverride_key (c : Call) (s : State) : ((specStageSrcOverride).body c s).2.key = s.key := by
  simp [specStageSrcOverride]

@[simp] theorem specStageAudioOutRoute_key (c : Call) (s : State) : ((specStageAudioOutRoute).body c s).2.key = s.key := by
  simp [specStageAudioOutRoute]

@[simp] theorem specStageAudioOutFollow_key (c : Call) (s : State) : ((specStageAudioOutFollow).body c s).2.key = s.key := by
  simp [specStageAudioOutFollow]

@[simp] theorem specStageAudioOutDomain_key (c : Call) (s : State) : ((specStageAudioOutDomain).body c s).2.key = s.key := by
  simp [specStageAudioOutDomain]

@[simp] theorem specStageAudioOutDelay_key (c : Call) (s : State) : ((specStageAudioOutDelay).body c s).2.key = s.key := by
  simp [specStageAudioOutDelay]

@[simp] theorem specStageAacProgramme_key (c : Call) (s : State) : ((specStageAacProgramme).body c s).2.key = s.key := by
  simp [specStageAacProgramme]

@[simp] theorem specStageSlotMask_key (c : Call) (s : State) : ((specStageSlotMask).body c s).2.key = s.key := by
  simp [specStageSlotMask]

@[simp] theorem specStageFlow_key (c : Call) (s : State) : ((specStageFlow).body c s).2.key = s.key := by
  simp [specStageFlow]

@[simp] theorem specStageQueueDscpMap_key (c : Call) (s : State) : ((specStageQueueDscpMap).body c s).2.key = s.key := by
  unfold specStageQueueDscpMap
  dsimp only
  repeat' split
  all_goals first
    | (with_reducible rfl)
    | simp [↓State.key_ite, ↓State.key_mk, State.key_fold]

@[simp] theorem specStageQueue_key (c : Call) (s : State) : ((specStageQueue).body c s).2.key = s.key := by
  simp [specStageQueue]

@[simp] theorem specStageGateList_key (c : Call) (s : State) : ((specStageGateList).body c s).2.key = s.key := by
  simp [specStageGateList]

@[simp] theorem specStagePlane_key (c : Call) (s : State) : ((specStagePlane).body c s).2.key = s.key := by
  unfold specStagePlane
  dsimp only
  repeat' split
  all_goals first
    | (with_reducible rfl)
    | simp [↓State.key_ite, ↓State.key_mk, State.key_fold]

@[simp] theorem specStageStem_key (c : Call) (s : State) : ((specStageStem).body c s).2.key = s.key := by
  simp [specStageStem]

@[simp] theorem specStageRendition_key (c : Call) (s : State) : ((specStageRendition).body c s).2.key = s.key := by
  simp [specStageRendition]

@[simp] theorem specStageRenditionRate_key (c : Call) (s : State) : ((specStageRenditionRate).body c s).2.key = s.key := by
  simp [specStageRenditionRate]

@[simp] theorem specStageDelivery_key (c : Call) (s : State) : ((specStageDelivery).body c s).2.key = s.key := by
  simp [specStageDelivery]

@[simp] theorem specStageDecodeCtx_key (c : Call) (s : State) : ((specStageDecodeCtx).body c s).2.key = s.key := by
  simp [specStageDecodeCtx]

@[simp] theorem specStageHead_key (c : Call) (s : State) : ((specStageHead).body c s).2.key = s.key := by
  simp [specStageHead]

@[simp] theorem specStageHeadDomain_key (c : Call) (s : State) : ((specStageHeadDomain).body c s).2.key = s.key := by
  simp [specStageHeadDomain]

@[simp] theorem specStageVideoLayer_key (c : Call) (s : State) : ((specStageVideoLayer).body c s).2.key = s.key := by
  simp [specStageVideoLayer]

@[simp] theorem specStageGraphicLayer_key (c : Call) (s : State) : ((specStageGraphicLayer).body c s).2.key = s.key := by
  simp [specStageGraphicLayer]

@[simp] theorem specStageLayerMatrix_key (c : Call) (s : State) : ((specStageLayerMatrix).body c s).2.key = s.key := by
  simp [specStageLayerMatrix]

@[simp] theorem specStageMeterFirst_key (c : Call) (s : State) : ((specStageMeterFirst).body c s).2.key = s.key := by
  simp [specStageMeterFirst]

@[simp] theorem specSubscribe_key (c : Call) (s : State) : ((specSubscribe).body c s).2.key = s.key := by
  unfold specSubscribe
  dsimp only
  repeat' split
  all_goals first
    | (with_reducible rfl)
    | simp [↓State.key_ite, ↓State.key_mk, State.key_fold]

@[simp] theorem specUnsubscribe_key (c : Call) (s : State) : ((specUnsubscribe).body c s).2.key = s.key := by
  unfold specUnsubscribe
  dsimp only
  repeat' split
  all_goals first
    | (with_reducible rfl)
    | simp [↓State.key_ite, ↓State.key_mk, State.key_fold]

@[simp] theorem specQuerySubscriptions_key (c : Call) (s : State) : ((specQuerySubscriptions).body c s).2.key = s.key := by
  simp [specQuerySubscriptions]

@[simp] theorem specQueryEvent_key (c : Call) (s : State) : ((specQueryEvent).body c s).2.key = s.key := by
  simp [specQueryEvent]

@[simp] theorem specReadCounter_key (c : Call) (s : State) : ((specReadCounter).body c s).2.key = s.key := by
  unfold specReadCounter
  dsimp only
  repeat' split
  all_goals first
    | (with_reducible rfl)
    | simp [↓State.key_ite, ↓State.key_mk, State.key_fold]

@[simp] theorem specReadCounterCatalogue_key (c : Call) (s : State) : ((specReadCounterCatalogue).body c s).2.key = s.key := by
  simp [specReadCounterCatalogue]

@[simp] theorem specWriteCounterSticky_key (c : Call) (s : State) : ((specWriteCounterSticky).body c s).2.key = s.key := by
  unfold specWriteCounterSticky
  dsimp only
  repeat' split
  all_goals first
    | (with_reducible rfl)
    | simp [↓State.key_ite, ↓State.key_mk, State.key_fold]

end Sys2Proof.Machine
end

