-- ==== Sys2Proof/Laws/KeepsServe.lean ====
section
/-! SUPPORT. The operations of Machine/Serve.lean leave the queue, the identity, the frame store and the bank sizes alone. -/
set_option linter.unusedSimpArgs false
set_option linter.unusedVariables false
namespace Sys2Proof.Machine


/-- The requests that change the mode's target, the trace settings or a timing domain. -/
def oddSpecs : List ReqSpec := [specSetMode, specSetJobTrace, specSetDomain, specSetTimebasePhase, specSetTimebaseAbsolute, specAckThermal]

/-- Every other request leaves the key alone. -/
theorem allSpecs_key (k : Nat) : ∀ q ∈ allSpecs k, (∀ c t, (q.body c t).2.key = t.key) ∨ q ∈ oddSpecs := by
  simp [oddSpecs, allSpecs, specs1, specs2, specs3, specs4, specs5, specs6]

/-- What a change that leaves the key alone keeps, and the odd requests keep, a request frame keeps. -/
theorem serveFrame_ind (P : State → Prop) (hk : ∀ u v : State, v.key = u.key → P u → P v)
    (hm : ∀ q ∈ oddSpecs, ∀ c t, P t → P (q.body c t).2) (s : State) (carrier : Carrier) (b : Bytes) (hs : P s) : P (s.serveFrame carrier b) := by
  unfold State.serveFrame
  dsimp only
  repeat' split
  all_goals first
    | exact hk s _ (State.reply_key _ _ _ _) hs
    | (rename_i q hq
       rcases allSpecs_key _ _ (List.mem_of_find?_eq_some hq) with h | h
       · exact serve_ind P hk q _ _ (fun c t ht => hk _ _ (h c t) ht) hs
       · exact serve_ind P hk q _ _ (fun c t ht => hm q h c t ht) hs)

/-- The same of a frame that the service port takes. -/
theorem svcSend_ind (P : State → Prop) (hk : ∀ u v : State, v.key = u.key → P u → P v)
    (hm : ∀ q ∈ oddSpecs, ∀ c t, P t → P (q.body c t).2) (s : State) (b : Bytes) (hs : P s) : P (s.svcSend b) := by
  unfold State.svcSend
  split
  · exact hs
  · split
    · exact hk s _ (by simp [↓State.key_mk, State.key_fold]) hs
    · exact serveFrame_ind P hk hm s _ b hs

/-- The same of a datagram of the in-band flow. -/
theorem inbandRequest_ind (P : State → Prop) (hk : ∀ u v : State, v.key = u.key → P u → P v)
    (hm : ∀ q ∈ oddSpecs, ∀ c t, P t → P (q.body c t).2) (s : State) (sender : InbandSender) (b : Bytes) (hs : P s) :
    P (s.inbandRequest sender b) := by
  have ite : ∀ (c : Prop) [Decidable c] (u v : State), P u → P v → P (if c then u else v) := by
    intro c _ u v hu hv
    split
    · exact hu
    · exact hv
  have hi : ∀ x : ImageSt, P { s with image := x } := fun x => hk s _ (by simp [↓State.key_mk, State.key_fold]) hs
  unfold State.inbandRequest
  split
  · exact hs
  · split
    · exact hs
    · dsimp only
      refine ite _ _ _ (hk s _ ?_ hs) (serveFrame_ind P hk hm _ _ b (hi _))
      simp

@[simp] theorem State.svcOut_key (s : State) (b : Bytes) :
    (State.svcOut s b).key = s.key := by
  unfold State.svcOut
  simp [↓State.key_ite, ↓State.key_mk, State.key_fold]

@[simp] theorem State.svcStatus_key (s : State) :
    (State.svcStatus s).key = s.key := by
  unfold State.svcStatus
  simp [↓State.key_ite, ↓State.key_mk, State.key_fold]

@[simp] theorem State.svcFetch_key (s : State) :
    (State.svcFetch s).key = s.key := by
  unfold State.svcFetch
  simp [↓State.key_ite, ↓State.key_mk, State.key_fold]

@[simp] theorem State.svcWord_base (s : State) (o : Nat) :
    (State.svcWord s o).key.base = s.key.base := by
  unfold State.svcWord
  simp [↓State.key_ite, ↓apply_ite Key.base, ↓State.key_mk, State.key_fold, Key.base_of, State.base_fold]

@[simp] theorem State.ringFetchError_key (s : State) (n verb : Nat) (r : Request) :
    (State.ringFetchError s n verb r).key = s.key := by
  simp [State.ringFetchError]

end Sys2Proof.Machine
end

