-- ==== Sys2Proof/Laws/Memory.lean ====
section
/-! SUPPORT. The frame store: a read after a write gives the byte written and a write leaves every other byte alone, and every
operation that changes the store keeps its canonical form. -/
namespace Sys2Proof.Machine

/-! ### Bytes and runs of bytes -/

theorem State.dramByte_put_self (s : State) (a : Nat) (b : Byte) : (s.dramPut a b).dramByte a = b :=
  tget_tset_self s.memDefault s.dram a b

theorem State.dramByte_put_other (s : State) (a k : Nat) (b : Byte) (h : k ≠ a) : (s.dramPut a b).dramByte k = s.dramByte k :=
  tget_tset_other s.memDefault s.dram a k b h

/-- A byte written keeps the canonical form. -/
theorem State.dramPut_wf (s : State) (a : Nat) (b : Byte) (h : Memory.wf s = true) : Memory.wf (s.dramPut a b) = true :=
  tabAbove_tset s.memDefault s.dram a b none h (by simp)

/-- A run of bytes written keeps the canonical form. -/
theorem State.dramWrite_wf (l : Bytes) (s : State) (a : Nat) (h : Memory.wf s = true) : Memory.wf (s.dramWrite a l) = true := by
  induction l generalizing s a with
  | nil => exact h
  | cons b l ih => exact ih _ _ (State.dramPut_wf s a b h)

/-- A run of bytes written leaves every byte outside it alone. -/
theorem State.dramByte_write_other (l : Bytes) (s : State) (a k : Nat) (h : k < a ∨ a + l.length ≤ k) :
    (s.dramWrite a l).dramByte k = s.dramByte k := by
  induction l generalizing s a with
  | nil => rfl
  | cons b l ih =>
    simp only [List.length_cons] at h
    exact (ih (s.dramPut a b) (a + 1) (by omega)).trans (State.dramByte_put_other s a k b (by omega))

/-- A run of bytes written reads back. -/
theorem State.dramByte_write_self (l : Bytes) (s : State) (a i : Nat) (h : i < l.length) :
    (s.dramWrite a l).dramByte (a + i) = l[i] := by
  induction l generalizing s a i with
  | nil => simp at h
  | cons b l ih =>
    cases i with
    | zero =>
      exact (State.dramByte_write_other l (s.dramPut a b) (a + 1) a (by omega)).trans (State.dramByte_put_self s a b)
    | succ i =>
      have := ih (s.dramPut a b) (a + 1) i (by simpa using h)
      rw [show a + (i + 1) = a + 1 + i by omega]
      simpa [State.dramWrite] using this

/-! ### What changes what unlisted bytes read -/

/-- What an unlisted byte reads when the capture slots hold these frames. -/
def stampDefault (t : Tab CapSlot) (a : Nat) : Byte :=
  match captureSlotAt a with
  | some p => if (tget (fun _ => CapSlot.reset) t p.1).frame = 0 then 0 else (tget (fun _ => CapSlot.reset) t p.1).byte p.2
  | none => 0

theorem State.memDefault_eq (s : State) : s.memDefault = stampDefault s.capStamps := rfl

/-- The capture slot of an address belongs to the address's reach. -/
theorem captureSlotAt_reach (a : Nat) (p : Nat × Nat) (h : captureSlotAt a = some p) : p.1 / 4 % 4 = a / reachSpan := by
  unfold captureSlotAt at h
  dsimp only at h
  split at h
  · rename_i hc
    simp only [Option.some.injEq] at h
    rw [← h]
    have hr : a / reachSpan < 4 := by
      simp only [Bool.and_eq_true, decide_eq_true_eq] at hc
      exact Nat.div_lt_of_lt_mul (by omega)
    generalize a / reachSpan = r at hr ⊢
    generalize (a % reachSpan - 0x4C0000000) / 0x20000000 = w
    have hs : (a % reachSpan - 0x4C0000000) % 0x20000000 / 0x8000000 < 4 := by omega
    generalize (a % reachSpan - 0x4C0000000) % 0x20000000 / 0x8000000 = x at hs ⊢
    omega
  · exact absurd h (by simp)

/-- The host windows filled with zero keep the canonical form. -/
theorem State.memRestore_wf (s : State) (h : Memory.wf s = true) : Memory.wf s.memRestore = true := by
  unfold Memory.wf tabWf at h ⊢
  rw [State.memDefault_eq] at h ⊢
  refine tabAbove_filter _ _ _ _ (fun e _ hp => ?_) none h
  simp only [stampDefault]
  cases hs : captureSlotAt e.1 with
  | none => rfl
  | some p =>
    have hr := captureSlotAt_reach e.1 p hs
    have ht : tget (fun _ => CapSlot.reset) s.memRestore.capStamps p.1 = tget (fun _ => CapSlot.reset) s.capStamps p.1 :=
      tget_filter _ _ _ _ (fun w => by simpa [hr] using hp)
    simp only [ht]

/-- A frame that fills a capture slot keeps the canonical form. -/
theorem State.fillSlot_wf (s : State) (j slot frame sampling : Nat) (x : Picture) (h : Memory.wf s = true) :
    Memory.wf (s.fillSlot j slot frame sampling x) = true := by
  unfold Memory.wf tabWf at h ⊢
  rw [State.memDefault_eq] at h ⊢
  refine tabAbove_filter _ _ _ _ (fun e _ hp => ?_) none h
  simp only [stampDefault]
  cases hs : captureSlotAt e.1 with
  | none => rfl
  | some p =>
    simp only [hs, bne_iff_ne, ne_eq] at hp
    have ht : tget (fun _ => CapSlot.reset) (s.fillSlot j slot frame sampling x).capStamps p.1 = tget (fun _ => CapSlot.reset) s.capStamps p.1 := by
      simp only [State.fillSlot]
      exact tget_tset_other (fun _ => CapSlot.reset) s.capStamps (4 * j + slot) p.1 _ hp
    simp only [ht]

end Sys2Proof.Machine
end

