-- ==== Sys2Proof/Laws/Sound.lean ====
section
/-! SUPPORT. What every operation keeps: the queue, the fused identity, and the invariant of a run. The operations of the files
Keeps leave the frame store and the banks alone; here stand the ones that change them. -/
namespace Sys2Proof.Machine

/-- From `s` to `t` the queue and the identity stay, and the invariant with them. -/
structure Kept (s t : State) : Prop where
  queue : t.pending = s.pending
  identity : t.fused.identity = s.fused.identity
  sound : s.Sound → t.Sound

theorem Kept.refl (s : State) : Kept s s := ⟨rfl, rfl, id⟩

theorem Kept.trans {s t u : State} (h : Kept s t) (k : Kept t u) : Kept s u :=
  ⟨k.queue.trans h.queue, k.identity.trans h.identity, fun x => k.sound (h.sound x)⟩

/-- What leaves the base of the key alone keeps everything. -/
theorem Kept.of_base {s t : State} (h : t.key.base = s.key.base) : Kept s t := by
  simp only [State.key, keyOf, Key.base, Key.mk.injEq] at h
  obtain ⟨-, hq, hi, hd, hc, hn, -⟩ := h
  refine ⟨hq, hi, fun x => ⟨?_, hn.trans x.2⟩⟩
  have := x.1
  unfold Memory.wf at this ⊢
  rw [State.memDefault_eq] at this ⊢
  rw [hd, hc]
  exact this

/-- What leaves the key alone keeps everything. -/
theorem Kept.of_key {s t : State} (h : t.key = s.key) : Kept s t := Kept.of_base (by rw [h])

/-- What leaves the key alone but for the mode keeps everything. -/
theorem Kept.of_mode {s t : State} {m : Mode × Mode × Mode × Bool} (h : t.key = s.key.inMode m) : Kept s t :=
  Kept.of_base (by rw [h]; rfl)

theorem Kept.ite {c : Prop} [Decidable c] {s t u : State} (h : Kept s t) (k : Kept s u) : Kept s (if c then t else u) := by
  split
  · exact h
  · exact k

theorem Kept.each {α : Type} {s t : State} (h : Kept s t) (l : List α) (f : State → α → State) (k : ∀ u x, Kept u (f u x)) :
    Kept s (t.each l f) := by
  induction l generalizing t with
  | nil => exact h
  | cons x l ih => exact ih (h.trans (k t x))

/-- What leaves the key alone may follow. -/
theorem Kept.then {s t u : State} (h : Kept s t) (k : u.key = t.key) : Kept s u := h.trans (Kept.of_key k)

/-! ### The frame store -/

theorem dramPut_kept (s : State) (a : Nat) (b : Byte) : Kept s (s.dramPut a b) :=
  ⟨rfl, rfl, fun h => ⟨State.dramPut_wf s a b h.1, h.2⟩⟩

theorem dramWrite_kept (l : Bytes) (s : State) (a : Nat) : Kept s (s.dramWrite a l) := by
  induction l generalizing s a with
  | nil => exact Kept.refl s
  | cons b l ih => exact (dramPut_kept s a b).trans (ih _ _)

theorem memWrite_kept (s : State) (a : Nat) (b : Bytes) : Kept s (s.memWrite a b) :=
  ((dramWrite_kept b s a).then (State.pageTouch_key _ a b.length)).each _ _ (fun u x => Kept.of_key (State.modStack_key u x _))

theorem memRestore_kept (s : State) : Kept s s.memRestore :=
  ⟨rfl, rfl, fun h => ⟨State.memRestore_wf s h.1, by simpa [State.memRestore, State.banks] using h.2⟩⟩

theorem fillSlot_kept (s : State) (j slot frame sampling : Nat) (p : Picture) : Kept s (s.fillSlot j slot frame sampling p) :=
  ⟨rfl, rfl, fun h => ⟨State.fillSlot_wf s j slot frame sampling p h.1, h.2⟩⟩

theorem memMode_kept (s : State) (m : Mode) : Kept s (s.memMode m) := by
  unfold State.memMode
  split
  · exact Kept.of_key (by simp)
  · exact Kept.of_key (by simp)
  · exact Kept.ite (Kept.of_key (by simp)) (Kept.of_key (by simp))
  · exact Kept.refl s
  · exact Kept.refl s
  · exact Kept.of_key (by simp)
  · exact (Kept.of_key (State.stackPower_key s .active)).trans (memRestore_kept _)

theorem captureFrame_kept (s : State) (d : Nat) : Kept s (s.captureFrame d) := by
  unfold State.captureFrame
  dsimp only
  split
  · exact Kept.refl s
  · split
    · exact Kept.of_key (by simp)
    · exact ((Kept.refl s).each _ _ (fun u _ => fillSlot_kept u _ _ _ _ _)).then (by simp; rfl)

/-! ### Culvert channels and fencing -/

theorem State.key_mode (s : State) (x : ModeSt) (h : x.regs = s.mode.regs) (hb : x.heartbeat = s.mode.heartbeat) : State.key { s with mode := x } = s.key := by
  have e : State.key { s with mode := x } =
      { s.key with mode := x.regs, rare := (s.repair, s.remap, s.readback, s.riderDev, s.jtag, x.heartbeat, s.domains) } := Eq.trans rfl rfl
  rw [e, h, hb]
  exact Eq.trans rfl rfl

theorem culvertPart_kept (s : State) (x : Shadow) (done : Nat) : Kept s (s.culvertPart x done) := by
  unfold State.culvertPart
  dsimp only
  refine Kept.then (t := _) ?_ (State.when_key _ _ _ (fun t => by simp))
  exact Kept.ite (Kept.of_key (by simp)) ((Kept.of_key (State.freeB_key s)).trans (memWrite_kept _ _ _))

theorem culvertStore_kept (s : State) (x : Shadow) (b : Bytes) : Kept s (s.culvertStore x b) := by
  unfold State.culvertStore
  dsimp only
  have h : Kept s (if x.dir.toNat = 0 then s else s.pageTouch x.src.toNat b.length) :=
    Kept.ite (Kept.refl s) (Kept.of_key (State.pageTouch_key _ _ _))
  exact Kept.ite (h.then (by rw [State.emit_key]; exact State.each_key _ _ _ (fun t y => State.hostWrite_key t _ _)))
    (h.trans (memWrite_kept _ _ b))

theorem culvertComplete_kept (s : State) (c : Nat) (data : Bytes) : Kept s (s.culvertComplete c data) := by
  unfold State.culvertComplete
  dsimp only
  split
  · exact Kept.ite (Kept.refl s) ((culvertStore_kept s _ _).then (by simp; rfl))
  · exact Kept.refl s

theorem culvertError_kept (s : State) (c code done : Nat) : Kept s (s.culvertError c code done) := by
  unfold State.culvertError
  dsimp only
  split
  · exact Kept.ite (Kept.refl s) ((culvertPart_kept s _ done).then (by simp; rfl))
  · exact Kept.refl s

theorem culvertAbortEnd_kept (s : State) (c done : Nat) : Kept s (s.culvertAbortEnd c done) := by
  unfold State.culvertAbortEnd
  dsimp only
  split
  · exact Kept.ite (Kept.refl s) ((culvertPart_kept s _ done).then (by simp; rfl))
  · exact Kept.refl s

theorem culvertHalt_kept (s : State) (c : Nat) : Kept s (s.culvertHalt c) := by
  unfold State.culvertHalt
  dsimp only
  split
  · exact ((Kept.of_key (State.free_key s)).trans (culvertPart_kept _ _ _)).then (by simp; rfl)
  · exact Kept.refl s

theorem culvertFence_kept (s : State) (c : Nat) : Kept s (s.culvertFence c) := by
  unfold State.culvertFence
  dsimp only
  split
  · exact ((Kept.of_key (State.free_key s)).trans (culvertPart_kept _ _ _)).then (by simp; rfl)
  · exact Kept.of_key (State.modCulvert_key _ _ _)

theorem fenceWork_kept (s : State) (k : UnitKind) (n : Nat) : Kept s (s.fenceWork k n) := by
  cases k <;> unfold State.fenceWork <;> dsimp only
  case culvert => exact Kept.ite (culvertFence_kept s n) (Kept.refl s)
  case flume =>
    refine Kept.of_key ((State.quietLane_key _ _).trans ?_)
    split
    · split
      · exact State.dropLink_key _ _ _
      · rfl
    · rfl
  all_goals first
    | exact Kept.refl s
    | exact Kept.of_key (by simp)

/-- What fencing a unit does beyond its work leaves the key alone. -/
theorem fence_kept (s : State) (k : UnitKind) (n : Nat) (e : Element) : Kept s (s.fence k n e) := by
  unfold State.fence
  dsimp only
  have h (r : Repair) : Kept s { s with repair := r } := Kept.of_base (by simp only [State.key_mk, Key.base_of, State.base_fold])
  refine Kept.ite (Kept.refl s) (Kept.ite (h _) ?_)
  have g (r : Repair) : Kept s ((({ s with repair := r } : State).fenceWork k n).raise almRepairPending (unitReach k n)) :=
    ((h r).trans (fenceWork_kept _ k n)).then (State.raise_key _ _ _)
  have m (u : State) : Kept u (State.inventoryChanged { u with mode := { u.mode with sticky := u.mode.sticky ||| 16 } }) :=
    Kept.trans (Kept.of_key (State.key_mode u { u.mode with sticky := u.mode.sticky ||| 16 } rfl rfl)) (Kept.of_base (State.inventoryChanged_base _))
  exact (g _).trans (m _)

theorem culvertReset_kept (s : State) : Kept s s.culvertReset := by
  have h := (Kept.refl s).each (List.range 8) State.culvertHalt culvertHalt_kept
  unfold State.culvertReset
  generalize s.each (List.range 8) State.culvertHalt = u at h ⊢
  exact h.trans ⟨rfl, rfl, fun x => ⟨x.1, by have := x.2; simp [State.banks, bankSizes] at this ⊢; omega⟩⟩

theorem pcieReset_kept (s : State) : Kept s s.pcieReset := by
  have h : Kept s s.hostCleared.culvertReset := (Kept.of_key (State.hostCleared_key s)).trans (culvertReset_kept _)
  unfold State.pcieReset
  dsimp only
  generalize s.hostCleared.culvertReset = u at h ⊢
  refine Kept.ite (Kept.refl s) (h.then ?_)
  rw [State.each_key _ _ _ (fun t x => State.jobEnd_key t x _ _ _), State.each_key _ _ _ (fun t x => State.modDeliv_key t x _)]

/-! ### Power, resets and modes -/

theorem wiped_kept (s : State) : Kept s s.wiped :=
  ⟨rfl, rfl, fun h => ⟨h.1, by have := h.2; simp [State.banks, bankSizes, State.wiped, State.reset] at this ⊢; omega⟩⟩

theorem aonAssert_kept (s : State) : Kept s s.aonAssert :=
  ⟨rfl, rfl, fun h => ⟨rfl, by have := h.2; simp [State.banks, bankSizes, State.aonAssert, State.reset, resetDomains] at this ⊢; omega⟩⟩

theorem arrive_kept (s : State) (m : Mode) : Kept s (s.arrive m) := Kept.of_mode (State.arrive_key s m)

theorem enterDormant_kept (s : State) : Kept s s.enterDormant := by
  unfold State.enterDormant
  dsimp only
  refine Kept.trans ?_ (memMode_kept _ _)
  refine Kept.trans (t := (s.hgSleep.arrive .dormant).wiped) ?_ (Kept.of_key (by simp only [State.key_mk, State.key_fold]))
  exact ((Kept.of_key (State.hgSleep_key s)).trans (arrive_kept _ _)).trans (wiped_kept _)

theorem enterFallow_kept (s : State) : Kept s s.enterFallow := by
  unfold State.enterFallow
  dsimp only
  refine Kept.trans ?_ (memMode_kept _ _)
  refine Kept.trans (t := (s.hgSleep.arrive .fallow).wiped) ?_ (Kept.of_key (by simp only [State.key_mk, State.key_fold]))
  exact ((Kept.of_key (State.hgSleep_key s)).trans (arrive_kept _ _)).trans (wiped_kept _)

theorem enterBoot_kept (s : State) (cause : Nat) : Kept s (s.enterBoot cause) := by
  unfold State.enterBoot
  dsimp only
  refine Kept.trans (t := (s.hgSleep.arrive .boot).wiped) ?_ (Kept.of_base (by
    simp [State.key_mk, Key.base_of]
    exact State.base_fold _))
  exact ((Kept.of_key (State.hgSleep_key s)).trans (arrive_kept _ _)).trans (wiped_kept _)

theorem forceDormant_kept (s : State) (cause : Nat) (forced : Bool) : Kept s (s.forceDormant cause forced) :=
  Kept.trans (t := _) (Kept.of_key (State.key_mode s _ (by rfl) (by rfl))) (enterDormant_kept _)

theorem sysAssert_kept (s : State) : Kept s s.sysAssert := by
  unfold State.sysAssert
  dsimp only
  split
  · exact Kept.of_base (by simp only [State.key_mk, Key.base_of, State.base_fold])
  · exact Kept.of_base (by simp only [State.key_mk, Key.base_of, State.base_fold])
  · refine Kept.trans ?_ (forceDormant_kept _ _ _)
    exact Kept.of_base (by simp only [State.key_mk, Key.base_of, State.base_fold])

theorem pwrFall_kept (s : State) : Kept s s.pwrFall := by
  unfold State.pwrFall
  dsimp only
  refine Kept.ite (Kept.trans ?_ (forceDormant_kept _ _ _)) ?_
  · exact Kept.of_base (by simp only [State.key_mk, Key.base_of, State.base_fold])
  · exact Kept.of_base (by simp only [State.key_mk, Key.base_of, State.base_fold])

theorem bootStart_kept (s : State) : Kept s s.bootStart := by
  unfold State.bootStart
  split
  · exact Kept.ite ((Kept.of_key (State.advanceTo_key s _)).trans (enterBoot_kept _ _)) (Kept.refl s)
  · exact Kept.refl s

theorem bootToFallow_kept (s : State) : Kept s s.bootToFallow := Kept.ite (enterFallow_kept s) (Kept.refl s)

theorem watchdog_kept (s : State) : Kept s s.watchdog := Kept.ite (enterBoot_kept s 3) (Kept.refl s)

theorem deviceRestart_kept (s : State) : Kept s s.deviceRestart := Kept.ite (enterBoot_kept s 4) (Kept.refl s)

theorem firstFail_kept (s : State) (code : Nat) : Kept s (s.firstFail code) := by
  refine Kept.ite (Kept.trans ?_ (enterFallow_kept _)) (Kept.refl s)
  exact Kept.of_key (by simp only [State.key_mk, State.key_fold])

theorem activationCommit_kept (s : State) (ok : Bool) : Kept s (s.activationCommit ok) := by
  unfold State.activationCommit
  split
  · refine Kept.ite (Kept.of_key (by simp)) (Kept.ite (Kept.of_key (by simp)) ?_)
    exact (Kept.of_key (State.committed_key _ _)).trans (enterBoot_kept _ _)
  · exact Kept.refl s

theorem enterTraining_kept (s : State) : Kept s s.enterTraining := by
  unfold State.enterTraining
  dsimp only
  have h : ∀ u : State, u.key = s.key → ∀ b : Bool, Kept s (let v := (u.arrive .training).calLoad.memMode .training
      if b then v else v.rejudgeRefs true) := by
    intro u hu b
    have hv : Kept s ((u.arrive .training).calLoad.memMode .training) :=
      (((Kept.of_key hu).trans (arrive_kept _ _)).then (State.calLoad_key _)).trans (memMode_kept _ _)
    exact Kept.ite hv (hv.then (by simp))
  have := h (if s.mode.firstBoot && s.image.active.entries.any (fun e => e.1 == 6) then
      (State.restoreSaved { s with fused := { s.fused with fwVersion := s.image.active.fwVersion, protocol := BitVec.ofNat 16 (s.image.active.minor + 256 * s.image.active.major) }
                                   saved := s.saved.without s.image.actGroups, image := { s.image with actGroups := [] } }).calConvert s.image.active.calFormat
    else State.restoreSaved { s with fused := { s.fused with fwVersion := s.image.active.fwVersion, protocol := BitVec.ofNat 16 (s.image.active.minor + 256 * s.image.active.major) }
                                     saved := s.saved.without s.image.actGroups, image := { s.image with actGroups := [] } })
    (by
      split
      · rw [State.calConvert_key, State.restoreSaved_key]; exact Eq.trans rfl rfl
      · rw [State.restoreSaved_key]; exact Eq.trans rfl rfl) (decide (s.runMode.ranked = Mode.training.ranked))
  simpa using this

theorem imageVerified_kept (s : State) : Kept s s.imageVerified := Kept.ite (enterTraining_kept s) (Kept.refl s)

theorem trainingDone_kept (s : State) (found : List Finding) : Kept s (s.trainingDone found) := by
  refine Kept.ite ?_ (Kept.refl s)
  refine Kept.then (t := ((s.repairAll found).arrive .standby).memMode .standby) ?_ (by simp)
  exact ((Kept.of_base (State.repairAll_base s found)).trans (arrive_kept _ _)).trans (memMode_kept _ _)

theorem transitionDone_kept (s : State) : Kept s s.transitionDone := by
  unfold State.transitionDone
  dsimp only
  have hs : Kept s (State.judgeHeads ((s.leaveService.arrive .standby).memMode .standby)) :=
    (((Kept.of_key (State.leaveService_key s)).trans (arrive_kept _ .standby)).trans (memMode_kept _ .standby)).then (by simp)
  have hm : ∀ m, Kept s (State.rouse s (((s.memMode m).arrive m).enterService)) := fun m =>
    ((memMode_kept s m).trans (arrive_kept _ m)).then (by simp)
  refine Kept.ite (Kept.refl s) (Kept.ite (enterDormant_kept s) (Kept.ite (enterTraining_kept s) (Kept.ite ?_ (Kept.ite ?_ ?_))))
  · exact Kept.ite (hs.then (by simp)) hs
  · exact Kept.ite ((hm s.mode.target).then (by simp)) (hm s.mode.target)
  · exact ((Kept.of_key (State.advanceTo_key s (nextHousekeeping s.mode.transitionAt))).trans (arrive_kept _ s.mode.target)).then (by simp)

theorem bootToRecovery_kept (s : State) : Kept s s.bootToRecovery := Kept.ite (arrive_kept s .recovery) (Kept.refl s)

/-! ### Spillway -/

theorem shutdown_kept (s : State) (sensor : Nat) (temp : Int) : Kept s (s.shutdown sensor temp) := by
  unfold State.shutdown
  dsimp only
  refine Kept.trans (Kept.trans (Kept.of_key ?_) (forceDormant_kept _ 2 true)) (Kept.of_key (State.key_mode _ _ rfl rfl))
  rw [State.interrupt_key, State.count_key]
  exact Eq.trans rfl rfl

theorem judgeHeat_kept (s : State) (before now : List (Nat × Int)) : Kept s (s.judgeHeat before now) := by
  unfold State.judgeHeat
  dsimp only
  refine Kept.ite (Kept.of_base (State.tryBoot_base s)) ?_
  split
  · exact Kept.trans (Kept.of_key (by simp [↓State.key_ite])) (shutdown_kept _ _ _)
  · exact Kept.of_key (by simp [↓State.key_ite])

theorem sensorSample_kept (s : State) (raw : List Int) : Kept s (s.sensorSample raw) := by
  unfold State.sensorSample
  dsimp only
  refine Kept.trans (Kept.of_key ?_) (judgeHeat_kept _ _ _)
  simp [↓State.key_mk, State.key_fold]

theorem thermalBoundary_kept (s : State) : Kept s s.thermalBoundary := by
  unfold State.thermalBoundary
  dsimp only
  have h : Kept s { (s.each s.thermal.decStop (fun t x => t.landCtx x { (t.ctx x).cfg with enable := 0 })) with
      thermal := { (s.each s.thermal.decStop (fun t x => t.landCtx x { (t.ctx x).cfg with enable := 0 })).thermal with decStop := [] } } :=
    Kept.of_key (by simp [↓State.key_mk, State.key_fold])
  exact Kept.ite (h.trans (arrive_kept _ _)) h

theorem housekeeping_kept (s : State) : Kept s s.housekeeping := by
  unfold State.housekeeping
  dsimp only
  refine Kept.ite (Kept.refl s) (Kept.trans (Kept.of_base ?_) (thermalBoundary_kept _))
  simp [↓State.key_mk, Key.base_of, State.base_fold]

theorem graceOver_kept (s : State) : Kept s s.graceOver := by
  unfold State.graceOver
  have h (x : Thermal) : Kept s { s with thermal := x } := Kept.of_key (by simp [↓State.key_mk, State.key_fold])
  have k : ∀ u, Kept s u → Kept s (if u.thermal.throttle && u.mode.current.enforced && !u.mode.busy then u.enforce else u) := fun u hu =>
    Kept.ite (hu.trans (Kept.of_mode (State.enforce_key u))) hu
  exact k _ (Kept.ite ((h _).trans (transitionDone_kept _)) (h _))

theorem graceExpiry_kept (s : State) : Kept s s.graceExpiry := by
  unfold State.graceExpiry
  split
  · exact Kept.refl s
  · exact (Kept.of_key (State.advanceTo_key s _)).trans (graceOver_kept _)

/-! ### Requests that may change the mode's target -/

theorem oddSpec_kept (q : ReqSpec) (hq : q ∈ oddSpecs) (c : Call) (u : State) : Kept u (q.body c u).2 := by
  simp only [oddSpecs, List.mem_cons, List.not_mem_nil, or_false] at hq
  rcases hq with rfl | rfl | rfl | rfl | rfl | rfl
  · rcases specSetMode_key c u with h | ⟨m, -, -, h⟩
    · exact Kept.of_key h
    · exact Kept.of_mode h
  · exact Kept.of_base (specSetJobTrace_base c u)
  · exact Kept.of_base (specSetDomain_base c u)
  · exact Kept.of_base (specSetTimebasePhase_base c u)
  · exact Kept.of_base (specSetTimebaseAbsolute_base c u)
  · exact Kept.of_base (specAckThermal_base c u)

/-- An odd request keeps what every command keeps. -/
theorem serveOdd_kept {q : ReqSpec} (hq : q ∈ oddSpecs) (r : Request) (s : State) : Kept s (serve q r s) :=
  serve_ind (Kept s) (fun _ _ h k => k.then h) _ r s (fun c t k => k.trans (oddSpec_kept q hq c t)) (Kept.refl s)

theorem svcSend_kept (s : State) (b : Bytes) : Kept s (s.svcSend b) :=
  svcSend_ind (Kept s) (fun _ _ h k => k.then h) (fun q hq c t k => k.trans (oddSpec_kept q hq c t)) s b (Kept.refl s)

theorem inbandRequest_kept (s : State) (sender : InbandSender) (b : Bytes) : Kept s (s.inbandRequest sender b) :=
  inbandRequest_ind (Kept s) (fun _ _ h k => k.then h) (fun q hq c t k => k.trans (oddSpec_kept q hq c t)) s sender b (Kept.refl s)

end Sys2Proof.Machine
end

