-- ==== Sys2Proof/Laws/Commands.lean ====
section
/-! SUPPORT. What every command keeps, said once per command: its whole key, the base of it, or (`_kept`) the queue, the fused
identity and the invariant of a run. -/
namespace Sys2Proof.Machine

/-! ### CmdArch -/

theorem execDomainFrameLoRead_base (d : Nat) (s t : State) (h : execDomainFrameLoRead d s = .next t) : t.key.base = s.key.base := by
  cases h
  simp

theorem execSetMode_kept (r : Request) (s t : State) (h : execSetMode r s = .next t) : Kept s t := by
  cases h
  exact serveOdd_kept (by simp [oddSpecs]) r s

theorem execQueryMode_key (r : Request) (s t : State) (h : execQueryMode r s = .next t) : t.key = s.key := by
  cases h
  exact serve_key _ _ _ (fun c u => specQueryMode_key c u)

theorem execSetDomain_kept (r : Request) (s t : State) (h : execSetDomain r s = .next t) : Kept s t := by
  cases h
  exact serveOdd_kept (by simp [oddSpecs]) r s

theorem execQueryDomain_key (r : Request) (s t : State) (h : execQueryDomain r s = .next t) : t.key = s.key := by
  cases h
  exact serve_key _ _ _ (fun c u => specQueryDomain_key c u)

theorem execQueryReach_key (r : Request) (s t : State) (h : execQueryReach r s = .next t) : t.key = s.key := by
  cases h
  exact serve_key _ _ _ (fun c u => specQueryReach_key c u)

theorem execAonResetRelease_key (s t : State) (h : execAonResetRelease s = .next t) : t.key = s.key := by
  cases h
  simp

theorem execSysResetAssert_kept (s t : State) (h : execSysResetAssert s = .next t) : Kept s t := by
  cases h
  exact sysAssert_kept _

theorem execBootImageVerified_kept (s t : State) (h : execBootImageVerified s = .next t) : Kept s t := by
  cases h
  exact imageVerified_kept _

theorem execBootToRecovery_kept (s t : State) (h : execBootToRecovery s = .next t) : Kept s t := by
  cases h
  exact bootToRecovery_kept _

theorem execBootToFallow_kept (s t : State) (h : execBootToFallow s = .next t) : Kept s t := by
  cases h
  exact bootToFallow_kept _

theorem execTrainingComplete_kept (found : List Finding) (s t : State) (h : execTrainingComplete found s = .next t) : Kept s t := by
  cases h
  exact trainingDone_kept _ _

theorem execModeTransitionComplete_kept (s t : State) (h : execModeTransitionComplete s = .next t) : Kept s t := by
  cases h
  exact transitionDone_kept _

theorem execUnitFence_kept (kind : UnitKind) (index : Nat) (element : Element) (s t : State) (h : execUnitFence kind index element s = .next t) : Kept s t := by
  cases h
  exact fence_kept _ _ _ _

theorem execDomain0Boundary_kept (s t : State) (h : execDomain0Boundary s = .next t) : Kept s t := by
  cases h
  exact housekeeping_kept _

theorem execSwapDecision_base (d : Nat) (s t : State) (h : execSwapDecision d s = .next t) : t.key.base = s.key.base := by
  cases h
  simp

theorem execDestSwitchingLine_key (dst : Nat) (s t : State) (h : execDestSwitchingLine dst s = .next t) : t.key = s.key := by
  cases h
  simp

theorem execCoreGate_key (reach : Nat) (consumer : Nat) (index : Nat) (s t : State) (h : execCoreGate reach consumer index s = .next t) : t.key = s.key := by
  cases h
  simp

theorem execWatchdogExpiry_kept (s t : State) (h : execWatchdogExpiry s = .next t) : Kept s t := by
  cases h
  exact watchdog_kept _

theorem execHoldupOkRise_key (s t : State) (h : execHoldupOkRise s = .next t) : t.key = s.key := by
  cases h
  simp

/-! ### CmdClause -/

theorem execStageStem_key (r : Request) (s t : State) (h : execStageStem r s = .next t) : t.key = s.key := by
  cases h
  exact serve_key _ _ _ (fun c u => specStageStem_key c u)

theorem execQueryStem_key (r : Request) (s t : State) (h : execQueryStem r s = .next t) : t.key = s.key := by
  cases h
  exact serve_key _ _ _ (fun c u => specQueryStem_key c u)

theorem execQueryStemCapacity_key (r : Request) (s t : State) (h : execQueryStemCapacity r s = .next t) : t.key = s.key := by
  cases h
  exact serve_key _ _ _ (fun c u => specQueryStemCapacity_key c u)

theorem execStageRendition_key (r : Request) (s t : State) (h : execStageRendition r s = .next t) : t.key = s.key := by
  cases h
  exact serve_key _ _ _ (fun c u => specStageRendition_key c u)

theorem execQueryRendition_key (r : Request) (s t : State) (h : execQueryRendition r s = .next t) : t.key = s.key := by
  cases h
  exact serve_key _ _ _ (fun c u => specQueryRendition_key c u)

/-! ### CmdCompositor -/

theorem execStageHead_key (r : Request) (s t : State) (h : execStageHead r s = .next t) : t.key = s.key := by
  cases h
  exact serve_key _ _ _ (fun c u => specStageHead_key c u)

theorem execStageHeadDomain_key (r : Request) (s t : State) (h : execStageHeadDomain r s = .next t) : t.key = s.key := by
  cases h
  exact serve_key _ _ _ (fun c u => specStageHeadDomain_key c u)

theorem execSetHeadFreeze_key (r : Request) (s t : State) (h : execSetHeadFreeze r s = .next t) : t.key = s.key := by
  cases h
  exact serve_key _ _ _ (fun c u => specSetHeadFreeze_key c u)

theorem execSetHeadStickyClear_key (r : Request) (s t : State) (h : execSetHeadStickyClear r s = .next t) : t.key = s.key := by
  cases h
  exact serve_key _ _ _ (fun c u => specSetHeadStickyClear_key c u)

theorem execQueryHead_key (r : Request) (s t : State) (h : execQueryHead r s = .next t) : t.key = s.key := by
  cases h
  exact serve_key _ _ _ (fun c u => specQueryHead_key c u)

theorem execStageVideoLayer_key (r : Request) (s t : State) (h : execStageVideoLayer r s = .next t) : t.key = s.key := by
  cases h
  exact serve_key _ _ _ (fun c u => specStageVideoLayer_key c u)

theorem execStageGraphicLayer_key (r : Request) (s t : State) (h : execStageGraphicLayer r s = .next t) : t.key = s.key := by
  cases h
  exact serve_key _ _ _ (fun c u => specStageGraphicLayer_key c u)

theorem execStageLayerMatrix_key (r : Request) (s t : State) (h : execStageLayerMatrix r s = .next t) : t.key = s.key := by
  cases h
  exact serve_key _ _ _ (fun c u => specStageLayerMatrix_key c u)

theorem execStageMeterFirst_key (r : Request) (s t : State) (h : execStageMeterFirst r s = .next t) : t.key = s.key := by
  cases h
  exact serve_key _ _ _ (fun c u => specStageMeterFirst_key c u)

theorem execWriteLayerSurface_key (r : Request) (s t : State) (h : execWriteLayerSurface r s = .next t) : t.key = s.key := by
  cases h
  exact serve_key _ _ _ (fun c u => specWriteLayerSurface_key c u)

theorem execQueryLayer_key (r : Request) (s t : State) (h : execQueryLayer r s = .next t) : t.key = s.key := by
  cases h
  exact serve_key _ _ _ (fun c u => specQueryLayer_key c u)

theorem execHeadFrameStart_key (head : Nat) (peaks : List (Nat × Nat)) (s t : State) (h : execHeadFrameStart head peaks s = .next t) : t.key = s.key := by
  cases h
  simp

theorem execHeadFrameComplete_key (head : Nat) (s t : State) (h : execHeadFrameComplete head s = .next t) : t.key = s.key := by
  cases h
  simp

theorem execReadbackArm_base (value : BitVec 32) (s t : State) (h : execReadbackArm value s = .next t) : t.key.base = s.key.base := by
  cases h
  simp

theorem execReadbackCapture_base (words : List Nat) (s t : State) (h : execReadbackCapture words s = .next t) : t.key.base = s.key.base := by
  cases h
  simp

/-! ### CmdElectrical -/

theorem execPciePerstAssert_kept (s t : State) (h : execPciePerstAssert s = .next t) : Kept s t := by
  cases h
  exact pcieReset_kept _

theorem execSvcSend_kept (frame : Bytes) (s t : State) (h : execSvcSend frame s = .next t) : Kept s t := by
  cases h
  exact svcSend_kept _ _

theorem execSvcStatus_key (s t : State) (h : execSvcStatus s = .next t) : t.key = s.key := by
  cases h
  simp

theorem execSvcFetch_key (s t : State) (h : execSvcFetch s = .next t) : t.key = s.key := by
  cases h
  simp

theorem execSvcWord_base (offset : Nat) (s t : State) (h : execSvcWord offset s = .next t) : t.key.base = s.key.base := by
  cases h
  simp

theorem execAonResetAssert_kept (s t : State) (h : execAonResetAssert s = .next t) : Kept s t := by
  cases h
  exact aonAssert_kept _

theorem execSysResetRelease_base (bootSel : Nat) (s t : State) (h : execSysResetRelease bootSel s = .next t) : t.key.base = s.key.base := by
  cases h
  simp

theorem execPwrOkRise_key (s t : State) (h : execPwrOkRise s = .next t) : t.key = s.key := by
  cases h
  simp

theorem execPwrOkFall_kept (s t : State) (h : execPwrOkFall s = .next t) : Kept s t := by
  cases h
  exact pwrFall_kept _

theorem execPwrOkTimeout_base (s t : State) (h : execPwrOkTimeout s = .next t) : t.key.base = s.key.base := by
  cases h
  simp

theorem execBootStart_kept (s t : State) (h : execBootStart s = .next t) : Kept s t := by
  cases h
  exact bootStart_kept _

theorem execTallyChange_key (n : Nat) (level : Bool) (s t : State) (h : execTallyChange n level s = .next t) : t.key = s.key := by
  cases h
  simp

theorem execJtagInstruction_base (ir : JtagOp) (s t : State) (h : execJtagInstruction ir s = .next t) : t.key.base = s.key.base := by
  cases h
  simp

/-! ### CmdHeadgate -/

theorem execTimeNsRead_key (s t : State) (h : execTimeNsRead s = .next t) : t.key = s.key := by
  cases h
  simp

theorem execIncrNsRead_key (s t : State) (h : execIncrNsRead s = .next t) : t.key = s.key := by
  cases h
  simp

theorem execCapNsRead_key (pin : Nat) (s t : State) (h : execCapNsRead pin s = .next t) : t.key = s.key := by
  cases h
  simp

theorem execSetRefInput_key (r : Request) (s t : State) (h : execSetRefInput r s = .next t) : t.key = s.key := by
  cases h
  exact serve_key _ _ _ (fun c u => specSetRefInput_key c u)

theorem execQueryRefInput_key (r : Request) (s t : State) (h : execQueryRefInput r s = .next t) : t.key = s.key := by
  cases h
  exact serve_key _ _ _ (fun c u => specQueryRefInput_key c u)

theorem execSetTimebase_key (r : Request) (s t : State) (h : execSetTimebase r s = .next t) : t.key = s.key := by
  cases h
  exact serve_key _ _ _ (fun c u => specSetTimebase_key c u)

theorem execSetTimebasePhase_kept (r : Request) (s t : State) (h : execSetTimebasePhase r s = .next t) : Kept s t := by
  cases h
  exact serveOdd_kept (by simp [oddSpecs]) r s

theorem execSetTimebaseAbsolute_kept (r : Request) (s t : State) (h : execSetTimebaseAbsolute r s = .next t) : Kept s t := by
  cases h
  exact serveOdd_kept (by simp [oddSpecs]) r s

theorem execQueryTimebase_key (r : Request) (s t : State) (h : execQueryTimebase r s = .next t) : t.key = s.key := by
  cases h
  exact serve_key _ _ _ (fun c u => specQueryTimebase_key c u)

theorem execSetTrigger_key (r : Request) (s t : State) (h : execSetTrigger r s = .next t) : t.key = s.key := by
  cases h
  exact serve_key _ _ _ (fun c u => specSetTrigger_key c u)

theorem execQueryTrigger_key (r : Request) (s t : State) (h : execQueryTrigger r s = .next t) : t.key = s.key := by
  cases h
  exact serve_key _ _ _ (fun c u => specQueryTrigger_key c u)

theorem execLoopUpdate_base (phase : Int) (freq : Int) (s t : State) (h : execLoopUpdate phase freq s = .next t) : t.key.base = s.key.base := by
  cases h
  simp

theorem execRefMonitorReading_key (k : Nat) (ppb : Int) (s t : State) (h : execRefMonitorReading k ppb s = .next t) : t.key = s.key := by
  cases h
  simp

theorem execRefActivityLost_key (k : Nat) (s t : State) (h : execRefActivityLost k s = .next t) : t.key = s.key := by
  cases h
  simp

theorem execRefQualify_key (k : Nat) (s t : State) (h : execRefQualify k s = .next t) : t.key = s.key := by
  cases h
  simp

theorem execAcquireStagePass_key (s t : State) (h : execAcquireStagePass s = .next t) : t.key = s.key := by
  cases h
  simp

theorem execLockedBandwidthNarrow_key (s t : State) (h : execLockedBandwidthNarrow s = .next t) : t.key = s.key := by
  cases h
  simp

theorem execHoldoverExpiry_key (s t : State) (h : execHoldoverExpiry s = .next t) : t.key = s.key := by
  cases h
  simp

theorem execHistoryRecord_key (meanFreq : Int) (s t : State) (h : execHistoryRecord meanFreq s = .next t) : t.key = s.key := by
  cases h
  simp

theorem execPtpBridgeTimeout_key (s t : State) (h : execPtpBridgeTimeout s = .next t) : t.key = s.key := by
  cases h
  simp

theorem execTriggerFire_key (k : Nat) (s t : State) (h : execTriggerFire k s = .next t) : t.key = s.key := by
  cases h
  simp

theorem execPpsOutPulse_key (s t : State) (h : execPpsOutPulse s = .next t) : t.key = s.key := by
  cases h
  simp

theorem execTcapEdge_key (pin : Nat) (falling : Bool) (s t : State) (h : execTcapEdge pin falling s = .next t) : t.key = s.key := by
  cases h
  simp

/-! ### CmdHealth -/

theorem execQueryEvent_key (r : Request) (s t : State) (h : execQueryEvent r s = .next t) : t.key = s.key := by
  cases h
  exact serve_key _ _ _ (fun c u => specQueryEvent_key c u)

theorem execAckThermal_kept (r : Request) (s t : State) (h : execAckThermal r s = .next t) : Kept s t := by
  cases h
  exact serveOdd_kept (by simp [oddSpecs]) r s

theorem execReadThermalRecords_key (r : Request) (s t : State) (h : execReadThermalRecords r s = .next t) : t.key = s.key := by
  cases h
  exact serve_key _ _ _ (fun c u => specReadThermalRecords_key c u)

theorem execSetThermal_key (r : Request) (s t : State) (h : execSetThermal r s = .next t) : t.key = s.key := by
  cases h
  exact serve_key _ _ _ (fun c u => specSetThermal_key c u)

theorem execQueryThermal_key (r : Request) (s t : State) (h : execQueryThermal r s = .next t) : t.key = s.key := by
  cases h
  exact serve_key _ _ _ (fun c u => specQueryThermal_key c u)

theorem execReadCounter_key (r : Request) (s t : State) (h : execReadCounter r s = .next t) : t.key = s.key := by
  cases h
  exact serve_key _ _ _ (fun c u => specReadCounter_key c u)

theorem execReadCounterCatalogue_key (r : Request) (s t : State) (h : execReadCounterCatalogue r s = .next t) : t.key = s.key := by
  cases h
  exact serve_key _ _ _ (fun c u => specReadCounterCatalogue_key c u)

theorem execWriteCounterSticky_key (r : Request) (s t : State) (h : execWriteCounterSticky r s = .next t) : t.key = s.key := by
  cases h
  exact serve_key _ _ _ (fun c u => specWriteCounterSticky_key c u)

theorem execSensorSample_kept (readings : List Int) (s t : State) (h : execSensorSample readings s = .next t) : Kept s t := by
  cases h
  exact sensorSample_kept _ _

theorem execThresholdRelease_base (level : Nat) (s t : State) (h : execThresholdRelease level s = .next t) : t.key.base = s.key.base := by
  cases h
  simp

theorem execGraceExpiry_kept (s t : State) (h : execGraceExpiry s = .next t) : Kept s t := by
  cases h
  exact graceExpiry_kept _

theorem execEnforcementReevaluate_key (s t : State) (h : execEnforcementReevaluate s = .next t) : t.key = s.key := by
  cases h
  simp

theorem execClauseClockStep_key (reach : Nat) (s t : State) (h : execClauseClockStep reach s = .next t) : t.key = s.key := by
  cases h
  simp

theorem execPowerSample_key (rails : List Nat) (s t : State) (h : execPowerSample rails s = .next t) : t.key = s.key := by
  cases h
  simp

theorem execStormEnd_key (s t : State) (h : execStormEnd s = .next t) : t.key = s.key := by
  cases h
  simp

/-! ### CmdLanes -/

theorem execSetLaneTransmit_key (r : Request) (s t : State) (h : execSetLaneTransmit r s = .next t) : t.key = s.key := by
  cases h
  exact serve_key _ _ _ (fun c u => specSetLaneTransmit_key _ c u)

theorem execSetLaneReceive_key (r : Request) (s t : State) (h : execSetLaneReceive r s = .next t) : t.key = s.key := by
  cases h
  exact serve_key _ _ _ (fun c u => specSetLaneReceive_key _ c u)

theorem execSetLaneAsymmetry_key (r : Request) (s t : State) (h : execSetLaneAsymmetry r s = .next t) : t.key = s.key := by
  cases h
  exact serve_key _ _ _ (fun c u => specSetLaneAsymmetry_key _ c u)

theorem execSetLaneTestTools_key (r : Request) (s t : State) (h : execSetLaneTestTools r s = .next t) : t.key = s.key := by
  cases h
  exact serve_key _ _ _ (fun c u => specSetLaneTestTools_key _ c u)

theorem execSetLaneEyeScan_key (r : Request) (s t : State) (h : execSetLaneEyeScan r s = .next t) : t.key = s.key := by
  cases h
  exact serve_key _ _ _ (fun c u => specSetLaneEyeScan_key _ c u)

theorem execReadLaneEyeScan_key (r : Request) (s t : State) (h : execReadLaneEyeScan r s = .next t) : t.key = s.key := by
  cases h
  exact serve_key _ _ _ (fun c u => specReadLaneEyeScan_key _ c u)

theorem execSetLaneI2cBind_key (r : Request) (s t : State) (h : execSetLaneI2cBind r s = .next t) : t.key = s.key := by
  cases h
  exact serve_key _ _ _ (fun c u => specSetLaneI2cBind_key _ c u)

theorem execWriteLaneI2c_key (r : Request) (s t : State) (h : execWriteLaneI2c r s = .next t) : t.key = s.key := by
  cases h
  exact serve_key _ _ _ (fun c u => specWriteLaneI2c_key _ c u)

theorem execSetLaneRateHooks_key (r : Request) (s t : State) (h : execSetLaneRateHooks r s = .next t) : t.key = s.key := by
  cases h
  exact serve_key _ _ _ (fun c u => specSetLaneRateHooks_key _ c u)

theorem execQueryLane_key (r : Request) (s t : State) (h : execQueryLane r s = .next t) : t.key = s.key := by
  cases h
  exact serve_key _ _ _ (fun c u => specQueryLane_key c u)

theorem execLaneSignalDetect_key (lane : Nat) (s t : State) (h : execLaneSignalDetect lane s = .next t) : t.key = s.key := by
  cases h
  simp

theorem execAdaptStepEnd_key (lane : Nat) (res : AdaptResult) (s t : State) (h : execAdaptStepEnd lane res s = .next t) : t.key = s.key := by
  cases h
  simp

theorem execQualifyTimeout_key (lane : Nat) (s t : State) (h : execQualifyTimeout lane s = .next t) : t.key = s.key := by
  cases h
  simp

theorem execFomUpdate_key (lane : Nat) (levels : LevelStats) (s t : State) (h : execFomUpdate lane levels s = .next t) : t.key = s.key := by
  cases h
  simp

theorem execFomAlarmClear_key (lane : Nat) (s t : State) (h : execFomAlarmClear lane s = .next t) : t.key = s.key := by
  cases h
  simp

theorem execLaneInputLoss_key (lane : Nat) (s t : State) (h : execLaneInputLoss lane s = .next t) : t.key = s.key := by
  cases h
  simp

theorem execEyeScanComplete_key (lane : Nat) (counts : List Nat) (s t : State) (h : execEyeScanComplete lane counts s = .next t) : t.key = s.key := by
  cases h
  simp

theorem execPrbsCheckerLock_key (lane : Nat) (s t : State) (h : execPrbsCheckerLock lane s = .next t) : t.key = s.key := by
  cases h
  simp

theorem execPrbsCheckerRelock_key (lane : Nat) (bits : Nat) (errors : Nat) (symbolErrors : Nat) (s t : State) (h : execPrbsCheckerRelock lane bits errors symbolErrors s = .next t) : t.key = s.key := by
  cases h
  simp

theorem execI2cTransactionEnd_key (bus : Nat) (res : I2cResult) (s t : State) (h : execI2cTransactionEnd bus res s = .next t) : t.key = s.key := by
  cases h
  simp

theorem execI2cStretchTimeout_key (bus : Nat) (sdaLow : Bool) (s t : State) (h : execI2cStretchTimeout bus sdaLow s = .next t) : t.key = s.key := by
  cases h
  simp

theorem execRateHookStart_key (lane : Nat) (hd : Bool) (s t : State) (h : execRateHookStart lane hd s = .next t) : t.key = s.key := by
  cases h
  simp

/-! ### CmdLateral -/

theorem execTakeAudioOut_key (r : Request) (s t : State) (h : execTakeAudioOut r s = .next t) : t.key = s.key := by
  cases h
  exact serve_key _ _ _ (fun c u => specTakeAudioOut_key c u)

theorem execStageAudioOutRoute_key (r : Request) (s t : State) (h : execStageAudioOutRoute r s = .next t) : t.key = s.key := by
  cases h
  exact serve_key _ _ _ (fun c u => specStageAudioOutRoute_key c u)

theorem execStageAudioOutFollow_key (r : Request) (s t : State) (h : execStageAudioOutFollow r s = .next t) : t.key = s.key := by
  cases h
  exact serve_key _ _ _ (fun c u => specStageAudioOutFollow_key c u)

theorem execStageAudioOutDomain_key (r : Request) (s t : State) (h : execStageAudioOutDomain r s = .next t) : t.key = s.key := by
  cases h
  exact serve_key _ _ _ (fun c u => specStageAudioOutDomain_key c u)

theorem execStageAudioOutDelay_key (r : Request) (s t : State) (h : execStageAudioOutDelay r s = .next t) : t.key = s.key := by
  cases h
  exact serve_key _ _ _ (fun c u => specStageAudioOutDelay_key c u)

theorem execStageAacProgramme_key (r : Request) (s t : State) (h : execStageAacProgramme r s = .next t) : t.key = s.key := by
  cases h
  exact serve_key _ _ _ (fun c u => specStageAacProgramme_key c u)

theorem execLockAudioOut_key (r : Request) (s t : State) (h : execLockAudioOut r s = .next t) : t.key = s.key := by
  cases h
  exact serve_key _ _ _ (fun c u => specLockAudioOut_key c u)

theorem execUnlockAudioOut_key (r : Request) (s t : State) (h : execUnlockAudioOut r s = .next t) : t.key = s.key := by
  cases h
  exact serve_key _ _ _ (fun c u => specUnlockAudioOut_key c u)

theorem execSetAudioPort_key (r : Request) (s t : State) (h : execSetAudioPort r s = .next t) : t.key = s.key := by
  cases h
  exact serve_key _ _ _ (fun c u => specSetAudioPort_key c u)

theorem execStageSlotMask_key (r : Request) (s t : State) (h : execStageSlotMask r s = .next t) : t.key = s.key := by
  cases h
  exact serve_key _ _ _ (fun c u => specStageSlotMask_key c u)

theorem execQueryAudioIn_key (r : Request) (s t : State) (h : execQueryAudioIn r s = .next t) : t.key = s.key := by
  cases h
  exact serve_key _ _ _ (fun c u => specQueryAudioIn_key c u)

theorem execQueryAudioOut_key (r : Request) (s t : State) (h : execQueryAudioOut r s = .next t) : t.key = s.key := by
  cases h
  exact serve_key _ _ _ (fun c u => specQueryAudioOut_key c u)

theorem execConverterMeasure_key (ain : Nat) (ratioPpb phase : Int) (fill : Nat) (s t : State) (h : execConverterMeasure ain ratioPpb phase fill s = .next t) : t.key = s.key := by
  cases h
  simp

theorem execAudioActivityLoss_key (ain buffered : Nat) (s t : State) (h : execAudioActivityLoss ain buffered s = .next t) : t.key = s.key := by
  cases h
  split
  · simp
  · rfl

theorem execAudioSlip_key (ain : Nat) (s t : State) (h : execAudioSlip ain s = .next t) : t.key = s.key := by
  cases h
  simp

theorem execAudioBoundary_key (aout : Nat) (run : AudioRun) (s t : State) (h : execAudioBoundary aout run s = .next t) : t.key = s.key := by
  cases h
  simp

theorem execZeroCrossing_key (aout : Nat) (start : Bool) (run : AudioRun) (s t : State) (h : execZeroCrossing aout start run s = .next t) : t.key = s.key := by
  cases h
  simp

theorem execZeroCrossingTimeout_key (aout : Nat) (start : Bool) (run : AudioRun) (s t : State) (h : execZeroCrossingTimeout aout start run s = .next t) : t.key = s.key := by
  cases h
  simp

theorem execNonaudioOnset_key (pair : Nat) (dataType : Nat) (s t : State) (h : execNonaudioOnset pair dataType s = .next t) : t.key = s.key := by
  cases h
  simp

theorem execNonaudioEnd_key (pair : Nat) (s t : State) (h : execNonaudioEnd pair s = .next t) : t.key = s.key := by
  cases h
  simp

theorem execAacAccessUnit_key (aout : Nat) (au : Bytes) (cons : ConsReads) (s t : State) (h : execAacAccessUnit aout au cons s = .next t) : t.key = s.key := by
  cases h
  simp

theorem execPortClockError_key (p : Nat) (bits : Nat) (s t : State) (h : execPortClockError p bits s = .next t) : t.key = s.key := by
  cases h
  simp

theorem execPortClockRecover_key (p : Nat) (s t : State) (h : execPortClockRecover p s = .next t) : t.key = s.key := by
  cases h
  simp

/-! ### CmdMemory -/

theorem execQueryReachBandwidth_key (r : Request) (s t : State) (h : execQueryReachBandwidth r s = .next t) : t.key = s.key := by
  cases h
  exact serve_key _ _ _ (fun c u => specQueryReachBandwidth_key c u)

theorem execSetSrcPlayoutPost_key (r : Request) (s t : State) (h : execSetSrcPlayoutPost r s = .next t) : t.key = s.key := by
  cases h
  exact serve_key _ _ _ (fun c u => specSetSrcPlayoutPost_key c u)

theorem execSetDstCaptureHold_key (r : Request) (s t : State) (h : execSetDstCaptureHold r s = .next t) : t.key = s.key := by
  cases h
  exact serve_key _ _ _ (fun c u => specSetDstCaptureHold_key c u)

theorem execQueryDstCapture_key (r : Request) (s t : State) (h : execQueryDstCapture r s = .next t) : t.key = s.key := by
  cases h
  exact serve_key _ _ _ (fun c u => specQueryDstCapture_key c u)

theorem execSetGauge_key (r : Request) (s t : State) (h : execSetGauge r s = .next t) : t.key = s.key := by
  cases h
  exact serve_key _ _ _ (fun c u => specSetGauge_key c u)

theorem execWriteGaugeData_key (r : Request) (s t : State) (h : execWriteGaugeData r s = .next t) : t.key = s.key := by
  cases h
  exact serve_key _ _ _ (fun c u => specWriteGaugeData_key c u)

theorem execSetGaugeFeed_key (r : Request) (s t : State) (h : execSetGaugeFeed r s = .next t) : t.key = s.key := by
  cases h
  exact serve_key _ _ _ (fun c u => specSetGaugeFeed_key c u)

theorem execQueryGauge_key (r : Request) (s t : State) (h : execQueryGauge r s = .next t) : t.key = s.key := by
  cases h
  exact serve_key _ _ _ (fun c u => specQueryGauge_key c u)

theorem execSetGaugeValue_key (r : Request) (s t : State) (h : execSetGaugeValue r s = .next t) : t.key = s.key := by
  cases h
  exact serve_key _ _ _ (fun c u => specSetGaugeValue_key c u)

theorem execSetGaugeFinalise_key (r : Request) (s t : State) (h : execSetGaugeFinalise r s = .next t) : t.key = s.key := by
  cases h
  exact serve_key _ _ _ (fun c u => specSetGaugeFinalise_key c u)

theorem execDramReadError_base (e : DramError) (s t : State) (h : execDramReadError e s = .next t) : t.key.base = s.key.base := by
  cases h
  simp

theorem execCulvertArm_key (c : Nat) (s t : State) (h : execCulvertArm c s = .next t) : t.key = s.key := by
  cases h
  simp

theorem execCulvertAbort_key (c : Nat) (s t : State) (h : execCulvertAbort c s = .next t) : t.key = s.key := by
  cases h
  simp

theorem execCulvertErrorClear_key (c : Nat) (s t : State) (h : execCulvertErrorClear c s = .next t) : t.key = s.key := by
  cases h
  simp

theorem execCulvertHalf_key (c : Nat) (s t : State) (h : execCulvertHalf c s = .next t) : t.key = s.key := by
  cases h
  simp

theorem execCulvertComplete_kept (c : Nat) (data : Bytes) (s t : State) (h : execCulvertComplete c data s = .next t) : Kept s t := by
  cases h
  exact culvertComplete_kept _ _ _

theorem execCulvertError_kept (c : Nat) (code : Nat) (done : Nat) (s t : State) (h : execCulvertError c code done s = .next t) : Kept s t := by
  cases h
  exact culvertError_kept _ _ _ _

theorem execCulvertAbortComplete_kept (c : Nat) (done : Nat) (s t : State) (h : execCulvertAbortComplete c done s = .next t) : Kept s t := by
  cases h
  exact culvertAbortEnd_kept _ _ _

theorem execRemapSet_base (s t : State) (h : execRemapSet s = .next t) : t.key.base = s.key.base := by
  cases h
  simp

theorem execBusDefaultAccess_key (access : BusRequest) (s t : State) (h : execBusDefaultAccess access s = .next t) : t.key = s.key := by
  cases h
  simp

theorem execScrubPassComplete_key (stack : Nat) (s t : State) (h : execScrubPassComplete stack s = .next t) : t.key = s.key := by
  cases h
  simp

theorem execRefreshDue_key (stack : Nat) (bank : Nat) (rtWaiting : Bool) (s t : State) (h : execRefreshDue stack bank rtWaiting s = .next t) : t.key = s.key := by
  cases h
  simp

theorem execPanicEnter_key (reach : Nat) (port : Nat) (writer : Bool) (fill : Nat) (s t : State) (h : execPanicEnter reach port writer fill s = .next t) : t.key = s.key := by
  cases h
  simp

theorem execPanicLeave_key (reach : Nat) (port : Nat) (writer : Bool) (fill : Nat) (s t : State) (h : execPanicLeave reach port writer fill s = .next t) : t.key = s.key := by
  cases h
  simp

theorem execRtStarved_key (reach : Nat) (port : RtPort) (s t : State) (h : execRtStarved reach port s = .next t) : t.key = s.key := by
  cases h
  simp

theorem execPlayoutPostTime_key (src : Nat) (s t : State) (h : execPlayoutPostTime src s = .next t) : t.key = s.key := by
  cases h
  simp

theorem execPlayoutSlotFree_key (src : Nat) (slot : Nat) (s t : State) (h : execPlayoutSlotFree src slot s = .next t) : t.key = s.key := by
  cases h
  simp

theorem execCaptureFrameWritten_kept (dst : Nat) (s t : State) (h : execCaptureFrameWritten dst s = .next t) : Kept s t := by
  cases h
  exact captureFrame_kept _ _

theorem execGaugeFeedComplete_key (unit : Nat) (s t : State) (h : execGaugeFeedComplete unit s = .next t) : t.key = s.key := by
  cases h
  simp

theorem execHoldupOkFall_key (s t : State) (h : execHoldupOkFall s = .next t) : t.key = s.key := by
  cases h
  simp

/-! ### CmdNet -/

theorem execSetEthPort_key (r : Request) (s t : State) (h : execSetEthPort r s = .next t) : t.key = s.key := by
  cases h
  exact serve_key _ _ _ (fun c u => specSetEthPort_key c u)

theorem execSetEthPortPtp_key (r : Request) (s t : State) (h : execSetEthPortPtp r s = .next t) : t.key = s.key := by
  cases h
  exact serve_key _ _ _ (fun c u => specSetEthPortPtp_key c u)

theorem execQueryEthPort_key (r : Request) (s t : State) (h : execQueryEthPort r s = .next t) : t.key = s.key := by
  cases h
  exact serve_key _ _ _ (fun c u => specQueryEthPort_key c u)

theorem execStageFlow_key (r : Request) (s t : State) (h : execStageFlow r s = .next t) : t.key = s.key := by
  cases h
  exact serve_key _ _ _ (fun c u => specStageFlow_key c u)

theorem execQueryFlow_key (r : Request) (s t : State) (h : execQueryFlow r s = .next t) : t.key = s.key := by
  cases h
  exact serve_key _ _ _ (fun c u => specQueryFlow_key c u)

theorem execPtpOffsetMeasurement_base (offset : Int) (identity : Nat) (clockClass : Nat) (s t : State) (h : execPtpOffsetMeasurement offset identity clockClass s = .next t) : t.key.base = s.key.base := by
  cases h
  simp

theorem execLinkUp_key (port : Nat) (s t : State) (h : execLinkUp port s = .next t) : t.key = s.key := by
  cases h
  simp

theorem execLinkDown_key (port : Nat) (cause : Nat) (s t : State) (h : execLinkDown port cause s = .next t) : t.key = s.key := by
  cases h
  simp

theorem execEthFrameReceive_key (port : Nat) (frame : EthFrame) (s t : State) (h : execEthFrameReceive port frame s = .next t) : t.key = s.key := by
  cases h
  exact State.frameIn_key _ _ _ _ _ (fun u a n b => State.ristIn_key port u a n b) (fun u => State.judgeRanks_key u)

theorem execPtpMessageReceive_key (port : Nat) (msg : PtpMessage) (s t : State) (h : execPtpMessageReceive port msg s = .next t) : t.key = s.key := by
  cases h
  simp

theorem execMergeRelease_key (flow : Nat) (s t : State) (h : execMergeRelease flow s = .next t) : t.key = s.key := by
  cases h
  simp

theorem execLegLoss_key (flow : Nat) (leg : Nat) (s t : State) (h : execLegLoss flow leg s = .next t) : t.key = s.key := by
  cases h
  simp

theorem execLegReturn_key (flow : Nat) (leg : Nat) (s t : State) (h : execLegReturn flow leg s = .next t) : t.key = s.key := by
  cases h
  simp

theorem execMembershipReportRepeat_key (port : Nat) (s t : State) (h : execMembershipReportRepeat port s = .next t) : t.key = s.key := by
  cases h
  simp

theorem execDelayReqSend_key (port : Nat) (s t : State) (h : execDelayReqSend port s = .next t) : t.key = s.key := by
  cases h
  simp

theorem execAnnounceTimeout_key (port : Nat) (best : PtpMaster) (s t : State) (h : execAnnounceTimeout port best s = .next t) : t.key = s.key := by
  cases h
  simp

theorem execRistReceiverReport_key (flow : Nat) (s t : State) (h : execRistReceiverReport flow s = .next t) : t.key = s.key := by
  cases h
  simp

theorem execDecoderInputRelease_key (flow : Nat) (s t : State) (h : execDecoderInputRelease flow s = .next t) : t.key = s.key := by
  cases h
  simp

/-! ### CmdProtocol -/

theorem execDbReqWrite_key (ring : Nat) (value : BitVec 32) (s t : State) (h : execDbReqWrite ring value s = .next t) : t.key = s.key := by
  cases h
  simp

theorem execDbRplWrite_key (ring : Nat) (value : BitVec 32) (s t : State) (h : execDbRplWrite ring value s = .next t) : t.key = s.key := by
  cases h
  simp

theorem execDbEvtWrite_key (value : BitVec 32) (s t : State) (h : execDbEvtWrite value s = .next t) : t.key = s.key := by
  cases h
  simp

theorem execRingEnable_key (ring : Nat) (s t : State) (h : execRingEnable ring s = .next t) : t.key = s.key := by
  cases h
  simp

theorem execRingDisable_key (ring : Nat) (s t : State) (h : execRingDisable ring s = .next t) : t.key = s.key := by
  cases h
  simp

theorem execRingDrainComplete_key (ring : Nat) (s t : State) (h : execRingDrainComplete ring s = .next t) : t.key = s.key := by
  cases h
  simp

theorem execRingFetchError_key (ring : Nat) (verb : Nat) (r : Request) (s t : State) (h : execRingFetchError ring verb r s = .next t) : t.key = s.key := by
  cases h
  simp

theorem execRingWriteError_key (ring : Nat) (s t : State) (h : execRingWriteError ring s = .next t) : t.key = s.key := by
  cases h
  simp

theorem execIntEnableWrite_key (value : BitVec 32) (s t : State) (h : execIntEnableWrite value s = .next t) : t.key = s.key := by
  cases h
  simp

theorem execIntHoldoffExpiry_key (vector : Nat) (s t : State) (h : execIntHoldoffExpiry vector s = .next t) : t.key = s.key := by
  cases h
  simp

theorem execGateBadAccess_key (offset : Nat) (write : Bool) (s t : State) (h : execGateBadAccess offset write s = .next t) : t.key = s.key := by
  cases h
  simp

theorem execRegisterWrite_base (offset : Nat) (value : BitVec 32) (s t : State) (h : execRegisterWrite offset value s = .next t) : t.key.base = s.key.base := by
  cases h
  simp

theorem execPcieFunctionReset_kept (s t : State) (h : execPcieFunctionReset s = .next t) : Kept s t := by
  cases h
  exact pcieReset_kept _

theorem execQueryDevice_key (r : Request) (s t : State) (h : execQueryDevice r s = .next t) : t.key = s.key := by
  cases h
  exact serve_key _ _ _ (fun c u => specQueryDevice_key c u)

theorem execResetDevice_key (r : Request) (s t : State) (h : execResetDevice r s = .next t) : t.key = s.key := by
  cases h
  exact serve_key _ _ _ (fun c u => specResetDevice_key c u)

theorem execDeviceRestart_kept (s t : State) (h : execDeviceRestart s = .next t) : Kept s t := by
  cases h
  exact deviceRestart_kept _

theorem execCommit_key (r : Request) (s t : State) (h : execCommit r s = .next t) : t.key = s.key := by
  cases h
  exact serve_key _ _ _ (fun c u => specCommit_key c u)

theorem execCancelStageSet_key (r : Request) (s t : State) (h : execCancelStageSet r s = .next t) : t.key = s.key := by
  cases h
  exact serve_key _ _ _ (fun c u => specCancelStageSet_key c u)

theorem execCancelCommitted_key (r : Request) (s t : State) (h : execCancelCommitted r s = .next t) : t.key = s.key := by
  cases h
  exact serve_key _ _ _ (fun c u => specCancelCommitted_key c u)

theorem execSubscribe_key (r : Request) (s t : State) (h : execSubscribe r s = .next t) : t.key = s.key := by
  cases h
  exact serve_key _ _ _ (fun c u => specSubscribe_key c u)

theorem execUnsubscribe_key (r : Request) (s t : State) (h : execUnsubscribe r s = .next t) : t.key = s.key := by
  cases h
  exact serve_key _ _ _ (fun c u => specUnsubscribe_key c u)

theorem execQuerySubscriptions_key (r : Request) (s t : State) (h : execQuerySubscriptions r s = .next t) : t.key = s.key := by
  cases h
  exact serve_key _ _ _ (fun c u => specQuerySubscriptions_key c u)

theorem execResetLane_key (r : Request) (s t : State) (h : execResetLane r s = .next t) : t.key = s.key := by
  cases h
  exact serve_key _ _ _ (fun c u => specResetLane_key c u)

theorem execResetEthPort_key (r : Request) (s t : State) (h : execResetEthPort r s = .next t) : t.key = s.key := by
  cases h
  exact serve_key _ _ _ (fun c u => specResetEthPort_key c u)

theorem execResetDecodeCtx_key (r : Request) (s t : State) (h : execResetDecodeCtx r s = .next t) : t.key = s.key := by
  cases h
  exact serve_key _ _ _ (fun c u => specResetDecodeCtx_key c u)

theorem execResetGauge_key (r : Request) (s t : State) (h : execResetGauge r s = .next t) : t.key = s.key := by
  cases h
  exact serve_key _ _ _ (fun c u => specResetGauge_key c u)

theorem execLockImage_key (r : Request) (s t : State) (h : execLockImage r s = .next t) : t.key = s.key := by
  cases h
  exact serve_key _ _ _ (fun c u => specLockImage_key c u)

theorem execUnlockImage_key (r : Request) (s t : State) (h : execUnlockImage r s = .next t) : t.key = s.key := by
  cases h
  exact serve_key _ _ _ (fun c u => specUnlockImage_key c u)

/-! ### CmdRider -/

theorem execSubmitJob_key (r : Request) (s t : State) (h : execSubmitJob r s = .next t) : t.key = s.key := by
  cases h
  exact serve_key _ _ _ (fun c u => specSubmitJob_key c u)

theorem execCancelJob_key (r : Request) (s t : State) (h : execCancelJob r s = .next t) : t.key = s.key := by
  cases h
  exact serve_key _ _ _ (fun c u => specCancelJob_key c u)

theorem execQueryJob_key (r : Request) (s t : State) (h : execQueryJob r s = .next t) : t.key = s.key := by
  cases h
  exact serve_key _ _ _ (fun c u => specQueryJob_key c u)

theorem execQueryJobReaches_key (r : Request) (s t : State) (h : execQueryJobReaches r s = .next t) : t.key = s.key := by
  cases h
  exact serve_key _ _ _ (fun c u => specQueryJobReaches_key c u)

theorem execSetJobTrace_kept (r : Request) (s t : State) (h : execSetJobTrace r s = .next t) : Kept s t := by
  cases h
  exact serveOdd_kept (by simp [oddSpecs]) r s

theorem execReadJobTrace_key (r : Request) (s t : State) (h : execReadJobTrace r s = .next t) : t.key = s.key := by
  cases h
  exact serve_key _ _ _ (fun c u => specReadJobTrace_key c u)

theorem execStageDecodeCtx_key (r : Request) (s t : State) (h : execStageDecodeCtx r s = .next t) : t.key = s.key := by
  cases h
  exact serve_key _ _ _ (fun c u => specStageDecodeCtx_key c u)

theorem execQueryDecodeCtx_key (r : Request) (s t : State) (h : execQueryDecodeCtx r s = .next t) : t.key = s.key := by
  cases h
  exact serve_key _ _ _ (fun c u => specQueryDecodeCtx_key c u)

theorem execStemAnalysisRelease_key (stem : Nat) (s t : State) (h : execStemAnalysisRelease stem s = .next t) : t.key = s.key := by
  cases h
  simp

theorem execRiderRequest_key (reach : Nat) (consumer : Nat) (index : Nat) (s t : State) (h : execRiderRequest reach consumer index s = .next t) : t.key = s.key := by
  cases h
  simp

theorem execRiderItemComplete_key (reach : Nat) (consumer : Nat) (index : Nat) (out : ItemOutput) (cons : ConsWord) (s t : State) (h : execRiderItemComplete reach consumer index out cons s = .next t) : t.key = s.key := by
  cases h
  simp

theorem execRiderPreempt_key (reach : Nat) (s t : State) (h : execRiderPreempt reach s = .next t) : t.key = s.key := by
  cases h
  simp

theorem execCoreWake_key (reach : Nat) (consumer : Nat) (index : Nat) (s t : State) (h : execCoreWake reach consumer index s = .next t) : t.key = s.key := by
  cases h
  simp

theorem execRiderRetry_key (reach : Nat) (s t : State) (h : execRiderRetry reach s = .next t) : t.key = s.key := by
  cases h
  simp

theorem execBfOutputRetry_key (job : Nat) (cons : ConsWord) (s t : State) (h : execBfOutputRetry job cons s = .next t) : t.key = s.key := by
  cases h
  simp

theorem execDecodePictureComplete_key (ctx : Nat) (pic : DecodedPicture) (s t : State) (h : execDecodePictureComplete ctx pic s = .next t) : t.key = s.key := by
  cases h
  simp

theorem execDecodePresent_key (ctx : Nat) (s t : State) (h : execDecodePresent ctx s = .next t) : t.key = s.key := by
  cases h
  simp

theorem execDecodeOutputLoss_key (ctx : Nat) (s t : State) (h : execDecodeOutputLoss ctx s = .next t) : t.key = s.key := by
  cases h
  simp

/-! ### CmdSluice -/

theorem execTake_key (r : Request) (s t : State) (h : execTake r s = .next t) : t.key = s.key := by
  cases h
  exact serve_key _ _ _ (fun c u => specTake_key c u)

theorem execSalvo_key (r : Request) (s t : State) (h : execSalvo r s = .next t) : t.key = s.key := by
  cases h
  exact serve_key _ _ _ (fun c u => specSalvo_key c u)

theorem execStageDstRoute_key (r : Request) (s t : State) (h : execStageDstRoute r s = .next t) : t.key = s.key := by
  cases h
  exact serve_key _ _ _ (fun c u => specStageDstRoute_key c u)

theorem execStageDstFormat_key (r : Request) (s t : State) (h : execStageDstFormat r s = .next t) : t.key = s.key := by
  cases h
  exact serve_key _ _ _ (fun c u => specStageDstFormat_key c u)

theorem execStageDstDomain_key (r : Request) (s t : State) (h : execStageDstDomain r s = .next t) : t.key = s.key := by
  cases h
  exact serve_key _ _ _ (fun c u => specStageDstDomain_key c u)

theorem execSetSrcFormat_key (r : Request) (s t : State) (h : execSetSrcFormat r s = .next t) : t.key = s.key := by
  cases h
  exact serve_key _ _ _ (fun c u => specSetSrcFormat_key c u)

theorem execSetSrcGenerator_key (r : Request) (s t : State) (h : execSetSrcGenerator r s = .next t) : t.key = s.key := by
  cases h
  exact serve_key _ _ _ (fun c u => specSetSrcGenerator_key c u)

theorem execQueryDst_key (r : Request) (s t : State) (h : execQueryDst r s = .next t) : t.key = s.key := by
  cases h
  exact serve_key _ _ _ (fun c u => specQueryDst_key c u)

theorem execQuerySrc_key (r : Request) (s t : State) (h : execQuerySrc r s = .next t) : t.key = s.key := by
  cases h
  exact serve_key _ _ _ (fun c u => specQuerySrc_key c u)

theorem execLockDst_key (r : Request) (s t : State) (h : execLockDst r s = .next t) : t.key = s.key := by
  cases h
  exact serve_key _ _ _ (fun c u => specLockDst_key c u)

theorem execUnlockDst_key (r : Request) (s t : State) (h : execUnlockDst r s = .next t) : t.key = s.key := by
  cases h
  exact serve_key _ _ _ (fun c u => specUnlockDst_key c u)

theorem execShadowRebuild_base (d : Nat) (complete : Bool) (s t : State) (h : execShadowRebuild d complete s = .next t) : t.key.base = s.key.base := by
  cases h
  simp

theorem execVideoDomainBoundary_base (d : Nat) (s t : State) (h : execVideoDomainBoundary d s = .next t) : t.key.base = s.key.base := by
  cases h
  simp

theorem execGeneratorFrame_key (src : Nat) (s t : State) (h : execGeneratorFrame src s = .next t) : t.key = s.key := by
  cases h
  simp

theorem execRecirculationReturn_key (k : Nat) (s t : State) (h : execRecirculationReturn k s = .next t) : t.key = s.key := by
  cases h
  simp

/-! ### CmdStreams -/

theorem execStageRenditionRate_key (r : Request) (s t : State) (h : execStageRenditionRate r s = .next t) : t.key = s.key := by
  cases h
  exact serve_key _ _ _ (fun c u => specStageRenditionRate_key c u)

theorem execQueryRenditionRate_key (r : Request) (s t : State) (h : execQueryRenditionRate r s = .next t) : t.key = s.key := by
  cases h
  exact serve_key _ _ _ (fun c u => specQueryRenditionRate_key c u)

theorem execStageDelivery_key (r : Request) (s t : State) (h : execStageDelivery r s = .next t) : t.key = s.key := by
  cases h
  exact serve_key _ _ _ (fun c u => specStageDelivery_key c u)

theorem execQueryDelivery_key (r : Request) (s t : State) (h : execQueryDelivery r s = .next t) : t.key = s.key := by
  cases h
  exact serve_key _ _ _ (fun c u => specQueryDelivery_key c u)

theorem execRistSenderReport_key (delivery : Nat) (s t : State) (h : execRistSenderReport delivery s = .next t) : t.key = s.key := by
  cases h
  simp

theorem execAnalysisDeadline_key (stem : Nat) (s t : State) (h : execAnalysisDeadline stem s = .next t) : t.key = s.key := by
  cases h
  simp

theorem execPartitionCutTime_key (rendition : Nat) (partition : Nat) (s t : State) (h : execPartitionCutTime rendition partition s = .next t) : t.key = s.key := by
  cases h
  simp

theorem execDeliveryInstant_key (stem : Nat) (cons : ConsReads) (s t : State) (h : execDeliveryInstant stem cons s = .next t) : t.key = s.key := by
  cases h
  simp

theorem execFloorAlarmClear_key (rendition : Nat) (s t : State) (h : execFloorAlarmClear rendition s = .next t) : t.key = s.key := by
  cases h
  simp

theorem execTsTableInsert_key (delivery : Nat) (s t : State) (h : execTsTableInsert delivery s = .next t) : t.key = s.key := by
  cases h
  simp

theorem execTsPacketSend_key (delivery : Nat) (s t : State) (h : execTsPacketSend delivery s = .next t) : t.key = s.key := by
  cases h
  simp

/-! ### CmdTurnout -/

theorem execStageQueueDscpMap_key (r : Request) (s t : State) (h : execStageQueueDscpMap r s = .next t) : t.key = s.key := by
  cases h
  exact serve_key _ _ _ (fun c u => specStageQueueDscpMap_key c u)

theorem execStageQueue_key (r : Request) (s t : State) (h : execStageQueue r s = .next t) : t.key = s.key := by
  cases h
  exact serve_key _ _ _ (fun c u => specStageQueue_key c u)

theorem execReadQueueSamples_key (r : Request) (s t : State) (h : execReadQueueSamples r s = .next t) : t.key = s.key := by
  cases h
  exact serve_key _ _ _ (fun c u => specReadQueueSamples_key c u)

theorem execQueryQueue_key (r : Request) (s t : State) (h : execQueryQueue r s = .next t) : t.key = s.key := by
  cases h
  exact serve_key _ _ _ (fun c u => specQueryQueue_key c u)

theorem execStageGateList_key (r : Request) (s t : State) (h : execStageGateList r s = .next t) : t.key = s.key := by
  cases h
  exact serve_key _ _ _ (fun c u => specStageGateList_key c u)

theorem execQueryGateList_key (r : Request) (s t : State) (h : execQueryGateList r s = .next t) : t.key = s.key := by
  cases h
  exact serve_key _ _ _ (fun c u => specQueryGateList_key c u)

theorem execStagePlane_key (r : Request) (s t : State) (h : execStagePlane r s = .next t) : t.key = s.key := by
  cases h
  exact serve_key _ _ _ (fun c u => specStagePlane_key c u)

theorem execSetPlaneDiagnosis_key (r : Request) (s t : State) (h : execSetPlaneDiagnosis r s = .next t) : t.key = s.key := by
  cases h
  exact serve_key _ _ _ (fun c u => specSetPlaneDiagnosis_key c u)

theorem execQueryPlane_key (r : Request) (s t : State) (h : execQueryPlane r s = .next t) : t.key = s.key := by
  cases h
  exact serve_key _ _ _ (fun c u => specQueryPlane_key c u)

theorem execEgressEnqueue_key (port : Nat) (frame : EgressFrame) (s t : State) (h : execEgressEnqueue port frame s = .next t) : t.key = s.key := by
  cases h
  simp

theorem execEgressSelect_key (port : Nat) (s t : State) (h : execEgressSelect port s = .next t) : t.key = s.key := by
  cases h
  simp

theorem execQueueDelayDrop_key (queue : Nat) (s t : State) (h : execQueueDelayDrop queue s = .next t) : t.key = s.key := by
  cases h
  simp

theorem execGateEntryChange_key (port : Nat) (s t : State) (h : execGateEntryChange port s = .next t) : t.key = s.key := by
  cases h
  simp

theorem execGateListTakeover_key (port : Nat) (s t : State) (h : execGateListTakeover port s = .next t) : t.key = s.key := by
  cases h
  simp

theorem execQueueSample_key (port : Nat) (s t : State) (h : execQueueSample port s = .next t) : t.key = s.key := by
  cases h
  simp

theorem execPacerRelease_key (flow : Nat) (j : Nat) (s t : State) (h : execPacerRelease flow j s = .next t) : t.key = s.key := by
  cases h
  simp

theorem execAudioAncRelease_key (flow line : Nat) (audio : List (List Int)) (status : List (List Bool)) (s t : State) (h : execAudioAncRelease flow line audio status s = .next t) : t.key = s.key := by
  cases h
  simp

theorem execLeaseRenew_key (plane : Nat) (s t : State) (h : execLeaseRenew plane s = .next t) : t.key = s.key := by
  cases h
  simp

theorem execLeaseExpiry_key (s t : State) (h : execLeaseExpiry s = .next t) : t.key = s.key := by
  cases h
  simp

theorem execRightRequest_key (plane : Nat) (s t : State) (h : execRightRequest plane s = .next t) : t.key = s.key := by
  cases h
  simp

theorem execPlaneCheckEval_key (plane : Nat) (obs : PlaneObs) (s t : State) (h : execPlaneCheckEval plane obs s = .next t) : t.key = s.key := by
  cases h
  simp

theorem execHandbackHoldoffExpiry_key (s t : State) (h : execHandbackHoldoffExpiry s = .next t) : t.key = s.key := by
  cases h
  simp

theorem execHandoverHoldEnd_key (src : Nat) (s t : State) (h : execHandoverHoldEnd src s = .next t) : t.key = s.key := by
  cases h
  simp

/-! ### CmdUpdate -/

theorem execOpenImage_key (r : Request) (s t : State) (h : execOpenImage r s = .next t) : t.key = s.key := by
  cases h
  exact serve_key _ _ _ (fun c u => specOpenImage_key c u)

theorem execPutImage_key (r : Request) (s t : State) (h : execPutImage r s = .next t) : t.key = s.key := by
  cases h
  exact serve_key _ _ _ (fun c u => specPutImage_key c u)

theorem execCloseImage_key (r : Request) (s t : State) (h : execCloseImage r s = .next t) : t.key = s.key := by
  cases h
  exact serve_key _ _ _ (fun c u => specCloseImage_key c u)

theorem execActivateImage_key (r : Request) (s t : State) (h : execActivateImage r s = .next t) : t.key = s.key := by
  cases h
  exact serve_key _ _ _ (fun c u => specActivateImage_key c u)

theorem execSetImage_key (r : Request) (s t : State) (h : execSetImage r s = .next t) : t.key = s.key := by
  cases h
  exact serve_key _ _ _ (fun c u => specSetImage_key c u)

theorem execQueryImage_key (r : Request) (s t : State) (h : execQueryImage r s = .next t) : t.key = s.key := by
  cases h
  exact serve_key _ _ _ (fun c u => specQueryImage_key c u)

theorem execReadCalset_key (r : Request) (s t : State) (h : execReadCalset r s = .next t) : t.key = s.key := by
  cases h
  exact serve_key _ _ _ (fun c u => specReadCalset_key c u)

theorem execWriteCalset_key (r : Request) (s t : State) (h : execWriteCalset r s = .next t) : t.key = s.key := by
  cases h
  exact serve_key _ _ _ (fun c u => specWriteCalset_key c u)

theorem execSetCalsetRecalibrate_key (r : Request) (s t : State) (h : execSetCalsetRecalibrate r s = .next t) : t.key = s.key := by
  cases h
  exact serve_key _ _ _ (fun c u => specSetCalsetRecalibrate_key c u)

theorem execRecalibrationComplete_key (result : CalParts) (s t : State) (h : execRecalibrationComplete result s = .next t) : t.key = s.key := by
  cases h
  simp

theorem execInbandRequest_kept (sender : InbandSender) (frame : Bytes) (s t : State) (h : execInbandRequest sender frame s = .next t) : Kept s t := by
  cases h
  exact inbandRequest_kept _ _ _

theorem execFirstBootPass_key (s t : State) (h : execFirstBootPass s = .next t) : t.key = s.key := by
  cases h
  simp

theorem execFirstBootFail_kept (failCode : Nat) (s t : State) (h : execFirstBootFail failCode s = .next t) : Kept s t := by
  cases h
  exact firstFail_kept _ _

theorem execOldSlotErased_key (s t : State) (h : execOldSlotErased s = .next t) : t.key = s.key := by
  cases h
  simp

theorem execPieceWriteComplete_key (piece : Nat) (s t : State) (h : execPieceWriteComplete piece s = .next t) : t.key = s.key := by
  cases h
  simp

theorem execPieceStale_key (piece : Nat) (s t : State) (h : execPieceStale piece s = .next t) : t.key = s.key := by
  cases h
  simp

theorem execLeaseIdleExpiry_key (s t : State) (h : execLeaseIdleExpiry s = .next t) : t.key = s.key := by
  cases h
  simp

theorem execActivationCommit_kept (entriesOk : Bool) (s t : State) (h : execActivationCommit entriesOk s = .next t) : Kept s t := by
  cases h
  exact activationCommit_kept _ _

/-! ### CmdWeir -/

theorem execStageSrcLossAction_key (r : Request) (s t : State) (h : execStageSrcLossAction r s = .next t) : t.key = s.key := by
  cases h
  exact serve_key _ _ _ (fun c u => specStageSrcLossAction_key c u)

theorem execStageSrcOverride_key (r : Request) (s t : State) (h : execStageSrcOverride r s = .next t) : t.key = s.key := by
  cases h
  exact serve_key _ _ _ (fun c u => specStageSrcOverride_key c u)

theorem execSetDstProbe_key (r : Request) (s t : State) (h : execSetDstProbe r s = .next t) : t.key = s.key := by
  cases h
  exact serve_key _ _ _ (fun c u => specSetDstProbe_key c u)

theorem execQueryDstProbe_key (r : Request) (s t : State) (h : execQueryDstProbe r s = .next t) : t.key = s.key := by
  cases h
  exact serve_key _ _ _ (fun c u => specQueryDstProbe_key c u)

theorem execQuerySrcAlignment_key (r : Request) (s t : State) (h : execQuerySrcAlignment r s = .next t) : t.key = s.key := by
  cases h
  exact serve_key _ _ _ (fun c u => specQuerySrcAlignment_key c u)

theorem execSourceFrameMeasure_key (src : Nat) (arrivalNs : Nat) (periodPs : Nat) (beyond : List Nat) (s t : State) (h : execSourceFrameMeasure src arrivalNs periodPs beyond s = .next t) : t.key = s.key := by
  cases h
  simp

theorem execSourceFrameComplete_key (src : Nat) (frame : SourceFrame) (s t : State) (h : execSourceFrameComplete src frame s = .next t) : t.key = s.key := by
  cases h
  simp

theorem execSourceSignalLoss_key (src : Nat) (linesMissing : Nat) (got : Picture) (s t : State) (h : execSourceSignalLoss src linesMissing got s = .next t) : t.key = s.key := by
  cases h
  simp

theorem execFlowSourceTimeout_key (src : Nat) (got : Picture) (s t : State) (h : execFlowSourceTimeout src got s = .next t) : t.key = s.key := by
  cases h
  simp

theorem execDestFrameStart_key (dst : Nat) (s t : State) (h : execDestFrameStart dst s = .next t) : t.key = s.key := by
  cases h
  simp

theorem execProbeFrame_key (dst : Nat) (s t : State) (h : execProbeFrame dst s = .next t) : t.key = s.key := by
  cases h
  simp

end Sys2Proof.Machine
end

