-- ==== Sys2Proof/Laws/Fields.lean ====
section
/-! SUPPORT. One lemma per field for every operation that changes one unit or reports something: what it leaves alone. -/
namespace Sys2Proof.Machine

@[simp] theorem State.modSrc_time (s : State) (k : Nat) (f : SrcSt → SrcSt) : (s.modSrc k f).time = s.time := rfl
@[simp] theorem State.modSrc_freeCtr (s : State) (k : Nat) (f : SrcSt → SrcSt) : (s.modSrc k f).freeCtr = s.freeCtr := rfl
@[simp] theorem State.modSrc_out (s : State) (k : Nat) (f : SrcSt → SrcSt) : (s.modSrc k f).out = s.out := rfl
@[simp] theorem State.modSrc_pins (s : State) (k : Nat) (f : SrcSt → SrcSt) : (s.modSrc k f).pins = s.pins := rfl
@[simp] theorem State.modSrc_mode (s : State) (k : Nat) (f : SrcSt → SrcSt) : (s.modSrc k f).mode = s.mode := rfl
@[simp] theorem State.modSrc_rings (s : State) (k : Nat) (f : SrcSt → SrcSt) : (s.modSrc k f).rings = s.rings := rfl
@[simp] theorem State.modSrc_ints (s : State) (k : Nat) (f : SrcSt → SrcSt) : (s.modSrc k f).ints = s.ints := rfl
@[simp] theorem State.modSrc_events (s : State) (k : Nat) (f : SrcSt → SrcSt) : (s.modSrc k f).events = s.events := rfl
@[simp] theorem State.modSrc_storm (s : State) (k : Nat) (f : SrcSt → SrcSt) : (s.modSrc k f).storm = s.storm := rfl
@[simp] theorem State.modSrc_domains (s : State) (k : Nat) (f : SrcSt → SrcSt) : (s.modSrc k f).domains = s.domains := rfl
@[simp] theorem State.modSrc_openSets (s : State) (k : Nat) (f : SrcSt → SrcSt) : (s.modSrc k f).openSets = s.openSets := rfl
@[simp] theorem State.modSrc_parts (s : State) (k : Nat) (f : SrcSt → SrcSt) : (s.modSrc k f).parts = s.parts := rfl
@[simp] theorem State.modSrc_partSeq (s : State) (k : Nat) (f : SrcSt → SrcSt) : (s.modSrc k f).partSeq = s.partSeq := rfl
@[simp] theorem State.modSrc_fused (s : State) (k : Nat) (f : SrcSt → SrcSt) : (s.modSrc k f).fused = s.fused := rfl
@[simp] theorem State.modSrc_repair (s : State) (k : Nat) (f : SrcSt → SrcSt) : (s.modSrc k f).repair = s.repair := rfl
@[simp] theorem State.modSrc_counters (s : State) (k : Nat) (f : SrcSt → SrcSt) : (s.modSrc k f).counters = s.counters := rfl
@[simp] theorem State.modSrc_alarms (s : State) (k : Nat) (f : SrcSt → SrcSt) : (s.modSrc k f).alarms = s.alarms := rfl
@[simp] theorem State.modSrc_dsts (s : State) (k : Nat) (f : SrcSt → SrcSt) : (s.modSrc k f).dsts = s.dsts := rfl
@[simp] theorem State.modSrc_convs (s : State) (k : Nat) (f : SrcSt → SrcSt) : (s.modSrc k f).convs = s.convs := rfl
@[simp] theorem State.modSrc_ains (s : State) (k : Nat) (f : SrcSt → SrcSt) : (s.modSrc k f).ains = s.ains := rfl
@[simp] theorem State.modSrc_aouts (s : State) (k : Nat) (f : SrcSt → SrcSt) : (s.modSrc k f).aouts = s.aouts := rfl
@[simp] theorem State.modSrc_aports (s : State) (k : Nat) (f : SrcSt → SrcSt) : (s.modSrc k f).aports = s.aports := rfl
@[simp] theorem State.modSrc_lanes (s : State) (k : Nat) (f : SrcSt → SrcSt) : (s.modSrc k f).lanes = s.lanes := rfl
@[simp] theorem State.modSrc_buses (s : State) (k : Nat) (f : SrcSt → SrcSt) : (s.modSrc k f).buses = s.buses := rfl
@[simp] theorem State.modSrc_ports (s : State) (k : Nat) (f : SrcSt → SrcSt) : (s.modSrc k f).ports = s.ports := rfl
@[simp] theorem State.modSrc_flows (s : State) (k : Nat) (f : SrcSt → SrcSt) : (s.modSrc k f).flows = s.flows := rfl
@[simp] theorem State.modSrc_queues (s : State) (k : Nat) (f : SrcSt → SrcSt) : (s.modSrc k f).queues = s.queues := rfl
@[simp] theorem State.modSrc_gates (s : State) (k : Nat) (f : SrcSt → SrcSt) : (s.modSrc k f).gates = s.gates := rfl
@[simp] theorem State.modSrc_planes (s : State) (k : Nat) (f : SrcSt → SrcSt) : (s.modSrc k f).planes = s.planes := rfl
@[simp] theorem State.modSrc_levee (s : State) (k : Nat) (f : SrcSt → SrcSt) : (s.modSrc k f).levee = s.levee := rfl
@[simp] theorem State.modSrc_refs (s : State) (k : Nat) (f : SrcSt → SrcSt) : (s.modSrc k f).refs = s.refs := rfl
@[simp] theorem State.modSrc_hg (s : State) (k : Nat) (f : SrcSt → SrcSt) : (s.modSrc k f).hg = s.hg := rfl
@[simp] theorem State.modSrc_caps (s : State) (k : Nat) (f : SrcSt → SrcSt) : (s.modSrc k f).caps = s.caps := rfl
@[simp] theorem State.modSrc_trigs (s : State) (k : Nat) (f : SrcSt → SrcSt) : (s.modSrc k f).trigs = s.trigs := rfl
@[simp] theorem State.modSrc_stems (s : State) (k : Nat) (f : SrcSt → SrcSt) : (s.modSrc k f).stems = s.stems := rfl
@[simp] theorem State.modSrc_rends (s : State) (k : Nat) (f : SrcSt → SrcSt) : (s.modSrc k f).rends = s.rends := rfl
@[simp] theorem State.modSrc_delivs (s : State) (k : Nat) (f : SrcSt → SrcSt) : (s.modSrc k f).delivs = s.delivs := rfl
@[simp] theorem State.modSrc_cores (s : State) (k : Nat) (f : SrcSt → SrcSt) : (s.modSrc k f).cores = s.cores := rfl
@[simp] theorem State.modSrc_riders (s : State) (k : Nat) (f : SrcSt → SrcSt) : (s.modSrc k f).riders = s.riders := rfl
@[simp] theorem State.modSrc_riderDev (s : State) (k : Nat) (f : SrcSt → SrcSt) : (s.modSrc k f).riderDev = s.riderDev := rfl
@[simp] theorem State.modSrc_jobs (s : State) (k : Nat) (f : SrcSt → SrcSt) : (s.modSrc k f).jobs = s.jobs := rfl
@[simp] theorem State.modSrc_jobSeq (s : State) (k : Nat) (f : SrcSt → SrcSt) : (s.modSrc k f).jobSeq = s.jobSeq := rfl
@[simp] theorem State.modSrc_hostFlows (s : State) (k : Nat) (f : SrcSt → SrcSt) : (s.modSrc k f).hostFlows = s.hostFlows := rfl
@[simp] theorem State.modSrc_ctxs (s : State) (k : Nat) (f : SrcSt → SrcSt) : (s.modSrc k f).ctxs = s.ctxs := rfl
@[simp] theorem State.modSrc_heads (s : State) (k : Nat) (f : SrcSt → SrcSt) : (s.modSrc k f).heads = s.heads := rfl
@[simp] theorem State.modSrc_layers (s : State) (k : Nat) (f : SrcSt → SrcSt) : (s.modSrc k f).layers = s.layers := rfl
@[simp] theorem State.modSrc_readback (s : State) (k : Nat) (f : SrcSt → SrcSt) : (s.modSrc k f).readback = s.readback := rfl
@[simp] theorem State.modSrc_culverts (s : State) (k : Nat) (f : SrcSt → SrcSt) : (s.modSrc k f).culverts = s.culverts := rfl
@[simp] theorem State.modSrc_dramStacks (s : State) (k : Nat) (f : SrcSt → SrcSt) : (s.modSrc k f).dramStacks = s.dramStacks := rfl
@[simp] theorem State.modSrc_rmem (s : State) (k : Nat) (f : SrcSt → SrcSt) : (s.modSrc k f).rmem = s.rmem := rfl
@[simp] theorem State.modSrc_dram (s : State) (k : Nat) (f : SrcSt → SrcSt) : (s.modSrc k f).dram = s.dram := rfl
@[simp] theorem State.modSrc_capStamps (s : State) (k : Nat) (f : SrcSt → SrcSt) : (s.modSrc k f).capStamps = s.capStamps := rfl
@[simp] theorem State.modSrc_remap (s : State) (k : Nat) (f : SrcSt → SrcSt) : (s.modSrc k f).remap = s.remap := rfl
@[simp] theorem State.modSrc_busReqs (s : State) (k : Nat) (f : SrcSt → SrcSt) : (s.modSrc k f).busReqs = s.busReqs := rfl
@[simp] theorem State.modSrc_gauges (s : State) (k : Nat) (f : SrcSt → SrcSt) : (s.modSrc k f).gauges = s.gauges := rfl
@[simp] theorem State.modSrc_thermal (s : State) (k : Nat) (f : SrcSt → SrcSt) : (s.modSrc k f).thermal = s.thermal := rfl
@[simp] theorem State.modSrc_image (s : State) (k : Nat) (f : SrcSt → SrcSt) : (s.modSrc k f).image = s.image := rfl
@[simp] theorem State.modSrc_saved (s : State) (k : Nat) (f : SrcSt → SrcSt) : (s.modSrc k f).saved = s.saved := rfl
@[simp] theorem State.modSrc_cal (s : State) (k : Nat) (f : SrcSt → SrcSt) : (s.modSrc k f).cal = s.cal := rfl
@[simp] theorem State.modSrc_svc (s : State) (k : Nat) (f : SrcSt → SrcSt) : (s.modSrc k f).svc = s.svc := rfl
@[simp] theorem State.modSrc_jtag (s : State) (k : Nat) (f : SrcSt → SrcSt) : (s.modSrc k f).jtag = s.jtag := rfl
@[simp] theorem State.modSrc_pending (s : State) (k : Nat) (f : SrcSt → SrcSt) : (s.modSrc k f).pending = s.pending := rfl

@[simp] theorem State.modDst_time (s : State) (k : Nat) (f : DstSt → DstSt) : (s.modDst k f).time = s.time := rfl
@[simp] theorem State.modDst_freeCtr (s : State) (k : Nat) (f : DstSt → DstSt) : (s.modDst k f).freeCtr = s.freeCtr := rfl
@[simp] theorem State.modDst_out (s : State) (k : Nat) (f : DstSt → DstSt) : (s.modDst k f).out = s.out := rfl
@[simp] theorem State.modDst_pins (s : State) (k : Nat) (f : DstSt → DstSt) : (s.modDst k f).pins = s.pins := rfl
@[simp] theorem State.modDst_mode (s : State) (k : Nat) (f : DstSt → DstSt) : (s.modDst k f).mode = s.mode := rfl
@[simp] theorem State.modDst_rings (s : State) (k : Nat) (f : DstSt → DstSt) : (s.modDst k f).rings = s.rings := rfl
@[simp] theorem State.modDst_ints (s : State) (k : Nat) (f : DstSt → DstSt) : (s.modDst k f).ints = s.ints := rfl
@[simp] theorem State.modDst_events (s : State) (k : Nat) (f : DstSt → DstSt) : (s.modDst k f).events = s.events := rfl
@[simp] theorem State.modDst_storm (s : State) (k : Nat) (f : DstSt → DstSt) : (s.modDst k f).storm = s.storm := rfl
@[simp] theorem State.modDst_domains (s : State) (k : Nat) (f : DstSt → DstSt) : (s.modDst k f).domains = s.domains := rfl
@[simp] theorem State.modDst_openSets (s : State) (k : Nat) (f : DstSt → DstSt) : (s.modDst k f).openSets = s.openSets := rfl
@[simp] theorem State.modDst_parts (s : State) (k : Nat) (f : DstSt → DstSt) : (s.modDst k f).parts = s.parts := rfl
@[simp] theorem State.modDst_partSeq (s : State) (k : Nat) (f : DstSt → DstSt) : (s.modDst k f).partSeq = s.partSeq := rfl
@[simp] theorem State.modDst_fused (s : State) (k : Nat) (f : DstSt → DstSt) : (s.modDst k f).fused = s.fused := rfl
@[simp] theorem State.modDst_repair (s : State) (k : Nat) (f : DstSt → DstSt) : (s.modDst k f).repair = s.repair := rfl
@[simp] theorem State.modDst_counters (s : State) (k : Nat) (f : DstSt → DstSt) : (s.modDst k f).counters = s.counters := rfl
@[simp] theorem State.modDst_alarms (s : State) (k : Nat) (f : DstSt → DstSt) : (s.modDst k f).alarms = s.alarms := rfl
@[simp] theorem State.modDst_srcs (s : State) (k : Nat) (f : DstSt → DstSt) : (s.modDst k f).srcs = s.srcs := rfl
@[simp] theorem State.modDst_convs (s : State) (k : Nat) (f : DstSt → DstSt) : (s.modDst k f).convs = s.convs := rfl
@[simp] theorem State.modDst_ains (s : State) (k : Nat) (f : DstSt → DstSt) : (s.modDst k f).ains = s.ains := rfl
@[simp] theorem State.modDst_aouts (s : State) (k : Nat) (f : DstSt → DstSt) : (s.modDst k f).aouts = s.aouts := rfl
@[simp] theorem State.modDst_aports (s : State) (k : Nat) (f : DstSt → DstSt) : (s.modDst k f).aports = s.aports := rfl
@[simp] theorem State.modDst_lanes (s : State) (k : Nat) (f : DstSt → DstSt) : (s.modDst k f).lanes = s.lanes := rfl
@[simp] theorem State.modDst_buses (s : State) (k : Nat) (f : DstSt → DstSt) : (s.modDst k f).buses = s.buses := rfl
@[simp] theorem State.modDst_ports (s : State) (k : Nat) (f : DstSt → DstSt) : (s.modDst k f).ports = s.ports := rfl
@[simp] theorem State.modDst_flows (s : State) (k : Nat) (f : DstSt → DstSt) : (s.modDst k f).flows = s.flows := rfl
@[simp] theorem State.modDst_queues (s : State) (k : Nat) (f : DstSt → DstSt) : (s.modDst k f).queues = s.queues := rfl
@[simp] theorem State.modDst_gates (s : State) (k : Nat) (f : DstSt → DstSt) : (s.modDst k f).gates = s.gates := rfl
@[simp] theorem State.modDst_planes (s : State) (k : Nat) (f : DstSt → DstSt) : (s.modDst k f).planes = s.planes := rfl
@[simp] theorem State.modDst_levee (s : State) (k : Nat) (f : DstSt → DstSt) : (s.modDst k f).levee = s.levee := rfl
@[simp] theorem State.modDst_refs (s : State) (k : Nat) (f : DstSt → DstSt) : (s.modDst k f).refs = s.refs := rfl
@[simp] theorem State.modDst_hg (s : State) (k : Nat) (f : DstSt → DstSt) : (s.modDst k f).hg = s.hg := rfl
@[simp] theorem State.modDst_caps (s : State) (k : Nat) (f : DstSt → DstSt) : (s.modDst k f).caps = s.caps := rfl
@[simp] theorem State.modDst_trigs (s : State) (k : Nat) (f : DstSt → DstSt) : (s.modDst k f).trigs = s.trigs := rfl
@[simp] theorem State.modDst_stems (s : State) (k : Nat) (f : DstSt → DstSt) : (s.modDst k f).stems = s.stems := rfl
@[simp] theorem State.modDst_rends (s : State) (k : Nat) (f : DstSt → DstSt) : (s.modDst k f).rends = s.rends := rfl
@[simp] theorem State.modDst_delivs (s : State) (k : Nat) (f : DstSt → DstSt) : (s.modDst k f).delivs = s.delivs := rfl
@[simp] theorem State.modDst_cores (s : State) (k : Nat) (f : DstSt → DstSt) : (s.modDst k f).cores = s.cores := rfl
@[simp] theorem State.modDst_riders (s : State) (k : Nat) (f : DstSt → DstSt) : (s.modDst k f).riders = s.riders := rfl
@[simp] theorem State.modDst_riderDev (s : State) (k : Nat) (f : DstSt → DstSt) : (s.modDst k f).riderDev = s.riderDev := rfl
@[simp] theorem State.modDst_jobs (s : State) (k : Nat) (f : DstSt → DstSt) : (s.modDst k f).jobs = s.jobs := rfl
@[simp] theorem State.modDst_jobSeq (s : State) (k : Nat) (f : DstSt → DstSt) : (s.modDst k f).jobSeq = s.jobSeq := rfl
@[simp] theorem State.modDst_hostFlows (s : State) (k : Nat) (f : DstSt → DstSt) : (s.modDst k f).hostFlows = s.hostFlows := rfl
@[simp] theorem State.modDst_ctxs (s : State) (k : Nat) (f : DstSt → DstSt) : (s.modDst k f).ctxs = s.ctxs := rfl
@[simp] theorem State.modDst_heads (s : State) (k : Nat) (f : DstSt → DstSt) : (s.modDst k f).heads = s.heads := rfl
@[simp] theorem State.modDst_layers (s : State) (k : Nat) (f : DstSt → DstSt) : (s.modDst k f).layers = s.layers := rfl
@[simp] theorem State.modDst_readback (s : State) (k : Nat) (f : DstSt → DstSt) : (s.modDst k f).readback = s.readback := rfl
@[simp] theorem State.modDst_culverts (s : State) (k : Nat) (f : DstSt → DstSt) : (s.modDst k f).culverts = s.culverts := rfl
@[simp] theorem State.modDst_dramStacks (s : State) (k : Nat) (f : DstSt → DstSt) : (s.modDst k f).dramStacks = s.dramStacks := rfl
@[simp] theorem State.modDst_rmem (s : State) (k : Nat) (f : DstSt → DstSt) : (s.modDst k f).rmem = s.rmem := rfl
@[simp] theorem State.modDst_dram (s : State) (k : Nat) (f : DstSt → DstSt) : (s.modDst k f).dram = s.dram := rfl
@[simp] theorem State.modDst_capStamps (s : State) (k : Nat) (f : DstSt → DstSt) : (s.modDst k f).capStamps = s.capStamps := rfl
@[simp] theorem State.modDst_remap (s : State) (k : Nat) (f : DstSt → DstSt) : (s.modDst k f).remap = s.remap := rfl
@[simp] theorem State.modDst_busReqs (s : State) (k : Nat) (f : DstSt → DstSt) : (s.modDst k f).busReqs = s.busReqs := rfl
@[simp] theorem State.modDst_gauges (s : State) (k : Nat) (f : DstSt → DstSt) : (s.modDst k f).gauges = s.gauges := rfl
@[simp] theorem State.modDst_thermal (s : State) (k : Nat) (f : DstSt → DstSt) : (s.modDst k f).thermal = s.thermal := rfl
@[simp] theorem State.modDst_image (s : State) (k : Nat) (f : DstSt → DstSt) : (s.modDst k f).image = s.image := rfl
@[simp] theorem State.modDst_saved (s : State) (k : Nat) (f : DstSt → DstSt) : (s.modDst k f).saved = s.saved := rfl
@[simp] theorem State.modDst_cal (s : State) (k : Nat) (f : DstSt → DstSt) : (s.modDst k f).cal = s.cal := rfl
@[simp] theorem State.modDst_svc (s : State) (k : Nat) (f : DstSt → DstSt) : (s.modDst k f).svc = s.svc := rfl
@[simp] theorem State.modDst_jtag (s : State) (k : Nat) (f : DstSt → DstSt) : (s.modDst k f).jtag = s.jtag := rfl
@[simp] theorem State.modDst_pending (s : State) (k : Nat) (f : DstSt → DstSt) : (s.modDst k f).pending = s.pending := rfl

@[simp] theorem State.modAin_time (s : State) (k : Nat) (f : AinSt → AinSt) : (s.modAin k f).time = s.time := rfl
@[simp] theorem State.modAin_freeCtr (s : State) (k : Nat) (f : AinSt → AinSt) : (s.modAin k f).freeCtr = s.freeCtr := rfl
@[simp] theorem State.modAin_out (s : State) (k : Nat) (f : AinSt → AinSt) : (s.modAin k f).out = s.out := rfl
@[simp] theorem State.modAin_pins (s : State) (k : Nat) (f : AinSt → AinSt) : (s.modAin k f).pins = s.pins := rfl
@[simp] theorem State.modAin_mode (s : State) (k : Nat) (f : AinSt → AinSt) : (s.modAin k f).mode = s.mode := rfl
@[simp] theorem State.modAin_rings (s : State) (k : Nat) (f : AinSt → AinSt) : (s.modAin k f).rings = s.rings := rfl
@[simp] theorem State.modAin_ints (s : State) (k : Nat) (f : AinSt → AinSt) : (s.modAin k f).ints = s.ints := rfl
@[simp] theorem State.modAin_events (s : State) (k : Nat) (f : AinSt → AinSt) : (s.modAin k f).events = s.events := rfl
@[simp] theorem State.modAin_storm (s : State) (k : Nat) (f : AinSt → AinSt) : (s.modAin k f).storm = s.storm := rfl
@[simp] theorem State.modAin_domains (s : State) (k : Nat) (f : AinSt → AinSt) : (s.modAin k f).domains = s.domains := rfl
@[simp] theorem State.modAin_openSets (s : State) (k : Nat) (f : AinSt → AinSt) : (s.modAin k f).openSets = s.openSets := rfl
@[simp] theorem State.modAin_parts (s : State) (k : Nat) (f : AinSt → AinSt) : (s.modAin k f).parts = s.parts := rfl
@[simp] theorem State.modAin_partSeq (s : State) (k : Nat) (f : AinSt → AinSt) : (s.modAin k f).partSeq = s.partSeq := rfl
@[simp] theorem State.modAin_fused (s : State) (k : Nat) (f : AinSt → AinSt) : (s.modAin k f).fused = s.fused := rfl
@[simp] theorem State.modAin_repair (s : State) (k : Nat) (f : AinSt → AinSt) : (s.modAin k f).repair = s.repair := rfl
@[simp] theorem State.modAin_counters (s : State) (k : Nat) (f : AinSt → AinSt) : (s.modAin k f).counters = s.counters := rfl
@[simp] theorem State.modAin_alarms (s : State) (k : Nat) (f : AinSt → AinSt) : (s.modAin k f).alarms = s.alarms := rfl
@[simp] theorem State.modAin_srcs (s : State) (k : Nat) (f : AinSt → AinSt) : (s.modAin k f).srcs = s.srcs := rfl
@[simp] theorem State.modAin_dsts (s : State) (k : Nat) (f : AinSt → AinSt) : (s.modAin k f).dsts = s.dsts := rfl
@[simp] theorem State.modAin_convs (s : State) (k : Nat) (f : AinSt → AinSt) : (s.modAin k f).convs = s.convs := rfl
@[simp] theorem State.modAin_aouts (s : State) (k : Nat) (f : AinSt → AinSt) : (s.modAin k f).aouts = s.aouts := rfl
@[simp] theorem State.modAin_aports (s : State) (k : Nat) (f : AinSt → AinSt) : (s.modAin k f).aports = s.aports := rfl
@[simp] theorem State.modAin_lanes (s : State) (k : Nat) (f : AinSt → AinSt) : (s.modAin k f).lanes = s.lanes := rfl
@[simp] theorem State.modAin_buses (s : State) (k : Nat) (f : AinSt → AinSt) : (s.modAin k f).buses = s.buses := rfl
@[simp] theorem State.modAin_ports (s : State) (k : Nat) (f : AinSt → AinSt) : (s.modAin k f).ports = s.ports := rfl
@[simp] theorem State.modAin_flows (s : State) (k : Nat) (f : AinSt → AinSt) : (s.modAin k f).flows = s.flows := rfl
@[simp] theorem State.modAin_queues (s : State) (k : Nat) (f : AinSt → AinSt) : (s.modAin k f).queues = s.queues := rfl
@[simp] theorem State.modAin_gates (s : State) (k : Nat) (f : AinSt → AinSt) : (s.modAin k f).gates = s.gates := rfl
@[simp] theorem State.modAin_planes (s : State) (k : Nat) (f : AinSt → AinSt) : (s.modAin k f).planes = s.planes := rfl
@[simp] theorem State.modAin_levee (s : State) (k : Nat) (f : AinSt → AinSt) : (s.modAin k f).levee = s.levee := rfl
@[simp] theorem State.modAin_refs (s : State) (k : Nat) (f : AinSt → AinSt) : (s.modAin k f).refs = s.refs := rfl
@[simp] theorem State.modAin_hg (s : State) (k : Nat) (f : AinSt → AinSt) : (s.modAin k f).hg = s.hg := rfl
@[simp] theorem State.modAin_caps (s : State) (k : Nat) (f : AinSt → AinSt) : (s.modAin k f).caps = s.caps := rfl
@[simp] theorem State.modAin_trigs (s : State) (k : Nat) (f : AinSt → AinSt) : (s.modAin k f).trigs = s.trigs := rfl
@[simp] theorem State.modAin_stems (s : State) (k : Nat) (f : AinSt → AinSt) : (s.modAin k f).stems = s.stems := rfl
@[simp] theorem State.modAin_rends (s : State) (k : Nat) (f : AinSt → AinSt) : (s.modAin k f).rends = s.rends := rfl
@[simp] theorem State.modAin_delivs (s : State) (k : Nat) (f : AinSt → AinSt) : (s.modAin k f).delivs = s.delivs := rfl
@[simp] theorem State.modAin_cores (s : State) (k : Nat) (f : AinSt → AinSt) : (s.modAin k f).cores = s.cores := rfl
@[simp] theorem State.modAin_riders (s : State) (k : Nat) (f : AinSt → AinSt) : (s.modAin k f).riders = s.riders := rfl
@[simp] theorem State.modAin_riderDev (s : State) (k : Nat) (f : AinSt → AinSt) : (s.modAin k f).riderDev = s.riderDev := rfl
@[simp] theorem State.modAin_jobs (s : State) (k : Nat) (f : AinSt → AinSt) : (s.modAin k f).jobs = s.jobs := rfl
@[simp] theorem State.modAin_jobSeq (s : State) (k : Nat) (f : AinSt → AinSt) : (s.modAin k f).jobSeq = s.jobSeq := rfl
@[simp] theorem State.modAin_hostFlows (s : State) (k : Nat) (f : AinSt → AinSt) : (s.modAin k f).hostFlows = s.hostFlows := rfl
@[simp] theorem State.modAin_ctxs (s : State) (k : Nat) (f : AinSt → AinSt) : (s.modAin k f).ctxs = s.ctxs := rfl
@[simp] theorem State.modAin_heads (s : State) (k : Nat) (f : AinSt → AinSt) : (s.modAin k f).heads = s.heads := rfl
@[simp] theorem State.modAin_layers (s : State) (k : Nat) (f : AinSt → AinSt) : (s.modAin k f).layers = s.layers := rfl
@[simp] theorem State.modAin_readback (s : State) (k : Nat) (f : AinSt → AinSt) : (s.modAin k f).readback = s.readback := rfl
@[simp] theorem State.modAin_culverts (s : State) (k : Nat) (f : AinSt → AinSt) : (s.modAin k f).culverts = s.culverts := rfl
@[simp] theorem State.modAin_dramStacks (s : State) (k : Nat) (f : AinSt → AinSt) : (s.modAin k f).dramStacks = s.dramStacks := rfl
@[simp] theorem State.modAin_rmem (s : State) (k : Nat) (f : AinSt → AinSt) : (s.modAin k f).rmem = s.rmem := rfl
@[simp] theorem State.modAin_dram (s : State) (k : Nat) (f : AinSt → AinSt) : (s.modAin k f).dram = s.dram := rfl
@[simp] theorem State.modAin_capStamps (s : State) (k : Nat) (f : AinSt → AinSt) : (s.modAin k f).capStamps = s.capStamps := rfl
@[simp] theorem State.modAin_remap (s : State) (k : Nat) (f : AinSt → AinSt) : (s.modAin k f).remap = s.remap := rfl
@[simp] theorem State.modAin_busReqs (s : State) (k : Nat) (f : AinSt → AinSt) : (s.modAin k f).busReqs = s.busReqs := rfl
@[simp] theorem State.modAin_gauges (s : State) (k : Nat) (f : AinSt → AinSt) : (s.modAin k f).gauges = s.gauges := rfl
@[simp] theorem State.modAin_thermal (s : State) (k : Nat) (f : AinSt → AinSt) : (s.modAin k f).thermal = s.thermal := rfl
@[simp] theorem State.modAin_image (s : State) (k : Nat) (f : AinSt → AinSt) : (s.modAin k f).image = s.image := rfl
@[simp] theorem State.modAin_saved (s : State) (k : Nat) (f : AinSt → AinSt) : (s.modAin k f).saved = s.saved := rfl
@[simp] theorem State.modAin_cal (s : State) (k : Nat) (f : AinSt → AinSt) : (s.modAin k f).cal = s.cal := rfl
@[simp] theorem State.modAin_svc (s : State) (k : Nat) (f : AinSt → AinSt) : (s.modAin k f).svc = s.svc := rfl
@[simp] theorem State.modAin_jtag (s : State) (k : Nat) (f : AinSt → AinSt) : (s.modAin k f).jtag = s.jtag := rfl
@[simp] theorem State.modAin_pending (s : State) (k : Nat) (f : AinSt → AinSt) : (s.modAin k f).pending = s.pending := rfl

@[simp] theorem State.modAout_time (s : State) (k : Nat) (f : AoutSt → AoutSt) : (s.modAout k f).time = s.time := rfl
@[simp] theorem State.modAout_freeCtr (s : State) (k : Nat) (f : AoutSt → AoutSt) : (s.modAout k f).freeCtr = s.freeCtr := rfl
@[simp] theorem State.modAout_out (s : State) (k : Nat) (f : AoutSt → AoutSt) : (s.modAout k f).out = s.out := rfl
@[simp] theorem State.modAout_pins (s : State) (k : Nat) (f : AoutSt → AoutSt) : (s.modAout k f).pins = s.pins := rfl
@[simp] theorem State.modAout_mode (s : State) (k : Nat) (f : AoutSt → AoutSt) : (s.modAout k f).mode = s.mode := rfl
@[simp] theorem State.modAout_rings (s : State) (k : Nat) (f : AoutSt → AoutSt) : (s.modAout k f).rings = s.rings := rfl
@[simp] theorem State.modAout_ints (s : State) (k : Nat) (f : AoutSt → AoutSt) : (s.modAout k f).ints = s.ints := rfl
@[simp] theorem State.modAout_events (s : State) (k : Nat) (f : AoutSt → AoutSt) : (s.modAout k f).events = s.events := rfl
@[simp] theorem State.modAout_storm (s : State) (k : Nat) (f : AoutSt → AoutSt) : (s.modAout k f).storm = s.storm := rfl
@[simp] theorem State.modAout_domains (s : State) (k : Nat) (f : AoutSt → AoutSt) : (s.modAout k f).domains = s.domains := rfl
@[simp] theorem State.modAout_openSets (s : State) (k : Nat) (f : AoutSt → AoutSt) : (s.modAout k f).openSets = s.openSets := rfl
@[simp] theorem State.modAout_parts (s : State) (k : Nat) (f : AoutSt → AoutSt) : (s.modAout k f).parts = s.parts := rfl
@[simp] theorem State.modAout_partSeq (s : State) (k : Nat) (f : AoutSt → AoutSt) : (s.modAout k f).partSeq = s.partSeq := rfl
@[simp] theorem State.modAout_fused (s : State) (k : Nat) (f : AoutSt → AoutSt) : (s.modAout k f).fused = s.fused := rfl
@[simp] theorem State.modAout_repair (s : State) (k : Nat) (f : AoutSt → AoutSt) : (s.modAout k f).repair = s.repair := rfl
@[simp] theorem State.modAout_counters (s : State) (k : Nat) (f : AoutSt → AoutSt) : (s.modAout k f).counters = s.counters := rfl
@[simp] theorem State.modAout_alarms (s : State) (k : Nat) (f : AoutSt → AoutSt) : (s.modAout k f).alarms = s.alarms := rfl
@[simp] theorem State.modAout_srcs (s : State) (k : Nat) (f : AoutSt → AoutSt) : (s.modAout k f).srcs = s.srcs := rfl
@[simp] theorem State.modAout_dsts (s : State) (k : Nat) (f : AoutSt → AoutSt) : (s.modAout k f).dsts = s.dsts := rfl
@[simp] theorem State.modAout_convs (s : State) (k : Nat) (f : AoutSt → AoutSt) : (s.modAout k f).convs = s.convs := rfl
@[simp] theorem State.modAout_ains (s : State) (k : Nat) (f : AoutSt → AoutSt) : (s.modAout k f).ains = s.ains := rfl
@[simp] theorem State.modAout_aports (s : State) (k : Nat) (f : AoutSt → AoutSt) : (s.modAout k f).aports = s.aports := rfl
@[simp] theorem State.modAout_lanes (s : State) (k : Nat) (f : AoutSt → AoutSt) : (s.modAout k f).lanes = s.lanes := rfl
@[simp] theorem State.modAout_buses (s : State) (k : Nat) (f : AoutSt → AoutSt) : (s.modAout k f).buses = s.buses := rfl
@[simp] theorem State.modAout_ports (s : State) (k : Nat) (f : AoutSt → AoutSt) : (s.modAout k f).ports = s.ports := rfl
@[simp] theorem State.modAout_flows (s : State) (k : Nat) (f : AoutSt → AoutSt) : (s.modAout k f).flows = s.flows := rfl
@[simp] theorem State.modAout_queues (s : State) (k : Nat) (f : AoutSt → AoutSt) : (s.modAout k f).queues = s.queues := rfl
@[simp] theorem State.modAout_gates (s : State) (k : Nat) (f : AoutSt → AoutSt) : (s.modAout k f).gates = s.gates := rfl
@[simp] theorem State.modAout_planes (s : State) (k : Nat) (f : AoutSt → AoutSt) : (s.modAout k f).planes = s.planes := rfl
@[simp] theorem State.modAout_levee (s : State) (k : Nat) (f : AoutSt → AoutSt) : (s.modAout k f).levee = s.levee := rfl
@[simp] theorem State.modAout_refs (s : State) (k : Nat) (f : AoutSt → AoutSt) : (s.modAout k f).refs = s.refs := rfl
@[simp] theorem State.modAout_hg (s : State) (k : Nat) (f : AoutSt → AoutSt) : (s.modAout k f).hg = s.hg := rfl
@[simp] theorem State.modAout_caps (s : State) (k : Nat) (f : AoutSt → AoutSt) : (s.modAout k f).caps = s.caps := rfl
@[simp] theorem State.modAout_trigs (s : State) (k : Nat) (f : AoutSt → AoutSt) : (s.modAout k f).trigs = s.trigs := rfl
@[simp] theorem State.modAout_stems (s : State) (k : Nat) (f : AoutSt → AoutSt) : (s.modAout k f).stems = s.stems := rfl
@[simp] theorem State.modAout_rends (s : State) (k : Nat) (f : AoutSt → AoutSt) : (s.modAout k f).rends = s.rends := rfl
@[simp] theorem State.modAout_delivs (s : State) (k : Nat) (f : AoutSt → AoutSt) : (s.modAout k f).delivs = s.delivs := rfl
@[simp] theorem State.modAout_cores (s : State) (k : Nat) (f : AoutSt → AoutSt) : (s.modAout k f).cores = s.cores := rfl
@[simp] theorem State.modAout_riders (s : State) (k : Nat) (f : AoutSt → AoutSt) : (s.modAout k f).riders = s.riders := rfl
@[simp] theorem State.modAout_riderDev (s : State) (k : Nat) (f : AoutSt → AoutSt) : (s.modAout k f).riderDev = s.riderDev := rfl
@[simp] theorem State.modAout_jobs (s : State) (k : Nat) (f : AoutSt → AoutSt) : (s.modAout k f).jobs = s.jobs := rfl
@[simp] theorem State.modAout_jobSeq (s : State) (k : Nat) (f : AoutSt → AoutSt) : (s.modAout k f).jobSeq = s.jobSeq := rfl
@[simp] theorem State.modAout_hostFlows (s : State) (k : Nat) (f : AoutSt → AoutSt) : (s.modAout k f).hostFlows = s.hostFlows := rfl
@[simp] theorem State.modAout_ctxs (s : State) (k : Nat) (f : AoutSt → AoutSt) : (s.modAout k f).ctxs = s.ctxs := rfl
@[simp] theorem State.modAout_heads (s : State) (k : Nat) (f : AoutSt → AoutSt) : (s.modAout k f).heads = s.heads := rfl
@[simp] theorem State.modAout_layers (s : State) (k : Nat) (f : AoutSt → AoutSt) : (s.modAout k f).layers = s.layers := rfl
@[simp] theorem State.modAout_readback (s : State) (k : Nat) (f : AoutSt → AoutSt) : (s.modAout k f).readback = s.readback := rfl
@[simp] theorem State.modAout_culverts (s : State) (k : Nat) (f : AoutSt → AoutSt) : (s.modAout k f).culverts = s.culverts := rfl
@[simp] theorem State.modAout_dramStacks (s : State) (k : Nat) (f : AoutSt → AoutSt) : (s.modAout k f).dramStacks = s.dramStacks := rfl
@[simp] theorem State.modAout_rmem (s : State) (k : Nat) (f : AoutSt → AoutSt) : (s.modAout k f).rmem = s.rmem := rfl
@[simp] theorem State.modAout_dram (s : State) (k : Nat) (f : AoutSt → AoutSt) : (s.modAout k f).dram = s.dram := rfl
@[simp] theorem State.modAout_capStamps (s : State) (k : Nat) (f : AoutSt → AoutSt) : (s.modAout k f).capStamps = s.capStamps := rfl
@[simp] theorem State.modAout_remap (s : State) (k : Nat) (f : AoutSt → AoutSt) : (s.modAout k f).remap = s.remap := rfl
@[simp] theorem State.modAout_busReqs (s : State) (k : Nat) (f : AoutSt → AoutSt) : (s.modAout k f).busReqs = s.busReqs := rfl
@[simp] theorem State.modAout_gauges (s : State) (k : Nat) (f : AoutSt → AoutSt) : (s.modAout k f).gauges = s.gauges := rfl
@[simp] theorem State.modAout_thermal (s : State) (k : Nat) (f : AoutSt → AoutSt) : (s.modAout k f).thermal = s.thermal := rfl
@[simp] theorem State.modAout_image (s : State) (k : Nat) (f : AoutSt → AoutSt) : (s.modAout k f).image = s.image := rfl
@[simp] theorem State.modAout_saved (s : State) (k : Nat) (f : AoutSt → AoutSt) : (s.modAout k f).saved = s.saved := rfl
@[simp] theorem State.modAout_cal (s : State) (k : Nat) (f : AoutSt → AoutSt) : (s.modAout k f).cal = s.cal := rfl
@[simp] theorem State.modAout_svc (s : State) (k : Nat) (f : AoutSt → AoutSt) : (s.modAout k f).svc = s.svc := rfl
@[simp] theorem State.modAout_jtag (s : State) (k : Nat) (f : AoutSt → AoutSt) : (s.modAout k f).jtag = s.jtag := rfl
@[simp] theorem State.modAout_pending (s : State) (k : Nat) (f : AoutSt → AoutSt) : (s.modAout k f).pending = s.pending := rfl

@[simp] theorem State.modAport_time (s : State) (k : Nat) (f : AportSt → AportSt) : (s.modAport k f).time = s.time := rfl
@[simp] theorem State.modAport_freeCtr (s : State) (k : Nat) (f : AportSt → AportSt) : (s.modAport k f).freeCtr = s.freeCtr := rfl
@[simp] theorem State.modAport_out (s : State) (k : Nat) (f : AportSt → AportSt) : (s.modAport k f).out = s.out := rfl
@[simp] theorem State.modAport_pins (s : State) (k : Nat) (f : AportSt → AportSt) : (s.modAport k f).pins = s.pins := rfl
@[simp] theorem State.modAport_mode (s : State) (k : Nat) (f : AportSt → AportSt) : (s.modAport k f).mode = s.mode := rfl
@[simp] theorem State.modAport_rings (s : State) (k : Nat) (f : AportSt → AportSt) : (s.modAport k f).rings = s.rings := rfl
@[simp] theorem State.modAport_ints (s : State) (k : Nat) (f : AportSt → AportSt) : (s.modAport k f).ints = s.ints := rfl
@[simp] theorem State.modAport_events (s : State) (k : Nat) (f : AportSt → AportSt) : (s.modAport k f).events = s.events := rfl
@[simp] theorem State.modAport_storm (s : State) (k : Nat) (f : AportSt → AportSt) : (s.modAport k f).storm = s.storm := rfl
@[simp] theorem State.modAport_domains (s : State) (k : Nat) (f : AportSt → AportSt) : (s.modAport k f).domains = s.domains := rfl
@[simp] theorem State.modAport_openSets (s : State) (k : Nat) (f : AportSt → AportSt) : (s.modAport k f).openSets = s.openSets := rfl
@[simp] theorem State.modAport_parts (s : State) (k : Nat) (f : AportSt → AportSt) : (s.modAport k f).parts = s.parts := rfl
@[simp] theorem State.modAport_partSeq (s : State) (k : Nat) (f : AportSt → AportSt) : (s.modAport k f).partSeq = s.partSeq := rfl
@[simp] theorem State.modAport_fused (s : State) (k : Nat) (f : AportSt → AportSt) : (s.modAport k f).fused = s.fused := rfl
@[simp] theorem State.modAport_repair (s : State) (k : Nat) (f : AportSt → AportSt) : (s.modAport k f).repair = s.repair := rfl
@[simp] theorem State.modAport_counters (s : State) (k : Nat) (f : AportSt → AportSt) : (s.modAport k f).counters = s.counters := rfl
@[simp] theorem State.modAport_alarms (s : State) (k : Nat) (f : AportSt → AportSt) : (s.modAport k f).alarms = s.alarms := rfl
@[simp] theorem State.modAport_srcs (s : State) (k : Nat) (f : AportSt → AportSt) : (s.modAport k f).srcs = s.srcs := rfl
@[simp] theorem State.modAport_dsts (s : State) (k : Nat) (f : AportSt → AportSt) : (s.modAport k f).dsts = s.dsts := rfl
@[simp] theorem State.modAport_convs (s : State) (k : Nat) (f : AportSt → AportSt) : (s.modAport k f).convs = s.convs := rfl
@[simp] theorem State.modAport_ains (s : State) (k : Nat) (f : AportSt → AportSt) : (s.modAport k f).ains = s.ains := rfl
@[simp] theorem State.modAport_aouts (s : State) (k : Nat) (f : AportSt → AportSt) : (s.modAport k f).aouts = s.aouts := rfl
@[simp] theorem State.modAport_lanes (s : State) (k : Nat) (f : AportSt → AportSt) : (s.modAport k f).lanes = s.lanes := rfl
@[simp] theorem State.modAport_buses (s : State) (k : Nat) (f : AportSt → AportSt) : (s.modAport k f).buses = s.buses := rfl
@[simp] theorem State.modAport_ports (s : State) (k : Nat) (f : AportSt → AportSt) : (s.modAport k f).ports = s.ports := rfl
@[simp] theorem State.modAport_flows (s : State) (k : Nat) (f : AportSt → AportSt) : (s.modAport k f).flows = s.flows := rfl
@[simp] theorem State.modAport_queues (s : State) (k : Nat) (f : AportSt → AportSt) : (s.modAport k f).queues = s.queues := rfl
@[simp] theorem State.modAport_gates (s : State) (k : Nat) (f : AportSt → AportSt) : (s.modAport k f).gates = s.gates := rfl
@[simp] theorem State.modAport_planes (s : State) (k : Nat) (f : AportSt → AportSt) : (s.modAport k f).planes = s.planes := rfl
@[simp] theorem State.modAport_levee (s : State) (k : Nat) (f : AportSt → AportSt) : (s.modAport k f).levee = s.levee := rfl
@[simp] theorem State.modAport_refs (s : State) (k : Nat) (f : AportSt → AportSt) : (s.modAport k f).refs = s.refs := rfl
@[simp] theorem State.modAport_hg (s : State) (k : Nat) (f : AportSt → AportSt) : (s.modAport k f).hg = s.hg := rfl
@[simp] theorem State.modAport_caps (s : State) (k : Nat) (f : AportSt → AportSt) : (s.modAport k f).caps = s.caps := rfl
@[simp] theorem State.modAport_trigs (s : State) (k : Nat) (f : AportSt → AportSt) : (s.modAport k f).trigs = s.trigs := rfl
@[simp] theorem State.modAport_stems (s : State) (k : Nat) (f : AportSt → AportSt) : (s.modAport k f).stems = s.stems := rfl
@[simp] theorem State.modAport_rends (s : State) (k : Nat) (f : AportSt → AportSt) : (s.modAport k f).rends = s.rends := rfl
@[simp] theorem State.modAport_delivs (s : State) (k : Nat) (f : AportSt → AportSt) : (s.modAport k f).delivs = s.delivs := rfl
@[simp] theorem State.modAport_cores (s : State) (k : Nat) (f : AportSt → AportSt) : (s.modAport k f).cores = s.cores := rfl
@[simp] theorem State.modAport_riders (s : State) (k : Nat) (f : AportSt → AportSt) : (s.modAport k f).riders = s.riders := rfl
@[simp] theorem State.modAport_riderDev (s : State) (k : Nat) (f : AportSt → AportSt) : (s.modAport k f).riderDev = s.riderDev := rfl
@[simp] theorem State.modAport_jobs (s : State) (k : Nat) (f : AportSt → AportSt) : (s.modAport k f).jobs = s.jobs := rfl
@[simp] theorem State.modAport_jobSeq (s : State) (k : Nat) (f : AportSt → AportSt) : (s.modAport k f).jobSeq = s.jobSeq := rfl
@[simp] theorem State.modAport_hostFlows (s : State) (k : Nat) (f : AportSt → AportSt) : (s.modAport k f).hostFlows = s.hostFlows := rfl
@[simp] theorem State.modAport_ctxs (s : State) (k : Nat) (f : AportSt → AportSt) : (s.modAport k f).ctxs = s.ctxs := rfl
@[simp] theorem State.modAport_heads (s : State) (k : Nat) (f : AportSt → AportSt) : (s.modAport k f).heads = s.heads := rfl
@[simp] theorem State.modAport_layers (s : State) (k : Nat) (f : AportSt → AportSt) : (s.modAport k f).layers = s.layers := rfl
@[simp] theorem State.modAport_readback (s : State) (k : Nat) (f : AportSt → AportSt) : (s.modAport k f).readback = s.readback := rfl
@[simp] theorem State.modAport_culverts (s : State) (k : Nat) (f : AportSt → AportSt) : (s.modAport k f).culverts = s.culverts := rfl
@[simp] theorem State.modAport_dramStacks (s : State) (k : Nat) (f : AportSt → AportSt) : (s.modAport k f).dramStacks = s.dramStacks := rfl
@[simp] theorem State.modAport_rmem (s : State) (k : Nat) (f : AportSt → AportSt) : (s.modAport k f).rmem = s.rmem := rfl
@[simp] theorem State.modAport_dram (s : State) (k : Nat) (f : AportSt → AportSt) : (s.modAport k f).dram = s.dram := rfl
@[simp] theorem State.modAport_capStamps (s : State) (k : Nat) (f : AportSt → AportSt) : (s.modAport k f).capStamps = s.capStamps := rfl
@[simp] theorem State.modAport_remap (s : State) (k : Nat) (f : AportSt → AportSt) : (s.modAport k f).remap = s.remap := rfl
@[simp] theorem State.modAport_busReqs (s : State) (k : Nat) (f : AportSt → AportSt) : (s.modAport k f).busReqs = s.busReqs := rfl
@[simp] theorem State.modAport_gauges (s : State) (k : Nat) (f : AportSt → AportSt) : (s.modAport k f).gauges = s.gauges := rfl
@[simp] theorem State.modAport_thermal (s : State) (k : Nat) (f : AportSt → AportSt) : (s.modAport k f).thermal = s.thermal := rfl
@[simp] theorem State.modAport_image (s : State) (k : Nat) (f : AportSt → AportSt) : (s.modAport k f).image = s.image := rfl
@[simp] theorem State.modAport_saved (s : State) (k : Nat) (f : AportSt → AportSt) : (s.modAport k f).saved = s.saved := rfl
@[simp] theorem State.modAport_cal (s : State) (k : Nat) (f : AportSt → AportSt) : (s.modAport k f).cal = s.cal := rfl
@[simp] theorem State.modAport_svc (s : State) (k : Nat) (f : AportSt → AportSt) : (s.modAport k f).svc = s.svc := rfl
@[simp] theorem State.modAport_jtag (s : State) (k : Nat) (f : AportSt → AportSt) : (s.modAport k f).jtag = s.jtag := rfl
@[simp] theorem State.modAport_pending (s : State) (k : Nat) (f : AportSt → AportSt) : (s.modAport k f).pending = s.pending := rfl

@[simp] theorem State.modLane_time (s : State) (k : Nat) (f : LaneSt → LaneSt) : (s.modLane k f).time = s.time := rfl
@[simp] theorem State.modLane_freeCtr (s : State) (k : Nat) (f : LaneSt → LaneSt) : (s.modLane k f).freeCtr = s.freeCtr := rfl
@[simp] theorem State.modLane_out (s : State) (k : Nat) (f : LaneSt → LaneSt) : (s.modLane k f).out = s.out := rfl
@[simp] theorem State.modLane_pins (s : State) (k : Nat) (f : LaneSt → LaneSt) : (s.modLane k f).pins = s.pins := rfl
@[simp] theorem State.modLane_mode (s : State) (k : Nat) (f : LaneSt → LaneSt) : (s.modLane k f).mode = s.mode := rfl
@[simp] theorem State.modLane_rings (s : State) (k : Nat) (f : LaneSt → LaneSt) : (s.modLane k f).rings = s.rings := rfl
@[simp] theorem State.modLane_ints (s : State) (k : Nat) (f : LaneSt → LaneSt) : (s.modLane k f).ints = s.ints := rfl
@[simp] theorem State.modLane_events (s : State) (k : Nat) (f : LaneSt → LaneSt) : (s.modLane k f).events = s.events := rfl
@[simp] theorem State.modLane_storm (s : State) (k : Nat) (f : LaneSt → LaneSt) : (s.modLane k f).storm = s.storm := rfl
@[simp] theorem State.modLane_domains (s : State) (k : Nat) (f : LaneSt → LaneSt) : (s.modLane k f).domains = s.domains := rfl
@[simp] theorem State.modLane_openSets (s : State) (k : Nat) (f : LaneSt → LaneSt) : (s.modLane k f).openSets = s.openSets := rfl
@[simp] theorem State.modLane_parts (s : State) (k : Nat) (f : LaneSt → LaneSt) : (s.modLane k f).parts = s.parts := rfl
@[simp] theorem State.modLane_partSeq (s : State) (k : Nat) (f : LaneSt → LaneSt) : (s.modLane k f).partSeq = s.partSeq := rfl
@[simp] theorem State.modLane_fused (s : State) (k : Nat) (f : LaneSt → LaneSt) : (s.modLane k f).fused = s.fused := rfl
@[simp] theorem State.modLane_repair (s : State) (k : Nat) (f : LaneSt → LaneSt) : (s.modLane k f).repair = s.repair := rfl
@[simp] theorem State.modLane_counters (s : State) (k : Nat) (f : LaneSt → LaneSt) : (s.modLane k f).counters = s.counters := rfl
@[simp] theorem State.modLane_alarms (s : State) (k : Nat) (f : LaneSt → LaneSt) : (s.modLane k f).alarms = s.alarms := rfl
@[simp] theorem State.modLane_srcs (s : State) (k : Nat) (f : LaneSt → LaneSt) : (s.modLane k f).srcs = s.srcs := rfl
@[simp] theorem State.modLane_dsts (s : State) (k : Nat) (f : LaneSt → LaneSt) : (s.modLane k f).dsts = s.dsts := rfl
@[simp] theorem State.modLane_convs (s : State) (k : Nat) (f : LaneSt → LaneSt) : (s.modLane k f).convs = s.convs := rfl
@[simp] theorem State.modLane_ains (s : State) (k : Nat) (f : LaneSt → LaneSt) : (s.modLane k f).ains = s.ains := rfl
@[simp] theorem State.modLane_aouts (s : State) (k : Nat) (f : LaneSt → LaneSt) : (s.modLane k f).aouts = s.aouts := rfl
@[simp] theorem State.modLane_aports (s : State) (k : Nat) (f : LaneSt → LaneSt) : (s.modLane k f).aports = s.aports := rfl
@[simp] theorem State.modLane_buses (s : State) (k : Nat) (f : LaneSt → LaneSt) : (s.modLane k f).buses = s.buses := rfl
@[simp] theorem State.modLane_ports (s : State) (k : Nat) (f : LaneSt → LaneSt) : (s.modLane k f).ports = s.ports := rfl
@[simp] theorem State.modLane_flows (s : State) (k : Nat) (f : LaneSt → LaneSt) : (s.modLane k f).flows = s.flows := rfl
@[simp] theorem State.modLane_queues (s : State) (k : Nat) (f : LaneSt → LaneSt) : (s.modLane k f).queues = s.queues := rfl
@[simp] theorem State.modLane_gates (s : State) (k : Nat) (f : LaneSt → LaneSt) : (s.modLane k f).gates = s.gates := rfl
@[simp] theorem State.modLane_planes (s : State) (k : Nat) (f : LaneSt → LaneSt) : (s.modLane k f).planes = s.planes := rfl
@[simp] theorem State.modLane_levee (s : State) (k : Nat) (f : LaneSt → LaneSt) : (s.modLane k f).levee = s.levee := rfl
@[simp] theorem State.modLane_refs (s : State) (k : Nat) (f : LaneSt → LaneSt) : (s.modLane k f).refs = s.refs := rfl
@[simp] theorem State.modLane_hg (s : State) (k : Nat) (f : LaneSt → LaneSt) : (s.modLane k f).hg = s.hg := rfl
@[simp] theorem State.modLane_caps (s : State) (k : Nat) (f : LaneSt → LaneSt) : (s.modLane k f).caps = s.caps := rfl
@[simp] theorem State.modLane_trigs (s : State) (k : Nat) (f : LaneSt → LaneSt) : (s.modLane k f).trigs = s.trigs := rfl
@[simp] theorem State.modLane_stems (s : State) (k : Nat) (f : LaneSt → LaneSt) : (s.modLane k f).stems = s.stems := rfl
@[simp] theorem State.modLane_rends (s : State) (k : Nat) (f : LaneSt → LaneSt) : (s.modLane k f).rends = s.rends := rfl
@[simp] theorem State.modLane_delivs (s : State) (k : Nat) (f : LaneSt → LaneSt) : (s.modLane k f).delivs = s.delivs := rfl
@[simp] theorem State.modLane_cores (s : State) (k : Nat) (f : LaneSt → LaneSt) : (s.modLane k f).cores = s.cores := rfl
@[simp] theorem State.modLane_riders (s : State) (k : Nat) (f : LaneSt → LaneSt) : (s.modLane k f).riders = s.riders := rfl
@[simp] theorem State.modLane_riderDev (s : State) (k : Nat) (f : LaneSt → LaneSt) : (s.modLane k f).riderDev = s.riderDev := rfl
@[simp] theorem State.modLane_jobs (s : State) (k : Nat) (f : LaneSt → LaneSt) : (s.modLane k f).jobs = s.jobs := rfl
@[simp] theorem State.modLane_jobSeq (s : State) (k : Nat) (f : LaneSt → LaneSt) : (s.modLane k f).jobSeq = s.jobSeq := rfl
@[simp] theorem State.modLane_hostFlows (s : State) (k : Nat) (f : LaneSt → LaneSt) : (s.modLane k f).hostFlows = s.hostFlows := rfl
@[simp] theorem State.modLane_ctxs (s : State) (k : Nat) (f : LaneSt → LaneSt) : (s.modLane k f).ctxs = s.ctxs := rfl
@[simp] theorem State.modLane_heads (s : State) (k : Nat) (f : LaneSt → LaneSt) : (s.modLane k f).heads = s.heads := rfl
@[simp] theorem State.modLane_layers (s : State) (k : Nat) (f : LaneSt → LaneSt) : (s.modLane k f).layers = s.layers := rfl
@[simp] theorem State.modLane_readback (s : State) (k : Nat) (f : LaneSt → LaneSt) : (s.modLane k f).readback = s.readback := rfl
@[simp] theorem State.modLane_culverts (s : State) (k : Nat) (f : LaneSt → LaneSt) : (s.modLane k f).culverts = s.culverts := rfl
@[simp] theorem State.modLane_dramStacks (s : State) (k : Nat) (f : LaneSt → LaneSt) : (s.modLane k f).dramStacks = s.dramStacks := rfl
@[simp] theorem State.modLane_rmem (s : State) (k : Nat) (f : LaneSt → LaneSt) : (s.modLane k f).rmem = s.rmem := rfl
@[simp] theorem State.modLane_dram (s : State) (k : Nat) (f : LaneSt → LaneSt) : (s.modLane k f).dram = s.dram := rfl
@[simp] theorem State.modLane_capStamps (s : State) (k : Nat) (f : LaneSt → LaneSt) : (s.modLane k f).capStamps = s.capStamps := rfl
@[simp] theorem State.modLane_remap (s : State) (k : Nat) (f : LaneSt → LaneSt) : (s.modLane k f).remap = s.remap := rfl
@[simp] theorem State.modLane_busReqs (s : State) (k : Nat) (f : LaneSt → LaneSt) : (s.modLane k f).busReqs = s.busReqs := rfl
@[simp] theorem State.modLane_gauges (s : State) (k : Nat) (f : LaneSt → LaneSt) : (s.modLane k f).gauges = s.gauges := rfl
@[simp] theorem State.modLane_thermal (s : State) (k : Nat) (f : LaneSt → LaneSt) : (s.modLane k f).thermal = s.thermal := rfl
@[simp] theorem State.modLane_image (s : State) (k : Nat) (f : LaneSt → LaneSt) : (s.modLane k f).image = s.image := rfl
@[simp] theorem State.modLane_saved (s : State) (k : Nat) (f : LaneSt → LaneSt) : (s.modLane k f).saved = s.saved := rfl
@[simp] theorem State.modLane_cal (s : State) (k : Nat) (f : LaneSt → LaneSt) : (s.modLane k f).cal = s.cal := rfl
@[simp] theorem State.modLane_svc (s : State) (k : Nat) (f : LaneSt → LaneSt) : (s.modLane k f).svc = s.svc := rfl
@[simp] theorem State.modLane_jtag (s : State) (k : Nat) (f : LaneSt → LaneSt) : (s.modLane k f).jtag = s.jtag := rfl
@[simp] theorem State.modLane_pending (s : State) (k : Nat) (f : LaneSt → LaneSt) : (s.modLane k f).pending = s.pending := rfl

@[simp] theorem State.modPort_time (s : State) (k : Nat) (f : PortSt → PortSt) : (s.modPort k f).time = s.time := rfl
@[simp] theorem State.modPort_freeCtr (s : State) (k : Nat) (f : PortSt → PortSt) : (s.modPort k f).freeCtr = s.freeCtr := rfl
@[simp] theorem State.modPort_out (s : State) (k : Nat) (f : PortSt → PortSt) : (s.modPort k f).out = s.out := rfl
@[simp] theorem State.modPort_pins (s : State) (k : Nat) (f : PortSt → PortSt) : (s.modPort k f).pins = s.pins := rfl
@[simp] theorem State.modPort_mode (s : State) (k : Nat) (f : PortSt → PortSt) : (s.modPort k f).mode = s.mode := rfl
@[simp] theorem State.modPort_rings (s : State) (k : Nat) (f : PortSt → PortSt) : (s.modPort k f).rings = s.rings := rfl
@[simp] theorem State.modPort_ints (s : State) (k : Nat) (f : PortSt → PortSt) : (s.modPort k f).ints = s.ints := rfl
@[simp] theorem State.modPort_events (s : State) (k : Nat) (f : PortSt → PortSt) : (s.modPort k f).events = s.events := rfl
@[simp] theorem State.modPort_storm (s : State) (k : Nat) (f : PortSt → PortSt) : (s.modPort k f).storm = s.storm := rfl
@[simp] theorem State.modPort_domains (s : State) (k : Nat) (f : PortSt → PortSt) : (s.modPort k f).domains = s.domains := rfl
@[simp] theorem State.modPort_openSets (s : State) (k : Nat) (f : PortSt → PortSt) : (s.modPort k f).openSets = s.openSets := rfl
@[simp] theorem State.modPort_parts (s : State) (k : Nat) (f : PortSt → PortSt) : (s.modPort k f).parts = s.parts := rfl
@[simp] theorem State.modPort_partSeq (s : State) (k : Nat) (f : PortSt → PortSt) : (s.modPort k f).partSeq = s.partSeq := rfl
@[simp] theorem State.modPort_fused (s : State) (k : Nat) (f : PortSt → PortSt) : (s.modPort k f).fused = s.fused := rfl
@[simp] theorem State.modPort_repair (s : State) (k : Nat) (f : PortSt → PortSt) : (s.modPort k f).repair = s.repair := rfl
@[simp] theorem State.modPort_counters (s : State) (k : Nat) (f : PortSt → PortSt) : (s.modPort k f).counters = s.counters := rfl
@[simp] theorem State.modPort_alarms (s : State) (k : Nat) (f : PortSt → PortSt) : (s.modPort k f).alarms = s.alarms := rfl
@[simp] theorem State.modPort_srcs (s : State) (k : Nat) (f : PortSt → PortSt) : (s.modPort k f).srcs = s.srcs := rfl
@[simp] theorem State.modPort_dsts (s : State) (k : Nat) (f : PortSt → PortSt) : (s.modPort k f).dsts = s.dsts := rfl
@[simp] theorem State.modPort_convs (s : State) (k : Nat) (f : PortSt → PortSt) : (s.modPort k f).convs = s.convs := rfl
@[simp] theorem State.modPort_ains (s : State) (k : Nat) (f : PortSt → PortSt) : (s.modPort k f).ains = s.ains := rfl
@[simp] theorem State.modPort_aouts (s : State) (k : Nat) (f : PortSt → PortSt) : (s.modPort k f).aouts = s.aouts := rfl
@[simp] theorem State.modPort_aports (s : State) (k : Nat) (f : PortSt → PortSt) : (s.modPort k f).aports = s.aports := rfl
@[simp] theorem State.modPort_lanes (s : State) (k : Nat) (f : PortSt → PortSt) : (s.modPort k f).lanes = s.lanes := rfl
@[simp] theorem State.modPort_buses (s : State) (k : Nat) (f : PortSt → PortSt) : (s.modPort k f).buses = s.buses := rfl
@[simp] theorem State.modPort_flows (s : State) (k : Nat) (f : PortSt → PortSt) : (s.modPort k f).flows = s.flows := rfl
@[simp] theorem State.modPort_queues (s : State) (k : Nat) (f : PortSt → PortSt) : (s.modPort k f).queues = s.queues := rfl
@[simp] theorem State.modPort_gates (s : State) (k : Nat) (f : PortSt → PortSt) : (s.modPort k f).gates = s.gates := rfl
@[simp] theorem State.modPort_planes (s : State) (k : Nat) (f : PortSt → PortSt) : (s.modPort k f).planes = s.planes := rfl
@[simp] theorem State.modPort_levee (s : State) (k : Nat) (f : PortSt → PortSt) : (s.modPort k f).levee = s.levee := rfl
@[simp] theorem State.modPort_refs (s : State) (k : Nat) (f : PortSt → PortSt) : (s.modPort k f).refs = s.refs := rfl
@[simp] theorem State.modPort_hg (s : State) (k : Nat) (f : PortSt → PortSt) : (s.modPort k f).hg = s.hg := rfl
@[simp] theorem State.modPort_caps (s : State) (k : Nat) (f : PortSt → PortSt) : (s.modPort k f).caps = s.caps := rfl
@[simp] theorem State.modPort_trigs (s : State) (k : Nat) (f : PortSt → PortSt) : (s.modPort k f).trigs = s.trigs := rfl
@[simp] theorem State.modPort_stems (s : State) (k : Nat) (f : PortSt → PortSt) : (s.modPort k f).stems = s.stems := rfl
@[simp] theorem State.modPort_rends (s : State) (k : Nat) (f : PortSt → PortSt) : (s.modPort k f).rends = s.rends := rfl
@[simp] theorem State.modPort_delivs (s : State) (k : Nat) (f : PortSt → PortSt) : (s.modPort k f).delivs = s.delivs := rfl
@[simp] theorem State.modPort_cores (s : State) (k : Nat) (f : PortSt → PortSt) : (s.modPort k f).cores = s.cores := rfl
@[simp] theorem State.modPort_riders (s : State) (k : Nat) (f : PortSt → PortSt) : (s.modPort k f).riders = s.riders := rfl
@[simp] theorem State.modPort_riderDev (s : State) (k : Nat) (f : PortSt → PortSt) : (s.modPort k f).riderDev = s.riderDev := rfl
@[simp] theorem State.modPort_jobs (s : State) (k : Nat) (f : PortSt → PortSt) : (s.modPort k f).jobs = s.jobs := rfl
@[simp] theorem State.modPort_jobSeq (s : State) (k : Nat) (f : PortSt → PortSt) : (s.modPort k f).jobSeq = s.jobSeq := rfl
@[simp] theorem State.modPort_hostFlows (s : State) (k : Nat) (f : PortSt → PortSt) : (s.modPort k f).hostFlows = s.hostFlows := rfl
@[simp] theorem State.modPort_ctxs (s : State) (k : Nat) (f : PortSt → PortSt) : (s.modPort k f).ctxs = s.ctxs := rfl
@[simp] theorem State.modPort_heads (s : State) (k : Nat) (f : PortSt → PortSt) : (s.modPort k f).heads = s.heads := rfl
@[simp] theorem State.modPort_layers (s : State) (k : Nat) (f : PortSt → PortSt) : (s.modPort k f).layers = s.layers := rfl
@[simp] theorem State.modPort_readback (s : State) (k : Nat) (f : PortSt → PortSt) : (s.modPort k f).readback = s.readback := rfl
@[simp] theorem State.modPort_culverts (s : State) (k : Nat) (f : PortSt → PortSt) : (s.modPort k f).culverts = s.culverts := rfl
@[simp] theorem State.modPort_dramStacks (s : State) (k : Nat) (f : PortSt → PortSt) : (s.modPort k f).dramStacks = s.dramStacks := rfl
@[simp] theorem State.modPort_rmem (s : State) (k : Nat) (f : PortSt → PortSt) : (s.modPort k f).rmem = s.rmem := rfl
@[simp] theorem State.modPort_dram (s : State) (k : Nat) (f : PortSt → PortSt) : (s.modPort k f).dram = s.dram := rfl
@[simp] theorem State.modPort_capStamps (s : State) (k : Nat) (f : PortSt → PortSt) : (s.modPort k f).capStamps = s.capStamps := rfl
@[simp] theorem State.modPort_remap (s : State) (k : Nat) (f : PortSt → PortSt) : (s.modPort k f).remap = s.remap := rfl
@[simp] theorem State.modPort_busReqs (s : State) (k : Nat) (f : PortSt → PortSt) : (s.modPort k f).busReqs = s.busReqs := rfl
@[simp] theorem State.modPort_gauges (s : State) (k : Nat) (f : PortSt → PortSt) : (s.modPort k f).gauges = s.gauges := rfl
@[simp] theorem State.modPort_thermal (s : State) (k : Nat) (f : PortSt → PortSt) : (s.modPort k f).thermal = s.thermal := rfl
@[simp] theorem State.modPort_image (s : State) (k : Nat) (f : PortSt → PortSt) : (s.modPort k f).image = s.image := rfl
@[simp] theorem State.modPort_saved (s : State) (k : Nat) (f : PortSt → PortSt) : (s.modPort k f).saved = s.saved := rfl
@[simp] theorem State.modPort_cal (s : State) (k : Nat) (f : PortSt → PortSt) : (s.modPort k f).cal = s.cal := rfl
@[simp] theorem State.modPort_svc (s : State) (k : Nat) (f : PortSt → PortSt) : (s.modPort k f).svc = s.svc := rfl
@[simp] theorem State.modPort_jtag (s : State) (k : Nat) (f : PortSt → PortSt) : (s.modPort k f).jtag = s.jtag := rfl
@[simp] theorem State.modPort_pending (s : State) (k : Nat) (f : PortSt → PortSt) : (s.modPort k f).pending = s.pending := rfl

@[simp] theorem State.modFlow_time (s : State) (k : Nat) (f : FlowSt → FlowSt) : (s.modFlow k f).time = s.time := rfl
@[simp] theorem State.modFlow_freeCtr (s : State) (k : Nat) (f : FlowSt → FlowSt) : (s.modFlow k f).freeCtr = s.freeCtr := rfl
@[simp] theorem State.modFlow_out (s : State) (k : Nat) (f : FlowSt → FlowSt) : (s.modFlow k f).out = s.out := rfl
@[simp] theorem State.modFlow_pins (s : State) (k : Nat) (f : FlowSt → FlowSt) : (s.modFlow k f).pins = s.pins := rfl
@[simp] theorem State.modFlow_mode (s : State) (k : Nat) (f : FlowSt → FlowSt) : (s.modFlow k f).mode = s.mode := rfl
@[simp] theorem State.modFlow_rings (s : State) (k : Nat) (f : FlowSt → FlowSt) : (s.modFlow k f).rings = s.rings := rfl
@[simp] theorem State.modFlow_ints (s : State) (k : Nat) (f : FlowSt → FlowSt) : (s.modFlow k f).ints = s.ints := rfl
@[simp] theorem State.modFlow_events (s : State) (k : Nat) (f : FlowSt → FlowSt) : (s.modFlow k f).events = s.events := rfl
@[simp] theorem State.modFlow_storm (s : State) (k : Nat) (f : FlowSt → FlowSt) : (s.modFlow k f).storm = s.storm := rfl
@[simp] theorem State.modFlow_domains (s : State) (k : Nat) (f : FlowSt → FlowSt) : (s.modFlow k f).domains = s.domains := rfl
@[simp] theorem State.modFlow_openSets (s : State) (k : Nat) (f : FlowSt → FlowSt) : (s.modFlow k f).openSets = s.openSets := rfl
@[simp] theorem State.modFlow_parts (s : State) (k : Nat) (f : FlowSt → FlowSt) : (s.modFlow k f).parts = s.parts := rfl
@[simp] theorem State.modFlow_partSeq (s : State) (k : Nat) (f : FlowSt → FlowSt) : (s.modFlow k f).partSeq = s.partSeq := rfl
@[simp] theorem State.modFlow_fused (s : State) (k : Nat) (f : FlowSt → FlowSt) : (s.modFlow k f).fused = s.fused := rfl
@[simp] theorem State.modFlow_repair (s : State) (k : Nat) (f : FlowSt → FlowSt) : (s.modFlow k f).repair = s.repair := rfl
@[simp] theorem State.modFlow_counters (s : State) (k : Nat) (f : FlowSt → FlowSt) : (s.modFlow k f).counters = s.counters := rfl
@[simp] theorem State.modFlow_alarms (s : State) (k : Nat) (f : FlowSt → FlowSt) : (s.modFlow k f).alarms = s.alarms := rfl
@[simp] theorem State.modFlow_srcs (s : State) (k : Nat) (f : FlowSt → FlowSt) : (s.modFlow k f).srcs = s.srcs := rfl
@[simp] theorem State.modFlow_dsts (s : State) (k : Nat) (f : FlowSt → FlowSt) : (s.modFlow k f).dsts = s.dsts := rfl
@[simp] theorem State.modFlow_convs (s : State) (k : Nat) (f : FlowSt → FlowSt) : (s.modFlow k f).convs = s.convs := rfl
@[simp] theorem State.modFlow_ains (s : State) (k : Nat) (f : FlowSt → FlowSt) : (s.modFlow k f).ains = s.ains := rfl
@[simp] theorem State.modFlow_aouts (s : State) (k : Nat) (f : FlowSt → FlowSt) : (s.modFlow k f).aouts = s.aouts := rfl
@[simp] theorem State.modFlow_aports (s : State) (k : Nat) (f : FlowSt → FlowSt) : (s.modFlow k f).aports = s.aports := rfl
@[simp] theorem State.modFlow_lanes (s : State) (k : Nat) (f : FlowSt → FlowSt) : (s.modFlow k f).lanes = s.lanes := rfl
@[simp] theorem State.modFlow_buses (s : State) (k : Nat) (f : FlowSt → FlowSt) : (s.modFlow k f).buses = s.buses := rfl
@[simp] theorem State.modFlow_ports (s : State) (k : Nat) (f : FlowSt → FlowSt) : (s.modFlow k f).ports = s.ports := rfl
@[simp] theorem State.modFlow_queues (s : State) (k : Nat) (f : FlowSt → FlowSt) : (s.modFlow k f).queues = s.queues := rfl
@[simp] theorem State.modFlow_gates (s : State) (k : Nat) (f : FlowSt → FlowSt) : (s.modFlow k f).gates = s.gates := rfl
@[simp] theorem State.modFlow_planes (s : State) (k : Nat) (f : FlowSt → FlowSt) : (s.modFlow k f).planes = s.planes := rfl
@[simp] theorem State.modFlow_levee (s : State) (k : Nat) (f : FlowSt → FlowSt) : (s.modFlow k f).levee = s.levee := rfl
@[simp] theorem State.modFlow_refs (s : State) (k : Nat) (f : FlowSt → FlowSt) : (s.modFlow k f).refs = s.refs := rfl
@[simp] theorem State.modFlow_hg (s : State) (k : Nat) (f : FlowSt → FlowSt) : (s.modFlow k f).hg = s.hg := rfl
@[simp] theorem State.modFlow_caps (s : State) (k : Nat) (f : FlowSt → FlowSt) : (s.modFlow k f).caps = s.caps := rfl
@[simp] theorem State.modFlow_trigs (s : State) (k : Nat) (f : FlowSt → FlowSt) : (s.modFlow k f).trigs = s.trigs := rfl
@[simp] theorem State.modFlow_stems (s : State) (k : Nat) (f : FlowSt → FlowSt) : (s.modFlow k f).stems = s.stems := rfl
@[simp] theorem State.modFlow_rends (s : State) (k : Nat) (f : FlowSt → FlowSt) : (s.modFlow k f).rends = s.rends := rfl
@[simp] theorem State.modFlow_delivs (s : State) (k : Nat) (f : FlowSt → FlowSt) : (s.modFlow k f).delivs = s.delivs := rfl
@[simp] theorem State.modFlow_cores (s : State) (k : Nat) (f : FlowSt → FlowSt) : (s.modFlow k f).cores = s.cores := rfl
@[simp] theorem State.modFlow_riders (s : State) (k : Nat) (f : FlowSt → FlowSt) : (s.modFlow k f).riders = s.riders := rfl
@[simp] theorem State.modFlow_riderDev (s : State) (k : Nat) (f : FlowSt → FlowSt) : (s.modFlow k f).riderDev = s.riderDev := rfl
@[simp] theorem State.modFlow_jobs (s : State) (k : Nat) (f : FlowSt → FlowSt) : (s.modFlow k f).jobs = s.jobs := rfl
@[simp] theorem State.modFlow_jobSeq (s : State) (k : Nat) (f : FlowSt → FlowSt) : (s.modFlow k f).jobSeq = s.jobSeq := rfl
@[simp] theorem State.modFlow_hostFlows (s : State) (k : Nat) (f : FlowSt → FlowSt) : (s.modFlow k f).hostFlows = s.hostFlows := rfl
@[simp] theorem State.modFlow_ctxs (s : State) (k : Nat) (f : FlowSt → FlowSt) : (s.modFlow k f).ctxs = s.ctxs := rfl
@[simp] theorem State.modFlow_heads (s : State) (k : Nat) (f : FlowSt → FlowSt) : (s.modFlow k f).heads = s.heads := rfl
@[simp] theorem State.modFlow_layers (s : State) (k : Nat) (f : FlowSt → FlowSt) : (s.modFlow k f).layers = s.layers := rfl
@[simp] theorem State.modFlow_readback (s : State) (k : Nat) (f : FlowSt → FlowSt) : (s.modFlow k f).readback = s.readback := rfl
@[simp] theorem State.modFlow_culverts (s : State) (k : Nat) (f : FlowSt → FlowSt) : (s.modFlow k f).culverts = s.culverts := rfl
@[simp] theorem State.modFlow_dramStacks (s : State) (k : Nat) (f : FlowSt → FlowSt) : (s.modFlow k f).dramStacks = s.dramStacks := rfl
@[simp] theorem State.modFlow_rmem (s : State) (k : Nat) (f : FlowSt → FlowSt) : (s.modFlow k f).rmem = s.rmem := rfl
@[simp] theorem State.modFlow_dram (s : State) (k : Nat) (f : FlowSt → FlowSt) : (s.modFlow k f).dram = s.dram := rfl
@[simp] theorem State.modFlow_capStamps (s : State) (k : Nat) (f : FlowSt → FlowSt) : (s.modFlow k f).capStamps = s.capStamps := rfl
@[simp] theorem State.modFlow_remap (s : State) (k : Nat) (f : FlowSt → FlowSt) : (s.modFlow k f).remap = s.remap := rfl
@[simp] theorem State.modFlow_busReqs (s : State) (k : Nat) (f : FlowSt → FlowSt) : (s.modFlow k f).busReqs = s.busReqs := rfl
@[simp] theorem State.modFlow_gauges (s : State) (k : Nat) (f : FlowSt → FlowSt) : (s.modFlow k f).gauges = s.gauges := rfl
@[simp] theorem State.modFlow_thermal (s : State) (k : Nat) (f : FlowSt → FlowSt) : (s.modFlow k f).thermal = s.thermal := rfl
@[simp] theorem State.modFlow_image (s : State) (k : Nat) (f : FlowSt → FlowSt) : (s.modFlow k f).image = s.image := rfl
@[simp] theorem State.modFlow_saved (s : State) (k : Nat) (f : FlowSt → FlowSt) : (s.modFlow k f).saved = s.saved := rfl
@[simp] theorem State.modFlow_cal (s : State) (k : Nat) (f : FlowSt → FlowSt) : (s.modFlow k f).cal = s.cal := rfl
@[simp] theorem State.modFlow_svc (s : State) (k : Nat) (f : FlowSt → FlowSt) : (s.modFlow k f).svc = s.svc := rfl
@[simp] theorem State.modFlow_jtag (s : State) (k : Nat) (f : FlowSt → FlowSt) : (s.modFlow k f).jtag = s.jtag := rfl
@[simp] theorem State.modFlow_pending (s : State) (k : Nat) (f : FlowSt → FlowSt) : (s.modFlow k f).pending = s.pending := rfl

@[simp] theorem State.modQueue_time (s : State) (k : Nat) (f : QueueSt → QueueSt) : (s.modQueue k f).time = s.time := rfl
@[simp] theorem State.modQueue_freeCtr (s : State) (k : Nat) (f : QueueSt → QueueSt) : (s.modQueue k f).freeCtr = s.freeCtr := rfl
@[simp] theorem State.modQueue_out (s : State) (k : Nat) (f : QueueSt → QueueSt) : (s.modQueue k f).out = s.out := rfl
@[simp] theorem State.modQueue_pins (s : State) (k : Nat) (f : QueueSt → QueueSt) : (s.modQueue k f).pins = s.pins := rfl
@[simp] theorem State.modQueue_mode (s : State) (k : Nat) (f : QueueSt → QueueSt) : (s.modQueue k f).mode = s.mode := rfl
@[simp] theorem State.modQueue_rings (s : State) (k : Nat) (f : QueueSt → QueueSt) : (s.modQueue k f).rings = s.rings := rfl
@[simp] theorem State.modQueue_ints (s : State) (k : Nat) (f : QueueSt → QueueSt) : (s.modQueue k f).ints = s.ints := rfl
@[simp] theorem State.modQueue_events (s : State) (k : Nat) (f : QueueSt → QueueSt) : (s.modQueue k f).events = s.events := rfl
@[simp] theorem State.modQueue_storm (s : State) (k : Nat) (f : QueueSt → QueueSt) : (s.modQueue k f).storm = s.storm := rfl
@[simp] theorem State.modQueue_domains (s : State) (k : Nat) (f : QueueSt → QueueSt) : (s.modQueue k f).domains = s.domains := rfl
@[simp] theorem State.modQueue_openSets (s : State) (k : Nat) (f : QueueSt → QueueSt) : (s.modQueue k f).openSets = s.openSets := rfl
@[simp] theorem State.modQueue_parts (s : State) (k : Nat) (f : QueueSt → QueueSt) : (s.modQueue k f).parts = s.parts := rfl
@[simp] theorem State.modQueue_partSeq (s : State) (k : Nat) (f : QueueSt → QueueSt) : (s.modQueue k f).partSeq = s.partSeq := rfl
@[simp] theorem State.modQueue_fused (s : State) (k : Nat) (f : QueueSt → QueueSt) : (s.modQueue k f).fused = s.fused := rfl
@[simp] theorem State.modQueue_repair (s : State) (k : Nat) (f : QueueSt → QueueSt) : (s.modQueue k f).repair = s.repair := rfl
@[simp] theorem State.modQueue_counters (s : State) (k : Nat) (f : QueueSt → QueueSt) : (s.modQueue k f).counters = s.counters := rfl
@[simp] theorem State.modQueue_alarms (s : State) (k : Nat) (f : QueueSt → QueueSt) : (s.modQueue k f).alarms = s.alarms := rfl
@[simp] theorem State.modQueue_srcs (s : State) (k : Nat) (f : QueueSt → QueueSt) : (s.modQueue k f).srcs = s.srcs := rfl
@[simp] theorem State.modQueue_dsts (s : State) (k : Nat) (f : QueueSt → QueueSt) : (s.modQueue k f).dsts = s.dsts := rfl
@[simp] theorem State.modQueue_convs (s : State) (k : Nat) (f : QueueSt → QueueSt) : (s.modQueue k f).convs = s.convs := rfl
@[simp] theorem State.modQueue_ains (s : State) (k : Nat) (f : QueueSt → QueueSt) : (s.modQueue k f).ains = s.ains := rfl
@[simp] theorem State.modQueue_aouts (s : State) (k : Nat) (f : QueueSt → QueueSt) : (s.modQueue k f).aouts = s.aouts := rfl
@[simp] theorem State.modQueue_aports (s : State) (k : Nat) (f : QueueSt → QueueSt) : (s.modQueue k f).aports = s.aports := rfl
@[simp] theorem State.modQueue_lanes (s : State) (k : Nat) (f : QueueSt → QueueSt) : (s.modQueue k f).lanes = s.lanes := rfl
@[simp] theorem State.modQueue_buses (s : State) (k : Nat) (f : QueueSt → QueueSt) : (s.modQueue k f).buses = s.buses := rfl
@[simp] theorem State.modQueue_ports (s : State) (k : Nat) (f : QueueSt → QueueSt) : (s.modQueue k f).ports = s.ports := rfl
@[simp] theorem State.modQueue_flows (s : State) (k : Nat) (f : QueueSt → QueueSt) : (s.modQueue k f).flows = s.flows := rfl
@[simp] theorem State.modQueue_gates (s : State) (k : Nat) (f : QueueSt → QueueSt) : (s.modQueue k f).gates = s.gates := rfl
@[simp] theorem State.modQueue_planes (s : State) (k : Nat) (f : QueueSt → QueueSt) : (s.modQueue k f).planes = s.planes := rfl
@[simp] theorem State.modQueue_levee (s : State) (k : Nat) (f : QueueSt → QueueSt) : (s.modQueue k f).levee = s.levee := rfl
@[simp] theorem State.modQueue_refs (s : State) (k : Nat) (f : QueueSt → QueueSt) : (s.modQueue k f).refs = s.refs := rfl
@[simp] theorem State.modQueue_hg (s : State) (k : Nat) (f : QueueSt → QueueSt) : (s.modQueue k f).hg = s.hg := rfl
@[simp] theorem State.modQueue_caps (s : State) (k : Nat) (f : QueueSt → QueueSt) : (s.modQueue k f).caps = s.caps := rfl
@[simp] theorem State.modQueue_trigs (s : State) (k : Nat) (f : QueueSt → QueueSt) : (s.modQueue k f).trigs = s.trigs := rfl
@[simp] theorem State.modQueue_stems (s : State) (k : Nat) (f : QueueSt → QueueSt) : (s.modQueue k f).stems = s.stems := rfl
@[simp] theorem State.modQueue_rends (s : State) (k : Nat) (f : QueueSt → QueueSt) : (s.modQueue k f).rends = s.rends := rfl
@[simp] theorem State.modQueue_delivs (s : State) (k : Nat) (f : QueueSt → QueueSt) : (s.modQueue k f).delivs = s.delivs := rfl
@[simp] theorem State.modQueue_cores (s : State) (k : Nat) (f : QueueSt → QueueSt) : (s.modQueue k f).cores = s.cores := rfl
@[simp] theorem State.modQueue_riders (s : State) (k : Nat) (f : QueueSt → QueueSt) : (s.modQueue k f).riders = s.riders := rfl
@[simp] theorem State.modQueue_riderDev (s : State) (k : Nat) (f : QueueSt → QueueSt) : (s.modQueue k f).riderDev = s.riderDev := rfl
@[simp] theorem State.modQueue_jobs (s : State) (k : Nat) (f : QueueSt → QueueSt) : (s.modQueue k f).jobs = s.jobs := rfl
@[simp] theorem State.modQueue_jobSeq (s : State) (k : Nat) (f : QueueSt → QueueSt) : (s.modQueue k f).jobSeq = s.jobSeq := rfl
@[simp] theorem State.modQueue_hostFlows (s : State) (k : Nat) (f : QueueSt → QueueSt) : (s.modQueue k f).hostFlows = s.hostFlows := rfl
@[simp] theorem State.modQueue_ctxs (s : State) (k : Nat) (f : QueueSt → QueueSt) : (s.modQueue k f).ctxs = s.ctxs := rfl
@[simp] theorem State.modQueue_heads (s : State) (k : Nat) (f : QueueSt → QueueSt) : (s.modQueue k f).heads = s.heads := rfl
@[simp] theorem State.modQueue_layers (s : State) (k : Nat) (f : QueueSt → QueueSt) : (s.modQueue k f).layers = s.layers := rfl
@[simp] theorem State.modQueue_readback (s : State) (k : Nat) (f : QueueSt → QueueSt) : (s.modQueue k f).readback = s.readback := rfl
@[simp] theorem State.modQueue_culverts (s : State) (k : Nat) (f : QueueSt → QueueSt) : (s.modQueue k f).culverts = s.culverts := rfl
@[simp] theorem State.modQueue_dramStacks (s : State) (k : Nat) (f : QueueSt → QueueSt) : (s.modQueue k f).dramStacks = s.dramStacks := rfl
@[simp] theorem State.modQueue_rmem (s : State) (k : Nat) (f : QueueSt → QueueSt) : (s.modQueue k f).rmem = s.rmem := rfl
@[simp] theorem State.modQueue_dram (s : State) (k : Nat) (f : QueueSt → QueueSt) : (s.modQueue k f).dram = s.dram := rfl
@[simp] theorem State.modQueue_capStamps (s : State) (k : Nat) (f : QueueSt → QueueSt) : (s.modQueue k f).capStamps = s.capStamps := rfl
@[simp] theorem State.modQueue_remap (s : State) (k : Nat) (f : QueueSt → QueueSt) : (s.modQueue k f).remap = s.remap := rfl
@[simp] theorem State.modQueue_busReqs (s : State) (k : Nat) (f : QueueSt → QueueSt) : (s.modQueue k f).busReqs = s.busReqs := rfl
@[simp] theorem State.modQueue_gauges (s : State) (k : Nat) (f : QueueSt → QueueSt) : (s.modQueue k f).gauges = s.gauges := rfl
@[simp] theorem State.modQueue_thermal (s : State) (k : Nat) (f : QueueSt → QueueSt) : (s.modQueue k f).thermal = s.thermal := rfl
@[simp] theorem State.modQueue_image (s : State) (k : Nat) (f : QueueSt → QueueSt) : (s.modQueue k f).image = s.image := rfl
@[simp] theorem State.modQueue_saved (s : State) (k : Nat) (f : QueueSt → QueueSt) : (s.modQueue k f).saved = s.saved := rfl
@[simp] theorem State.modQueue_cal (s : State) (k : Nat) (f : QueueSt → QueueSt) : (s.modQueue k f).cal = s.cal := rfl
@[simp] theorem State.modQueue_svc (s : State) (k : Nat) (f : QueueSt → QueueSt) : (s.modQueue k f).svc = s.svc := rfl
@[simp] theorem State.modQueue_jtag (s : State) (k : Nat) (f : QueueSt → QueueSt) : (s.modQueue k f).jtag = s.jtag := rfl
@[simp] theorem State.modQueue_pending (s : State) (k : Nat) (f : QueueSt → QueueSt) : (s.modQueue k f).pending = s.pending := rfl

@[simp] theorem State.modGate_time (s : State) (k : Nat) (f : GateSt → GateSt) : (s.modGate k f).time = s.time := rfl
@[simp] theorem State.modGate_freeCtr (s : State) (k : Nat) (f : GateSt → GateSt) : (s.modGate k f).freeCtr = s.freeCtr := rfl
@[simp] theorem State.modGate_out (s : State) (k : Nat) (f : GateSt → GateSt) : (s.modGate k f).out = s.out := rfl
@[simp] theorem State.modGate_pins (s : State) (k : Nat) (f : GateSt → GateSt) : (s.modGate k f).pins = s.pins := rfl
@[simp] theorem State.modGate_mode (s : State) (k : Nat) (f : GateSt → GateSt) : (s.modGate k f).mode = s.mode := rfl
@[simp] theorem State.modGate_rings (s : State) (k : Nat) (f : GateSt → GateSt) : (s.modGate k f).rings = s.rings := rfl
@[simp] theorem State.modGate_ints (s : State) (k : Nat) (f : GateSt → GateSt) : (s.modGate k f).ints = s.ints := rfl
@[simp] theorem State.modGate_events (s : State) (k : Nat) (f : GateSt → GateSt) : (s.modGate k f).events = s.events := rfl
@[simp] theorem State.modGate_storm (s : State) (k : Nat) (f : GateSt → GateSt) : (s.modGate k f).storm = s.storm := rfl
@[simp] theorem State.modGate_domains (s : State) (k : Nat) (f : GateSt → GateSt) : (s.modGate k f).domains = s.domains := rfl
@[simp] theorem State.modGate_openSets (s : State) (k : Nat) (f : GateSt → GateSt) : (s.modGate k f).openSets = s.openSets := rfl
@[simp] theorem State.modGate_parts (s : State) (k : Nat) (f : GateSt → GateSt) : (s.modGate k f).parts = s.parts := rfl
@[simp] theorem State.modGate_partSeq (s : State) (k : Nat) (f : GateSt → GateSt) : (s.modGate k f).partSeq = s.partSeq := rfl
@[simp] theorem State.modGate_fused (s : State) (k : Nat) (f : GateSt → GateSt) : (s.modGate k f).fused = s.fused := rfl
@[simp] theorem State.modGate_repair (s : State) (k : Nat) (f : GateSt → GateSt) : (s.modGate k f).repair = s.repair := rfl
@[simp] theorem State.modGate_counters (s : State) (k : Nat) (f : GateSt → GateSt) : (s.modGate k f).counters = s.counters := rfl
@[simp] theorem State.modGate_alarms (s : State) (k : Nat) (f : GateSt → GateSt) : (s.modGate k f).alarms = s.alarms := rfl
@[simp] theorem State.modGate_srcs (s : State) (k : Nat) (f : GateSt → GateSt) : (s.modGate k f).srcs = s.srcs := rfl
@[simp] theorem State.modGate_dsts (s : State) (k : Nat) (f : GateSt → GateSt) : (s.modGate k f).dsts = s.dsts := rfl
@[simp] theorem State.modGate_convs (s : State) (k : Nat) (f : GateSt → GateSt) : (s.modGate k f).convs = s.convs := rfl
@[simp] theorem State.modGate_ains (s : State) (k : Nat) (f : GateSt → GateSt) : (s.modGate k f).ains = s.ains := rfl
@[simp] theorem State.modGate_aouts (s : State) (k : Nat) (f : GateSt → GateSt) : (s.modGate k f).aouts = s.aouts := rfl
@[simp] theorem State.modGate_aports (s : State) (k : Nat) (f : GateSt → GateSt) : (s.modGate k f).aports = s.aports := rfl
@[simp] theorem State.modGate_lanes (s : State) (k : Nat) (f : GateSt → GateSt) : (s.modGate k f).lanes = s.lanes := rfl
@[simp] theorem State.modGate_buses (s : State) (k : Nat) (f : GateSt → GateSt) : (s.modGate k f).buses = s.buses := rfl
@[simp] theorem State.modGate_ports (s : State) (k : Nat) (f : GateSt → GateSt) : (s.modGate k f).ports = s.ports := rfl
@[simp] theorem State.modGate_flows (s : State) (k : Nat) (f : GateSt → GateSt) : (s.modGate k f).flows = s.flows := rfl
@[simp] theorem State.modGate_queues (s : State) (k : Nat) (f : GateSt → GateSt) : (s.modGate k f).queues = s.queues := rfl
@[simp] theorem State.modGate_planes (s : State) (k : Nat) (f : GateSt → GateSt) : (s.modGate k f).planes = s.planes := rfl
@[simp] theorem State.modGate_levee (s : State) (k : Nat) (f : GateSt → GateSt) : (s.modGate k f).levee = s.levee := rfl
@[simp] theorem State.modGate_refs (s : State) (k : Nat) (f : GateSt → GateSt) : (s.modGate k f).refs = s.refs := rfl
@[simp] theorem State.modGate_hg (s : State) (k : Nat) (f : GateSt → GateSt) : (s.modGate k f).hg = s.hg := rfl
@[simp] theorem State.modGate_caps (s : State) (k : Nat) (f : GateSt → GateSt) : (s.modGate k f).caps = s.caps := rfl
@[simp] theorem State.modGate_trigs (s : State) (k : Nat) (f : GateSt → GateSt) : (s.modGate k f).trigs = s.trigs := rfl
@[simp] theorem State.modGate_stems (s : State) (k : Nat) (f : GateSt → GateSt) : (s.modGate k f).stems = s.stems := rfl
@[simp] theorem State.modGate_rends (s : State) (k : Nat) (f : GateSt → GateSt) : (s.modGate k f).rends = s.rends := rfl
@[simp] theorem State.modGate_delivs (s : State) (k : Nat) (f : GateSt → GateSt) : (s.modGate k f).delivs = s.delivs := rfl
@[simp] theorem State.modGate_cores (s : State) (k : Nat) (f : GateSt → GateSt) : (s.modGate k f).cores = s.cores := rfl
@[simp] theorem State.modGate_riders (s : State) (k : Nat) (f : GateSt → GateSt) : (s.modGate k f).riders = s.riders := rfl
@[simp] theorem State.modGate_riderDev (s : State) (k : Nat) (f : GateSt → GateSt) : (s.modGate k f).riderDev = s.riderDev := rfl
@[simp] theorem State.modGate_jobs (s : State) (k : Nat) (f : GateSt → GateSt) : (s.modGate k f).jobs = s.jobs := rfl
@[simp] theorem State.modGate_jobSeq (s : State) (k : Nat) (f : GateSt → GateSt) : (s.modGate k f).jobSeq = s.jobSeq := rfl
@[simp] theorem State.modGate_hostFlows (s : State) (k : Nat) (f : GateSt → GateSt) : (s.modGate k f).hostFlows = s.hostFlows := rfl
@[simp] theorem State.modGate_ctxs (s : State) (k : Nat) (f : GateSt → GateSt) : (s.modGate k f).ctxs = s.ctxs := rfl
@[simp] theorem State.modGate_heads (s : State) (k : Nat) (f : GateSt → GateSt) : (s.modGate k f).heads = s.heads := rfl
@[simp] theorem State.modGate_layers (s : State) (k : Nat) (f : GateSt → GateSt) : (s.modGate k f).layers = s.layers := rfl
@[simp] theorem State.modGate_readback (s : State) (k : Nat) (f : GateSt → GateSt) : (s.modGate k f).readback = s.readback := rfl
@[simp] theorem State.modGate_culverts (s : State) (k : Nat) (f : GateSt → GateSt) : (s.modGate k f).culverts = s.culverts := rfl
@[simp] theorem State.modGate_dramStacks (s : State) (k : Nat) (f : GateSt → GateSt) : (s.modGate k f).dramStacks = s.dramStacks := rfl
@[simp] theorem State.modGate_rmem (s : State) (k : Nat) (f : GateSt → GateSt) : (s.modGate k f).rmem = s.rmem := rfl
@[simp] theorem State.modGate_dram (s : State) (k : Nat) (f : GateSt → GateSt) : (s.modGate k f).dram = s.dram := rfl
@[simp] theorem State.modGate_capStamps (s : State) (k : Nat) (f : GateSt → GateSt) : (s.modGate k f).capStamps = s.capStamps := rfl
@[simp] theorem State.modGate_remap (s : State) (k : Nat) (f : GateSt → GateSt) : (s.modGate k f).remap = s.remap := rfl
@[simp] theorem State.modGate_busReqs (s : State) (k : Nat) (f : GateSt → GateSt) : (s.modGate k f).busReqs = s.busReqs := rfl
@[simp] theorem State.modGate_gauges (s : State) (k : Nat) (f : GateSt → GateSt) : (s.modGate k f).gauges = s.gauges := rfl
@[simp] theorem State.modGate_thermal (s : State) (k : Nat) (f : GateSt → GateSt) : (s.modGate k f).thermal = s.thermal := rfl
@[simp] theorem State.modGate_image (s : State) (k : Nat) (f : GateSt → GateSt) : (s.modGate k f).image = s.image := rfl
@[simp] theorem State.modGate_saved (s : State) (k : Nat) (f : GateSt → GateSt) : (s.modGate k f).saved = s.saved := rfl
@[simp] theorem State.modGate_cal (s : State) (k : Nat) (f : GateSt → GateSt) : (s.modGate k f).cal = s.cal := rfl
@[simp] theorem State.modGate_svc (s : State) (k : Nat) (f : GateSt → GateSt) : (s.modGate k f).svc = s.svc := rfl
@[simp] theorem State.modGate_jtag (s : State) (k : Nat) (f : GateSt → GateSt) : (s.modGate k f).jtag = s.jtag := rfl
@[simp] theorem State.modGate_pending (s : State) (k : Nat) (f : GateSt → GateSt) : (s.modGate k f).pending = s.pending := rfl

@[simp] theorem State.modTrig_time (s : State) (k : Nat) (f : TrigSt → TrigSt) : (s.modTrig k f).time = s.time := rfl
@[simp] theorem State.modTrig_freeCtr (s : State) (k : Nat) (f : TrigSt → TrigSt) : (s.modTrig k f).freeCtr = s.freeCtr := rfl
@[simp] theorem State.modTrig_out (s : State) (k : Nat) (f : TrigSt → TrigSt) : (s.modTrig k f).out = s.out := rfl
@[simp] theorem State.modTrig_pins (s : State) (k : Nat) (f : TrigSt → TrigSt) : (s.modTrig k f).pins = s.pins := rfl
@[simp] theorem State.modTrig_mode (s : State) (k : Nat) (f : TrigSt → TrigSt) : (s.modTrig k f).mode = s.mode := rfl
@[simp] theorem State.modTrig_rings (s : State) (k : Nat) (f : TrigSt → TrigSt) : (s.modTrig k f).rings = s.rings := rfl
@[simp] theorem State.modTrig_ints (s : State) (k : Nat) (f : TrigSt → TrigSt) : (s.modTrig k f).ints = s.ints := rfl
@[simp] theorem State.modTrig_events (s : State) (k : Nat) (f : TrigSt → TrigSt) : (s.modTrig k f).events = s.events := rfl
@[simp] theorem State.modTrig_storm (s : State) (k : Nat) (f : TrigSt → TrigSt) : (s.modTrig k f).storm = s.storm := rfl
@[simp] theorem State.modTrig_domains (s : State) (k : Nat) (f : TrigSt → TrigSt) : (s.modTrig k f).domains = s.domains := rfl
@[simp] theorem State.modTrig_openSets (s : State) (k : Nat) (f : TrigSt → TrigSt) : (s.modTrig k f).openSets = s.openSets := rfl
@[simp] theorem State.modTrig_parts (s : State) (k : Nat) (f : TrigSt → TrigSt) : (s.modTrig k f).parts = s.parts := rfl
@[simp] theorem State.modTrig_partSeq (s : State) (k : Nat) (f : TrigSt → TrigSt) : (s.modTrig k f).partSeq = s.partSeq := rfl
@[simp] theorem State.modTrig_fused (s : State) (k : Nat) (f : TrigSt → TrigSt) : (s.modTrig k f).fused = s.fused := rfl
@[simp] theorem State.modTrig_repair (s : State) (k : Nat) (f : TrigSt → TrigSt) : (s.modTrig k f).repair = s.repair := rfl
@[simp] theorem State.modTrig_counters (s : State) (k : Nat) (f : TrigSt → TrigSt) : (s.modTrig k f).counters = s.counters := rfl
@[simp] theorem State.modTrig_alarms (s : State) (k : Nat) (f : TrigSt → TrigSt) : (s.modTrig k f).alarms = s.alarms := rfl
@[simp] theorem State.modTrig_srcs (s : State) (k : Nat) (f : TrigSt → TrigSt) : (s.modTrig k f).srcs = s.srcs := rfl
@[simp] theorem State.modTrig_dsts (s : State) (k : Nat) (f : TrigSt → TrigSt) : (s.modTrig k f).dsts = s.dsts := rfl
@[simp] theorem State.modTrig_convs (s : State) (k : Nat) (f : TrigSt → TrigSt) : (s.modTrig k f).convs = s.convs := rfl
@[simp] theorem State.modTrig_ains (s : State) (k : Nat) (f : TrigSt → TrigSt) : (s.modTrig k f).ains = s.ains := rfl
@[simp] theorem State.modTrig_aouts (s : State) (k : Nat) (f : TrigSt → TrigSt) : (s.modTrig k f).aouts = s.aouts := rfl
@[simp] theorem State.modTrig_aports (s : State) (k : Nat) (f : TrigSt → TrigSt) : (s.modTrig k f).aports = s.aports := rfl
@[simp] theorem State.modTrig_lanes (s : State) (k : Nat) (f : TrigSt → TrigSt) : (s.modTrig k f).lanes = s.lanes := rfl
@[simp] theorem State.modTrig_buses (s : State) (k : Nat) (f : TrigSt → TrigSt) : (s.modTrig k f).buses = s.buses := rfl
@[simp] theorem State.modTrig_ports (s : State) (k : Nat) (f : TrigSt → TrigSt) : (s.modTrig k f).ports = s.ports := rfl
@[simp] theorem State.modTrig_flows (s : State) (k : Nat) (f : TrigSt → TrigSt) : (s.modTrig k f).flows = s.flows := rfl
@[simp] theorem State.modTrig_queues (s : State) (k : Nat) (f : TrigSt → TrigSt) : (s.modTrig k f).queues = s.queues := rfl
@[simp] theorem State.modTrig_gates (s : State) (k : Nat) (f : TrigSt → TrigSt) : (s.modTrig k f).gates = s.gates := rfl
@[simp] theorem State.modTrig_planes (s : State) (k : Nat) (f : TrigSt → TrigSt) : (s.modTrig k f).planes = s.planes := rfl
@[simp] theorem State.modTrig_levee (s : State) (k : Nat) (f : TrigSt → TrigSt) : (s.modTrig k f).levee = s.levee := rfl
@[simp] theorem State.modTrig_refs (s : State) (k : Nat) (f : TrigSt → TrigSt) : (s.modTrig k f).refs = s.refs := rfl
@[simp] theorem State.modTrig_hg (s : State) (k : Nat) (f : TrigSt → TrigSt) : (s.modTrig k f).hg = s.hg := rfl
@[simp] theorem State.modTrig_caps (s : State) (k : Nat) (f : TrigSt → TrigSt) : (s.modTrig k f).caps = s.caps := rfl
@[simp] theorem State.modTrig_stems (s : State) (k : Nat) (f : TrigSt → TrigSt) : (s.modTrig k f).stems = s.stems := rfl
@[simp] theorem State.modTrig_rends (s : State) (k : Nat) (f : TrigSt → TrigSt) : (s.modTrig k f).rends = s.rends := rfl
@[simp] theorem State.modTrig_delivs (s : State) (k : Nat) (f : TrigSt → TrigSt) : (s.modTrig k f).delivs = s.delivs := rfl
@[simp] theorem State.modTrig_cores (s : State) (k : Nat) (f : TrigSt → TrigSt) : (s.modTrig k f).cores = s.cores := rfl
@[simp] theorem State.modTrig_riders (s : State) (k : Nat) (f : TrigSt → TrigSt) : (s.modTrig k f).riders = s.riders := rfl
@[simp] theorem State.modTrig_riderDev (s : State) (k : Nat) (f : TrigSt → TrigSt) : (s.modTrig k f).riderDev = s.riderDev := rfl
@[simp] theorem State.modTrig_jobs (s : State) (k : Nat) (f : TrigSt → TrigSt) : (s.modTrig k f).jobs = s.jobs := rfl
@[simp] theorem State.modTrig_jobSeq (s : State) (k : Nat) (f : TrigSt → TrigSt) : (s.modTrig k f).jobSeq = s.jobSeq := rfl
@[simp] theorem State.modTrig_hostFlows (s : State) (k : Nat) (f : TrigSt → TrigSt) : (s.modTrig k f).hostFlows = s.hostFlows := rfl
@[simp] theorem State.modTrig_ctxs (s : State) (k : Nat) (f : TrigSt → TrigSt) : (s.modTrig k f).ctxs = s.ctxs := rfl
@[simp] theorem State.modTrig_heads (s : State) (k : Nat) (f : TrigSt → TrigSt) : (s.modTrig k f).heads = s.heads := rfl
@[simp] theorem State.modTrig_layers (s : State) (k : Nat) (f : TrigSt → TrigSt) : (s.modTrig k f).layers = s.layers := rfl
@[simp] theorem State.modTrig_readback (s : State) (k : Nat) (f : TrigSt → TrigSt) : (s.modTrig k f).readback = s.readback := rfl
@[simp] theorem State.modTrig_culverts (s : State) (k : Nat) (f : TrigSt → TrigSt) : (s.modTrig k f).culverts = s.culverts := rfl
@[simp] theorem State.modTrig_dramStacks (s : State) (k : Nat) (f : TrigSt → TrigSt) : (s.modTrig k f).dramStacks = s.dramStacks := rfl
@[simp] theorem State.modTrig_rmem (s : State) (k : Nat) (f : TrigSt → TrigSt) : (s.modTrig k f).rmem = s.rmem := rfl
@[simp] theorem State.modTrig_dram (s : State) (k : Nat) (f : TrigSt → TrigSt) : (s.modTrig k f).dram = s.dram := rfl
@[simp] theorem State.modTrig_capStamps (s : State) (k : Nat) (f : TrigSt → TrigSt) : (s.modTrig k f).capStamps = s.capStamps := rfl
@[simp] theorem State.modTrig_remap (s : State) (k : Nat) (f : TrigSt → TrigSt) : (s.modTrig k f).remap = s.remap := rfl
@[simp] theorem State.modTrig_busReqs (s : State) (k : Nat) (f : TrigSt → TrigSt) : (s.modTrig k f).busReqs = s.busReqs := rfl
@[simp] theorem State.modTrig_gauges (s : State) (k : Nat) (f : TrigSt → TrigSt) : (s.modTrig k f).gauges = s.gauges := rfl
@[simp] theorem State.modTrig_thermal (s : State) (k : Nat) (f : TrigSt → TrigSt) : (s.modTrig k f).thermal = s.thermal := rfl
@[simp] theorem State.modTrig_image (s : State) (k : Nat) (f : TrigSt → TrigSt) : (s.modTrig k f).image = s.image := rfl
@[simp] theorem State.modTrig_saved (s : State) (k : Nat) (f : TrigSt → TrigSt) : (s.modTrig k f).saved = s.saved := rfl
@[simp] theorem State.modTrig_cal (s : State) (k : Nat) (f : TrigSt → TrigSt) : (s.modTrig k f).cal = s.cal := rfl
@[simp] theorem State.modTrig_svc (s : State) (k : Nat) (f : TrigSt → TrigSt) : (s.modTrig k f).svc = s.svc := rfl
@[simp] theorem State.modTrig_jtag (s : State) (k : Nat) (f : TrigSt → TrigSt) : (s.modTrig k f).jtag = s.jtag := rfl
@[simp] theorem State.modTrig_pending (s : State) (k : Nat) (f : TrigSt → TrigSt) : (s.modTrig k f).pending = s.pending := rfl

@[simp] theorem State.modStem_time (s : State) (k : Nat) (f : StemSt → StemSt) : (s.modStem k f).time = s.time := rfl
@[simp] theorem State.modStem_freeCtr (s : State) (k : Nat) (f : StemSt → StemSt) : (s.modStem k f).freeCtr = s.freeCtr := rfl
@[simp] theorem State.modStem_out (s : State) (k : Nat) (f : StemSt → StemSt) : (s.modStem k f).out = s.out := rfl
@[simp] theorem State.modStem_pins (s : State) (k : Nat) (f : StemSt → StemSt) : (s.modStem k f).pins = s.pins := rfl
@[simp] theorem State.modStem_mode (s : State) (k : Nat) (f : StemSt → StemSt) : (s.modStem k f).mode = s.mode := rfl
@[simp] theorem State.modStem_rings (s : State) (k : Nat) (f : StemSt → StemSt) : (s.modStem k f).rings = s.rings := rfl
@[simp] theorem State.modStem_ints (s : State) (k : Nat) (f : StemSt → StemSt) : (s.modStem k f).ints = s.ints := rfl
@[simp] theorem State.modStem_events (s : State) (k : Nat) (f : StemSt → StemSt) : (s.modStem k f).events = s.events := rfl
@[simp] theorem State.modStem_storm (s : State) (k : Nat) (f : StemSt → StemSt) : (s.modStem k f).storm = s.storm := rfl
@[simp] theorem State.modStem_domains (s : State) (k : Nat) (f : StemSt → StemSt) : (s.modStem k f).domains = s.domains := rfl
@[simp] theorem State.modStem_openSets (s : State) (k : Nat) (f : StemSt → StemSt) : (s.modStem k f).openSets = s.openSets := rfl
@[simp] theorem State.modStem_parts (s : State) (k : Nat) (f : StemSt → StemSt) : (s.modStem k f).parts = s.parts := rfl
@[simp] theorem State.modStem_partSeq (s : State) (k : Nat) (f : StemSt → StemSt) : (s.modStem k f).partSeq = s.partSeq := rfl
@[simp] theorem State.modStem_fused (s : State) (k : Nat) (f : StemSt → StemSt) : (s.modStem k f).fused = s.fused := rfl
@[simp] theorem State.modStem_repair (s : State) (k : Nat) (f : StemSt → StemSt) : (s.modStem k f).repair = s.repair := rfl
@[simp] theorem State.modStem_counters (s : State) (k : Nat) (f : StemSt → StemSt) : (s.modStem k f).counters = s.counters := rfl
@[simp] theorem State.modStem_alarms (s : State) (k : Nat) (f : StemSt → StemSt) : (s.modStem k f).alarms = s.alarms := rfl
@[simp] theorem State.modStem_srcs (s : State) (k : Nat) (f : StemSt → StemSt) : (s.modStem k f).srcs = s.srcs := rfl
@[simp] theorem State.modStem_dsts (s : State) (k : Nat) (f : StemSt → StemSt) : (s.modStem k f).dsts = s.dsts := rfl
@[simp] theorem State.modStem_convs (s : State) (k : Nat) (f : StemSt → StemSt) : (s.modStem k f).convs = s.convs := rfl
@[simp] theorem State.modStem_ains (s : State) (k : Nat) (f : StemSt → StemSt) : (s.modStem k f).ains = s.ains := rfl
@[simp] theorem State.modStem_aouts (s : State) (k : Nat) (f : StemSt → StemSt) : (s.modStem k f).aouts = s.aouts := rfl
@[simp] theorem State.modStem_aports (s : State) (k : Nat) (f : StemSt → StemSt) : (s.modStem k f).aports = s.aports := rfl
@[simp] theorem State.modStem_lanes (s : State) (k : Nat) (f : StemSt → StemSt) : (s.modStem k f).lanes = s.lanes := rfl
@[simp] theorem State.modStem_buses (s : State) (k : Nat) (f : StemSt → StemSt) : (s.modStem k f).buses = s.buses := rfl
@[simp] theorem State.modStem_ports (s : State) (k : Nat) (f : StemSt → StemSt) : (s.modStem k f).ports = s.ports := rfl
@[simp] theorem State.modStem_flows (s : State) (k : Nat) (f : StemSt → StemSt) : (s.modStem k f).flows = s.flows := rfl
@[simp] theorem State.modStem_queues (s : State) (k : Nat) (f : StemSt → StemSt) : (s.modStem k f).queues = s.queues := rfl
@[simp] theorem State.modStem_gates (s : State) (k : Nat) (f : StemSt → StemSt) : (s.modStem k f).gates = s.gates := rfl
@[simp] theorem State.modStem_planes (s : State) (k : Nat) (f : StemSt → StemSt) : (s.modStem k f).planes = s.planes := rfl
@[simp] theorem State.modStem_levee (s : State) (k : Nat) (f : StemSt → StemSt) : (s.modStem k f).levee = s.levee := rfl
@[simp] theorem State.modStem_refs (s : State) (k : Nat) (f : StemSt → StemSt) : (s.modStem k f).refs = s.refs := rfl
@[simp] theorem State.modStem_hg (s : State) (k : Nat) (f : StemSt → StemSt) : (s.modStem k f).hg = s.hg := rfl
@[simp] theorem State.modStem_caps (s : State) (k : Nat) (f : StemSt → StemSt) : (s.modStem k f).caps = s.caps := rfl
@[simp] theorem State.modStem_trigs (s : State) (k : Nat) (f : StemSt → StemSt) : (s.modStem k f).trigs = s.trigs := rfl
@[simp] theorem State.modStem_rends (s : State) (k : Nat) (f : StemSt → StemSt) : (s.modStem k f).rends = s.rends := rfl
@[simp] theorem State.modStem_delivs (s : State) (k : Nat) (f : StemSt → StemSt) : (s.modStem k f).delivs = s.delivs := rfl
@[simp] theorem State.modStem_cores (s : State) (k : Nat) (f : StemSt → StemSt) : (s.modStem k f).cores = s.cores := rfl
@[simp] theorem State.modStem_riders (s : State) (k : Nat) (f : StemSt → StemSt) : (s.modStem k f).riders = s.riders := rfl
@[simp] theorem State.modStem_riderDev (s : State) (k : Nat) (f : StemSt → StemSt) : (s.modStem k f).riderDev = s.riderDev := rfl
@[simp] theorem State.modStem_jobs (s : State) (k : Nat) (f : StemSt → StemSt) : (s.modStem k f).jobs = s.jobs := rfl
@[simp] theorem State.modStem_jobSeq (s : State) (k : Nat) (f : StemSt → StemSt) : (s.modStem k f).jobSeq = s.jobSeq := rfl
@[simp] theorem State.modStem_hostFlows (s : State) (k : Nat) (f : StemSt → StemSt) : (s.modStem k f).hostFlows = s.hostFlows := rfl
@[simp] theorem State.modStem_ctxs (s : State) (k : Nat) (f : StemSt → StemSt) : (s.modStem k f).ctxs = s.ctxs := rfl
@[simp] theorem State.modStem_heads (s : State) (k : Nat) (f : StemSt → StemSt) : (s.modStem k f).heads = s.heads := rfl
@[simp] theorem State.modStem_layers (s : State) (k : Nat) (f : StemSt → StemSt) : (s.modStem k f).layers = s.layers := rfl
@[simp] theorem State.modStem_readback (s : State) (k : Nat) (f : StemSt → StemSt) : (s.modStem k f).readback = s.readback := rfl
@[simp] theorem State.modStem_culverts (s : State) (k : Nat) (f : StemSt → StemSt) : (s.modStem k f).culverts = s.culverts := rfl
@[simp] theorem State.modStem_dramStacks (s : State) (k : Nat) (f : StemSt → StemSt) : (s.modStem k f).dramStacks = s.dramStacks := rfl
@[simp] theorem State.modStem_rmem (s : State) (k : Nat) (f : StemSt → StemSt) : (s.modStem k f).rmem = s.rmem := rfl
@[simp] theorem State.modStem_dram (s : State) (k : Nat) (f : StemSt → StemSt) : (s.modStem k f).dram = s.dram := rfl
@[simp] theorem State.modStem_capStamps (s : State) (k : Nat) (f : StemSt → StemSt) : (s.modStem k f).capStamps = s.capStamps := rfl
@[simp] theorem State.modStem_remap (s : State) (k : Nat) (f : StemSt → StemSt) : (s.modStem k f).remap = s.remap := rfl
@[simp] theorem State.modStem_busReqs (s : State) (k : Nat) (f : StemSt → StemSt) : (s.modStem k f).busReqs = s.busReqs := rfl
@[simp] theorem State.modStem_gauges (s : State) (k : Nat) (f : StemSt → StemSt) : (s.modStem k f).gauges = s.gauges := rfl
@[simp] theorem State.modStem_thermal (s : State) (k : Nat) (f : StemSt → StemSt) : (s.modStem k f).thermal = s.thermal := rfl
@[simp] theorem State.modStem_image (s : State) (k : Nat) (f : StemSt → StemSt) : (s.modStem k f).image = s.image := rfl
@[simp] theorem State.modStem_saved (s : State) (k : Nat) (f : StemSt → StemSt) : (s.modStem k f).saved = s.saved := rfl
@[simp] theorem State.modStem_cal (s : State) (k : Nat) (f : StemSt → StemSt) : (s.modStem k f).cal = s.cal := rfl
@[simp] theorem State.modStem_svc (s : State) (k : Nat) (f : StemSt → StemSt) : (s.modStem k f).svc = s.svc := rfl
@[simp] theorem State.modStem_jtag (s : State) (k : Nat) (f : StemSt → StemSt) : (s.modStem k f).jtag = s.jtag := rfl
@[simp] theorem State.modStem_pending (s : State) (k : Nat) (f : StemSt → StemSt) : (s.modStem k f).pending = s.pending := rfl

@[simp] theorem State.modRend_time (s : State) (k : Nat) (f : RendSt → RendSt) : (s.modRend k f).time = s.time := rfl
@[simp] theorem State.modRend_freeCtr (s : State) (k : Nat) (f : RendSt → RendSt) : (s.modRend k f).freeCtr = s.freeCtr := rfl
@[simp] theorem State.modRend_out (s : State) (k : Nat) (f : RendSt → RendSt) : (s.modRend k f).out = s.out := rfl
@[simp] theorem State.modRend_pins (s : State) (k : Nat) (f : RendSt → RendSt) : (s.modRend k f).pins = s.pins := rfl
@[simp] theorem State.modRend_mode (s : State) (k : Nat) (f : RendSt → RendSt) : (s.modRend k f).mode = s.mode := rfl
@[simp] theorem State.modRend_rings (s : State) (k : Nat) (f : RendSt → RendSt) : (s.modRend k f).rings = s.rings := rfl
@[simp] theorem State.modRend_ints (s : State) (k : Nat) (f : RendSt → RendSt) : (s.modRend k f).ints = s.ints := rfl
@[simp] theorem State.modRend_events (s : State) (k : Nat) (f : RendSt → RendSt) : (s.modRend k f).events = s.events := rfl
@[simp] theorem State.modRend_storm (s : State) (k : Nat) (f : RendSt → RendSt) : (s.modRend k f).storm = s.storm := rfl
@[simp] theorem State.modRend_domains (s : State) (k : Nat) (f : RendSt → RendSt) : (s.modRend k f).domains = s.domains := rfl
@[simp] theorem State.modRend_openSets (s : State) (k : Nat) (f : RendSt → RendSt) : (s.modRend k f).openSets = s.openSets := rfl
@[simp] theorem State.modRend_parts (s : State) (k : Nat) (f : RendSt → RendSt) : (s.modRend k f).parts = s.parts := rfl
@[simp] theorem State.modRend_partSeq (s : State) (k : Nat) (f : RendSt → RendSt) : (s.modRend k f).partSeq = s.partSeq := rfl
@[simp] theorem State.modRend_fused (s : State) (k : Nat) (f : RendSt → RendSt) : (s.modRend k f).fused = s.fused := rfl
@[simp] theorem State.modRend_repair (s : State) (k : Nat) (f : RendSt → RendSt) : (s.modRend k f).repair = s.repair := rfl
@[simp] theorem State.modRend_counters (s : State) (k : Nat) (f : RendSt → RendSt) : (s.modRend k f).counters = s.counters := rfl
@[simp] theorem State.modRend_alarms (s : State) (k : Nat) (f : RendSt → RendSt) : (s.modRend k f).alarms = s.alarms := rfl
@[simp] theorem State.modRend_srcs (s : State) (k : Nat) (f : RendSt → RendSt) : (s.modRend k f).srcs = s.srcs := rfl
@[simp] theorem State.modRend_dsts (s : State) (k : Nat) (f : RendSt → RendSt) : (s.modRend k f).dsts = s.dsts := rfl
@[simp] theorem State.modRend_convs (s : State) (k : Nat) (f : RendSt → RendSt) : (s.modRend k f).convs = s.convs := rfl
@[simp] theorem State.modRend_ains (s : State) (k : Nat) (f : RendSt → RendSt) : (s.modRend k f).ains = s.ains := rfl
@[simp] theorem State.modRend_aouts (s : State) (k : Nat) (f : RendSt → RendSt) : (s.modRend k f).aouts = s.aouts := rfl
@[simp] theorem State.modRend_aports (s : State) (k : Nat) (f : RendSt → RendSt) : (s.modRend k f).aports = s.aports := rfl
@[simp] theorem State.modRend_lanes (s : State) (k : Nat) (f : RendSt → RendSt) : (s.modRend k f).lanes = s.lanes := rfl
@[simp] theorem State.modRend_buses (s : State) (k : Nat) (f : RendSt → RendSt) : (s.modRend k f).buses = s.buses := rfl
@[simp] theorem State.modRend_ports (s : State) (k : Nat) (f : RendSt → RendSt) : (s.modRend k f).ports = s.ports := rfl
@[simp] theorem State.modRend_flows (s : State) (k : Nat) (f : RendSt → RendSt) : (s.modRend k f).flows = s.flows := rfl
@[simp] theorem State.modRend_queues (s : State) (k : Nat) (f : RendSt → RendSt) : (s.modRend k f).queues = s.queues := rfl
@[simp] theorem State.modRend_gates (s : State) (k : Nat) (f : RendSt → RendSt) : (s.modRend k f).gates = s.gates := rfl
@[simp] theorem State.modRend_planes (s : State) (k : Nat) (f : RendSt → RendSt) : (s.modRend k f).planes = s.planes := rfl
@[simp] theorem State.modRend_levee (s : State) (k : Nat) (f : RendSt → RendSt) : (s.modRend k f).levee = s.levee := rfl
@[simp] theorem State.modRend_refs (s : State) (k : Nat) (f : RendSt → RendSt) : (s.modRend k f).refs = s.refs := rfl
@[simp] theorem State.modRend_hg (s : State) (k : Nat) (f : RendSt → RendSt) : (s.modRend k f).hg = s.hg := rfl
@[simp] theorem State.modRend_caps (s : State) (k : Nat) (f : RendSt → RendSt) : (s.modRend k f).caps = s.caps := rfl
@[simp] theorem State.modRend_trigs (s : State) (k : Nat) (f : RendSt → RendSt) : (s.modRend k f).trigs = s.trigs := rfl
@[simp] theorem State.modRend_stems (s : State) (k : Nat) (f : RendSt → RendSt) : (s.modRend k f).stems = s.stems := rfl
@[simp] theorem State.modRend_delivs (s : State) (k : Nat) (f : RendSt → RendSt) : (s.modRend k f).delivs = s.delivs := rfl
@[simp] theorem State.modRend_cores (s : State) (k : Nat) (f : RendSt → RendSt) : (s.modRend k f).cores = s.cores := rfl
@[simp] theorem State.modRend_riders (s : State) (k : Nat) (f : RendSt → RendSt) : (s.modRend k f).riders = s.riders := rfl
@[simp] theorem State.modRend_riderDev (s : State) (k : Nat) (f : RendSt → RendSt) : (s.modRend k f).riderDev = s.riderDev := rfl
@[simp] theorem State.modRend_jobs (s : State) (k : Nat) (f : RendSt → RendSt) : (s.modRend k f).jobs = s.jobs := rfl
@[simp] theorem State.modRend_jobSeq (s : State) (k : Nat) (f : RendSt → RendSt) : (s.modRend k f).jobSeq = s.jobSeq := rfl
@[simp] theorem State.modRend_hostFlows (s : State) (k : Nat) (f : RendSt → RendSt) : (s.modRend k f).hostFlows = s.hostFlows := rfl
@[simp] theorem State.modRend_ctxs (s : State) (k : Nat) (f : RendSt → RendSt) : (s.modRend k f).ctxs = s.ctxs := rfl
@[simp] theorem State.modRend_heads (s : State) (k : Nat) (f : RendSt → RendSt) : (s.modRend k f).heads = s.heads := rfl
@[simp] theorem State.modRend_layers (s : State) (k : Nat) (f : RendSt → RendSt) : (s.modRend k f).layers = s.layers := rfl
@[simp] theorem State.modRend_readback (s : State) (k : Nat) (f : RendSt → RendSt) : (s.modRend k f).readback = s.readback := rfl
@[simp] theorem State.modRend_culverts (s : State) (k : Nat) (f : RendSt → RendSt) : (s.modRend k f).culverts = s.culverts := rfl
@[simp] theorem State.modRend_dramStacks (s : State) (k : Nat) (f : RendSt → RendSt) : (s.modRend k f).dramStacks = s.dramStacks := rfl
@[simp] theorem State.modRend_rmem (s : State) (k : Nat) (f : RendSt → RendSt) : (s.modRend k f).rmem = s.rmem := rfl
@[simp] theorem State.modRend_dram (s : State) (k : Nat) (f : RendSt → RendSt) : (s.modRend k f).dram = s.dram := rfl
@[simp] theorem State.modRend_capStamps (s : State) (k : Nat) (f : RendSt → RendSt) : (s.modRend k f).capStamps = s.capStamps := rfl
@[simp] theorem State.modRend_remap (s : State) (k : Nat) (f : RendSt → RendSt) : (s.modRend k f).remap = s.remap := rfl
@[simp] theorem State.modRend_busReqs (s : State) (k : Nat) (f : RendSt → RendSt) : (s.modRend k f).busReqs = s.busReqs := rfl
@[simp] theorem State.modRend_gauges (s : State) (k : Nat) (f : RendSt → RendSt) : (s.modRend k f).gauges = s.gauges := rfl
@[simp] theorem State.modRend_thermal (s : State) (k : Nat) (f : RendSt → RendSt) : (s.modRend k f).thermal = s.thermal := rfl
@[simp] theorem State.modRend_image (s : State) (k : Nat) (f : RendSt → RendSt) : (s.modRend k f).image = s.image := rfl
@[simp] theorem State.modRend_saved (s : State) (k : Nat) (f : RendSt → RendSt) : (s.modRend k f).saved = s.saved := rfl
@[simp] theorem State.modRend_cal (s : State) (k : Nat) (f : RendSt → RendSt) : (s.modRend k f).cal = s.cal := rfl
@[simp] theorem State.modRend_svc (s : State) (k : Nat) (f : RendSt → RendSt) : (s.modRend k f).svc = s.svc := rfl
@[simp] theorem State.modRend_jtag (s : State) (k : Nat) (f : RendSt → RendSt) : (s.modRend k f).jtag = s.jtag := rfl
@[simp] theorem State.modRend_pending (s : State) (k : Nat) (f : RendSt → RendSt) : (s.modRend k f).pending = s.pending := rfl

@[simp] theorem State.modDeliv_time (s : State) (k : Nat) (f : DelivSt → DelivSt) : (s.modDeliv k f).time = s.time := rfl
@[simp] theorem State.modDeliv_freeCtr (s : State) (k : Nat) (f : DelivSt → DelivSt) : (s.modDeliv k f).freeCtr = s.freeCtr := rfl
@[simp] theorem State.modDeliv_out (s : State) (k : Nat) (f : DelivSt → DelivSt) : (s.modDeliv k f).out = s.out := rfl
@[simp] theorem State.modDeliv_pins (s : State) (k : Nat) (f : DelivSt → DelivSt) : (s.modDeliv k f).pins = s.pins := rfl
@[simp] theorem State.modDeliv_mode (s : State) (k : Nat) (f : DelivSt → DelivSt) : (s.modDeliv k f).mode = s.mode := rfl
@[simp] theorem State.modDeliv_rings (s : State) (k : Nat) (f : DelivSt → DelivSt) : (s.modDeliv k f).rings = s.rings := rfl
@[simp] theorem State.modDeliv_ints (s : State) (k : Nat) (f : DelivSt → DelivSt) : (s.modDeliv k f).ints = s.ints := rfl
@[simp] theorem State.modDeliv_events (s : State) (k : Nat) (f : DelivSt → DelivSt) : (s.modDeliv k f).events = s.events := rfl
@[simp] theorem State.modDeliv_storm (s : State) (k : Nat) (f : DelivSt → DelivSt) : (s.modDeliv k f).storm = s.storm := rfl
@[simp] theorem State.modDeliv_domains (s : State) (k : Nat) (f : DelivSt → DelivSt) : (s.modDeliv k f).domains = s.domains := rfl
@[simp] theorem State.modDeliv_openSets (s : State) (k : Nat) (f : DelivSt → DelivSt) : (s.modDeliv k f).openSets = s.openSets := rfl
@[simp] theorem State.modDeliv_parts (s : State) (k : Nat) (f : DelivSt → DelivSt) : (s.modDeliv k f).parts = s.parts := rfl
@[simp] theorem State.modDeliv_partSeq (s : State) (k : Nat) (f : DelivSt → DelivSt) : (s.modDeliv k f).partSeq = s.partSeq := rfl
@[simp] theorem State.modDeliv_fused (s : State) (k : Nat) (f : DelivSt → DelivSt) : (s.modDeliv k f).fused = s.fused := rfl
@[simp] theorem State.modDeliv_repair (s : State) (k : Nat) (f : DelivSt → DelivSt) : (s.modDeliv k f).repair = s.repair := rfl
@[simp] theorem State.modDeliv_counters (s : State) (k : Nat) (f : DelivSt → DelivSt) : (s.modDeliv k f).counters = s.counters := rfl
@[simp] theorem State.modDeliv_alarms (s : State) (k : Nat) (f : DelivSt → DelivSt) : (s.modDeliv k f).alarms = s.alarms := rfl
@[simp] theorem State.modDeliv_srcs (s : State) (k : Nat) (f : DelivSt → DelivSt) : (s.modDeliv k f).srcs = s.srcs := rfl
@[simp] theorem State.modDeliv_dsts (s : State) (k : Nat) (f : DelivSt → DelivSt) : (s.modDeliv k f).dsts = s.dsts := rfl
@[simp] theorem State.modDeliv_convs (s : State) (k : Nat) (f : DelivSt → DelivSt) : (s.modDeliv k f).convs = s.convs := rfl
@[simp] theorem State.modDeliv_ains (s : State) (k : Nat) (f : DelivSt → DelivSt) : (s.modDeliv k f).ains = s.ains := rfl
@[simp] theorem State.modDeliv_aouts (s : State) (k : Nat) (f : DelivSt → DelivSt) : (s.modDeliv k f).aouts = s.aouts := rfl
@[simp] theorem State.modDeliv_aports (s : State) (k : Nat) (f : DelivSt → DelivSt) : (s.modDeliv k f).aports = s.aports := rfl
@[simp] theorem State.modDeliv_lanes (s : State) (k : Nat) (f : DelivSt → DelivSt) : (s.modDeliv k f).lanes = s.lanes := rfl
@[simp] theorem State.modDeliv_buses (s : State) (k : Nat) (f : DelivSt → DelivSt) : (s.modDeliv k f).buses = s.buses := rfl
@[simp] theorem State.modDeliv_ports (s : State) (k : Nat) (f : DelivSt → DelivSt) : (s.modDeliv k f).ports = s.ports := rfl
@[simp] theorem State.modDeliv_flows (s : State) (k : Nat) (f : DelivSt → DelivSt) : (s.modDeliv k f).flows = s.flows := rfl
@[simp] theorem State.modDeliv_queues (s : State) (k : Nat) (f : DelivSt → DelivSt) : (s.modDeliv k f).queues = s.queues := rfl
@[simp] theorem State.modDeliv_gates (s : State) (k : Nat) (f : DelivSt → DelivSt) : (s.modDeliv k f).gates = s.gates := rfl
@[simp] theorem State.modDeliv_planes (s : State) (k : Nat) (f : DelivSt → DelivSt) : (s.modDeliv k f).planes = s.planes := rfl
@[simp] theorem State.modDeliv_levee (s : State) (k : Nat) (f : DelivSt → DelivSt) : (s.modDeliv k f).levee = s.levee := rfl
@[simp] theorem State.modDeliv_refs (s : State) (k : Nat) (f : DelivSt → DelivSt) : (s.modDeliv k f).refs = s.refs := rfl
@[simp] theorem State.modDeliv_hg (s : State) (k : Nat) (f : DelivSt → DelivSt) : (s.modDeliv k f).hg = s.hg := rfl
@[simp] theorem State.modDeliv_caps (s : State) (k : Nat) (f : DelivSt → DelivSt) : (s.modDeliv k f).caps = s.caps := rfl
@[simp] theorem State.modDeliv_trigs (s : State) (k : Nat) (f : DelivSt → DelivSt) : (s.modDeliv k f).trigs = s.trigs := rfl
@[simp] theorem State.modDeliv_stems (s : State) (k : Nat) (f : DelivSt → DelivSt) : (s.modDeliv k f).stems = s.stems := rfl
@[simp] theorem State.modDeliv_rends (s : State) (k : Nat) (f : DelivSt → DelivSt) : (s.modDeliv k f).rends = s.rends := rfl
@[simp] theorem State.modDeliv_cores (s : State) (k : Nat) (f : DelivSt → DelivSt) : (s.modDeliv k f).cores = s.cores := rfl
@[simp] theorem State.modDeliv_riders (s : State) (k : Nat) (f : DelivSt → DelivSt) : (s.modDeliv k f).riders = s.riders := rfl
@[simp] theorem State.modDeliv_riderDev (s : State) (k : Nat) (f : DelivSt → DelivSt) : (s.modDeliv k f).riderDev = s.riderDev := rfl
@[simp] theorem State.modDeliv_jobs (s : State) (k : Nat) (f : DelivSt → DelivSt) : (s.modDeliv k f).jobs = s.jobs := rfl
@[simp] theorem State.modDeliv_jobSeq (s : State) (k : Nat) (f : DelivSt → DelivSt) : (s.modDeliv k f).jobSeq = s.jobSeq := rfl
@[simp] theorem State.modDeliv_hostFlows (s : State) (k : Nat) (f : DelivSt → DelivSt) : (s.modDeliv k f).hostFlows = s.hostFlows := rfl
@[simp] theorem State.modDeliv_ctxs (s : State) (k : Nat) (f : DelivSt → DelivSt) : (s.modDeliv k f).ctxs = s.ctxs := rfl
@[simp] theorem State.modDeliv_heads (s : State) (k : Nat) (f : DelivSt → DelivSt) : (s.modDeliv k f).heads = s.heads := rfl
@[simp] theorem State.modDeliv_layers (s : State) (k : Nat) (f : DelivSt → DelivSt) : (s.modDeliv k f).layers = s.layers := rfl
@[simp] theorem State.modDeliv_readback (s : State) (k : Nat) (f : DelivSt → DelivSt) : (s.modDeliv k f).readback = s.readback := rfl
@[simp] theorem State.modDeliv_culverts (s : State) (k : Nat) (f : DelivSt → DelivSt) : (s.modDeliv k f).culverts = s.culverts := rfl
@[simp] theorem State.modDeliv_dramStacks (s : State) (k : Nat) (f : DelivSt → DelivSt) : (s.modDeliv k f).dramStacks = s.dramStacks := rfl
@[simp] theorem State.modDeliv_rmem (s : State) (k : Nat) (f : DelivSt → DelivSt) : (s.modDeliv k f).rmem = s.rmem := rfl
@[simp] theorem State.modDeliv_dram (s : State) (k : Nat) (f : DelivSt → DelivSt) : (s.modDeliv k f).dram = s.dram := rfl
@[simp] theorem State.modDeliv_capStamps (s : State) (k : Nat) (f : DelivSt → DelivSt) : (s.modDeliv k f).capStamps = s.capStamps := rfl
@[simp] theorem State.modDeliv_remap (s : State) (k : Nat) (f : DelivSt → DelivSt) : (s.modDeliv k f).remap = s.remap := rfl
@[simp] theorem State.modDeliv_busReqs (s : State) (k : Nat) (f : DelivSt → DelivSt) : (s.modDeliv k f).busReqs = s.busReqs := rfl
@[simp] theorem State.modDeliv_gauges (s : State) (k : Nat) (f : DelivSt → DelivSt) : (s.modDeliv k f).gauges = s.gauges := rfl
@[simp] theorem State.modDeliv_thermal (s : State) (k : Nat) (f : DelivSt → DelivSt) : (s.modDeliv k f).thermal = s.thermal := rfl
@[simp] theorem State.modDeliv_image (s : State) (k : Nat) (f : DelivSt → DelivSt) : (s.modDeliv k f).image = s.image := rfl
@[simp] theorem State.modDeliv_saved (s : State) (k : Nat) (f : DelivSt → DelivSt) : (s.modDeliv k f).saved = s.saved := rfl
@[simp] theorem State.modDeliv_cal (s : State) (k : Nat) (f : DelivSt → DelivSt) : (s.modDeliv k f).cal = s.cal := rfl
@[simp] theorem State.modDeliv_svc (s : State) (k : Nat) (f : DelivSt → DelivSt) : (s.modDeliv k f).svc = s.svc := rfl
@[simp] theorem State.modDeliv_jtag (s : State) (k : Nat) (f : DelivSt → DelivSt) : (s.modDeliv k f).jtag = s.jtag := rfl
@[simp] theorem State.modDeliv_pending (s : State) (k : Nat) (f : DelivSt → DelivSt) : (s.modDeliv k f).pending = s.pending := rfl

@[simp] theorem State.modCore_time (s : State) (k : Nat) (f : Core → Core) : (s.modCore k f).time = s.time := rfl
@[simp] theorem State.modCore_freeCtr (s : State) (k : Nat) (f : Core → Core) : (s.modCore k f).freeCtr = s.freeCtr := rfl
@[simp] theorem State.modCore_out (s : State) (k : Nat) (f : Core → Core) : (s.modCore k f).out = s.out := rfl
@[simp] theorem State.modCore_pins (s : State) (k : Nat) (f : Core → Core) : (s.modCore k f).pins = s.pins := rfl
@[simp] theorem State.modCore_mode (s : State) (k : Nat) (f : Core → Core) : (s.modCore k f).mode = s.mode := rfl
@[simp] theorem State.modCore_rings (s : State) (k : Nat) (f : Core → Core) : (s.modCore k f).rings = s.rings := rfl
@[simp] theorem State.modCore_ints (s : State) (k : Nat) (f : Core → Core) : (s.modCore k f).ints = s.ints := rfl
@[simp] theorem State.modCore_events (s : State) (k : Nat) (f : Core → Core) : (s.modCore k f).events = s.events := rfl
@[simp] theorem State.modCore_storm (s : State) (k : Nat) (f : Core → Core) : (s.modCore k f).storm = s.storm := rfl
@[simp] theorem State.modCore_domains (s : State) (k : Nat) (f : Core → Core) : (s.modCore k f).domains = s.domains := rfl
@[simp] theorem State.modCore_openSets (s : State) (k : Nat) (f : Core → Core) : (s.modCore k f).openSets = s.openSets := rfl
@[simp] theorem State.modCore_parts (s : State) (k : Nat) (f : Core → Core) : (s.modCore k f).parts = s.parts := rfl
@[simp] theorem State.modCore_partSeq (s : State) (k : Nat) (f : Core → Core) : (s.modCore k f).partSeq = s.partSeq := rfl
@[simp] theorem State.modCore_fused (s : State) (k : Nat) (f : Core → Core) : (s.modCore k f).fused = s.fused := rfl
@[simp] theorem State.modCore_repair (s : State) (k : Nat) (f : Core → Core) : (s.modCore k f).repair = s.repair := rfl
@[simp] theorem State.modCore_counters (s : State) (k : Nat) (f : Core → Core) : (s.modCore k f).counters = s.counters := rfl
@[simp] theorem State.modCore_alarms (s : State) (k : Nat) (f : Core → Core) : (s.modCore k f).alarms = s.alarms := rfl
@[simp] theorem State.modCore_srcs (s : State) (k : Nat) (f : Core → Core) : (s.modCore k f).srcs = s.srcs := rfl
@[simp] theorem State.modCore_dsts (s : State) (k : Nat) (f : Core → Core) : (s.modCore k f).dsts = s.dsts := rfl
@[simp] theorem State.modCore_convs (s : State) (k : Nat) (f : Core → Core) : (s.modCore k f).convs = s.convs := rfl
@[simp] theorem State.modCore_ains (s : State) (k : Nat) (f : Core → Core) : (s.modCore k f).ains = s.ains := rfl
@[simp] theorem State.modCore_aouts (s : State) (k : Nat) (f : Core → Core) : (s.modCore k f).aouts = s.aouts := rfl
@[simp] theorem State.modCore_aports (s : State) (k : Nat) (f : Core → Core) : (s.modCore k f).aports = s.aports := rfl
@[simp] theorem State.modCore_lanes (s : State) (k : Nat) (f : Core → Core) : (s.modCore k f).lanes = s.lanes := rfl
@[simp] theorem State.modCore_buses (s : State) (k : Nat) (f : Core → Core) : (s.modCore k f).buses = s.buses := rfl
@[simp] theorem State.modCore_ports (s : State) (k : Nat) (f : Core → Core) : (s.modCore k f).ports = s.ports := rfl
@[simp] theorem State.modCore_flows (s : State) (k : Nat) (f : Core → Core) : (s.modCore k f).flows = s.flows := rfl
@[simp] theorem State.modCore_queues (s : State) (k : Nat) (f : Core → Core) : (s.modCore k f).queues = s.queues := rfl
@[simp] theorem State.modCore_gates (s : State) (k : Nat) (f : Core → Core) : (s.modCore k f).gates = s.gates := rfl
@[simp] theorem State.modCore_planes (s : State) (k : Nat) (f : Core → Core) : (s.modCore k f).planes = s.planes := rfl
@[simp] theorem State.modCore_levee (s : State) (k : Nat) (f : Core → Core) : (s.modCore k f).levee = s.levee := rfl
@[simp] theorem State.modCore_refs (s : State) (k : Nat) (f : Core → Core) : (s.modCore k f).refs = s.refs := rfl
@[simp] theorem State.modCore_hg (s : State) (k : Nat) (f : Core → Core) : (s.modCore k f).hg = s.hg := rfl
@[simp] theorem State.modCore_caps (s : State) (k : Nat) (f : Core → Core) : (s.modCore k f).caps = s.caps := rfl
@[simp] theorem State.modCore_trigs (s : State) (k : Nat) (f : Core → Core) : (s.modCore k f).trigs = s.trigs := rfl
@[simp] theorem State.modCore_stems (s : State) (k : Nat) (f : Core → Core) : (s.modCore k f).stems = s.stems := rfl
@[simp] theorem State.modCore_rends (s : State) (k : Nat) (f : Core → Core) : (s.modCore k f).rends = s.rends := rfl
@[simp] theorem State.modCore_delivs (s : State) (k : Nat) (f : Core → Core) : (s.modCore k f).delivs = s.delivs := rfl
@[simp] theorem State.modCore_riders (s : State) (k : Nat) (f : Core → Core) : (s.modCore k f).riders = s.riders := rfl
@[simp] theorem State.modCore_riderDev (s : State) (k : Nat) (f : Core → Core) : (s.modCore k f).riderDev = s.riderDev := rfl
@[simp] theorem State.modCore_jobs (s : State) (k : Nat) (f : Core → Core) : (s.modCore k f).jobs = s.jobs := rfl
@[simp] theorem State.modCore_jobSeq (s : State) (k : Nat) (f : Core → Core) : (s.modCore k f).jobSeq = s.jobSeq := rfl
@[simp] theorem State.modCore_hostFlows (s : State) (k : Nat) (f : Core → Core) : (s.modCore k f).hostFlows = s.hostFlows := rfl
@[simp] theorem State.modCore_ctxs (s : State) (k : Nat) (f : Core → Core) : (s.modCore k f).ctxs = s.ctxs := rfl
@[simp] theorem State.modCore_heads (s : State) (k : Nat) (f : Core → Core) : (s.modCore k f).heads = s.heads := rfl
@[simp] theorem State.modCore_layers (s : State) (k : Nat) (f : Core → Core) : (s.modCore k f).layers = s.layers := rfl
@[simp] theorem State.modCore_readback (s : State) (k : Nat) (f : Core → Core) : (s.modCore k f).readback = s.readback := rfl
@[simp] theorem State.modCore_culverts (s : State) (k : Nat) (f : Core → Core) : (s.modCore k f).culverts = s.culverts := rfl
@[simp] theorem State.modCore_dramStacks (s : State) (k : Nat) (f : Core → Core) : (s.modCore k f).dramStacks = s.dramStacks := rfl
@[simp] theorem State.modCore_rmem (s : State) (k : Nat) (f : Core → Core) : (s.modCore k f).rmem = s.rmem := rfl
@[simp] theorem State.modCore_dram (s : State) (k : Nat) (f : Core → Core) : (s.modCore k f).dram = s.dram := rfl
@[simp] theorem State.modCore_capStamps (s : State) (k : Nat) (f : Core → Core) : (s.modCore k f).capStamps = s.capStamps := rfl
@[simp] theorem State.modCore_remap (s : State) (k : Nat) (f : Core → Core) : (s.modCore k f).remap = s.remap := rfl
@[simp] theorem State.modCore_busReqs (s : State) (k : Nat) (f : Core → Core) : (s.modCore k f).busReqs = s.busReqs := rfl
@[simp] theorem State.modCore_gauges (s : State) (k : Nat) (f : Core → Core) : (s.modCore k f).gauges = s.gauges := rfl
@[simp] theorem State.modCore_thermal (s : State) (k : Nat) (f : Core → Core) : (s.modCore k f).thermal = s.thermal := rfl
@[simp] theorem State.modCore_image (s : State) (k : Nat) (f : Core → Core) : (s.modCore k f).image = s.image := rfl
@[simp] theorem State.modCore_saved (s : State) (k : Nat) (f : Core → Core) : (s.modCore k f).saved = s.saved := rfl
@[simp] theorem State.modCore_cal (s : State) (k : Nat) (f : Core → Core) : (s.modCore k f).cal = s.cal := rfl
@[simp] theorem State.modCore_svc (s : State) (k : Nat) (f : Core → Core) : (s.modCore k f).svc = s.svc := rfl
@[simp] theorem State.modCore_jtag (s : State) (k : Nat) (f : Core → Core) : (s.modCore k f).jtag = s.jtag := rfl
@[simp] theorem State.modCore_pending (s : State) (k : Nat) (f : Core → Core) : (s.modCore k f).pending = s.pending := rfl

@[simp] theorem State.modJob_time (s : State) (k : Nat) (f : JobSt → JobSt) : (s.modJob k f).time = s.time := rfl
@[simp] theorem State.modJob_freeCtr (s : State) (k : Nat) (f : JobSt → JobSt) : (s.modJob k f).freeCtr = s.freeCtr := rfl
@[simp] theorem State.modJob_out (s : State) (k : Nat) (f : JobSt → JobSt) : (s.modJob k f).out = s.out := rfl
@[simp] theorem State.modJob_pins (s : State) (k : Nat) (f : JobSt → JobSt) : (s.modJob k f).pins = s.pins := rfl
@[simp] theorem State.modJob_mode (s : State) (k : Nat) (f : JobSt → JobSt) : (s.modJob k f).mode = s.mode := rfl
@[simp] theorem State.modJob_rings (s : State) (k : Nat) (f : JobSt → JobSt) : (s.modJob k f).rings = s.rings := rfl
@[simp] theorem State.modJob_ints (s : State) (k : Nat) (f : JobSt → JobSt) : (s.modJob k f).ints = s.ints := rfl
@[simp] theorem State.modJob_events (s : State) (k : Nat) (f : JobSt → JobSt) : (s.modJob k f).events = s.events := rfl
@[simp] theorem State.modJob_storm (s : State) (k : Nat) (f : JobSt → JobSt) : (s.modJob k f).storm = s.storm := rfl
@[simp] theorem State.modJob_domains (s : State) (k : Nat) (f : JobSt → JobSt) : (s.modJob k f).domains = s.domains := rfl
@[simp] theorem State.modJob_openSets (s : State) (k : Nat) (f : JobSt → JobSt) : (s.modJob k f).openSets = s.openSets := rfl
@[simp] theorem State.modJob_parts (s : State) (k : Nat) (f : JobSt → JobSt) : (s.modJob k f).parts = s.parts := rfl
@[simp] theorem State.modJob_partSeq (s : State) (k : Nat) (f : JobSt → JobSt) : (s.modJob k f).partSeq = s.partSeq := rfl
@[simp] theorem State.modJob_fused (s : State) (k : Nat) (f : JobSt → JobSt) : (s.modJob k f).fused = s.fused := rfl
@[simp] theorem State.modJob_repair (s : State) (k : Nat) (f : JobSt → JobSt) : (s.modJob k f).repair = s.repair := rfl
@[simp] theorem State.modJob_counters (s : State) (k : Nat) (f : JobSt → JobSt) : (s.modJob k f).counters = s.counters := rfl
@[simp] theorem State.modJob_alarms (s : State) (k : Nat) (f : JobSt → JobSt) : (s.modJob k f).alarms = s.alarms := rfl
@[simp] theorem State.modJob_srcs (s : State) (k : Nat) (f : JobSt → JobSt) : (s.modJob k f).srcs = s.srcs := rfl
@[simp] theorem State.modJob_dsts (s : State) (k : Nat) (f : JobSt → JobSt) : (s.modJob k f).dsts = s.dsts := rfl
@[simp] theorem State.modJob_convs (s : State) (k : Nat) (f : JobSt → JobSt) : (s.modJob k f).convs = s.convs := rfl
@[simp] theorem State.modJob_ains (s : State) (k : Nat) (f : JobSt → JobSt) : (s.modJob k f).ains = s.ains := rfl
@[simp] theorem State.modJob_aouts (s : State) (k : Nat) (f : JobSt → JobSt) : (s.modJob k f).aouts = s.aouts := rfl
@[simp] theorem State.modJob_aports (s : State) (k : Nat) (f : JobSt → JobSt) : (s.modJob k f).aports = s.aports := rfl
@[simp] theorem State.modJob_lanes (s : State) (k : Nat) (f : JobSt → JobSt) : (s.modJob k f).lanes = s.lanes := rfl
@[simp] theorem State.modJob_buses (s : State) (k : Nat) (f : JobSt → JobSt) : (s.modJob k f).buses = s.buses := rfl
@[simp] theorem State.modJob_ports (s : State) (k : Nat) (f : JobSt → JobSt) : (s.modJob k f).ports = s.ports := rfl
@[simp] theorem State.modJob_flows (s : State) (k : Nat) (f : JobSt → JobSt) : (s.modJob k f).flows = s.flows := rfl
@[simp] theorem State.modJob_queues (s : State) (k : Nat) (f : JobSt → JobSt) : (s.modJob k f).queues = s.queues := rfl
@[simp] theorem State.modJob_gates (s : State) (k : Nat) (f : JobSt → JobSt) : (s.modJob k f).gates = s.gates := rfl
@[simp] theorem State.modJob_planes (s : State) (k : Nat) (f : JobSt → JobSt) : (s.modJob k f).planes = s.planes := rfl
@[simp] theorem State.modJob_levee (s : State) (k : Nat) (f : JobSt → JobSt) : (s.modJob k f).levee = s.levee := rfl
@[simp] theorem State.modJob_refs (s : State) (k : Nat) (f : JobSt → JobSt) : (s.modJob k f).refs = s.refs := rfl
@[simp] theorem State.modJob_hg (s : State) (k : Nat) (f : JobSt → JobSt) : (s.modJob k f).hg = s.hg := rfl
@[simp] theorem State.modJob_caps (s : State) (k : Nat) (f : JobSt → JobSt) : (s.modJob k f).caps = s.caps := rfl
@[simp] theorem State.modJob_trigs (s : State) (k : Nat) (f : JobSt → JobSt) : (s.modJob k f).trigs = s.trigs := rfl
@[simp] theorem State.modJob_stems (s : State) (k : Nat) (f : JobSt → JobSt) : (s.modJob k f).stems = s.stems := rfl
@[simp] theorem State.modJob_rends (s : State) (k : Nat) (f : JobSt → JobSt) : (s.modJob k f).rends = s.rends := rfl
@[simp] theorem State.modJob_delivs (s : State) (k : Nat) (f : JobSt → JobSt) : (s.modJob k f).delivs = s.delivs := rfl
@[simp] theorem State.modJob_cores (s : State) (k : Nat) (f : JobSt → JobSt) : (s.modJob k f).cores = s.cores := rfl
@[simp] theorem State.modJob_riders (s : State) (k : Nat) (f : JobSt → JobSt) : (s.modJob k f).riders = s.riders := rfl
@[simp] theorem State.modJob_riderDev (s : State) (k : Nat) (f : JobSt → JobSt) : (s.modJob k f).riderDev = s.riderDev := rfl
@[simp] theorem State.modJob_jobSeq (s : State) (k : Nat) (f : JobSt → JobSt) : (s.modJob k f).jobSeq = s.jobSeq := rfl
@[simp] theorem State.modJob_hostFlows (s : State) (k : Nat) (f : JobSt → JobSt) : (s.modJob k f).hostFlows = s.hostFlows := rfl
@[simp] theorem State.modJob_ctxs (s : State) (k : Nat) (f : JobSt → JobSt) : (s.modJob k f).ctxs = s.ctxs := rfl
@[simp] theorem State.modJob_heads (s : State) (k : Nat) (f : JobSt → JobSt) : (s.modJob k f).heads = s.heads := rfl
@[simp] theorem State.modJob_layers (s : State) (k : Nat) (f : JobSt → JobSt) : (s.modJob k f).layers = s.layers := rfl
@[simp] theorem State.modJob_readback (s : State) (k : Nat) (f : JobSt → JobSt) : (s.modJob k f).readback = s.readback := rfl
@[simp] theorem State.modJob_culverts (s : State) (k : Nat) (f : JobSt → JobSt) : (s.modJob k f).culverts = s.culverts := rfl
@[simp] theorem State.modJob_dramStacks (s : State) (k : Nat) (f : JobSt → JobSt) : (s.modJob k f).dramStacks = s.dramStacks := rfl
@[simp] theorem State.modJob_rmem (s : State) (k : Nat) (f : JobSt → JobSt) : (s.modJob k f).rmem = s.rmem := rfl
@[simp] theorem State.modJob_dram (s : State) (k : Nat) (f : JobSt → JobSt) : (s.modJob k f).dram = s.dram := rfl
@[simp] theorem State.modJob_capStamps (s : State) (k : Nat) (f : JobSt → JobSt) : (s.modJob k f).capStamps = s.capStamps := rfl
@[simp] theorem State.modJob_remap (s : State) (k : Nat) (f : JobSt → JobSt) : (s.modJob k f).remap = s.remap := rfl
@[simp] theorem State.modJob_busReqs (s : State) (k : Nat) (f : JobSt → JobSt) : (s.modJob k f).busReqs = s.busReqs := rfl
@[simp] theorem State.modJob_gauges (s : State) (k : Nat) (f : JobSt → JobSt) : (s.modJob k f).gauges = s.gauges := rfl
@[simp] theorem State.modJob_thermal (s : State) (k : Nat) (f : JobSt → JobSt) : (s.modJob k f).thermal = s.thermal := rfl
@[simp] theorem State.modJob_image (s : State) (k : Nat) (f : JobSt → JobSt) : (s.modJob k f).image = s.image := rfl
@[simp] theorem State.modJob_saved (s : State) (k : Nat) (f : JobSt → JobSt) : (s.modJob k f).saved = s.saved := rfl
@[simp] theorem State.modJob_cal (s : State) (k : Nat) (f : JobSt → JobSt) : (s.modJob k f).cal = s.cal := rfl
@[simp] theorem State.modJob_svc (s : State) (k : Nat) (f : JobSt → JobSt) : (s.modJob k f).svc = s.svc := rfl
@[simp] theorem State.modJob_jtag (s : State) (k : Nat) (f : JobSt → JobSt) : (s.modJob k f).jtag = s.jtag := rfl
@[simp] theorem State.modJob_pending (s : State) (k : Nat) (f : JobSt → JobSt) : (s.modJob k f).pending = s.pending := rfl

@[simp] theorem State.modHostFlow_time (s : State) (k : Nat) (f : HostFlow → HostFlow) : (s.modHostFlow k f).time = s.time := rfl
@[simp] theorem State.modHostFlow_freeCtr (s : State) (k : Nat) (f : HostFlow → HostFlow) : (s.modHostFlow k f).freeCtr = s.freeCtr := rfl
@[simp] theorem State.modHostFlow_out (s : State) (k : Nat) (f : HostFlow → HostFlow) : (s.modHostFlow k f).out = s.out := rfl
@[simp] theorem State.modHostFlow_pins (s : State) (k : Nat) (f : HostFlow → HostFlow) : (s.modHostFlow k f).pins = s.pins := rfl
@[simp] theorem State.modHostFlow_mode (s : State) (k : Nat) (f : HostFlow → HostFlow) : (s.modHostFlow k f).mode = s.mode := rfl
@[simp] theorem State.modHostFlow_rings (s : State) (k : Nat) (f : HostFlow → HostFlow) : (s.modHostFlow k f).rings = s.rings := rfl
@[simp] theorem State.modHostFlow_ints (s : State) (k : Nat) (f : HostFlow → HostFlow) : (s.modHostFlow k f).ints = s.ints := rfl
@[simp] theorem State.modHostFlow_events (s : State) (k : Nat) (f : HostFlow → HostFlow) : (s.modHostFlow k f).events = s.events := rfl
@[simp] theorem State.modHostFlow_storm (s : State) (k : Nat) (f : HostFlow → HostFlow) : (s.modHostFlow k f).storm = s.storm := rfl
@[simp] theorem State.modHostFlow_domains (s : State) (k : Nat) (f : HostFlow → HostFlow) : (s.modHostFlow k f).domains = s.domains := rfl
@[simp] theorem State.modHostFlow_openSets (s : State) (k : Nat) (f : HostFlow → HostFlow) : (s.modHostFlow k f).openSets = s.openSets := rfl
@[simp] theorem State.modHostFlow_parts (s : State) (k : Nat) (f : HostFlow → HostFlow) : (s.modHostFlow k f).parts = s.parts := rfl
@[simp] theorem State.modHostFlow_partSeq (s : State) (k : Nat) (f : HostFlow → HostFlow) : (s.modHostFlow k f).partSeq = s.partSeq := rfl
@[simp] theorem State.modHostFlow_fused (s : State) (k : Nat) (f : HostFlow → HostFlow) : (s.modHostFlow k f).fused = s.fused := rfl
@[simp] theorem State.modHostFlow_repair (s : State) (k : Nat) (f : HostFlow → HostFlow) : (s.modHostFlow k f).repair = s.repair := rfl
@[simp] theorem State.modHostFlow_counters (s : State) (k : Nat) (f : HostFlow → HostFlow) : (s.modHostFlow k f).counters = s.counters := rfl
@[simp] theorem State.modHostFlow_alarms (s : State) (k : Nat) (f : HostFlow → HostFlow) : (s.modHostFlow k f).alarms = s.alarms := rfl
@[simp] theorem State.modHostFlow_srcs (s : State) (k : Nat) (f : HostFlow → HostFlow) : (s.modHostFlow k f).srcs = s.srcs := rfl
@[simp] theorem State.modHostFlow_dsts (s : State) (k : Nat) (f : HostFlow → HostFlow) : (s.modHostFlow k f).dsts = s.dsts := rfl
@[simp] theorem State.modHostFlow_convs (s : State) (k : Nat) (f : HostFlow → HostFlow) : (s.modHostFlow k f).convs = s.convs := rfl
@[simp] theorem State.modHostFlow_ains (s : State) (k : Nat) (f : HostFlow → HostFlow) : (s.modHostFlow k f).ains = s.ains := rfl
@[simp] theorem State.modHostFlow_aouts (s : State) (k : Nat) (f : HostFlow → HostFlow) : (s.modHostFlow k f).aouts = s.aouts := rfl
@[simp] theorem State.modHostFlow_aports (s : State) (k : Nat) (f : HostFlow → HostFlow) : (s.modHostFlow k f).aports = s.aports := rfl
@[simp] theorem State.modHostFlow_lanes (s : State) (k : Nat) (f : HostFlow → HostFlow) : (s.modHostFlow k f).lanes = s.lanes := rfl
@[simp] theorem State.modHostFlow_buses (s : State) (k : Nat) (f : HostFlow → HostFlow) : (s.modHostFlow k f).buses = s.buses := rfl
@[simp] theorem State.modHostFlow_ports (s : State) (k : Nat) (f : HostFlow → HostFlow) : (s.modHostFlow k f).ports = s.ports := rfl
@[simp] theorem State.modHostFlow_flows (s : State) (k : Nat) (f : HostFlow → HostFlow) : (s.modHostFlow k f).flows = s.flows := rfl
@[simp] theorem State.modHostFlow_queues (s : State) (k : Nat) (f : HostFlow → HostFlow) : (s.modHostFlow k f).queues = s.queues := rfl
@[simp] theorem State.modHostFlow_gates (s : State) (k : Nat) (f : HostFlow → HostFlow) : (s.modHostFlow k f).gates = s.gates := rfl
@[simp] theorem State.modHostFlow_planes (s : State) (k : Nat) (f : HostFlow → HostFlow) : (s.modHostFlow k f).planes = s.planes := rfl
@[simp] theorem State.modHostFlow_levee (s : State) (k : Nat) (f : HostFlow → HostFlow) : (s.modHostFlow k f).levee = s.levee := rfl
@[simp] theorem State.modHostFlow_refs (s : State) (k : Nat) (f : HostFlow → HostFlow) : (s.modHostFlow k f).refs = s.refs := rfl
@[simp] theorem State.modHostFlow_hg (s : State) (k : Nat) (f : HostFlow → HostFlow) : (s.modHostFlow k f).hg = s.hg := rfl
@[simp] theorem State.modHostFlow_caps (s : State) (k : Nat) (f : HostFlow → HostFlow) : (s.modHostFlow k f).caps = s.caps := rfl
@[simp] theorem State.modHostFlow_trigs (s : State) (k : Nat) (f : HostFlow → HostFlow) : (s.modHostFlow k f).trigs = s.trigs := rfl
@[simp] theorem State.modHostFlow_stems (s : State) (k : Nat) (f : HostFlow → HostFlow) : (s.modHostFlow k f).stems = s.stems := rfl
@[simp] theorem State.modHostFlow_rends (s : State) (k : Nat) (f : HostFlow → HostFlow) : (s.modHostFlow k f).rends = s.rends := rfl
@[simp] theorem State.modHostFlow_delivs (s : State) (k : Nat) (f : HostFlow → HostFlow) : (s.modHostFlow k f).delivs = s.delivs := rfl
@[simp] theorem State.modHostFlow_cores (s : State) (k : Nat) (f : HostFlow → HostFlow) : (s.modHostFlow k f).cores = s.cores := rfl
@[simp] theorem State.modHostFlow_riders (s : State) (k : Nat) (f : HostFlow → HostFlow) : (s.modHostFlow k f).riders = s.riders := rfl
@[simp] theorem State.modHostFlow_riderDev (s : State) (k : Nat) (f : HostFlow → HostFlow) : (s.modHostFlow k f).riderDev = s.riderDev := rfl
@[simp] theorem State.modHostFlow_jobs (s : State) (k : Nat) (f : HostFlow → HostFlow) : (s.modHostFlow k f).jobs = s.jobs := rfl
@[simp] theorem State.modHostFlow_jobSeq (s : State) (k : Nat) (f : HostFlow → HostFlow) : (s.modHostFlow k f).jobSeq = s.jobSeq := rfl
@[simp] theorem State.modHostFlow_ctxs (s : State) (k : Nat) (f : HostFlow → HostFlow) : (s.modHostFlow k f).ctxs = s.ctxs := rfl
@[simp] theorem State.modHostFlow_heads (s : State) (k : Nat) (f : HostFlow → HostFlow) : (s.modHostFlow k f).heads = s.heads := rfl
@[simp] theorem State.modHostFlow_layers (s : State) (k : Nat) (f : HostFlow → HostFlow) : (s.modHostFlow k f).layers = s.layers := rfl
@[simp] theorem State.modHostFlow_readback (s : State) (k : Nat) (f : HostFlow → HostFlow) : (s.modHostFlow k f).readback = s.readback := rfl
@[simp] theorem State.modHostFlow_culverts (s : State) (k : Nat) (f : HostFlow → HostFlow) : (s.modHostFlow k f).culverts = s.culverts := rfl
@[simp] theorem State.modHostFlow_dramStacks (s : State) (k : Nat) (f : HostFlow → HostFlow) : (s.modHostFlow k f).dramStacks = s.dramStacks := rfl
@[simp] theorem State.modHostFlow_rmem (s : State) (k : Nat) (f : HostFlow → HostFlow) : (s.modHostFlow k f).rmem = s.rmem := rfl
@[simp] theorem State.modHostFlow_dram (s : State) (k : Nat) (f : HostFlow → HostFlow) : (s.modHostFlow k f).dram = s.dram := rfl
@[simp] theorem State.modHostFlow_capStamps (s : State) (k : Nat) (f : HostFlow → HostFlow) : (s.modHostFlow k f).capStamps = s.capStamps := rfl
@[simp] theorem State.modHostFlow_remap (s : State) (k : Nat) (f : HostFlow → HostFlow) : (s.modHostFlow k f).remap = s.remap := rfl
@[simp] theorem State.modHostFlow_busReqs (s : State) (k : Nat) (f : HostFlow → HostFlow) : (s.modHostFlow k f).busReqs = s.busReqs := rfl
@[simp] theorem State.modHostFlow_gauges (s : State) (k : Nat) (f : HostFlow → HostFlow) : (s.modHostFlow k f).gauges = s.gauges := rfl
@[simp] theorem State.modHostFlow_thermal (s : State) (k : Nat) (f : HostFlow → HostFlow) : (s.modHostFlow k f).thermal = s.thermal := rfl
@[simp] theorem State.modHostFlow_image (s : State) (k : Nat) (f : HostFlow → HostFlow) : (s.modHostFlow k f).image = s.image := rfl
@[simp] theorem State.modHostFlow_saved (s : State) (k : Nat) (f : HostFlow → HostFlow) : (s.modHostFlow k f).saved = s.saved := rfl
@[simp] theorem State.modHostFlow_cal (s : State) (k : Nat) (f : HostFlow → HostFlow) : (s.modHostFlow k f).cal = s.cal := rfl
@[simp] theorem State.modHostFlow_svc (s : State) (k : Nat) (f : HostFlow → HostFlow) : (s.modHostFlow k f).svc = s.svc := rfl
@[simp] theorem State.modHostFlow_jtag (s : State) (k : Nat) (f : HostFlow → HostFlow) : (s.modHostFlow k f).jtag = s.jtag := rfl
@[simp] theorem State.modHostFlow_pending (s : State) (k : Nat) (f : HostFlow → HostFlow) : (s.modHostFlow k f).pending = s.pending := rfl

@[simp] theorem State.modCtx_time (s : State) (k : Nat) (f : CtxSt → CtxSt) : (s.modCtx k f).time = s.time := rfl
@[simp] theorem State.modCtx_freeCtr (s : State) (k : Nat) (f : CtxSt → CtxSt) : (s.modCtx k f).freeCtr = s.freeCtr := rfl
@[simp] theorem State.modCtx_out (s : State) (k : Nat) (f : CtxSt → CtxSt) : (s.modCtx k f).out = s.out := rfl
@[simp] theorem State.modCtx_pins (s : State) (k : Nat) (f : CtxSt → CtxSt) : (s.modCtx k f).pins = s.pins := rfl
@[simp] theorem State.modCtx_mode (s : State) (k : Nat) (f : CtxSt → CtxSt) : (s.modCtx k f).mode = s.mode := rfl
@[simp] theorem State.modCtx_rings (s : State) (k : Nat) (f : CtxSt → CtxSt) : (s.modCtx k f).rings = s.rings := rfl
@[simp] theorem State.modCtx_ints (s : State) (k : Nat) (f : CtxSt → CtxSt) : (s.modCtx k f).ints = s.ints := rfl
@[simp] theorem State.modCtx_events (s : State) (k : Nat) (f : CtxSt → CtxSt) : (s.modCtx k f).events = s.events := rfl
@[simp] theorem State.modCtx_storm (s : State) (k : Nat) (f : CtxSt → CtxSt) : (s.modCtx k f).storm = s.storm := rfl
@[simp] theorem State.modCtx_domains (s : State) (k : Nat) (f : CtxSt → CtxSt) : (s.modCtx k f).domains = s.domains := rfl
@[simp] theorem State.modCtx_openSets (s : State) (k : Nat) (f : CtxSt → CtxSt) : (s.modCtx k f).openSets = s.openSets := rfl
@[simp] theorem State.modCtx_parts (s : State) (k : Nat) (f : CtxSt → CtxSt) : (s.modCtx k f).parts = s.parts := rfl
@[simp] theorem State.modCtx_partSeq (s : State) (k : Nat) (f : CtxSt → CtxSt) : (s.modCtx k f).partSeq = s.partSeq := rfl
@[simp] theorem State.modCtx_fused (s : State) (k : Nat) (f : CtxSt → CtxSt) : (s.modCtx k f).fused = s.fused := rfl
@[simp] theorem State.modCtx_repair (s : State) (k : Nat) (f : CtxSt → CtxSt) : (s.modCtx k f).repair = s.repair := rfl
@[simp] theorem State.modCtx_counters (s : State) (k : Nat) (f : CtxSt → CtxSt) : (s.modCtx k f).counters = s.counters := rfl
@[simp] theorem State.modCtx_alarms (s : State) (k : Nat) (f : CtxSt → CtxSt) : (s.modCtx k f).alarms = s.alarms := rfl
@[simp] theorem State.modCtx_srcs (s : State) (k : Nat) (f : CtxSt → CtxSt) : (s.modCtx k f).srcs = s.srcs := rfl
@[simp] theorem State.modCtx_dsts (s : State) (k : Nat) (f : CtxSt → CtxSt) : (s.modCtx k f).dsts = s.dsts := rfl
@[simp] theorem State.modCtx_convs (s : State) (k : Nat) (f : CtxSt → CtxSt) : (s.modCtx k f).convs = s.convs := rfl
@[simp] theorem State.modCtx_ains (s : State) (k : Nat) (f : CtxSt → CtxSt) : (s.modCtx k f).ains = s.ains := rfl
@[simp] theorem State.modCtx_aouts (s : State) (k : Nat) (f : CtxSt → CtxSt) : (s.modCtx k f).aouts = s.aouts := rfl
@[simp] theorem State.modCtx_aports (s : State) (k : Nat) (f : CtxSt → CtxSt) : (s.modCtx k f).aports = s.aports := rfl
@[simp] theorem State.modCtx_lanes (s : State) (k : Nat) (f : CtxSt → CtxSt) : (s.modCtx k f).lanes = s.lanes := rfl
@[simp] theorem State.modCtx_buses (s : State) (k : Nat) (f : CtxSt → CtxSt) : (s.modCtx k f).buses = s.buses := rfl
@[simp] theorem State.modCtx_ports (s : State) (k : Nat) (f : CtxSt → CtxSt) : (s.modCtx k f).ports = s.ports := rfl
@[simp] theorem State.modCtx_flows (s : State) (k : Nat) (f : CtxSt → CtxSt) : (s.modCtx k f).flows = s.flows := rfl
@[simp] theorem State.modCtx_queues (s : State) (k : Nat) (f : CtxSt → CtxSt) : (s.modCtx k f).queues = s.queues := rfl
@[simp] theorem State.modCtx_gates (s : State) (k : Nat) (f : CtxSt → CtxSt) : (s.modCtx k f).gates = s.gates := rfl
@[simp] theorem State.modCtx_planes (s : State) (k : Nat) (f : CtxSt → CtxSt) : (s.modCtx k f).planes = s.planes := rfl
@[simp] theorem State.modCtx_levee (s : State) (k : Nat) (f : CtxSt → CtxSt) : (s.modCtx k f).levee = s.levee := rfl
@[simp] theorem State.modCtx_refs (s : State) (k : Nat) (f : CtxSt → CtxSt) : (s.modCtx k f).refs = s.refs := rfl
@[simp] theorem State.modCtx_hg (s : State) (k : Nat) (f : CtxSt → CtxSt) : (s.modCtx k f).hg = s.hg := rfl
@[simp] theorem State.modCtx_caps (s : State) (k : Nat) (f : CtxSt → CtxSt) : (s.modCtx k f).caps = s.caps := rfl
@[simp] theorem State.modCtx_trigs (s : State) (k : Nat) (f : CtxSt → CtxSt) : (s.modCtx k f).trigs = s.trigs := rfl
@[simp] theorem State.modCtx_stems (s : State) (k : Nat) (f : CtxSt → CtxSt) : (s.modCtx k f).stems = s.stems := rfl
@[simp] theorem State.modCtx_rends (s : State) (k : Nat) (f : CtxSt → CtxSt) : (s.modCtx k f).rends = s.rends := rfl
@[simp] theorem State.modCtx_delivs (s : State) (k : Nat) (f : CtxSt → CtxSt) : (s.modCtx k f).delivs = s.delivs := rfl
@[simp] theorem State.modCtx_cores (s : State) (k : Nat) (f : CtxSt → CtxSt) : (s.modCtx k f).cores = s.cores := rfl
@[simp] theorem State.modCtx_riders (s : State) (k : Nat) (f : CtxSt → CtxSt) : (s.modCtx k f).riders = s.riders := rfl
@[simp] theorem State.modCtx_riderDev (s : State) (k : Nat) (f : CtxSt → CtxSt) : (s.modCtx k f).riderDev = s.riderDev := rfl
@[simp] theorem State.modCtx_jobs (s : State) (k : Nat) (f : CtxSt → CtxSt) : (s.modCtx k f).jobs = s.jobs := rfl
@[simp] theorem State.modCtx_jobSeq (s : State) (k : Nat) (f : CtxSt → CtxSt) : (s.modCtx k f).jobSeq = s.jobSeq := rfl
@[simp] theorem State.modCtx_hostFlows (s : State) (k : Nat) (f : CtxSt → CtxSt) : (s.modCtx k f).hostFlows = s.hostFlows := rfl
@[simp] theorem State.modCtx_heads (s : State) (k : Nat) (f : CtxSt → CtxSt) : (s.modCtx k f).heads = s.heads := rfl
@[simp] theorem State.modCtx_layers (s : State) (k : Nat) (f : CtxSt → CtxSt) : (s.modCtx k f).layers = s.layers := rfl
@[simp] theorem State.modCtx_readback (s : State) (k : Nat) (f : CtxSt → CtxSt) : (s.modCtx k f).readback = s.readback := rfl
@[simp] theorem State.modCtx_culverts (s : State) (k : Nat) (f : CtxSt → CtxSt) : (s.modCtx k f).culverts = s.culverts := rfl
@[simp] theorem State.modCtx_dramStacks (s : State) (k : Nat) (f : CtxSt → CtxSt) : (s.modCtx k f).dramStacks = s.dramStacks := rfl
@[simp] theorem State.modCtx_rmem (s : State) (k : Nat) (f : CtxSt → CtxSt) : (s.modCtx k f).rmem = s.rmem := rfl
@[simp] theorem State.modCtx_dram (s : State) (k : Nat) (f : CtxSt → CtxSt) : (s.modCtx k f).dram = s.dram := rfl
@[simp] theorem State.modCtx_capStamps (s : State) (k : Nat) (f : CtxSt → CtxSt) : (s.modCtx k f).capStamps = s.capStamps := rfl
@[simp] theorem State.modCtx_remap (s : State) (k : Nat) (f : CtxSt → CtxSt) : (s.modCtx k f).remap = s.remap := rfl
@[simp] theorem State.modCtx_busReqs (s : State) (k : Nat) (f : CtxSt → CtxSt) : (s.modCtx k f).busReqs = s.busReqs := rfl
@[simp] theorem State.modCtx_gauges (s : State) (k : Nat) (f : CtxSt → CtxSt) : (s.modCtx k f).gauges = s.gauges := rfl
@[simp] theorem State.modCtx_thermal (s : State) (k : Nat) (f : CtxSt → CtxSt) : (s.modCtx k f).thermal = s.thermal := rfl
@[simp] theorem State.modCtx_image (s : State) (k : Nat) (f : CtxSt → CtxSt) : (s.modCtx k f).image = s.image := rfl
@[simp] theorem State.modCtx_saved (s : State) (k : Nat) (f : CtxSt → CtxSt) : (s.modCtx k f).saved = s.saved := rfl
@[simp] theorem State.modCtx_cal (s : State) (k : Nat) (f : CtxSt → CtxSt) : (s.modCtx k f).cal = s.cal := rfl
@[simp] theorem State.modCtx_svc (s : State) (k : Nat) (f : CtxSt → CtxSt) : (s.modCtx k f).svc = s.svc := rfl
@[simp] theorem State.modCtx_jtag (s : State) (k : Nat) (f : CtxSt → CtxSt) : (s.modCtx k f).jtag = s.jtag := rfl
@[simp] theorem State.modCtx_pending (s : State) (k : Nat) (f : CtxSt → CtxSt) : (s.modCtx k f).pending = s.pending := rfl

@[simp] theorem State.modLayer_time (s : State) (k : Nat) (f : LayerSt → LayerSt) : (s.modLayer k f).time = s.time := rfl
@[simp] theorem State.modLayer_freeCtr (s : State) (k : Nat) (f : LayerSt → LayerSt) : (s.modLayer k f).freeCtr = s.freeCtr := rfl
@[simp] theorem State.modLayer_out (s : State) (k : Nat) (f : LayerSt → LayerSt) : (s.modLayer k f).out = s.out := rfl
@[simp] theorem State.modLayer_pins (s : State) (k : Nat) (f : LayerSt → LayerSt) : (s.modLayer k f).pins = s.pins := rfl
@[simp] theorem State.modLayer_mode (s : State) (k : Nat) (f : LayerSt → LayerSt) : (s.modLayer k f).mode = s.mode := rfl
@[simp] theorem State.modLayer_rings (s : State) (k : Nat) (f : LayerSt → LayerSt) : (s.modLayer k f).rings = s.rings := rfl
@[simp] theorem State.modLayer_ints (s : State) (k : Nat) (f : LayerSt → LayerSt) : (s.modLayer k f).ints = s.ints := rfl
@[simp] theorem State.modLayer_events (s : State) (k : Nat) (f : LayerSt → LayerSt) : (s.modLayer k f).events = s.events := rfl
@[simp] theorem State.modLayer_storm (s : State) (k : Nat) (f : LayerSt → LayerSt) : (s.modLayer k f).storm = s.storm := rfl
@[simp] theorem State.modLayer_domains (s : State) (k : Nat) (f : LayerSt → LayerSt) : (s.modLayer k f).domains = s.domains := rfl
@[simp] theorem State.modLayer_openSets (s : State) (k : Nat) (f : LayerSt → LayerSt) : (s.modLayer k f).openSets = s.openSets := rfl
@[simp] theorem State.modLayer_parts (s : State) (k : Nat) (f : LayerSt → LayerSt) : (s.modLayer k f).parts = s.parts := rfl
@[simp] theorem State.modLayer_partSeq (s : State) (k : Nat) (f : LayerSt → LayerSt) : (s.modLayer k f).partSeq = s.partSeq := rfl
@[simp] theorem State.modLayer_fused (s : State) (k : Nat) (f : LayerSt → LayerSt) : (s.modLayer k f).fused = s.fused := rfl
@[simp] theorem State.modLayer_repair (s : State) (k : Nat) (f : LayerSt → LayerSt) : (s.modLayer k f).repair = s.repair := rfl
@[simp] theorem State.modLayer_counters (s : State) (k : Nat) (f : LayerSt → LayerSt) : (s.modLayer k f).counters = s.counters := rfl
@[simp] theorem State.modLayer_alarms (s : State) (k : Nat) (f : LayerSt → LayerSt) : (s.modLayer k f).alarms = s.alarms := rfl
@[simp] theorem State.modLayer_srcs (s : State) (k : Nat) (f : LayerSt → LayerSt) : (s.modLayer k f).srcs = s.srcs := rfl
@[simp] theorem State.modLayer_dsts (s : State) (k : Nat) (f : LayerSt → LayerSt) : (s.modLayer k f).dsts = s.dsts := rfl
@[simp] theorem State.modLayer_convs (s : State) (k : Nat) (f : LayerSt → LayerSt) : (s.modLayer k f).convs = s.convs := rfl
@[simp] theorem State.modLayer_ains (s : State) (k : Nat) (f : LayerSt → LayerSt) : (s.modLayer k f).ains = s.ains := rfl
@[simp] theorem State.modLayer_aouts (s : State) (k : Nat) (f : LayerSt → LayerSt) : (s.modLayer k f).aouts = s.aouts := rfl
@[simp] theorem State.modLayer_aports (s : State) (k : Nat) (f : LayerSt → LayerSt) : (s.modLayer k f).aports = s.aports := rfl
@[simp] theorem State.modLayer_lanes (s : State) (k : Nat) (f : LayerSt → LayerSt) : (s.modLayer k f).lanes = s.lanes := rfl
@[simp] theorem State.modLayer_buses (s : State) (k : Nat) (f : LayerSt → LayerSt) : (s.modLayer k f).buses = s.buses := rfl
@[simp] theorem State.modLayer_ports (s : State) (k : Nat) (f : LayerSt → LayerSt) : (s.modLayer k f).ports = s.ports := rfl
@[simp] theorem State.modLayer_flows (s : State) (k : Nat) (f : LayerSt → LayerSt) : (s.modLayer k f).flows = s.flows := rfl
@[simp] theorem State.modLayer_queues (s : State) (k : Nat) (f : LayerSt → LayerSt) : (s.modLayer k f).queues = s.queues := rfl
@[simp] theorem State.modLayer_gates (s : State) (k : Nat) (f : LayerSt → LayerSt) : (s.modLayer k f).gates = s.gates := rfl
@[simp] theorem State.modLayer_planes (s : State) (k : Nat) (f : LayerSt → LayerSt) : (s.modLayer k f).planes = s.planes := rfl
@[simp] theorem State.modLayer_levee (s : State) (k : Nat) (f : LayerSt → LayerSt) : (s.modLayer k f).levee = s.levee := rfl
@[simp] theorem State.modLayer_refs (s : State) (k : Nat) (f : LayerSt → LayerSt) : (s.modLayer k f).refs = s.refs := rfl
@[simp] theorem State.modLayer_hg (s : State) (k : Nat) (f : LayerSt → LayerSt) : (s.modLayer k f).hg = s.hg := rfl
@[simp] theorem State.modLayer_caps (s : State) (k : Nat) (f : LayerSt → LayerSt) : (s.modLayer k f).caps = s.caps := rfl
@[simp] theorem State.modLayer_trigs (s : State) (k : Nat) (f : LayerSt → LayerSt) : (s.modLayer k f).trigs = s.trigs := rfl
@[simp] theorem State.modLayer_stems (s : State) (k : Nat) (f : LayerSt → LayerSt) : (s.modLayer k f).stems = s.stems := rfl
@[simp] theorem State.modLayer_rends (s : State) (k : Nat) (f : LayerSt → LayerSt) : (s.modLayer k f).rends = s.rends := rfl
@[simp] theorem State.modLayer_delivs (s : State) (k : Nat) (f : LayerSt → LayerSt) : (s.modLayer k f).delivs = s.delivs := rfl
@[simp] theorem State.modLayer_cores (s : State) (k : Nat) (f : LayerSt → LayerSt) : (s.modLayer k f).cores = s.cores := rfl
@[simp] theorem State.modLayer_riders (s : State) (k : Nat) (f : LayerSt → LayerSt) : (s.modLayer k f).riders = s.riders := rfl
@[simp] theorem State.modLayer_riderDev (s : State) (k : Nat) (f : LayerSt → LayerSt) : (s.modLayer k f).riderDev = s.riderDev := rfl
@[simp] theorem State.modLayer_jobs (s : State) (k : Nat) (f : LayerSt → LayerSt) : (s.modLayer k f).jobs = s.jobs := rfl
@[simp] theorem State.modLayer_jobSeq (s : State) (k : Nat) (f : LayerSt → LayerSt) : (s.modLayer k f).jobSeq = s.jobSeq := rfl
@[simp] theorem State.modLayer_hostFlows (s : State) (k : Nat) (f : LayerSt → LayerSt) : (s.modLayer k f).hostFlows = s.hostFlows := rfl
@[simp] theorem State.modLayer_ctxs (s : State) (k : Nat) (f : LayerSt → LayerSt) : (s.modLayer k f).ctxs = s.ctxs := rfl
@[simp] theorem State.modLayer_heads (s : State) (k : Nat) (f : LayerSt → LayerSt) : (s.modLayer k f).heads = s.heads := rfl
@[simp] theorem State.modLayer_readback (s : State) (k : Nat) (f : LayerSt → LayerSt) : (s.modLayer k f).readback = s.readback := rfl
@[simp] theorem State.modLayer_culverts (s : State) (k : Nat) (f : LayerSt → LayerSt) : (s.modLayer k f).culverts = s.culverts := rfl
@[simp] theorem State.modLayer_dramStacks (s : State) (k : Nat) (f : LayerSt → LayerSt) : (s.modLayer k f).dramStacks = s.dramStacks := rfl
@[simp] theorem State.modLayer_rmem (s : State) (k : Nat) (f : LayerSt → LayerSt) : (s.modLayer k f).rmem = s.rmem := rfl
@[simp] theorem State.modLayer_dram (s : State) (k : Nat) (f : LayerSt → LayerSt) : (s.modLayer k f).dram = s.dram := rfl
@[simp] theorem State.modLayer_capStamps (s : State) (k : Nat) (f : LayerSt → LayerSt) : (s.modLayer k f).capStamps = s.capStamps := rfl
@[simp] theorem State.modLayer_remap (s : State) (k : Nat) (f : LayerSt → LayerSt) : (s.modLayer k f).remap = s.remap := rfl
@[simp] theorem State.modLayer_busReqs (s : State) (k : Nat) (f : LayerSt → LayerSt) : (s.modLayer k f).busReqs = s.busReqs := rfl
@[simp] theorem State.modLayer_gauges (s : State) (k : Nat) (f : LayerSt → LayerSt) : (s.modLayer k f).gauges = s.gauges := rfl
@[simp] theorem State.modLayer_thermal (s : State) (k : Nat) (f : LayerSt → LayerSt) : (s.modLayer k f).thermal = s.thermal := rfl
@[simp] theorem State.modLayer_image (s : State) (k : Nat) (f : LayerSt → LayerSt) : (s.modLayer k f).image = s.image := rfl
@[simp] theorem State.modLayer_saved (s : State) (k : Nat) (f : LayerSt → LayerSt) : (s.modLayer k f).saved = s.saved := rfl
@[simp] theorem State.modLayer_cal (s : State) (k : Nat) (f : LayerSt → LayerSt) : (s.modLayer k f).cal = s.cal := rfl
@[simp] theorem State.modLayer_svc (s : State) (k : Nat) (f : LayerSt → LayerSt) : (s.modLayer k f).svc = s.svc := rfl
@[simp] theorem State.modLayer_jtag (s : State) (k : Nat) (f : LayerSt → LayerSt) : (s.modLayer k f).jtag = s.jtag := rfl
@[simp] theorem State.modLayer_pending (s : State) (k : Nat) (f : LayerSt → LayerSt) : (s.modLayer k f).pending = s.pending := rfl

@[simp] theorem State.modGauge_time (s : State) (k : Nat) (f : GaugeSt → GaugeSt) : (s.modGauge k f).time = s.time := rfl
@[simp] theorem State.modGauge_freeCtr (s : State) (k : Nat) (f : GaugeSt → GaugeSt) : (s.modGauge k f).freeCtr = s.freeCtr := rfl
@[simp] theorem State.modGauge_out (s : State) (k : Nat) (f : GaugeSt → GaugeSt) : (s.modGauge k f).out = s.out := rfl
@[simp] theorem State.modGauge_pins (s : State) (k : Nat) (f : GaugeSt → GaugeSt) : (s.modGauge k f).pins = s.pins := rfl
@[simp] theorem State.modGauge_mode (s : State) (k : Nat) (f : GaugeSt → GaugeSt) : (s.modGauge k f).mode = s.mode := rfl
@[simp] theorem State.modGauge_rings (s : State) (k : Nat) (f : GaugeSt → GaugeSt) : (s.modGauge k f).rings = s.rings := rfl
@[simp] theorem State.modGauge_ints (s : State) (k : Nat) (f : GaugeSt → GaugeSt) : (s.modGauge k f).ints = s.ints := rfl
@[simp] theorem State.modGauge_events (s : State) (k : Nat) (f : GaugeSt → GaugeSt) : (s.modGauge k f).events = s.events := rfl
@[simp] theorem State.modGauge_storm (s : State) (k : Nat) (f : GaugeSt → GaugeSt) : (s.modGauge k f).storm = s.storm := rfl
@[simp] theorem State.modGauge_domains (s : State) (k : Nat) (f : GaugeSt → GaugeSt) : (s.modGauge k f).domains = s.domains := rfl
@[simp] theorem State.modGauge_openSets (s : State) (k : Nat) (f : GaugeSt → GaugeSt) : (s.modGauge k f).openSets = s.openSets := rfl
@[simp] theorem State.modGauge_parts (s : State) (k : Nat) (f : GaugeSt → GaugeSt) : (s.modGauge k f).parts = s.parts := rfl
@[simp] theorem State.modGauge_partSeq (s : State) (k : Nat) (f : GaugeSt → GaugeSt) : (s.modGauge k f).partSeq = s.partSeq := rfl
@[simp] theorem State.modGauge_fused (s : State) (k : Nat) (f : GaugeSt → GaugeSt) : (s.modGauge k f).fused = s.fused := rfl
@[simp] theorem State.modGauge_repair (s : State) (k : Nat) (f : GaugeSt → GaugeSt) : (s.modGauge k f).repair = s.repair := rfl
@[simp] theorem State.modGauge_counters (s : State) (k : Nat) (f : GaugeSt → GaugeSt) : (s.modGauge k f).counters = s.counters := rfl
@[simp] theorem State.modGauge_alarms (s : State) (k : Nat) (f : GaugeSt → GaugeSt) : (s.modGauge k f).alarms = s.alarms := rfl
@[simp] theorem State.modGauge_srcs (s : State) (k : Nat) (f : GaugeSt → GaugeSt) : (s.modGauge k f).srcs = s.srcs := rfl
@[simp] theorem State.modGauge_dsts (s : State) (k : Nat) (f : GaugeSt → GaugeSt) : (s.modGauge k f).dsts = s.dsts := rfl
@[simp] theorem State.modGauge_convs (s : State) (k : Nat) (f : GaugeSt → GaugeSt) : (s.modGauge k f).convs = s.convs := rfl
@[simp] theorem State.modGauge_ains (s : State) (k : Nat) (f : GaugeSt → GaugeSt) : (s.modGauge k f).ains = s.ains := rfl
@[simp] theorem State.modGauge_aouts (s : State) (k : Nat) (f : GaugeSt → GaugeSt) : (s.modGauge k f).aouts = s.aouts := rfl
@[simp] theorem State.modGauge_aports (s : State) (k : Nat) (f : GaugeSt → GaugeSt) : (s.modGauge k f).aports = s.aports := rfl
@[simp] theorem State.modGauge_lanes (s : State) (k : Nat) (f : GaugeSt → GaugeSt) : (s.modGauge k f).lanes = s.lanes := rfl
@[simp] theorem State.modGauge_buses (s : State) (k : Nat) (f : GaugeSt → GaugeSt) : (s.modGauge k f).buses = s.buses := rfl
@[simp] theorem State.modGauge_ports (s : State) (k : Nat) (f : GaugeSt → GaugeSt) : (s.modGauge k f).ports = s.ports := rfl
@[simp] theorem State.modGauge_flows (s : State) (k : Nat) (f : GaugeSt → GaugeSt) : (s.modGauge k f).flows = s.flows := rfl
@[simp] theorem State.modGauge_queues (s : State) (k : Nat) (f : GaugeSt → GaugeSt) : (s.modGauge k f).queues = s.queues := rfl
@[simp] theorem State.modGauge_gates (s : State) (k : Nat) (f : GaugeSt → GaugeSt) : (s.modGauge k f).gates = s.gates := rfl
@[simp] theorem State.modGauge_planes (s : State) (k : Nat) (f : GaugeSt → GaugeSt) : (s.modGauge k f).planes = s.planes := rfl
@[simp] theorem State.modGauge_levee (s : State) (k : Nat) (f : GaugeSt → GaugeSt) : (s.modGauge k f).levee = s.levee := rfl
@[simp] theorem State.modGauge_refs (s : State) (k : Nat) (f : GaugeSt → GaugeSt) : (s.modGauge k f).refs = s.refs := rfl
@[simp] theorem State.modGauge_hg (s : State) (k : Nat) (f : GaugeSt → GaugeSt) : (s.modGauge k f).hg = s.hg := rfl
@[simp] theorem State.modGauge_caps (s : State) (k : Nat) (f : GaugeSt → GaugeSt) : (s.modGauge k f).caps = s.caps := rfl
@[simp] theorem State.modGauge_trigs (s : State) (k : Nat) (f : GaugeSt → GaugeSt) : (s.modGauge k f).trigs = s.trigs := rfl
@[simp] theorem State.modGauge_stems (s : State) (k : Nat) (f : GaugeSt → GaugeSt) : (s.modGauge k f).stems = s.stems := rfl
@[simp] theorem State.modGauge_rends (s : State) (k : Nat) (f : GaugeSt → GaugeSt) : (s.modGauge k f).rends = s.rends := rfl
@[simp] theorem State.modGauge_delivs (s : State) (k : Nat) (f : GaugeSt → GaugeSt) : (s.modGauge k f).delivs = s.delivs := rfl
@[simp] theorem State.modGauge_cores (s : State) (k : Nat) (f : GaugeSt → GaugeSt) : (s.modGauge k f).cores = s.cores := rfl
@[simp] theorem State.modGauge_riders (s : State) (k : Nat) (f : GaugeSt → GaugeSt) : (s.modGauge k f).riders = s.riders := rfl
@[simp] theorem State.modGauge_riderDev (s : State) (k : Nat) (f : GaugeSt → GaugeSt) : (s.modGauge k f).riderDev = s.riderDev := rfl
@[simp] theorem State.modGauge_jobs (s : State) (k : Nat) (f : GaugeSt → GaugeSt) : (s.modGauge k f).jobs = s.jobs := rfl
@[simp] theorem State.modGauge_jobSeq (s : State) (k : Nat) (f : GaugeSt → GaugeSt) : (s.modGauge k f).jobSeq = s.jobSeq := rfl
@[simp] theorem State.modGauge_hostFlows (s : State) (k : Nat) (f : GaugeSt → GaugeSt) : (s.modGauge k f).hostFlows = s.hostFlows := rfl
@[simp] theorem State.modGauge_ctxs (s : State) (k : Nat) (f : GaugeSt → GaugeSt) : (s.modGauge k f).ctxs = s.ctxs := rfl
@[simp] theorem State.modGauge_heads (s : State) (k : Nat) (f : GaugeSt → GaugeSt) : (s.modGauge k f).heads = s.heads := rfl
@[simp] theorem State.modGauge_layers (s : State) (k : Nat) (f : GaugeSt → GaugeSt) : (s.modGauge k f).layers = s.layers := rfl
@[simp] theorem State.modGauge_readback (s : State) (k : Nat) (f : GaugeSt → GaugeSt) : (s.modGauge k f).readback = s.readback := rfl
@[simp] theorem State.modGauge_culverts (s : State) (k : Nat) (f : GaugeSt → GaugeSt) : (s.modGauge k f).culverts = s.culverts := rfl
@[simp] theorem State.modGauge_dramStacks (s : State) (k : Nat) (f : GaugeSt → GaugeSt) : (s.modGauge k f).dramStacks = s.dramStacks := rfl
@[simp] theorem State.modGauge_rmem (s : State) (k : Nat) (f : GaugeSt → GaugeSt) : (s.modGauge k f).rmem = s.rmem := rfl
@[simp] theorem State.modGauge_dram (s : State) (k : Nat) (f : GaugeSt → GaugeSt) : (s.modGauge k f).dram = s.dram := rfl
@[simp] theorem State.modGauge_capStamps (s : State) (k : Nat) (f : GaugeSt → GaugeSt) : (s.modGauge k f).capStamps = s.capStamps := rfl
@[simp] theorem State.modGauge_remap (s : State) (k : Nat) (f : GaugeSt → GaugeSt) : (s.modGauge k f).remap = s.remap := rfl
@[simp] theorem State.modGauge_busReqs (s : State) (k : Nat) (f : GaugeSt → GaugeSt) : (s.modGauge k f).busReqs = s.busReqs := rfl
@[simp] theorem State.modGauge_thermal (s : State) (k : Nat) (f : GaugeSt → GaugeSt) : (s.modGauge k f).thermal = s.thermal := rfl
@[simp] theorem State.modGauge_image (s : State) (k : Nat) (f : GaugeSt → GaugeSt) : (s.modGauge k f).image = s.image := rfl
@[simp] theorem State.modGauge_saved (s : State) (k : Nat) (f : GaugeSt → GaugeSt) : (s.modGauge k f).saved = s.saved := rfl
@[simp] theorem State.modGauge_cal (s : State) (k : Nat) (f : GaugeSt → GaugeSt) : (s.modGauge k f).cal = s.cal := rfl
@[simp] theorem State.modGauge_svc (s : State) (k : Nat) (f : GaugeSt → GaugeSt) : (s.modGauge k f).svc = s.svc := rfl
@[simp] theorem State.modGauge_jtag (s : State) (k : Nat) (f : GaugeSt → GaugeSt) : (s.modGauge k f).jtag = s.jtag := rfl
@[simp] theorem State.modGauge_pending (s : State) (k : Nat) (f : GaugeSt → GaugeSt) : (s.modGauge k f).pending = s.pending := rfl

@[simp] theorem State.modRing_time (s : State) (k : Nat) (f : Ring → Ring) : (s.modRing k f).time = s.time := rfl
@[simp] theorem State.modRing_freeCtr (s : State) (k : Nat) (f : Ring → Ring) : (s.modRing k f).freeCtr = s.freeCtr := rfl
@[simp] theorem State.modRing_out (s : State) (k : Nat) (f : Ring → Ring) : (s.modRing k f).out = s.out := rfl
@[simp] theorem State.modRing_pins (s : State) (k : Nat) (f : Ring → Ring) : (s.modRing k f).pins = s.pins := rfl
@[simp] theorem State.modRing_mode (s : State) (k : Nat) (f : Ring → Ring) : (s.modRing k f).mode = s.mode := rfl
@[simp] theorem State.modRing_ints (s : State) (k : Nat) (f : Ring → Ring) : (s.modRing k f).ints = s.ints := rfl
@[simp] theorem State.modRing_events (s : State) (k : Nat) (f : Ring → Ring) : (s.modRing k f).events = s.events := rfl
@[simp] theorem State.modRing_storm (s : State) (k : Nat) (f : Ring → Ring) : (s.modRing k f).storm = s.storm := rfl
@[simp] theorem State.modRing_domains (s : State) (k : Nat) (f : Ring → Ring) : (s.modRing k f).domains = s.domains := rfl
@[simp] theorem State.modRing_openSets (s : State) (k : Nat) (f : Ring → Ring) : (s.modRing k f).openSets = s.openSets := rfl
@[simp] theorem State.modRing_parts (s : State) (k : Nat) (f : Ring → Ring) : (s.modRing k f).parts = s.parts := rfl
@[simp] theorem State.modRing_partSeq (s : State) (k : Nat) (f : Ring → Ring) : (s.modRing k f).partSeq = s.partSeq := rfl
@[simp] theorem State.modRing_fused (s : State) (k : Nat) (f : Ring → Ring) : (s.modRing k f).fused = s.fused := rfl
@[simp] theorem State.modRing_repair (s : State) (k : Nat) (f : Ring → Ring) : (s.modRing k f).repair = s.repair := rfl
@[simp] theorem State.modRing_counters (s : State) (k : Nat) (f : Ring → Ring) : (s.modRing k f).counters = s.counters := rfl
@[simp] theorem State.modRing_alarms (s : State) (k : Nat) (f : Ring → Ring) : (s.modRing k f).alarms = s.alarms := rfl
@[simp] theorem State.modRing_srcs (s : State) (k : Nat) (f : Ring → Ring) : (s.modRing k f).srcs = s.srcs := rfl
@[simp] theorem State.modRing_dsts (s : State) (k : Nat) (f : Ring → Ring) : (s.modRing k f).dsts = s.dsts := rfl
@[simp] theorem State.modRing_convs (s : State) (k : Nat) (f : Ring → Ring) : (s.modRing k f).convs = s.convs := rfl
@[simp] theorem State.modRing_ains (s : State) (k : Nat) (f : Ring → Ring) : (s.modRing k f).ains = s.ains := rfl
@[simp] theorem State.modRing_aouts (s : State) (k : Nat) (f : Ring → Ring) : (s.modRing k f).aouts = s.aouts := rfl
@[simp] theorem State.modRing_aports (s : State) (k : Nat) (f : Ring → Ring) : (s.modRing k f).aports = s.aports := rfl
@[simp] theorem State.modRing_lanes (s : State) (k : Nat) (f : Ring → Ring) : (s.modRing k f).lanes = s.lanes := rfl
@[simp] theorem State.modRing_buses (s : State) (k : Nat) (f : Ring → Ring) : (s.modRing k f).buses = s.buses := rfl
@[simp] theorem State.modRing_ports (s : State) (k : Nat) (f : Ring → Ring) : (s.modRing k f).ports = s.ports := rfl
@[simp] theorem State.modRing_flows (s : State) (k : Nat) (f : Ring → Ring) : (s.modRing k f).flows = s.flows := rfl
@[simp] theorem State.modRing_queues (s : State) (k : Nat) (f : Ring → Ring) : (s.modRing k f).queues = s.queues := rfl
@[simp] theorem State.modRing_gates (s : State) (k : Nat) (f : Ring → Ring) : (s.modRing k f).gates = s.gates := rfl
@[simp] theorem State.modRing_planes (s : State) (k : Nat) (f : Ring → Ring) : (s.modRing k f).planes = s.planes := rfl
@[simp] theorem State.modRing_levee (s : State) (k : Nat) (f : Ring → Ring) : (s.modRing k f).levee = s.levee := rfl
@[simp] theorem State.modRing_refs (s : State) (k : Nat) (f : Ring → Ring) : (s.modRing k f).refs = s.refs := rfl
@[simp] theorem State.modRing_hg (s : State) (k : Nat) (f : Ring → Ring) : (s.modRing k f).hg = s.hg := rfl
@[simp] theorem State.modRing_caps (s : State) (k : Nat) (f : Ring → Ring) : (s.modRing k f).caps = s.caps := rfl
@[simp] theorem State.modRing_trigs (s : State) (k : Nat) (f : Ring → Ring) : (s.modRing k f).trigs = s.trigs := rfl
@[simp] theorem State.modRing_stems (s : State) (k : Nat) (f : Ring → Ring) : (s.modRing k f).stems = s.stems := rfl
@[simp] theorem State.modRing_rends (s : State) (k : Nat) (f : Ring → Ring) : (s.modRing k f).rends = s.rends := rfl
@[simp] theorem State.modRing_delivs (s : State) (k : Nat) (f : Ring → Ring) : (s.modRing k f).delivs = s.delivs := rfl
@[simp] theorem State.modRing_cores (s : State) (k : Nat) (f : Ring → Ring) : (s.modRing k f).cores = s.cores := rfl
@[simp] theorem State.modRing_riders (s : State) (k : Nat) (f : Ring → Ring) : (s.modRing k f).riders = s.riders := rfl
@[simp] theorem State.modRing_riderDev (s : State) (k : Nat) (f : Ring → Ring) : (s.modRing k f).riderDev = s.riderDev := rfl
@[simp] theorem State.modRing_jobs (s : State) (k : Nat) (f : Ring → Ring) : (s.modRing k f).jobs = s.jobs := rfl
@[simp] theorem State.modRing_jobSeq (s : State) (k : Nat) (f : Ring → Ring) : (s.modRing k f).jobSeq = s.jobSeq := rfl
@[simp] theorem State.modRing_hostFlows (s : State) (k : Nat) (f : Ring → Ring) : (s.modRing k f).hostFlows = s.hostFlows := rfl
@[simp] theorem State.modRing_ctxs (s : State) (k : Nat) (f : Ring → Ring) : (s.modRing k f).ctxs = s.ctxs := rfl
@[simp] theorem State.modRing_heads (s : State) (k : Nat) (f : Ring → Ring) : (s.modRing k f).heads = s.heads := rfl
@[simp] theorem State.modRing_layers (s : State) (k : Nat) (f : Ring → Ring) : (s.modRing k f).layers = s.layers := rfl
@[simp] theorem State.modRing_readback (s : State) (k : Nat) (f : Ring → Ring) : (s.modRing k f).readback = s.readback := rfl
@[simp] theorem State.modRing_culverts (s : State) (k : Nat) (f : Ring → Ring) : (s.modRing k f).culverts = s.culverts := rfl
@[simp] theorem State.modRing_dramStacks (s : State) (k : Nat) (f : Ring → Ring) : (s.modRing k f).dramStacks = s.dramStacks := rfl
@[simp] theorem State.modRing_rmem (s : State) (k : Nat) (f : Ring → Ring) : (s.modRing k f).rmem = s.rmem := rfl
@[simp] theorem State.modRing_dram (s : State) (k : Nat) (f : Ring → Ring) : (s.modRing k f).dram = s.dram := rfl
@[simp] theorem State.modRing_capStamps (s : State) (k : Nat) (f : Ring → Ring) : (s.modRing k f).capStamps = s.capStamps := rfl
@[simp] theorem State.modRing_remap (s : State) (k : Nat) (f : Ring → Ring) : (s.modRing k f).remap = s.remap := rfl
@[simp] theorem State.modRing_busReqs (s : State) (k : Nat) (f : Ring → Ring) : (s.modRing k f).busReqs = s.busReqs := rfl
@[simp] theorem State.modRing_gauges (s : State) (k : Nat) (f : Ring → Ring) : (s.modRing k f).gauges = s.gauges := rfl
@[simp] theorem State.modRing_thermal (s : State) (k : Nat) (f : Ring → Ring) : (s.modRing k f).thermal = s.thermal := rfl
@[simp] theorem State.modRing_image (s : State) (k : Nat) (f : Ring → Ring) : (s.modRing k f).image = s.image := rfl
@[simp] theorem State.modRing_saved (s : State) (k : Nat) (f : Ring → Ring) : (s.modRing k f).saved = s.saved := rfl
@[simp] theorem State.modRing_cal (s : State) (k : Nat) (f : Ring → Ring) : (s.modRing k f).cal = s.cal := rfl
@[simp] theorem State.modRing_svc (s : State) (k : Nat) (f : Ring → Ring) : (s.modRing k f).svc = s.svc := rfl
@[simp] theorem State.modRing_jtag (s : State) (k : Nat) (f : Ring → Ring) : (s.modRing k f).jtag = s.jtag := rfl
@[simp] theorem State.modRing_pending (s : State) (k : Nat) (f : Ring → Ring) : (s.modRing k f).pending = s.pending := rfl

@[simp] theorem State.modDomain_time (s : State) (k : Nat) (f : DomainSt → DomainSt) : (s.modDomain k f).time = s.time := rfl
@[simp] theorem State.modDomain_freeCtr (s : State) (k : Nat) (f : DomainSt → DomainSt) : (s.modDomain k f).freeCtr = s.freeCtr := rfl
@[simp] theorem State.modDomain_out (s : State) (k : Nat) (f : DomainSt → DomainSt) : (s.modDomain k f).out = s.out := rfl
@[simp] theorem State.modDomain_pins (s : State) (k : Nat) (f : DomainSt → DomainSt) : (s.modDomain k f).pins = s.pins := rfl
@[simp] theorem State.modDomain_mode (s : State) (k : Nat) (f : DomainSt → DomainSt) : (s.modDomain k f).mode = s.mode := rfl
@[simp] theorem State.modDomain_rings (s : State) (k : Nat) (f : DomainSt → DomainSt) : (s.modDomain k f).rings = s.rings := rfl
@[simp] theorem State.modDomain_ints (s : State) (k : Nat) (f : DomainSt → DomainSt) : (s.modDomain k f).ints = s.ints := rfl
@[simp] theorem State.modDomain_events (s : State) (k : Nat) (f : DomainSt → DomainSt) : (s.modDomain k f).events = s.events := rfl
@[simp] theorem State.modDomain_storm (s : State) (k : Nat) (f : DomainSt → DomainSt) : (s.modDomain k f).storm = s.storm := rfl
@[simp] theorem State.modDomain_openSets (s : State) (k : Nat) (f : DomainSt → DomainSt) : (s.modDomain k f).openSets = s.openSets := rfl
@[simp] theorem State.modDomain_parts (s : State) (k : Nat) (f : DomainSt → DomainSt) : (s.modDomain k f).parts = s.parts := rfl
@[simp] theorem State.modDomain_partSeq (s : State) (k : Nat) (f : DomainSt → DomainSt) : (s.modDomain k f).partSeq = s.partSeq := rfl
@[simp] theorem State.modDomain_fused (s : State) (k : Nat) (f : DomainSt → DomainSt) : (s.modDomain k f).fused = s.fused := rfl
@[simp] theorem State.modDomain_repair (s : State) (k : Nat) (f : DomainSt → DomainSt) : (s.modDomain k f).repair = s.repair := rfl
@[simp] theorem State.modDomain_counters (s : State) (k : Nat) (f : DomainSt → DomainSt) : (s.modDomain k f).counters = s.counters := rfl
@[simp] theorem State.modDomain_alarms (s : State) (k : Nat) (f : DomainSt → DomainSt) : (s.modDomain k f).alarms = s.alarms := rfl
@[simp] theorem State.modDomain_srcs (s : State) (k : Nat) (f : DomainSt → DomainSt) : (s.modDomain k f).srcs = s.srcs := rfl
@[simp] theorem State.modDomain_dsts (s : State) (k : Nat) (f : DomainSt → DomainSt) : (s.modDomain k f).dsts = s.dsts := rfl
@[simp] theorem State.modDomain_convs (s : State) (k : Nat) (f : DomainSt → DomainSt) : (s.modDomain k f).convs = s.convs := rfl
@[simp] theorem State.modDomain_ains (s : State) (k : Nat) (f : DomainSt → DomainSt) : (s.modDomain k f).ains = s.ains := rfl
@[simp] theorem State.modDomain_aouts (s : State) (k : Nat) (f : DomainSt → DomainSt) : (s.modDomain k f).aouts = s.aouts := rfl
@[simp] theorem State.modDomain_aports (s : State) (k : Nat) (f : DomainSt → DomainSt) : (s.modDomain k f).aports = s.aports := rfl
@[simp] theorem State.modDomain_lanes (s : State) (k : Nat) (f : DomainSt → DomainSt) : (s.modDomain k f).lanes = s.lanes := rfl
@[simp] theorem State.modDomain_buses (s : State) (k : Nat) (f : DomainSt → DomainSt) : (s.modDomain k f).buses = s.buses := rfl
@[simp] theorem State.modDomain_ports (s : State) (k : Nat) (f : DomainSt → DomainSt) : (s.modDomain k f).ports = s.ports := rfl
@[simp] theorem State.modDomain_flows (s : State) (k : Nat) (f : DomainSt → DomainSt) : (s.modDomain k f).flows = s.flows := rfl
@[simp] theorem State.modDomain_queues (s : State) (k : Nat) (f : DomainSt → DomainSt) : (s.modDomain k f).queues = s.queues := rfl
@[simp] theorem State.modDomain_gates (s : State) (k : Nat) (f : DomainSt → DomainSt) : (s.modDomain k f).gates = s.gates := rfl
@[simp] theorem State.modDomain_planes (s : State) (k : Nat) (f : DomainSt → DomainSt) : (s.modDomain k f).planes = s.planes := rfl
@[simp] theorem State.modDomain_levee (s : State) (k : Nat) (f : DomainSt → DomainSt) : (s.modDomain k f).levee = s.levee := rfl
@[simp] theorem State.modDomain_refs (s : State) (k : Nat) (f : DomainSt → DomainSt) : (s.modDomain k f).refs = s.refs := rfl
@[simp] theorem State.modDomain_hg (s : State) (k : Nat) (f : DomainSt → DomainSt) : (s.modDomain k f).hg = s.hg := rfl
@[simp] theorem State.modDomain_caps (s : State) (k : Nat) (f : DomainSt → DomainSt) : (s.modDomain k f).caps = s.caps := rfl
@[simp] theorem State.modDomain_trigs (s : State) (k : Nat) (f : DomainSt → DomainSt) : (s.modDomain k f).trigs = s.trigs := rfl
@[simp] theorem State.modDomain_stems (s : State) (k : Nat) (f : DomainSt → DomainSt) : (s.modDomain k f).stems = s.stems := rfl
@[simp] theorem State.modDomain_rends (s : State) (k : Nat) (f : DomainSt → DomainSt) : (s.modDomain k f).rends = s.rends := rfl
@[simp] theorem State.modDomain_delivs (s : State) (k : Nat) (f : DomainSt → DomainSt) : (s.modDomain k f).delivs = s.delivs := rfl
@[simp] theorem State.modDomain_cores (s : State) (k : Nat) (f : DomainSt → DomainSt) : (s.modDomain k f).cores = s.cores := rfl
@[simp] theorem State.modDomain_riders (s : State) (k : Nat) (f : DomainSt → DomainSt) : (s.modDomain k f).riders = s.riders := rfl
@[simp] theorem State.modDomain_riderDev (s : State) (k : Nat) (f : DomainSt → DomainSt) : (s.modDomain k f).riderDev = s.riderDev := rfl
@[simp] theorem State.modDomain_jobs (s : State) (k : Nat) (f : DomainSt → DomainSt) : (s.modDomain k f).jobs = s.jobs := rfl
@[simp] theorem State.modDomain_jobSeq (s : State) (k : Nat) (f : DomainSt → DomainSt) : (s.modDomain k f).jobSeq = s.jobSeq := rfl
@[simp] theorem State.modDomain_hostFlows (s : State) (k : Nat) (f : DomainSt → DomainSt) : (s.modDomain k f).hostFlows = s.hostFlows := rfl
@[simp] theorem State.modDomain_ctxs (s : State) (k : Nat) (f : DomainSt → DomainSt) : (s.modDomain k f).ctxs = s.ctxs := rfl
@[simp] theorem State.modDomain_heads (s : State) (k : Nat) (f : DomainSt → DomainSt) : (s.modDomain k f).heads = s.heads := rfl
@[simp] theorem State.modDomain_layers (s : State) (k : Nat) (f : DomainSt → DomainSt) : (s.modDomain k f).layers = s.layers := rfl
@[simp] theorem State.modDomain_readback (s : State) (k : Nat) (f : DomainSt → DomainSt) : (s.modDomain k f).readback = s.readback := rfl
@[simp] theorem State.modDomain_culverts (s : State) (k : Nat) (f : DomainSt → DomainSt) : (s.modDomain k f).culverts = s.culverts := rfl
@[simp] theorem State.modDomain_dramStacks (s : State) (k : Nat) (f : DomainSt → DomainSt) : (s.modDomain k f).dramStacks = s.dramStacks := rfl
@[simp] theorem State.modDomain_rmem (s : State) (k : Nat) (f : DomainSt → DomainSt) : (s.modDomain k f).rmem = s.rmem := rfl
@[simp] theorem State.modDomain_dram (s : State) (k : Nat) (f : DomainSt → DomainSt) : (s.modDomain k f).dram = s.dram := rfl
@[simp] theorem State.modDomain_capStamps (s : State) (k : Nat) (f : DomainSt → DomainSt) : (s.modDomain k f).capStamps = s.capStamps := rfl
@[simp] theorem State.modDomain_remap (s : State) (k : Nat) (f : DomainSt → DomainSt) : (s.modDomain k f).remap = s.remap := rfl
@[simp] theorem State.modDomain_busReqs (s : State) (k : Nat) (f : DomainSt → DomainSt) : (s.modDomain k f).busReqs = s.busReqs := rfl
@[simp] theorem State.modDomain_gauges (s : State) (k : Nat) (f : DomainSt → DomainSt) : (s.modDomain k f).gauges = s.gauges := rfl
@[simp] theorem State.modDomain_thermal (s : State) (k : Nat) (f : DomainSt → DomainSt) : (s.modDomain k f).thermal = s.thermal := rfl
@[simp] theorem State.modDomain_image (s : State) (k : Nat) (f : DomainSt → DomainSt) : (s.modDomain k f).image = s.image := rfl
@[simp] theorem State.modDomain_saved (s : State) (k : Nat) (f : DomainSt → DomainSt) : (s.modDomain k f).saved = s.saved := rfl
@[simp] theorem State.modDomain_cal (s : State) (k : Nat) (f : DomainSt → DomainSt) : (s.modDomain k f).cal = s.cal := rfl
@[simp] theorem State.modDomain_svc (s : State) (k : Nat) (f : DomainSt → DomainSt) : (s.modDomain k f).svc = s.svc := rfl
@[simp] theorem State.modDomain_jtag (s : State) (k : Nat) (f : DomainSt → DomainSt) : (s.modDomain k f).jtag = s.jtag := rfl
@[simp] theorem State.modDomain_pending (s : State) (k : Nat) (f : DomainSt → DomainSt) : (s.modDomain k f).pending = s.pending := rfl

@[simp] theorem State.modBus_time (s : State) (k : Nat) (f : I2cBus → I2cBus) : (s.modBus k f).time = s.time := rfl
@[simp] theorem State.modBus_freeCtr (s : State) (k : Nat) (f : I2cBus → I2cBus) : (s.modBus k f).freeCtr = s.freeCtr := rfl
@[simp] theorem State.modBus_out (s : State) (k : Nat) (f : I2cBus → I2cBus) : (s.modBus k f).out = s.out := rfl
@[simp] theorem State.modBus_pins (s : State) (k : Nat) (f : I2cBus → I2cBus) : (s.modBus k f).pins = s.pins := rfl
@[simp] theorem State.modBus_mode (s : State) (k : Nat) (f : I2cBus → I2cBus) : (s.modBus k f).mode = s.mode := rfl
@[simp] theorem State.modBus_rings (s : State) (k : Nat) (f : I2cBus → I2cBus) : (s.modBus k f).rings = s.rings := rfl
@[simp] theorem State.modBus_ints (s : State) (k : Nat) (f : I2cBus → I2cBus) : (s.modBus k f).ints = s.ints := rfl
@[simp] theorem State.modBus_events (s : State) (k : Nat) (f : I2cBus → I2cBus) : (s.modBus k f).events = s.events := rfl
@[simp] theorem State.modBus_storm (s : State) (k : Nat) (f : I2cBus → I2cBus) : (s.modBus k f).storm = s.storm := rfl
@[simp] theorem State.modBus_domains (s : State) (k : Nat) (f : I2cBus → I2cBus) : (s.modBus k f).domains = s.domains := rfl
@[simp] theorem State.modBus_openSets (s : State) (k : Nat) (f : I2cBus → I2cBus) : (s.modBus k f).openSets = s.openSets := rfl
@[simp] theorem State.modBus_parts (s : State) (k : Nat) (f : I2cBus → I2cBus) : (s.modBus k f).parts = s.parts := rfl
@[simp] theorem State.modBus_partSeq (s : State) (k : Nat) (f : I2cBus → I2cBus) : (s.modBus k f).partSeq = s.partSeq := rfl
@[simp] theorem State.modBus_fused (s : State) (k : Nat) (f : I2cBus → I2cBus) : (s.modBus k f).fused = s.fused := rfl
@[simp] theorem State.modBus_repair (s : State) (k : Nat) (f : I2cBus → I2cBus) : (s.modBus k f).repair = s.repair := rfl
@[simp] theorem State.modBus_counters (s : State) (k : Nat) (f : I2cBus → I2cBus) : (s.modBus k f).counters = s.counters := rfl
@[simp] theorem State.modBus_alarms (s : State) (k : Nat) (f : I2cBus → I2cBus) : (s.modBus k f).alarms = s.alarms := rfl
@[simp] theorem State.modBus_srcs (s : State) (k : Nat) (f : I2cBus → I2cBus) : (s.modBus k f).srcs = s.srcs := rfl
@[simp] theorem State.modBus_dsts (s : State) (k : Nat) (f : I2cBus → I2cBus) : (s.modBus k f).dsts = s.dsts := rfl
@[simp] theorem State.modBus_convs (s : State) (k : Nat) (f : I2cBus → I2cBus) : (s.modBus k f).convs = s.convs := rfl
@[simp] theorem State.modBus_ains (s : State) (k : Nat) (f : I2cBus → I2cBus) : (s.modBus k f).ains = s.ains := rfl
@[simp] theorem State.modBus_aouts (s : State) (k : Nat) (f : I2cBus → I2cBus) : (s.modBus k f).aouts = s.aouts := rfl
@[simp] theorem State.modBus_aports (s : State) (k : Nat) (f : I2cBus → I2cBus) : (s.modBus k f).aports = s.aports := rfl
@[simp] theorem State.modBus_lanes (s : State) (k : Nat) (f : I2cBus → I2cBus) : (s.modBus k f).lanes = s.lanes := rfl
@[simp] theorem State.modBus_ports (s : State) (k : Nat) (f : I2cBus → I2cBus) : (s.modBus k f).ports = s.ports := rfl
@[simp] theorem State.modBus_flows (s : State) (k : Nat) (f : I2cBus → I2cBus) : (s.modBus k f).flows = s.flows := rfl
@[simp] theorem State.modBus_queues (s : State) (k : Nat) (f : I2cBus → I2cBus) : (s.modBus k f).queues = s.queues := rfl
@[simp] theorem State.modBus_gates (s : State) (k : Nat) (f : I2cBus → I2cBus) : (s.modBus k f).gates = s.gates := rfl
@[simp] theorem State.modBus_planes (s : State) (k : Nat) (f : I2cBus → I2cBus) : (s.modBus k f).planes = s.planes := rfl
@[simp] theorem State.modBus_levee (s : State) (k : Nat) (f : I2cBus → I2cBus) : (s.modBus k f).levee = s.levee := rfl
@[simp] theorem State.modBus_refs (s : State) (k : Nat) (f : I2cBus → I2cBus) : (s.modBus k f).refs = s.refs := rfl
@[simp] theorem State.modBus_hg (s : State) (k : Nat) (f : I2cBus → I2cBus) : (s.modBus k f).hg = s.hg := rfl
@[simp] theorem State.modBus_caps (s : State) (k : Nat) (f : I2cBus → I2cBus) : (s.modBus k f).caps = s.caps := rfl
@[simp] theorem State.modBus_trigs (s : State) (k : Nat) (f : I2cBus → I2cBus) : (s.modBus k f).trigs = s.trigs := rfl
@[simp] theorem State.modBus_stems (s : State) (k : Nat) (f : I2cBus → I2cBus) : (s.modBus k f).stems = s.stems := rfl
@[simp] theorem State.modBus_rends (s : State) (k : Nat) (f : I2cBus → I2cBus) : (s.modBus k f).rends = s.rends := rfl
@[simp] theorem State.modBus_delivs (s : State) (k : Nat) (f : I2cBus → I2cBus) : (s.modBus k f).delivs = s.delivs := rfl
@[simp] theorem State.modBus_cores (s : State) (k : Nat) (f : I2cBus → I2cBus) : (s.modBus k f).cores = s.cores := rfl
@[simp] theorem State.modBus_riders (s : State) (k : Nat) (f : I2cBus → I2cBus) : (s.modBus k f).riders = s.riders := rfl
@[simp] theorem State.modBus_riderDev (s : State) (k : Nat) (f : I2cBus → I2cBus) : (s.modBus k f).riderDev = s.riderDev := rfl
@[simp] theorem State.modBus_jobs (s : State) (k : Nat) (f : I2cBus → I2cBus) : (s.modBus k f).jobs = s.jobs := rfl
@[simp] theorem State.modBus_jobSeq (s : State) (k : Nat) (f : I2cBus → I2cBus) : (s.modBus k f).jobSeq = s.jobSeq := rfl
@[simp] theorem State.modBus_hostFlows (s : State) (k : Nat) (f : I2cBus → I2cBus) : (s.modBus k f).hostFlows = s.hostFlows := rfl
@[simp] theorem State.modBus_ctxs (s : State) (k : Nat) (f : I2cBus → I2cBus) : (s.modBus k f).ctxs = s.ctxs := rfl
@[simp] theorem State.modBus_heads (s : State) (k : Nat) (f : I2cBus → I2cBus) : (s.modBus k f).heads = s.heads := rfl
@[simp] theorem State.modBus_layers (s : State) (k : Nat) (f : I2cBus → I2cBus) : (s.modBus k f).layers = s.layers := rfl
@[simp] theorem State.modBus_readback (s : State) (k : Nat) (f : I2cBus → I2cBus) : (s.modBus k f).readback = s.readback := rfl
@[simp] theorem State.modBus_culverts (s : State) (k : Nat) (f : I2cBus → I2cBus) : (s.modBus k f).culverts = s.culverts := rfl
@[simp] theorem State.modBus_dramStacks (s : State) (k : Nat) (f : I2cBus → I2cBus) : (s.modBus k f).dramStacks = s.dramStacks := rfl
@[simp] theorem State.modBus_rmem (s : State) (k : Nat) (f : I2cBus → I2cBus) : (s.modBus k f).rmem = s.rmem := rfl
@[simp] theorem State.modBus_dram (s : State) (k : Nat) (f : I2cBus → I2cBus) : (s.modBus k f).dram = s.dram := rfl
@[simp] theorem State.modBus_capStamps (s : State) (k : Nat) (f : I2cBus → I2cBus) : (s.modBus k f).capStamps = s.capStamps := rfl
@[simp] theorem State.modBus_remap (s : State) (k : Nat) (f : I2cBus → I2cBus) : (s.modBus k f).remap = s.remap := rfl
@[simp] theorem State.modBus_busReqs (s : State) (k : Nat) (f : I2cBus → I2cBus) : (s.modBus k f).busReqs = s.busReqs := rfl
@[simp] theorem State.modBus_gauges (s : State) (k : Nat) (f : I2cBus → I2cBus) : (s.modBus k f).gauges = s.gauges := rfl
@[simp] theorem State.modBus_thermal (s : State) (k : Nat) (f : I2cBus → I2cBus) : (s.modBus k f).thermal = s.thermal := rfl
@[simp] theorem State.modBus_image (s : State) (k : Nat) (f : I2cBus → I2cBus) : (s.modBus k f).image = s.image := rfl
@[simp] theorem State.modBus_saved (s : State) (k : Nat) (f : I2cBus → I2cBus) : (s.modBus k f).saved = s.saved := rfl
@[simp] theorem State.modBus_cal (s : State) (k : Nat) (f : I2cBus → I2cBus) : (s.modBus k f).cal = s.cal := rfl
@[simp] theorem State.modBus_svc (s : State) (k : Nat) (f : I2cBus → I2cBus) : (s.modBus k f).svc = s.svc := rfl
@[simp] theorem State.modBus_jtag (s : State) (k : Nat) (f : I2cBus → I2cBus) : (s.modBus k f).jtag = s.jtag := rfl
@[simp] theorem State.modBus_pending (s : State) (k : Nat) (f : I2cBus → I2cBus) : (s.modBus k f).pending = s.pending := rfl

@[simp] theorem State.modPlane_time (s : State) (k : Nat) (f : PlaneSt → PlaneSt) : (s.modPlane k f).time = s.time := rfl
@[simp] theorem State.modPlane_freeCtr (s : State) (k : Nat) (f : PlaneSt → PlaneSt) : (s.modPlane k f).freeCtr = s.freeCtr := rfl
@[simp] theorem State.modPlane_out (s : State) (k : Nat) (f : PlaneSt → PlaneSt) : (s.modPlane k f).out = s.out := rfl
@[simp] theorem State.modPlane_pins (s : State) (k : Nat) (f : PlaneSt → PlaneSt) : (s.modPlane k f).pins = s.pins := rfl
@[simp] theorem State.modPlane_mode (s : State) (k : Nat) (f : PlaneSt → PlaneSt) : (s.modPlane k f).mode = s.mode := rfl
@[simp] theorem State.modPlane_rings (s : State) (k : Nat) (f : PlaneSt → PlaneSt) : (s.modPlane k f).rings = s.rings := rfl
@[simp] theorem State.modPlane_ints (s : State) (k : Nat) (f : PlaneSt → PlaneSt) : (s.modPlane k f).ints = s.ints := rfl
@[simp] theorem State.modPlane_events (s : State) (k : Nat) (f : PlaneSt → PlaneSt) : (s.modPlane k f).events = s.events := rfl
@[simp] theorem State.modPlane_storm (s : State) (k : Nat) (f : PlaneSt → PlaneSt) : (s.modPlane k f).storm = s.storm := rfl
@[simp] theorem State.modPlane_domains (s : State) (k : Nat) (f : PlaneSt → PlaneSt) : (s.modPlane k f).domains = s.domains := rfl
@[simp] theorem State.modPlane_openSets (s : State) (k : Nat) (f : PlaneSt → PlaneSt) : (s.modPlane k f).openSets = s.openSets := rfl
@[simp] theorem State.modPlane_parts (s : State) (k : Nat) (f : PlaneSt → PlaneSt) : (s.modPlane k f).parts = s.parts := rfl
@[simp] theorem State.modPlane_partSeq (s : State) (k : Nat) (f : PlaneSt → PlaneSt) : (s.modPlane k f).partSeq = s.partSeq := rfl
@[simp] theorem State.modPlane_fused (s : State) (k : Nat) (f : PlaneSt → PlaneSt) : (s.modPlane k f).fused = s.fused := rfl
@[simp] theorem State.modPlane_repair (s : State) (k : Nat) (f : PlaneSt → PlaneSt) : (s.modPlane k f).repair = s.repair := rfl
@[simp] theorem State.modPlane_counters (s : State) (k : Nat) (f : PlaneSt → PlaneSt) : (s.modPlane k f).counters = s.counters := rfl
@[simp] theorem State.modPlane_alarms (s : State) (k : Nat) (f : PlaneSt → PlaneSt) : (s.modPlane k f).alarms = s.alarms := rfl
@[simp] theorem State.modPlane_srcs (s : State) (k : Nat) (f : PlaneSt → PlaneSt) : (s.modPlane k f).srcs = s.srcs := rfl
@[simp] theorem State.modPlane_dsts (s : State) (k : Nat) (f : PlaneSt → PlaneSt) : (s.modPlane k f).dsts = s.dsts := rfl
@[simp] theorem State.modPlane_convs (s : State) (k : Nat) (f : PlaneSt → PlaneSt) : (s.modPlane k f).convs = s.convs := rfl
@[simp] theorem State.modPlane_ains (s : State) (k : Nat) (f : PlaneSt → PlaneSt) : (s.modPlane k f).ains = s.ains := rfl
@[simp] theorem State.modPlane_aouts (s : State) (k : Nat) (f : PlaneSt → PlaneSt) : (s.modPlane k f).aouts = s.aouts := rfl
@[simp] theorem State.modPlane_aports (s : State) (k : Nat) (f : PlaneSt → PlaneSt) : (s.modPlane k f).aports = s.aports := rfl
@[simp] theorem State.modPlane_lanes (s : State) (k : Nat) (f : PlaneSt → PlaneSt) : (s.modPlane k f).lanes = s.lanes := rfl
@[simp] theorem State.modPlane_buses (s : State) (k : Nat) (f : PlaneSt → PlaneSt) : (s.modPlane k f).buses = s.buses := rfl
@[simp] theorem State.modPlane_ports (s : State) (k : Nat) (f : PlaneSt → PlaneSt) : (s.modPlane k f).ports = s.ports := rfl
@[simp] theorem State.modPlane_flows (s : State) (k : Nat) (f : PlaneSt → PlaneSt) : (s.modPlane k f).flows = s.flows := rfl
@[simp] theorem State.modPlane_queues (s : State) (k : Nat) (f : PlaneSt → PlaneSt) : (s.modPlane k f).queues = s.queues := rfl
@[simp] theorem State.modPlane_gates (s : State) (k : Nat) (f : PlaneSt → PlaneSt) : (s.modPlane k f).gates = s.gates := rfl
@[simp] theorem State.modPlane_levee (s : State) (k : Nat) (f : PlaneSt → PlaneSt) : (s.modPlane k f).levee = s.levee := rfl
@[simp] theorem State.modPlane_refs (s : State) (k : Nat) (f : PlaneSt → PlaneSt) : (s.modPlane k f).refs = s.refs := rfl
@[simp] theorem State.modPlane_hg (s : State) (k : Nat) (f : PlaneSt → PlaneSt) : (s.modPlane k f).hg = s.hg := rfl
@[simp] theorem State.modPlane_caps (s : State) (k : Nat) (f : PlaneSt → PlaneSt) : (s.modPlane k f).caps = s.caps := rfl
@[simp] theorem State.modPlane_trigs (s : State) (k : Nat) (f : PlaneSt → PlaneSt) : (s.modPlane k f).trigs = s.trigs := rfl
@[simp] theorem State.modPlane_stems (s : State) (k : Nat) (f : PlaneSt → PlaneSt) : (s.modPlane k f).stems = s.stems := rfl
@[simp] theorem State.modPlane_rends (s : State) (k : Nat) (f : PlaneSt → PlaneSt) : (s.modPlane k f).rends = s.rends := rfl
@[simp] theorem State.modPlane_delivs (s : State) (k : Nat) (f : PlaneSt → PlaneSt) : (s.modPlane k f).delivs = s.delivs := rfl
@[simp] theorem State.modPlane_cores (s : State) (k : Nat) (f : PlaneSt → PlaneSt) : (s.modPlane k f).cores = s.cores := rfl
@[simp] theorem State.modPlane_riders (s : State) (k : Nat) (f : PlaneSt → PlaneSt) : (s.modPlane k f).riders = s.riders := rfl
@[simp] theorem State.modPlane_riderDev (s : State) (k : Nat) (f : PlaneSt → PlaneSt) : (s.modPlane k f).riderDev = s.riderDev := rfl
@[simp] theorem State.modPlane_jobs (s : State) (k : Nat) (f : PlaneSt → PlaneSt) : (s.modPlane k f).jobs = s.jobs := rfl
@[simp] theorem State.modPlane_jobSeq (s : State) (k : Nat) (f : PlaneSt → PlaneSt) : (s.modPlane k f).jobSeq = s.jobSeq := rfl
@[simp] theorem State.modPlane_hostFlows (s : State) (k : Nat) (f : PlaneSt → PlaneSt) : (s.modPlane k f).hostFlows = s.hostFlows := rfl
@[simp] theorem State.modPlane_ctxs (s : State) (k : Nat) (f : PlaneSt → PlaneSt) : (s.modPlane k f).ctxs = s.ctxs := rfl
@[simp] theorem State.modPlane_heads (s : State) (k : Nat) (f : PlaneSt → PlaneSt) : (s.modPlane k f).heads = s.heads := rfl
@[simp] theorem State.modPlane_layers (s : State) (k : Nat) (f : PlaneSt → PlaneSt) : (s.modPlane k f).layers = s.layers := rfl
@[simp] theorem State.modPlane_readback (s : State) (k : Nat) (f : PlaneSt → PlaneSt) : (s.modPlane k f).readback = s.readback := rfl
@[simp] theorem State.modPlane_culverts (s : State) (k : Nat) (f : PlaneSt → PlaneSt) : (s.modPlane k f).culverts = s.culverts := rfl
@[simp] theorem State.modPlane_dramStacks (s : State) (k : Nat) (f : PlaneSt → PlaneSt) : (s.modPlane k f).dramStacks = s.dramStacks := rfl
@[simp] theorem State.modPlane_rmem (s : State) (k : Nat) (f : PlaneSt → PlaneSt) : (s.modPlane k f).rmem = s.rmem := rfl
@[simp] theorem State.modPlane_dram (s : State) (k : Nat) (f : PlaneSt → PlaneSt) : (s.modPlane k f).dram = s.dram := rfl
@[simp] theorem State.modPlane_capStamps (s : State) (k : Nat) (f : PlaneSt → PlaneSt) : (s.modPlane k f).capStamps = s.capStamps := rfl
@[simp] theorem State.modPlane_remap (s : State) (k : Nat) (f : PlaneSt → PlaneSt) : (s.modPlane k f).remap = s.remap := rfl
@[simp] theorem State.modPlane_busReqs (s : State) (k : Nat) (f : PlaneSt → PlaneSt) : (s.modPlane k f).busReqs = s.busReqs := rfl
@[simp] theorem State.modPlane_gauges (s : State) (k : Nat) (f : PlaneSt → PlaneSt) : (s.modPlane k f).gauges = s.gauges := rfl
@[simp] theorem State.modPlane_thermal (s : State) (k : Nat) (f : PlaneSt → PlaneSt) : (s.modPlane k f).thermal = s.thermal := rfl
@[simp] theorem State.modPlane_image (s : State) (k : Nat) (f : PlaneSt → PlaneSt) : (s.modPlane k f).image = s.image := rfl
@[simp] theorem State.modPlane_saved (s : State) (k : Nat) (f : PlaneSt → PlaneSt) : (s.modPlane k f).saved = s.saved := rfl
@[simp] theorem State.modPlane_cal (s : State) (k : Nat) (f : PlaneSt → PlaneSt) : (s.modPlane k f).cal = s.cal := rfl
@[simp] theorem State.modPlane_svc (s : State) (k : Nat) (f : PlaneSt → PlaneSt) : (s.modPlane k f).svc = s.svc := rfl
@[simp] theorem State.modPlane_jtag (s : State) (k : Nat) (f : PlaneSt → PlaneSt) : (s.modPlane k f).jtag = s.jtag := rfl
@[simp] theorem State.modPlane_pending (s : State) (k : Nat) (f : PlaneSt → PlaneSt) : (s.modPlane k f).pending = s.pending := rfl

@[simp] theorem State.modRef_time (s : State) (k : Nat) (f : RefSt → RefSt) : (s.modRef k f).time = s.time := rfl
@[simp] theorem State.modRef_freeCtr (s : State) (k : Nat) (f : RefSt → RefSt) : (s.modRef k f).freeCtr = s.freeCtr := rfl
@[simp] theorem State.modRef_out (s : State) (k : Nat) (f : RefSt → RefSt) : (s.modRef k f).out = s.out := rfl
@[simp] theorem State.modRef_pins (s : State) (k : Nat) (f : RefSt → RefSt) : (s.modRef k f).pins = s.pins := rfl
@[simp] theorem State.modRef_mode (s : State) (k : Nat) (f : RefSt → RefSt) : (s.modRef k f).mode = s.mode := rfl
@[simp] theorem State.modRef_rings (s : State) (k : Nat) (f : RefSt → RefSt) : (s.modRef k f).rings = s.rings := rfl
@[simp] theorem State.modRef_ints (s : State) (k : Nat) (f : RefSt → RefSt) : (s.modRef k f).ints = s.ints := rfl
@[simp] theorem State.modRef_events (s : State) (k : Nat) (f : RefSt → RefSt) : (s.modRef k f).events = s.events := rfl
@[simp] theorem State.modRef_storm (s : State) (k : Nat) (f : RefSt → RefSt) : (s.modRef k f).storm = s.storm := rfl
@[simp] theorem State.modRef_domains (s : State) (k : Nat) (f : RefSt → RefSt) : (s.modRef k f).domains = s.domains := rfl
@[simp] theorem State.modRef_openSets (s : State) (k : Nat) (f : RefSt → RefSt) : (s.modRef k f).openSets = s.openSets := rfl
@[simp] theorem State.modRef_parts (s : State) (k : Nat) (f : RefSt → RefSt) : (s.modRef k f).parts = s.parts := rfl
@[simp] theorem State.modRef_partSeq (s : State) (k : Nat) (f : RefSt → RefSt) : (s.modRef k f).partSeq = s.partSeq := rfl
@[simp] theorem State.modRef_fused (s : State) (k : Nat) (f : RefSt → RefSt) : (s.modRef k f).fused = s.fused := rfl
@[simp] theorem State.modRef_repair (s : State) (k : Nat) (f : RefSt → RefSt) : (s.modRef k f).repair = s.repair := rfl
@[simp] theorem State.modRef_counters (s : State) (k : Nat) (f : RefSt → RefSt) : (s.modRef k f).counters = s.counters := rfl
@[simp] theorem State.modRef_alarms (s : State) (k : Nat) (f : RefSt → RefSt) : (s.modRef k f).alarms = s.alarms := rfl
@[simp] theorem State.modRef_srcs (s : State) (k : Nat) (f : RefSt → RefSt) : (s.modRef k f).srcs = s.srcs := rfl
@[simp] theorem State.modRef_dsts (s : State) (k : Nat) (f : RefSt → RefSt) : (s.modRef k f).dsts = s.dsts := rfl
@[simp] theorem State.modRef_convs (s : State) (k : Nat) (f : RefSt → RefSt) : (s.modRef k f).convs = s.convs := rfl
@[simp] theorem State.modRef_ains (s : State) (k : Nat) (f : RefSt → RefSt) : (s.modRef k f).ains = s.ains := rfl
@[simp] theorem State.modRef_aouts (s : State) (k : Nat) (f : RefSt → RefSt) : (s.modRef k f).aouts = s.aouts := rfl
@[simp] theorem State.modRef_aports (s : State) (k : Nat) (f : RefSt → RefSt) : (s.modRef k f).aports = s.aports := rfl
@[simp] theorem State.modRef_lanes (s : State) (k : Nat) (f : RefSt → RefSt) : (s.modRef k f).lanes = s.lanes := rfl
@[simp] theorem State.modRef_buses (s : State) (k : Nat) (f : RefSt → RefSt) : (s.modRef k f).buses = s.buses := rfl
@[simp] theorem State.modRef_ports (s : State) (k : Nat) (f : RefSt → RefSt) : (s.modRef k f).ports = s.ports := rfl
@[simp] theorem State.modRef_flows (s : State) (k : Nat) (f : RefSt → RefSt) : (s.modRef k f).flows = s.flows := rfl
@[simp] theorem State.modRef_queues (s : State) (k : Nat) (f : RefSt → RefSt) : (s.modRef k f).queues = s.queues := rfl
@[simp] theorem State.modRef_gates (s : State) (k : Nat) (f : RefSt → RefSt) : (s.modRef k f).gates = s.gates := rfl
@[simp] theorem State.modRef_planes (s : State) (k : Nat) (f : RefSt → RefSt) : (s.modRef k f).planes = s.planes := rfl
@[simp] theorem State.modRef_levee (s : State) (k : Nat) (f : RefSt → RefSt) : (s.modRef k f).levee = s.levee := rfl
@[simp] theorem State.modRef_hg (s : State) (k : Nat) (f : RefSt → RefSt) : (s.modRef k f).hg = s.hg := rfl
@[simp] theorem State.modRef_caps (s : State) (k : Nat) (f : RefSt → RefSt) : (s.modRef k f).caps = s.caps := rfl
@[simp] theorem State.modRef_trigs (s : State) (k : Nat) (f : RefSt → RefSt) : (s.modRef k f).trigs = s.trigs := rfl
@[simp] theorem State.modRef_stems (s : State) (k : Nat) (f : RefSt → RefSt) : (s.modRef k f).stems = s.stems := rfl
@[simp] theorem State.modRef_rends (s : State) (k : Nat) (f : RefSt → RefSt) : (s.modRef k f).rends = s.rends := rfl
@[simp] theorem State.modRef_delivs (s : State) (k : Nat) (f : RefSt → RefSt) : (s.modRef k f).delivs = s.delivs := rfl
@[simp] theorem State.modRef_cores (s : State) (k : Nat) (f : RefSt → RefSt) : (s.modRef k f).cores = s.cores := rfl
@[simp] theorem State.modRef_riders (s : State) (k : Nat) (f : RefSt → RefSt) : (s.modRef k f).riders = s.riders := rfl
@[simp] theorem State.modRef_riderDev (s : State) (k : Nat) (f : RefSt → RefSt) : (s.modRef k f).riderDev = s.riderDev := rfl
@[simp] theorem State.modRef_jobs (s : State) (k : Nat) (f : RefSt → RefSt) : (s.modRef k f).jobs = s.jobs := rfl
@[simp] theorem State.modRef_jobSeq (s : State) (k : Nat) (f : RefSt → RefSt) : (s.modRef k f).jobSeq = s.jobSeq := rfl
@[simp] theorem State.modRef_hostFlows (s : State) (k : Nat) (f : RefSt → RefSt) : (s.modRef k f).hostFlows = s.hostFlows := rfl
@[simp] theorem State.modRef_ctxs (s : State) (k : Nat) (f : RefSt → RefSt) : (s.modRef k f).ctxs = s.ctxs := rfl
@[simp] theorem State.modRef_heads (s : State) (k : Nat) (f : RefSt → RefSt) : (s.modRef k f).heads = s.heads := rfl
@[simp] theorem State.modRef_layers (s : State) (k : Nat) (f : RefSt → RefSt) : (s.modRef k f).layers = s.layers := rfl
@[simp] theorem State.modRef_readback (s : State) (k : Nat) (f : RefSt → RefSt) : (s.modRef k f).readback = s.readback := rfl
@[simp] theorem State.modRef_culverts (s : State) (k : Nat) (f : RefSt → RefSt) : (s.modRef k f).culverts = s.culverts := rfl
@[simp] theorem State.modRef_dramStacks (s : State) (k : Nat) (f : RefSt → RefSt) : (s.modRef k f).dramStacks = s.dramStacks := rfl
@[simp] theorem State.modRef_rmem (s : State) (k : Nat) (f : RefSt → RefSt) : (s.modRef k f).rmem = s.rmem := rfl
@[simp] theorem State.modRef_dram (s : State) (k : Nat) (f : RefSt → RefSt) : (s.modRef k f).dram = s.dram := rfl
@[simp] theorem State.modRef_capStamps (s : State) (k : Nat) (f : RefSt → RefSt) : (s.modRef k f).capStamps = s.capStamps := rfl
@[simp] theorem State.modRef_remap (s : State) (k : Nat) (f : RefSt → RefSt) : (s.modRef k f).remap = s.remap := rfl
@[simp] theorem State.modRef_busReqs (s : State) (k : Nat) (f : RefSt → RefSt) : (s.modRef k f).busReqs = s.busReqs := rfl
@[simp] theorem State.modRef_gauges (s : State) (k : Nat) (f : RefSt → RefSt) : (s.modRef k f).gauges = s.gauges := rfl
@[simp] theorem State.modRef_thermal (s : State) (k : Nat) (f : RefSt → RefSt) : (s.modRef k f).thermal = s.thermal := rfl
@[simp] theorem State.modRef_image (s : State) (k : Nat) (f : RefSt → RefSt) : (s.modRef k f).image = s.image := rfl
@[simp] theorem State.modRef_saved (s : State) (k : Nat) (f : RefSt → RefSt) : (s.modRef k f).saved = s.saved := rfl
@[simp] theorem State.modRef_cal (s : State) (k : Nat) (f : RefSt → RefSt) : (s.modRef k f).cal = s.cal := rfl
@[simp] theorem State.modRef_svc (s : State) (k : Nat) (f : RefSt → RefSt) : (s.modRef k f).svc = s.svc := rfl
@[simp] theorem State.modRef_jtag (s : State) (k : Nat) (f : RefSt → RefSt) : (s.modRef k f).jtag = s.jtag := rfl
@[simp] theorem State.modRef_pending (s : State) (k : Nat) (f : RefSt → RefSt) : (s.modRef k f).pending = s.pending := rfl

@[simp] theorem State.modCap_time (s : State) (k : Nat) (f : CapSt → CapSt) : (s.modCap k f).time = s.time := rfl
@[simp] theorem State.modCap_freeCtr (s : State) (k : Nat) (f : CapSt → CapSt) : (s.modCap k f).freeCtr = s.freeCtr := rfl
@[simp] theorem State.modCap_out (s : State) (k : Nat) (f : CapSt → CapSt) : (s.modCap k f).out = s.out := rfl
@[simp] theorem State.modCap_pins (s : State) (k : Nat) (f : CapSt → CapSt) : (s.modCap k f).pins = s.pins := rfl
@[simp] theorem State.modCap_mode (s : State) (k : Nat) (f : CapSt → CapSt) : (s.modCap k f).mode = s.mode := rfl
@[simp] theorem State.modCap_rings (s : State) (k : Nat) (f : CapSt → CapSt) : (s.modCap k f).rings = s.rings := rfl
@[simp] theorem State.modCap_ints (s : State) (k : Nat) (f : CapSt → CapSt) : (s.modCap k f).ints = s.ints := rfl
@[simp] theorem State.modCap_events (s : State) (k : Nat) (f : CapSt → CapSt) : (s.modCap k f).events = s.events := rfl
@[simp] theorem State.modCap_storm (s : State) (k : Nat) (f : CapSt → CapSt) : (s.modCap k f).storm = s.storm := rfl
@[simp] theorem State.modCap_domains (s : State) (k : Nat) (f : CapSt → CapSt) : (s.modCap k f).domains = s.domains := rfl
@[simp] theorem State.modCap_openSets (s : State) (k : Nat) (f : CapSt → CapSt) : (s.modCap k f).openSets = s.openSets := rfl
@[simp] theorem State.modCap_parts (s : State) (k : Nat) (f : CapSt → CapSt) : (s.modCap k f).parts = s.parts := rfl
@[simp] theorem State.modCap_partSeq (s : State) (k : Nat) (f : CapSt → CapSt) : (s.modCap k f).partSeq = s.partSeq := rfl
@[simp] theorem State.modCap_fused (s : State) (k : Nat) (f : CapSt → CapSt) : (s.modCap k f).fused = s.fused := rfl
@[simp] theorem State.modCap_repair (s : State) (k : Nat) (f : CapSt → CapSt) : (s.modCap k f).repair = s.repair := rfl
@[simp] theorem State.modCap_counters (s : State) (k : Nat) (f : CapSt → CapSt) : (s.modCap k f).counters = s.counters := rfl
@[simp] theorem State.modCap_alarms (s : State) (k : Nat) (f : CapSt → CapSt) : (s.modCap k f).alarms = s.alarms := rfl
@[simp] theorem State.modCap_srcs (s : State) (k : Nat) (f : CapSt → CapSt) : (s.modCap k f).srcs = s.srcs := rfl
@[simp] theorem State.modCap_dsts (s : State) (k : Nat) (f : CapSt → CapSt) : (s.modCap k f).dsts = s.dsts := rfl
@[simp] theorem State.modCap_convs (s : State) (k : Nat) (f : CapSt → CapSt) : (s.modCap k f).convs = s.convs := rfl
@[simp] theorem State.modCap_ains (s : State) (k : Nat) (f : CapSt → CapSt) : (s.modCap k f).ains = s.ains := rfl
@[simp] theorem State.modCap_aouts (s : State) (k : Nat) (f : CapSt → CapSt) : (s.modCap k f).aouts = s.aouts := rfl
@[simp] theorem State.modCap_aports (s : State) (k : Nat) (f : CapSt → CapSt) : (s.modCap k f).aports = s.aports := rfl
@[simp] theorem State.modCap_lanes (s : State) (k : Nat) (f : CapSt → CapSt) : (s.modCap k f).lanes = s.lanes := rfl
@[simp] theorem State.modCap_buses (s : State) (k : Nat) (f : CapSt → CapSt) : (s.modCap k f).buses = s.buses := rfl
@[simp] theorem State.modCap_ports (s : State) (k : Nat) (f : CapSt → CapSt) : (s.modCap k f).ports = s.ports := rfl
@[simp] theorem State.modCap_flows (s : State) (k : Nat) (f : CapSt → CapSt) : (s.modCap k f).flows = s.flows := rfl
@[simp] theorem State.modCap_queues (s : State) (k : Nat) (f : CapSt → CapSt) : (s.modCap k f).queues = s.queues := rfl
@[simp] theorem State.modCap_gates (s : State) (k : Nat) (f : CapSt → CapSt) : (s.modCap k f).gates = s.gates := rfl
@[simp] theorem State.modCap_planes (s : State) (k : Nat) (f : CapSt → CapSt) : (s.modCap k f).planes = s.planes := rfl
@[simp] theorem State.modCap_levee (s : State) (k : Nat) (f : CapSt → CapSt) : (s.modCap k f).levee = s.levee := rfl
@[simp] theorem State.modCap_refs (s : State) (k : Nat) (f : CapSt → CapSt) : (s.modCap k f).refs = s.refs := rfl
@[simp] theorem State.modCap_hg (s : State) (k : Nat) (f : CapSt → CapSt) : (s.modCap k f).hg = s.hg := rfl
@[simp] theorem State.modCap_trigs (s : State) (k : Nat) (f : CapSt → CapSt) : (s.modCap k f).trigs = s.trigs := rfl
@[simp] theorem State.modCap_stems (s : State) (k : Nat) (f : CapSt → CapSt) : (s.modCap k f).stems = s.stems := rfl
@[simp] theorem State.modCap_rends (s : State) (k : Nat) (f : CapSt → CapSt) : (s.modCap k f).rends = s.rends := rfl
@[simp] theorem State.modCap_delivs (s : State) (k : Nat) (f : CapSt → CapSt) : (s.modCap k f).delivs = s.delivs := rfl
@[simp] theorem State.modCap_cores (s : State) (k : Nat) (f : CapSt → CapSt) : (s.modCap k f).cores = s.cores := rfl
@[simp] theorem State.modCap_riders (s : State) (k : Nat) (f : CapSt → CapSt) : (s.modCap k f).riders = s.riders := rfl
@[simp] theorem State.modCap_riderDev (s : State) (k : Nat) (f : CapSt → CapSt) : (s.modCap k f).riderDev = s.riderDev := rfl
@[simp] theorem State.modCap_jobs (s : State) (k : Nat) (f : CapSt → CapSt) : (s.modCap k f).jobs = s.jobs := rfl
@[simp] theorem State.modCap_jobSeq (s : State) (k : Nat) (f : CapSt → CapSt) : (s.modCap k f).jobSeq = s.jobSeq := rfl
@[simp] theorem State.modCap_hostFlows (s : State) (k : Nat) (f : CapSt → CapSt) : (s.modCap k f).hostFlows = s.hostFlows := rfl
@[simp] theorem State.modCap_ctxs (s : State) (k : Nat) (f : CapSt → CapSt) : (s.modCap k f).ctxs = s.ctxs := rfl
@[simp] theorem State.modCap_heads (s : State) (k : Nat) (f : CapSt → CapSt) : (s.modCap k f).heads = s.heads := rfl
@[simp] theorem State.modCap_layers (s : State) (k : Nat) (f : CapSt → CapSt) : (s.modCap k f).layers = s.layers := rfl
@[simp] theorem State.modCap_readback (s : State) (k : Nat) (f : CapSt → CapSt) : (s.modCap k f).readback = s.readback := rfl
@[simp] theorem State.modCap_culverts (s : State) (k : Nat) (f : CapSt → CapSt) : (s.modCap k f).culverts = s.culverts := rfl
@[simp] theorem State.modCap_dramStacks (s : State) (k : Nat) (f : CapSt → CapSt) : (s.modCap k f).dramStacks = s.dramStacks := rfl
@[simp] theorem State.modCap_rmem (s : State) (k : Nat) (f : CapSt → CapSt) : (s.modCap k f).rmem = s.rmem := rfl
@[simp] theorem State.modCap_dram (s : State) (k : Nat) (f : CapSt → CapSt) : (s.modCap k f).dram = s.dram := rfl
@[simp] theorem State.modCap_capStamps (s : State) (k : Nat) (f : CapSt → CapSt) : (s.modCap k f).capStamps = s.capStamps := rfl
@[simp] theorem State.modCap_remap (s : State) (k : Nat) (f : CapSt → CapSt) : (s.modCap k f).remap = s.remap := rfl
@[simp] theorem State.modCap_busReqs (s : State) (k : Nat) (f : CapSt → CapSt) : (s.modCap k f).busReqs = s.busReqs := rfl
@[simp] theorem State.modCap_gauges (s : State) (k : Nat) (f : CapSt → CapSt) : (s.modCap k f).gauges = s.gauges := rfl
@[simp] theorem State.modCap_thermal (s : State) (k : Nat) (f : CapSt → CapSt) : (s.modCap k f).thermal = s.thermal := rfl
@[simp] theorem State.modCap_image (s : State) (k : Nat) (f : CapSt → CapSt) : (s.modCap k f).image = s.image := rfl
@[simp] theorem State.modCap_saved (s : State) (k : Nat) (f : CapSt → CapSt) : (s.modCap k f).saved = s.saved := rfl
@[simp] theorem State.modCap_cal (s : State) (k : Nat) (f : CapSt → CapSt) : (s.modCap k f).cal = s.cal := rfl
@[simp] theorem State.modCap_svc (s : State) (k : Nat) (f : CapSt → CapSt) : (s.modCap k f).svc = s.svc := rfl
@[simp] theorem State.modCap_jtag (s : State) (k : Nat) (f : CapSt → CapSt) : (s.modCap k f).jtag = s.jtag := rfl
@[simp] theorem State.modCap_pending (s : State) (k : Nat) (f : CapSt → CapSt) : (s.modCap k f).pending = s.pending := rfl

@[simp] theorem State.modRider_time (s : State) (k : Nat) (f : RiderSt → RiderSt) : (s.modRider k f).time = s.time := rfl
@[simp] theorem State.modRider_freeCtr (s : State) (k : Nat) (f : RiderSt → RiderSt) : (s.modRider k f).freeCtr = s.freeCtr := rfl
@[simp] theorem State.modRider_out (s : State) (k : Nat) (f : RiderSt → RiderSt) : (s.modRider k f).out = s.out := rfl
@[simp] theorem State.modRider_pins (s : State) (k : Nat) (f : RiderSt → RiderSt) : (s.modRider k f).pins = s.pins := rfl
@[simp] theorem State.modRider_mode (s : State) (k : Nat) (f : RiderSt → RiderSt) : (s.modRider k f).mode = s.mode := rfl
@[simp] theorem State.modRider_rings (s : State) (k : Nat) (f : RiderSt → RiderSt) : (s.modRider k f).rings = s.rings := rfl
@[simp] theorem State.modRider_ints (s : State) (k : Nat) (f : RiderSt → RiderSt) : (s.modRider k f).ints = s.ints := rfl
@[simp] theorem State.modRider_events (s : State) (k : Nat) (f : RiderSt → RiderSt) : (s.modRider k f).events = s.events := rfl
@[simp] theorem State.modRider_storm (s : State) (k : Nat) (f : RiderSt → RiderSt) : (s.modRider k f).storm = s.storm := rfl
@[simp] theorem State.modRider_domains (s : State) (k : Nat) (f : RiderSt → RiderSt) : (s.modRider k f).domains = s.domains := rfl
@[simp] theorem State.modRider_openSets (s : State) (k : Nat) (f : RiderSt → RiderSt) : (s.modRider k f).openSets = s.openSets := rfl
@[simp] theorem State.modRider_parts (s : State) (k : Nat) (f : RiderSt → RiderSt) : (s.modRider k f).parts = s.parts := rfl
@[simp] theorem State.modRider_partSeq (s : State) (k : Nat) (f : RiderSt → RiderSt) : (s.modRider k f).partSeq = s.partSeq := rfl
@[simp] theorem State.modRider_fused (s : State) (k : Nat) (f : RiderSt → RiderSt) : (s.modRider k f).fused = s.fused := rfl
@[simp] theorem State.modRider_repair (s : State) (k : Nat) (f : RiderSt → RiderSt) : (s.modRider k f).repair = s.repair := rfl
@[simp] theorem State.modRider_counters (s : State) (k : Nat) (f : RiderSt → RiderSt) : (s.modRider k f).counters = s.counters := rfl
@[simp] theorem State.modRider_alarms (s : State) (k : Nat) (f : RiderSt → RiderSt) : (s.modRider k f).alarms = s.alarms := rfl
@[simp] theorem State.modRider_srcs (s : State) (k : Nat) (f : RiderSt → RiderSt) : (s.modRider k f).srcs = s.srcs := rfl
@[simp] theorem State.modRider_dsts (s : State) (k : Nat) (f : RiderSt → RiderSt) : (s.modRider k f).dsts = s.dsts := rfl
@[simp] theorem State.modRider_convs (s : State) (k : Nat) (f : RiderSt → RiderSt) : (s.modRider k f).convs = s.convs := rfl
@[simp] theorem State.modRider_ains (s : State) (k : Nat) (f : RiderSt → RiderSt) : (s.modRider k f).ains = s.ains := rfl
@[simp] theorem State.modRider_aouts (s : State) (k : Nat) (f : RiderSt → RiderSt) : (s.modRider k f).aouts = s.aouts := rfl
@[simp] theorem State.modRider_aports (s : State) (k : Nat) (f : RiderSt → RiderSt) : (s.modRider k f).aports = s.aports := rfl
@[simp] theorem State.modRider_lanes (s : State) (k : Nat) (f : RiderSt → RiderSt) : (s.modRider k f).lanes = s.lanes := rfl
@[simp] theorem State.modRider_buses (s : State) (k : Nat) (f : RiderSt → RiderSt) : (s.modRider k f).buses = s.buses := rfl
@[simp] theorem State.modRider_ports (s : State) (k : Nat) (f : RiderSt → RiderSt) : (s.modRider k f).ports = s.ports := rfl
@[simp] theorem State.modRider_flows (s : State) (k : Nat) (f : RiderSt → RiderSt) : (s.modRider k f).flows = s.flows := rfl
@[simp] theorem State.modRider_queues (s : State) (k : Nat) (f : RiderSt → RiderSt) : (s.modRider k f).queues = s.queues := rfl
@[simp] theorem State.modRider_gates (s : State) (k : Nat) (f : RiderSt → RiderSt) : (s.modRider k f).gates = s.gates := rfl
@[simp] theorem State.modRider_planes (s : State) (k : Nat) (f : RiderSt → RiderSt) : (s.modRider k f).planes = s.planes := rfl
@[simp] theorem State.modRider_levee (s : State) (k : Nat) (f : RiderSt → RiderSt) : (s.modRider k f).levee = s.levee := rfl
@[simp] theorem State.modRider_refs (s : State) (k : Nat) (f : RiderSt → RiderSt) : (s.modRider k f).refs = s.refs := rfl
@[simp] theorem State.modRider_hg (s : State) (k : Nat) (f : RiderSt → RiderSt) : (s.modRider k f).hg = s.hg := rfl
@[simp] theorem State.modRider_caps (s : State) (k : Nat) (f : RiderSt → RiderSt) : (s.modRider k f).caps = s.caps := rfl
@[simp] theorem State.modRider_trigs (s : State) (k : Nat) (f : RiderSt → RiderSt) : (s.modRider k f).trigs = s.trigs := rfl
@[simp] theorem State.modRider_stems (s : State) (k : Nat) (f : RiderSt → RiderSt) : (s.modRider k f).stems = s.stems := rfl
@[simp] theorem State.modRider_rends (s : State) (k : Nat) (f : RiderSt → RiderSt) : (s.modRider k f).rends = s.rends := rfl
@[simp] theorem State.modRider_delivs (s : State) (k : Nat) (f : RiderSt → RiderSt) : (s.modRider k f).delivs = s.delivs := rfl
@[simp] theorem State.modRider_cores (s : State) (k : Nat) (f : RiderSt → RiderSt) : (s.modRider k f).cores = s.cores := rfl
@[simp] theorem State.modRider_riderDev (s : State) (k : Nat) (f : RiderSt → RiderSt) : (s.modRider k f).riderDev = s.riderDev := rfl
@[simp] theorem State.modRider_jobs (s : State) (k : Nat) (f : RiderSt → RiderSt) : (s.modRider k f).jobs = s.jobs := rfl
@[simp] theorem State.modRider_jobSeq (s : State) (k : Nat) (f : RiderSt → RiderSt) : (s.modRider k f).jobSeq = s.jobSeq := rfl
@[simp] theorem State.modRider_hostFlows (s : State) (k : Nat) (f : RiderSt → RiderSt) : (s.modRider k f).hostFlows = s.hostFlows := rfl
@[simp] theorem State.modRider_ctxs (s : State) (k : Nat) (f : RiderSt → RiderSt) : (s.modRider k f).ctxs = s.ctxs := rfl
@[simp] theorem State.modRider_heads (s : State) (k : Nat) (f : RiderSt → RiderSt) : (s.modRider k f).heads = s.heads := rfl
@[simp] theorem State.modRider_layers (s : State) (k : Nat) (f : RiderSt → RiderSt) : (s.modRider k f).layers = s.layers := rfl
@[simp] theorem State.modRider_readback (s : State) (k : Nat) (f : RiderSt → RiderSt) : (s.modRider k f).readback = s.readback := rfl
@[simp] theorem State.modRider_culverts (s : State) (k : Nat) (f : RiderSt → RiderSt) : (s.modRider k f).culverts = s.culverts := rfl
@[simp] theorem State.modRider_dramStacks (s : State) (k : Nat) (f : RiderSt → RiderSt) : (s.modRider k f).dramStacks = s.dramStacks := rfl
@[simp] theorem State.modRider_rmem (s : State) (k : Nat) (f : RiderSt → RiderSt) : (s.modRider k f).rmem = s.rmem := rfl
@[simp] theorem State.modRider_dram (s : State) (k : Nat) (f : RiderSt → RiderSt) : (s.modRider k f).dram = s.dram := rfl
@[simp] theorem State.modRider_capStamps (s : State) (k : Nat) (f : RiderSt → RiderSt) : (s.modRider k f).capStamps = s.capStamps := rfl
@[simp] theorem State.modRider_remap (s : State) (k : Nat) (f : RiderSt → RiderSt) : (s.modRider k f).remap = s.remap := rfl
@[simp] theorem State.modRider_busReqs (s : State) (k : Nat) (f : RiderSt → RiderSt) : (s.modRider k f).busReqs = s.busReqs := rfl
@[simp] theorem State.modRider_gauges (s : State) (k : Nat) (f : RiderSt → RiderSt) : (s.modRider k f).gauges = s.gauges := rfl
@[simp] theorem State.modRider_thermal (s : State) (k : Nat) (f : RiderSt → RiderSt) : (s.modRider k f).thermal = s.thermal := rfl
@[simp] theorem State.modRider_image (s : State) (k : Nat) (f : RiderSt → RiderSt) : (s.modRider k f).image = s.image := rfl
@[simp] theorem State.modRider_saved (s : State) (k : Nat) (f : RiderSt → RiderSt) : (s.modRider k f).saved = s.saved := rfl
@[simp] theorem State.modRider_cal (s : State) (k : Nat) (f : RiderSt → RiderSt) : (s.modRider k f).cal = s.cal := rfl
@[simp] theorem State.modRider_svc (s : State) (k : Nat) (f : RiderSt → RiderSt) : (s.modRider k f).svc = s.svc := rfl
@[simp] theorem State.modRider_jtag (s : State) (k : Nat) (f : RiderSt → RiderSt) : (s.modRider k f).jtag = s.jtag := rfl
@[simp] theorem State.modRider_pending (s : State) (k : Nat) (f : RiderSt → RiderSt) : (s.modRider k f).pending = s.pending := rfl

@[simp] theorem State.modHead_time (s : State) (k : Nat) (f : HeadSt → HeadSt) : (s.modHead k f).time = s.time := rfl
@[simp] theorem State.modHead_freeCtr (s : State) (k : Nat) (f : HeadSt → HeadSt) : (s.modHead k f).freeCtr = s.freeCtr := rfl
@[simp] theorem State.modHead_out (s : State) (k : Nat) (f : HeadSt → HeadSt) : (s.modHead k f).out = s.out := rfl
@[simp] theorem State.modHead_pins (s : State) (k : Nat) (f : HeadSt → HeadSt) : (s.modHead k f).pins = s.pins := rfl
@[simp] theorem State.modHead_mode (s : State) (k : Nat) (f : HeadSt → HeadSt) : (s.modHead k f).mode = s.mode := rfl
@[simp] theorem State.modHead_rings (s : State) (k : Nat) (f : HeadSt → HeadSt) : (s.modHead k f).rings = s.rings := rfl
@[simp] theorem State.modHead_ints (s : State) (k : Nat) (f : HeadSt → HeadSt) : (s.modHead k f).ints = s.ints := rfl
@[simp] theorem State.modHead_events (s : State) (k : Nat) (f : HeadSt → HeadSt) : (s.modHead k f).events = s.events := rfl
@[simp] theorem State.modHead_storm (s : State) (k : Nat) (f : HeadSt → HeadSt) : (s.modHead k f).storm = s.storm := rfl
@[simp] theorem State.modHead_domains (s : State) (k : Nat) (f : HeadSt → HeadSt) : (s.modHead k f).domains = s.domains := rfl
@[simp] theorem State.modHead_openSets (s : State) (k : Nat) (f : HeadSt → HeadSt) : (s.modHead k f).openSets = s.openSets := rfl
@[simp] theorem State.modHead_parts (s : State) (k : Nat) (f : HeadSt → HeadSt) : (s.modHead k f).parts = s.parts := rfl
@[simp] theorem State.modHead_partSeq (s : State) (k : Nat) (f : HeadSt → HeadSt) : (s.modHead k f).partSeq = s.partSeq := rfl
@[simp] theorem State.modHead_fused (s : State) (k : Nat) (f : HeadSt → HeadSt) : (s.modHead k f).fused = s.fused := rfl
@[simp] theorem State.modHead_repair (s : State) (k : Nat) (f : HeadSt → HeadSt) : (s.modHead k f).repair = s.repair := rfl
@[simp] theorem State.modHead_counters (s : State) (k : Nat) (f : HeadSt → HeadSt) : (s.modHead k f).counters = s.counters := rfl
@[simp] theorem State.modHead_alarms (s : State) (k : Nat) (f : HeadSt → HeadSt) : (s.modHead k f).alarms = s.alarms := rfl
@[simp] theorem State.modHead_srcs (s : State) (k : Nat) (f : HeadSt → HeadSt) : (s.modHead k f).srcs = s.srcs := rfl
@[simp] theorem State.modHead_dsts (s : State) (k : Nat) (f : HeadSt → HeadSt) : (s.modHead k f).dsts = s.dsts := rfl
@[simp] theorem State.modHead_convs (s : State) (k : Nat) (f : HeadSt → HeadSt) : (s.modHead k f).convs = s.convs := rfl
@[simp] theorem State.modHead_ains (s : State) (k : Nat) (f : HeadSt → HeadSt) : (s.modHead k f).ains = s.ains := rfl
@[simp] theorem State.modHead_aouts (s : State) (k : Nat) (f : HeadSt → HeadSt) : (s.modHead k f).aouts = s.aouts := rfl
@[simp] theorem State.modHead_aports (s : State) (k : Nat) (f : HeadSt → HeadSt) : (s.modHead k f).aports = s.aports := rfl
@[simp] theorem State.modHead_lanes (s : State) (k : Nat) (f : HeadSt → HeadSt) : (s.modHead k f).lanes = s.lanes := rfl
@[simp] theorem State.modHead_buses (s : State) (k : Nat) (f : HeadSt → HeadSt) : (s.modHead k f).buses = s.buses := rfl
@[simp] theorem State.modHead_ports (s : State) (k : Nat) (f : HeadSt → HeadSt) : (s.modHead k f).ports = s.ports := rfl
@[simp] theorem State.modHead_flows (s : State) (k : Nat) (f : HeadSt → HeadSt) : (s.modHead k f).flows = s.flows := rfl
@[simp] theorem State.modHead_queues (s : State) (k : Nat) (f : HeadSt → HeadSt) : (s.modHead k f).queues = s.queues := rfl
@[simp] theorem State.modHead_gates (s : State) (k : Nat) (f : HeadSt → HeadSt) : (s.modHead k f).gates = s.gates := rfl
@[simp] theorem State.modHead_planes (s : State) (k : Nat) (f : HeadSt → HeadSt) : (s.modHead k f).planes = s.planes := rfl
@[simp] theorem State.modHead_levee (s : State) (k : Nat) (f : HeadSt → HeadSt) : (s.modHead k f).levee = s.levee := rfl
@[simp] theorem State.modHead_refs (s : State) (k : Nat) (f : HeadSt → HeadSt) : (s.modHead k f).refs = s.refs := rfl
@[simp] theorem State.modHead_hg (s : State) (k : Nat) (f : HeadSt → HeadSt) : (s.modHead k f).hg = s.hg := rfl
@[simp] theorem State.modHead_caps (s : State) (k : Nat) (f : HeadSt → HeadSt) : (s.modHead k f).caps = s.caps := rfl
@[simp] theorem State.modHead_trigs (s : State) (k : Nat) (f : HeadSt → HeadSt) : (s.modHead k f).trigs = s.trigs := rfl
@[simp] theorem State.modHead_stems (s : State) (k : Nat) (f : HeadSt → HeadSt) : (s.modHead k f).stems = s.stems := rfl
@[simp] theorem State.modHead_rends (s : State) (k : Nat) (f : HeadSt → HeadSt) : (s.modHead k f).rends = s.rends := rfl
@[simp] theorem State.modHead_delivs (s : State) (k : Nat) (f : HeadSt → HeadSt) : (s.modHead k f).delivs = s.delivs := rfl
@[simp] theorem State.modHead_cores (s : State) (k : Nat) (f : HeadSt → HeadSt) : (s.modHead k f).cores = s.cores := rfl
@[simp] theorem State.modHead_riders (s : State) (k : Nat) (f : HeadSt → HeadSt) : (s.modHead k f).riders = s.riders := rfl
@[simp] theorem State.modHead_riderDev (s : State) (k : Nat) (f : HeadSt → HeadSt) : (s.modHead k f).riderDev = s.riderDev := rfl
@[simp] theorem State.modHead_jobs (s : State) (k : Nat) (f : HeadSt → HeadSt) : (s.modHead k f).jobs = s.jobs := rfl
@[simp] theorem State.modHead_jobSeq (s : State) (k : Nat) (f : HeadSt → HeadSt) : (s.modHead k f).jobSeq = s.jobSeq := rfl
@[simp] theorem State.modHead_hostFlows (s : State) (k : Nat) (f : HeadSt → HeadSt) : (s.modHead k f).hostFlows = s.hostFlows := rfl
@[simp] theorem State.modHead_ctxs (s : State) (k : Nat) (f : HeadSt → HeadSt) : (s.modHead k f).ctxs = s.ctxs := rfl
@[simp] theorem State.modHead_layers (s : State) (k : Nat) (f : HeadSt → HeadSt) : (s.modHead k f).layers = s.layers := rfl
@[simp] theorem State.modHead_readback (s : State) (k : Nat) (f : HeadSt → HeadSt) : (s.modHead k f).readback = s.readback := rfl
@[simp] theorem State.modHead_culverts (s : State) (k : Nat) (f : HeadSt → HeadSt) : (s.modHead k f).culverts = s.culverts := rfl
@[simp] theorem State.modHead_dramStacks (s : State) (k : Nat) (f : HeadSt → HeadSt) : (s.modHead k f).dramStacks = s.dramStacks := rfl
@[simp] theorem State.modHead_rmem (s : State) (k : Nat) (f : HeadSt → HeadSt) : (s.modHead k f).rmem = s.rmem := rfl
@[simp] theorem State.modHead_dram (s : State) (k : Nat) (f : HeadSt → HeadSt) : (s.modHead k f).dram = s.dram := rfl
@[simp] theorem State.modHead_capStamps (s : State) (k : Nat) (f : HeadSt → HeadSt) : (s.modHead k f).capStamps = s.capStamps := rfl
@[simp] theorem State.modHead_remap (s : State) (k : Nat) (f : HeadSt → HeadSt) : (s.modHead k f).remap = s.remap := rfl
@[simp] theorem State.modHead_busReqs (s : State) (k : Nat) (f : HeadSt → HeadSt) : (s.modHead k f).busReqs = s.busReqs := rfl
@[simp] theorem State.modHead_gauges (s : State) (k : Nat) (f : HeadSt → HeadSt) : (s.modHead k f).gauges = s.gauges := rfl
@[simp] theorem State.modHead_thermal (s : State) (k : Nat) (f : HeadSt → HeadSt) : (s.modHead k f).thermal = s.thermal := rfl
@[simp] theorem State.modHead_image (s : State) (k : Nat) (f : HeadSt → HeadSt) : (s.modHead k f).image = s.image := rfl
@[simp] theorem State.modHead_saved (s : State) (k : Nat) (f : HeadSt → HeadSt) : (s.modHead k f).saved = s.saved := rfl
@[simp] theorem State.modHead_cal (s : State) (k : Nat) (f : HeadSt → HeadSt) : (s.modHead k f).cal = s.cal := rfl
@[simp] theorem State.modHead_svc (s : State) (k : Nat) (f : HeadSt → HeadSt) : (s.modHead k f).svc = s.svc := rfl
@[simp] theorem State.modHead_jtag (s : State) (k : Nat) (f : HeadSt → HeadSt) : (s.modHead k f).jtag = s.jtag := rfl
@[simp] theorem State.modHead_pending (s : State) (k : Nat) (f : HeadSt → HeadSt) : (s.modHead k f).pending = s.pending := rfl

@[simp] theorem State.modCulvert_time (s : State) (k : Nat) (f : CulvertSt → CulvertSt) : (s.modCulvert k f).time = s.time := rfl
@[simp] theorem State.modCulvert_freeCtr (s : State) (k : Nat) (f : CulvertSt → CulvertSt) : (s.modCulvert k f).freeCtr = s.freeCtr := rfl
@[simp] theorem State.modCulvert_out (s : State) (k : Nat) (f : CulvertSt → CulvertSt) : (s.modCulvert k f).out = s.out := rfl
@[simp] theorem State.modCulvert_pins (s : State) (k : Nat) (f : CulvertSt → CulvertSt) : (s.modCulvert k f).pins = s.pins := rfl
@[simp] theorem State.modCulvert_mode (s : State) (k : Nat) (f : CulvertSt → CulvertSt) : (s.modCulvert k f).mode = s.mode := rfl
@[simp] theorem State.modCulvert_rings (s : State) (k : Nat) (f : CulvertSt → CulvertSt) : (s.modCulvert k f).rings = s.rings := rfl
@[simp] theorem State.modCulvert_ints (s : State) (k : Nat) (f : CulvertSt → CulvertSt) : (s.modCulvert k f).ints = s.ints := rfl
@[simp] theorem State.modCulvert_events (s : State) (k : Nat) (f : CulvertSt → CulvertSt) : (s.modCulvert k f).events = s.events := rfl
@[simp] theorem State.modCulvert_storm (s : State) (k : Nat) (f : CulvertSt → CulvertSt) : (s.modCulvert k f).storm = s.storm := rfl
@[simp] theorem State.modCulvert_domains (s : State) (k : Nat) (f : CulvertSt → CulvertSt) : (s.modCulvert k f).domains = s.domains := rfl
@[simp] theorem State.modCulvert_openSets (s : State) (k : Nat) (f : CulvertSt → CulvertSt) : (s.modCulvert k f).openSets = s.openSets := rfl
@[simp] theorem State.modCulvert_parts (s : State) (k : Nat) (f : CulvertSt → CulvertSt) : (s.modCulvert k f).parts = s.parts := rfl
@[simp] theorem State.modCulvert_partSeq (s : State) (k : Nat) (f : CulvertSt → CulvertSt) : (s.modCulvert k f).partSeq = s.partSeq := rfl
@[simp] theorem State.modCulvert_fused (s : State) (k : Nat) (f : CulvertSt → CulvertSt) : (s.modCulvert k f).fused = s.fused := rfl
@[simp] theorem State.modCulvert_repair (s : State) (k : Nat) (f : CulvertSt → CulvertSt) : (s.modCulvert k f).repair = s.repair := rfl
@[simp] theorem State.modCulvert_counters (s : State) (k : Nat) (f : CulvertSt → CulvertSt) : (s.modCulvert k f).counters = s.counters := rfl
@[simp] theorem State.modCulvert_alarms (s : State) (k : Nat) (f : CulvertSt → CulvertSt) : (s.modCulvert k f).alarms = s.alarms := rfl
@[simp] theorem State.modCulvert_srcs (s : State) (k : Nat) (f : CulvertSt → CulvertSt) : (s.modCulvert k f).srcs = s.srcs := rfl
@[simp] theorem State.modCulvert_dsts (s : State) (k : Nat) (f : CulvertSt → CulvertSt) : (s.modCulvert k f).dsts = s.dsts := rfl
@[simp] theorem State.modCulvert_convs (s : State) (k : Nat) (f : CulvertSt → CulvertSt) : (s.modCulvert k f).convs = s.convs := rfl
@[simp] theorem State.modCulvert_ains (s : State) (k : Nat) (f : CulvertSt → CulvertSt) : (s.modCulvert k f).ains = s.ains := rfl
@[simp] theorem State.modCulvert_aouts (s : State) (k : Nat) (f : CulvertSt → CulvertSt) : (s.modCulvert k f).aouts = s.aouts := rfl
@[simp] theorem State.modCulvert_aports (s : State) (k : Nat) (f : CulvertSt → CulvertSt) : (s.modCulvert k f).aports = s.aports := rfl
@[simp] theorem State.modCulvert_lanes (s : State) (k : Nat) (f : CulvertSt → CulvertSt) : (s.modCulvert k f).lanes = s.lanes := rfl
@[simp] theorem State.modCulvert_buses (s : State) (k : Nat) (f : CulvertSt → CulvertSt) : (s.modCulvert k f).buses = s.buses := rfl
@[simp] theorem State.modCulvert_ports (s : State) (k : Nat) (f : CulvertSt → CulvertSt) : (s.modCulvert k f).ports = s.ports := rfl
@[simp] theorem State.modCulvert_flows (s : State) (k : Nat) (f : CulvertSt → CulvertSt) : (s.modCulvert k f).flows = s.flows := rfl
@[simp] theorem State.modCulvert_queues (s : State) (k : Nat) (f : CulvertSt → CulvertSt) : (s.modCulvert k f).queues = s.queues := rfl
@[simp] theorem State.modCulvert_gates (s : State) (k : Nat) (f : CulvertSt → CulvertSt) : (s.modCulvert k f).gates = s.gates := rfl
@[simp] theorem State.modCulvert_planes (s : State) (k : Nat) (f : CulvertSt → CulvertSt) : (s.modCulvert k f).planes = s.planes := rfl
@[simp] theorem State.modCulvert_levee (s : State) (k : Nat) (f : CulvertSt → CulvertSt) : (s.modCulvert k f).levee = s.levee := rfl
@[simp] theorem State.modCulvert_refs (s : State) (k : Nat) (f : CulvertSt → CulvertSt) : (s.modCulvert k f).refs = s.refs := rfl
@[simp] theorem State.modCulvert_hg (s : State) (k : Nat) (f : CulvertSt → CulvertSt) : (s.modCulvert k f).hg = s.hg := rfl
@[simp] theorem State.modCulvert_caps (s : State) (k : Nat) (f : CulvertSt → CulvertSt) : (s.modCulvert k f).caps = s.caps := rfl
@[simp] theorem State.modCulvert_trigs (s : State) (k : Nat) (f : CulvertSt → CulvertSt) : (s.modCulvert k f).trigs = s.trigs := rfl
@[simp] theorem State.modCulvert_stems (s : State) (k : Nat) (f : CulvertSt → CulvertSt) : (s.modCulvert k f).stems = s.stems := rfl
@[simp] theorem State.modCulvert_rends (s : State) (k : Nat) (f : CulvertSt → CulvertSt) : (s.modCulvert k f).rends = s.rends := rfl
@[simp] theorem State.modCulvert_delivs (s : State) (k : Nat) (f : CulvertSt → CulvertSt) : (s.modCulvert k f).delivs = s.delivs := rfl
@[simp] theorem State.modCulvert_cores (s : State) (k : Nat) (f : CulvertSt → CulvertSt) : (s.modCulvert k f).cores = s.cores := rfl
@[simp] theorem State.modCulvert_riders (s : State) (k : Nat) (f : CulvertSt → CulvertSt) : (s.modCulvert k f).riders = s.riders := rfl
@[simp] theorem State.modCulvert_riderDev (s : State) (k : Nat) (f : CulvertSt → CulvertSt) : (s.modCulvert k f).riderDev = s.riderDev := rfl
@[simp] theorem State.modCulvert_jobs (s : State) (k : Nat) (f : CulvertSt → CulvertSt) : (s.modCulvert k f).jobs = s.jobs := rfl
@[simp] theorem State.modCulvert_jobSeq (s : State) (k : Nat) (f : CulvertSt → CulvertSt) : (s.modCulvert k f).jobSeq = s.jobSeq := rfl
@[simp] theorem State.modCulvert_hostFlows (s : State) (k : Nat) (f : CulvertSt → CulvertSt) : (s.modCulvert k f).hostFlows = s.hostFlows := rfl
@[simp] theorem State.modCulvert_ctxs (s : State) (k : Nat) (f : CulvertSt → CulvertSt) : (s.modCulvert k f).ctxs = s.ctxs := rfl
@[simp] theorem State.modCulvert_heads (s : State) (k : Nat) (f : CulvertSt → CulvertSt) : (s.modCulvert k f).heads = s.heads := rfl
@[simp] theorem State.modCulvert_layers (s : State) (k : Nat) (f : CulvertSt → CulvertSt) : (s.modCulvert k f).layers = s.layers := rfl
@[simp] theorem State.modCulvert_readback (s : State) (k : Nat) (f : CulvertSt → CulvertSt) : (s.modCulvert k f).readback = s.readback := rfl
@[simp] theorem State.modCulvert_dramStacks (s : State) (k : Nat) (f : CulvertSt → CulvertSt) : (s.modCulvert k f).dramStacks = s.dramStacks := rfl
@[simp] theorem State.modCulvert_rmem (s : State) (k : Nat) (f : CulvertSt → CulvertSt) : (s.modCulvert k f).rmem = s.rmem := rfl
@[simp] theorem State.modCulvert_dram (s : State) (k : Nat) (f : CulvertSt → CulvertSt) : (s.modCulvert k f).dram = s.dram := rfl
@[simp] theorem State.modCulvert_capStamps (s : State) (k : Nat) (f : CulvertSt → CulvertSt) : (s.modCulvert k f).capStamps = s.capStamps := rfl
@[simp] theorem State.modCulvert_remap (s : State) (k : Nat) (f : CulvertSt → CulvertSt) : (s.modCulvert k f).remap = s.remap := rfl
@[simp] theorem State.modCulvert_busReqs (s : State) (k : Nat) (f : CulvertSt → CulvertSt) : (s.modCulvert k f).busReqs = s.busReqs := rfl
@[simp] theorem State.modCulvert_gauges (s : State) (k : Nat) (f : CulvertSt → CulvertSt) : (s.modCulvert k f).gauges = s.gauges := rfl
@[simp] theorem State.modCulvert_thermal (s : State) (k : Nat) (f : CulvertSt → CulvertSt) : (s.modCulvert k f).thermal = s.thermal := rfl
@[simp] theorem State.modCulvert_image (s : State) (k : Nat) (f : CulvertSt → CulvertSt) : (s.modCulvert k f).image = s.image := rfl
@[simp] theorem State.modCulvert_saved (s : State) (k : Nat) (f : CulvertSt → CulvertSt) : (s.modCulvert k f).saved = s.saved := rfl
@[simp] theorem State.modCulvert_cal (s : State) (k : Nat) (f : CulvertSt → CulvertSt) : (s.modCulvert k f).cal = s.cal := rfl
@[simp] theorem State.modCulvert_svc (s : State) (k : Nat) (f : CulvertSt → CulvertSt) : (s.modCulvert k f).svc = s.svc := rfl
@[simp] theorem State.modCulvert_jtag (s : State) (k : Nat) (f : CulvertSt → CulvertSt) : (s.modCulvert k f).jtag = s.jtag := rfl
@[simp] theorem State.modCulvert_pending (s : State) (k : Nat) (f : CulvertSt → CulvertSt) : (s.modCulvert k f).pending = s.pending := rfl

@[simp] theorem State.modStack_time (s : State) (k : Nat) (f : StackSt → StackSt) : (s.modStack k f).time = s.time := rfl
@[simp] theorem State.modStack_freeCtr (s : State) (k : Nat) (f : StackSt → StackSt) : (s.modStack k f).freeCtr = s.freeCtr := rfl
@[simp] theorem State.modStack_out (s : State) (k : Nat) (f : StackSt → StackSt) : (s.modStack k f).out = s.out := rfl
@[simp] theorem State.modStack_pins (s : State) (k : Nat) (f : StackSt → StackSt) : (s.modStack k f).pins = s.pins := rfl
@[simp] theorem State.modStack_mode (s : State) (k : Nat) (f : StackSt → StackSt) : (s.modStack k f).mode = s.mode := rfl
@[simp] theorem State.modStack_rings (s : State) (k : Nat) (f : StackSt → StackSt) : (s.modStack k f).rings = s.rings := rfl
@[simp] theorem State.modStack_ints (s : State) (k : Nat) (f : StackSt → StackSt) : (s.modStack k f).ints = s.ints := rfl
@[simp] theorem State.modStack_events (s : State) (k : Nat) (f : StackSt → StackSt) : (s.modStack k f).events = s.events := rfl
@[simp] theorem State.modStack_storm (s : State) (k : Nat) (f : StackSt → StackSt) : (s.modStack k f).storm = s.storm := rfl
@[simp] theorem State.modStack_domains (s : State) (k : Nat) (f : StackSt → StackSt) : (s.modStack k f).domains = s.domains := rfl
@[simp] theorem State.modStack_openSets (s : State) (k : Nat) (f : StackSt → StackSt) : (s.modStack k f).openSets = s.openSets := rfl
@[simp] theorem State.modStack_parts (s : State) (k : Nat) (f : StackSt → StackSt) : (s.modStack k f).parts = s.parts := rfl
@[simp] theorem State.modStack_partSeq (s : State) (k : Nat) (f : StackSt → StackSt) : (s.modStack k f).partSeq = s.partSeq := rfl
@[simp] theorem State.modStack_fused (s : State) (k : Nat) (f : StackSt → StackSt) : (s.modStack k f).fused = s.fused := rfl
@[simp] theorem State.modStack_repair (s : State) (k : Nat) (f : StackSt → StackSt) : (s.modStack k f).repair = s.repair := rfl
@[simp] theorem State.modStack_counters (s : State) (k : Nat) (f : StackSt → StackSt) : (s.modStack k f).counters = s.counters := rfl
@[simp] theorem State.modStack_alarms (s : State) (k : Nat) (f : StackSt → StackSt) : (s.modStack k f).alarms = s.alarms := rfl
@[simp] theorem State.modStack_srcs (s : State) (k : Nat) (f : StackSt → StackSt) : (s.modStack k f).srcs = s.srcs := rfl
@[simp] theorem State.modStack_dsts (s : State) (k : Nat) (f : StackSt → StackSt) : (s.modStack k f).dsts = s.dsts := rfl
@[simp] theorem State.modStack_convs (s : State) (k : Nat) (f : StackSt → StackSt) : (s.modStack k f).convs = s.convs := rfl
@[simp] theorem State.modStack_ains (s : State) (k : Nat) (f : StackSt → StackSt) : (s.modStack k f).ains = s.ains := rfl
@[simp] theorem State.modStack_aouts (s : State) (k : Nat) (f : StackSt → StackSt) : (s.modStack k f).aouts = s.aouts := rfl
@[simp] theorem State.modStack_aports (s : State) (k : Nat) (f : StackSt → StackSt) : (s.modStack k f).aports = s.aports := rfl
@[simp] theorem State.modStack_lanes (s : State) (k : Nat) (f : StackSt → StackSt) : (s.modStack k f).lanes = s.lanes := rfl
@[simp] theorem State.modStack_buses (s : State) (k : Nat) (f : StackSt → StackSt) : (s.modStack k f).buses = s.buses := rfl
@[simp] theorem State.modStack_ports (s : State) (k : Nat) (f : StackSt → StackSt) : (s.modStack k f).ports = s.ports := rfl
@[simp] theorem State.modStack_flows (s : State) (k : Nat) (f : StackSt → StackSt) : (s.modStack k f).flows = s.flows := rfl
@[simp] theorem State.modStack_queues (s : State) (k : Nat) (f : StackSt → StackSt) : (s.modStack k f).queues = s.queues := rfl
@[simp] theorem State.modStack_gates (s : State) (k : Nat) (f : StackSt → StackSt) : (s.modStack k f).gates = s.gates := rfl
@[simp] theorem State.modStack_planes (s : State) (k : Nat) (f : StackSt → StackSt) : (s.modStack k f).planes = s.planes := rfl
@[simp] theorem State.modStack_levee (s : State) (k : Nat) (f : StackSt → StackSt) : (s.modStack k f).levee = s.levee := rfl
@[simp] theorem State.modStack_refs (s : State) (k : Nat) (f : StackSt → StackSt) : (s.modStack k f).refs = s.refs := rfl
@[simp] theorem State.modStack_hg (s : State) (k : Nat) (f : StackSt → StackSt) : (s.modStack k f).hg = s.hg := rfl
@[simp] theorem State.modStack_caps (s : State) (k : Nat) (f : StackSt → StackSt) : (s.modStack k f).caps = s.caps := rfl
@[simp] theorem State.modStack_trigs (s : State) (k : Nat) (f : StackSt → StackSt) : (s.modStack k f).trigs = s.trigs := rfl
@[simp] theorem State.modStack_stems (s : State) (k : Nat) (f : StackSt → StackSt) : (s.modStack k f).stems = s.stems := rfl
@[simp] theorem State.modStack_rends (s : State) (k : Nat) (f : StackSt → StackSt) : (s.modStack k f).rends = s.rends := rfl
@[simp] theorem State.modStack_delivs (s : State) (k : Nat) (f : StackSt → StackSt) : (s.modStack k f).delivs = s.delivs := rfl
@[simp] theorem State.modStack_cores (s : State) (k : Nat) (f : StackSt → StackSt) : (s.modStack k f).cores = s.cores := rfl
@[simp] theorem State.modStack_riders (s : State) (k : Nat) (f : StackSt → StackSt) : (s.modStack k f).riders = s.riders := rfl
@[simp] theorem State.modStack_riderDev (s : State) (k : Nat) (f : StackSt → StackSt) : (s.modStack k f).riderDev = s.riderDev := rfl
@[simp] theorem State.modStack_jobs (s : State) (k : Nat) (f : StackSt → StackSt) : (s.modStack k f).jobs = s.jobs := rfl
@[simp] theorem State.modStack_jobSeq (s : State) (k : Nat) (f : StackSt → StackSt) : (s.modStack k f).jobSeq = s.jobSeq := rfl
@[simp] theorem State.modStack_hostFlows (s : State) (k : Nat) (f : StackSt → StackSt) : (s.modStack k f).hostFlows = s.hostFlows := rfl
@[simp] theorem State.modStack_ctxs (s : State) (k : Nat) (f : StackSt → StackSt) : (s.modStack k f).ctxs = s.ctxs := rfl
@[simp] theorem State.modStack_heads (s : State) (k : Nat) (f : StackSt → StackSt) : (s.modStack k f).heads = s.heads := rfl
@[simp] theorem State.modStack_layers (s : State) (k : Nat) (f : StackSt → StackSt) : (s.modStack k f).layers = s.layers := rfl
@[simp] theorem State.modStack_readback (s : State) (k : Nat) (f : StackSt → StackSt) : (s.modStack k f).readback = s.readback := rfl
@[simp] theorem State.modStack_culverts (s : State) (k : Nat) (f : StackSt → StackSt) : (s.modStack k f).culverts = s.culverts := rfl
@[simp] theorem State.modStack_rmem (s : State) (k : Nat) (f : StackSt → StackSt) : (s.modStack k f).rmem = s.rmem := rfl
@[simp] theorem State.modStack_dram (s : State) (k : Nat) (f : StackSt → StackSt) : (s.modStack k f).dram = s.dram := rfl
@[simp] theorem State.modStack_capStamps (s : State) (k : Nat) (f : StackSt → StackSt) : (s.modStack k f).capStamps = s.capStamps := rfl
@[simp] theorem State.modStack_remap (s : State) (k : Nat) (f : StackSt → StackSt) : (s.modStack k f).remap = s.remap := rfl
@[simp] theorem State.modStack_busReqs (s : State) (k : Nat) (f : StackSt → StackSt) : (s.modStack k f).busReqs = s.busReqs := rfl
@[simp] theorem State.modStack_gauges (s : State) (k : Nat) (f : StackSt → StackSt) : (s.modStack k f).gauges = s.gauges := rfl
@[simp] theorem State.modStack_thermal (s : State) (k : Nat) (f : StackSt → StackSt) : (s.modStack k f).thermal = s.thermal := rfl
@[simp] theorem State.modStack_image (s : State) (k : Nat) (f : StackSt → StackSt) : (s.modStack k f).image = s.image := rfl
@[simp] theorem State.modStack_saved (s : State) (k : Nat) (f : StackSt → StackSt) : (s.modStack k f).saved = s.saved := rfl
@[simp] theorem State.modStack_cal (s : State) (k : Nat) (f : StackSt → StackSt) : (s.modStack k f).cal = s.cal := rfl
@[simp] theorem State.modStack_svc (s : State) (k : Nat) (f : StackSt → StackSt) : (s.modStack k f).svc = s.svc := rfl
@[simp] theorem State.modStack_jtag (s : State) (k : Nat) (f : StackSt → StackSt) : (s.modStack k f).jtag = s.jtag := rfl
@[simp] theorem State.modStack_pending (s : State) (k : Nat) (f : StackSt → StackSt) : (s.modStack k f).pending = s.pending := rfl

@[simp] theorem State.modReachMem_time (s : State) (k : Nat) (f : ReachMem → ReachMem) : (s.modReachMem k f).time = s.time := rfl
@[simp] theorem State.modReachMem_freeCtr (s : State) (k : Nat) (f : ReachMem → ReachMem) : (s.modReachMem k f).freeCtr = s.freeCtr := rfl
@[simp] theorem State.modReachMem_out (s : State) (k : Nat) (f : ReachMem → ReachMem) : (s.modReachMem k f).out = s.out := rfl
@[simp] theorem State.modReachMem_pins (s : State) (k : Nat) (f : ReachMem → ReachMem) : (s.modReachMem k f).pins = s.pins := rfl
@[simp] theorem State.modReachMem_mode (s : State) (k : Nat) (f : ReachMem → ReachMem) : (s.modReachMem k f).mode = s.mode := rfl
@[simp] theorem State.modReachMem_rings (s : State) (k : Nat) (f : ReachMem → ReachMem) : (s.modReachMem k f).rings = s.rings := rfl
@[simp] theorem State.modReachMem_ints (s : State) (k : Nat) (f : ReachMem → ReachMem) : (s.modReachMem k f).ints = s.ints := rfl
@[simp] theorem State.modReachMem_events (s : State) (k : Nat) (f : ReachMem → ReachMem) : (s.modReachMem k f).events = s.events := rfl
@[simp] theorem State.modReachMem_storm (s : State) (k : Nat) (f : ReachMem → ReachMem) : (s.modReachMem k f).storm = s.storm := rfl
@[simp] theorem State.modReachMem_domains (s : State) (k : Nat) (f : ReachMem → ReachMem) : (s.modReachMem k f).domains = s.domains := rfl
@[simp] theorem State.modReachMem_openSets (s : State) (k : Nat) (f : ReachMem → ReachMem) : (s.modReachMem k f).openSets = s.openSets := rfl
@[simp] theorem State.modReachMem_parts (s : State) (k : Nat) (f : ReachMem → ReachMem) : (s.modReachMem k f).parts = s.parts := rfl
@[simp] theorem State.modReachMem_partSeq (s : State) (k : Nat) (f : ReachMem → ReachMem) : (s.modReachMem k f).partSeq = s.partSeq := rfl
@[simp] theorem State.modReachMem_fused (s : State) (k : Nat) (f : ReachMem → ReachMem) : (s.modReachMem k f).fused = s.fused := rfl
@[simp] theorem State.modReachMem_repair (s : State) (k : Nat) (f : ReachMem → ReachMem) : (s.modReachMem k f).repair = s.repair := rfl
@[simp] theorem State.modReachMem_counters (s : State) (k : Nat) (f : ReachMem → ReachMem) : (s.modReachMem k f).counters = s.counters := rfl
@[simp] theorem State.modReachMem_alarms (s : State) (k : Nat) (f : ReachMem → ReachMem) : (s.modReachMem k f).alarms = s.alarms := rfl
@[simp] theorem State.modReachMem_srcs (s : State) (k : Nat) (f : ReachMem → ReachMem) : (s.modReachMem k f).srcs = s.srcs := rfl
@[simp] theorem State.modReachMem_dsts (s : State) (k : Nat) (f : ReachMem → ReachMem) : (s.modReachMem k f).dsts = s.dsts := rfl
@[simp] theorem State.modReachMem_convs (s : State) (k : Nat) (f : ReachMem → ReachMem) : (s.modReachMem k f).convs = s.convs := rfl
@[simp] theorem State.modReachMem_ains (s : State) (k : Nat) (f : ReachMem → ReachMem) : (s.modReachMem k f).ains = s.ains := rfl
@[simp] theorem State.modReachMem_aouts (s : State) (k : Nat) (f : ReachMem → ReachMem) : (s.modReachMem k f).aouts = s.aouts := rfl
@[simp] theorem State.modReachMem_aports (s : State) (k : Nat) (f : ReachMem → ReachMem) : (s.modReachMem k f).aports = s.aports := rfl
@[simp] theorem State.modReachMem_lanes (s : State) (k : Nat) (f : ReachMem → ReachMem) : (s.modReachMem k f).lanes = s.lanes := rfl
@[simp] theorem State.modReachMem_buses (s : State) (k : Nat) (f : ReachMem → ReachMem) : (s.modReachMem k f).buses = s.buses := rfl
@[simp] theorem State.modReachMem_ports (s : State) (k : Nat) (f : ReachMem → ReachMem) : (s.modReachMem k f).ports = s.ports := rfl
@[simp] theorem State.modReachMem_flows (s : State) (k : Nat) (f : ReachMem → ReachMem) : (s.modReachMem k f).flows = s.flows := rfl
@[simp] theorem State.modReachMem_queues (s : State) (k : Nat) (f : ReachMem → ReachMem) : (s.modReachMem k f).queues = s.queues := rfl
@[simp] theorem State.modReachMem_gates (s : State) (k : Nat) (f : ReachMem → ReachMem) : (s.modReachMem k f).gates = s.gates := rfl
@[simp] theorem State.modReachMem_planes (s : State) (k : Nat) (f : ReachMem → ReachMem) : (s.modReachMem k f).planes = s.planes := rfl
@[simp] theorem State.modReachMem_levee (s : State) (k : Nat) (f : ReachMem → ReachMem) : (s.modReachMem k f).levee = s.levee := rfl
@[simp] theorem State.modReachMem_refs (s : State) (k : Nat) (f : ReachMem → ReachMem) : (s.modReachMem k f).refs = s.refs := rfl
@[simp] theorem State.modReachMem_hg (s : State) (k : Nat) (f : ReachMem → ReachMem) : (s.modReachMem k f).hg = s.hg := rfl
@[simp] theorem State.modReachMem_caps (s : State) (k : Nat) (f : ReachMem → ReachMem) : (s.modReachMem k f).caps = s.caps := rfl
@[simp] theorem State.modReachMem_trigs (s : State) (k : Nat) (f : ReachMem → ReachMem) : (s.modReachMem k f).trigs = s.trigs := rfl
@[simp] theorem State.modReachMem_stems (s : State) (k : Nat) (f : ReachMem → ReachMem) : (s.modReachMem k f).stems = s.stems := rfl
@[simp] theorem State.modReachMem_rends (s : State) (k : Nat) (f : ReachMem → ReachMem) : (s.modReachMem k f).rends = s.rends := rfl
@[simp] theorem State.modReachMem_delivs (s : State) (k : Nat) (f : ReachMem → ReachMem) : (s.modReachMem k f).delivs = s.delivs := rfl
@[simp] theorem State.modReachMem_cores (s : State) (k : Nat) (f : ReachMem → ReachMem) : (s.modReachMem k f).cores = s.cores := rfl
@[simp] theorem State.modReachMem_riders (s : State) (k : Nat) (f : ReachMem → ReachMem) : (s.modReachMem k f).riders = s.riders := rfl
@[simp] theorem State.modReachMem_riderDev (s : State) (k : Nat) (f : ReachMem → ReachMem) : (s.modReachMem k f).riderDev = s.riderDev := rfl
@[simp] theorem State.modReachMem_jobs (s : State) (k : Nat) (f : ReachMem → ReachMem) : (s.modReachMem k f).jobs = s.jobs := rfl
@[simp] theorem State.modReachMem_jobSeq (s : State) (k : Nat) (f : ReachMem → ReachMem) : (s.modReachMem k f).jobSeq = s.jobSeq := rfl
@[simp] theorem State.modReachMem_hostFlows (s : State) (k : Nat) (f : ReachMem → ReachMem) : (s.modReachMem k f).hostFlows = s.hostFlows := rfl
@[simp] theorem State.modReachMem_ctxs (s : State) (k : Nat) (f : ReachMem → ReachMem) : (s.modReachMem k f).ctxs = s.ctxs := rfl
@[simp] theorem State.modReachMem_heads (s : State) (k : Nat) (f : ReachMem → ReachMem) : (s.modReachMem k f).heads = s.heads := rfl
@[simp] theorem State.modReachMem_layers (s : State) (k : Nat) (f : ReachMem → ReachMem) : (s.modReachMem k f).layers = s.layers := rfl
@[simp] theorem State.modReachMem_readback (s : State) (k : Nat) (f : ReachMem → ReachMem) : (s.modReachMem k f).readback = s.readback := rfl
@[simp] theorem State.modReachMem_culverts (s : State) (k : Nat) (f : ReachMem → ReachMem) : (s.modReachMem k f).culverts = s.culverts := rfl
@[simp] theorem State.modReachMem_dramStacks (s : State) (k : Nat) (f : ReachMem → ReachMem) : (s.modReachMem k f).dramStacks = s.dramStacks := rfl
@[simp] theorem State.modReachMem_dram (s : State) (k : Nat) (f : ReachMem → ReachMem) : (s.modReachMem k f).dram = s.dram := rfl
@[simp] theorem State.modReachMem_capStamps (s : State) (k : Nat) (f : ReachMem → ReachMem) : (s.modReachMem k f).capStamps = s.capStamps := rfl
@[simp] theorem State.modReachMem_remap (s : State) (k : Nat) (f : ReachMem → ReachMem) : (s.modReachMem k f).remap = s.remap := rfl
@[simp] theorem State.modReachMem_busReqs (s : State) (k : Nat) (f : ReachMem → ReachMem) : (s.modReachMem k f).busReqs = s.busReqs := rfl
@[simp] theorem State.modReachMem_gauges (s : State) (k : Nat) (f : ReachMem → ReachMem) : (s.modReachMem k f).gauges = s.gauges := rfl
@[simp] theorem State.modReachMem_thermal (s : State) (k : Nat) (f : ReachMem → ReachMem) : (s.modReachMem k f).thermal = s.thermal := rfl
@[simp] theorem State.modReachMem_image (s : State) (k : Nat) (f : ReachMem → ReachMem) : (s.modReachMem k f).image = s.image := rfl
@[simp] theorem State.modReachMem_saved (s : State) (k : Nat) (f : ReachMem → ReachMem) : (s.modReachMem k f).saved = s.saved := rfl
@[simp] theorem State.modReachMem_cal (s : State) (k : Nat) (f : ReachMem → ReachMem) : (s.modReachMem k f).cal = s.cal := rfl
@[simp] theorem State.modReachMem_svc (s : State) (k : Nat) (f : ReachMem → ReachMem) : (s.modReachMem k f).svc = s.svc := rfl
@[simp] theorem State.modReachMem_jtag (s : State) (k : Nat) (f : ReachMem → ReachMem) : (s.modReachMem k f).jtag = s.jtag := rfl
@[simp] theorem State.modReachMem_pending (s : State) (k : Nat) (f : ReachMem → ReachMem) : (s.modReachMem k f).pending = s.pending := rfl

end Sys2Proof.Machine
end

