-- ==== Sys2Proof/Laws/Frames.lean ====
section
/-! SUPPORT. What each operation that event commands share leaves unchanged: every field of the state but those it writes. -/
namespace Sys2Proof.Machine

theorem State.except_ite (pt : Field → Bool) {c : Prop} [Decidable c] (a b : State) :
    (if c then a else b).except pt = if c then a.except pt else b.except pt := apply_ite (State.except pt) c a b

@[simp] theorem State.each_except {α : Type} (pt : Field → Bool) (s : State) (l : List α) (f : State → α → State) (h : ∀ t x, (f t x).except pt = t.except pt) :
    (s.each l f).except pt = s.except pt := by
  induction l generalizing s with
  | nil => rfl
  | cons x l ih => exact (ih (f s x)).trans (h s x)
@[simp] theorem State.when_except (pt : Field → Bool) (s : State) (c : Bool) (f : State → State) (h : ∀ t, (f t).except pt = t.except pt) : (s.when c f).except pt = s.except pt := by
  cases c
  · rfl
  · exact h s

@[simp] theorem State.except_set_flows (pt : Field → Bool) (hflows : pt .flows = true) (s : State) (v_flows : Tab FlowSt) :
    State.except pt { s with flows := v_flows } = s.except pt := by
  simp [State.except, hflows]

@[simp] theorem State.except_set_openSets (pt : Field → Bool) (hopenSets : pt .openSets = true) (s : State) (v_openSets : Tab (List
    Setting)) :
    State.except pt { s with openSets := v_openSets } = s.except pt := by
  simp [State.except, hopenSets]

@[simp] theorem State.except_set_planes (pt : Field → Bool) (hplanes : pt .planes = true) (s : State) (v_planes : List PlaneSt) :
    State.except pt { s with planes := v_planes } = s.except pt := by
  simp [State.except, hplanes]

@[simp] theorem State.except_set_hostFlows (pt : Field → Bool) (hhostFlows : pt .hostFlows = true) (s : State) (v_hostFlows : Tab
    HostFlow) :
    State.except pt { s with hostFlows := v_hostFlows } = s.except pt := by
  simp [State.except, hhostFlows]

@[simp] theorem State.except_set_capStamps (pt : Field → Bool) (hcapStamps : pt .capStamps = true) (s : State) (v_capStamps : Tab CapSlot) :
    State.except pt { s with capStamps := v_capStamps } = s.except pt := by
  simp [State.except, hcapStamps]

@[simp] theorem State.except_set_gates (pt : Field → Bool) (hgates : pt .gates = true) (s : State) (v_gates : Tab GateSt) :
    State.except pt { s with gates := v_gates } = s.except pt := by
  simp [State.except, hgates]

@[simp] theorem State.except_set_ctxs (pt : Field → Bool) (hctxs : pt .ctxs = true) (s : State) (v_ctxs : Tab CtxSt) :
    State.except pt { s with ctxs := v_ctxs } = s.except pt := by
  simp [State.except, hctxs]

@[simp] theorem State.except_set_rings (pt : Field → Bool)  (s : State) (v_rings : List Ring) :
    State.except pt { s with rings := v_rings } = s.except pt := by
  simp [State.except]

@[simp] theorem State.except_set_srcs (pt : Field → Bool) (hsrcs : pt .srcs = true) (s : State) (v_srcs : Tab SrcSt) :
    State.except pt { s with srcs := v_srcs } = s.except pt := by
  simp [State.except, hsrcs]

@[simp] theorem State.except_set_layers (pt : Field → Bool) (hlayers : pt .layers = true) (s : State) (v_layers : Tab LayerSt) :
    State.except pt { s with layers := v_layers } = s.except pt := by
  simp [State.except, hlayers]

@[simp] theorem State.except_set_domains (pt : Field → Bool) (hdomains : pt .domains = true) (s : State) (v_domains : List DomainSt) :
    State.except pt { s with domains := v_domains } = s.except pt := by
  simp [State.except, hdomains]

@[simp] theorem State.except_set_time (pt : Field → Bool) (htime : pt .time = true) (s : State) (v_time : Nat) :
    State.except pt { s with time := v_time } = s.except pt := by
  simp [State.except, htime]

@[simp] theorem State.except_set_remap (pt : Field → Bool) (hremap : pt .remap = true) (s : State) (v_remap : Bool) :
    State.except pt { s with remap := v_remap } = s.except pt := by
  simp [State.except, hremap]

@[simp] theorem State.except_set_stacks (pt : Field → Bool) (hstacks : pt .dramStacks = true) (s : State) (v_stacks : List StackSt) :
    State.except pt { s with dramStacks := v_stacks } = s.except pt := by
  simp [State.except, hstacks]

@[simp] theorem State.except_set_saved (pt : Field → Bool) (hsaved : pt .saved = true) (s : State) (v_saved : Saved) :
    State.except pt { s with saved := v_saved } = s.except pt := by
  simp [State.except, hsaved]

@[simp] theorem State.except_set_refs (pt : Field → Bool) (hrefs : pt .refs = true) (s : State) (v_refs : List RefSt) :
    State.except pt { s with refs := v_refs } = s.except pt := by
  simp [State.except, hrefs]

@[simp] theorem State.except_set_levee (pt : Field → Bool) (hlevee : pt .levee = true) (s : State) (v_levee : Levee) :
    State.except pt { s with levee := v_levee } = s.except pt := by
  simp [State.except, hlevee]

@[simp] theorem State.except_set_cores (pt : Field → Bool) (hcores : pt .cores = true) (s : State) (v_cores : Tab Core) :
    State.except pt { s with cores := v_cores } = s.except pt := by
  simp [State.except, hcores]

@[simp] theorem State.except_set_caps (pt : Field → Bool) (hcaps : pt .caps = true) (s : State) (v_caps : List CapSt) :
    State.except pt { s with caps := v_caps } = s.except pt := by
  simp [State.except, hcaps]

@[simp] theorem State.except_set_dram (pt : Field → Bool) (hdram : pt .dram = true) (s : State) (v_dram : List Host.Cell) :
    State.except pt { s with dram := v_dram } = s.except pt := by
  simp [State.except, hdram]

@[simp] theorem State.except_set_heads (pt : Field → Bool) (hheads : pt .heads = true) (s : State) (v_heads : List HeadSt) :
    State.except pt { s with heads := v_heads } = s.except pt := by
  simp [State.except, hheads]

@[simp] theorem State.except_set_riderDev (pt : Field → Bool) (hriderDev : pt .riderDev = true) (s : State) (v_riderDev : RiderDev) :
    State.except pt { s with riderDev := v_riderDev } = s.except pt := by
  simp [State.except, hriderDev]

@[simp] theorem State.except_set_thermal (pt : Field → Bool) (hthermal : pt .thermal = true) (s : State) (v_thermal : Thermal) :
    State.except pt { s with thermal := v_thermal } = s.except pt := by
  simp [State.except, hthermal]

@[simp] theorem State.except_set_aports (pt : Field → Bool) (haports : pt .aports = true) (s : State) (v_aports : Tab AportSt) :
    State.except pt { s with aports := v_aports } = s.except pt := by
  simp [State.except, haports]

@[simp] theorem State.except_set_svc (pt : Field → Bool) (hsvc : pt .svc = true) (s : State) (v_svc : SvcSt) :
    State.except pt { s with svc := v_svc } = s.except pt := by
  simp [State.except, hsvc]

@[simp] theorem State.except_set_rmem (pt : Field → Bool) (hrmem : pt .rmem = true) (s : State) (v_rmem : List ReachMem) :
    State.except pt { s with rmem := v_rmem } = s.except pt := by
  simp [State.except, hrmem]

@[simp] theorem State.except_set_riders (pt : Field → Bool) (hriders : pt .riders = true) (s : State) (v_riders : List RiderSt) :
    State.except pt { s with riders := v_riders } = s.except pt := by
  simp [State.except, hriders]

@[simp] theorem State.except_set_delivs (pt : Field → Bool) (hdelivs : pt .delivs = true) (s : State) (v_delivs : Tab DelivSt) :
    State.except pt { s with delivs := v_delivs } = s.except pt := by
  simp [State.except, hdelivs]

@[simp] theorem State.except_set_lanes (pt : Field → Bool) (hlanes : pt .lanes = true) (s : State) (v_lanes : Tab LaneSt) :
    State.except pt { s with lanes := v_lanes } = s.except pt := by
  simp [State.except, hlanes]

@[simp] theorem State.except_set_culverts (pt : Field → Bool) (hculverts : pt .culverts = true) (s : State) (v_culverts : List CulvertSt) :
    State.except pt { s with culverts := v_culverts } = s.except pt := by
  simp [State.except, hculverts]

@[simp] theorem State.except_set_out (pt : Field → Bool)  (s : State) (v_out : List Out) :
    State.except pt { s with out := v_out } = s.except pt := by
  simp [State.except]

@[simp] theorem State.except_set_jtag (pt : Field → Bool) (hjtag : pt .jtag = true) (s : State) (v_jtag : JtagSt) :
    State.except pt { s with jtag := v_jtag } = s.except pt := by
  simp [State.except, hjtag]

@[simp] theorem State.except_set_repair (pt : Field → Bool) (hrepair : pt .repair = true) (s : State) (v_repair : Repair) :
    State.except pt { s with repair := v_repair } = s.except pt := by
  simp [State.except, hrepair]

@[simp] theorem State.except_set_buses (pt : Field → Bool) (hbuses : pt .buses = true) (s : State) (v_buses : List I2cBus) :
    State.except pt { s with buses := v_buses } = s.except pt := by
  simp [State.except, hbuses]

@[simp] theorem State.except_set_pins (pt : Field → Bool) (hpins : pt .pins = true) (s : State) (v_pins : Pins) :
    State.except pt { s with pins := v_pins } = s.except pt := by
  simp [State.except, hpins]

@[simp] theorem State.except_set_mode (pt : Field → Bool) (hmode : pt .mode = true) (s : State) (v_mode : ModeSt) :
    State.except pt { s with mode := v_mode } = s.except pt := by
  simp [State.except, hmode]

@[simp] theorem State.except_set_ints (pt : Field → Bool)  (s : State) (v_ints : Ints) :
    State.except pt { s with ints := v_ints } = s.except pt := by
  simp [State.except]

@[simp] theorem State.except_set_ains (pt : Field → Bool) (hains : pt .ains = true) (s : State) (v_ains : Tab AinSt) :
    State.except pt { s with ains := v_ains } = s.except pt := by
  simp [State.except, hains]

@[simp] theorem State.except_set_convs (pt : Field → Bool) (hconvs : pt .convs = true) (s : State) (v_convs : Tab Nat) :
    State.except pt { s with convs := v_convs } = s.except pt := by
  simp [State.except, hconvs]

@[simp] theorem State.except_set_gauges (pt : Field → Bool) (hgauges : pt .gauges = true) (s : State) (v_gauges : Tab GaugeSt) :
    State.except pt { s with gauges := v_gauges } = s.except pt := by
  simp [State.except, hgauges]

@[simp] theorem State.except_set_dsts (pt : Field → Bool) (hdsts : pt .dsts = true) (s : State) (v_dsts : Tab DstSt) :
    State.except pt { s with dsts := v_dsts } = s.except pt := by
  simp [State.except, hdsts]

@[simp] theorem State.except_set_aouts (pt : Field → Bool) (haouts : pt .aouts = true) (s : State) (v_aouts : Tab AoutSt) :
    State.except pt { s with aouts := v_aouts } = s.except pt := by
  simp [State.except, haouts]

@[simp] theorem State.except_set_ports (pt : Field → Bool) (hports : pt .ports = true) (s : State) (v_ports : Tab PortSt) :
    State.except pt { s with ports := v_ports } = s.except pt := by
  simp [State.except, hports]

@[simp] theorem State.except_set_freeCtr (pt : Field → Bool) (hfreeCtr : pt .freeCtr = true) (s : State) (v_freeCtr : Nat) :
    State.except pt { s with freeCtr := v_freeCtr } = s.except pt := by
  simp [State.except, hfreeCtr]

@[simp] theorem State.except_set_counters (pt : Field → Bool)  (s : State) (v_counters : Tab Nat) :
    State.except pt { s with counters := v_counters } = s.except pt := by
  simp [State.except]

@[simp] theorem State.except_set_alarms (pt : Field → Bool) (halarms : pt .alarms = true) (s : State) (v_alarms : Tab AlarmSt) :
    State.except pt { s with alarms := v_alarms } = s.except pt := by
  simp [State.except, halarms]

@[simp] theorem State.except_set_readback (pt : Field → Bool) (hreadback : pt .readback = true) (s : State) (v_readback : Readback) :
    State.except pt { s with readback := v_readback } = s.except pt := by
  simp [State.except, hreadback]

@[simp] theorem State.except_set_rends (pt : Field → Bool) (hrends : pt .rends = true) (s : State) (v_rends : Tab RendSt) :
    State.except pt { s with rends := v_rends } = s.except pt := by
  simp [State.except, hrends]

@[simp] theorem State.except_set_hg (pt : Field → Bool) (hhg : pt .hg = true) (s : State) (v_hg : Headgate) :
    State.except pt { s with hg := v_hg } = s.except pt := by
  simp [State.except, hhg]

@[simp] theorem State.except_set_jobSeq (pt : Field → Bool) (hjobSeq : pt .jobSeq = true) (s : State) (v_jobSeq : Nat) :
    State.except pt { s with jobSeq := v_jobSeq } = s.except pt := by
  simp [State.except, hjobSeq]

@[simp] theorem State.except_set_cal (pt : Field → Bool) (hcal : pt .cal = true) (s : State) (v_cal : CalSt) :
    State.except pt { s with cal := v_cal } = s.except pt := by
  simp [State.except, hcal]

@[simp] theorem State.except_set_stems (pt : Field → Bool) (hstems : pt .stems = true) (s : State) (v_stems : Tab StemSt) :
    State.except pt { s with stems := v_stems } = s.except pt := by
  simp [State.except, hstems]

@[simp] theorem State.except_set_fused (pt : Field → Bool) (hfused : pt .fused = true) (s : State) (v_fused : Fused) :
    State.except pt { s with fused := v_fused } = s.except pt := by
  simp [State.except, hfused]

@[simp] theorem State.except_set_jobs (pt : Field → Bool) (hjobs : pt .jobs = true) (s : State) (v_jobs : Tab JobSt) :
    State.except pt { s with jobs := v_jobs } = s.except pt := by
  simp [State.except, hjobs]

@[simp] theorem State.except_set_image (pt : Field → Bool) (himage : pt .image = true) (s : State) (v_image : ImageSt) :
    State.except pt { s with image := v_image } = s.except pt := by
  simp [State.except, himage]

@[simp] theorem State.except_set_storm (pt : Field → Bool)  (s : State) (v_storm : StormSt) :
    State.except pt { s with storm := v_storm } = s.except pt := by
  simp [State.except]

@[simp] theorem State.except_set_exceptSeq (pt : Field → Bool) (hpartSeq : pt .partSeq = true) (s : State) (v_exceptSeq : Nat) :
    State.except pt { s with partSeq := v_exceptSeq } = s.except pt := by
  simp [State.except, hpartSeq]

@[simp] theorem State.except_set_trigs (pt : Field → Bool) (htrigs : pt .trigs = true) (s : State) (v_trigs : Tab TrigSt) :
    State.except pt { s with trigs := v_trigs } = s.except pt := by
  simp [State.except, htrigs]

@[simp] theorem State.except_set_excepts (pt : Field → Bool) (hparts : pt .parts = true) (s : State) (v_excepts : List Part) :
    State.except pt { s with parts := v_excepts } = s.except pt := by
  simp [State.except, hparts]

@[simp] theorem State.except_set_queues (pt : Field → Bool) (hqueues : pt .queues = true) (s : State) (v_queues : Tab QueueSt) :
    State.except pt { s with queues := v_queues } = s.except pt := by
  simp [State.except, hqueues]

@[simp] theorem State.except_set_dram_capStamps (pt : Field → Bool) (hdram : pt .dram = true) (hcapStamps : pt .capStamps = true) (s :
    State) (v_dram : List Host.Cell) (v_capStamps : Tab CapSlot) :
    State.except pt { s with dram := v_dram, capStamps := v_capStamps } = s.except pt := by
  simp [State.except, hdram, hcapStamps]

@[simp] theorem State.except_set_mode_image (pt : Field → Bool) (hmode : pt .mode = true) (himage : pt .image = true) (s : State)
    (v_mode : ModeSt) (v_image : ImageSt) :
    State.except pt { s with mode := v_mode, image := v_image } = s.except pt := by
  simp [State.except, hmode, himage]

@[simp] theorem State.except_set_mode_excepts (pt : Field → Bool) (hmode : pt .mode = true) (hparts : pt .parts = true) (s : State)
    (v_mode : ModeSt) (v_excepts : List Part) :
    State.except pt { s with mode := v_mode, parts := v_excepts } = s.except pt := by
  simp [State.except, hmode, hparts]

@[simp] theorem State.except_set_out_ints (pt : Field → Bool)  (s : State) (v_out : List Out) (v_ints : Ints) :
    State.except pt { s with out := v_out, ints := v_ints } = s.except pt := by
  simp [State.except]

@[simp] theorem State.except_set_pins_mode (pt : Field → Bool) (hpins : pt .pins = true) (hmode : pt .mode = true) (s : State) (v_pins :
    Pins) (v_mode : ModeSt) :
    State.except pt { s with pins := v_pins, mode := v_mode } = s.except pt := by
  simp [State.except, hpins, hmode]

@[simp] theorem State.except_set_time_pins_stacks (pt : Field → Bool) (htime : pt .time = true) (hpins : pt .pins = true) (hstacks : pt
    .dramStacks = true) (s : State) (v_time : Nat) (v_pins : Pins) (v_stacks : List StackSt) :
    State.except pt { s with time := v_time, pins := v_pins, dramStacks := v_stacks } = s.except pt := by
  simp [State.except, htime, hpins, hstacks]

@[simp] theorem State.except_set_busReqs (pt : Field → Bool) (hbusReqs : pt .busReqs = true) (s : State) (v_busReqs : List BusRequest) :
    State.except pt { s with busReqs := v_busReqs } = s.except pt := by
  simp [State.except, hbusReqs]

@[simp] theorem State.modSrc_except (pt : Field → Bool) (hsrcs : pt .srcs = true) (s : State) (k : Nat) (f : SrcSt → SrcSt) :
    (State.modSrc s k f).except pt = s.except pt := by
  simp [State.modSrc, hsrcs]

@[simp] theorem State.modDst_except (pt : Field → Bool) (hdsts : pt .dsts = true) (s : State) (k : Nat) (f : DstSt → DstSt) :
    (State.modDst s k f).except pt = s.except pt := by
  simp [State.modDst, hdsts]

@[simp] theorem State.modAin_except (pt : Field → Bool) (hains : pt .ains = true) (s : State) (k : Nat) (f : AinSt → AinSt) :
    (State.modAin s k f).except pt = s.except pt := by
  simp [State.modAin, hains]

@[simp] theorem State.modAout_except (pt : Field → Bool) (haouts : pt .aouts = true) (s : State) (k : Nat) (f : AoutSt → AoutSt) :
    (State.modAout s k f).except pt = s.except pt := by
  simp [State.modAout, haouts]

@[simp] theorem State.modAport_except (pt : Field → Bool) (haports : pt .aports = true) (s : State) (k : Nat) (f : AportSt → AportSt) :
    (State.modAport s k f).except pt = s.except pt := by
  simp [State.modAport, haports]

@[simp] theorem State.modLane_except (pt : Field → Bool) (hlanes : pt .lanes = true) (s : State) (k : Nat) (f : LaneSt → LaneSt) :
    (State.modLane s k f).except pt = s.except pt := by
  simp [State.modLane, hlanes]

@[simp] theorem State.modPort_except (pt : Field → Bool) (hports : pt .ports = true) (s : State) (k : Nat) (f : PortSt → PortSt) :
    (State.modPort s k f).except pt = s.except pt := by
  simp [State.modPort, hports]

@[simp] theorem State.modFlow_except (pt : Field → Bool) (hflows : pt .flows = true) (s : State) (k : Nat) (f : FlowSt → FlowSt) :
    (State.modFlow s k f).except pt = s.except pt := by
  simp [State.modFlow, hflows]

@[simp] theorem State.modQueue_except (pt : Field → Bool) (hqueues : pt .queues = true) (s : State) (k : Nat) (f : QueueSt → QueueSt) :
    (State.modQueue s k f).except pt = s.except pt := by
  simp [State.modQueue, hqueues]

@[simp] theorem State.modGate_except (pt : Field → Bool) (hgates : pt .gates = true) (s : State) (k : Nat) (f : GateSt → GateSt) :
    (State.modGate s k f).except pt = s.except pt := by
  simp [State.modGate, hgates]

@[simp] theorem State.modTrig_except (pt : Field → Bool) (htrigs : pt .trigs = true) (s : State) (k : Nat) (f : TrigSt → TrigSt) :
    (State.modTrig s k f).except pt = s.except pt := by
  simp [State.modTrig, htrigs]

@[simp] theorem State.modStem_except (pt : Field → Bool) (hstems : pt .stems = true) (s : State) (k : Nat) (f : StemSt → StemSt) :
    (State.modStem s k f).except pt = s.except pt := by
  simp [State.modStem, hstems]

@[simp] theorem State.modRend_except (pt : Field → Bool) (hrends : pt .rends = true) (s : State) (k : Nat) (f : RendSt → RendSt) :
    (State.modRend s k f).except pt = s.except pt := by
  simp [State.modRend, hrends]

@[simp] theorem State.modDeliv_except (pt : Field → Bool) (hdelivs : pt .delivs = true) (s : State) (k : Nat) (f : DelivSt → DelivSt) :
    (State.modDeliv s k f).except pt = s.except pt := by
  simp [State.modDeliv, hdelivs]

@[simp] theorem State.modCore_except (pt : Field → Bool) (hcores : pt .cores = true) (s : State) (k : Nat) (f : Core → Core) :
    (State.modCore s k f).except pt = s.except pt := by
  simp [State.modCore, hcores]

@[simp] theorem State.modJob_except (pt : Field → Bool) (hjobs : pt .jobs = true) (s : State) (k : Nat) (f : JobSt → JobSt) :
    (State.modJob s k f).except pt = s.except pt := by
  simp [State.modJob, hjobs]

@[simp] theorem State.modHostFlow_except (pt : Field → Bool) (hhostFlows : pt .hostFlows = true) (s : State) (k : Nat) (f : HostFlow →
    HostFlow) :
    (State.modHostFlow s k f).except pt = s.except pt := by
  simp [State.modHostFlow, hhostFlows]

@[simp] theorem State.modCtx_except (pt : Field → Bool) (hctxs : pt .ctxs = true) (s : State) (k : Nat) (f : CtxSt → CtxSt) :
    (State.modCtx s k f).except pt = s.except pt := by
  simp [State.modCtx, hctxs]

@[simp] theorem State.modLayer_except (pt : Field → Bool) (hlayers : pt .layers = true) (s : State) (k : Nat) (f : LayerSt → LayerSt) :
    (State.modLayer s k f).except pt = s.except pt := by
  simp [State.modLayer, hlayers]

@[simp] theorem State.modGauge_except (pt : Field → Bool) (hgauges : pt .gauges = true) (s : State) (k : Nat) (f : GaugeSt → GaugeSt) :
    (State.modGauge s k f).except pt = s.except pt := by
  simp [State.modGauge, hgauges]

@[simp] theorem State.modRing_except (pt : Field → Bool)  (s : State) (k : Nat) (f : Ring → Ring) :
    (State.modRing s k f).except pt = s.except pt := by
  simp [State.modRing]

@[simp] theorem State.modDomain_except (pt : Field → Bool) (hdomains : pt .domains = true) (s : State) (k : Nat) (f : DomainSt → DomainSt) :
    (State.modDomain s k f).except pt = s.except pt := by
  simp [State.modDomain, hdomains]

@[simp] theorem State.modBus_except (pt : Field → Bool) (hbuses : pt .buses = true) (s : State) (k : Nat) (f : I2cBus → I2cBus) :
    (State.modBus s k f).except pt = s.except pt := by
  simp [State.modBus, hbuses]

@[simp] theorem State.modPlane_except (pt : Field → Bool) (hplanes : pt .planes = true) (s : State) (k : Nat) (f : PlaneSt → PlaneSt) :
    (State.modPlane s k f).except pt = s.except pt := by
  simp [State.modPlane, hplanes]

@[simp] theorem State.modRef_except (pt : Field → Bool) (hrefs : pt .refs = true) (s : State) (k : Nat) (f : RefSt → RefSt) :
    (State.modRef s k f).except pt = s.except pt := by
  simp [State.modRef, hrefs]

@[simp] theorem State.modCap_except (pt : Field → Bool) (hcaps : pt .caps = true) (s : State) (k : Nat) (f : CapSt → CapSt) :
    (State.modCap s k f).except pt = s.except pt := by
  simp [State.modCap, hcaps]

@[simp] theorem State.modRider_except (pt : Field → Bool) (hriders : pt .riders = true) (s : State) (k : Nat) (f : RiderSt → RiderSt) :
    (State.modRider s k f).except pt = s.except pt := by
  simp [State.modRider, hriders]

@[simp] theorem State.modHead_except (pt : Field → Bool) (hheads : pt .heads = true) (s : State) (k : Nat) (f : HeadSt → HeadSt) :
    (State.modHead s k f).except pt = s.except pt := by
  simp [State.modHead, hheads]

@[simp] theorem State.modCulvert_except (pt : Field → Bool) (hculverts : pt .culverts = true) (s : State) (k : Nat) (f : CulvertSt →
    CulvertSt) :
    (State.modCulvert s k f).except pt = s.except pt := by
  simp [State.modCulvert, hculverts]

@[simp] theorem State.modStack_except (pt : Field → Bool) (hdramStacks : pt .dramStacks = true) (s : State) (k : Nat) (f : StackSt → StackSt) :
    (State.modStack s k f).except pt = s.except pt := by
  simp [State.modStack, hdramStacks]

@[simp] theorem State.modReachMem_except (pt : Field → Bool) (hrmem : pt .rmem = true) (s : State) (k : Nat) (f : ReachMem → ReachMem) :
    (State.modReachMem s k f).except pt = s.except pt := by
  simp [State.modReachMem, hrmem]

@[simp] theorem State.advanceTo_except (pt : Field → Bool) (htime : pt .time = true) (s : State) (ns : Nat) :
    (State.advanceTo s ns).except pt = s.except pt := by
  simp [State.advanceTo, htime]

@[simp] theorem State.free_except (pt : Field → Bool) (hfreeCtr : pt .freeCtr = true) (s : State) :
    (State.free s).2.except pt = s.except pt := by
  simp [State.free, hfreeCtr]

@[simp] theorem State.freeB_except (pt : Field → Bool) (hfreeCtr : pt .freeCtr = true) (s : State) :
    (State.freeB s).2.except pt = s.except pt := by
  simp [State.freeB, hfreeCtr]

@[simp] theorem State.emit_except (pt : Field → Bool)  (s : State) (o : Out) :
    (State.emit s o).except pt = s.except pt := by
  simp [State.emit]

@[simp] theorem State.hostWrite_except (pt : Field → Bool)  (s : State) (addr : Nat) (b : Bytes) :
    (State.hostWrite s addr b).except pt = s.except pt := by
  simp [State.hostWrite, ↓State.except_ite]

@[simp] theorem State.count_except (pt : Field → Bool)  (s : State) (id unit n : Nat) :
    (State.count s id unit n).except pt = s.except pt := by
  simp [State.count]

@[simp] theorem State.modAlarm_except (pt : Field → Bool) (halarms : pt .alarms = true) (s : State) (id unit : Nat) (f : AlarmSt →
    AlarmSt) :
    (State.modAlarm s id unit f).except pt = s.except pt := by
  simp [State.modAlarm, halarms]

@[simp] theorem State.message_except (pt : Field → Bool)  (s : State) (v : Nat) :
    (State.message s v).except pt = s.except pt := by
  simp [State.message, ↓State.except_ite]

@[simp] theorem State.interrupt_except (pt : Field → Bool)  (s : State) (src : Nat) :
    (State.interrupt s src).except pt = s.except pt := by
  simp [State.interrupt, ↓State.except_ite]

@[simp] theorem State.stormDrop_except (pt : Field → Bool)  (s : State) (trace : Bool) :
    (State.stormDrop s trace).except pt = s.except pt := by
  simp [State.stormDrop]

@[simp] theorem State.writeEvent_except (pt : Field → Bool)  (s : State) (e : Ev) :
    (State.writeEvent s e).except pt = s.except pt := by
  simp [State.writeEvent]

theorem State.except_seq (pt : Field → Bool) (s : State) (x : StormSt) (n : BitVec 32) :
    State.except pt { s with storm := x, events := { s.events with seq := n } } = s.except pt := rfl

@[simp] theorem State.event_except (pt : Field → Bool) (s : State) (e : Ev) : (State.event s e).except pt = s.except pt := by
  unfold State.event
  dsimp only
  split
  · refine (State.except_seq _ _ _ _).trans ?_
    split
    all_goals simp
  · rfl

@[simp] theorem State.summaryChanged_except (pt : Field → Bool)  (old s : State) :
    (State.summaryChanged old s).except pt = s.except pt := by
  simp [State.summaryChanged, ↓State.except_ite]

@[simp] theorem State.raise_except (pt : Field → Bool) (halarms : pt .alarms = true) (s : State) (id unit : Nat) :
    (State.raise s id unit).except pt = s.except pt := by
  simp [State.raise, ↓State.except_ite, halarms]

@[simp] theorem State.clearAlarm_except (pt : Field → Bool) (halarms : pt .alarms = true) (s : State) (id unit : Nat) :
    (State.clearAlarm s id unit).except pt = s.except pt := by
  simp [State.clearAlarm, ↓State.except_ite, halarms]

@[simp] theorem State.dramPut_except (pt : Field → Bool) (hdram : pt .dram = true) (s : State) (a : Nat) (b : Byte) :
    (State.dramPut s a b).except pt = s.except pt := by
  simp [State.dramPut, hdram]

@[simp] theorem State.dramWrite_except (pt : Field → Bool) (hdram : pt .dram = true) (s : State) (a : Nat) (b : Bytes) :
    (State.dramWrite s a b).except pt = s.except pt := by
  induction b generalizing s a with
  | nil => rfl
  | cons x b ih => exact (ih _ _).trans (State.dramPut_except _ hdram _ _ _)

@[simp] theorem State.replyRing_except (pt : Field → Bool)  (s : State) (n verb : Nat) (r : Request) (a : Answer) :
    (State.replyRing s n verb r a).except pt = s.except pt := by
  unfold State.replyRing
  dsimp only
  repeat' split
  all_goals simp [↓State.except_ite]

@[simp] theorem State.reply_except (pt : Field → Bool) (hsvc : pt .svc = true) (s : State) (verb : Nat) (r : Request) (a : Answer) :
    (State.reply s verb r a).except pt = s.except pt := by
  unfold State.reply
  dsimp only
  repeat' split
  all_goals simp [↓State.except_ite, hsvc]

@[simp] theorem State.ringError_except (pt : Field → Bool)  (s : State) (n bit : Nat) :
    (State.ringError s n bit).except pt = s.except pt := by
  simp [State.ringError]

@[simp] theorem State.takeSlot_except (pt : Field → Bool)  (s : State) (n : Nat) :
    (State.takeSlot s n).except pt = s.except pt := by
  simp [State.takeSlot]

@[simp] theorem State.fitRing_except (pt : Field → Bool) (hsrcs : pt .srcs = true) (s : State) (k : Nat) :
    (State.fitRing s k).except pt = s.except pt := by
  simp [State.fitRing, ↓State.except_ite, hsrcs]

/-- A mismatch that is only seen to begin takes no converter. -/
theorem State.judgeMismatch_false_except (pt : Field → Bool) (halarms : pt .alarms = true) (s : State) (d : Nat) :
    (State.judgeMismatch s false d).except pt = s.except pt := by
  simp [State.judgeMismatch, ↓State.except_ite, halarms]

@[simp] theorem State.setFmt_except (pt : Field → Bool) (halarms : pt .alarms = true) (hsrcs : pt .srcs = true) (s : State) (k : Nat) (f : Fmt) :
    (State.setFmt s k f).except pt = s.except pt := by
  unfold State.setFmt
  dsimp only
  split
  · rfl
  · refine (State.each_except _ _ _ _ (fun t d => State.judgeMismatch_false_except pt halarms t d)).trans ?_
    simp [hsrcs]

@[simp] theorem State.loseSource_except (pt : Field → Bool) (halarms : pt .alarms = true) (hsrcs : pt .srcs = true) (s : State) (k : Nat) :
    (State.loseSource s k).except pt = s.except pt := by
  simp [State.loseSource, ↓State.except_ite, halarms, hsrcs]

@[simp] theorem State.gainSource_except (pt : Field → Bool) (halarms : pt .alarms = true) (hlevee : pt .levee = true) (hsrcs : pt .srcs = true) (s : State) (k : Nat) (f : Fmt) (frames : Nat) (pic : Frame) :
    (State.gainSource s k f frames pic).except pt = s.except pt := by
  simp [State.gainSource, ↓State.except_ite, halarms, hlevee, hsrcs]

@[simp] theorem State.frameDone_except (pt : Field → Bool) (hsrcs : pt .srcs = true) (s : State) (k : Nat) (pic : Frame) :
    (State.frameDone s k pic).except pt = s.except pt := by
  simp [State.frameDone, hsrcs]

@[simp] theorem State.produce_except (pt : Field → Bool) (halarms : pt .alarms = true) (hlevee : pt .levee = true) (hsrcs : pt .srcs = true) (s : State) (k : Nat) (f : Fmt) (pic : Frame) :
    (State.produce s k f pic).except pt = s.except pt := by
  simp [State.produce, ↓State.except_ite, halarms, hlevee, hsrcs]

@[simp] theorem State.attach_except (pt : Field → Bool) (hsrcs : pt .srcs = true) (s : State) (k : Nat) (l : List AncPacket) :
    (State.attach s k l).except pt = s.except pt := by
  simp [State.attach, hsrcs]

@[simp] theorem State.cutFrame_except (pt : Field → Bool) (hdsts : pt .dsts = true) (s : State) (k missing : Nat) (got : Picture) :
    (State.cutFrame s k missing got).except pt = s.except pt := by
  simp [State.cutFrame, ↓State.except_ite, hdsts]

@[simp] theorem State.dropLane_except (pt : Field → Bool) (hsrcs : pt .srcs = true) (s : State) (k : Nat) :
    (State.dropLane s k).except pt = s.except pt := by
  simp [State.dropLane, hsrcs]

@[simp] theorem State.signalLoss_except (pt : Field → Bool) (halarms : pt .alarms = true) (hdsts : pt .dsts = true) (hsrcs : pt .srcs = true) (s : State) (k missing : Nat) (got : Picture) :
    (State.signalLoss s k missing got).except pt = s.except pt := by
  simp [State.signalLoss, ↓State.except_ite, halarms, hdsts, hsrcs]

@[simp] theorem State.measured_except (pt : Field → Bool) (hdsts : pt .dsts = true) (hsrcs : pt .srcs = true) (s : State) (k : Nat) (a : Int)
    (period : Nat) (beyond : List Nat) : (State.measured s k a period beyond).except pt = s.except pt := by
  have h (u : State) (c : Bool) (l : List Nat) (f : Nat → DstSt → DstSt) :
      (u.when c (fun t => (t.count cntAlignOverrun k 1).each l (fun v d => v.modDst d (f d)))).except pt = u.except pt :=
    State.when_except _ _ _ _ (fun t => (State.each_except _ _ _ _ (fun v d => by simp [hdsts])).trans (by simp))
  unfold State.measured
  dsimp only
  split
  · exact (State.fitRing_except pt hsrcs _ k).trans ((h _ _ _ _).trans (by simp [hsrcs]))
  · exact (h _ _ _ _).trans (by simp [hsrcs])

@[simp] theorem State.measureSource_except (pt : Field → Bool) (hdsts : pt .dsts = true) (hsrcs : pt .srcs = true) (s : State) (k arrivalNs period : Nat) (beyond : List Nat) :
    (State.measureSource s k arrivalNs period beyond).except pt = s.except pt := by
  simp [State.measureSource, ↓State.except_ite, hdsts, hsrcs]

@[simp] theorem State.spoiled_except (pt : Field → Bool) (hsrcs : pt .srcs = true) (s : State) (k : Nat) :
    (State.spoiled s k).except pt = s.except pt := by
  simp [State.spoiled, hsrcs]

@[simp] theorem State.generated_except (pt : Field → Bool) (halarms : pt .alarms = true) (hlevee : pt .levee = true) (hsrcs : pt .srcs = true) (s : State) (k : Nat) :
    (State.generated s k).except pt = s.except pt := by
  simp [State.generated, ↓State.except_ite, halarms, hlevee, hsrcs]

@[simp] theorem State.generatorFrame_except (pt : Field → Bool) (halarms : pt .alarms = true) (hlevee : pt .levee = true) (hsrcs : pt
    .srcs = true) (s : State) (k : Nat) :
    (State.generatorFrame s k).except pt = s.except pt := by
  simp [State.generatorFrame, ↓State.except_ite, halarms, hlevee, hsrcs]

@[simp] theorem State.lossFrameStart_except (pt : Field → Bool) (hdsts : pt .dsts = true) (s : State) (d : Nat) :
    (State.lossFrameStart s d).except pt = s.except pt := by
  simp [State.lossFrameStart, hdsts]

@[simp] theorem State.sourceFrameStart_except (pt : Field → Bool) (hdsts : pt .dsts = true) (s : State) (d : Nat) :
    (State.sourceFrameStart s d).except pt = s.except pt := by
  simp [State.sourceFrameStart, ↓State.except_ite, hdsts]

@[simp] theorem State.destFrame_except (pt : Field → Bool) (hdsts : pt .dsts = true) (s : State) (d : Nat) :
    (State.destFrame s d).except pt = s.except pt := by
  simp [State.destFrame, ↓State.except_ite, hdsts]

@[simp] theorem State.recirculate_except (pt : Field → Bool) (halarms : pt .alarms = true) (hlevee : pt .levee = true) (hsrcs : pt .srcs
    = true) (s : State) (k : Nat) :
    (State.recirculate s k).except pt = s.except pt := by
  simp [State.recirculate, ↓State.except_ite, halarms, hlevee, hsrcs]

@[simp] theorem State.judgeBlack_except (pt : Field → Bool) (halarms : pt .alarms = true) (hdsts : pt .dsts = true) (s : State) (d :
    Nat) (black : Bool) (above : Nat) :
    (State.judgeBlack s d black above).except pt = s.except pt := by
  simp [State.judgeBlack, ↓State.except_ite, halarms, hdsts]

@[simp] theorem State.judgeFreeze_except (pt : Field → Bool) (halarms : pt .alarms = true) (hdsts : pt .dsts = true) (s : State) (d :
    Nat) (same : Bool) (sig : Nat) :
    (State.judgeFreeze s d same sig).except pt = s.except pt := by
  simp [State.judgeFreeze, ↓State.except_ite, halarms, hdsts]

@[simp] theorem State.probeFrame_except (pt : Field → Bool) (halarms : pt .alarms = true) (hdsts : pt .dsts = true) (s : State) (d : Nat) :
    (State.probeFrame s d).except pt = s.except pt := by
  simp [State.probeFrame, ↓State.except_ite, halarms, hdsts]

@[simp] theorem State.switchingLine_except (pt : Field → Bool) (hdsts : pt .dsts = true) (s : State) (d : Nat) :
    (State.switchingLine s d).except pt = s.except pt := by
  simp [State.switchingLine, ↓State.except_ite, hdsts]

@[simp] theorem State.stopAouts_except (pt : Field → Bool) (haouts : pt .aouts = true) (s : State) (k fill : Nat) :
    (State.stopAouts s k fill).except pt = s.except pt := by
  simp [State.stopAouts, haouts]

@[simp] theorem State.startAouts_except (pt : Field → Bool) (haouts : pt .aouts = true) (s : State) (k : Nat) :
    (State.startAouts s k).except pt = s.except pt := by
  simp [State.startAouts, haouts]

@[simp] theorem State.leaveSlip_except (pt : Field → Bool) (halarms : pt .alarms = true) (s : State) (k : Nat) :
    (State.leaveSlip s k).except pt = s.except pt := by
  simp [State.leaveSlip, ↓State.except_ite, halarms]

@[simp] theorem State.loseAin_except (pt : Field → Bool) (hains : pt .ains = true) (halarms : pt .alarms = true) (haouts : pt .aouts =
    true) (s : State) (k : Nat) :
    (State.loseAin s k).except pt = s.except pt := by
  simp [State.loseAin, ↓State.except_ite, hains, halarms, haouts]

@[simp] theorem State.enterSlip_except (pt : Field → Bool) (hains : pt .ains = true) (halarms : pt .alarms = true) (s : State) (k : Nat)
    (ratio : Int) :
    (State.enterSlip s k ratio).except pt = s.except pt := by
  simp [State.enterSlip, hains, halarms]

@[simp] theorem State.gainAin_except (pt : Field → Bool) (hains : pt .ains = true) (halarms : pt .alarms = true) (haouts : pt .aouts =
    true) (s : State) (k : Nat) (ratio : Int) :
    (State.gainAin s k ratio).except pt = s.except pt := by
  simp [State.gainAin, ↓State.except_ite, hains, halarms, haouts]

@[simp] theorem State.measureAin_except (pt : Field → Bool) (hains : pt .ains = true) (halarms : pt .alarms = true) (haouts : pt .aouts = true) (s : State) (k : Nat) (ratio phase : Int) (fill : Nat) :
    (State.measureAin s k ratio phase fill).except pt = s.except pt := by
  unfold State.measureAin
  dsimp only
  repeat' split
  all_goals simp [↓State.except_ite, hains, halarms, haouts]

@[simp] theorem State.slipAin_except (pt : Field → Bool) (hains : pt .ains = true) (s : State) (k : Nat) :
    (State.slipAin s k).except pt = s.except pt := by
  simp [State.slipAin, ↓State.except_ite, hains]

@[simp] theorem State.judgeNonAudio_except (pt : Field → Bool) (haouts : pt .aouts = true) (s : State) (k : Nat) :
    (State.judgeNonAudio s k).except pt = s.except pt := by
  simp [State.judgeNonAudio, ↓State.except_ite, haouts]

@[simp] theorem State.putOut_except (pt : Field → Bool) (s : State) (k first : Nat) (l : List Int) :
    (State.putOut s k first l).except pt = s.except pt := by
  simp [State.putOut, ↓State.except_ite]

@[simp] theorem State.gainRamp_except (pt : Field → Bool) (s : State) (k : Nat) (old : AoutSt) (run : AudioRun) :
    (State.gainRamp s k old run).except pt = s.except pt := by
  simp [State.gainRamp]

@[simp] theorem State.stepRamp_except (pt : Field → Bool) (s : State) (k : Nat) (n : Int) (run : AudioRun) :
    (State.stepRamp s k n run).except pt = s.except pt := by
  simp [State.stepRamp]

@[simp] theorem State.audioBoundary_except (pt : Field → Bool) (haouts : pt .aouts = true) (htime : pt .time = true) (s : State) (k : Nat) (run : AudioRun) :
    (State.audioBoundary s k run).except pt = s.except pt := by
  simp [State.audioBoundary, ↓State.except_ite, haouts, htime]

@[simp] theorem State.zeroCrossing_except (pt : Field → Bool) (haouts : pt .aouts = true) (htime : pt .time = true) (s : State) (k : Nat) (start : Bool) (run : AudioRun) :
    (State.zeroCrossing s k start run).except pt = s.except pt := by
  unfold State.zeroCrossing
  dsimp only
  repeat' split
  all_goals simp [↓State.except_ite, haouts, htime]

@[simp] theorem State.zeroTimeout_except (pt : Field → Bool) (haouts : pt .aouts = true) (htime : pt .time = true) (s : State) (k : Nat) (start : Bool) (run : AudioRun) :
    (State.zeroTimeout s k start run).except pt = s.except pt := by
  simp [State.zeroTimeout, ↓State.except_ite, haouts, htime]

@[simp] theorem State.nonaudioOn_except (pt : Field → Bool) (hains : pt .ains = true) (haouts : pt .aouts = true) (s : State) (n
    dataType : Nat) :
    (State.nonaudioOn s n dataType).except pt = s.except pt := by
  simp [State.nonaudioOn, ↓State.except_ite, hains, haouts]

@[simp] theorem State.nonaudioOff_except (pt : Field → Bool) (hains : pt .ains = true) (haouts : pt .aouts = true) (s : State) (n : Nat) :
    (State.nonaudioOff s n).except pt = s.except pt := by
  simp [State.nonaudioOff, ↓State.except_ite, hains, haouts]

@[simp] theorem State.portClockBad_except (pt : Field → Bool) (hains : pt .ains = true) (halarms : pt .alarms = true) (haouts : pt
    .aouts = true) (haports : pt .aports = true) (s : State) (p bits : Nat) :
    (State.portClockBad s p bits).except pt = s.except pt := by
  simp [State.portClockBad, ↓State.except_ite, hains, halarms, haouts, haports]

@[simp] theorem State.portClockGood_except (pt : Field → Bool) (halarms : pt .alarms = true) (haports : pt .aports = true) (s : State)
    (p : Nat) :
    (State.portClockGood s p).except pt = s.except pt := by
  simp [State.portClockGood, ↓State.except_ite, halarms, haports]

@[simp] theorem State.putUnit_except (pt : Field → Bool)  (s : State) (h : HostRing) (unit : Bytes) (i : RecInfo) :
    (State.putUnit s h unit i).1.except pt = s.except pt := by
  simp [State.putUnit]

@[simp] theorem State.traceAdd_except (pt : Field → Bool) (hcores : pt .cores = true) (hriders : pt .riders = true) (s : State) (n
    action kind key : Nat) (it : Item) :
    (State.traceAdd s n action kind key it).except pt = s.except pt := by
  simp [State.traceAdd, ↓State.except_ite, hcores, hriders]

@[simp] theorem State.traceAlways_except (pt : Field → Bool) (hcores : pt .cores = true) (hriders : pt .riders = true) (s : State) (n
    action kind key : Nat) (it : Item) :
    (State.traceAlways s n action kind key it).except pt = s.except pt := by
  simp [State.traceAlways, hcores, hriders]

@[simp] theorem State.offer_except (pt : Field → Bool) (hcores : pt .cores = true) (hriders : pt .riders = true) (s : State) (n : Nat)
    (it : Item) :
    (State.offer s n it).except pt = s.except pt := by
  simp [State.offer, ↓State.except_ite, hcores, hriders]

@[simp] theorem State.offerFirst_except (pt : Field → Bool) (hriders : pt .riders = true) (s : State) (n : Nat) (it : Item) :
    (State.offerFirst s n it).except pt = s.except pt := by
  simp [State.offerFirst, hriders]

@[simp] theorem State.putEnd_except (pt : Field → Bool) (hfreeCtr : pt .freeCtr = true) (s : State) (h : HostRing) :
    (State.putEnd s h).1.except pt = s.except pt := by
  unfold State.putEnd
  dsimp only
  repeat' split
  all_goals simp [↓State.except_ite, hfreeCtr]

@[simp] theorem State.jobEnd_except (pt : Field → Bool) (hcores : pt .cores = true) (hfreeCtr : pt .freeCtr = true) (hhostFlows : pt
    .hostFlows = true) (hjobs : pt .jobs = true) (hrends : pt .rends = true) (hriders : pt .riders = true) (s : State) (h cause status :
    Nat) (quiet : Bool := false) :
    (State.jobEnd s h cause status quiet).except pt = s.except pt := by
  unfold State.jobEnd
  dsimp only
  repeat' split
  all_goals simp [↓State.except_ite, hcores, hfreeCtr, hhostFlows, hjobs, hrends, hriders]

@[simp] theorem State.offerJob_except (pt : Field → Bool) (hcores : pt .cores = true) (hriders : pt .riders = true) (s : State) (h : Nat) :
    (State.offerJob s h).except pt = s.except pt := by
  simp [State.offerJob, hcores, hriders]

@[simp] theorem State.jobStart_except (pt : Field → Bool) (hcores : pt .cores = true) (hfreeCtr : pt .freeCtr = true) (hhostFlows : pt
    .hostFlows = true) (hjobs : pt .jobs = true) (hrends : pt .rends = true) (hriders : pt .riders = true) (s : State) (h : Nat) :
    (State.jobStart s h).except pt = s.except pt := by
  simp [State.jobStart, ↓State.except_ite, hcores, hfreeCtr, hhostFlows, hjobs, hrends, hriders]

@[simp] theorem State.targetPicture_except (pt : Field → Bool) (hfreeCtr : pt .freeCtr = true) (hrends : pt .rends = true) (s : State) (it : Item) :
    (State.targetPicture s it).except pt = s.except pt := by
  simp [State.targetPicture, hfreeCtr, hrends]

@[simp] theorem State.budgetPicture_except (pt : Field → Bool) (hrends : pt .rends = true) (s : State) (it : Item) :
    (State.budgetPicture s it).except pt = s.except pt := by
  simp [State.budgetPicture, hrends]

@[simp] theorem State.jobTarget_except (pt : Field → Bool) (hfreeCtr : pt .freeCtr = true) (hjobs : pt .jobs = true) (s : State) (h : Nat) :
    (State.jobTarget s h).except pt = s.except pt := by
  simp [State.jobTarget, ↓State.except_ite, hfreeCtr, hjobs]

@[simp] theorem State.dispatchTo_except (pt : Field → Bool) (hcores : pt .cores = true) (hfreeCtr : pt .freeCtr = true) (hhostFlows : pt
    .hostFlows = true) (hjobs : pt .jobs = true) (hrends : pt .rends = true) (hriders : pt .riders = true) (s : State) (n kind key :
    Nat) (it : Item) :
    (State.dispatchTo s n kind key it).except pt = s.except pt := by
  unfold State.dispatchTo
  dsimp only
  repeat' split
  all_goals simp [↓State.except_ite, hcores, hfreeCtr, hhostFlows, hjobs, hrends, hriders]

@[simp] theorem State.serveCores_except (pt : Field → Bool) (hcores : pt .cores = true) (hfreeCtr : pt .freeCtr = true) (hhostFlows : pt
    .hostFlows = true)
    (hjobs : pt .jobs = true) (hrends : pt .rends = true) (hriders : pt .riders = true) (n kind fuel : Nat) (s : State) :
    (State.serveCores n kind fuel s).except pt = s.except pt := by
  induction fuel generalizing s with
  | zero => rfl
  | succ fuel ih =>
    unfold State.serveCores
    dsimp only
    split
    · rfl
    · split
      · refine (ih _).trans ?_
        simp [hcores, hfreeCtr, hhostFlows, hjobs, hrends, hriders]
      · rfl

@[simp] theorem State.riderServe_except (pt : Field → Bool) (hcores : pt .cores = true) (hfreeCtr : pt .freeCtr = true) (hhostFlows : pt
    .hostFlows = true) (hjobs : pt .jobs = true) (hrends : pt .rends = true) (hriders : pt .riders = true) (s : State) (n kind : Nat) :
    (State.riderServe s n kind).except pt = s.except pt := by
  simp [State.riderServe, hcores, hfreeCtr, hhostFlows, hjobs, hrends, hriders]

@[simp] theorem State.riderRequest_except (pt : Field → Bool) (hcores : pt .cores = true) (hfreeCtr : pt .freeCtr = true) (hhostFlows :
    pt .hostFlows = true) (hjobs : pt .jobs = true) (hrends : pt .rends = true) (hriders : pt .riders = true) (s : State) (n kind idx :
    Nat) :
    (State.riderRequest s n kind idx).except pt = s.except pt := by
  simp [State.riderRequest, ↓State.except_ite, hcores, hfreeCtr, hhostFlows, hjobs, hrends, hriders]

@[simp] theorem State.coreWake_except (pt : Field → Bool) (hcores : pt .cores = true) (hfreeCtr : pt .freeCtr = true) (hhostFlows : pt
    .hostFlows = true) (hjobs : pt .jobs = true) (hrends : pt .rends = true) (hriders : pt .riders = true) (s : State) (n kind idx :
    Nat) :
    (State.coreWake s n kind idx).except pt = s.except pt := by
  simp [State.coreWake, ↓State.except_ite, hcores, hfreeCtr, hhostFlows, hjobs, hrends, hriders]

@[simp] theorem State.coreGate_except (pt : Field → Bool) (hcores : pt .cores = true) (s : State) (n kind idx : Nat) :
    (State.coreGate s n kind idx).except pt = s.except pt := by
  simp [State.coreGate, ↓State.except_ite, hcores]

@[simp] theorem State.riderRetry_except (pt : Field → Bool) (hcores : pt .cores = true) (hfreeCtr : pt .freeCtr = true) (hhostFlows : pt
    .hostFlows = true) (hjobs : pt .jobs = true) (hrends : pt .rends = true) (hriders : pt .riders = true) (s : State) (n : Nat) :
    (State.riderRetry s n).except pt = s.except pt := by
  simp [State.riderRetry, hcores, hfreeCtr, hhostFlows, hjobs, hrends, hriders]

@[simp] theorem State.preemptCore_except (pt : Field → Bool) (hcores : pt .cores = true) (hjobs : pt .jobs = true) (hriders : pt .riders
    = true) (s : State) (n key : Nat) (keep : Bool) :
    (State.preemptCore s n key keep).except pt = s.except pt := by
  unfold State.preemptCore
  dsimp only
  repeat' split
  all_goals simp [↓State.except_ite, hcores, hjobs, hriders]

@[simp] theorem State.riderPreempt_except (pt : Field → Bool) (hcores : pt .cores = true) (hjobs : pt .jobs = true) (hriders : pt
    .riders = true) (s : State) (n : Nat) :
    (State.riderPreempt s n).except pt = s.except pt := by
  unfold State.riderPreempt
  (try dsimp only)
  repeat' first
    | (with_reducible rfl) | split | (simp [↓State.except_ite, hcores, hjobs, hriders]; done)
    | (refine (State.each_except _ _ _ _ ?_).trans ?_; (intro t x; (try (dsimp only))))
    | (refine (State.when_except _ _ _ _ ?_).trans ?_; (intro t; (try (dsimp only))))

@[simp] theorem State.preemptAll_except (pt : Field → Bool) (hcores : pt .cores = true) (hjobs : pt .jobs = true) (hriders : pt .riders
    = true) (s : State) (held : Bool) :
    (State.preemptAll s held).except pt = s.except pt := by
  unfold State.preemptAll
  (try dsimp only)
  repeat' first
    | (with_reducible rfl) | split | (simp [↓State.except_ite, hcores, hjobs, hriders]; done)
    | (refine (State.each_except _ _ _ _ ?_).trans ?_; (intro t x; (try (dsimp only))))
    | (refine (State.when_except _ _ _ _ ?_).trans ?_; (intro t; (try (dsimp only))))

@[simp] theorem State.endStream_except (pt : Field → Bool) (hrends : pt .rends = true) (s : State) (r cause frame : Nat) :
    (State.endStream s r cause frame).except pt = s.except pt := by
  simp [State.endStream, hrends]

@[simp] theorem State.keepFeed_except (pt : Field → Bool) (hstems : pt .stems = true) (s : State) (d : Nat) :
    (State.keepFeed s d).except pt = s.except pt := by
  simp [State.keepFeed, ↓State.except_ite, hstems]

@[simp] theorem State.feedStart_except (pt : Field → Bool) (hstems : pt .stems = true) (s : State) (d : Nat) :
    (State.feedStart s d).except pt = s.except pt := by
  simp [State.feedStart, ↓State.except_ite, hstems]

@[simp] theorem State.governed_except (pt : Field → Bool) (hrends : pt .rends = true) (hstems : pt .stems = true) (s : State) (k frame :
    Nat) :
    (State.governed s k frame).except pt = s.except pt := by
  simp [State.governed, ↓State.except_ite, hrends, hstems]

@[simp] theorem State.stemRelease_except (pt : Field → Bool) (hcores : pt .cores = true) (hfreeCtr : pt .freeCtr = true) (hhostFlows : pt .hostFlows = true) (hjobs : pt .jobs = true) (hrends : pt .rends = true) (hriders : pt .riders = true) (hstems : pt .stems = true) (htime : pt .time = true) (s : State) (k : Nat) :
    (State.stemRelease s k).except pt = s.except pt := by
  unfold State.stemRelease
  split <;> simp [↓State.except_ite, hcores, hfreeCtr, hhostFlows, hjobs, hrends, hriders, hstems, htime]

@[simp] theorem State.modPic_except (pt : Field → Bool) (hrends : pt .rends = true) (s : State) (r : Nat) (p : RendPic) (f : RendPic →
    RendPic) :
    (State.modPic s r p f).except pt = s.except pt := by
  simp [State.modPic, hrends]

@[simp] theorem State.partitionCut_except (pt : Field → Bool) (hrends : pt .rends = true) (htime : pt .time = true) (s : State) (r part
    : Nat) :
    (State.partitionCut s r part).except pt = s.except pt := by
  unfold State.partitionCut
  dsimp only
  repeat' split
  all_goals simp [↓State.except_ite, hrends, htime]

@[simp] theorem State.floorClear_except (pt : Field → Bool) (halarms : pt .alarms = true) (htime : pt .time = true) (s : State) (r : Nat) :
    (State.floorClear s r).except pt = s.except pt := by
  simp [State.floorClear, ↓State.except_ite, halarms, htime]

@[simp] theorem State.fomClear_except (pt : Field → Bool) (halarms : pt .alarms = true) (htime : pt .time = true) (s : State) (k : Nat) :
    (State.fomClear s k).except pt = s.except pt := by
  unfold State.fomClear
  (try dsimp only)
  repeat' first
    | (with_reducible rfl) | split | (simp [↓State.except_ite, halarms, htime]; done)
    | (refine (State.each_except _ _ _ _ ?_).trans ?_; (intro t x; (try (dsimp only))))
    | (refine (State.when_except _ _ _ _ ?_).trans ?_; (intro t; (try (dsimp only))))

@[simp] theorem State.toolStopped_except (pt : Field → Bool) (hcal : pt .cal = true) (s : State) :
    (State.toolStopped s).except pt = s.except pt := by
  simp [State.toolStopped, hcal]

@[simp] theorem State.eyeDone_except (pt : Field → Bool) (hcal : pt .cal = true) (hlanes : pt .lanes = true) (s : State) (k : Nat)
    (counts : List Nat) :
    (State.eyeDone s k counts).except pt = s.except pt := by
  unfold State.eyeDone
  dsimp only
  repeat' split
  all_goals simp [↓State.except_ite, hcal, hlanes]

@[simp] theorem State.prbsLock_except (pt : Field → Bool) (hlanes : pt .lanes = true) (s : State) (k : Nat) :
    (State.prbsLock s k).except pt = s.except pt := by
  simp [State.prbsLock, ↓State.except_ite, hlanes]

@[simp] theorem State.prbsRelock_except (pt : Field → Bool) (hlanes : pt .lanes = true) (s : State) (k bits errors symbols : Nat) :
    (State.prbsRelock s k bits errors symbols).except pt = s.except pt := by
  simp [State.prbsRelock, ↓State.except_ite, hlanes]

@[simp] theorem State.busStart_except (pt : Field → Bool)  (s : State) (b : Nat) :
    (State.busStart s b).except pt = s.except pt := by
  unfold State.busStart
  (try dsimp only)
  repeat' first
    | (with_reducible rfl) | split | (simp [↓State.except_ite]; done)
    | (refine (State.each_except _ _ _ _ ?_).trans ?_; (intro t x; (try (dsimp only))))
    | (refine (State.when_except _ _ _ _ ?_).trans ?_; (intro t; (try (dsimp only))))

@[simp] theorem State.busEnd_except (pt : Field → Bool) (halarms : pt .alarms = true) (hbuses : pt .buses = true) (hlanes : pt .lanes =
    true) (s : State) (b result written : Nat) (rd : Bytes) :
    (State.busEnd s b result written rd).except pt = s.except pt := by
  unfold State.busEnd
  dsimp only
  repeat' split
  all_goals simp [↓State.except_ite, halarms, hbuses, hlanes]

@[simp] theorem State.i2cEnd_except (pt : Field → Bool) (halarms : pt .alarms = true) (hbuses : pt .buses = true) (hlanes : pt .lanes =
    true) (s : State) (b : Nat) (r : I2cResult) :
    (State.i2cEnd s b r).except pt = s.except pt := by
  simp [State.i2cEnd, ↓State.except_ite, halarms, hbuses, hlanes]

@[simp] theorem State.i2cStretch_except (pt : Field → Bool) (halarms : pt .alarms = true) (hbuses : pt .buses = true) (hlanes : pt
    .lanes = true) (s : State) (b : Nat) (sdaLow : Bool) :
    (State.i2cStretch s b sdaLow).except pt = s.except pt := by
  simp [State.i2cStretch, halarms, hbuses, hlanes]

@[simp] theorem State.hookStart_except (pt : Field → Bool) (hbuses : pt .buses = true) (hlanes : pt .lanes = true) (htime : pt .time =
    true) (s : State) (k : Nat) (hd : Bool) :
    (State.hookStart s k hd).except pt = s.except pt := by
  simp [State.hookStart, ↓State.except_ite, hbuses, hlanes, htime]

@[simp] theorem State.dropLink_except (pt : Field → Bool) (halarms : pt .alarms = true) (hports : pt .ports = true) (s : State) (p cause
    : Nat) :
    (State.dropLink s p cause).except pt = s.except pt := by
  simp [State.dropLink, halarms, hports]

@[simp] theorem State.holdLost_except (pt : Field → Bool) (hlevee : pt .levee = true) (s : State) (k : Nat) :
    (State.holdLost s k).except pt = s.except pt := by
  simp [State.holdLost, ↓State.except_ite, hlevee]

@[simp] theorem State.report_except (pt : Field → Bool) (hports : pt .ports = true) (s : State) (p : Nat) (group : Bytes × Bytes) (leave : Bool) :
    (State.report s p group leave).except pt = s.except pt := by
  simp [State.report, ↓State.except_ite, hports]

@[simp] theorem State.reportNow_except (pt : Field → Bool) (s : State) (p : Nat) (group : Bytes × Bytes) :
    (State.reportNow s p group).except pt = s.except pt := by
  simp [State.reportNow]

@[simp] theorem State.reportChanges_except (pt : Field → Bool) (hports : pt .ports = true) (old s : State) (p : Nat) :
    (State.reportChanges old s p).except pt = s.except pt := by
  simp [State.reportChanges, hports]

@[simp] theorem State.reportRepeat_except (pt : Field → Bool) (hports : pt .ports = true) (htime : pt .time = true) (s : State) (p : Nat) :
    (State.reportRepeat s p).except pt = s.except pt := by
  unfold State.reportRepeat
  dsimp only
  repeat' split
  all_goals simp [↓State.except_ite, hports, htime]

@[simp] theorem State.linkUp_except (pt : Field → Bool) (halarms : pt .alarms = true) (hfreeCtr : pt .freeCtr = true) (hlanes : pt
    .lanes = true) (hports : pt .ports = true) (s : State) (p : Nat) :
    (State.linkUp s p).except pt = s.except pt := by
  simp [State.linkUp, ↓State.except_ite, halarms, hfreeCtr, hlanes, hports]

@[simp] theorem State.linkDown_except (pt : Field → Bool) (halarms : pt .alarms = true) (hports : pt .ports = true) (s : State) (p cause
    : Nat) :
    (State.linkDown s p cause).except pt = s.except pt := by
  simp [State.linkDown, ↓State.except_ite, halarms, hports]

@[simp] theorem State.legLoss_except (pt : Field → Bool) (halarms : pt .alarms = true) (hflows : pt .flows = true) (htime : pt .time =
    true) (s : State) (f l : Nat) :
    (State.legLoss s f l).except pt = s.except pt := by
  simp [State.legLoss, ↓State.except_ite, halarms, hflows, htime]

@[simp] theorem State.legReturn_except (pt : Field → Bool) (halarms : pt .alarms = true) (htime : pt .time = true) (s : State) (f l : Nat) :
    (State.legReturn s f l).except pt = s.except pt := by
  simp [State.legReturn, ↓State.except_ite, halarms, htime]

@[simp] theorem State.flowTimeout_except (pt : Field → Bool) (halarms : pt .alarms = true) (hdsts : pt .dsts = true) (hlevee : pt .levee = true) (hsrcs : pt .srcs = true) (htime : pt .time = true) (s : State) (k : Nat) (got : Picture) :
    (State.flowTimeout s k got).except pt = s.except pt := by
  simp [State.flowTimeout, ↓State.except_ite, halarms, hdsts, hlevee, hsrcs, htime]

@[simp] theorem State.decoderInput_except (pt : Field → Bool) (hctxs : pt .ctxs = true) (hflows : pt .flows = true) (htime : pt .time =
    true) (s : State) (f : Nat) :
    (State.decoderInput s f).except pt = s.except pt := by
  unfold State.decoderInput
  dsimp only
  repeat' split
  all_goals simp [↓State.except_ite, hctxs, hflows, htime]

@[simp] theorem State.receiverReport_except (pt : Field → Bool) (hflows : pt .flows = true) (hfreeCtr : pt .freeCtr = true) (s : State)
    (f : Nat) :
    (State.receiverReport s f).except pt = s.except pt := by
  simp [State.receiverReport, ↓State.except_ite, hflows, hfreeCtr]

@[simp] theorem State.chooseMaster_except (pt : Field → Bool) (hports : pt .ports = true) (s : State) (p : Nat) (m : Option PtpMaster) :
    (State.chooseMaster s p m).except pt = s.except pt := by
  unfold State.chooseMaster
  dsimp only
  repeat' split
  all_goals simp [↓State.except_ite, hports]

@[simp] theorem State.followerMessage_except (pt : Field → Bool) (hports : pt .ports = true) (s : State) (p : Nat) (m : PtpMessage) :
    (State.followerMessage s p m).except pt = s.except pt := by
  unfold State.followerMessage
  dsimp only
  repeat' split
  all_goals simp [↓State.except_ite, hports]

@[simp] theorem State.clockForward_except (pt : Field → Bool) (hfreeCtr : pt .freeCtr = true) (hports : pt .ports = true) (s : State) (p
    : Nat) (m : PtpMessage) :
    (State.clockForward s p m).except pt = s.except pt := by
  simp [State.clockForward, ↓State.except_ite, hfreeCtr, hports]

@[simp] theorem State.ptpIn_except (pt : Field → Bool) (hfreeCtr : pt .freeCtr = true) (hports : pt .ports = true) (s : State) (p : Nat)
    (m : PtpMessage) :
    (State.ptpIn s p m).except pt = s.except pt := by
  simp [State.ptpIn, ↓State.except_ite, hfreeCtr, hports]

@[simp] theorem State.delayReq_except (pt : Field → Bool) (hports : pt .ports = true) (s : State) (p : Nat) :
    (State.delayReq s p).except pt = s.except pt := by
  unfold State.delayReq
  (try dsimp only)
  repeat' first
    | (with_reducible rfl) | split | (simp [↓State.except_ite, hports]; done)
    | (refine (State.each_except _ _ _ _ ?_).trans ?_; (intro t x; (try (dsimp only))))
    | (refine (State.when_except _ _ _ _ ?_).trans ?_; (intro t; (try (dsimp only))))

@[simp] theorem State.announceTimeout_except (pt : Field → Bool) (hports : pt .ports = true) (s : State) (p : Nat) (best : PtpMaster) :
    (State.announceTimeout s p best).except pt = s.except pt := by
  unfold State.announceTimeout
  dsimp only
  repeat' split
  all_goals simp [↓State.except_ite, hports]

@[simp] theorem State.dropOversize_except (pt : Field → Bool) (hqueues : pt .queues = true) (s : State) (p : Nat) :
    (State.dropOversize s p).except pt = s.except pt := by
  simp [State.dropOversize, ↓State.except_ite, hqueues]

@[simp] theorem State.gateChange_except (pt : Field → Bool) (hgates : pt .gates = true) (htime : pt .time = true) (s : State) (p : Nat) :
    (State.gateChange s p).except pt = s.except pt := by
  unfold State.gateChange
  dsimp only
  repeat' split
  all_goals simp [↓State.except_ite, hgates, htime]

@[simp] theorem State.gateTakes_except (pt : Field → Bool) (hgates : pt .gates = true) (hqueues : pt .queues = true) (s : State) (p :
    Nat) (c : GateCfg) (at0 : Nat) :
    (State.gateTakes s p c at0).except pt = s.except pt := by
  simp [State.gateTakes, hgates, hqueues]

@[simp] theorem State.gateTakeover_except (pt : Field → Bool) (hgates : pt .gates = true) (hqueues : pt .queues = true) (htime : pt
    .time = true) (s : State) (p : Nat) :
    (State.gateTakeover s p).except pt = s.except pt := by
  unfold State.gateTakeover
  (try dsimp only)
  repeat' first
    | (with_reducible rfl) | split | (simp [↓State.except_ite, hgates, hqueues, htime]; done)
    | (refine (State.each_except _ _ _ _ ?_).trans ?_; (intro t x; (try (dsimp only))))
    | (refine (State.when_except _ _ _ _ ?_).trans ?_; (intro t; (try (dsimp only))))

@[simp] theorem State.enqueue_except (pt : Field → Bool) (hqueues : pt .queues = true) (s : State) (p : Nat) (e : EgressFrame) :
    (State.enqueue s p e).except pt = s.except pt := by
  simp [State.enqueue, ↓State.except_ite, hqueues]

@[simp] theorem State.egressIn_except (pt : Field → Bool) (hqueues : pt .queues = true) (s : State) (p : Nat) (e : EgressFrame) :
    (State.egressIn s p e).except pt = s.except pt := by
  simp [State.egressIn, ↓State.except_ite, hqueues]

@[simp] theorem State.deficitTurn_except (pt : Field → Bool) (hgates : pt .gates = true) (hqueues : pt .queues = true) (s : State) (p
    fuel : Nat) :
    (State.deficitTurn s p fuel).2.except pt = s.except pt := by
  induction fuel generalizing s with
  | zero => rfl
  | succ fuel ih =>
    unfold State.deficitTurn
    dsimp only
    repeat' split
    all_goals simp [ih, hgates, hqueues]

@[simp] theorem State.sendHead_except (pt : Field → Bool) (hgates : pt .gates = true) (hqueues : pt .queues = true) (s : State) (p q :
    Nat) :
    (State.sendHead s p q).except pt = s.except pt := by
  unfold State.sendHead
  dsimp only
  repeat' split
  all_goals simp [↓State.except_ite, hgates, hqueues]

@[simp] theorem State.egressSelect_except (pt : Field → Bool) (hgates : pt .gates = true) (hqueues : pt .queues = true) (htime : pt
    .time = true) (s : State)
    (p : Nat) : (State.egressSelect s p).except pt = s.except pt := by
  unfold State.egressSelect
  dsimp only
  split
  · rfl
  · split
    · simp [hgates, hqueues, htime]
    · split
      · have h := State.deficitTurn_except pt hgates hqueues ((s.advanceTo (s.gate p).freeNs).dropOversize p) p 8192
        split
        all_goals
          rename_i e
          rw [e] at h
          simpa [hgates, hqueues, htime] using h
      · simp [hgates, hqueues, htime]

@[simp] theorem State.delayDrop_except (pt : Field → Bool) (hqueues : pt .queues = true) (htime : pt .time = true) (s : State) (k : Nat) :
    (State.delayDrop s k).except pt = s.except pt := by
  unfold State.delayDrop
  dsimp only
  repeat' split
  all_goals simp [↓State.except_ite, hqueues, htime]

@[simp] theorem State.discardDuty_except (pt : Field → Bool) (hqueues : pt .queues = true) (s : State) (plane : Nat) :
    (State.discardDuty s plane).except pt = s.except pt := by
  simp [State.discardDuty, ↓State.except_ite, hqueues]

@[simp] theorem State.sendAs_except (pt : Field → Bool) (hqueues : pt .queues = true) (s : State) (f : Nat) (c : FlowCfg) (b : Bytes) :
    (State.sendAs s f c b).except pt = s.except pt := by
  simp [State.sendAs, ↓State.except_ite, hqueues]

@[simp] theorem State.sendPacket_except (pt : Field → Bool) (hqueues : pt .queues = true) (s : State) (f : Nat) (b : Bytes) :
    (State.sendPacket s f b).except pt = s.except pt := by
  simp [State.sendPacket, ↓State.except_ite, hqueues]

@[simp] theorem State.pacerRelease_except (pt : Field → Bool) (hflows : pt .flows = true) (hqueues : pt .queues = true) (htime : pt .time = true) (s : State) (f j : Nat) :
    (State.pacerRelease s f j).except pt = s.except pt := by
  unfold State.pacerRelease
  dsimp only
  repeat' split
  all_goals simp [↓State.except_ite, hflows, hqueues, htime]

@[simp] theorem State.audioAncRelease_except (pt : Field → Bool) (hflows : pt .flows = true) (hqueues : pt .queues = true) (s : State) (f line : Nat) (audio : List (List Int)) (status : List (List Bool)) :
    (State.audioAncRelease s f line audio status).except pt = s.except pt := by
  simp [State.audioAncRelease, ↓State.except_ite, hflows, hqueues]

@[simp] theorem State.forwardOpaque_except (pt : Field → Bool) (hqueues : pt .queues = true) (s : State) (c : FlowCfg) (b : Bytes) :
    (State.forwardOpaque s c b).except pt = s.except pt := by
  simp [State.forwardOpaque, ↓State.except_ite, hqueues]

@[simp] theorem State.deliverPacket_except (pt : Field → Bool) (hflows : pt .flows = true) (hqueues : pt .queues = true) (hsrcs : pt .srcs = true) (s : State) (f gap : Nat) (p : Packet) :
    (State.deliverPacket s f gap p).except pt = s.except pt := by
  simp [State.deliverPacket, ↓State.except_ite, hflows, hqueues, hsrcs]

@[simp] theorem State.mergeRelease_except (pt : Field → Bool) (hflows : pt .flows = true) (hqueues : pt .queues = true) (hsrcs : pt
    .srcs = true) (htime : pt .time = true) (s : State) (f : Nat) :
    (State.mergeRelease s f).except pt = s.except pt := by
  unfold State.mergeRelease
  dsimp only
  repeat' split
  all_goals simp [↓State.except_ite, hflows, hqueues, hsrcs, htime]

@[simp] theorem State.queueSample_except (pt : Field → Bool) (hqueues : pt .queues = true) (htime : pt .time = true) (s : State) (p : Nat) :
    (State.queueSample s p).except pt = s.except pt := by
  simp [State.queueSample, ↓State.except_ite, hqueues, htime]

@[simp] theorem State.tsTables_except (pt : Field → Bool) (hdelivs : pt .delivs = true) (hfreeCtr : pt .freeCtr = true) (htime : pt
    .time = true) (s : State) (d : Nat) :
    (State.tsTables s d).except pt = s.except pt := by
  simp [State.tsTables, ↓State.except_ite, hdelivs, hfreeCtr, htime]

@[simp] theorem State.tsPacket_except (pt : Field → Bool) (hdelivs : pt .delivs = true) (hflows : pt .flows = true) (hqueues : pt
    .queues = true) (htime : pt .time = true) (s : State) (d : Nat) (whole : Bool) :
    (State.tsPacket s d whole).except pt = s.except pt := by
  simp [State.tsPacket, ↓State.except_ite, hdelivs, hflows, hqueues, htime]

@[simp] theorem State.tsSend_except (pt : Field → Bool) (hdelivs : pt .delivs = true) (hflows : pt .flows = true) (hqueues : pt .queues
    = true) (htime : pt .time = true) (s : State) (d : Nat) :
    (State.tsSend s d).except pt = s.except pt := by
  simp [State.tsSend, hdelivs, hflows, hqueues, htime]

@[simp] theorem State.ristReport_except (pt : Field → Bool) (hdelivs : pt .delivs = true) (hfreeCtr : pt .freeCtr = true) (htime : pt
    .time = true) (s : State) (d : Nat) :
    (State.ristReport s d).except pt = s.except pt := by
  simp [State.ristReport, ↓State.except_ite, hdelivs, hfreeCtr, htime]

@[simp] theorem State.pageAccess_except (pt : Field → Bool) (hdramStacks : pt .dramStacks = true) (s : State) (a : Nat) :
    (State.pageAccess s a).except pt = s.except pt := by
  simp [State.pageAccess, hdramStacks]

@[simp] theorem State.pageTouch_except (pt : Field → Bool) (hdramStacks : pt .dramStacks = true) (s : State) (a n : Nat) :
    (State.pageTouch s a n).except pt = s.except pt := by
  simp [State.pageTouch, ↓State.except_ite, hdramStacks]

@[simp] theorem State.memWrite_except (pt : Field → Bool) (hdram : pt .dram = true) (hdramStacks : pt .dramStacks = true) (s : State) (a : Nat) (b : Bytes) :
    (State.memWrite s a b).except pt = s.except pt := by
  simp [State.memWrite, hdram, hdramStacks]

@[simp] theorem State.stackPower_except (pt : Field → Bool) (hdramStacks : pt .dramStacks = true) (s : State) (p : DramPower) :
    (State.stackPower s p).except pt = s.except pt := by
  simp [State.stackPower, hdramStacks]

@[simp] theorem State.memLost_except (pt : Field → Bool) (hrmem : pt .rmem = true) (s : State) :
    (State.memLost s).except pt = s.except pt := by
  simp [State.memLost, hrmem]

@[simp] theorem State.memPartial_except (pt : Field → Bool) (hdramStacks : pt .dramStacks = true) (hrmem : pt .rmem = true) (s : State) :
    (State.memPartial s).except pt = s.except pt := by
  simp [State.memPartial, hdramStacks, hrmem]

@[simp] theorem State.memHoldup_except (pt : Field → Bool) (hdramStacks : pt .dramStacks = true) (hrmem : pt .rmem = true) (s : State) :
    (State.memHoldup s).except pt = s.except pt := by
  simp [State.memHoldup, ↓State.except_ite, hdramStacks, hrmem]

@[simp] theorem State.rowPending_except (pt : Field → Bool) (halarms : pt .alarms = true) (hrepair : pt .repair = true) (s : State)
    (reach row : Nat) :
    (State.rowPending s reach row).except pt = s.except pt := by
  simp [State.rowPending, ↓State.except_ite, halarms, hrepair]

@[simp] theorem State.rowCorrected_except (pt : Field → Bool) (halarms : pt .alarms = true) (hdramStacks : pt .dramStacks = true) (hrepair : pt .repair = true) (s : State) (a : Nat) :
    (State.rowCorrected s a).except pt = s.except pt := by
  simp [State.rowCorrected, halarms, hdramStacks, hrepair]

@[simp] theorem State.uncorrectable_except (pt : Field → Bool) (hctxs : pt .ctxs = true) (hdelivs : pt .delivs = true) (hdsts : pt .dsts = true) (hflows : pt .flows = true) (hjobs : pt .jobs = true) (hlayers : pt .layers = true) (hqueues : pt .queues = true) (hrends : pt .rends = true) (hstems : pt .stems = true) (htime : pt .time = true) (s : State) (e : DramError) :
    (State.uncorrectable s e).except pt = s.except pt := by
  unfold State.uncorrectable
  split <;> simp [↓State.except_ite, hctxs, hdelivs, hdsts, hflows, hjobs, hlayers, hqueues, hrends, hstems, htime]

@[simp] theorem State.dramError_except (pt : Field → Bool) (halarms : pt .alarms = true) (hctxs : pt .ctxs = true) (hdelivs : pt .delivs = true) (hdramStacks : pt .dramStacks = true) (hdsts : pt .dsts = true) (hflows : pt .flows = true) (hfreeCtr : pt .freeCtr = true) (hjobs : pt .jobs = true) (hlayers : pt .layers = true) (hqueues : pt .queues = true) (hrends : pt .rends = true) (hrepair : pt .repair = true) (hstems : pt .stems = true) (htime : pt .time = true) (s0 : State) (e : DramError) :
    (State.dramError s0 e).except pt = s0.except pt := by
  simp [State.dramError, ↓State.except_ite, halarms, hctxs, hdelivs, hdramStacks, hdsts, hflows, hfreeCtr, hjobs, hlayers, hqueues, hrends, hrepair, hstems, htime]

@[simp] theorem State.scrubPass_except (pt : Field → Bool) (hdramStacks : pt .dramStacks = true) (s : State) (k : Nat) :
    (State.scrubPass s k).except pt = s.except pt := by
  simp [State.scrubPass, ↓State.except_ite, hdramStacks]

@[simp] theorem State.refreshDue_except (pt : Field → Bool) (hdramStacks : pt .dramStacks = true) (s : State) (k bank : Nat) (waiting : Bool) :
    (State.refreshDue s k bank waiting).except pt = s.except pt := by
  simp [State.refreshDue, ↓State.except_ite, hdramStacks]

@[simp] theorem State.panicEnter_except (pt : Field → Bool) (hrmem : pt .rmem = true) (s : State) (n port : Nat) (writer : Bool) (fill : Nat) :
    (State.panicEnter s n port writer fill).except pt = s.except pt := by
  simp [State.panicEnter, ↓State.except_ite, hrmem]

@[simp] theorem State.panicLeave_except (pt : Field → Bool) (hrmem : pt .rmem = true) (s : State) (n port : Nat) (writer : Bool) (fill : Nat) :
    (State.panicLeave s n port writer fill).except pt = s.except pt := by
  simp [State.panicLeave, ↓State.except_ite, hrmem]

@[simp] theorem State.starve_except (pt : Field → Bool) (hdsts : pt .dsts = true) (hlayers : pt .layers = true) (hsrcs : pt .srcs = true) (s : State) (p : RtPort) :
    (State.starve s p).except pt = s.except pt := by
  unfold State.starve
  split <;> simp [↓State.except_ite, hdsts, hlayers, hsrcs]

@[simp] theorem State.rtStarved_except (pt : Field → Bool) (halarms : pt .alarms = true) (hdsts : pt .dsts = true) (hlayers : pt .layers = true) (hrmem : pt .rmem = true) (hsrcs : pt .srcs = true) (s0 : State) (n : Nat) (port : RtPort) :
    (State.rtStarved s0 n port).except pt = s0.except pt := by
  simp [State.rtStarved, ↓State.except_ite, halarms, hdsts, hlayers, hrmem, hsrcs]

@[simp] theorem State.playSlot_except (pt : Field → Bool) (halarms : pt .alarms = true) (hlevee : pt .levee = true) (hsrcs : pt .srcs =
    true) (s : State) (k slot : Nat) :
    (State.playSlot s k slot).except pt = s.except pt := by
  simp [State.playSlot, ↓State.except_ite, halarms, hlevee, hsrcs]

@[simp] theorem State.playoutPost_except (pt : Field → Bool) (halarms : pt .alarms = true) (hlevee : pt .levee = true) (hsrcs : pt .srcs
    = true) (htime : pt .time = true) (s : State) (k : Nat) :
    (State.playoutPost s k).except pt = s.except pt := by
  unfold State.playoutPost
  (try dsimp only)
  repeat' first
    | (with_reducible rfl) | split | (simp [↓State.except_ite, halarms, hlevee, hsrcs, htime]; done)
    | (refine (State.each_except _ _ _ _ ?_).trans ?_; (intro t x; (try (dsimp only))))
    | (refine (State.when_except _ _ _ _ ?_).trans ?_; (intro t; (try (dsimp only))))

@[simp] theorem State.playoutFree_except (pt : Field → Bool) (halarms : pt .alarms = true) (hlevee : pt .levee = true) (hsrcs : pt .srcs
    = true) (s : State) (k slot : Nat) :
    (State.playoutFree s k slot).except pt = s.except pt := by
  simp [State.playoutFree, ↓State.except_ite, halarms, hlevee, hsrcs]

@[simp] theorem State.captureStart_except (pt : Field → Bool) (hdsts : pt .dsts = true) (s : State) (d : Nat) :
    (State.captureStart s d).except pt = s.except pt := by
  simp [State.captureStart, ↓State.except_ite, hdsts]

@[simp] theorem State.fillSlot_except (pt : Field → Bool) (hcapStamps : pt .capStamps = true) (hdram : pt .dram = true) (hfreeCtr : pt .freeCtr = true) (s : State) (j slot frame sampling : Nat) (p : Picture) :
    (State.fillSlot s j slot frame sampling p).except pt = s.except pt := by
  simp [State.fillSlot, hcapStamps, hdram, hfreeCtr]

@[simp] theorem State.captureFrame_except (pt : Field → Bool) (hcapStamps : pt .capStamps = true) (hdram : pt .dram = true) (hdsts : pt
    .dsts = true) (hfreeCtr : pt .freeCtr = true) (s : State) (d : Nat) :
    (State.captureFrame s d).except pt = s.except pt := by
  unfold State.captureFrame
  dsimp only
  repeat' split
  all_goals simp [↓State.except_ite, hcapStamps, hdram, hdsts, hfreeCtr]

@[simp] theorem State.gaugeFeed_except (pt : Field → Bool) (hgauges : pt .gauges = true) (s : State) (u : Nat) (b : Bytes) :
    (State.gaugeFeed s u b).except pt = s.except pt := by
  simp [State.gaugeFeed, hgauges]

@[simp] theorem State.gaugeTake_except (pt : Field → Bool) (hfreeCtr : pt .freeCtr = true) (hgauges : pt .gauges = true) (s : State) (u
    : Nat) (b : Bytes) :
    (State.gaugeTake s u b).except pt = s.except pt := by
  simp [State.gaugeTake, ↓State.except_ite, hfreeCtr, hgauges]

@[simp] theorem State.gaugeFinal_except (pt : Field → Bool) (hgauges : pt .gauges = true) (s : State) (u : Nat) :
    (State.gaugeFinal s u).2.except pt = s.except pt := by
  simp [State.gaugeFinal, ↓State.except_ite, hgauges]

@[simp] theorem State.gaugeFeedEnd_except (pt : Field → Bool) (hdramStacks : pt .dramStacks = true) (hgauges : pt .gauges = true) (s : State) (u : Nat) :
    (State.gaugeFeedEnd s u).except pt = s.except pt := by
  unfold State.gaugeFeedEnd
  split <;> simp [↓State.except_ite, hdramStacks, hgauges]

@[simp] theorem State.culvertFail_except (pt : Field → Bool) (hculverts : pt .culverts = true) (hgauges : pt .gauges = true) (s : State)
    (c code done : Nat) :
    (State.culvertFail s c code done).except pt = s.except pt := by
  unfold State.culvertFail
  dsimp only
  repeat' split
  all_goals simp [↓State.except_ite, hculverts, hgauges]

@[simp] theorem State.culvertFinish_except (pt : Field → Bool) (hculverts : pt .culverts = true) (hgauges : pt .gauges = true) (s :
    State) (c : Nat) (x : Shadow) :
    (State.culvertFinish s c x).except pt = s.except pt := by
  simp [State.culvertFinish, hculverts, hgauges]

@[simp] theorem State.culvertActivate_except (pt : Field → Bool) (hculverts : pt .culverts = true) (hgauges : pt .gauges = true) (s :
    State) (c : Nat) :
    (State.culvertActivate s c).except pt = s.except pt := by
  simp [State.culvertActivate, ↓State.except_ite, hculverts, hgauges]

@[simp] theorem State.culvertNext_except (pt : Field → Bool) (hculverts : pt .culverts = true) (hgauges : pt .gauges = true) (s : State)
    (c : Nat) :
    (State.culvertNext s c).except pt = s.except pt := by
  simp [State.culvertNext, ↓State.except_ite, hculverts, hgauges]

@[simp] theorem State.culvertArm_except (pt : Field → Bool) (hculverts : pt .culverts = true) (hgauges : pt .gauges = true) (s : State)
    (c : Nat) :
    (State.culvertArm s c).except pt = s.except pt := by
  simp [State.culvertArm, ↓State.except_ite, hculverts, hgauges]

@[simp] theorem State.culvertAbort_except (pt : Field → Bool) (hculverts : pt .culverts = true) (s : State) (c : Nat) :
    (State.culvertAbort s c).except pt = s.except pt := by
  simp [State.culvertAbort, ↓State.except_ite, hculverts]

@[simp] theorem State.culvertClear_except (pt : Field → Bool) (hculverts : pt .culverts = true) (hgauges : pt .gauges = true) (s :
    State) (c : Nat) :
    (State.culvertClear s c).except pt = s.except pt := by
  simp [State.culvertClear, ↓State.except_ite, hculverts, hgauges]

@[simp] theorem State.culvertHalf_except (pt : Field → Bool) (hculverts : pt .culverts = true) (s : State) (c : Nat) :
    (State.culvertHalf s c).except pt = s.except pt := by
  unfold State.culvertHalf
  (try dsimp only)
  repeat' first
    | (with_reducible rfl) | split | (simp [↓State.except_ite, hculverts]; done)
    | (refine (State.each_except _ _ _ _ ?_).trans ?_; (intro t x; (try (dsimp only))))
    | (refine (State.when_except _ _ _ _ ?_).trans ?_; (intro t; (try (dsimp only))))

@[simp] theorem State.culvertStore_except (pt : Field → Bool) (hdram : pt .dram = true) (hdramStacks : pt .dramStacks = true) (s : State) (x : Shadow) (b : Bytes) :
    (State.culvertStore s x b).except pt = s.except pt := by
  simp [State.culvertStore, ↓State.except_ite, hdram, hdramStacks]

@[simp] theorem State.culvertComplete_except (pt : Field → Bool) (hculverts : pt .culverts = true) (hdram : pt .dram = true) (hdramStacks : pt .dramStacks = true) (hfreeCtr : pt .freeCtr = true) (hgauges : pt .gauges = true) (s : State) (c : Nat) (data : Bytes) :
    (State.culvertComplete s c data).except pt = s.except pt := by
  unfold State.culvertComplete
  split <;> simp [↓State.except_ite, hculverts, hdram, hdramStacks, hfreeCtr, hgauges]

@[simp] theorem State.culvertPart_except (pt : Field → Bool) (hdram : pt .dram = true) (hdramStacks : pt .dramStacks = true) (hfreeCtr : pt .freeCtr = true) (hgauges : pt .gauges = true) (s : State) (x : Shadow) (done : Nat) :
    (State.culvertPart s x done).except pt = s.except pt := by
  simp [State.culvertPart, ↓State.except_ite, hdram, hdramStacks, hfreeCtr, hgauges]

@[simp] theorem State.culvertError_except (pt : Field → Bool) (hculverts : pt .culverts = true) (hdram : pt .dram = true) (hdramStacks : pt .dramStacks = true) (hfreeCtr : pt .freeCtr = true) (hgauges : pt .gauges = true) (s : State) (c code done : Nat) :
    (State.culvertError s c code done).except pt = s.except pt := by
  unfold State.culvertError
  split <;> simp [↓State.except_ite, hculverts, hdram, hdramStacks, hfreeCtr, hgauges]

@[simp] theorem State.culvertAbortEnd_except (pt : Field → Bool) (hculverts : pt .culverts = true) (hdram : pt .dram = true) (hdramStacks : pt .dramStacks = true) (hfreeCtr : pt .freeCtr = true) (hgauges : pt .gauges = true) (s : State) (c done : Nat) :
    (State.culvertAbortEnd s c done).except pt = s.except pt := by
  unfold State.culvertAbortEnd
  split <;> simp [↓State.except_ite, hculverts, hdram, hdramStacks, hfreeCtr, hgauges]

@[simp] theorem State.remapSet_except (pt : Field → Bool) (hremap : pt .remap = true) (s : State) :
    (State.remapSet s).except pt = s.except pt := by
  simp [State.remapSet, hremap]

@[simp] theorem State.busAnswer_except (pt : Field → Bool) (s : State) (q : BusRequest) :
    (State.busAnswer s q).except pt = s.except pt := by
  simp [State.busAnswer, ↓State.except_ite]

@[simp] theorem State.busServe_except (pt : Field → Bool) (hbusReqs : pt .busReqs = true) (fuel : Nat) (s : State) :
    (State.busServe fuel s).except pt = s.except pt := by
  induction fuel generalizing s with
  | zero => rfl
  | succ fuel ih =>
    unfold State.busServe
    split
    · rfl
    · exact (ih _).trans (by simp [hbusReqs])

@[simp] theorem State.busDefault_except (pt : Field → Bool) (hbusReqs : pt .busReqs = true) (s : State) (q : BusRequest) :
    (State.busDefault s q).except pt = s.except pt := by
  simp [State.busDefault, hbusReqs]

@[simp] theorem State.takeStep_except (pt : Field → Bool) (hheads : pt .heads = true) (hlayers : pt .layers = true) (s : State) (l :
    Nat) (p : ScalePlan) :
    (State.takeStep s l p).except pt = s.except pt := by
  simp [State.takeStep, ↓State.except_ite, hheads, hlayers]

@[simp] theorem State.layerFrame_except (pt : Field → Bool) (hheads : pt .heads = true) (hlayers : pt .layers = true) (s : State) (l :
    Nat) (c : VideoLayer) :
    (State.layerFrame s l c).except pt = s.except pt := by
  simp [State.layerFrame, ↓State.except_ite, hheads, hlayers]

@[simp] theorem State.meterFrame_except (pt : Field → Bool) (hlayers : pt .layers = true) (s : State) (peaks : List (Nat × Nat)) (l : Nat) (c : GraphicLayer) :
    (State.meterFrame s peaks l c).except pt = s.except pt := by
  simp [State.meterFrame, hlayers]

@[simp] theorem State.headFrameStart_except (pt : Field → Bool) (hheads : pt .heads = true) (hlayers : pt .layers = true) (s : State) (h : Nat) (peaks : List (Nat × Nat)) :
    (State.headFrameStart s h peaks).except pt = s.except pt := by
  simp [State.headFrameStart, ↓State.except_ite, hheads, hlayers]

@[simp] theorem State.judgeHeadFreeze_except (pt : Field → Bool) (halarms : pt .alarms = true) (hheads : pt .heads = true) (s : State)
    (h : Nat) (same : Bool) (sig : BitVec 32) :
    (State.judgeHeadFreeze s h same sig).except pt = s.except pt := by
  simp [State.judgeHeadFreeze, ↓State.except_ite, halarms, hheads]

@[simp] theorem State.headFrameComplete_except (pt : Field → Bool) (halarms : pt .alarms = true) (hheads : pt .heads = true) (hlevee : pt .levee = true) (hsrcs : pt .srcs = true) (s : State) (h : Nat) :
    (State.headFrameComplete s h).except pt = s.except pt := by
  simp [State.headFrameComplete, ↓State.except_ite, halarms, hheads, hlevee, hsrcs]

@[simp] theorem State.readbackArm_except (pt : Field → Bool) (hreadback : pt .readback = true) (s : State) (v : BitVec 32) :
    (State.readbackArm s v).except pt = s.except pt := by
  simp [State.readbackArm, hreadback]

@[simp] theorem State.readbackCapture_except (pt : Field → Bool) (hreadback : pt .readback = true) (s : State) (words : List Nat) :
    (State.readbackCapture s words).except pt = s.except pt := by
  unfold State.readbackCapture
  dsimp only
  split
  · exact State.except_set_readback _ hreadback _ _
  · rfl

@[simp] theorem State.loopFrames_except (pt : Field → Bool) (hports : pt .ports = true) (s : State) (n : Nat) (o : PlaneObs) :
    (State.loopFrames s n o).except pt = s.except pt := by
  simp [State.loopFrames, hports]

@[simp] theorem State.startBridge_except (pt : Field → Bool) (hhg : pt .hg = true) (s : State) (n : Nat) :
    (State.startBridge s n).except pt = s.except pt := by
  simp [State.startBridge, ↓State.except_ite, hhg]

@[simp] theorem State.giveUp_except (pt : Field → Bool) (hhg : pt .hg = true) (hlevee : pt .levee = true) (hqueues : pt .queues = true)
    (s : State) (n : Nat) :
    (State.giveUp s n).except pt = s.except pt := by
  simp [State.giveUp, hhg, hlevee, hqueues]

@[simp] theorem State.judgeHolder_except (pt : Field → Bool) (hhg : pt .hg = true) (hlevee : pt .levee = true) (hqueues : pt .queues =
    true) (s : State) :
    (State.judgeHolder s).except pt = s.except pt := by
  unfold State.judgeHolder
  (try dsimp only)
  repeat' first
    | (with_reducible rfl) | split | (simp [↓State.except_ite, hhg, hlevee, hqueues]; done)
    | (refine (State.each_except _ _ _ _ ?_).trans ?_; (intro t x; (try (dsimp only))))
    | (refine (State.when_except _ _ _ _ ?_).trans ?_; (intro t; (try (dsimp only))))

@[simp] theorem State.judgeNone_except (pt : Field → Bool) (halarms : pt .alarms = true) (s : State) :
    (State.judgeNone s).except pt = s.except pt := by
  simp [State.judgeNone, ↓State.except_ite, halarms]

@[simp] theorem State.planeEval_except (pt : Field → Bool) (halarms : pt .alarms = true) (hflows : pt .flows = true) (hhg : pt .hg = true) (hlevee : pt .levee = true) (hplanes : pt .planes = true) (hports : pt .ports = true) (hqueues : pt .queues = true) (s0 : State) (n : Nat) (o : PlaneObs) :
    (State.planeEval s0 n o).except pt = s0.except pt := by
  have handback : ∀ (s : State) (l : Levee), ({ s with levee := l } : State).except pt = s.except pt := by
    intro s l
    simp [State.except, hlevee]
  simp only [State.planeEval, State.except_ite, State.judgeNone_except pt halarms, State.judgeHolder_except pt hhg hlevee hqueues,
    State.clearAlarm_except pt halarms, State.raise_except pt halarms, State.each_except, State.event_except, handback,
    State.modPlane_except pt hplanes, State.loopFrames_except pt hports, ite_self, implies_true]

@[simp] theorem State.takeUp_except (pt : Field → Bool) (hflows : pt .flows = true) (hports : pt .ports = true) (old s : State) (n : Nat) :
    (State.takeUp old s n).except pt = s.except pt := by
  simp [State.takeUp, ↓State.except_ite, hflows, hports]

@[simp] theorem State.grant_except (pt : Field → Bool) (halarms : pt .alarms = true) (hflows : pt .flows = true) (hhg : pt .hg = true) (hlevee : pt .levee = true) (hplanes : pt .planes = true) (hports : pt .ports = true) (hqueues : pt .queues = true) (s : State) (n kind : Nat) :
    (State.grant s n kind).except pt = s.except pt := by
  simp [State.grant, halarms, hflows, hhg, hlevee, hplanes, hports, hqueues]

@[simp] theorem State.leaseRenew_except (pt : Field → Bool) (hlevee : pt .levee = true) (htime : pt .time = true) (s : State) (n : Nat) :
    (State.leaseRenew s n).except pt = s.except pt := by
  simp [State.leaseRenew, ↓State.except_ite, hlevee, htime]

@[simp] theorem State.leaseExpiry_except (pt : Field → Bool) (halarms : pt .alarms = true) (hflows : pt .flows = true) (hhg : pt .hg = true) (hlevee : pt .levee = true) (hplanes : pt .planes = true) (hports : pt .ports = true) (hqueues : pt .queues = true) (htime : pt .time = true) (s : State) :
    (State.leaseExpiry s).except pt = s.except pt := by
  unfold State.leaseExpiry
  dsimp only
  repeat' split
  all_goals simp [↓State.except_ite, halarms, hflows, hhg, hlevee, hplanes, hports, hqueues, htime]

@[simp] theorem State.rightRequest_except (pt : Field → Bool) (halarms : pt .alarms = true) (hflows : pt .flows = true) (hhg : pt .hg = true) (hlevee : pt .levee = true) (hplanes : pt .planes = true) (hports : pt .ports = true) (hqueues : pt .queues = true) (s : State) (n : Nat) :
    (State.rightRequest s n).except pt = s.except pt := by
  simp [State.rightRequest, ↓State.except_ite, halarms, hflows, hhg, hlevee, hplanes, hports, hqueues]

@[simp] theorem State.handbackDue_except (pt : Field → Bool) (halarms : pt .alarms = true) (hflows : pt .flows = true) (hhg : pt .hg = true) (hlevee : pt .levee = true) (hplanes : pt .planes = true) (hports : pt .ports = true) (hqueues : pt .queues = true) (htime : pt .time = true) (s : State) : (State.handbackDue s).except pt = s.except pt := by
  unfold State.handbackDue
  dsimp only
  repeat' split
  all_goals simp [↓State.except_ite, halarms, hflows, hhg, hlevee, hplanes, hports, hqueues, htime]

@[simp] theorem State.transfer_except (pt : Field → Bool) (halarms : pt .alarms = true) (hflows : pt .flows = true) (hhg : pt .hg = true) (hlevee : pt .levee = true) (hplanes : pt .planes = true) (hports : pt .ports = true) (hqueues : pt .queues = true) (s : State) (n kind : Nat) :
    (State.transfer s n kind).except pt = s.except pt := by
  unfold State.transfer
  split <;> simp [↓State.except_ite, halarms, hflows, hhg, hlevee, hplanes, hports, hqueues]

@[simp] theorem State.handback_except (pt : Field → Bool) (halarms : pt .alarms = true) (hflows : pt .flows = true) (hhg : pt .hg = true) (hlevee : pt .levee = true) (hplanes : pt .planes = true) (hports : pt .ports = true) (hqueues : pt .queues = true) (s : State) :
    (State.handback s).except pt = s.except pt := by
  simp [State.handback, ↓State.except_ite, halarms, hflows, hhg, hlevee, hplanes, hports, hqueues]

@[simp] theorem State.holdEnd_except (pt : Field → Bool) (hdsts : pt .dsts = true) (hlevee : pt .levee = true) (htime : pt .time = true)
    (s : State) (k : Nat) :
    (State.holdEnd s k).except pt = s.except pt := by
  unfold State.holdEnd
  dsimp only
  repeat' split
  all_goals simp [↓State.except_ite, hdsts, hlevee, htime]

@[simp] theorem State.jobOutput_except (pt : Field → Bool) (hcores : pt .cores = true) (hfreeCtr : pt .freeCtr = true) (hhostFlows : pt
    .hostFlows = true) (hjobs : pt .jobs = true) (hrends : pt .rends = true) (hriders : pt .riders = true) (s : State) (h : Nat) (u :
    Bytes) (flags sap : Nat) (cons : ConsWord) :
    (State.jobOutput s h u flags sap cons).except pt = s.except pt := by
  unfold State.jobOutput
  dsimp only
  repeat' split
  all_goals simp [↓State.except_ite, hcores, hfreeCtr, hhostFlows, hjobs, hrends, hriders]

@[simp] theorem State.outputRetry_except (pt : Field → Bool) (hcores : pt .cores = true) (hfreeCtr : pt .freeCtr = true) (hhostFlows :
    pt .hostFlows = true) (hjobs : pt .jobs = true) (hrends : pt .rends = true) (hriders : pt .riders = true) (htime : pt .time = true)
    (s : State) (h : Nat) (cons : ConsWord) :
    (State.outputRetry s h cons).except pt = s.except pt := by
  unfold State.outputRetry
  dsimp only
  repeat' split
  all_goals simp [↓State.except_ite, hcores, hfreeCtr, hhostFlows, hjobs, hrends, hriders, htime]

@[simp] theorem State.takePcr_except (pt : Field → Bool) (hctxs : pt .ctxs = true) (hfreeCtr : pt .freeCtr = true) (s : State) (x : Nat)
    (pcr : Option (Nat × Nat)) :
    (State.takePcr s x pcr).except pt = s.except pt := by
  unfold State.takePcr
  dsimp only
  repeat' split
  all_goals simp [↓State.except_ite, hctxs, hfreeCtr]

@[simp] theorem State.noteConcealed_except (pt : Field → Bool) (halarms : pt .alarms = true) (hctxs : pt .ctxs = true) (s : State) (x :
    Nat) (p : DecodedPicture) :
    (State.noteConcealed s x p).except pt = s.except pt := by
  simp [State.noteConcealed, ↓State.except_ite, halarms, hctxs]

@[simp] theorem State.pictureDecoded_except (pt : Field → Bool) (halarms : pt .alarms = true) (hctxs : pt .ctxs = true) (hfreeCtr : pt .freeCtr = true) (s0 : State) (x : Nat) (p0 : DecodedPicture) :
    (State.pictureDecoded s0 x p0).except pt = s0.except pt := by
  unfold State.pictureDecoded
  simp [↓State.except_ite, halarms, hctxs, hfreeCtr]

@[simp] theorem State.outputLoss_except (pt : Field → Bool) (halarms : pt .alarms = true) (hctxs : pt .ctxs = true) (hsrcs : pt .srcs =
    true) (htime : pt .time = true) (s : State) (x : Nat) :
    (State.outputLoss s x).except pt = s.except pt := by
  simp [State.outputLoss, ↓State.except_ite, halarms, hctxs, hsrcs, htime]

@[simp] theorem State.decoderRelease_except (pt : Field → Bool) (hcores : pt .cores = true) (hctxs : pt .ctxs = true) (hflows : pt
    .flows = true) (hfreeCtr : pt .freeCtr = true) (hhostFlows : pt .hostFlows = true) (hjobs : pt .jobs = true) (hrends : pt .rends =
    true) (hriders : pt .riders = true) (htime : pt .time = true) (s : State) (f : Nat) :
    (State.decoderRelease s f).except pt = s.except pt := by
  simp [State.decoderRelease, ↓State.except_ite, hcores, hctxs, hflows, hfreeCtr, hhostFlows, hjobs, hrends, hriders, htime]

@[simp] theorem State.hgSticky_except (pt : Field → Bool) (hhg : pt .hg = true) (s : State) (i : Nat) :
    (State.hgSticky s i).except pt = s.except pt := by
  simp [State.hgSticky, hhg]

@[simp] theorem State.setFreq_except (pt : Field → Bool) (hhg : pt .hg = true) (s : State) (freq : Int) :
    (State.setFreq s freq).except pt = s.except pt := by
  simp [State.setFreq, hhg]

@[simp] theorem State.hgEnter_except (pt : Field → Bool) (halarms : pt .alarms = true) (hhg : pt .hg = true) (s : State) (st : HgState) :
    (State.hgEnter s st).except pt = s.except pt := by
  simp [State.hgEnter, ↓State.except_ite, halarms, hhg]

@[simp] theorem State.loseRef_except (pt : Field → Bool) (halarms : pt .alarms = true) (hhg : pt .hg = true) (s : State) (endNs : Nat) :
    (State.loseRef s endNs).except pt = s.except pt := by
  unfold State.loseRef
  dsimp only
  repeat' split
  all_goals simp [↓State.except_ite, halarms, hhg]

@[simp] theorem State.disqualify_except (pt : Field → Bool) (halarms : pt .alarms = true) (hhg : pt .hg = true) (hrefs : pt .refs =
    true) (s : State) (k cause : Nat) :
    (State.disqualify s k cause).except pt = s.except pt := by
  simp [State.disqualify, ↓State.except_ite, halarms, hhg, hrefs]

@[simp] theorem State.refLost_except (pt : Field → Bool) (halarms : pt .alarms = true) (hhg : pt .hg = true) (hrefs : pt .refs = true)
    (s : State) (k : Nat) :
    (State.refLost s k).except pt = s.except pt := by
  simp [State.refLost, ↓State.except_ite, halarms, hhg, hrefs]

@[simp] theorem State.holdoverExpiry_except (pt : Field → Bool) (halarms : pt .alarms = true) (hhg : pt .hg = true) (htime : pt .time =
    true) (s : State) :
    (State.holdoverExpiry s).except pt = s.except pt := by
  simp [State.holdoverExpiry, ↓State.except_ite, halarms, hhg, htime]

@[simp] theorem State.historyRecord_except (pt : Field → Bool) (hhg : pt .hg = true) (htime : pt .time = true) (s : State) (f : Int) :
    (State.historyRecord s f).except pt = s.except pt := by
  unfold State.historyRecord
  dsimp only
  repeat' split
  all_goals simp [↓State.except_ite, hhg, htime]

@[simp] theorem State.bridgeTimeout_except (pt : Field → Bool) (halarms : pt .alarms = true) (hhg : pt .hg = true) (hrefs : pt .refs =
    true) (htime : pt .time = true) (s : State) :
    (State.bridgeTimeout s).except pt = s.except pt := by
  unfold State.bridgeTimeout
  (try dsimp only)
  repeat' first
    | (with_reducible rfl) | split | (simp [↓State.except_ite, halarms, hhg, hrefs, htime]; done)
    | (refine (State.each_except _ _ _ _ ?_).trans ?_; (intro t x; (try (dsimp only))))
    | (refine (State.when_except _ _ _ _ ?_).trans ?_; (intro t; (try (dsimp only))))

@[simp] theorem State.capEdge_except (pt : Field → Bool) (hcaps : pt .caps = true) (s : State) (n : Nat) (falling : Bool) :
    (State.capEdge s n falling).except pt = s.except pt := by
  simp [State.capEdge, ↓State.except_ite, hcaps]

@[simp] theorem State.triggerFire_except (pt : Field → Bool) (htime : pt .time = true) (htrigs : pt .trigs = true) (s : State) (k : Nat) :
    (State.triggerFire s k).except pt = s.except pt := by
  unfold State.triggerFire
  dsimp only
  repeat' split
  all_goals simp [↓State.except_ite, htime, htrigs]

@[simp] theorem State.ppsPulse_except (pt : Field → Bool) (hpins : pt .pins = true) (htime : pt .time = true) (s : State) :
    (State.ppsPulse s).except pt = s.except pt := by
  simp [State.ppsPulse, ↓State.except_ite, hpins, htime]

@[simp] theorem State.calWrite_except (pt : Field → Bool) (halarms : pt .alarms = true) (hcal : pt .cal = true) (s : State) (b : Bytes) :
    (State.calWrite s b).except pt = s.except pt := by
  simp [State.calWrite, halarms, hcal]

@[simp] theorem State.recalDone_except (pt : Field → Bool) (halarms : pt .alarms = true) (hcal : pt .cal = true) (s : State) (m : CalParts) :
    (State.recalDone s m).except pt = s.except pt := by
  unfold State.recalDone
  split <;> simp [↓State.except_ite, halarms, hcal]

@[simp] theorem State.arrive_except (pt : Field → Bool) (hmode : pt .mode = true) (s : State) (m : Mode) :
    (State.arrive s m).except pt = s.except pt := by
  simp [State.arrive, hmode]

@[simp] theorem State.tryBoot_except (pt : Field → Bool) (hmode : pt .mode = true) (hpins : pt .pins = true) (s : State) :
    (State.tryBoot s).except pt = s.except pt := by
  simp [State.tryBoot, ↓State.except_ite, hmode, hpins]

@[simp] theorem State.aonRelease_except (pt : Field → Bool) (hdramStacks : pt .dramStacks = true) (hpins : pt .pins = true) (htime : pt .time = true) (s : State) :
    (State.aonRelease s).except pt = s.except pt := by
  simp [State.aonRelease, ↓State.except_ite, hdramStacks, hpins, htime]

@[simp] theorem State.sysRelease_except (pt : Field → Bool) (hmode : pt .mode = true) (hpins : pt .pins = true) (s : State) (bootSel :
    Nat) :
    (State.sysRelease s bootSel).except pt = s.except pt := by
  simp [State.sysRelease, ↓State.except_ite, hmode, hpins]

@[simp] theorem State.pwrRise_except (pt : Field → Bool) (hmode : pt .mode = true) (hpins : pt .pins = true) (s : State) :
    (State.pwrRise s).except pt = s.except pt := by
  simp [State.pwrRise, ↓State.except_ite, hmode, hpins]

@[simp] theorem State.pwrTimeout_except (pt : Field → Bool) (hmode : pt .mode = true) (hpins : pt .pins = true) (htime : pt .time =
    true) (s : State) :
    (State.pwrTimeout s).except pt = s.except pt := by
  unfold State.pwrTimeout
  dsimp only
  repeat' split
  all_goals simp [↓State.except_ite, hmode, hpins, htime]

@[simp] theorem State.bootToRecovery_except (pt : Field → Bool) (hmode : pt .mode = true) (s : State) :
    (State.bootToRecovery s).except pt = s.except pt := by
  simp [State.bootToRecovery, ↓State.except_ite, hmode]

@[simp] theorem State.firstPass_except (pt : Field → Bool) (himage : pt .image = true) (hmode : pt .mode = true) (s : State) :
    (State.firstPass s).except pt = s.except pt := by
  simp [State.firstPass, ↓State.except_ite, himage, hmode]

@[simp] theorem State.slotErased_except (pt : Field → Bool) (himage : pt .image = true) (s : State) :
    (State.slotErased s).except pt = s.except pt := by
  simp [State.slotErased, ↓State.except_ite, himage]

@[simp] theorem State.inputLost_except (pt : Field → Bool) (hains : pt .ains = true) (halarms : pt .alarms = true) (haouts : pt .aouts = true) (hdsts : pt .dsts = true) (hlevee : pt .levee = true) (hsrcs : pt .srcs = true) (s : State) (k missing : Nat) (got : Picture) :
    (State.inputLost s k missing got).except pt = s.except pt := by
  simp [State.inputLost, ↓State.except_ite, hains, halarms, haouts, hdsts, hlevee, hsrcs]

@[simp] theorem State.setSources_except (pt : Field → Bool) (himage : pt .image = true) (s : State) (l : List ImgSource) :
    (State.setSources s l).except pt = s.except pt := by
  simp [State.setSources, ↓State.except_ite, himage]

@[simp] theorem State.leaveSession_except (pt : Field → Bool) (himage : pt .image = true) (s : State) (x : ImgSource) :
    (State.leaveSession s x).except pt = s.except pt := by
  simp [State.leaveSession, himage]

@[simp] theorem State.pieceWritten_except (pt : Field → Bool) (himage : pt .image = true) (s : State) (p : Nat) :
    (State.pieceWritten s p).except pt = s.except pt := by
  unfold State.pieceWritten
  dsimp only
  repeat' split
  all_goals simp [↓State.except_ite, himage]

@[simp] theorem State.pieceStale_except (pt : Field → Bool) (himage : pt .image = true) (htime : pt .time = true) (s : State) (p : Nat) :
    (State.pieceStale s p).except pt = s.except pt := by
  unfold State.pieceStale
  dsimp only
  repeat' split
  all_goals simp [↓State.except_ite, himage, htime]

@[simp] theorem State.leaseIdle_except (pt : Field → Bool) (himage : pt .image = true) (htime : pt .time = true) (s : State) :
    (State.leaseIdle s).except pt = s.except pt := by
  unfold State.leaseIdle
  dsimp only
  repeat' split
  all_goals simp [↓State.except_ite, himage, htime]

@[simp] theorem State.thermSticky_except (pt : Field → Bool) (hthermal : pt .thermal = true) (s : State) (i : Nat) :
    (State.thermSticky s i).except pt = s.except pt := by
  simp [State.thermSticky, hthermal]

@[simp] theorem State.shedStep_except (pt : Field → Bool) (hthermal : pt .thermal = true) (s : State) (step saving unit reach : Nat) :
    (State.shedStep s step saving unit reach).except pt = s.except pt := by
  simp [State.shedStep, hthermal]

@[simp] theorem State.shedBackfill_except (pt : Field → Bool) (hcores : pt .cores = true) (hjobs : pt .jobs = true) (hriders : pt
    .riders = true) (hthermal : pt .thermal = true) (s : State) :
    (State.shedBackfill s).except pt = s.except pt := by
  simp [State.shedBackfill, hcores, hjobs, hriders, hthermal]

@[simp] theorem State.shedRend_except (pt : Field → Bool) (hrends : pt .rends = true) (hthermal : pt .thermal = true) (s : State) (r :
    Nat) :
    (State.shedRend s r).except pt = s.except pt := by
  simp [State.shedRend, hrends, hthermal]

@[simp] theorem State.shedCtx_except (pt : Field → Bool) (hthermal : pt .thermal = true) (s : State) (x : Nat) :
    (State.shedCtx s x).except pt = s.except pt := by
  simp [State.shedCtx, hthermal]

@[simp] theorem State.lowerClock_except (pt : Field → Bool) (hfreeCtr : pt .freeCtr = true) (hthermal : pt .thermal = true) (s : State)
    (n : Nat) :
    (State.lowerClock s n).except pt = s.except pt := by
  simp [State.lowerClock, ↓State.except_ite, hfreeCtr, hthermal]

@[simp] theorem State.reevaluateNow_except (pt : Field → Bool) (hcores : pt .cores = true) (hfreeCtr : pt .freeCtr = true) (hjobs : pt
    .jobs = true) (hrends : pt .rends = true) (hriders : pt .riders = true) (hthermal : pt .thermal = true) (s : State) :
    (State.reevaluateNow s).except pt = s.except pt := by
  unfold State.reevaluateNow
  dsimp only
  repeat' split
  all_goals simp [↓State.except_ite, hcores, hfreeCtr, hjobs, hrends, hriders, hthermal]

@[simp] theorem State.reevaluate_except (pt : Field → Bool) (hcores : pt .cores = true) (hfreeCtr : pt .freeCtr = true) (hjobs : pt
    .jobs = true) (hrends : pt .rends = true) (hriders : pt .riders = true) (hthermal : pt .thermal = true) (htime : pt .time = true) (s
    : State) :
    (State.reevaluate s).except pt = s.except pt := by
  simp [State.reevaluate, ↓State.except_ite, hcores, hfreeCtr, hjobs, hrends, hriders, hthermal, htime]

@[simp] theorem State.clockStep_except (pt : Field → Bool) (hfreeCtr : pt .freeCtr = true) (hthermal : pt .thermal = true) (htime : pt
    .time = true) (s : State) (n : Nat) :
    (State.clockStep s n).except pt = s.except pt := by
  simp [State.clockStep, ↓State.except_ite, hfreeCtr, hthermal, htime]

@[simp] theorem State.powerSample_except (pt : Field → Bool) (halarms : pt .alarms = true) (hthermal : pt .thermal = true) (s : State)
    (rails : List Nat) :
    (State.powerSample s rails).except pt = s.except pt := by
  simp [State.powerSample, ↓State.except_ite, halarms, hthermal]

@[simp] theorem State.holdupFall_except (pt : Field → Bool) (hdramStacks : pt .dramStacks = true) (hpins : pt .pins = true) (hrmem : pt .rmem = true) (s : State) :
    (State.holdupFall s).except pt = s.except pt := by
  simp [State.holdupFall, hdramStacks, hpins, hrmem]

@[simp] theorem State.holdupRise_except (pt : Field → Bool) (hpins : pt .pins = true) (s : State) :
    (State.holdupRise s).except pt = s.except pt := by
  simp [State.holdupRise, hpins]

@[simp] theorem State.tallyChange_except (pt : Field → Bool) (hpins : pt .pins = true) (s : State) (n : Nat) (level : Bool) :
    (State.tallyChange s n level).except pt = s.except pt := by
  simp [State.tallyChange, ↓State.except_ite, hpins]

@[simp] theorem State.jtagRun_except (pt : Field → Bool) (hjtag : pt .jtag = true) (s : State) (ir : JtagOp) :
    (State.jtagRun s ir).except pt = s.except pt := by
  simp [State.jtagRun, hjtag]

@[simp] theorem State.markDeferred_except (pt : Field → Bool) (hdsts : pt .dsts = true) (hflows : pt .flows = true) (s : State) (x :
    Setting) :
    (State.markDeferred s x).except pt = s.except pt := by
  unfold State.markDeferred
  (try dsimp only)
  repeat' first
    | (with_reducible rfl) | split | (simp [↓State.except_ite, hdsts, hflows]; done)
    | (refine (State.each_except _ _ _ _ ?_).trans ?_; (intro t x; (try (dsimp only))))
    | (refine (State.when_except _ _ _ _ ?_).trans ?_; (intro t; (try (dsimp only))))

@[simp] theorem State.countDeferral_except (pt : Field → Bool) (hmode : pt .mode = true) (s : State) (d : Nat) :
    (State.countDeferral s d).except pt = s.except pt := by
  simp [State.countDeferral, ↓State.except_ite, hmode]

@[simp] theorem State.writeShadow_except (pt : Field → Bool) (hdsts : pt .dsts = true) (s : State) (d : Nat) :
    (State.writeShadow s d).except pt = s.except pt := by
  unfold State.writeShadow
  (try (dsimp only)); (repeat' first
        | (with_reducible rfl) | split | (simp [↓State.except_ite, hdsts]; done)
        | (refine (State.each_except _ _ _ _ ?_).trans ?_; (intro t x; (try (dsimp only))))
        | (refine (State.when_except _ _ _ _ ?_).trans ?_; (intro t; (try (dsimp only)))))

@[simp] theorem State.shadowRebuild_except (pt : Field → Bool) (hdomains : pt .domains = true) (hdsts : pt .dsts = true) (s : State) (d : Nat) (complete : Bool) :
    (State.shadowRebuild s d complete).except pt = s.except pt := by
  simp [State.shadowRebuild, ↓State.except_ite, hdomains, hdsts]

@[simp] theorem State.deferSwap_except (pt : Field → Bool) (hdsts : pt .dsts = true) (hflows : pt .flows = true) (hmode : pt .mode =
    true) (hparts : pt .parts = true) (s : State) (d : Nat) :
    (State.deferSwap s d).except pt = s.except pt := by
  simp [State.deferSwap, ↓State.except_ite, hdsts, hflows, hmode, hparts]

@[simp] theorem State.decideSwap_except (pt : Field → Bool) (hdomains : pt .domains = true) (hdsts : pt .dsts = true) (hflows : pt
    .flows = true) (hmode : pt .mode = true) (hparts : pt .parts = true) (s : State) (d : Nat) :
    (State.decideSwap s d).except pt = s.except pt := by
  simp [State.decideSwap, ↓State.except_ite, hdomains, hdsts, hflows, hmode, hparts]

@[simp] theorem State.swapDecision_except (pt : Field → Bool) (hdomains : pt .domains = true) (hdsts : pt .dsts = true) (hflows : pt
    .flows = true) (hmode : pt .mode = true) (hparts : pt .parts = true) (htime : pt .time = true) (s : State) (d : Nat) :
    (State.swapDecision s d).except pt = s.except pt := by
  simp [State.swapDecision, ↓State.except_ite, hdomains, hdsts, hflows, hmode, hparts, htime]

@[simp] theorem State.rillStart_except (pt : Field → Bool) (s : State) (d : Nat) :
    (State.rillStart s d).except pt = s.except pt := by
  simp [State.rillStart]

@[simp] theorem State.sendStart_except (pt : Field → Bool) (hflows : pt .flows = true) (s : State) (d : Nat) :
    (State.sendStart s d).except pt = s.except pt := by
  simp [State.sendStart, hflows]

@[simp] theorem State.startOutputs_except (pt : Field → Bool) (hflows : pt .flows = true) (s : State) (d : Nat) :
    (State.startOutputs s d).except pt = s.except pt := by
  simp [State.startOutputs, ↓State.except_ite, hflows]

@[simp] theorem State.stormEnd_except (pt : Field → Bool) (htime : pt .time = true) (s : State) :
    (State.stormEnd s).except pt = s.except pt := by
  simp [State.stormEnd, ↓State.except_ite, htime]

@[simp] theorem State.gated_except (pt : Field → Bool) (s : State) (f : State → State) (h : ∀ t, (f t).except pt = t.except pt) :
    (State.gated s f).except pt = s.except pt := by
  unfold State.gated
  split
  · exact h s
  · rfl

@[simp] theorem State.ringOn_except (pt : Field → Bool)  (s : State) (n : Nat) :
    (State.ringOn s n).except pt = s.except pt := by
  simp [State.ringOn, ↓State.except_ite]

@[simp] theorem State.ringOff_except (pt : Field → Bool)  (s : State) (n : Nat) :
    (State.ringOff s n).except pt = s.except pt := by
  simp [State.ringOff, ↓State.except_ite]

@[simp] theorem State.ringEnable_except (pt : Field → Bool)  (s : State) (n : Nat) :
    (State.ringEnable s n).except pt = s.except pt := by
  simp [State.ringEnable]

@[simp] theorem State.ringDisable_except (pt : Field → Bool)  (s : State) (n : Nat) :
    (State.ringDisable s n).except pt = s.except pt := by
  simp [State.ringDisable]

@[simp] theorem State.ringDrained_except (pt : Field → Bool)  (s : State) (n : Nat) :
    (State.ringDrained s n).except pt = s.except pt := by
  simp [State.ringDrained, ↓State.except_ite]

@[simp] theorem State.bellReq_except (pt : Field → Bool)  (s : State) (n : Nat) (v : BitVec 32) :
    (State.bellReq s n v).except pt = s.except pt := by
  simp [State.bellReq, ↓State.except_ite]

@[simp] theorem State.bellRead_except (pt : Field → Bool)  (s : State) (n : Nat) (own : BitVec 16) (v : BitVec 32) :
    (State.bellRead s n own v).except pt = s.except pt := by
  simp [State.bellRead, ↓State.except_ite]

@[simp] theorem State.dbReq_except (pt : Field → Bool)  (s : State) (n : Nat) (v : BitVec 32) :
    (State.dbReq s n v).except pt = s.except pt := by
  simp [State.dbReq]

@[simp] theorem State.dbRpl_except (pt : Field → Bool)  (s : State) (n : Nat) (v : BitVec 32) :
    (State.dbRpl s n v).except pt = s.except pt := by
  simp [State.dbRpl, ↓State.except_ite]

@[simp] theorem State.dbEvt_except (pt : Field → Bool)  (s : State) (v : BitVec 32) :
    (State.dbEvt s v).except pt = s.except pt := by
  simp [State.dbEvt]

@[simp] theorem State.fetchError_except (pt : Field → Bool)  (s : State) (n verb : Nat) (r : Request) (staged : Bool) :
    (State.fetchError s n verb r staged).except pt = s.except pt := by
  simp [State.fetchError, ↓State.except_ite]

@[simp] theorem State.writeError_except (pt : Field → Bool)  (s : State) (n : Nat) :
    (State.writeError s n).except pt = s.except pt := by
  simp [State.writeError, ↓State.except_ite]

@[simp] theorem State.intEnable_except (pt : Field → Bool)  (s : State) (v : BitVec 32) :
    (State.intEnable s v).except pt = s.except pt := by
  simp [State.intEnable]

@[simp] theorem State.intEnableWrite_except (pt : Field → Bool)  (s : State) (v : BitVec 32) :
    (State.intEnableWrite s v).except pt = s.except pt := by
  simp [State.intEnableWrite]

@[simp] theorem State.holdoffExpiry_except (pt : Field → Bool) (htime : pt .time = true) (s : State) (v : Nat) :
    (State.holdoffExpiry s v).except pt = s.except pt := by
  simp [State.holdoffExpiry, ↓State.except_ite, htime]

@[simp] theorem State.latchFrame_except (pt : Field → Bool) (hdomains : pt .domains = true) (s : State) (o : Nat) :
    (State.latchFrame s o).except pt = s.except pt := by
  simp [State.latchFrame, ↓State.except_ite, hdomains]

@[simp] theorem State.frameLoRead_except (pt : Field → Bool) (hdomains : pt .domains = true) (s : State) (d : Nat) :
    (State.frameLoRead s d).except pt = s.except pt := by
  simp [State.frameLoRead, ↓State.except_ite, hdomains]

@[simp] theorem State.timeNsRead_except (pt : Field → Bool) (hhg : pt .hg = true) (s : State) :
    (State.timeNsRead s).except pt = s.except pt := by
  simp [State.timeNsRead, hhg]

@[simp] theorem State.incrNsRead_except (pt : Field → Bool) (hhg : pt .hg = true) (s : State) :
    (State.incrNsRead s).except pt = s.except pt := by
  simp [State.incrNsRead, hhg]

@[simp] theorem State.capNsRead_except (pt : Field → Bool) (hcaps : pt .caps = true) (s : State) (n : Nat) :
    (State.capNsRead s n).except pt = s.except pt := by
  simp [State.capNsRead, ↓State.except_ite, hcaps]

@[simp] theorem State.badAccess_except (pt : Field → Bool)  (s : State) (o : Nat) (write : Bool) :
    (State.badAccess s o write).except pt = s.except pt := by
  simp [State.badAccess]

@[simp] theorem State.svcOut_except (pt : Field → Bool) (hsvc : pt .svc = true) (s : State) (b : Bytes) :
    (State.svcOut s b).except pt = s.except pt := by
  simp [State.svcOut, hsvc]

@[simp] theorem State.svcStatus_except (pt : Field → Bool) (hsvc : pt .svc = true) (s : State) :
    (State.svcStatus s).except pt = s.except pt := by
  simp [State.svcStatus, ↓State.except_ite, hsvc]

@[simp] theorem State.svcFetch_except (pt : Field → Bool) (hsvc : pt .svc = true) (s : State) :
    (State.svcFetch s).except pt = s.except pt := by
  simp [State.svcFetch, ↓State.except_ite, hsvc]

@[simp] theorem State.ringFetchError_except (pt : Field → Bool)  (s : State) (n verb : Nat) (r : Request) :
    (State.ringFetchError s n verb r).except pt = s.except pt := by
  simp [State.ringFetchError]

@[simp] theorem State.idle_except (pt : Field → Bool) (htime : pt .time = true) (s : State) :
    (State.idle s).except pt = s.except pt := by
  simp [State.idle, htime]

end Sys2Proof.Machine
end

