-- ==== Sys2Proof/Laws/Reports.lean ====
section
/-! SUPPORT. What the operations that report leave alone: outputs, counters, alarms, interrupts, events, ring errors and replies. -/
namespace Sys2Proof.Machine

@[simp] theorem State.emit_time (s : State) (o : Out) : (s.emit o).time = s.time := rfl
@[simp] theorem State.emit_freeCtr (s : State) (o : Out) : (s.emit o).freeCtr = s.freeCtr := rfl
@[simp] theorem State.emit_pins (s : State) (o : Out) : (s.emit o).pins = s.pins := rfl
@[simp] theorem State.emit_mode (s : State) (o : Out) : (s.emit o).mode = s.mode := rfl
@[simp] theorem State.emit_rings (s : State) (o : Out) : (s.emit o).rings = s.rings := rfl
@[simp] theorem State.emit_ints (s : State) (o : Out) : (s.emit o).ints = s.ints := rfl
@[simp] theorem State.emit_events (s : State) (o : Out) : (s.emit o).events = s.events := rfl
@[simp] theorem State.emit_storm (s : State) (o : Out) : (s.emit o).storm = s.storm := rfl
@[simp] theorem State.emit_domains (s : State) (o : Out) : (s.emit o).domains = s.domains := rfl
@[simp] theorem State.emit_openSets (s : State) (o : Out) : (s.emit o).openSets = s.openSets := rfl
@[simp] theorem State.emit_parts (s : State) (o : Out) : (s.emit o).parts = s.parts := rfl
@[simp] theorem State.emit_partSeq (s : State) (o : Out) : (s.emit o).partSeq = s.partSeq := rfl
@[simp] theorem State.emit_fused (s : State) (o : Out) : (s.emit o).fused = s.fused := rfl
@[simp] theorem State.emit_repair (s : State) (o : Out) : (s.emit o).repair = s.repair := rfl
@[simp] theorem State.emit_counters (s : State) (o : Out) : (s.emit o).counters = s.counters := rfl
@[simp] theorem State.emit_alarms (s : State) (o : Out) : (s.emit o).alarms = s.alarms := rfl
@[simp] theorem State.emit_srcs (s : State) (o : Out) : (s.emit o).srcs = s.srcs := rfl
@[simp] theorem State.emit_dsts (s : State) (o : Out) : (s.emit o).dsts = s.dsts := rfl
@[simp] theorem State.emit_convs (s : State) (o : Out) : (s.emit o).convs = s.convs := rfl
@[simp] theorem State.emit_ains (s : State) (o : Out) : (s.emit o).ains = s.ains := rfl
@[simp] theorem State.emit_aouts (s : State) (o : Out) : (s.emit o).aouts = s.aouts := rfl
@[simp] theorem State.emit_aports (s : State) (o : Out) : (s.emit o).aports = s.aports := rfl
@[simp] theorem State.emit_lanes (s : State) (o : Out) : (s.emit o).lanes = s.lanes := rfl
@[simp] theorem State.emit_buses (s : State) (o : Out) : (s.emit o).buses = s.buses := rfl
@[simp] theorem State.emit_ports (s : State) (o : Out) : (s.emit o).ports = s.ports := rfl
@[simp] theorem State.emit_flows (s : State) (o : Out) : (s.emit o).flows = s.flows := rfl
@[simp] theorem State.emit_queues (s : State) (o : Out) : (s.emit o).queues = s.queues := rfl
@[simp] theorem State.emit_gates (s : State) (o : Out) : (s.emit o).gates = s.gates := rfl
@[simp] theorem State.emit_planes (s : State) (o : Out) : (s.emit o).planes = s.planes := rfl
@[simp] theorem State.emit_levee (s : State) (o : Out) : (s.emit o).levee = s.levee := rfl
@[simp] theorem State.emit_refs (s : State) (o : Out) : (s.emit o).refs = s.refs := rfl
@[simp] theorem State.emit_hg (s : State) (o : Out) : (s.emit o).hg = s.hg := rfl
@[simp] theorem State.emit_caps (s : State) (o : Out) : (s.emit o).caps = s.caps := rfl
@[simp] theorem State.emit_trigs (s : State) (o : Out) : (s.emit o).trigs = s.trigs := rfl
@[simp] theorem State.emit_stems (s : State) (o : Out) : (s.emit o).stems = s.stems := rfl
@[simp] theorem State.emit_rends (s : State) (o : Out) : (s.emit o).rends = s.rends := rfl
@[simp] theorem State.emit_delivs (s : State) (o : Out) : (s.emit o).delivs = s.delivs := rfl
@[simp] theorem State.emit_cores (s : State) (o : Out) : (s.emit o).cores = s.cores := rfl
@[simp] theorem State.emit_riders (s : State) (o : Out) : (s.emit o).riders = s.riders := rfl
@[simp] theorem State.emit_riderDev (s : State) (o : Out) : (s.emit o).riderDev = s.riderDev := rfl
@[simp] theorem State.emit_jobs (s : State) (o : Out) : (s.emit o).jobs = s.jobs := rfl
@[simp] theorem State.emit_jobSeq (s : State) (o : Out) : (s.emit o).jobSeq = s.jobSeq := rfl
@[simp] theorem State.emit_hostFlows (s : State) (o : Out) : (s.emit o).hostFlows = s.hostFlows := rfl
@[simp] theorem State.emit_ctxs (s : State) (o : Out) : (s.emit o).ctxs = s.ctxs := rfl
@[simp] theorem State.emit_heads (s : State) (o : Out) : (s.emit o).heads = s.heads := rfl
@[simp] theorem State.emit_layers (s : State) (o : Out) : (s.emit o).layers = s.layers := rfl
@[simp] theorem State.emit_readback (s : State) (o : Out) : (s.emit o).readback = s.readback := rfl
@[simp] theorem State.emit_culverts (s : State) (o : Out) : (s.emit o).culverts = s.culverts := rfl
@[simp] theorem State.emit_dramStacks (s : State) (o : Out) : (s.emit o).dramStacks = s.dramStacks := rfl
@[simp] theorem State.emit_rmem (s : State) (o : Out) : (s.emit o).rmem = s.rmem := rfl
@[simp] theorem State.emit_dram (s : State) (o : Out) : (s.emit o).dram = s.dram := rfl
@[simp] theorem State.emit_capStamps (s : State) (o : Out) : (s.emit o).capStamps = s.capStamps := rfl
@[simp] theorem State.emit_remap (s : State) (o : Out) : (s.emit o).remap = s.remap := rfl
@[simp] theorem State.emit_busReqs (s : State) (o : Out) : (s.emit o).busReqs = s.busReqs := rfl
@[simp] theorem State.emit_gauges (s : State) (o : Out) : (s.emit o).gauges = s.gauges := rfl
@[simp] theorem State.emit_thermal (s : State) (o : Out) : (s.emit o).thermal = s.thermal := rfl
@[simp] theorem State.emit_image (s : State) (o : Out) : (s.emit o).image = s.image := rfl
@[simp] theorem State.emit_saved (s : State) (o : Out) : (s.emit o).saved = s.saved := rfl
@[simp] theorem State.emit_cal (s : State) (o : Out) : (s.emit o).cal = s.cal := rfl
@[simp] theorem State.emit_svc (s : State) (o : Out) : (s.emit o).svc = s.svc := rfl
@[simp] theorem State.emit_jtag (s : State) (o : Out) : (s.emit o).jtag = s.jtag := rfl
@[simp] theorem State.emit_pending (s : State) (o : Out) : (s.emit o).pending = s.pending := rfl

@[simp] theorem State.hostWrite_time (s : State) (a : Nat) (b : Bytes) : (s.hostWrite a b).time = s.time := by
  unfold State.hostWrite; split <;> rfl
@[simp] theorem State.hostWrite_freeCtr (s : State) (a : Nat) (b : Bytes) : (s.hostWrite a b).freeCtr = s.freeCtr := by
  unfold State.hostWrite; split <;> rfl
@[simp] theorem State.hostWrite_pins (s : State) (a : Nat) (b : Bytes) : (s.hostWrite a b).pins = s.pins := by
  unfold State.hostWrite; split <;> rfl
@[simp] theorem State.hostWrite_mode (s : State) (a : Nat) (b : Bytes) : (s.hostWrite a b).mode = s.mode := by
  unfold State.hostWrite; split <;> rfl
@[simp] theorem State.hostWrite_rings (s : State) (a : Nat) (b : Bytes) : (s.hostWrite a b).rings = s.rings := by
  unfold State.hostWrite; split <;> rfl
@[simp] theorem State.hostWrite_ints (s : State) (a : Nat) (b : Bytes) : (s.hostWrite a b).ints = s.ints := by
  unfold State.hostWrite; split <;> rfl
@[simp] theorem State.hostWrite_events (s : State) (a : Nat) (b : Bytes) : (s.hostWrite a b).events = s.events := by
  unfold State.hostWrite; split <;> rfl
@[simp] theorem State.hostWrite_storm (s : State) (a : Nat) (b : Bytes) : (s.hostWrite a b).storm = s.storm := by
  unfold State.hostWrite; split <;> rfl
@[simp] theorem State.hostWrite_domains (s : State) (a : Nat) (b : Bytes) : (s.hostWrite a b).domains = s.domains := by
  unfold State.hostWrite; split <;> rfl
@[simp] theorem State.hostWrite_openSets (s : State) (a : Nat) (b : Bytes) : (s.hostWrite a b).openSets = s.openSets := by
  unfold State.hostWrite; split <;> rfl
@[simp] theorem State.hostWrite_parts (s : State) (a : Nat) (b : Bytes) : (s.hostWrite a b).parts = s.parts := by
  unfold State.hostWrite; split <;> rfl
@[simp] theorem State.hostWrite_partSeq (s : State) (a : Nat) (b : Bytes) : (s.hostWrite a b).partSeq = s.partSeq := by
  unfold State.hostWrite; split <;> rfl
@[simp] theorem State.hostWrite_fused (s : State) (a : Nat) (b : Bytes) : (s.hostWrite a b).fused = s.fused := by
  unfold State.hostWrite; split <;> rfl
@[simp] theorem State.hostWrite_repair (s : State) (a : Nat) (b : Bytes) : (s.hostWrite a b).repair = s.repair := by
  unfold State.hostWrite; split <;> rfl
@[simp] theorem State.hostWrite_counters (s : State) (a : Nat) (b : Bytes) : (s.hostWrite a b).counters = s.counters := by
  unfold State.hostWrite; split <;> rfl
@[simp] theorem State.hostWrite_alarms (s : State) (a : Nat) (b : Bytes) : (s.hostWrite a b).alarms = s.alarms := by
  unfold State.hostWrite; split <;> rfl
@[simp] theorem State.hostWrite_srcs (s : State) (a : Nat) (b : Bytes) : (s.hostWrite a b).srcs = s.srcs := by
  unfold State.hostWrite; split <;> rfl
@[simp] theorem State.hostWrite_dsts (s : State) (a : Nat) (b : Bytes) : (s.hostWrite a b).dsts = s.dsts := by
  unfold State.hostWrite; split <;> rfl
@[simp] theorem State.hostWrite_convs (s : State) (a : Nat) (b : Bytes) : (s.hostWrite a b).convs = s.convs := by
  unfold State.hostWrite; split <;> rfl
@[simp] theorem State.hostWrite_ains (s : State) (a : Nat) (b : Bytes) : (s.hostWrite a b).ains = s.ains := by
  unfold State.hostWrite; split <;> rfl
@[simp] theorem State.hostWrite_aouts (s : State) (a : Nat) (b : Bytes) : (s.hostWrite a b).aouts = s.aouts := by
  unfold State.hostWrite; split <;> rfl
@[simp] theorem State.hostWrite_aports (s : State) (a : Nat) (b : Bytes) : (s.hostWrite a b).aports = s.aports := by
  unfold State.hostWrite; split <;> rfl
@[simp] theorem State.hostWrite_lanes (s : State) (a : Nat) (b : Bytes) : (s.hostWrite a b).lanes = s.lanes := by
  unfold State.hostWrite; split <;> rfl
@[simp] theorem State.hostWrite_buses (s : State) (a : Nat) (b : Bytes) : (s.hostWrite a b).buses = s.buses := by
  unfold State.hostWrite; split <;> rfl
@[simp] theorem State.hostWrite_ports (s : State) (a : Nat) (b : Bytes) : (s.hostWrite a b).ports = s.ports := by
  unfold State.hostWrite; split <;> rfl
@[simp] theorem State.hostWrite_flows (s : State) (a : Nat) (b : Bytes) : (s.hostWrite a b).flows = s.flows := by
  unfold State.hostWrite; split <;> rfl
@[simp] theorem State.hostWrite_queues (s : State) (a : Nat) (b : Bytes) : (s.hostWrite a b).queues = s.queues := by
  unfold State.hostWrite; split <;> rfl
@[simp] theorem State.hostWrite_gates (s : State) (a : Nat) (b : Bytes) : (s.hostWrite a b).gates = s.gates := by
  unfold State.hostWrite; split <;> rfl
@[simp] theorem State.hostWrite_planes (s : State) (a : Nat) (b : Bytes) : (s.hostWrite a b).planes = s.planes := by
  unfold State.hostWrite; split <;> rfl
@[simp] theorem State.hostWrite_levee (s : State) (a : Nat) (b : Bytes) : (s.hostWrite a b).levee = s.levee := by
  unfold State.hostWrite; split <;> rfl
@[simp] theorem State.hostWrite_refs (s : State) (a : Nat) (b : Bytes) : (s.hostWrite a b).refs = s.refs := by
  unfold State.hostWrite; split <;> rfl
@[simp] theorem State.hostWrite_hg (s : State) (a : Nat) (b : Bytes) : (s.hostWrite a b).hg = s.hg := by
  unfold State.hostWrite; split <;> rfl
@[simp] theorem State.hostWrite_caps (s : State) (a : Nat) (b : Bytes) : (s.hostWrite a b).caps = s.caps := by
  unfold State.hostWrite; split <;> rfl
@[simp] theorem State.hostWrite_trigs (s : State) (a : Nat) (b : Bytes) : (s.hostWrite a b).trigs = s.trigs := by
  unfold State.hostWrite; split <;> rfl
@[simp] theorem State.hostWrite_stems (s : State) (a : Nat) (b : Bytes) : (s.hostWrite a b).stems = s.stems := by
  unfold State.hostWrite; split <;> rfl
@[simp] theorem State.hostWrite_rends (s : State) (a : Nat) (b : Bytes) : (s.hostWrite a b).rends = s.rends := by
  unfold State.hostWrite; split <;> rfl
@[simp] theorem State.hostWrite_delivs (s : State) (a : Nat) (b : Bytes) : (s.hostWrite a b).delivs = s.delivs := by
  unfold State.hostWrite; split <;> rfl
@[simp] theorem State.hostWrite_cores (s : State) (a : Nat) (b : Bytes) : (s.hostWrite a b).cores = s.cores := by
  unfold State.hostWrite; split <;> rfl
@[simp] theorem State.hostWrite_riders (s : State) (a : Nat) (b : Bytes) : (s.hostWrite a b).riders = s.riders := by
  unfold State.hostWrite; split <;> rfl
@[simp] theorem State.hostWrite_riderDev (s : State) (a : Nat) (b : Bytes) : (s.hostWrite a b).riderDev = s.riderDev := by
  unfold State.hostWrite; split <;> rfl
@[simp] theorem State.hostWrite_jobs (s : State) (a : Nat) (b : Bytes) : (s.hostWrite a b).jobs = s.jobs := by
  unfold State.hostWrite; split <;> rfl
@[simp] theorem State.hostWrite_jobSeq (s : State) (a : Nat) (b : Bytes) : (s.hostWrite a b).jobSeq = s.jobSeq := by
  unfold State.hostWrite; split <;> rfl
@[simp] theorem State.hostWrite_hostFlows (s : State) (a : Nat) (b : Bytes) : (s.hostWrite a b).hostFlows = s.hostFlows := by
  unfold State.hostWrite; split <;> rfl
@[simp] theorem State.hostWrite_ctxs (s : State) (a : Nat) (b : Bytes) : (s.hostWrite a b).ctxs = s.ctxs := by
  unfold State.hostWrite; split <;> rfl
@[simp] theorem State.hostWrite_heads (s : State) (a : Nat) (b : Bytes) : (s.hostWrite a b).heads = s.heads := by
  unfold State.hostWrite; split <;> rfl
@[simp] theorem State.hostWrite_layers (s : State) (a : Nat) (b : Bytes) : (s.hostWrite a b).layers = s.layers := by
  unfold State.hostWrite; split <;> rfl
@[simp] theorem State.hostWrite_readback (s : State) (a : Nat) (b : Bytes) : (s.hostWrite a b).readback = s.readback := by
  unfold State.hostWrite; split <;> rfl
@[simp] theorem State.hostWrite_culverts (s : State) (a : Nat) (b : Bytes) : (s.hostWrite a b).culverts = s.culverts := by
  unfold State.hostWrite; split <;> rfl
@[simp] theorem State.hostWrite_dramStacks (s : State) (a : Nat) (b : Bytes) : (s.hostWrite a b).dramStacks = s.dramStacks := by
  unfold State.hostWrite; split <;> rfl
@[simp] theorem State.hostWrite_rmem (s : State) (a : Nat) (b : Bytes) : (s.hostWrite a b).rmem = s.rmem := by
  unfold State.hostWrite; split <;> rfl
@[simp] theorem State.hostWrite_dram (s : State) (a : Nat) (b : Bytes) : (s.hostWrite a b).dram = s.dram := by
  unfold State.hostWrite; split <;> rfl
@[simp] theorem State.hostWrite_capStamps (s : State) (a : Nat) (b : Bytes) : (s.hostWrite a b).capStamps = s.capStamps := by
  unfold State.hostWrite; split <;> rfl
@[simp] theorem State.hostWrite_remap (s : State) (a : Nat) (b : Bytes) : (s.hostWrite a b).remap = s.remap := by
  unfold State.hostWrite; split <;> rfl
@[simp] theorem State.hostWrite_busReqs (s : State) (a : Nat) (b : Bytes) : (s.hostWrite a b).busReqs = s.busReqs := by
  unfold State.hostWrite; split <;> rfl
@[simp] theorem State.hostWrite_gauges (s : State) (a : Nat) (b : Bytes) : (s.hostWrite a b).gauges = s.gauges := by
  unfold State.hostWrite; split <;> rfl
@[simp] theorem State.hostWrite_thermal (s : State) (a : Nat) (b : Bytes) : (s.hostWrite a b).thermal = s.thermal := by
  unfold State.hostWrite; split <;> rfl
@[simp] theorem State.hostWrite_image (s : State) (a : Nat) (b : Bytes) : (s.hostWrite a b).image = s.image := by
  unfold State.hostWrite; split <;> rfl
@[simp] theorem State.hostWrite_saved (s : State) (a : Nat) (b : Bytes) : (s.hostWrite a b).saved = s.saved := by
  unfold State.hostWrite; split <;> rfl
@[simp] theorem State.hostWrite_cal (s : State) (a : Nat) (b : Bytes) : (s.hostWrite a b).cal = s.cal := by
  unfold State.hostWrite; split <;> rfl
@[simp] theorem State.hostWrite_svc (s : State) (a : Nat) (b : Bytes) : (s.hostWrite a b).svc = s.svc := by
  unfold State.hostWrite; split <;> rfl
@[simp] theorem State.hostWrite_jtag (s : State) (a : Nat) (b : Bytes) : (s.hostWrite a b).jtag = s.jtag := by
  unfold State.hostWrite; split <;> rfl
@[simp] theorem State.hostWrite_pending (s : State) (a : Nat) (b : Bytes) : (s.hostWrite a b).pending = s.pending := by
  unfold State.hostWrite; split <;> rfl

@[simp] theorem State.count_time (s : State) (id u n : Nat) : (s.count id u n).time = s.time := rfl
@[simp] theorem State.count_freeCtr (s : State) (id u n : Nat) : (s.count id u n).freeCtr = s.freeCtr := rfl
@[simp] theorem State.count_out (s : State) (id u n : Nat) : (s.count id u n).out = s.out := rfl
@[simp] theorem State.count_pins (s : State) (id u n : Nat) : (s.count id u n).pins = s.pins := rfl
@[simp] theorem State.count_mode (s : State) (id u n : Nat) : (s.count id u n).mode = s.mode := rfl
@[simp] theorem State.count_rings (s : State) (id u n : Nat) : (s.count id u n).rings = s.rings := rfl
@[simp] theorem State.count_ints (s : State) (id u n : Nat) : (s.count id u n).ints = s.ints := rfl
@[simp] theorem State.count_events (s : State) (id u n : Nat) : (s.count id u n).events = s.events := rfl
@[simp] theorem State.count_storm (s : State) (id u n : Nat) : (s.count id u n).storm = s.storm := rfl
@[simp] theorem State.count_domains (s : State) (id u n : Nat) : (s.count id u n).domains = s.domains := rfl
@[simp] theorem State.count_openSets (s : State) (id u n : Nat) : (s.count id u n).openSets = s.openSets := rfl
@[simp] theorem State.count_parts (s : State) (id u n : Nat) : (s.count id u n).parts = s.parts := rfl
@[simp] theorem State.count_partSeq (s : State) (id u n : Nat) : (s.count id u n).partSeq = s.partSeq := rfl
@[simp] theorem State.count_fused (s : State) (id u n : Nat) : (s.count id u n).fused = s.fused := rfl
@[simp] theorem State.count_repair (s : State) (id u n : Nat) : (s.count id u n).repair = s.repair := rfl
@[simp] theorem State.count_alarms (s : State) (id u n : Nat) : (s.count id u n).alarms = s.alarms := rfl
@[simp] theorem State.count_srcs (s : State) (id u n : Nat) : (s.count id u n).srcs = s.srcs := rfl
@[simp] theorem State.count_dsts (s : State) (id u n : Nat) : (s.count id u n).dsts = s.dsts := rfl
@[simp] theorem State.count_convs (s : State) (id u n : Nat) : (s.count id u n).convs = s.convs := rfl
@[simp] theorem State.count_ains (s : State) (id u n : Nat) : (s.count id u n).ains = s.ains := rfl
@[simp] theorem State.count_aouts (s : State) (id u n : Nat) : (s.count id u n).aouts = s.aouts := rfl
@[simp] theorem State.count_aports (s : State) (id u n : Nat) : (s.count id u n).aports = s.aports := rfl
@[simp] theorem State.count_lanes (s : State) (id u n : Nat) : (s.count id u n).lanes = s.lanes := rfl
@[simp] theorem State.count_buses (s : State) (id u n : Nat) : (s.count id u n).buses = s.buses := rfl
@[simp] theorem State.count_ports (s : State) (id u n : Nat) : (s.count id u n).ports = s.ports := rfl
@[simp] theorem State.count_flows (s : State) (id u n : Nat) : (s.count id u n).flows = s.flows := rfl
@[simp] theorem State.count_queues (s : State) (id u n : Nat) : (s.count id u n).queues = s.queues := rfl
@[simp] theorem State.count_gates (s : State) (id u n : Nat) : (s.count id u n).gates = s.gates := rfl
@[simp] theorem State.count_planes (s : State) (id u n : Nat) : (s.count id u n).planes = s.planes := rfl
@[simp] theorem State.count_levee (s : State) (id u n : Nat) : (s.count id u n).levee = s.levee := rfl
@[simp] theorem State.count_refs (s : State) (id u n : Nat) : (s.count id u n).refs = s.refs := rfl
@[simp] theorem State.count_hg (s : State) (id u n : Nat) : (s.count id u n).hg = s.hg := rfl
@[simp] theorem State.count_caps (s : State) (id u n : Nat) : (s.count id u n).caps = s.caps := rfl
@[simp] theorem State.count_trigs (s : State) (id u n : Nat) : (s.count id u n).trigs = s.trigs := rfl
@[simp] theorem State.count_stems (s : State) (id u n : Nat) : (s.count id u n).stems = s.stems := rfl
@[simp] theorem State.count_rends (s : State) (id u n : Nat) : (s.count id u n).rends = s.rends := rfl
@[simp] theorem State.count_delivs (s : State) (id u n : Nat) : (s.count id u n).delivs = s.delivs := rfl
@[simp] theorem State.count_cores (s : State) (id u n : Nat) : (s.count id u n).cores = s.cores := rfl
@[simp] theorem State.count_riders (s : State) (id u n : Nat) : (s.count id u n).riders = s.riders := rfl
@[simp] theorem State.count_riderDev (s : State) (id u n : Nat) : (s.count id u n).riderDev = s.riderDev := rfl
@[simp] theorem State.count_jobs (s : State) (id u n : Nat) : (s.count id u n).jobs = s.jobs := rfl
@[simp] theorem State.count_jobSeq (s : State) (id u n : Nat) : (s.count id u n).jobSeq = s.jobSeq := rfl
@[simp] theorem State.count_hostFlows (s : State) (id u n : Nat) : (s.count id u n).hostFlows = s.hostFlows := rfl
@[simp] theorem State.count_ctxs (s : State) (id u n : Nat) : (s.count id u n).ctxs = s.ctxs := rfl
@[simp] theorem State.count_heads (s : State) (id u n : Nat) : (s.count id u n).heads = s.heads := rfl
@[simp] theorem State.count_layers (s : State) (id u n : Nat) : (s.count id u n).layers = s.layers := rfl
@[simp] theorem State.count_readback (s : State) (id u n : Nat) : (s.count id u n).readback = s.readback := rfl
@[simp] theorem State.count_culverts (s : State) (id u n : Nat) : (s.count id u n).culverts = s.culverts := rfl
@[simp] theorem State.count_dramStacks (s : State) (id u n : Nat) : (s.count id u n).dramStacks = s.dramStacks := rfl
@[simp] theorem State.count_rmem (s : State) (id u n : Nat) : (s.count id u n).rmem = s.rmem := rfl
@[simp] theorem State.count_dram (s : State) (id u n : Nat) : (s.count id u n).dram = s.dram := rfl
@[simp] theorem State.count_capStamps (s : State) (id u n : Nat) : (s.count id u n).capStamps = s.capStamps := rfl
@[simp] theorem State.count_remap (s : State) (id u n : Nat) : (s.count id u n).remap = s.remap := rfl
@[simp] theorem State.count_busReqs (s : State) (id u n : Nat) : (s.count id u n).busReqs = s.busReqs := rfl
@[simp] theorem State.count_gauges (s : State) (id u n : Nat) : (s.count id u n).gauges = s.gauges := rfl
@[simp] theorem State.count_thermal (s : State) (id u n : Nat) : (s.count id u n).thermal = s.thermal := rfl
@[simp] theorem State.count_image (s : State) (id u n : Nat) : (s.count id u n).image = s.image := rfl
@[simp] theorem State.count_saved (s : State) (id u n : Nat) : (s.count id u n).saved = s.saved := rfl
@[simp] theorem State.count_cal (s : State) (id u n : Nat) : (s.count id u n).cal = s.cal := rfl
@[simp] theorem State.count_svc (s : State) (id u n : Nat) : (s.count id u n).svc = s.svc := rfl
@[simp] theorem State.count_jtag (s : State) (id u n : Nat) : (s.count id u n).jtag = s.jtag := rfl
@[simp] theorem State.count_pending (s : State) (id u n : Nat) : (s.count id u n).pending = s.pending := rfl

@[simp] theorem State.cntClear_time (s : State) (id u : Nat) : (s.cntClear id u).time = s.time := rfl
@[simp] theorem State.cntClear_freeCtr (s : State) (id u : Nat) : (s.cntClear id u).freeCtr = s.freeCtr := rfl
@[simp] theorem State.cntClear_out (s : State) (id u : Nat) : (s.cntClear id u).out = s.out := rfl
@[simp] theorem State.cntClear_pins (s : State) (id u : Nat) : (s.cntClear id u).pins = s.pins := rfl
@[simp] theorem State.cntClear_mode (s : State) (id u : Nat) : (s.cntClear id u).mode = s.mode := rfl
@[simp] theorem State.cntClear_rings (s : State) (id u : Nat) : (s.cntClear id u).rings = s.rings := rfl
@[simp] theorem State.cntClear_ints (s : State) (id u : Nat) : (s.cntClear id u).ints = s.ints := rfl
@[simp] theorem State.cntClear_events (s : State) (id u : Nat) : (s.cntClear id u).events = s.events := rfl
@[simp] theorem State.cntClear_storm (s : State) (id u : Nat) : (s.cntClear id u).storm = s.storm := rfl
@[simp] theorem State.cntClear_domains (s : State) (id u : Nat) : (s.cntClear id u).domains = s.domains := rfl
@[simp] theorem State.cntClear_openSets (s : State) (id u : Nat) : (s.cntClear id u).openSets = s.openSets := rfl
@[simp] theorem State.cntClear_parts (s : State) (id u : Nat) : (s.cntClear id u).parts = s.parts := rfl
@[simp] theorem State.cntClear_partSeq (s : State) (id u : Nat) : (s.cntClear id u).partSeq = s.partSeq := rfl
@[simp] theorem State.cntClear_fused (s : State) (id u : Nat) : (s.cntClear id u).fused = s.fused := rfl
@[simp] theorem State.cntClear_repair (s : State) (id u : Nat) : (s.cntClear id u).repair = s.repair := rfl
@[simp] theorem State.cntClear_alarms (s : State) (id u : Nat) : (s.cntClear id u).alarms = s.alarms := rfl
@[simp] theorem State.cntClear_srcs (s : State) (id u : Nat) : (s.cntClear id u).srcs = s.srcs := rfl
@[simp] theorem State.cntClear_dsts (s : State) (id u : Nat) : (s.cntClear id u).dsts = s.dsts := rfl
@[simp] theorem State.cntClear_convs (s : State) (id u : Nat) : (s.cntClear id u).convs = s.convs := rfl
@[simp] theorem State.cntClear_ains (s : State) (id u : Nat) : (s.cntClear id u).ains = s.ains := rfl
@[simp] theorem State.cntClear_aouts (s : State) (id u : Nat) : (s.cntClear id u).aouts = s.aouts := rfl
@[simp] theorem State.cntClear_aports (s : State) (id u : Nat) : (s.cntClear id u).aports = s.aports := rfl
@[simp] theorem State.cntClear_lanes (s : State) (id u : Nat) : (s.cntClear id u).lanes = s.lanes := rfl
@[simp] theorem State.cntClear_buses (s : State) (id u : Nat) : (s.cntClear id u).buses = s.buses := rfl
@[simp] theorem State.cntClear_ports (s : State) (id u : Nat) : (s.cntClear id u).ports = s.ports := rfl
@[simp] theorem State.cntClear_flows (s : State) (id u : Nat) : (s.cntClear id u).flows = s.flows := rfl
@[simp] theorem State.cntClear_queues (s : State) (id u : Nat) : (s.cntClear id u).queues = s.queues := rfl
@[simp] theorem State.cntClear_gates (s : State) (id u : Nat) : (s.cntClear id u).gates = s.gates := rfl
@[simp] theorem State.cntClear_planes (s : State) (id u : Nat) : (s.cntClear id u).planes = s.planes := rfl
@[simp] theorem State.cntClear_levee (s : State) (id u : Nat) : (s.cntClear id u).levee = s.levee := rfl
@[simp] theorem State.cntClear_refs (s : State) (id u : Nat) : (s.cntClear id u).refs = s.refs := rfl
@[simp] theorem State.cntClear_hg (s : State) (id u : Nat) : (s.cntClear id u).hg = s.hg := rfl
@[simp] theorem State.cntClear_caps (s : State) (id u : Nat) : (s.cntClear id u).caps = s.caps := rfl
@[simp] theorem State.cntClear_trigs (s : State) (id u : Nat) : (s.cntClear id u).trigs = s.trigs := rfl
@[simp] theorem State.cntClear_stems (s : State) (id u : Nat) : (s.cntClear id u).stems = s.stems := rfl
@[simp] theorem State.cntClear_rends (s : State) (id u : Nat) : (s.cntClear id u).rends = s.rends := rfl
@[simp] theorem State.cntClear_delivs (s : State) (id u : Nat) : (s.cntClear id u).delivs = s.delivs := rfl
@[simp] theorem State.cntClear_cores (s : State) (id u : Nat) : (s.cntClear id u).cores = s.cores := rfl
@[simp] theorem State.cntClear_riders (s : State) (id u : Nat) : (s.cntClear id u).riders = s.riders := rfl
@[simp] theorem State.cntClear_riderDev (s : State) (id u : Nat) : (s.cntClear id u).riderDev = s.riderDev := rfl
@[simp] theorem State.cntClear_jobs (s : State) (id u : Nat) : (s.cntClear id u).jobs = s.jobs := rfl
@[simp] theorem State.cntClear_jobSeq (s : State) (id u : Nat) : (s.cntClear id u).jobSeq = s.jobSeq := rfl
@[simp] theorem State.cntClear_hostFlows (s : State) (id u : Nat) : (s.cntClear id u).hostFlows = s.hostFlows := rfl
@[simp] theorem State.cntClear_ctxs (s : State) (id u : Nat) : (s.cntClear id u).ctxs = s.ctxs := rfl
@[simp] theorem State.cntClear_heads (s : State) (id u : Nat) : (s.cntClear id u).heads = s.heads := rfl
@[simp] theorem State.cntClear_layers (s : State) (id u : Nat) : (s.cntClear id u).layers = s.layers := rfl
@[simp] theorem State.cntClear_readback (s : State) (id u : Nat) : (s.cntClear id u).readback = s.readback := rfl
@[simp] theorem State.cntClear_culverts (s : State) (id u : Nat) : (s.cntClear id u).culverts = s.culverts := rfl
@[simp] theorem State.cntClear_dramStacks (s : State) (id u : Nat) : (s.cntClear id u).dramStacks = s.dramStacks := rfl
@[simp] theorem State.cntClear_rmem (s : State) (id u : Nat) : (s.cntClear id u).rmem = s.rmem := rfl
@[simp] theorem State.cntClear_dram (s : State) (id u : Nat) : (s.cntClear id u).dram = s.dram := rfl
@[simp] theorem State.cntClear_capStamps (s : State) (id u : Nat) : (s.cntClear id u).capStamps = s.capStamps := rfl
@[simp] theorem State.cntClear_remap (s : State) (id u : Nat) : (s.cntClear id u).remap = s.remap := rfl
@[simp] theorem State.cntClear_busReqs (s : State) (id u : Nat) : (s.cntClear id u).busReqs = s.busReqs := rfl
@[simp] theorem State.cntClear_gauges (s : State) (id u : Nat) : (s.cntClear id u).gauges = s.gauges := rfl
@[simp] theorem State.cntClear_thermal (s : State) (id u : Nat) : (s.cntClear id u).thermal = s.thermal := rfl
@[simp] theorem State.cntClear_image (s : State) (id u : Nat) : (s.cntClear id u).image = s.image := rfl
@[simp] theorem State.cntClear_saved (s : State) (id u : Nat) : (s.cntClear id u).saved = s.saved := rfl
@[simp] theorem State.cntClear_cal (s : State) (id u : Nat) : (s.cntClear id u).cal = s.cal := rfl
@[simp] theorem State.cntClear_svc (s : State) (id u : Nat) : (s.cntClear id u).svc = s.svc := rfl
@[simp] theorem State.cntClear_jtag (s : State) (id u : Nat) : (s.cntClear id u).jtag = s.jtag := rfl
@[simp] theorem State.cntClear_pending (s : State) (id u : Nat) : (s.cntClear id u).pending = s.pending := rfl

@[simp] theorem State.modAlarm_time (s : State) (id u : Nat) (f : AlarmSt → AlarmSt) : (s.modAlarm id u f).time = s.time := rfl
@[simp] theorem State.modAlarm_freeCtr (s : State) (id u : Nat) (f : AlarmSt → AlarmSt) : (s.modAlarm id u f).freeCtr = s.freeCtr := rfl
@[simp] theorem State.modAlarm_out (s : State) (id u : Nat) (f : AlarmSt → AlarmSt) : (s.modAlarm id u f).out = s.out := rfl
@[simp] theorem State.modAlarm_pins (s : State) (id u : Nat) (f : AlarmSt → AlarmSt) : (s.modAlarm id u f).pins = s.pins := rfl
@[simp] theorem State.modAlarm_mode (s : State) (id u : Nat) (f : AlarmSt → AlarmSt) : (s.modAlarm id u f).mode = s.mode := rfl
@[simp] theorem State.modAlarm_rings (s : State) (id u : Nat) (f : AlarmSt → AlarmSt) : (s.modAlarm id u f).rings = s.rings := rfl
@[simp] theorem State.modAlarm_ints (s : State) (id u : Nat) (f : AlarmSt → AlarmSt) : (s.modAlarm id u f).ints = s.ints := rfl
@[simp] theorem State.modAlarm_events (s : State) (id u : Nat) (f : AlarmSt → AlarmSt) : (s.modAlarm id u f).events = s.events := rfl
@[simp] theorem State.modAlarm_storm (s : State) (id u : Nat) (f : AlarmSt → AlarmSt) : (s.modAlarm id u f).storm = s.storm := rfl
@[simp] theorem State.modAlarm_domains (s : State) (id u : Nat) (f : AlarmSt → AlarmSt) : (s.modAlarm id u f).domains = s.domains := rfl
@[simp] theorem State.modAlarm_openSets (s : State) (id u : Nat) (f : AlarmSt → AlarmSt) : (s.modAlarm id u f).openSets = s.openSets := rfl
@[simp] theorem State.modAlarm_parts (s : State) (id u : Nat) (f : AlarmSt → AlarmSt) : (s.modAlarm id u f).parts = s.parts := rfl
@[simp] theorem State.modAlarm_partSeq (s : State) (id u : Nat) (f : AlarmSt → AlarmSt) : (s.modAlarm id u f).partSeq = s.partSeq := rfl
@[simp] theorem State.modAlarm_fused (s : State) (id u : Nat) (f : AlarmSt → AlarmSt) : (s.modAlarm id u f).fused = s.fused := rfl
@[simp] theorem State.modAlarm_repair (s : State) (id u : Nat) (f : AlarmSt → AlarmSt) : (s.modAlarm id u f).repair = s.repair := rfl
@[simp] theorem State.modAlarm_counters (s : State) (id u : Nat) (f : AlarmSt → AlarmSt) : (s.modAlarm id u f).counters = s.counters := rfl
@[simp] theorem State.modAlarm_srcs (s : State) (id u : Nat) (f : AlarmSt → AlarmSt) : (s.modAlarm id u f).srcs = s.srcs := rfl
@[simp] theorem State.modAlarm_dsts (s : State) (id u : Nat) (f : AlarmSt → AlarmSt) : (s.modAlarm id u f).dsts = s.dsts := rfl
@[simp] theorem State.modAlarm_convs (s : State) (id u : Nat) (f : AlarmSt → AlarmSt) : (s.modAlarm id u f).convs = s.convs := rfl
@[simp] theorem State.modAlarm_ains (s : State) (id u : Nat) (f : AlarmSt → AlarmSt) : (s.modAlarm id u f).ains = s.ains := rfl
@[simp] theorem State.modAlarm_aouts (s : State) (id u : Nat) (f : AlarmSt → AlarmSt) : (s.modAlarm id u f).aouts = s.aouts := rfl
@[simp] theorem State.modAlarm_aports (s : State) (id u : Nat) (f : AlarmSt → AlarmSt) : (s.modAlarm id u f).aports = s.aports := rfl
@[simp] theorem State.modAlarm_lanes (s : State) (id u : Nat) (f : AlarmSt → AlarmSt) : (s.modAlarm id u f).lanes = s.lanes := rfl
@[simp] theorem State.modAlarm_buses (s : State) (id u : Nat) (f : AlarmSt → AlarmSt) : (s.modAlarm id u f).buses = s.buses := rfl
@[simp] theorem State.modAlarm_ports (s : State) (id u : Nat) (f : AlarmSt → AlarmSt) : (s.modAlarm id u f).ports = s.ports := rfl
@[simp] theorem State.modAlarm_flows (s : State) (id u : Nat) (f : AlarmSt → AlarmSt) : (s.modAlarm id u f).flows = s.flows := rfl
@[simp] theorem State.modAlarm_queues (s : State) (id u : Nat) (f : AlarmSt → AlarmSt) : (s.modAlarm id u f).queues = s.queues := rfl
@[simp] theorem State.modAlarm_gates (s : State) (id u : Nat) (f : AlarmSt → AlarmSt) : (s.modAlarm id u f).gates = s.gates := rfl
@[simp] theorem State.modAlarm_planes (s : State) (id u : Nat) (f : AlarmSt → AlarmSt) : (s.modAlarm id u f).planes = s.planes := rfl
@[simp] theorem State.modAlarm_levee (s : State) (id u : Nat) (f : AlarmSt → AlarmSt) : (s.modAlarm id u f).levee = s.levee := rfl
@[simp] theorem State.modAlarm_refs (s : State) (id u : Nat) (f : AlarmSt → AlarmSt) : (s.modAlarm id u f).refs = s.refs := rfl
@[simp] theorem State.modAlarm_hg (s : State) (id u : Nat) (f : AlarmSt → AlarmSt) : (s.modAlarm id u f).hg = s.hg := rfl
@[simp] theorem State.modAlarm_caps (s : State) (id u : Nat) (f : AlarmSt → AlarmSt) : (s.modAlarm id u f).caps = s.caps := rfl
@[simp] theorem State.modAlarm_trigs (s : State) (id u : Nat) (f : AlarmSt → AlarmSt) : (s.modAlarm id u f).trigs = s.trigs := rfl
@[simp] theorem State.modAlarm_stems (s : State) (id u : Nat) (f : AlarmSt → AlarmSt) : (s.modAlarm id u f).stems = s.stems := rfl
@[simp] theorem State.modAlarm_rends (s : State) (id u : Nat) (f : AlarmSt → AlarmSt) : (s.modAlarm id u f).rends = s.rends := rfl
@[simp] theorem State.modAlarm_delivs (s : State) (id u : Nat) (f : AlarmSt → AlarmSt) : (s.modAlarm id u f).delivs = s.delivs := rfl
@[simp] theorem State.modAlarm_cores (s : State) (id u : Nat) (f : AlarmSt → AlarmSt) : (s.modAlarm id u f).cores = s.cores := rfl
@[simp] theorem State.modAlarm_riders (s : State) (id u : Nat) (f : AlarmSt → AlarmSt) : (s.modAlarm id u f).riders = s.riders := rfl
@[simp] theorem State.modAlarm_riderDev (s : State) (id u : Nat) (f : AlarmSt → AlarmSt) : (s.modAlarm id u f).riderDev = s.riderDev := rfl
@[simp] theorem State.modAlarm_jobs (s : State) (id u : Nat) (f : AlarmSt → AlarmSt) : (s.modAlarm id u f).jobs = s.jobs := rfl
@[simp] theorem State.modAlarm_jobSeq (s : State) (id u : Nat) (f : AlarmSt → AlarmSt) : (s.modAlarm id u f).jobSeq = s.jobSeq := rfl
@[simp] theorem State.modAlarm_hostFlows (s : State) (id u : Nat) (f : AlarmSt → AlarmSt) : (s.modAlarm id u f).hostFlows = s.hostFlows := rfl
@[simp] theorem State.modAlarm_ctxs (s : State) (id u : Nat) (f : AlarmSt → AlarmSt) : (s.modAlarm id u f).ctxs = s.ctxs := rfl
@[simp] theorem State.modAlarm_heads (s : State) (id u : Nat) (f : AlarmSt → AlarmSt) : (s.modAlarm id u f).heads = s.heads := rfl
@[simp] theorem State.modAlarm_layers (s : State) (id u : Nat) (f : AlarmSt → AlarmSt) : (s.modAlarm id u f).layers = s.layers := rfl
@[simp] theorem State.modAlarm_readback (s : State) (id u : Nat) (f : AlarmSt → AlarmSt) : (s.modAlarm id u f).readback = s.readback := rfl
@[simp] theorem State.modAlarm_culverts (s : State) (id u : Nat) (f : AlarmSt → AlarmSt) : (s.modAlarm id u f).culverts = s.culverts := rfl
@[simp] theorem State.modAlarm_dramStacks (s : State) (id u : Nat) (f : AlarmSt → AlarmSt) : (s.modAlarm id u f).dramStacks = s.dramStacks := rfl
@[simp] theorem State.modAlarm_rmem (s : State) (id u : Nat) (f : AlarmSt → AlarmSt) : (s.modAlarm id u f).rmem = s.rmem := rfl
@[simp] theorem State.modAlarm_dram (s : State) (id u : Nat) (f : AlarmSt → AlarmSt) : (s.modAlarm id u f).dram = s.dram := rfl
@[simp] theorem State.modAlarm_capStamps (s : State) (id u : Nat) (f : AlarmSt → AlarmSt) : (s.modAlarm id u f).capStamps = s.capStamps := rfl
@[simp] theorem State.modAlarm_remap (s : State) (id u : Nat) (f : AlarmSt → AlarmSt) : (s.modAlarm id u f).remap = s.remap := rfl
@[simp] theorem State.modAlarm_busReqs (s : State) (id u : Nat) (f : AlarmSt → AlarmSt) : (s.modAlarm id u f).busReqs = s.busReqs := rfl
@[simp] theorem State.modAlarm_gauges (s : State) (id u : Nat) (f : AlarmSt → AlarmSt) : (s.modAlarm id u f).gauges = s.gauges := rfl
@[simp] theorem State.modAlarm_thermal (s : State) (id u : Nat) (f : AlarmSt → AlarmSt) : (s.modAlarm id u f).thermal = s.thermal := rfl
@[simp] theorem State.modAlarm_image (s : State) (id u : Nat) (f : AlarmSt → AlarmSt) : (s.modAlarm id u f).image = s.image := rfl
@[simp] theorem State.modAlarm_saved (s : State) (id u : Nat) (f : AlarmSt → AlarmSt) : (s.modAlarm id u f).saved = s.saved := rfl
@[simp] theorem State.modAlarm_cal (s : State) (id u : Nat) (f : AlarmSt → AlarmSt) : (s.modAlarm id u f).cal = s.cal := rfl
@[simp] theorem State.modAlarm_svc (s : State) (id u : Nat) (f : AlarmSt → AlarmSt) : (s.modAlarm id u f).svc = s.svc := rfl
@[simp] theorem State.modAlarm_jtag (s : State) (id u : Nat) (f : AlarmSt → AlarmSt) : (s.modAlarm id u f).jtag = s.jtag := rfl
@[simp] theorem State.modAlarm_pending (s : State) (id u : Nat) (f : AlarmSt → AlarmSt) : (s.modAlarm id u f).pending = s.pending := rfl

@[simp] theorem State.message_time (s : State) (v : Nat) : (s.message v).time = s.time := by
  unfold State.message; dsimp only; repeat' split
  all_goals rfl
@[simp] theorem State.message_freeCtr (s : State) (v : Nat) : (s.message v).freeCtr = s.freeCtr := by
  unfold State.message; dsimp only; repeat' split
  all_goals rfl
@[simp] theorem State.message_pins (s : State) (v : Nat) : (s.message v).pins = s.pins := by
  unfold State.message; dsimp only; repeat' split
  all_goals rfl
@[simp] theorem State.message_mode (s : State) (v : Nat) : (s.message v).mode = s.mode := by
  unfold State.message; dsimp only; repeat' split
  all_goals rfl
@[simp] theorem State.message_rings (s : State) (v : Nat) : (s.message v).rings = s.rings := by
  unfold State.message; dsimp only; repeat' split
  all_goals rfl
@[simp] theorem State.message_events (s : State) (v : Nat) : (s.message v).events = s.events := by
  unfold State.message; dsimp only; repeat' split
  all_goals rfl
@[simp] theorem State.message_storm (s : State) (v : Nat) : (s.message v).storm = s.storm := by
  unfold State.message; dsimp only; repeat' split
  all_goals rfl
@[simp] theorem State.message_domains (s : State) (v : Nat) : (s.message v).domains = s.domains := by
  unfold State.message; dsimp only; repeat' split
  all_goals rfl
@[simp] theorem State.message_openSets (s : State) (v : Nat) : (s.message v).openSets = s.openSets := by
  unfold State.message; dsimp only; repeat' split
  all_goals rfl
@[simp] theorem State.message_parts (s : State) (v : Nat) : (s.message v).parts = s.parts := by
  unfold State.message; dsimp only; repeat' split
  all_goals rfl
@[simp] theorem State.message_partSeq (s : State) (v : Nat) : (s.message v).partSeq = s.partSeq := by
  unfold State.message; dsimp only; repeat' split
  all_goals rfl
@[simp] theorem State.message_fused (s : State) (v : Nat) : (s.message v).fused = s.fused := by
  unfold State.message; dsimp only; repeat' split
  all_goals rfl
@[simp] theorem State.message_repair (s : State) (v : Nat) : (s.message v).repair = s.repair := by
  unfold State.message; dsimp only; repeat' split
  all_goals rfl
@[simp] theorem State.message_counters (s : State) (v : Nat) : (s.message v).counters = s.counters := by
  unfold State.message; dsimp only; repeat' split
  all_goals rfl
@[simp] theorem State.message_alarms (s : State) (v : Nat) : (s.message v).alarms = s.alarms := by
  unfold State.message; dsimp only; repeat' split
  all_goals rfl
@[simp] theorem State.message_srcs (s : State) (v : Nat) : (s.message v).srcs = s.srcs := by
  unfold State.message; dsimp only; repeat' split
  all_goals rfl
@[simp] theorem State.message_dsts (s : State) (v : Nat) : (s.message v).dsts = s.dsts := by
  unfold State.message; dsimp only; repeat' split
  all_goals rfl
@[simp] theorem State.message_convs (s : State) (v : Nat) : (s.message v).convs = s.convs := by
  unfold State.message; dsimp only; repeat' split
  all_goals rfl
@[simp] theorem State.message_ains (s : State) (v : Nat) : (s.message v).ains = s.ains := by
  unfold State.message; dsimp only; repeat' split
  all_goals rfl
@[simp] theorem State.message_aouts (s : State) (v : Nat) : (s.message v).aouts = s.aouts := by
  unfold State.message; dsimp only; repeat' split
  all_goals rfl
@[simp] theorem State.message_aports (s : State) (v : Nat) : (s.message v).aports = s.aports := by
  unfold State.message; dsimp only; repeat' split
  all_goals rfl
@[simp] theorem State.message_lanes (s : State) (v : Nat) : (s.message v).lanes = s.lanes := by
  unfold State.message; dsimp only; repeat' split
  all_goals rfl
@[simp] theorem State.message_buses (s : State) (v : Nat) : (s.message v).buses = s.buses := by
  unfold State.message; dsimp only; repeat' split
  all_goals rfl
@[simp] theorem State.message_ports (s : State) (v : Nat) : (s.message v).ports = s.ports := by
  unfold State.message; dsimp only; repeat' split
  all_goals rfl
@[simp] theorem State.message_flows (s : State) (v : Nat) : (s.message v).flows = s.flows := by
  unfold State.message; dsimp only; repeat' split
  all_goals rfl
@[simp] theorem State.message_queues (s : State) (v : Nat) : (s.message v).queues = s.queues := by
  unfold State.message; dsimp only; repeat' split
  all_goals rfl
@[simp] theorem State.message_gates (s : State) (v : Nat) : (s.message v).gates = s.gates := by
  unfold State.message; dsimp only; repeat' split
  all_goals rfl
@[simp] theorem State.message_planes (s : State) (v : Nat) : (s.message v).planes = s.planes := by
  unfold State.message; dsimp only; repeat' split
  all_goals rfl
@[simp] theorem State.message_levee (s : State) (v : Nat) : (s.message v).levee = s.levee := by
  unfold State.message; dsimp only; repeat' split
  all_goals rfl
@[simp] theorem State.message_refs (s : State) (v : Nat) : (s.message v).refs = s.refs := by
  unfold State.message; dsimp only; repeat' split
  all_goals rfl
@[simp] theorem State.message_hg (s : State) (v : Nat) : (s.message v).hg = s.hg := by
  unfold State.message; dsimp only; repeat' split
  all_goals rfl
@[simp] theorem State.message_caps (s : State) (v : Nat) : (s.message v).caps = s.caps := by
  unfold State.message; dsimp only; repeat' split
  all_goals rfl
@[simp] theorem State.message_trigs (s : State) (v : Nat) : (s.message v).trigs = s.trigs := by
  unfold State.message; dsimp only; repeat' split
  all_goals rfl
@[simp] theorem State.message_stems (s : State) (v : Nat) : (s.message v).stems = s.stems := by
  unfold State.message; dsimp only; repeat' split
  all_goals rfl
@[simp] theorem State.message_rends (s : State) (v : Nat) : (s.message v).rends = s.rends := by
  unfold State.message; dsimp only; repeat' split
  all_goals rfl
@[simp] theorem State.message_delivs (s : State) (v : Nat) : (s.message v).delivs = s.delivs := by
  unfold State.message; dsimp only; repeat' split
  all_goals rfl
@[simp] theorem State.message_cores (s : State) (v : Nat) : (s.message v).cores = s.cores := by
  unfold State.message; dsimp only; repeat' split
  all_goals rfl
@[simp] theorem State.message_riders (s : State) (v : Nat) : (s.message v).riders = s.riders := by
  unfold State.message; dsimp only; repeat' split
  all_goals rfl
@[simp] theorem State.message_riderDev (s : State) (v : Nat) : (s.message v).riderDev = s.riderDev := by
  unfold State.message; dsimp only; repeat' split
  all_goals rfl
@[simp] theorem State.message_jobs (s : State) (v : Nat) : (s.message v).jobs = s.jobs := by
  unfold State.message; dsimp only; repeat' split
  all_goals rfl
@[simp] theorem State.message_jobSeq (s : State) (v : Nat) : (s.message v).jobSeq = s.jobSeq := by
  unfold State.message; dsimp only; repeat' split
  all_goals rfl
@[simp] theorem State.message_hostFlows (s : State) (v : Nat) : (s.message v).hostFlows = s.hostFlows := by
  unfold State.message; dsimp only; repeat' split
  all_goals rfl
@[simp] theorem State.message_ctxs (s : State) (v : Nat) : (s.message v).ctxs = s.ctxs := by
  unfold State.message; dsimp only; repeat' split
  all_goals rfl
@[simp] theorem State.message_heads (s : State) (v : Nat) : (s.message v).heads = s.heads := by
  unfold State.message; dsimp only; repeat' split
  all_goals rfl
@[simp] theorem State.message_layers (s : State) (v : Nat) : (s.message v).layers = s.layers := by
  unfold State.message; dsimp only; repeat' split
  all_goals rfl
@[simp] theorem State.message_readback (s : State) (v : Nat) : (s.message v).readback = s.readback := by
  unfold State.message; dsimp only; repeat' split
  all_goals rfl
@[simp] theorem State.message_culverts (s : State) (v : Nat) : (s.message v).culverts = s.culverts := by
  unfold State.message; dsimp only; repeat' split
  all_goals rfl
@[simp] theorem State.message_dramStacks (s : State) (v : Nat) : (s.message v).dramStacks = s.dramStacks := by
  unfold State.message; dsimp only; repeat' split
  all_goals rfl
@[simp] theorem State.message_rmem (s : State) (v : Nat) : (s.message v).rmem = s.rmem := by
  unfold State.message; dsimp only; repeat' split
  all_goals rfl
@[simp] theorem State.message_dram (s : State) (v : Nat) : (s.message v).dram = s.dram := by
  unfold State.message; dsimp only; repeat' split
  all_goals rfl
@[simp] theorem State.message_capStamps (s : State) (v : Nat) : (s.message v).capStamps = s.capStamps := by
  unfold State.message; dsimp only; repeat' split
  all_goals rfl
@[simp] theorem State.message_remap (s : State) (v : Nat) : (s.message v).remap = s.remap := by
  unfold State.message; dsimp only; repeat' split
  all_goals rfl
@[simp] theorem State.message_busReqs (s : State) (v : Nat) : (s.message v).busReqs = s.busReqs := by
  unfold State.message; dsimp only; repeat' split
  all_goals rfl
@[simp] theorem State.message_gauges (s : State) (v : Nat) : (s.message v).gauges = s.gauges := by
  unfold State.message; dsimp only; repeat' split
  all_goals rfl
@[simp] theorem State.message_thermal (s : State) (v : Nat) : (s.message v).thermal = s.thermal := by
  unfold State.message; dsimp only; repeat' split
  all_goals rfl
@[simp] theorem State.message_image (s : State) (v : Nat) : (s.message v).image = s.image := by
  unfold State.message; dsimp only; repeat' split
  all_goals rfl
@[simp] theorem State.message_saved (s : State) (v : Nat) : (s.message v).saved = s.saved := by
  unfold State.message; dsimp only; repeat' split
  all_goals rfl
@[simp] theorem State.message_cal (s : State) (v : Nat) : (s.message v).cal = s.cal := by
  unfold State.message; dsimp only; repeat' split
  all_goals rfl
@[simp] theorem State.message_svc (s : State) (v : Nat) : (s.message v).svc = s.svc := by
  unfold State.message; dsimp only; repeat' split
  all_goals rfl
@[simp] theorem State.message_jtag (s : State) (v : Nat) : (s.message v).jtag = s.jtag := by
  unfold State.message; dsimp only; repeat' split
  all_goals rfl
@[simp] theorem State.message_pending (s : State) (v : Nat) : (s.message v).pending = s.pending := by
  unfold State.message; dsimp only; repeat' split
  all_goals rfl

@[simp] theorem State.interrupt_time (s : State) (n : Nat) : (s.interrupt n).time = s.time := by
  unfold State.interrupt; dsimp only; split <;> simp
@[simp] theorem State.interrupt_freeCtr (s : State) (n : Nat) : (s.interrupt n).freeCtr = s.freeCtr := by
  unfold State.interrupt; dsimp only; split <;> simp
@[simp] theorem State.interrupt_pins (s : State) (n : Nat) : (s.interrupt n).pins = s.pins := by
  unfold State.interrupt; dsimp only; split <;> simp
@[simp] theorem State.interrupt_mode (s : State) (n : Nat) : (s.interrupt n).mode = s.mode := by
  unfold State.interrupt; dsimp only; split <;> simp
@[simp] theorem State.interrupt_rings (s : State) (n : Nat) : (s.interrupt n).rings = s.rings := by
  unfold State.interrupt; dsimp only; split <;> simp
@[simp] theorem State.interrupt_events (s : State) (n : Nat) : (s.interrupt n).events = s.events := by
  unfold State.interrupt; dsimp only; split <;> simp
@[simp] theorem State.interrupt_storm (s : State) (n : Nat) : (s.interrupt n).storm = s.storm := by
  unfold State.interrupt; dsimp only; split <;> simp
@[simp] theorem State.interrupt_domains (s : State) (n : Nat) : (s.interrupt n).domains = s.domains := by
  unfold State.interrupt; dsimp only; split <;> simp
@[simp] theorem State.interrupt_openSets (s : State) (n : Nat) : (s.interrupt n).openSets = s.openSets := by
  unfold State.interrupt; dsimp only; split <;> simp
@[simp] theorem State.interrupt_parts (s : State) (n : Nat) : (s.interrupt n).parts = s.parts := by
  unfold State.interrupt; dsimp only; split <;> simp
@[simp] theorem State.interrupt_partSeq (s : State) (n : Nat) : (s.interrupt n).partSeq = s.partSeq := by
  unfold State.interrupt; dsimp only; split <;> simp
@[simp] theorem State.interrupt_fused (s : State) (n : Nat) : (s.interrupt n).fused = s.fused := by
  unfold State.interrupt; dsimp only; split <;> simp
@[simp] theorem State.interrupt_repair (s : State) (n : Nat) : (s.interrupt n).repair = s.repair := by
  unfold State.interrupt; dsimp only; split <;> simp
@[simp] theorem State.interrupt_counters (s : State) (n : Nat) : (s.interrupt n).counters = s.counters := by
  unfold State.interrupt; dsimp only; split <;> simp
@[simp] theorem State.interrupt_alarms (s : State) (n : Nat) : (s.interrupt n).alarms = s.alarms := by
  unfold State.interrupt; dsimp only; split <;> simp
@[simp] theorem State.interrupt_srcs (s : State) (n : Nat) : (s.interrupt n).srcs = s.srcs := by
  unfold State.interrupt; dsimp only; split <;> simp
@[simp] theorem State.interrupt_dsts (s : State) (n : Nat) : (s.interrupt n).dsts = s.dsts := by
  unfold State.interrupt; dsimp only; split <;> simp
@[simp] theorem State.interrupt_convs (s : State) (n : Nat) : (s.interrupt n).convs = s.convs := by
  unfold State.interrupt; dsimp only; split <;> simp
@[simp] theorem State.interrupt_ains (s : State) (n : Nat) : (s.interrupt n).ains = s.ains := by
  unfold State.interrupt; dsimp only; split <;> simp
@[simp] theorem State.interrupt_aouts (s : State) (n : Nat) : (s.interrupt n).aouts = s.aouts := by
  unfold State.interrupt; dsimp only; split <;> simp
@[simp] theorem State.interrupt_aports (s : State) (n : Nat) : (s.interrupt n).aports = s.aports := by
  unfold State.interrupt; dsimp only; split <;> simp
@[simp] theorem State.interrupt_lanes (s : State) (n : Nat) : (s.interrupt n).lanes = s.lanes := by
  unfold State.interrupt; dsimp only; split <;> simp
@[simp] theorem State.interrupt_buses (s : State) (n : Nat) : (s.interrupt n).buses = s.buses := by
  unfold State.interrupt; dsimp only; split <;> simp
@[simp] theorem State.interrupt_ports (s : State) (n : Nat) : (s.interrupt n).ports = s.ports := by
  unfold State.interrupt; dsimp only; split <;> simp
@[simp] theorem State.interrupt_flows (s : State) (n : Nat) : (s.interrupt n).flows = s.flows := by
  unfold State.interrupt; dsimp only; split <;> simp
@[simp] theorem State.interrupt_queues (s : State) (n : Nat) : (s.interrupt n).queues = s.queues := by
  unfold State.interrupt; dsimp only; split <;> simp
@[simp] theorem State.interrupt_gates (s : State) (n : Nat) : (s.interrupt n).gates = s.gates := by
  unfold State.interrupt; dsimp only; split <;> simp
@[simp] theorem State.interrupt_planes (s : State) (n : Nat) : (s.interrupt n).planes = s.planes := by
  unfold State.interrupt; dsimp only; split <;> simp
@[simp] theorem State.interrupt_levee (s : State) (n : Nat) : (s.interrupt n).levee = s.levee := by
  unfold State.interrupt; dsimp only; split <;> simp
@[simp] theorem State.interrupt_refs (s : State) (n : Nat) : (s.interrupt n).refs = s.refs := by
  unfold State.interrupt; dsimp only; split <;> simp
@[simp] theorem State.interrupt_hg (s : State) (n : Nat) : (s.interrupt n).hg = s.hg := by
  unfold State.interrupt; dsimp only; split <;> simp
@[simp] theorem State.interrupt_caps (s : State) (n : Nat) : (s.interrupt n).caps = s.caps := by
  unfold State.interrupt; dsimp only; split <;> simp
@[simp] theorem State.interrupt_trigs (s : State) (n : Nat) : (s.interrupt n).trigs = s.trigs := by
  unfold State.interrupt; dsimp only; split <;> simp
@[simp] theorem State.interrupt_stems (s : State) (n : Nat) : (s.interrupt n).stems = s.stems := by
  unfold State.interrupt; dsimp only; split <;> simp
@[simp] theorem State.interrupt_rends (s : State) (n : Nat) : (s.interrupt n).rends = s.rends := by
  unfold State.interrupt; dsimp only; split <;> simp
@[simp] theorem State.interrupt_delivs (s : State) (n : Nat) : (s.interrupt n).delivs = s.delivs := by
  unfold State.interrupt; dsimp only; split <;> simp
@[simp] theorem State.interrupt_cores (s : State) (n : Nat) : (s.interrupt n).cores = s.cores := by
  unfold State.interrupt; dsimp only; split <;> simp
@[simp] theorem State.interrupt_riders (s : State) (n : Nat) : (s.interrupt n).riders = s.riders := by
  unfold State.interrupt; dsimp only; split <;> simp
@[simp] theorem State.interrupt_riderDev (s : State) (n : Nat) : (s.interrupt n).riderDev = s.riderDev := by
  unfold State.interrupt; dsimp only; split <;> simp
@[simp] theorem State.interrupt_jobs (s : State) (n : Nat) : (s.interrupt n).jobs = s.jobs := by
  unfold State.interrupt; dsimp only; split <;> simp
@[simp] theorem State.interrupt_jobSeq (s : State) (n : Nat) : (s.interrupt n).jobSeq = s.jobSeq := by
  unfold State.interrupt; dsimp only; split <;> simp
@[simp] theorem State.interrupt_hostFlows (s : State) (n : Nat) : (s.interrupt n).hostFlows = s.hostFlows := by
  unfold State.interrupt; dsimp only; split <;> simp
@[simp] theorem State.interrupt_ctxs (s : State) (n : Nat) : (s.interrupt n).ctxs = s.ctxs := by
  unfold State.interrupt; dsimp only; split <;> simp
@[simp] theorem State.interrupt_heads (s : State) (n : Nat) : (s.interrupt n).heads = s.heads := by
  unfold State.interrupt; dsimp only; split <;> simp
@[simp] theorem State.interrupt_layers (s : State) (n : Nat) : (s.interrupt n).layers = s.layers := by
  unfold State.interrupt; dsimp only; split <;> simp
@[simp] theorem State.interrupt_readback (s : State) (n : Nat) : (s.interrupt n).readback = s.readback := by
  unfold State.interrupt; dsimp only; split <;> simp
@[simp] theorem State.interrupt_culverts (s : State) (n : Nat) : (s.interrupt n).culverts = s.culverts := by
  unfold State.interrupt; dsimp only; split <;> simp
@[simp] theorem State.interrupt_dramStacks (s : State) (n : Nat) : (s.interrupt n).dramStacks = s.dramStacks := by
  unfold State.interrupt; dsimp only; split <;> simp
@[simp] theorem State.interrupt_rmem (s : State) (n : Nat) : (s.interrupt n).rmem = s.rmem := by
  unfold State.interrupt; dsimp only; split <;> simp
@[simp] theorem State.interrupt_dram (s : State) (n : Nat) : (s.interrupt n).dram = s.dram := by
  unfold State.interrupt; dsimp only; split <;> simp
@[simp] theorem State.interrupt_capStamps (s : State) (n : Nat) : (s.interrupt n).capStamps = s.capStamps := by
  unfold State.interrupt; dsimp only; split <;> simp
@[simp] theorem State.interrupt_remap (s : State) (n : Nat) : (s.interrupt n).remap = s.remap := by
  unfold State.interrupt; dsimp only; split <;> simp
@[simp] theorem State.interrupt_busReqs (s : State) (n : Nat) : (s.interrupt n).busReqs = s.busReqs := by
  unfold State.interrupt; dsimp only; split <;> simp
@[simp] theorem State.interrupt_gauges (s : State) (n : Nat) : (s.interrupt n).gauges = s.gauges := by
  unfold State.interrupt; dsimp only; split <;> simp
@[simp] theorem State.interrupt_thermal (s : State) (n : Nat) : (s.interrupt n).thermal = s.thermal := by
  unfold State.interrupt; dsimp only; split <;> simp
@[simp] theorem State.interrupt_image (s : State) (n : Nat) : (s.interrupt n).image = s.image := by
  unfold State.interrupt; dsimp only; split <;> simp
@[simp] theorem State.interrupt_saved (s : State) (n : Nat) : (s.interrupt n).saved = s.saved := by
  unfold State.interrupt; dsimp only; split <;> simp
@[simp] theorem State.interrupt_cal (s : State) (n : Nat) : (s.interrupt n).cal = s.cal := by
  unfold State.interrupt; dsimp only; split <;> simp
@[simp] theorem State.interrupt_svc (s : State) (n : Nat) : (s.interrupt n).svc = s.svc := by
  unfold State.interrupt; dsimp only; split <;> simp
@[simp] theorem State.interrupt_jtag (s : State) (n : Nat) : (s.interrupt n).jtag = s.jtag := by
  unfold State.interrupt; dsimp only; split <;> simp
@[simp] theorem State.interrupt_pending (s : State) (n : Nat) : (s.interrupt n).pending = s.pending := by
  unfold State.interrupt; dsimp only; split <;> simp

@[simp] theorem State.stormDrop_time (s : State) (b : Bool) : (s.stormDrop b).time = s.time := rfl
@[simp] theorem State.stormDrop_freeCtr (s : State) (b : Bool) : (s.stormDrop b).freeCtr = s.freeCtr := rfl
@[simp] theorem State.stormDrop_out (s : State) (b : Bool) : (s.stormDrop b).out = s.out := rfl
@[simp] theorem State.stormDrop_pins (s : State) (b : Bool) : (s.stormDrop b).pins = s.pins := rfl
@[simp] theorem State.stormDrop_mode (s : State) (b : Bool) : (s.stormDrop b).mode = s.mode := rfl
@[simp] theorem State.stormDrop_rings (s : State) (b : Bool) : (s.stormDrop b).rings = s.rings := rfl
@[simp] theorem State.stormDrop_ints (s : State) (b : Bool) : (s.stormDrop b).ints = s.ints := rfl
@[simp] theorem State.stormDrop_events (s : State) (b : Bool) : (s.stormDrop b).events = s.events := rfl
@[simp] theorem State.stormDrop_domains (s : State) (b : Bool) : (s.stormDrop b).domains = s.domains := rfl
@[simp] theorem State.stormDrop_openSets (s : State) (b : Bool) : (s.stormDrop b).openSets = s.openSets := rfl
@[simp] theorem State.stormDrop_parts (s : State) (b : Bool) : (s.stormDrop b).parts = s.parts := rfl
@[simp] theorem State.stormDrop_partSeq (s : State) (b : Bool) : (s.stormDrop b).partSeq = s.partSeq := rfl
@[simp] theorem State.stormDrop_fused (s : State) (b : Bool) : (s.stormDrop b).fused = s.fused := rfl
@[simp] theorem State.stormDrop_repair (s : State) (b : Bool) : (s.stormDrop b).repair = s.repair := rfl
@[simp] theorem State.stormDrop_counters (s : State) (b : Bool) : (s.stormDrop b).counters = s.counters := rfl
@[simp] theorem State.stormDrop_alarms (s : State) (b : Bool) : (s.stormDrop b).alarms = s.alarms := rfl
@[simp] theorem State.stormDrop_srcs (s : State) (b : Bool) : (s.stormDrop b).srcs = s.srcs := rfl
@[simp] theorem State.stormDrop_dsts (s : State) (b : Bool) : (s.stormDrop b).dsts = s.dsts := rfl
@[simp] theorem State.stormDrop_convs (s : State) (b : Bool) : (s.stormDrop b).convs = s.convs := rfl
@[simp] theorem State.stormDrop_ains (s : State) (b : Bool) : (s.stormDrop b).ains = s.ains := rfl
@[simp] theorem State.stormDrop_aouts (s : State) (b : Bool) : (s.stormDrop b).aouts = s.aouts := rfl
@[simp] theorem State.stormDrop_aports (s : State) (b : Bool) : (s.stormDrop b).aports = s.aports := rfl
@[simp] theorem State.stormDrop_lanes (s : State) (b : Bool) : (s.stormDrop b).lanes = s.lanes := rfl
@[simp] theorem State.stormDrop_buses (s : State) (b : Bool) : (s.stormDrop b).buses = s.buses := rfl
@[simp] theorem State.stormDrop_ports (s : State) (b : Bool) : (s.stormDrop b).ports = s.ports := rfl
@[simp] theorem State.stormDrop_flows (s : State) (b : Bool) : (s.stormDrop b).flows = s.flows := rfl
@[simp] theorem State.stormDrop_queues (s : State) (b : Bool) : (s.stormDrop b).queues = s.queues := rfl
@[simp] theorem State.stormDrop_gates (s : State) (b : Bool) : (s.stormDrop b).gates = s.gates := rfl
@[simp] theorem State.stormDrop_planes (s : State) (b : Bool) : (s.stormDrop b).planes = s.planes := rfl
@[simp] theorem State.stormDrop_levee (s : State) (b : Bool) : (s.stormDrop b).levee = s.levee := rfl
@[simp] theorem State.stormDrop_refs (s : State) (b : Bool) : (s.stormDrop b).refs = s.refs := rfl
@[simp] theorem State.stormDrop_hg (s : State) (b : Bool) : (s.stormDrop b).hg = s.hg := rfl
@[simp] theorem State.stormDrop_caps (s : State) (b : Bool) : (s.stormDrop b).caps = s.caps := rfl
@[simp] theorem State.stormDrop_trigs (s : State) (b : Bool) : (s.stormDrop b).trigs = s.trigs := rfl
@[simp] theorem State.stormDrop_stems (s : State) (b : Bool) : (s.stormDrop b).stems = s.stems := rfl
@[simp] theorem State.stormDrop_rends (s : State) (b : Bool) : (s.stormDrop b).rends = s.rends := rfl
@[simp] theorem State.stormDrop_delivs (s : State) (b : Bool) : (s.stormDrop b).delivs = s.delivs := rfl
@[simp] theorem State.stormDrop_cores (s : State) (b : Bool) : (s.stormDrop b).cores = s.cores := rfl
@[simp] theorem State.stormDrop_riders (s : State) (b : Bool) : (s.stormDrop b).riders = s.riders := rfl
@[simp] theorem State.stormDrop_riderDev (s : State) (b : Bool) : (s.stormDrop b).riderDev = s.riderDev := rfl
@[simp] theorem State.stormDrop_jobs (s : State) (b : Bool) : (s.stormDrop b).jobs = s.jobs := rfl
@[simp] theorem State.stormDrop_jobSeq (s : State) (b : Bool) : (s.stormDrop b).jobSeq = s.jobSeq := rfl
@[simp] theorem State.stormDrop_hostFlows (s : State) (b : Bool) : (s.stormDrop b).hostFlows = s.hostFlows := rfl
@[simp] theorem State.stormDrop_ctxs (s : State) (b : Bool) : (s.stormDrop b).ctxs = s.ctxs := rfl
@[simp] theorem State.stormDrop_heads (s : State) (b : Bool) : (s.stormDrop b).heads = s.heads := rfl
@[simp] theorem State.stormDrop_layers (s : State) (b : Bool) : (s.stormDrop b).layers = s.layers := rfl
@[simp] theorem State.stormDrop_readback (s : State) (b : Bool) : (s.stormDrop b).readback = s.readback := rfl
@[simp] theorem State.stormDrop_culverts (s : State) (b : Bool) : (s.stormDrop b).culverts = s.culverts := rfl
@[simp] theorem State.stormDrop_dramStacks (s : State) (b : Bool) : (s.stormDrop b).dramStacks = s.dramStacks := rfl
@[simp] theorem State.stormDrop_rmem (s : State) (b : Bool) : (s.stormDrop b).rmem = s.rmem := rfl
@[simp] theorem State.stormDrop_dram (s : State) (b : Bool) : (s.stormDrop b).dram = s.dram := rfl
@[simp] theorem State.stormDrop_capStamps (s : State) (b : Bool) : (s.stormDrop b).capStamps = s.capStamps := rfl
@[simp] theorem State.stormDrop_remap (s : State) (b : Bool) : (s.stormDrop b).remap = s.remap := rfl
@[simp] theorem State.stormDrop_busReqs (s : State) (b : Bool) : (s.stormDrop b).busReqs = s.busReqs := rfl
@[simp] theorem State.stormDrop_gauges (s : State) (b : Bool) : (s.stormDrop b).gauges = s.gauges := rfl
@[simp] theorem State.stormDrop_thermal (s : State) (b : Bool) : (s.stormDrop b).thermal = s.thermal := rfl
@[simp] theorem State.stormDrop_image (s : State) (b : Bool) : (s.stormDrop b).image = s.image := rfl
@[simp] theorem State.stormDrop_saved (s : State) (b : Bool) : (s.stormDrop b).saved = s.saved := rfl
@[simp] theorem State.stormDrop_cal (s : State) (b : Bool) : (s.stormDrop b).cal = s.cal := rfl
@[simp] theorem State.stormDrop_svc (s : State) (b : Bool) : (s.stormDrop b).svc = s.svc := rfl
@[simp] theorem State.stormDrop_jtag (s : State) (b : Bool) : (s.stormDrop b).jtag = s.jtag := rfl
@[simp] theorem State.stormDrop_pending (s : State) (b : Bool) : (s.stormDrop b).pending = s.pending := rfl

@[simp] theorem State.writeEvent_time (s : State) (e : Ev) : (s.writeEvent e).time = s.time := by
  simp [State.writeEvent]
@[simp] theorem State.writeEvent_freeCtr (s : State) (e : Ev) : (s.writeEvent e).freeCtr = s.freeCtr := by
  simp [State.writeEvent]
@[simp] theorem State.writeEvent_pins (s : State) (e : Ev) : (s.writeEvent e).pins = s.pins := by
  simp [State.writeEvent]
@[simp] theorem State.writeEvent_mode (s : State) (e : Ev) : (s.writeEvent e).mode = s.mode := by
  simp [State.writeEvent]
@[simp] theorem State.writeEvent_events (s : State) (e : Ev) : (s.writeEvent e).events = s.events := by
  simp [State.writeEvent]
@[simp] theorem State.writeEvent_storm (s : State) (e : Ev) : (s.writeEvent e).storm = s.storm := by
  simp [State.writeEvent]
@[simp] theorem State.writeEvent_domains (s : State) (e : Ev) : (s.writeEvent e).domains = s.domains := by
  simp [State.writeEvent]
@[simp] theorem State.writeEvent_openSets (s : State) (e : Ev) : (s.writeEvent e).openSets = s.openSets := by
  simp [State.writeEvent]
@[simp] theorem State.writeEvent_parts (s : State) (e : Ev) : (s.writeEvent e).parts = s.parts := by
  simp [State.writeEvent]
@[simp] theorem State.writeEvent_partSeq (s : State) (e : Ev) : (s.writeEvent e).partSeq = s.partSeq := by
  simp [State.writeEvent]
@[simp] theorem State.writeEvent_fused (s : State) (e : Ev) : (s.writeEvent e).fused = s.fused := by
  simp [State.writeEvent]
@[simp] theorem State.writeEvent_repair (s : State) (e : Ev) : (s.writeEvent e).repair = s.repair := by
  simp [State.writeEvent]
@[simp] theorem State.writeEvent_counters (s : State) (e : Ev) : (s.writeEvent e).counters = s.counters := by
  simp [State.writeEvent]
@[simp] theorem State.writeEvent_alarms (s : State) (e : Ev) : (s.writeEvent e).alarms = s.alarms := by
  simp [State.writeEvent]
@[simp] theorem State.writeEvent_srcs (s : State) (e : Ev) : (s.writeEvent e).srcs = s.srcs := by
  simp [State.writeEvent]
@[simp] theorem State.writeEvent_dsts (s : State) (e : Ev) : (s.writeEvent e).dsts = s.dsts := by
  simp [State.writeEvent]
@[simp] theorem State.writeEvent_convs (s : State) (e : Ev) : (s.writeEvent e).convs = s.convs := by
  simp [State.writeEvent]
@[simp] theorem State.writeEvent_ains (s : State) (e : Ev) : (s.writeEvent e).ains = s.ains := by
  simp [State.writeEvent]
@[simp] theorem State.writeEvent_aouts (s : State) (e : Ev) : (s.writeEvent e).aouts = s.aouts := by
  simp [State.writeEvent]
@[simp] theorem State.writeEvent_aports (s : State) (e : Ev) : (s.writeEvent e).aports = s.aports := by
  simp [State.writeEvent]
@[simp] theorem State.writeEvent_lanes (s : State) (e : Ev) : (s.writeEvent e).lanes = s.lanes := by
  simp [State.writeEvent]
@[simp] theorem State.writeEvent_buses (s : State) (e : Ev) : (s.writeEvent e).buses = s.buses := by
  simp [State.writeEvent]
@[simp] theorem State.writeEvent_ports (s : State) (e : Ev) : (s.writeEvent e).ports = s.ports := by
  simp [State.writeEvent]
@[simp] theorem State.writeEvent_flows (s : State) (e : Ev) : (s.writeEvent e).flows = s.flows := by
  simp [State.writeEvent]
@[simp] theorem State.writeEvent_queues (s : State) (e : Ev) : (s.writeEvent e).queues = s.queues := by
  simp [State.writeEvent]
@[simp] theorem State.writeEvent_gates (s : State) (e : Ev) : (s.writeEvent e).gates = s.gates := by
  simp [State.writeEvent]
@[simp] theorem State.writeEvent_planes (s : State) (e : Ev) : (s.writeEvent e).planes = s.planes := by
  simp [State.writeEvent]
@[simp] theorem State.writeEvent_levee (s : State) (e : Ev) : (s.writeEvent e).levee = s.levee := by
  simp [State.writeEvent]
@[simp] theorem State.writeEvent_refs (s : State) (e : Ev) : (s.writeEvent e).refs = s.refs := by
  simp [State.writeEvent]
@[simp] theorem State.writeEvent_hg (s : State) (e : Ev) : (s.writeEvent e).hg = s.hg := by
  simp [State.writeEvent]
@[simp] theorem State.writeEvent_caps (s : State) (e : Ev) : (s.writeEvent e).caps = s.caps := by
  simp [State.writeEvent]
@[simp] theorem State.writeEvent_trigs (s : State) (e : Ev) : (s.writeEvent e).trigs = s.trigs := by
  simp [State.writeEvent]
@[simp] theorem State.writeEvent_stems (s : State) (e : Ev) : (s.writeEvent e).stems = s.stems := by
  simp [State.writeEvent]
@[simp] theorem State.writeEvent_rends (s : State) (e : Ev) : (s.writeEvent e).rends = s.rends := by
  simp [State.writeEvent]
@[simp] theorem State.writeEvent_delivs (s : State) (e : Ev) : (s.writeEvent e).delivs = s.delivs := by
  simp [State.writeEvent]
@[simp] theorem State.writeEvent_cores (s : State) (e : Ev) : (s.writeEvent e).cores = s.cores := by
  simp [State.writeEvent]
@[simp] theorem State.writeEvent_riders (s : State) (e : Ev) : (s.writeEvent e).riders = s.riders := by
  simp [State.writeEvent]
@[simp] theorem State.writeEvent_riderDev (s : State) (e : Ev) : (s.writeEvent e).riderDev = s.riderDev := by
  simp [State.writeEvent]
@[simp] theorem State.writeEvent_jobs (s : State) (e : Ev) : (s.writeEvent e).jobs = s.jobs := by
  simp [State.writeEvent]
@[simp] theorem State.writeEvent_jobSeq (s : State) (e : Ev) : (s.writeEvent e).jobSeq = s.jobSeq := by
  simp [State.writeEvent]
@[simp] theorem State.writeEvent_hostFlows (s : State) (e : Ev) : (s.writeEvent e).hostFlows = s.hostFlows := by
  simp [State.writeEvent]
@[simp] theorem State.writeEvent_ctxs (s : State) (e : Ev) : (s.writeEvent e).ctxs = s.ctxs := by
  simp [State.writeEvent]
@[simp] theorem State.writeEvent_heads (s : State) (e : Ev) : (s.writeEvent e).heads = s.heads := by
  simp [State.writeEvent]
@[simp] theorem State.writeEvent_layers (s : State) (e : Ev) : (s.writeEvent e).layers = s.layers := by
  simp [State.writeEvent]
@[simp] theorem State.writeEvent_readback (s : State) (e : Ev) : (s.writeEvent e).readback = s.readback := by
  simp [State.writeEvent]
@[simp] theorem State.writeEvent_culverts (s : State) (e : Ev) : (s.writeEvent e).culverts = s.culverts := by
  simp [State.writeEvent]
@[simp] theorem State.writeEvent_dramStacks (s : State) (e : Ev) : (s.writeEvent e).dramStacks = s.dramStacks := by
  simp [State.writeEvent]
@[simp] theorem State.writeEvent_rmem (s : State) (e : Ev) : (s.writeEvent e).rmem = s.rmem := by
  simp [State.writeEvent]
@[simp] theorem State.writeEvent_dram (s : State) (e : Ev) : (s.writeEvent e).dram = s.dram := by
  simp [State.writeEvent]
@[simp] theorem State.writeEvent_capStamps (s : State) (e : Ev) : (s.writeEvent e).capStamps = s.capStamps := by
  simp [State.writeEvent]
@[simp] theorem State.writeEvent_remap (s : State) (e : Ev) : (s.writeEvent e).remap = s.remap := by
  simp [State.writeEvent]
@[simp] theorem State.writeEvent_busReqs (s : State) (e : Ev) : (s.writeEvent e).busReqs = s.busReqs := by
  simp [State.writeEvent]
@[simp] theorem State.writeEvent_gauges (s : State) (e : Ev) : (s.writeEvent e).gauges = s.gauges := by
  simp [State.writeEvent]
@[simp] theorem State.writeEvent_thermal (s : State) (e : Ev) : (s.writeEvent e).thermal = s.thermal := by
  simp [State.writeEvent]
@[simp] theorem State.writeEvent_image (s : State) (e : Ev) : (s.writeEvent e).image = s.image := by
  simp [State.writeEvent]
@[simp] theorem State.writeEvent_saved (s : State) (e : Ev) : (s.writeEvent e).saved = s.saved := by
  simp [State.writeEvent]
@[simp] theorem State.writeEvent_cal (s : State) (e : Ev) : (s.writeEvent e).cal = s.cal := by
  simp [State.writeEvent]
@[simp] theorem State.writeEvent_svc (s : State) (e : Ev) : (s.writeEvent e).svc = s.svc := by
  simp [State.writeEvent]
@[simp] theorem State.writeEvent_jtag (s : State) (e : Ev) : (s.writeEvent e).jtag = s.jtag := by
  simp [State.writeEvent]
@[simp] theorem State.writeEvent_pending (s : State) (e : Ev) : (s.writeEvent e).pending = s.pending := by
  simp [State.writeEvent]

@[simp] theorem State.event_time (s : State) (e : Ev) : (s.event e).time = s.time := by
  unfold State.event; split
  · dsimp only; split <;> simp
  · rfl
@[simp] theorem State.event_freeCtr (s : State) (e : Ev) : (s.event e).freeCtr = s.freeCtr := by
  unfold State.event; split
  · dsimp only; split <;> simp
  · rfl
@[simp] theorem State.event_pins (s : State) (e : Ev) : (s.event e).pins = s.pins := by
  unfold State.event; split
  · dsimp only; split <;> simp
  · rfl
@[simp] theorem State.event_mode (s : State) (e : Ev) : (s.event e).mode = s.mode := by
  unfold State.event; split
  · dsimp only; split <;> simp
  · rfl
@[simp] theorem State.event_domains (s : State) (e : Ev) : (s.event e).domains = s.domains := by
  unfold State.event; split
  · dsimp only; split <;> simp
  · rfl
@[simp] theorem State.event_openSets (s : State) (e : Ev) : (s.event e).openSets = s.openSets := by
  unfold State.event; split
  · dsimp only; split <;> simp
  · rfl
@[simp] theorem State.event_parts (s : State) (e : Ev) : (s.event e).parts = s.parts := by
  unfold State.event; split
  · dsimp only; split <;> simp
  · rfl
@[simp] theorem State.event_partSeq (s : State) (e : Ev) : (s.event e).partSeq = s.partSeq := by
  unfold State.event; split
  · dsimp only; split <;> simp
  · rfl
@[simp] theorem State.event_fused (s : State) (e : Ev) : (s.event e).fused = s.fused := by
  unfold State.event; split
  · dsimp only; split <;> simp
  · rfl
@[simp] theorem State.event_repair (s : State) (e : Ev) : (s.event e).repair = s.repair := by
  unfold State.event; split
  · dsimp only; split <;> simp
  · rfl
@[simp] theorem State.event_alarms (s : State) (e : Ev) : (s.event e).alarms = s.alarms := by
  unfold State.event; split
  · dsimp only; split <;> simp
  · rfl
@[simp] theorem State.event_srcs (s : State) (e : Ev) : (s.event e).srcs = s.srcs := by
  unfold State.event; split
  · dsimp only; split <;> simp
  · rfl
@[simp] theorem State.event_dsts (s : State) (e : Ev) : (s.event e).dsts = s.dsts := by
  unfold State.event; split
  · dsimp only; split <;> simp
  · rfl
@[simp] theorem State.event_convs (s : State) (e : Ev) : (s.event e).convs = s.convs := by
  unfold State.event; split
  · dsimp only; split <;> simp
  · rfl
@[simp] theorem State.event_ains (s : State) (e : Ev) : (s.event e).ains = s.ains := by
  unfold State.event; split
  · dsimp only; split <;> simp
  · rfl
@[simp] theorem State.event_aouts (s : State) (e : Ev) : (s.event e).aouts = s.aouts := by
  unfold State.event; split
  · dsimp only; split <;> simp
  · rfl
@[simp] theorem State.event_aports (s : State) (e : Ev) : (s.event e).aports = s.aports := by
  unfold State.event; split
  · dsimp only; split <;> simp
  · rfl
@[simp] theorem State.event_lanes (s : State) (e : Ev) : (s.event e).lanes = s.lanes := by
  unfold State.event; split
  · dsimp only; split <;> simp
  · rfl
@[simp] theorem State.event_buses (s : State) (e : Ev) : (s.event e).buses = s.buses := by
  unfold State.event; split
  · dsimp only; split <;> simp
  · rfl
@[simp] theorem State.event_ports (s : State) (e : Ev) : (s.event e).ports = s.ports := by
  unfold State.event; split
  · dsimp only; split <;> simp
  · rfl
@[simp] theorem State.event_flows (s : State) (e : Ev) : (s.event e).flows = s.flows := by
  unfold State.event; split
  · dsimp only; split <;> simp
  · rfl
@[simp] theorem State.event_queues (s : State) (e : Ev) : (s.event e).queues = s.queues := by
  unfold State.event; split
  · dsimp only; split <;> simp
  · rfl
@[simp] theorem State.event_gates (s : State) (e : Ev) : (s.event e).gates = s.gates := by
  unfold State.event; split
  · dsimp only; split <;> simp
  · rfl
@[simp] theorem State.event_planes (s : State) (e : Ev) : (s.event e).planes = s.planes := by
  unfold State.event; split
  · dsimp only; split <;> simp
  · rfl
@[simp] theorem State.event_levee (s : State) (e : Ev) : (s.event e).levee = s.levee := by
  unfold State.event; split
  · dsimp only; split <;> simp
  · rfl
@[simp] theorem State.event_refs (s : State) (e : Ev) : (s.event e).refs = s.refs := by
  unfold State.event; split
  · dsimp only; split <;> simp
  · rfl
@[simp] theorem State.event_hg (s : State) (e : Ev) : (s.event e).hg = s.hg := by
  unfold State.event; split
  · dsimp only; split <;> simp
  · rfl
@[simp] theorem State.event_caps (s : State) (e : Ev) : (s.event e).caps = s.caps := by
  unfold State.event; split
  · dsimp only; split <;> simp
  · rfl
@[simp] theorem State.event_trigs (s : State) (e : Ev) : (s.event e).trigs = s.trigs := by
  unfold State.event; split
  · dsimp only; split <;> simp
  · rfl
@[simp] theorem State.event_stems (s : State) (e : Ev) : (s.event e).stems = s.stems := by
  unfold State.event; split
  · dsimp only; split <;> simp
  · rfl
@[simp] theorem State.event_rends (s : State) (e : Ev) : (s.event e).rends = s.rends := by
  unfold State.event; split
  · dsimp only; split <;> simp
  · rfl
@[simp] theorem State.event_delivs (s : State) (e : Ev) : (s.event e).delivs = s.delivs := by
  unfold State.event; split
  · dsimp only; split <;> simp
  · rfl
@[simp] theorem State.event_cores (s : State) (e : Ev) : (s.event e).cores = s.cores := by
  unfold State.event; split
  · dsimp only; split <;> simp
  · rfl
@[simp] theorem State.event_riders (s : State) (e : Ev) : (s.event e).riders = s.riders := by
  unfold State.event; split
  · dsimp only; split <;> simp
  · rfl
@[simp] theorem State.event_riderDev (s : State) (e : Ev) : (s.event e).riderDev = s.riderDev := by
  unfold State.event; split
  · dsimp only; split <;> simp
  · rfl
@[simp] theorem State.event_jobs (s : State) (e : Ev) : (s.event e).jobs = s.jobs := by
  unfold State.event; split
  · dsimp only; split <;> simp
  · rfl
@[simp] theorem State.event_jobSeq (s : State) (e : Ev) : (s.event e).jobSeq = s.jobSeq := by
  unfold State.event; split
  · dsimp only; split <;> simp
  · rfl
@[simp] theorem State.event_hostFlows (s : State) (e : Ev) : (s.event e).hostFlows = s.hostFlows := by
  unfold State.event; split
  · dsimp only; split <;> simp
  · rfl
@[simp] theorem State.event_ctxs (s : State) (e : Ev) : (s.event e).ctxs = s.ctxs := by
  unfold State.event; split
  · dsimp only; split <;> simp
  · rfl
@[simp] theorem State.event_heads (s : State) (e : Ev) : (s.event e).heads = s.heads := by
  unfold State.event; split
  · dsimp only; split <;> simp
  · rfl
@[simp] theorem State.event_layers (s : State) (e : Ev) : (s.event e).layers = s.layers := by
  unfold State.event; split
  · dsimp only; split <;> simp
  · rfl
@[simp] theorem State.event_readback (s : State) (e : Ev) : (s.event e).readback = s.readback := by
  unfold State.event; split
  · dsimp only; split <;> simp
  · rfl
@[simp] theorem State.event_culverts (s : State) (e : Ev) : (s.event e).culverts = s.culverts := by
  unfold State.event; split
  · dsimp only; split <;> simp
  · rfl
@[simp] theorem State.event_dramStacks (s : State) (e : Ev) : (s.event e).dramStacks = s.dramStacks := by
  unfold State.event; split
  · dsimp only; split <;> simp
  · rfl
@[simp] theorem State.event_rmem (s : State) (e : Ev) : (s.event e).rmem = s.rmem := by
  unfold State.event; split
  · dsimp only; split <;> simp
  · rfl
@[simp] theorem State.event_dram (s : State) (e : Ev) : (s.event e).dram = s.dram := by
  unfold State.event; split
  · dsimp only; split <;> simp
  · rfl
@[simp] theorem State.event_capStamps (s : State) (e : Ev) : (s.event e).capStamps = s.capStamps := by
  unfold State.event; split
  · dsimp only; split <;> simp
  · rfl
@[simp] theorem State.event_remap (s : State) (e : Ev) : (s.event e).remap = s.remap := by
  unfold State.event; split
  · dsimp only; split <;> simp
  · rfl
@[simp] theorem State.event_busReqs (s : State) (e : Ev) : (s.event e).busReqs = s.busReqs := by
  unfold State.event; split
  · dsimp only; split <;> simp
  · rfl
@[simp] theorem State.event_gauges (s : State) (e : Ev) : (s.event e).gauges = s.gauges := by
  unfold State.event; split
  · dsimp only; split <;> simp
  · rfl
@[simp] theorem State.event_thermal (s : State) (e : Ev) : (s.event e).thermal = s.thermal := by
  unfold State.event; split
  · dsimp only; split <;> simp
  · rfl
@[simp] theorem State.event_image (s : State) (e : Ev) : (s.event e).image = s.image := by
  unfold State.event; split
  · dsimp only; split <;> simp
  · rfl
@[simp] theorem State.event_saved (s : State) (e : Ev) : (s.event e).saved = s.saved := by
  unfold State.event; split
  · dsimp only; split <;> simp
  · rfl
@[simp] theorem State.event_cal (s : State) (e : Ev) : (s.event e).cal = s.cal := by
  unfold State.event; split
  · dsimp only; split <;> simp
  · rfl
@[simp] theorem State.event_svc (s : State) (e : Ev) : (s.event e).svc = s.svc := by
  unfold State.event; split
  · dsimp only; split <;> simp
  · rfl
@[simp] theorem State.event_jtag (s : State) (e : Ev) : (s.event e).jtag = s.jtag := by
  unfold State.event; split
  · dsimp only; split <;> simp
  · rfl
@[simp] theorem State.event_pending (s : State) (e : Ev) : (s.event e).pending = s.pending := by
  unfold State.event; split
  · dsimp only; split <;> simp
  · rfl

@[simp] theorem State.summaryChanged_time (o s : State) : (State.summaryChanged o s).time = s.time := by
  unfold State.summaryChanged; split <;> simp
@[simp] theorem State.summaryChanged_freeCtr (o s : State) : (State.summaryChanged o s).freeCtr = s.freeCtr := by
  unfold State.summaryChanged; split <;> simp
@[simp] theorem State.summaryChanged_pins (o s : State) : (State.summaryChanged o s).pins = s.pins := by
  unfold State.summaryChanged; split <;> simp
@[simp] theorem State.summaryChanged_mode (o s : State) : (State.summaryChanged o s).mode = s.mode := by
  unfold State.summaryChanged; split <;> simp
@[simp] theorem State.summaryChanged_rings (o s : State) : (State.summaryChanged o s).rings = s.rings := by
  unfold State.summaryChanged; split <;> simp
@[simp] theorem State.summaryChanged_events (o s : State) : (State.summaryChanged o s).events = s.events := by
  unfold State.summaryChanged; split <;> simp
@[simp] theorem State.summaryChanged_storm (o s : State) : (State.summaryChanged o s).storm = s.storm := by
  unfold State.summaryChanged; split <;> simp
@[simp] theorem State.summaryChanged_domains (o s : State) : (State.summaryChanged o s).domains = s.domains := by
  unfold State.summaryChanged; split <;> simp
@[simp] theorem State.summaryChanged_openSets (o s : State) : (State.summaryChanged o s).openSets = s.openSets := by
  unfold State.summaryChanged; split <;> simp
@[simp] theorem State.summaryChanged_parts (o s : State) : (State.summaryChanged o s).parts = s.parts := by
  unfold State.summaryChanged; split <;> simp
@[simp] theorem State.summaryChanged_partSeq (o s : State) : (State.summaryChanged o s).partSeq = s.partSeq := by
  unfold State.summaryChanged; split <;> simp
@[simp] theorem State.summaryChanged_fused (o s : State) : (State.summaryChanged o s).fused = s.fused := by
  unfold State.summaryChanged; split <;> simp
@[simp] theorem State.summaryChanged_repair (o s : State) : (State.summaryChanged o s).repair = s.repair := by
  unfold State.summaryChanged; split <;> simp
@[simp] theorem State.summaryChanged_counters (o s : State) : (State.summaryChanged o s).counters = s.counters := by
  unfold State.summaryChanged; split <;> simp
@[simp] theorem State.summaryChanged_alarms (o s : State) : (State.summaryChanged o s).alarms = s.alarms := by
  unfold State.summaryChanged; split <;> simp
@[simp] theorem State.summaryChanged_srcs (o s : State) : (State.summaryChanged o s).srcs = s.srcs := by
  unfold State.summaryChanged; split <;> simp
@[simp] theorem State.summaryChanged_dsts (o s : State) : (State.summaryChanged o s).dsts = s.dsts := by
  unfold State.summaryChanged; split <;> simp
@[simp] theorem State.summaryChanged_convs (o s : State) : (State.summaryChanged o s).convs = s.convs := by
  unfold State.summaryChanged; split <;> simp
@[simp] theorem State.summaryChanged_ains (o s : State) : (State.summaryChanged o s).ains = s.ains := by
  unfold State.summaryChanged; split <;> simp
@[simp] theorem State.summaryChanged_aouts (o s : State) : (State.summaryChanged o s).aouts = s.aouts := by
  unfold State.summaryChanged; split <;> simp
@[simp] theorem State.summaryChanged_aports (o s : State) : (State.summaryChanged o s).aports = s.aports := by
  unfold State.summaryChanged; split <;> simp
@[simp] theorem State.summaryChanged_lanes (o s : State) : (State.summaryChanged o s).lanes = s.lanes := by
  unfold State.summaryChanged; split <;> simp
@[simp] theorem State.summaryChanged_buses (o s : State) : (State.summaryChanged o s).buses = s.buses := by
  unfold State.summaryChanged; split <;> simp
@[simp] theorem State.summaryChanged_ports (o s : State) : (State.summaryChanged o s).ports = s.ports := by
  unfold State.summaryChanged; split <;> simp
@[simp] theorem State.summaryChanged_flows (o s : State) : (State.summaryChanged o s).flows = s.flows := by
  unfold State.summaryChanged; split <;> simp
@[simp] theorem State.summaryChanged_queues (o s : State) : (State.summaryChanged o s).queues = s.queues := by
  unfold State.summaryChanged; split <;> simp
@[simp] theorem State.summaryChanged_gates (o s : State) : (State.summaryChanged o s).gates = s.gates := by
  unfold State.summaryChanged; split <;> simp
@[simp] theorem State.summaryChanged_planes (o s : State) : (State.summaryChanged o s).planes = s.planes := by
  unfold State.summaryChanged; split <;> simp
@[simp] theorem State.summaryChanged_levee (o s : State) : (State.summaryChanged o s).levee = s.levee := by
  unfold State.summaryChanged; split <;> simp
@[simp] theorem State.summaryChanged_refs (o s : State) : (State.summaryChanged o s).refs = s.refs := by
  unfold State.summaryChanged; split <;> simp
@[simp] theorem State.summaryChanged_hg (o s : State) : (State.summaryChanged o s).hg = s.hg := by
  unfold State.summaryChanged; split <;> simp
@[simp] theorem State.summaryChanged_caps (o s : State) : (State.summaryChanged o s).caps = s.caps := by
  unfold State.summaryChanged; split <;> simp
@[simp] theorem State.summaryChanged_trigs (o s : State) : (State.summaryChanged o s).trigs = s.trigs := by
  unfold State.summaryChanged; split <;> simp
@[simp] theorem State.summaryChanged_stems (o s : State) : (State.summaryChanged o s).stems = s.stems := by
  unfold State.summaryChanged; split <;> simp
@[simp] theorem State.summaryChanged_rends (o s : State) : (State.summaryChanged o s).rends = s.rends := by
  unfold State.summaryChanged; split <;> simp
@[simp] theorem State.summaryChanged_delivs (o s : State) : (State.summaryChanged o s).delivs = s.delivs := by
  unfold State.summaryChanged; split <;> simp
@[simp] theorem State.summaryChanged_cores (o s : State) : (State.summaryChanged o s).cores = s.cores := by
  unfold State.summaryChanged; split <;> simp
@[simp] theorem State.summaryChanged_riders (o s : State) : (State.summaryChanged o s).riders = s.riders := by
  unfold State.summaryChanged; split <;> simp
@[simp] theorem State.summaryChanged_riderDev (o s : State) : (State.summaryChanged o s).riderDev = s.riderDev := by
  unfold State.summaryChanged; split <;> simp
@[simp] theorem State.summaryChanged_jobs (o s : State) : (State.summaryChanged o s).jobs = s.jobs := by
  unfold State.summaryChanged; split <;> simp
@[simp] theorem State.summaryChanged_jobSeq (o s : State) : (State.summaryChanged o s).jobSeq = s.jobSeq := by
  unfold State.summaryChanged; split <;> simp
@[simp] theorem State.summaryChanged_hostFlows (o s : State) : (State.summaryChanged o s).hostFlows = s.hostFlows := by
  unfold State.summaryChanged; split <;> simp
@[simp] theorem State.summaryChanged_ctxs (o s : State) : (State.summaryChanged o s).ctxs = s.ctxs := by
  unfold State.summaryChanged; split <;> simp
@[simp] theorem State.summaryChanged_heads (o s : State) : (State.summaryChanged o s).heads = s.heads := by
  unfold State.summaryChanged; split <;> simp
@[simp] theorem State.summaryChanged_layers (o s : State) : (State.summaryChanged o s).layers = s.layers := by
  unfold State.summaryChanged; split <;> simp
@[simp] theorem State.summaryChanged_readback (o s : State) : (State.summaryChanged o s).readback = s.readback := by
  unfold State.summaryChanged; split <;> simp
@[simp] theorem State.summaryChanged_culverts (o s : State) : (State.summaryChanged o s).culverts = s.culverts := by
  unfold State.summaryChanged; split <;> simp
@[simp] theorem State.summaryChanged_dramStacks (o s : State) : (State.summaryChanged o s).dramStacks = s.dramStacks := by
  unfold State.summaryChanged; split <;> simp
@[simp] theorem State.summaryChanged_rmem (o s : State) : (State.summaryChanged o s).rmem = s.rmem := by
  unfold State.summaryChanged; split <;> simp
@[simp] theorem State.summaryChanged_dram (o s : State) : (State.summaryChanged o s).dram = s.dram := by
  unfold State.summaryChanged; split <;> simp
@[simp] theorem State.summaryChanged_capStamps (o s : State) : (State.summaryChanged o s).capStamps = s.capStamps := by
  unfold State.summaryChanged; split <;> simp
@[simp] theorem State.summaryChanged_remap (o s : State) : (State.summaryChanged o s).remap = s.remap := by
  unfold State.summaryChanged; split <;> simp
@[simp] theorem State.summaryChanged_busReqs (o s : State) : (State.summaryChanged o s).busReqs = s.busReqs := by
  unfold State.summaryChanged; split <;> simp
@[simp] theorem State.summaryChanged_gauges (o s : State) : (State.summaryChanged o s).gauges = s.gauges := by
  unfold State.summaryChanged; split <;> simp
@[simp] theorem State.summaryChanged_thermal (o s : State) : (State.summaryChanged o s).thermal = s.thermal := by
  unfold State.summaryChanged; split <;> simp
@[simp] theorem State.summaryChanged_image (o s : State) : (State.summaryChanged o s).image = s.image := by
  unfold State.summaryChanged; split <;> simp
@[simp] theorem State.summaryChanged_saved (o s : State) : (State.summaryChanged o s).saved = s.saved := by
  unfold State.summaryChanged; split <;> simp
@[simp] theorem State.summaryChanged_cal (o s : State) : (State.summaryChanged o s).cal = s.cal := by
  unfold State.summaryChanged; split <;> simp
@[simp] theorem State.summaryChanged_svc (o s : State) : (State.summaryChanged o s).svc = s.svc := by
  unfold State.summaryChanged; split <;> simp
@[simp] theorem State.summaryChanged_jtag (o s : State) : (State.summaryChanged o s).jtag = s.jtag := by
  unfold State.summaryChanged; split <;> simp
@[simp] theorem State.summaryChanged_pending (o s : State) : (State.summaryChanged o s).pending = s.pending := by
  unfold State.summaryChanged; split <;> simp

@[simp] theorem State.raise_time (s : State) (id u : Nat) : (s.raise id u).time = s.time := by
  unfold State.raise; split <;> simp
@[simp] theorem State.raise_freeCtr (s : State) (id u : Nat) : (s.raise id u).freeCtr = s.freeCtr := by
  unfold State.raise; split <;> simp
@[simp] theorem State.raise_pins (s : State) (id u : Nat) : (s.raise id u).pins = s.pins := by
  unfold State.raise; split <;> simp
@[simp] theorem State.raise_mode (s : State) (id u : Nat) : (s.raise id u).mode = s.mode := by
  unfold State.raise; split <;> simp
@[simp] theorem State.raise_rings (s : State) (id u : Nat) : (s.raise id u).rings = s.rings := by
  unfold State.raise; split <;> simp
@[simp] theorem State.raise_events (s : State) (id u : Nat) : (s.raise id u).events = s.events := by
  unfold State.raise; split <;> simp
@[simp] theorem State.raise_domains (s : State) (id u : Nat) : (s.raise id u).domains = s.domains := by
  unfold State.raise; split <;> simp
@[simp] theorem State.raise_openSets (s : State) (id u : Nat) : (s.raise id u).openSets = s.openSets := by
  unfold State.raise; split <;> simp
@[simp] theorem State.raise_parts (s : State) (id u : Nat) : (s.raise id u).parts = s.parts := by
  unfold State.raise; split <;> simp
@[simp] theorem State.raise_partSeq (s : State) (id u : Nat) : (s.raise id u).partSeq = s.partSeq := by
  unfold State.raise; split <;> simp
@[simp] theorem State.raise_fused (s : State) (id u : Nat) : (s.raise id u).fused = s.fused := by
  unfold State.raise; split <;> simp
@[simp] theorem State.raise_repair (s : State) (id u : Nat) : (s.raise id u).repair = s.repair := by
  unfold State.raise; split <;> simp
@[simp] theorem State.raise_counters (s : State) (id u : Nat) : (s.raise id u).counters = s.counters := by
  unfold State.raise; split <;> simp
@[simp] theorem State.raise_srcs (s : State) (id u : Nat) : (s.raise id u).srcs = s.srcs := by
  unfold State.raise; split <;> simp
@[simp] theorem State.raise_dsts (s : State) (id u : Nat) : (s.raise id u).dsts = s.dsts := by
  unfold State.raise; split <;> simp
@[simp] theorem State.raise_convs (s : State) (id u : Nat) : (s.raise id u).convs = s.convs := by
  unfold State.raise; split <;> simp
@[simp] theorem State.raise_ains (s : State) (id u : Nat) : (s.raise id u).ains = s.ains := by
  unfold State.raise; split <;> simp
@[simp] theorem State.raise_aouts (s : State) (id u : Nat) : (s.raise id u).aouts = s.aouts := by
  unfold State.raise; split <;> simp
@[simp] theorem State.raise_aports (s : State) (id u : Nat) : (s.raise id u).aports = s.aports := by
  unfold State.raise; split <;> simp
@[simp] theorem State.raise_lanes (s : State) (id u : Nat) : (s.raise id u).lanes = s.lanes := by
  unfold State.raise; split <;> simp
@[simp] theorem State.raise_buses (s : State) (id u : Nat) : (s.raise id u).buses = s.buses := by
  unfold State.raise; split <;> simp
@[simp] theorem State.raise_ports (s : State) (id u : Nat) : (s.raise id u).ports = s.ports := by
  unfold State.raise; split <;> simp
@[simp] theorem State.raise_flows (s : State) (id u : Nat) : (s.raise id u).flows = s.flows := by
  unfold State.raise; split <;> simp
@[simp] theorem State.raise_queues (s : State) (id u : Nat) : (s.raise id u).queues = s.queues := by
  unfold State.raise; split <;> simp
@[simp] theorem State.raise_gates (s : State) (id u : Nat) : (s.raise id u).gates = s.gates := by
  unfold State.raise; split <;> simp
@[simp] theorem State.raise_planes (s : State) (id u : Nat) : (s.raise id u).planes = s.planes := by
  unfold State.raise; split <;> simp
@[simp] theorem State.raise_levee (s : State) (id u : Nat) : (s.raise id u).levee = s.levee := by
  unfold State.raise; split <;> simp
@[simp] theorem State.raise_refs (s : State) (id u : Nat) : (s.raise id u).refs = s.refs := by
  unfold State.raise; split <;> simp
@[simp] theorem State.raise_hg (s : State) (id u : Nat) : (s.raise id u).hg = s.hg := by
  unfold State.raise; split <;> simp
@[simp] theorem State.raise_caps (s : State) (id u : Nat) : (s.raise id u).caps = s.caps := by
  unfold State.raise; split <;> simp
@[simp] theorem State.raise_trigs (s : State) (id u : Nat) : (s.raise id u).trigs = s.trigs := by
  unfold State.raise; split <;> simp
@[simp] theorem State.raise_stems (s : State) (id u : Nat) : (s.raise id u).stems = s.stems := by
  unfold State.raise; split <;> simp
@[simp] theorem State.raise_rends (s : State) (id u : Nat) : (s.raise id u).rends = s.rends := by
  unfold State.raise; split <;> simp
@[simp] theorem State.raise_delivs (s : State) (id u : Nat) : (s.raise id u).delivs = s.delivs := by
  unfold State.raise; split <;> simp
@[simp] theorem State.raise_cores (s : State) (id u : Nat) : (s.raise id u).cores = s.cores := by
  unfold State.raise; split <;> simp
@[simp] theorem State.raise_riders (s : State) (id u : Nat) : (s.raise id u).riders = s.riders := by
  unfold State.raise; split <;> simp
@[simp] theorem State.raise_riderDev (s : State) (id u : Nat) : (s.raise id u).riderDev = s.riderDev := by
  unfold State.raise; split <;> simp
@[simp] theorem State.raise_jobs (s : State) (id u : Nat) : (s.raise id u).jobs = s.jobs := by
  unfold State.raise; split <;> simp
@[simp] theorem State.raise_jobSeq (s : State) (id u : Nat) : (s.raise id u).jobSeq = s.jobSeq := by
  unfold State.raise; split <;> simp
@[simp] theorem State.raise_hostFlows (s : State) (id u : Nat) : (s.raise id u).hostFlows = s.hostFlows := by
  unfold State.raise; split <;> simp
@[simp] theorem State.raise_ctxs (s : State) (id u : Nat) : (s.raise id u).ctxs = s.ctxs := by
  unfold State.raise; split <;> simp
@[simp] theorem State.raise_heads (s : State) (id u : Nat) : (s.raise id u).heads = s.heads := by
  unfold State.raise; split <;> simp
@[simp] theorem State.raise_layers (s : State) (id u : Nat) : (s.raise id u).layers = s.layers := by
  unfold State.raise; split <;> simp
@[simp] theorem State.raise_readback (s : State) (id u : Nat) : (s.raise id u).readback = s.readback := by
  unfold State.raise; split <;> simp
@[simp] theorem State.raise_culverts (s : State) (id u : Nat) : (s.raise id u).culverts = s.culverts := by
  unfold State.raise; split <;> simp
@[simp] theorem State.raise_dramStacks (s : State) (id u : Nat) : (s.raise id u).dramStacks = s.dramStacks := by
  unfold State.raise; split <;> simp
@[simp] theorem State.raise_rmem (s : State) (id u : Nat) : (s.raise id u).rmem = s.rmem := by
  unfold State.raise; split <;> simp
@[simp] theorem State.raise_dram (s : State) (id u : Nat) : (s.raise id u).dram = s.dram := by
  unfold State.raise; split <;> simp
@[simp] theorem State.raise_capStamps (s : State) (id u : Nat) : (s.raise id u).capStamps = s.capStamps := by
  unfold State.raise; split <;> simp
@[simp] theorem State.raise_remap (s : State) (id u : Nat) : (s.raise id u).remap = s.remap := by
  unfold State.raise; split <;> simp
@[simp] theorem State.raise_busReqs (s : State) (id u : Nat) : (s.raise id u).busReqs = s.busReqs := by
  unfold State.raise; split <;> simp
@[simp] theorem State.raise_gauges (s : State) (id u : Nat) : (s.raise id u).gauges = s.gauges := by
  unfold State.raise; split <;> simp
@[simp] theorem State.raise_thermal (s : State) (id u : Nat) : (s.raise id u).thermal = s.thermal := by
  unfold State.raise; split <;> simp
@[simp] theorem State.raise_image (s : State) (id u : Nat) : (s.raise id u).image = s.image := by
  unfold State.raise; split <;> simp
@[simp] theorem State.raise_saved (s : State) (id u : Nat) : (s.raise id u).saved = s.saved := by
  unfold State.raise; split <;> simp
@[simp] theorem State.raise_cal (s : State) (id u : Nat) : (s.raise id u).cal = s.cal := by
  unfold State.raise; split <;> simp
@[simp] theorem State.raise_svc (s : State) (id u : Nat) : (s.raise id u).svc = s.svc := by
  unfold State.raise; split <;> simp
@[simp] theorem State.raise_jtag (s : State) (id u : Nat) : (s.raise id u).jtag = s.jtag := by
  unfold State.raise; split <;> simp
@[simp] theorem State.raise_pending (s : State) (id u : Nat) : (s.raise id u).pending = s.pending := by
  unfold State.raise; split <;> simp

@[simp] theorem State.clearAlarm_time (s : State) (id u : Nat) : (s.clearAlarm id u).time = s.time := by
  unfold State.clearAlarm; split <;> simp
@[simp] theorem State.clearAlarm_freeCtr (s : State) (id u : Nat) : (s.clearAlarm id u).freeCtr = s.freeCtr := by
  unfold State.clearAlarm; split <;> simp
@[simp] theorem State.clearAlarm_pins (s : State) (id u : Nat) : (s.clearAlarm id u).pins = s.pins := by
  unfold State.clearAlarm; split <;> simp
@[simp] theorem State.clearAlarm_mode (s : State) (id u : Nat) : (s.clearAlarm id u).mode = s.mode := by
  unfold State.clearAlarm; split <;> simp
@[simp] theorem State.clearAlarm_rings (s : State) (id u : Nat) : (s.clearAlarm id u).rings = s.rings := by
  unfold State.clearAlarm; split <;> simp
@[simp] theorem State.clearAlarm_events (s : State) (id u : Nat) : (s.clearAlarm id u).events = s.events := by
  unfold State.clearAlarm; split <;> simp
@[simp] theorem State.clearAlarm_storm (s : State) (id u : Nat) : (s.clearAlarm id u).storm = s.storm := by
  unfold State.clearAlarm; split <;> simp
@[simp] theorem State.clearAlarm_domains (s : State) (id u : Nat) : (s.clearAlarm id u).domains = s.domains := by
  unfold State.clearAlarm; split <;> simp
@[simp] theorem State.clearAlarm_openSets (s : State) (id u : Nat) : (s.clearAlarm id u).openSets = s.openSets := by
  unfold State.clearAlarm; split <;> simp
@[simp] theorem State.clearAlarm_parts (s : State) (id u : Nat) : (s.clearAlarm id u).parts = s.parts := by
  unfold State.clearAlarm; split <;> simp
@[simp] theorem State.clearAlarm_partSeq (s : State) (id u : Nat) : (s.clearAlarm id u).partSeq = s.partSeq := by
  unfold State.clearAlarm; split <;> simp
@[simp] theorem State.clearAlarm_fused (s : State) (id u : Nat) : (s.clearAlarm id u).fused = s.fused := by
  unfold State.clearAlarm; split <;> simp
@[simp] theorem State.clearAlarm_repair (s : State) (id u : Nat) : (s.clearAlarm id u).repair = s.repair := by
  unfold State.clearAlarm; split <;> simp
@[simp] theorem State.clearAlarm_counters (s : State) (id u : Nat) : (s.clearAlarm id u).counters = s.counters := by
  unfold State.clearAlarm; split <;> simp
@[simp] theorem State.clearAlarm_srcs (s : State) (id u : Nat) : (s.clearAlarm id u).srcs = s.srcs := by
  unfold State.clearAlarm; split <;> simp
@[simp] theorem State.clearAlarm_dsts (s : State) (id u : Nat) : (s.clearAlarm id u).dsts = s.dsts := by
  unfold State.clearAlarm; split <;> simp
@[simp] theorem State.clearAlarm_convs (s : State) (id u : Nat) : (s.clearAlarm id u).convs = s.convs := by
  unfold State.clearAlarm; split <;> simp
@[simp] theorem State.clearAlarm_ains (s : State) (id u : Nat) : (s.clearAlarm id u).ains = s.ains := by
  unfold State.clearAlarm; split <;> simp
@[simp] theorem State.clearAlarm_aouts (s : State) (id u : Nat) : (s.clearAlarm id u).aouts = s.aouts := by
  unfold State.clearAlarm; split <;> simp
@[simp] theorem State.clearAlarm_aports (s : State) (id u : Nat) : (s.clearAlarm id u).aports = s.aports := by
  unfold State.clearAlarm; split <;> simp
@[simp] theorem State.clearAlarm_lanes (s : State) (id u : Nat) : (s.clearAlarm id u).lanes = s.lanes := by
  unfold State.clearAlarm; split <;> simp
@[simp] theorem State.clearAlarm_buses (s : State) (id u : Nat) : (s.clearAlarm id u).buses = s.buses := by
  unfold State.clearAlarm; split <;> simp
@[simp] theorem State.clearAlarm_ports (s : State) (id u : Nat) : (s.clearAlarm id u).ports = s.ports := by
  unfold State.clearAlarm; split <;> simp
@[simp] theorem State.clearAlarm_flows (s : State) (id u : Nat) : (s.clearAlarm id u).flows = s.flows := by
  unfold State.clearAlarm; split <;> simp
@[simp] theorem State.clearAlarm_queues (s : State) (id u : Nat) : (s.clearAlarm id u).queues = s.queues := by
  unfold State.clearAlarm; split <;> simp
@[simp] theorem State.clearAlarm_gates (s : State) (id u : Nat) : (s.clearAlarm id u).gates = s.gates := by
  unfold State.clearAlarm; split <;> simp
@[simp] theorem State.clearAlarm_planes (s : State) (id u : Nat) : (s.clearAlarm id u).planes = s.planes := by
  unfold State.clearAlarm; split <;> simp
@[simp] theorem State.clearAlarm_levee (s : State) (id u : Nat) : (s.clearAlarm id u).levee = s.levee := by
  unfold State.clearAlarm; split <;> simp
@[simp] theorem State.clearAlarm_refs (s : State) (id u : Nat) : (s.clearAlarm id u).refs = s.refs := by
  unfold State.clearAlarm; split <;> simp
@[simp] theorem State.clearAlarm_hg (s : State) (id u : Nat) : (s.clearAlarm id u).hg = s.hg := by
  unfold State.clearAlarm; split <;> simp
@[simp] theorem State.clearAlarm_caps (s : State) (id u : Nat) : (s.clearAlarm id u).caps = s.caps := by
  unfold State.clearAlarm; split <;> simp
@[simp] theorem State.clearAlarm_trigs (s : State) (id u : Nat) : (s.clearAlarm id u).trigs = s.trigs := by
  unfold State.clearAlarm; split <;> simp
@[simp] theorem State.clearAlarm_stems (s : State) (id u : Nat) : (s.clearAlarm id u).stems = s.stems := by
  unfold State.clearAlarm; split <;> simp
@[simp] theorem State.clearAlarm_rends (s : State) (id u : Nat) : (s.clearAlarm id u).rends = s.rends := by
  unfold State.clearAlarm; split <;> simp
@[simp] theorem State.clearAlarm_delivs (s : State) (id u : Nat) : (s.clearAlarm id u).delivs = s.delivs := by
  unfold State.clearAlarm; split <;> simp
@[simp] theorem State.clearAlarm_cores (s : State) (id u : Nat) : (s.clearAlarm id u).cores = s.cores := by
  unfold State.clearAlarm; split <;> simp
@[simp] theorem State.clearAlarm_riders (s : State) (id u : Nat) : (s.clearAlarm id u).riders = s.riders := by
  unfold State.clearAlarm; split <;> simp
@[simp] theorem State.clearAlarm_riderDev (s : State) (id u : Nat) : (s.clearAlarm id u).riderDev = s.riderDev := by
  unfold State.clearAlarm; split <;> simp
@[simp] theorem State.clearAlarm_jobs (s : State) (id u : Nat) : (s.clearAlarm id u).jobs = s.jobs := by
  unfold State.clearAlarm; split <;> simp
@[simp] theorem State.clearAlarm_jobSeq (s : State) (id u : Nat) : (s.clearAlarm id u).jobSeq = s.jobSeq := by
  unfold State.clearAlarm; split <;> simp
@[simp] theorem State.clearAlarm_hostFlows (s : State) (id u : Nat) : (s.clearAlarm id u).hostFlows = s.hostFlows := by
  unfold State.clearAlarm; split <;> simp
@[simp] theorem State.clearAlarm_ctxs (s : State) (id u : Nat) : (s.clearAlarm id u).ctxs = s.ctxs := by
  unfold State.clearAlarm; split <;> simp
@[simp] theorem State.clearAlarm_heads (s : State) (id u : Nat) : (s.clearAlarm id u).heads = s.heads := by
  unfold State.clearAlarm; split <;> simp
@[simp] theorem State.clearAlarm_layers (s : State) (id u : Nat) : (s.clearAlarm id u).layers = s.layers := by
  unfold State.clearAlarm; split <;> simp
@[simp] theorem State.clearAlarm_readback (s : State) (id u : Nat) : (s.clearAlarm id u).readback = s.readback := by
  unfold State.clearAlarm; split <;> simp
@[simp] theorem State.clearAlarm_culverts (s : State) (id u : Nat) : (s.clearAlarm id u).culverts = s.culverts := by
  unfold State.clearAlarm; split <;> simp
@[simp] theorem State.clearAlarm_dramStacks (s : State) (id u : Nat) : (s.clearAlarm id u).dramStacks = s.dramStacks := by
  unfold State.clearAlarm; split <;> simp
@[simp] theorem State.clearAlarm_rmem (s : State) (id u : Nat) : (s.clearAlarm id u).rmem = s.rmem := by
  unfold State.clearAlarm; split <;> simp
@[simp] theorem State.clearAlarm_dram (s : State) (id u : Nat) : (s.clearAlarm id u).dram = s.dram := by
  unfold State.clearAlarm; split <;> simp
@[simp] theorem State.clearAlarm_capStamps (s : State) (id u : Nat) : (s.clearAlarm id u).capStamps = s.capStamps := by
  unfold State.clearAlarm; split <;> simp
@[simp] theorem State.clearAlarm_remap (s : State) (id u : Nat) : (s.clearAlarm id u).remap = s.remap := by
  unfold State.clearAlarm; split <;> simp
@[simp] theorem State.clearAlarm_busReqs (s : State) (id u : Nat) : (s.clearAlarm id u).busReqs = s.busReqs := by
  unfold State.clearAlarm; split <;> simp
@[simp] theorem State.clearAlarm_gauges (s : State) (id u : Nat) : (s.clearAlarm id u).gauges = s.gauges := by
  unfold State.clearAlarm; split <;> simp
@[simp] theorem State.clearAlarm_thermal (s : State) (id u : Nat) : (s.clearAlarm id u).thermal = s.thermal := by
  unfold State.clearAlarm; split <;> simp
@[simp] theorem State.clearAlarm_image (s : State) (id u : Nat) : (s.clearAlarm id u).image = s.image := by
  unfold State.clearAlarm; split <;> simp
@[simp] theorem State.clearAlarm_saved (s : State) (id u : Nat) : (s.clearAlarm id u).saved = s.saved := by
  unfold State.clearAlarm; split <;> simp
@[simp] theorem State.clearAlarm_cal (s : State) (id u : Nat) : (s.clearAlarm id u).cal = s.cal := by
  unfold State.clearAlarm; split <;> simp
@[simp] theorem State.clearAlarm_svc (s : State) (id u : Nat) : (s.clearAlarm id u).svc = s.svc := by
  unfold State.clearAlarm; split <;> simp
@[simp] theorem State.clearAlarm_jtag (s : State) (id u : Nat) : (s.clearAlarm id u).jtag = s.jtag := by
  unfold State.clearAlarm; split <;> simp
@[simp] theorem State.clearAlarm_pending (s : State) (id u : Nat) : (s.clearAlarm id u).pending = s.pending := by
  unfold State.clearAlarm; split <;> simp

@[simp] theorem State.advanceTo_freeCtr (s : State) (n : Nat) : (s.advanceTo n).freeCtr = s.freeCtr := Eq.trans rfl rfl
@[simp] theorem State.advanceTo_out (s : State) (n : Nat) : (s.advanceTo n).out = s.out := Eq.trans rfl rfl
@[simp] theorem State.advanceTo_pins (s : State) (n : Nat) : (s.advanceTo n).pins = s.pins := Eq.trans rfl rfl
@[simp] theorem State.advanceTo_mode (s : State) (n : Nat) : (s.advanceTo n).mode = s.mode := Eq.trans rfl rfl
@[simp] theorem State.advanceTo_rings (s : State) (n : Nat) : (s.advanceTo n).rings = s.rings := Eq.trans rfl rfl
@[simp] theorem State.advanceTo_ints (s : State) (n : Nat) : (s.advanceTo n).ints = s.ints := Eq.trans rfl rfl
@[simp] theorem State.advanceTo_events (s : State) (n : Nat) : (s.advanceTo n).events = s.events := Eq.trans rfl rfl
@[simp] theorem State.advanceTo_storm (s : State) (n : Nat) : (s.advanceTo n).storm = s.storm := Eq.trans rfl rfl
@[simp] theorem State.advanceTo_domains (s : State) (n : Nat) : (s.advanceTo n).domains = s.domains := Eq.trans rfl rfl
@[simp] theorem State.advanceTo_openSets (s : State) (n : Nat) : (s.advanceTo n).openSets = s.openSets := Eq.trans rfl rfl
@[simp] theorem State.advanceTo_parts (s : State) (n : Nat) : (s.advanceTo n).parts = s.parts := Eq.trans rfl rfl
@[simp] theorem State.advanceTo_partSeq (s : State) (n : Nat) : (s.advanceTo n).partSeq = s.partSeq := Eq.trans rfl rfl
@[simp] theorem State.advanceTo_fused (s : State) (n : Nat) : (s.advanceTo n).fused = s.fused := Eq.trans rfl rfl
@[simp] theorem State.advanceTo_repair (s : State) (n : Nat) : (s.advanceTo n).repair = s.repair := Eq.trans rfl rfl
@[simp] theorem State.advanceTo_counters (s : State) (n : Nat) : (s.advanceTo n).counters = s.counters := Eq.trans rfl rfl
@[simp] theorem State.advanceTo_alarms (s : State) (n : Nat) : (s.advanceTo n).alarms = s.alarms := Eq.trans rfl rfl
@[simp] theorem State.advanceTo_srcs (s : State) (n : Nat) : (s.advanceTo n).srcs = s.srcs := Eq.trans rfl rfl
@[simp] theorem State.advanceTo_dsts (s : State) (n : Nat) : (s.advanceTo n).dsts = s.dsts := Eq.trans rfl rfl
@[simp] theorem State.advanceTo_convs (s : State) (n : Nat) : (s.advanceTo n).convs = s.convs := Eq.trans rfl rfl
@[simp] theorem State.advanceTo_ains (s : State) (n : Nat) : (s.advanceTo n).ains = s.ains := Eq.trans rfl rfl
@[simp] theorem State.advanceTo_aouts (s : State) (n : Nat) : (s.advanceTo n).aouts = s.aouts := Eq.trans rfl rfl
@[simp] theorem State.advanceTo_aports (s : State) (n : Nat) : (s.advanceTo n).aports = s.aports := Eq.trans rfl rfl
@[simp] theorem State.advanceTo_lanes (s : State) (n : Nat) : (s.advanceTo n).lanes = s.lanes := Eq.trans rfl rfl
@[simp] theorem State.advanceTo_buses (s : State) (n : Nat) : (s.advanceTo n).buses = s.buses := Eq.trans rfl rfl
@[simp] theorem State.advanceTo_ports (s : State) (n : Nat) : (s.advanceTo n).ports = s.ports := Eq.trans rfl rfl
@[simp] theorem State.advanceTo_flows (s : State) (n : Nat) : (s.advanceTo n).flows = s.flows := Eq.trans rfl rfl
@[simp] theorem State.advanceTo_queues (s : State) (n : Nat) : (s.advanceTo n).queues = s.queues := Eq.trans rfl rfl
@[simp] theorem State.advanceTo_gates (s : State) (n : Nat) : (s.advanceTo n).gates = s.gates := Eq.trans rfl rfl
@[simp] theorem State.advanceTo_planes (s : State) (n : Nat) : (s.advanceTo n).planes = s.planes := Eq.trans rfl rfl
@[simp] theorem State.advanceTo_levee (s : State) (n : Nat) : (s.advanceTo n).levee = s.levee := Eq.trans rfl rfl
@[simp] theorem State.advanceTo_refs (s : State) (n : Nat) : (s.advanceTo n).refs = s.refs := Eq.trans rfl rfl
@[simp] theorem State.advanceTo_hg (s : State) (n : Nat) : (s.advanceTo n).hg = s.hg := Eq.trans rfl rfl
@[simp] theorem State.advanceTo_caps (s : State) (n : Nat) : (s.advanceTo n).caps = s.caps := Eq.trans rfl rfl
@[simp] theorem State.advanceTo_trigs (s : State) (n : Nat) : (s.advanceTo n).trigs = s.trigs := Eq.trans rfl rfl
@[simp] theorem State.advanceTo_stems (s : State) (n : Nat) : (s.advanceTo n).stems = s.stems := Eq.trans rfl rfl
@[simp] theorem State.advanceTo_rends (s : State) (n : Nat) : (s.advanceTo n).rends = s.rends := Eq.trans rfl rfl
@[simp] theorem State.advanceTo_delivs (s : State) (n : Nat) : (s.advanceTo n).delivs = s.delivs := Eq.trans rfl rfl
@[simp] theorem State.advanceTo_cores (s : State) (n : Nat) : (s.advanceTo n).cores = s.cores := Eq.trans rfl rfl
@[simp] theorem State.advanceTo_riders (s : State) (n : Nat) : (s.advanceTo n).riders = s.riders := Eq.trans rfl rfl
@[simp] theorem State.advanceTo_riderDev (s : State) (n : Nat) : (s.advanceTo n).riderDev = s.riderDev := Eq.trans rfl rfl
@[simp] theorem State.advanceTo_jobs (s : State) (n : Nat) : (s.advanceTo n).jobs = s.jobs := Eq.trans rfl rfl
@[simp] theorem State.advanceTo_jobSeq (s : State) (n : Nat) : (s.advanceTo n).jobSeq = s.jobSeq := Eq.trans rfl rfl
@[simp] theorem State.advanceTo_hostFlows (s : State) (n : Nat) : (s.advanceTo n).hostFlows = s.hostFlows := Eq.trans rfl rfl
@[simp] theorem State.advanceTo_ctxs (s : State) (n : Nat) : (s.advanceTo n).ctxs = s.ctxs := Eq.trans rfl rfl
@[simp] theorem State.advanceTo_heads (s : State) (n : Nat) : (s.advanceTo n).heads = s.heads := Eq.trans rfl rfl
@[simp] theorem State.advanceTo_layers (s : State) (n : Nat) : (s.advanceTo n).layers = s.layers := Eq.trans rfl rfl
@[simp] theorem State.advanceTo_readback (s : State) (n : Nat) : (s.advanceTo n).readback = s.readback := Eq.trans rfl rfl
@[simp] theorem State.advanceTo_culverts (s : State) (n : Nat) : (s.advanceTo n).culverts = s.culverts := Eq.trans rfl rfl
@[simp] theorem State.advanceTo_dramStacks (s : State) (n : Nat) : (s.advanceTo n).dramStacks = s.dramStacks := Eq.trans rfl rfl
@[simp] theorem State.advanceTo_rmem (s : State) (n : Nat) : (s.advanceTo n).rmem = s.rmem := Eq.trans rfl rfl
@[simp] theorem State.advanceTo_dram (s : State) (n : Nat) : (s.advanceTo n).dram = s.dram := Eq.trans rfl rfl
@[simp] theorem State.advanceTo_capStamps (s : State) (n : Nat) : (s.advanceTo n).capStamps = s.capStamps := Eq.trans rfl rfl
@[simp] theorem State.advanceTo_remap (s : State) (n : Nat) : (s.advanceTo n).remap = s.remap := Eq.trans rfl rfl
@[simp] theorem State.advanceTo_busReqs (s : State) (n : Nat) : (s.advanceTo n).busReqs = s.busReqs := Eq.trans rfl rfl
@[simp] theorem State.advanceTo_gauges (s : State) (n : Nat) : (s.advanceTo n).gauges = s.gauges := Eq.trans rfl rfl
@[simp] theorem State.advanceTo_thermal (s : State) (n : Nat) : (s.advanceTo n).thermal = s.thermal := Eq.trans rfl rfl
@[simp] theorem State.advanceTo_image (s : State) (n : Nat) : (s.advanceTo n).image = s.image := Eq.trans rfl rfl
@[simp] theorem State.advanceTo_saved (s : State) (n : Nat) : (s.advanceTo n).saved = s.saved := Eq.trans rfl rfl
@[simp] theorem State.advanceTo_cal (s : State) (n : Nat) : (s.advanceTo n).cal = s.cal := Eq.trans rfl rfl
@[simp] theorem State.advanceTo_svc (s : State) (n : Nat) : (s.advanceTo n).svc = s.svc := Eq.trans rfl rfl
@[simp] theorem State.advanceTo_jtag (s : State) (n : Nat) : (s.advanceTo n).jtag = s.jtag := Eq.trans rfl rfl
@[simp] theorem State.advanceTo_pending (s : State) (n : Nat) : (s.advanceTo n).pending = s.pending := Eq.trans rfl rfl

@[simp] theorem State.ringError_time (s : State) (n b : Nat) : (s.ringError n b).time = s.time := by
  simp [State.ringError]
@[simp] theorem State.ringError_freeCtr (s : State) (n b : Nat) : (s.ringError n b).freeCtr = s.freeCtr := by
  simp [State.ringError]
@[simp] theorem State.ringError_pins (s : State) (n b : Nat) : (s.ringError n b).pins = s.pins := by
  simp [State.ringError]
@[simp] theorem State.ringError_mode (s : State) (n b : Nat) : (s.ringError n b).mode = s.mode := by
  simp [State.ringError]
@[simp] theorem State.ringError_domains (s : State) (n b : Nat) : (s.ringError n b).domains = s.domains := by
  simp [State.ringError]
@[simp] theorem State.ringError_openSets (s : State) (n b : Nat) : (s.ringError n b).openSets = s.openSets := by
  simp [State.ringError]
@[simp] theorem State.ringError_parts (s : State) (n b : Nat) : (s.ringError n b).parts = s.parts := by
  simp [State.ringError]
@[simp] theorem State.ringError_partSeq (s : State) (n b : Nat) : (s.ringError n b).partSeq = s.partSeq := by
  simp [State.ringError]
@[simp] theorem State.ringError_fused (s : State) (n b : Nat) : (s.ringError n b).fused = s.fused := by
  simp [State.ringError]
@[simp] theorem State.ringError_repair (s : State) (n b : Nat) : (s.ringError n b).repair = s.repair := by
  simp [State.ringError]
@[simp] theorem State.ringError_alarms (s : State) (n b : Nat) : (s.ringError n b).alarms = s.alarms := by
  simp [State.ringError]
@[simp] theorem State.ringError_srcs (s : State) (n b : Nat) : (s.ringError n b).srcs = s.srcs := by
  simp [State.ringError]
@[simp] theorem State.ringError_dsts (s : State) (n b : Nat) : (s.ringError n b).dsts = s.dsts := by
  simp [State.ringError]
@[simp] theorem State.ringError_convs (s : State) (n b : Nat) : (s.ringError n b).convs = s.convs := by
  simp [State.ringError]
@[simp] theorem State.ringError_ains (s : State) (n b : Nat) : (s.ringError n b).ains = s.ains := by
  simp [State.ringError]
@[simp] theorem State.ringError_aouts (s : State) (n b : Nat) : (s.ringError n b).aouts = s.aouts := by
  simp [State.ringError]
@[simp] theorem State.ringError_aports (s : State) (n b : Nat) : (s.ringError n b).aports = s.aports := by
  simp [State.ringError]
@[simp] theorem State.ringError_lanes (s : State) (n b : Nat) : (s.ringError n b).lanes = s.lanes := by
  simp [State.ringError]
@[simp] theorem State.ringError_buses (s : State) (n b : Nat) : (s.ringError n b).buses = s.buses := by
  simp [State.ringError]
@[simp] theorem State.ringError_ports (s : State) (n b : Nat) : (s.ringError n b).ports = s.ports := by
  simp [State.ringError]
@[simp] theorem State.ringError_flows (s : State) (n b : Nat) : (s.ringError n b).flows = s.flows := by
  simp [State.ringError]
@[simp] theorem State.ringError_queues (s : State) (n b : Nat) : (s.ringError n b).queues = s.queues := by
  simp [State.ringError]
@[simp] theorem State.ringError_gates (s : State) (n b : Nat) : (s.ringError n b).gates = s.gates := by
  simp [State.ringError]
@[simp] theorem State.ringError_planes (s : State) (n b : Nat) : (s.ringError n b).planes = s.planes := by
  simp [State.ringError]
@[simp] theorem State.ringError_levee (s : State) (n b : Nat) : (s.ringError n b).levee = s.levee := by
  simp [State.ringError]
@[simp] theorem State.ringError_refs (s : State) (n b : Nat) : (s.ringError n b).refs = s.refs := by
  simp [State.ringError]
@[simp] theorem State.ringError_hg (s : State) (n b : Nat) : (s.ringError n b).hg = s.hg := by
  simp [State.ringError]
@[simp] theorem State.ringError_caps (s : State) (n b : Nat) : (s.ringError n b).caps = s.caps := by
  simp [State.ringError]
@[simp] theorem State.ringError_trigs (s : State) (n b : Nat) : (s.ringError n b).trigs = s.trigs := by
  simp [State.ringError]
@[simp] theorem State.ringError_stems (s : State) (n b : Nat) : (s.ringError n b).stems = s.stems := by
  simp [State.ringError]
@[simp] theorem State.ringError_rends (s : State) (n b : Nat) : (s.ringError n b).rends = s.rends := by
  simp [State.ringError]
@[simp] theorem State.ringError_delivs (s : State) (n b : Nat) : (s.ringError n b).delivs = s.delivs := by
  simp [State.ringError]
@[simp] theorem State.ringError_cores (s : State) (n b : Nat) : (s.ringError n b).cores = s.cores := by
  simp [State.ringError]
@[simp] theorem State.ringError_riders (s : State) (n b : Nat) : (s.ringError n b).riders = s.riders := by
  simp [State.ringError]
@[simp] theorem State.ringError_riderDev (s : State) (n b : Nat) : (s.ringError n b).riderDev = s.riderDev := by
  simp [State.ringError]
@[simp] theorem State.ringError_jobs (s : State) (n b : Nat) : (s.ringError n b).jobs = s.jobs := by
  simp [State.ringError]
@[simp] theorem State.ringError_jobSeq (s : State) (n b : Nat) : (s.ringError n b).jobSeq = s.jobSeq := by
  simp [State.ringError]
@[simp] theorem State.ringError_hostFlows (s : State) (n b : Nat) : (s.ringError n b).hostFlows = s.hostFlows := by
  simp [State.ringError]
@[simp] theorem State.ringError_ctxs (s : State) (n b : Nat) : (s.ringError n b).ctxs = s.ctxs := by
  simp [State.ringError]
@[simp] theorem State.ringError_heads (s : State) (n b : Nat) : (s.ringError n b).heads = s.heads := by
  simp [State.ringError]
@[simp] theorem State.ringError_layers (s : State) (n b : Nat) : (s.ringError n b).layers = s.layers := by
  simp [State.ringError]
@[simp] theorem State.ringError_readback (s : State) (n b : Nat) : (s.ringError n b).readback = s.readback := by
  simp [State.ringError]
@[simp] theorem State.ringError_culverts (s : State) (n b : Nat) : (s.ringError n b).culverts = s.culverts := by
  simp [State.ringError]
@[simp] theorem State.ringError_dramStacks (s : State) (n b : Nat) : (s.ringError n b).dramStacks = s.dramStacks := by
  simp [State.ringError]
@[simp] theorem State.ringError_rmem (s : State) (n b : Nat) : (s.ringError n b).rmem = s.rmem := by
  simp [State.ringError]
@[simp] theorem State.ringError_dram (s : State) (n b : Nat) : (s.ringError n b).dram = s.dram := by
  simp [State.ringError]
@[simp] theorem State.ringError_capStamps (s : State) (n b : Nat) : (s.ringError n b).capStamps = s.capStamps := by
  simp [State.ringError]
@[simp] theorem State.ringError_remap (s : State) (n b : Nat) : (s.ringError n b).remap = s.remap := by
  simp [State.ringError]
@[simp] theorem State.ringError_busReqs (s : State) (n b : Nat) : (s.ringError n b).busReqs = s.busReqs := by
  simp [State.ringError]
@[simp] theorem State.ringError_gauges (s : State) (n b : Nat) : (s.ringError n b).gauges = s.gauges := by
  simp [State.ringError]
@[simp] theorem State.ringError_thermal (s : State) (n b : Nat) : (s.ringError n b).thermal = s.thermal := by
  simp [State.ringError]
@[simp] theorem State.ringError_image (s : State) (n b : Nat) : (s.ringError n b).image = s.image := by
  simp [State.ringError]
@[simp] theorem State.ringError_saved (s : State) (n b : Nat) : (s.ringError n b).saved = s.saved := by
  simp [State.ringError]
@[simp] theorem State.ringError_cal (s : State) (n b : Nat) : (s.ringError n b).cal = s.cal := by
  simp [State.ringError]
@[simp] theorem State.ringError_svc (s : State) (n b : Nat) : (s.ringError n b).svc = s.svc := by
  simp [State.ringError]
@[simp] theorem State.ringError_jtag (s : State) (n b : Nat) : (s.ringError n b).jtag = s.jtag := by
  simp [State.ringError]
@[simp] theorem State.ringError_pending (s : State) (n b : Nat) : (s.ringError n b).pending = s.pending := by
  simp [State.ringError]

@[simp] theorem State.replyRing_time (s : State) (n v : Nat) (r : Request) (a : Answer) : (s.replyRing n v r a).time = s.time := by
  unfold State.replyRing; dsimp only; split <;> simp
@[simp] theorem State.replyRing_freeCtr (s : State) (n v : Nat) (r : Request) (a : Answer) : (s.replyRing n v r a).freeCtr = s.freeCtr := by
  unfold State.replyRing; dsimp only; split <;> simp
@[simp] theorem State.replyRing_pins (s : State) (n v : Nat) (r : Request) (a : Answer) : (s.replyRing n v r a).pins = s.pins := by
  unfold State.replyRing; dsimp only; split <;> simp
@[simp] theorem State.replyRing_mode (s : State) (n v : Nat) (r : Request) (a : Answer) : (s.replyRing n v r a).mode = s.mode := by
  unfold State.replyRing; dsimp only; split <;> simp
@[simp] theorem State.replyRing_events (s : State) (n v : Nat) (r : Request) (a : Answer) : (s.replyRing n v r a).events = s.events := by
  unfold State.replyRing; dsimp only; split <;> simp
@[simp] theorem State.replyRing_storm (s : State) (n v : Nat) (r : Request) (a : Answer) : (s.replyRing n v r a).storm = s.storm := by
  unfold State.replyRing; dsimp only; split <;> simp
@[simp] theorem State.replyRing_domains (s : State) (n v : Nat) (r : Request) (a : Answer) : (s.replyRing n v r a).domains = s.domains := by
  unfold State.replyRing; dsimp only; split <;> simp
@[simp] theorem State.replyRing_openSets (s : State) (n v : Nat) (r : Request) (a : Answer) : (s.replyRing n v r a).openSets = s.openSets := by
  unfold State.replyRing; dsimp only; split <;> simp
@[simp] theorem State.replyRing_parts (s : State) (n v : Nat) (r : Request) (a : Answer) : (s.replyRing n v r a).parts = s.parts := by
  unfold State.replyRing; dsimp only; split <;> simp
@[simp] theorem State.replyRing_partSeq (s : State) (n v : Nat) (r : Request) (a : Answer) : (s.replyRing n v r a).partSeq = s.partSeq := by
  unfold State.replyRing; dsimp only; split <;> simp
@[simp] theorem State.replyRing_fused (s : State) (n v : Nat) (r : Request) (a : Answer) : (s.replyRing n v r a).fused = s.fused := by
  unfold State.replyRing; dsimp only; split <;> simp
@[simp] theorem State.replyRing_repair (s : State) (n v : Nat) (r : Request) (a : Answer) : (s.replyRing n v r a).repair = s.repair := by
  unfold State.replyRing; dsimp only; split <;> simp
@[simp] theorem State.replyRing_counters (s : State) (n v : Nat) (r : Request) (a : Answer) : (s.replyRing n v r a).counters = s.counters := by
  unfold State.replyRing; dsimp only; split <;> simp
@[simp] theorem State.replyRing_alarms (s : State) (n v : Nat) (r : Request) (a : Answer) : (s.replyRing n v r a).alarms = s.alarms := by
  unfold State.replyRing; dsimp only; split <;> simp
@[simp] theorem State.replyRing_srcs (s : State) (n v : Nat) (r : Request) (a : Answer) : (s.replyRing n v r a).srcs = s.srcs := by
  unfold State.replyRing; dsimp only; split <;> simp
@[simp] theorem State.replyRing_dsts (s : State) (n v : Nat) (r : Request) (a : Answer) : (s.replyRing n v r a).dsts = s.dsts := by
  unfold State.replyRing; dsimp only; split <;> simp
@[simp] theorem State.replyRing_convs (s : State) (n v : Nat) (r : Request) (a : Answer) : (s.replyRing n v r a).convs = s.convs := by
  unfold State.replyRing; dsimp only; split <;> simp
@[simp] theorem State.replyRing_ains (s : State) (n v : Nat) (r : Request) (a : Answer) : (s.replyRing n v r a).ains = s.ains := by
  unfold State.replyRing; dsimp only; split <;> simp
@[simp] theorem State.replyRing_aouts (s : State) (n v : Nat) (r : Request) (a : Answer) : (s.replyRing n v r a).aouts = s.aouts := by
  unfold State.replyRing; dsimp only; split <;> simp
@[simp] theorem State.replyRing_aports (s : State) (n v : Nat) (r : Request) (a : Answer) : (s.replyRing n v r a).aports = s.aports := by
  unfold State.replyRing; dsimp only; split <;> simp
@[simp] theorem State.replyRing_lanes (s : State) (n v : Nat) (r : Request) (a : Answer) : (s.replyRing n v r a).lanes = s.lanes := by
  unfold State.replyRing; dsimp only; split <;> simp
@[simp] theorem State.replyRing_buses (s : State) (n v : Nat) (r : Request) (a : Answer) : (s.replyRing n v r a).buses = s.buses := by
  unfold State.replyRing; dsimp only; split <;> simp
@[simp] theorem State.replyRing_ports (s : State) (n v : Nat) (r : Request) (a : Answer) : (s.replyRing n v r a).ports = s.ports := by
  unfold State.replyRing; dsimp only; split <;> simp
@[simp] theorem State.replyRing_flows (s : State) (n v : Nat) (r : Request) (a : Answer) : (s.replyRing n v r a).flows = s.flows := by
  unfold State.replyRing; dsimp only; split <;> simp
@[simp] theorem State.replyRing_queues (s : State) (n v : Nat) (r : Request) (a : Answer) : (s.replyRing n v r a).queues = s.queues := by
  unfold State.replyRing; dsimp only; split <;> simp
@[simp] theorem State.replyRing_gates (s : State) (n v : Nat) (r : Request) (a : Answer) : (s.replyRing n v r a).gates = s.gates := by
  unfold State.replyRing; dsimp only; split <;> simp
@[simp] theorem State.replyRing_planes (s : State) (n v : Nat) (r : Request) (a : Answer) : (s.replyRing n v r a).planes = s.planes := by
  unfold State.replyRing; dsimp only; split <;> simp
@[simp] theorem State.replyRing_levee (s : State) (n v : Nat) (r : Request) (a : Answer) : (s.replyRing n v r a).levee = s.levee := by
  unfold State.replyRing; dsimp only; split <;> simp
@[simp] theorem State.replyRing_refs (s : State) (n v : Nat) (r : Request) (a : Answer) : (s.replyRing n v r a).refs = s.refs := by
  unfold State.replyRing; dsimp only; split <;> simp
@[simp] theorem State.replyRing_hg (s : State) (n v : Nat) (r : Request) (a : Answer) : (s.replyRing n v r a).hg = s.hg := by
  unfold State.replyRing; dsimp only; split <;> simp
@[simp] theorem State.replyRing_caps (s : State) (n v : Nat) (r : Request) (a : Answer) : (s.replyRing n v r a).caps = s.caps := by
  unfold State.replyRing; dsimp only; split <;> simp
@[simp] theorem State.replyRing_trigs (s : State) (n v : Nat) (r : Request) (a : Answer) : (s.replyRing n v r a).trigs = s.trigs := by
  unfold State.replyRing; dsimp only; split <;> simp
@[simp] theorem State.replyRing_stems (s : State) (n v : Nat) (r : Request) (a : Answer) : (s.replyRing n v r a).stems = s.stems := by
  unfold State.replyRing; dsimp only; split <;> simp
@[simp] theorem State.replyRing_rends (s : State) (n v : Nat) (r : Request) (a : Answer) : (s.replyRing n v r a).rends = s.rends := by
  unfold State.replyRing; dsimp only; split <;> simp
@[simp] theorem State.replyRing_delivs (s : State) (n v : Nat) (r : Request) (a : Answer) : (s.replyRing n v r a).delivs = s.delivs := by
  unfold State.replyRing; dsimp only; split <;> simp
@[simp] theorem State.replyRing_cores (s : State) (n v : Nat) (r : Request) (a : Answer) : (s.replyRing n v r a).cores = s.cores := by
  unfold State.replyRing; dsimp only; split <;> simp
@[simp] theorem State.replyRing_riders (s : State) (n v : Nat) (r : Request) (a : Answer) : (s.replyRing n v r a).riders = s.riders := by
  unfold State.replyRing; dsimp only; split <;> simp
@[simp] theorem State.replyRing_riderDev (s : State) (n v : Nat) (r : Request) (a : Answer) : (s.replyRing n v r a).riderDev = s.riderDev := by
  unfold State.replyRing; dsimp only; split <;> simp
@[simp] theorem State.replyRing_jobs (s : State) (n v : Nat) (r : Request) (a : Answer) : (s.replyRing n v r a).jobs = s.jobs := by
  unfold State.replyRing; dsimp only; split <;> simp
@[simp] theorem State.replyRing_jobSeq (s : State) (n v : Nat) (r : Request) (a : Answer) : (s.replyRing n v r a).jobSeq = s.jobSeq := by
  unfold State.replyRing; dsimp only; split <;> simp
@[simp] theorem State.replyRing_hostFlows (s : State) (n v : Nat) (r : Request) (a : Answer) : (s.replyRing n v r a).hostFlows = s.hostFlows := by
  unfold State.replyRing; dsimp only; split <;> simp
@[simp] theorem State.replyRing_ctxs (s : State) (n v : Nat) (r : Request) (a : Answer) : (s.replyRing n v r a).ctxs = s.ctxs := by
  unfold State.replyRing; dsimp only; split <;> simp
@[simp] theorem State.replyRing_heads (s : State) (n v : Nat) (r : Request) (a : Answer) : (s.replyRing n v r a).heads = s.heads := by
  unfold State.replyRing; dsimp only; split <;> simp
@[simp] theorem State.replyRing_layers (s : State) (n v : Nat) (r : Request) (a : Answer) : (s.replyRing n v r a).layers = s.layers := by
  unfold State.replyRing; dsimp only; split <;> simp
@[simp] theorem State.replyRing_readback (s : State) (n v : Nat) (r : Request) (a : Answer) : (s.replyRing n v r a).readback = s.readback := by
  unfold State.replyRing; dsimp only; split <;> simp
@[simp] theorem State.replyRing_culverts (s : State) (n v : Nat) (r : Request) (a : Answer) : (s.replyRing n v r a).culverts = s.culverts := by
  unfold State.replyRing; dsimp only; split <;> simp
@[simp] theorem State.replyRing_dramStacks (s : State) (n v : Nat) (r : Request) (a : Answer) : (s.replyRing n v r a).dramStacks = s.dramStacks := by
  unfold State.replyRing; dsimp only; split <;> simp
@[simp] theorem State.replyRing_rmem (s : State) (n v : Nat) (r : Request) (a : Answer) : (s.replyRing n v r a).rmem = s.rmem := by
  unfold State.replyRing; dsimp only; split <;> simp
@[simp] theorem State.replyRing_dram (s : State) (n v : Nat) (r : Request) (a : Answer) : (s.replyRing n v r a).dram = s.dram := by
  unfold State.replyRing; dsimp only; split <;> simp
@[simp] theorem State.replyRing_capStamps (s : State) (n v : Nat) (r : Request) (a : Answer) : (s.replyRing n v r a).capStamps = s.capStamps := by
  unfold State.replyRing; dsimp only; split <;> simp
@[simp] theorem State.replyRing_remap (s : State) (n v : Nat) (r : Request) (a : Answer) : (s.replyRing n v r a).remap = s.remap := by
  unfold State.replyRing; dsimp only; split <;> simp
@[simp] theorem State.replyRing_busReqs (s : State) (n v : Nat) (r : Request) (a : Answer) : (s.replyRing n v r a).busReqs = s.busReqs := by
  unfold State.replyRing; dsimp only; split <;> simp
@[simp] theorem State.replyRing_gauges (s : State) (n v : Nat) (r : Request) (a : Answer) : (s.replyRing n v r a).gauges = s.gauges := by
  unfold State.replyRing; dsimp only; split <;> simp
@[simp] theorem State.replyRing_thermal (s : State) (n v : Nat) (r : Request) (a : Answer) : (s.replyRing n v r a).thermal = s.thermal := by
  unfold State.replyRing; dsimp only; split <;> simp
@[simp] theorem State.replyRing_image (s : State) (n v : Nat) (r : Request) (a : Answer) : (s.replyRing n v r a).image = s.image := by
  unfold State.replyRing; dsimp only; split <;> simp
@[simp] theorem State.replyRing_saved (s : State) (n v : Nat) (r : Request) (a : Answer) : (s.replyRing n v r a).saved = s.saved := by
  unfold State.replyRing; dsimp only; split <;> simp
@[simp] theorem State.replyRing_cal (s : State) (n v : Nat) (r : Request) (a : Answer) : (s.replyRing n v r a).cal = s.cal := by
  unfold State.replyRing; dsimp only; split <;> simp
@[simp] theorem State.replyRing_svc (s : State) (n v : Nat) (r : Request) (a : Answer) : (s.replyRing n v r a).svc = s.svc := by
  unfold State.replyRing; dsimp only; split <;> simp
@[simp] theorem State.replyRing_jtag (s : State) (n v : Nat) (r : Request) (a : Answer) : (s.replyRing n v r a).jtag = s.jtag := by
  unfold State.replyRing; dsimp only; split <;> simp
@[simp] theorem State.replyRing_pending (s : State) (n v : Nat) (r : Request) (a : Answer) : (s.replyRing n v r a).pending = s.pending := by
  unfold State.replyRing; dsimp only; split <;> simp

@[simp] theorem State.reply_time (s : State) (v : Nat) (r : Request) (a : Answer) : (s.reply v r a).time = s.time := by
  unfold State.reply; split <;> simp
@[simp] theorem State.reply_freeCtr (s : State) (v : Nat) (r : Request) (a : Answer) : (s.reply v r a).freeCtr = s.freeCtr := by
  unfold State.reply; split <;> simp
@[simp] theorem State.reply_pins (s : State) (v : Nat) (r : Request) (a : Answer) : (s.reply v r a).pins = s.pins := by
  unfold State.reply; split <;> simp
@[simp] theorem State.reply_mode (s : State) (v : Nat) (r : Request) (a : Answer) : (s.reply v r a).mode = s.mode := by
  unfold State.reply; split <;> simp
@[simp] theorem State.reply_events (s : State) (v : Nat) (r : Request) (a : Answer) : (s.reply v r a).events = s.events := by
  unfold State.reply; split <;> simp
@[simp] theorem State.reply_storm (s : State) (v : Nat) (r : Request) (a : Answer) : (s.reply v r a).storm = s.storm := by
  unfold State.reply; split <;> simp
@[simp] theorem State.reply_domains (s : State) (v : Nat) (r : Request) (a : Answer) : (s.reply v r a).domains = s.domains := by
  unfold State.reply; split <;> simp
@[simp] theorem State.reply_openSets (s : State) (v : Nat) (r : Request) (a : Answer) : (s.reply v r a).openSets = s.openSets := by
  unfold State.reply; split <;> simp
@[simp] theorem State.reply_parts (s : State) (v : Nat) (r : Request) (a : Answer) : (s.reply v r a).parts = s.parts := by
  unfold State.reply; split <;> simp
@[simp] theorem State.reply_partSeq (s : State) (v : Nat) (r : Request) (a : Answer) : (s.reply v r a).partSeq = s.partSeq := by
  unfold State.reply; split <;> simp
@[simp] theorem State.reply_fused (s : State) (v : Nat) (r : Request) (a : Answer) : (s.reply v r a).fused = s.fused := by
  unfold State.reply; split <;> simp
@[simp] theorem State.reply_repair (s : State) (v : Nat) (r : Request) (a : Answer) : (s.reply v r a).repair = s.repair := by
  unfold State.reply; split <;> simp
@[simp] theorem State.reply_counters (s : State) (v : Nat) (r : Request) (a : Answer) : (s.reply v r a).counters = s.counters := by
  unfold State.reply; split <;> simp
@[simp] theorem State.reply_alarms (s : State) (v : Nat) (r : Request) (a : Answer) : (s.reply v r a).alarms = s.alarms := by
  unfold State.reply; split <;> simp
@[simp] theorem State.reply_srcs (s : State) (v : Nat) (r : Request) (a : Answer) : (s.reply v r a).srcs = s.srcs := by
  unfold State.reply; split <;> simp
@[simp] theorem State.reply_dsts (s : State) (v : Nat) (r : Request) (a : Answer) : (s.reply v r a).dsts = s.dsts := by
  unfold State.reply; split <;> simp
@[simp] theorem State.reply_convs (s : State) (v : Nat) (r : Request) (a : Answer) : (s.reply v r a).convs = s.convs := by
  unfold State.reply; split <;> simp
@[simp] theorem State.reply_ains (s : State) (v : Nat) (r : Request) (a : Answer) : (s.reply v r a).ains = s.ains := by
  unfold State.reply; split <;> simp
@[simp] theorem State.reply_aouts (s : State) (v : Nat) (r : Request) (a : Answer) : (s.reply v r a).aouts = s.aouts := by
  unfold State.reply; split <;> simp
@[simp] theorem State.reply_aports (s : State) (v : Nat) (r : Request) (a : Answer) : (s.reply v r a).aports = s.aports := by
  unfold State.reply; split <;> simp
@[simp] theorem State.reply_lanes (s : State) (v : Nat) (r : Request) (a : Answer) : (s.reply v r a).lanes = s.lanes := by
  unfold State.reply; split <;> simp
@[simp] theorem State.reply_buses (s : State) (v : Nat) (r : Request) (a : Answer) : (s.reply v r a).buses = s.buses := by
  unfold State.reply; split <;> simp
@[simp] theorem State.reply_ports (s : State) (v : Nat) (r : Request) (a : Answer) : (s.reply v r a).ports = s.ports := by
  unfold State.reply; split <;> simp
@[simp] theorem State.reply_flows (s : State) (v : Nat) (r : Request) (a : Answer) : (s.reply v r a).flows = s.flows := by
  unfold State.reply; split <;> simp
@[simp] theorem State.reply_queues (s : State) (v : Nat) (r : Request) (a : Answer) : (s.reply v r a).queues = s.queues := by
  unfold State.reply; split <;> simp
@[simp] theorem State.reply_gates (s : State) (v : Nat) (r : Request) (a : Answer) : (s.reply v r a).gates = s.gates := by
  unfold State.reply; split <;> simp
@[simp] theorem State.reply_planes (s : State) (v : Nat) (r : Request) (a : Answer) : (s.reply v r a).planes = s.planes := by
  unfold State.reply; split <;> simp
@[simp] theorem State.reply_levee (s : State) (v : Nat) (r : Request) (a : Answer) : (s.reply v r a).levee = s.levee := by
  unfold State.reply; split <;> simp
@[simp] theorem State.reply_refs (s : State) (v : Nat) (r : Request) (a : Answer) : (s.reply v r a).refs = s.refs := by
  unfold State.reply; split <;> simp
@[simp] theorem State.reply_hg (s : State) (v : Nat) (r : Request) (a : Answer) : (s.reply v r a).hg = s.hg := by
  unfold State.reply; split <;> simp
@[simp] theorem State.reply_caps (s : State) (v : Nat) (r : Request) (a : Answer) : (s.reply v r a).caps = s.caps := by
  unfold State.reply; split <;> simp
@[simp] theorem State.reply_trigs (s : State) (v : Nat) (r : Request) (a : Answer) : (s.reply v r a).trigs = s.trigs := by
  unfold State.reply; split <;> simp
@[simp] theorem State.reply_stems (s : State) (v : Nat) (r : Request) (a : Answer) : (s.reply v r a).stems = s.stems := by
  unfold State.reply; split <;> simp
@[simp] theorem State.reply_rends (s : State) (v : Nat) (r : Request) (a : Answer) : (s.reply v r a).rends = s.rends := by
  unfold State.reply; split <;> simp
@[simp] theorem State.reply_delivs (s : State) (v : Nat) (r : Request) (a : Answer) : (s.reply v r a).delivs = s.delivs := by
  unfold State.reply; split <;> simp
@[simp] theorem State.reply_cores (s : State) (v : Nat) (r : Request) (a : Answer) : (s.reply v r a).cores = s.cores := by
  unfold State.reply; split <;> simp
@[simp] theorem State.reply_riders (s : State) (v : Nat) (r : Request) (a : Answer) : (s.reply v r a).riders = s.riders := by
  unfold State.reply; split <;> simp
@[simp] theorem State.reply_riderDev (s : State) (v : Nat) (r : Request) (a : Answer) : (s.reply v r a).riderDev = s.riderDev := by
  unfold State.reply; split <;> simp
@[simp] theorem State.reply_jobs (s : State) (v : Nat) (r : Request) (a : Answer) : (s.reply v r a).jobs = s.jobs := by
  unfold State.reply; split <;> simp
@[simp] theorem State.reply_jobSeq (s : State) (v : Nat) (r : Request) (a : Answer) : (s.reply v r a).jobSeq = s.jobSeq := by
  unfold State.reply; split <;> simp
@[simp] theorem State.reply_hostFlows (s : State) (v : Nat) (r : Request) (a : Answer) : (s.reply v r a).hostFlows = s.hostFlows := by
  unfold State.reply; split <;> simp
@[simp] theorem State.reply_ctxs (s : State) (v : Nat) (r : Request) (a : Answer) : (s.reply v r a).ctxs = s.ctxs := by
  unfold State.reply; split <;> simp
@[simp] theorem State.reply_heads (s : State) (v : Nat) (r : Request) (a : Answer) : (s.reply v r a).heads = s.heads := by
  unfold State.reply; split <;> simp
@[simp] theorem State.reply_layers (s : State) (v : Nat) (r : Request) (a : Answer) : (s.reply v r a).layers = s.layers := by
  unfold State.reply; split <;> simp
@[simp] theorem State.reply_readback (s : State) (v : Nat) (r : Request) (a : Answer) : (s.reply v r a).readback = s.readback := by
  unfold State.reply; split <;> simp
@[simp] theorem State.reply_culverts (s : State) (v : Nat) (r : Request) (a : Answer) : (s.reply v r a).culverts = s.culverts := by
  unfold State.reply; split <;> simp
@[simp] theorem State.reply_dramStacks (s : State) (v : Nat) (r : Request) (a : Answer) : (s.reply v r a).dramStacks = s.dramStacks := by
  unfold State.reply; split <;> simp
@[simp] theorem State.reply_rmem (s : State) (v : Nat) (r : Request) (a : Answer) : (s.reply v r a).rmem = s.rmem := by
  unfold State.reply; split <;> simp
@[simp] theorem State.reply_dram (s : State) (v : Nat) (r : Request) (a : Answer) : (s.reply v r a).dram = s.dram := by
  unfold State.reply; split <;> simp
@[simp] theorem State.reply_capStamps (s : State) (v : Nat) (r : Request) (a : Answer) : (s.reply v r a).capStamps = s.capStamps := by
  unfold State.reply; split <;> simp
@[simp] theorem State.reply_remap (s : State) (v : Nat) (r : Request) (a : Answer) : (s.reply v r a).remap = s.remap := by
  unfold State.reply; split <;> simp
@[simp] theorem State.reply_busReqs (s : State) (v : Nat) (r : Request) (a : Answer) : (s.reply v r a).busReqs = s.busReqs := by
  unfold State.reply; split <;> simp
@[simp] theorem State.reply_gauges (s : State) (v : Nat) (r : Request) (a : Answer) : (s.reply v r a).gauges = s.gauges := by
  unfold State.reply; split <;> simp
@[simp] theorem State.reply_thermal (s : State) (v : Nat) (r : Request) (a : Answer) : (s.reply v r a).thermal = s.thermal := by
  unfold State.reply; split <;> simp
@[simp] theorem State.reply_image (s : State) (v : Nat) (r : Request) (a : Answer) : (s.reply v r a).image = s.image := by
  unfold State.reply; split <;> simp
@[simp] theorem State.reply_saved (s : State) (v : Nat) (r : Request) (a : Answer) : (s.reply v r a).saved = s.saved := by
  unfold State.reply; split <;> simp
@[simp] theorem State.reply_cal (s : State) (v : Nat) (r : Request) (a : Answer) : (s.reply v r a).cal = s.cal := by
  unfold State.reply; split <;> simp
@[simp] theorem State.reply_jtag (s : State) (v : Nat) (r : Request) (a : Answer) : (s.reply v r a).jtag = s.jtag := by
  unfold State.reply; split <;> simp
@[simp] theorem State.reply_pending (s : State) (v : Nat) (r : Request) (a : Answer) : (s.reply v r a).pending = s.pending := by
  unfold State.reply; split <;> simp

@[simp] theorem State.logFault_time (s : State)  : (s.logFault ).time = s.time := by
  simp [State.logFault]
@[simp] theorem State.logFault_freeCtr (s : State)  : (s.logFault ).freeCtr = s.freeCtr := by
  simp [State.logFault]
@[simp] theorem State.logFault_pins (s : State)  : (s.logFault ).pins = s.pins := by
  simp [State.logFault]
@[simp] theorem State.logFault_mode (s : State)  : (s.logFault ).mode = s.mode := by
  simp [State.logFault]
@[simp] theorem State.logFault_domains (s : State)  : (s.logFault ).domains = s.domains := by
  simp [State.logFault]
@[simp] theorem State.logFault_openSets (s : State)  : (s.logFault ).openSets = s.openSets := by
  simp [State.logFault]
@[simp] theorem State.logFault_parts (s : State)  : (s.logFault ).parts = s.parts := by
  simp [State.logFault]
@[simp] theorem State.logFault_partSeq (s : State)  : (s.logFault ).partSeq = s.partSeq := by
  simp [State.logFault]
@[simp] theorem State.logFault_fused (s : State)  : (s.logFault ).fused = s.fused := by
  simp [State.logFault]
@[simp] theorem State.logFault_repair (s : State)  : (s.logFault ).repair = s.repair := by
  simp [State.logFault]
@[simp] theorem State.logFault_alarms (s : State)  : (s.logFault ).alarms = s.alarms := by
  simp [State.logFault]
@[simp] theorem State.logFault_srcs (s : State)  : (s.logFault ).srcs = s.srcs := by
  simp [State.logFault]
@[simp] theorem State.logFault_dsts (s : State)  : (s.logFault ).dsts = s.dsts := by
  simp [State.logFault]
@[simp] theorem State.logFault_convs (s : State)  : (s.logFault ).convs = s.convs := by
  simp [State.logFault]
@[simp] theorem State.logFault_ains (s : State)  : (s.logFault ).ains = s.ains := by
  simp [State.logFault]
@[simp] theorem State.logFault_aouts (s : State)  : (s.logFault ).aouts = s.aouts := by
  simp [State.logFault]
@[simp] theorem State.logFault_aports (s : State)  : (s.logFault ).aports = s.aports := by
  simp [State.logFault]
@[simp] theorem State.logFault_lanes (s : State)  : (s.logFault ).lanes = s.lanes := by
  simp [State.logFault]
@[simp] theorem State.logFault_buses (s : State)  : (s.logFault ).buses = s.buses := by
  simp [State.logFault]
@[simp] theorem State.logFault_ports (s : State)  : (s.logFault ).ports = s.ports := by
  simp [State.logFault]
@[simp] theorem State.logFault_flows (s : State)  : (s.logFault ).flows = s.flows := by
  simp [State.logFault]
@[simp] theorem State.logFault_queues (s : State)  : (s.logFault ).queues = s.queues := by
  simp [State.logFault]
@[simp] theorem State.logFault_gates (s : State)  : (s.logFault ).gates = s.gates := by
  simp [State.logFault]
@[simp] theorem State.logFault_planes (s : State)  : (s.logFault ).planes = s.planes := by
  simp [State.logFault]
@[simp] theorem State.logFault_levee (s : State)  : (s.logFault ).levee = s.levee := by
  simp [State.logFault]
@[simp] theorem State.logFault_refs (s : State)  : (s.logFault ).refs = s.refs := by
  simp [State.logFault]
@[simp] theorem State.logFault_hg (s : State)  : (s.logFault ).hg = s.hg := by
  simp [State.logFault]
@[simp] theorem State.logFault_caps (s : State)  : (s.logFault ).caps = s.caps := by
  simp [State.logFault]
@[simp] theorem State.logFault_trigs (s : State)  : (s.logFault ).trigs = s.trigs := by
  simp [State.logFault]
@[simp] theorem State.logFault_stems (s : State)  : (s.logFault ).stems = s.stems := by
  simp [State.logFault]
@[simp] theorem State.logFault_rends (s : State)  : (s.logFault ).rends = s.rends := by
  simp [State.logFault]
@[simp] theorem State.logFault_delivs (s : State)  : (s.logFault ).delivs = s.delivs := by
  simp [State.logFault]
@[simp] theorem State.logFault_cores (s : State)  : (s.logFault ).cores = s.cores := by
  simp [State.logFault]
@[simp] theorem State.logFault_riders (s : State)  : (s.logFault ).riders = s.riders := by
  simp [State.logFault]
@[simp] theorem State.logFault_riderDev (s : State)  : (s.logFault ).riderDev = s.riderDev := by
  simp [State.logFault]
@[simp] theorem State.logFault_jobs (s : State)  : (s.logFault ).jobs = s.jobs := by
  simp [State.logFault]
@[simp] theorem State.logFault_jobSeq (s : State)  : (s.logFault ).jobSeq = s.jobSeq := by
  simp [State.logFault]
@[simp] theorem State.logFault_hostFlows (s : State)  : (s.logFault ).hostFlows = s.hostFlows := by
  simp [State.logFault]
@[simp] theorem State.logFault_ctxs (s : State)  : (s.logFault ).ctxs = s.ctxs := by
  simp [State.logFault]
@[simp] theorem State.logFault_heads (s : State)  : (s.logFault ).heads = s.heads := by
  simp [State.logFault]
@[simp] theorem State.logFault_layers (s : State)  : (s.logFault ).layers = s.layers := by
  simp [State.logFault]
@[simp] theorem State.logFault_readback (s : State)  : (s.logFault ).readback = s.readback := by
  simp [State.logFault]
@[simp] theorem State.logFault_culverts (s : State)  : (s.logFault ).culverts = s.culverts := by
  simp [State.logFault]
@[simp] theorem State.logFault_dramStacks (s : State)  : (s.logFault ).dramStacks = s.dramStacks := by
  simp [State.logFault]
@[simp] theorem State.logFault_rmem (s : State)  : (s.logFault ).rmem = s.rmem := by
  simp [State.logFault]
@[simp] theorem State.logFault_dram (s : State)  : (s.logFault ).dram = s.dram := by
  simp [State.logFault]
@[simp] theorem State.logFault_capStamps (s : State)  : (s.logFault ).capStamps = s.capStamps := by
  simp [State.logFault]
@[simp] theorem State.logFault_remap (s : State)  : (s.logFault ).remap = s.remap := by
  simp [State.logFault]
@[simp] theorem State.logFault_busReqs (s : State)  : (s.logFault ).busReqs = s.busReqs := by
  simp [State.logFault]
@[simp] theorem State.logFault_gauges (s : State)  : (s.logFault ).gauges = s.gauges := by
  simp [State.logFault]
@[simp] theorem State.logFault_thermal (s : State)  : (s.logFault ).thermal = s.thermal := by
  simp [State.logFault]
@[simp] theorem State.logFault_image (s : State)  : (s.logFault ).image = s.image := by
  simp [State.logFault]
@[simp] theorem State.logFault_saved (s : State)  : (s.logFault ).saved = s.saved := by
  simp [State.logFault]
@[simp] theorem State.logFault_cal (s : State)  : (s.logFault ).cal = s.cal := by
  simp [State.logFault]
@[simp] theorem State.logFault_svc (s : State)  : (s.logFault ).svc = s.svc := by
  simp [State.logFault]
@[simp] theorem State.logFault_jtag (s : State)  : (s.logFault ).jtag = s.jtag := by
  simp [State.logFault]
@[simp] theorem State.logFault_pending (s : State)  : (s.logFault ).pending = s.pending := by
  simp [State.logFault]

@[simp] theorem State.noteFetch_time (s : State) (r : Request) (a : Answer) : (s.noteFetch r a).time = s.time := by
  unfold State.noteFetch; repeat' split
  all_goals simp
@[simp] theorem State.noteFetch_freeCtr (s : State) (r : Request) (a : Answer) : (s.noteFetch r a).freeCtr = s.freeCtr := by
  unfold State.noteFetch; repeat' split
  all_goals simp
@[simp] theorem State.noteFetch_pins (s : State) (r : Request) (a : Answer) : (s.noteFetch r a).pins = s.pins := by
  unfold State.noteFetch; repeat' split
  all_goals simp
@[simp] theorem State.noteFetch_mode (s : State) (r : Request) (a : Answer) : (s.noteFetch r a).mode = s.mode := by
  unfold State.noteFetch; repeat' split
  all_goals simp
@[simp] theorem State.noteFetch_domains (s : State) (r : Request) (a : Answer) : (s.noteFetch r a).domains = s.domains := by
  unfold State.noteFetch; repeat' split
  all_goals simp
@[simp] theorem State.noteFetch_openSets (s : State) (r : Request) (a : Answer) : (s.noteFetch r a).openSets = s.openSets := by
  unfold State.noteFetch; repeat' split
  all_goals simp
@[simp] theorem State.noteFetch_parts (s : State) (r : Request) (a : Answer) : (s.noteFetch r a).parts = s.parts := by
  unfold State.noteFetch; repeat' split
  all_goals simp
@[simp] theorem State.noteFetch_partSeq (s : State) (r : Request) (a : Answer) : (s.noteFetch r a).partSeq = s.partSeq := by
  unfold State.noteFetch; repeat' split
  all_goals simp
@[simp] theorem State.noteFetch_fused (s : State) (r : Request) (a : Answer) : (s.noteFetch r a).fused = s.fused := by
  unfold State.noteFetch; repeat' split
  all_goals simp
@[simp] theorem State.noteFetch_repair (s : State) (r : Request) (a : Answer) : (s.noteFetch r a).repair = s.repair := by
  unfold State.noteFetch; repeat' split
  all_goals simp
@[simp] theorem State.noteFetch_alarms (s : State) (r : Request) (a : Answer) : (s.noteFetch r a).alarms = s.alarms := by
  unfold State.noteFetch; repeat' split
  all_goals simp
@[simp] theorem State.noteFetch_srcs (s : State) (r : Request) (a : Answer) : (s.noteFetch r a).srcs = s.srcs := by
  unfold State.noteFetch; repeat' split
  all_goals simp
@[simp] theorem State.noteFetch_dsts (s : State) (r : Request) (a : Answer) : (s.noteFetch r a).dsts = s.dsts := by
  unfold State.noteFetch; repeat' split
  all_goals simp
@[simp] theorem State.noteFetch_convs (s : State) (r : Request) (a : Answer) : (s.noteFetch r a).convs = s.convs := by
  unfold State.noteFetch; repeat' split
  all_goals simp
@[simp] theorem State.noteFetch_ains (s : State) (r : Request) (a : Answer) : (s.noteFetch r a).ains = s.ains := by
  unfold State.noteFetch; repeat' split
  all_goals simp
@[simp] theorem State.noteFetch_aouts (s : State) (r : Request) (a : Answer) : (s.noteFetch r a).aouts = s.aouts := by
  unfold State.noteFetch; repeat' split
  all_goals simp
@[simp] theorem State.noteFetch_aports (s : State) (r : Request) (a : Answer) : (s.noteFetch r a).aports = s.aports := by
  unfold State.noteFetch; repeat' split
  all_goals simp
@[simp] theorem State.noteFetch_lanes (s : State) (r : Request) (a : Answer) : (s.noteFetch r a).lanes = s.lanes := by
  unfold State.noteFetch; repeat' split
  all_goals simp
@[simp] theorem State.noteFetch_buses (s : State) (r : Request) (a : Answer) : (s.noteFetch r a).buses = s.buses := by
  unfold State.noteFetch; repeat' split
  all_goals simp
@[simp] theorem State.noteFetch_ports (s : State) (r : Request) (a : Answer) : (s.noteFetch r a).ports = s.ports := by
  unfold State.noteFetch; repeat' split
  all_goals simp
@[simp] theorem State.noteFetch_flows (s : State) (r : Request) (a : Answer) : (s.noteFetch r a).flows = s.flows := by
  unfold State.noteFetch; repeat' split
  all_goals simp
@[simp] theorem State.noteFetch_queues (s : State) (r : Request) (a : Answer) : (s.noteFetch r a).queues = s.queues := by
  unfold State.noteFetch; repeat' split
  all_goals simp
@[simp] theorem State.noteFetch_gates (s : State) (r : Request) (a : Answer) : (s.noteFetch r a).gates = s.gates := by
  unfold State.noteFetch; repeat' split
  all_goals simp
@[simp] theorem State.noteFetch_planes (s : State) (r : Request) (a : Answer) : (s.noteFetch r a).planes = s.planes := by
  unfold State.noteFetch; repeat' split
  all_goals simp
@[simp] theorem State.noteFetch_levee (s : State) (r : Request) (a : Answer) : (s.noteFetch r a).levee = s.levee := by
  unfold State.noteFetch; repeat' split
  all_goals simp
@[simp] theorem State.noteFetch_refs (s : State) (r : Request) (a : Answer) : (s.noteFetch r a).refs = s.refs := by
  unfold State.noteFetch; repeat' split
  all_goals simp
@[simp] theorem State.noteFetch_hg (s : State) (r : Request) (a : Answer) : (s.noteFetch r a).hg = s.hg := by
  unfold State.noteFetch; repeat' split
  all_goals simp
@[simp] theorem State.noteFetch_caps (s : State) (r : Request) (a : Answer) : (s.noteFetch r a).caps = s.caps := by
  unfold State.noteFetch; repeat' split
  all_goals simp
@[simp] theorem State.noteFetch_trigs (s : State) (r : Request) (a : Answer) : (s.noteFetch r a).trigs = s.trigs := by
  unfold State.noteFetch; repeat' split
  all_goals simp
@[simp] theorem State.noteFetch_stems (s : State) (r : Request) (a : Answer) : (s.noteFetch r a).stems = s.stems := by
  unfold State.noteFetch; repeat' split
  all_goals simp
@[simp] theorem State.noteFetch_rends (s : State) (r : Request) (a : Answer) : (s.noteFetch r a).rends = s.rends := by
  unfold State.noteFetch; repeat' split
  all_goals simp
@[simp] theorem State.noteFetch_delivs (s : State) (r : Request) (a : Answer) : (s.noteFetch r a).delivs = s.delivs := by
  unfold State.noteFetch; repeat' split
  all_goals simp
@[simp] theorem State.noteFetch_cores (s : State) (r : Request) (a : Answer) : (s.noteFetch r a).cores = s.cores := by
  unfold State.noteFetch; repeat' split
  all_goals simp
@[simp] theorem State.noteFetch_riders (s : State) (r : Request) (a : Answer) : (s.noteFetch r a).riders = s.riders := by
  unfold State.noteFetch; repeat' split
  all_goals simp
@[simp] theorem State.noteFetch_riderDev (s : State) (r : Request) (a : Answer) : (s.noteFetch r a).riderDev = s.riderDev := by
  unfold State.noteFetch; repeat' split
  all_goals simp
@[simp] theorem State.noteFetch_jobs (s : State) (r : Request) (a : Answer) : (s.noteFetch r a).jobs = s.jobs := by
  unfold State.noteFetch; repeat' split
  all_goals simp
@[simp] theorem State.noteFetch_jobSeq (s : State) (r : Request) (a : Answer) : (s.noteFetch r a).jobSeq = s.jobSeq := by
  unfold State.noteFetch; repeat' split
  all_goals simp
@[simp] theorem State.noteFetch_hostFlows (s : State) (r : Request) (a : Answer) : (s.noteFetch r a).hostFlows = s.hostFlows := by
  unfold State.noteFetch; repeat' split
  all_goals simp
@[simp] theorem State.noteFetch_ctxs (s : State) (r : Request) (a : Answer) : (s.noteFetch r a).ctxs = s.ctxs := by
  unfold State.noteFetch; repeat' split
  all_goals simp
@[simp] theorem State.noteFetch_heads (s : State) (r : Request) (a : Answer) : (s.noteFetch r a).heads = s.heads := by
  unfold State.noteFetch; repeat' split
  all_goals simp
@[simp] theorem State.noteFetch_layers (s : State) (r : Request) (a : Answer) : (s.noteFetch r a).layers = s.layers := by
  unfold State.noteFetch; repeat' split
  all_goals simp
@[simp] theorem State.noteFetch_readback (s : State) (r : Request) (a : Answer) : (s.noteFetch r a).readback = s.readback := by
  unfold State.noteFetch; repeat' split
  all_goals simp
@[simp] theorem State.noteFetch_culverts (s : State) (r : Request) (a : Answer) : (s.noteFetch r a).culverts = s.culverts := by
  unfold State.noteFetch; repeat' split
  all_goals simp
@[simp] theorem State.noteFetch_dramStacks (s : State) (r : Request) (a : Answer) : (s.noteFetch r a).dramStacks = s.dramStacks := by
  unfold State.noteFetch; repeat' split
  all_goals simp
@[simp] theorem State.noteFetch_rmem (s : State) (r : Request) (a : Answer) : (s.noteFetch r a).rmem = s.rmem := by
  unfold State.noteFetch; repeat' split
  all_goals simp
@[simp] theorem State.noteFetch_dram (s : State) (r : Request) (a : Answer) : (s.noteFetch r a).dram = s.dram := by
  unfold State.noteFetch; repeat' split
  all_goals simp
@[simp] theorem State.noteFetch_capStamps (s : State) (r : Request) (a : Answer) : (s.noteFetch r a).capStamps = s.capStamps := by
  unfold State.noteFetch; repeat' split
  all_goals simp
@[simp] theorem State.noteFetch_remap (s : State) (r : Request) (a : Answer) : (s.noteFetch r a).remap = s.remap := by
  unfold State.noteFetch; repeat' split
  all_goals simp
@[simp] theorem State.noteFetch_busReqs (s : State) (r : Request) (a : Answer) : (s.noteFetch r a).busReqs = s.busReqs := by
  unfold State.noteFetch; repeat' split
  all_goals simp
@[simp] theorem State.noteFetch_gauges (s : State) (r : Request) (a : Answer) : (s.noteFetch r a).gauges = s.gauges := by
  unfold State.noteFetch; repeat' split
  all_goals simp
@[simp] theorem State.noteFetch_thermal (s : State) (r : Request) (a : Answer) : (s.noteFetch r a).thermal = s.thermal := by
  unfold State.noteFetch; repeat' split
  all_goals simp
@[simp] theorem State.noteFetch_image (s : State) (r : Request) (a : Answer) : (s.noteFetch r a).image = s.image := by
  unfold State.noteFetch; repeat' split
  all_goals simp
@[simp] theorem State.noteFetch_saved (s : State) (r : Request) (a : Answer) : (s.noteFetch r a).saved = s.saved := by
  unfold State.noteFetch; repeat' split
  all_goals simp
@[simp] theorem State.noteFetch_cal (s : State) (r : Request) (a : Answer) : (s.noteFetch r a).cal = s.cal := by
  unfold State.noteFetch; repeat' split
  all_goals simp
@[simp] theorem State.noteFetch_svc (s : State) (r : Request) (a : Answer) : (s.noteFetch r a).svc = s.svc := by
  unfold State.noteFetch; repeat' split
  all_goals simp
@[simp] theorem State.noteFetch_jtag (s : State) (r : Request) (a : Answer) : (s.noteFetch r a).jtag = s.jtag := by
  unfold State.noteFetch; repeat' split
  all_goals simp
@[simp] theorem State.noteFetch_pending (s : State) (r : Request) (a : Answer) : (s.noteFetch r a).pending = s.pending := by
  unfold State.noteFetch; repeat' split
  all_goals simp

@[simp] theorem State.takeSlot_time (s : State) (n : Nat) : (s.takeSlot n).time = s.time := rfl
@[simp] theorem State.takeSlot_freeCtr (s : State) (n : Nat) : (s.takeSlot n).freeCtr = s.freeCtr := rfl
@[simp] theorem State.takeSlot_out (s : State) (n : Nat) : (s.takeSlot n).out = s.out := rfl
@[simp] theorem State.takeSlot_pins (s : State) (n : Nat) : (s.takeSlot n).pins = s.pins := rfl
@[simp] theorem State.takeSlot_mode (s : State) (n : Nat) : (s.takeSlot n).mode = s.mode := rfl
@[simp] theorem State.takeSlot_ints (s : State) (n : Nat) : (s.takeSlot n).ints = s.ints := rfl
@[simp] theorem State.takeSlot_events (s : State) (n : Nat) : (s.takeSlot n).events = s.events := rfl
@[simp] theorem State.takeSlot_storm (s : State) (n : Nat) : (s.takeSlot n).storm = s.storm := rfl
@[simp] theorem State.takeSlot_domains (s : State) (n : Nat) : (s.takeSlot n).domains = s.domains := rfl
@[simp] theorem State.takeSlot_openSets (s : State) (n : Nat) : (s.takeSlot n).openSets = s.openSets := rfl
@[simp] theorem State.takeSlot_parts (s : State) (n : Nat) : (s.takeSlot n).parts = s.parts := rfl
@[simp] theorem State.takeSlot_partSeq (s : State) (n : Nat) : (s.takeSlot n).partSeq = s.partSeq := rfl
@[simp] theorem State.takeSlot_fused (s : State) (n : Nat) : (s.takeSlot n).fused = s.fused := rfl
@[simp] theorem State.takeSlot_repair (s : State) (n : Nat) : (s.takeSlot n).repair = s.repair := rfl
@[simp] theorem State.takeSlot_counters (s : State) (n : Nat) : (s.takeSlot n).counters = s.counters := rfl
@[simp] theorem State.takeSlot_alarms (s : State) (n : Nat) : (s.takeSlot n).alarms = s.alarms := rfl
@[simp] theorem State.takeSlot_srcs (s : State) (n : Nat) : (s.takeSlot n).srcs = s.srcs := rfl
@[simp] theorem State.takeSlot_dsts (s : State) (n : Nat) : (s.takeSlot n).dsts = s.dsts := rfl
@[simp] theorem State.takeSlot_convs (s : State) (n : Nat) : (s.takeSlot n).convs = s.convs := rfl
@[simp] theorem State.takeSlot_ains (s : State) (n : Nat) : (s.takeSlot n).ains = s.ains := rfl
@[simp] theorem State.takeSlot_aouts (s : State) (n : Nat) : (s.takeSlot n).aouts = s.aouts := rfl
@[simp] theorem State.takeSlot_aports (s : State) (n : Nat) : (s.takeSlot n).aports = s.aports := rfl
@[simp] theorem State.takeSlot_lanes (s : State) (n : Nat) : (s.takeSlot n).lanes = s.lanes := rfl
@[simp] theorem State.takeSlot_buses (s : State) (n : Nat) : (s.takeSlot n).buses = s.buses := rfl
@[simp] theorem State.takeSlot_ports (s : State) (n : Nat) : (s.takeSlot n).ports = s.ports := rfl
@[simp] theorem State.takeSlot_flows (s : State) (n : Nat) : (s.takeSlot n).flows = s.flows := rfl
@[simp] theorem State.takeSlot_queues (s : State) (n : Nat) : (s.takeSlot n).queues = s.queues := rfl
@[simp] theorem State.takeSlot_gates (s : State) (n : Nat) : (s.takeSlot n).gates = s.gates := rfl
@[simp] theorem State.takeSlot_planes (s : State) (n : Nat) : (s.takeSlot n).planes = s.planes := rfl
@[simp] theorem State.takeSlot_levee (s : State) (n : Nat) : (s.takeSlot n).levee = s.levee := rfl
@[simp] theorem State.takeSlot_refs (s : State) (n : Nat) : (s.takeSlot n).refs = s.refs := rfl
@[simp] theorem State.takeSlot_hg (s : State) (n : Nat) : (s.takeSlot n).hg = s.hg := rfl
@[simp] theorem State.takeSlot_caps (s : State) (n : Nat) : (s.takeSlot n).caps = s.caps := rfl
@[simp] theorem State.takeSlot_trigs (s : State) (n : Nat) : (s.takeSlot n).trigs = s.trigs := rfl
@[simp] theorem State.takeSlot_stems (s : State) (n : Nat) : (s.takeSlot n).stems = s.stems := rfl
@[simp] theorem State.takeSlot_rends (s : State) (n : Nat) : (s.takeSlot n).rends = s.rends := rfl
@[simp] theorem State.takeSlot_delivs (s : State) (n : Nat) : (s.takeSlot n).delivs = s.delivs := rfl
@[simp] theorem State.takeSlot_cores (s : State) (n : Nat) : (s.takeSlot n).cores = s.cores := rfl
@[simp] theorem State.takeSlot_riders (s : State) (n : Nat) : (s.takeSlot n).riders = s.riders := rfl
@[simp] theorem State.takeSlot_riderDev (s : State) (n : Nat) : (s.takeSlot n).riderDev = s.riderDev := rfl
@[simp] theorem State.takeSlot_jobs (s : State) (n : Nat) : (s.takeSlot n).jobs = s.jobs := rfl
@[simp] theorem State.takeSlot_jobSeq (s : State) (n : Nat) : (s.takeSlot n).jobSeq = s.jobSeq := rfl
@[simp] theorem State.takeSlot_hostFlows (s : State) (n : Nat) : (s.takeSlot n).hostFlows = s.hostFlows := rfl
@[simp] theorem State.takeSlot_ctxs (s : State) (n : Nat) : (s.takeSlot n).ctxs = s.ctxs := rfl
@[simp] theorem State.takeSlot_heads (s : State) (n : Nat) : (s.takeSlot n).heads = s.heads := rfl
@[simp] theorem State.takeSlot_layers (s : State) (n : Nat) : (s.takeSlot n).layers = s.layers := rfl
@[simp] theorem State.takeSlot_readback (s : State) (n : Nat) : (s.takeSlot n).readback = s.readback := rfl
@[simp] theorem State.takeSlot_culverts (s : State) (n : Nat) : (s.takeSlot n).culverts = s.culverts := rfl
@[simp] theorem State.takeSlot_dramStacks (s : State) (n : Nat) : (s.takeSlot n).dramStacks = s.dramStacks := rfl
@[simp] theorem State.takeSlot_rmem (s : State) (n : Nat) : (s.takeSlot n).rmem = s.rmem := rfl
@[simp] theorem State.takeSlot_dram (s : State) (n : Nat) : (s.takeSlot n).dram = s.dram := rfl
@[simp] theorem State.takeSlot_capStamps (s : State) (n : Nat) : (s.takeSlot n).capStamps = s.capStamps := rfl
@[simp] theorem State.takeSlot_remap (s : State) (n : Nat) : (s.takeSlot n).remap = s.remap := rfl
@[simp] theorem State.takeSlot_busReqs (s : State) (n : Nat) : (s.takeSlot n).busReqs = s.busReqs := rfl
@[simp] theorem State.takeSlot_gauges (s : State) (n : Nat) : (s.takeSlot n).gauges = s.gauges := rfl
@[simp] theorem State.takeSlot_thermal (s : State) (n : Nat) : (s.takeSlot n).thermal = s.thermal := rfl
@[simp] theorem State.takeSlot_image (s : State) (n : Nat) : (s.takeSlot n).image = s.image := rfl
@[simp] theorem State.takeSlot_saved (s : State) (n : Nat) : (s.takeSlot n).saved = s.saved := rfl
@[simp] theorem State.takeSlot_cal (s : State) (n : Nat) : (s.takeSlot n).cal = s.cal := rfl
@[simp] theorem State.takeSlot_svc (s : State) (n : Nat) : (s.takeSlot n).svc = s.svc := rfl
@[simp] theorem State.takeSlot_jtag (s : State) (n : Nat) : (s.takeSlot n).jtag = s.jtag := rfl
@[simp] theorem State.takeSlot_pending (s : State) (n : Nat) : (s.takeSlot n).pending = s.pending := rfl

end Sys2Proof.Machine
end

