-- ==== Sys2Proof/Laws/Reads.lean ====
section
/-! SUPPORT. What reports, counts, alarms, interrupts, steps of device time and changes of other units leave of each unit. -/
namespace Sys2Proof.Machine

@[simp] theorem State.event_src (s : State) (e : Ev) (k : Nat) : (s.event e).src k = s.src k := by simp [State.src]
@[simp] theorem State.count_src (s : State) (i u n : Nat) (k : Nat) : (s.count i u n).src k = s.src k := by simp [State.src]
@[simp] theorem State.raise_src (s : State) (i u : Nat) (k : Nat) : (s.raise i u).src k = s.src k := by simp [State.src]
@[simp] theorem State.clearAlarm_src (s : State) (i u : Nat) (k : Nat) : (s.clearAlarm i u).src k = s.src k := by simp [State.src]
@[simp] theorem State.interrupt_src (s : State) (n : Nat) (k : Nat) : (s.interrupt n).src k = s.src k := by simp [State.src]
@[simp] theorem State.emit_src (s : State) (x : Out) (k : Nat) : (s.emit x).src k = s.src k := by simp [State.src]
@[simp] theorem State.advanceTo_src (s : State) (n : Nat) (k : Nat) : (s.advanceTo n).src k = s.src k := by simp only [State.src, State.advanceTo]
@[simp] theorem State.hostWrite_src (s : State) (n : Nat) (b : Bytes) (k : Nat) : (s.hostWrite n b).src k = s.src k := by simp [State.src]

@[simp] theorem State.event_dst (s : State) (e : Ev) (k : Nat) : (s.event e).dst k = s.dst k := by simp [State.dst]
@[simp] theorem State.count_dst (s : State) (i u n : Nat) (k : Nat) : (s.count i u n).dst k = s.dst k := by simp [State.dst]
@[simp] theorem State.raise_dst (s : State) (i u : Nat) (k : Nat) : (s.raise i u).dst k = s.dst k := by simp [State.dst]
@[simp] theorem State.clearAlarm_dst (s : State) (i u : Nat) (k : Nat) : (s.clearAlarm i u).dst k = s.dst k := by simp [State.dst]
@[simp] theorem State.interrupt_dst (s : State) (n : Nat) (k : Nat) : (s.interrupt n).dst k = s.dst k := by simp [State.dst]
@[simp] theorem State.emit_dst (s : State) (x : Out) (k : Nat) : (s.emit x).dst k = s.dst k := by simp [State.dst]
@[simp] theorem State.advanceTo_dst (s : State) (n : Nat) (k : Nat) : (s.advanceTo n).dst k = s.dst k := by simp only [State.dst, State.advanceTo]
@[simp] theorem State.hostWrite_dst (s : State) (n : Nat) (b : Bytes) (k : Nat) : (s.hostWrite n b).dst k = s.dst k := by simp [State.dst]

@[simp] theorem State.event_ain (s : State) (e : Ev) (k : Nat) : (s.event e).ain k = s.ain k := by simp [State.ain]
@[simp] theorem State.count_ain (s : State) (i u n : Nat) (k : Nat) : (s.count i u n).ain k = s.ain k := by simp [State.ain]
@[simp] theorem State.raise_ain (s : State) (i u : Nat) (k : Nat) : (s.raise i u).ain k = s.ain k := by simp [State.ain]
@[simp] theorem State.clearAlarm_ain (s : State) (i u : Nat) (k : Nat) : (s.clearAlarm i u).ain k = s.ain k := by simp [State.ain]
@[simp] theorem State.interrupt_ain (s : State) (n : Nat) (k : Nat) : (s.interrupt n).ain k = s.ain k := by simp [State.ain]
@[simp] theorem State.emit_ain (s : State) (x : Out) (k : Nat) : (s.emit x).ain k = s.ain k := by simp [State.ain]
@[simp] theorem State.advanceTo_ain (s : State) (n : Nat) (k : Nat) : (s.advanceTo n).ain k = s.ain k := by simp only [State.ain, State.advanceTo]
@[simp] theorem State.hostWrite_ain (s : State) (n : Nat) (b : Bytes) (k : Nat) : (s.hostWrite n b).ain k = s.ain k := by simp [State.ain]

@[simp] theorem State.event_aout (s : State) (e : Ev) (k : Nat) : (s.event e).aout k = s.aout k := by simp [State.aout]
@[simp] theorem State.count_aout (s : State) (i u n : Nat) (k : Nat) : (s.count i u n).aout k = s.aout k := by simp [State.aout]
@[simp] theorem State.raise_aout (s : State) (i u : Nat) (k : Nat) : (s.raise i u).aout k = s.aout k := by simp [State.aout]
@[simp] theorem State.clearAlarm_aout (s : State) (i u : Nat) (k : Nat) : (s.clearAlarm i u).aout k = s.aout k := by simp [State.aout]
@[simp] theorem State.interrupt_aout (s : State) (n : Nat) (k : Nat) : (s.interrupt n).aout k = s.aout k := by simp [State.aout]
@[simp] theorem State.emit_aout (s : State) (x : Out) (k : Nat) : (s.emit x).aout k = s.aout k := by simp [State.aout]
@[simp] theorem State.advanceTo_aout (s : State) (n : Nat) (k : Nat) : (s.advanceTo n).aout k = s.aout k := by simp only [State.aout, State.advanceTo]
@[simp] theorem State.hostWrite_aout (s : State) (n : Nat) (b : Bytes) (k : Nat) : (s.hostWrite n b).aout k = s.aout k := by simp [State.aout]

@[simp] theorem State.event_aport (s : State) (e : Ev) (k : Nat) : (s.event e).aport k = s.aport k := by simp [State.aport]
@[simp] theorem State.count_aport (s : State) (i u n : Nat) (k : Nat) : (s.count i u n).aport k = s.aport k := by simp [State.aport]
@[simp] theorem State.raise_aport (s : State) (i u : Nat) (k : Nat) : (s.raise i u).aport k = s.aport k := by simp [State.aport]
@[simp] theorem State.clearAlarm_aport (s : State) (i u : Nat) (k : Nat) : (s.clearAlarm i u).aport k = s.aport k := by simp [State.aport]
@[simp] theorem State.interrupt_aport (s : State) (n : Nat) (k : Nat) : (s.interrupt n).aport k = s.aport k := by simp [State.aport]
@[simp] theorem State.emit_aport (s : State) (x : Out) (k : Nat) : (s.emit x).aport k = s.aport k := by simp [State.aport]
@[simp] theorem State.advanceTo_aport (s : State) (n : Nat) (k : Nat) : (s.advanceTo n).aport k = s.aport k := by simp only [State.aport, State.advanceTo]
@[simp] theorem State.hostWrite_aport (s : State) (n : Nat) (b : Bytes) (k : Nat) : (s.hostWrite n b).aport k = s.aport k := by simp [State.aport]

@[simp] theorem State.event_lane (s : State) (e : Ev) (k : Nat) : (s.event e).lane k = s.lane k := by simp [State.lane]
@[simp] theorem State.count_lane (s : State) (i u n : Nat) (k : Nat) : (s.count i u n).lane k = s.lane k := by simp [State.lane]
@[simp] theorem State.raise_lane (s : State) (i u : Nat) (k : Nat) : (s.raise i u).lane k = s.lane k := by simp [State.lane]
@[simp] theorem State.clearAlarm_lane (s : State) (i u : Nat) (k : Nat) : (s.clearAlarm i u).lane k = s.lane k := by simp [State.lane]
@[simp] theorem State.interrupt_lane (s : State) (n : Nat) (k : Nat) : (s.interrupt n).lane k = s.lane k := by simp [State.lane]
@[simp] theorem State.emit_lane (s : State) (x : Out) (k : Nat) : (s.emit x).lane k = s.lane k := by simp [State.lane]
@[simp] theorem State.advanceTo_lane (s : State) (n : Nat) (k : Nat) : (s.advanceTo n).lane k = s.lane k := by simp only [State.lane, State.advanceTo]
@[simp] theorem State.hostWrite_lane (s : State) (n : Nat) (b : Bytes) (k : Nat) : (s.hostWrite n b).lane k = s.lane k := by simp [State.lane]

@[simp] theorem State.event_port (s : State) (e : Ev) (k : Nat) : (s.event e).port k = s.port k := by simp [State.port]
@[simp] theorem State.count_port (s : State) (i u n : Nat) (k : Nat) : (s.count i u n).port k = s.port k := by simp [State.port]
@[simp] theorem State.raise_port (s : State) (i u : Nat) (k : Nat) : (s.raise i u).port k = s.port k := by simp [State.port]
@[simp] theorem State.clearAlarm_port (s : State) (i u : Nat) (k : Nat) : (s.clearAlarm i u).port k = s.port k := by simp [State.port]
@[simp] theorem State.interrupt_port (s : State) (n : Nat) (k : Nat) : (s.interrupt n).port k = s.port k := by simp [State.port]
@[simp] theorem State.emit_port (s : State) (x : Out) (k : Nat) : (s.emit x).port k = s.port k := by simp [State.port]
@[simp] theorem State.advanceTo_port (s : State) (n : Nat) (k : Nat) : (s.advanceTo n).port k = s.port k := by simp only [State.port, State.advanceTo]
@[simp] theorem State.hostWrite_port (s : State) (n : Nat) (b : Bytes) (k : Nat) : (s.hostWrite n b).port k = s.port k := by simp [State.port]

@[simp] theorem State.event_flow (s : State) (e : Ev) (k : Nat) : (s.event e).flow k = s.flow k := by simp [State.flow]
@[simp] theorem State.count_flow (s : State) (i u n : Nat) (k : Nat) : (s.count i u n).flow k = s.flow k := by simp [State.flow]
@[simp] theorem State.raise_flow (s : State) (i u : Nat) (k : Nat) : (s.raise i u).flow k = s.flow k := by simp [State.flow]
@[simp] theorem State.clearAlarm_flow (s : State) (i u : Nat) (k : Nat) : (s.clearAlarm i u).flow k = s.flow k := by simp [State.flow]
@[simp] theorem State.interrupt_flow (s : State) (n : Nat) (k : Nat) : (s.interrupt n).flow k = s.flow k := by simp [State.flow]
@[simp] theorem State.emit_flow (s : State) (x : Out) (k : Nat) : (s.emit x).flow k = s.flow k := by simp [State.flow]
@[simp] theorem State.advanceTo_flow (s : State) (n : Nat) (k : Nat) : (s.advanceTo n).flow k = s.flow k := by simp only [State.flow, State.advanceTo]
@[simp] theorem State.hostWrite_flow (s : State) (n : Nat) (b : Bytes) (k : Nat) : (s.hostWrite n b).flow k = s.flow k := by simp [State.flow]

@[simp] theorem State.event_queue (s : State) (e : Ev) (k : Nat) : (s.event e).queue k = s.queue k := by simp [State.queue]
@[simp] theorem State.count_queue (s : State) (i u n : Nat) (k : Nat) : (s.count i u n).queue k = s.queue k := by simp [State.queue]
@[simp] theorem State.raise_queue (s : State) (i u : Nat) (k : Nat) : (s.raise i u).queue k = s.queue k := by simp [State.queue]
@[simp] theorem State.clearAlarm_queue (s : State) (i u : Nat) (k : Nat) : (s.clearAlarm i u).queue k = s.queue k := by simp [State.queue]
@[simp] theorem State.interrupt_queue (s : State) (n : Nat) (k : Nat) : (s.interrupt n).queue k = s.queue k := by simp [State.queue]
@[simp] theorem State.emit_queue (s : State) (x : Out) (k : Nat) : (s.emit x).queue k = s.queue k := by simp [State.queue]
@[simp] theorem State.advanceTo_queue (s : State) (n : Nat) (k : Nat) : (s.advanceTo n).queue k = s.queue k := by simp only [State.queue, State.advanceTo]
@[simp] theorem State.hostWrite_queue (s : State) (n : Nat) (b : Bytes) (k : Nat) : (s.hostWrite n b).queue k = s.queue k := by simp [State.queue]

@[simp] theorem State.event_gate (s : State) (e : Ev) (k : Nat) : (s.event e).gate k = s.gate k := by simp [State.gate]
@[simp] theorem State.count_gate (s : State) (i u n : Nat) (k : Nat) : (s.count i u n).gate k = s.gate k := by simp [State.gate]
@[simp] theorem State.raise_gate (s : State) (i u : Nat) (k : Nat) : (s.raise i u).gate k = s.gate k := by simp [State.gate]
@[simp] theorem State.clearAlarm_gate (s : State) (i u : Nat) (k : Nat) : (s.clearAlarm i u).gate k = s.gate k := by simp [State.gate]
@[simp] theorem State.interrupt_gate (s : State) (n : Nat) (k : Nat) : (s.interrupt n).gate k = s.gate k := by simp [State.gate]
@[simp] theorem State.emit_gate (s : State) (x : Out) (k : Nat) : (s.emit x).gate k = s.gate k := by simp [State.gate]
@[simp] theorem State.advanceTo_gate (s : State) (n : Nat) (k : Nat) : (s.advanceTo n).gate k = s.gate k := by simp only [State.gate, State.advanceTo]
@[simp] theorem State.hostWrite_gate (s : State) (n : Nat) (b : Bytes) (k : Nat) : (s.hostWrite n b).gate k = s.gate k := by simp [State.gate]

@[simp] theorem State.event_trig (s : State) (e : Ev) (k : Nat) : (s.event e).trig k = s.trig k := by simp [State.trig]
@[simp] theorem State.count_trig (s : State) (i u n : Nat) (k : Nat) : (s.count i u n).trig k = s.trig k := by simp [State.trig]
@[simp] theorem State.raise_trig (s : State) (i u : Nat) (k : Nat) : (s.raise i u).trig k = s.trig k := by simp [State.trig]
@[simp] theorem State.clearAlarm_trig (s : State) (i u : Nat) (k : Nat) : (s.clearAlarm i u).trig k = s.trig k := by simp [State.trig]
@[simp] theorem State.interrupt_trig (s : State) (n : Nat) (k : Nat) : (s.interrupt n).trig k = s.trig k := by simp [State.trig]
@[simp] theorem State.emit_trig (s : State) (x : Out) (k : Nat) : (s.emit x).trig k = s.trig k := by simp [State.trig]
@[simp] theorem State.advanceTo_trig (s : State) (n : Nat) (k : Nat) : (s.advanceTo n).trig k = s.trig k := by simp only [State.trig, State.advanceTo]
@[simp] theorem State.hostWrite_trig (s : State) (n : Nat) (b : Bytes) (k : Nat) : (s.hostWrite n b).trig k = s.trig k := by simp [State.trig]

@[simp] theorem State.event_stem (s : State) (e : Ev) (k : Nat) : (s.event e).stem k = s.stem k := by simp [State.stem]
@[simp] theorem State.count_stem (s : State) (i u n : Nat) (k : Nat) : (s.count i u n).stem k = s.stem k := by simp [State.stem]
@[simp] theorem State.raise_stem (s : State) (i u : Nat) (k : Nat) : (s.raise i u).stem k = s.stem k := by simp [State.stem]
@[simp] theorem State.clearAlarm_stem (s : State) (i u : Nat) (k : Nat) : (s.clearAlarm i u).stem k = s.stem k := by simp [State.stem]
@[simp] theorem State.interrupt_stem (s : State) (n : Nat) (k : Nat) : (s.interrupt n).stem k = s.stem k := by simp [State.stem]
@[simp] theorem State.emit_stem (s : State) (x : Out) (k : Nat) : (s.emit x).stem k = s.stem k := by simp [State.stem]
@[simp] theorem State.advanceTo_stem (s : State) (n : Nat) (k : Nat) : (s.advanceTo n).stem k = s.stem k := by simp only [State.stem, State.advanceTo]
@[simp] theorem State.hostWrite_stem (s : State) (n : Nat) (b : Bytes) (k : Nat) : (s.hostWrite n b).stem k = s.stem k := by simp [State.stem]

@[simp] theorem State.event_rend (s : State) (e : Ev) (k : Nat) : (s.event e).rend k = s.rend k := by simp [State.rend]
@[simp] theorem State.count_rend (s : State) (i u n : Nat) (k : Nat) : (s.count i u n).rend k = s.rend k := by simp [State.rend]
@[simp] theorem State.raise_rend (s : State) (i u : Nat) (k : Nat) : (s.raise i u).rend k = s.rend k := by simp [State.rend]
@[simp] theorem State.clearAlarm_rend (s : State) (i u : Nat) (k : Nat) : (s.clearAlarm i u).rend k = s.rend k := by simp [State.rend]
@[simp] theorem State.interrupt_rend (s : State) (n : Nat) (k : Nat) : (s.interrupt n).rend k = s.rend k := by simp [State.rend]
@[simp] theorem State.emit_rend (s : State) (x : Out) (k : Nat) : (s.emit x).rend k = s.rend k := by simp [State.rend]
@[simp] theorem State.advanceTo_rend (s : State) (n : Nat) (k : Nat) : (s.advanceTo n).rend k = s.rend k := by simp only [State.rend, State.advanceTo]
@[simp] theorem State.hostWrite_rend (s : State) (n : Nat) (b : Bytes) (k : Nat) : (s.hostWrite n b).rend k = s.rend k := by simp [State.rend]

@[simp] theorem State.event_deliv (s : State) (e : Ev) (k : Nat) : (s.event e).deliv k = s.deliv k := by simp [State.deliv]
@[simp] theorem State.count_deliv (s : State) (i u n : Nat) (k : Nat) : (s.count i u n).deliv k = s.deliv k := by simp [State.deliv]
@[simp] theorem State.raise_deliv (s : State) (i u : Nat) (k : Nat) : (s.raise i u).deliv k = s.deliv k := by simp [State.deliv]
@[simp] theorem State.clearAlarm_deliv (s : State) (i u : Nat) (k : Nat) : (s.clearAlarm i u).deliv k = s.deliv k := by simp [State.deliv]
@[simp] theorem State.interrupt_deliv (s : State) (n : Nat) (k : Nat) : (s.interrupt n).deliv k = s.deliv k := by simp [State.deliv]
@[simp] theorem State.emit_deliv (s : State) (x : Out) (k : Nat) : (s.emit x).deliv k = s.deliv k := by simp [State.deliv]
@[simp] theorem State.advanceTo_deliv (s : State) (n : Nat) (k : Nat) : (s.advanceTo n).deliv k = s.deliv k := by simp only [State.deliv, State.advanceTo]
@[simp] theorem State.hostWrite_deliv (s : State) (n : Nat) (b : Bytes) (k : Nat) : (s.hostWrite n b).deliv k = s.deliv k := by simp [State.deliv]

@[simp] theorem State.event_core (s : State) (e : Ev) (k : Nat) : (s.event e).core k = s.core k := by simp [State.core]
@[simp] theorem State.count_core (s : State) (i u n : Nat) (k : Nat) : (s.count i u n).core k = s.core k := by simp [State.core]
@[simp] theorem State.raise_core (s : State) (i u : Nat) (k : Nat) : (s.raise i u).core k = s.core k := by simp [State.core]
@[simp] theorem State.clearAlarm_core (s : State) (i u : Nat) (k : Nat) : (s.clearAlarm i u).core k = s.core k := by simp [State.core]
@[simp] theorem State.interrupt_core (s : State) (n : Nat) (k : Nat) : (s.interrupt n).core k = s.core k := by simp [State.core]
@[simp] theorem State.emit_core (s : State) (x : Out) (k : Nat) : (s.emit x).core k = s.core k := by simp [State.core]
@[simp] theorem State.advanceTo_core (s : State) (n : Nat) (k : Nat) : (s.advanceTo n).core k = s.core k := by simp only [State.core, State.advanceTo]
@[simp] theorem State.hostWrite_core (s : State) (n : Nat) (b : Bytes) (k : Nat) : (s.hostWrite n b).core k = s.core k := by simp [State.core]

@[simp] theorem State.event_job (s : State) (e : Ev) (k : Nat) : (s.event e).job k = s.job k := by simp [State.job]
@[simp] theorem State.count_job (s : State) (i u n : Nat) (k : Nat) : (s.count i u n).job k = s.job k := by simp [State.job]
@[simp] theorem State.raise_job (s : State) (i u : Nat) (k : Nat) : (s.raise i u).job k = s.job k := by simp [State.job]
@[simp] theorem State.clearAlarm_job (s : State) (i u : Nat) (k : Nat) : (s.clearAlarm i u).job k = s.job k := by simp [State.job]
@[simp] theorem State.interrupt_job (s : State) (n : Nat) (k : Nat) : (s.interrupt n).job k = s.job k := by simp [State.job]
@[simp] theorem State.emit_job (s : State) (x : Out) (k : Nat) : (s.emit x).job k = s.job k := by simp [State.job]
@[simp] theorem State.advanceTo_job (s : State) (n : Nat) (k : Nat) : (s.advanceTo n).job k = s.job k := by simp only [State.job, State.advanceTo]
@[simp] theorem State.hostWrite_job (s : State) (n : Nat) (b : Bytes) (k : Nat) : (s.hostWrite n b).job k = s.job k := by simp [State.job]

@[simp] theorem State.event_hostFlow (s : State) (e : Ev) (k : Nat) : (s.event e).hostFlow k = s.hostFlow k := by simp [State.hostFlow]
@[simp] theorem State.count_hostFlow (s : State) (i u n : Nat) (k : Nat) : (s.count i u n).hostFlow k = s.hostFlow k := by simp [State.hostFlow]
@[simp] theorem State.raise_hostFlow (s : State) (i u : Nat) (k : Nat) : (s.raise i u).hostFlow k = s.hostFlow k := by simp [State.hostFlow]
@[simp] theorem State.clearAlarm_hostFlow (s : State) (i u : Nat) (k : Nat) : (s.clearAlarm i u).hostFlow k = s.hostFlow k := by simp [State.hostFlow]
@[simp] theorem State.interrupt_hostFlow (s : State) (n : Nat) (k : Nat) : (s.interrupt n).hostFlow k = s.hostFlow k := by simp [State.hostFlow]
@[simp] theorem State.emit_hostFlow (s : State) (x : Out) (k : Nat) : (s.emit x).hostFlow k = s.hostFlow k := by simp [State.hostFlow]
@[simp] theorem State.advanceTo_hostFlow (s : State) (n : Nat) (k : Nat) : (s.advanceTo n).hostFlow k = s.hostFlow k := by simp only [State.hostFlow, State.advanceTo]
@[simp] theorem State.hostWrite_hostFlow (s : State) (n : Nat) (b : Bytes) (k : Nat) : (s.hostWrite n b).hostFlow k = s.hostFlow k := by simp [State.hostFlow]

@[simp] theorem State.event_ctx (s : State) (e : Ev) (k : Nat) : (s.event e).ctx k = s.ctx k := by simp [State.ctx]
@[simp] theorem State.count_ctx (s : State) (i u n : Nat) (k : Nat) : (s.count i u n).ctx k = s.ctx k := by simp [State.ctx]
@[simp] theorem State.raise_ctx (s : State) (i u : Nat) (k : Nat) : (s.raise i u).ctx k = s.ctx k := by simp [State.ctx]
@[simp] theorem State.clearAlarm_ctx (s : State) (i u : Nat) (k : Nat) : (s.clearAlarm i u).ctx k = s.ctx k := by simp [State.ctx]
@[simp] theorem State.interrupt_ctx (s : State) (n : Nat) (k : Nat) : (s.interrupt n).ctx k = s.ctx k := by simp [State.ctx]
@[simp] theorem State.emit_ctx (s : State) (x : Out) (k : Nat) : (s.emit x).ctx k = s.ctx k := by simp [State.ctx]
@[simp] theorem State.advanceTo_ctx (s : State) (n : Nat) (k : Nat) : (s.advanceTo n).ctx k = s.ctx k := by simp only [State.ctx, State.advanceTo]
@[simp] theorem State.hostWrite_ctx (s : State) (n : Nat) (b : Bytes) (k : Nat) : (s.hostWrite n b).ctx k = s.ctx k := by simp [State.ctx]

@[simp] theorem State.event_layer (s : State) (e : Ev) (k : Nat) : (s.event e).layer k = s.layer k := by simp [State.layer]
@[simp] theorem State.count_layer (s : State) (i u n : Nat) (k : Nat) : (s.count i u n).layer k = s.layer k := by simp [State.layer]
@[simp] theorem State.raise_layer (s : State) (i u : Nat) (k : Nat) : (s.raise i u).layer k = s.layer k := by simp [State.layer]
@[simp] theorem State.clearAlarm_layer (s : State) (i u : Nat) (k : Nat) : (s.clearAlarm i u).layer k = s.layer k := by simp [State.layer]
@[simp] theorem State.interrupt_layer (s : State) (n : Nat) (k : Nat) : (s.interrupt n).layer k = s.layer k := by simp [State.layer]
@[simp] theorem State.emit_layer (s : State) (x : Out) (k : Nat) : (s.emit x).layer k = s.layer k := by simp [State.layer]
@[simp] theorem State.advanceTo_layer (s : State) (n : Nat) (k : Nat) : (s.advanceTo n).layer k = s.layer k := by simp only [State.layer, State.advanceTo]
@[simp] theorem State.hostWrite_layer (s : State) (n : Nat) (b : Bytes) (k : Nat) : (s.hostWrite n b).layer k = s.layer k := by simp [State.layer]

@[simp] theorem State.event_gauge (s : State) (e : Ev) (k : Nat) : (s.event e).gauge k = s.gauge k := by simp [State.gauge]
@[simp] theorem State.count_gauge (s : State) (i u n : Nat) (k : Nat) : (s.count i u n).gauge k = s.gauge k := by simp [State.gauge]
@[simp] theorem State.raise_gauge (s : State) (i u : Nat) (k : Nat) : (s.raise i u).gauge k = s.gauge k := by simp [State.gauge]
@[simp] theorem State.clearAlarm_gauge (s : State) (i u : Nat) (k : Nat) : (s.clearAlarm i u).gauge k = s.gauge k := by simp [State.gauge]
@[simp] theorem State.interrupt_gauge (s : State) (n : Nat) (k : Nat) : (s.interrupt n).gauge k = s.gauge k := by simp [State.gauge]
@[simp] theorem State.emit_gauge (s : State) (x : Out) (k : Nat) : (s.emit x).gauge k = s.gauge k := by simp [State.gauge]
@[simp] theorem State.advanceTo_gauge (s : State) (n : Nat) (k : Nat) : (s.advanceTo n).gauge k = s.gauge k := by simp only [State.gauge, State.advanceTo]
@[simp] theorem State.hostWrite_gauge (s : State) (n : Nat) (b : Bytes) (k : Nat) : (s.hostWrite n b).gauge k = s.gauge k := by simp [State.gauge]

@[simp] theorem State.count_ring (s : State) (i u n : Nat) (k : Nat) : (s.count i u n).ring k = s.ring k := by simp [State.ring]
@[simp] theorem State.raise_ring (s : State) (i u : Nat) (k : Nat) : (s.raise i u).ring k = s.ring k := by simp [State.ring]
@[simp] theorem State.clearAlarm_ring (s : State) (i u : Nat) (k : Nat) : (s.clearAlarm i u).ring k = s.ring k := by simp [State.ring]
@[simp] theorem State.interrupt_ring (s : State) (n : Nat) (k : Nat) : (s.interrupt n).ring k = s.ring k := by simp [State.ring]
@[simp] theorem State.emit_ring (s : State) (x : Out) (k : Nat) : (s.emit x).ring k = s.ring k := by simp [State.ring]
@[simp] theorem State.advanceTo_ring (s : State) (n : Nat) (k : Nat) : (s.advanceTo n).ring k = s.ring k := by simp only [State.ring, State.advanceTo]
@[simp] theorem State.hostWrite_ring (s : State) (n : Nat) (b : Bytes) (k : Nat) : (s.hostWrite n b).ring k = s.ring k := by simp [State.ring]

@[simp] theorem State.event_domain (s : State) (e : Ev) (k : Nat) : (s.event e).domain k = s.domain k := by simp [State.domain]
@[simp] theorem State.count_domain (s : State) (i u n : Nat) (k : Nat) : (s.count i u n).domain k = s.domain k := by simp [State.domain]
@[simp] theorem State.raise_domain (s : State) (i u : Nat) (k : Nat) : (s.raise i u).domain k = s.domain k := by simp [State.domain]
@[simp] theorem State.clearAlarm_domain (s : State) (i u : Nat) (k : Nat) : (s.clearAlarm i u).domain k = s.domain k := by simp [State.domain]
@[simp] theorem State.interrupt_domain (s : State) (n : Nat) (k : Nat) : (s.interrupt n).domain k = s.domain k := by simp [State.domain]
@[simp] theorem State.emit_domain (s : State) (x : Out) (k : Nat) : (s.emit x).domain k = s.domain k := by simp [State.domain]
@[simp] theorem State.advanceTo_domain (s : State) (n : Nat) (k : Nat) : (s.advanceTo n).domain k = s.domain k := by simp only [State.domain, State.advanceTo]
@[simp] theorem State.hostWrite_domain (s : State) (n : Nat) (b : Bytes) (k : Nat) : (s.hostWrite n b).domain k = s.domain k := by simp [State.domain]

@[simp] theorem State.event_bus (s : State) (e : Ev) (k : Nat) : (s.event e).bus k = s.bus k := by simp [State.bus]
@[simp] theorem State.count_bus (s : State) (i u n : Nat) (k : Nat) : (s.count i u n).bus k = s.bus k := by simp [State.bus]
@[simp] theorem State.raise_bus (s : State) (i u : Nat) (k : Nat) : (s.raise i u).bus k = s.bus k := by simp [State.bus]
@[simp] theorem State.clearAlarm_bus (s : State) (i u : Nat) (k : Nat) : (s.clearAlarm i u).bus k = s.bus k := by simp [State.bus]
@[simp] theorem State.interrupt_bus (s : State) (n : Nat) (k : Nat) : (s.interrupt n).bus k = s.bus k := by simp [State.bus]
@[simp] theorem State.emit_bus (s : State) (x : Out) (k : Nat) : (s.emit x).bus k = s.bus k := by simp [State.bus]
@[simp] theorem State.advanceTo_bus (s : State) (n : Nat) (k : Nat) : (s.advanceTo n).bus k = s.bus k := by simp only [State.bus, State.advanceTo]
@[simp] theorem State.hostWrite_bus (s : State) (n : Nat) (b : Bytes) (k : Nat) : (s.hostWrite n b).bus k = s.bus k := by simp [State.bus]

@[simp] theorem State.event_plane (s : State) (e : Ev) (k : Nat) : (s.event e).plane k = s.plane k := by simp [State.plane]
@[simp] theorem State.count_plane (s : State) (i u n : Nat) (k : Nat) : (s.count i u n).plane k = s.plane k := by simp [State.plane]
@[simp] theorem State.raise_plane (s : State) (i u : Nat) (k : Nat) : (s.raise i u).plane k = s.plane k := by simp [State.plane]
@[simp] theorem State.clearAlarm_plane (s : State) (i u : Nat) (k : Nat) : (s.clearAlarm i u).plane k = s.plane k := by simp [State.plane]
@[simp] theorem State.interrupt_plane (s : State) (n : Nat) (k : Nat) : (s.interrupt n).plane k = s.plane k := by simp [State.plane]
@[simp] theorem State.emit_plane (s : State) (x : Out) (k : Nat) : (s.emit x).plane k = s.plane k := by simp [State.plane]
@[simp] theorem State.advanceTo_plane (s : State) (n : Nat) (k : Nat) : (s.advanceTo n).plane k = s.plane k := by simp only [State.plane, State.advanceTo]
@[simp] theorem State.hostWrite_plane (s : State) (n : Nat) (b : Bytes) (k : Nat) : (s.hostWrite n b).plane k = s.plane k := by simp [State.plane]

@[simp] theorem State.event_ref (s : State) (e : Ev) (k : Nat) : (s.event e).ref k = s.ref k := by simp [State.ref]
@[simp] theorem State.count_ref (s : State) (i u n : Nat) (k : Nat) : (s.count i u n).ref k = s.ref k := by simp [State.ref]
@[simp] theorem State.raise_ref (s : State) (i u : Nat) (k : Nat) : (s.raise i u).ref k = s.ref k := by simp [State.ref]
@[simp] theorem State.clearAlarm_ref (s : State) (i u : Nat) (k : Nat) : (s.clearAlarm i u).ref k = s.ref k := by simp [State.ref]
@[simp] theorem State.interrupt_ref (s : State) (n : Nat) (k : Nat) : (s.interrupt n).ref k = s.ref k := by simp [State.ref]
@[simp] theorem State.emit_ref (s : State) (x : Out) (k : Nat) : (s.emit x).ref k = s.ref k := by simp [State.ref]
@[simp] theorem State.advanceTo_ref (s : State) (n : Nat) (k : Nat) : (s.advanceTo n).ref k = s.ref k := by simp only [State.ref, State.advanceTo]
@[simp] theorem State.hostWrite_ref (s : State) (n : Nat) (b : Bytes) (k : Nat) : (s.hostWrite n b).ref k = s.ref k := by simp [State.ref]

@[simp] theorem State.event_cap (s : State) (e : Ev) (k : Nat) : (s.event e).cap k = s.cap k := by simp [State.cap]
@[simp] theorem State.count_cap (s : State) (i u n : Nat) (k : Nat) : (s.count i u n).cap k = s.cap k := by simp [State.cap]
@[simp] theorem State.raise_cap (s : State) (i u : Nat) (k : Nat) : (s.raise i u).cap k = s.cap k := by simp [State.cap]
@[simp] theorem State.clearAlarm_cap (s : State) (i u : Nat) (k : Nat) : (s.clearAlarm i u).cap k = s.cap k := by simp [State.cap]
@[simp] theorem State.interrupt_cap (s : State) (n : Nat) (k : Nat) : (s.interrupt n).cap k = s.cap k := by simp [State.cap]
@[simp] theorem State.emit_cap (s : State) (x : Out) (k : Nat) : (s.emit x).cap k = s.cap k := by simp [State.cap]
@[simp] theorem State.advanceTo_cap (s : State) (n : Nat) (k : Nat) : (s.advanceTo n).cap k = s.cap k := by simp only [State.cap, State.advanceTo]
@[simp] theorem State.hostWrite_cap (s : State) (n : Nat) (b : Bytes) (k : Nat) : (s.hostWrite n b).cap k = s.cap k := by simp [State.cap]

@[simp] theorem State.event_rider (s : State) (e : Ev) (k : Nat) : (s.event e).rider k = s.rider k := by simp [State.rider]
@[simp] theorem State.count_rider (s : State) (i u n : Nat) (k : Nat) : (s.count i u n).rider k = s.rider k := by simp [State.rider]
@[simp] theorem State.raise_rider (s : State) (i u : Nat) (k : Nat) : (s.raise i u).rider k = s.rider k := by simp [State.rider]
@[simp] theorem State.clearAlarm_rider (s : State) (i u : Nat) (k : Nat) : (s.clearAlarm i u).rider k = s.rider k := by simp [State.rider]
@[simp] theorem State.interrupt_rider (s : State) (n : Nat) (k : Nat) : (s.interrupt n).rider k = s.rider k := by simp [State.rider]
@[simp] theorem State.emit_rider (s : State) (x : Out) (k : Nat) : (s.emit x).rider k = s.rider k := by simp [State.rider]
@[simp] theorem State.advanceTo_rider (s : State) (n : Nat) (k : Nat) : (s.advanceTo n).rider k = s.rider k := by simp only [State.rider, State.advanceTo]
@[simp] theorem State.hostWrite_rider (s : State) (n : Nat) (b : Bytes) (k : Nat) : (s.hostWrite n b).rider k = s.rider k := by simp [State.rider]

@[simp] theorem State.event_head (s : State) (e : Ev) (k : Nat) : (s.event e).head k = s.head k := by simp [State.head]
@[simp] theorem State.count_head (s : State) (i u n : Nat) (k : Nat) : (s.count i u n).head k = s.head k := by simp [State.head]
@[simp] theorem State.raise_head (s : State) (i u : Nat) (k : Nat) : (s.raise i u).head k = s.head k := by simp [State.head]
@[simp] theorem State.clearAlarm_head (s : State) (i u : Nat) (k : Nat) : (s.clearAlarm i u).head k = s.head k := by simp [State.head]
@[simp] theorem State.interrupt_head (s : State) (n : Nat) (k : Nat) : (s.interrupt n).head k = s.head k := by simp [State.head]
@[simp] theorem State.emit_head (s : State) (x : Out) (k : Nat) : (s.emit x).head k = s.head k := by simp [State.head]
@[simp] theorem State.advanceTo_head (s : State) (n : Nat) (k : Nat) : (s.advanceTo n).head k = s.head k := by simp only [State.head, State.advanceTo]
@[simp] theorem State.hostWrite_head (s : State) (n : Nat) (b : Bytes) (k : Nat) : (s.hostWrite n b).head k = s.head k := by simp [State.head]

@[simp] theorem State.event_culvert (s : State) (e : Ev) (k : Nat) : (s.event e).culvert k = s.culvert k := by simp [State.culvert]
@[simp] theorem State.count_culvert (s : State) (i u n : Nat) (k : Nat) : (s.count i u n).culvert k = s.culvert k := by simp [State.culvert]
@[simp] theorem State.raise_culvert (s : State) (i u : Nat) (k : Nat) : (s.raise i u).culvert k = s.culvert k := by simp [State.culvert]
@[simp] theorem State.clearAlarm_culvert (s : State) (i u : Nat) (k : Nat) : (s.clearAlarm i u).culvert k = s.culvert k := by simp [State.culvert]
@[simp] theorem State.interrupt_culvert (s : State) (n : Nat) (k : Nat) : (s.interrupt n).culvert k = s.culvert k := by simp [State.culvert]
@[simp] theorem State.emit_culvert (s : State) (x : Out) (k : Nat) : (s.emit x).culvert k = s.culvert k := by simp [State.culvert]
@[simp] theorem State.advanceTo_culvert (s : State) (n : Nat) (k : Nat) : (s.advanceTo n).culvert k = s.culvert k := by simp only [State.culvert, State.advanceTo]
@[simp] theorem State.hostWrite_culvert (s : State) (n : Nat) (b : Bytes) (k : Nat) : (s.hostWrite n b).culvert k = s.culvert k := by simp [State.culvert]

@[simp] theorem State.event_stack (s : State) (e : Ev) (k : Nat) : (s.event e).stack k = s.stack k := by simp [State.stack]
@[simp] theorem State.count_stack (s : State) (i u n : Nat) (k : Nat) : (s.count i u n).stack k = s.stack k := by simp [State.stack]
@[simp] theorem State.raise_stack (s : State) (i u : Nat) (k : Nat) : (s.raise i u).stack k = s.stack k := by simp [State.stack]
@[simp] theorem State.clearAlarm_stack (s : State) (i u : Nat) (k : Nat) : (s.clearAlarm i u).stack k = s.stack k := by simp [State.stack]
@[simp] theorem State.interrupt_stack (s : State) (n : Nat) (k : Nat) : (s.interrupt n).stack k = s.stack k := by simp [State.stack]
@[simp] theorem State.emit_stack (s : State) (x : Out) (k : Nat) : (s.emit x).stack k = s.stack k := by simp [State.stack]
@[simp] theorem State.advanceTo_stack (s : State) (n : Nat) (k : Nat) : (s.advanceTo n).stack k = s.stack k := by simp only [State.stack, State.advanceTo]
@[simp] theorem State.hostWrite_stack (s : State) (n : Nat) (b : Bytes) (k : Nat) : (s.hostWrite n b).stack k = s.stack k := by simp [State.stack]

@[simp] theorem State.event_reachMem (s : State) (e : Ev) (k : Nat) : (s.event e).reachMem k = s.reachMem k := by simp [State.reachMem]
@[simp] theorem State.count_reachMem (s : State) (i u n : Nat) (k : Nat) : (s.count i u n).reachMem k = s.reachMem k := by simp [State.reachMem]
@[simp] theorem State.raise_reachMem (s : State) (i u : Nat) (k : Nat) : (s.raise i u).reachMem k = s.reachMem k := by simp [State.reachMem]
@[simp] theorem State.clearAlarm_reachMem (s : State) (i u : Nat) (k : Nat) : (s.clearAlarm i u).reachMem k = s.reachMem k := by simp [State.reachMem]
@[simp] theorem State.interrupt_reachMem (s : State) (n : Nat) (k : Nat) : (s.interrupt n).reachMem k = s.reachMem k := by simp [State.reachMem]
@[simp] theorem State.emit_reachMem (s : State) (x : Out) (k : Nat) : (s.emit x).reachMem k = s.reachMem k := by simp [State.reachMem]
@[simp] theorem State.advanceTo_reachMem (s : State) (n : Nat) (k : Nat) : (s.advanceTo n).reachMem k = s.reachMem k := by simp only [State.reachMem, State.advanceTo]
@[simp] theorem State.hostWrite_reachMem (s : State) (n : Nat) (b : Bytes) (k : Nat) : (s.hostWrite n b).reachMem k = s.reachMem k := by simp [State.reachMem]

@[simp] theorem State.modSrc_dst (s : State) (j : Nat) (f : SrcSt → SrcSt) (k : Nat) : (s.modSrc j f).dst k = s.dst k := rfl
@[simp] theorem State.modSrc_ain (s : State) (j : Nat) (f : SrcSt → SrcSt) (k : Nat) : (s.modSrc j f).ain k = s.ain k := rfl
@[simp] theorem State.modSrc_aout (s : State) (j : Nat) (f : SrcSt → SrcSt) (k : Nat) : (s.modSrc j f).aout k = s.aout k := rfl
@[simp] theorem State.modSrc_aport (s : State) (j : Nat) (f : SrcSt → SrcSt) (k : Nat) : (s.modSrc j f).aport k = s.aport k := rfl
@[simp] theorem State.modSrc_lane (s : State) (j : Nat) (f : SrcSt → SrcSt) (k : Nat) : (s.modSrc j f).lane k = s.lane k := rfl
@[simp] theorem State.modSrc_port (s : State) (j : Nat) (f : SrcSt → SrcSt) (k : Nat) : (s.modSrc j f).port k = s.port k := rfl
@[simp] theorem State.modSrc_flow (s : State) (j : Nat) (f : SrcSt → SrcSt) (k : Nat) : (s.modSrc j f).flow k = s.flow k := rfl
@[simp] theorem State.modSrc_queue (s : State) (j : Nat) (f : SrcSt → SrcSt) (k : Nat) : (s.modSrc j f).queue k = s.queue k := rfl
@[simp] theorem State.modSrc_gate (s : State) (j : Nat) (f : SrcSt → SrcSt) (k : Nat) : (s.modSrc j f).gate k = s.gate k := rfl
@[simp] theorem State.modSrc_trig (s : State) (j : Nat) (f : SrcSt → SrcSt) (k : Nat) : (s.modSrc j f).trig k = s.trig k := rfl
@[simp] theorem State.modSrc_stem (s : State) (j : Nat) (f : SrcSt → SrcSt) (k : Nat) : (s.modSrc j f).stem k = s.stem k := rfl
@[simp] theorem State.modSrc_rend (s : State) (j : Nat) (f : SrcSt → SrcSt) (k : Nat) : (s.modSrc j f).rend k = s.rend k := rfl
@[simp] theorem State.modSrc_deliv (s : State) (j : Nat) (f : SrcSt → SrcSt) (k : Nat) : (s.modSrc j f).deliv k = s.deliv k := rfl
@[simp] theorem State.modSrc_core (s : State) (j : Nat) (f : SrcSt → SrcSt) (k : Nat) : (s.modSrc j f).core k = s.core k := rfl
@[simp] theorem State.modSrc_job (s : State) (j : Nat) (f : SrcSt → SrcSt) (k : Nat) : (s.modSrc j f).job k = s.job k := rfl
@[simp] theorem State.modSrc_hostFlow (s : State) (j : Nat) (f : SrcSt → SrcSt) (k : Nat) : (s.modSrc j f).hostFlow k = s.hostFlow k := rfl
@[simp] theorem State.modSrc_ctx (s : State) (j : Nat) (f : SrcSt → SrcSt) (k : Nat) : (s.modSrc j f).ctx k = s.ctx k := rfl
@[simp] theorem State.modSrc_layer (s : State) (j : Nat) (f : SrcSt → SrcSt) (k : Nat) : (s.modSrc j f).layer k = s.layer k := rfl
@[simp] theorem State.modSrc_gauge (s : State) (j : Nat) (f : SrcSt → SrcSt) (k : Nat) : (s.modSrc j f).gauge k = s.gauge k := rfl
@[simp] theorem State.modSrc_ring (s : State) (j : Nat) (f : SrcSt → SrcSt) (k : Nat) : (s.modSrc j f).ring k = s.ring k := rfl
@[simp] theorem State.modSrc_domain (s : State) (j : Nat) (f : SrcSt → SrcSt) (k : Nat) : (s.modSrc j f).domain k = s.domain k := rfl
@[simp] theorem State.modSrc_bus (s : State) (j : Nat) (f : SrcSt → SrcSt) (k : Nat) : (s.modSrc j f).bus k = s.bus k := rfl
@[simp] theorem State.modSrc_plane (s : State) (j : Nat) (f : SrcSt → SrcSt) (k : Nat) : (s.modSrc j f).plane k = s.plane k := rfl
@[simp] theorem State.modSrc_ref (s : State) (j : Nat) (f : SrcSt → SrcSt) (k : Nat) : (s.modSrc j f).ref k = s.ref k := rfl
@[simp] theorem State.modSrc_cap (s : State) (j : Nat) (f : SrcSt → SrcSt) (k : Nat) : (s.modSrc j f).cap k = s.cap k := rfl
@[simp] theorem State.modSrc_rider (s : State) (j : Nat) (f : SrcSt → SrcSt) (k : Nat) : (s.modSrc j f).rider k = s.rider k := rfl
@[simp] theorem State.modSrc_head (s : State) (j : Nat) (f : SrcSt → SrcSt) (k : Nat) : (s.modSrc j f).head k = s.head k := rfl
@[simp] theorem State.modSrc_culvert (s : State) (j : Nat) (f : SrcSt → SrcSt) (k : Nat) : (s.modSrc j f).culvert k = s.culvert k := rfl
@[simp] theorem State.modSrc_stack (s : State) (j : Nat) (f : SrcSt → SrcSt) (k : Nat) : (s.modSrc j f).stack k = s.stack k := rfl
@[simp] theorem State.modSrc_reachMem (s : State) (j : Nat) (f : SrcSt → SrcSt) (k : Nat) : (s.modSrc j f).reachMem k = s.reachMem k := rfl
@[simp] theorem State.modSrc_stands (s : State) (j : Nat) (f : SrcSt → SrcSt) (i u : Nat) : (s.modSrc j f).stands i u = s.stands i u := rfl
@[simp] theorem State.modSrc_cnt (s : State) (j : Nat) (f : SrcSt → SrcSt) (i u : Nat) : (s.modSrc j f).cnt i u = s.cnt i u := rfl

@[simp] theorem State.modDst_src (s : State) (j : Nat) (f : DstSt → DstSt) (k : Nat) : (s.modDst j f).src k = s.src k := rfl
@[simp] theorem State.modDst_ain (s : State) (j : Nat) (f : DstSt → DstSt) (k : Nat) : (s.modDst j f).ain k = s.ain k := rfl
@[simp] theorem State.modDst_aout (s : State) (j : Nat) (f : DstSt → DstSt) (k : Nat) : (s.modDst j f).aout k = s.aout k := rfl
@[simp] theorem State.modDst_aport (s : State) (j : Nat) (f : DstSt → DstSt) (k : Nat) : (s.modDst j f).aport k = s.aport k := rfl
@[simp] theorem State.modDst_lane (s : State) (j : Nat) (f : DstSt → DstSt) (k : Nat) : (s.modDst j f).lane k = s.lane k := rfl
@[simp] theorem State.modDst_port (s : State) (j : Nat) (f : DstSt → DstSt) (k : Nat) : (s.modDst j f).port k = s.port k := rfl
@[simp] theorem State.modDst_flow (s : State) (j : Nat) (f : DstSt → DstSt) (k : Nat) : (s.modDst j f).flow k = s.flow k := rfl
@[simp] theorem State.modDst_queue (s : State) (j : Nat) (f : DstSt → DstSt) (k : Nat) : (s.modDst j f).queue k = s.queue k := rfl
@[simp] theorem State.modDst_gate (s : State) (j : Nat) (f : DstSt → DstSt) (k : Nat) : (s.modDst j f).gate k = s.gate k := rfl
@[simp] theorem State.modDst_trig (s : State) (j : Nat) (f : DstSt → DstSt) (k : Nat) : (s.modDst j f).trig k = s.trig k := rfl
@[simp] theorem State.modDst_stem (s : State) (j : Nat) (f : DstSt → DstSt) (k : Nat) : (s.modDst j f).stem k = s.stem k := rfl
@[simp] theorem State.modDst_rend (s : State) (j : Nat) (f : DstSt → DstSt) (k : Nat) : (s.modDst j f).rend k = s.rend k := rfl
@[simp] theorem State.modDst_deliv (s : State) (j : Nat) (f : DstSt → DstSt) (k : Nat) : (s.modDst j f).deliv k = s.deliv k := rfl
@[simp] theorem State.modDst_core (s : State) (j : Nat) (f : DstSt → DstSt) (k : Nat) : (s.modDst j f).core k = s.core k := rfl
@[simp] theorem State.modDst_job (s : State) (j : Nat) (f : DstSt → DstSt) (k : Nat) : (s.modDst j f).job k = s.job k := rfl
@[simp] theorem State.modDst_hostFlow (s : State) (j : Nat) (f : DstSt → DstSt) (k : Nat) : (s.modDst j f).hostFlow k = s.hostFlow k := rfl
@[simp] theorem State.modDst_ctx (s : State) (j : Nat) (f : DstSt → DstSt) (k : Nat) : (s.modDst j f).ctx k = s.ctx k := rfl
@[simp] theorem State.modDst_layer (s : State) (j : Nat) (f : DstSt → DstSt) (k : Nat) : (s.modDst j f).layer k = s.layer k := rfl
@[simp] theorem State.modDst_gauge (s : State) (j : Nat) (f : DstSt → DstSt) (k : Nat) : (s.modDst j f).gauge k = s.gauge k := rfl
@[simp] theorem State.modDst_ring (s : State) (j : Nat) (f : DstSt → DstSt) (k : Nat) : (s.modDst j f).ring k = s.ring k := rfl
@[simp] theorem State.modDst_domain (s : State) (j : Nat) (f : DstSt → DstSt) (k : Nat) : (s.modDst j f).domain k = s.domain k := rfl
@[simp] theorem State.modDst_bus (s : State) (j : Nat) (f : DstSt → DstSt) (k : Nat) : (s.modDst j f).bus k = s.bus k := rfl
@[simp] theorem State.modDst_plane (s : State) (j : Nat) (f : DstSt → DstSt) (k : Nat) : (s.modDst j f).plane k = s.plane k := rfl
@[simp] theorem State.modDst_ref (s : State) (j : Nat) (f : DstSt → DstSt) (k : Nat) : (s.modDst j f).ref k = s.ref k := rfl
@[simp] theorem State.modDst_cap (s : State) (j : Nat) (f : DstSt → DstSt) (k : Nat) : (s.modDst j f).cap k = s.cap k := rfl
@[simp] theorem State.modDst_rider (s : State) (j : Nat) (f : DstSt → DstSt) (k : Nat) : (s.modDst j f).rider k = s.rider k := rfl
@[simp] theorem State.modDst_head (s : State) (j : Nat) (f : DstSt → DstSt) (k : Nat) : (s.modDst j f).head k = s.head k := rfl
@[simp] theorem State.modDst_culvert (s : State) (j : Nat) (f : DstSt → DstSt) (k : Nat) : (s.modDst j f).culvert k = s.culvert k := rfl
@[simp] theorem State.modDst_stack (s : State) (j : Nat) (f : DstSt → DstSt) (k : Nat) : (s.modDst j f).stack k = s.stack k := rfl
@[simp] theorem State.modDst_reachMem (s : State) (j : Nat) (f : DstSt → DstSt) (k : Nat) : (s.modDst j f).reachMem k = s.reachMem k := rfl
@[simp] theorem State.modDst_stands (s : State) (j : Nat) (f : DstSt → DstSt) (i u : Nat) : (s.modDst j f).stands i u = s.stands i u := rfl
@[simp] theorem State.modDst_cnt (s : State) (j : Nat) (f : DstSt → DstSt) (i u : Nat) : (s.modDst j f).cnt i u = s.cnt i u := rfl

@[simp] theorem State.modAin_src (s : State) (j : Nat) (f : AinSt → AinSt) (k : Nat) : (s.modAin j f).src k = s.src k := rfl
@[simp] theorem State.modAin_dst (s : State) (j : Nat) (f : AinSt → AinSt) (k : Nat) : (s.modAin j f).dst k = s.dst k := rfl
@[simp] theorem State.modAin_aout (s : State) (j : Nat) (f : AinSt → AinSt) (k : Nat) : (s.modAin j f).aout k = s.aout k := rfl
@[simp] theorem State.modAin_aport (s : State) (j : Nat) (f : AinSt → AinSt) (k : Nat) : (s.modAin j f).aport k = s.aport k := rfl
@[simp] theorem State.modAin_lane (s : State) (j : Nat) (f : AinSt → AinSt) (k : Nat) : (s.modAin j f).lane k = s.lane k := rfl
@[simp] theorem State.modAin_port (s : State) (j : Nat) (f : AinSt → AinSt) (k : Nat) : (s.modAin j f).port k = s.port k := rfl
@[simp] theorem State.modAin_flow (s : State) (j : Nat) (f : AinSt → AinSt) (k : Nat) : (s.modAin j f).flow k = s.flow k := rfl
@[simp] theorem State.modAin_queue (s : State) (j : Nat) (f : AinSt → AinSt) (k : Nat) : (s.modAin j f).queue k = s.queue k := rfl
@[simp] theorem State.modAin_gate (s : State) (j : Nat) (f : AinSt → AinSt) (k : Nat) : (s.modAin j f).gate k = s.gate k := rfl
@[simp] theorem State.modAin_trig (s : State) (j : Nat) (f : AinSt → AinSt) (k : Nat) : (s.modAin j f).trig k = s.trig k := rfl
@[simp] theorem State.modAin_stem (s : State) (j : Nat) (f : AinSt → AinSt) (k : Nat) : (s.modAin j f).stem k = s.stem k := rfl
@[simp] theorem State.modAin_rend (s : State) (j : Nat) (f : AinSt → AinSt) (k : Nat) : (s.modAin j f).rend k = s.rend k := rfl
@[simp] theorem State.modAin_deliv (s : State) (j : Nat) (f : AinSt → AinSt) (k : Nat) : (s.modAin j f).deliv k = s.deliv k := rfl
@[simp] theorem State.modAin_core (s : State) (j : Nat) (f : AinSt → AinSt) (k : Nat) : (s.modAin j f).core k = s.core k := rfl
@[simp] theorem State.modAin_job (s : State) (j : Nat) (f : AinSt → AinSt) (k : Nat) : (s.modAin j f).job k = s.job k := rfl
@[simp] theorem State.modAin_hostFlow (s : State) (j : Nat) (f : AinSt → AinSt) (k : Nat) : (s.modAin j f).hostFlow k = s.hostFlow k := rfl
@[simp] theorem State.modAin_ctx (s : State) (j : Nat) (f : AinSt → AinSt) (k : Nat) : (s.modAin j f).ctx k = s.ctx k := rfl
@[simp] theorem State.modAin_layer (s : State) (j : Nat) (f : AinSt → AinSt) (k : Nat) : (s.modAin j f).layer k = s.layer k := rfl
@[simp] theorem State.modAin_gauge (s : State) (j : Nat) (f : AinSt → AinSt) (k : Nat) : (s.modAin j f).gauge k = s.gauge k := rfl
@[simp] theorem State.modAin_ring (s : State) (j : Nat) (f : AinSt → AinSt) (k : Nat) : (s.modAin j f).ring k = s.ring k := rfl
@[simp] theorem State.modAin_domain (s : State) (j : Nat) (f : AinSt → AinSt) (k : Nat) : (s.modAin j f).domain k = s.domain k := rfl
@[simp] theorem State.modAin_bus (s : State) (j : Nat) (f : AinSt → AinSt) (k : Nat) : (s.modAin j f).bus k = s.bus k := rfl
@[simp] theorem State.modAin_plane (s : State) (j : Nat) (f : AinSt → AinSt) (k : Nat) : (s.modAin j f).plane k = s.plane k := rfl
@[simp] theorem State.modAin_ref (s : State) (j : Nat) (f : AinSt → AinSt) (k : Nat) : (s.modAin j f).ref k = s.ref k := rfl
@[simp] theorem State.modAin_cap (s : State) (j : Nat) (f : AinSt → AinSt) (k : Nat) : (s.modAin j f).cap k = s.cap k := rfl
@[simp] theorem State.modAin_rider (s : State) (j : Nat) (f : AinSt → AinSt) (k : Nat) : (s.modAin j f).rider k = s.rider k := rfl
@[simp] theorem State.modAin_head (s : State) (j : Nat) (f : AinSt → AinSt) (k : Nat) : (s.modAin j f).head k = s.head k := rfl
@[simp] theorem State.modAin_culvert (s : State) (j : Nat) (f : AinSt → AinSt) (k : Nat) : (s.modAin j f).culvert k = s.culvert k := rfl
@[simp] theorem State.modAin_stack (s : State) (j : Nat) (f : AinSt → AinSt) (k : Nat) : (s.modAin j f).stack k = s.stack k := rfl
@[simp] theorem State.modAin_reachMem (s : State) (j : Nat) (f : AinSt → AinSt) (k : Nat) : (s.modAin j f).reachMem k = s.reachMem k := rfl
@[simp] theorem State.modAin_stands (s : State) (j : Nat) (f : AinSt → AinSt) (i u : Nat) : (s.modAin j f).stands i u = s.stands i u := rfl
@[simp] theorem State.modAin_cnt (s : State) (j : Nat) (f : AinSt → AinSt) (i u : Nat) : (s.modAin j f).cnt i u = s.cnt i u := rfl

@[simp] theorem State.modAout_src (s : State) (j : Nat) (f : AoutSt → AoutSt) (k : Nat) : (s.modAout j f).src k = s.src k := rfl
@[simp] theorem State.modAout_dst (s : State) (j : Nat) (f : AoutSt → AoutSt) (k : Nat) : (s.modAout j f).dst k = s.dst k := rfl
@[simp] theorem State.modAout_ain (s : State) (j : Nat) (f : AoutSt → AoutSt) (k : Nat) : (s.modAout j f).ain k = s.ain k := rfl
@[simp] theorem State.modAout_aport (s : State) (j : Nat) (f : AoutSt → AoutSt) (k : Nat) : (s.modAout j f).aport k = s.aport k := rfl
@[simp] theorem State.modAout_lane (s : State) (j : Nat) (f : AoutSt → AoutSt) (k : Nat) : (s.modAout j f).lane k = s.lane k := rfl
@[simp] theorem State.modAout_port (s : State) (j : Nat) (f : AoutSt → AoutSt) (k : Nat) : (s.modAout j f).port k = s.port k := rfl
@[simp] theorem State.modAout_flow (s : State) (j : Nat) (f : AoutSt → AoutSt) (k : Nat) : (s.modAout j f).flow k = s.flow k := rfl
@[simp] theorem State.modAout_queue (s : State) (j : Nat) (f : AoutSt → AoutSt) (k : Nat) : (s.modAout j f).queue k = s.queue k := rfl
@[simp] theorem State.modAout_gate (s : State) (j : Nat) (f : AoutSt → AoutSt) (k : Nat) : (s.modAout j f).gate k = s.gate k := rfl
@[simp] theorem State.modAout_trig (s : State) (j : Nat) (f : AoutSt → AoutSt) (k : Nat) : (s.modAout j f).trig k = s.trig k := rfl
@[simp] theorem State.modAout_stem (s : State) (j : Nat) (f : AoutSt → AoutSt) (k : Nat) : (s.modAout j f).stem k = s.stem k := rfl
@[simp] theorem State.modAout_rend (s : State) (j : Nat) (f : AoutSt → AoutSt) (k : Nat) : (s.modAout j f).rend k = s.rend k := rfl
@[simp] theorem State.modAout_deliv (s : State) (j : Nat) (f : AoutSt → AoutSt) (k : Nat) : (s.modAout j f).deliv k = s.deliv k := rfl
@[simp] theorem State.modAout_core (s : State) (j : Nat) (f : AoutSt → AoutSt) (k : Nat) : (s.modAout j f).core k = s.core k := rfl
@[simp] theorem State.modAout_job (s : State) (j : Nat) (f : AoutSt → AoutSt) (k : Nat) : (s.modAout j f).job k = s.job k := rfl
@[simp] theorem State.modAout_hostFlow (s : State) (j : Nat) (f : AoutSt → AoutSt) (k : Nat) : (s.modAout j f).hostFlow k = s.hostFlow k := rfl
@[simp] theorem State.modAout_ctx (s : State) (j : Nat) (f : AoutSt → AoutSt) (k : Nat) : (s.modAout j f).ctx k = s.ctx k := rfl
@[simp] theorem State.modAout_layer (s : State) (j : Nat) (f : AoutSt → AoutSt) (k : Nat) : (s.modAout j f).layer k = s.layer k := rfl
@[simp] theorem State.modAout_gauge (s : State) (j : Nat) (f : AoutSt → AoutSt) (k : Nat) : (s.modAout j f).gauge k = s.gauge k := rfl
@[simp] theorem State.modAout_ring (s : State) (j : Nat) (f : AoutSt → AoutSt) (k : Nat) : (s.modAout j f).ring k = s.ring k := rfl
@[simp] theorem State.modAout_domain (s : State) (j : Nat) (f : AoutSt → AoutSt) (k : Nat) : (s.modAout j f).domain k = s.domain k := rfl
@[simp] theorem State.modAout_bus (s : State) (j : Nat) (f : AoutSt → AoutSt) (k : Nat) : (s.modAout j f).bus k = s.bus k := rfl
@[simp] theorem State.modAout_plane (s : State) (j : Nat) (f : AoutSt → AoutSt) (k : Nat) : (s.modAout j f).plane k = s.plane k := rfl
@[simp] theorem State.modAout_ref (s : State) (j : Nat) (f : AoutSt → AoutSt) (k : Nat) : (s.modAout j f).ref k = s.ref k := rfl
@[simp] theorem State.modAout_cap (s : State) (j : Nat) (f : AoutSt → AoutSt) (k : Nat) : (s.modAout j f).cap k = s.cap k := rfl
@[simp] theorem State.modAout_rider (s : State) (j : Nat) (f : AoutSt → AoutSt) (k : Nat) : (s.modAout j f).rider k = s.rider k := rfl
@[simp] theorem State.modAout_head (s : State) (j : Nat) (f : AoutSt → AoutSt) (k : Nat) : (s.modAout j f).head k = s.head k := rfl
@[simp] theorem State.modAout_culvert (s : State) (j : Nat) (f : AoutSt → AoutSt) (k : Nat) : (s.modAout j f).culvert k = s.culvert k := rfl
@[simp] theorem State.modAout_stack (s : State) (j : Nat) (f : AoutSt → AoutSt) (k : Nat) : (s.modAout j f).stack k = s.stack k := rfl
@[simp] theorem State.modAout_reachMem (s : State) (j : Nat) (f : AoutSt → AoutSt) (k : Nat) : (s.modAout j f).reachMem k = s.reachMem k := rfl
@[simp] theorem State.modAout_stands (s : State) (j : Nat) (f : AoutSt → AoutSt) (i u : Nat) : (s.modAout j f).stands i u = s.stands i u := rfl
@[simp] theorem State.modAout_cnt (s : State) (j : Nat) (f : AoutSt → AoutSt) (i u : Nat) : (s.modAout j f).cnt i u = s.cnt i u := rfl

@[simp] theorem State.modAport_src (s : State) (j : Nat) (f : AportSt → AportSt) (k : Nat) : (s.modAport j f).src k = s.src k := rfl
@[simp] theorem State.modAport_dst (s : State) (j : Nat) (f : AportSt → AportSt) (k : Nat) : (s.modAport j f).dst k = s.dst k := rfl
@[simp] theorem State.modAport_ain (s : State) (j : Nat) (f : AportSt → AportSt) (k : Nat) : (s.modAport j f).ain k = s.ain k := rfl
@[simp] theorem State.modAport_aout (s : State) (j : Nat) (f : AportSt → AportSt) (k : Nat) : (s.modAport j f).aout k = s.aout k := rfl
@[simp] theorem State.modAport_lane (s : State) (j : Nat) (f : AportSt → AportSt) (k : Nat) : (s.modAport j f).lane k = s.lane k := rfl
@[simp] theorem State.modAport_port (s : State) (j : Nat) (f : AportSt → AportSt) (k : Nat) : (s.modAport j f).port k = s.port k := rfl
@[simp] theorem State.modAport_flow (s : State) (j : Nat) (f : AportSt → AportSt) (k : Nat) : (s.modAport j f).flow k = s.flow k := rfl
@[simp] theorem State.modAport_queue (s : State) (j : Nat) (f : AportSt → AportSt) (k : Nat) : (s.modAport j f).queue k = s.queue k := rfl
@[simp] theorem State.modAport_gate (s : State) (j : Nat) (f : AportSt → AportSt) (k : Nat) : (s.modAport j f).gate k = s.gate k := rfl
@[simp] theorem State.modAport_trig (s : State) (j : Nat) (f : AportSt → AportSt) (k : Nat) : (s.modAport j f).trig k = s.trig k := rfl
@[simp] theorem State.modAport_stem (s : State) (j : Nat) (f : AportSt → AportSt) (k : Nat) : (s.modAport j f).stem k = s.stem k := rfl
@[simp] theorem State.modAport_rend (s : State) (j : Nat) (f : AportSt → AportSt) (k : Nat) : (s.modAport j f).rend k = s.rend k := rfl
@[simp] theorem State.modAport_deliv (s : State) (j : Nat) (f : AportSt → AportSt) (k : Nat) : (s.modAport j f).deliv k = s.deliv k := rfl
@[simp] theorem State.modAport_core (s : State) (j : Nat) (f : AportSt → AportSt) (k : Nat) : (s.modAport j f).core k = s.core k := rfl
@[simp] theorem State.modAport_job (s : State) (j : Nat) (f : AportSt → AportSt) (k : Nat) : (s.modAport j f).job k = s.job k := rfl
@[simp] theorem State.modAport_hostFlow (s : State) (j : Nat) (f : AportSt → AportSt) (k : Nat) : (s.modAport j f).hostFlow k = s.hostFlow k := rfl
@[simp] theorem State.modAport_ctx (s : State) (j : Nat) (f : AportSt → AportSt) (k : Nat) : (s.modAport j f).ctx k = s.ctx k := rfl
@[simp] theorem State.modAport_layer (s : State) (j : Nat) (f : AportSt → AportSt) (k : Nat) : (s.modAport j f).layer k = s.layer k := rfl
@[simp] theorem State.modAport_gauge (s : State) (j : Nat) (f : AportSt → AportSt) (k : Nat) : (s.modAport j f).gauge k = s.gauge k := rfl
@[simp] theorem State.modAport_ring (s : State) (j : Nat) (f : AportSt → AportSt) (k : Nat) : (s.modAport j f).ring k = s.ring k := rfl
@[simp] theorem State.modAport_domain (s : State) (j : Nat) (f : AportSt → AportSt) (k : Nat) : (s.modAport j f).domain k = s.domain k := rfl
@[simp] theorem State.modAport_bus (s : State) (j : Nat) (f : AportSt → AportSt) (k : Nat) : (s.modAport j f).bus k = s.bus k := rfl
@[simp] theorem State.modAport_plane (s : State) (j : Nat) (f : AportSt → AportSt) (k : Nat) : (s.modAport j f).plane k = s.plane k := rfl
@[simp] theorem State.modAport_ref (s : State) (j : Nat) (f : AportSt → AportSt) (k : Nat) : (s.modAport j f).ref k = s.ref k := rfl
@[simp] theorem State.modAport_cap (s : State) (j : Nat) (f : AportSt → AportSt) (k : Nat) : (s.modAport j f).cap k = s.cap k := rfl
@[simp] theorem State.modAport_rider (s : State) (j : Nat) (f : AportSt → AportSt) (k : Nat) : (s.modAport j f).rider k = s.rider k := rfl
@[simp] theorem State.modAport_head (s : State) (j : Nat) (f : AportSt → AportSt) (k : Nat) : (s.modAport j f).head k = s.head k := rfl
@[simp] theorem State.modAport_culvert (s : State) (j : Nat) (f : AportSt → AportSt) (k : Nat) : (s.modAport j f).culvert k = s.culvert k := rfl
@[simp] theorem State.modAport_stack (s : State) (j : Nat) (f : AportSt → AportSt) (k : Nat) : (s.modAport j f).stack k = s.stack k := rfl
@[simp] theorem State.modAport_reachMem (s : State) (j : Nat) (f : AportSt → AportSt) (k : Nat) : (s.modAport j f).reachMem k = s.reachMem k := rfl
@[simp] theorem State.modAport_stands (s : State) (j : Nat) (f : AportSt → AportSt) (i u : Nat) : (s.modAport j f).stands i u = s.stands i u := rfl
@[simp] theorem State.modAport_cnt (s : State) (j : Nat) (f : AportSt → AportSt) (i u : Nat) : (s.modAport j f).cnt i u = s.cnt i u := rfl

@[simp] theorem State.modLane_src (s : State) (j : Nat) (f : LaneSt → LaneSt) (k : Nat) : (s.modLane j f).src k = s.src k := rfl
@[simp] theorem State.modLane_dst (s : State) (j : Nat) (f : LaneSt → LaneSt) (k : Nat) : (s.modLane j f).dst k = s.dst k := rfl
@[simp] theorem State.modLane_ain (s : State) (j : Nat) (f : LaneSt → LaneSt) (k : Nat) : (s.modLane j f).ain k = s.ain k := rfl
@[simp] theorem State.modLane_aout (s : State) (j : Nat) (f : LaneSt → LaneSt) (k : Nat) : (s.modLane j f).aout k = s.aout k := rfl
@[simp] theorem State.modLane_aport (s : State) (j : Nat) (f : LaneSt → LaneSt) (k : Nat) : (s.modLane j f).aport k = s.aport k := rfl
@[simp] theorem State.modLane_port (s : State) (j : Nat) (f : LaneSt → LaneSt) (k : Nat) : (s.modLane j f).port k = s.port k := rfl
@[simp] theorem State.modLane_flow (s : State) (j : Nat) (f : LaneSt → LaneSt) (k : Nat) : (s.modLane j f).flow k = s.flow k := rfl
@[simp] theorem State.modLane_queue (s : State) (j : Nat) (f : LaneSt → LaneSt) (k : Nat) : (s.modLane j f).queue k = s.queue k := rfl
@[simp] theorem State.modLane_gate (s : State) (j : Nat) (f : LaneSt → LaneSt) (k : Nat) : (s.modLane j f).gate k = s.gate k := rfl
@[simp] theorem State.modLane_trig (s : State) (j : Nat) (f : LaneSt → LaneSt) (k : Nat) : (s.modLane j f).trig k = s.trig k := rfl
@[simp] theorem State.modLane_stem (s : State) (j : Nat) (f : LaneSt → LaneSt) (k : Nat) : (s.modLane j f).stem k = s.stem k := rfl
@[simp] theorem State.modLane_rend (s : State) (j : Nat) (f : LaneSt → LaneSt) (k : Nat) : (s.modLane j f).rend k = s.rend k := rfl
@[simp] theorem State.modLane_deliv (s : State) (j : Nat) (f : LaneSt → LaneSt) (k : Nat) : (s.modLane j f).deliv k = s.deliv k := rfl
@[simp] theorem State.modLane_core (s : State) (j : Nat) (f : LaneSt → LaneSt) (k : Nat) : (s.modLane j f).core k = s.core k := rfl
@[simp] theorem State.modLane_job (s : State) (j : Nat) (f : LaneSt → LaneSt) (k : Nat) : (s.modLane j f).job k = s.job k := rfl
@[simp] theorem State.modLane_hostFlow (s : State) (j : Nat) (f : LaneSt → LaneSt) (k : Nat) : (s.modLane j f).hostFlow k = s.hostFlow k := rfl
@[simp] theorem State.modLane_ctx (s : State) (j : Nat) (f : LaneSt → LaneSt) (k : Nat) : (s.modLane j f).ctx k = s.ctx k := rfl
@[simp] theorem State.modLane_layer (s : State) (j : Nat) (f : LaneSt → LaneSt) (k : Nat) : (s.modLane j f).layer k = s.layer k := rfl
@[simp] theorem State.modLane_gauge (s : State) (j : Nat) (f : LaneSt → LaneSt) (k : Nat) : (s.modLane j f).gauge k = s.gauge k := rfl
@[simp] theorem State.modLane_ring (s : State) (j : Nat) (f : LaneSt → LaneSt) (k : Nat) : (s.modLane j f).ring k = s.ring k := rfl
@[simp] theorem State.modLane_domain (s : State) (j : Nat) (f : LaneSt → LaneSt) (k : Nat) : (s.modLane j f).domain k = s.domain k := rfl
@[simp] theorem State.modLane_bus (s : State) (j : Nat) (f : LaneSt → LaneSt) (k : Nat) : (s.modLane j f).bus k = s.bus k := rfl
@[simp] theorem State.modLane_plane (s : State) (j : Nat) (f : LaneSt → LaneSt) (k : Nat) : (s.modLane j f).plane k = s.plane k := rfl
@[simp] theorem State.modLane_ref (s : State) (j : Nat) (f : LaneSt → LaneSt) (k : Nat) : (s.modLane j f).ref k = s.ref k := rfl
@[simp] theorem State.modLane_cap (s : State) (j : Nat) (f : LaneSt → LaneSt) (k : Nat) : (s.modLane j f).cap k = s.cap k := rfl
@[simp] theorem State.modLane_rider (s : State) (j : Nat) (f : LaneSt → LaneSt) (k : Nat) : (s.modLane j f).rider k = s.rider k := rfl
@[simp] theorem State.modLane_head (s : State) (j : Nat) (f : LaneSt → LaneSt) (k : Nat) : (s.modLane j f).head k = s.head k := rfl
@[simp] theorem State.modLane_culvert (s : State) (j : Nat) (f : LaneSt → LaneSt) (k : Nat) : (s.modLane j f).culvert k = s.culvert k := rfl
@[simp] theorem State.modLane_stack (s : State) (j : Nat) (f : LaneSt → LaneSt) (k : Nat) : (s.modLane j f).stack k = s.stack k := rfl
@[simp] theorem State.modLane_reachMem (s : State) (j : Nat) (f : LaneSt → LaneSt) (k : Nat) : (s.modLane j f).reachMem k = s.reachMem k := rfl
@[simp] theorem State.modLane_stands (s : State) (j : Nat) (f : LaneSt → LaneSt) (i u : Nat) : (s.modLane j f).stands i u = s.stands i u := rfl
@[simp] theorem State.modLane_cnt (s : State) (j : Nat) (f : LaneSt → LaneSt) (i u : Nat) : (s.modLane j f).cnt i u = s.cnt i u := rfl

@[simp] theorem State.modPort_src (s : State) (j : Nat) (f : PortSt → PortSt) (k : Nat) : (s.modPort j f).src k = s.src k := rfl
@[simp] theorem State.modPort_dst (s : State) (j : Nat) (f : PortSt → PortSt) (k : Nat) : (s.modPort j f).dst k = s.dst k := rfl
@[simp] theorem State.modPort_ain (s : State) (j : Nat) (f : PortSt → PortSt) (k : Nat) : (s.modPort j f).ain k = s.ain k := rfl
@[simp] theorem State.modPort_aout (s : State) (j : Nat) (f : PortSt → PortSt) (k : Nat) : (s.modPort j f).aout k = s.aout k := rfl
@[simp] theorem State.modPort_aport (s : State) (j : Nat) (f : PortSt → PortSt) (k : Nat) : (s.modPort j f).aport k = s.aport k := rfl
@[simp] theorem State.modPort_lane (s : State) (j : Nat) (f : PortSt → PortSt) (k : Nat) : (s.modPort j f).lane k = s.lane k := rfl
@[simp] theorem State.modPort_flow (s : State) (j : Nat) (f : PortSt → PortSt) (k : Nat) : (s.modPort j f).flow k = s.flow k := rfl
@[simp] theorem State.modPort_queue (s : State) (j : Nat) (f : PortSt → PortSt) (k : Nat) : (s.modPort j f).queue k = s.queue k := rfl
@[simp] theorem State.modPort_gate (s : State) (j : Nat) (f : PortSt → PortSt) (k : Nat) : (s.modPort j f).gate k = s.gate k := rfl
@[simp] theorem State.modPort_trig (s : State) (j : Nat) (f : PortSt → PortSt) (k : Nat) : (s.modPort j f).trig k = s.trig k := rfl
@[simp] theorem State.modPort_stem (s : State) (j : Nat) (f : PortSt → PortSt) (k : Nat) : (s.modPort j f).stem k = s.stem k := rfl
@[simp] theorem State.modPort_rend (s : State) (j : Nat) (f : PortSt → PortSt) (k : Nat) : (s.modPort j f).rend k = s.rend k := rfl
@[simp] theorem State.modPort_deliv (s : State) (j : Nat) (f : PortSt → PortSt) (k : Nat) : (s.modPort j f).deliv k = s.deliv k := rfl
@[simp] theorem State.modPort_core (s : State) (j : Nat) (f : PortSt → PortSt) (k : Nat) : (s.modPort j f).core k = s.core k := rfl
@[simp] theorem State.modPort_job (s : State) (j : Nat) (f : PortSt → PortSt) (k : Nat) : (s.modPort j f).job k = s.job k := rfl
@[simp] theorem State.modPort_hostFlow (s : State) (j : Nat) (f : PortSt → PortSt) (k : Nat) : (s.modPort j f).hostFlow k = s.hostFlow k := rfl
@[simp] theorem State.modPort_ctx (s : State) (j : Nat) (f : PortSt → PortSt) (k : Nat) : (s.modPort j f).ctx k = s.ctx k := rfl
@[simp] theorem State.modPort_layer (s : State) (j : Nat) (f : PortSt → PortSt) (k : Nat) : (s.modPort j f).layer k = s.layer k := rfl
@[simp] theorem State.modPort_gauge (s : State) (j : Nat) (f : PortSt → PortSt) (k : Nat) : (s.modPort j f).gauge k = s.gauge k := rfl
@[simp] theorem State.modPort_ring (s : State) (j : Nat) (f : PortSt → PortSt) (k : Nat) : (s.modPort j f).ring k = s.ring k := rfl
@[simp] theorem State.modPort_domain (s : State) (j : Nat) (f : PortSt → PortSt) (k : Nat) : (s.modPort j f).domain k = s.domain k := rfl
@[simp] theorem State.modPort_bus (s : State) (j : Nat) (f : PortSt → PortSt) (k : Nat) : (s.modPort j f).bus k = s.bus k := rfl
@[simp] theorem State.modPort_plane (s : State) (j : Nat) (f : PortSt → PortSt) (k : Nat) : (s.modPort j f).plane k = s.plane k := rfl
@[simp] theorem State.modPort_ref (s : State) (j : Nat) (f : PortSt → PortSt) (k : Nat) : (s.modPort j f).ref k = s.ref k := rfl
@[simp] theorem State.modPort_cap (s : State) (j : Nat) (f : PortSt → PortSt) (k : Nat) : (s.modPort j f).cap k = s.cap k := rfl
@[simp] theorem State.modPort_rider (s : State) (j : Nat) (f : PortSt → PortSt) (k : Nat) : (s.modPort j f).rider k = s.rider k := rfl
@[simp] theorem State.modPort_head (s : State) (j : Nat) (f : PortSt → PortSt) (k : Nat) : (s.modPort j f).head k = s.head k := rfl
@[simp] theorem State.modPort_culvert (s : State) (j : Nat) (f : PortSt → PortSt) (k : Nat) : (s.modPort j f).culvert k = s.culvert k := rfl
@[simp] theorem State.modPort_stack (s : State) (j : Nat) (f : PortSt → PortSt) (k : Nat) : (s.modPort j f).stack k = s.stack k := rfl
@[simp] theorem State.modPort_reachMem (s : State) (j : Nat) (f : PortSt → PortSt) (k : Nat) : (s.modPort j f).reachMem k = s.reachMem k := rfl
@[simp] theorem State.modPort_stands (s : State) (j : Nat) (f : PortSt → PortSt) (i u : Nat) : (s.modPort j f).stands i u = s.stands i u := rfl
@[simp] theorem State.modPort_cnt (s : State) (j : Nat) (f : PortSt → PortSt) (i u : Nat) : (s.modPort j f).cnt i u = s.cnt i u := rfl

@[simp] theorem State.modFlow_src (s : State) (j : Nat) (f : FlowSt → FlowSt) (k : Nat) : (s.modFlow j f).src k = s.src k := rfl
@[simp] theorem State.modFlow_dst (s : State) (j : Nat) (f : FlowSt → FlowSt) (k : Nat) : (s.modFlow j f).dst k = s.dst k := rfl
@[simp] theorem State.modFlow_ain (s : State) (j : Nat) (f : FlowSt → FlowSt) (k : Nat) : (s.modFlow j f).ain k = s.ain k := rfl
@[simp] theorem State.modFlow_aout (s : State) (j : Nat) (f : FlowSt → FlowSt) (k : Nat) : (s.modFlow j f).aout k = s.aout k := rfl
@[simp] theorem State.modFlow_aport (s : State) (j : Nat) (f : FlowSt → FlowSt) (k : Nat) : (s.modFlow j f).aport k = s.aport k := rfl
@[simp] theorem State.modFlow_lane (s : State) (j : Nat) (f : FlowSt → FlowSt) (k : Nat) : (s.modFlow j f).lane k = s.lane k := rfl
@[simp] theorem State.modFlow_port (s : State) (j : Nat) (f : FlowSt → FlowSt) (k : Nat) : (s.modFlow j f).port k = s.port k := rfl
@[simp] theorem State.modFlow_queue (s : State) (j : Nat) (f : FlowSt → FlowSt) (k : Nat) : (s.modFlow j f).queue k = s.queue k := rfl
@[simp] theorem State.modFlow_gate (s : State) (j : Nat) (f : FlowSt → FlowSt) (k : Nat) : (s.modFlow j f).gate k = s.gate k := rfl
@[simp] theorem State.modFlow_trig (s : State) (j : Nat) (f : FlowSt → FlowSt) (k : Nat) : (s.modFlow j f).trig k = s.trig k := rfl
@[simp] theorem State.modFlow_stem (s : State) (j : Nat) (f : FlowSt → FlowSt) (k : Nat) : (s.modFlow j f).stem k = s.stem k := rfl
@[simp] theorem State.modFlow_rend (s : State) (j : Nat) (f : FlowSt → FlowSt) (k : Nat) : (s.modFlow j f).rend k = s.rend k := rfl
@[simp] theorem State.modFlow_deliv (s : State) (j : Nat) (f : FlowSt → FlowSt) (k : Nat) : (s.modFlow j f).deliv k = s.deliv k := rfl
@[simp] theorem State.modFlow_core (s : State) (j : Nat) (f : FlowSt → FlowSt) (k : Nat) : (s.modFlow j f).core k = s.core k := rfl
@[simp] theorem State.modFlow_job (s : State) (j : Nat) (f : FlowSt → FlowSt) (k : Nat) : (s.modFlow j f).job k = s.job k := rfl
@[simp] theorem State.modFlow_hostFlow (s : State) (j : Nat) (f : FlowSt → FlowSt) (k : Nat) : (s.modFlow j f).hostFlow k = s.hostFlow k := rfl
@[simp] theorem State.modFlow_ctx (s : State) (j : Nat) (f : FlowSt → FlowSt) (k : Nat) : (s.modFlow j f).ctx k = s.ctx k := rfl
@[simp] theorem State.modFlow_layer (s : State) (j : Nat) (f : FlowSt → FlowSt) (k : Nat) : (s.modFlow j f).layer k = s.layer k := rfl
@[simp] theorem State.modFlow_gauge (s : State) (j : Nat) (f : FlowSt → FlowSt) (k : Nat) : (s.modFlow j f).gauge k = s.gauge k := rfl
@[simp] theorem State.modFlow_ring (s : State) (j : Nat) (f : FlowSt → FlowSt) (k : Nat) : (s.modFlow j f).ring k = s.ring k := rfl
@[simp] theorem State.modFlow_domain (s : State) (j : Nat) (f : FlowSt → FlowSt) (k : Nat) : (s.modFlow j f).domain k = s.domain k := rfl
@[simp] theorem State.modFlow_bus (s : State) (j : Nat) (f : FlowSt → FlowSt) (k : Nat) : (s.modFlow j f).bus k = s.bus k := rfl
@[simp] theorem State.modFlow_plane (s : State) (j : Nat) (f : FlowSt → FlowSt) (k : Nat) : (s.modFlow j f).plane k = s.plane k := rfl
@[simp] theorem State.modFlow_ref (s : State) (j : Nat) (f : FlowSt → FlowSt) (k : Nat) : (s.modFlow j f).ref k = s.ref k := rfl
@[simp] theorem State.modFlow_cap (s : State) (j : Nat) (f : FlowSt → FlowSt) (k : Nat) : (s.modFlow j f).cap k = s.cap k := rfl
@[simp] theorem State.modFlow_rider (s : State) (j : Nat) (f : FlowSt → FlowSt) (k : Nat) : (s.modFlow j f).rider k = s.rider k := rfl
@[simp] theorem State.modFlow_head (s : State) (j : Nat) (f : FlowSt → FlowSt) (k : Nat) : (s.modFlow j f).head k = s.head k := rfl
@[simp] theorem State.modFlow_culvert (s : State) (j : Nat) (f : FlowSt → FlowSt) (k : Nat) : (s.modFlow j f).culvert k = s.culvert k := rfl
@[simp] theorem State.modFlow_stack (s : State) (j : Nat) (f : FlowSt → FlowSt) (k : Nat) : (s.modFlow j f).stack k = s.stack k := rfl
@[simp] theorem State.modFlow_reachMem (s : State) (j : Nat) (f : FlowSt → FlowSt) (k : Nat) : (s.modFlow j f).reachMem k = s.reachMem k := rfl
@[simp] theorem State.modFlow_stands (s : State) (j : Nat) (f : FlowSt → FlowSt) (i u : Nat) : (s.modFlow j f).stands i u = s.stands i u := rfl
@[simp] theorem State.modFlow_cnt (s : State) (j : Nat) (f : FlowSt → FlowSt) (i u : Nat) : (s.modFlow j f).cnt i u = s.cnt i u := rfl

@[simp] theorem State.modQueue_src (s : State) (j : Nat) (f : QueueSt → QueueSt) (k : Nat) : (s.modQueue j f).src k = s.src k := rfl
@[simp] theorem State.modQueue_dst (s : State) (j : Nat) (f : QueueSt → QueueSt) (k : Nat) : (s.modQueue j f).dst k = s.dst k := rfl
@[simp] theorem State.modQueue_ain (s : State) (j : Nat) (f : QueueSt → QueueSt) (k : Nat) : (s.modQueue j f).ain k = s.ain k := rfl
@[simp] theorem State.modQueue_aout (s : State) (j : Nat) (f : QueueSt → QueueSt) (k : Nat) : (s.modQueue j f).aout k = s.aout k := rfl
@[simp] theorem State.modQueue_aport (s : State) (j : Nat) (f : QueueSt → QueueSt) (k : Nat) : (s.modQueue j f).aport k = s.aport k := rfl
@[simp] theorem State.modQueue_lane (s : State) (j : Nat) (f : QueueSt → QueueSt) (k : Nat) : (s.modQueue j f).lane k = s.lane k := rfl
@[simp] theorem State.modQueue_port (s : State) (j : Nat) (f : QueueSt → QueueSt) (k : Nat) : (s.modQueue j f).port k = s.port k := rfl
@[simp] theorem State.modQueue_flow (s : State) (j : Nat) (f : QueueSt → QueueSt) (k : Nat) : (s.modQueue j f).flow k = s.flow k := rfl
@[simp] theorem State.modQueue_gate (s : State) (j : Nat) (f : QueueSt → QueueSt) (k : Nat) : (s.modQueue j f).gate k = s.gate k := rfl
@[simp] theorem State.modQueue_trig (s : State) (j : Nat) (f : QueueSt → QueueSt) (k : Nat) : (s.modQueue j f).trig k = s.trig k := rfl
@[simp] theorem State.modQueue_stem (s : State) (j : Nat) (f : QueueSt → QueueSt) (k : Nat) : (s.modQueue j f).stem k = s.stem k := rfl
@[simp] theorem State.modQueue_rend (s : State) (j : Nat) (f : QueueSt → QueueSt) (k : Nat) : (s.modQueue j f).rend k = s.rend k := rfl
@[simp] theorem State.modQueue_deliv (s : State) (j : Nat) (f : QueueSt → QueueSt) (k : Nat) : (s.modQueue j f).deliv k = s.deliv k := rfl
@[simp] theorem State.modQueue_core (s : State) (j : Nat) (f : QueueSt → QueueSt) (k : Nat) : (s.modQueue j f).core k = s.core k := rfl
@[simp] theorem State.modQueue_job (s : State) (j : Nat) (f : QueueSt → QueueSt) (k : Nat) : (s.modQueue j f).job k = s.job k := rfl
@[simp] theorem State.modQueue_hostFlow (s : State) (j : Nat) (f : QueueSt → QueueSt) (k : Nat) : (s.modQueue j f).hostFlow k = s.hostFlow k := rfl
@[simp] theorem State.modQueue_ctx (s : State) (j : Nat) (f : QueueSt → QueueSt) (k : Nat) : (s.modQueue j f).ctx k = s.ctx k := rfl
@[simp] theorem State.modQueue_layer (s : State) (j : Nat) (f : QueueSt → QueueSt) (k : Nat) : (s.modQueue j f).layer k = s.layer k := rfl
@[simp] theorem State.modQueue_gauge (s : State) (j : Nat) (f : QueueSt → QueueSt) (k : Nat) : (s.modQueue j f).gauge k = s.gauge k := rfl
@[simp] theorem State.modQueue_ring (s : State) (j : Nat) (f : QueueSt → QueueSt) (k : Nat) : (s.modQueue j f).ring k = s.ring k := rfl
@[simp] theorem State.modQueue_domain (s : State) (j : Nat) (f : QueueSt → QueueSt) (k : Nat) : (s.modQueue j f).domain k = s.domain k := rfl
@[simp] theorem State.modQueue_bus (s : State) (j : Nat) (f : QueueSt → QueueSt) (k : Nat) : (s.modQueue j f).bus k = s.bus k := rfl
@[simp] theorem State.modQueue_plane (s : State) (j : Nat) (f : QueueSt → QueueSt) (k : Nat) : (s.modQueue j f).plane k = s.plane k := rfl
@[simp] theorem State.modQueue_ref (s : State) (j : Nat) (f : QueueSt → QueueSt) (k : Nat) : (s.modQueue j f).ref k = s.ref k := rfl
@[simp] theorem State.modQueue_cap (s : State) (j : Nat) (f : QueueSt → QueueSt) (k : Nat) : (s.modQueue j f).cap k = s.cap k := rfl
@[simp] theorem State.modQueue_rider (s : State) (j : Nat) (f : QueueSt → QueueSt) (k : Nat) : (s.modQueue j f).rider k = s.rider k := rfl
@[simp] theorem State.modQueue_head (s : State) (j : Nat) (f : QueueSt → QueueSt) (k : Nat) : (s.modQueue j f).head k = s.head k := rfl
@[simp] theorem State.modQueue_culvert (s : State) (j : Nat) (f : QueueSt → QueueSt) (k : Nat) : (s.modQueue j f).culvert k = s.culvert k := rfl
@[simp] theorem State.modQueue_stack (s : State) (j : Nat) (f : QueueSt → QueueSt) (k : Nat) : (s.modQueue j f).stack k = s.stack k := rfl
@[simp] theorem State.modQueue_reachMem (s : State) (j : Nat) (f : QueueSt → QueueSt) (k : Nat) : (s.modQueue j f).reachMem k = s.reachMem k := rfl
@[simp] theorem State.modQueue_stands (s : State) (j : Nat) (f : QueueSt → QueueSt) (i u : Nat) : (s.modQueue j f).stands i u = s.stands i u := rfl
@[simp] theorem State.modQueue_cnt (s : State) (j : Nat) (f : QueueSt → QueueSt) (i u : Nat) : (s.modQueue j f).cnt i u = s.cnt i u := rfl

@[simp] theorem State.modGate_src (s : State) (j : Nat) (f : GateSt → GateSt) (k : Nat) : (s.modGate j f).src k = s.src k := rfl
@[simp] theorem State.modGate_dst (s : State) (j : Nat) (f : GateSt → GateSt) (k : Nat) : (s.modGate j f).dst k = s.dst k := rfl
@[simp] theorem State.modGate_ain (s : State) (j : Nat) (f : GateSt → GateSt) (k : Nat) : (s.modGate j f).ain k = s.ain k := rfl
@[simp] theorem State.modGate_aout (s : State) (j : Nat) (f : GateSt → GateSt) (k : Nat) : (s.modGate j f).aout k = s.aout k := rfl
@[simp] theorem State.modGate_aport (s : State) (j : Nat) (f : GateSt → GateSt) (k : Nat) : (s.modGate j f).aport k = s.aport k := rfl
@[simp] theorem State.modGate_lane (s : State) (j : Nat) (f : GateSt → GateSt) (k : Nat) : (s.modGate j f).lane k = s.lane k := rfl
@[simp] theorem State.modGate_port (s : State) (j : Nat) (f : GateSt → GateSt) (k : Nat) : (s.modGate j f).port k = s.port k := rfl
@[simp] theorem State.modGate_flow (s : State) (j : Nat) (f : GateSt → GateSt) (k : Nat) : (s.modGate j f).flow k = s.flow k := rfl
@[simp] theorem State.modGate_queue (s : State) (j : Nat) (f : GateSt → GateSt) (k : Nat) : (s.modGate j f).queue k = s.queue k := rfl
@[simp] theorem State.modGate_trig (s : State) (j : Nat) (f : GateSt → GateSt) (k : Nat) : (s.modGate j f).trig k = s.trig k := rfl
@[simp] theorem State.modGate_stem (s : State) (j : Nat) (f : GateSt → GateSt) (k : Nat) : (s.modGate j f).stem k = s.stem k := rfl
@[simp] theorem State.modGate_rend (s : State) (j : Nat) (f : GateSt → GateSt) (k : Nat) : (s.modGate j f).rend k = s.rend k := rfl
@[simp] theorem State.modGate_deliv (s : State) (j : Nat) (f : GateSt → GateSt) (k : Nat) : (s.modGate j f).deliv k = s.deliv k := rfl
@[simp] theorem State.modGate_core (s : State) (j : Nat) (f : GateSt → GateSt) (k : Nat) : (s.modGate j f).core k = s.core k := rfl
@[simp] theorem State.modGate_job (s : State) (j : Nat) (f : GateSt → GateSt) (k : Nat) : (s.modGate j f).job k = s.job k := rfl
@[simp] theorem State.modGate_hostFlow (s : State) (j : Nat) (f : GateSt → GateSt) (k : Nat) : (s.modGate j f).hostFlow k = s.hostFlow k := rfl
@[simp] theorem State.modGate_ctx (s : State) (j : Nat) (f : GateSt → GateSt) (k : Nat) : (s.modGate j f).ctx k = s.ctx k := rfl
@[simp] theorem State.modGate_layer (s : State) (j : Nat) (f : GateSt → GateSt) (k : Nat) : (s.modGate j f).layer k = s.layer k := rfl
@[simp] theorem State.modGate_gauge (s : State) (j : Nat) (f : GateSt → GateSt) (k : Nat) : (s.modGate j f).gauge k = s.gauge k := rfl
@[simp] theorem State.modGate_ring (s : State) (j : Nat) (f : GateSt → GateSt) (k : Nat) : (s.modGate j f).ring k = s.ring k := rfl
@[simp] theorem State.modGate_domain (s : State) (j : Nat) (f : GateSt → GateSt) (k : Nat) : (s.modGate j f).domain k = s.domain k := rfl
@[simp] theorem State.modGate_bus (s : State) (j : Nat) (f : GateSt → GateSt) (k : Nat) : (s.modGate j f).bus k = s.bus k := rfl
@[simp] theorem State.modGate_plane (s : State) (j : Nat) (f : GateSt → GateSt) (k : Nat) : (s.modGate j f).plane k = s.plane k := rfl
@[simp] theorem State.modGate_ref (s : State) (j : Nat) (f : GateSt → GateSt) (k : Nat) : (s.modGate j f).ref k = s.ref k := rfl
@[simp] theorem State.modGate_cap (s : State) (j : Nat) (f : GateSt → GateSt) (k : Nat) : (s.modGate j f).cap k = s.cap k := rfl
@[simp] theorem State.modGate_rider (s : State) (j : Nat) (f : GateSt → GateSt) (k : Nat) : (s.modGate j f).rider k = s.rider k := rfl
@[simp] theorem State.modGate_head (s : State) (j : Nat) (f : GateSt → GateSt) (k : Nat) : (s.modGate j f).head k = s.head k := rfl
@[simp] theorem State.modGate_culvert (s : State) (j : Nat) (f : GateSt → GateSt) (k : Nat) : (s.modGate j f).culvert k = s.culvert k := rfl
@[simp] theorem State.modGate_stack (s : State) (j : Nat) (f : GateSt → GateSt) (k : Nat) : (s.modGate j f).stack k = s.stack k := rfl
@[simp] theorem State.modGate_reachMem (s : State) (j : Nat) (f : GateSt → GateSt) (k : Nat) : (s.modGate j f).reachMem k = s.reachMem k := rfl
@[simp] theorem State.modGate_stands (s : State) (j : Nat) (f : GateSt → GateSt) (i u : Nat) : (s.modGate j f).stands i u = s.stands i u := rfl
@[simp] theorem State.modGate_cnt (s : State) (j : Nat) (f : GateSt → GateSt) (i u : Nat) : (s.modGate j f).cnt i u = s.cnt i u := rfl

@[simp] theorem State.modTrig_src (s : State) (j : Nat) (f : TrigSt → TrigSt) (k : Nat) : (s.modTrig j f).src k = s.src k := rfl
@[simp] theorem State.modTrig_dst (s : State) (j : Nat) (f : TrigSt → TrigSt) (k : Nat) : (s.modTrig j f).dst k = s.dst k := rfl
@[simp] theorem State.modTrig_ain (s : State) (j : Nat) (f : TrigSt → TrigSt) (k : Nat) : (s.modTrig j f).ain k = s.ain k := rfl
@[simp] theorem State.modTrig_aout (s : State) (j : Nat) (f : TrigSt → TrigSt) (k : Nat) : (s.modTrig j f).aout k = s.aout k := rfl
@[simp] theorem State.modTrig_aport (s : State) (j : Nat) (f : TrigSt → TrigSt) (k : Nat) : (s.modTrig j f).aport k = s.aport k := rfl
@[simp] theorem State.modTrig_lane (s : State) (j : Nat) (f : TrigSt → TrigSt) (k : Nat) : (s.modTrig j f).lane k = s.lane k := rfl
@[simp] theorem State.modTrig_port (s : State) (j : Nat) (f : TrigSt → TrigSt) (k : Nat) : (s.modTrig j f).port k = s.port k := rfl
@[simp] theorem State.modTrig_flow (s : State) (j : Nat) (f : TrigSt → TrigSt) (k : Nat) : (s.modTrig j f).flow k = s.flow k := rfl
@[simp] theorem State.modTrig_queue (s : State) (j : Nat) (f : TrigSt → TrigSt) (k : Nat) : (s.modTrig j f).queue k = s.queue k := rfl
@[simp] theorem State.modTrig_gate (s : State) (j : Nat) (f : TrigSt → TrigSt) (k : Nat) : (s.modTrig j f).gate k = s.gate k := rfl
@[simp] theorem State.modTrig_stem (s : State) (j : Nat) (f : TrigSt → TrigSt) (k : Nat) : (s.modTrig j f).stem k = s.stem k := rfl
@[simp] theorem State.modTrig_rend (s : State) (j : Nat) (f : TrigSt → TrigSt) (k : Nat) : (s.modTrig j f).rend k = s.rend k := rfl
@[simp] theorem State.modTrig_deliv (s : State) (j : Nat) (f : TrigSt → TrigSt) (k : Nat) : (s.modTrig j f).deliv k = s.deliv k := rfl
@[simp] theorem State.modTrig_core (s : State) (j : Nat) (f : TrigSt → TrigSt) (k : Nat) : (s.modTrig j f).core k = s.core k := rfl
@[simp] theorem State.modTrig_job (s : State) (j : Nat) (f : TrigSt → TrigSt) (k : Nat) : (s.modTrig j f).job k = s.job k := rfl
@[simp] theorem State.modTrig_hostFlow (s : State) (j : Nat) (f : TrigSt → TrigSt) (k : Nat) : (s.modTrig j f).hostFlow k = s.hostFlow k := rfl
@[simp] theorem State.modTrig_ctx (s : State) (j : Nat) (f : TrigSt → TrigSt) (k : Nat) : (s.modTrig j f).ctx k = s.ctx k := rfl
@[simp] theorem State.modTrig_layer (s : State) (j : Nat) (f : TrigSt → TrigSt) (k : Nat) : (s.modTrig j f).layer k = s.layer k := rfl
@[simp] theorem State.modTrig_gauge (s : State) (j : Nat) (f : TrigSt → TrigSt) (k : Nat) : (s.modTrig j f).gauge k = s.gauge k := rfl
@[simp] theorem State.modTrig_ring (s : State) (j : Nat) (f : TrigSt → TrigSt) (k : Nat) : (s.modTrig j f).ring k = s.ring k := rfl
@[simp] theorem State.modTrig_domain (s : State) (j : Nat) (f : TrigSt → TrigSt) (k : Nat) : (s.modTrig j f).domain k = s.domain k := rfl
@[simp] theorem State.modTrig_bus (s : State) (j : Nat) (f : TrigSt → TrigSt) (k : Nat) : (s.modTrig j f).bus k = s.bus k := rfl
@[simp] theorem State.modTrig_plane (s : State) (j : Nat) (f : TrigSt → TrigSt) (k : Nat) : (s.modTrig j f).plane k = s.plane k := rfl
@[simp] theorem State.modTrig_ref (s : State) (j : Nat) (f : TrigSt → TrigSt) (k : Nat) : (s.modTrig j f).ref k = s.ref k := rfl
@[simp] theorem State.modTrig_cap (s : State) (j : Nat) (f : TrigSt → TrigSt) (k : Nat) : (s.modTrig j f).cap k = s.cap k := rfl
@[simp] theorem State.modTrig_rider (s : State) (j : Nat) (f : TrigSt → TrigSt) (k : Nat) : (s.modTrig j f).rider k = s.rider k := rfl
@[simp] theorem State.modTrig_head (s : State) (j : Nat) (f : TrigSt → TrigSt) (k : Nat) : (s.modTrig j f).head k = s.head k := rfl
@[simp] theorem State.modTrig_culvert (s : State) (j : Nat) (f : TrigSt → TrigSt) (k : Nat) : (s.modTrig j f).culvert k = s.culvert k := rfl
@[simp] theorem State.modTrig_stack (s : State) (j : Nat) (f : TrigSt → TrigSt) (k : Nat) : (s.modTrig j f).stack k = s.stack k := rfl
@[simp] theorem State.modTrig_reachMem (s : State) (j : Nat) (f : TrigSt → TrigSt) (k : Nat) : (s.modTrig j f).reachMem k = s.reachMem k := rfl
@[simp] theorem State.modTrig_stands (s : State) (j : Nat) (f : TrigSt → TrigSt) (i u : Nat) : (s.modTrig j f).stands i u = s.stands i u := rfl
@[simp] theorem State.modTrig_cnt (s : State) (j : Nat) (f : TrigSt → TrigSt) (i u : Nat) : (s.modTrig j f).cnt i u = s.cnt i u := rfl

@[simp] theorem State.modStem_src (s : State) (j : Nat) (f : StemSt → StemSt) (k : Nat) : (s.modStem j f).src k = s.src k := rfl
@[simp] theorem State.modStem_dst (s : State) (j : Nat) (f : StemSt → StemSt) (k : Nat) : (s.modStem j f).dst k = s.dst k := rfl
@[simp] theorem State.modStem_ain (s : State) (j : Nat) (f : StemSt → StemSt) (k : Nat) : (s.modStem j f).ain k = s.ain k := rfl
@[simp] theorem State.modStem_aout (s : State) (j : Nat) (f : StemSt → StemSt) (k : Nat) : (s.modStem j f).aout k = s.aout k := rfl
@[simp] theorem State.modStem_aport (s : State) (j : Nat) (f : StemSt → StemSt) (k : Nat) : (s.modStem j f).aport k = s.aport k := rfl
@[simp] theorem State.modStem_lane (s : State) (j : Nat) (f : StemSt → StemSt) (k : Nat) : (s.modStem j f).lane k = s.lane k := rfl
@[simp] theorem State.modStem_port (s : State) (j : Nat) (f : StemSt → StemSt) (k : Nat) : (s.modStem j f).port k = s.port k := rfl
@[simp] theorem State.modStem_flow (s : State) (j : Nat) (f : StemSt → StemSt) (k : Nat) : (s.modStem j f).flow k = s.flow k := rfl
@[simp] theorem State.modStem_queue (s : State) (j : Nat) (f : StemSt → StemSt) (k : Nat) : (s.modStem j f).queue k = s.queue k := rfl
@[simp] theorem State.modStem_gate (s : State) (j : Nat) (f : StemSt → StemSt) (k : Nat) : (s.modStem j f).gate k = s.gate k := rfl
@[simp] theorem State.modStem_trig (s : State) (j : Nat) (f : StemSt → StemSt) (k : Nat) : (s.modStem j f).trig k = s.trig k := rfl
@[simp] theorem State.modStem_rend (s : State) (j : Nat) (f : StemSt → StemSt) (k : Nat) : (s.modStem j f).rend k = s.rend k := rfl
@[simp] theorem State.modStem_deliv (s : State) (j : Nat) (f : StemSt → StemSt) (k : Nat) : (s.modStem j f).deliv k = s.deliv k := rfl
@[simp] theorem State.modStem_core (s : State) (j : Nat) (f : StemSt → StemSt) (k : Nat) : (s.modStem j f).core k = s.core k := rfl
@[simp] theorem State.modStem_job (s : State) (j : Nat) (f : StemSt → StemSt) (k : Nat) : (s.modStem j f).job k = s.job k := rfl
@[simp] theorem State.modStem_hostFlow (s : State) (j : Nat) (f : StemSt → StemSt) (k : Nat) : (s.modStem j f).hostFlow k = s.hostFlow k := rfl
@[simp] theorem State.modStem_ctx (s : State) (j : Nat) (f : StemSt → StemSt) (k : Nat) : (s.modStem j f).ctx k = s.ctx k := rfl
@[simp] theorem State.modStem_layer (s : State) (j : Nat) (f : StemSt → StemSt) (k : Nat) : (s.modStem j f).layer k = s.layer k := rfl
@[simp] theorem State.modStem_gauge (s : State) (j : Nat) (f : StemSt → StemSt) (k : Nat) : (s.modStem j f).gauge k = s.gauge k := rfl
@[simp] theorem State.modStem_ring (s : State) (j : Nat) (f : StemSt → StemSt) (k : Nat) : (s.modStem j f).ring k = s.ring k := rfl
@[simp] theorem State.modStem_domain (s : State) (j : Nat) (f : StemSt → StemSt) (k : Nat) : (s.modStem j f).domain k = s.domain k := rfl
@[simp] theorem State.modStem_bus (s : State) (j : Nat) (f : StemSt → StemSt) (k : Nat) : (s.modStem j f).bus k = s.bus k := rfl
@[simp] theorem State.modStem_plane (s : State) (j : Nat) (f : StemSt → StemSt) (k : Nat) : (s.modStem j f).plane k = s.plane k := rfl
@[simp] theorem State.modStem_ref (s : State) (j : Nat) (f : StemSt → StemSt) (k : Nat) : (s.modStem j f).ref k = s.ref k := rfl
@[simp] theorem State.modStem_cap (s : State) (j : Nat) (f : StemSt → StemSt) (k : Nat) : (s.modStem j f).cap k = s.cap k := rfl
@[simp] theorem State.modStem_rider (s : State) (j : Nat) (f : StemSt → StemSt) (k : Nat) : (s.modStem j f).rider k = s.rider k := rfl
@[simp] theorem State.modStem_head (s : State) (j : Nat) (f : StemSt → StemSt) (k : Nat) : (s.modStem j f).head k = s.head k := rfl
@[simp] theorem State.modStem_culvert (s : State) (j : Nat) (f : StemSt → StemSt) (k : Nat) : (s.modStem j f).culvert k = s.culvert k := rfl
@[simp] theorem State.modStem_stack (s : State) (j : Nat) (f : StemSt → StemSt) (k : Nat) : (s.modStem j f).stack k = s.stack k := rfl
@[simp] theorem State.modStem_reachMem (s : State) (j : Nat) (f : StemSt → StemSt) (k : Nat) : (s.modStem j f).reachMem k = s.reachMem k := rfl
@[simp] theorem State.modStem_stands (s : State) (j : Nat) (f : StemSt → StemSt) (i u : Nat) : (s.modStem j f).stands i u = s.stands i u := rfl
@[simp] theorem State.modStem_cnt (s : State) (j : Nat) (f : StemSt → StemSt) (i u : Nat) : (s.modStem j f).cnt i u = s.cnt i u := rfl

@[simp] theorem State.modRend_src (s : State) (j : Nat) (f : RendSt → RendSt) (k : Nat) : (s.modRend j f).src k = s.src k := rfl
@[simp] theorem State.modRend_dst (s : State) (j : Nat) (f : RendSt → RendSt) (k : Nat) : (s.modRend j f).dst k = s.dst k := rfl
@[simp] theorem State.modRend_ain (s : State) (j : Nat) (f : RendSt → RendSt) (k : Nat) : (s.modRend j f).ain k = s.ain k := rfl
@[simp] theorem State.modRend_aout (s : State) (j : Nat) (f : RendSt → RendSt) (k : Nat) : (s.modRend j f).aout k = s.aout k := rfl
@[simp] theorem State.modRend_aport (s : State) (j : Nat) (f : RendSt → RendSt) (k : Nat) : (s.modRend j f).aport k = s.aport k := rfl
@[simp] theorem State.modRend_lane (s : State) (j : Nat) (f : RendSt → RendSt) (k : Nat) : (s.modRend j f).lane k = s.lane k := rfl
@[simp] theorem State.modRend_port (s : State) (j : Nat) (f : RendSt → RendSt) (k : Nat) : (s.modRend j f).port k = s.port k := rfl
@[simp] theorem State.modRend_flow (s : State) (j : Nat) (f : RendSt → RendSt) (k : Nat) : (s.modRend j f).flow k = s.flow k := rfl
@[simp] theorem State.modRend_queue (s : State) (j : Nat) (f : RendSt → RendSt) (k : Nat) : (s.modRend j f).queue k = s.queue k := rfl
@[simp] theorem State.modRend_gate (s : State) (j : Nat) (f : RendSt → RendSt) (k : Nat) : (s.modRend j f).gate k = s.gate k := rfl
@[simp] theorem State.modRend_trig (s : State) (j : Nat) (f : RendSt → RendSt) (k : Nat) : (s.modRend j f).trig k = s.trig k := rfl
@[simp] theorem State.modRend_stem (s : State) (j : Nat) (f : RendSt → RendSt) (k : Nat) : (s.modRend j f).stem k = s.stem k := rfl
@[simp] theorem State.modRend_deliv (s : State) (j : Nat) (f : RendSt → RendSt) (k : Nat) : (s.modRend j f).deliv k = s.deliv k := rfl
@[simp] theorem State.modRend_core (s : State) (j : Nat) (f : RendSt → RendSt) (k : Nat) : (s.modRend j f).core k = s.core k := rfl
@[simp] theorem State.modRend_job (s : State) (j : Nat) (f : RendSt → RendSt) (k : Nat) : (s.modRend j f).job k = s.job k := rfl
@[simp] theorem State.modRend_hostFlow (s : State) (j : Nat) (f : RendSt → RendSt) (k : Nat) : (s.modRend j f).hostFlow k = s.hostFlow k := rfl
@[simp] theorem State.modRend_ctx (s : State) (j : Nat) (f : RendSt → RendSt) (k : Nat) : (s.modRend j f).ctx k = s.ctx k := rfl
@[simp] theorem State.modRend_layer (s : State) (j : Nat) (f : RendSt → RendSt) (k : Nat) : (s.modRend j f).layer k = s.layer k := rfl
@[simp] theorem State.modRend_gauge (s : State) (j : Nat) (f : RendSt → RendSt) (k : Nat) : (s.modRend j f).gauge k = s.gauge k := rfl
@[simp] theorem State.modRend_ring (s : State) (j : Nat) (f : RendSt → RendSt) (k : Nat) : (s.modRend j f).ring k = s.ring k := rfl
@[simp] theorem State.modRend_domain (s : State) (j : Nat) (f : RendSt → RendSt) (k : Nat) : (s.modRend j f).domain k = s.domain k := rfl
@[simp] theorem State.modRend_bus (s : State) (j : Nat) (f : RendSt → RendSt) (k : Nat) : (s.modRend j f).bus k = s.bus k := rfl
@[simp] theorem State.modRend_plane (s : State) (j : Nat) (f : RendSt → RendSt) (k : Nat) : (s.modRend j f).plane k = s.plane k := rfl
@[simp] theorem State.modRend_ref (s : State) (j : Nat) (f : RendSt → RendSt) (k : Nat) : (s.modRend j f).ref k = s.ref k := rfl
@[simp] theorem State.modRend_cap (s : State) (j : Nat) (f : RendSt → RendSt) (k : Nat) : (s.modRend j f).cap k = s.cap k := rfl
@[simp] theorem State.modRend_rider (s : State) (j : Nat) (f : RendSt → RendSt) (k : Nat) : (s.modRend j f).rider k = s.rider k := rfl
@[simp] theorem State.modRend_head (s : State) (j : Nat) (f : RendSt → RendSt) (k : Nat) : (s.modRend j f).head k = s.head k := rfl
@[simp] theorem State.modRend_culvert (s : State) (j : Nat) (f : RendSt → RendSt) (k : Nat) : (s.modRend j f).culvert k = s.culvert k := rfl
@[simp] theorem State.modRend_stack (s : State) (j : Nat) (f : RendSt → RendSt) (k : Nat) : (s.modRend j f).stack k = s.stack k := rfl
@[simp] theorem State.modRend_reachMem (s : State) (j : Nat) (f : RendSt → RendSt) (k : Nat) : (s.modRend j f).reachMem k = s.reachMem k := rfl
@[simp] theorem State.modRend_stands (s : State) (j : Nat) (f : RendSt → RendSt) (i u : Nat) : (s.modRend j f).stands i u = s.stands i u := rfl
@[simp] theorem State.modRend_cnt (s : State) (j : Nat) (f : RendSt → RendSt) (i u : Nat) : (s.modRend j f).cnt i u = s.cnt i u := rfl

@[simp] theorem State.modDeliv_src (s : State) (j : Nat) (f : DelivSt → DelivSt) (k : Nat) : (s.modDeliv j f).src k = s.src k := rfl
@[simp] theorem State.modDeliv_dst (s : State) (j : Nat) (f : DelivSt → DelivSt) (k : Nat) : (s.modDeliv j f).dst k = s.dst k := rfl
@[simp] theorem State.modDeliv_ain (s : State) (j : Nat) (f : DelivSt → DelivSt) (k : Nat) : (s.modDeliv j f).ain k = s.ain k := rfl
@[simp] theorem State.modDeliv_aout (s : State) (j : Nat) (f : DelivSt → DelivSt) (k : Nat) : (s.modDeliv j f).aout k = s.aout k := rfl
@[simp] theorem State.modDeliv_aport (s : State) (j : Nat) (f : DelivSt → DelivSt) (k : Nat) : (s.modDeliv j f).aport k = s.aport k := rfl
@[simp] theorem State.modDeliv_lane (s : State) (j : Nat) (f : DelivSt → DelivSt) (k : Nat) : (s.modDeliv j f).lane k = s.lane k := rfl
@[simp] theorem State.modDeliv_port (s : State) (j : Nat) (f : DelivSt → DelivSt) (k : Nat) : (s.modDeliv j f).port k = s.port k := rfl
@[simp] theorem State.modDeliv_flow (s : State) (j : Nat) (f : DelivSt → DelivSt) (k : Nat) : (s.modDeliv j f).flow k = s.flow k := rfl
@[simp] theorem State.modDeliv_queue (s : State) (j : Nat) (f : DelivSt → DelivSt) (k : Nat) : (s.modDeliv j f).queue k = s.queue k := rfl
@[simp] theorem State.modDeliv_gate (s : State) (j : Nat) (f : DelivSt → DelivSt) (k : Nat) : (s.modDeliv j f).gate k = s.gate k := rfl
@[simp] theorem State.modDeliv_trig (s : State) (j : Nat) (f : DelivSt → DelivSt) (k : Nat) : (s.modDeliv j f).trig k = s.trig k := rfl
@[simp] theorem State.modDeliv_stem (s : State) (j : Nat) (f : DelivSt → DelivSt) (k : Nat) : (s.modDeliv j f).stem k = s.stem k := rfl
@[simp] theorem State.modDeliv_rend (s : State) (j : Nat) (f : DelivSt → DelivSt) (k : Nat) : (s.modDeliv j f).rend k = s.rend k := rfl
@[simp] theorem State.modDeliv_core (s : State) (j : Nat) (f : DelivSt → DelivSt) (k : Nat) : (s.modDeliv j f).core k = s.core k := rfl
@[simp] theorem State.modDeliv_job (s : State) (j : Nat) (f : DelivSt → DelivSt) (k : Nat) : (s.modDeliv j f).job k = s.job k := rfl
@[simp] theorem State.modDeliv_hostFlow (s : State) (j : Nat) (f : DelivSt → DelivSt) (k : Nat) : (s.modDeliv j f).hostFlow k = s.hostFlow k := rfl
@[simp] theorem State.modDeliv_ctx (s : State) (j : Nat) (f : DelivSt → DelivSt) (k : Nat) : (s.modDeliv j f).ctx k = s.ctx k := rfl
@[simp] theorem State.modDeliv_layer (s : State) (j : Nat) (f : DelivSt → DelivSt) (k : Nat) : (s.modDeliv j f).layer k = s.layer k := rfl
@[simp] theorem State.modDeliv_gauge (s : State) (j : Nat) (f : DelivSt → DelivSt) (k : Nat) : (s.modDeliv j f).gauge k = s.gauge k := rfl
@[simp] theorem State.modDeliv_ring (s : State) (j : Nat) (f : DelivSt → DelivSt) (k : Nat) : (s.modDeliv j f).ring k = s.ring k := rfl
@[simp] theorem State.modDeliv_domain (s : State) (j : Nat) (f : DelivSt → DelivSt) (k : Nat) : (s.modDeliv j f).domain k = s.domain k := rfl
@[simp] theorem State.modDeliv_bus (s : State) (j : Nat) (f : DelivSt → DelivSt) (k : Nat) : (s.modDeliv j f).bus k = s.bus k := rfl
@[simp] theorem State.modDeliv_plane (s : State) (j : Nat) (f : DelivSt → DelivSt) (k : Nat) : (s.modDeliv j f).plane k = s.plane k := rfl
@[simp] theorem State.modDeliv_ref (s : State) (j : Nat) (f : DelivSt → DelivSt) (k : Nat) : (s.modDeliv j f).ref k = s.ref k := rfl
@[simp] theorem State.modDeliv_cap (s : State) (j : Nat) (f : DelivSt → DelivSt) (k : Nat) : (s.modDeliv j f).cap k = s.cap k := rfl
@[simp] theorem State.modDeliv_rider (s : State) (j : Nat) (f : DelivSt → DelivSt) (k : Nat) : (s.modDeliv j f).rider k = s.rider k := rfl
@[simp] theorem State.modDeliv_head (s : State) (j : Nat) (f : DelivSt → DelivSt) (k : Nat) : (s.modDeliv j f).head k = s.head k := rfl
@[simp] theorem State.modDeliv_culvert (s : State) (j : Nat) (f : DelivSt → DelivSt) (k : Nat) : (s.modDeliv j f).culvert k = s.culvert k := rfl
@[simp] theorem State.modDeliv_stack (s : State) (j : Nat) (f : DelivSt → DelivSt) (k : Nat) : (s.modDeliv j f).stack k = s.stack k := rfl
@[simp] theorem State.modDeliv_reachMem (s : State) (j : Nat) (f : DelivSt → DelivSt) (k : Nat) : (s.modDeliv j f).reachMem k = s.reachMem k := rfl
@[simp] theorem State.modDeliv_stands (s : State) (j : Nat) (f : DelivSt → DelivSt) (i u : Nat) : (s.modDeliv j f).stands i u = s.stands i u := rfl
@[simp] theorem State.modDeliv_cnt (s : State) (j : Nat) (f : DelivSt → DelivSt) (i u : Nat) : (s.modDeliv j f).cnt i u = s.cnt i u := rfl

@[simp] theorem State.modCore_src (s : State) (j : Nat) (f : Core → Core) (k : Nat) : (s.modCore j f).src k = s.src k := rfl
@[simp] theorem State.modCore_dst (s : State) (j : Nat) (f : Core → Core) (k : Nat) : (s.modCore j f).dst k = s.dst k := rfl
@[simp] theorem State.modCore_ain (s : State) (j : Nat) (f : Core → Core) (k : Nat) : (s.modCore j f).ain k = s.ain k := rfl
@[simp] theorem State.modCore_aout (s : State) (j : Nat) (f : Core → Core) (k : Nat) : (s.modCore j f).aout k = s.aout k := rfl
@[simp] theorem State.modCore_aport (s : State) (j : Nat) (f : Core → Core) (k : Nat) : (s.modCore j f).aport k = s.aport k := rfl
@[simp] theorem State.modCore_lane (s : State) (j : Nat) (f : Core → Core) (k : Nat) : (s.modCore j f).lane k = s.lane k := rfl
@[simp] theorem State.modCore_port (s : State) (j : Nat) (f : Core → Core) (k : Nat) : (s.modCore j f).port k = s.port k := rfl
@[simp] theorem State.modCore_flow (s : State) (j : Nat) (f : Core → Core) (k : Nat) : (s.modCore j f).flow k = s.flow k := rfl
@[simp] theorem State.modCore_queue (s : State) (j : Nat) (f : Core → Core) (k : Nat) : (s.modCore j f).queue k = s.queue k := rfl
@[simp] theorem State.modCore_gate (s : State) (j : Nat) (f : Core → Core) (k : Nat) : (s.modCore j f).gate k = s.gate k := rfl
@[simp] theorem State.modCore_trig (s : State) (j : Nat) (f : Core → Core) (k : Nat) : (s.modCore j f).trig k = s.trig k := rfl
@[simp] theorem State.modCore_stem (s : State) (j : Nat) (f : Core → Core) (k : Nat) : (s.modCore j f).stem k = s.stem k := rfl
@[simp] theorem State.modCore_rend (s : State) (j : Nat) (f : Core → Core) (k : Nat) : (s.modCore j f).rend k = s.rend k := rfl
@[simp] theorem State.modCore_deliv (s : State) (j : Nat) (f : Core → Core) (k : Nat) : (s.modCore j f).deliv k = s.deliv k := rfl
@[simp] theorem State.modCore_job (s : State) (j : Nat) (f : Core → Core) (k : Nat) : (s.modCore j f).job k = s.job k := rfl
@[simp] theorem State.modCore_hostFlow (s : State) (j : Nat) (f : Core → Core) (k : Nat) : (s.modCore j f).hostFlow k = s.hostFlow k := rfl
@[simp] theorem State.modCore_ctx (s : State) (j : Nat) (f : Core → Core) (k : Nat) : (s.modCore j f).ctx k = s.ctx k := rfl
@[simp] theorem State.modCore_layer (s : State) (j : Nat) (f : Core → Core) (k : Nat) : (s.modCore j f).layer k = s.layer k := rfl
@[simp] theorem State.modCore_gauge (s : State) (j : Nat) (f : Core → Core) (k : Nat) : (s.modCore j f).gauge k = s.gauge k := rfl
@[simp] theorem State.modCore_ring (s : State) (j : Nat) (f : Core → Core) (k : Nat) : (s.modCore j f).ring k = s.ring k := rfl
@[simp] theorem State.modCore_domain (s : State) (j : Nat) (f : Core → Core) (k : Nat) : (s.modCore j f).domain k = s.domain k := rfl
@[simp] theorem State.modCore_bus (s : State) (j : Nat) (f : Core → Core) (k : Nat) : (s.modCore j f).bus k = s.bus k := rfl
@[simp] theorem State.modCore_plane (s : State) (j : Nat) (f : Core → Core) (k : Nat) : (s.modCore j f).plane k = s.plane k := rfl
@[simp] theorem State.modCore_ref (s : State) (j : Nat) (f : Core → Core) (k : Nat) : (s.modCore j f).ref k = s.ref k := rfl
@[simp] theorem State.modCore_cap (s : State) (j : Nat) (f : Core → Core) (k : Nat) : (s.modCore j f).cap k = s.cap k := rfl
@[simp] theorem State.modCore_rider (s : State) (j : Nat) (f : Core → Core) (k : Nat) : (s.modCore j f).rider k = s.rider k := rfl
@[simp] theorem State.modCore_head (s : State) (j : Nat) (f : Core → Core) (k : Nat) : (s.modCore j f).head k = s.head k := rfl
@[simp] theorem State.modCore_culvert (s : State) (j : Nat) (f : Core → Core) (k : Nat) : (s.modCore j f).culvert k = s.culvert k := rfl
@[simp] theorem State.modCore_stack (s : State) (j : Nat) (f : Core → Core) (k : Nat) : (s.modCore j f).stack k = s.stack k := rfl
@[simp] theorem State.modCore_reachMem (s : State) (j : Nat) (f : Core → Core) (k : Nat) : (s.modCore j f).reachMem k = s.reachMem k := rfl
@[simp] theorem State.modCore_stands (s : State) (j : Nat) (f : Core → Core) (i u : Nat) : (s.modCore j f).stands i u = s.stands i u := rfl
@[simp] theorem State.modCore_cnt (s : State) (j : Nat) (f : Core → Core) (i u : Nat) : (s.modCore j f).cnt i u = s.cnt i u := rfl

@[simp] theorem State.modJob_src (s : State) (j : Nat) (f : JobSt → JobSt) (k : Nat) : (s.modJob j f).src k = s.src k := rfl
@[simp] theorem State.modJob_dst (s : State) (j : Nat) (f : JobSt → JobSt) (k : Nat) : (s.modJob j f).dst k = s.dst k := rfl
@[simp] theorem State.modJob_ain (s : State) (j : Nat) (f : JobSt → JobSt) (k : Nat) : (s.modJob j f).ain k = s.ain k := rfl
@[simp] theorem State.modJob_aout (s : State) (j : Nat) (f : JobSt → JobSt) (k : Nat) : (s.modJob j f).aout k = s.aout k := rfl
@[simp] theorem State.modJob_aport (s : State) (j : Nat) (f : JobSt → JobSt) (k : Nat) : (s.modJob j f).aport k = s.aport k := rfl
@[simp] theorem State.modJob_lane (s : State) (j : Nat) (f : JobSt → JobSt) (k : Nat) : (s.modJob j f).lane k = s.lane k := rfl
@[simp] theorem State.modJob_port (s : State) (j : Nat) (f : JobSt → JobSt) (k : Nat) : (s.modJob j f).port k = s.port k := rfl
@[simp] theorem State.modJob_flow (s : State) (j : Nat) (f : JobSt → JobSt) (k : Nat) : (s.modJob j f).flow k = s.flow k := rfl
@[simp] theorem State.modJob_queue (s : State) (j : Nat) (f : JobSt → JobSt) (k : Nat) : (s.modJob j f).queue k = s.queue k := rfl
@[simp] theorem State.modJob_gate (s : State) (j : Nat) (f : JobSt → JobSt) (k : Nat) : (s.modJob j f).gate k = s.gate k := rfl
@[simp] theorem State.modJob_trig (s : State) (j : Nat) (f : JobSt → JobSt) (k : Nat) : (s.modJob j f).trig k = s.trig k := rfl
@[simp] theorem State.modJob_stem (s : State) (j : Nat) (f : JobSt → JobSt) (k : Nat) : (s.modJob j f).stem k = s.stem k := rfl
@[simp] theorem State.modJob_rend (s : State) (j : Nat) (f : JobSt → JobSt) (k : Nat) : (s.modJob j f).rend k = s.rend k := rfl
@[simp] theorem State.modJob_deliv (s : State) (j : Nat) (f : JobSt → JobSt) (k : Nat) : (s.modJob j f).deliv k = s.deliv k := rfl
@[simp] theorem State.modJob_core (s : State) (j : Nat) (f : JobSt → JobSt) (k : Nat) : (s.modJob j f).core k = s.core k := rfl
@[simp] theorem State.modJob_hostFlow (s : State) (j : Nat) (f : JobSt → JobSt) (k : Nat) : (s.modJob j f).hostFlow k = s.hostFlow k := rfl
@[simp] theorem State.modJob_ctx (s : State) (j : Nat) (f : JobSt → JobSt) (k : Nat) : (s.modJob j f).ctx k = s.ctx k := rfl
@[simp] theorem State.modJob_layer (s : State) (j : Nat) (f : JobSt → JobSt) (k : Nat) : (s.modJob j f).layer k = s.layer k := rfl
@[simp] theorem State.modJob_gauge (s : State) (j : Nat) (f : JobSt → JobSt) (k : Nat) : (s.modJob j f).gauge k = s.gauge k := rfl
@[simp] theorem State.modJob_ring (s : State) (j : Nat) (f : JobSt → JobSt) (k : Nat) : (s.modJob j f).ring k = s.ring k := rfl
@[simp] theorem State.modJob_domain (s : State) (j : Nat) (f : JobSt → JobSt) (k : Nat) : (s.modJob j f).domain k = s.domain k := rfl
@[simp] theorem State.modJob_bus (s : State) (j : Nat) (f : JobSt → JobSt) (k : Nat) : (s.modJob j f).bus k = s.bus k := rfl
@[simp] theorem State.modJob_plane (s : State) (j : Nat) (f : JobSt → JobSt) (k : Nat) : (s.modJob j f).plane k = s.plane k := rfl
@[simp] theorem State.modJob_ref (s : State) (j : Nat) (f : JobSt → JobSt) (k : Nat) : (s.modJob j f).ref k = s.ref k := rfl
@[simp] theorem State.modJob_cap (s : State) (j : Nat) (f : JobSt → JobSt) (k : Nat) : (s.modJob j f).cap k = s.cap k := rfl
@[simp] theorem State.modJob_rider (s : State) (j : Nat) (f : JobSt → JobSt) (k : Nat) : (s.modJob j f).rider k = s.rider k := rfl
@[simp] theorem State.modJob_head (s : State) (j : Nat) (f : JobSt → JobSt) (k : Nat) : (s.modJob j f).head k = s.head k := rfl
@[simp] theorem State.modJob_culvert (s : State) (j : Nat) (f : JobSt → JobSt) (k : Nat) : (s.modJob j f).culvert k = s.culvert k := rfl
@[simp] theorem State.modJob_stack (s : State) (j : Nat) (f : JobSt → JobSt) (k : Nat) : (s.modJob j f).stack k = s.stack k := rfl
@[simp] theorem State.modJob_reachMem (s : State) (j : Nat) (f : JobSt → JobSt) (k : Nat) : (s.modJob j f).reachMem k = s.reachMem k := rfl
@[simp] theorem State.modJob_stands (s : State) (j : Nat) (f : JobSt → JobSt) (i u : Nat) : (s.modJob j f).stands i u = s.stands i u := rfl
@[simp] theorem State.modJob_cnt (s : State) (j : Nat) (f : JobSt → JobSt) (i u : Nat) : (s.modJob j f).cnt i u = s.cnt i u := rfl

@[simp] theorem State.modHostFlow_src (s : State) (j : Nat) (f : HostFlow → HostFlow) (k : Nat) : (s.modHostFlow j f).src k = s.src k := rfl
@[simp] theorem State.modHostFlow_dst (s : State) (j : Nat) (f : HostFlow → HostFlow) (k : Nat) : (s.modHostFlow j f).dst k = s.dst k := rfl
@[simp] theorem State.modHostFlow_ain (s : State) (j : Nat) (f : HostFlow → HostFlow) (k : Nat) : (s.modHostFlow j f).ain k = s.ain k := rfl
@[simp] theorem State.modHostFlow_aout (s : State) (j : Nat) (f : HostFlow → HostFlow) (k : Nat) : (s.modHostFlow j f).aout k = s.aout k := rfl
@[simp] theorem State.modHostFlow_aport (s : State) (j : Nat) (f : HostFlow → HostFlow) (k : Nat) : (s.modHostFlow j f).aport k = s.aport k := rfl
@[simp] theorem State.modHostFlow_lane (s : State) (j : Nat) (f : HostFlow → HostFlow) (k : Nat) : (s.modHostFlow j f).lane k = s.lane k := rfl
@[simp] theorem State.modHostFlow_port (s : State) (j : Nat) (f : HostFlow → HostFlow) (k : Nat) : (s.modHostFlow j f).port k = s.port k := rfl
@[simp] theorem State.modHostFlow_flow (s : State) (j : Nat) (f : HostFlow → HostFlow) (k : Nat) : (s.modHostFlow j f).flow k = s.flow k := rfl
@[simp] theorem State.modHostFlow_queue (s : State) (j : Nat) (f : HostFlow → HostFlow) (k : Nat) : (s.modHostFlow j f).queue k = s.queue k := rfl
@[simp] theorem State.modHostFlow_gate (s : State) (j : Nat) (f : HostFlow → HostFlow) (k : Nat) : (s.modHostFlow j f).gate k = s.gate k := rfl
@[simp] theorem State.modHostFlow_trig (s : State) (j : Nat) (f : HostFlow → HostFlow) (k : Nat) : (s.modHostFlow j f).trig k = s.trig k := rfl
@[simp] theorem State.modHostFlow_stem (s : State) (j : Nat) (f : HostFlow → HostFlow) (k : Nat) : (s.modHostFlow j f).stem k = s.stem k := rfl
@[simp] theorem State.modHostFlow_rend (s : State) (j : Nat) (f : HostFlow → HostFlow) (k : Nat) : (s.modHostFlow j f).rend k = s.rend k := rfl
@[simp] theorem State.modHostFlow_deliv (s : State) (j : Nat) (f : HostFlow → HostFlow) (k : Nat) : (s.modHostFlow j f).deliv k = s.deliv k := rfl
@[simp] theorem State.modHostFlow_core (s : State) (j : Nat) (f : HostFlow → HostFlow) (k : Nat) : (s.modHostFlow j f).core k = s.core k := rfl
@[simp] theorem State.modHostFlow_job (s : State) (j : Nat) (f : HostFlow → HostFlow) (k : Nat) : (s.modHostFlow j f).job k = s.job k := rfl
@[simp] theorem State.modHostFlow_ctx (s : State) (j : Nat) (f : HostFlow → HostFlow) (k : Nat) : (s.modHostFlow j f).ctx k = s.ctx k := rfl
@[simp] theorem State.modHostFlow_layer (s : State) (j : Nat) (f : HostFlow → HostFlow) (k : Nat) : (s.modHostFlow j f).layer k = s.layer k := rfl
@[simp] theorem State.modHostFlow_gauge (s : State) (j : Nat) (f : HostFlow → HostFlow) (k : Nat) : (s.modHostFlow j f).gauge k = s.gauge k := rfl
@[simp] theorem State.modHostFlow_ring (s : State) (j : Nat) (f : HostFlow → HostFlow) (k : Nat) : (s.modHostFlow j f).ring k = s.ring k := rfl
@[simp] theorem State.modHostFlow_domain (s : State) (j : Nat) (f : HostFlow → HostFlow) (k : Nat) : (s.modHostFlow j f).domain k = s.domain k := rfl
@[simp] theorem State.modHostFlow_bus (s : State) (j : Nat) (f : HostFlow → HostFlow) (k : Nat) : (s.modHostFlow j f).bus k = s.bus k := rfl
@[simp] theorem State.modHostFlow_plane (s : State) (j : Nat) (f : HostFlow → HostFlow) (k : Nat) : (s.modHostFlow j f).plane k = s.plane k := rfl
@[simp] theorem State.modHostFlow_ref (s : State) (j : Nat) (f : HostFlow → HostFlow) (k : Nat) : (s.modHostFlow j f).ref k = s.ref k := rfl
@[simp] theorem State.modHostFlow_cap (s : State) (j : Nat) (f : HostFlow → HostFlow) (k : Nat) : (s.modHostFlow j f).cap k = s.cap k := rfl
@[simp] theorem State.modHostFlow_rider (s : State) (j : Nat) (f : HostFlow → HostFlow) (k : Nat) : (s.modHostFlow j f).rider k = s.rider k := rfl
@[simp] theorem State.modHostFlow_head (s : State) (j : Nat) (f : HostFlow → HostFlow) (k : Nat) : (s.modHostFlow j f).head k = s.head k := rfl
@[simp] theorem State.modHostFlow_culvert (s : State) (j : Nat) (f : HostFlow → HostFlow) (k : Nat) : (s.modHostFlow j f).culvert k = s.culvert k := rfl
@[simp] theorem State.modHostFlow_stack (s : State) (j : Nat) (f : HostFlow → HostFlow) (k : Nat) : (s.modHostFlow j f).stack k = s.stack k := rfl
@[simp] theorem State.modHostFlow_reachMem (s : State) (j : Nat) (f : HostFlow → HostFlow) (k : Nat) : (s.modHostFlow j f).reachMem k = s.reachMem k := rfl
@[simp] theorem State.modHostFlow_stands (s : State) (j : Nat) (f : HostFlow → HostFlow) (i u : Nat) : (s.modHostFlow j f).stands i u = s.stands i u := rfl
@[simp] theorem State.modHostFlow_cnt (s : State) (j : Nat) (f : HostFlow → HostFlow) (i u : Nat) : (s.modHostFlow j f).cnt i u = s.cnt i u := rfl

@[simp] theorem State.modCtx_src (s : State) (j : Nat) (f : CtxSt → CtxSt) (k : Nat) : (s.modCtx j f).src k = s.src k := rfl
@[simp] theorem State.modCtx_dst (s : State) (j : Nat) (f : CtxSt → CtxSt) (k : Nat) : (s.modCtx j f).dst k = s.dst k := rfl
@[simp] theorem State.modCtx_ain (s : State) (j : Nat) (f : CtxSt → CtxSt) (k : Nat) : (s.modCtx j f).ain k = s.ain k := rfl
@[simp] theorem State.modCtx_aout (s : State) (j : Nat) (f : CtxSt → CtxSt) (k : Nat) : (s.modCtx j f).aout k = s.aout k := rfl
@[simp] theorem State.modCtx_aport (s : State) (j : Nat) (f : CtxSt → CtxSt) (k : Nat) : (s.modCtx j f).aport k = s.aport k := rfl
@[simp] theorem State.modCtx_lane (s : State) (j : Nat) (f : CtxSt → CtxSt) (k : Nat) : (s.modCtx j f).lane k = s.lane k := rfl
@[simp] theorem State.modCtx_port (s : State) (j : Nat) (f : CtxSt → CtxSt) (k : Nat) : (s.modCtx j f).port k = s.port k := rfl
@[simp] theorem State.modCtx_flow (s : State) (j : Nat) (f : CtxSt → CtxSt) (k : Nat) : (s.modCtx j f).flow k = s.flow k := rfl
@[simp] theorem State.modCtx_queue (s : State) (j : Nat) (f : CtxSt → CtxSt) (k : Nat) : (s.modCtx j f).queue k = s.queue k := rfl
@[simp] theorem State.modCtx_gate (s : State) (j : Nat) (f : CtxSt → CtxSt) (k : Nat) : (s.modCtx j f).gate k = s.gate k := rfl
@[simp] theorem State.modCtx_trig (s : State) (j : Nat) (f : CtxSt → CtxSt) (k : Nat) : (s.modCtx j f).trig k = s.trig k := rfl
@[simp] theorem State.modCtx_stem (s : State) (j : Nat) (f : CtxSt → CtxSt) (k : Nat) : (s.modCtx j f).stem k = s.stem k := rfl
@[simp] theorem State.modCtx_rend (s : State) (j : Nat) (f : CtxSt → CtxSt) (k : Nat) : (s.modCtx j f).rend k = s.rend k := rfl
@[simp] theorem State.modCtx_deliv (s : State) (j : Nat) (f : CtxSt → CtxSt) (k : Nat) : (s.modCtx j f).deliv k = s.deliv k := rfl
@[simp] theorem State.modCtx_core (s : State) (j : Nat) (f : CtxSt → CtxSt) (k : Nat) : (s.modCtx j f).core k = s.core k := rfl
@[simp] theorem State.modCtx_job (s : State) (j : Nat) (f : CtxSt → CtxSt) (k : Nat) : (s.modCtx j f).job k = s.job k := rfl
@[simp] theorem State.modCtx_hostFlow (s : State) (j : Nat) (f : CtxSt → CtxSt) (k : Nat) : (s.modCtx j f).hostFlow k = s.hostFlow k := rfl
@[simp] theorem State.modCtx_layer (s : State) (j : Nat) (f : CtxSt → CtxSt) (k : Nat) : (s.modCtx j f).layer k = s.layer k := rfl
@[simp] theorem State.modCtx_gauge (s : State) (j : Nat) (f : CtxSt → CtxSt) (k : Nat) : (s.modCtx j f).gauge k = s.gauge k := rfl
@[simp] theorem State.modCtx_ring (s : State) (j : Nat) (f : CtxSt → CtxSt) (k : Nat) : (s.modCtx j f).ring k = s.ring k := rfl
@[simp] theorem State.modCtx_domain (s : State) (j : Nat) (f : CtxSt → CtxSt) (k : Nat) : (s.modCtx j f).domain k = s.domain k := rfl
@[simp] theorem State.modCtx_bus (s : State) (j : Nat) (f : CtxSt → CtxSt) (k : Nat) : (s.modCtx j f).bus k = s.bus k := rfl
@[simp] theorem State.modCtx_plane (s : State) (j : Nat) (f : CtxSt → CtxSt) (k : Nat) : (s.modCtx j f).plane k = s.plane k := rfl
@[simp] theorem State.modCtx_ref (s : State) (j : Nat) (f : CtxSt → CtxSt) (k : Nat) : (s.modCtx j f).ref k = s.ref k := rfl
@[simp] theorem State.modCtx_cap (s : State) (j : Nat) (f : CtxSt → CtxSt) (k : Nat) : (s.modCtx j f).cap k = s.cap k := rfl
@[simp] theorem State.modCtx_rider (s : State) (j : Nat) (f : CtxSt → CtxSt) (k : Nat) : (s.modCtx j f).rider k = s.rider k := rfl
@[simp] theorem State.modCtx_head (s : State) (j : Nat) (f : CtxSt → CtxSt) (k : Nat) : (s.modCtx j f).head k = s.head k := rfl
@[simp] theorem State.modCtx_culvert (s : State) (j : Nat) (f : CtxSt → CtxSt) (k : Nat) : (s.modCtx j f).culvert k = s.culvert k := rfl
@[simp] theorem State.modCtx_stack (s : State) (j : Nat) (f : CtxSt → CtxSt) (k : Nat) : (s.modCtx j f).stack k = s.stack k := rfl
@[simp] theorem State.modCtx_reachMem (s : State) (j : Nat) (f : CtxSt → CtxSt) (k : Nat) : (s.modCtx j f).reachMem k = s.reachMem k := rfl
@[simp] theorem State.modCtx_stands (s : State) (j : Nat) (f : CtxSt → CtxSt) (i u : Nat) : (s.modCtx j f).stands i u = s.stands i u := rfl
@[simp] theorem State.modCtx_cnt (s : State) (j : Nat) (f : CtxSt → CtxSt) (i u : Nat) : (s.modCtx j f).cnt i u = s.cnt i u := rfl

@[simp] theorem State.modLayer_src (s : State) (j : Nat) (f : LayerSt → LayerSt) (k : Nat) : (s.modLayer j f).src k = s.src k := rfl
@[simp] theorem State.modLayer_dst (s : State) (j : Nat) (f : LayerSt → LayerSt) (k : Nat) : (s.modLayer j f).dst k = s.dst k := rfl
@[simp] theorem State.modLayer_ain (s : State) (j : Nat) (f : LayerSt → LayerSt) (k : Nat) : (s.modLayer j f).ain k = s.ain k := rfl
@[simp] theorem State.modLayer_aout (s : State) (j : Nat) (f : LayerSt → LayerSt) (k : Nat) : (s.modLayer j f).aout k = s.aout k := rfl
@[simp] theorem State.modLayer_aport (s : State) (j : Nat) (f : LayerSt → LayerSt) (k : Nat) : (s.modLayer j f).aport k = s.aport k := rfl
@[simp] theorem State.modLayer_lane (s : State) (j : Nat) (f : LayerSt → LayerSt) (k : Nat) : (s.modLayer j f).lane k = s.lane k := rfl
@[simp] theorem State.modLayer_port (s : State) (j : Nat) (f : LayerSt → LayerSt) (k : Nat) : (s.modLayer j f).port k = s.port k := rfl
@[simp] theorem State.modLayer_flow (s : State) (j : Nat) (f : LayerSt → LayerSt) (k : Nat) : (s.modLayer j f).flow k = s.flow k := rfl
@[simp] theorem State.modLayer_queue (s : State) (j : Nat) (f : LayerSt → LayerSt) (k : Nat) : (s.modLayer j f).queue k = s.queue k := rfl
@[simp] theorem State.modLayer_gate (s : State) (j : Nat) (f : LayerSt → LayerSt) (k : Nat) : (s.modLayer j f).gate k = s.gate k := rfl
@[simp] theorem State.modLayer_trig (s : State) (j : Nat) (f : LayerSt → LayerSt) (k : Nat) : (s.modLayer j f).trig k = s.trig k := rfl
@[simp] theorem State.modLayer_stem (s : State) (j : Nat) (f : LayerSt → LayerSt) (k : Nat) : (s.modLayer j f).stem k = s.stem k := rfl
@[simp] theorem State.modLayer_rend (s : State) (j : Nat) (f : LayerSt → LayerSt) (k : Nat) : (s.modLayer j f).rend k = s.rend k := rfl
@[simp] theorem State.modLayer_deliv (s : State) (j : Nat) (f : LayerSt → LayerSt) (k : Nat) : (s.modLayer j f).deliv k = s.deliv k := rfl
@[simp] theorem State.modLayer_core (s : State) (j : Nat) (f : LayerSt → LayerSt) (k : Nat) : (s.modLayer j f).core k = s.core k := rfl
@[simp] theorem State.modLayer_job (s : State) (j : Nat) (f : LayerSt → LayerSt) (k : Nat) : (s.modLayer j f).job k = s.job k := rfl
@[simp] theorem State.modLayer_hostFlow (s : State) (j : Nat) (f : LayerSt → LayerSt) (k : Nat) : (s.modLayer j f).hostFlow k = s.hostFlow k := rfl
@[simp] theorem State.modLayer_ctx (s : State) (j : Nat) (f : LayerSt → LayerSt) (k : Nat) : (s.modLayer j f).ctx k = s.ctx k := rfl
@[simp] theorem State.modLayer_gauge (s : State) (j : Nat) (f : LayerSt → LayerSt) (k : Nat) : (s.modLayer j f).gauge k = s.gauge k := rfl
@[simp] theorem State.modLayer_ring (s : State) (j : Nat) (f : LayerSt → LayerSt) (k : Nat) : (s.modLayer j f).ring k = s.ring k := rfl
@[simp] theorem State.modLayer_domain (s : State) (j : Nat) (f : LayerSt → LayerSt) (k : Nat) : (s.modLayer j f).domain k = s.domain k := rfl
@[simp] theorem State.modLayer_bus (s : State) (j : Nat) (f : LayerSt → LayerSt) (k : Nat) : (s.modLayer j f).bus k = s.bus k := rfl
@[simp] theorem State.modLayer_plane (s : State) (j : Nat) (f : LayerSt → LayerSt) (k : Nat) : (s.modLayer j f).plane k = s.plane k := rfl
@[simp] theorem State.modLayer_ref (s : State) (j : Nat) (f : LayerSt → LayerSt) (k : Nat) : (s.modLayer j f).ref k = s.ref k := rfl
@[simp] theorem State.modLayer_cap (s : State) (j : Nat) (f : LayerSt → LayerSt) (k : Nat) : (s.modLayer j f).cap k = s.cap k := rfl
@[simp] theorem State.modLayer_rider (s : State) (j : Nat) (f : LayerSt → LayerSt) (k : Nat) : (s.modLayer j f).rider k = s.rider k := rfl
@[simp] theorem State.modLayer_head (s : State) (j : Nat) (f : LayerSt → LayerSt) (k : Nat) : (s.modLayer j f).head k = s.head k := rfl
@[simp] theorem State.modLayer_culvert (s : State) (j : Nat) (f : LayerSt → LayerSt) (k : Nat) : (s.modLayer j f).culvert k = s.culvert k := rfl
@[simp] theorem State.modLayer_stack (s : State) (j : Nat) (f : LayerSt → LayerSt) (k : Nat) : (s.modLayer j f).stack k = s.stack k := rfl
@[simp] theorem State.modLayer_reachMem (s : State) (j : Nat) (f : LayerSt → LayerSt) (k : Nat) : (s.modLayer j f).reachMem k = s.reachMem k := rfl
@[simp] theorem State.modLayer_stands (s : State) (j : Nat) (f : LayerSt → LayerSt) (i u : Nat) : (s.modLayer j f).stands i u = s.stands i u := rfl
@[simp] theorem State.modLayer_cnt (s : State) (j : Nat) (f : LayerSt → LayerSt) (i u : Nat) : (s.modLayer j f).cnt i u = s.cnt i u := rfl

@[simp] theorem State.modGauge_src (s : State) (j : Nat) (f : GaugeSt → GaugeSt) (k : Nat) : (s.modGauge j f).src k = s.src k := rfl
@[simp] theorem State.modGauge_dst (s : State) (j : Nat) (f : GaugeSt → GaugeSt) (k : Nat) : (s.modGauge j f).dst k = s.dst k := rfl
@[simp] theorem State.modGauge_ain (s : State) (j : Nat) (f : GaugeSt → GaugeSt) (k : Nat) : (s.modGauge j f).ain k = s.ain k := rfl
@[simp] theorem State.modGauge_aout (s : State) (j : Nat) (f : GaugeSt → GaugeSt) (k : Nat) : (s.modGauge j f).aout k = s.aout k := rfl
@[simp] theorem State.modGauge_aport (s : State) (j : Nat) (f : GaugeSt → GaugeSt) (k : Nat) : (s.modGauge j f).aport k = s.aport k := rfl
@[simp] theorem State.modGauge_lane (s : State) (j : Nat) (f : GaugeSt → GaugeSt) (k : Nat) : (s.modGauge j f).lane k = s.lane k := rfl
@[simp] theorem State.modGauge_port (s : State) (j : Nat) (f : GaugeSt → GaugeSt) (k : Nat) : (s.modGauge j f).port k = s.port k := rfl
@[simp] theorem State.modGauge_flow (s : State) (j : Nat) (f : GaugeSt → GaugeSt) (k : Nat) : (s.modGauge j f).flow k = s.flow k := rfl
@[simp] theorem State.modGauge_queue (s : State) (j : Nat) (f : GaugeSt → GaugeSt) (k : Nat) : (s.modGauge j f).queue k = s.queue k := rfl
@[simp] theorem State.modGauge_gate (s : State) (j : Nat) (f : GaugeSt → GaugeSt) (k : Nat) : (s.modGauge j f).gate k = s.gate k := rfl
@[simp] theorem State.modGauge_trig (s : State) (j : Nat) (f : GaugeSt → GaugeSt) (k : Nat) : (s.modGauge j f).trig k = s.trig k := rfl
@[simp] theorem State.modGauge_stem (s : State) (j : Nat) (f : GaugeSt → GaugeSt) (k : Nat) : (s.modGauge j f).stem k = s.stem k := rfl
@[simp] theorem State.modGauge_rend (s : State) (j : Nat) (f : GaugeSt → GaugeSt) (k : Nat) : (s.modGauge j f).rend k = s.rend k := rfl
@[simp] theorem State.modGauge_deliv (s : State) (j : Nat) (f : GaugeSt → GaugeSt) (k : Nat) : (s.modGauge j f).deliv k = s.deliv k := rfl
@[simp] theorem State.modGauge_core (s : State) (j : Nat) (f : GaugeSt → GaugeSt) (k : Nat) : (s.modGauge j f).core k = s.core k := rfl
@[simp] theorem State.modGauge_job (s : State) (j : Nat) (f : GaugeSt → GaugeSt) (k : Nat) : (s.modGauge j f).job k = s.job k := rfl
@[simp] theorem State.modGauge_hostFlow (s : State) (j : Nat) (f : GaugeSt → GaugeSt) (k : Nat) : (s.modGauge j f).hostFlow k = s.hostFlow k := rfl
@[simp] theorem State.modGauge_ctx (s : State) (j : Nat) (f : GaugeSt → GaugeSt) (k : Nat) : (s.modGauge j f).ctx k = s.ctx k := rfl
@[simp] theorem State.modGauge_layer (s : State) (j : Nat) (f : GaugeSt → GaugeSt) (k : Nat) : (s.modGauge j f).layer k = s.layer k := rfl
@[simp] theorem State.modGauge_ring (s : State) (j : Nat) (f : GaugeSt → GaugeSt) (k : Nat) : (s.modGauge j f).ring k = s.ring k := rfl
@[simp] theorem State.modGauge_domain (s : State) (j : Nat) (f : GaugeSt → GaugeSt) (k : Nat) : (s.modGauge j f).domain k = s.domain k := rfl
@[simp] theorem State.modGauge_bus (s : State) (j : Nat) (f : GaugeSt → GaugeSt) (k : Nat) : (s.modGauge j f).bus k = s.bus k := rfl
@[simp] theorem State.modGauge_plane (s : State) (j : Nat) (f : GaugeSt → GaugeSt) (k : Nat) : (s.modGauge j f).plane k = s.plane k := rfl
@[simp] theorem State.modGauge_ref (s : State) (j : Nat) (f : GaugeSt → GaugeSt) (k : Nat) : (s.modGauge j f).ref k = s.ref k := rfl
@[simp] theorem State.modGauge_cap (s : State) (j : Nat) (f : GaugeSt → GaugeSt) (k : Nat) : (s.modGauge j f).cap k = s.cap k := rfl
@[simp] theorem State.modGauge_rider (s : State) (j : Nat) (f : GaugeSt → GaugeSt) (k : Nat) : (s.modGauge j f).rider k = s.rider k := rfl
@[simp] theorem State.modGauge_head (s : State) (j : Nat) (f : GaugeSt → GaugeSt) (k : Nat) : (s.modGauge j f).head k = s.head k := rfl
@[simp] theorem State.modGauge_culvert (s : State) (j : Nat) (f : GaugeSt → GaugeSt) (k : Nat) : (s.modGauge j f).culvert k = s.culvert k := rfl
@[simp] theorem State.modGauge_stack (s : State) (j : Nat) (f : GaugeSt → GaugeSt) (k : Nat) : (s.modGauge j f).stack k = s.stack k := rfl
@[simp] theorem State.modGauge_reachMem (s : State) (j : Nat) (f : GaugeSt → GaugeSt) (k : Nat) : (s.modGauge j f).reachMem k = s.reachMem k := rfl
@[simp] theorem State.modGauge_stands (s : State) (j : Nat) (f : GaugeSt → GaugeSt) (i u : Nat) : (s.modGauge j f).stands i u = s.stands i u := rfl
@[simp] theorem State.modGauge_cnt (s : State) (j : Nat) (f : GaugeSt → GaugeSt) (i u : Nat) : (s.modGauge j f).cnt i u = s.cnt i u := rfl

@[simp] theorem State.modRing_src (s : State) (j : Nat) (f : Ring → Ring) (k : Nat) : (s.modRing j f).src k = s.src k := rfl
@[simp] theorem State.modRing_dst (s : State) (j : Nat) (f : Ring → Ring) (k : Nat) : (s.modRing j f).dst k = s.dst k := rfl
@[simp] theorem State.modRing_ain (s : State) (j : Nat) (f : Ring → Ring) (k : Nat) : (s.modRing j f).ain k = s.ain k := rfl
@[simp] theorem State.modRing_aout (s : State) (j : Nat) (f : Ring → Ring) (k : Nat) : (s.modRing j f).aout k = s.aout k := rfl
@[simp] theorem State.modRing_aport (s : State) (j : Nat) (f : Ring → Ring) (k : Nat) : (s.modRing j f).aport k = s.aport k := rfl
@[simp] theorem State.modRing_lane (s : State) (j : Nat) (f : Ring → Ring) (k : Nat) : (s.modRing j f).lane k = s.lane k := rfl
@[simp] theorem State.modRing_port (s : State) (j : Nat) (f : Ring → Ring) (k : Nat) : (s.modRing j f).port k = s.port k := rfl
@[simp] theorem State.modRing_flow (s : State) (j : Nat) (f : Ring → Ring) (k : Nat) : (s.modRing j f).flow k = s.flow k := rfl
@[simp] theorem State.modRing_queue (s : State) (j : Nat) (f : Ring → Ring) (k : Nat) : (s.modRing j f).queue k = s.queue k := rfl
@[simp] theorem State.modRing_gate (s : State) (j : Nat) (f : Ring → Ring) (k : Nat) : (s.modRing j f).gate k = s.gate k := rfl
@[simp] theorem State.modRing_trig (s : State) (j : Nat) (f : Ring → Ring) (k : Nat) : (s.modRing j f).trig k = s.trig k := rfl
@[simp] theorem State.modRing_stem (s : State) (j : Nat) (f : Ring → Ring) (k : Nat) : (s.modRing j f).stem k = s.stem k := rfl
@[simp] theorem State.modRing_rend (s : State) (j : Nat) (f : Ring → Ring) (k : Nat) : (s.modRing j f).rend k = s.rend k := rfl
@[simp] theorem State.modRing_deliv (s : State) (j : Nat) (f : Ring → Ring) (k : Nat) : (s.modRing j f).deliv k = s.deliv k := rfl
@[simp] theorem State.modRing_core (s : State) (j : Nat) (f : Ring → Ring) (k : Nat) : (s.modRing j f).core k = s.core k := rfl
@[simp] theorem State.modRing_job (s : State) (j : Nat) (f : Ring → Ring) (k : Nat) : (s.modRing j f).job k = s.job k := rfl
@[simp] theorem State.modRing_hostFlow (s : State) (j : Nat) (f : Ring → Ring) (k : Nat) : (s.modRing j f).hostFlow k = s.hostFlow k := rfl
@[simp] theorem State.modRing_ctx (s : State) (j : Nat) (f : Ring → Ring) (k : Nat) : (s.modRing j f).ctx k = s.ctx k := rfl
@[simp] theorem State.modRing_layer (s : State) (j : Nat) (f : Ring → Ring) (k : Nat) : (s.modRing j f).layer k = s.layer k := rfl
@[simp] theorem State.modRing_gauge (s : State) (j : Nat) (f : Ring → Ring) (k : Nat) : (s.modRing j f).gauge k = s.gauge k := rfl
@[simp] theorem State.modRing_domain (s : State) (j : Nat) (f : Ring → Ring) (k : Nat) : (s.modRing j f).domain k = s.domain k := rfl
@[simp] theorem State.modRing_bus (s : State) (j : Nat) (f : Ring → Ring) (k : Nat) : (s.modRing j f).bus k = s.bus k := rfl
@[simp] theorem State.modRing_plane (s : State) (j : Nat) (f : Ring → Ring) (k : Nat) : (s.modRing j f).plane k = s.plane k := rfl
@[simp] theorem State.modRing_ref (s : State) (j : Nat) (f : Ring → Ring) (k : Nat) : (s.modRing j f).ref k = s.ref k := rfl
@[simp] theorem State.modRing_cap (s : State) (j : Nat) (f : Ring → Ring) (k : Nat) : (s.modRing j f).cap k = s.cap k := rfl
@[simp] theorem State.modRing_rider (s : State) (j : Nat) (f : Ring → Ring) (k : Nat) : (s.modRing j f).rider k = s.rider k := rfl
@[simp] theorem State.modRing_head (s : State) (j : Nat) (f : Ring → Ring) (k : Nat) : (s.modRing j f).head k = s.head k := rfl
@[simp] theorem State.modRing_culvert (s : State) (j : Nat) (f : Ring → Ring) (k : Nat) : (s.modRing j f).culvert k = s.culvert k := rfl
@[simp] theorem State.modRing_stack (s : State) (j : Nat) (f : Ring → Ring) (k : Nat) : (s.modRing j f).stack k = s.stack k := rfl
@[simp] theorem State.modRing_reachMem (s : State) (j : Nat) (f : Ring → Ring) (k : Nat) : (s.modRing j f).reachMem k = s.reachMem k := rfl
@[simp] theorem State.modRing_stands (s : State) (j : Nat) (f : Ring → Ring) (i u : Nat) : (s.modRing j f).stands i u = s.stands i u := rfl
@[simp] theorem State.modRing_cnt (s : State) (j : Nat) (f : Ring → Ring) (i u : Nat) : (s.modRing j f).cnt i u = s.cnt i u := rfl

@[simp] theorem State.modDomain_src (s : State) (j : Nat) (f : DomainSt → DomainSt) (k : Nat) : (s.modDomain j f).src k = s.src k := rfl
@[simp] theorem State.modDomain_dst (s : State) (j : Nat) (f : DomainSt → DomainSt) (k : Nat) : (s.modDomain j f).dst k = s.dst k := rfl
@[simp] theorem State.modDomain_ain (s : State) (j : Nat) (f : DomainSt → DomainSt) (k : Nat) : (s.modDomain j f).ain k = s.ain k := rfl
@[simp] theorem State.modDomain_aout (s : State) (j : Nat) (f : DomainSt → DomainSt) (k : Nat) : (s.modDomain j f).aout k = s.aout k := rfl
@[simp] theorem State.modDomain_aport (s : State) (j : Nat) (f : DomainSt → DomainSt) (k : Nat) : (s.modDomain j f).aport k = s.aport k := rfl
@[simp] theorem State.modDomain_lane (s : State) (j : Nat) (f : DomainSt → DomainSt) (k : Nat) : (s.modDomain j f).lane k = s.lane k := rfl
@[simp] theorem State.modDomain_port (s : State) (j : Nat) (f : DomainSt → DomainSt) (k : Nat) : (s.modDomain j f).port k = s.port k := rfl
@[simp] theorem State.modDomain_flow (s : State) (j : Nat) (f : DomainSt → DomainSt) (k : Nat) : (s.modDomain j f).flow k = s.flow k := rfl
@[simp] theorem State.modDomain_queue (s : State) (j : Nat) (f : DomainSt → DomainSt) (k : Nat) : (s.modDomain j f).queue k = s.queue k := rfl
@[simp] theorem State.modDomain_gate (s : State) (j : Nat) (f : DomainSt → DomainSt) (k : Nat) : (s.modDomain j f).gate k = s.gate k := rfl
@[simp] theorem State.modDomain_trig (s : State) (j : Nat) (f : DomainSt → DomainSt) (k : Nat) : (s.modDomain j f).trig k = s.trig k := rfl
@[simp] theorem State.modDomain_stem (s : State) (j : Nat) (f : DomainSt → DomainSt) (k : Nat) : (s.modDomain j f).stem k = s.stem k := rfl
@[simp] theorem State.modDomain_rend (s : State) (j : Nat) (f : DomainSt → DomainSt) (k : Nat) : (s.modDomain j f).rend k = s.rend k := rfl
@[simp] theorem State.modDomain_deliv (s : State) (j : Nat) (f : DomainSt → DomainSt) (k : Nat) : (s.modDomain j f).deliv k = s.deliv k := rfl
@[simp] theorem State.modDomain_core (s : State) (j : Nat) (f : DomainSt → DomainSt) (k : Nat) : (s.modDomain j f).core k = s.core k := rfl
@[simp] theorem State.modDomain_job (s : State) (j : Nat) (f : DomainSt → DomainSt) (k : Nat) : (s.modDomain j f).job k = s.job k := rfl
@[simp] theorem State.modDomain_hostFlow (s : State) (j : Nat) (f : DomainSt → DomainSt) (k : Nat) : (s.modDomain j f).hostFlow k = s.hostFlow k := rfl
@[simp] theorem State.modDomain_ctx (s : State) (j : Nat) (f : DomainSt → DomainSt) (k : Nat) : (s.modDomain j f).ctx k = s.ctx k := rfl
@[simp] theorem State.modDomain_layer (s : State) (j : Nat) (f : DomainSt → DomainSt) (k : Nat) : (s.modDomain j f).layer k = s.layer k := rfl
@[simp] theorem State.modDomain_gauge (s : State) (j : Nat) (f : DomainSt → DomainSt) (k : Nat) : (s.modDomain j f).gauge k = s.gauge k := rfl
@[simp] theorem State.modDomain_ring (s : State) (j : Nat) (f : DomainSt → DomainSt) (k : Nat) : (s.modDomain j f).ring k = s.ring k := rfl
@[simp] theorem State.modDomain_bus (s : State) (j : Nat) (f : DomainSt → DomainSt) (k : Nat) : (s.modDomain j f).bus k = s.bus k := rfl
@[simp] theorem State.modDomain_plane (s : State) (j : Nat) (f : DomainSt → DomainSt) (k : Nat) : (s.modDomain j f).plane k = s.plane k := rfl
@[simp] theorem State.modDomain_ref (s : State) (j : Nat) (f : DomainSt → DomainSt) (k : Nat) : (s.modDomain j f).ref k = s.ref k := rfl
@[simp] theorem State.modDomain_cap (s : State) (j : Nat) (f : DomainSt → DomainSt) (k : Nat) : (s.modDomain j f).cap k = s.cap k := rfl
@[simp] theorem State.modDomain_rider (s : State) (j : Nat) (f : DomainSt → DomainSt) (k : Nat) : (s.modDomain j f).rider k = s.rider k := rfl
@[simp] theorem State.modDomain_head (s : State) (j : Nat) (f : DomainSt → DomainSt) (k : Nat) : (s.modDomain j f).head k = s.head k := rfl
@[simp] theorem State.modDomain_culvert (s : State) (j : Nat) (f : DomainSt → DomainSt) (k : Nat) : (s.modDomain j f).culvert k = s.culvert k := rfl
@[simp] theorem State.modDomain_stack (s : State) (j : Nat) (f : DomainSt → DomainSt) (k : Nat) : (s.modDomain j f).stack k = s.stack k := rfl
@[simp] theorem State.modDomain_reachMem (s : State) (j : Nat) (f : DomainSt → DomainSt) (k : Nat) : (s.modDomain j f).reachMem k = s.reachMem k := rfl
@[simp] theorem State.modDomain_stands (s : State) (j : Nat) (f : DomainSt → DomainSt) (i u : Nat) : (s.modDomain j f).stands i u = s.stands i u := rfl
@[simp] theorem State.modDomain_cnt (s : State) (j : Nat) (f : DomainSt → DomainSt) (i u : Nat) : (s.modDomain j f).cnt i u = s.cnt i u := rfl

@[simp] theorem State.modBus_src (s : State) (j : Nat) (f : I2cBus → I2cBus) (k : Nat) : (s.modBus j f).src k = s.src k := rfl
@[simp] theorem State.modBus_dst (s : State) (j : Nat) (f : I2cBus → I2cBus) (k : Nat) : (s.modBus j f).dst k = s.dst k := rfl
@[simp] theorem State.modBus_ain (s : State) (j : Nat) (f : I2cBus → I2cBus) (k : Nat) : (s.modBus j f).ain k = s.ain k := rfl
@[simp] theorem State.modBus_aout (s : State) (j : Nat) (f : I2cBus → I2cBus) (k : Nat) : (s.modBus j f).aout k = s.aout k := rfl
@[simp] theorem State.modBus_aport (s : State) (j : Nat) (f : I2cBus → I2cBus) (k : Nat) : (s.modBus j f).aport k = s.aport k := rfl
@[simp] theorem State.modBus_lane (s : State) (j : Nat) (f : I2cBus → I2cBus) (k : Nat) : (s.modBus j f).lane k = s.lane k := rfl
@[simp] theorem State.modBus_port (s : State) (j : Nat) (f : I2cBus → I2cBus) (k : Nat) : (s.modBus j f).port k = s.port k := rfl
@[simp] theorem State.modBus_flow (s : State) (j : Nat) (f : I2cBus → I2cBus) (k : Nat) : (s.modBus j f).flow k = s.flow k := rfl
@[simp] theorem State.modBus_queue (s : State) (j : Nat) (f : I2cBus → I2cBus) (k : Nat) : (s.modBus j f).queue k = s.queue k := rfl
@[simp] theorem State.modBus_gate (s : State) (j : Nat) (f : I2cBus → I2cBus) (k : Nat) : (s.modBus j f).gate k = s.gate k := rfl
@[simp] theorem State.modBus_trig (s : State) (j : Nat) (f : I2cBus → I2cBus) (k : Nat) : (s.modBus j f).trig k = s.trig k := rfl
@[simp] theorem State.modBus_stem (s : State) (j : Nat) (f : I2cBus → I2cBus) (k : Nat) : (s.modBus j f).stem k = s.stem k := rfl
@[simp] theorem State.modBus_rend (s : State) (j : Nat) (f : I2cBus → I2cBus) (k : Nat) : (s.modBus j f).rend k = s.rend k := rfl
@[simp] theorem State.modBus_deliv (s : State) (j : Nat) (f : I2cBus → I2cBus) (k : Nat) : (s.modBus j f).deliv k = s.deliv k := rfl
@[simp] theorem State.modBus_core (s : State) (j : Nat) (f : I2cBus → I2cBus) (k : Nat) : (s.modBus j f).core k = s.core k := rfl
@[simp] theorem State.modBus_job (s : State) (j : Nat) (f : I2cBus → I2cBus) (k : Nat) : (s.modBus j f).job k = s.job k := rfl
@[simp] theorem State.modBus_hostFlow (s : State) (j : Nat) (f : I2cBus → I2cBus) (k : Nat) : (s.modBus j f).hostFlow k = s.hostFlow k := rfl
@[simp] theorem State.modBus_ctx (s : State) (j : Nat) (f : I2cBus → I2cBus) (k : Nat) : (s.modBus j f).ctx k = s.ctx k := rfl
@[simp] theorem State.modBus_layer (s : State) (j : Nat) (f : I2cBus → I2cBus) (k : Nat) : (s.modBus j f).layer k = s.layer k := rfl
@[simp] theorem State.modBus_gauge (s : State) (j : Nat) (f : I2cBus → I2cBus) (k : Nat) : (s.modBus j f).gauge k = s.gauge k := rfl
@[simp] theorem State.modBus_ring (s : State) (j : Nat) (f : I2cBus → I2cBus) (k : Nat) : (s.modBus j f).ring k = s.ring k := rfl
@[simp] theorem State.modBus_domain (s : State) (j : Nat) (f : I2cBus → I2cBus) (k : Nat) : (s.modBus j f).domain k = s.domain k := rfl
@[simp] theorem State.modBus_plane (s : State) (j : Nat) (f : I2cBus → I2cBus) (k : Nat) : (s.modBus j f).plane k = s.plane k := rfl
@[simp] theorem State.modBus_ref (s : State) (j : Nat) (f : I2cBus → I2cBus) (k : Nat) : (s.modBus j f).ref k = s.ref k := rfl
@[simp] theorem State.modBus_cap (s : State) (j : Nat) (f : I2cBus → I2cBus) (k : Nat) : (s.modBus j f).cap k = s.cap k := rfl
@[simp] theorem State.modBus_rider (s : State) (j : Nat) (f : I2cBus → I2cBus) (k : Nat) : (s.modBus j f).rider k = s.rider k := rfl
@[simp] theorem State.modBus_head (s : State) (j : Nat) (f : I2cBus → I2cBus) (k : Nat) : (s.modBus j f).head k = s.head k := rfl
@[simp] theorem State.modBus_culvert (s : State) (j : Nat) (f : I2cBus → I2cBus) (k : Nat) : (s.modBus j f).culvert k = s.culvert k := rfl
@[simp] theorem State.modBus_stack (s : State) (j : Nat) (f : I2cBus → I2cBus) (k : Nat) : (s.modBus j f).stack k = s.stack k := rfl
@[simp] theorem State.modBus_reachMem (s : State) (j : Nat) (f : I2cBus → I2cBus) (k : Nat) : (s.modBus j f).reachMem k = s.reachMem k := rfl
@[simp] theorem State.modBus_stands (s : State) (j : Nat) (f : I2cBus → I2cBus) (i u : Nat) : (s.modBus j f).stands i u = s.stands i u := rfl
@[simp] theorem State.modBus_cnt (s : State) (j : Nat) (f : I2cBus → I2cBus) (i u : Nat) : (s.modBus j f).cnt i u = s.cnt i u := rfl

@[simp] theorem State.modPlane_src (s : State) (j : Nat) (f : PlaneSt → PlaneSt) (k : Nat) : (s.modPlane j f).src k = s.src k := rfl
@[simp] theorem State.modPlane_dst (s : State) (j : Nat) (f : PlaneSt → PlaneSt) (k : Nat) : (s.modPlane j f).dst k = s.dst k := rfl
@[simp] theorem State.modPlane_ain (s : State) (j : Nat) (f : PlaneSt → PlaneSt) (k : Nat) : (s.modPlane j f).ain k = s.ain k := rfl
@[simp] theorem State.modPlane_aout (s : State) (j : Nat) (f : PlaneSt → PlaneSt) (k : Nat) : (s.modPlane j f).aout k = s.aout k := rfl
@[simp] theorem State.modPlane_aport (s : State) (j : Nat) (f : PlaneSt → PlaneSt) (k : Nat) : (s.modPlane j f).aport k = s.aport k := rfl
@[simp] theorem State.modPlane_lane (s : State) (j : Nat) (f : PlaneSt → PlaneSt) (k : Nat) : (s.modPlane j f).lane k = s.lane k := rfl
@[simp] theorem State.modPlane_port (s : State) (j : Nat) (f : PlaneSt → PlaneSt) (k : Nat) : (s.modPlane j f).port k = s.port k := rfl
@[simp] theorem State.modPlane_flow (s : State) (j : Nat) (f : PlaneSt → PlaneSt) (k : Nat) : (s.modPlane j f).flow k = s.flow k := rfl
@[simp] theorem State.modPlane_queue (s : State) (j : Nat) (f : PlaneSt → PlaneSt) (k : Nat) : (s.modPlane j f).queue k = s.queue k := rfl
@[simp] theorem State.modPlane_gate (s : State) (j : Nat) (f : PlaneSt → PlaneSt) (k : Nat) : (s.modPlane j f).gate k = s.gate k := rfl
@[simp] theorem State.modPlane_trig (s : State) (j : Nat) (f : PlaneSt → PlaneSt) (k : Nat) : (s.modPlane j f).trig k = s.trig k := rfl
@[simp] theorem State.modPlane_stem (s : State) (j : Nat) (f : PlaneSt → PlaneSt) (k : Nat) : (s.modPlane j f).stem k = s.stem k := rfl
@[simp] theorem State.modPlane_rend (s : State) (j : Nat) (f : PlaneSt → PlaneSt) (k : Nat) : (s.modPlane j f).rend k = s.rend k := rfl
@[simp] theorem State.modPlane_deliv (s : State) (j : Nat) (f : PlaneSt → PlaneSt) (k : Nat) : (s.modPlane j f).deliv k = s.deliv k := rfl
@[simp] theorem State.modPlane_core (s : State) (j : Nat) (f : PlaneSt → PlaneSt) (k : Nat) : (s.modPlane j f).core k = s.core k := rfl
@[simp] theorem State.modPlane_job (s : State) (j : Nat) (f : PlaneSt → PlaneSt) (k : Nat) : (s.modPlane j f).job k = s.job k := rfl
@[simp] theorem State.modPlane_hostFlow (s : State) (j : Nat) (f : PlaneSt → PlaneSt) (k : Nat) : (s.modPlane j f).hostFlow k = s.hostFlow k := rfl
@[simp] theorem State.modPlane_ctx (s : State) (j : Nat) (f : PlaneSt → PlaneSt) (k : Nat) : (s.modPlane j f).ctx k = s.ctx k := rfl
@[simp] theorem State.modPlane_layer (s : State) (j : Nat) (f : PlaneSt → PlaneSt) (k : Nat) : (s.modPlane j f).layer k = s.layer k := rfl
@[simp] theorem State.modPlane_gauge (s : State) (j : Nat) (f : PlaneSt → PlaneSt) (k : Nat) : (s.modPlane j f).gauge k = s.gauge k := rfl
@[simp] theorem State.modPlane_ring (s : State) (j : Nat) (f : PlaneSt → PlaneSt) (k : Nat) : (s.modPlane j f).ring k = s.ring k := rfl
@[simp] theorem State.modPlane_domain (s : State) (j : Nat) (f : PlaneSt → PlaneSt) (k : Nat) : (s.modPlane j f).domain k = s.domain k := rfl
@[simp] theorem State.modPlane_bus (s : State) (j : Nat) (f : PlaneSt → PlaneSt) (k : Nat) : (s.modPlane j f).bus k = s.bus k := rfl
@[simp] theorem State.modPlane_ref (s : State) (j : Nat) (f : PlaneSt → PlaneSt) (k : Nat) : (s.modPlane j f).ref k = s.ref k := rfl
@[simp] theorem State.modPlane_cap (s : State) (j : Nat) (f : PlaneSt → PlaneSt) (k : Nat) : (s.modPlane j f).cap k = s.cap k := rfl
@[simp] theorem State.modPlane_rider (s : State) (j : Nat) (f : PlaneSt → PlaneSt) (k : Nat) : (s.modPlane j f).rider k = s.rider k := rfl
@[simp] theorem State.modPlane_head (s : State) (j : Nat) (f : PlaneSt → PlaneSt) (k : Nat) : (s.modPlane j f).head k = s.head k := rfl
@[simp] theorem State.modPlane_culvert (s : State) (j : Nat) (f : PlaneSt → PlaneSt) (k : Nat) : (s.modPlane j f).culvert k = s.culvert k := rfl
@[simp] theorem State.modPlane_stack (s : State) (j : Nat) (f : PlaneSt → PlaneSt) (k : Nat) : (s.modPlane j f).stack k = s.stack k := rfl
@[simp] theorem State.modPlane_reachMem (s : State) (j : Nat) (f : PlaneSt → PlaneSt) (k : Nat) : (s.modPlane j f).reachMem k = s.reachMem k := rfl
@[simp] theorem State.modPlane_stands (s : State) (j : Nat) (f : PlaneSt → PlaneSt) (i u : Nat) : (s.modPlane j f).stands i u = s.stands i u := rfl
@[simp] theorem State.modPlane_cnt (s : State) (j : Nat) (f : PlaneSt → PlaneSt) (i u : Nat) : (s.modPlane j f).cnt i u = s.cnt i u := rfl

@[simp] theorem State.modRef_src (s : State) (j : Nat) (f : RefSt → RefSt) (k : Nat) : (s.modRef j f).src k = s.src k := rfl
@[simp] theorem State.modRef_dst (s : State) (j : Nat) (f : RefSt → RefSt) (k : Nat) : (s.modRef j f).dst k = s.dst k := rfl
@[simp] theorem State.modRef_ain (s : State) (j : Nat) (f : RefSt → RefSt) (k : Nat) : (s.modRef j f).ain k = s.ain k := rfl
@[simp] theorem State.modRef_aout (s : State) (j : Nat) (f : RefSt → RefSt) (k : Nat) : (s.modRef j f).aout k = s.aout k := rfl
@[simp] theorem State.modRef_aport (s : State) (j : Nat) (f : RefSt → RefSt) (k : Nat) : (s.modRef j f).aport k = s.aport k := rfl
@[simp] theorem State.modRef_lane (s : State) (j : Nat) (f : RefSt → RefSt) (k : Nat) : (s.modRef j f).lane k = s.lane k := rfl
@[simp] theorem State.modRef_port (s : State) (j : Nat) (f : RefSt → RefSt) (k : Nat) : (s.modRef j f).port k = s.port k := rfl
@[simp] theorem State.modRef_flow (s : State) (j : Nat) (f : RefSt → RefSt) (k : Nat) : (s.modRef j f).flow k = s.flow k := rfl
@[simp] theorem State.modRef_queue (s : State) (j : Nat) (f : RefSt → RefSt) (k : Nat) : (s.modRef j f).queue k = s.queue k := rfl
@[simp] theorem State.modRef_gate (s : State) (j : Nat) (f : RefSt → RefSt) (k : Nat) : (s.modRef j f).gate k = s.gate k := rfl
@[simp] theorem State.modRef_trig (s : State) (j : Nat) (f : RefSt → RefSt) (k : Nat) : (s.modRef j f).trig k = s.trig k := rfl
@[simp] theorem State.modRef_stem (s : State) (j : Nat) (f : RefSt → RefSt) (k : Nat) : (s.modRef j f).stem k = s.stem k := rfl
@[simp] theorem State.modRef_rend (s : State) (j : Nat) (f : RefSt → RefSt) (k : Nat) : (s.modRef j f).rend k = s.rend k := rfl
@[simp] theorem State.modRef_deliv (s : State) (j : Nat) (f : RefSt → RefSt) (k : Nat) : (s.modRef j f).deliv k = s.deliv k := rfl
@[simp] theorem State.modRef_core (s : State) (j : Nat) (f : RefSt → RefSt) (k : Nat) : (s.modRef j f).core k = s.core k := rfl
@[simp] theorem State.modRef_job (s : State) (j : Nat) (f : RefSt → RefSt) (k : Nat) : (s.modRef j f).job k = s.job k := rfl
@[simp] theorem State.modRef_hostFlow (s : State) (j : Nat) (f : RefSt → RefSt) (k : Nat) : (s.modRef j f).hostFlow k = s.hostFlow k := rfl
@[simp] theorem State.modRef_ctx (s : State) (j : Nat) (f : RefSt → RefSt) (k : Nat) : (s.modRef j f).ctx k = s.ctx k := rfl
@[simp] theorem State.modRef_layer (s : State) (j : Nat) (f : RefSt → RefSt) (k : Nat) : (s.modRef j f).layer k = s.layer k := rfl
@[simp] theorem State.modRef_gauge (s : State) (j : Nat) (f : RefSt → RefSt) (k : Nat) : (s.modRef j f).gauge k = s.gauge k := rfl
@[simp] theorem State.modRef_ring (s : State) (j : Nat) (f : RefSt → RefSt) (k : Nat) : (s.modRef j f).ring k = s.ring k := rfl
@[simp] theorem State.modRef_domain (s : State) (j : Nat) (f : RefSt → RefSt) (k : Nat) : (s.modRef j f).domain k = s.domain k := rfl
@[simp] theorem State.modRef_bus (s : State) (j : Nat) (f : RefSt → RefSt) (k : Nat) : (s.modRef j f).bus k = s.bus k := rfl
@[simp] theorem State.modRef_plane (s : State) (j : Nat) (f : RefSt → RefSt) (k : Nat) : (s.modRef j f).plane k = s.plane k := rfl
@[simp] theorem State.modRef_cap (s : State) (j : Nat) (f : RefSt → RefSt) (k : Nat) : (s.modRef j f).cap k = s.cap k := rfl
@[simp] theorem State.modRef_rider (s : State) (j : Nat) (f : RefSt → RefSt) (k : Nat) : (s.modRef j f).rider k = s.rider k := rfl
@[simp] theorem State.modRef_head (s : State) (j : Nat) (f : RefSt → RefSt) (k : Nat) : (s.modRef j f).head k = s.head k := rfl
@[simp] theorem State.modRef_culvert (s : State) (j : Nat) (f : RefSt → RefSt) (k : Nat) : (s.modRef j f).culvert k = s.culvert k := rfl
@[simp] theorem State.modRef_stack (s : State) (j : Nat) (f : RefSt → RefSt) (k : Nat) : (s.modRef j f).stack k = s.stack k := rfl
@[simp] theorem State.modRef_reachMem (s : State) (j : Nat) (f : RefSt → RefSt) (k : Nat) : (s.modRef j f).reachMem k = s.reachMem k := rfl
@[simp] theorem State.modRef_stands (s : State) (j : Nat) (f : RefSt → RefSt) (i u : Nat) : (s.modRef j f).stands i u = s.stands i u := rfl
@[simp] theorem State.modRef_cnt (s : State) (j : Nat) (f : RefSt → RefSt) (i u : Nat) : (s.modRef j f).cnt i u = s.cnt i u := rfl

@[simp] theorem State.modCap_src (s : State) (j : Nat) (f : CapSt → CapSt) (k : Nat) : (s.modCap j f).src k = s.src k := rfl
@[simp] theorem State.modCap_dst (s : State) (j : Nat) (f : CapSt → CapSt) (k : Nat) : (s.modCap j f).dst k = s.dst k := rfl
@[simp] theorem State.modCap_ain (s : State) (j : Nat) (f : CapSt → CapSt) (k : Nat) : (s.modCap j f).ain k = s.ain k := rfl
@[simp] theorem State.modCap_aout (s : State) (j : Nat) (f : CapSt → CapSt) (k : Nat) : (s.modCap j f).aout k = s.aout k := rfl
@[simp] theorem State.modCap_aport (s : State) (j : Nat) (f : CapSt → CapSt) (k : Nat) : (s.modCap j f).aport k = s.aport k := rfl
@[simp] theorem State.modCap_lane (s : State) (j : Nat) (f : CapSt → CapSt) (k : Nat) : (s.modCap j f).lane k = s.lane k := rfl
@[simp] theorem State.modCap_port (s : State) (j : Nat) (f : CapSt → CapSt) (k : Nat) : (s.modCap j f).port k = s.port k := rfl
@[simp] theorem State.modCap_flow (s : State) (j : Nat) (f : CapSt → CapSt) (k : Nat) : (s.modCap j f).flow k = s.flow k := rfl
@[simp] theorem State.modCap_queue (s : State) (j : Nat) (f : CapSt → CapSt) (k : Nat) : (s.modCap j f).queue k = s.queue k := rfl
@[simp] theorem State.modCap_gate (s : State) (j : Nat) (f : CapSt → CapSt) (k : Nat) : (s.modCap j f).gate k = s.gate k := rfl
@[simp] theorem State.modCap_trig (s : State) (j : Nat) (f : CapSt → CapSt) (k : Nat) : (s.modCap j f).trig k = s.trig k := rfl
@[simp] theorem State.modCap_stem (s : State) (j : Nat) (f : CapSt → CapSt) (k : Nat) : (s.modCap j f).stem k = s.stem k := rfl
@[simp] theorem State.modCap_rend (s : State) (j : Nat) (f : CapSt → CapSt) (k : Nat) : (s.modCap j f).rend k = s.rend k := rfl
@[simp] theorem State.modCap_deliv (s : State) (j : Nat) (f : CapSt → CapSt) (k : Nat) : (s.modCap j f).deliv k = s.deliv k := rfl
@[simp] theorem State.modCap_core (s : State) (j : Nat) (f : CapSt → CapSt) (k : Nat) : (s.modCap j f).core k = s.core k := rfl
@[simp] theorem State.modCap_job (s : State) (j : Nat) (f : CapSt → CapSt) (k : Nat) : (s.modCap j f).job k = s.job k := rfl
@[simp] theorem State.modCap_hostFlow (s : State) (j : Nat) (f : CapSt → CapSt) (k : Nat) : (s.modCap j f).hostFlow k = s.hostFlow k := rfl
@[simp] theorem State.modCap_ctx (s : State) (j : Nat) (f : CapSt → CapSt) (k : Nat) : (s.modCap j f).ctx k = s.ctx k := rfl
@[simp] theorem State.modCap_layer (s : State) (j : Nat) (f : CapSt → CapSt) (k : Nat) : (s.modCap j f).layer k = s.layer k := rfl
@[simp] theorem State.modCap_gauge (s : State) (j : Nat) (f : CapSt → CapSt) (k : Nat) : (s.modCap j f).gauge k = s.gauge k := rfl
@[simp] theorem State.modCap_ring (s : State) (j : Nat) (f : CapSt → CapSt) (k : Nat) : (s.modCap j f).ring k = s.ring k := rfl
@[simp] theorem State.modCap_domain (s : State) (j : Nat) (f : CapSt → CapSt) (k : Nat) : (s.modCap j f).domain k = s.domain k := rfl
@[simp] theorem State.modCap_bus (s : State) (j : Nat) (f : CapSt → CapSt) (k : Nat) : (s.modCap j f).bus k = s.bus k := rfl
@[simp] theorem State.modCap_plane (s : State) (j : Nat) (f : CapSt → CapSt) (k : Nat) : (s.modCap j f).plane k = s.plane k := rfl
@[simp] theorem State.modCap_ref (s : State) (j : Nat) (f : CapSt → CapSt) (k : Nat) : (s.modCap j f).ref k = s.ref k := rfl
@[simp] theorem State.modCap_rider (s : State) (j : Nat) (f : CapSt → CapSt) (k : Nat) : (s.modCap j f).rider k = s.rider k := rfl
@[simp] theorem State.modCap_head (s : State) (j : Nat) (f : CapSt → CapSt) (k : Nat) : (s.modCap j f).head k = s.head k := rfl
@[simp] theorem State.modCap_culvert (s : State) (j : Nat) (f : CapSt → CapSt) (k : Nat) : (s.modCap j f).culvert k = s.culvert k := rfl
@[simp] theorem State.modCap_stack (s : State) (j : Nat) (f : CapSt → CapSt) (k : Nat) : (s.modCap j f).stack k = s.stack k := rfl
@[simp] theorem State.modCap_reachMem (s : State) (j : Nat) (f : CapSt → CapSt) (k : Nat) : (s.modCap j f).reachMem k = s.reachMem k := rfl
@[simp] theorem State.modCap_stands (s : State) (j : Nat) (f : CapSt → CapSt) (i u : Nat) : (s.modCap j f).stands i u = s.stands i u := rfl
@[simp] theorem State.modCap_cnt (s : State) (j : Nat) (f : CapSt → CapSt) (i u : Nat) : (s.modCap j f).cnt i u = s.cnt i u := rfl

@[simp] theorem State.modRider_src (s : State) (j : Nat) (f : RiderSt → RiderSt) (k : Nat) : (s.modRider j f).src k = s.src k := rfl
@[simp] theorem State.modRider_dst (s : State) (j : Nat) (f : RiderSt → RiderSt) (k : Nat) : (s.modRider j f).dst k = s.dst k := rfl
@[simp] theorem State.modRider_ain (s : State) (j : Nat) (f : RiderSt → RiderSt) (k : Nat) : (s.modRider j f).ain k = s.ain k := rfl
@[simp] theorem State.modRider_aout (s : State) (j : Nat) (f : RiderSt → RiderSt) (k : Nat) : (s.modRider j f).aout k = s.aout k := rfl
@[simp] theorem State.modRider_aport (s : State) (j : Nat) (f : RiderSt → RiderSt) (k : Nat) : (s.modRider j f).aport k = s.aport k := rfl
@[simp] theorem State.modRider_lane (s : State) (j : Nat) (f : RiderSt → RiderSt) (k : Nat) : (s.modRider j f).lane k = s.lane k := rfl
@[simp] theorem State.modRider_port (s : State) (j : Nat) (f : RiderSt → RiderSt) (k : Nat) : (s.modRider j f).port k = s.port k := rfl
@[simp] theorem State.modRider_flow (s : State) (j : Nat) (f : RiderSt → RiderSt) (k : Nat) : (s.modRider j f).flow k = s.flow k := rfl
@[simp] theorem State.modRider_queue (s : State) (j : Nat) (f : RiderSt → RiderSt) (k : Nat) : (s.modRider j f).queue k = s.queue k := rfl
@[simp] theorem State.modRider_gate (s : State) (j : Nat) (f : RiderSt → RiderSt) (k : Nat) : (s.modRider j f).gate k = s.gate k := rfl
@[simp] theorem State.modRider_trig (s : State) (j : Nat) (f : RiderSt → RiderSt) (k : Nat) : (s.modRider j f).trig k = s.trig k := rfl
@[simp] theorem State.modRider_stem (s : State) (j : Nat) (f : RiderSt → RiderSt) (k : Nat) : (s.modRider j f).stem k = s.stem k := rfl
@[simp] theorem State.modRider_rend (s : State) (j : Nat) (f : RiderSt → RiderSt) (k : Nat) : (s.modRider j f).rend k = s.rend k := rfl
@[simp] theorem State.modRider_deliv (s : State) (j : Nat) (f : RiderSt → RiderSt) (k : Nat) : (s.modRider j f).deliv k = s.deliv k := rfl
@[simp] theorem State.modRider_core (s : State) (j : Nat) (f : RiderSt → RiderSt) (k : Nat) : (s.modRider j f).core k = s.core k := rfl
@[simp] theorem State.modRider_job (s : State) (j : Nat) (f : RiderSt → RiderSt) (k : Nat) : (s.modRider j f).job k = s.job k := rfl
@[simp] theorem State.modRider_hostFlow (s : State) (j : Nat) (f : RiderSt → RiderSt) (k : Nat) : (s.modRider j f).hostFlow k = s.hostFlow k := rfl
@[simp] theorem State.modRider_ctx (s : State) (j : Nat) (f : RiderSt → RiderSt) (k : Nat) : (s.modRider j f).ctx k = s.ctx k := rfl
@[simp] theorem State.modRider_layer (s : State) (j : Nat) (f : RiderSt → RiderSt) (k : Nat) : (s.modRider j f).layer k = s.layer k := rfl
@[simp] theorem State.modRider_gauge (s : State) (j : Nat) (f : RiderSt → RiderSt) (k : Nat) : (s.modRider j f).gauge k = s.gauge k := rfl
@[simp] theorem State.modRider_ring (s : State) (j : Nat) (f : RiderSt → RiderSt) (k : Nat) : (s.modRider j f).ring k = s.ring k := rfl
@[simp] theorem State.modRider_domain (s : State) (j : Nat) (f : RiderSt → RiderSt) (k : Nat) : (s.modRider j f).domain k = s.domain k := rfl
@[simp] theorem State.modRider_bus (s : State) (j : Nat) (f : RiderSt → RiderSt) (k : Nat) : (s.modRider j f).bus k = s.bus k := rfl
@[simp] theorem State.modRider_plane (s : State) (j : Nat) (f : RiderSt → RiderSt) (k : Nat) : (s.modRider j f).plane k = s.plane k := rfl
@[simp] theorem State.modRider_ref (s : State) (j : Nat) (f : RiderSt → RiderSt) (k : Nat) : (s.modRider j f).ref k = s.ref k := rfl
@[simp] theorem State.modRider_cap (s : State) (j : Nat) (f : RiderSt → RiderSt) (k : Nat) : (s.modRider j f).cap k = s.cap k := rfl
@[simp] theorem State.modRider_head (s : State) (j : Nat) (f : RiderSt → RiderSt) (k : Nat) : (s.modRider j f).head k = s.head k := rfl
@[simp] theorem State.modRider_culvert (s : State) (j : Nat) (f : RiderSt → RiderSt) (k : Nat) : (s.modRider j f).culvert k = s.culvert k := rfl
@[simp] theorem State.modRider_stack (s : State) (j : Nat) (f : RiderSt → RiderSt) (k : Nat) : (s.modRider j f).stack k = s.stack k := rfl
@[simp] theorem State.modRider_reachMem (s : State) (j : Nat) (f : RiderSt → RiderSt) (k : Nat) : (s.modRider j f).reachMem k = s.reachMem k := rfl
@[simp] theorem State.modRider_stands (s : State) (j : Nat) (f : RiderSt → RiderSt) (i u : Nat) : (s.modRider j f).stands i u = s.stands i u := rfl
@[simp] theorem State.modRider_cnt (s : State) (j : Nat) (f : RiderSt → RiderSt) (i u : Nat) : (s.modRider j f).cnt i u = s.cnt i u := rfl

@[simp] theorem State.modHead_src (s : State) (j : Nat) (f : HeadSt → HeadSt) (k : Nat) : (s.modHead j f).src k = s.src k := rfl
@[simp] theorem State.modHead_dst (s : State) (j : Nat) (f : HeadSt → HeadSt) (k : Nat) : (s.modHead j f).dst k = s.dst k := rfl
@[simp] theorem State.modHead_ain (s : State) (j : Nat) (f : HeadSt → HeadSt) (k : Nat) : (s.modHead j f).ain k = s.ain k := rfl
@[simp] theorem State.modHead_aout (s : State) (j : Nat) (f : HeadSt → HeadSt) (k : Nat) : (s.modHead j f).aout k = s.aout k := rfl
@[simp] theorem State.modHead_aport (s : State) (j : Nat) (f : HeadSt → HeadSt) (k : Nat) : (s.modHead j f).aport k = s.aport k := rfl
@[simp] theorem State.modHead_lane (s : State) (j : Nat) (f : HeadSt → HeadSt) (k : Nat) : (s.modHead j f).lane k = s.lane k := rfl
@[simp] theorem State.modHead_port (s : State) (j : Nat) (f : HeadSt → HeadSt) (k : Nat) : (s.modHead j f).port k = s.port k := rfl
@[simp] theorem State.modHead_flow (s : State) (j : Nat) (f : HeadSt → HeadSt) (k : Nat) : (s.modHead j f).flow k = s.flow k := rfl
@[simp] theorem State.modHead_queue (s : State) (j : Nat) (f : HeadSt → HeadSt) (k : Nat) : (s.modHead j f).queue k = s.queue k := rfl
@[simp] theorem State.modHead_gate (s : State) (j : Nat) (f : HeadSt → HeadSt) (k : Nat) : (s.modHead j f).gate k = s.gate k := rfl
@[simp] theorem State.modHead_trig (s : State) (j : Nat) (f : HeadSt → HeadSt) (k : Nat) : (s.modHead j f).trig k = s.trig k := rfl
@[simp] theorem State.modHead_stem (s : State) (j : Nat) (f : HeadSt → HeadSt) (k : Nat) : (s.modHead j f).stem k = s.stem k := rfl
@[simp] theorem State.modHead_rend (s : State) (j : Nat) (f : HeadSt → HeadSt) (k : Nat) : (s.modHead j f).rend k = s.rend k := rfl
@[simp] theorem State.modHead_deliv (s : State) (j : Nat) (f : HeadSt → HeadSt) (k : Nat) : (s.modHead j f).deliv k = s.deliv k := rfl
@[simp] theorem State.modHead_core (s : State) (j : Nat) (f : HeadSt → HeadSt) (k : Nat) : (s.modHead j f).core k = s.core k := rfl
@[simp] theorem State.modHead_job (s : State) (j : Nat) (f : HeadSt → HeadSt) (k : Nat) : (s.modHead j f).job k = s.job k := rfl
@[simp] theorem State.modHead_hostFlow (s : State) (j : Nat) (f : HeadSt → HeadSt) (k : Nat) : (s.modHead j f).hostFlow k = s.hostFlow k := rfl
@[simp] theorem State.modHead_ctx (s : State) (j : Nat) (f : HeadSt → HeadSt) (k : Nat) : (s.modHead j f).ctx k = s.ctx k := rfl
@[simp] theorem State.modHead_layer (s : State) (j : Nat) (f : HeadSt → HeadSt) (k : Nat) : (s.modHead j f).layer k = s.layer k := rfl
@[simp] theorem State.modHead_gauge (s : State) (j : Nat) (f : HeadSt → HeadSt) (k : Nat) : (s.modHead j f).gauge k = s.gauge k := rfl
@[simp] theorem State.modHead_ring (s : State) (j : Nat) (f : HeadSt → HeadSt) (k : Nat) : (s.modHead j f).ring k = s.ring k := rfl
@[simp] theorem State.modHead_domain (s : State) (j : Nat) (f : HeadSt → HeadSt) (k : Nat) : (s.modHead j f).domain k = s.domain k := rfl
@[simp] theorem State.modHead_bus (s : State) (j : Nat) (f : HeadSt → HeadSt) (k : Nat) : (s.modHead j f).bus k = s.bus k := rfl
@[simp] theorem State.modHead_plane (s : State) (j : Nat) (f : HeadSt → HeadSt) (k : Nat) : (s.modHead j f).plane k = s.plane k := rfl
@[simp] theorem State.modHead_ref (s : State) (j : Nat) (f : HeadSt → HeadSt) (k : Nat) : (s.modHead j f).ref k = s.ref k := rfl
@[simp] theorem State.modHead_cap (s : State) (j : Nat) (f : HeadSt → HeadSt) (k : Nat) : (s.modHead j f).cap k = s.cap k := rfl
@[simp] theorem State.modHead_rider (s : State) (j : Nat) (f : HeadSt → HeadSt) (k : Nat) : (s.modHead j f).rider k = s.rider k := rfl
@[simp] theorem State.modHead_culvert (s : State) (j : Nat) (f : HeadSt → HeadSt) (k : Nat) : (s.modHead j f).culvert k = s.culvert k := rfl
@[simp] theorem State.modHead_stack (s : State) (j : Nat) (f : HeadSt → HeadSt) (k : Nat) : (s.modHead j f).stack k = s.stack k := rfl
@[simp] theorem State.modHead_reachMem (s : State) (j : Nat) (f : HeadSt → HeadSt) (k : Nat) : (s.modHead j f).reachMem k = s.reachMem k := rfl
@[simp] theorem State.modHead_stands (s : State) (j : Nat) (f : HeadSt → HeadSt) (i u : Nat) : (s.modHead j f).stands i u = s.stands i u := rfl
@[simp] theorem State.modHead_cnt (s : State) (j : Nat) (f : HeadSt → HeadSt) (i u : Nat) : (s.modHead j f).cnt i u = s.cnt i u := rfl

@[simp] theorem State.modCulvert_src (s : State) (j : Nat) (f : CulvertSt → CulvertSt) (k : Nat) : (s.modCulvert j f).src k = s.src k := rfl
@[simp] theorem State.modCulvert_dst (s : State) (j : Nat) (f : CulvertSt → CulvertSt) (k : Nat) : (s.modCulvert j f).dst k = s.dst k := rfl
@[simp] theorem State.modCulvert_ain (s : State) (j : Nat) (f : CulvertSt → CulvertSt) (k : Nat) : (s.modCulvert j f).ain k = s.ain k := rfl
@[simp] theorem State.modCulvert_aout (s : State) (j : Nat) (f : CulvertSt → CulvertSt) (k : Nat) : (s.modCulvert j f).aout k = s.aout k := rfl
@[simp] theorem State.modCulvert_aport (s : State) (j : Nat) (f : CulvertSt → CulvertSt) (k : Nat) : (s.modCulvert j f).aport k = s.aport k := rfl
@[simp] theorem State.modCulvert_lane (s : State) (j : Nat) (f : CulvertSt → CulvertSt) (k : Nat) : (s.modCulvert j f).lane k = s.lane k := rfl
@[simp] theorem State.modCulvert_port (s : State) (j : Nat) (f : CulvertSt → CulvertSt) (k : Nat) : (s.modCulvert j f).port k = s.port k := rfl
@[simp] theorem State.modCulvert_flow (s : State) (j : Nat) (f : CulvertSt → CulvertSt) (k : Nat) : (s.modCulvert j f).flow k = s.flow k := rfl
@[simp] theorem State.modCulvert_queue (s : State) (j : Nat) (f : CulvertSt → CulvertSt) (k : Nat) : (s.modCulvert j f).queue k = s.queue k := rfl
@[simp] theorem State.modCulvert_gate (s : State) (j : Nat) (f : CulvertSt → CulvertSt) (k : Nat) : (s.modCulvert j f).gate k = s.gate k := rfl
@[simp] theorem State.modCulvert_trig (s : State) (j : Nat) (f : CulvertSt → CulvertSt) (k : Nat) : (s.modCulvert j f).trig k = s.trig k := rfl
@[simp] theorem State.modCulvert_stem (s : State) (j : Nat) (f : CulvertSt → CulvertSt) (k : Nat) : (s.modCulvert j f).stem k = s.stem k := rfl
@[simp] theorem State.modCulvert_rend (s : State) (j : Nat) (f : CulvertSt → CulvertSt) (k : Nat) : (s.modCulvert j f).rend k = s.rend k := rfl
@[simp] theorem State.modCulvert_deliv (s : State) (j : Nat) (f : CulvertSt → CulvertSt) (k : Nat) : (s.modCulvert j f).deliv k = s.deliv k := rfl
@[simp] theorem State.modCulvert_core (s : State) (j : Nat) (f : CulvertSt → CulvertSt) (k : Nat) : (s.modCulvert j f).core k = s.core k := rfl
@[simp] theorem State.modCulvert_job (s : State) (j : Nat) (f : CulvertSt → CulvertSt) (k : Nat) : (s.modCulvert j f).job k = s.job k := rfl
@[simp] theorem State.modCulvert_hostFlow (s : State) (j : Nat) (f : CulvertSt → CulvertSt) (k : Nat) : (s.modCulvert j f).hostFlow k = s.hostFlow k := rfl
@[simp] theorem State.modCulvert_ctx (s : State) (j : Nat) (f : CulvertSt → CulvertSt) (k : Nat) : (s.modCulvert j f).ctx k = s.ctx k := rfl
@[simp] theorem State.modCulvert_layer (s : State) (j : Nat) (f : CulvertSt → CulvertSt) (k : Nat) : (s.modCulvert j f).layer k = s.layer k := rfl
@[simp] theorem State.modCulvert_gauge (s : State) (j : Nat) (f : CulvertSt → CulvertSt) (k : Nat) : (s.modCulvert j f).gauge k = s.gauge k := rfl
@[simp] theorem State.modCulvert_ring (s : State) (j : Nat) (f : CulvertSt → CulvertSt) (k : Nat) : (s.modCulvert j f).ring k = s.ring k := rfl
@[simp] theorem State.modCulvert_domain (s : State) (j : Nat) (f : CulvertSt → CulvertSt) (k : Nat) : (s.modCulvert j f).domain k = s.domain k := rfl
@[simp] theorem State.modCulvert_bus (s : State) (j : Nat) (f : CulvertSt → CulvertSt) (k : Nat) : (s.modCulvert j f).bus k = s.bus k := rfl
@[simp] theorem State.modCulvert_plane (s : State) (j : Nat) (f : CulvertSt → CulvertSt) (k : Nat) : (s.modCulvert j f).plane k = s.plane k := rfl
@[simp] theorem State.modCulvert_ref (s : State) (j : Nat) (f : CulvertSt → CulvertSt) (k : Nat) : (s.modCulvert j f).ref k = s.ref k := rfl
@[simp] theorem State.modCulvert_cap (s : State) (j : Nat) (f : CulvertSt → CulvertSt) (k : Nat) : (s.modCulvert j f).cap k = s.cap k := rfl
@[simp] theorem State.modCulvert_rider (s : State) (j : Nat) (f : CulvertSt → CulvertSt) (k : Nat) : (s.modCulvert j f).rider k = s.rider k := rfl
@[simp] theorem State.modCulvert_head (s : State) (j : Nat) (f : CulvertSt → CulvertSt) (k : Nat) : (s.modCulvert j f).head k = s.head k := rfl
@[simp] theorem State.modCulvert_stack (s : State) (j : Nat) (f : CulvertSt → CulvertSt) (k : Nat) : (s.modCulvert j f).stack k = s.stack k := rfl
@[simp] theorem State.modCulvert_reachMem (s : State) (j : Nat) (f : CulvertSt → CulvertSt) (k : Nat) : (s.modCulvert j f).reachMem k = s.reachMem k := rfl
@[simp] theorem State.modCulvert_stands (s : State) (j : Nat) (f : CulvertSt → CulvertSt) (i u : Nat) : (s.modCulvert j f).stands i u = s.stands i u := rfl
@[simp] theorem State.modCulvert_cnt (s : State) (j : Nat) (f : CulvertSt → CulvertSt) (i u : Nat) : (s.modCulvert j f).cnt i u = s.cnt i u := rfl

@[simp] theorem State.modStack_src (s : State) (j : Nat) (f : StackSt → StackSt) (k : Nat) : (s.modStack j f).src k = s.src k := rfl
@[simp] theorem State.modStack_dst (s : State) (j : Nat) (f : StackSt → StackSt) (k : Nat) : (s.modStack j f).dst k = s.dst k := rfl
@[simp] theorem State.modStack_ain (s : State) (j : Nat) (f : StackSt → StackSt) (k : Nat) : (s.modStack j f).ain k = s.ain k := rfl
@[simp] theorem State.modStack_aout (s : State) (j : Nat) (f : StackSt → StackSt) (k : Nat) : (s.modStack j f).aout k = s.aout k := rfl
@[simp] theorem State.modStack_aport (s : State) (j : Nat) (f : StackSt → StackSt) (k : Nat) : (s.modStack j f).aport k = s.aport k := rfl
@[simp] theorem State.modStack_lane (s : State) (j : Nat) (f : StackSt → StackSt) (k : Nat) : (s.modStack j f).lane k = s.lane k := rfl
@[simp] theorem State.modStack_port (s : State) (j : Nat) (f : StackSt → StackSt) (k : Nat) : (s.modStack j f).port k = s.port k := rfl
@[simp] theorem State.modStack_flow (s : State) (j : Nat) (f : StackSt → StackSt) (k : Nat) : (s.modStack j f).flow k = s.flow k := rfl
@[simp] theorem State.modStack_queue (s : State) (j : Nat) (f : StackSt → StackSt) (k : Nat) : (s.modStack j f).queue k = s.queue k := rfl
@[simp] theorem State.modStack_gate (s : State) (j : Nat) (f : StackSt → StackSt) (k : Nat) : (s.modStack j f).gate k = s.gate k := rfl
@[simp] theorem State.modStack_trig (s : State) (j : Nat) (f : StackSt → StackSt) (k : Nat) : (s.modStack j f).trig k = s.trig k := rfl
@[simp] theorem State.modStack_stem (s : State) (j : Nat) (f : StackSt → StackSt) (k : Nat) : (s.modStack j f).stem k = s.stem k := rfl
@[simp] theorem State.modStack_rend (s : State) (j : Nat) (f : StackSt → StackSt) (k : Nat) : (s.modStack j f).rend k = s.rend k := rfl
@[simp] theorem State.modStack_deliv (s : State) (j : Nat) (f : StackSt → StackSt) (k : Nat) : (s.modStack j f).deliv k = s.deliv k := rfl
@[simp] theorem State.modStack_core (s : State) (j : Nat) (f : StackSt → StackSt) (k : Nat) : (s.modStack j f).core k = s.core k := rfl
@[simp] theorem State.modStack_job (s : State) (j : Nat) (f : StackSt → StackSt) (k : Nat) : (s.modStack j f).job k = s.job k := rfl
@[simp] theorem State.modStack_hostFlow (s : State) (j : Nat) (f : StackSt → StackSt) (k : Nat) : (s.modStack j f).hostFlow k = s.hostFlow k := rfl
@[simp] theorem State.modStack_ctx (s : State) (j : Nat) (f : StackSt → StackSt) (k : Nat) : (s.modStack j f).ctx k = s.ctx k := rfl
@[simp] theorem State.modStack_layer (s : State) (j : Nat) (f : StackSt → StackSt) (k : Nat) : (s.modStack j f).layer k = s.layer k := rfl
@[simp] theorem State.modStack_gauge (s : State) (j : Nat) (f : StackSt → StackSt) (k : Nat) : (s.modStack j f).gauge k = s.gauge k := rfl
@[simp] theorem State.modStack_ring (s : State) (j : Nat) (f : StackSt → StackSt) (k : Nat) : (s.modStack j f).ring k = s.ring k := rfl
@[simp] theorem State.modStack_domain (s : State) (j : Nat) (f : StackSt → StackSt) (k : Nat) : (s.modStack j f).domain k = s.domain k := rfl
@[simp] theorem State.modStack_bus (s : State) (j : Nat) (f : StackSt → StackSt) (k : Nat) : (s.modStack j f).bus k = s.bus k := rfl
@[simp] theorem State.modStack_plane (s : State) (j : Nat) (f : StackSt → StackSt) (k : Nat) : (s.modStack j f).plane k = s.plane k := rfl
@[simp] theorem State.modStack_ref (s : State) (j : Nat) (f : StackSt → StackSt) (k : Nat) : (s.modStack j f).ref k = s.ref k := rfl
@[simp] theorem State.modStack_cap (s : State) (j : Nat) (f : StackSt → StackSt) (k : Nat) : (s.modStack j f).cap k = s.cap k := rfl
@[simp] theorem State.modStack_rider (s : State) (j : Nat) (f : StackSt → StackSt) (k : Nat) : (s.modStack j f).rider k = s.rider k := rfl
@[simp] theorem State.modStack_head (s : State) (j : Nat) (f : StackSt → StackSt) (k : Nat) : (s.modStack j f).head k = s.head k := rfl
@[simp] theorem State.modStack_culvert (s : State) (j : Nat) (f : StackSt → StackSt) (k : Nat) : (s.modStack j f).culvert k = s.culvert k := rfl
@[simp] theorem State.modStack_reachMem (s : State) (j : Nat) (f : StackSt → StackSt) (k : Nat) : (s.modStack j f).reachMem k = s.reachMem k := rfl
@[simp] theorem State.modStack_stands (s : State) (j : Nat) (f : StackSt → StackSt) (i u : Nat) : (s.modStack j f).stands i u = s.stands i u := rfl
@[simp] theorem State.modStack_cnt (s : State) (j : Nat) (f : StackSt → StackSt) (i u : Nat) : (s.modStack j f).cnt i u = s.cnt i u := rfl

@[simp] theorem State.modReachMem_src (s : State) (j : Nat) (f : ReachMem → ReachMem) (k : Nat) : (s.modReachMem j f).src k = s.src k := rfl
@[simp] theorem State.modReachMem_dst (s : State) (j : Nat) (f : ReachMem → ReachMem) (k : Nat) : (s.modReachMem j f).dst k = s.dst k := rfl
@[simp] theorem State.modReachMem_ain (s : State) (j : Nat) (f : ReachMem → ReachMem) (k : Nat) : (s.modReachMem j f).ain k = s.ain k := rfl
@[simp] theorem State.modReachMem_aout (s : State) (j : Nat) (f : ReachMem → ReachMem) (k : Nat) : (s.modReachMem j f).aout k = s.aout k := rfl
@[simp] theorem State.modReachMem_aport (s : State) (j : Nat) (f : ReachMem → ReachMem) (k : Nat) : (s.modReachMem j f).aport k = s.aport k := rfl
@[simp] theorem State.modReachMem_lane (s : State) (j : Nat) (f : ReachMem → ReachMem) (k : Nat) : (s.modReachMem j f).lane k = s.lane k := rfl
@[simp] theorem State.modReachMem_port (s : State) (j : Nat) (f : ReachMem → ReachMem) (k : Nat) : (s.modReachMem j f).port k = s.port k := rfl
@[simp] theorem State.modReachMem_flow (s : State) (j : Nat) (f : ReachMem → ReachMem) (k : Nat) : (s.modReachMem j f).flow k = s.flow k := rfl
@[simp] theorem State.modReachMem_queue (s : State) (j : Nat) (f : ReachMem → ReachMem) (k : Nat) : (s.modReachMem j f).queue k = s.queue k := rfl
@[simp] theorem State.modReachMem_gate (s : State) (j : Nat) (f : ReachMem → ReachMem) (k : Nat) : (s.modReachMem j f).gate k = s.gate k := rfl
@[simp] theorem State.modReachMem_trig (s : State) (j : Nat) (f : ReachMem → ReachMem) (k : Nat) : (s.modReachMem j f).trig k = s.trig k := rfl
@[simp] theorem State.modReachMem_stem (s : State) (j : Nat) (f : ReachMem → ReachMem) (k : Nat) : (s.modReachMem j f).stem k = s.stem k := rfl
@[simp] theorem State.modReachMem_rend (s : State) (j : Nat) (f : ReachMem → ReachMem) (k : Nat) : (s.modReachMem j f).rend k = s.rend k := rfl
@[simp] theorem State.modReachMem_deliv (s : State) (j : Nat) (f : ReachMem → ReachMem) (k : Nat) : (s.modReachMem j f).deliv k = s.deliv k := rfl
@[simp] theorem State.modReachMem_core (s : State) (j : Nat) (f : ReachMem → ReachMem) (k : Nat) : (s.modReachMem j f).core k = s.core k := rfl
@[simp] theorem State.modReachMem_job (s : State) (j : Nat) (f : ReachMem → ReachMem) (k : Nat) : (s.modReachMem j f).job k = s.job k := rfl
@[simp] theorem State.modReachMem_hostFlow (s : State) (j : Nat) (f : ReachMem → ReachMem) (k : Nat) : (s.modReachMem j f).hostFlow k = s.hostFlow k := rfl
@[simp] theorem State.modReachMem_ctx (s : State) (j : Nat) (f : ReachMem → ReachMem) (k : Nat) : (s.modReachMem j f).ctx k = s.ctx k := rfl
@[simp] theorem State.modReachMem_layer (s : State) (j : Nat) (f : ReachMem → ReachMem) (k : Nat) : (s.modReachMem j f).layer k = s.layer k := rfl
@[simp] theorem State.modReachMem_gauge (s : State) (j : Nat) (f : ReachMem → ReachMem) (k : Nat) : (s.modReachMem j f).gauge k = s.gauge k := rfl
@[simp] theorem State.modReachMem_ring (s : State) (j : Nat) (f : ReachMem → ReachMem) (k : Nat) : (s.modReachMem j f).ring k = s.ring k := rfl
@[simp] theorem State.modReachMem_domain (s : State) (j : Nat) (f : ReachMem → ReachMem) (k : Nat) : (s.modReachMem j f).domain k = s.domain k := rfl
@[simp] theorem State.modReachMem_bus (s : State) (j : Nat) (f : ReachMem → ReachMem) (k : Nat) : (s.modReachMem j f).bus k = s.bus k := rfl
@[simp] theorem State.modReachMem_plane (s : State) (j : Nat) (f : ReachMem → ReachMem) (k : Nat) : (s.modReachMem j f).plane k = s.plane k := rfl
@[simp] theorem State.modReachMem_ref (s : State) (j : Nat) (f : ReachMem → ReachMem) (k : Nat) : (s.modReachMem j f).ref k = s.ref k := rfl
@[simp] theorem State.modReachMem_cap (s : State) (j : Nat) (f : ReachMem → ReachMem) (k : Nat) : (s.modReachMem j f).cap k = s.cap k := rfl
@[simp] theorem State.modReachMem_rider (s : State) (j : Nat) (f : ReachMem → ReachMem) (k : Nat) : (s.modReachMem j f).rider k = s.rider k := rfl
@[simp] theorem State.modReachMem_head (s : State) (j : Nat) (f : ReachMem → ReachMem) (k : Nat) : (s.modReachMem j f).head k = s.head k := rfl
@[simp] theorem State.modReachMem_culvert (s : State) (j : Nat) (f : ReachMem → ReachMem) (k : Nat) : (s.modReachMem j f).culvert k = s.culvert k := rfl
@[simp] theorem State.modReachMem_stack (s : State) (j : Nat) (f : ReachMem → ReachMem) (k : Nat) : (s.modReachMem j f).stack k = s.stack k := rfl
@[simp] theorem State.modReachMem_stands (s : State) (j : Nat) (f : ReachMem → ReachMem) (i u : Nat) : (s.modReachMem j f).stands i u = s.stands i u := rfl
@[simp] theorem State.modReachMem_cnt (s : State) (j : Nat) (f : ReachMem → ReachMem) (i u : Nat) : (s.modReachMem j f).cnt i u = s.cnt i u := rfl

@[simp] theorem State.event_stands (s : State) (e : Ev) (i u : Nat) : (s.event e).stands i u = s.stands i u := by
  simp [State.stands, State.alarm]
@[simp] theorem State.count_stands (s : State) (j v n i u : Nat) : (s.count j v n).stands i u = s.stands i u := rfl
@[simp] theorem State.interrupt_stands (s : State) (n i u : Nat) : (s.interrupt n).stands i u = s.stands i u := by
  simp [State.stands, State.alarm]
@[simp] theorem State.interrupt_cnt (s : State) (n i u : Nat) : (s.interrupt n).cnt i u = s.cnt i u := by
  simp [State.cnt]
@[simp] theorem State.emit_stands (s : State) (x : Out) (i u : Nat) : (s.emit x).stands i u = s.stands i u := rfl
@[simp] theorem State.emit_cnt (s : State) (x : Out) (i u : Nat) : (s.emit x).cnt i u = s.cnt i u := rfl
@[simp] theorem State.advanceTo_stands (s : State) (n i u : Nat) : (s.advanceTo n).stands i u = s.stands i u := by
  simp only [State.stands, State.alarm, State.advanceTo]
@[simp] theorem State.advanceTo_cnt (s : State) (n i u : Nat) : (s.advanceTo n).cnt i u = s.cnt i u := by
  simp only [State.cnt, State.advanceTo]
@[simp] theorem State.emit_out (s : State) (x : Out) : (s.emit x).out = x :: s.out := rfl
@[simp] theorem State.summaryChanged_stands (o s : State) (i u : Nat) : (State.summaryChanged o s).stands i u = s.stands i u := by
  simp [State.stands, State.alarm]
@[simp] theorem State.summaryChanged_cnt (o s : State) (i u : Nat) : (State.summaryChanged o s).cnt i u = s.cnt i u := by
  simp [State.cnt]
/-- An alarm that is raised stands (15 R650). -/
@[simp] theorem State.raise_stands_self (s : State) (i u : Nat) : (s.raise i u).stands i u = true := by
  unfold State.raise
  split
  · assumption
  · rw [State.summaryChanged_stands]; simp [State.stands, State.alarm, State.modAlarm, tget_tset_self]
/-- Raising one alarm leaves the others. -/
theorem State.raise_stands_other (s : State) (i u j v : Nat) (h : unitKey j v ≠ unitKey i u) : (s.raise i u).stands j v = s.stands j v := by
  unfold State.raise
  split
  · rfl
  · rw [State.summaryChanged_stands]; simp [State.stands, State.alarm, State.modAlarm, tget_tset_other _ _ _ _ _ h]
/-- An alarm that is cleared does not stand (15 R650). -/
@[simp] theorem State.clearAlarm_stands_self (s : State) (i u : Nat) : (s.clearAlarm i u).stands i u = false := by
  unfold State.clearAlarm
  split
  · rw [State.summaryChanged_stands]; simp [State.stands, State.alarm, State.modAlarm, tget_tset_self]
  · simp_all
/-- Clearing one alarm leaves the others. -/
theorem State.clearAlarm_stands_other (s : State) (i u j v : Nat) (h : unitKey j v ≠ unitKey i u) :
    (s.clearAlarm i u).stands j v = s.stands j v := by
  unfold State.clearAlarm
  split
  · rw [State.summaryChanged_stands]; simp [State.stands, State.alarm, State.modAlarm, tget_tset_other _ _ _ _ _ h]
  · rfl
@[simp] theorem State.raise_cnt (s : State) (i u j v : Nat) : (s.raise i u).cnt j v = s.cnt j v := by
  unfold State.raise
  split <;> simp [State.cnt, State.modAlarm]
@[simp] theorem State.clearAlarm_cnt (s : State) (i u j v : Nat) : (s.clearAlarm i u).cnt j v = s.cnt j v := by
  unfold State.clearAlarm
  split <;> simp [State.cnt, State.modAlarm]
/-- A counter that is increased saturates at its maximum (00 R13). -/
@[simp] theorem State.count_cnt_self (s : State) (i u n : Nat) : (s.count i u n).cnt i u = min counterMax (s.cnt i u + n) := by
  simp [State.count, State.cnt, tget_tset_self]
/-- Increasing one counter leaves the others. -/
theorem State.count_cnt_other (s : State) (i u n j v : Nat) (h : unitKey j v ≠ unitKey i u) : (s.count i u n).cnt j v = s.cnt j v := by
  simp [State.count, State.cnt, tget_tset_other _ _ _ _ _ h]
/-- An event changes no counter but that of the events lost. -/
theorem State.event_cnt (s : State) (e : Ev) (j v : Nat) (h : unitKey j v ≠ unitKey cntEventsLost 0) : (s.event e).cnt j v = s.cnt j v := by
  unfold State.event
  split
  · split
    · simp [State.writeEvent, State.cnt]
    · exact State.count_cnt_other s _ _ _ _ _ h
  · rfl

end Sys2Proof.Machine
end

