-- ==== Sys2Proof/Laws/Serve.lean ====
section
/-! SUPPORT. Requests: what serving one does, said once over its answer and its effect. -/
namespace Sys2Proof.Machine

@[simp] theorem Request.callIn_r (r : Request) (s : State) : (r.callIn s).r = r := rfl
@[simp] theorem Request.callIn_block (r : Request) (s : State) : (r.callIn s).block = r.block := rfl
@[simp] theorem Request.callIn_owner (r : Request) (s : State) : (r.callIn s).owner = carrierOwner r := rfl
@[simp] theorem Request.callIn_ring (r : Request) (s : State) : (r.callIn s).ring = r.ringNo := rfl

/-- A request that arrives is answered. -/
theorem serve_arrives {q : ReqSpec} {r : Request} {s : State} (h : r.arrives s) :
    serve q r s = respond q (r.callIn s) (s.taking r) := by
  cases hc : r.carrier with
  | ring n =>
    have := h n hc
    simp [serve, State.taking, Request.callIn, Request.ringNo, hc, this]
  | service => simp [serve, State.taking, Request.callIn, Request.ringNo, hc]
  | inband f => simp [serve, State.taking, Request.callIn, Request.ringNo, hc]

/-- A ring request that cannot be taken changes nothing. -/
theorem serve_waits {q : ReqSpec} {r : Request} {s : State} {n : Nat} (h : r.carrier = .ring n) (k : s.takes n = false) :
    serve q r s = s := by
  simp [serve, h, k]

/-- An accepted request has its effect, and its answer goes out. -/
theorem serve_accepted {q : ReqSpec} {r : Request} {s : State} (h : r.accepted q s)
    (k : (listed q r (q.body (r.callIn s) (s.taking r)).1).payload.length ≤ replyRoom r) :
    serve q r s = (q.body (r.callIn s) (s.taking r)).2.reply q.verb r (listed q r (q.body (r.callIn s) (s.taking r)).1) := by
  rw [serve_arrives h.1]
  unfold respond
  rw [h.2.1]
  simp [h.2.2, Nat.not_lt.mpr k]

/-- What passes steps 1 to 7 of R100 has a verb and a noun that its command names. -/
theorem admitted_odd {q : ReqSpec} {c : Call} {s : State} (h : admitted q c s = none) : c.r.odd = none := by
  unfold admitted at h
  split at h
  · rename_i ho
    rw [h] at ho
    exact absurd ho (by simp)
  · rename_i ho
    unfold oddFail at ho
    split at ho
    · assumption
    · exact absurd rfl ho
    · exact absurd rfl ho

/-- An accepted request of a verb that is not staged, whose body gives an answer and a state. -/
theorem serve_gives {q : ReqSpec} {r : Request} {s t : State} {a : Answer} (h : r.accepted q s) (hq : q.staged = false)
    (hb : q.body (r.callIn s) (s.taking r) = (a, t)) (k : a.payload.length ≤ replyRoom r) :
    serve q r s = t.reply q.verb r a := by
  have ho : r.odd = none := admitted_odd h.2.1
  have e : listed q r (q.body (r.callIn s) (s.taking r)).1 = a := by simp [listed, listsLandings, ho, hq, hb]
  rw [serve_accepted h (by rw [e]; exact k), e, hb]

/-- A request that fails steps 1 to 7 of R100 has only its reply. -/
theorem serve_refused {q : ReqSpec} {r : Request} {s : State} {a : Answer} (h : r.arrives s)
    (k : admitted q (r.callIn s) (s.taking r) = some a) :
    serve q r s = ((s.taking r).noteFetch r a).reply (verbOf q r) r (sized r (listed q r a)) := by
  rw [serve_arrives h]
  unfold respond
  rw [k]
  rfl

/-- A request flagged VALIDATE_ONLY has only its reply. -/
theorem serve_validates {q : ReqSpec} {r : Request} {s : State} (h : r.arrives s) (hv : reqValidate r = true) :
    serve q r s = (s.taking r).reply q.verb r (verdict q (r.callIn s) (s.taking r)) ∨
      ∃ a, admitted q (r.callIn s) (s.taking r) = some a ∧
        serve q r s = ((s.taking r).noteFetch r a).reply (verbOf q r) r (sized r (listed q r a)) := by
  cases ha : admitted q (r.callIn s) (s.taking r) with
  | some a => exact .inr ⟨a, rfl, serve_refused h ha⟩
  | none =>
    refine .inl ?_
    rw [serve_arrives h]
    unfold respond verdict sized
    rw [ha]
    by_cases hl : (listed q r (q.body (r.callIn s) (s.taking r)).1).payload.length > replyRoom r <;> simp [hl, hv]

/-! ### What reports and replies leave alone -/

@[simp] theorem State.emit_silent (s : State) (o : Out) : (s.emit o).silent = s.silent := rfl
@[simp] theorem State.modRing_silent (s : State) (n : Nat) (f : Ring → Ring) : (s.modRing n f).silent = s.silent := rfl
@[simp] theorem State.takeSlot_silent (s : State) (n : Nat) : (s.takeSlot n).silent = s.silent := rfl
@[simp] theorem State.count_silent (s : State) (id unit n : Nat) : (s.count id unit n).silent = s.silent := rfl
@[simp] theorem State.stormDrop_silent (s : State) (b : Bool) : (s.stormDrop b).silent = s.silent := rfl

@[simp] theorem State.hostWrite_silent (s : State) (a : Nat) (b : Bytes) : (s.hostWrite a b).silent = s.silent := by
  unfold State.hostWrite; split <;> rfl

@[simp] theorem State.message_silent (s : State) (v : Nat) : (s.message v).silent = s.silent := by
  unfold State.message; dsimp only; split
  · rfl
  · split <;> rfl

@[simp] theorem State.interrupt_silent (s : State) (n : Nat) : (s.interrupt n).silent = s.silent := by
  unfold State.interrupt; dsimp only; split
  · exact State.message_silent _ _
  · rfl

@[simp] theorem State.writeEvent_silent (s : State) (e : Ev) : (s.writeEvent e).silent = s.silent := by
  simp [State.writeEvent]

@[simp] theorem State.event_silent (s : State) (e : Ev) : (s.event e).silent = s.silent := by
  have key : ∀ u : State, State.silent { u with storm := { u.storm with written := u.storm.written + 1 }, events := { u.events with seq := u.events.seq + 1 } } = u.silent :=
    fun _ => rfl
  unfold State.event
  dsimp only
  split
  · rw [key]
    split <;> simp
  · rfl

@[simp] theorem State.ringError_silent (s : State) (n bit : Nat) : (s.ringError n bit).silent = s.silent := by
  simp [State.ringError]

@[simp] theorem State.noteFetch_silent (s : State) (r : Request) (a : Answer) : (s.noteFetch r a).silent = s.silent := by
  unfold State.noteFetch
  repeat' split
  all_goals simp [State.logFault]

@[simp] theorem State.replyRing_silent (s : State) (n verb : Nat) (r : Request) (a : Answer) : (s.replyRing n verb r a).silent = s.silent := by
  unfold State.replyRing
  dsimp only
  split <;> simp

@[simp] theorem State.reply_silent (s : State) (verb : Nat) (r : Request) (a : Answer) : (s.reply verb r a).silent = s.silent := by
  unfold State.reply
  split
  · simp
  · rfl
  · simp

@[simp] theorem State.taking_silent (s : State) (r : Request) : (s.taking r).silent = s.silent := by
  unfold State.taking
  split <;> rfl

/-- A request flagged VALIDATE_ONLY leaves everything but reports and its reply. -/
theorem serve_validates_silent {q : ReqSpec} {r : Request} {s : State} (hv : reqValidate r = true) : (serve q r s).silent = s.silent := by
  by_cases h : r.arrives s
  · rcases serve_validates (q := q) h hv with e | ⟨a, -, e⟩ <;> simp [e]
  · simp only [Request.arrives, Classical.not_forall] at h
    obtain ⟨n, hn, hk⟩ := h
    rw [serve_waits hn (by simpa using hk)]

/-- A request leaves what the effect of its verb leaves. -/
theorem serve_silent {q : ReqSpec} {r : Request} {s : State} (h : ∀ c u, (q.body c u).2.silent = u.silent) : (serve q r s).silent = s.silent := by
  by_cases k : r.arrives s
  · rw [serve_arrives k]
    unfold respond
    dsimp only
    repeat' split
    all_goals simp [h]
  · simp only [Request.arrives, Classical.not_forall] at k
    obtain ⟨n, hn, hk⟩ := k
    rw [serve_waits hn (by simpa using hk)]

end Sys2Proof.Machine
end

