-- ==== Sys2Proof/WellFormed.lean ====
section
/-! DEFINITION. The commands that name units and fields the block has: what a sender can mean. A command that is not
well-formed names no unit of the block (its meaning then leaves the state alone, or answers the request that carries it). -/
namespace Sys2Proof

/-- A request whose header fields have the widths of 02 R88 and whose carrier exists. -/
def Request.wf (r : Request) : Bool :=
  (match r.carrier with | .ring n => decide (n < 4) | _ => true) && decide (r.seq < 4294967296) && decide (r.index < 4294967296) &&
    decide (r.domain < 256) && decide (r.owner < 256) && decide (r.target < 18446744073709551616) && decide (r.cookie < 18446744073709551616) &&
    decide (r.payload.length ≤ 4096)

/-- How many units of a kind there are (00). -/
def unitTop : UnitKind → Nat
  | .flume | .rillIn | .rillOut | .converter => 128
  | .clause | .gauge => 64
  | .decode => 16
  | .culvert => 32
  | .src | .dst => 1152
  | .head => 2
  | .control => 4

/-- Every operand of the command is in the range of the unit it names. -/
def Instr.wf : Instr → Bool
  | .dbReqWrite ring _ => decide (ring < 4)
  | .dbRplWrite ring _ => decide (ring < 4)
  | .dbEvtWrite _ => true
  | .ringEnable ring => decide (ring < 5)
  | .ringDisable ring => decide (ring < 5)
  | .ringDrainComplete ring => decide (ring < 5)
  | .ringFetchError ring _ r => decide (ring < 5) && r.wf
  | .ringWriteError ring => decide (ring < 5)
  | .intEnableWrite _ => true
  | .intHoldoffExpiry vector => decide (vector < 64)
  | .gateBadAccess _ _ => true
  | .domainFrameLoRead d => decide (d < 9)
  | .timeNsRead => true
  | .incrNsRead => true
  | .capNsRead pin => decide (pin < 4)
  | .registerWrite _ _ => true
  | .pcieFunctionReset => true
  | .pciePerstAssert => true
  | .queryDevice r => r.wf
  | .resetDevice r => r.wf
  | .deviceRestart => true
  | .commit r => r.wf
  | .cancelStageSet r => r.wf
  | .cancelCommitted r => r.wf
  | .setMode r => r.wf
  | .queryMode r => r.wf
  | .setDomain r => r.wf
  | .queryDomain r => r.wf
  | .queryReach r => r.wf
  | .queryReachBandwidth r => r.wf
  | .subscribe r => r.wf
  | .unsubscribe r => r.wf
  | .querySubscriptions r => r.wf
  | .queryEvent r => r.wf
  | .take r => r.wf
  | .salvo r => r.wf
  | .stageDstRoute r => r.wf
  | .stageDstFormat r => r.wf
  | .stageDstDomain r => r.wf
  | .setSrcFormat r => r.wf
  | .setSrcGenerator r => r.wf
  | .queryDst r => r.wf
  | .querySrc r => r.wf
  | .lockDst r => r.wf
  | .unlockDst r => r.wf
  | .stageSrcLossAction r => r.wf
  | .stageSrcOverride r => r.wf
  | .setDstProbe r => r.wf
  | .queryDstProbe r => r.wf
  | .querySrcAlignment r => r.wf
  | .setSrcPlayoutPost r => r.wf
  | .setDstCaptureHold r => r.wf
  | .queryDstCapture r => r.wf
  | .takeAudioOut r => r.wf
  | .stageAudioOutRoute r => r.wf
  | .stageAudioOutFollow r => r.wf
  | .stageAudioOutDomain r => r.wf
  | .stageAudioOutDelay r => r.wf
  | .stageAacProgramme r => r.wf
  | .lockAudioOut r => r.wf
  | .unlockAudioOut r => r.wf
  | .setAudioPort r => r.wf
  | .stageSlotMask r => r.wf
  | .queryAudioIn r => r.wf
  | .queryAudioOut r => r.wf
  | .setLaneTransmit r => r.wf
  | .setLaneReceive r => r.wf
  | .setLaneAsymmetry r => r.wf
  | .setLaneTestTools r => r.wf
  | .setLaneEyeScan r => r.wf
  | .readLaneEyeScan r => r.wf
  | .setLaneI2cBind r => r.wf
  | .writeLaneI2c r => r.wf
  | .setLaneRateHooks r => r.wf
  | .queryLane r => r.wf
  | .resetLane r => r.wf
  | .setEthPort r => r.wf
  | .setEthPortPtp r => r.wf
  | .queryEthPort r => r.wf
  | .resetEthPort r => r.wf
  | .stageFlow r => r.wf
  | .queryFlow r => r.wf
  | .stageQueueDscpMap r => r.wf
  | .stageQueue r => r.wf
  | .readQueueSamples r => r.wf
  | .queryQueue r => r.wf
  | .stageGateList r => r.wf
  | .queryGateList r => r.wf
  | .stagePlane r => r.wf
  | .setPlaneDiagnosis r => r.wf
  | .queryPlane r => r.wf
  | .setRefInput r => r.wf
  | .queryRefInput r => r.wf
  | .setTimebase r => r.wf
  | .setTimebasePhase r => r.wf
  | .setTimebaseAbsolute r => r.wf
  | .queryTimebase r => r.wf
  | .setTrigger r => r.wf
  | .queryTrigger r => r.wf
  | .stageStem r => r.wf
  | .queryStem r => r.wf
  | .queryStemCapacity r => r.wf
  | .stageRendition r => r.wf
  | .stageRenditionRate r => r.wf
  | .queryRendition r => r.wf
  | .queryRenditionRate r => r.wf
  | .stageDelivery r => r.wf
  | .queryDelivery r => r.wf
  | .submitJob r => r.wf
  | .cancelJob r => r.wf
  | .queryJob r => r.wf
  | .queryJobReaches r => r.wf
  | .setJobTrace r => r.wf
  | .readJobTrace r => r.wf
  | .stageDecodeCtx r => r.wf
  | .queryDecodeCtx r => r.wf
  | .resetDecodeCtx r => r.wf
  | .stageHead r => r.wf
  | .stageHeadDomain r => r.wf
  | .setHeadFreeze r => r.wf
  | .setHeadStickyClear r => r.wf
  | .queryHead r => r.wf
  | .stageVideoLayer r => r.wf
  | .stageGraphicLayer r => r.wf
  | .stageLayerMatrix r => r.wf
  | .stageMeterFirst r => r.wf
  | .writeLayerSurface r => r.wf
  | .queryLayer r => r.wf
  | .setGauge r => r.wf
  | .writeGaugeData r => r.wf
  | .setGaugeFeed r => r.wf
  | .queryGauge r => r.wf
  | .setGaugeValue r => r.wf
  | .setGaugeFinalise r => r.wf
  | .resetGauge r => r.wf
  | .ackThermal r => r.wf
  | .readThermalRecords r => r.wf
  | .setThermal r => r.wf
  | .queryThermal r => r.wf
  | .readCounter r => r.wf
  | .readCounterCatalogue r => r.wf
  | .writeCounterSticky r => r.wf
  | .openImage r => r.wf
  | .putImage r => r.wf
  | .closeImage r => r.wf
  | .activateImage r => r.wf
  | .setImage r => r.wf
  | .queryImage r => r.wf
  | .lockImage r => r.wf
  | .unlockImage r => r.wf
  | .readCalset r => r.wf
  | .writeCalset r => r.wf
  | .setCalsetRecalibrate r => r.wf
  | .recalibrationComplete _ => true
  | .svcSend _ => true
  | .svcStatus => true
  | .svcFetch => true
  | .svcWord _ => true
  | .inbandRequest _ _ => true
  | .aonResetAssert => true
  | .aonResetRelease => true
  | .sysResetAssert => true
  | .sysResetRelease bootSel => decide (bootSel < 8)
  | .pwrOkRise => true
  | .pwrOkFall => true
  | .pwrOkTimeout => true
  | .bootStart => true
  | .bootImageVerified => true
  | .bootToRecovery => true
  | .bootToFallow => true
  | .trainingComplete found => found.all (fun f => decide (f.reach < 4))
  | .firstBootPass => true
  | .firstBootFail _ => true
  | .oldSlotErased => true
  | .modeTransitionComplete => true
  | .unitFence kind index _ => decide (index < unitTop kind)
  | .domain0Boundary => true
  | .shadowRebuild d _ => decide (1 ≤ d) && decide (d < 9)
  | .swapDecision d => decide (1 ≤ d) && decide (d < 9)
  | .videoDomainBoundary d => decide (1 ≤ d) && decide (d < 9)
  | .destSwitchingLine dst => decide (dst < 1152)
  | .loopUpdate _ _ => true
  | .refMonitorReading k _ => decide (k < 8)
  | .refActivityLost k => decide (k < 8)
  | .refQualify k => decide (k < 8)
  | .acquireStagePass => true
  | .lockedBandwidthNarrow => true
  | .holdoverExpiry => true
  | .historyRecord _ => true
  | .ptpOffsetMeasurement _ _ _ => true
  | .ptpBridgeTimeout => true
  | .triggerFire k => decide (16 ≤ k) && decide (k < 64)
  | .ppsOutPulse => true
  | .tcapEdge pin _ => decide (pin < 4)
  | .sourceFrameMeasure src _ _ _ => decide (src < 1152)
  | .sourceFrameComplete src _ => decide (src < 1152)
  | .sourceSignalLoss src _ _ => decide (src < 1152)
  | .flowSourceTimeout src _ => decide (src < 1152)
  | .destFrameStart dst => decide (dst < 1152)
  | .probeFrame dst => decide (dst < 1152)
  | .generatorFrame src => decide (src < 1152)
  | .recirculationReturn k => decide (k < 64)
  | .dramReadError _ => true
  | .converterMeasure ain _ _ _ => decide (ain < 16384)
  | .audioActivityLoss ain _ => decide (ain < 16384)
  | .audioSlip ain => decide (ain < 16384)
  | .audioBoundary aout _ => decide (aout < 16384)
  | .zeroCrossing aout _ _ => decide (aout < 16384)
  | .zeroCrossingTimeout aout _ _ => decide (aout < 16384)
  | .nonaudioOnset pair _ => decide (pair < 8192)
  | .nonaudioEnd pair => decide (pair < 8192)
  | .aacAccessUnit aout _ _ => decide (aout < 16384)
  | .portClockError p _ => decide (p < 64)
  | .portClockRecover p => decide (p < 64)
  | .laneSignalDetect lane => decide (lane < 384)
  | .adaptStepEnd lane _ => decide (lane < 384)
  | .qualifyTimeout lane => decide (lane < 384)
  | .fomUpdate lane _ => decide (lane < 384)
  | .fomAlarmClear lane => decide (lane < 384)
  | .laneInputLoss lane => decide (lane < 384)
  | .eyeScanComplete lane _ => decide (lane < 384)
  | .prbsCheckerLock lane => decide (lane < 384)
  | .prbsCheckerRelock lane _ _ _ => decide (lane < 384)
  | .i2cTransactionEnd bus _ => decide (bus < 2)
  | .i2cStretchTimeout bus _ => decide (bus < 2)
  | .rateHookStart lane _ => decide (lane < 384)
  | .linkUp port => decide (port < 64)
  | .linkDown port _ => decide (port < 64)
  | .ethFrameReceive port _ => decide (port < 64)
  | .ptpMessageReceive port _ => decide (port < 64)
  | .mergeRelease flow => decide (flow < 16384)
  | .legLoss flow leg => decide (flow < 16384) && decide (leg < 2)
  | .legReturn flow leg => decide (flow < 16384) && decide (leg < 2)
  | .membershipReportRepeat port => decide (port < 64)
  | .ristSenderReport delivery => decide (delivery < 1024)
  | .egressEnqueue port _ => decide (port < 64)
  | .egressSelect port => decide (port < 64)
  | .queueDelayDrop queue => decide (queue < 768)
  | .gateEntryChange port => decide (port < 64)
  | .gateListTakeover port => decide (port < 64)
  | .queueSample port => decide (port < 64)
  | .pacerRelease flow _ => decide (flow < 16384)
  | .audioAncRelease flow _ _ _ => decide (flow < 16384)
  | .leaseRenew plane => decide (plane < 2)
  | .leaseExpiry => true
  | .rightRequest plane => decide (plane < 2)
  | .planeCheckEval plane _ => decide (plane < 2)
  | .handbackHoldoffExpiry => true
  | .handoverHoldEnd src => decide (src < 1152)
  | .stemAnalysisRelease stem => decide (stem < 64)
  | .analysisDeadline stem => decide (stem < 64)
  | .partitionCutTime rendition partition => decide (rendition < 256) && decide (partition < 16)
  | .deliveryInstant stem _ => decide (stem < 64)
  | .riderRequest reach consumer _ => decide (reach < 4) && decide (consumer < 3)
  | .riderItemComplete reach consumer _ _ _ => decide (reach < 4) && decide (consumer < 3)
  | .riderPreempt reach => decide (reach < 4)
  | .coreWake reach consumer _ => decide (reach < 4) && decide (consumer < 3)
  | .coreGate reach consumer _ => decide (reach < 4) && decide (consumer < 3)
  | .riderRetry reach => decide (reach < 4)
  | .bfOutputRetry job _ => decide (job < 4096)
  | .floorAlarmClear rendition => decide (rendition < 256)
  | .tsTableInsert delivery => decide (delivery < 1024)
  | .tsPacketSend delivery => decide (delivery < 1024)
  | .decodePictureComplete ctx _ => decide (ctx < 256)
  | .decodePresent ctx => decide (ctx < 256)
  | .decodeOutputLoss ctx => decide (ctx < 256)
  | .headFrameStart head _ => decide (head < 2)
  | .headFrameComplete head => decide (head < 2)
  | .readbackArm _ => true
  | .readbackCapture _ => true
  | .culvertArm c => decide (c < 8)
  | .culvertAbort c => decide (c < 8)
  | .culvertErrorClear c => decide (c < 8)
  | .culvertHalf c => decide (c < 8)
  | .culvertComplete c _ => decide (c < 8)
  | .culvertError c _ _ => decide (c < 8)
  | .culvertAbortComplete c _ => decide (c < 8)
  | .remapSet => true
  | .busDefaultAccess _ => true
  | .scrubPassComplete stack => decide (stack < 8)
  | .refreshDue stack _ _ => decide (stack < 8)
  | .panicEnter reach port _ _ => decide (reach < 4) && decide (port < 13)
  | .panicLeave reach port _ _ => decide (reach < 4) && decide (port < 13)
  | .rtStarved reach _ => decide (reach < 4)
  | .playoutPostTime src => decide (src < 1152)
  | .playoutSlotFree src slot => decide (src < 1152) && decide (slot < 8)
  | .captureFrameWritten dst => decide (dst < 1152)
  | .gaugeFeedComplete unit => decide (unit < 64)
  | .holdupOkFall => true
  | .tallyChange n _ => decide (n < 8)
  | .sensorSample readings => decide (readings.length = 24)
  | .thresholdRelease level => decide (level < 3)
  | .graceExpiry => true
  | .enforcementReevaluate => true
  | .clauseClockStep reach => decide (reach < 4)
  | .powerSample rails => decide (rails.length = 8)
  | .stormEnd => true
  | .pieceWriteComplete _ => true
  | .pieceStale _ => true
  | .leaseIdleExpiry => true
  | .activationCommit _ => true
  | .watchdogExpiry => true
  | .holdupOkRise => true
  | .delayReqSend port => decide (port < 64)
  | .announceTimeout port _ => decide (port < 64)
  | .ristReceiverReport flow => decide (flow < 16384)
  | .decoderInputRelease flow => decide (flow < 16384)
  | .jtagInstruction _ => true

end Sys2Proof
end

