-- ==== Sys2Proof/Tests/Slice0.lean ====
section
/-! SUPPORT. The model's own tests: what the well-formedness checks refuse, figures that the spec works out, and for every statement
with hypotheses, clause by clause, a state and operands that meet them. -/
namespace Sys2Proof.Tests
open Sys2Proof Sys2Proof.Machine
set_option Elab.async false

/-! ### Small states and requests -/

/-- A state in mode Full: rings enabled with one request waiting on each but ring 0, every domain at 50 Hz, the frame store active. -/
def up : State := { State.reset with
  mode := { ModeSt.reset with current := .full, base := .full, target := .full }
  pins := { Pins.reset with pwrOk := true, mainPwrEn := true, dramPwrEn := true, sysResetN := true }
  rings := { Ring.reset with enable := true, active := true } ::
    List.replicate 4 { Ring.reset with enable := true, active := true, producer := 1, bells := [(1, 0)] }
  domains := { DomainSt.reset with nextFrame := 1, nextNs := 10000000 } ::
    List.replicate 8 { DomainSt.reset with rate := 3, nextFrame := 1, nextNs := 20000000 }
  dramStacks := List.replicate 8 { StackSt.reset with power := .active } }

/-- The state `up` with a request waiting on ring 0 as well. -/
def urgent : State := up.modRing 0 (fun x => { x with producer := 1, bells := [(1, 0)] })

/-- 1920 × 1080 progressive in 4:2:2. -/
def hd : Fmt := ⟨0x21, 0, 0x11, 1⟩

/-- A state in which destination 1091 has a format. -/
def shaped (s : State) : State := s.modDst 1091 (fun x => { x with fmt := hd })

/-- A request on a ring with owner tag 1 whose parameter block and reply go through host buffers. -/
def rq (ring index : Nat) (b : Bytes) : Request where
  carrier := .ring ring
  seq := 1
  flags := 1
  index := index
  domain := 0
  owner := 1
  target := 0
  cookie := 0
  payload := layout 32 [(0, le 8 4096), (8, le 4 b.length), (16, le 8 8192), (24, le 4 1048576)]
  input := some b

/-- What `Request.accepted` asks, as a Bool. -/
def acceptsB (r : Request) (q : ReqSpec) (s : State) : Bool :=
  (match r.carrier with | .ring n => s.takes n | _ => true) && (admitted q (r.callIn s) (s.taking r)).isNone && !reqValidate r

theorem accepts {r : Request} {q : ReqSpec} {s : State} (h : acceptsB r q s = true) : r.accepted q s := by
  simp only [acceptsB, Bool.and_eq_true, Bool.not_eq_true', Option.isNone_iff_eq_none] at h
  refine ⟨fun n e => ?_, h.1.2, h.2⟩
  have := h.1.1
  rw [e] at this
  exact this

/-- What `State.stageable` asks, as a Bool. -/
def stageableB (s : State) (c : Call) (xs : List Setting) : Bool :=
  c.owner != 0 && (s.judgeStage c xs).failure.isNone && decide ((s.stageSet c.owner xs).length ≤ 4096) &&
    decide (s.openTotal + (s.stageSet c.owner xs).length ≤ 65536 + (s.openSet c.owner).length)

theorem stageables {s : State} {c : Call} {xs : List Setting} (h : stageableB s c xs = true) : s.stageable c xs := by
  simp only [stageableB, Bool.and_eq_true, Option.isNone_iff_eq_none, decide_eq_true_eq, bne_iff_ne] at h
  exact ⟨h.1.1.1, h.1.1.2, h.1.2, h.2⟩

/-- A request over the service port. -/
def rqSvc (index : Nat) (b : Bytes) : Request :=
  { rq 0 index b with carrier := .service, flags := 0, payload := b, input := none }

/-- A committed part of one route. -/
def aPart : Part where
  order := 0
  arrival := 0
  ring := 1
  seq := 7
  noun := 0x11
  index := 0
  owner := 1
  cookie := 0
  landEvent := false
  domain := 1
  frame := 1
  status := 0
  items := [.route 0 0xFFFF false]

/-- A received source frame in 1920 × 1080 progressive at 50 Hz. -/
def goodFrame : SourceFrame := ⟨0x21, 3, true, [], false, none, 0, 0, 0, 0, 0, 0, [], 0⟩

/-- The state `up` with the link of one port up. -/
def lit (p : Nat) : State :=
  up.modPort p (fun x => { x with cfg := { x.cfg with enable := 1, config := 0x22 }, state := .up, repeats := [(0, [])] })

/-- A packet of a merge stage. -/
def aPacket : Packet := { Packet.reset with seq := 65535 }

/-- A PTP announce. -/
def anAnnounce : PtpMessage := ⟨.announce, 127, false, 9, 1, 0, 0, false, 0, 6, 0, 128, 0x20, 0, 128, 64, false, 0, 0⟩

/-- A picture of a stem with its analysis done. -/
def aStemPic : StemPic := { StemPic.reset with frame := 1, done := true }

/-- A released picture of a rendition with partition 0 left. -/
def aRendPic : RendPic := { RendPic.reset with frame := 1, released := true, left := [0] }

/-- A decoded HEVC Main picture in 1920 × 1080. -/
def aPicture : DecodedPicture := ⟨1, 1, 41, 1920, 1080, 0, 0, true, false, false, none, [], false, some (0, 0), 8, 0, [], []⟩

/-- A host that holds an update session. -/
def hostSource : ImgSource := ⟨1, 1, 0, []⟩

/-- The state `up` with an in-band flow on port 63 of the plane that holds the right. -/
def inband : State :=
  { lit 63 with levee := { Levee.reset with holder := some 1, cfg := { PlaneCfg.reset with mgmtBlue := 63, udp := 5000 } } }

/-- A back-fill job of HEVC Main in 1920 × 1080 at 50 Hz. -/
def jobBytes : Bytes :=
  layout 128 [(0, [1, 15, 0, 3, 0, 0, 0, 0, 1, 0, 0, 0, 1, 1, 41, 8]), (16, le 2 1920), (18, le 2 1080), (20, [0, 4, 1, 3]),
    (24, le 2 50), (26, [0x11, 0, 0, 50]), (32, [2, 0, 10, 51]), (36, le 4 10000000),
    (44, le 4 10000000), (48, le 4 500000), (64, le 4 3840), (68, le 4 0xFFFFFFC0), (80, [28, 16, 1, 0])]

/-- A QUERY of Device over the service port. -/
def svcFrame : Bytes :=
  let b := layout 32 [(4, [1, 0, 1])]
  b ++ le 4 (crc32c b)

/-- The device in Standby, where a stored set is taken. -/
def resting : State := { up with mode := { up.mode with current := .standby } }

/-- A stored set with the serial number and format of the device, its CRC in place, before the given remaining bytes. -/
def calBlock (t : Bytes) : Bytes :=
  [1, 0, 0, 0, 0, 0, 0, 0] ++ (layout 60 [(4, [1])] ++ (le 4 (crc32c (layout 60 [(4, [1])] ++ t)) ++ t))

theorem calBlock_length (t : Bytes) : (calBlock t).length = 72 + t.length := by
  have e : (layout 60 [(4, [1])]).length = 60 := rfl
  simp only [calBlock, List.length_append, List.length_cons, List.length_nil, e, le]
  omega

theorem calBlock_indirect (t : Bytes) : reqIndirect (rq 1 0 (calBlock t)) = true := by
  show (1#8).getLsbD 0 = true
  decide

theorem calBlock_payload (t : Bytes) (h : t.length = 24512) : (rq 1 0 (calBlock t)).payload =
    layout 32 [(0, le 8 4096), (8, le 4 24584), (16, le 8 8192), (24, le 4 1048576)] := by
  show layout 32 _ = _
  rw [calBlock_length, h]

theorem calBlock_of (t : Bytes) (h : t.length = 24512) : blockOf (rq 1 0 (calBlock t)) = some (calBlock t) := by
  unfold blockOf
  rw [calBlock_payload t h, calBlock_indirect, if_pos rfl]
  show (if (24584 : Nat) = 0 then some [] else if (calBlock t).length = 24584 then some (calBlock t) else none) = _
  rw [calBlock_length, h]
  rfl

theorem calBlock_block (t : Bytes) (h : t.length = 24512) : (rq 1 0 (calBlock t)).block = calBlock t := by
  show (blockOf (rq 1 0 (calBlock t))).getD [] = _
  rw [calBlock_of t h]
  rfl

theorem calBlock_accepted (t : Bytes) (h : t.length = 24512) : (rq 1 0 (calBlock t)).accepted specWriteCalset resting := by
  have hl : (calBlock t).length = 24584 := by rw [calBlock_length, h]
  refine ⟨fun n e => ?_, ?_, by show (1#8).getLsbD 2 = false; decide⟩
  · cases e
    decide
  · have h1 : headerOk specWriteCalset (rq 1 0 (calBlock t)) = true := by
      have f : flagsIn (rq 1 0 (calBlock t)).flags 7 = true := by
        show flagsIn 1#8 7 = true
        decide
      unfold headerOk
      rw [calBlock_payload t h, calBlock_indirect, if_pos rfl, f]
      rfl
    have h3 : blockOk specWriteCalset (calBlock t) = true := by
      show (((calBlock t).length == 8 + calLength) && (u8 (calBlock t) 0 == 1) && zeroFrom (calBlock t) 1 7) = true
      rw [hl]
      rfl
    have h4 : ((rq 1 0 (calBlock t)).callIn resting).r = rq 1 0 (calBlock t) := rfl
    have h5 : ((rq 1 0 (calBlock t)).callIn resting).block = calBlock t := by
      exact calBlock_block t h
    unfold admitted
    rw [h4, h5, h1, calBlock_of t h, h3]
    rfl

theorem calBlock_sound (t : Bytes) : calSound ((calBlock t).drop 8) = true := by
  have e : (calBlock t).drop 8 = layout 60 [(4, [1])] ++ (le 4 (crc32c (layout 60 [(4, [1])] ++ t)) ++ t) := rfl
  have c : calCrc ((calBlock t).drop 8) = crc32c (layout 60 [(4, [1])] ++ t) := rfl
  unfold calSound
  rw [c]
  simp only [beq_iff_eq]
  generalize hx : crc32c (layout 60 [(4, [1])] ++ t) = x
  have lt : x < 4294967296 := by
    rw [← hx]
    exact BitVec.isLt _
  have u : u32 ((calBlock t).drop 8) 60 = (BitVec.ofNat 8 x).toNat + 256 * (BitVec.ofNat 8 (x / 256)).toNat +
      65536 * ((BitVec.ofNat 8 (x / 256 / 256)).toNat + 256 * (BitVec.ofNat 8 (x / 256 / 256 / 256)).toNat) := by
    rw [← hx]
    rfl
  rw [u]
  simp only [BitVec.toNat_ofNat]
  omega

/-- The remaining bytes of a stored set. -/
def calTail : Bytes := List.replicate 24512 0

theorem calTail_length : calTail.length = 24512 := List.length_replicate

set_option maxRecDepth 20000

/-! ### The well-formedness checks refuse what they name -/

/-- A request on a ring that does not exist. -/
def badRing : Request := { rq 0 0 [] with carrier := .ring 4 }

/-- 02 R88: each header field, the ring and the payload at the first value past its range. -/
theorem test_wf_request : ([badRing, { rq 0 0 [] with seq := 4294967296 }, { rq 0 0 [] with index := 4294967296 },
    { rq 0 0 [] with domain := 256 }, { rq 0 0 [] with owner := 256 }, { rq 0 0 [] with target := 18446744073709551616 },
    { rq 0 0 [] with cookie := 18446744073709551616 }, { rq 0 0 [] with payload := List.replicate 4097 0 }].all (fun r => !r.wf)) = true := by
  decide +kernel

theorem test_wf_request_good : (rq 3 0xFFFFFFFF [1]).wf = true := by decide

/-- Every request command refuses a request that names no ring. -/
theorem test_wf_carried : (([
    .queryDevice badRing, .resetDevice badRing, .commit badRing, .cancelStageSet badRing, .cancelCommitted badRing, .setMode badRing,
    .queryMode badRing, .setDomain badRing, .queryDomain badRing, .queryReach badRing, .queryReachBandwidth badRing, .subscribe badRing,
    .unsubscribe badRing, .querySubscriptions badRing, .queryEvent badRing, .take badRing, .salvo badRing, .stageDstRoute badRing,
    .stageDstFormat badRing, .stageDstDomain badRing, .setSrcFormat badRing, .setSrcGenerator badRing, .queryDst badRing, .querySrc badRing,
    .lockDst badRing, .unlockDst badRing, .stageSrcLossAction badRing, .stageSrcOverride badRing, .setDstProbe badRing, .queryDstProbe badRing,
    .querySrcAlignment badRing, .setSrcPlayoutPost badRing, .setDstCaptureHold badRing, .queryDstCapture badRing, .takeAudioOut badRing,
    .stageAudioOutRoute badRing, .stageAudioOutFollow badRing, .stageAudioOutDomain badRing, .stageAudioOutDelay badRing, .stageAacProgramme badRing,
    .lockAudioOut badRing, .unlockAudioOut badRing, .setAudioPort badRing, .stageSlotMask badRing, .queryAudioIn badRing, .queryAudioOut badRing,
    .setLaneTransmit badRing, .setLaneReceive badRing, .setLaneAsymmetry badRing, .setLaneTestTools badRing, .setLaneEyeScan badRing,
    .readLaneEyeScan badRing, .setLaneI2cBind badRing, .writeLaneI2c badRing, .setLaneRateHooks badRing, .queryLane badRing, .resetLane badRing,
    .setEthPort badRing, .setEthPortPtp badRing, .queryEthPort badRing, .resetEthPort badRing, .stageFlow badRing, .queryFlow badRing,
    .stageQueueDscpMap badRing, .stageQueue badRing, .readQueueSamples badRing, .queryQueue badRing] : List Instr) ++ ([
    .stageGateList badRing, .queryGateList badRing, .stagePlane badRing, .setPlaneDiagnosis badRing, .queryPlane badRing, .setRefInput badRing,
    .queryRefInput badRing, .setTimebase badRing, .setTimebasePhase badRing, .setTimebaseAbsolute badRing, .queryTimebase badRing,
    .setTrigger badRing, .queryTrigger badRing, .stageStem badRing, .queryStem badRing, .queryStemCapacity badRing, .stageRendition badRing,
    .stageRenditionRate badRing, .queryRendition badRing, .queryRenditionRate badRing, .stageDelivery badRing, .queryDelivery badRing,
    .submitJob badRing, .cancelJob badRing, .queryJob badRing, .queryJobReaches badRing, .setJobTrace badRing, .readJobTrace badRing,
    .stageDecodeCtx badRing, .queryDecodeCtx badRing, .resetDecodeCtx badRing, .stageHead badRing, .stageHeadDomain badRing, .setHeadFreeze badRing,
    .setHeadStickyClear badRing, .queryHead badRing, .stageVideoLayer badRing, .stageGraphicLayer badRing, .stageLayerMatrix badRing,
    .stageMeterFirst badRing, .writeLayerSurface badRing, .queryLayer badRing, .setGauge badRing, .writeGaugeData badRing, .setGaugeFeed badRing,
    .queryGauge badRing, .setGaugeValue badRing, .setGaugeFinalise badRing, .resetGauge badRing, .ackThermal badRing, .readThermalRecords badRing,
    .setThermal badRing, .queryThermal badRing, .readCounter badRing, .readCounterCatalogue badRing, .writeCounterSticky badRing, .openImage badRing,
    .putImage badRing, .closeImage badRing, .activateImage badRing, .setImage badRing, .queryImage badRing, .lockImage badRing, .unlockImage badRing,
    .readCalset badRing, .writeCalset badRing, .setCalsetRecalibrate badRing] : List Instr)).all (fun i => !i.wf) = true := by
  decide +kernel

/-- Every operand range, at the first value outside it. -/
theorem test_wf_ranges : (([
    .dbReqWrite 4 0, .dbRplWrite 4 0, .ringEnable 5, .ringDisable 5, .ringDrainComplete 5, .ringFetchError 5 0 (rq 0 0 []),
    .ringFetchError 1 0 badRing, .ringWriteError 5, .intHoldoffExpiry 64, .domainFrameLoRead 9, .capNsRead 4, .sysResetRelease 8,
    .trainingComplete ([⟨none, .other, 4⟩]), .unitFence .clause 64 .other, .shadowRebuild 0 false, .shadowRebuild 9 false, .swapDecision 0,
    .swapDecision 9, .videoDomainBoundary 0, .videoDomainBoundary 9, .destSwitchingLine 1152, .refMonitorReading 8 0, .refActivityLost 8,
    .refQualify 8, .triggerFire 15, .triggerFire 64, .tcapEdge 4 false, .sourceFrameMeasure 1152 0 0 [], .sourceFrameComplete 1152 goodFrame,
    .sourceSignalLoss 1152 0 [], .flowSourceTimeout 1152 [], .destFrameStart 1152, .probeFrame 1152, .generatorFrame 1152, .recirculationReturn 64,
    .converterMeasure 16384 0 0 0, .audioActivityLoss 16384 0, .audioSlip 16384, .audioBoundary 16384 ⟨0, []⟩, .zeroCrossing 16384 false ⟨0, []⟩,
    .zeroCrossingTimeout 16384 false ⟨0, []⟩, .nonaudioOnset 8192 0, .nonaudioEnd 8192, .aacAccessUnit 16384 [] [], .portClockError 64 0,
    .portClockRecover 64, .laneSignalDetect 384, .adaptStepEnd 384 ⟨false, 0, []⟩, .qualifyTimeout 384, .fomUpdate 384 ⟨[], []⟩, .fomAlarmClear 384,
    .laneInputLoss 384, .eyeScanComplete 384 [], .prbsCheckerLock 384, .prbsCheckerRelock 384 0 0 0, .i2cTransactionEnd 2 ⟨0, 0, []⟩,
    .i2cStretchTimeout 2 false, .rateHookStart 384 false, .linkUp 64, .linkDown 64 0, .ethFrameReceive 64 ⟨0, false, [], none, .other⟩,
    .ptpMessageReceive 64 anAnnounce, .mergeRelease 16384, .legLoss 16384 1, .legLoss 1 2, .legReturn 16384 1] : List Instr) ++ ([
    .legReturn 1 2, .membershipReportRepeat 64, .ristSenderReport 1024, .egressEnqueue 64 ⟨.general, 0⟩, .egressSelect 64, .queueDelayDrop 768,
    .gateEntryChange 64, .gateListTakeover 64, .queueSample 64, .pacerRelease 16384 0, .audioAncRelease 16384 0 [] [], .leaseRenew 2, .rightRequest 2,
    .planeCheckEval 2 ⟨[]⟩, .handoverHoldEnd 1152, .stemAnalysisRelease 64, .analysisDeadline 64, .partitionCutTime 256 1, .partitionCutTime 1 16,
    .deliveryInstant 64 [], .riderRequest 4 1 0, .riderRequest 1 3 0, .riderItemComplete 4 1 0 ⟨[], 0, [], [], false⟩ none,
    .riderItemComplete 1 3 0 ⟨[], 0, [], [], false⟩ none, .riderPreempt 4, .coreWake 4 1 0, .coreWake 1 3 0, .coreGate 4 1 0, .coreGate 1 3 0,
    .riderRetry 4, .bfOutputRetry 4096 none, .floorAlarmClear 256, .tsTableInsert 1024, .tsPacketSend 1024, .decodePictureComplete 256 aPicture,
    .decodePresent 256, .decodeOutputLoss 256, .headFrameStart 2 [], .headFrameComplete 2, .culvertArm 8, .culvertAbort 8, .culvertErrorClear 8,
    .culvertHalf 8, .culvertComplete 8 [], .culvertError 8 0 0, .culvertAbortComplete 8 0, .scrubPassComplete 8, .refreshDue 8 0 false,
    .panicEnter 4 1 false 0, .panicEnter 1 13 false 0, .panicLeave 4 1 false 0, .panicLeave 1 13 false 0, .rtStarved 4 (.writer 0),
    .playoutPostTime 1152, .playoutSlotFree 1152 1, .playoutSlotFree 1 8, .captureFrameWritten 1152, .gaugeFeedComplete 64, .tallyChange 8 false,
    .sensorSample [], .thresholdRelease 3, .clauseClockStep 4, .powerSample [], .delayReqSend 64, .announceTimeout 64 ⟨0, 0, 0, 0, 0, 0, 0⟩,
    .ristReceiverReport 16384, .decoderInputRelease 16384] : List Instr)).all (fun i => !i.wf) = true := by
  decide +kernel

/-! ### Figures that the spec works out -/

/-- 14 R618, code 1: the check value over "123456789". -/
theorem test_crc32c_check : crc32c (ascii "123456789") = 0xE3069283 := by decide +kernel

/-- 14 R618, code 0, fed and finalised as R620 and R622 have it. -/
theorem test_gauge_crc32_check :
    (((up.modGauge 63 (fun g => { g with cfg := { g.cfg with poly := 0 }, value := 0xFFFFFFFF })).gaugeFeed 63 (ascii "123456789")).gaugeFinal 63).1 =
      0xCBF43926 := by decide +kernel

/-- 14 R618, code 3. -/
theorem test_gauge_ccitt_check :
    (((up.modGauge 63 (fun g => { g with cfg := { g.cfg with poly := 3 }, value := 0xFFFF })).gaugeFeed 63 (ascii "123456789")).gaugeFinal 63).1 =
      0x29B1 := by decide +kernel

/-- 09 R400, worked example: an oscillator 3.2 ppm fast needs INCR_NS 39 and the fraction 0xFFF79C86. -/
theorem test_increment : (({ State.reset with cal := { State.reset.cal with valid := false } } : State).increment (-3199989)) / 2 ^ 32 = 39 := by
  decide

/-- 04 R185, worked example: a 60 Hz source read at 24 Hz needs a ring of 4. -/
theorem test_ring_need : ((up.modDomain 1 (fun x => { x with rate := 2 })).modSrc 0 (fun x =>
    { x with signal := true, periodPs := 16666666666, fmt := { x.fmt with raster := 0x30 } })).ringNeed 0 1 = 4 := by decide +kernel

/-- 08 R353, worked example: 9,000 bytes on 100 Gb/s take 721.6 ns. -/
theorem test_line_time : (up.modPort 5 (fun x => { x with cfg := { x.cfg with config := 0x12 } })).linePsOf 5 9000 = 721600 := by decide +kernel

/-- The coding of the ladder's rendition 2: HEVC Main 10, 1920 × 1080 at 50 Hz (10, worked example). -/
def ladder2 : CodeJob := { cfg := { RendCfg.reset with codec := 1, profile := 2, level := 41, width := 1920, height := 1080, rateDiv := 1, refs := 1
                                                       chroma := 0, split := 0, coresMax := 16 }
                           rate := { RateCfg.reset with bitrate := 4000000, cpbSize := 800000, initDelayUs := 100000 }, num := 50, den := 1, fields := 1 }

/-- 10 R460, worked example: its load is 0.1037 core, in one partition. -/
theorem test_load : milli (ladder2.load 1) = 103 ∧ ladder2.partitions = 1 := by decide +kernel

/-- 11 R478, worked example: F_row is 392 bits and F_pic 14,856 bits. -/
theorem test_floor : ladder2.floorRow = 392 ∧ ladder2.floorPic = 14856 := by decide +kernel

/-- 10 R459, R460, worked example: VVC at 4320p120 loads 8.082 cores in nine partitions. -/
theorem test_partitions : (let j : CodeJob := { ladder2 with cfg := { ladder2.cfg with codec := 2, width := 7680, height := 4320, refs := 2 }, num := 120 };
    (j.partitions, milli (j.load 9))) = (9, 8082) := by decide +kernel

/-- 13 R565, worked example: layer 0 takes step 3 with 17,280 samples, layers 1 to 7 step 1 with 5,760. -/
theorem test_scale_steps : scaleSteps 2 7680 2 2 true = ⟨3, 2, 2, 2, 17280⟩ ∧ scaleSteps 1 3840 4 4 false = ⟨1, 6, 4, 4, 5760⟩ := by decide

/-- 07, worked example: a line of 3840 pixels 4:2:2 in packets of 1,200 octets takes 8 packets. -/
theorem test_line_packets : linePackets { FlowCfg.reset with params := layout 24 [(6, le 2 1200)] } { Fmt.reset with sampling := 0 } 3840 = 8 := by
  decide +kernel

/-- 02 R97, R100: QUERY on Mode from a ring in Full is answered with status OK in the header that is written to the reply ring. -/
theorem test_step_query : (match step { up with pending := [.queryMode (rq 1 0 [])] } with
    | .next t => (t.ring 1).rplProducer == 1 && (t.ring 1).reqConsumer == 1 && t.ints.cause.getLsbD 1 | _ => false) = true := by decide +kernel


/-! ### States and operands that meet the hypotheses of the statements -/

theorem witness_EmptyQueueIdles : ∃ s : State, s.pending = [] := ⟨State.reset, rfl⟩

/-- The highest bus cycle count: domain 8 at reset. -/
theorem witness_ResetState : ∃ d, 1 ≤ d ∧ d < State.reset.domains.length := ⟨8, by decide⟩

theorem witness_StepKeepsSound : ∃ s t : State, s.Sound ∧ step s = .next t :=
  ⟨{ up with pending := [.ringEnable 0] }, _, ⟨by decide, by decide⟩, rfl⟩

theorem witness_StepKeepsModeLegal : ∃ s t : State, s.mode.legal ∧ step s = .next t :=
  ⟨{ State.reset with pending := [.aonResetAssert] }, _, ⟨by decide, by decide, by decide, by decide⟩, rfl⟩

theorem witness_ModeMovesAsListed : ∃ s t : State, s.mode.legal ∧ s.pending.head? ≠ some .aonResetAssert ∧ step s = .next t :=
  ⟨{ up with pending := [.pwrOkFall] }, _, ⟨by decide, by decide, by decide, by decide⟩, by decide, rfl⟩

theorem witness_FrameStoreFrame : ∃ (c : Instr) (s t : State), touchesStore c = false ∧ exec c s = .next t :=
  ⟨.ringEnable 0, up, _, by decide, rfl⟩

theorem witness_RareStateFrame : ∃ (c : Instr) (s t : State), c ≠ .aonResetAssert ∧ touchesRepair c = false ∧ touchesDomains c = false ∧
    (∀ op, c ≠ .jtagInstruction op) ∧ c ≠ .remapSet ∧ c ≠ .sysResetAssert ∧ c ≠ .pwrOkFall ∧ exec c s = .next t :=
  ⟨.ringEnable 0, up, _, by decide, by decide, by decide, (fun _ e => by cases e), by decide, by decide, by decide, rfl⟩

theorem witness_SignalEventsFrame : ∃ (c : Instr) (fs : List Field) (s t : State), signalFields c = some fs ∧ exec c s = .next t :=
  ⟨.ringEnable 0, [], up, _, rfl, rfl⟩

theorem witness_ServiceEventsFrame : ∃ (c : Instr) (fs : List Field) (s t : State), serviceFields c = some fs ∧ exec c s = .next t :=
  ⟨.remapSet, [.remap], up, _, rfl, rfl⟩

theorem witness_RequestWithoutRing : ∃ (i : Instr) (q : ReqSpec) (r : Request) (n : Nat) (s : State),
    requestOf i = some (q, r) ∧ r.carrier = .ring n ∧ s.takes n = false :=
  ⟨.queryDevice (rq 0 0 []), specQueryDevice, rq 0 0 [], 0, State.reset, rfl, rfl, by decide⟩

theorem witness_RefusedRequestAnswered : ∃ (i : Instr) (q : ReqSpec) (r : Request) (s : State) (a : Answer),
    requestOf i = some (q, r) ∧ r.arrives s ∧ admitted q (r.callIn s) (s.taking r) = some a :=
  ⟨.queryReach (rq 1 4 [1]), specQueryReach, rq 1 4 [1], up, fail stRange 0x0007, rfl, (fun n e => by cases e; decide), by decide⟩

/-- The call of a request in a state. -/
def callAs (r : Request) : Call := r.callIn up

theorem witness_ChecksInOrder :
    (∃ (c : Call) (v n : Nat), c.r.odd = some (.code v n) ∧ (verbKnown v && nounKnown n) = false) ∧
    (∃ (c : Call) (v n : Nat), c.r.odd = some (.code v n) ∧ (verbKnown v && nounKnown n) = true) ∧
    (∃ c : Call, c.r.odd = some .fault) ∧
    (∃ (q : ReqSpec) (c : Call), c.r.odd = none ∧ headerOk q c.r = false) ∧
    (∃ (q : ReqSpec) (c : Call), c.r.odd = none ∧ headerOk q c.r = true ∧ blockOf c.r = none) ∧
    (∃ (q : ReqSpec) (c : Call) (s : State), c.r.odd = none ∧ headerOk q c.r = true ∧ (blockOf c.r).isSome = true ∧ blockOk q c.block = true ∧
      s.serves c.r.carrier q.verb q.noun = false) ∧
    (∃ (q : ReqSpec) (c : Call) (s : State), c.r.odd = none ∧ headerOk q c.r = true ∧ (blockOf c.r).isSome = true ∧ blockOk q c.block = true ∧
      s.serves c.r.carrier q.verb q.noun = true ∧ q.asleep s c = none ∧ q.index c.r.index = false) ∧
    (∃ (q : ReqSpec) (c : Call) (s : State) (n : Named), c.r.odd = none ∧ headerOk q c.r = true ∧ (blockOf c.r).isSome = true ∧ blockOk q c.block = true ∧
      s.serves c.r.carrier q.verb q.noun = true ∧ q.asleep s c = none ∧ q.index c.r.index = true ∧ q.named s c = [n] ∧ n.present = false) ∧
    (∃ (q : ReqSpec) (c : Call) (s : State) (n : Named), c.r.odd = none ∧ headerOk q c.r = true ∧ (blockOf c.r).isSome = true ∧ blockOk q c.block = true ∧
      s.serves c.r.carrier q.verb q.noun = true ∧ q.asleep s c = none ∧ q.index c.r.index = true ∧ q.named s c = [n] ∧ n.present = true ∧
      n.fenced = true) ∧
    (∃ (q : ReqSpec) (c : Call) (s : State) (n : Named), c.r.odd = none ∧ headerOk q c.r = true ∧ (blockOf c.r).isSome = true ∧ blockOk q c.block = true ∧
      s.serves c.r.carrier q.verb q.noun = true ∧ q.asleep s c = none ∧ q.index c.r.index = true ∧ q.named s c = [n] ∧ n.present = true ∧
      n.fenced = false ∧ n.lock ≠ 0 ∧ n.lock ≠ c.owner ∧ c.owner ≠ 0xFF ∧ q.verb ≠ 0x01 ∧ q.verb ≠ 0x13) ∧
    (∃ (q : ReqSpec) (c : Call) (s : State), c.r.odd = none ∧ headerOk q c.r = true ∧ (blockOf c.r).isSome = true ∧ blockOk q c.block = true ∧
      s.serves c.r.carrier q.verb q.noun = true ∧ q.asleep s c = none ∧ q.index c.r.index = true ∧
      namedFail (q.named s c) c.owner (q.verb == 0x01 || q.verb == 0x13) = none ∧ q.judged = false ∧ q.bits c.block = false) ∧
    (∃ (q : ReqSpec) (c : Call) (s : State), c.r.odd = none ∧ headerOk q c.r = true ∧ (blockOf c.r).isSome = true ∧ blockOk q c.block = true ∧
      s.serves c.r.carrier q.verb q.noun = true ∧ q.asleep s c = none ∧ q.index c.r.index = true ∧
      namedFail (q.named s c) c.owner (q.verb == 0x01 || q.verb == 0x13) = none ∧ q.judged = false ∧ q.bits c.block = true ∧ q.form c.block = false) ∧
    (∃ (q : ReqSpec) (c : Call) (s : State), c.r.odd = none ∧ headerOk q c.r = true ∧ (blockOf c.r).isSome = true ∧ blockOk q c.block = true ∧
      s.serves c.r.carrier q.verb q.noun = true ∧ q.asleep s c = none ∧ q.index c.r.index = true ∧
      namedFail (q.named s c) c.owner (q.verb == 0x01 || q.verb == 0x13) = none ∧ q.judged = true ∧ q.bits c.block = true ∧ q.form c.block = false ∧ (q.body c s).1.status ≥ 0x0100 ∧
      (q.body c s).1.accepted = false ∧ (q.body c s).1.item < 65536 ∧ failStep (q.body c s).1 < 9) ∧
    (∃ (q : ReqSpec) (c : Call) (s : State), c.r.odd = none ∧ headerOk q c.r = true ∧ (blockOf c.r).isSome = true ∧ blockOk q c.block = true ∧
      s.serves c.r.carrier q.verb q.noun = true ∧ q.asleep s c = none ∧ q.index c.r.index = true ∧
      namedFail (q.named s c) c.owner (q.verb == 0x01 || q.verb == 0x13) = none ∧ q.bits c.block = true ∧ q.form c.block = true) :=
  ⟨⟨callAs { rq 1 0 [] with odd := some (.code 0x15 1) }, 0x15, 1, rfl, by decide⟩,
   ⟨callAs { rq 1 0 [] with odd := some (.code 0x14 0x46) }, 0x14, 0x46, rfl, by decide⟩,
   ⟨callAs { rq 1 0 [] with odd := some .fault }, rfl⟩,
   ⟨specQueryDevice, callAs { rq 1 0 [] with domain := 9 }, rfl, by decide⟩,
   ⟨specSetDomain, callAs { rq 1 1 [1, 3, 0, 0] with input := none }, rfl, by decide, by decide⟩,
   ⟨specSetDomain, callAs (rq 1 1 [1, 3, 0, 0]), State.reset, rfl, by decide, by decide, by decide, by decide⟩,
   ⟨specQueryReach, callAs (rq 1 4 [1]), up, rfl, by decide, by decide, by decide, by decide, rfl, by decide⟩,
   ⟨specQueryReach, callAs (rq 1 2 [1]), { up with fused := { up.fused with part := .glc8150 } }, _, rfl, by decide, by decide, by decide, by decide, rfl, by decide, rfl, by decide⟩,
   ⟨specSetDstProbe, callAs (rq 1 1119 (layout 24 [(0, [0x10])])), { up with repair := { up.repair with fenced := [(.dst, 1119)] } }, _,
     rfl, by decide, by decide, by decide, by decide, rfl, by decide, rfl, by decide, by decide⟩,
   ⟨specSetImage, callAs (rq 1 0 [1, 0, 5, 0]), { up with image := { up.image with lock := 2 } }, _,
     rfl, by decide, by decide, by decide, by decide, rfl, by decide, rfl, by decide, by decide, by decide, by decide, by decide, by decide, by decide⟩,
   ⟨specSetEthPortPtp, callAs (rq 1 63 [3, 4, 127, 0, 0xF9, 10, 0, 0]), up, rfl, by decide, by decide, by decide, by decide, rfl, by decide, by decide, rfl, by decide⟩,
   ⟨specSetEthPortPtp, callAs (rq 1 63 [3, 3, 127, 3, 0xF9, 10, 0, 1]), up, rfl, by decide, by decide, by decide, by decide, rfl, by decide, by decide, rfl, by decide, by decide⟩,
   ⟨specStageDstDomain, callAs (rq 1 5 [3, 8, 1, 0]), up.modDst 5 (fun x => { x with lock := 2 }), rfl, by decide, by decide, by decide, by decide, rfl, by decide, by decide, rfl, by decide,
     by decide, by decide +kernel, by decide +kernel, by decide +kernel, by decide +kernel⟩,
   ⟨specSetImage, callAs (rq 1 0 [1, 0, 5, 0]), { up with image := { up.image with lock := 1 } }, rfl, by decide, by decide, by decide, by decide, rfl, by decide, by decide, by decide, by decide⟩⟩

theorem witness_ValidateOnlyAppliesNothing : ∃ (i : Instr) (q : ReqSpec) (r : Request) (s t : State),
    requestOf i = some (q, r) ∧ reqValidate r = true ∧ exec i s = .next t :=
  ⟨.setDomain { rq 1 1 [1, 3, 0, 0] with flags := 5 }, specSetDomain, { rq 1 1 [1, 3, 0, 0] with flags := 5 }, up, _, rfl, by decide, rfl⟩

theorem witness_FailedRequestAppliesNothing : ∃ (i : Instr) (q : ReqSpec) (r : Request) (s t : State),
    requestOf i = some (q, r) ∧ (∀ r', i ≠ .setLaneTransmit r') ∧ (∀ r', i ≠ .putImage r') ∧ (verdict q (r.callIn s) (s.taking r)).status ≥ 0x0100 ∧
    (verdict q (r.callIn s) (s.taking r)).accepted = false ∧ exec i s = .next t :=
  ⟨.setDomain (rq 1 1 [1, 14, 0, 0]), specSetDomain, rq 1 1 [1, 14, 0, 0], up, _, rfl, (fun _ e => by cases e), (fun _ e => by cases e), by decide, by decide, rfl⟩

theorem witness_QueriesChangeNothing : ∃ (i : Instr) (q : ReqSpec) (r : Request) (s t : State),
    requestOf i = some (q, r) ∧ (q.verb = 0x01 ∨ q.verb = 0x13) ∧ (∀ r', i ≠ .readQueueSamples r') ∧ exec i s = .next t :=
  ⟨.queryReach (rq 1 3 [1]), specQueryReach, rq 1 3 [1], up, _, rfl, .inl rfl, (fun _ e => by cases e), rfl⟩

theorem witness_ReplyOnRing : ∃ (s : State) (n : Nat), n < 4 ∧ n < s.rings.length := ⟨up, 3, by decide, by decide⟩

theorem witness_StagedTwiceKeepsLater : ∃ (l : List (Nat × Setting)) (e a : Nat × Setting),
    a ∈ keepLater l ∧ settingKey a.2 ≠ settingKey e.2 :=
  ⟨[(0, .dstDomain 5 8)], (1, .dstDomain 6 8), (0, .dstDomain 5 8), by decide, by decide⟩

theorem witness_ModeRequestsRefused :
    (∃ c : Call, modeOf (u8 c.block 1) = none) ∧
    (∃ (c : Call) (s : State) (m : Mode), modeOf (u8 c.block 1) = some m ∧ s.mode.busy = true) ∧
    (∃ (c : Call) (s : State) (m : Mode), modeOf (u8 c.block 1) = some m ∧ s.mode.busy = false ∧ modeListed s.mode.current m = false ∧
      (s.mode.current = .dormant → m ≠ .boot)) ∧
    (∃ (c : Call) (s : State), modeOf (u8 c.block 1) = some .encode ∧ s.mode.busy = false ∧ modeListed s.mode.current .encode = true ∧
      s.routedCount > 256) :=
  ⟨⟨callAs (rq 1 0 [1, 0xFF, 0, 0]), by decide⟩,
   ⟨callAs (rq 1 0 [1, 8, 0, 0]), { up with mode := { up.mode with busy := true } }, .encode, by decide, by decide⟩,
   ⟨callAs (rq 1 0 [1, 2, 0, 0]), { up with mode := { up.mode with current := .standby } }, _, rfl, by decide, by decide, by decide⟩,
   ⟨callAs (rq 1 0 [1, 8, 0, 0]), { up with dsts := (List.range 257).map (fun k => (k, { DstSt.reset with src := 0 })) }, by decide, by decide,
     by decide, by decide +kernel⟩⟩

theorem witness_BootResetsTheFastDomains : ∃ (d : Nat) (s : State), 1 ≤ d ∧ d < s.domains.length := ⟨8, up, by decide, by decide⟩

theorem witness_TransportQueriesAnswer :
    (∃ (r : Request) (s : State), r.accepted specQueryDevice s ∧ ((s.taking r).inventory).length ≤ replyRoom r) ∧
    (∃ (r : Request) (s : State), r.accepted specQueryReach s ∧ (reachBlock (s.taking r) r.index).length ≤ replyRoom r) ∧
    (∃ (r : Request) (s : State), r.accepted specQueryMode s ∧ (modeBlock (s.taking r)).length ≤ replyRoom r) ∧
    (∃ (r : Request) (s : State), r.accepted specQueryDomain s ∧ (domainBlock (s.taking r) r.index).length ≤ replyRoom r) ∧
    (∃ (r : Request) (s : State), r.accepted specQuerySubscriptions s ∧ (subscriptionBlock (s.taking r)).length ≤ replyRoom r) ∧
    (∃ (r : Request) (s : State), r.accepted specQueryEvent s ∧ (eventBlock (s.taking r)).length ≤ replyRoom r) ∧
    (∃ (r : Request) (s : State), r.accepted specQueryDst s ∧ (s.taking r).dstMember r.index = false ∧ (dstBlock (s.taking r) r.index).length ≤ replyRoom r) ∧
    (∃ (r : Request) (s : State), r.accepted specQuerySrc s ∧ (s.taking r).srcMember r.index = false ∧ (srcBlock (s.taking r) r.index).length ≤ replyRoom r) ∧
    (∃ (r : Request) (s : State), r.accepted specQueryDstProbe s ∧ (s.taking r).dstMember r.index = false ∧ (probeBlock (s.taking r) r.index).length ≤ replyRoom r) ∧
    (∃ (r : Request) (s : State), r.accepted specQuerySrcAlignment s ∧ (s.taking r).srcMember r.index = false ∧ (alignmentBlock (s.taking r) r.index).length ≤ replyRoom r) ∧
    (∃ (r : Request) (s : State), r.accepted specQueryDstCapture s ∧ isCapture r.index = true ∧ (s.taking r).dstMember r.index = false ∧ (captureBlock (s.taking r) r.index).length ≤ replyRoom r) ∧
    (∃ (r : Request) (s : State), r.accepted specQueryAudioIn s ∧ (s.taking r).ainOdd r.index = false ∧ (ainBlock (s.taking r) r.index).length ≤ replyRoom r) ∧
    (∃ (r : Request) (s : State), r.accepted specQueryAudioOut s ∧ (s.taking r).aoutOdd r.index = false ∧ (aoutBlock (s.taking r) r.index).length ≤ replyRoom r) ∧
    (∃ (r : Request) (s : State), r.accepted specQueryLane s ∧ (laneBlock (s.taking r) r.index).length ≤ replyRoom r) ∧
    (∃ (r : Request) (s : State), r.accepted (specReadLaneEyeScan r.index) s ∧ r.index < 256 ∧ (eyeBlock ((s.taking r).lane r.index)).length ≤ replyRoom r) ∧
    (∃ (r : Request) (s : State), r.accepted specQueryEthPort s ∧ (portBlock (s.taking r) r.index).length ≤ replyRoom r) ∧
    (∃ (r : Request) (s : State), r.accepted specQueryFlow s ∧ (flowBlock (s.taking r) r.index).length ≤ replyRoom r) ∧
    (∃ (r : Request) (s : State), r.accepted specQueryQueue s ∧ (queueBlock (s.taking r) r.index).length ≤ replyRoom r) ∧
    (∃ (r : Request) (s : State), r.accepted specReadQueueSamples s ∧ u8 r.block 1 = 0 ∧ (sampleBlock ((s.taking r).queue r.index)).length ≤ replyRoom r) ∧
    (∃ (r : Request) (s : State), r.accepted specQueryGateList s ∧ (gateBlock (s.taking r) r.index).length ≤ replyRoom r) ∧
    (∃ (r : Request) (s : State), r.accepted specQueryPlane s ∧ (planeBlock (s.taking r) r.index).length ≤ replyRoom r) :=
  ⟨⟨rq 1 0 [], up, accepts (by decide), by decide⟩,
   ⟨rq 1 3 [1], up, accepts (by decide), by decide⟩,
   ⟨rq 1 0 [1], up, accepts (by decide), by decide⟩,
   ⟨rq 1 8 [1], up, accepts (by decide), by decide⟩,
   ⟨rq 1 0 [2], up, accepts (by decide), by decide⟩,
   ⟨rq 1 0 [1], up, accepts (by decide), by decide⟩,
   ⟨rq 1 1091 [1], up, accepts (by decide), by decide, by decide⟩,
   ⟨rq 1 1090 [1], up, accepts (by decide), by decide, by decide⟩,
   ⟨rq 1 1024 [0x10], up, accepts (by decide), by decide, by decide⟩,
   ⟨rq 1 1090 [0x10], up, accepts (by decide), by decide, by decide⟩,
   ⟨rq 1 1091 [0x20], up, accepts (by decide), by decide, by decide, by decide⟩,
   ⟨rq 1 2047 [1], up, accepts (by decide), by decide, by decide⟩,
   ⟨rq 1 2047 [1], up, accepts (by decide), by decide, by decide⟩,
   ⟨rq 1 383 [1], up, accepts (by decide), by decide⟩,
   ⟨rq 2 255 [0x11], up, accepts (by decide), by decide, by decide⟩,
   ⟨rq 1 63 [1], up, accepts (by decide), by decide⟩,
   ⟨rq 1 16383 [1], up, accepts (by decide), by decide⟩,
   ⟨rq 1 767 [1], up, accepts (by decide), by decide⟩,
   ⟨rq 1 767 [0x10, 0, 0, 0], up, accepts (by decide), by decide, by decide⟩,
   ⟨rq 1 63 [1], up, accepts (by decide), by decide⟩,
   ⟨rq 1 1 [1], up, accepts (by decide), by decide⟩⟩

theorem witness_ServiceQueriesAnswer :
    (∃ (r : Request) (s : State), r.accepted specQueryRefInput s ∧ (refBlock (s.taking r) r.index).length ≤ replyRoom r) ∧
    (∃ (r : Request) (s : State), r.accepted specQueryTimebase s ∧ (timebaseBlock (s.taking r)).length ≤ replyRoom r) ∧
    (∃ (r : Request) (s : State), r.accepted specQueryTrigger s ∧ (encTrigCfg 0x01 ((s.taking r).trigCfg r.index)).length ≤ replyRoom r) ∧
    (∃ (r : Request) (s : State), r.accepted specQueryStem s ∧ (s.taking r).dstMember (1024 + r.index) = false ∧ (stemBlock (s.taking r) r.index).length ≤ replyRoom r) ∧
    (∃ (r : Request) (s : State), r.accepted specQueryStemCapacity s ∧ (capacityBlock (s.taking r)).length ≤ replyRoom r) ∧
    (∃ (r : Request) (s : State), r.accepted specQueryRendition s ∧ (rendBlock (s.taking r) r.index).length ≤ replyRoom r) ∧
    (∃ (r : Request) (s : State), r.accepted specQueryRenditionRate s ∧ (rendRateBlock (s.taking r) r.index).length ≤ replyRoom r) ∧
    (∃ (r : Request) (s : State), r.accepted specQueryDelivery s ∧ (delivBlock (s.taking r) r.index).length ≤ replyRoom r) ∧
    (∃ (r : Request) (s : State), r.accepted specQueryJob s ∧ ((s.taking r).job r.index).used = true ∧ (jobBlock ((s.taking r).job r.index)).length ≤ replyRoom r) ∧
    (∃ (r : Request) (s : State), r.accepted specQueryJobReaches s ∧ ((List.range 4).flatMap (reachJobs (s.taking r))).length ≤ replyRoom r) ∧
    (∃ (r : Request) (s : State), r.accepted specReadJobTrace s ∧ u8 r.block 1 ≤ 3 ∧ reachFitted (s.taking r).fused.part (u8 r.block 1) = true ∧ (traceReply ((s.taking r).rider (u8 r.block 1)) (u32 r.block 4) (replyRoom r)).length ≤ replyRoom r) ∧
    (∃ (r : Request) (s : State), r.accepted specQueryDecodeCtx s ∧ (ctxBlock (s.taking r) r.index).length ≤ replyRoom r) ∧
    (∃ (r : Request) (s : State), r.accepted specQueryHead s ∧ (headBlock (s.taking r) r.index).length ≤ replyRoom r) ∧
    (∃ (r : Request) (s : State), r.accepted specQueryLayer s ∧ (layerBlock (s.taking r) r.index).length ≤ replyRoom r) ∧
    (∃ (r : Request) (s : State), r.accepted specQueryGauge s ∧ (gaugeBlock ((s.taking r).gauge r.index)).length ≤ replyRoom r) ∧
    (∃ (r : Request) (s : State), r.accepted specReadThermalRecords s ∧ (recordBlock (s.taking r)).length ≤ replyRoom r) ∧
    (∃ (r : Request) (s : State), r.accepted specQueryThermal s ∧ (thermalBlock (s.taking r)).length ≤ replyRoom r) ∧
    (∃ (r : Request) (s : State), r.accepted specReadCounter s ∧ u32 r.block 4 < nounUnits (u16 r.block 2) ∧ (counterBlock (s.taking r) (u16 r.block 2) (u32 r.block 4)).length ≤ replyRoom r) ∧
    (∃ (r : Request) (s : State), r.accepted specReadCounterCatalogue s ∧ (catalogueBlock).length ≤ replyRoom r) ∧
    (∃ (r : Request) (s : State), r.accepted specReadCalset s ∧ ((s.taking r).calSet).length ≤ replyRoom r) ∧
    (∃ (r : Request) (s : State), r.accepted specQueryImage s ∧ r.index = 1 ∧ (r.block = [] ∨ u8 r.block 0 = 1) ∧ (activeBlock (s.taking r)).length ≤ replyRoom r) ∧
    (∃ (r : Request) (s : State), r.accepted specQueryImage s ∧ r.index ≠ 1 ∧ r.block.length = 1 ∧ u8 r.block 0 = 1 ∧ (stagingBlock (s.taking r)).length ≤ replyRoom r) ∧
    (∃ (r : Request) (s : State), r.accepted specQueryImage s ∧ r.index ≠ 1 ∧ r.block.length = 1 ∧ u8 r.block 0 = 2 ∧ (piecesBlock (s.taking r)).length ≤ replyRoom r) ∧
    (∃ (r : Request) (s : State) (b : _), r.accepted specQueryReachBandwidth s ∧ b = bandwidthBlock (s.taking r) (servedGbs (!((s.taking r).reachMem r.index).panic.isEmpty) ((List.range 5).map (fun i => Config.freeNat ((s.taking r).freeCtr + i)))) r.index ∧ b.length ≤ replyRoom r) :=
  ⟨⟨rq 1 7 [1], up, accepts (by decide), by decide⟩,
   ⟨rq 1 0 [1], up, accepts (by decide), by decide⟩,
   ⟨rq 1 63 [1], up, accepts (by decide), by decide⟩,
   ⟨rq 1 63 [1], up, accepts (by decide), by decide, by decide⟩,
   ⟨rq 1 0xFFFFFFFF [2], up, accepts (by decide), by decide⟩,
   ⟨rq 1 255 [1], up, accepts (by decide), by decide⟩,
   ⟨rq 1 255 [2], up, accepts (by decide), by decide⟩,
   ⟨rq 1 1023 [1], up, accepts (by decide), by decide⟩,
   ⟨rq 3 4095 [1], up.modJob 4095 (fun j => { j with used := true }), accepts (by decide), by decide, by decide⟩,
   ⟨rq 3 0xFFFFFFFF [2], up, accepts (by decide), by decide⟩,
   ⟨rq 1 0xFFFFFFFF [0x21, 3, 0, 0, 0, 0, 0, 0], up, accepts (by decide), by decide, by decide, by decide⟩,
   ⟨rq 1 255 [1], up, accepts (by decide), by decide⟩,
   ⟨rq 1 1 [1], up, accepts (by decide), by decide⟩,
   ⟨rq 1 159 [1], up, accepts (by decide), by decide⟩,
   ⟨rq 1 63 [3], up, accepts (by decide), by decide⟩,
   ⟨rq 1 0 [0x10], up, accepts (by decide), by decide⟩,
   ⟨rq 1 0 [1], up, accepts (by decide), by decide⟩,
   ⟨rq 1 0 [1, 0, 0x10, 0, 0x7F, 4, 0, 0], up, accepts (by decide), by decide, by decide⟩,
   ⟨rq 1 0 [2], up, accepts (by decide), by decide +kernel⟩,
   ⟨rq 1 0 [1], up, accepts (by decide), by decide +kernel⟩,
   ⟨rq 1 1 [], up, accepts (by decide), by decide, by decide, by decide⟩,
   ⟨rq 1 0 [1], up, accepts (by decide), by decide, by decide, by decide, by decide⟩,
   ⟨rq 1 0 [2], up, accepts (by decide), by decide, by decide, by decide, by decide⟩,
   ⟨rq 1 3 [0x10], up, _, accepts (by decide), rfl, by decide +kernel⟩⟩

theorem witness_StageOfSwitchingCompletes :
    (∃ (r : Request) (s : State), r.accepted specStageDstRoute s ∧ (decRouteEntry (r.block.drop 1)).dst = r.index ∧ (s.taking r).stageable (r.callIn s) [routeSetting (r.block.drop 1)]) ∧
    (∃ (r : Request) (s : State), r.accepted specStageDstFormat s ∧ (s.taking r).stageable (r.callIn s) [.dstFormat r.index (decFmt r.block)]) ∧
    (∃ (r : Request) (s : State), r.accepted specStageDstDomain s ∧ (s.taking r).stageable (r.callIn s) [.dstDomain r.index (u8 r.block 1)]) ∧
    (∃ (r : Request) (s : State), r.accepted specStageSrcLossAction s ∧ (s.taking r).stageable (r.callIn s) [.srcLoss r.index (decLossCfg r.block)]) ∧
    (∃ (r : Request) (s : State), r.accepted specStageSrcOverride s ∧ (s.taking r).stageable (r.callIn s) [.srcOverride r.index (decOverrideCfg r.block)]) ∧
    (∃ (r : Request) (s : State), r.accepted specStageAudioOutRoute s ∧ (s.taking r).stageable (r.callIn s) [.aoutRoute r.index (decAudioRoute r.block)]) ∧
    (∃ (r : Request) (s : State), r.accepted specStageAudioOutFollow s ∧ (s.taking r).stageable (r.callIn s) [.aoutFollow r.index (decAudioFollow r.block)]) ∧
    (∃ (r : Request) (s : State), r.accepted specStageAudioOutDomain s ∧ (s.taking r).stageable (r.callIn s) [.aoutDomain r.index (u8 r.block 1)]) ∧
    (∃ (r : Request) (s : State), r.accepted specStageAudioOutDelay s ∧ (s.taking r).stageable (r.callIn s) [.aoutDelay r.index (u16 r.block 2)]) ∧
    (∃ (r : Request) (s : State), r.accepted specStageAacProgramme s ∧ (s.taking r).stageable (r.callIn s) [.aac r.index (decAacCfg r.block)]) ∧
    (∃ (r : Request) (s : State), r.accepted specStageSlotMask s ∧ (s.taking r).stageable (r.callIn s) [.slotMask r.index (decSlotMask r.block)]) :=
  ⟨⟨rq 1 1091 (layout 9 [(0, [1]), (1, le 2 1091), (3, le 2 0xFFFF)]), shaped up, accepts (by decide), by decide, stageables (by decide +kernel)⟩,
   ⟨rq 1 5 [2, 0x20, 0, 0x11, 1, 0, 0, 0], up, accepts (by decide), stageables (by decide +kernel)⟩,
   ⟨rq 1 5 [3, 8, 0, 0], up, accepts (by decide), stageables (by decide +kernel)⟩,
   ⟨rq 1 5 [0x10, 1, 0, 0, 0, 0, 0, 0], up, accepts (by decide), stageables (by decide +kernel)⟩,
   ⟨rq 1 5 [0x11, 0, 0, 0, 0, 0, 0, 0], up, accepts (by decide), stageables (by decide +kernel)⟩,
   ⟨rq 1 5 (layout 8 [(0, [1]), (2, le 2 0xFFFF)]), up, accepts (by decide), stageables (by decide +kernel)⟩,
   ⟨rq 1 5 (layout 8 [(0, [2]), (2, le 2 0xFFFF)]), up, accepts (by decide), stageables (by decide +kernel)⟩,
   ⟨rq 1 4128 [3, 8, 0, 0], up, accepts (by decide), stageables (by decide +kernel)⟩,
   ⟨rq 1 5 [4, 0, 0, 0], up, accepts (by decide), stageables (by decide +kernel)⟩,
   ⟨rq 1 4128 (layout 8 [(0, [5, 1, 2]), (4, le 4 320000)]), up, accepts (by decide), stageables (by decide +kernel)⟩,
   ⟨rq 1 5 (layout 12 [(0, [2])]), up, accepts (by decide), stageables (by decide +kernel)⟩⟩

theorem witness_StageOfServicesCompletes :
    (∃ (r : Request) (s : State), r.accepted specStageFlow s ∧ (s.taking r).stageable (r.callIn s) [.flow r.index (decFlowCfg r.block) none]) ∧
    (∃ (r : Request) (s : State), r.accepted specStageQueueDscpMap s ∧ r.index % 12 = 0 ∧ (s.taking r).stageable (r.callIn s) [.dscp (r.index / 12) ((List.range 64).map (fun i => u8 r.block (4 + i)))]) ∧
    (∃ (r : Request) (s : State), r.accepted specStageQueue s ∧ (s.taking r).stageable (r.callIn s) [.queue r.index (decQueueCfg r.block)]) ∧
    (∃ (r : Request) (s : State), r.accepted specStageGateList s ∧ (s.taking r).stageable (r.callIn s) [.gateList r.index (decGateCfg r.block)]) ∧
    (∃ (r : Request) (s : State), r.accepted specStagePlane s ∧ 1 < r.index ∧ (s.taking r).stageable (r.callIn s) [.plane (decPlaneCfg r.block)]) ∧
    (∃ (r : Request) (s : State), r.accepted specStageStem s ∧ (s.taking r).stageable (r.callIn s) [.stem r.index (decStemCfg r.block)]) ∧
    (∃ (r : Request) (s : State), r.accepted specStageRendition s ∧ (s.taking r).stageable (r.callIn s) [.rend r.index (decRendCfg r.block)]) ∧
    (∃ (r : Request) (s : State), r.accepted specStageRenditionRate s ∧ (s.taking r).stageable (r.callIn s) [.rendRate r.index (decRateCfg r.block)]) ∧
    (∃ (r : Request) (s : State), r.accepted specStageDelivery s ∧ (s.taking r).stageable (r.callIn s) (delivSettings r.index r.block)) ∧
    (∃ (r : Request) (s : State), r.accepted specStageDecodeCtx s ∧ (s.taking r).stageable (r.callIn s) [.decCtx r.index (decDecCfg r.block)]) ∧
    (∃ (r : Request) (s : State), r.accepted specStageHead s ∧ (s.taking r).stageable (r.callIn s) [.head r.index (decHeadCfg r.block)]) ∧
    (∃ (r : Request) (s : State), r.accepted specStageHeadDomain s ∧ (s.taking r).stageable (r.callIn s) [.headDomain r.index (u8 r.block 1)]) ∧
    (∃ (r : Request) (s : State), r.accepted specStageVideoLayer s ∧ (s.taking r).stageable (r.callIn s) [.videoLayer r.index (decVideoLayer r.block)]) ∧
    (∃ (r : Request) (s : State), r.accepted specStageGraphicLayer s ∧ (s.taking r).stageable (r.callIn s) [.graphicLayer r.index (decGraphicLayer r.block)]) ∧
    (∃ (r : Request) (s : State), r.accepted specStageLayerMatrix s ∧ (s.taking r).stageable (r.callIn s) [.matrix r.index (decMatrix r.block)]) ∧
    (∃ (r : Request) (s : State), r.accepted specStageMeterFirst s ∧ (s.taking r).stageable (r.callIn s) [.meterFirst r.index (u16 r.block 2)]) :=
  ⟨⟨rq 1 8192 (layout 144 [(0, [1]), (16, [0xFF]), (64, [0xFF])]), up, accepts (by decide), stageables (by decide +kernel)⟩,
   ⟨rq 1 756 (layout 68 [(0, [2]), (4, List.replicate 64 4)]), up, accepts (by decide), by decide, stageables (by decide +kernel)⟩,
   ⟨rq 1 764 (layout 12 [(0, [1]), (4, le 4 1500), (8, le 4 65536)]), up, accepts (by decide), stageables (by decide +kernel)⟩,
   ⟨rq 1 63 (layout 24 [(0, [1])]), up, accepts (by decide), stageables (by decide +kernel)⟩,
   ⟨rq 1 0xFFFFFFFF (layout 40 [(0, [1]), (2, le 2 10), (4, le 2 100), (6, [0xFF, 0xFF])]), up, accepts (by decide), by decide, stageables (by decide +kernel)⟩,
   ⟨rq 1 63 (layout 16 [(0, [1, 0, 8]), (4, le 2 256), (6, le 2 128), (8, [4, 16, 100, 0xFF, 16])]), up, accepts (by decide), stageables (by decide +kernel)⟩,
   ⟨rq 1 255 (layout 24 [(0, [1])]), up, accepts (by decide), stageables (by decide +kernel)⟩,
   ⟨rq 1 255 (layout 24 [(0, [2])]), up, accepts (by decide), stageables (by decide +kernel)⟩,
   ⟨rq 1 1023 (layout 64 [(0, [1, 0, 3])]), up, accepts (by decide), stageables (by decide +kernel)⟩,
   ⟨rq 1 255 (layout 16 [(0, [1])]), up, accepts (by decide), stageables (by decide +kernel)⟩,
   ⟨rq 1 1 (layout 20 [(0, [1, 0, 0x21, 0x11]), (12, List.replicate 8 0xFF)]), up, accepts (by decide), stageables (by decide +kernel)⟩,
   ⟨rq 1 1 [3, 8, 0, 0], up, accepts (by decide), stageables (by decide +kernel)⟩,
   ⟨rq 1 143 (layout 32 [(0, [1])]), up, accepts (by decide), stageables (by decide +kernel)⟩,
   ⟨rq 1 159 (layout 16 [(0, [2])]), up, accepts (by decide), stageables (by decide +kernel)⟩,
   ⟨rq 1 143 (layout 32 [(0, [3])]), up, accepts (by decide), stageables (by decide +kernel)⟩,
   ⟨rq 1 159 [4, 0, 0, 0], up, accepts (by decide), stageables (by decide +kernel)⟩⟩

theorem witness_CancelDiscardsStageSet :
    ∃ (r : Request) (s : State), r.accepted specCancelStageSet s :=
  ⟨rq 1 0 [], up, accepts (by decide)⟩

theorem witness_StagedVerbsComplete :
    (∃ (r : Request) (s : State) (a : Answer), r.accepted specCommit s ∧ ((s.taking r).judgeSet (r.callIn s) 0x01 0x0009 ((s.taking r).openSet (carrierOwner r))).failure = none ∧ a = degradedAnswer ((s.taking r).judgeSet (r.callIn s) 0x01 0x0009 ((s.taking r).openSet (carrierOwner r))) ((s.taking r).setAnswer (r.callIn s) 0x01 0x0009 ((s.taking r).openSet (carrierOwner r))) ∧ a.payload.length ≤ replyRoom r) ∧
    (∃ (r : Request) (s : State) (a : Answer), r.accepted specTake s ∧ (decRouteEntry r.block).dst = r.index ∧ ((s.taking r).judgeSet (r.callIn s) 0x11 0x0018 [(0, routeSetting r.block)]).failure = none ∧ a = takeReport r.index ((s.taking r).judgeSet (r.callIn s) 0x11 0x0018 [(0, routeSetting r.block)]) ((s.taking r).setAnswer (r.callIn s) 0x11 0x0018 [(0, routeSetting r.block)]) ∧ a.payload.length ≤ replyRoom r) ∧
    (∃ (r : Request) (s : State) (es : _) (a : Answer), r.accepted specSalvo s ∧ u16 r.block 0 ≤ 1152 ∧ es = (salvoEntries r.block).filter (fun e => !((s.taking r).skipped (r.callIn s)).contains e) ∧ ((s.taking r).judgeSet (r.callIn s) 0x12 0x0018 es).failure = none ∧ a = salvoSummary ((s.taking r).skipped (r.callIn s)) ((s.taking r).judgeSet (r.callIn s) 0x12 0x0018 es) ((s.taking r).setAnswer (r.callIn s) 0x12 0x0018 es) ∧ a.payload.length ≤ replyRoom r) ∧
    (∃ (r : Request) (s : State) (a : Answer), r.accepted specTakeAudioOut s ∧ ((s.taking r).judgeSet (r.callIn s) 0x19 0x003A [(0, .aoutRoute r.index (decAudioRoute r.block))]).failure = none ∧ a = (s.taking r).setAnswer (r.callIn s) 0x19 0x003A [(0, .aoutRoute r.index (decAudioRoute r.block))] ∧ a.payload.length ≤ replyRoom r) ∧
    (∃ (r : Request) (s : State) (a : Answer), r.accepted specLockDst s ∧ carrierOwner r ≠ 0 ∧ ((s.taking r).judgeSet (r.callIn s) 0x11 0x0009 [(0, .lockDst r.index (carrierOwner r))]).failure = none ∧ a = (s.taking r).setAnswer (r.callIn s) 0x11 0x0009 [(0, .lockDst r.index (carrierOwner r))] ∧ a.payload.length ≤ replyRoom r) ∧
    (∃ (r : Request) (s : State) (a : Answer), r.accepted specUnlockDst s ∧ ((s.taking r).judgeSet (r.callIn s) 0x11 0x0009 [(0, .unlockDst r.index (carrierOwner r))]).failure = none ∧ a = (s.taking r).setAnswer (r.callIn s) 0x11 0x0009 [(0, .unlockDst r.index (carrierOwner r))] ∧ a.payload.length ≤ replyRoom r) ∧
    (∃ (r : Request) (s : State) (a : Answer), r.accepted specLockAudioOut s ∧ carrierOwner r ≠ 0 ∧ ((s.taking r).judgeSet (r.callIn s) 0x19 0x003A [(0, .lockAout r.index (carrierOwner r))]).failure = none ∧ a = (s.taking r).setAnswer (r.callIn s) 0x19 0x003A [(0, .lockAout r.index (carrierOwner r))] ∧ a.payload.length ≤ replyRoom r) ∧
    (∃ (r : Request) (s : State) (a : Answer), r.accepted specUnlockAudioOut s ∧ ((s.taking r).judgeSet (r.callIn s) 0x19 0x003A [(0, .unlockAout r.index (carrierOwner r))]).failure = none ∧ a = (s.taking r).setAnswer (r.callIn s) 0x19 0x003A [(0, .unlockAout r.index (carrierOwner r))] ∧ a.payload.length ≤ replyRoom r) :=
  ⟨⟨rq 1 0 [], up, _, accepts (by decide), by decide +kernel, rfl, by decide +kernel⟩,
   ⟨rq 1 1091 (layout 8 [(0, le 2 1091), (2, le 2 0xFFFF)]), shaped up, _, accepts (by decide), by decide, by decide +kernel, rfl, by decide +kernel⟩,
   ⟨rq 0 0 (layout 16 [(0, le 2 1), (8, le 2 1091), (10, le 2 0xFFFF)]), shaped urgent, _, _, accepts (by decide), by decide, rfl, by decide +kernel, rfl, by decide +kernel⟩,
   ⟨rq 0 4128 (layout 8 [(0, [1]), (2, le 2 0xFFFF)]), urgent, _, accepts (by decide), by decide +kernel, rfl, by decide +kernel⟩,
   ⟨rq 0 5 [], urgent, _, accepts (by decide), by decide, by decide +kernel, rfl, by decide +kernel⟩,
   ⟨rq 0 5 [], urgent, _, accepts (by decide), by decide +kernel, rfl, by decide +kernel⟩,
   ⟨rq 0 5 [], urgent, _, accepts (by decide), by decide, by decide +kernel, rfl, by decide +kernel⟩,
   ⟨rq 0 5 [], urgent, _, accepts (by decide), by decide +kernel, rfl, by decide +kernel⟩⟩

theorem witness_CancelWithdrawsParts :
    ∃ (r : Request) (s : State), r.accepted specCancelCommitted s ∧ u8 r.block 4 ≤ 1 ∧ ((∃ p ∈ (s.taking r).parts, p.seq = u32 r.block 0 ∧ p.ring = u8 r.block 4)) ∧ ((∀ p ∈ (s.taking r).parts, p.seq = u32 r.block 0 → p.ring = u8 r.block 4 → p.owner = carrierOwner r ∨ carrierOwner r = 0xFF)) ∧ 8 + 16 * ((s.taking r).parts.filter (fun p => p.seq == u32 r.block 0 && p.ring == u8 r.block 4)).length ≤ replyRoom r :=
  ⟨rq 1 0 (layout 8 [(0, le 4 7), (4, [1])]), { up with parts := [aPart] }, accepts (by decide), by decide, ⟨aPart, by decide⟩, by decide, by decide⟩

theorem witness_PartsLandBeyondHorizon :
    ∃ (s : State) (arrival : Nat) (d : Nat), s.domainOn d = true ∧ (s.aim arrival 0 0 d).status = 0 :=
  ⟨up, 0, 1, by decide, by decide⟩

theorem witness_ModeAndDomainRequestsComplete :
    (∃ (r : Request) (s : State) (m : _), r.accepted specSetMode s ∧ modeOf (u8 r.block 1) = some m ∧ (s.taking r).mode.busy = false ∧ (s.taking r).mode.current ≠ .dormant ∧ modeListed (s.taking r).mode.current m = true ∧ ((m = .encode → (s.taking r).routedCount ≤ 256))) ∧
    (∃ (r : Request) (s : State), r.accepted specSetMode s ∧ modeOf (u8 r.block 1) = some .boot ∧ (s.taking r).mode.busy = false ∧ (s.taking r).mode.current = .dormant ∧ (s.taking r).pins.sysResetN = true ∧ (s.taking r).bootBlocked = false ∧ (s.taking r).pins.aonResetN = true ∧ (s.taking r).pins.mainPwrEn = false) ∧
    (∃ (r : Request) (s : State), r.accepted specSetDomain s ∧ (s.taking r).domains.length = 9 ∧ (s.taking r).domainUsed r.index = false ∧ ((if u8 r.block 1 = 0 then u8 r.block 2 = 0 else u8 r.block 1 ≤ 13 ∧ rasterAllows (u8 r.block 2) (u8 r.block 1) = true))) ∧
    (∃ (r : Request) (s : State), r.accepted specResetDevice s) :=
  ⟨⟨rq 1 0 [1, 8, 0, 0], up, .encode, accepts (by decide), by decide, by decide, by decide, by decide, by decide⟩,
   ⟨rqSvc 0 [1, 2, 0, 0], { State.reset with pins := { Pins.reset with sysResetN := true } }, accepts (by decide), by decide, by decide, by decide, by decide, by decide, by decide, by decide⟩,
   ⟨rq 1 8 [1, 13, 0x21, 0], up, accepts (by decide), by decide, by decide, by decide⟩,
   ⟨rq 1 0 [], up, accepts (by decide)⟩⟩

theorem witness_SessionAndResetRequestsComplete :
    (∃ (r : Request) (s : State) (h : _) (x : Sub), r.accepted specSubscribe s ∧ x = { noun := u8 r.block 0, subcode := u8 r.block 1, index := u32 r.block 4 } ∧ (s.taking r).subscriptions.find? (fun e => e.2 == x) = none ∧ (List.range subMax).find? (fun h => (tget (fun _ => none) (s.taking r).events.subs h).isNone) = some h ∧ 4 ≤ replyRoom r) ∧
    (∃ (r : Request) (s : State) (x : Sub) (e : _), r.accepted specSubscribe s ∧ x = { noun := u8 r.block 0, subcode := u8 r.block 1, index := u32 r.block 4 } ∧ (s.taking r).subscriptions.find? (fun e => e.2 == x) = some e ∧ 4 ≤ replyRoom r) ∧
    (∃ (r : Request) (s : State), r.accepted specUnsubscribe s ∧ r.index = everyUnit) ∧
    (∃ (r : Request) (s : State) (x : _), r.accepted specUnsubscribe s ∧ r.index ≠ everyUnit ∧ tget (fun _ => none) (s.taking r).events.subs r.index = some x) ∧
    (∃ (r : Request) (s : State), r.accepted specLockImage s ∧ carrierOwner r ≠ 0 ∧ (((s.taking r).image.lock = 0 ∨ (s.taking r).image.lock = carrierOwner r ∨ carrierOwner r = 0xFF))) ∧
    (∃ (r : Request) (s : State), r.accepted specUnlockImage s) ∧
    (∃ (r : Request) (s : State), r.accepted specResetLane s ∧ r.index < 256 ∧ (s.taking r).laneOn r.index = true) ∧
    (∃ (r : Request) (s : State), r.accepted specResetLane s ∧ ((256 ≤ r.index ∨ (s.taking r).laneOn r.index = false))) ∧
    (∃ (r : Request) (s : State), r.accepted specResetEthPort s ∧ ((s.taking r).port r.index).cfg.enable = 1 ∧ (s.taking r).inService = true ∧ (s.taking r).linkOn r.index = true) ∧
    (∃ (r : Request) (s : State), r.accepted specResetEthPort s ∧ ((s.taking r).port r.index).cfg.enable = 1 ∧ (s.taking r).inService = true ∧ (s.taking r).linkOn r.index = false) ∧
    (∃ (r : Request) (s : State), r.accepted specResetEthPort s ∧ (((s.taking r).port r.index).cfg.enable ≠ 1 ∨ (s.taking r).inService = false) ∧ (s.taking r).linkOn r.index = true) ∧
    (∃ (r : Request) (s : State), r.accepted specResetEthPort s ∧ (((s.taking r).port r.index).cfg.enable ≠ 1 ∨ (s.taking r).inService = false) ∧ (s.taking r).linkOn r.index = false) ∧
    (∃ (r : Request) (s : State), r.accepted specResetDecodeCtx s) ∧
    (∃ (r : Request) (s : State), r.accepted specResetGauge s ∧ ((s.taking r).gauge r.index).fed = false) :=
  ⟨⟨rq 1 0xFFFFFFFF (layout 12 [(0, [0x10, 0xFF])]), up, 0, _, accepts (by decide), rfl, by decide, by decide, by decide⟩,
   ⟨rq 1 0xFFFFFFFF (layout 12 [(0, [0x10, 0xFF])]), { up with events := { up.events with subs := [(0, some { noun := 0x10, subcode := 0xFF, index := 0 })] } }, _, (0, { noun := 0x10, subcode := 0xFF, index := 0 }), accepts (by decide), rfl, by decide, by decide⟩,
   ⟨rq 1 0xFFFFFFFF [], up, accepts (by decide), by decide⟩,
   ⟨rq 1 1023 [], { up with events := { up.events with subs := [(1023, some { noun := 0x10, subcode := 0xFF, index := 0 })] } }, { noun := 0x10, subcode := 0xFF, index := 0 }, accepts (by decide), by decide, by decide⟩,
   ⟨rq 1 0 [], up, accepts (by decide), by decide, by decide⟩,
   ⟨rq 1 0 [], up, accepts (by decide)⟩,
   ⟨rq 1 255 [], up, accepts (by decide), by decide, by decide⟩,
   ⟨rq 1 256 [], up, accepts (by decide), by decide⟩,
   ⟨rq 1 63 [], up.modPort 63 (fun x => { x with cfg := { x.cfg with enable := 1 }, state := .up }), accepts (by decide), by decide, by decide, by decide⟩,
   ⟨rq 1 63 [], up.modPort 63 (fun x => { x with cfg := { x.cfg with enable := 1 } }), accepts (by decide), by decide, by decide, by decide⟩,
   ⟨rq 1 63 [], { up.modPort 63 (fun x => { x with state := .up }) with mode := up.mode }, accepts (by decide), .inl (by decide), by decide⟩,
   ⟨rq 1 63 [], up, accepts (by decide), .inl (by decide), by decide⟩,
   ⟨rq 1 255 [], up, accepts (by decide)⟩,
   ⟨rq 1 63 [], up, accepts (by decide), by decide⟩⟩

theorem witness_BoundaryAndFaultCommandsComplete :
    (∃ (d : _) (s : State), s.domainOn d = true ∧ s.mode.current.rings = true ∧ (s.domain d).decided = false ∧ d < s.domains.length ∧ (s.domain d).shadowBad = false) ∧
    (∃ (d : _) (s : State), s.domainOn d = true ∧ s.mode.current.rings = true ∧ (s.domain d).decided = false ∧ d < s.domains.length ∧ (s.domain d).shadowBad = true) ∧
    (∃ (s : State), s.pins.aonResetN = true ∧ 0 < s.domains.length) ∧
    (∃ (d : _) (s : State), 1 ≤ d ∧ d ≤ 8 ∧ d < s.domains.length ∧ s.domainOn d = true ∧ s.mode.current.rings = true) ∧
    (∃ (d : _) (s : State), s.domainOn d = true ∧ s.mode.current.rings = true ∧ (s.domain d).decided = false) ∧
    (∃ (d : _) (s : State), s.domainOn d = true ∧ s.mode.current.rings = true ∧ (s.domain d).decided = false) ∧
    (∃ (d : _) (s : State), (s.dst d).switchDue = true) ∧
    (∃ (n : Nat) (k : Nat) (i : _) (s : State), s.consumerIn n k i = true ∧ (s.core (coreKey n k i)).busy = none) ∧
    (∃ (k : UnitKind) (n : Nat) (s : State), s.inService = true ∧ s.usable k n = true) :=
  ⟨⟨8, up, by decide, by decide, by decide, by decide, by decide⟩,
   ⟨0, up.modDomain 0 (fun x => { x with shadowBad := true }), by decide, by decide, by decide, by decide, by decide⟩,
   ⟨State.reset, by decide, by decide⟩,
   ⟨8, up, by decide, by decide, by decide, by decide, by decide⟩,
   ⟨8, up, by decide, by decide, by decide⟩,
   ⟨8, { up with domains := up.domains.map (fun x => { x with shadowBad := true }) }, by decide, by decide, by decide⟩,
   ⟨1151, up.modDst 1151 (fun x => { x with switchDue := true }), by decide⟩,
   ⟨3, 0, 63, up, by decide, by decide⟩,
   ⟨UnitKind.clause, 63, up, by decide, by decide⟩⟩

theorem witness_RingCommandsComplete :
    (∃ (n : Nat) (v : BitVec 32) (s : State), n < 4 ∧ s.hostLink = true ∧ (s.ring n).enable = true ∧ v.setWidth 16 ≠ (s.ring n).producer ∧ (v.setWidth 16 - (s.ring n).rplConsumer).toNat ≤ ringDepth n) ∧
    (∃ (n : Nat) (v : BitVec 32) (s : State), n < 4 ∧ s.hostLink = true ∧ (s.ring n).enable = true ∧ (v.setWidth 16 - (s.ring n).rplConsumer).toNat ≤ ((s.ring n).rplProducer - (s.ring n).rplConsumer).toNat) ∧
    (∃ (v : BitVec 32) (s : State), s.hostLink = true ∧ (s.ring 4).enable = true ∧ (v.setWidth 16 - (s.ring 4).rplConsumer).toNat ≤ ((s.ring 4).producer - (s.ring 4).rplConsumer).toNat) ∧
    (∃ (n : Nat) (s : State), s.hostLink = true ∧ (s.ring n).enable = false) ∧
    (∃ (n : Nat) (s : State), n < 4 ∧ s.hostLink = true ∧ (s.ring n).enable = true) ∧
    (∃ (s : State), s.hostLink = true ∧ (s.ring 4).enable = true) ∧
    (∃ (n : Nat) (s : State), (s.ring n).enable = false) ∧
    (∃ (n : Nat) (s : State), n < 5 ∧ s.hostLink = true ∧ (s.ring n).active = true) ∧
    (∃ (n : Nat) (verb : _) (s : State), s.takes n = true ∧ verbStaged verb = false) ∧
    (∃ (n : Nat) (verb : _) (s : State), s.takes n = true ∧ verbStaged verb = true) ∧
    (∃ (n : Nat) (s : State), n < s.rings.length ∧ s.hostLink = true ∧ (s.ring n).enable = false) ∧
    (∃ (n : Nat) (s : State), n < 4 ∧ n < s.rings.length ∧ s.hostLink = true ∧ (s.ring n).enable = true) :=
  ⟨⟨3, 1024, { up with rings := up.rings.map (fun g => { g with producer := 0 }) }, by decide, by decide, by decide, by decide, by decide⟩,
   ⟨0, (0 : BitVec 32), up, by decide, by decide, by decide, by decide⟩,
   ⟨(1 : BitVec 32), up, by decide, by decide, by decide⟩,
   ⟨4, { up with rings := List.replicate 5 Ring.reset }, by decide, by decide⟩,
   ⟨3, up, by decide, by decide, by decide⟩,
   ⟨up, by decide, by decide⟩,
   ⟨0, State.reset, by decide⟩,
   ⟨4, up, by decide, by decide, by decide⟩,
   ⟨3, 0x10, up, by decide, by decide⟩,
   ⟨0, 0x06, urgent, by decide, by decide⟩,
   ⟨4, { up with rings := List.replicate 5 Ring.reset }, by decide, by decide, by decide⟩,
   ⟨3, up, by decide, by decide, by decide, by decide⟩⟩

theorem witness_GateAccessesRefused :
    (∃ (n : Nat) (s : State), (s.ring n).enable = false) ∧
    (∃ (n : Nat) (s : State), (s.ring n).enable = false) ∧
    (∃ (s : State), (s.ring 4).enable = false) ∧
    (∃ (n : Nat) (v : BitVec 32) (s : State), n < 4 ∧ n < s.rings.length ∧ s.hostLink = true ∧ (s.ring n).enable = true ∧ (v.setWidth 16 - (s.ring n).rplConsumer).toNat > ringDepth n) ∧
    (∃ (n : Nat) (v : BitVec 32) (s : State), n < 4 ∧ n < s.rings.length ∧ s.hostLink = true ∧ (s.ring n).enable = true ∧ (v.setWidth 16 - (s.ring n).rplConsumer).toNat > ((s.ring n).rplProducer - (s.ring n).rplConsumer).toNat) ∧
    (∃ (v : BitVec 32) (s : State), 4 < s.rings.length ∧ s.hostLink = true ∧ (s.ring 4).enable = true ∧ (v.setWidth 16 - (s.ring 4).rplConsumer).toNat > ((s.ring 4).producer - (s.ring 4).rplConsumer).toNat) ∧
    (∃ (s : State), s.hostLink = true) ∧
    (∃ (s : State), s.hostLink = true) ∧
    (∃ (o : _) (s : State), s.hostLink = true ∧ o % 4 ≠ 0) ∧
    (∃ (o : _) (s : State), s.hostLink = true ∧ o % 4 = 0 ∧ (o < 0x100 ∨ (0xC140 ≤ o))) :=
  ⟨⟨3, State.reset, by decide⟩,
   ⟨3, State.reset, by decide⟩,
   ⟨State.reset, by decide⟩,
   ⟨0, (257 : BitVec 32), up, by decide, by decide, by decide, by decide, by decide⟩,
   ⟨3, (1 : BitVec 32), up, by decide, by decide, by decide, by decide, by decide⟩,
   ⟨(2 : BitVec 32), up, by decide, by decide, by decide, by decide⟩,
   ⟨up, by decide⟩,
   ⟨up, by decide⟩,
   ⟨0x1001, up, by decide, by decide⟩,
   ⟨0xC140, up, by decide, by decide, by decide⟩⟩

theorem witness_HostInterfaceCommandsComplete :
    (∃ (s : State), s.hostLink = true) ∧
    (∃ (v : Nat) (s : State), v < 64 ∧ s.ints.heldOff.getLsbD v = true ∧ (s.ints.msix.getD v MsixEntry.reset).mask = false) ∧
    (∃ (v : Nat) (s : State), v < 64 ∧ s.ints.heldOff.getLsbD v = true ∧ (s.ints.msix.getD v MsixEntry.reset).mask = true) ∧
    (∃ (s : State), s.hostLink = true) ∧
    (∃ (s : State), s.hostLink = true) ∧
    (∃ (s : State) (n : Nat), s.hostLink = true ∧ n < 32 ∧ n < s.ints.vectors.length) ∧
    (∃ (d : _) (s : State), s.hostLink = true ∧ d ≤ 8 ∧ d < s.domains.length) ∧
    (∃ (c : Instr) (s : State), (c = .pcieFunctionReset ∨ c = .pciePerstAssert) ∧ s.mode.current.fast = true) :=
  ⟨⟨up, by decide⟩,
   ⟨63, { up with ints := { up.ints with heldOff := 0x8000000000000000, msix := List.replicate 64 { MsixEntry.reset with mask := false } } }, by decide, by decide, by decide⟩,
   ⟨63, { up with ints := { up.ints with heldOff := 0x8000000000000000, msix := List.replicate 64 { MsixEntry.reset with mask := true } } }, by decide, by decide, by decide⟩,
   ⟨up, by decide⟩,
   ⟨up, by decide⟩,
   ⟨up, 31, by decide, by decide, by decide⟩,
   ⟨8, up, by decide, by decide, by decide⟩,
   ⟨Instr.pciePerstAssert, up, .inr rfl, by decide⟩⟩

theorem witness_PowerCommandsComplete :
    (∃ (s : State), s.pins.aonResetN = false) ∧
    (∃ (s : State), s.mode.current.fast = true) ∧
    (∃ (s : State), s.pins.aonResetN = true ∧ s.mode.current = .dormant ∧ s.pins.mainPwrEn = false ∧ s.mode.blocked = false) ∧
    (∃ (s : State), s.pins.pwrOk = false ∧ s.mode.current = .dormant ∧ s.pins.mainPwrEn = true) ∧
    (∃ (s : State), s.mode.current.fast = true) ∧
    (∃ (s : State) (n : Nat), s.pins.pwrTimer = some n ∧ s.mode.current = .dormant ∧ s.pins.pwrOk = false) ∧
    (∃ (n : Nat), n < 8) ∧
    (∃ (n : Nat), n < 8) :=
  ⟨⟨{ State.reset with pins := { Pins.reset with aonResetN := false } }, by decide⟩,
   ⟨up, by decide⟩,
   ⟨State.reset, by decide, by decide, by decide, by decide⟩,
   ⟨{ State.reset with pins := { Pins.reset with mainPwrEn := true } }, by decide, by decide, by decide⟩,
   ⟨up, by decide⟩,
   ⟨{ State.reset with pins := { Pins.reset with pwrTimer := some 0 } }, 0, by decide, by decide, by decide⟩,
   ⟨7, by decide⟩,
   ⟨7, by decide⟩⟩

theorem witness_ModeCommandsComplete :
    (∃ (s : State) (n : Nat), s.mode.bootAt = some n ∧ s.mode.current = .dormant ∧ s.pins.mainPwrEn = true ∧ s.pins.pwrOk = true ∧ s.mode.blocked = false) ∧
    (∃ (s : State), s.mode.current = .boot ∧ s.mode.fallowMark = false ∧ (s.mode.bootSel = 0 ∨ s.mode.bootSel = 3)) ∧
    (∃ (s : State), s.mode.current = .boot ∧ s.mode.fallowMark = false) ∧
    (∃ (s : State), s.mode.current = .boot ∧ s.mode.fallowMark = true) ∧
    (∃ (s : State), s.mode.current = .training ∧ s.mode.firstBoot = false) ∧
    (∃ (s : State), s.mode.current = .training ∧ s.mode.firstBoot = true) ∧
    (∃ (s : State), s.mode.current = .training ∧ s.mode.firstBoot = true) ∧
    (∃ (s : State), s.mode.busy = true ∧ s.mode.target = .dormant) ∧
    (∃ (s : State), s.mode.busy = true ∧ s.mode.target.service = true ∧ s.mode.current = .standby ∧ s.mode.target ≠ .throttled) ∧
    (∃ (s : State), s.mode.current.fast = true) ∧
    (∃ (s : State), s.mode.current.fast = true ∧ s.mode.restartDue = true) ∧
    (∃ (m : Mode), m ≠ .throttled) :=
  ⟨⟨{ State.reset with mode := { ModeSt.reset with bootAt := some 0 }, pins := { Pins.reset with mainPwrEn := true, pwrOk := true } }, 0, by decide, by decide, by decide, by decide, by decide⟩,
   ⟨{ up with mode := { up.mode with current := .boot, bootSel := 3 } }, by decide, by decide, by decide⟩,
   ⟨{ up with mode := { up.mode with current := .boot } }, by decide, by decide⟩,
   ⟨{ up with mode := { up.mode with current := .boot, fallowMark := true } }, by decide, by decide⟩,
   ⟨{ up with mode := { up.mode with current := .training } }, by decide, by decide⟩,
   ⟨{ up with mode := { up.mode with current := .training, firstBoot := true } }, by decide, by decide⟩,
   ⟨{ up with mode := { up.mode with current := .training, firstBoot := true } }, by decide, by decide⟩,
   ⟨{ up with mode := { up.mode with current := .standby, target := .dormant, busy := true } }, by decide, by decide⟩,
   ⟨{ up with mode := { up.mode with current := .standby, target := .router, busy := true } }, by decide, by decide, by decide, by decide⟩,
   ⟨up, by decide⟩,
   ⟨{ up with mode := { up.mode with restartDue := true } }, by decide, by decide⟩,
   ⟨.full, by decide⟩⟩

theorem witness_SourceCommandsComplete :
    (∃ (k : Nat) (s : State), isExternal k = true ∧ s.usable .src k = true ∧ s.inService = true ∧ ((isRill k = true → (s.src (k / 4 * 4)).fmt.gang ≠ 4 ∧ (s.src k).fmt.gang ≠ 4))) ∧
    (∃ (k : Nat) (f : SourceFrame) (s : State), isNet k = true ∧ s.usable .src k = true ∧ s.inService = true ∧ (s.src k).signal = true ∧ (s.src k).spoiled = false ∧ f.valid = true ∧ f.cut = false ∧ f.raster = (s.src k).fmt.raster ∧ ((∀ l ∈ s.netLines k f, l.isSome = true))) ∧
    (∃ (k : Nat) (f : SourceFrame) (s : State), isNet k = true ∧ s.usable .src k = true ∧ s.inService = true ∧ (s.src k).signal = false ∧ 1 ≤ (s.src k).good ∧ f.valid = true ∧ f.cut = false ∧ f.raster = (s.src k).fmt.raster ∧ ((∀ l ∈ s.netLines k f, l.isSome = true))) ∧
    (∃ (k : Nat) (f : SourceFrame) (s : State) (u : _), isRill k = true ∧ s.usable .src k = true ∧ s.inService = true ∧ (s.src k).signal = true ∧ (s.src k).spoiled = false ∧ u = (s.takeVpid k f).modSrc k (fun y => { y with lane := f.lines.map (·.getD []), laneAnc := f.anc.filter keptAnc, arrivalNs := 0 }) ∧ u.groupWanted (k / 4 * 4) = false ∧ f.valid = true ∧ f.cut = false) ∧
    (∃ (k : Nat) (f : SourceFrame) (s : State) (u : _), isRill k = true ∧ s.usable .src k = true ∧ s.inService = true ∧ u = (s.takeVpid k f).modSrc k (fun y => { y with lane := f.lines.map (·.getD []), laneAnc := f.anc.filter keptAnc, arrivalNs := 0 }) ∧ u.groupWanted (k / 4 * 4) = true ∧ u.groupGood (k / 4 * 4) = false) ∧
    (∃ (k : Nat) (s : State), isRill k = true ∧ (s.src (k / 4 * 4)).fmt.gang ≠ 4 ∧ (s.src k).fmt.gang ≠ 4 ∧ (s.src k).signal = true) ∧
    (∃ (k : Nat) (s : State), isNet k = true ∧ (s.src k).signal = true) ∧
    (∃ (k : Nat) (s : State) (g : GenCfg), isGenerator k = true ∧ s.usable .src k = true ∧ g = (s.src k).genNext.getD (s.src k).gen ∧ (s.src k).making = .empty ∧ (s.src k).fmt.raster ≠ 0 ∧ g.pattern ≠ 0xFF ∧ s.domainOn g.domain = true ∧ s.internalRun = true) ∧
    (∃ (k : Nat) (s : State) (g : GenCfg), isGenerator k = true ∧ s.usable .src k = true ∧ g = (s.src k).genNext.getD (s.src k).gen ∧ (s.src k).making ≠ .empty ∧ frameFmt (s.src k).making = (s.src k).fmt ∧ s.domainOn (s.src k).gen.domain = true ∧ (s.src k).fmt.raster ≠ 0 ∧ g.pattern ≠ 0xFF ∧ s.domainOn g.domain = true ∧ s.internalRun = true) ∧
    (∃ (k : Nat) (s : State), isGenerator k = true ∧ s.usable .src k = true ∧ ((s.src k).genNext.getD (s.src k).gen).pattern = 0xFF) ∧
    (∃ (k : Nat) (s : State) (f : Fmt), k < 64 ∧ s.recirc = true ∧ s.usable .src (1024 + k) = true ∧ s.internalRun = true ∧ s.domainOn (s.dst (1024 + k)).domain = true ∧ (s.dst (1024 + k)).fmt.raster ≠ 0 ∧ f = s.outFmt (1024 + k) (frameFmt (s.frameOn (1024 + k))).colour) :=
  ⟨⟨1023, up, by decide, by decide, by decide, by decide⟩,
   ⟨1023, { goodFrame with lines := List.replicate 1080 (some []) }, up.modSrc 1023 (fun x => { x with signal := true, fmt := hd }), by decide, by decide, by decide, by decide, by decide, by decide, by decide, by decide, by decide +kernel⟩,
   ⟨1023, { goodFrame with lines := List.replicate 1080 (some []) }, up.modSrc 1023 (fun x => { x with good := 1, fmt := hd }), by decide, by decide, by decide, by decide, by decide, by decide, by decide, by decide, by decide +kernel⟩,
   ⟨127, goodFrame, up.modSrc 127 (fun x => { x with signal := true }), _, by decide, by decide, by decide, by decide, by decide, rfl, by decide +kernel, by decide, by decide⟩,
   ⟨127, goodFrame, up.modSrc 124 (fun x => { x with ovr := { x.ovr with gang := 4 } }), _, by decide, by decide, by decide, rfl, by decide +kernel, by decide +kernel⟩,
   ⟨127, up.modSrc 127 (fun x => { x with signal := true }), by decide, by decide, by decide, by decide⟩,
   ⟨1023, up.modSrc 1023 (fun x => { x with signal := true }), by decide, by decide⟩,
   ⟨1151, up.modSrc 1151 (fun x => { x with fmt := hd, gen := { x.gen with pattern := 4, domain := 8 } }), _, by decide, by decide, rfl, by decide, by decide, by decide, by decide, by decide⟩,
   ⟨1151, up.modSrc 1151 (fun x => { x with fmt := hd, gen := { x.gen with pattern := 4, domain := 8 }, making := .pattern hd 4 0 }), _, by decide, by decide, rfl, by decide, by decide, by decide, by decide, by decide, by decide, by decide⟩,
   ⟨1114, up.modSrc 1114 (fun x => { x with gen := { x.gen with pattern := 0xFF } }), by decide, by decide, by decide⟩,
   ⟨63, { up with fused := { up.fused with part := .glc8140 } }.modDst 1087 (fun x => { x with domain := 8, fmt := hd }), _, by decide, by decide, by decide, by decide, by decide, by decide, rfl⟩⟩

theorem witness_DestinationCommandsComplete :
    (∃ (d : _) (s : State), s.dstRuns d = true ∧ s.dstSrc d = 0xFFFF) ∧
    (∃ (d : _) (s : State), s.dstRuns d = true ∧ s.dstSrc d ≠ 0xFFFF ∧ s.showsLoss d = true) ∧
    (∃ (d : _) (s : State), s.dstRuns d = true ∧ s.dstSrc d ≠ 0xFFFF ∧ s.showsLoss d = false) ∧
    (∃ (d : _) (s : State), s.dstRuns d = true ∧ s.probeArmed d = true) :=
  ⟨⟨1151, up.modDst 1151 (fun x => { x with domain := 8, fmt := hd }), by decide, by decide⟩,
   ⟨1023, up.modDst 1023 (fun x => { x with src := 0, domain := 8, fmt := hd }), by decide, by decide, by decide⟩,
   ⟨1023, (up.modDst 1023 (fun x => { x with src := 5, domain := 8, fmt := hd, path := 2 })).modSrc 5 (fun x => { x with signal := true, fmt := hd }), by decide, by decide, by decide⟩,
   ⟨1023, up.modDst 1023 (fun x => { x with src := 0, domain := 8, fmt := hd }), by decide, by decide⟩⟩

theorem witness_AudioInputCommandsComplete :
    (∃ (k : Nat) (s : State), s.ainPresent k = true ∧ s.ainOdd k = false ∧ s.inService = true ∧ s.ainFed k = false) ∧
    (∃ (k : Nat) (ratio : _) (s : State), s.ainPresent k = true ∧ s.ainOdd k = false ∧ s.inService = true ∧ s.ainFed k = true ∧ (s.ain k).state = .noSignal ∧ 1 ≤ (s.ain k).present ∧ -1000000 ≤ ratio ∧ ratio ≤ 1000000) ∧
    (∃ (k : Nat) (ratio : _) (phase : _) (s : State), s.ainPresent k = true ∧ s.ainOdd k = false ∧ s.inService = true ∧ s.ainFed k = true ∧ (s.ain k).state = .tracking ∧ 9 ≤ (s.ain k).lockRun ∧ -1000 ≤ ratio ∧ ratio ≤ 1000 ∧ -8 ≤ phase ∧ phase ≤ 8) ∧
    (∃ (k : Nat) (s : State), s.ainPresent k = true ∧ (s.ain k).state ≠ .noSignal) ∧
    (∃ (k : Nat) (s : State), ((s.ain k).state = .slip ∨ (s.ain k).state = .locked)) ∧
    (∃ (n : Nat) (s : State), s.ainPresent (2 * n) = true ∧ (s.ain (2 * n)).nonaudio = false) ∧
    (∃ (n : Nat) (s : State), (s.ain (2 * n)).nonaudio = true) ∧
    (∃ (p : _) (bits : _) (s : State), p < 32 ∧ (s.aport p).cfg.enable = 1 ∧ (s.aport p).cfg.role = 0 ∧ (s.aport p).clockBad = false ∧ bits ≠ (s.aport p).cfg.slots * (s.aport p).cfg.slotBits) ∧
    (∃ (p : _) (s : State), (s.aport p).clockBad = true) :=
  ⟨⟨2047, up, by decide, by decide, by decide, by decide⟩,
   ⟨0, (1000000 : Int), (up.modSrc 0 (fun x => { x with signal := true, fmt := hd })).modAin 0 (fun x => { x with present := 1 }), by decide, by decide, by decide, by decide, by decide, by decide, by decide, by decide⟩,
   ⟨0, (-1000 : Int), (8 : Int), (up.modSrc 0 (fun x => { x with signal := true, fmt := hd })).modAin 0 (fun x => { x with state := .tracking, lockRun := 9 }), by decide, by decide, by decide, by decide, by decide, by decide, by decide, by decide, by decide, by decide⟩,
   ⟨2047, up.modAin 2047 (fun x => { x with state := .locked }), by decide, by decide⟩,
   ⟨2047, up.modAin 2047 (fun x => { x with state := .slip }), by decide⟩,
   ⟨1023, up, by decide, by decide⟩,
   ⟨1023, up.modAin 2046 (fun x => { x with nonaudio := true }), by decide⟩,
   ⟨31, 1, up.modAport 31 (fun x => { x with cfg := { x.cfg with enable := 1 } }), by decide, by decide, by decide, by decide, by decide⟩,
   ⟨31, up.modAport 31 (fun x => { x with clockBad := true }), by decide⟩⟩

theorem witness_AudioOutputCommandsComplete :
    (∃ (k : Nat) (s : State), s.aoutPresent k = true ∧ s.inService = true ∧ s.portOn k = true ∧ (s.aout k).due = true) ∧
    (∃ (k : Nat) (run : AudioRun) (n : Nat) (s : State), (s.aout k).starting = true ∧ (s.aout k).stopping = false ∧ crossingAt run.before (run.samples.take (s.startWindow k)) = some n) ∧
    (∃ (k : Nat) (run : AudioRun) (n : Nat) (s : State), (s.aout k).stopping = true ∧ crossingAt run.before (run.samples.take (s.stopWindow k)) = some n) ∧
    (∃ (k : Nat) (run : AudioRun) (s : State), k < 16384 ∧ (s.aout k).starting = true ∧ (s.aout k).stopping = false ∧ crossingAt run.before (run.samples.take (s.startWindow k)) = none) ∧
    (∃ (k : Nat) (run : AudioRun) (s : State), k < 16384 ∧ (s.aout k).stopping = true ∧ crossingAt run.before (run.samples.take (s.stopWindow k)) = none) ∧
    (∃ (k : Nat) (s : State), k % 2 = 0 ∧ (s.aout k).aac.profile ≠ 0 ∧ s.inService = true) :=
  ⟨⟨2047, up.modAout 2047 (fun x => { x with due := true }), by decide, by decide, by decide, by decide⟩,
   ⟨2047, ⟨0, [0]⟩, _, up.modAout 2047 (fun x => { x with starting := true }), by decide, by decide, rfl⟩,
   ⟨2047, ⟨0, [0]⟩, _, up.modAout 2047 (fun x => { x with stopping := true }), by decide, rfl⟩,
   ⟨2047, ⟨5, [6]⟩, up.modAout 2047 (fun x => { x with starting := true }), by decide, by decide, by decide, by decide⟩,
   ⟨2047, ⟨5, [6]⟩, up.modAout 2047 (fun x => { x with stopping := true }), by decide, by decide, by decide⟩,
   ⟨4128, up.modAout 4128 (fun x => { x with aac := { x.aac with profile := 1 } }), by decide, by decide, by decide⟩⟩

theorem witness_LaneAdaptationCompletes :
    (∃ (k : Nat) (s : State), k < 256 ∧ s.laneOn k = true ∧ (s.lane k).state = .detect) ∧
    (∃ (k : Nat) (r : AdaptResult) (s : State), k < 256 ∧ s.laneOn k = true ∧ (s.lane k).state = .acquire ∧ r.locked = true ∧ ((k < 128 ∨ (1 ≤ r.rate ∧ r.rate ≤ 9))) ∧ (s.lane k).rx.ctleMode ≠ 1) ∧
    (∃ (k : Nat) (s : State), k < 128 ∧ s.laneOn k = true ∧ (s.lane k).state = .adapting ∧ (s.lane k).step = .coarse) ∧
    (∃ (k : Nat) (s : State), k < 256 ∧ s.laneOn k = true ∧ (s.lane k).state = .adapting ∧ (s.lane k).step = .converge ∧ (s.lane k).rx.ctleMode ≠ 1) ∧
    (∃ (k : Nat) (s : State), k < 256 ∧ s.laneOn k = true ∧ (s.lane k).state = .adapting ∧ (s.lane k).step = .fine) ∧
    (∃ (k : Nat) (s : State), k < 256 ∧ s.laneOn k = true ∧ (s.lane k).state = .adapting ∧ (s.lane k).step = .qualify ∧ qualifyCount k ≤ (s.lane k).okRun) ∧
    (∃ (k : Nat) (s : State), k < 256 ∧ s.laneOn k = true ∧ (s.lane k).state = .adapting ∧ (s.lane k).step = .qualify) ∧
    (∃ (k : Nat) (x : LevelStats) (s : State), k < 256 ∧ s.laneOn k = true ∧ (s.lane k).state = .ready ∧ readyThreshold k (s.lane k).mode ≤ figureOfMerit x + 30) ∧
    (∃ (k : Nat) (x : LevelStats) (s : State), k < 256 ∧ s.laneOn k = true ∧ (s.lane k).state = .ready ∧ figureOfMerit x + 30 < readyThreshold k (s.lane k).mode ∧ (s.lane k).lowRun = 99) ∧
    (∃ (k : Nat) (n : Nat) (s : State), (s.lane k).okSince = some n ∧ s.stands almLaneFom k = true) ∧
    (∃ (k : Nat) (s : State), k < 256 ∧ s.laneOn k = true ∧ ((s.lane k).state = .acquire ∨ (s.lane k).state = .adapting ∨ (s.lane k).state = .ready)) :=
  ⟨⟨255, up.modLane 255 (fun x => { x with state := .detect }), by decide, by decide, by decide⟩,
   ⟨255, ⟨true, 1, []⟩, up.modLane 255 (fun x => { x with state := .acquire }), by decide, by decide, by decide, by decide, by decide, by decide⟩,
   ⟨112, (up.modPort 56 (fun x => { x with cfg := { x.cfg with enable := 1, config := 0x22 } })).modLane 112 (fun x => { x with state := .adapting, step := .coarse }), by decide, by decide, by decide, by decide⟩,
   ⟨255, up.modLane 255 (fun x => { x with state := .adapting, step := .converge }), by decide, by decide, by decide, by decide, by decide⟩,
   ⟨255, up.modLane 255 (fun x => { x with state := .adapting, step := .fine }), by decide, by decide, by decide, by decide⟩,
   ⟨255, up.modLane 255 (fun x => { x with state := .adapting, step := .qualify, okRun := 4 }), by decide, by decide, by decide, by decide, by decide⟩,
   ⟨255, up.modLane 255 (fun x => { x with state := .adapting, step := .qualify }), by decide, by decide, by decide, by decide⟩,
   ⟨255, ⟨[[(0, 1)], [(10, 1)]], []⟩, up.modLane 255 (fun x => { x with state := .ready }), by decide, by decide, by decide, by decide⟩,
   ⟨255, ⟨[[(0, 1), (1, 1)], [(0, 1), (1, 1)]], []⟩, up.modLane 255 (fun x => { x with state := .ready, lowRun := 99 }), by decide, by decide, by decide, by decide, by decide⟩,
   ⟨255, 0, (up.modLane 255 (fun x => { x with okSince := some 0 })).modAlarm almLaneFom 255 (fun a => { a with standing := true }), by decide, by decide⟩,
   ⟨255, up.modLane 255 (fun x => { x with state := .ready }), by decide, by decide, by decide⟩⟩

theorem witness_LaneToolsComplete :
    (∃ (k : Nat) (e : _) (s : State), (s.lane k).eye = some e) ∧
    (∃ (k : Nat) (s : State), (s.lane k).tools.chk ≠ 0 ∧ s.mode.current = .test) ∧
    (∃ (k : Nat) (s : State), (s.lane k).chkLock = true ∧ (s.lane k).tools.chk ≠ 0) ∧
    (∃ (b : _) (r : I2cResult) (s : State) (x : _) (rest : _), b < s.buses.length ∧ (s.bus b).queue = x :: rest ∧ r.code ≤ 2) ∧
    (∃ (b : _) (s : State) (x : _) (rest : _), b < s.buses.length ∧ (s.bus b).queue = x :: rest) ∧
    (∃ (k : Nat) (hd : _) (s : State), 128 ≤ k ∧ s.lanePresent k = true ∧ (s.lane k).bind.flags.getLsbD 0 = true ∧ (s.lane k).bind.address ≠ 0 ∧ (s.lane k).hookClass ≠ some hd ∧ (s.lane k).bind.bus < s.buses.length ∧ (s.bus (s.lane k).bind.bus).queue = []) :=
  ⟨⟨255, EyeScan.reset, up.modLane 255 (fun x => { x with eye := some EyeScan.reset }), by decide⟩,
   ⟨255, { up with mode := { up.mode with current := .test } }.modLane 255 (fun x => { x with tools := { x.tools with chk := 1 } }), by decide, by decide⟩,
   ⟨255, up.modLane 255 (fun x => { x with chkLock := true, tools := { x.tools with chk := 1 } }), by decide, by decide⟩,
   ⟨1, ⟨2, 0, []⟩, up.modBus 1 (fun x => { x with queue := [⟨383, 0, [], 0, 0, false, 80, 0⟩] }), _, _, by decide, rfl, by decide⟩,
   ⟨1, up.modBus 1 (fun x => { x with queue := [⟨383, 0, [], 0, 0, false, 80, 0⟩] }), _, _, by decide, rfl⟩,
   ⟨383, true, up.modLane 383 (fun x => { x with bind := { x.bind with flags := 1, address := 80 } }), by decide, by decide, by decide, by decide, by decide, by decide, by decide⟩⟩

theorem witness_NetworkCommandsComplete :
    (∃ (p : _) (s : State), p < 64 ∧ (s.port p).cfg.enable = 1 ∧ s.inService = true ∧ s.linkOn p = false ∧ s.lanesReady p = true) ∧
    (∃ (p : _) (cause : _) (s : State), s.linkOn p = true ∧ cause ≤ 3) ∧
    (∃ (p : _) (e : EthFrame) (s : State), s.linkOn p = true ∧ e.bad = true) ∧
    (∃ (p : _) (e : EthFrame) (s : State), s.linkOn p = true ∧ e.bad = false ∧ (s.port p).cfg.maxFrame < e.len) ∧
    (∃ (p : _) (e : EthFrame) (ssm : _) (s : State), s.linkOn p = true ∧ e.bad = false ∧ e.len ≤ (s.port p).cfg.maxFrame ∧ e.body = .esmc ssm) ∧
    (∃ (p : _) (e : EthFrame) (v6 : _) (src : _) (dst : _) (sp : _) (dp : _) (b : _) (f : _) (l : _) (s : State), s.linkOn p = true ∧ e.bad = false ∧ e.len ≤ (s.port p).cfg.maxFrame ∧ e.body = .udp v6 src dst sp dp b ∧ s.macAccepted p e.dstMac = true ∧ (s.port p).ptp.role = 0 ∧ (s.count cntRxFrames p 1).flowMatch p e.vlan v6 src dst sp dp = some (f, l)) ∧
    (∃ (f : _) (r : Rtp) (s : State), ((s.flow f).merge.any (fun q => q.seq == r.seq)) = false ∧ (s.flow f).nextSeq = none) ∧
    (∃ (f : _) (p : Packet) (rest : _) (s : State), (s.flow f).merge = p :: rest) ∧
    (∃ (f : _) (l : _) (s : State), f < 8192 ∧ l < 2 ∧ (s.flow f).cfg.enabled = true ∧ (s.flow f).cfg.guarded = true ∧ s.stands almLegLoss (legKey f l) = false ∧ ((s.flow f).legs.getD l LegSt.reset).lastNs ≤ ((s.flow f).legs.getD (1 - l) LegSt.reset).lastNs ∧ ((s.flow f).legs.getD (1 - l) LegSt.reset).lastNs ≠ 0) ∧
    (∃ (f : _) (l : _) (s : State), l < 2 ∧ s.stands almLegLoss (legKey f l) = true ∧ ((s.flow f).legs.getD l LegSt.reset).lastNs ≠ 0) ∧
    (∃ (p : _) (n : Nat) (g : Bytes) (rest : _) (s : State), (s.port p).repeats = (n, g) :: rest) ∧
    (∃ (p : _) (m : PtpMessage) (s : State), s.linkOn p = true ∧ m.len ≤ (s.port p).cfg.maxFrame ∧ (s.port p).ptp.role ≠ 0 ∧ m.domainNumber ≠ (s.port p).ptp.domainNumber) ∧
    (∃ (p : _) (m : PtpMessage) (s : State), s.linkOn p = true ∧ m.len ≤ (s.port p).cfg.maxFrame ∧ (s.port p).ptp.role = 1 ∧ m.kind = .announce ∧ m.domainNumber = (s.port p).ptp.domainNumber ∧ s.dutyPlane = some (portPlane p)) ∧
    (∃ (p : _) (m : PtpMaster) (s : State), (s.port p).master = some m ∧ s.follows p = true) ∧
    (∃ (p : _) (m : PtpMaster) (s : State), (s.port p).master = some m ∧ s.follows p = true) ∧
    (∃ (f : _) (s : State), f < 8192 ∧ (s.flow f).cfg.enabled = true ∧ (s.flow f).cfg.kind = 0x08 ∧ s.coresRun = true) ∧
    (∃ (f : _) (p : Packet) (rest : _) (s : State), (s.flow f).buffer = p :: rest ∧ ((s.flow f).cfg.kind = 0x07 ∨ (s.flow f).cfg.kind = 0x08) ∧ s.coresRun = true) :=
  ⟨⟨63, (up.modPort 63 (fun x => { x with cfg := { x.cfg with enable := 1, config := 0x22 } })).modLane 126 (fun x => { x with state := .ready }), by decide, by decide, by decide, by decide, by decide⟩,
   ⟨63, 3, lit 63, by decide, by decide⟩,
   ⟨63, ⟨64, true, [], none, .other⟩, lit 63, by decide, by decide⟩,
   ⟨63, ⟨1519, false, [], none, .other⟩, lit 63, by decide, by decide, by decide⟩,
   ⟨63, ⟨1518, false, [], none, .esmc 5⟩, 5, lit 63, by decide, by decide, by decide, by decide⟩,
   ⟨63, ⟨1518, false, List.replicate 6 0xFF, none, .udp false [1, 2, 3, 4] [1, 2, 3, 5] 9 7 []⟩, false, [1, 2, 3, 4], [1, 2, 3, 5], 9, 7, [], 8191, 1, (lit 63).modFlow 8191 (fun x => { x with cfg := { x.cfg with flags := 5, port0 := 0xFF, port1 := 63, dstUdp1 := 7, dstIp1 := [1, 2, 3, 5] ++ List.replicate 12 0 } }), by decide, by decide, by decide, by decide, by decide, by decide, by decide⟩,
   ⟨8191, ⟨2, 96, true, 65535, 0, 0⟩, up, by decide, by decide⟩,
   ⟨8191, aPacket, [], up.modFlow 8191 (fun x => { x with merge := [aPacket] }), by decide⟩,
   ⟨8191, 1, up.modFlow 8191 (fun x => { x with cfg := { x.cfg with flags := 5 }, legs := [{ LegSt.reset with lastNs := 9 }, { LegSt.reset with lastNs := 8 }] }), by decide, by decide, by decide, by decide, by decide, by decide, by decide⟩,
   ⟨8191, 1, (up.modFlow 8191 (fun x => { x with legs := [LegSt.reset, { LegSt.reset with lastNs := 8 }] })).modAlarm almLegLoss (legKey 8191 1) (fun a => { a with standing := true }), by decide, by decide, by decide⟩,
   ⟨63, 0, [], [], lit 63, by decide⟩,
   ⟨63, anAnnounce, (lit 63).modPort 63 (fun x => { x with ptp := { x.ptp with role := 2, domainNumber := 0 } }), by decide, by decide, by decide, by decide⟩,
   ⟨63, anAnnounce, { (lit 63).modPort 63 (fun x => { x with ptp := { x.ptp with role := 1 } }) with levee := { Levee.reset with holder := some 1 } }, by decide, by decide, by decide, by decide, by decide, by decide⟩,
   ⟨63, ⟨9, 6, 0, 128, 32, 0, 128⟩, { (lit 63).modPort 63 (fun x => { x with ptp := { x.ptp with role := 3 }, master := some ⟨9, 6, 0, 128, 32, 0, 128⟩ }) with levee := { Levee.reset with holder := some 1 } }, by decide, by decide⟩,
   ⟨31, ⟨9, 6, 0, 128, 32, 0, 128⟩, { (lit 31).modPort 31 (fun x => { x with ptp := { x.ptp with role := 1 }, master := some ⟨9, 6, 0, 128, 32, 0, 128⟩ }) with levee := { Levee.reset with holder := some 0 } }, by decide, by decide⟩,
   ⟨8191, up.modFlow 8191 (fun x => { x with cfg := { x.cfg with flags := 1, kind := 8 } }), by decide, by decide, by decide, by decide⟩,
   ⟨8191, aPacket, [], up.modFlow 8191 (fun x => { x with cfg := { x.cfg with flags := 1, kind := 7 }, buffer := [aPacket] }), by decide, by decide, by decide⟩⟩

theorem witness_EgressAndPlaneCommandsComplete :
    (∃ (p : _) (e : EgressFrame) (k : Nat) (s : State), s.portPresent p = true ∧ (s.port p).cfg.enable = 1 ∧ s.linkOn p = true ∧ (e.source = .general ∨ e.source = .ptpEvent) ∧ k = 12 * p + s.classify p e.source ∧ (s.queue k).depth + e.len ≤ (s.queue k).cfg.limit ∧ s.oversize p (s.classify p e.source) e.len = false) ∧
    (∃ (p : _) (e : EgressFrame) (k : Nat) (s : State), s.portPresent p = true ∧ (s.port p).cfg.enable = 1 ∧ s.linkOn p = true ∧ (e.source = .general ∨ e.source = .ptpEvent) ∧ k = 12 * p + s.classify p e.source ∧ (s.queue k).cfg.limit < (s.queue k).depth + e.len) ∧
    (∃ (p : _) (q : _) (u : _) (s : State) (f : QFrame) (rest : _), s.linkOn p = true ∧ u = (s.advanceTo (s.gate p).freeNs).dropOversize p ∧ [0, 1, 2, 3].find? (u.eligible p) = some q ∧ (u.queue (12 * p + q)).frames = f :: rest) ∧
    (∃ (k : Nat) (f : QFrame) (rest : _) (s : State), (s.queue k).frames = f :: rest ∧ (s.queue k).cfg.delayBound ≠ 0) ∧
    (∃ (p : _) (n : Nat) (s : State), nextGateChange (s.gate p).live (s.gate p).startNs (max (s.gate p).changeNs (s.gate p).startNs) = some n) ∧
    (∃ (p : _) (c : GateCfg) (s : State), (s.gate p).pending = some c) ∧
    (∃ (p : _) (q : _) (s : State), s.portPresent p = true ∧ (s.port p).cfg.enable = 1 ∧ q < 12) ∧
    (∃ (f : _) (j : _) (c : _) (r : Raster) (s : State), c = (s.flow f).old.getD (s.flow f).cfg ∧ rasterOf (s.dstFmt c.binding).raster = some r ∧ 8192 ≤ f ∧ c.enabled = true ∧ c.kind = 0x01 ∧ s.inService = true ∧ s.domainOn (s.dst c.binding).domain = true ∧ (s.flow f).waits = false ∧ j < r.height * linePackets c (s.dstFmt c.binding) r.width) ∧
    (∃ (f : _) (line : _) (c : _) (s : State), c = s.releaseEntry f ∧ 8192 ≤ f ∧ c.enabled = true ∧ s.inService = true ∧ (c.kind = 0x02 ∨ c.kind = 0x03 ∨ (c.kind = 0x04 ∧ s.ancOn c.binding line ≠ []))) ∧
    (∃ (n : Nat) (u : _) (s : State), s.levee.holder = some n ∧ s.levee.gaveUp = false ∧ s.isFenced .control n = false ∧ u = s.advanceTo (s.levee.renewed + 5000000) ∧ u.nowNs < s.levee.expiry) ∧
    (∃ (h : Nat) (s : State), s.levee.holder = some h ∧ (s.plane 0).request = false ∧ (s.plane 1).request = false) ∧
    (∃ (h : Nat) (n : Nat) (s : State), s.levee.holder = some h ∧ n < 2 ∧ (s.plane n).request = true ∧ (s.plane (1 - n)).request = false) ∧
    (∃ (n : Nat) (s : State), s.supervised n = true ∧ 1 ≤ s.level n ∧ s.levee.holder = none) ∧
    (∃ (n : Nat) (h : Nat) (s : State), s.supervised n = true ∧ 1 ≤ s.level n ∧ s.levee.holder = some h ∧ h ≠ n) ∧
    (∃ (n : Nat) (s : State), s.supervised n = true ∧ n < s.planes.length) ∧
    (∃ (n : Nat) (s : State), (s.plane s.levee.cfg.preferred).level2Ns = some n ∧ s.levee.cfg.holdoffS ≠ 0 ∧ s.levee.holder ≠ some s.levee.cfg.preferred ∧ s.level s.levee.cfg.preferred = 2) ∧
    (∃ (k : Nat) (h : Nat × Nat) (s : State), s.levee.holds.find? (fun h => h.1 == k) = some h ∧ h.2 ≠ 0) :=
  ⟨⟨63, ⟨.ptpEvent, 9216⟩, 756, (lit 63).modQueue 756 (fun x => { x with cfg := { x.cfg with limit := 9216 } }), by decide, by decide, by decide, by decide, by decide, by decide, by decide⟩,
   ⟨63, ⟨.general, 9217⟩, 757, (lit 63).modQueue 757 (fun x => { x with cfg := { x.cfg with limit := 9216 } }), by decide, by decide, by decide, by decide, by decide, by decide⟩,
   ⟨63, 3, _, (lit 63).modQueue 759 (fun x => { x with frames := [{ QFrame.reset with len := 64 }] }), { QFrame.reset with len := 64 }, [], by decide, rfl, by decide, by decide⟩,
   ⟨767, { QFrame.reset with len := 64 }, [], up.modQueue 767 (fun x => { x with cfg := { x.cfg with delayBound := 1 }, frames := [{ QFrame.reset with len := 64 }] }), by decide, by decide⟩,
   ⟨63, 100, up.modGate 63 (fun x => { x with live := ⟨1000, 0, [⟨100, 1⟩, ⟨900, 2⟩]⟩ }), by decide⟩,
   ⟨63, GateCfg.reset, up.modGate 63 (fun x => { x with pending := some GateCfg.reset }), by decide⟩,
   ⟨63, 11, lit 63, by decide, by decide, by decide⟩,
   ⟨16383, 0, _, ⟨1920, 1080, false, 1125, allRates, 7, 42, 45⟩, (up.modDst 1023 (fun x => { x with domain := 8, fmt := { x.fmt with raster := 0x21, sampling := 1 } })).modFlow 16383 (fun x => { x with cfg := { x.cfg with flags := 1, kind := 1, binding := 1023 } }), rfl, by decide, by decide, by decide, by decide, by decide, by decide, by decide, by decide⟩,
   ⟨16383, 9, _, up.modFlow 16383 (fun x => { x with cfg := { x.cfg with flags := 1, kind := 4 }, old := some { x.cfg with flags := 1, kind := 3 } }), rfl, by decide, by decide, by decide, by decide⟩,
   ⟨3, _, { up with levee := { up.levee with holder := some 3, expiry := 5000001 } }, by decide, by decide, by decide, rfl, by decide⟩,
   ⟨1, { up with levee := { up.levee with holder := some 1 } }, by decide, by decide, by decide⟩,
   ⟨0, 1, { up.modPlane 1 (fun x => { x with request := true }) with levee := { up.levee with holder := some 0 } }, by decide, by decide, by decide, by decide⟩,
   ⟨1, up.modPlane 1 (fun x => { x with fresh := false, failed := 4 }), by decide, by decide, by decide⟩,
   ⟨1, 0, { up.modPlane 1 (fun x => { x with fresh := false }) with levee := { up.levee with holder := some 0 } }, by decide, by decide, by decide, by decide⟩,
   ⟨1, up, by decide, by decide⟩,
   ⟨5, { up.modPlane 1 (fun x => { x with fresh := false, level2Ns := some 5 }) with levee := { up.levee with cfg := { up.levee.cfg with preferred := 1, holdoffS := 1 } } }, by decide, by decide, by decide, by decide⟩,
   ⟨7, (7, 1), { up with levee := { up.levee with holds := [(7, 1)] } }, by decide, by decide⟩⟩

theorem witness_HeadgateLoopCommandsComplete :
    (∃ (s : State), s.mode.current.fast = true ∧ s.hg.state = .manual) ∧
    (∃ (s : State) (k : Nat), s.mode.current.fast = true ∧ ((s.hg.state = .acquiring ∨ s.hg.state = .locked)) ∧ s.hg.selected = some k ∧ s.hg.bridging = none ∧ s.hg.takePhase = false) ∧
    (∃ (s : State) (n : Nat), s.hg.belowNs = some n ∧ s.hg.state = .acquiring ∧ s.hg.stage = 3) ∧
    (∃ (s : State) (n : Nat), s.hg.belowNs = some n ∧ s.hg.state = .acquiring ∧ s.hg.stage < 3) ∧
    (∃ (s : State), s.hg.state = .locked ∧ s.hg.bw > s.hg.cfg.trackBw) ∧
    (∃ (s : State), s.hg.state = .holdover) ∧
    (∃ (s : State), s.hg.state = .locked) ∧
    (∃ (s : State) (n : Nat), s.hg.bridging = some n ∧ s.refEnabled 0 = true ∧ (s.ref 0).active = true ∧ 0 < s.refs.length) :=
  ⟨⟨{ up with hg := { up.hg with state := .manual } }, by decide, by decide⟩,
   ⟨{ up with hg := { up.hg with state := .locked, selected := some 7 } }, 7, by decide, by decide, by decide, by decide, by decide⟩,
   ⟨{ up with hg := { up.hg with state := .acquiring, stage := 3, belowNs := some 4 } }, 4, by decide, by decide, by decide⟩,
   ⟨{ up with hg := { up.hg with state := .acquiring, stage := 2, belowNs := some 4 } }, 4, by decide, by decide, by decide⟩,
   ⟨{ up with hg := { up.hg with state := .locked, bw := up.hg.cfg.trackBw + 1 } }, by decide, by decide⟩,
   ⟨{ up with hg := { up.hg with state := .holdover } }, by decide⟩,
   ⟨{ up with hg := { up.hg with state := .locked } }, by decide⟩,
   ⟨({ up with hg := { up.hg with bridging := some 3 } }.modRef 0 (fun x => { x with cfg := { x.cfg with priority := 1 }, active := true })), 3, by decide, by decide, by decide, by decide⟩⟩

theorem witness_ReferenceCommandsComplete :
    (∃ (k : Nat) (s : State), s.refEnabled k = true ∧ s.refOn k = true ∧ k < s.refs.length) ∧
    (∃ (k : Nat) (s : State), s.refEnabled k = true ∧ (s.ref k).active = true ∧ k < s.refs.length) ∧
    (∃ (k : Nat) (n : Nat) (s : State), s.refTimer k = some n ∧ s.refEnabled k = true ∧ s.refOn k = true ∧ (s.ref k).active = true ∧ (s.ref k).qualified = false ∧ ((s.mode.current.ranked = false ∨ s.rankOk k = true))) ∧
    (∃ (s : State), s.refEnabled 0 = true ∧ s.refOn 0 = true ∧ 0 < s.refs.length) :=
  ⟨⟨7, up.modRef 7 (fun x => { x with cfg := { x.cfg with priority := 1 } }), by decide, by decide, by decide⟩,
   ⟨7, up.modRef 7 (fun x => { x with cfg := { x.cfg with priority := 1 }, active := true }), by decide, by decide, by decide⟩,
   ⟨7, 6, up.modRef 7 (fun x => { x with cfg := { x.cfg with priority := 1 }, active := true, timer := some 6 }), by decide, by decide, by decide, by decide, by decide, by decide⟩,
   ⟨up.modRef 0 (fun x => { x with cfg := { x.cfg with priority := 1 } }), by decide, by decide, by decide⟩⟩

theorem witness_TimeMarkCommandsComplete :
    (∃ (k : Nat) (n : Nat) (s : State), 16 ≤ k ∧ k ≤ 63 ∧ (s.trig k).next = some n ∧ (s.trig k).cfg.kind ≠ 0 ∧ (s.trig k).cfg.count ≠ 0 ∧ (s.trig k).cfg.count ≠ 0xFFFFFFFF) ∧
    (∃ (n : Nat) (falling : _) (s : State), n < 4 ∧ n < s.caps.length ∧ (s.cap n).enable = true ∧ (s.cap n).falling = falling ∧ s.mode.current.fast = true ∧ ((∀ m, (s.cap n).lastNs = some m → s.nowNs < m ∨ m + 1000 ≤ s.nowNs))) ∧
    (∃ (n : Nat) (falling : _) (m : _) (s : State), n < 4 ∧ (s.cap n).enable = true ∧ (s.cap n).falling = falling ∧ s.mode.current.fast = true ∧ (s.cap n).lastNs = some m ∧ m ≤ s.nowNs ∧ s.nowNs < m + 1000) ∧
    (∃ (s : State), s.ppsSquelched = false) ∧
    (∃ (s : State), s.hostLink = true) ∧
    (∃ (s : State), s.hostLink = true) ∧
    (∃ (n : Nat) (s : State), s.hostLink = true ∧ n < 4 ∧ n < s.caps.length) :=
  ⟨⟨63, 5, up.modTrig 63 (fun x => { x with cfg := { x.cfg with kind := 1, count := 1 }, next := some 5 }), by decide, by decide, by decide, by decide, by decide, by decide⟩,
   ⟨3, true, up.modCap 3 (fun x => { x with enable := true, falling := true }), by decide, by decide, by decide, by decide, by decide, (fun _ e => by cases e)⟩,
   ⟨3, true, 0, up.modCap 3 (fun x => { x with enable := true, falling := true, lastNs := some 0 }), by decide, by decide, by decide, by decide, by decide, by decide, by decide⟩,
   ⟨{ up with hg := { up.hg with state := .locked } }, by decide⟩,
   ⟨up, by decide⟩,
   ⟨up, by decide⟩,
   ⟨3, up, by decide, by decide, by decide⟩⟩

theorem witness_CodingCommandsComplete :
    (∃ (k : Nat) (e : Nat) (s : State), s.endInstant k = some e ∧ ((s.governed k (s.stem k).frame).stem k).cfg.enable = 1 ∧ ((s.governed k (s.stem k).frame).stem k).running = true) ∧
    (∃ (k : Nat) (p : StemPic) (s : State), (s.stem k).pics.find? (fun p => !p.done) = some p) ∧
    (∃ (r : Nat) (part : _) (p : RendPic) (q : StemPic) (s : State), (s.rend r).hand.find? (fun p => p.released && p.left.contains part && !p.cut.any (fun e => e.1 == part)) = some p ∧ (s.stem p.cfg.stem).pics.find? (fun q => q.frame == p.frame && q.field == p.field) = some q) ∧
    (∃ (k : Nat) (q : StemPic) (rest : _) (s : State), (s.stem k).pics = q :: rest ∧ q.done = true ∧ ((∀ e ∈ s.rends, ∀ p ∈ e.2.hand, p.cfg.stem = k → p.frame = q.frame → p.field = q.field → p.unit ≠ none))) ∧
    (∃ (r : Nat) (s : State), s.stands almFloor r = true) ∧
    (∃ (d : _) (s : State), s.flowLanded d = true ∧ s.inService = true) ∧
    (∃ (d : _) (s : State), s.flowLanded d = true ∧ s.inService = true) ∧
    (∃ (d : _) (s : State), s.flowLanded d = true ∧ s.inService = true ∧ (s.deliv d).cfg.kind = 2) :=
  ⟨⟨63, 20000000, (up.modStem 63 (fun x => { x with cfg := { x.cfg with enable := 1 }, running := true, frame := 0 })).modDst 1087 (fun x => { x with domain := 8 }), by decide, by decide, by decide⟩,
   ⟨63, { aStemPic with done := false }, up.modStem 63 (fun x => { x with pics := [aStemPic, { aStemPic with done := false }] }), by decide⟩,
   ⟨255, 0, { aRendPic with cfg := { aRendPic.cfg with stem := 63 } }, aStemPic, (up.modStem 63 (fun x => { x with pics := [aStemPic] })).modRend 255 (fun x => { x with hand := [{ aRendPic with cfg := { aRendPic.cfg with stem := 63 } }] }), by decide, by decide⟩,
   ⟨63, aStemPic, [], (up.modStem 63 (fun x => { x with pics := [aStemPic] })).modRend 255 (fun x => { x with hand := [{ aRendPic with unit := some [1], cfg := { aRendPic.cfg with stem := 63 } }] }), by decide, by decide, by decide⟩,
   ⟨255, up.modAlarm almFloor 255 (fun a => { a with standing := true }), by decide⟩,
   ⟨1023, (up.modDeliv 1023 (fun x => { x with cfg := { x.cfg with enable := 1, kind := 1, flow := 16383 } })).modFlow 16383 (fun x => { x with cfg := { x.cfg with flags := 1 }, byDelivery := some 1023 }), by decide, by decide⟩,
   ⟨1023, (up.modDeliv 1023 (fun x => { x with cfg := { x.cfg with enable := 1, kind := 2, flow := 16383 } })).modFlow 16383 (fun x => { x with cfg := { x.cfg with flags := 1 }, byDelivery := some 1023 }), by decide, by decide⟩,
   ⟨1023, (up.modDeliv 1023 (fun x => { x with cfg := { x.cfg with enable := 1, kind := 2, flow := 16383 } })).modFlow 16383 (fun x => { x with cfg := { x.cfg with flags := 1 }, byDelivery := some 1023 }), by decide, by decide, by decide⟩⟩

theorem witness_RiderAndDecodeCommandsComplete :
    (∃ (n : Nat) (kind : _) (idx : _) (s : State), s.consumerIn n kind idx = true ∧ ((kind < 2 → s.coresRun = true)) ∧ (s.core (coreKey n kind idx)).busy = none) ∧
    (∃ (n : Nat) (kind : _) (idx : _) (s : State), s.consumerIn n kind idx = true ∧ ((kind < 2 → s.coresRun = true)) ∧ (s.core (coreKey n kind idx)).busy = none ∧ (s.rider n).queue kind = []) ∧
    (∃ (n : Nat) (kind : _) (idx : _) (o : ItemOutput) (it : Item) (u : State) (s : State), s.consumerIn n kind idx = true ∧ (s.core (coreKey n kind idx)).busy = some it ∧ s.outputOk it o = true ∧ u = (s.when (s.core (coreKey n kind idx)).traced (fun t => t.traceAdd n 1 kind (coreKey n kind idx) it)).modCore (coreKey n kind idx) (fun c => { c with busy := none, traced := false })) ∧
    (∃ (it : Item) (p : RendPic) (s : State), (s.rend it.unit).hand.find? (fun p => p.frame == it.picture && p.field == it.field && p.released && p.unit.isNone) = some p) ∧
    (∃ (n : Nat) (k : Nat) (it : Item) (s : State), s.victim n = some k ∧ (s.core k).busy = some it ∧ n < s.riders.length) ∧
    (∃ (n : Nat) (kind : _) (idx : _) (s : State), s.consumerIn n kind idx = true ∧ ((kind < 2 → s.coresRun = true))) ∧
    (∃ (h : _) (u : Bytes) (s : State), (s.job h).waitOut = some u) ∧
    (∃ (h : _) (u : Bytes) (w : BitVec 64) (s : State), (((s.job h).hostRing.consumed w).fits (unitForm ((s.job h).desc.codec == 3) ((s.job h).desc.flags.getLsbD 2) u).length) = false) ∧
    (∃ (x : _) (p : DecodedPicture) (s : State), (s.ctx x).cfg.enable = 1 ∧ s.coresRun = true ∧ s.ctxFed x = true ∧ p.codec = (s.ctx x).cfg.codec ∧ decodes p.codec p.profile p.level = true ∧ sizeFits (s.ctx x).cfg p = true ∧ p.rap = true ∧ p.rasl = false) ∧
    (∃ (x : _) (p : DecodedPicture) (due : Nat) (s : State), firstOut (s.ctx x).dpb = some p ∧ (s.ctx x).dueNs p = some due ∧ (s.ctx x).cfg.enable = 1 ∧ s.coresRun = true) ∧
    (∃ (x : _) (s : State), (s.ctx x).cfg.enable = 1 ∧ (s.ctx x).cfg.output ≠ 0xFFFF ∧ (s.src (s.ctx x).cfg.output).signal = true) :=
  ⟨⟨3, 0, 63, up, by decide, by decide, by decide⟩,
   ⟨3, 1, 15, up, by decide, by decide, by decide, by decide⟩,
   ⟨3, 2, 63, ⟨[], 0, [], [], false⟩, Item.reset, _, up.modCore (coreKey 3 2 63) (fun c => { c with busy := some Item.reset }), by decide, by decide, by decide, rfl⟩,
   ⟨{ Item.reset with cls := .packaging, unit := 255, picture := 1 }, aRendPic, up.modRend 255 (fun x => { x with hand := [aRendPic] }), by decide⟩,
   ⟨3, 63, { Item.reset with cls := .backfill }, up.modCore 63 (fun c => { c with busy := some { Item.reset with cls := .backfill } }), by decide, by decide, by decide⟩,
   ⟨3, 1, 15, up, by decide, by decide⟩,
   ⟨4095, [0], up.modJob 4095 (fun x => { x with waitOut := some [0] }), by decide⟩,
   ⟨4095, List.replicate 2 0, 0, up, by decide⟩,
   ⟨31, aPicture, (up.modCtx 31 (fun x => { x with cfg := { x.cfg with enable := 1, codec := 1, raster := 0x21 } })).modFlow 8191 (fun x => { x with cfg := { x.cfg with flags := 1, kind := 7, binding := 31 } }), by decide, by decide, by decide, by decide, by decide, by decide, by decide, by decide⟩,
   ⟨31, aPicture, 0, up.modCtx 31 (fun x => { x with cfg := { x.cfg with enable := 1 }, dpb := [aPicture], pcrOffset := some 0 }), by decide, by decide, by decide, by decide⟩,
   ⟨31, (up.modCtx 31 (fun x => { x with cfg := { x.cfg with enable := 1, output := 1089 } })).modSrc 1089 (fun x => { x with signal := true }), by decide, by decide, by decide⟩⟩

theorem witness_CompositorAndMemoryCommandsComplete :
    (∃ (h : Nat) (s : State), h < 2 ∧ h < s.heads.length ∧ s.headRuns h = true ∧ ((s.paired = true → h = 0)) ∧ tabWf (fun _ => LayerSt.reset) s.layers = true) ∧
    (∃ (h : Nat) (s : State), h < 2 ∧ h < s.heads.length ∧ (s.head h).running = true) ∧
    (∃ (v : BitVec 32) (s : State), s.hostLink = true ∧ v.getLsbD 0 = true ∧ isRill (scanEntry (s.head (v.toNat / 2 % 2)).cfg (v.toNat / 4 % 4)) = true) ∧
    (∃ (v : BitVec 32) (s : State), s.hostLink = true ∧ v.getLsbD 0 = true ∧ isRill (scanEntry (s.head (v.toNat / 2 % 2)).cfg (v.toNat / 4 % 4)) = false) ∧
    (∃ (words : List Nat) (s : State), s.readback.arm = true ∧ s.headRuns s.readback.head = true ∧ isRill (scanEntry (s.head s.readback.head).cfg s.readback.slot) = true ∧ words.length = 256) ∧
    (∃ (e : DramError) (s : State), e.addr / reachSpan < 4 ∧ reachFitted s.fused.part (e.addr / reachSpan) = true ∧ s.memActive (e.addr / reachSpan) = true ∧ e.content ≤ 5 ∧ e.symbols = 1) ∧
    (∃ (e : DramError) (s : State), e.addr / reachSpan < 4 ∧ reachFitted s.fused.part (e.addr / reachSpan) = true ∧ s.memActive (e.addr / reachSpan) = true ∧ e.content ≤ 5 ∧ e.symbols = 2 ∧ e.reader = .scrubber ∧ stackOf e.addr < s.dramStacks.length) ∧
    (∃ (c : _) (s : State), c < 8 ∧ c < s.culverts.length ∧ s.hostLink = true ∧ s.usable .culvert c = true ∧ (s.culvert c).armed = false ∧ (s.culvert c).active = none ∧ (s.culvert c).stkError = false) ∧
    (∃ (c : _) (x : Shadow) (s : State), c < 8 ∧ s.hostLink = true ∧ s.present .culvert c = true ∧ (s.culvert c).armed = false ∧ (s.culvert c).active = some x) ∧
    (∃ (c : _) (s : State), c < 8 ∧ s.hostLink = true ∧ s.present .culvert c = true ∧ (s.culvert c).armed = true) ∧
    (∃ (c : _) (x : Shadow) (s : State), c < 8 ∧ s.hostLink = true ∧ s.present .culvert c = true ∧ (s.culvert c).active = some x) ∧
    (∃ (c : _) (s : State), c < 8 ∧ c < s.culverts.length ∧ s.hostLink = true ∧ s.present .culvert c = true ∧ (s.culvert c).active = none) ∧
    (∃ (c : _) (s : State), c < 8 ∧ s.hostLink = true ∧ s.present .culvert c = true ∧ (s.culvert c).stkError = true ∧ (s.culvert c).armed = false) ∧
    (∃ (c : _) (x : Shadow) (s : State), c < s.culverts.length ∧ (s.culvert c).active = some x ∧ 2 ≤ x.length.toNat ∧ (s.culvert c).done.toNat < x.length.toNat / 2) ∧
    (∃ (c : _) (data : _) (x : Shadow) (s : State), c < s.culverts.length ∧ (s.culvert c).active = some x ∧ (s.culvert c).aborting = false ∧ (s.culvert c).armed = false ∧ s.culvertClean x data = true) ∧
    (∃ (c : _) (code : _) (done : _) (x : Shadow) (s : State), c < s.culverts.length ∧ (s.culvert c).active = some x ∧ (code = 2 ∧ x.dir.toNat = 0 ∨ code = 3 ∨ code = 4 ∧ x.dir.toNat = 1) ∧ done ≤ x.length.toNat) ∧
    (∃ (c : _) (done : _) (x : Shadow) (s : State), c < s.culverts.length ∧ (s.culvert c).active = some x ∧ (s.culvert c).aborting = true ∧ done ≤ x.length.toNat) ∧
    (∃ (q : _) (s : State), s.busReqs = [] ∧ busError s.remap q = true) ∧
    (∃ (q : _) (s : State), s.busReqs = [] ∧ busError s.remap q = false) ∧
    (∃ (k : Nat) (s : State), k < 8 ∧ k < s.dramStacks.length ∧ reachFitted s.fused.part (k / 2) = true ∧ s.memActive (k / 2) = true) ∧
    (∃ (k : Nat) (bank : _) (s : State), k < 8 ∧ reachFitted s.fused.part (k / 2) = true ∧ s.memActive (k / 2) = true ∧ tget (fun _ => 0) (s.stack k).postponed bank < 8) ∧
    (∃ (k : Nat) (bank : _) (s : State), k < 8 ∧ reachFitted s.fused.part (k / 2) = true ∧ s.memActive (k / 2) = true ∧ 8 ≤ tget (fun _ => 0) (s.stack k).postponed bank) ∧
    (∃ (n : Nat) (port : _) (writer : _) (fill : _) (s : State), n < 4 ∧ reachFitted s.fused.part n = true ∧ s.memActive n = true ∧ (s.reachMem n).panic.contains port = false ∧ ((writer = true → 75 < fill)) ∧ ((writer = false → fill < 25))) ∧
    (∃ (writer : _) (fill : _), ((writer = true → fill ≤ 50)) ∧ ((writer = false → 50 ≤ fill))) ∧
    (∃ (n : Nat) (s : State), n < 4 ∧ n < s.rmem.length ∧ reachFitted s.fused.part n = true ∧ s.memActive n = true) ∧
    (∃ (k : Nat) (slot : Nat) (n : Nat) (rest : _) (s : State), (s.src k).posts = (slot, n) :: rest ∧ slot ≠ 0xFF) ∧
    (∃ (k : Nat) (n : Nat) (rest : _) (s : State), (s.src k).posts = (0xFF, n) :: rest) ∧
    (∃ (k : Nat) (slot : _) (s : State), isPlayout k = true ∧ s.slotBusy k slot = true ∧ (s.src k).playSlot ≠ some slot ∧ ((∀ p ∈ (s.src k).posts, p.1 ≠ slot)) ∧ s.slotRead k slot = false) ∧
    (∃ (d : _) (k : Nat) (s : State), isCapture d = true ∧ s.dstRuns d = true ∧ nextSlot (s.dst d).capLast (s.dst d).capHeld = some k) ∧
    (∃ (d : _) (s : State), isCapture d = true ∧ s.dstRuns d = true ∧ nextSlot (s.dst d).capLast (s.dst d).capHeld = none) :=
  ⟨⟨1, up.modHead 1 (fun x => { x with domain := 8, cfg := { x.cfg with enable := 1, raster := 0x21 } }), by decide, by decide, by decide, by decide, by decide⟩,
   ⟨1, up.modHead 1 (fun x => { x with running := true }), by decide, by decide, by decide⟩,
   ⟨(15 : BitVec 32), up.modHead 1 (fun x => { x with cfg := { x.cfg with scan3 := 127 } }), by decide, by decide, by decide⟩,
   ⟨(1 : BitVec 32), up, by decide, by decide, by decide⟩,
   ⟨List.replicate 256 0, { up.modHead 1 (fun x => { x with domain := 8, cfg := { x.cfg with enable := 1, raster := 0x21, scan3 := 127 } }) with readback := { up.readback with arm := true, head := 1, slot := 3 } }, by decide, by decide, by decide, by decide⟩,
   ⟨⟨4 * reachSpan - 1, 1, 5, .scrubber, true, true, 0, 0, 0⟩, up, by decide, by decide, by decide, by decide, by decide⟩,
   ⟨⟨4 * reachSpan - 1, 2, 5, .scrubber, true, true, 0, 0, 0⟩, up, by decide, by decide, by decide, by decide, by decide, by decide, by decide⟩,
   ⟨7, up, by decide, by decide, by decide, by decide, by decide, by decide, by decide⟩,
   ⟨7, Shadow.reset, up.modCulvert 7 (fun x => { x with active := some Shadow.reset }), by decide, by decide, by decide, by decide, by decide⟩,
   ⟨7, up.modCulvert 7 (fun x => { x with armed := true }), by decide, by decide, by decide, by decide⟩,
   ⟨7, Shadow.reset, up.modCulvert 7 (fun x => { x with active := some Shadow.reset }), by decide, by decide, by decide, by decide⟩,
   ⟨7, up, by decide, by decide, by decide, by decide, by decide⟩,
   ⟨7, up.modCulvert 7 (fun x => { x with stkError := true }), by decide, by decide, by decide, by decide, by decide⟩,
   ⟨7, { Shadow.reset with length := 2 }, up.modCulvert 7 (fun x => { x with active := some { Shadow.reset with length := 2 } }), by decide, by decide, by decide, by decide⟩,
   ⟨7, [1, 2], { Shadow.reset with length := 2 }, up.modCulvert 7 (fun x => { x with active := some { Shadow.reset with length := 2 } }), by decide, by decide, by decide, by decide, by decide⟩,
   ⟨7, 4, 2, { Shadow.reset with length := 2, dir := 1 }, up.modCulvert 7 (fun x => { x with active := some { Shadow.reset with length := 2, dir := 1 } }), by decide, by decide, by decide, by decide⟩,
   ⟨7, 2, { Shadow.reset with length := 2 }, up.modCulvert 7 (fun x => { x with aborting := true, active := some { Shadow.reset with length := 2 } }), by decide, by decide, by decide, by decide⟩,
   ⟨⟨255, .control, 1, 0xFFFFFFFF, true, 0⟩, up, by decide, by decide⟩,
   ⟨⟨0, .control, 1, 0, false, 0⟩, up, by decide, by decide⟩,
   ⟨7, up, by decide, by decide, by decide, by decide⟩,
   ⟨7, 3, up.modStack 7 (fun x => { x with postponed := [(3, 7)] }), by decide, by decide, by decide, by decide⟩,
   ⟨7, 3, up.modStack 7 (fun x => { x with postponed := [(3, 8)] }), by decide, by decide, by decide, by decide⟩,
   ⟨3, 12, true, 76, up, by decide, by decide, by decide, by decide, by decide, by decide⟩,
   ⟨false, 50, by decide, by decide⟩,
   ⟨3, up, by decide, by decide, by decide, by decide⟩,
   ⟨1090, 3, 5, [], up.modSrc 1090 (fun x => { x with posts := [(3, 5)] }), by decide, by decide⟩,
   ⟨1113, 5, [], up.modSrc 1113 (fun x => { x with posts := [(0xFF, 5)] }), by decide⟩,
   ⟨1113, 3, up.modSrc 1113 (fun x => { x with slots := 8 }), by decide, by decide, by decide, by decide, by decide⟩,
   ⟨1111, 3, up.modDst 1111 (fun x => { x with domain := 8, src := 0, fmt := hd, capLast := 2 }), by decide, by decide, by decide⟩,
   ⟨1111, up.modDst 1111 (fun x => { x with domain := 8, src := 0, fmt := hd, capHeld := 15 }), by decide, by decide, by decide⟩⟩

theorem witness_TransportSettingsComplete :
    (∃ (r : Request) (s : State) (f : Fmt) (rate : _), r.accepted specSetSrcFormat s ∧ f = decFmt r.block ∧ within r.index 1090 1151 = true ∧ (s.taking r).srcMember r.index = false ∧ (rate = (if (s.taking r).srcDomain r.index ≠ 0xFF ∧ (s.taking r).domainOn ((s.taking r).srcDomain r.index) = true then ((s.taking r).domain ((s.taking r).srcDomain r.index)).rate else 0)) ∧ checkFormat f true (rateNum rate) (rateDen rate) = none ∧ ((rate ≠ 0 → rasterAllows f.raster rate = true)) ∧ r.index % f.gang = 0 ∧ (r.index + f.gang ≤ (if r.index < 1114 then 1114 else 1152)) ∧ (s.taking r).srcRouted r.index = false) ∧
    (∃ (r : Request) (s : State) (g : GenCfg), r.accepted specSetSrcGenerator s ∧ g = decGenCfg r.block ∧ isGenerator r.index = true ∧ (s.taking r).srcMember r.index = false ∧ (g.pattern ≤ 4 ∨ g.pattern = 0xFF) ∧ 1 ≤ g.domain ∧ g.domain ≤ 8) ∧
    (∃ (r : Request) (s : State), r.accepted specSetDstProbe s ∧ (s.taking r).dstMember r.index = false ∧ probeOk (decProbeCfg r.block) ((s.taking r).dstFmt r.index) = true) ∧
    (∃ (r : Request) (s : State), r.accepted specSetSrcPlayoutPost s ∧ isPlayout r.index = true ∧ (s.taking r).srcMember r.index = false ∧ u8 r.block 1 < 4 ∧ u64 r.block 8 ≤ (s.taking r).nowNs + 10000000000 ∧ ((s.taking r).src r.index).slots.getLsbD (u8 r.block 1) = false ∧ ((((s.taking r).src r.index).posts ≠ [] ∨ (s.taking r).nowNs < u64 r.block 8))) ∧
    (∃ (r : Request) (s : State), r.accepted specSetSrcPlayoutPost s ∧ isPlayout r.index = true ∧ (s.taking r).srcMember r.index = false ∧ u8 r.block 1 = 0xFF ∧ u64 r.block 8 ≤ (s.taking r).nowNs ∧ ((s.taking r).src r.index).posts = []) ∧
    (∃ (r : Request) (s : State), r.accepted specSetDstCaptureHold s ∧ isCapture r.index = true ∧ (s.taking r).dstMember r.index = false ∧ u8 r.block 1 ≤ 15) ∧
    (∃ (r : Request) (s : State) (n : AudioPortCfg), r.accepted specSetAudioPort s ∧ n = decAudioPortCfg r.block ∧ n.enable = 1 ∧ ((s.taking r).aport r.index).cfg.enable ≠ 1 ∧ aportOk r.index n = true) ∧
    (∃ (r : Request) (s : State) (n : AudioPortCfg), r.accepted specSetAudioPort s ∧ n = decAudioPortCfg r.block ∧ n.enable = 0 ∧ n.domain ≤ 8) ∧
    (∃ (r : Request) (s : State) (n : PortCfg) (x : Nat × Nat × Nat), r.accepted specSetEthPort s ∧ n = decPortCfg r.block ∧ portOk n = true ∧ ((s.taking r).port r.index).cfg.enable ≠ 1 ∧ n.enable = 1 ∧ portConfig n.config = some x ∧ ((∀ i, i < x.1 → (s.taking r).present .flume (portLane r.index + i) = true)) ∧ r.index % 8 % x.2.2 = 0 ∧ (s.taking r).slotTaken r.index n.config = false) ∧
    (∃ (r : Request) (s : State) (n : PortCfg), r.accepted specSetEthPort s ∧ n = decPortCfg r.block ∧ portOk n = true ∧ n.enable = 0) ∧
    (∃ (r : Request) (s : State) (n : PtpCfg), r.accepted specSetEthPortPtp s ∧ n = decPtpCfg r.block ∧ n.domainNumber ≤ 127 ∧ -7 ≤ n.logDelay ∧ n.logDelay ≤ 0 ∧ 2 ≤ n.announceTimeout ∧ n.announceTimeout ≤ 10 ∧ ((n.role % 2 = 0 ∨ ∀ i, i < 32 → 32 * portPlane r.index + i ≠ r.index → ((s.taking r).port (32 * portPlane r.index + i)).ptp.role % 2 = 0)) ∧ ((n.role = 0 ∨ ((s.taking r).port r.index).cfg.hasIp (n.flags.getLsbD 0) = true))) ∧
    (∃ (r : Request) (s : State), r.accepted specSetPlaneDiagnosis s ∧ (s.taking r).planes.length = 2 ∧ (decDiagCfg r.block).fomMargin ≤ 200 ∧ 1 ≤ (decDiagCfg r.block).fecLimit ∧ (decDiagCfg r.block).fecLimit ≤ 1000000000 ∧ 50 ≤ (decDiagCfg r.block).ptpTimeoutMs ∧ (decDiagCfg r.block).ptpTimeoutMs ≤ 5000) ∧
    (∃ (r : Request) (s : State), r.accepted specReadQueueSamples s ∧ u8 r.block 1 = 1 ∧ (sampleBlock ((s.taking r).queue r.index)).length ≤ replyRoom r) :=
  ⟨⟨rq 1 1151 [1, 0x21, 1, 0x11, 1, 0, 0, 0], up, { Fmt.reset with raster := 0x21, sampling := 1, colour := 0x11, gang := 1 }, 3, accepts (by decide), by decide, by decide, by decide, by decide, by decide, by decide, by decide, by decide, by decide⟩,
   ⟨rq 1 1114 (layout 8 [(0, [2, 0xFF, 8])]), up, _, accepts (by decide), rfl, by decide, by decide, by decide, by decide, by decide⟩,
   ⟨rq 1 1119 (layout 24 [(0, [0x10])]), up, accepts (by decide), by decide, by decide⟩,
   ⟨rq 1 1113 (layout 16 [(0, [0x20, 3]), (8, le 8 10000000000)]), up, accepts (by decide), by decide, by decide, by decide, by decide, by decide, by decide⟩,
   ⟨rq 1 1090 (layout 16 [(0, [0x20, 0xFF])]), up, accepts (by decide), by decide, by decide, by decide, by decide, by decide⟩,
   ⟨rq 1 1111 [0x20, 15, 0, 0], up, accepts (by decide), by decide, by decide, by decide⟩,
   ⟨rq 1 31 (layout 12 [(0, [1, 1, 0, 0, 2, 32, 24, 1, 7, 8])]), up, _, accepts (by decide), rfl, by decide, by decide, by decide⟩,
   ⟨rq 1 63 (layout 12 [(0, [1, 0, 0, 0, 2, 32, 24, 1, 7, 8])]), up, _, accepts (by decide), rfl, by decide, by decide⟩,
   ⟨rq 1 63 (layout 40 [(0, [1, 1, 0x22]), (4, le 2 9216)]), up, _, (1, 5, 1), accepts (by decide), rfl, by decide, by decide, by decide, by decide, by decide, by decide, by decide⟩,
   ⟨rq 1 63 (layout 40 [(0, [1, 0, 0x22]), (4, le 2 1518)]), up, _, accepts (by decide), rfl, by decide, by decide⟩,
   ⟨rq 1 63 [3, 0, 127, 0, 0xF9, 10, 0, 0], up, _, accepts (by decide), rfl, by decide, by decide, by decide, by decide, by decide, .inl (by decide), .inl (by decide)⟩,
   ⟨rq 1 0 (layout 12 [(0, [2, 7]), (2, le 2 200), (4, le 4 1000000000), (8, le 2 5000)]), up, accepts (by decide), by decide, by decide, by decide, by decide, by decide, by decide⟩,
   ⟨rq 1 767 [0x10, 1, 0, 0], up, accepts (by decide), by decide, by decide⟩⟩

theorem witness_LaneSettingsComplete :
    (∃ (r : Request) (s : State), r.accepted (specSetLaneTransmit r.index) s ∧ 256 ≤ r.index ∧ (decRillTx r.block).deemph ≤ 3 ∧ (decRillTx r.block).swing ≤ 3) ∧
    (∃ (r : Request) (s : State), r.accepted (specSetLaneTransmit r.index) s ∧ r.index < 128 ∧ flumeTxOk (decFlumeTx r.block) = true ∧ (((decFlumeTx r.block).flags.getLsbD 2 = false ∧ (decFlumeTx r.block).flags.getLsbD 3 = false ∨ ((s.taking r).lane r.index).mode = 0 ∨ 3 < ((s.taking r).lane r.index).mode)) ∧ (((s.taking r).lanePort r.index = none ∨ (decFlumeTx r.block).flags = ((s.taking r).lane r.index).tx.flags))) ∧
    (∃ (r : Request) (s : State) (x : LaneRx), r.accepted (specSetLaneReceive r.index) s ∧ x = decLaneRx r.block ∧ r.index < 256 ∧ x.ctleMode ≤ 1 ∧ x.ctleStep ≤ 15 ∧ ((if x.flags.getLsbD 1 = true then 128 ≤ r.index ∧ 1 ≤ x.rillRate ∧ x.rillRate ≤ 9 else x.rillRate = 0))) ∧
    (∃ (r : Request) (s : State), r.accepted (specSetLaneAsymmetry r.index) s ∧ r.index < 128) ∧
    (∃ (r : Request) (s : State), r.accepted (specSetLaneTestTools r.index) s ∧ toolsOk r.index (decLaneTools r.block) ((s.taking r).rateOf r.index) = true) ∧
    (∃ (r : Request) (s : State), r.accepted (specSetLaneEyeScan r.index) s ∧ r.index < 256 ∧ eyeOk r.index ((s.taking r).lane r.index).toolRate (decEyeScan r.block) = true) ∧
    (∃ (r : Request) (s : State), r.accepted (specSetLaneI2cBind r.index) s ∧ 128 ≤ r.index ∧ (decI2cBind r.block).bus ≤ 1 ∧ (decI2cBind r.block).address ≤ 127 ∧ (decI2cBind r.block).speed ≤ 2) ∧
    (∃ (r : Request) (s : State) (b : I2cBind), r.accepted (specWriteLaneI2c r.index) s ∧ b = ((s.taking r).lane r.index).bind ∧ 128 ≤ r.index ∧ u8 r.block 1 ≤ 32 ∧ u8 r.block 2 ≤ 12 ∧ b.address ≠ 0 ∧ 4 ≤ replyRoom r ∧ (((s.taking r).bus b.bus).queue.filter (fun x => !x.hook)).length < 16 ∧ b.bus < (s.taking r).buses.length) ∧
    (∃ (r : Request) (s : State), r.accepted (specSetLaneRateHooks r.index) s ∧ 128 ≤ r.index ∧ (decRateHooks r.block).countSd ≤ 4 ∧ (decRateHooks r.block).countHd ≤ 4) :=
  ⟨⟨rq 1 383 [2, 3, 3, 1, 0, 0, 0, 0], up, accepts (by decide), by decide, by decide, by decide⟩,
   ⟨rq 1 127 [2, 0, 0, 64, 0, 7, 0x0F, 0], up, accepts (by decide), by decide, by decide, by decide, by decide⟩,
   ⟨rq 1 255 [3, 1, 15, 3, 9, 0, 0, 0], up, _, accepts (by decide), rfl, by decide, by decide, by decide, by decide⟩,
   ⟨rq 1 127 (layout 8 [(0, [4])]), up, accepts (by decide), by decide⟩,
   ⟨rq 1 383 (layout 8 [(0, [0x10])]), { up with mode := { up.mode with current := .test } }, accepts (by decide), by decide⟩,
   ⟨rq 1 255 [0x11, 0, 8, 8, 40, 0, 0, 0], { up with mode := { up.mode with current := .test } }, accepts (by decide), by decide, by decide⟩,
   ⟨rq 1 383 [0x20, 1, 127, 2, 0, 0, 0, 0], up, accepts (by decide), by decide, by decide, by decide, by decide⟩,
   ⟨rq 1 383 (layout 36 [(0, [0x21, 32, 12])]), up.modLane 383 (fun x => { x with bind := { x.bind with bus := 1, address := 80 } }), _, accepts (by decide), rfl, by decide, by decide, by decide, by decide, by decide, by decide, by decide⟩,
   ⟨rq 1 128 (layout 20 [(0, [0x22, 4, 4])]), up, accepts (by decide), by decide, by decide, by decide⟩⟩

theorem witness_TimingSettingsComplete :
    (∃ (r : Request) (s : State), r.accepted specSetRefInput s ∧ (s.taking r).refs.length = 8 ∧ (s.taking r).refOk r.index (decRefCfg r.block) = true) ∧
    (∃ (r : Request) (s : State), r.accepted specSetTimebase s ∧ timebaseOk (decTimebaseCfg r.block) = true) ∧
    (∃ (r : Request) (s : State), r.accepted specSetTimebasePhase s ∧ u8 r.block 1 = 1 ∧ s64 r.block 8 ≠ 0 ∧ -10000000 ≤ s64 r.block 8 ∧ s64 r.block 8 ≤ 10000000) ∧
    (∃ (r : Request) (s : State), r.accepted specSetTimebasePhase s ∧ s64 r.block 8 = 0) ∧
    (∃ (r : Request) (s : State), r.accepted specSetTimebasePhase s ∧ u8 r.block 1 = 0 ∧ s64 r.block 8 ≠ 0 ∧ (s.taking r).ptpHeld = false) ∧
    (∃ (r : Request) (s : State), r.accepted specSetTimebaseAbsolute s ∧ u32 r.block 4 < 1000000000 ∧ (s.taking r).ptpHeld = false) ∧
    (∃ (r : Request) (s : State) (n : TrigCfg), r.accepted specSetTrigger s ∧ n = decTrigCfg r.block ∧ 16 ≤ r.index ∧ (s.taking r).trigOk n = true ∧ ((n.kind = 0 ∨ ∀ e ∈ (s.taking r).trigs, e.1 = r.index ∨ e.2.cfg.kind = 0 ∨ e.2.cfg.targets &&& n.targets &&& 0x0F = 0))) :=
  ⟨⟨rq 1 7 (layout 24 [(0, [1, 15, 127, 0, 0, 5]), (6, le 2 3600), (12, le 4 100000), (16, le 4 200000)]), up, accepts (by decide), by decide, by decide⟩,
   ⟨rq 1 0 (layout 32 [(0, [1, 1, 7, 5]), (4, le 2 1), (6, le 2 1), (8, le 4 100), (12, le 4 1000), (16, le 4 60), (20, le 2 900)]), up, accepts (by decide), by decide⟩,
   ⟨rq 1 0 (layout 16 [(0, [2, 1]), (8, le 8 10000000)]), up, accepts (by decide), by decide, by decide, by decide, by decide⟩,
   ⟨rq 1 0 (layout 16 [(0, [2, 1])]), up, accepts (by decide), by decide⟩,
   ⟨rq 1 0 (layout 16 [(0, [2, 0]), (8, le 8 10000001)]), up, accepts (by decide), by decide, by decide, by decide⟩,
   ⟨rq 1 0 (layout 16 [(0, [3]), (4, le 4 999999999), (8, le 8 5)]), up, accepts (by decide), by decide, by decide⟩,
   ⟨rq 1 63 (layout 32 [(0, [1, 2, 8, 0x0F]), (4, le 4 10), (28, le 4 1)]), up, _, accepts (by decide), rfl, by decide, by decide, by decide⟩⟩

theorem witness_JobAndHeadCommandsComplete :
    (∃ (r : Request) (s : State), r.accepted specSubmitJob s ∧ (s.taking r).jobFail r.index (jobOf r.block) = none) ∧
    (∃ (r : Request) (s : State), r.accepted specCancelJob s ∧ ((s.taking r).job r.index).used = true ∧ ((s.taking r).job r.index).running = true ∧ ((carrierOwner r = ((s.taking r).job r.index).owner ∨ carrierOwner r = 0xFF))) ∧
    (∃ (r : Request) (s : State), r.accepted specCancelJob s ∧ ((s.taking r).job r.index).used = false) ∧
    (∃ (r : Request) (s : State), r.accepted specSetJobTrace s ∧ u8 r.block 2 ≤ 10) ∧
    (∃ (r : Request) (s : State), r.accepted specSetHeadFreeze s ∧ (decFreezeCfg r.block).coarse ≤ 6) ∧
    (∃ (r : Request) (s : State), r.accepted specSetHeadStickyClear s ∧ u8 r.block 1 % 2 = 1) ∧
    (∃ (r : Request) (s : State), r.accepted specSetHeadStickyClear s ∧ u8 r.block 1 % 2 = 0) ∧
    (∃ (r : Request) (s : State), r.accepted specWriteLayerSurface s ∧ isGraphic r.index = true ∧ ((s.taking r).layer r.index).graphic.kind ≠ 1 ∧ u8 r.block 1 ≤ 1 ∧ u16 r.block 4 + u16 r.block 8 ≤ 3840 ∧ u16 r.block 6 + u16 r.block 10 ≤ 2160 ∧ 4 * u16 r.block 8 ≤ u32 r.block 12 ∧ 16 + u16 r.block 10 * u32 r.block 12 ≤ r.block.length ∧ (s.taking r).bufferShown r.index (u8 r.block 1) = false) :=
  ⟨⟨rq 3 4095 jobBytes, up, accepts (by decide), by decide⟩,
   ⟨rq 3 4095 [], up.modJob 4095 (fun x => { x with used := true, running := true, owner := 1 }), accepts (by decide), by decide, by decide, by decide⟩,
   ⟨rq 3 4095 [], up, accepts (by decide), by decide⟩,
   ⟨rq 1 0xFFFFFFFF [0x20, 1, 10, 15], up, accepts (by decide), by decide⟩,
   ⟨rq 1 1 (layout 8 [(0, [0x10, 1, 6])]), up, accepts (by decide), by decide⟩,
   ⟨rq 1 1 [0x11, 1, 0, 0], up, accepts (by decide), by decide⟩,
   ⟨rq 1 1 [0x11, 0, 0, 0], up, accepts (by decide), by decide⟩,
   ⟨rq 1 159 (layout 24 [(0, [0x21, 1]), (4, le 2 3838), (6, le 2 2159), (8, le 2 2), (10, le 2 1), (12, le 4 8)]), up, accepts (by decide), by decide, by decide, by decide, by decide, by decide, by decide, by decide, by decide⟩⟩

theorem witness_GaugeCommandsComplete :
    (∃ (r : Request) (s : State) (p : Poly), r.accepted specSetGauge s ∧ polyOf (decGaugeCfg r.block).poly = some p ∧ ((s.taking r).gauge r.index).fed = false) ∧
    (∃ (r : Request) (s : State), r.accepted specWriteGaugeData s ∧ ((s.taking r).gauge r.index).fed = false ∧ ((((s.taking r).gauge r.index).cfg.poly = 2 → r.block.length % 2 = 0))) ∧
    (∃ (r : Request) (s : State), r.accepted specSetGaugeFeed s ∧ (s.taking r).inWindow (u64 r.block 8) (u64 r.block 16) = true ∧ 0 < u64 r.block 16 ∧ ((s.taking r).gauge r.index).fed = false ∧ ((((s.taking r).gauge r.index).cfg.poly = 2 → u64 r.block 16 % 2 = 0))) ∧
    (∃ (u : Nat) (a : Nat) (n : Nat) (s : State), (s.gauge u).feed = some (a, n) ∧ s.memActive (a / reachSpan) = true ∧ s.usable .gauge u = true) ∧
    (∃ (r : Request) (s : State), r.accepted specSetGaugeValue s ∧ ((s.taking r).gauge r.index).fed = false) ∧
    (∃ (r : Request) (s : State) (g : GaugeSt), r.accepted specSetGaugeFinalise s ∧ g = (s.taking r).gauge r.index ∧ g.fed = false ∧ 4 ≤ replyRoom r) :=
  ⟨⟨rq 1 63 (layout 12 [(0, [1, 3, 1])]), up, ⟨16, 0x1021, false, 0xFFFF, 0, 8⟩, accepts (by decide), by decide, by decide⟩,
   ⟨rq 1 63 (layout 10 [(0, [2])]), up.modGauge 63 (fun g => { g with cfg := { g.cfg with poly := 2 } }), accepts (by decide), by decide, by decide⟩,
   ⟨rq 1 63 (layout 24 [(0, [4]), (8, le 8 (windowBase 3 + windowSize - 2)), (16, le 8 2)]), up.modGauge 63 (fun g => { g with cfg := { g.cfg with poly := 2 } }), accepts (by decide), by decide, by decide, by decide, by decide⟩,
   ⟨63, 0, 1, up.modGauge 63 (fun g => { g with feed := some (0, 1) }), by decide, by decide, by decide⟩,
   ⟨rq 1 63 (layout 8 [(0, [3])]), up, accepts (by decide), by decide⟩,
   ⟨rq 1 63 [5], up, _, accepts (by decide), rfl, by decide, by decide⟩⟩

theorem witness_SpillwayCommandsComplete :
    (∃ (xs : _) (s : State), ((∀ e ∈ s.readings (s.sampled xs), e.2 < 920))) ∧
    (∃ (xs : _) (s : State) (k : Nat) (x : _) (y : _), s.mode.current.fast = true ∧ s.thermal.throttle = false ∧ (k, x) ∈ s.readings s.thermal.sensors ∧ (s.sensor k).sampled = true ∧ (k, y) ∈ s.readings (s.sampled xs) ∧ 840 ≤ x ∧ 840 ≤ y ∧ ((∀ e ∈ s.readings (s.sampled xs), e.2 < 920))) ∧
    (∃ (xs : _) (s : State) (k : Nat) (x : _) (y : _), s.mode.current.fast = true ∧ (k, x) ∈ s.readings s.thermal.sensors ∧ (s.sensor k).sampled = true ∧ (k, y) ∈ s.readings (s.sampled xs) ∧ 920 ≤ x ∧ 920 ≤ y) ∧
    (∃ (s : State) (b : _), s.thermal.below.getD 0 none = some b ∧ s.thermal.warn = true) ∧
    (∃ (s : State) (b : _), s.thermal.below.getD 1 none = some b ∧ s.thermal.throttle = true) ∧
    (∃ (s : State) (b : _), s.thermal.below.getD 2 none = some b ∧ s.thermal.shutdown = true) ∧
    (∃ (s : State) (n : Nat), s.thermal.grace = some n ∧ s.thermal.throttle = true ∧ s.mode.current.enforced = true ∧ s.mode.busy = false) ∧
    (∃ (s : State), s.thermal.enforcing = true ∧ s.thermal.throttle = true ∧ 4 ≤ s.thermal.evalTj - s.thermal.tjMax) ∧
    (∃ (s : State), s.thermal.enforcing = true ∧ s.thermal.throttle = true ∧ s.thermal.evalTj - s.thermal.tjMax < 4 ∧ s.thermal.bfStop = false) ∧
    (∃ (n : Nat) (s : State) (u : _), u = s.advanceTo (s.thermal.lowered.getD n 0 + 100000000) ∧ s.thermal.enforcing = true ∧ s.thermal.stepping = true ∧ s.shedDone = false ∧ n < 4 ∧ reachFitted s.fused.part n = true ∧ u.liveFloor n + 1000 ≤ s.clock n ∧ n < s.thermal.mhz16.length) :=
  ⟨⟨List.replicate 24 919, up, by decide⟩,
   ⟨List.replicate 24 840, { up with thermal := { up.thermal with sensors := List.replicate 24 { SensorSt.reset with temp := 840, sampled := true } } }, 23, (840 : Int), (840 : Int), by decide, by decide, by decide, by decide, by decide, by decide, by decide, by decide⟩,
   ⟨List.replicate 24 920, { up with thermal := { up.thermal with sensors := List.replicate 24 { SensorSt.reset with temp := 920, sampled := true } } }, 23, (920 : Int), (920 : Int), by decide, by decide, by decide, by decide, by decide, by decide⟩,
   ⟨{ up with thermal := { up.thermal with warn := true, below := [some 0, none, none] } }, 0, by decide, by decide⟩,
   ⟨{ up with thermal := { up.thermal with throttle := true, below := [none, some 0, none] } }, 0, by decide, by decide⟩,
   ⟨{ up with thermal := { up.thermal with shutdown := true, below := [none, none, some 0] } }, 0, by decide, by decide⟩,
   ⟨{ up with thermal := { up.thermal with throttle := true, grace := some 0 } }, 0, by decide, by decide, by decide, by decide⟩,
   ⟨{ up with thermal := { up.thermal with throttle := true, enforcing := true, evalTj := 844, tjMax := 840 } }, by decide, by decide, by decide⟩,
   ⟨{ up with thermal := { up.thermal with throttle := true, enforcing := true, evalTj := 843, tjMax := 840 } }, by decide, by decide, by decide, by decide⟩,
   ⟨3, { up with thermal := { up.thermal with enforcing := true, stepping := true, step := 4, shedW := 1 } }, _, rfl, by decide, by decide, by decide, by decide, by decide, by decide, by decide⟩⟩

theorem witness_HealthRequestsComplete :
    (∃ (r : Request) (s : State) (x : _), r.accepted specAckThermal s ∧ (s.taking r).thermal.records.find? (fun x => !x.acked) = some x ∧ u32 r.block 0 = x.seq % 4294967296) ∧
    (∃ (r : Request) (s : State), r.accepted specSetThermal s ∧ 500 ≤ (decThermalCfg r.block).graceMs ∧ (decThermalCfg r.block).graceMs ≤ 10000 ∧ 10 ≤ (decThermalCfg r.block).psi ∧ (decThermalCfg r.block).psi ≤ 500) ∧
    (∃ (r : Request) (s : State), r.accepted specWriteCounterSticky s ∧ u32 r.block 4 < nounUnits (u16 r.block 2) ∧ u32 r.block 8 = 0xFFFFFFFF) ∧
    (∃ (s : State) (n : Nat), s.storm.startNs = some n) :=
  ⟨⟨rq 1 0 [5, 0, 0, 0], { up with thermal := { up.thermal with records := [{ ShutRec.reset with seq := 5 }] } }, { ShutRec.reset with seq := 5 }, accepts (by decide), by decide, by decide⟩,
   ⟨rq 1 0 (layout 40 [(0, [1]), (2, le 2 500), (4, le 2 500)]), up, accepts (by decide), by decide, by decide, by decide, by decide⟩,
   ⟨rq 1 0 (layout 12 [(0, [3]), (2, le 2 0x44), (4, le 4 1), (8, le 4 0xFFFFFFFF)]), up, accepts (by decide), by decide, by decide⟩,
   ⟨{ up with storm := { up.storm with startNs := some 3 } }, 3, by decide⟩⟩

theorem witness_UpdateCommandsComplete :
    (∃ (r : Request) (s : State), r.accepted specOpenImage s ∧ 2 ≤ u16 r.block 4 ∧ u16 r.block 4 ≤ 960 ∧ (u16 r.block 4 - 1) * 65536 < u32 r.block 0 ∧ u32 r.block 0 ≤ u16 r.block 4 * 65536 ∧ (s.taking r).image.erasing = false ∧ (s.taking r).image.sources = [] ∧ (s.taking r).image.activating = false ∧ slice r.block 8 48 ≠ (s.taking r).image.digest ∧ 28 ≤ replyRoom r) ∧
    (∃ (r : Request) (s : State), r.accepted specPutImage s ∧ r.block.length = 16 + u32 r.block 8 ∧ (s.taking r).pins.holdupOk = true ∧ (s.taking r).image.erasing = false ∧ (s.taking r).image.sources.head? = some (sourceOf r) ∧ u16 r.block 0 < (s.taking r).image.pieces ∧ 0 < u32 r.block 8 ∧ u32 r.block 4 + u32 r.block 8 ≤ pieceLen (s.taking r).image.pieces (s.taking r).image.totalLen (u16 r.block 0) ∧ ((u16 r.block 0 = 0 ∨ (s.taking r).image.manifest ≠ none)) ∧ ¬ u16 r.block 0 ∈ (s.taking r).image.stored ∧ (s.taking r).image.passed = [] ∧ (s.taking r).image.buffer = [] ∧ u32 r.block 8 < pieceLen (s.taking r).image.pieces (s.taking r).image.totalLen (u16 r.block 0)) ∧
    (∃ (p : Nat) (b : _) (s : State), s.image.passed = [(p, b)] ∧ ¬ p ∈ s.image.stored) ∧
    (∃ (p : Nat) (e : _) (s : State), s.image.buffer.find? (fun e => e.piece == p) = some e) ∧
    (∃ (s : State) (h : _) (rest : _), s.image.sources = h :: rest) ∧
    (∃ (r : Request) (s : State), r.accepted specCloseImage s ∧ (s.taking r).image.erasing = false ∧ u8 r.block 0 = 0 ∧ sourceOf r ∈ (s.taking r).image.sources) ∧
    (∃ (r : Request) (s : State), r.accepted specCloseImage s ∧ (s.taking r).image.erasing = false ∧ u8 r.block 0 = 1 ∧ (s.taking r).image.activating = false ∧ (s.taking r).image.sources.head? = some (sourceOf r)) ∧
    (∃ (r : Request) (s : State) (m : _), r.accepted specActivateImage s ∧ (s.taking r).pins.holdupOk = true ∧ (s.taking r).pins.tally = 0 ∧ (s.taking r).image.erasing = false ∧ (s.taking r).image.complete = true ∧ r.block = (s.taking r).image.digest ∧ (s.taking r).image.manifest = some m ∧ m.partMask.getLsbD (partBit (s.taking r).fused.part) = true ∧ m.major = (s.taking r).image.active.major ∧ m.flags.getLsbD 0 = decide ((s.taking r).mode.current = .fallow) ∧ ((m.calFormat = u16 ((s.taking r).calBytes 4 2) 0 ∨ ∃ e ∈ m.entries, e.1 = 6)) ∧ (s.taking r).image.burned ≤ m.rollback ∧ (s.taking r).image.activating = false ∧ 14 ≤ replyRoom r) ∧
    (∃ (s : State) (m : _), s.image.activating = true ∧ s.image.manifest = some m ∧ s.image.entriesSound m = true ∧ s.pins.holdupOk = true ∧ s.pins.tally = 0) ∧
    (∃ (s : State) (m : _), s.image.activating = true ∧ s.image.manifest = some m) ∧
    (∃ (s : State), s.image.erasing = true ∧ s.mode.current.rings = true ∧ s.mode.current ≠ .training ∧ s.mode.current ≠ .recovery) ∧
    (∃ (r : Request) (s : State), r.accepted specSetImage s ∧ 1 ≤ u16 r.block 2 ∧ u16 r.block 2 ≤ 720) :=
  ⟨⟨rq 2 0 (layout 56 [(0, le 4 (960 * 65536)), (4, le 2 960), (8, [1])]), up, accepts (by decide), by decide, by decide, by decide, by decide, by decide, by decide, by decide, by decide, by decide⟩,
   ⟨rq 2 0 (layout 18 [(0, le 2 1), (4, le 4 65533), (8, le 4 2)]), { up with pins := { up.pins with holdupOk := true }, image := { up.image with sources := [hostSource], pieces := 960, totalLen := 960 * 65536, manifest := some Manifest.reset } }, accepts (by decide), by decide, by decide, by decide, by decide, by decide, by decide, by decide, by decide, by decide, by decide, by decide, by decide⟩,
   ⟨959, [], { up with image := { up.image with passed := [(959, [])] } }, by decide, by decide⟩,
   ⟨959, ⟨959, [], 0⟩, { up with image := { up.image with buffer := [⟨959, [], 0⟩] } }, by decide⟩,
   ⟨{ up with image := { up.image with sources := [hostSource] } }, hostSource, [], by decide⟩,
   ⟨rq 1 0 [0, 0, 0, 0], { up with image := { up.image with sources := [hostSource] } }, accepts (by decide), by decide, by decide, by decide⟩,
   ⟨rq 1 0 [1, 0, 0, 0], { up with image := { up.image with sources := [hostSource] } }, accepts (by decide), by decide, by decide, by decide, by decide⟩,
   ⟨rq 1 0 (List.replicate 48 7), { up with pins := { up.pins with holdupOk := true, tally := 0 }, image := { up.image with digest := List.replicate 48 7, pieces := 2, totalLen := 65537, stored := [0, 1], manifest := some Manifest.reset } }, Manifest.reset, accepts (by decide), by decide, by decide, by decide, by decide, by decide, by decide, by decide, by decide, by decide, .inl (by decide +kernel), by decide, by decide, by decide⟩,
   ⟨{ up with pins := { up.pins with holdupOk := true }, image := { up.image with activating := true, manifest := some Manifest.reset } }, Manifest.reset, by decide, by decide, by decide, by decide, by decide⟩,
   ⟨{ up with image := { up.image with activating := true, manifest := some Manifest.reset } }, Manifest.reset, by decide, by decide⟩,
   ⟨{ up with image := { up.image with erasing := true } }, by decide, by decide, by decide, by decide⟩,
   ⟨rq 1 0 [1, 0, 0xD0, 2], up, accepts (by decide), by decide, by decide⟩⟩

theorem witness_ServicePortCommandsComplete :
    (∃ (r : Request) (s : State), r.accepted specWriteCalset s ∧ calSound (r.block.drop 8) = true ∧ u64 (r.block.drop 8) 16 = (s.taking r).fused.serial.toNat ∧ u16 (r.block.drop 8) 4 = (s.taking r).image.active.calFormat ∧ (s.taking r).calBusy = false) ∧
    (∃ (r : Request) (s : State), r.accepted specSetCalsetRecalibrate s ∧ ((bitmapBit r.block 10 = true → -320 ≤ s16 r.block 2 ∧ s16 r.block 2 ≤ 1200)) ∧ ((bitmapBit r.block 10 = true → (s.taking r).toolsRecent = false)) ∧ ((bitmapBit r.block 11 = true → (s.taking r).hg.state = .locked)) ∧ (s.taking r).cal.recal = none) ∧
    (∃ (b : Bytes) (s : State), s.cal.recal = some b) ∧
    (∃ (b : _) (s : State) (q : _), s.pins.aonResetN = true ∧ s.svc.reply = none ∧ frameIntact b = true ∧ verbKnown (u8 b 4) = true ∧ nounKnown (u16 b 6) = true ∧ u16 b 12 = (frameRequest .service b).payload.length ∧ specFor (u8 b 4) (u16 b 6) (frameRequest .service b) = some q) ∧
    (∃ (s : State), s.pins.aonResetN = true ∧ s.svc.reply ≠ none) ∧
    (∃ (s : State), s.pins.aonResetN = true) ∧
    (∃ (s : State), s.pins.aonResetN = true) ∧
    (∃ (o : Nat) (s : State), s.pins.aonResetN = true ∧ ((0x100 ≤ o ∧ o ≤ 0x3FF ∨ 0x3000 ≤ o ∧ o ≤ 0x3FFF)) ∧ o % 4 = 0) ∧
    (∃ (o : Nat) (s : State), s.pins.aonResetN = true ∧ ((o < 0x100 ∨ 0x3FF < o ∧ o < 0x3000 ∨ 0x3FFF < o))) ∧
    (∃ (s : State) (p : _), s.mgmtPort = some p ∧ s.levee.cfg.udp ≠ 0 ∧ s.linkOn p = true ∧ ((s.image.inbandNs = s.nowS → s.image.inbandCount < 2000))) ∧
    (∃ (s : State) (p : _), s.mgmtPort = some p ∧ s.levee.cfg.udp ≠ 0 ∧ s.linkOn p = true ∧ s.image.inbandNs = s.nowS ∧ 2000 ≤ s.image.inbandCount) :=
  ⟨⟨rq 1 0 (calBlock calTail), resting, calBlock_accepted _ calTail_length, by rw [calBlock_block _ calTail_length]; exact calBlock_sound _, by rw [calBlock_block _ calTail_length]; rfl, by rw [calBlock_block _ calTail_length]; rfl, rfl⟩,
   ⟨rq 1 0 (layout 8 [(0, [2]), (1, [0])]), { up with mode := { up.mode with current := .test } }, accepts (by decide), by decide, by decide, by decide, by decide⟩,
   ⟨[], { up with cal := { up.cal with recal := some [] } }, by decide⟩,
   ⟨svcFrame, up, _, by decide, by decide, by decide, by decide, by decide, by decide, rfl⟩,
   ⟨{ up with svc := { up.svc with reply := some [] } }, by decide, by decide⟩,
   ⟨State.reset, by decide⟩,
   ⟨State.reset, by decide⟩,
   ⟨0x3FFC, State.reset, by decide, by decide, by decide⟩,
   ⟨0x4000, State.reset, by decide, by decide⟩,
   ⟨inband, 63, by decide, by decide, by decide, by decide⟩,
   ⟨{ inband with image := { inband.image with inbandNs := inband.nowS, inbandCount := 2000 } }, 63, by decide, by decide, by decide, by decide, by decide⟩⟩

end Sys2Proof.Tests
end

section
/-! PROOFS. What a command leaves of the mode registers and of the state that few commands touch. -/
namespace Sys2Proof.Machine

/-! ### Leaving the rare state alone -/

/-- From `s` to `t` the mode registers, the repair record, the timing domains, JTAG and the remap stay, each unless `pt` names it. -/
structure Leaves (pt : Field → Bool) (s t : State) : Prop where
  regs : pt .mode = false → t.mode.regs = s.mode.regs
  repair : pt .repair = false → t.repair = s.repair
  domains : pt .domains = false → t.domains = s.domains
  jtag : pt .jtag = false → t.jtag = s.jtag
  remap : pt .remap = false → t.remap = s.remap

/-- The fields of which `Leaves` does not speak, with the parts `pt`. -/
def beyond (pt : Field → Bool) : Field → Bool
  | .mode => pt .mode | .repair => pt .repair | .domains => pt .domains | .jtag => pt .jtag | .remap => pt .remap | _ => true

/-- No part. -/
def nothing (_ : Field) : Bool := false

variable {pt : Field → Bool} {s t u : State}

theorem Leaves.refl (pt : Field → Bool) (s : State) : Leaves pt s s :=
  ⟨fun _ => rfl, fun _ => rfl, fun _ => rfl, fun _ => rfl, fun _ => rfl⟩

theorem Leaves.trans (h : Leaves pt s t) (k : Leaves pt t u) : Leaves pt s u :=
  ⟨fun x => (k.regs x).trans (h.regs x), fun x => (k.repair x).trans (h.repair x), fun x => (k.domains x).trans (h.domains x),
    fun x => (k.jtag x).trans (h.jtag x), fun x => (k.remap x).trans (h.remap x)⟩

/-- The fields of which `Leaves` speaks. -/
def rareFields : List Field := [.mode, .repair, .domains, .jtag, .remap]

theorem Leaves.mono {pt' : Field → Bool} (h : Leaves pt s t) (k : rareFields.all (fun f => !pt f || pt' f) = true) : Leaves pt' s t := by
  simp only [rareFields, List.all_cons, List.all_nil, Bool.and_true, Bool.and_eq_true, Bool.or_eq_true, Bool.not_eq_true'] at k
  obtain ⟨k1, k2, k3, k4, k5⟩ := k
  exact ⟨fun x => h.regs (k1.resolve_right (by simp [x])), fun x => h.repair (k2.resolve_right (by simp [x])),
    fun x => h.domains (k3.resolve_right (by simp [x])), fun x => h.jtag (k4.resolve_right (by simp [x])),
    fun x => h.remap (k5.resolve_right (by simp [x]))⟩

theorem Leaves.all (h : Leaves nothing s t) : Leaves pt s t := h.mono rfl

/-- What leaves the key alone leaves all of it alone. -/
theorem Leaves.of_key (h : t.key = s.key) : Leaves pt s t := by
  simp only [State.key, keyOf, Key.mk.injEq, Prod.mk.injEq] at h
  obtain ⟨⟨h1, h2, h3, h4⟩, -, -, -, -, -, hrep, hremap, -, -, hjtag, -, hdom⟩ := h
  exact ⟨fun _ => by simp [ModeSt.regs, h1, h2, h3, h4], fun _ => hrep, fun _ => hdom, fun _ => hjtag, fun _ => hremap⟩

/-- What leaves the key alone but for the mode leaves the rest alone. -/
theorem Leaves.of_inMode {m : Mode × Mode × Mode × Bool} (hp : pt .mode = true) (h : t.key = s.key.inMode m) : Leaves pt s t := by
  simp only [State.key, keyOf, Key.inMode, Key.mk.injEq, Prod.mk.injEq] at h
  obtain ⟨-, -, -, -, -, -, hrep, hremap, -, -, hjtag, -, hdom⟩ := h
  exact ⟨fun x => by simp [hp] at x, fun _ => hrep, fun _ => hdom, fun _ => hjtag, fun _ => hremap⟩

/-- What leaves all of the state alone but some parts leaves alone what is in none of them. -/
theorem Leaves.of_except (h : t.except (beyond pt) = s.except (beyond pt)) : Leaves pt s t := by
  refine ⟨fun x => ?_, fun x => ?_, fun x => ?_, fun x => ?_, fun x => ?_⟩
  · have := congrArg State.mode h
    simp only [State.except, beyond, x, cond_false] at this
    rw [this]
  · simpa [State.except, beyond, x] using congrArg State.repair h
  · simpa [State.except, beyond, x] using congrArg State.domains h
  · simpa [State.except, beyond, x] using congrArg State.jtag h
  · simpa [State.except, beyond, x] using congrArg State.remap h

theorem Leaves.then (h : Leaves pt s t) (k : u.key = t.key) : Leaves pt s u := h.trans (.of_key k)

theorem Leaves.ite {c : Prop} [Decidable c] (h : Leaves pt s t) (k : Leaves pt s u) : Leaves pt s (if c then t else u) := by
  split
  · exact h
  · exact k

theorem Leaves.each {α : Type} (s : State) (l : List α) (f : State → α → State) (k : ∀ u x, Leaves pt u (f u x)) :
    Leaves pt s (s.each l f) := by
  induction l generalizing s with
  | nil => exact .refl _ _
  | cons x l ih => exact (k s x).trans (ih (f s x))

theorem Leaves.modDomain (hp : pt .domains = true) (s : State) (d : Nat) (f : DomainSt → DomainSt) : Leaves pt s (s.modDomain d f) :=
  ⟨fun _ => rfl, fun _ => rfl, fun x => by simp [hp] at x, fun _ => rfl, fun _ => rfl⟩

/-! ### The frame store and the Culvert channels -/

theorem memMode_leaves (s : State) (m : Mode) : Leaves nothing s (s.memMode m) := by
  have restored (u : State) : Leaves nothing u u.memRestore := ⟨fun _ => rfl, fun _ => rfl, fun _ => rfl, fun _ => rfl, fun _ => rfl⟩
  unfold State.memMode
  split
  · exact .of_key (by simp)
  · exact .of_key (by simp)
  · exact .ite (.of_key (by simp)) (.of_key (by simp))
  · exact .refl _ s
  · exact .refl _ s
  · exact .of_key (by simp)
  · exact (Leaves.of_key (State.stackPower_key s .active)).trans (restored _)

theorem culvertPart_leaves (s : State) (x : Shadow) (done : Nat) : Leaves nothing s (s.culvertPart x done) :=
  .of_except (State.culvertPart_except _ rfl rfl rfl rfl s x done)

/-- The part of a transfer that is carried over when it ends early: a free number of its bytes. -/
theorem culvertCut_leaves (s : State) (x : Shadow) (done : Nat) : Leaves nothing s (s.free.2.culvertPart x done) :=
  (Leaves.of_key (State.free_key s)).trans (culvertPart_leaves _ _ _)

theorem culvertHalt_leaves (s : State) (c : Nat) : Leaves nothing s (s.culvertHalt c) := by
  unfold State.culvertHalt
  dsimp only
  split
  · rename_i x _
    exact (culvertCut_leaves s x _).then (by simp; rfl)
  · exact .refl _ s

theorem culvertFence_leaves (s : State) (c : Nat) : Leaves nothing s (s.culvertFence c) := by
  unfold State.culvertFence
  dsimp only
  split
  · rename_i x _
    exact (culvertCut_leaves s x _).then (by simp; rfl)
  · exact .of_key (State.modCulvert_key _ _ _)

theorem culvertReset_leaves (s : State) : Leaves nothing s s.culvertReset := by
  have h : Leaves nothing s (s.each (List.range 8) State.culvertHalt) := .each s _ _ culvertHalt_leaves
  unfold State.culvertReset
  generalize s.each (List.range 8) State.culvertHalt = u at h ⊢
  exact h.trans ⟨fun _ => rfl, fun _ => rfl, fun _ => rfl, fun _ => rfl, fun _ => rfl⟩

theorem pcieReset_leaves (s : State) : Leaves nothing s s.pcieReset := by
  have h : Leaves nothing s s.hostCleared.culvertReset := (Leaves.of_key (State.hostCleared_key s)).trans (culvertReset_leaves _)
  unfold State.pcieReset
  dsimp only
  generalize s.hostCleared.culvertReset = u at h ⊢
  refine .ite (.refl _ s) (h.then ?_)
  rw [State.each_key _ _ _ (fun t x => State.jobEnd_key t x _ _ _), State.each_key _ _ _ (fun t x => State.modDeliv_key t x _)]

/-! ### Fencing -/

theorem fenceWork_leaves (s : State) (k : UnitKind) (n : Nat) : Leaves nothing s (s.fenceWork k n) := by
  cases k <;> unfold State.fenceWork <;> dsimp only
  case culvert => exact .ite (culvertFence_leaves s n) (.refl _ s)
  case flume =>
    refine .of_key ((State.quietLane_key _ _).trans ?_)
    split
    · split
      · exact State.dropLink_key _ _ _
      · rfl
    · rfl
  all_goals first
    | exact .refl _ s
    | exact .of_key (by simp)

/-- The repair record alone. -/
def inRepair : Field → Bool
  | .repair => true
  | _ => false

theorem Leaves.setRepair (s : State) (r : Repair) : Leaves inRepair s { s with repair := r } :=
  ⟨fun _ => rfl, nofun, fun _ => rfl, fun _ => rfl, fun _ => rfl⟩

theorem inventoryChanged_leaves (s : State) : Leaves inRepair s s.inventoryChanged := by
  refine (Leaves.setRepair s { s.repair with generation := s.repair.generation + 1 }).then ?_
  unfold State.inventoryChanged
  dsimp only
  rw [State.interrupt_key, State.event_key]

theorem fence_leaves (s : State) (k : UnitKind) (n : Nat) (e : Element) : Leaves inRepair s (s.fence k n e) := by
  have m (u : State) : Leaves inRepair u { u with mode := { u.mode with sticky := u.mode.sticky ||| 16 } } :=
    .of_key (State.key_mode u _ rfl rfl)
  unfold State.fence
  dsimp only
  refine .ite (.refl _ s) (.ite (.setRepair s _) ?_)
  refine Leaves.trans ?_ (inventoryChanged_leaves _)
  exact (((Leaves.setRepair s _).trans (fenceWork_leaves _ k n).all).then (State.raise_key _ _ _)).trans (m _)

/-! ### Device time and boundaries -/

/-- The part of the key that boundaries and steps of device time leave alone: the mode, the repair record, the remap, JTAG and the
heartbeat. -/
def Key.calm (k : Key) : (Mode × Mode × Mode × Bool) × Repair × Bool × JtagSt × BitVec 32 :=
  (k.mode, k.rare.1, k.rare.2.1, k.rare.2.2.2.2.1, k.rare.2.2.2.2.2.1)

/-- The timing domains alone. -/
def inDomains : Field → Bool
  | .domains => true
  | _ => false

theorem Leaves.of_calm (h : t.key.calm = s.key.calm) : Leaves inDomains s t := by
  simp only [State.key, keyOf, Key.calm, Prod.mk.injEq] at h
  obtain ⟨⟨h1, h2, h3, h4⟩, hrep, hremap, hjtag, -⟩ := h
  exact ⟨fun _ => by simp [ModeSt.regs, h1, h2, h3, h4], fun _ => hrep, nofun, fun _ => hjtag, fun _ => hremap⟩

@[simp] theorem State.each_calm {α : Type} (s : State) (l : List α) (f : State → α → State) (h : ∀ t x, (f t x).key.calm = t.key.calm) :
    (s.each l f).key.calm = s.key.calm := by
  induction l generalizing s with
  | nil => rfl
  | cons x l ih => exact (ih (f s x)).trans (h s x)

@[simp] theorem State.modDomain_calm (s : State) (d : Nat) (f : DomainSt → DomainSt) : (s.modDomain d f).key.calm = s.key.calm :=
  Eq.trans rfl rfl

@[simp] theorem State.stepTime_calm (s : State) (amount : Int) (written : Bool) : (s.stepTime amount written).key.calm = s.key.calm := by
  unfold State.stepTime
  simp [↓State.key_ite, ↓apply_ite Key.calm, ↓State.key_mk, State.key_fold]

@[simp] theorem State.takeOffset_calm (s : State) (phase : Int) : (s.takeOffset phase).key.calm = s.key.calm := by
  unfold State.takeOffset
  simp [↓State.key_ite, ↓apply_ite Key.calm, ↓State.key_mk, State.key_fold]

@[simp] theorem State.loopUpdate_calm (s : State) (phase freq : Int) : (s.loopUpdate phase freq).key.calm = s.key.calm := by
  unfold State.loopUpdate
  dsimp only
  repeat' split
  all_goals simp [↓State.key_mk, State.key_fold]

theorem State.key_setHg (s : State) (x : Headgate) : State.key { s with hg := x } = s.key := by simp only [State.key_mk, State.key_fold]

@[simp] theorem State.ptpOffset_calm (s : State) (offset : Int) (identity clockClass : Nat) :
    (s.ptpOffset offset identity clockClass).key.calm = s.key.calm := by
  unfold State.ptpOffset
  dsimp only
  repeat' split
  all_goals simp [↓State.takeOffset_calm, ↓State.acquire_key, ↓State.key_setHg]

@[simp] theorem State.writtenStep_calm (s : State) (amount : Int) : (s.writtenStep amount).key.calm = s.key.calm := by
  unfold State.writtenStep
  split <;> simp [↓State.key_ite, ↓State.key_mk, State.key_fold]

@[simp] theorem State.retime_calm (s : State) (d rate raster : Nat) : (s.retime d rate raster).key.calm = s.key.calm := by
  unfold State.retime
  simp [↓State.key_ite, ↓apply_ite Key.calm, ↓State.key_mk, State.key_fold]

@[simp] theorem State.decideSwap_calm (s : State) (d : Nat) : (s.decideSwap d).key.calm = s.key.calm := by
  unfold State.decideSwap
  simp [↓State.key_ite]

@[simp] theorem State.boundary_calm (s : State) (d : Nat) : (s.boundary d).key.calm = s.key.calm := by
  unfold State.boundary
  simp [↓State.key_ite, ↓apply_ite Key.calm, ↓State.key_mk, State.key_fold]

end Sys2Proof.Machine
end

section
/-! PROOFS. The moves between the modes: each entry to a mode, and each command that may change the mode registers (01 R44, R50, R54). -/
namespace Sys2Proof.Machine

/-! ### A move of the mode registers -/

/-- The mode moves as 01 R50 and R54 list it: not at all, along `modeMoves`, from Throttled back to its base, or through the end of a
service transition into Throttled. -/
def ModeSt.movesTo (m n : ModeSt) : Prop :=
  n.current = m.current ∨ modeMoves m.current n.current = true ∨ (m.current = .throttled ∧ n.current = m.base) ∨
    (m.busy = true ∧ m.current.service = true ∧ m.target.enforced = true ∧ n.current = .throttled)

/-- From legal mode registers the mode moves as listed, and the registers stay legal. -/
def ModeSt.goesTo (m n : ModeSt) : Prop := m.legal → n.legal ∧ m.movesTo n

variable {m n k : ModeSt} {s t u : State}

theorem ModeSt.regs_eq (h : m.regs = n.regs) : m.current = n.current ∧ m.base = n.base ∧ m.target = n.target ∧ m.busy = n.busy := by
  simpa [ModeSt.regs] using h

theorem ModeSt.legal_of_regs (h : m.regs = n.regs) (k : n.legal) : m.legal := by
  obtain ⟨h1, h2, h3, h4⟩ := ModeSt.regs_eq h
  unfold ModeSt.legal
  rw [h1, h2, h3, h4]
  exact k

/-- Registers that stay make no move. -/
theorem ModeSt.goesTo_of_regs (h : n.regs = m.regs) : m.goesTo n := fun k => ⟨legal_of_regs h k, .inl (regs_eq h).1⟩

/-- Only the registers count. -/
theorem ModeSt.goesTo.congr_left (h : k.regs = m.regs) (g : k.goesTo n) : m.goesTo n := by
  obtain ⟨h1, h2, h3, h4⟩ := ModeSt.regs_eq h
  intro l
  have := g (legal_of_regs h l)
  unfold ModeSt.movesTo at this ⊢
  rwa [h1, h2, h3, h4] at this

/-- Only the registers count. -/
theorem ModeSt.goesTo.congr_right (g : m.goesTo n) (h : k.regs = n.regs) : m.goesTo k := fun l => by
  obtain ⟨a, b⟩ := g l
  refine ⟨legal_of_regs h a, ?_⟩
  unfold ModeSt.movesTo at b ⊢
  rwa [(regs_eq h).1]

/-- A mode other than Throttled is reached: it is the current, the base and the target mode, and no transition runs. -/
theorem ModeSt.goesTo_of_reached {x : Mode} (h : n.regs = (x, x, x, false)) (hx : x ≠ .throttled)
    (mv : m.legal → m.movesTo n) : m.goesTo n := by
  intro l
  refine ⟨?_, mv l⟩
  simp only [ModeSt.regs, Prod.mk.injEq] at h
  obtain ⟨h1, h2, h3, h4⟩ := h
  simp [ModeSt.legal, h1, h2, h3, h4, hx]

/-- A listed move to a mode other than Throttled. -/
theorem ModeSt.goesTo_of_move {x : Mode} (h : n.regs = (x, x, x, false)) (hx : x ≠ .throttled)
    (mv : modeMoves m.current x = true) : m.goesTo n :=
  goesTo_of_reached h hx (fun _ => .inr (.inl (by
    have : n.current = x := congrArg Prod.fst h
    rwa [this])))

/-- A transition is accepted: it runs towards a mode that 01 R50 lists. -/
theorem ModeSt.goesTo_of_asked {x : Mode} (h : n.regs = (m.current, m.base, x, true)) (hx : modeListed m.current x = true) : m.goesTo n := by
  intro l
  simp only [ModeSt.regs, Prod.mk.injEq] at h
  obtain ⟨h1, h2, h3, h4⟩ := h
  obtain ⟨-, -, lb, lt⟩ := l
  refine ⟨?_, .inl h1⟩
  simpa [ModeSt.legal, h1, h2, h3, h4, hx] using ⟨lb, lt⟩

theorem regs_of_key (h : t.key = s.key) : t.mode.regs = s.mode.regs := (Leaves.of_key (pt := nothing) h).regs rfl

theorem regs_of_inMode {x : Mode × Mode × Mode × Bool} (h : t.key = s.key.inMode x) : t.mode.regs = x := congrArg Key.mode h

/-! ### Entries to the modes -/

/-- The mode registers alone. -/
def inMode : Field → Bool
  | .mode => true
  | _ => false

theorem arrive_leaves (s : State) (x : Mode) : Leaves inMode s (s.arrive x) := .of_inMode rfl (State.arrive_key s x)

theorem arrive_regs (s : State) (x : Mode) (hx : x ≠ .throttled) : (s.arrive x).mode.regs = (x, x, x, false) := by
  have := regs_of_inMode (State.arrive_key s x)
  rwa [if_neg hx] at this

/-- A mode is reached, and the fast domains lose power. -/
theorem arriveWiped_leaves (s : State) (x : Mode) : Leaves inMode s (s.hgSleep.arrive x).wiped := by
  have h := (Leaves.of_key (pt := inMode) (State.hgSleep_key s)).trans (arrive_leaves s.hgSleep x)
  generalize s.hgSleep.arrive x = u at h ⊢
  exact ⟨nofun, h.repair, h.domains, h.jtag, h.remap⟩

theorem arriveWiped_regs (s : State) (x : Mode) (hx : x ≠ .throttled) : (s.hgSleep.arrive x).wiped.mode.regs = (x, x, x, false) :=
  arrive_regs s.hgSleep x hx

theorem enterDormant_leaves (s : State) : Leaves inMode s s.enterDormant := by
  have h := arriveWiped_leaves s .dormant
  unfold State.enterDormant
  generalize (s.hgSleep.arrive .dormant).wiped = u at h ⊢
  refine Leaves.trans ?_ (memMode_leaves _ _).all
  exact ⟨nofun, h.repair, h.domains, h.jtag, h.remap⟩

theorem enterDormant_regs (s : State) : s.enterDormant.mode.regs = (.dormant, .dormant, .dormant, false) := by
  have h := arriveWiped_regs s .dormant (by decide)
  unfold State.enterDormant
  generalize (s.hgSleep.arrive .dormant).wiped = u at h ⊢
  exact ((memMode_leaves _ _).regs rfl).trans h

theorem enterFallow_leaves (s : State) : Leaves inMode s s.enterFallow := by
  have h := arriveWiped_leaves s .fallow
  unfold State.enterFallow
  generalize (s.hgSleep.arrive .fallow).wiped = u at h ⊢
  refine Leaves.trans ?_ (memMode_leaves _ _).all
  exact ⟨nofun, h.repair, h.domains, h.jtag, h.remap⟩

theorem enterFallow_regs (s : State) : s.enterFallow.mode.regs = (.fallow, .fallow, .fallow, false) := by
  have h := arriveWiped_regs s .fallow (by decide)
  unfold State.enterFallow
  generalize (s.hgSleep.arrive .fallow).wiped = u at h ⊢
  exact ((memMode_leaves _ _).regs rfl).trans h

/-- The mode registers and the timing domains. -/
def inModeDomains : Field → Bool
  | .mode | .domains => true
  | _ => false

theorem enterBoot_leaves (s : State) (cause : Nat) : Leaves inModeDomains s (s.enterBoot cause) := by
  have h := arriveWiped_leaves s .boot
  unfold State.enterBoot
  generalize (s.hgSleep.arrive .boot).wiped = u at h ⊢
  exact ⟨nofun, h.repair, nofun, h.jtag, h.remap⟩

theorem enterBoot_regs (s : State) (cause : Nat) : (s.enterBoot cause).mode.regs = (.boot, .boot, .boot, false) := by
  have h := arriveWiped_regs s .boot (by decide)
  unfold State.enterBoot
  generalize (s.hgSleep.arrive .boot).wiped = u at h ⊢
  exact h

/-- Every start or restart may enter Boot. -/
theorem enterBoot_goes (s : State) (cause : Nat) (m : ModeSt) : m.goesTo (s.enterBoot cause).mode :=
  ModeSt.goesTo_of_move (enterBoot_regs s cause) (by decide) (by cases m.current <;> rfl)

/-- Dormant is entered from every mode but Fallow. -/
theorem enterDormant_goes (s : State) (h : m.current ≠ .fallow) : m.goesTo s.enterDormant.mode :=
  ModeSt.goesTo_of_move (enterDormant_regs s) (by decide) (by revert h; cases m.current <;> decide)

/-- What Training loads before it is reached leaves the key alone. -/
theorem enterTraining_eq (s : State) : ∃ u : State, u.key = s.key ∧
    ∃ b : Bool, s.enterTraining = (let v := (u.arrive .training).calLoad.memMode .training; if b then v else v.rejudgeRefs true) := by
  unfold State.enterTraining
  dsimp only
  refine ⟨_, ?_, s.runMode.ranked == Mode.training.ranked, rfl⟩
  split
  · rw [State.calConvert_key, State.restoreSaved_key]; exact Eq.trans rfl rfl
  · rw [State.restoreSaved_key]; exact Eq.trans rfl rfl

theorem enterTraining_leaves (s : State) : Leaves inMode s s.enterTraining := by
  obtain ⟨u, hu, b, e⟩ := enterTraining_eq s
  have hv : Leaves inMode s ((u.arrive .training).calLoad.memMode .training) :=
    (((Leaves.of_key hu).trans (arrive_leaves u .training)).then (State.calLoad_key _)).trans (memMode_leaves _ _).all
  rw [e]
  exact .ite hv (hv.then (State.rejudgeRefs_key _ _))

theorem enterTraining_regs (s : State) : s.enterTraining.mode.regs = (.training, .training, .training, false) := by
  obtain ⟨u, -, b, e⟩ := enterTraining_eq s
  have hv : ((u.arrive .training).calLoad.memMode .training).mode.regs = (.training, .training, .training, false) :=
    (((memMode_leaves _ _).regs rfl).trans (regs_of_key (State.calLoad_key _))).trans (arrive_regs u .training (by decide))
  rw [e]
  cases b
  · exact (regs_of_key (State.rejudgeRefs_key _ _)).trans hv
  · exact hv

end Sys2Proof.Machine
end

section
/-! PROOFS. The operations that may change the mode registers move them as 01 R50 and R54 list, and leave the rest of the rare state. -/
namespace Sys2Proof.Machine

variable {m n k : ModeSt} {s t u : State} {pt : Field → Bool}

/-! ### Requests for a transition -/

/-- The current mode stays, and legal registers stay legal. -/
def ModeSt.holds (m n : ModeSt) : Prop := n.current = m.current ∧ (m.legal → n.legal)

theorem ModeSt.holds_of_regs (h : n.regs = m.regs) : m.holds n := ⟨(regs_eq h).1, legal_of_regs h⟩

theorem ModeSt.holds.trans (h : m.holds n) (g : n.holds k) : m.holds k := ⟨g.1.trans h.1, fun l => g.2 (h.2 l)⟩

theorem ModeSt.goesTo_of_holds (h : m.holds n) : m.goesTo n := fun l => ⟨h.2 l, .inl h.1⟩

/-- A transition that 01 R50 lists is accepted. -/
theorem ModeSt.holds_of_asked {x : Mode} (h : n.regs = (m.current, m.base, x, true)) (hx : modeListed m.current x = true) : m.holds n :=
  ⟨congrArg Prod.fst h, fun l => (goesTo_of_asked h hx l).1⟩

theorem tryBoot_holds (s : State) : s.mode.holds s.tryBoot.mode := by
  rcases State.tryBoot_key s with h | ⟨hd, h⟩
  · exact ModeSt.holds_of_regs (regs_of_key h)
  · exact ModeSt.holds_of_asked (regs_of_inMode h) (by rw [hd]; rfl)

theorem tryBoot_leaves (s : State) : Leaves inMode s s.tryBoot := .of_except (State.tryBoot_except _ rfl rfl s)

/-! ### Resets and power -/

/-- The mode registers and the remap of the reset vector. -/
def inModeRemap : Field → Bool
  | .mode | .remap => true
  | _ => false

theorem forceDormant_leaves (s : State) (cause : Nat) (forced : Bool) : Leaves inMode s (s.forceDormant cause forced) := by
  unfold State.forceDormant
  refine Leaves.trans ?_ (enterDormant_leaves _)
  exact ⟨nofun, fun _ => rfl, fun _ => rfl, fun _ => rfl, fun _ => rfl⟩

theorem forceDormant_goes (s : State) (cause : Nat) (forced : Bool) (h : m.current ≠ .fallow) :
    m.goesTo (s.forceDormant cause forced).mode := enterDormant_goes _ h

theorem sysAssert_leaves (s : State) : Leaves inModeRemap s s.sysAssert := by
  unfold State.sysAssert
  dsimp only
  split
  · exact ⟨nofun, fun _ => rfl, fun _ => rfl, fun _ => rfl, nofun⟩
  · exact ⟨nofun, fun _ => rfl, fun _ => rfl, fun _ => rfl, nofun⟩
  · refine Leaves.trans ?_ ((forceDormant_leaves _ _ _).mono rfl)
    exact ⟨nofun, fun _ => rfl, fun _ => rfl, fun _ => rfl, nofun⟩

theorem sysAssert_goes (s : State) : s.mode.goesTo s.sysAssert.mode := by
  unfold State.sysAssert
  dsimp only
  split
  case h_1 => exact ModeSt.goesTo_of_regs rfl
  case h_2 h =>
    intro ⟨_, _, hb, _⟩
    have hb := hb (by simp [h])
    exact ⟨by simp [ModeSt.legal, h, hb], .inl rfl⟩
  case h_3 h _ => exact forceDormant_goes _ _ _ h

theorem pwrFall_leaves (s : State) : Leaves inModeRemap s s.pwrFall := by
  unfold State.pwrFall
  dsimp only
  refine .ite (Leaves.trans ?_ ((forceDormant_leaves _ _ _).mono rfl)) ?_
  · exact ⟨nofun, fun _ => rfl, fun _ => rfl, fun _ => rfl, nofun⟩
  · exact ⟨nofun, fun _ => rfl, fun _ => rfl, fun _ => rfl, nofun⟩

theorem pwrFall_goes (s : State) : s.mode.goesTo s.pwrFall.mode := by
  unfold State.pwrFall
  dsimp only
  split
  · rename_i h
    exact forceDormant_goes _ _ _ (by rintro e; simp [e, Mode.fast] at h)
  · exact ModeSt.goesTo_of_regs rfl

theorem sysRelease_leaves (s : State) (b : Nat) : Leaves inMode s (s.sysRelease b) := .of_except (State.sysRelease_except _ rfl rfl s b)

theorem sysRelease_holds (s : State) (b : Nat) : s.mode.holds (s.sysRelease b).mode := by
  unfold State.sysRelease
  dsimp only
  split
  · exact ModeSt.holds_of_regs rfl
  · split
    · exact (ModeSt.holds_of_regs rfl).trans (tryBoot_holds _)
    · exact ModeSt.holds_of_regs rfl

theorem pwrTimeout_leaves (s : State) : Leaves inMode s s.pwrTimeout := .of_except (State.pwrTimeout_except _ rfl rfl rfl s)

/-- A power-good timeout gives Boot up, in Dormant. -/
theorem pwrTimeout_mode (s : State) : s.pwrTimeout.mode = s.mode ∨ s.mode.current = .dormant ∧
    s.pwrTimeout.mode = { s.mode with asked := false, bootAt := none, target := .dormant, busy := false } := by
  unfold State.pwrTimeout
  split
  · split
    · rename_i h
      simp only [Bool.and_eq_true, decide_eq_true_eq] at h
      exact .inr ⟨h.1, by simp only [State.advanceTo_mode]⟩
    · exact .inl rfl
  · exact .inl rfl

theorem pwrTimeout_holds (s : State) : s.mode.holds s.pwrTimeout.mode := by
  rcases pwrTimeout_mode s with e | ⟨hd, e⟩
  · exact ModeSt.holds_of_regs (congrArg ModeSt.regs e)
  · rw [e]
    refine ⟨rfl, fun ⟨_, _, hb, _⟩ => ?_⟩
    simp [ModeSt.legal, hd, hb (by simp [hd])]

theorem bootStart_leaves (s : State) : Leaves inModeDomains s s.bootStart := by
  unfold State.bootStart
  split
  · exact .ite ((Leaves.of_key (State.advanceTo_key s _)).trans (enterBoot_leaves _ _)) (.refl _ s)
  · exact .refl _ s

theorem goesTo_ite {c : Prop} [Decidable c] (h : m.goesTo s.mode) (g : m.goesTo t.mode) : m.goesTo (if c then s else t).mode := by
  split
  · exact h
  · exact g

theorem goesTo_refl (m : ModeSt) : m.goesTo m := ModeSt.goesTo_of_regs rfl

theorem bootStart_goes (s : State) : s.mode.goesTo s.bootStart.mode := by
  unfold State.bootStart
  split
  · exact goesTo_ite (enterBoot_goes _ _ _) (goesTo_refl _)
  · exact goesTo_refl _

theorem activationCommit_leaves (s : State) (ok : Bool) : Leaves inModeDomains s (s.activationCommit ok) := by
  unfold State.activationCommit
  split
  · refine .ite (.of_key (by simp)) (.ite (.of_key (by simp)) ?_)
    exact (Leaves.of_key (State.committed_key _ _)).trans (enterBoot_leaves _ _)
  · exact .refl _ s

theorem activationCommit_goes (s : State) (ok : Bool) : s.mode.goesTo (s.activationCommit ok).mode := by
  unfold State.activationCommit
  split
  · exact goesTo_ite (ModeSt.goesTo_of_regs (regs_of_key (by simp)))
      (goesTo_ite (ModeSt.goesTo_of_regs (regs_of_key (by simp))) (enterBoot_goes _ _ _))
  · exact goesTo_refl _

/-! ### Boot and Training -/

theorem bootToRecovery_goes (s : State) : s.mode.goesTo s.bootToRecovery.mode := by
  unfold State.bootToRecovery
  split
  · rename_i h
    simp only [Bool.and_eq_true, decide_eq_true_eq] at h
    exact ModeSt.goesTo_of_move (arrive_regs s .recovery (by decide)) (by decide) (by rw [h.1]; rfl)
  · exact goesTo_refl _

theorem bootToFallow_goes (s : State) : s.mode.goesTo s.bootToFallow.mode := by
  unfold State.bootToFallow
  split
  · rename_i h
    simp only [Bool.and_eq_true, decide_eq_true_eq] at h
    exact ModeSt.goesTo_of_move (enterFallow_regs s) (by decide) (by rw [h.1]; rfl)
  · exact goesTo_refl _

theorem imageVerified_goes (s : State) : s.mode.goesTo s.imageVerified.mode := by
  unfold State.imageVerified
  split
  · rename_i h
    simp only [Bool.and_eq_true, decide_eq_true_eq] at h
    exact ModeSt.goesTo_of_move (enterTraining_regs s) (by decide) (by rw [h.1.1]; rfl)
  · exact goesTo_refl _

theorem firstFail_leaves (s : State) (code : Nat) : Leaves inMode s (s.firstFail code) := by
  unfold State.firstFail
  refine .ite (Leaves.trans ?_ (enterFallow_leaves _)) (.refl _ s)
  exact ⟨nofun, fun _ => rfl, fun _ => rfl, fun _ => rfl, fun _ => rfl⟩

theorem firstFail_goes (s : State) (code : Nat) : s.mode.goesTo (s.firstFail code).mode := by
  unfold State.firstFail
  split
  · rename_i h
    simp only [Bool.and_eq_true, decide_eq_true_eq] at h
    exact ModeSt.goesTo_of_move (enterFallow_regs _) (by decide) (by rw [h.1]; rfl)
  · exact goesTo_refl _

/-- The mode registers and the repair record. -/
def inModeRepair : Field → Bool
  | .mode | .repair => true
  | _ => false

/-- The part of the key that repair leaves alone: the remap, JTAG and the timing domains. -/
def Key.unrepaired (k : Key) : Bool × JtagSt × List DomainSt := (k.rare.2.1, k.rare.2.2.2.2.1, k.rare.2.2.2.2.2.2)

@[simp] theorem State.each_unrepaired {α : Type} (s : State) (l : List α) (f : State → α → State)
    (h : ∀ t x, (f t x).key.unrepaired = t.key.unrepaired) : (s.each l f).key.unrepaired = s.key.unrepaired := by
  induction l generalizing s with
  | nil => rfl
  | cons x l ih => exact (ih (f s x)).trans (h s x)

@[simp] theorem State.repairOne_unrepaired (s : State) (p : Pend) : (s.repairOne p).key.unrepaired = s.key.unrepaired := by
  unfold State.repairOne
  dsimp only
  repeat' split
  all_goals exact Eq.trans rfl rfl

@[simp] theorem State.inventoryChanged_unrepaired (s : State) : s.inventoryChanged.key.unrepaired = s.key.unrepaired := by
  unfold State.inventoryChanged
  dsimp only
  rw [State.interrupt_key, State.event_key]
  exact Eq.trans rfl rfl

@[simp] theorem State.setRepair_unrepaired (s : State) (r : Repair) : (State.key { s with repair := r }).unrepaired = s.key.unrepaired :=
  Eq.trans rfl rfl

theorem repairAll_leaves (s : State) (found : List Finding) : Leaves inModeRepair s (s.repairAll found) := by
  have h : (s.repairAll found).key.unrepaired = s.key.unrepaired := by
    unfold State.repairAll
    dsimp only
    repeat' split
    all_goals simp [↓State.setRepair_unrepaired]
  simp only [State.key, keyOf, Key.unrepaired, Prod.mk.injEq] at h
  exact ⟨nofun, nofun, fun _ => h.2.2, fun _ => h.2.1, fun _ => h.1⟩

theorem trainingDone_leaves (s : State) (found : List Finding) : Leaves inModeRepair s (s.trainingDone found) := by
  refine .ite (Leaves.then (t := ((s.repairAll found).arrive .standby).memMode .standby) ?_ (State.rejudgeRefs_key _ _)) (.refl _ s)
  exact ((repairAll_leaves s found).trans ((arrive_leaves _ _).mono rfl)).trans (memMode_leaves _ _).all

theorem trainingDone_goes (s : State) (found : List Finding) : s.mode.goesTo (s.trainingDone found).mode := by
  unfold State.trainingDone
  split
  · rename_i h
    simp only [Bool.and_eq_true, decide_eq_true_eq] at h
    refine ModeSt.goesTo_of_move (x := .standby) ?_ (by decide) (by rw [h.1]; rfl)
    exact (regs_of_key (State.rejudgeRefs_key _ _)).trans (((memMode_leaves _ _).regs rfl).trans (arrive_regs _ _ (by decide)))
  · exact goesTo_refl _

/-! ### Transitions -/

theorem modeMoves_of_listed {a b : Mode} (h : modeListed a b = true) : modeMoves a b = true := by
  simp [modeMoves, h]

theorem not_listed_throttled (a : Mode) : modeListed a .throttled = false := by cases a <;> rfl

theorem transitionDone_leaves (s : State) : Leaves inMode s s.transitionDone := by
  have hs : Leaves inMode s (State.judgeHeads ((s.leaveService.arrive .standby).memMode .standby)) :=
    (((Leaves.of_key (State.leaveService_key s)).trans (arrive_leaves _ .standby)).trans (memMode_leaves _ .standby).all).then
      (State.judgeHeads_key _)
  have hm (m : Mode) : Leaves inMode s (State.rouse s (((s.memMode m).arrive m).enterService)) :=
    ((memMode_leaves s m).all.trans (arrive_leaves _ m)).then (by simp)
  unfold State.transitionDone
  dsimp only
  refine .ite (.refl _ s) (.ite (enterDormant_leaves s) (.ite (enterTraining_leaves s) (.ite ?_ (.ite ?_ ?_))))
  · exact .ite (hs.then (State.rejudgeRefs_key _ _)) hs
  · exact .ite ((hm s.mode.target).then (State.rejudgeRefs_key _ _)) (hm s.mode.target)
  · exact ((Leaves.of_key (State.advanceTo_key s _)).trans (arrive_leaves _ _)).then (State.rouse_key _ _)

/-- A transition that completes reaches its target. -/
theorem transitionDone_regs (s : State) (hb : s.mode.busy = true) (h1 : s.mode.target ≠ .boot) (h2 : s.mode.target ≠ .throttled) :
    s.transitionDone.mode.regs = (s.mode.target, s.mode.target, s.mode.target, false) := by
  have hs : (State.judgeHeads ((s.leaveService.arrive .standby).memMode .standby)).mode.regs = (.standby, .standby, .standby, false) :=
    (regs_of_key (State.judgeHeads_key _)).trans (((memMode_leaves _ _).regs rfl).trans (arrive_regs _ _ (by decide)))
  have hm : (State.rouse s (((s.memMode s.mode.target).arrive s.mode.target).enterService)).mode.regs =
      (s.mode.target, s.mode.target, s.mode.target, false) :=
    (regs_of_key ((State.rouse_key _ _).trans (State.enterService_key _))).trans (arrive_regs _ _ h2)
  have ranked (t : State) (b c : Bool) {x} (h : t.mode.regs = x) : (if c then t.rejudgeRefs b else t).mode.regs = x := by
    cases c
    · exact h
    · exact (regs_of_key (State.rejudgeRefs_key _ _)).trans h
  unfold State.transitionDone
  dsimp only
  rw [if_neg (by simp [hb, h1])]
  split
  · rename_i e; rw [e]; exact enterDormant_regs s
  · split
    · rename_i e; rw [e]; exact enterTraining_regs s
    · split
      · rename_i e; rw [e]; exact ranked _ _ _ hs
      · split
        · exact ranked _ _ _ hm
        · exact (regs_of_key (State.rouse_key _ _)).trans (arrive_regs _ _ h2)

theorem transitionDone_goes (s : State) : s.mode.goesTo s.transitionDone.mode := by
  intro l
  by_cases h : (!s.mode.busy || decide (s.mode.target = .boot)) = true
  · have e : s.transitionDone = s := by unfold State.transitionDone; dsimp only; rw [if_pos (by simpa using h)]
    rw [e]
    exact goesTo_refl _ l
  · simp only [Bool.or_eq_true, Bool.not_eq_true', decide_eq_true_eq, not_or, Bool.not_eq_false] at h
    have hl := l.2.1 h.1
    have ht : s.mode.target ≠ .throttled := fun e => by rw [e, not_listed_throttled] at hl; exact absurd hl (by decide)
    exact ModeSt.goesTo_of_move (transitionDone_regs s h.1 h.2 ht) ht (modeMoves_of_listed hl) l

/-! ### Spillway -/

/-- The record of a shutdown is written, and Dormant is forced. -/
theorem shutdown_forces (s : State) (sensor : Nat) (temp : Int) : ∃ u : State, Leaves nothing s u ∧
    s.shutdown sensor temp = { u.forceDormant 2 true with mode := { (u.forceDormant 2 true).mode with blocked := true } } := by
  unfold State.shutdown
  refine ⟨_, ?_, rfl⟩
  refine Leaves.then (t := { s with thermal := _, mode := { s.mode with sticky := _ } }) ?_
    ((State.interrupt_key _ _).trans (State.count_key _ _ _ _))
  exact ⟨fun _ => rfl, fun _ => rfl, fun _ => rfl, fun _ => rfl, fun _ => rfl⟩

theorem shutdown_leaves (s : State) (sensor : Nat) (temp : Int) : Leaves inMode s (s.shutdown sensor temp) := by
  obtain ⟨u, hu, e⟩ := shutdown_forces s sensor temp
  have h := hu.all.trans (forceDormant_leaves u 2 true)
  rw [e]
  generalize u.forceDormant 2 true = v at h ⊢
  exact ⟨nofun, h.repair, h.domains, h.jtag, h.remap⟩

theorem shutdown_goes (s : State) (sensor : Nat) (temp : Int) (h : m.current ≠ .fallow) : m.goesTo (s.shutdown sensor temp).mode := by
  obtain ⟨u, -, e⟩ := shutdown_forces s sensor temp
  have g := forceDormant_goes u 2 true h
  rw [e]
  generalize u.forceDormant 2 true = v at g ⊢
  exact g.congr_right rfl

theorem judgeHeat_warms (s : State) (before now : List (Nat × Int)) : ∃ u : State, u.key = s.key ∧
    s.judgeHeat before now = if !s.mode.current.fast then s.tryBoot else
      match twice before now 920 with | some e => u.shutdown e.1 e.2 | none => u := by
  unfold State.judgeHeat
  dsimp only
  refine ⟨_, ?_, rfl⟩
  simp [↓State.key_ite]

theorem judgeHeat_leaves (s : State) (before now : List (Nat × Int)) : Leaves inMode s (s.judgeHeat before now) := by
  obtain ⟨u, hu, e⟩ := judgeHeat_warms s before now
  rw [e]
  refine .ite (tryBoot_leaves s) ?_
  split
  · exact (Leaves.of_key hu).trans (shutdown_leaves _ _ _)
  · exact .of_key hu

theorem judgeHeat_goes (s : State) (before now : List (Nat × Int)) : s.mode.goesTo (s.judgeHeat before now).mode := by
  obtain ⟨u, hu, e⟩ := judgeHeat_warms s before now
  rw [e]
  split
  · exact ModeSt.goesTo_of_holds (tryBoot_holds s)
  · rename_i hf
    split
    · exact shutdown_goes _ _ _ (by rintro x; simp [x, Mode.fast] at hf)
    · exact ModeSt.goesTo_of_regs (regs_of_key hu)

theorem sensorSample_judged (s : State) (raw : List Int) : ∃ (u : State) (before now : List (Nat × Int)), u.key = s.key ∧
    s.sensorSample raw = u.judgeHeat before now := by
  unfold State.sensorSample
  refine ⟨_, _, _, ?_, rfl⟩
  simp [↓State.key_mk, State.key_fold]

theorem sensorSample_leaves (s : State) (raw : List Int) : Leaves inMode s (s.sensorSample raw) := by
  obtain ⟨u, b, n, hu, e⟩ := sensorSample_judged s raw
  rw [e]
  exact (Leaves.of_key hu).trans (judgeHeat_leaves u b n)

theorem sensorSample_goes (s : State) (raw : List Int) : s.mode.goesTo (s.sensorSample raw).mode := by
  obtain ⟨u, b, n, hu, e⟩ := sensorSample_judged s raw
  rw [e]
  exact (judgeHeat_goes u b n).congr_left (regs_of_key hu)

theorem State.key_setThermal (s : State) (x : Thermal) : State.key { s with thermal := x } = s.key := by simp only [State.key_mk, State.key_fold]

/-- A threshold released leaves the key alone, or lets Boot begin. -/
theorem thresholdRelease_boots (s : State) (level : Nat) : (s.thresholdRelease level).key = s.key ∨
    ∃ u : State, u.key = s.key ∧ s.thresholdRelease level = u.tryBoot := by
  unfold State.thresholdRelease
  split
  · exact .inl rfl
  · split
    · unfold State.thresholdCleared
      split
      · exact .inl (by simp)
      · exact .inl (by simp)
      · exact .inr ⟨_, by rw [State.key_setThermal, State.advanceTo_key], rfl⟩
    · exact .inl rfl

theorem thresholdRelease_leaves (s : State) (level : Nat) : Leaves inMode s (s.thresholdRelease level) := by
  rcases thresholdRelease_boots s level with h | ⟨u, hu, e⟩
  · exact .of_key h
  · rw [e]; exact (Leaves.of_key hu).trans (tryBoot_leaves u)

theorem thresholdRelease_holds (s : State) (level : Nat) : s.mode.holds (s.thresholdRelease level).mode := by
  rcases thresholdRelease_boots s level with h | ⟨u, hu, e⟩
  · exact ModeSt.holds_of_regs (regs_of_key h)
  · rw [e]; exact (ModeSt.holds_of_regs (regs_of_key hu)).trans (tryBoot_holds u)

theorem thermalBoundary_leaves (s : State) : Leaves inMode s s.thermalBoundary := by
  unfold State.thermalBoundary
  dsimp only
  have h : Leaves inMode s (s.each s.thermal.decStop (fun t x => t.landCtx x { (t.ctx x).cfg with enable := 0 })) := .of_key (by simp)
  generalize s.each s.thermal.decStop _ = u at h ⊢
  have h2 := h.then (State.key_setThermal u { u.thermal with decStop := [] })
  exact .ite (h2.trans (arrive_leaves _ _)) h2

theorem thermalBoundary_goes (s : State) : s.mode.goesTo s.thermalBoundary.mode := by
  unfold State.thermalBoundary
  dsimp only
  have h : (s.each s.thermal.decStop (fun t x => t.landCtx x { (t.ctx x).cfg with enable := 0 })).mode.regs = s.mode.regs := regs_of_key (by simp)
  generalize s.each s.thermal.decStop _ = u at h ⊢
  obtain ⟨hc, hb, -, -⟩ := ModeSt.regs_eq h
  split
  · rename_i ht
    simp only [Bool.and_eq_true, decide_eq_true_eq] at ht
    have ht : u.mode.current = .throttled := ht.1
    intro l
    have he := l.2.2.2 (hc ▸ ht)
    have hx : u.mode.base ≠ .throttled := by rw [hb]; rintro e; simp [e, Mode.enforced] at he
    have hr := arrive_regs { u with thermal := { u.thermal with decStop := [] } } u.mode.base hx
    exact ModeSt.goesTo_of_reached hr hx (fun _ => .inr (.inr (.inl ⟨hc ▸ ht, (congrArg Prod.fst hr).trans hb⟩))) l
  · exact ModeSt.goesTo_of_regs h

theorem housekeeping_warms (s : State) : s.housekeeping = s ∨
    ∃ u : State, Leaves inDomains s u ∧ s.housekeeping = u.thermalBoundary := by
  unfold State.housekeeping
  split
  · exact .inl rfl
  · refine .inr ⟨_, ?_, rfl⟩
    have h : Leaves inDomains s { s.boundary 0 with mode := { (s.boundary 0).mode with heartbeat := (s.boundary 0).mode.heartbeat + 1 } } := by
      have h1 := Leaves.of_calm (State.boundary_calm s 0)
      generalize s.boundary 0 = u at h1 ⊢
      exact ⟨h1.regs, h1.repair, nofun, h1.jtag, h1.remap⟩
    exact h.then (by simp)

theorem housekeeping_leaves (s : State) : Leaves inModeDomains s s.housekeeping := by
  rcases housekeeping_warms s with e | ⟨u, hu, e⟩
  · rw [e]; exact .refl _ s
  · rw [e]; exact (hu.mono rfl).trans ((thermalBoundary_leaves u).mono rfl)

theorem housekeeping_goes (s : State) : s.mode.goesTo s.housekeeping.mode := by
  rcases housekeeping_warms s with e | ⟨u, hu, e⟩
  · rw [e]; exact goesTo_refl _
  · rw [e]; exact (thermalBoundary_goes u).congr_left (hu.regs rfl)

theorem enforced_cases {x : Mode} (h : x.enforced = true) : x = .full ∨ x = .router ∨ x = .encode := by
  revert h; cases x <;> decide

/-- Enforcement begins: Throttled above the mode that ran. -/
theorem enforce_regs (s : State) (h : s.mode.current.enforced = true) : s.enforce.mode.regs = (.throttled, s.mode.current, .throttled, false) := by
  have hr : s.runMode = s.mode.current := by
    unfold State.runMode
    rw [if_neg (by rintro e; simp [e, Mode.enforced] at h)]
  have := regs_of_inMode (State.enforce_key s)
  rwa [hr] at this

/-- The registers of Throttled above a mode in which Spillway enforces are legal. -/
theorem ModeSt.legal_throttled {x : Mode} (h : n.regs = (.throttled, x, .throttled, false)) (hx : x.enforced = true) : n.legal := by
  simp only [ModeSt.regs, Prod.mk.injEq] at h
  obtain ⟨h1, h2, h3, h4⟩ := h
  simp [ModeSt.legal, h1, h2, h3, h4, hx]

theorem ModeSt.current_of_regs {x : Mode × Mode × Mode × Bool} (h : n.regs = x) : n.current = x.1 := congrArg Prod.fst h

/-- Enforcement begins in a mode in which Spillway enforces. -/
theorem ModeSt.goesTo_of_enforced (h : n.regs = (.throttled, m.current, .throttled, false)) (hx : m.current.enforced = true) : m.goesTo n := by
  have hc := current_of_regs h
  refine fun _ => ⟨legal_throttled h hx, .inr (.inl ?_)⟩
  rw [hc]
  rcases enforced_cases hx with e | e | e <;> rw [e] <;> rfl

/-- Enforcement begins once the service transition in hand has completed. -/
theorem ModeSt.goesTo_of_completed (h : n.regs = (.throttled, m.target, .throttled, false)) (hb : m.busy = true)
    (hv : m.current.service = true) (hx : m.target.enforced = true) : m.goesTo n :=
  fun _ => ⟨legal_throttled h hx, .inr (.inr (.inr ⟨hb, hv, hx, current_of_regs h⟩))⟩

/-- A service transition in hand completes, and enforcement begins while the throttle threshold stands. -/
theorem graceEnds_goes (s t : State) (ht : t = if s.mode.busy && s.mode.current.service && s.mode.target.enforced then s.transitionDone else s) :
    s.mode.goesTo (if t.thermal.throttle && t.mode.current.enforced && !t.mode.busy then t.enforce else t).mode := by
  by_cases hc : (s.mode.busy && s.mode.current.service && s.mode.target.enforced) = true
  · rw [if_pos hc] at ht
    simp only [Bool.and_eq_true] at hc
    obtain ⟨⟨hb, hv⟩, he⟩ := hc
    have hg := transitionDone_goes s
    have hr := transitionDone_regs s hb (by rintro e; simp [e, Mode.enforced] at he) (by rintro e; simp [e, Mode.enforced] at he)
    rw [← ht] at hg hr
    have hcur := ModeSt.current_of_regs hr
    refine goesTo_ite (ModeSt.goesTo_of_completed ?_ hb hv he) hg
    rw [enforce_regs t (by rw [hcur]; exact he), hcur]
  · rw [if_neg hc] at ht
    rw [← ht]
    split
    · rename_i h
      simp only [Bool.and_eq_true] at h
      exact ModeSt.goesTo_of_enforced (enforce_regs t h.1.2) h.1.2
    · exact goesTo_refl _

theorem graceOver_goes (s : State) : s.mode.goesTo s.graceOver.mode := by
  unfold State.graceOver
  exact graceEnds_goes { s with thermal := { s.thermal with grace := none } } _ rfl

theorem graceOver_leaves (s : State) : Leaves inMode s s.graceOver := by
  have h : Leaves inMode s { s with thermal := { s.thermal with grace := none } } := .of_key (State.key_setThermal _ _)
  have k (u : State) (hu : Leaves inMode s u) :
      Leaves inMode s (if u.thermal.throttle && u.mode.current.enforced && !u.mode.busy then u.enforce else u) :=
    .ite (hu.trans (.of_inMode rfl (State.enforce_key u))) hu
  unfold State.graceOver
  exact k _ (.ite (h.trans (transitionDone_leaves _)) h)

theorem graceExpiry_leaves (s : State) : Leaves inMode s s.graceExpiry := by
  unfold State.graceExpiry
  split
  · exact .refl _ s
  · exact (Leaves.of_key (State.advanceTo_key s _)).trans (graceOver_leaves _)

theorem graceExpiry_goes (s : State) : s.mode.goesTo s.graceExpiry.mode := by
  unfold State.graceExpiry
  split
  · exact goesTo_refl _
  · exact (graceOver_goes _).congr_left (congrArg ModeSt.regs (State.advanceTo_mode _ _))

/-! ### Requests -/

/-- What a request that may change the mode's target, the trace settings or a timing domain does to the mode registers. -/
theorem oddSpec_holds (q : ReqSpec) (hq : q ∈ oddSpecs) (c : Call) (u : State) : u.mode.holds (q.body c u).2.mode := by
  have calm (v : State) (h : v.key.calm = u.key.calm) : u.mode.holds v.mode := ModeSt.holds_of_regs ((Leaves.of_calm h).regs rfl)
  simp only [oddSpecs, List.mem_cons, List.not_mem_nil, or_false] at hq
  rcases hq with rfl | rfl | rfl | rfl | rfl | rfl
  · rcases specSetMode_key c u with h | ⟨m, -, hm, h⟩
    · exact ModeSt.holds_of_regs (regs_of_key h)
    · exact ModeSt.holds_of_asked (regs_of_inMode h) hm
  · unfold specSetJobTrace
    dsimp only
    split <;> exact ModeSt.holds_of_regs rfl
  · refine calm _ ?_
    unfold specSetDomain
    dsimp only
    repeat' split
    all_goals simp
  · refine calm _ ?_
    unfold specSetTimebasePhase
    dsimp only
    repeat' split
    all_goals simp [↓State.key_setHg]
  · refine calm _ ?_
    unfold specSetTimebaseAbsolute
    dsimp only
    repeat' split
    all_goals simp
  · unfold specAckThermal
    dsimp only
    repeat' split
    · exact ModeSt.holds_of_regs rfl
    · exact ModeSt.holds_of_regs rfl
    · exact (ModeSt.holds_of_regs rfl).trans (tryBoot_holds _)

theorem serve_holds {q : ReqSpec} (hq : q ∈ oddSpecs) (r : Request) (s : State) : s.mode.holds (serve q r s).mode :=
  serve_ind (fun u => s.mode.holds u.mode) (fun _ _ h k => k.trans (ModeSt.holds_of_regs (regs_of_key h))) q r s
    (fun c t k => k.trans (oddSpec_holds q hq c t)) (ModeSt.holds_of_regs rfl)

theorem svcSend_holds (s : State) (b : Bytes) : s.mode.holds (s.svcSend b).mode :=
  svcSend_ind (fun u => s.mode.holds u.mode) (fun _ _ h k => k.trans (ModeSt.holds_of_regs (regs_of_key h)))
    (fun q hq c t k => k.trans (oddSpec_holds q hq c t)) s b (ModeSt.holds_of_regs rfl)

theorem inbandRequest_holds (s : State) (sender : InbandSender) (b : Bytes) : s.mode.holds (s.inbandRequest sender b).mode :=
  inbandRequest_ind (fun u => s.mode.holds u.mode) (fun _ _ h k => k.trans (ModeSt.holds_of_regs (regs_of_key h)))
    (fun q hq c t k => k.trans (oddSpec_holds q hq c t)) s sender b (ModeSt.holds_of_regs rfl)

/-- The parts that a request may change of the rare state. -/
def oddParts (q : ReqSpec) : Field → Bool := if q.noun = 0x03 ∨ q.noun = 0x46 then inMode else if q.noun = 0x34 then nothing else inDomains

theorem oddSpec_leaves (q : ReqSpec) (hq : q ∈ oddSpecs) (c : Call) (u : State) : Leaves (oddParts q) u (q.body c u).2 := by
  simp only [oddSpecs, List.mem_cons, List.not_mem_nil, or_false] at hq
  rcases hq with rfl | rfl | rfl | rfl | rfl | rfl
  · rcases specSetMode_key c u with h | ⟨m, -, hm, h⟩
    · exact .of_key h
    · exact .of_inMode rfl h
  · unfold specSetJobTrace
    dsimp only
    split
    · exact .refl _ u
    · exact ⟨fun _ => rfl, fun _ => rfl, fun _ => rfl, fun _ => rfl, fun _ => rfl⟩
  · refine Leaves.of_calm ?_
    unfold specSetDomain
    dsimp only
    repeat' split
    all_goals simp
  · refine Leaves.of_calm ?_
    unfold specSetTimebasePhase
    dsimp only
    repeat' split
    all_goals simp [↓State.key_setHg]
  · refine Leaves.of_calm ?_
    unfold specSetTimebaseAbsolute
    dsimp only
    repeat' split
    all_goals simp
  · show Leaves inMode u _
    unfold specAckThermal
    dsimp only
    repeat' split
    · exact .refl _ u
    · exact .refl _ u
    · refine Leaves.trans ?_ (tryBoot_leaves _)
      exact ⟨nofun, fun _ => rfl, fun _ => rfl, fun _ => rfl, fun _ => rfl⟩

theorem serve_leaves {q : ReqSpec} (hq : q ∈ oddSpecs) (r : Request) (s : State) : Leaves (oddParts q) s (serve q r s) :=
  serve_ind (Leaves (oddParts q) s) (fun _ _ h k => k.then h) q r s (fun c t k => k.trans (oddSpec_leaves q hq c t)) (.refl _ s)

theorem oddParts_le (q : ReqSpec) : rareFields.all (fun f => !oddParts q f || inModeDomains f) = true := by
  unfold oddParts
  repeat' split
  all_goals rfl

theorem svcSend_leaves (s : State) (b : Bytes) : Leaves inModeDomains s (s.svcSend b) :=
  svcSend_ind (Leaves inModeDomains s) (fun _ _ h k => k.then h)
    (fun q hq c t k => k.trans ((oddSpec_leaves q hq c t).mono (oddParts_le q))) s b (.refl _ s)

theorem inbandRequest_leaves (s : State) (sender : InbandSender) (b : Bytes) : Leaves inModeDomains s (s.inbandRequest sender b) :=
  inbandRequest_ind (Leaves inModeDomains s) (fun _ _ h k => k.then h)
    (fun q hq c t k => k.trans ((oddSpec_leaves q hq c t).mono (oddParts_le q))) s sender b (.refl _ s)

end Sys2Proof.Machine
end

section
/-! PROOFS. What each command does to the mode registers and to the state that few commands touch; the frames of the rare state and the
moves between the modes follow from it. -/
namespace Sys2Proof.Machine

variable {m n k : ModeSt} {s t u : State} {pt : Field → Bool} {c : Instr}

/-! ### The rest of the operations that touch the rare state -/

theorem bootToRecovery_leaves (s : State) : Leaves inMode s s.bootToRecovery := .ite (arrive_leaves s _) (.refl _ s)

theorem bootToFallow_leaves (s : State) : Leaves inMode s s.bootToFallow := .ite (enterFallow_leaves s) (.refl _ s)

theorem imageVerified_leaves (s : State) : Leaves inMode s s.imageVerified := .ite (enterTraining_leaves s) (.refl _ s)

theorem watchdog_leaves (s : State) : Leaves inModeDomains s s.watchdog := .ite (enterBoot_leaves s _) (.refl _ s)

theorem watchdog_goes (s : State) : s.mode.goesTo s.watchdog.mode := goesTo_ite (enterBoot_goes s _ _) (goesTo_refl _)

theorem deviceRestart_leaves (s : State) : Leaves inModeDomains s s.deviceRestart := .ite (enterBoot_leaves s _) (.refl _ s)

theorem deviceRestart_goes (s : State) : s.mode.goesTo s.deviceRestart.mode := goesTo_ite (enterBoot_goes s _ _) (goesTo_refl _)

/-- The part of the key of which `Leaves` speaks. -/
def Key.still (k : Key) : (Mode × Mode × Mode × Bool) × Repair × Bool × JtagSt × List DomainSt :=
  (k.mode, k.rare.1, k.rare.2.1, k.rare.2.2.2.2.1, k.rare.2.2.2.2.2.2)

theorem Leaves.of_still (h : t.key.still = s.key.still) : Leaves nothing s t := by
  simp only [State.key, keyOf, Key.still, Prod.mk.injEq] at h
  obtain ⟨⟨h1, h2, h3, h4⟩, hrep, hremap, hjtag, hdom⟩ := h
  exact ⟨fun _ => by simp [ModeSt.regs, h1, h2, h3, h4], fun _ => hrep, fun _ => hdom, fun _ => hjtag, fun _ => hremap⟩

@[simp] theorem State.writeCompat_still (s : State) (o : Nat) (v : BitVec 32) : (s.writeCompat o v).key.still = s.key.still := by
  unfold State.writeCompat
  repeat' split
  all_goals exact Eq.trans rfl rfl

@[simp] theorem State.writeWord_still (s : State) (o : Nat) (v : BitVec 32) : (s.writeWord o v).key.still = s.key.still := by
  unfold State.writeWord
  simp [↓State.key_ite, ↓apply_ite Key.still]

@[simp] theorem State.registerWrite_still (s : State) (o : Nat) (v : BitVec 32) : (s.registerWrite o v).key.still = s.key.still := by
  unfold State.registerWrite State.gated
  simp [↓State.key_ite, ↓apply_ite Key.still]

theorem captureFrame_leaves (s : State) (d : Nat) : Leaves nothing s (s.captureFrame d) :=
  .of_except (State.captureFrame_except _ rfl rfl rfl rfl s d)

theorem readbackArm_leaves (s : State) (v : BitVec 32) : Leaves nothing s (s.gated (fun t => t.readbackArm v)) :=
  .ite (.of_except (State.readbackArm_except _ rfl s v)) (.refl _ s)

theorem videoBoundary_leaves (s : State) (d : Nat) : Leaves inDomains s (s.videoBoundary d) :=
  .ite (.of_calm (State.boundary_calm s d)) (.refl _ s)

theorem swapDecision_leaves (s : State) (d : Nat) : Leaves inDomains s (s.swapDecision d) :=
  .ite ((Leaves.of_key (State.advanceTo_key s _)).trans (.of_calm (State.decideSwap_calm _ d))) (.refl _ s)

theorem svcWord_leaves (s : State) (o : Nat) : Leaves inDomains s (s.svcWord o) :=
  .ite (.refl _ s) ((Leaves.of_except (State.latchFrame_except _ rfl s o)).then (by simp))

/-- The registers after the always-on reset: Dormant, whatever ran before. -/
theorem aonAssert_legal (s : State) : s.aonAssert.mode.legal :=
  ModeSt.legal_of_regs (n := ModeSt.reset) rfl (by simp [ModeSt.legal, ModeSt.reset])

/-! ### Each command -/

/-- All of the state. -/
def everything (_ : Field) : Bool := true

/-- JTAG alone. -/
def inJtag : Field → Bool
  | .jtag => true
  | _ => false

/-- The remap of the reset vector alone. -/
def inRemap : Field → Bool
  | .remap => true
  | _ => false

/-- The parts of the mode registers and of the rare state that each command may change. -/
def rareParts : Instr → Field → Bool
  | .unitFence .. | .dramReadError .. => inRepair
  | .domainFrameLoRead .. | .swapDecision .. | .shadowRebuild .. | .videoDomainBoundary .. | .svcWord .. => inDomains
  | .setDomain .. | .setTimebasePhase .. | .setTimebaseAbsolute .. | .loopUpdate .. | .ptpOffsetMeasurement .. => inDomains
  | .jtagInstruction .. => inJtag
  | .remapSet => inRemap
  | .setMode .. | .ackThermal .. | .bootToRecovery | .bootToFallow | .bootImageVerified | .modeTransitionComplete => inMode
  | .firstBootFail .. | .sensorSample .. | .graceExpiry | .thresholdRelease .. | .sysResetRelease .. | .pwrOkTimeout => inMode
  | .sysResetAssert | .pwrOkFall => inModeRemap
  | .trainingComplete .. => inModeRepair
  | .bootStart | .watchdogExpiry | .deviceRestart | .activationCommit .. | .domain0Boundary => inModeDomains
  | .svcSend .. | .inbandRequest .. => inModeDomains
  | .aonResetAssert => everything
  | _ => nothing

/-- What the run of command `c` from `s` to `t` keeps, what it leaves alone, and how it moves the mode. -/
structure Ran (c : Instr) (s t : State) : Prop where
  kept : Kept s t
  leaves : Leaves (rareParts c) s t
  legal : s.mode.legal → t.mode.legal
  goes : c ≠ .aonResetAssert → s.mode.goesTo t.mode

theorem Ran.of_goes (k : Kept s t) (l : Leaves (rareParts c) s t) (g : s.mode.goesTo t.mode) : Ran c s t :=
  ⟨k, l, fun x => (g x).1, fun _ => g⟩

theorem Ran.of_key (h : t.key = s.key) : Ran c s t :=
  .of_goes (.of_key h) (.of_key h) (ModeSt.goesTo_of_regs (regs_of_key h))

/-- A command known by the state it leads to. -/
theorem Ran.of_run (k : Kept s t) (h : exec c s = .next t) (e : exec c s = .next u) (l : Leaves (rareParts c) s u)
    (g : s.mode.goesTo u.mode) : Ran c s t := by
  rw [e] at h
  cases h
  exact .of_goes k l g

/-- A command known by the state it leads to, which leaves the mode registers alone. -/
theorem Ran.of_run_leaves (k : Kept s t) (h : exec c s = .next t) (e : exec c s = .next u) (l : Leaves (rareParts c) s u)
    (p : rareParts c .mode = false) : Ran c s t :=
  .of_run k h e l (ModeSt.goesTo_of_regs (l.regs p))

/-- A request that may change the mode's target, the trace settings or a timing domain. -/
theorem Ran.of_odd {q : ReqSpec} {r : Request} (hq : q ∈ oddSpecs) (h : exec c s = .next t) (e : exec c s = .next (serve q r s))
    (p : rareFields.all (fun f => !oddParts q f || rareParts c f) = true) : Ran c s t := by
  rw [e] at h
  cases h
  exact .of_goes (serveOdd_kept hq r s) ((serve_leaves hq r s).mono p) (ModeSt.goesTo_of_holds (serve_holds hq r s))

/-- The always-on reset: all may change, and the mode registers are those of Dormant. -/
theorem Ran.of_aonAssert (h : exec .aonResetAssert s = .next t) : Ran .aonResetAssert s t := by
  have k := execAonResetAssert_kept s t h
  cases h
  exact ⟨k, ⟨nofun, nofun, nofun, nofun, nofun⟩, fun _ => aonAssert_legal s, fun x => absurd rfl x⟩

/-- What each command keeps, leaves alone and makes of the mode. -/
theorem exec_ran (c : Instr) (h : exec c s = .next t) : Ran c s t := by
  cases c with
  | dbReqWrite ring value => exact .of_key (execDbReqWrite_key ring value s t h)
  | dbRplWrite ring value => exact .of_key (execDbRplWrite_key ring value s t h)
  | dbEvtWrite value => exact .of_key (execDbEvtWrite_key value s t h)
  | ringEnable ring => exact .of_key (execRingEnable_key ring s t h)
  | ringDisable ring => exact .of_key (execRingDisable_key ring s t h)
  | ringDrainComplete ring => exact .of_key (execRingDrainComplete_key ring s t h)
  | ringFetchError ring verb r => exact .of_key (execRingFetchError_key ring verb r s t h)
  | ringWriteError ring => exact .of_key (execRingWriteError_key ring s t h)
  | intEnableWrite value => exact .of_key (execIntEnableWrite_key value s t h)
  | intHoldoffExpiry vector => exact .of_key (execIntHoldoffExpiry_key vector s t h)
  | gateBadAccess offset write => exact .of_key (execGateBadAccess_key offset write s t h)
  | domainFrameLoRead d =>
    exact .of_run_leaves (.of_base (execDomainFrameLoRead_base d s t h)) h rfl (.of_except (State.frameLoRead_except _ rfl s d)) rfl
  | timeNsRead => exact .of_key (execTimeNsRead_key s t h)
  | incrNsRead => exact .of_key (execIncrNsRead_key s t h)
  | capNsRead pin => exact .of_key (execCapNsRead_key pin s t h)
  | registerWrite offset value =>
    exact .of_run_leaves (.of_base (execRegisterWrite_base offset value s t h)) h rfl
      (.of_still (State.registerWrite_still s offset value)) rfl
  | pcieFunctionReset => exact .of_run_leaves (execPcieFunctionReset_kept s t h) h rfl (pcieReset_leaves s) rfl
  | pciePerstAssert => exact .of_run_leaves (execPciePerstAssert_kept s t h) h rfl (pcieReset_leaves s) rfl
  | queryDevice r => exact .of_key (execQueryDevice_key r s t h)
  | resetDevice r => exact .of_key (execResetDevice_key r s t h)
  | deviceRestart => exact .of_run (execDeviceRestart_kept s t h) h rfl (deviceRestart_leaves s) (deviceRestart_goes s)
  | commit r => exact .of_key (execCommit_key r s t h)
  | cancelStageSet r => exact .of_key (execCancelStageSet_key r s t h)
  | cancelCommitted r => exact .of_key (execCancelCommitted_key r s t h)
  | setMode r => exact .of_odd (q := specSetMode) (by simp [oddSpecs]) h rfl rfl
  | queryMode r => exact .of_key (execQueryMode_key r s t h)
  | setDomain r => exact .of_odd (q := specSetDomain) (by simp [oddSpecs]) h rfl rfl
  | queryDomain r => exact .of_key (execQueryDomain_key r s t h)
  | queryReach r => exact .of_key (execQueryReach_key r s t h)
  | queryReachBandwidth r => exact .of_key (execQueryReachBandwidth_key r s t h)
  | subscribe r => exact .of_key (execSubscribe_key r s t h)
  | unsubscribe r => exact .of_key (execUnsubscribe_key r s t h)
  | querySubscriptions r => exact .of_key (execQuerySubscriptions_key r s t h)
  | queryEvent r => exact .of_key (execQueryEvent_key r s t h)
  | take r => exact .of_key (execTake_key r s t h)
  | salvo r => exact .of_key (execSalvo_key r s t h)
  | stageDstRoute r => exact .of_key (execStageDstRoute_key r s t h)
  | stageDstFormat r => exact .of_key (execStageDstFormat_key r s t h)
  | stageDstDomain r => exact .of_key (execStageDstDomain_key r s t h)
  | setSrcFormat r => exact .of_key (execSetSrcFormat_key r s t h)
  | setSrcGenerator r => exact .of_key (execSetSrcGenerator_key r s t h)
  | queryDst r => exact .of_key (execQueryDst_key r s t h)
  | querySrc r => exact .of_key (execQuerySrc_key r s t h)
  | lockDst r => exact .of_key (execLockDst_key r s t h)
  | unlockDst r => exact .of_key (execUnlockDst_key r s t h)
  | stageSrcLossAction r => exact .of_key (execStageSrcLossAction_key r s t h)
  | stageSrcOverride r => exact .of_key (execStageSrcOverride_key r s t h)
  | setDstProbe r => exact .of_key (execSetDstProbe_key r s t h)
  | queryDstProbe r => exact .of_key (execQueryDstProbe_key r s t h)
  | querySrcAlignment r => exact .of_key (execQuerySrcAlignment_key r s t h)
  | setSrcPlayoutPost r => exact .of_key (execSetSrcPlayoutPost_key r s t h)
  | setDstCaptureHold r => exact .of_key (execSetDstCaptureHold_key r s t h)
  | queryDstCapture r => exact .of_key (execQueryDstCapture_key r s t h)
  | takeAudioOut r => exact .of_key (execTakeAudioOut_key r s t h)
  | stageAudioOutRoute r => exact .of_key (execStageAudioOutRoute_key r s t h)
  | stageAudioOutFollow r => exact .of_key (execStageAudioOutFollow_key r s t h)
  | stageAudioOutDomain r => exact .of_key (execStageAudioOutDomain_key r s t h)
  | stageAudioOutDelay r => exact .of_key (execStageAudioOutDelay_key r s t h)
  | stageAacProgramme r => exact .of_key (execStageAacProgramme_key r s t h)
  | lockAudioOut r => exact .of_key (execLockAudioOut_key r s t h)
  | unlockAudioOut r => exact .of_key (execUnlockAudioOut_key r s t h)
  | setAudioPort r => exact .of_key (execSetAudioPort_key r s t h)
  | stageSlotMask r => exact .of_key (execStageSlotMask_key r s t h)
  | queryAudioIn r => exact .of_key (execQueryAudioIn_key r s t h)
  | queryAudioOut r => exact .of_key (execQueryAudioOut_key r s t h)
  | setLaneTransmit r => exact .of_key (execSetLaneTransmit_key r s t h)
  | setLaneReceive r => exact .of_key (execSetLaneReceive_key r s t h)
  | setLaneAsymmetry r => exact .of_key (execSetLaneAsymmetry_key r s t h)
  | setLaneTestTools r => exact .of_key (execSetLaneTestTools_key r s t h)
  | setLaneEyeScan r => exact .of_key (execSetLaneEyeScan_key r s t h)
  | readLaneEyeScan r => exact .of_key (execReadLaneEyeScan_key r s t h)
  | setLaneI2cBind r => exact .of_key (execSetLaneI2cBind_key r s t h)
  | writeLaneI2c r => exact .of_key (execWriteLaneI2c_key r s t h)
  | setLaneRateHooks r => exact .of_key (execSetLaneRateHooks_key r s t h)
  | queryLane r => exact .of_key (execQueryLane_key r s t h)
  | resetLane r => exact .of_key (execResetLane_key r s t h)
  | setEthPort r => exact .of_key (execSetEthPort_key r s t h)
  | setEthPortPtp r => exact .of_key (execSetEthPortPtp_key r s t h)
  | queryEthPort r => exact .of_key (execQueryEthPort_key r s t h)
  | resetEthPort r => exact .of_key (execResetEthPort_key r s t h)
  | stageFlow r => exact .of_key (execStageFlow_key r s t h)
  | queryFlow r => exact .of_key (execQueryFlow_key r s t h)
  | stageQueueDscpMap r => exact .of_key (execStageQueueDscpMap_key r s t h)
  | stageQueue r => exact .of_key (execStageQueue_key r s t h)
  | readQueueSamples r => exact .of_key (execReadQueueSamples_key r s t h)
  | queryQueue r => exact .of_key (execQueryQueue_key r s t h)
  | stageGateList r => exact .of_key (execStageGateList_key r s t h)
  | queryGateList r => exact .of_key (execQueryGateList_key r s t h)
  | stagePlane r => exact .of_key (execStagePlane_key r s t h)
  | setPlaneDiagnosis r => exact .of_key (execSetPlaneDiagnosis_key r s t h)
  | queryPlane r => exact .of_key (execQueryPlane_key r s t h)
  | setRefInput r => exact .of_key (execSetRefInput_key r s t h)
  | queryRefInput r => exact .of_key (execQueryRefInput_key r s t h)
  | setTimebase r => exact .of_key (execSetTimebase_key r s t h)
  | setTimebasePhase r => exact .of_odd (q := specSetTimebasePhase) (by simp [oddSpecs]) h rfl rfl
  | setTimebaseAbsolute r => exact .of_odd (q := specSetTimebaseAbsolute) (by simp [oddSpecs]) h rfl rfl
  | queryTimebase r => exact .of_key (execQueryTimebase_key r s t h)
  | setTrigger r => exact .of_key (execSetTrigger_key r s t h)
  | queryTrigger r => exact .of_key (execQueryTrigger_key r s t h)
  | stageStem r => exact .of_key (execStageStem_key r s t h)
  | queryStem r => exact .of_key (execQueryStem_key r s t h)
  | queryStemCapacity r => exact .of_key (execQueryStemCapacity_key r s t h)
  | stageRendition r => exact .of_key (execStageRendition_key r s t h)
  | stageRenditionRate r => exact .of_key (execStageRenditionRate_key r s t h)
  | queryRendition r => exact .of_key (execQueryRendition_key r s t h)
  | queryRenditionRate r => exact .of_key (execQueryRenditionRate_key r s t h)
  | stageDelivery r => exact .of_key (execStageDelivery_key r s t h)
  | queryDelivery r => exact .of_key (execQueryDelivery_key r s t h)
  | submitJob r => exact .of_key (execSubmitJob_key r s t h)
  | cancelJob r => exact .of_key (execCancelJob_key r s t h)
  | queryJob r => exact .of_key (execQueryJob_key r s t h)
  | queryJobReaches r => exact .of_key (execQueryJobReaches_key r s t h)
  | setJobTrace r => exact .of_odd (q := specSetJobTrace) (by simp [oddSpecs]) h rfl rfl
  | readJobTrace r => exact .of_key (execReadJobTrace_key r s t h)
  | stageDecodeCtx r => exact .of_key (execStageDecodeCtx_key r s t h)
  | queryDecodeCtx r => exact .of_key (execQueryDecodeCtx_key r s t h)
  | resetDecodeCtx r => exact .of_key (execResetDecodeCtx_key r s t h)
  | stageHead r => exact .of_key (execStageHead_key r s t h)
  | stageHeadDomain r => exact .of_key (execStageHeadDomain_key r s t h)
  | setHeadFreeze r => exact .of_key (execSetHeadFreeze_key r s t h)
  | setHeadStickyClear r => exact .of_key (execSetHeadStickyClear_key r s t h)
  | queryHead r => exact .of_key (execQueryHead_key r s t h)
  | stageVideoLayer r => exact .of_key (execStageVideoLayer_key r s t h)
  | stageGraphicLayer r => exact .of_key (execStageGraphicLayer_key r s t h)
  | stageLayerMatrix r => exact .of_key (execStageLayerMatrix_key r s t h)
  | stageMeterFirst r => exact .of_key (execStageMeterFirst_key r s t h)
  | writeLayerSurface r => exact .of_key (execWriteLayerSurface_key r s t h)
  | queryLayer r => exact .of_key (execQueryLayer_key r s t h)
  | setGauge r => exact .of_key (execSetGauge_key r s t h)
  | writeGaugeData r => exact .of_key (execWriteGaugeData_key r s t h)
  | setGaugeFeed r => exact .of_key (execSetGaugeFeed_key r s t h)
  | queryGauge r => exact .of_key (execQueryGauge_key r s t h)
  | setGaugeValue r => exact .of_key (execSetGaugeValue_key r s t h)
  | setGaugeFinalise r => exact .of_key (execSetGaugeFinalise_key r s t h)
  | resetGauge r => exact .of_key (execResetGauge_key r s t h)
  | ackThermal r => exact .of_odd (q := specAckThermal) (by simp [oddSpecs]) h rfl rfl
  | readThermalRecords r => exact .of_key (execReadThermalRecords_key r s t h)
  | setThermal r => exact .of_key (execSetThermal_key r s t h)
  | queryThermal r => exact .of_key (execQueryThermal_key r s t h)
  | readCounter r => exact .of_key (execReadCounter_key r s t h)
  | readCounterCatalogue r => exact .of_key (execReadCounterCatalogue_key r s t h)
  | writeCounterSticky r => exact .of_key (execWriteCounterSticky_key r s t h)
  | openImage r => exact .of_key (execOpenImage_key r s t h)
  | putImage r => exact .of_key (execPutImage_key r s t h)
  | closeImage r => exact .of_key (execCloseImage_key r s t h)
  | activateImage r => exact .of_key (execActivateImage_key r s t h)
  | setImage r => exact .of_key (execSetImage_key r s t h)
  | queryImage r => exact .of_key (execQueryImage_key r s t h)
  | lockImage r => exact .of_key (execLockImage_key r s t h)
  | unlockImage r => exact .of_key (execUnlockImage_key r s t h)
  | readCalset r => exact .of_key (execReadCalset_key r s t h)
  | writeCalset r => exact .of_key (execWriteCalset_key r s t h)
  | setCalsetRecalibrate r => exact .of_key (execSetCalsetRecalibrate_key r s t h)
  | recalibrationComplete result => exact .of_key (execRecalibrationComplete_key result s t h)
  | svcSend frame =>
    exact .of_run (execSvcSend_kept frame s t h) h rfl (svcSend_leaves s frame) (ModeSt.goesTo_of_holds (svcSend_holds s frame))
  | svcStatus => exact .of_key (execSvcStatus_key s t h)
  | svcFetch => exact .of_key (execSvcFetch_key s t h)
  | svcWord offset => exact .of_run_leaves (.of_base (execSvcWord_base offset s t h)) h rfl (svcWord_leaves s offset) rfl
  | inbandRequest sender frame =>
    exact .of_run (execInbandRequest_kept sender frame s t h) h rfl
      (inbandRequest_leaves s sender frame) (ModeSt.goesTo_of_holds (inbandRequest_holds s sender frame))
  | aonResetAssert => exact .of_aonAssert h
  | aonResetRelease => exact .of_key (execAonResetRelease_key s t h)
  | sysResetAssert => exact .of_run (execSysResetAssert_kept s t h) h rfl (sysAssert_leaves s) (sysAssert_goes s)
  | sysResetRelease bootSel =>
    exact .of_run (.of_base (execSysResetRelease_base bootSel s t h)) h rfl
      (sysRelease_leaves s bootSel) (ModeSt.goesTo_of_holds (sysRelease_holds s bootSel))
  | pwrOkRise => exact .of_key (execPwrOkRise_key s t h)
  | pwrOkFall => exact .of_run (execPwrOkFall_kept s t h) h rfl (pwrFall_leaves s) (pwrFall_goes s)
  | pwrOkTimeout =>
    exact .of_run (.of_base (execPwrOkTimeout_base s t h)) h rfl (pwrTimeout_leaves s) (ModeSt.goesTo_of_holds (pwrTimeout_holds s))
  | bootStart => exact .of_run (execBootStart_kept s t h) h rfl (bootStart_leaves s) (bootStart_goes s)
  | bootImageVerified => exact .of_run (execBootImageVerified_kept s t h) h rfl (imageVerified_leaves s) (imageVerified_goes s)
  | bootToRecovery => exact .of_run (execBootToRecovery_kept s t h) h rfl (bootToRecovery_leaves s) (bootToRecovery_goes s)
  | bootToFallow => exact .of_run (execBootToFallow_kept s t h) h rfl (bootToFallow_leaves s) (bootToFallow_goes s)
  | trainingComplete found =>
    exact .of_run (execTrainingComplete_kept found s t h) h rfl (trainingDone_leaves s found) (trainingDone_goes s found)
  | firstBootPass => exact .of_key (execFirstBootPass_key s t h)
  | firstBootFail failCode =>
    exact .of_run (execFirstBootFail_kept failCode s t h) h rfl (firstFail_leaves s failCode) (firstFail_goes s failCode)
  | oldSlotErased => exact .of_key (execOldSlotErased_key s t h)
  | modeTransitionComplete => exact .of_run (execModeTransitionComplete_kept s t h) h rfl (transitionDone_leaves s) (transitionDone_goes s)
  | unitFence kind index element =>
    exact .of_run_leaves (execUnitFence_kept kind index element s t h) h rfl (fence_leaves s kind index element) rfl
  | domain0Boundary => exact .of_run (execDomain0Boundary_kept s t h) h rfl (housekeeping_leaves s) (housekeeping_goes s)
  | shadowRebuild d complete =>
    exact .of_run_leaves (.of_base (execShadowRebuild_base d complete s t h)) h rfl
      (.of_except (State.shadowRebuild_except _ rfl rfl s d complete)) rfl
  | swapDecision d => exact .of_run_leaves (.of_base (execSwapDecision_base d s t h)) h rfl (swapDecision_leaves s d) rfl
  | videoDomainBoundary d => exact .of_run_leaves (.of_base (execVideoDomainBoundary_base d s t h)) h rfl (videoBoundary_leaves s d) rfl
  | destSwitchingLine dst => exact .of_key (execDestSwitchingLine_key dst s t h)
  | loopUpdate phase freq =>
    exact .of_run_leaves (.of_base (execLoopUpdate_base phase freq s t h)) h rfl (.of_calm (State.loopUpdate_calm s phase freq)) rfl
  | refMonitorReading k ppb => exact .of_key (execRefMonitorReading_key k ppb s t h)
  | refActivityLost k => exact .of_key (execRefActivityLost_key k s t h)
  | refQualify k => exact .of_key (execRefQualify_key k s t h)
  | acquireStagePass => exact .of_key (execAcquireStagePass_key s t h)
  | lockedBandwidthNarrow => exact .of_key (execLockedBandwidthNarrow_key s t h)
  | holdoverExpiry => exact .of_key (execHoldoverExpiry_key s t h)
  | historyRecord meanFreq => exact .of_key (execHistoryRecord_key meanFreq s t h)
  | ptpOffsetMeasurement offset identity clockClass =>
    exact .of_run_leaves (.of_base (execPtpOffsetMeasurement_base offset identity clockClass s t h)) h rfl
      (.of_calm (State.ptpOffset_calm s offset identity clockClass)) rfl
  | ptpBridgeTimeout => exact .of_key (execPtpBridgeTimeout_key s t h)
  | triggerFire k => exact .of_key (execTriggerFire_key k s t h)
  | ppsOutPulse => exact .of_key (execPpsOutPulse_key s t h)
  | tcapEdge pin falling => exact .of_key (execTcapEdge_key pin falling s t h)
  | sourceFrameMeasure src arrivalNs periodPs beyond => exact .of_key (execSourceFrameMeasure_key src arrivalNs periodPs beyond s t h)
  | sourceFrameComplete src frame => exact .of_key (execSourceFrameComplete_key src frame s t h)
  | sourceSignalLoss src linesMissing got => exact .of_key (execSourceSignalLoss_key src linesMissing got s t h)
  | flowSourceTimeout src got => exact .of_key (execFlowSourceTimeout_key src got s t h)
  | destFrameStart dst => exact .of_key (execDestFrameStart_key dst s t h)
  | probeFrame dst => exact .of_key (execProbeFrame_key dst s t h)
  | generatorFrame src => exact .of_key (execGeneratorFrame_key src s t h)
  | recirculationReturn k => exact .of_key (execRecirculationReturn_key k s t h)
  | dramReadError e =>
    exact .of_run_leaves (.of_base (execDramReadError_base e s t h)) h rfl (.of_except (by apply State.dramError_except <;> rfl)) rfl
  | converterMeasure ain ratioPpb phase fill => exact .of_key (execConverterMeasure_key ain ratioPpb phase fill s t h)
  | audioActivityLoss ain buffered => exact .of_key (execAudioActivityLoss_key ain buffered s t h)
  | audioSlip ain => exact .of_key (execAudioSlip_key ain s t h)
  | audioBoundary aout run => exact .of_key (execAudioBoundary_key aout run s t h)
  | zeroCrossing aout start run => exact .of_key (execZeroCrossing_key aout start run s t h)
  | zeroCrossingTimeout aout start run => exact .of_key (execZeroCrossingTimeout_key aout start run s t h)
  | nonaudioOnset pair dataType => exact .of_key (execNonaudioOnset_key pair dataType s t h)
  | nonaudioEnd pair => exact .of_key (execNonaudioEnd_key pair s t h)
  | aacAccessUnit aout au cons => exact .of_key (execAacAccessUnit_key aout au cons s t h)
  | portClockError p bits => exact .of_key (execPortClockError_key p bits s t h)
  | portClockRecover p => exact .of_key (execPortClockRecover_key p s t h)
  | laneSignalDetect lane => exact .of_key (execLaneSignalDetect_key lane s t h)
  | adaptStepEnd lane res => exact .of_key (execAdaptStepEnd_key lane res s t h)
  | qualifyTimeout lane => exact .of_key (execQualifyTimeout_key lane s t h)
  | fomUpdate lane levels => exact .of_key (execFomUpdate_key lane levels s t h)
  | fomAlarmClear lane => exact .of_key (execFomAlarmClear_key lane s t h)
  | laneInputLoss lane => exact .of_key (execLaneInputLoss_key lane s t h)
  | eyeScanComplete lane counts => exact .of_key (execEyeScanComplete_key lane counts s t h)
  | prbsCheckerLock lane => exact .of_key (execPrbsCheckerLock_key lane s t h)
  | prbsCheckerRelock lane bits errors symbolErrors => exact .of_key (execPrbsCheckerRelock_key lane bits errors symbolErrors s t h)
  | i2cTransactionEnd bus res => exact .of_key (execI2cTransactionEnd_key bus res s t h)
  | i2cStretchTimeout bus sdaLow => exact .of_key (execI2cStretchTimeout_key bus sdaLow s t h)
  | rateHookStart lane hd => exact .of_key (execRateHookStart_key lane hd s t h)
  | linkUp port => exact .of_key (execLinkUp_key port s t h)
  | linkDown port cause => exact .of_key (execLinkDown_key port cause s t h)
  | ethFrameReceive port frame => exact .of_key (execEthFrameReceive_key port frame s t h)
  | ptpMessageReceive port msg => exact .of_key (execPtpMessageReceive_key port msg s t h)
  | mergeRelease flow => exact .of_key (execMergeRelease_key flow s t h)
  | legLoss flow leg => exact .of_key (execLegLoss_key flow leg s t h)
  | legReturn flow leg => exact .of_key (execLegReturn_key flow leg s t h)
  | membershipReportRepeat port => exact .of_key (execMembershipReportRepeat_key port s t h)
  | ristSenderReport delivery => exact .of_key (execRistSenderReport_key delivery s t h)
  | egressEnqueue port frame => exact .of_key (execEgressEnqueue_key port frame s t h)
  | egressSelect port => exact .of_key (execEgressSelect_key port s t h)
  | queueDelayDrop queue => exact .of_key (execQueueDelayDrop_key queue s t h)
  | gateEntryChange port => exact .of_key (execGateEntryChange_key port s t h)
  | gateListTakeover port => exact .of_key (execGateListTakeover_key port s t h)
  | queueSample port => exact .of_key (execQueueSample_key port s t h)
  | pacerRelease flow j => exact .of_key (execPacerRelease_key flow j s t h)
  | audioAncRelease flow line audio status => exact .of_key (execAudioAncRelease_key flow line audio status s t h)
  | leaseRenew plane => exact .of_key (execLeaseRenew_key plane s t h)
  | leaseExpiry => exact .of_key (execLeaseExpiry_key s t h)
  | rightRequest plane => exact .of_key (execRightRequest_key plane s t h)
  | planeCheckEval plane obs => exact .of_key (execPlaneCheckEval_key plane obs s t h)
  | handbackHoldoffExpiry => exact .of_key (execHandbackHoldoffExpiry_key s t h)
  | handoverHoldEnd src => exact .of_key (execHandoverHoldEnd_key src s t h)
  | stemAnalysisRelease stem => exact .of_key (execStemAnalysisRelease_key stem s t h)
  | analysisDeadline stem => exact .of_key (execAnalysisDeadline_key stem s t h)
  | partitionCutTime rendition partition => exact .of_key (execPartitionCutTime_key rendition partition s t h)
  | deliveryInstant stem cons => exact .of_key (execDeliveryInstant_key stem cons s t h)
  | riderRequest reach consumer index => exact .of_key (execRiderRequest_key reach consumer index s t h)
  | riderItemComplete reach consumer index out cons => exact .of_key (execRiderItemComplete_key reach consumer index out cons s t h)
  | riderPreempt reach => exact .of_key (execRiderPreempt_key reach s t h)
  | coreWake reach consumer index => exact .of_key (execCoreWake_key reach consumer index s t h)
  | coreGate reach consumer index => exact .of_key (execCoreGate_key reach consumer index s t h)
  | riderRetry reach => exact .of_key (execRiderRetry_key reach s t h)
  | bfOutputRetry job cons => exact .of_key (execBfOutputRetry_key job cons s t h)
  | floorAlarmClear rendition => exact .of_key (execFloorAlarmClear_key rendition s t h)
  | tsTableInsert delivery => exact .of_key (execTsTableInsert_key delivery s t h)
  | tsPacketSend delivery => exact .of_key (execTsPacketSend_key delivery s t h)
  | decodePictureComplete ctx pic => exact .of_key (execDecodePictureComplete_key ctx pic s t h)
  | decodePresent ctx => exact .of_key (execDecodePresent_key ctx s t h)
  | decodeOutputLoss ctx => exact .of_key (execDecodeOutputLoss_key ctx s t h)
  | headFrameStart head peaks => exact .of_key (execHeadFrameStart_key head peaks s t h)
  | headFrameComplete head => exact .of_key (execHeadFrameComplete_key head s t h)
  | readbackArm value => exact .of_run_leaves (.of_base (execReadbackArm_base value s t h)) h rfl (readbackArm_leaves s value) rfl
  | readbackCapture words =>
    exact .of_run_leaves (.of_base (execReadbackCapture_base words s t h)) h rfl
      (.of_except (State.readbackCapture_except _ rfl s words)) rfl
  | culvertArm c => exact .of_key (execCulvertArm_key c s t h)
  | culvertAbort c => exact .of_key (execCulvertAbort_key c s t h)
  | culvertErrorClear c => exact .of_key (execCulvertErrorClear_key c s t h)
  | culvertHalf c => exact .of_key (execCulvertHalf_key c s t h)
  | culvertComplete c data =>
    exact .of_run_leaves (execCulvertComplete_kept c data s t h) h rfl
      (.of_except (State.culvertComplete_except _ rfl rfl rfl rfl rfl s c data)) rfl
  | culvertError c code done =>
    exact .of_run_leaves (execCulvertError_kept c code done s t h) h rfl
      (.of_except (State.culvertError_except _ rfl rfl rfl rfl rfl s c code done)) rfl
  | culvertAbortComplete c done =>
    exact .of_run_leaves (execCulvertAbortComplete_kept c done s t h) h rfl
      (.of_except (State.culvertAbortEnd_except _ rfl rfl rfl rfl rfl s c done)) rfl
  | remapSet => exact .of_run_leaves (.of_base (execRemapSet_base s t h)) h rfl (.of_except (State.remapSet_except _ rfl s)) rfl
  | busDefaultAccess access => exact .of_key (execBusDefaultAccess_key access s t h)
  | scrubPassComplete stack => exact .of_key (execScrubPassComplete_key stack s t h)
  | refreshDue stack bank rtWaiting => exact .of_key (execRefreshDue_key stack bank rtWaiting s t h)
  | panicEnter reach port writer fill => exact .of_key (execPanicEnter_key reach port writer fill s t h)
  | panicLeave reach port writer fill => exact .of_key (execPanicLeave_key reach port writer fill s t h)
  | rtStarved reach port => exact .of_key (execRtStarved_key reach port s t h)
  | playoutPostTime src => exact .of_key (execPlayoutPostTime_key src s t h)
  | playoutSlotFree src slot => exact .of_key (execPlayoutSlotFree_key src slot s t h)
  | captureFrameWritten dst => exact .of_run_leaves (execCaptureFrameWritten_kept dst s t h) h rfl (captureFrame_leaves s dst) rfl
  | gaugeFeedComplete unit => exact .of_key (execGaugeFeedComplete_key unit s t h)
  | holdupOkFall => exact .of_key (execHoldupOkFall_key s t h)
  | tallyChange n level => exact .of_key (execTallyChange_key n level s t h)
  | sensorSample readings =>
    exact .of_run (execSensorSample_kept readings s t h) h rfl (sensorSample_leaves s readings) (sensorSample_goes s readings)
  | thresholdRelease level =>
    exact .of_run (.of_base (execThresholdRelease_base level s t h)) h rfl
      (thresholdRelease_leaves s level) (ModeSt.goesTo_of_holds (thresholdRelease_holds s level))
  | graceExpiry => exact .of_run (execGraceExpiry_kept s t h) h rfl (graceExpiry_leaves s) (graceExpiry_goes s)
  | enforcementReevaluate => exact .of_key (execEnforcementReevaluate_key s t h)
  | clauseClockStep reach => exact .of_key (execClauseClockStep_key reach s t h)
  | powerSample rails => exact .of_key (execPowerSample_key rails s t h)
  | stormEnd => exact .of_key (execStormEnd_key s t h)
  | pieceWriteComplete piece => exact .of_key (execPieceWriteComplete_key piece s t h)
  | pieceStale piece => exact .of_key (execPieceStale_key piece s t h)
  | leaseIdleExpiry => exact .of_key (execLeaseIdleExpiry_key s t h)
  | activationCommit entriesOk =>
    exact .of_run (execActivationCommit_kept entriesOk s t h) h rfl
      (activationCommit_leaves s entriesOk) (activationCommit_goes s entriesOk)
  | watchdogExpiry => exact .of_run (execWatchdogExpiry_kept s t h) h rfl (watchdog_leaves s) (watchdog_goes s)
  | holdupOkRise => exact .of_key (execHoldupOkRise_key s t h)
  | delayReqSend port => exact .of_key (execDelayReqSend_key port s t h)
  | announceTimeout port best => exact .of_key (execAnnounceTimeout_key port best s t h)
  | ristReceiverReport flow => exact .of_key (execRistReceiverReport_key flow s t h)
  | decoderInputRelease flow => exact .of_key (execDecoderInputRelease_key flow s t h)
  | jtagInstruction ir =>
    exact .of_run_leaves (.of_base (execJtagInstruction_base ir s t h)) h rfl (.of_except (State.jtagRun_except _ rfl s ir)) rfl

/-! ### The obligations -/

/-- What a step makes of the mode registers; an idle tick leaves them as they are. -/
theorem step_mode (l : s.mode.legal) (h : step s = .next t) :
    t.mode.legal ∧ (s.pending.head? ≠ some .aonResetAssert → s.mode.movesTo t.mode) := by
  unfold step at h
  split at h
  case h_1 =>
    cases h
    have g := ModeSt.goesTo_of_regs (m := s.mode) ((Leaves.of_except (pt := nothing) (State.idle_except _ rfl s)).regs rfl) l
    exact ⟨g.1, fun _ => g.2⟩
  case h_2 c rest e =>
    have r := exec_ran c h
    refine ⟨r.legal l, fun x => (r.goes ?_ l).2⟩
    rintro rfl
    exact x (by rw [e]; rfl)

/-- Settles O6, from what each command does to the mode registers. -/
theorem stepKeepsModeLegal : Obligations.StepKeepsModeLegal := fun _ _ l h => (step_mode l h).1

/-- Settles O7, from what each command does to the mode registers. -/
theorem modeMovesAsListed : Obligations.ModeMovesAsListed := fun _ _ l hc h => (step_mode l h).2 hc

theorem rareParts_repair (c : Instr) : (!rareParts c .repair || touchesRepair c) = true := by cases c <;> rfl

theorem rareParts_domains (c : Instr) : (!rareParts c .domains || touchesDomains c) = true := by cases c <;> rfl

/-- Commands that may change the JTAG registers. -/
def touchesJtag : Instr → Bool
  | .jtagInstruction .. | .aonResetAssert => true
  | _ => false

/-- Commands that may change the remap of the reset vector. -/
def touchesRemap : Instr → Bool
  | .remapSet | .sysResetAssert | .pwrOkFall | .aonResetAssert => true
  | _ => false

theorem rareParts_jtag (c : Instr) : (!rareParts c .jtag || touchesJtag c) = true := by cases c <;> rfl

theorem rareParts_remap (c : Instr) : (!rareParts c .remap || touchesRemap c) = true := by cases c <;> rfl

theorem touchesJtag_eq_false (ha : c ≠ .aonResetAssert) (hj : ∀ op, c ≠ .jtagInstruction op) : touchesJtag c = false := by
  unfold touchesJtag
  split
  · exact absurd rfl (hj _)
  · exact absurd rfl ha
  · rfl

theorem touchesRemap_eq_false (ha : c ≠ .aonResetAssert) (hr : c ≠ .remapSet) (hs : c ≠ .sysResetAssert) (hp : c ≠ .pwrOkFall) :
    touchesRemap c = false := by
  unfold touchesRemap
  split
  · exact absurd rfl hr
  · exact absurd rfl hs
  · exact absurd rfl hp
  · exact absurd rfl ha
  · rfl

/-- A command changes no part of the rare state but those that it may touch. -/
theorem rareParts_eq_false {f : Field} {b : Bool} (h : (!rareParts c f || b) = true) (k : b = false) : rareParts c f = false := by
  simpa [k] using h

/-- Settles O9, from what each command keeps and leaves alone. -/
theorem rareStateFrame : Obligations.RareStateFrame := by
  intro c s t h
  obtain ⟨kept, leaves, -, -⟩ := exec_ran c h
  exact ⟨kept.queue, kept.identity, fun x => leaves.repair (rareParts_eq_false (rareParts_repair c) x),
    fun x => leaves.domains (rareParts_eq_false (rareParts_domains c) x),
    fun ha hj => leaves.jtag (rareParts_eq_false (rareParts_jtag c) (touchesJtag_eq_false ha hj)),
    fun ha hr hs hp => leaves.remap (rareParts_eq_false (rareParts_remap c) (touchesRemap_eq_false ha hr hs hp))⟩

end Sys2Proof.Machine
end

section
/-! PROOFS. The reset state, and where a part with no target frame lands. -/
namespace Sys2Proof.Machine

/-! ### The reset state (01 R27, R50, R54; 02 R75, R125) -/

theorem getD_replicate_self {α : Type} (n k : Nat) (x : α) : (List.replicate n x).getD k x = x := by
  rw [List.getD_eq_getElem?_getD, List.getElem?_replicate]
  split <;> rfl

theorem reset_ring (n : Nat) : State.reset.ring n = Ring.reset := getD_replicate_self 5 n Ring.reset

/-- Domains 1 to 8 are at their reset values. -/
theorem reset_domain (d : Nat) : State.reset.domain (d + 1) = DomainSt.reset := getD_replicate_self 8 d DomainSt.reset

/-- Domains 1 to 8 have no rate at reset. -/
theorem reset_domain_rate {d : Nat} (h : 1 ≤ d) : (State.reset.domain d).rate = 0 := by
  obtain ⟨e, rfl⟩ := Nat.exists_eq_add_of_le' h
  rw [reset_domain]
  rfl

/-- Settles O3, field by field. -/
theorem resetState : Obligations.ResetState := by
  refine ⟨rfl, rfl, rfl, rfl, rfl, fun n => ?_, rfl, rfl, fun d h => reset_domain_rate h, rfl, rfl, rfl, fun _ _ => rfl, fun _ _ => rfl,
    rfl, rfl, rfl⟩
  rw [reset_ring]
  exact ⟨rfl, rfl, rfl, rfl⟩

/-- Settles O4, by evaluation. -/
theorem resetIsSound : Obligations.ResetIsSound :=
  ⟨⟨rfl, rfl⟩, by simp [ModeSt.legal, State.reset, ModeSt.reset]⟩

/-! ### Landings (01 R32; 02 R109) -/

/-- A part aimed at a frame is answered OK only if it lands there, neither moved on nor deferred. -/
theorem landing_ok {s : State} {d f status : Nat} (h : (s.landing d f status).status = stOk) :
    (s.landing d f status).frame = f ∧ status = stOk := by
  unfold State.landing at h ⊢
  dsimp only at h ⊢
  generalize max f _ = g at h ⊢
  split at h
  · exact absurd h (show stDeferred ≠ stOk by decide)
  · rename_i hd
    split at h
    · rename_i hg
      rw [if_neg hd]
      exact ⟨hg, h⟩
    · exact absurd h (show stScheduled ≠ stOk by decide)

theorem landing_ns (s : State) (d f status : Nat) : (s.landing d f status).ns = s.frameNs d (s.landing d f status).frame := rfl

/-- A part with no target frame that is answered OK was aimed beyond the horizon. -/
theorem aimNext_ok {s : State} {arrival d : Nat} (h : (s.aimNext arrival d).status = stOk) :
    arrival + horizonNs d ≤ s.frameNs d (s.aimNext arrival d).frame := by
  unfold State.aimNext at h ⊢
  dsimp only at h ⊢
  split at h
  · exact absurd (landing_ok h).2 (by decide)
  · rename_i hl
    split at h
    · exact absurd (landing_ok h).2 (by decide)
    · rename_i hf
      rw [if_neg hl, if_neg hf, (landing_ok h).1]
      exact Nat.le_of_not_lt hf

theorem aimNext_ns (s : State) (arrival d : Nat) : (s.aimNext arrival d).ns = s.frameNs d (s.aimNext arrival d).frame := by
  unfold State.aimNext
  dsimp only
  split
  · exact landing_ns ..
  · split <;> exact landing_ns ..

/-- Settles O27: only the branch that aims beyond the horizon answers OK. -/
theorem partsLandBeyondHorizon : Obligations.PartsLandBeyondHorizon := by
  intro s arrival d hd h
  have e : s.aim arrival 0 0 d = s.aimNext arrival d := by simp [State.aim, hd]
  rw [e] at h ⊢
  exact ⟨aimNext_ok h, aimNext_ns s arrival d⟩

end Sys2Proof.Machine
end

section
/-! PROOFS. QUERY and READ of the transport and switching nouns: each answers the block that its body builds, and changes nothing. -/
namespace Sys2Proof.Machine

variable {q : ReqSpec} {r : Request} {s : State} {b : Bytes}

/-- An accepted request whose body answers OK with a block and changes nothing has that block as its reply. -/
theorem serve_queried (h : r.accepted q s) (hq : q.staged = false) (hb : q.body (r.callIn s) (s.taking r) = (okWith b, s.taking r))
    (k : b.length ≤ replyRoom r) :
    (.next (serve q r s) : Res) = .next ((s.taking r).reply q.verb r (okWith b)) := congrArg _ (serve_gives h hq hb k)

/-- A body that refuses under a condition, which does not hold. -/
theorem body_admitting {x : Bool} {a : Answer} {y : Answer × State} (hx : x = false) : (if x then (a, s) else y) = y := by rw [hx]; rfl

/-- Settles O19, each request by the equation of its body. -/
theorem transportQueriesAnswer : Obligations.TransportQueriesAnswer := by
  refine ⟨fun r s h k => ?device, fun r s h k => ?reach, fun r s h k => ?mode, fun r s h k => ?domain, fun r s h k => ?subscriptions,
    fun r s h k => ?event, fun r s h m k => ?dst, fun r s h m k => ?src, fun r s h m k => ?probe, fun r s h m k => ?alignment,
    fun r s h c m k => ?capture, fun r s h m k => ?ain, fun r s h m k => ?aout, fun r s h k => ?lane, fun r s h l k => ?eye,
    fun r s h k => ?port, fun r s h k => ?flow, fun r s h k => ?queue, fun r s h m k => ?samples, fun r s h k => ?gates,
    fun r s h k => ?plane⟩
  case device => exact serve_queried h rfl rfl k
  case reach => exact serve_queried h rfl rfl k
  case mode => exact serve_queried h rfl rfl k
  case domain => exact serve_queried h rfl rfl k
  case subscriptions => exact serve_queried h rfl rfl k
  case event => exact serve_queried h rfl rfl k
  case dst => exact serve_queried h rfl (body_admitting m) k
  case src => exact serve_queried h rfl (body_admitting m) k
  case probe => exact serve_queried h rfl (body_admitting m) k
  case alignment => exact serve_queried h rfl (body_admitting m) k
  case capture => exact serve_queried h rfl ((body_admitting (by simp [c])).trans (body_admitting m)) k
  case ain => exact serve_queried h rfl (body_admitting m) k
  case aout => exact serve_queried h rfl (body_admitting m) k
  case lane => exact serve_queried h rfl rfl k
  case eye => exact serve_queried h rfl (if_neg (Nat.not_le.mpr l)) k
  case port => exact serve_queried h rfl rfl k
  case flow => exact serve_queried h rfl rfl k
  case queue => exact serve_queried h rfl rfl k
  case samples => exact serve_queried h rfl (if_pos (by simpa using m)) k
  case gates => exact serve_queried h rfl rfl k
  case plane => exact serve_queried h rfl rfl k

end Sys2Proof.Machine
end

section
/-! PROOFS. SET on Mode and Domain and RESET on Device: what they do and what they refuse. -/
namespace Sys2Proof.Machine

variable {q : ReqSpec} {r : Request} {c : Call} {s t : State} {m : Mode}

/-! ### SET on Mode (01 R50 to R53) -/

theorem setMode_unknown (h : modeOf (u8 c.block 1) = none) : specSetMode.body c s = (fail stRange 0x0003, s) := by
  simp [specSetMode, h]

theorem setMode_busy (h : modeOf (u8 c.block 1) = some m) (hb : s.mode.busy = true) : specSetMode.body c s = (fail stBusy 0x0005, s) := by
  simp [specSetMode, h, hb]

theorem setMode_wake (h : modeOf (u8 c.block 1) = some .boot) (hb : s.mode.busy = false) (hd : s.mode.current = .dormant) :
    specSetMode.body c s = s.wake := by
  simp [specSetMode, h, hb, hd]

theorem setMode_unlisted (h : modeOf (u8 c.block 1) = some m) (hb : s.mode.busy = false) (hl : modeListed s.mode.current m = false)
    (hd : s.mode.current = .dormant → m ≠ .boot) : specSetMode.body c s = (fail stState 0x0004, s) := by
  have hw : ¬ (s.mode.current = .dormant ∧ m = .boot) := fun x => hd x.1 x.2
  simp [specSetMode, h, hb, hl, hw]

theorem setMode_crowded (h : modeOf (u8 c.block 1) = some .encode) (hb : s.mode.busy = false)
    (hl : modeListed s.mode.current .encode = true) (hr : s.routedCount > 256) : specSetMode.body c s = (fail stCapacity 0x0015, s) := by
  simp [specSetMode, h, hb, hl, hr]

theorem setMode_accepts (h : modeOf (u8 c.block 1) = some m) (hb : s.mode.busy = false) (hd : s.mode.current ≠ .dormant)
    (hl : modeListed s.mode.current m = true) (hr : m = .encode → s.routedCount ≤ 256) :
    specSetMode.body c s = (okWith [], { s with mode := { s.mode with target := m, busy := true, transitionAt := s.nowNs } }) := by
  have hc : ¬ (m = .encode ∧ 256 < s.routedCount) := fun x => absurd (hr x.1) (Nat.not_le.mpr x.2)
  simp [specSetMode, h, hb, hd, hl, hc]

/-- Settles O29, by the equations of SET on Mode. -/
theorem modeRequestsRefused : Obligations.ModeRequestsRefused := fun _ _ =>
  ⟨setMode_unknown, fun _ h hb => setMode_busy h hb, fun _ h hb hl hd => setMode_unlisted h hb hl hd, setMode_crowded⟩

/-- Boot has been asked for, and nothing holds it: main power is asked for, and the transition to Boot runs. -/
theorem tryBoot_runs (hd : s.mode.current = .dormant) (ha : s.mode.asked = true) (hp : s.pins.aonResetN = true)
    (hm : s.pins.mainPwrEn = false) (hb : s.bootBlocked = false) :
    s.tryBoot =
      { s with pins := { s.pins with mainPwrEn := true, pwrTimer := some s.nowNs },
               mode := { s.mode with target := .boot, busy := true, bootAt := if s.pins.pwrOk then some (s.nowNs + 1000000) else none } } := by
  simp [State.tryBoot, hd, ha, hp, hm, hb]

/-- A state in which Boot has been asked for. -/
def State.asking (s : State) : State :=
  { s with mode := { s.mode with asked := true, bootNext := if s.mode.bootForced then s.mode.bootNext else 6 } }

theorem wake_asks (hs : s.pins.sysResetN = true) (hb : s.bootBlocked = false) : s.wake = (okWith [], s.asking.tryBoot) := by
  simp [State.wake, hs, hb, State.asking]

/-! ### SET on Domain (01 R60) -/

theorem domain_of_key (h : t.key = s.key) (d : Nat) : t.domain d = s.domain d := by
  have := (Leaves.of_key (pt := nothing) h).domains rfl
  unfold State.domain
  rw [this]

theorem domains_length_of_key (h : t.key = s.key) : t.domains.length = s.domains.length := by
  rw [(Leaves.of_key (pt := nothing) h).domains rfl]

/-- A domain at a new rate: what it keeps, and its first boundary. -/
def DomainSt.anew (rate raster n : Nat) (y : DomainSt) : DomainSt :=
  { DomainSt.reset with
    frame := y.frame, hiLatch := y.hiLatch, absorbed := y.absorbed, lastStep := y.lastStep, rate := rate, raster := raster
    nextFrame := if rate = 0 then 0 else n, nextNs := if rate = 0 then 0 else boundaryNs rate raster n }

/-- A domain that changes its rate starts anew; what follows from that leaves the domains alone. -/
theorem retime_anew {d rate raster : Nat} (h : rate ≠ (s.domain d).rate) : ∃ (u : State) (n : Nat), u.key = s.key ∧
    (s.retime d rate raster).key = (u.modDomain d (DomainSt.anew rate raster n)).key := by
  refine ⟨{ s.cancelDomain d with mode := { (s.cancelDomain d).mode with
    swapsDeferred := (s.cancelDomain d).mode.swapsDeferred.filter (· != d) } }, frameAt rate (s.nowNs + 1000000),
    (State.key_mode _ _ rfl rfl).trans (State.cancelDomain_key s d), ?_⟩
  unfold State.retime
  dsimp only
  rw [if_neg (by simp [h]), if_neg h]
  split
  · rw [State.each_key _ _ _ (fun t k => State.modSrc_key t k _), State.followDomain_key]
    rfl
  · rw [State.each_key _ _ _ (fun t k => State.loseSource_key t _), State.each_key _ _ _ (fun t k => State.modSrc_key t k _),
      State.followDomain_key]
    rfl

/-- A domain that is set has its new rate and raster, and its frame index stays. -/
theorem retime_domain {d rate raster : Nat} (hd : d < s.domains.length) :
    ((s.retime d rate raster).domain d).rate = rate ∧ ((s.retime d rate raster).domain d).raster = raster ∧
      ((s.retime d rate raster).domain d).frame = (s.domain d).frame := by
  by_cases h : rate = (s.domain d).rate
  · unfold State.retime
    dsimp only
    split
    · rename_i hr
      simp only [Bool.and_eq_true, decide_eq_true_eq] at hr
      exact ⟨h.symm, hr.2.symm, rfl⟩
    · rw [domain_of_key (State.followDomain_key _ _), State.domain_mod_self _ _ _ hd]
      exact ⟨h.symm, rfl, rfl⟩
  · obtain ⟨u, n, hu, hk⟩ := retime_anew (raster := raster) h
    rw [domain_of_key hk, State.domain_mod_self _ _ _ (by rwa [domains_length_of_key hu]), ← domain_of_key hu]
    exact ⟨rfl, rfl, rfl⟩

theorem setDomain_accepts {rate raster : Nat} (hr : u8 c.block 1 = rate) (hs : u8 c.block 2 = raster)
    (hf : if rate = 0 then raster = 0 else rate ≤ 13 ∧ rasterAllows raster rate = true) (hu : s.domainUsed c.r.index = false) :
    specSetDomain.body c s = (okWith [], s.retime c.r.index rate raster) := by
  subst hr hs
  have hf : (if u8 c.block 1 = 0 then u8 c.block 2 == 0 else u8 c.block 1 ≤ 13 && rasterAllows (u8 c.block 2) (u8 c.block 1)) = true := by
    split at hf <;> simp_all
  dsimp only [specSetDomain]
  rw [hf, hu]
  rfl

/-- A request that passes steps 1 to 7 of 02 R100 names an index that its command allows. -/
theorem admitted_index (h : admitted q c s = none) : q.index c.r.index = true := by
  unfold admitted at h
  split at h
  · rename_i ho
    rw [h] at ho
    exact absurd ho (by simp)
  · refine Decidable.byContradiction (fun hi => ?_)
    repeat' split at h
    all_goals simp_all

/-! ### The obligation -/

theorem setMode_waking (h : r.accepted specSetMode s) (hm : modeOf (u8 r.block 1) = some .boot) (hb : (s.taking r).mode.busy = false)
    (hd : (s.taking r).mode.current = .dormant) (hs : (s.taking r).pins.sysResetN = true) (hk : (s.taking r).bootBlocked = false) :
    serve specSetMode r s = (s.taking r).asking.tryBoot.reply 0x02 r (okWith []) :=
  serve_gives h rfl ((setMode_wake (by simpa using hm) hb hd).trans (wake_asks hs hk)) (Nat.zero_le _)

/-- Settles O28, by the equations of the three requests. -/
theorem modeAndDomainRequestsComplete : Obligations.ModeAndDomainRequestsComplete := by
  refine ⟨fun r s m h hm hb hd hl hr => ?mode, fun r s h hm hb hd hs hk hp he => ?wake, fun r s h hn hu hf => ?domain, fun r s h => ?device⟩
  case mode => exact congrArg _ (serve_gives h rfl (setMode_accepts (by simpa using hm) hb hd hl hr) (Nat.zero_le _))
  case wake =>
    have e : (s.taking r).asking.tryBoot = _ := tryBoot_runs (s := (s.taking r).asking) hd rfl hp he hk
    refine ⟨_, congrArg _ (setMode_waking h hm hb hd hs hk), ?_⟩
    rw [e]
    exact ⟨rfl, rfl, hd, rfl, rfl⟩
  case domain =>
    have hi : within r.index 1 8 = true := by
      have := admitted_index h.2.1
      rwa [Request.callIn_r] at this
    have hd : r.index < (s.taking r).domains.length := by
      simp only [within, Bool.and_eq_true, decide_eq_true_eq] at hi
      omega
    exact ⟨_, congrArg _ (serve_gives h rfl (setDomain_accepts (by simp) (by simp) hf (by simpa using hu)) (Nat.zero_le _)),
      by simpa using retime_domain hd⟩
  case device => exact congrArg _ (serve_gives h rfl rfl (Nat.zero_le _))

end Sys2Proof.Machine
end

section
/-! PROOFS. The staged verbs: what passes validation is scheduled, each part at a boundary of a domain that runs, and the landing list is
answered. -/
namespace Sys2Proof.Machine

variable {q : ReqSpec} {r : Request} {c : Call} {s t : State} {a : Answer} {noun off : Nat} {items : List (Nat × Setting)}
  {report : Judged → Answer → Answer}

/-! ### A set without a failure (02 R100) -/

theorem insertBy_ne_nil {α : Type} (key : α → Nat) (x : α) (l : List α) : insertBy key x l ≠ [] := by
  cases l with
  | nil => exact List.cons_ne_nil _ _
  | cons y l =>
    unfold insertBy
    split <;> exact List.cons_ne_nil _ _

theorem foldl_insertBy_ne_nil {α : Type} (key : α → Nat) (l acc : List α) (h : acc ≠ []) :
    l.foldl (fun acc x => insertBy key x acc) acc ≠ [] := by
  induction l generalizing acc with
  | nil => exact h
  | cons x l ih => exact ih _ (insertBy_ne_nil key x acc)

theorem eq_nil_of_orderBy {α : Type} {key : α → Nat} {l : List α} (h : orderBy key l = []) : l = [] := by
  cases l with
  | nil => rfl
  | cons x l => exact absurd h (foldl_insertBy_ne_nil key l _ (insertBy_ne_nil key x []))

/-- A set has no failure only if validation finds none. -/
theorem eq_nil_of_firstFailure {l : List Answer} (h : firstFailure l = none) : l = [] := eq_nil_of_orderBy (List.head?_eq_none_iff.mp h)

theorem mem_of_mem_keepLater {l : List (Nat × Setting)} {e : Nat × Setting} (h : e ∈ keepLater l) : e ∈ l := by
  have go (l acc : List (Nat × Setting)) (h : e ∈ l.foldl (fun acc e => acc.filter (fun a => settingKey a.2 != settingKey e.2) ++ [e]) acc) :
      e ∈ acc ∨ e ∈ l := by
    induction l generalizing acc with
    | nil => exact .inl h
    | cons x l ih =>
      rcases ih _ h with k | k
      · rcases List.mem_append.mp k with k | k
        · exact .inl (List.mem_filter.mp k).1
        · exact .inr (List.mem_cons.mpr (.inl (List.mem_singleton.mp k)))
      · exact .inr (List.mem_cons_of_mem _ k)
  exact (go l [] h).resolve_left (List.not_mem_nil)

theorem mem_of_mem_place {l : List (Nat × Setting)} {e : Staged} (h : e ∈ s.place l) : (e.item, e.x) ∈ l := by
  obtain ⟨x, hx, rfl⟩ := List.mem_map.mp h
  exact hx

/-- Every setting of a set without a failure is in a domain that runs, and an empty set has a header domain that runs. -/
theorem judge_on {owner arrival target h : Nat} (hf : (s.judge owner arrival target h off [] items).failure = none) :
    (∀ e ∈ s.place (keepLater items), s.domainOn e.domain = true) ∧ ((s.place (keepLater items)).isEmpty = true → s.domainOn h = true) := by
  unfold State.judge at hf
  dsimp only at hf
  rw [List.nil_append] at hf
  have hl := eq_nil_of_firstFailure hf
  simp only [List.append_eq_nil_iff] at hl
  obtain ⟨⟨⟨⟨-, asleep⟩, -⟩, -⟩, target⟩ := hl
  refine ⟨fun e he => ?_, fun he => ?_⟩
  · obtain ⟨i, hi⟩ := List.mem_iff_getElem?.mp he
    have hz : (e, i) ∈ (s.place (keepLater items)).zipIdx := List.mk_mem_zipIdx_iff_getElem?.mpr hi
    have hn : items.any (fun n => settingKey n.2 == settingKey e.x) = true :=
      List.any_eq_true.mpr ⟨_, mem_of_mem_keepLater (mem_of_mem_place he), by simp⟩
    have := (List.filter_eq_nil_iff.mp (List.map_eq_nil_iff.mp asleep)) (e, i) (List.mem_filter.mpr ⟨hz, hn⟩)
    simpa using this
  · simp only [State.targetFail, List.append_eq_nil_iff] at target
    obtain ⟨⟨off, -⟩, -⟩ := target
    simpa [he] using off

/-! ### Landings -/

theorem landing_status_lt {d f status : Nat} (h : status < 0x100) : (s.landing d f status).status < 0x100 := by
  have hd : stDeferred < 0x100 := by decide
  have hs : stScheduled < 0x100 := by decide
  unfold State.landing
  dsimp only
  generalize max f _ = g
  split
  · exact hd
  · split
    · exact h
    · exact hs

/-- A part in a domain that runs is scheduled. -/
theorem aim_status_lt {arrival target h d : Nat} (hd : s.domainOn d = true) : (s.aim arrival target h d).status < 0x100 := by
  have ok : stOk < 0x100 := by decide
  have scheduled : stScheduled < 0x100 := by decide
  unfold State.aim
  rw [if_neg (by simp [hd])]
  split
  · unfold State.aimNext
    dsimp only
    split
    · exact landing_status_lt scheduled
    · split
      · exact landing_status_lt scheduled
      · exact landing_status_lt ok
  · unfold State.aimNamed
    split <;> exact landing_status_lt ok

theorem foldl_max_lt {l : List Nat} {n m : Nat} (hm : m < n) (h : ∀ x ∈ l, x < n) : l.foldl max m < n := by
  induction l generalizing m with
  | nil => exact hm
  | cons x l ih => exact ih (Nat.max_lt.mpr ⟨hm, h x (by simp)⟩) (fun y hy => h y (by simp [hy]))

/-- Every part of a set without a failure is scheduled. -/
theorem judge_landings {owner arrival target h : Nat} (hf : (s.judge owner arrival target h off [] items).failure = none) :
    ∀ x ∈ (s.judge owner arrival target h off [] items).landings, x.status < 0x100 := by
  obtain ⟨hon, hh⟩ := judge_on hf
  intro x hx
  unfold State.judge at hx
  dsimp only at hx
  rw [List.nil_append] at hx
  split at hx
  · rename_i he
    rw [List.mem_singleton.mp hx]
    exact aim_status_lt (hh he)
  · obtain ⟨d, hd, rfl⟩ := List.mem_map.mp hx
    obtain ⟨e, he, hed⟩ := List.any_eq_true.mp (List.mem_filter.mp hd).2
    rw [← (beq_iff_eq.mp hed : e.domain = d)]
    exact aim_status_lt (hon e he)

/-- The open set of a tag, once it validates, is answered as scheduled. -/
theorem commitAnswer_status (hf : (s.judgeSet c 0x01 off items).failure = none) : (s.setAnswer c 0x01 off items).status < 0x100 := by
  have e : s.judgeSet c 0x01 off items = s.judge c.owner c.arrival c.r.target (headerDomain c.r (s.place (keepLater items)))
      (if items.isEmpty then 0x0009 else off) [] items := by
    unfold State.judgeSet State.fits
    rw [if_neg (by simp)]
  rw [e] at hf
  unfold State.setAnswer
  rw [e]
  refine foldl_max_lt (by decide) (fun n hn => ?_)
  obtain ⟨x, hx, rfl⟩ := List.mem_map.mp hn
  exact judge_landings hf x hx

/-- A set some of whose settings are degraded is answered as accepted. -/
theorem degradedAnswer_goes {j : Judged} (h : a.status < 0x100) :
    ((degradedAnswer j a).status < 0x100 || (degradedAnswer j a).accepted) = true := by
  unfold degradedAnswer
  split
  · split
    · simp
    · simp [h]
  · simp [h]

/-! ### The answer (02 R90) -/

theorem landingList_ne_nil (l : List (Landing × Nat)) : landingList l ≠ [] := by
  intro h
  exact absurd (List.append_eq_nil_iff.mp h).1 (by simp [layout, le])

theorem setAnswer_payload : (s.setAnswer c noun off items).payload ≠ [] := landingList_ne_nil _

theorem degradedAnswer_payload (j : Judged) : (degradedAnswer j a).payload = a.payload := by
  unfold degradedAnswer
  split
  · split <;> rfl
  · rfl

/-- An accepted staged request answers with its landing list. -/
theorem serve_lists (h : r.accepted q s) (hb : q.body (r.callIn s) (s.taking r) = (a, t)) (hp : a.payload ≠ [])
    (k : a.payload.length ≤ replyRoom r) : serve q r s = t.reply q.verb r a := by
  have e : listed q r (q.body (r.callIn s) (s.taking r)).1 = a := by
    have : a.payload.isEmpty = false := by simpa using hp
    simp [listed, hb, this]
  rw [serve_accepted h (by rw [e]; exact k), e, hb]

/-- A set without a failure is scheduled, and reported on. -/
theorem commitSet_validates (hf : (s.judgeSet c noun off items).failure = none) :
    s.commitSet c noun off items report =
      (report (s.judgeSet c noun off items) (s.setAnswer c noun off items), s.schedule c noun off items) := by
  unfold State.commitSet
  rw [hf]

/-- An accepted request that stages and commits in one is scheduled, and answered with its landing list. -/
theorem serve_commits (h : r.accepted q s)
    (hb : q.body (r.callIn s) (s.taking r) = (s.taking r).commitSet (r.callIn s) noun off items report)
    (hf : ((s.taking r).judgeSet (r.callIn s) noun off items).failure = none)
    (ha : a = report ((s.taking r).judgeSet (r.callIn s) noun off items) ((s.taking r).setAnswer (r.callIn s) noun off items))
    (hp : a.payload ≠ []) (k : a.payload.length ≤ replyRoom r) :
    (.next (serve q r s) : Res) = .next (((s.taking r).schedule (r.callIn s) noun off items).reply q.verb r a) :=
  congrArg _ (serve_lists h (hb.trans ((commitSet_validates hf).trans (by rw [ha]))) hp k)

theorem take_body (h : (decRouteEntry c.block).dst = c.r.index) :
    specTake.body c s = s.commitSet c 0x11 0x0018 [(0, routeSetting c.block)] (takeReport c.r.index) := if_neg (by simp [h])

theorem salvo_body (h : u16 c.block 0 ≤ 1152) : specSalvo.body c s =
    s.commitSet c 0x12 0x0018 ((salvoEntries c.block).filter (fun e => !(s.skipped c).contains e)) (salvoSummary (s.skipped c)) :=
  if_neg (Nat.not_lt.mpr h)

theorem lock_body {verb limit : Nat} {x : Nat → Nat → Setting} (h : verb = 0x08 → c.owner ≠ 0) : (lockSpec verb noun off limit x).body c s =
    s.commitSet c noun off [(0, x c.r.index c.owner)] (fun _ a => a) := if_neg (by simpa using h)

/-- COMMIT empties the open set that it schedules. -/
theorem commit_body (hf : (s.judgeSet c 0x01 0x0009 (s.openSet c.owner)).failure = none) : specCommit.body c s =
    (degradedAnswer (s.judgeSet c 0x01 0x0009 (s.openSet c.owner)) (s.setAnswer c 0x01 0x0009 (s.openSet c.owner)),
      { s.schedule c 0x01 0x0009 (s.openSet c.owner) with openSets := tdrop (s.schedule c 0x01 0x0009 (s.openSet c.owner)).openSets c.owner }) := by
  dsimp only [specCommit]
  rw [commitSet_validates hf]
  dsimp only
  rw [if_pos (degradedAnswer_goes (commitAnswer_status hf))]

/-- Settles O25, by the equation of each request's body. -/
theorem stagedVerbsComplete : Obligations.StagedVerbsComplete := by
  refine ⟨fun r s h hf a ha k => ?commit, fun r s h hd hf a ha k => ?take, fun r s h hn es hes hf a ha k => ?salvo,
    fun r s h hf a ha k => ?takeAudio, fun r s h ho hf a ha k => ?lock, fun r s h hf a ha k => ?unlock,
    fun r s h ho hf a ha k => ?lockAudio, fun r s h hf a ha k => ?unlockAudio⟩
  case commit =>
    subst ha
    refine ⟨_, congrArg _ (serve_lists h (commit_body hf) (by rw [degradedAnswer_payload]; exact setAnswer_payload) k), ?_, rfl⟩
    show List.map _ (tget (fun _ => []) (tdrop _ (carrierOwner r)) (carrierOwner r)).zipIdx = []
    rw [tget_tdrop_self]
    rfl
  case take => exact serve_commits h (take_body hd) hf ha (by rw [ha]; simp [takeReport, setAnswer_payload]) k
  case salvo =>
    subst hes
    exact serve_commits h (salvo_body hn) hf ha (by rw [ha]; simp [salvoSummary, setAnswer_payload]) k
  case takeAudio => exact serve_commits (report := fun _ a => a) h rfl hf ha (by rw [ha]; exact setAnswer_payload) k
  case lock => exact serve_commits h (lock_body (fun _ => ho)) hf ha (by rw [ha]; exact setAnswer_payload) k
  case unlock => exact serve_commits h (lock_body (fun x => absurd x (by decide))) hf ha (by rw [ha]; exact setAnswer_payload) k
  case lockAudio => exact serve_commits h (lock_body (fun _ => ho)) hf ha (by rw [ha]; exact setAnswer_payload) k
  case unlockAudio => exact serve_commits h (lock_body (fun x => absurd x (by decide))) hf ha (by rw [ha]; exact setAnswer_payload) k

end Sys2Proof.Machine
end

section
/-! PROOFS. Boundaries, swap decisions and hard faults. -/
namespace Sys2Proof.Machine

variable {s t u : State} {d : Nat}

/-! ### One part of the state under what leaves the others alone -/

/-- Every part but one. -/
def allBut (x f : Field) : Bool := f != x

theorem parts_of_except (h : t.except (allBut .parts) = s.except (allBut .parts)) : t.parts = s.parts := by
  simpa [State.except, allBut] using congrArg State.parts h

/-! ### The swap decision (01 R33, R34; 03 R160, R163) -/

theorem decideSwap_shadow (h : (s.domain d).shadowBad = false) : s.decideSwap d =
    (s.modDomain d (fun x => { x with decided := true, armed := !x.shadowBad, snap := some (s.membersOf d) })).writeShadow d := by
  unfold State.decideSwap
  dsimp only
  rw [if_neg (by simp [h])]

theorem decideSwap_defers (h : (s.domain d).shadowBad = true) : s.decideSwap d =
    (s.modDomain d (fun x => { x with decided := true, armed := !x.shadowBad, snap := some (s.membersOf d) })).deferSwap d := by
  unfold State.decideSwap
  dsimp only
  rw [if_pos h]

/-- A decision marks its domain decided, and armed unless its shadow bank cannot be used; it leaves the other domains alone. -/
theorem decideSwap_key (s : State) (d : Nat) : (s.decideSwap d).key =
    (s.modDomain d (fun x => { x with decided := true, armed := !x.shadowBad, snap := some (s.membersOf d) })).key := by
  unfold State.decideSwap
  dsimp only
  split
  · exact State.deferSwap_key _ _
  · exact State.writeShadow_key _ _

theorem decideSwap_domain_self (hd : d < s.domains.length) : (s.decideSwap d).domain d =
    { s.domain d with decided := true, armed := !(s.domain d).shadowBad, snap := some (s.membersOf d) } := by
  rw [domain_of_key (decideSwap_key s d), State.domain_mod_self _ _ _ hd]

theorem decideSwap_domain_other {e : Nat} (he : e ≠ d) : (s.decideSwap d).domain e = s.domain e := by
  rw [domain_of_key (decideSwap_key s d), State.domain_mod_other _ _ _ _ he]

theorem writeShadow_parts (s : State) (d : Nat) : (s.writeShadow d).parts = s.parts :=
  parts_of_except (State.writeShadow_except _ rfl s d)

theorem countDeferral_parts (s : State) (d : Nat) : (s.countDeferral d).parts = s.parts :=
  parts_of_except (State.countDeferral_except _ rfl s d)

theorem markDeferred_parts (s : State) (x : Setting) : (s.markDeferred x).parts = s.parts :=
  parts_of_except (State.markDeferred_except _ rfl rfl s x)

theorem each_parts {α : Type} (s : State) (l : List α) (f : State → α → State) (h : ∀ t x, (f t x).parts = t.parts) :
    (s.each l f).parts = s.parts := by
  induction l generalizing s with
  | nil => rfl
  | cons x l ih => exact (ih (f s x)).trans (h s x)

/-- No part is due only if none is in its domain up to the frame. -/
theorem duePart_isEmpty {f : Nat} (h : (s.duePart d f).isEmpty = true) : ∀ p ∈ s.parts, ¬ (p.domain = d ∧ p.frame ≤ f) := by
  have := List.filter_eq_nil_iff.mp (eq_nil_of_orderBy (List.isEmpty_iff.mp h))
  simpa using this

/-- A deferral moves every part due at the boundary to the frame after it. -/
theorem deferSwap_parts (s : State) (d : Nat) : (s.deferSwap d).parts = s.parts.map (fun (p : Part) =>
    if p.domain = d ∧ p.frame ≤ (s.domain d).nextFrame then { p with frame := (s.domain d).nextFrame + 1, status := stDeferred } else p) := by
  unfold State.deferSwap
  dsimp only
  split
  · rename_i h
    have hp := duePart_isEmpty h
    exact ((List.map_congr_left (fun p hp' => if_neg (hp p hp'))).trans (List.map_id s.parts)).symm
  · rw [each_parts _ _ _ (fun t p => State.event_parts t _), each_parts _ _ _ markDeferred_parts, countDeferral_parts]
    simp

/-! ### Boundaries (01 R25, R28) -/

/-- A boundary in its turn: the decision, if it has not been taken, then the passage of the domain; what lands leaves the domains alone. -/
theorem boundary_passes (s : State) (d : Nat) : ∃ u : State,
    (u = s.advanceTo (s.domain d).nextNs ∨ u = (s.advanceTo (s.domain d).nextNs).decideSwap d) ∧
    (s.boundary d).key = (u.modDomain d (fun y => y.pass d)).key := by
  refine ⟨if (s.domain d).decided then s.advanceTo (s.domain d).nextNs else (s.advanceTo (s.domain d).nextNs).decideSwap d, ?_, ?_⟩
  · split
    · exact .inl rfl
    · exact .inr rfl
  · unfold State.boundary
    dsimp only
    generalize (if (s.domain d).decided then s.advanceTo (s.domain d).nextNs else (s.advanceTo (s.domain d).nextNs).decideSwap d) = v
    rw [State.each_key _ _ _ (fun t h => by split <;> simp), State.landAll_key]
    rfl

theorem boundary_domain_other {e : Nat} (he : e ≠ d) : (s.boundary d).domain e = s.domain e := by
  obtain ⟨u, hu, hk⟩ := boundary_passes s d
  rw [domain_of_key hk, State.domain_mod_other _ _ _ _ he]
  rcases hu with rfl | rfl
  · exact State.advanceTo_domain ..
  · rw [decideSwap_domain_other he, State.advanceTo_domain]

/-- The domain of a boundary passes to its next frame, armed or not. -/
theorem boundary_domain_self (hd : d < s.domains.length) : ∃ x : DomainSt, (s.boundary d).domain d = x.pass d ∧
    x.nextFrame = (s.domain d).nextFrame ∧ x.nextNs = (s.domain d).nextNs := by
  obtain ⟨u, hu, hk⟩ := boundary_passes s d
  have hl : d < (s.advanceTo (s.domain d).nextNs).domains.length := by rwa [State.advanceTo_domains]
  rcases hu with rfl | rfl
  · refine ⟨_, by rw [domain_of_key hk, State.domain_mod_self _ _ _ hl], ?_⟩
    rw [State.advanceTo_domain]
    exact ⟨rfl, rfl⟩
  · have hl' : d < ((s.advanceTo (s.domain d).nextNs).decideSwap d).domains.length := by
      rw [domains_length_of_key (decideSwap_key _ d)]
      simpa [State.modDomain] using hl
    refine ⟨_, by rw [domain_of_key hk, State.domain_mod_self _ _ _ hl'], ?_⟩
    rw [decideSwap_domain_self hl, State.advanceTo_domain]
    exact ⟨rfl, rfl⟩

theorem pass_frame (x : DomainSt) (d : Nat) : (x.pass d).frame = BitVec.ofNat 64 x.nextFrame := by
  unfold DomainSt.pass
  dsimp only
  repeat' split
  all_goals rfl

theorem pass_lastNs (x : DomainSt) (d : Nat) : (x.pass d).lastNs = x.nextNs := by
  unfold DomainSt.pass
  dsimp only
  repeat' split
  all_goals rfl

theorem pass_decided (x : DomainSt) (d : Nat) : (x.pass d).decided = false := by
  unfold DomainSt.pass
  dsimp only
  repeat' split
  all_goals rfl

/-- The heartbeat and the domains stay while the thermal steps of a domain 0 boundary run. -/
theorem thermalBoundary_rare (s : State) : s.thermalBoundary.key.rare = s.key.rare := by
  unfold State.thermalBoundary
  dsimp only
  have h : (s.each s.thermal.decStop (fun t x => t.landCtx x { (t.ctx x).cfg with enable := 0 })).key = s.key := by simp
  generalize s.each s.thermal.decStop _ = u at h ⊢
  have hk : (State.key { u with thermal := { u.thermal with decStop := [] } }).rare = s.key.rare := by rw [State.key_setThermal, h]
  split
  · rw [State.arrive_key]
    exact hk
  · exact hk

/-- What follows the boundary of domain 0 leaves the heartbeat and the domains as they are. -/
theorem housekeeping_rare (h : s.pins.aonResetN = true) : ∃ u : State, s.housekeeping.key.rare = u.key.rare ∧
    u.domains = (s.boundary 0).domains ∧ u.mode.heartbeat = (s.boundary 0).mode.heartbeat + 1 := by
  refine ⟨{ s.boundary 0 with mode := { (s.boundary 0).mode with heartbeat := (s.boundary 0).mode.heartbeat + 1 } }, ?_, rfl, rfl⟩
  unfold State.housekeeping
  rw [if_neg (by simp [h])]
  dsimp only
  rw [thermalBoundary_rare, State.starvedEnd_key, State.handback_key, State.reraise_key]

theorem boundary_heartbeat (s : State) (d : Nat) : (s.boundary d).mode.heartbeat = s.mode.heartbeat :=
  congrArg (fun k => k.2.2.2.2) (State.boundary_calm s d)

theorem heartbeat_of_rare (h : t.key.rare = u.key.rare) : t.mode.heartbeat = u.mode.heartbeat :=
  congrArg (fun k => k.2.2.2.2.2.1) h

theorem domain_of_rare (h : t.key.rare = u.key.rare) (e : Nat) : t.domain e = u.domain e := by
  have : t.domains = u.domains := congrArg (fun k => k.2.2.2.2.2.2) h
  unfold State.domain
  rw [this]

/-! ### Hard faults (01 R19, R729; 15 R650) -/

theorem inventoryChanged_mode (s : State) : s.inventoryChanged.mode = s.mode := by
  unfold State.inventoryChanged
  dsimp only
  rw [State.interrupt_mode, State.event_mode]

theorem inventoryChanged_stands (s : State) (i n : Nat) : s.inventoryChanged.stands i n = s.stands i n := by
  unfold State.inventoryChanged
  dsimp only
  rw [State.interrupt_stands, State.event_stands]
  rfl

theorem inventoryChanged_repair (s : State) : s.inventoryChanged.repair = { s.repair with generation := s.repair.generation + 1 } := by
  unfold State.inventoryChanged
  dsimp only
  rw [State.interrupt_repair, State.event_repair]

/-- The repair record once a unit is fenced for a failing element. -/
def Repair.fencing (r : Repair) (k : UnitKind) (n : Nat) (e : Element) : Repair :=
  { r with
    fenced := r.fenced ++ [(k, n)]
    pending := r.pending ++ [{ holder := some (k, n), elem := e, reach := unitReach k n, row := 0 }] }

/-- The sticky bit of a fenced unit is set, and the inventory has changed. -/
def State.fenceNoted (s : State) : State := State.inventoryChanged { s with mode := { s.mode with sticky := s.mode.sticky ||| 16 } }

/-- A hard fault of a usable unit in service: the steps of its fencing. -/
theorem fence_usable {k : UnitKind} {n : Nat} {e : Element} (hs : s.inService = true) (hu : s.usable k n = true) :
    s.fence k n e = ((State.fenceWork { s with repair := s.repair.fencing k n e } k n).raise almRepairPending (unitReach k n)).fenceNoted := by
  simp only [State.usable, Bool.and_eq_true, Bool.not_eq_true'] at hu
  obtain ⟨hp, hf⟩ := hu
  unfold State.fence
  dsimp only
  rw [if_neg (by simp [hs, hp]), if_neg (by simp [hf])]
  rfl

theorem fenceNoted_repair (s : State) : s.fenceNoted.repair = { s.repair with generation := s.repair.generation + 1 } :=
  inventoryChanged_repair _

theorem fenceNoted_sticky (s : State) : s.fenceNoted.mode.sticky.getLsbD 4 = true := by
  unfold State.fenceNoted
  rw [inventoryChanged_mode]
  simp

theorem fenceNoted_stands (s : State) (i n : Nat) : s.fenceNoted.stands i n = s.stands i n := inventoryChanged_stands _ i n

/-- What the fencing of a usable unit leaves of the repair record. -/
theorem fence_repair {k : UnitKind} {n : Nat} {e : Element} (hs : s.inService = true) (hu : s.usable k n = true) :
    (s.fence k n e).repair = { s.repair.fencing k n e with generation := s.repair.generation + 1 } := by
  have h := (fenceWork_leaves { s with repair := s.repair.fencing k n e } k n).repair rfl
  rw [fence_usable hs hu, fenceNoted_repair, State.raise_repair, h]
  rfl

/-! ### The obligation -/

theorem swapDecision_decides (ho : s.domainOn d = true) (hr : s.mode.current.rings = true) (hd : (s.domain d).decided = false) :
    s.swapDecision d = (s.advanceTo ((s.domain d).nextNs - 100000)).decideSwap d := if_pos (by simp [ho, hr, hd])

/-- A decision at an instant. -/
theorem decideSwap_advanced {n : Nat} (hl : d < s.domains.length) : ((s.advanceTo n).decideSwap d).domain d =
    { s.domain d with decided := true, armed := !(s.domain d).shadowBad, snap := some ((s.advanceTo n).membersOf d) } := by
  rw [decideSwap_domain_self (by simpa using hl), State.advanceTo_domain]

theorem decideSwap_parts_armed {n : Nat} (hb : (s.domain d).shadowBad = false) : ((s.advanceTo n).decideSwap d).parts = s.parts := by
  rw [decideSwap_shadow (by simpa using hb), writeShadow_parts, State.modDomain_parts, State.advanceTo_parts]

theorem decideSwap_parts_deferred {n : Nat} (hl : d < s.domains.length) (hb : (s.domain d).shadowBad = true) :
    ((s.advanceTo n).decideSwap d).parts = s.parts.map (fun (p : Part) => if p.domain = d ∧ p.frame ≤ (s.domain d).nextFrame then
      { p with frame := (s.domain d).nextFrame + 1, status := stDeferred } else p) := by
  rw [decideSwap_defers (by simpa using hb), deferSwap_parts, State.domain_mod_self _ _ _ (by simpa using hl), State.modDomain_parts,
    State.advanceTo_parts, State.advanceTo_domain]

/-- What the boundary of domain 0 makes of the domains and the heartbeat. -/
theorem housekeeping_passes (hp : s.pins.aonResetN = true) : s.housekeeping.mode.heartbeat = s.mode.heartbeat + 1 ∧
    ∀ e, s.housekeeping.domain e = (s.boundary 0).domain e := by
  obtain ⟨u, hk, hu, hh⟩ := housekeeping_rare hp
  refine ⟨by rw [heartbeat_of_rare hk, hh, boundary_heartbeat], fun e => ?_⟩
  rw [domain_of_rare hk]
  unfold State.domain
  rw [hu]

/-- Settles O31, clause by clause. -/
theorem boundaryAndFaultCommandsComplete : Obligations.BoundaryAndFaultCommandsComplete := by
  refine ⟨fun d s ho hr hd hl hb => ?armed, fun d s ho hr hd hl hb => ?deferred, fun s hp hl => ?heartbeat, fun d s h1 h8 hl ho hr => ?video,
    fun d s ho hr hd => ?unfit, fun d s ho hr hd => ?rebuilt, fun d s h => ?line, fun n k i s hc hb => ?gate, fun k n e s hs hu => ?fault⟩
  case armed =>
    refine ⟨_, congrArg Host.Outcome.next (swapDecision_decides ho hr hd), ?_⟩
    rw [decideSwap_advanced hl, decideSwap_parts_armed hb, hb]
    exact ⟨rfl, rfl, rfl, rfl⟩
  case deferred =>
    refine ⟨_, congrArg Host.Outcome.next (swapDecision_decides ho hr hd), ?_⟩
    rw [decideSwap_advanced hl, decideSwap_parts_deferred hl hb, hb]
    exact ⟨rfl, rfl, rfl⟩
  case heartbeat =>
    obtain ⟨hh, hd⟩ := housekeeping_passes hp
    obtain ⟨x, hx, hn, -⟩ := boundary_domain_self hl
    refine ⟨_, rfl, ?_⟩
    rw [hh, hd, hx, pass_frame, ← hn]
    exact ⟨rfl, rfl, rfl, rfl, fun e he => (hd e).trans (boundary_domain_other he)⟩
  case video =>
    have e : s.videoBoundary d = s.boundary d := if_pos (by simp [within, h1, h8, ho, hr])
    obtain ⟨x, hx, hn, hns⟩ := boundary_domain_self hl
    refine ⟨_, congrArg Host.Outcome.next e, ?_⟩
    rw [hx, pass_frame, pass_lastNs, pass_decided, hn, hns]
    exact ⟨rfl, rfl, rfl, fun e he => boundary_domain_other he⟩
  case unfit => exact congrArg _ (if_pos (by simp [ho, hr, hd]))
  case rebuilt => exact congrArg _ (if_pos (by simp [ho, hr, hd]))
  case line => exact congrArg _ (if_pos h)
  case gate => exact congrArg _ (if_pos (by simp [hc, hb]))
  case fault =>
    have hrep := fence_repair (e := e) hs hu
    have hf : (s.fence k n e).isFenced k n = true := by simp [State.isFenced, hrep, Repair.fencing]
    refine ⟨_, rfl, ?_⟩
    rw [State.usable, hf, hrep, fence_usable hs hu]
    exact ⟨rfl, rfl, fenceNoted_sticky _, (fenceNoted_stands _ _ _).trans (State.raise_stands_self _ _ _), rfl, rfl, Bool.and_false _⟩

end Sys2Proof.Machine
end

section
/-! PROOFS. Resets, power and pins, and the commands that enter a mode. -/
namespace Sys2Proof.Machine

variable {s t u : State}

/-! ### What an entry to a mode leaves of the pins and the mode -/

theorem pins_of_except (h : t.except (allBut .pins) = s.except (allBut .pins)) : t.pins = s.pins := by
  simpa [State.except, allBut] using congrArg State.pins h

theorem mode_of_except (h : t.except (allBut .mode) = s.except (allBut .mode)) : t.mode = s.mode := by
  simpa [State.except, allBut] using congrArg State.mode h

theorem image_of_except (h : t.except (allBut .image) = s.except (allBut .image)) : t.image = s.image := by
  simpa [State.except, allBut] using congrArg State.image h

theorem hgSleep_except (pt : Field → Bool) (hhg : pt .hg = true) (ha : pt .alarms = true) (s : State) : s.hgSleep.except pt = s.except pt := by
  simp [State.hgSleep, ↓State.except_ite, hhg, ha]

theorem arrive_pins (s : State) (m : Mode) : (s.arrive m).pins = s.pins := by
  unfold State.arrive
  dsimp only
  rw [State.interrupt_pins, State.event_pins]

theorem arrive_image (s : State) (m : Mode) : (s.arrive m).image = s.image := by
  unfold State.arrive
  dsimp only
  rw [State.interrupt_image, State.event_image]

/-- What is written of the mode when a mode is reached. -/
theorem arrive_mode (s : State) (m : Mode) : (s.arrive m).mode =
    { s.mode with
      current := m, base := if m = .throttled then s.runMode else m, target := m, busy := false, changedS := s.nowS
      sticky := s.mode.sticky ||| (if m = Mode.throttled then 3 else 1) } := by
  unfold State.arrive
  dsimp only
  rw [State.interrupt_mode, State.event_mode]

theorem arrive_fallowMark (s : State) (m : Mode) : (s.arrive m).mode.fallowMark = s.mode.fallowMark := by
  rw [arrive_mode]

/-- The pins in Dormant: main power is off, and the others stay. -/
theorem enterDormant_pins (s : State) : s.enterDormant.pins = { s.pins with mainPwrEn := false, pwrTimer := none } := by
  have h : (s.hgSleep.arrive .dormant).wiped.pins = s.pins := (arrive_pins _ _).trans (pins_of_except (hgSleep_except _ rfl rfl s))
  unfold State.enterDormant
  generalize (s.hgSleep.arrive .dormant).wiped = v at h ⊢
  rw [← h]
  rfl

/-- The pins in Fallow: main power and the power of the frame store are off, and the others stay. -/
theorem enterFallow_pins (s : State) : s.enterFallow.pins = { s.pins with mainPwrEn := false, dramPwrEn := false, pwrTimer := none } := by
  have h : (s.hgSleep.arrive .fallow).wiped.pins = s.pins := (arrive_pins _ _).trans (pins_of_except (hgSleep_except _ rfl rfl s))
  unfold State.enterFallow
  generalize (s.hgSleep.arrive .fallow).wiped = v at h ⊢
  rw [← h]
  rfl

/-- Fallow keeps the Fallow mark. -/
theorem enterFallow_mark (s : State) : s.enterFallow.mode.fallowMark = s.mode.fallowMark := by
  have h : (s.hgSleep.arrive .fallow).wiped.mode.fallowMark = s.mode.fallowMark :=
    (arrive_fallowMark _ _).trans (congrArg ModeSt.fallowMark (mode_of_except (hgSleep_except _ rfl rfl s)))
  unfold State.enterFallow
  generalize (s.hgSleep.arrive .fallow).wiped = v at h ⊢
  rw [← h]
  rfl

/-- Fallow keeps of the image what does not rest on power. -/
theorem enterFallow_image (s : State) : s.enterFallow.image = s.image.rested := by
  have h : (s.hgSleep.arrive .fallow).wiped.image = s.image.rested :=
    congrArg ImageSt.rested ((arrive_image _ _).trans (image_of_except (hgSleep_except _ rfl rfl s)))
  unfold State.enterFallow
  generalize (s.hgSleep.arrive .fallow).wiped = v at h ⊢
  rw [← h]
  rfl

theorem enterDormant_current (s : State) : s.enterDormant.mode.current = .dormant := ModeSt.current_of_regs (enterDormant_regs s)

theorem enterFallow_current (s : State) : s.enterFallow.mode.current = .fallow := ModeSt.current_of_regs (enterFallow_regs s)

theorem enterBoot_current (s : State) (cause : Nat) : (s.enterBoot cause).mode.current = .boot := ModeSt.current_of_regs (enterBoot_regs s cause)

/-- Boot records its cause. -/
theorem enterBoot_cause (s : State) (cause : Nat) : (s.enterBoot cause).mode.bootCause = cause := by
  unfold State.enterBoot
  generalize (s.hgSleep.arrive .boot).wiped = v
  rfl

theorem forceDormant_pins (s : State) (cause : Nat) (forced : Bool) :
    (s.forceDormant cause forced).pins = { s.pins with mainPwrEn := false, pwrTimer := none } := enterDormant_pins _

theorem forceDormant_current (s : State) (cause : Nat) (forced : Bool) : (s.forceDormant cause forced).mode.current = .dormant :=
  enterDormant_current _

/-! ### Resets and power (01 R50, R54, R56; 17 R700 to R704) -/

theorem bootBlocked_of_unblocked (h : s.mode.blocked = false) : s.bootBlocked = false := by simp [State.bootBlocked, h]

/-- SYS_RESET_N low in a mode with the fast domains on. -/
theorem sysAssert_fast (h : s.mode.current.fast = true) :
    s.sysAssert = State.forceDormant { s with pins := { s.pins with sysResetN := false }, remap := false } 1 false := by
  unfold State.sysAssert
  dsimp only
  split
  · rename_i e; simp [e, Mode.fast] at h
  · rename_i e; simp [e, Mode.fast] at h
  · rfl

/-- SYS_RESET_N high in Dormant: BOOT_SEL is latched, and Boot is asked for. -/
theorem sysRelease_boots {b : Nat} (ha : s.pins.aonResetN = true) (hd : s.mode.current = .dormant) (hm : s.pins.mainPwrEn = false)
    (hb : s.mode.blocked = false) : s.sysRelease b =
      { s with
        pins := { s.pins with sysResetN := true, mainPwrEn := true, pwrTimer := some s.nowNs }
        mode := { s.mode with
          bootSel := b % 4, asked := true, target := .boot, busy := true
          bootAt := if s.pins.pwrOk then some (s.nowNs + 1000000) else none } } := by
  unfold State.sysRelease
  dsimp only
  rw [if_neg (by simp [ha]), if_pos hd]
  exact tryBoot_runs hd rfl ha hm (bootBlocked_of_unblocked hb)

theorem memPartial_pins (s : State) : s.memPartial.pins = s.pins := rfl

/-- The hold-up input is read as it stands, whatever the frame store does. -/
theorem holdupFall_pins (s : State) : s.holdupFall.pins = { s.pins with holdupOk := false } := by
  unfold State.holdupFall State.memHoldup
  split
  · rw [State.event_pins, memPartial_pins]
  · rfl

theorem tallyChange_pins {n : Nat} (h : n < 8) (level : Bool) : (s.tallyChange n level).pins.tally =
    if level then s.pins.tally ||| BitVec.ofNat 8 (2 ^ n) else s.pins.tally &&& ~~~ BitVec.ofNat 8 (2 ^ n) := by
  unfold State.tallyChange
  rw [if_neg (Nat.not_le.mpr h)]

theorem getLsbD_bit {n : Nat} (h : n < 8) : (BitVec.ofNat 8 (2 ^ n)).getLsbD n = true := by
  rw [BitVec.getLsbD_ofNat, Nat.testBit_two_pow_self]
  simpa using h

/-- A tally input reads the level that it holds. -/
theorem tallyChange_reads {n : Nat} (h : n < 8) (level : Bool) : (s.tallyChange n level).pins.tally.getLsbD n = level := by
  rw [tallyChange_pins h]
  cases level
  · rw [if_neg (by decide), BitVec.getLsbD_and, BitVec.getLsbD_not, getLsbD_bit h]
    simp
  · rw [if_pos rfl, BitVec.getLsbD_or, getLsbD_bit h, Bool.or_true]

theorem aonRelease_rises (h : s.pins.aonResetN = false) : s.aonRelease =
    { s with
      pins := { s.pins with aonResetN := true, dramPwrEn := true }, time := 0
      dramStacks := s.dramStacks.map (fun _ => StackSt.reset) } := if_neg (by simp [h])

theorem pwrRise_boots (hp : s.pins.pwrOk = false) (hd : s.mode.current = .dormant) (hm : s.pins.mainPwrEn = true) : s.pwrRise =
    { s with pins := { s.pins with pwrOk := true }, mode := { s.mode with bootAt := some (s.nowNs + 1000000) } } := by
  simp [State.pwrRise, hp, hd, hm]

theorem pwrFall_fast (h : s.mode.current.fast = true) :
    s.pwrFall = State.forceDormant { s with pins := { s.pins with pwrOk := false }, remap := false } 1 true := if_pos h

theorem pwrTimeout_drops {n : Nat} (ht : s.pins.pwrTimer = some n) (hd : s.mode.current = .dormant) (hp : s.pins.pwrOk = false) :
    s.pwrTimeout = { s.advanceTo (n + 1000000000) with
      pins := { (s.advanceTo (n + 1000000000)).pins with mainPwrEn := false, pwrTimer := none }
      mode := { (s.advanceTo (n + 1000000000)).mode with asked := false, bootAt := none, target := .dormant, busy := false } } := by
  simp [State.pwrTimeout, ht, hd, hp]

/-- Settles O35, clause by clause. -/
theorem powerCommandsComplete : Obligations.PowerCommandsComplete := by
  refine ⟨fun s h => ?aonHigh, fun s => ?aonLow, fun s h => ?sysLow, fun b s ha hd hm hb => ?sysHigh, fun s hp hd hm => ?pwrRise,
    fun s h => ?pwrFall, fun s n ht hd hp => ?pwrTimeout, fun s => rfl, fun s => ?holdup, fun n s h => ?tallyHigh, fun n s h => ?tallyLow,
    fun op s => ?jtag⟩
  case aonHigh => exact ⟨_, congrArg Host.Outcome.next (aonRelease_rises h), rfl, rfl, rfl, rfl⟩
  case aonLow => exact ⟨_, rfl, rfl, rfl, rfl, rfl, rfl, rfl, rfl⟩
  case sysLow =>
    refine ⟨_, congrArg Host.Outcome.next (sysAssert_fast h), forceDormant_current _ _ _, ?_⟩
    rw [forceDormant_pins]
    exact ⟨rfl, rfl, (forceDormant_leaves _ _ _).remap rfl⟩
  case sysHigh => exact ⟨_, congrArg Host.Outcome.next (sysRelease_boots ha hd hm hb), rfl, rfl, rfl, rfl, rfl, rfl⟩
  case pwrRise => exact ⟨_, congrArg Host.Outcome.next (pwrRise_boots hp hd hm), rfl, rfl⟩
  case pwrFall =>
    refine ⟨_, congrArg Host.Outcome.next (pwrFall_fast h), forceDormant_current _ _ _, ?_⟩
    rw [forceDormant_pins]
    exact ⟨rfl, rfl⟩
  case pwrTimeout =>
    refine ⟨_, congrArg Host.Outcome.next (pwrTimeout_drops ht hd hp), ?_⟩
    generalize n + 1000000000 = m
    exact ⟨rfl, (congrArg ModeSt.current (State.advanceTo_mode s m)).trans hd, rfl, rfl⟩
  case holdup => exact ⟨_, rfl, by rw [holdupFall_pins]⟩
  case tallyHigh => exact ⟨_, rfl, tallyChange_reads h true⟩
  case tallyLow => exact ⟨_, rfl, tallyChange_reads h false⟩
  case jtag => exact ⟨_, rfl, rfl, fun h => if_pos h⟩

end Sys2Proof.Machine
end

section
/-! PROOFS. The commands that enter a mode, and the report of a mode that is reached. -/
namespace Sys2Proof.Machine

variable {s : State}

/-! ### The report of a mode that is reached (01 R52, R55; 02 R92, R95) -/

theorem message_cause (s : State) (v : Nat) : (s.message v).ints.cause = s.ints.cause := by
  unfold State.message
  dsimp only
  repeat' split
  all_goals rfl

/-- An interrupt sets the cause bit of its source. -/
theorem interrupt_cause (s : State) (n : Nat) : (s.interrupt n).ints.cause = s.ints.cause ||| BitVec.ofNat 32 (2 ^ n) := by
  unfold State.interrupt
  dsimp only
  split
  · rw [message_cause]
  · rfl

theorem stormDrop_written (s : State) (trace : Bool) : (s.stormDrop trace).storm.written = s.storm.written := by
  unfold State.stormDrop
  dsimp only
  split <;> rfl

theorem writeEvent_written (s : State) (e : Ev) : (s.writeEvent e).storm = s.storm := by
  unfold State.writeEvent
  simp

/-- An event that is always generated takes the next event number, written or lost. -/
theorem event_written {e : Ev} (h : e.always = true) : (s.event e).storm.written = s.storm.written + 1 := by
  have w : (if s.eventRoom then s.writeEvent e else (s.count cntEventsLost 0 1).stormDrop false).storm.written = s.storm.written := by
    split
    · rw [writeEvent_written]
    · exact stormDrop_written _ _
  unfold State.event
  rw [if_pos (by simp [h])]
  exact congrArg (· + 1) w

theorem arrive_cause (s : State) (m : Mode) : (s.arrive m).ints.cause.getLsbD 6 = true := by
  unfold State.arrive
  dsimp only
  rw [interrupt_cause, BitVec.getLsbD_or]
  simp

theorem arrive_written (s : State) (m : Mode) : (s.arrive m).storm.written = s.storm.written + 1 := by
  unfold State.arrive
  dsimp only
  rw [State.interrupt_storm, event_written rfl]

/-- A mode other than Throttled that is reached is reported. -/
theorem arrive_reports {m : Mode} (h : m ≠ .throttled) :
    (s.arrive m).mode.current = m ∧ (s.arrive m).mode.base = m ∧ (s.arrive m).mode.target = m ∧ (s.arrive m).mode.busy = false ∧
      (s.arrive m).mode.sticky.getLsbD 0 = true ∧ (s.arrive m).mode.changedS = s.nowS ∧ (s.arrive m).ints.cause.getLsbD 6 = true ∧
      (s.arrive m).storm.written = s.storm.written + 1 := by
  rw [arrive_mode, if_neg h, if_neg h]
  exact ⟨rfl, rfl, rfl, rfl, by simp, rfl, arrive_cause s m, arrive_written s m⟩

/-! ### The commands -/

theorem bootStart_enters {n : Nat} (hn : s.mode.bootAt = some n) (hd : s.mode.current = .dormant) (hm : s.pins.mainPwrEn = true)
    (hp : s.pins.pwrOk = true) (hb : s.mode.blocked = false) : s.bootStart = (s.advanceTo n).enterBoot s.mode.bootNext := by
  simp [State.bootStart, hn, hd, hm, hp, bootBlocked_of_unblocked hb]

theorem imageVerified_trains (hb : s.mode.current = .boot) (hf : s.mode.fallowMark = false) (hs : s.mode.bootSel = 0 ∨ s.mode.bootSel = 3) :
    s.imageVerified = s.enterTraining := if_pos (by simp [hb, hf, hs])

theorem bootToRecovery_recovers (hb : s.mode.current = .boot) (hf : s.mode.fallowMark = false) : s.bootToRecovery = s.arrive .recovery :=
  if_pos (by simp [hb, hf])

theorem bootToFallow_falls (hb : s.mode.current = .boot) (hf : s.mode.fallowMark = true) : s.bootToFallow = s.enterFallow :=
  if_pos (by simp [hb, hf])

/-- The state of a first boot that has passed, before its event. -/
def State.passed (s : State) : State :=
  { s with mode := { s.mode with firstBoot := false }, image := { s.image with firstBoot := 1, failCode := 0, erasing := true } }

theorem firstPass_passes (ht : s.mode.current = .training) (hf : s.mode.firstBoot = true) : s.firstPass = s.passed.event
    { code := 0x4414, noun := 0x44, index := 1, data := le 4 s.image.active.fwVersion.toNat } := if_pos (by simp [ht, hf])

/-- The state of a first boot that has failed, before Fallow. -/
def State.failed (s : State) (code : Nat) : State :=
  { s with mode := { s.mode with firstBoot := false, fallowMark := true }, image := { s.image with firstBoot := 2, failCode := code % 65536 } }

theorem firstFail_falls {code : Nat} (ht : s.mode.current = .training) (hf : s.mode.firstBoot = true) :
    s.firstFail code = (s.failed code).enterFallow := if_pos (by simp [ht, hf])

theorem transitionDone_dormant (hb : s.mode.busy = true) (ht : s.mode.target = .dormant) : s.transitionDone = s.enterDormant := by
  unfold State.transitionDone
  rw [ht]
  simp [hb]

theorem not_special_of_service {m : Mode} (h : m.service = true) : m ≠ .boot ∧ m ≠ .dormant ∧ m ≠ .training ∧ m ≠ .standby := by
  cases m <;> simp_all [Mode.service]

/-- A transition from Standby into a service mode: the frame store, the mode, and what starts with it. -/
theorem transitionDone_service (hb : s.mode.busy = true) (ht : s.mode.target.service = true) (hc : s.mode.current = .standby) :
    s.transitionDone = if s.mode.target.ranked then
        (State.rouse s (((s.memMode s.mode.target).arrive s.mode.target).enterService)).rejudgeRefs true
      else State.rouse s (((s.memMode s.mode.target).arrive s.mode.target).enterService) := by
  obtain ⟨h1, h2, h3, h4⟩ := not_special_of_service ht
  unfold State.transitionDone
  dsimp only
  rw [if_neg (by simp [hb, h1]), if_neg h2, if_neg h3, if_neg h4, if_pos hc]

/-- Settles O36, clause by clause. -/
theorem modeCommandsComplete : Obligations.ModeCommandsComplete := by
  refine ⟨fun s n hn hd hm hp hb => ?boot, fun s hb hf hs => ?verified, fun s hb hf => ?recovery, fun s hb hf => ?fallow,
    fun s ht hf found => ?trained, fun s ht hf => ?passed, fun code s ht hf => ?failed, fun s hb ht => ?dormant,
    fun s hb ht hc _ => ?service, fun s h => ?watchdog, fun s h hr => ?restart, fun s m h => arrive_reports h⟩
  case boot =>
    exact ⟨_, congrArg Host.Outcome.next (bootStart_enters hn hd hm hp hb), enterBoot_current _ _, enterBoot_cause _ _⟩
  case verified => exact ⟨_, rfl, imageVerified_trains hb hf hs⟩
  case recovery =>
    refine ⟨_, congrArg Host.Outcome.next (bootToRecovery_recovers hb hf), ?_⟩
    rw [arrive_mode]
  case fallow =>
    refine ⟨_, congrArg Host.Outcome.next (bootToFallow_falls hb hf), enterFallow_current s, ?_⟩
    rw [enterFallow_pins]
    exact ⟨rfl, rfl⟩
  case trained => exact congrArg Host.Outcome.next (if_pos (by simp [ht, hf]))
  case passed =>
    refine ⟨_, congrArg Host.Outcome.next (firstPass_passes ht hf), ?_⟩
    rw [State.event_mode, State.event_image]
    exact ⟨rfl, rfl, rfl⟩
  case failed =>
    refine ⟨_, congrArg Host.Outcome.next (firstFail_falls ht hf), enterFallow_current _, ?_⟩
    rw [enterFallow_mark, enterFallow_image]
    exact ⟨rfl, rfl, rfl⟩
  case dormant => exact ⟨_, congrArg Host.Outcome.next (transitionDone_dormant hb ht), enterDormant_current s⟩
  case service => exact ⟨_, rfl, transitionDone_service hb ht hc⟩
  case watchdog =>
    have e : s.watchdog = s.enterBoot 3 := if_pos h
    exact ⟨_, congrArg Host.Outcome.next e, enterBoot_current _ _, enterBoot_cause _ _⟩
  case restart =>
    have e : s.deviceRestart = s.enterBoot 4 := if_pos (by simp [h, hr])
    exact ⟨_, congrArg Host.Outcome.next e, enterBoot_current _ _, enterBoot_cause _ _⟩

end Sys2Proof.Machine
end

section
/-! PROOFS. The frames that destinations begin, and the frames that pass their probes. -/
namespace Sys2Proof.Machine

variable {s : State} {d : Nat}

/-! ### Readings that a run of changes keeps -/

theorem each_reads {α β : Type} (g : State → β) (s : State) (l : List α) (f : State → α → State) (h : ∀ t x, g (f t x) = g t) :
    g (s.each l f) = g s := by
  induction l generalizing s with
  | nil => rfl
  | cons x l ih => exact (ih (f s x)).trans (h s x)

theorem when_reads {β : Type} (g : State → β) (s : State) (c : Bool) (f : State → State) (h : ∀ t, g (f t) = g t) : g (s.when c f) = g s := by
  cases c
  · rfl
  · exact h s

/-! ### What comes before and after the frame of a destination (06 R285; 07 R316; 10 R429; 14 R588) -/

/-- A state with other stems. -/
def State.withStems (s : State) (x : Tab StemSt) : State := { s with stems := x }

/-- A destination with another hold mask in force. -/
def DstSt.holding (y : DstSt) (m : BitVec 8) : DstSt := { y with capHeld := m }

theorem keepFeed_stems (s : State) (d : Nat) : ∃ x, s.keepFeed d = s.withStems x := by
  unfold State.keepFeed
  split
  · exact ⟨_, rfl⟩
  · exact ⟨s.stems, rfl⟩

theorem feedStart_stems (s : State) (d : Nat) : ∃ x, s.feedStart d = s.withStems x := by
  unfold State.feedStart
  split
  · exact ⟨_, rfl⟩
  · exact ⟨s.stems, rfl⟩

/-- The start of a captured frame takes the hold mask, and no more. -/
theorem captureStart_dst (s : State) (d : Nat) : ∃ m, (s.captureStart d).dst d = (s.dst d).holding m := by
  unfold State.captureStart
  split
  · exact ⟨_, State.dst_mod_self _ _ _⟩
  · exact ⟨_, rfl⟩

theorem captureStart_cnt (s : State) (d i u : Nat) : (s.captureStart d).cnt i u = s.cnt i u := by
  unfold State.captureStart
  split <;> rfl

/-- The outputs of a destination send, and restart the pacing of send flows. -/
theorem startOutputs_reads {β : Type} (g : State → β) (he : ∀ t o, g (State.emit t o) = g t) (hf : ∀ t k f, g (State.modFlow t k f) = g t)
    (s : State) (d : Nat) : g (s.startOutputs d) = g s := by
  have sends (t : State) : g (t.sendStart d) = g t := each_reads g t _ _ fun _ _ => hf _ _ _
  have lanes (t : State) : g (t.rillStart d) = g t := each_reads g t _ _ fun _ _ => he _ _
  unfold State.startOutputs
  split
  · rfl
  · exact (sends _).trans (when_reads g s _ _ lanes)

/-- DEST_FRAME_START is the frame of the destination, on a state with another feed; what follows it sets the hold mask of a capture alone. -/
theorem destFrameStart_frame (s : State) (d : Nat) : ∃ x m t, exec (.destFrameStart d) s = .next t ∧
    t.dst d = (((s.withStems x).destFrame d).dst d).holding m ∧ ∀ i u, t.cnt i u = ((s.withStems x).destFrame d).cnt i u := by
  obtain ⟨x, hx⟩ := keepFeed_stems s d
  obtain ⟨m, hm⟩ := captureStart_dst ((s.keepFeed d).destFrame d) d
  obtain ⟨y, hy⟩ := feedStart_stems (((s.keepFeed d).destFrame d).captureStart d) d
  refine ⟨x, m, _, rfl, ?_, fun i u => ?_⟩
  all_goals rw [← hx]
  · rw [startOutputs_reads (fun t => t.dst d) (fun _ _ => rfl) (fun _ _ _ => rfl), hy]
    exact hm
  · rw [startOutputs_reads (fun t => t.cnt i u) (fun _ _ => rfl) (fun _ _ _ => rfl), hy]
    exact captureStart_cnt _ d i u

/-! ### The frame of a destination that runs (03 R154; 04 R183, R184, R191) -/

/-- The state in which a destination has begun a frame, before what it shows. -/
def State.begun (s : State) (d : Nat) : State :=
  s.modDst d (fun y => { y with
    patches := [], anc := []
    frameNo := s.nowNs * rateNum (s.domain (s.dst d).domain).rate / (rateDen (s.domain (s.dst d).domain).rate * 1000000000) })

/-! A frame that has begun leaves what its destination's source, format and counts read. -/

theorem begun_src (s : State) (d k : Nat) : (s.begun d).src k = s.src k := rfl

theorem begun_cnt (s : State) (d i u : Nat) : (s.begun d).cnt i u = s.cnt i u := rfl

theorem begun_heldBy (s : State) (d : Nat) : (s.begun d).heldBy d = s.heldBy d := rfl

theorem begun_path (s : State) (d : Nat) : ((s.begun d).dst d).path = (s.dst d).path := by simp [State.begun]

theorem begun_lastSeq (s : State) (d : Nat) : ((s.begun d).dst d).lastSeq = (s.dst d).lastSeq := by simp [State.begun]

theorem begun_lossFrames (s : State) (d : Nat) : ((s.begun d).dst d).lossFrames = (s.dst d).lossFrames := by simp [State.begun]

theorem begun_dstSrc (s : State) (d : Nat) : (s.begun d).dstSrc d = s.dstSrc d := by
  simp only [State.dstSrc, begun_heldBy]
  simp [State.begun]

theorem begun_outFmt (s : State) (d colour : Nat) : (s.begun d).outFmt d colour = s.outFmt d colour := by
  simp only [State.outFmt, State.dstFmt, begun_heldBy]
  simp [State.begun]

/-- Without a route a destination shows black. -/
theorem destFrame_black (hr : s.dstRuns d = true) (hs : s.dstSrc d = 0xFFFF) :
    s.destFrame d = (s.begun d).modDst d (fun y => { y with shows := .black (s.outFmt d 0), showLoss := false, lossFrames := 0 }) := by
  simp [State.destFrame, hr, hs, State.begun]

theorem destFrame_loss (hr : s.dstRuns d = true) (hs : s.dstSrc d ≠ 0xFFFF) (hl : s.showsLoss d = true) :
    s.destFrame d = (s.begun d).lossFrameStart d := by
  simp [State.destFrame, hr, hs, hl, State.begun]

theorem destFrame_source (hr : s.dstRuns d = true) (hs : s.dstSrc d ≠ 0xFFFF) (hl : s.showsLoss d = false) :
    s.destFrame d = (s.begun d).sourceFrameStart d := by
  simp [State.destFrame, hr, hs, hl, State.begun]

/-- One more frame of the loss action is shown, and counted. -/
theorem destFrame_showsLoss (hr : s.dstRuns d = true) (hs : s.dstSrc d ≠ 0xFFFF) (hl : s.showsLoss d = true) :
    ((s.destFrame d).dst d).showLoss = true ∧ ((s.destFrame d).dst d).lossFrames = (s.dst d).lossFrames + 1 ∧
    ((s.destFrame d).dst d).shows = (s.src (s.dstSrc d)).lossFrame (s.outFmt d (s.src (s.dstSrc d)).fmt.colour) ((s.dst d).lossFrames + 1) ∧
    (s.destFrame d).cnt cntLossFrames d = min counterMax (s.cnt cntLossFrames d + 1) := by
  rw [destFrame_loss hr hs hl]
  simp [State.lossFrameStart, begun_dstSrc, begun_outFmt, begun_src, begun_cnt, begun_lossFrames]

/-- What a destination takes at the start of a frame of its source. -/
theorem sourceFrameStart_dst (s : State) (d : Nat) : (s.sourceFrameStart d).dst d = { s.dst d with
    showLoss := false, lossFrames := 0, lastSeq := (s.src (s.dstSrc d)).newest, showsPrev := (s.src (s.dstSrc d)).prev
    anc := if (s.src (s.dstSrc d)).newest - (s.dst d).lastSeq = 0 then [] else (s.src (s.dstSrc d)).anc
    shows := if (s.heldBy d).isSome || (s.dst d).path == 1 then .empty else (s.src (s.dstSrc d)).pic } := by
  unfold State.sourceFrameStart
  dsimp only
  split
  · rw [State.dst_mod_self]
  · split <;> rw [State.count_dst, State.dst_mod_self]

/-- The newest frame of the source ends the loss action; a frame synchroniser shows it. -/
theorem destFrame_showsSource (hr : s.dstRuns d = true) (hs : s.dstSrc d ≠ 0xFFFF) (hl : s.showsLoss d = false) :
    ((s.destFrame d).dst d).showLoss = false ∧ ((s.destFrame d).dst d).lossFrames = 0 ∧
    ((s.destFrame d).dst d).lastSeq = (s.src (s.dstSrc d)).newest ∧
    (s.heldBy d = none → (s.dst d).path = 2 → ((s.destFrame d).dst d).shows = (s.src (s.dstSrc d)).pic) := by
  rw [destFrame_source hr hs hl, sourceFrameStart_dst, begun_dstSrc, begun_src, begun_heldBy, begun_path]
  exact ⟨rfl, rfl, rfl, fun hh hp => by simp [hh, hp]⟩

/-- A frame synchroniser that has shown a frame counts one that it shows again, and those that it passes over. -/
theorem destFrame_counts (hr : s.dstRuns d = true) (hs : s.dstSrc d ≠ 0xFFFF) (hl : s.showsLoss d = false) (hh : s.heldBy d = none)
    (hp : (s.dst d).path = 2) (h0 : (s.dst d).lastSeq ≠ 0) :
    ((s.src (s.dstSrc d)).newest = (s.dst d).lastSeq →
      (s.destFrame d).cnt cntFsRepeat d = min counterMax (s.cnt cntFsRepeat d + 1)) ∧
    ((s.dst d).lastSeq < (s.src (s.dstSrc d)).newest →
      (s.destFrame d).cnt cntFsDrop d = min counterMax (s.cnt cntFsDrop d + ((s.src (s.dstSrc d)).newest - (s.dst d).lastSeq - 1))) := by
  rw [destFrame_source hr hs hl]
  refine ⟨fun hk => ?_, fun hk => ?_⟩
  · simp [State.sourceFrameStart, begun_dstSrc, begun_src, begun_heldBy, begun_path, begun_lastSeq, begun_cnt, hh, hp, h0, hk]
  · have hn : (s.src (s.dstSrc d)).newest - (s.dst d).lastSeq ≠ 0 := by omega
    simp [State.sourceFrameStart, begun_dstSrc, begun_src, begun_heldBy, begun_path, begun_lastSeq, begun_cnt, hh, hp, h0, hn]

/-! ### Probes (04 R204 to R206) -/

/-- The judgement of black frames changes the runs that it counts alone. -/
theorem judgeBlack_dst (s : State) (d : Nat) (black : Bool) (above : Nat) :
    ∃ run off, (s.judgeBlack d black above).dst d = { s.dst d with blackRun := run, notBlack := off } := by
  refine ⟨if black then (s.dst d).blackRun + 1 else 0, if black then 0 else (s.dst d).notBlack + 1, ?_⟩
  unfold State.judgeBlack
  dsimp only
  repeat' split
  all_goals simp

/-- The judgement of frozen frames changes the runs that it counts alone. -/
theorem judgeFreeze_dst (s : State) (d : Nat) (same : Bool) (sig : Nat) :
    ∃ run off, (s.judgeFreeze d same sig).dst d = { s.dst d with sameRun := run, notSame := off } := by
  refine ⟨if same then (s.dst d).sameRun + 1 else 0, if same then 0 else (s.dst d).notSame + 1, ?_⟩
  unfold State.judgeFreeze
  dsimp only
  repeat' split
  all_goals simp

/-- An armed probe keeps the signature of each member, and the frame that it signed. -/
theorem probeFrame_signs (hr : s.dstRuns d = true) (ha : s.probeArmed d = true) : ((s.probeFrame d).dst d).signed = true ∧
    ((s.probeFrame d).dst d).sigs =
      ((s.carriedMembers d).zipIdx.map (fun (m : Picture × Nat) => ~~~(probeMember (s.dst d).probe (s.dstFmt d) m.2 m.1).crc) ++ [0, 0, 0, 0]).take 4 ∧
    ((s.probeFrame d).dst d).sigFrame = (s.domain (s.dst d).domain).frame.toNat := by
  have judged (black same above sig) : (((s.judgeBlack d black above).judgeFreeze d same sig).dst d).domain = (s.dst d).domain := by
    obtain ⟨_, _, hb⟩ := judgeBlack_dst s d black above
    obtain ⟨_, _, hf⟩ := judgeFreeze_dst (s.judgeBlack d black above) d same sig
    rw [hf, hb]
  unfold State.probeFrame
  rw [hr, ha]
  simp only [Bool.and_self, Bool.not_true, Bool.false_eq_true, if_false, State.dst_mod_self, judged, List.map_map]
  exact ⟨trivial, rfl, trivial⟩

/-! ### The obligation -/

/-- Settles O39, from the frame of a destination and the frame of a probe. -/
theorem destinationCommandsComplete : Obligations.DestinationCommandsComplete := by
  refine ⟨fun d s hr hs => ?black, fun d s hr hs hl => ?loss, fun d s hr hs hl => ?source, fun d s hr ha => ⟨_, rfl, probeFrame_signs hr ha⟩⟩
  all_goals obtain ⟨x, m, t, ht, hd, hc⟩ := destFrameStart_frame s d
  case black =>
    rw [destFrame_black (s := s.withStems x) hr hs, State.dst_mod_self] at hd
    exact ⟨t, ht, by rw [hd]; exact ⟨rfl, rfl, rfl⟩⟩
  case loss =>
    refine ⟨t, ht, ?_⟩
    rw [hd, hc]
    exact destFrame_showsLoss (s := s.withStems x) hr hs hl
  case source =>
    obtain ⟨hshow, hframes, hseq, hpic⟩ := destFrame_showsSource (s := s.withStems x) hr hs hl
    have counts := destFrame_counts (s := s.withStems x) hr hs hl
    refine ⟨t, ht, ?_⟩
    rw [hd, hc, hc]
    exact ⟨hshow, hframes, hseq, hpic, fun hh hp h0 => (counts hh hp h0).1, fun hh hp h0 => (counts hh hp h0).2⟩

end Sys2Proof.Machine
end

section
/-! PROOFS. SET on Src, Dst, AudioPort, EthPort and Plane, and READ of the queue samples: what each makes of its unit. -/
namespace Sys2Proof.Machine

variable {q : ReqSpec} {r : Request} {c : Call} {s t : State}

/-- An accepted request whose body answers OK with no block has the effect of the body. -/
theorem serve_sets {P : State → Prop} (h : r.accepted q s) (hq : q.staged = false)
    (hb : ∃ t, q.body (r.callIn s) (s.taking r) = (okWith [], t) ∧ P t) :
    ∃ t : State, (.next (serve q r s) : Res) = .next (t.reply q.verb r (okWith [])) ∧ P t := by
  obtain ⟨t, hb, ht⟩ := hb
  exact ⟨t, congrArg _ (serve_gives h hq hb (Nat.zero_le _)), ht⟩

/-- An accepted request names an index that its command allows. -/
theorem accepted_index (h : r.accepted q s) : q.index r.index = true := admitted_index h.2.1

/-! ### Sources: format, generator, playout (03 R150, R151; 14 R586, R587) -/

theorem setSrcFormat_sets {f : Fmt} {rate : Nat} (hf : f = decFmt c.block) (hi : within c.r.index 1090 1151 = true)
    (hm : s.srcMember c.r.index = false)
    (hd : rate = if s.srcDomain c.r.index ≠ 0xFF ∧ s.domainOn (s.srcDomain c.r.index) = true then (s.domain (s.srcDomain c.r.index)).rate else 0)
    (hc : checkFormat f true (rateNum rate) (rateDen rate) = none) (hr : rate ≠ 0 → rasterAllows f.raster rate = true)
    (hg : c.r.index % f.gang = 0) (he : c.r.index + f.gang ≤ if c.r.index < 1114 then 1114 else 1152) (hs : s.srcRouted c.r.index = false) :
    specSetSrcFormat.body c s = (okWith [], s.modSrc c.r.index (fun x => { x with fmt := f })) := by
  have hd : (if s.srcDomain c.r.index != 0xFF && s.domainOn (s.srcDomain c.r.index) then (s.domain (s.srcDomain c.r.index)).rate else 0) = rate := by
    simp [hd]
  have hr : (rate != 0 && !rasterAllows f.raster rate) = false := by simpa using hr
  dsimp only [specSetSrcFormat]
  rw [hd, ← hf, hi, hm, hc]
  simp [hr, hg, he, hs]

/-- The settings of a generator, at once or after the frame that it makes. -/
theorem setSrcGenerator_sets {g : GenCfg} (hg : g = decGenCfg c.block) (hk : isGenerator c.r.index = true) (hm : s.srcMember c.r.index = false)
    (hp : g.pattern ≤ 4 ∨ g.pattern = 0xFF) (h1 : 1 ≤ g.domain) (h8 : g.domain ≤ 8) :
    specSetSrcGenerator.body c s = (okWith [], s.modSrc c.r.index (fun x =>
      if x.making = .empty then { x with gen := g, genNext := none } else { x with genNext := some g })) := by
  have hp : (decide (g.pattern ≤ 4) || g.pattern == 0xFF) = true := by simpa using hp
  dsimp only [specSetSrcGenerator]
  rw [← hg, hp]
  simp [hk, hm, h1, h8, within]

theorem slotBusy_eq_false {k slot : Nat} (h : slot < 4 → (s.src k).slots.getLsbD slot = false) : s.slotBusy k slot = false := by
  simpa [State.slotBusy] using h

/-- A free slot is posted, to wait for its time or for the posts before it. -/
theorem setSrcPlayoutPost_posts (hk : isPlayout c.r.index = true) (hm : s.srcMember c.r.index = false) (hs : u8 c.block 1 < 4)
    (ht : u64 c.block 8 ≤ s.nowNs + 10000000000) (hf : (s.src c.r.index).slots.getLsbD (u8 c.block 1) = false)
    (hw : (s.src c.r.index).posts ≠ [] ∨ s.nowNs < u64 c.block 8) :
    ∃ t : State, specSetSrcPlayoutPost.body c s = (okWith [], t) ∧
      (t.src c.r.index).slots = (s.src c.r.index).slots ||| BitVec.ofNat 8 (2 ^ u8 c.block 1) ∧
      (t.src c.r.index).posts = (s.src c.r.index).posts ++
        [(u8 c.block 1, (s.src c.r.index).posts.foldl (fun m p => max m p.2) (max (u64 c.block 8) s.nowNs))] := by
  have hb : s.slotBusy c.r.index (u8 c.block 1) = false := slotBusy_eq_false fun _ => hf
  have hw : ((s.src c.r.index).posts.isEmpty && decide (u64 c.block 8 ≤ s.nowNs)) = false := by
    rcases hw with h | h
    · simp [h]
    · simp [Nat.not_le.mpr h]
  dsimp only [specSetSrcPlayoutPost]
  rw [hk, hm, hb, hw]
  simp [hs, Nat.not_lt.mpr ht]

/-- The end of playout, due at once, takes the signal of the source. -/
theorem setSrcPlayoutPost_stops (hk : isPlayout c.r.index = true) (hm : s.srcMember c.r.index = false) (hs : u8 c.block 1 = 0xFF)
    (ht : u64 c.block 8 ≤ s.nowNs) (hp : (s.src c.r.index).posts = []) :
    specSetSrcPlayoutPost.body c s = (okWith [], (s.modSrc c.r.index (fun x => { x with playSlot := none })).loseSource c.r.index) := by
  have hb : s.slotBusy c.r.index 0xFF = false := slotBusy_eq_false fun h => by omega
  have h10 : ¬ u64 c.block 8 > s.nowNs + 10000000000 := by omega
  dsimp only [specSetSrcPlayoutPost]
  rw [hs, hk, hm, hb]
  simp [h10, ht, hp, State.playSlot]

/-! ### Destinations: probe and capture (04 R208; 14 R588) -/

theorem setDstProbe_sets (hm : s.dstMember c.r.index = false) (hp : probeOk (decProbeCfg c.block) (s.dstFmt c.r.index) = true) :
    specSetDstProbe.body c s = (okWith [], s.modDst c.r.index (fun x => { x with probe := decProbeCfg c.block })) := by
  dsimp only [specSetDstProbe]
  rw [hm, hp]
  rfl

/-- The held slots of a capture destination, at once in force where it does not run. -/
theorem setDstCaptureHold_holds (hk : isCapture c.r.index = true) (hm : s.dstMember c.r.index = false) (hs : u8 c.block 1 ≤ 15) :
    ∃ t : State, specSetDstCaptureHold.body c s = (okWith [], t) ∧ (t.dst c.r.index).held = BitVec.ofNat 8 (u8 c.block 1) ∧
      (s.dstRuns c.r.index = false → (t.dst c.r.index).capHeld = BitVec.ofNat 8 (u8 c.block 1)) := by
  dsimp only [specSetDstCaptureHold]
  rw [hk, hm]
  simp +contextual [Nat.not_lt.mpr hs]

/-! ### Audio ports (05 R223, R224) -/

theorem aports_of_except (h : t.except (allBut .aports) = s.except (allBut .aports)) : t.aports = s.aports := by
  simpa [State.except, allBut] using congrArg State.aports h

theorem loseAin_aport (s : State) (k p : Nat) : (s.loseAin k).aport p = s.aport p := by
  rw [State.aport, aports_of_except (State.loseAin_except (allBut .aports) rfl rfl rfl s k), State.aport]

theorem stopAouts_stands (s : State) (k fill i u : Nat) : (s.stopAouts k fill).stands i u = s.stands i u :=
  each_reads (fun t => t.stands i u) s _ _ fun _ _ => rfl

/-- An input that loses its signal raises no alarm but that of its audio, and ends none but that of its slips. -/
theorem loseAin_stands (s : State) (k : Nat) {i u : Nat} (hl : unitKey i u ≠ unitKey almAudioLoss k) (hs : unitKey i u ≠ unitKey almAudioSlip k) :
    (s.loseAin k).stands i u = s.stands i u := by
  have slip : (s.leaveSlip k).stands i u = s.stands i u := by
    unfold State.leaveSlip
    split
    · rw [State.event_stands, State.clearAlarm_stands_other _ _ _ _ _ hs]
    · rfl
  unfold State.loseAin
  dsimp only
  split
  · rfl
  · rw [stopAouts_stands, State.event_stands, State.count_stands, State.raise_stands_other _ _ _ _ _ hl, State.modAin_stands, slip]

/-- A port that stops fades its outputs and idles its pins; of its own it changes no more than when the pins idle. -/
theorem stopPort_idles {β : Type} (g : State → β) (he : ∀ t o, g (State.emit t o) = g t) (ha : ∀ t k f, g (State.modAout t k f) = g t)
    (s old : State) (p : Nat) : ∃ u n, g u = g s ∧ s.stopPort old p = u.modAport p (fun a => { a with idleNs := n }) := by
  have fades (t : State) (k : Nat) (f : AoutSt → AoutSt) (b : Bool) (o : Out) : g ((t.when b (fun u => u.emit o)).modAout k f) = g t :=
    (ha _ _ _).trans (when_reads g t b _ fun u => he u o)
  exact ⟨_, _, (when_reads g _ _ _ fun t => he t _).trans (each_reads g s _ _ fun t k => fades t k _ _ _), rfl⟩

theorem stopPort_cfg (s old : State) (p : Nat) : ((s.stopPort old p).aport p).cfg = (s.aport p).cfg := by
  obtain ⟨u, n, hu, e⟩ := stopPort_idles (fun t => (t.aport p).cfg) (fun _ _ => rfl) (fun _ _ _ => rfl) s old p
  rw [e, State.aport_mod_self]
  exact hu

theorem stopPort_stands (s old : State) (p i u : Nat) : (s.stopPort old p).stands i u = s.stands i u := by
  obtain ⟨v, n, hv, e⟩ := stopPort_idles (fun t => t.stands i u) (fun _ _ => rfl) (fun _ _ _ => rfl) s old p
  rw [e, State.modAport_stands]
  exact hv

theorem startPins_aport (s : State) (p k : Nat) : (s.startPins p).aport k = s.aport k := by
  unfold State.startPins
  dsimp only
  split <;> rfl

theorem lt_of_mem_ainsOfPort {p k : Nat} (hp : p < 64) (h : k ∈ ainsOfPort p) : k < 4294967296 := by
  unfold ainsOfPort at h
  split at h
  · simp only [List.mem_map, List.mem_range] at h
    omega
  · split at h
    · simp at h
      omega
    · simp at h

/-- The clock alarm of a port does not follow the alarms of its inputs. -/
theorem loseAins_stands {p : Nat} (hp : p < 64) (s : State) (l : List Nat) (hl : ∀ k ∈ l, k < 4294967296) :
    (s.each l State.loseAin).stands almPortClock p = s.stands almPortClock p := by
  induction l generalizing s with
  | nil => rfl
  | cons k l ih =>
    have hk : k < 4294967296 := hl k List.mem_cons_self
    refine (ih (s.loseAin k) fun x hx => hl x (List.mem_cons_of_mem _ hx)).trans (loseAin_stands s k ?_ ?_)
    · simp only [unitKey, almPortClock, almAudioLoss]
      omega
    · simp only [unitKey, almPortClock, almAudioSlip]
      omega

/-- A port that is enabled has its settings. -/
theorem setAudioPort_enables {n : AudioPortCfg} (hn : n = decAudioPortCfg c.block) (he : n.enable = 1) (ho : (s.aport c.r.index).cfg.enable ≠ 1)
    (hk : aportOk c.r.index n = true) : ∃ t : State, specSetAudioPort.body c s = (okWith [], t) ∧ (t.aport c.r.index).cfg = n := by
  dsimp only [specSetAudioPort]
  rw [← hn, if_neg (by simp [he, hk]), if_neg (by simp [ho]), if_pos he]
  refine ⟨_, rfl, ?_⟩
  rw [startPins_aport, each_reads (fun t => t.aport c.r.index)]
  · simp
  · intro t k
    split <;> rfl

/-- A port that is disabled has its settings, and its clock alarm is clear. -/
theorem setAudioPort_disables {n : AudioPortCfg} (hp : c.r.index < 64) (hn : n = decAudioPortCfg c.block) (he : n.enable = 0) (hd : n.domain ≤ 8) :
    ∃ t : State, specSetAudioPort.body c s = (okWith [], t) ∧ (t.aport c.r.index).cfg = n ∧ t.stands almPortClock c.r.index = false := by
  dsimp only [specSetAudioPort]
  rw [← hn, if_neg (by simp [he, hd]), if_neg (by simp [he]), if_neg (by simp [he])]
  split
  · exact ⟨_, rfl, by simp, State.clearAlarm_stands_self _ _ _⟩
  · refine ⟨_, rfl, ?_, ?_⟩
    · rw [stopPort_cfg, each_reads (fun t => t.aport c.r.index) _ _ _ fun t k => loseAin_aport t k _]
      simp
    · rw [stopPort_stands, loseAins_stands hp _ _ fun k => lt_of_mem_ainsOfPort hp, State.clearAlarm_stands_self]

/-! ### Ethernet ports (07 R304 to R306, R329) -/

theorem savePort_port (s : State) (p k : Nat) : (s.savePort p).port k = s.port k := by
  unfold State.savePort
  split <;> rfl

/-- A port that is enabled has its settings, before it begins to come up. -/
theorem enabled_port (s : State) (p : Nat) (n : PortCfg) :
    (((s.modPort p (fun y => { y with cfg := n, state := .adapting })).savePort p).port p).cfg = n ∧
      (((s.modPort p (fun y => { y with cfg := n, state := .adapting })).savePort p).port p).state ≠ .disabled := by
  rw [savePort_port, State.port_mod_self]
  exact ⟨rfl, nofun⟩

/-- A port that begins to come up keeps its settings, and is not disabled. -/
theorem startPort_starts (s : State) (p : Nat) (h : (s.port p).state ≠ .disabled) :
    ((s.startPort p).port p).cfg = (s.port p).cfg ∧ ((s.startPort p).port p).state ≠ .disabled := by
  unfold State.startPort
  dsimp only
  split
  · rw [each_reads (fun t => t.port p)]
    · rw [State.port_mod_self]
      refine ⟨rfl, ?_⟩
      dsimp only
      split <;> exact nofun
    · exact fun _ _ => rfl
  · exact ⟨rfl, h⟩

theorem setEthPort_enables {n : PortCfg} {x : Nat × Nat × Nat} (hn : n = decPortCfg c.block) (hk : portOk n = true)
    (ho : (s.port c.r.index).cfg.enable ≠ 1) (he : n.enable = 1) (hc : portConfig n.config = some x)
    (hl : ∀ i, i < x.1 → s.present .flume (portLane c.r.index + i) = true) (hp : c.r.index % 8 % x.2.2 = 0)
    (hs : s.slotTaken c.r.index n.config = false) :
    ∃ t : State, specSetEthPort.body c s = (okWith [], t) ∧ (t.port c.r.index).cfg = n ∧ (t.port c.r.index).state ≠ .disabled := by
  have hl : (List.range x.1).all (fun i => s.present .flume (portLane c.r.index + i)) = true := by simpa using hl
  dsimp only [specSetEthPort]
  rw [← hn, hk, if_neg (by simp), if_neg (by simp [ho]), if_neg (by simp [he]), hc]
  dsimp only
  rw [hl, hs, if_neg (by simp), if_neg (by simp [hp]), if_neg (by simp)]
  obtain ⟨hcfg, hstate⟩ := enabled_port s c.r.index n
  refine ⟨_, rfl, ?_⟩
  split
  · obtain ⟨kcfg, kstate⟩ := startPort_starts _ _ hstate
    exact ⟨kcfg.trans hcfg, kstate⟩
  · exact ⟨hcfg, hstate⟩

theorem setEthPort_disables {n : PortCfg} (hn : n = decPortCfg c.block) (hk : portOk n = true) (he : n.enable = 0) :
    ∃ t : State, specSetEthPort.body c s = (okWith [], t) ∧ (t.port c.r.index).cfg = n ∧ (t.port c.r.index).state = .disabled := by
  dsimp only [specSetEthPort]
  rw [← hn, hk, if_neg (by simp), if_neg (by simp [he]), if_pos he]
  refine ⟨_, rfl, ?_⟩
  rw [savePort_port, State.clearAlarm_port, State.port_mod_self]
  exact ⟨rfl, rfl⟩

/-- One port of a plane at most may take the timeReceiver role. -/
theorem setEthPortPtp_sets {n : PtpCfg} (hn : n = decPtpCfg c.block) (hd : n.domainNumber ≤ 127) (h7 : -7 ≤ n.logDelay) (h0 : n.logDelay ≤ 0)
    (h2 : 2 ≤ n.announceTimeout) (h10 : n.announceTimeout ≤ 10)
    (ho : n.role % 2 = 0 ∨ ∀ i, i < 32 → 32 * portPlane c.r.index + i ≠ c.r.index → (s.port (32 * portPlane c.r.index + i)).ptp.role % 2 = 0)
    (hi : n.role = 0 ∨ (s.port c.r.index).cfg.hasIp (n.flags.getLsbD 0) = true) :
    ∃ t : State, specSetEthPortPtp.body c s = (okWith [], t) ∧ (t.port c.r.index).ptp = n := by
  have alone : ¬ (n.role % 2 = 1 && ((List.range 32).map (32 * portPlane c.r.index + ·)).any
      (fun q => q != c.r.index && (s.port q).ptp.role % 2 == 1)) = true := by
    rcases ho with ho | ho
    · simp [ho]
    · simp only [Bool.and_eq_true, List.any_eq_true, List.mem_map, List.mem_range, not_and, not_exists]
      rintro - _ ⟨i, hi, rfl⟩ hne hr
      have := ho i hi (by simpa using hne)
      simp [this] at hr
  have reached : ¬ (n.role != 0 && !(s.port c.r.index).cfg.hasIp (n.flags.getLsbD 0)) = true := by
    rcases hi with h | h
    · simp [h]
    · rw [h]; simp
  dsimp only [specSetEthPortPtp]
  rw [← hn, if_neg (by simp [within, withinI, hd, h7, h0, h2, h10]), if_neg alone, if_neg reached]
  refine ⟨_, rfl, ?_⟩
  rw [savePort_port, State.port_mod_self]

/-! ### Planes and queues (08 R357, R365) -/

theorem setPlaneDiagnosis_sets (hm : (decDiagCfg c.block).fomMargin ≤ 200) (h1 : 1 ≤ (decDiagCfg c.block).fecLimit)
    (hf : (decDiagCfg c.block).fecLimit ≤ 1000000000) (h50 : 50 ≤ (decDiagCfg c.block).ptpTimeoutMs) (hp : (decDiagCfg c.block).ptpTimeoutMs ≤ 5000) :
    specSetPlaneDiagnosis.body c s = (okWith [], s.modPlane c.r.index (fun x => { x with diag := decDiagCfg c.block })) :=
  if_pos (by simp [within, hm, h1, hf, h50, hp])

/-- READ with the clear bit answers the samples of a queue, and clears them. -/
theorem readQueueSamples_clears (hc : u8 c.block 1 = 1) : ∃ t : State, specReadQueueSamples.body c s = (okWith (sampleBlock (s.queue c.r.index)), t) ∧
    (t.queue c.r.index).samples = 0 ∧ (t.queue c.r.index).depthMax = 0 ∧ (t.queue c.r.index).delayMax = 0 ∧
    (t.queue c.r.index).depthHist = QueueSt.reset.depthHist ∧ (t.queue c.r.index).delayHist = QueueSt.reset.delayHist := by
  dsimp only [specReadQueueSamples]
  rw [hc]
  refine ⟨_, rfl, ?_⟩
  simp

/-! ### The obligation -/

/-- Settles O52, each request by what its body makes of its unit. -/
theorem transportSettingsComplete : Obligations.TransportSettingsComplete := by
  refine ⟨fun r s f rate h hf hi hm hd hc hr hg he hs => ?format, fun r s g h hg hk hm hp h1 h8 => ?generator, fun r s h hm hp => ?probe,
    fun r s h hk hm hs ht hf hw => ?post, fun r s h hk hm hs ht hp => ?stop, fun r s h hk hm hs => ?hold,
    fun r s n h hn he ho hk => ?audioOn, fun r s n h hn he hd => ?audioOff,
    fun r s n x h hn hk ho he hc hl hp hs => ?portOn, fun r s n h hn hk he => ?portOff,
    fun r s n h hn hd h7 h0 h2 h10 ho hi => ?ptp, fun r s h hl hm h1 hf h50 hp => ?diagnosis, fun r s h hc k => ?samples⟩
  case format => exact congrArg _ (serve_gives h rfl (setSrcFormat_sets hf hi hm hd hc hr hg he hs) (Nat.zero_le _))
  case generator => exact congrArg _ (serve_gives h rfl (setSrcGenerator_sets hg hk hm hp h1 h8) (Nat.zero_le _))
  case probe => exact congrArg _ (serve_gives h rfl (setDstProbe_sets hm hp) (Nat.zero_le _))
  case post => exact serve_sets h rfl (setSrcPlayoutPost_posts hk hm hs ht hf hw)
  case stop => exact congrArg _ (serve_gives h rfl (setSrcPlayoutPost_stops hk hm hs ht hp) (Nat.zero_le _))
  case hold => exact serve_sets h rfl (setDstCaptureHold_holds hk hm hs)
  case audioOn => exact serve_sets h rfl (setAudioPort_enables hn he ho hk)
  case audioOff => exact serve_sets h rfl (setAudioPort_disables (of_decide_eq_true (accepted_index h)) hn he hd)
  case portOn => exact serve_sets h rfl (setEthPort_enables hn hk ho he hc hl hp hs)
  case portOff => exact serve_sets h rfl (setEthPort_disables hn hk he)
  case ptp => exact serve_sets h rfl (setEthPortPtp_sets hn hd h7 h0 h2 h10 ho hi)
  case diagnosis =>
    have hi : r.index < (s.taking r).planes.length := hl ▸ of_decide_eq_true (accepted_index h)
    exact ⟨_, congrArg _ (serve_gives h rfl (setPlaneDiagnosis_sets hm h1 hf h50 hp) (Nat.zero_le _)),
      congrArg PlaneSt.diag (State.plane_mod_self _ _ _ hi)⟩
  case samples =>
    obtain ⟨t, hb, ht⟩ := readQueueSamples_clears (c := r.callIn s) (s := s.taking r) hc
    exact ⟨t, congrArg _ (serve_gives h rfl hb k), ht⟩

end Sys2Proof.Machine
end

section
/-! PROOFS. The frames that sources bring and the losses of their signals: what each operation makes of its source. -/
namespace Sys2Proof.Machine

variable {s t : State} {k : Nat}

/-! ### A source under the operations that sources share (04 R182, R185, R189, R193) -/

theorem srcs_of_except (h : t.except (allBut .srcs) = s.except (allBut .srcs)) : t.srcs = s.srcs := by
  simpa [State.except, allBut] using congrArg State.srcs h

theorem judgeMismatch_seen_src (s : State) (d j : Nat) : (s.judgeMismatch false d).src j = s.src j := by
  rw [State.src, srcs_of_except (State.judgeMismatch_false_except (allBut .srcs) rfl s d), State.src]

theorem setFmt_src (s : State) (k : Nat) (f : Fmt) : (s.setFmt k f).src k = { s.src k with fmt := f } := by
  unfold State.setFmt
  dsimp only
  split
  · rename_i h
    rw [← h]
  · rw [each_reads (fun t => t.src k) _ _ _ fun t d => judgeMismatch_seen_src t d k, when_reads (fun t => t.src k) _ _ _ fun t => by simp]
    simp

theorem setFmt_src_other (s : State) (f : Fmt) {j : Nat} (h : j ≠ k) : (s.setFmt k f).src j = s.src j := by
  unfold State.setFmt
  dsimp only
  split
  · rfl
  · rw [each_reads (fun t => t.src j) _ _ _ fun t d => judgeMismatch_seen_src t d j, when_reads (fun t => t.src j) _ _ _ fun t => by simp]
    simp [h]

/-- The ring alone is fitted. -/
theorem fitRing_src (s : State) (k : Nat) : ∃ n, (s.fitRing k).src k = { s.src k with ring := n } := by
  unfold State.fitRing
  dsimp only
  split
  · exact ⟨_, State.src_mod_self _ _ _⟩
  · exact ⟨_, rfl⟩

theorem attach_src (s : State) (k : Nat) (l : List AncPacket) : ∃ p, (s.attach k l).src k = { s.src k with anc := p } := by
  refine ⟨(limitAnc l).1, ?_⟩
  unfold State.attach
  dsimp only
  rw [when_reads (fun t => t.src k) _ _ _ fun t => by simp]
  simp

/-- A whole frame of a source whose buffer has not overflowed becomes its newest one. -/
theorem frameDone_src (pic : Frame) (h : (s.src k).spoiled = false) : (s.frameDone k pic).src k =
    { s.src k with newest := (s.src k).newest + 1, written := (s.src k).written + 1, prev := (s.src k).pic, pic := pic } := by
  simp [State.frameDone, h]

/-- A source that gains its signal has the frames that brought it. -/
theorem gainSource_src (f : Fmt) (frames : Nat) (pic : Frame) (h : (s.src k).signal = false) : ∃ n, (s.gainSource k f frames pic).src k =
    { s.src k with
      fmt := f, signal := true, ever := true, good := 0, written := frames, newest := (s.src k).newest + frames, prev := (s.src k).pic
      pic := pic, ring := n } := by
  unfold State.gainSource
  dsimp only
  rw [if_neg (by simp [h])]
  refine (fitRing_src _ k).imp fun n hn => hn.trans ?_
  rw [State.event_src, State.clearAlarm_src, State.src_mod_self, setFmt_src]
  rfl

/-- A frame of an internal source that has its format, and a signal from its first frame on. -/
theorem produce_src (s : State) (k : Nat) (f : Fmt) (pic : Frame) :
    ((s.produce k f pic).src k).signal = true ∧ ((s.produce k f pic).src k).fmt = f ∧
      ((s.produce k f pic).src k).gen = (s.src k).gen ∧ ((s.produce k f pic).src k).genNext = (s.src k).genNext := by
  unfold State.produce
  split
  · rename_i h
    rw [State.frameDone, State.src_mod_self, setFmt_src]
    dsimp only
    split <;> exact ⟨h, rfl, rfl, rfl⟩
  · rename_i h
    obtain ⟨n, hn⟩ := gainSource_src f 1 pic (Bool.not_eq_true _ ▸ h)
    rw [hn]
    exact ⟨rfl, rfl, rfl, rfl⟩

theorem loseSource_signal (s : State) (k : Nat) : ((s.loseSource k).src k).signal = false := by
  unfold State.loseSource
  split
  · simp
  · rename_i h
    exact Bool.not_eq_true _ ▸ h

theorem loseSource_src_other (s : State) {j : Nat} (h : j ≠ k) : (s.loseSource k).src j = s.src j := by
  unfold State.loseSource
  split <;> simp [h]

/-- A source that loses its signal leaves every domain, and its alarm stands. -/
theorem loseSource_loses (h : (s.src k).signal = true) : ((s.loseSource k).src k).signal = false ∧ ((s.loseSource k).src k).members = 0 ∧
    (s.loseSource k).stands almSrcLoss k = true := by
  unfold State.loseSource
  rw [if_pos h]
  simp

/-! ### Alarms that stand -/

theorem raise_keeps_standing (s : State) (i u : Nat) {j v : Nat} (h : s.stands j v = true) : (s.raise i u).stands j v = true := by
  unfold State.raise
  split
  · exact h
  · rw [State.summaryChanged_stands]
    by_cases e : unitKey j v = unitKey i u
    · simp [State.stands, State.alarm, State.modAlarm, e, tget_tset_self]
    · simpa [State.stands, State.alarm, State.modAlarm, tget_tset_other _ _ _ _ _ e] using h

theorem loseSource_keeps_standing (s : State) (k : Nat) {j v : Nat} (h : s.stands j v = true) : (s.loseSource k).stands j v = true := by
  unfold State.loseSource
  split
  · rw [State.event_stands, State.count_stands]
    exact raise_keeps_standing _ _ _ h
  · exact h

/-! ### Measurement (04 R176, R177; 06 R292) -/

theorem getLsbD_bit_of_lt {i j : Nat} (h : i < 8) : (BitVec.ofNat 8 (2 ^ j)).getLsbD i = decide (j = i) := by
  rw [BitVec.getLsbD_ofNat, Nat.testBit_two_pow]
  simp [h]

/-- The bits that a list sets under a condition. -/
theorem getLsbD_foldl_bits (p : Nat → Bool) {i : Nat} (h : i < 8) (l : List Nat) (b : BitVec 8) :
    (l.foldl (fun b j => if p j then b ||| BitVec.ofNat 8 (2 ^ j) else b) b).getLsbD i = (b.getLsbD i || (l.contains i && p i)) := by
  induction l generalizing b with
  | nil => simp
  | cons j l ih =>
    have step : (if p j then b ||| BitVec.ofNat 8 (2 ^ j) else b).getLsbD i = (b.getLsbD i || (p j && decide (j = i))) := by
      cases p j
      · simp
      · rw [if_pos rfl, BitVec.getLsbD_or, getLsbD_bit_of_lt h, Bool.true_and]
    rw [List.foldl_cons, ih, step]
    by_cases e : j = i
    · subst e
      cases p j <;> simp
    · simp [e, Ne.symm e]

/-- A member is so at the measured period alone. -/
theorem memberStep_period {b p : Bool} {run : Nat} {off : Int} (h : (memberStep b run p off).1 = true) : p = true := by
  cases p
  · cases b <;> simp [memberStep] at h
  · rfl

/-- The sixteenth frame in a row within 6 lines makes a member, and keeps one. -/
theorem memberStep_joins {b : Bool} {run : Nat} {off : Int} (h1 : -96 ≤ off) (h2 : off ≤ 96) (hr : 15 ≤ run) :
    (memberStep b run true off).1 = true := by
  have hn : withinI off (-96) 96 = true := by simp [withinI, h1, h2]
  have hw : withinI off (-128) 128 = true := by
    simp only [withinI, Bool.and_eq_true, decide_eq_true_eq]
    omega
  unfold memberStep
  cases b
  · simp [hn, hr]
  · simp [hw]

/-- A measurement makes a source a member of the domains that it is found to belong to. -/
theorem measured_src (s : State) (k : Nat) (a : Int) (period : Nat) (beyond : List Nat) :
    ((s.measured k a period beyond).src k).periodPs = period ∧
      ∀ i, i < 8 → ((s.measured k a period beyond).src k).members.getLsbD i = (s.measureAgainst (s.src k) a period i).1 := by
  have fitted (u : State) (c : Bool) : ((if c then u.fitRing k else u).src k).periodPs = (u.src k).periodPs ∧
      ((if c then u.fitRing k else u).src k).members = (u.src k).members := by
    obtain ⟨n, hn⟩ := fitRing_src u k
    cases c
    · exact ⟨rfl, rfl⟩
    · rw [if_pos rfl, hn]
      exact ⟨rfl, rfl⟩
  have overrun (u : State) (c : Bool) (l : List Nat) (f : Nat → DstSt → DstSt) :
      (u.when c (fun t => (t.count cntAlignOverrun k 1).each l (fun v d => v.modDst d (f d)))).src k = u.src k :=
    when_reads (fun t => t.src k) _ _ _ fun t =>
      (each_reads (fun t => t.src k) _ _ _ fun _ _ => State.modDst_src _ _ _ _).trans (State.count_src _ _ _ _ _)
  unfold State.measured
  dsimp only
  rw [(fitted _ _).1, (fitted _ _).2, overrun _ _ _ _, State.src_mod_self]
  refine ⟨rfl, fun i hi => ?_⟩
  dsimp only
  rw [getLsbD_foldl_bits _ hi]
  simp [hi]

/-- Against a domain that a source belongs to, it has a signal, and the domain is enabled and has its period. -/
theorem measureAgainst_belongs {x : SrcSt} {a : Int} {period i : Nat} (h : (s.measureAgainst x a period i).1 = true) :
    x.signal = true ∧ s.domainOn (i + 1) = true ∧ periodMatches (s.domain (i + 1)).rate period = true := by
  unfold State.measureAgainst at h
  simp only [Bool.and_eq_true] at h
  obtain ⟨hm, hs⟩ := h
  have hp := memberStep_period hm
  simp only [Bool.and_eq_true] at hp
  obtain ⟨⟨hd, -⟩, hp⟩ := hp
  exact ⟨hs, hd, hp⟩

/-- The sixteenth frame in a row within 6 lines of a domain's references, at its period, belongs to it. -/
theorem measureAgainst_joins {x : SrcSt} {a off : Int} {period i : Nat} (hs : x.signal = true) (hd : s.domainOn (i + 1) = true)
    (hr : (rasterOf x.rasterSeen).isSome = true) (hp : periodMatches (s.domain (i + 1)).rate period = true)
    (ho : off = offsetOf (s.domain (i + 1)).rate x.rasterSeen (a - 1000 * (s.domain (i + 1)).stepDelta)) (h1 : -96 ≤ off) (h2 : off ≤ 96)
    (hn : 15 ≤ x.runs.getD i 0) : (s.measureAgainst x a period i).1 = true := by
  unfold State.measureAgainst
  dsimp only
  rw [hd, hr, hp, Bool.and_self, if_pos rfl, ← ho, hs, Bool.and_self, memberStep_joins h1 h2 hn]
  rfl

/-- A source outside a gang leads itself. -/
theorem rillLead_single (h : isRill k = true → (s.src (k / 4 * 4)).fmt.gang ≠ 4) : s.rillLead k = k := by
  unfold State.rillLead
  rw [if_neg]
  simpa using h

/-- The first active line of a frame of a source has arrived. -/
def State.arrived (s : State) (k ns : Nat) : State :=
  (s.modSrc k (fun x => { x with arrivalNs := ns })).modSrc k (fun x => { x with arrivalNs := ns })

theorem arrived_src (s : State) (k ns : Nat) : (s.arrived k ns).src k = { s.src k with arrivalNs := ns } := by
  simp [State.arrived]

/-- A source outside a gang is measured where it arrives. -/
theorem measureSource_single {ns period : Nat} {beyond : List Nat} (he : isExternal k = true) (hu : s.usable .src k = true)
    (hs : s.inService = true) (hg : isRill k = true → (s.src (k / 4 * 4)).fmt.gang ≠ 4 ∧ (s.src k).fmt.gang ≠ 4) :
    s.measureSource k ns period beyond = (s.arrived k ns).measured k ((ns : Int) * 1000 - s.inputDelayPs k) period beyond := by
  have alone : ((s.src k).fmt.gang == 4 && isRill k && s.latestLane k != k) = false := by
    cases hr : isRill k
    · simp
    · simp [(hg hr).2]
  unfold State.measureSource
  dsimp only
  rw [if_neg (by simp [he, hu, hs]), rillLead_single fun h => (hg h).1, if_neg (by simp [alone])]
  rfl

theorem measureSource_single_src {ns period : Nat} {beyond : List Nat} (he : isExternal k = true) (hu : s.usable .src k = true)
    (hs : s.inService = true) (hg : isRill k = true → (s.src (k / 4 * 4)).fmt.gang ≠ 4 ∧ (s.src k).fmt.gang ≠ 4) :
    ((s.measureSource k ns period beyond).src k).periodPs = period ∧ ∀ i, i < 8 →
      ((s.measureSource k ns period beyond).src k).members.getLsbD i =
        (s.measureAgainst { s.src k with arrivalNs := ns } ((ns : Int) * 1000 - s.inputDelayPs k) period i).1 := by
  have h := measured_src (s.arrived k ns) k ((ns : Int) * 1000 - s.inputDelayPs k) period beyond
  rw [arrived_src] at h
  rw [measureSource_single he hu hs hg]
  exact h

/-! ### Frames of network sources (04 R182, R193, R195) -/

theorem filter_isNone_eq_nil {α : Type} {l : List (Option α)} (h : ∀ x ∈ l, x.isSome = true) : l.filter (·.isNone) = [] := by
  rw [List.filter_eq_nil_iff]
  intro x hx
  simp [Option.isSome_iff_ne_none.mp (h x hx)]

theorem attachNet_src (s : State) (k stamp : Nat) : ∃ w l, (s.attachNet k stamp).src k = { s.src k with ancWait := w, anc := l } := by
  unfold State.attachNet
  dsimp only
  obtain ⟨l, hl⟩ := attach_src (s.modSrc k _) k _
  rw [State.src_mod_self] at hl
  exact ⟨_, l, hl⟩

/-- A whole frame of a network source with a signal, with no line missing, becomes its newest one. -/
theorem netFrame_whole {f : SourceFrame} (hs : (s.src k).signal = true) (hp : (s.src k).spoiled = false) (hv : f.valid = true)
    (hc : f.cut = false) (hr : f.raster = (s.src k).fmt.raster) (hl : ∀ l ∈ s.netLines k f, l.isSome = true) :
    ((s.netFrame k f).src k).newest = (s.src k).newest + 1 ∧ ((s.netFrame k f).src k).written = (s.src k).written + 1 ∧
      ((s.netFrame k f).src k).pic = .taken (s.src k).fmt (fillLines (s.framePicture (s.src k).pic) (s.netLines k f)) := by
  have done (u : State) (pic : Frame) (hu : u.src k = { s.src k with arrivalNs := 0 }) :
      (((u.frameDone k pic).attachNet k f.stamp).src k).newest = (s.src k).newest + 1 ∧
        (((u.frameDone k pic).attachNet k f.stamp).src k).written = (s.src k).written + 1 ∧
        (((u.frameDone k pic).attachNet k f.stamp).src k).pic = pic := by
    obtain ⟨w, l, hw⟩ := attachNet_src (u.frameDone k pic) k f.stamp
    rw [hw, frameDone_src pic (by rw [hu]; exact hp), hu]
    exact ⟨rfl, rfl, rfl⟩
  unfold State.netFrame
  dsimp only
  rw [if_pos hs, filter_isNone_eq_nil hl, if_neg (by simp [hv, hc, hr])]
  exact done _ _ (by simp)

/-- The second good frame in a row brings the signal of a network source, with both frames. -/
theorem netFrame_returns {f : SourceFrame} (hs : (s.src k).signal = false) (hg : 1 ≤ (s.src k).good) (hv : f.valid = true)
    (hc : f.cut = false) (hr : f.raster = (s.src k).fmt.raster) (hl : ∀ l ∈ s.netLines k f, l.isSome = true) :
    ((s.netFrame k f).src k).signal = true ∧ ((s.netFrame k f).src k).newest = (s.src k).newest + 2 := by
  have returns (u : State) (pic : Frame) (hu : u.src k = { s.src k with arrivalNs := 0 }) :
      (((u.returning k (s.src k).fmt true pic).attachNet k f.stamp).src k).signal = true ∧
        (((u.returning k (s.src k).fmt true pic).attachNet k f.stamp).src k).newest = (s.src k).newest + 2 := by
    obtain ⟨w, l, hw⟩ := attachNet_src (u.returning k (s.src k).fmt true pic) k f.stamp
    obtain ⟨n, hn⟩ := gainSource_src (s := u) (s.src k).fmt 2 pic (by rw [hu]; exact hs)
    have e : u.returning k (s.src k).fmt true pic = u.gainSource k (s.src k).fmt 2 pic := by
      unfold State.returning
      simp [hu, hg]
    rw [hw, e, hn, hu]
    exact ⟨rfl, rfl⟩
  unfold State.netFrame
  dsimp only
  rw [if_neg (by simp [hs]), filter_isNone_eq_nil hl, if_pos (by simp [hv, hc, hr])]
  exact returns _ _ (by simp)

/-- A network source is external, and no Rill input. -/
theorem sourceFrame_net {f : SourceFrame} (hk : isNet k = true) (hu : s.usable .src k = true) (hs : s.inService = true) :
    s.sourceFrame k f = s.netFrame k f := by
  simp only [isNet, Bool.and_eq_true, decide_eq_true_eq] at hk
  have he : isExternal k = true := decide_eq_true hk.2
  have hr : isRill k = false := decide_eq_false (Nat.not_lt.mpr hk.1)
  unfold State.sourceFrame
  rw [if_neg (by simp [he, hu, hs]), if_neg (by simp [hr])]

/-! ### Frames of Rill inputs (04 R182, R197 to R201) -/

theorem sourceFrame_rill {f : SourceFrame} (hk : isRill k = true) (hu : s.usable .src k = true) (hs : s.inService = true) :
    s.sourceFrame k f = s.rillFrame k f := by
  have he : isExternal k = true := decide_eq_true (Nat.lt_trans (of_decide_eq_true hk) (by decide))
  unfold State.sourceFrame
  rw [if_neg (by simp [he, hu, hs]), if_pos hk]

/-- What the frames of a source have brought it: its signal, the numbers of frames, and whether the next one is discarded. -/
def SrcSt.brought (x : SrcSt) : Bool × Nat × Nat × Bool := (x.signal, x.newest, x.written, x.spoiled)

theorem modSrc_brought (s : State) (j k : Nat) (g : SrcSt → SrcSt) (h : (g (s.src j)).brought = (s.src j).brought) :
    ((s.modSrc j g).src k).brought = (s.src k).brought := by
  by_cases e : k = j
  · rw [e, State.src_mod_self, h]
  · rw [State.src_mod_other _ _ _ _ e]

theorem setFmt_brought (s : State) (j k : Nat) (f : Fmt) : ((s.setFmt j f).src k).brought = (s.src k).brought := by
  by_cases e : k = j
  · rw [e, setFmt_src]
    rfl
  · rw [setFmt_src_other _ _ e]

/-- A payload ID brings no frame. -/
theorem takeVpid_brought (s : State) (j k : Nat) (f : SourceFrame) : ((s.takeVpid j f).src k).brought = (s.src k).brought := by
  have counted (u : State) (c : Bool) : (u.when c (fun t => t.count cntVpidChange j 1)).src k = u.src k :=
    when_reads (fun t => t.src k) _ _ _ fun t => State.count_src _ _ _ _ _
  unfold State.takeVpid
  dsimp only
  repeat' split
  all_goals simp only [State.event_src, State.raise_src, State.clearAlarm_src, counted]
  all_goals exact modSrc_brought s j k _ rfl

theorem dissolve_brought (s : State) (j k : Nat) : ((s.dissolve j).src k).brought = (s.src k).brought := by
  have cleared := each_reads (fun t => (t.src k).brought) s [0, 1, 2, 3] (fun t m => (t.clearAlarm almLinkGroup (j + m)).modSrc (j + m)
    (fun x => { x with linkGood := 0, fresh := false })) fun t m => (modSrc_brought _ _ _ _ rfl).trans (by rw [State.clearAlarm_src])
  unfold State.dissolve
  dsimp only
  split
  · exact (setFmt_brought _ _ _ _).trans cleared
  · exact cleared

theorem attach_brought (s : State) (k : Nat) (l : List AncPacket) : ((s.attach k l).src k).brought = (s.src k).brought := by
  obtain ⟨p, hp⟩ := attach_src s k l
  rw [hp]
  rfl

/-- A whole frame brings one frame, where the last one has not been spoiled. -/
theorem frameDone_brought (pic : Frame) (h : (s.src k).spoiled = false) : ((s.frameDone k pic).src k).brought =
    ((s.src k).signal, (s.src k).newest + 1, (s.src k).written + 1, false) := by
  rw [frameDone_src pic h, SrcSt.brought, h]

theorem singleFrame_whole {f : SourceFrame} {same : Bool} (hs : (s.src k).signal = true) (hp : (s.src k).spoiled = false) :
    ((s.singleFrame k f true same).src k).brought = (true, (s.src k).newest + 1, (s.src k).written + 1, false) := by
  unfold State.singleFrame
  dsimp only
  rw [if_pos hs, if_neg (by simp)]
  split
  · rw [attach_brought, setFmt_brought, frameDone_brought _ hp, hs]
  · have e : ((s.setFmt k (s.rillFormat k f)).src k) = { s.src k with fmt := s.rillFormat k f } := setFmt_src _ _ _
    rw [attach_brought, frameDone_brought _ (by rw [e]; exact hp), e, hs]

/-- A whole frame of a Rill input outside a gang, with a signal, becomes its newest one. -/
theorem rillFrame_whole {f : SourceFrame} {u : State} (hs : (s.src k).signal = true) (hp : (s.src k).spoiled = false)
    (hu : u = (s.takeVpid k f).modSrc k (fun y => { y with lane := f.lines.map (·.getD []), laneAnc := f.anc.filter keptAnc, arrivalNs := 0 }))
    (hw : u.groupWanted (k / 4 * 4) = false) (hv : f.valid = true) (hc : f.cut = false) :
    ((s.rillFrame k f).src k).newest = (s.src k).newest + 1 ∧ ((s.rillFrame k f).src k).written = (s.src k).written + 1 := by
  have kept : ((u.dissolve (k / 4 * 4)).src k).brought = (s.src k).brought := by
    rw [dissolve_brought, hu, modSrc_brought _ _ _ _ rfl, takeVpid_brought]
  simp only [SrcSt.brought, Prod.mk.injEq] at kept
  obtain ⟨ks, kn, kw, kp⟩ := kept
  have frame (same : Bool) := singleFrame_whole (f := f) (same := same) (ks.trans hs) (kp.trans hp)
  simp only [SrcSt.brought, Prod.mk.injEq, kn, kw] at frame
  unfold State.rillFrame
  dsimp only
  rw [← hu, if_neg (by simp [hw]), hv, hc]
  obtain ⟨-, hn, hw, -⟩ := frame (f.vpid == (s.src k).vpidLast && f.raster == (s.src k).rasterLast)
  exact ⟨hn, hw⟩

/-- What each step of a run brings about, and no other step undoes, holds after the run. -/
theorem each_settles {α : Type} {P : α → State → Prop} {f : State → α → State} (sets : ∀ t x, P x (f t x))
    (keeps : ∀ t x y, P y t → P y (f t x)) (s : State) (l : List α) : ∀ x ∈ l, P x (s.each l f) := by
  have stays (l : List α) (t : State) (y : α) (h : P y t) : P y (t.each l f) := by
    induction l generalizing t with
    | nil => exact h
    | cons x l ih => exact ih _ (keeps t x y h)
  induction l generalizing s with
  | nil => exact fun x hx => absurd hx List.not_mem_nil
  | cons x l ih =>
    intro y hy
    rcases List.mem_cons.mp hy with rfl | hy
    · exact stays l _ _ (sets s _)
    · exact ih (f s x) y hy

/-- A lane of a gang is without a signal, and the alarm of its group stands. -/
def State.linkLost (s : State) (j : Nat) : Prop := (s.src j).signal = false ∧ s.stands almLinkGroup j = true

/-- One lane of an inconsistent group loses its signal. -/
def State.loseLink (s : State) (j : Nat) : State :=
  ((s.raise almLinkGroup j).loseSource j).modSrc j (fun x => { x with linkGood := 0, fresh := false })

theorem loseLink_loses (s : State) (j : Nat) : (s.loseLink j).linkLost j := by
  refine ⟨?_, loseSource_keeps_standing _ _ (State.raise_stands_self _ _ _)⟩
  rw [State.loseLink, State.src_mod_self]
  exact loseSource_signal _ _

theorem loseLink_keeps (s : State) (j m : Nat) (h : s.linkLost m) : (s.loseLink j).linkLost m := by
  obtain ⟨hs, ha⟩ := h
  refine ⟨?_, loseSource_keeps_standing _ _ (raise_keeps_standing _ _ _ ha)⟩
  by_cases e : m = j
  · rw [e]
    exact (loseLink_loses s j).1
  · rw [State.loseLink, State.src_mod_other _ _ _ _ e, loseSource_src_other _ e, State.raise_src]
    exact hs

/-- A frame of a lane whose group is inconsistent leaves its four sources without a signal. -/
theorem rillFrame_inconsistent {f : SourceFrame} {u : State}
    (hu : u = (s.takeVpid k f).modSrc k (fun y => { y with lane := f.lines.map (·.getD []), laneAnc := f.anc.filter keptAnc, arrivalNs := 0 }))
    (hw : u.groupWanted (k / 4 * 4) = true) (hg : u.groupGood (k / 4 * 4) = false) :
    ∀ m, m < 4 → (s.rillFrame k f).linkLost (k / 4 * 4 + m) := by
  have e : s.rillFrame k f = u.each [0, 1, 2, 3] (fun t m => t.loseLink (k / 4 * 4 + m)) := by
    unfold State.rillFrame State.laneFrame
    dsimp only
    rw [← hu, if_pos hw, if_pos (by simp [hg])]
    rfl
  intro m hm
  rw [e]
  exact each_settles (P := fun m t => t.linkLost (k / 4 * 4 + m)) (fun t m => loseLink_loses t _) (fun t m n h => loseLink_keeps t _ _ h)
    u [0, 1, 2, 3] m (by simp; omega)

/-! ### Losses (04 R189, R190) -/

theorem cutFrame_src (s : State) (k missing j : Nat) (got : Picture) : (s.cutFrame k missing got).src j = s.src j := by
  rw [State.src, srcs_of_except (State.cutFrame_except (allBut .srcs) rfl s k missing got), State.src]

theorem loseAin_src (s : State) (k j : Nat) : (s.loseAin k).src j = s.src j := by
  rw [State.src, srcs_of_except (State.loseAin_except (allBut .srcs) rfl rfl rfl s k), State.src]

/-- The alarm of a source does not follow those of its audio. -/
theorem loseAin_stands_srcLoss (s : State) (n : Nat) {k : Nat} (h : k < 128) : (s.loseAin n).stands almSrcLoss k = s.stands almSrcLoss k := by
  refine loseAin_stands s n ?_ ?_
  · simp only [unitKey, almSrcLoss, almAudioLoss]
    omega
  · simp only [unitKey, almSrcLoss, almAudioSlip]
    omega

/-- A Rill input outside a gang loses its own signal. -/
theorem signalLoss_single {missing : Nat} {got : Picture} (h : (s.src (k / 4 * 4)).fmt.gang ≠ 4) (hk : (s.src k).fmt.gang ≠ 4) :
    s.signalLoss k missing got = ((s.dropLane k).cutFrame k missing got).loseSource k := by
  unfold State.signalLoss
  dsimp only
  rw [rillLead_single fun _ => h, if_neg (by simp [hk])]

/-- A Rill input outside a gang that is lost leaves every domain, with its alarm; its audio goes with it. -/
theorem inputLost_single {missing : Nat} {got : Picture} (hr : isRill k = true) (h : (s.src (k / 4 * 4)).fmt.gang ≠ 4)
    (hk : (s.src k).fmt.gang ≠ 4) (hs : (s.src k).signal = true) :
    ((s.inputLost k missing got).src k).signal = false ∧ ((s.inputLost k missing got).src k).members = 0 ∧
      (s.inputLost k missing got).stands almSrcLoss k = true := by
  have hlt : k < 128 := of_decide_eq_true hr
  have hn : isNet k = false := by
    simp only [isNet, Bool.and_eq_false_iff, decide_eq_false_iff_not]
    omega
  have lost := loseSource_loses (s := (s.dropLane k).cutFrame k missing got) (k := k) (by
    rw [cutFrame_src]
    simpa [State.dropLane] using hs)
  unfold State.inputLost
  dsimp only
  rw [rillLead_single fun _ => h, hr, hs, hn, signalLoss_single h hk, Bool.and_self, if_pos rfl, if_neg (by simp),
    each_reads (fun t => t.src k) _ _ _ fun t n => loseAin_src t n k,
    each_reads (fun t => t.stands almSrcLoss k) _ _ _ fun t n => loseAin_stands_srcLoss t n hlt]
  exact lost

theorem time_of_except (h : t.except (allBut .time) = s.except (allBut .time)) : t.time = s.time := by
  simpa [State.except, allBut] using congrArg State.time h

/-- A handover may hold a lost source; nothing else of it changes. -/
theorem holdLost_reads {β : Type} (g : State → β) (h : ∀ t x, g { t with levee := x } = g t) (s : State) (k : Nat) : g (s.holdLost k) = g s := by
  unfold State.holdLost
  split
  · exact h _ _
  · rfl

/-- A network source without packets for 4 ms is lost at that instant, and leaves every domain with its alarm. -/
theorem flowTimeout_loses {got : Picture} (hk : isNet k = true) (hs : (s.src k).signal = true) :
    ((s.flowTimeout k got).src k).signal = false ∧ ((s.flowTimeout k got).src k).members = 0 ∧
      (s.flowTimeout k got).stands almSrcLoss k = true ∧ (s.flowTimeout k got).time = (s.advanceTo ((s.src k).lastPacketNs + 4000000)).time := by
  have lost (u : State) (n : Nat) (hu : u.src k = s.src k) := loseSource_loses (s := u.cutFrame k n got) (k := k) (by rwa [cutFrame_src, hu])
  have timed (u : State) (n : Nat) : ((u.cutFrame k n got).loseSource k).time = u.time := time_of_except (by
    rw [State.loseSource_except _ rfl rfl, State.cutFrame_except _ rfl])
  unfold State.flowTimeout
  rw [if_pos (by simp [hk, hs]), holdLost_reads (fun t => t.src k) fun _ _ => rfl, holdLost_reads (fun t => t.stands almSrcLoss k) fun _ _ => rfl,
    holdLost_reads (fun t => t.time) fun _ _ => rfl, timed]
  obtain ⟨h1, h2, h3⟩ := lost (s.advanceTo ((s.src k).lastPacketNs + 4000000)) (s.linesLeft k (s.src k).lastPacketNs) (State.advanceTo_src _ _ _)
  exact ⟨h1, h2, h3, rfl⟩

/-! ### Generators and recirculation (03 R131, R151) -/

/-- What changes no mode and no timing domain leaves the domains that run, and the units that serve internal sources. -/
theorem running_of_key (h : t.key = s.key) : (∀ d, t.domainOn d = s.domainOn d) ∧ t.internalRun = s.internalRun := by
  obtain ⟨hc, hb, -, -⟩ := ModeSt.regs_eq (regs_of_key h)
  refine ⟨fun d => ?_, ?_⟩
  · rw [State.domainOn, domain_of_key h, State.domainOn]
  · simp only [State.internalRun, State.coresRun, State.compRuns, State.runMode, hc, hb]

/-- The end of a generator's frame leaves its settings. -/
theorem generated_settings (s : State) (k : Nat) :
    ((s.generated k).src k).gen = (s.src k).gen ∧ ((s.generated k).src k).genNext = (s.src k).genNext := by
  unfold State.generated
  dsimp only
  split
  · obtain ⟨-, -, hg, hn⟩ := produce_src s k (s.src k).fmt (s.src k).making
    exact ⟨hg, hn⟩
  · exact ⟨rfl, rfl⟩

theorem generated_idle (h : (s.src k).making = .empty) : s.generated k = s := by
  unfold State.generated
  dsimp only
  rw [if_neg (by simp [h])]

/-- The frame that a generator was producing gives it a signal. -/
theorem generated_produces (hm : (s.src k).making ≠ .empty) (hf : frameFmt (s.src k).making = (s.src k).fmt)
    (hd : s.domainOn (s.src k).gen.domain = true) (hi : s.internalRun = true) : s.generated k = s.produce k (s.src k).fmt (s.src k).making := by
  unfold State.generated
  dsimp only
  rw [if_pos (by simp [hm, hf, hd, hi])]

/-- The next frame of a generator begins, with the setting that waited. -/
theorem generatorFrame_begins {u : State} {g : GenCfg} (hk : isGenerator k = true) (hu : s.usable .src k = true) (he : u = s.generated k)
    (hg : g = (s.src k).genNext.getD (s.src k).gen) (hf : (u.src k).fmt.raster ≠ 0) (hp : g.pattern ≠ 0xFF)
    (hd : s.domainOn g.domain = true) (hi : s.internalRun = true) : (s.generatorFrame k).src k =
      { u.src k with gen := g, genNext := none, making := .pattern (u.src k).fmt g.pattern (u.src k).newest } := by
  obtain ⟨sg, sn⟩ := generated_settings s k
  obtain ⟨rd, ri⟩ := running_of_key (State.generated_key s k)
  rw [← he] at sg sn rd ri
  rw [← sg, ← sn] at hg
  have runs : (u.modSrc k (fun x => { x with gen := x.genNext.getD x.gen, genNext := none })).generates k = true := by
    rw [← rd] at hd
    rw [← ri] at hi
    unfold State.generates
    simp only [State.src_mod_self, ← hg, Bool.and_eq_true, bne_iff_ne]
    exact ⟨⟨⟨hf, hp⟩, hd⟩, hi⟩
  unfold State.generatorFrame
  dsimp only
  rw [if_neg (by simp [hk, hu]), ← he, if_pos runs, State.src_mod_self, State.src_mod_self, ← hg]

/-- Pattern 0xFF leaves a generator without a signal. -/
theorem generatorFrame_ends (hk : isGenerator k = true) (hu : s.usable .src k = true)
    (hp : ((s.src k).genNext.getD (s.src k).gen).pattern = 0xFF) : ((s.generatorFrame k).src k).signal = false := by
  obtain ⟨sg, sn⟩ := generated_settings s k
  have rests : ((s.generated k).modSrc k (fun x => { x with gen := x.genNext.getD x.gen, genNext := none })).generates k = false := by
    unfold State.generates
    simp [sg, sn, hp]
  unfold State.generatorFrame
  dsimp only
  rw [if_neg (by simp [hk, hu]), if_neg (by simp [rests])]
  exact loseSource_signal _ _

/-- A recirculated frame gives its source a signal in the format of its destination. -/
theorem recirculate_src {f : Fmt} (hk : k < 64) (hr : s.recirc = true) (hu : s.usable .src (1024 + k) = true) (hi : s.internalRun = true)
    (hd : s.domainOn (s.dst (1024 + k)).domain = true) (hf : (s.dst (1024 + k)).fmt.raster ≠ 0)
    (he : f = s.outFmt (1024 + k) (frameFmt (s.frameOn (1024 + k))).colour) :
    ((s.recirculate k).src (1024 + k)).signal = true ∧
      ((s.recirculate k).src (1024 + k)).fmt = { f with colour := resolveColour f.colour 0x11 } := by
  subst he
  unfold State.recirculate
  dsimp only
  rw [if_neg (by simp [hk, hr, hu]), if_pos (by simp [hi, hd, hf])]
  obtain ⟨p, hp⟩ := attach_src _ (1024 + k) (s.dst (1024 + k)).anc
  rw [hp]
  obtain ⟨hs, hf, -, -⟩ := produce_src s (1024 + k) _ _
  exact ⟨hs, hf⟩

/-! ### The obligation -/

/-- Settles O38, each command by what it makes of its source. -/
theorem sourceCommandsComplete : Obligations.SourceCommandsComplete := by
  refine ⟨fun k arrival period beyond s he hu hs hg => ?measure, fun k f s hk hu hs hl hp hv hc hr hn => ?net,
    fun k f s hk hu hs hl hg hv hc hr hn => ?returns, fun k f s u hk hu hs hl hp he hw hv hc => ?rill,
    fun k f s u hk hu hs he hw hg => ?inconsistent, fun k missing got s hk hl hg hs => ⟨_, rfl, inputLost_single hk hl hg hs⟩,
    fun k got s hk hs => ⟨_, rfl, flowTimeout_loses hk hs⟩, fun k s g hk hu hg hm hf hp hd hi => ?begin,
    fun k s g hk hu hg hm hm' hd' hf hp hd hi => ?next, fun k s hk hu hp => ⟨_, rfl, generatorFrame_ends hk hu hp⟩,
    fun k s f hk hr hu hi hd hf he => ⟨_, rfl, recirculate_src hk hr hu hi hd hf he⟩⟩
  case measure =>
    obtain ⟨hp, hm⟩ := measureSource_single_src (ns := arrival) (period := period) (beyond := beyond) he hu hs hg
    refine ⟨_, rfl, hp, fun i hi hb => ?_, fun i off hi hx hd hr hp ho h1 h2 hn => ?_⟩
    · exact measureAgainst_belongs ((hm i hi).symm.trans hb)
    · exact (hm i hi).trans (measureAgainst_joins hx hd hr hp ho h1 h2 hn)
  case net =>
    refine ⟨_, rfl, ?_⟩
    rw [sourceFrame_net hk hu hs]
    exact netFrame_whole hl hp hv hc hr hn
  case returns =>
    refine ⟨_, rfl, ?_⟩
    rw [sourceFrame_net hk hu hs]
    exact netFrame_returns hl hg hv hc hr hn
  case rill =>
    refine ⟨_, rfl, ?_⟩
    rw [sourceFrame_rill hk hu hs]
    exact rillFrame_whole hl hp he hw hv hc
  case inconsistent =>
    refine ⟨_, rfl, ?_⟩
    rw [sourceFrame_rill hk hu hs]
    exact rillFrame_inconsistent he hw hg
  case begin =>
    have h := generatorFrame_begins hk hu (generated_idle hm).symm hg hf hp hd hi
    refine ⟨_, rfl, ?_⟩
    rw [h]
    exact ⟨rfl, rfl, rfl⟩
  case next =>
    obtain ⟨hs, hr, -, -⟩ := produce_src s k (s.src k).fmt (s.src k).making
    have h := generatorFrame_begins hk hu (generated_produces hm hm' hd' hi).symm hg (by rwa [hr]) hp hd hi
    refine ⟨_, rfl, ?_⟩
    rw [h]
    exact ⟨rfl, rfl, hs⟩

end Sys2Proof.Machine
end

section
/-! PROOFS. Audio inputs: their converters, the loss of their activity, non-audio payload and the clocks of their ports. -/
namespace Sys2Proof.Machine

variable {s : State} {k : Nat}

/-! ### Keys of counters and alarms -/

theorem unitKey_ne {i j u v : Nat} (hu : u < 4294967296) (hv : v < 4294967296) (h : i ≠ j) : unitKey i u ≠ unitKey j v := by
  unfold unitKey
  omega

/-- An event leaves every counter of a unit but that of the events lost. -/
theorem event_cnt_unit (s : State) (e : Ev) {i u : Nat} (hi : i ≠ cntEventsLost) (hu : u < 4294967296) :
    (s.event e).cnt i u = s.cnt i u :=
  State.event_cnt s e i u (unitKey_ne hu (by decide) hi)

/-! ### What the operations on outputs and alarms leave of the inputs (05 R232, R234, R247) -/

theorem stopAouts_ain (s : State) (k fill j : Nat) : (s.stopAouts k fill).ain j = s.ain j :=
  each_reads (fun t => t.ain j) s _ _ fun _ _ => rfl

theorem stopAouts_cnt (s : State) (k fill i u : Nat) : (s.stopAouts k fill).cnt i u = s.cnt i u :=
  each_reads (fun t => t.cnt i u) s _ _ fun _ _ => rfl

theorem startAouts_ain (s : State) (k j : Nat) : (s.startAouts k).ain j = s.ain j :=
  each_reads (fun t => t.ain j) s _ _ fun _ _ => rfl

theorem startAouts_stands (s : State) (k i u : Nat) : (s.startAouts k).stands i u = s.stands i u :=
  each_reads (fun t => t.stands i u) s _ _ fun _ _ => rfl

theorem leaveSlip_ain (s : State) (k j : Nat) : (s.leaveSlip k).ain j = s.ain j := by
  unfold State.leaveSlip
  split
  · rw [State.event_ain, State.clearAlarm_ain]
  · rfl

theorem leaveSlip_cnt (s : State) (k : Nat) {i u : Nat} (hi : i ≠ cntEventsLost) (hu : u < 4294967296) :
    (s.leaveSlip k).cnt i u = s.cnt i u := by
  unfold State.leaveSlip
  split
  · rw [event_cnt_unit _ _ hi hu, State.clearAlarm_cnt]
  · rfl

theorem judgeNonAudio_ain (s : State) (k j : Nat) : (s.judgeNonAudio k).ain j = s.ain j := by
  unfold State.judgeNonAudio
  dsimp only
  repeat' split
  all_goals simp

/-- An input that is present has a number of the block. -/
theorem lt_of_ainPresent (h : s.ainPresent k = true) : k < 16384 := by
  refine Nat.lt_of_not_le fun hk => ?_
  have hp : portOfAin k = none := by
    unfold portOfAin
    rw [if_neg (by omega), if_neg (by omega), if_neg (by omega)]
  have hn : ¬ k < 2048 := by omega
  have hm : ¬ k < 16384 := by omega
  simp [State.ainPresent, hp, hn, hm] at h

/-! ### An input that loses its signal (05 R233, R234) -/

theorem loseAin_noSignal (s : State) (k : Nat) :
    ((s.loseAin k).ain k).state = .noSignal ∧ ((s.loseAin k).ain k).ratio = (s.ain k).ratio := by
  unfold State.loseAin
  dsimp only
  split
  · rename_i h
    rw [State.ain_mod_self]
    exact ⟨h, rfl⟩
  · rw [stopAouts_ain, State.event_ain, State.count_ain, State.raise_ain, State.ain_mod_self, leaveSlip_ain]
    exact ⟨rfl, rfl⟩

theorem loseAin_ain_other (s : State) {j : Nat} (h : j ≠ k) : (s.loseAin k).ain j = s.ain j := by
  unfold State.loseAin
  dsimp only
  split
  · rw [State.ain_mod_other _ _ _ _ h]
  · rw [stopAouts_ain, State.event_ain, State.count_ain, State.raise_ain, State.ain_mod_other _ _ _ _ h, leaveSlip_ain]

/-- The loss of a signal that an input had is reported by its alarm, and counted. -/
theorem loseAin_reports (hk : k < 16384) (h : (s.ain k).state ≠ .noSignal) :
    (s.loseAin k).stands almAudioLoss k = true ∧ (s.loseAin k).cnt cntAudioLoss k = min counterMax (s.cnt cntAudioLoss k + 1) := by
  have hu : k < 4294967296 := by omega
  unfold State.loseAin
  dsimp only
  rw [if_neg h, stopAouts_stands, stopAouts_cnt, State.event_stands, event_cnt_unit _ _ (by decide) hu, State.count_stands,
    State.count_cnt_self, State.raise_cnt, State.modAin_cnt, leaveSlip_cnt _ _ (by decide) hu]
  exact ⟨State.raise_stands_self _ _ _, rfl⟩

/-- Activity that is missing costs a present input the signal that it had. -/
theorem activityLoss_loses (buffered : Nat) (hp : s.ainPresent k = true) (h : (s.ain k).state ≠ .noSignal) :
    ∃ t, execAudioActivityLoss k buffered s = .next t ∧ (t.ain k).state = .noSignal ∧ t.stands almAudioLoss k = true ∧
      t.cnt cntAudioLoss k = min counterMax (s.cnt cntAudioLoss k + 1) := by
  unfold execAudioActivityLoss
  rw [if_pos hp]
  exact ⟨_, rfl, (loseAin_noSignal _ _).1, loseAin_reports (lt_of_ainPresent hp) (by rwa [State.ain_mod_self])⟩

/-! ### Measurements of a converter (05 R231, R234) -/

/-- The state in which a measurement of an input has been taken down, before what it brings about. -/
def State.ainMeasured (s : State) (k : Nat) (ratio : Int) (fill : Nat) : State :=
  s.modAin k (fun x => { x with ratio := ratio, fill := fillOf x.state fill })

theorem ainMeasured_ain (s : State) (k : Nat) (ratio : Int) (fill : Nat) :
    (s.ainMeasured k ratio fill).ain k = { s.ain k with ratio := ratio, fill := fillOf (s.ain k).state fill } :=
  State.ain_mod_self _ _ _

theorem ainMeasured_ainFed (s : State) (k : Nat) (ratio : Int) (fill j : Nat) : (s.ainMeasured k ratio fill).ainFed j = s.ainFed j := rfl

theorem withinI_of_le {v a b c d : Int} (ha : a ≤ c) (hb : d ≤ b) (h1 : c ≤ v) (h2 : v ≤ d) : withinI v a b = true := by
  simp only [withinI, Bool.and_eq_true, decide_eq_true_eq]
  omega

/-- The measurement of an input that nothing feeds finds no signal. -/
theorem measureAin_unfed (ratio phase : Int) (fill : Nat) (hp : s.ainPresent k = true) (ho : s.ainOdd k = false)
    (hs : s.inService = true) (hf : s.ainFed k = false) : s.measureAin k ratio phase fill = (s.ainMeasured k ratio fill).loseAin k := by
  have hf' := (ainMeasured_ainFed s k ratio fill k).trans hf
  unfold State.measureAin
  dsimp only
  rw [if_neg (by simp [hp, ho, hs])]
  exact if_pos (by rw [State.ainMeasured] at hf'; simp [hf'])

/-- The second measurement in a row of an input that is fed takes it out of No signal. -/
theorem measureAin_gains {ratio : Int} (phase : Int) (fill : Nat) (hp : s.ainPresent k = true) (ho : s.ainOdd k = false)
    (hs : s.inService = true) (hf : s.ainFed k = true) (hn : (s.ain k).state = .noSignal) (hb : 1 ≤ (s.ain k).present)
    (h1 : -1000000 ≤ ratio) (h2 : ratio ≤ 1000000) : s.measureAin k ratio phase fill = (s.ainMeasured k ratio fill).gainAin k ratio := by
  have hf' := (ainMeasured_ainFed s k ratio fill k).trans hf
  have hw : withinI ratio (-10000000) 10000000 = true := withinI_of_le (by decide) (by decide) h1 h2
  have ha := ainMeasured_ain s k ratio fill
  rw [State.ainMeasured] at hf' ha
  unfold State.measureAin
  dsimp only
  rw [if_neg (by simp [hp, ho, hs]), if_neg (by simp [hf', hw]), ha]
  dsimp only
  rw [hn]
  exact if_pos hb

/-- An input that leaves No signal within 1,000 ppm is tracked, and its alarm ends. -/
theorem gainAin_tracks {ratio : Int} (h1 : -1000000 ≤ ratio) (h2 : ratio ≤ 1000000) :
    ((s.gainAin k ratio).ain k).state = .tracking ∧ (s.gainAin k ratio).stands almAudioLoss k = false := by
  have hw : withinI ratio (-1000000) 1000000 = true := withinI_of_le (by decide) (by decide) h1 h2
  unfold State.gainAin
  dsimp only
  rw [if_pos hw, startAouts_ain, startAouts_stands, State.ain_mod_self, State.modAin_stands, State.modAin_stands, State.event_stands]
  exact ⟨rfl, State.clearAlarm_stands_self _ _ _⟩

/-- The tenth measurement in a row within 1 ppm locks a converter that tracks. -/
theorem measureAin_locks {ratio phase : Int} (fill : Nat) (hp : s.ainPresent k = true) (ho : s.ainOdd k = false)
    (hs : s.inService = true) (hf : s.ainFed k = true) (ht : (s.ain k).state = .tracking) (hr : 9 ≤ (s.ain k).lockRun)
    (h1 : -1000 ≤ ratio) (h2 : ratio ≤ 1000) (h3 : -8 ≤ phase) (h4 : phase ≤ 8) :
    ((s.measureAin k ratio phase fill).ain k).state = .locked := by
  have hf' := (ainMeasured_ainFed s k ratio fill k).trans hf
  have hw : withinI ratio (-10000000) 10000000 = true := withinI_of_le (by decide) (by decide) h1 h2
  have hl : withinI ratio (-1000) 1000 = true := withinI_of_le (by decide) (by decide) h1 h2
  have hq : slips ratio phase = false := by
    simp [slips, withinI_of_le (a := -1000000) (b := 1000000) (by decide) (by decide) h1 h2,
      withinI_of_le (a := -8) (b := 8) (by decide) (by decide) h3 h4]
  have ha := ainMeasured_ain s k ratio fill
  rw [State.ainMeasured] at hf' ha
  unfold State.measureAin
  dsimp only
  rw [if_neg (by simp [hp, ho, hs]), if_neg (by simp [hf', hw]), ha]
  dsimp only
  rw [ht]
  dsimp only
  rw [if_neg (by simp [hq]), if_pos hl, State.ain_mod_self, if_pos (by omega)]

/-! ### Slips (05 R232) -/

/-- The buffer of a converter in Slip or Locked that reaches a limit begins again at its middle, and the slip is counted. -/
theorem slipAin_eq (h : (s.ain k).state = .slip ∨ (s.ain k).state = .locked) : s.slipAin k =
    (s.modAin k (fun x => { x with fill := 8, lockRun := 0, state := if (s.ain k).state = .locked then .tracking else x.state })).count
      cntAudioSlip k 1 :=
  if_pos (by simpa using h)

theorem slipAin_slips (h : (s.ain k).state = .slip ∨ (s.ain k).state = .locked) :
    ((s.slipAin k).ain k).fill = 8 ∧ ((s.ain k).state = .locked → ((s.slipAin k).ain k).state = .tracking) ∧
      ((s.ain k).state = .slip → ((s.slipAin k).ain k).state = .slip) ∧
      (s.slipAin k).cnt cntAudioSlip k = min counterMax (s.cnt cntAudioSlip k + 1) := by
  rw [slipAin_eq h, State.count_ain, State.ain_mod_self, State.count_cnt_self, State.modAin_cnt]
  exact ⟨rfl, fun hl => if_pos hl, fun hs => (if_neg (by simp [hs])).trans hs, rfl⟩

/-! ### Non-audio payload (05 R247) -/

/-- A present pair that carries audio becomes non-audio; its channel status is kept apart from its preambles. -/
theorem nonaudioOn_begins {n : Nat} (dataType : Nat) (hp : s.ainPresent (2 * n) = true) (h : (s.ain (2 * n)).nonaudio = false) :
    ((s.nonaudioOn n dataType).ain (2 * n)).nonaudio = true ∧
      ((s.nonaudioOn n dataType).ain (2 * n)).csNonaudio = decide (dataType = 0xFFFF) := by
  unfold State.nonaudioOn
  dsimp only
  rw [if_neg (by simp [hp, h]), each_reads (fun t => t.ain (2 * n)) _ _ _ fun t j => judgeNonAudio_ain t j _, State.event_ain,
    State.count_ain, State.ain_mod_self]
  exact ⟨rfl, rfl⟩

theorem nonaudioOff_ends {n : Nat} (h : (s.ain (2 * n)).nonaudio = true) : ((s.nonaudioOff n).ain (2 * n)).nonaudio = false := by
  unfold State.nonaudioOff
  rw [if_pos h]
  dsimp only
  rw [each_reads (fun t => t.ain (2 * n)) _ _ _ fun t j => judgeNonAudio_ain t j _, State.event_ain, State.ain_mod_self]

/-! ### Port clocks (05 R224) -/

theorem loseAin_keeps_noSignal (s : State) (k j : Nat) (h : (s.ain j).state = .noSignal) : ((s.loseAin k).ain j).state = .noSignal := by
  by_cases e : j = k
  · rw [e]
    exact (loseAin_noSignal s k).1
  · rw [loseAin_ain_other s e]
    exact h

/-- A follower whose frames have the wrong number of bits loses its clock, and with it every input of its port. -/
theorem portClockBad_loses {p bits : Nat} (hp : p < 32) (he : (s.aport p).cfg.enable = 1) (hr : (s.aport p).cfg.role = 0)
    (hc : (s.aport p).clockBad = false) (hb : bits ≠ (s.aport p).cfg.slots * (s.aport p).cfg.slotBits) :
    ((s.portClockBad p bits).aport p).clockBad = true ∧ (s.portClockBad p bits).stands almPortClock p = true ∧
      ∀ k ∈ ainsOfPort p, ((s.portClockBad p bits).ain k).state = .noSignal := by
  have h64 : p < 64 := by omega
  unfold State.portClockBad
  dsimp only
  rw [if_pos (by simp [hp, he, hr, hc, hb])]
  refine ⟨?_, ?_, each_settles (P := fun k t => (t.ain k).state = .noSignal) (fun t k => (loseAin_noSignal t k).1) loseAin_keeps_noSignal _ _⟩
  · rw [each_reads (fun t => t.aport p) _ _ _ fun t k => loseAin_aport t k p, State.event_aport, State.count_aport, State.raise_aport,
      State.aport_mod_self]
  · rw [loseAins_stands h64 _ _ fun k => lt_of_mem_ainsOfPort h64, State.event_stands, State.count_stands, State.raise_stands_self]

theorem portClockGood_recovers {p : Nat} (h : (s.aport p).clockBad = true) :
    ((s.portClockGood p).aport p).clockBad = false ∧ (s.portClockGood p).stands almPortClock p = false := by
  unfold State.portClockGood
  rw [if_pos h, State.clearAlarm_aport, State.aport_mod_self]
  exact ⟨rfl, State.clearAlarm_stands_self _ _ _⟩

/-! ### The obligation -/

/-- Settles O40, each command by what it makes of its input or port. -/
theorem audioInputCommandsComplete : Obligations.AudioInputCommandsComplete := by
  refine ⟨fun k ratio phase fill s hp ho hs hf => ?unfed, fun k ratio phase fill s hp ho hs hf hn hb h1 h2 => ?gains,
    fun k ratio phase fill s hp ho hs hf ht hr h1 h2 h3 h4 => ⟨_, rfl, measureAin_locks fill hp ho hs hf ht hr h1 h2 h3 h4⟩,
    fun k buffered s hp h => activityLoss_loses buffered hp h, fun k s h => ⟨_, rfl, slipAin_slips h⟩,
    fun n dataType s hp h => ⟨_, rfl, nonaudioOn_begins dataType hp h⟩, fun n s h => ⟨_, rfl, nonaudioOff_ends h⟩,
    fun p bits s hp he hr hc hb => ⟨_, rfl, portClockBad_loses hp he hr hc hb⟩, fun p s h => ⟨_, rfl, portClockGood_recovers h⟩⟩
  case unfed =>
    obtain ⟨hn, hr⟩ := loseAin_noSignal (s.ainMeasured k ratio fill) k
    refine ⟨_, rfl, ?_⟩
    rw [measureAin_unfed ratio phase fill hp ho hs hf]
    exact ⟨hn, hr.trans (by rw [ainMeasured_ain])⟩
  case gains =>
    refine ⟨_, rfl, ?_⟩
    rw [measureAin_gains phase fill hp ho hs hf hn hb h1 h2]
    exact gainAin_tracks h1 h2

end Sys2Proof.Machine
end

section
/-! PROOFS. Audio outputs: their audio boundaries, the searches of their stops and starts, and the access units of their programmes. -/
namespace Sys2Proof.Machine

variable {s t : State} {k : Nat}

/-! ### What is put out leaves the outputs and device time as they are (05 R219, R245) -/

theorem putOut_reads {β : Type} (g : State → β) (h : ∀ t o, g (State.emit t o) = g t) (s : State) (k first : Nat) (l : List Int) :
    g (s.putOut k first l) = g s := by
  unfold State.putOut
  dsimp only
  split
  · rfl
  · exact h _ _

theorem putOut_aout (s : State) (k first : Nat) (l : List Int) (j : Nat) : (s.putOut k first l).aout j = s.aout j :=
  putOut_reads (fun t => t.aout j) (fun _ _ => rfl) s k first l

theorem putOut_time (s : State) (k first : Nat) (l : List Int) : (s.putOut k first l).time = s.time :=
  putOut_reads State.time (fun _ _ => rfl) s k first l

theorem putOut_cnt (s : State) (k first : Nat) (l : List Int) (i u : Nat) : (s.putOut k first l).cnt i u = s.cnt i u :=
  putOut_reads (fun t => t.cnt i u) (fun _ _ => rfl) s k first l

theorem gainRamp_aout (s : State) (k : Nat) (old : AoutSt) (run : AudioRun) (j : Nat) : (s.gainRamp k old run).aout j = s.aout j :=
  putOut_aout _ _ _ _ _

theorem gainRamp_time (s : State) (k : Nat) (old : AoutSt) (run : AudioRun) : (s.gainRamp k old run).time = s.time :=
  putOut_time _ _ _ _

/-- How far device time moves depends on device time alone. -/
theorem advanceTo_time_congr (h : t.time = s.time) (n : Nat) : (t.advanceTo n).time = (s.advanceTo n).time := by
  have hn : t.nowNs = s.nowNs := congrArg (· / 4294967296) h
  simp only [State.advanceTo, hn, h]

/-! ### Settings at the audio boundary (05 R243) -/

/-- The input, gain and flags of an output, and whether landed settings wait for its audio boundary. -/
def AoutSt.settings (a : AoutSt) : Nat × Int × BitVec 8 × Bool := (a.live, a.gain, a.flags, a.due)

theorem judgeNonAudio_settings (s : State) (k j : Nat) : ((s.judgeNonAudio k).aout j).settings = (s.aout j).settings := by
  have muted (u : State) (f : AoutSt → AoutSt) (hf : ∀ a, (f a).settings = a.settings) :
      ((u.modAout k f).aout j).settings = (u.aout j).settings := by
    by_cases e : j = k
    · rw [e, State.aout_mod_self, hf]
    · rw [State.aout_mod_other _ _ _ _ e]
  unfold State.judgeNonAudio
  dsimp only
  split
  · rfl
  · split
    · rw [State.event_aout, State.count_aout]
      exact muted _ _ fun _ => rfl
    · exact muted _ _ fun _ => rfl

theorem judgeNonAudio_time (s : State) (k : Nat) : (s.judgeNonAudio k).time = s.time :=
  time_of_except (State.judgeNonAudio_except (allBut .time) rfl s k)

/-- The landed settings of an output of an enabled port take effect at the sample instant that waits for them. -/
theorem audioBoundary_takes (run : AudioRun) (hp : s.aoutPresent k = true) (hs : s.inService = true) (ho : s.portOn k = true)
    (hd : (s.aout k).due = true) :
    ((s.audioBoundary k run).aout k).settings = (s.aoutInput k, s.aoutGain k, s.aoutFlags k, false) ∧
      (s.audioBoundary k run).time = (s.advanceTo (s.aout k).dueNs).time := by
  have ramped {β : Type} (g : State → β) (hg : ∀ u old, g (State.gainRamp u k old run) = g u) (u : State) (c : Bool) (old : AoutSt) :
      g (u.when c (fun v => v.gainRamp k old run)) = g u := when_reads g u c _ fun v => hg v old
  unfold State.audioBoundary
  dsimp only
  rw [if_neg (by simp [hp, hs, ho]), if_pos hd, if_neg (by simp [hd])]
  rw [judgeNonAudio_settings, judgeNonAudio_time, ramped (fun u => u.aout k) fun u old => gainRamp_aout u k old run k,
    ramped State.time fun u old => gainRamp_time u k old run]
  split
  · rw [State.aout_mod_self, State.aout_mod_self]
    exact ⟨rfl, rfl⟩
  · rw [State.aout_mod_self]
    exact ⟨rfl, rfl⟩

/-! ### Searches that find a crossing (05 R244, R246) -/

/-- The first crossing in its window ends the search of a start, at that sample. -/
theorem zeroCrossing_starts {run : AudioRun} {n : Nat} (hs : (s.aout k).starting = true) (hn : (s.aout k).stopping = false)
    (hc : crossingAt run.before (run.samples.take (s.startWindow k)) = some n) :
    ((s.zeroCrossing k true run).aout k).starting = false ∧ (s.zeroCrossing k true run).time =
      (s.advanceTo (sampleNs (sampleFrom (s.aout k).startNs + s.periodsOf k n))).time := by
  unfold State.zeroCrossing
  dsimp only
  rw [if_pos rfl, if_neg (by simp [hs, hn]), hc]
  dsimp only
  rw [putOut_aout, putOut_time, State.aout_mod_self]
  exact ⟨rfl, rfl⟩

/-- The first crossing in its window ends the search of a stop, at that sample. -/
theorem zeroCrossing_stops {run : AudioRun} {n : Nat} (hs : (s.aout k).stopping = true)
    (hc : crossingAt run.before (run.samples.take (s.stopWindow k)) = some n) :
    ((s.zeroCrossing k false run).aout k).stopping = false ∧ ((s.zeroCrossing k false run).aout k).oldIn = 0xFFFF ∧
      (s.zeroCrossing k false run).time = (s.advanceTo (sampleNs (sampleFrom (s.aout k).searchNs + s.periodsOf k n))).time := by
  unfold State.zeroCrossing
  dsimp only
  rw [if_neg (by decide), if_neg (by simp [hs]), hc]
  dsimp only
  rw [State.aout_mod_self]
  exact ⟨rfl, rfl, advanceTo_time_congr (putOut_time _ _ _ _) _⟩

/-! ### Searches that end with their window (05 R244, R246) -/

/-- The state in which a search that ended with its window has been counted and reported. -/
def State.zeroTimedOut (s : State) (k : Nat) (start : Bool) : State :=
  (s.count cntZcTimeout k 1).event { code := 0x1911, noun := 0x19, index := k, data := le 1 (if start then 1 else 0) }

theorem zeroTimedOut_aout (s : State) (k : Nat) (start : Bool) (j : Nat) : (s.zeroTimedOut k start).aout j = s.aout j := by
  rw [State.zeroTimedOut, State.event_aout, State.count_aout]

theorem zeroTimedOut_time (s : State) (k : Nat) (start : Bool) : (s.zeroTimedOut k start).time = s.time := by
  rw [State.zeroTimedOut, State.event_time, State.count_time]

theorem zeroTimedOut_cnt (s : State) (start : Bool) (hk : k < 16384) :
    (s.zeroTimedOut k start).cnt cntZcTimeout k = min counterMax (s.cnt cntZcTimeout k + 1) := by
  rw [State.zeroTimedOut, event_cnt_unit _ _ (by decide) (by omega), State.count_cnt_self]

/-- A start that finds no crossing in its window ends with the window, and is counted. -/
theorem zeroTimeout_starts {run : AudioRun} (hk : k < 16384) (hs : (s.aout k).starting = true) (hn : (s.aout k).stopping = false)
    (hc : crossingAt run.before (run.samples.take (s.startWindow k)) = none) :
    ((s.zeroTimeout k true run).aout k).starting = false ∧
      (s.zeroTimeout k true run).cnt cntZcTimeout k = min counterMax (s.cnt cntZcTimeout k + 1) ∧ (s.zeroTimeout k true run).time =
        (s.advanceTo (sampleNs (sampleFrom (s.aout k).startNs + s.periodsOf k (s.startWindow k)))).time := by
  unfold State.zeroTimeout
  dsimp only
  rw [if_pos rfl, if_neg (by simp [hs, hn, hc]), ← State.zeroTimedOut, zeroTimedOut_aout, zeroTimedOut_time, zeroTimedOut_cnt _ _ hk,
    putOut_aout, putOut_time, putOut_cnt, State.aout_mod_self, State.modAout_cnt, State.advanceTo_cnt]
  exact ⟨rfl, rfl, rfl⟩

/-- A stop that finds no crossing in its window ends with the window, and is counted. -/
theorem zeroTimeout_stops {run : AudioRun} (hk : k < 16384) (hs : (s.aout k).stopping = true)
    (hc : crossingAt run.before (run.samples.take (s.stopWindow k)) = none) :
    ((s.zeroTimeout k false run).aout k).stopping = false ∧ ((s.zeroTimeout k false run).aout k).oldIn = 0xFFFF ∧
      (s.zeroTimeout k false run).cnt cntZcTimeout k = min counterMax (s.cnt cntZcTimeout k + 1) ∧ (s.zeroTimeout k false run).time =
        (s.advanceTo (sampleNs (sampleFrom (s.aout k).searchNs + s.periodsOf k (s.stopWindow k)))).time := by
  unfold State.zeroTimeout
  dsimp only
  rw [if_neg (by decide), if_neg (by simp [hs, hc]), ← State.zeroTimedOut, zeroTimedOut_aout, zeroTimedOut_time, zeroTimedOut_cnt _ _ hk,
    State.aout_mod_self, State.modAout_cnt, State.advanceTo_cnt, putOut_cnt]
  exact ⟨rfl, rfl, rfl, advanceTo_time_congr (putOut_time _ _ _ _) _⟩

/-! ### Access units (05 R251) -/

theorem aouts_of_except (h : t.except (allBut .aouts) = s.except (allBut .aouts)) : t.aouts = s.aouts := by
  simpa [State.except, allBut] using congrArg State.aouts h

/-- The end of the stream of a delivery leaves the outputs as they are. -/
theorem delivEnd_aouts (s : State) (d : Nat) : (s.delivEnd d).aouts = s.aouts := by
  have ended (h : HostRing) : (s.putEnd h).1.aouts = s.aouts := aouts_of_except (State.putEnd_except (allBut .aouts) rfl s h)
  unfold State.delivEnd
  dsimp only
  split
  · exact ended _
  · unfold State.chunkEvent
    dsimp only
    split
    · rw [State.event_aouts, State.modDeliv_aouts, ended]
    · rw [State.modDeliv_aouts, ended]

theorem delivEnd_aout (s : State) (d j : Nat) : (s.delivEnd d).aout j = s.aout j := by
  rw [State.aout, delivEnd_aouts, State.aout]

/-- An access unit of a programme ends one unit's duration after its start. -/
theorem aacUnit_ends (au : Bytes) (cons : ConsReads) (hk : k % 2 = 0) (hp : (s.aout k).aac.profile ≠ 0) (hs : s.inService = true) :
    ((s.aacUnit k au cons).aout k).aacAt = (s.aout k).aacAt + aacSamples (s.aout k).aac.profile * 1000000000 / 48000 := by
  unfold State.aacUnit
  dsimp only
  rw [if_neg (by simp [hk, hp, hs])]
  generalize (if (s.aout k).due then none else (s.aout k).aacNext) = next
  split
  · rw [each_reads (fun t => t.aout k) _ _ _ fun t d => (State.modDeliv_aout _ _ _ _).trans (delivEnd_aout t d k), State.aout_mod_self]
  · rw [State.aout_mod_self]

/-! ### The obligation -/

/-- Settles O41, each command by what it makes of its output. -/
theorem audioOutputCommandsComplete : Obligations.AudioOutputCommandsComplete := by
  refine ⟨fun k run s hp hs ho hd => ?boundary, fun k run n s hs hn hc => ⟨_, rfl, zeroCrossing_starts hs hn hc⟩,
    fun k run n s hs hc => ⟨_, rfl, zeroCrossing_stops hs hc⟩, fun k run s hk hs hn hc => ⟨_, rfl, zeroTimeout_starts hk hs hn hc⟩,
    fun k run s hk hs hc => ⟨_, rfl, zeroTimeout_stops hk hs hc⟩, fun k au cons s hk hp hs => ⟨_, rfl, aacUnit_ends au cons hk hp hs⟩⟩
  case boundary =>
    obtain ⟨hset, ht⟩ := audioBoundary_takes run hp hs ho hd
    simp only [AoutSt.settings, Prod.mk.injEq] at hset
    obtain ⟨hl, hg, hf, hw⟩ := hset
    exact ⟨_, rfl, hl, hg, hf, hw, ht⟩

end Sys2Proof.Machine
end

section
/-! PROOFS. Lanes that adapt: the signal, each step of adaptation, the figure of merit and its alarm, the timeout and the loss of the input. -/
namespace Sys2Proof.Machine

variable {s : State} {k : Nat} {r : AdaptResult} {x : LevelStats}

/-! ### Where adaptation begins and ends (06 R279, R282, R283) -/

/-- Adaptation begins at Acquire, whatever the preset; the failures in a row and the receive settings stay. -/
theorem acquireLane_lane (s : State) (k : Nat) : ((s.acquireLane k).lane k).state = .acquire ∧ ((s.acquireLane k).lane k).step = .acquire ∧
    ((s.acquireLane k).lane k).fails = (s.lane k).fails ∧ ((s.acquireLane k).lane k).rx = (s.lane k).rx := by
  unfold State.acquireLane
  dsimp only
  rw [State.lane_mod_self]
  exact ⟨rfl, rfl, rfl, rfl⟩

theorem acquireLane_stands (s : State) (k i u : Nat) : (s.acquireLane k).stands i u = s.stands i u := rfl

theorem signalDetect_acquires (hk : k < 256) (ho : s.laneOn k = true) (hd : (s.lane k).state = .detect) :
    ((s.signalDetect k).lane k).state = .acquire ∧ ((s.signalDetect k).lane k).step = .acquire := by
  unfold State.signalDetect
  rw [if_pos (by simp [hk, ho, hd])]
  obtain ⟨ha, ht, -, -⟩ := acquireLane_lane s k
  exact ⟨ha, ht⟩

theorem laneReady_state (s : State) (k : Nat) : ((s.laneReady k).lane k).state = .ready := by
  unfold State.laneReady
  dsimp only
  rw [State.event_lane, State.lane_mod_self]

/-- Qualify begins now, and keeps the CTLE step that was found. -/
theorem qualifyLane_lane (s : State) (k : Nat) : ((s.qualifyLane k).lane k).step = .qualify ∧ ((s.qualifyLane k).lane k).qualNs = s.nowNs ∧
    ((s.qualifyLane k).lane k).ctle = (s.lane k).ctle := by
  unfold State.qualifyLane
  rw [State.lane_mod_self]
  exact ⟨rfl, rfl, rfl⟩

/-! ### The steps of adaptation (06 R279, R280) -/

section
variable (hk : k < 256) (ho : s.laneOn k = true)
include hk ho

/-- A lane that locks, and sets its own CTLE, goes on to the coarse search. -/
theorem adaptStep_acquired (hs : (s.lane k).state = .acquire) (hl : r.locked = true) (hr : k < 128 ∨ (1 ≤ r.rate ∧ r.rate ≤ 9))
    (hm : (s.lane k).rx.ctleMode ≠ 1) :
    ((s.adaptStep k r).lane k).state = .adapting ∧ ((s.adaptStep k r).lane k).step = .coarse := by
  have hc : (r.locked && (k < 128 || within r.rate 1 9)) = true := by simpa [hl, within] using hr
  unfold State.adaptStep
  dsimp only
  rw [if_neg (by simp [hk, ho]), hs]
  dsimp only
  rw [hc, if_neg nofun, if_neg hm, State.lane_mod_self]
  exact ⟨rfl, rfl⟩

theorem adaptStep_converged (hs : (s.lane k).state = .adapting) (ht : (s.lane k).step = .converge) (hm : (s.lane k).rx.ctleMode ≠ 1) :
    ((s.adaptStep k r).lane k).step = .fine := by
  unfold State.adaptStep
  dsimp only
  rw [if_neg (by simp [hk, ho]), hs, ht]
  dsimp only
  rw [if_neg hm, State.lane_mod_self]

/-- The fine search leaves the best of the steps next to the coarse one, and Qualify begins. -/
theorem adaptStep_fine (hs : (s.lane k).state = .adapting) (ht : (s.lane k).step = .fine) :
    ((s.adaptStep k r).lane k).step = .qualify ∧ ((s.adaptStep k r).lane k).qualNs = s.nowNs ∧
      ((s.adaptStep k r).lane k).ctle = (bestStep ((s.lane k).ctle, (s.lane k).fom) ((fineSteps (s.lane k).ctle).zip r.foms)).1 := by
  unfold State.adaptStep
  dsimp only
  rw [if_neg (by simp [hk, ho]), hs, ht]
  dsimp only
  obtain ⟨hq, hn, hc⟩ := qualifyLane_lane (s.modLane k _) k
  exact ⟨hq, hn, hc.trans (congrArg LaneSt.ctle (State.lane_mod_self s k _))⟩

theorem adaptStep_qualified (hs : (s.lane k).state = .adapting) (ht : (s.lane k).step = .qualify) (hn : qualifyCount k ≤ (s.lane k).okRun) :
    ((s.adaptStep k r).lane k).state = .ready := by
  unfold State.adaptStep
  dsimp only
  rw [if_neg (by simp [hk, ho]), hs, ht]
  dsimp only
  rw [if_pos hn, laneReady_state]

end

/-- The coarse search of a Flume lane leaves the best of all steps. -/
theorem adaptStep_coarse (hk : k < 128) (ho : s.laneOn k = true) (hs : (s.lane k).state = .adapting) (ht : (s.lane k).step = .coarse) :
    ((s.adaptStep k r).lane k).step = .converge ∧
      ((s.adaptStep k r).lane k).ctle = (bestStep (0, r.foms.headD 0) (r.foms.zipIdx.map (fun e => (e.2, e.1)))).1 := by
  have hk' : k < 256 := by omega
  unfold State.adaptStep
  dsimp only
  rw [if_neg (by simp [hk', ho]), hs, ht]
  dsimp only
  rw [if_pos hk, State.lane_mod_self, State.lane_mod_self]
  exact ⟨rfl, rfl⟩

/-- Qualify that does not end starts adaptation again; the third failure in a row raises the alarm. -/
theorem qualifyTimeout_fails (hk : k < 256) (ho : s.laneOn k = true) (hs : (s.lane k).state = .adapting) (ht : (s.lane k).step = .qualify) :
    ((s.qualifyTimeout k).lane k).state = .acquire ∧ ((s.qualifyTimeout k).lane k).fails = (s.lane k).fails + 1 ∧
      (2 ≤ (s.lane k).fails → (s.qualifyTimeout k).stands almLaneFom k = true) := by
  unfold State.qualifyTimeout
  dsimp only
  rw [if_pos (by simp [hk, ho, hs, ht])]
  obtain ⟨ha, -, hf, -⟩ := acquireLane_lane (State.when
    (((s.advanceTo ((s.lane k).qualNs + 200000000)).count cntAdaptFail k 1).modLane k (fun x => { x with fails := x.fails + 1 }))
    ((s.lane k).fails ≥ 2) (fun t => t.raise almLaneFom k)) k
  refine ⟨ha, hf.trans ?_, fun h2 => ?_⟩
  · rw [when_reads (fun t => t.lane k) _ _ _ fun t => State.raise_lane t _ _ _, State.lane_mod_self, State.count_lane, State.advanceTo_lane]
  · rw [acquireLane_stands, State.when, if_pos (decide_eq_true h2), State.raise_stands_self]

/-! ### The figure of merit (06 R277, R282) -/

theorem countCodewords_reads {β : Type} (g : State → β) (h : ∀ t i u n, g (State.count t i u n) = g t) (s : State) (k : Nat) (w : List Nat) :
    g (s.countCodewords k w) = g s := by
  unfold State.countCodewords
  dsimp only
  split
  · rfl
  · rw [h, h, h, h]

/-- The state in which the codewords that came with a figure of merit have been counted. -/
def State.fomCounted (s : State) (k : Nat) (x : LevelStats) : State :=
  s.when (k < 256 && s.laneOn k && (s.lane k).state = .ready) (fun t => t.countCodewords k x.codewords)

theorem fomUpdate_eq (s : State) (k : Nat) (x : LevelStats) : s.fomUpdate k x = (s.fomCounted k x).fomStep k x := rfl

theorem fomCounted_lane (s : State) (k : Nat) (x : LevelStats) : (s.fomCounted k x).lane k = s.lane k :=
  when_reads (fun t => t.lane k) _ _ _ fun t => countCodewords_reads (fun t => t.lane k) (fun _ _ _ _ => rfl) t k _

theorem fomCounted_laneOn (s : State) (k : Nat) (x : LevelStats) : (s.fomCounted k x).laneOn k = s.laneOn k :=
  when_reads (fun t => t.laneOn k) _ _ _ fun t => countCodewords_reads (fun t => t.laneOn k) (fun _ _ _ _ => rfl) t k _

/-- A lane that is Ready and has a figure not far below its threshold ends its run of low figures. -/
theorem fomStep_holds (hk : k < 256) (ho : s.laneOn k = true) (hs : (s.lane k).state = .ready)
    (hf : readyThreshold k (s.lane k).mode ≤ figureOfMerit x + 30) :
    ((s.fomStep k x).lane k).fom = figureOfMerit x ∧ ((s.fomStep k x).lane k).lowRun = 0 ∧ ((s.fomStep k x).lane k).state = .ready := by
  unfold State.fomStep
  dsimp only
  rw [if_neg (by simp [hk, ho, hs]), if_neg (by simp [hs]), if_neg (Nat.not_lt.mpr hf), if_pos (by decide), State.lane_mod_self,
    State.lane_mod_self]
  exact ⟨rfl, rfl, hs⟩

/-- The hundredth figure in a row that is far below the threshold of a Ready lane leaves its alarm standing. -/
theorem fomStep_alarms (hk : k < 256) (ho : s.laneOn k = true) (hs : (s.lane k).state = .ready)
    (hf : figureOfMerit x + 30 < readyThreshold k (s.lane k).mode) (hl : (s.lane k).lowRun = 99) :
    (s.fomStep k x).stands almLaneFom k = true := by
  have reported (u : State) (e : Ev) : (if u.stands almLaneFom k then u else (u.raise almLaneFom k).event e).stands almLaneFom k = true := by
    split
    · assumption
    · rw [State.event_stands, State.raise_stands_self]
  unfold State.fomStep
  dsimp only
  rw [if_neg (by simp [hk, ho, hs]), if_neg (by simp [hs]), if_pos hf, hl, if_neg (by decide)]
  split
  · rw [acquireLane_stands, reported]
  · exact reported _ _

theorem fomUpdate_holds (hk : k < 256) (ho : s.laneOn k = true) (hs : (s.lane k).state = .ready)
    (hf : readyThreshold k (s.lane k).mode ≤ figureOfMerit x + 30) :
    ((s.fomUpdate k x).lane k).fom = figureOfMerit x ∧ ((s.fomUpdate k x).lane k).lowRun = 0 ∧ ((s.fomUpdate k x).lane k).state = .ready := by
  rw [← fomCounted_lane s k x] at hs hf
  rw [fomUpdate_eq]
  exact fomStep_holds hk ((fomCounted_laneOn s k x).trans ho) hs hf

theorem fomUpdate_alarms (hk : k < 256) (ho : s.laneOn k = true) (hs : (s.lane k).state = .ready)
    (hf : figureOfMerit x + 30 < readyThreshold k (s.lane k).mode) (hl : (s.lane k).lowRun = 99) :
    (s.fomUpdate k x).stands almLaneFom k = true := by
  rw [← fomCounted_lane s k x] at hs hf hl
  rw [fomUpdate_eq]
  exact fomStep_alarms hk ((fomCounted_laneOn s k x).trans ho) hs hf hl

/-- A figure that has held its threshold for 1 s ends the alarm then. -/
theorem fomClear_clears {n : Nat} (hn : (s.lane k).okSince = some n) (ha : s.stands almLaneFom k = true) :
    (s.fomClear k).stands almLaneFom k = false ∧ (s.fomClear k).time = (s.advanceTo (n + 1000000000)).time := by
  unfold State.fomClear
  rw [hn]
  dsimp only
  rw [if_pos ha]
  exact ⟨State.clearAlarm_stands_self _ _ _, State.clearAlarm_time _ _ _⟩

/-! ### Loss of the input (06 R282, R284) -/

theorem laneLoss_detects (hk : k < 256) (ho : s.laneOn k = true)
    (hs : (s.lane k).state = .acquire ∨ (s.lane k).state = .adapting ∨ (s.lane k).state = .ready) :
    ((s.laneLoss k).lane k).state = .detect ∧ ((s.laneLoss k).lane k).fom = 0 := by
  have hc : (k < 256 && s.laneOn k && ((s.lane k).state = .acquire || (s.lane k).state = .adapting || (s.lane k).state = .ready)) = true := by
    simpa [hk, ho, or_assoc] using hs
  unfold State.laneLoss
  dsimp only
  rw [if_pos hc, State.event_lane, State.count_lane, State.startLane, State.lane_mod_self]
  exact ⟨rfl, rfl⟩

/-! ### The obligation -/

/-- Settles O42, each command by what it makes of its lane. -/
theorem laneAdaptationCompletes : Obligations.LaneAdaptationCompletes := by
  exact ⟨fun k s hk ho hd => ⟨_, rfl, signalDetect_acquires hk ho hd⟩,
    fun k r s hk ho hs hl hr hm => ⟨_, rfl, adaptStep_acquired hk ho hs hl hr hm⟩,
    fun k r s hk ho hs ht => ⟨_, rfl, adaptStep_coarse hk ho hs ht⟩,
    fun k r s hk ho hs ht hm => ⟨_, rfl, adaptStep_converged hk ho hs ht hm⟩,
    fun k r s hk ho hs ht => ⟨_, rfl, adaptStep_fine hk ho hs ht⟩,
    fun k r s hk ho hs ht hn => ⟨_, rfl, adaptStep_qualified hk ho hs ht hn⟩,
    fun k s hk ho hs ht => ⟨_, rfl, qualifyTimeout_fails hk ho hs ht⟩, fun k x s hk ho hs hf => ⟨_, rfl, fomUpdate_holds hk ho hs hf⟩,
    fun k x s hk ho hs hf hl => ⟨_, rfl, fomUpdate_alarms hk ho hs hf hl⟩, fun k n s hn ha => ⟨_, rfl, fomClear_clears hn ha⟩,
    fun k s hk ho hs => ⟨_, rfl, laneLoss_detects hk ho hs⟩⟩

end Sys2Proof.Machine
end

section
/-! PROOFS. Test tools and I2C buses: eye scans, the locks of checkers, the transactions of a bus and the writes of a rate class. -/
namespace Sys2Proof.Machine

variable {s : State} {k b : Nat}

/-! ### Test tools (06 R287, R289) -/

/-- An eye scan that ends leaves its parameters and one count per point, those that did not come as 0. -/
theorem eyeDone_ends (cs : List Nat) {e : EyeScan} (he : (s.lane k).eye = some e) :
    ((s.eyeDone k cs).lane k).eye = none ∧ ((s.eyeDone k cs).lane k).eyeHead = e ∧
      ((s.eyeDone k cs).lane k).eyeCounts = (cs.map (min 4294967295) ++ List.replicate (eyePoints e) 0).take (eyePoints e) := by
  unfold State.eyeDone
  rw [he]
  dsimp only
  rw [State.event_lane, State.lane_mod_self]
  exact ⟨rfl, rfl, rfl⟩

theorem prbsLock_locks (hc : (s.lane k).tools.chk ≠ 0) (hm : s.mode.current = .test) :
    s.prbsLock k = s.modLane k (fun l => { l with chkLock := true }) :=
  if_pos (by simp [hc, hm])

/-- Counting one counter of a unit leaves its others. -/
theorem count_cnt_unit (s : State) {i j : Nat} (u n : Nat) (h : j ≠ i) : (s.count i u n).cnt j u = s.cnt j u :=
  State.count_cnt_other _ _ _ _ _ _ (by unfold unitKey; omega)

/-- A checker that loses lock has its bits, its errors and the loss counted. -/
theorem prbsRelock_counts (bits errors symbols : Nat) (hl : (s.lane k).chkLock = true) (hc : (s.lane k).tools.chk ≠ 0) :
    ((s.prbsRelock k bits errors symbols).lane k).chkLock = false ∧
      (s.prbsRelock k bits errors symbols).cnt cntPrbsBits k = min counterMax (s.cnt cntPrbsBits k + bits) ∧
      (s.prbsRelock k bits errors symbols).cnt cntPrbsErrors k = min counterMax (s.cnt cntPrbsErrors k + errors) ∧
      (s.prbsRelock k bits errors symbols).cnt cntPrbsRelock k = min counterMax (s.cnt cntPrbsRelock k + 1) := by
  have keeps (u : State) (c : Bool) {j : Nat} (h : j ≠ cntPrbsSymbolErrors) :
      (u.when c (fun t => t.count cntPrbsSymbolErrors k symbols)).cnt j k = u.cnt j k :=
    when_reads (fun t => t.cnt j k) u c _ fun t => count_cnt_unit t k symbols h
  unfold State.prbsRelock
  dsimp only
  rw [if_pos (by simp [hl, hc]), State.lane_mod_self, State.modLane_cnt, State.modLane_cnt, State.modLane_cnt, keeps _ _ (by decide),
    keeps _ _ (by decide), keeps _ _ (by decide)]
  refine ⟨rfl, ?_, ?_, ?_⟩
  · rw [count_cnt_unit _ _ _ (by decide), count_cnt_unit _ _ _ (by decide), State.count_cnt_self]
  · rw [count_cnt_unit _ _ _ (by decide), State.count_cnt_self, count_cnt_unit _ _ _ (by decide)]
  · rw [State.count_cnt_self, count_cnt_unit _ _ _ (by decide), count_cnt_unit _ _ _ (by decide)]

/-! ### Transactions of a bus (06 R295, R297) -/

/-- The front transaction of a bus begins with an output alone. -/
theorem busStart_reads {β : Type} (g : State → β) (h : ∀ t o, g (State.emit t o) = g t) (s : State) (b : Nat) : g (s.busStart b) = g s := by
  unfold State.busStart
  split
  · exact h _ _
  · rfl

/-- The state in which the front transaction of a bus has left its queue. -/
def State.busEnded (s : State) (b : Nat) (rest : List I2cXact) : State := s.modBus b (fun y => { y with queue := rest })

theorem busEnded_queue (hb : b < s.buses.length) (rest : List I2cXact) : ((s.busEnded b rest).bus b).queue = rest :=
  congrArg I2cBus.queue (State.bus_mod_self s b _ hb)

/-- The state in which the result of a transaction has been counted and has set or cleared the alarm of its bus. -/
def State.busJudged (s : State) (b result : Nat) : State :=
  (((s.when (result = 0) (fun t => t.clearAlarm almI2cBus b)).when (result = 1 || result = 2) (fun t => t.count cntI2cNack b 1)).when
    (result ≥ 3) (fun t => t.count cntI2cTimeout b 1)).when (result = 4) (fun t => t.raise almI2cBus b)

theorem busJudged_bus (s : State) (b result j : Nat) : (s.busJudged b result).bus j = s.bus j := by
  have judged := when_reads (fun t => t.bus j)
  rw [State.busJudged, judged _ _ _ fun t => State.raise_bus t _ _ _, judged _ _ _ fun t => State.count_bus t _ _ _ _,
    judged _ _ _ fun t => State.count_bus t _ _ _ _, judged _ _ _ fun t => State.clearAlarm_bus t _ _ _]

/-- A transaction without an error ends the alarm of its bus. -/
theorem busJudged_done (s : State) (b : Nat) : (s.busJudged b 0).stands almI2cBus b = false := State.clearAlarm_stands_self _ _ _

/-- A device that holds the data line raises the alarm of its bus. -/
theorem busJudged_held (s : State) (b : Nat) : (s.busJudged b 4).stands almI2cBus b = true := State.raise_stands_self _ _ _

/-- The end of a transaction takes it from the queue and judges its result; what follows writes a lane, an event and an output. -/
theorem busEnd_reads {β : Type} (g : State → β) (hl : ∀ t j f, g (State.modLane t j f) = g t) (he : ∀ t e, g (State.event t e) = g t)
    (ho : ∀ t o, g (State.emit t o) = g t) {x : I2cXact} {rest : List I2cXact} (hq : (s.bus b).queue = x :: rest)
    (result written : Nat) (rd : Bytes) : g (s.busEnd b result written rd) = g ((s.busEnded b rest).busJudged b result) := by
  unfold State.busEnd
  rw [hq]
  dsimp only
  rw [busStart_reads g ho]
  split
  · rw [hl]
    rfl
  · rw [he]
    rfl

theorem busEnd_queue {x : I2cXact} {rest : List I2cXact} (hb : b < s.buses.length) (hq : (s.bus b).queue = x :: rest)
    (result written : Nat) (rd : Bytes) : ((s.busEnd b result written rd).bus b).queue = rest := by
  rw [busEnd_reads (fun t => t.bus b) (fun _ _ _ => rfl) (fun _ _ => State.event_bus _ _ _) (fun _ _ => rfl) hq, busJudged_bus,
    busEnded_queue hb]

theorem busEnd_stands {x : I2cXact} {rest : List I2cXact} (hq : (s.bus b).queue = x :: rest) (result written : Nat) (rd : Bytes) (i u : Nat) :
    (s.busEnd b result written rd).stands i u = ((s.busEnded b rest).busJudged b result).stands i u :=
  busEnd_reads (fun t => t.stands i u) (fun _ _ _ => rfl) (fun _ _ => State.event_stands _ _ _ _) (fun _ _ => rfl) hq result written rd

theorem i2cEnd_ends {r : I2cResult} {x : I2cXact} {rest : List I2cXact} (hb : b < s.buses.length) (hq : (s.bus b).queue = x :: rest)
    (hr : r.code ≤ 2) : ((s.i2cEnd b r).bus b).queue = rest ∧ (r.code = 0 → (s.i2cEnd b r).stands almI2cBus b = false) := by
  unfold State.i2cEnd
  rw [if_pos hr]
  refine ⟨busEnd_queue hb hq _ _ _, fun h0 => ?_⟩
  rw [busEnd_stands hq, h0, busJudged_done]

theorem i2cStretch_ends {x : I2cXact} {rest : List I2cXact} (sdaLow : Bool) (hb : b < s.buses.length) (hq : (s.bus b).queue = x :: rest) :
    ((s.i2cStretch b sdaLow).bus b).queue = rest ∧ (sdaLow = true → (s.i2cStretch b sdaLow).stands almI2cBus b = true) := by
  unfold State.i2cStretch
  refine ⟨busEnd_queue hb hq _ _ _, fun h => ?_⟩
  rw [busEnd_stands hq, if_pos h, busJudged_held]

/-! ### The writes of a rate class (06 R296) -/

/-- The writes of a rate class of a lane, to the device that it is bound to. -/
def State.hookWrites (s : State) (k : Nat) (hd : Bool) : List I2cXact :=
  let l := s.lane k
  (List.range (if hd then l.hooks.countHd else l.hooks.countSd)).map (fun i =>
    { I2cXact.reset with
      lane := k, write := slice (if hd then l.hooks.hd else l.hooks.sd) (2 * i) 2, hook := true
      address := l.bind.address, speed := l.bind.speed })

/-- A bound lane whose rate class changes puts the writes of the new class on its idle bus. -/
theorem hookStart_writes {hd : Bool} (hk : 128 ≤ k) (hp : s.lanePresent k = true) (hf : (s.lane k).bind.flags.getLsbD 0 = true)
    (ha : (s.lane k).bind.address ≠ 0) (hc : (s.lane k).hookClass ≠ some hd) (hb : (s.lane k).bind.bus < s.buses.length)
    (hq : (s.bus (s.lane k).bind.bus).queue = []) :
    ((s.hookStart k hd).lane k).hookClass = some hd ∧
      ((s.hookStart k hd).lane k).hookLeft = (if hd then (s.lane k).hooks.countHd else (s.lane k).hooks.countSd) ∧
      ((s.hookStart k hd).bus (s.lane k).bind.bus).queue = s.hookWrites k hd := by
  unfold State.hookStart
  dsimp only
  rw [if_neg (by simp [hk, hp, hc]), if_neg (by simp [hf, ha]), hq]
  dsimp only [List.isEmpty_nil]
  rw [if_pos rfl, busStart_reads (fun t => t.lane k) fun _ _ => rfl, busStart_reads (fun t => t.bus (s.lane k).bind.bus) fun _ _ => rfl,
    State.modBus_lane, State.lane_mod_self, State.bus_mod_self (State.modLane _ _ _) _ _ hb, State.modLane_bus, hq]
  exact ⟨rfl, rfl, rfl⟩

/-! ### The obligation -/

/-- Settles O43, each command by what it makes of its lane or bus. -/
theorem laneToolsComplete : Obligations.LaneToolsComplete := by
  refine ⟨fun k cs e s he => ⟨_, rfl, eyeDone_ends cs he⟩, fun k s hc hm => ?lock,
    fun k bits errors symbols s hl hc => ⟨_, rfl, prbsRelock_counts bits errors symbols hl hc⟩,
    fun b r s x rest hb hq hr => ⟨_, rfl, i2cEnd_ends hb hq hr⟩, fun b sdaLow s x rest hb hq => ⟨_, rfl, i2cStretch_ends sdaLow hb hq⟩,
    fun k hd s hk hp hf ha hc hb hq => ?hooks⟩
  case lock => exact congrArg Host.Outcome.next (prbsLock_locks hc hm)
  case hooks =>
    obtain ⟨hclass, hleft, hqueue⟩ := hookStart_writes hk hp hf ha hc hb hq
    refine ⟨_, rfl, hclass, hleft, ?_⟩
    rw [hqueue, State.hookWrites, List.map_map]
    rfl

end Sys2Proof.Machine
end

section
/-! PROOFS. SET and WRITE on Lane: what each makes of its lane or of the bus that the lane is bound to. -/
namespace Sys2Proof.Machine

variable {c : Call} {s : State} {k : Nat}

/-! ### Transmitter, receiver and trims (06 R265, R271 to R273, R276, R291) -/

/-- The transmitter of a Rill output. -/
theorem setLaneTransmit_rill (hk : 256 ≤ k) (hd : (decRillTx c.block).deemph ≤ 3) (hw : (decRillTx c.block).swing ≤ 3) :
    (specSetLaneTransmit k).body c s = (okWith [], s.modLane k (fun l => { l with rtx := decRillTx c.block })) := by
  have hr : ¬ k ≤ 255 := by omega
  dsimp only [specSetLaneTransmit]
  rw [if_neg (by simp [within, hr]), if_pos hk, if_pos (by simp [hd, hw])]

/-- The transmitter of a Flume lane, with precoding only in a mode that has it, and with the flags as they were in a lane of an enabled port. -/
theorem setLaneTransmit_flume (hk : k < 128) (ht : flumeTxOk (decFlumeTx c.block) = true)
    (hm : (decFlumeTx c.block).flags.getLsbD 2 = false ∧ (decFlumeTx c.block).flags.getLsbD 3 = false ∨ (s.lane k).mode = 0 ∨
      3 < (s.lane k).mode)
    (hp : s.lanePort k = none ∨ (decFlumeTx c.block).flags = (s.lane k).tx.flags) :
    (specSetLaneTransmit k).body c s = (okWith [], s.modLane k (fun l => { l with tx := decFlumeTx c.block, txSet := true })) := by
  have hr : ¬ 128 ≤ k := by omega
  have hv : ¬ 256 ≤ k := by omega
  have flagged : ¬ (within (s.lane k).mode 1 3 && ((decFlumeTx c.block).flags.getLsbD 2 || (decFlumeTx c.block).flags.getLsbD 3)) = true := by
    rcases hm with ⟨h2, h3⟩ | h0 | h3
    · rw [h2, h3]
      simp
    · simp [within, h0]
    · simp [within, Nat.not_le.mpr h3]
  have held : ¬ ((s.lanePort k).isSome && (decFlumeTx c.block).flags != (s.lane k).tx.flags) = true := by
    rcases hp with h | h
    · simp [h]
    · simp [h]
  dsimp only [specSetLaneTransmit]
  rw [if_neg (by simp [within, hr]), if_neg hv, if_neg (by simp [ht]), if_neg flagged, if_neg held]

/-- Receive settings stand, also when they start adaptation again. -/
theorem setLaneReceive_sets {x : LaneRx} (hx : x = decLaneRx c.block) (hk : k < 256) (hm : x.ctleMode ≤ 1) (hs : x.ctleStep ≤ 15)
    (hr : if x.flags.getLsbD 1 = true then 128 ≤ k ∧ 1 ≤ x.rillRate ∧ x.rillRate ≤ 9 else x.rillRate = 0) :
    ∃ t : State, (specSetLaneReceive k).body c s = (okWith [], t) ∧ (t.lane k).rx = x := by
  have rated : (if x.flags.getLsbD 1 then within x.rillRate 1 9 else x.rillRate == 0) = true ∧
      (k < 128 && (x.flags.getLsbD 1 || x.rillRate != 0)) = false := by
    split at hr
    next hf =>
      obtain ⟨h128, h1, h9⟩ := hr
      rw [hf]
      simp [within, h1, h9, Nat.not_lt.mpr h128]
    next hf =>
      rw [Bool.not_eq_true] at hf
      rw [hf, hr]
      simp
  obtain ⟨hrate, hlane⟩ := rated
  dsimp only [specSetLaneReceive]
  rw [← hx, hlane, hrate, if_neg (by simp [hk]), if_neg (by simp [hm, hs])]
  split
  · obtain ⟨-, -, -, hrx⟩ := acquireLane_lane (s.modLane k (fun l => { l with rx := x })) k
    exact ⟨_, rfl, hrx.trans (congrArg LaneSt.rx (State.lane_mod_self _ _ _))⟩
  · exact ⟨_, rfl, congrArg LaneSt.rx (State.lane_mod_self _ _ _)⟩

theorem setLaneAsymmetry_sets (hk : k < 128) :
    (specSetLaneAsymmetry k).body c s = (okWith [], s.modLane k (fun l => { l with trim := decLaneTrim c.block })) :=
  if_neg (Nat.not_le.mpr hk)

/-! ### Test tools and eye scans (06 R285 to R289) -/

theorem quietLane_tools (s : State) (k : Nat) : ((s.quietLane k).lane k).tools = (s.lane k).tools := by
  rw [State.quietLane, State.lane_mod_self]

theorem startLane_tools (s : State) (k : Nat) : ((s.startLane k).lane k).tools = (s.lane k).tools := by
  rw [State.startLane, State.lane_mod_self]

/-- A lane whose last tool stops keeps its tool settings. -/
theorem leaveTool_tools (s : State) (k : Nat) : ((s.leaveTool k).lane k).tools = (s.lane k).tools := by
  unfold State.leaveTool
  dsimp only
  generalize ite (k ≥ 128) _ _ = mode
  split
  · exact quietLane_tools s k
  · split
    · rw [startLane_tools, State.lane_mod_self, quietLane_tools]
    · rw [State.lane_mod_self, quietLane_tools]

theorem toolOutput_lane (s : State) (k : Nat) (t : LaneTools) (j : Nat) : (s.toolOutput k t).lane j = s.lane j := by
  have sends := when_reads (fun u => u.lane j)
  unfold State.toolOutput
  rw [sends _ _ _ fun u => State.emit_lane u _ _, sends _ _ _ fun u => State.emit_lane u _ _]

theorem clearChecker_lane (s : State) (k j : Nat) : (s.clearChecker k).lane j = s.lane j := by
  have cleared (u : State) (i : Nat) : (u.cntClear i k).lane j = u.lane j := rfl
  unfold State.clearChecker
  dsimp only
  rw [State.event_lane, State.count_lane, cleared, cleared, cleared, cleared]

/-- The tools that the lane's values allow stand, without the bit that clears the checker. -/
theorem setLaneTestTools_sets (ht : toolsOk k (decLaneTools c.block) (s.rateOf k) = true) :
    ∃ t : State, (specSetLaneTestTools k).body c s = (okWith [], t) ∧
      (t.lane k).tools = { decLaneTools c.block with flags := (decLaneTools c.block).flags &&& 0x03 } := by
  dsimp only [specSetLaneTestTools]
  rw [if_neg (by simp [ht])]
  refine ⟨_, rfl, ?_⟩
  rw [when_reads (fun u => u.lane k) _ _ _ fun u => clearChecker_lane u k k, when_reads (fun u => u.lane k) _ _ State.toolStopped fun _ => rfl]
  split
  · rw [toolOutput_lane, State.lane_mod_self, State.lane_mod_self]
  · split
    · rw [leaveTool_tools, State.lane_mod_self]
    · rw [State.lane_mod_self]

theorem setLaneEyeScan_starts (hk : k < 256) (he : eyeOk k (s.lane k).toolRate (decEyeScan c.block) = true) :
    (specSetLaneEyeScan k).body c s = (okWith [], s.modLane k (fun l => { l with eye := some (decEyeScan c.block) })) := by
  dsimp only [specSetLaneEyeScan]
  rw [if_neg (Nat.not_le.mpr hk), if_neg (by simp [he])]

/-! ### I2C buses (06 R294 to R296) -/

theorem setLaneI2cBind_binds (hk : 128 ≤ k) (hb : (decI2cBind c.block).bus ≤ 1) (ha : (decI2cBind c.block).address ≤ 127)
    (hs : (decI2cBind c.block).speed ≤ 2) :
    (specSetLaneI2cBind k).body c s = (okWith [], s.modLane k (fun l => { l with bind := decI2cBind c.block })) := by
  dsimp only [specSetLaneI2cBind]
  rw [if_neg (Nat.not_lt.mpr hk), if_neg (by simp [hb, ha, hs])]

/-- The transaction that a write asks of the device that a lane is bound to. -/
def State.writtenXact (s : State) (k : Nat) (block : Bytes) : I2cXact where
  lane := k
  number := (s.bus (s.lane k).bind.bus).next.toNat
  write := (block.drop 4).take (u8 block 1)
  rlen := u8 block 2
  flags := BitVec.ofNat 8 (u8 block 3)
  hook := false
  address := (s.lane k).bind.address
  speed := (s.lane k).bind.speed

/-- A transaction joins the queue of its bus, and its number is answered. -/
theorem writeLaneI2c_queues {b : I2cBind} (hb : b = (s.lane k).bind) (hk : 128 ≤ k) (hw : u8 c.block 1 ≤ 32) (hr : u8 c.block 2 ≤ 12)
    (ha : b.address ≠ 0) (hq : ((s.bus b.bus).queue.filter (fun x => !x.hook)).length < 16) (hl : b.bus < s.buses.length) :
    ∃ t : State, (specWriteLaneI2c k).body c s = (okWith (le 2 (s.bus b.bus).next.toNat ++ [0, 0]), t) ∧
      (t.bus b.bus).next = (s.bus b.bus).next + 1 ∧ (t.bus b.bus).queue = (s.bus b.bus).queue ++ [s.writtenXact k c.block] := by
  subst hb
  dsimp only [specWriteLaneI2c]
  rw [if_neg (Nat.not_lt.mpr hk), if_neg (by simp [hw, hr]), if_neg ha, if_neg (Nat.not_le.mpr hq)]
  refine ⟨_, rfl, ?_⟩
  split
  · rw [busStart_reads (fun t => t.bus (s.lane k).bind.bus) fun _ _ => rfl, State.bus_mod_self _ _ _ hl]
    exact ⟨rfl, rfl⟩
  · rw [State.bus_mod_self _ _ _ hl]
    exact ⟨rfl, rfl⟩

theorem setLaneRateHooks_sets (hk : 128 ≤ k) (hs : (decRateHooks c.block).countSd ≤ 4) (hd : (decRateHooks c.block).countHd ≤ 4) :
    (specSetLaneRateHooks k).body c s = (okWith [], s.modLane k (fun l => { l with hooks := decRateHooks c.block })) := by
  dsimp only [specSetLaneRateHooks]
  rw [if_neg (Nat.not_lt.mpr hk), if_neg (by simp [hs, hd])]

/-! ### The obligation -/

/-- Settles O53, each request by what its body makes of its lane. -/
theorem laneSettingsComplete : Obligations.LaneSettingsComplete := by
  refine ⟨fun r s h hk hd hw => ?rill, fun r s h hk ht hm hp => ?flume, fun r s x h hx hk hm hs hr => ?receive, fun r s h hk => ?asymmetry,
    fun r s h ht => ?tools, fun r s h hk he => ?eye, fun r s h hk hb ha hs => ?bind, fun r s b h hb hk hw hr ha room hq hl => ?i2c,
    fun r s h hk hs hd => ?hooks⟩
  case rill => exact congrArg _ (serve_gives h rfl (setLaneTransmit_rill hk hd hw) (Nat.zero_le _))
  case flume => exact congrArg _ (serve_gives h rfl (setLaneTransmit_flume hk ht hm hp) (Nat.zero_le _))
  case receive => exact serve_sets h rfl (setLaneReceive_sets hx hk hm hs hr)
  case asymmetry => exact congrArg _ (serve_gives h rfl (setLaneAsymmetry_sets hk) (Nat.zero_le _))
  case tools => exact serve_sets h rfl (setLaneTestTools_sets ht)
  case eye => exact congrArg _ (serve_gives h rfl (setLaneEyeScan_starts hk he) (Nat.zero_le _))
  case bind => exact congrArg _ (serve_gives h rfl (setLaneI2cBind_binds hk hb ha hs) (Nat.zero_le _))
  case hooks => exact congrArg _ (serve_gives h rfl (setLaneRateHooks_sets hk hs hd) (Nat.zero_le _))
  case i2c =>
    obtain ⟨t, hbody, hnext, hqueue⟩ := writeLaneI2c_queues (c := r.callIn s) hb hk hw hr ha hq hl
    refine ⟨t, congrArg _ (serve_gives h rfl hbody room), hnext, ?_⟩
    rw [hqueue, State.writtenXact, ← hb]
    rfl

end Sys2Proof.Machine
end

section
/-! PROOFS. Ethernet ports, the merge stage, PTP and RIST receivers: what each command makes of its port or flow. -/
namespace Sys2Proof.Machine

variable {s t : State} {p f l : Nat}

/-! ### Ports and flows of what leaves their tables alone -/

theorem port_of_except (h : t.except (allBut .ports) = s.except (allBut .ports)) (p : Nat) : t.port p = s.port p :=
  congrArg (fun x => tget (fun _ => PortSt.reset) x p) (show t.ports = s.ports by simpa [State.except, allBut] using congrArg State.ports h)

theorem flow_of_except (h : t.except (allBut .flows) = s.except (allBut .flows)) (f : Nat) : t.flow f = s.flow f :=
  congrArg (fun x => tget (fun _ => FlowSt.reset) x f) (show t.flows = s.flows by simpa [State.except, allBut] using congrArg State.flows h)

theorem linkOn_iff : s.linkOn p = true ↔ (s.port p).state = .up := beq_iff_eq

/-! ### Links (07 R306) -/

/-- A port whose link has come up at `now`. -/
def PortSt.linked (y : PortSt) (now : State) : PortSt :=
  { y with state := .up, localFault := false, remoteFault := false, upS := now.nowS, upNs := now.nowNs }

/-- What a port sends once its link is up: its addresses, and a report of each of its memberships. -/
def State.announceLink (s : State) (p : Nat) (c : PortCfg) : State :=
  let s1 := s.when (c.ipv4Prefix != 0) (fun t => t.emit (.portFrame p 2 c.ipv4))
  let s2 := s1.when (c.ipv6Prefix != 0) (fun t => t.emit (.portFrame p 3 c.ipv6))
  s2.each (s2.memberships p) (fun t g => t.reportNow p g)

theorem announceLink_reads {β : Type} (g : State → β) (h : ∀ t o, g (State.emit t o) = g t) (s : State) (p : Nat) (c : PortCfg) :
    g (s.announceLink p c) = g s :=
  (each_reads g _ _ _ fun _ _ => h _ _).trans ((when_reads g _ _ _ fun _ => h _ _).trans (when_reads g s _ _ fun _ => h _ _))

/-- A link comes up on the lanes as they are or as link training leaves them. -/
theorem linkUp_eq (hp : p < 64) (he : (s.port p).cfg.enable = 1) (hs : s.inService = true) (hl : s.linkOn p = false)
    (hr : s.lanesReady p = true) : ∃ u : State, s.linkUp p =
      (((u.modPort p (·.linked s)).clearAlarm almLinkDown p).event
        { code := 0x2110, noun := 0x21, index := p, data := le 1 (s.port p).cfg.config }).announceLink p (s.port p).cfg :=
  ⟨_, if_neg (by simp [hp, he, hs, hl, hr])⟩

theorem linkUp_comes (hp : p < 64) (he : (s.port p).cfg.enable = 1) (hs : s.inService = true) (hl : s.linkOn p = false)
    (hr : s.lanesReady p = true) :
    (s.linkUp p).linkOn p = true ∧ ((s.linkUp p).port p).upS = s.nowS ∧ (s.linkUp p).stands almLinkDown p = false := by
  obtain ⟨u, hu⟩ := linkUp_eq hp he hs hl hr
  rw [linkOn_iff, hu, announceLink_reads (fun t => t.port p) fun t o => State.emit_port t o p,
    announceLink_reads (fun t => t.stands almLinkDown p) fun t o => State.emit_stands t o _ _, State.event_port, State.event_stands,
    State.clearAlarm_port, State.port_mod_self]
  exact ⟨rfl, rfl, State.clearAlarm_stands_self _ _ _⟩

/-- A link that goes down adapts anew, shows the fault that its cause names, and has its alarm standing. -/
theorem linkDown_drops {cause : Nat} (hl : s.linkOn p = true) (hc : cause ≤ 3) :
    ((s.linkDown p cause).port p).state = .adapting ∧ ((s.linkDown p cause).port p).localFault = decide (cause = 2) ∧
      ((s.linkDown p cause).port p).remoteFault = decide (cause = 3) ∧ (s.linkDown p cause).stands almLinkDown p = true := by
  unfold State.linkDown State.dropLink
  dsimp only
  rw [if_pos (by simp [hl, hc]), State.event_port, State.count_port, State.raise_port, State.port_mod_self, State.event_stands,
    State.count_stands]
  exact ⟨rfl, rfl, rfl, State.raise_stands_self _ _ _⟩

/-! ### Frames of a port (07 R308) -/

section
variable {e : EthFrame} {rtcp : State → Bytes → Nat → Bytes → Option State} {level : State → State}

theorem frameIn_bad (hl : s.linkOn p = true) (hb : e.bad = true) :
    s.frameIn p e rtcp level = (s.count cntRxFrames p 1).count cntRxFcs p 1 := by
  unfold State.frameIn
  dsimp only
  rw [if_neg (by simp [hl]), if_pos hb]

variable (hl : s.linkOn p = true) (hb : e.bad = false)
include hl hb

theorem frameIn_oversize (hn : (s.port p).cfg.maxFrame < e.len) :
    s.frameIn p e rtcp level = (s.count cntRxFrames p 1).count cntRxOversize p 1 := by
  unfold State.frameIn
  dsimp only
  rw [if_neg (by simp [hl]), if_neg (by simp [hb]), if_pos hn]

variable (hn : e.len ≤ (s.port p).cfg.maxFrame)
include hn

/-- A quality level that a port receives is kept with its instant, and the references are judged by it. -/
theorem frameIn_esmc {ssm : Nat} (he : e.body = .esmc ssm) : s.frameIn p e rtcp level =
    level ((s.count cntRxFrames p 1).modPort p (fun x => { x with ssm := ssm, ssmNs := s.nowNs })) := by
  unfold State.frameIn
  dsimp only
  rw [if_neg (by simp [hl]), if_neg (by simp [hb]), if_neg (Nat.not_lt.mpr hn), he]

/-- A datagram that a port without a PTP role accepts goes to the entry and leg that match it. -/
theorem frameIn_matched {v6 : Bool} {src dst b : Bytes} {sp dp l : Nat} (he : e.body = .udp v6 src dst sp dp b)
    (hm : s.macAccepted p e.dstMac = true) (hr : (s.port p).ptp.role = 0)
    (hf : (s.count cntRxFrames p 1).flowMatch p e.vlan v6 src dst sp dp = some (f, l)) :
    s.frameIn p e rtcp level = (s.count cntRxFrames p 1).flowPacket f l e.len b := by
  unfold State.frameIn
  dsimp only
  rw [if_neg (by simp [hl]), if_neg (by simp [hb]), if_neg (Nat.not_lt.mpr hn), he]
  dsimp only
  rw [if_neg (by simp [hm]), if_neg (by simp [hr]), hf]

end

theorem judgeRanks_port (s : State) (p : Nat) : s.judgeRanks.port p = s.port p := by
  refine port_of_except ?_ p
  unfold State.judgeRanks
  split
  · rfl
  · refine State.each_except _ _ _ _ fun t k => ?_
    rw [State.except_ite, State.disqualify_except _ rfl rfl rfl, State.modRef_except _ rfl, ite_self]

/-! ### The merge stage (07 R320, R321) -/

/-- A packet whose number the stage of its flow does not hold enters it, where no packet has left the stage yet. -/
theorem mergeIn_enters {r : Rtp} (b : Bytes) (hd : ((s.flow f).merge.any (fun q => q.seq == r.seq)) = false)
    (hn : (s.flow f).nextSeq = none) : { seq := r.seq, leg := l, atNs := s.nowNs, stamp := r.stamp, marker := r.marker, bytes := b } ∈
      ((s.mergeIn f l r b).flow f).merge := by
  unfold State.mergeIn
  dsimp only
  rw [if_neg (by simp [hd]), hn, if_neg (by simp), State.flow_mod_self]
  simp

/-- What a packet carries reaches its flow's samples, rows or buffer; the merge stage is left as it is. -/
theorem deliverPacket_stage (s : State) (f gap : Nat) (q : Packet) : ((s.deliverPacket f gap q).flow f).merge = (s.flow f).merge ∧
    ((s.deliverPacket f gap q).flow f).nextSeq = (s.flow f).nextSeq := by
  have video (x : FlowSt) (inter : Bool) (g : List Segment) : (x.takeVideo inter q.stamp q.marker g).merge = x.merge ∧
      (x.takeVideo inter q.stamp q.marker g).nextSeq = x.nextSeq := by
    unfold FlowSt.takeVideo
    dsimp only
    split <;> exact ⟨rfl, rfl⟩
  unfold State.deliverPacket
  dsimp only
  split
  · rw [State.flow_mod_self]
    exact video _ _ _
  split
  · rw [State.flow_mod_self]
    exact ⟨rfl, rfl⟩
  split
  · exact ⟨rfl, rfl⟩
  split
  · rw [flow_of_except (State.forwardOpaque_except _ rfl s _ _)]
    exact ⟨rfl, rfl⟩
  split
  · rw [State.flow_mod_self]
    exact ⟨rfl, rfl⟩
  · exact ⟨rfl, rfl⟩

/-- The state in which the first packet has left the merge stage of its flow, at its arrival plus the hold. -/
def State.stagePassed (s : State) (f : Nat) (q : Packet) (rest : List Packet) : State :=
  (s.advanceTo (q.atNs + holdNs (s.flow f).cfg.kind)).modFlow f
    (fun y => { y with merge := rest, nextSeq := some ((q.seq + 1) % seqSpan (s.flow f).cfg.kind) })

/-- After the first packet has left its stage, what is lost is counted, a source notes the instant, and the packet is delivered. -/
theorem mergeRelease_reads {β : Type} (g : State → β) (hc : ∀ t i u n, g (State.count t i u n) = g t)
    (hs : ∀ t k h, g (State.modSrc t k h) = g t) {q : Packet} {rest : List Packet} (hd : ∀ t n, g (State.deliverPacket t f n q) = g t)
    (hq : (s.flow f).merge = q :: rest) : g (s.mergeRelease f) = g (s.stagePassed f q rest) := by
  unfold State.mergeRelease
  dsimp only
  rw [hq]
  exact (hd _ _).trans ((when_reads g _ _ _ fun t => hs t _ _).trans ((when_reads g _ _ _ fun t => hc t _ _ _).trans
    (when_reads g _ _ _ fun t => hc t _ _ _)))

theorem mergeRelease_releases {q : Packet} {rest : List Packet} (hq : (s.flow f).merge = q :: rest) :
    (s.mergeRelease f).time = (s.advanceTo (q.atNs + holdNs (s.flow f).cfg.kind)).time ∧ ((s.mergeRelease f).flow f).merge = rest ∧
      ((s.mergeRelease f).flow f).nextSeq = some ((q.seq + 1) % seqSpan (s.flow f).cfg.kind) := by
  have stage := mergeRelease_reads (fun t => ((t.flow f).merge, (t.flow f).nextSeq)) (fun _ _ _ _ => rfl) (fun _ _ _ => rfl)
    (fun t n => Prod.ext (deliverPacket_stage t f n q).1 (deliverPacket_stage t f n q).2) hq
  rw [State.stagePassed, State.flow_mod_self, Prod.mk.injEq] at stage
  exact ⟨mergeRelease_reads (fun t => t.time) (fun _ _ _ _ => rfl) (fun _ _ _ => rfl)
    (fun t n => time_of_except (State.deliverPacket_except _ rfl rfl rfl t f n q)) hq, stage⟩

/-- A leg of a protected flow that has gone without a packet for 4 ms, while the other has had one, has its alarm standing then. -/
theorem legLoss_reports (hf : f < 8192) (hl : l < 2) (he : (s.flow f).cfg.enabled = true) (hg : (s.flow f).cfg.guarded = true)
    (ha : s.stands almLegLoss (legKey f l) = false)
    (ho : ((s.flow f).legs.getD l LegSt.reset).lastNs ≤ ((s.flow f).legs.getD (1 - l) LegSt.reset).lastNs)
    (hn : ((s.flow f).legs.getD (1 - l) LegSt.reset).lastNs ≠ 0) : (s.legLoss f l).stands almLegLoss (legKey f l) = true ∧
      (s.legLoss f l).time = (s.advanceTo (((s.flow f).legs.getD l LegSt.reset).lastNs + 4000000)).time := by
  unfold State.legLoss
  dsimp only
  rw [if_pos (by simpa [hf, hl, he, hg, ha] using ⟨ho, hn⟩), State.event_stands, State.modFlow_stands, State.event_time, State.modFlow_time,
    State.raise_time]
  exact ⟨State.raise_stands_self _ _ _, rfl⟩

/-- The alarm of a leg ends once it has received without a gap for 100 ms. -/
theorem legReturn_ends (hl : l < 2) (ha : s.stands almLegLoss (legKey f l) = true)
    (hn : ((s.flow f).legs.getD l LegSt.reset).lastNs ≠ 0) : (s.legReturn f l).stands almLegLoss (legKey f l) = false ∧
      (s.legReturn f l).time = (s.advanceTo (((s.flow f).legs.getD l LegSt.reset).since + 100000000)).time := by
  unfold State.legReturn
  dsimp only
  rw [if_pos (by simpa [hl, ha] using hn), State.event_stands, State.event_time, State.clearAlarm_time]
  exact ⟨State.clearAlarm_stands_self _ _ _, rfl⟩

/-! ### Membership reports (07 R328) -/

theorem reportRepeat_repeats {n : Nat} {g : Bytes} {rest : List (Nat × Bytes)} (hr : (s.port p).repeats = (n, g) :: rest) :
    ((s.reportRepeat p).port p).repeats = rest ∧ (s.reportRepeat p).time = (s.advanceTo n).time ∧
      (s.linkOn p = true → (s.reportRepeat p).out = .portFrame p 0 g :: s.out) := by
  have link : ((s.advanceTo n).modPort p (fun x => { x with repeats := rest })).linkOn p = s.linkOn p := by
    rw [State.linkOn, State.port_mod_self, State.advanceTo_port, State.linkOn]
  unfold State.reportRepeat
  rw [hr]
  dsimp only
  rw [link]
  cases s.linkOn p
  · rw [if_neg (by simp), State.port_mod_self]
    exact ⟨rfl, rfl, by simp⟩
  · rw [if_pos rfl, State.emit_port, State.port_mod_self]
    exact ⟨rfl, rfl, fun _ => rfl⟩

/-! ### The PTP follower (07 R330) -/

theorem ptpIn_otherDomain {m : PtpMessage} (hl : s.linkOn p = true) (hn : m.len ≤ (s.port p).cfg.maxFrame) (hr : (s.port p).ptp.role ≠ 0)
    (hd : m.domainNumber ≠ (s.port p).ptp.domainNumber) : s.ptpIn p m = (s.count cntRxFrames p 1).count cntPtpUnsupported p 1 := by
  unfold State.ptpIn
  dsimp only
  rw [if_neg (by simp [hl]), if_neg (Nat.not_lt.mpr hn), if_neg hr, if_pos (by simp [hd])]

theorem chooseMaster_port (s : State) (p : Nat) (m : Option PtpMaster) :
    ((s.chooseMaster p m).port p).master = m ∧ ((s.chooseMaster p m).port p).masters = (s.port p).masters := by
  unfold State.chooseMaster
  dsimp only
  split
  · split
    · rw [State.port_mod_self]
      exact ⟨rfl, rfl⟩
    · rw [State.event_port, State.port_mod_self]
      exact ⟨rfl, rfl⟩
  · rw [State.port_mod_self]
    exact ⟨rfl, rfl⟩

/-- The masters that a port knows but for one. -/
def PortSt.mastersBut (x : PortSt) (identity : Nat) : List PtpMaster := x.masters.filter (fun b => b.identity != identity)

/-- The masters that a port knows after an Announce: its sender as it shows itself now, and the others. -/
def PortSt.mastersWith (x : PortSt) (m : PtpMessage) : List PtpMaster := masterOf m :: x.mastersBut m.identity

/-- A follower that hears an Announce chooses the best of the masters that it then holds. -/
theorem followerMessage_announce {m : PtpMessage} (hk : m.kind = .announce) : s.followerMessage p m =
    (s.modPort p (fun y => { y with masters := (s.port p).mastersWith m })).chooseMaster p (bestMaster ((s.port p).mastersWith m)) := by
  unfold State.followerMessage
  dsimp only
  rw [hk]
  rfl

/-- A port that follows, and is no transparent clock, takes a message of its domain as a follower alone. -/
theorem ptpIn_follows {m : PtpMessage} (hn : m.len ≤ (s.port p).cfg.maxFrame) (hr : (s.port p).ptp.role = 1)
    (hk : m.kind ≠ .unsupported) (hd : m.domainNumber = (s.port p).ptp.domainNumber) (hf : s.follows p = true) :
    s.ptpIn p m = (s.count cntRxFrames p 1).followerMessage p m := by
  have hl : s.linkOn p = true := by
    rw [State.follows, Bool.and_eq_true] at hf
    exact hf.2
  unfold State.ptpIn
  dsimp only
  rw [if_neg (by simp [hl]), if_neg (Nat.not_lt.mpr hn), if_neg (by simp [hr]), if_neg (by simp [hk, hd]), hf, hr]
  rfl

theorem follows_of_duty (hr : (s.port p).ptp.role = 1) (hd : s.dutyPlane = some (portPlane p)) (hl : s.linkOn p = true) :
    s.follows p = true := by
  simp [State.follows, hr, hd, hl]

theorem ptpIn_announce {m : PtpMessage} (hl : s.linkOn p = true) (hn : m.len ≤ (s.port p).cfg.maxFrame) (hr : (s.port p).ptp.role = 1)
    (hk : m.kind = .announce) (hd : m.domainNumber = (s.port p).ptp.domainNumber) (hp : s.dutyPlane = some (portPlane p)) :
    ((s.ptpIn p m).port p).master = bestMaster ((s.port p).mastersWith m) := by
  rw [ptpIn_follows hn hr (by simp [hk]) hd (follows_of_duty hr hp hl), followerMessage_announce hk]
  exact (chooseMaster_port _ _ _).1

theorem delayReq_asks {m : PtpMaster} (hm : (s.port p).master = some m) (hf : s.follows p = true) :
    ((s.delayReq p).port p).reqOut = true ∧ ((s.delayReq p).port p).reqSeq = ((s.port p).reqSeq + 1) % 65536 ∧
      (s.delayReq p).out = .portFrame p 5 (be 8 m.identity) :: s.out := by
  unfold State.delayReq
  rw [hm]
  dsimp only
  rw [if_pos hf, State.emit_port, State.port_mod_self]
  exact ⟨rfl, rfl, rfl⟩

/-- A follower forgets the master that is silent, and chooses another. -/
theorem announceTimeout_eq {m : PtpMaster} (best : PtpMaster) (hm : (s.port p).master = some m) (hf : s.follows p = true) :
    s.announceTimeout p best = (s.modPort p (fun x => { x with masters := (s.port p).mastersBut m.identity })).chooseMaster p
      (if best.identity = 0 then bestMaster ((s.port p).mastersBut m.identity) else some best) := by
  unfold State.announceTimeout
  rw [hm]
  exact if_pos hf

theorem announceTimeout_leaves {m : PtpMaster} (best : PtpMaster) (hm : (s.port p).master = some m) (hf : s.follows p = true) :
    ((s.announceTimeout p best).port p).master =
        (if best.identity = 0 then bestMaster ((s.port p).mastersBut m.identity) else some best) ∧
      ((s.announceTimeout p best).port p).masters = (s.port p).mastersBut m.identity := by
  obtain ⟨master, masters⟩ := chooseMaster_port (s.modPort p (fun x => { x with masters := (s.port p).mastersBut m.identity })) p
    (if best.identity = 0 then bestMaster ((s.port p).mastersBut m.identity) else some best)
  rw [State.port_mod_self] at masters
  rw [announceTimeout_eq best hm hf]
  exact ⟨master, masters⟩

/-! ### RIST receivers and decoder inputs (07 R324) -/

/-- A report asks for the packets that the receiver misses; sending it on each leg leaves the flow as it is. -/
theorem receiverReport_asks (hf : f < 8192) (he : (s.flow f).cfg.enabled = true) (hk : (s.flow f).cfg.kind = 0x08)
    (hc : s.coresRun = true) : ((s.receiverReport f).flow f).nackReq = (if u16 (s.flow f).cfg.params 2 = 0 then []
        else missingSeqs s.nowNs (u16 (s.flow f).cfg.params 2 * 1000000) ((s.flow f).buffer ++ (s.flow f).merge)) := by
  unfold State.receiverReport
  dsimp only
  rw [if_pos (by simp [hf, he, hk, hc]), each_reads (fun t => t.flow f) _ _ _ fun t l => State.emit_flow t _ f, State.flow_mod_self]

/-- The oldest packet of a receive buffer leaves it buffer_ms after its arrival. -/
theorem decoderInput_passes {q : Packet} {rest : List Packet} (hb : (s.flow f).buffer = q :: rest)
    (hk : (s.flow f).cfg.kind = 0x07 ∨ (s.flow f).cfg.kind = 0x08) (hc : s.coresRun = true) : ((s.decoderInput f).flow f).buffer = rest ∧
      (s.decoderInput f).time = (s.advanceTo (q.atNs + u16 (s.flow f).cfg.params 0 * 1000000)).time := by
  unfold State.decoderInput
  dsimp only
  rw [if_neg (by rcases hk with h | h <;> simp [h, hc]), hb]
  dsimp only
  rw [State.emit_flow, State.modCtx_flow, State.flow_mod_self]
  exact ⟨rfl, rfl⟩

/-- Beyond the input itself, the decode partitions that it brings touch Rider and what it serves alone. -/
theorem decoderRelease_except_input {pt : Field → Bool} (hcores : pt .cores = true) (hfree : pt .freeCtr = true)
    (hhost : pt .hostFlows = true) (hjobs : pt .jobs = true) (hrends : pt .rends = true) (hriders : pt .riders = true) (s : State)
    (f : Nat) : (s.decoderRelease f).except pt = (s.decoderInput f).except pt := by
  unfold State.decoderRelease
  dsimp only
  split
  · rfl
  · rw [State.riderServe_except _ hcores hfree hhost hjobs hrends hriders,
      State.each_except _ _ _ _ fun t i => State.offer_except _ hcores hriders t _ _, State.free_except _ hfree]

theorem decoderRelease_passes {q : Packet} {rest : List Packet} (hb : (s.flow f).buffer = q :: rest)
    (hk : (s.flow f).cfg.kind = 0x07 ∨ (s.flow f).cfg.kind = 0x08) (hc : s.coresRun = true) : ((s.decoderRelease f).flow f).buffer = rest ∧
      (s.decoderRelease f).time = (s.advanceTo (q.atNs + u16 (s.flow f).cfg.params 0 * 1000000)).time := by
  rw [flow_of_except (decoderRelease_except_input rfl rfl rfl rfl rfl rfl s f),
    time_of_except (decoderRelease_except_input rfl rfl rfl rfl rfl rfl s f)]
  exact decoderInput_passes hb hk hc

/-! ### The obligation -/

/-- Settles O44, each command by what it makes of its port or flow. -/
theorem networkCommandsComplete : Obligations.NetworkCommandsComplete := by
  refine ⟨fun p s hp he hs hl hr => ⟨_, rfl, linkUp_comes hp he hs hl hr⟩, fun p cause s hl hc => ⟨_, rfl, linkDown_drops hl hc⟩,
    fun p e s hl hb => congrArg Host.Outcome.next (frameIn_bad hl hb),
    fun p e s hl hb hn => congrArg Host.Outcome.next (frameIn_oversize hl hb hn), fun p e ssm s hl hb hn he => ?esmc,
    fun p e v6 src dst sp dp b f l s hl hb hn he hm hr hf => congrArg Host.Outcome.next (frameIn_matched hl hb hn he hm hr hf),
    fun f l r b s hd hn => ⟨_, mergeIn_enters b hd hn, rfl, rfl, rfl, rfl⟩, fun f q rest s hq => ⟨_, rfl, mergeRelease_releases hq⟩,
    fun f l s hf hl he hg ha ho hn => ⟨_, rfl, legLoss_reports hf hl he hg ha ho hn⟩,
    fun f l s hl ha hn => ⟨_, rfl, legReturn_ends hl ha hn⟩, fun p n g rest s hr => ⟨_, rfl, reportRepeat_repeats hr⟩,
    fun p m s hl hn hr hd => congrArg Host.Outcome.next (ptpIn_otherDomain hl hn hr hd),
    fun p m s hl hn hr hk hd hp => ⟨_, rfl, ptpIn_announce hl hn hr hk hd hp⟩, fun p m s hm hf => ⟨_, rfl, delayReq_asks hm hf⟩,
    fun p best m s hm hf => ⟨_, rfl, announceTimeout_leaves best hm hf⟩, fun f s hf he hk hc => ⟨_, rfl, receiverReport_asks hf he hk hc⟩,
    fun f q rest s hb hk hc => ⟨_, rfl, decoderRelease_passes hb hk hc⟩⟩
  case esmc =>
    refine ⟨_, congrArg Host.Outcome.next (frameIn_esmc hl hb hn he), ?_⟩
    rw [judgeRanks_port, State.port_mod_self]
    exact ⟨rfl, rfl⟩

end Sys2Proof.Machine
end

section
/-! PROOFS. Turnout and Levee: what each command makes of the queues and the gate of a port, of a send flow, of a plane and of the lease. -/
namespace Sys2Proof.Machine

variable {s t : State} {p q f k n h : Nat}

/-! ### Gates, planes, the lease and alarms of what leaves their parts alone -/

theorem gate_of_except (h : t.except (allBut .gates) = s.except (allBut .gates)) (p : Nat) : t.gate p = s.gate p :=
  congrArg (fun x => tget (fun _ => GateSt.reset) x p) (show t.gates = s.gates by simpa [State.except, allBut] using congrArg State.gates h)

theorem planes_of_except (h : t.except (allBut .planes) = s.except (allBut .planes)) : t.planes = s.planes := by
  simpa [State.except, allBut] using congrArg State.planes h

theorem levee_of_except (h : t.except (allBut .levee) = s.except (allBut .levee)) : t.levee = s.levee := by
  simpa [State.except, allBut] using congrArg State.levee h

theorem alarms_of_except (h : t.except (allBut .alarms) = s.except (allBut .alarms)) : t.alarms = s.alarms := by
  simpa [State.except, allBut] using congrArg State.alarms h

/-! ### Queues of a port (08 R340 to R346) -/

section
variable {e : EgressFrame}

/-- Frames of the block and PTP event messages enter a strict queue, queue 0 or 1. -/
theorem classify_lt (hs : e.source = .general ∨ e.source = .ptpEvent) : s.classify p e.source < 2 := by
  rcases hs with h | h <;> rw [h]
  · exact Nat.one_lt_two
  · exact Nat.zero_lt_two

/-- What a port that is up makes of a frame of no flow: the tail drop, the frame too long for its gate, or the frame queued. -/
theorem enqueue_flowless (hl : s.linkOn p = true) (hs : e.source = .general ∨ e.source = .ptpEvent)
    (hk : k = 12 * p + s.classify p e.source) : s.enqueue p e =
      if (s.queue k).depth + e.len > (s.queue k).cfg.limit then s.count cntQTailDrop k 1
      else if s.oversize p (s.classify p e.source) e.len then s.count cntGateOversize k 1
      else s.modQueue k (fun y => { y with frames := y.frames ++ [{ len := e.len, atNs := s.nowNs, flow := 0xFFFF, duty := false }] }) := by
  have strict : ¬ 4 ≤ s.classify p e.source := by have := classify_lt (s := s) (p := p) hs; omega
  subst hk
  unfold State.enqueue
  dsimp only
  rw [if_neg (by simp [hl])]
  rcases hs with h | h
  all_goals
    rw [h] at strict ⊢
    simp [strict]

theorem egressIn_enqueues (hp : s.portPresent p = true) (he : (s.port p).cfg.enable = 1) : s.egressIn p e = s.enqueue p e :=
  if_pos (by simp [hp, he])

theorem egressIn_queues (hp : s.portPresent p = true) (he : (s.port p).cfg.enable = 1) (hl : s.linkOn p = true)
    (hs : e.source = .general ∨ e.source = .ptpEvent) (hk : k = 12 * p + s.classify p e.source)
    (hd : (s.queue k).depth + e.len ≤ (s.queue k).cfg.limit) (ho : s.oversize p (s.classify p e.source) e.len = false) :
    s.egressIn p e = s.modQueue k (fun y => { y with
      frames := y.frames ++ [{ len := e.len, atNs := s.nowNs, flow := 0xFFFF, duty := false }] }) := by
  rw [egressIn_enqueues hp he, enqueue_flowless hl hs hk, if_neg (Nat.not_lt.mpr hd), if_neg (by simp [ho])]

theorem egressIn_tailDrops (hp : s.portPresent p = true) (he : (s.port p).cfg.enable = 1) (hl : s.linkOn p = true)
    (hs : e.source = .general ∨ e.source = .ptpEvent) (hk : k = 12 * p + s.classify p e.source)
    (hd : (s.queue k).cfg.limit < (s.queue k).depth + e.len) : s.egressIn p e = s.count cntQTailDrop k 1 := by
  rw [egressIn_enqueues hp he, enqueue_flowless hl hs hk, if_pos hd]

end

theorem sendHead_sends {g : QFrame} {rest : List QFrame} (hg : (s.queue (12 * p + q)).frames = g :: rest) :
    ((s.sendHead p q).queue (12 * p + q)).frames = rest ∧ (s.sendHead p q).out = .line p g.flow g.len :: s.out ∧
      (s.sendHead p q).time = s.time := by
  unfold State.sendHead
  dsimp only
  rw [hg]
  dsimp only
  rw [State.emit_queue, State.count_queue, when_reads (fun t => t.queue (12 * p + q)) _ _ _ fun t => State.count_queue t _ _ _ _,
    State.modGate_queue, State.queue_mod_self]
  exact ⟨rfl, congrArg _ (when_reads (fun t => t.out) _ _ _ fun t => State.count_out t _ _ _),
    when_reads (fun t => t.time) _ _ _ fun t => State.count_time t _ _ _⟩

/-- The first of the strict queues whose head may start now sends it. -/
theorem egressSelect_strict {u : State} (hl : s.linkOn p = true) (hu : u = (s.advanceTo (s.gate p).freeNs).dropOversize p)
    (hq : [0, 1, 2, 3].find? (u.eligible p) = some q) : s.egressSelect p = u.sendHead p q := by
  unfold State.egressSelect
  dsimp only
  rw [if_neg (by simp [hl]), ← hu, hq]

/-- The heads queued past the bound of their queue at the instant that the first of them reaches it leave, counted. -/
theorem delayDrop_eq {g : QFrame} {rest : List QFrame} {u : State} (hg : (s.queue k).frames = g :: rest)
    (hb : (s.queue k).cfg.delayBound ≠ 0) (hu : u = s.advanceTo (g.atNs + (s.queue k).cfg.delayBound * 1000)) :
    ∃ m, s.delayDrop k = (u.modQueue k (fun y => { y with
      frames := (s.queue k).frames.dropWhile (fun y => y.atNs + (s.queue k).cfg.delayBound * 1000 ≤ u.nowNs) })).count cntQDelayDrop k m := by
  subst hu
  unfold State.delayDrop
  dsimp only
  split
  case h_1 g' rest' he =>
    obtain ⟨rfl, -⟩ := List.cons.inj (he.symm.trans hg)
    exact ⟨_, if_neg hb⟩
  case h_2 he => exact absurd (hg.symm.trans he) (List.cons_ne_nil _ _)

theorem delayDrop_drops {g : QFrame} {rest : List QFrame} (hg : (s.queue k).frames = g :: rest) (hb : (s.queue k).cfg.delayBound ≠ 0) :
    (s.delayDrop k).time = (s.advanceTo (g.atNs + (s.queue k).cfg.delayBound * 1000)).time ∧
      ((s.delayDrop k).queue k).frames =
        (s.queue k).frames.dropWhile (fun y => y.atNs + (s.queue k).cfg.delayBound * 1000 ≤ (s.delayDrop k).nowNs) := by
  obtain ⟨m, hm⟩ := delayDrop_eq hg hb rfl
  rw [hm, State.count_queue, State.queue_mod_self]
  exact ⟨rfl, rfl⟩

/-! ### Gate lists (08 R351, R352) -/

theorem gateChange_moves (hn : nextGateChange (s.gate p).live (s.gate p).startNs (max (s.gate p).changeNs (s.gate p).startNs) = some n) :
    s.gateChange p = (s.advanceTo n).modGate p (fun x => { x with changeNs := n }) := by
  unfold State.gateChange
  dsimp only
  rw [hn]

/-- A list that becomes operational is the live one from its takeover on, and none is pending. -/
theorem gateTakes_gate (s : State) (p : Nat) (c : GateCfg) (ns : Nat) :
    (s.gateTakes p c ns).gate p = { s.gate p with live := c, startNs := ns, changeNs := ns, pending := none, takeover := 0 } := by
  rw [State.gateTakes, gate_of_except (State.dropOversize_except _ rfl _ _), State.event_gate, State.gate_mod_self]

theorem gateTakes_time (s : State) (p : Nat) (c : GateCfg) (ns : Nat) : (s.gateTakes p c ns).time = s.time :=
  time_of_except (State.gateTakes_except _ rfl rfl _ _ _ _)

theorem gateTakeover_takes {c : GateCfg} (hc : (s.gate p).pending = some c) :
    s.gateTakeover p = (s.advanceTo (s.gate p).takeover).gateTakes p c (s.gate p).takeover := by
  unfold State.gateTakeover
  rw [hc]

/-! ### Sampling (08 R356) -/

/-- In a run of changes that each touch the reading of one element alone, an element is changed once, from its reading before the run. -/
theorem each_once {α β : Type} {g : State → α → β} {f : State → α → State} (keeps : ∀ t x y, x ≠ y → g (f t y) x = g t x)
    {l : List α} (hl : l.Nodup) {x : α} (hx : x ∈ l) (s : State) : ∃ t, g t x = g s x ∧ g (s.each l f) x = g (f t x) x := by
  have stays (l : List α) (t : State) (hx : x ∉ l) : g (t.each l f) x = g t x := by
    induction l generalizing t with
    | nil => rfl
    | cons y l ih => exact (ih (f t y) (List.not_mem_of_not_mem_cons hx)).trans (keeps t x y (List.ne_of_not_mem_cons hx))
  induction l generalizing s with
  | nil => exact absurd hx List.not_mem_nil
  | cons y l ih =>
    obtain ⟨hy, hl⟩ := List.nodup_cons.mp hl
    rcases List.mem_cons.mp hx with rfl | hx
    · exact ⟨s, rfl, stays l (f s x) hy⟩
    · obtain ⟨t, ht, he⟩ := ih hl hx (f s y)
      exact ⟨t, ht.trans (keeps s x y fun e => hy (e ▸ hx)), he⟩

theorem queueSample_samples (hp : s.portPresent p = true) (he : (s.port p).cfg.enable = 1) (hq : q < 12) :
    ((s.queueSample p).queue (12 * p + q)).samples = min counterMax ((s.queue (12 * p + q)).samples + 1) ∧
      ((s.queueSample p).queue (12 * p + q)).depthMax = max (s.queue (12 * p + q)).depthMax (s.queue (12 * p + q)).depth ∧
      ((s.queueSample p).queue (12 * p + q)).frames = (s.queue (12 * p + q)).frames := by
  have distinct : ((List.range 12).map (12 * p + ·)).Nodup :=
    List.pairwise_map.mpr (List.nodup_range.imp fun hne heq => hne (Nat.add_left_cancel heq))
  unfold State.queueSample
  dsimp only
  rw [if_pos (by simp [hp, he])]
  obtain ⟨t, ht, hs⟩ := each_once (g := fun t k => t.queue k) (fun t x y hxy => State.queue_mod_other t y x _ hxy)
    distinct (List.mem_map_of_mem (List.mem_range.mpr hq))
    (s.advanceTo (cdiv s.nowNs 1000000 * 1000000))
  rw [hs, State.queue_mod_self, ht, State.advanceTo_queue]
  exact ⟨rfl, rfl, rfl⟩

/-! ### Release of packets (08 R347, R348) -/

theorem sendAs_flow (s : State) (f g : Nat) (c : FlowCfg) (b : Bytes) : (s.sendAs g c b).flow f = s.flow f :=
  flow_of_except (State.sendAs_except _ rfl _ _ _ _) f

theorem pacerRelease_releases {j : Nat} {c : FlowCfg} {r : Raster} (hc : c = (s.flow f).old.getD (s.flow f).cfg)
    (hr : rasterOf (s.dstFmt c.binding).raster = some r) (hf : 8192 ≤ f) (he : c.enabled = true) (hk : c.kind = 0x01)
    (hs : s.inService = true) (hd : s.domainOn (s.dst c.binding).domain = true) (hw : (s.flow f).waits = false)
    (hj : j < r.height * linePackets c (s.dstFmt c.binding) r.width) :
    ((s.pacerRelease f j).flow f).paced = j + 1 ∧ ((s.pacerRelease f j).flow f).txSeq = (s.flow f).txSeq + 1 := by
  unfold State.pacerRelease
  dsimp only
  rw [← hc, hr]
  dsimp only
  rw [if_pos (by simp [hf, he, hk, hs, hd, hj]), if_neg (by simp [hw]), sendAs_flow, State.flow_mod_self, State.advanceTo_flow]
  exact ⟨rfl, rfl⟩

theorem audioAncRelease_releases {line : Nat} (audio : List (List Int)) (status : List (List Bool)) {c : FlowCfg} (hc : c = s.releaseEntry f)
    (hf : 8192 ≤ f) (he : c.enabled = true) (hs : s.inService = true)
    (hk : c.kind = 0x02 ∨ c.kind = 0x03 ∨ (c.kind = 0x04 ∧ s.ancOn c.binding line ≠ [])) :
    ((s.audioAncRelease f line audio status).flow f).txSeq = (s.flow f).txSeq + 1 := by
  have sends (b : Bytes) : (((s.modFlow f (fun y => { y with txSeq := y.txSeq + 1 })).sendAs f c b).flow f).txSeq = (s.flow f).txSeq + 1 := by
    rw [sendAs_flow, State.flow_mod_self]
  have kind : within c.kind 2 4 = true := by rcases hk with h | h | ⟨h, -⟩ <;> rw [h] <;> rfl
  unfold State.audioAncRelease
  dsimp only
  rw [← hc, if_neg (by simp [hf, he, hs, kind])]
  rcases hk with h | h | ⟨h, anc⟩
  · rw [if_neg (by simp [h])]
    exact sends _
  · rw [if_neg (by simp [h])]
    exact sends _
  · rw [if_pos h, if_neg (by simpa using anc)]
    exact sends _

/-! ### The lease (08 R361, R367) -/

theorem leaseRenew_renews {u : State} (hh : s.levee.holder = some n) (hg : s.levee.gaveUp = false) (hf : s.isFenced .control n = false)
    (hu : u = s.advanceTo (s.levee.renewed + 5000000)) (he : u.nowNs < s.levee.expiry) :
    s.leaseRenew n = { u with levee := { u.levee with renewed := u.nowNs, expiry := u.nowNs + 20000000 } } := by
  unfold State.leaseRenew
  dsimp only
  rw [if_pos (by simp [hh, hg, hf]), ← hu, if_pos he]

/-- The lease as a grant to plane `n` leaves it. -/
def State.granted (s : State) (n : Nat) : Prop :=
  s.levee.holder = some n ∧ s.levee.gaveUp = false ∧ s.levee.expiry = s.nowNs + 20000000 ∧ s.stands almRightNone 0 = false

theorem takeUp_levee (old s : State) (n : Nat) : (State.takeUp old s n).levee = s.levee :=
  levee_of_except (State.takeUp_except _ rfl rfl _ _ _)

theorem takeUp_stands (old s : State) (n i u : Nat) : (State.takeUp old s n).stands i u = s.stands i u := by
  rw [State.stands, State.alarm, alarms_of_except (State.takeUp_except _ rfl rfl _ _ _), State.stands, State.alarm]

theorem grant_time (s : State) (n kind : Nat) : (s.grant n kind).time = s.time :=
  time_of_except (State.grant_except _ rfl rfl rfl rfl rfl rfl rfl _ _ _)

theorem grant_granted (s : State) (n kind : Nat) : (s.grant n kind).granted n := by
  have now : (s.grant n kind).nowNs = s.nowNs := by rw [State.nowNs, grant_time, State.nowNs]
  rw [State.granted, now]
  unfold State.grant
  dsimp only
  rw [takeUp_levee, takeUp_stands, State.event_levee, State.interrupt_levee, State.count_levee, State.clearAlarm_levee, State.modPlane_levee,
    State.event_stands, State.interrupt_stands, State.count_stands]
  exact ⟨rfl, rfl, rfl, State.clearAlarm_stands_self _ _ _⟩

/-- The arbiter grants a free lease to the plane that claims it; with none that does, nobody holds the right. -/
def State.award (s : State) : State :=
  match s.claimant with
  | some n => s.grant n 0
  | none => (s.raise almRightNone 0).event { code := 0x2514, noun := 0x25, index := 0xFFFFFFFF }

theorem claimant_none (h0 : (s.plane 0).request = false) (h1 : (s.plane 1).request = false) : s.claimant = none := by
  unfold State.claimant
  rw [h0, h1]

theorem claimant_one (hn : n < 2) (hr : (s.plane n).request = true) (ho : (s.plane (1 - n)).request = false) : s.claimant = some n := by
  unfold State.claimant
  match n, hn with
  | 0, _ => rw [hr, ho]
  | 1, _ => rw [hr, ho]

/-- When the duties of a holder stop, the bridge, the lease and the queues change, and nothing else. -/
theorem dutiesStop_except {pt : Field → Bool} (hhg : pt .hg = true) (hlevee : pt .levee = true) (hqueues : pt .queues = true) (s : State)
    (n : Nat) (x : Levee) (l : List Nat) :
    ((({ s.startBridge n with levee := x } : State).discardDuty n).each l State.holdLost).except pt = s.except pt := by
  rw [State.each_except _ _ _ _ fun t k => State.holdLost_except _ hlevee t k, State.discardDuty_except _ hqueues,
    State.except_set_levee _ hlevee, State.startBridge_except _ hhg]

/-- A lease that runs out leaves the right with nobody, at its expiry, and is awarded anew. -/
theorem leaseExpiry_awards (hh : s.levee.holder = some h) : ∃ u : State, s.leaseExpiry = u.award ∧ u.levee.holder = none ∧
    u.planes = s.planes ∧ u.time = (s.advanceTo s.levee.expiry).time := by
  unfold State.leaseExpiry
  rw [hh]
  refine ⟨_, rfl, rfl, Prod.mk.inj ?_⟩
  dsimp only
  split
  · rfl
  · exact Prod.ext (planes_of_except (dutiesStop_except rfl rfl rfl (s.advanceTo s.levee.expiry) h _ _))
      (time_of_except (dutiesStop_except rfl rfl rfl _ h _ _))

theorem leaseExpiry_none (hh : s.levee.holder = some h) (h0 : (s.plane 0).request = false) (h1 : (s.plane 1).request = false) :
    s.leaseExpiry.levee.holder = none ∧ s.leaseExpiry.stands almRightNone 0 = true ∧
      s.leaseExpiry.time = (s.advanceTo s.levee.expiry).time := by
  obtain ⟨u, award, holder, planes, time⟩ := leaseExpiry_awards hh
  have claim : u.claimant = none := claimant_none (by rwa [State.plane, planes]) (by rwa [State.plane, planes])
  rw [award, State.award, claim]
  dsimp only
  rw [State.event_levee, State.raise_levee, State.event_stands, State.event_time, State.raise_time]
  exact ⟨holder, State.raise_stands_self _ _ _, time⟩

theorem leaseExpiry_grants (hh : s.levee.holder = some h) (hn : n < 2) (hr : (s.plane n).request = true)
    (ho : (s.plane (1 - n)).request = false) : s.leaseExpiry.granted n := by
  obtain ⟨u, award, -, planes, -⟩ := leaseExpiry_awards hh
  have claim : u.claimant = some n := claimant_one hn (by rwa [State.plane, planes]) (by rwa [State.plane, planes])
  rw [award, State.award, claim]
  exact grant_granted u n 0

theorem rightRequest_grants (hs : s.supervised n = true) (hl : 1 ≤ s.level n) (hh : s.levee.holder = none) :
    (s.rightRequest n).levee.holder = some n ∧ (s.rightRequest n).levee.expiry = s.nowNs + 20000000 := by
  unfold State.rightRequest
  dsimp only
  rw [if_pos (by simp [hs, hl, hh]), if_pos (by simp [hh])]
  obtain ⟨holder, -, expiry, -⟩ := grant_granted (s.modPlane n (fun x => { x with request := true })) n 0
  refine ⟨holder, expiry.trans ?_⟩
  rw [State.nowNs, grant_time]
  rfl

theorem rightRequest_waits (hs : s.supervised n = true) (hl : 1 ≤ s.level n) (hh : s.levee.holder = some h) (hn : h ≠ n) :
    s.rightRequest n = s.modPlane n (fun x => { x with request := true }) := by
  unfold State.rightRequest
  dsimp only
  rw [if_pos (by simp [hs, hl, hh, hn]), if_neg (by simp [hh])]

/-! ### The checks of a plane (08 R363, R364) -/

theorem plane_of_except (h : t.except (allBut .planes) = s.except (allBut .planes)) (n : Nat) : t.plane n = s.plane n := by
  rw [State.plane, planes_of_except h, State.plane]

theorem modPlane_length (s : State) (n : Nat) (f : PlaneSt → PlaneSt) : (s.modPlane n f).planes.length = s.planes.length :=
  lmod_length _ _ _

section
variable {o : PlaneObs}

/-- Counting the loopback frames leaves the rest of a port. -/
theorem loopFrames_port (s : State) (n p : Nat) (o : PlaneObs) : ∃ m, (s.loopFrames n o).port p = { s.port p with loopLost := m } := by
  refine ⟨((s.loopFrames n o).port p).loopLost, ?_⟩
  have rest := each_reads (fun t => { t.port p with loopLost := 0 }) s (s.dutyPorts n)
    (fun t p => t.modPort p (fun x => { x with loopLost := if o.lost.contains p then x.loopLost + 1 else 0 })) fun t k => by
      by_cases e : p = k
      · rw [e, State.port_mod_self]
      · rw [State.port_mod_other _ _ _ _ e]
  exact congrArg (fun y : PortSt => { y with loopLost := ((s.loopFrames n o).port p).loopLost }) rest

theorem loopFrames_linkOn (s : State) (n p : Nat) (o : PlaneObs) : (s.loopFrames n o).linkOn p = s.linkOn p := by
  obtain ⟨m, hm⟩ := loopFrames_port s n p o
  rw [State.linkOn, hm, State.linkOn]

theorem loopFrames_dutyPorts (s : State) (n : Nat) (o : PlaneObs) : (s.loopFrames n o).dutyPorts n = s.dutyPorts n := by
  have role (p : Nat) : ((s.loopFrames n o).port p).ptp = (s.port p).ptp := by
    obtain ⟨m, hm⟩ := loopFrames_port s n p o
    rw [hm]
  have flows : (s.loopFrames n o).flows = s.flows := each_reads (fun t => t.flows) _ _ _ fun _ _ => rfl
  have levee : (s.loopFrames n o).levee = s.levee := each_reads (fun t => t.levee) _ _ _ fun _ _ => rfl
  simp only [State.dutyPorts, role, flows, levee]

/-- The first check fails at an evaluation that finds the link of a duty port down. -/
theorem checkConds_link (hp : p ∈ s.dutyPorts n) (hl : s.linkOn p = false) : ((s.loopFrames n o).checkConds n).getD 0 false = true := by
  refine List.any_eq_true.mpr ⟨p, ?_, ?_⟩
  · rwa [loopFrames_dutyPorts]
  · rw [loopFrames_linkOn, hl]
    rfl

theorem getLsbD_bitsOf_zero (b : Bool) (l : List Bool) : (BitVec.ofNat 5 (bitsOf (b :: l))).getLsbD 0 = b := by
  have bits : bitsOf (b :: l) = (if b then 1 else 0) + 2 * bitsOf l := rfl
  rw [BitVec.getLsbD_ofNat, Nat.testBit_zero, bits]
  cases b <;> simp

/-- An evaluation is no longer the first, and keeps the first check failed where its condition is met. -/
theorem planeEval_plane (hs : s.supervised n = true) (hn : n < s.planes.length) : ((s.planeEval n o).plane n).fresh = false ∧
    (((s.loopFrames n o).checkConds n).getD 0 false = true → ((s.planeEval n o).plane n).failed.getLsbD 0 = true) := by
  have alarm (v : State) (c : Prop) [Decidable c] :
      (if c then v.clearAlarm almPlaneCheck n else v.raise almPlaneCheck n).plane n = v.plane n := by
    split
    · exact State.clearAlarm_plane _ _ _ _
    · exact State.raise_plane _ _ _ _
  have handback (v : State) (c : Prop) [Decidable c] (l : Levee) : (if c then { v with levee := l } else v).plane n = v.plane n := by
    split <;> rfl
  have judged (v : State) : v.judgeHolder.judgeNone.plane n = v.plane n := plane_of_except
    ((State.judgeNone_except _ rfl _).trans (State.judgeHolder_except _ rfl rfl rfl _)) n
  have len : n < (s.loopFrames n o).planes.length := by rwa [planes_of_except (State.loopFrames_except _ rfl _ _ _)]
  unfold State.planeEval
  rw [if_neg (by simp [hs])]
  dsimp only
  rw [judged, alarm, each_reads (fun t => t.plane n) _ _ _ fun t i => State.event_plane t _ n, handback,
    State.plane_mod_self _ _ _ (by rwa [modPlane_length]), State.plane_mod_self _ _ _ len]
  refine ⟨rfl, fun hc => ?_⟩
  rw [show List.range 5 = 0 :: [1, 2, 3, 4] from rfl, List.map_cons, List.map_cons, getLsbD_bitsOf_zero, hc]
  rfl

end

/-! ### Handback and holds (08 R370, R372) -/

theorem handbackDue_falls (hn : (s.plane s.levee.cfg.preferred).level2Ns = some n) (hs : s.levee.cfg.holdoffS ≠ 0)
    (hh : s.levee.holder ≠ some s.levee.cfg.preferred) (hl : s.level s.levee.cfg.preferred = 2) :
    s.handbackDue.levee.handback = true ∧ s.handbackDue.levee.holder = s.levee.holder ∧
      s.handbackDue.time = (s.advanceTo (n + s.levee.cfg.holdoffS * 1000000000)).time := by
  have holder : (s.advanceTo (n + s.levee.cfg.holdoffS * 1000000000)).levee.holder = s.levee.holder := by rw [State.advanceTo_levee]
  unfold State.handbackDue
  dsimp only
  rw [hn]
  dsimp only
  rw [if_pos (by simp [hs, hh, hl])]
  generalize s.advanceTo (n + s.levee.cfg.holdoffS * 1000000000) = u at holder ⊢
  exact ⟨rfl, holder, rfl⟩

theorem holdEnd_ends {e : Nat × Nat} (he : s.levee.holds.find? (fun h => h.1 == k) = some e) (hz : e.2 ≠ 0) :
    (s.holdEnd k).levee.holds = s.levee.holds.filter (fun h => h.1 != k) ∧ (s.holdEnd k).time = (s.advanceTo e.2).time := by
  unfold State.holdEnd
  rw [he]
  dsimp only
  rw [if_pos (by simp [hz]), each_reads (fun t => t.levee) _ _ _ fun t d => State.modDst_levee t d _,
    each_reads (fun t => t.time) _ _ _ fun t d => State.modDst_time t d _]
  exact ⟨rfl, rfl⟩

/-! ### The obligation -/

/-- Settles O45, each command by what it makes of its queue, gate, flow, plane or lease. -/
theorem egressAndPlaneCommandsComplete : Obligations.EgressAndPlaneCommandsComplete := by
  refine ⟨fun p e k s hp he hl hs hk hd ho => congrArg Host.Outcome.next (egressIn_queues hp he hl hs hk hd ho),
    fun p e k s hp he hl hs hk hd => congrArg Host.Outcome.next (egressIn_tailDrops hp he hl hs hk hd),
    fun p q u s f rest hl hu hq hf => ⟨_, congrArg Host.Outcome.next (egressSelect_strict hl hu hq), sendHead_sends hf⟩,
    fun k f rest s hf hb => ⟨_, rfl, delayDrop_drops hf hb⟩, fun p n s hn => congrArg Host.Outcome.next (gateChange_moves hn),
    fun p c s hc => ?takeover, fun p q s hp he hq => ⟨_, rfl, queueSample_samples hp he hq⟩,
    fun f j c r s hc hr hf he hk hs hd hw hj => ⟨_, rfl, pacerRelease_releases hc hr hf he hk hs hd hw hj⟩,
    fun f line audio status c s hc hf he hs hk => ⟨_, rfl, audioAncRelease_releases audio status hc hf he hs hk⟩,
    fun n u s hh hg hf hu he => congrArg Host.Outcome.next (leaseRenew_renews hh hg hf hu he),
    fun h s hh h0 h1 => ⟨_, rfl, leaseExpiry_none hh h0 h1⟩,
    fun h n s hh hn hr ho => ⟨_, rfl, leaseExpiry_grants hh hn hr ho⟩, fun n s hs hl hh => ⟨_, rfl, rightRequest_grants hs hl hh⟩,
    fun n h s hs hl hh hn => congrArg Host.Outcome.next (rightRequest_waits hs hl hh hn), fun n o s hs hn => ?eval,
    fun n s hn hs hh hl => ⟨_, rfl, handbackDue_falls hn hs hh hl⟩, fun k h s hh hz => ⟨_, rfl, holdEnd_ends hh hz⟩⟩
  case takeover =>
    refine ⟨_, congrArg Host.Outcome.next (gateTakeover_takes hc), ?_⟩
    rw [gateTakes_gate, gateTakes_time]
    exact ⟨rfl, rfl, rfl, rfl⟩
  case eval =>
    obtain ⟨fresh, failed⟩ := planeEval_plane (o := o) hs hn
    exact ⟨_, rfl, fresh, fun p hp hl => failed (checkConds_link hp hl)⟩

end Sys2Proof.Machine
end

section
/-! PROOFS. A step with no command waiting, and QUERY and READ of the timing, coding, compositor, memory, health and update nouns. -/
namespace Sys2Proof.Machine

variable {s : State}

/-- An empty queue lets one cycle of the device clock pass. -/
theorem step_empty (h : s.pending = []) : step s = .next s.idle := by
  unfold step
  rw [h]

/-- Settles O2 by what an idle cycle does. -/
theorem emptyQueueIdles : Obligations.EmptyQueueIdles := fun _ h => step_empty h

/-! ### The body of a query with more than one outcome -/

theorem queryImage_active {c : Call} (hi : c.r.index = 1) (hb : c.block = [] ∨ u8 c.block 0 = 1) :
    specQueryImage.body c s = (okWith (activeBlock s), s) := by
  have asks : (c.block.isEmpty || decide (u8 c.block 0 = 1)) = true := by simpa using hb
  dsimp only [specQueryImage]
  rw [if_pos hi, if_pos asks]

theorem queryImage_staging {c : Call} (hi : c.r.index ≠ 1) (hl : c.block.length = 1) (hs : u8 c.block 0 = 1) :
    specQueryImage.body c s = (okWith (stagingBlock s), s) := by
  dsimp only [specQueryImage]
  rw [if_neg hi, if_pos (by simp [hl, hs])]

theorem queryImage_pieces {c : Call} (hi : c.r.index ≠ 1) (hl : c.block.length = 1) (hs : u8 c.block 0 = 2) :
    specQueryImage.body c s = (okWith (piecesBlock s), s) := by
  dsimp only [specQueryImage]
  rw [if_neg hi, if_neg (by simp [hs]), if_pos (by simp [hl, hs])]

theorem readJobTrace_reads {c : Call} (hn : u8 c.block 1 ≤ 3) (hf : reachFitted s.fused.part (u8 c.block 1) = true) :
    specReadJobTrace.body c s = (okWith (traceReply (s.rider (u8 c.block 1)) (u32 c.block 4) (replyRoom c.r)), s) := by
  dsimp only [specReadJobTrace]
  rw [if_neg (Nat.not_lt.mpr hn), if_neg (by simp [hf])]

/-- QUERY on Reach with selector 0x10 takes a free value for what each of the five classes asked for. -/
theorem queryReachBandwidth_takes {c : Call} {b : Bytes} (hb : b = bandwidthBlock s (servedGbs (!(s.reachMem c.r.index).panic.isEmpty)
      ((List.range 5).map (fun i => Config.freeNat (s.freeCtr + i)))) c.r.index) :
    specQueryReachBandwidth.body c s = (okWith b, { s with freeCtr := s.freeCtr + 5 }) := by
  rw [hb]
  rfl

/-! ### The obligation -/

/-- Settles O20, each request by the equation of its body. -/
theorem serviceQueriesAnswer : Obligations.ServiceQueriesAnswer := by
  refine ⟨fun r s h k => ?ref, fun r s h k => ?timebase, fun r s h k => ?trigger, fun r s h m k => ?stem, fun r s h k => ?capacity,
    fun r s h k => ?rendition, fun r s h k => ?rate, fun r s h k => ?delivery, fun r s h u k => ?job, fun r s h k => ?reaches,
    fun r s h n f k => ?trace, fun r s h k => ?context, fun r s h k => ?head, fun r s h k => ?layer, fun r s h k => ?gauge,
    fun r s h k => ?records, fun r s h k => ?thermal, fun r s h u k => ?counter, fun r s h k => ?catalogue, fun r s h k => ?calset,
    fun r s h i b k => ?active, fun r s h i l b k => ?staging, fun r s h i l b k => ?pieces, fun r s h b hb k => ?bandwidth⟩
  case ref => exact serve_queried h rfl rfl k
  case timebase => exact serve_queried h rfl rfl k
  case trigger => exact serve_queried h rfl rfl k
  case stem => exact serve_queried h rfl (body_admitting m) k
  case capacity => exact serve_queried h rfl rfl k
  case rendition => exact serve_queried h rfl rfl k
  case rate => exact serve_queried h rfl rfl k
  case delivery => exact serve_queried h rfl rfl k
  case job => exact serve_queried h rfl (body_admitting (by rw [Bool.not_eq_false']; exact u)) k
  case reaches => exact serve_queried h rfl rfl k
  case trace => exact serve_queried h rfl (readJobTrace_reads n f) k
  case context => exact serve_queried h rfl rfl k
  case head => exact serve_queried h rfl rfl k
  case layer => exact serve_queried h rfl rfl k
  case gauge => exact serve_queried h rfl rfl k
  case records => exact serve_queried h rfl rfl k
  case thermal => exact serve_queried h rfl rfl k
  case counter => exact serve_queried h rfl (if_neg (Nat.not_le.mpr u)) k
  case catalogue => exact serve_queried h rfl rfl k
  case calset => exact serve_queried h rfl rfl k
  case active => exact serve_queried h rfl (queryImage_active i b) k
  case staging => exact serve_queried h rfl (queryImage_staging i l b) k
  case pieces => exact serve_queried h rfl (queryImage_pieces i l b) k
  case bandwidth => exact congrArg _ (serve_gives h rfl (queryReachBandwidth_takes (c := r.callIn s) hb) k)

end Sys2Proof.Machine
end

section
/-! PROOFS. What the operations of Headgate make of the loop and of the references, and what they leave as it was. -/
namespace Sys2Proof.Machine

variable {s t : State} {k : Nat}

theorem refs_of_except (h : t.except (allBut .refs) = s.except (allBut .refs)) : t.refs = s.refs := by
  simpa [State.except, allBut] using congrArg State.refs h

theorem saved_of_except (h : t.except (allBut .saved) = s.except (allBut .saved)) : t.saved = s.saved := by
  simpa [State.except, allBut] using congrArg State.saved h

theorem ref_of_refs (h : t.refs = s.refs) (j : Nat) : t.ref j = s.ref j := by rw [State.ref, State.ref, h]

theorem modRef_length (s : State) (k : Nat) (f : RefSt → RefSt) : (s.modRef k f).refs.length = s.refs.length := lmod_length _ _ _

/-- A change of a reference that keeps its settings keeps those of every reference. -/
theorem ref_mod_cfg {f : RefSt → RefSt} (h : ∀ x, (f x).cfg = x.cfg) (s : State) (k j : Nat) :
    ((s.modRef k f).ref j).cfg = (s.ref j).cfg := by
  by_cases hj : j = k
  · subst hj
    simp only [State.ref, State.modRef, List.getD_eq_getElem?_getD, lmod_self]
    cases s.refs[j]? with
    | none => rfl
    | some x => exact h x
  · rw [State.ref_mod_other _ _ _ _ hj]

/-! ### The state of Headgate (09 R390, R414) -/

theorem hgSticky_hg (s : State) (i : Nat) : (s.hgSticky i).hg = { s.hg with sticky := s.hg.sticky ||| BitVec.ofNat 9 (2 ^ i) } :=
  State.interrupt_hg _ _

/-- Headgate enters a state, notes it in HG_STICKY, and changes nothing else of the loop. -/
theorem hgEnter_hg (s : State) (x : HgState) :
    (s.hgEnter x).hg = { s.hg with state := x, sticky := s.hg.sticky ||| BitVec.ofNat 9 (2 ^ x.code) } := by
  unfold State.hgEnter
  rw [hgSticky_hg]
  simp [apply_ite State.hg]

theorem hgEnter_time (s : State) (x : HgState) : (s.hgEnter x).time = s.time := time_of_except (State.hgEnter_except _ rfl rfl s x)

/-! ### References chosen and lost (09 R384, R387, R388, R395) -/

theorem acquire_except {pt : Field → Bool} (ha : pt .alarms = true) (hh : pt .hg = true) (s : State) : s.acquire.except pt = s.except pt := by
  unfold State.acquire
  rw [State.hgEnter_except pt ha hh]
  simp [hh]

theorem acquire_cfg (s : State) : s.acquire.hg.cfg = s.hg.cfg := by rw [State.acquire, hgEnter_hg]

theorem switchRef_except {pt : Field → Bool} (ha : pt .alarms = true) (hh : pt .hg = true) (s : State) (k : Nat) :
    (s.switchRef k).except pt = s.except pt := by
  unfold State.switchRef
  rw [acquire_except ha hh]
  simp [hh]

theorem switchRef_cfg (s : State) (k : Nat) : (s.switchRef k).hg.cfg = s.hg.cfg := by
  unfold State.switchRef
  rw [acquire_cfg, hgSticky_hg]
  simp

/-- Selection leaves the state, or switches to a reference. -/
theorem select_cases (s : State) : s.select = s ∨ ∃ k, s.select = s.switchRef k := by
  unfold State.select
  split
  · exact .inl rfl
  · split
    · exact .inr ⟨_, rfl⟩
    · split
      · exact .inr ⟨_, rfl⟩
      · exact .inl rfl
    · exact .inl rfl

theorem select_except {pt : Field → Bool} (ha : pt .alarms = true) (hh : pt .hg = true) (s : State) : s.select.except pt = s.except pt := by
  obtain h | ⟨k, h⟩ := select_cases s
  · rw [h]
  · rw [h, switchRef_except ha hh]

theorem select_refs (s : State) : s.select.refs = s.refs := refs_of_except (select_except rfl rfl s)

theorem select_cfg (s : State) : s.select.hg.cfg = s.hg.cfg := by
  obtain h | ⟨k, h⟩ := select_cases s
  · rw [h]
  · rw [h, switchRef_cfg]

theorem select_manual (h : s.hg.state = .manual) : s.select = s := if_pos (by simp [h])

/-- Holdover or Free-run begins without a reference; the settings of the loop stay. -/
theorem loseRef_hg (s : State) (n : Nat) : (s.loseRef n).hg.cfg = s.hg.cfg ∧ (s.loseRef n).hg.bridging = none ∧
    (s.loseRef n).hg.state ≠ .manual := by
  unfold State.loseRef
  dsimp only
  split
  · rw [hgEnter_hg]
    exact ⟨rfl, rfl, nofun⟩
  · rw [hgEnter_hg]
    exact ⟨rfl, rfl, nofun⟩

/-- A reference after its disqualification at a second of device time. -/
def RefSt.disqualified (x : RefSt) (n : Nat) : RefSt :=
  { x with qualified := false, everDisq := true, disqS := n, timer := none, rankTimer := none }

/-- A reference is disqualified and reported, before the loop may lose it. -/
def State.unqualified (s : State) (k cause : Nat) : State :=
  let s1 := s.modRef k (fun x => x.disqualified s.nowS)
  let s2 := ((s1.count cntRefDisqualify k 1).event
    { code := 0x2811, noun := 0x28, index := k, data := le 1 cause ++ le 3 0 ++ leInt 4 (s.ref k).freq }).hgSticky 7
  if s2.refEnabled k then s2.raise almRefFail k else s2

theorem unqualified_hg (s : State) (k cause : Nat) :
    (s.unqualified k cause).hg = { s.hg with sticky := s.hg.sticky ||| BitVec.ofNat 9 (2 ^ 7) } := by
  unfold State.unqualified
  dsimp only
  split
  · rw [State.raise_hg, hgSticky_hg, State.event_hg]
    rfl
  · rw [hgSticky_hg, State.event_hg]
    rfl

theorem unqualified_refs (s : State) (k cause : Nat) : (s.unqualified k cause).refs = (s.modRef k (fun x => x.disqualified s.nowS)).refs := by
  unfold State.unqualified
  dsimp only
  split
  · rw [State.raise_refs, State.hgSticky, State.interrupt_refs]
    exact State.event_refs _ _
  · rw [State.hgSticky, State.interrupt_refs]
    exact State.event_refs _ _

/-- A disqualified reference that the loop follows is lost with it; in Manual none is followed. -/
theorem disqualify_cases (s : State) (k cause : Nat) : s.disqualify k cause = s.unqualified k cause ∨
    s.hg.state ≠ .manual ∧ ∃ n, s.disqualify k cause = (s.unqualified k cause).loseRef n := by
  by_cases h : ((s.unqualified k cause).hg.selected = some k && (s.unqualified k cause).hg.state != .manual) = true
  · refine .inr ⟨?_, _, if_pos h⟩
    rw [unqualified_hg] at h
    simpa using (Bool.and_eq_true_iff.mp h).2
  · exact .inl (if_neg h)

theorem disqualify_refs (s : State) (k cause : Nat) : (s.disqualify k cause).refs = (s.modRef k (fun x => x.disqualified s.nowS)).refs := by
  obtain h | ⟨-, n, h⟩ := disqualify_cases s k cause
  · rw [h, unqualified_refs]
  · rw [h, refs_of_except (State.loseRef_except _ rfl rfl _ n), unqualified_refs]

theorem disqualify_ref (s : State) (k cause j : Nat) : (s.disqualify k cause).ref j = (s.modRef k (fun x => x.disqualified s.nowS)).ref j :=
  ref_of_refs (disqualify_refs s k cause) j

theorem disqualify_ref_self (h : k < s.refs.length) (cause : Nat) : (s.disqualify k cause).ref k = (s.ref k).disqualified s.nowS := by
  rw [disqualify_ref, State.ref_mod_self _ _ _ h]

theorem disqualify_ref_cfg (s : State) (k cause j : Nat) : ((s.disqualify k cause).ref j).cfg = (s.ref j).cfg := by
  rw [disqualify_ref]
  exact ref_mod_cfg (fun _ => by rfl) s k j

theorem disqualify_cfg (s : State) (k cause : Nat) : (s.disqualify k cause).hg.cfg = s.hg.cfg := by
  obtain h | ⟨-, n, h⟩ := disqualify_cases s k cause
  · rw [h, unqualified_hg]
  · obtain ⟨cfg, -, -⟩ := loseRef_hg (s.unqualified k cause) n
    rw [h, cfg, unqualified_hg]

theorem disqualify_bridging (h : s.hg.bridging = none) (k cause : Nat) : (s.disqualify k cause).hg.bridging = none := by
  obtain e | ⟨-, n, e⟩ := disqualify_cases s k cause
  · rw [e, unqualified_hg, h]
  · obtain ⟨-, bridging, -⟩ := loseRef_hg (s.unqualified k cause) n
    rw [e, bridging]

/-- A disqualification neither enters nor leaves Manual. -/
theorem disqualify_manual (s : State) (k cause : Nat) : ((s.disqualify k cause).hg.state = .manual) = (s.hg.state = .manual) := by
  obtain h | ⟨hm, n, h⟩ := disqualify_cases s k cause
  · rw [h, unqualified_hg]
  · obtain ⟨-, -, left⟩ := loseRef_hg (s.unqualified k cause) n
    rw [h, eq_false left, eq_false hm]

/-! ### The rank rule (09 R385) -/

/-- A reading of the state that neither a disqualification nor a stopped rank timer changes is kept when every rank is judged. -/
theorem judgeRanks_reads {β : Type} (g : State → β) (hd : ∀ t k c, g (State.disqualify t k c) = g t)
    (hr : ∀ t k, g (State.modRef t k (fun x => { x with rankTimer := none })) = g t) (s : State) : g s.judgeRanks = g s := by
  unfold State.judgeRanks
  split
  · rfl
  · refine each_reads g _ _ _ fun t k => ?_
    split
    · exact hd t k 2
    · exact hr t k

theorem judgeRanks_ref_cfg (s : State) (j : Nat) : (s.judgeRanks.ref j).cfg = (s.ref j).cfg :=
  judgeRanks_reads (fun t => (t.ref j).cfg) (fun t k c => disqualify_ref_cfg t k c j)
    (fun t k => ref_mod_cfg (fun _ => by rfl) t k j) s

theorem judgeRanks_cfg (s : State) : s.judgeRanks.hg.cfg = s.hg.cfg :=
  judgeRanks_reads (fun t => t.hg.cfg) disqualify_cfg (fun _ _ => rfl) s

theorem judgeRanks_manual (s : State) : (s.judgeRanks.hg.state = .manual) = (s.hg.state = .manual) :=
  judgeRanks_reads (fun t => t.hg.state = .manual) disqualify_manual (fun _ _ => rfl) s

theorem judgeRanks_saved (s : State) : s.judgeRanks.saved = s.saved :=
  judgeRanks_reads State.saved (fun t k c => saved_of_except (State.disqualify_except _ rfl rfl rfl t k c)) (fun _ _ => rfl) s

/-! ### Steps of device time (09 R402 to R405, R419) -/

/-- Device time after a step by an amount in ns, in the range of its counter (09 R399). -/
def State.stepped (s : State) (amount : Int) : State :=
  { s with time := (((s.time : Int) + amount * 4294967296) % (281474976710656 * 1000000000 * 4294967296)).toNat }

/-- A reading that neither a count nor a change of a trigger changes is kept when a trigger follows a step. -/
theorem stepTrigger_reads {β : Type} (g : State → β) (hc : ∀ t i u n, g (State.count t i u n) = g t)
    (ht : ∀ t k f, g (State.modTrig t k f) = g t) (s : State) (k : Nat) : g (s.stepTrigger k) = g s := by
  unfold State.stepTrigger
  dsimp only
  split
  · split
    · split
      · split
        · rw [hc, ht]
        · rw [hc, ht]
      · rfl
    · exact ht _ _ _
  · rfl

section
variable {β : Type} (g : State → β) (hd : ∀ t k f, g (State.modDomain t k f) = g t) (hc : ∀ t i u n, g (State.count t i u n) = g t)
  (he : ∀ t e, g (State.event t e) = g t) (hx : ∀ t k f, g (State.modCtx t k f) = g t) (hv : ∀ t k f, g (State.modDeliv t k f) = g t)
  (hs : ∀ t i, g (State.hgSticky t i) = g t) (ht : ∀ t k f, g (State.modTrig t k f) = g t)
include hd hc he hx hv hs ht

/-- A reading that no part of what follows a step changes reads as the time is set. -/
theorem stepTime_reads {a : Int} (h : a ≠ 0) (w : Bool) : g (s.stepTime a w) = g (s.stepped a) := by
  unfold State.stepTime
  rw [if_neg h]
  dsimp only
  rw [each_reads g _ _ _ (stepTrigger_reads g hc ht), hs, each_reads g _ _ _ fun t d => hv t d _, each_reads g _ _ _ fun t c => hx t c _, he,
    hc, hd, each_reads g _ _ _ fun t d => ?_]
  · rfl
  · split
    · rfl
    · exact hd _ _ _
end

theorem stepTime_refs (s : State) (a : Int) (w : Bool) : (s.stepTime a w).refs = s.refs := by
  by_cases h : a = 0
  · rw [State.stepTime, if_pos h]
  · exact stepTime_reads State.refs (fun _ _ _ => rfl) (fun _ _ _ _ => rfl) State.event_refs (fun _ _ _ => rfl) (fun _ _ _ => rfl)
      (fun t i => refs_of_except (State.hgSticky_except _ rfl t i)) (fun _ _ _ => rfl) h w

theorem stepTime_time {a : Int} (h : a ≠ 0) (w : Bool) : (s.stepTime a w).time = (s.stepped a).time :=
  stepTime_reads State.time (fun _ _ _ => rfl) (fun _ _ _ _ => rfl) State.event_time (fun _ _ _ => rfl) (fun _ _ _ => rfl)
    (fun t i => time_of_except (State.hgSticky_except _ rfl t i)) (fun _ _ _ => rfl) h w

theorem takeOffset_taken (h : s.hg.takePhase = false) (phase : Int) : s.takeOffset phase = s := if_pos (by simp [h])

theorem takeOffset_refs (s : State) (phase : Int) : (s.takeOffset phase).refs = s.refs := by
  unfold State.takeOffset
  split
  · rfl
  · dsimp only
    split
    · exact stepTime_refs _ _ _
    · rfl

end Sys2Proof.Machine
end

section
/-! PROOFS. The commands of the Headgate loop and of the reference monitors. -/
namespace Sys2Proof.Machine

variable {s : State} {k n : Nat} {phase freq : Int}

/-! ### The frequency of device time (09 R390 to R392, R400) -/

/-- The loop runs device time at a frequency, with an increment in 2^-32 ns. -/
def Headgate.runsAt (h : Headgate) (f : Int) (i : Nat) : Prop := h.freq = f ∧ 4294967296 * h.incrNs + h.incrFrac.toNat = i

theorem setFreq_runsAt (s : State) (f : Int) : (s.setFreq f).hg.runsAt f (s.increment f) := by
  refine ⟨rfl, ?_⟩
  simp only [State.setFreq, BitVec.toNat_ofNat]
  exact Nat.div_add_mod _ _

/-- Phase monitoring, and a return to Acquiring by it, leave the frequency. -/
theorem judgePhase_runsAt {f : Int} {i : Nat} (h : s.hg.runsAt f i) (phase : Int) : (s.judgePhase phase).hg.runsAt f i := by
  unfold State.judgePhase
  dsimp only
  split
  · split
    · exact h
    · exact h
  · split
    · split
      · split
        · exact h
        · split
          · rw [State.acquire, hgEnter_hg]
            exact h
          · exact h
      · split
        · exact h
        · exact h
    · exact h

/-- A loop update sets what is left of a slew. -/
def State.slewed (s : State) : State :=
  { s with hg := { s.hg with slewLeft := slewAfter s.hg.slewLeft (s.nowNs - s.hg.loopNs) s.hg.cfg.slewPpb, loopNs := s.nowNs } }

theorem loopUpdate_manual (hf : s.mode.current.fast = true) (hm : s.hg.state = .manual) :
    s.loopUpdate phase freq = s.slewed.setFreq s.hg.cfg.manualOffset := by
  unfold State.loopUpdate
  rw [if_neg (by simp [hf])]
  dsimp only
  split
  · rfl
  -- The other states contradict the hypothesis.
  all_goals simp_all

/-- The loop follows a reference: its phase is held and its frequency, limited, is that of device time. -/
def State.followed (s : State) (k : Nat) (phase freq : Int) : State :=
  let s1 := (s.slewed.modRef k (fun x => { x with phase := phase })).setFreq (s.slewed.steered k freq)
  { s1 with hg := { s1.hg with phaseErr := phase } }

theorem followed_runsAt (s : State) (k : Nat) (phase freq : Int) :
    (s.followed k phase freq).hg.runsAt (s.steered k freq) (s.increment (s.steered k freq)) :=
  setFreq_runsAt (s.slewed.modRef k (fun x => { x with phase := phase })) (s.steered k freq)

theorem loopUpdate_follows (hf : s.mode.current.fast = true) (ha : s.hg.state = .acquiring ∨ s.hg.state = .locked)
    (hk : s.hg.selected = some k) (hb : s.hg.bridging = none) (ht : s.hg.takePhase = false) :
    s.loopUpdate phase freq = (s.followed k phase freq).judgePhase phase := by
  unfold State.loopUpdate
  rw [if_neg (by simp [hf])]
  dsimp only
  split
  case h_6 hj _ _ _ _ =>
    obtain rfl := Option.some.inj (hk.symm.trans hj)
    rw [if_neg (by simp [hb])]
    refine congrArg (fun t => State.judgePhase t phase) ?_
    split
    · rfl
    · exact takeOffset_taken (s := s.followed k phase freq) ht phase
  -- The other states, and no reference selected, contradict the hypotheses.
  all_goals simp_all

/-! ### Stages of Acquiring, Locked and Holdover (09 R390, R391, R394) -/

theorem stagePass_locks (hb : s.hg.belowNs = some n) (ha : s.hg.state = .acquiring) (hs : s.hg.stage = 3) :
    s.stagePass.hg.state = .locked ∧ s.stagePass.hg.bw = 100 := by
  unfold State.stagePass
  dsimp only
  split
  case h_2 h => exact absurd (h.symm.trans hb) nofun
  rw [if_pos ha, if_neg (by simp [hs]), hgEnter_hg]
  exact ⟨rfl, rfl⟩

theorem stagePass_narrows (hb : s.hg.belowNs = some n) (ha : s.hg.state = .acquiring) (hs : s.hg.stage < 3) :
    s.stagePass.hg.state = .acquiring ∧ s.stagePass.hg.stage = s.hg.stage + 1 ∧ s.stagePass.hg.bw = stageBw (s.hg.stage + 1) := by
  unfold State.stagePass
  dsimp only
  split
  case h_2 h => exact absurd (h.symm.trans hb) nofun
  rw [if_pos ha, if_pos hs]
  exact ⟨ha, rfl, rfl⟩

theorem narrow_narrows (hs : s.hg.state = .locked) (hb : s.hg.bw > s.hg.cfg.trackBw) :
    s.narrow.hg.stage = 4 ∧ s.narrow.hg.bw = max s.hg.cfg.trackBw (s.hg.bw / 10) := by
  unfold State.narrow
  dsimp only
  rw [if_pos (by simp [hs, hb])]
  exact ⟨rfl, rfl⟩

theorem holdoverExpiry_eq (hs : s.hg.state = .holdover) :
    s.holdoverExpiry = (s.advanceTo (s.hg.holdNs + s.hg.cfg.holdoverMax * 1000000000)).hgEnter .expired := if_pos hs


theorem holdoverExpiry_hg (hs : s.hg.state = .holdover) :
    s.holdoverExpiry.hg.state = .expired ∧ s.holdoverExpiry.hg.freq = s.hg.freq := by
  rw [holdoverExpiry_eq hs, hgEnter_hg, State.advanceTo_hg]
  exact ⟨rfl, rfl⟩

theorem holdoverExpiry_time (hs : s.hg.state = .holdover) :
    s.holdoverExpiry.time = (s.advanceTo (s.hg.holdNs + s.hg.cfg.holdoverMax * 1000000000)).time := by
  rw [holdoverExpiry_eq hs, hgEnter_time]

/-- The history takes the mean frequency of the last second at the present instant. -/
def State.recorded (s : State) (f : Int) : State := { s with hg := { s.hg with history := ((s.nowNs, f) :: s.hg.history).take 1024 } }

theorem historyRecord_eq (hs : s.hg.state = .locked) (f : Int) : ∃ t : State, s.historyRecord f = t.recorded f ∧ t.hg = s.hg := by
  unfold State.historyRecord
  rw [if_pos hs]
  dsimp only
  split
  · exact ⟨_, rfl, State.advanceTo_hg _ _⟩
  · exact ⟨_, rfl, rfl⟩

theorem historyRecord_records (hs : s.hg.state = .locked) (f : Int) :
    (s.historyRecord f).hg.history = (((s.historyRecord f).nowNs, f) :: s.hg.history).take 1024 := by
  obtain ⟨t, h, hg⟩ := historyRecord_eq hs f
  rw [h, ← hg]
  rfl

/-! ### References lost (09 R383, R384, R389) -/

/-- An input whose activity is lost is neither active nor qualified. -/
theorem refLost_loses (he : s.refEnabled k = true) (ha : (s.ref k).active = true) (hk : k < s.refs.length) :
    ((s.refLost k).ref k).active = false ∧ ((s.refLost k).ref k).qualified = false := by
  unfold State.refLost
  rw [if_neg (by simp [he, ha])]
  dsimp only
  split
  next hq =>
    rw [disqualify_ref_self (by rw [modRef_length]; exact hk), State.ref_mod_self _ _ _ hk]
    exact ⟨rfl, rfl⟩
  next hq =>
    rw [State.ref_mod_self _ _ _ hk]
    exact ⟨rfl, by simpa using hq⟩

theorem refLost_bridging (h : s.hg.bridging = none) (k : Nat) : (s.refLost k).hg.bridging = none := by
  unfold State.refLost
  split
  · exact h
  · dsimp only
    split
    · exact disqualify_bridging (by rw [State.modRef_hg, h]) k 0
    · rw [State.modRef_hg, h]

/-- No bridge is in progress any more. -/
def State.unbridged (s : State) : State := { s with hg := { s.hg with bridging := none } }

theorem bridgeTimeout_eq (h : s.hg.bridging = some n) : s.bridgeTimeout = (s.advanceTo (n + 2000000000)).unbridged.refLost 0 := by
  unfold State.bridgeTimeout
  rw [h]
  unfold State.unbridged
  with_reducible rfl

theorem unbridged_loses (he : s.refEnabled 0 = true) (ha : (s.ref 0).active = true) (hk : 0 < s.refs.length) (due : Nat) :
    ((s.advanceTo due).unbridged.refLost 0).hg.bridging = none ∧ (((s.advanceTo due).unbridged.refLost 0).ref 0).active = false ∧
      (((s.advanceTo due).unbridged.refLost 0).ref 0).qualified = false ∧
      ((s.advanceTo due).unbridged.refLost 0).time = (s.advanceTo due).time := by
  obtain ⟨inactive, unqualified⟩ := refLost_loses (s := (s.advanceTo due).unbridged) (k := 0) he ha hk
  exact ⟨refLost_bridging rfl 0, inactive, unqualified, time_of_except (State.refLost_except _ rfl rfl rfl _ 0)⟩

theorem bridgeTimeout_loses (h : s.hg.bridging = some n) (he : s.refEnabled 0 = true) (ha : (s.ref 0).active = true)
    (hk : 0 < s.refs.length) :
    s.bridgeTimeout.hg.bridging = none ∧ (s.bridgeTimeout.ref 0).active = false ∧ (s.bridgeTimeout.ref 0).qualified = false ∧
      s.bridgeTimeout.time = (s.advanceTo (n + 2000000000)).time := by
  rw [bridgeTimeout_eq h]
  exact unbridged_loses he ha hk _

/-! ### Readings of the monitors and of the PTP follower (09 R381, R383, R385) -/

theorem refReading_holds (he : s.refEnabled k = true) (ho : s.refOn k = true) (hk : k < s.refs.length) (raw : Int) :
    ((s.refReading k raw).ref k).freq = s.corrected raw ∧ ((s.refReading k raw).ref k).active = true := by
  unfold State.refReading
  rw [if_neg (by simp [he, ho])]
  dsimp only
  refine iteInduction (motive := fun t : State => (t.ref k).freq = s.corrected raw ∧ (t.ref k).active = true) (fun _ => ?_) (fun _ => ?_)
  · rw [disqualify_ref_self (by rw [modRef_length]; exact hk), State.ref_mod_self _ _ _ hk]
    exact ⟨rfl, rfl⟩
  · rw [ref_of_refs (select_refs _), State.ref_mod_self _ _ _ hk]
    exact ⟨rfl, rfl⟩

theorem refQualify_qualifies (ht : s.refTimer k = some n) (he : s.refEnabled k = true) (ho : s.refOn k = true)
    (ha : (s.ref k).active = true) (hq : (s.ref k).qualified = false) (hr : s.mode.current.ranked = false ∨ s.rankOk k = true) :
    s.refQualify k = (s.advanceTo (n + s.qualTime k)).qualify k := by
  have ranks : (!s.mode.current.ranked || s.rankOk k) = true := by simpa using hr
  unfold State.refQualify
  rw [ht]
  dsimp only
  rw [if_pos (by simp [he, ho, ha, hq, ranks])]

/-- A measurement of the PTP follower as reference 0 holds it. -/
def State.ptpMeasured (s : State) (offset : Int) (clockClass : Nat) : State :=
  let s1 := s.modRef 0 (fun x => { x with active := true, phase := offset - 4 * (s.ref 0).cfg.offsetNs, quality := clockClass })
  s1.modRef 0 (fun x => { x with rankTimer := if s1.rankOk 0 then some (x.rankTimer.getD s.nowNs) else none })

theorem ptpMeasured_ref (hk : 0 < s.refs.length) (offset : Int) (clockClass : Nat) : ((s.ptpMeasured offset clockClass).ref 0).active = true ∧
    ((s.ptpMeasured offset clockClass).ref 0).phase = offset - 4 * (s.ref 0).cfg.offsetNs ∧
    ((s.ptpMeasured offset clockClass).ref 0).quality = clockClass := by
  unfold State.ptpMeasured
  dsimp only
  rw [State.ref_mod_self _ _ _ (by rw [modRef_length]; exact hk), State.ref_mod_self _ _ _ hk]
  exact ⟨rfl, rfl, rfl⟩

/-- A measurement ends a bridge, and the loop that follows PTP takes its offset (09 R388, R389). -/
def State.ptpTaken (s : State) (phase : Int) (identity : Nat) : State :=
  if s.hg.selected = some 0 then
    (if s.hg.bridging.isSome then if identity = s.hg.bridgeId then s.unbridged else s.unbridged.acquire else s).takeOffset phase
  else s

theorem ptpTaken_refs (s : State) (phase : Int) (identity : Nat) : (s.ptpTaken phase identity).refs = s.refs := by
  unfold State.ptpTaken
  split
  · rw [takeOffset_refs]
    split
    · split
      · rfl
      · exact refs_of_except (acquire_except rfl rfl s.unbridged)
    · rfl
  · rfl

/-- A measurement disqualifies the PTP follower by its rank, or is taken by the loop. -/
theorem ptpOffset_cases (he : s.refEnabled 0 = true) (ho : s.refOn 0 = true) (offset : Int) (identity clockClass : Nat) :
    s.ptpOffset offset identity clockClass = (s.ptpMeasured offset clockClass).disqualify 0 2 ∨
      s.ptpOffset offset identity clockClass =
        (s.ptpMeasured offset clockClass).ptpTaken (offset - 4 * (s.ref 0).cfg.offsetNs) identity := by
  unfold State.ptpOffset
  rw [if_neg (by simp [he, ho])]
  exact iteInduction (motive := fun t : State => t = _ ∨ t = _) (fun _ => .inl rfl) (fun _ => .inr rfl)

theorem ptpOffset_holds (he : s.refEnabled 0 = true) (ho : s.refOn 0 = true) (hk : 0 < s.refs.length) (offset : Int)
    (identity clockClass : Nat) : ((s.ptpOffset offset identity clockClass).ref 0).active = true ∧
    ((s.ptpOffset offset identity clockClass).ref 0).phase = offset - 4 * (s.ref 0).cfg.offsetNs ∧
    ((s.ptpOffset offset identity clockClass).ref 0).quality = clockClass := by
  have holds := ptpMeasured_ref hk offset clockClass
  obtain h | h := ptpOffset_cases he ho offset identity clockClass
  · rw [h, disqualify_ref_self (by rw [State.ptpMeasured, modRef_length, modRef_length]; exact hk)]
    exact holds
  · rw [h, ref_of_refs (ptpTaken_refs _ _ _)]
    exact holds

/-! ### The obligations -/

/-- Settles O46, each command by what it makes of the loop. -/
theorem headgateLoopCommandsComplete : Obligations.HeadgateLoopCommandsComplete := by
  refine ⟨fun phase freq s hf hm => ?manual, fun phase freq s k hf ha hk hb ht => ?follows,
    fun s n hb ha hs => ⟨_, rfl, stagePass_locks hb ha hs⟩,
    fun s n hb ha hs => ⟨_, rfl, stagePass_narrows hb ha hs⟩, fun s hs hb => ⟨_, rfl, narrow_narrows hs hb⟩,
    fun s hs => ?expires, fun f s hs => ⟨_, rfl, historyRecord_records hs f⟩,
    fun s n hn he ha hk => ⟨_, rfl, bridgeTimeout_loses hn he ha hk⟩⟩
  case manual => exact ⟨_, congrArg Host.Outcome.next (loopUpdate_manual hf hm), setFreq_runsAt s.slewed s.hg.cfg.manualOffset⟩
  case expires =>
    obtain ⟨expired, keeps⟩ := holdoverExpiry_hg hs
    exact ⟨_, rfl, expired, keeps, holdoverExpiry_time hs⟩
  case follows =>
    exact ⟨_, congrArg Host.Outcome.next (loopUpdate_follows hf ha hk hb ht), judgePhase_runsAt (followed_runsAt s k phase freq) phase⟩

/-- Settles O47, each command by what it makes of its reference. -/
theorem referenceCommandsComplete : Obligations.ReferenceCommandsComplete :=
  ⟨fun _ raw _ he ho hk => ⟨_, rfl, refReading_holds he ho hk raw⟩, fun _ _ he ha hk => ⟨_, rfl, refLost_loses he ha hk⟩,
    fun _ _ _ ht he ho ha hq hr => ⟨_, rfl, refQualify_qualifies ht he ho ha hq hr⟩,
    fun offset identity clockClass _ he ho hk => ⟨_, rfl, ptpOffset_holds he ho hk offset identity clockClass⟩⟩

end Sys2Proof.Machine
end

section
/-! PROOFS. Triggers, captures, PPS_OUT and the registers of time that latch. -/
namespace Sys2Proof.Machine

variable {s : State} {k n m : Nat}

/-! ### Host triggers (09 R418, R419) -/

/-- A trigger after a firing at an instant, with its next one: one firing fewer is left, and the pins that it drives are held. -/
def TrigSt.fired (x : TrigSt) (n : Nat) (next : Option Nat) : TrigSt :=
  { x with cfg := { x.cfg with count := x.cfg.count - 1 }, next := next, lastFire := n
           highUntil := if x.cfg.targets &&& 0x0F = 0 then x.highUntil else n + x.cfg.widthNs }

theorem triggerFire_fires (h1 : 16 ≤ k) (h2 : k ≤ 63) (hn : (s.trig k).next = some n) (hk : (s.trig k).cfg.kind ≠ 0)
    (hc : (s.trig k).cfg.count ≠ 0) (hf : (s.trig k).cfg.count ≠ 0xFFFFFFFF) :
    (s.triggerFire k).time = (s.advanceTo n).time ∧ ∃ next, (s.triggerFire k).trig k = (s.trig k).fired n next := by
  unfold State.triggerFire
  dsimp only
  rw [hn]
  dsimp only
  rw [if_pos (by simp [within, h1, h2, hk, hc]), if_neg hf]
  constructor
  · exact (State.event_time _ _).trans (when_reads State.time _ _ (fun t => t.interrupt 11) fun t => State.interrupt_time t 11)
  · exact ⟨_, (State.event_trig _ _ _).trans ((when_reads (fun t => t.trig k) _ _ (fun t => t.interrupt 11)
      fun t => State.interrupt_trig t 11 k).trans (State.trig_mod_self _ _ _))⟩

/-! ### Capture pins (09 R416) -/

/-- A capture block after an edge at the present instant. -/
def CapSt.captured (x : CapSt) (s : State) : CapSt :=
  { x with ns := BitVec.ofNat 32 (s.nowNs % 1000000000), sec := BitVec.ofNat 48 s.nowS, frac := BitVec.ofNat 16 (s.time / 65536 % 65536)
           valid := true, overrun := x.overrun || x.valid, count := x.count + 1, lastNs := some s.nowNs }

/-- An edge of an enabled pin that no captured edge precedes by less than 1 us is captured. -/
theorem capEdge_captures {falling : Bool} (h4 : n < 4) (hn : n < s.caps.length) (he : (s.cap n).enable = true)
    (hf : (s.cap n).falling = falling) (hr : s.mode.current.fast = true)
    (hm : ∀ m, (s.cap n).lastNs = some m → s.nowNs < m ∨ m + 1000 ≤ s.nowNs) :
    (s.capEdge n falling).cap n = (s.cap n).captured s := by
  unfold State.capEdge
  dsimp only
  rw [if_neg (by simp [h4, he, hf, hr]), if_neg ?late]
  case late =>
    split
    next t ht =>
      have apart := hm t ht
      simp only [Bool.and_eq_true, decide_eq_true_eq]
      omega
    · nofun
  refine (when_reads (fun t => t.cap n) _ _ (fun t => State.event t _) fun t => State.event_cap t _ n).trans ?_
  rw [State.interrupt_cap]
  exact (when_reads (fun t => t.cap n) _ _ (fun t => t.count cntCapOverrun n 1) fun t => State.count_cap t _ _ _ n).trans
    (State.cap_mod_self _ _ _ hn)

/-- An edge within 1 us of a captured one is counted as missed. -/
theorem capEdge_misses {falling : Bool} (h4 : n < 4) (he : (s.cap n).enable = true) (hf : (s.cap n).falling = falling)
    (hr : s.mode.current.fast = true) (hl : (s.cap n).lastNs = some m) (h1 : m ≤ s.nowNs) (h2 : s.nowNs < m + 1000) :
    s.capEdge n falling = s.count cntCapMissed n 1 := by
  unfold State.capEdge
  dsimp only
  rw [if_neg (by simp [h4, he, hf, hr]), hl]
  dsimp only
  rw [if_pos (by simp [h1, h2])]

/-! ### PPS_OUT (09 R420) -/

/-- The state with PPS_OUT held from the present instant for a width in us. -/
def State.pulsed (s : State) (width : Nat) : State := { s with pins := { s.pins with ppsUntil := s.nowNs + width * 1000 } }

theorem ppsPulse_pulses (h : s.ppsSquelched = false) :
    s.ppsPulse = (s.advanceTo (cdiv s.nowNs 1000000000 * 1000000000)).pulsed s.hg.cfg.ppsWidth := if_neg (by simp [h])

theorem pulsed_holds (s : State) (width : Nat) :
    (s.pulsed width).time = s.time ∧ (s.pulsed width).pins.ppsUntil = (s.pulsed width).nowNs + width * 1000 := ⟨rfl, rfl⟩

/-! ### The registers of time (09 R412, R415, R416) -/

/-- A read through the gate takes place while the host link is up. -/
theorem gated_up (h : s.hostLink = true) (f : State → State) : s.gated f = f s := if_pos h

theorem capNsRead_reads (h : s.hostLink = true) (h4 : n < 4) : s.capNsRead n =
    (s.modCap n (fun c => { c with latchS := c.sec, latchFrac := c.frac, valid := false })).emit
      (.regRead (0x2104 + 0x20 * n) (s.cap n).ns.toNat) :=
  (gated_up h _).trans (if_neg (Nat.not_le.mpr h4))

/-! ### The obligation -/

/-- Settles O48, each command by what it makes of its trigger, capture block, pin or register. -/
theorem timeMarkCommandsComplete : Obligations.TimeMarkCommandsComplete := by
  refine ⟨fun k n s h1 h2 hn hk hc hf => ?fire, fun n falling s h4 hn he hf hr hm => ?capture,
    fun n falling m s h4 he hf hr hl h1 h2 => congrArg Host.Outcome.next (capEdge_misses h4 he hf hr hl h1 h2), fun s h => ?pps,
    fun s h => ⟨_, congrArg Host.Outcome.next (gated_up h _), rfl, rfl, rfl, rfl, rfl⟩,
    fun s h => ⟨_, congrArg Host.Outcome.next (gated_up h _), rfl, rfl⟩, fun n s h h4 hn => ?read⟩
  case fire =>
    obtain ⟨time, next, fired⟩ := triggerFire_fires h1 h2 hn hk hc hf
    refine ⟨_, rfl, ?_, ?_, time, fun ht => ?_⟩
    · rw [fired, TrigSt.fired]
    · rw [fired, TrigSt.fired]
    · rw [fired, TrigSt.fired, if_neg ht]
  case capture =>
    refine ⟨_, rfl, ?_⟩
    rw [capEdge_captures h4 hn he hf hr hm]
    exact ⟨rfl, rfl, rfl, rfl⟩
  case pps => exact ⟨_, congrArg Host.Outcome.next (ppsPulse_pulses h), pulsed_holds _ _⟩
  case read =>
    refine ⟨_, congrArg Host.Outcome.next (capNsRead_reads h h4), ?_⟩
    rw [State.emit_cap, State.cap_mod_self _ _ _ hn]
    exact ⟨rfl, rfl, rfl, rfl⟩

end Sys2Proof.Machine
end

section
/-! PROOFS. SET on RefInput, Timebase and Trigger: what each makes of the settings, of the loop and of device time. -/
namespace Sys2Proof.Machine

variable {q : ReqSpec} {c : Call} {r : Request} {s : State} {k : Nat}

/-- A request that passes steps 1 to 7 of 02 R100 fails none of the checks on its reserved fields. -/
theorem admitted_fields (h : admitted q c s = none) : fieldsFail q c.block = none := by
  unfold admitted at h
  split at h
  · rename_i ho
    rw [h] at ho
    exact absurd ho (by simp)
  · repeat' split at h
    all_goals simp_all

/-- The reserved fields of an accepted request are as its command asks. -/
theorem accepted_form (h : r.accepted q s) : q.form r.block = true := by
  have fields : fieldsFail q r.block = none := admitted_fields h.2.1
  unfold fieldsFail at fields
  repeat' split at fields
  all_goals simp_all

/-! ### References (09 R381, R384, R385) -/

/-- New settings of a reference with which its qualification starts anew: another lane, other flags, rate or offset, or no priority
(09 R381). -/
def State.refAnew (s : State) (k : Nat) (n : RefCfg) : Bool :=
  let o := (s.ref k).cfg
  (n.lane != o.lane || n.flags != o.flags || n.hsRate != o.hsRate || n.offsetNs != o.offsetNs) || decide (n.priority = 0)

/-- A reference has new settings and is judged by them. -/
def State.refSet (s : State) (k : Nat) (n : RefCfg) : State :=
  let s1 := (s.modRef k (fun x => { x with cfg := n })).saveRefs
  let s2 := (if s.refAnew k n && (s.ref k).qualified then s1.disqualify k 3 else s1).judgeRanks
  if s.refAnew k n then
    s2.modRef k (fun x => { x with timer := none, rankTimer := none, readings := 0, active := x.active && !decide (n.priority = 0) })
  else s2

theorem refSet_cfg (hk : k < s.refs.length) (n : RefCfg) : ((s.refSet k n).ref k).cfg = n := by
  have set : ((s.modRef k (fun x => { x with cfg := n })).saveRefs.ref k).cfg = n :=
    congrArg RefSt.cfg (State.ref_mod_self s k (fun x => { x with cfg := n }) hk)
  have judged (b : Bool) : ((if b then (s.modRef k (fun x => { x with cfg := n })).saveRefs.disqualify k 3
      else (s.modRef k (fun x => { x with cfg := n })).saveRefs).judgeRanks.ref k).cfg = n := by
    rw [judgeRanks_ref_cfg]
    split
    · rw [disqualify_ref_cfg, set]
    · exact set
  unfold State.refSet
  dsimp only
  split
  · rw [ref_mod_cfg fun _ => by rfl, judged]
  · exact judged _

/-- A reference that is on has its alarm unless it is qualified, and the loop selects again unless one that it might follow was lost. -/
def State.refNoted (s : State) (k : Nat) (lost : Bool) : State :=
  let s1 := if (s.ref k).qualified then s else s.raise almRefFail k
  if lost then s1 else s1.select

theorem refNoted_refs (s : State) (k : Nat) (lost : Bool) : (s.refNoted k lost).refs = s.refs := by
  have noted : (if (s.ref k).qualified then s else s.raise almRefFail k).refs = s.refs :=
    iteInduction (motive := fun t : State => t.refs = s.refs) (fun _ => rfl) (fun _ => State.raise_refs _ _ _)
  unfold State.refNoted
  cases lost with
  | true => exact noted
  | false => exact (select_refs _).trans noted

theorem setRefInput_off {n : RefCfg} (hn : n = decRefCfg c.block) (h : s.refOk c.r.index n = true) (ho : n.priority = 0) :
    specSetRefInput.body c s = (okWith [], (s.refSet c.r.index n).clearAlarm almRefFail c.r.index) := by
  subst hn
  exact (if_neg (by simp [h])).trans (if_pos ho)

theorem setRefInput_on {n : RefCfg} (hn : n = decRefCfg c.block) (h : s.refOk c.r.index n = true) (ho : n.priority ≠ 0) :
    specSetRefInput.body c s =
      (okWith [], (s.refSet c.r.index n).refNoted c.r.index (s.refAnew c.r.index n && (s.ref c.r.index).qualified)) := by
  subst hn
  exact (if_neg (by simp [h])).trans (if_neg ho)

theorem setRefInput_sets {n : RefCfg} (hn : n = decRefCfg c.block) (hk : c.r.index < s.refs.length) (h : s.refOk c.r.index n = true) :
    ∃ t : State, specSetRefInput.body c s = (okWith [], t) ∧ (t.ref c.r.index).cfg = n ∧
      (n.priority = 0 → t.stands almRefFail c.r.index = false) := by
  by_cases ho : n.priority = 0
  · exact ⟨_, setRefInput_off hn h ho, by rw [State.clearAlarm_ref, refSet_cfg hk], fun _ => State.clearAlarm_stands_self _ _ _⟩
  · exact ⟨_, setRefInput_on hn h ho, by rw [ref_of_refs (refNoted_refs _ _ _), refSet_cfg hk], fun h0 => absurd h0 ho⟩

/-! ### The loop settings (09 R390, R409) -/

/-- The loop settings stand, also saved, and mode 1 holds Headgate in Manual. -/
def State.timebased (s : State) (n : TimebaseCfg) : Prop :=
  s.hg.cfg = n ∧ s.saved.timebase = some n ∧ (n.mode = 1 → s.hg.state = .manual)

/-- The state with other loop settings, saved. -/
def State.timebaseSet (s : State) (n : TimebaseCfg) : State := State.saveRefs { s with hg := { s.hg with cfg := n } }

/-- Headgate enters Manual from another state and follows no reference (09 R390). -/
def State.enterManual (s : State) : State :=
  State.hgEnter { s with hg := { s.hg with selected := none, bridging := none, phaseErr := 0, slewLeft := 0, takePhase := false } } .manual

/-- Headgate leaves Manual for the best reference, or for Holdover or Free-run (09 R390). -/
def State.leaveManual (s : State) : State := match s.bestRef with | some k => s.switchRef k | none => s.loseRef s.nowNs

theorem enterManual_timebased (s : State) (n : TimebaseCfg) : (s.timebaseSet n).enterManual.timebased n := by
  refine ⟨?_, congrArg Saved.timebase (saved_of_except (State.hgEnter_except _ rfl rfl _ _)), fun _ => ?_⟩
  · rw [State.enterManual, hgEnter_hg]
    rfl
  · rw [State.enterManual, hgEnter_hg]

theorem leaveManual_timebased (s : State) {n : TimebaseCfg} (hn : n.mode ≠ 1) : (s.timebaseSet n).leaveManual.timebased n := by
  unfold State.leaveManual
  split
  next k _ =>
    exact ⟨switchRef_cfg _ k, congrArg Saved.timebase (saved_of_except (switchRef_except rfl rfl _ k)), fun h => absurd h hn⟩
  · obtain ⟨cfg, -, -⟩ := loseRef_hg (s.timebaseSet n) (s.timebaseSet n).nowNs
    exact ⟨cfg, congrArg Saved.timebase (saved_of_except (State.loseRef_except _ rfl rfl _ _)), fun h => absurd h hn⟩

theorem judged_timebased {n : TimebaseCfg} (h : n.mode = 1 → s.hg.state = .manual) :
    (s.timebaseSet n).judgeRanks.select.timebased n := by
  refine ⟨?_, ?_, fun hn => ?_⟩
  · rw [select_cfg, judgeRanks_cfg]
    rfl
  · rw [saved_of_except (select_except rfl rfl _), judgeRanks_saved]
    rfl
  · have manual : (s.timebaseSet n).judgeRanks.hg.state = .manual := by
      rw [judgeRanks_manual]
      exact h hn
    rw [select_manual manual, manual]

theorem setTimebase_sets {n : TimebaseCfg} (hn : n = decTimebaseCfg c.block) (h : timebaseOk n = true) :
    ∃ t : State, specSetTimebase.body c s = (okWith [], t) ∧ t.timebased n := by
  subst hn
  dsimp only [specSetTimebase]
  rw [if_neg (by simp [h])]
  split
  · exact ⟨_, rfl, enterManual_timebased s _⟩
  next stays =>
    split
    next leaves =>
      have auto : (decTimebaseCfg c.block).mode ≠ 1 := by
        have mode : (decTimebaseCfg c.block).mode = 0 := by simpa using (Bool.and_eq_true_iff.mp leaves).1
        omega
      exact ⟨_, rfl, leaveManual_timebased s auto⟩
    · exact ⟨_, rfl, judged_timebased fun hm => by simpa [hm] using stays⟩

/-! ### Device time (09 R399, R402, R403) -/

/-- The block's 48-bit seconds, in a field of eight bytes whose last two are zero. -/
theorem seconds_lt {b : Bytes} (h : zeroFrom b 14 2 = true) : u64 b 8 < 281474976710656 := by
  obtain ⟨h14, h15⟩ : u8 b 14 = 0 ∧ u8 b 15 = 0 := by simpa [zeroFrom, List.range_succ] using h
  have byte (o : Nat) : u8 b o < 256 := (b.getD o 0).isLt
  have := byte 8
  have := byte 9
  have := byte 10
  have := byte 11
  have := byte 12
  have := byte 13
  simp only [u64, u32, u16, Nat.reduceAdd, h14, h15]
  omega

/-- A step to a time in the range of the counter leaves that time; the fraction of a nanosecond stays. -/
theorem stepped_nowNs {v : Nat} (h : v < 281474976710656 * 1000000000) : (s.stepped ((v : Int) - (s.nowNs : Int))).nowNs = v := by
  simp only [State.stepped, State.nowNs]
  omega

theorem writtenStep_time (s : State) (a : Int) : (s.writtenStep a).time = (s.stepTime a true).time := by
  unfold State.writtenStep
  dsimp only
  split
  · split
    · rfl
    · rfl
  · rfl

theorem writtenStep_nowNs {v : Nat} (h : v < 281474976710656 * 1000000000) : (s.writtenStep ((v : Int) - (s.nowNs : Int))).nowNs = v := by
  rw [State.nowNs, writtenStep_time]
  by_cases hv : (v : Int) - (s.nowNs : Int) = 0
  · rw [hv, State.stepTime, if_pos rfl]
    exact Int.ofNat.inj (Int.sub_eq_zero.mp hv).symm
  · rw [stepTime_time hv]
    exact stepped_nowNs h

theorem setTimebasePhase_slews (h1 : u8 c.block 1 = 1) (h0 : s64 c.block 8 ≠ 0) (hl : -10000000 ≤ s64 c.block 8)
    (hu : s64 c.block 8 ≤ 10000000) :
    specSetTimebasePhase.body c s = (okWith [], { s with hg := { s.hg with slewLeft := s.hg.slewLeft + s64 c.block 8 } }) := by
  dsimp only [specSetTimebasePhase]
  rw [if_neg h0, if_pos h1, if_pos (by simp [withinI, hl, hu])]

theorem setTimebasePhase_none (h0 : s64 c.block 8 = 0) : specSetTimebasePhase.body c s = (okWith [], s) := if_pos h0

theorem setTimebasePhase_steps (h1 : u8 c.block 1 = 0) (h0 : s64 c.block 8 ≠ 0) (hp : s.ptpHeld = false) :
    specSetTimebasePhase.body c s = (okWith [], s.writtenStep (s64 c.block 8)) := by
  dsimp only [specSetTimebasePhase]
  rw [if_neg h0, if_neg (by simp [h1]), if_neg (by simp [hp])]

theorem setTimebaseAbsolute_sets (hf : zeroFrom c.block 14 2 = true) (hn : u32 c.block 4 < 1000000000) (hp : s.ptpHeld = false) :
    ∃ t : State, specSetTimebaseAbsolute.body c s = (okWith [], t) ∧ t.nowNs = u64 c.block 8 * 1000000000 + u32 c.block 4 := by
  have seconds := seconds_lt hf
  dsimp only [specSetTimebaseAbsolute]
  rw [if_neg (Nat.not_le.mpr hn), if_neg (by simp [hp])]
  exact ⟨_, rfl, writtenStep_nowNs (by omega)⟩

/-! ### Triggers (09 R418, R419) -/

/-- A trigger whose pins no other trigger drives has its settings, its first instant and its output low. -/
theorem setTrigger_sets {n : TrigCfg} (hn : n = decTrigCfg c.block) (hk : 16 ≤ c.r.index) (ht : s.trigOk n = true)
    (hp : n.kind = 0 ∨ ∀ e ∈ s.trigs, e.1 = c.r.index ∨ e.2.cfg.kind = 0 ∨ e.2.cfg.targets &&& n.targets &&& 0x0F = 0) :
    ∃ t : State, specSetTrigger.body c s = (okWith [], t) ∧ (t.trig c.r.index).cfg = n ∧
      (t.trig c.r.index).next = s.trigFirst n ∧ (t.trig c.r.index).highUntil = 0 := by
  subst hn
  have apart : ¬ ((decTrigCfg c.block).kind != 0 && s.trigs.any (fun e => e.1 != c.r.index && e.2.cfg.kind != 0 &&
      e.2.cfg.targets &&& (decTrigCfg c.block).targets &&& 0x0F != 0)) = true := by
    rcases hp with h0 | hp
    · simp [h0]
    · simp only [Bool.and_eq_true, List.any_eq_true, bne_iff_ne, not_and, not_exists, and_imp]
      intro _ e he hne hkind
      rcases hp e he with h | h | h
      · exact absurd h hne
      · exact absurd h hkind
      · exact fun drives => drives h
  dsimp only [specSetTrigger]
  rw [if_neg (Nat.not_lt.mpr hk), if_neg (by simp [ht]), if_neg apart]
  refine ⟨_, rfl, ?_⟩
  rw [State.trig_mod_self]
  exact ⟨rfl, rfl, rfl⟩

/-! ### The obligation -/

/-- Settles O54, each request by what its body makes of the state. -/
theorem timingSettingsComplete : Obligations.TimingSettingsComplete := by
  refine ⟨fun r s h hl ho => ?ref, fun r s h ho => serve_sets h rfl (setTimebase_sets rfl ho), fun r s h h1 h0 hl hu => ?slew,
    fun r s h h0 => ?none, fun r s h h1 h0 hp => ?step, fun r s h hn hp => ?absolute,
    fun r s n h hn hk ht hp => serve_sets h rfl (setTrigger_sets hn hk ht hp)⟩
  case ref =>
    have hk : r.index < (s.taking r).refs.length := hl ▸ of_decide_eq_true (accepted_index h)
    exact serve_sets h rfl (setRefInput_sets rfl hk ho)
  case slew => exact congrArg _ (serve_gives h rfl (setTimebasePhase_slews h1 h0 hl hu) (Nat.zero_le _))
  case none => exact congrArg _ (serve_gives h rfl (setTimebasePhase_none h0) (Nat.zero_le _))
  case step => exact congrArg _ (serve_gives h rfl (setTimebasePhase_steps h1 h0 hp) (Nat.zero_le _))
  case absolute =>
    have zeros : zeroFrom r.block 14 2 = true := (Bool.and_eq_true_iff.mp (accepted_form h)).2
    exact serve_sets h rfl (setTimebaseAbsolute_sets zeros hn hp)

end Sys2Proof.Machine
end

section
/-! PROOFS. The commands of Clause and of the coded streams: what each makes of its stem, rendition or delivery. -/
namespace Sys2Proof.Machine

variable {pt : Field → Bool} {s t : State} {d k r : Nat}

/-! ### Stems, renditions and deliveries of what leaves their tables alone -/

/-- Everything but the stems and device time. -/
def beyondStems (f : Field) : Bool := f != .stems && f != .time

theorem stem_of_except (h : t.except beyondStems = s.except beyondStems) (k : Nat) : t.stem k = s.stem k :=
  congrArg (fun x => tget (fun _ => StemSt.reset) x k)
    (show t.stems = s.stems by simpa [State.except, beyondStems] using congrArg State.stems h)

theorem stemTime_of_except (h : t.except beyondStems = s.except beyondStems) : t.time = s.time := by
  simpa [State.except, beyondStems] using congrArg State.time h

theorem deliv_of_except (h : t.except (allBut .delivs) = s.except (allBut .delivs)) (d : Nat) : t.deliv d = s.deliv d :=
  congrArg (fun x => tget (fun _ => DelivSt.reset) x d)
    (show t.delivs = s.delivs by simpa [State.except, allBut] using congrArg State.delivs h)

/-! ### A unit goes to a delivery (11 R489 to R499, R504) -/

theorem chunkEvent_except (pt : Field → Bool) (s : State) (d flags frame : Nat) : (s.chunkEvent d flags frame).except pt = s.except pt := by
  unfold State.chunkEvent
  dsimp only
  split
  · exact State.event_except pt s _
  · rfl

theorem discardUnit_except (ha : pt .alarms = true) (hd : pt .delivs = true) (s : State) (d cause : Nat) :
    (s.discardUnit d cause).except pt = s.except pt := by
  simp [State.discardUnit, ↓State.except_ite, ha, hd]

theorem ringUnit_except (ha : pt .alarms = true) (hd : pt .delivs = true) (s : State) (d : Nat) (u : UnitInfo) (cons : ConsWord) :
    (s.ringUnit d u cons).except pt = s.except pt := by
  unfold State.ringUnit
  dsimp only
  split
  · exact discardUnit_except ha hd s d 0
  · split
    · exact discardUnit_except ha hd s d 1
    · split
      · rw [discardUnit_except ha hd, State.modDeliv_except pt hd]
      · split
        · simp [ha, hd, chunkEvent_except]
        · simp [hd, chunkEvent_except]

theorem delivEnd_except (hd : pt .delivs = true) (hf : pt .freeCtr = true) (s : State) (d : Nat) :
    (s.delivEnd d).except pt = s.except pt := by
  unfold State.delivEnd
  dsimp only
  split
  · exact State.putEnd_except pt hf s _
  · rw [chunkEvent_except, State.modDeliv_except pt hd, State.putEnd_except pt hf]

theorem delivBegin_except (hd : pt .delivs = true) (s : State) (d frame : Nat) : (s.delivBegin d frame).except pt = s.except pt := by
  rw [State.delivBegin, State.event_except, State.modDeliv_except pt hd]

theorem endStreams_except (hd : pt .delivs = true) (hf : pt .freeCtr = true) (hr : pt .rends = true) (s : State) (k : Nat) :
    (s.endStreams k).except pt = s.except pt :=
  State.each_except pt s _ _ fun t r =>
    (State.each_except pt _ _ _ fun u d => delivEnd_except hd hf u d).trans (State.modRend_except pt hr t r _)

theorem delivUnit_except (ha : pt .alarms = true) (hd : pt .delivs = true) (p : RendPic) (unit : Bytes) (cons : ConsReads) (s : State)
    (d : Nat) : (State.delivUnit p unit cons s d).except pt = s.except pt := by
  unfold State.delivUnit
  dsimp only
  generalize ((s.deliv d).waiting && _ && _ && _ : Bool) = ready
  generalize hs : (if ready = true then s.delivBegin d p.frame else s) = begun
  have begins : begun.except pt = s.except pt := by rw [← hs, State.except_ite, delivBegin_except hd, ite_self]
  split
  · exact begins
  · split
    · rw [ringUnit_except ha hd, begins]
    · split
      · rw [State.count_except, State.modDeliv_except pt hd, begins]
      · exact begins

/-! ### A rendition releases its picture (10 R456; 11 R471, R485) -/

theorem noteFloor_except (ha : pt .alarms = true) (hr : pt .rends = true) (s : State) (r rows : Nat) :
    (s.noteFloor r rows).except pt = s.except pt := by
  simp [State.noteFloor, ↓State.except_ite, ha, hr]

theorem releasePicture_except (ha : pt .alarms = true) (hd : pt .delivs = true) (hr : pt .rends = true) (cons : ConsReads) (s : State)
    (e : Nat × RendPic) : (State.releasePicture cons s e).except pt = s.except pt := by
  unfold State.releasePicture
  dsimp only
  rw [State.each_except pt _ _ _ fun t d => delivUnit_except ha hd e.2 _ cons t d,
    State.when_except pt _ _ _ fun t => (State.event_except pt _ _).trans (State.count_except pt t _ _ _),
    noteFloor_except ha hr, State.modRend_except pt hr]

/-- At its delivery instant the oldest picture leaves its stem; the release of its access units leaves the stems alone. -/
theorem deliveryInstant_except {q : StemPic} {rest : List StemPic} (cons : ConsReads) (hq : (s.stem k).pics = q :: rest)
    (hdone : q.done = true)
    (hready : ∀ e ∈ s.rends, ∀ p ∈ e.2.hand, p.cfg.stem = k → p.frame = q.frame → p.field = q.field → p.unit ≠ none) :
    (s.deliveryInstant k cons).except beyondStems =
      ((s.advanceTo q.dueNs).modStem k (fun x => { x with pics := rest })).except beyondStems := by
  unfold State.deliveryInstant
  rw [hq]
  dsimp only
  rw [if_neg ?ready]
  case ready =>
    simp only [hdone, Bool.not_true, Bool.false_or, List.any_eq_true, List.mem_flatMap, List.mem_map, List.mem_filter, not_exists,
      not_and, Bool.and_eq_true, beq_iff_eq, Option.isNone_iff_eq_none]
    rintro _ ⟨e, he, p, ⟨hp, ⟨stem, frame⟩, field⟩, rfl⟩
    exact hready e he p hp stem frame field
  rw [endStreams_except rfl rfl rfl, State.each_except _ _ _ _ fun t e => releasePicture_except rfl rfl rfl cons t e,
    endStreams_except rfl rfl rfl]

theorem deliveryInstant_delivers {q : StemPic} {rest : List StemPic} (cons : ConsReads) (hq : (s.stem k).pics = q :: rest)
    (hdone : q.done = true)
    (hready : ∀ e ∈ s.rends, ∀ p ∈ e.2.hand, p.cfg.stem = k → p.frame = q.frame → p.field = q.field → p.unit ≠ none) :
    (s.deliveryInstant k cons).time = (s.advanceTo q.dueNs).time ∧ ((s.deliveryInstant k cons).stem k).pics = rest := by
  have leaves := deliveryInstant_except cons hq hdone hready
  rw [stem_of_except leaves, State.stem_mod_self]
  exact ⟨(stemTime_of_except leaves).trans (State.modStem_time _ _ _), rfl⟩

/-! ### The analysis of a feed picture (10 R439, R450, R462; 11 R470, R472, R473) -/

/-- At the end of a feed picture its stem takes it, due after the latency that governs it. -/
theorem stemRelease_except {e : Nat} (he : s.endInstant k = some e) (hon : ((s.governed k (s.stem k).frame).stem k).cfg.enable = 1)
    (hrun : ((s.governed k (s.stem k).frame).stem k).running = true) : ∃ (p : StemPic) (f : StemSt → StemSt),
      p.frame = (s.stem k).frame ∧ p.field = (s.stem k).field ∧ p.endNs = e ∧
      p.dueNs = e + (s.governed k (s.stem k).frame).latencyNs k ∧ (∀ x, (f x).pics = x.pics ++ [p]) ∧
      (s.stemRelease k).except beyondStems = ((s.advanceTo e).modStem k f).except beyondStems := by
  unfold State.stemRelease
  dsimp only
  rw [he]
  dsimp only
  rw [if_neg (by simp [hon, hrun]), State.riderServe_except _ rfl rfl rfl rfl rfl rfl,
    State.each_except _ _ _ _ fun t it => State.offer_except _ rfl rfl t _ it,
    State.each_except _ _ _ _ fun t r => State.modRend_except _ rfl t r _]
  exact ⟨_, _, rfl, rfl, rfl, rfl, fun _ => rfl, rfl⟩

theorem stemRelease_releases {e : Nat} (he : s.endInstant k = some e) (hon : ((s.governed k (s.stem k).frame).stem k).cfg.enable = 1)
    (hrun : ((s.governed k (s.stem k).frame).stem k).running = true) : (s.stemRelease k).time = (s.advanceTo e).time ∧
      ∃ p ∈ ((s.stemRelease k).stem k).pics, p.frame = (s.stem k).frame ∧ p.field = (s.stem k).field ∧ p.endNs = e ∧
        p.dueNs = e + (s.governed k (s.stem k).frame).latencyNs k := by
  obtain ⟨p, f, frame, field, ends, due, pics, leaves⟩ := stemRelease_except he hon hrun
  refine ⟨(stemTime_of_except leaves).trans (State.modStem_time _ _ _), p, ?_, frame, field, ends, due⟩
  rw [stem_of_except leaves, State.stem_mod_self, pics]
  exact List.mem_append_right _ (List.mem_singleton.mpr rfl)

theorem judgeLoad_except (ha : pt .alarms = true) (hr : pt .rends = true) (s : State) (n : Nat) (coreLost : Bool) :
    (s.judgeLoad n coreLost).except pt = s.except pt := by
  have marks (u : State) : (u.markShed n).except pt = u.except pt :=
    State.each_except pt _ _ _ fun t r => State.modRend_except pt hr t r _
  simp [State.judgeLoad, ↓State.except_ite, marks, ha]

theorem codePicture_except (ha : pt .alarms = true) (hc : pt .cores = true) (hi : pt .riders = true) (hr : pt .rends = true) (s : State)
    (r : Nat) (p : RendPic) (q0 : StemPic) (cut : Bool) : (s.codePicture r p q0 cut).except pt = s.except pt := by
  unfold State.codePicture
  dsimp only
  split
  · rw [judgeLoad_except ha hr, State.count_except, State.modRend_except pt hr, State.endStream_except pt hr]
  · rw [State.each_except pt _ _ _ fun t it => State.offer_except pt hc hi t _ it, State.modRend_except pt hr]

/-- A picture whose analysis has ended, with what it found. -/
def StemPic.analysed (p : StemPic) (a : Analysis) : StemPic := { p with done := true, left := [], result := a }

/-- The end of the analysis marks the picture as done in its stem; the renditions that it releases leave the stems alone. -/
theorem analysisEnd_except (s : State) (k : Nat) (p : StemPic) : ∃ f : StemSt → StemSt,
    (∀ x, (f x).pics = x.pics.map (fun q => if q = p then p.analysed (s.analysed k p) else q)) ∧
      (s.analysisEnd k p).except beyondStems = (s.modStem k f).except beyondStems := by
  unfold State.analysisEnd
  dsimp only
  rw [State.each_except _ _ _ _ fun t n => State.riderServe_except _ rfl rfl rfl rfl rfl rfl t n 0,
    State.each_except _ _ _ _ ?codes, State.when_except _ _ _ _ fun t => (State.event_except _ _ _).trans (State.count_except _ t _ _ _),
    State.when_except _ _ _ _ fun t => State.count_except _ t _ _ _]
  case codes =>
    intro t r
    split
    · exact codePicture_except rfl rfl rfl rfl t r _ _ _
    · rfl
  exact ⟨_, fun _ => rfl, rfl⟩

/-- The bands of the oldest picture still analysed stop in Rider, and its analysis ends. -/
theorem analysisDeadline_ends {p : StemPic} (hp : (s.stem k).pics.find? (fun p => !p.done) = some p) :
    (s.analysisDeadline k).time = (s.advanceTo p.analysisNs).time ∧
      ∃ q ∈ ((s.analysisDeadline k).stem k).pics, q.frame = p.frame ∧ q.field = p.field ∧ q.done = true ∧ q.left = [] := by
  unfold State.analysisDeadline
  rw [hp]
  dsimp only
  generalize hs : State.count _ cntStemLateBands k p.left.length = stopped
  have before : stopped.except beyondStems = (s.advanceTo p.analysisNs).except beyondStems := by
    rw [← hs, State.count_except]
    refine State.each_except _ _ _ _ fun t n => ?_
    rw [State.each_except _ _ _ _ fun u c => ?_, State.modRider_except _ rfl]
    rw [State.except_ite, State.modCore_except _ rfl, ite_self]
  obtain ⟨f, pics, leaves⟩ := analysisEnd_except stopped k p
  refine ⟨(stemTime_of_except leaves).trans ((State.modStem_time _ _ _).trans (stemTime_of_except before)),
    p.analysed (stopped.analysed k p), ?_, rfl, rfl, rfl, rfl⟩
  rw [stem_of_except leaves, State.stem_mod_self, pics, stem_of_except before, State.advanceTo_stem]
  exact List.mem_map.mpr ⟨p, List.mem_of_find?_eq_some hp, if_pos rfl⟩

/-! ### Floor mode (11 R474, R485) -/

/-- The picture in hand has the rows of one more partition in floor mode. -/
theorem partitionCut_cuts {part : Nat} {p : RendPic} {q : StemPic}
    (hp : (s.rend r).hand.find? (fun p => p.released && p.left.contains part && !p.cut.any (fun e => e.1 == part)) = some p)
    (hq : (s.stem p.cfg.stem).pics.find? (fun q => q.frame == p.frame && q.field == p.field) = some q) :
    (s.partitionCut r part).time =
        (s.advanceTo (q.dueNs - s.packNs p.cfg.stem - 2000 * (s.picJob p).partRows p.parts part)).time ∧
      ∃ w ∈ ((s.partitionCut r part).rend r).hand, w.frame = p.frame ∧ w.field = p.field ∧ ∃ rows, (part, rows) ∈ w.cut := by
  unfold State.partitionCut
  rw [hp]
  dsimp only
  rw [hq]
  dsimp only
  refine ⟨rfl, ?_⟩
  rw [State.count_rend, State.modPic, State.rend_mod_self, State.advanceTo_rend]
  exact ⟨_, List.mem_map.mpr ⟨p, List.mem_of_find?_eq_some hp, if_pos rfl⟩, rfl, rfl, _, List.mem_cons_self⟩

theorem floorClear_clears (h : s.stands almFloor r = true) : (s.floorClear r).stands almFloor r = false ∧
    (s.floorClear r).time = (s.advanceTo ((s.rend r).lastFloorNs + 10000000000)).time := by
  unfold State.floorClear
  rw [if_pos h, State.event_stands, State.clearAlarm_stands_self, State.event_time, State.clearAlarm_time]
  exact ⟨rfl, rfl⟩

/-! ### Tables, packets and sender reports (11 R490, R492, R493) -/

theorem tsTables_inserts (hl : s.flowLanded d = true) (hs : s.inService = true) :
    ((s.tsTables d).deliv d).tableNs = (s.deliv d).tableNs + 100000000 ∧ (s.tsTables d).time = (s.advanceTo (s.deliv d).tableNs).time := by
  unfold State.tsTables
  dsimp only
  rw [if_neg (by simp [hl, hs]), State.deliv_mod_self]
  exact ⟨rfl, rfl⟩

theorem sendPacket_reads (s : State) (f d : Nat) (b : Bytes) :
    (s.sendPacket f b).deliv d = s.deliv d ∧ (s.sendPacket f b).flow f = s.flow f ∧ (s.sendPacket f b).time = s.time :=
  ⟨deliv_of_except (State.sendPacket_except _ rfl s f b) d, flow_of_except (State.sendPacket_except _ rfl s f b) f,
    time_of_except (State.sendPacket_except _ rfl s f b)⟩

theorem tsSend_sends (hl : s.flowLanded d = true) (hs : s.inService = true) :
    ((s.tsSend d).deliv d).tsNext = (s.deliv d).tsNext + rtpSpanNs (s.flow (s.deliv d).cfg.flow).cfg ∧
      ((s.tsSend d).deliv d).packets = (s.deliv d).packets + 1 ∧
      ((s.tsSend d).flow (s.deliv d).cfg.flow).txSeq = (s.flow (s.deliv d).cfg.flow).txSeq + 1 ∧
      (s.tsSend d).time = (s.advanceTo (s.deliv d).tsNext).time := by
  unfold State.tsSend State.tsPacket
  dsimp only
  rw [if_neg (by simp [hl, hs]), State.when, if_pos rfl]
  obtain ⟨deliv, flow, time⟩ := sendPacket_reads _ _ d _
  rw [deliv, flow, time, State.modFlow_deliv, State.deliv_mod_self, State.flow_mod_self]
  exact ⟨rfl, rfl, rfl, rfl⟩

theorem ristReport_reports (hl : s.flowLanded d = true) (hs : s.inService = true) (hk : (s.deliv d).cfg.kind = 2) :
    ((s.ristReport d).deliv d).srNs = (s.deliv d).srNs + 100000000 ∧ (s.ristReport d).time = (s.advanceTo (s.deliv d).srNs).time := by
  unfold State.ristReport
  dsimp only
  rw [if_neg (by simp [hl, hs, hk]), each_reads (fun t => t.deliv d) _ _ _ fun t l => State.emit_deliv t _ d,
    each_reads State.time _ _ _ fun t l => State.emit_time t _, State.deliv_mod_self]
  exact ⟨rfl, rfl⟩

/-! ### The obligation -/

/-- Settles O49, each command by what it makes of its stem, rendition or delivery. -/
theorem codingCommandsComplete : Obligations.CodingCommandsComplete :=
  ⟨fun _ _ _ he hon hrun => ⟨_, rfl, stemRelease_releases he hon hrun⟩, fun _ _ _ hp => ⟨_, rfl, analysisDeadline_ends hp⟩,
    fun _ _ _ _ _ hp hq => ⟨_, rfl, partitionCut_cuts hp hq⟩,
    fun _ cons _ _ _ hq hdone hready => ⟨_, rfl, deliveryInstant_delivers cons hq hdone hready⟩,
    fun _ _ h => ⟨_, rfl, floorClear_clears h⟩, fun _ _ hl hs => ⟨_, rfl, tsTables_inserts hl hs⟩,
    fun _ _ hl hs => ⟨_, rfl, tsSend_sends hl hs⟩, fun _ _ hl hs hk => ⟨_, rfl, ristReport_reports hl hs hk⟩⟩

end Sys2Proof.Machine
end

section
/-! PROOFS. SUBMIT, CANCEL and SET on Job, SET and WRITE on Head and Layer: what each makes of its job, the trace, its head or its layer. -/
namespace Sys2Proof.Machine

variable {q : ReqSpec} {c : Call} {s : State}

/-! ### Jobs and the trace (12 R515, R522, R523, R525) -/

theorem submitJob_accepts (h : s.jobFail c.r.index (jobOf c.block) = none) :
    specSubmitJob.body c s = ({}, s.jobAccept c.r.index c.owner (jobOf c.block)) := by
  dsimp only [specSubmitJob]
  rw [h]

theorem cancelJob_marks (hu : (s.job c.r.index).used = true) (hr : (s.job c.r.index).running = true)
    (ho : c.owner = (s.job c.r.index).owner ∨ c.owner = 0xFF) :
    specCancelJob.body c s = ({}, s.modJob c.r.index (fun x => { x with cancel := true })) := by
  dsimp only [specCancelJob]
  rw [if_neg (by simp [hu]), if_neg (by simpa [Classical.or_iff_not_imp_left] using ho), if_pos hr]

theorem cancelJob_unknown (hu : (s.job c.r.index).used = false) : specCancelJob.body c s = (fail stUnknown 0, s) := if_pos (by simp [hu])

theorem setJobTrace_sets (h : u8 c.block 2 ≤ 10) : specSetJobTrace.body c s = ({}, { s with riderDev := {
    traceOn := decide (u8 c.block 1 = 1), sampleLog2 := u8 c.block 2, reaches := BitVec.ofNat 4 (u8 c.block 3) } }) :=
  if_neg (Nat.not_lt.mpr h)

/-! ### Heads and surfaces (13 R560, R574) -/

theorem setHeadFreeze_sets (h : (decFreezeCfg c.block).coarse ≤ 6) :
    specSetHeadFreeze.body c s = (okWith [], s.modHead c.r.index (fun x => { x with freeze := decFreezeCfg c.block })) :=
  if_neg (Nat.not_lt.mpr h)

theorem setHeadStickyClear_clears (h : u8 c.block 1 % 2 = 1) :
    specSetHeadStickyClear.body c s = (okWith [], s.modHead c.r.index (fun x => { x with degraded := false })) :=
  congrArg (Prod.mk _) (if_pos h)

theorem setHeadStickyClear_keeps (h : u8 c.block 1 % 2 = 0) : specSetHeadStickyClear.body c s = (okWith [], s) :=
  congrArg (Prod.mk _) (if_neg (by omega))

/-- A layer with the rectangle of a block written into one of its surface buffers. -/
def LayerSt.written (z : LayerSt) (b : Bytes) : LayerSt :=
  { z with
    surface0 := if u8 b 1 = 0 then writeRect z.surface0 b (u16 b 4) (u16 b 6) (u16 b 8) (u16 b 10) (u32 b 12) else z.surface0
    surface1 := if u8 b 1 = 1 then writeRect z.surface1 b (u16 b 4) (u16 b 6) (u16 b 8) (u16 b 10) (u32 b 12) else z.surface1 }

theorem writeLayerSurface_writes (hg : isGraphic c.r.index = true) (hk : (s.layer c.r.index).graphic.kind ≠ 1) (hb : u8 c.block 1 ≤ 1)
    (hx : u16 c.block 4 + u16 c.block 8 ≤ 3840) (hy : u16 c.block 6 + u16 c.block 10 ≤ 2160) (hp : 4 * u16 c.block 8 ≤ u32 c.block 12)
    (hl : 16 + u16 c.block 10 * u32 c.block 12 ≤ c.block.length) (hs : s.bufferShown c.r.index (u8 c.block 1) = false) :
    specWriteLayerSurface.body c s = (okWith [], s.modLayer c.r.index (·.written c.block)) := by
  dsimp only [specWriteLayerSurface]
  rw [if_neg (by simp [hg, hk]), if_neg (by simp only [Bool.or_eq_true, decide_eq_true_eq]; omega), if_neg (by simp [hs])]
  rfl

/-! ### The obligation -/

/-- Settles O55, each request by what its body makes of the state. -/
theorem jobAndHeadCommandsComplete : Obligations.JobAndHeadCommandsComplete := by
  refine ⟨fun r s h hf => congrArg _ (serve_gives h rfl (submitJob_accepts hf) (Nat.zero_le _)),
    fun r s h hu hr ho => congrArg _ (serve_gives h rfl (cancelJob_marks hu hr ho) (Nat.zero_le _)),
    fun r s h hu => congrArg _ (serve_gives h rfl (cancelJob_unknown hu) (Nat.zero_le _)),
    fun r s h ht => congrArg _ (serve_gives h rfl (setJobTrace_sets ht) (Nat.zero_le _)),
    fun r s h hc => congrArg _ (serve_gives h rfl (setHeadFreeze_sets hc) (Nat.zero_le _)),
    fun r s h h1 => congrArg _ (serve_gives h rfl (setHeadStickyClear_clears h1) (Nat.zero_le _)),
    fun r s h h0 => congrArg _ (serve_gives h rfl (setHeadStickyClear_keeps h0) (Nat.zero_le _)),
    fun r s h hg hk hb hx hy hp hl hs => ?surface⟩
  refine serve_sets h rfl ⟨_, writeLayerSurface_writes (c := r.callIn s) hg hk hb hx hy hp hl hs, ?_⟩
  rw [show (r.callIn s).r.index = r.index from rfl, State.layer_mod_self, Request.callIn_block]
  exact ⟨fun h0 => ⟨if_pos h0, if_neg (by omega)⟩, fun h1 => ⟨if_pos h1, if_neg (by omega)⟩⟩

end Sys2Proof.Machine
end

section
/-! PROOFS. Rider, jobs and decode contexts: what each command makes of the consumers, the queues, the pictures in hand, a job's ring and a
decode context. -/
namespace Sys2Proof.Machine

variable {s t : State} {n k kind idx h x : Nat} {it : Item} {o : ItemOutput}

/-! ### Parts of the state under what leaves the others alone -/

theorem rend_of_except (h : t.except (allBut .rends) = s.except (allBut .rends)) (r : Nat) : t.rend r = s.rend r :=
  congrArg (fun l => tget (fun _ => RendSt.reset) l r)
    (show t.rends = s.rends by simpa [State.except, allBut] using congrArg State.rends h)

/-- The fields that the presentation of a picture changes beside the decode contexts and device time. -/
def beyondCtxs (f : Field) : Bool := f != .ctxs && f != .time

theorem ctx_of_except (h : t.except beyondCtxs = s.except beyondCtxs) (k : Nat) : t.ctx k = s.ctx k :=
  congrArg (fun l => tget (fun _ => CtxSt.reset) l k)
    (show t.ctxs = s.ctxs by simpa [State.except, beyondCtxs] using congrArg State.ctxs h)

theorem ctxTime_of_except (h : t.except beyondCtxs = s.except beyondCtxs) : t.time = s.time := by
  simpa [State.except, beyondCtxs] using congrArg State.time h

/-! ### Consumers that ask, wake and are served (12 R506 to R511) -/

theorem pickItem_of_empty (h : (s.rider n).queue kind = []) (liveOnly : Bool) : s.pickItem n kind liveOnly = none := by
  have none_eligible : s.eligibleItems n kind = [] := by
    unfold State.eligibleItems
    rw [h]
    rfl
  rw [State.pickItem, none_eligible]
  rfl

/-- Rider dispatches nothing from an empty queue. -/
theorem riderServe_of_empty (h : (s.rider n).queue kind = []) : s.riderServe n kind = s := by
  unfold State.riderServe State.serveCores
  dsimp only
  rw [List.find?_eq_none.mpr fun k _ => by simp [pickItem_of_empty h]]

/-- A consumer that asks for an item. -/
def State.asked (s : State) (key : Nat) : State := s.modCore key (fun c => { c with asking := true, awake := true })

theorem riderRequest_serves (hc : s.consumerIn n kind idx = true) (hr : kind < 2 → s.coresRun = true)
    (hb : (s.core (coreKey n kind idx)).busy = none) :
    s.riderRequest n kind idx = (s.asked (coreKey n kind idx)).riderServe n kind :=
  if_neg (by simpa [hc, hb] using hr)

theorem consumerIn_kind (hc : s.consumerIn n kind idx = true) : kind < 3 := by
  unfold State.consumerIn at hc
  split at hc
  · decide
  · decide
  · decide
  · simp at hc

theorem coreWake_serves (hc : s.consumerIn n kind idx = true) (hr : kind < 2 → s.coresRun = true) :
    s.coreWake n kind idx = (s.modCore (coreKey n kind idx) (fun c => { c with awake := true })).riderServe n kind := by
  have runs : kind = 2 ∨ s.coresRun = true := by
    have := consumerIn_kind hc
    by_cases hk : kind < 2
    · exact .inr (hr hk)
    · exact .inl (by omega)
  exact if_pos (by simpa [hc] using runs)

/-! ### Items that end (12 R506, R512; 11 R479) -/

/-- A consumer has finished its item: the trace has the end of an item whose dispatch it recorded. -/
def State.finished (s : State) (n kind key : Nat) (it : Item) : State :=
  (s.when (s.core key).traced (fun t => t.traceAdd n 1 kind key it)).modCore key (fun c => { c with busy := none, traced := false })

/-- What the end of an item does beside its consumer, by its class. -/
def State.itemDone (s : State) (it : Item) (key : Nat) (o : ItemOutput) (cons : ConsWord) : State :=
  match it.cls with
  | .stemBand => s.bandDone it
  | .rendPart => s.partDone it o
  | .packaging => s.packDone it o
  | .rateUpdate => s.rateDone it
  | .backfill => s.jobPicture it key o cons
  | .decodePart | .control => s

theorem itemComplete_ends (hc : s.consumerIn n kind idx = true) (hb : (s.core (coreKey n kind idx)).busy = some it)
    (ho : s.outputOk it o = true) (cons : ConsWord) : s.itemComplete n kind idx o cons =
      ((s.finished n kind (coreKey n kind idx) it).itemDone it (coreKey n kind idx) o cons).riderServe n kind := by
  unfold State.itemComplete
  dsimp only
  rw [hb]
  dsimp only
  rw [if_neg (by simp [hc, ho])]
  rfl

theorem offer_rend (s : State) (n : Nat) (it : Item) (r : Nat) : (s.offer n it).rend r = s.rend r :=
  rend_of_except (State.offer_except _ rfl rfl s n it) r

theorem fillerOf_rend (s : State) (len r : Nat) : (s.fillerOf len).2.rend r = s.rend r := by
  unfold State.fillerOf
  split <;> rfl

/-- The picture that is packaged has its access unit, with filler behind it. -/
theorem packDone_packs {p : RendPic} (o : ItemOutput)
    (hp : (s.rend it.unit).hand.find? (fun p => p.frame == it.picture && p.field == it.field && p.released && p.unit.isNone) = some p) :
    ∃ w ∈ ((s.packDone it o).rend it.unit).hand, w.frame = p.frame ∧ w.field = p.field ∧ ∃ fill, w.unit = some (o.unit ++ fill) := by
  unfold State.packDone
  dsimp only
  rw [hp]
  dsimp only
  rw [offer_rend, when_reads (fun t => t.rend it.unit) _ _ _ fun t => State.count_rend t _ _ _ _, State.count_rend, State.count_rend,
    State.rend_mod_self, State.modPic, State.rend_mod_self, fillerOf_rend]
  exact ⟨_, List.mem_map.mpr ⟨p, List.mem_of_find?_eq_some hp, if_pos rfl⟩, rfl, rfl, _, rfl⟩

/-! ### Preemption (12 R512) -/

/-- A consumer without its count of trace entries. -/
def Core.untraced (c : Core) : Core := { c with entries := 0, entryS := 0 }

theorem traceAdd_untraced (s : State) (n action kind key : Nat) (it : Item) :
    ((s.traceAdd n action kind key it).core key).untraced = (s.core key).untraced := by
  unfold State.traceAdd
  dsimp only
  refine iteInduction (motive := fun t : State => (t.core key).untraced = (s.core key).untraced) (fun _ => rfl) (fun _ => ?_)
  rw [State.modRider_core, State.core_mod_self]
  rfl

theorem traceAlways_untraced (s : State) (n action kind key : Nat) (it : Item) :
    ((s.traceAlways n action kind key it).core key).untraced = (s.core key).untraced :=
  when_reads (fun t => (t.core key).untraced) _ _ _ fun t => traceAdd_untraced t n action kind key it

theorem traceAlways_time (s : State) (n action kind key : Nat) (it : Item) : (s.traceAlways n action kind key it).time = s.time :=
  time_of_except (State.traceAlways_except _ rfl rfl s n action kind key it)

theorem riders_length_of_key (h : t.key = s.key) : t.riders.length = s.riders.length :=
  congrArg (fun k => k.sizes.getD 6 0) h

theorem queue_setQueue (r : RiderSt) (kind : Nat) (l : List Item) : (r.setQueue kind l).queue kind = l :=
  match kind with
  | 0 => rfl
  | 1 => rfl
  | _ + 2 => rfl

/-- An item offered first heads the queue of its class. -/
theorem offerFirst_head (hn : n < s.riders.length) (it : Item) :
    (((s.offerFirst n it).rider n).queue (classKind it.cls)).head? = some { it with atNs := s.nowNs } := by
  unfold State.offerFirst
  dsimp only
  rw [State.rider_mod_self _ _ _ hn, queue_setQueue]
  rfl

/-- The state in which a consumer has given way, before its item is queued again. -/
def State.gaveWay (s : State) (k : Nat) (it : Item) : State :=
  (s.modCore k (fun c => { c with busy := none, asking := true, stopAt := some s.nowNs })).modJob it.unit
    (fun j => { j with running := false, preempted := true, preempts := j.preempts + 1, coreNs := j.coreNs + (s.nowNs - (s.core k).since) })

theorem preemptCore_eq (hb : (s.core k).busy = some it) : s.preemptCore n k true =
    ((((s.gaveWay k it).traceAlways n 2 0 k it).offerFirst n { it with resumed := true }).count cntBfPreempt n 1) := by
  unfold State.preemptCore
  rw [hb]
  rfl

theorem preemptCore_frees (hb : (s.core k).busy = some it) (n : Nat) :
    ((s.preemptCore n k true).core k).untraced = { s.core k with busy := none, asking := true, stopAt := some s.nowNs }.untraced := by
  rw [preemptCore_eq hb, State.count_core, State.offerFirst, State.modRider_core, traceAlways_untraced, State.gaveWay, State.modJob_core,
    State.core_mod_self]

theorem preemptCore_head (hb : (s.core k).busy = some it) (hn : n < s.riders.length) :
    (((s.preemptCore n k true).rider n).queue (classKind it.cls)).head? = some { it with resumed := true, atNs := s.nowNs } := by
  have length : n < ((s.gaveWay k it).traceAlways n 2 0 k it).riders.length := by
    rw [riders_length_of_key (State.traceAlways_key _ _ _ _ _ _)]
    exact hn
  rw [preemptCore_eq hb, State.count_rider, offerFirst_head length { it with resumed := true }, State.nowNs, traceAlways_time]
  rfl

theorem riderPreempt_gives (hv : s.victim n = some k) (hb : (s.core k).busy = some it) (hn : n < s.riders.length) :
    ((s.riderPreempt n).core k).busy = none ∧ ((s.riderPreempt n).core k).asking = true ∧
      ((s.riderPreempt n).core k).stopAt = some s.nowNs ∧
      (((s.riderPreempt n).rider n).queue (classKind it.cls)).head? = some { it with resumed := true, atNs := s.nowNs } := by
  unfold State.riderPreempt
  rw [hv]
  have frees := preemptCore_frees hb n
  exact ⟨congrArg Core.busy frees, congrArg Core.asking frees, congrArg Core.stopAt frees, preemptCore_head hb hn⟩

/-! ### Jobs that wait for room (12 R520) -/

theorem outputRetry_retries {u : Bytes} (hu : (s.job h).waitOut = some u) (cons : ConsWord) : s.outputRetry h cons =
    ((s.advanceTo (s.job h).retryNs).jobOutput h u (s.job h).waitFlags (s.job h).waitSap cons).riderServe (s.job h).reach 0 := by
  unfold State.outputRetry
  dsimp only
  rw [hu]

theorem jobOutput_waits {u : Bytes} {w : BitVec 64} (flags sap : Nat) (hf : (((s.job h).hostRing.consumed w).fits
      (unitForm ((s.job h).desc.codec == 3) ((s.job h).desc.flags.getLsbD 2) u).length) = false) :
    ((s.jobOutput h u flags sap (some w)).job h).waitOut = some u ∧
      ((s.jobOutput h u flags sap (some w)).job h).retryNs = s.nowNs + 1000000 := by
  unfold State.jobOutput
  dsimp only
  rw [if_pos (by rw [hf]; rfl), State.job_mod_self]
  exact ⟨rfl, rfl⟩

/-! ### Decode contexts (12 R531 to R538) -/

/-- A decoded picture as its context stores it, its damaged blocks replaced (12 R535, R536). -/
def CtxSt.stored (x : CtxSt) (p : DecodedPicture) : DecodedPicture := { x.repaired p with fromConcealed := p.fromConcealed || x.blockBad }

/-- A context is ready to present pictures, and holds one. -/
def CtxSt.readyWith (x : CtxSt) (p : DecodedPicture) : Prop := x.ready = true ∧ p ∈ x.dpb

theorem pictureDecoded_stores {p : DecodedPicture} (he : (s.ctx x).cfg.enable = 1) (hr : s.coresRun = true) (hf : s.ctxFed x = true)
    (hc : p.codec = (s.ctx x).cfg.codec) (hd : decodes p.codec p.profile p.level = true) (hs : sizeFits (s.ctx x).cfg p = true)
    (ha : p.rap = true) (hl : p.rasl = false) : ((s.pictureDecoded x p).ctx x).readyWith ((s.ctx x).stored p) := by
  unfold State.pictureDecoded
  extract_lets repaired q u c was noted judged y late
  have cfg : c = (s.ctx x).cfg := by rw [show c = (u.ctx x).cfg from rfl, State.ctx_mod_self]
  have runs : u.coresRun = true := hr
  have fed : u.ctxFed x = true := hf
  have enabled : c.enable = 1 := cfg ▸ he
  have codec : (q.codec == c.codec) = true := beq_iff_eq.mpr (cfg ▸ hc)
  have profile : decodes q.codec q.profile q.level = true := hd
  have size : sizeFits c q = true := cfg ▸ hs
  have ready : y = { noted.ctx x with ready := true, skipRasl := was } := by
    have rap : q.rap = true := ha
    rw [show y = judged.ctx x from rfl, State.ctx_mod_self, rap, Bool.or_true, Bool.true_or, if_pos rfl]
  have rasl : q.rasl = false := hl
  rw [if_neg (by simp [enabled, runs, fed, codec, profile]), if_neg (by simp [size]), if_neg (by simp [ready, rasl]),
    State.ctx_mod_self, when_reads (fun t => t.ctx x) _ _ _ fun t => State.count_ctx t _ _ _ _]
  exact ⟨congrArg CtxSt.ready ready, List.mem_append_right _ (List.mem_singleton.mpr rfl)⟩

/-- A context after the presentation of a picture at an instant; with `clears` its concealment ends (12 R533, R534, R537). -/
def CtxSt.presented (z : CtxSt) (p : DecodedPicture) (ns : Nat) (clears : Bool) : CtxSt :=
  { z with
    dpb := z.dpb.erase p, sinceNs := ns, frame := z.frame + 1, showConcealed := picConcealed p
    concealing := z.concealing && !clears, episode := if clears then 0 else z.episode }

theorem presentPicture_except {p : DecodedPicture} {due : Nat} (hp : firstOut (s.ctx x).dpb = some p)
    (hd : (s.ctx x).dueNs p = some due) (he : (s.ctx x).cfg.enable = 1) (hr : s.coresRun = true) : ∃ ns clears,
      (s.presentPicture x).except beyondCtxs =
        ((((s.advanceTo due).count cntDecPictures x 1).clearAlarm almDecFormat x).modCtx x (·.presented p ns clears)).except beyondCtxs := by
  unfold State.presentPicture
  dsimp only
  rw [hp]
  dsimp only
  rw [hd]
  dsimp only
  rw [if_neg (by simp [he, hr]), State.except_ite, State.produce_except _ rfl rfl rfl, ite_self, State.except_ite, State.event_except,
    State.clearAlarm_except _ rfl, ite_self]
  exact ⟨_, _, rfl⟩

theorem presentPicture_presents {p : DecodedPicture} {due : Nat} (hp : firstOut (s.ctx x).dpb = some p)
    (hd : (s.ctx x).dueNs p = some due) (he : (s.ctx x).cfg.enable = 1) (hr : s.coresRun = true) :
    ((s.presentPicture x).ctx x).dpb = (s.ctx x).dpb.erase p ∧ ((s.presentPicture x).ctx x).frame = (s.ctx x).frame + 1 ∧
      ((s.presentPicture x).ctx x).showConcealed = picConcealed p ∧ (s.presentPicture x).time = (s.advanceTo due).time := by
  obtain ⟨ns, clears, leaves⟩ := presentPicture_except hp hd he hr
  rw [ctx_of_except leaves, State.ctx_mod_self, State.clearAlarm_ctx, State.count_ctx, State.advanceTo_ctx, ctxTime_of_except leaves,
    State.modCtx_time, State.clearAlarm_time]
  exact ⟨rfl, rfl, rfl, rfl⟩

theorem outputLoss_loses (he : (s.ctx x).cfg.enable = 1) (ho : (s.ctx x).cfg.output ≠ 0xFFFF)
    (hs : (s.src (s.ctx x).cfg.output).signal = true) : ((s.outputLoss x).ctx x).ready = false ∧
      ((s.outputLoss x).src (s.ctx x).cfg.output).signal = false ∧ (s.outputLoss x).stands almSrcLoss (s.ctx x).cfg.output = true ∧
      (s.outputLoss x).time = (s.advanceTo ((s.ctx x).sinceNs + 100000000)).time := by
  obtain ⟨signal, -, stands⟩ := loseSource_loses (s := s.advanceTo ((s.ctx x).sinceNs + 100000000)) (by rw [State.advanceTo_src]; exact hs)
  unfold State.outputLoss
  dsimp only
  rw [if_pos (by simp [he, ho, hs]), State.ctx_mod_self, State.modCtx_src, State.modCtx_stands, State.modCtx_time]
  exact ⟨rfl, signal, stands, time_of_except (State.loseSource_except _ rfl rfl _ _)⟩

/-! ### The obligation -/

/-- Settles O50, each command by what it makes of its consumer, job or decode context. -/
theorem riderAndDecodeCommandsComplete : Obligations.RiderAndDecodeCommandsComplete := by
  refine ⟨fun n kind idx s hc hr hb => congrArg Host.Outcome.next (riderRequest_serves hc hr hb), fun n kind idx s hc hr hb hq => ?idle,
    fun n kind idx o cons it u s hc hb ho hu => ?item, fun it o p s hp => packDone_packs o hp,
    fun n k it s hv hb hn => ⟨_, rfl, riderPreempt_gives hv hb hn⟩,
    fun n kind idx s hc hr => congrArg Host.Outcome.next (coreWake_serves hc hr), fun n s => rfl,
    fun h u cons s hu => congrArg Host.Outcome.next (outputRetry_retries hu cons),
    fun h u flags sap w s hf => jobOutput_waits flags sap hf,
    fun x p s he hr hf hc hd hs ha hl => ⟨_, rfl, pictureDecoded_stores he hr hf hc hd hs ha hl⟩,
    fun x p due s hp hd he hr => ⟨_, rfl, presentPicture_presents hp hd he hr⟩,
    fun x s he ho hs => ⟨_, rfl, outputLoss_loses he ho hs⟩⟩
  case idle => exact congrArg Host.Outcome.next ((riderRequest_serves hc hr hb).trans (riderServe_of_empty hq))
  case item =>
    have ends : exec (.riderItemComplete n kind idx o cons) s = .next ((u.itemDone it (coreKey n kind idx) o cons).riderServe n kind) := by
      rw [hu]
      exact congrArg Host.Outcome.next (itemComplete_ends hc hb ho cons)
    rw [ends, State.itemDone]
    exact ⟨fun hi => by rw [hi], fun hi => by rw [hi], fun hi => by rw [hi], fun hi => by rw [hi], fun hi => by rw [hi],
      fun hi => by rcases hi with hi | hi <;> rw [hi]⟩

end Sys2Proof.Machine
end

section
/-! PROOFS. What a step runs, what it keeps of the invariant, and the frames of the event commands. -/
namespace Sys2Proof.Machine

variable {c : Instr} {fs l : List Field} {s t u : State}

/-! ### A step and the invariant -/

/-- Settles O1, by the definition of a step. -/
theorem stepRunsFront : Obligations.StepRunsFront := fun _ _ _ => rfl

/-- Device time does not bear on the invariant. -/
theorem idle_kept (s : State) : Kept s s.idle := .of_key (by unfold State.idle; simp only [State.key_mk, State.key_fold])

/-- Settles O5, from what each command keeps. -/
theorem stepKeepsSound : Obligations.StepKeepsSound := by
  intro s t sound h
  unfold step at h
  split at h
  case h_1 =>
    cases h
    exact (idle_kept s).sound sound
  case h_2 c rest _ =>
    exact (exec_ran c h).kept.sound sound

/-! ### Frames of the event commands -/

/-- A command known by the state that it leads to changes no field but those that a table gives it. -/
theorem except_of_run {table : Instr → Option (List Field)} (hf : table c = some fs) (h : exec c s = .next t) (hl : table c = some l)
    (e : exec c s = .next u) (k : u.except l.contains = s.except l.contains) : t.except fs.contains = s.except fs.contains := by
  rw [hf] at hl
  rw [h] at e
  cases hl
  cases e
  exact k

/-- The start of a destination's frame changes the destination, what feeds on it and what it sends, and no other field. -/
theorem destFrameStart_except (pt : Field → Bool) (hdsts : pt .dsts = true) (hflows : pt .flows = true) (hstems : pt .stems = true)
    (s : State) (d : Nat) :
    (((((s.keepFeed d).destFrame d).captureStart d).feedStart d).startOutputs d).except pt = s.except pt := by
  rw [State.startOutputs_except _ hflows, State.feedStart_except _ hstems, State.captureStart_except _ hdsts,
    State.destFrame_except _ hdsts, State.keepFeed_except _ hstems]

/-- An input that loses its activity, and the outputs that follow it, change beside the alarms. -/
theorem activityLoss_except (pt : Field → Bool) (hains : pt .ains = true) (halarms : pt .alarms = true) (haouts : pt .aouts = true)
    (s : State) (k buffered : Nat) :
    (if s.ainPresent k then (s.modAin k (fun x => { x with fill := fillOf x.state buffered })).loseAin k else s).except pt = s.except pt := by
  rw [State.except_ite, State.loseAin_except _ hains halarms haouts, State.modAin_except _ hains, ite_self]

/-- Settles O10, each command by what the operation that it runs leaves alone. -/
theorem signalEventsFrame : Obligations.SignalEventsFrame := by
  intro c fs s t hf h
  cases c with
  | dbReqWrite ring value => exact except_of_run hf h rfl rfl (State.dbReq_except _ s ring value)
  | dbRplWrite ring value => exact except_of_run hf h rfl rfl (State.dbRpl_except _ s ring value)
  | dbEvtWrite value => exact except_of_run hf h rfl rfl (State.dbEvt_except _ s value)
  | ringEnable ring => exact except_of_run hf h rfl rfl (State.ringEnable_except _ s ring)
  | ringDisable ring => exact except_of_run hf h rfl rfl (State.ringDisable_except _ s ring)
  | ringDrainComplete ring => exact except_of_run hf h rfl rfl (State.ringDrained_except _ s ring)
  | ringFetchError ring verb r => exact except_of_run hf h rfl rfl (State.ringFetchError_except _ s ring verb r)
  | ringWriteError ring => exact except_of_run hf h rfl rfl (State.writeError_except _ s ring)
  | intEnableWrite value => exact except_of_run hf h rfl rfl (State.intEnableWrite_except _ s value)
  | gateBadAccess offset write => exact except_of_run hf h rfl rfl (State.badAccess_except _ s offset write)
  | intHoldoffExpiry vector => exact except_of_run hf h rfl rfl (State.holdoffExpiry_except _ rfl s vector)
  | domainFrameLoRead d => exact except_of_run hf h rfl rfl (State.frameLoRead_except _ rfl s d)
  | shadowRebuild d complete => exact except_of_run hf h rfl rfl (State.shadowRebuild_except _ rfl rfl s d complete)
  | timeNsRead => exact except_of_run hf h rfl rfl (State.timeNsRead_except _ rfl s)
  | incrNsRead => exact except_of_run hf h rfl rfl (State.incrNsRead_except _ rfl s)
  | capNsRead pin => exact except_of_run hf h rfl rfl (State.capNsRead_except _ rfl s pin)
  | tcapEdge pin falling => exact except_of_run hf h rfl rfl (State.capEdge_except _ rfl s pin falling)
  | aonResetRelease => exact except_of_run hf h rfl rfl (State.aonRelease_except _ rfl rfl rfl s)
  | bootToRecovery => exact except_of_run hf h rfl rfl (State.bootToRecovery_except _ rfl s)
  | swapDecision d => exact except_of_run hf h rfl rfl (State.swapDecision_except _ rfl rfl rfl rfl rfl rfl s d)
  | destSwitchingLine dst => exact except_of_run hf h rfl rfl (State.switchingLine_except _ rfl s dst)
  | destFrameStart dst => exact except_of_run hf h rfl rfl (destFrameStart_except _ rfl rfl rfl s dst)
  | refActivityLost k => exact except_of_run hf h rfl rfl (State.refLost_except _ rfl rfl rfl s k)
  | holdoverExpiry => exact except_of_run hf h rfl rfl (State.holdoverExpiry_except _ rfl rfl rfl s)
  | historyRecord meanFreq => exact except_of_run hf h rfl rfl (State.historyRecord_except _ rfl rfl s meanFreq)
  | ptpBridgeTimeout => exact except_of_run hf h rfl rfl (State.bridgeTimeout_except _ rfl rfl rfl rfl s)
  | triggerFire k => exact except_of_run hf h rfl rfl (State.triggerFire_except _ rfl rfl s k)
  | ppsOutPulse => exact except_of_run hf h rfl rfl (State.ppsPulse_except _ rfl rfl s)
  | sourceFrameMeasure src arrivalNs periodPs beyond => 
    exact except_of_run hf h rfl rfl (State.measureSource_except _ rfl rfl s src arrivalNs periodPs beyond)
  | sourceSignalLoss src linesMissing got => 
    exact except_of_run hf h rfl rfl (State.inputLost_except _ rfl rfl rfl rfl rfl rfl s src linesMissing got)
  | flowSourceTimeout src got => exact except_of_run hf h rfl rfl (State.flowTimeout_except _ rfl rfl rfl rfl rfl s src got)
  | probeFrame dst => exact except_of_run hf h rfl rfl (State.probeFrame_except _ rfl rfl s dst)
  | generatorFrame src => exact except_of_run hf h rfl rfl (State.generatorFrame_except _ rfl rfl rfl s src)
  | recirculationReturn k => exact except_of_run hf h rfl rfl (State.recirculate_except _ rfl rfl rfl s k)
  | converterMeasure ain ratioPpb phase fill => 
    exact except_of_run hf h rfl rfl (State.measureAin_except _ rfl rfl rfl s ain ratioPpb phase fill)
  | audioActivityLoss ain buffered => exact except_of_run hf h rfl rfl (activityLoss_except _ rfl rfl rfl s ain buffered)
  | audioSlip ain => exact except_of_run hf h rfl rfl (State.slipAin_except _ rfl s ain)
  | audioBoundary aout run => exact except_of_run hf h rfl rfl (State.audioBoundary_except _ rfl rfl s aout run)
  | zeroCrossing aout start run => exact except_of_run hf h rfl rfl (State.zeroCrossing_except _ rfl rfl s aout start run)
  | zeroCrossingTimeout aout start run => exact except_of_run hf h rfl rfl (State.zeroTimeout_except _ rfl rfl s aout start run)
  | nonaudioOnset pair dataType => exact except_of_run hf h rfl rfl (State.nonaudioOn_except _ rfl rfl s pair dataType)
  | nonaudioEnd pair => exact except_of_run hf h rfl rfl (State.nonaudioOff_except _ rfl rfl s pair)
  | portClockError p bits => exact except_of_run hf h rfl rfl (State.portClockBad_except _ rfl rfl rfl rfl s p bits)
  | portClockRecover p => exact except_of_run hf h rfl rfl (State.portClockGood_except _ rfl rfl s p)
  | fomAlarmClear lane => exact except_of_run hf h rfl rfl (State.fomClear_except _ rfl rfl s lane)
  | legReturn flow leg => exact except_of_run hf h rfl rfl (State.legReturn_except _ rfl rfl s flow leg)
  | eyeScanComplete lane counts => exact except_of_run hf h rfl rfl (State.eyeDone_except _ rfl rfl s lane counts)
  | prbsCheckerLock lane => exact except_of_run hf h rfl rfl (State.prbsLock_except _ rfl s lane)
  | prbsCheckerRelock lane bits errors symbolErrors => 
    exact except_of_run hf h rfl rfl (State.prbsRelock_except _ rfl s lane bits errors symbolErrors)
  | i2cTransactionEnd bus res => exact except_of_run hf h rfl rfl (State.i2cEnd_except _ rfl rfl rfl s bus res)
  | i2cStretchTimeout bus sdaLow => exact except_of_run hf h rfl rfl (State.i2cStretch_except _ rfl rfl rfl s bus sdaLow)
  | rateHookStart lane hd => exact except_of_run hf h rfl rfl (State.hookStart_except _ rfl rfl rfl s lane hd)
  | linkUp port => exact except_of_run hf h rfl rfl (State.linkUp_except _ rfl rfl rfl rfl s port)
  | linkDown port cause => exact except_of_run hf h rfl rfl (State.linkDown_except _ rfl rfl s port cause)
  | ptpMessageReceive port msg => exact except_of_run hf h rfl rfl (State.ptpIn_except _ rfl rfl s port msg)
  | mergeRelease flow => exact except_of_run hf h rfl rfl (State.mergeRelease_except _ rfl rfl rfl rfl s flow)
  | legLoss flow leg => exact except_of_run hf h rfl rfl (State.legLoss_except _ rfl rfl rfl s flow leg)
  | membershipReportRepeat port => exact except_of_run hf h rfl rfl (State.reportRepeat_except _ rfl rfl s port)
  | egressEnqueue port frame => exact except_of_run hf h rfl rfl (State.egressIn_except _ rfl s port frame)
  | egressSelect port => exact except_of_run hf h rfl rfl (State.egressSelect_except _ rfl rfl rfl s port)
  | gateListTakeover port => exact except_of_run hf h rfl rfl (State.gateTakeover_except _ rfl rfl rfl s port)
  | queueDelayDrop queue => exact except_of_run hf h rfl rfl (State.delayDrop_except _ rfl rfl s queue)
  | queueSample port => exact except_of_run hf h rfl rfl (State.queueSample_except _ rfl rfl s port)
  | gateEntryChange port => exact except_of_run hf h rfl rfl (State.gateChange_except _ rfl rfl s port)
  | pacerRelease flow j => exact except_of_run hf h rfl rfl (State.pacerRelease_except _ rfl rfl rfl s flow j)
  | audioAncRelease flow line audio status => 
    exact except_of_run hf h rfl rfl (State.audioAncRelease_except _ rfl rfl s flow line audio status)
  | leaseRenew plane => exact except_of_run hf h rfl rfl (State.leaseRenew_except _ rfl rfl s plane)
  | leaseExpiry => exact except_of_run hf h rfl rfl (State.leaseExpiry_except _ rfl rfl rfl rfl rfl rfl rfl rfl s)
  | handbackHoldoffExpiry => exact except_of_run hf h rfl rfl (State.handbackDue_except _ rfl rfl rfl rfl rfl rfl rfl rfl s)
  | rightRequest plane => exact except_of_run hf h rfl rfl (State.rightRequest_except _ rfl rfl rfl rfl rfl rfl rfl s plane)
  | planeCheckEval plane obs => exact except_of_run hf h rfl rfl (State.planeEval_except _ rfl rfl rfl rfl rfl rfl rfl s plane obs)
  | handoverHoldEnd src => exact except_of_run hf h rfl rfl (State.holdEnd_except _ rfl rfl rfl s src)
  | coreGate reach consumer index => exact except_of_run hf h rfl rfl (State.coreGate_except _ rfl s reach consumer index)
  | holdupOkRise => exact except_of_run hf h rfl rfl (State.holdupRise_except _ rfl s)
  | delayReqSend port => exact except_of_run hf h rfl rfl (State.delayReq_except _ rfl s port)
  | announceTimeout port best => exact except_of_run hf h rfl rfl (State.announceTimeout_except _ rfl s port best)
  | ristReceiverReport flow => exact except_of_run hf h rfl rfl (State.receiverReport_except _ rfl rfl s flow)
  | decoderInputRelease flow => exact except_of_run hf h rfl rfl (State.decoderRelease_except _ rfl rfl rfl rfl rfl rfl rfl rfl rfl s flow)
  | _ => nomatch hf

/-- Settles O11, each command by what the operation that it runs leaves alone. -/
theorem serviceEventsFrame : Obligations.ServiceEventsFrame := by
  intro c fs s t hf h
  cases c with
  | recalibrationComplete result => exact except_of_run hf h rfl rfl (State.recalDone_except _ rfl rfl s result)
  | svcStatus => exact except_of_run hf h rfl rfl (State.svcStatus_except _ rfl s)
  | svcFetch => exact except_of_run hf h rfl rfl (State.svcFetch_except _ rfl s)
  | sysResetRelease bootSel => exact except_of_run hf h rfl rfl (State.sysRelease_except _ rfl rfl s bootSel)
  | pwrOkRise => exact except_of_run hf h rfl rfl (State.pwrRise_except _ rfl rfl s)
  | pwrOkTimeout => exact except_of_run hf h rfl rfl (State.pwrTimeout_except _ rfl rfl rfl s)
  | firstBootPass => exact except_of_run hf h rfl rfl (State.firstPass_except _ rfl rfl s)
  | oldSlotErased => exact except_of_run hf h rfl rfl (State.slotErased_except _ rfl s)
  | pieceWriteComplete piece => exact except_of_run hf h rfl rfl (State.pieceWritten_except _ rfl s piece)
  | dramReadError e => 
    exact except_of_run hf h rfl rfl (State.dramError_except _ rfl rfl rfl rfl rfl rfl rfl rfl rfl rfl rfl rfl rfl rfl s e)
  | ristSenderReport delivery => exact except_of_run hf h rfl rfl (State.ristReport_except _ rfl rfl rfl s delivery)
  | tsTableInsert delivery => exact except_of_run hf h rfl rfl (State.tsTables_except _ rfl rfl rfl s delivery)
  | stemAnalysisRelease stem => exact except_of_run hf h rfl rfl (State.stemRelease_except _ rfl rfl rfl rfl rfl rfl rfl rfl s stem)
  | partitionCutTime rendition partition => exact except_of_run hf h rfl rfl (State.partitionCut_except _ rfl rfl s rendition partition)
  | riderRequest reach consumer index => 
    exact except_of_run hf h rfl rfl (State.riderRequest_except _ rfl rfl rfl rfl rfl rfl s reach consumer index)
  | coreWake reach consumer index => 
    exact except_of_run hf h rfl rfl (State.coreWake_except _ rfl rfl rfl rfl rfl rfl s reach consumer index)
  | riderRetry reach => exact except_of_run hf h rfl rfl (State.riderRetry_except _ rfl rfl rfl rfl rfl rfl s reach)
  | riderPreempt reach => exact except_of_run hf h rfl rfl (State.riderPreempt_except _ rfl rfl rfl s reach)
  | bfOutputRetry job cons => exact except_of_run hf h rfl rfl (State.outputRetry_except _ rfl rfl rfl rfl rfl rfl rfl s job cons)
  | floorAlarmClear rendition => exact except_of_run hf h rfl rfl (State.floorClear_except _ rfl rfl s rendition)
  | tsPacketSend delivery => exact except_of_run hf h rfl rfl (State.tsSend_except _ rfl rfl rfl rfl s delivery)
  | decodePictureComplete ctx pic => exact except_of_run hf h rfl rfl (State.pictureDecoded_except _ rfl rfl rfl s ctx pic)
  | decodeOutputLoss ctx => exact except_of_run hf h rfl rfl (State.outputLoss_except _ rfl rfl rfl rfl s ctx)
  | headFrameStart head peaks => exact except_of_run hf h rfl rfl (State.headFrameStart_except _ rfl rfl s head peaks)
  | headFrameComplete head => exact except_of_run hf h rfl rfl (State.headFrameComplete_except _ rfl rfl rfl rfl s head)
  | readbackArm value => exact except_of_run hf h rfl rfl (State.gated_except _ s _ fun t => State.readbackArm_except _ rfl t value)
  | readbackCapture words => exact except_of_run hf h rfl rfl (State.readbackCapture_except _ rfl s words)
  | culvertArm c => exact except_of_run hf h rfl rfl (State.gated_except _ s _ fun t => State.culvertArm_except _ rfl rfl t c)
  | culvertErrorClear c => exact except_of_run hf h rfl rfl (State.gated_except _ s _ fun t => State.culvertClear_except _ rfl rfl t c)
  | culvertAbort c => exact except_of_run hf h rfl rfl (State.gated_except _ s _ fun t => State.culvertAbort_except _ rfl t c)
  | culvertHalf c => exact except_of_run hf h rfl rfl (State.culvertHalf_except _ rfl s c)
  | culvertComplete c data => exact except_of_run hf h rfl rfl (State.culvertComplete_except _ rfl rfl rfl rfl rfl s c data)
  | culvertError c code done => exact except_of_run hf h rfl rfl (State.culvertError_except _ rfl rfl rfl rfl rfl s c code done)
  | culvertAbortComplete c done => exact except_of_run hf h rfl rfl (State.culvertAbortEnd_except _ rfl rfl rfl rfl rfl s c done)
  | remapSet => exact except_of_run hf h rfl rfl (State.remapSet_except _ rfl s)
  | busDefaultAccess access => exact except_of_run hf h rfl rfl (State.busDefault_except _ rfl s access)
  | scrubPassComplete stack => exact except_of_run hf h rfl rfl (State.scrubPass_except _ rfl s stack)
  | refreshDue stack bank rtWaiting => exact except_of_run hf h rfl rfl (State.refreshDue_except _ rfl s stack bank rtWaiting)
  | panicEnter reach port writer fill => exact except_of_run hf h rfl rfl (State.panicEnter_except _ rfl s reach port writer fill)
  | panicLeave reach port writer fill => exact except_of_run hf h rfl rfl (State.panicLeave_except _ rfl s reach port writer fill)
  | rtStarved reach port => exact except_of_run hf h rfl rfl (State.rtStarved_except _ rfl rfl rfl rfl rfl s reach port)
  | playoutPostTime src => exact except_of_run hf h rfl rfl (State.playoutPost_except _ rfl rfl rfl rfl s src)
  | playoutSlotFree src slot => exact except_of_run hf h rfl rfl (State.playoutFree_except _ rfl rfl rfl s src slot)
  | captureFrameWritten dst => exact except_of_run hf h rfl rfl (State.captureFrame_except _ rfl rfl rfl rfl s dst)
  | gaugeFeedComplete unit => exact except_of_run hf h rfl rfl (State.gaugeFeedEnd_except _ rfl rfl s unit)
  | holdupOkFall => exact except_of_run hf h rfl rfl (State.holdupFall_except _ rfl rfl rfl s)
  | tallyChange n level => exact except_of_run hf h rfl rfl (State.tallyChange_except _ rfl s n level)
  | enforcementReevaluate => exact except_of_run hf h rfl rfl (State.reevaluate_except _ rfl rfl rfl rfl rfl rfl rfl s)
  | clauseClockStep reach => exact except_of_run hf h rfl rfl (State.clockStep_except _ rfl rfl rfl s reach)
  | powerSample rails => exact except_of_run hf h rfl rfl (State.powerSample_except _ rfl rfl s rails)
  | stormEnd => exact except_of_run hf h rfl rfl (State.stormEnd_except _ rfl s)
  | pieceStale piece => exact except_of_run hf h rfl rfl (State.pieceStale_except _ rfl rfl s piece)
  | leaseIdleExpiry => exact except_of_run hf h rfl rfl (State.leaseIdle_except _ rfl rfl s)
  | jtagInstruction ir => exact except_of_run hf h rfl rfl (State.jtagRun_except _ rfl s ir)
  | _ => nomatch hf

end Sys2Proof.Machine
end

section
/-! PROOFS. What leaves the frame store and its capture slots alone: every command but the transfers, the captures and the changes of mode
and power. -/
namespace Sys2Proof.Machine

variable {c : Instr} {q : ReqSpec} {r : Request} {fs : List Field} {s t u : State}

/-! ### Leaving the frame store alone (14 R585, R588) -/

/-- From `s` to `t` the frame store stays, with the frames of its capture slots. -/
structure Stored (s t : State) : Prop where
  dram : t.dram = s.dram
  stamps : t.capStamps = s.capStamps

/-- The bytes that the frame store reads stay with it. -/
theorem Stored.byte (h : Stored s t) (a : Nat) : t.dramByte a = s.dramByte a := by
  unfold State.dramByte
  rw [State.memDefault_eq, State.memDefault_eq, h.dram, h.stamps]

theorem Stored.refl (s : State) : Stored s s := ⟨rfl, rfl⟩

theorem Stored.trans (h : Stored s t) (k : Stored t u) : Stored s u := ⟨k.dram.trans h.dram, k.stamps.trans h.stamps⟩

theorem Stored.of_base (h : t.key.base = s.key.base) : Stored s t := ⟨congrArg Key.store h, congrArg Key.stamps h⟩

theorem Stored.of_key (h : t.key = s.key) : Stored s t := .of_base (congrArg Key.base h)

theorem Stored.of_mode {m : Mode × Mode × Mode × Bool} (h : t.key = s.key.inMode m) : Stored s t :=
  .of_base (by rw [h]; rfl)

/-- What leaves all but some fields alone, neither the frame store nor its capture slots among them. -/
theorem Stored.of_except {pt : Field → Bool} (h : t.except pt = s.except pt) (hd : pt .dram = false) (hc : pt .capStamps = false) :
    Stored s t :=
  ⟨by simpa [State.except, hd] using congrArg State.dram h, by simpa [State.except, hc] using congrArg State.capStamps h⟩

theorem Stored.ite {b : Prop} [Decidable b] (h : Stored s t) (k : Stored s u) : Stored s (if b then t else u) := by
  split
  · exact h
  · exact k

/-! ### Requests -/

theorem oddSpec_stored (hq : q ∈ oddSpecs) (c : Call) (u : State) : Stored u (q.body c u).2 := by
  simp only [oddSpecs, List.mem_cons, List.not_mem_nil, or_false] at hq
  rcases hq with rfl | rfl | rfl | rfl | rfl | rfl
  · rcases specSetMode_key c u with h | ⟨m, -, -, h⟩
    · exact .of_key h
    · exact .of_mode h
  · exact .of_base (specSetJobTrace_base c u)
  · exact .of_base (specSetDomain_base c u)
  · exact .of_base (specSetTimebasePhase_base c u)
  · exact .of_base (specSetTimebaseAbsolute_base c u)
  · exact .of_base (specAckThermal_base c u)

/-- What a command that is a request runs, and what its specification keeps. -/
theorem exec_request (h : requestOf c = some (q, r)) :
    exec c s = .next (serve q r s) ∧ ((∀ c t, (q.body c t).2.key = t.key) ∨ q ∈ oddSpecs) := by
  cases c <;> cases h <;> exact ⟨rfl, by simp [oddSpecs]⟩

theorem serve_stored (hq : (∀ c t, (q.body c t).2.key = t.key) ∨ q ∈ oddSpecs) (r : Request) (s : State) : Stored s (serve q r s) := by
  refine serve_ind (Stored s) (fun _ _ h k => k.trans (.of_key h)) q r s (fun c t k => k.trans ?_) (.refl s)
  rcases hq with h | h
  · exact .of_key (h c t)
  · exact oddSpec_stored h c t

theorem svcSend_stored (s : State) (b : Bytes) : Stored s (s.svcSend b) :=
  svcSend_ind (Stored s) (fun _ _ h k => k.trans (.of_key h)) (fun _ hq c t k => k.trans (oddSpec_stored hq c t)) s b (.refl s)

theorem inbandRequest_stored (s : State) (sender : InbandSender) (b : Bytes) : Stored s (s.inbandRequest sender b) :=
  inbandRequest_ind (Stored s) (fun _ _ h k => k.trans (.of_key h)) (fun _ hq c t k => k.trans (oddSpec_stored hq c t)) s sender b (.refl s)

/-! ### Entries to Boot, and the boundary of domain 0 (01 R25, R27; 02 R65) -/

theorem arrive_stored (s : State) (m : Mode) : Stored s (s.arrive m) := .of_mode (State.arrive_key s m)

theorem enterBoot_stored (s : State) (cause : Nat) : Stored s (s.enterBoot cause) :=
  (Stored.of_key (State.hgSleep_key s)).trans ((arrive_stored _ .boot).trans ⟨rfl, rfl⟩)

theorem activationCommit_stored (s : State) (ok : Bool) : Stored s (s.activationCommit ok) := by
  unfold State.activationCommit
  split
  · refine .ite (.of_key (State.activationEnds_key _ _)) (.ite (.of_key (State.activationEnds_key _ _)) ?_)
    exact (Stored.of_key (State.committed_key _ _)).trans (enterBoot_stored _ _)
  · exact .refl s

theorem bootStart_stored (s : State) : Stored s s.bootStart := by
  unfold State.bootStart
  split
  · exact .ite ((Stored.of_key (State.advanceTo_key s _)).trans (enterBoot_stored _ _)) (.refl s)
  · exact .refl s

theorem thermalBoundary_stored (s : State) : Stored s s.thermalBoundary := by
  unfold State.thermalBoundary
  have stopped : Stored s { (s.each s.thermal.decStop (fun t x => t.landCtx x { (t.ctx x).cfg with enable := 0 })) with
      thermal := { (s.each s.thermal.decStop (fun t x => t.landCtx x { (t.ctx x).cfg with enable := 0 })).thermal with decStop := [] } } :=
    .of_key (by simp [↓State.key_mk, State.key_fold])
  exact .ite (stopped.trans (arrive_stored _ _)) stopped

theorem housekeeping_stored (s : State) : Stored s s.housekeeping := by
  unfold State.housekeeping
  refine .ite (.refl s) (Stored.trans (.of_base ?_) (thermalBoundary_stored _))
  simp [↓State.key_mk, Key.base_of, State.base_fold]

/-! ### Every command -/

/-- A table of fields gives neither the frame store nor its capture slots to a command that is not to touch them. -/
def sparesStore (table : Instr → Option (List Field)) (c : Instr) : Bool :=
  touchesStore c || ((table c).getD []).all (fun f => f != .dram && f != .capStamps)

theorem signalFields_spare (c : Instr) : sparesStore signalFields c = true := by cases c <;> rfl

theorem serviceFields_spare (c : Instr) : sparesStore serviceFields c = true := by cases c <;> rfl

theorem Stored.of_table {table : Instr → Option (List Field)} (hs : sparesStore table c = true) (ht : touchesStore c = false)
    (hf : table c = some fs) (h : t.except fs.contains = s.except fs.contains) : Stored s t := by
  simp only [sparesStore, ht, hf, Bool.false_or, Option.getD_some, List.all_eq_true, Bool.and_eq_true, bne_iff_ne, ne_eq] at hs
  refine .of_except h ?_ ?_
  · exact Bool.eq_false_iff.mpr fun m => (hs .dram (by simpa using m)).1 rfl
  · exact Bool.eq_false_iff.mpr fun m => (hs .capStamps (by simpa using m)).2 rfl

/-- A command that is no request and has no row in the tables of fields. -/
def unlisted (c : Instr) : Bool := (requestOf c).isNone && (signalFields c).isNone && (serviceFields c).isNone && !touchesStore c

theorem exec_stored_of_unlisted (hc : unlisted c = true) (h : exec c s = .next t) : Stored s t := by
  cases c with
  | registerWrite offset value => exact .of_base (execRegisterWrite_base offset value s t h)
  | svcWord offset => exact .of_base (execSvcWord_base offset s t h)
  | videoDomainBoundary d => exact .of_base (execVideoDomainBoundary_base d s t h)
  | loopUpdate phase freq => exact .of_base (execLoopUpdate_base phase freq s t h)
  | ptpOffsetMeasurement offset identity clockClass => exact .of_base (execPtpOffsetMeasurement_base offset identity clockClass s t h)
  | thresholdRelease level => exact .of_base (execThresholdRelease_base level s t h)
  | refMonitorReading k ppb => exact .of_key (execRefMonitorReading_key k ppb s t h)
  | refQualify k => exact .of_key (execRefQualify_key k s t h)
  | acquireStagePass => exact .of_key (execAcquireStagePass_key s t h)
  | lockedBandwidthNarrow => exact .of_key (execLockedBandwidthNarrow_key s t h)
  | sourceFrameComplete src frame => exact .of_key (execSourceFrameComplete_key src frame s t h)
  | aacAccessUnit aout au cons => exact .of_key (execAacAccessUnit_key aout au cons s t h)
  | laneSignalDetect lane => exact .of_key (execLaneSignalDetect_key lane s t h)
  | adaptStepEnd lane res => exact .of_key (execAdaptStepEnd_key lane res s t h)
  | qualifyTimeout lane => exact .of_key (execQualifyTimeout_key lane s t h)
  | fomUpdate lane levels => exact .of_key (execFomUpdate_key lane levels s t h)
  | laneInputLoss lane => exact .of_key (execLaneInputLoss_key lane s t h)
  | ethFrameReceive port frame => exact .of_key (execEthFrameReceive_key port frame s t h)
  | analysisDeadline stem => exact .of_key (execAnalysisDeadline_key stem s t h)
  | deliveryInstant stem cons => exact .of_key (execDeliveryInstant_key stem cons s t h)
  | riderItemComplete reach consumer index out cons => exact .of_key (execRiderItemComplete_key reach consumer index out cons s t h)
  | decodePresent ctx => exact .of_key (execDecodePresent_key ctx s t h)
  | svcSend frame => cases h; exact svcSend_stored s frame
  | inbandRequest sender frame => cases h; exact inbandRequest_stored s sender frame
  | bootStart => cases h; exact bootStart_stored s
  | activationCommit entriesOk => cases h; exact activationCommit_stored s entriesOk
  | watchdogExpiry => cases h; exact .ite (enterBoot_stored s 3) (.refl s)
  | deviceRestart => cases h; exact .ite (enterBoot_stored s 4) (.refl s)
  | domain0Boundary => cases h; exact housekeeping_stored s
  | _ => exact absurd hc Bool.false_ne_true

theorem exec_stored (c : Instr) (hc : touchesStore c = false) (h : exec c s = .next t) : Stored s t := by
  cases hr : requestOf c with
  | some p =>
    obtain ⟨serves, keeps⟩ := exec_request (s := s) hr
    rw [serves] at h
    cases h
    exact serve_stored keeps _ s
  | none =>
    cases hf : signalFields c with
    | some fs => exact .of_table (signalFields_spare c) hc hf (signalEventsFrame c fs s t hf h)
    | none =>
      cases hg : serviceFields c with
      | some fs => exact .of_table (serviceFields_spare c) hc hg (serviceEventsFrame c fs s t hg h)
      | none => exact exec_stored_of_unlisted (by simp [unlisted, hr, hf, hg, hc]) h

/-- Settles O8, by what each request, each event of the tables and each other command leaves alone. -/
theorem frameStoreFrame : Obligations.FrameStoreFrame := by
  intro c s t hc h
  have stored := exec_stored c hc h
  exact ⟨stored.dram, stored.stamps, stored.byte⟩

end Sys2Proof.Machine
end

section
/-! PROOFS. A head's frame that meets a spoiled writer: the claim of the compositor and memory commands fails there. -/
namespace Sys2Proof.Machine

variable {s : State} {h k : Nat}

/-! ### A frame composed into a spoiled source (13 R548; 14 R599) -/

theorem judgeHeadFreeze_src (s : State) (h : Nat) (same : Bool) (sig : BitVec 32) (k : Nat) :
    (s.judgeHeadFreeze h same sig).src k = s.src k := by
  rw [State.src, srcs_of_except (State.judgeHeadFreeze_except (allBut .srcs) rfl rfl s h same sig), State.src]

/-- A frame that an overflowed writer's buffer discards does not become the newest (14 R599). -/
theorem produce_spoiled_newest (hs : (s.src k).signal = true) (hp : (s.src k).spoiled = true) (f : Fmt) (pic : Frame) :
    ((s.produce k f pic).src k).newest = (s.src k).newest := by
  rw [State.produce, if_pos hs, State.frameDone, State.src_mod_self, setFmt_src, if_pos hp]

theorem headFrameComplete_spoiled_newest (hh : h < 2) (hr : (s.head h).running = true) (hs : (s.src (1088 + h)).signal = true)
    (hp : (s.src (1088 + h)).spoiled = true) :
    ((s.headFrameComplete h).src (1088 + h)).newest = (s.src (1088 + h)).newest := by
  have runs : ¬ (h ≥ 2 || !(s.head h).running) = true := by simp [hr, hh]
  rw [State.headFrameComplete, if_neg runs,
    produce_spoiled_newest (by rw [State.count_src, judgeHeadFreeze_src, hs]) (by rw [State.count_src, judgeHeadFreeze_src, hp]),
    State.count_src, judgeHeadFreeze_src]

/-- A device whose first head runs while its own source has a signal and a spoiled writer. -/
def spoiledHead : State :=
  { State.reset with
    heads := [{ HeadSt.reset with running := true }, HeadSt.reset]
    srcs := [(1088, { SrcSt.reset with signal := true, spoiled := true })] }

/-- Refutes O51: a head's completed frame is claimed to become the newest of the head's source, but a writer whose buffer has overflowed
discards it (14 R599), so that in `spoiledHead` the number of the newest frame stays. -/
theorem not_compositorAndMemoryCommandsComplete : ¬ Obligations.CompositorAndMemoryCommandsComplete := by
  intro ⟨_, complete, _⟩
  obtain ⟨t, ran, _, _, _, newer, _⟩ := complete 0 spoiledHead (by decide) (by decide) rfl
  have ends : spoiledHead.headFrameComplete 0 = t := Host.Outcome.next.inj ran
  have stays := headFrameComplete_spoiled_newest (s := spoiledHead) (h := 0) (by decide) rfl rfl rfl
  rw [ends] at stays
  exact absurd (stays.symm.trans newer) (Nat.ne_of_lt (Nat.lt_succ_self _))

end Sys2Proof.Machine
end

section
/-! PROOFS. The Gauge requests and feeds. -/
namespace Sys2Proof.Machine

variable {s t : State} {c : Call} {u k n : Nat} {p : Poly}

/-! ### A cause bit that stands stays (02 R125) -/

theorem interrupt_keeps_cause (h : s.ints.cause.getLsbD k = true) (n : Nat) : (s.interrupt n).ints.cause.getLsbD k = true := by
  rw [interrupt_cause, BitVec.getLsbD_or, h, Bool.true_or]

theorem interrupt_sets_cause (s : State) (hn : n < 32) : (s.interrupt n).ints.cause.getLsbD n = true := by
  rw [interrupt_cause, BitVec.getLsbD_or, BitVec.getLsbD_ofNat, Nat.testBit_two_pow_self, Bool.and_true, decide_eq_true hn, Bool.or_true]

theorem writeEvent_keeps_cause (h : s.ints.cause.getLsbD k = true) (e : Ev) : (s.writeEvent e).ints.cause.getLsbD k = true := by
  unfold State.writeEvent
  dsimp only
  refine interrupt_keeps_cause ?_ 4
  rw [State.hostWrite_ints, State.modRing_ints, State.hostWrite_ints]
  exact h

theorem event_keeps_cause (h : s.ints.cause.getLsbD k = true) (e : Ev) : (s.event e).ints.cause.getLsbD k = true := by
  unfold State.event
  split
  · dsimp only
    split
    · exact writeEvent_keeps_cause h e
    · rw [State.stormDrop_ints, State.count_ints]
      exact h
  · exact h

/-! ### The requests of a unit that is not fed (14 R619 to R622) -/

theorem setGauge_loads (hp : polyOf (decGaugeCfg c.block).poly = some p) (hf : (s.gauge c.r.index).fed = false) :
    specSetGauge.body c s = (okWith [], s.modGauge c.r.index (fun g =>
      { g with cfg := decGaugeCfg c.block, value := BitVec.ofNat 32 p.init })) := by
  simp [specSetGauge, hp, hf]

theorem writeGaugeData_runs (hf : (s.gauge c.r.index).fed = false) (he : (s.gauge c.r.index).cfg.poly = 2 → c.block.length % 2 = 0) :
    specWriteGaugeData.body c s = (okWith [], s.gaugeFeed c.r.index (c.block.drop 8)) := by
  have even : ¬ ((s.gauge c.r.index).cfg.poly = 2 ∧ c.block.length % 2 = 1) := fun ⟨two, odd⟩ => by
    rw [he two] at odd
    exact absurd odd (by decide)
  simp [specWriteGaugeData, hf, even]

theorem setGaugeFeed_begins (hw : s.inWindow (u64 c.block 8) (u64 c.block 16) = true) (hn : 0 < u64 c.block 16)
    (hf : (s.gauge c.r.index).fed = false) (he : (s.gauge c.r.index).cfg.poly = 2 → u64 c.block 16 % 2 = 0) :
    specSetGaugeFeed.body c s =
      (okWith [], s.modGauge c.r.index (fun g => { g with feed := some (u64 c.block 8, u64 c.block 16) })) := by
  have even : ¬ ((s.gauge c.r.index).cfg.poly = 2 ∧ u64 c.block 16 % 2 = 1) := fun ⟨two, odd⟩ => by
    rw [he two] at odd
    exact absurd odd (by decide)
  simp [specSetGaugeFeed, hw, hf, even, Nat.pos_iff_ne_zero.mp hn]

theorem setGaugeValue_writes (hf : (s.gauge c.r.index).fed = false) :
    specSetGaugeValue.body c s = (okWith [], s.modGauge c.r.index (fun g =>
      { g with value := BitVec.ofNat 32 (u32 c.block 4 % 2 ^ (s.gauge c.r.index).poly.width) })) := by
  simp [specSetGaugeValue, hf, State.modGauge]

theorem setGaugeFinalise_answers (hf : (s.gauge c.r.index).fed = false) :
    specSetGaugeFinalise.body c s = (okWith (le 4 (s.gaugeFinal c.r.index).1), (s.gaugeFinal c.r.index).2) := by
  simp [specSetGaugeFinalise, hf]

/-! ### Finalisation and the end of a feed (14 R620, R622) -/

theorem gaugeFinal_value (s : State) (u : Nat) :
    ((s.gaugeFinal u).2.gauge u).value = BitVec.ofNat 32 (s.gauge u).poly.init := by
  unfold State.gaugeFinal
  dsimp only
  split <;> simp

/-- A comparison that is asked for and fails is reported (14 R622). -/
theorem gaugeFinal_reports (ha : (s.gauge u).cfg.flags.getLsbD 0 = true)
    (hd : polyFinal (s.gauge u).poly (s.gauge u).value.toNat ≠ (s.gauge u).cfg.expected % 2 ^ (s.gauge u).poly.width) :
    (s.gaugeFinal u).2.ints.cause.getLsbD 20 = true := by
  unfold State.gaugeFinal
  dsimp only
  rw [if_pos (by simp [ha, hd])]
  exact event_keeps_cause (interrupt_sets_cause _ (by decide)) _

theorem gauge_of_except (h : t.except (allBut .gauges) = s.except (allBut .gauges)) (u : Nat) : t.gauge u = s.gauge u :=
  congrArg (fun x => tget _ x u) (by simpa [State.except, allBut] using congrArg State.gauges h)

theorem gaugeFeedEnd_gauge {a : Nat} (hf : (s.gauge u).feed = some (a, n)) (hm : s.memActive (a / reachSpan) = true)
    (hu : s.usable .gauge u = true) : (s.gaugeFeedEnd u).gauge u =
      { s.gauge u with feed := none, value := BitVec.ofNat 32 (polyRun (s.gauge u).poly (s.gauge u).value.toNat (s.dramRead a n)) } := by
  have touched (t : State) : (t.pageTouch a n).gauge u = t.gauge u := gauge_of_except (State.pageTouch_except _ rfl t a n) u
  unfold State.gaugeFeedEnd
  rw [hf]
  dsimp only
  rw [if_neg (by simp [hm, hu]), State.event_gauge, State.gauge_mod_self, touched, State.gaugeFeed, State.gauge_mod_self]

/-- Settles O56, clause by clause: the body of each request on a unit that is not fed, finalisation, and the end of a feed. -/
theorem gaugeCommandsComplete : Obligations.GaugeCommandsComplete := by
  refine ⟨fun r s p h hp hf => congrArg _ (serve_gives h rfl (setGauge_loads hp hf) (Nat.zero_le _)),
    fun r s h hf he => congrArg _ (serve_gives h rfl (writeGaugeData_runs hf he) (Nat.zero_le _)),
    fun r s h hw hn hf he => congrArg _ (serve_gives h rfl (setGaugeFeed_begins hw hn hf he) (Nat.zero_le _)),
    fun u a n s hf hm hu => ⟨_, rfl, ?_⟩,
    fun r s h hf => congrArg _ (serve_gives h rfl (setGaugeValue_writes hf) (Nat.zero_le _)),
    fun r s g h hg hf hl => ?_⟩
  · rw [gaugeFeedEnd_gauge hf hm hu]
    exact ⟨rfl, rfl⟩
  · subst hg
    exact ⟨_, congrArg _ (serve_gives h rfl (setGaugeFinalise_answers hf) hl), gaugeFinal_value _ _, gaugeFinal_reports⟩

end Sys2Proof.Machine
end

section
/-! PROOFS. Requests on Thermal and Counter, and the end of a storm. -/
namespace Sys2Proof.Machine

variable {s t : State} {c : Call} {x : ShutRec} {n id unit : Nat}

/-! ### Requests on Thermal (15 R644, R647) -/

theorem tryBoot_sticky (s : State) : s.tryBoot.mode.sticky = s.mode.sticky := by
  unfold State.tryBoot
  split <;> rfl

theorem tryBoot_thermal (s : State) : s.tryBoot.thermal = s.thermal := by
  unfold State.tryBoot
  split <;> rfl

theorem tryBoot_ints (s : State) : s.tryBoot.ints = s.ints := by
  unfold State.tryBoot
  split <;> rfl

/-- Every shutdown record acknowledged, and the interrupt and the sticky bit of records withdrawn (15 R644). -/
def State.ackRecords (s : State) : State :=
  { s with thermal := { s.thermal with records := s.thermal.records.map (fun (x : ShutRec) => { x with acked := true }) }
           mode := { s.mode with sticky := s.mode.sticky &&& 0x5F }
           ints := { s.ints with cause := s.ints.cause &&& 0xFF7FFFFF#32 } }

theorem ackThermal_acks (hx : s.thermal.records.find? (fun x => !x.acked) = some x) (hs : u32 c.block 0 = x.seq % 4294967296) :
    specAckThermal.body c s = (okWith [], s.ackRecords.tryBoot) := by
  simp [specAckThermal, hx, hs, State.ackRecords]

theorem ackRecords_all (s : State) : ∀ y ∈ s.ackRecords.thermal.records, y.acked = true := by
  intro y hy
  obtain ⟨_, -, rfl⟩ := List.mem_map.mp hy
  rfl

theorem ackRecords_sticky (s : State) : s.ackRecords.mode.sticky.getLsbD 5 = false := by
  rw [State.ackRecords, BitVec.getLsbD_and]
  exact Bool.and_false _

theorem ackRecords_cause (s : State) : s.ackRecords.ints.cause.getLsbD 23 = false := by
  rw [State.ackRecords, BitVec.getLsbD_and]
  exact Bool.and_false _

theorem setThermal_sets (hl : 500 ≤ (decThermalCfg c.block).graceMs) (hu : (decThermalCfg c.block).graceMs ≤ 10000)
    (pl : 10 ≤ (decThermalCfg c.block).psi) (pu : (decThermalCfg c.block).psi ≤ 500) :
    specSetThermal.body c s = (okWith [], { s with
      thermal := { s.thermal with cfg := decThermalCfg c.block }, saved := { s.saved with thermal := some (decThermalCfg c.block) } }) := by
  have inside : (!(within (decThermalCfg c.block).graceMs 500 10000 && within (decThermalCfg c.block).psi 10 500)) = false := by
    unfold within
    rw [decide_eq_true hl, decide_eq_true hu, decide_eq_true pl, decide_eq_true pu]
    rfl
  simp only [specSetThermal]
  rw [inside]
  rfl

/-! ### Sticky bits of alarms (15 R650, R658) -/

/-- The sticky bit of one alarm is cleared. -/
def State.unstick (s : State) (e : Nat × Bool × Nat) : State := s.modAlarm e.1 e.2.2 (fun a => { a with sticky := false })

/-- Any alarm after one sticky bit is cleared. -/
theorem unstick_alarm (s : State) (e : Nat × Bool × Nat) (id unit : Nat) : (s.unstick e).alarm id unit =
    if unitKey id unit = unitKey e.1 e.2.2 then { s.alarm id unit with sticky := false } else s.alarm id unit := by
  unfold State.unstick State.modAlarm State.alarm
  split
  · rename_i same
    rw [same]
    exact tget_tset_self _ _ _ _
  · rename_i other
    exact tget_tset_other _ _ _ _ _ other

theorem unstick_clears (s : State) (e : Nat × Bool × Nat) : ((s.unstick e).alarm e.1 e.2.2).sticky = false := by
  rw [unstick_alarm, if_pos rfl]

theorem unstick_keeps_clear (e : Nat × Bool × Nat) (h : (s.alarm id unit).sticky = false) : ((s.unstick e).alarm id unit).sticky = false := by
  rw [unstick_alarm]
  split
  · rfl
  · exact h

/-- The sticky bit of an alarm is clear. -/
def State.unstuck (e : Nat × Bool × Nat) (s : State) : Prop := (s.alarm e.1 e.2.2).sticky = false

theorem each_unstick (s : State) (l : List (Nat × Bool × Nat)) : ∀ e ∈ l, State.unstuck e (s.each l State.unstick) := by
  have sets (t : State) (x : Nat × Bool × Nat) : State.unstuck x (t.unstick x) := unstick_clears t x
  have keeps (t : State) (x y : Nat × Bool × Nat) (h : State.unstuck y t) : State.unstuck y (t.unstick x) := unstick_keeps_clear x h
  exact each_settles sets keeps s l

theorem unstick_stands (s : State) (e : Nat × Bool × Nat) (id unit : Nat) : (s.unstick e).stands id unit = s.stands id unit := by
  rw [State.stands, unstick_alarm]
  split <;> rfl

theorem writeCounterSticky_clears (hi : u32 c.block 4 < nounUnits (u16 c.block 2)) (ha : u32 c.block 8 = 0xFFFFFFFF) :
    specWriteCounterSticky.body c s =
      (okWith [], s.each ((s.names (u16 c.block 2) (u32 c.block 4)).filter (fun e => e.2.1)) State.unstick) := by
  simp [specWriteCounterSticky, Nat.not_le.mpr hi, ha]
  rfl

/-! ### The end of a storm (15 R654) -/

/-- An event that the ring takes begins no storm. -/
theorem event_startNs (hr : s.eventRoom = true) (e : Ev) : (s.event e).storm.startNs = s.storm.startNs := by
  unfold State.event
  rw [if_pos hr]
  split
  · show (s.writeEvent e).storm.startNs = _
    rw [writeEvent_written]
  · rfl

theorem eventRoom_congr (hm : t.mode = s.mode) (hr : t.rings = s.rings) : t.eventRoom = s.eventRoom := by
  rw [State.eventRoom, State.eventRoom, State.hostLink, State.hostLink, State.ring, State.ring, hm, hr]

/-- The end of a storm is its report, in the state a second after its last drop. -/
theorem stormEnd_reports (hn : s.storm.startNs = some n) : ∃ (t : State) (e : Ev), s.stormEnd = t.event e ∧
    t.time = (s.advanceTo (s.storm.lastDrop + 1000000000)).time ∧ t.storm.startNs = none ∧ t.eventRoom = s.eventRoom := by
  unfold State.stormEnd
  rw [if_neg (by simp [hn])]
  have mode := State.advanceTo_mode s (s.storm.lastDrop + 1000000000)
  exact ⟨_, _, rfl, rfl, rfl, eventRoom_congr mode (State.advanceTo_rings s (s.storm.lastDrop + 1000000000))⟩

/-- Settles O58, clause by clause: the bodies of the three requests, and the storm whose report the event ring takes. -/
theorem healthRequestsComplete : Obligations.HealthRequestsComplete := by
  refine ⟨fun r s x h hx hs => ?ack, fun r s h hl hu pl pu => congrArg _ (serve_gives h rfl (setThermal_sets hl hu pl pu) (Nat.zero_le _)),
    fun r s h hi ha => serve_sets h rfl ⟨_, writeCounterSticky_clears hi ha, fun e he hb => ?cleared, fun id unit => ?standing⟩,
    fun s n hn => ?storm⟩
  case ack =>
    refine serve_sets h rfl ⟨_, ackThermal_acks hx hs, ?_⟩
    rw [tryBoot_thermal, tryBoot_sticky, tryBoot_ints]
    exact ⟨ackRecords_all _, List.length_map _, ackRecords_sticky _, ackRecords_cause _⟩
  case cleared => exact each_unstick _ _ e (List.mem_filter.mpr ⟨he, hb⟩)
  case standing => exact each_reads (fun t => t.stands id unit) _ _ _ fun t e => unstick_stands t e id unit
  case storm =>
    obtain ⟨t, e, ends, time, calm, room⟩ := stormEnd_reports hn
    exact ⟨_, congrArg Host.Outcome.next ends, (State.event_time t e).trans time, fun h => (event_startNs (room.trans h) e).trans calm⟩

end Sys2Proof.Machine
end

section
/-! PROOFS. CalSet requests, the service port and the in-band flow. -/
namespace Sys2Proof.Machine

variable {s : State} {c : Call} {b : Bytes} {q : ReqSpec} {p : Nat}

/-! ### The calibration set (16 R689, R690) -/

theorem calWrite_cal (s : State) (b : Bytes) : (s.calWrite b).cal =
    { s.cal with set := tabOfBytes (calSealed b (u32 (s.calBytes 12 4) 0 + 1) s.nowS), area := 1 - s.cal.area, valid := true } := by
  rw [State.calWrite, State.clearAlarm_cal]

theorem calWrite_sound (s : State) (b : Bytes) : (s.calWrite b).stands almCalsetInvalid 0 = false :=
  State.clearAlarm_stands_self _ _ _

theorem writeCalset_writes (hb : calSound (c.block.drop 8) = true) (hd : u64 (c.block.drop 8) 16 = s.fused.serial.toNat)
    (hf : u16 (c.block.drop 8) 4 = s.image.active.calFormat) (hn : s.calBusy = false) :
    specWriteCalset.body c s = (okWith [], (s.calWrite (c.block.drop 8)).event
      { code := 0x4511, noun := 0x45, data := (s.calWrite (c.block.drop 8)).calBytes 12 4 }) := by
  simp [specWriteCalset, hb, hd, hf, hn]

theorem setCalsetRecalibrate_begins (ht : bitmapBit c.block 10 = true → -320 ≤ s16 c.block 2 ∧ s16 c.block 2 ≤ 1200)
    (hq : bitmapBit c.block 10 = true → s.toolsRecent = false) (hl : bitmapBit c.block 11 = true → s.hg.state = .locked)
    (hn : s.cal.recal = none) :
    specSetCalsetRecalibrate.body c s = (okWith [], { s with cal := { s.cal with recal := some c.block } }) := by
  have range : (bitmapBit c.block 10 && !withinI (s16 c.block 2) (-320) 1200) = false := by
    cases h : bitmapBit c.block 10
    · rfl
    · simpa [withinI] using ht h
  have quiet : ((bitmapBit c.block 10 && s.toolsRecent) || (bitmapBit c.block 11 && s.hg.state != .locked)) = false := by
    refine Bool.or_eq_false_iff.mpr ⟨?_, ?_⟩
    · cases h : bitmapBit c.block 10
      · rfl
      · simpa using hq h
    · cases h : bitmapBit c.block 11
      · rfl
      · simpa using hl h
  simp only [specSetCalsetRecalibrate]
  rw [range, quiet, hn]
  rfl

theorem recalDone_cal (hr : s.cal.recal = some b) (m : CalParts) :
    (s.recalDone m).cal.recal = none ∧ (s.recalDone m).cal.area = 1 - s.cal.area := by
  unfold State.recalDone
  rw [hr]
  dsimp only
  rw [State.event_cal]
  dsimp only
  rw [calWrite_cal]
  exact ⟨rfl, rfl⟩

/-! ### The service port (17 R710, R711) -/

/-- A whole frame of a known verb and noun, whose length agrees, is served as the request that it spells. -/
theorem serveFrame_serves {x : Carrier} (hi : frameIntact b = true) (hv : verbKnown (u8 b 4) = true) (hn : nounKnown (u16 b 6) = true)
    (hl : u16 b 12 = (frameRequest x b).payload.length) (hq : specFor (u8 b 4) (u16 b 6) (frameRequest x b) = some q) :
    s.serveFrame x b = serve q (frameRequest x b) s := by
  simp only [State.serveFrame, hi, hv, hn, hl, hq]
  simp

theorem svcSend_serves (ha : s.pins.aonResetN = true) (hr : s.svc.reply = none) (b : Bytes) : s.svcSend b = s.serveFrame .service b := by
  simp [State.svcSend, ha, hr]

theorem svcSend_overruns (ha : s.pins.aonResetN = true) (hr : s.svc.reply ≠ none) (b : Bytes) :
    s.svcSend b = { s with svc := { s.svc with overrun := true } } := by
  simp [State.svcSend, ha, Option.isSome_iff_ne_none.mpr hr]

theorem svcFetch_shifts (ha : s.pins.aonResetN = true) :
    s.svcFetch = State.svcOut { s with svc := { s.svc with reply := none, overrun := false } } (s.svc.reply.getD [] ++ [0]) := by
  simp [State.svcFetch, ha]

/-- The windows that a word may be read in (17 R711). -/
theorem svcWord_reads {o : Nat} (ha : s.pins.aonResetN = true) (hw : 0x100 ≤ o ∧ o ≤ 0x3FF ∨ 0x3000 ≤ o ∧ o ≤ 0x3FFF) (h4 : o % 4 = 0) :
    s.svcWord o = (s.latchFrame o).svcOut (le 4 (s.readWord o)) := by
  have inside : (within o 0x100 0x3FF || within o 0x3000 0x3FFF) = true := by simpa [within] using hw
  simp [State.svcWord, ha, inside, h4]

theorem latchFrame_outside {o : Nat} (ho : o < 0x140 ∨ 0x188 ≤ o) : s.latchFrame o = s := by
  unfold State.latchFrame
  rw [if_neg (by simp; omega)]

theorem svcWord_outside {o : Nat} (ha : s.pins.aonResetN = true) (hw : o < 0x100 ∨ 0x3FF < o ∧ o < 0x3000 ∨ 0x3FFF < o) :
    s.svcWord o = s.svcOut (le 4 0) := by
  have outside : (within o 0x100 0x3FF || within o 0x3000 0x3FFF) = false := by simp [within]; omega
  simp [State.svcWord, ha, outside, latchFrame_outside (s := s) (o := o) (by omega)]

/-! ### The in-band flow (16 R676) -/

/-- The datagrams of the present second before this one. -/
def State.inbandSeen (s : State) : Nat := if s.image.inbandNs = s.nowS then s.image.inbandCount else 0

/-- A datagram to the management address is counted; beyond 2,000 in a second it is dropped. -/
theorem inbandRequest_eq (hp : s.mgmtPort = some p) (hu : s.levee.cfg.udp ≠ 0) (hl : s.linkOn p = true) (x : InbandSender) (b : Bytes) :
    s.inbandRequest x b = if s.inbandSeen ≥ 2000 then s.count cntInbandDrop 0 1 else State.serveFrame
      { s with image := { s.image with inbandNs := s.nowS, inbandCount := s.inbandSeen + 1 } } (.inband x) b := by
  unfold State.inbandRequest
  rw [hp]
  dsimp only
  rw [if_neg (by simp [hu, hl])]
  rfl

theorem inbandRequest_serves (hp : s.mgmtPort = some p) (hu : s.levee.cfg.udp ≠ 0) (hl : s.linkOn p = true)
    (hc : s.image.inbandNs = s.nowS → s.image.inbandCount < 2000) (x : InbandSender) (b : Bytes) :
    s.inbandRequest x b = State.serveFrame
      { s with image := { s.image with inbandNs := s.nowS, inbandCount := s.inbandSeen + 1 } } (.inband x) b := by
  have few : ¬ s.inbandSeen ≥ 2000 := by
    unfold State.inbandSeen
    split
    · exact Nat.not_le.mpr (hc ‹_›)
    · decide
  rw [inbandRequest_eq hp hu hl, if_neg few]

theorem inbandRequest_drops (hp : s.mgmtPort = some p) (hu : s.levee.cfg.udp ≠ 0) (hl : s.linkOn p = true)
    (hs : s.image.inbandNs = s.nowS) (hc : 2000 ≤ s.image.inbandCount) (x : InbandSender) (b : Bytes) :
    s.inbandRequest x b = s.count cntInbandDrop 0 1 := by
  have many : s.inbandSeen ≥ 2000 := by
    rw [State.inbandSeen, if_pos hs]
    exact hc
  rw [inbandRequest_eq hp hu hl, if_pos many]

/-- Settles O60, clause by clause: the bodies of the requests on CalSet, the service port's commands, and the in-band flow's count. -/
theorem servicePortCommandsComplete : Obligations.ServicePortCommandsComplete := by
  refine ⟨fun r s h hb hd hf hn => serve_sets h rfl ⟨_, writeCalset_writes hb hd hf hn, State.event_cal _ _, ?sound⟩,
    fun r s h ht hq hl hn => congrArg _ (serve_gives h rfl (setCalsetRecalibrate_begins ht hq hl hn) (Nat.zero_le _)),
    fun m b s hr => ⟨_, rfl, recalDone_cal hr m⟩,
    fun b s q ha hr hi hv hn hl hq => congrArg _ ((svcSend_serves ha hr b).trans (serveFrame_serves hi hv hn hl hq)),
    fun b s ha hr => congrArg _ (svcSend_overruns ha hr b),
    fun s ha => congrArg _ (if_neg (by simp [ha])),
    fun s ha => ⟨_, congrArg Host.Outcome.next (svcFetch_shifts ha), rfl, rfl, rfl⟩,
    fun o s ha hw h4 => congrArg _ (svcWord_reads ha hw h4),
    fun o s ha hw => congrArg _ (svcWord_outside ha hw),
    fun x b s p hp hu hl hc => congrArg Host.Outcome.next (inbandRequest_serves hp hu hl hc x b),
    fun x b s p hp hu hl hs hc => ⟨_, congrArg Host.Outcome.next (inbandRequest_drops hp hu hl hs hc x b),
      State.count_cnt_self _ _ _ _⟩⟩
  case sound => rw [State.event_stands, calWrite_sound]

end Sys2Proof.Machine
end

section
/-! PROOFS. Requests on Image and what follows them: the session, the pieces and the activation. -/
namespace Sys2Proof.Machine

variable {s : State} {c : Call} {b : Bytes} {m : Manifest} {p n off : Nat}

/-! ### Lengths of replies -/

theorem layout_length_le (n : Nat) (parts : List (Nat × Bytes)) : (layout n parts).length ≤ n := by
  have fits (l : List (Nat × Bytes)) (b : Bytes) (hb : b.length ≤ n) :
      (l.foldl (fun b p => (b.take p.1 ++ p.2 ++ b.drop (p.1 + p.2.length)).take n) b).length ≤ n := by
    induction l generalizing b with
    | nil => exact hb
    | cons p l ih => exact ih _ (List.length_take_le _ _)
  exact fits parts _ (Nat.le_of_eq List.length_replicate)

theorem holderBlock_length_le (l : List ImgSource) : (holderBlock l).length ≤ 24 := by
  cases l with
  | nil => exact Nat.le_of_eq List.length_replicate
  | cons x l => exact layout_length_le 24 _

theorem openReply_length_le (s : State) (flags : Nat) : (openReply s flags).length ≤ 28 := by
  have holder := holderBlock_length_le s.image.sources
  have header : (le 2 s.image.stored.length ++ le 2 flags).length = 4 := rfl
  rw [openReply, List.length_append, header]
  omega

theorem flatMap_le2_length (l : List Nat) : (l.flatMap (le 2)).length = 2 * l.length := by
  induction l with
  | nil => rfl
  | cons g l ih =>
    have two : (le 2 g).length = 2 := rfl
    rw [List.flatMap_cons, List.length_append, two, ih, List.length_cons]
    omega

theorem groupsReset_length_le (old new : Manifest) : (groupsReset old new).length ≤ 5 := List.length_filter_le _ _

/-- The reply to ACTIVATE (16 R682). -/
def activateReply (l : List Nat) : Bytes := le 2 l.length ++ le 2 0 ++ l.flatMap (le 2)

theorem activateReply_length_le (old new : Manifest) : (activateReply (groupsReset old new)).length ≤ 14 := by
  have five := groupsReset_length_le old new
  have header : (le 2 (groupsReset old new).length ++ le 2 0).length = 4 := rfl
  rw [activateReply, List.length_append, header, flatMap_le2_length]
  omega

/-! ### The session (16 R669, R670, R674) -/

/-- A change of the sources changes nothing else of the image but the time from which the holder's lease counts. -/
theorem setSources_image (s : State) (l : List ImgSource) : (s.setSources l).image =
    { s.image with sources := l, lastPut := if l.head? = s.image.sources.head? then s.image.lastPut else s.nowNs } := by
  unfold State.setSources
  dsimp only
  split
  · rfl
  · rw [State.event_image]

theorem setSources_time (s : State) (l : List ImgSource) : (s.setSources l).time = s.time :=
  time_of_except (State.setSources_except _ rfl s l)

theorem newImage_image (s : State) (total pieces : Nat) (digest : Bytes) : (s.newImage total pieces digest).image =
    { (s.image.eraseSlot s.image.staging).unstaged with digest := digest, totalLen := total, pieces := pieces } := rfl

theorem openImage_opens (hl : 2 ≤ u16 c.block 4) (hu : u16 c.block 4 ≤ 960) (tl : (u16 c.block 4 - 1) * 65536 < u32 c.block 0)
    (tu : u32 c.block 0 ≤ u16 c.block 4 * 65536) (he : s.image.erasing = false) (hs : s.image.sources = []) (ha : s.image.activating = false)
    (hd : slice c.block 8 48 ≠ s.image.digest) : specOpenImage.body c s =
      (okWith (openReply ((s.newImage (u32 c.block 0) (u16 c.block 4) (slice c.block 8 48)).setSources [sourceOf c.r]) 0),
        (s.newImage (u32 c.block 0) (u16 c.block 4) (slice c.block 8 48)).setSources [sourceOf c.r]) := by
  have sized : (!within (u16 c.block 4) 2 960 ||
      !within (u32 c.block 0) ((u16 c.block 4 - 1) * 65536 + 1) (u16 c.block 4 * 65536)) = false := by
    simp [within]
    omega
  simp only [specOpenImage]
  rw [sized, he, hs, ha, beq_eq_false_iff_ne.mpr hd]
  rfl

theorem leaseIdle_leaves {h : ImgSource} {rest : List ImgSource} (hs : s.image.sources = h :: rest) :
    s.leaseIdle.image.sources = rest.filter (· != h) ∧ s.leaseIdle.image.buffer = [] ∧
      s.leaseIdle.time = (s.advanceTo (s.image.lastPut + s.image.idleH * 3600000000000)).time := by
  have left : (h :: rest).filter (· != h) = rest.filter (· != h) := by simp
  unfold State.leaseIdle
  rw [hs]
  dsimp only
  rw [State.count_image, State.count_time, State.leaveSession, setSources_image, setSources_time]
  dsimp only
  rw [State.advanceTo_image, hs, left]
  exact ⟨rfl, rfl, rfl⟩

theorem closeImage_leaves (he : s.image.erasing = false) (h0 : u8 c.block 0 = 0) (hm : sourceOf c.r ∈ s.image.sources) :
    specCloseImage.body c s = (okWith [], s.leaveSession (sourceOf c.r)) := by
  simp [specCloseImage, he, h0, hm]

theorem closeImage_abandons (he : s.image.erasing = false) (h1 : u8 c.block 0 = 1) (ha : s.image.activating = false)
    (hh : s.image.sources.head? = some (sourceOf c.r)) : specCloseImage.body c s = (okWith [], s.clearStaging.setSources []) := by
  simp [specCloseImage, he, h1, ha, hh]

/-! ### Pieces (16 R671, R672) -/

theorem tdrop_length_le {α : Type} (t : Tab α) (k : Nat) : (tdrop t k).length ≤ t.length := List.length_filter_le _ _

theorem tput_length_le {α : Type} (t : Tab α) (k : Nat) (v : α) : (tput t k v).length ≤ t.length + 1 := by
  induction t with
  | nil => exact Nat.le_refl _
  | cons e t ih =>
    rw [tput]
    split
    · exact Nat.le_refl _
    · split
      · exact Nat.le_succ _
      · exact Nat.succ_le_succ ih

theorem tset_length_le {α : Type} [DecidableEq α] (d : Nat → α) (t : Tab α) (k : Nat) (v : α) : (tset d t k v).length ≤ t.length + 1 := by
  unfold tset
  split
  · exact Nat.le_trans (tdrop_length_le t k) (Nat.le_succ _)
  · exact tput_length_le t k v

/-- A fragment brings no more bytes to a piece than it has. -/
theorem put_length_le (x : PieceBuf) (off : Nat) (b : Bytes) (ns : Nat) : (x.put off b ns).data.length ≤ x.data.length + b.length := by
  have adds (l : List (Byte × Nat)) (t : Tab (Option Byte)) :
      (l.foldl (fun t e => tset (fun _ => none) t e.2 (some e.1)) t).length ≤ t.length + l.length := by
    induction l generalizing t with
    | nil => exact Nat.le_refl _
    | cons e l ih =>
      have first := tset_length_le (fun _ => none) t e.2 (some e.1)
      have others := ih (tset (fun _ => none) t e.2 (some e.1))
      rw [List.foldl_cons, List.length_cons]
      omega
  exact Nat.le_trans (adds _ _) (Nat.le_of_eq (by rw [List.length_zipIdx]))

theorem putFragment_joins (hb : s.image.buffer = []) (hl : b.length < pieceLen s.image.pieces s.image.totalLen p) :
    s.putFragment p off b = (okWith [], { s with image := { s.image with
      buffer := [PieceBuf.put { PieceBuf.reset with piece := p } off b s.nowNs] } }) := by
  have few : ((PieceBuf.put { PieceBuf.reset with piece := p } off b s.nowNs).data.filterMap (·.2)).length <
      pieceLen s.image.pieces s.image.totalLen p :=
    calc ((PieceBuf.put { PieceBuf.reset with piece := p } off b s.nowNs).data.filterMap (·.2)).length
      _ ≤ (PieceBuf.put { PieceBuf.reset with piece := p } off b s.nowNs).data.length := List.length_filterMap_le _ _
      _ ≤ 0 + b.length := put_length_le _ off b s.nowNs
      _ < _ := by omega
  simp only [State.putFragment, hb, List.find?_nil, Option.getD_none, List.filter_nil, if_pos few]

/-- The state in which the holder's fragment is put into its piece. -/
def State.putNoted (s : State) (x : ImgSource) : State :=
  { s with image := { s.image with lastPut := s.nowNs, foreign := s.image.foreign || x.kind != 2 } }

theorem putImage_puts (hn : c.block.length = 16 + u32 c.block 8) (hp : s.pins.holdupOk = true) (he : s.image.erasing = false)
    (hh : s.image.sources.head? = some (sourceOf c.r)) (hi : u16 c.block 0 < s.image.pieces) (h0 : 0 < u32 c.block 8)
    (hf : u32 c.block 4 + u32 c.block 8 ≤ pieceLen s.image.pieces s.image.totalLen (u16 c.block 0))
    (hm : u16 c.block 0 = 0 ∨ s.image.manifest ≠ none) (hs : ¬ u16 c.block 0 ∈ s.image.stored) (ht : s.image.passed = [])
    (hb : s.image.buffer = []) :
    specPutImage.body c s = (s.putNoted (sourceOf c.r)).putFragment (u16 c.block 0) (u32 c.block 4) (c.block.drop 16) := by
  have member : sourceOf c.r ∈ s.image.sources := List.mem_of_mem_head? hh
  have ready : ¬ (u16 c.block 0 != 0 && s.image.manifest.isNone) = true := by
    rcases hm with hm | hm
    · simp [hm]
    · simp [Option.isNone_eq_false_iff.mpr (Option.isSome_iff_ne_none.mpr hm)]
  simp only [specPutImage]
  rw [if_neg (by simp [hn]), if_neg (by simp [hp]), if_neg (by simp [he]), if_neg (by simp [member]), if_neg (by simp [hi, hf]), if_neg ready,
    if_neg (by simp [hs, ht]), if_neg (Nat.pos_iff_ne_zero.mp h0), if_neg (by simp [hb, ht]), if_pos hh]
  rfl

theorem pieceWritten_image {x : Bytes} (hp : s.image.passed = [(p, x)]) : (s.pieceWritten p).image =
    { s.image with passed := [], stored := (p :: s.image.stored).mergeSort (· ≤ ·)
                   flash := tset (fun _ => []) s.image.flash (pieceSector s.image.staging p) x } := by
  unfold State.pieceWritten
  have emptied : [(p, x)].filter (fun y => y.1 != p) = [] := by simp
  rw [hp, List.find?_cons_of_pos (by simp)]
  dsimp only
  rw [hp, emptied]
  split
  · rw [State.event_image, State.event_image]
  · rw [State.event_image]

theorem pieceStale_discards {e : PieceBuf} (he : s.image.buffer.find? (fun e => e.piece == p) = some e) :
    (s.pieceStale p).image.buffer = s.image.buffer.filter (fun y => y.piece != p) ∧
      (s.pieceStale p).time = (s.advanceTo (e.lastNs + 60000000000)).time := by
  unfold State.pieceStale
  rw [he]
  dsimp only
  rw [State.advanceTo_image]
  exact ⟨rfl, rfl⟩

/-! ### Activation (16 R679 to R683) -/

theorem activateImage_begins (hp : s.pins.holdupOk = true) (ht : s.pins.tally = 0) (he : s.image.erasing = false)
    (hc : s.image.complete = true) (hd : c.block = s.image.digest) (hm : s.image.manifest = some m)
    (hv : m.partMask.getLsbD (partBit s.fused.part) = true) (hj : m.major = s.image.active.major)
    (hf : m.flags.getLsbD 0 = decide (s.mode.current = .fallow)) (hk : m.calFormat = u16 (s.calBytes 4 2) 0 ∨ ∃ e ∈ m.entries, e.1 = 6)
    (hr : s.image.burned ≤ m.rollback) (ha : s.image.activating = false) : specActivateImage.body c s =
      (okWith (activateReply (groupsReset s.image.active m)), { s with image := { s.image with activating := true } }) := by
  have format : (m.calFormat != u16 (s.calBytes 4 2) 0 && !m.entries.any (fun e => e.1 == 6)) = false := by
    rcases hk with hk | hk
    · simp [hk]
    · have : m.entries.any (fun e => e.1 == 6) = true := by simpa using hk
      rw [this, Bool.not_true, Bool.and_false]
  have recovery : (m.flags.getLsbD 0 != (s.mode.current == .fallow)) = false := by
    rw [hf]
    cases s.mode.current <;> rfl
  simp only [specActivateImage]
  rw [hm, Option.getD_some, format, recovery]
  simp [hp, ht, he, hc, hd, hv, hj, Nat.not_lt.mpr hr, ha, activateReply]

theorem enterBoot_image (s : State) (cause : Nat) (hb : s.image.burnPending = false) : (s.enterBoot cause).image = s.image.rested := by
  have h : (s.hgSleep.arrive .boot).wiped.image = s.image.rested :=
    congrArg ImageSt.rested ((arrive_image _ _).trans (image_of_except (hgSleep_except _ rfl rfl s)))
  unfold State.enterBoot
  generalize (s.hgSleep.arrive .boot).wiped = v at h ⊢
  dsimp only
  rw [h]
  simp [ImageSt.rested, hb]

theorem enterBoot_firstBoot (s : State) (cause : Nat) : (s.enterBoot cause).mode.firstBoot = s.mode.firstBoot := by
  have h : (s.hgSleep.arrive .boot).wiped.mode.firstBoot = s.mode.firstBoot := by
    show (s.hgSleep.arrive .boot).mode.firstBoot = _
    rw [arrive_mode, mode_of_except (hgSleep_except _ rfl rfl s)]
  unfold State.enterBoot
  generalize (s.hgSleep.arrive .boot).wiped = v at h ⊢
  exact h

theorem activationCommit_boots (ha : s.image.activating = true) (hm : s.image.manifest = some m) (he : s.image.entriesSound m = true)
    (hp : s.pins.holdupOk = true) (ht : s.pins.tally = 0) :
    s.activationCommit true = (s.committed m).enterBoot (if s.mode.current = .recovery || s.mode.current = .fallow then 5 else 4) := by
  unfold State.activationCommit
  rw [ha, hm]
  simp [he, hp, ht]

theorem activationCommit_ends (ha : s.image.activating = true) (hm : s.image.manifest = some m) :
    s.activationCommit false = s.activationEnds stIntegrity := by
  unfold State.activationCommit
  rw [ha, hm]
  rfl

theorem slotErased_ends (he : s.image.erasing = true) (hr : s.mode.current.rings = true) (ht : s.mode.current ≠ .training)
    (hv : s.mode.current ≠ .recovery) : s.slotErased.image.erasing = false := by
  unfold State.slotErased
  rw [if_pos (by simp [he, hr, ht, hv]), State.event_image]

theorem setImage_sets (hl : 1 ≤ u16 c.block 2) (hu : u16 c.block 2 ≤ 720) : specSetImage.body c s = (okWith [], { s with
    image := { s.image with idleH := u16 c.block 2 }, saved := { s.saved with update := some (u16 c.block 2) } }) := by
  have inside : (!within (u16 c.block 2) 1 720) = false := by
    simp [within]
    omega
  simp only [specSetImage]
  rw [inside]
  rfl

/-- Settles O59, clause by clause: the bodies of the requests on Image, and the events of its session, its pieces and its activation. -/
theorem updateCommandsComplete : Obligations.UpdateCommandsComplete := by
  refine ⟨fun r s h hl hu tl tu he hs ha hd hk => ⟨_, congrArg _ (serve_gives h rfl (openImage_opens hl hu tl tu he hs ha hd)
      (Nat.le_trans (openReply_length_le _ _) hk)), ?opened⟩,
    fun r s h hn hp he hh hi h0 hf hm hs ht hb hl => ?put,
    fun p x s hp hs => ⟨_, rfl, ?written⟩,
    fun p e s he => ⟨_, rfl, pieceStale_discards he⟩,
    fun s h rest hs => ⟨_, rfl, leaseIdle_leaves hs⟩,
    fun r s h he h0 hm => serve_sets h rfl ⟨_, closeImage_leaves he h0 hm, ?left⟩,
    fun r s h he h1 ha hh => serve_sets h rfl ⟨_, closeImage_abandons he h1 ha hh, ?abandoned⟩,
    fun r s m h hp ht he hc hd hm hv hj hf hk hr ha hl => congrArg _ (serve_gives h rfl
      (activateImage_begins hp ht he hc hd hm hv hj hf hk hr ha) (Nat.le_trans (activateReply_length_le _ _) hl)),
    fun s m ha hm he hp ht => ⟨_, congrArg Host.Outcome.next (activationCommit_boots ha hm he hp ht), enterBoot_current _ _, ?committed⟩,
    fun s m ha hm => ⟨_, congrArg Host.Outcome.next (activationCommit_ends ha hm), ?ended⟩,
    fun s he hr ht hv => ⟨_, rfl, slotErased_ends he hr ht hv⟩,
    fun r s h hl hu => congrArg _ (serve_gives h rfl (setImage_sets hl hu) (Nat.zero_le _))⟩
  case opened =>
    rw [setSources_image, newImage_image]
    exact ⟨rfl, rfl, rfl, rfl, rfl⟩
  case put =>
    have short : (r.block.drop 16).length < pieceLen (s.taking r).image.pieces (s.taking r).image.totalLen (u16 r.block 0) := by
      rw [List.length_drop]
      omega
    have puts := putImage_puts (c := r.callIn s) hn hp he hh hi h0 hf hm hs ht hb
    exact congrArg _ (serve_gives h rfl (puts.trans (putFragment_joins hb short)) (Nat.zero_le _))
  case written =>
    rw [pieceWritten_image hp]
    exact ⟨rfl, List.mem_mergeSort.mpr List.mem_cons_self, List.length_mergeSort _, tget_tset_self _ _ _ _⟩
  case left =>
    rw [State.leaveSession, setSources_image]
    exact ⟨rfl, rfl⟩
  case abandoned =>
    rw [setSources_image]
    exact ⟨rfl, rfl, rfl⟩
  case committed =>
    rw [enterBoot_image _ _ rfl, enterBoot_firstBoot]
    exact ⟨rfl, rfl, rfl, rfl, rfl⟩
  case ended =>
    rw [State.activationEnds, State.event_image, State.event_mode]
    exact ⟨rfl, rfl, rfl⟩

end Sys2Proof.Machine
end

section
/-! PROOFS. The commands of Spillway: samples, thresholds, enforcement and power. -/
namespace Sys2Proof.Machine

variable {s t u : State} {raw : List Int} {before now old new : List (Nat × Int)} {point : Int} {n : Nat}

/-! ### Thresholds on two readings in a row (15 R631) -/

theorem twice_none (h : ∀ e ∈ new, e.2 < point) : twice old new point = none := by
  have empty : new.filter (fun e => e.2 ≥ point && old.any (fun o => o.1 == e.1 && o.2 ≥ point)) = [] := by
    refine List.filter_eq_nil_iff.mpr fun e he => ?_
    simp [Int.not_le.mpr (h e he)]
  unfold twice
  dsimp only
  rw [empty]
  rfl

theorem twice_some {k : Nat} {x y : Int} (hx : (k, x) ∈ old) (hy : (k, y) ∈ new) (px : point ≤ x) (py : point ≤ y) :
    (twice old new point).isSome = true := by
  have kept : (k, y) ∈ new.filter (fun e => e.2 ≥ point && old.any (fun o => o.1 == e.1 && o.2 ≥ point)) := by
    refine List.mem_filter.mpr ⟨hy, ?_⟩
    have again : old.any (fun o => o.1 == k && decide (o.2 ≥ point)) = true := List.any_eq_true.mpr ⟨_, hx, by simp [px]⟩
    simp [py, again]
  unfold twice
  dsimp only
  rw [if_neg (by simpa using List.ne_nil_of_mem kept)]
  rfl

/-! ### What reports leave of Spillway (15 R649) -/

/-- Spillway without its sticky bits. -/
def State.heat (s : State) : Thermal := { s.thermal with sticky := 0 }

theorem heat_of_thermal (h : t.thermal = s.thermal) : t.heat = s.heat := by rw [State.heat, State.heat, h]

theorem thermSticky_heat (s : State) (i : Nat) : (s.thermSticky i).heat = s.heat := by
  rw [State.thermSticky, State.heat, State.interrupt_thermal]
  rfl

theorem thermSticky_mode (s : State) (i : Nat) : (s.thermSticky i).mode = s.mode := by
  rw [State.thermSticky, State.interrupt_mode]

theorem thermSticky_time (s : State) (i : Nat) : (s.thermSticky i).time = s.time := by
  rw [State.thermSticky, State.interrupt_time]

/-- What no report of Spillway changes: its readings and thresholds, the mode and the time. -/
def State.warmth (s : State) : Thermal × ModeSt × Nat := (s.heat, s.mode, s.time)

theorem raise_warmth (s : State) (id unit : Nat) : (s.raise id unit).warmth = s.warmth := by
  rw [State.warmth, heat_of_thermal (State.raise_thermal s id unit), State.raise_mode, State.raise_time, State.warmth]

theorem clearAlarm_warmth (s : State) (id unit : Nat) : (s.clearAlarm id unit).warmth = s.warmth := by
  rw [State.warmth, heat_of_thermal (State.clearAlarm_thermal s id unit), State.clearAlarm_mode, State.clearAlarm_time, State.warmth]

theorem thermSticky_warmth (s : State) (i : Nat) : (s.thermSticky i).warmth = s.warmth := by
  rw [State.warmth, thermSticky_heat, thermSticky_mode, thermSticky_time, State.warmth]

theorem event_warmth (s : State) (e : Ev) : (s.event e).warmth = s.warmth := by
  rw [State.warmth, heat_of_thermal (State.event_thermal s e), State.event_mode, State.event_time, State.warmth]

theorem count_warmth (s : State) (id unit n : Nat) : (s.count id unit n).warmth = s.warmth := rfl

theorem judgeSensors_warmth (old s : State) : (State.judgeSensors old s).warmth = s.warmth := by
  refine each_reads State.warmth s _ _ fun t k => ?_
  split
  · rw [thermSticky_warmth, raise_warmth]
  · split
    · exact clearAlarm_warmth t _ _
    · rfl

theorem warning_warmth (s : State) (on : Bool) : (s.warning on).warmth = ({ s.heat with warn := on }, s.mode, s.time) := by
  unfold State.warning
  dsimp only
  rw [event_warmth]
  split
  · rw [thermSticky_warmth, raise_warmth]
    rfl
  · rw [clearAlarm_warmth]
    rfl

/-- The throttle trip asks for watts and starts the grace time (15 R633, R634). -/
theorem throttleTrip_warmth (s : State) : s.throttleTrip.warmth =
    ({ s.heat with throttle := true, cfgTrip := s.thermal.cfg, shedW := shedWatts s.thermal.tjMax s.thermal.cfg.psi
                   grace := some (s.nowNs + s.thermal.cfg.graceMs * 1000000) }, s.mode, s.time) := by
  have calm : (((s.raise almTjThrottle 0).count cntThrottleTrips 0 1).thermSticky 1).warmth = s.warmth := by
    rw [thermSticky_warmth, count_warmth, raise_warmth]
  unfold State.throttleTrip
  dsimp only
  rw [event_warmth]
  generalize ((s.raise almTjThrottle 0).count cntThrottleTrips 0 1).thermSticky 1 = v at calm ⊢
  obtain ⟨heat, mode, time⟩ : v.heat = s.heat ∧ v.mode = s.mode ∧ v.time = s.time := by simpa [State.warmth] using calm
  rw [← heat, ← mode, ← time]
  rfl

/-! ### A sample (15 R629 to R631) -/

/-- The state in which the warning threshold has been judged. -/
def State.warned (s : State) (before now : List (Nat × Int)) : State :=
  if !s.thermal.warn && (twice before now 760).isSome then s.warning true else s

/-- The state in which the warning and throttle thresholds have been judged. -/
def State.warmed (s : State) (before now : List (Nat × Int)) : State :=
  if !(s.warned before now).thermal.throttle && (twice before now 840).isSome then (s.warned before now).throttleTrip else s.warned before now

theorem judgeHeat_warmed (hf : s.mode.current.fast = true) (h : twice before now 920 = none) : s.judgeHeat before now = s.warmed before now := by
  simp [State.judgeHeat, State.warmed, State.warned, hf, h]

theorem judgeHeat_shutdown {e : Nat × Int} (hf : s.mode.current.fast = true) (h : twice before now 920 = some e) :
    s.judgeHeat before now = (s.warmed before now).shutdown e.1 e.2 := by
  simp [State.judgeHeat, State.warmed, State.warned, hf, h]

theorem warned_warmth (s : State) (before now : List (Nat × Int)) : ∃ w,
    (s.warned before now).warmth = ({ s.heat with warn := w }, s.mode, s.time) := by
  unfold State.warned
  split
  · exact ⟨_, warning_warmth s true⟩
  · exact ⟨s.thermal.warn, rfl⟩

/-- What the judgement of a sample leaves: the readings, the number of the newest record, the mode and the time. -/
def gist (w : Thermal × ModeSt × Nat) : List SensorSt × Int × Nat × ModeSt × Nat := (w.1.sensors, w.1.tjMax, w.1.recSeq, w.2)

theorem warned_gist (s : State) (before now : List (Nat × Int)) : gist (s.warned before now).warmth = gist s.warmth := by
  obtain ⟨w, hw⟩ := warned_warmth s before now
  rw [hw]
  rfl

theorem warmed_gist (s : State) (before now : List (Nat × Int)) : gist (s.warmed before now).warmth = gist s.warmth := by
  unfold State.warmed
  split
  · exact (congrArg gist (throttleTrip_warmth _)).trans (warned_gist s before now)
  · exact warned_gist s before now

theorem warmed_trips (ht : s.thermal.throttle = false) (h : (twice before now 840).isSome = true) :
    (s.warmed before now).thermal.throttle = true ∧
      (s.warmed before now).thermal.grace = some (s.nowNs + s.thermal.cfg.graceMs * 1000000) ∧
      (s.warmed before now).thermal.shedW = shedWatts s.thermal.tjMax s.thermal.cfg.psi := by
  obtain ⟨w, hw⟩ := warned_warmth s before now
  unfold State.warmed
  generalize s.warned before now = v at hw ⊢
  have calm : v.thermal.throttle = s.thermal.throttle := congrArg (fun x : Thermal × ModeSt × Nat => x.1.throttle) hw
  have cfg : v.thermal.cfg = s.thermal.cfg := congrArg (fun x : Thermal × ModeSt × Nat => x.1.cfg) hw
  have top : v.thermal.tjMax = s.thermal.tjMax := congrArg (fun x : Thermal × ModeSt × Nat => x.1.tjMax) hw
  have time : v.time = s.time := congrArg (fun x : Thermal × ModeSt × Nat => x.2.2) hw
  have clock : v.nowNs = s.nowNs := by rw [State.nowNs, State.nowNs, time]
  have trip := throttleTrip_warmth v
  rw [if_pos (by simp [calm, ht, h]), ← clock, ← cfg, ← top]
  exact ⟨congrArg (fun x : Thermal × ModeSt × Nat => x.1.throttle) trip, congrArg (fun x : Thermal × ModeSt × Nat => x.1.grace) trip,
    congrArg (fun x : Thermal × ModeSt × Nat => x.1.shedW) trip⟩

/-- The readings of the sensors that had been sampled before. -/
def State.readBefore (s : State) : List (Nat × Int) := (s.readings s.thermal.sensors).filter (fun e => (s.sensor e.1).sampled)

/-- A sample takes its readings, and what they mean is judged. -/
structure Sensed (s : State) (raw : List Int) (u : State) : Prop where
  judged : s.sensorSample raw = u.judgeHeat s.readBefore (s.readings (s.sampled raw))
  sensors : u.thermal.sensors = s.sampled raw
  tjMax : u.thermal.tjMax = (hottestOf (s.readings (s.sampled raw))).2
  throttle : u.thermal.throttle = s.thermal.throttle
  cfg : u.thermal.cfg = s.thermal.cfg
  recSeq : u.thermal.recSeq = s.thermal.recSeq
  mode : u.mode = s.mode
  time : u.time = s.time

theorem sensorSample_senses (s : State) (raw : List Int) : ∃ u, Sensed s raw u := by
  refine ⟨_, rfl, ?_, ?_, ?_, ?_, ?_, ?_, ?_⟩
  · exact congrArg (fun w : Thermal × ModeSt × Nat => w.1.sensors) (judgeSensors_warmth s _)
  · exact congrArg (fun w : Thermal × ModeSt × Nat => w.1.tjMax) (judgeSensors_warmth s _)
  · exact congrArg (fun w : Thermal × ModeSt × Nat => w.1.throttle) (judgeSensors_warmth s _)
  · exact congrArg (fun w : Thermal × ModeSt × Nat => w.1.cfg) (judgeSensors_warmth s _)
  · exact congrArg (fun w : Thermal × ModeSt × Nat => w.1.recSeq) (judgeSensors_warmth s _)
  · exact congrArg (fun w : Thermal × ModeSt × Nat => w.2.1) (judgeSensors_warmth s _)
  · exact congrArg (fun w : Thermal × ModeSt × Nat => w.2.2) (judgeSensors_warmth s _)

theorem tryBoot_current (s : State) : s.tryBoot.mode.current = s.mode.current := by
  unfold State.tryBoot
  split <;> rfl

/-- While no reading is at 115 C, a sample holds its readings and the mode stays. -/
theorem judgeHeat_holds (h : twice before now 920 = none) : (s.judgeHeat before now).thermal.sensors = s.thermal.sensors ∧
    (s.judgeHeat before now).thermal.tjMax = s.thermal.tjMax ∧ (s.judgeHeat before now).mode.current = s.mode.current := by
  cases hf : s.mode.current.fast with
  | true =>
    have kept := warmed_gist s before now
    simp only [gist, State.warmth, State.heat, Prod.mk.injEq] at kept
    obtain ⟨sensors, top, -, mode, -⟩ := kept
    rw [judgeHeat_warmed hf h, mode]
    exact ⟨sensors, top, rfl⟩
  | false =>
    have boots : s.judgeHeat before now = s.tryBoot := by simp [State.judgeHeat, hf]
    rw [boots, tryBoot_thermal, tryBoot_current]
    exact ⟨rfl, rfl, rfl⟩

theorem sensorSample_holds (h : ∀ e ∈ s.readings (s.sampled raw), e.2 < 920) : (s.sensorSample raw).thermal.sensors = s.sampled raw ∧
    (s.sensorSample raw).thermal.tjMax = (hottestOf (s.readings (s.sampled raw))).2 ∧
    (s.sensorSample raw).mode.current = s.mode.current := by
  obtain ⟨u, hu⟩ := sensorSample_senses s raw
  obtain ⟨sensors, top, mode⟩ := judgeHeat_holds (s := u) (before := s.readBefore) (twice_none h)
  rw [hu.judged]
  exact ⟨sensors.trans hu.sensors, top.trans hu.tjMax, mode.trans (congrArg ModeSt.current hu.mode)⟩

theorem mem_readBefore {e : Nat × Int} (h : e ∈ s.readings s.thermal.sensors) (hs : (s.sensor e.1).sampled = true) : e ∈ s.readBefore :=
  List.mem_filter.mpr ⟨h, hs⟩

theorem sensorSample_trips (hf : s.mode.current.fast = true) (ht : s.thermal.throttle = false)
    (h : (twice s.readBefore (s.readings (s.sampled raw)) 840).isSome = true) (hn : ∀ e ∈ s.readings (s.sampled raw), e.2 < 920) :
    (s.sensorSample raw).thermal.throttle = true ∧
      (s.sensorSample raw).thermal.grace = some (s.nowNs + s.thermal.cfg.graceMs * 1000000) ∧
      (s.sensorSample raw).thermal.shedW = shedWatts (hottestOf (s.readings (s.sampled raw))).2 s.thermal.cfg.psi := by
  obtain ⟨u, hu⟩ := sensorSample_senses s raw
  have clock : u.nowNs = s.nowNs := by rw [State.nowNs, State.nowNs, hu.time]
  rw [hu.judged, judgeHeat_warmed (by rw [hu.mode, hf]) (twice_none hn), ← clock, ← hu.cfg, ← hu.tjMax]
  exact warmed_trips (by rw [hu.throttle, ht]) h

/-! ### Shutdown (15 R641) -/

theorem arrive_thermal (s : State) (m : Mode) : (s.arrive m).thermal = s.thermal := by
  unfold State.arrive
  dsimp only
  rw [State.interrupt_thermal, State.event_thermal]

theorem thermal_of_except (h : t.except (allBut .thermal) = s.except (allBut .thermal)) : t.thermal = s.thermal := by
  simpa [State.except, allBut] using congrArg State.thermal h

/-- Dormant keeps the shutdown threshold and the records. -/
theorem forceDormant_records (s : State) (cause : Nat) (forced : Bool) :
    (s.forceDormant cause forced).thermal.shutdown = s.thermal.shutdown ∧ (s.forceDormant cause forced).thermal.recSeq = s.thermal.recSeq := by
  have slept (t : State) : (t.hgSleep.arrive .dormant).thermal = t.thermal :=
    (arrive_thermal _ _).trans (thermal_of_except (hgSleep_except _ rfl rfl t))
  have dozed (t : State) : t.memPartial.thermal = t.thermal := thermal_of_except (State.memPartial_except _ rfl rfl t)
  unfold State.forceDormant State.enterDormant State.memMode
  dsimp only
  rw [dozed]
  unfold State.wiped
  dsimp only
  rw [slept]
  exact ⟨rfl, rfl⟩

/-- A shutdown forces Dormant with a new record and blocks Boot. -/
theorem shutdown_ends (s : State) (sensor : Nat) (temp : Int) : (s.shutdown sensor temp).mode.current = .dormant ∧
    (s.shutdown sensor temp).mode.blocked = true ∧ (s.shutdown sensor temp).thermal.shutdown = true ∧
    (s.shutdown sensor temp).thermal.recSeq = s.thermal.recSeq + 1 := by
  unfold State.shutdown
  dsimp only
  refine ⟨forceDormant_current _ _ _, rfl, ?_, ?_⟩
  · rw [(forceDormant_records _ _ _).1, State.interrupt_thermal, State.count_thermal]
  · rw [(forceDormant_records _ _ _).2, State.interrupt_thermal, State.count_thermal]

theorem sensorSample_shuts (hf : s.mode.current.fast = true) (h : (twice s.readBefore (s.readings (s.sampled raw)) 920).isSome = true) :
    (s.sensorSample raw).mode.current = .dormant ∧ (s.sensorSample raw).mode.blocked = true ∧
      (s.sensorSample raw).thermal.shutdown = true ∧ (s.sensorSample raw).thermal.recSeq = s.thermal.recSeq + 1 := by
  obtain ⟨u, hu⟩ := sensorSample_senses s raw
  obtain ⟨e, he⟩ := Option.isSome_iff_exists.mp h
  have kept := warmed_gist u s.readBefore (s.readings (s.sampled raw))
  simp only [gist, State.warmth, State.heat, Prod.mk.injEq] at kept
  obtain ⟨-, -, records, -⟩ := kept
  rw [hu.judged, judgeHeat_shutdown (by rw [hu.mode, hf]) he, ← hu.recSeq, ← records]
  exact shutdown_ends _ _ _

end Sys2Proof.Machine
end

section
/-! PROOFS. The commands of Spillway: thresholds released, enforcement and power. -/
namespace Sys2Proof.Machine

variable {s t u : State} {b n : Nat}

/-! ### A threshold released (15 R631, R639, R643) -/

theorem thresholdRelease_clears {level : Nat} (hb : s.thermal.below.getD level none = some b) (ht : s.thermal.tripped level = true) :
    s.thresholdRelease level = (s.advanceTo (b + 1000000000)).thresholdCleared level := by
  unfold State.thresholdRelease
  rw [hb]
  exact if_pos ht

theorem warning_off (s : State) : (s.warning false).thermal.warn = false ∧ (s.warning false).stands almTjWarning 0 = false := by
  unfold State.warning
  dsimp only
  rw [if_neg Bool.false_ne_true, State.event_thermal, State.event_stands, State.clearAlarm_thermal, State.clearAlarm_stands_self]
  exact ⟨rfl, rfl⟩

/-- The fields that the release of held jobs may change. -/
def unholds : Field → Bool
  | .cores | .freeCtr | .hostFlows | .jobs | .rends | .riders => true
  | _ => false

theorem unholdJobs_except (s : State) : s.unholdJobs.except unholds = s.except unholds := by
  unfold State.unholdJobs
  dsimp only
  rw [State.each_except _ _ _ _ fun t n => State.riderServe_except _ rfl rfl rfl rfl rfl rfl t n 0,
    State.each_except _ _ _ _ fun t h => State.modJob_except _ rfl t h _]

theorem unholdJobs_thermal (s : State) : s.unholdJobs.thermal = s.thermal := by
  simpa [State.except, unholds] using congrArg State.thermal (unholdJobs_except s)

theorem unholdJobs_alarms (s : State) : s.unholdJobs.alarms = s.alarms := by
  simpa [State.except, unholds] using congrArg State.alarms (unholdJobs_except s)

theorem stands_of_alarms (h : t.alarms = s.alarms) (id unit : Nat) : t.stands id unit = s.stands id unit := by
  rw [State.stands, State.stands, State.alarm, State.alarm, h]

/-- The throttle threshold is released with enforcement and its alarm. -/
theorem throttleRelease_ends (s : State) : s.throttleRelease.thermal.throttle = false ∧ s.throttleRelease.thermal.enforcing = false ∧
    s.throttleRelease.thermal.shedW = 0 ∧ s.throttleRelease.stands almTjThrottle 0 = false := by
  have released : ∃ v : State, s.throttleRelease.thermal = v.thermal ∧ s.throttleRelease.alarms = (v.clearAlarm almTjThrottle 0).alarms ∧
      v.thermal.throttle = false ∧ v.thermal.enforcing = false ∧ v.thermal.shedW = 0 := by
    unfold State.throttleRelease
    dsimp only
    rw [apply_ite State.thermal, unholdJobs_thermal, ite_self, apply_ite State.thermal, State.event_thermal, ite_self, State.clearAlarm_thermal,
      apply_ite State.alarms, unholdJobs_alarms, ite_self, apply_ite State.alarms, State.event_alarms, ite_self]
    exact ⟨_, rfl, rfl, rfl, rfl, rfl⟩
  obtain ⟨v, thermal, alarms, throttle, enforcing, watts⟩ := released
  rw [thermal, stands_of_alarms alarms, State.clearAlarm_stands_self]
  exact ⟨throttle, enforcing, watts, rfl⟩

/-- The shutdown threshold is released by itself: the mode stays. -/
theorem shutdown_released (s : State) (ns : Nat) : ((s.advanceTo ns).thresholdCleared 2).thermal.shutdown = false ∧
    ((s.advanceTo ns).thresholdCleared 2).mode.current = s.mode.current := by
  have boots (t : State) : t.thresholdCleared 2 = State.tryBoot { t with thermal := { t.thermal with shutdown := false } } := rfl
  rw [boots, tryBoot_thermal, tryBoot_current]
  exact ⟨rfl, congrArg ModeSt.current (State.advanceTo_mode s ns)⟩

/-! ### Enforcement (15 R636 to R638) -/

/-- What the steps of enforcement do not change: that it runs, and that the grace time is over. -/
def State.course (s : State) : Bool × Option Nat := (s.thermal.enforcing, s.thermal.grace)

theorem shedStep_thermal (s : State) (step saving unit reach : Nat) : (s.shedStep step saving unit reach).thermal =
    { s.thermal with shedEst := s.thermal.shedEst + saving, step := max s.thermal.step step } := by
  rw [State.shedStep, State.event_thermal]

theorem shedStep_time (s : State) (step saving unit reach : Nat) : (s.shedStep step saving unit reach).time = s.time :=
  time_of_except (State.shedStep_except _ rfl s step saving unit reach)

theorem preemptAll_thermal (s : State) (held : Bool) : (s.preemptAll held).thermal = s.thermal :=
  thermal_of_except (State.preemptAll_except _ rfl rfl rfl s held)

/-- The first step: back-fill stops. -/
theorem shedBackfill_stops (s : State) : ∃ saving, s.shedBackfill.thermal =
    { s.thermal with bfStop := true, shedEst := s.thermal.shedEst + saving, step := max s.thermal.step 1 } := by
  unfold State.shedBackfill
  dsimp only
  rw [shedStep_thermal, preemptAll_thermal]
  exact ⟨_, rfl⟩

theorem shedBackfill_steps (s : State) : s.shedBackfill.thermal.bfStop = true ∧ s.shedBackfill.thermal.step = max s.thermal.step 1 := by
  obtain ⟨saving, h⟩ := shedBackfill_stops s
  rw [h]
  exact ⟨rfl, rfl⟩

theorem shedStep_course (s : State) (step saving unit reach : Nat) : (s.shedStep step saving unit reach).course = s.course := by
  rw [State.course, shedStep_thermal, State.course]

theorem shedBackfill_course (s : State) : s.shedBackfill.course = s.course := by
  obtain ⟨saving, h⟩ := shedBackfill_stops s
  rw [State.course, h, State.course]

theorem shedUnits_course (s : State) (l : List Nat) {f : State → Nat → State} (h : ∀ t x, (f t x).course = t.course) :
    (s.shedUnits l f).course = s.course := by
  refine each_reads State.course s l _ fun t x => ?_
  split
  · rfl
  · exact h t x

theorem shedPass_course (s : State) : s.shedPass.course = s.course := by
  have backfill : (if s.shedDone then s else s.shedBackfill).course = s.course := by
    split
    · rfl
    · exact shedBackfill_course s
  unfold State.shedPass
  dsimp only
  generalize (if s.shedDone then s else s.shedBackfill) = v at backfill ⊢
  have rends : (v.shedUnits v.shedRends State.shedRend).course = v.course := shedUnits_course v _ fun t r => shedStep_course _ _ _ _ _
  generalize v.shedUnits v.shedRends State.shedRend = w at rends ⊢
  have ctxs : (w.shedUnits w.shedCtxs State.shedCtx).course = w.course := shedUnits_course w _ fun t x => shedStep_course _ _ _ _ _
  generalize w.shedUnits w.shedCtxs State.shedCtx = x at ctxs ⊢
  rw [← backfill, ← rends, ← ctxs]
  split <;> rfl

theorem enforce_course (s : State) : s.enforce.course = (true, s.thermal.grace) := by
  have sticky : (((s.arrive .throttled).count cntShedEnforced 0 1).thermSticky 2).thermal.grace = s.thermal.grace := by
    rw [State.thermSticky, State.interrupt_thermal]
    dsimp only
    rw [State.count_thermal, arrive_thermal]
  unfold State.enforce
  dsimp only
  rw [shedPass_course, State.course]
  dsimp only
  rw [sticky]

theorem enforce_runs (s : State) : s.enforce.thermal.enforcing = true ∧ s.enforce.thermal.grace = s.thermal.grace := by
  have course := enforce_course s
  rwa [State.course, Prod.mk.injEq] at course

theorem graceOver_enforces (ht : s.thermal.throttle = true) (he : s.mode.current.enforced = true) (hb : s.mode.busy = false) :
    s.graceOver = State.enforce { s with thermal := { s.thermal with grace := none } } := by
  simp [State.graceOver, ht, he, hb]

/-- The grace time that runs out with the threshold standing ends in Throttled. -/
theorem graceOver_throttles (ht : s.thermal.throttle = true) (he : s.mode.current.enforced = true) (hb : s.mode.busy = false) :
    s.graceOver.mode.current = .throttled ∧ s.graceOver.thermal.enforcing = true ∧ s.graceOver.thermal.grace = none := by
  obtain ⟨v, enforces, mode, grace⟩ : ∃ v : State, s.graceOver = v.enforce ∧ v.mode = s.mode ∧ v.thermal.grace = none :=
    ⟨_, graceOver_enforces ht he hb, rfl, rfl⟩
  obtain ⟨runs, ends⟩ := enforce_runs v
  rw [enforces]
  exact ⟨ModeSt.current_of_regs (enforce_regs v (by rw [mode, he])), runs, ends.trans grace⟩

theorem graceExpiry_throttles (hn : s.thermal.grace = some n) (ht : s.thermal.throttle = true) (he : s.mode.current.enforced = true)
    (hb : s.mode.busy = false) : s.graceExpiry.mode.current = .throttled ∧ s.graceExpiry.thermal.enforcing = true ∧
      s.graceExpiry.thermal.grace = none := by
  have ends : s.graceExpiry = (s.advanceTo n).graceOver := by
    unfold State.graceExpiry
    rw [hn]
  rw [ends]
  exact graceOver_throttles (by rw [State.advanceTo_thermal, ht]) (by rw [State.advanceTo_mode, he]) (by rw [State.advanceTo_mode, hb])

theorem reevaluate_now (he : s.thermal.enforcing = true) (ht : s.thermal.throttle = true) :
    s.reevaluate = (s.advanceTo (s.thermal.evalNs + 1000000000)).reevaluateNow := by
  simp [State.reevaluate, he, ht]

/-- The time and the temperature of an evaluation noted. -/
def State.evaluated (s : State) : State := { s with thermal := { s.thermal with evalNs := s.nowNs, evalTj := s.thermal.tjMax } }

theorem evaluated_step (s : State) : s.evaluated.thermal.step = s.thermal.step := rfl

theorem evaluated_advanceTo (s : State) (n : Nat) : (s.advanceTo n).evaluated = { s.advanceTo n with
    thermal := { s.thermal with evalNs := (s.advanceTo n).nowNs, evalTj := s.thermal.tjMax } } := by
  rw [State.evaluated, State.advanceTo_thermal]

theorem reevaluateNow_holds (h : 4 ≤ s.thermal.evalTj - s.thermal.tjMax) : s.reevaluateNow = s.evaluated := by
  simp [State.reevaluateNow, h, State.evaluated]

theorem reevaluateNow_stops (h : s.thermal.evalTj - s.thermal.tjMax < 4) (hb : s.thermal.bfStop = false) :
    s.reevaluateNow = s.evaluated.shedBackfill := by
  simp [State.reevaluateNow, Int.not_le.mpr h, hb, State.evaluated]

theorem reevaluate_holds (he : s.thermal.enforcing = true) (ht : s.thermal.throttle = true) (h : 4 ≤ s.thermal.evalTj - s.thermal.tjMax) :
    s.reevaluate = (s.advanceTo (s.thermal.evalNs + 1000000000)).evaluated := by
  rw [reevaluate_now he ht]
  exact reevaluateNow_holds (by rw [State.advanceTo_thermal]; exact h)

/-- Another evaluation stops back-fill first. -/
theorem reevaluate_stops (he : s.thermal.enforcing = true) (ht : s.thermal.throttle = true) (h : s.thermal.evalTj - s.thermal.tjMax < 4)
    (hb : s.thermal.bfStop = false) : s.reevaluate.thermal.bfStop = true ∧ s.reevaluate.thermal.step = max s.thermal.step 1 := by
  have stops : s.reevaluate = (s.advanceTo (s.thermal.evalNs + 1000000000)).evaluated.shedBackfill := by
    rw [reevaluate_now he ht]
    exact reevaluateNow_stops (by rw [State.advanceTo_thermal]; exact h) (by rw [State.advanceTo_thermal]; exact hb)
  have step : (s.advanceTo (s.thermal.evalNs + 1000000000)).evaluated.thermal.step = s.thermal.step := by
    rw [evaluated_step, State.advanceTo_thermal]
  rw [stops, ← step]
  exact shedBackfill_steps _

/-- A clock step lowers the clock of a reach that is 62.5 MHz above its live floor. -/
theorem lowerClock_lowers (hr : reachFitted s.fused.part n = true) (hc : s.liveFloor n + 1000 ≤ s.clock n) (hn : n < s.thermal.mhz16.length) :
    (s.lowerClock n).clock n = s.clock n - 1000 ∧ (s.lowerClock n).time = s.time := by
  have lowered : (lmod s.thermal.mhz16 n (· - 1000)).getD n 32000 = s.thermal.mhz16.getD n 32000 - 1000 := by
    rw [List.getD_eq_getElem?_getD, List.getD_eq_getElem?_getD, lmod_self, List.getElem?_eq_getElem hn]
    rfl
  unfold State.lowerClock
  rw [if_pos (by simp [hr, hc])]
  dsimp only
  rw [shedStep_time, State.clock, shedStep_thermal]
  exact ⟨lowered, rfl⟩

theorem advanceTo_clock (s : State) (ns n : Nat) : (s.advanceTo ns).clock n = s.clock n := by
  rw [State.clock, State.clock, State.advanceTo_thermal]

theorem advanceTo_lowers {ns : Nat} (hr : reachFitted s.fused.part n = true) (hc : (s.advanceTo ns).liveFloor n + 1000 ≤ s.clock n)
    (hn : n < s.thermal.mhz16.length) : ((s.advanceTo ns).lowerClock n).clock n = s.clock n - 1000 ∧
      ((s.advanceTo ns).lowerClock n).time = (s.advanceTo ns).time := by
  rw [← advanceTo_clock s ns n] at hc ⊢
  exact lowerClock_lowers (by rw [State.advanceTo_fused, hr]) hc (by rw [State.advanceTo_thermal]; exact hn)

theorem clockStep_lowers (he : s.thermal.enforcing = true) (hs : s.thermal.stepping = true) (hd : s.shedDone = false) (hn : n < 4) :
    s.clockStep n = (s.advanceTo (s.thermal.lowered.getD n 0 + 100000000)).lowerClock n := by
  simp [State.clockStep, he, hs, hd, hn]

/-! ### Power (15 R646) -/

theorem powerSample_holds (rails : List Nat) (s : State) : (s.powerSample rails).thermal.rails = (rails ++ List.replicate 8 0).take 8 ∧
    (s.powerSample rails).thermal.powerDw = ((rails ++ List.replicate 8 0).take 8).foldl (· + ·) 0 := by
  unfold State.powerSample
  dsimp only
  split
  · rw [State.event_thermal, State.thermSticky, State.interrupt_thermal]
    dsimp only
    rw [State.raise_thermal]
    exact ⟨rfl, rfl⟩
  · split
    · exact ⟨rfl, rfl⟩
    · rw [State.clearAlarm_thermal]
      exact ⟨rfl, rfl⟩

/-- Settles O57, clause by clause: what a sample finds, what a release clears, the steps of enforcement, and the power held. -/
theorem spillwayCommandsComplete : Obligations.SpillwayCommandsComplete := by
  refine ⟨fun xs s h => ⟨_, rfl, sensorSample_holds h⟩,
    fun xs s k x y hf ht hx hs hy px py hn => ⟨_, rfl, sensorSample_trips hf ht (twice_some (mem_readBefore hx hs) hy px py) hn⟩,
    fun xs s k x y hf hx hs hy px py => ⟨_, rfl, sensorSample_shuts hf (twice_some (mem_readBefore hx hs) hy px py)⟩,
    fun s b hb hw => ⟨_, congrArg Host.Outcome.next (thresholdRelease_clears hb hw), warning_off _⟩,
    fun s b hb ht => ⟨_, congrArg Host.Outcome.next (thresholdRelease_clears hb ht), throttleRelease_ends _⟩,
    fun s b hb hs => ⟨_, congrArg Host.Outcome.next (thresholdRelease_clears hb hs), shutdown_released s _⟩,
    fun s n hn ht he hb => ⟨_, rfl, graceExpiry_throttles hn ht he hb⟩,
    fun s he ht hh => ⟨_, _, rfl, congrArg Host.Outcome.next (reevaluate_holds he ht hh), evaluated_advanceTo s _⟩,
    fun s he ht hh hb => ⟨_, rfl, reevaluate_stops he ht hh hb⟩,
    fun n s u hu he hs hd hn hr hc hl => ?lowered,
    fun rails s => ⟨_, rfl, powerSample_holds rails s⟩⟩
  case lowered =>
    subst hu
    exact ⟨_, congrArg Host.Outcome.next (clockStep_lowers he hs hd hn), advanceTo_lowers hr hc hl⟩

end Sys2Proof.Machine
end

section
/-! PROOFS. Requests that wait, that fail the checks of their header and units, and that ask only for validation. -/
namespace Sys2Proof.Machine

/-- Settles O12: what is served without a slot to take is the state itself. -/
theorem requestWithoutRing : Obligations.RequestWithoutRing := by
  intro i q r n s hi hc hk
  rw [(exec_request hi).1, serve_waits hc hk]

/-- Settles O13: the reply carries the failure of the first check, and the state beneath it differs in its slot and the record of the failure. -/
theorem refusedRequestAnswered : Obligations.RefusedRequestAnswered := by
  intro i q r s a hi ha hf
  refine ⟨(s.taking r).noteFetch r a, ?_, by simp⟩
  rw [(exec_request hi).1, serve_refused ha hf]

/-- Settles O15, from what a validated request leaves. -/
theorem validateOnlyAppliesNothing : Obligations.ValidateOnlyAppliesNothing := by
  intro i q r s t hi hv h
  rw [(exec_request hi).1] at h
  cases h
  exact serve_validates_silent hv

end Sys2Proof.Machine
end

section
/-! PROOFS. The order in which the checks of a request are made (02 R100). -/
namespace Sys2Proof.Machine

variable {q : ReqSpec} {c : Call} {s : State} {a : Answer} {n : Named} {owner : Nat}

/-! ### Steps 1 to 4 -/

/-- A request of no row of the table, or one that meets a firmware fault, fails before its header is read. -/
theorem admitted_of_oddFail (h : oddFail c.r = some a) : admitted q c s = some a := by simp [admitted, h]

theorem admitted_malformed (ho : c.r.odd = none) (hh : headerOk q c.r = false) : admitted q c s = some (fail stInvalid 0) := by
  simp [admitted, oddFail, ho, hh]

theorem admitted_unread (ho : c.r.odd = none) (hh : headerOk q c.r = true) (hb : blockOf c.r = none) :
    admitted q c s = some (fail stIntegrity 0) := by
  simp [admitted, oddFail, ho, hh, hb]

/-- A request passes steps 1 to 3: its codes are of a row of the table, and its header and its block have their form. -/
structure WellPosed (q : ReqSpec) (c : Call) : Prop where
  even : c.r.odd = none
  header : headerOk q c.r = true
  read : blockOf c.r ≠ none
  block : blockOk q c.block = true

theorem WellPosed.unserved (h : WellPosed q c) (hs : s.serves c.r.carrier q.verb q.noun = false) :
    admitted q c s = some (fail stState (if q.verb = 0x12 && !s.mode.current.fast then 0x0004 else 0)) := by
  simp [admitted, oddFail, h.even, h.header, h.read, h.block, hs]

/-- A request passes step 4 too: the mode serves it, and keeps no unit of it asleep. -/
structure Served (q : ReqSpec) (c : Call) (s : State) : Prop extends WellPosed q c where
  serves : s.serves c.r.carrier q.verb q.noun = true
  awake : q.asleep s c = none

/-! ### Steps 5 to 8 -/

theorem Served.outside (h : Served q c s) (hi : q.index c.r.index = false) : admitted q c s = some (fail stRange 0x0007) := by
  simp [admitted, oddFail, h.even, h.header, h.read, h.block, h.serves, h.awake, hi]

theorem Served.unfit (h : Served q c s) (hi : q.index c.r.index = true)
    (hn : namedFail (q.named s c) c.owner (q.verb == 0x01 || q.verb == 0x13) = some a) : admitted q c s = some a := by
  simp [admitted, oddFail, h.even, h.header, h.read, h.block, h.serves, h.awake, hi, hn]

theorem Served.fields (h : Served q c s) (hi : q.index c.r.index = true)
    (hn : namedFail (q.named s c) c.owner (q.verb == 0x01 || q.verb == 0x13) = none) :
    admitted q c s = if q.judged then (fieldsFail q c.block).map (earlier (q.body c s).1) else fieldsFail q c.block := by
  simp [admitted, oddFail, h.even, h.header, h.read, h.block, h.serves, h.awake, hi, hn]

theorem namedFail_absent (hp : n.present = false) (asks : Bool) : namedFail [n] owner asks = some (fail stAbsent 0 n.item) := by
  simp [namedFail, hp]

theorem namedFail_fenced (hp : n.present = true) (hf : n.fenced = true) (asks : Bool) :
    namedFail [n] owner asks = some (fail stState 0x0001 n.item) := by
  simp [namedFail, hp, hf]

theorem namedFail_locked (hp : n.present = true) (hf : n.fenced = false) (hl : n.lock ≠ 0) (ho : n.lock ≠ owner) (hx : owner ≠ 0xFF) :
    namedFail [n] owner false = some (fail stLocked n.lock n.item) := by
  simp [namedFail, hp, hf, hl, ho, hx]

theorem fieldsFail_bits {b : Bytes} (hb : q.bits b = false) : fieldsFail q b = some (fail stRange q.bitsReason) := by simp [fieldsFail, hb]

theorem fieldsFail_form {b : Bytes} (hb : q.bits b = true) (hf : q.form b = false) :
    fieldsFail q b = some (fail stInvalid 0 (q.badItem b)) := by simp [fieldsFail, hb, hf]

theorem fieldsFail_none {b : Bytes} (hb : q.bits b = true) (hf : q.form b = true) : fieldsFail q b = none := by simp [fieldsFail, hb, hf]

/-- A failure of steps 4 to 7 stands before a malformed field, whatever the items: items have 16 bits. -/
theorem earlier_of_step_lt {o : Answer} (hs : o.status ≥ 0x0100) (ha : o.accepted = false) (hi : o.item < 65536) (hf : failStep o < 9)
    (item : Nat) : earlier o (fail stInvalid 0 item) = o := by
  have invalid : failStep (fail stInvalid 0 item) = 9 := rfl
  have less : failStep o * 65536 + o.item < 9 * 65536 + (fail stInvalid 0 item).item := by omega
  unfold earlier
  rw [invalid]
  exact if_pos (by simpa [ha, hs] using less)

/-- Settles O14, step by step. -/
theorem checksInOrder : Obligations.ChecksInOrder := by
  intro q c s
  refine ⟨fun v n ho hk => ?unknown, fun v n ho hk => ?unlisted, fun ho => ?fault, fun ho => ⟨fun hh => ?header, fun hh hb => ?block,
    fun hh hb hk hs => ?mode, fun hh hb hk hs hw hi => ?index, fun n hh hb hk hs hw hi hn => ?named, fun hh hb hk hs hw hi hn => ?fields⟩⟩
  case unknown => exact ⟨_, admitted_of_oddFail (by simp only [oddFail, ho, hk]; rfl), rfl⟩
  case unlisted => exact ⟨_, admitted_of_oddFail (by simp only [oddFail, ho, hk]; rfl), rfl⟩
  case fault => exact ⟨_, admitted_of_oddFail (by simp only [oddFail, ho]; rfl), rfl⟩
  case header => exact ⟨_, admitted_malformed ho hh, rfl⟩
  case block => exact ⟨_, admitted_unread ho hh hb, rfl⟩
  case mode => exact ⟨_, WellPosed.unserved ⟨ho, hh, Option.isSome_iff_ne_none.mp hb, hk⟩ hs, rfl⟩
  case index => exact ⟨_, Served.outside ⟨⟨ho, hh, Option.isSome_iff_ne_none.mp hb, hk⟩, hs, hw⟩ hi, rfl, rfl⟩
  case named =>
    have served : Served q c s := ⟨⟨ho, hh, Option.isSome_iff_ne_none.mp hb, hk⟩, hs, hw⟩
    refine ⟨fun hp => ⟨_, served.unfit hi (hn ▸ namedFail_absent hp _), rfl⟩,
      fun hp hf => ⟨_, served.unfit hi (hn ▸ namedFail_fenced hp hf _), rfl, rfl⟩,
      fun hp hf hl hne hx hq hr => ⟨fail stLocked n.lock n.item, served.unfit hi ?_, rfl, rfl⟩⟩
    have asks : (q.verb == 0x01 || q.verb == 0x13) = false := by simp [hq, hr]
    rw [hn, asks]
    exact namedFail_locked hp hf hl hne hx
  case fields =>
    have fields := Served.fields (s := s) ⟨⟨ho, hh, Option.isSome_iff_ne_none.mp hb, hk⟩, hs, hw⟩ hi hn
    refine ⟨fun hj hbits => ?_, fun hj hbits hform => ?_, fun hj hbits hform hst hacc hitem hstep => ?_, fun hbits hform => ?_⟩
    · rw [fields, hj, fieldsFail_bits hbits]; rfl
    · rw [fields, hj, fieldsFail_form hbits hform]; rfl
    · rw [fields, hj, fieldsFail_form hbits hform]
      exact congrArg some (earlier_of_step_lt hst hacc hitem hstep _)
    · rw [fields, fieldsFail_none hbits hform]
      exact ite_self none

end Sys2Proof.Machine
end

section
/-! PROOFS. The reply that a ring carries (02 R81, R83, R87). -/
namespace Sys2Proof.Machine

variable {s : State} {n verb : Nat} {r : Request} {a : Answer}

/-! ### What goes out -/

theorem hostWrite_out (s : State) (addr : Nat) (b : Bytes) :
    (s.hostWrite addr b).out = (if b = [] then [] else [.hostWrite addr b]) ++ s.out := by
  unfold State.hostWrite
  cases b <;> rfl

theorem hostWrite_out_of_ne_nil {b : Bytes} (h : b ≠ []) (s : State) (addr : Nat) : (s.hostWrite addr b).out = .hostWrite addr b :: s.out := by
  rw [hostWrite_out, if_neg h]
  rfl

theorem message_out (s : State) (v : Nat) : ∃ m : List Out, m.length ≤ 1 ∧ (s.message v).out = m ++ s.out := by
  unfold State.message
  dsimp only
  split
  · exact ⟨[], Nat.zero_le 1, rfl⟩
  · split
    · exact ⟨[], Nat.zero_le 1, rfl⟩
    · exact ⟨[_], Nat.le_refl 1, rfl⟩

/-- An interrupt sends at most one message. -/
theorem interrupt_out (s : State) (n : Nat) : ∃ m : List Out, m.length ≤ 1 ∧ (s.interrupt n).out = m ++ s.out := by
  unfold State.interrupt
  dsimp only
  split
  · exact message_out _ _
  · exact ⟨[], Nat.zero_le 1, rfl⟩

/-! ### The parts of a reply -/

theorem le_ne_nil {n : Nat} (h : n ≠ 0) (v : Nat) : le n v ≠ [] := by
  cases n with
  | zero => exact absurd rfl h
  | succ n => exact List.cons_ne_nil _ _

/-- A block whose fields begin inside it has the length that it is laid out in. -/
theorem layout_length {len : Nat} {parts : List (Nat × Bytes)} (h : ∀ p ∈ parts, p.1 ≤ len) : (layout len parts).length = len := by
  have keeps (l : List (Nat × Bytes)) (hl : ∀ p ∈ l, p.1 ≤ len) (b : Bytes) (hb : b.length = len) :
      (l.foldl (fun b p => (b.take p.1 ++ p.2 ++ b.drop (p.1 + p.2.length)).take len) b).length = len := by
    induction l generalizing b with
    | nil => exact hb
    | cons p l ih =>
      have inside := hl p List.mem_cons_self
      refine ih (fun x hx => hl x (List.mem_cons_of_mem _ hx)) _ ?_
      simp only [List.length_take, List.length_append, List.length_drop]
      omega
  exact keeps parts h _ List.length_replicate

theorem replyHeader_ne_nil (w : Option Nat) : replyHeader verb r a w ≠ [] := by
  have length : (replyHeader verb r a w).length = 32 := layout_length (by simp)
  exact List.ne_nil_of_length_pos (by rw [length]; decide)

/-- Address of the slot of the next reply. -/
def State.replySlot (s : State) (n : Nat) : Nat := pageBase (s.ring n).rplBase + 512 * ((s.ring n).rplProducer.toNat % ringDepth n)

/-- The payload of a reply written to the out buffer of its request, or behind the header in its slot. -/
def State.postPayload (s : State) (n : Nat) (r : Request) (a : Answer) : State :=
  match outBuffer r a with
  | some _ => s.hostWrite (u64 r.payload 16) a.payload
  | none => s.hostWrite (s.replySlot n + 32) a.payload

/-- The payload and the header of a reply written, and the index of the ring moved on. -/
def State.postReply (s : State) (n verb : Nat) (r : Request) (a : Answer) : State :=
  ((s.postPayload n r a).hostWrite (s.replySlot n) (replyHeader verb r a (outBuffer r a))).modRing n (fun x => { x with rplProducer := x.rplProducer + 1 })

/-- A reply is its payload and header, then the writeback word, then the cause of the ring. -/
theorem replyRing_eq (s : State) (n verb : Nat) (r : Request) (a : Answer) :
    s.replyRing n verb r a = ((s.postReply n verb r a).hostWrite (wordBase ((s.postReply n verb r a).ring n).wbAddr)
      (le 2 ((s.postReply n verb r a).ring n).reqConsumer.toNat ++ le 2 ((s.postReply n verb r a).ring n).rplProducer.toNat)).interrupt n := by
  unfold State.replyRing State.postReply State.postPayload State.replySlot
  cases outBuffer r a <;> rfl

theorem postPayload_rings (s : State) (n : Nat) (r : Request) (a : Answer) : (s.postPayload n r a).rings = s.rings := by
  unfold State.postPayload
  split <;> exact State.hostWrite_rings _ _ _

theorem postPayload_out (s : State) (n : Nat) (r : Request) (a : Answer) :
    (s.postPayload n r a).out = (if a.payload = [] then []
      else if hasOut r = true then [.hostWrite (u64 r.payload 16) a.payload]
      else [.hostWrite (s.replySlot n + 32) a.payload]) ++ s.out := by
  unfold State.postPayload outBuffer
  by_cases hp : a.payload = []
  · simp [hp, hostWrite_out]
  · by_cases ho : hasOut r = true <;> simp [hp, ho, hostWrite_out]

theorem postReply_ring (s : State) (verb : Nat) (r : Request) (a : Answer) (hn : n < s.rings.length) :
    (s.postReply n verb r a).ring n = { s.ring n with rplProducer := (s.ring n).rplProducer + 1 } := by
  have kept : ((s.postPayload n r a).hostWrite (s.replySlot n) (replyHeader verb r a (outBuffer r a))).rings = s.rings := by
    rw [State.hostWrite_rings, postPayload_rings]
  unfold State.postReply
  rw [State.ring_mod_self _ _ _ (by rw [kept]; exact hn), State.ring, kept]
  rfl

theorem postReply_out (s : State) (n verb : Nat) (r : Request) (a : Answer) :
    (s.postReply n verb r a).out = .hostWrite (s.replySlot n) (replyHeader verb r a (outBuffer r a)) :: (s.postPayload n r a).out := by
  unfold State.postReply
  rw [State.modRing_out, hostWrite_out_of_ne_nil (replyHeader_ne_nil _)]

theorem takeSlot_reqConsumer (hn : n < s.rings.length) : ((s.takeSlot n).ring n).reqConsumer = (s.ring n).reqConsumer + 1 := by
  unfold State.takeSlot
  rw [State.ring_mod_self _ _ _ hn]

/-- Settles O18, from the parts of a reply in their order. -/
theorem replyOnRing : Obligations.ReplyOnRing := by
  intro s n verb r a h4 hn
  rw [replyRing_eq, postReply_ring s verb r a hn]
  refine ⟨takeSlot_reqConsumer hn, ?_, interrupt_sets_cause _ (by omega), ?_⟩
  · rw [State.interrupt_ring, State.hostWrite_ring, postReply_ring s verb r a hn]
  · obtain ⟨m, hm, hout⟩ := interrupt_out ((s.postReply n verb r a).hostWrite (wordBase (s.ring n).wbAddr)
      (le 2 (s.ring n).reqConsumer.toNat ++ le 2 ((s.ring n).rplProducer + 1).toNat)) n
    refine ⟨m, hm, hout.trans ?_⟩
    rw [hostWrite_out_of_ne_nil (List.append_ne_nil_of_left_ne_nil (le_ne_nil (by decide) _) _), postReply_out, postPayload_out]
    simp [State.replySlot]

end Sys2Proof.Machine
end

section
/-! PROOFS. CANCEL: the open stage set of a tag, and the parts of a committed request (02 R112, R113). -/
namespace Sys2Proof.Machine

variable {r : Request} {c : Call} {s : State}

/-! ### The open stage set (02 R112) -/

theorem openSet_of_openSets {s t : State} {k : Nat} (h : tget (fun _ => []) t.openSets k = tget (fun _ => []) s.openSets k) :
    t.openSet k = s.openSet k := by
  unfold State.openSet
  rw [h]

theorem taking_openSets (s : State) (r : Request) : (s.taking r).openSets = s.openSets := by
  unfold State.taking
  split <;> rfl

/-- Settles O24: the set of the tag leaves the table of open sets. -/
theorem cancelDiscardsStageSet : Obligations.CancelDiscardsStageSet := by
  intro r s h
  refine ⟨_, congrArg Host.Outcome.next (serve_gives h rfl rfl (Nat.zero_le _)), ?_, fun k hk => openSet_of_openSets ?_, ?_⟩
  · rw [State.openSet, Request.callIn_owner, tget_tdrop_self]
    rfl
  · rw [Request.callIn_owner, tget_tdrop_other _ _ _ _ hk, taking_openSets]
  · exact congrArg (fun t : State => { t with openSets := [] }) (State.taking_silent s r)

/-! ### The parts of a committed request (02 R113) -/

/-- A part of the request that a block of CANCEL names. -/
def cancelNames (b : Bytes) (p : Part) : Bool := p.seq == u32 b 0 && p.ring == u8 b 4

/-- The parts that a block of CANCEL names, without those inside the horizon, withdrawn. -/
def State.withdraw (s : State) (b : Bytes) (arrival : Nat) : State :=
  { s with parts := s.parts.filter (fun p => !(p.seq == u32 b 0 && p.ring == u8 b 4 && !s.stays arrival p)) }

theorem landingList_length (l : List (Landing × Nat)) : (landingList l).length = 8 + 16 * l.length := by
  have entry (e : Landing × Nat) : (layout 16 [(0, le 1 e.1.domain), (2, le 2 e.1.status), (4, le 4 e.2), (8, le 8 e.1.frame)]).length = 16 :=
    layout_length (by simp)
  have count : (layout 8 [(0, le 1 l.length)]).length = 8 := layout_length (by simp)
  unfold landingList
  rw [List.length_append, count, List.length_flatMap]
  simp [entry, Nat.mul_comm]

theorem release_parts (s : State) : s.release.parts = s.parts := by
  unfold State.release
  exact each_reads State.parts _ _ _ (fun _ _ => rfl)

/-- When every part that a block names is inside the horizon, none is withdrawn. -/
theorem withdraw_parts_of_all {b : Bytes} {arrival : Nat} (h : ((s.parts.filter (cancelNames b)).filter (s.stays arrival)).length = (s.parts.filter (cancelNames b)).length) :
    (s.withdraw b arrival).parts = s.parts := by
  have stay := List.filter_eq_self.mp (List.filter_sublist.eq_of_length h)
  refine List.filter_eq_self.mpr fun p hp => ?_
  by_cases hn : cancelNames b p = true
  · simp [stay p (List.mem_filter.mpr ⟨hp, hn⟩)]
  · have hn : (p.seq == u32 b 0 && p.ring == u8 b 4) = false := by simpa [cancelNames] using hn
    rw [hn]
    rfl

/-- CANCEL of a request of which parts have not landed withdraws those outside the horizon. -/
theorem cancelCommitted_withdraws (h4 : u8 c.block 4 ≤ 1) (hm : ∃ p ∈ s.parts, cancelNames c.block p = true)
    (ho : ∀ p ∈ s.parts, cancelNames c.block p = true → p.owner = c.owner ∨ c.owner = 0xFF) :
    ∃ (a : Answer) (t : State), specCancelCommitted.body c s = (a, t) ∧ t.parts = (s.withdraw c.block c.arrival).parts ∧
      a.payload.length = 8 + 16 * (s.parts.filter (cancelNames c.block)).length ∧ (a.status = 0 ∨ a.status = 0x0109) := by
  obtain ⟨p, hp, hn⟩ := hm
  have mine : s.parts.filter (cancelNames c.block) ≠ [] := List.ne_nil_of_mem (List.mem_filter.mpr ⟨hp, hn⟩)
  have free : (s.parts.filter (cancelNames c.block)).find? (fun p => p.owner != c.owner && c.owner != 0xFF) = none := by
    refine List.find?_eq_none.mpr fun p hp => ?_
    obtain ⟨hp, hn⟩ := List.mem_filter.mp hp
    rcases ho p hp hn with h | h <;> simp [h]
  unfold specCancelCommitted
  dsimp only
  have names : (fun p : Part => p.seq == u32 c.block 0 && p.ring == u8 c.block 4) = cancelNames c.block := rfl
  rw [if_neg (Nat.not_lt.mpr h4), names]
  split
  · exact absurd ‹_› mine
  · rw [free]
    refine ⟨_, _, rfl, ?_, ?_, ?_⟩
    · split
      · exact (withdraw_parts_of_all ‹_›).symm
      · exact release_parts _
    · rw [landingList_length, List.length_map]
    · dsimp only
      split
      · exact .inl rfl
      · exact .inr rfl

/-- Settles O26, by what the body of the request withdraws. -/
theorem cancelWithdrawsParts : Obligations.CancelWithdrawsParts := by
  intro r s h h4 ⟨p, hp, hs, hr⟩ ho k
  obtain ⟨a, t, hb, parts, length, status⟩ := cancelCommitted_withdraws (c := r.callIn s) (s := s.taking r) h4
    ⟨p, hp, by simp [cancelNames, hs, hr]⟩ (fun p hp hn => ho p hp (by simp_all [cancelNames]) (by simp_all [cancelNames]))
  exact ⟨t, a, congrArg Host.Outcome.next (serve_gives h rfl hb (length ▸ k)), parts, status⟩

end Sys2Proof.Machine
end

section
/-! PROOFS. Settings staged twice: the later one is kept (02 R104). -/
namespace Sys2Proof.Machine

variable {s : State} {e a : Nat × Setting} {l new : List (Nat × Setting)} {owner : Nat}

/-! ### The later of two settings -/

theorem keepLater_concat (l : List (Nat × Setting)) (e : Nat × Setting) :
    keepLater (l ++ [e]) = (keepLater l).filter (fun a => settingKey a.2 != settingKey e.2) ++ [e] := by
  unfold keepLater
  rw [List.foldl_append]
  rfl

theorem mem_filter_key : a ∈ l.filter (fun a => settingKey a.2 != settingKey e.2) ↔ a ∈ l ∧ settingKey a.2 ≠ settingKey e.2 := by simp

/-- What is kept sets each value of each unit once. -/
theorem keepLater_pairwise (l : List (Nat × Setting)) : (keepLater l).Pairwise (fun a b => settingKey a.2 ≠ settingKey b.2) := by
  induction l using List.reverseRecOn with
  | nil => exact List.Pairwise.nil
  | append_singleton l e ih =>
    rw [keepLater_concat, List.pairwise_append]
    refine ⟨ih.filter _, List.pairwise_singleton _ _, fun a ha b hb => ?_⟩
    rw [List.mem_singleton.mp hb]
    exact (mem_filter_key.mp ha).2

/-- Nothing is dropped of a list that sets each value of each unit once. -/
theorem keepLater_of_pairwise (h : l.Pairwise (fun a b => settingKey a.2 ≠ settingKey b.2)) : keepLater l = l := by
  induction l using List.reverseRecOn with
  | nil => rfl
  | append_singleton l e ih =>
    obtain ⟨before, -, apart⟩ := List.pairwise_append.mp h
    have others : l.filter (fun a => settingKey a.2 != settingKey e.2) = l :=
      List.filter_eq_self.mpr fun a ha => bne_iff_ne.mpr (apart a ha e List.mem_cons_self)
    rw [keepLater_concat, ih before, others]

theorem keepLater_keepLater (l : List (Nat × Setting)) : keepLater (keepLater l) = keepLater l := keepLater_of_pairwise (keepLater_pairwise l)

/-! ### The open stage set of a tag (02 R102) -/

theorem openSet_settings (s : State) (owner : Nat) : (s.openSet owner).map (·.2) = tget (fun _ => []) s.openSets owner := by
  unfold State.openSet
  rw [List.map_map]
  exact List.zipIdx_map_fst 0 _

theorem staged_openSet (s : State) (owner : Nat) (xs : List Setting) : ((s.staged owner xs).openSet owner).map (·.2) = s.stageSet owner xs := by
  rw [openSet_settings]
  exact tget_tset_self _ _ _ _

/-! ### What is scheduled (02 R106) -/

/-- What two judgements agree on that schedule the same. -/
structure Judged.Alike (i j : Judged) : Prop where
  after : i.after = j.after
  landings : i.landings = j.landings
  staged : i.staged = j.staged

theorem judge_alike (h : keepLater l = keepLater new) (owner arrival target d off off' : Nat) :
    (s.judge owner arrival target d off [] l).Alike (s.judge owner arrival target d off' [] new) := by
  unfold State.judge
  dsimp only
  rw [List.nil_append, List.nil_append, h]
  exact ⟨rfl, rfl, rfl⟩

theorem fits_alike (s : State) (noun : Nat) (l : List (Nat × Setting)) (j : Judged) : (s.fits noun l j).Alike j := by
  unfold State.fits
  split <;> exact ⟨rfl, rfl, rfl⟩

theorem Judged.Alike.trans {i j k : Judged} (h : i.Alike j) (m : j.Alike k) : i.Alike k :=
  ⟨h.after.trans m.after, h.landings.trans m.landings, h.staged.trans m.staged⟩

theorem Judged.Alike.symm {i j : Judged} (h : i.Alike j) : j.Alike i := ⟨h.after.symm, h.landings.symm, h.staged.symm⟩

theorem judgeSet_keepLater (s : State) (c : Call) (noun off : Nat) (l : List (Nat × Setting)) :
    (s.judgeSet c noun off l).Alike (s.judgeSet c noun off (keepLater l)) := by
  unfold State.judgeSet
  rw [keepLater_keepLater]
  exact ((fits_alike s noun l _).trans (judge_alike (keepLater_keepLater l).symm ..)).trans (fits_alike s noun (keepLater l) _).symm

/-- What a staged request schedules is made of the settings that it keeps. -/
theorem schedule_keepLater (s : State) (c : Call) (noun off : Nat) (l : List (Nat × Setting)) :
    s.schedule c noun off l = s.schedule c noun off (keepLater l) := by
  obtain ⟨after, landings, staged⟩ := judgeSet_keepLater s c noun off l
  have parts : partsOf c noun s.partSeq (s.judgeSet c noun off l) = partsOf c noun s.partSeq (s.judgeSet c noun off (keepLater l)) := by
    unfold partsOf
    rw [landings, staged]
  unfold State.schedule
  dsimp only
  rw [parts, after]

/-- Settles O23, from the recursion of `keepLater` on the last setting. -/
theorem stagedTwiceKeepsLater : Obligations.StagedTwiceKeepsLater := by
  refine ⟨fun l e => ⟨_, keepLater_concat l e, fun a ha => (mem_filter_key.mp ha).2⟩, fun l e a ha hk => ?stays,
    fun l => ⟨keepLater_pairwise l, fun a => mem_of_mem_keepLater⟩, fun s owner x => ?staged, schedule_keepLater⟩
  case stays =>
    rw [keepLater_concat]
    exact List.mem_append_left _ (mem_filter_key.mpr ⟨ha, hk⟩)
  case staged =>
    refine ⟨((keepLater (s.openSet owner)).filter (fun a => settingKey a.2 != settingKey x)).map (·.2), ?_, fun y hy => ?_, fun a ha hk => ?_⟩
    · rw [staged_openSet, State.stageSet, List.map_singleton, keepLater_concat, List.map_append]
      rfl
    · obtain ⟨a, ha, rfl⟩ := List.mem_map.mp hy
      exact (mem_filter_key (e := (0, x)).mp ha).2
    · exact List.mem_map_of_mem (mem_filter_key (e := (0, x)).mpr ⟨ha, hk⟩)

end Sys2Proof.Machine
end

section
/-! PROOFS. STAGE: what validates joins the open stage set of its tag (02 R101 to R105; 13 R567). -/
namespace Sys2Proof.Machine

variable {q : ReqSpec} {r : Request} {c : Call} {s : State} {xs : List Setting}

theorem stageAnswer_payload (j : Judged) : j.stageAnswer.payload = [] := by
  unfold Judged.stageAnswer
  split <;> rfl

/-- Settings that `STAGE` can add are added. -/
theorem stage_adds (h : s.stageable c xs) : s.stage c xs = ((s.judgeStage c xs).stageAnswer, s.staged c.owner xs) := by
  obtain ⟨owner, valid, few, room⟩ := h
  have valid : (s.judge c.owner c.arrival 0 0 0x0009 (s.openSet c.owner) (xs.map (fun x => (0, x)))).failure = none := valid
  simp only [State.stageSet, List.length_map] at few room
  unfold State.stage
  dsimp only
  rw [if_neg owner, valid]
  dsimp only
  rw [if_neg (by simp; omega)]
  rfl

/-- An accepted request whose body is a `STAGE` that can add its settings adds them, and is answered. -/
theorem serve_stages (h : r.accepted q s) (hq : q.staged = false)
    (hb : q.body (r.callIn s) (s.taking r) = (s.taking r).stage (r.callIn s) xs) (hs : (s.taking r).stageable (r.callIn s) xs) :
    (.next (serve q r s) : Res) =
      .next (((s.taking r).staged (carrierOwner r) xs).reply q.verb r ((s.taking r).judgeStage (r.callIn s) xs).stageAnswer) :=
  congrArg _ (serve_gives h hq (hb.trans (stage_adds hs)) (by rw [stageAnswer_payload]; exact Nat.zero_le _))

/-! ### The blocks that name their unit twice (03 R153; 08 R341, R360) -/

theorem stageDstRoute_body (h : (decRouteEntry (c.block.drop 1)).dst = c.r.index) :
    specStageDstRoute.body c s = s.stage c [routeSetting (c.block.drop 1)] := if_neg (by rw [h]; simp)

theorem stageQueueDscpMap_body (h : c.r.index % 12 = 0) : specStageQueueDscpMap.body c s =
    s.stage c [.dscp (c.r.index / 12) ((List.range 64).map (fun i => u8 c.block (4 + i)))] := if_neg (by simp [h])

theorem stagePlane_body (h : 1 < c.r.index) : specStagePlane.body c s = s.stage c [.plane (decPlaneCfg c.block)] :=
  if_neg (Nat.not_le.mpr h)

/-- Settles O21, each request by the settings that its body stages. -/
theorem stageOfSwitchingCompletes : Obligations.StageOfSwitchingCompletes := by
  refine ⟨fun r s h hd hs => ?stageDstRoute, fun r s h hs => ?stageDstFormat, fun r s h hs => ?stageDstDomain,
    fun r s h hs => ?stageSrcLossAction, fun r s h hs => ?stageSrcOverride, fun r s h hs => ?stageAudioOutRoute,
    fun r s h hs => ?stageAudioOutFollow, fun r s h hs => ?stageAudioOutDomain, fun r s h hs => ?stageAudioOutDelay,
    fun r s h hs => ?stageAacProgramme, fun r s h hs => ?stageSlotMask⟩
  case stageDstRoute => exact serve_stages h rfl (stageDstRoute_body hd) hs
  case stageDstFormat => exact serve_stages h rfl (by simp only [specStageDstFormat, stageSpec, Request.callIn_r, Request.callIn_block]) hs
  case stageDstDomain => exact serve_stages h rfl (by simp only [specStageDstDomain, stageSpec, Request.callIn_r, Request.callIn_block]) hs
  case stageSrcLossAction => exact serve_stages h rfl (by simp only [specStageSrcLossAction, stageSpec, Request.callIn_r, Request.callIn_block]) hs
  case stageSrcOverride => exact serve_stages h rfl (by simp only [specStageSrcOverride, stageSpec, Request.callIn_r, Request.callIn_block]) hs
  case stageAudioOutRoute => exact serve_stages h rfl (by simp only [specStageAudioOutRoute, stageSpec, Request.callIn_r, Request.callIn_block]) hs
  case stageAudioOutFollow => exact serve_stages h rfl (by simp only [specStageAudioOutFollow, stageSpec, Request.callIn_r, Request.callIn_block]) hs
  case stageAudioOutDomain => exact serve_stages h rfl (by simp only [specStageAudioOutDomain, stageSpec, Request.callIn_r, Request.callIn_block]) hs
  case stageAudioOutDelay => exact serve_stages h rfl (by simp only [specStageAudioOutDelay, stageSpec, Request.callIn_r, Request.callIn_block]) hs
  case stageAacProgramme => exact serve_stages h rfl (by simp only [specStageAacProgramme, stageSpec, Request.callIn_r, Request.callIn_block]) hs
  case stageSlotMask => exact serve_stages h rfl (by simp only [specStageSlotMask, stageSpec, Request.callIn_r, Request.callIn_block]) hs

/-- Settles O22, each request by the settings that its body stages. -/
theorem stageOfServicesCompletes : Obligations.StageOfServicesCompletes := by
  refine ⟨fun r s h hs => ?stageFlow, fun r s h hi hs => ?stageQueueDscpMap, fun r s h hs => ?stageQueue, fun r s h hs => ?stageGateList,
    fun r s h hi hs => ?stagePlane, fun r s h hs => ?stageStem, fun r s h hs => ?stageRendition, fun r s h hs => ?stageRenditionRate,
    fun r s h hs => ?stageDelivery, fun r s h hs => ?stageDecodeCtx, fun r s h hs => ?stageHead, fun r s h hs => ?stageHeadDomain,
    fun r s h hs => ?stageVideoLayer, fun r s h hs => ?stageGraphicLayer, fun r s h hs => ?stageLayerMatrix,
    fun r s h hs => ?stageMeterFirst⟩
  case stageFlow => exact serve_stages h rfl (by simp only [specStageFlow, stageSpec, Request.callIn_r, Request.callIn_block]) hs
  case stageQueueDscpMap => exact serve_stages h rfl (stageQueueDscpMap_body hi) hs
  case stageQueue => exact serve_stages h rfl (by simp only [specStageQueue, stageSpec, Request.callIn_r, Request.callIn_block]) hs
  case stageGateList => exact serve_stages h rfl (by simp only [specStageGateList, stageSpec, Request.callIn_r, Request.callIn_block]) hs
  case stagePlane => exact serve_stages h rfl (stagePlane_body hi) hs
  case stageStem => exact serve_stages h rfl (by simp only [specStageStem, stageSpec, Request.callIn_r, Request.callIn_block]) hs
  case stageRendition => exact serve_stages h rfl (by simp only [specStageRendition, stageSpec, Request.callIn_r, Request.callIn_block]) hs
  case stageRenditionRate => exact serve_stages h rfl (by simp only [specStageRenditionRate, stageSpec, Request.callIn_r, Request.callIn_block]) hs
  case stageDelivery => exact serve_stages h rfl (by simp only [specStageDelivery, stageSpec, Request.callIn_r, Request.callIn_block]) hs
  case stageDecodeCtx => exact serve_stages h rfl (by simp only [specStageDecodeCtx, stageSpec, Request.callIn_r, Request.callIn_block]) hs
  case stageHead => exact serve_stages h rfl (by simp only [specStageHead, stageSpec, Request.callIn_r, Request.callIn_block]) hs
  case stageHeadDomain => exact serve_stages h rfl (by simp only [specStageHeadDomain, stageSpec, Request.callIn_r, Request.callIn_block]) hs
  case stageVideoLayer => exact serve_stages h rfl (by simp only [specStageVideoLayer, stageSpec, Request.callIn_r, Request.callIn_block]) hs
  case stageGraphicLayer => exact serve_stages h rfl (by simp only [specStageGraphicLayer, stageSpec, Request.callIn_r, Request.callIn_block]) hs
  case stageLayerMatrix => exact serve_stages h rfl (by simp only [specStageLayerMatrix, stageSpec, Request.callIn_r, Request.callIn_block]) hs
  case stageMeterFirst => exact serve_stages h rfl (by simp only [specStageMeterFirst, stageSpec, Request.callIn_r, Request.callIn_block]) hs

end Sys2Proof.Machine
end

section
/-! PROOFS. The rings of the Gate page: doorbells, enable and disable, drain and errors (02 R64, R71 to R78). -/
namespace Sys2Proof.Machine

variable {s : State} {n : Nat} {v : BitVec 32} {own : BitVec 16}

/-! ### Accesses (17 R706) -/

theorem gated_id {f : State → State} (h : f s = s) : s.gated f = s := by
  unfold State.gated
  rw [h]
  exact ite_self s

/-! ### Doorbells (02 R71 to R73) -/

theorem bellReq_rings (hn : n < 4) (he : (s.ring n).enable = true) (hv : v.setWidth 16 ≠ (s.ring n).producer)
    (hd : (v.setWidth 16 - (s.ring n).rplConsumer).toNat ≤ ringDepth n) :
    s.bellReq n v = s.modRing n (fun g =>
      { g with producer := v.setWidth 16, bells := g.bells ++ [((v.setWidth 16 : BitVec 16).toNat, s.nowNs)] }) := by
  unfold State.bellReq
  dsimp only
  rw [if_neg (by simp [he, hn]), if_neg (Nat.not_lt.mpr hd), if_neg hv]

theorem bellReq_off (he : (s.ring n).enable = false) : s.bellReq n v = s := if_pos (by simp [he])

theorem bellReq_overruns (hn : n < 4) (he : (s.ring n).enable = true) (hd : (v.setWidth 16 - (s.ring n).rplConsumer).toNat > ringDepth n) :
    s.bellReq n v = s.ringError n 0 := by
  unfold State.bellReq
  dsimp only
  rw [if_neg (by simp [he, hn]), if_pos hd]

theorem bellRead_reads (he : (s.ring n).enable = true) (hd : (v.setWidth 16 - (s.ring n).rplConsumer).toNat ≤ (own - (s.ring n).rplConsumer).toNat) :
    s.bellRead n own v = s.modRing n (fun g => { g with rplConsumer := v.setWidth 16 }) := by
  unfold State.bellRead
  dsimp only
  rw [if_neg (by simp [he]), if_neg (Nat.not_lt.mpr hd)]

theorem bellRead_off (he : (s.ring n).enable = false) : s.bellRead n own v = s := if_pos (by simp [he])

theorem bellRead_overruns (he : (s.ring n).enable = true) (hd : (v.setWidth 16 - (s.ring n).rplConsumer).toNat > (own - (s.ring n).rplConsumer).toNat) :
    s.bellRead n own v = s.ringError n 0 := by
  unfold State.bellRead
  dsimp only
  rw [if_neg (by simp [he]), if_pos hd]

/-! ### Enable, disable and drain (02 R75, R77) -/

theorem ringOn_starts (he : (s.ring n).enable = false) : s.ringOn n = s.modRing n (fun g =>
    { g with enable := true, active := true, producer := 0, rplConsumer := 0, reqConsumer := 0, rplProducer := 0, bells := [] }) :=
  if_neg (by simp [he])

theorem ringOff_ends (he : (s.ring n).enable = true) : s.ringOff n = s.modRing n (fun g =>
    { g with enable := false, bells := [], producer := if n < 4 then g.reqConsumer else g.producer }) := if_pos he

theorem ringDrained_ends (he : (s.ring n).enable = false) : s.ringDrained n = s.modRing n (fun g => { g with active := false }) :=
  if_neg (by simp [he])

/-- No request is taken from a ring that is not enabled. -/
theorem takes_off (he : (s.ring n).enable = false) : s.takes n = false := by simp [State.takes, State.holdsRequest, he]

/-! ### Errors (02 R76, R78) -/

theorem lmod_of_le {α : Type} {l : List α} {i : Nat} (f : α → α) (h : l.length ≤ i) : lmod l i f = l := by
  unfold lmod
  rw [List.getElem?_eq_none h]

/-- A change of a ring leaves what it does not write, of a ring that exists or not. -/
theorem modRing_reads {β : Type} (g : Ring → β) {f : Ring → Ring} (h : ∀ x, g (f x) = g x) (s : State) (j k : Nat) :
    g ((s.modRing j f).ring k) = g (s.ring k) := by
  by_cases e : k = j
  · subst e
    by_cases hk : k < s.rings.length
    · rw [State.ring_mod_self _ _ _ hk, h]
    · rw [State.ring, State.ring, State.modRing, lmod_of_le f (Nat.not_lt.mp hk)]
  · rw [State.ring_mod_other _ _ _ _ e]

/-- An event moves on the producer index of the event ring, and writes nothing else of a ring. -/
theorem event_ring_reads {β : Type} (g : Ring → β) (k : Nat) (h : k = 4 → ∀ x p, g { x with producer := p, reqConsumer := p } = g x) (s : State) (e : Ev) :
    g ((s.event e).ring k) = g (s.ring k) := by
  unfold State.event
  split
  · change g (State.ring (if s.eventRoom then s.writeEvent e else (s.count cntEventsLost 0 1).stormDrop false) k) = g (s.ring k)
    split
    · unfold State.writeEvent
      dsimp only
      rw [State.interrupt_ring, State.hostWrite_ring]
      by_cases hk : k = 4
      · rw [modRing_reads g (fun x => h hk x _), State.hostWrite_ring]
      · rw [State.ring_mod_other _ _ _ _ hk, State.hostWrite_ring]
    · rw [State.ring, State.stormDrop_rings, State.count_rings]
      rfl
  · rfl

/-- An error of a ring sets its bit, with cause 5 of the interrupt tree, and leaves the indices of a request ring and the consumer index of any. -/
theorem ringError_err (s : State) (bit : Nat) (hn : n < s.rings.length) :
    ((s.ringError n bit).ring n).err = (s.ring n).err ||| BitVec.ofNat 3 (2 ^ bit) := by
  unfold State.ringError
  rw [event_ring_reads Ring.err n (fun _ _ _ => rfl), State.interrupt_ring, State.ring_mod_self _ _ _ hn]

theorem ringError_reads {β : Type} (g : Ring → β) (k : Nat) (h : k = 4 → ∀ x p, g { x with producer := p, reqConsumer := p } = g x)
    (he : ∀ x b, g { x with err := b } = g x) (s : State) (n bit : Nat) : g ((s.ringError n bit).ring k) = g (s.ring k) := by
  unfold State.ringError
  rw [event_ring_reads g k h, State.interrupt_ring, modRing_reads g (fun x => he x _)]

theorem ringError_cause (s : State) (n bit : Nat) : (s.ringError n bit).ints.cause.getLsbD 5 = true :=
  event_keeps_cause (interrupt_sets_cause _ (by decide)) _

/-- A request that cannot be read is answered with INTEGRITY, for a staged verb with its landing list. -/
theorem fetchError_answers (verb : Nat) (r : Request) (staged : Bool) (ht : s.takes n = true) : s.fetchError n verb r staged =
    ((s.takeSlot n).ringError n 1).replyRing n verb r
      (sized r (if staged then { status := stIntegrity, payload := failedList r stIntegrity } else fail stIntegrity 0)) := if_pos ht

theorem writeError_ends (hn : n < 5) (hl : s.hostLink = true) (ha : (s.ring n).active = true) : s.writeError n = (s.ringError n 2).ringOff n :=
  if_pos (by simp [hn, hl, ha])

/-! ### Reserved words (02 R64) -/

theorem writeWord_reserved {o : Nat} (h : o < 0x100 ∨ 0xC140 ≤ o) : s.writeWord o v = s := by
  unfold State.writeWord
  rcases h with h | h
  · exact if_pos h
  · have past (k : Nat) (hk : k ≤ 0xC140) : ¬ o < k := Nat.not_lt.mpr (Nat.le_trans hk h)
    simp [past]

/-! ### The obligations -/

/-- Settles O32, each command by what it makes of its ring. -/
theorem ringCommandsComplete : Obligations.RingCommandsComplete := by
  refine ⟨fun n v s hn hl he hv hd => ?request, fun n v s hn hl he hd => ?reply, fun v s hl he hd => ?event, fun n s hl he => ?enable,
    fun n s hn hl he => ?disable, fun s hl he => ?disableEvents, fun n s he => ?drain, fun n s hn hl ha => ?write,
    fun n verb r s ht hv => ?fetch, fun n verb r s ht hv => ?fetchStaged, fun n s hn hl he => ?enabled, fun n s h4 hn hl he => ?disabled⟩
  case request => exact congrArg Host.Outcome.next ((gated_up hl _).trans (bellReq_rings hn he hv hd))
  case reply => exact congrArg Host.Outcome.next ((gated_up hl _).trans ((if_pos hn).trans (bellRead_reads he hd)))
  case event => exact congrArg Host.Outcome.next ((gated_up hl _).trans (bellRead_reads he hd))
  case enable => exact congrArg Host.Outcome.next ((gated_up hl _).trans (ringOn_starts he))
  case disable => exact congrArg Host.Outcome.next ((gated_up hl _).trans ((ringOff_ends he).trans (by simp only [if_pos hn])))
  case disableEvents => exact congrArg Host.Outcome.next ((gated_up hl _).trans (ringOff_ends he))
  case drain => exact congrArg Host.Outcome.next (ringDrained_ends he)
  case write => exact congrArg Host.Outcome.next (writeError_ends hn hl ha)
  case fetch => exact congrArg Host.Outcome.next ((fetchError_answers verb r _ ht).trans (by rw [hv]; rfl))
  case fetchStaged => exact congrArg Host.Outcome.next ((fetchError_answers verb r _ ht).trans (by rw [hv]; rfl))
  case enabled =>
    refine ⟨_, congrArg Host.Outcome.next ((gated_up hl _).trans (ringOn_starts he)), ?_⟩
    rw [State.ring_mod_self _ _ _ hn]
    exact ⟨rfl, rfl, rfl, rfl, rfl⟩
  case disabled =>
    refine ⟨_, congrArg Host.Outcome.next ((gated_up hl _).trans (ringOff_ends he)), takes_off ?_, ?_⟩ <;> rw [State.ring_mod_self _ _ _ hn]

/-- Settles O33, each access by what it leaves alone. -/
theorem gateAccessesRefused : Obligations.GateAccessesRefused := by
  refine ⟨fun n v s he => ?request, fun n v s he => ?reply, fun v s he => ?event, fun n v s h4 hn hl he hd => ?requestOver,
    fun n v s h4 hn hl he hd => ?replyOver, fun v s hn hl he hd => ?eventOver, fun o s hl => ?write, fun o s hl => ?read,
    fun o v s hl ho => ?unaligned, fun o v s hl ho hr => ?reserved⟩
  case request => exact congrArg Host.Outcome.next (gated_id (bellReq_off he))
  case reply => exact congrArg Host.Outcome.next (gated_id (by simp only [bellRead_off he, ite_self]))
  case event => exact congrArg Host.Outcome.next (gated_id (bellRead_off he))
  case requestOver =>
    exact ⟨_, congrArg Host.Outcome.next ((gated_up hl _).trans (bellReq_overruns h4 he hd)),
      ringError_reads Ring.producer n (fun h => absurd h (Nat.ne_of_lt h4)) (fun _ _ => rfl) s n 0, ringError_err s 0 hn, ringError_cause s n 0⟩
  case replyOver =>
    exact ⟨_, congrArg Host.Outcome.next ((gated_up hl _).trans ((if_pos h4).trans (bellRead_overruns he hd))),
      ringError_reads Ring.rplConsumer n (fun _ _ _ => rfl) (fun _ _ => rfl) s n 0, ringError_err s 0 hn, ringError_cause s n 0⟩
  case eventOver =>
    exact ⟨_, congrArg Host.Outcome.next ((gated_up hl _).trans (bellRead_overruns he hd)),
      ringError_reads Ring.rplConsumer 4 (fun _ _ _ => rfl) (fun _ _ => rfl) s 4 0, ringError_err s 0 hn, ringError_cause s 4 0⟩
  case write => exact congrArg Host.Outcome.next (gated_up hl _)
  case read => exact congrArg Host.Outcome.next (gated_up hl _)
  case unaligned => exact congrArg Host.Outcome.next ((if_neg ho).trans (gated_up hl _))
  case reserved => exact congrArg Host.Outcome.next ((if_pos ho).trans (gated_id (writeWord_reserved hr)))

end Sys2Proof.Machine
end

section
/-! PROOFS. Subscriptions, the lock of the staging slot, and the RESET requests (02 R96, R114, R116, R123). -/
namespace Sys2Proof.Machine

variable {c : Call} {s : State} {x : Sub}

/-! ### Subscriptions (02 R96) -/

/-- The subscription that a block of SUBSCRIBE asks for. -/
def askedSub (b : Bytes) : Sub := { noun := u8 b 0, subcode := u8 b 1, index := u32 b 4 }

/-- A subscription set under a handle, or removed from it. -/
def State.setSub (s : State) (h : Nat) (x : Option Sub) : State :=
  { s with events := { s.events with subs := tset (fun _ => none) s.events.subs h x } }

theorem subscribe_adds {h : Nat} (hx : s.subscriptions.find? (fun e => e.2 == askedSub c.block) = none)
    (hh : (List.range subMax).find? (fun h => (tget (fun _ => none) s.events.subs h).isNone) = some h) :
    specSubscribe.body c s = (okWith (le 2 h ++ le 2 0), s.setSub h (some (askedSub c.block))) := by
  unfold askedSub at hx ⊢
  simp only [specSubscribe, hx, hh]
  rfl

theorem subscribe_names {e : Nat × Sub} (hx : s.subscriptions.find? (fun e => e.2 == askedSub c.block) = some e) :
    specSubscribe.body c s = (okWith (le 2 e.1 ++ le 2 0), s) := by
  unfold askedSub at hx
  simp only [specSubscribe, hx]

theorem unsubscribe_every (hi : c.r.index = everyUnit) :
    specUnsubscribe.body c s = (okWith [], { s with events := { s.events with subs := [] } }) := if_pos hi

theorem unsubscribe_removes (hi : c.r.index ≠ everyUnit) (hx : tget (fun _ => none) s.events.subs c.r.index = some x) :
    specUnsubscribe.body c s = (okWith [], s.setSub c.r.index none) := by
  unfold specUnsubscribe
  dsimp only
  rw [if_neg hi, if_neg (by rw [hx]; exact Bool.false_ne_true)]
  rfl

/-! ### The lock of the staging slot (02 R114, R116) -/

theorem lockImage_locks (ho : c.owner ≠ 0) (hl : s.image.lock = 0 ∨ s.image.lock = c.owner ∨ c.owner = 0xFF) :
    specLockImage.body c s = (okWith [], { s with image := { s.image with lock := c.owner } }) := by
  unfold specLockImage
  dsimp only
  rw [if_neg ho, if_neg]
  rcases hl with h | h | h <;> simp [h]

/-! ### RESET (02 R123) -/

theorem resetLane_starts (hk : c.r.index < 256) (ho : s.laneOn c.r.index = true) :
    specResetLane.body c s = (okWith [], s.startLane c.r.index) := by
  unfold specResetLane
  dsimp only
  rw [if_pos (by simp [hk, ho])]
  rfl

theorem resetLane_idle (h : 256 ≤ c.r.index ∨ s.laneOn c.r.index = false) : specResetLane.body c s = (okWith [], s) := by
  unfold specResetLane
  dsimp only
  rw [if_neg]
  · rfl
  · rcases h with h | h <;> simp [h]

theorem startLane_detects (s : State) (k : Nat) : ((s.startLane k).lane k).state = .detect := by
  rw [State.startLane, State.lane_mod_self]

/-- A port without its link, which drops as for a fault of a lane if it is up. -/
def State.unlinked (s : State) (p : Nat) : State := if s.linkOn p then s.dropLink p 0 else s

theorem unlinked_up {p : Nat} (h : s.linkOn p = true) : s.unlinked p = s.dropLink p 0 := if_pos h

theorem unlinked_down {p : Nat} (h : s.linkOn p = false) : s.unlinked p = s := if_neg (by simp [h])

theorem resetEthPort_starts (he : (s.port c.r.index).cfg.enable = 1) (hs : s.inService = true) :
    specResetEthPort.body c s = (okWith [], (s.unlinked c.r.index).startPort c.r.index) :=
  congrArg (Prod.mk _) (if_pos (by simp [he, hs]))

theorem resetEthPort_rests (h : (s.port c.r.index).cfg.enable ≠ 1 ∨ s.inService = false) :
    specResetEthPort.body c s = (okWith [], s.unlinked c.r.index) :=
  congrArg (Prod.mk _) (if_neg (by rcases h with h | h <;> simp [h]))

theorem resetGauge_loads (hf : (s.gauge c.r.index).fed = false) :
    specResetGauge.body c s = (okWith [], s.modGauge c.r.index (fun g => { g with value := BitVec.ofNat 32 g.poly.init })) :=
  if_neg (by simp [hf])

/-- Settles O30, each request by the equation of its body. -/
theorem sessionAndResetRequestsComplete : Obligations.SessionAndResetRequestsComplete := by
  refine ⟨fun r s h x ha hx hn hh hk => ?subscribe, fun r s x e ha hx he hk => ?subscribed, fun r s ha hi => ?unsubscribeAll,
    fun r s x ha hi hx => ?unsubscribe, fun r s ha ho hl => ?lock, fun r s ha => ?unlock, fun r s ha hk ho => ?lane, fun r s ha h => ?laneIdle,
    fun r s ha he hs hl => ?portUp, fun r s ha he hs hl => ?portStart, fun r s ha h hl => ?portDrop, fun r s ha h hl => ?portIdle,
    fun r s ha => ?ctx, fun r s ha hf => ?gauge⟩
  case subscribe =>
    subst hx
    exact congrArg Host.Outcome.next (serve_gives ha rfl (subscribe_adds hn hh) hk)
  case subscribed =>
    subst hx
    exact congrArg Host.Outcome.next (serve_gives ha rfl (subscribe_names he) hk)
  case unsubscribeAll => exact congrArg Host.Outcome.next (serve_gives ha rfl (unsubscribe_every hi) (Nat.zero_le _))
  case unsubscribe => exact congrArg Host.Outcome.next (serve_gives ha rfl (unsubscribe_removes hi hx) (Nat.zero_le _))
  case lock => exact congrArg Host.Outcome.next (serve_gives ha rfl (lockImage_locks ho hl) (Nat.zero_le _))
  case unlock => exact congrArg Host.Outcome.next (serve_gives ha rfl rfl (Nat.zero_le _))
  case lane => exact ⟨congrArg Host.Outcome.next (serve_gives ha rfl (resetLane_starts hk ho) (Nat.zero_le _)), startLane_detects _ _⟩
  case laneIdle => exact congrArg Host.Outcome.next (serve_gives ha rfl (resetLane_idle h) (Nat.zero_le _))
  case portUp =>
    rw [← unlinked_up hl]
    exact congrArg Host.Outcome.next (serve_gives ha rfl (resetEthPort_starts he hs) (Nat.zero_le _))
  case portStart =>
    refine congrArg Host.Outcome.next (serve_gives ha rfl ((resetEthPort_starts he hs).trans ?_) (Nat.zero_le _))
    rw [Request.callIn_r, unlinked_down hl]
  case portDrop =>
    rw [← unlinked_up hl]
    exact congrArg Host.Outcome.next (serve_gives ha rfl (resetEthPort_rests h) (Nat.zero_le _))
  case portIdle =>
    refine congrArg Host.Outcome.next (serve_gives ha rfl ((resetEthPort_rests h).trans ?_) (Nat.zero_le _))
    rw [Request.callIn_r, unlinked_down hl]
  case ctx => exact congrArg Host.Outcome.next (serve_gives ha rfl rfl (Nat.zero_le _))
  case gauge => exact ⟨_, congrArg Host.Outcome.next (serve_gives ha rfl (resetGauge_loads hf) (Nat.zero_le _)), rfl⟩

end Sys2Proof.Machine
end

section
/-! PROOFS. What every entry to Boot resets and keeps (01 R27; 02 R65, R102, R116). -/
namespace Sys2Proof.Machine

/-! ### The entry before the reset -/

/-- The parts that the report of a mode may write, with the loop put to sleep. -/
def slept : Field → Bool
  | .mode | .hg | .alarms => true
  | _ => false

theorem arriveSlept_except (s : State) (m : Mode) : (s.hgSleep.arrive m).except slept = s.except slept :=
  (State.arrive_except slept rfl _ m).trans (hgSleep_except slept rfl rfl s)

theorem arriveSlept_domains (s : State) (m : Mode) : (s.hgSleep.arrive m).domains = s.domains := by
  simpa [State.except, slept] using congrArg State.domains (arriveSlept_except s m)

theorem arriveSlept_saved (s : State) (m : Mode) : (s.hgSleep.arrive m).saved = s.saved := by
  simpa [State.except, slept] using congrArg State.saved (arriveSlept_except s m)

/-! ### The reset -/

theorem enterBoot_clears (s : State) (cause : Nat) : (s.enterBoot cause).openSets = [] ∧ (s.enterBoot cause).parts = [] ∧
    (s.enterBoot cause).rings = State.reset.rings ∧ (s.enterBoot cause).culverts = State.reset.culverts ∧ (s.enterBoot cause).dsts = [] ∧
    (s.enterBoot cause).srcs = [] ∧ (s.enterBoot cause).counters = [] ∧ (s.enterBoot cause).alarms = [] ∧
    (s.enterBoot cause).fused.fwVersion = State.reset.fused.fwVersion ∧ (s.enterBoot cause).fused.protocol = State.reset.fused.protocol := by
  unfold State.enterBoot
  generalize s.hgSleep.arrive .boot = u
  exact ⟨rfl, rfl, rfl, rfl, rfl, rfl, rfl, rfl, rfl, rfl⟩

theorem enterBoot_saved (s : State) (cause : Nat) : (s.enterBoot cause).saved = s.saved := by
  rw [← arriveSlept_saved s .boot]
  unfold State.enterBoot
  generalize s.hgSleep.arrive .boot = u
  rfl

/-- A domain as an entry to Boot leaves it: a video domain keeps its frame index and what a read has latched of it. -/
def DomainSt.booted (x : DomainSt) (d : Nat) : DomainSt :=
  if d = 0 then { x with shadowBad := false, rebuilt := false, armed := false, decided := false, snap := none }
  else { DomainSt.reset with frame := x.frame, hiLatch := x.hiLatch }

theorem enterBoot_domains (s : State) (cause : Nat) : (s.enterBoot cause).domains = s.domains.mapIdx (fun d x => x.booted d) := by
  rw [← arriveSlept_domains s .boot]
  unfold State.enterBoot
  generalize s.hgSleep.arrive .boot = u
  rfl

theorem enterBoot_domain {s : State} {d : Nat} (hd : d < s.domains.length) (cause : Nat) : (s.enterBoot cause).domain d = (s.domain d).booted d := by
  simp [State.domain, enterBoot_domains, List.getD_eq_getElem?_getD, List.getElem?_eq_getElem hd]

theorem booted_video {d : Nat} (hd : 1 ≤ d) (x : DomainSt) : x.booted d = { DomainSt.reset with frame := x.frame, hiLatch := x.hiLatch } :=
  if_neg (Nat.ne_of_gt hd)

/-- Settles O37, by the parts of an entry to Boot. -/
theorem bootResetsTheFastDomains : Obligations.BootResetsTheFastDomains := by
  intro s cause
  obtain ⟨openSets, parts, rings, culverts, dsts, srcs, counters, alarms, version, protocol⟩ := enterBoot_clears s cause
  refine ⟨openSets, parts, rings, culverts, dsts, srcs, counters, alarms, version, protocol, (enterBoot_kept s cause).identity,
    enterBoot_saved s cause, (enterBoot_stored s cause).dram, enterBoot_cause s cause, fun d h1 hd => ?_⟩
  rw [enterBoot_domain hd, booted_video h1]
  exact ⟨rfl, rfl⟩

end Sys2Proof.Machine
end

section
/-! PROOFS. The interrupt tree, the registers that the host writes, the reads that latch, and the resets of the host link (01 R58; 02 R65,
R125, R126; 15 R644; 17 R707). -/
namespace Sys2Proof.Machine

variable {s : State} {v : Nat}

/-! ### Messages (02 R126) -/

theorem message_enable (s : State) (v : Nat) : (s.message v).ints.enable = s.ints.enable := by
  unfold State.message
  dsimp only
  repeat' split
  all_goals rfl

theorem message_masked (h : (s.ints.msix.getD v MsixEntry.reset).mask = true) :
    s.message v = { s with ints := { s.ints with pba := s.ints.pba ||| BitVec.ofNat 64 (2 ^ v) } } := if_pos h

/-- A vector that is not masked sends its message when its hold-off time has passed. -/
theorem message_sends (h : (s.ints.msix.getD v MsixEntry.reset).mask = false)
    (ht : tget (fun _ => 0) s.ints.lastSent v + s.ints.holdoff.toNat * 1000 ≤ s.nowNs + 1) : s.message v =
      { s with ints := { s.ints with lastSent := tset (fun _ => 0) s.ints.lastSent v (s.nowNs + 1) },
               out := .msix v (s.ints.msix.getD v MsixEntry.reset).addr.toNat (s.ints.msix.getD v MsixEntry.reset).data.toNat :: s.out } := by
  unfold State.message
  dsimp only
  rw [if_neg (by rw [h]; exact Bool.false_ne_true), if_neg (fun k => Nat.not_lt.mpr ht k.2)]

theorem intEnable_takes (s : State) (x : BitVec 32) : (s.intEnable x).ints.enable = x ∧ (s.intEnable x).ints.cause = s.ints.cause :=
  ⟨each_reads (fun t => t.ints.enable) _ _ _ message_enable, each_reads (fun t => t.ints.cause) _ _ _ message_cause⟩

/-- Device time is at an instant that it has been brought to, or past it. -/
theorem le_nowNs_advanceTo (s : State) (ns : Nat) : ns ≤ (s.advanceTo ns).nowNs := by
  change ns ≤ (if s.nowNs < ns then ns * 4294967296 else s.time) / 4294967296
  split
  · rw [Nat.mul_div_cancel _ (by decide)]
  · exact Nat.not_lt.mp ‹_›

/-- A held-off vector at the end of its hold-off time, before its message. -/
def State.heldEnds (s : State) (v : Nat) : State :=
  let t := s.advanceTo (tget (fun _ => 0) s.ints.lastSent v + s.ints.holdoff.toNat * 1000 - 1)
  { t with ints := { t.ints with heldOff := t.ints.heldOff &&& ~~~ BitVec.ofNat 64 (2 ^ v) } }

theorem holdoffExpiry_ends (hv : v < 64) (hh : s.ints.heldOff.getLsbD v = true) : s.holdoffExpiry v = (s.heldEnds v).message v :=
  if_neg (by simp [hv, hh])

theorem heldEnds_late (s : State) (v : Nat) :
    tget (fun _ => 0) (s.heldEnds v).ints.lastSent v + (s.heldEnds v).ints.holdoff.toNat * 1000 ≤ (s.heldEnds v).nowNs + 1 := by
  have late := le_nowNs_advanceTo s (tget (fun _ => 0) s.ints.lastSent v + s.ints.holdoff.toNat * 1000 - 1)
  show tget (fun _ => 0) s.ints.lastSent v + s.ints.holdoff.toNat * 1000 ≤
    (s.advanceTo (tget (fun _ => 0) s.ints.lastSent v + s.ints.holdoff.toNat * 1000 - 1)).nowNs + 1
  omega

theorem vectorBit_self (hv : v < 64) : (BitVec.ofNat 64 (2 ^ v)).getLsbD v = true := by
  rw [BitVec.getLsbD_ofNat, Nat.testBit_two_pow_self, Bool.and_true, decide_eq_true hv]

theorem heldEnds_bit (s : State) (hv : v < 64) : (s.heldEnds v).ints.heldOff.getLsbD v = false := by
  change (s.ints.heldOff &&& ~~~ BitVec.ofNat 64 (2 ^ v)).getLsbD v = false
  rw [BitVec.getLsbD_and, BitVec.getLsbD_not, vectorBit_self hv, Bool.not_true, Bool.and_false, Bool.and_false]

/-! ### Words that the host writes (00 R11; 02 R125; 15 R644) -/

theorem registerWrite_aligned {o : Nat} (hl : s.hostLink = true) (ho : o % 4 = 0) (x : BitVec 32) : s.registerWrite o x = s.writeWord o x :=
  (if_pos ho).trans (gated_up hl _)

theorem writeWord_ints {o : Nat} (h : 0x1000 ≤ o ∧ o < 0x2000) (x : BitVec 32) : s.writeWord o x = s.writeInts o x := by
  unfold State.writeWord
  rw [if_neg (by omega), if_neg (by omega), if_neg (by omega), if_pos h.2]

theorem writeInts_vector {n : Nat} (hn : n < 32) (x : BitVec 32) : s.writeInts (0x1040 + 4 * n) x =
    { s with ints := { s.ints with vectors := lmod s.ints.vectors n (fun _ => x.setWidth 6) } } := by
  unfold State.writeInts
  rw [if_neg (by omega), if_neg (by omega), if_neg (by omega), if_pos (by omega), show (0x1040 + 4 * n - 0x1040) / 4 = n by omega]

/-- The cause of a shutdown record stands while one waits for its acknowledgement. -/
theorem standing_cause (s : State) (x : BitVec 32) : w1c s.ints.cause x ||| (s.ints.cause &&& s.standing 23 32) =
    (s.ints.cause &&& ~~~ x) ||| (if s.unacked = 0 then 0 else s.ints.cause &&& 0x800000#32) := by
  unfold w1c State.standing
  rw [BitVec.setWidth_eq]
  split
  · exact congrArg (s.ints.cause &&& ~~~ x ||| ·) BitVec.and_zero
  · rfl

/-! ### Reads that latch (01 R58) -/

theorem latchFrame_domain {d : Nat} (hd : d ≤ 8) : s.latchFrame (0x140 + 8 * d) =
    s.modDomain d (fun x => { x with hiLatch := (x.frame >>> 32).setWidth 32 }) := by
  unfold State.latchFrame
  rw [if_pos (by simp; omega), show (0x140 + 8 * d - 0x140) / 8 = d by omega]

theorem frameLoRead_latches {d : Nat} (hl : s.hostLink = true) (hd : d ≤ 8) : s.frameLoRead d =
    (s.modDomain d (fun x => { x with hiLatch := (x.frame >>> 32).setWidth 32 })).emit
      (.regRead (0x140 + 8 * d) ((s.domain d).frame.toNat % 4294967296)) := by
  rw [State.frameLoRead, gated_up hl, if_neg (by omega), latchFrame_domain hd]

/-! ### Resets of the host link (02 R65; 17 R707) -/

/-- What a reset of the host link clears, but for the interrupt tree. -/
def State.hostRegs (s : State) : List Ring × Tab (List Setting) × Tab (Option Sub) := (s.rings, s.openSets, s.events.subs)

theorem dramWrite_hostRegs (s : State) (a : Nat) (b : Bytes) : (s.dramWrite a b).hostRegs = s.hostRegs := by
  induction b generalizing s a with
  | nil => rfl
  | cons x b ih => exact ih _ _

theorem memWrite_hostRegs (s : State) (a : Nat) (b : Bytes) : (s.memWrite a b).hostRegs = s.hostRegs := by
  unfold State.memWrite
  refine (each_reads State.hostRegs _ _ _ ?_).trans (Eq.trans ?_ (dramWrite_hostRegs s a b))
  · exact fun _ _ => rfl
  · unfold State.pageTouch
    split
    · rfl
    · exact each_reads State.hostRegs _ _ _ (fun _ _ => rfl)

theorem gaugeTake_hostRegs (s : State) (u : Nat) (b : Bytes) : (s.gaugeTake u b).hostRegs = s.hostRegs := by
  unfold State.gaugeTake
  repeat' split
  all_goals rfl

theorem hostWrite_hostRegs (s : State) (a : Nat) (b : Bytes) : (s.hostWrite a b).hostRegs = s.hostRegs := by
  unfold State.hostWrite
  split <;> rfl

theorem culvertPart_hostRegs (s : State) (x : Shadow) (done : Nat) : (s.culvertPart x done).hostRegs = s.hostRegs := by
  unfold State.culvertPart
  dsimp only
  rw [when_reads State.hostRegs _ _ _ (fun t => gaugeTake_hostRegs t _ _)]
  split
  · exact hostWrite_hostRegs _ _ _
  · exact memWrite_hostRegs _ _ _

theorem culvertHalt_hostRegs (s : State) (c : Nat) : (s.culvertHalt c).hostRegs = s.hostRegs := by
  unfold State.culvertHalt
  split
  · refine (when_reads State.hostRegs _ _ _ ?_).trans (culvertPart_hostRegs _ _ _)
    exact fun _ => rfl
  · rfl

theorem culvertReset_hostRegs (s : State) : s.culvertReset.hostRegs = s.hostRegs := by
  have halted := each_reads State.hostRegs s (List.range 8) State.culvertHalt culvertHalt_hostRegs
  unfold State.culvertReset
  generalize s.each (List.range 8) State.culvertHalt = u at halted ⊢
  exact halted

theorem culvertReset_culverts (s : State) : s.culvertReset.culverts = List.replicate 8 CulvertSt.reset := by
  unfold State.culvertReset
  generalize s.each (List.range 8) State.culvertHalt = u
  rfl

/-- A job that a reset of the host link ends writes nothing to the host, and leaves the rings and the Culvert channels alone. -/
theorem jobEnd_quiet {β : Type} (g : State → β) (hr : ∀ t n f, g (State.modRider t n f) = g t) (hc : ∀ t n f, g (State.modCore t n f) = g t)
    (hf : ∀ t n f, g (State.modHostFlow t n f) = g t) (hj : ∀ t n f, g (State.modJob t n f) = g t) (s : State) (h cause status : Nat) :
    g (s.jobEnd h cause status true) = g s := by
  unfold State.jobEnd
  dsimp only
  rw [Bool.not_true, Bool.and_false, if_neg Bool.false_ne_true, State.when, if_neg Bool.false_ne_true, hj]
  have released : g ((s.modRider (s.job h).reach (fun r => { r with clause := r.clause.filter (fun it => it.live || it.unit != h) })).each
      (s.consumers (s.job h).reach 0) (fun t k => if (t.core k).busy.any (fun it => !it.live && it.unit == h)
        then t.modCore k (fun c => { c with busy := none, stopAt := none }) else t)) = g s := by
    refine (each_reads g _ _ _ (fun t k => ?_)).trans (hr _ _ _)
    split
    · exact hc _ _ _
    · rfl
  split
  · exact released
  · exact (hf _ _ _).trans released

/-- What a reset of the host link leaves of the registers that it clears, and of the Culvert channels. -/
theorem pcieReset_clears (hm : s.mode.current.fast = true) :
    s.pcieReset.hostRegs = s.hostCleared.hostRegs ∧ s.pcieReset.culverts = List.replicate 8 CulvertSt.reset := by
  unfold State.pcieReset
  rw [if_neg (by simp [hm])]
  constructor
  · refine (each_reads State.hostRegs _ _ _ ?_).trans ((each_reads State.hostRegs _ _ _ ?_).trans (culvertReset_hostRegs _))
    · exact fun t h => jobEnd_quiet State.hostRegs (fun _ _ _ => rfl) (fun _ _ _ => rfl) (fun _ _ _ => rfl) (fun _ _ _ => rfl) t h _ _
    · exact fun _ _ => rfl
  · refine (each_reads State.culverts _ _ _ ?_).trans ((each_reads State.culverts _ _ _ ?_).trans (culvertReset_culverts _))
    · exact fun t h => jobEnd_quiet State.culverts (fun _ _ _ => rfl) (fun _ _ _ => rfl) (fun _ _ _ => rfl) (fun _ _ _ => rfl) t h _ _
    · exact fun _ _ => rfl

theorem hostCleared_ring {n : Nat} (hn : n < s.rings.length) :
    (s.hostCleared.ring n).enable = false ∧ (s.hostCleared.ring n).active = false := by
  simp [State.hostCleared, State.ring, List.getD_eq_getElem?_getD, hn]

theorem pcieReset_resets (hm : s.mode.current.fast = true) : s.pcieReset.openSets = [] ∧
    s.pcieReset.culverts = List.replicate 8 CulvertSt.reset ∧
    (∀ n, n < s.rings.length → (s.pcieReset.ring n).enable = false ∧ (s.pcieReset.ring n).active = false) ∧ s.pcieReset.events.subs = [] := by
  obtain ⟨regs, culverts⟩ := pcieReset_clears hm
  obtain ⟨rings, openSets, subs⟩ := Prod.ext_iff.mp regs |>.imp id Prod.ext_iff.mp
  refine ⟨openSets, culverts, fun n hn => ?_, subs⟩
  have same : s.pcieReset.ring n = s.hostCleared.ring n := congrArg (fun l : List Ring => l.getD n Ring.reset) rings
  rw [same]
  exact hostCleared_ring hn

/-- Settles O34, each access by the register that it writes, reads or resets. -/
theorem hostInterfaceCommandsComplete : Obligations.HostInterfaceCommandsComplete := by
  refine ⟨fun x s hl => ?enable, fun v s hv hh hm => ?sent, fun v s hv hh hm => ?held, fun x s hl => ?cause, fun x s hl => ?holdoff,
    fun x s n hl hn hlen => ?vector, fun d s hl hd hlen => ?latch, fun c s hc hm => ?reset⟩
  case enable =>
    obtain ⟨enable, cause⟩ := intEnable_takes s x
    exact ⟨_, congrArg Host.Outcome.next (gated_up hl _), enable, cause⟩
  case sent =>
    refine ⟨_, congrArg Host.Outcome.next ((holdoffExpiry_ends hv hh).trans (message_sends hm (heldEnds_late s v))), heldEnds_bit s hv, rfl, rfl⟩
  case held =>
    refine ⟨_, congrArg Host.Outcome.next ((holdoffExpiry_ends hv hh).trans (message_masked hm)), heldEnds_bit s hv, ?_, rfl⟩
    exact (BitVec.getLsbD_or ..).trans (by rw [vectorBit_self hv, Bool.or_true])
  case cause =>
    exact ⟨_, congrArg Host.Outcome.next ((registerWrite_aligned hl rfl x).trans (writeWord_ints (by decide) x)), standing_cause s x⟩
  case holdoff => exact ⟨_, congrArg Host.Outcome.next ((registerWrite_aligned hl rfl x).trans (writeWord_ints (by decide) x)), rfl⟩
  case vector =>
    refine ⟨_, congrArg Host.Outcome.next ((registerWrite_aligned hl (by omega) x).trans ((writeWord_ints (by omega) x).trans (writeInts_vector hn x))), ?_⟩
    rw [lmod_self, List.getElem?_eq_getElem hlen]
    rfl
  case latch =>
    refine ⟨_, congrArg Host.Outcome.next (frameLoRead_latches hl hd), ?_⟩
    rw [State.emit_domain, State.domain_mod_self _ _ _ hlen]
    exact ⟨rfl, rfl, rfl⟩
  case reset =>
    rcases hc with rfl | rfl
    · exact ⟨_, rfl, pcieReset_resets hm⟩
    · exact ⟨_, rfl, pcieReset_resets hm⟩

end Sys2Proof.Machine
end

section
/-! PROOFS. QUERY and READ change nothing (02 R97). -/
namespace Sys2Proof.Machine

variable {i : Instr} {q : ReqSpec} {r : Request} {s : State} {o p : Answer × State} {b : Prop} [Decidable b]

/-! ### A request that asks (02 R97) -/

/-- What a request gives is an answer alone: the state is as it was. -/
def AnswerOnly (s : State) (o : Answer × State) : Prop := o.2 = s

theorem AnswerOnly.answer (a : Answer) : AnswerOnly s (a, s) := rfl

theorem AnswerOnly.ite (h : AnswerOnly s o) (k : AnswerOnly s p) : AnswerOnly s (if b then o else p) := by
  split
  · exact h
  · exact k

theorem specQueryImage_answerOnly (c : Call) (s : State) : AnswerOnly s (specQueryImage.body c s) :=
  .ite (.ite (.answer _) (.answer _)) (.ite (.answer _) (.ite (.answer _) (.answer _)))

/-- QUERY and READ answer only, but for READ on Queue with selector 0x10 and QUERY on Reach with selector 0x10. -/
theorem query_answerOnly (h : requestOf i = some (q, r)) (hv : q.verb = 0x01 ∨ q.verb = 0x13) (hq : ∀ r', i ≠ .readQueueSamples r')
    (hb : ∀ r', i ≠ .queryReachBandwidth r') (c : Call) (s : State) : AnswerOnly s (q.body c s) := by
  cases i with
  | queryDst r | querySrc r | querySrcAlignment r | queryDstProbe r | queryAudioIn r | queryAudioOut r | queryStem r | queryJob r
  | readCounter r | readLaneEyeScan r =>
    cases h
    exact .ite (.answer _) (.answer _)
  | readJobTrace r | queryDstCapture r =>
    cases h
    exact .ite (.answer _) (.ite (.answer _) (.answer _))
  | queryImage r =>
    cases h
    exact specQueryImage_answerOnly c s
  | readQueueSamples r => exact absurd rfl (hq r)
  | queryReachBandwidth r => exact absurd rfl (hb r)
  | queryStemCapacity r | queryRendition r | queryRenditionRate r | queryLane r | queryEthPort r | queryFlow r | queryQueue r
  | queryGateList r | queryDelivery r | queryJobReaches r | queryPlane r | queryRefInput r | queryTimebase r | queryTrigger r
  | readCalset r | queryHead r | queryLayer r | queryDecodeCtx r | queryGauge r | queryMode r | readThermalRecords r | queryThermal r
  | queryDevice r | queryReach r | queryDomain r | querySubscriptions r | queryEvent r | readCounterCatalogue r =>
    cases h
    exact .answer _
  | _ =>
    cases h <;> rcases hv with hv | hv <;> cases hv

/-! ### Serving a request, for what neither reports nor replies touch -/

/-- Under the checks and the replies, a request either leaves the state as it was or has the effect of its body. -/
theorem serve_silent_or (q : ReqSpec) (r : Request) (s : State) :
    (serve q r s).silent = s.silent ∨ (admitted q (r.callIn s) (s.taking r) = none ∧
      (listed q r (q.body (r.callIn s) (s.taking r)).1).payload.length ≤ replyRoom r ∧
      (serve q r s).silent = (q.body (r.callIn s) (s.taking r)).2.silent) := by
  by_cases k : r.arrives s
  · cases ha : admitted q (r.callIn s) (s.taking r) with
    | some a => exact .inl (by rw [serve_refused k ha]; simp)
    | none =>
      rw [serve_arrives k]
      unfold respond
      rw [ha]
      dsimp only
      split
      · exact .inl (by simp)
      · rename_i fits
        split
        · exact .inl (by simp)
        · exact .inr ⟨rfl, Nat.not_lt.mp fits, by simp⟩
  · simp only [Request.arrives, Classical.not_forall] at k
    obtain ⟨n, hn, hk⟩ := k
    exact .inl (by rw [serve_waits hn (by simpa using hk)])

theorem specQueryReachBandwidth_free (c : Call) (s : State) :
    { (specQueryReachBandwidth.body c s).2.silent with freeCtr := 0 } = { s.silent with freeCtr := 0 } := rfl

/-- Settles O17: QUERY and READ answer only, and QUERY on Reach with selector 0x10 takes free values. -/
theorem queriesChangeNothing : Obligations.QueriesChangeNothing := by
  intro i q r s t hi hv hq h
  rw [(exec_request hi).1] at h
  cases h
  have taking : (s.taking r).silent = s.silent := State.taking_silent s r
  rcases serve_silent_or q r s with e | ⟨-, -, e⟩
  · rw [e]
  · by_cases hb : ∃ r', i = .queryReachBandwidth r'
    · obtain ⟨r', rfl⟩ := hb
      cases hi
      rw [e, specQueryReachBandwidth_free, taking]
    · rw [e, query_answerOnly hi hv hq (fun r' h => hb ⟨r', h⟩), taking]

end Sys2Proof.Machine
end


section
/-! PROOFS. A request that fails without ACCEPTED applies nothing (02 R91). -/
namespace Sys2Proof.Machine

variable {i : Instr} {q : ReqSpec} {r : Request} {c : Call} {s : State} {a : Answer} {o p : Answer × State} {b : Prop} [Decidable b]
  {noun off : Nat} {items : List (Nat × Setting)} {xs : List Setting} {report : Judged → Answer → Answer} {verb limit : Nat}
  {x : Nat → Nat → Setting}

/-! ### All or nothing -/

/-- What a request gives of `s` is all or nothing: an answer that fails without ACCEPTED leaves `s` as it was. -/
def AllOrNone (s : State) (o : Answer × State) : Prop := o.1.status ≥ 0x0100 → o.1.accepted = false → o.2 = s

theorem AnswerOnly.allOrNone (h : AnswerOnly s o) : AllOrNone s o := fun _ _ => h

theorem AllOrNone.answer (a : Answer) : AllOrNone s (a, s) := fun _ _ => rfl

/-- An answer that does not fail may come with any state. -/
theorem AllOrNone.goes (t : State) (h : a.status < 0x100) : AllOrNone s (a, t) := fun k _ => absurd h (Nat.not_lt.mpr k)

theorem AllOrNone.okWith (b : Bytes) (t : State) : AllOrNone s (okWith b, t) := .goes t (Nat.zero_lt_succ _)

theorem AllOrNone.empty (t : State) : AllOrNone s ({}, t) := .goes t (Nat.zero_lt_succ _)

theorem AllOrNone.ite (h : AllOrNone s o) (k : AllOrNone s p) : AllOrNone s (if b then o else p) := by
  split
  · exact h
  · exact k

/-! ### The staged verbs (02 R101 to R113; 13 R567) -/

theorem State.fits_failure {j : Judged} (h : (s.fits noun items j).failure = none) : s.fits noun items j = j := by
  have some_ne (l : List Answer) : firstFailure (l ++ [fail stCapacity 0]) ≠ none := fun k => by simpa using eq_nil_of_firstFailure k
  unfold State.fits at h
  split at h
  · exact absurd h (some_ne _)
  · rename_i hn
    exact if_neg hn

/-- A set without a failure is answered as scheduled, whatever the noun. -/
theorem setAnswer_status (hf : (s.judgeSet c noun off items).failure = none) : (s.setAnswer c noun off items).status < 0x100 := by
  have e : s.judgeSet c noun off items = s.judge c.owner c.arrival c.r.target (headerDomain c.r (s.place (keepLater items)))
      (if items.isEmpty then 0x0009 else off) [] items := State.fits_failure hf
  rw [e] at hf
  unfold State.setAnswer
  rw [e]
  refine foldl_max_lt (by decide) (fun n hn => ?_)
  obtain ⟨x, hx, rfl⟩ := List.mem_map.mp hn
  exact judge_landings hf x hx

/-- A set with a failure changes nothing. -/
theorem commitSet_refuses (hf : (s.judgeSet c noun off items).failure = some a) : (s.commitSet c noun off items report).2 = s := by
  unfold State.commitSet
  rw [hf]

/-- A set that is committed, and reported on as it went, is committed as a whole or not at all. -/
theorem commitSet_allOrNone (hr : ∀ j a, a.status < 0x100 → (report j a).status < 0x100) :
    AllOrNone s (s.commitSet c noun off items report) := by
  cases hf : (s.judgeSet c noun off items).failure with
  | none =>
    rw [commitSet_validates hf]
    exact .goes _ (hr _ _ (setAnswer_status hf))
  | some a => exact fun _ _ => commitSet_refuses hf

theorem lockSpec_allOrNone (c : Call) (s : State) : AllOrNone s ((lockSpec verb noun off limit x).body c s) :=
  .ite (.answer _) (commitSet_allOrNone fun _ _ h => h)

theorem specTake_allOrNone (c : Call) (s : State) : AllOrNone s (specTake.body c s) :=
  .ite (.answer _) (commitSet_allOrNone fun _ _ h => h)

theorem specSalvo_allOrNone (c : Call) (s : State) : AllOrNone s (specSalvo.body c s) :=
  .ite (.answer _) (commitSet_allOrNone fun _ _ h => h)

theorem specTakeAudioOut_allOrNone (c : Call) (s : State) : AllOrNone s (specTakeAudioOut.body c s) :=
  commitSet_allOrNone fun _ _ h => h

/-- COMMIT leaves the open set where it fails without ACCEPTED. -/
theorem specCommit_allOrNone (c : Call) (s : State) : AllOrNone s (specCommit.body c s) := by
  intro hs ha
  have kept : ¬ ((specCommit.body c s).1.status < 0x100 ∨ (specCommit.body c s).1.accepted = true) := by
    rintro (h | h)
    · exact Nat.not_lt.mpr hs h
    · exact absurd (ha.symm.trans h) Bool.false_ne_true
  cases hf : (s.judgeSet c 0x01 0x0009 (s.openSet c.owner)).failure with
  | none =>
    rw [commit_body hf] at kept
    exact absurd (by simpa using degradedAnswer_goes (setAnswer_status hf)) kept
  | some a =>
    have refused : (s.commitSet c 0x01 0x0009 (s.openSet c.owner) degradedAnswer).2 = s := commitSet_refuses hf
    simp only [specCommit, Bool.or_eq_true, decide_eq_true_eq] at kept ⊢
    rw [if_neg kept, refused]

/-- An answer of `STAGE` either does not fail or is accepted. -/
theorem stageAnswer_goes (j : Judged) (t : State) : AllOrNone s (j.stageAnswer, t) := by
  unfold Judged.stageAnswer
  split
  · exact fun _ h => absurd h (by simp)
  · exact .okWith _ _

theorem stage_allOrNone : AllOrNone s (s.stage c xs) := by
  unfold State.stage
  dsimp only
  split
  · exact .answer _
  · split
    · exact .answer _
    · exact .ite (.answer _) (stageAnswer_goes _ _)

theorem stageSpec_allOrNone {sel : Nat} {len index : Nat → Bool} {form : Bytes → Bool} {parse : Call → List Setting} (c : Call) (s : State) :
    AllOrNone s ((stageSpec noun sel len form index parse).body c s) := stage_allOrNone

theorem specStageDstRoute_allOrNone (c : Call) (s : State) : AllOrNone s (specStageDstRoute.body c s) :=
  .ite (.answer _) stage_allOrNone

theorem specStageQueueDscpMap_allOrNone (c : Call) (s : State) : AllOrNone s (specStageQueueDscpMap.body c s) :=
  .ite (.answer _) stage_allOrNone

theorem specStagePlane_allOrNone (c : Call) (s : State) : AllOrNone s (specStagePlane.body c s) :=
  .ite (.answer _) stage_allOrNone

theorem specStageGateList_allOrNone (c : Call) (s : State) : AllOrNone s (specStageGateList.body c s) := by
  simp only [specStageGateList, stageSpec]
  exact stage_allOrNone

theorem specStageStem_allOrNone (c : Call) (s : State) : AllOrNone s (specStageStem.body c s) := by
  simp only [specStageStem, stageSpec]
  exact stage_allOrNone

theorem specStageRendition_allOrNone (c : Call) (s : State) : AllOrNone s (specStageRendition.body c s) := by
  simp only [specStageRendition, stageSpec]
  exact stage_allOrNone

theorem specStageDelivery_allOrNone (c : Call) (s : State) : AllOrNone s (specStageDelivery.body c s) := by
  simp only [specStageDelivery, stageSpec]
  exact stage_allOrNone

theorem specStageHead_allOrNone (c : Call) (s : State) : AllOrNone s (specStageHead.body c s) := by
  simp only [specStageHead, stageSpec]
  exact stage_allOrNone

theorem specStageGraphicLayer_allOrNone (c : Call) (s : State) : AllOrNone s (specStageGraphicLayer.body c s) := by
  simp only [specStageGraphicLayer, stageSpec]
  exact stage_allOrNone

/-- CANCEL is accepted where it withdraws some of the parts and misses others, and withdraws none where it misses all. -/
theorem specCancelCommitted_allOrNone (c : Call) (s : State) : AllOrNone s (specCancelCommitted.body c s) := by
  unfold specCancelCommitted
  dsimp only
  refine .ite (.answer _) ?_
  generalize s.parts.filter (fun p => p.seq == u32 c.block 0 && p.ring == u8 c.block 4) = mine
  split
  · exact .answer _
  · split
    · exact .answer _
    · intro hs ha
      have some_late : (mine.filter (s.stays c.arrival)).isEmpty = false := by
        refine (Bool.not_eq_true _).mp fun h => ?_
        dsimp only at hs
        rw [if_pos h] at hs
        exact absurd hs (by decide)
      have all_late : ¬ (mine.filter (s.stays c.arrival)).length < mine.length := by simpa [some_late] using ha
      exact if_pos (Nat.le_antisymm (List.length_filter_le _ _) (Nat.not_lt.mp all_late))

/-! ### Requests that look a thing up first -/

theorem specSetSrcFormat_allOrNone (c : Call) (s : State) : AllOrNone s (specSetSrcFormat.body c s) := by
  refine .ite (.answer _) (.ite (.answer _) ?_)
  split
  · exact .answer _
  · exact .ite (.answer _) (.ite (.answer _) (.ite (.answer _) (.okWith _ _)))

theorem specSetEthPort_allOrNone (c : Call) (s : State) : AllOrNone s (specSetEthPort.body c s) := by
  refine .ite (.answer _) (.ite (.answer _) (.ite (.okWith _ _) ?_))
  split
  · exact .answer _
  · exact .ite (.answer _) (.ite (.answer _) (.ite (.answer _) (.okWith _ _)))

theorem specSubmitJob_allOrNone (c : Call) (s : State) : AllOrNone s (specSubmitJob.body c s) := by
  unfold specSubmitJob
  dsimp only
  split
  · exact .answer _
  · exact .empty _

theorem specSetGauge_allOrNone (c : Call) (s : State) : AllOrNone s (specSetGauge.body c s) := by
  unfold specSetGauge
  dsimp only
  split
  · exact .answer _
  · exact .ite (.answer _) (.okWith _ _)

theorem specSubscribe_allOrNone (c : Call) (s : State) : AllOrNone s (specSubscribe.body c s) := by
  unfold specSubscribe
  dsimp only
  split
  · exact .okWith _ _
  · split
    · exact .answer _
    · exact .okWith _ _

theorem specAckThermal_allOrNone (c : Call) (s : State) : AllOrNone s (specAckThermal.body c s) := by
  unfold specAckThermal
  dsimp only
  split
  · exact .answer _
  · exact .ite (.answer _) (.okWith _ _)

theorem wake_allOrNone (s : State) : AllOrNone s s.wake := .ite (.answer _) (.ite (.answer _) (.okWith _ _))

theorem specSetMode_allOrNone (c : Call) (s : State) : AllOrNone s (specSetMode.body c s) := by
  unfold specSetMode
  dsimp only
  split
  · exact .answer _
  · exact .ite (.answer _) (.ite (wake_allOrNone s) (.ite (.answer _) (.ite (.answer _) (.okWith _ _))))

/-- OPEN starts a session, joins one, or is turned away. -/
theorem specOpenImage_allOrNone (c : Call) (s : State) : AllOrNone s (specOpenImage.body c s) := by
  refine .ite (.answer _) (.ite (.answer _) ?_)
  split
  · exact .ite (.okWith _ _) (.ite (.answer _) (.okWith _ _))
  · refine .ite (.ite (.okWith _ _) (.ite (.answer _) (.okWith _ _))) (.ite (.answer _) ?_)
    exact .ite (.okWith _ _) (.ite (.answer _) (.okWith _ _))

theorem specSetAudioPort_allOrNone (c : Call) (s : State) : AllOrNone s (specSetAudioPort.body c s) :=
  .ite (.answer _) (.ite (.answer _) (.ite (.okWith _ _) (.ite (.okWith _ _) (.okWith _ _))))

theorem specSetRefInput_allOrNone (c : Call) (s : State) : AllOrNone s (specSetRefInput.body c s) :=
  .ite (.answer _) (.ite (.okWith _ _) (.okWith _ _))

theorem specSetTimebase_allOrNone (c : Call) (s : State) : AllOrNone s (specSetTimebase.body c s) :=
  .ite (.answer _) (.ite (.okWith _ _) (.ite (.okWith _ _) (.okWith _ _)))

theorem specSetTimebasePhase_allOrNone (c : Call) (s : State) : AllOrNone s (specSetTimebasePhase.body c s) :=
  .ite (.okWith _ _) (.ite (.ite (.okWith _ _) (.answer _)) (.ite (.answer _) (.okWith _ _)))

theorem specCancelJob_allOrNone (c : Call) (s : State) : AllOrNone s (specCancelJob.body c s) :=
  .ite (.answer _) (.ite (.answer _) (.ite (.empty _) (.empty _)))

theorem specCloseImage_allOrNone (c : Call) (s : State) : AllOrNone s (specCloseImage.body c s) :=
  .ite (.answer _) (.ite (.ite (.answer _) (.ite (.answer _) (.okWith _ _))) (.ite (.answer _) (.okWith _ _)))

theorem specActivateImage_allOrNone (c : Call) (s : State) : AllOrNone s (specActivateImage.body c s) :=
  .ite (.answer _) (.ite (.answer _) (.ite (.answer _) (.ite (.answer _) (.ite (.answer _) (.ite (.answer _) (.ite (.answer _)
    (.ite (.answer _) (.ite (.answer _) (.ite (.answer _) (.okWith _ _))))))))))

/-- What a request that asks nothing gives is all or nothing, but for SET on Lane with selector 0x02 and PUT on Image. -/
theorem command_allOrNone (h : requestOf i = some (q, r)) (hq : q.verb ≠ 0x01) (hr : q.verb ≠ 0x13) (ht : ∀ r', i ≠ .setLaneTransmit r')
    (hp : ∀ r', i ≠ .putImage r') (c : Call) (s : State) : AllOrNone s (q.body c s) := by
  cases i with
  | setLaneTransmit r => exact absurd rfl (ht r)
  | putImage r => exact absurd rfl (hp r)
  | commit r => cases h; exact specCommit_allOrNone c s
  | cancelCommitted r => cases h; exact specCancelCommitted_allOrNone c s
  | setMode r => cases h; exact specSetMode_allOrNone c s
  | subscribe r => cases h; exact specSubscribe_allOrNone c s
  | take r => cases h; exact specTake_allOrNone c s
  | salvo r => cases h; exact specSalvo_allOrNone c s
  | takeAudioOut r => cases h; exact specTakeAudioOut_allOrNone c s
  | lockDst r | unlockDst r | lockAudioOut r | unlockAudioOut r => cases h; exact lockSpec_allOrNone c s
  | stageDstRoute r => cases h; exact specStageDstRoute_allOrNone c s
  | stageQueueDscpMap r => cases h; exact specStageQueueDscpMap_allOrNone c s
  | stagePlane r => cases h; exact specStagePlane_allOrNone c s
  | stageDstFormat r | stageDstDomain r | stageSrcLossAction r | stageSrcOverride r | stageAudioOutRoute r | stageAudioOutFollow r
  | stageAudioOutDomain r | stageAudioOutDelay r | stageAacProgramme r | stageSlotMask r | stageFlow r | stageQueue r
  | stageRenditionRate r | stageDecodeCtx r | stageHeadDomain r
  | stageVideoLayer r | stageLayerMatrix r | stageMeterFirst r => cases h; exact stageSpec_allOrNone c s
  | stageGateList r => cases h; exact specStageGateList_allOrNone c s
  | stageStem r => cases h; exact specStageStem_allOrNone c s
  | stageRendition r => cases h; exact specStageRendition_allOrNone c s
  | stageDelivery r => cases h; exact specStageDelivery_allOrNone c s
  | stageHead r => cases h; exact specStageHead_allOrNone c s
  | stageGraphicLayer r => cases h; exact specStageGraphicLayer_allOrNone c s
  | setSrcFormat r => cases h; exact specSetSrcFormat_allOrNone c s
  | setEthPort r => cases h; exact specSetEthPort_allOrNone c s
  | submitJob r => cases h; exact specSubmitJob_allOrNone c s
  | setGauge r => cases h; exact specSetGauge_allOrNone c s
  | ackThermal r => cases h; exact specAckThermal_allOrNone c s
  | openImage r => cases h; exact specOpenImage_allOrNone c s
  | setAudioPort r => cases h; exact specSetAudioPort_allOrNone c s
  | setRefInput r => cases h; exact specSetRefInput_allOrNone c s
  | setTimebase r => cases h; exact specSetTimebase_allOrNone c s
  | setTimebasePhase r => cases h; exact specSetTimebasePhase_allOrNone c s
  | cancelJob r => cases h; exact specCancelJob_allOrNone c s
  | closeImage r => cases h; exact specCloseImage_allOrNone c s
  | activateImage r => cases h; exact specActivateImage_allOrNone c s
  | setPlaneDiagnosis r => cases h; exact .ite (.okWith _ _) (.answer _)
  | setLaneReceive r => cases h; exact .ite (.answer _) (.ite (.answer _) (.ite (.okWith _ _) (.okWith _ _)))
  | writeLaneI2c r => cases h; exact .ite (.answer _) (.ite (.answer _) (.ite (.answer _) (.ite (.answer _) (.okWith _ _))))
  | setSrcPlayoutPost r => cases h; exact .ite (.answer _) (.ite (.answer _) (.ite (.answer _) (.ite (.answer _) (.okWith _ _))))
  | setSrcGenerator r | setDstCaptureHold r | setEthPortPtp r | setTrigger r | writeCalset r | setCalsetRecalibrate r
  | writeLayerSurface r | setGaugeFeed r => cases h; exact .ite (.answer _) (.ite (.answer _) (.ite (.answer _) (.okWith _ _)))
  | setDstProbe r | setLaneEyeScan r | setLaneI2cBind r | setLaneRateHooks r | setTimebaseAbsolute r | writeGaugeData r | setDomain r
  | lockImage r => cases h; exact .ite (.answer _) (.ite (.answer _) (.okWith _ _))
  | unsubscribe r => cases h; exact .ite (.okWith _ _) (.ite (.answer _) (.okWith _ _))
  | setLaneAsymmetry r | setLaneTestTools r | setHeadFreeze r | setGaugeValue r | setGaugeFinalise r | resetGauge r | setThermal r
  | setImage r | writeCounterSticky r => cases h; exact .ite (.answer _) (.okWith _ _)
  | setJobTrace r => cases h; exact .ite (.answer _) (.empty _)
  | resetLane r | resetEthPort r | resetDecodeCtx r => cases h; exact .empty _
  | resetDevice r | cancelStageSet r | setHeadStickyClear r | unlockImage r => cases h; exact .okWith _ _
  | queryDevice r | queryMode r | queryDomain r | queryReach r | queryReachBandwidth r | querySubscriptions r | queryEvent r | queryDst r
  | querySrc r | queryDstProbe r | querySrcAlignment r | queryDstCapture r | queryAudioIn r | queryAudioOut r | queryLane r
  | queryEthPort r | queryFlow r | queryQueue r | queryGateList r | queryPlane r | queryRefInput r | queryTimebase r | queryTrigger r
  | queryStem r | queryStemCapacity r | queryRendition r | queryRenditionRate r | queryDelivery r | queryJob r | queryJobReaches r
  | queryDecodeCtx r | queryHead r | queryLayer r | queryGauge r | queryThermal r | queryImage r => cases h; exact absurd rfl hq
  | readLaneEyeScan r | readQueueSamples r | readJobTrace r | readThermalRecords r | readCounter r | readCounterCatalogue r
  | readCalset r => cases h; exact absurd rfl hr
  | _ => cases h

/-! ### Every request -/

/-- READ on Queue with selector 0x10 always succeeds. -/
theorem specReadQueueSamples_allOrNone (c : Call) (s : State) : AllOrNone s (specReadQueueSamples.body c s) :=
  .ite (.okWith _ _) (.okWith _ _)

theorem request_allOrNone (h : requestOf i = some (q, r)) (ht : ∀ r', i ≠ .setLaneTransmit r') (hp : ∀ r', i ≠ .putImage r') (c : Call)
    (s : State) : AllOrNone s (q.body c s) := by
  by_cases hv : q.verb = 0x01 ∨ q.verb = 0x13
  · by_cases hs : ∃ r', i = .readQueueSamples r'
    · obtain ⟨r', rfl⟩ := hs
      cases h
      exact specReadQueueSamples_allOrNone c s
    · by_cases hb : ∃ r', i = .queryReachBandwidth r'
      · obtain ⟨r', rfl⟩ := hb
        cases h
        exact .okWith _ _
      · exact (query_answerOnly h hv (fun r' e => hs ⟨r', e⟩) (fun r' e => hb ⟨r', e⟩) c s).allOrNone
  · exact command_allOrNone h (fun e => hv (.inl e)) (fun e => hv (.inr e)) ht hp c s

@[simp] theorem listed_status (q : ReqSpec) (r : Request) (a : Answer) : (listed q r a).status = a.status := by
  unfold listed
  split <;> rfl

@[simp] theorem listed_accepted (q : ReqSpec) (r : Request) (a : Answer) : (listed q r a).accepted = a.accepted := by
  unfold listed
  split <;> rfl

/-- The answer to a request that passes steps 1 to 7 and fits its reply is that of its body. -/
theorem verdict_of_admitted (ha : admitted q c s = none) (hl : (listed q c.r (q.body c s).1).payload.length ≤ replyRoom c.r) :
    verdict q c s = listed q c.r (q.body c s).1 := by
  unfold verdict sized
  rw [ha]
  exact if_neg (Nat.not_lt.mpr hl)

/-- Settles O16: a request leaves the state as it was, or has the effect of its body, which is all or nothing. -/
theorem failedRequestAppliesNothing : Obligations.FailedRequestAppliesNothing := by
  intro i q r s t hi ht hp hs ha h
  rw [(exec_request hi).1] at h
  cases h
  rcases serve_silent_or q r s with e | ⟨admits, fits, e⟩
  · exact e
  · rw [verdict_of_admitted admits fits] at hs ha
    rw [e, request_allOrNone hi ht hp _ _ (by simpa using hs) (by simpa using ha), State.taking_silent]

end Sys2Proof.Machine
end
